-- ==== Sys2Proof/Word.lean ====
section
/-! DEFINITION. The word types of the module: bytes, the 64-bit register, the 144-bit word of the word code as 18
symbols (12_word_code.md R252), and the sparse map every indexed piece of state is held in. -/

namespace Sys2Proof

/-- One byte (00_scope.md, Notation). -/
abbrev Byte := BitVec 8

/-- A BAR0 register is 64 bits wide (00_scope.md, Registers). -/
abbrev Reg64 := BitVec 64

/-- A host or device address field (14_host_interface.md R301). -/
abbrev Addr64 := BitVec 64

/-- A sparse map: keys strictly rising, no entry equal to the value an unlisted key reads as. -/
abbrev Sparse (α : Type) := List (Nat × α)

end Sys2Proof
end

