-- ==== Sys2Proof/Syntax.lean ====
section
/-! DEFINITION. The commands of the module: one constructor of `Instr` per row of spec/opcode_table.json, with the
operands the model gives it (the table gives a row no bits). Indices are `Nat`; `WellFormed` states their ranges. What
reaches the block from outside (bytes a host read returned, a sensor's reading, a frame that arrived) is an operand. -/

namespace Sys2Proof

/-- How a read of host memory ended (11_memory_tiers.md R244, 14_host_interface.md R301, 12_word_code.md Table CODE-5). -/
inductive HostAnswer where
  | data (bytes : List Byte)      -- completed with data
  | error                         -- completed with an error
  | noTranslation                 -- the translation failed
  | poisoned (bytes : List Byte)  -- completed with the EP bit set
  deriving DecidableEq, Repr

/-- What a host read was for, so that its failure ends the right requests (15_tenancy.md Table TNCY-6). -/
inductive HostNeed where
  | descriptor (client : Nat)              -- a submission descriptor or its parameter block
  | admin                                  -- an admin descriptor
  | request (client req : Nat)             -- data of an admitted request
  | prefetch (part entry : Nat)            -- an entry of a partition's prefetch schedule
  deriving DecidableEq, Repr

/-- A fault message (18_health.md Table HLTH-1). -/
structure FaultMsg where
  kind : Nat
  site : Nat
  master : Nat
  addr : Nat
  access : Nat
  outcome : Nat
  time : Nat        -- low 32 bits of TIM_NOW at detection
  deriving DecidableEq, Repr

/-- A register access reaches BAR0 from one accessor: 0-63 a PCIe function (0 the PF), 64-71 management core 0-7, 72 the
board manager (20_register_index.md R430, R431). -/
structure RegWrite where
  accessor : Nat
  offset : Nat
  size : Nat
  value : Nat
  deriving DecidableEq, Repr

/-- What an access meets, and who makes it: BAR0, or BAR2 (14_host_interface.md R297, Table HOST-2). -/
inductive BarAccess where
  | bar0 (accessor : Nat)          -- a host function or a management core
  | bar2 (fn : Nat)                -- a function's doorbell pages
  deriving DecidableEq, Repr

/-- The commands of a PCIe configuration access (14_host_interface.md R294, R299). -/
inductive CfgReq where
  | read                           -- any configuration read
  | toD3hot                        -- a write that moves the function to D3hot
  | enableVfs (count : Nat)        -- a write that enables VFs 1 to count
  | disableVfs                     -- a write that disables the VFs
  | ats (enable : Bool)            -- a write of the function's ATS enable (R301)
  | resizeBar4 (log2 : Nat)        -- a write of BAR4's size, 2^log2 bytes, by Resizable BAR (R294, Table HOST-2)
  deriving DecidableEq, Repr

/-- A message of the Willith fabric: the header word of 13_optical_fabric.md Table FABR-4 less the fields the link
keeps, and its payload words. -/
structure FabMsg where
  dst : Nat
  src : Nat
  master : Nat
  act : Nat
  vc : Nat
  hops : Nat
  seq : Nat
  stream : Nat
  kind : Nat
  request : Nat
  payload : List (BitVec 128)
  poison : List Nat            -- payload words that are POISON (R279)
  deriving DecidableEq, Repr

/-- A codeword of a Willith frame (13_optical_fabric.md R268, R269): the lane it is on, whether RS(544,514) decoding succeeds at the receiver, and the
514 symbols of its message part, symbol i in bits [10 i + 9 : 10 i]. -/
structure LaneWord where
  lane : Nat
  good : Bool
  bits : Nat
  deriving DecidableEq, Repr

/-- A Willith frame: its codewords, two on each lane in use (R269, R270). -/
structure Frame where
  codewords : List LaneWord
  deriving DecidableEq, Repr

/-- A message of a region router: the fields of its header word (12_word_code.md Table CODE-4) and its payload words as they are carried. For KIND 0
ADDR is DEST of Table CLUS-8, and `body` the bits [75:20] of the header. -/
structure RouterMsg where
  src : Nat
  stream : Nat
  seq : Nat
  act : Nat
  body : Nat
  addr : Nat
  kind : Nat
  rgen : Nat
  part : Nat
  payload : List (BitVec 144)
  deriving DecidableEq, Repr

/-- A flit of a router message: whether it is the head flit, and its four words (12_word_code.md R258). -/
abbrev Flit := Bool × List (BitVec 144)

/-- A die-link frame (12_word_code.md R260): its link header word and its flits, as they arrive. -/
structure DieFrame where
  header : BitVec 144
  flits : List Flit
  deriving DecidableEq, Repr

/-- A memory request of a controller (11_memory_tiers.md R225, R226); `noise` holds the symbol errors the cells and the
bus add to the first read and to each reread: pairs of (position in the word, error value). -/
inductive MemOp where
  | read (noise : List (List (Nat × Byte)))
  | write (bytes : List Byte)            -- a whole aligned word
  | writePoison                          -- a poisoned word, data zero
  deriving DecidableEq, Repr

/-- How a flash sector read went on the medium (11_memory_tiers.md R239). -/
structure SectorTrial where
  ldpcOk : Bool                -- the first LDPC decode succeeds and the tag agrees
  retryOk : Option Nat         -- the read retry that succeeds, 1 to 8
  peersOk : Bool               -- the 31 other units of the stripe are readable
  deriving DecidableEq, Repr

/-- A signed section as read from the NOR (16_boot_config.md R338, Table BOOT-3). -/
structure SectionRead where
  magicOk : Bool               -- MAGIC reads 0x5852_5449
  typ : Nat
  signer : Nat
  svn : Nat
  serial : Nat
  digest : List Byte
  body : List Byte
  signature : List Byte
  deriving DecidableEq, Repr

/-- The content of a configuration slot: the register values of 16_boot_config.md Table BOOT-5, each named by its BAR0
offset and, in a window, its channel. -/
structure ConfigImage where
  regs : List (Nat × Nat × Nat)            -- (offset, channel, value) in load order
  opened : List (Nat × Nat × Nat)          -- (source module, first granule, granule count) of R272
  subsections : List Nat                   -- subsection types in order
  reservedZero : Bool                      -- every reserved field of the body is zero
  deriving DecidableEq, Repr

/-- The test record of the NOR (16_boot_config.md, Test record). -/
structure TestRecord where
  good : List Nat                          -- four 64-bit good masks
  map : List Nat                           -- physical cluster of each logical cluster
  guardbands : List Nat                    -- per physical cluster, in 2.5 mV
  stepCeil : List Nat
  optics : List (Nat × Nat)                -- laser bias and ring heater point of each optical lane
  seeds : List (List Byte)                 -- training seeds of each LPDDR-6 channel
  fastestBin : Nat
  deriving DecidableEq, Repr

/-- What one row of start-up found (16_boot_config.md Table BOOT-7). -/
inductive StageResult where
  | done                                                  -- the row ended; nothing it carries
  | puf (identity : SectionRead) (pub : Option (List Byte)) -- the identity record read, and the public key the PUF regenerated
  | bootHeader (ok : Bool) (seq fwActive cfgActive : Nat)
  | records (identity test owner : SectionRead) (tr : TestRecord) (ownerKey : List Byte) (ownerGen : Nat)
  | link (gen width : Nat)
  | firmware (slotA slotB : SectionRead)
  | config (slotA slotB : SectionRead) (imageA imageB : ConfigImage) (debugUnlock : Option (List Byte))
  | memTrained (failed : List (List Nat))                 -- the channels that failed twice, bin by bin from MEM_CFG.BIN
  | flashMap (ok : Bool) (trained : List Nat)             -- could the map be rebuilt; the flash channels trained
  | selfTest (failedClusters : List Nat) (bufferOk : Bool)
  | time (offset : Option Int)
  deriving DecidableEq, Repr

/-- A piece of an update image as RequestFirmwareData returns it (19_security_update.md R419). -/
structure Piece where
  component : Nat              -- 1 firmware, 2 configuration
  index : Nat
  bytes : List Byte
  deriving DecidableEq, Repr

/-- The operand of a QUANTIZE operation's element format (04_exact_arithmetic.md R88). -/
inductive MxElem where
  | e4m3 | e5m2 | e2m3 | e3m2 | e2m1 | mxint8
  deriving DecidableEq, Repr

/-- The kinds of engine that take tasks (15_tenancy.md R326). -/
inductive EngKind where
  | zest | punnet | medlar
  deriving DecidableEq, Repr

/-- A sensor reading of a Watch sample: sensor code and value (17_power.md Table POWS-10). -/
abbrev Reading := Nat × Int

/-- What wakes the module from Watch (17_power.md R364). -/
inductive WakeCause where
  | breach | doorbell | bmc | cfgReset | activation
  deriving DecidableEq, Repr

/-- Where a wake event leaves the WAKE_N pin, or what releases it (21_module_hardware.md R442). -/
inductive WakeRelease where
  | linkL0 | oneSecond
  deriving DecidableEq, Repr

/-- The element the recompute engine finished, by its position in the output tile (04_exact_arithmetic.md R76, R77). -/
structure Recomputed where
  row : Nat
  col : Nat
  deriving DecidableEq, Repr

/-- Which reset of a function (14_host_interface.md R300). -/
inductive FnReset where
  | flr | hotReset | linkDown
  deriving DecidableEq, Repr

/-- The commands. -/
inductive Instr where
  -- opcodes of Table HOST-7: each acts on an admitted request (client, request ID)
  | opTokenize (client req : Nat)
  | opDetokenize (client req : Nat)
  | opEmbed (client req : Nat)
  | opSearch (client req : Nat)
  | opRerankExact (client req : Nat)
  | opRerankModel (client req : Nat)
  | opTopk (client req : Nat)
  | opPack (client req : Nat)
  | opRetrieve (client req : Nat)
  | opGenerate (client req : Nat)
  | stepControlPause (client req : Nat)
  | stepControlResume (client req : Nat)
  | stepControlCancel (client req : Nat)
  | opTableLookup (client req : Nat)
  | opTableUpdate (client req : Nat)
  | opTableCommit (client req : Nat)
  | opIndexInsert (client req : Nat)
  | opIndexDelete (client req : Nat)
  | opIndexMerge (client req : Nat)
  | opAdapterLoad (client req : Nat)
  | opAdapterRetire (client req : Nat)
  | opObjectPlace (client req : Nat)
  | opObjectLoad (client req : Nat)
  | opAccountRead (client req : Nat)
  | opDigestRead (client req : Nat)
  | setCap (client req : Nat)
  | clearCap (client req : Nat)
  | enterWatch (client req : Nat)
  -- the admin ring, doorbells, admission and completion
  | admRingCreate (desc : List Byte)
  | admRingDelete (desc : List Byte)
  | sqTail (fn client value : Nat)
  | cqHead (fn client value : Nat)
  | descriptorFetch (client : Nat)
  | descriptorAdmit (client : Nat)
  | completionPost (client : Nat)
  | irqModerationTimeout (client : Nat)
  | functionLevelReset (fn : Nat) (how : FnReset)
  | functionD0Return (fn : Nat)
  | bar4Read (offset n : Nat)
  | bar4Write (offset : Nat) (bytes : List Byte) (ep : Bool)
  -- register accesses that have an effect of their own
  | bar0InvalidAccess (bar : BarAccess) (offset size : Nat) (isWrite : Bool)
  | registerWrite (w : RegWrite)
  | hstAdmCfgWrite (accessor value : Nat)
  | hstAdmDbWrite (accessor value : Nat)
  | mbxSendTagWrite (accessor tag : Nat)
  | mbxSenderRoom (chan ptr tag : Nat)
  | mbxPop (accessor : Nat)
  | mbxFlush (accessor : Nat)
  | cfgResetModule (accessor : Nat)
  | heartbeatRefresh (accessor : Nat)
  | watchdogKick (accessor bits : Nat)
  | firstErrorClear (accessor : Nat)
  | pwrModeNap (accessor domain : Nat)
  | pwrModeRun (accessor domain : Nat)
  | pwrModeWatch (accessor : Nat)
  | updActivateAtWrite (accessor value : Nat)
  | accRec0Read (accessor : Nat)
  | accClientselWrite (accessor client : Nat)
  -- the board manager
  | bmcWakeCommand
  | bmcWatchCommand
  | bmcResetCommand
  | bmcCap (watts : Nat)
  | locateCommand (on : Bool)
  | i3cDynamicAddress (addr : Nat)
  -- instructions of a cluster's sequencer (05_cluster_programs.md Table CLUS-2)
  | setstep (cl addr : Nat)
  | setpair (cl addr : Nat)
  | wload (cl wAddr arrays : Nat) (wb : Bool)
  | mma (cl aAddr pair : Nat) (wb last first : Bool)
  | lmv (cl aAddr pair blocks winAddr : Nat) (last first : Bool)
  | pacc (cl srcAddr pair : Nat)
  | vop (cl descAddr : Nat)
  | topk (cl descAddr : Nat)
  | quantize (cl descAddr : Nat) (elem : MxElem)
  | stream (cl descAddr engine : Nat)
  | waitt (cl counter n : Nat)
  | send (cl srcAddr len port : Nat)
  | recv (cl dstAddr port : Nat)
  | loop (cl count body : Nat)
  | nop (cl cycles : Nat)
  | page (cl descAddr engine : Nat)
  | jpage (cl : Nat)
  | stepEnd (cl : Nat)
  | stepBegin (cl : Nat)
  | wait (cl : Nat)
  | syncPointRelease (cl waited : Nat)
  | transferComplete (cl engine : Nat)
  | recomputeDone (cl cycles : Nat) (elems : List Recomputed)
  | portTokenArrival (cl port : Nat)
  | creditReturn (cl port n : Nat)
  | rowEventMessage (cl : Nat)
  | arbiterGrant (arb : Nat) (pend : List (Nat × Nat))
  | routerFlit (region inPort : Nat) (flit : Flit)
  | dieLinkFrame (link : Nat) (frame : DieFrame)
  -- steps, passes and generation
  | stepComplete (part lengthNs energy signature : Nat) (last : Bool)
  | passForm (part : Nat)
  | beginMessageRelease (part stepTag : Nat)
  | prefetchEntryDone (part entry : Nat) (failed : List Nat)
  | expertRouting (part model layer : Nat) (scores : List (List (BitVec 32))) (perRow counter : Nat)
  | genAdmission (part cls : Nat)
  | pipSample (part lane : Nat) (poisoned : Bool)
  | poolRestoreDone (pool block : Nat)
  | medlarProbeReturn (engine : Nat) (bad : List (Nat × Nat))
  | engineTaskDispatch (kind : EngKind) (part : Nat)
  | retrieveStageAdvance (client req : Nat)
  -- search
  | walkStart (die : Nat)
  | walkEnd (walk : Nat)
  | sideSweepPass (walker : Nat)
  | shardResultAssemble (client req slot : Nat)
  | indexPublish (slot : Nat)
  | mergeBuildDone (slot : Nat)
  | mergeCommit (slot : Nat)
  | indexPinDrain (slot : Nat)
  -- tables
  | gatherSubbag (unit : Nat)
  | bagMerge (client req bag : Nat)
  | tableCommitRequantize (table : Nat)
  | tableFlip (table : Nat)
  | splitCommitAck (table holder : Nat)
  | tableFlipAtTf (table : Nat)
  | tablePinDrain (table epoch : Nat)
  | keepMsExpire (table epoch : Nat)
  | migrationCopyDone (table row : Nat)
  | objectLoadComplete (object : Nat)
  | adapterLoadComplete (part adapter version : Nat)
  -- memory
  | memoryAccess (word requester : Nat) (op : MemOp)
  | correctionWriteback (word : Nat)
  | patrolRead (word : Nat) (noise : List (Nat × Byte))
  | refresh (chan bank temp : Nat) (busy : Bool)
  | refreshManagement (chan : Nat)
  | readTrackingUpdate (chan : Nat) (moves : List (Nat × Int))
  | subchannelRetrain (chan sc : Nat) (ok1 ok2 : Bool)
  | detectWindowExpire (chan sc : Nat)
  | channelPowerDown (chan : Nat)
  -- flash
  | flashSectorRead (lsn part : Nat) (trial : SectorTrial)
  | flashWriteAck (core : Nat)
  | stripeParityWrite (stripe : Nat) (flush : Bool)
  | wearRelocate (die : Nat)
  | readDisturbScan (block : Nat) (worstPct : Nat)
  | flashDieRebuild (die : Nat)
  | flashPeriodicTraining
  | mapEntryRebuild (unit : Nat)
  -- fabric
  | fabricFrameReceive (port : Nat) (frame : Frame)
  | replayTimeout (port : Nat)
  | transitMessage (msg : FabMsg)
  | write (msg : FabMsg)
  | readReq (msg : FabMsg)
  | readRsp (msg : FabMsg)
  | contrib (msg : FabMsg)
  | result (msg : FabMsg)
  | error (msg : FabMsg)
  | unreach (msg : FabMsg)
  | freq (msg : FabMsg)
  | time (port t1 t2 t3 t4 : Nat)
  | queryFanout (msg : FabMsg)
  | splitTableForward (msg : FabMsg)
  | census (src serial : Nat)
  | censusAnswer (serial : Nat)
  | usageReport (msg : FabMsg)
  | censusSend
  | censusAnswerTimeout
  | censusForget (moduleId : Nat)
  | seqGapTimeout (src master stream : Nat)
  | collectiveTimeout (req participant : Nat)
  | freqPeriod
  | freqLeadDecide
  | freqEffect
  | timeExchange
  | ptmUpdate (hostNow : Nat)
  | handoverStart (port lane : Nat)
  | hoLock (port lane : Nat)
  | handoverTimeout (port lane : Nat)
  | laneTrackingStep (port lane : Nat) (bias ringTx ringRx : Int) (symErr : Nat)
  | portTraining (port : Nat) (lockedLanes : Nat) (hello : BitVec 128) (credits : List Nat)
  | portTrainRetry (port : Nat)
  | portLossOfLock (port : Nat)
  -- power
  | islandIdle (domain : Nat)
  | islandWake (domain : Nat)
  | regionNapEntry (region : Nat)
  | napReturnComplete (domain : Nat)
  | watchEntry
  | watchSample (readings : List Reading)
  | watchHeartbeat
  | watchWake (causes : List WakeCause) (linkInL0 : Bool)
  | watchReturnComplete (failedClusters : List Nat)
  | regionEstimate (region : Nat) (own : List (Nat × Nat)) (shared : List (Nat × Nat × Nat)) (temp : Int)
  | governorTick (measured : Nat) (temps : List Int) (hubTemp : Int)
  | freqStepChange (cl : Nat)
  | overPowerSignal
  | holdEnd
  | thermThrottle (hottest : Int)
  | thermHold (hottest : Int)
  | thermTrip (hottest : Int)
  -- faults, checking, test, ageing
  | faultMessage (m : FaultMsg)
  | clusterRetirementReset (cl : Nat)
  | faultIrqCoalesce
  | pulseToggle
  | heartbeatLate
  | wdogCore (core : Nat)
  | watchdogSecondStage (core : Nat)
  | checkCompare (part : Nat)
  | checkVoteDone (part pair : Nat) (voter : BitVec 64)
  | windfallSlice (cluster : Nat) (trials : List (Nat × Nat))
  | marginPlan (cluster : Nat) (vMins : List Nat) (osc : Int)
  | ringOscReading (cluster : Nat) (drift : Int)
  -- resets and start-up
  | partitionReset (part cause : Nat)
  | partitionResetDone (part : Nat)
  | pwrGoodRise
  | perstNAssert
  | perstNRelease
  | moduleReset (cause : Nat)
  | startupStageDone (r : StageResult)
  | startupFailure (reason : Nat)
  | startupTimeout
  | startupTimeWaitExpire
  | inputPowerLoss
  | railFault
  -- attestation and update
  | getVersion
  | getCapabilities
  | negotiateAlgorithms (asym hash : Nat)
  | getDigests (slot : Nat)
  | getCertificate (slot offset length : Nat) (certKey : List Byte)
  | challenge (slot : Nat) (nonce : List Byte)
  | getMeasurements (index : Nat) (nonce : List Byte)
  | keyExchange (session : Nat) (dhe : List Byte)
  | finish (session : Nat)
  | endSession (session : Nat)
  | queryDeviceIdentifiers
  | getFirmwareParameters
  | requestUpdate (component : Nat) (digest : List Byte)
  | passComponentTable (component svn : Nat)
  | updateComponent (component svn : Nat)
  | firmwareDataPiece (p : Piece)
  | activateFirmware
  | getStatus
  | cancelUpdateComponent
  | cancelUpdate
  | batchCloseTimeout
  | batchSigned
  | activationCheck
  | activationStart
  | activationDrainEnd (norOk : Bool)
  -- the rest of the table
  | lightReturn (port : Nat)
  | laneLockHeld (port lane : Nat)
  | engineTaskDone (kind : EngKind) (engine : Nat)
  | windfallSliceEnd (cluster : Nat)
  | configurationRequest (fn : Nat) (req : CfgReq)
  | hostReadCompletion (fn addr len : Nat) (need : HostNeed) (answer : HostAnswer)
  | wakeNRelease (why : WakeRelease)
  deriving DecidableEq, Repr

end Sys2Proof
end

