-- ==== Sys2Proof/Decode.lean ====
section
/-! DEFINITION. Decoding. The module takes commands and has no encoding of them: spec/opcode_table.json gives no row any bits. -/

namespace Sys2Proof

/-- The command a word spells by the table's bits: none, as the table gives no row bits. -/
def decodeTableWord (_nbits _w : Nat) : Option Instr := none

end Sys2Proof
end

