-- ==== Sys2Proof/Config.lean ====
section
/-! DEFINITION. What the spec leaves to an implementation or gives no value for: opaque constants, of which no proof can see a
value. Each is a function of exactly the quantities the spec says the value depends on (log entries 5 to 7). -/

namespace Sys2Proof

/-- The functions of the vector unit (04_exact_arithmetic.md Table ARIT-8). -/
inductive VecFn where
  | exp2 | exp | log2 | log | reciprocal | rsqrt | tanh | sigmoid | erf | sin | cos
  deriving DecidableEq, Repr, Inhabited

/-- The operations of the vector unit that the spec names (04_exact_arithmetic.md R84 to R88). The spec numbers only TOPK. -/
inductive VecOp where
  | add | sub | mul | fma | sqrt | convert | toInt32 | ofInt32 | cmpLt | cmpLe | cmpEq | cmpNe | min | max
  | function
  | sum | reduceMax | reduceMin
  deriving DecidableEq, Repr, Inhabited

namespace Config

/-- The numbering of the vector operations other than TOPK, which the spec does not give (05_cluster_programs.md R100). -/
opaque vecOp : Nat → VecOp

/-- The function codes of the vector descriptor, which the spec does not number. -/
opaque vecFn : Nat → VecFn

/-- The functions of Table ARIT-8, FP32 in and out: "the same bits for the same input everywhere" (R87). -/
opaque vecFunction : VecFn → BitVec 32 → BitVec 32

/-- The code of a conversion that has no stated result: destination format (16 for a 32-bit integer) and FP32 value (R84, R91). -/
opaque convFree : Nat → BitVec 32 → Nat

/-- The FP32 code in which a comparison of the vector unit answers false and true; the spec gives none. -/
opaque cmpResult : Bool → BitVec 32

/-- Element `i` of the INT8 vector of an encoder: weight-set digest, partition's cluster count, text tokens (R91, R12). -/
opaque embedVec : List Byte → Nat → List Nat → Nat → Byte

/-- Byte `i` of the encoder's sketch. -/
opaque embedSketch : List Byte → Nat → List Nat → Nat → Byte

/-- A cross-encoder's FP32 score of a pair of question and passage tokens (07_rerank_topk.md R149). -/
opaque crossScore : List Byte → Nat → List Nat → BitVec 32

/-- The FP32 logit of a token after a token history: weight-set digest, adapter digest, cluster count, state format, tokens
(10_generation.md R198, R199). -/
opaque logit : List Byte → List Byte → Nat → Nat → List Nat → Nat → BitVec 32

/-- The efficiency of the arrays in thousandths, by partition and number of fits so far, that the step-time estimate uses (R200: "refitted every 64
steps"; the fit is not given). -/
opaque fitEta : Nat → Nat → Nat

/-- The sustained LPDDR-6 rate of a partition's regions in bytes per µs, fitted in the same way. -/
opaque fitRate : Nat → Nat → Nat

/-- The stream descriptors that the hub writes into a check slot's record: program digest, step of the program, pair, and 0 activation or 1
weight; the pair 2^32 stands for an unused slot (18_health.md R394 does not say where the hub finds them). -/
opaque checkStream : List Byte → Nat → Nat → Nat → Nat

/-- What a merge build makes of a shard (06_sketch_search.md R128), a function of the shard's EPOCH_DIGEST at the snapshot and of RECLAIM: the
neighbour that entry `i` of a node's list names, by section, node and entry. -/
opaque mergeNeighbour : List Byte → Bool → Nat → Nat → Nat → Nat

/-- The entry points that a merge build gives a section. -/
opaque mergeEntries : List Byte → Bool → Nat → List Nat

/-- K_PUF, the root secret that the PUF regenerates (R408). -/
opaque rootSecret : List Byte

/-- The 256 bytes of LDPC parity over bytes 0 to 4,111 of a sector (Table MEMT-7 does not give the code). -/
opaque ldpc : List Byte → List Byte

/-- V_base of a physical cluster at a frequency step, in mV: a value of its test record (17_power.md R371). -/
opaque vBase : Nat → Nat → Nat

/-- Event energy of a unit class at the reference voltage, in fJ, and the reference voltage in mV (R368). -/
opaque eventEnergy : Nat → Nat

/-- The reference voltage V_0 of R368, in mV. -/
opaque vRef : Nat

/-- Supply of a region island 0 to 31, or of the hub (32), in mV: V_u of its units (R368). -/
opaque supply : Nat → Nat

/-- Busy time of the flash cores, in ns, of sectors that a client's work reads (`write` false) or writes (15_tenancy.md R328). -/
opaque flashBusy (write : Bool) (sectors : Nat) : Nat

/-- Leakage of a unit class at a voltage in mV and a temperature in °C, in µW (R368). -/
opaque leakage : Nat → Nat → Int → Nat

/-- Power per cluster, in mW, that the governor predicts for a partition of which it has observed no step (R369). -/
opaque firstPower : Nat → Nat → Nat

/-- The management core that runs a partition's scheduler, among the live cores (18_health.md R391 gives no assignment). -/
opaque schedCore : List Nat → Nat → Nat

/-- The vendor's Falcon-1024 public key, held in the boot ROM (16_boot_config.md R338). -/
opaque vendorKey : List Byte

/-- SHAKE256-384 of the boot ROM (19_security_update.md Table SECU-3). -/
opaque romDigest : List Byte

/-- Certificate slot 0: the vendor root and the module certificate, at area offset 0x4000 of the identity area (R411). -/
opaque certChain : List Byte

/-- Does a Falcon-1024 signature verify: public key, message, signature (R338)? -/
opaque falconVerify : List Byte → List Byte → List Byte → Bool

/-- A Falcon-1024 signature, padded form, by the private half of a public key; signatures are randomised, so the last argument
numbers the draw (R416). -/
opaque falconSign : List Byte → List Byte → Nat → List Byte

/-- The module's half of a secp384r1 exchange in a session, from the requester's half (R410). -/
opaque dheShare : Nat → List Byte → List Byte

/-- A free value: what the spec leaves undefined, drawn by number (log entry 5). -/
opaque freeValue : Nat → Nat → Nat

end Config

end Sys2Proof
end

