-- ==== Sys2Proof/Machine/Sparse.lean ====
section
/-! DEFINITION. Sparse maps in canonical form (keys strictly rising, no entry equal to the default), association lists, and
little-endian byte strings (00_scope.md R6). Every indexed piece of state is read and written through these. -/

namespace Sys2Proof.Machine

/-- The value at key `i`; an unlisted key reads as `d`. -/
def sget {α : Type} (d : α) (m : Sparse α) (i : Nat) : α :=
  match m with
  | [] => d
  | (k, v) :: r => if i = k then v else if i < k then d else sget d r i

/-- Writes `v` at key `i`, keeping the canonical form: the default removes the entry. -/
def sset {α : Type} [DecidableEq α] (d : α) (m : Sparse α) (i : Nat) (v : α) : Sparse α :=
  match m with
  | [] => if v = d then [] else [(i, v)]
  | (k, w) :: r =>
    if i < k then (if v = d then (k, w) :: r else (i, v) :: (k, w) :: r)
    else if i = k then (if v = d then r else (i, v) :: r)
    else (k, w) :: sset d r i v

/-- The canonical form: keys strictly rising and no entry equal to the default. -/
def swf {α : Type} [DecidableEq α] (d : α) (m : Sparse α) : Bool :=
  match m with
  | [] => true
  | [(_, v)] => decide (v ≠ d)
  | (k, v) :: (k', v') :: r => decide (v ≠ d) && decide (k < k') && swf d ((k', v') :: r)

/-- Writes consecutive keys from `i`. -/
def ssetList {α : Type} [DecidableEq α] (d : α) (m : Sparse α) (i : Nat) (vs : List α) : Sparse α :=
  match vs with
  | [] => m
  | v :: r => ssetList d (sset d m i v) (i + 1) r

/-- Reads `n` consecutive keys from `i`. -/
def sgetList {α : Type} (d : α) (m : Sparse α) (i n : Nat) : List α :=
  (List.range n).map fun j => sget d m (i + j)

/-- Drops every entry whose key satisfies `p`: those keys read as the default again. -/
def sclear {α : Type} (p : Nat → Bool) (m : Sparse α) : Sparse α := m.filter fun e => !p e.1

/-- The record under key `k` of an association list, if one is there. -/
def aget {α : Type} (m : Sparse α) (k : Nat) : Option α :=
  match m with
  | [] => none
  | (k', v) :: r => if k = k' then some v else if k < k' then none else aget r k

/-- Puts a record under key `k`, keys strictly rising. -/
def aput {α : Type} (m : Sparse α) (k : Nat) (v : α) : Sparse α :=
  match m with
  | [] => [(k, v)]
  | (k', w) :: r =>
    if k < k' then (k, v) :: (k', w) :: r else if k = k' then (k, v) :: r else (k', w) :: aput r k v

/-- Takes the record under key `k` away. -/
def adel {α : Type} (m : Sparse α) (k : Nat) : Sparse α := m.filter fun e => e.1 ≠ k

/-- Changes the record under key `k`, where one is there. -/
def amod {α : Type} (m : Sparse α) (k : Nat) (f : α → α) : Sparse α :=
  m.map fun e => if e.1 = k then (e.1, f e.2) else e

/-- The first element that satisfies `p` is changed by `f`. -/
def modFirst {α : Type} (p : α → Bool) (f : α → α) (l : List α) : List α :=
  match l with
  | [] => []
  | x :: r => if p x then f x :: r else x :: modFirst p f r

/-- The first element that satisfies `p` is taken out. -/
def dropFirst {α : Type} (p : α → Bool) (l : List α) : List α :=
  match l with
  | [] => []
  | x :: r => if p x then r else x :: dropFirst p r

/-- The little-endian number of a byte string (R6). -/
def leNat (bs : List Byte) : Nat :=
  match bs with
  | [] => 0
  | b :: r => b.toNat + 256 * leNat r

/-- The `n` little-endian bytes of a number (R6). -/
def leBytes (n v : Nat) : List Byte :=
  match n with
  | 0 => []
  | n + 1 => BitVec.ofNat 8 v :: leBytes n (v / 256)

/-- `n` bytes from offset `o`; bytes beyond the end read as zero. -/
def slice (bs : List Byte) (o n : Nat) : List Byte :=
  let t := (bs.drop o).take n
  t ++ List.replicate (n - t.length) 0

/-- The little-endian field of `n` bytes at offset `o`. -/
def fieldLe (bs : List Byte) (o n : Nat) : Nat := leNat (slice bs o n)

/-- Bits [h:l] of a number (R6). -/
def bitsOf (v h l : Nat) : Nat := (v >>> l) % 2 ^ (h + 1 - l)

/-- Bit `i` of a number. -/
def bitOf (v i : Nat) : Bool := (v >>> i) % 2 = 1

/-- One where the condition holds, else zero. -/
def b2n (b : Bool) : Nat := if b then 1 else 0

/-- `a` divided by `b`, rounded up. -/
def ceilDiv (a b : Nat) : Nat := (a + b - 1) / b

/-- `a` rounded up to a multiple of `b`. -/
def roundUp (a b : Nat) : Nat := ceilDiv a b * b

/-- Saturating increment of a counter of `w` bits by `n`. -/
def satAdd (w v n : Nat) : Nat := Nat.min (v + n) (2 ^ w - 1)

/-- The bytes, padded with zeros at the end to `n`. -/
def padTo (n : Nat) (bs : List Byte) : List Byte := bs ++ List.replicate (n - bs.length) 0

/-- Splits a list into runs of `n`, the last one possibly short; `fuel` bounds the number of runs. -/
def chunksFuel {α : Type} (fuel n : Nat) (l : List α) : List (List α) :=
  match fuel with
  | 0 => []
  | f + 1 => match l with
    | [] => []
    | _ :: _ => l.take n :: chunksFuel f n (l.drop n)

/-- Splits a list into runs of `n`. -/
def chunks {α : Type} (n : Nat) (l : List α) : List (List α) := chunksFuel l.length n l

/-- The least element by key, the earliest of equals. -/
def minBy {α : Type} (key : α → Nat) (l : List α) : Option α :=
  match l with
  | [] => none
  | x :: r => match minBy key r with
    | none => some x
    | some y => if key x ≤ key y then some x else some y

/-- Stable insertion sort by a relation `before`. -/
def insertBy {α : Type} (before : α → α → Bool) (x : α) (l : List α) : List α :=
  match l with
  | [] => [x]
  | y :: r => if before y x then y :: insertBy before x r else x :: y :: r

/-- The list in order of `before` (a strict order). -/
def sortBy {α : Type} (before : α → α → Bool) (l : List α) : List α :=
  match l with
  | [] => []
  | x :: r => insertBy before x (sortBy before r)

end Sys2Proof.Machine
end

