-- ==== Sys2Proof/Machine/Shake.lean ====
section
/-! DEFINITION. SHAKE256 of FIPS 202 and CRC-32C, which the manual names and does not define (PRESUMED standards, log entry 33). -/

namespace Sys2Proof.Machine

/-- The rotation offsets of ρ, lane x + 5y. -/
def keccakRho : List Nat :=
  [0, 1, 62, 28, 27, 36, 44, 6, 55, 20, 3, 10, 43, 25, 39, 41, 45, 15, 21, 8, 18, 2, 61, 56, 14]

/-- The round constants of ι. -/
def keccakIota : List (BitVec 64) :=
  [0x0000000000000001#64, 0x0000000000008082#64, 0x800000000000808A#64, 0x8000000080008000#64, 0x000000000000808B#64,
   0x0000000080000001#64, 0x8000000080008081#64, 0x8000000000008009#64, 0x000000000000008A#64, 0x0000000000000088#64,
   0x0000000080008009#64, 0x000000008000000A#64, 0x000000008000808B#64, 0x800000000000008B#64, 0x8000000000008089#64,
   0x8000000000008003#64, 0x8000000000008002#64, 0x8000000000000080#64, 0x000000000000800A#64, 0x800000008000000A#64,
   0x8000000080008081#64, 0x8000000000008080#64, 0x0000000080000001#64, 0x8000000080008008#64]

/-- Lane x + 5y of a state of 25 lanes. -/
def laneAt (a : List (BitVec 64)) (x y : Nat) : BitVec 64 := a.getD (x % 5 + 5 * (y % 5)) 0

/-- One round of Keccak-f[1600]. -/
def keccakRound (a : List (BitVec 64)) (rc : BitVec 64) : List (BitVec 64) :=
  let c := (List.range 5).map fun x => laneAt a x 0 ^^^ laneAt a x 1 ^^^ laneAt a x 2 ^^^ laneAt a x 3 ^^^ laneAt a x 4
  let d := (List.range 5).map fun x => c.getD ((x + 4) % 5) 0 ^^^ (c.getD ((x + 1) % 5) 0).rotateLeft 1
  let t := (List.range 25).map fun i => a.getD i 0 ^^^ d.getD (i % 5) 0
  let r := (List.range 25).map fun i => (t.getD i 0).rotateLeft (keccakRho.getD i 0)
  let b := (List.range 25).map fun i => laneAt r (i % 5 + 3 * (i / 5)) (i % 5)
  (List.range 25).map fun i =>
    let v := laneAt b (i % 5) (i / 5) ^^^ (~~~ laneAt b (i % 5 + 1) (i / 5) &&& laneAt b (i % 5 + 2) (i / 5))
    if i = 0 then v ^^^ rc else v

/-- Keccak-f[1600]. -/
def keccakF (a : List (BitVec 64)) : List (BitVec 64) := keccakIota.foldl keccakRound a

/-- Bytes as lanes. -/
def toLanes (bs : List Byte) : List (BitVec 64) := (chunks 8 bs).map fun c => BitVec.ofNat 64 (leNat c)

/-- Absorbs one block of 136 bytes. -/
def absorbBlock (a : List (BitVec 64)) (block : List Byte) : List (BitVec 64) :=
  let l := toLanes block
  keccakF ((List.range 25).map fun i => a.getD i 0 ^^^ l.getD i 0)

/-- The padded message of SHAKE256: 0x1F, zeros, and the last bit of the block. -/
def shakePad (bs : List Byte) : List Byte :=
  let n := 136 - bs.length % 136
  if n = 1 then bs ++ [0x9F#8] else bs ++ [0x1F#8] ++ List.replicate (n - 2) 0#8 ++ [0x80#8]

/-- Squeezes `fuel` blocks. -/
def squeeze (fuel : Nat) (a : List (BitVec 64)) : List Byte :=
  match fuel with
  | 0 => []
  | f + 1 => ((a.take 17).flatMap fun l => leBytes 8 l.toNat) ++ squeeze f (keccakF a)

/-- The first `n` bytes of SHAKE256. -/
def shake256 (n : Nat) (bs : List Byte) : List Byte :=
  (squeeze (n / 136 + 1) ((chunks 136 (shakePad bs)).foldl absorbBlock (List.replicate 25 0))).take n

/-- SHAKE256 with 256-bit output. -/
def digest256 (bs : List Byte) : List Byte := shake256 32 bs

/-- One byte of CRC-32C, reflected polynomial 0x82F63B78. -/
def crcByte (c : BitVec 32) (b : Byte) : BitVec 32 :=
  (List.range 8).foldl (fun c _ => if c.getLsbD 0 then (c >>> 1) ^^^ 0x82F63B78#32 else c >>> 1) (c ^^^ (b.setWidth 32))

/-- CRC-32C. -/
def crc32c (bs : List Byte) : Nat := ((bs.foldl crcByte 0xFFFFFFFF#32) ^^^ 0xFFFFFFFF#32).toNat

end Sys2Proof.Machine
end

