-- ==== Sys2Proof/Machine/Cipher.lean ====
section
/-! DEFINITION. AES-256 in XTS mode (11_memory_tiers.md R240), which the manual names and does not define (PRESUMED standards FIPS 197 and IEEE 1619, log
entry 33), and the flash keys of a partition (19_security_update.md Table SECU-1). -/

namespace Sys2Proof.Machine

/-- Multiplication by x in the field of AES, polynomial 0x11B. -/
def aesX (a : Byte) : Byte := if a.toNat < 128 then a <<< 1 else (a <<< 1) ^^^ 0x1B#8

/-- The product in the field of AES. -/
def aesMul (a b : Byte) : Byte := (List.range 8).foldr (fun i acc => if b.getLsbD i then aesX acc ^^^ a else aesX acc) 0

/-- The inverse, a^254: the product of a^2, a^4, …, a^128. -/
def aesInv (a : Byte) : Byte :=
  ((List.range 7).foldl (fun (x : Byte × Byte) _ => let q := aesMul x.1 x.1; (q, aesMul x.2 q)) (a, 1#8)).2

/-- The S-box. -/
def aesSub (a : Byte) : Byte :=
  let i := aesInv a
  i ^^^ i.rotateLeft 1 ^^^ i.rotateLeft 2 ^^^ i.rotateLeft 3 ^^^ i.rotateLeft 4 ^^^ 0x63#8

/-- Byte-wise XOR. -/
def xorBytes (a b : List Byte) : List Byte := List.zipWith (fun x y => x ^^^ y) a b

/-- The 60 words of the key schedule of a 32-byte key. -/
def aesWords (key : List Byte) : List (List Byte) :=
  (List.range 52).foldl (fun ws j =>
    let i := j + 8
    let t := ws.getD (i - 1) []
    let t := if i % 8 = 0 then xorBytes ((t.drop 1 ++ t.take 1).map aesSub) [(List.range (i / 8 - 1)).foldl (fun r _ => aesX r) 1#8, 0, 0, 0]
      else if i % 8 = 4 then t.map aesSub else t
    ws ++ [xorBytes (ws.getD (i - 8) []) t]) (chunks 4 key)

/-- SubBytes and ShiftRows: byte i of a block is row i mod 4 of column i / 4. -/
def aesSubShift (b : List Byte) : List Byte :=
  (List.range 16).map fun i => aesSub (b.getD (i % 4 + 4 * ((i / 4 + i % 4) % 4)) 0)

/-- MixColumns. -/
def aesMix (b : List Byte) : List Byte :=
  (List.range 16).map fun i =>
    let a (k : Nat) : Byte := b.getD (4 * (i / 4) + (i % 4 + k) % 4) 0
    aesX (a 0) ^^^ aesX (a 1) ^^^ a 1 ^^^ a 2 ^^^ a 3

/-- AES-256 of a block under a key schedule. -/
def aesBlock (ws : List (List Byte)) (b : List Byte) : List Byte :=
  let rk (r : Nat) : List Byte := ((ws.drop (4 * r)).take 4).flatten
  let x := (List.range 13).foldl (fun x r => xorBytes (aesMix (aesSubShift x)) (rk (r + 1))) (xorBytes b (rk 0))
  xorBytes (aesSubShift x) (rk 14)

/-- The tweak of the next block: times α, little-endian. -/
def xtsNext (t : Nat) : Nat := (2 * t % 2 ^ 128) ^^^ (if t < 2 ^ 127 then 0 else 0x87)

/-- AES-256-XTS of whole blocks: data key, tweak key, tweak number. -/
def aesXts (data tweak : List Byte) (n : Nat) (bs : List Byte) : List Byte :=
  let ws := aesWords data
  ((chunks 16 bs).foldl (fun (x : List Byte × Nat) b =>
    (x.1 ++ xorBytes (aesBlock ws (xorBytes b (leBytes 16 x.2))) (leBytes 16 x.2), xtsNext x.2))
    ([], leNat (aesBlock (aesWords tweak) (leBytes 16 n)))).1

/-- The flash keys of a partition under an owner generation: 32 bytes of data key, then 32 of tweak key (Table SECU-1). -/
def flashKeys (p owner : Nat) : List Byte := shake256 64 (Config.rootSecret ++ [0x58#8, 0x54#8, 0x53#8] ++ leBytes 2 p ++ leBytes 4 owner)

/-- A sector's ciphertext (R240). -/
def flashCipher (p owner lsn : Nat) (data : List Byte) : List Byte :=
  let k := flashKeys p owner
  aesXts (k.take 32) (k.drop 32) lsn data

end Sys2Proof.Machine
end

