-- ==== Sys2Proof/Machine/Regs.lean ====
section
/-! DEFINITION. The register map of BAR0 (20_register_index.md Table MAPS-3, R435) and the fields of its registers with
their access codes, as the register tables of the chapters give them (00_scope.md R8). Every reset value of those tables is
0 or img, and an img field reads as zero until the image has loaded (R9): a register that nothing has written is 0. -/

namespace Sys2Proof.Machine

/-- How the instances of a register are laid out (R10, R431, R435): at consecutive 8-byte offsets; in a window behind a
select register, one per channel; once per accessor (a select register); or once per accessor and channel (the pointer of
the next notice, Table HOST-20). -/
inductive RegKind where
  | array | window | select | sender
  deriving DecidableEq, Repr

/-- The access codes of Table SCOP-6. -/
inductive Access where
  | ro | rw | w1c | w1s | wo | rwl
  deriving DecidableEq, Repr

/-- A field: the offset of its register's first instance, the layout of the instances, and its bits [hi:lo]. -/
structure Fld where
  off : Nat
  kind : RegKind
  hi : Nat
  lo : Nat
  deriving DecidableEq, Repr

/-- One row of the register map: first offset, number of instances at consecutive offsets, layout, and its fields. -/
structure RegRow where
  off : Nat
  count : Nat
  kind : RegKind
  fields : List (Nat × Nat × Access)
  deriving DecidableEq, Repr

namespace R

/-- HST_ID_SERIAL.SERIAL -/ def hstIdSerialSerial : Fld := ⟨0x0, .array, 63, 0⟩
/-- HST_ID_INFO.START_COUNT -/ def hstIdInfoStartCount : Fld := ⟨0x8, .array, 63, 32⟩
/-- HST_ID_INFO.STEPPING -/ def hstIdInfoStepping : Fld := ⟨0x8, .array, 23, 16⟩
/-- HST_ID_INFO.TEST_BIN -/ def hstIdInfoTestBin : Fld := ⟨0x8, .array, 10, 8⟩
/-- HST_ID_INFO.GRADE -/ def hstIdInfoGrade : Fld := ⟨0x8, .array, 0, 0⟩
/-- HST_STAT.STATE -/ def hstStatState : Fld := ⟨0x1000, .array, 63, 60⟩
/-- HST_STAT.FAIL_REASON -/ def hstStatFailReason : Fld := ⟨0x1000, .array, 59, 52⟩
/-- HST_STAT.GEN -/ def hstStatGen : Fld := ⟨0x1000, .array, 51, 48⟩
/-- HST_STAT.WIDTH -/ def hstStatWidth : Fld := ⟨0x1000, .array, 47, 44⟩
/-- HST_ERRCNT.BAD_ACCESS -/ def hstErrcntBadAccess : Fld := ⟨0x1008, .array, 63, 32⟩
/-- HST_ERRCNT.BAD_DOORBELL -/ def hstErrcntBadDoorbell : Fld := ⟨0x1008, .array, 31, 0⟩
/-- HST_WIN.BASE -/ def hstWinBase : Fld := ⟨0x1010, .array, 47, 26⟩
/-- HST_WINPART.MASK -/ def hstWinpartMask : Fld := ⟨0x1018, .array, 63, 0⟩
/-- HST_ADM_SQ.BASE -/ def hstAdmSqBase : Fld := ⟨0x1040, .array, 63, 12⟩
/-- HST_ADM_CQ.BASE -/ def hstAdmCqBase : Fld := ⟨0x1048, .array, 63, 12⟩
/-- HST_ADM_CFG.VECTOR -/ def hstAdmCfgVector : Fld := ⟨0x1050, .array, 43, 32⟩
/-- HST_ADM_CFG.SQ_LOG2 -/ def hstAdmCfgSqLog2 : Fld := ⟨0x1050, .array, 31, 28⟩
/-- HST_ADM_CFG.CQ_LOG2 -/ def hstAdmCfgCqLog2 : Fld := ⟨0x1050, .array, 27, 24⟩
/-- HST_ADM_CFG.EN -/ def hstAdmCfgEn : Fld := ⟨0x1050, .array, 0, 0⟩
/-- HST_ADM_DB.SQ_HEAD -/ def hstAdmDbSqHead : Fld := ⟨0x1058, .array, 47, 32⟩
/-- HST_ADM_DB.CQ_HEAD -/ def hstAdmDbCqHead : Fld := ⟨0x1058, .array, 31, 16⟩
/-- HST_ADM_DB.SQ_TAIL -/ def hstAdmDbSqTail : Fld := ⟨0x1058, .array, 15, 0⟩
/-- HST_RING.REG -/ def hstRingReg : Fld := ⟨0x8000, .array, 63, 63⟩
/-- HST_RING.CQ_FULL -/ def hstRingCqFull : Fld := ⟨0x8000, .array, 62, 62⟩
/-- HST_RING.FUNCTION -/ def hstRingFunction : Fld := ⟨0x8000, .array, 61, 56⟩
/-- HST_RING.SQ_HEAD -/ def hstRingSqHead : Fld := ⟨0x8000, .array, 47, 32⟩
/-- HST_RING.INFLIGHT -/ def hstRingInflight : Fld := ⟨0x8000, .array, 28, 16⟩
/-- HST_RING.CQ_TAIL -/ def hstRingCqTail : Fld := ⟨0x8000, .array, 15, 0⟩
/-- HST_STATE_REJECTS.COUNT -/ def hstStateRejectsCount : Fld := ⟨0x10000, .array, 31, 0⟩
/-- MBX_SEL.CHANNEL -/ def mbxSelChannel : Fld := ⟨0x100000, .select, 9, 0⟩
/-- MBX_BIND.SENDER -/ def mbxBindSender : Fld := ⟨0x100040, .window, 63, 52⟩
/-- MBX_BIND.RECEIVER -/ def mbxBindReceiver : Fld := ⟨0x100040, .window, 51, 40⟩
/-- MBX_BIND.VECTOR -/ def mbxBindVector : Fld := ⟨0x100040, .window, 39, 29⟩
/-- MBX_BIND.EN -/ def mbxBindEn : Fld := ⟨0x100040, .window, 0, 0⟩
/-- MBX_SEND_PTR.PTR -/ def mbxSendPtrPtr : Fld := ⟨0x100048, .sender, 63, 0⟩
/-- MBX_SEND_TAG.TAG -/ def mbxSendTagTag : Fld := ⟨0x100050, .window, 31, 0⟩
/-- MBX_HEAD_PTR.PTR -/ def mbxHeadPtrPtr : Fld := ⟨0x100058, .window, 63, 0⟩
/-- MBX_HEAD_TAG.VALID -/ def mbxHeadTagValid : Fld := ⟨0x100060, .window, 63, 63⟩
/-- MBX_HEAD_TAG.TAG -/ def mbxHeadTagTag : Fld := ⟨0x100060, .window, 31, 0⟩
/-- MBX_CTL.FLUSH -/ def mbxCtlFlush : Fld := ⟨0x100068, .window, 1, 1⟩
/-- MBX_CTL.POP -/ def mbxCtlPop : Fld := ⟨0x100068, .window, 0, 0⟩
/-- MBX_PEER_STATE.QUEUED -/ def mbxPeerStateQueued : Fld := ⟨0x100070, .window, 11, 8⟩
/-- MBX_PEER_STATE.SENDER -/ def mbxPeerStateSender : Fld := ⟨0x100070, .window, 3, 2⟩
/-- MBX_PEER_STATE.RECEIVER -/ def mbxPeerStateReceiver : Fld := ⟨0x100070, .window, 1, 0⟩
/-- MBX_CSTAT.SENT -/ def mbxCstatSent : Fld := ⟨0x100078, .window, 63, 32⟩
/-- MBX_CSTAT.DROPPED -/ def mbxCstatDropped : Fld := ⟨0x100078, .window, 31, 16⟩
/-- CFG_BOOT.FW_SVN -/ def cfgBootFwSvn : Fld := ⟨0x200000, .array, 63, 48⟩
/-- CFG_BOOT.CFG_SVN -/ def cfgBootCfgSvn : Fld := ⟨0x200000, .array, 47, 32⟩
/-- CFG_BOOT.STAGE -/ def cfgBootStage : Fld := ⟨0x200000, .array, 31, 27⟩
/-- CFG_BOOT.DEBUG -/ def cfgBootDebug : Fld := ⟨0x200000, .array, 7, 7⟩
/-- CFG_BOOT.CFG_FALLBACK -/ def cfgBootCfgFallback : Fld := ⟨0x200000, .array, 6, 6⟩
/-- CFG_BOOT.FW_FALLBACK -/ def cfgBootFwFallback : Fld := ⟨0x200000, .array, 5, 5⟩
/-- CFG_BOOT.CFG_SLOT -/ def cfgBootCfgSlot : Fld := ⟨0x200000, .array, 4, 4⟩
/-- CFG_BOOT.FW_SLOT -/ def cfgBootFwSlot : Fld := ⟨0x200000, .array, 3, 3⟩
/-- CFG_BOOT.LOCKED -/ def cfgBootLocked : Fld := ⟨0x200000, .array, 0, 0⟩
/-- CFG_RESET.CAUSE -/ def cfgResetCause : Fld := ⟨0x200008, .array, 7, 4⟩
/-- CFG_RESET.MODULE -/ def cfgResetModule : Fld := ⟨0x200008, .array, 0, 0⟩
/-- CFG_GOOD.MASK -/ def cfgGoodMask : Fld := ⟨0x200080, .array, 63, 0⟩
/-- CFG_CLMAP.ENT7 -/ def cfgClmapEnt7 : Fld := ⟨0x200100, .array, 63, 56⟩
/-- CFG_CLMAP.ENT6 -/ def cfgClmapEnt6 : Fld := ⟨0x200100, .array, 55, 48⟩
/-- CFG_CLMAP.ENT5 -/ def cfgClmapEnt5 : Fld := ⟨0x200100, .array, 47, 40⟩
/-- CFG_CLMAP.ENT4 -/ def cfgClmapEnt4 : Fld := ⟨0x200100, .array, 39, 32⟩
/-- CFG_CLMAP.ENT3 -/ def cfgClmapEnt3 : Fld := ⟨0x200100, .array, 31, 24⟩
/-- CFG_CLMAP.ENT2 -/ def cfgClmapEnt2 : Fld := ⟨0x200100, .array, 23, 16⟩
/-- CFG_CLMAP.ENT1 -/ def cfgClmapEnt1 : Fld := ⟨0x200100, .array, 15, 8⟩
/-- CFG_CLMAP.ENT0 -/ def cfgClmapEnt0 : Fld := ⟨0x200100, .array, 7, 0⟩
/-- CFG_SPARES.D3_RETIRED -/ def cfgSparesD3Retired : Fld := ⟨0x200200, .array, 31, 28⟩
/-- CFG_SPARES.D3_SPARES -/ def cfgSparesD3Spares : Fld := ⟨0x200200, .array, 27, 24⟩
/-- CFG_SPARES.D2_RETIRED -/ def cfgSparesD2Retired : Fld := ⟨0x200200, .array, 23, 20⟩
/-- CFG_SPARES.D2_SPARES -/ def cfgSparesD2Spares : Fld := ⟨0x200200, .array, 19, 16⟩
/-- CFG_SPARES.D1_RETIRED -/ def cfgSparesD1Retired : Fld := ⟨0x200200, .array, 15, 12⟩
/-- CFG_SPARES.D1_SPARES -/ def cfgSparesD1Spares : Fld := ⟨0x200200, .array, 11, 8⟩
/-- CFG_SPARES.D0_RETIRED -/ def cfgSparesD0Retired : Fld := ⟨0x200200, .array, 7, 4⟩
/-- CFG_SPARES.D0_SPARES -/ def cfgSparesD0Spares : Fld := ⟨0x200200, .array, 3, 0⟩
/-- CFG_PRIO.TTFT_GOAL -/ def cfgPrioTtftGoal : Fld := ⟨0x200300, .array, 43, 24⟩
/-- CFG_PRIO.TPOT_GOAL -/ def cfgPrioTpotGoal : Fld := ⟨0x200300, .array, 23, 8⟩
/-- CFG_PART.FIRST -/ def cfgPartFirst : Fld := ⟨0x200400, .array, 57, 52⟩
/-- CFG_PART.QUADS -/ def cfgPartQuads : Fld := ⟨0x200400, .array, 51, 46⟩
/-- CFG_PART.GRANULES -/ def cfgPartGranules : Fld := ⟨0x200400, .array, 45, 30⟩
/-- CFG_PART.FLASH -/ def cfgPartFlash : Fld := ⟨0x200400, .array, 29, 14⟩
/-- CFG_PART.PASS_ROWS -/ def cfgPartPassRows : Fld := ⟨0x200400, .array, 13, 6⟩
/-- CFG_PART.EN -/ def cfgPartEn : Fld := ⟨0x200400, .array, 0, 0⟩
/-- CFG_ENGP.ENT: the eight entries of Table TNCY-4; bit 6 of each, and entries 6 and 7 of CFG_ENGP1, are reserved -/ def cfgEngpEnt : Fld := ⟨0x200600, .array, 63, 0⟩
/-- CFG_PSTAT.STATE -/ def cfgPstatState : Fld := ⟨0x200800, .array, 63, 60⟩
/-- CFG_PSTAT.RGEN -/ def cfgPstatRgen : Fld := ⟨0x200800, .array, 59, 56⟩
/-- CFG_PSTAT.LAST_CAUSE -/ def cfgPstatLastCause : Fld := ⟨0x200800, .array, 55, 48⟩
/-- CFG_PSTAT.RESETS -/ def cfgPstatResets : Fld := ⟨0x200800, .array, 47, 32⟩
/-- CFG_PSTAT.CTX_FAULTS -/ def cfgPstatCtxFaults : Fld := ⟨0x200800, .array, 31, 16⟩
/-- CFG_PSTAT.GRANULES_USED -/ def cfgPstatGranulesUsed : Fld := ⟨0x200800, .array, 15, 0⟩
/-- CFG_CLIENT.EN -/ def cfgClientEn : Fld := ⟨0x208000, .array, 63, 63⟩
/-- CFG_CLIENT.ADMIN -/ def cfgClientAdmin : Fld := ⟨0x208000, .array, 62, 62⟩
/-- CFG_CLIENT.FUNCTION -/ def cfgClientFunction : Fld := ⟨0x208000, .array, 61, 56⟩
/-- CFG_CLIENT.HOME -/ def cfgClientHome : Fld := ⟨0x208000, .array, 53, 48⟩
/-- CFG_CUSE.USE -/ def cfgCuseUse : Fld := ⟨0x210000, .array, 63, 0⟩
/-- MEM_CFG.FAIL_MAX -/ def memCfgFailMax : Fld := ⟨0x300000, .array, 39, 32⟩
/-- MEM_CFG.SPLIT -/ def memCfgSplit : Fld := ⟨0x300000, .array, 27, 24⟩
/-- MEM_CFG.BIN -/ def memCfgBin : Fld := ⟨0x300000, .array, 18, 16⟩
/-- MEM_STAT.LIVE -/ def memStatLive : Fld := ⟨0x300008, .array, 40, 32⟩
/-- MEM_STAT.ACTIVE_BIN -/ def memStatActiveBin : Fld := ⟨0x300008, .array, 18, 16⟩
/-- MEM_STAT.RETRAINS -/ def memStatRetrains : Fld := ⟨0x300008, .array, 15, 0⟩
/-- MEM_LIVE.MASK -/ def memLiveMask : Fld := ⟨0x300010, .array, 63, 0⟩
/-- MEM_CHSEL.CHANNEL -/ def memChselChannel : Fld := ⟨0x300100, .select, 7, 0⟩
/-- MEM_CHSTAT.CORR -/ def memChstatCorr : Fld := ⟨0x300140, .window, 63, 32⟩
/-- MEM_CHSTAT.DRIFT -/ def memChstatDrift : Fld := ⟨0x300140, .window, 23, 16⟩
/-- MEM_CHSTAT.RETRAINS -/ def memChstatRetrains : Fld := ⟨0x300140, .window, 15, 8⟩
/-- MEM_CHSTAT.RETIRED -/ def memChstatRetired : Fld := ⟨0x300140, .window, 1, 1⟩
/-- MEM_CHSTAT.TRAINED -/ def memChstatTrained : Fld := ⟨0x300140, .window, 0, 0⟩
/-- MEM_CHREF.UNCORR -/ def memChrefUncorr : Fld := ⟨0x300148, .window, 63, 32⟩
/-- MEM_CHREF.POSTPONED_MAX -/ def memChrefPostponedMax : Fld := ⟨0x300148, .window, 15, 8⟩
/-- MEM_CHREF.TEMP -/ def memChrefTemp : Fld := ⟨0x300148, .window, 7, 0⟩
/-- MEM_CHCODE.POISON_READ -/ def memChcodePoisonRead : Fld := ⟨0x300150, .window, 63, 32⟩
/-- MEM_CHCODE.REREADS -/ def memChcodeRereads : Fld := ⟨0x300150, .window, 31, 16⟩
/-- MEM_CHCODE.LAST_SLOT -/ def memChcodeLastSlot : Fld := ⟨0x300150, .window, 15, 10⟩
/-- MEM_CHCODE.LAST_SC -/ def memChcodeLastSc : Fld := ⟨0x300150, .window, 9, 9⟩
/-- MEM_CHCODE.DETECT_SC1 -/ def memChcodeDetectSc1 : Fld := ⟨0x300150, .window, 1, 1⟩
/-- MEM_CHCODE.DETECT_SC0 -/ def memChcodeDetectSc0 : Fld := ⟨0x300150, .window, 0, 0⟩
/-- FLS_CFG.RD_SCAN -/ def flsCfgRdScan : Fld := ⟨0x400000, .array, 41, 32⟩
/-- FLS_CFG.RD_MARGIN -/ def flsCfgRdMargin : Fld := ⟨0x400000, .array, 31, 24⟩
/-- FLS_CFG.WEAR_GAP -/ def flsCfgWearGap : Fld := ⟨0x400000, .array, 23, 16⟩
/-- FLS_ENC.MASK -/ def flsEncMask : Fld := ⟨0x400008, .array, 63, 0⟩
/-- FLS_STAT.DIES_RETIRED -/ def flsStatDiesRetired : Fld := ⟨0x400010, .array, 47, 40⟩
/-- FLS_STAT.REBUILDS -/ def flsStatRebuilds : Fld := ⟨0x400010, .array, 31, 0⟩
/-- FLS_CHSEL.CHANNEL -/ def flsChselChannel : Fld := ⟨0x400100, .select, 4, 0⟩
/-- FLS_CHSTAT.READS -/ def flsChstatReads : Fld := ⟨0x400140, .window, 63, 32⟩
/-- FLS_CHSTAT.RETRIES -/ def flsChstatRetries : Fld := ⟨0x400140, .window, 31, 16⟩
/-- FLS_CHSTAT.DIE_RETIRED -/ def flsChstatDieRetired : Fld := ⟨0x400140, .window, 15, 4⟩
/-- FLS_CHSTAT.TRAINED -/ def flsChstatTrained : Fld := ⟨0x400140, .window, 0, 0⟩
/-- FLS_CHWEAR.ERASE_MAX -/ def flsChwearEraseMax : Fld := ⟨0x400148, .window, 63, 48⟩
/-- FLS_CHWEAR.ERASE_MIN -/ def flsChwearEraseMin : Fld := ⟨0x400148, .window, 47, 32⟩
/-- FLS_CHWEAR.RELOC -/ def flsChwearReloc : Fld := ⟨0x400148, .window, 31, 16⟩
/-- FLS_CHWEAR.SCANS -/ def flsChwearScans : Fld := ⟨0x400148, .window, 15, 0⟩
/-- OPT_CFG.MODULE_ID -/ def optCfgModuleId : Fld := ⟨0x500000, .array, 63, 52⟩
/-- OPT_CFG.HOPS_MAX -/ def optCfgHopsMax : Fld := ⟨0x500000, .array, 51, 48⟩
/-- OPT_CFG.JOB -/ def optCfgJob : Fld := ⟨0x500000, .array, 47, 32⟩
/-- OPT_CFG.JOB_LEAD -/ def optCfgJobLead : Fld := ⟨0x500000, .array, 31, 20⟩
/-- OPT_CFG.COLL_MS -/ def optCfgCollMs : Fld := ⟨0x500000, .array, 19, 10⟩
/-- OPT_CFG.GAP_US -/ def optCfgGapUs : Fld := ⟨0x500000, .array, 9, 0⟩
/-- OPT_STAT.UP -/ def optStatUp : Fld := ⟨0x500008, .array, 63, 48⟩
/-- OPT_STAT.NARROW -/ def optStatNarrow : Fld := ⟨0x500008, .array, 47, 32⟩
/-- OPT_STAT.RETIRED -/ def optStatRetired : Fld := ⟨0x500008, .array, 31, 16⟩
/-- OPT_STAT.DUP_ID -/ def optStatDupId : Fld := ⟨0x500008, .array, 1, 1⟩
/-- OPT_SYS.FREQ_MS -/ def optSysFreqMs : Fld := ⟨0x500010, .array, 41, 32⟩
/-- OPT_SYS.SYSTEM -/ def optSysSystem : Fld := ⟨0x500010, .array, 31, 0⟩
/-- OPT_PORTSEL.PORT -/ def optPortselPort : Fld := ⟨0x500100, .select, 3, 0⟩
/-- OPT_PSTAT.PEER_ID -/ def optPstatPeerId : Fld := ⟨0x500140, .window, 63, 52⟩
/-- OPT_PSTAT.PEER_PORT -/ def optPstatPeerPort : Fld := ⟨0x500140, .window, 51, 48⟩
/-- OPT_PSTAT.LANES_TX -/ def optPstatLanesTx : Fld := ⟨0x500140, .window, 47, 40⟩
/-- OPT_PSTAT.LANES_RX -/ def optPstatLanesRx : Fld := ⟨0x500140, .window, 39, 32⟩
/-- OPT_PSTAT.STATE -/ def optPstatState : Fld := ⟨0x500140, .window, 31, 28⟩
/-- OPT_PSTAT.RETIRED_LANES -/ def optPstatRetiredLanes : Fld := ⟨0x500140, .window, 23, 16⟩
/-- OPT_PSTAT.HANDOVERS -/ def optPstatHandovers : Fld := ⟨0x500140, .window, 15, 0⟩
/-- OPT_PCNT.FRAMES -/ def optPcntFrames : Fld := ⟨0x500148, .window, 63, 32⟩
/-- OPT_PCNT.REPLAYS -/ def optPcntReplays : Fld := ⟨0x500148, .window, 31, 16⟩
/-- OPT_PCNT.NAKS -/ def optPcntNaks : Fld := ⟨0x500148, .window, 15, 0⟩
/-- OPT_LANESEL.PORT -/ def optLaneselPort : Fld := ⟨0x500200, .select, 7, 4⟩
/-- OPT_LANESEL.LANE -/ def optLaneselLane : Fld := ⟨0x500200, .select, 2, 0⟩
/-- OPT_LSTAT.SYM_ERR -/ def optLstatSymErr : Fld := ⟨0x500240, .window, 63, 40⟩
/-- OPT_LSTAT.BIAS -/ def optLstatBias : Fld := ⟨0x500240, .window, 31, 24⟩
/-- OPT_LSTAT.RING_TX -/ def optLstatRingTx : Fld := ⟨0x500240, .window, 23, 16⟩
/-- OPT_LSTAT.RING_RX -/ def optLstatRingRx : Fld := ⟨0x500240, .window, 15, 8⟩
/-- OPT_LSTAT.STATE -/ def optLstatState : Fld := ⟨0x500240, .window, 2, 0⟩
/-- OPT_ROUTE.C3 -/ def optRouteC3 : Fld := ⟨0x508000, .array, 19, 15⟩
/-- OPT_ROUTE.C2 -/ def optRouteC2 : Fld := ⟨0x508000, .array, 14, 10⟩
/-- OPT_ROUTE.C1 -/ def optRouteC1 : Fld := ⟨0x508000, .array, 9, 5⟩
/-- OPT_ROUTE.C0 -/ def optRouteC0 : Fld := ⟨0x508000, .array, 4, 0⟩
/-- FLT_CTL.VECTOR -/ def fltCtlVector : Fld := ⟨0x600000, .array, 43, 32⟩
/-- FLT_CTL.LOG_INFO -/ def fltCtlLogInfo : Fld := ⟨0x600000, .array, 1, 1⟩
/-- FLT_CTL.IRQ_EN -/ def fltCtlIrqEn : Fld := ⟨0x600000, .array, 0, 0⟩
/-- FLT_STAT.MESSAGES -/ def fltStatMessages : Fld := ⟨0x600008, .array, 63, 32⟩
/-- FLT_STAT.OVERFLOW -/ def fltStatOverflow : Fld := ⟨0x600008, .array, 31, 16⟩
/-- FLT_STAT.RETIRED -/ def fltStatRetired : Fld := ⟨0x600008, .array, 15, 8⟩
/-- FLT_STAT.FATAL -/ def fltStatFatal : Fld := ⟨0x600008, .array, 0, 0⟩
/-- FLT_FIRST.VALID -/ def fltFirstValid : Fld := ⟨0x600010, .array, 63, 63⟩
/-- FLT_FIRST.MORE -/ def fltFirstMore : Fld := ⟨0x600010, .array, 62, 56⟩
/-- FLT_FIRST.KIND -/ def fltFirstKind : Fld := ⟨0x600010, .array, 55, 46⟩
/-- FLT_FIRST.ACCESS -/ def fltFirstAccess : Fld := ⟨0x600010, .array, 45, 42⟩
/-- FLT_FIRST.OUTCOME -/ def fltFirstOutcome : Fld := ⟨0x600010, .array, 41, 40⟩
/-- FLT_FIRST.MASTER -/ def fltFirstMaster : Fld := ⟨0x600010, .array, 39, 28⟩
/-- FLT_FIRST.SITE -/ def fltFirstSite : Fld := ⟨0x600010, .array, 15, 0⟩
/-- FLT_FIRST_ADDR.ADDR -/ def fltFirstAddrAddr : Fld := ⟨0x600018, .array, 47, 0⟩
/-- FLT_FIRST_TIME.TIME -/ def fltFirstTimeTime : Fld := ⟨0x600020, .array, 63, 0⟩
/-- FLT_PULSE.FATAL_KIND -/ def fltPulseFatalKind : Fld := ⟨0x600028, .array, 63, 54⟩
/-- FLT_PULSE.FATAL_SITE -/ def fltPulseFatalSite : Fld := ⟨0x600028, .array, 53, 38⟩
/-- FLT_PULSE.HB_AGE -/ def fltPulseHbAge : Fld := ⟨0x600028, .array, 23, 8⟩
/-- FLT_PULSE.RUNNING -/ def fltPulseRunning : Fld := ⟨0x600028, .array, 1, 1⟩
/-- FLT_PULSE.HB -/ def fltPulseHb : Fld := ⟨0x600028, .array, 0, 0⟩
/-- FLT_WDOG.RETIRED -/ def fltWdogRetired : Fld := ⟨0x600030, .array, 63, 56⟩
/-- FLT_WDOG.EXPIRIES -/ def fltWdogExpiries : Fld := ⟨0x600030, .array, 47, 32⟩
/-- FLT_WDOG.TIMEOUT -/ def fltWdogTimeout : Fld := ⟨0x600030, .array, 17, 8⟩
/-- FLT_WDOG.KICK -/ def fltWdogKick : Fld := ⟨0x600030, .array, 7, 0⟩
/-- FLT_CLS.N -/ def fltClsN : Fld := ⟨0x600080, .array, 39, 32⟩
/-- FLT_CLS.W -/ def fltClsW : Fld := ⟨0x600080, .array, 31, 16⟩
/-- FLT_SRCSEL.ENTRY -/ def fltSrcselEntry : Fld := ⟨0x600100, .select, 11, 0⟩
/-- FLT_SRC.VALID -/ def fltSrcValid : Fld := ⟨0x600140, .window, 63, 63⟩
/-- FLT_SRC.RETIRED -/ def fltSrcRetired : Fld := ⟨0x600140, .window, 62, 62⟩
/-- FLT_SRC.SEVERE -/ def fltSrcSevere : Fld := ⟨0x600140, .window, 61, 61⟩
/-- FLT_SRC.CLASS -/ def fltSrcClass : Fld := ⟨0x600140, .window, 60, 57⟩
/-- FLT_SRC.SUB -/ def fltSrcSub : Fld := ⟨0x600140, .window, 56, 53⟩
/-- FLT_SRC.KIND -/ def fltSrcKind : Fld := ⟨0x600140, .window, 52, 43⟩
/-- FLT_SRC.SITE -/ def fltSrcSite : Fld := ⟨0x600140, .window, 15, 0⟩
/-- FLT_SRC_CNT.START -/ def fltSrcCntStart : Fld := ⟨0x600148, .window, 63, 32⟩
/-- FLT_SRC_CNT.COUNT -/ def fltSrcCntCount : Fld := ⟨0x600148, .window, 31, 24⟩
/-- FLT_SRC_CNT.TOTAL -/ def fltSrcCntTotal : Fld := ⟨0x600148, .window, 23, 0⟩
/-- PWR_CAP.EFFECTIVE -/ def pwrCapEffective : Fld := ⟨0x700000, .array, 59, 48⟩
/-- PWR_CAP.IMG -/ def pwrCapImg : Fld := ⟨0x700000, .array, 47, 36⟩
/-- PWR_CAP.BMC -/ def pwrCapBmc : Fld := ⟨0x700000, .array, 35, 24⟩
/-- PWR_CAP.HOST -/ def pwrCapHost : Fld := ⟨0x700000, .array, 23, 12⟩
/-- PWR_STAT.MODULE -/ def pwrStatModule : Fld := ⟨0x700008, .array, 63, 61⟩
/-- PWR_STAT.THERM -/ def pwrStatTherm : Fld := ⟨0x700008, .array, 60, 59⟩
/-- PWR_STAT.HOLD -/ def pwrStatHold : Fld := ⟨0x700008, .array, 58, 58⟩
/-- PWR_STAT.JOB_STEP -/ def pwrStatJobStep : Fld := ⟨0x700008, .array, 51, 48⟩
/-- PWR_STAT.GRANT -/ def pwrStatGrant : Fld := ⟨0x700008, .array, 47, 44⟩
/-- PWR_STAT.LOCK_BREAKS -/ def pwrStatLockBreaks : Fld := ⟨0x700008, .array, 31, 0⟩
/-- PWR_EST.MEAS -/ def pwrEstMeas : Fld := ⟨0x700010, .array, 63, 48⟩
/-- PWR_EST.EST -/ def pwrEstEst : Fld := ⟨0x700010, .array, 47, 32⟩
/-- PWR_EST.K -/ def pwrEstK : Fld := ⟨0x700010, .array, 31, 16⟩
/-- PWR_REFUSE_COUNT.COUNT -/ def pwrRefuseCountCount : Fld := ⟨0x700018, .array, 31, 0⟩
/-- PWR_LAST_REFUSER.TIME -/ def pwrLastRefuserTime : Fld := ⟨0x700020, .array, 63, 32⟩
/-- PWR_LAST_REFUSER.MASTER -/ def pwrLastRefuserMaster : Fld := ⟨0x700020, .array, 31, 20⟩
/-- PWR_LAST_REFUSER.DOMAIN -/ def pwrLastRefuserDomain : Fld := ⟨0x700020, .array, 19, 11⟩
/-- PWR_LAST_REFUSER.REASON -/ def pwrLastRefuserReason : Fld := ⟨0x700020, .array, 7, 0⟩
/-- PWR_POLICY.T_TRIP -/ def pwrPolicyTTrip : Fld := ⟨0x700028, .array, 63, 56⟩
/-- PWR_POLICY.T_HOLD -/ def pwrPolicyTHold : Fld := ⟨0x700028, .array, 55, 48⟩
/-- PWR_POLICY.T_THROTTLE -/ def pwrPolicyTThrottle : Fld := ⟨0x700028, .array, 47, 40⟩
/-- PWR_POLICY.MARGIN -/ def pwrPolicyMargin : Fld := ⟨0x700028, .array, 39, 28⟩
/-- PWR_POLICY.STEP_MIN -/ def pwrPolicyStepMin : Fld := ⟨0x700028, .array, 7, 4⟩
/-- PWR_POLICY.STEP_MAX -/ def pwrPolicyStepMax : Fld := ⟨0x700028, .array, 3, 0⟩
/-- PWR_WATCH.CAUSE -/ def pwrWatchCause : Fld := ⟨0x700030, .array, 47, 43⟩
/-- PWR_WATCH.WAKES -/ def pwrWatchWakes : Fld := ⟨0x700030, .array, 42, 14⟩
/-- PWR_WATCH.PERIOD -/ def pwrWatchPeriod : Fld := ⟨0x700030, .array, 13, 0⟩
/-- PWR_WWIN.HIGH -/ def pwrWwinHigh : Fld := ⟨0x700080, .array, 63, 48⟩
/-- PWR_WWIN.LOW -/ def pwrWwinLow : Fld := ⟨0x700080, .array, 47, 32⟩
/-- PWR_WWIN.SENSOR -/ def pwrWwinSensor : Fld := ⟨0x700080, .array, 31, 24⟩
/-- PWR_WWIN.EN -/ def pwrWwinEn : Fld := ⟨0x700080, .array, 0, 0⟩
/-- PWR_DOMSEL.DOMAIN -/ def pwrDomselDomain : Fld := ⟨0x700100, .select, 8, 0⟩
/-- PWR_MODE.MODE -/ def pwrModeMode : Fld := ⟨0x700140, .window, 1, 0⟩
/-- PWR_DSTAT.STATE -/ def pwrDstatState : Fld := ⟨0x700148, .window, 63, 60⟩
/-- PWR_DSTAT.STEP -/ def pwrDstatStep : Fld := ⟨0x700148, .window, 59, 56⟩
/-- PWR_DSTAT.VOLT -/ def pwrDstatVolt : Fld := ⟨0x700148, .window, 55, 44⟩
/-- PWR_DSTAT.NAPS -/ def pwrDstatNaps : Fld := ⟨0x700148, .window, 31, 0⟩
/-- PWR_DEST.MW -/ def pwrDestMw : Fld := ⟨0x700150, .window, 63, 32⟩
/-- ACC_OVERHEAD.UJ -/ def accOverheadUj : Fld := ⟨0x800000, .array, 63, 0⟩
/-- ACC_FOREIGN_UJ.UJ -/ def accForeignUjUj : Fld := ⟨0x800008, .array, 63, 0⟩
/-- ACC_FOREIGN_NS.NS -/ def accForeignNsNs : Fld := ⟨0x800010, .array, 63, 0⟩
/-- ACC_CLIENTSEL.CLIENT -/ def accClientselClient : Fld := ⟨0x800100, .select, 11, 0⟩
/-- ACC_REC.QWORD -/ def accRecQword : Fld := ⟨0x800140, .window, 63, 0⟩
/-- SEC_CTR.FW_MIN -/ def secCtrFwMin : Fld := ⟨0x900000, .array, 63, 48⟩
/-- SEC_CTR.CFG_MIN -/ def secCtrCfgMin : Fld := ⟨0x900000, .array, 47, 32⟩
/-- SEC_CTR.OWNER_GEN -/ def secCtrOwnerGen : Fld := ⟨0x900000, .array, 31, 16⟩
/-- SEC_BATCH.SEQ -/ def secBatchSeq : Fld := ⟨0x900008, .array, 63, 32⟩
/-- SEC_BATCH.LEAVES -/ def secBatchLeaves : Fld := ⟨0x900008, .array, 20, 10⟩
/-- SEC_BATCH.QUEUED -/ def secBatchQueued : Fld := ⟨0x900008, .array, 9, 0⟩
/-- SEC_DSTORE.RECORDS -/ def secDstoreRecords : Fld := ⟨0x900010, .array, 63, 32⟩
/-- SEC_DSTORE.OLDEST_SEQ -/ def secDstoreOldestSeq : Fld := ⟨0x900010, .array, 31, 0⟩
/-- UPD_ACTIVATE_AT.TIME -/ def updActivateAtTime : Fld := ⟨0x900100, .array, 63, 0⟩
/-- UPD_CFG.REPEAT_H -/ def updCfgRepeatH : Fld := ⟨0x900108, .array, 63, 48⟩
/-- UPD_CFG.DRAIN_MS -/ def updCfgDrainMs : Fld := ⟨0x900108, .array, 15, 0⟩
/-- UPD_STAT.FW_STATE -/ def updStatFwState : Fld := ⟨0x900110, .array, 63, 60⟩
/-- UPD_STAT.CFG_STATE -/ def updStatCfgState : Fld := ⟨0x900110, .array, 59, 56⟩
/-- UPD_STAT.FW_NEXT -/ def updStatFwNext : Fld := ⟨0x900110, .array, 55, 40⟩
/-- UPD_STAT.CFG_NEXT -/ def updStatCfgNext : Fld := ⟨0x900110, .array, 39, 24⟩
/-- UPD_STAT.SCHED_ERR -/ def updStatSchedErr : Fld := ⟨0x900110, .array, 23, 23⟩
/-- UPD_STAT.ACTIVATIONS -/ def updStatActivations : Fld := ⟨0x900110, .array, 15, 0⟩
/-- CHK_PART.FRACTION -/ def chkPartFraction : Fld := ⟨0xa00000, .array, 2, 0⟩
/-- CHK_PSTAT.CHECKED -/ def chkPstatChecked : Fld := ⟨0xa00200, .array, 63, 32⟩
/-- CHK_PSTAT.MISMATCH -/ def chkPstatMismatch : Fld := ⟨0xa00200, .array, 31, 20⟩
/-- CHK_PSTAT.SKIPPED -/ def chkPstatSkipped : Fld := ⟨0xa00200, .array, 19, 8⟩
/-- CHK_PSTAT.VOTES -/ def chkPstatVotes : Fld := ⟨0xa00200, .array, 7, 4⟩
/-- CHK_PSTAT.NO_VOTE -/ def chkPstatNoVote : Fld := ⟨0xa00200, .array, 3, 0⟩
/-- WFT_CFG.CAP -/ def wftCfgCap : Fld := ⟨0xa00400, .array, 39, 32⟩
/-- WFT_CFG.PERIOD_H -/ def wftCfgPeriodH : Fld := ⟨0xa00400, .array, 31, 24⟩
/-- WFT_CFG.SLICE_US -/ def wftCfgSliceUs : Fld := ⟨0xa00400, .array, 23, 12⟩
/-- WFT_CFG.IDLE_US -/ def wftCfgIdleUs : Fld := ⟨0xa00400, .array, 11, 0⟩
/-- WFT_STAT.ROUNDS -/ def wftStatRounds : Fld := ⟨0xa00408, .array, 63, 32⟩
/-- WFT_STAT.OLDEST_H -/ def wftStatOldestH : Fld := ⟨0xa00408, .array, 31, 16⟩
/-- WFT_STAT.FORCED -/ def wftStatForced : Fld := ⟨0xa00408, .array, 15, 0⟩
/-- WFT_CSTAT.AGE_H -/ def wftCstatAgeH : Fld := ⟨0xa00800, .array, 63, 48⟩
/-- WFT_CSTAT.SEGMENT -/ def wftCstatSegment : Fld := ⟨0xa00800, .array, 47, 40⟩
/-- WFT_CSTAT.FAILS -/ def wftCstatFails : Fld := ⟨0xa00800, .array, 39, 32⟩
/-- WFT_CSTAT.CLAIMED -/ def wftCstatClaimed : Fld := ⟨0xa00800, .array, 0, 0⟩
/-- AGE_CFG.LIFE_WARN -/ def ageCfgLifeWarn : Fld := ⟨0xa01000, .array, 39, 32⟩
/-- AGE_CFG.GB_MAX -/ def ageCfgGbMax : Fld := ⟨0xa01000, .array, 31, 16⟩
/-- AGE_CFG.MARGIN -/ def ageCfgMargin : Fld := ⟨0xa01000, .array, 15, 0⟩
/-- AGE_CSTAT.LIFE -/ def ageCstatLife : Fld := ⟨0xa01800, .array, 63, 48⟩
/-- AGE_CSTAT.GUARDBAND -/ def ageCstatGuardband : Fld := ⟨0xa01800, .array, 47, 40⟩
/-- AGE_CSTAT.STEP_CEIL -/ def ageCstatStepCeil : Fld := ⟨0xa01800, .array, 39, 36⟩
/-- AGE_CSTAT.RO_DRIFT -/ def ageCstatRoDrift : Fld := ⟨0xa01800, .array, 35, 28⟩
/-- AGE_CSTAT.PLANS -/ def ageCstatPlans : Fld := ⟨0xa01800, .array, 27, 12⟩
/-- TIM_NOW.NOW -/ def timNowNow : Fld := ⟨0xb00000, .array, 63, 0⟩
/-- TIM_CFG.MASTER -/ def timCfgMaster : Fld := ⟨0xb00008, .array, 63, 52⟩
/-- TIM_STAT.OFFSET -/ def timStatOffset : Fld := ⟨0xb00010, .array, 63, 32⟩
/-- TIM_STAT.DELAY -/ def timStatDelay : Fld := ⟨0xb00010, .array, 31, 16⟩
/-- TIM_STAT.PARENT -/ def timStatParent : Fld := ⟨0xb00010, .array, 15, 12⟩
/-- TIM_STAT.STATE -/ def timStatState : Fld := ⟨0xb00010, .array, 1, 0⟩
/-- SLO_CTL.SWEEP_RATE -/ def sloCtlSweepRate : Fld := ⟨0xc00000, .array, 23, 16⟩
/-- SLO_CTL.PUBLISH_MS -/ def sloCtlPublishMs : Fld := ⟨0xc00000, .array, 9, 0⟩
/-- SLO_SHARD.SHARD -/ def sloShardShard : Fld := ⟨0xc00010, .array, 63, 48⟩
/-- SLO_SHARD.STATE -/ def sloShardState : Fld := ⟨0xc00010, .array, 47, 46⟩
/-- SLO_SHARD.SKETCH -/ def sloShardSketch : Fld := ⟨0xc00010, .array, 45, 44⟩
/-- SLO_SHARD.DEG8 -/ def sloShardDeg8 : Fld := ⟨0xc00010, .array, 43, 40⟩
/-- SLO_SHARD.EPOCH -/ def sloShardEpoch : Fld := ⟨0xc00010, .array, 31, 0⟩
/-- SLO_SIDE.SEC3 -/ def sloSideSec3 : Fld := ⟨0xc00020, .array, 63, 48⟩
/-- SLO_SIDE.SEC2 -/ def sloSideSec2 : Fld := ⟨0xc00020, .array, 47, 32⟩
/-- SLO_SIDE.SEC1 -/ def sloSideSec1 : Fld := ⟨0xc00020, .array, 31, 16⟩
/-- SLO_SIDE.SEC0 -/ def sloSideSec0 : Fld := ⟨0xc00020, .array, 15, 0⟩
/-- SLO_WSTAT.WALKS -/ def sloWstatWalks : Fld := ⟨0xc00100, .array, 63, 32⟩
/-- SLO_WSTAT.OUTSTANDING -/ def sloWstatOutstanding : Fld := ⟨0xc00100, .array, 31, 20⟩
/-- SLO_WSTAT.SLOTS_BUSY -/ def sloWstatSlotsBusy : Fld := ⟨0xc00100, .array, 19, 13⟩
/-- SLO_WSTAT.RESTARTS -/ def sloWstatRestarts : Fld := ⟨0xc00100, .array, 12, 9⟩
/-- SLO_WSTAT.RETIRED -/ def sloWstatRetired : Fld := ⟨0xc00100, .array, 0, 0⟩
/-- SLO_WEXP.COUNT -/ def sloWexpCount : Fld := ⟨0xc00500, .array, 63, 0⟩
/-- TBL_CTL.KEEP_MS -/ def tblCtlKeepMs : Fld := ⟨0xc10000, .array, 41, 32⟩
/-- TBL_CTL.FLIP_US -/ def tblCtlFlipUs : Fld := ⟨0xc10000, .array, 15, 0⟩
/-- TBL_TSTAT.EPOCH -/ def tblTstatEpoch : Fld := ⟨0xc10100, .array, 63, 32⟩
/-- TBL_TSTAT.STATE -/ def tblTstatState : Fld := ⟨0xc10100, .array, 31, 30⟩
/-- TBL_TSTAT.SPLIT -/ def tblTstatSplit : Fld := ⟨0xc10100, .array, 29, 29⟩
/-- TBL_TSTAT.TIERED -/ def tblTstatTiered : Fld := ⟨0xc10100, .array, 28, 28⟩
/-- TBL_TSTAT.UPDATABLE -/ def tblTstatUpdatable : Fld := ⟨0xc10100, .array, 27, 27⟩
/-- TBL_TSTAT.MOVING -/ def tblTstatMoving : Fld := ⟨0xc10100, .array, 26, 16⟩
/-- TBL_TSTAT.CLIPPED -/ def tblTstatClipped : Fld := ⟨0xc10100, .array, 15, 0⟩
/-- TBL_GSTAT.BAGS -/ def tblGstatBags : Fld := ⟨0xc10900, .array, 63, 32⟩
/-- TBL_GSTAT.OUTSTANDING -/ def tblGstatOutstanding : Fld := ⟨0xc10900, .array, 31, 20⟩
/-- ZST_CTL.STREAMS -/ def zstCtlStreams : Fld := ⟨0xc20000, .array, 6, 0⟩
/-- ZST_ESTAT.BYTES -/ def zstEstatBytes : Fld := ⟨0xc20100, .array, 63, 24⟩
/-- ZST_ESTAT.INVALID_UTF8 -/ def zstEstatInvalidUtf8 : Fld := ⟨0xc20100, .array, 23, 8⟩
/-- ZST_ESTAT.BUSY -/ def zstEstatBusy : Fld := ⟨0xc20100, .array, 0, 0⟩
/-- PUN_ESTAT.TOKENS -/ def punEstatTokens : Fld := ⟨0xc30100, .array, 63, 24⟩
/-- PUN_ESTAT.PACKS -/ def punEstatPacks : Fld := ⟨0xc30100, .array, 23, 8⟩
/-- PUN_ESTAT.BUSY -/ def punEstatBusy : Fld := ⟨0xc30100, .array, 0, 0⟩
/-- MDL_TREE.NODES -/ def mdlTreeNodes : Fld := ⟨0xc40010, .array, 63, 39⟩
/-- MDL_TREE.PARTITION -/ def mdlTreePartition : Fld := ⟨0xc40010, .array, 38, 33⟩
/-- MDL_TREE.LOG2 -/ def mdlTreeLog2 : Fld := ⟨0xc40010, .array, 32, 28⟩
/-- MDL_TREE.STATE -/ def mdlTreeState : Fld := ⟨0xc40010, .array, 27, 26⟩
/-- MDL_TSTAT.HIT_BLOCKS -/ def mdlTstatHitBlocks : Fld := ⟨0xc40100, .array, 63, 32⟩
/-- MDL_TSTAT.INSERT_FAIL -/ def mdlTstatInsertFail : Fld := ⟨0xc40100, .array, 31, 16⟩
/-- MDL_TSTAT.DEAD -/ def mdlTstatDead : Fld := ⟨0xc40100, .array, 15, 0⟩
/-- MDL_POOL.ROWS_MAX -/ def mdlPoolRowsMax : Fld := ⟨0xc40200, .array, 48, 32⟩
/-- MDL_POOL.CHUNK -/ def mdlPoolChunk : Fld := ⟨0xc40200, .array, 22, 16⟩
/-- MDL_PSTAT.FRAMES -/ def mdlPstatFrames : Fld := ⟨0xc40300, .array, 63, 44⟩
/-- MDL_PSTAT.FREE -/ def mdlPstatFree : Fld := ⟨0xc40300, .array, 43, 24⟩
/-- MDL_PSTAT.SPILLED -/ def mdlPstatSpilled : Fld := ⟨0xc40300, .array, 23, 4⟩
/-- MDL_PSTAT.STATE -/ def mdlPstatState : Fld := ⟨0xc40300, .array, 3, 2⟩
/-- PIP_USTAT.SAMPLES -/ def pipUstatSamples : Fld := ⟨0xc50100, .array, 63, 32⟩
/-- PIP_USTAT.EMPTY_MASK -/ def pipUstatEmptyMask : Fld := ⟨0xc50100, .array, 31, 16⟩
/-- PIP_USTAT.BUSY -/ def pipUstatBusy : Fld := ⟨0xc50100, .array, 6, 6⟩
/-- PIP_USTAT.PARTITION -/ def pipUstatPartition : Fld := ⟨0xc50100, .array, 5, 0⟩

end R

/-- The rows of BAR0 block 0x0 (Table MAPS-1). -/
def regRows00 : List RegRow :=
  [ ⟨0x0, 1, .array, [(63, 0, .ro)]⟩,
    ⟨0x8, 1, .array, [(63, 32, .ro), (23, 16, .ro), (10, 8, .ro), (0, 0, .ro)]⟩,
    ⟨0x1000, 1, .array, [(63, 60, .ro), (59, 52, .ro), (51, 48, .ro), (47, 44, .ro)]⟩,
    ⟨0x1008, 1, .array, [(63, 32, .ro), (31, 0, .ro)]⟩,
    ⟨0x1010, 1, .array, [(47, 26, .rw)]⟩,
    ⟨0x1018, 1, .array, [(63, 0, .rw)]⟩,
    ⟨0x1040, 1, .array, [(63, 12, .rw)]⟩,
    ⟨0x1048, 1, .array, [(63, 12, .rw)]⟩,
    ⟨0x1050, 1, .array, [(43, 32, .rw), (31, 28, .rw), (27, 24, .rw), (0, 0, .rw)]⟩,
    ⟨0x1058, 1, .array, [(47, 32, .ro), (31, 16, .rw), (15, 0, .rw)]⟩,
    ⟨0x8000, 4096, .array, [(63, 63, .ro), (62, 62, .ro), (61, 56, .ro), (47, 32, .ro), (28, 16, .ro), (15, 0, .ro)]⟩,
    ⟨0x10000, 4096, .array, [(31, 0, .ro)]⟩ ]

/-- The rows of BAR0 block 0x100000 (Table MAPS-1). -/
def regRows01 : List RegRow :=
  [ ⟨0x100000, 1, .select, [(9, 0, .rw)]⟩,
    ⟨0x100040, 1, .window, [(63, 52, .rwl), (51, 40, .rwl), (39, 29, .rwl), (0, 0, .rwl)]⟩,
    ⟨0x100048, 1, .sender, [(63, 0, .rw)]⟩,
    ⟨0x100050, 1, .window, [(31, 0, .wo)]⟩,
    ⟨0x100058, 1, .window, [(63, 0, .ro)]⟩,
    ⟨0x100060, 1, .window, [(63, 63, .ro), (31, 0, .ro)]⟩,
    ⟨0x100068, 1, .window, [(1, 1, .w1s), (0, 0, .w1s)]⟩,
    ⟨0x100070, 1, .window, [(11, 8, .ro), (3, 2, .ro), (1, 0, .ro)]⟩,
    ⟨0x100078, 1, .window, [(63, 32, .ro), (31, 16, .ro)]⟩ ]

/-- The rows of BAR0 block 0x200000 (Table MAPS-1). -/
def regRows02 : List RegRow :=
  [ ⟨0x200000, 1, .array, [(63, 48, .ro), (47, 32, .ro), (31, 27, .ro), (7, 7, .ro), (6, 6, .ro), (5, 5, .ro), (4, 4, .ro), (3, 3, .ro), (0, 0, .ro)]⟩,
    ⟨0x200008, 1, .array, [(7, 4, .ro), (0, 0, .w1s)]⟩,
    ⟨0x200080, 4, .array, [(63, 0, .ro)]⟩,
    ⟨0x200100, 30, .array, [(63, 56, .ro), (55, 48, .ro), (47, 40, .ro), (39, 32, .ro), (31, 24, .ro), (23, 16, .ro), (15, 8, .ro), (7, 0, .ro)]⟩,
    ⟨0x200200, 1, .array, [(31, 28, .ro), (27, 24, .ro), (23, 20, .ro), (19, 16, .ro), (15, 12, .ro), (11, 8, .ro), (7, 4, .ro), (3, 0, .ro)]⟩,
    ⟨0x200300, 8, .array, [(43, 24, .rwl), (23, 8, .rwl)]⟩,
    ⟨0x200400, 64, .array, [(57, 52, .rwl), (51, 46, .rwl), (45, 30, .rwl), (29, 14, .rwl), (13, 6, .rwl), (0, 0, .rwl)]⟩,
    ⟨0x200600, 1, .array, [(63, 63, .rwl), (61, 56, .rwl), (55, 55, .rwl), (53, 48, .rwl), (47, 47, .rwl), (45, 40, .rwl),
      (39, 39, .rwl), (37, 32, .rwl), (31, 31, .rwl), (29, 24, .rwl), (23, 23, .rwl), (21, 16, .rwl), (15, 15, .rwl),
      (13, 8, .rwl), (7, 7, .rwl), (5, 0, .rwl)]⟩,
    ⟨0x200608, 1, .array, [(47, 47, .rwl), (45, 40, .rwl), (39, 39, .rwl), (37, 32, .rwl), (31, 31, .rwl), (29, 24, .rwl),
      (23, 23, .rwl), (21, 16, .rwl), (15, 15, .rwl), (13, 8, .rwl), (7, 7, .rwl), (5, 0, .rwl)]⟩,
    ⟨0x200610, 4, .array, [(63, 63, .rwl), (61, 56, .rwl), (55, 55, .rwl), (53, 48, .rwl), (47, 47, .rwl), (45, 40, .rwl),
      (39, 39, .rwl), (37, 32, .rwl), (31, 31, .rwl), (29, 24, .rwl), (23, 23, .rwl), (21, 16, .rwl), (15, 15, .rwl),
      (13, 8, .rwl), (7, 7, .rwl), (5, 0, .rwl)]⟩,
    ⟨0x200800, 64, .array, [(63, 60, .ro), (59, 56, .ro), (55, 48, .ro), (47, 32, .ro), (31, 16, .ro), (15, 0, .ro)]⟩,
    ⟨0x208000, 4096, .array, [(63, 63, .rwl), (62, 62, .rwl), (61, 56, .rwl), (53, 48, .rwl)]⟩,
    ⟨0x210000, 4096, .array, [(63, 0, .rwl)]⟩ ]

/-- The rows of BAR0 block 0x300000 (Table MAPS-1). -/
def regRows03 : List RegRow :=
  [ ⟨0x300000, 1, .array, [(39, 32, .rwl), (27, 24, .rwl), (18, 16, .rwl)]⟩,
    ⟨0x300008, 1, .array, [(40, 32, .ro), (18, 16, .ro), (15, 0, .ro)]⟩,
    ⟨0x300010, 4, .array, [(63, 0, .ro)]⟩,
    ⟨0x300100, 1, .select, [(7, 0, .rw)]⟩,
    ⟨0x300140, 1, .window, [(63, 32, .ro), (23, 16, .ro), (15, 8, .ro), (1, 1, .ro), (0, 0, .ro)]⟩,
    ⟨0x300148, 1, .window, [(63, 32, .ro), (15, 8, .ro), (7, 0, .ro)]⟩,
    ⟨0x300150, 1, .window, [(63, 32, .ro), (31, 16, .ro), (15, 10, .ro), (9, 9, .ro), (1, 1, .ro), (0, 0, .ro)]⟩ ]

/-- The rows of BAR0 block 0x400000 (Table MAPS-1). -/
def regRows04 : List RegRow :=
  [ ⟨0x400000, 1, .array, [(41, 32, .rwl), (31, 24, .rwl), (23, 16, .rwl)]⟩,
    ⟨0x400008, 1, .array, [(63, 0, .rwl)]⟩,
    ⟨0x400010, 1, .array, [(47, 40, .ro), (31, 0, .ro)]⟩,
    ⟨0x400100, 1, .select, [(4, 0, .rw)]⟩,
    ⟨0x400140, 1, .window, [(63, 32, .ro), (31, 16, .ro), (15, 4, .ro), (0, 0, .ro)]⟩,
    ⟨0x400148, 1, .window, [(63, 48, .ro), (47, 32, .ro), (31, 16, .ro), (15, 0, .ro)]⟩ ]

/-- The rows of BAR0 block 0x500000 (Table MAPS-1). -/
def regRows05 : List RegRow :=
  [ ⟨0x500000, 1, .array, [(63, 52, .rwl), (51, 48, .rwl), (47, 32, .rwl), (31, 20, .rwl), (19, 10, .rwl), (9, 0, .rwl)]⟩,
    ⟨0x500008, 1, .array, [(63, 48, .ro), (47, 32, .ro), (31, 16, .ro), (1, 1, .ro)]⟩,
    ⟨0x500010, 1, .array, [(41, 32, .rwl), (31, 0, .rwl)]⟩,
    ⟨0x500100, 1, .select, [(3, 0, .rw)]⟩,
    ⟨0x500140, 1, .window, [(63, 52, .ro), (51, 48, .ro), (47, 40, .ro), (39, 32, .ro), (31, 28, .ro), (23, 16, .ro), (15, 0, .ro)]⟩,
    ⟨0x500148, 1, .window, [(63, 32, .ro), (31, 16, .ro), (15, 0, .ro)]⟩,
    ⟨0x500200, 1, .select, [(7, 4, .rw), (2, 0, .rw)]⟩,
    ⟨0x500240, 1, .window, [(63, 40, .ro), (31, 24, .ro), (23, 16, .ro), (15, 8, .ro), (2, 0, .ro)]⟩,
    ⟨0x508000, 4096, .array, [(19, 15, .rwl), (14, 10, .rwl), (9, 5, .rwl), (4, 0, .rwl)]⟩ ]

/-- The rows of BAR0 block 0x600000 (Table MAPS-1). -/
def regRows06 : List RegRow :=
  [ ⟨0x600000, 1, .array, [(43, 32, .rwl), (1, 1, .rwl), (0, 0, .rwl)]⟩,
    ⟨0x600008, 1, .array, [(63, 32, .ro), (31, 16, .ro), (15, 8, .ro), (0, 0, .ro)]⟩,
    ⟨0x600010, 1, .array, [(63, 63, .w1c), (62, 56, .ro), (55, 46, .ro), (45, 42, .ro), (41, 40, .ro), (39, 28, .ro), (15, 0, .ro)]⟩,
    ⟨0x600018, 1, .array, [(47, 0, .ro)]⟩,
    ⟨0x600020, 1, .array, [(63, 0, .ro)]⟩,
    ⟨0x600028, 1, .array, [(63, 54, .ro), (53, 38, .ro), (23, 8, .ro), (1, 1, .ro), (0, 0, .wo)]⟩,
    ⟨0x600030, 1, .array, [(63, 56, .ro), (47, 32, .ro), (17, 8, .rwl), (7, 0, .wo)]⟩,
    ⟨0x600080, 9, .array, [(39, 32, .rwl), (31, 16, .rwl)]⟩,
    ⟨0x600100, 1, .select, [(11, 0, .rw)]⟩,
    ⟨0x600140, 1, .window, [(63, 63, .ro), (62, 62, .ro), (61, 61, .ro), (60, 57, .ro), (56, 53, .ro), (52, 43, .ro), (15, 0, .ro)]⟩,
    ⟨0x600148, 1, .window, [(63, 32, .ro), (31, 24, .ro), (23, 0, .ro)]⟩ ]

/-- The rows of BAR0 block 0x700000 (Table MAPS-1). -/
def regRows07 : List RegRow :=
  [ ⟨0x700000, 1, .array, [(59, 48, .ro), (47, 36, .rwl), (35, 24, .ro), (23, 12, .ro)]⟩,
    ⟨0x700008, 1, .array, [(63, 61, .ro), (60, 59, .ro), (58, 58, .ro), (51, 48, .ro), (47, 44, .ro), (31, 0, .ro)]⟩,
    ⟨0x700010, 1, .array, [(63, 48, .ro), (47, 32, .ro), (31, 16, .ro)]⟩,
    ⟨0x700018, 1, .array, [(31, 0, .ro)]⟩,
    ⟨0x700020, 1, .array, [(63, 32, .ro), (31, 20, .ro), (19, 11, .ro), (7, 0, .ro)]⟩,
    ⟨0x700028, 1, .array, [(63, 56, .rwl), (55, 48, .rwl), (47, 40, .rwl), (39, 28, .rwl), (7, 4, .rwl), (3, 0, .rwl)]⟩,
    ⟨0x700030, 1, .array, [(47, 43, .ro), (42, 14, .ro), (13, 0, .rwl)]⟩,
    ⟨0x700080, 16, .array, [(63, 48, .rwl), (47, 32, .rwl), (31, 24, .rwl), (0, 0, .rwl)]⟩,
    ⟨0x700100, 1, .select, [(8, 0, .rw)]⟩,
    ⟨0x700140, 1, .window, [(1, 0, .rw)]⟩,
    ⟨0x700148, 1, .window, [(63, 60, .ro), (59, 56, .ro), (55, 44, .ro), (31, 0, .ro)]⟩,
    ⟨0x700150, 1, .window, [(63, 32, .ro)]⟩ ]

/-- The rows of BAR0 block 0x800000 (Table MAPS-1). -/
def regRows08 : List RegRow :=
  [ ⟨0x800000, 1, .array, [(63, 0, .ro)]⟩,
    ⟨0x800008, 1, .array, [(63, 0, .ro)]⟩,
    ⟨0x800010, 1, .array, [(63, 0, .ro)]⟩,
    ⟨0x800100, 1, .select, [(11, 0, .rw)]⟩,
    ⟨0x800140, 32, .window, [(63, 0, .ro)]⟩ ]

/-- The rows of BAR0 block 0x900000 (Table MAPS-1). -/
def regRows09 : List RegRow :=
  [ ⟨0x900000, 1, .array, [(63, 48, .ro), (47, 32, .ro), (31, 16, .ro)]⟩,
    ⟨0x900008, 1, .array, [(63, 32, .ro), (20, 10, .ro), (9, 0, .ro)]⟩,
    ⟨0x900010, 1, .array, [(63, 32, .ro), (31, 0, .ro)]⟩,
    ⟨0x900100, 1, .array, [(63, 0, .rw)]⟩,
    ⟨0x900108, 1, .array, [(63, 48, .rwl), (15, 0, .rwl)]⟩,
    ⟨0x900110, 1, .array, [(63, 60, .ro), (59, 56, .ro), (55, 40, .ro), (39, 24, .ro), (23, 23, .w1c), (15, 0, .ro)]⟩ ]

/-- The rows of BAR0 block 0xa00000 (Table MAPS-1). -/
def regRows0A : List RegRow :=
  [ ⟨0xa00000, 64, .array, [(2, 0, .rwl)]⟩,
    ⟨0xa00200, 64, .array, [(63, 32, .ro), (31, 20, .ro), (19, 8, .ro), (7, 4, .ro), (3, 0, .ro)]⟩,
    ⟨0xa00400, 1, .array, [(39, 32, .rwl), (31, 24, .rwl), (23, 12, .rwl), (11, 0, .rwl)]⟩,
    ⟨0xa00408, 1, .array, [(63, 32, .ro), (31, 16, .ro), (15, 0, .ro)]⟩,
    ⟨0xa00800, 256, .array, [(63, 48, .ro), (47, 40, .ro), (39, 32, .ro), (0, 0, .ro)]⟩,
    ⟨0xa01000, 1, .array, [(39, 32, .rwl), (31, 16, .rwl), (15, 0, .rwl)]⟩,
    ⟨0xa01800, 256, .array, [(63, 48, .ro), (47, 40, .ro), (39, 36, .ro), (35, 28, .ro), (27, 12, .ro)]⟩ ]

/-- The rows of BAR0 block 0xb00000 (Table MAPS-1). -/
def regRows0B : List RegRow :=
  [ ⟨0xb00000, 1, .array, [(63, 0, .ro)]⟩,
    ⟨0xb00008, 1, .array, [(63, 52, .rwl)]⟩,
    ⟨0xb00010, 1, .array, [(63, 32, .ro), (31, 16, .ro), (15, 12, .ro), (1, 0, .ro)]⟩ ]

/-- The rows of BAR0 block 0xc00000 (Table MAPS-1). -/
def regRows0C : List RegRow :=
  [ ⟨0xc00000, 1, .array, [(23, 16, .rwl), (9, 0, .rwl)]⟩,
    ⟨0xc00010, 2, .array, [(63, 48, .ro), (47, 46, .ro), (45, 44, .ro), (43, 40, .ro), (31, 0, .ro)]⟩,
    ⟨0xc00020, 2, .array, [(63, 48, .ro), (47, 32, .ro), (31, 16, .ro), (15, 0, .ro)]⟩,
    ⟨0xc00100, 128, .array, [(63, 32, .ro), (31, 20, .ro), (19, 13, .ro), (12, 9, .ro), (0, 0, .ro)]⟩,
    ⟨0xc00500, 128, .array, [(63, 0, .ro)]⟩,
    ⟨0xc10000, 1, .array, [(41, 32, .rwl), (15, 0, .rwl)]⟩,
    ⟨0xc10100, 256, .array, [(63, 32, .ro), (31, 30, .ro), (29, 29, .ro), (28, 28, .ro), (27, 27, .ro), (26, 16, .ro), (15, 0, .ro)]⟩,
    ⟨0xc10900, 32, .array, [(63, 32, .ro), (31, 20, .ro)]⟩,
    ⟨0xc20000, 1, .array, [(6, 0, .rwl)]⟩,
    ⟨0xc20100, 8, .array, [(63, 24, .ro), (23, 8, .ro), (0, 0, .ro)]⟩,
    ⟨0xc30100, 4, .array, [(63, 24, .ro), (23, 8, .ro), (0, 0, .ro)]⟩,
    ⟨0xc40010, 8, .array, [(63, 39, .ro), (38, 33, .rwl), (32, 28, .rwl), (27, 26, .ro)]⟩,
    ⟨0xc40100, 8, .array, [(63, 32, .ro), (31, 16, .ro), (15, 0, .ro)]⟩,
    ⟨0xc40200, 8, .array, [(48, 32, .rwl), (22, 16, .rwl)]⟩,
    ⟨0xc40300, 8, .array, [(63, 44, .ro), (43, 24, .ro), (23, 4, .ro), (3, 2, .ro)]⟩,
    ⟨0xc50100, 16, .array, [(63, 32, .ro), (31, 16, .ro), (6, 6, .ro), (5, 0, .rwl)]⟩ ]

/-- Table MAPS-3. -/
def regMap : List RegRow :=
  regRows00 ++ regRows01 ++ regRows02 ++ regRows03 ++ regRows04 ++ regRows05 ++
  regRows06 ++ regRows07 ++ regRows08 ++ regRows09 ++ regRows0A ++ regRows0B ++
  regRows0C

/-- The row and the instance an offset names, if any (R428). -/
def findReg (rows : List RegRow) (off : Nat) : Option (RegRow × Nat) :=
  match rows with
  | [] => none
  | r :: rs =>
    if r.off ≤ off ∧ off < r.off + 8 * r.count ∧ off % 8 = 0 then some (r, (off - r.off) / 8) else findReg rs off

end Sys2Proof.Machine
end

