-- ==== Sys2Proof/Machine/Numbers.lean ====
section
/-! DEFINITION. Number formats, exact products and rounding (04_exact_arithmetic.md). A finite value is a sign, a magnitude and
a power of two, so every product and sum is exact; one function rounds to a format. -/

namespace Sys2Proof.Machine

/-- A value: NaN, an infinity, or (−1)^neg × mag × 2^exp. -/
inductive Num where
  | nan
  | inf (neg : Bool)
  | fin (neg : Bool) (mag : Nat) (exp : Int)
  deriving DecidableEq, Repr

/-- +0. -/
def Num.zero : Num := .fin false 0 0

/-- Is the value a zero of either sign? -/
def Num.isZero (x : Num) : Bool :=
  match x with
  | .fin _ 0 _ => true
  | _ => false

/-- The value with its sign changed. -/
def Num.neg (x : Num) : Num :=
  match x with
  | .nan => .nan
  | .inf n => .inf (!n)
  | .fin n m e => .fin (!n) m e

/-- The value times 2^k. -/
def Num.scale (x : Num) (k : Int) : Num :=
  match x with
  | .fin n m e => .fin n m (e + k)
  | x => x

/-- Products of Table ARIT-5. -/
def Num.mul (x y : Num) : Num :=
  match x, y with
  | .nan, _ => .nan
  | _, .nan => .nan
  | .inf a, .inf b => .inf (a != b)
  | .inf a, .fin b m _ => if m = 0 then .nan else .inf (a != b)
  | .fin a m _, .inf b => if m = 0 then .nan else .inf (a != b)
  | .fin a m e, .fin b k f => .fin (a != b) (m * k) (e + f)

/-- The integer n × 2^s for s ≥ 0. -/
def shl (n : Nat) (s : Int) : Nat := n * 2 ^ s.toNat

/-- Exact IEEE 754 sum: zero results are +0 unless both operands are −0 (R84, R80). -/
def Num.add (x y : Num) : Num :=
  match x, y with
  | .nan, _ => .nan
  | _, .nan => .nan
  | .inf a, .inf b => if a = b then .inf a else .nan
  | .inf a, .fin _ _ _ => .inf a
  | .fin _ _ _, .inf b => .inf b
  | .fin a m e, .fin b k f =>
    let l := min e f
    let p := shl m (e - l)
    let q := shl k (f - l)
    if a = b then .fin a (p + q) l
    else if p = q then .fin false 0 l
    else if q < p then .fin a (p - q) l else .fin b (q - p) l

/-- A floating-point format: exponent bits, significand bits with the hidden one, exponent of the lowest subnormal bit, the
largest finite magnitude as (mag, exp), and whether it has infinities and NaNs. -/
structure FloatFmt where
  ebits : Nat
  prec : Nat
  emin : Int
  maxMag : Nat
  maxExp : Int
  hasInf : Bool
  hasNan : Bool
  deriving DecidableEq, Repr

/-- IEEE 754 binary32. -/
def fmtFP32 : FloatFmt := ⟨8, 24, -149, 16777215, 104, true, true⟩
/-- BF16 (Table ARIT-1). -/
def fmtBF16 : FloatFmt := ⟨8, 8, -133, 255, 120, true, true⟩
/-- FP8 E5M2. -/
def fmtE5M2 : FloatFmt := ⟨5, 3, -16, 7, 13, true, true⟩
/-- FP8 E4M3: one NaN code per sign, no infinity, 448 the largest finite value. -/
def fmtE4M3 : FloatFmt := ⟨4, 4, -9, 14, 5, false, true⟩
/-- FP6 E2M3. -/
def fmtE2M3 : FloatFmt := ⟨2, 4, -3, 15, -1, false, false⟩
/-- FP6 E3M2. -/
def fmtE3M2 : FloatFmt := ⟨3, 3, -4, 7, 2, false, false⟩
/-- FP4 E2M1. -/
def fmtE2M1 : FloatFmt := ⟨2, 2, -1, 3, 1, false, false⟩

/-- Total bits of a format. -/
def FloatFmt.bits (f : FloatFmt) : Nat := f.ebits + f.prec

/-- The value of a code of a format (Table ARIT-1). -/
def FloatFmt.decode (f : FloatFmt) (code : Nat) : Num :=
  let neg := bitOf code (f.bits - 1)
  let m := code % 2 ^ (f.prec - 1)
  let e := bitsOf code (f.bits - 2) (f.prec - 1)
  let top := 2 ^ f.ebits - 1
  if f.hasInf && e = top then (if m = 0 then .inf neg else .nan)
  else if f.hasNan && !f.hasInf && e = top && m = 2 ^ (f.prec - 1) - 1 then .nan
  else if e = 0 then .fin neg m f.emin
  else .fin neg (m + 2 ^ (f.prec - 1)) (f.emin + (e - 1 : Int))

/-- Round to nearest, ties to even, of n / 2^s. -/
def shrRne (n s : Nat) : Nat :=
  let q := n / 2 ^ s
  let r := n % 2 ^ s
  let h := 2 ^ (s - 1)
  if s = 0 then n
  else if r < h then q else if h < r then q + 1 else if q % 2 = 0 then q else q + 1

/-- The magnitude mag × 2^exp rounded to a format with an unbounded exponent: (significand, exponent) (R81). -/
def FloatFmt.roundMag (f : FloatFmt) (mag : Nat) (exp : Int) : Nat × Int :=
  if mag = 0 then (0, f.emin)
  else
    let len : Int := Nat.log2 mag + 1
    let q := max f.emin (exp + len - f.prec)
    let m := if q ≤ exp then shl mag (exp - q) else shrRne mag (q - exp).toNat
    if m = 2 ^ f.prec then (m / 2, q + 1) else (m, q)

/-- Does a rounded magnitude exceed the largest finite value (R81)? -/
def FloatFmt.overflows (f : FloatFmt) (r : Nat × Int) : Bool :=
  if r.1 = 0 then false
  else
    let l := min r.2 f.maxExp
    shl f.maxMag (f.maxExp - l) < shl r.1 (r.2 - l)

/-- The code of a rounded magnitude within range. -/
def FloatFmt.codeOf (f : FloatFmt) (neg : Bool) (r : Nat × Int) : Nat :=
  let s := b2n neg * 2 ^ (f.bits - 1)
  if r.1 < 2 ^ (f.prec - 1) then s + r.1
  else s + (r.2 - f.emin + 1).toNat * 2 ^ (f.prec - 1) + (r.1 - 2 ^ (f.prec - 1))

/-- The code of the largest finite value of a sign. -/
def FloatFmt.maxCode (f : FloatFmt) (neg : Bool) : Nat := f.codeOf neg (f.maxMag, f.maxExp)

/-- The code of an infinity. -/
def FloatFmt.infCode (f : FloatFmt) (neg : Bool) : Nat :=
  b2n neg * 2 ^ (f.bits - 1) + (2 ^ f.ebits - 1) * 2 ^ (f.prec - 1)

/-- The one NaN an output format has (Table ARIT-6): 0x7FC0_0000, 0x7FC0, 0x7F, 0x7F; E2M1 writes 0x0. -/
def FloatFmt.nanCode (f : FloatFmt) : Nat :=
  if f.hasInf then
    (if f.ebits = 8 then (2 ^ f.ebits - 1) * 2 ^ (f.prec - 1) + 2 ^ (f.prec - 2)
     else (2 ^ f.ebits - 1) * 2 ^ (f.prec - 1) + (2 ^ (f.prec - 1) - 1))
  else if f.hasNan then 2 ^ (f.bits - 1) - 1
  else 0

/-- Read-out of a value in an output format with the step's SAT bit (R81, Table ARIT-6). -/
def FloatFmt.encode (f : FloatFmt) (sat : Bool) (x : Num) : Nat :=
  match x with
  | .nan => f.nanCode
  | .inf neg =>
    if f.hasInf then f.infCode neg
    else if f.hasNan && !sat then f.nanCode else f.maxCode neg
  | .fin neg m e =>
    let r := f.roundMag m e
    if f.overflows r then
      (if sat then f.maxCode neg
       else if f.hasInf then f.infCode neg
       else if f.hasNan then f.nanCode else f.maxCode neg)
    else f.codeOf neg r

/-- The saturating conversion of a quantize operation, which takes an infinity to the largest finite element (R88). -/
def FloatFmt.encodeSat (f : FloatFmt) (x : Num) : Nat :=
  match x with
  | .inf neg => f.maxCode neg
  | x => f.encode true x

/-- A value rounded to FP32 (R76): the value of the FP32 code. -/
def roundFp32 (x : Num) : Num := fmtFP32.decode (fmtFP32.encode false x)

/-- FP32 addition of two FP32 values (R84). -/
def addFp32 (x y : Num) : Num := roundFp32 (x.add y)

/-- A two's-complement integer of `w` bits. -/
def signedOf (w v : Nat) : Int :=
  let v := v % 2 ^ w
  if v < 2 ^ (w - 1) then (v : Int) else (v : Int) - 2 ^ w

/-- The `w`-bit two's-complement code of an integer. -/
def codeOfInt (w : Nat) (i : Int) : Nat := (i % 2 ^ w).toNat

/-- An integer as a value. -/
def Num.ofInt (i : Int) (e : Int) : Num := .fin (decide (i < 0)) i.natAbs e

/-- A value as a signed integer multiple of 2^a, for a finite value with no bit below 2^a. -/
def Num.toIntAt (x : Num) (a : Int) : Int :=
  match x with
  | .fin neg m e =>
    let v := if a ≤ e then shl m (e - a) else m / 2 ^ (a - e).toNat
    if neg then -(v : Int) else v
  | _ => 0

/-- Has the finite value no set bit below 2^a? -/
def Num.divisibleAt (x : Num) (a : Int) : Bool :=
  match x with
  | .fin _ m e => a ≤ e || m % 2 ^ (a - e).toNat = 0
  | _ => false

/-- Is the magnitude of the finite value below 2^b? -/
def Num.below (x : Num) (b : Int) : Bool :=
  match x with
  | .fin _ m e => m = 0 || (Nat.log2 m : Int) + e < b
  | _ => false

/-- Format codes of Table CLUS-3: is the code reserved? -/
def fmtReserved (c : Nat) : Bool := 12 ≤ c

/-- Families of Table ARIT-2. -/
inductive Family where
  | fp8 | fp4 | bf16
  deriving DecidableEq, Repr

/-- The family of a format code. -/
def fmtFamily (c : Nat) : Family := if c < 8 then .fp8 else if c = 11 then .bf16 else .fp4

/-- Does the format carry E8M0 block scales (Table ARIT-2)? -/
def fmtScaled (c : Nat) : Bool := (3 ≤ c && c ≤ 7) || c = 9

/-- Bits of an element of a format code (Table ARIT-1). -/
def fmtBits (c : Nat) : Nat := if c = 6 || c = 7 then 6 else if c = 11 then 16 else if c < 8 then 8 else 4

/-- The value of an element (R63, Table ARIT-1, Table CLUS-3). −0 counts as +0 in every product (Table ARIT-5). -/
def decodeElem (fmt code : Nat) : Num :=
  match fmt with
  | 0 | 3 => fmtE4M3.decode code
  | 1 | 4 => fmtE5M2.decode code
  | 2 => Num.ofInt (signedOf 8 code) 0
  | 5 => Num.ofInt (signedOf 8 code) (-6)
  | 6 => fmtE2M3.decode code
  | 7 => fmtE3M2.decode code
  | 8 | 9 => fmtE2M1.decode code
  | 10 => Num.ofInt (signedOf 4 code) 0
  | _ => fmtBF16.decode code

/-- The output formats of OUT_FMT (Table CLUS-4). -/
def outFmtOf (c : Nat) : FloatFmt :=
  match c with
  | 0 => fmtFP32
  | 1 => fmtBF16
  | 2 => fmtE4M3
  | 3 => fmtE5M2
  | _ => fmtE2M1

/-- The product of an element pair with its block scales (E8M0, 0xFF is NaN, R78) and its other scales (R68). -/
def scaledProduct (aFmt wFmt aCode wCode : Nat) (aScale wScale : Option Nat) (e : Int) : Num :=
  if aScale = some 255 || wScale = some 255 then .nan
  else
    let s (o : Option Nat) : Int := match o with
      | some v => (v : Int) - 127
      | none => 0
    ((decodeElem aFmt aCode).mul (decodeElem wFmt wCode)).scale (s aScale + s wScale + e)

/-- Ordered mode (R76): products in ascending k in groups of 128, each product and each sum rounded to FP32. -/
def orderedDot (products : List Num) : Num :=
  (chunks 128 products).foldl
    (fun acc g => addFp32 acc (g.foldl (fun part p => addFp32 part (roundFp32 p)) Num.zero)) Num.zero

/-- Does a scaled product fit the window of anchor `a` (R69, R72)? -/
def fitsWindow (fp4 : Bool) (a : Int) (p : Num) : Bool :=
  p.isZero || (decide (-2048 ≤ a) && decide (a ≤ 2047) && p.divisibleAt a && p.below (a + (if fp4 then 63 else 64)))

/-- FP32 comparison: is x < y, with −0 equal to +0 and NaN unordered (R85)? -/
def Num.lt (x y : Num) : Bool :=
  match x, y with
  | .nan, _ => false
  | _, .nan => false
  | .inf a, .inf b => a && !b
  | .inf a, .fin _ _ _ => a
  | .fin _ _ _, .inf b => !b
  | .fin a m e, .fin b k f =>
    let l := min e f
    let p : Int := shl m (e - l)
    let q : Int := shl k (f - l)
    decide ((if a then -p else p) < (if b then -q else q))

/-- Equal in rank (R85). -/
def Num.eqRank (x y : Num) : Bool := x ≠ .nan && y ≠ .nan && !x.lt y && !y.lt x

/-- min of R85: the canonical NaN if either is NaN, the first operand when equal in rank. -/
def Num.minR (x y : Num) : Num := if x = .nan || y = .nan then .nan else if y.lt x then y else x

/-- max of R85. -/
def Num.maxR (x y : Num) : Num := if x = .nan || y = .nan then .nan else if x.lt y then y else x

/-- The integer square root, by digit recurrence over `fuel` bits. -/
def isqrtFuel (fuel n r : Nat) : Nat :=
  match fuel with
  | 0 => r
  | f + 1 => let t := r + 2 ^ f; isqrtFuel f n (if t * t ≤ n then t else r)

/-- Correctly rounded FP32 square root (R84). -/
def sqrtFp32 (x : Num) : Num :=
  match x with
  | .nan => .nan
  | .inf neg => if neg then .nan else .inf false
  | .fin neg m e =>
    if m = 0 then .fin neg 0 0
    else if neg then .nan
    else
      -- scale to an even exponent with at least 60 bits, then keep a sticky bit
      let k : Int := if (e % 2) = 0 then 80 else 81
      let n := shl m k
      let r := isqrtFuel ((Nat.log2 n) / 2 + 2) n 0
      let sticky := if r * r = n then 0 else 1
      roundFp32 (.fin false (2 * r + sticky) ((e - k) / 2 - 1))

/-- The FP32 code of a value. -/
def fp32Code (x : Num) : Nat := fmtFP32.encode false x

/-- The value of an FP32 code. -/
def fp32Val (c : Nat) : Num := fmtFP32.decode (c % 2 ^ 32)

/-- Floor of the binary logarithm of a positive finite value. -/
def Num.log2Floor (x : Num) : Int :=
  match x with
  | .fin _ m e => (Nat.log2 m : Int) + e
  | _ => 0

/-- Rounded to the nearest integer, ties to even. -/
def Num.toIntRne (x : Num) : Int :=
  match x with
  | .fin neg m e =>
    let v := if 0 ≤ e then shl m e else shrRne m (-e).toNat
    if neg then -(v : Int) else v
  | _ => 0

end Sys2Proof.Machine
end

