-- ==== Sys2Proof/Machine/TypesCluster.lean ====
section
/-! DEFINITION. The state of a cluster, of a partition's running step and of the package's routers and links
(02_seven_levels.md, 03_matrix_fabric.md, 05_cluster_programs.md, 18_health.md Sampled checking). -/

namespace Sys2Proof.Machine

/-- A long accumulator entry (04_exact_arithmetic.md R74): 128-bit value with its lowest bit at 2^A, and five sticky flags. In
BF16 mode the low 32 bits hold the FP32 accumulator (R83). -/
structure AccEntry where
  value : BitVec 128
  nan : Bool
  pinf : Bool
  ninf : Bool
  span : Bool
  poison : Bool
  deriving DecidableEq, Repr

/-- An empty entry. -/
def AccEntry.zero : AccEntry := ⟨0, false, false, false, false, false⟩

/-- A weight register of one array (R47): its rows, block scales and column scales as loaded, and poison. -/
structure WReg where
  rows : List Byte
  scales : List Byte
  cols : List Byte
  poison : Bool
  deriving DecidableEq, Repr

/-- A stream transfer, outstanding from its STREAM until a WAITT consumes its completion (R97). -/
structure Xfer where
  engine : Nat
  counter : Nat
  desc : List Byte           -- the stream descriptor (Table CLUS-7)
  page : Bool                -- a PAGE fill of the instruction page that does not execute (R99)
  complete : Bool            -- its completion has been counted and not yet consumed
  rgen : Nat                 -- reset generation at issue
  started : Bool             -- it was running when the governor entered HOLD (R375)
  deriving DecidableEq, Repr

/-- An output element whose SPAN flag is set, waiting for the recompute engine (R76, R77). -/
structure SpanElem where
  row : Nat                  -- row within the output tile
  col : Nat
  stepRow : Nat              -- step row number (R107)
  addr : Nat                 -- scratch byte address of its output
  outFmt : Nat
  sat : Bool
  aFmt : Nat
  wFmt : Nat
  tileScale : Int            -- ta + tw
  pairId : Nat               -- key of the pair's signature
  check : Bool               -- it belongs to a check slot
  ot : Nat                   -- output tile and cluster tile, and the K group that this cluster walked
  ct : Nat
  kg : Nat
  product : Nat              -- key of its matrix product (Cluster.productKey)
  ks : Nat                   -- K
  deriving DecidableEq, Repr

/-- Bytes of scratch that a unit accesses in one cycle: address, count, and whether it writes them. -/
abbrev Touch := Nat × Nat × Bool

/-- A scheduled unit's accesses to scratch that are still to come (R96): its place in the order of R96 (1 read-out write, 2 partial accumulation,
3 weight load, 4 activation or window read, 5 vector unit), the schedule cycle of the next one, the bytes of that and of each later cycle, and the weight
registers that it writes or selects, as 2 × array + register. -/
structure BankUse where
  order : Nat
  due : Nat
  spans : List (List Touch)
  regs : List Nat
  last : Bool                -- an accumulation that ends with a read-out
  deriving DecidableEq, Repr

/-- The binding of an output port (R105, R109): the receiving logical cluster, its input port and the stream number. -/
structure PortBind where
  dest : Nat
  dport : Nat
  stream : Nat
  deriving DecidableEq, Repr

/-- One logical cluster. -/
structure Cluster where
  scratch : List Host.Cell          -- 18 × word + symbol position; an unlisted cell reads as zero
  imem : Sparse Reg64               -- instruction memory: 4096 × page + index (R99)
  page : Nat                        -- the executing page
  pc : Nat                          -- next instruction of the page
  loops : List (Nat × Nat × Nat)    -- innermost first: first instruction, end of body, repetitions left (R99)
  stepAddr : Nat                    -- SETSTEP
  stepDesc : List Byte              -- the step descriptor read by SETSTEP (Table CLUS-4)
  pairBase : Nat                    -- SETPAIR
  weights : Sparse WReg             -- by 2 × array + register (0 WA, 1 WB)
  acc : Sparse AccEntry             -- 65536 × half + 256 × row + column (R52)
  half : Nat                        -- half that receives the running tile
  lane : Sparse AccEntry            -- 512 × set + 64 × row + column (R55)
  laneSet : Nat
  counters : Sparse Nat             -- completion counters 0-63
  xfers : List Xfer                 -- in issue order
  creditsUsed : Sparse Nat          -- per output port; credits = 8 less this (R24)
  inq : Sparse (List (List (List Byte)))  -- tokens of each input port, oldest first: header word, payload words
  seqOut : Sparse Nat               -- SEQ of the next token of each output port
  outBind : Sparse PortBind
  inBind : Sparse (Nat × Nat)       -- sending logical cluster and output port of each input port
  held : Option Instr               -- the synchronisation point the sequencer is held at (R94)
  heldAt : Nat                      -- device time at which it was held
  beginMsg : Bool                   -- the begin message of the next step has arrived
  inStep : Bool                     -- between STEP_BEGIN and STEP_END
  rowEvents : Sparse (Nat × Nat)    -- row event table: SPAN and E2M1 NaN counts by step row (R107)
  eventsSent : List (Nat × Nat × Nat)  -- row-event entries on their way to the hub: row, SPAN, NaN
  spans : List SpanElem
  sigs : Sparse (BitVec 64)         -- signatures of the step's pairs, by pair index (R393, R395)
  checkSigs : Sparse (BitVec 64)    -- signatures of the check slots, by slot
  stepSeq : Nat
  schedCycles : Nat                 -- the step record's counts so far (Table CLUS-9)
  waitToken : Nat
  waitPort : Nat
  waitCredit : Nat
  waitFinal : Nat
  waitPower : Nat                   -- wait cycles of kind Power (17_power.md R360); no field of the step record holds them
  recompCycles : Nat
  poisonOut : Nat
  poisonRows : List Nat             -- step rows with an output element written poisoned (R53)
  e2m1Nan : Nat
  spanCount : Nat
  vecBusy : Nat                     -- schedule cycle at which the vector unit is free (R100)
  roEnd : List Nat                  -- schedule cycles at which the last two read-outs end, newest first (R52)
  roReady : Nat                     -- schedule cycle at which the newest read-out's last row is in its accumulators
  arrFree : Nat                     -- schedule cycle at which the next activation row may enter
  wFree : Sparse Nat                -- per array: cycle at which its weight-load channel is free
  wUsed : Sparse Nat                -- by 2 × array + register: cycle from which a load may begin to rewrite it (R48)
  wReady : Sparse Nat               -- by 2 × array + register: cycle from which a row that selects it may enter (R48)
  paccFree : Nat                    -- schedule cycle at which a partial accumulation ends
  bankUse : List BankUse            -- accesses to come of the units at work, in order of issue
  tileProds : Sparse (List Num)     -- scaled products of the step's elements in ascending k, by prodKey (R76)
  products : List (List Byte)       -- the step descriptors of the matrix products that the step has worked on here, in order
  productOpen : Bool                -- the newest of them is the one that SETSTEP named last
  beginSeq : Nat                    -- number of the partition's step that this cluster runs
  poisonReads : List Nat            -- device addresses of poisoned words that the step's transfers read
  record : List Byte                -- the last step record written (Table CLUS-9)
  stopped : Bool                    -- the sequencer is stopped by a partition reset
  stepPending : Option Nat          -- a clock step that waits for a synchronisation point (R23)
  deriving DecidableEq, Repr

/-- A cluster after power-on or a module reset. -/
def Cluster.init : Cluster where
  scratch := []
  imem := []
  page := 0
  pc := 0
  loops := []
  stepAddr := 0
  stepDesc := []
  pairBase := 0
  weights := []
  acc := []
  half := 1
  lane := []
  laneSet := 1
  counters := []
  xfers := []
  creditsUsed := []
  inq := []
  seqOut := []
  outBind := []
  inBind := []
  held := none
  heldAt := 0
  beginMsg := false
  inStep := false
  rowEvents := []
  eventsSent := []
  spans := []
  sigs := []
  checkSigs := []
  stepSeq := 0
  schedCycles := 0
  waitToken := 0
  waitPort := 0
  waitCredit := 0
  waitFinal := 0
  waitPower := 0
  recompCycles := 0
  poisonOut := 0
  poisonRows := []
  e2m1Nan := 0
  spanCount := 0
  vecBusy := 0
  roEnd := []
  roReady := 0
  arrFree := 0
  wFree := []
  wUsed := []
  wReady := []
  paccFree := 0
  bankUse := []
  tileProds := []
  products := []
  productOpen := false
  beginSeq := 0
  poisonReads := []
  record := []
  stopped := false
  stepPending := none

/-- One arbiter's credit values by input (R28). -/
abbrev Arbiter := Sparse Int

/-- A die link or ring link (R34, R35, 12_word_code.md R260). -/
structure DieLink where
  next : Nat                       -- frame number expected next
  replays : Nat                    -- consecutive failed replays of the expected frame
  retired : Bool
  expect : Sparse Nat              -- next SEQ by 4096 × source + stream
  early : List RouterMsg           -- messages held until their SEQ is due
  delivered : List RouterMsg       -- delivered in SEQ order
  part : List (BitVec 144)         -- words received of a message whose last flit has not come
  deriving DecidableEq, Repr

/-- A link at reset. -/
def DieLink.init : DieLink := ⟨0, 0, false, [], [], [], []⟩

/-- A port token in flight between two clusters of a partition (02_seven_levels.md R22). -/
structure Token where
  dest : Nat                       -- receiving logical cluster
  dport : Nat
  src : Nat                        -- sending logical cluster
  sport : Nat
  words : List (List Byte)         -- 18-symbol words: the header, then the payload
  part : Nat                       -- its partition, and the reset generation of that when it was sent
  rgen : Nat
  deriving DecidableEq, Repr

/-- An input of a region router: its crossing queue (02_seven_levels.md R21, R24), the words of the message that its output takes flit by flit, and whether
the flits that follow belong to a message that has been dropped. -/
structure RouterIn where
  fifo : List Flit                 -- at most 8 flits
  taking : List (BitVec 144)
  dropping : Bool
  deriving DecidableEq, Repr

/-- An input at reset. -/
def RouterIn.init : RouterIn := ⟨[], [], false⟩

/-- The routers, arbiters and links of the package. -/
structure Package where
  tokens : List Token                        -- port tokens in flight, oldest first
  creditsOwed : Sparse Nat                   -- credits freed and not yet returned, by 8 × sending cluster + output port
  arbs : Sparse Arbiter                      -- by arbiter number
  granted : Sparse Nat                       -- 1 + input of each arbiter's grant that no message has used yet
  adv : Sparse Nat                           -- ACT that each arbiter's output advertises (R27)
  queued : Sparse (List (Nat × RouterMsg))   -- messages that wait for a grant of an arbiter, by arbiter: input and message, oldest first
  ins : Sparse RouterIn                      -- the inputs of the region routers, 16 × region + port
  routed : Sparse (List RouterMsg)           -- messages delivered at each router output, 16 × region + port
  placed : Sparse RouterMsg                  -- responses by the tag at which their requester places them: 2^28 × SRC + 2^16 × STREAM + SEQ (R226, R258)
  onward : Sparse (List RouterMsg)           -- messages whose route goes on over a die link, by link direction
  links : Sparse DieLink                     -- by direction: 0-3 die d to the hub, 4-7 die d to d + 1, 8-11 hub to d, 12-15 d + 1 to d
  regionBuf : List Host.Cell                 -- 18 × (2^20 × region + word) + position
  hubSram : List Host.Cell                   -- 18 × word + position
  deriving DecidableEq, Repr

end Sys2Proof.Machine
end

