-- ==== Sys2Proof/Machine/TypesHost.lean ====
section
/-! DEFINITION. The state of the host interface, the mailboxes, the clients, the requests and the fault collector
(14_host_interface.md, 15_tenancy.md, 18_health.md): plain data. A value that a register holds lives in the register file
(Regs.lean) and is not repeated here. -/

namespace Sys2Proof.Machine

/-- A segment of host memory the hub has read for `need` (R301), kept until that work ends. -/
structure RxSeg where
  fn : Nat
  addr : Nat
  need : HostNeed
  poisoned : Bool
  bytes : List Byte
  deriving DecidableEq, Repr

/-- A host read that the hub has issued and that has not completed: at most 4,096 bytes under the client's function and PASID (R244, R301). -/
structure HostRead where
  fn : Nat
  pasid : Option Nat
  addr : Nat
  len : Nat
  need : HostNeed
  deriving DecidableEq, Repr

/-- A posted write to host memory (R301, R307), with its EP bit (Table CODE-5). -/
structure DmaWrite where
  fn : Nat
  pasid : Option Nat
  addr : Nat
  ep : Bool
  bytes : List Byte
  deriving DecidableEq, Repr

/-- An MSI-X signal of a function (R309). -/
structure Irq where
  fn : Nat
  vector : Nat
  deriving DecidableEq, Repr

/-- How an access through a BAR was answered (R297, R298). -/
inductive BarAnswer where
  | data (bytes : List Byte)           -- a completion with data
  | poisonedData (bytes : List Byte)   -- a completion with the EP bit set (Table CODE-5)
  | completerAbort                     -- R298
  | unsupported                        -- Unsupported Request: an offset outside BAR4 (R294)
  | value (v : Nat)                    -- a BAR0 register read
  | retry                              -- Configuration Request Retry Status (R299)
  | configDone                         -- a configuration request completed normally
  | readyMessage                       -- the Device Readiness Status message (R299)
  deriving DecidableEq, Repr

/-- The rings of one client (R302, R314), registered by ADM_RING_CREATE. SQ_HEAD, CQ_TAIL, INFLIGHT, REG and CQ_FULL are
fields of HST_RING. -/
structure Ring where
  sqBase : Nat
  cqBase : Nat
  sqSize : Nat
  cqSize : Nat
  pasid : Option Nat
  vector : Nat
  irqCount : Nat
  irqUs : Nat
  sqTail : Nat          -- last SQ_TAIL doorbell
  cqHead : Nat          -- last CQ_HEAD doorbell
  phase : Bool          -- PHASE of the entry written next
  unsignalled : Nat     -- entries written since the last signal (R309)
  firstUnsignalled : Nat -- device time of the first of them
  deleting : Bool       -- an ADM_RING_DELETE with FORCE waits for the requests to end (R314)
  deriving DecidableEq, Repr

/-- A descriptor the hub has fetched, in ring order, waiting for admission (R304). -/
structure Fetched where
  client : Nat
  slot : Nat
  bytes : Option (List Byte)   -- none while the host read is outstanding
  poisoned : Bool
  failed : Bool                -- the host read failed
  paramFailed : Bool
  deriving DecidableEq, Repr

/-- A completion entry in production order, waiting to be written (Table HOST-8, R307). -/
structure CqEntry where
  client : Nat
  request : Nat
  status : Nat
  count : Nat
  opcode : Nat
  interim : Bool
  event : Bool
  record : Bool
  digest : Bool
  slot : Nat
  outBytes : Nat
  detail : Nat
  irq : Bool
  deriving DecidableEq, Repr

/-- A request in flight: admitted and without its final entry posted (R304). Its descriptor and parameter block are as read
at admission. -/
structure Req where
  client : Nat
  id : Nat
  slot : Nat
  opcode : Nat
  desc : List Byte
  param : List Byte
  part : Nat             -- the partition of its work (R325)
  part2 : Option Nat     -- the second partition of a search that names two slots (R325)
  admittedAt : Nat       -- device time
  order : Nat            -- admission order
  started : Bool         -- its work has started (R451)
  ran : Bool             -- the row of its opcode has run: its work is queued
  cancelAt : Option Nat  -- device time of a CANCEL (R17, R203)
  orphan : Bool          -- ends with no entry: its function was reset (R300, R314)
  ended : Bool           -- its final entry has been produced
  outBytes : Nat         -- bytes written at OUT
  recBytes : Nat         -- bytes written at REC
  inBufs : List (List Byte)    -- the buffers that its address fields name, in field order (19_security_update.md R413)
  shapes : List (List Byte)    -- entries of its digest record (Table SECU-5): shapes,
  shardRefs : List (List Byte) -- shards,
  objRefs : List (List Byte)   -- objects
  models : List Nat      -- weight sets it pinned, by their keys (R217)
  outImg : List (Nat × List Byte)  -- what has been written at OUT, oldest first: offset and bytes
  recImg : List (Nat × List Byte)  -- and at REC
  outMask : List (Nat × Nat)       -- fields of OUT that the digest takes as zero (R414): offset and length
  recMask : List (Nat × Nat)       -- and of REC
  adapter : Option (Nat × Nat × Nat) -- adapter and version it pinned, and the load that brought it (R216)
  modules : Nat          -- modules that served it
  seed : Nat             -- Philox key it drew from; 0 for none
  controls : List Bool   -- PAUSE (true) and RESUME accepted before its generation begins (R203)
  delivered : Nat        -- text tokens delivered
  remote : Option Nat    -- the module that admitted it, for work another module asked for (R330)
  span : Nat             -- elements recomputed in ordered mode for its rows (R107)
  e2m1 : Nat             -- NaN results written as E2M1 for its rows (R107)
  deriving DecidableEq, Repr

/-- The host interface. -/
structure HostIf where
  rings : Sparse Ring              -- by client
  fetched : List Fetched           -- per client in ring order
  reqs : List Req                  -- admission order
  admitted : Nat                   -- requests admitted so far
  cq : List CqEntry                -- produced, not yet written
  rx : List RxSeg                  -- host data read
  reads : List HostRead            -- host reads outstanding
  noXlat : List (Nat × Nat)        -- (function, 4 KiB page) whose translation failed (R301)
  ats : List Nat                   -- functions with ATS enabled (R301)
  texts : List (Nat × Nat × List Byte) -- bytes that Zest streams of generations have released to the host: client, stream (R212)
  dma : List DmaWrite              -- writes sent to host memory, oldest first
  irqs : List Irq                  -- MSI-X signals sent, oldest first
  answers : List BarAnswer         -- BAR and configuration answers sent, oldest first
  d3 : List Nat                    -- functions in D3hot
  vfs : Nat                        -- VFs 1 to vfs are enabled
  admCqTail : Nat                  -- next admin completion slot (R314)
  admPhase : Bool
  admPending : List (Nat × Nat × Nat)   -- deletes with FORCE that wait: client, REQUEST, slot
  arb : Sparse Int                 -- credit values of the admission arbiter (R28), by client
  linkL0 : Bool                    -- the PCIe link is in L0
  msix : Sparse Nat                -- MSI-X tables: the 32-bit word at byte offset 4 w, by 2^14 × function + w (Table MAPS-1)
  pba : Sparse Bool                -- MSI-X pending bits, by 2^14 × function + vector
  barLog2 : Nat                    -- BAR4 of the PF has 2^barLog2 bytes (R294)
  deriving DecidableEq, Repr

/-- One mailbox channel's notices, oldest first, and the internal senders that wait for room (R316). -/
structure Mailboxes where
  queues : Sparse (List (Nat × Nat))        -- (pointer, tag) by channel
  waiting : List (Nat × Nat × Nat)          -- (channel, pointer, tag) in order
  deriving DecidableEq, Repr

/-- The charges of one client (Table TNCY-5); every counter wraps modulo 2^64 or its width. -/
structure Acct where
  admitted : Nat
  succeeded : Nat
  failed : Nat
  clusterNs : Nat
  walkerNs : Nat
  gatherNs : Nat
  zestNs : Nat
  punnetNs : Nat
  medlarNs : Nat
  pipNs : Nat
  flashNs : Nat
  lpddrRd : Nat
  lpddrWr : Nat
  flashRd : Nat
  flashWr : Nat
  hostRd : Nat
  hostWr : Nat
  fabricTx : Nat
  fabricRx : Nat
  energyUj : Nat
  remoteNs : Nat
  remoteUj : Nat
  remoteBytes : Nat
  pauseNs : Nat
  pauses : Nat
  deriving DecidableEq, Repr

/-- No charge yet (15_tenancy.md, Accounting: cleared by a module reset). -/
def Acct.zero : Acct := ⟨0, 0, 0, 0, 0, 0, 0, 0, 0, 0, 0, 0, 0, 0, 0, 0, 0, 0, 0, 0, 0, 0, 0, 0, 0⟩

/-- The event log, the retirement log's run-time part and the collector's times (R382 to R387). -/
structure FaultState where
  sent : List FaultMsg                 -- messages on their way to the collector, in arrival order
  overflowed : List Nat                -- sites whose 16-message queue lost a message (R380)
  starts : Sparse Nat                  -- start of the window of each counter entry, in ns (R383)
  retiredUnits : List (Nat × Nat)      -- (site, sub-index) of every retired unit
  overflowSecond : Option Nat          -- device second of the last COUNTER_OVERFLOW (R385)
  lastIrq : Option Nat                 -- device time of the last FLT signal (R386)
  irqHeld : Bool                       -- an event waits for the 100 µs to end
  retirePending : List (Nat × Nat)     -- (logical cluster, site): retired at the next step boundary (R384)
  fetchStopped : Bool                  -- a FATAL message stopped descriptor fetching (R389)
  codeCorrectedAt : Sparse Nat         -- per site: device time + 1 of its last CODE_CORRECTED (R264)
  pulse : Bool                         -- level of PULSE
  hbAt : Option Nat                    -- device time of the last heartbeat (R388)
  hbLateSent : Bool
  coreKick : Sparse Nat                -- device time of each management core's last kick
  coreRestarting : List Nat            -- cores in their first-stage restart (R391)
  coreRestartAt : Sparse Nat           -- device time of each core's last restart
  deriving DecidableEq, Repr

end Sys2Proof.Machine
end

