-- ==== Sys2Proof/Machine/TypesMem.lean ====
section
/-! DEFINITION. The state of the memory tiers (11_memory_tiers.md, 12_word_code.md): LPDDR-6 cells, refresh, tracking and
retraining; the flash medium, its translation layer and stripes. -/

namespace Sys2Proof.Machine

/-- LPDDR-6. A cell is keyed 18 × word + symbol position (R252), the word numbered over the module: 4 × (2^27 × channel +
channel line) + word of the line (R225). An unlisted cell reads as zero; the all-zero word is a codeword (R253). -/
structure MemState where
  cells : List Host.Cell
  owner : Sparse Nat            -- 1 + owning partition by granule key 2^20 × view + granule; 0 none (R227)
  writeBack : List (Nat × List Byte)  -- corrected words that wait to be written back (R257)
  detectFrom : Sparse Nat       -- per 2 × channel + sub-channel: device time of the read that (re)started DETECT (R261)
  postponed : Sparse Nat        -- refreshes postponed, by 16 × channel + bank (R228)
  catchUp : List Nat            -- banks that must catch up before a further postponement (R228)
  managed : Sparse Nat          -- refresh management commands issued, by channel (R228)
  delay : Sparse Int            -- read delay from the trained centre, by 24 × channel + lane (R229)
  slotCorr : Sparse Nat         -- corrections by 72 × channel + 36 × sub-channel + slot (R256)
  laneSeen : Sparse Nat         -- the corrections of each lane at its channel's last tracking update, by 24 × channel + lane (R229)
  retrain : List Nat            -- sub-channels whose retrain waits for its refresh slot (R229)
  powerDown : List Nat          -- channels in power-down (Table MEMT-1)
  lastUse : Sparse Nat          -- device time of each channel's last request
  selfRefresh : Bool            -- all channels in self-refresh (Watch only)
  answers : List (Nat × Nat × List Byte)  -- words that controllers have read for a request that is not complete: requester, word, symbols
  poisonAt : List Nat           -- uncorrectable words to be overwritten with poison during a reset (R262)
  deriving DecidableEq, Repr

/-- A sector on the flash medium (Table MEMT-7): its data before encryption, and its tag. -/
structure Sector where
  data : List Byte
  lsn : Nat
  poison : Bool
  encrypted : Bool
  slc : Bool
  part : Nat
  seq : Nat
  crc : Nat             -- CRC-32C over bytes 0 to 4,107 as stored
  owner : Nat           -- the owner generation whose keys encrypt it (Table SECU-1)
  deriving DecidableEq, Repr

/-- A write that is programmed but whose map update has not reached the journal (R236). -/
structure FlashWrite where
  unit : Nat            -- logical map unit (LSN / 16)
  entry : Nat           -- map entry of its new place (Table MEMT-8)
  core : Nat
  sectors : List Sector
  deriving DecidableEq, Repr

/-- A sector as a flash core returned it (R233, R239). -/
structure SectorOut where
  lsn : Nat
  part : Nat
  data : List Byte
  poison : Bool
  deriving DecidableEq, Repr

/-- A stripe (R235), keyed by bits [34:5] of its units' map entries. -/
structure Stripe where
  units : List Nat      -- map entries written, in order
  closed : Bool         -- its parity unit is written
  copy : List (List Sector)   -- the data of its units in the hub reserve, until it closes
  parity : List (List Byte)   -- its parity unit: 16 sectors as stored
  deriving DecidableEq, Repr

/-- The flash tier. -/
structure FlashState where
  map : Sparse Nat                   -- map entry (Table MEMT-8) by logical map unit
  medium : Sparse (List Sector)      -- the 16 sectors of a physical map unit, by its map entry's place
  cond : Sparse SectorTrial          -- sectors on the medium that do not read well, by 16 × map entry + sector: how a read of them goes (R239)
  journal : List Sector              -- the translation journal's sectors, in SLC mode, oldest first: one map update each (R236)
  checkpoint : Sparse Nat            -- the map of the last checkpoint
  writes : List FlashWrite           -- issued and not yet acknowledged (R236)
  seq : Sparse Nat                   -- write sequence of each logical map unit
  stripes : Sparse Stripe            -- stripes by place
  openStripe : Option Nat            -- the TLC stripe now filled
  openSlc : Option Nat               -- the SLC stripe now filled
  erases : Sparse Nat                -- erase counts by block key, bits [24:0] of a map entry
  reads : Sparse Nat                 -- reads since the last program or scan, by block key (R238)
  relocate : List Nat                -- blocks queued for relocation (R238, R239)
  eraseAfter : List Nat              -- bits [24:5] of blocks erased once no map entry names them (Table MEMT-11)
  rebuilding : List Nat              -- retired dies being rebuilt: 16 × channel + die (R239)
  out : List SectorOut               -- sectors returned by FLASH_SECTOR_READ, oldest first
  extents : List (Nat × Nat × Nat × Bool) -- (first map unit, count, partition, SLC) given by placements
  lastTrain : Nat                    -- device time of the last periodic training (R231)
  deriving DecidableEq, Repr

end Sys2Proof.Machine
end

