-- ==== Sys2Proof/Machine/TypesWork.lean ====
section
/-! DEFINITION. The state of loaded objects and of the engines' work: objects and placements, index shards, walks, tables,
vocabularies, Zest streams, engine tasks, Medlar trees, pools, generations, passes and steps (06 to 11). -/

namespace Sys2Proof.Machine

/-- A request's name: client and request ID. -/
abbrev ReqKey := Nat × Nat

/-- A part of a placement (Table HOST-7, OP_OBJECT_PLACE): tier (0 LPDDR-6, 1 flash, 2 host), view, part number, 4 KiB
units, where the space lies (device address, first map unit) and the host extents. -/
structure PartEntry where
  tier : Nat
  view : Nat
  part : Nat
  units : Nat
  base : Nat
  extents : List (Nat × Nat)
  deriving DecidableEq, Repr

/-- An object that OP_OBJECT_PLACE placed and, perhaps, OP_OBJECT_LOAD loaded. -/
structure Obj where
  part : Nat                 -- owning partition
  places : List PartEntry
  placer : Nat               -- the client that placed it, for its host extents
  kind : Option Nat          -- kind once loaded (Table HOST-7)
  slot : Nat
  loading : Bool
  loader : ReqKey            -- the request that loads it
  digest : List Byte         -- SHAKE256-256 of the object image
  epoch : Nat
  image : List Byte          -- the object image as loaded
  tail : Sparse (List Byte)  -- rows of a table in host memory, as its load has read them
  deriving DecidableEq, Repr

/-- A loaded weight set, encoder or cross-encoder model (10_generation.md, 11_memory_tiers.md R247). -/
structure WeightSet where
  part : Nat
  object : Nat
  digest : List Byte
  contextMax : Nat
  vocab : Nat                -- V
  dims : Nat                 -- output dimensions of an encoder
  sketch : Nat               -- sketch bits of an encoder
  linMacs : Nat              -- linear MACs per row (step-time model)
  attMacs : Nat              -- attention MACs per key per row
  headMacs : Nat             -- output-head MACs of a row that samples
  weightBytes : Nat          -- weight bytes read per step
  stateBytes : Nat           -- state bytes per text token
  cacheCap : Nat             -- experts the expert cache holds
  cache : List (Nat × Nat × Nat × Nat)   -- (layer, expert, step last used, cache slot) in the expert cache (R218)
  cacheBase : Nat            -- device address of the expert cache
  cacheSlot : Nat            -- bytes of a cache slot
  cold : List (Nat × Nat × Nat × Nat)    -- (layer, expert, first sector, sectors) marked COLD (R217)
  schedule : List (Nat × Nat × Nat × Nat × Nat × Nat)  -- NEED_TAG, ISSUE_TAG, BYTES, DST, SRC_TIER, SRC (Table MEMT-10)
  current : Bool             -- false: superseded, waits for its pinned requests to drain
  deriving DecidableEq, Repr

/-- A version of an adapter (R215). -/
structure Adapter where
  part : Nat
  id : Nat
  version : Nat
  digest : List Byte
  loading : Bool
  retired : Bool
  loader : ReqKey
  serial : Nat                        -- which load brought it: what requests pin
  deriving DecidableEq, Repr

/-- A metadata record (Table SRCH-2). -/
structure Meta where
  vecSlot : Nat
  keyB : Nat
  keyA : Nat
  tags : Nat
  gen : Nat
  deriving DecidableEq, Repr

/-- A side record (Table SRCH-3); `consumed` is the epoch of the merge commit that consumed it. -/
structure SideRec where
  node : Nat
  pub : Nat
  valid : Bool
  consumed : Option Nat
  info : Meta
  sketch : List Byte
  deriving DecidableEq, Repr

/-- A section of a shard (Table SRCH-1). The sketch, adjacency and metadata arrays lie in device memory at their bases. -/
structure Section where
  nodes : Nat
  sketchBase : Nat
  adjBase : Nat
  metaBase : Nat
  tombBase : Nat
  sideBase : Nat
  logBase : Nat
  vecBase : Nat                       -- LPDDR-6 copy of the vectors, D_F bytes by node number
  entries : List Nat
  tomb : Sparse Bool                  -- tombstone bits (R116)
  side : List SideRec                 -- in append order (R117)
  delLog : Sparse Nat                 -- delete log: epoch of the deletion by node (R116)
  gens : Sparse Nat                   -- 1 + last GEN of every node number given out (R127)
  free : List Nat                     -- free list, ascending
  freeHist : List (Nat × Nat × Option Nat)  -- (node, epoch reclaimed, epoch given out again) (R123)
  fresh : Sparse Bool                 -- nodes given out since the load, of whose vectors the LPDDR-6 copy has none
  deriving DecidableEq, Repr

/-- An insert or delete admitted and not yet published (R126, R127). -/
structure IndexChange where
  client : Nat
  req : Nat
  del : Bool
  sec : Nat
  node : Nat
  gen : Nat
  fromFree : Bool
  info : Meta
  sketch : List Byte
  deriving DecidableEq, Repr

/-- What a merge build stages for a section: NODES, the entry points, as many as before since the headers of a shard agree in N_ENTRY (R113; a list that
the build leaves short is filled up with its first entry, log entry 73), the numbers it removes, those below NODES that hold no passage, and the
neighbour lists of the others. -/
structure Staged where
  nodes : Nat
  entries : List Nat
  out : List Nat
  gaps : List Nat
  absorbed : List SideRec
  lists : List (Nat × List Byte)
  deriving DecidableEq, Repr

/-- A merge in progress (R128). -/
structure Merge where
  client : Nat
  req : Nat
  e0 : Nat
  reclaim : Bool
  built : Bool
  staged : List Staged                -- the content it builds, from the snapshot at e0, section by section
  deriving DecidableEq, Repr

/-- A loaded index shard. Its number, epoch, state, sketch and degree are fields of SLO_SHARD. -/
structure Shard where
  part : Nat
  object : Nat
  degree : Nat
  sections : List Section
  seq : Nat                           -- insert sequence number (R117)
  changes : List IndexChange          -- waiting for the next publish, in admission order
  lastPublish : Nat                   -- device time
  digest : List Byte                  -- EPOCH_DIGEST (R129)
  digests : List (Nat × List Byte)    -- EPOCH_DIGEST of the epochs still pinned
  merge : Option Merge
  vecFlash : Nat                      -- first LSN of the object's extent (R241)
  df : Nat                            -- bytes of a full vector
  lpddr : Bool                        -- the vector source is LPDDR-6 (07_rerank_topk.md)
  pins : List (ReqKey × Nat)          -- (request, pinned epoch) on this module
  deriving DecidableEq, Repr

/-- A search's parameters and progress (R118, R123). -/
structure Search where
  client : Nat
  req : Nat
  slots : List Nat
  attempts : List (Nat × Nat × Nat)   -- (slot, attempt that runs, expansions of the attempts that ended)
  params : List Byte                  -- Table SRCH-4 with the pinned epochs
  sketch : List Byte
  epochs : List (Nat × Nat)           -- (slot, pinned epoch)
  results : List (Nat × List Byte)    -- (slot, shard result of R125)
  origin : Option Nat                 -- module that sent the query (QUERY_FANOUT)
  deriving DecidableEq, Repr

/-- A candidate of a walk or a survivor: distance, node and whether the sweep found it (R120, R122). -/
structure Cand where
  dist : Nat
  sec : Nat
  node : Nat
  side : Bool
  info : Meta
  deriving DecidableEq, Repr

/-- A walk (R120, R122, R130). -/
structure Walk where
  client : Nat
  req : Nat
  slot : Nat
  sec : Nat
  attempt : Nat
  beam : Nat
  order : Nat
  walker : Option Nat
  sideEnd : Nat                       -- SIDE_COUNT at the walk's start
  sideSeen : Nat                      -- records compared
  side : List Cand                    -- best k records of the sweep so far
  startedAt : Nat
  ended : Bool
  cand : List Cand
  expansions : Nat
  bursts : Nat                        -- bursts it keeps outstanding on its walker
  restarted : Bool                    -- its walker was retired under it: the next one counts a restart (Table SRCH-11)
  deriving DecidableEq, Repr

/-- Where a row of a TIERED table lies (Table TABL-4). -/
structure RowMap where
  tier : Nat
  slot : Nat
  moving : Bool
  newTier : Nat
  newSlot : Nat
  deriving DecidableEq, Repr

/-- A commit in progress (R165, R168). -/
structure TabCommit where
  client : Nat
  req : Nat
  staged : Bool                       -- step 3 is done
  clipped : Nat
  residuals : Sparse (List Int)       -- new residuals of tail rows
  rowsDigest : List Byte              -- digest of the new copy's rows in ascending order (R166)
  acks : List Nat                     -- holders that have not acknowledged
  tf : Option Nat                     -- flip time T_F
  remote : Bool                       -- this module is a holder, HOME runs the command
  deriving DecidableEq, Repr

/-- An update of a split table that HOME has forwarded (R168). -/
structure TabUpdate where
  client : Nat
  req : Nat
  asked : List Nat                    -- holders that have not answered
  taken : List Nat                    -- holders that have applied it
  stop : Option Nat                   -- the first status of a holder that has refused it
  deriving DecidableEq, Repr

/-- A table slot. EPOCH, STATE and CLIPPED are fields of TBL_TSTAT. -/
structure Table where
  object : Nat
  part : Nat
  bits : Nat
  frac : Nat
  rows : Nat
  d : Nat
  slice : Nat
  slices : Nat
  dflt : Nat
  stride : Nat
  updatable : Bool
  tiered : Bool
  cur : Nat                           -- 0 copy A, 1 copy B
  home : Nat
  codeA : Nat
  codeB : Nat
  acc : Nat
  mapBase : Nat                       -- device addresses of the row map, the residual store and the delta buffer, zero where absent
  residBase : Nat
  deltaBase : Nat
  residCap : Nat
  map : Sparse RowMap
  resid : Sparse (List Int)
  residPoison : List Nat              -- rows whose residual entry is poisoned
  delta : Sparse (List Int)           -- delta buffer: one entry per row (R165)
  updates : List TabUpdate            -- at HOME: updates that the holders have not all answered (R168)
  digest : List Byte
  digests : List (Nat × List Byte)    -- epochs still served
  commit : Option TabCommit
  pins : List (ReqKey × Nat)
  flipped : Sparse Nat                -- old epoch → device time of the flip that ended it (R168)
  freedEpochs : List Nat              -- old epochs already freed
  replacing : Bool                    -- a replacement is loading (R167)
  missedTf : Bool                     -- lookups are rejected until it is reloaded (R168)
  hotCap : Nat                        -- LPDDR-6 slots of a TIERED table
  oldSlots : List (Nat × Nat × Nat × List ReqKey) -- slots left by migrations: row, tier, slot, the lookups that may still read it (Table TABL-5)
  deriving DecidableEq, Repr

/-- One bag of a lookup being gathered (R159 to R161). -/
structure BagWork where
  client : Nat
  req : Nat
  table : Nat
  part : Nat
  epoch : Nat
  bag : Nat
  die : Nat
  items : List (Nat × Nat)            -- (row, weight BF16 code)
  zeroWeights : List Nat              -- weights of indices that took the zero row
  unit : Option Nat
  startedAt : Nat
  done : Bool
  sums : List Num                     -- exact partial sum of each element
  poison : List Bool                  -- its elements that a poisoned word fed
  bursts : Nat                        -- bursts it reads (R174)
  fault : Bool                        -- a row of it lies outside the partition's granules (R227)
  deriving DecidableEq, Repr

/-- A lookup in progress. -/
structure Lookup where
  client : Nat
  req : Nat
  table : Nat
  epoch : Nat
  bags : Nat
  invalid : List Nat                  -- INVALID of each bag
  out : List (Nat × List Byte)        -- finished bags, at a holder with their slices
  errors : List (Nat × Nat)           -- (bag, status) of bags that did not complete with ST_OK
  remoteSlices : List (Nat × Nat × List Byte)  -- (bag, slice, slice record) from other holders
  deriving DecidableEq, Repr

/-- A vocabulary (Table TEXT-1). -/
structure Vocab where
  object : Nat
  part : Nat
  pieceMax : Nat
  v : Nat
  byteBase : Nat
  ranges : List (Nat × Nat)           -- (first code point, class)
  split : Nat                         -- 256-bit SPLIT
  merges : List (Nat × Nat × Nat)     -- LEFT, RIGHT, RESULT in rank order
  strings : List (List Byte × Bool)   -- string and SPECIAL of each token
  digest : List Byte
  deriving DecidableEq, Repr

/-- A Zest stream of a client (R179 to R181). -/
structure ZStream where
  slot : Nat
  detok : Bool
  pending : List Byte                 -- bytes of an incomplete character, or bytes held back by a detokenizer
  piece : List Byte                   -- last piece so far
  pieceClass : Option Nat             -- class of its last code point
  invalid : Nat                       -- INVALID_UTF8
  deriving DecidableEq, Repr

/-- A task of a Zest or Punnet engine (R326), queued or running on an engine. -/
structure Task where
  kind : EngKind
  part : Nat
  client : Nat
  req : Nat
  order : Nat
  stream : Option Nat                 -- 64 × client + stream of a Zest command
  input : List (List Byte)            -- what it reads: Punnet: prefix, question, rank list, then the candidates' records
  engine : Option Nat
  startedAt : Nat
  deriving DecidableEq, Repr

/-- A node slot of a Medlar tree (Table TEXT-6). -/
structure MNode where
  key : Nat
  block : Nat
  depth : Nat
  parent : Nat
  ref : Nat
  used : Bool
  tier : Nat
  state : Nat                         -- 0 EMPTY, 1 VALID, 2 DEAD, 3 TOMBSTONE
  deriving DecidableEq, Repr

/-- An EMPTY slot. -/
def MNode.empty : MNode := ⟨0, 0, 0, 0, 0, false, 0, 0⟩

/-- A Medlar tree: its slots and sweep hand (R188, R192). -/
structure MTree where
  slots : Sparse MNode
  hand : Nat
  bad : Sparse Nat                    -- slots whose words memory holds bad: 0 poisoned, 1 STATE_BLOCK's word too, 2 uncorrectable, 3 uncorrectable and met (R193)
  deriving DecidableEq, Repr

/-- A tree with every slot EMPTY. -/
def MTree.empty : MTree := ⟨[], 0, []⟩

/-- A match in progress on a Medlar engine (R189). -/
structure MMatch where
  client : Nat
  req : Nat
  tree : Nat
  engine : Option Nat
  startedAt : Nat
  order : Nat
  key : Nat                           -- key of the last matched block, or the root key
  tokens : List Nat
  block : Nat                         -- block probed next
  matched : List Nat                  -- slots pinned, in order
  ended : Bool
  forGen : Bool
  deriving DecidableEq, Repr

/-- A block of an attention-state pool (R205 to R207). -/
structure PBlock where
  owner : Option ReqKey               -- the request whose private block it is
  node : Option Nat                   -- the tree slot of the node whose state block it is
  flash : Bool                        -- on flash
  restoring : Option ReqKey           -- a frame is taken and its restore runs, for that request
  frame : Nat                         -- its frame, while it is in one or its restore runs
  place : Nat                         -- its spill block, while it is on flash
  deriving DecidableEq, Repr

/-- A pool (R205). FRAMES, FREE and SPILLED are fields of MDL_PSTAT. -/
structure Pool where
  object : Nat
  part : Nat
  format : Nat                        -- Table GENS-2
  frames : Nat
  flashBlocks : Nat
  blocks : Sparse PBlock              -- by block number
  places : List PartEntry             -- the object's parts: frames in LPDDR-6, spill blocks on flash
  deriving DecidableEq, Repr

/-- A lane of a generation (R206, R209 to R212). -/
structure Lane where
  tokens : List Nat                   -- sampled text tokens
  held : List (List Byte)             -- records held back (R212), oldest first
  delivered : Nat
  ended : Option Nat                  -- END of Table GENS-10
  stop : Nat
  blocks : List Nat                   -- its own blocks, from the one that holds the end of the prompt
  copied : Bool                       -- its copy of the prompt's partly filled block has been made (R206)
  deriving DecidableEq, Repr

/-- Phases of a generation request. -/
inductive GPhase where
  | waiting | prefill | decode | ended
  deriving DecidableEq, Repr

/-- A generation request (R196 to R213). -/
structure Gen where
  client : Nat
  req : Nat
  part : Nat
  block : List Byte                   -- generation block (Table HOST-10)
  prompt : List Nat
  model : Nat
  adapter : Option (Nat × Nat × Nat)  -- pinned adapter, version and load
  pool : Nat
  cls : Nat
  order : Nat
  admittedAt : Nat
  seed : Nat
  phase : GPhase
  pos : Nat                           -- prompt tokens prefilled or matched
  blocks : List Nat                   -- prompt blocks: matched and private
  nodes : List Nat                    -- tree slots of its blocks, in order (pins)
  noOffer : Bool                      -- an offer was not taken: no later block is offered (R191)
  matched : Nat                       -- blocks matched
  reserved : Nat                      -- blocks reserved (R197)
  lanes : List Lane
  mask : Option (List Byte)           -- MASK, as read
  bias : List (Nat × Nat)             -- BIAS: token, FP32 value
  stops : List (List Nat)             -- STOPS
  hostPaused : Option Nat             -- device time of the host's pause (R203)
  controls : List Bool                -- PAUSE (true) and RESUME that act at the next boundary, in order
  schedPaused : Option Nat            -- device time of the scheduler's pause (R201)
  span : Nat
  e2m1 : Nat
  sinceProgress : Nat
  outBase : Nat                       -- offset of the token records within OUT
  outPos : Nat                        -- bytes of token records written
  recBase : Nat                       -- offset of its record within REC
  few : Bool                          -- the retrieval half ended with ST_FEW_RESULTS
  spanBefore : Nat                    -- SPAN elements of the retrieval half
  deriving DecidableEq, Repr

/-- A request waiting for, or carried by, a pass (R327). -/
structure PassRow where
  client : Nat
  req : Nat
  rows : Nat
  order : Nat
  stage : Nat                         -- 0 OP_EMBED, 1 OP_RERANK_MODEL, 3 and 10 the stages of OP_RETRIEVE
  model : Nat                         -- key of the weight set
  work : List (Nat × List Nat)        -- what its rows carry: 0 and the question's tokens, or entry and pair tokens, led by the length of the question side
  deriving DecidableEq, Repr

/-- What rows of a running step belong to: a request's rows from `first`, `count` of them; `kind` 0 pass row, 1 decode
lane row, 2 prefill chunk (R107, R200, R327). -/
structure StepRow where
  client : Nat
  req : Nat
  kind : Nat
  lane : Nat
  first : Nat
  count : Nat
  macs : Nat
  deriving DecidableEq, Repr

/-- A check of a step: selected pair, slot and checker (R393, R394). -/
structure Check where
  pair : Nat
  owner : Nat                         -- logical cluster
  checker : Nat
  slot : Nat
  voter : Option Nat                  -- physical cluster that votes
  rows : Nat × Nat                    -- step rows of the pair: first, count
  done : Bool
  deriving DecidableEq, Repr

/-- A lane of a completed step that Pip samples (R214), in row order. -/
structure PipLane where
  client : Nat
  req : Nat
  lane : Nat
  unit : Nat
  done : Bool
  poison : Bool        -- its row of the step's output is poisoned (R53)
  deriving DecidableEq, Repr

/-- A partition's scheduler state. STATE, RGEN, LAST_CAUSE and the counters are fields of CFG_PSTAT. -/
structure Part where
  program : Option Nat                -- loaded program object
  clusters : Nat                      -- cluster count of the program
  generation : Bool                   -- the program is a generation program (R327)
  queue : List PassRow                -- requests queued for a pass
  pass : List PassRow                 -- requests of the pass formed or running
  running : Option (List StepRow)     -- rows of the running step or pass
  startedAt : Nat
  stepTag : Nat
  steps : Nat                         -- matrix steps since RUN (R393)
  age : Nat                           -- matrix steps ever, by which expert caches measure use (R218)
  next : Option (List StepRow)        -- composed, begin message withheld
  withheld : List Nat                 -- why it is withheld: 0 checks, 1 sampling, 2 restore, 3 prefetch, 4 claim, 5 core, 6 nap
  groups : List (Nat × Nat × List Nat) -- expert-group descriptors of the running step: layer, expert, its rows (R218)
  prefetch : List (Nat × Nat)         -- prefetch entries issued and outstanding: entry, NEED_TAG
  waitingIssue : List Nat             -- entries whose issue waits (at most 256 outstanding)
  failedTags : List Nat               -- steps withheld whose host read failed (Table MEMT-11)
  checks : List Check
  poisonPending : List ReqKey         -- ST_POISON posted at the next boundary (R397)
  resetAt : Option Nat                -- device time of the running reset
  sampling : List PipLane             -- lanes of the completed step
  nextTag : Nat                       -- STEP_TAG of the next step, looked up at STEP_END (R370)
  lastKey : Nat                       -- phase key of the last step without STEP_TAG: 2^32 + signature (R369)
  retired : List (Nat × Nat)          -- adapter versions retired and freed: ID, version epoch (R216)
  deriving DecidableEq, Repr

/-- A partition before its program loads. -/
def Part.init : Part :=
  ⟨none, 0, false, [], [], none, 0, 0, 0, 0, none, [], [], [], [], [], [], [], none, [], 0, 0, []⟩

/-- The phase key of the next step (R369, R370). -/
def Part.phaseKey (x : Part) : Nat := if x.nextTag = 0 then x.lastKey else x.nextTag

/-- A retrieval in progress (R11). -/
structure Retrieve where
  client : Nat
  req : Nat
  stage : Nat                          -- stage that runs, 2 to 12
  ready : Bool                         -- the stage has delivered its output
  tokens : List Nat                    -- question text tokens
  vec : List Byte                      -- INT8 query vector
  sketch : List Byte
  shards : List (Nat × Nat)            -- (shard number, module)
  epochs : List (Nat × Nat)            -- (shard number, pinned epoch)
  digests : List (Nat × List Byte)     -- (shard number, index epoch digest)
  lists : List (Nat × List Byte)       -- participant's list in the current collective
  list1 : List Byte                    -- after the first merge
  list2 : List Byte                    -- after the second merge
  list3 : List Byte                    -- after the cross-encoder
  valids : List Nat
  records : List (Nat × List Byte)     -- passage text records by handle
  few : Bool
  span : Nat
  e2m1 : Nat
  stale : Nat
  nanScores : Nat
  error : Option Nat
  packed : List Byte                   -- pack tokens, then the source map and pack record
  packTokens : List Nat
  packRecord : List Byte
  sourceMap : List Byte
  matchBlocks : Nat
  matchNodes : List Nat                -- nodes pinned by the match
  tree : Nat                           -- and their tree
  deriving DecidableEq, Repr

/-- An empty retrieval at stage 2. -/
def Retrieve.fresh (c req : Nat) (shards : List (Nat × Nat)) : Retrieve where
  client := c
  req := req
  stage := 2
  ready := false
  tokens := []
  vec := []
  sketch := []
  shards := shards
  epochs := []
  digests := []
  lists := []
  list1 := []
  list2 := []
  list3 := []
  valids := []
  records := []
  few := false
  span := 0
  e2m1 := 0
  stale := 0
  nanScores := 0
  error := none
  packed := []
  packTokens := []
  packRecord := []
  sourceMap := []
  matchBlocks := 0
  matchNodes := []
  tree := 0

end Sys2Proof.Machine
end

