-- ==== Sys2Proof/Machine/TypesSys.lean ====
section
/-! DEFINITION. The state of the fabric, device time, power, checking and ageing, the NOR, attestation, update and the board
pins (13, 16, 17, 18, 19, 21). A value that a register holds lives in the register file and is not repeated here. -/

namespace Sys2Proof.Machine

/-- A numbered frame that has been sent and is not acknowledged (13_optical_fabric.md R279): its number, its message words, and the messages that have a
word in it. -/
structure TxFrame where
  number : Nat
  words : List (List Byte)
  msgs : List FabMsg
  deriving DecidableEq, Repr

/-- A Willith port (13_optical_fabric.md). Its STATE, peer, lanes and counters are fields of OPT_PSTAT and OPT_PCNT. -/
structure Port where
  credits : List Nat              -- free words of the peer by VC (R273)
  owed : List Nat                 -- words freed since the last link control word, by VC
  rxNext : Nat                    -- frame number expected next (R279)
  nak : Bool                      -- NAK is set in the link control words sent
  failures : Nat                  -- consecutive failures of the expected frame
  failLane : Option Nat           -- the one lane of every failing codeword so far
  mixed : Bool                    -- failures lay on more than one lane, or in no codeword
  txNext : Nat                    -- number of the next numbered frame
  replay : List TxFrame           -- unacknowledged frames, oldest first (R279)
  ackAt : Nat                     -- device time at which ACK last advanced
  queue : List (Nat × FabMsg)     -- messages waiting, each with its input: 0 the hub, 1 + p port p
  arb : Sparse Int                -- credit values of its output arbiter (R28)
  dark : Bool                     -- the peer sent DARK (R285)
  sentDark : Bool
  handover : Option (Nat × Nat)   -- lane handed over and the device time it began (R283)
  hoBack : Option (Nat × Nat)     -- lane whose HO_LOCK has come, and its device time: full frames resume 8 frames later (R283)
  hoFails : Sparse Nat            -- failed hand-overs in a row, by lane (R284)
  peerLane : Option Nat           -- lane the peer hands over
  hoLockSet : Option Nat          -- lane for which HO_LOCK is set in link control words
  hoReqSet : List Nat             -- lanes for which HO_REQ is set in link control words
  hoAsk : List Nat                -- lanes asked of the peer by HO_REQ
  fbLane : Nat                    -- FB_LANE of the next frame
  lockFails : Sparse Nat          -- lane → failed training attempts
  peerRetired : Nat               -- mask of retired lanes of the peer's hello word (R276)
  downAt : Nat                    -- device time of the last failed training
  replayMs : Option Nat           -- device millisecond of the last FRAME_REPLAY message
  sent : List Frame               -- frames sent, oldest first: what went out on the port
  linkNews : List Nat             -- what the last link control word said, but for CREDIT, FB_LANE, FB_ERR and FRAME
  txRest : List (List Byte)       -- words of the message being sent that no frame has taken yet
  txMsg : Option FabMsg           -- that message
  rxPart : List (List Byte × Bool) -- words received of a message whose last word has not come: data and POISON
  fbErr : Sparse Nat              -- last FB_ERR that the peer reported, by lane (R271, R282)
  hello : BitVec 128              -- the hello word that this end sends (R276); 0 before its first training
  deriving DecidableEq, Repr

/-- A port before training. -/
def Port.init : Port where
  credits := [0, 0, 0, 0]
  owed := [0, 0, 0, 0]
  rxNext := 0
  nak := false
  failures := 0
  failLane := none
  mixed := false
  txNext := 0
  replay := []
  ackAt := 0
  queue := []
  arb := []
  dark := false
  sentDark := false
  handover := none
  hoBack := none
  hoFails := []
  peerLane := none
  hoLockSet := none
  hoReqSet := []
  hoAsk := []
  fbLane := 0
  lockFails := []
  peerRetired := 0
  downAt := 0
  replayMs := none
  sent := []
  linkNews := []
  txRest := []
  txMsg := none
  rxPart := []
  fbErr := []
  hello := 0

/-- A collective at its root (13_optical_fabric.md R286, R287, 07_rerank_topk.md R142). -/
structure Coll where
  client : Nat
  req : Nat
  k : Nat
  keyType : Nat
  participants : List Nat             -- every participant, the root among them
  order : List (Nat × Nat)            -- (module, device time of the work sent to it)
  frags : List (Nat × Nat × Nat × Nat × List (BitVec 128)) -- (module, index, count, K − 1, words)
  lists : List (Nat × List Byte)      -- complete contributed lists
  gone : List Nat                     -- participants declared unreachable
  failed : List (Nat × Nat)           -- participants that reported an error, with its status
  all : Bool                          -- ALL delivery
  done : Bool
  deriving DecidableEq, Repr

/-- Work this module does for a request that another module admitted (R13, R330). -/
structure Remote where
  src : Nat
  client : Nat
  req : Nat
  local_ : Nat × Nat                  -- the key of the local request record that carries it: a client number of 4096 or above
  ns : Nat
  uj : Nat
  bytes : Nat
  deriving DecidableEq, Repr

/-- What the time master holds of a module ID (R278). -/
structure CensusEntry where
  serial : Nat
  at_ : Nat
  conflictUntil : Option Nat
  deriving DecidableEq, Repr

/-- A gap in a stream (R275). -/
structure Gap where
  src : Nat
  master : Nat
  stream : Nat
  since : Nat
  deriving DecidableEq, Repr

/-- The fabric and device time. -/
structure FabState where
  ports : Sparse Port
  inbox : List (Nat × FabMsg)          -- (input, message) delivered in stream order or in transit, waiting to be acted on; input 1 + port
  expect : Sparse Nat                  -- next SEQ by stream key
  early : List (Nat × FabMsg)          -- messages held until their SEQ is due (R275)
  gaps : List Gap
  seqOut : Sparse Nat                  -- next SEQ sent by 4096 × master + stream
  opened : List (Nat × Nat × Nat)      -- (source module, first granule key, count) of R272
  readData : List FabMsg               -- READ_RSP messages placed by (stream, seq), in arrival order
  colls : List Coll
  results : List (Nat × Nat × Nat × Nat × List (BitVec 128)) -- RESULT fragments: (request, source, index, count, words)
  remotes : List Remote
  isolated : Bool                      -- ISOLATED under R278
  census : Sparse CensusEntry          -- by module ID, at the time master
  censusAt : Option Nat                -- device time of the last census sent
  censusWait : Bool                    -- its answer has not come
  grants : List (Nat × Nat)            -- at the lead: grants of this period (module, step)
  period : Nat                         -- number of the open period (R288)
  members : List Nat                   -- modules of the job: those a grant has come from, at the lead
  ownGrant : Nat
  result : Option (Nat × Nat)          -- agreed step and its effect time
  agreed : Bool                        -- an agreed step has taken effect
  decided : Bool
  rate : Int                           -- correction of the rate of TIM_NOW: ns per 10 ms, −1000 to 1000 (R290)
  frac : Int                           -- the part of a nanosecond the rate has accumulated, in 10^-7 ns
  exchanges : List (Nat × Int)         -- (delay, offset) of the last 8 exchanges (R289)
  asked : Option Nat                   -- t1 of the TIME exchange that is open: when the frame with its request went out
  askOut : Bool                        -- its request waits to go out
  answered : Option (Nat × Nat × BitVec 128) -- its answer: port, t4, payload word 1 (R289)
  timeSet : Bool                       -- TIM_NOW has been set by an offset or by the host
  work : List FabMsg                   -- parts of hub-to-hub work messages whose last part has not come
  deriving DecidableEq, Repr

/-- An entry of the governor's phase table (17_power.md R369): power per cluster in mW by step; unobserved steps absent. -/
structure Phase where
  part : Nat
  tag : Nat                            -- STEP_TAG, or 2^32 + signature
  powers : Sparse Nat
  used : Nat                           -- device time of its last use
  deriving DecidableEq, Repr

/-- Energy of a step or of a request's tasks that is not posted yet (15_tenancy.md R329, R331). -/
structure EnergyUse where
  step : Option Nat                    -- the partition of a step; none for the tasks of one request
  rows : List StepRow                  -- what the energy is split among: the step's rows, or one row of the request
  ended : Bool                         -- the step is over
  uj : Nat                             -- calibrated, of the windows before, µJ
  nj : Nat                             -- estimated in this window, nJ
  deriving DecidableEq, Repr

/-- Power. Caps, states and refusals are registers. -/
structure PowerState where
  diesOn : Bool                        -- the compute dies are powered
  opticsOn : Bool
  napPending : List Nat                -- domains whose Nap has been asked for and not entered
  waking : List Nat                    -- domains on their way back to Run
  watchAsked : Option Nat              -- client of the ENTER_WATCH whose completion starts the entry; 4096 board manager
  watchWaking : Bool
  coreStop : Bool                      -- management cores 1-7 stopped in Watch
  phases : List Phase
  fixed : List (Nat × Sparse Nat)      -- fixed load observed: (device time, mW by group of unitGroup), newest first
  plan : Sparse Nat                    -- planned step + 1 by partition
  shares : Sparse Nat                  -- mW by region
  estimate : Nat                       -- estimated energy since the last tick, nJ
  groupEst : Sparse Nat                -- the parts of it spent outside clusters, nJ by group
  uses : List EnergyUse                -- energy of steps and tasks that is not posted yet
  lowered : Sparse Nat                 -- steps a die's partitions are lowered by throttling
  capAt : Nat                          -- effective cap now in force
  lastMeas : Nat                       -- energy measured at the input rail over the last window, µJ
  underSince : Option Nat              -- device time since which measured power is below the cap
  breakPeriod : Option Nat             -- period in which a lock break was counted
  cool : Bool                          -- at the last tick every die was 10 °C below T_THROTTLE (R372)
  deriving DecidableEq, Repr

/-- A vote placed on a physical cluster (18_health.md R396). -/
structure Vote where
  part : Nat
  pair : Nat
  voter : Nat
  deriving DecidableEq, Repr

/-- A margin plan of the ageing log (R404): run hours, V_min and g in 2.5 mV, STEP_CEIL and the ring-oscillator reading. -/
structure Plan where
  hours : Nat
  vMin : Nat
  guard : Nat
  ceil : Nat
  osc : Int
  deriving DecidableEq, Repr

/-- In-service test and ageing (18_health.md). -/
structure HealthState where
  roundAt : Sparse Nat                 -- device time of the last complete round, by physical cluster
  claimAt : Sparse Nat                 -- 1 + device time at which the present slice began
  claimed : Sparse (List (Nat × Nat))  -- (start, length) of slices in the last 100 s
  lastBusy : Sparse Nat                -- device time at which a cluster outside partitions last ended a slice or a vote
  plans : Sparse (List Plan)           -- last 30 plans by physical cluster, newest first
  planAt : Sparse Nat                  -- device time of the last plan
  early : List Nat                     -- clusters whose early plan is due (R402)
  votes : List Vote
  deriving DecidableEq, Repr

/-- A 64-byte log entry (16_boot_config.md R343). -/
structure LogEntry where
  typ : Nat
  site : Nat
  start : Nat
  time : Nat
  payload : List Byte
  deriving DecidableEq, Repr

/-- Pieces of an image written into the slot of a component that is not running (19_security_update.md R420). -/
structure SlotWrite where
  component : Nat
  slot : Nat
  data : List Byte
  deriving DecidableEq, Repr

/-- What the module itself writes to, and holds of, the NOR (16_boot_config.md): counters, boot header, logs, update progress and
slot contents. -/
structure NorState where
  counters : Sparse Nat                -- monotonic counters 0-3 (Table BOOT-2)
  bootSeq : Nat
  fwActive : Nat                       -- active slot of the boot header: 0 A, 1 B
  cfgActive : Nat
  retireLog : List LogEntry
  eventLog : List LogEntry
  ageLog : List LogEntry
  progress : List (Nat × List Byte × Nat)  -- progress entries: component, image DIGEST, next piece
  slots : List SlotWrite
  deriving DecidableEq, Repr

/-- What start-up has found (16_boot_config.md Table BOOT-7), and the measurements taken once per start (Table SECU-3). -/
structure BootState where
  running : Bool                       -- start-up is running
  refAt : Option Nat                   -- device time of its reference
  pub : List Byte                      -- public half of the identity key the PUF regenerated
  pubDigest : List Byte                -- PUB_DIGEST of the identity record
  ownerKey : List Byte
  ownerGen : Nat
  fwDigest : List Byte                 -- DIGEST of the running firmware's signed-section header
  cfgDigest : List Byte
  idDigest : List Byte
  testDigest : List Byte
  ownerDigest : List Byte
  debugUnlock : Option (List Byte)           -- DIGEST of the debug section, where one is present
  serial : Nat                         -- values found and not yet loaded into the registers (R346)
  grade : Nat
  stepping : Nat
  test : TestRecord
  image : ConfigImage
  good : List Nat                      -- good masks and cluster map after the retirement log (R344)
  map : List Nat
  trimmed : Bool                       -- the owner generation rose: every flash unit is trimmed (R409)
  portsUpAt : Option Nat
  deriving DecidableEq, Repr

/-- A digest leaf (19_security_update.md R416). -/
structure Leaf where
  client : Nat
  req : Nat
  digest : List Byte
  record : List Byte
  deriving DecidableEq, Repr

/-- A closed batch (R416). -/
structure Batch where
  seq : Nat
  closeAt : Nat
  leaves : List Leaf
  signature : Option (List Byte)
  deriving DecidableEq, Repr

/-- An answer of the SPDM responder or the PLDM firmware device. -/
inductive MgmtAnswer where
  | version (v : Nat)
  | capabilities (cert chal meas keyEx : Bool)
  | algorithms (asym hash : Nat)
  | digests (slot : Nat) (digest : List Byte)
  | certificate (offset : Nat) (bytes : List Byte)
  | challengeAuth (slot : Nat) (nonce measurements signature : List Byte)
  | measurements (index : Nat) (nonce block signature : List Byte)
  | keyExchangeRsp (session : Nat) (dhe : List Byte)
  | finishRsp (session : Nat)
  | endSessionAck (session : Nat)
  | spdmError (code : Nat)
  | identifiers (serial : Nat)
  | parameters (fwSvn cfgSvn : Nat) (fwPending cfgPending : Bool)
  | pldmAccept (command resumeAt : Nat)
  | pldmError (command code : Nat)
  | requestData (component piece : Nat)
  | transferComplete (component : Nat) (ok : Bool)
  | verifyComplete (component : Nat) (ok : Bool)
  | applyComplete (component : Nat) (ok : Bool)
  | activateTime (seconds : Nat)
  | status (fwState cfgState : Nat)
  | notReady
  deriving DecidableEq, Repr

/-- Attestation and digests. SEC_BATCH and SEC_DSTORE hold the open batch's number, its leaves and the counts. -/
structure SecState where
  negotiated : Nat                     -- 0 nothing, 1 version, 2 capabilities, 3 algorithms
  sessions : List (Nat × Bool)         -- session and whether FINISH has come
  openBatch : List Leaf
  openedAt : Nat
  closed : List Batch                  -- awaiting signature, in order
  signed : List Batch                  -- signed, with records still held
  store : List (Nat × Nat)             -- the digest store's records in ring order: batch and leaf
  storeBytes : Nat
  reads : List (Nat × Nat × Nat)       -- OP_DIGEST_READs waiting: client, request, target request
  answers : List MgmtAnswer
  deriving DecidableEq, Repr

/-- The transfer of one component (19_security_update.md R419, R420). Its state and next piece are fields of UPD_STAT. -/
structure CompUpd where
  digest : List Byte
  svn : Nat                            -- SVN of the section received
  active : Bool                        -- UpdateComponent has started the transfer
  data : List Byte                     -- the component image received so far
  failures : Nat                       -- failures of the piece now asked for
  deriving DecidableEq, Repr

/-- Update and activation. -/
structure UpdState where
  comps : Sparse CompUpd
  session : Bool                       -- RequestUpdate accepted
  checked : Bool                       -- T − 5 s has passed with an eligible slot
  draining : Option Nat                -- T, once the activation has started
  writing : Bool                       -- a firmware image is being written
  deriving DecidableEq, Repr

/-- The tray's pins and the board manager's settings (21_module_hardware.md). -/
structure BoardState where
  pwrGood : Bool
  perstHigh : Bool                     -- PERST_N is released
  off : Bool
  locate : Bool
  i3cAddr : Option Nat
  wakeN : Option Nat                   -- device time at which WAKE_N was asserted
  thermAlert : Bool
  deriving DecidableEq, Repr

end Sys2Proof.Machine
end

