-- ==== Sys2Proof/Machine/State.lean ====
section
/-! DEFINITION. The state of the module: plain data, all that the spec gives the machine, and the queue of commands that
wait; the reasons a step can stop; the state after reset. -/

namespace Sys2Proof.Machine

/-- Reasons a command stops the machine with a fault. No rule of the spec gives a command of this module no effect, so no
meaning raises one; the type has one constructor because the interface asks for a type of faults. Safe: nothing raises it. -/
inductive Fault where
  /-- Raised by no command (safe). -/
  | none
  deriving DecidableEq, Repr

/-- Reasons a command is refused. -/
inductive Refusal where
  /-- Raised by exec for a command whose meaning is not written; the machine stops there (safe). -/
  | notModelled (mnemonic : String)
  deriving DecidableEq, Repr

/-- The state of the module. -/
structure State where
  pending : List Instr                 -- commands that wait, first in, first out
  freeCtr : Nat                        -- the model's own: numbers the free values drawn (not the spec's)
  now : Nat                            -- TIM_NOW (13_optical_fabric.md), modulo 2^64
  regs : Sparse Reg64                  -- every BAR0 register by its key (Ops.regKey)
  host : HostIf
  mbx : Mailboxes
  accts : Sparse Acct                  -- by client (15_tenancy.md)
  snaps : Sparse (List Byte)           -- ACC_REC snapshot by accessor (R432)
  faults : FaultState
  mem : MemState
  flash : FlashState
  clusters : Sparse Cluster            -- by logical cluster
  pkg : Package
  parts : Sparse Part                  -- by partition
  objs : Sparse Obj                    -- by object ID; a table's replacement that loads at 2^40 + object ID; superseded versions above 2^41
  weights : Sparse WeightSet           -- by 2^32 × object ID + load count of the object
  adapters : List Adapter
  shards : Sparse Shard                -- by shard slot
  searches : List Search
  walks : List Walk
  walkOrder : Nat
  tables : Sparse Table                -- by table slot; superseded versions that lookups still read above 2^41 (R167)
  lookups : List Lookup
  bags : List BagWork
  vocabs : Sparse Vocab                -- by table slot
  streams : Sparse ZStream             -- by 64 × client + stream
  tasks : List Task                    -- engine tasks in order of admission
  trees : Sparse MTree                 -- by tree
  probes : List MMatch
  pools : Sparse Pool                  -- by pool
  gens : List Gen
  retrieves : List Retrieve
  fab : FabState
  power : PowerState
  health : HealthState
  nor : NorState
  boot : BootState
  sec : SecState
  upd : UpdState
  board : BoardState
  deriving DecidableEq, Repr

/-- The host interface after reset. -/
def HostIf.reset : HostIf where
  rings := []
  fetched := []
  reqs := []
  admitted := 0
  cq := []
  rx := []
  reads := []
  noXlat := []
  ats := []
  texts := []
  dma := []
  irqs := []
  answers := []
  d3 := []
  vfs := 0
  admCqTail := 0
  admPhase := true
  admPending := []
  arb := []
  linkL0 := false
  msix := []
  pba := []
  barLog2 := 36

/-- The fault collector after reset. -/
def FaultState.reset : FaultState where
  sent := []
  overflowed := []
  starts := []
  retiredUnits := []
  overflowSecond := none
  lastIrq := none
  irqHeld := false
  retirePending := []
  fetchStopped := false
  codeCorrectedAt := []
  pulse := false
  hbAt := none
  hbLateSent := false
  coreKick := []
  coreRestarting := []
  coreRestartAt := []

/-- LPDDR-6 after reset. -/
def MemState.reset : MemState where
  cells := []
  owner := []
  writeBack := []
  detectFrom := []
  postponed := []
  catchUp := []
  managed := []
  delay := []
  slotCorr := []
  laneSeen := []
  retrain := []
  powerDown := []
  lastUse := []
  selfRefresh := false
  answers := []
  poisonAt := []

/-- Flash after reset: nothing written. -/
def FlashState.reset : FlashState where
  map := []
  medium := []
  cond := []
  journal := []
  checkpoint := []
  writes := []
  seq := []
  stripes := []
  openStripe := none
  openSlc := none
  erases := []
  reads := []
  relocate := []
  eraseAfter := []
  rebuilding := []
  out := []
  extents := []
  lastTrain := 0

/-- The fabric after reset. -/
def FabState.reset : FabState where
  ports := []
  inbox := []
  expect := []
  early := []
  gaps := []
  seqOut := []
  opened := []
  readData := []
  colls := []
  results := []
  remotes := []
  isolated := false
  census := []
  censusAt := none
  censusWait := false
  grants := []
  period := 0
  members := []
  ownGrant := 0
  result := none
  agreed := false
  decided := false
  rate := 0
  frac := 0
  exchanges := []
  asked := none
  askOut := false
  answered := none
  timeSet := false
  work := []

/-- Power after reset. -/
def PowerState.reset : PowerState where
  diesOn := false
  opticsOn := false
  napPending := []
  waking := []
  watchAsked := none
  watchWaking := false
  coreStop := false
  phases := []
  fixed := []
  plan := []
  shares := []
  estimate := 0
  groupEst := []
  uses := []
  lowered := []
  capAt := 0
  lastMeas := 0
  underSince := none
  breakPeriod := none
  cool := false

/-- Checking and ageing after reset. -/
def HealthState.reset : HealthState where
  roundAt := []
  claimAt := []
  claimed := []
  lastBusy := []
  plans := []
  planAt := []
  early := []
  votes := []

/-- What the module holds of the NOR; counters and slots are those of a module that has never been started after reset. -/
def NorState.reset : NorState where
  counters := []
  bootSeq := 0
  fwActive := 0
  cfgActive := 0
  retireLog := []
  eventLog := []
  ageLog := []
  progress := []
  slots := []

/-- Start-up after reset. -/
def BootState.reset : BootState where
  running := false
  refAt := none
  pub := []
  pubDigest := []
  ownerKey := []
  ownerGen := 0
  fwDigest := []
  cfgDigest := []
  idDigest := []
  testDigest := []
  ownerDigest := []
  debugUnlock := none
  serial := 0
  grade := 0
  stepping := 0
  test := ⟨[], [], [], [], [], [], 0⟩
  image := ⟨[], [], [], false⟩
  good := []
  map := []
  trimmed := false
  portsUpAt := none

/-- Attestation after reset. -/
def SecState.reset : SecState where
  negotiated := 0
  sessions := []
  openBatch := []
  openedAt := 0
  closed := []
  signed := []
  store := []
  storeBytes := 0
  reads := []
  answers := []

/-- Update after reset. -/
def UpdState.reset : UpdState where
  comps := []
  session := false
  checked := false
  draining := none
  writing := false

/-- The pins: the hub has no power yet after reset. -/
def BoardState.reset : BoardState where
  pwrGood := false
  perstHigh := false
  off := true
  locate := false
  i3cAddr := none
  wakeN := none
  thermAlert := false

/-- The state after reset (values that the spec does not give: DESIGN CHOICE, log entries 2 and 3): start-up has not begun, every register holds its reset value (0, or img which reads as zero until
the image has loaded, R9), nothing is queued, loaded or in flight. -/
def State.reset : State where
  pending := []
  freeCtr := 0
  now := 0
  regs := []
  host := HostIf.reset
  mbx := ⟨[], []⟩
  accts := []
  snaps := []
  faults := FaultState.reset
  mem := MemState.reset
  flash := FlashState.reset
  clusters := []
  pkg := ⟨[], [], [], [], [], [], [], [], [], [], [], [], []⟩
  parts := []
  objs := []
  weights := []
  adapters := []
  shards := []
  searches := []
  walks := []
  walkOrder := 0
  tables := []
  lookups := []
  bags := []
  vocabs := []
  streams := []
  tasks := []
  trees := []
  probes := []
  pools := []
  gens := []
  retrieves := []
  fab := FabState.reset
  power := PowerState.reset
  health := HealthState.reset
  nor := NorState.reset
  boot := BootState.reset
  sec := SecState.reset
  upd := UpdState.reset
  board := BoardState.reset

end Sys2Proof.Machine
end

