-- ==== Sys2Proof/Machine/WordCode.lean ====
section
/-! DEFINITION. The word code (12_word_code.md R252 to R256): Reed–Solomon over GF(2^8) with field polynomial 0x11D. A word
is the list of its 18 symbols by position: C0, C1, then data bytes 0 to 15. -/

namespace Sys2Proof.Machine

/-- Multiplication by α = 0x02 in GF(2^8) (R252). -/
def gfX (a : Byte) : Byte := if a.toNat < 128 then a <<< 1 else (a <<< 1) ^^^ 0x1D#8

/-- α^n × a. -/
def gfPow (n : Nat) (a : Byte) : Byte :=
  match n with
  | 0 => a
  | n + 1 => gfX (gfPow n a)

/-- One step of the division of D(x) × x² by g(x) = x² + 0x03 x + 0x02 (R253); the state is (C1, C0). -/
def encStep (r : Byte × Byte) (d : Byte) : Byte × Byte :=
  let f := d ^^^ r.1
  (r.2 ^^^ gfX f ^^^ f, gfX f)

/-- The check symbols (C0, C1) of 16 data bytes (R253). -/
def checkSyms (data : List Byte) : Byte × Byte :=
  let r := data.reverse.foldl encStep (0, 0)
  (r.2, r.1)

/-- The codeword of 16 data bytes (R253). -/
def encodeWord (data : List Byte) : List Byte :=
  let c := checkSyms data
  c.1 :: c.2 :: data

/-- A poisoned word with data zero, as every unit that creates poison writes it (R255). -/
def poisonWord : List Byte := 1#8 :: 1#8 :: List.replicate 16 0#8

/-- The poisoned form of 16 data bytes: the encoder's check symbols each XOR 0x01 (R255). -/
def poisonOf (data : List Byte) : List Byte :=
  let c := checkSyms data
  (c.1 ^^^ 1#8) :: (c.2 ^^^ 1#8) :: data

/-- The symbols of a word given as 144 bits (Table CODE-1). -/
def symsOf (n : Nat) : List Byte := BitVec.ofNat 8 (n / 2 ^ 128) :: BitVec.ofNat 8 (n / 2 ^ 136) :: leBytes 16 n

/-- The 144 bits of a word's symbols (Table CODE-1). -/
def bitsOfSyms (w : List Byte) : Nat := leNat (w.drop 2) % 2 ^ 128 + 2 ^ 128 * (w.getD 0 0).toNat + 2 ^ 136 * (w.getD 1 0).toNat

/-- The syndrome S0 = c(1). -/
def synd0 (w : List Byte) : Byte := w.foldl (· ^^^ ·) 0

/-- The syndrome S1 = c(α). -/
def synd1 (w : List Byte) : Byte := w.foldr (fun c acc => gfX acc ^^^ c) 0

/-- The classes of Table CODE-2. -/
inductive WordClass where
  | clean
  | poison
  | single (pos : Nat) (err : Byte)
  | uncorrectable
  deriving DecidableEq, Repr

/-- The class of a received word: the first row of Table CODE-2 that matches (R254). -/
def classify (w : List Byte) : WordClass :=
  let s0 := synd0 w
  let s1 := synd1 w
  if s0 = 0 ∧ s1 = 0 then .clean
  else if s0 = 0 ∧ s1 = 3#8 then .poison
  else if s0 = 0 then .uncorrectable
  else match (List.range 18).find? (fun p => gfPow p s0 == s1) with
    | some p => .single p s0
    | none => .uncorrectable

/-- XORs error value `e` into the symbol at position `p`. -/
def xorAt (w : List Byte) (p : Nat) (e : Byte) : List Byte := w.modify p (· ^^^ e)

/-- What a decoder delivers (R254). -/
inductive Decoded where
  | word (data : List Byte) (corrected : Option Nat)   -- 16 data bytes; the position corrected, if any
  | poisoned
  | uncorrectable
  deriving DecidableEq, Repr

/-- Decoding of a word in CORRECT or DETECT mode (R254, Table CODE-2). -/
def decodeWord (detect : Bool) (w : List Byte) : Decoded :=
  match classify w with
  | .clean => .word (w.drop 2) none
  | .poison => .poisoned
  | .single p e => if detect then .uncorrectable else .word ((xorAt w p e).drop 2) (some p)
  | .uncorrectable => .uncorrectable

/-- The burst slot of symbol position `s` of word `w` of a burst (R256). -/
def burstSlot (w s : Nat) : Nat := 18 * w + (s + 16) % 18

/-- The word with the symbol errors `noise` added (position, error value). -/
def addNoise (w : List Byte) (noise : List (Nat × Byte)) : List Byte :=
  noise.foldl (fun w n => xorAt w n.1 n.2) w

end Sys2Proof.Machine
end

