-- ==== Sys2Proof/Machine/Base.lean ====
section
/-! DEFINITION. The named operations every meaning is built from: register fields, fault messages, partitions and clients,
device memory by view and granule, host data and charges, and the grant of an arbiter. -/

namespace Sys2Proof.Machine

/-- What a command answers. -/
abbrev Out := Host.Outcome State Fault Refusal

/-! ## Updates of one component of the state -/

/-- Puts a component of the state in place. -/
def State.putFreeCtr (s : State) (v : Nat) : State := { s with freeCtr := v }

/-- Puts a component of the state in place. -/
def State.putNow (s : State) (v : Nat) : State := { s with now := v }

/-- Puts a component of the state in place. -/
def State.putRegs (s : State) (v : Sparse Reg64) : State := { s with regs := v }

/-- Puts a component of the state in place. -/
def State.putHost (s : State) (v : HostIf) : State := { s with host := v }

/-- Puts a component of the state in place. -/
def State.putMbx (s : State) (v : Mailboxes) : State := { s with mbx := v }

/-- Puts a component of the state in place. -/
def State.putAccts (s : State) (v : Sparse Acct) : State := { s with accts := v }

/-- Puts a component of the state in place. -/
def State.putSnaps (s : State) (v : Sparse (List Byte)) : State := { s with snaps := v }

/-- Puts a component of the state in place. -/
def State.putFaults (s : State) (v : FaultState) : State := { s with faults := v }

/-- Puts a component of the state in place. -/
def State.putMem (s : State) (v : MemState) : State := { s with mem := v }

/-- Puts a component of the state in place. -/
def State.putFlash (s : State) (v : FlashState) : State := { s with flash := v }

/-- Puts a component of the state in place. -/
def State.putClusters (s : State) (v : Sparse Cluster) : State := { s with clusters := v }

/-- Puts a component of the state in place. -/
def State.putPkg (s : State) (v : Package) : State := { s with pkg := v }

/-- Puts a component of the state in place. -/
def State.putParts (s : State) (v : Sparse Part) : State := { s with parts := v }

/-- Puts a component of the state in place. -/
def State.putObjs (s : State) (v : Sparse Obj) : State := { s with objs := v }

/-- Puts a component of the state in place. -/
def State.putWeights (s : State) (v : Sparse WeightSet) : State := { s with weights := v }

/-- Puts a component of the state in place. -/
def State.putAdapters (s : State) (v : List Adapter) : State := { s with adapters := v }

/-- Puts a component of the state in place. -/
def State.putShards (s : State) (v : Sparse Shard) : State := { s with shards := v }

/-- Puts a component of the state in place. -/
def State.putSearches (s : State) (v : List Search) : State := { s with searches := v }

/-- Puts a component of the state in place. -/
def State.putWalks (s : State) (v : List Walk) : State := { s with walks := v }

/-- Puts a component of the state in place. -/
def State.putWalkOrder (s : State) (v : Nat) : State := { s with walkOrder := v }

/-- Puts a component of the state in place. -/
def State.putTables (s : State) (v : Sparse Table) : State := { s with tables := v }

/-- Puts a component of the state in place. -/
def State.putLookups (s : State) (v : List Lookup) : State := { s with lookups := v }

/-- Puts a component of the state in place. -/
def State.putBags (s : State) (v : List BagWork) : State := { s with bags := v }

/-- Puts a component of the state in place. -/
def State.putVocabs (s : State) (v : Sparse Vocab) : State := { s with vocabs := v }

/-- Puts a component of the state in place. -/
def State.putStreams (s : State) (v : Sparse ZStream) : State := { s with streams := v }

/-- Puts a component of the state in place. -/
def State.putTasks (s : State) (v : List Task) : State := { s with tasks := v }

/-- Puts a component of the state in place. -/
def State.putTrees (s : State) (v : Sparse MTree) : State := { s with trees := v }

/-- Puts a component of the state in place. -/
def State.putProbes (s : State) (v : List MMatch) : State := { s with probes := v }

/-- Puts a component of the state in place. -/
def State.putPools (s : State) (v : Sparse Pool) : State := { s with pools := v }

/-- Puts a component of the state in place. -/
def State.putGens (s : State) (v : List Gen) : State := { s with gens := v }

/-- Puts a component of the state in place. -/
def State.putRetrieves (s : State) (v : List Retrieve) : State := { s with retrieves := v }

/-- Puts a component of the state in place. -/
def State.putFab (s : State) (v : FabState) : State := { s with fab := v }

/-- Puts a component of the state in place. -/
def State.putPower (s : State) (v : PowerState) : State := { s with power := v }

/-- Puts a component of the state in place. -/
def State.putHealth (s : State) (v : HealthState) : State := { s with health := v }

/-- Puts a component of the state in place. -/
def State.putNor (s : State) (v : NorState) : State := { s with nor := v }

/-- Puts a component of the state in place. -/
def State.putBoot (s : State) (v : BootState) : State := { s with boot := v }

/-- Puts a component of the state in place. -/
def State.putSec (s : State) (v : SecState) : State := { s with sec := v }

/-- Puts a component of the state in place. -/
def State.putUpd (s : State) (v : UpdState) : State := { s with upd := v }

/-- Puts a component of the state in place. -/
def State.putBoard (s : State) (v : BoardState) : State := { s with board := v }

/-! ## Registers -/

/-- The key of instance `i` of a register (R431): its offset for a register with one instance or an array at consecutive
offsets; behind a select register, the channel (or accessor) times 2^26 added. -/
def regKey (k : RegKind) (off i : Nat) : Nat :=
  match k with
  | .array => off + 8 * i
  | .window => i * 2 ^ 26 + off
  | .select => i * 2 ^ 26 + off
  | .sender => i * 2 ^ 26 + off

/-- The whole value of a register by key. -/
def State.reg (s : State) (key : Nat) : Reg64 := sget 0 s.regs key

/-- Writes a whole register by key. -/
def State.setReg (s : State) (key : Nat) (v : Reg64) : State := s.putRegs (sset 0 s.regs key v)

/-- The value with bits [hi:lo] replaced by `v` modulo the field's width. -/
def putBits (r : Reg64) (hi lo v : Nat) : Reg64 :=
  let n := r.toNat
  BitVec.ofNat 64 (n % 2 ^ lo + (v % 2 ^ (hi + 1 - lo)) * 2 ^ lo + (n / 2 ^ (hi + 1)) * 2 ^ (hi + 1))

/-- Reads field `f` of instance `i`. -/
def State.rd (s : State) (f : Fld) (i : Nat) : Nat := bitsOf (s.reg (regKey f.kind f.off i)).toNat f.hi f.lo

/-- Writes field `f` of instance `i`, the register's other fields unchanged. -/
def State.wr (s : State) (f : Fld) (i v : Nat) : State :=
  let k := regKey f.kind f.off i
  s.setReg k (putBits (s.reg k) f.hi f.lo v)

/-- Adds `n` to a counter field that wraps. -/
def State.inc (s : State) (f : Fld) (i n : Nat) : State := s.wr f i (s.rd f i + n)

/-- Adds `n` to a counter field that saturates. -/
def State.incSat (s : State) (f : Fld) (i n : Nat) : State :=
  s.wr f i (satAdd (f.hi + 1 - f.lo) (s.rd f i) n)

/-- Is the field one? -/
def State.isSet (s : State) (f : Fld) (i : Nat) : Bool := s.rd f i = 1

/-! ## Site codes and masters (02_seven_levels.md R42, R43) -/

/-- A site code on a compute die. -/
def site (die region slot cls idx : Nat) : Nat :=
  die * 2 ^ 14 + region * 2 ^ 11 + slot * 2 ^ 8 + cls * 2 ^ 4 + idx

/-- A site code of a hub unit: die 3, region 7, class 0xF (Table LEVL-7). -/
def hubSite (group idx : Nat) : Nat := site 3 7 group 0xF idx

/-- Hub hardware (Table LEVL-8). -/
def hubMaster : Nat := 0x7FF

/-- Site code of a memory channel's controller. -/
def chanSite (c : Nat) : Nat := site (c / 64) (c / 8 % 8) 0 7 (c % 8)

/-- Physical cluster on its die of a logical cluster (Table LEVL-4). -/
def State.physOf (s : State) (cl : Nat) : Nat :=
  bitsOf (s.reg (regKey .array R.cfgClmapEnt0.off (cl / 8))).toNat (8 * (cl % 8) + 5) (8 * (cl % 8))

/-- Site code of a unit of a logical cluster. -/
def State.clusterSite (s : State) (cl cls idx : Nat) : Nat :=
  site (cl / 60) (s.physOf cl / 8) (s.physOf cl % 8) cls idx

/-- Module-wide physical number of a logical cluster. -/
def State.physAll (s : State) (cl : Nat) : Nat := 64 * (cl / 60) + s.physOf cl

/-- Is logical cluster mapped to module-wide physical cluster `q`? -/
def State.logicalOf (s : State) (q : Nat) : Option Nat := (List.range 240).find? fun cl => s.physAll cl = q

/-! ## Fault messages (18_health.md R380) -/

/-- A block sends a fault message: at most 16 of its messages wait; further ones are counted only in the block's own
counters, and one COUNTER_OVERFLOW follows when room returns. -/
def State.raise (s : State) (kind site master addr access outcome : Nat) : State :=
  let f := s.faults
  if 16 ≤ (f.sent.filter (fun m => m.site = site)).length then
    s.putFaults { f with overflowed := if site ∈ f.overflowed then f.overflowed else f.overflowed ++ [site] }
  else s.putFaults { f with sent := f.sent ++ [⟨kind, site, master, addr, access, outcome, s.now % 2 ^ 32⟩] }

/-- A SINGLE word is corrected at a site, which sends at most one CODE_CORRECTED a millisecond (R264). -/
def State.codeCorrected (s : State) (site master addr : Nat) : State :=
  let last := sget 0 s.faults.codeCorrectedAt site
  if last = 0 ∨ 1000000 ≤ s.now + 1 - last then
    (s.putFaults { s.faults with codeCorrectedAt := sset 0 s.faults.codeCorrectedAt site (s.now + 1) }).raise 0x040 site master addr 1 0
  else s

/-- An access through the host interface is counted in BAD_ACCESS and reported as HOST_BAD_ACCESS (R297, R320). -/
def State.badAccess (s : State) (master access : Nat) : State :=
  (s.inc R.hstErrcntBadAccess 0 1).raise 0x0C0 (hubSite 5 14) master 0 access 0

/-- The master ID of an accessor of BAR0 (R43): a function, a management core; the board manager has none of its own. -/
def accMaster (a : Nat) : Nat := if a < 64 then a else if a < 72 then 0x100 + (a - 64) else hubMaster

/-- Is the accessor a management core? -/
def isCore (a : Nat) : Bool := decide (64 ≤ a) && decide (a < 72)

/-- The board manager. -/
def boardManager : Nat := 72

/-! ## Partitions and clients (15_tenancy.md) -/

/-- Partition states of CFG_PSTAT.STATE. -/
def psRun : Nat := 1
/-- RESET. -/
def psReset : Nat := 2
/-- UNAVAILABLE. -/
def psUnavailable : Nat := 3

/-- Is partition `p` defined? -/
def State.partEn (s : State) (p : Nat) : Bool := decide (p < 64) && s.isSet R.cfgPartEn p

/-- First logical cluster of a partition (R322). -/
def State.partFirst (s : State) (p : Nat) : Nat := 4 * s.rd R.cfgPartFirst p

/-- Cluster count of a partition (R322). -/
def State.partSize (s : State) (p : Nat) : Nat := 4 * (s.rd R.cfgPartQuads p + 1)

/-- The logical clusters of a partition. -/
def State.partClusters (s : State) (p : Nat) : List Nat :=
  if s.partEn p then (List.range (s.partSize p)).map (fun i => s.partFirst p + i) else []

/-- The partition a logical cluster belongs to. -/
def State.partOf (s : State) (cl : Nat) : Option Nat :=
  (List.range 64).find? fun p =>
    s.partEn p && decide (s.partFirst p ≤ cl) && decide (cl < s.partFirst p + s.partSize p)

/-- Does the partition run? -/
def State.running (s : State) (p : Nat) : Bool := s.rd R.cfgPstatState p = psRun

/-- The scheduler state of a partition. -/
def State.part (s : State) (p : Nat) : Part := (aget s.parts p).getD Part.init

/-- Changes a partition's scheduler state. -/
def State.setPart (s : State) (p : Nat) (x : Part) : State := s.putParts (aput s.parts p x)

/-- A cluster's state. -/
def State.cluster (s : State) (cl : Nat) : Cluster := (aget s.clusters cl).getD Cluster.init

/-- Changes a cluster's state. -/
def State.setCluster (s : State) (cl : Nat) (x : Cluster) : State := s.putClusters (aput s.clusters cl x)

/-- The client's home partition (R324). -/
def State.home (s : State) (c : Nat) : Nat := s.rd R.cfgClientHome c

/-- May the client name objects of partition `p` (R324)? -/
def State.inUse (s : State) (c p : Nat) : Bool := p = s.home c || bitOf (s.rd R.cfgCuseUse c) p

/-- The function the client is bound to, where it is defined (R324). -/
def State.clientFn (s : State) (c : Nat) : Option Nat :=
  if c < 4096 ∧ s.isSet R.cfgClientEn c then some (s.rd R.cfgClientFunction c) else none

/-- The client's rings. -/
def State.ring (s : State) (c : Nat) : Option Ring := aget s.host.rings c

/-- The client's function, or the PF where it has none. -/
def State.fnOf (s : State) (c : Nat) : Nat := (s.clientFn c).getD 0

/-- Changes the host interface. -/
def State.updHost (s : State) (f : HostIf → HostIf) : State := s.putHost (f s.host)

/-- Adds to a client's charges (R328). Work for another module, whose local client number is 4096 or above, adds to its usage report
instead (R330). -/
def State.charge (s : State) (c : Nat) (f : Acct → Acct) : State :=
  if c < 4096 then s.putAccts (aput s.accts c (f ((aget s.accts c).getD Acct.zero)))
  else
    let a := f Acct.zero
    let ns := a.clusterNs + a.walkerNs + a.gatherNs + a.zestNs + a.punnetNs + a.medlarNs + a.pipNs + a.flashNs
    let bytes := a.lpddrRd + a.lpddrWr + a.flashRd + a.flashWr + a.hostRd + a.hostWr
    s.putFab { s.fab with remotes := s.fab.remotes.map fun x =>
      if x.local_.1 = c then { x with ns := x.ns + ns, bytes := x.bytes + bytes, uj := x.uj + a.energyUj } else x }

/-- The step of a partition is over: its energy is posted at the governor's next tick (R331). -/
def State.endUse (s : State) (p : Nat) : State :=
  s.putPower { s.power with uses := s.power.uses.map fun u => if u.step = some p then { u with ended := true } else u }

/-! ## Frequency steps (17_power.md) -/

/-- A cluster runs at step `n` from now on, at V_base plus its guardband (R371, R402). -/
def State.setFreqStep (s : State) (cl n : Nat) : State :=
  let q := s.physAll cl
  (s.wr R.pwrDstatStep cl n).wr R.pwrDstatVolt cl (Config.vBase q n + 5 * s.rd R.ageCstatGuardband q / 2)

/-! ## Device memory (11_memory_tiers.md R223 to R227) -/

/-- Grade M (HST_ID_INFO.GRADE = 1). -/
def State.gradeM (s : State) : Bool := s.isSet R.hstIdInfoGrade 0

/-- Bytes of a channel: 8 GiB on grade X, 4 GiB on grade M. -/
def State.chanBytes (s : State) : Nat := if s.gradeM then 2 ^ 32 else 2 ^ 33

/-- The channels of a view: 0-31 region views, 32-35 die views. -/
def viewChans (v : Nat) : List Nat :=
  if v < 32 then (List.range 8).map (8 * v + ·) else (List.range 64).map (64 * (v - 32) + ·)

/-- Is the channel in the interleave (MEM_LIVE)? -/
def State.chanLive (s : State) (c : Nat) : Bool := bitOf (s.rd R.memLiveMask (c / 64)) (c % 64)

/-- view.live of R224. -/
def State.viewLive (s : State) (v : Nat) : List Nat := (viewChans v).filter s.chanLive

/-- The pool size of a view (Table MEMT-3). -/
def State.poolSize (s : State) (v : Nat) : Nat :=
  let n := (s.viewLive v).length
  let c := s.chanBytes
  let sp := s.rd R.memCfgSplit 0
  if v < 32 then n * ((16 - sp) * c / 16 - c / 256) else n * (sp * c / 16)

/-- Every granule of a view is withdrawn once one of its live channels is retired (R230). -/
def State.viewWithdrawn (s : State) (v : Nat) : Bool :=
  (s.viewLive v).any fun c => s.isSet R.memChstatRetired c

/-- The view and offset of a device address (Table MEMT-3); none for the reserved addresses. -/
def viewOf (a : Nat) : Option (Nat × Nat) :=
  if a < 32 * 2 ^ 36 then some (a / 2 ^ 36, a % 2 ^ 36)
  else if 2 ^ 43 ≤ a ∧ a < 2 ^ 43 + 4 * 2 ^ 39 then some (32 + (a - 2 ^ 43) / 2 ^ 39, (a - 2 ^ 43) % 2 ^ 39)
  else none

/-- The base device address of a view. -/
def viewBase (v : Nat) : Nat := if v < 32 then v * 2 ^ 36 else 2 ^ 43 + (v - 32) * 2 ^ 39

/-- locate of R224: channel and channel line of view offset `o`. -/
def State.locate (s : State) (v o : Nat) : Nat × Nat :=
  let live := s.viewLive v
  let n := live.length
  let l := o / 64
  let q := l / n
  let r := l % n
  let h := (q % 64) ^^^ (q / 2 ^ 6 % 64) ^^^ (q / 2 ^ 12 % 64) ^^^ (q / 2 ^ 18 % 64) ^^^ (q / 2 ^ 24 % 64)
  let k := (r + h) % n
  (live.getD k 0, (if v < 32 then s.rd R.memCfgSplit 0 * s.chanBytes / 1024 else 0) + q)

/-- Is the device address backed: inside the pool of a view that is not withdrawn (R223, R230)? -/
def State.backed (s : State) (a : Nat) : Bool :=
  match viewOf a with
  | some (v, o) => decide (o < s.poolSize v) && !s.viewWithdrawn v
  | none => false

/-- The module-wide word number of a device address: 4 × (2^27 × channel + line) + word of the line. -/
def State.devWord (s : State) (a : Nat) : Nat :=
  match viewOf a with
  | some (v, o) => let cl := s.locate v o; 4 * (2 ^ 27 * cl.1 + cl.2) + o % 64 / 16
  | none => 0

/-- The device address of a word number, the inverse of locate; none for the hub reserve and retired interleaves. -/
def State.devAddrOf (s : State) (w : Nat) : Option Nat :=
  let c := w / 4 / 2 ^ 27
  let line := w / 4 % 2 ^ 27
  let base := s.rd R.memCfgSplit 0 * s.chanBytes / 1024
  let v := if line < base then 32 + c / 64 else c / 8
  let q := if line < base then line else line - base
  let live := s.viewLive v
  let n := live.length
  let h := (q % 64) ^^^ (q / 2 ^ 6 % 64) ^^^ (q / 2 ^ 12 % 64) ^^^ (q / 2 ^ 18 % 64) ^^^ (q / 2 ^ 24 % 64)
  match live.findIdx? (· = c) with
  | none => none
  | some i =>
    let r := (i + n - h % n) % n
    let o := 64 * (q * n + r) + 16 * (w % 4)
    if o < s.poolSize v then some (viewBase v + o) else none

/-- The granule key of a device address: 2^20 × view + granule of 64 MiB (R227). -/
def granuleOf (a : Nat) : Nat :=
  match viewOf a with
  | some (v, o) => 2 ^ 20 * v + o / 2 ^ 26
  | none => 2 ^ 20 * 36

/-- The partition that owns the granule of a device address (R227). -/
def State.ownerOf (s : State) (a : Nat) : Option Nat :=
  match sget 0 s.mem.owner (granuleOf a) with
  | 0 => none
  | p + 1 => some p

/-- May partition `p` touch bytes a to a + n - 1: every granule backed and owned by it (R227)? -/
def State.ownsRange (s : State) (p a n : Nat) : Bool :=
  (List.range (n / 2 ^ 26 + 2)).all fun i =>
    let x := Nat.min (a + i * 2 ^ 26) (a + (n - 1))
    s.backed x && s.ownerOf x = some p

/-- The same for a client: every granule owned by a partition in its USE (R301). -/
def State.clientRange (s : State) (c a n : Nat) : Bool :=
  (List.range (n / 2 ^ 26 + 2)).all fun i =>
    let x := Nat.min (a + i * 2 ^ 26) (a + (n - 1))
    s.backed x && (match s.ownerOf x with | some p => s.inUse c p | none => false)

/-- The 18 symbols of a word as stored. -/
def wordAt (cells : List Host.Cell) (w : Nat) : List Byte := sgetList 0 cells (18 * w) 18

/-- Stores the 18 symbols of a word. -/
def putWord (cells : List Host.Cell) (w : Nat) (syms : List Byte) : List Host.Cell := ssetList 0 cells (18 * w) syms

/-- What a stored word holds for its reader, decoded in the mode of its site (Table CODE-3). -/
def readWord (detect : Nat → Bool) (cells : List Host.Cell) (w : Nat) : Decoded := decodeWord (detect w) (wordAt cells w)

/-- The mode of scratch, region buffers and hub SRAM: CORRECT (Table CODE-3). -/
def correctMode (_ : Nat) : Bool := false

/-- The data bytes of a decoded word and whether it is poisoned; an uncorrectable word gives no data (DESIGN CHOICE,
log entry 38). -/
def Decoded.bytes (d : Decoded) : List Byte × Bool :=
  match d with
  | .word b _ => (b, false)
  | .poisoned => (List.replicate 16 0, true)
  | .uncorrectable => (List.replicate 16 0, true)

/-- Bytes a to a + n - 1 of a word-addressed store, `word` giving the word number of a byte address: data and poison. -/
def readBytes (detect : Nat → Bool) (cells : List Host.Cell) (word : Nat → Nat) (a n : Nat) : List Byte × Bool :=
  if n = 0 then ([], false)
  else
    let first := a / 16
    let ws := (List.range ((a + n - 1) / 16 - first + 1)).map fun i => (readWord detect cells (word (16 * (first + i)))).bytes
    (((ws.map (·.1)).flatten.drop (a % 16)).take n, ws.any (·.2))

/-- Merges bytes into one word: a whole word replaces it; a part of a poisoned word leaves it poisoned (R263). -/
def mergeWord (detect : Nat → Bool) (cells : List Host.Cell) (w o : Nat) (bs : List Byte) : List Host.Cell :=
  if bs.length = 16 then putWord cells w (encodeWord bs)
  else match readWord detect cells w with
    | .word b _ => putWord cells w (encodeWord (b.take o ++ bs ++ b.drop (o + bs.length)))
    | _ => cells

/-- Writes bytes from byte address `a`, word by word; `fuel` bounds the number of words. -/
def writeBytesFuel (detect : Nat → Bool) (fuel : Nat) (cells : List Host.Cell) (word : Nat → Nat) (a : Nat) (bs : List Byte) : List Host.Cell :=
  match fuel with
  | 0 => cells
  | f + 1 => match bs with
    | [] => cells
    | _ :: _ =>
      let o := a % 16
      let k := Nat.min (16 - o) bs.length
      writeBytesFuel detect f (mergeWord detect cells (word (a - o)) o (bs.take k)) word (a + k) (bs.drop k)

/-- Writes bytes from byte address `a`. -/
def writeBytes (detect : Nat → Bool) (cells : List Host.Cell) (word : Nat → Nat) (a : Nat) (bs : List Byte) : List Host.Cell :=
  writeBytesFuel detect (bs.length + 1) cells word a bs

/-- Writes poisoned words over the words of bytes a to a + n - 1 (Table CODE-5). -/
def writePoison (cells : List Host.Cell) (word : Nat → Nat) (a n : Nat) : List Host.Cell :=
  (List.range ((a + n + 15) / 16 - a / 16)).foldl (fun c i => putWord c (word (16 * (a / 16 + i))) poisonWord) cells

/-- The channel of a word. -/
def wordChan (w : Nat) : Nat := w / 4 / 2 ^ 27

/-- The sub-channel of a word (R225): bytes [31:0] of a line on sub-channel 0. -/
def wordSc (w : Nat) : Nat := w % 4 / 2

/-- The DETECT flag of a sub-channel. -/
def detectFld (sc : Nat) : Fld := if sc = 0 then R.memChcodeDetectSc0 else R.memChcodeDetectSc1

/-- Does the sub-channel of a word decode in DETECT mode (R261)? -/
def State.detects (s : State) (w : Nat) : Bool := s.isSet (detectFld (wordSc w)) (wordChan w)

/-- Device bytes and whether a word read is poisoned. -/
def State.readDev (s : State) (a n : Nat) : List Byte × Bool := readBytes s.detects s.mem.cells s.devWord a n

/-- Changes LPDDR-6. -/
def State.updMem (s : State) (f : MemState → MemState) : State := s.putMem (f s.mem)

/-- Where a channel line lies in its bank (R225): bank, column and row. -/
def lineBank (a : Nat) : Nat := (a % 16) ^^^ (a / 2 ^ 14 % 16)
/-- Column. -/
def lineColumn (a : Nat) : Nat := a / 16 % 32
/-- Row. -/
def lineRow (a : Nat) : Nat := a / 2 ^ 9

/-- The bank of a word, as 16 × channel + bank. -/
def wordBank (w : Nat) : Nat := 16 * wordChan w + lineBank (w / 4 % 2 ^ 27)

/-- Requests reach channels: they leave power-down and are in use now (Table MEMT-1). -/
def MemState.use (m : MemState) (now : Nat) (chans : List Nat) : MemState :=
  { m with powerDown := m.powerDown.filter (· ∉ chans), lastUse := chans.foldl (fun u c => sset 0 u c now) m.lastUse }

/-- A request reaches the channel. -/
def State.touchChan (s : State) (c : Nat) : State := s.updMem fun m => m.use s.now [c]

/-- The channel lines, numbered over the module, of `n` device bytes. -/
def State.devLines (s : State) (a n : Nat) : List Nat :=
  if n = 0 then [] else ((List.range (n / 64 + 2)).map fun i => s.devWord (Nat.min (a + 64 * i) (a + (n - 1))) / 4).eraseDups

/-- A unit reads `n` device bytes: their channels serve it. -/
def State.useDev (s : State) (a n : Nat) : State := s.updMem fun m => m.use s.now ((s.devLines a n).map (· / 2 ^ 27)).eraseDups

/-- Writes to lines: their channels serve them, and a write-back that waits for one of them is dropped, as it is older (R226, R257). -/
def MemState.written (m : MemState) (now : Nat) (lines : List Nat) (cells : List Host.Cell) : MemState :=
  { m.use now (lines.map (· / 2 ^ 27)).eraseDups with cells := cells, writeBack := m.writeBack.filter fun e => e.1 / 4 ∉ lines }

/-- Writes device bytes; a later write to a line drops that line's waiting write-back (R257). -/
def State.writeDev (s : State) (a : Nat) (bs : List Byte) : State :=
  s.updMem fun m => m.written s.now (s.devLines a bs.length) (writeBytes s.detects m.cells s.devWord a bs)

/-- Writes device bytes, poisoned where the source was. -/
def State.writeDevP (s : State) (a : Nat) (bs : List Byte) (poison : Bool) : State :=
  if poison then s.updMem fun m => m.written s.now (s.devLines a bs.length) (writePoison m.cells s.devWord a bs.length) else s.writeDev a bs

/-- Little-endian number at a device address. -/
def State.dev (s : State) (a n : Nat) : Nat := leNat (s.readDev a n).1

/-- Ports of the grade: 16 on X, 8 on M (R267). -/
def State.portCount (s : State) : Nat := if s.gradeM then 8 else 16

/-- The map update that a sector of the translation journal holds: unit and entry (R236, log entry 37). -/
def journalUpdate (x : Sector) : Nat × Nat := (fieldLe x.data 0 8, fieldLe x.data 8 8)

/-! ## Addresses of descriptors (R301) -/

/-- How a read at a descriptor's address went. -/
inductive ReadRes where
  | data (bytes : List Byte) (poisoned : Bool)
  | bounds                 -- a device address outside the client's granules, or bits [62:48] not zero
  | absent                 -- host data that has not been read
  deriving DecidableEq, Repr

/-- Is the address a device address? -/
def isDev (a : Nat) : Bool := bitOf a 63

/-- The segment of host data that covers a range. -/
def rxFind (rx : List RxSeg) (fn a n : Nat) : Option RxSeg :=
  rx.find? fun g => g.fn = fn && decide (g.addr ≤ a) && decide (a + n ≤ g.addr + g.bytes.length)

/-- The read requests of `n` bytes of host memory from `a`: at most 4,096 bytes each, none across a 4 KiB boundary (R244, Table HOST-1). -/
def hostSplit (a n : Nat) : List (Nat × Nat) :=
  if n = 0 then [] else (List.range ((a + n - 1) / 4096 - a / 4096 + 1)).map fun i =>
    let lo := Nat.max a (4096 * (a / 4096 + i))
    (lo, Nat.min (a + n) (4096 * (a / 4096 + i + 1)) - lo)

/-- The data of the requests of a range, and which of it came poisoned, in order; none where one has not come. -/
def rxPieces (rx : List RxSeg) (fn a n : Nat) : Option (List (List Byte × Bool)) :=
  let l := (hostSplit a n).map fun e => (rxFind rx fn e.1 e.2).map fun g => ((g.bytes.drop (e.1 - g.addr)).take e.2, g.poisoned)
  if l.all Option.isSome then some (l.filterMap id) else none

/-- Reads `n` bytes at a descriptor's address on behalf of a client (R301): device memory, or host data the hub has read for `need`. -/
def State.readAddr (s : State) (need : HostNeed) (c a n : Nat) : ReadRes :=
  if n = 0 then .data [] false
  else if isDev a then
    let d := a % 2 ^ 48
    if bitsOf a 62 48 ≠ 0 ∨ !s.clientRange c d n then .bounds
    else let r := s.readDev d n; .data r.1 r.2
  else match rxPieces (s.host.rx.filter fun g => g.need = need) (s.fnOf c) a n with
    | some l => .data (l.flatMap (·.1)) (l.any (·.2))
    | none => .absent

/-- Is a unit retired (R384)? -/
def State.unitRetired (s : State) (st sub : Nat) : Bool := decide ((st, sub) ∈ s.faults.retiredUnits)

/-- What a word of the MSI-X tables holds before it is written: the vector control words, each fourth word of the 32 KiB table, mask their vector (PRESUMED,
log entry 92: the PCIe Base Specification's reset values). -/
def msixDefault (k : Nat) : Nat := if k % 2 ^ 14 < 8192 ∧ k % 4 = 3 then 1 else 0

/-- A word of a function's MSI-X table. -/
def State.msixWord (s : State) (fn w : Nat) : Nat := sget (msixDefault (2 ^ 14 * fn + w)) s.host.msix (2 ^ 14 * fn + w)

/-- Is a vector of a function masked? -/
def State.msixMasked (s : State) (fn v : Nat) : Bool := bitOf (s.msixWord fn (4 * v + 3)) 0

/-- A vector of a function is signalled; one that is masked is pending instead (R294). -/
def State.irq (s : State) (fn v : Nat) : State :=
  s.updHost fun h => if s.msixMasked fn v then { h with pba := sset false h.pba (2 ^ 14 * fn + v) true } else { h with irqs := h.irqs ++ [⟨fn, v⟩] }

/-- The PASID of the client's ring. -/
def State.pasidOf (s : State) (c : Nat) : Option Nat := match s.ring c with
  | some r => r.pasid
  | none => none

/-- The hub issues the host reads of a range for a need, but those that are outstanding or whose data has come (R244, R301). -/
def State.issueRead (s : State) (c a n : Nat) (need : HostNeed) : State :=
  let rx := s.host.rx.filter fun g => g.need = need
  let new := ((hostSplit a n).filter fun e => (rxFind rx (s.fnOf c) e.1 e.2).isNone).map fun e => (⟨s.fnOf c, s.pasidOf c, e.1, e.2, need⟩ : HostRead)
  s.updHost fun h => { h with reads := h.reads ++ new.filter fun r => r ∉ h.reads }

/-! ## Count-weighted grant (R26 to R28) -/

/-- Changes the package. -/
def State.updPkg (s : State) (f : Package → Package) : State := s.putPkg (f s.pkg)

/-! ## Arbiters (R26 to R28) -/

/-- The ACT of an input, 1 to 4,095 (R27). -/
def actOf (n : Nat) : Nat := Nat.max 1 (Nat.min n 4095)

/-- One grant of the count-weighted arbiter (R28): the winner and the credit values after it. `pend` holds the inputs with a
message pending and their ACT. -/
def grantStep (cur : Sparse Int) (pend : List (Nat × Nat)) : Option Nat × Sparse Int :=
  match pend with
  | [] => (none, cur)
  | _ :: _ =>
    let cur : Sparse Int := pend.foldl (fun (m : Sparse Int) e => sset 0 m e.1 (sget 0 m e.1 + (actOf e.2 : Int))) cur
    let total : Int := (pend.map fun e => (actOf e.2 : Int)).foldl (· + ·) 0
    let best := pend.foldl (fun (b : Option Nat) e => match b with
      | none => some e.1
      | some w => if sget 0 cur w < sget 0 cur e.1 ∨ (sget 0 cur w = sget 0 cur e.1 ∧ e.1 < w) then some e.1 else some w) none
    match best with
    | none => (none, cur)
    | some w => (some w, sset 0 cur w (sget 0 cur w - total))

/-- Arbiters by number: the outputs of the region routers are 16 × region + port; then the crossbar of a die, the link of a direction, a memory
channel, a flash core, and the maintenance of a flash core (R26). The numbers are the model's own. -/
def arbCrossbar (die : Nat) : Nat := 512 + die
/-- The arbiter of a link direction. -/
def arbLink (l : Nat) : Nat := 520 + l
/-- The arbiter of a memory controller. -/
def arbMem (chan : Nat) : Nat := 544 + chan
/-- The arbiter of a flash core. Its inputs are the partitions (DESIGN CHOICE, log entry 82: R26 lists no inputs of a flash core's arbiter; the sources below
the hub are master IDs). -/
def arbFlash (core : Nat) : Nat := 800 + core
/-- The arbiter among the maintenance requests of a flash core: input 0 relocation, 1 read-disturb scan. -/
def arbMaint (core : Nat) : Nat := 816 + core

/-- May a message of an input pass an arbiter: no grant is out, or its own? A grant covers one whole message (R28). -/
def State.mayPass (s : State) (arb input : Nat) : Bool := sget 0 s.pkg.granted arb = 0 || sget 0 s.pkg.granted arb = input + 1

/-- A message has used the grant of its arbiter. -/
def State.passed (s : State) (arb : Nat) : State := s.updPkg fun k => { k with granted := sset 0 k.granted arb 0 }

end Sys2Proof.Machine
end

