-- ==== Sys2Proof/Machine/Frames.lean ====
section
/-! DEFINITION. The layouts of the Willith links (13_optical_fabric.md R269 to R271, R276, Tables FABR-3, FABR-4): frames and their markers, the link
control word, the header word of a message, the hello word; and how messages lie in the words of successive frames. -/

namespace Sys2Proof.Machine

/-! ## Messages (Table FABR-4) -/

/-- The header word of a message. -/
def fabHeader (m : FabMsg) : Nat :=
  m.request % 2 ^ 32 + m.kind % 2 ^ 4 * 2 ^ 32 + m.stream % 2 ^ 12 * 2 ^ 36 + m.seq % 2 ^ 16 * 2 ^ 48 + m.hops % 2 ^ 4 * 2 ^ 64 + m.vc % 2 ^ 2 * 2 ^ 68 +
    m.payload.length % 2 ^ 10 * 2 ^ 70 + m.act % 2 ^ 12 * 2 ^ 80 + m.master % 2 ^ 12 * 2 ^ 92 + m.src % 2 ^ 12 * 2 ^ 104 + m.dst % 2 ^ 12 * 2 ^ 116

/-- The words of a message as a frame carries them: header, then payload, its POISON words as such (R263, R279). -/
def fabWords (m : FabMsg) : List (List Byte) :=
  encodeWord (leBytes 16 (fabHeader m)) ::
    (List.range m.payload.length).map fun i =>
      let b := leBytes 16 (m.payload.getD i 0).toNat
      if i ∈ m.poison then poisonOf b else encodeWord b

/-- A message from its header word and its payload words, each as data and whether it is POISON. -/
def fabMsgOf (h : Nat) (ws : List (List Byte × Bool)) : FabMsg where
  dst := bitsOf h 127 116
  src := bitsOf h 115 104
  master := bitsOf h 103 92
  act := bitsOf h 91 80
  vc := bitsOf h 69 68
  hops := bitsOf h 67 64
  seq := bitsOf h 63 48
  stream := bitsOf h 47 36
  kind := bitsOf h 35 32
  request := bitsOf h 31 0
  payload := ws.map fun w => BitVec.ofNat 128 (leNat w.1)
  poison := (List.range ws.length).filter fun i => (ws.getD i ([], false)).2

/-- The messages that the words of a port hold, and the words of one that has not ended. An idle word is passed over. A header word that is POISON names
nothing: it stands as a message of a reserved KIND, which is dropped and reported (DESIGN CHOICE, log entry 80). `fuel` bounds the words. -/
def takeMsgs (fuel : Nat) (ws : List (List Byte × Bool)) : List FabMsg × List (List Byte × Bool) :=
  match fuel, ws with
  | 0, _ => ([], ws)
  | _, [] => ([], [])
  | f + 1, h :: r =>
    let n := leNat h.1
    let len := bitsOf n 79 70
    if h.2 then
      let x := takeMsgs f r
      ({ fabMsgOf 0 [] with kind := 15 } :: x.1, x.2)
    else if bitsOf n 35 32 = 0 then takeMsgs f r
    else if r.length < len then ([], h :: r)
    else
      let x := takeMsgs f (r.drop len)
      (fabMsgOf n (r.take len) :: x.1, x.2)

/-! ## The link control word (Table FABR-3) -/

/-- Its fields. -/
structure LinkWord where
  lanesTx : Nat
  hoLane : Nat
  hoReq : Bool
  hoLock : Bool
  empty : Bool
  dark : Bool
  credit : List Nat            -- words freed, VC0 first
  ack : Nat
  nak : Bool
  fbLane : Nat
  fbErr : Nat
  number : Nat
  deriving DecidableEq, Repr

/-- Its bits. -/
def LinkWord.bits (l : LinkWord) : Nat :=
  l.number % 2 ^ 16 + l.fbErr % 2 ^ 12 * 2 ^ 32 + l.fbLane % 2 ^ 3 * 2 ^ 44 + b2n l.nak * 2 ^ 47 + l.ack % 2 ^ 16 * 2 ^ 48 +
    l.credit.getD 0 0 % 2 ^ 12 * 2 ^ 64 + l.credit.getD 1 0 % 2 ^ 12 * 2 ^ 76 + l.credit.getD 2 0 % 2 ^ 12 * 2 ^ 88 +
    l.credit.getD 3 0 % 2 ^ 12 * 2 ^ 100 + b2n l.dark * 2 ^ 113 + b2n l.empty * 2 ^ 114 + b2n l.hoLock * 2 ^ 115 + b2n l.hoReq * 2 ^ 116 +
    l.hoLane % 2 ^ 3 * 2 ^ 117 + l.lanesTx % 2 ^ 8 * 2 ^ 120

/-- The link control word of its bits. -/
def linkWordOf (n : Nat) : LinkWord where
  lanesTx := bitsOf n 127 120
  hoLane := bitsOf n 119 117
  hoReq := bitOf n 116
  hoLock := bitOf n 115
  empty := bitOf n 114
  dark := bitOf n 113
  credit := [bitsOf n 75 64, bitsOf n 87 76, bitsOf n 99 88, bitsOf n 111 100]
  ack := bitsOf n 63 48
  nak := bitOf n 47
  fbLane := bitsOf n 46 44
  fbErr := bitsOf n 43 32
  number := bitsOf n 15 0

/-! ## Frames (R269, R270) -/

/-- The marker of a codeword: physical lane, codeword within the lane, NARROW, and the frame number modulo 32. -/
def markerOf (lane cw : Nat) (narrow : Bool) (number : Nat) : Nat := number % 2 ^ 5 + b2n narrow * 2 ^ 5 + cw % 2 * 2 ^ 6 + lane % 2 ^ 3 * 2 ^ 7

/-- The marker of a received codeword: symbol 0 of its message part. -/
def laneMarker (w : LaneWord) : Nat := w.bits % 2 ^ 10

/-- Words of a frame's stream, the link control word among them. -/
def frameWords (narrow : Bool) : Nat := if narrow then 498 else 570

/-- A frame on the lanes of a mask: logical codeword c carries bits 5,130 c to 5,130 c + 5,129 of the stream; codewords 2 i and 2 i + 1 are on the i-th
lane in ascending order. -/
def frameOf (lanes : List Nat) (number : Nat) (words : List (List Byte)) : Frame where
  codewords :=
    let narrow := decide (lanes.length < 8)
    let stream := words.foldr (fun w acc => bitsOfSyms w + 2 ^ 144 * acc) 0
    (List.range (2 * lanes.length)).map fun c =>
      let l := lanes.getD (c / 2) 0
      ⟨l, true, markerOf l (c % 2) narrow number + 2 ^ 10 * (stream / 2 ^ (5130 * c) % 2 ^ 5130)⟩

/-- What a receiver makes of a frame (R279): bad, with the one lane on which every failing codeword lay and the frame number modulo 32 where a good
marker gives it; or its link control word and its message words, each as data and whether it is POISON. -/
inductive FrameRead where
  | bad (lane : Option Nat) (number : Option Nat)
  | good (ctl : LinkWord) (words : List (List Byte × Bool))
  deriving DecidableEq, Repr

/-- A word of a link, decoded in DETECT mode (R254, R260): its data, as it stands in a POISON word too; none for SINGLE and UNCORRECTABLE. -/
def linkData (w : List Byte) : Option (List Byte × Bool) := match decodeWord true w with
  | .word b _ => some (b, false)
  | .poisoned => some (w.drop 2, true)
  | .uncorrectable => none

/-- The words of a stream of `n` codewords: codeword c from bit 5,130 c on. -/
def streamWords (count : Nat) (cs : List LaneWord) : List (List Byte) :=
  let stream := cs.foldr (fun w acc => w.bits / 2 ^ 10 % 2 ^ 5130 + 2 ^ 5130 * acc) 0
  (List.range count).map fun i => symsOf (stream / 2 ^ (144 * i) % 2 ^ 144)

/-- A frame is read: every codeword must decode, its markers give the width and the order of the codewords, and every word is decoded in DETECT mode. -/
def readFrame (f : Frame) : FrameRead :=
  let failed := ((f.codewords.filter fun w => !w.good).map (·.lane)).eraseDups
  let number := (f.codewords.find? (·.good)).map fun w => laneMarker w % 2 ^ 5
  let cs := sortBy (fun (a b : LaneWord) => decide (laneMarker a / 2 ^ 6 < laneMarker b / 2 ^ 6)) f.codewords
  let narrow := cs.any fun w => bitOf (laneMarker w) 5
  if !failed.isEmpty then .bad (if failed.length = 1 then failed.head? else none) number
  else if cs.length ≠ (if narrow then 14 else 16) then .bad none number
  else match (streamWords (frameWords narrow) cs).mapM linkData with
    | some ((ctl, false) :: ws) => .good (linkWordOf (leNat ctl)) ws
    | _ => .bad none number

/-! ## The hello word (R276) -/

/-- A hello word. -/
def helloWord (moduleId port system retired : Nat) : BitVec 128 :=
  BitVec.ofNat 128 (retired % 2 ^ 8 * 2 ^ 72 + system % 2 ^ 32 * 2 ^ 80 + port % 2 ^ 4 * 2 ^ 112 + moduleId % 2 ^ 12 * 2 ^ 116)

/-- Module ID of a hello word. -/
def helloId (h : BitVec 128) : Nat := bitsOf h.toNat 127 116
/-- Its port. -/
def helloPort (h : BitVec 128) : Nat := bitsOf h.toNat 115 112
/-- Its SYSTEM. -/
def helloSystem (h : BitVec 128) : Nat := bitsOf h.toNat 111 80
/-- Its mask of retired lanes. -/
def helloRetired (h : BitVec 128) : Nat := bitsOf h.toNat 79 72

end Sys2Proof.Machine
end

