-- ==== Sys2Proof/Machine/FabricSend.lean ====
section
/-! DEFINITION. Ports, routes and the sending of messages over the Willith fabric (13_optical_fabric.md R267 to R279): what the
fabric's commands, the end of requests and the fault collector share. -/

namespace Sys2Proof.Machine

/-- Changes the fabric's state. -/
def State.updFab (s : State) (f : FabState → FabState) : State := s.putFab (f s.fab)

/-- A port's state. -/
def State.port (s : State) (p : Nat) : Port := (aget s.fab.ports p).getD Port.init

/-- Changes a port's state. -/
def State.setPort (s : State) (p : Nat) (x : Port) : State := s.updFab fun f => { f with ports := aput f.ports p x }

/-- States of OPT_PSTAT.STATE. -/
def opDown : Nat := 0
/-- TRAIN. -/
def opTrain : Nat := 1
/-- UP. -/
def opUp : Nat := 2
/-- NARROW. -/
def opNarrow : Nat := 3
/-- HANDOVER. -/
def opHandover : Nat := 4
/-- RETRAIN. -/
def opRetrain : Nat := 5
/-- ISOLATED. -/
def opIsolated : Nat := 6
/-- RETIRED. -/
def opRetired : Nat := 7

/-- Site of a port, and its master. -/
def portSite (p : Nat) : Nat := hubSite 4 p
/-- Master ID of a port. -/
def portMaster (p : Nat) : Nat := 0x600 + p

/-- A port's state field. -/
def State.portState (s : State) (p : Nat) : Nat := s.rd R.optPstatState p

/-- Does the port carry messages: UP, NARROW, or either during a hand-over? -/
def State.portCarries (s : State) (p : Nat) : Bool :=
  s.portState p = opUp || s.portState p = opNarrow || s.portState p = opHandover

/-- Number of retired lanes of a port. -/
def lanesIn (mask : Nat) : List Nat := (List.range 8).filter fun l => bitOf mask l

/-- The window channel of a lane. -/
def laneKey (p l : Nat) : Nat := 16 * p + l

/-- The lanes of a port that carry nothing: its own retired lanes and those its peer reported. -/
def State.badLanes (s : State) (p : Nat) : Nat := s.rd R.optPstatRetiredLanes p ||| (s.port p).peerRetired

/-- Mirrors the state of a port in OPT_STAT.UP, NARROW and RETIRED. -/
def State.mirrorPort (s : State) (p : Nat) : State :=
  let st := s.portState p
  let up := s.portCarries p
  let put (f : Fld) (b : Bool) (s : State) : State :=
    let v := s.rd f 0
    if bitOf v p = b then s else s.wr f 0 (if b then v + 2 ^ p else v - 2 ^ p)
  let narrow := decide (st = opNarrow) || (decide (st = opHandover) && decide (s.badLanes p ≠ 0))
  put R.optStatRetired (decide (st = opRetired)) (put R.optStatNarrow narrow (put R.optStatUp up s))

/-- Puts a port into a state. -/
def State.setPortState (s : State) (p st : Nat) : State := (s.wr R.optPstatState p st).mirrorPort p

/-- 8 frames of 51.2 ns: a hand-over's narrow frames, and the full frames after it, begin so much later (R283, Frames). -/
def handoverNs : Nat := 410

/-- The lanes that a port's frames use now: those not retired, less a lane handed over from 8 frames after its HO_LANE to 8 frames after its HO_LOCK. -/
def State.txLanes (s : State) (p : Nat) : List Nat :=
  let x := s.port p
  (List.range 8).filter fun l => !bitOf (s.badLanes p) l &&
    !(x.handover.any fun e => e.1 = l && decide (e.2 + handoverNs ≤ s.now)) && !(x.hoBack.any fun e => e.1 = l && decide (s.now < e.2 + handoverNs))

/-- A mask of lanes. -/
def laneMask (ls : List Nat) : Nat := (ls.map fun l => 2 ^ l).foldl (· + ·) 0

/-- The lanes a port transmits; none while it carries nothing. -/
def State.mirrorLanes (s : State) (p : Nat) : State := s.wr R.optPstatLanesTx p (if s.portCarries p then laneMask (s.txLanes p) else 0)

/-- OPT_LSTAT.STATE of every lane of a port that is not retired: 0 off, 1 training, 2 live (Table FABR-16). -/
def State.lanesState (s : State) (p st : Nat) : State :=
  ((List.range 8).filter fun l => !bitOf (s.rd R.optPstatRetiredLanes p) l).foldl (fun s l => s.wr R.optLstatState (laneKey p l) st) s

/-- Once the optics have power every port that is not retired trains (R281): OPT_PSTAT.STATE is TRAIN and its lanes train. An isolated port stays ISOLATED
(R39, R276). -/
def State.trainPorts (s : State) : State :=
  (List.range s.portCount).foldl (fun s p => if 6 ≤ s.rd R.optPstatState p then s else (s.wr R.optPstatState p 1).lanesState p 1) s

/-! ## Routes (R277) -/

/-- The route choices of a destination in order of preference. -/
def State.choices (s : State) (m : Nat) : List Nat :=
  [s.rd R.optRouteC0 m, s.rd R.optRouteC1 m, s.rd R.optRouteC2 m, s.rd R.optRouteC3 m]

/-- The port a message to module `m` leaves by: the first valid choice whose port carries messages; the entry of the own ID is
never used (R277), and an isolated module sends nothing (R278). -/
def State.route (s : State) (m : Nat) : Option Nat :=
  if m = s.rd R.optCfgModuleId 0 ∨ s.fab.isolated then none
  else ((s.choices m).find? fun c => bitOf c 4 && s.portCarries (c % 16)).map fun c => c % 16

/-- Is a module unreachable (R277)? -/
def State.unreachable (s : State) (m : Nat) : Bool := (s.route m).isNone

/-! ## Sending -/

/-- The virtual channel of a kind (Table FABR-5). -/
def kindVc (k : Nat) : Nat := match k with
  | 1 => 0
  | 2 => 0
  | 3 => 1
  | 4 => 0
  | 10 => 3
  | _ => 2

/-- Words of a message: its header and payload. -/
def msgWords (m : FabMsg) : Nat := 1 + m.payload.length

/-- A payload word of a message, as a number. -/
def fabWord (m : FabMsg) (i : Nat) : Nat := (m.payload.getD i 0).toNat

/-- Messages of a message's stream that are sent and not acknowledged (R275). -/
def Port.inFlight (x : Port) (m : FabMsg) : Nat :=
  (((x.replay.flatMap (·.msgs)).eraseDups).filter fun y => y.src = m.src && y.master = m.master && y.stream = m.stream).length

/-- May a queued message go: the credits of its VC cover the whole message (R273), and a message of this module's own is not the 257th of its stream in
flight (R275; in flight is what the peer has not acknowledged: DESIGN CHOICE, log entry 80)? -/
def Port.mayGo (x : Port) (e : Nat × FabMsg) : Bool :=
  decide (msgWords e.2 ≤ x.credits.getD e.2.vc 0) && (e.1 ≠ 0 || decide (x.inFlight e.2 < 256))

/-- The queued messages that may go next: the oldest of each input and virtual channel, where it may go. -/
def Port.ready (x : Port) (seen : List (Nat × Nat)) (q : List (Nat × FabMsg)) : List (Nat × FabMsg) :=
  match q with
  | [] => []
  | e :: r =>
    if (e.1, e.2.vc) ∈ seen then x.ready seen r
    else if x.mayGo e then e :: x.ready ((e.1, e.2.vc) :: seen) r
    else x.ready ((e.1, e.2.vc) :: seen) r

/-- The active requesters behind an input: the ACT of its oldest message, or where more are queued there the sources, counted by (module ID, master ID)
(R27, R274). -/
def Port.inputAct (x : Port) (i : Nat) : Nat :=
  let q := (x.queue.filter fun e => e.1 = i).map (·.2)
  actOf (Nat.max ((q.head?.map (·.act)).getD 1) ((q.map fun m => (m.src, m.master)).eraseDups).length)

/-- What goes out in place of a queued message: the output advertises the saturating sum of its pending inputs' ACT (R26, R27), and an answer of a TIME
exchange carries as t3 the time its frame goes out (R289). -/
def fabLeaving (m : FabMsg) (act now : Nat) : FabMsg :=
  let m := { m with act := act }
  if m.kind = 10 ∧ !m.payload.isEmpty then { m with payload := [BitVec.ofNat 128 (fabWord m 0 % 2 ^ 64 + 2 ^ 64 * (now % 2 ^ 64))] } else m

/-- The output grants one message (R28, R274). -/
def Port.grant (x : Port) (now : Nat) : Option (Port × FabMsg) :=
  let can := x.ready [] x.queue
  let pend := ((can.map (·.1)).eraseDups).map fun i => (i, x.inputAct i)
  let g := grantStep x.arb pend
  match g.1.bind fun w => can.find? fun e => e.1 = w with
  | none => none
  | some e =>
    some ({ x with queue := dropFirst (fun y => y = e) x.queue
                   arb := g.2
                   credits := x.credits.set e.2.vc (x.credits.getD e.2.vc 0 - msgWords e.2) },
          fabLeaving e.2 (Nat.min 4095 ((pend.map (·.2)).foldl (· + ·) 0)) now)

/-- Fills a frame with up to `room` more words: those of the message being sent, then of the messages granted. `fuel` bounds both. -/
def Port.fill (fuel now room : Nat) (x : Port) (f : TxFrame) : Port × TxFrame :=
  match fuel with
  | 0 => (x, f)
  | n + 1 =>
    if room = 0 then (x, f)
    else if x.txRest.isEmpty then
      (match x.grant now with
       | none => (x, f)
       | some (x, m) => Port.fill n now room { x with txRest := fabWords m, txMsg := some m } f)
    else
      let k := Nat.min room x.txRest.length
      Port.fill n now (room - k) { x with txRest := x.txRest.drop k }
        { f with words := f.words ++ x.txRest.take k, msgs := f.msgs ++ x.txMsg.toList }

/-- The lanes that link control words name: one whose lock is held, those asked for, one handed over. Where there are several, the frames name them in
turn (DESIGN CHOICE, log entry 80). -/
def Port.named (x : Port) : List (Nat × Bool × Bool) :=
  (x.hoLockSet.toList.map fun l => (l, false, true)) ++ (x.hoReqSet.map fun l => (l, true, false)) ++ (x.handover.toList.map fun e => (e.1, false, false))

/-- What a port's link control words say but for CREDIT, FB_LANE, FB_ERR and FRAME. -/
def Port.news (x : Port) (lanes : List Nat) : List Nat :=
  [laneMask lanes, x.rxNext, b2n x.nak, b2n x.sentDark] ++ x.named.flatMap fun e => [e.1, b2n e.2.1, b2n e.2.2]

/-- The link control word of the next frame (Table FABR-3): `errs` are the pre-FEC symbol errors of the last 1 ms by lane. -/
def Port.linkWord (x : Port) (lanes errs : List Nat) (empty : Bool) (number : Nat) : LinkWord where
  lanesTx := laneMask lanes
  hoLane := ((x.named[x.fbLane % x.named.length]?).map (·.1)).getD 0
  hoReq := ((x.named[x.fbLane % x.named.length]?).map (·.2.1)).getD false
  hoLock := ((x.named[x.fbLane % x.named.length]?).map (·.2.2)).getD false
  empty := empty
  dark := x.sentDark
  credit := x.owed.map fun n => Nat.min n 4095
  ack := (x.rxNext + 65535) % 2 ^ 16
  nak := x.nak
  fbLane := x.fbLane
  fbErr := Nat.min (errs.getD x.fbLane 0) 4095
  number := number

/-- A frame goes out: with message words under its number, or EMPTY. -/
def Port.emit (x : Port) (lanes errs : List Nat) (empty : Bool) (number : Nat) (words : List (List Byte)) : Port :=
  let ctl := x.linkWord lanes errs empty number
  { x with
    sent := x.sent ++ [frameOf lanes number (encodeWord (leBytes 16 ctl.bits) :: words)]
    owed := x.owed.map fun n => n - 4095
    fbLane := (x.fbLane + 1) % 8
    linkNews := x.news lanes }

/-- Sends queued messages in numbered frames while fewer than 128 are unacknowledged (R279). `fuel` bounds the frames. -/
def Port.pump (fuel now : Nat) (lanes errs : List Nat) (x : Port) : Port :=
  match fuel with
  | 0 => x
  | n + 1 =>
    if 128 ≤ x.replay.length then x
    else
      let room := frameWords (decide (lanes.length < 8)) - 1
      let y := Port.fill (2 * room + 2) now room x ⟨x.txNext, [], []⟩
      if y.2.words.isEmpty then x
      else
        let z := y.1.emit lanes errs false x.txNext y.2.words
        Port.pump n now lanes errs { z with
          replay := z.replay ++ [y.2]
          ackAt := if x.replay.isEmpty then now else z.ackAt
          txNext := (x.txNext + 1) % 2 ^ 16 }

/-- Empty frames carry what link control words have to say, where no message frame has: new fields and owed credits (R271). The empty frames between them,
which say the same again, are not kept (DESIGN CHOICE, log entry 80). `fuel` bounds them. -/
def Port.tell (fuel : Nat) (lanes errs : List Nat) (x : Port) : Port :=
  match fuel with
  | 0 => x
  | n + 1 => if x.news lanes = x.linkNews ∧ x.owed.all (· = 0) then x else Port.tell n lanes errs (x.emit lanes errs true x.txNext [])

/-- Pre-FEC symbol errors of the last 1 ms by lane. -/
def State.laneErrs (s : State) (p : Nat) : List Nat := (List.range 8).map fun l => s.rd R.optLstatSymErr (laneKey p l)

/-- Sends what a port can send now. The first frame that carries this module's TIME request gives its t1 (R289). -/
def State.pumpPort (s : State) (p : Nat) : State :=
  if s.portCarries p ∧ !s.fab.isolated then
    let lanes := s.txLanes p
    let x := s.port p
    let words := x.txRest.length + ((x.queue.map fun e => msgWords e.2).foldl (· + ·) 0)
    let y := (x.pump (words + 1) s.now lanes (s.laneErrs p)).tell 8 lanes (s.laneErrs p)
    let out := (y.replay.flatMap (·.msgs)).any fun m => m.kind = 10 && m.payload.isEmpty && m.src = s.rd R.optCfgModuleId 0
    let s := if s.fab.askOut ∧ out then s.updFab fun f => { f with askOut := false, asked := some s.now } else s
    (s.setPort p y).mirrorLanes p
  else s

/-- Hands a message to the output of the port its destination is routed to; an unreachable destination's message is not sent
(R277). -/
def State.forward (s : State) (input : Nat) (m : FabMsg) : State :=
  match s.route m.dst with
  | none => s
  | some p =>
    let x := s.port p
    (s.setPort p { x with queue := x.queue ++ [(input, m)] }).pumpPort p

/-- A message of this module's hub. Its stream number is its destination's module ID (DESIGN CHOICE, log entry 22). -/
def State.hubMsg (s : State) (dst kind req : Nat) (payload : List (BitVec 128)) : FabMsg :=
  { dst := dst, src := s.rd R.optCfgModuleId 0, master := hubMaster, act := 1, vc := kindVc kind,
    hops := s.rd R.optCfgHopsMax 0, seq := sget 0 s.fab.seqOut (4096 * hubMaster + dst), stream := dst, kind := kind,
    request := req, payload := payload, poison := [] }

/-- Sends a hub message; nothing is sent, and no sequence number used, towards an unreachable module. -/
def State.sendHub (s : State) (dst kind req : Nat) (payload : List (BitVec 128)) : State :=
  if s.unreachable dst then s
  else
    let m := s.hubMsg dst kind req payload
    let k := 4096 * hubMaster + dst
    (s.updFab fun f => { f with seqOut := sset 0 f.seqOut k ((sget 0 f.seqOut k + 1) % 2 ^ 16) }).forward 0 m

/-- ERROR with a status, and UNREACH naming a module (Table FABR-5). -/
def State.sendError (s : State) (dst req status : Nat) : State := s.sendHub dst 7 req [BitVec.ofNat 128 status]

/-- UNREACH. -/
def State.sendUnreach (s : State) (dst req m : Nat) : State := s.sendHub dst 8 req [BitVec.ofNat 128 m]

end Sys2Proof.Machine
end

