-- ==== Sys2Proof/Machine/PoolOps.lean ====
section
/-! DEFINITION. Operations on attention-state pools and Medlar trees (09_text_and_packing.md R187 to R193, 10_generation.md R205 to
R207): nodes and their pins, eviction, blocks and frames. Pool n shares its number with tree n. -/

namespace Sys2Proof.Machine

/-- A tree. -/
def State.tree (s : State) (t : Nat) : MTree := (aget s.trees t).getD MTree.empty

/-- A node slot. -/
def State.node (s : State) (t i : Nat) : MNode := sget MNode.empty (s.tree t).slots i

/-- Writes a node slot and keeps NODES, the count of VALID nodes. -/
def State.setNode (s : State) (t i : Nat) (n : MNode) : State :=
  let valid (x : MNode) : Nat := b2n (decide (x.state = 1))
  let count := s.rd R.mdlTreeNodes t + valid n - valid (s.node t i)
  ((s.putTrees (aput s.trees t { s.tree t with slots := sset MNode.empty (s.tree t).slots i n }))).wr R.mdlTreeNodes t count

/-- A pool. -/
def State.pool? (s : State) (p : Nat) : Option Pool := aget s.pools p

/-- Changes a pool. -/
def State.updPool (s : State) (p : Nat) (f : Pool → Pool) : State := s.putPools (amod s.pools p f)

/-- Bytes of a block of a state format (R205): 2 × L × H × 256 × d_h × e. -/
def blockBytes (fmt : Nat) : Nat :=
  2 * (bitsOf fmt 15 8 + 1) * (bitsOf fmt 23 16 + 1) * 256 * (8 * (bitsOf fmt 7 0 + 1)) * (if bitsOf fmt 31 24 = 2 then 2 else 1)

/-- A block of a pool is freed: its frame, or its place on flash. -/
def State.dropBlock (s : State) (p b : Nat) : State :=
  match (s.pool? p).bind fun x => aget x.blocks b with
  | none => s
  | some y =>
    let s := s.updPool p fun x => { x with blocks := adel x.blocks b }
    let s := if y.flash then s.wr R.mdlPstatSpilled p (s.rd R.mdlPstatSpilled p - 1) else s
    if y.flash && y.restoring.isNone then s else s.wr R.mdlPstatFree p (s.rd R.mdlPstatFree p + 1)

/-- The pins on nodes: request, tree and slot. -/
def State.pinList (s : State) : List (ReqKey × Nat × Nat) :=
  (s.probes.flatMap fun m => m.matched.map fun i => (((m.client, m.req) : ReqKey), m.tree, i)) ++
    (s.retrieves.flatMap fun x => x.matchNodes.map fun i => (((x.client, x.req) : ReqKey), x.tree, i)) ++
    (s.gens.flatMap fun g => g.nodes.map fun i => (((g.client, g.req) : ReqKey), g.pool, i))

/-- The requests that pin a node. -/
def State.pinners (s : State) (t i : Nat) : List ReqKey := ((s.pinList.filter fun e => e.2 = (t, i)).map fun e => e.1).eraseDups

/-- A slot becomes DEAD (R193, R208): its state block is freed where the word that names it can be read, and where requests pin the node once the last
of them has released it (`held`). -/
def State.killNode (s : State) (t i : Nat) (readable held : Bool) : State :=
  let n := s.node t i
  let s := if readable ∧ n.state = 1 ∧ !held then s.dropBlock t n.block else s
  let s := s.setNode t i { n with state := 2 }
  (s.putTrees (amod s.trees t fun x => { x with bad := adel x.bad i })).incSat R.mdlTstatDead t 1

/-- Does a block belong to a node slot? -/
def State.nodeHolds (s : State) (t i b : Nat) : Bool := ((s.pool? t).bind fun x => aget x.blocks b).any fun y => y.node = some i

/-- A pin of a node is released. A slot that reads poisoned becomes DEAD (R193); one with an uncorrectable word has been met, and its tree's partition is reset
once the completion is posted that the release is part of (`settleTrees`; DEDUCED, log entry 88). The last pin of a DEAD node frees its block. -/
def State.unpin (s : State) (t i : Nat) : State :=
  let n := s.node t i
  let others := decide (1 < (s.pinners t i).length)
  let s := if n.state = 2 ∧ s.nodeHolds t i n.block ∧ !others then s.dropBlock t n.block else s
  match aget (s.tree t).bad i with
  | some 0 => s.killNode t i true others
  | some 1 => s.killNode t i false others
  | some _ => s.putTrees (amod s.trees t fun x => { x with bad := aput x.bad i 3 })
  | none => if n.state = 0 then s else s.setNode t i { n with ref := n.ref - 1 }

/-- The pins a request holds are released and its private blocks freed (R189, R204). -/
def State.freePins (s : State) (k : ReqKey) : State :=
  let nodes : List (Nat × Nat) := (s.pinList.filter fun e => e.1 = k).map fun e => e.2
  let blocks : List (Nat × Nat) := s.pools.flatMap fun (e : Nat × Pool) =>
    (e.2.blocks.filter fun (b : Nat × PBlock) => b.2.owner = some k).map fun (b : Nat × PBlock) => (e.1, b.1)
  blocks.foldl (fun s e => s.dropBlock e.1 e.2) (nodes.foldl (fun s e => s.unpin e.1 e.2) s)

/-- Is a generation paused, and since when? -/
def Gen.pausedAt (g : Gen) : Option Nat := match g.hostPaused, g.schedPaused with
  | some a, some b => some (Nat.min a b)
  | some a, none => some a
  | none, b => b

/-- A lane's block table from the prompt's first block: (index, block). -/
def Gen.table (g : Gen) : List (Nat × Nat) :=
  (List.range g.blocks.length).map (fun i => (i, g.blocks.getD i 0)) ++
    g.lanes.flatMap fun l => (List.range l.blocks.length).map fun i => (g.prompt.length / 256 + i, l.blocks.getD i 0)

/-! ## Probes (R188, R193) -/

/-- What a probe for a key finds: the slot of a hit; the first slot an insert may take; and a slot it could not read, where it is a miss (R193). -/
structure ProbeOut where
  hit : Option Nat
  slot : Option Nat
  stopped : Bool
  dead : Option Nat
  deriving DecidableEq, Repr

/-- A probe: at most 32 slots from KEY[LOG2 − 1:0]. -/
def State.probe (s : State) (t key : Nat) : ProbeOut :=
  let size := 2 ^ s.rd R.mdlTreeLog2 t
  (List.range 32).foldl (fun (o : ProbeOut) j =>
    if o.stopped then o
    else
      let i := (key + j) % size
      let n := s.node t i
      if (aget (s.tree t).bad i).isSome then { o with stopped := true, dead := some i }
      else match n.state with
        | 0 => { o with stopped := true, slot := some (o.slot.getD i) }
        | 1 => if n.key = key then { o with stopped := true, hit := some i } else o
        | 3 => { o with slot := some (o.slot.getD i) }
        | _ => o) ⟨none, none, false, none⟩

/-- VALID nodes of all trees. -/
def State.allNodes (s : State) : Nat := ((List.range 8).map fun t => s.rd R.mdlTreeNodes t).foldl (· + ·) 0

end Sys2Proof.Machine
end

