-- ==== Sys2Proof/Machine/TabOps.lean ====
section
/-! DEFINITION. Operations on embedding tables that more than one command uses (08_embedding_tables.md): row copies,
accumulators, residuals and the delta buffer. -/

namespace Sys2Proof.Machine

/-- FP16, the format of SCALE and OFFSET (R154). -/
def fmtFP16 : FloatFmt := ⟨5, 11, -24, 2047, 5, true, true⟩

/-- A table slot's table. -/
def State.table? (s : State) (t : Nat) : Option Table := aget s.tables t

/-- Changes a table. -/
def State.updTable (s : State) (t : Nat) (f : Table → Table) : State := s.putTables (amod s.tables t f)

/-- The row map entry of a row; a row that is not in the map lies in LPDDR-6 (Table TABL-4). -/
def Table.rowMap (t : Table) (r : Nat) : RowMap := (aget t.map r).getD ⟨0, r, false, 0, 0⟩

/-- Is the row a tail row: in host memory or flash (R169)? -/
def Table.isTail (t : Table) (r : Nat) : Bool := t.tiered && (t.rowMap r).tier ≠ 0

/-- Will the row be a tail row once its move, if one runs, has ended? -/
def Table.willTail (t : Table) (r : Nat) : Bool :=
  let m := t.rowMap r
  t.tiered && (if m.moving then m.newTier ≠ 0 else m.tier ≠ 0)

/-- The rows that have a residual entry, or that will need one: rows moving out of LPDDR-6, and tail rows of the delta buffer. -/
def Table.residRows (t : Table) : List Nat :=
  ((t.resid.map fun (e : Nat × List Int) => e.1) ++ ((t.delta.map fun (e : Nat × List Int) => e.1).filter t.willTail) ++
    ((t.map.filter fun (e : Nat × RowMap) => t.updatable && e.2.moving && e.2.tier = 0 && e.2.newTier ≠ 0).map fun e => e.1)).eraseDups

/-- Device address of a row copy in LPDDR-6: rows of a table that is not TIERED (R156), or copy A then B of a slot
(R169). -/
def Table.rowAddr (t : Table) (copy r : Nat) : Nat :=
  if t.tiered then t.codeA + 2 * t.stride * (t.rowMap r).slot + copy * t.stride
  else (if copy = 0 then t.codeA else t.codeB) + r * t.stride

/-- Device address of accumulator A(r, j) of a row that is not a tail row (R156, R162). -/
def Table.accAddr (t : Table) (r j : Nat) : Nat :=
  t.acc + 4 * (t.d * (if t.tiered then (t.rowMap r).slot else r) + j)

/-- Addition modulo 2^32 as a signed value (R162). -/
def wrap32 (i : Int) : Int := signedOf 32 (codeOfInt 32 i)

/-! ## The residual store and the delta buffer in device memory (R165, R169) -/

/-- The row number that marks a free entry of the residual store or of the delta buffer: no row has it (DESIGN CHOICE, log entry 76). -/
def freeRow : Nat := 0xFFFFFFFF

/-- Where the probe of a row starts in the residual store (R169). -/
def residHash (cap r : Nat) : Nat := r * 0x9E3779B1 % 2 ^ 32 % cap

/-- The entries of the residual store that rows take: by linear probing, in ascending row order (DESIGN CHOICE, log entry 76: the spec gives the probe
and not the order in which rows whose probes meet have come). -/
def residPlaces (cap : Nat) (rows : List Nat) : Sparse Nat :=
  rows.foldl (fun (m : Sparse Nat) r =>
    match ((List.range cap).map fun i => (residHash cap r + i) % cap).find? fun x => (aget m x).isNone with
    | some x => aput m x r
    | none => m) []

/-- The places of a table's residual entries. -/
def Table.residAt (t : Table) : Sparse Nat := residPlaces t.residCap (t.resid.map fun (e : Nat × List Int) => e.1)

/-- Bytes of an entry of the residual store, and of the delta buffer. -/
def Table.residSize (t : Table) : Nat := 4 + 4 * t.d
/-- Bytes of an entry of the delta buffer. -/
def Table.deltaSize (t : Table) : Nat := 8 + 4 * t.d

/-- 32-bit values as bytes. -/
def intBytes (l : List Int) : List Byte := l.flatMap fun i => leBytes 4 (codeOfInt 32 i)

/-- Writes an entry of the residual store: that of the row which has it, or a free one. -/
def State.layResidAt (s : State) (t : Table) (row : Option Nat) (x : Nat) : State :=
  match row with
  | none => s.writeDev (t.residBase + t.residSize * x) (leBytes 4 freeRow)
  | some r => s.writeDevP (t.residBase + t.residSize * x) (leBytes 4 r ++ intBytes ((aget t.resid r).getD [])) (decide (r ∈ t.residPoison))

/-- Writes the whole residual store. -/
def State.layResid (s : State) (t : Table) : State :=
  if t.residBase = 0 then s
  else
    let m := t.residAt
    (List.range t.residCap).foldl (fun s x => s.layResidAt t (aget m x) x) s

/-- Writes entry i of the delta buffer: the entries are in ascending row order, free ones follow (DESIGN CHOICE, log entry 76). -/
def State.layDeltaAt (s : State) (t : Table) (i : Nat) : State :=
  match t.delta[i]? with
  | none => s.writeDev (t.deltaBase + t.deltaSize * i) (leBytes 4 freeRow)
  | some e => s.writeDev (t.deltaBase + t.deltaSize * i) (leBytes 8 e.1 ++ intBytes e.2)

/-- Writes the whole delta buffer. -/
def State.layDelta (s : State) (t : Table) : State :=
  if t.deltaBase = 0 then s else (List.range 1024).foldl (fun s i => s.layDeltaAt t i) s

/-- A table's residuals change, and with them the entries of the residual store that differ. -/
def State.putResid (s : State) (slot : Nat) (resid : Sparse (List Int)) (bad : List Nat) : State :=
  match s.table? slot with
  | none => s
  | some t =>
    let u := { t with resid := resid, residPoison := (bad.filter fun r => (aget resid r).isSome).eraseDups }
    let s := s.updTable slot fun _ => u
    if t.residBase = 0 then s
    else
      let old := t.residAt
      let new := u.residAt
      let same (x : Nat) : Bool := decide (aget old x = aget new x) && (match aget new x with
        | none => true
        | some r => decide (aget t.resid r = aget resid r) && decide (r ∈ t.residPoison) = decide (r ∈ u.residPoison))
      ((old ++ new).map fun (e : Nat × Nat) => e.1).foldl (fun s x => if same x then s else s.layResidAt u (aget new x) x) s

/-- A table's delta buffer changes, and with it the entries in memory. -/
def State.putDelta (s : State) (slot : Nat) (delta : Sparse (List Int)) : State :=
  match s.table? slot with
  | none => s
  | some t =>
    let u := { t with delta := delta }
    let s := s.updTable slot fun _ => u
    if t.deltaBase = 0 then s
    else (List.range (Nat.max t.delta.length delta.length)).foldl (fun s i => if t.delta[i]? = delta[i]? then s else s.layDeltaAt u i) s

/-! ## Adding and folding -/

/-- Adds a row of deltas: to the accumulators in LPDDR-6, where an addition into a poisoned word leaves it poisoned (R263),
or to the row's residual (R169). -/
def State.addRow (s : State) (slot : Nat) (t : Table) (r : Nat) (ds : List Int) : State :=
  if t.isTail r then
    let t := (s.table? slot).getD t
    let bad := (t.residAt.filter fun (e : Nat × Nat) => e.2 = r).any fun e =>
      t.residBase ≠ 0 && (s.readDev (t.residBase + t.residSize * e.1) t.residSize).2
    let old := (aget t.resid r).getD (List.replicate t.d 0)
    s.putResid slot (aput t.resid r (List.zipWith (fun a b => wrap32 (a + b)) old ds)) (if bad then r :: t.residPoison else t.residPoison)
  else
    (List.range ds.length).foldl (fun s j =>
      let d := ds.getD j 0
      if d = 0 then s
      else
        let a := t.accAddr r j
        s.writeDev a (leBytes 4 (codeOfInt 32 (signedOf 32 (s.dev a 4) + d)))) s

/-- Folds the delta buffer into A, each element once (R165), and empties it. -/
def State.foldDelta (s : State) (slot : Nat) : State :=
  match s.table? slot with
  | none => s
  | some t => (t.delta.foldl (fun s e => s.addRow slot t e.1 e.2) s).putDelta slot []

/-- A commit is given up: nothing staged remains, the updates that waited in the delta buffer are folded into A (R165, R168). -/
def State.discardCommit (s : State) (slot : Nat) : State :=
  match s.table? slot with
  | none => s
  | some t =>
    if t.commit.isNone then s
    else ((s.foldDelta slot).updTable slot fun t => { t with commit := none }).wr R.tblTstatState slot 2

/-- An exact rational as numerator and positive denominator exponent: value(j) = SCALE × code + OFFSET (R155). -/
def rowValue (scale offset code : Nat) : Num :=
  ((fmtFP16.decode scale).mul (Num.ofInt code 0)).add (fmtFP16.decode offset)

/-- fixed(x) of R163: x × 2^FRAC to the nearest integer, ties to even, saturated to the INT32 range, an infinite x too (R162). -/
def fixedOf (frac : Nat) (x : Num) : Int :=
  match x with
  | .inf neg => if neg then -(2 ^ 31) else 2 ^ 31 - 1
  | x => max (-(2 ^ 31)) (min (2 ^ 31 - 1) (x.scale frac).toIntRne)

/-- The codes of a row copy's bytes: one byte each, or two per byte packed from the low nibble (R155, R67). -/
def rowCodes (bits d : Nat) (bytes : List Byte) : List Nat :=
  (List.range d).map fun j =>
    if bits = 8 then ((bytes.drop (4 + j)).headD 0).toNat
    else
      let b := ((bytes.drop (4 + j / 2)).headD 0).toNat
      if j % 2 = 0 then b % 16 else b / 16

/-- The exact values of a row copy (R155). -/
def rowValues (bits d : Nat) (bytes : List Byte) : List Num :=
  (rowCodes bits d bytes).map fun c => rowValue (fieldLe bytes 0 2) (fieldLe bytes 2 2) c

/-! ## The deltas of an update (R162, R165) -/

/-- The entries of an update: row, column, delta code. -/
def updEntries (p : List Byte) : List (Nat × Nat × Nat) := (chunks 12 p).map fun b => (fieldLe b 0 4, fieldLe b 4 2, fieldLe b 8 4)

/-- The delta of an entry in accumulator units. -/
def deltaOf (t : Table) (fp32 : Bool) (code : Nat) : Int := if fp32 then fixedOf t.frac (fp32Val code) else signedOf 32 code

/-- The deltas of an update for one slice, row by row. -/
def rowDeltas (t : Table) (slice : Nat) (fp32 : Bool) (es : List (Nat × Nat × Nat)) : Sparse (List Int) :=
  (es.filter fun e => decide (e.2.1 / t.d = slice)).foldl (fun (m : Sparse (List Int)) e =>
    let old := (aget m e.1).getD (List.replicate t.d 0)
    let j := e.2.1 % t.d
    aput m e.1 (old.set j (wrap32 (old.getD j 0 + deltaOf t fp32 e.2.2)))) []

/-- Do updates of a row go to the delta buffer: behind a commit, or while the row moves? -/
def Table.buffers (t : Table) (r : Nat) : Bool := t.commit.isSome || (t.rowMap r).moving

/-- Deltas enter A, or the delta buffer. -/
def State.applyDeltas (s : State) (slot : Nat) (ds : Sparse (List Int)) : State :=
  ds.foldl (fun (s : State) (e : Nat × List Int) => match s.table? slot with
    | none => s
    | some t =>
      if t.buffers e.1 then
        let old := (aget t.delta e.1).getD (List.replicate t.d 0)
        s.putDelta slot (aput t.delta e.1 (List.zipWith (fun a b => wrap32 (a + b)) old e.2))
      else s.addRow slot t e.1 e.2) s

/-- Rows whose deltas or residuals are all zero need no entry: an absent one means the same (R165, R169). -/
def State.dropZeroRows (s : State) (slot : Nat) (rows : List Nat) : State :=
  match s.table? slot with
  | none => s
  | some t =>
    let empty (e : Nat × List Int) : Bool := decide (e.1 ∈ rows) && e.2.all (· = 0)
    (s.putDelta slot (t.delta.filter fun e => !empty e)).putResid slot (t.resid.filter fun e => !(empty e && decide (e.1 ∉ t.residPoison))) t.residPoison

/-- Deltas are taken out of A again: additions modulo 2^32 undo exactly (R162). -/
def State.undoDeltas (s : State) (slot : Nat) (ds : Sparse (List Int)) : State :=
  (s.applyDeltas slot (ds.map fun (e : Nat × List Int) => (e.1, e.2.map fun d => wrap32 (-d)))).dropZeroRows slot (ds.map fun (e : Nat × List Int) => e.1)

end Sys2Proof.Machine
end

