-- ==== Sys2Proof/Machine/Ops.lean ====
section
/-! DEFINITION. The operations on requests: completion entries, the end of a request, its buffers and its boundaries
(14_host_interface.md). -/

namespace Sys2Proof.Machine

/-! ## Completion entries (R307 to R310) -/

/-- The request of a key. -/
def State.req? (s : State) (k : ReqKey) : Option Req := s.host.reqs.find? fun r => r.client = k.1 && r.id = k.2

/-- Changes the request of a key. -/
def State.updReq (s : State) (k : ReqKey) (f : Req → Req) : State :=
  s.updHost fun h => { h with reqs := modFirst (fun r => r.client = k.1 && r.id = k.2) f h.reqs }

/-- Is the request in flight and not ended? -/
def State.live (s : State) (k : ReqKey) : Bool :=
  match s.req? k with
  | some r => !r.ended
  | none => false

/-- Produces a completion entry for a client with registered rings (R307). -/
def State.produce (s : State) (e : CqEntry) : State :=
  if (s.ring e.client).isSome then s.updHost fun h => { h with cq := h.cq ++ [e] } else s

/-- Does the number of an insert that is taken back return to its section's free list: it came from there, or a merge has taken it below NODES (R127)? -/
def IndexChange.returns (c : IndexChange) (y : Section) : Bool := c.fromFree || decide (c.node < y.nodes)

/-- The index changes of a request that has ended without their publish are gone; numbers of the free list return to it. -/
def Shard.dropChanges (x : Shard) (k : ReqKey) : Shard :=
  let mine := x.changes.filter fun c => (c.client, c.req) = k
  if mine.isEmpty then x
  else { x with
    changes := x.changes.filter fun c => (c.client, c.req) ≠ k
    sections := (List.range x.sections.length).filterMap fun i => (x.sections[i]?).map fun y =>
      { y with free := y.free ++ (mine.filter fun c => !c.del && c.sec = i && c.returns y).map (·.node) } }

/-- The request ID that no request has: of work which still occupies an engine after its request has ended. -/
def noRequest : Nat := 2 ^ 32

/-! ## Engines (R326) and the streams of generations (R212) -/

/-- Engines of a kind. -/
def engineCount (k : EngKind) : Nat := match k with
  | .zest => 8
  | .punnet => 4
  | .medlar => 2

/-- Site of an engine (02_seven_levels.md Table LEVL-7). -/
def engineSite (k : EngKind) (i : Nat) : Nat := hubSite 5 (match k with
  | .zest => i
  | .punnet => 8 + i
  | .medlar => 12 + i)

/-- Master ID of an engine (Table LEVL-8). -/
def engineMaster (k : EngKind) (i : Nat) : Nat := match k with
  | .zest => 0x700 + i
  | .punnet => 0x710 + i
  | .medlar => 0x730 + i

/-- The partition an engine is assigned to (Table TNCY-4). -/
def State.enginePart (s : State) (k : EngKind) (i : Nat) : Option Nat :=
  let at' := match k with
    | .zest => (0, i)
    | .punnet => (1, i)
    | .medlar => (1, 4 + i)
  let e := s.rd ⟨R.cfgEngpEnt.off, .array, 8 * at'.2 + 7, 8 * at'.2⟩ at'.1
  if bitOf e 7 then some (e % 64) else none

/-- The engines of a kind that serve a partition and are not retired. -/
def State.engines (s : State) (k : EngKind) (p : Nat) : List Nat :=
  (List.range (engineCount k)).filter fun i => s.enginePart k i = some p && !s.unitRetired (engineSite k i) 0

/-- A Zest engine's counters. -/
def State.zestCount (s : State) (e bytes invalid : Nat) : State := (s.inc R.zstEstatBytes e bytes).incSat R.zstEstatInvalidUtf8 e invalid

/-- The Zest engine whose counters a partition's answer streams use: its lowest. -/
def State.zestFor (s : State) (p : Nat) : Option Nat := (s.engines .zest p).head?

/-- A client's time of a Zest engine for bytes that a generation's stream releases: 1 byte a nanosecond, the engine's output rate (R181, R328;
DEDUCED, log entry 93). -/
def State.zestTime (s : State) (c bytes : Nat) : State := s.charge c fun a => { a with zestNs := a.zestNs + bytes }

/-- A detokenizer's stream of a client ends with no further token: the bytes it holds back are released and counted, and it is free (R181). -/
def State.closeStream (s : State) (c stream : Nat) : State :=
  match aget s.streams (64 * c + stream) with
  | none => s
  | some z =>
    let s := s.putStreams (adel s.streams (64 * c + stream))
    let s := match (aget s.vocabs z.slot).bind fun v => s.zestFor v.part with
      | some e => (s.zestCount e z.pending.length z.pending.length).zestTime c z.pending.length
      | none => s
    if z.pending.isEmpty then s else s.updHost fun h => { h with texts := h.texts ++ [(c, stream, z.pending)] }

/-- A descriptor's flag bit (Table HOST-4). -/
def Req.flag (r : Req) (i : Nat) : Bool := bitOf (fieldLe r.desc 1 1) i

/-- A little-endian field of the descriptor. -/
def Req.d (r : Req) (o n : Nat) : Nat := fieldLe r.desc o n

/-- A little-endian field of INLINE (descriptor bytes 48-63). -/
def Req.inl (r : Req) (o n : Nat) : Nat := fieldLe r.desc (48 + o) n

/-- A little-endian field of the parameter block. -/
def Req.p (r : Req) (o n : Nat) : Nat := fieldLe r.param o n

/-- The use a request makes of a stream of its client: the stream, the vocabulary slot, whether it detokenizes, and whether it leaves the stream open. A
generation with DETOK is a command of its stream (R180, R181, R212). -/
def Req.streamUse (r : Req) : Option (Nat × Nat × Bool × Bool) :=
  match r.opcode with
  | 0x01 => some (r.inl 1 1, r.inl 0 1, false, bitOf (r.inl 2 1) 0)
  | 0x02 => some (r.inl 1 1, r.inl 0 1, true, bitOf (r.inl 2 1) 0)
  | 0x09 => if bitOf (r.p 13 1) 0 && bitOf (r.p 775 1) 7 then some (r.p 814 1, r.p 815 1, true, false) else none
  | 0x0A => if bitOf (r.p 7 1) 7 then some (r.p 46 1, r.p 47 1, true, false) else none
  | _ => none

/-- Does a request that has not ended, admitted before `order`, use a client's stream (R180)? -/
def State.streamTaken (s : State) (z order : Nat) : Bool :=
  s.host.reqs.any fun r => !r.ended && decide (r.order < order) && (r.streamUse.any fun u => 64 * r.client + u.1 = z)

/-- Lanes that a request's end cuts off end here for their DETOK stream, unless an earlier command of the stream still has it (R180, R212). -/
def State.closeStreams (s : State) (k : ReqKey) : State :=
  (s.gens.filter fun g => (g.client, g.req) = k && bitOf (fieldLe g.block 7 1) 7 && (g.lanes.any fun l => l.ended.isNone) &&
    !s.streamTaken (64 * g.client + fieldLe g.block 46 1) g.order).foldl (fun s g =>
    s.closeStream g.client (fieldLe g.block 46 1)) s

/-- Drops everything the module holds for a request's work, its pins and pool blocks among it: engines it occupies are freed by their own
events, and what they still hold belongs to no request any more. -/
def State.forgetWork (s : State) (k : ReqKey) : State :=
  let s := (s.closeStreams k).freePins k
  let s := (s.tables.filter fun (e : Nat × Table) => e.2.commit.any fun c => (c.client, c.req) = k).foldl (fun s e => s.discardCommit e.1) s
  s
      |>.putSearches (s.searches.filter fun x => (x.client, x.req) ≠ k)
      |>.putWalks ((s.walks.filter fun x => (x.client, x.req) ≠ k ∨ x.walker.isSome).map fun x => if (x.client, x.req) = k then { x with req := noRequest } else x)
      |>.putLookups (s.lookups.filter fun x => (x.client, x.req) ≠ k)
      |>.putBags ((s.bags.filter fun x => (x.client, x.req) ≠ k ∨ x.unit.isSome).map fun x => if (x.client, x.req) = k then { x with req := noRequest } else x)
      |>.putTasks ((s.tasks.filter fun x => (x.client, x.req) ≠ k ∨ x.engine.isSome).map fun x => if (x.client, x.req) = k then { x with req := noRequest } else x)
      |>.putGens (s.gens.filter fun x => (x.client, x.req) ≠ k)
      |>.putRetrieves (s.retrieves.filter fun x => (x.client, x.req) ≠ k)
      |>.putProbes (s.probes.filter fun x => (x.client, x.req) ≠ k)
      |>.putParts (s.parts.map fun e => (e.1, { e.2 with queue := e.2.queue.filter fun q => (q.client, q.req) ≠ k }))
      |>.putTables (s.tables.map fun e => (e.1, { e.2 with pins := e.2.pins.filter fun q => q.1 ≠ k, updates := e.2.updates.filter fun u => (u.client, u.req) ≠ k }))
      |>.putShards (s.shards.map fun e => (e.1, ({ e.2 with pins := e.2.pins.filter fun q => q.1 ≠ k }).dropChanges k))
      |>.putHost { s.host with
      rx := s.host.rx.filter fun g => g.need ≠ .request k.1 k.2
      reads := s.host.reads.filter fun g => g.need ≠ .request k.1 k.2 }

/-- Requests of a client in flight. -/
def State.inflight (s : State) (c : Nat) : Nat := (s.host.reqs.filter fun r => r.client = c).length

/-- Is the translation of the page known to fail while ATS is enabled (R301)? -/
def State.writeFails (s : State) (fn a n : Nat) : Bool :=
  fn ∈ s.host.ats &&
    (List.range (n / 4096 + 2)).any fun i => (fn, (Nat.min (a + 4096 * i) (a + (n - 1))) / 4096) ∈ s.host.noXlat

/-- The hub writes an admin completion entry and signals its vector; it carries the client in COUNT (R314). One whose page does not translate is not sent
and is reported (R301; DESIGN CHOICE, log entry 32: the spec says no more of it for the admin ring). -/
def State.admPost (s : State) (client request status opcode slot : Nat) : State :=
  let size := 2 ^ (s.rd R.hstAdmCfgCqLog2 0 + 4)
  let t := s.host.admCqTail
  let bs := leBytes 4 request ++ leBytes 2 status ++ leBytes 2 (s.rd R.hstAdmDbSqHead 0) ++ leBytes 4 client ++ leBytes 1 opcode ++
    leBytes 1 (b2n s.host.admPhase) ++ leBytes 2 slot ++ leBytes 4 0 ++ leBytes 4 0 ++ leBytes 8 s.now
  if s.writeFails 0 (4096 * s.rd R.hstAdmCqBase 0 + 32 * t) 32 then s.raise 0x0C2 (hubSite 5 14) 0 0 2 0
  else (s.updHost fun h => { h with
    dma := h.dma ++ [⟨0, none, 4096 * s.rd R.hstAdmCqBase 0 + 32 * t, false, bs⟩]
    admCqTail := (t + 1) % size
    admPhase := if t + 1 = size then !h.admPhase else h.admPhase }).irq 0 (s.rd R.hstAdmCfgVector 0)

/-- A client's rings are deregistered: entries not yet written and descriptors fetched and not admitted are gone. -/
def State.deregister (s : State) (c : Nat) : State :=
  let s := s.updHost fun h => { h with
    rings := adel h.rings c
    fetched := h.fetched.filter fun f => f.client ≠ c
    reads := h.reads.filter fun r => r.need ≠ .descriptor c
    rx := h.rx.filter fun r => r.need ≠ .descriptor c
    cq := h.cq.filter fun e => e.client ≠ c }
  (s.wr R.hstRingReg c 0).wr R.hstRingCqFull c 0

/-- An ADM_RING_DELETE with FORCE completes once the client's requests have ended (R314). -/
def State.admSettle (s : State) (c : Nat) : State :=
  match s.host.admPending.find? fun e => e.1 = c with
  | none => s
  | some e =>
    if s.inflight c ≠ 0 then s
    else ((s.updHost fun h => { h with admPending := h.admPending.filter fun x => x ≠ e }).deregister c).admPost c e.2.1 0 0x81 e.2.2

/-- Takes a request out of flight and mirrors the count in HST_RING.INFLIGHT (R304). -/
def State.dropReq (s : State) (k : ReqKey) : State :=
  let s := s.updHost fun h => { h with reqs := dropFirst (fun r => r.client = k.1 && r.id = k.2) h.reqs }
  (if k.1 < 4096 then s.wr R.hstRingInflight k.1 (s.inflight k.1) else s).admSettle k.1

/-- The status codes of Table HOST-9. -/
def stOk : Nat := 0x0000
/-- ST_INFO_SPAN. -/
def stInfoSpan : Nat := 0x0001
/-- ST_FEW_RESULTS. -/
def stFewResults : Nat := 0x0002
/-- ST_PAUSED. -/
def stPaused : Nat := 0x0003
/-- ST_BAD_DESCRIPTOR. -/
def stBadDescriptor : Nat := 0x0010
/-- ST_STATE. -/
def stState : Nat := 0x0011
/-- ST_NO_RESOURCE. -/
def stNoResource : Nat := 0x0012
/-- ST_VERSION_RETIRED. -/
def stVersionRetired : Nat := 0x0013
/-- ST_NOT_BOUND. -/
def stNotBound : Nat := 0x0014
/-- ST_DENIED. -/
def stDenied : Nat := 0x0015
/-- ST_OUTPUT_SHORT. -/
def stOutputShort : Nat := 0x0016
/-- ST_DEADLINE. -/
def stDeadline : Nat := 0x0020
/-- ST_CANCELLED. -/
def stCancelled : Nat := 0x0021
/-- ST_EMPTY_MASK. -/
def stEmptyMask : Nat := 0x0022
/-- ST_CONTEXT_FAULT. -/
def stContextFault : Nat := 0x0030
/-- ST_POISON. -/
def stPoison : Nat := 0x0031
/-- ST_PARTITION_RESET. -/
def stPartitionReset : Nat := 0x0032
/-- ST_ACTIVATION_PENDING. -/
def stActivationPending : Nat := 0x0040

/-- The usage report of work done for another module (R330). -/
def usageWords (x : Remote) : List (BitVec 128) :=
  [BitVec.ofNat 128 (0x5553 + 2 ^ 16 * x.client), BitVec.ofNat 128 (x.ns % 2 ^ 64 + 2 ^ 64 * (x.uj % 2 ^ 64)), BitVec.ofNat 128 (x.bytes % 2 ^ 64)]

/-- Calibrated energy of a client's tasks that is not posted yet, with the K in force (R329). -/
def State.restUj (s : State) (c : Nat) : Nat :=
  ((s.power.uses.filter fun u => u.rows.all fun r => r.client = c).map fun u => u.uj + u.nj * s.rd R.pwrEstK 0 / 2 ^ 14 / 1000).foldl (· + ·) 0

/-- This module's part of another module's request ends: a usage report goes to its source, and ERROR before it where it failed
(R287, R330). -/
def State.endRemote (s : State) (k : ReqKey) (status : Nat) : State :=
  match s.fab.remotes.find? fun x => x.local_ = k with
  | none => s
  | some x =>
    let s := s.updFab fun f => { f with remotes := dropFirst (fun y => y = x) f.remotes }
    let s := if 16 ≤ status then s.sendError x.src x.req status else s
    (s.inc R.accForeignNsNs 0 x.ns).sendHub x.src 4 x.req (usageWords { x with uj := x.uj + s.restUj k.1 })

/-- The collective of a request is gone: its participants are told with ERROR that the request has ended (R143, R287). -/
def State.endColls (s : State) (k : ReqKey) (status : Nat) : State :=
  match s.fab.colls.find? fun x => (x.client, x.req) = k with
  | none => s
  | some x =>
    let s := s.updFab fun f => { f with colls := f.colls.filter fun y => (y.client, y.req) ≠ k }
    (x.participants.filter fun m => m ≠ s.rd R.optCfgModuleId 0 && m ∉ x.gone).foldl (fun s m => s.sendError m k.2 status) s

/-- Writes bytes at a descriptor's address for a client: to device memory, or to host memory as a posted write, with EP set
where the data is poisoned. `none` where the write cannot be sent: a bounds fault, or a failed translation (R301). -/
def State.writeAddr (s : State) (c a : Nat) (bs : List Byte) (poison : Bool) : Option State :=
  if bs.isEmpty then some s
  else if isDev a then
    if bitsOf a 62 48 ≠ 0 ∨ !s.clientRange c (a % 2 ^ 48) bs.length then none
    else some ((s.charge c fun x => { x with lpddrWr := x.lpddrWr + bs.length }).writeDevP (a % 2 ^ 48) bs poison)
  else if s.writeFails (s.fnOf c) a bs.length then none
  else
    let s := s.charge c fun x => { x with hostWr := x.hostWr + bs.length }
    some (s.updHost fun h => { h with dma := h.dma ++ [⟨s.fnOf c, s.pasidOf c, a, poison, bs⟩] })

/-- The ranking record (Table RANK-6): VALID_SEARCH, VALID_EXACT and VALID_MODEL are the VALID fields of the three lists. -/
def Retrieve.record (x : Retrieve) (span : Nat) : List Byte :=
  leBytes 4 x.req ++ leBytes 2 x.epochs.length ++ leBytes 2 (fieldLe x.list1 0 2) ++ leBytes 2 (fieldLe x.list2 0 2) ++
    leBytes 2 (fieldLe x.list3 0 2) ++ leBytes 4 (Nat.min span (2 ^ 32 - 1)) ++ leBytes 4 (Nat.min x.stale (2 ^ 32 - 1)) ++ List.replicate 12 0 ++
    (x.epochs.flatMap fun e => leBytes 2 e.1 ++ leBytes 2 0 ++ leBytes 4 e.2) ++ x.list3

/-! ## Result records (R18, R213) -/

/-- Text tokens of the prompt. -/
def Gen.plen (x : Gen) : Nat := x.prompt.length

/-- The seed of a generation: SEED, or TIM_NOW at admission. -/
def seedOf (b : List Byte) (r : Req) : Nat := if bitOf (fieldLe b 7 1) 5 then fieldLe b 48 8 else r.admittedAt % 2 ^ 64

/-- The result record (Table GENS-10). -/
def Gen.record (g : Gen) (req : Nat) : List Byte :=
  leBytes 4 req ++ leBytes 4 g.plen ++ leBytes 8 g.seed ++ leBytes 4 g.matched ++ leBytes 1 (g.lanes.length - 1) ++ [0, 0, 0] ++
    leBytes 4 (Nat.min g.span (2 ^ 32 - 1)) ++ leBytes 4 (Nat.min g.e2m1 (2 ^ 32 - 1)) ++
    g.lanes.flatMap fun l => leBytes 4 l.delivered ++ leBytes 1 (l.ended.getD 5) ++ leBytes 1 l.stop ++ [0, 0]

/-- END of a lane that a request's end cuts off (Table GENS-10). -/
def endCode (status : Nat) : Nat := if status = stDeadline then 2 else if status = stCancelled then 3 else 5

/-- The generation with such lanes ended. -/
def Gen.closed (g : Gen) (status : Nat) : Gen :=
  { g with lanes := g.lanes.map fun l => if l.ended.isSome then l else { l with ended := some (endCode status) } }

/-- The result record of an OP_GENERATE that ends before its generation has begun. -/
def Req.genRecord (r : Req) (status : Nat) : List Byte :=
  leBytes 4 r.id ++ leBytes 4 (r.p 64 4) ++ leBytes 8 (seedOf r.param r) ++ leBytes 4 0 ++ leBytes 1 (r.p 16 1) ++ List.replicate 11 0 ++
    (List.range (r.p 16 1 + 1)).flatMap fun _ => leBytes 4 0 ++ leBytes 1 (endCode status) ++ [0, 0, 0]

/-- The record of a request that ends early, and its offset: of a generation the result record, unless it is written already; of a retrieval before the
hand-over the ranking record with what it has by then, so that its SPAN elements are reported whatever the status, also before its first stage has begun
(R18, R213). -/
def State.endRecord (s : State) (k : ReqKey) (r : Req) (status : Nat) : Option (Nat × List Byte) :=
  match s.gens.find? (fun g => (g.client, g.req) = k), s.retrieves.find? (fun x => (x.client, x.req) = k) with
  | some g, _ => if r.recImg.any fun e => e.1 = g.recBase then none else some (g.recBase, (g.closed status).record k.2)
  | none, x => if r.recImg.any fun e => e.1 = 0 then none
    else if r.opcode = 0x09 then some (0, (x.getD (Retrieve.fresh k.1 k.2 [])).record r.span)
    else if r.opcode = 0x0A then some (0, r.genRecord status) else none

/-- It is written; one that cannot be written is reported as HOST_DMA_ERROR and left out, and the request ends with the status it has (R301; DESIGN CHOICE,
log entry 34: the request ends already). -/
def State.lastRecord (s : State) (k : ReqKey) (r : Req) (status : Nat) : State :=
  match s.endRecord k r status with
  | none => s
  | some (o, b) =>
    if r.orphan || r.remote.isSome then s
    else match s.writeAddr k.1 (r.d 40 8 + o) b false with
      | some s => s.updReq k fun r => { r with recBytes := Nat.max r.recBytes (o + b.length), recImg := r.recImg ++ [(o, b)] }
      | none => s.raise 0x0C2 (hubSite 5 14) (s.fnOf k.1) 0 2 0

/-- DETAIL of a final entry: matched blocks; for an OP_RETRIEVE R312 states none, so it is a free value. -/
def State.genDetail (s : State) (g : Gen) (op : Nat) : State × Nat :=
  if op = 0x09 then ((s.putFreeCtr (s.freeCtr + 1)), Config.freeValue s.freeCtr 0) else (s, g.matched)


/-- The time a request was paused by the scheduler is charged (R202), whatever ends it (R331). -/
def State.chargePause (s : State) (g : Gen) : State := match g.schedPaused with
  | some t => s.charge g.client fun a => { a with pauseNs := a.pauseNs + (s.now - t) }
  | none => s

/-- A request ends with a final status (R307, R451): its entry is produced unless its function was reset, its work is
dropped and its pins are released; success or failure is counted (Table TNCY-5); a context fault is counted for its
partition (R332). A request that ended stays in flight until its entry is posted. -/
def State.endReq (s : State) (k : ReqKey) (status count detail : Nat) : State :=
  match s.req? k with
  | none => s
  | some r =>
    if r.ended then s
    else
      let s := if 16 ≤ status then s.lastRecord k r status else s
      let s := match s.gens.find? fun g => (g.client, g.req) = k with
        | some g => s.chargePause g
        | none => s
      let bytes := ((s.req? k).getD r).recBytes
      let s := (s.endColls k status).forgetWork k
      let s := if r.remote.isSome then s.endRemote k status
        else s.charge k.1 fun a => if status < 16 then { a with succeeded := a.succeeded + 1 } else { a with failed := a.failed + 1 }
      let s := if status = stContextFault then s.incSat R.cfgPstatCtxFaults r.part 1 else s
      if r.orphan || (s.ring k.1).isNone then s.dropReq k
      else
        let s := s.updReq k fun r => { r with ended := true }
        s.produce { client := k.1, request := k.2, status := status, count := count, opcode := r.opcode,
                    interim := false, event := false, record := decide (bytes ≠ 0),
                    digest := r.flag 2 && decide (status < 16), slot := r.slot, outBytes := r.outBytes,
                    detail := detail, irq := r.flag 0 }

/-- An interim entry of a request (R307). -/
def State.interim (s : State) (k : ReqKey) (status count detail : Nat) : State :=
  match s.req? k with
  | none => s
  | some r =>
    if r.orphan then s
    else s.produce { client := k.1, request := k.2, status := status, count := count, opcode := r.opcode,
                     interim := true, event := false, record := decide (r.recBytes ≠ 0), digest := false, slot := r.slot,
                     outBytes := r.outBytes, detail := detail, irq := false }

/-- The consuming unit of a poisoned word reports it when it ends a request with ST_POISON (R264). -/
def State.endPoison (s : State) (k : ReqKey) (site master addr count : Nat) : State :=
  (s.raise 0x044 site master addr 1 0).endReq k stPoison count 0

/-! ## Ends asked for (R451) -/

/-- A request is asked to end early (R451): by a CANCEL or at an activation. OP_RETRIEVE, OP_GENERATE and rows of a running pass end
at their next boundary; a request of any other kind whose work has started runs to its end, one that waits ends at once. A search
remembers the cancel for the choice of R124. -/
def State.cancelReq (s : State) (k : ReqKey) : State :=
  match s.req? k with
  | none => s
  | some r =>
    if r.ended then s
    else if r.opcode = 0x09 ∨ r.opcode = 0x0A ∨ ((r.opcode = 0x03 ∨ r.opcode = 0x06) ∧ r.started) then
      s.updReq k fun r => { r with cancelAt := some (r.cancelAt.getD s.now) }
    else if r.started then
      (if r.opcode = 0x04 then s.updReq k fun r => { r with cancelAt := some (r.cancelAt.getD s.now) } else s)
    else s.endReq k stCancelled 0 0

/-- Has the request's deadline passed? -/
def State.expired (s : State) (r : Req) : Bool := r.d 8 8 ≠ 0 && decide (r.d 8 8 < s.now)

/-- What ends a request at a boundary (R17, R204): the earlier device time decides, a deadline at equal times. -/
def State.boundary (s : State) (r : Req) : Option Nat :=
  match s.expired r, r.cancelAt with
  | true, some t => if t < r.d 8 8 then some stCancelled else some stDeadline
  | true, none => some stDeadline
  | false, some _ => some stCancelled
  | false, none => none

end Sys2Proof.Machine
end

