-- ==== Sys2Proof/Machine/Reset.lean ====
section
/-! DEFINITION. A partition reset (15_tenancy.md R333 to R335, 05_cluster_programs.md Table CLUS-10). Every cause calls this
one operation at the moment it reaches the hub. -/

namespace Sys2Proof.Machine

/-- A cluster at a partition reset (Table CLUS-10): the sequencer stops, queued and running transfers are abandoned, counters
clear, port queues empty, credits reload and SEQ restarts. -/
def Cluster.reset (c : Cluster) : Cluster :=
  { c with
    counters := [], xfers := [], inq := [], creditsUsed := [], seqOut := [], held := none, beginMsg := false,
    inStep := false, loops := [], spans := [], rowEvents := [], eventsSent := [], sigs := [], checkSigs := [],
    schedCycles := 0, waitToken := 0, waitPort := 0, waitCredit := 0, waitFinal := 0, waitPower := 0, recompCycles := 0,
    poisonOut := 0, poisonRows := [], e2m1Nan := 0, spanCount := 0, vecBusy := 0, roEnd := [], roReady := 0, arrFree := 0, wFree := [],
    wUsed := [], wReady := [], paccFree := 0, bankUse := [], tileProds := [], products := [], productOpen := false, poisonReads := [],
    stopped := true }

/-- Takes a walk off its walker: its context slots are free again and its bursts are no longer outstanding (R130, Table SRCH-11). -/
def State.freeWalker (s : State) (w : Walk) : State :=
  match w.walker with
  | none => s
  | some n =>
    let others := (s.walks.filter fun x => x.walker = some n && x.order ≠ w.order).map fun x => x.bursts
    (s.wr R.sloWstatSlotsBusy n (s.rd R.sloWstatSlotsBusy n - ceilDiv w.beam 256)).wr R.sloWstatOutstanding n
      (Nat.min 2048 (others.foldl (· + ·) 0))

/-- Frees the engine a task runs on. -/
def State.freeEngine (s : State) (t : Task) : State :=
  match t.engine, t.kind with
  | some e, .zest => s.wr R.zstEstatBusy e 0
  | some e, .punnet => s.wr R.punEstatBusy e 0
  | _, _ => s

/-- Does a request have work in flight or queued in partition `p` (R325): an engine task, rows of a pass or step, a generation, a probe or matched
nodes of its tree, or a pinned shard that it still searches, re-ranks or fetches from? -/
def State.worksIn (s : State) (k : ReqKey) (remote : Bool) (p : Nat) : Bool :=
  let x := s.part p
  let treeIn (t : Nat) : Bool := decide (s.rd R.mdlTreePartition t = p)
  (s.tasks.any fun t => decide ((t.client, t.req) = k) && t.part = p) || (s.gens.any fun g => decide ((g.client, g.req) = k) && g.part = p) ||
    ((x.queue ++ x.pass).any fun w => decide ((w.client, w.req) = k)) ||
    ((x.running.getD [] ++ x.next.getD []).any fun w => decide ((w.client, w.req) = k)) ||
    (s.probes.any fun m => decide ((m.client, m.req) = k) && treeIn m.tree) ||
    (s.retrieves.any fun y => decide ((y.client, y.req) = k) && !y.matchNodes.isEmpty && treeIn y.tree) ||
    ((remote || s.retrieves.any fun y => decide ((y.client, y.req) = k) && decide (4 ≤ y.stage) && decide (y.stage ≤ 9)) &&
      s.shards.any fun (e : Nat × Shard) => e.2.part = p && e.2.pins.any fun q => decide (q.1 = k))

/-- Requests whose work is in partition `p` (R333). An OP_RETRIEVE that has begun belongs to the partitions its present stage works in, and one that
has finished with a partition goes on when that is reset. -/
def State.reqsOf (s : State) (p : Nat) : List Req :=
  s.host.reqs.filter fun r => !r.ended && ((!(r.opcode = 0x09 && r.ran) && (r.part = p || r.part2 = some p)) ||
    s.worksIn (r.client, r.id) r.remote.isSome p)

/-- A gather unit gives its sub-bag up: no burst of it is outstanding (Table TABL-9). -/
def State.freeUnit (s : State) (b : BagWork) : State :=
  match b.unit with
  | none => s
  | some u => s.wr R.tblGstatOutstanding u 0

/-- What a partition reset clears of the partition's shared engines and objects (R333). -/
def State.clearPartition (s : State) (p : Nat) : State :=
  let gone := s.tasks.filter fun t => t.part = p
  let s := gone.foldl State.freeEngine s
  let s := s.putTasks (s.tasks.filter fun t => t.part ≠ p)
  let onPart (slot : Nat) := match aget s.shards slot with
    | some x => x.part == p
    | none => false
  let wgone := s.walks.filter fun w => onPart w.slot
  let s := wgone.foldl State.freeWalker (s.putWalks (s.walks.filter fun w => !onPart w.slot))
  let tabs := s.tables.filter fun (e : Nat × Table) => e.2.part = p
  let onTab (b : BagWork) : Bool := tabs.any fun (e : Nat × Table) => e.1 = b.table
  let s := ((s.bags.filter onTab).foldl State.freeUnit s).putBags (s.bags.filter fun b => !onTab b)
  let s := tabs.foldl (fun s e => s.discardCommit e.1) s
  let s := (s.shards.filter fun (e : Nat × Shard) => e.2.part = p && e.2.merge.isSome).foldl (fun s e =>
    ((s.putShards (amod s.shards e.1 fun x => { x with merge := none }))).wr R.sloShardState e.1 2) s
  let vs : List Nat := (s.vocabs.filter fun (e : Nat × Vocab) => e.2.part = p).map fun e => e.1
  let s := s.putStreams (s.streams.filter fun (e : Nat × ZStream) => e.2.slot ∉ vs)
  let s := (List.range 8).foldl (fun s t =>
    if s.rd R.mdlTreeLog2 t ≠ 0 ∧ s.rd R.mdlTreePartition t = p then
      ((s
          |>.putTrees (amod s.trees t fun _ => MTree.empty)
          |>.putPools (amod s.pools t fun x => { x with blocks := [] })
          |>.putProbes (s.probes.filter fun m => m.tree ≠ t)).wr R.mdlTreeNodes t 0
        |>.wr R.mdlPstatFree t (s.rd R.mdlPstatFrames t)).wr R.mdlPstatSpilled t 0 |>.wr R.mdlTreeState t 2 |>.wr R.mdlPstatState t
          (if (aget s.pools t).isSome then 3 else s.rd R.mdlPstatState t)
    else s) s
  s.putFlash { s.flash with writes := s.flash.writes.filter fun w =>
      (w.sectors.head?.map fun (x : Sector) => x.part) ≠ some p }

/-- The streams of a reset partition's clusters (Table CLUS-10): credits reload, so none is owed; SEQ restarts at 0 at every die link, and messages held
early there are dropped with the reset generation they carry. Streams of other sources go on, so that their messages keep their places in SEQ order (R35).
Tokens in flight carry the generation too and are dropped on arrival. -/
def State.resetStreams (s : State) (p : Nat) : State :=
  let own (cl : Nat) : Bool := decide (s.partOf cl = some p)
  s.updPkg fun k => { k with
    creditsOwed := k.creditsOwed.filter fun e => !own (e.1 / 8)
    links := k.links.map fun (e : Nat × DieLink) => (e.1, { e.2 with
      early := e.2.early.filter fun m => m.part ≠ p || !(decide (0x200 ≤ m.src) && own (m.src - 0x200))
      expect := e.2.expect.filter fun x => !(decide (0x200 ≤ x.1 / 4096) && own (x.1 / 4096 - 0x200)) }) }

/-- Is a host read that of a partition's schedule? A reset abandons it with its entry (R248, Table MEMT-11). -/
def needPart (p : Nat) (n : HostNeed) : Bool := match n with
  | .prefetch q _ => q = p
  | _ => false

/-- Resets partition `p` with a cause of CFG_PSTAT.LAST_CAUSE (R333, Table TNCY-7). A cause that arrives during the reset is
folded into it; of two causes in one cycle the lower code stands (Table TNCY-8). -/
def State.resetPartition (s : State) (p cause : Nat) : State :=
  if !s.partEn p then s
  else if s.rd R.cfgPstatState p = psReset then
    (if (s.part p).resetAt = some s.now then s.wr R.cfgPstatLastCause p (Nat.min cause (s.rd R.cfgPstatLastCause p)) else s)
  else
    let s := s.wr R.cfgPstatState p psReset
    let s := s.inc R.cfgPstatRgen p 1
    let s := s.wr R.cfgPstatLastCause p cause
    let s := s.incSat R.cfgPstatResets p 1
    let s := s.raise 0x006 (hubSite 0 0) hubMaster (p + 256 * cause) 0 0
    let s := (s.reqsOf p).foldl (fun s r =>
      let d := match s.gens.find? fun g => (g.client, g.req) = (r.client, r.id) with
        | some g => s.genDetail g r.opcode
        | none => (s, 0)
      d.1.endReq (r.client, r.id) stPartitionReset r.delivered d.2) s
    let s := (s.partClusters p).foldl (fun s cl => s.setCluster cl (s.cluster cl).reset) s
    let s := s.resetStreams p
    let s := s.clearPartition p
    let s := s.putHealth { s.health with votes := s.health.votes.filter fun v => v.part ≠ p }
    let s := s.updHost fun h => { h with reads := h.reads.filter fun r => !(needPart p r.need), rx := h.rx.filter fun g => !(needPart p g.need) }
    let x := s.part p
    let s := x.sampling.foldl (fun s l => s.wr R.pipUstatBusy l.unit 0) s
    let s := s.endUse p
    s.setPart p { x with queue := [], running := none, next := none, withheld := [], groups := [], prefetch := [], waitingIssue := [],
                         failedTags := [], checks := [], poisonPending := [], sampling := [], steps := 0, pass := [],
                         resetAt := some s.now }

/-- Resets each of several partitions. -/
def State.resetParts (s : State) (ps : List Nat) (cause : Nat) : State :=
  ps.foldl (fun s p => s.resetPartition p cause) s

end Sys2Proof.Machine
end

