-- ==== Sys2Proof/Machine/Operands.lean ====
section
/-! DEFINITION. Operand forms of the cluster programs (05_cluster_programs.md): scratch, step descriptors, pair records, operand
buffers, stream descriptors and the hazards and poison of control words. -/

namespace Sys2Proof.Machine

/-- The clock of a cluster's sequencer: its master ID (Table LEVL-8). -/
def clusterMaster (cl : Nat) : Nat := 0x200 + cl

/-- Scratch bytes and whether a word read is poisoned (R96, Table CODE-3). -/
def Cluster.readS (c : Cluster) (a n : Nat) : List Byte × Bool := readBytes correctMode c.scratch (fun x => x / 16) a n

/-- Writes scratch bytes. -/
def Cluster.writeS (c : Cluster) (a : Nat) (bs : List Byte) : Cluster :=
  { c with scratch := writeBytes correctMode c.scratch (fun x => x / 16) a bs }

/-- Writes scratch bytes, poisoned where asked. -/
def Cluster.writeSP (c : Cluster) (a : Nat) (bs : List Byte) (poison : Bool) : Cluster :=
  if poison then { c with scratch := writePoison c.scratch (fun x => x / 16) a bs.length } else c.writeS a bs

/-- A field of a descriptor by its bits. -/
def dbits (desc : List Byte) (h l : Nat) : Nat := bitsOf (leNat desc) h l

/-! ## Step descriptor (Table CLUS-4) -/

/-- MODE: 0 FP8, 1 FP4, 2 BF16. -/
def sdMode (d : List Byte) : Nat := dbits d 2 0
/-- PATH: 1 LANE. -/
def sdLane (d : List Byte) : Bool := dbits d 3 3 = 1
/-- SAT. -/
def sdSat (d : List Byte) : Bool := dbits d 4 4 = 1
/-- RS_EN. -/
def sdRs (d : List Byte) : Bool := dbits d 5 5 = 1
/-- CS_EN. -/
def sdCs (d : List Byte) : Bool := dbits d 6 6 = 1
/-- TS_EN. -/
def sdTs (d : List Byte) : Bool := dbits d 7 7 = 1
/-- A_FMT. -/
def sdA (d : List Byte) : Nat := dbits d 11 8
/-- W_FMT. -/
def sdW (d : List Byte) : Nat := dbits d 15 12
/-- OUT_FMT. -/
def sdOut (d : List Byte) : Nat := dbits d 18 16
/-- G_K. -/
def sdGk (d : List Byte) : Nat := dbits d 23 20 + 1
/-- M_T. -/
def sdMt (d : List Byte) : Nat := dbits d 31 24 + 1
/-- M. -/
def sdM (d : List Byte) : Nat := dbits d 47 32 + 1
/-- K. -/
def sdK (d : List Byte) : Nat := dbits d 80 64 + 1
/-- N. -/
def sdN (d : List Byte) : Nat := dbits d 114 96 + 1
/-- STEP_TAG. -/
def sdTag (d : List Byte) : Nat := dbits d 159 128

/-! ## Pair record (Table CLUS-5) -/

/-- MROW: rows m. -/
def prRows (p : List Byte) : Nat := dbits p 7 0 + 1
/-- NCOL: columns written. -/
def prCols (p : List Byte) : Nat := dbits p 24 16 + 1
/-- ACC_ANCHOR: REL mode. -/
def prRel (p : List Byte) : Bool := dbits p 47 47 = 1
/-- ACC_ANCHOR: VALUE, signed 12 bits (Table ARIT-3). -/
def prAnchor (p : List Byte) : Int := signedOf 12 (dbits p 43 32)
/-- TA. -/
def prTa (p : List Byte) : Int := signedOf 8 (dbits p 55 48)
/-- TW. -/
def prTw (p : List Byte) : Int := signedOf 8 (dbits p 63 56)
/-- OUT_ADDR. -/
def prOut (p : List Byte) : Nat := dbits p 86 64
/-- OUT_STRIDE. -/
def prStride (p : List Byte) : Nat := dbits p 111 96
/-- OT. -/
def prOt (p : List Byte) : Nat := dbits p 127 112
/-- CT. -/
def prCt (p : List Byte) : Nat := dbits p 138 128
/-- KG. -/
def prKg (p : List Byte) : Nat := dbits p 147 144
/-- PARTIAL_PORT: the output port that the program's SENDs of the pair's partial words name (R59, DEDUCED, log entry 60). -/
def prPort (p : List Byte) : Nat := dbits p 158 156
/-- OWNER. -/
def prOwner (p : List Byte) : Bool := dbits p 148 148 = 1
/-- A_SUM_ADDR. -/
def prASum (p : List Byte) : Nat := dbits p 182 160
/-- W_SUM_ADDR. -/
def prWSum (p : List Byte) : Nat := dbits p 214 192

/-- Cluster tiles of a step (R58). -/
def sdTiles (d : List Byte) : Nat := ceilDiv (sdN d) 256

/-- The pair index j of R393. -/
def pairIndex (d p : List Byte) : Nat := (prOt p * sdTiles d + prCt p) * sdGk d + prKg p

/-- The step row number of row `r` of an output tile (R58, R107). -/
def stepRow (d p : List Byte) (r : Nat) : Nat := if sdLane d then r else prOt p * sdMt d + r

/-- K positions of one K tile (Table MATX-2). -/
def kTile (d : List Byte) : Nat := if sdMode d = 1 then 256 else 128

/-- Element `i` of a packed run of elements of `bits` bits (R67). -/
def elemAt (bytes : List Byte) (bits i : Nat) : Nat :=
  (leNat ((bytes.drop (bits * i / 8)).take 3)) / 2 ^ (bits * i % 8) % 2 ^ bits

/-- Bytes of one activation row of an MMA (Table CLUS-6). -/
def actRowBytes (fmt : Nat) : Nat := if fmtBits fmt = 6 then 96 else if fmt = 11 then 256 else 128

/-- Bytes of one register row of a weight load (Table CLUS-6). -/
def wRowBytes (fmt : Nat) : Nat := if fmtBits fmt = 6 then 48 else if fmt = 11 then 128 else 64

/-- Blocks per K tile (Table CLUS-6). -/
def kBlocks (d : List Byte) : Nat := if sdMode d = 1 then 8 else 4

/-- The next 16-byte boundary (R102). -/
def align16 (a : Nat) : Nat := roundUp a 16

/-! ## Stream descriptors (Table CLUS-7) -/

/-- COUNTER. -/
def stCounter (d : List Byte) : Nat := dbits d 189 184
/-- LOCAL_STRIDE. -/
def stLocalStride (d : List Byte) : Nat := dbits d 183 160
/-- REMOTE_STRIDE, signed. -/
def stRemoteStride (d : List Byte) : Int := signedOf 32 (dbits d 159 128)
/-- ROWS. -/
def stRows (d : List Byte) : Nat := dbits d 127 112 + 1
/-- ROW_WORDS. -/
def stRowWords (d : List Byte) : Nat := dbits d 107 96 + 1
/-- LOCAL_ADDR. -/
def stLocal (d : List Byte) : Nat := dbits d 86 64
/-- PEER. -/
def stPeer (d : List Byte) : Nat := dbits d 63 56
/-- DIR = 1: out of scratch. -/
def stOut (d : List Byte) : Bool := dbits d 52 52 = 1
/-- SPACE. -/
def stSpace (d : List Byte) : Nat := dbits d 51 48
/-- REMOTE_ADDR. -/
def stRemote (d : List Byte) : Nat := dbits d 47 0

/-- Bytes of the local range of a transfer (R97). -/
def stLocalLen (d : List Byte) : Nat := (stRows d - 1) * stLocalStride d + stRowWords d * 16

/-- Remote address of row `i`. -/
def stRemoteRow (d : List Byte) (i : Nat) : Nat := ((stRemote d : Int) + i * stRemoteStride d).toNat

/-- Do two byte ranges overlap? -/
def overlap (a n b m : Nat) : Bool := decide (a < b + m) && decide (b < a + n)

/-- Does a scheduled access of bytes [a, a + n) hit the local range of an outstanding transfer that it must not (R97)? -/
def Cluster.hazard (c : Cluster) (a n : Nat) (write : Bool) : Bool :=
  c.xfers.any fun x => !x.page && (write || !stOut x.desc) && overlap a n (stLocal x.desc) (stLocalLen x.desc)

/-! ## Faults of a cluster program -/

/-- The partition of a cluster is reset with a cause, reported at a unit of the cluster. -/
def State.clusterFault (s : State) (cl kind cls cause : Nat) : State :=
  let s := s.raise kind (s.clusterSite cl cls 0) (clusterMaster cl) 0 0 0
  match s.partOf cl with
  | some p => s.resetPartition p cause
  | none => s

/-- A scratch-hazard fault resets the partition (R97). -/
def State.scratchHazard (s : State) (cl : Nat) : State := s.clusterFault cl 0x003 5 2

/-- A poisoned control word resets the partition (R263). -/
def State.controlPoison (s : State) (cl : Nat) : State := s.clusterFault cl 0x004 5 3

/-- Can the sequencer issue: it runs and is not held at a synchronisation point (R93, R94)? -/
def Cluster.canIssue (c : Cluster) : Bool := c.held.isNone && !c.stopped

/-- After an instruction: the loops whose body ends here repeat or are left (R99). -/
def loopNext (pc : Nat) (loops : List (Nat × Nat × Nat)) : Nat × List (Nat × Nat × Nat) :=
  match loops with
  | [] => (pc, [])
  | (a, e, n) :: r => if pc ≠ e then (pc, (a, e, n) :: r) else if n = 0 then loopNext pc r else (a, (a, e, n - 1) :: r)

/-! ## The schedule clock and the scratch banks (R92, R93, R96) -/

/-- The banks that an access of scratch bytes [a, a + n) needs, as a 32-bit mask: the bank of an address is bits [10:6]. -/
def bankMask (a n : Nat) : Nat :=
  if n = 0 then 0
  else if 32 ≤ (a + n - 1) / 64 - a / 64 then 2 ^ 32 - 1
  else (List.range ((a + n - 1) / 64 - a / 64 + 1)).foldl (fun m i => m ||| 2 ^ ((a / 64 + i) % 32)) 0

/-- The banks that the accesses of one cycle need. -/
def touchMask (ts : List Touch) : Nat := ts.foldl (fun m t => m ||| bankMask t.1 t.2.1) 0

/-- A run of bytes that a unit takes `w` bytes a cycle. -/
def runSpans (a n w : Nat) (wr : Bool) : List (List Touch) := (List.range (ceilDiv n w)).map fun i => [(a + w * i, Nat.min w (n - w * i), wr)]

/-- Moves the time of a key on by one cycle, where it has one. -/
def slipKey (m : Sparse Nat) (k : Nat) : Sparse Nat := match aget m k with
  | some t => aput m k (t + 1)
  | none => m

/-- The newest read-out begins one cycle later, because the accumulation it ends has slipped (R52). -/
def Cluster.slipReadOut (c : Cluster) : Cluster :=
  match c.roEnd with
  | [] => c
  | e :: r =>
    let from' := Nat.max c.roReady (r.headD 0)
    let upto := Nat.max (c.roReady + 1) (r.headD 0)
    { c with
      roReady := c.roReady + 1
      roEnd := (e + (upto - from')) :: r
      bankUse := c.bankUse.map fun u => if u.order = 1 ∧ e ≤ u.due + u.spans.length then { u with due := u.due + (upto - from') } else u }

/-- A unit's times move on with an access that waits (R93): the weight-load channel and its register, the array or lane with the registers its rows
select and the read-out that follows, the partial accumulation, or the vector unit. -/
def Cluster.slip (c : Cluster) (u : BankUse) : Cluster :=
  match u.order with
  | 2 => { c with paccFree := c.paccFree + 1 }
  | 3 => { c with wFree := (u.regs.map (· / 2)).foldl slipKey c.wFree, wReady := u.regs.foldl slipKey c.wReady }
  | 4 =>
    let c := { c with arrFree := c.arrFree + 1, wUsed := u.regs.foldl slipKey c.wUsed }
    if u.last then c.slipReadOut else c
  | 5 => { c with vecBusy := c.vecBusy + 1 }
  | _ => c

/-- What one schedule cycle has granted so far: the banks taken, those of them taken by read-out writes and partial accumulations, the uses that wait, and
the weight registers whose loads wait. -/
structure BankTurn where
  taken : Nat
  near : Nat
  waits : List BankUse
  late : List Nat

/-- The access of `u` in its turn: it waits where a bank is taken, or where rows select a register whose load waits (R48, R96). Activation rows do not wait
for the row of a weight load beside them: a register row takes one bank and an activation row two, so such a wait would come every second cycle, and the
counts of R62 have none (DESIGN CHOICE, log entry 59: R62 over R96). -/
def BankTurn.next (g : BankTurn) (u : BankUse) : BankTurn :=
  let m := touchMask (u.spans.headD [])
  if (m &&& (if u.order = 4 then g.near else g.taken)) ≠ 0 ∨ (u.order = 4 ∧ (u.regs.any fun r => r ∈ g.late)) then
    ⟨g.taken, g.near, g.waits ++ [u], if u.order = 3 then g.late ++ u.regs else g.late⟩
  else ⟨g.taken ||| m, if u.order ≤ 2 then g.near ||| m else g.near, g.waits, g.late⟩

/-- The accesses of a schedule cycle, in the order of R96. -/
def Cluster.bankTurn (c : Cluster) : BankTurn :=
  ([1, 2, 3, 4, 5].flatMap fun o => c.bankUse.filter fun u => u.order = o ∧ u.due ≤ c.schedCycles).foldl BankTurn.next ⟨0, 0, [], []⟩

/-- One schedule cycle: each bank serves the first access in order, and the others wait one cycle (R96). -/
def Cluster.tick (c : Cluster) : Cluster :=
  let t := c.schedCycles
  if c.bankUse.all fun u => decide (t < u.due) then { c with schedCycles := t + 1 }
  else
    let g := c.bankTurn
    let moved := c.bankUse.filterMap fun u =>
      if t < u.due then some u
      else if u ∈ g.waits then some { u with due := t + 1 }
      else if u.spans.length ≤ 1 then none
      else some { u with due := t + 1, spans := u.spans.drop 1 }
    g.waits.foldl Cluster.slip { c with bankUse := moved, schedCycles := t + 1 }

/-- `n` schedule cycles pass. -/
def Cluster.advance (c : Cluster) (n : Nat) : Cluster :=
  match n with
  | 0 => c
  | k + 1 => if c.bankUse.isEmpty then { c with schedCycles := c.schedCycles + (k + 1) } else c.tick.advance k

/-- Issue stalls until schedule cycle `f`, which moves on with the unit it waits for; `fuel` bounds the cycles in which an access is due. -/
def Cluster.waitFor (fuel : Nat) (f : Cluster → Nat) (c : Cluster) : Cluster :=
  match fuel with
  | 0 => { c with schedCycles := Nat.max c.schedCycles (f c) }
  | k + 1 =>
    if f c ≤ c.schedCycles then c
    else if c.bankUse.isEmpty then { c with schedCycles := f c }
    else Cluster.waitFor k f c.tick

/-- Issue stalls until a unit's time has come (R93): each cycle that passes serves an access or brings that time nearer. -/
def Cluster.stall (c : Cluster) (f : Cluster → Nat) : Cluster :=
  c.waitFor (f c - c.schedCycles + (c.bankUse.map fun u => u.spans.length + 1).foldl (· + ·) 0) f

/-- Does an access of one place in the order of R96 hold up one of a later place? A weight load does not hold up activation rows (log entry 59). -/
def holdsUp (first later : Nat) : Bool := decide (first < later) && !(first = 3 && later = 4)

/-- Issue stalls while the first access of an instruction needs a bank that an access earlier in the order has taken (R93, R96). -/
def Cluster.bankStall (fuel order mask : Nat) (c : Cluster) : Cluster :=
  match fuel with
  | 0 => c
  | k + 1 =>
    let g := (c.bankUse.filter fun u => u.due ≤ c.schedCycles && holdsUp u.order order).foldl (fun m u => m ||| touchMask (u.spans.headD [])) 0
    if g &&& mask = 0 then c else Cluster.bankStall k order mask c.tick

/-- A unit begins a run of accesses in this cycle (R96). -/
def Cluster.startUse (c : Cluster) (u : BankUse) : Cluster :=
  let c := c.bankStall ((c.bankUse.map fun v => v.spans.length).foldl (· + ·) 0) u.order (touchMask (u.spans.headD []))
  if u.spans.isEmpty then c else { c with bankUse := c.bankUse ++ [{ u with due := c.schedCycles }] }

/-- A copy that holds issue until it is done: one access a cycle, each after every access earlier in the order (SEND and RECV, R96). -/
def Cluster.copyRun (c : Cluster) (spans : List (List Touch)) : Cluster :=
  spans.foldl (fun c ts => (c.bankStall ((c.bankUse.map fun v => v.spans.length).foldl (· + ·) 0) 6 (touchMask ts)).advance 1) c

/-- The next instruction is due: the one after, or the first of a body that repeats (R99). -/
def Cluster.nextInstr (c : Cluster) : Cluster :=
  let n := loopNext (c.pc + 1) c.loops
  { c with pc := n.1, loops := n.2 }

/-- An instruction issues: `cycles` schedule cycles, and the next instruction is due (R93, R99). -/
def Cluster.issue (c : Cluster) (cycles : Nat) : Cluster := (c.advance cycles).nextInstr

/-! ## Words of scratch (R96, R254, R262 to R264) -/

/-- The words of scratch that hold bytes a to a + n - 1. -/
def scratchWords (a n : Nat) : List Nat := if n = 0 then [] else (List.range ((a + n - 1) / 16 - a / 16 + 1)).map (a / 16 + ·)

/-- Those of them that bytes a to a + n - 1 do not fill: a write merges into these (R263). -/
def edgeWords (a n : Nat) : List Nat := (scratchWords a n).filter fun w => decide (16 * w < a) || decide (a + n < 16 * w + 16)

/-- Site of the scratch bank that holds a word (Table LEVL-7). -/
def State.scratchSite (s : State) (cl w : Nat) : Nat := s.clusterSite cl (if w / 4 % 32 < 16 then 3 else 4) (w / 4 % 16)

/-- A word of a cluster's scratch is uncorrectable: it is reported, the partition of the cluster is reset, and the word is overwritten with poison (R262). -/
def State.scratchFault (s : State) (cl w master : Nat) : State :=
  let st := s.scratchSite cl w
  let s := s.raise 0x041 st master (16 * w) 1 0
  let s := match s.partOf cl with
    | some p => s.resetPartition p 1
    | none => s
  (s.setCluster cl { s.cluster cl with scratch := putWord (s.cluster cl).scratch w poisonWord }).raise 0x043 st hubMaster (16 * w) 2 0

/-- The decoder reads words of scratch: corrections are reported; the first uncorrectable word resets, and the reading unit gets nothing. -/
def State.scratchRead (s : State) (cl : Nat) (ws : List Nat) : State × Bool :=
  match ws with
  | [] => (s, true)
  | w :: r => match decodeWord false (wordAt (s.cluster cl).scratch w) with
    | .uncorrectable => (s.scratchFault cl w (clusterMaster cl), false)
    | .word _ (some _) => (s.codeCorrected (s.scratchSite cl w) (clusterMaster cl) (16 * w)).scratchRead cl r
    | _ => s.scratchRead cl r

/-- A unit reads byte ranges of scratch: a hazard with a transfer resets the partition, as an uncorrectable word does (R97, R262). -/
def State.reading (s : State) (cl : Nat) (l : List (Nat × Nat)) (f : State → State) : State :=
  if l.any fun e => (s.cluster cl).hazard e.1 e.2 false then s.scratchHazard cl
  else match s.scratchRead cl (l.flatMap fun e => scratchWords e.1 e.2) with
    | (s, true) => f s
    | (s, false) => s

/-- A unit writes byte ranges of scratch. A word that it merges into is read first; one that is poisoned stays so, the bytes meant for it are discarded, and
the unit reports it (R263; DESIGN CHOICE for the kind, log entry 86). -/
def State.writing (s : State) (cl cls : Nat) (l : List (Nat × Nat)) (f : State → State) : State :=
  let ws := l.flatMap fun e => edgeWords e.1 e.2
  if l.any fun e => (s.cluster cl).hazard e.1 e.2 true then s.scratchHazard cl
  else match s.scratchRead cl ws with
    | (s, true) => f ((ws.filter fun w => readWord correctMode (s.cluster cl).scratch w == .poisoned).foldl (fun s w =>
        s.raise 0x044 (s.clusterSite cl cls 0) (clusterMaster cl) (16 * w) 2 0) s)
    | (s, false) => s

end Sys2Proof.Machine
end

