-- ==== Sys2Proof/Machine/Flags.lean ====
section
/-! DEFINITION. The sticky flags of an accumulator entry, their precedence at read-out, the row event table and the pair
signature (04_exact_arithmetic.md R74, R82, 05_cluster_programs.md R107, 18_health.md R395). -/

namespace Sys2Proof.Machine

/-- One scaled product enters an accumulator entry of anchor `a` (R74): a special or unfitting product only sets its flag. -/
def AccEntry.addProduct (fp4 : Bool) (a : Int) (x : AccEntry) (p : Num) : AccEntry :=
  match p with
  | .nan => { x with nan := true }
  | .inf false => { x with pinf := true }
  | .inf true => { x with ninf := true }
  | .fin _ _ _ =>
    if p.isZero then x
    else if fitsWindow fp4 a p then { x with value := x.value + BitVec.ofInt 128 (p.toIntAt a) }
    else { x with span := true }

/-- Partial accumulators add exactly and OR their flags (R59, R74). -/
def AccEntry.join (x y : AccEntry) : AccEntry :=
  ⟨x.value + y.value, x.nan || y.nan, x.pinf || y.pinf, x.ninf || y.ninf, x.span || y.span, x.poison || y.poison⟩

/-- The partial word of an entry (R100): value in [122:0]; NAN, PINF, NINF, SPAN and POISON in [127] down to [123]. -/
def AccEntry.partialWord (x : AccEntry) : List Byte :=
  leBytes 16 (x.value.toNat % 2 ^ 123 + b2n x.poison * 2 ^ 123 + b2n x.span * 2 ^ 124 + b2n x.ninf * 2 ^ 125 +
    b2n x.pinf * 2 ^ 126 + b2n x.nan * 2 ^ 127)

/-- The entry of a partial word: the value sign-extended from bit 122. -/
def AccEntry.ofPartial (bs : List Byte) (poisoned : Bool) : AccEntry :=
  let n := leNat bs
  ⟨BitVec.ofInt 128 (signedOf 123 n), bitOf n 127, bitOf n 126, bitOf n 125, bitOf n 124, bitOf n 123 || poisoned⟩

/-- How an output element is decided: the first row of Table ARIT-7 that applies. -/
inductive OutClass where
  | poison
  | value (x : Num)
  | recompute
  deriving DecidableEq, Repr

/-- Table ARIT-7 for an entry of anchor `a`, or the FP32 accumulator of a BF16 step (R83). -/
def AccEntry.outClass (x : AccEntry) (bf16 : Bool) (a : Int) : OutClass :=
  if x.poison then .poison
  else if bf16 then .value (fp32Val x.value.toNat)
  else if x.nan || (x.pinf && x.ninf) then .value .nan
  else if x.pinf then .value (.inf false)
  else if x.ninf then .value (.inf true)
  else if x.span then .recompute
  else .value (Num.ofInt x.value.toInt a)

/-- The bit width of an output element of OUT_FMT. -/
def outBits (f : Nat) : Nat := (outFmtOf f).bits

/-- Does the value count as a NaN written as E2M1 (R81)? -/
def isE2m1Nan (f : Nat) (x : Num) : Bool := f = 4 && x = .nan

/-- mix64 of R395. -/
def mix64 (x : BitVec 64) : BitVec 64 :=
  let x := x ^^^ (x >>> 33)
  let x := x * 0xFF51AFD7ED558CCD#64
  let x := x ^^^ (x >>> 33)
  let x := x * 0xC4CEB9FE1A85EC53#64
  x ^^^ (x >>> 33)

/-- What the element at row r and column c with written word lo, hi adds to a signature (R395). -/
def sigTerm (r c : Nat) (word : Nat) : BitVec 64 :=
  let lo := BitVec.ofNat 64 word
  let hi := BitVec.ofNat 64 (word / 2 ^ 64)
  mix64 (mix64 (BitVec.ofNat 64 (256 * r + c)) ^^^ lo ^^^ mix64 hi)

/-- Sends the row event table to the hub and empties it (R107). -/
def Cluster.flushEvents (c : Cluster) : Cluster :=
  { c with eventsSent := c.eventsSent ++ c.rowEvents.map (fun e => (e.1, e.2.1, e.2.2)), rowEvents := [] }

/-- Counts events of a step row: a row that is not in the table claims an entry, and finds a full table sent first (R107). -/
def Cluster.rowEvent (c : Cluster) (row span nan : Nat) : Cluster :=
  let c := if (aget c.rowEvents row).isNone && decide (256 ≤ c.rowEvents.length) then c.flushEvents else c
  let old := (aget c.rowEvents row).getD (0, 0)
  { c with rowEvents := aput c.rowEvents row (old.1 + span, old.2 + nan) }

/-- Adds to the signature of a pair, or of a check slot. -/
def Cluster.sign (c : Cluster) (check : Bool) (id : Nat) (t : BitVec 64) : Cluster :=
  if check then { c with checkSigs := sset 0 c.checkSigs id (sget 0 c.checkSigs id + t) }
  else { c with sigs := sset 0 c.sigs id (sget 0 c.sigs id + t) }

end Sys2Proof.Machine
end

