-- ==== Sys2Proof/Machine/Matrix.lean ====
section
/-! DEFINITION. The matrix arrays and the matrix-vector lane (03_matrix_fabric.md, 04_exact_arithmetic.md): SETSTEP, SETPAIR,
WLOAD, MMA, LMV, PACC and RECOMPUTE_DONE. -/

namespace Sys2Proof.Machine

/-- An instruction of the cluster issues if the sequencer can issue; otherwise the command changes nothing. A cluster of no partition runs no program: it
belongs to no client's work, and only the Windfall test uses it (R322). -/
def State.onCluster (s : State) (cl : Nat) (f : Cluster → State) : State :=
  let c := s.cluster cl
  if cl < 240 ∧ c.canIssue ∧ (s.partOf cl).isSome then f c else s

/-- SETSTEP reads the step descriptor it names; a poisoned one resets the partition (R263). Its MODE field is the step's mode, also where the program writes
a descriptor whose MODE is not the one that its formats set (R51; DESIGN CHOICE, log entry 83: the image check holds the preloaded ones alone to R51). -/
def State.setStep (s : State) (cl addr : Nat) : State :=
  s.onCluster cl fun c => s.reading cl [(addr, 32)] fun s =>
    let r := c.readS addr 32
    if r.2 then s.controlPoison cl
    else s.setCluster cl { c.issue 2 with stepAddr := addr, stepDesc := r.1, productOpen := false }

/-- SETSTEP. -/
def execSetstep (cl addr : Nat) (s : State) : Out := .next (s.setStep cl addr)

/-- SETPAIR names the base of the pair table. -/
def State.setPair (s : State) (cl addr : Nat) : State :=
  s.onCluster cl fun c => s.setCluster cl { c.issue 1 with pairBase := addr }

/-- SETPAIR. -/
def execSetpair (cl addr : Nat) (s : State) : Out := .next (s.setPair cl addr)

/-- Packs codes of `bits` bits from the least significant bit upward (R67). -/
def packCodes (bits : Nat) (codes : List Nat) : List Byte :=
  leBytes (ceilDiv (bits * codes.length) 8) (codes.foldr (fun x acc => x % 2 ^ bits + 2 ^ bits * acc) 0)

/-- Writes packed elements at a byte address; a word that holds an element derived from poison is poisoned, and no other (R82, Table CODE-5). The
bits that a last byte has beyond the elements are written as zero (DESIGN CHOICE, log entry 61). -/
def Cluster.writeElems (c : Cluster) (a bits : Nat) (es : List (Nat × Bool)) : Cluster :=
  let bs := packCodes bits (es.map (·.1))
  let first := a / 16
  (List.range ((a + bs.length + 15) / 16 - first)).foldl (fun c w =>
    let lo := Nat.max a (16 * (first + w))
    let hi := Nat.min (a + bs.length) (16 * (first + w) + 16)
    let part := (bs.drop (lo - a)).take (hi - lo)
    let from' := 8 * (lo - a) / bits
    let upto := (8 * (hi - a) + bits - 1) / bits
    let bad := ((es.drop from').take (upto - from')).any (·.2)
    c.writeSP lo part bad) c

/-! ## Weight loads -/

/-- The areas of one array's weights at an address (Table CLUS-6): where the block scales and the column scales lie, and the end. -/
def wAreas (d : List Byte) (addr : Nat) : Nat × Nat × Nat :=
  let a1 := align16 (addr + 128 * wRowBytes (sdW d))
  let a2 := align16 (a1 + (if fmtScaled (sdW d) then 64 * kBlocks d else 0))
  (a1, a2, a2 + (if sdCs d then 64 else 0))

/-- Where array `a`'s weights lie: array a + 1 follows at the next 64-byte boundary (Table CLUS-6). -/
def wArrayAddr (d : List Byte) (addr a : Nat) : Nat :=
  match a with
  | 0 => addr
  | b + 1 => roundUp (wAreas d (wArrayAddr d addr b)).2.2 64

/-- The weight register image at an address (Table CLUS-6): rows, block scales, column scales. -/
def Cluster.loadW (c : Cluster) (addr : Nat) : WReg :=
  let w := sdW c.stepDesc
  let ar := wAreas c.stepDesc addr
  let rows := c.readS addr (128 * wRowBytes w)
  let scales := c.readS ar.1 (if fmtScaled w then 64 * kBlocks c.stepDesc else 0)
  let cols := c.readS ar.2.1 (if sdCs c.stepDesc then 64 else 0)
  ⟨rows.1, scales.1, cols.1, rows.2 || scales.2 || cols.2⟩

/-- The accesses of cycle `k` of a load: register row k of every named array, with the first row of a block its block scales, and with the first row the
column scales (R49, R98). The arrays of one WLOAD count as one access (DESIGN CHOICE, log entry 59). -/
def loadSpans (d : List Byte) (bases : List Nat) (k : Nat) : List Touch :=
  let rb := wRowBytes (sdW d)
  let per := 128 / kBlocks d
  bases.flatMap fun b => (b + rb * k, rb, false) ::
    ((if fmtScaled (sdW d) && decide (k % per = 0) then [((wAreas d b).1 + 64 * (k / per), 64, false)] else []) ++
      (if sdCs d && decide (k = 0) then [((wAreas d b).2.1, 64, false)] else []))

/-- WLOAD fills a register of each named array over 128 cycles of the array's weight-load channel, once the rows that select the register's old
contents have entered (R47, R48). In a step of the lane, whose arrays are gated, it still writes the registers and takes its channel (R56; DESIGN CHOICE,
log entry 62: loading weights for a later step forms no sum of this one). -/
def State.wload (s : State) (cl addr arrays : Nat) (wb : Bool) : State :=
  s.onCluster cl fun c =>
    let d := c.stepDesc
    let named := (List.range 4).filter fun a => bitOf arrays a
    let base := wArrayAddr d addr
    s.reading cl (named.map fun a => (base a, (wAreas d (base a)).2.2 - base a)) fun s =>
      let regs := named.map fun a => 2 * a + b2n wb
      let c := c.stall fun c => Nat.max (named.foldl (fun t a => Nat.max t (sget 0 c.wFree a)) 0)
        (regs.foldl (fun t r => Nat.max t (sget 0 c.wUsed r)) 0)
      let c := if named.isEmpty then c
        else c.startUse ⟨3, 0, (List.range 128).map (loadSpans d (named.map base)), regs, false⟩
      let t := c.schedCycles
      let c := named.foldl (fun c a =>
        { c with weights := aput c.weights (2 * a + b2n wb) (c.loadW (base a)),
                 wFree := sset 0 c.wFree a (t + 128)
                 wReady := sset 0 c.wReady (2 * a + b2n wb) (t + 1) }) c
      s.setCluster cl (c.issue 1)

/-- WLOAD. -/
def execWload (cl wAddr arrays : Nat) (wb : Bool) (s : State) : Out := .next (s.wload cl wAddr arrays wb)

/-! ## Operands of an accumulation -/

/-- What the operands of one accumulation give for row r and column c of a tile: the products in ascending k, the scales of the row and the column,
and their scale summaries. -/
structure TileOps where
  poison : Bool
  aRow : Nat → Nat → Nat               -- code of (r, k)
  aScale : Nat → Nat → Option Nat      -- E8M0 scale of (r, k)
  wCol : Nat → Nat → Nat               -- code of (k, c)
  wScale : Nat → Nat → Option Nat
  rowExp : Nat → Int
  colExp : Nat → Int
  rowSum : Nat → Int                   -- S_a of a row, S_w of a column (R71)
  colSum : Nat → Int

/-- The signed byte of a scale area. -/
def scaleByte (bs : List Byte) (i : Nat) : Int := signedOf 8 ((bs.drop i).headD 0).toNat

/-- The unsigned byte of a scale area. -/
def byteAt (bs : List Byte) (i : Nat) : Nat := ((bs.drop i).headD 0).toNat

/-- Bytes of a pair's scale summaries that are read: n signed 16-bit values, only in REL mode and for an operand that has block scales (R71). -/
def sumBytes (p : List Byte) (fmt n : Nat) : Nat := if prRel p && fmtScaled fmt then 2 * n else 0

/-- The scale summary of row or column `i`; one that has no block scales contributes 0 (R71). -/
def sumAt (bs : List Byte) (i : Nat) : Int := signedOf 16 (leNat ((bs.drop (2 * i)).take 2))

/-- The operands of an MMA: activation rows, block scales and row scales at A_ADDR (Table CLUS-6) and the weight registers. -/
def Cluster.mmaOps (c : Cluster) (p : List Byte) (addr rows : Nat) (wb : Bool) (cols : Nat) : TileOps :=
  let d := c.stepDesc
  let af := sdA d
  let wf := sdW d
  let rb := actRowBytes af
  let nb := kBlocks d
  let a := c.readS addr (rows * rb)
  let a1 := align16 (addr + rows * rb)
  let sb := if fmtScaled af then rows * nb else 0
  let sc := c.readS a1 sb
  let rs := c.readS (align16 (a1 + sb)) (if sdRs d then rows else 0)
  let as' := c.readS (prASum p) (sumBytes p af rows)
  let ws := c.readS (prWSum p) (sumBytes p wf cols)
  let w (arr : Nat) : WReg := (aget c.weights (2 * arr + b2n wb)).getD ⟨[], [], [], false⟩
  let wp := (List.range (ceilDiv cols 64)).any fun arr => (w arr).poison
  { poison := a.2 || sc.2 || rs.2 || as'.2 || ws.2 || wp
    aRow := fun r k => elemAt (a.1.drop (r * rb)) (fmtBits af) k
    aScale := fun r k => if fmtScaled af then some (byteAt sc.1 (r * nb + k / 32)) else none
    wCol := fun k j =>
      let x := w (j / 64)
      if fmtFamily wf = .fp4 then
        let b := byteAt x.rows (k / 2 * 64 + j % 64)
        if k % 2 = 0 then b % 16 else b / 16
      else elemAt (x.rows.drop (k * wRowBytes wf)) (fmtBits wf) (j % 64)
    wScale := fun k j => if fmtScaled wf then some (byteAt (w (j / 64)).scales (64 * (k / 32) + j % 64)) else none
    rowExp := fun r => if sdRs d then scaleByte rs.1 r else 0
    colExp := fun j => if sdCs d then scaleByte (w (j / 64)).cols (j % 64) else 0
    rowSum := sumAt as'.1
    colSum := sumAt ws.1 }

/-- The operands of a walk of the lane (Table CLUS-6): activations at A_ADDR, the window at WIN_ADDR. -/
def Cluster.lmvOps (c : Cluster) (p : List Byte) (addr rows blocks win cols : Nat) : TileOps :=
  let d := c.stepDesc
  let af := sdA d
  let wf := sdW d
  let rb := blocks * fmtBits af
  let a := c.readS addr (rows * rb)
  let a1 := align16 (addr + rows * rb)
  let sb := if fmtScaled af then rows * ceilDiv blocks 4 else 0
  let sc := c.readS a1 sb
  let rs := c.readS (align16 (a1 + sb)) (if sdRs d then rows else 0)
  let as' := c.readS (prASum p) (sumBytes p af rows)
  let sw := c.readS (prWSum p) (sumBytes p wf cols)
  let bb := 64 * fmtBits wf
  let w := c.readS win (blocks * bb)
  let w1 := align16 (win + blocks * bb)
  let wsb := if fmtScaled wf then 64 * ceilDiv (8 * blocks) 32 else 0
  let ws := c.readS w1 wsb
  let cs := c.readS (align16 (w1 + wsb)) (if sdCs d then 64 else 0)
  { poison := a.2 || sc.2 || rs.2 || w.2 || ws.2 || cs.2 || as'.2 || sw.2
    aRow := fun r k => elemAt (a.1.drop (r * rb)) (fmtBits af) k
    aScale := fun r k => if fmtScaled af then some (byteAt sc.1 (r * ceilDiv blocks 4 + k / 32)) else none
    wCol := fun k j => elemAt (w.1.drop (k / 8 * bb + k % 8 * (bb / 8))) (fmtBits wf) j
    wScale := fun k j => if fmtScaled wf then some (byteAt ws.1 (64 * (k / 32) + j)) else none
    rowExp := fun r => if sdRs d then scaleByte rs.1 r else 0
    colExp := fun j => if sdCs d then scaleByte cs.1 j else 0
    rowSum := sumAt as'.1
    colSum := sumAt sw.1 }

/-- Both tile scales, where they apply (R66). -/
def tileExp (d p : List Byte) : Int := if sdTs d then prTa p + prTw p else 0

/-- The anchor A of an element (R71, Table ARIT-3). -/
def tileAnchor (d p : List Byte) (o : TileOps) (r j : Nat) : Int :=
  if prRel p then prAnchor p + o.rowSum r + o.colSum j + o.rowExp r + o.colExp j + tileExp d p else prAnchor p

/-- The products of an element in ascending k (R68). -/
def tileProducts (d p : List Byte) (o : TileOps) (ks r j : Nat) : List Num :=
  (List.range ks).map fun k =>
    scaledProduct (sdA d) (sdW d) (o.aRow r k) (o.wCol k j) (o.aScale r k) (o.wScale k j)
      (o.rowExp r + o.colExp j + tileExp d p)

/-- An element's entry after its products: exact (R74), or FP32 in ascending k for a BF16 step (R83). -/
def accumulate (d : List Byte) (anchor : Int) (ps : List Num) (poison : Bool) (x : AccEntry) : AccEntry :=
  if sdMode d = 2 then
    let part := ps.foldl (fun t q => addFp32 t (roundFp32 q)) Num.zero
    { x with value := BitVec.ofNat 128 (fp32Code (addFp32 (fp32Val x.value.toNat) part)), poison := x.poison || poison }
  else
    let y := ps.foldl (AccEntry.addProduct (sdMode d = 1) anchor) x
    { y with poison := y.poison || poison }

/-! ## Read-out -/

/-- A tile's read-out (R52, R81, R100): rounded values at OUT_ADDR for the owner, partial words otherwise. -/
structure ReadOut where
  rows : Nat
  cols : Nat
  base : Nat                -- first column of the group within the cluster tile

/-- What becomes of each element of one output row (Table ARIT-7). -/
def Cluster.outRow (c : Cluster) (ro : ReadOut) (entry : Nat → Nat → AccEntry) (anc : Nat → Nat → Int)
    (r : Nat) : List (Nat × OutClass) :=
  (List.range ro.cols).map fun j => (j, (entry r j).outClass (sdMode c.stepDesc = 2) (anc r j))

/-- The key of the matrix product that a cluster computes: the partition's step, and within it the product's descriptor and how many products of that
descriptor it has worked on. All clusters of a step give a product one descriptor (R57; DESIGN CHOICE for the count, log entry 64: products with equal
descriptors come in one order on every cluster that works on them). -/
def Cluster.productKey (c : Cluster) : Nat :=
  (c.beginSeq * 2 ^ 256 + leNat c.stepDesc % 2 ^ 256) * 2 ^ 16 + (c.products.filter fun d => decide (d = c.stepDesc)).length % 2 ^ 16

/-- Writes one row of the owner's read-out, with its counts and signature. A check slot adds nothing to the counts of its cluster: only the owner's
read-out counts (R59, R107). -/
def Cluster.writeRow (c : Cluster) (p : List Byte) (ro : ReadOut) (entry : Nat → Nat → AccEntry) (anc : Nat → Nat → Int)
    (check : Bool) (id r : Nat) : Cluster :=
  let d := c.stepDesc
  let f := sdOut d
  let bits := outBits f
  let addr := prOut p + r * prStride p
  let cls := c.outRow ro entry anc r
  let old := (c.readS addr (ceilDiv (bits * ro.cols) 8)).1
  let codes := cls.map fun e => match e.2 with
    | .value x => (outFmtOf f).encode (sdSat d) x
    | .recompute => elemAt old bits e.1
    | .poison => 0
  let c := c.writeElems addr bits ((cls.zip codes).map fun e => (e.2, decide (e.1.2 = .poison)))
  let bad := (cls.filter fun e => e.2 = .poison).length
  let c := { c with
    poisonOut := c.poisonOut + bad
    poisonRows := if bad ≠ 0 && !check && stepRow d p r ∉ c.poisonRows then c.poisonRows ++ [stepRow d p r] else c.poisonRows }
  (cls.zip codes).foldl (fun c e =>
    match e.1.2 with
    | .value x =>
      let c := c.sign check id (sigTerm r (ro.base + e.1.1) e.2)
      if isE2m1Nan f x && !check then { c.rowEvent (stepRow d p r) 0 1 with e2m1Nan := c.e2m1Nan + 1 } else c
    | .recompute =>
      { c with spans := c.spans ++ [⟨r, ro.base + e.1.1, stepRow d p r, addr * 8 + bits * e.1.1, f, sdSat d, sdA d, sdW d,
                                      tileExp d p, id, check, prOt p, prCt p, prKg p, c.productKey, sdK d⟩] }
    | .poison => c.sign check id (sigTerm r (ro.base + e.1.1) 0)) c

/-- Writes one row of partial words (R59, R100): word j of row r lies at OUT_ADDR + r × OUT_STRIDE + 16 j (DESIGN CHOICE, log entry 60: the spec gives
the words and not their places). The program's SENDs carry them to the owner through the output port that the record names. -/
def Cluster.writePartials (c : Cluster) (p : List Byte) (ro : ReadOut) (entry : Nat → Nat → AccEntry)
    (check : Bool) (id r : Nat) : Cluster :=
  (List.range ro.cols).foldl (fun c j =>
    let w := (entry r j).partialWord
    (c.writeS (prOut p + r * prStride p + 16 * j) w).sign check id (sigTerm r (ro.base + j) (leNat w))) c

/-- Bytes of one row of a read-out. -/
def outRowBytes (d p : List Byte) (ro : ReadOut) : Nat :=
  if prOwner p then ceilDiv (ro.cols * outBits (sdOut d)) 8 else 16 * ro.cols

/-- Bytes that a read-out writes (R52). -/
def readOutBytes (d p : List Byte) (ro : ReadOut) : Nat :=
  ceilDiv (ro.rows * ro.cols * (if prOwner p then outBits (sdOut d) else 128)) 8

/-- The accesses of each cycle of a read-out: 128 bytes a cycle, row after row (R52, R96). -/
def readOutSpans (d p : List Byte) (ro : ReadOut) : List (List Touch) :=
  let l := outRowBytes d p ro
  (List.range (ceilDiv (readOutBytes d p ro) 128)).map fun i =>
    (List.range (ceilDiv (i * 128 + 128) l - i * 128 / l)).filterMap fun k =>
      let r := i * 128 / l + k
      let lo := Nat.max (i * 128) (r * l)
      let hi := Nat.min (i * 128 + 128) (r * l + l)
      if r < ro.rows then some (prOut p + r * prStride p + (lo - r * l), hi - lo, true) else none

/-- The byte ranges that a read-out writes, row by row. -/
def readOutRanges (d p : List Byte) (ro : ReadOut) : List (Nat × Nat) :=
  (List.range ro.rows).map fun r => (prOut p + r * prStride p, outRowBytes d p ro)

/-- Reads a tile out. -/
def Cluster.readOut (c : Cluster) (p : List Byte) (ro : ReadOut) (entry : Nat → Nat → AccEntry) (anc : Nat → Nat → Int)
    (check : Bool) (id : Nat) : Cluster :=
  (List.range ro.rows).foldl (fun c r =>
    if prOwner p then c.writeRow p ro entry anc check id r else c.writePartials p ro entry check id r) c

/-- The scratch address of the check-slot area (R394). -/
def checkBase : Nat := 0x7EF000

/-- Is a pair record in a check slot, and which (R394)? -/
def checkSlot (addr : Nat) : Option Nat :=
  if checkBase + 0x40 ≤ addr ∧ addr < 0x7F0000 then some ((addr - (checkBase + 0x40)) / 128) else none

/-! ## Accumulations -/

/-- The accumulators of a path: the half or set that fills, and the key of an entry (R52, R55). -/
def Cluster.accSide (c : Cluster) (lane : Bool) : Nat := if lane then c.laneSet else c.half

/-- The entries of a path. -/
def Cluster.accOf (c : Cluster) (lane : Bool) : Sparse AccEntry := if lane then c.lane else c.acc

/-- The key of an entry. -/
def accKey (lane : Bool) (side r j : Nat) : Nat := if lane then 512 * side + 64 * r + j else 65536 * side + 256 * r + j

/-- Puts back the entries of a path, and which side fills. -/
def Cluster.putAcc (c : Cluster) (lane : Bool) (acc : Sparse AccEntry) (side : Nat) : Cluster :=
  if lane then { c with lane := acc, laneSet := side } else { c with acc := acc, half := side }

/-- The key of an element's kept products: matrix product, check slot or not, output tile, cluster tile, K group, row and column (R76). -/
def prodKey (product : Nat) (check : Bool) (ot ct kg r j : Nat) : Nat :=
  (((((product * 2 + b2n check) * 2 ^ 16 + ot) * 2 ^ 11 + ct) * 16 + kg) * 256 + r) * 256 + j

/-- Entry into and exit from an accumulation: the interlocks of R48 and R52 as the throughput model of R62 counts them. `body` cycles pass before the
next row may enter, of which the first `cycles` take rows; the last of them is in its accumulators `fill` cycles after the body. -/
def Cluster.enterTile (c : Cluster) (first last : Bool) (regs : List Nat) (spans : List (List Touch)) (cycles body fill : Nat)
    (out : List (List Touch)) : Cluster :=
  let c := c.stall fun c => Nat.max c.arrFree (regs.foldl (fun t r => Nat.max t (sget 0 c.wReady r)) 0)
  let c := if first then c.stall fun c => c.roEnd.getD 1 0 else c
  let c := c.startUse ⟨4, 0, spans, regs, last⟩
  let t := c.schedCycles
  let c := { c with arrFree := t + body, wUsed := regs.foldl (fun m r => sset 0 m r (t + cycles)) c.wUsed }
  let c := if last then
      let done := Nat.max (t + body + fill) c.paccFree
      let from' := Nat.max done (c.roEnd.headD 0)
      { c with roReady := done, roEnd := (from' + out.length + 4) :: c.roEnd.take 1, bankUse := c.bankUse ++ [⟨1, from' + 4, out, [], false⟩] }
    else c
  c.issue 1

/-- Work on the product of the step descriptor in force: the first since SETSTEP or STEP_BEGIN opens it. -/
def Cluster.openProduct (c : Cluster) : Cluster :=
  if c.productOpen then c else { c with products := c.products ++ [c.stepDesc], productOpen := true }

/-- An accumulation of `ks` K positions into a tile of a path: FIRST overwrites the other side, LAST reads it out. The products are kept for ordered
mode (R74, R76, R83, R100); within a K group they stand in the order in which the instructions walk its K tiles (DEDUCED, log entry 64). -/
def Cluster.walkTile (c : Cluster) (lane : Bool) (pa : Nat) (p : List Byte) (o : TileOps) (ks m n : Nat) (first last : Bool) : Cluster :=
  let d := c.stepDesc
  let c := c.openProduct
  let chk := checkSlot pa
  let side := if first then 1 - c.accSide lane else c.accSide lane
  let key := accKey lane side
  let run := (List.range m).foldl (fun x r => (List.range n).foldl (fun (x : Sparse AccEntry × Sparse (List Num)) j =>
    let ps := tileProducts d p o ks r j
    let k := prodKey c.productKey chk.isSome (prOt p) (prCt p) (prKg p) r j
    (sset AccEntry.zero x.1 (key r j)
        (accumulate d (tileAnchor d p o r j) ps o.poison (if first then AccEntry.zero else sget AccEntry.zero x.1 (key r j))),
      if sdMode d = 2 then x.2 else aput x.2 k (if first then ps else (aget x.2 k).getD [] ++ ps))) x) (c.accOf lane, c.tileProds)
  let c := { c.putAcc lane run.1 side with tileProds := run.2 }
  if last then c.readOut p ⟨m, n, 0⟩ (fun r j => sget AccEntry.zero run.1 (key r j)) (tileAnchor d p o) chk.isSome (chk.getD (pairIndex d p)) else c

/-- Reads the pair record that an instruction names; a hazard or a poisoned record resets the partition (R97, R263). -/
def State.withPair (s : State) (cl pair : Nat) (f : State → Cluster → Nat → List Byte → State) : State :=
  s.onCluster cl fun c =>
    let pa := c.pairBase + 32 * pair
    s.reading cl [(pa, 32)] fun s =>
      let r := c.readS pa 32
      if r.2 then s.controlPoison cl else f s c pa r.1

/-- The ranges of a pair's scale summaries for m rows and n columns (R71). -/
def sumRanges (d p : List Byte) (m n : Nat) : List (Nat × Nat) := [(prASum p, sumBytes p (sdA d) m), (prWSum p, sumBytes p (sdW d) n)]

/-- The areas of an operand at an address (Table CLUS-6): where its block scales and then its last scales lie, and the end. -/
def areasAt (addr rows scales last : Nat) : Nat × Nat × Nat :=
  let a1 := align16 (addr + rows)
  let a2 := align16 (a1 + scales)
  (a1, a2, a2 + last)

/-- The areas of an MMA's activations. -/
def mmaAreas (d : List Byte) (addr m : Nat) : Nat × Nat × Nat :=
  areasAt addr (m * actRowBytes (sdA d)) (if fmtScaled (sdA d) then m * kBlocks d else 0) (if sdRs d then m else 0)

/-- The accesses of each cycle of an MMA: its rows as they enter, in BF16 mode a quarter of a row a cycle, with the first of a row its block scales, its row
scale and its summary, and with the first row the weight summaries (R49; DESIGN CHOICE for all but the rows and block scales, log entry 59). -/
def mmaSpans (d p : List Byte) (addr m n : Nat) : List (List Touch) :=
  let rb := actRowBytes (sdA d)
  let per := if sdMode d = 2 then 4 else 1
  let ar := mmaAreas d addr m
  (List.range (m * per)).map fun i =>
    let r := i / per
    (addr + r * rb + i % per * (rb / per), rb / per, false) ::
      (if i % per = 0 then
        [(ar.1 + r * kBlocks d, if fmtScaled (sdA d) then kBlocks d else 0, false), (ar.2.1 + r, b2n (sdRs d), false),
          (prASum p + 2 * r, sumBytes p (sdA d) 1, false), (prWSum p, if i = 0 then sumBytes p (sdW d) n else 0, false)]
      else [])

/-- MMA streams the rows of one K tile through the arrays (R46 to R54). FIRST starts the tile in the other half and overwrites
it; LAST reads it out. In a step of the lane the arrays are gated, and it only issues (R56; DEDUCED, log entry 62). -/
def State.mma (s : State) (cl addr pair : Nat) (wb last first : Bool) : State :=
  s.withPair cl pair fun s c pa p =>
    let d := c.stepDesc
    let m := prRows p
    let n := prCols p
    if sdLane d then s.setCluster cl (c.issue 1)
    else s.reading cl ((addr, (mmaAreas d addr m).2.2 - addr) :: sumRanges d p m n) fun s =>
      s.writing cl 0 (if last then readOutRanges d p ⟨m, n, 0⟩ else []) fun s =>
      let cycles := m * (if sdMode d = 2 then 4 else 1)
      let regs := (List.range (ceilDiv n 64)).map fun a => 2 * a + b2n wb
      let o := c.mmaOps p addr m wb n
      let c := c.enterTile first last regs (mmaSpans d p addr m n) cycles (Nat.max cycles 128) (if sdMode d = 2 then 136 else 130)
        (readOutSpans d p ⟨m, n, 0⟩)
      s.setCluster cl (c.walkTile false pa p o (kTile d) m n first last)

/-- MMA. -/
def execMma (cl aAddr pair : Nat) (wb last first : Bool) (s : State) : Out := .next (s.mma cl aAddr pair wb last first)

/-- The areas of a walk's activations, and those of its window. -/
def lmvAreas (d : List Byte) (addr m blocks : Nat) : Nat × Nat × Nat :=
  areasAt addr (m * (blocks * fmtBits (sdA d))) (if fmtScaled (sdA d) then m * ceilDiv blocks 4 else 0) (if sdRs d then m else 0)

/-- The areas of the window. -/
def winAreas (d : List Byte) (win blocks : Nat) : Nat × Nat × Nat :=
  areasAt win (blocks * (64 * fmtBits (sdW d))) (if fmtScaled (sdW d) then 64 * ceilDiv (8 * blocks) 32 else 0) (if sdCs d then 64 else 0)

/-- The accesses of each cycle of a walk: block i of the window and its activations, the scales of both with the first of four blocks, and with the first
block the row and column scales and the summaries (R55; DESIGN CHOICE for the cycle of the scales, log entry 59). -/
def lmvSpans (d p : List Byte) (addr m n blocks win : Nat) : List (List Touch) :=
  let bb := 64 * fmtBits (sdW d)
  let ab := fmtBits (sdA d)
  let ar := lmvAreas d addr m blocks
  let wr := winAreas d win blocks
  (List.range blocks).map fun i =>
    (win + i * bb, bb, false) :: ((List.range m).map fun r => (addr + r * (blocks * ab) + i * ab, ab, false)) ++
      (if i % 4 = 0 then (wr.1 + 16 * i, if fmtScaled (sdW d) then 64 else 0, false) ::
        ((List.range m).map fun r => (ar.1 + r * ceilDiv blocks 4 + i / 4, b2n (fmtScaled (sdA d)), false)) else []) ++
      (if i = 0 then [(ar.2.1, if sdRs d then m else 0, false), (wr.2.1, if sdCs d then 64 else 0, false), (prASum p, sumBytes p (sdA d) m, false),
        (prWSum p, sumBytes p (sdW d) n, false)] else [])

/-- LMV walks weight blocks of a window through the lane (R55, R98). FIRST starts the group in the other accumulator set; LAST reads the set out. A
record of more than 8 rows or 64 columns has the first 8 and 64 walked (DESIGN CHOICE, log entry 63). Outside a step of the lane it is gated, and only
issues (R56; DEDUCED, log entry 62); the same in a step of BF16 mode, which the lane does not run (R55). -/
def State.lmv (s : State) (cl addr pair blocks win : Nat) (last first : Bool) : State :=
  s.withPair cl pair fun s c pa p =>
    let d := c.stepDesc
    let m := Nat.min (prRows p) 8
    let n := Nat.min (prCols p) 64
    if !sdLane d ∨ sdMode d = 2 then s.setCluster cl (c.issue 1)
    else s.reading cl ((addr, (lmvAreas d addr m blocks).2.2 - addr) :: (win, (winAreas d win blocks).2.2 - win) :: sumRanges d p m n) fun s =>
      s.writing cl 1 (if last then readOutRanges d p ⟨m, n, 0⟩ else []) fun s =>
      let o := c.lmvOps p addr m blocks win n
      let c := c.enterTile first last [] (lmvSpans d p addr m n blocks win) blocks blocks 6 (readOutSpans d p ⟨m, n, 0⟩)
      s.setCluster cl (c.walkTile true pa p o (8 * blocks) m n first last)

/-- LMV. -/
def execLmv (cl aAddr pair blocks winAddr : Nat) (last first : Bool) (s : State) : Out :=
  .next (s.lmv cl aAddr pair blocks winAddr last first)

/-- PACC adds a block of partial words into the owner's half, or into its set of the lane, and ORs their flags (R59, R60, R100). The block holds word
(r, j) at SRC_ADDR + 16 (r n + j) (DESIGN CHOICE, log entry 60: the spec does not give its order). -/
def State.pacc (s : State) (cl src pair : Nat) : State :=
  s.withPair cl pair fun s c _ p =>
    let c := c.openProduct
    let lane := sdLane c.stepDesc
    let m := if lane then Nat.min (prRows p) 8 else prRows p
    let n := if lane then Nat.min (prCols p) 64 else prCols p
    s.reading cl [(src, 16 * m * n)] fun s =>
      let acc := (List.range m).foldl (fun acc r => (List.range n).foldl (fun acc j =>
        let w := c.readS (src + 16 * (r * n + j)) 16
        let k := accKey lane (c.accSide lane) r j
        sset AccEntry.zero acc k ((sget AccEntry.zero acc k).join (AccEntry.ofPartial w.1 w.2))) acc) (c.accOf lane)
      let c := c.stall (·.paccFree)
      let spans := runSpans src (16 * m * n) 64 false
      let c := { c.putAcc lane acc (c.accSide lane) with
        paccFree := c.schedCycles + 1 + spans.length
        bankUse := c.bankUse ++ [(⟨2, c.schedCycles + 1, spans, [], false⟩ : BankUse)] }
      s.setCluster cl (c.issue 1)

/-- PACC. -/
def execPacc (cl srcAddr pair : Nat) (s : State) : Out := .next (s.pacc cl srcAddr pair)

/-! ## Ordered mode (R76, R77) -/

/-- The products of an element of cluster `cl` in ascending k over the whole K range: its K groups in ascending order, each as the cluster that walked
it formed them; a check slot's own group is its own (DEDUCED, log entry 64: K group g holds the K tiles before those of g + 1, and the source buffers that
the engine reads again hold what the walk read). -/
def State.spanProducts (s : State) (cl : Nat) (e : SpanElem) : List Num :=
  let all := ((s.partOf cl).map s.partClusters).getD [cl]
  (List.range 16).flatMap fun g =>
    match if e.check && g = e.kg then aget (s.cluster cl).tileProds (prodKey e.product true e.ot e.ct g e.row e.col) else none with
    | some l => l
    | none => ((all.findSome? fun q => aget (s.cluster q).tileProds (prodKey e.product false e.ot e.ct g e.row e.col)).getD [])

/-- Writes the recomputed value of one element in its place (R77, R81) and counts it for its row (R107). A check slot's element is not counted (R59). -/
def Cluster.finishSpan (c : Cluster) (e : SpanElem) (v : Num) : Cluster :=
  let bits := outBits e.outFmt
  let code := (outFmtOf e.outFmt).encode e.sat v
  let a := e.addr / 8
  let nb := ceilDiv bits 8
  let old := leNat (c.readS a nb).1
  let o := e.addr % 8
  let new := old % 2 ^ o + code * 2 ^ o + old / 2 ^ (o + bits) * 2 ^ (o + bits)
  let c := (c.writeS a (leBytes nb new)).sign e.check e.pairId (sigTerm e.row e.col code)
  if e.check then c
  else
    let nan := b2n (isE2m1Nan e.outFmt v)
    let c := c.rowEvent e.stepRow 1 nan
    { c with spanCount := c.spanCount + 1, e2m1Nan := c.e2m1Nan + nan }

/-- Busy cycles of the recompute engine for `n` elements of K range `k`: the compute side's, or `fetch` where fetching the operands takes longer (R77). -/
def recompBusy (n k fetch : Nat) : Nat := if n = 0 then 0 else Nat.max (ceilDiv n 256 * (k + ceilDiv k 128) + 32) fetch

/-- The recompute engine finishes the oldest waiting elements, those it names in order; a name that is not the oldest element's is ignored, and so is an
element of whose K range some positions have not been walked yet, because the engine sums the whole range (R76, R77). `fetch` is the time that fetching the
operands takes, in cluster cycles (log entry 64). -/
def State.recompute (s : State) (cl fetch : Nat) (elems : List Recomputed) : State :=
  let r := elems.foldl (fun (x : Cluster × Nat × Nat) y =>
    match x.1.spans with
    | [] => x
    | e :: r =>
      let ps := s.spanProducts cl e
      if e.row = y.row ∧ e.col = y.col ∧ e.ks ≤ ps.length then
        ({ x.1.finishSpan e (orderedDot (ps.take e.ks)) with spans := r }, x.2.1 + 1, Nat.max x.2.2 e.ks)
      else x) (s.cluster cl, 0, 0)
  s.setCluster cl { r.1 with recompCycles := r.1.recompCycles + recompBusy r.2.1 r.2.2 fetch }

/-- RECOMPUTE_DONE. -/
def execRecomputeDone (cl fetch : Nat) (elems : List Recomputed) (s : State) : Out :=
  .next (s.recompute cl fetch elems)

end Sys2Proof.Machine
end

