-- ==== Sys2Proof/Machine/Memory.lean ====
section
/-! DEFINITION. The LPDDR-6 controllers (11_memory_tiers.md R221 to R230, 12_word_code.md R253 to R265): reads with correction,
rereads and sticky DETECT mode, writes, write-back and patrol, refresh, read tracking, retraining and power-down. -/

namespace Sys2Proof.Machine

/-- The device address reported for a word, zero where software cannot address it. -/
def State.reportAddr (s : State) (w : Nat) : Nat := (s.devAddrOf w).getD 0

/-- A correction (R256, R257, R264): counted by channel and slot, LAST_SLOT and LAST_SC set, one CODE_CORRECTED per site and
millisecond, and the corrected word queued for write-back. -/
def State.corrected (s : State) (w pos : Nat) (data : List Byte) (master : Nat) : State :=
  let c := wordChan w
  let slot := burstSlot (w % 2) pos
  let s := s.inc R.memChstatCorr c 1
  let s := s.wr R.memChcodeLastSlot c slot
  let s := s.wr R.memChcodeLastSc c (wordSc w)
  let k := 72 * c + 36 * wordSc w + slot
  let s := s.updMem fun m =>
    { m with slotCorr := sset 0 m.slotCorr k (sget 0 m.slotCorr k + 1),
             writeBack := m.writeBack.filter (fun e => e.1 ≠ w) ++ [(w, encodeWord data)] }
  s.codeCorrected (chanSite c) master (s.reportAddr w)

/-- A read that the sub-channel treats as uncorrectable (re)starts its DETECT window (R261). -/
def State.startDetect (s : State) (w : Nat) : State :=
  let c := wordChan w
  (s.wr (detectFld (wordSc w)) c 1).updMem fun m =>
    { m with detectFrom := sset 0 m.detectFrom (2 * c + wordSc w) s.now }

/-- The rereads of R261, one per noise value: the first that decodes CLEAN or POISON succeeds; a SINGLE fails, because the
sub-channel decodes in DETECT mode from the read on. -/
def State.rereads (s : State) (w : Nat) (noises : List (List (Nat × Byte))) (master : Nat) : State × Decoded :=
  match noises with
  | [] => (s, .uncorrectable)
  | n :: r =>
    let s := s.incSat R.memChcodeRereads (wordChan w) 1
    match decodeWord true (addNoise (wordAt s.mem.cells w) n) with
    | .word b _ => (s.raise 0x042 (chanSite (wordChan w)) master (s.reportAddr w) 1 1, .word b none)
    | .poisoned =>
      ((s.inc R.memChcodePoisonRead (wordChan w) 1).raise 0x042 (chanSite (wordChan w)) master (s.reportAddr w) 1 1,
        .poisoned)
    | .uncorrectable => (s.startDetect w).rereads w r master

/-- The controller writes the poison pattern over a word and reports it; a write-back that waits for its line is older and dropped (R262, R264, R265). -/
def State.poisonWordAt (s : State) (w : Nat) : State :=
  (s.updMem fun m => m.written s.now [w / 4] (putWord m.cells w poisonWord)).raise 0x043 (chanSite (wordChan w)) hubMaster (s.reportAddr w) 2 0

/-- A word that is uncorrectable in memory (R262): counted and reported with OUTCOME 2; the owning partition is reset and the
word is overwritten with poison during the reset, or at once where no partition owns it. -/
def State.uncorrectable (s : State) (w master : Nat) : State :=
  let c := wordChan w
  let s := s.inc R.memChrefUncorr c 1
  let s := s.raise 0x041 (chanSite c) master (s.reportAddr w) 1 2
  match s.devAddrOf w with
  | none => s
  | some a => match s.ownerOf a with
    | some p => (s.updMem fun m => { m with poisonAt := m.poisonAt.filter (· ≠ w) ++ [w] }).resetPartition p 1
    | none => s.poisonWordAt w

/-- A controller reads a word: `noise` is what the cells and the bus add to the first read and to the rereads (R261). -/
def State.readCtl (s : State) (w master : Nat) (noise : List (List (Nat × Byte))) : State × Decoded :=
  let c := wordChan w
  let s := s.touchChan c
  let n (i : Nat) := noise.getD i []
  match decodeWord (s.detects w) (addNoise (wordAt s.mem.cells w) (n 0)) with
  | .word b none => (s, .word b none)
  | .word b (some pos) => (s.corrected w pos b master, .word b (some pos))
  | .poisoned => (s.inc R.memChcodePoisonRead c 1, .poisoned)
  | .uncorrectable =>
    match (s.startDetect w).rereads w [n 1, n 2, n 3] master with
    | (s, .uncorrectable) => (s.uncorrectable w master, .uncorrectable)
    | r => r

/-- How a word came: 0 clean, 1 poisoned, 2 uncorrectable. -/
def Decoded.rank (d : Decoded) : Nat := match d with
  | .word _ _ => 0
  | .poisoned => 1
  | .uncorrectable => 2

/-- The words of `n` device bytes from `a`. -/
def State.devWords (s : State) (a n : Nat) : List Nat :=
  if n = 0 then [] else (List.range ((a + n - 1) / 16 - a / 16 + 1)).map fun i => s.devWord (16 * (a / 16 + i))

/-- Is a word clean as it is stored? -/
def State.cleanAt (s : State) (w : Nat) : Bool := match readWord s.detects s.mem.cells w with
  | .word _ none => true
  | _ => false

/-- The first word of `n` device bytes that its controller treats as uncorrectable, the cells as they are stored (R261). -/
def State.uncorrAt (s : State) (a n : Nat) : Option Nat :=
  (s.devWords a n).find? fun w => readWord s.detects s.mem.cells w == .uncorrectable

/-- A unit reads `n` device bytes through their controllers, the cells as they are stored (R254 to R262, log entry 38): the bytes, and the worst rank of
their words. An uncorrectable word resets the partition that owns it. -/
def State.readUnit (s : State) (a n master : Nat) : State × List Byte × Nat :=
  let r := (s.devWords a n).foldl (fun (x : State × List Byte × Nat) w =>
    let y := x.1.readCtl w master []
    (y.1, x.2.1 ++ y.2.bytes.1, Nat.max x.2.2 y.2.rank)) (s, [], 0)
  (r.1, (r.2.1.drop (a % 16)).take n, r.2.2)

/-- What a copy reads of a device word: its codeword, corrected where its controller corrects it (R257); the symbols of a poisoned word unchanged
(R263); poison for an uncorrectable one, whose owner is reset (R262). -/
def State.copyRead (s : State) (w : Nat) : State × List Byte :=
  let y := s.readCtl w hubMaster []
  (y.1, match y.2 with
    | .word b _ => encodeWord b
    | .poisoned => wordAt s.mem.cells w
    | .uncorrectable => poisonWord)

/-- Which of `n` device bytes lie in poisoned words. -/
def State.badBytes (s : State) (a n : Nat) : List Bool :=
  let ws := (s.devWords a n).map fun w => readWord s.detects s.mem.cells w == .poisoned
  (List.range n).map fun i => ws.getD ((a % 16 + i) / 16) false

/-- Writes device bytes; the words of those that are `bad` are poisoned. -/
def State.writeDevBad (s : State) (a : Nat) (bs : List Byte) (bad : List Bool) : State :=
  ((List.range bs.length).filter fun i => bad.getD i false).foldl (fun s i => s.writeDevP (a + i) [0] true) (s.writeDev a bs)

/-- What reads of several ranges leave, and the worst rank met. -/
def State.readUnits (s : State) (master : Nat) (l : List (Nat × Nat)) : State × Nat :=
  l.foldl (fun x e => let y := x.1.readUnit e.1 e.2 master; (y.1, Nat.max x.2 y.2.2)) (s, 0)

/-! ## Writes to a request's buffers (R301) -/

/-- The words that bytes a to a + n - 1 of device memory do not fill. -/
def State.edgeDev (s : State) (a n : Nat) : List Nat :=
  (if n = 0 then [] else if a % 16 ≠ 0 ∨ n < 16 then [s.devWord (16 * (a / 16))] else []) ++
    (if n = 0 then [] else if (a + n) % 16 ≠ 0 then [s.devWord (16 * ((a + n) / 16))] else [])

/-- Before bytes are written to device memory the words that they do not fill are read through their controllers for the merge; a merge into a poisoned
word is reported as HOST_BAD_ACCESS by the hub that discards it (R263; DESIGN CHOICE for the kind, log entry 86: the spec names it for BAR4 alone). -/
def State.mergeRead (s : State) (a n : Nat) : State :=
  let r := (s.edgeDev a n).foldl (fun (x : State × Nat) w => let y := x.1.readCtl w hubMaster []; (y.1, Nat.max x.2 y.2.rank)) (s, 0)
  if r.2 = 1 then r.1.raise 0x0C0 (hubSite 5 14) hubMaster a 2 0 else r.1

/-- The merge reads of a write at a descriptor's address. -/
def State.mergeAddr (s : State) (c a n : Nat) : State :=
  if isDev a && decide (bitsOf a 62 48 = 0) && s.clientRange c (a % 2 ^ 48) n then s.mergeRead (a % 2 ^ 48) n else s

/-- A request one of whose writes cannot be sent is reported as HOST_DMA_ERROR and ends with ST_CONTEXT_FAULT; work done stands, so that its entry carries the
tokens it has delivered (R301, R311). -/
def State.endWrite (s : State) (k : ReqKey) : State :=
  let s := s.raise 0x0C2 (hubSite 5 14) (s.fnOf k.1) 0 2 0
  let d := match s.gens.find? fun g => (g.client, g.req) = k, s.req? k with
    | some g, some r => s.genDetail g r.opcode
    | _, _ => (s, 0)
  d.1.endReq k stContextFault (((s.req? k).map (·.delivered)).getD 0) d.2

/-- A request writes `bs` at offset `o` of its output buffer, poisoned or not. A write that cannot be sent ends it with ST_CONTEXT_FAULT
and is reported as HOST_DMA_ERROR (R301). A request whose function was reset writes nothing (R300), nor does one that a reset ends as its merge meets an
uncorrectable word (R262). -/
def State.putOutP (s : State) (k : ReqKey) (o : Nat) (bs : List Byte) (poison : Bool) : State :=
  match s.req? k with
  | none => s
  | some r =>
    if r.orphan || r.ended then s
    else
      let s := if poison then s else s.mergeAddr k.1 (r.d 32 8 + o) bs.length
      if !s.live k then s
      else match s.writeAddr k.1 (r.d 32 8 + o) bs poison with
      | some s => s.updReq k fun r => { r with outBytes := Nat.max r.outBytes (o + bs.length), outImg := r.outImg ++ [(o, bs)] }
      | none => s.endWrite k

/-- A request writes data at offset `o` of its output buffer. -/
def State.putOut (s : State) (k : ReqKey) (o : Nat) (bs : List Byte) : State := s.putOutP k o bs false

/-- A request writes a record at offset `o` of its record buffer. -/
def State.putRec (s : State) (k : ReqKey) (o : Nat) (bs : List Byte) : State :=
  match s.req? k with
  | none => s
  | some r =>
    if r.orphan || r.ended then s
    else
      let s := s.mergeAddr k.1 (r.d 40 8 + o) bs.length
      if !s.live k then s
      else match s.writeAddr k.1 (r.d 40 8 + o) bs false with
      | some s => s.updReq k fun r => { r with recBytes := Nat.max r.recBytes (o + bs.length), recImg := r.recImg ++ [(o, bs)] }
      | none => s.endWrite k

/-- A corrected line is written back at the bank's next idle slot (R257); a write admitted first has dropped it. -/
def State.writeBackWord (s : State) (w : Nat) : State :=
  match s.mem.writeBack.find? fun e => e.1 = w with
  | none => s
  | some e => s.updMem fun m =>
      { m with cells := putWord m.cells w e.2, writeBack := m.writeBack.filter fun e => e.1 ≠ w }

/-- CORRECTION_WRITEBACK. -/
def execCorrectionWriteback (word : Nat) (s : State) : Out := .next (s.writeBackWord word)

/-- Patrol reads a word of a line in an unclaimed slot and writes back any correction; it stops in self-refresh (R257). -/
def State.patrol (s : State) (w : Nat) (noise : List (Nat × Byte)) : State :=
  if s.mem.selfRefresh ∨ sget 0 s.pkg.granted (arbMem (wordChan w)) ≠ 0 then s else ((s.readCtl w hubMaster [noise]).1).writeBackWord w

/-- PATROL_READ. -/
def execPatrolRead (word : Nat) (noise : List (Nat × Byte)) (s : State) : Out := .next (s.patrol word noise)

/-- A bank's refresh falls due (R228): while the bank has queued requests, a waiting write-back among them, it may be postponed, up to 8 intervals;
otherwise it is issued, with one postponed refresh, and the bank catches up before any further postponement. -/
def State.refreshBank (s : State) (c b temp : Nat) (busy : Bool) : State :=
  if s.mem.selfRefresh then s
  else
    let s := s.wr R.memChrefTemp c temp
    let k := 16 * c + b
    let n := sget 0 s.mem.postponed k
    if (busy ∨ s.mem.writeBack.any fun e => wordBank e.1 = k) ∧ n < 8 ∧ k ∉ s.mem.catchUp then
      let s := s.updMem fun m => { m with postponed := sset 0 m.postponed k (n + 1) }
      s.wr R.memChrefPostponedMax c (Nat.max (s.rd R.memChrefPostponedMax c) (n + 1))
    else s.updMem fun m =>
      { m with postponed := sset 0 m.postponed k (n - 1),
               catchUp := if n ≤ 1 then m.catchUp.filter (· ≠ k) else m.catchUp.filter (· ≠ k) ++ [k] }

/-- REFRESH. -/
def execRefresh (chan bank temp : Nat) (busy : Bool) (s : State) : Out := .next (s.refreshBank chan bank temp busy)

/-- The DRAM requests a refresh management command and it is issued (R228). -/
def State.refreshMgmt (s : State) (c : Nat) : State :=
  s.updMem fun m => { m with managed := sset 0 m.managed c (sget 0 m.managed c + 1) }

/-- REFRESH_MANAGEMENT. -/
def execRefreshManagement (chan : Nat) (s : State) : Out := .next (s.refreshMgmt chan)

/-- The lane offset of largest magnitude on a channel (MEM_CHSTAT.DRIFT). -/
def worstLane (delay : Sparse Int) (c : Nat) : Int :=
  (List.range 24).foldl (fun m l => let d := sget 0 delay (24 * c + l); if m.natAbs < d.natAbs then d else m) 0

/-- One lane's read delay moves by at most one step of 1/128 UI; a lane that needs more than ±16 asks for a retrain of its
sub-channel (R229). -/
def State.trackLane (s : State) (c : Nat) (mv : Nat × Int) : State :=
  let k := 24 * c + mv.1
  let d := sget 0 s.mem.delay k + max (-1) (min 1 mv.2)
  if d.natAbs ≤ 16 then s.updMem fun m => { m with delay := sset 0 m.delay k d }
  else
    let r := 2 * c + mv.1 / 12
    if r ∈ s.mem.retrain then s
    else
      let s := s.updMem fun m => { m with retrain := m.retrain ++ [r] }
      (s.incSat R.memChstatRetrains c 1).incSat R.memStatRetrains 0 1

/-- The DQ of a slot and its first beat; bit b of the slot's symbol is on beat `slotBeat j + b` (R256). -/
def slotDq (j : Nat) : Nat := j % 12
/-- The first beat. -/
def slotBeat (j : Nat) : Nat := 8 * (j / 12)

/-- Corrections on a lane, as DQ 0 to 11 of sub-channel 0 and then of sub-channel 1: those of the three slots that its DQ carries (R229, R256). -/
def State.laneCorr (s : State) (c lane : Nat) : Nat :=
  (((List.range 36).filter fun j => slotDq j = lane % 12).map fun j => sget 0 s.mem.slotCorr (72 * c + 36 * (lane / 12) + j)).foldl (· + ·) 0

/-- READ_TRACKING_UPDATE's effect: every 1 ms the controller reads the correction counts of its lanes and moves each lane's delay (R229). Which way a lane
moves is the command's operand (DESIGN CHOICE, log entry 87: R229 names what the controller reads and not how it decides). -/
def State.tracking (s : State) (c : Nat) (moves : List (Nat × Int)) : State :=
  let s := s.updMem fun m => { m with laneSeen := (List.range 24).foldl (fun l i => sset 0 l (24 * c + i) (s.laneCorr c i)) m.laneSeen }
  let s := moves.foldl (fun s mv => s.trackLane c mv) s
  s.wr R.memChstatDrift c (codeOfInt 8 (worstLane s.mem.delay c))

/-- READ_TRACKING_UPDATE. -/
def execReadTrackingUpdate (chan : Nat) (moves : List (Nat × Int)) (s : State) : Out := .next (s.tracking chan moves)

/-- A retrain that was requested runs at the sub-channel's refresh slot (Table MEMT-4): new delays are applied; a calibration
that fails is repeated once, and a second failure is a permanent fault of the channel (R229). -/
def State.retrainSub (s : State) (c sc : Nat) (ok1 ok2 : Bool) : State :=
  if 2 * c + sc ∈ s.mem.retrain then
    let s := s.updMem fun m => { m with retrain := m.retrain.filter (· ≠ 2 * c + sc) }
    if ok1 || ok2 then
      let s := s.updMem fun m =>
        { m with delay := (List.range 12).foldl (fun d l => sset 0 d (24 * c + 12 * sc + l) 0) m.delay }
      s.wr R.memChstatDrift c (codeOfInt 8 (worstLane s.mem.delay c))
    else s.raise 0x141 (chanSite c) hubMaster 0 0 2
  else s

/-- SUBCHANNEL_RETRAIN. -/
def execSubchannelRetrain (chan sc : Nat) (ok1 ok2 : Bool) (s : State) : Out := .next (s.retrainSub chan sc ok1 ok2)

/-- W seconds after the last read treated as uncorrectable the sub-channel decodes in CORRECT mode again (R261). -/
def State.detectExpire (s : State) (c sc : Nat) : State :=
  if sget 0 s.mem.detectFrom (2 * c + sc) + 10 ^ 9 * s.rd R.fltClsW 0 ≤ s.now then s.wr (detectFld sc) c 0 else s

/-- DETECT_WINDOW_EXPIRE. -/
def execDetectWindowExpire (chan sc : Nat) (s : State) : Out := .next (s.detectExpire chan sc)

/-- A channel idle for 100 µs enters power-down (Table MEMT-1). -/
def State.powerDownChan (s : State) (c : Nat) : State :=
  if 100000 ≤ s.now - sget 0 s.mem.lastUse c ∧ !s.mem.selfRefresh ∧ c ∉ s.mem.powerDown then
    s.updMem fun m => { m with powerDown := m.powerDown ++ [c] }
  else s

/-- CHANNEL_POWER_DOWN. -/
def execChannelPowerDown (chan : Nat) (s : State) : Out := .next (s.powerDownChan chan)

end Sys2Proof.Machine
end

