-- ==== Sys2Proof/Machine/Sequencer.lean ====
section
/-! DEFINITION. The sequencer, its stream engines and its ports (05_cluster_programs.md), and port tokens on their way
(02_seven_levels.md R22, R24, 12_word_code.md R258). -/

namespace Sys2Proof.Machine

/-- The kinds of wait cycle (Table CLUS-1). -/
inductive WaitKind where
  | token | port | credit | final | power
  deriving DecidableEq, Repr

/-- Counts wait cycles (R94, R106). -/
def Cluster.waited (c : Cluster) (k : WaitKind) (n : Nat) : Cluster :=
  match k with
  | .token => { c with waitToken := c.waitToken + n }
  | .port => { c with waitPort := c.waitPort + n }
  | .credit => { c with waitCredit := c.waitCredit + n }
  | .final => { c with waitFinal := c.waitFinal + n }
  | .power => { c with waitPower := c.waitPower + n }

/-- The sequencer is held at a synchronisation point (R94). A clock step that waits for one is applied, for 8 wait cycles of
the instruction's kind (R23, R371). -/
def State.hold (s : State) (cl : Nat) (c : Cluster) (i : Instr) (k : WaitKind) : State :=
  match c.stepPending with
  | none => s.setCluster cl { c with held := some i, heldAt := s.now }
  | some n => (s.setCluster cl { c.waited k 8 with held := some i, heldAt := s.now, stepPending := none }).setFreqStep cl n

/-! ## Streams -/

/-- Is a stream descriptor within the partition's bindings (R103, R227)? -/
def State.streamOk (s : State) (p : Nat) (d : List Byte) (engine : Nat) (page : Bool) : Bool :=
  let n := 16 * stRowWords d
  decide (stCounter d / 16 = engine) &&
  (page || decide (stLocal d + stLocalLen d ≤ 2 ^ 23)) &&
  ((List.range (stRows d)).all fun i =>
    decide (0 ≤ (stRemote d : Int) + i * stRemoteStride d) &&
    (match stSpace d with
     | 0 => s.ownsRange p (stRemoteRow d i) n
     | 1 => decide (stRemoteRow d i + n ≤ 2 ^ 24)
     | 2 => decide (stPeer d < s.partSize p) && decide (stRemoteRow d i + n ≤ 2 ^ 23)
     | 3 => decide (stRemoteRow d i + n ≤ 2 ^ 26)
     | _ => false))

/-- A bounds fault of a stream descriptor (R103, Table TNCY-6): the requests of the step end with ST_CONTEXT_FAULT, then the
partition is reset with cause 8. -/
def State.streamBounds (s : State) (cl p : Nat) : State :=
  let s := s.raise 0x002 (s.clusterSite cl 5 0) (clusterMaster cl) 0 3 0
  let rows := ((s.part p).running.getD []).map fun r => (r.client, r.req)
  (rows.foldl (fun s k => s.endReq k stContextFault 0 0) s).resetPartition p 8

/-- Does a transfer's local range overlap bytes that a unit at work has yet to access, where one of the two writes them? Such an access falls in the
transfer's time, and its cycle is fixed by the program (R97; DEDUCED, log entry 83). -/
def Cluster.meetsUse (c : Cluster) (d : List Byte) : Bool :=
  c.bankUse.any fun u => u.spans.any fun ts => ts.any fun t => (t.2.2 || !stOut d) && overlap t.1 t.2.1 (stLocal d) (stLocalLen d)

/-- Queues a transfer: STREAM and PAGE (R97, R99, R103). The transfer that runs holds one of the engine's 8 slots until it completes (DESIGN CHOICE, log
entry 65). -/
def State.queueXfer (s : State) (cl desc engine : Nat) (page : Bool) (i : Instr) : State :=
  s.onCluster cl fun c =>
    match s.partOf cl with
    | none => s
    | some p =>
      let r := c.readS desc 32
      let d := r.1
      if 8 ≤ (c.xfers.filter fun x => x.engine = engine && !x.complete).length then s.hold cl c i .credit
      else s.reading cl [(desc, 32)] fun s =>
      if 64 ≤ c.xfers.length ∨ (!page && c.meetsUse d) ∨ (c.xfers.any fun x =>
          !page && !x.page && (!stOut d || !stOut x.desc) &&
            overlap (stLocal d) (stLocalLen d) (stLocal x.desc) (stLocalLen x.desc)) then s.scratchHazard cl
      else if r.2 then s.controlPoison cl
      else if !s.streamOk p d engine page then s.streamBounds cl p
      else s.setCluster cl { c.issue 1 with
        xfers := c.xfers ++ [⟨engine, stCounter d, d, page, false, s.rd R.cfgPstatRgen p, false⟩] }

/-- STREAM queues a stream descriptor on an engine. -/
def execStream (cl descAddr engine : Nat) (s : State) : Out :=
  .next (s.queueXfer cl descAddr engine false (.stream cl descAddr engine))

/-- PAGE streams 4,096 instructions into the page that is not executing. -/
def execPage (cl descAddr engine : Nat) (s : State) : Out :=
  .next (s.queueXfer cl descAddr engine true (.page cl descAddr engine))

/-- Where remote address `a` of a transfer lies: the store's cells and word number are chosen by SPACE. -/
def State.remoteWord (s : State) (cl p : Nat) (d : List Byte) (a : Nat) : List Byte :=
  match stSpace d with
  | 0 => wordAt s.mem.cells (s.devWord a)
  | 1 => wordAt s.pkg.regionBuf (2 ^ 20 * (s.physAll cl / 8) + a / 16)
  | 2 => wordAt (s.cluster (s.partFirst p + stPeer d)).scratch (a / 16)
  | _ => wordAt s.pkg.hubSram (a / 16)

/-- Stores a word at remote address `a`. -/
def State.putRemote (s : State) (cl p : Nat) (d : List Byte) (a : Nat) (w : List Byte) : State :=
  match stSpace d with
  | 0 => s.updMem fun m => m.written s.now [s.devWord a / 4] (putWord m.cells (s.devWord a) w)
  | 1 => s.updPkg fun k => { k with regionBuf := putWord k.regionBuf (2 ^ 20 * (s.physAll cl / 8) + a / 16) w }
  | 2 => let q := s.partFirst p + stPeer d
         let c := s.cluster q
         s.setCluster q { c with scratch := putWord c.scratch (a / 16) w }
  | _ => s.updPkg fun k => { k with hubSram := putWord k.hubSram (a / 16) w }

/-- The words that a transfer passes on unchanged but for a correction: a poisoned word as it is stored (R104, R263); none where one is
uncorrectable. -/
def passWord (w : List Byte) : Option (List Byte) :=
  match decodeWord false w with
  | .word b _ => some (encodeWord b)
  | .poisoned => some w
  | .uncorrectable => none

/-- Site of the memory that holds remote address `a` of a transfer, off LPDDR-6. -/
def State.remoteSite (s : State) (cl p : Nat) (d : List Byte) (a : Nat) : Nat :=
  match stSpace d with
  | 1 => site (cl / 60) (s.physOf cl / 8) 0 0xA (a / 64 % 16)
  | 2 => s.scratchSite (s.partFirst p + stPeer d) (a / 16)
  | _ => hubSite 5 15

/-- A transfer meets an uncorrectable word at remote address `a`, off LPDDR-6: the partition is reset that owns the area, which is the cluster's own (R103),
and the word is overwritten with poison (R104, R262). -/
def State.remoteFault (s : State) (cl p : Nat) (d : List Byte) (a : Nat) : State :=
  let st := s.remoteSite cl p d a
  (((s.raise 0x041 st (clusterMaster cl) a 1 0).resetPartition p 1).putRemote cl p d a poisonWord).raise 0x043 st hubMaster a 2 0

/-- Reads the word at remote address `a` of a transfer: its symbols; none where it is uncorrectable. -/
def State.xferRead (s : State) (cl p : Nat) (d : List Byte) (a : Nat) : State × Option (List Byte) :=
  let w := s.remoteWord cl p d a
  if stSpace d = 0 then
    let r := s.readCtl (s.devWord a) (clusterMaster cl) []
    (r.1, match r.2 with
      | .word b _ => some (encodeWord b)
      | .poisoned => some w
      | .uncorrectable => none)
  else match decodeWord false w with
    | .uncorrectable => (s.remoteFault cl p d a, none)
    | .word b (some _) => (s.codeCorrected (s.remoteSite cl p d a) (clusterMaster cl) a, some (encodeWord b))
    | _ => (s, some w)

/-- The (local, remote) byte addresses of a transfer's words in order. -/
def xferWords (d : List Byte) : List (Nat × Nat) :=
  (List.range (stRows d)).flatMap fun i =>
    (List.range (stRowWords d)).map fun j => (stLocal d + i * stLocalStride d + 16 * j, stRemoteRow d i + 16 * j)

/-- Moves the words of a transfer; the first uncorrectable word stops it and resets its owner. -/
def State.moveWords (s : State) (cl p : Nat) (d : List Byte) (ws : List (Nat × Nat)) : State × Bool :=
  match ws with
  | [] => (s, true)
  | (l, r) :: rest =>
    if stOut d then
      match s.scratchRead cl [l / 16], passWord (wordAt (s.cluster cl).scratch (l / 16)) with
      | (s, true), some w => (s.putRemote cl p d r w).moveWords cl p d rest
      | (s, _), _ => (s, false)
    else
      match s.xferRead cl p d r with
      | (s, some w) =>
        let c := s.cluster cl
        (s.setCluster cl { c with
          scratch := putWord c.scratch (l / 16) w
          poisonReads := if stSpace d = 0 && decodeWord false w == .poisoned then c.poisonReads ++ [r] else c.poisonReads }).moveWords cl p d rest
      | (s, none) => (s, false)

/-- The words of a page fill as bytes and whether each is poisoned; none where one is uncorrectable. -/
def State.pageWords (s : State) (cl p : Nat) (d : List Byte) (ws : List (Nat × Nat)) : State × Option (List (List Byte × Bool)) :=
  match ws with
  | [] => (s, some [])
  | (_, r) :: rest =>
    match s.xferRead cl p d r with
    | (s, none) => (s, none)
    | (s, some w) => let x := s.pageWords cl p d rest; (x.1, x.2.map ((decodeWord false w).bytes :: ·))

/-- The instructions of a page fill: each word holds two. An uncorrectable word resets the partition that owns it (R104); a poisoned word is a
poisoned instruction (R263). -/
def State.fillPage (s : State) (cl p : Nat) (d : List Byte) : State × Bool :=
  match s.pageWords cl p d (xferWords d) with
  | (s, none) => (s, false)
  | (s, some ws) =>
    if ws.any (·.2) then (s.controlPoison cl, false)
    else
    let bytes := (ws.map (·.1)).flatten
    let c := s.cluster cl
    let page := 1 - c.page
    (s.setCluster cl { c with imem := (List.range (Nat.min 4096 (bytes.length / 8))).foldl (fun m i =>
      sset 0 m (4096 * page + i) (BitVec.ofNat 64 (fieldLe bytes (8 * i) 8))) c.imem }, true)

/-- TRANSFER_COMPLETE: the oldest running transfer of the engine moves its data and adds 1 to its counter (R103, R104). In HOLD an engine starts no
transfer, so only one that ran before completes (R375). -/
def State.transferDone (s : State) (cl engine : Nat) : State :=
  let c := s.cluster cl
  match c.xfers.find? (fun x => x.engine = engine && !x.complete), s.partOf cl with
  | some x, some p =>
    if x.rgen ≠ s.rd R.cfgPstatRgen p ∨ (s.isSet R.pwrStatHold 0 ∧ !x.started) then s
    else
      let r := if x.page then s.fillPage cl p x.desc else s.moveWords cl p x.desc (xferWords x.desc)
      if !r.2 then r.1
      else
        let c := r.1.cluster cl
        r.1.setCluster cl { c with
          xfers := modFirst (fun y => y.engine = engine && !y.complete) (fun y => { y with complete := true }) c.xfers
          counters := sset 0 c.counters x.counter (sget 0 c.counters x.counter + 1) }
  | _, _ => s

/-- TRANSFER_COMPLETE. -/
def execTransferComplete (cl engine : Nat) (s : State) : Out := .next (s.transferDone cl engine)

/-- Takes the first `n` elements that satisfy `p` out of a list. -/
def dropN {α : Type} (p : α → Bool) (n : Nat) (l : List α) : List α :=
  match l with
  | [] => []
  | x :: r => if n ≠ 0 ∧ p x then dropN p (n - 1) r else x :: dropN p n r

/-- WAITT consumes n completions of a counter, or is held (R94, R97). -/
def State.waitt (s : State) (cl counter n : Nat) : State :=
  s.onCluster cl fun c =>
    let v := sget 0 c.counters counter
    if n ≤ v then
      s.setCluster cl { c.issue 1 with
        counters := sset 0 c.counters counter (v - n)
        xfers := dropN (fun x => x.counter = counter && x.complete) n c.xfers }
    else s.hold cl c (.waitt cl counter n) .token

/-- WAITT. -/
def execWaitt (cl counter n : Nat) (s : State) : Out := .next (s.waitt cl counter n)

/-! ## Port tokens -/

/-- The partitions that own a cluster or a granule in a region (R259); a die pool lies on every region of its die. -/
def State.partsInRegion (s : State) (region : Nat) : List Nat :=
  (List.range 64).filter fun p => s.partEn p &&
    ((s.partClusters p).any (fun cl => s.physAll cl / 8 = region) ||
     s.mem.owner.any fun e => e.2 = p + 1 && (e.1 / 2 ^ 20 = region || e.1 / 2 ^ 20 = 32 + region / 8))

/-- An unroutable header word (R259). -/
def State.routerHeader (s : State) (region port master : Nat) : State :=
  (s.raise 0x005 (site (region / 8) (region % 8) 0 6 port) master 0 0 0).resetParts (s.partsInRegion region) 4

/-- The header word of a token as its output port fills it (Table CLUS-8, R258). -/
def tokenHeader (h cl stream seq len dport dest rgen part : Nat) : Nat :=
  (0x200 + cl) * 2 ^ 116 + stream % 2 ^ 12 * 2 ^ 104 + seq % 2 ^ 16 * 2 ^ 88 + 1 * 2 ^ 76 + len % 64 * 2 ^ 70 +
    dport % 8 * 2 ^ 67 + bitsOf h 66 64 * 2 ^ 64 + bitsOf h 63 32 * 2 ^ 32 + (0x200 + dest) * 2 ^ 20 + rgen % 16 * 2 ^ 12 +
    part % 64 * 2 ^ 6

/-- The accesses of each cycle of a SEND or RECV copy: 64 bytes a cycle (R96, R98). -/
def copySpans (a words : Nat) (wr : Bool) : List (List Touch) := runSpans a (16 * words) 64 wr

/-- SEND takes a header, in its issue cycle, and its payload from scratch and uses one credit of the port (R24, R105). On a port that the program does not bind it waits for a
credit that none returns (DESIGN CHOICE, log entry 66). -/
def State.send (s : State) (cl src len port : Nat) : State :=
  s.onCluster cl fun c =>
    match aget c.outBind port with
    | none => s.hold cl c (.send cl src len port) .credit
    | some b =>
      if 8 ≤ sget 0 c.creditsUsed port then s.hold cl c (.send cl src len port) .credit
      else s.reading cl [(src, 16 * (len + 1))] fun s =>
        let h := c.readS src 16
        if h.2 then s.routerHeader (s.physAll cl / 8) (s.physOf cl % 8) (clusterMaster cl)
        else
          let p := (s.partOf cl).getD 0
          let seq := sget 0 c.seqOut port
          let hd := tokenHeader (leNat h.1) cl b.stream seq len b.dport b.dest (s.rd R.cfgPstatRgen p) p
          let ws := encodeWord (leBytes 16 hd) :: (List.range len).map fun i =>
            let w := wordAt c.scratch (src / 16 + 1 + i)
            (passWord w).getD w
          (s.setCluster cl { (c.copyRun ([(src, 16, false)] :: copySpans (src + 16) len false)).nextInstr with
            creditsUsed := sset 0 c.creditsUsed port (sget 0 c.creditsUsed port + 1)
            seqOut := sset 0 c.seqOut port ((seq + 1) % 2 ^ 16) }).updPkg fun k =>
              { k with tokens := k.tokens ++ [⟨b.dest, b.dport, cl, port, ws, p, s.rd R.cfgPstatRgen p % 16⟩] }

/-- SEND. -/
def execSend (cl srcAddr len port : Nat) (s : State) : Out := .next (s.send cl srcAddr len port)

/-- PORT_TOKEN_ARRIVAL: the oldest token in flight to an input port enters its queue. A port accepts tokens only from the output
port bound to it (R105); a token of an old reset generation is dropped (Table CLUS-10). -/
def State.tokenArrives (s : State) (cl port : Nat) : State :=
  match s.pkg.tokens.find? fun t => t.dest = cl && t.dport = port with
  | none => s
  | some t =>
    let s := s.updPkg fun k => { k with tokens := dropFirst (fun t => t.dest = cl && t.dport = port) k.tokens }
    let c := s.cluster cl
    if aget c.inBind port = some (t.src, t.sport) ∧ t.rgen = s.rd R.cfgPstatRgen t.part % 16 then
      s.setCluster cl { c with inq := aput c.inq port ((aget c.inq port).getD [] ++ [t.words]) }
    else s

/-- PORT_TOKEN_ARRIVAL. -/
def execPortTokenArrival (cl port : Nat) (s : State) : Out := .next (s.tokenArrives cl port)

/-- Writes words as they are stored into scratch. -/
def Cluster.putWords (c : Cluster) (a : Nat) (ws : List (List Byte)) : Cluster :=
  { c with scratch := (ws.foldl (fun (x : List Host.Cell × Nat) w => (putWord x.1 x.2 w, x.2 + 1)) (c.scratch, a / 16)).1 }

/-- RECV writes the oldest token of a port at DST_ADDR, its header's bits [19:0] as zero, and returns its credit. -/
def State.recv (s : State) (cl dst port : Nat) : State :=
  s.onCluster cl fun c =>
    match (aget c.inq port).getD [] with
    | [] => s.hold cl c (.recv cl dst port) .port
    | t :: r =>
      let n := t.length
      s.writing cl 5 [(dst, 16 * n)] fun s =>
        let h := leNat (decodeWord false (t.headD poisonWord)).bytes.1
        let ws := encodeWord (leBytes 16 (h / 2 ^ 20 * 2 ^ 20)) :: t.drop 1
        let s := s.setCluster cl { ((c.advance 1).copyRun (copySpans dst n true)).nextInstr.putWords dst ws with
          inq := if r.isEmpty then adel c.inq port else aput c.inq port r }
        match aget c.inBind port with
        | some (src, sport) => s.updPkg fun k =>
            { k with creditsOwed := sset 0 k.creditsOwed (8 * src + sport) (sget 0 k.creditsOwed (8 * src + sport) + 1) }
        | none => s

/-- RECV. -/
def execRecv (cl dstAddr port : Nat) (s : State) : Out := .next (s.recv cl dstAddr port)

/-- CREDIT_RETURN: credits the receiver has freed come back to an output port, at most those it owes (R24). -/
def State.creditBack (s : State) (cl port n : Nat) : State :=
  let k := 8 * cl + port
  let m := Nat.min n (sget 0 s.pkg.creditsOwed k)
  let c := s.cluster cl
  (s.setCluster cl { c with creditsUsed := sset 0 c.creditsUsed port (sget 0 c.creditsUsed port - m) }).updPkg fun g =>
    { g with creditsOwed := sset 0 g.creditsOwed k (sget 0 g.creditsOwed k - m) }

/-- CREDIT_RETURN. -/
def execCreditReturn (cl port n : Nat) (s : State) : Out := .next (s.creditBack cl port n)

/-! ## Control flow -/

/-- LOOP repeats the next `body` instructions `count` times (R99). -/
def State.loop (s : State) (cl count body : Nat) : State :=
  s.onCluster cl fun c =>
    if body = 0 then s.setCluster cl (c.issue 1)
    else s.setCluster cl { c.advance 1 with pc := c.pc + 1, loops := (c.pc + 1, c.pc + 1 + body, count - 1) :: c.loops }

/-- LOOP. -/
def execLoop (cl count body : Nat) (s : State) : Out := .next (s.loop cl count body)

/-- NOP idles for the encoded number of cycles (R98). -/
def State.nop (s : State) (cl cycles : Nat) : State := s.onCluster cl fun c => s.setCluster cl (c.issue cycles)

/-- NOP. -/
def execNop (cl cycles : Nat) (s : State) : Out := .next (s.nop cl cycles)

/-- JPAGE jumps to the start of the other page; with the fill outstanding it is a scratch-hazard fault (R99). Loops open at a JPAGE are left (DESIGN
CHOICE, log entry 67: R99 does not say what becomes of them). -/
def State.jpage (s : State) (cl : Nat) : State :=
  s.onCluster cl fun c =>
    if c.xfers.any (·.page) then s.scratchHazard cl
    else s.setCluster cl { c.issue 1 with page := 1 - c.page, pc := 0, loops := [] }

/-- JPAGE. -/
def execJpage (cl : Nat) (s : State) : Out := .next (s.jpage cl)

/-- The schedule counter starts again from 0: times to come keep their distance. -/
def Cluster.rebase (c : Cluster) : Cluster :=
  let t := c.schedCycles
  let ago (m : Sparse Nat) : Sparse Nat := (m.map fun e => (e.1, e.2 - t)).filter fun e => e.2 ≠ 0
  { c with
    schedCycles := 0, vecBusy := c.vecBusy - t, roEnd := c.roEnd.map (· - t), roReady := c.roReady - t, arrFree := c.arrFree - t
    wFree := ago c.wFree, wUsed := ago c.wUsed, wReady := ago c.wReady, paccFree := c.paccFree - t
    bankUse := c.bankUse.map fun u => { u with due := u.due - t } }

/-- STEP_BEGIN completes once the hub's begin message has arrived; the step's counts start (R94, R106). -/
def State.stepBegin (s : State) (cl : Nat) : State :=
  s.onCluster cl fun c =>
    if c.beginMsg then
      s.setCluster cl { (c.issue 1).rebase with
        beginMsg := false, inStep := true, stepSeq := c.stepSeq + 1, waitToken := 0, waitPort := 0,
        waitCredit := 0, waitFinal := 0, waitPower := 0, recompCycles := 0, poisonOut := 0, poisonRows := [], e2m1Nan := 0, spanCount := 0,
        sigs := [], checkSigs := [], tileProds := [], products := [], productOpen := false }
    else s.hold cl c (.stepBegin cl) .token

/-- STEP_BEGIN. -/
def execStepBegin (cl : Nat) (s : State) : Out := .next (s.stepBegin cl)

/-- The step record (Table CLUS-9). -/
def Cluster.stepRecord (c : Cluster) (cl : Nat) : List Byte :=
  leBytes 32 (c.stepSeq % 256 + cl * 2 ^ 8 + Nat.min c.spanCount 65535 * 2 ^ 16 + c.schedCycles % 2 ^ 32 * 2 ^ 32 +
    c.waitToken % 2 ^ 32 * 2 ^ 64 + c.waitPort % 2 ^ 32 * 2 ^ 96 + c.waitCredit % 2 ^ 32 * 2 ^ 128 +
    c.waitFinal % 2 ^ 32 * 2 ^ 160 + Nat.min c.e2m1Nan 65535 * 2 ^ 192 + Nat.min c.poisonOut 65535 * 2 ^ 208 +
    c.recompCycles % 2 ^ 32 * 2 ^ 224)

/-- Has every outbound transfer completed and the recompute engine finished (Table CLUS-1, R77)? -/
def Cluster.finalReady (c : Cluster) : Bool := c.spans.isEmpty && !(c.xfers.any fun x => !x.page && stOut x.desc && !x.complete)

/-- STEP_END writes the step record, sends the row events and reports the cluster done (R106, R107). -/
def State.stepEnd (s : State) (cl : Nat) : State :=
  s.onCluster cl fun c =>
    if c.finalReady then
      let c := ((c.stall fun c => c.roEnd.headD 0).issue 1).flushEvents
      s.setCluster cl { c with inStep := false, record := c.stepRecord cl }
    else s.hold cl c (.stepEnd cl) .final

/-! ## Row events -/

/-- The row range of the running step that holds a step row (R107). -/
def rowOwner (rows : List StepRow) (row : Nat) : Option StepRow :=
  rows.find? fun r => decide (r.first ≤ row) && decide (row < r.first + r.count)

/-- The hub adds one row-event entry to the request whose rows hold it (R107). -/
def State.countEvent (s : State) (p row span nan : Nat) : State :=
  match rowOwner ((s.part p).running.getD []) row with
  | none => s
  | some r =>
    let k := (r.client, r.req)
    let s := s.updReq k fun q => { q with span := q.span + span, e2m1 := q.e2m1 + nan }
    let isOne (g : Gen) : Bool := g.client = k.1 && g.req = k.2
    if r.kind = 0 then s
    else s.putGens (modFirst isOne (fun g => { g with span := g.span + span, e2m1 := g.e2m1 + nan }) s.gens)

/-- The hub takes a cluster's row-event messages. -/
def State.rowEvents (s : State) (cl : Nat) : State :=
  match s.partOf cl with
  | none => s
  | some p =>
    let c := s.cluster cl
    c.eventsSent.foldl (fun s e => s.countEvent p e.1 e.2.1 e.2.2) (s.setCluster cl { c with eventsSent := [] })

/-- ROW_EVENT_MESSAGE. -/
def execRowEventMessage (cl : Nat) (s : State) : Out := .next (s.rowEvents cl)

end Sys2Proof.Machine
end

