-- ==== Sys2Proof/Machine/Router.lean ====
section
/-! DEFINITION. The region routers, the die crossbars and the links of the package (02_seven_levels.md R21 to R35, 12_word_code.md R258 to R260), and the
memory controllers' answers. -/

namespace Sys2Proof.Machine

/-! ## Router messages (R258, Table CODE-4) -/

/-- Payload words of a message by its header word: LEN of Table CLUS-8 for a token, LEN + 1 for a read response or a write request. A read request and a
write acknowledgement carry none: there LEN counts the words read or written (DEDUCED, log entry 81). -/
def routerLen (h : Nat) : Nat := match bitsOf h 19 16 with
  | 0 => bitsOf h 75 70
  | 2 => bitsOf h 75 68 + 1
  | 3 => bitsOf h 75 68 + 1
  | _ => 0

/-- A message of its header word and payload. -/
def routerMsgOf (h : Nat) (payload : List (BitVec 144)) : RouterMsg where
  src := bitsOf h 127 116
  stream := bitsOf h 115 104
  seq := bitsOf h 103 88
  act := bitsOf h 87 76
  body := bitsOf h 75 20
  addr := if bitsOf h 19 16 = 0 then bitsOf h 31 20 else bitsOf h 67 20
  kind := bitsOf h 19 16
  rgen := bitsOf h 15 12
  part := bitsOf h 11 6
  payload := payload

/-- Flits of a message with `n` payload words (R258). -/
def flitCount (n : Nat) : Nat := ceilDiv (n + 1) 4

/-- What a decoder in CORRECT mode makes of a header word: its data, and whether it was corrected; none where it is POISON or UNCORRECTABLE (R259). -/
def readHeader (w : BitVec 144) : Option (Nat × Bool) := match decodeWord false (symsOf w.toNat) with
  | .word b c => some (leNat b, c.isSome)
  | _ => none

/-! ## Routes -/

/-- Module-wide region and router port of a master (Tables LEVL-3, LEVL-8); none for hub masters. -/
def State.masterPlace (s : State) (m : Nat) : Option (Nat × Nat) :=
  if 0x200 ≤ m ∧ m < 0x2F0 then some (s.physAll (m - 0x200) / 8, s.physOf (m - 0x200) % 8)
  else if 0x400 ≤ m ∧ m < 0x480 then some ((m - 0x400) / 4, 8 + m % 4)
  else if 0x480 ≤ m ∧ m < 0x4A0 then some (m - 0x480, 12)
  else none

/-- The region and port a message is routed to (R258, Table CODE-4): a token by DEST, which ADDR names for KIND 0, a request
by its device address, a response by SRC. KIND 5 is internal to the package. -/
def State.routerTarget (s : State) (m : RouterMsg) : Option (Nat × Nat) :=
  match m.kind with
  | 0 => s.masterPlace m.addr
  | 2 => s.masterPlace m.src
  | 4 => s.masterPlace m.src
  | 1 => (viewOf m.addr).map fun e => ((s.locate e.1 e.2).1 / 8, 14)
  | 3 => (viewOf m.addr).map fun e => ((s.locate e.1 e.2).1 / 8, 14)
  | _ => none

/-- The output port of a region router for a message (R33). ADDR of KIND 5, which is internal to the package, names the port in its low bits (DESIGN
CHOICE, log entry 81). -/
def State.routerPort (s : State) (region : Nat) (m : RouterMsg) : Nat :=
  if m.kind = 5 then m.addr % 16
  else match s.routerTarget m with
    | some (r, p) => if r = region then p else 15
    | none => 15

/-- A response that carries an old reset generation is dropped on arrival (Table CLUS-10). -/
def State.stale (s : State) (m : RouterMsg) : Bool :=
  (m.kind = 2 || m.kind = 4) && m.rgen ≠ s.rd R.cfgPstatRgen m.part % 16

/-- A die link's state. -/
def Package.link (k : Package) (l : Nat) : DieLink := (aget k.links l).getD DieLink.init

/-- The die at which a direction's frames arrive; 4 is the hub. -/
def linkEnd (l : Nat) : Nat := match l / 4 with
  | 0 => 4
  | 1 => (l % 4 + 1) % 4
  | _ => l % 4

/-- The site of the unit that receives on a direction (class 0xE): hub link, ring link to d + 1, ring link to d + 3. -/
def linkSite (l : Nat) : Nat := match l / 4 with
  | 0 => site (l % 4) 0 0 0xE 0
  | 1 => site ((l % 4 + 1) % 4) 0 0 0xE 2
  | 2 => site (l % 4) 0 0 0xE 0
  | _ => site (l % 4) 0 0 0xE 1

/-- Is a physical link retired? Directions l and l + 8 share one. -/
def Package.linkDead (k : Package) (l : Nat) : Bool := (k.link l).retired || (k.link ((l + 8) % 16)).retired

/-- Is the ring whole from die `a` for `n` hops, upward or downward? -/
def Package.ringOk (k : Package) (a n : Nat) (up : Bool) : Bool :=
  (List.range n).all fun i => !k.linkDead (4 + (if up then a + i else a + 7 - i) % 4)

/-- The direction by which a message leaves die `a` round the ring for die `b` (R33): the direct hop, or the hop to (source + 1) mod 4 for a die two hops
away. Where a link of that way is retired it goes the other way round (R34). -/
def Package.ringLink (k : Package) (a b : Nat) : Nat :=
  let n := (b + 4 - a) % 4
  let up := if n = 3 then k.ringOk a 3 true && !k.ringOk a 1 false else k.ringOk a n true || !k.ringOk a (4 - n) false
  if up then 4 + a else 12 + (a + 3) % 4

/-- The die whose hub link serves die `d`: its own, or where that is retired the first of d + 1, d + 3 and d + 2 that has one (R34 says a neighbouring
die; the order is a DESIGN CHOICE, log entry 68). -/
def Package.hubDie (k : Package) (d : Nat) : Nat :=
  (([d, (d + 1) % 4, (d + 3) % 4, (d + 2) % 4]).find? fun n => !k.linkDead n).getD d

/-- The direction a message leaves a die by, 4 being the hub (R33, R34). -/
def Package.nextLink (k : Package) (here dest : Nat) : Nat :=
  if here = 4 then 8 + k.hubDie dest
  else if dest = 4 then (if k.hubDie here = here then here else k.ringLink here (k.hubDie here))
  else k.ringLink here dest

/-- The die a message is bound for; 4 is the hub. -/
def State.msgDie (s : State) (m : RouterMsg) : Nat := match s.routerTarget m with
  | some (r, _) => r / 8
  | none => 4

/-- The die an arbiter of a router, of a crossbar or of a link that leads from it stands on; 4 is the hub. -/
def arbDie (arb : Nat) : Nat :=
  if arb < 512 then arb / 16 / 8
  else if arb < 520 then arb - 512
  else match (arb - 520) / 4 with
    | 0 => arb - 520
    | 1 => arb - 524
    | 2 => 4
    | _ => (arb - 532 + 1) % 4

/-- Where a message that has passed an arbiter goes next, as (arbiter, input): from a router's port 15 to the crossbar of its die, from a crossbar to the
router of its region or to a link. None where it is delivered, or has entered a link. -/
def State.nextArb (s : State) (arb : Nat) (m : RouterMsg) : Option (Nat × Nat) :=
  if arb < 512 then (if arb % 16 = 15 then some (arbCrossbar (arb / 128), arb / 16 % 8) else none)
  else if arb < 520 then
    match s.routerTarget m with
    | some (r, p) => if r / 8 = arbDie arb then some (16 * r + p, 15) else some (arbLink (s.pkg.nextLink (arbDie arb) (r / 8)), 0)
    | none => some (arbLink (s.pkg.nextLink (arbDie arb) 4), 0)
  else none

/-- The messages of a stream in flight across the die boundary of a link direction (R35). -/
def Package.inFlight (k : Package) (l src stream : Nat) : Nat :=
  (((aget k.onward l).getD [] ++ (k.link l).early).filter fun m => m.src = src && m.stream = stream).length

/-- An input of a region router. -/
def Package.input (k : Package) (i : Nat) : RouterIn := (aget k.ins i).getD RouterIn.init

/-- Changes it. -/
def State.setInput (s : State) (i : Nat) (x : RouterIn) : State := s.updPkg fun k => { k with ins := aput k.ins i x }

/-- The head message that waits at a router input for its output: its header's fields; none where none waits, or its header cannot be read. -/
def Package.headMsg (k : Package) (i : Nat) : Option RouterMsg :=
  let x := k.input i
  if !x.taking.isEmpty then none
  else match x.fifo with
  | (true, w :: _) :: _ => (readHeader w).map fun h => routerMsgOf h.1 []
  | _ => none

/-- The inputs of a region whose head message waits for an output, with its ACT. -/
def State.waitsFor (s : State) (arb : Nat) : List (Nat × Nat) :=
  if 512 ≤ arb then []
  else (List.range 16).filterMap fun i =>
    (s.pkg.headMsg (arb / 16 * 16 + i)).bind fun m => if arb / 16 * 16 + s.routerPort (arb / 16) m = arb then some (i, actOf m.act) else none

/-- The ACT that an arbiter's output advertises with a message: the sum recorded at its grant, else that of the message and of the oldest message of each
input that waits, at most 4,095 (R27). -/
def State.actOut (s : State) (arb input : Nat) (m : RouterMsg) : Nat :=
  if sget 0 s.pkg.granted arb ≠ 0 then sget 0 s.pkg.adv arb
  else
    let q := (aget s.pkg.queued arb).getD []
    let others := ((q.map (·.1)).eraseDups.filter (· ≠ input)).filterMap fun i => (q.find? fun e => e.1 = i).map fun e => actOf e.2.act
    let heads := ((s.waitsFor arb).filter fun e => e.1 ≠ input).map (·.2)
    Nat.min 4095 ((others ++ heads).foldl (· + ·) (actOf m.act))

/-- Has the crossing queue of an arbiter's input a credit left for a message of `input` (R21, R24): do fewer than 8 flits wait there? -/
def State.roomAt (s : State) (arb input : Nat) : Bool :=
  decide (((((aget s.pkg.queued arb).getD []).filter fun e => e.1 = input).map fun e => flitCount e.2.payload.length).foldl (· + ·) 0 < 8)

/-- Does an arbiter let a message of an input pass now: no older message of that input waits, a grant is its own or none is out and none waits, the next
arbiter's crossing queue has room, and a link takes it while fewer than 256 of its stream are in flight across it (R24, R26, R35)? -/
def State.arbOpen (s : State) (arb input : Nat) (m : RouterMsg) : Bool :=
  let q := (aget s.pkg.queued arb).getD []
  s.mayPass arb input &&
    (if sget 0 s.pkg.granted arb = 0 then q.isEmpty && (s.waitsFor arb).all (fun e => e.1 = input) else !(q.any fun e => e.1 = input)) &&
    ((s.nextArb arb m).all fun e => s.roomAt e.1 e.2) &&
    (decide (arb < 520) || decide (s.pkg.inFlight (arb - 520) m.src m.stream < 256))

/-- The tag at which a requester places a response (R226, R258). -/
def placeKey (m : RouterMsg) : Nat := 2 ^ 28 * m.src + 2 ^ 16 * m.stream + m.seq

/-- A message is delivered at a router output: a response is placed by its tag, any other message stands in order of arrival. -/
def State.atOutput (s : State) (arb : Nat) (m : RouterMsg) : State := s.updPkg fun g =>
  if m.kind = 2 ∨ m.kind = 4 then { g with placed := aput g.placed (placeKey m) m }
  else { g with routed := aput g.routed arb ((aget g.routed arb).getD [] ++ [m]) }

/-- A message reaches an arbiter: it passes, is delivered whole at a router output or enters a link, or goes on to the next arbiter; or it waits there in the
order of its stream (R25, R26). `fuel` bounds the arbiters of a die that it meets. -/
def State.hop (fuel : Nat) (s : State) (arb input : Nat) (m : RouterMsg) : State :=
  if !s.arbOpen arb input m then
    s.updPkg fun g => { g with queued := aput g.queued arb ((aget g.queued arb).getD [] ++ [(input, m)]) }
  else
    let m := { m with act := s.actOut arb input m }
    let next := s.nextArb arb m
    let s := s.passed arb
    match fuel, next with
    | f + 1, some (a, i) => State.hop f s a i m
    | _, _ =>
      if arb < 520 then s.atOutput arb m
      else s.updPkg fun g => { g with onward := aput g.onward (arb - 520) ((aget g.onward (arb - 520)).getD [] ++ [m]) }

/-! ## Router inputs (R24, R25, R258, R259) -/

/-- A router corrects a header word: CODE_CORRECTED, at most one a site and millisecond (R264). -/
def State.headerCorrected (s : State) (region port master : Nat) : State :=
  let st := site (region / 8) (region % 8) 0 6 port
  let last := sget 0 s.faults.codeCorrectedAt st
  if last = 0 ∨ 1000000 ≤ s.now + 1 - last then
    (s.putFaults { s.faults with codeCorrectedAt := sset 0 s.faults.codeCorrectedAt st (s.now + 1) }).raise 0x040 st master 0 1 0
  else s

/-- The flits at the head of a router input are taken: a message whose header cannot be read is dropped with its body flits (R259), as are one of a
reserved KIND and a stale response; any other passes its output's arbiter when that is open, holds the output until its last flit has come, and is then
delivered whole (R25). Messages of one input, and so of one stream, never pass one another. `fuel` bounds the flits. -/
def State.takeInput (fuel : Nat) (s : State) (region port : Nat) : State :=
  match fuel with
  | 0 => s
  | f + 1 =>
    let i := 16 * region + port
    let x := s.pkg.input i
    match x.fifo with
    | [] => s
    | (head, ws) :: rest =>
      if !head then
        if x.taking.isEmpty then (s.setInput i { x with fifo := rest }).takeInput f region port
        else
          let h := ((readHeader (x.taking.getD 0 0)).map (·.1)).getD 0
          let got := x.taking ++ ws
          let m := routerMsgOf h ((got.drop 1).take (routerLen h))
          if got.length < 4 * flitCount (routerLen h) then (s.setInput i { x with fifo := rest, taking := got }).takeInput f region port
          else (State.hop 4 (s.setInput i { x with fifo := rest, taking := [] }) (16 * region + s.routerPort region m) port m).takeInput f region port
      else match readHeader (ws.getD 0 0) with
      | none => ((s.setInput i { x with fifo := rest, taking := [], dropping := true }).routerHeader region port hubMaster).takeInput f region port
      | some h =>
        let m := routerMsgOf h.1 ((ws.drop 1).take (routerLen h.1))
        let arb := 16 * region + s.routerPort region m
        if s.stale m ∨ 5 < m.kind then (s.setInput i { x with fifo := rest, taking := [], dropping := true }).takeInput f region port
        else if !s.arbOpen arb port m then s
        else
          let s := if h.2 then s.headerCorrected region port m.src else s
          let x := { x with fifo := rest, dropping := false }
          if flitCount (routerLen h.1) ≤ 1 then (State.hop 4 (s.setInput i { x with taking := [] }) arb port m).takeInput f region port
          else
            let act := s.actOut arb port m
            (s.updPkg fun g => { g with
              granted := sset 0 g.granted arb (port + 1), adv := sset 0 g.adv arb act
              ins := aput g.ins i { x with taking := ws } }).takeInput f region port

/-- The oldest message of an arbiter's granted input goes, where one waits and may. -/
def State.useGrant (s : State) (arb : Nat) : State :=
  let q := (aget s.pkg.queued arb).getD []
  match q.find? fun e => sget 0 s.pkg.granted arb = e.1 + 1 with
  | none => if arb < 512 then State.takeInput 9 s (arb / 16) (sget 0 s.pkg.granted arb - 1) else s
  | some e =>
    let rest := dropFirst (fun x => decide (x.1 = e.1)) q
    let out := s.updPkg fun g => { g with queued := if rest.isEmpty then adel g.queued arb else aput g.queued arb (rest.filter fun x => x.1 ≠ e.1) }
    if out.arbOpen arb e.1 e.2 then
      let back := rest.filter fun x => x.1 = e.1
      (State.hop 4 out arb e.1 e.2).updPkg fun g =>
        if back.isEmpty then g else { g with queued := aput g.queued arb ((aget g.queued arb).getD [] ++ back) }
    else s

/-- ARBITER_GRANT: an arbiter grants one whole message to an input, and its output advertises the sum of the ACT of its pending inputs (R26 to R28). -/
def State.arbiter (s : State) (arb : Nat) (pend : List (Nat × Nat)) : State :=
  let r := grantStep ((aget s.pkg.arbs arb).getD []) pend
  match r.1 with
  | none => s
  | some w =>
    let sum := Nat.min 4095 ((pend.map fun e => actOf e.2).foldl (· + ·) 0)
    (s.updPkg fun k => { k with arbs := aput k.arbs arb r.2, granted := sset 0 k.granted arb (w + 1), adv := sset 0 k.adv arb sum }).useGrant arb

/-- ARBITER_GRANT. -/
def execArbiterGrant (arb : Nat) (pend : List (Nat × Nat)) (s : State) : Out := .next (s.arbiter arb pend)

/-- ROUTER_FLIT: a flit enters the crossing queue of a router input, while the sender holds a credit: the queue has 8 entries (R24). A body flit of a message
that was dropped is dropped with it. -/
def State.routerFlit (s : State) (region inPort : Nat) (flit : Flit) : State :=
  let i := 16 * region + inPort
  let x := s.pkg.input i
  if 8 ≤ x.fifo.length then s
  else if x.dropping ∧ x.fifo.isEmpty ∧ !flit.1 then s
  else State.takeInput (x.fifo.length + 1) (s.setInput i { x with fifo := x.fifo ++ [flit] }) region inPort

/-- ROUTER_FLIT. -/
def execRouterFlit (region inPort : Nat) (flit : Flit) (s : State) : Out := .next (s.routerFlit region inPort flit)

/-! ## Die links (R34, R35, R260) -/

/-- Delivers what is due of each stream, in SEQ order (R35); `fuel` bounds the messages held early. -/
def DieLink.drain (fuel : Nat) (l : DieLink) : DieLink :=
  match fuel with
  | 0 => l
  | f + 1 =>
    match l.early.find? fun m => m.seq = sget 0 l.expect (4096 * m.src + m.stream) with
    | none => l
    | some m => DieLink.drain f { l with
        early := dropFirst (· = m) l.early
        expect := sset 0 l.expect (4096 * m.src + m.stream) ((m.seq + 1) % 2 ^ 16)
        delivered := l.delivered ++ [m] }

/-- The partitions with a message in flight on the physical link of a direction (R34). -/
def Package.onLink (k : Package) (l : Nat) : List Nat :=
  (([l, (l + 8) % 16]).flatMap fun d => ((k.link d).early ++ (aget k.onward d).getD []).map (·.part)).eraseDups

/-- SEQ by which a later message of a stream follows what a dead link has delivered or lost. -/
def Package.afterLink (k : Package) (l key : Nat) : Nat :=
  let lost := ((k.link l).early ++ (aget k.onward l).getD []).filter fun m => 4096 * m.src + m.stream = key
  (lost.foldl (fun n (m : RouterMsg) => Nat.max n (m.seq + 1)) (sget 0 (k.link l).expect key)) % 2 ^ 16

/-- The other links go on where a dead one ends: a stream that was on it and that they have not carried is expected there from its next SEQ on, so that its
rerouted messages are delivered (R34, R35). -/
def Package.takeOver (k : Package) (l : Nat) : Package :=
  let keys := (((k.link l).expect.map fun (e : Nat × Nat) => e.1) ++
    (((k.link l).early ++ (aget k.onward l).getD []).map fun (m : RouterMsg) => 4096 * m.src + m.stream)).eraseDups
  { k with links := ((List.range 16).filter fun d => !k.linkDead d).foldl (fun ls d =>
      aput ls d (keys.foldl (fun (x : DieLink) key =>
        if sget 0 x.expect key = 0 then { x with expect := sset 0 x.expect key (k.afterLink l key) } else x) ((aget ls d).getD DieLink.init))) k.links }

/-- A physical link is retired: what was in flight on it, either way, is gone with the partitions it belonged to, which are reset with cause 5; what waited
for it takes the other way (R34). -/
def State.retireLinkOf (s : State) (l : Nat) (more : List Nat) : State :=
  let ps := (more ++ s.pkg.onLink l).eraseDups
  let dirs := [l, (l + 8) % 16]
  let waiting := dirs.flatMap fun d => ((aget s.pkg.queued (arbLink d)).getD []).map fun (e : Nat × RouterMsg) => (d, e)
  let s := s.updPkg fun g =>
    let g := { g with links := dirs.foldl (fun ls d => aput ls d { (aget ls d).getD DieLink.init with retired := true }) g.links }
    let g := dirs.foldl Package.takeOver g
    dirs.foldl (fun g d => { g with
      links := aput g.links d { g.link d with early := [], part := [] }
      onward := adel g.onward d
      queued := adel g.queued (arbLink d) }) g
  let s := s.resetParts ps 5
  waiting.foldl (fun s (e : Nat × Nat × RouterMsg) =>
    let here := arbDie (arbLink e.1)
    State.hop 4 s (arbLink (s.pkg.nextLink here (s.msgDie e.2.2))) e.2.1 e.2.2) s

/-- Messages that waited for room on a link go on, in the order of grants that R28 gives; `fuel` bounds them. -/
def State.pumpLink (fuel : Nat) (s : State) (l : Nat) : State :=
  match fuel with
  | 0 => s
  | f + 1 =>
    let arb := arbLink l
    let q := (aget s.pkg.queued arb).getD []
    let heads := (q.map (·.1)).eraseDups.filterMap fun i => q.find? fun e => e.1 = i
    let free := heads.filter fun e => decide (s.pkg.inFlight l e.2.src e.2.stream < 256)
    if free.isEmpty then s
    else if sget 0 s.pkg.granted arb ≠ 0 then s.useGrant arb
    else (s.arbiter arb (free.map fun e => (e.1, e.2.act))).pumpLink f l

/-- The input of a die's crossbar at which a link direction ends: 8 the hub link, 9 the ring from die d + 3, 10 the ring from die d + 1 (inputs 0 to 7 are
the regions). -/
def crossInput (l : Nat) : Nat := match l / 4 with
  | 2 => 8
  | 1 => 9
  | _ => 10

/-- A message that a link has delivered passes the crossbar of its die (R26), for its region or for another link, or has arrived at the hub. -/
def State.landed (s : State) (l : Nat) (m : RouterMsg) : State :=
  if linkEnd l = 4 then s else State.hop 4 s (arbCrossbar (linkEnd l)) (crossInput l) m

/-- Whether every word of a frame is good in DETECT mode: CLEAN, or POISON (R260). -/
def goodFrame (f : DieFrame) : Bool :=
  (f.header :: f.flits.flatMap (·.2)).all fun w => decodeWord true (symsOf w.toNat) ≠ .uncorrectable

/-- The frame number of a link header word (its low 16 bits: DESIGN CHOICE, log entry 81). -/
def frameNumber (f : DieFrame) : Nat := f.header.toNat % 2 ^ 16

/-- The messages that a link's flits complete, the words of one that has not ended, and how many heads could not be read (R259). A head whose message has
not ended is given up at the next head. -/
def takeFlits (flits : List Flit) (part : List (BitVec 144)) : List RouterMsg × List (BitVec 144) × Nat :=
  match flits with
  | [] => ([], part, 0)
  | f :: r =>
    let got := if f.1 then f.2 else part ++ f.2
    if got.isEmpty ∨ (!f.1 ∧ part.isEmpty) then takeFlits r []
    else match readHeader (got.getD 0 0) with
    | none => let x := takeFlits r []; (x.1, x.2.1, x.2.2 + 1)
    | some (h, _) =>
      if got.length < 4 * flitCount (routerLen h) then takeFlits r got
      else let x := takeFlits r []; (routerMsgOf h ((got.drop 1).take (routerLen h)) :: x.1, x.2)

/-- A header that a die's crossbar cannot read: its message is dropped and reported at the link, and every partition that owns a cluster or a granule on the
die is reset (R259; the die's regions: DEDUCED, log entry 81). -/
def State.crossHeader (s : State) (l : Nat) : State :=
  let d := linkEnd l
  let s := s.raise 0x005 (linkSite l) hubMaster 0 0 0
  if d = 4 then s else s.resetParts (((List.range 8).flatMap fun r => s.partsInRegion (8 * d + r)).eraseDups) 4

/-- Takes messages out of those that have entered a link. -/
def unqueue (l : Nat) (ms : List RouterMsg) (g : Package) : Package :=
  let q := ms.foldl (fun q m => dropFirst (fun x => decide (x.src = m.src ∧ x.stream = m.stream ∧ x.seq = m.seq)) q) ((aget g.onward l).getD [])
  { g with onward := if q.isEmpty then adel g.onward l else aput g.onward l q }

/-- DIE_LINK_FRAME: a frame with a bad word, or out of sequence, is discarded and replayed from the sender's buffer; after three failed replays the link
is retired (R34, R260). A good frame's messages are delivered in SEQ order (R35) and go on over the crossbar of the die (R26). A stale response is dropped
when its turn comes, and at once where its stream has restarted with its partition (Table CLUS-10). The hub's frames wait while its link is granted to
another input. -/
def State.dieFrame (s : State) (l : Nat) (f : DieFrame) : State :=
  let k := s.pkg.link l
  let put (s : State) (x : DieLink) := s.updPkg fun g => { g with links := aput g.links l x }
  if s.pkg.linkDead l ∨ 8 < f.flits.length ∨ (8 ≤ l ∧ l < 12 ∧ !s.mayPass (arbLink l) 0) then s
  else if !goodFrame f then
    if k.replays = 3 then (s.raise 0x00B (linkSite l) hubMaster 0 4 2).retireLinkOf l ((takeFlits f.flits k.part).1.map (·.part))
    else (put s { k with replays := k.replays + 1 }).raise 0x045 (linkSite l) hubMaster 0 4 (if k.replays = 0 then 0 else 1)
  else if frameNumber f ≠ k.next then s
  else
    let got := takeFlits f.flits k.part
    let restarted (m : RouterMsg) : Bool := decide (0x200 ≤ m.src) && decide (m.src < 0x2F0)
    let live := got.1.filter fun m => !(s.stale m && restarted m)
    let k := DieLink.drain (k.early.length + live.length)
      { k with next := (k.next + 1) % 2 ^ 16, replays := 0, early := k.early ++ live, delivered := [], part := got.2.1 }
    let s := ((put s k).updPkg (unqueue l got.1))
    let s := if 8 ≤ l ∧ l < 12 then s.passed (arbLink l) else s
    let s := (List.range got.2.2).foldl (fun s _ => s.crossHeader l) s
    let s := (k.delivered.filter fun m => !s.stale m).foldl (fun s m => s.landed l m) s
    s.pumpLink (((aget s.pkg.queued (arbLink l)).getD []).length) l

/-- DIE_LINK_FRAME. -/
def execDieLinkFrame (link : Nat) (frame : DieFrame) (s : State) : Out := .next (s.dieFrame link frame)

/-! ## Memory controllers (R225, R226, R258) -/

/-- The words of a read request that its region's controllers serve. -/
def State.requestWords (s : State) (m : RouterMsg) : List Nat := (List.range (bitsOf m.body 55 48 + 1)).map fun i => s.devWord (m.addr / 16 * 16 + 16 * i)

/-- The response of a request: SRC, STREAM and SEQ of it, and its reset generation (R258, Table CODE-7). -/
def responseOf (m : RouterMsg) (kind : Nat) (payload : List (BitVec 144)) : RouterMsg := { m with kind := kind, act := 1, payload := payload }

/-- A controller has a word for a requester: the symbols it passes on, corrected or still poisoned. With the last word of a read request that the region's
router has delivered the response leaves by port 14. -/
def State.answerWord (s : State) (w requester : Nat) (syms : List Byte) : State :=
  let region := wordChan w / 8
  let mine := ((aget s.pkg.routed (16 * region + 14)).getD []).any fun m => m.kind = 1 && m.src = requester && decide (w ∈ s.requestWords m)
  let s := if mine then s.updMem fun m => { m with answers := m.answers ++ [(requester, w, syms)] } else s
  let got (x : Nat) : Option (List Byte) := (s.mem.answers.find? fun e => e.1 = requester && e.2.1 = x).map (·.2.2)
  let wait := (aget s.pkg.routed (16 * region + 14)).getD []
  match wait.find? fun m => m.kind = 1 && m.src = requester && decide (w ∈ s.requestWords m) && (s.requestWords m).all fun x => (got x).isSome with
  | none => s
  | some m =>
    let ws := s.requestWords m
    let payload := ws.filterMap fun x => (got x).map fun b => BitVec.ofNat 144 (bitsOfSyms b)
    let rest := dropFirst (fun y => decide (y = m)) wait
    let s := s.updPkg fun g => { g with routed := if rest.isEmpty then adel g.routed (16 * region + 14) else aput g.routed (16 * region + 14) rest }
    let s := s.updMem fun x => { x with answers := ws.foldl (fun l y => dropFirst (fun e => decide (e.1 = requester ∧ e.2.1 = y)) l) x.answers }
    let y := responseOf m 2 payload
    State.hop 4 s (16 * region + s.routerPort region y) 14 y

/-- A controller has written a word: the write request that the region's router has delivered for it is acknowledged. -/
def State.ackWrite (s : State) (w requester : Nat) : State :=
  let region := wordChan w / 8
  let wait := (aget s.pkg.routed (16 * region + 14)).getD []
  match wait.find? fun m => m.kind = 3 && m.src = requester && (s.requestWords m).getLast? = some w with
  | none => s
  | some m =>
    let rest := dropFirst (fun y => decide (y = m)) wait
    let s := s.updPkg fun g => { g with routed := if rest.isEmpty then adel g.routed (16 * region + 14) else aput g.routed (16 * region + 14) rest }
    let y := responseOf m 4 []
    State.hop 4 s (16 * region + s.routerPort region y) 14 y

/-- A memory controller serves a request for a word (R225, R226, R254, R261), and answers it. A request to a withdrawn granule is a bounds
fault (R230). While a grant of the controller stands for another requester the request waits (R26). -/
def State.memAccess (s : State) (w requester : Nat) (op : MemOp) : State :=
  let withdrawn := match s.devAddrOf w with
    | some a => !s.backed a
    | none => s.isSet R.memChstatRetired (wordChan w)
  if withdrawn then s.raise 0x002 (chanSite (wordChan w)) requester (s.reportAddr w) 0 0
  else if !s.mayPass (arbMem (wordChan w)) requester then s
  else
  let s := s.passed (arbMem (wordChan w))
  match op with
    | .read noise =>
      let r := s.readCtl w requester noise
      (match r.2 with
       | .word b _ => r.1.answerWord w requester (encodeWord b)
       | .poisoned => r.1.answerWord w requester (wordAt s.mem.cells w)
       | .uncorrectable => r.1)
    | .write bytes =>
      let s := if bytes.length < 16 then (s.readCtl w requester []).1 else s
      (s.updMem fun m => m.written s.now [w / 4] (mergeWord s.detects m.cells w 0 (bytes.take 16))).ackWrite w requester
    | .writePoison => (s.updMem fun m => m.written s.now [w / 4] (putWord m.cells w poisonWord)).ackWrite w requester

/-- MEMORY_ACCESS. -/
def execMemoryAccess (word requester : Nat) (op : MemOp) (s : State) : Out := .next (s.memAccess word requester op)

end Sys2Proof.Machine
end

