-- ==== Sys2Proof/Machine/Power.lean ====
section
/-! DEFINITION. Power states, capping and frequency (17_power.md). -/

namespace Sys2Proof.Machine

/-- Changes the power state. -/
def State.updPower (s : State) (f : PowerState → PowerState) : State := s.putPower (f s.power)

/-- Domain of a region, and of the module (R355). -/
def regionDomain (g : Nat) : Nat := 256 + g

/-- The module's domain. -/
def moduleDomain : Nat := 293

/-- States of PWR_DSTAT.STATE. -/
def dsIdle : Nat := 1
/-- Nap. -/
def dsNap : Nat := 2
/-- Watch. -/
def dsWatch : Nat := 3

/-- Module states of PWR_STAT.MODULE: ENTERING. -/
def msEntering : Nat := 1
/-- WATCH. -/
def msWatch : Nat := 2
/-- WAKING. -/
def msWaking : Nat := 3

/-- Is a domain in Nap? -/
def State.napping (s : State) (d : Nat) : Bool := s.rd R.pwrDstatState d = dsNap

/-- Records a refusal or an abort (R366); `unit` is the site of the refuser's unit. -/
def State.refuse (s : State) (master domain reason unit : Nat) : State :=
  ((((((s.inc R.pwrRefuseCountCount 0 1).wr R.pwrLastRefuserTime 0 s.now).wr R.pwrLastRefuserMaster 0 master).wr
    R.pwrLastRefuserDomain 0 domain).wr R.pwrLastRefuserReason 0 reason).raise 0x100 unit 0x7F1 0 0 0)

/-! ## Nap -/

/-- The first blocker of a cluster's Nap (Table POWS-4): refuser's master, reason, site. -/
def State.clusterBlocker (s : State) (cl : Nat) : Option (Nat × Nat × Nat) :=
  let c := s.cluster cl
  let seq := s.clusterSite cl 5 0
  if !c.xfers.isEmpty then some (clusterMaster cl, 0x10, seq)
  else if !c.inq.isEmpty ∨ !c.creditsUsed.isEmpty then some (clusterMaster cl, 0x11, seq)
  else if s.isSet R.wftCstatClaimed (s.physAll cl) then some (0x7F0, 0x12, hubSite 0 11)
  else none

/-- The first blocker of a region's Nap (Table POWS-4). -/
def State.regionBlocker (s : State) (g : Nat) : Option (Nat × Nat × Nat) :=
  match ((List.range 240).find? fun cl => s.physAll cl / 8 = g && !s.napping cl && !s.unitRetired (s.clusterSite cl 5 0) 0) with
  | some cl => some (clusterMaster cl, 0x13, s.clusterSite cl 5 0)
  | none =>
    match (List.range 4).find? fun i => s.walks.any fun w => w.walker = some (4 * g + i) with
    | some i => some (0x400 + 4 * g + i, 0x14, site (g / 8) (g % 8) 0 8 i)
    | none =>
      if s.bags.any fun b => b.unit = some g then some (0x480 + g, 0x14, site (g / 8) (g % 8) 0 9 0)
      else match (List.range 8).find? fun i => s.mem.retrain.any fun x => x / 2 = 8 * g + i with
        | some i => some (0x7FF, 0x15, chanSite (8 * g + i))
        | none => none

/-- A cluster enters Nap at a WAIT (Table POWS-1): arrays, accumulators and queues are lost, the rest is held or saved. -/
def State.enterNap (s : State) (cl : Nat) : State :=
  let c := s.cluster cl
  let s := s.setCluster cl { c with held := some (.wait cl), heldAt := s.now, weights := [], acc := [], lane := [], inq := [] }
  (s.wr R.pwrDstatState cl dsNap).inc R.pwrDstatNaps cl 1

/-- WAIT: met while the cluster's MODE is RUN; with MODE = NAP the cluster enters Nap or the entry is refused (R357, R359). -/
def State.wait (s : State) (cl : Nat) : State :=
  s.onCluster cl fun c =>
    if s.rd R.pwrModeMode cl = 0 ∧ !s.napping cl then s.setCluster cl (c.issue 1)
    else match s.clusterBlocker cl with
      | some (m, r, u) => ((s.setCluster cl (c.issue 1)).wr R.pwrModeMode cl 0).refuse m cl r u
      | none => s.enterNap cl

/-- WAIT. -/
def execWait (cl : Nat) (s : State) : Out := .next (s.wait cl)

/-- The kind of wait of a held instruction (Table CLUS-1). -/
def heldKind (i : Instr) : WaitKind := match i with
  | .waitt .. => .token
  | .stepBegin .. => .token
  | .recv .. => .port
  | .send .. => .credit
  | .stream .. => .credit
  | .page .. => .credit
  | .stepEnd .. => .final
  | _ => .power

/-- Runs a synchronisation-point instruction again. -/
def State.retry (s : State) (i : Instr) : State := match i with
  | .waitt cl c n => s.waitt cl c n
  | .stepBegin cl => s.stepBegin cl
  | .recv cl a p => s.recv cl a p
  | .send cl a n p => s.send cl a n p
  | .stream cl a e => s.queueXfer cl a e false (.stream cl a e)
  | .page cl a e => s.queueXfer cl a e true (.page cl a e)
  | .stepEnd cl => s.stepEnd cl
  | .wait cl => s.wait cl
  | _ => s

/-- Is the condition of a held instruction met (Table CLUS-1)? -/
def State.conditionMet (s : State) (cl : Nat) (i : Instr) : Bool :=
  let c := s.cluster cl
  match i with
  | .waitt _ k n => decide (n ≤ sget 0 c.counters k)
  | .stepBegin _ => c.beginMsg
  | .recv _ _ p => (aget c.inq p).isSome
  | .send _ _ _ p => (aget c.outBind p).isSome && decide (sget 0 c.creditsUsed p < 8)
  | .stream _ _ e => decide ((c.xfers.filter fun x => x.engine = e && !x.complete).length < 8)
  | .page _ _ e => decide ((c.xfers.filter fun x => x.engine = e && !x.complete).length < 8)
  | .stepEnd _ => c.finalReady
  | .wait _ => s.rd R.pwrModeMode cl = 0 && !s.napping cl
  | _ => false

/-- SYNC_POINT_RELEASE: the held instruction completes once its condition is visible; the wait cycles since it was held are
recorded by kind (R92, R94). -/
def State.release (s : State) (cl waited : Nat) : State :=
  let c := s.cluster cl
  match c.held with
  | none => s
  | some i =>
    if s.conditionMet cl i ∧ !c.stopped then (s.setCluster cl { c.waited (heldKind i) waited with held := none }).retry i
    else s

/-- SYNC_POINT_RELEASE. -/
def execSyncPointRelease (cl waited : Nat) (s : State) : Out := .next (s.release cl waited)

/-- Has partition `p` a running or queued step, pass or task (R358)? -/
def State.partBusy (s : State) (p : Nat) : Bool :=
  let x := s.part p
  x.running.isSome || x.next.isSome || !x.queue.isEmpty || (s.tasks.any fun t => t.part = p) ||
    s.gens.any fun g => g.part = p && g.hostPaused.isNone && g.phase != .ended

/-- PWR_MODE_NAP: management firmware writes NAP to a cluster or region domain (R357 to R359). It naps a partition's clusters
only while the partition has nothing to run (R358). -/
def State.modeNap (s : State) (a d : Nat) : State :=
  if !isCore a then s.badAccess (accMaster a) 2
  else if d < 240 then
    (match s.partOf d with
     | some p => if s.partBusy p then s else s.wr R.pwrModeMode d 1
     | none => s.wr R.pwrModeMode d 1)
  else if 256 ≤ d ∧ d < 288 then
    (match s.regionBlocker (d - 256) with
     | some (m, r, u) => (s.wr R.pwrModeMode d 0).refuse m d r u
     | none => s.wr R.pwrModeMode d 1)
  else s

/-- PWR_MODE_NAP. -/
def execPwrModeNap (accessor domain : Nat) (s : State) : Out := .next (s.modeNap accessor domain)

/-- RUN is a wake event: a domain in Nap starts its return; an entry in progress aborts and is not recorded (R357, R365,
R377). -/
def State.wakeDomain (s : State) (d : Nat) : State :=
  let s := s.wr R.pwrModeMode d 0
  if s.napping d ∧ d ∉ s.power.waking then s.updPower fun p => { p with waking := p.waking ++ [d] } else s

/-- PWR_MODE_RUN. -/
def State.modeRun (s : State) (a d : Nat) : State :=
  if !isCore a then s.badAccess (accMaster a) 2 else s.wakeDomain d

/-- PWR_MODE_RUN. -/
def execPwrModeRun (accessor domain : Nat) (s : State) : Out := .next (s.modeRun accessor domain)

/-- REGION_NAP_ENTRY: a region whose MODE is NAP enters Nap once its conditions hold (R357). -/
def State.regionNap (s : State) (g : Nat) : State :=
  let d := regionDomain g
  if s.rd R.pwrModeMode d = 1 ∧ !s.napping d ∧ (s.regionBlocker g).isNone then
    (s.wr R.pwrDstatState d dsNap).inc R.pwrDstatNaps d 1
  else s

/-- REGION_NAP_ENTRY. -/
def execRegionNapEntry (region : Nat) (s : State) : Out := .next (s.regionNap region)

/-- NAP_RETURN_COMPLETE: a waking domain is back in Run, a region before any of its clusters (R360); the guardband applies at
Nap exit (R402). -/
def State.napReturn (s : State) (d : Nat) : State :=
  if d ∉ s.power.waking then s
  else if d < 240 ∧ s.napping (regionDomain (s.physAll d / 8)) then s
  else
    let s := (s.updPower fun p => { p with waking := p.waking.filter (· ≠ d) }).wr R.pwrDstatState d 0
    if d < 240 then s.setFreqStep d (((s.cluster d).stepPending).getD (s.rd R.pwrDstatStep d)) else s

/-- NAP_RETURN_COMPLETE. -/
def execNapReturnComplete (domain : Nat) (s : State) : Out := .next (s.napReturn domain)

/-! ## Idle -/

/-- Are an island's units all held or empty (R356)? -/
def State.quiet (s : State) (d : Nat) : Bool :=
  if d < 240 then
    let c := s.cluster d
    c.held.isSome && !(c.xfers.any fun x => !x.complete) && c.spans.isEmpty &&
      !(s.pkg.tokens.any fun t => t.dest = d || t.src = d) && ((List.range 8).all fun p => sget 0 s.pkg.creditsOwed (8 * d + p) = 0)
  else if 256 ≤ d ∧ d < 288 then
    !(s.walks.any fun w => match w.walker with
      | some n => n / 4 = d - 256
      | none => false) && !(s.bags.any fun b => b.unit = some (d - 256)) && !(s.mem.retrain.any fun x => x / 16 = d - 256) &&
      s.pkg.ins.all fun e => e.1 / 16 ≠ d - 256 || (e.2.fifo.isEmpty && e.2.taking.isEmpty)
  else decide (d = 292) && s.host.reqs.isEmpty && s.host.fetched.isEmpty && s.host.cq.isEmpty && s.tasks.isEmpty

/-- ISLAND_IDLE: an island with no activity for 64 cycles stops its clock. -/
def State.islandIdle (s : State) (d : Nat) : State :=
  if s.rd R.pwrDstatState d = 0 ∧ s.quiet d then s.wr R.pwrDstatState d dsIdle else s

/-- ISLAND_IDLE. -/
def execIslandIdle (domain : Nat) (s : State) : Out := .next (s.islandIdle domain)

/-- ISLAND_WAKE: a crossing event restarts the clock. -/
def State.islandWake (s : State) (d : Nat) : State :=
  if s.rd R.pwrDstatState d = dsIdle then s.wr R.pwrDstatState d 0 else s

/-- ISLAND_WAKE. -/
def execIslandWake (domain : Nat) (s : State) : Out := .next (s.islandWake domain)

/-! ## Watch -/

/-- Is the module in Run and fetching descriptors (R304, R362, R389)? -/
def State.moduleRun (s : State) : Bool := s.rd R.pwrStatModule 0 = 0

/-- The first blocker of Watch (Table POWS-7), the request `k` counted as absent: refuser's master, reason, site. -/
def State.watchBlocker (s : State) (k : ReqKey) : Option (Nat × Nat × Nat) :=
  let hub := hubSite 0 10
  if (s.host.reqs.any fun r => r.client ≠ k.1 || r.id ≠ k.2) ∨ !s.host.fetched.isEmpty then some (0x7FF, 0x20, hub)
  else if !s.flash.writes.isEmpty ∨ (s.flash.stripes.any fun (e : Nat × Stripe) => !e.2.closed) then
    let core := match s.flash.writes with
      | w :: _ => w.core
      | [] => 0
    some (0x500 + core, 0x21, hubSite 1 core)
  else if s.parts.any fun e => !e.2.prefetch.isEmpty then some (0x7FF, 0x22, hub)
  else if (List.range 64).any fun p => s.partEn p && s.rd R.cfgPstatState p = psReset then some (0x7FF, 0x23, hub)
  else if (s.tables.any fun e => e.2.commit.isSome) ∨ (s.shards.any fun e => e.2.merge.isSome) ∨ (List.range 8).any fun t => s.rd R.mdlTreeState t = 2 then
    some (0x7FF, 0x24, hub)
  else if s.upd.writing ∨ (s.rd R.updActivateAtTime 0 ≠ 0 ∧ s.rd R.updActivateAtTime 0 - s.now < 60 * 10 ^ 9) then
    some (0x100, 0x25, hubSite 0 0)
  else none

/-- Watch entry aborts: the module returns to Run by the path of Table POWS-9, and the abort is recorded (R362). -/
def State.watchAbort (s : State) (master reason unit : Nat) : State :=
  ((s.updPower fun p => { p with watchAsked := none }).wr R.pwrStatModule 0 msWaking).refuse master moduleDomain reason unit

/-- A port sends DARK in its last frame and its light goes out (Table FABR-3, R285). -/
def State.sendDark (s : State) (p : Nat) : State :=
  let s := (s.setPort p { s.port p with sentDark := true }).pumpPort p
  if 6 ≤ s.rd R.optPstatState p then s
  else (((s.wr R.optPstatState p 0).wr R.optPstatLanesTx p 0).wr R.optPstatLanesRx p 0).lanesState p 0

/-- What Watch loses and holds (Tables POWS-1, POWS-8). -/
def State.sleep (s : State) : State :=
  let s := (List.range 16).foldl State.sendDark s
  let s := s
      |>.putClusters (s.clusters.map fun (e : Nat × Cluster) => (e.1, { e.2 with scratch := [], imem := [], weights := [], acc := [], lane := [] }))
      |>.putPkg { s.pkg with regionBuf := [], tokens := [], ins := [] }
      |>.putMem { s.mem with selfRefresh := true, postponed := [], catchUp := [], powerDown := [] }
      |>.putHost { s.host with linkL0 := false }
      |>.putPower { s.power with watchAsked := none, diesOn := false, opticsOn := false, coreStop := true }
  let s := ((s.wr R.optStatUp 0 0).wr R.optStatNarrow 0 0).wr R.timStatState 0 3
  (s.wr R.pwrStatModule 0 msWatch).wr R.pwrDstatState moduleDomain dsWatch

/-- WATCH_ENTRY: once the command that asked for it has completed, the module powers down into Watch, unless a blocker has
arisen (R362). -/
def State.watchEntry (s : State) : State :=
  if s.power.watchAsked.isNone ∨ s.rd R.pwrStatModule 0 ≠ msEntering then s
  else match s.watchBlocker (4096, 0) with
    | some (m, r, u) => s.watchAbort m r u
    | none => s.sleep

/-- WATCH_ENTRY. -/
def execWatchEntry (s : State) : Out := .next s.watchEntry

/-- Bit of PWR_WATCH.CAUSE (R364). -/
def wakeBit (c : WakeCause) : Nat := match c with
  | .breach => 0
  | .doorbell => 1
  | .bmc => 2
  | .cfgReset => 3
  | .activation => 4

/-- A wake event starts the return from Watch (R364); WAKE_N is asserted for a cause other than a doorbell while the link is
not in L0 (R442). Watchdogs restart when the cores run again (R406). -/
def State.wakeWatch (s : State) (causes : List WakeCause) : State :=
  if s.rd R.pwrStatModule 0 ≠ msWatch ∨ causes.isEmpty then s
  else
    let bits := (List.range 5).foldl (fun v i => v + (if causes.any fun c => wakeBit c = i then 2 ^ i else 0)) 0
    let s := ((s.wr R.pwrStatModule 0 msWaking).wr R.pwrWatchCause 0 bits).inc R.pwrWatchWakes 0 1
    let s := (s.putPower { s.power with coreStop := false }).putFaults { s.faults with coreKick := (List.range 8).map fun k => (k, s.now) }
    if !s.host.linkL0 ∧ causes.any (fun c => c ≠ .doorbell) then (s.putBoard { s.board with wakeN := some s.now }) else s

/-- WATCH_WAKE. -/
def State.watchWake (s : State) (causes : List WakeCause) (l0 : Bool) : State :=
  (s.updHost fun h => { h with linkL0 := l0 }).wakeWatch causes

/-- WATCH_WAKE. A command outside Watch changes nothing. -/
def execWatchWake (causes : List WakeCause) (linkInL0 : Bool) (s : State) : Out :=
  .next (if s.rd R.pwrStatModule 0 = msWatch then s.watchWake causes linkInL0 else s)

/-- Is the sensor code one of Table POWS-10, and is it signed? -/
def sensorKind (c : Nat) : Option Bool :=
  if c ≤ 4 ∨ c = 8 ∨ c = 9 ∨ c = 0x18 then some true
  else if c = 0x10 ∨ c = 0x11 ∨ c = 0x20 ∨ c = 0x28 then some false
  else none

/-- Is enabled window `n` breached by the readings (R363)? -/
def State.breached (s : State) (rs : List Reading) (n : Nat) : Bool :=
  s.isSet R.pwrWwinEn n &&
    (let c := s.rd R.pwrWwinSensor n
     match sensorKind c with
     | none => false
     | some sg =>
       let v (x : Nat) : Int := if sg then signedOf 16 x else x
       rs.any fun r => r.1 = c && (decide (r.2 < v (s.rd R.pwrWwinLow n)) || decide (v (s.rd R.pwrWwinHigh n) < r.2)))

/-- WATCH_SAMPLE: at each multiple of PERIOD ms in Watch the sequencer compares every enabled window (R363). -/
def State.watchSample (s : State) (rs : List Reading) : State :=
  let period := 10 ^ 6 * s.rd R.pwrWatchPeriod 0
  if s.rd R.pwrStatModule 0 = msWatch ∧ period ≠ 0 ∧ s.now % period = 0 ∧ (List.range 16).any (s.breached rs) then
    s.wakeWatch [.breach]
  else s

/-- WATCH_SAMPLE. -/
def execWatchSample (readings : List Reading) (s : State) : Out := .next (s.watchSample readings)

/-- WATCH_HEARTBEAT: every 5 ms in Watch the sequencer refreshes the heartbeat (R363). -/
def State.watchHeartbeat (s : State) : State :=
  if s.rd R.pwrStatModule 0 = msWatch then (s.putFaults { s.faults with hbAt := some s.now, hbLateSent := false }) else s

/-- WATCH_HEARTBEAT. -/
def execWatchHeartbeat (s : State) : Out := .next s.watchHeartbeat

/-- PWR_MODE_WATCH: firmware writes WATCH to the module domain to carry out a Watch request (R361). -/
def State.modeWatch (s : State) (a : Nat) : State :=
  if !isCore a then s.badAccess (accMaster a) 2
  else if s.power.watchAsked.isSome then s.wr R.pwrModeMode moduleDomain 2 else s

/-- PWR_MODE_WATCH. -/
def execPwrModeWatch (accessor : Nat) (s : State) : Out := .next (s.modeWatch accessor)

/-- BMC_WAKE_COMMAND wakes the module from Watch (R364). -/
def execBmcWakeCommand (s : State) : Out := .next (s.wakeWatch [.bmc])

/-- BMC_WATCH_COMMAND enters Watch, or is refused (R361, R362). -/
def State.bmcWatch (s : State) : State :=
  if !s.moduleRun then s
  else match s.watchBlocker (4096, 0) with
    | some (m, r, u) => s.refuse m moduleDomain r u
    | none => (s.updPower fun p => { p with watchAsked := some 4096 }).wr R.pwrStatModule 0 msEntering

/-- BMC_WATCH_COMMAND. -/
def execBmcWatchCommand (s : State) : Out := .next s.bmcWatch

/-! ## Caps -/

/-- SET_CAP: OP_POWER mode 0 (R367). -/
def State.setCap (s : State) (k : ReqKey) : State :=
  match s.req? k with
  | none => s
  | some r => if r.ended ∨ r.opcode ≠ 0x38 ∨ r.inl 0 1 ≠ 0 then s else (s.wr R.pwrCapHost 0 (r.inl 2 2)).endReq k stOk 0 0

/-- SET_CAP. -/
def execSetCap (client req : Nat) (s : State) : Out := .next (s.setCap (client, req))

/-- CLEAR_CAP: OP_POWER mode 1. -/
def State.clearCap (s : State) (k : ReqKey) : State :=
  match s.req? k with
  | none => s
  | some r => if r.ended ∨ r.opcode ≠ 0x38 ∨ r.inl 0 1 ≠ 1 then s else (s.wr R.pwrCapHost 0 0).endReq k stOk 0 0

/-- CLEAR_CAP. -/
def execClearCap (client req : Nat) (s : State) : Out := .next (s.clearCap (client, req))

/-- ENTER_WATCH: OP_POWER mode 2 (R362). -/
def State.enterWatch (s : State) (k : ReqKey) : State :=
  if !((s.req? k).any fun r => !r.ended && r.opcode = 0x38 && r.inl 0 1 = 2) then s
  else match s.watchBlocker k with
    | some (m, r, u) => (s.refuse m moduleDomain r u).endReq k stState 0 0
    | none => (s.updPower fun p => { p with watchAsked := some k.1 }).endReq k stOk 0 0

/-- ENTER_WATCH. -/
def execEnterWatch (client req : Nat) (s : State) : Out := .next (s.enterWatch (client, req))

/-- BMC_CAP sets the board manager's cap, 1,200 to 3,000 W, or unsets it with 0 (R367). -/
def State.bmcCap (s : State) (w : Nat) : State :=
  if w = 0 ∨ (1200 ≤ w ∧ w ≤ 3000) then s.wr R.pwrCapBmc 0 w else s

/-- BMC_CAP. -/
def execBmcCap (watts : Nat) (s : State) : Out := .next (s.bmcCap watts)

/-- The effective cap: the least of the sources that are set (R367). -/
def State.effectiveCap (s : State) : Nat :=
  [s.rd R.pwrCapHost 0, s.rd R.pwrCapBmc 0].foldl (fun m v => if v = 0 then m else Nat.min m v) (s.rd R.pwrCapImg 0)

/-! ## Estimate, calibration and planning -/

/-- A unit by the low 11 bits of its site code: its class (Table LEVL-6), and of a hub unit 16 + its group (Table LEVL-7). -/
def unitClass (u : Nat) : Nat := if u / 16 % 16 = 15 then 16 + u / 256 % 8 else u / 16 % 16

/-- The cluster that a unit of region `g` belongs to. -/
def State.unitCluster (s : State) (g u : Nat) : Option Nat :=
  if g < 32 ∧ unitClass u ≤ 5 then s.logicalOf (8 * g + u / 256 % 8) else none

/-- V_u in mV: a cluster's own voltage, else the supply of the region or of the hub. -/
def State.unitVolt (s : State) (g u : Nat) : Nat := match s.unitCluster g u with
  | some cl => s.rd R.pwrDstatVolt cl
  | none => Config.supply g

/-- The units of a region, or of the hub, of which the estimate counts the leakage: one code for each class and place. -/
def leakUnits (g : Nat) : List Nat :=
  if g < 32 then ((List.range 8).flatMap fun k => (List.range 6).map fun c => 256 * k + 16 * c) ++
    [0x60, 0x70, 0x80, 0x81, 0x82, 0x83, 0x90, 0xA0, 0xB0]
  else (List.range 7).map fun k => 256 * k + 0xF0

/-- The master that has a unit of a region to itself (Table LEVL-8). -/
def State.unitMaster (s : State) (g u : Nat) : Option Nat := match s.unitCluster g u with
  | some cl => some (clusterMaster cl)
  | none =>
    let i := u % 16
    if g < 32 then (if unitClass u = 8 then some (0x400 + 4 * g + i) else if unitClass u = 9 then some (0x480 + g) else none)
    else if unitClass u = 22 then some (0x720 + i)
    else if unitClass u ≠ 21 then none
    else if i < 8 then some (0x700 + i) else if i < 12 then some (0x710 + (i - 8)) else if i < 14 then some (0x730 + (i - 12)) else none

/-- The terms of an estimate (R368): unit, master that the energy was spent for, nJ. The events n_u of the 10 µs are `own` of the units that one master has
to itself, and `shared` of the others, by requester's master (DESIGN CHOICE, log entry 93). -/
def State.energyTerms (s : State) (g : Nat) (own : List (Nat × Nat)) (shared : List (Nat × Nat × Nat)) (temp : Int) : List (Nat × Option Nat × Nat) :=
  let dyn (u n : Nat) : Nat := n * Config.eventEnergy (unitClass u) * (s.unitVolt g u) ^ 2 / Config.vRef ^ 2 / 10 ^ 6
  (own.map fun x => (x.1, s.unitMaster g x.1, dyn x.1 x.2)) ++ (shared.map fun x => (x.1, some x.2.1, dyn x.1 x.2.2)) ++
  (leakUnits g).map fun u => (u, s.unitMaster g u, Config.leakage (unitClass u) (s.unitVolt g u) temp / 100)

/-- The one row that stands for a request's tasks. -/
def taskRow (k : ReqKey) : StepRow := ⟨k.1, k.2, 0, 0, 0, 1, 1⟩

/-- The request whose task a master runs. -/
def State.taskOf (s : State) (m : Nat) : Option ReqKey :=
  if 0x400 ≤ m ∧ m < 0x480 then (s.walks.find? fun w => w.walker = some (m - 0x400)).map fun w => (w.client, w.req)
  else if 0x480 ≤ m ∧ m < 0x4A0 then (s.bags.find? fun b => b.unit = some (m - 0x480)).map fun b => (b.client, b.req)
  else if 0x700 ≤ m ∧ m < 0x708 then (s.tasks.find? fun t => t.kind = .zest && t.engine = some (m - 0x700)).map fun t => (t.client, t.req)
  else if 0x710 ≤ m ∧ m < 0x714 then (s.tasks.find? fun t => t.kind = .punnet && t.engine = some (m - 0x710)).map fun t => (t.client, t.req)
  else if 0x720 ≤ m ∧ m < 0x730 then ((s.parts.flatMap fun (e : Nat × Part) => e.2.sampling).find? fun l => l.unit = m - 0x720 && !l.done).map
    fun l => (l.client, l.req)
  else if 0x730 ≤ m ∧ m < 0x732 then (s.probes.find? fun x => x.engine = some (m - 0x730)).map fun x => (x.client, x.req)
  else none

/-- The step or the tasks that a master works for (R329; DEDUCED, log entry 93). -/
def State.workOf (s : State) (m : Nat) : Option (Option Nat × List StepRow) :=
  if 0x200 ≤ m ∧ m < 0x2F0 then (s.partOf (m - 0x200)).bind fun p => (s.part p).running.map fun rows => (some p, rows)
  else (s.taskOf m).map fun k => (none, [taskRow k])

/-- Adds an estimate to what a step or a request's tasks have used. -/
def addUse (l : List EnergyUse) (w : Option Nat × List StepRow) (nj : Nat) : List EnergyUse :=
  let mine (u : EnergyUse) : Bool := u.step = w.1 && u.rows = w.2 && !u.ended
  if l.any mine then modFirst mine (fun u => { u with nj := u.nj + nj }) l else l ++ [⟨w.1, w.2, false, 0, nj⟩]

/-- The total of a list of powers or energies. -/
def total (l : List Nat) : Nat := l.foldl (· + ·) 0

/-- The domain of a region, or of the hub (32). -/
def estimateDomain (g : Nat) : Nat := if g < 32 then regionDomain g else 292

/-- The group of a unit outside the clusters (R369): memory 1, flash 2, optical 3, engines and the rest 0 (DEDUCED, log entry 94). -/
def unitGroup (u : Nat) : Nat := match unitClass u with
  | 7 => 1
  | 10 => 1
  | 17 => 2
  | 18 => 2
  | 19 => 2
  | 20 => 3
  | _ => 0

/-- A lock break: a partition is lowered from `old`, at or above the agreed step of a job, to `new` below it (R373). -/
def State.lockBreak (s : State) (old new : Nat) : State :=
  let agreed := s.rd R.pwrStatJobStep 0
  if s.rd R.optCfgJob 0 ≠ 0 ∧ s.fab.agreed ∧ new < agreed ∧ agreed ≤ old then
    (s.inc R.pwrStatLockBreaks 0 1).raise 0x105 (hubSite 0 10) 0x7F1 0 0 0
  else s

/-- Between ticks a region power controller holds its estimate within its share: the partition that draws most there goes one step down in this region, not
below STEP_MIN (R370; which partition is hottest: DESIGN CHOICE, log entry 94). `draw` gives the estimate of each of the region's clusters. -/
def State.holdShare (s : State) (g mw : Nat) (draw : List (Nat × Nat)) : State :=
  let step (cl : Nat) : Nat := ((s.cluster cl).stepPending).getD (s.rd R.pwrDstatStep cl)
  let ps := (draw.filterMap fun e => s.partOf e.1).eraseDups
  let mine (p : Nat) : List (Nat × Nat) := draw.filter fun e => s.partOf e.1 = some p
  let low (p : Nat) : Bool := (mine p).any fun e => decide (s.rd R.pwrPolicyStepMin 0 < step e.1)
  match aget s.power.shares g with
  | none => s
  | some share =>
    if mw ≤ share then s
    else match minBy (fun p => 2 ^ 64 - total ((mine p).map (·.2))) (ps.filter low) with
      | none => s
      | some p => (mine p).foldl (fun s e =>
          let n := ((s.cluster e.1).stepPending).getD (s.rd R.pwrDstatStep e.1)
          if n ≤ s.rd R.pwrPolicyStepMin 0 then s
          else (s.lockBreak n (n - 1)).setCluster e.1 { s.cluster e.1 with stepPending := some (n - 1) }) s

/-- REGION_ESTIMATE: every 10 µs a region, or as region 32 the hub with the optical engines, flash and the conversion losses, estimates its energy
(R368). A term goes to the step or the tasks that its master works for; the rest belongs to no client (R329). -/
def State.estimateRegion (s : State) (g : Nat) (own : List (Nat × Nat)) (shared : List (Nat × Nat × Nat)) (temp : Int) : State :=
  let terms := s.energyTerms g own shared temp
  let e := total (terms.map fun x => x.2.2)
  let outside := terms.filter fun x => 5 < unitClass x.1
  let uses := terms.foldl (fun l x => match x.2.1.bind s.workOf with
    | some w => addUse l w x.2.2
    | none => l) s.power.uses
  let toMw (e : Nat) : Nat := e * s.rd R.pwrEstK 0 / 2 ^ 14 / 10
  let mw := toMw e
  let draw := ((List.range 240).filter fun c => s.physAll c / 8 = g).map fun c =>
    (c, toMw (total ((terms.filter fun x => s.unitCluster g x.1 = some c).map fun x => x.2.2)))
  let s := (s.updPower fun p => { p with estimate := p.estimate + e, groupEst := outside.foldl (fun l x => sset 0 l (unitGroup x.1) (sget 0 l (unitGroup x.1) + x.2.2)) p.groupEst, uses := uses }).wr R.pwrDestMw (estimateDomain g) mw
  let s := (draw.foldl (fun s x => s.wr R.pwrDestMw x.1 x.2) s).holdShare g mw draw
  let s := if g < 32 then s.wr R.pwrDestMw (288 + g / 8) (total ((List.range 8).map fun i => s.rd R.pwrDestMw (regionDomain (g / 8 * 8 + i)))) else s
  s.wr R.pwrDestMw moduleDomain (total ((List.range 5).map fun i => s.rd R.pwrDestMw (288 + i)))

/-- REGION_ESTIMATE. -/
def execRegionEstimate (region : Nat) (own : List (Nat × Nat)) (shared : List (Nat × Nat × Nat)) (temp : Int) (s : State) : Out :=
  .next (s.estimateRegion region own shared temp)

/-- A power scaled from one step to another with f × V² (R369). -/
def State.scalePower (s : State) (p w a b : Nat) : Nat :=
  let q := s.physAll (s.partFirst p)
  w * ((10 + b) * Config.vBase q b ^ 2) / ((10 + a) * Config.vBase q a ^ 2)

/-- The power per cluster of a phase at a step: observed, or scaled from the nearest observed step, the lower of equals. -/
def State.phasePower (s : State) (x : Phase) (n : Nat) : Nat :=
  match aget x.powers n with
  | some w => w
  | none => match minBy (fun e => if e.1 ≤ n then 2 * (n - e.1) else 2 * (e.1 - n) + 1) x.powers with
    | some e => s.scalePower x.part e.2 e.1 n
    | none => 0

/-- predict(p, n): the phase-table power of the partition's next step at step n, in mW; absent keys take the partition's
highest entry; a napping partition predicts 0 (R369, R370). A step without STEP_TAG has no signature before it runs: its key is that of the last such
step (DEDUCED, log entry 94). -/
def State.predict (s : State) (p n : Nat) : Nat :=
  if (s.partClusters p).all s.napping then 0
  else
    let mine := s.power.phases.filter fun x => x.part = p
    let per := match mine.find? fun x => x.tag = (s.part p).phaseKey with
      | some x => s.phasePower x n
      | none => if mine.isEmpty then Config.firstPower p n else (mine.map fun x => s.phasePower x n).foldl Nat.max 0
    per * s.partSize p

/-- The dies of a partition's clusters. -/
def State.partDies (s : State) (p : Nat) : List Nat := ((s.partClusters p).map (· / 60)).eraseDups

/-- ceiling(p) (R372, R373, R376, R403): STEP_MAX, the clusters' STEP_CEIL, the job's agreed step, less what throttling takes;
step 14 only where `boost` allows it. -/
def State.ceilingOf (s : State) (boost : Bool) (p : Nat) : Nat :=
  let m := s.rd R.pwrPolicyStepMax 0
  let m := if boost then m else Nat.min m 13
  let m := (s.partClusters p).foldl (fun m cl => Nat.min m (s.rd R.ageCstatStepCeil (s.physAll cl))) m
  let m := if s.rd R.optCfgJob 0 ≠ 0 ∧ s.fab.agreed then Nat.min m (Nat.min (s.rd R.pwrStatJobStep 0) (s.rd R.pwrStatGrant 0)) else m
  let low := (s.partDies p).foldl (fun v d => Nat.max v (sget 0 s.power.lowered d)) 0
  Nat.max (m - low) (s.rd R.pwrPolicyStepMin 0)

/-- The plan loop of R370; `fuel` bounds the lowerings. -/
def State.planLoop (s : State) (fuel : Nat) (budget : Nat) (steps : List (Nat × Nat)) : List (Nat × Nat) :=
  match fuel with
  | 0 => steps
  | f + 1 =>
    let sum := (steps.map fun e => s.predict e.1 e.2).foldl (· + ·) 0
    if sum ≤ budget then steps
    else
      let low := steps.filter fun e => s.rd R.pwrPolicyStepMin 0 < e.2
      match low.foldl (fun (b : Option (Nat × Nat)) e => match b with
          | none => some e
          | some x => if s.predict x.1 x.2 < s.predict e.1 e.2 then some e else some x) none with
      | none => steps
      | some q => s.planLoop f budget (steps.map fun e => if e.1 = q.1 then (e.1, e.2 - 1) else e)

/-- The enabled partitions in order. -/
def State.enabledParts (s : State) : List Nat := (List.range 64).filter s.partEn

/-- The fixed load in mW: the highest value over the last 100 ms of engine, memory, flash and optical power each (R369). -/
def State.fixedLoad (s : State) : Nat :=
  total ((List.range 4).map fun k => ((s.power.fixed.filter fun e => decide (s.now - e.1 < 10 ^ 8)).map fun e => sget 0 e.2 k).foldl Nat.max 0)

/-- The budget in mW: cap less margin less fixed load. -/
def State.budget (s : State) : Nat := 1000 * (s.rd R.pwrCapEffective 0 - s.rd R.pwrPolicyMargin 0) - s.fixedLoad

/-- A plan of R370: one step per enabled partition. Step 14 needs a plan that fits at step 14 and every die 10 °C below
T_THROTTLE (R372); in HOLD every partition is planned at STEP_MIN (R375). -/
def State.planSteps (s : State) (cool : Bool) : List (Nat × Nat) :=
  let ps := s.enabledParts
  if s.isSet R.pwrStatHold 0 then ps.map fun p => (p, s.rd R.pwrPolicyStepMin 0)
  else
    let top := ps.map fun p => (p, s.ceilingOf true p)
    let fits := decide ((top.map fun e => s.predict e.1 e.2).foldl (· + ·) 0 ≤ s.budget)
    s.planLoop (15 * 64) s.budget (if cool && fits then top else ps.map fun p => (p, s.ceilingOf false p))

/-- Takes a plan into force: each cluster whose step differs changes at its next synchronisation point (R23, R371); regions
receive their shares; a partition lowered below the agreed step is a lock break (R373). -/
def State.applyPlan (s : State) (plan : List (Nat × Nat)) : State :=
  let used := (plan.map fun e => s.predict e.1 e.2).foldl (· + ·) 0
  let budget := s.budget
  let old := s.power.plan
  let shares := (List.range 32).filterMap fun g =>
    let mine := (List.range 240).filter fun cl => s.physAll cl / 8 = g
    let own := (mine.map fun cl => match plan.find? (fun e => s.partOf cl = some e.1) with
      | some e => s.predict e.1 e.2 / s.partSize e.1
      | none => 0).foldl (· + ·) 0
    let v := own + (budget - used) * mine.length / 240
    if v = 0 then none else some (g, v)
  let s := s.updPower fun p => { p with plan := plan.map fun e => (e.1, e.2 + 1), shares := shares }
  plan.foldl (fun s e =>
    let s := s.lockBreak (sget (s.rd R.pwrStatJobStep 0 + 1) old e.1 - 1) e.2
    (s.partClusters e.1).foldl (fun s cl =>
      let n := Nat.min e.2 (s.rd R.ageCstatStepCeil (s.physAll cl))
      let c := s.cluster cl
      if s.rd R.pwrDstatStep cl = n then (if c.stepPending.isSome then s.setCluster cl { c with stepPending := none } else s)
      else s.setCluster cl { c with stepPending := some n }) s) s

/-- Calibration (R368): K in units of 2^-14, clamped to 0.80 to 1.25, and whether it was clamped. -/
def calibrate (measured estimate old : Nat) : Nat × Bool :=
  if estimate = 0 then (old, false)
  else
    let k := measured * 2 ^ 14 / estimate
    if k < 13108 then (13108, true) else if 20480 < k then (20480, true) else (k, false)

/-- The requests of rows with their weights, in row order. -/
def rowShares (rows : List StepRow) : List (ReqKey × Nat) :=
  ((rows.map fun r => ((r.client, r.req) : ReqKey)).eraseDups).map fun k =>
    (k, total ((rows.filter fun r => (r.client, r.req) = k).map (·.macs)))

/-- Splits an amount in proportion to MACs, rounded down; the remainder goes to the request of row 0 (R328). -/
def splitTotal (rows : List StepRow) (amount : Nat) : List (ReqKey × Nat) :=
  let ws := rowShares rows
  let sum := total (ws.map (·.2))
  let parts := ws.map fun w => (w.1, if sum = 0 then 0 else amount * w.2 / sum)
  let rest := amount - total (parts.map (·.2))
  match parts with
  | [] => []
  | x :: l => (x.1, x.2 + rest) :: l

/-- Charges the requests of rows with their shares of an amount. -/
def State.chargeRows (s : State) (rows : List StepRow) (amount : Nat) (f : Nat → Acct → Acct) : State :=
  (splitTotal rows amount).foldl (fun s e => s.charge e.1.1 (f e.2)) s

/-- Is the use over: its step has ended, or no engine runs a task of its request? -/
def State.useOver (s : State) (u : EnergyUse) : Bool :=
  if u.step.isSome then u.ended
  else
    let key (c q : Nat) : Bool := u.rows = [taskRow (c, q)]
    !(s.walks.any (fun w => w.walker.isSome && key w.client w.req) || s.bags.any (fun b => b.unit.isSome && key b.client b.req) ||
      s.tasks.any (fun t => t.engine.isSome && key t.client t.req) || s.probes.any (fun x => x.engine.isSome && key x.client x.req) ||
      s.parts.any fun (e : Nat × Part) => e.2.sampling.any fun l => !l.done && key l.client l.req)

/-- Posts a use that is over: split by MACs among its clients; what is done for other modules counts in ACC_FOREIGN too (R330, R331; DEDUCED, log entry 93).
-/
def State.postUse (s : State) (u : EnergyUse) : State :=
  let foreign := total (((splitTotal u.rows u.uj).filter fun e => 4096 ≤ e.1.1).map (·.2))
  (s.chargeRows u.rows u.uj fun n a => { a with energyUj := a.energyUj + n }).inc R.accForeignUjUj 0 foreign

/-- The energy of a window of `measured` µJ (R329): what each step and task was estimated to use is scaled by measured ÷ estimated, the remainder goes to
ACC_OVERHEAD, and what is over is posted (R331). -/
def State.chargeEnergy (s : State) (measured : Nat) : State :=
  let est := s.power.estimate
  let scale (e : Nat) : Nat := if est = 0 then 0 else e * measured / est
  let uses := s.power.uses.map fun u => { u with uj := u.uj + scale u.nj, nj := 0 }
  let s := s.inc R.accOverheadUj 0 (measured - total (s.power.uses.map fun u => scale u.nj))
  let s := (uses.filter s.useOver).foldl State.postUse s
  s.updPower fun p => { p with estimate := 0, groupEst := [], uses := uses.filter fun u => !s.useOver u, lastMeas := measured }

/-- The thermal levels at a tick (R376): throttling lowers the hottest die's partitions by one step per tick until 3 °C below;
hold ends 5 °C below. -/
def State.thermalTick (s : State) (temps : List Int) (hub : Int) : State :=
  let all := temps ++ [hub]
  let hot := all.foldl max hub
  let die := ((List.range temps.length).find? fun i => temps.getD i hub = hot).map (· / 8)
  let lvl := s.rd R.pwrStatTherm 0
  let s := if lvl = 2 ∧ hot ≤ (s.rd R.pwrPolicyTHold 0 : Int) - 5 then
      ((s.putBoard { s.board with thermAlert := false }).wr R.pwrStatTherm 0 1) else s
  let lvl := s.rd R.pwrStatTherm 0
  if lvl = 0 ∨ lvl = 3 then s
  else if lvl = 1 ∧ hot ≤ (s.rd R.pwrPolicyTThrottle 0 : Int) - 3 then
    (s.updPower fun p => { p with lowered := [] }).wr R.pwrStatTherm 0 0
  else match die with
    | some d => s.updPower fun p => { p with lowered := sset 0 p.lowered d (Nat.min 15 (sget 0 p.lowered d + 1)) }
    | none => s

/-- GOVERNOR_TICK: every 1 ms the governor calibrates, accounts and replans (R367 to R373, R376). `measured` is the mean input
power of the window in W; temperatures are in °C, region by region, and the hub's. -/
def State.governorTick (s : State) (measured : Nat) (temps : List Int) (hub : Int) : State :=
  let s := s.wr R.pwrCapEffective 0 s.effectiveCap
  let est := s.power.estimate
  let oldK := s.rd R.pwrEstK 0
  let k := calibrate (measured * 10 ^ 6) est oldK
  let s := ((s.wr R.pwrEstMeas 0 measured).wr R.pwrEstEst 0 (est * oldK / 2 ^ 14 / 10 ^ 6)).wr R.pwrEstK 0 k.1
  let s := if k.2 then s.raise 0x106 (hubSite 0 10) 0x7F1 0 0 0 else s
  let fixed := s.power.groupEst.map fun e => (e.1, e.2 * k.1 / 2 ^ 14 / 1000)
  let under := if measured < s.rd R.pwrCapEffective 0 then some (s.power.underSince.getD s.now) else none
  let s := (s.updPower fun p => { p with underSince := under
                                         fixed := (s.now, fixed) :: p.fixed.filter fun e => decide (s.now - e.1 < 10 ^ 8) })
  let s := (s.chargeEnergy (measured * 1000)).thermalTick temps hub
  let cool := (hub :: temps).all fun t => decide (t + 10 ≤ (s.rd R.pwrPolicyTThrottle 0 : Int))
  (s.updPower fun p => { p with cool := cool }).applyPlan (s.planSteps cool)

/-- GOVERNOR_TICK. -/
def execGovernorTick (measured : Nat) (temps : List Int) (hubTemp : Int) (s : State) : Out :=
  .next (s.governorTick measured temps hubTemp)

/-- FREQ_STEP_CHANGE: a cluster stopped at a synchronisation point or in Nap takes its pending step; the change holds the
sequencer for 8 cycles (R23, R371). At any other moment the change waits. -/
def State.stepChange (s : State) (cl : Nat) : State :=
  let c := s.cluster cl
  match c.stepPending, c.held with
  | some n, some i =>
    (s.setCluster cl { (if s.napping cl then c else c.waited (heldKind i) 8) with stepPending := none }).setFreqStep cl n
  | _, _ => s

/-- FREQ_STEP_CHANGE. -/
def execFreqStepChange (cl : Nat) (s : State) : Out := .next (s.stepChange cl)

/-- The transfers of a cluster that run: the oldest of each engine that is not complete. -/
def Cluster.markRunning (c : Cluster) : Cluster :=
  { c with xfers := (List.range 4).foldl (fun l e => modFirst (fun y => y.engine = e && !y.complete) (fun y => { y with started := true }) l) c.xfers }

/-- Enters HOLD: begin messages are withheld, stream engines start no transfer, and every partition is planned at STEP_MIN (R375). -/
def State.enterHold (s : State) : State :=
  if s.isSet R.pwrStatHold 0 then s
  else
    let s := s.putClusters (s.clusters.map fun (e : Nat × Cluster) => (e.1, e.2.markRunning))
    let s := ((s.updPower fun p => { p with underSince := none }).wr R.pwrStatHold 0 1).raise 0x101 (hubSite 0 10) 0x7F1 0 0 0
    s.applyPlan (s.planSteps false)

/-- OVER_POWER_SIGNAL. -/
def execOverPowerSignal (s : State) : Out := .next s.enterHold

/-- HOLD_END: the measured power has stayed below the cap for 1 ms, and no thermal hold is in force (R375, R376). -/
def State.holdEnd (s : State) : State :=
  match s.power.underSince with
  | some t => if s.isSet R.pwrStatHold 0 ∧ 10 ^ 6 ≤ s.now - t ∧ s.rd R.pwrStatTherm 0 < 2 then s.wr R.pwrStatHold 0 0 else s
  | none => s

/-- HOLD_END. -/
def execHoldEnd (s : State) : Out := .next s.holdEnd

/-- THERM_THROTTLE: the hottest sensor is at or above T_THROTTLE; reported once on entry (R376). -/
def State.thermThrottle (s : State) (hot : Int) : State :=
  if (s.rd R.pwrPolicyTThrottle 0 : Int) ≤ hot ∧ s.rd R.pwrStatTherm 0 < 1 then
    (s.wr R.pwrStatTherm 0 1).raise 0x102 (hubSite 0 10) 0x7F1 0 0 0
  else s

/-- THERM_THROTTLE. -/
def execThermThrottle (hottest : Int) (s : State) : Out := .next (s.thermThrottle hottest)

/-- THERM_HOLD: HOLD as for over-power, with THERM_ALERT_N asserted. -/
def State.thermHold (s : State) (hot : Int) : State :=
  if (s.rd R.pwrPolicyTHold 0 : Int) ≤ hot ∧ s.rd R.pwrStatTherm 0 < 2 then
    ((s.putBoard { s.board with thermAlert := true }).wr R.pwrStatTherm 0 2 |>.raise 0x103 (hubSite 0 10) 0x7F1 0 0
      0).enterHold
  else s

/-- THERM_HOLD. -/
def execThermHold (hottest : Int) (s : State) : Out := .next (s.thermHold hottest)

/-- The compute dies are powered off at once. -/
def State.diesOff (s : State) : State :=
  (s.putPower { s.power with diesOn := false }).putClusters (s.clusters.map fun (e : Nat × Cluster) => (e.1, { e.2 with stopped := true }))

/-- THERM_TRIP: compute dies off at once and a fatal fault, until a module reset. -/
def State.thermTrip (s : State) (hot : Int) : State :=
  if (s.rd R.pwrPolicyTTrip 0 : Int) ≤ hot ∧ s.rd R.pwrStatTherm 0 < 3 then
    (((s.putBoard { s.board with thermAlert := true }).wr R.pwrStatTherm 0 3).raise 0x104 (hubSite 0 10) 0x7F1 0 0
      0).diesOff
  else s

/-- THERM_TRIP. -/
def execThermTrip (hottest : Int) (s : State) : Out := .next (s.thermTrip hottest)

end Sys2Proof.Machine
end

