-- ==== Sys2Proof/Machine/Programs.lean ====
section
/-! DEFINITION. Program images (05_cluster_programs.md R109, R110): their checks when OP_OBJECT_LOAD loads one, and the loading
of code, port bindings and preload sections into a partition's clusters. -/

namespace Sys2Proof.Machine

/-- A field of a program header (Table CLUS-11). -/
def prgClusters (img : List Byte) : Nat := fieldLe img 6 2

/-- The program digest (Table CLUS-11). -/
def prgDigest (img : List Byte) : List Byte := slice img 16 32

/-- A section entry (R109): type, cluster index, offset, length. -/
structure SectionEntry where
  typ : Nat
  cluster : Nat
  off : Nat
  len : Nat
  deriving DecidableEq, Repr

/-- The section entries that follow the header. -/
def prgSections (img : List Byte) : List SectionEntry :=
  (List.range (Nat.min (fieldLe img 12 4) (img.length / 16))).map fun i =>
    let o := 64 + 16 * i
    ⟨fieldLe img o 1, fieldLe img (o + 1) 1, fieldLe img (o + 4) 4, fieldLe img (o + 8) 8⟩

/-- The sections of a type that apply to cluster index `i`. -/
def prgFor (img : List Byte) (typ i : Nat) : List (List Byte) :=
  ((prgSections img).filter fun x => x.typ = typ && (x.cluster = i || x.cluster = 0xFF)).map fun x => slice img x.off x.len

/-- The instructions of a cluster. -/
def prgCode (img : List Byte) (i : Nat) : List Nat := ((prgFor img 1 i).flatten |> chunks 8).map leNat

/-- One port-binding entry: [7:0] cluster index, [10:8] its port, [27:16] STREAM, [63] bound. Entries 0-7 are the output ports,
8-15 the input ports. The manual gives the entries' size and not their layout (DESIGN CHOICE, log entry 16). -/
def prgBinding (img : List Byte) (i k : Nat) : Option (Nat × Nat × Nat) :=
  let e := fieldLe ((prgFor img 2 i).flatten) (8 * k) 8
  if bitOf e 63 then some (bitsOf e 7 0, bitsOf e 10 8, bitsOf e 27 16) else none

/-- The preloads of a cluster: scratch address and bytes. An address is its low 23 bits, and bytes past the end of scratch go on at its start (DESIGN CHOICE,
log entry 83: R109 and R110 say nothing of a preload that lies at or beyond 8 MiB). -/
def prgPreloads (img : List Byte) (i : Nat) : List (Nat × List Byte) :=
  (prgFor img 3 i).map fun b => (fieldLe b 0 8 % 2 ^ 23, (b.drop 8).take (2 ^ 23))

/-- The preloaded byte at a scratch address: sections are placed in the order of their entries, so that a later one stands. -/
def preloadByte (pre : List (Nat × List Byte)) (a : Nat) : Option Byte :=
  (pre.reverse.find? fun e => decide ((a + 2 ^ 23 - e.1) % 2 ^ 23 < e.2.length)).map fun e => e.2.getD ((a + 2 ^ 23 - e.1) % 2 ^ 23) 0

/-- The bits an opcode's fields use, [63:56] aside (Table CLUS-2); none for a reserved opcode. -/
def opcodeMask (op : Nat) : Option Nat :=
  let hi := (2 ^ 23 - 1) * 2 ^ 32
  match op with
  | 0x01 => some (2 ^ 23 - 1)
  | 0x02 => some (2 ^ 23 - 1)
  | 0x10 => some (hi + 0xF01)
  | 0x11 => some (hi + 0xFF0103)
  | 0x12 => some (hi + 0xFFFFFFFF)
  | 0x13 => some (hi + 0xFF0000)
  | 0x20 => some (2 ^ 23 - 1)
  | 0x30 => some (hi + 3)
  | 0x31 => some 0x3F00FF
  | 0x32 => some (hi + 0x3F07)
  | 0x33 => some (hi + 7)
  | 0x40 => some 0xFFFF0FFF
  | 0x41 => some 0xFFFF
  | 0x42 => some (hi + 3)
  | 0x43 => some 0
  | 0x50 => some 0
  | 0x51 => some 0
  | 0x60 => some 0
  | _ => none

/-- The command that a 64-bit instruction word of cluster `cl` is, with its operands (Table CLUS-2); none for a reserved opcode, bit or value. -/
def decodeInstr (cl w : Nat) : Option Instr :=
  let f := bitsOf w
  let b (i : Nat) : Bool := bitOf w i
  match opcodeMask (f 63 56) with
  | none => none
  | some m =>
    if w % 2 ^ 56 &&& m ≠ w % 2 ^ 56 then none
    else match f 63 56 with
      | 0x01 => some (.setstep cl (f 22 0))
      | 0x02 => some (.setpair cl (f 22 0))
      | 0x10 => some (.wload cl (f 54 32) (f 11 8) (b 0))
      | 0x11 => some (.mma cl (f 54 32) (f 23 16) (b 8) (b 1) (b 0))
      | 0x12 => some (.lmv cl (f 54 32) (f 31 24) (f 23 12 + 1) (f 11 2 * 8192) (b 1) (b 0))
      | 0x13 => some (.pacc cl (f 54 32) (f 23 16))
      | 0x20 => some (.vop cl (f 22 0))
      | 0x30 => some (.stream cl (f 54 32) (f 1 0))
      | 0x31 => if 1 ≤ f 7 0 ∧ f 7 0 ≤ 64 then some (.waitt cl (f 21 16) (f 7 0)) else none
      | 0x32 => if f 13 8 ≤ 32 then some (.send cl (f 54 32) (f 13 8) (f 2 0)) else none
      | 0x33 => some (.recv cl (f 54 32) (f 2 0))
      | 0x40 => some (.loop cl (f 31 16 + 1) (f 11 0))
      | 0x41 => some (.nop cl (f 15 0 + 1))
      | 0x42 => some (.page cl (f 54 32) (f 1 0))
      | 0x43 => some (.jpage cl)
      | 0x50 => some (.stepEnd cl)
      | 0x51 => some (.stepBegin cl)
      | 0x60 => some (.wait cl)
      | _ => none

/-- The command of the word that a cluster's sequencer issues next, from its executing page (R99). -/
def State.nextWord (s : State) (cl : Nat) : Option Instr :=
  let c := s.cluster cl
  decodeInstr cl (sget 0 c.imem (4096 * c.page + c.pc)).toNat

/-- Is an instruction free of reserved opcodes, bits and values (R98, R110)? -/
def goodInstr (w : Nat) : Bool := (decodeInstr 0 w).isSome

/-- Loops nest at most 4 deep and a body ends no later than the body that encloses it (R99); `ends` holds the open bodies. -/
def goodLoops (i : Nat) (ends : List Nat) (code : List Nat) : Bool :=
  match code with
  | [] => true
  | w :: r =>
    let ends := ends.dropWhile fun e => decide (e ≤ i)
    if bitsOf w 63 56 = 0x40 then
      let e := i + 1 + bitsOf w 11 0
      decide (ends.length < 4) && (ends.all fun x => decide (e ≤ x)) && goodLoops (i + 1) (e :: ends) r
    else goodLoops (i + 1) ends r

/-- The preloaded bytes at a scratch address, where preloads cover them all. -/
def preloadAt (pre : List (Nat × List Byte)) (a n : Nat) : Option (List Byte) :=
  let l := (List.range n).map fun i => preloadByte pre ((a + i) % 2 ^ 23)
  if l.all Option.isSome then some (l.filterMap id) else none

/-- The mode that R51 sets by a step's two formats; none for a pairing R65 does not allow. -/
def modeOf (a w : Nat) : Option Nat :=
  match fmtFamily a, fmtFamily w with
  | .bf16, .bf16 => some 2
  | .bf16, _ => none
  | _, .bf16 => none
  | .fp4, .fp4 => some 1
  | _, _ => some 0

/-- Does a step descriptor keep R7, Table CLUS-4, Table MATX-3, R51, R65 and R66? -/
def goodStep (d : List Byte) : Bool :=
  decide (dbits d 255 160 = 0) && decide (dbits d 127 115 = 0) && decide (dbits d 95 81 = 0) && decide (dbits d 63 48 = 0) &&
  decide (dbits d 19 19 = 0) && decide (sdMode d ≤ 2) && decide (sdA d ≤ 0xB) && decide (sdW d ≤ 0xB) && decide (sdOut d ≤ 4) &&
  decide (modeOf (sdA d) (sdW d) = some (sdMode d)) && (!sdLane d || (decide (sdM d ≤ 8) && sdMode d ≠ 2)) &&
  (sdMode d ≠ 2 || (!sdRs d && !sdCs d && !sdTs d && decide (sdGk d = 1)))

/-- Does a pair record keep R7 and Table CLUS-5? -/
def goodPair (p : List Byte) : Bool :=
  decide (dbits p 255 215 = 0) && decide (dbits p 191 183 = 0) && decide (dbits p 159 159 = 0) &&
  decide (dbits p 155 149 = 0) && decide (dbits p 143 139 = 0) && decide (dbits p 95 87 = 0) && decide (dbits p 31 24 = 0) &&
  decide (dbits p 15 8 = 0) && decide (dbits p 46 44 = 0) && decide (prOut p % 16 = 0) && decide (prStride p % 16 = 0)

/-- Does a vector descriptor keep its layout (R100): a TOPK that of Table RANK-8, with every identifier below 0xFFFF_FFFF (R137), any other no reserved
bit and no reserved format? -/
def goodVec (d : List Byte) : Bool :=
  decide (dbits d 95 87 = 0) && decide (dbits d 127 119 = 0) && decide (dbits d 159 151 = 0) && decide (dbits d 183 183 = 0) &&
  (if dbits d 7 0 = 0x40 then
     decide (dbits d 118 96 = 0) && decide (dbits d 150 128 = 0) && decide (dbits d 182 160 % 16 = 0) && decide (dbits d 199 184 = 0) &&
     decide (dbits d 215 213 ≤ 2) && decide (dbits d 255 216 = 0) && decide (dbits d 63 32 + dbits d 31 8 < 0xFFFFFFFF)
   else
     decide (dbits d 63 32 = 0) && decide (dbits d 255 200 = 0) && !decide (12 ≤ dbits d 187 184 ∧ dbits d 187 184 ≤ 14) &&
     !decide (12 ≤ dbits d 191 188 ∧ dbits d 191 188 ≤ 14))

/-- Is a word a STEP_BEGIN? -/
def isStepBegin (w : Nat) : Bool := bitsOf w 63 56 = 0x51

/-- A cluster's code with its loops unrolled (R99): a body as often as LOOP says where it holds a STEP_BEGIN, else twice, after which it names nothing new.
`fuel` is the length of the code. -/
def unroll (fuel : Nat) (code : List Nat) : List Nat :=
  match fuel, code with
  | 0, _ => []
  | _, [] => []
  | f + 1, w :: r =>
    if bitsOf w 63 56 = 0x40 then
      let n := bitsOf w 11 0
      let body := unroll f (r.take n)
      let turns := bitsOf w 31 16 + 1
      (List.replicate (if body.any isStepBegin then turns else Nat.min turns 2) body).flatten ++ unroll f (r.drop n)
    else w :: unroll f r

/-- What a reading of unrolled code has found: its steps and their descriptors, the last first; the base of the pair table; the step descriptor that holds. -/
structure StepScan where
  steps : List (List (Nat × List Nat))
  base : Nat
  desc : Option Nat
  deriving DecidableEq, Repr

/-- A pair record is used by the descriptor that holds: the one named last, in an earlier step it may be. -/
def StepScan.pair (x : StepScan) (p : Nat) : StepScan :=
  let a := x.base + 32 * p
  match x.steps, x.desc with
  | (e :: es) :: r, _ => { x with steps := ((e.1, if a ∈ e.2 then e.2 else e.2 ++ [a]) :: es) :: r }
  | [] :: r, some d => { x with steps := [(d, [a])] :: r }
  | _, _ => x

/-- One word. -/
def StepScan.word (x : StepScan) (w : Nat) : StepScan := match decodeInstr 0 w with
  | some (.stepBegin _) => { x with steps := [] :: x.steps }
  | some (.setstep _ a) => { x with desc := some a, steps := match x.steps with
      | [] => []
      | l :: r => ((a, []) :: l) :: r }
  | some (.setpair _ a) => { x with base := a }
  | some (.mma _ _ p _ _ _) => x.pair p
  | some (.lmv _ _ p _ _ _ _) => x.pair p
  | some (.pacc _ _ p) => x.pair p
  | _ => x

/-- The steps of a cluster's code in order, loops unrolled: for each STEP_BEGIN the step descriptors that hold in it, each with its address and the
pair-record addresses used. A cluster that is gated in a step has none there (R61;
DEDUCED, log entry 71: STEP_BEGINs are counted, and one without a SETSTEP keeps its descriptor). -/
def prgSteps (code : List Nat) : List (List (Nat × List Nat)) :=
  (((unroll code.length code).foldl StepScan.word ⟨[], 0, none⟩).steps.map List.reverse).reverse

/-- A preloaded pair record of a program outside check slots, in its step: the number of the step and its preloaded descriptor, the output tile and
cluster tile, and whether it is the owner's. -/
structure PairUse where
  step : Nat
  desc : Option (List Byte)
  ot : Nat
  ct : Nat
  owner : Bool
  deriving DecidableEq, Repr

/-- The preloaded pair records of a program outside check slots. Steps of different clusters are one step where they follow the same STEP_BEGIN and name
equal descriptors (DEDUCED, log entry 71). -/
def prgPairs (img : List Byte) : List PairUse :=
  (List.range (prgClusters img)).flatMap fun i =>
    let pre := prgPreloads img i
    let steps := prgSteps (prgCode img i)
    (List.range steps.length).flatMap fun k => (steps.getD k []).flatMap fun st =>
      (st.2.filter fun a => (checkSlot a).isNone).filterMap fun a =>
        (preloadAt pre a 32).map fun p => ⟨k, preloadAt pre st.1 32, prOt p, prCt p, prOwner p⟩

/-- Every output tile and cluster tile of a step has exactly one owner among the preloaded records (R59). A LANE step whose four groups of 64 columns of
one cluster tile are owned by four records is refused with them: R59 counts one owner for each cluster tile (DEDUCED, log entry 71). A tile of which the
preloads hold no record has no owner to count: its records may be written later (DESIGN CHOICE, log entry 83: R110 speaks of the pair records of a preload
section). -/
def goodOwners (img : List Byte) : Bool :=
  let ps := prgPairs img
  ps.all fun x => decide ((ps.filter fun y => decide ((y.step, y.desc, y.ot, y.ct) = (x.step, x.desc, x.ot, x.ct)) && y.owner).length = 1)

/-- Every output binding names a cluster of the program and is matched by its peer's input binding (R110). -/
def goodBindings (img : List Byte) : Bool :=
  (List.range (prgClusters img)).all fun i => (List.range 16).all fun k =>
    match prgBinding img i k with
    | none => true
    | some (j, p, st) =>
      decide (j < prgClusters img) &&
        (if k < 8 then decide (prgBinding img j (8 + p) = some (i, k, st)) else decide (prgBinding img j p = some (i, k - 8, st)))

/-- The checks of R110 for a partition of `size` clusters. KG of a preloaded pair record lies below the G_K of its step (Table CLUS-5; DEDUCED, log entry 83).
-/
def goodProgram (img : List Byte) (size : Nat) : Bool :=
  decide (fieldLe img 0 4 = 0x47425250) && decide (fieldLe img 4 2 = 1) && decide (fieldLe img 8 4 = img.length) &&
  decide (leNat (slice img 48 16) = 0) &&
  decide (prgDigest img = digest256 (img.take 16 ++ List.replicate 32 0 ++ img.drop 48)) &&
  decide (prgClusters img = size) && goodBindings img &&
  ((prgSections img).all fun x => decide (1 ≤ x.typ) && decide (x.typ ≤ 3) &&
    (decide (x.cluster < prgClusters img) || decide (x.cluster = 0xFF)) && decide (x.off + x.len ≤ img.length)) &&
  ((List.range (prgClusters img)).all fun i =>
    let code := prgCode img i
    let pre := prgPreloads img i
    code.all goodInstr && goodLoops 0 [] code &&
      (code.all fun w => match decodeInstr 0 w with
        | some (.vop _ a) => (match preloadAt pre a 32 with
          | some d => goodVec d
          | none => true)
        | _ => true) &&
      ((prgSteps code).flatten.all fun st =>
        (match preloadAt pre st.1 32 with
         | some d => goodStep d
         | none => true) &&
        st.2.all fun a => match preloadAt pre a 32 with
          | some p => goodPair p && ((checkSlot a).isSome || match preloadAt pre st.1 32 with
            | some d => decide (prKg p < sdGk d)
            | none => true)
          | none => true)) &&
  goodOwners img

/-- Loads code, bindings and preloads into one cluster: the first two pages of the code (R99); the hub maps cluster indices to logical clusters (R110). -/
def Cluster.load (c : Cluster) (img : List Byte) (first i : Nat) : Cluster :=
  let code := prgCode img i
  let outs : Sparse PortBind := (List.range 8).filterMap fun k =>
    (prgBinding img i k).map fun b => (k, ⟨first + b.1, b.2.1, b.2.2⟩)
  let ins : Sparse (Nat × Nat) := (List.range 8).filterMap fun k =>
    (prgBinding img i (8 + k)).map fun b => (k, first + b.1, b.2.1)
  let c := (prgPreloads img i).foldl (fun c e => (c.writeS e.1 (e.2.take (2 ^ 23 - e.1))).writeS 0 (e.2.drop (2 ^ 23 - e.1))) c
  { c with
    imem := (List.range (Nat.min 8192 code.length)).foldl (fun m k => sset 0 m k (BitVec.ofNat 64 (code.getD k 0))) []
    page := 0
    pc := 0
    loops := []
    outBind := outs
    inBind := ins }

/-- Loads a program into every cluster of a partition. -/
def State.loadProgram (s : State) (p : Nat) (img : List Byte) : State :=
  (List.range (s.partSize p)).foldl (fun s i =>
    let cl := s.partFirst p + i
    s.setCluster cl { (s.cluster cl).load img (s.partFirst p) i with stopped := false }) s

/-- Reloads the partition's program, where one is loaded. -/
def State.reloadProgram (s : State) (p : Nat) : State :=
  match (s.part p).program with
  | none => (s.partClusters p).foldl (fun s cl => s.setCluster cl { s.cluster cl with stopped := false }) s
  | some o => match aget s.objs o with
    | some x => s.loadProgram p x.image
    | none => s

/-- An object. -/
def State.obj? (s : State) (o : Nat) : Option Obj := aget s.objs o

/-- The program step that matrix step number `step` runs, as (index, index of SETSTEP): the program's steps take turns. -/
def State.programStep (s : State) (p i step : Nat) : Option (Nat × List Nat) :=
  match (s.part p).program.bind s.obj? with
  | none => none
  | some o =>
    let l := prgSteps (prgCode o.image i)
    if l.isEmpty then none else (l[(step - 1) % l.length]?).bind List.head?

/-- The step descriptor of a matrix step: the first a cluster names. -/
def State.stepDescOf (s : State) (p step : Nat) : Option (List Byte) :=
  (List.range (s.partSize p)).findSome? fun i => (s.programStep p i step).map fun e => ((s.cluster (s.partFirst p + i)).readS e.1 32).1

/-- STEP_END; once a partition's last cluster is done the governor looks up the key of the partition's next step in the program's step list (R370). -/
def State.stepEndAll (s : State) (cl : Nat) : State :=
  let s := s.stepEnd cl
  match s.partOf cl with
  | none => s
  | some p =>
    if (s.partClusters p).any fun c => (s.cluster c).inStep then s
    else
      let s := s.setPart p { s.part p with nextTag := ((s.stepDescOf p ((s.part p).steps + 1)).map sdTag).getD 0 }
      let key := (s.part p).phaseKey
      s.updPower fun w => { w with phases := w.phases.map fun x => if x.part = p && x.tag = key then { x with used := s.now } else x }

/-- STEP_END. -/
def execStepEnd (cl : Nat) (s : State) : Out := .next (s.stepEndAll cl)

end Sys2Proof.Machine
end

