-- ==== Sys2Proof/Machine/Restart.lean ====
section
/-! DEFINITION. Cluster remapping, the logs, the end of a partition reset, the return from Watch and the module reset
(02_seven_levels.md R31, 15_tenancy.md R333, 16_boot_config.md R343, R350, 17_power.md R364). -/

namespace Sys2Proof.Machine

/-! ## Logs (R343) -/

/-- Type of a retirement-log entry; the manual gives no numbers (DESIGN CHOICE, log entry 20). -/
def logRetired : Nat := 1
/-- Type of an event-log entry of a fault message. -/
def logFault : Nat := 2
/-- Type of an event-log entry of a start-up event. -/
def logStart : Nat := 3
/-- Type of an ageing-log entry. -/
def logAge : Nat := 4

/-- A log entry of now. -/
def State.logEntry (s : State) (typ site : Nat) (payload : List Byte) : LogEntry :=
  ⟨typ, site, sget 0 s.nor.counters 3, s.now, padTo 44 payload⟩

/-- Appends to the retirement log, which never wraps. The payload, which the manual leaves open (DESIGN CHOICE, log entry 20), is 0 and the
sub-index for a retirement, or 1, the logical cluster and the physical cluster it moved to (0xFF: none) for a map change. -/
def State.logRetire (s : State) (site : Nat) (payload : List Byte) : State :=
  s.putNor { s.nor with retireLog := s.nor.retireLog ++ [s.logEntry logRetired site payload] }

/-- Appends to the event log; when its 245,760 entries are full the oldest 64 KiB block of 1,024 is erased. -/
def State.logEvent (s : State) (typ site : Nat) (payload : List Byte) : State :=
  let l := s.nor.eventLog
  let l := if 245760 ≤ l.length then l.drop 1024 else l
  s.putNor { s.nor with eventLog := l ++ [s.logEntry typ site payload] }

/-- Appends to the ageing log, 65,536 entries in 64 KiB blocks: before the oldest block is erased, the most recent plan of each
cluster that it holds is rewritten. -/
def State.logAgeing (s : State) (e : LogEntry) : State :=
  let l := s.nor.ageLog
  let l := if l.length < 65536 then l
    else
      let rest := l.drop 1024
      rest ++ (l.take 1024).foldl (fun (k : List LogEntry) x =>
        if rest.any fun y => y.site = x.site then k else k.filter (fun y => y.site ≠ x.site) ++ [x]) []
  s.putNor { s.nor with ageLog := l ++ [e] }

/-- The 64 bytes of a log entry, its CRC-32C last (R343). -/
def LogEntry.bytes (e : LogEntry) : List Byte :=
  let b := leBytes 2 e.typ ++ leBytes 2 e.site ++ leBytes 4 e.start ++ leBytes 8 e.time ++ padTo 44 e.payload
  b ++ leBytes 4 (crc32c b)

/-- The 16 bytes of a fault message (Table HLTH-1). -/
def faultBytes (m : FaultMsg) : List Byte :=
  leBytes 16 (m.site % 2 ^ 16 + m.master % 2 ^ 12 * 2 ^ 16 + m.outcome % 4 * 2 ^ 32 + m.access % 16 * 2 ^ 34 +
    m.kind % 2 ^ 10 * 2 ^ 38 + m.addr % 2 ^ 48 * 2 ^ 48 + m.time % 2 ^ 32 * 2 ^ 96)

/-! ## Spares and remapping (R29 to R31) -/

/-- The site that names a physical cluster: its sequencer's. -/
def physSite (q : Nat) : Nat := site (q / 64) (q % 64 / 8) (q % 8) 5 0


/-- The good physical clusters of die `d` that the map does not use and that are not retired. -/
def State.spareList (s : State) (d : Nat) : List Nat :=
  (List.range 64).filter fun p => bitOf (s.rd R.cfgGoodMask d) p && (s.logicalOf (64 * d + p)).isNone &&
    !s.unitRetired (physSite (64 * d + p)) 0

/-- CFG_SPARES.Dd_SPARES. -/
def sparesFld (d : Nat) : Fld := ⟨R.cfgSparesD0Spares.off, .array, 8 * d + 3, 8 * d⟩
/-- CFG_SPARES.Dd_RETIRED. -/
def retiredFld (d : Nat) : Fld := ⟨R.cfgSparesD0Spares.off, .array, 8 * d + 7, 8 * d + 4⟩
/-- CFG_CLMAP.ENTi. -/
def clmapFld (i : Nat) : Fld := ⟨R.cfgClmapEnt0.off, .array, 8 * i + 7, 8 * i⟩

/-- Moves a logical cluster's entry to the lowest spare of its region, else of its die, and records it (R31). Without a spare
the entry stays and its partition has an unmapped cluster. -/
def State.remap (s : State) (cl : Nat) : State :=
  let d := cl / 60
  let old := s.physOf cl
  let sp := s.spareList d
  let s := s.incSat (retiredFld d) 0 1
  match (sp.find? fun p => p / 8 = old / 8).orElse (fun _ => sp.head?) with
  | none => s.logRetire (physSite (64 * d + old)) (1#8 :: leBytes 2 cl ++ [0xFF#8])
  | some p =>
    let s := (s.wr (clmapFld (cl % 8)) (cl / 8) p).wr (sparesFld d) 0 (s.rd (sparesFld d) 0 - 1)
    let c := s.cluster cl
    (s.setCluster cl { Cluster.init with outBind := c.outBind, inBind := c.inBind, stopped := c.stopped }).logRetire
      (physSite (64 * d + old)) (1#8 :: leBytes 2 cl ++ leBytes 1 p)

/-- Retires a physical cluster in the books of the collector. -/
def State.markRetired (s : State) (st sub : Nat) : State :=
  s.putFaults { s.faults with retiredUnits := s.faults.retiredUnits ++ [(st, sub)] }

/-- Does the partition have a cluster whose physical cluster is retired (R31)? -/
def State.unmapped (s : State) (p : Nat) : Bool := (s.partClusters p).any fun cl => s.unitRetired (physSite (s.physAll cl)) 0

/-- A partition leaves reset: RUN, or UNAVAILABLE with an unmapped cluster (R31, R347); its trees and pools serve again. -/
def State.leaveReset (s : State) (p : Nat) : State :=
  let s := (List.range 8).foldl (fun s t =>
    if s.rd R.mdlTreeLog2 t ≠ 0 ∧ s.rd R.mdlTreePartition t = p then
      (s.wr R.mdlTreeState t 1).wr R.mdlPstatState t (if s.rd R.mdlPstatState t = 3 then 2 else s.rd R.mdlPstatState t) else s) s
  let s := if s.unmapped p then s.wr R.cfgPstatState p psUnavailable else s.wr R.cfgPstatState p psRun
  s.setPart p { s.part p with steps := 0, resetAt := none }

/-! ## Partition reset (R333) -/

/-- Overwrites the partition's uncorrectable words with poison (R262). -/
def State.poisonWords (s : State) (p : Nat) : State :=
  let mine (w : Nat) : Bool := match s.devAddrOf w with
    | some a => s.ownerOf a = some p
    | none => false
  let ws := s.mem.poisonAt.filter mine
  ws.foldl State.poisonWordAt
    (s.updMem fun m => { m with poisonAt := m.poisonAt.filter fun w => !mine w })

/-- The retirements decided for clusters of the partition are carried out: each is remapped (R31, R384). -/
def State.remapPending (s : State) (p : Nat) : State :=
  let mine := s.faults.retirePending.filter fun e => s.partOf e.1 = some p
  let s := s.putFaults { s.faults with retirePending := s.faults.retirePending.filter fun e => s.partOf e.1 ≠ some p }
  mine.foldl (fun s e => s.remap e.1) s

/-- Clusters of the partition in Nap wake before the reset proceeds (R377). -/
def State.wakeAll (s : State) (p : Nat) : State :=
  (s.partClusters p).foldl (fun s cl =>
    let s := s.wr R.pwrModeMode cl 0
    if s.napping cl then
      (s.updPower fun w => { w with waking := w.waking.filter (· ≠ cl) }).wr R.pwrDstatState cl 0
    else s) s

/-- PARTITION_RESET_DONE: words poisoned, clusters remapped, program and preloads reloaded; RUN or UNAVAILABLE. -/
def State.resetDone (s : State) (p : Nat) : State :=
  if s.rd R.cfgPstatState p = psReset ∧ (s.part p).resetAt.isSome then
    ((((s.wakeAll p).poisonWords p).remapPending p).reloadProgram p).leaveReset p
  else s

/-- PARTITION_RESET_DONE. -/
def execPartitionResetDone (part : Nat) (s : State) : Out := .next (s.resetDone part)

/-- PARTITION_RESET: a cause resets a partition (R333). -/
def execPartitionReset (part cause : Nat) (s : State) : Out := .next (s.resetPartition part cause)

/-- CLUSTER_RETIREMENT_RESET: at the next step boundary the partition of a cluster whose retirement is decided is reset with cause
7 (R384). -/
def State.retirementReset (s : State) (cl : Nat) : State :=
  match s.partOf cl with
  | some p =>
    if (s.faults.retirePending.any fun e => e.1 = cl) ∧ (s.part p).running.isNone then s.resetPartition p 7 else s
  | none => s

/-- CLUSTER_RETIREMENT_RESET. -/
def execClusterRetirementReset (cl : Nat) (s : State) : Out := .next (s.retirementReset cl)

/-! ## Return from Watch (Table POWS-9) -/

/-- A physical cluster that failed a test is retired at once, every partition being out of RUN (R347, R364). -/
def State.retireNow (s : State) (q : Nat) : State :=
  let st := physSite q
  if s.unitRetired st 0 then s
  else
    let s := (s.markRetired st 0).incSat R.fltStatRetired 0 1
    let s := (s.logRetire st [0#8]).raise 0x1A0 st hubMaster 0 0 0
    match s.logicalOf q with
    | some cl => s.remap cl
    | none => (s.wr (sparesFld (q / 64)) 0 (s.rd (sparesFld (q / 64)) 0 - 1)).incSat (retiredFld (q / 64)) 0 1

/-- WATCH_RETURN_COMPLETE: the module is back in Run; failed clusters are remapped and programs reloaded. -/
def State.watchReturn (s : State) (failed : List Nat) : State :=
  if s.rd R.pwrStatModule 0 ≠ msWaking then s
  else
    let s := failed.foldl (fun s q => (s.raise 0x188 (physSite q) 0x7F0 0 6 2).retireNow q) s
    let s := s
        |>.putMem { s.mem with selfRefresh := false }
        |>.putHost { s.host with linkL0 := true }
        |>.putPower { s.power with diesOn := true, opticsOn := true, coreStop := false }
    let s := s.trainPorts
    let s := ((s.wr R.pwrStatModule 0 0).wr R.pwrDstatState moduleDomain 0).wr R.pwrModeMode moduleDomain 0
    s.enabledParts.foldl (fun s p =>
      if s.rd R.cfgPstatState p = psRun ∧ s.unmapped p then s.wr R.cfgPstatState p psUnavailable else s.reloadProgram p) s

/-- WATCH_RETURN_COMPLETE. -/
def execWatchReturnComplete (failedClusters : List Nat) (s : State) : Out := .next (s.watchReturn failedClusters)

/-! ## Module reset (R350) -/

/-- The registers that a module reset keeps: the activation time and the update state, which the NOR backs (Table SECU-9). -/
def keptRegs : List Nat := [R.updActivateAtTime.off, R.updStatFwState.off]

/-- Update transfers break off; the progress kept so far remains (R420, R425). -/
def State.idleTransfers (s : State) : State :=
  [R.updStatFwState, R.updStatCfgState].foldl (fun s f => if s.rd f 0 = 1 then s.wr f 0 0 else s) s

/-- What a reset of the module leaves (Table BOOT-9; DEDUCED, log entry 54): the NOR, flash data, what has already been sent, the pins, and the
registers of `keptRegs`. -/
def State.cleared (s : State) : State :=
  { State.reset with
    pending := s.pending
    freeCtr := s.freeCtr
    regs := s.regs.filter fun e => e.1 ∈ keptRegs
    host := { HostIf.reset with dma := s.host.dma, irqs := s.host.irqs, answers := s.host.answers, linkL0 := s.host.linkL0 }
    nor := s.nor
    flash := { s.flash with writes := [], openStripe := none, openSlc := none, relocate := [], eraseAfter := [], extents := []
                            stripes := s.flash.stripes.map fun (e : Nat × Stripe) => (e.1, { e.2 with closed := true, copy := [] }) }
    health := { HealthState.reset with plans := s.health.plans }
    sec := { SecState.reset with answers := s.sec.answers }
    board := { s.board with locate := false, wakeN := none, thermAlert := false } }

/-- A module reset stops all work at once, posts no completions and starts start-up, at once or when PERST_N is high (R350).
Of two causes in one cycle the lower code stands (R352). -/
def State.moduleReset (s : State) (cause : Nat) : State :=
  if s.boot.running ∧ s.boot.refAt = some s.now ∧ s.rd R.cfgBootStage 0 = 0 ∧ cause ≠ 1 then
    s.wr R.cfgResetCause 0 (Nat.min cause (s.rd R.cfgResetCause 0))
  else
    let s := s.idleTransfers.cleared.wr R.cfgResetCause 0 cause
    if s.board.perstHigh ∧ s.board.pwrGood then (s.putBoot { s.boot with running := true, refAt := some s.now }) else s

/-- MODULE_RESET. -/
def execModuleReset (cause : Nat) (s : State) : Out := .next (s.moduleReset cause)

/-- CFG_RESET_MODULE: a write of 1 from the PF starts a module reset; in Watch it is also a wake cause (R350, R364). Other
functions' writes are ignored. -/
def State.cfgReset (s : State) (a : Nat) : State :=
  if a ≠ 0 then s
  else if s.rd R.pwrStatModule 0 = msWatch then (s.wakeWatch [.cfgReset]).moduleReset 5 else s.moduleReset 5

/-- CFG_RESET_MODULE. -/
def execCfgResetModule (accessor : Nat) (s : State) : Out := .next (s.cfgReset accessor)

/-- BMC_RESET_COMMAND. -/
def execBmcResetCommand (s : State) : Out := .next (s.moduleReset 4)

/-- PERST_N_ASSERT: a module reset whose start-up waits for PERST_N. -/
def State.perstAssert (s : State) : State :=
  let s := s.putBoard { s.board with perstHigh := false }
  if s.board.pwrGood then s.moduleReset 1 else s

/-- PERST_N_ASSERT. -/
def execPerstNAssert (s : State) : Out := .next s.perstAssert

/-- Starts start-up where the hub has power, PERST_N is high and it does not run yet: the reference of Table BOOT-7 is the later
of the two (R346, R449). -/
def State.startIfReady (s : State) : State :=
  if s.board.pwrGood ∧ s.board.perstHigh ∧ !s.boot.running ∧ s.rd R.hstStatState 0 = 0 ∧ s.rd R.cfgBootStage 0 = 0 then
    s.putBoot { s.boot with running := true, refAt := some s.now }
  else s

/-- PERST_N_RELEASE. -/
def execPerstNRelease (s : State) : Out := .next ((s.putBoard { s.board with perstHigh := true })).startIfReady

/-- PWR_GOOD_RISE: the hub rails are in regulation; a power-on start follows once PERST_N is high (R443, R350). -/
def State.powerGood (s : State) : State :=
  if s.board.pwrGood then s
  else
    let s := s.idleTransfers.cleared
    ((s.putBoard { s.board with pwrGood := true, off := false }).wr R.cfgResetCause 0 0).startIfReady

/-- PWR_GOOD_RISE. -/
def execPwrGoodRise (s : State) : Out := .next s.powerGood

/-- INPUT_POWER_LOSS: the input falls through 44.0 V; conversion stops and the module is Off. Only the NOR and flash keep their
contents; acknowledged flash writes survive (R236, R444, Table POWS-1). -/
def State.powerLoss (s : State) : State :=
  let s := s.idleTransfers.cleared
  s
      |>.putBoard { s.board with pwrGood := false, off := true, wakeN := none, thermAlert := false, i3cAddr := none }
      |>.putHost { s.host with linkL0 := false }

/-- INPUT_POWER_LOSS. -/
def execInputPowerLoss (s : State) : Out := .next s.powerLoss

end Sys2Proof.Machine
end

