-- ==== Sys2Proof/Machine/WorkOps.lean ====
section
/-! DEFINITION. Hub-to-hub work (13_optical_fabric.md Table FABR-5, 15_tenancy.md R330): how a module asks another for work on behalf of a request, the
request record that carries such work, and how work fails (01_request_path.md R15, 07_rerank_topk.md R143, 08_embedding_tables.md R168). -/

namespace Sys2Proof.Machine

/-- A request as it begins. -/
def freshReq (c id slot : Nat) (desc param : List Byte) (part : Nat) (part2 : Option Nat) (now order : Nat) : Req where
  client := c
  id := id
  slot := slot
  opcode := fieldLe desc 0 1
  desc := desc
  param := param
  part := part
  part2 := part2
  admittedAt := now
  order := order
  started := false
  ran := false
  cancelAt := none
  orphan := false
  ended := false
  outBytes := 0
  recBytes := 0
  inBufs := []
  shapes := []
  shardRefs := []
  objRefs := []
  models := []
  outImg := []
  recImg := []
  outMask := []
  recMask := []
  adapter := none
  modules := 1
  seed := 0
  controls := []
  delivered := 0
  remote := none
  span := 0
  e2m1 := 0

/-- A request joins those in flight (R304). -/
def State.addReq (s : State) (r : Req) : State :=
  let s := s.updHost fun h => { h with reqs := h.reqs ++ [{ r with order := h.admitted, admittedAt := s.now }], admitted := h.admitted + 1 }
  if r.client < 4096 then s.wr R.hstRingInflight r.client (s.inflight r.client) else s

/-! ## Work messages

Payload word 1 of a work message holds the client in [11:0] (R330), the kind of work in [15:12], what it asks in [23:16] and the number of
messages it is cut into in [95:64]; then follow the length in bytes of what it carries and the bytes, 16 a word (DESIGN CHOICE, log entry 23: the spec
gives the client's place only). Kinds: 1 query, 2 passage fetch, 3 split table. -/

/-- The first payload word. -/
def workHead (client kind ask n : Nat) : BitVec 128 := BitVec.ofNat 128 (client % 2 ^ 12 + kind % 2 ^ 4 * 2 ^ 12 + ask % 2 ^ 8 * 2 ^ 16 + n % 2 ^ 32 * 2 ^ 64)

/-- The client of a work message. -/
def workClient (m : FabMsg) : Nat := bitsOf (fabWord m 0) 11 0
/-- Its kind of work. -/
def workKind (m : FabMsg) : Nat := bitsOf (fabWord m 0) 15 12
/-- What it asks. -/
def workAsk (m : FabMsg) : Nat := bitsOf (fabWord m 0) 23 16





/-- The words of what it carries. -/
def workWords (bs : List Byte) : List (BitVec 128) := BitVec.ofNat 128 bs.length :: (chunks 16 bs).map fun c => BitVec.ofNat 128 (leNat c)

/-- The bytes of those words. -/
def workBytes (ws : List (BitVec 128)) : List Byte := ((ws.drop 1).flatMap fun w => leBytes 16 w.toNat).take (ws.headD 0).toNat

/-- Charges the client of a request admitted here with message words sent, or received (R328, Table TNCY-5). -/
def State.chargeFab (s : State) (k : ReqKey) (tx : Bool) (words : Nat) : State :=
  if (s.req? k).any fun r => r.remote.isNone then
    s.charge k.1 fun a => if tx then { a with fabricTx := a.fabricTx + 16 * words } else { a with fabricRx := a.fabricRx + 16 * words }
  else s

/-- Sends work for a request. -/
def State.sendWork (s : State) (dst req client kind ask : Nat) (bs : List Byte) : State :=
  let cs := chunks 1022 (workWords bs)
  let s := if s.unreachable dst then s else s.chargeFab (client, req) true ((cs.map fun c => 2 + c.length).foldl (· + ·) 0)
  cs.foldl (fun s c => s.sendHub dst 4 req (workHead client kind ask cs.length :: c)) s

/-- A client number of 4096 or above that no work for another module uses. -/
def State.freeRemote (s : State) : Nat :=
  let used := s.fab.remotes.map (fun x => x.local_.1) ++ s.host.reqs.map (·.client)
  ((List.range (used.length + 1)).map (4096 + ·)).find? (fun n => n ∉ used) |>.getD 4096

/-- Work for another module's request begins under a key of its own (R330). -/
def State.beginRemote (s : State) (src client req : Nat) (desc param : List Byte) (part : Nat) : State × ReqKey :=
  let n := s.freeRemote
  let s := s.updFab fun f => { f with remotes := f.remotes ++ [⟨src, client, req, (n, req), 0, 0, 0⟩] }
  (s.addReq { freshReq n req 0 desc param part none s.now 0 with remote := some src, ran := true, started := true }, (n, req))

/-- The work that carries another module's request here. -/
def State.remoteOf (s : State) (src client req : Nat) : Option ReqKey :=
  (s.fab.remotes.find? fun x => x.src = src && x.client = client && x.req = req).map fun x => x.local_

/-- The client and module a request came from, for work of another module. -/
def State.originOf (s : State) (k : ReqKey) : Option Remote := s.fab.remotes.find? fun x => x.local_ = k

/-! ## Work that fails -/

/-- This module's ID. -/
def State.ownId (s : State) : Nat := s.rd R.optCfgModuleId 0

/-- The collective of a request. -/
def State.coll? (s : State) (k : ReqKey) : Option Coll := s.fab.colls.find? fun x => (x.client, x.req) = k

/-- Changes it. -/
def State.updColl (s : State) (k : ReqKey) (f : Coll → Coll) : State :=
  s.updFab fun x => { x with colls := modFirst (fun y => decide ((y.client, y.req) = k)) f x.colls }

/-- Work of a stage fails with a status. A retrieval ends with the first such status at its stage boundary (R15, R17, R18), and a collective it has open
ends at once: its participants are told, and no list completes it any more (R143). Any other request ends now, and work for another module reports it
(R287). -/
def State.failWork (s : State) (k : ReqKey) (st : Nat) : State :=
  if s.retrieves.any fun x => (x.client, x.req) = k then
    let s := s.endColls k st
    s
        |>.putRetrieves (modFirst (fun x => decide ((x.client, x.req) = k)) (fun x => { x with error := some (x.error.getD st), ready := true }) s.retrieves)
        |>.putSearches (s.searches.filter fun x => (x.client, x.req) ≠ k)
        |>.putWalks ((s.walks.filter fun w => (w.client, w.req) ≠ k ∨ w.walker.isSome).map fun w =>
      if (w.client, w.req) = k then { w with req := noRequest } else w)
  else s.endReq k st 0 0

/-- The module that holds a slice: HOME's number plus the slice (DESIGN CHOICE, log entry 24: the spec names HOME and no other holder). -/
def Table.holder (t : Table) (i : Nat) : Nat := (t.home + i) % 4096

/-- The modules that hold the other slices. -/
def Table.others (t : Table) : List Nat := ((List.range t.slices).filter fun i => i ≠ t.slice).map t.holder

/-- A commit ends without a flip: every holder gives up its staged copy, and the epoch is unchanged (R165, R168). -/
def State.failCommit (s : State) (slot st : Nat) : State :=
  match s.table? slot with
  | none => s
  | some t => match t.commit with
    | none => s
    | some c =>
      let s := if c.remote ∨ t.slices ≤ 1 then s else t.others.foldl (fun s m => s.sendWork m c.req c.client 3 5 (leBytes 1 slot)) s
      (s.discardCommit slot).endReq (c.client, c.req) st 0 0

/-- What a holder is told of an update: the table, the form of its deltas, its entries (DESIGN CHOICE, log entry 90). -/
def updateBytes (slot : Nat) (r : Req) : List Byte := leBytes 1 slot ++ leBytes 1 (r.inl 1 1) ++ r.param

/-- An update of a split table ends once every holder has answered: it stands on all slices, or, where a holder has refused it, on none: it is rejected
whole, and those that have applied it take its deltas out again (R165, R168; DESIGN CHOICE, log entry 90). -/
def State.settleUpdate (s : State) (slot : Nat) (k : ReqKey) : State :=
  match (s.table? slot).bind fun t => (t.updates.find? fun u => (u.client, u.req) = k).map fun u => (t, u), s.req? k with
  | some (t, u), some r =>
    if !u.asked.isEmpty then s
    else match u.stop with
      | none => s.endReq k stOk (updEntries r.param).length 0
      | some st =>
        let s := u.taken.foldl (fun s m => s.sendWork m k.2 k.1 3 7 (updateBytes slot r)) s
        (s.undoDeltas slot (rowDeltas t t.slice (r.inl 1 1 = 1) (updEntries r.param))).endReq k st 0 0
  | _, _ => s

/-- A holder answers an update: it has applied it, or refuses it with a status. -/
def State.updateAnswer (s : State) (k : ReqKey) (m : Nat) (st : Option Nat) : State :=
  match s.tables.find? fun (e : Nat × Table) => e.2.updates.any fun u => (u.client, u.req) = k with
  | none => s
  | some e =>
    let take (u : TabUpdate) : TabUpdate := { u with
      asked := u.asked.filter (· ≠ m), taken := if st.isNone then u.taken ++ [m] else u.taken, stop := u.stop.orElse fun _ => st }
    (s.updTable e.1 fun t => { t with updates := modFirst (fun u => decide ((u.client, u.req) = k)) take t.updates }).settleUpdate e.1 k

/-- Module `m`'s part of a request's work fails: a retrieval at its next boundary, a lookup or an update of a split table with the status, a commit with
ST_NO_RESOURCE (R168) unless T_F is set: it flips then, and the holder misses T_F. -/
def State.failShared (s : State) (k : ReqKey) (m st : Nat) : State :=
  match s.tables.find? fun (e : Nat × Table) => e.2.commit.any fun c => (c.client, c.req) = k with
  | some e => if e.2.commit.any fun c => c.tf.isSome then s else s.failCommit e.1 stNoResource
  | none => if s.tables.any fun (e : Nat × Table) => e.2.updates.any fun u => (u.client, u.req) = k then s.updateAnswer k m (some st) else s.failWork k st

/-- Is another module's part open for a request: in its collective, or as a holder of its split table? -/
def State.asked (s : State) (k : ReqKey) (m : Nat) : Bool :=
  (s.fab.colls.any fun x => (x.client, x.req) = k && decide (m ∈ x.participants)) ||
    (s.tables.any fun (e : Nat × Table) => decide (m ∈ e.2.others) && ((e.2.commit.any fun c => (c.client, c.req) = k) ||
      (e.2.updates.any fun u => (u.client, u.req) = k && decide (m ∈ u.asked)) || s.lookups.any fun l => (l.client, l.req) = k && l.table = e.1))

/-- The keys of local requests with an ID for which another module was asked: every one of them, of whichever client (DESIGN CHOICE, log entry 79: a
message carries REQUEST and no client). -/
def State.askedOf (s : State) (req m : Nat) : List ReqKey :=
  ((s.host.reqs.filter fun r => r.id = req && !r.ended && r.remote.isNone).map fun r => ((r.client, r.id) : ReqKey)).filter fun k => s.asked k m

/-- Work done here for a request of another module, by source and request ID. -/
def State.remoteWork (s : State) (src req : Nat) : List ReqKey := (s.fab.remotes.filter fun x => x.src = src && x.req = req).map (·.local_)

/-- A participant is unreachable: the collective names it so and the request follows R15 with ST_NO_RESOURCE. -/
def State.gone (s : State) (k : ReqKey) (m : Nat) : State := (s.updColl k fun x => { x with gone := x.gone ++ [m] }).failShared k m stNoResource

end Sys2Proof.Machine
end

