-- ==== Sys2Proof/Machine/FabricOps.lean ====
section
/-! DEFINITION. Lost messages and the retirement of ports and lanes (13_optical_fabric.md R284, R285). -/

namespace Sys2Proof.Machine

/-- The work for which a message of this module's own went out, and which ends without it: the part of another module's request that was to contribute or
answer, or a local request that asked the destination for its part (R15, R285, R287). -/
def State.lostOwn (s : State) (m : FabMsg) : State :=
  if m.kind = 5 then (s.remoteWork m.dst m.request).foldl (fun s k => s.endReq k stNoResource 0 0) s
  else if m.kind = 4 then
    if workKind m = 0 ∨ 3 < workKind m then s
    else match s.remoteOf m.dst (workClient m) m.request with
      | some k => s.endReq k stNoResource 0 0
      | none => if s.asked (workClient m, m.request) m.dst then s.gone (workClient m, m.request) m.dst else s
  else (s.askedOf m.request m.dst).foldl (fun s k => s.gone k m.dst) s

/-- A message that port `p` was to carry is dropped: UNREACHABLE is reported; UNREACH goes to its source, or what this module sent it for ends (R285,
Table FABR-8). -/
def State.lost (s : State) (p : Nat) (m : FabMsg) : State :=
  let s := s.raise 0x087 (portSite p) (portMaster p) 0 4 0
  if m.src = s.rd R.optCfgModuleId 0 then s.lostOwn m else s.sendUnreach m.src m.request m.dst

/-- The messages of a port that its peer has not acknowledged whole. -/
def Port.unacked (x : Port) : List FabMsg := ((x.replay.flatMap (·.msgs)) ++ (if x.txRest.isEmpty then [] else x.txMsg.toList)).eraseDups

/-- The messages that wait at a port move to the next route, or are lost (R277). -/
def State.moveQueue (s : State) (p : Nat) (q : List (Nat × FabMsg)) : State :=
  q.foldl (fun s e => if s.unreachable e.2.dst then s.lost p e.2 else s.forward e.1 e.2) s

/-! ## Retirement (R284, R285) -/

/-- A port leaves service: the frames of its replay buffer are discarded and reported, its queue moves to the next route. -/
def State.dropPort (s : State) (p st : Nat) : State :=
  let x := s.port p
  let s := (s.setPortState p st).setPort p { Port.init with
    sent := x.sent, replayMs := x.replayMs, dark := x.dark, lockFails := x.lockFails, hello := x.hello }
  let s := ((s.mirrorLanes p).wr R.optPstatLanesRx p 0).lanesState p 0
  (x.unacked.foldl (fun s m => s.lost p m) s).moveQueue p x.queue

/-- A port is retired (R285). -/
def State.retirePort (s : State) (p : Nat) : State :=
  if s.portState p = opRetired then s
  else (s.dropPort p opRetired).raise 0x084 (portSite p) (portMaster p) 0 5 2

/-- A lane's retirement stands in the books of the collector and in the retirement log, so that it is skipped at every later start-up (R284, R343). -/
def State.logLane (s : State) (p l : Nat) : State :=
  if s.unitRetired (portSite p) l then s
  else (((s.markRetired (portSite p) l).incSat R.fltStatRetired 0 1).logRetire (portSite p) (0#8 :: leBytes 1 l)).raise 0x1A0 (portSite p) hubMaster l 0 0

/-- A lane is retired and the port runs NARROW; a second retired lane retires the port (R284). -/
def State.retireLane (s : State) (p l : Nat) : State :=
  let m := s.rd R.optPstatRetiredLanes p
  if bitOf m l ∨ s.portState p = opRetired then s
  else
    let s := (((s.logLane p l).wr R.optPstatRetiredLanes p (m + 2 ^ l)).wr R.optLstatState (laneKey p l) 4).raise 0x082 (portSite p)
      (portMaster p) l 5 2
    if m ≠ 0 ∨ (s.port p).peerRetired - (s.port p).peerRetired % 2 ^ (l + 1) + (s.port p).peerRetired % 2 ^ l ≠ 0 then s.retirePort p
    else
      let x := s.port p
      let x := { x with handover := if x.handover.any (fun e => e.1 = l) then none else x.handover
                        hoBack := if x.hoBack.any (fun e => e.1 = l) then none else x.hoBack
                        peerLane := if x.peerLane = some l then none else x.peerLane
                        hoLockSet := if x.hoLockSet = some l then none else x.hoLockSet }
      let s := s.setPort p x
      (if s.portCarries p then s.setPortState p opNarrow else s).mirrorLanes p

end Sys2Proof.Machine
end

