-- ==== Sys2Proof/Machine/Faults.lean ====
section
/-! DEFINITION. The fault collector, PULSE and the management cores' watchdogs (18_health.md R380 to R391). -/

namespace Sys2Proof.Machine

/-- Changes the fault collector. -/
def State.updFaults (s : State) (f : FaultState → FaultState) : State := s.putFaults (f s.faults)

/-! ## Severity and class (R381, R382) -/

/-- FATAL kinds. -/
def isFatal (k : Nat) : Bool := k ∈ [0x104, 0x19A, 0x1A2]

/-- ERROR kinds (R381, Table HLTH-3). -/
def isError (k : Nat) : Bool :=
  k ∈ [0x041, 0x044, 0x082, 0x084, 0x085, 0x088, 0x0C2, 0x101, 0x103, 0x001, 0x002, 0x003, 0x004, 0x005, 0x006, 0x009, 0x00A,
       0x00B, 0x140, 0x141, 0x14A, 0x14B, 0x14C, 0x180, 0x181, 0x188, 0x191, 0x198, 0x199, 0x19B]

/-- Is the message counted in a class (R382)? -/
def counted (m : FaultMsg) : Bool := m.kind ∉ [0x1A0, 0x1A1, 0x1A3] && !(m.kind = 0x081 && m.outcome < 2)

/-- The unit class of a site code. -/
def siteClass (st : Nat) : Nat := st / 16 % 16

/-- Does the site name a hub unit (R42)? -/
def isHubSite (st : Nat) : Bool := st / 2 ^ 11 = 31 && siteClass st = 15

/-- The physical cluster a site belongs to. -/
def sitePhys (st : Nat) : Nat := st / 2 ^ 14 * 64 + st / 2 ^ 11 % 8 * 8 + st / 2 ^ 8 % 8

/-- The policy class of a message (Table HLTH-4). -/
def policyClass (m : FaultMsg) : Nat :=
  let c := siteClass m.site
  let hub := isHubSite m.site
  if !hub ∧ c = 7 ∧ m.kind ∈ [0x041, 0x042, 0x141] then 0
  else if m.kind = 0x081 then 1
  else if m.kind ∈ [0x148, 0x149, 0x14A, 0x14B, 0x14C] then 2
  else if m.kind = 0x009 then 3
  else if m.kind = 0x00A then 4
  else if m.kind ∈ [0x180, 0x181, 0x188, 0x191] ∨ (m.kind = 0x041 ∧ !hub ∧ (c = 3 ∨ c = 4)) then 5
  else if m.kind = 0x045 ∨ m.kind = 0x00B then 6
  else if m.kind = 0x198 ∨ m.kind = 0x199 then 7
  else 8

/-- The sub-index of a message's source. -/
def subIndex (c : Nat) (m : FaultMsg) : Nat := if c = 1 then m.addr % 8 else if c = 2 then m.addr % 16 else 0

/-- The source's site: every unit class of one physical cluster counts as that cluster. -/
def sourceSite (c st : Nat) : Nat := if c = 5 then physSite (sitePhys st) else st

/-- The unit that is retired for a site: a cluster for each of its unit classes. -/
def retiredSite (st : Nat) : Nat := if !isHubSite st && decide (siteClass st ≤ 5) then physSite (sitePhys st) else st

/-! ## Counter entries (R385) -/

/-- The entries in use. -/
def State.srcEntries (s : State) : List Nat :=
  s.regs.filterMap fun (e : Nat × Reg64) =>
    if e.1 % 2 ^ 26 = R.fltSrcValid.off ∧ e.2.getLsbD 63 then some (e.1 / 2 ^ 26) else none

/-- A counter entry's pair. -/
def State.entryIs (s : State) (e st sub kind : Nat) : Bool :=
  s.rd R.fltSrcSite e = st && s.rd R.fltSrcSub e = sub && s.rd R.fltSrcKind e = kind

/-- The window of an entry's class, in ns. -/
def State.entryWindow (s : State) (e : Nat) : Nat := 10 ^ 9 * s.rd R.fltClsW (s.rd R.fltSrcClass e)

/-- The entry a new pair takes from its owner: the one whose window expired longest ago, else the lowest count, ties to the oldest
start. Entries marked RETIRED are never taken. -/
def State.victim (s : State) : Option Nat :=
  let may := s.srcEntries.filter fun e => !s.isSet R.fltSrcRetired e
  let start (e : Nat) := sget 0 s.faults.starts e
  let gone := may.filter fun e => decide (start e + s.entryWindow e ≤ s.now)
  match minBy (fun e => start e + s.entryWindow e) gone with
  | some e => some e
  | none => minBy (fun e => s.rd R.fltSrcCntCount e * 2 ^ 64 + start e) may

/-- Writes a fresh entry for a pair. -/
def State.newEntry (s : State) (e st sub kind c : Nat) : State :=
  let k := regKey .window R.fltSrcValid.off e
  let s := (s.setReg k 0).setReg (regKey .window R.fltSrcCntCount.off e) 0
  let s := ((((s.wr R.fltSrcValid e 1).wr R.fltSrcClass e c).wr R.fltSrcSub e sub).wr R.fltSrcKind e kind).wr R.fltSrcSite e st
  s.updFaults fun f => { f with starts := sset 0 f.starts e 0 }

/-- Counts a reclaim, or a message that finds no entry; the first in each device second sends COUNTER_OVERFLOW. -/
def State.entryOverflow (s : State) : State :=
  let s := s.incSat R.fltStatOverflow 0 1
  if s.faults.overflowSecond = some (s.now / 10 ^ 9) then s
  else (s.updFaults fun f => { f with overflowSecond := some (s.now / 10 ^ 9) }).raise 0x1A1 (hubSite 0 9) hubMaster 0 0 0

/-- find_or_claim (R383, R385). -/
def State.findEntry (s : State) (st sub kind c : Nat) : State × Option Nat :=
  let used := s.srcEntries
  match used.find? fun e => s.entryIs e st sub kind with
  | some e => (s, some e)
  | none =>
    match (List.range 4096).find? fun e => e ∉ used with
    | some e => (s.newEntry e st sub kind c, some e)
    | none =>
      match s.victim with
      | some e => (s.entryOverflow.newEntry e st sub kind c, some e)
      | none => (s.entryOverflow, none)

/-! ## Retirement (R384) -/

/-- One signal of PF vector FLT_CTL.VECTOR, at most one in any 100 µs; an event within them waits (R386). -/
def State.fltSignal (s : State) : State :=
  if !s.isSet R.fltCtlIrqEn 0 then s
  else if s.faults.lastIrq.any fun t => decide (s.now - t < 100000) then s.updFaults fun f => { f with irqHeld := true }
  else (s.irq 0 (s.rd R.fltCtlVector 0)).updFaults fun f =>
    { f with lastIrq := some s.now, irqHeld := false }

/-- The partitions that own a granule of a view. -/
def State.viewOwners (s : State) (v : Nat) : List Nat :=
  (s.mem.owner.filterMap fun (e : Nat × Nat) => if e.1 / 2 ^ 20 = v ∧ e.2 ≠ 0 then some (e.2 - 1) else none).eraseDups

/-- Mirrors the granules a partition owns. -/
def State.mirrorGranules (s : State) (p : Nat) : State :=
  s.wr R.cfgPstatGranulesUsed p (s.mem.owner.filter fun (e : Nat × Nat) => e.2 = p + 1).length

/-- A pool's parts in withdrawn pools are void (R230): it keeps the frames that its other parts hold. Its partition's reset has discarded its blocks. -/
def State.shrinkPool (s : State) (vs : List Nat) (n : Nat) : State :=
  match aget s.pools n with
  | none => s
  | some x =>
    let ps := x.places.filter fun e => !(e.tier = 0 && e.view ∈ vs)
    let frames := Nat.min x.frames (((ps.filter fun e => e.tier = 0).map fun e => 4096 * e.units / blockBytes x.format).foldl (· + ·) 0)
    ((s.putPools (amod s.pools n fun x => { x with places := ps, frames := frames })).wr R.mdlPstatFrames n frames).wr R.mdlPstatFree n frames

/-- A memory channel is retired: the granules of its die pool and region pool are withdrawn, their owners are reset and their
placements there are void (R230). -/
def State.retireChannel (s : State) (c : Nat) : State :=
  let vs := [c / 8, 32 + c / 64]
  let s := s.wr R.memChstatRetired c 1
  let owners := (vs.flatMap s.viewOwners).eraseDups
  let s := s.resetParts owners 6
  let s := s.updMem fun m => { m with owner := m.owner.filter fun e => e.1 / 2 ^ 20 ∉ vs }
  let void : List Nat := (s.objs.filter fun (e : Nat × Obj) => e.2.places.any fun x => x.tier = 0 && x.view ∈ vs).map (·.1)
  let s := s.putObjs (s.objs.map fun (e : Nat × Obj) =>
    if e.1 ∈ void then (e.1, { e.2 with places := e.2.places.filter fun x => !(x.tier = 0 && x.view ∈ vs) }) else e)
  let s := (s.pools.filter fun (e : Nat × Pool) => e.2.places.any fun x => x.tier = 0 && x.view ∈ vs).foldl (fun s e => s.shrinkPool vs e.1) s
  owners.foldl State.mirrorGranules s

/-- A flash die is retired and rebuilt from parity (R239). -/
def State.retireFlashDie (s : State) (c i : Nat) : State :=
  let m := s.rd R.flsChstatDieRetired c
  if bitOf m i then s
  else
    let s := (s.wr R.flsChstatDieRetired c (m + 2 ^ i)).incSat R.flsStatDiesRetired 0 1
    s.putFlash { s.flash with rebuilding := s.flash.rebuilding ++ [16 * c + i] }

/-- A walker is retired: each of its walks restarts on the next walker that WALK_START chooses (Table SRCH-6, R130); one whose query has ended is
dropped. -/
def State.retireWalker (s : State) (n : Nat) : State :=
  let mine := s.walks.filter fun w => w.walker = some n
  let s := ((s.wr R.sloWstatRetired n 1).wr R.sloWstatSlotsBusy n 0).wr R.sloWstatOutstanding n 0
  let s := mine.foldl (fun s _ => s.raise 0x008 (site (n / 32) (n / 4 % 8) 0 8 (n % 4)) (0x400 + n) 0 0 0) s
  s.putWalks ((s.walks.filter fun w => w.walker ≠ some n || w.req ≠ noRequest).map fun w =>
    if w.walker = some n then { w with walker := none, sideSeen := 0, side := [], ended := false, cand := [], expansions := 0, restarted := true } else w)

/-- The Pip units of a partition (PIP_USTAT.PARTITION) that are not retired. -/
def State.pipUnits (s : State) (p : Nat) : List Nat :=
  (List.range 16).filter fun u => s.rd R.pipUstatPartition u = p && !s.unitRetired (hubSite 6 u) 0

/-- A Pip unit is retired: the lanes it has not sampled go to the lowest unit that remains of its partition (Table TNCY-8); where none does they keep it, and
their requests end when they come to be sampled (R326). -/
def State.retirePip (s : State) (u : Nat) : State :=
  let p := s.rd R.pipUstatPartition u
  let s := s.wr R.pipUstatBusy u 0
  match (s.pipUnits p).find? (· ≠ u) with
  | none => s
  | some v =>
    let mine (l : PipLane) : Bool := l.unit = u && !l.done
    let s := if (s.part p).sampling.any mine then s.wr R.pipUstatBusy v 1 else s
    s.setPart p { s.part p with sampling := (s.part p).sampling.map fun l => if mine l then { l with unit := v } else l }

/-- An engine is retired: its task restarts on the next engine (Table TNCY-8). -/
def State.retireEngine (s : State) (st : Nat) : State :=
  let i := st % 16
  let requeue (k : EngKind) (e : Nat) (s : State) : State :=
    s.putTasks (s.tasks.map fun t => if t.kind = k ∧ t.engine = some e then { t with engine := none } else t)
  if !isHubSite st then
    let u := st / 2 ^ 14 * 8 + st / 2 ^ 11 % 8
    (s.putBags (s.bags.map fun b => if b.unit = some u ∧ !b.done then { b with unit := none } else b)).wr R.tblGstatOutstanding u 0
  else if st / 2 ^ 8 % 8 = 6 then s.retirePip i
  else if i < 8 then (requeue .zest i s).wr R.zstEstatBusy i 0
  else if i < 12 then (requeue .punnet (i - 8) s).wr R.punEstatBusy (i - 8) 0
  else
    let s := requeue .medlar (i - 12) s
    s.putProbes (s.probes.map fun m => if m.engine = some (i - 12) then { m with engine := none } else m)

/-- The directions of a die link by its site (class 0xE). -/
def linkDirs (st : Nat) : List Nat :=
  let d := st / 2 ^ 14
  match st % 16 with
  | 0 => [d, 8 + d]
  | 1 => [4 + d, 12 + d]
  | 2 => [4 + (d + 3) % 4, 12 + (d + 3) % 4]
  | _ => []

/-- A die link is retired and the partitions with messages in flight on it are reset (R34). -/
def State.retireLink (s : State) (st : Nat) : State :=
  match linkDirs st with
  | [] => s
  | l :: _ => if s.pkg.linkDead l then s else s.retireLinkOf l []

/-- A physical cluster is retired: at its partition's next step boundary, or at once where no partition runs it; a spare is only
removed from CFG_SPARES. -/
def State.retireCluster (s : State) (q st : Nat) : State :=
  match s.logicalOf q with
  | none => (s.wr (sparesFld (q / 64)) 0 (s.rd (sparesFld (q / 64)) 0 - 1)).incSat (retiredFld (q / 64)) 0 1
  | some cl =>
    if (s.partOf cl).isSome then s.updFaults fun f => { f with retirePending := f.retirePending ++ [(cl, st)] } else s.remap cl

/-- The live management cores. -/
def State.liveCores (s : State) : List Nat := (List.range 8).filter fun k => !bitOf (s.rd R.fltWdogRetired 0) k

/-- The partitions whose scheduler a core runs. -/
def State.coreParts (s : State) (k : Nat) : List Nat := s.enabledParts.filter fun p => Config.schedCore s.liveCores p = k

/-- Withholds the begin messages of partitions for a reason of Part.withheld, or releases them. -/
def State.withhold (s : State) (ps : List Nat) (why : Nat) (on : Bool) : State :=
  ps.foldl (fun s p =>
    let x := s.part p
    let w := x.withheld.filter (· ≠ why)
    s.setPart p { x with withheld := if on then w ++ [why] else w }) s

/-- A management core is retired: its duties pass to the live cores, its watchdog is disabled, and partitions that waited for its restart go on (R391). -/
def State.retireCore (s : State) (k : Nat) : State :=
  let ps := s.coreParts k
  let v := s.rd R.fltWdogRetired 0
  ((s.wr R.fltWdogRetired 0 (v % 2 ^ k + 2 ^ k + v / 2 ^ (k + 1) * 2 ^ (k + 1))).updFaults fun f =>
    { f with coreRestarting := f.coreRestarting.filter (· ≠ k) }).withhold ps 5 false

/-- The rule of Table HLTH-4 that retires a unit. -/
def State.retireUnit (s : State) (c st sub : Nat) : State :=
  let idx := st % 16
  match c with
  | 0 => s.retireChannel (st / 2 ^ 14 * 64 + st / 2 ^ 11 % 8 * 8 + idx)
  | 1 => s.retireLane idx sub
  | 2 => s.retireFlashDie (16 * (st / 2 ^ 8 % 8 - 2) + idx) sub
  | 3 => s.retireWalker (st / 2 ^ 14 * 32 + st / 2 ^ 11 % 8 * 4 + idx)
  | 4 => s.retireEngine st
  | 5 => s.retireCluster (sitePhys st) st
  | 6 => s.retireLink st
  | _ => s.retireCore idx

/-- retire(c, site, sub): a permanent event retires the source's unit once; the log entry, UNIT_RETIRED, and RETIRED in every
counter entry of the unit (R384, R386); a lane and a flash die are told from their port and channel by the class. -/
def State.retire (s : State) (c st sub : Nat) : State :=
  if s.unitRetired st sub then s
  else if c = 7 ∧ st % 16 = 0 then s.raise 0x19A (hubSite 0 8) hubMaster 0 0 0
  else
    let s := ((s.markRetired st sub).incSat R.fltStatRetired 0 1).logRetire st (0#8 :: leBytes 1 sub)
    let s := s.srcEntries.foldl (fun s e =>
      if retiredSite (s.rd R.fltSrcSite e) = st ∧ s.rd R.fltSrcSub e = sub ∧ ((c ≠ 1 ∧ c ≠ 2) ∨ s.rd R.fltSrcClass e = c) then
        s.wr R.fltSrcRetired e 1 else s) s
    let s := (s.logEvent logRetired st (0#8 :: leBytes 1 sub)).fltSignal
    (s.retireUnit c st sub).raise 0x1A0 st hubMaster sub 0 0

/-! ## The collector -/

/-- classify(m) of R383. -/
def State.classify (s : State) (m : FaultMsg) : State :=
  if !counted m then s
  else
    let c := policyClass m
    let st := sourceSite c m.site
    let sub := subIndex c m
    let r := s.findEntry st sub m.kind c
    let s := r.1
    let n := s.rd R.fltClsN c
    let s := match r.2 with
      | none => s
      | some e =>
        let fresh := s.rd R.fltSrcCntCount e = 0 ∨ sget 0 s.faults.starts e + 10 ^ 9 * s.rd R.fltClsW c ≤ s.now
        let s := if fresh then
            ((s.updFaults fun f => { f with starts := sset 0 f.starts e s.now }).wr R.fltSrcCntStart e s.now).wr R.fltSrcCntCount e 0
          else s
        let s := (s.incSat R.fltSrcCntCount e 1).incSat R.fltSrcCntTotal e 1
        if 0 < n ∧ n ≤ s.rd R.fltSrcCntCount e then s.wr R.fltSrcSevere e 1 else s
    let severe := match r.2 with
      | some e => s.isSet R.fltSrcSevere e
      | none => false
    if s.unitRetired (retiredSite m.site) sub then s
    else if m.outcome = 2 ∨ severe then
      (if c = 8 then s.raise 0x1A3 m.site hubMaster 0 0 0 else s.retire c st sub)
    else s

/-- First-error capture (R387). -/
def State.capture (s : State) (m : FaultMsg) : State :=
  if s.isSet R.fltFirstValid 0 then s.incSat R.fltFirstMore 0 1
  else
    let s := (((s.wr R.fltFirstValid 0 1).wr R.fltFirstKind 0 m.kind).wr R.fltFirstAccess 0 m.access).wr R.fltFirstOutcome 0 m.outcome
    (((s.wr R.fltFirstMaster 0 m.master).wr R.fltFirstSite 0 m.site).wr R.fltFirstAddrAddr 0 m.addr).wr R.fltFirstTimeTime 0 s.now

/-- A management core is restarted (Table HLTH-5): the begin messages of its partitions are withheld until its first kick. -/
def State.restartCore (s : State) (k : Nat) : State :=
  let s := s.updFaults fun f => { f with
    coreRestarting := if k ∈ f.coreRestarting then f.coreRestarting else f.coreRestarting ++ [k]
    coreRestartAt := sset 0 f.coreRestartAt k (s.now + 2 * 10 ^ 6) }
  s.withhold (s.coreParts k) 5 true

/-- What a FATAL message does: the first latches; descriptor fetching stops; the message's own rule acts (R389). -/
def State.fatal (s : State) (m : FaultMsg) : State :=
  let s := if s.isSet R.fltStatFatal 0 then s
    else ((s.wr R.fltStatFatal 0 1).wr R.fltPulseFatalKind 0 m.kind).wr R.fltPulseFatalSite 0 m.site
  let s := (s.updFaults fun f => { f with fetchStopped := true }).wr R.fltPulseRunning 0 0
  if m.kind = 0x19A then s.moduleReset 2 else s.diesOff

/-- The collector takes a message out of its block's queue; with room again, a block that lost messages sends
COUNTER_OVERFLOW (R380). -/
def State.takeMsg (s : State) (m : FaultMsg) : State :=
  s.updFaults fun f =>
    let rest := dropFirst (fun x => x = m) f.sent
    if m.site ∈ f.overflowed then
      { f with sent := rest ++ [⟨0x1A1, m.site, hubMaster, 0, 0, 0, s.now % 2 ^ 32⟩], overflowed := f.overflowed.filter (· ≠ m.site) }
    else { f with sent := rest }

/-- FAULT_MESSAGE: a message reaches the collector. -/
def State.collect (s : State) (m : FaultMsg) : State :=
  let s := (s.takeMsg m).inc R.fltStatMessages 0 1
  let bad := isError m.kind || isFatal m.kind
  let s := if bad || s.isSet R.fltCtlLogInfo 0 then s.logEvent logFault m.site (faultBytes m) else s
  let s := if bad then (s.capture m).fltSignal else s
  let s := if m.kind = 0x198 ∧ isHubSite m.site then s.restartCore (m.site % 16) else s
  let s := s.classify m
  if isFatal m.kind then s.fatal m else s

/-- FAULT_MESSAGE. -/
def execFaultMessage (m : FaultMsg) (s : State) : Out := .next (s.collect m)

/-- FAULT_IRQ_COALESCE: the 100 µs after the last signal end and an event was held back (R386). -/
def State.irqCoalesce (s : State) : State :=
  if s.faults.irqHeld ∧ !(s.faults.lastIrq.any fun t => decide (s.now - t < 100000)) then
    (s.updFaults fun f => { f with irqHeld := false }).fltSignal
  else s

/-- FAULT_IRQ_COALESCE. -/
def execFaultIrqCoalesce (s : State) : Out := .next s.irqCoalesce

/-- FIRST_ERROR_CLEAR: a write of 1 to FLT_FIRST.VALID clears the capture and MORE (R387). -/
def State.firstClear (s : State) (a : Nat) : State :=
  if a = 0 ∨ 64 ≤ a then
    (((s.setReg (regKey .array R.fltFirstValid.off 0) 0).wr R.fltFirstAddrAddr 0 0).wr R.fltFirstTimeTime 0 0)
  else s.badAccess (accMaster a) 2

/-- FIRST_ERROR_CLEAR. -/
def execFirstErrorClear (accessor : Nat) (s : State) : Out := .next (s.firstClear accessor)

/-! ## PULSE (R388) -/

/-- Has the heartbeat been refreshed within the last 10 ms, and is no fatal fault latched? -/
def State.healthy (s : State) : Bool :=
  !s.isSet R.fltStatFatal 0 && s.faults.hbAt.any fun t => decide (s.now - t ≤ 10 ^ 7)

/-- PULSE_TOGGLE: at a 500 µs boundary PULSE toggles while healthy, else it stops and holds its level. -/
def State.pulseToggle (s : State) : State :=
  if s.now % 500000 ≠ 0 then s
  else if s.healthy then (s.updFaults fun f => { f with pulse := !f.pulse }).wr R.fltPulseRunning 0 1
  else s.wr R.fltPulseRunning 0 0

/-- PULSE_TOGGLE. -/
def execPulseToggle (s : State) : Out := .next s.pulseToggle

/-- HEARTBEAT_REFRESH: from a management core; other masters' writes are ignored. -/
def State.heartbeat (s : State) (a : Nat) : State :=
  if isCore a then s.updFaults fun f => { f with hbAt := some s.now, hbLateSent := false } else s

/-- HEARTBEAT_REFRESH. -/
def execHeartbeatRefresh (accessor : Nat) (s : State) : Out := .next (s.heartbeat accessor)

/-- HEARTBEAT_LATE: a heartbeat older than 10 ms stops PULSE and is reported once. -/
def State.heartbeatLate (s : State) : State :=
  if (s.faults.hbAt.any fun t => decide (10 ^ 7 < s.now - t)) ∧ !s.faults.hbLateSent then
    ((s.updFaults fun f => { f with hbLateSent := true }).wr R.fltPulseRunning 0 0).raise 0x19B (hubSite 0 8) hubMaster 0 0 0
  else s

/-- HEARTBEAT_LATE. -/
def execHeartbeatLate (s : State) : Out := .next s.heartbeatLate

/-! ## Watchdogs (R390, R391) -/

/-- WATCHDOG_KICK: a core kicks its own bit; the first kick after a restart releases the withheld begin messages. -/
def State.kick (s : State) (a bits : Nat) : State :=
  if isCore a ∧ bitOf bits (a - 64) then
    let k := a - 64
    let s' := s.updFaults fun f => { f with coreKick := sset 0 f.coreKick k s.now
                                            coreRestarting := f.coreRestarting.filter (· ≠ k) }
    if k ∈ s.faults.coreRestarting then s'.withhold (s.coreParts k) 5 false else s'
  else s

/-- WATCHDOG_KICK. -/
def execWatchdogKick (accessor bits : Nat) (s : State) : Out := .next (s.kick accessor bits)

/-- Is the watchdog of a core running: its time-out is loaded, the core is not retired, and the module is not in Watch (R390)? -/
def State.watchdogOn (s : State) (k : Nat) : Bool :=
  decide (k < 8) && s.rd R.fltWdogTimeout 0 ≠ 0 && !bitOf (s.rd R.fltWdogRetired 0) k && s.rd R.pwrStatModule 0 ≠ msWatch &&
    !s.power.coreStop

/-- WDOG_CORE: a core has not kicked for TIMEOUT; the first stage restarts it. -/
def State.wdogCore (s : State) (k : Nat) : State :=
  if s.watchdogOn k ∧ k ∉ s.faults.coreRestarting ∧ sget 0 s.faults.coreKick k + 10 ^ 6 * s.rd R.fltWdogTimeout 0 ≤ s.now then
    ((s.incSat R.fltWdogExpiries 0 1).raise 0x199 (hubSite 0 k) hubMaster 0 0 0).restartCore k
  else s

/-- WDOG_CORE. -/
def execWdogCore (core : Nat) (s : State) : Out := .next (s.wdogCore core)

/-- WATCHDOG_SECOND_STAGE: a restarted core does not kick within TIMEOUT. Cores 1 to 7 are retired and their duties pass on; for
core 0 WDOG_MODULE is sent. -/
def State.wdogSecond (s : State) (k : Nat) : State :=
  if s.watchdogOn k ∧ k ∈ s.faults.coreRestarting ∧
      sget 0 s.faults.coreRestartAt k + 10 ^ 6 * s.rd R.fltWdogTimeout 0 ≤ s.now then
    (if k = 0 then s.raise 0x19A (hubSite 0 8) hubMaster 0 0 0 else s.retire 7 (hubSite 0 k) 0)
  else s

/-- WATCHDOG_SECOND_STAGE. -/
def execWatchdogSecondStage (core : Nat) (s : State) : Out := .next (s.wdogSecond core)

/-- RAIL_FAULT: the input has been outside the sustained window for 1 ms; the compute dies are off until a module reset (R389,
R443, R444). -/
def execRailFault (s : State) : Out := .next ((s.raise 0x1A2 (hubSite 0 10) hubMaster 0 0 0).diesOff)

end Sys2Proof.Machine
end

