-- ==== Sys2Proof/Machine/Boot.lean ====
section
/-! DEFINITION. Start-up, its failures and the loading of the Itrix image (16_boot_config.md R337 to R349, 19_security_update.md
R408, R409). Each row of Table BOOT-7 is one STARTUP_STAGE_DONE; CFG_BOOT.STAGE counts the rows completed. -/

namespace Sys2Proof.Machine

/-- Changes what start-up has found. -/
def State.updBoot (s : State) (f : BootState → BootState) : State := s.putBoot (f s.boot)

/-- Changes what the module holds of the NOR. -/
def State.updNor (s : State) (f : NorState → NorState) : State := s.putNor (f s.nor)

/-- States of HST_STAT.STATE. -/
def hsReady : Nat := 1
/-- FAILED. -/
def hsFailed : Nat := 2

/-- Raises a monotonic counter of the NOR and mirrors it (Tables BOOT-2, SECU-11). -/
def State.setCounter (s : State) (i v : Nat) : State :=
  let s := s.updNor fun n => { n with counters := sset 0 n.counters i v }
  match i with
  | 0 => s.wr R.secCtrFwMin 0 v
  | 1 => s.wr R.secCtrCfgMin 0 v
  | 2 => s.wr R.secCtrOwnerGen 0 v
  | _ => s.wr R.hstIdInfoStartCount 0 v

/-- A counter of the NOR. -/
def State.counter (s : State) (i : Nat) : Nat := sget 0 s.nor.counters i

/-- Start-up stops: FAILED with a reason, RWL locked, compute dies unpowered (R349). -/
def State.bootFail (s : State) (reason : Nat) : State :=
  let s := ((s.wr R.hstStatState 0 hsFailed).wr R.hstStatFailReason 0 reason).wr R.cfgBootLocked 0 1
  ((s.updBoot fun b => { b with running := false }).logEvent logStart (hubSite 0 0) (leBytes 1 reason)).diesOff

/-- A row of Table BOOT-7 has ended. -/
def State.stageEnd (s : State) (n : Nat) : State := s.wr R.cfgBootStage 0 n

/-! ## Signed sections (R338, R339) -/

/-- The 64 bytes of a section's header. -/
def sectionHeader (x : SectionRead) : List Byte :=
  leBytes 4 0x58525449 ++ leBytes 1 x.typ ++ leBytes 1 x.signer ++ leBytes 2 1 ++ leBytes 4 x.body.length ++ leBytes 2 x.svn ++
    leBytes 2 0 ++ leBytes 8 x.serial ++ leBytes 8 0 ++ padTo 32 x.digest

/-- Is a section valid for a type and signer, under a key, on the module with this serial number? -/
def validSection (x : SectionRead) (typ signer : Nat) (key : List Byte) (serial : Nat) : Bool :=
  x.magicOk && decide (x.typ = typ) && decide (x.signer = signer) && decide (x.digest = digest256 x.body) &&
    Config.falconVerify key (sectionHeader x) x.signature && (decide (x.serial = 0) || decide (x.serial = serial))

/-- Slot choice of R342: the active slot first, then the other; `ok` is the test of one slot. -/
def chooseSlot (active : Nat) (okA okB : Bool) : Option Nat :=
  let ok (i : Nat) : Bool := if i = 0 then okA else okB
  if ok (active % 2) then some (active % 2) else if ok (1 - active % 2) then some (1 - active % 2) else none

/-! ## Loading and consistency (R340, R341) -/

/-- The bits of the RWL fields of a register row. -/
def rwlLoad (fs : List (Nat × Nat × Access)) (old v : Nat) : Nat :=
  fs.foldl (fun r (f : Nat × Nat × Access) =>
    if f.2.2 = .rwl then (putBits (BitVec.ofNat 64 r) f.1 f.2.1 (bitsOf v f.1 f.2.1)).toNat else r) old

/-- Loads one register of the configuration: its RWL fields take the image's values. -/
def State.loadReg (s : State) (e : Nat × Nat × Nat) : State :=
  match findReg regMap e.1 with
  | none => s
  | some (r, i) =>
    let k := if r.kind = .array then regKey .array r.off i else regKey r.kind r.off e.2.1
    s.setReg k (BitVec.ofNat 64 (rwlLoad r.fields (s.reg k).toNat e.2.2))

/-- Does a register value of the image name a register, and is it zero outside its RWL fields (R7)? -/
def regClean (e : Nat × Nat × Nat) : Bool :=
  match findReg regMap e.1 with
  | none => false
  | some (r, _) => rwlLoad r.fields 0 e.2.2 = e.2.2

/-- Field `f` of instances 0 to n − 1 lies in lo to hi. -/
def State.inRange (s : State) (f : Fld) (n lo hi : Nat) : Bool :=
  (List.range n).all fun i => decide (lo ≤ s.rd f i) && decide (s.rd f i ≤ hi)

/-- The partition that entry `i` of CFG_ENGPk assigns an engine to (Table TNCY-4). -/
def State.engPart (s : State) (k i : Nat) : Option Nat :=
  let v := s.rd ⟨R.cfgEngpEnt.off, .array, 8 * i + 7, 8 * i⟩ k
  if bitOf v 7 then some (v % 64) else none

/-- Does a master ID of Table LEVL-8 exist on the grade? -/
def masterExists (gradeM : Bool) (m : Nat) : Bool :=
  m < 0x40 || (0x100 ≤ m && m ≤ 0x107) || (0x200 ≤ m && m ≤ 0x2EF) || (0x400 ≤ m && m ≤ 0x47F) || (0x480 ≤ m && m ≤ 0x49F) ||
    (0x500 ≤ m && m ≤ 0x50F) || (0x600 ≤ m && m ≤ (if gradeM then 0x607 else 0x60F)) || (0x700 ≤ m && m ≤ 0x707) ||
    (0x710 ≤ m && m ≤ 0x713) || (0x720 ≤ m && m ≤ 0x72F) || (0x730 ≤ m && m ≤ 0x731) || m = 0x7F0 || m = 0x7F1 || m = 0x7FF

/-- The ranges of the image's fields, from their register tables, and the order of the temperatures (Table POWS-14). -/
def State.rangesOk (s : State) : Bool :=
  s.inRange R.sloCtlSweepRate 1 1 32 && s.inRange R.sloCtlPublishMs 1 1 1000 && s.inRange R.tblCtlKeepMs 1 1 1000 &&
  s.inRange R.tblCtlFlipUs 1 100 50000 && s.inRange R.zstCtlStreams 1 1 64 &&
  ((List.range 8).all fun t => s.rd R.mdlTreeLog2 t = 0 || (decide (20 ≤ s.rd R.mdlTreeLog2 t) && decide (s.rd R.mdlTreeLog2 t ≤ 25))) &&
  s.inRange R.mdlPoolRowsMax 8 64 65536 && s.inRange R.mdlPoolChunk 8 1 64 && s.inRange R.memCfgFailMax 1 0 16 &&
  s.inRange R.memCfgSplit 1 0 15 && s.inRange R.memCfgBin 1 0 4 && s.inRange R.flsCfgRdScan 1 1 1000 &&
  s.inRange R.flsCfgRdMargin 1 10 90 && s.inRange R.flsCfgWearGap 1 1 255 && s.inRange R.optCfgHopsMax 1 1 15 &&
  s.inRange R.optCfgCollMs 1 1 1000 && s.inRange R.optCfgGapUs 1 1 1000 && s.inRange R.optSysFreqMs 1 1 1000 &&
  s.inRange R.cfgPartFirst 64 0 59 && s.inRange R.cfgPartQuads 64 0 59 && s.inRange R.cfgPartGranules 64 0 32768 &&
  s.inRange R.cfgPartFlash 64 0 12000 && s.inRange R.pwrCapImg 1 1200 3000 && s.inRange R.pwrPolicyTTrip 1 100 125 &&
  s.inRange R.pwrPolicyTHold 1 90 120 && s.inRange R.pwrPolicyTThrottle 1 70 110 && decide (s.rd R.pwrPolicyTThrottle 0 < s.rd R.pwrPolicyTHold 0) &&
  decide (s.rd R.pwrPolicyTHold 0 < s.rd R.pwrPolicyTTrip 0) && s.inRange R.pwrPolicyMargin 1 0 500 &&
  s.inRange R.pwrPolicyStepMin 1 0 14 && s.inRange R.pwrPolicyStepMax 1 (s.rd R.pwrPolicyStepMin 0) 14 &&
  s.inRange R.pwrWatchPeriod 1 1 10000 &&
  ((List.range 16).all fun i => !s.isSet R.pwrWwinEn i || (sensorKind (s.rd R.pwrWwinSensor i)).isSome) &&
  s.inRange R.fltCtlVector 1 0 2047 && s.inRange R.fltWdogTimeout 1 10 1000 && s.inRange R.fltClsW 9 1 65535 &&
  s.inRange R.chkPartFraction 64 0 5 && s.inRange R.wftCfgCap 1 1 50 && s.inRange R.wftCfgPeriodH 1 4 168 &&
  s.inRange R.wftCfgSliceUs 1 150 200 && s.inRange R.wftCfgIdleUs 1 10 1000 && s.inRange R.ageCfgLifeWarn 1 1 255 &&
  s.inRange R.ageCfgGbMax 1 0 150 && s.inRange R.ageCfgMargin 1 0 50 && s.inRange R.updCfgRepeatH 1 0 8760 &&
  s.inRange R.updCfgDrainMs 1 100 60000

/-- The rules of R341 over loaded registers. -/
def State.rulesOk (s : State) (gradeM : Bool) (testBin : Nat) : Bool :=
  let parts := s.enabledParts
  let cls := parts.flatMap s.partClusters
  decide cls.Nodup && (cls.all fun c => decide (c < 240)) &&
  ((List.range 4096).all fun c => !s.isSet R.cfgClientEn c || s.partEn (s.home c)) &&
  ((List.range 6).all fun k => (List.range 8).all fun i => match s.engPart k i with
    | some p => s.partEn p
    | none => true) &&
  ((List.range 8).all fun t => s.rd R.mdlTreeLog2 t = 0 || s.partEn (s.rd R.mdlTreePartition t)) &&
  ((List.range 1024).all fun c => !s.isSet R.mbxBindEn c ||
    (masterExists gradeM (s.rd R.mbxBindSender c) && masterExists gradeM (s.rd R.mbxBindReceiver c))) &&
  decide (((List.range 8).map fun t => if s.rd R.mdlTreeLog2 t = 0 then 0 else 2 ^ (s.rd R.mdlTreeLog2 t - 1)).foldl (· + ·) 0
    ≤ 16777216) &&
  decide (testBin ≤ s.rd R.memCfgBin 0) &&
  (!gradeM || (List.range 4096).all fun m => (s.choices m).all fun c => !bitOf c 4 || decide (c % 16 < 8))

/-- The registers of an image on their own. -/
def imageRegs (im : ConfigImage) : State := im.regs.foldl State.loadReg State.reset

/-- Is a configuration consistent (R340, R341)? -/
def consistent (im : ConfigImage) (gradeM : Bool) (testBin : Nat) : Bool :=
  im.reservedZero && (im.regs.all regClean) && decide (im.subsections.length = 10) &&
    ((List.range 10).all fun i => decide (0x10 + i ∈ im.subsections)) &&
    (imageRegs im).rangesOk && (imageRegs im).rulesOk gradeM testBin

/-! ## The retirement log at start-up (R344) -/

/-- Applies one entry of the retirement log to good masks, map and retired units. -/
def applyRetired (x : List Nat × List Nat × List (Nat × Nat)) (e : LogEntry) : List Nat × List Nat × List (Nat × Nat) :=
  let good := x.1
  let map := x.2.1
  let st := e.site
  if e.payload.headD 0 = 1#8 then
    let cl := fieldLe e.payload 1 2
    let p := fieldLe e.payload 3 1
    (good, if p < 64 then map.set cl p else map, x.2.2)
  else
    let good := if !isHubSite st ∧ siteClass st = 5 then
        let q := sitePhys st
        let g := good.getD (q / 64) 0
        good.set (q / 64) (if bitOf g (q % 64) then g - 2 ^ (q % 64) else g)
      else good
    (good, map, x.2.2 ++ [(st, fieldLe e.payload 1 1)])

/-- The good masks, the cluster map and the retired units after the whole log. -/
def State.retiredAtStart (s : State) (tr : TestRecord) : List Nat × List Nat × List (Nat × Nat) :=
  s.nor.retireLog.foldl applyRetired (tr.good, tr.map, [])

/-- The check of R30 on the map of 240 entries; a logical cluster whose die ran out of spares keeps a retired cluster and fails only its partition
(R31). -/
def mapOk (good map : List Nat) (retired : List (Nat × Nat)) : Bool :=
  decide (map.length = 240) &&
    ((List.range 240).all fun cl =>
      let p := map.getD cl 64
      let spare (q : Nat) : Bool := bitOf (good.getD (cl / 60) 0) q && decide (q ∉ (map.drop (60 * (cl / 60))).take 60)
      decide (p < 64) && (bitOf (good.getD (cl / 60) 0) p ||
        (decide ((physSite (64 * (cl / 60) + p), 0) ∈ retired) && !((List.range 64).any spare)))) &&
    ((List.range 4).all fun d => decide ((map.drop (60 * d)).take 60).Nodup)

/-- Registers that show a retired unit again after a start. -/
def State.showRetired (s : State) (e : Nat × Nat) : State :=
  let st := e.1
  let idx := st % 16
  if isHubSite st then
    match st / 2 ^ 8 % 8 with
    | 0 => s.wr R.fltWdogRetired 0 (s.rd R.fltWdogRetired 0 + 2 ^ idx)
    | 2 => (s.wr R.flsChstatDieRetired idx (s.rd R.flsChstatDieRetired idx + 2 ^ e.2)).incSat R.flsStatDiesRetired 0 1
    | 3 => (s.wr R.flsChstatDieRetired (16 + idx) (s.rd R.flsChstatDieRetired (16 + idx) + 2 ^ e.2)).incSat R.flsStatDiesRetired 0 1
    | 4 =>
      let s := (s.wr R.optPstatRetiredLanes idx (s.rd R.optPstatRetiredLanes idx + 2 ^ e.2)).wr R.optLstatState (laneKey idx e.2) 4
      if 2 ≤ (lanesIn (s.rd R.optPstatRetiredLanes idx)).length then s.setPortState idx opRetired else s
    | _ => s
  else match siteClass st with
    | 5 => s.incSat (retiredFld (st / 2 ^ 14)) 0 1
    | 7 => s.wr R.memChstatRetired (st / 2 ^ 14 * 64 + st / 2 ^ 11 % 8 * 8 + idx) 1
    | 8 => s.wr R.sloWstatRetired (st / 2 ^ 14 * 32 + st / 2 ^ 11 % 8 * 4 + idx) 1
    | 14 => (linkDirs st).foldl (fun s l => s.updPkg fun g => { g with links := aput g.links l { g.link l with retired := true } }) s
    | _ => s

/-! ## The rows of Table BOOT-7 -/

/-- Rows 2 and 3: the key pair is regenerated, and its digest compared with PUB_DIGEST (R345). -/
def State.bootPuf (s : State) (x : SectionRead) (pub : Option (List Byte)) : State :=
  match pub with
  | none => s.bootFail 0x01
  | some k => (s.updBoot fun b => { b with pub := k, pubDigest := slice x.body 16 32 }).stageEnd 2

/-- Row 3. -/
def State.bootKeyCheck (s : State) : State :=
  if digest256 s.boot.pub = s.boot.pubDigest then ((List.range 3).foldl (fun s i => s.setCounter i (s.counter i)) (s.setCounter 3 (s.counter 3 + 1))).stageEnd 3 else s.bootFail 0x02

/-- Row 4: the boot header. -/
def State.bootHeader (s : State) (ok : Bool) (seq fw cfg : Nat) : State :=
  if ok then (s.updNor fun n => { n with bootSeq := seq, fwActive := fw, cfgActive := cfg }).stageEnd 4 else s.bootFail 0x0B

/-- Row 5: identity, test and owner records (R338, R339, R345); a higher owner generation raises counter 2 (R409). -/
def State.bootRecords (s : State) (id test owner : SectionRead) (tr : TestRecord) (key : List Byte) (gen : Nat) : State :=
  let serial := fieldLe id.body 0 8
  if !(validSection id 1 0 Config.vendorKey serial) ∨ slice id.body 16 32 ≠ digest256 s.boot.pub then s.bootFail 0x02
  else if !(validSection test 2 0 Config.vendorKey serial) then s.bootFail 0x03
  else if !(validSection owner 3 0 Config.vendorKey serial) ∨ owner.serial ≠ serial ∨ gen < s.counter 2 then s.bootFail 0x04
  else
    let rose : Bool := decide (s.counter 2 < gen)
    let s := s.setCounter 2 (Nat.max gen (s.counter 2))
    (s.updBoot fun b => { b with
      serial := serial, grade := fieldLe id.body 8 1, stepping := fieldLe id.body 9 1, test := tr, ownerKey := key, ownerGen := gen
      idDigest := id.digest, testDigest := test.digest, ownerDigest := owner.digest, trimmed := rose }).stageEnd 5

/-- Row 7: the firmware slot (R342). -/
def State.bootFirmware (s : State) (a b : SectionRead) : State :=
  let ok (x : SectionRead) : Bool := validSection x 5 0 Config.vendorKey s.boot.serial && decide (s.counter 0 ≤ x.svn)
  match chooseSlot s.nor.fwActive (ok a) (ok b) with
  | none => s.bootFail 0x05
  | some i =>
    let x := if i = 0 then a else b
    let fb : Bool := decide (i ≠ s.nor.fwActive % 2)
    let s := ((s.wr R.cfgBootFwSlot 0 i).wr R.cfgBootFwFallback 0 (b2n fb)).wr R.cfgBootFwSvn 0 x.svn
    let s := if fb then s.logEvent logStart (hubSite 0 0) (leBytes 1 0x80) else s
    (s.updBoot fun c => { c with fwDigest := x.digest }).stageEnd 7

/-- Row 9: the configuration slot (R341, R342), the retirement log (R344) and the check of R30. -/
def State.bootConfig (s : State) (a b : SectionRead) (ia ib : ConfigImage) (debugUnlock : Option (List Byte)) : State :=
  let m : Bool := decide (s.boot.grade = 1)
  let ok (x : SectionRead) (im : ConfigImage) : Bool :=
    validSection x 4 1 s.boot.ownerKey s.boot.serial && decide (s.counter 1 ≤ x.svn) && consistent im m s.boot.test.fastestBin
  match chooseSlot s.nor.cfgActive (ok a ia) (ok b ib) with
  | none => s.bootFail 0x06
  | some i =>
    let x := if i = 0 then a else b
    let fb : Bool := decide (i ≠ s.nor.cfgActive % 2)
    let s := ((s.wr R.cfgBootCfgSlot 0 i).wr R.cfgBootCfgFallback 0 (b2n fb)).wr R.cfgBootCfgSvn 0 x.svn
    let s := s.wr R.cfgBootDebug 0 (b2n debugUnlock.isSome)
    let s := if fb then s.logEvent logStart (hubSite 0 0) (leBytes 1 0x81) else s
    let s := if debugUnlock.isSome then s.logEvent logStart (hubSite 0 0) (leBytes 1 0x82) else s
    let r := s.retiredAtStart s.boot.test
    let s := (s.updFaults fun f => { f with retiredUnits := r.2.2 }).updBoot fun c =>
      { c with cfgDigest := x.digest, image := if i = 0 then ia else ib, debugUnlock := debugUnlock, good := r.1, map := r.2.1 }
    if mapOk r.1 r.2.1 r.2.2 then s.stageEnd 9 else s.bootFail 0x07

/-- Age and ceiling of a physical cluster: its last plan, else the test record. -/
def State.loadAge (s : State) (q : Nat) : State :=
  match (sget [] s.health.plans q).head? with
  | some x => (s.wr R.ageCstatGuardband q x.guard).wr R.ageCstatStepCeil q x.ceil
  | none => (s.wr R.ageCstatGuardband q (s.boot.test.guardbands.getD q 0)).wr R.ageCstatStepCeil q (s.boot.test.stepCeil.getD q 0)

/-- Row 10: the registers are loaded, LOCKED is set, and every partition is held in RESET. -/
def State.bootLoad (s : State) : State :=
  let b := s.boot
  let s := b.image.regs.foldl State.loadReg s
  let s := (((s.wr R.hstIdSerialSerial 0 b.serial).wr R.hstIdInfoStepping 0 b.stepping).wr R.hstIdInfoTestBin 0
    b.test.fastestBin).wr R.hstIdInfoGrade 0 b.grade
  let s := (List.range 4).foldl (fun s d => s.wr R.cfgGoodMask d (b.good.getD d 0)) s
  let s := (List.range 240).foldl (fun s cl => s.wr (clmapFld (cl % 8)) (cl / 8) (b.map.getD cl 0)) s
  let s := s.faults.retiredUnits.foldl State.showRetired s
  let s := (List.range 4).foldl (fun s d => s.wr (sparesFld d) 0 (s.spareList d).length) s
  let s := (List.range 256).foldl State.loadAge s
  let s := (List.range 4096).foldl (fun s c => s.wr R.hstRingFunction c (s.rd R.cfgClientFunction c)) s
  let s := s.wr R.pwrCapEffective 0 s.effectiveCap
  let s := s.enabledParts.foldl (fun s p =>
    (s.partClusters p).foldl (fun s cl => s.setCluster cl { Cluster.init with stopped := true })
      ((s.wr R.cfgPstatState p psReset).setPart p Part.init)) s
  let s := (List.range 8).foldl (fun s t =>
    if s.rd R.mdlTreeLog2 t = 0 then s
    else (s.putTrees (aput s.trees t MTree.empty)).wr R.mdlTreeState t 2) s
  ((s.updFab fun f => { f with opened := b.image.opened }).wr R.cfgBootLocked 0 1).stageEnd 10

/-- The channels trained: those the retirement log leaves. -/
def State.trainable (s : State) : List Nat := (List.range 256).filter fun c => !s.isSet R.memChstatRetired c

/-- Row 13: training bin by bin from MEM_CFG.BIN, each change of bin recorded in the log (R222): the bin in use and the channels that failed at it; none
where bin 4 fails too. -/
def State.trainBins (s : State) (bin : Nat) (failed : List (List Nat)) : State × Option (Nat × List Nat) :=
  match failed with
  | [] => (s, none)
  | f :: rest =>
    let bad := f.filter fun c => c ∈ s.trainable
    if bad.length ≤ s.rd R.memCfgFailMax 0 then (s, some (bin, bad))
    else if 4 ≤ bin then (s, none)
    else (s.logEvent logStart (hubSite 0 0) (leBytes 1 0x83 ++ leBytes 1 (bin + 1))).trainBins (bin + 1) rest

/-- Row 13. -/
def State.bootMemory (s : State) (failed : List (List Nat)) : State :=
  match s.trainBins (s.rd R.memCfgBin 0) failed with
  | (s, none) => s.bootFail 0x08
  | (s, some (bin, bad)) =>
    let s := bad.foldl (fun s c =>
      ((((s.raise 0x140 (chanSite c) hubMaster 0 6 2).wr R.memChstatRetired c 1).markRetired (chanSite c) 0).incSat R.fltStatRetired
        0 1).logRetire (chanSite c) [0#8, 0#8]) s
    let live := s.trainable
    let s := live.foldl (fun s c => s.wr R.memChstatTrained c 1) s
    let s := (List.range 4).foldl (fun s d =>
      s.wr R.memLiveMask d ((live.filter fun c => c / 64 = d).map fun c => 2 ^ (c % 64)).sum) s
    ((s.wr R.memStatLive 0 live.length).wr R.memStatActiveBin 0 bin).stageEnd 13

/-- Row 14: every LPDDR-6 word is zero. -/
def State.bootZero (s : State) : State := (s.updMem fun m => { m with cells := [], owner := [] }).stageEnd 14

/-- Row 15: flash trained and the translation map rebuilt (R231, R236); trimmed for a new owner (R409). -/
def State.bootFlash (s : State) (ok : Bool) (trained : List Nat) : State :=
  if !ok then s.bootFail 0x0A
  else
    let s := trained.foldl (fun s c => s.wr R.flsChstatTrained c 1) s
    let m := (s.flash.journal.map journalUpdate).foldl (fun (m : Sparse Nat) e => sset 0 m e.1 e.2) s.flash.checkpoint
    let m := if s.boot.trimmed then [] else m
    (s.putFlash { s.flash with map := m, checkpoint := m, journal := [] }).stageEnd 15

/-- Row 16: the start-up test (R347): failed clusters are retired and remapped. -/
def State.bootTest (s : State) (failed : List Nat) (bufferOk : Bool) : State :=
  if !bufferOk then s.bootFail 0x09
  else (failed.foldl (fun s q => (s.raise 0x188 (physSite q) 0x7F0 0 6 2).retireNow q) s).stageEnd 16

/-- Sets device time; times of this start-up move with it. -/
def State.setTime (s : State) (offset : Int) : State :=
  let t := ((s.now : Int) + offset).toNat % 2 ^ 64
  let move (x : Option Nat) : Option Nat := x.map fun a => ((a : Int) + offset).toNat
  (s.putNow t).updBoot fun b => { b with refAt := move b.refAt, portsUpAt := move b.portsUpAt }

/-- Is this module the time master? -/
def State.isMaster (s : State) : Bool := s.rd R.timCfgMaster 0 = s.rd R.optCfgModuleId 0

/-- Row 17: TIM_NOW from PTM at the master, elsewhere from the first fabric offset, in one step (R290); a TIME or PTM_UPDATE that has set
it already leaves nothing to set. -/
def State.bootTime (s : State) (offset : Option Int) : State :=
  match offset with
  | none => s
  | some o => ((if s.fab.timeSet then s else s.setTime o).updFab (fun f => { f with timeSet := true })).wr R.timStatState 0 (if s.isMaster then 1 else 2) |>.stageEnd 17

/-- Row 18: partitions leave reset and the module is READY (R299, R347). -/
def State.bootReady (s : State) : State :=
  let s := s.enabledParts.foldl State.leaveReset s
  let s := s.enabledParts.foldl (fun s p =>
    (s.partClusters p).foldl (fun s cl => s.setCluster cl { s.cluster cl with stopped := false }) s) s
  let s := (s.wr R.hstStatState 0 hsReady).updHost fun h => { h with answers := h.answers ++ [.readyMessage] }
  (s.updBoot fun b => { b with running := false }).stageEnd 18

/-- STARTUP_STAGE_DONE: the row after the last completed one ends with its result (R346). A result of another row's kind changes
nothing. -/
def State.stageDone (s : State) (r : StageResult) : State :=
  if !s.boot.running then s
  else match s.rd R.cfgBootStage 0 + 1, r with
    | 1, .done => s.stageEnd 1
    | 2, .puf x k => s.bootPuf x k
    | 3, .done => s.bootKeyCheck
    | 4, .bootHeader ok q f c => s.bootHeader ok q f c
    | 5, .records i t o tr k g => s.bootRecords i t o tr k g
    | 6, .link g w => (((s.updHost fun h => { h with linkL0 := true }).wr R.hstStatGen 0 g).wr R.hstStatWidth 0 w).stageEnd 6
    | 7, .firmware a b => s.bootFirmware a b
    | 8, .done => s.stageEnd 8
    | 9, .config a b ia ib d => s.bootConfig a b ia ib d
    | 10, .done => s.bootLoad
    | 11, .done => (s.updPower fun p => { p with diesOn := true, opticsOn := true }).trainPorts.stageEnd 11
    | 12, .done => (s.updBoot fun b => { b with portsUpAt := some s.now }).stageEnd 12
    | 13, .memTrained f => s.bootMemory f
    | 14, .done => s.bootZero
    | 15, .flashMap ok t => s.bootFlash ok t
    | 16, .selfTest f ok => s.bootTest f ok
    | 17, .time o => s.bootTime o
    | 18, .done => s.bootReady
    | _, _ => s

/-- STARTUP_STAGE_DONE. -/
def execStartupStageDone (r : StageResult) (s : State) : Out := .next (s.stageDone r)

/-- STARTUP_FAILURE: a stage cannot complete (R349). -/
def execStartupFailure (reason : Nat) (s : State) : Out := .next (if s.boot.running then s.bootFail reason else s)

/-- STARTUP_TIMEOUT: READY has not been reached 9.5 s after the reference (R349). -/
def State.bootTimeout (s : State) : State :=
  if s.boot.running ∧ s.boot.refAt.any fun t => decide (95 * 10 ^ 8 ≤ s.now - t) then s.bootFail 0x0C else s

/-- STARTUP_TIMEOUT. -/
def execStartupTimeout (s : State) : Out := .next s.bootTimeout

/-- STARTUP_TIME_WAIT_EXPIRE: the time master is another module and no offset has come 2 s after the ports came UP; the module
becomes READY with TIM_STAT.STATE = FREE (R348). -/
def State.timeWaitExpire (s : State) : State :=
  if s.boot.running ∧ s.rd R.cfgBootStage 0 = 16 ∧ !s.isMaster ∧ s.boot.portsUpAt.any fun t => decide (2 * 10 ^ 9 ≤ s.now - t) then
    (((s.wr R.timStatState 0 0).raise 0x08A (portSite 0) (portMaster 0) 0 5 0).stageEnd 17).bootReady
  else s

/-- STARTUP_TIME_WAIT_EXPIRE. -/
def execStartupTimeWaitExpire (s : State) : Out := .next s.timeWaitExpire

end Sys2Proof.Machine
end

