-- ==== Sys2Proof/Machine/Health.lean ====
section
/-! DEFINITION. Sampled checking, the Windfall test and the margin planner (18_health.md R392 to R405). -/

namespace Sys2Proof.Machine

/-- Changes checking and ageing. -/
def State.updHealth (s : State) (f : HealthState → HealthState) : State := s.putHealth (f s.health)

/-! ## Checks and votes (R396, R397) -/

/-- May a physical cluster vote: a good spare, or one that belongs to no partition, and not voting already? -/
def State.idleVoter (s : State) (q : Nat) : Bool :=
  bitOf (s.rd R.cfgGoodMask (q / 64)) (q % 64) && !s.unitRetired (physSite q) 0 &&
    (match s.logicalOf q with
     | none => true
     | some cl => (s.partOf cl).isNone) && !(s.health.votes.any fun v => v.voter = q)

/-- The voter of a pair: the lowest-numbered idle physical cluster of the owner's die, then of the other dies in ascending order. -/
def State.chooseVoter (s : State) (die : Nat) : Option Nat :=
  let dies := die :: (List.range 4).filter (· ≠ die)
  (dies.flatMap fun d => (List.range 64).map (64 * d + ·)).find? s.idleVoter

/-- The requests with rows in a pair. -/
def State.pairReqs (s : State) (p : Nat) (k : Check) : List ReqKey :=
  (((s.part p).running.getD []).filter fun r =>
    decide (r.first < k.rows.1 + k.rows.2) && decide (k.rows.1 < r.first + r.count)).map (fun r => (r.client, r.req)) |>.eraseDups

/-- A check of a step has ended; with the last one the begin message is no longer withheld for checks. -/
def State.checkDone (s : State) (p pair : Nat) (poison : List ReqKey) : State :=
  let x := s.part p
  let cs := x.checks.map fun c => if c.pair = pair then { c with done := true } else c
  s.setPart p { x with checks := cs
                       poisonPending := x.poisonPending ++ poison.filter fun k => k ∉ x.poisonPending
                       withheld := if cs.all (·.done) then x.withheld.filter (· ≠ 0) else x.withheld }

/-- The site of a logical cluster for a check's outcome. -/
def State.checkSite (s : State) (cl : Nat) : Nat := s.clusterSite cl 5 0

/-- Compares one checked pair: equal signatures pass; a mismatch starts a vote, or finds no voter. -/
def State.compareOne (s : State) (p : Nat) (k : Check) : State :=
  let s := s.inc R.chkPstatChecked p 1
  if sget 0 (s.cluster k.owner).sigs k.pair = sget 0 (s.cluster k.checker).checkSigs k.slot then s.checkDone p k.pair []
  else
    let s := s.incSat R.chkPstatMismatch p 1
    match s.chooseVoter (k.owner / 60) with
    | some q => (s.incSat R.chkPstatVotes p 1).updHealth fun h => { h with votes := h.votes ++ [⟨p, k.pair, q⟩] }
    | none =>
      let s := s.incSat R.chkPstatNoVote p 1
      let s := (s.raise 0x181 (s.checkSite k.owner) 0x7F0 0 6 0).raise 0x181 (s.checkSite k.checker) 0x7F0 0 6 0
      s.checkDone p k.pair (s.pairReqs p k)

/-- CHECK_COMPARE: at the last STEP_END of a step the hub compares the signatures of every checked pair (R396). -/
def State.checkCompare (s : State) (p : Nat) : State :=
  if (s.part p).running.isNone ∨ (s.partClusters p).any (fun cl => (s.cluster cl).inStep) then s
  else
    let todo := (s.part p).checks.filter fun k => !k.done && !(s.health.votes.any fun v => v.part = p && v.pair = k.pair)
    todo.foldl (fun s k => s.compareOne p k) s

/-- CHECK_COMPARE. -/
def execCheckCompare (part : Nat) (s : State) : Out := .next (s.checkCompare part)

/-- CHECK_VOTE_DONE: the third signature decides (Table HLTH-6). A vote on a cluster that a slice holds runs once the slice has
ended; a vote whose partition was reset is gone (R406). -/
def State.voteDone (s : State) (p pair : Nat) (sig : BitVec 64) : State :=
  match s.health.votes.find? (fun v => v.part = p && v.pair = pair), (s.part p).checks.find? (fun k => k.pair = pair) with
  | some v, some k =>
    if s.isSet R.wftCstatClaimed v.voter then s
    else
      let s := s.updHealth fun h => { h with votes := h.votes.filter (· ≠ v), lastBusy := sset 0 h.lastBusy v.voter s.now }
      let own := sget 0 (s.cluster k.owner).sigs pair
      let chk := sget 0 (s.cluster k.checker).checkSigs k.slot
      if sig = own then (s.raise 0x180 (s.checkSite k.checker) 0x7F0 0 6 0).checkDone p pair []
      else if sig = chk then (s.raise 0x180 (s.checkSite k.owner) 0x7F0 0 6 0).checkDone p pair (s.pairReqs p k)
      else
        let s := (s.raise 0x181 (s.checkSite k.owner) 0x7F0 0 6 0).raise 0x181 (s.checkSite k.checker) 0x7F0 0 6 0
        (s.raise 0x181 (physSite v.voter) 0x7F0 0 6 0).checkDone p pair (s.pairReqs p k)
  | _, _ => s

/-- CHECK_VOTE_DONE. -/
def execCheckVoteDone (part pair : Nat) (voter : BitVec 64) (s : State) : Out := .next (s.voteDone part pair voter)

/-! ## Windfall test (R398 to R401) -/

/-- Nanoseconds in an hour. -/
def hourNs : Nat := 3600 * 10 ^ 9

/-- Since when a physical cluster has been idle (R398): a spare or a cluster in no partition, one in Nap, or one held at STEP_BEGIN
of a partition with no running step and no transfer outstanding. -/
def State.idleSince (s : State) (q : Nat) : Option Nat :=
  if !bitOf (s.rd R.cfgGoodMask (q / 64)) (q % 64) ∨ s.unitRetired (physSite q) 0 ∨ s.health.votes.any (fun v => v.voter = q) then
    none
  else match s.logicalOf q with
    | none => some (sget 0 s.health.lastBusy q)
    | some cl =>
      match s.partOf cl with
      | none => some (sget 0 s.health.lastBusy q)
      | some p =>
        let c := s.cluster cl
        let waits := s.napping cl || (c.held = some (.stepBegin cl) && (s.part p).running.isNone && c.xfers.isEmpty)
        if waits then some (Nat.max c.heldAt (sget 0 s.health.lastBusy q)) else none

/-- Is the cluster forced: its last round is older than PERIOD_H − 2 h, and its partition is at a step boundary (R400)? -/
def State.forced (s : State) (q : Nat) : Bool :=
  decide (sget 0 s.health.roundAt q + hourNs * (s.rd R.wftCfgPeriodH 0 - 2) < s.now) &&
    (match (s.logicalOf q).bind s.partOf with
     | some p => (s.part p).running.isNone && s.running p
     | none => false)

/-- Claimed time of a cluster within the last 100 s. -/
def State.claimedNs (s : State) (q : Nat) : Nat :=
  (((sget [] s.health.claimed q).filter fun e => decide (s.now - e.1 < 10 ^ 11)).map (·.2)).sum

/-- May a slice begin on the cluster: a round is due or under way, it is idle for long enough or forced, and the cap allows it? -/
def State.claimable (s : State) (q : Nat) : Bool :=
  let due := s.rd R.wftCstatSegment q ≠ 0 ||
    decide (sget 0 s.health.roundAt q + hourNs * s.rd R.wftCfgPeriodH 0 / 4 < s.now)
  let idle := match s.idleSince q with
    | some t => decide (t + 1000 * s.rd R.wftCfgIdleUs 0 ≤ s.now)
    | none => false
  due && (idle || s.forced q) && decide (s.claimedNs q + 1000 * s.rd R.wftCfgSliceUs 0 ≤ 10 ^ 8 * s.rd R.wftCfgCap 0)

/-- The cluster the controller picks: the oldest last round, ties to the lower physical number (R400). -/
def State.windfallPick (s : State) : Option Nat :=
  minBy (fun q => sget 0 s.health.roundAt q) ((List.range 256).filter s.claimable)

/-- Length of a segment in µs (Table HLTH-7). -/
def segmentUs (i : Nat) : Nat := if i < 48 then 150 else if i < 52 then 40 else if i < 54 then 60 else if i < 57 then 120 else 100

/-- Site of the unit a failed segment names: class × 16 + index on the physical cluster. -/
def unitSite (q u : Nat) : Nat := site (q / 64) (q % 64 / 8) (q % 8) (u / 16) (u % 16)

/-- Runs the segments of a slice: each that still fits takes its trial (0 passes, 1 a retest passes, 2 all three retests fail; and
the unit that failed). The round's last segment completes it (R399 to R401). -/
def State.segments (s : State) (q : Nat) (left : Nat) (trials : List (Nat × Nat)) : State × Nat :=
  match trials with
  | [] => (s, left)
  | t :: rest =>
    let i := s.rd R.wftCstatSegment q
    if left < segmentUs i then (s, left)
    else
      let s := if t.1 = 0 then s
        else (s.incSat R.wftCstatFails q 1).raise 0x188 (unitSite q t.2) 0x7F0 0 6 (if t.1 = 1 then 1 else 2)
      let s := if i = 57 then ((s.wr R.wftCstatSegment q 0).inc R.wftStatRounds 0 1).updHealth fun h =>
          { h with roundAt := sset 0 h.roundAt q s.now }
        else s.wr R.wftCstatSegment q (i + 1)
      s.segments q (left - segmentUs i) rest

/-- WINDFALL_SLICE: the controller claims the cluster it picks, one at a time; the begin messages of its partition are withheld. -/
def State.windfallSlice (s : State) (q : Nat) (trials : List (Nat × Nat)) : State :=
  if !s.health.claimAt.isEmpty ∨ s.windfallPick ≠ some q then s
  else
    let idle := match s.idleSince q with
      | some t => decide (t + 1000 * s.rd R.wftCfgIdleUs 0 ≤ s.now)
      | none => false
    let s := if idle then s else s.incSat R.wftStatForced 0 1
    let s := (s.updHealth fun h => { h with claimAt := sset 0 h.claimAt q (s.now + 1) }).wr R.wftCstatClaimed q 1
    let s := match (s.logicalOf q).bind s.partOf with
      | some p => s.withhold [p] 4 true
      | none => s
    (s.segments q (s.rd R.wftCfgSliceUs 0) trials).1

/-- WINDFALL_SLICE. -/
def execWindfallSlice (cluster : Nat) (trials : List (Nat × Nat)) (s : State) : Out := .next (s.windfallSlice cluster trials)

/-- WINDFALL_SLICE_END: the cluster is restored as it was; begin messages and votes that waited may go. -/
def State.sliceEnd (s : State) (q : Nat) : State :=
  match sget 0 s.health.claimAt q with
  | 0 => s
  | t + 1 =>
    let s := s.updHealth fun h => { h with
      claimAt := sset 0 h.claimAt q 0
      lastBusy := sset 0 h.lastBusy q s.now
      claimed := sset [] h.claimed q ((t, s.now - t) :: (sget [] h.claimed q).filter fun e => decide (s.now - e.1 < 10 ^ 11)) }
    let s := s.wr R.wftCstatClaimed q 0
    match (s.logicalOf q).bind s.partOf with
    | some p => s.withhold [p] 4 false
    | none => s

/-- WINDFALL_SLICE_END. -/
def execWindfallSliceEnd (cluster : Nat) (s : State) : Out := .next (s.sliceEnd cluster)

/-! ## Ageing (R402 to R405) -/

/-- The guardband a V_min asks for, in 2.5 mV: never below zero, and at most one step below the old one (R402). -/
def newGuard (vMin margin vBase old : Nat) : Nat :=
  let n : Int := 5 * vMin + 2 * margin - 2 * vBase
  Nat.max (((n + 4) / 5).toNat) (old - 1)

/-- Plans at ceilings from `ceil` down, one V_min each: the first whose guardband keeps GB_MAX (R403); each ceiling given up is
reported. None where the ceiling would fall below STEP_MIN, or no further V_min was measured. -/
def State.planCeil (s : State) (q ceil old : Nat) (vMins : List Nat) : State × Option (Nat × Nat × Nat) :=
  match vMins with
  | [] => (s, none)
  | v :: rest =>
    let g := newGuard v (s.rd R.ageCfgMargin 0) (Config.vBase q ceil) old
    if 5 * g ≤ 2 * s.rd R.ageCfgGbMax 0 then (s, some (v, g, ceil))
    else if ceil ≤ s.rd R.pwrPolicyStepMin 0 then (s.raise 0x191 (physSite q) 0x7F0 0 6 2, none)
    else ((s.raise 0x191 (physSite q) 0x7F0 0 6 0).wr R.ageCstatStepCeil q (ceil - 1)).planCeil q (ceil - 1) old rest

/-- Integer square root; `bit` is the number of result bits. -/
def isqrt (bit : Nat) (n r : Nat) : Nat :=
  match bit with
  | 0 => r
  | b + 1 => if (r + 2 ^ b) * (r + 2 ^ b) ≤ n then isqrt b n (r + 2 ^ b) else isqrt b n r

/-- The run hours at which the least-squares fit g = a + b × √h over the plans reaches `gMax` mV; none when b ≤ 0 (R404). √h is
taken to 20 fractional bits. -/
def lifeHours (plans : List Plan) (gMax : Nat) : Option Nat :=
  let pts : List (Int × Int) := plans.map fun p => ((isqrt 40 (p.hours * 2 ^ 40) 0 : Nat), (p.guard : Nat))
  let n : Int := pts.length
  let sx := (pts.map (·.1)).sum
  let sy := (pts.map (·.2)).sum
  let sxx := (pts.map fun p => p.1 * p.1).sum
  let sxy := (pts.map fun p => p.1 * p.2).sum
  let bn := n * sxy - sx * sy
  let bd := n * sxx - sx * sx
  if bn ≤ 0 ∨ bd ≤ 0 then none
  else
    let x := ((2 * (gMax : Int) * n - 5 * sy) * bd + 5 * bn * sx) / (5 * n * bn)
    some ((x * x / 2 ^ 40).toNat)

/-- Erase cycles for which the most worn blocks of a flash channel are rated: 30,000 where all of them are in SLC mode, else 3,000 (R237;
DEDUCED, log entry 37). -/
def State.eraseRating (s : State) (c : Nat) : Nat :=
  let m := s.rd R.flsChwearEraseMax c
  if (s.flash.erases.filter fun e => e.1 % 32 = c && e.2 = m).all fun e =>
      s.flash.stripes.any fun (x : Nat × Stripe) => x.1 % 2 ^ 20 = e.1 / 32 && bitOf x.1 29 then 30000 else 3000

/-- Projected flash life in hours from the highest erase counts against their rating: that of the shortest-lived channel (R237, R404). -/
def State.flashLife (s : State) (hours : Nat) : Nat :=
  (List.range 32).foldl (fun l c =>
    let m := s.rd R.flsChwearEraseMax c
    if m = 0 then l else Nat.min l (hours * s.eraseRating c / m - hours)) (2 ^ 32 - 1)

/-- MARGIN_PLAN: every 24 h of run time, or early, the planner sets a cluster's guardband inside a Windfall slice that holds the cluster;
`vMins` are the V_min found, in 2.5 mV, at STEP_CEIL and each ceiling below it that it tried. -/
def State.marginPlan (s : State) (q : Nat) (vMins : List Nat) (osc : Int) : State :=
  let due := decide (24 * hourNs ≤ s.now - sget 0 s.health.planAt q) || decide (q ∈ s.health.early)
  if !due ∨ sget 0 s.health.claimAt q = 0 ∨ !bitOf (s.rd R.cfgGoodMask (q / 64)) (q % 64) ∨ s.unitRetired (physSite q) 0 then s
  else
    let r := s.planCeil q (s.rd R.ageCstatStepCeil q) (s.rd R.ageCstatGuardband q) vMins
    let s := r.1
    match r.2 with
    | none => s
    | some (v, g, ceil) =>
      let old := sget [] s.health.plans q
      let hours := ((old.head?.map (·.hours)).getD 0) + (s.now - sget 0 s.health.planAt q) / hourNs
      let plans := (⟨hours, v, g, ceil, osc⟩ :: old).take 30
      let s := s.updHealth fun h => { h with plans := sset [] h.plans q plans
                                             planAt := sset 0 h.planAt q s.now
                                             early := h.early.filter (· ≠ q) }
      let life := match lifeHours plans (s.rd R.ageCfgGbMax 0) with
        | some t => t - hours
        | none => 655350
      let s := ((s.wr R.ageCstatGuardband q g).inc R.ageCstatPlans q 1).wr R.ageCstatRoDrift q 0
      let s := s.wr R.ageCstatLife q (Nat.min (life / 10) 65535)
      let s := s.logAgeing (s.logEntry logAge (physSite q)
        (leBytes 4 hours ++ leBytes 2 v ++ leBytes 1 g ++ leBytes 1 ceil ++ leBytes 2 (osc % 2 ^ 16).toNat ++ leBytes 4 life ++
          leBytes 4 (s.flashLife hours)))
      if life < 1000 * s.rd R.ageCfgLifeWarn 0 then s.raise 0x190 (physSite q) 0x7F0 0 6 0 else s

/-- MARGIN_PLAN. -/
def execMarginPlan (cluster : Nat) (vMins : List Nat) (osc : Int) (s : State) : Out := .next (s.marginPlan cluster vMins osc)

/-- RING_OSC_READING: the change since the last plan in per mille; a fall of more than 2% starts an early plan (R402). -/
def State.ringOsc (s : State) (q : Nat) (drift : Int) : State :=
  let s := s.wr R.ageCstatRoDrift q (drift % 256).toNat
  if drift < -20 ∧ q ∉ s.health.early then s.updHealth fun h => { h with early := h.early ++ [q] } else s

/-- RING_OSC_READING. -/
def execRingOscReading (cluster : Nat) (drift : Int) (s : State) : Out := .next (s.ringOsc cluster drift)

end Sys2Proof.Machine
end

