-- ==== Sys2Proof/Machine/Security.lean ====
section
/-! DEFINITION. Attestation, result digests, firmware update and scheduled activation (19_security_update.md R410 to R425). -/

namespace Sys2Proof.Machine

/-- Changes attestation and digests. -/
def State.updSec (s : State) (f : SecState → SecState) : State := s.putSec (f s.sec)

/-- Sends a management answer. -/
def State.answer (s : State) (a : MgmtAnswer) : State := s.updSec fun x => { x with answers := x.answers ++ [a] }

/-- SPDM error codes (PRESUMED, DMTF DSP0274; log entry 34): InvalidRequest, UnexpectedRequest. -/
def spdmInvalid : Nat := 0x01
/-- UnexpectedRequest. -/
def spdmUnexpected : Nat := 0x04

/-- Answers a management request, with not-ready while start-up has not ended (Table BOOT-10). -/
def State.managed (s : State) (f : State → State) : State := if s.rd R.hstStatState 0 = 0 then s.answer .notReady else f s

/-- Answers an SPDM request that needs the algorithms negotiated. -/
def State.spdm (s : State) (f : State → State) : State :=
  s.managed fun s => if s.sec.negotiated < 3 then s.answer (.spdmError spdmUnexpected) else f s

/-- GET_VERSION: version 1.2 only; negotiation starts afresh (R410). -/
def State.getVersion (s : State) : State :=
  s.managed fun s => (s.updSec fun x => { x with negotiated := 1 }).answer (.version 0x12)

/-- GET_VERSION. -/
def execGetVersion (s : State) : Out := .next s.getVersion

/-- GET_CAPABILITIES: certificates, challenge, measurements and key exchange. -/
def State.getCapabilities (s : State) : State :=
  s.managed fun s =>
    if s.sec.negotiated < 1 then s.answer (.spdmError spdmUnexpected)
    else (s.updSec fun x => { x with negotiated := 2 }).answer (.capabilities true true true true)

/-- GET_CAPABILITIES. -/
def execGetCapabilities (s : State) : Out := .next s.getCapabilities

/-- NEGOTIATE_ALGORITHMS: Falcon-1024 (code 0) and SHAKE256-384 (code 0) of the vendor registry and no others. -/
def State.negotiate (s : State) (asym hash : Nat) : State :=
  s.managed fun s =>
    if s.sec.negotiated < 2 then s.answer (.spdmError spdmUnexpected)
    else if asym ≠ 0 ∨ hash ≠ 0 then s.answer (.spdmError spdmInvalid)
    else (s.updSec fun x => { x with negotiated := 3 }).answer (.algorithms 0 0)

/-- NEGOTIATE_ALGORITHMS. -/
def execNegotiateAlgorithms (asym hash : Nat) (s : State) : Out := .next (s.negotiate asym hash)

/-- GET_DIGESTS: slot 0 only. -/
def State.getDigests (s : State) (slot : Nat) : State :=
  s.spdm fun s => if slot = 0 then s.answer (.digests 0 (shake256 48 Config.certChain)) else s.answer (.spdmError spdmInvalid)

/-- GET_DIGESTS. -/
def execGetDigests (slot : Nat) (s : State) : Out := .next (s.getDigests slot)

/-- GET_CERTIFICATE: slot 0, reported empty unless the module certificate's key equals PUB (R411). -/
def State.getCertificate (s : State) (slot offset length : Nat) (key : List Byte) : State :=
  s.spdm fun s =>
    if slot ≠ 0 then s.answer (.spdmError spdmInvalid)
    else if key ≠ s.boot.pub then s.answer (.certificate offset [])
    else s.answer (.certificate offset ((Config.certChain.drop offset).take length))

/-- GET_CERTIFICATE. -/
def execGetCertificate (slot offset length : Nat) (certKey : List Byte) (s : State) : Out :=
  .next (s.getCertificate slot offset length certKey)

/-- A measurement block (Table SECU-3; its bytes are log entry 35). -/
def State.measurement (s : State) (i : Nat) : List Byte :=
  match i with
  | 1 => Config.romDigest
  | 2 => s.boot.fwDigest ++ leBytes 2 (s.rd R.cfgBootFwSvn 0) ++ leBytes 1 (s.rd R.cfgBootFwSlot 0) ++
      leBytes 1 (s.rd R.cfgBootFwFallback 0)
  | 3 => s.boot.cfgDigest ++ leBytes 2 (s.rd R.cfgBootCfgSvn 0) ++ leBytes 1 (s.rd R.cfgBootCfgSlot 0) ++
      leBytes 1 (s.rd R.cfgBootCfgFallback 0)
  | 4 => s.boot.idDigest ++ s.boot.testDigest
  | 5 => s.boot.ownerDigest ++ leBytes 4 s.boot.ownerGen
  | 6 => (List.range 4).flatMap fun c => leBytes 4 (s.counter c)
  | 7 => leBytes 1 (s.rd R.cfgBootDebug 0) ++ s.boot.debugUnlock.getD []
  | 8 => shake256 48 (s.nor.retireLog.flatMap LogEntry.bytes)
  | _ => []

/-- All blocks. -/
def State.measurements (s : State) : List Byte := (List.range 8).flatMap fun i => s.measurement (i + 1)

/-- Signs with the identity key; each signature draws afresh. -/
def State.sign (s : State) (msg : List Byte) : List Byte × State :=
  (Config.falconSign s.boot.pub msg s.freeCtr, (s.putFreeCtr (s.freeCtr + 1)))

/-- CHALLENGE. -/
def State.challenge (s : State) (slot : Nat) (nonce : List Byte) : State :=
  s.spdm fun s =>
    if slot ≠ 0 then s.answer (.spdmError spdmInvalid)
    else
      let m := shake256 48 s.measurements
      let r := s.sign (nonce ++ m)
      r.2.answer (.challengeAuth 0 nonce m r.1)

/-- CHALLENGE. -/
def execChallenge (slot : Nat) (nonce : List Byte) (s : State) : Out := .next (s.challenge slot nonce)

/-- GET_MEASUREMENTS: a block by index, the number of blocks for index 0, all for index 255; signed. -/
def State.getMeasurements (s : State) (i : Nat) (nonce : List Byte) : State :=
  s.spdm fun s =>
    if 8 < i ∧ i ≠ 255 then s.answer (.spdmError spdmInvalid)
    else
      let m := if i = 0 then [8#8] else if i = 255 then s.measurements else s.measurement i
      let r := s.sign (nonce ++ m)
      r.2.answer (.measurements i nonce m r.1)

/-- GET_MEASUREMENTS. -/
def execGetMeasurements (index : Nat) (nonce : List Byte) (s : State) : Out := .next (s.getMeasurements index nonce)

/-- KEY_EXCHANGE opens a session. -/
def State.keyExchange (s : State) (n : Nat) (dhe : List Byte) : State :=
  s.spdm fun s =>
    if s.sec.sessions.any fun e => e.1 = n then s.answer (.spdmError spdmInvalid)
    else (s.updSec fun x => { x with sessions := x.sessions ++ [(n, false)] }).answer (.keyExchangeRsp n (Config.dheShare n dhe))

/-- KEY_EXCHANGE. -/
def execKeyExchange (session : Nat) (dhe : List Byte) (s : State) : Out := .next (s.keyExchange session dhe)

/-- FINISH completes the handshake of a session. -/
def State.finish (s : State) (n : Nat) : State :=
  s.spdm fun s =>
    if (n, false) ∈ s.sec.sessions then
      (s.updSec fun x => { x with sessions := x.sessions.map fun e => if e.1 = n then (n, true) else e }).answer (.finishRsp n)
    else s.answer (.spdmError spdmUnexpected)

/-- FINISH. -/
def execFinish (session : Nat) (s : State) : Out := .next (s.finish session)

/-- END_SESSION. -/
def State.endSession (s : State) (n : Nat) : State :=
  s.spdm fun s =>
    if (n, true) ∈ s.sec.sessions then
      (s.updSec fun x => { x with sessions := x.sessions.filter fun e => e.1 ≠ n }).answer (.endSessionAck n)
    else s.answer (.spdmError spdmUnexpected)

/-- END_SESSION. -/
def execEndSession (session : Nat) (s : State) : Out := .next (s.endSession session)

/-! ## Batches (R415 to R417) -/

/-- A leaf of the Merkle tree. -/
def leafHash (x : Leaf) : List Byte := digest256 (0#8 :: x.digest)

/-- Joins one level of the Merkle tree; an odd last node passes up unchanged. -/
def joinLevel (l : List (List Byte)) : List (List Byte) :=
  match l with
  | a :: b :: r => digest256 (1#8 :: (a ++ b)) :: joinLevel r
  | _ => l

/-- The Merkle root; ten levels cover 1,024 leaves. -/
def merkleRoot (fuel : Nat) (l : List (List Byte)) : List Byte :=
  match fuel with
  | 0 => l.headD []
  | f + 1 => if l.length ≤ 1 then l.headD [] else merkleRoot f (joinLevel l)

/-- The sibling hashes of node `i`, lowest level first. -/
def merklePath (fuel : Nat) (l : List (List Byte)) (i : Nat) : List (List Byte) :=
  match fuel with
  | 0 => []
  | f + 1 =>
    if l.length ≤ 1 then []
    else
      let sib := if i % 2 = 1 then [l.getD (i - 1) []] else if i + 1 < l.length then [l.getD (i + 1) []] else []
      sib ++ merklePath f (joinLevel l) (i / 2)

/-- The batch header (Table SECU-6). -/
def State.batchHeader (s : State) (b : Batch) : List Byte :=
  leBytes 8 (s.rd R.hstIdSerialSerial 0) ++ leBytes 8 (s.counter 3 % 2 ^ 32 * 2 ^ 32 + b.seq % 2 ^ 32) ++ leBytes 2 b.leaves.length ++
    leBytes 6 0 ++ leBytes 8 b.closeAt ++ merkleRoot 11 (b.leaves.map leafHash)

/-- Mirrors the open batch and the queue in SEC_BATCH. -/
def State.mirrorBatch (s : State) : State :=
  (s.wr R.secBatchLeaves 0 s.sec.openBatch.length).wr R.secBatchQueued 0 (Nat.min s.sec.closed.length 1023)

/-- The open batch closes. -/
def State.closeBatch (s : State) : State :=
  if s.sec.openBatch.isEmpty then s
  else
    let b : Batch := ⟨s.rd R.secBatchSeq 0, s.now, s.sec.openBatch, none⟩
    (((s.updSec fun x => { x with openBatch := [], closed := x.closed ++ [b] }).inc R.secBatchSeq 0 1)).mirrorBatch

/-- A digest becomes a leaf of the open batch, which closes at 1,024 leaves. -/
def State.addLeaf (s : State) (x : Leaf) : State :=
  let s := (s.updSec fun c => { c with openBatch := c.openBatch ++ [x]
                                       openedAt := if c.openBatch.isEmpty then s.now else c.openedAt }).mirrorBatch
  if 1024 ≤ s.sec.openBatch.length then s.closeBatch else s

/-- BATCH_CLOSE_TIMEOUT: 100 ms after its first leaf the open batch closes. -/
def State.batchTimeout (s : State) : State :=
  if !s.sec.openBatch.isEmpty ∧ 10 ^ 8 ≤ s.now - s.sec.openedAt then s.closeBatch else s

/-- BATCH_CLOSE_TIMEOUT. -/
def execBatchCloseTimeout (s : State) : Out := .next s.batchTimeout

/-- The record bytes of a stored leaf. -/
def State.leafBytes (s : State) (e : Nat × Nat) : Nat :=
  match s.sec.signed.find? fun b => b.seq = e.1 with
  | some b => ((b.leaves[e.2]?).map fun x => x.record.length).getD 0
  | none => 0

/-- The ring overwrites its oldest records until it holds at most 16 MiB; `fuel` bounds them. -/
def State.trimStore (s : State) (fuel : Nat) : State :=
  match fuel with
  | 0 => s
  | f + 1 =>
    if s.sec.storeBytes ≤ 2 ^ 24 then s
    else match s.sec.store with
      | [] => s
      | e :: r => (s.updSec fun x => { x with store := r, storeBytes := x.storeBytes - s.leafBytes e }).trimStore f

/-- The output of OP_DIGEST_READ (Table SECU-7). -/
def State.proofBytes (s : State) (b : Batch) (i : Nat) (x : Leaf) : List Byte :=
  let path := merklePath 11 (b.leaves.map leafHash) i
  leBytes 4 x.req ++ leBytes 4 x.record.length ++ leBytes 2 i ++ leBytes 1 path.length ++ leBytes 5 0 ++ padTo 32 x.digest ++
    s.batchHeader b ++ padTo 1280 (b.signature.getD []) ++ path.flatten ++ x.record

/-- The newest signed and held leaf of a request. -/
def State.findProof (s : State) (client target : Nat) : Option (Batch × Nat × Leaf) :=
  s.sec.store.reverse.findSome? fun e => do
    let b ← s.sec.signed.find? fun b => b.seq = e.1
    let x ← b.leaves[e.2]?
    if x.client = client && x.req = target then some (b, e.2, x) else none

/-- Does an unsigned batch hold a leaf of the request? -/
def State.leafWaits (s : State) (client target : Nat) : Bool :=
  (s.sec.openBatch ++ s.sec.closed.flatMap (·.leaves)).any fun x => x.client = client && x.req = target

/-- Is a request in flight whose result will carry a digest? -/
def State.digestComes (s : State) (client target : Nat) : Bool := (s.req? (client, target)).any fun r => r.flag 2

/-- Completes one OP_DIGEST_READ. -/
def State.digestDone (s : State) (k : ReqKey) (b : Batch) (i : Nat) (x : Leaf) : State :=
  let bytes := s.proofBytes b i x
  match s.req? k with
  | none => s
  | some r =>
    if r.d 28 4 < bytes.length then s.endReq k stOutputShort 0 0 else (s.putOut k 0 bytes).endReq k stOk bytes.length 0

/-- OP_DIGEST_READ completes when the target's batch is signed (R417). A target still in flight is waited for. -/
def State.digestRead (s : State) (k : ReqKey) : State :=
  match s.req? k with
  | none => s
  | some r =>
    if r.ended ∨ r.opcode ≠ 0x31 then s
    else
      let t := r.inl 0 4
      if s.leafWaits k.1 t ∨ s.digestComes k.1 t then
        (s.updReq k fun r => { r with started := true }).updSec fun x =>
          { x with reads := if (k.1, k.2, t) ∈ x.reads then x.reads else x.reads ++ [(k.1, k.2, t)] }
      else match s.findProof k.1 t with
        | some p => s.digestDone k p.1 p.2.1 p.2.2
        | none => s.endReq k stState 0 0

/-- OP_DIGEST_READ. -/
def execOpDigestRead (client req : Nat) (s : State) : Out := .next (s.digestRead (client, req))

/-- BATCH_SIGNED: the oldest closed batch is signed; its records go into the digest store, and reads of them complete. -/
def State.batchSigned (s : State) : State :=
  match s.sec.closed with
  | [] => s
  | b :: rest =>
    let r := s.sign (s.batchHeader b)
    let b := { b with signature := some r.1 }
    let s := r.2.updSec fun x => { x with
      closed := rest
      signed := x.signed ++ [b]
      store := x.store ++ (List.range b.leaves.length).map fun i => (b.seq, i)
      storeBytes := x.storeBytes + (b.leaves.map fun y => y.record.length).sum }
    let s := ((s.inc R.secDstoreRecords 0 b.leaves.length).trimStore (s.sec.store.length)).mirrorBatch
    let s := s.updSec fun x => { x with signed := x.signed.filter fun y => x.store.any fun e => e.1 = y.seq }
    let whole := s.sec.signed.find? fun y => (List.range y.leaves.length).all fun i => (y.seq, i) ∈ s.sec.store
    let s := s.wr R.secDstoreOldestSeq 0 ((whole.map (·.seq)).getD (s.rd R.secBatchSeq 0))
    let ready := s.sec.reads.filter fun e => b.leaves.any fun x => x.client = e.1 && x.req = e.2.2
    let s := s.updSec fun x => { x with reads := x.reads.filter fun e => e ∉ ready }
    ready.foldl (fun s e => match s.findProof e.1 e.2.2 with
      | some p => s.digestDone (e.1, e.2.1) p.1 p.2.1 p.2.2
      | none => s.endReq (e.1, e.2.1) stState 0 0) s

/-- BATCH_SIGNED. -/
def execBatchSigned (s : State) : Out := .next s.batchSigned

/-! ## PLDM for Firmware Update (R418 to R421) -/

/-- Changes update and activation. -/
def State.updUpd (s : State) (f : UpdState → UpdState) : State := s.putUpd (f s.upd)

/-- States of UPD_STAT. -/
def usIdle : Nat := 0
/-- Receiving. -/
def usReceiving : Nat := 1
/-- Eligible. -/
def usEligible : Nat := 3
/-- Failed. -/
def usFailed : Nat := 4

/-- State and next-piece fields of a component: 1 firmware, 2 configuration. -/
def compState (c : Nat) : Fld := if c = 1 then R.updStatFwState else R.updStatCfgState
/-- Next piece of a component. -/
def compNext (c : Nat) : Fld := if c = 1 then R.updStatFwNext else R.updStatCfgNext

/-- PLDM completion codes (PRESUMED, DMTF DSP0267; log entry 34): not in update mode, busy, invalid component. -/
def pldmNotInUpdate : Nat := 0x80
/-- Busy: already in update mode. -/
def pldmBusy : Nat := 0x81
/-- Unsupported component. -/
def pldmInvalid : Nat := 0x02

/-- Answers a PLDM request; update requests are taken from the start of firmware on (Table BOOT-10). -/
def State.pldm (s : State) (f : State → State) : State :=
  if s.rd R.hstStatState 0 = 0 ∧ s.rd R.cfgBootStage 0 < 8 then s.answer .notReady else f s

/-- QueryDeviceIdentifiers. -/
def State.queryIds (s : State) : State := s.pldm fun s => s.answer (.identifiers s.boot.serial)

/-- QUERY_DEVICE_IDENTIFIERS. -/
def execQueryDeviceIdentifiers (s : State) : Out := .next s.queryIds

/-- Is a component's slot eligible? -/
def State.eligible (s : State) (c : Nat) : Bool := s.rd (compState c) 0 = usEligible

/-- GetFirmwareParameters: active and pending versions of both components. -/
def State.fwParams (s : State) : State :=
  s.pldm fun s => s.answer (.parameters (s.rd R.cfgBootFwSvn 0) (s.rd R.cfgBootCfgSvn 0) (s.eligible 1) (s.eligible 2))

/-- GET_FIRMWARE_PARAMETERS. -/
def execGetFirmwareParameters (s : State) : Out := .next s.fwParams

/-- The latest progress entry of a component. -/
def State.progressOf (s : State) (c : Nat) : Option (List Byte × Nat) :=
  (s.nor.progress.reverse.find? fun e => e.1 = c).map (·.2)

/-- The image kept for a component's target slot. -/
def State.slotData (s : State) (c : Nat) : List Byte :=
  ((s.nor.slots.find? fun x => x.component = c).map (·.data)).getD []

/-- The slot of a component's kind that the module is not running. -/
def State.targetSlot (s : State) (c : Nat) : Nat := 1 - (if c = 1 then s.rd R.cfgBootFwSlot 0 else s.rd R.cfgBootCfgSlot 0)

/-- RequestUpdate: resumes at the next piece where component and DIGEST match the progress entry, else starts over and the slot
loses any eligibility (R420). For a slot that is eligible it is busy between T − 5 s and the restart (R425). -/
def State.requestUpdate (s : State) (c : Nat) (digest : List Byte) : State :=
  s.pldm fun s =>
    if c ≠ 1 ∧ c ≠ 2 then s.answer (.pldmError 0 pldmInvalid)
    else if s.upd.checked && s.eligible c then s.answer (.pldmError 0 pldmBusy)
    else
      let at_ := match s.progressOf c with
        | some (d, n) => if d = digest then n else 0
        | none => 0
      let keep := if at_ = 0 then [] else s.slotData c
      let s := s.updUpd fun u => { u with session := true, comps := aput u.comps c ⟨digest, 0, false, keep, 0⟩ }
      let s := (s.wr (compNext c) 0 at_).wr (compState c) 0 usIdle
      let s := if at_ = 0 then s.updNor fun n => { n with slots := n.slots.filter fun x => x.component ≠ c } else s
      s.answer (.pldmAccept 0 at_)

/-- REQUEST_UPDATE. -/
def execRequestUpdate (component : Nat) (digest : List Byte) (s : State) : Out := .next (s.requestUpdate component digest)

/-- PassComponentTable: the component's comparison stamp is its SVN. -/
def State.passTable (s : State) (c svn : Nat) : State :=
  s.pldm fun s =>
    if !s.upd.session then s.answer (.pldmError 1 pldmNotInUpdate)
    else match aget s.upd.comps c with
      | none => s.answer (.pldmError 1 pldmInvalid)
      | some _ => (s.updUpd fun u => { u with comps := amod u.comps c fun x => { x with svn := svn } }).answer (.pldmAccept 1 0)

/-- PASS_COMPONENT_TABLE. -/
def execPassComponentTable (component svn : Nat) (s : State) : Out := .next (s.passTable component svn)

/-- Pieces of the piece table for P pieces of the signed section (R419). -/
def tablePieces (p : Nat) : Nat := ceilDiv (44 + 4 * p) 4096

/-- How a piece fares: accepted, or failed its check; `done` is the image so far with it. -/
def pieceOk (digest : List Byte) (index : Nat) (done : List Byte) (piece : List Byte) : Bool :=
  let p := fieldLe done 4 4
  let t := tablePieces p
  let head := fieldLe done 0 4 = 0x54494350 && slice done 8 32 = padTo 32 digest
  if index + 1 < t then head
  else if index + 1 = t then head && decide (fieldLe done (4096 * t - 4) 4 = crc32c (done.take (4096 * t - 4)))
  else decide (index < t + p) && decide (crc32c (padTo 4096 piece) = fieldLe done (40 + 4 * (index - t)) 4)

/-- The signed section of a received image, and its parts (Table BOOT-3). -/
def readSection (b : List Byte) : SectionRead :=
  { magicOk := decide (fieldLe b 0 4 = 0x58525449), typ := fieldLe b 4 1, signer := fieldLe b 5 1, svn := fieldLe b 12 2,
    serial := fieldLe b 16 8, digest := slice b 32 32, body := (b.drop 64).take (fieldLe b 8 4),
    signature := slice b (64 + fieldLe b 8 4) 1280 }

/-- The last piece has arrived: the section is verified and its slot becomes eligible or failed (R421). -/
def State.verifyComponent (s : State) (c : Nat) (data : List Byte) : State :=
  let x := readSection (data.drop (4096 * tablePieces (fieldLe data 4 4)))
  let valid := if c = 1 then validSection x 5 0 Config.vendorKey s.boot.serial
    else validSection x 4 1 s.boot.ownerKey s.boot.serial
  let ok := valid && decide (s.counter (c - 1) ≤ x.svn)
  let s := s.updUpd fun u => { u with writing := if c = 1 then false else u.writing, comps := amod u.comps c fun y =>
    { y with active := false, svn := x.svn } }
  let s := ((s.answer (.transferComplete c true)).answer (.verifyComplete c ok)).wr (compState c) 0 (if ok then usEligible else usFailed)
  if ok then s.answer (.applyComplete c true) else s

/-- The pieces of a component image, its piece table's first. -/
def imagePieces (data : List Byte) : Nat := tablePieces (fieldLe data 4 4) + fieldLe data 4 4

/-- UpdateComponent starts the transfer: the module asks for the next piece, or verifies an image whose last piece it holds already. -/
def State.updateComponent (s : State) (c svn : Nat) : State :=
  s.pldm fun s =>
    if !s.upd.session then s.answer (.pldmError 2 pldmNotInUpdate)
    else match aget s.upd.comps c with
      | none => s.answer (.pldmError 2 pldmInvalid)
      | some y =>
        let s := (s.updUpd fun u => { u with writing := decide (c = 1) || u.writing, comps := amod u.comps c fun x =>
          { x with svn := svn, active := true, failures := 0 } }).wr (compState c) 0 usReceiving
        let s := s.answer (.pldmAccept 2 0)
        let next := s.rd (compNext c) 0
        if next = imagePieces y.data then s.verifyComponent c y.data else s.answer (.requestData c next)

/-- UPDATE_COMPONENT. -/
def execUpdateComponent (component svn : Nat) (s : State) : Out := .next (s.updateComponent component svn)

/-- FIRMWARE_DATA_PIECE: a piece arrives, is checked, recorded in the progress area and written to the slot; a piece that fails is
requested again up to 3 times, and a fourth failure ends UpdateComponent (R419, R420). -/
def State.dataPiece (s : State) (p : Piece) : State :=
  s.pldm fun s =>
    match aget s.upd.comps p.component with
    | none => s.answer (.pldmError 3 pldmInvalid)
    | some x =>
      let next := s.rd (compNext p.component) 0
      if !x.active ∨ p.index ≠ next then s.answer (.pldmError 3 pldmNotInUpdate)
      else
        let done := x.data ++ padTo 4096 p.bytes
        if pieceOk x.digest p.index done p.bytes then
          let s := s.updUpd fun u => { u with comps := amod u.comps p.component fun y => { y with data := done, failures := 0 } }
          let s := s.updNor fun n => { n with
            progress := (if 2048 ≤ n.progress.length then n.progress.drop 2047 else n.progress) ++
              [(p.component, x.digest, next + 1)]
            slots := n.slots.filter (fun y => y.component ≠ p.component) ++ [⟨p.component, s.targetSlot p.component, done⟩] }
          let s := s.wr (compNext p.component) 0 (next + 1)
          if next + 1 = imagePieces done then s.verifyComponent p.component done else s.answer (.requestData p.component (next + 1))
        else if x.failures = 3 then
          let s := s.updUpd fun u => { u with
            writing := if p.component = 1 then false else u.writing
            comps := amod u.comps p.component fun y => { y with active := false, failures := 0 } }
          (s.wr (compState p.component) 0 usIdle).answer (.transferComplete p.component false)
        else
          (s.updUpd fun u => { u with comps := amod u.comps p.component fun y => { y with failures := y.failures + 1 } }).answer
            (.requestData p.component next)

/-- FIRMWARE_DATA_PIECE. -/
def execFirmwareDataPiece (p : Piece) (s : State) : Out := .next (s.dataPiece p)

/-- ActivateFirmware: accepted, no change at once; the estimated time is the seconds until UPD_ACTIVATE_AT (Table SECU-8). -/
def State.activateFw (s : State) : State :=
  s.pldm fun s => s.answer (.activateTime ((s.rd R.updActivateAtTime 0 - s.now) / 10 ^ 9))

/-- ACTIVATE_FIRMWARE. -/
def execActivateFirmware (s : State) : Out := .next s.activateFw

/-- GetStatus. -/
def State.pldmStatus (s : State) : State :=
  s.pldm fun s => s.answer (.status (s.rd R.updStatFwState 0) (s.rd R.updStatCfgState 0))

/-- GET_STATUS. -/
def execGetStatus (s : State) : Out := .next s.pldmStatus

/-- Ends the transfers that run; the progress kept so far remains. -/
def State.stopTransfers (s : State) : State :=
  s.idleTransfers.updUpd fun u => { u with writing := false, comps := u.comps.map fun (e : Nat × CompUpd) => (e.1, { e.2 with active := false }) }

/-- CancelUpdateComponent. -/
def State.cancelComponent (s : State) : State :=
  s.pldm fun s => if s.upd.session then s.stopTransfers.answer (.pldmAccept 4 0) else s.answer (.pldmError 4 pldmNotInUpdate)

/-- CANCEL_UPDATE_COMPONENT. -/
def execCancelUpdateComponent (s : State) : Out := .next s.cancelComponent

/-- CancelUpdate. -/
def State.cancelUpdate (s : State) : State :=
  s.pldm fun s =>
    if s.upd.session then (s.stopTransfers.updUpd fun u => { u with session := false }).answer (.pldmAccept 5 0)
    else s.answer (.pldmError 5 pldmNotInUpdate)

/-- CANCEL_UPDATE. -/
def execCancelUpdate (s : State) : Out := .next s.cancelUpdate

/-! ## Scheduled activation (R422 to R425) -/

/-- Does device time lie between T − 5 s and T? -/
def State.nearActivation (s : State) : Bool :=
  let t := s.rd R.updActivateAtTime 0
  t ≠ 0 && decide (s.now ≤ t) && decide (t ≤ s.now + 5 * 10 ^ 9)

/-- UPD_ACTIVATE_AT_WRITE: from the PF or the board manager; 0, or at least 10 s ahead, and not between T − 5 s and T (R422, R425). -/
def State.activateAt (s : State) (a v : Nat) : State :=
  if a ≠ 0 ∧ a ≠ boardManager then s.badAccess (accMaster a) 2
  else if s.upd.checked ∨ s.nearActivation ∨ (v ≠ 0 ∧ v - s.now < 10 ^ 10) then s.wr R.updStatSchedErr 0 1
  else s.wr R.updActivateAtTime 0 v

/-- UPD_ACTIVATE_AT_WRITE. -/
def execUpdActivateAtWrite (accessor value : Nat) (s : State) : Out := .next (s.activateAt accessor value)

/-- An event entry for every registered client (R310). -/
def State.eventAll (s : State) (status count : Nat) : State :=
  let cs : List Nat := s.host.rings.map fun (e : Nat × Ring) => e.1
  cs.foldl (fun s c =>
    s.produce { client := c, request := 0, status := status, count := count, opcode := 0, interim := false, event := true,
                record := false, digest := false, slot := 0, outBytes := 0, detail := 0, irq := false }) s

/-- ACTIVATION_CHECK: at T − 5 s, with an eligible slot, every registered client is warned (R423). -/
def State.activationCheck (s : State) : State :=
  let t := s.rd R.updActivateAtTime 0
  if t ≠ 0 ∧ s.rd R.hstStatState 0 = hsReady ∧ !s.upd.checked ∧ t - s.now ≤ 5 * 10 ^ 9 ∧ s.now < t ∧ (s.eligible 1 ∨ s.eligible 2)
  then (s.updUpd fun u => { u with checked := true }).eventAll stActivationPending (t / 1000 % 2 ^ 32)
  else s

/-- ACTIVATION_CHECK. -/
def execActivationCheck (s : State) : Out := .next s.activationCheck

/-- The next activation time: REPEAT_H hours later, or none (R423). -/
def State.nextActivation (s : State) : State :=
  let h := s.rd R.updCfgRepeatH 0
  s.wr R.updActivateAtTime 0 (if h = 0 then 0 else s.rd R.updActivateAtTime 0 + hourNs * h)

/-- ACTIVATION_START: at T fetching stops, every request in flight is marked to end, and the open batch closes. A time without a slot
found eligible 5 s before passes without effect. -/
def State.activationStart (s : State) : State :=
  let t := s.rd R.updActivateAtTime 0
  if t = 0 ∨ s.now < t ∨ s.rd R.hstStatState 0 ≠ hsReady ∨ s.upd.draining.isSome then s
  else if !s.upd.checked then s.nextActivation
  else
    let s := s.updUpd fun u => { u with draining := some t }
    (s.host.reqs.foldl (fun s r => s.cancelReq (r.client, r.id)) s).closeBatch

/-- ACTIVATION_START. -/
def execActivationStart (s : State) : Out := .next s.activationStart

/-- One kind of slot takes over: the boot header names it, its counter rises to the SVN of the slot active until now, and its slot
is no longer pending. -/
def State.takeSlot (s : State) (c : Nat) : State :=
  if !s.eligible c then s
  else
    let old := if c = 1 then s.rd R.cfgBootFwSvn 0 else s.rd R.cfgBootCfgSvn 0
    let t := s.targetSlot c
    let s := s.updNor fun n => if c = 1 then { n with fwActive := t } else { n with cfgActive := t }
    (s.setCounter (c - 1) (Nat.max old (s.counter (c - 1)))).wr (compState c) 0 usIdle

/-- ACTIVATION_DRAIN_END: every request has ended, or DRAIN_MS are over. The boot header is rewritten and the module resets with cause
3; where the NOR write fails, the module resets onto the old header and the slot stays eligible (R425). -/
def State.drainEnd (s : State) (norOk : Bool) : State :=
  match s.upd.draining with
  | none => s
  | some t =>
    if !s.host.reqs.isEmpty ∧ s.now < t + 10 ^ 6 * s.rd R.updCfgDrainMs 0 then s
    else
      let s := s.nextActivation
      let s := if norOk then
          let s := s.updNor fun n => { n with bootSeq := n.bootSeq + 1 }
          (((s.takeSlot 1).takeSlot 2).inc R.updStatActivations 0 1).logEvent logStart (hubSite 0 14) (leBytes 1 0x84)
        else s.logEvent logStart (hubSite 0 14) (leBytes 1 0x85)
      s.moduleReset 3

/-- ACTIVATION_DRAIN_END. -/
def execActivationDrainEnd (norOk : Bool) (s : State) : Out := .next (s.drainEnd norOk)

end Sys2Proof.Machine
end

