-- ==== Sys2Proof/Machine/HostRegs.lean ====
section
/-! DEFINITION. Accesses to BAR0 (14_host_interface.md R296, R297, R314 to R318, 20_register_index.md R427 to R432, 00_scope.md R8):
which are valid, what a write does by its field's access code, what a read returns, the mailboxes and the accounting window. -/

namespace Sys2Proof.Machine

/-! ## Which accesses name a register (R297, R428, R429) -/

/-- The MSI-X table and its pending-bit array (Table MAPS-1). -/
def isMsix (off : Nat) : Bool := decide (0xF0000 ≤ off) && decide (off < 0x100000)

/-- Offsets of BAR0 that a VF holds (R429). -/
def vfOffset (off : Nat) : Bool :=
  decide (off ≤ 0x1000) || (decide (0x8000 ≤ off) && decide (off < 0x18000)) || isMsix off ||
    (decide (0x100000 ≤ off) && decide (off < 0x100080))

/-- Is the access of a size, alignment and offset that BAR0 accepts? -/
def validAccess (a off size : Nat) : Bool :=
  (size = 4 || size = 8) && off % size = 0 && (isMsix off || (findReg regMap (off - off % 8)).isSome) &&
    (a = 0 || 64 ≤ a || vfOffset (off - off % 8))

/-- Is an access to a BAR2 page one of R303: a write of a doorbell, of 4 or 8 bytes? -/
def validDoorbell (off size : Nat) (write : Bool) : Bool := write && (size = 4 || size = 8) && (off % 4096 = 0 || off % 4096 = 8)

/-- BAR0_INVALID_ACCESS: any other access to BAR0, or to a BAR2 page: a write is ignored, a read returns zero; either is counted and reported (R297). -/
def State.invalidAccess (s : State) (bar : BarAccess) (off size : Nat) (write : Bool) : State :=
  let x : Nat × Bool := match bar with
    | .bar0 a => (a, validAccess a off size)
    | .bar2 fn => (fn, validDoorbell off size write)
  if x.2 then s
  else
    let s := s.badAccess (accMaster x.1) (if write then 2 else 1)
    if write then s else s.updHost fun h => { h with answers := h.answers ++ [.value 0] }

/-- BAR0_INVALID_ACCESS. -/
def execBar0InvalidAccess (bar : BarAccess) (offset size : Nat) (isWrite : Bool) (s : State) : Out :=
  .next (s.invalidAccess bar offset size isWrite)

/-! ## Windows (R10, R431) -/

/-- The value of an accessor's own select register. -/
def State.sel (s : State) (a : Nat) (f : Fld) : Nat := (s.reg (regKey .select f.off a)).toNat

/-- The channel that an accessor's window access at an offset reaches; none where the select value names nothing. -/
def State.winChan (s : State) (a off : Nat) : Option Nat :=
  if off < 0x200000 then some (s.sel a R.mbxSelChannel % 1024)
  else if off < 0x400000 then some (s.sel a ⟨0x300100, .select, 7, 0⟩ % 256)
  else if off < 0x500000 then some (s.sel a ⟨0x400100, .select, 4, 0⟩ % 32)
  else if off < 0x500200 then
    let p := s.sel a R.optPortselPort % 16
    if p < s.portCount then some p else none
  else if off < 0x600000 then
    let v := s.sel a R.optLaneselPort
    if v / 16 % 16 < s.portCount then some (laneKey (v / 16 % 16) (v % 8)) else none
  else if off < 0x700000 then some (s.sel a R.fltSrcselEntry % 4096)
  else if off < 0x800000 then
    let d := s.sel a R.pwrDomselDomain % 512
    if d < 240 ∨ (256 ≤ d ∧ d < 294) then some d else none
  else some (s.sel a R.accClientselClient % 4096)

/-- The key of the register an accessor reaches at an aligned offset. -/
def State.keyAt (s : State) (a : Nat) (row : RegRow) (i off : Nat) : Option Nat :=
  match row.kind with
  | .array => some (row.off + 8 * i)
  | .select => some (regKey .select row.off a)
  | .window => (s.winChan a off).map fun c => regKey .window off c
  | .sender => (s.winChan a off).map fun c => regKey .sender row.off (1024 * a + c)

/-! ## Mailboxes (R315 to R318) -/

/-- A channel's queue. -/
def State.mbxQueue (s : State) (k : Nat) : List (Nat × Nat) := (aget s.mbx.queues k).getD []

/-- Sets a channel's queue. -/
def State.setMbx (s : State) (k : Nat) (q : List (Nat × Nat)) : State :=
  s.putMbx { s.mbx with queues := if q.isEmpty then adel s.mbx.queues k else aput s.mbx.queues k q }

/-- Signals the host receiver of a channel; a notice during Watch entry aborts it (R317, Table POWS-7). -/
def State.mbxSignal (s : State) (k : Nat) : State :=
  let r := s.rd R.mbxBindReceiver k
  if 64 ≤ r then s
  else
    let s := s.irq r (s.rd R.mbxBindVector k)
    if s.rd R.pwrStatModule 0 = msEntering then s.watchAbort r 0x26 (hubSite 5 14) else s

/-- A notice joins its channel's queue. -/
def State.mbxAppend (s : State) (k ptr tag : Nat) : State :=
  let q := s.mbxQueue k
  let s := (s.setMbx k (q ++ [(ptr, tag)])).inc R.mbxCstatSent k 1
  if q.isEmpty then s.mbxSignal k else s

/-- MBX_SEND_TAG_WRITE (R316). -/
def State.mbxSend (s : State) (a tag : Nat) : State :=
  let k := s.sel a R.mbxSelChannel % 1024
  let ptr := (s.reg (regKey .sender R.mbxSendPtrPtr.off (1024 * a + k))).toNat
  if a = boardManager then s.badAccess hubMaster 2
  else if !s.isSet R.mbxBindEn k ∨ s.rd R.mbxBindSender k ≠ accMaster a then s.raise 0x0C4 (hubSite 5 14) (accMaster a) k 2 0
  else if (s.mbxQueue k).length < 8 ∧ !(s.mbx.waiting.any fun w => w.1 = k) then s.mbxAppend k ptr (tag % 2 ^ 32)
  else if a < 64 then (s.incSat R.mbxCstatDropped k 1).raise 0x0C3 (hubSite 5 14) (accMaster a) k 2 0
  else s.putMbx { s.mbx with waiting := s.mbx.waiting ++ [(k, ptr, tag % 2 ^ 32)] }

/-- MBX_SEND_TAG_WRITE. -/
def execMbxSendTagWrite (accessor tag : Nat) (s : State) : Out := .next (s.mbxSend accessor tag)

/-- MBX_SENDER_ROOM: the oldest notice that waits on the channel is appended once there is room. -/
def State.mbxRoom (s : State) (k ptr tag : Nat) : State :=
  if (s.mbx.waiting.find? fun w => w.1 = k) = some (k, ptr, tag) ∧ (s.mbxQueue k).length < 8 then
    ((s.putMbx { s.mbx with waiting := dropFirst (fun w => w = (k, ptr, tag)) s.mbx.waiting })).mbxAppend k ptr tag
  else s

/-- MBX_SENDER_ROOM. -/
def execMbxSenderRoom (chan ptr tag : Nat) (s : State) : Out := .next (s.mbxRoom chan ptr tag)

/-- Is the accessor the receiver of its selected channel? -/
def State.mbxReceiver (s : State) (a : Nat) : Bool :=
  let k := s.sel a R.mbxSelChannel % 1024
  s.isSet R.mbxBindEn k && s.rd R.mbxBindReceiver k = accMaster a && a ≠ boardManager

/-- MBX_POP: the receiver removes the oldest notice; another master's write is ignored (R317). -/
def State.mbxPop (s : State) (a : Nat) : State :=
  let k := s.sel a R.mbxSelChannel % 1024
  if !s.mbxReceiver a then s
  else match s.mbxQueue k with
    | [] => s
    | _ :: r =>
      let s := s.setMbx k r
      if r.isEmpty then s else s.mbxSignal k

/-- MBX_POP. -/
def execMbxPop (accessor : Nat) (s : State) : Out := .next (s.mbxPop accessor)

/-- MBX_FLUSH: the receiver empties the queue. -/
def execMbxFlush (accessor : Nat) (s : State) : Out :=
  .next (if s.mbxReceiver accessor then s.setMbx (s.sel accessor R.mbxSelChannel % 1024) [] else s)

/-- Is a function in FLR: its reset's effects on its clients' requests are not complete (R300; DEDUCED, log entry 91)? -/
def State.inFlr (s : State) (fn : Nat) : Bool := s.host.reqs.any fun r => r.orphan && !r.ended && s.clientFn r.client = some fn

/-- The hub engines of the master IDs 0x700 and above: site, and the partition one is assigned to (Tables LEVL-7, LEVL-8, TNCY-4). -/
def State.hubEngine (s : State) (m : Nat) : Option (Nat × Option Nat) :=
  if 0x700 ≤ m ∧ m < 0x708 then some (hubSite 5 (m - 0x700), s.engPart 0 (m - 0x700))
  else if 0x710 ≤ m ∧ m < 0x714 then some (hubSite 5 (8 + (m - 0x710)), s.engPart 1 (m - 0x710))
  else if 0x720 ≤ m ∧ m < 0x730 then some (hubSite 6 (m - 0x720), some (s.rd R.pipUstatPartition (m - 0x720)))
  else if 0x730 ≤ m ∧ m < 0x732 then some (hubSite 5 (12 + (m - 0x730)), s.engPart 1 (4 + (m - 0x730)))
  else none

/-- The state of a channel's end: 0 READY, 1 RESET, 2 ASLEEP, 3 DEAD (Table HOST-20). -/
def State.peerState (s : State) (m : Nat) : Nat :=
  let watch := decide (s.rd R.pwrStatModule 0 = msWatch)
  let inReset (p : Option Nat) : Bool := p.any fun p => s.rd R.cfgPstatState p = psReset
  if m < 64 then (if m ≠ 0 ∧ s.host.vfs < m then 3 else if s.inFlr m then 1 else if m ∈ s.host.d3 then 2 else 0)
  else if 0x100 ≤ m ∧ m < 0x108 then
    (if bitOf (s.rd R.fltWdogRetired 0) (m - 0x100) then 3 else if m - 0x100 ∈ s.faults.coreRestarting then 1
     else if s.power.coreStop ∧ m ≠ 0x100 then 2 else 0)
  else if 0x200 ≤ m ∧ m < 0x2F0 then
    (if s.unitRetired (physSite (s.physAll (m - 0x200))) 0 then 3 else if inReset (s.partOf (m - 0x200)) then 1 else if watch ∨ s.napping (m - 0x200) then 2 else 0)
  else if 0x400 ≤ m ∧ m < 0x480 then (if s.isSet R.sloWstatRetired (m - 0x400) then 3 else if watch then 2 else 0)
  else if 0x480 ≤ m ∧ m < 0x4A0 then
    (if s.unitRetired (site ((m - 0x480) / 8) (m % 8) 0 9 0) 0 then 3
     else if inReset (s.engPart (2 + (m - 0x480) / 8) (m % 8)) then 1 else if watch then 2 else 0)
  else if 0x600 ≤ m ∧ m < 0x610 then (if s.rd R.optPstatState (m - 0x600) = 7 then 3 else if watch then 2 else 0)
  else match s.hubEngine m with
    | some e => if s.unitRetired e.1 0 then 3 else if inReset e.2 then 1 else if watch then 2 else 0
    | none => if watch then 2 else 0

/-! ## The accounting window (R331, R432) -/

/-- The accounting record of a client (Table TNCY-5). -/
def State.accRecord (s : State) (c : Nat) : List Byte :=
  let a := (aget s.accts c).getD Acct.zero
  let q (v : Nat) : List Byte := leBytes 8 (v % 2 ^ 64)
  leBytes 2 c ++ leBytes 1 (s.home c) ++ List.replicate 5 0 ++ q s.now ++
    ([a.admitted, a.succeeded, a.failed, a.clusterNs, a.walkerNs, a.gatherNs, a.zestNs, a.punnetNs, a.medlarNs, a.pipNs, a.flashNs,
      a.lpddrRd, a.lpddrWr, a.flashRd, a.flashWr, a.hostRd, a.hostWr, a.fabricTx, a.fabricRx, a.energyUj, a.remoteNs, a.remoteUj,
      a.remoteBytes, a.pauseNs].flatMap q) ++
    leBytes 4 (a.pauses % 2 ^ 32) ++ leBytes 4 (s.rd R.hstStateRejectsCount c) ++ List.replicate 40 0

/-- ACC_REC0_READ takes the snapshot of the accessor's selected client and answers its first word. -/
def State.accRead (s : State) (a : Nat) : State :=
  let rec' := s.accRecord (s.sel a R.accClientselClient % 4096)
  ((s.putSnaps (aput s.snaps a rec'))).updHost fun h => { h with answers := h.answers ++ [BarAnswer.value (fieldLe rec' 0 8)] }

/-- ACC_REC0_READ. -/
def execAccRec0Read (accessor : Nat) (s : State) : Out := .next (s.accRead accessor)

/-- ACC_CLIENTSEL_WRITE: the accessor's select register changes and its snapshot is void. -/
def State.accSelect (s : State) (a c : Nat) : State :=
  if a = boardManager then s.badAccess hubMaster 2
  else (s.wr ⟨R.accClientselClient.off, .select, 11, 0⟩ a (c % 4096)).putSnaps (adel s.snaps a)

/-- ACC_CLIENTSEL_WRITE. -/
def execAccClientselWrite (accessor client : Nat) (s : State) : Out := .next (s.accSelect accessor client)

/-! ## The admin registers (R314) -/

/-- HST_ADM_CFG_WRITE: only the PF's writes act. An enable with ring sizes out of range is ignored and reported; while EN = 1 only EN is
written; an enable starts the rings afresh. -/
def State.admCfg (s : State) (a v : Nat) : State :=
  if a ≠ 0 then (if a = boardManager then s.badAccess hubMaster 2 else s)
  else
    let en := decide (v % 2 = 1)
    let was := s.isSet R.hstAdmCfgEn 0
    if was then s.wr R.hstAdmCfgEn 0 (v % 2)
    else if en ∧ (8 < bitsOf v 31 28 ∨ 8 < bitsOf v 27 24) then s.badAccess 0 2
    else
      let s := (((s.wr R.hstAdmCfgVector 0 (bitsOf v 43 32)).wr R.hstAdmCfgSqLog2 0 (bitsOf v 31 28)).wr R.hstAdmCfgCqLog2 0
        (bitsOf v 27 24)).wr R.hstAdmCfgEn 0 (v % 2)
      if en then
        (s.setReg (regKey .array R.hstAdmDbSqTail.off 0) 0).updHost fun h => { h with admCqTail := 0, admPhase := true }
      else s

/-- HST_ADM_CFG_WRITE. -/
def execHstAdmCfgWrite (accessor value : Nat) (s : State) : Out := .next (s.admCfg accessor value)

/-- HST_ADM_DB_WRITE: the PF's admin doorbells; after a failed start-up a doorbell write is ignored (R299). -/
def State.admDb (s : State) (a v : Nat) : State :=
  if a ≠ 0 then (if a = boardManager then s.badAccess hubMaster 2 else s)
  else if s.rd R.hstStatState 0 = hsFailed then s
  else (s.wr R.hstAdmDbCqHead 0 (bitsOf v 31 16)).wr R.hstAdmDbSqTail 0 (v % 2 ^ 16)

/-- HST_ADM_DB_WRITE. -/
def execHstAdmDbWrite (accessor value : Nat) (s : State) : Out := .next (s.admDb accessor value)

/-! ## Register writes (R8, R430) -/

/-- The bits of fields of given access codes. -/
def maskOf (row : RegRow) (f : Access → Bool) : Nat :=
  ((row.fields.filter fun e => f e.2.2).map fun e => 2 ^ (e.1 + 1) - 2 ^ e.2.1).sum

/-- A register after a write of `v` to the bits of `mask`, field by field by access code. An RWL field takes no value from a write: after the
lock the write is ignored (R8), and one that is accepted before it is never seen, since the field reads as zero until the image gives it its
value (R9, R346) or start-up has failed (R349) (DEDUCED, log entry 56). -/
def writeFields (row : RegRow) (old v mask : Nat) : Nat :=
  let put (o m : Nat) : Nat := (o ^^^ (o &&& m)) ||| (v &&& m)
  let rw := maskOf row fun x => x = .rw
  let w1c := maskOf row fun x => x = .w1c
  let w1s := maskOf row fun x => x = .w1s
  let o := put old (rw &&& mask)
  let o := o ^^^ (o &&& (w1c &&& mask &&& v))
  o ||| (w1s &&& mask &&& v)

/-- A write to a register with no row of its own. An RWL field after the lock is ignored and reported (LOCKED_WRITE); the report's SITE is the
hub's group 0, index 8, its ADDR the register's offset and its ACCESS 7 (DESIGN CHOICE, log entry 57: R8 gives none of the three). -/
def State.writeReg (s : State) (a off v mask : Nat) : State :=
  match findReg regMap off with
  | none => s
  | some (row, i) =>
    match s.keyAt a row i off with
    | none => s
    | some key =>
      let locked := s.isSet R.cfgBootLocked 0
      let s := if locked ∧ (maskOf row fun x => x = .rwl) &&& mask ≠ 0 then s.raise 0x001 (hubSite 0 8) (accMaster a) off 7 0 else s
      s.setReg key (BitVec.ofNat 64 (writeFields row (s.reg key).toNat v mask))

/-- A word of a function's MSI-X table is written. A vector that was pending is signalled once its mask goes (R294). -/
def State.msixWrite (s : State) (fn w v : Nat) : State :=
  let k := 2 ^ 14 * fn + w
  let s := s.updHost fun h => { h with msix := sset (msixDefault k) h.msix k v }
  if w % 4 = 3 ∧ !s.msixMasked fn (w / 4) ∧ sget false s.host.pba (2 ^ 14 * fn + w / 4) then
    (s.updHost fun h => { h with pba := sset false h.pba (2 ^ 14 * fn + w / 4) false }).irq fn (w / 4)
  else s

/-- REGISTER_WRITE: a write of 4 or 8 bytes. A register whose writes have a row of their own acts as that row says. A write of FLT_WDOG's low half that
kicks writes TIMEOUT, an RWL field, as well: after the lock it is reported as LOCKED_WRITE, and the kick counts (DESIGN CHOICE, log entry 85). -/
def State.registerWrite (s : State) (w : RegWrite) : State :=
  let a := w.accessor
  if !validAccess a w.offset w.size then s.badAccess (accMaster a) 2
  else
    let off := w.offset - w.offset % 8
    let high := decide (w.size = 4) && decide (w.offset % 8 = 4)
    let mask := if w.size = 8 then 2 ^ 64 - 1 else if high then 2 ^ 64 - 2 ^ 32 else 2 ^ 32 - 1
    let v := if w.size = 8 then w.value % 2 ^ 64 else if high then w.value % 2 ^ 32 * 2 ^ 32 else w.value % 2 ^ 32
    if isMsix off then
      (if off < 0xF8000 ∧ a < 64 then
        (let i := (off - 0xF0000) / 4
         let s := if high then s else s.msixWrite a i (v % 2 ^ 32)
         if w.size = 4 ∧ !high then s else s.msixWrite a (i + 1) (v / 2 ^ 32))
       else s)
    else if a = boardManager ∧ off ≠ R.updActivateAtTime.off ∧ off ≠ R.fltFirstValid.off ∧ off ≠ R.updStatSchedErr.off then
      s.badAccess hubMaster 2
    else if off = R.updActivateAtTime.off then
      s.activateAt a (if w.size = 8 then v else (s.rd R.updActivateAtTime 0 &&& (2 ^ 64 - 1 - mask)) ||| v)
    else if off = R.fltFirstValid.off then (if bitOf v 63 then s.firstClear a else s)
    else if off = R.hstAdmCfgEn.off then
      s.admCfg a ((((s.reg off).toNat ^^^ ((s.reg off).toNat &&& mask))) ||| v)
    else if off = R.hstAdmDbSqTail.off then s.admDb a ((((s.reg off).toNat ^^^ ((s.reg off).toNat &&& mask))) ||| v)
    else if (off = R.hstAdmSqBase.off ∨ off = R.hstAdmCqBase.off) ∧ a ≠ 0 then s
    else if off = R.mbxSendTagTag.off then (if high then s else s.mbxSend a (v % 2 ^ 32))
    else if off = R.mbxCtlPop.off then
      (let s := if bitOf v 1 ∧ s.mbxReceiver a then s.setMbx (s.sel a R.mbxSelChannel % 1024) [] else s
       if bitOf v 0 then s.mbxPop a else s)
    else if off = R.cfgResetModule.off then (if bitOf v 0 then s.cfgReset a else s)
    else if off = R.fltPulseHb.off then (if bitOf v 0 then s.heartbeat a else s)
    else if off = R.fltWdogKick.off then (s.writeReg a off v mask).kick a (if high then 0 else v % 256)
    else if off = R.pwrModeMode.off then
      (match s.winChan a off with
       | none => s
       | some d => if high then s
         else if v % 4 = 0 then s.modeRun a d
         else if v % 4 = 1 then s.modeNap a d
         else if v % 4 = 2 ∧ d = moduleDomain then s.modeWatch a
         else if isCore a then s else s.badAccess (accMaster a) 2)
    else if off = R.accClientselClient.off then (if high then s else s.accSelect a (v % 4096))
    else s.writeReg a off v mask

/-- REGISTER_WRITE. -/
def execRegisterWrite (w : RegWrite) (s : State) : Out := .next (s.registerWrite w)

/-! ## What a read returns (R8, R296, R317, R432) -/

/-- Whole hours since a time, saturating at 65,535. -/
def State.hoursSince (s : State) (t : Nat) : Nat := Nat.min 65535 ((s.now - t) / hourNs)

/-- Eight bytes of a function's MSI-X table or of its pending-bit array (Tables HOST-2, MAPS-1). -/
def State.msixRead (s : State) (fn off : Nat) : Nat :=
  if off < 0xF8000 then s.msixWord fn ((off - 0xF0000) / 4) + 2 ^ 32 * s.msixWord fn ((off - 0xF0000) / 4 + 1)
  else ((List.range 64).map fun i => b2n (sget false s.host.pba (2 ^ 14 * fn + 8 * (off - 0xF8000) + i)) * 2 ^ i).sum

/-- The value of an 8-byte register as an accessor reads it. Values that follow the clock or another structure are computed. -/
def State.readReg (s : State) (a off : Nat) : Nat :=
  if isMsix off then (if a < 64 then s.msixRead a off else 0)
  else match findReg regMap off with
  | none => 0
  | some (row, i) =>
    match s.keyAt a row i off with
    | none => 0
    | some key =>
      let raw := (s.reg key).toNat &&& (2 ^ 64 - 1 - maskOf row fun x => x = .wo || x = .w1s)
      let k := s.sel a R.mbxSelChannel % 1024
      if off = R.timNowNow.off then s.now
      else if 0x8000 ≤ off ∧ off < 0x18000 ∧ 0 < a ∧ a < 64 ∧ s.clientFn (i % 4096) ≠ some a then 0
      else if off = R.mbxHeadPtrPtr.off then
        (if s.mbxReceiver a then ((s.mbxQueue k).headD (0, 0)).1 else 0)
      else if off = R.mbxHeadTagTag.off then
        (if s.mbxReceiver a ∧ !(s.mbxQueue k).isEmpty then 2 ^ 63 + ((s.mbxQueue k).headD (0, 0)).2 else 0)
      else if off = R.mbxPeerStateQueued.off then
        (let en := s.isSet R.mbxBindEn k
         256 * (s.mbxQueue k).length + 4 * (if en then s.peerState (s.rd R.mbxBindSender k) else 3) +
           (if en then s.peerState (s.rd R.mbxBindReceiver k) else 3))
      else if off = R.accRecQword.off + 8 * i ∧ row.off = R.accRecQword.off then
        (match aget s.snaps a with
         | some b => fieldLe b (8 * i) 8
         | none => 0)
      else if off = R.fltPulseHb.off then
        (let age := match s.faults.hbAt with
           | some t => Nat.min 65535 ((s.now - t) / 1000)
           | none => 65535
         (putBits (BitVec.ofNat 64 raw) R.fltPulseHbAge.hi R.fltPulseHbAge.lo age).toNat)
      else if R.wftCstatAgeH.off ≤ off ∧ off < R.wftCstatAgeH.off + 2048 then
        (putBits (BitVec.ofNat 64 raw) R.wftCstatAgeH.hi R.wftCstatAgeH.lo (s.hoursSince (sget 0 s.health.roundAt i))).toNat
      else if off = R.wftStatOldestH.off then
        (let old := ((List.range 240).map fun cl => sget 0 s.health.roundAt (s.physAll cl)).foldl Nat.min s.now
         (putBits (BitVec.ofNat 64 raw) R.wftStatOldestH.hi R.wftStatOldestH.lo (s.hoursSince old)).toNat)
      else raw

end Sys2Proof.Machine
end

