-- ==== Sys2Proof/Machine/Rings.lean ====
section
/-! DEFINITION. Rings, doorbells, completions and the functions (14_host_interface.md R299 to R314, 19_security_update.md R412 to R414,
15_tenancy.md R331): the admin ring, SQ_TAIL and CQ_HEAD, descriptor fetch, completion entries with their digests and signals, resets
of functions, configuration requests, BAR4 and the requests that read accounts. -/

namespace Sys2Proof.Machine

/-! ## The admin ring (R314) -/

/-- Entries of the admin submission ring. -/
def State.admSqSize (s : State) : Nat := 2 ^ (s.rd R.hstAdmCfgSqLog2 0 + 4)

/-- May the next admin descriptor run: one waits, none runs, and its completion has a slot? -/
def State.admDue (s : State) : Bool :=
  s.isSet R.hstAdmCfgEn 0 && decide (s.rd R.hstAdmDbSqHead 0 ≠ s.rd R.hstAdmDbSqTail 0) && s.host.admPending.isEmpty &&
    decide ((s.host.admCqTail + 1) % 2 ^ (s.rd R.hstAdmCfgCqLog2 0 + 4) ≠ s.rd R.hstAdmDbCqHead 0)

/-- Takes the next admin descriptor off its ring: the state after, and its slot. -/
def State.admTake (s : State) : State × Nat :=
  let h := s.rd R.hstAdmDbSqHead 0
  (s.wr R.hstAdmDbSqHead 0 ((h + 1) % s.admSqSize), h)

/-- Is a ring size one that R302 allows? -/
def ringSize (n : Nat) : Bool := (List.range 13).any fun i => n = 2 ^ (i + 4)

/-- MSI-X vectors of a function (Table HOST-1). -/
def fnVectors (fn : Nat) : Nat := if fn = 0 then 2048 else 64

/-- Is an ADM_RING_CREATE descriptor free of reserved bits and of values out of range (R7, Table HOST-13)? -/
def goodCreate (d : List Byte) : Bool :=
  let f := fieldLe d
  decide (f 1 1 = 0) && decide (f 2 2 < 4096) && decide (f 8 8 % 4096 = 0) && decide (f 16 8 % 4096 = 0) && !bitOf (f 8 8) 63 &&
    !bitOf (f 16 8) 63 && ringSize (f 24 4) && ringSize (f 28 4) && decide (bitsOf (f 32 4) 30 20 = 0) &&
    decide (f 42 1 < 64) && decide (f 36 2 < fnVectors (f 42 1)) && decide (1 ≤ f 38 1) && decide (f 39 1 = 0) &&
    decide (f 40 2 ≤ 1023) && decide (leNat (slice d 43 21) = 0)

/-- The rings a create descriptor registers. -/
def ringOf (d : List Byte) : Ring where
  sqBase := fieldLe d 8 8
  cqBase := fieldLe d 16 8
  sqSize := fieldLe d 24 4
  cqSize := fieldLe d 28 4
  pasid := if bitOf (fieldLe d 32 4) 31 then some (fieldLe d 32 4 % 2 ^ 20) else none
  vector := fieldLe d 36 2
  irqCount := fieldLe d 38 1
  irqUs := fieldLe d 40 2
  sqTail := 0
  cqHead := 0
  phase := true
  unsignalled := 0
  firstUnsignalled := 0
  deleting := false

/-- The status of an ADM_RING_CREATE. -/
def State.createStatus (s : State) (d : List Byte) : Nat :=
  let c := fieldLe d 2 2
  let fn := fieldLe d 42 1
  if fieldLe d 0 1 ≠ 0x80 ∨ !goodCreate d then stBadDescriptor
  else if s.clientFn c ≠ some fn then stNotBound
  else if (s.ring c).isSome ∨ s.host.vfs < fn then stState
  else stOk

/-- Registers a client's rings. -/
def State.register (s : State) (c : Nat) (x : Ring) : State :=
  let s := s.updHost fun h => { h with rings := aput h.rings c x }
  (((s.wr R.hstRingReg c 1).wr R.hstRingCqFull c 0).wr R.hstRingSqHead c 0).wr R.hstRingCqTail c 0

/-- ADM_RING_CREATE: the next admin descriptor, `d`, registers a client's rings. A descriptor whose opcode is ADM_RING_DELETE is
the other command's. -/
def State.admCreate (s : State) (d : List Byte) : State :=
  if !s.admDue ∨ fieldLe d 0 1 = 0x81 then s
  else
    let st := s.createStatus d
    let t := s.admTake
    let s := if st = stOk then t.1.register (fieldLe d 2 2) (ringOf d) else t.1
    s.admPost (fieldLe d 2 2) (fieldLe d 4 4) st (fieldLe d 0 1) t.2

/-- ADM_RING_CREATE. -/
def execAdmRingCreate (desc : List Byte) (s : State) : Out := .next (s.admCreate desc)

/-- A request ends as under R300: with no entry, at its next boundary. One whose final entry was due is gone with it. -/
def State.orphanReq (s : State) (k : ReqKey) : State :=
  match s.req? k with
  | none => s
  | some r => if r.ended then s.dropReq k else (s.updReq k fun r => { r with orphan := true }).cancelReq k

/-- Every request of a client ends as under R300. -/
def State.orphanClient (s : State) (c : Nat) : State :=
  ((s.host.reqs.filter fun r => r.client = c).map fun r => (r.client, r.id)).foldl State.orphanReq s

/-- The status with which an ADM_RING_DELETE fails, where it does. Entries that the hub holds are never dropped (R308), so without FORCE they keep the rings
as requests in flight do (DEDUCED, log entry 91). -/
def State.deleteStatus (s : State) (d : List Byte) : Option Nat :=
  let c := fieldLe d 2 2
  if 1 < fieldLe d 1 1 ∨ 4096 ≤ c ∨ leNat (slice d 8 56) ≠ 0 then some stBadDescriptor
  else if (s.ring c).isNone then some stState
  else if (s.inflight c ≠ 0 ∨ s.host.cq.any fun e => e.client = c) ∧ fieldLe d 1 1 = 0 then some stState
  else none

/-- ADM_RING_DELETE: the next admin descriptor deregisters a client's rings; with FORCE the client's requests end as under R300 and the
delete completes once they have ended. -/
def State.admDelete (s : State) (d : List Byte) : State :=
  if !s.admDue ∨ fieldLe d 0 1 ≠ 0x81 then s
  else
    let c := fieldLe d 2 2
    let st := s.deleteStatus d
    let t := s.admTake
    match st with
    | some st => t.1.admPost c (fieldLe d 4 4) st 0x81 t.2
    | none =>
      let s := t.1.updHost fun h => { h with
        rings := amod h.rings c fun x => { x with deleting := true }
        admPending := h.admPending ++ [(c, fieldLe d 4 4, t.2)]
        fetched := h.fetched.filter fun f => f.client ≠ c
        cq := h.cq.filter fun e => e.client ≠ c }
      (s.orphanClient c).admSettle c

/-- ADM_RING_DELETE. -/
def execAdmRingDelete (desc : List Byte) (s : State) : Out := .next (s.admDelete desc)

/-! ## Doorbells (R303, R304) -/

/-- Is a doorbell write accepted: from the bound function, the rings registered, the value below the ring's size? -/
def State.doorbellOk (s : State) (fn c v : Nat) (size : Ring → Nat) : Bool :=
  match s.ring c with
  | none => false
  | some r => s.clientFn c = some fn && !r.deleting && decide (v < size r)

/-- A doorbell write that is not accepted. -/
def State.doorbellDenied (s : State) (fn : Nat) : State :=
  (s.inc R.hstErrcntBadDoorbell 0 1).raise 0x0C1 (hubSite 5 14) fn 0 2 0

/-- A doorbell wakes the module from Watch, and aborts an entry that is under way (R304, R364, Table POWS-7). -/
def State.doorbellWake (s : State) (fn : Nat) : State :=
  if s.rd R.pwrStatModule 0 = msEntering then s.watchAbort fn 0x26 (hubSite 5 14) else s.wakeWatch [.doorbell]

/-- SQ_TAIL. -/
def State.sqTail (s : State) (fn c v : Nat) : State :=
  if s.rd R.hstStatState 0 ≠ hsReady then s
  else if !s.doorbellOk fn c v Ring.sqSize then s.doorbellDenied fn
  else (s.updHost fun h => { h with rings := amod h.rings c fun r => { r with sqTail := v } }).doorbellWake fn

/-- SQ_TAIL. -/
def execSqTail (fn client value : Nat) (s : State) : Out := .next (s.sqTail fn client value)

/-- CQ_HEAD: the host releases completion entries; held entries may go on (R308). -/
def State.cqHead (s : State) (fn c v : Nat) : State :=
  if s.rd R.hstStatState 0 ≠ hsReady then s
  else if !s.doorbellOk fn c v Ring.cqSize then s.doorbellDenied fn
  else
    let s := s.updHost fun h => { h with rings := amod h.rings c fun r => { r with cqHead := v } }
    let full : Bool := match s.ring c with
      | some r => (s.rd R.hstRingCqTail c + 1) % r.cqSize = r.cqHead
      | none => false
    (if full then s else s.wr R.hstRingCqFull c 0).doorbellWake fn

/-- CQ_HEAD. -/
def execCqHead (fn client value : Nat) (s : State) : Out := .next (s.cqHead fn client value)

/-- DESCRIPTOR_FETCH: the next descriptor of a client's ring is read from host memory, in ring order. Fetching stops in Watch and its
entry, in an activation drain, after a FATAL fault, while entries are held, and at 4,096 requests in flight. -/
def State.fetch (s : State) (c : Nat) : State :=
  match s.ring c with
  | none => s
  | some r =>
    let h := s.rd R.hstRingSqHead c
    if s.rd R.hstStatState 0 ≠ hsReady ∨ !s.moduleRun ∨ s.faults.fetchStopped ∨ s.upd.draining.isSome ∨ r.deleting ∨
        s.isSet R.hstRingCqFull c ∨ 4096 ≤ s.inflight c + (s.host.fetched.filter fun f => f.client = c).length ∨ h = r.sqTail then s
    else
      let s := s.updHost fun x => { x with
        fetched := x.fetched ++ [⟨c, h, none, false, false, false⟩]
        reads := x.reads ++ [⟨s.fnOf c, r.pasid, r.sqBase + 64 * h, 64, .descriptor c⟩] }
      s.wr R.hstRingSqHead c ((h + 1) % r.sqSize)

/-- DESCRIPTOR_FETCH. -/
def execDescriptorFetch (client : Nat) (s : State) : Out := .next (s.fetch client)

/-! ## Digest records (R412 to R414) -/

/-- A byte string with `n` bytes from offset `o` set to zero. -/
def zeroAt (bs : List Byte) (o n : Nat) : List Byte :=
  (List.range bs.length).map fun i => if o ≤ i ∧ i < o + n then 0 else bs.getD i 0

/-- The address fields of an opcode's parameter block: their offsets (Tables HOST-7, HOST-10 to HOST-12), each of 8 bytes. -/
def addressFields (op len : Nat) : List Nat :=
  match op with
  | 0x06 => [0, 16]
  | 0x07 => [24]
  | 0x08 => [16, 32, 40, 48]
  | 0x09 => [0, 40, 208, 224, 232, 240] ++ (if 768 < len then [824, 840, 848, 856] else [])
  | 0x0A => [56, 72, 80, 88]
  | 0x10 => [8, 16, 24]
  | 0x28 => (List.range (len / 16)).map fun i => 16 * i + 8
  | _ => []

/-- The REQUEST fields of an opcode's parameter block (Table SRCH-4, in OP_SEARCH and OP_RETRIEVE). -/
def requestFields (op : Nat) : List Nat :=
  match op with
  | 0x04 => [0]
  | 0x09 => [128]
  | _ => []

/-- INPUT_DIGEST (R413). -/
def inputDigest (r : Req) : List Byte :=
  let p := (addressFields r.opcode r.param.length).foldl (fun p o => zeroAt p o 8) r.param
  let p := (requestFields r.opcode).foldl (fun p o => zeroAt p o 4) p
  digest256 (p ++ r.inBufs.flatMap fun b => leBytes 8 b.length ++ b)

/-- What a buffer holds after the writes of a request. -/
def overlay (img : List (Nat × List Byte)) (n : Nat) : List Byte :=
  img.foldl (fun m e => (padTo e.1 (m.take e.1) ++ e.2 ++ m.drop (e.1 + e.2.length)).take n) (List.replicate n 0)

/-- OUTPUT_DIGEST (R414). -/
def outputDigest (r : Req) : List Byte :=
  digest256 (r.outMask.foldl (fun b e => zeroAt b e.1 e.2) (overlay r.outImg r.outBytes) ++
    r.recMask.foldl (fun b e => zeroAt b e.1 e.2) (overlay r.recImg r.recBytes))

/-- Entries of a digest record in ascending order of their first field. -/
def inOrder (n : Nat) (l : List (List Byte)) : List (List Byte) := sortBy (fun a b => fieldLe a 0 n < fieldLe b 0 n) l

/-- The digest record of a request (Tables SECU-4, SECU-5). -/
def State.digestRecord (s : State) (r : Req) : List Byte :=
  let gen := decide (r.opcode = 0x09) && bitOf (r.p 13 1) 0
  leBytes 4 0x54534744 ++ leBytes 2 1 ++ leBytes 1 r.opcode ++ leBytes 1 (b2n gen) ++ leBytes 2 (Nat.max 1 r.modules) ++
    leBytes 2 r.shapes.length ++ leBytes 2 r.shardRefs.length ++ leBytes 2 r.objRefs.length ++ padTo 32 s.boot.fwDigest ++
    inputDigest r ++ outputDigest r ++ leBytes 8 r.seed ++ List.replicate 8 0 ++
    (inOrder 2 r.shapes).flatten ++ (inOrder 2 r.shardRefs).flatten ++ (inOrder 4 r.objRefs).flatten

/-- The digest of a request becomes a leaf of the open batch (R416). -/
def State.leafFor (s : State) (k : ReqKey) : State :=
  match s.req? k with
  | none => s
  | some r =>
    let rec' := s.digestRecord r
    s.addLeaf ⟨k.1, k.2, digest256 rec', rec'⟩

/-! ## Completions (R307 to R310) -/

/-- A client's vector is signalled. -/
def State.signal (s : State) (c : Nat) : State :=
  match s.ring c with
  | none => s
  | some r => (s.irq (s.fnOf c) r.vector).updHost fun h => { h with rings := amod h.rings c fun r => { r with unsignalled := 0 } }

/-- The 32 bytes of a completion entry (Table HOST-8). -/
def State.entryBytes (s : State) (e : CqEntry) (phase : Bool) : List Byte :=
  leBytes 4 e.request ++ leBytes 2 e.status ++ leBytes 2 (s.rd R.hstRingSqHead e.client) ++ leBytes 4 (e.count % 2 ^ 32) ++
    leBytes 1 e.opcode ++
    leBytes 1 (b2n phase + 2 * b2n e.interim + 4 * b2n e.event + 8 * b2n e.record + 16 * b2n e.digest) ++ leBytes 2 e.slot ++
    leBytes 4 (e.outBytes % 2 ^ 32) ++ leBytes 4 (e.detail % 2 ^ 32) ++ leBytes 8 (s.now % 2 ^ 64)

/-- Writes an entry to its ring's next slot, which may fill the ring (R308), and signals by the moderation of R309. -/
def State.writeEntry (s : State) (e : CqEntry) (r : Ring) : State :=
  let c := e.client
  let t := s.rd R.hstRingCqTail c
  let s := if e.event then s else s.charge c fun x => { x with hostWr := x.hostWr + 32 }
  let s := s.updHost fun h => { h with
    dma := h.dma ++ [⟨s.fnOf c, r.pasid, r.cqBase + 32 * t, false, s.entryBytes e r.phase⟩]
    cq := dropFirst (fun x => x.client = c) h.cq
    rings := amod h.rings c fun r => { r with
      phase := if t + 1 = r.cqSize then !r.phase else r.phase
      unsignalled := r.unsignalled + 1
      firstUnsignalled := if r.unsignalled = 0 then s.now else r.firstUnsignalled } }
  let s := s.wr R.hstRingCqTail c ((t + 1) % r.cqSize)
  let s := if (t + 2) % r.cqSize = r.cqHead then s.wr R.hstRingCqFull c 1 else s
  if s.fnOf c ∉ s.host.d3 ∧ (r.irqCount ≤ r.unsignalled + 1 ∨ r.irqUs = 0 ∨ e.irq ∨ e.event) then s.signal c else s

/-- After a final entry the request is out of flight; its digest joins the open batch, or reads of a digest that does not come end; an ENTER_WATCH that completed begins the entry
(R362). -/
def State.afterFinal (s : State) (e : CqEntry) : State :=
  let k : ReqKey := (e.client, e.request)
  let s := if e.digest then s.leafFor k else s
  let s := s.dropReq k
  let lost := if e.digest then [] else s.sec.reads.filter fun x => (x.1, x.2.2) = k && !s.leafWaits x.1 x.2.2
  let s := lost.foldl (fun s x => (s.updSec fun y => { y with reads := y.reads.filter fun z => z ≠ x }).endReq (x.1, x.2.1) stState 0 0) s
  if e.opcode = 0x38 ∧ e.status = stOk ∧ s.power.watchAsked = some e.client ∧ s.moduleRun then s.wr R.pwrStatModule 0 msEntering else s

/-- COMPLETION_POST: the oldest entry of a client is written, unless its ring is full (R308) or its page does not translate (R301). -/
def State.post (s : State) (c : Nat) : State :=
  match s.ring c, s.host.cq.find? fun e => e.client = c with
  | some r, some e =>
    let t := s.rd R.hstRingCqTail c
    if (t + 1) % r.cqSize = r.cqHead then s.wr R.hstRingCqFull c 1
    else if s.writeFails (s.fnOf c) (r.cqBase + 32 * t) 32 then
      ((s.raise 0x0C2 (hubSite 5 14) (s.fnOf c) 0 2 0).deregister c).orphanClient c
    else
      let s := s.writeEntry e r
      if e.event || e.interim then s
      else if (s.req? (e.client, e.request)).any fun x => x.ended && x.slot = e.slot then s.afterFinal e
      else s
  | _, _ => s

/-- IRQ_MODERATION_TIMEOUT: IRQ_US µs after the first entry not yet signalled. -/
def State.irqTimeout (s : State) (c : Nat) : State :=
  match s.ring c with
  | none => s
  | some r =>
    if r.unsignalled ≠ 0 ∧ r.firstUnsignalled + 1000 * r.irqUs ≤ s.now ∧ s.fnOf c ∉ s.host.d3 then s.signal c else s

/-- IRQ_MODERATION_TIMEOUT. -/
def execIrqModerationTimeout (client : Nat) (s : State) : Out := .next (s.irqTimeout client)

/-! ## Functions (R299, R300, R309) -/

/-- The clients of a function that have rings or requests. -/
def State.fnClients (s : State) (fn : Nat) : List Nat :=
  (s.host.rings.map (fun (e : Nat × Ring) => e.1) ++ s.host.reqs.map (·.client)).eraseDups.filter fun c => s.clientFn c = some fn

/-- The requests whose host reads a reset of their function has stopped. -/
def State.stopReads (s : State) (fn : Nat) : State :=
  let ks : List ReqKey := s.host.reads.filterMap fun r => match r.need with
    | .request c q => if r.fn = fn then some (c, q) else none
    | _ => none
  let s := s.updHost fun h => { h with reads := h.reads.filter fun r => r.fn ≠ fn || (match r.need with
    | .prefetch _ _ => true
    | _ => false) }
  ks.foldl (fun s k => s.endReq k stCancelled 0 0) s

/-- A reset of a function acts on every client bound to it: the rings are deregistered, DMA stops, and requests end at their next
boundary without an entry (R300). -/
def State.fnReset (s : State) (fn : Nat) (how : FnReset) : State :=
  let s := (s.fnClients fn).foldl (fun s c => (s.deregister c).orphanClient c) s
  let s := s.stopReads fn
  s.updHost fun h => { h with
    d3 := h.d3.filter (· ≠ fn)
    ats := h.ats.filter (· ≠ fn)
    noXlat := h.noXlat.filter fun e => e.1 ≠ fn
    msix := sclear (fun k => k / 2 ^ 14 = fn) h.msix
    pba := sclear (fun k => k / 2 ^ 14 = fn) h.pba
    linkL0 := if how = .linkDown then false else h.linkL0 }

/-- FUNCTION_LEVEL_RESET: a function-level reset of the PF in Watch is a wake cause too (R364). -/
def State.functionReset (s : State) (fn : Nat) (how : FnReset) : State :=
  let s := s.fnReset fn how
  if fn = 0 ∧ how = .flr then s.wakeWatch [.cfgReset] else s

/-- FUNCTION_LEVEL_RESET. -/
def execFunctionLevelReset (fn : Nat) (how : FnReset) (s : State) : Out := .next (s.functionReset fn how)

/-- FUNCTION_D0_RETURN: entries pending when a function returns to D0 are signalled then. -/
def State.d0Return (s : State) (fn : Nat) : State :=
  if fn ∉ s.host.d3 then s
  else
    let s := s.updHost fun h => { h with d3 := h.d3.filter (· ≠ fn) }
    (s.host.rings.filter fun (e : Nat × Ring) => e.2.unsignalled ≠ 0 && s.fnOf e.1 = fn).foldl (fun s (e : Nat × Ring) => s.signal e.1) s

/-- FUNCTION_D0_RETURN. -/
def execFunctionD0Return (fn : Nat) (s : State) : Out := .next (s.d0Return fn)

/-- Answers a configuration request. -/
def State.cfgAnswer (s : State) (a : BarAnswer) : State := s.updHost fun h => { h with answers := h.answers ++ [a] }

/-- The effect of a configuration write. VFs are enabled and disabled through the PF, and not after a failed start-up. -/
def State.cfgEffect (s : State) (fn : Nat) (q : CfgReq) : State :=
  match q with
  | .read => s
  | .toD3hot => s.updHost fun h => { h with d3 := if fn ∈ h.d3 then h.d3 else h.d3 ++ [fn] }
  | .enableVfs n => if fn = 0 ∧ s.rd R.hstStatState 0 = hsReady ∧ s.host.vfs = 0 then s.updHost fun h => { h with vfs := Nat.min n 63 } else s
  | .disableVfs =>
    if fn = 0 then ((List.range s.host.vfs).foldl (fun s i => s.fnReset (i + 1) .flr) s).updHost fun h => { h with vfs := 0 } else s
  | .resizeBar4 n => if fn = 0 ∧ 30 ≤ n ∧ n ≤ 38 then s.updHost fun h => { h with barLog2 := n } else s
  | .ats on => s.updHost fun h => { h with ats := if on then (if fn ∈ h.ats then h.ats else h.ats ++ [fn]) else h.ats.filter (· ≠ fn) }

/-- CONFIGURATION_REQUEST (R299): Request Retry Status until the module is ready; after a failed start-up the PF answers. -/
def State.configRequest (s : State) (fn : Nat) (q : CfgReq) : State :=
  let st := s.rd R.hstStatState 0
  if !s.board.perstHigh ∨ s.board.off then s
  else if st = hsReady then (if s.host.vfs < fn then s else (s.cfgEffect fn q).cfgAnswer .configDone)
  else if st = hsFailed ∧ fn = 0 then (s.cfgEffect fn q).cfgAnswer .configDone
  else s.cfgAnswer .retry

/-- CONFIGURATION_REQUEST. -/
def execConfigurationRequest (fn : Nat) (req : CfgReq) (s : State) : Out := .next (s.configRequest fn req)

/-! ## BAR4 (R298) -/

/-- Does a BAR4 access reach device memory: backed, its granule owned by a partition of HST_WINPART that is not resetting? -/
def State.windowOk (s : State) (a n : Nat) : Bool :=
  decide (0 < n) && [a, a + (n - 1)].all fun x => s.backed x && (match s.ownerOf x with
    | some p => bitOf (s.rd R.hstWinpartMask 0) p && decide (s.rd R.cfgPstatState p ≠ psReset)
    | none => false)

/-- The device address of a BAR4 offset. -/
def State.windowAddr (s : State) (o : Nat) : Nat := s.rd R.hstWinBase 0 * 2 ^ 26 + o

/-- Is an offset outside BAR4 as it is sized now (Table HOST-2)? No access to BAR4 has it, and the module answers as to any address that is not its own. -/
def State.outsideBar4 (s : State) (o n : Nat) : Bool := decide (2 ^ s.host.barLog2 < o + n)

/-- BAR4_READ: data, poisoned data with EP set, or Completer Abort. -/
def State.bar4Read (s : State) (o n : Nat) : State :=
  let a := s.windowAddr o
  if s.outsideBar4 o n then s.cfgAnswer .unsupported
  else if !s.windowOk a n then (s.badAccess 0 1).cfgAnswer .completerAbort
  else
    let d := s.readUnit a n hubMaster
    d.1.cfgAnswer (if d.2.2 ≠ 0 then .poisonedData d.2.1 else .data d.2.1)

/-- BAR4_READ. -/
def execBar4Read (offset n : Nat) (s : State) : Out := .next (s.bar4Read offset n)

/-- Does a write of `n` bytes at `a` fill only part of a word that reads as poisoned (R263, R298)? -/
def State.mergesPoison (s : State) (a n : Nat) : Bool :=
  let bad (x : Nat) : Bool := (readWord s.detects s.mem.cells (s.devWord (x / 16 * 16))).bytes.2
  (decide (a % 16 ≠ 0 ∨ n < 16) && bad a) || (decide ((a + n) % 16 ≠ 0) && bad (a + (n - 1)))

/-- BAR4_WRITE: merged by read-modify-write, through the controllers of the words that it does not fill; a merge into a poisoned word is discarded and reported; a payload with the EP bit creates poison
(Table CODE-5). -/
def State.bar4Write (s : State) (o : Nat) (bs : List Byte) (ep : Bool) : State :=
  let a := s.windowAddr o
  if s.outsideBar4 o bs.length then s
  else if !s.windowOk a bs.length then s.badAccess 0 2
  else
    let s := if ep then s else ((s.edgeDev a bs.length).foldl (fun s w => (s.readCtl w hubMaster []).1) s)
    let s := if !ep ∧ s.mergesPoison a bs.length then s.badAccess 0 2 else s
    let s := if ep then s.raise 0x043 (hubSite 5 14) 0 a 2 0 else s
    s.writeDevP a bs ep

/-- BAR4_WRITE. -/
def execBar4Write (offset : Nat) (bytes : List Byte) (ep : Bool) (s : State) : Out := .next (s.bar4Write offset bytes ep)

/-! ## OP_ACCOUNT_READ (R331) -/

/-- OP_ACCOUNT_READ writes one snapshot of the accounting record of the client it names. -/
def State.accountRead (s : State) (k : ReqKey) : State :=
  match s.req? k with
  | none => s
  | some r => if r.ended ∨ r.opcode ≠ 0x30 then s else (s.putOut k 0 (s.accRecord (r.inl 0 2 % 4096))).endReq k stOk 256 0

/-- OP_ACCOUNT_READ. -/
def execOpAccountRead (client req : Nat) (s : State) : Out := .next (s.accountRead (client, req))

end Sys2Proof.Machine
end

