-- ==== Sys2Proof/Machine/Flash.lean ====
section
/-! DEFINITION. The flash tier (11_memory_tiers.md R231 to R243, R250): the translation layer, stripes, sector reads with retry and
rebuild, writes and their acknowledgement, wear levelling, read disturb and the rebuilding of retired dies. -/

namespace Sys2Proof.Machine

/-! ## Map entries (Table MEMT-8) -/

/-- Flash channel of a map entry. -/
def entChan (e : Nat) : Nat := e % 32
/-- Die within the channel. -/
def entDie (e : Nat) : Nat := bitsOf e 8 5
/-- Does it hold data? -/
def entValid (e : Nat) : Bool := bitOf e 35
/-- Stored in SLC mode? -/
def entSlc (e : Nat) : Bool := bitOf e 34
/-- The key of its stripe: SLC, unit, block, plane and die. -/
def entStripe (e : Nat) : Nat := bitsOf e 34 5
/-- The key of its block: block, plane, die and channel. -/
def entBlock (e : Nat) : Nat := e % 2 ^ 25
/-- The entry of a stripe's unit on a channel. -/
def mkEntry (stripe chan : Nat) : Nat := 2 ^ 35 + 32 * stripe + chan

/-- Site code of a flash channel, and master ID of the core that runs it: core c runs channels 2c and 2c + 1. -/
def flashSite (ch : Nat) : Nat := hubSite (2 + ch / 16) (ch % 16)
/-- Core of a channel. -/
def flashCore (ch : Nat) : Nat := ch / 2
/-- Master of a flash core. -/
def flashMaster (ch : Nat) : Nat := 0x500 + flashCore ch

/-- Changes the flash tier. -/
def State.updFlash (s : State) (f : FlashState → FlashState) : State := s.putFlash (f s.flash)

/-- Dies of a channel and blocks of a plane (Table MEMT-6; the blocks follow from the raw capacity: DEDUCED, log entry 36). -/
def State.flashDies (s : State) : Nat := if s.gradeM then 8 else 12
/-- Blocks of a plane. -/
def State.flashBlocks (s : State) : Nat := if s.gradeM then 910 else 1820
/-- Map units of a block. -/
def blockUnits (slc : Bool) : Nat := if slc then 96 else 288

/-- Is the die on a channel retired? -/
def State.dieRetired (s : State) (ch die : Nat) : Bool := bitOf (s.rd R.flsChstatDieRetired ch) die

/-- The entry that a read of a map unit uses: the newest write issued, else the map (Table MEMT-11). -/
def State.flashEntry (s : State) (u : Nat) : Nat :=
  match s.flash.writes.reverse.find? fun w => w.unit = u with
  | some w => w.entry
  | none => sget 0 s.flash.map u

/-- The sector of an LSN; none where it was never written or has been trimmed. -/
def State.flashSector (s : State) (lsn : Nat) : Option Sector :=
  let e := s.flashEntry (lsn / 16)
  if entValid e then ((aget s.flash.medium e).getD [])[lsn % 16]? else none

/-- A sector of zeros. -/
def zeroSector (lsn part : Nat) : Sector := ⟨List.replicate 4096 0, lsn, false, false, false, part, 0, 0, 0⟩

/-- Bytes 0 to 4,107 of a sector as stored (Table MEMT-7, R240): tags and parity are computed over ciphertext. -/
def Sector.covered (x : Sector) : List Byte :=
  (if x.encrypted then flashCipher x.part x.owner x.lsn x.data else x.data) ++ leBytes 5 x.lsn ++
    leBytes 1 (b2n x.poison + 2 * b2n x.encrypted + 4 * b2n x.slc) ++ leBytes 1 x.part ++ leBytes 1 0 ++ leBytes 4 x.seq

/-- A flash core adds the tag's CRC. -/
def Sector.sealed (x : Sector) : Sector := { x with crc := crc32c x.covered }

/-- The 4,368 bytes of a sector on the medium. -/
def Sector.onMedium (x : Sector) : List Byte :=
  let b := x.covered ++ leBytes 4 x.crc
  slice (b ++ slice (Config.ldpc b) 0 256) 0 4368

/-- Do the LSN and CRC of a tag agree with a read of an LSN (R233)? -/
def Sector.tagOk (x : Sector) (lsn : Nat) : Bool := x.lsn = lsn && x.crc = crc32c x.covered

/-- The parity of map units: 16 sectors as stored (R235). -/
def parityUnit (units : List (List Sector)) : List (List Byte) :=
  (List.range 16).map fun j => units.foldl (fun p u => xorBytes p (match u[j]? with
    | some x => x.onMedium
    | none => List.replicate 4368 0)) (List.replicate 4368 0)

/-- Is the unit of a map entry held in the hub reserve, because its stripe is open (R235)? -/
def State.inReserve (s : State) (e : Nat) : Bool := match aget s.flash.stripes (entStripe e) with
  | some x => !x.closed && decide (e ∈ x.units)
  | none => false

/-! ## Reads (R234, R238, R239) -/

/-- A sector read is counted on its channel and its block. -/
def State.countRead (s : State) (e : Nat) : State :=
  (s.inc R.flsChstatReads (entChan e) 1).updFlash fun f =>
    { f with reads := sset 0 f.reads (entBlock e) (sget 0 f.reads (entBlock e) + 1) }

/-- A block is queued for relocation. -/
def State.queueReloc (s : State) (b : Nat) : State :=
  s.updFlash fun f => { f with relocate := if b ∈ f.relocate then f.relocate else f.relocate ++ [b] }

/-- The first decode succeeds. -/
def goodTrial : SectorTrial := ⟨true, none, true⟩

/-- How a read of sector `j` of the unit at a map entry goes on the medium: well, unless a FLASH_SECTOR_READ of it has gone otherwise since it was
programmed (DESIGN CHOICE, log entry 37). -/
def State.condition (s : State) (e j : Nat) : SectorTrial := sget goodTrial s.flash.cond (16 * e + j)

/-- Does a retry of R239 succeed: one of at most 8? -/
def retryGood (t : SectorTrial) : Bool := match t.retryOk with
  | some n => decide (1 ≤ n ∧ n ≤ 8)
  | none => false

/-- The 31 other units of a map entry's stripe. -/
def stripePeers (e : Nat) : List Nat := ((List.range 32).map fun c => mkEntry (entStripe e) c).filter fun x => entChan x ≠ entChan e

/-- Are the 31 other units of its stripe readable at sector `j`: the stripe has its parity, and no data unit or parity unit of it lies on a retired die or
reads badly (R235, R239)? -/
def State.peersRead (s : State) (e j : Nat) : Bool := match aget s.flash.stripes (entStripe e) with
  | none => false
  | some x => !x.parity.isEmpty && (stripePeers e).all fun y =>
      (y ∉ x.units && entChan y ≠ (bitsOf (entStripe e) 19 6 + bitsOf (entStripe e) 28 20) % 32) ||
        (!s.dieRetired (entChan y) (entDie y) && ((s.condition y j).ldpcOk || retryGood (s.condition y j)))

/-- The outcome of a read of sector `j` of a unit by the three steps of R239: poisoned or not. A tag that disagrees (`tag` false) fails every step like an
LDPC failure (R233). A unit on a retired die is rebuilt at once; a rebuild reads the 31 other units, and while the stripe is open the copy in the hub reserve
serves it (DEDUCED from R235, log entry 37). -/
def State.readSteps (s : State) (e j : Nat) (tag : Bool) (t : SectorTrial) : State × Bool :=
  let ch := entChan e
  let gone := s.dieRetired ch (entDie e)
  let say (s : State) (k : Nat) : State := s.raise k (flashSite ch) (flashMaster ch) (entDie e) 1 0
  let s := s.countRead e
  if t.ldpcOk && tag && !gone then (s, false)
  else
    let s := if gone then s else s.incSat R.flsChstatRetries ch 1
    if tag && !gone && retryGood t then (say s 0x148, false)
    else
      let held := s.inReserve e
      let peers := t.peersOk && s.peersRead e j
      let s := if held then s else (stripePeers e).foldl State.countRead s
      if tag && (peers || held) then
        let s := say (s.inc R.flsStatRebuilds 0 1) 0x149
        (if gone then s else s.queueReloc (entBlock e), false)
      else (say s 0x14A, true)

/-- The flash core reports the poison that it returns for a sector (R264). -/
def State.sectorPoison (s : State) (e : Nat) : State := s.raise 0x043 (flashSite (entChan e)) (flashMaster (entChan e)) 0 1 0

/-- A sector read for a partition: its data, every word poisoned where the rebuild failed or the sector carries POISON. A sector of
another partition's extent is a bounds fault. While a grant of the flash core stands for another partition the read waits (R26). -/
def State.readSector (s : State) (lsn part : Nat) (t : SectorTrial) : State :=
  let arb := arbFlash (flashCore (entChan (s.flashEntry (lsn / 16))))
  if !s.mayPass arb part then s
  else
  let s := s.passed arb
  match s.flashSector lsn with
  | none => s.updFlash fun f => { f with out := f.out ++ [⟨lsn, part, List.replicate 4096 0, false⟩] }
  | some x =>
    let e := s.flashEntry (lsn / 16)
    if x.part ≠ part then s.raise 0x002 (flashSite (entChan e)) (flashMaster (entChan e)) 0 1 0
    else
      let r := s.readSteps e (lsn % 16) (x.tagOk lsn) t
      let bad := r.2 || x.poison
      let s := if bad then r.1.sectorPoison e else r.1
      s.updFlash fun f => { f with
        cond := sset goodTrial f.cond (16 * e + lsn % 16) t
        out := f.out ++ [⟨lsn, part, if bad then List.replicate 4096 0 else x.data, bad⟩] }

/-- FLASH_SECTOR_READ. -/
def execFlashSectorRead (lsn part : Nat) (trial : SectorTrial) (s : State) : Out := .next (s.readSector lsn part trial)

/-- A command reads `n` sectors from an LSN for a client: the state with reads and charges counted, data and poison. -/
def State.flashFetch (s : State) (c lsn n : Nat) : State × List Byte × Bool :=
  let s := s.charge c fun a => { a with flashRd := a.flashRd + 4096 * n, flashNs := a.flashNs + Config.flashBusy false n }
  (List.range n).foldl (fun r i =>
    match r.1.flashSector (lsn + i) with
    | none => (r.1, r.2.1 ++ List.replicate 4096 0, r.2.2)
    | some x =>
      let e := r.1.flashEntry ((lsn + i) / 16)
      let t := r.1.readSteps e ((lsn + i) % 16) (x.tagOk (lsn + i)) (r.1.condition e ((lsn + i) % 16))
      let bad := x.poison || t.2
      (if bad then t.1.sectorPoison e else t.1, r.2.1 ++ (if bad then List.replicate 4096 0 else x.data), r.2.2 || bad)) (s, [], false)

/-- A command copies sectors to device memory: every word of a sector that reads poisoned is written poisoned (R233). -/
def State.flashToDev (s : State) (c dst : Nat) (lsns : List Nat) : State :=
  (List.range lsns.length).foldl (fun s i =>
    let d := s.flashFetch c (lsns.getD i 0) 1
    d.1.writeDevP (dst + 4096 * i) d.2.1 d.2.2) s

/-! ## Writes (R233, R235, R236) -/

/-- The channels that hold a stripe's data, in order: all but the parity channel and those whose die is retired. -/
def State.dataChans (s : State) (st : Nat) : List Nat :=
  let block := bitsOf st 19 6
  let unit := bitsOf st 28 20
  (List.range 32).filter fun c => c ≠ (block + unit) % 32 && !s.dieRetired c (st % 16)

/-- Units written of a stripe. -/
def State.stripeUnits (s : State) (st : Nat) : List Nat := ((aget s.flash.stripes st).map fun x => x.units).getD []

/-- Mirrors the erase counts of a channel in FLS_CHWEAR. -/
def State.mirrorWear (s : State) (ch : Nat) : State :=
  let l := (s.flash.erases.filter fun e => e.1 % 32 = ch).map (·.2)
  let s := s.wr R.flsChwearEraseMax ch (l.foldl Nat.max 0)
  s.wr R.flsChwearEraseMin ch (if l.length < s.flashDies * 4 * s.flashBlocks then 0 else l.foldl Nat.min (l.headD 0))

/-- A block is erased on every channel: bits [24:5] of its entries. -/
def State.eraseBlock (s : State) (b : Nat) : State :=
  let s := s.updFlash fun f => { f with
    stripes := f.stripes.filter fun (e : Nat × Stripe) => e.1 % 2 ^ 20 ≠ b
    medium := sclear (fun k => k % 2 ^ 25 / 32 = b) f.medium
    cond := sclear (fun k => k / 16 % 2 ^ 25 / 32 = b) f.cond
    erases := (List.range 32).foldl (fun m c => sset 0 m (32 * b + c) (sget 0 m (32 * b + c) + 1)) f.erases
    reads := sclear (fun k => k / 32 = b) f.reads
    eraseAfter := f.eraseAfter.filter (· ≠ b) }
  (List.range 32).foldl State.mirrorWear s

/-- Does a map entry or an unacknowledged write name the block? -/
def State.blockLive (s : State) (b : Nat) : Bool :=
  (s.flash.map.any fun e => e.2 % 2 ^ 25 / 32 = b) || (s.flash.writes.any fun w => w.entry % 2 ^ 25 / 32 = b) ||
    s.flash.openStripe.any (fun st => st % 2 ^ 20 = b) || s.flash.openSlc.any (fun st => st % 2 ^ 20 = b)

/-- The free block of lowest erase count of a plane (R237): bits [24:5] of its entries. -/
def State.freeOf (s : State) (die plane : Nat) : Option Nat :=
  let used := (s.flash.stripes.map fun (e : Nat × Stripe) => e.1 % 2 ^ 20).eraseDups
  let cands := ((List.range s.flashBlocks).map fun b => 64 * b + 16 * plane + die).filter fun b => b ∉ used || !s.blockLive b
  minBy (fun b => sget 0 s.flash.erases (32 * b)) cands

/-- A free block: the lowest die and plane that has one. -/
def State.freeBlock (s : State) : Option Nat :=
  (List.range (4 * s.flashDies)).findSome? fun i => if s.dieRetired 0 (i / 4) then none else s.freeOf (i / 4) (i % 4)

/-- The stripe that follows a full or closed one: the next unit of its block, else the first of a free block. -/
def State.nextStripe (s : State) (slc : Bool) (old : Option Nat) : State × Option Nat :=
  let fresh : State × Option Nat := match s.freeBlock with
    | none => (s, none)
    | some b =>
      let s := if s.flash.stripes.any fun (e : Nat × Stripe) => e.1 % 2 ^ 20 = b then s.eraseBlock b else s
      (s, some (b2n slc * 2 ^ 29 + b))
  match old with
  | none => fresh
  | some st => if bitsOf st 28 20 + 1 < blockUnits slc then (s, some (st + 2 ^ 20)) else fresh

/-- The place of the next unit written: state and map entry. -/
def State.place (s : State) (slc : Bool) : State × Option Nat :=
  let old := if slc then s.flash.openSlc else s.flash.openStripe
  let room : Bool := old.any fun st => decide ((s.stripeUnits st).length < (s.dataChans st).length) &&
    !((aget s.flash.stripes st).any fun x => x.closed)
  let r : State × Option Nat := if room then (s, old) else s.nextStripe slc old
  match r.2 with
  | none => (r.1, none)
  | some st =>
    let us := r.1.stripeUnits st
    match (r.1.dataChans st)[us.length]? with
    | none => (r.1, none)
    | some ch =>
      let e := mkEntry st ch
      (r.1.updFlash fun f => { f with
        stripes := aput f.stripes st (match aget f.stripes st with
          | some x => { x with units := us ++ [e] }
          | none => ⟨[e], false, [], []⟩)
        openStripe := if slc then f.openStripe else some st
        openSlc := if slc then some st else f.openSlc }, some e)

/-- A map unit is written: its pages are programmed and its map update is on its way. Space is never lacking, for placements keep within
the user capacity. -/
def State.flashIssue (s : State) (u : Nat) (slc : Bool) (sectors : List Sector) : State :=
  match s.place slc with
  | (s, none) => s
  | (s, some e) =>
    let q := sget 0 s.flash.seq u + 1
    let xs := sectors.map fun x => Sector.sealed { x with slc := slc, seq := q }
    s.updFlash fun f => { f with
      medium := aput f.medium e xs
      cond := sclear (fun k => k / 16 = e) f.cond
      stripes := amod f.stripes (entStripe e) fun x => { x with copy := x.copy ++ [xs] }
      seq := sset 0 f.seq u q
      reads := sset 0 f.reads (entBlock e) 0
      writes := f.writes ++ [⟨u, e, flashCore (entChan e), xs⟩] }

/-- A sector that a partition writes (R233, R240). -/
def State.newSector (s : State) (part lsn : Nat) (data : List Byte) (poison : Bool) : Sector :=
  ⟨padTo 4096 data, lsn, poison, bitOf (s.rd R.flsEncMask 0) part, false, part, 0, 0, sget 0 s.nor.counters 2⟩

/-- Bytes are written from the start of a map unit for a partition; `bad` says which of their sectors have a poisoned word (R233). -/
def State.flashPut (s : State) (part u : Nat) (slc : Bool) (bs : List Byte) (bad : List Bool) : State :=
  let runs := chunks 65536 bs
  (List.range runs.length).foldl (fun s i =>
    let secs := chunks 4096 (runs.getD i [])
    s.flashIssue (u + i) slc ((List.range 16).map fun j => s.newSector part (16 * (u + i) + j) (secs.getD j []) (bad.getD (16 * i + j) false))) s

/-- A client's command writes them. -/
def State.flashWrite (s : State) (c part u : Nat) (slc : Bool) (bs : List Byte) (bad : List Bool) : State :=
  (s.charge c fun a => { a with flashWr := a.flashWr + bs.length, flashNs := a.flashNs + Config.flashBusy true bad.length }).flashPut part u slc bs bad

/-- Blocks waiting to be erased that no entry names any more are erased. -/
def State.eraseDue (s : State) : State :=
  (s.flash.eraseAfter.filter fun b => !s.blockLive b).foldl State.eraseBlock s

/-- A sector of the translation journal: SLC mode, the flash core's own, with one map update: unit and entry, 8 bytes each (R236; the form of an update is
the model's: DESIGN CHOICE, log entry 37). `n` numbers it. -/
def journalSector (n : Nat) (u : Nat × Nat) : Sector :=
  Sector.sealed ⟨padTo 4096 (leBytes 8 u.1 ++ leBytes 8 u.2), n, false, false, true, 0, 0, 0, 0⟩

/-- The journal with one more map update. -/
def journalPut (l : List Sector) (u : Nat × Nat) : List Sector := l ++ [journalSector l.length u]

/-- The oldest write of a core whose map unit no older write still changes: the updates of one map unit reach the journal in the order of admission (R236,
Table MEMT-11). -/
def ackable (core : Nat) (before : List Nat) (l : List FlashWrite) : Option FlashWrite :=
  match l with
  | [] => none
  | w :: r => if w.core = core ∧ w.unit ∉ before then some w else ackable core (w.unit :: before) r

/-- FLASH_WRITE_ACK: the oldest such write of a core has its map update in the journal. -/
def State.writeAck (s : State) (core : Nat) : State :=
  match ackable core [] s.flash.writes with
  | none => s
  | some w =>
    (s.updFlash fun f => { f with
      map := sset 0 f.map w.unit w.entry
      journal := journalPut f.journal (w.unit, w.entry)
      writes := dropFirst (fun x => x = w) f.writes }).eraseDue

/-- FLASH_WRITE_ACK. -/
def execFlashWriteAck (core : Nat) (s : State) : Out := .next (s.writeAck core)

/-- STRIPE_PARITY_WRITE: the parity unit of a stripe, the XOR of its units as stored, is written when its data units are, or at a flush; the copy in the
hub reserve is dropped. -/
def State.parityWrite (s : State) (st : Nat) (flush : Bool) : State :=
  match aget s.flash.stripes st with
  | none => s
  | some x =>
    if x.closed ∨ (!flush ∧ x.units.length < (s.dataChans st).length) then s
    else s.updFlash fun f => { f with
      stripes := aput f.stripes st { x with closed := true, copy := [], parity := parityUnit x.copy }
      openStripe := if f.openStripe = some st ∧ flush then none else f.openStripe
      openSlc := if f.openSlc = some st ∧ flush then none else f.openSlc }

/-- STRIPE_PARITY_WRITE. -/
def execStripeParityWrite (stripe : Nat) (flush : Bool) (s : State) : Out := .next (s.parityWrite stripe flush)

/-! ## Wear, read disturb and rebuilding (R237 to R239) -/

/-- The sectors of map unit `u` at an entry pass through the flash core, which decodes them and checks their tags (Table MEMT-5): one that cannot be read
or rebuilt goes on as poison (R239). It needs no key, as tags and parity are computed over ciphertext (R240). -/
def State.passUnit (s : State) (u e : Nat) : State × List Sector :=
  let xs := (aget s.flash.medium e).getD []
  (List.range xs.length).foldl (fun (r : State × List Sector) j =>
    match xs[j]? with
    | none => r
    | some x =>
      let t := r.1.readSteps e j (x.tagOk (16 * u + j)) (r.1.condition e j)
      (t.1, r.2 ++ [if t.2 then { x with lsn := 16 * u + j, poison := true } else x])) (s, [])

/-- A map unit is written anew from its old place. -/
def State.moveUnit (s : State) (u e : Nat) : State :=
  let r := s.passUnit u e
  r.1.flashIssue u (entSlc e) r.2

/-- Moves the units that satisfy `p` to new places. -/
def State.moveUnits (s : State) (p : Nat → Bool) : State :=
  (s.flash.map.filter fun e => entValid e.2 && p e.2 && !(s.flash.writes.any fun w => w.unit = e.1)).foldl (fun s e => s.moveUnit e.1 e.2) s

/-- Relocates a block; its old place is erased once nothing names it. -/
def State.relocateBlock (s : State) (b : Nat) : State :=
  let s := (s.moveUnits fun e => entBlock e = b).incSat R.flsChwearReloc (b % 32) 1
  (s.updFlash fun f => { f with
    relocate := f.relocate.filter (· ≠ b)
    eraseAfter := if b / 32 ∈ f.eraseAfter then f.eraseAfter else f.eraseAfter ++ [b / 32] }).eraseDue

/-- The valid block of lowest erase count of a die, where the counts of the die differ by more than the gap (R237). -/
def State.wearVictim (s : State) (ch die : Nat) : Option Nat :=
  let onDie (b : Nat) : Bool := b % 32 = ch && b / 32 % 16 = die
  let l := s.flash.erases.filter fun e => onDie e.1
  let hi := (l.map (·.2)).foldl Nat.max 0
  let lo := if l.length < 4 * s.flashBlocks then 0 else (l.map (·.2)).foldl Nat.min hi
  if hi - lo ≤ 10 * s.rd R.flsCfgWearGap 0 then none
  else minBy (fun b => sget 0 s.flash.erases b) (((s.flash.map.map fun e => entBlock e.2).filter onDie).eraseDups)

/-- May a maintenance request of a flash core run: no request claims the core, and it is its turn among the core's maintenance (R26, R28)? -/
def State.maintTurn (s : State) (ch input : Nat) : Bool :=
  sget 0 s.pkg.granted (arbFlash (flashCore ch)) = 0 && s.mayPass (arbMaint (flashCore ch)) input

/-- WEAR_RELOCATE of die 16 × channel + die: a block queued for relocation first, else by wear. -/
def State.wearRelocate (s : State) (d : Nat) : State :=
  let ch := d / 16
  let die := d % 16
  match (s.flash.relocate.find? fun b => b % 32 = ch && b / 32 % 16 = die).orElse (fun _ => s.wearVictim ch die) with
  | none => s
  | some b => if s.maintTurn ch 0 then (s.passed (arbMaint (flashCore ch))).relocateBlock b else s

/-- WEAR_RELOCATE. -/
def execWearRelocate (die : Nat) (s : State) : Out := .next (s.wearRelocate die)

/-- Is a block in SLC mode: does a stripe written in SLC mode lie in it? -/
def State.blockSlc (s : State) (b : Nat) : Bool := s.flash.stripes.any fun (e : Nat × Stripe) => e.1 % 2 ^ 20 = b / 32 && bitOf e.1 29

/-- Sectors of every 16th page of a block: 72 pages of a TLC block, 24 of one in SLC mode, of four sectors each (Tables MEMT-6 and MEMT-7). -/
def scanSectors (slc : Bool) : Nat := if slc then 96 else 288

/-- READ_DISTURB_SCAN: every 16th page of a block that has reached the read threshold is read; a worst sector beyond the margin queues the
block for relocation (R238). -/
def State.disturbScan (s : State) (b worst : Nat) : State :=
  let n := s.rd R.flsCfgRdScan 0
  if sget 0 s.flash.reads b < 1000 * n ∨ !s.maintTurn (b % 32) 1 then s
  else
    let s := (s.passed (arbMaint (flashCore (b % 32)))).incSat R.flsChwearScans (b % 32) 1
    let s := s.inc R.flsChstatReads (b % 32) (scanSectors (s.blockSlc b))
    if s.rd R.flsCfgRdMargin 0 < worst then (s.updFlash fun f => { f with reads := sset 0 f.reads b 0 }).queueReloc b
    else s.updFlash fun f => { f with reads := sset 0 f.reads b (500 * n) }

/-- READ_DISTURB_SCAN. -/
def execReadDisturbScan (block worstPct : Nat) (s : State) : Out := .next (s.disturbScan block worstPct)

/-- FLASH_DIE_REBUILD: the next unit of a retired die is rebuilt from its stripe onto free space. -/
def State.dieRebuild (s : State) (d : Nat) : State :=
  if d ∉ s.flash.rebuilding then s
  else match s.flash.map.find? fun e => entValid e.2 && entChan e.2 = d / 16 && entDie e.2 = d % 16 &&
      !(s.flash.writes.any fun w => w.unit = e.1) with
    | none =>
      if s.flash.writes.any fun w => (sget 0 s.flash.map w.unit) % 32 = d / 16 && entDie (sget 0 s.flash.map w.unit) = d % 16 then s
      else s.updFlash fun f => { f with rebuilding := f.rebuilding.filter (· ≠ d) }
    | some e => s.moveUnit e.1 e.2

/-- FLASH_DIE_REBUILD. -/
def execFlashDieRebuild (die : Nat) (s : State) : Out := .next (s.dieRebuild die)

/-- FLASH_PERIODIC_TRAINING: duty-cycle correction, DQ training and ZQ calibration each 10 s of run time (Table MEMT-5). -/
def execFlashPeriodicTraining (s : State) : Out :=
  .next (if 10 ^ 10 ≤ s.now - s.flash.lastTrain ∧ s.moduleRun then s.updFlash fun f => { f with lastTrain := s.now } else s)

/-- The newest map update of a unit in the journal. -/
def State.journaled (s : State) (u : Nat) : Option Nat := ((s.flash.journal.map journalUpdate).reverse.find? fun x => x.1 = u).map (·.2)

/-- MAP_ENTRY_REBUILD: an uncorrectable map entry is rebuilt from the checkpoint and the journal; reads of the unit wait for it, within
this one step (R262). -/
def State.mapRebuild (s : State) (u : Nat) : State :=
  let e := (s.journaled u).getD (sget 0 s.flash.checkpoint u)
  s.updFlash fun f => { f with map := sset 0 f.map u e }

/-- MAP_ENTRY_REBUILD. -/
def execMapEntryRebuild (unit : Nat) (s : State) : Out := .next (s.mapRebuild unit)

/-- Trims map units: they read as zeros again (R234, R240). The journal holds the trims. -/
def State.trim (s : State) (u n : Nat) : State :=
  s.updFlash fun f => { f with
    map := sclear (fun k => u ≤ k && k < u + n) f.map
    journal := (f.map.filter fun e => u ≤ e.1 && e.1 < u + n).foldl (fun l e => journalPut l (e.1, 0)) f.journal
    writes := f.writes.filter fun w => !(u ≤ w.unit && w.unit < u + n) }

end Sys2Proof.Machine
end

