-- ==== Sys2Proof/Machine/Buffers.lean ====
section
/-! DEFINITION. What the commands of Table HOST-7 share: acting on an admitted request, and reading the buffers that its address
fields name (14_host_interface.md R301, 19_security_update.md R413). -/

namespace Sys2Proof.Machine

/-- Acts on a request in flight that has not ended and whose opcode is `op`; an event that names no such request changes nothing. -/
def State.onReq (s : State) (k : ReqKey) (op : Nat) (f : Req → State) : State :=
  match s.req? k with
  | none => s
  | some r => if r.ended ∨ r.opcode ≠ op then s else f r

/-- The data of a read that has it. -/
def ReadRes.bytes (r : ReadRes) : List Byte := match r with
  | .data b _ => b
  | _ => []

/-- Is the data poisoned? -/
def ReadRes.poison (r : ReadRes) : Bool := match r with
  | .data _ p => p
  | _ => false

/-- Reads several buffers that a request names by address and length. A bounds fault ends it with ST_CONTEXT_FAULT, poison with
ST_POISON, and an uncorrectable word resets the partition that owns it first (R262); host data that has not been read is asked for and the request
waits. A request whose function was reset reads no more and ends (R300). `unit` is the site and master of the unit that consumes them. -/
def State.peek (s : State) (k : ReqKey) (l : List (Nat × Nat)) (unit : Nat × Nat := (hubSite 5 14, hubMaster)) :
    State × Option (List (List Byte)) :=
  match s.req? k with
  | none => (s, none)
  | some r =>
    let rs := l.map fun e => s.readAddr (.request k.1 k.2) k.1 e.1 e.2
    if rs.any (· == .bounds) then ((s.raise 0x002 (hubSite 5 14) (s.fnOf k.1) 0 1 0).endReq k stContextFault 0 0, none)
    else if rs.any (· == .absent) then
      if r.orphan then (s.endReq k stCancelled 0 0, none)
      else ((l.zip rs).foldl (fun s e => if e.2 == .absent then s.issueRead k.1 e.1.1 e.1.2 (.request k.1 k.2) else s) s, none)
    else
      let t := s.readUnits unit.2 ((l.filter fun e => isDev e.1).map fun e => (e.1 % 2 ^ 48, e.2))
      if rs.any ReadRes.poison ∨ t.2 ≠ 0 then (if (t.1.req? k).any fun r => !r.ended then t.1.endPoison k unit.1 unit.2 0 0 else t.1, none)
      else (t.1, some (rs.map ReadRes.bytes))

/-- The same, with the bytes of device memory charged; host data was charged when it was read (R328). -/
def State.gather (s : State) (k : ReqKey) (l : List (Nat × Nat)) (unit : Nat × Nat := (hubSite 5 14, hubMaster)) :
    State × Option (List (List Byte)) :=
  match s.peek k l unit with
  | (s, none) => (s, none)
  | (s, some bs) =>
    let n := ((l.filter fun e => isDev e.1).map (·.2)).foldl (· + ·) 0
    (s.charge k.1 fun a => { a with lpddrRd := a.lpddrRd + n }, some bs)

/-- Records the buffers of the request's address fields for its digest (R413). -/
def State.setInputs (s : State) (k : ReqKey) (bufs : List (List Byte)) : State := s.updReq k fun r => { r with inBufs := bufs }

/-- A field of the digest record's entries. -/
def objEntry (id epoch : Nat) (digest : List Byte) : List Byte := leBytes 4 id ++ leBytes 4 epoch ++ padTo 32 digest

/-- A shard entry of the digest record (Table SECU-5). -/
def shardEntry (shard epoch : Nat) (digest : List Byte) : List Byte := leBytes 2 shard ++ leBytes 2 0 ++ leBytes 4 epoch ++ padTo 32 digest

/-- Little-endian 4-byte values of a byte string. -/
def words4 (bs : List Byte) : List Nat := (List.range (bs.length / 4)).map fun i => fieldLe bs (4 * i) 4

/-- The work of a request has started (R451). -/
def State.start (s : State) (k : ReqKey) : State := s.updReq k fun r => { r with started := true }

end Sys2Proof.Machine
end

