-- ==== Sys2Proof/Machine/Space.lean ====
section
/-! DEFINITION. The space objects take: granules of views, map units of flash, host extents (11_memory_tiers.md R227, R234, R240,
R245, R246; 15_tenancy.md R323), and the images laid out in it. -/

namespace Sys2Proof.Machine

/-! ## Granules and extents -/

/-- Granules of a view's pool. -/
def State.viewGranules (s : State) (v : Nat) : Nat := if s.viewWithdrawn v then 0 else s.poolSize v / 2 ^ 26

/-- The first run of `n` free granules of a view. -/
def State.freeRun (s : State) (v n : Nat) : Option Nat :=
  (List.range (s.viewGranules v + 1 - n)).find? fun g =>
    decide (g + n ≤ s.viewGranules v) && (List.range n).all fun i => sget 0 s.mem.owner (2 ^ 20 * v + g + i) = 0

/-- Gives `n` granules from one of a view to a partition, or takes them from their owner (`who` 0). -/
def State.setOwner (s : State) (v g n who : Nat) : State :=
  let old := sget 0 s.mem.owner (2 ^ 20 * v + g)
  let s := s.updMem fun m => { m with
    owner := (List.range n).foldl (fun (o : Sparse Nat) i => sset 0 o (2 ^ 20 * v + g + i) who) m.owner }
  let s := if who = 0 then s else s.mirrorGranules (who - 1)
  if old = 0 then s else s.mirrorGranules (old - 1)

/-- Granules of a placement of `units` 4 KiB units. -/
def granulesOf (units : Nat) : Nat := ceilDiv (4096 * units) (2 ^ 26)

/-- Map units of a placement. -/
def mapUnitsOf (units : Nat) : Nat := ceilDiv units 16

/-- User capacity of the flash tier, in map units: 48 TB on grade X, 16 TB on grade M (00_scope.md). -/
def State.flashUnits (s : State) : Nat := (if s.gradeM then 16 else 48) * 10 ^ 12 / 65536

/-- Flash that extents take, in map units: a unit in SLC mode takes the place of three (Table MEMT-6). -/
def extentCost (l : List (Nat × Nat × Nat × Bool)) : Nat :=
  (l.map fun e => e.2.1 * if e.2.2.2 then 3 else 1).foldl (· + ·) 0

/-- Flash a partition's extents take. -/
def State.flashUsed (s : State) (p : Nat) : Nat := extentCost (s.flash.extents.filter fun e => e.2.2.1 = p)

/-- The first run of `n` map units outside every extent. -/
def State.freeUnits (s : State) (n : Nat) : Option Nat :=
  let starts := sortBy (fun a b => decide (a < b)) (0 :: s.flash.extents.map fun e => e.1 + e.2.1)
  starts.find? fun u => decide (u + n ≤ s.flashUnits) && s.flash.extents.all fun e => decide (u + n ≤ e.1 ∨ e.1 + e.2.1 ≤ u)

/-- Does a partition have room for `n` more map units, as SLC or not: within its cap and the user capacity? -/
def State.flashRoom (s : State) (p cost : Nat) : Bool :=
  decide ((s.flashUsed p + cost) * 65536 ≤ s.rd R.cfgPartFlash p * (4 * 10 ^ 9)) &&
    decide (extentCost s.flash.extents + cost ≤ s.flashUnits)

/-- Map units given to a partition are trimmed where they hold another's data (R240); its own data may be placed again after a reset (R351). -/
def State.trimForeign (s : State) (p u n : Nat) : State :=
  (s.flash.map.filter fun e => decide (u ≤ e.1) && decide (e.1 < u + n) && ((aget s.flash.medium e.2).getD []).any fun x => x.part ≠ p).foldl
    (fun s e => s.trim e.1 1) s

/-- Takes the space of a part entry for a partition: the state and the entry with its base; none where space or a cap is lacking. A spill extent (`slc`)
is in SLC mode and counts three times (R232, R236). -/
def State.takePart (s : State) (p : Nat) (slc : Bool) (e : PartEntry) : Option (State × PartEntry) :=
  match e.tier with
  | 0 =>
    let n := granulesOf e.units
    if s.rd R.cfgPartGranules p < s.rd R.cfgPstatGranulesUsed p + n then none
    else (s.freeRun e.view n).map fun g => (s.setOwner e.view g n (p + 1), { e with base := viewBase e.view + g * 2 ^ 26 })
  | 1 =>
    let n := mapUnitsOf e.units
    if !s.flashRoom p (if slc then 3 * n else n) then none
    else (s.freeUnits n).map fun u => ((s.trimForeign p u n).updFlash fun f => { f with extents := f.extents ++ [(u, n, p, slc)] }, { e with base := u })
  | _ => some (s, e)

/-- Takes the space of several part entries, all or none. -/
def State.takeParts (s : State) (p : Nat) (slc : Bool) (es : List PartEntry) : Option (State × List PartEntry) :=
  es.foldl (fun (r : Option (State × List PartEntry)) e => match r with
    | none => none
    | some (s, l) => (s.takePart p slc e).map fun x => (x.1, l ++ [x.2])) (some (s, []))

/-- Frees the space of a part: granules have no owner, a flash extent is trimmed (R240). -/
def State.freePart (s : State) (e : PartEntry) : State :=
  match e.tier with
  | 0 => s.setOwner e.view ((e.base - viewBase e.view) / 2 ^ 26) (granulesOf e.units) 0
  | 1 => (s.trim e.base (mapUnitsOf e.units)).updFlash fun f => { f with extents := f.extents.filter fun x => x.1 ≠ e.base }
  | _ => s

/-- Frees the space of several parts. -/
def State.freeParts (s : State) (es : List PartEntry) : State := es.foldl State.freePart s

/-! ## Images

An object's image fills the parts of its placement: the LPDDR-6 parts in placement order, then the flash parts. An address field of a
header is a byte offset into the LPDDR-6 parts taken together; it becomes a device address when the object
loads, and an array lies within one part (DESIGN CHOICE, log entry 14: the spec gives header layouts and not the form of an image). -/

/-- The LPDDR-6 parts of a placement. -/
def lpddrParts (ps : List PartEntry) : List PartEntry := ps.filter fun e => e.tier = 0

/-- The flash parts of a placement. -/
def flashParts (ps : List PartEntry) : List PartEntry := ps.filter fun e => e.tier = 1

/-- Bytes of parts. -/
def partBytes (ps : List PartEntry) : Nat := (ps.map fun e => 4096 * e.units).foldl (· + ·) 0

/-- Device address of `n` bytes at offset `o` of the LPDDR-6 parts; none where they do not lie within one part. -/
def objAddr (ps : List PartEntry) (o n : Nat) : Option Nat :=
  match ps with
  | [] => none
  | e :: r =>
    if e.tier ≠ 0 then objAddr r o n
    else if o + n ≤ 4096 * e.units then some (e.base + o)
    else if o < 4096 * e.units then none
    else objAddr r (o - 4096 * e.units) n

/-- Do `n` bytes at offset `o` of the LPDDR-6 parts lie within one part of a view? -/
def objIn (ps : List PartEntry) (v o n : Nat) : Bool :=
  match ps with
  | [] => false
  | e :: r =>
    if e.tier ≠ 0 then objIn r v o n
    else if o < 4096 * e.units then decide (e.view = v) && decide (o + n ≤ 4096 * e.units)
    else objIn r v (o - 4096 * e.units) n

/-- The device address, zero where there is none. -/
def objAt (ps : List PartEntry) (o : Nat) : Nat := (objAddr ps o 1).getD 0

/-- The offset at which the LPDDR-6 part of a view begins. -/
def viewOffset (ps : List PartEntry) (v : Nat) : Option Nat :=
  match ps with
  | [] => none
  | e :: r => if e.tier ≠ 0 then viewOffset r v else if e.view = v then some 0 else (viewOffset r v).map (· + 4096 * e.units)

/-- Does an image fit its placement? -/
def imageFits (ps : List PartEntry) (n : Nat) : Bool := decide (n ≤ partBytes (lpddrParts ps) + partBytes (flashParts ps))

/-- Writes an image into its parts on behalf of a client. -/
def State.writeImage (s : State) (c p : Nat) (ps : List PartEntry) (img : List Byte) : State :=
  ((lpddrParts ps ++ flashParts ps).foldl (fun (r : State × List Byte) e =>
    let n := 4096 * e.units
    let bs := r.2.take n
    let s := if bs.isEmpty then r.1
      else if e.tier = 0 then (r.1.charge c fun a => { a with lpddrWr := a.lpddrWr + bs.length }).writeDev e.base bs
      else r.1.flashWrite c p e.base false bs []
    (s, r.2.drop n)) (s, img)).1

/-- Copies the words of an LPDDR-6 part through their controllers. -/
def State.copyWords (s : State) (src dst n : Nat) : State :=
  let r := (List.range (ceilDiv n 16)).foldl (fun (x : State × List (List Byte)) i =>
    let y := x.1.copyRead (s.devWord (src + 16 * i))
    (y.1, x.2 ++ [y.2])) (s, [])
  r.1.updMem fun m => m.written s.now (s.devLines dst n)
    ((List.range r.2.length).foldl (fun c i => putWord c (s.devWord (dst + 16 * i)) (r.2.getD i [])) m.cells)

/-- Copies the map units of a flash part through the flash cores. -/
def State.copyUnits (s : State) (p src dst n : Nat) : State :=
  (List.range n).foldl (fun s i =>
    let e := s.flashEntry (src + i)
    if !entValid e then s
    else
      let r := s.passUnit (src + i) e
      r.1.flashIssue (dst + i) (entSlc e) ((List.range r.2.length).filterMap fun j => (r.2[j]?).map fun x =>
        { x with lsn := 16 * (dst + i) + j, part := p })) s

/-! ## Bytes of flash and host parts -/

/-- The sector of a placement's flash parts: its LSN. -/
def flashLsn (ps : List PartEntry) (sector : Nat) : Nat :=
  match ps with
  | [] => 0
  | e :: r => if sector < e.units then 16 * e.base + sector else flashLsn r (sector - e.units)

/-- The pieces of host memory that hold `n` bytes from offset `o` of host extents. -/
def hostPieces (ext : List (Nat × Nat)) (o n : Nat) : List (Nat × Nat) :=
  match ext with
  | [] => []
  | e :: r =>
    if n = 0 then []
    else if e.2 ≤ o then hostPieces r (o - e.2) n
    else
      let k := Nat.min n (e.2 - o)
      (e.1 + o, k) :: hostPieces r 0 (n - k)

/-- The host extents of a placement in order. -/
def hostExtents (ps : List PartEntry) : List (Nat × Nat) := (ps.filter fun e => e.tier = 2).flatMap fun e => e.extents

/-- Reads bytes of the host extents of a placement, in the address space of the client that placed it, for a need: the data of each request and whether it
came poisoned. What has not come is asked for. -/
def State.hostRead (s : State) (placer : Nat) (places : List PartEntry) (need : HostNeed) (off n : Nat) : State × Option (List (List Byte × Bool)) :=
  let ps := hostPieces (hostExtents places) off n
  let rx := s.host.rx.filter fun g => g.need = need
  let rs := ps.map fun e => rxPieces rx (s.fnOf placer) e.1 e.2
  if rs.all Option.isSome then (s, some (rs.filterMap id).flatten)
  else ((ps.zip rs).foldl (fun s e => if e.2.isNone then s.issueRead placer e.1.1 e.1.2 need else s) s, none)

/-- The bytes of pieces. -/
def pieceBytes (l : List (List Byte × Bool)) : List Byte := l.flatMap (·.1)
/-- Did one of them come poisoned? -/
def pieceBad (l : List (List Byte × Bool)) : Bool := l.any (·.2)

/-- Writes bytes at an offset of host extents, in the address space of the client that placed them: posted writes, with EP set where a byte is `bad`. False,
and nothing is sent, where the translation of one fails (R301). -/
def State.hostPut (s : State) (c placer : Nat) (ext : List (Nat × Nat)) (off : Nat) (bs : List Byte) (bad : List Bool) : State × Bool :=
  let ps := hostPieces ext off bs.length
  if ps.any fun e => s.writeFails (s.fnOf placer) e.1 e.2 then (s, false)
  else
    let s := s.charge c fun a => { a with hostWr := a.hostWr + bs.length }
    ((ps.foldl (fun (x : State × List Byte × List Bool) e =>
      (x.1.updHost fun h => { h with dma := h.dma ++ [⟨x.1.fnOf placer, x.1.pasidOf placer, e.1, (x.2.2.take e.2).any id, x.2.1.take e.2⟩] },
        x.2.1.drop e.2, x.2.2.drop e.2)) (s, bs, bad)).1, true)

/-- Copies the content of a loaded part to its new place on behalf of a client: `placer` is the client whose extents a part in host memory has had so far.
A part keeps its tier (`goodPlace`); the data of a part in host memory has been read by then. -/
def State.copyPart (s : State) (k : ReqKey) (p placer : Nat) (old new : PartEntry) : State :=
  match old.tier, new.tier with
  | 0, 0 => s.copyWords old.base new.base (4096 * old.units)
  | 1, 1 => s.copyUnits p old.base new.base (mapUnitsOf old.units)
  | _, _ => match s.hostRead placer [old] (.request k.1 k.2) 0 (4096 * old.units) with
    | (s, none) => s
    | (s, some l) => (s.hostPut k.1 k.1 new.extents 0 (pieceBytes l) (l.flatMap fun e => List.replicate e.1.length e.2)).1

end Sys2Proof.Machine
end

