-- ==== Sys2Proof/Machine/Images.lean ====
section
/-! DEFINITION. Object images (11_memory_tiers.md R245 to R247, 10_generation.md R205, R215, R217, 08_embedding_tables.md R155, R156,
09_text_and_packing.md R175, 06_sketch_search.md R113 to R117, R123): what OP_OBJECT_LOAD checks of each kind, and what it makes of it. The
form of an image is that of Space.lean; headers that the spec does not lay out are the model's (DESIGN CHOICE, log entries 14 and 15). -/

namespace Sys2Proof.Machine

/-- Is a region view one of the partition's? -/
def State.partRegion (s : State) (p v : Nat) : Bool := decide (v < 32) && (s.partClusters p).any fun cl => s.physAll cl / 8 = v

/-- Do the tiers and views of a placement keep to Table MEMT-9 for an object of a kind? -/
def State.goodTiers (s : State) (p kind : Nat) (ps : List PartEntry) : Bool :=
  (ps.all fun e => match e.tier with
    | 0 => if kind = 1 ∨ kind = 2 then decide (32 ≤ e.view) && decide (e.view < 36) else if kind = 0 then s.partRegion p e.view else decide (e.view < 32)
    | 1 => decide (kind < 4)
    | 2 => decide (kind < 2)
    | _ => false) &&
    (kind ≠ 2 || decide ((flashParts ps).length ≤ 1))

/-! ## Weight sets: 0-3 MAGIC, 4-7 CONTEXT_MAX, 8-11 V, 12-13 output dimensions, 14-15 sketch bits, 16-23 linear MACs per row, 24-31
attention MACs per key per row, 32-39 output-head MACs, 40-47 weight bytes per step, 48-55 state bytes per text token, 56-59 experts the
cache holds, 60-63 schedule entries, 64-67 COLD experts, 68-71 experts of the largest layer, 72-79 bytes of resident tensors,
80-87 offset of the expert cache, 88-91 its slot in 4 KiB units; from 128 the schedule (Table MEMT-10), then 12 bytes for each COLD expert:
layer and expert of 2 bytes, its first sector in the flash extent and its sectors of 4 bytes. -/

/-- MAGIC of a weight set (DESIGN CHOICE, log entry 15). -/
def magicWeights : Nat := 0x54484757

/-- A schedule entry as stored (Table MEMT-10): NEED_TAG, ISSUE_TAG, BYTES, DST, SRC_TIER, SRC. -/
def schedEntry (b : List Byte) : Nat × Nat × Nat × Nat × Nat × Nat :=
  let v := leNat b
  (bitsOf v 255 224, bitsOf v 223 192, bitsOf v 191 160, bitsOf v 159 112, bitsOf v 111 110, bitsOf v 47 0)

/-- The schedule entries of an image. -/
def schedBytes (img : List Byte) : List (List Byte) := (List.range (fieldLe img 60 4)).map fun i => slice img (128 + 32 * i) 32

/-- The entries of an image's COLD experts: layer, expert, first sector in the flash extent, sectors. -/
def coldBytes (img : List Byte) : List (List Byte) :=
  (List.range (fieldLe img 64 4)).map fun i => slice img (128 + 32 * fieldLe img 60 4 + 12 * i) 12

/-- Bytes of host extents. -/
def hostBytes (ps : List PartEntry) : Nat := ((ps.filter fun e => e.tier = 2).flatMap fun e => e.extents.map (·.2)).foldl (· + ·) 0

/-- Do `n` device bytes from `a` lie in one LPDDR-6 part of a placement? -/
def devIn (ps : List PartEntry) (a n : Nat) : Bool :=
  ps.any fun e => e.tier = 0 && decide (e.base ≤ a) && decide (a + n ≤ e.base + 4096 * e.units)

/-- Does a schedule entry keep to R7 and lie inside the weight set's placements (R247)? Its DST is a device address (Table MEMT-10). -/
def goodSched (ps : List PartEntry) (b : List Byte) : Bool :=
  let e := schedEntry b
  let n := 4096 * (e.2.2.1 + 1)
  decide (bitsOf (leNat b) 109 48 = 0) && decide (e.2.2.2.1 % 4096 = 0) && devIn ps e.2.2.2.1 n &&
    (if e.2.2.2.2.1 = 0 then decide (4096 * e.2.2.2.2.2 + n ≤ partBytes (flashParts ps))
     else decide (e.2.2.2.2.1 = 1) && decide (e.2.2.2.2.2 % 4096 = 0) && decide (e.2.2.2.2.2 + n ≤ hostBytes ps))

/-- Is a weight-set image in order? -/
def goodWeights (ps : List PartEntry) (img : List Byte) : Bool :=
  decide (fieldLe img 0 4 = magicWeights) && decide (1 ≤ fieldLe img 4 4) && decide (1 ≤ fieldLe img 8 4) && decide (fieldLe img 8 4 ≤ 524288) &&
    decide (fieldLe img 12 2 ≤ 4096) && (fieldLe img 14 2 ∈ [0, 256, 512, 1024]) && decide (leNat (slice img 92 36) = 0) &&
    decide (fieldLe img 60 4 ≤ 65536) && (schedBytes img).all (goodSched ps) &&
    (coldBytes img).all fun b => decide (fieldLe b 4 4 + fieldLe b 8 4 ≤ partBytes (flashParts ps) / 4096) && decide (fieldLe b 8 4 ≤ fieldLe img 88 4)

/-- Does a weight set fit: resident tensors in LPDDR-6, and an expert cache that holds its largest layer (R217)? -/
def weightsFit (ps : List PartEntry) (img : List Byte) : Bool :=
  decide (fieldLe img 72 8 ≤ partBytes (lpddrParts ps)) && decide (fieldLe img 68 4 ≤ fieldLe img 56 4) &&
    (fieldLe img 56 4 = 0 || (objAddr ps (fieldLe img 80 8) (4096 * fieldLe img 88 4 * fieldLe img 56 4)).isSome)

/-- A device address in the parts of a placement, at the same place of the parts that took over from them: those of a version that loads beside the one
it replaces (R217). -/
def movedTo (old new : List PartEntry) (a : Nat) : Nat :=
  ((old.zip new).findSome? fun e => if e.1.tier = 0 ∧ e.1.base ≤ a ∧ a < e.1.base + 4096 * e.1.units then some (e.2.base + (a - e.1.base)) else none).getD a

/-- The weight set of an image that was placed at `old` and lies at `ps`. -/
def weightsOf (p id : Nat) (old ps : List PartEntry) (img digest : List Byte) : WeightSet where
  part := p
  object := id
  digest := digest
  contextMax := fieldLe img 4 4
  vocab := fieldLe img 8 4
  dims := fieldLe img 12 2
  sketch := fieldLe img 14 2
  linMacs := fieldLe img 16 8
  attMacs := fieldLe img 24 8
  headMacs := fieldLe img 32 8
  weightBytes := fieldLe img 40 8
  stateBytes := fieldLe img 48 8
  cacheCap := fieldLe img 56 4
  cache := []
  cacheBase := objAt ps (fieldLe img 80 8)
  cacheSlot := 4096 * fieldLe img 88 4
  cold := (coldBytes img).map fun b => (fieldLe b 0 2, fieldLe b 2 2, fieldLe b 4 4, fieldLe b 8 4)
  schedule := (schedBytes img).map fun b =>
    let e := schedEntry b
    (e.1, e.2.1, e.2.2.1, movedTo old ps e.2.2.2.1, e.2.2.2.2.1, e.2.2.2.2.2)
  current := true

/-! ## Embedding tables (Table TABL-1) -/

/-- MAGIC of a table. -/
def magicTable : Nat := 0x54424C45

/-- ROW_STRIDE (Table TABL-1). -/
def strideOf (d bits : Nat) : Nat := ceilDiv (4 + d * bits / 8) 32 * 32

/-- Do the fields of a table header lie in their ranges (R155, R156)? -/
def goodTabHeader (img : List Byte) : Bool :=
  let h := fieldLe img
  decide (h 0 4 = magicTable) && decide (h 4 2 = 1) && (h 6 1 = 4 || h 6 1 = 8) && decide (h 7 1 ≤ 30) && decide (1 ≤ h 8 4) &&
    decide (32 ≤ h 12 2) && decide (h 12 2 ≤ 4096) && decide (h 12 2 % 32 = 0) && decide (1 ≤ h 15 1) && decide (h 15 1 ≤ 16) &&
    decide (h 14 1 < h 15 1) && (h 16 4 = 0xFFFFFFFF || decide (h 16 4 < h 8 4)) && decide (h 20 2 = strideOf (h 12 2) (h 6 1)) &&
    decide (h 22 1 < 8) && decide (h 23 1 = 0) && decide (h 28 2 < 4096) && decide (h 30 2 = 0) && decide (h 108 4 = 0) &&
    decide (leNat (slice img 120 136) = 0)

/-- The row map of a TIERED image: rows not in LPDDR-6 slot r. -/
def imageMap (img : List Byte) : Sparse RowMap :=
  if !bitOf (fieldLe img 22 1) 1 then []
  else (List.range (fieldLe img 8 4)).map fun r =>
    let v := fieldLe img (fieldLe img 88 8 + 16 * r) 16
    (r, ⟨bitsOf v 3 2, bitsOf v 95 64, bitOf v 1, bitsOf v 5 4, bitsOf v 127 96⟩)

/-- Hot slots between CODE_A_BASE and the next array or the end of its part. -/
def hotSlots (ps : List PartEntry) (img : List Byte) : Nat :=
  let a := fieldLe img 64 8
  let others := [fieldLe img 80 8, fieldLe img 88 8, fieldLe img 96 8, fieldLe img 112 8].filter fun b => a < b
  let room := ((lpddrParts ps).foldl (fun (r : Nat × Nat) e =>
    (r.1 + 4096 * e.units, if r.1 ≤ a ∧ a < r.1 + 4096 * e.units then r.1 + 4096 * e.units else r.2)) (0, 0)).2
  (others.foldl Nat.min room - a) / (2 * fieldLe img 20 2)

/-- Sector and byte of a tail slot on flash (R242): sectors per slot where a slot does not fit in one. -/
def tailPlace (stride slot : Nat) : Nat × Nat :=
  let r := 4096 / (2 * stride)
  if r = 0 then (ceilDiv (2 * stride) 4096 * slot, 0) else (slot / r, 2 * stride * (slot % r))

/-- Flash tail slots of a placement. -/
def flashSlots (ps : List PartEntry) (stride : Nat) : Nat :=
  let sectors := partBytes (flashParts ps) / 4096
  let r := 4096 / (2 * stride)
  if r = 0 then sectors / ceilDiv (2 * stride) 4096 else sectors * r

/-- The row copy that serves: in the image, or for a row in host memory among those the load has read (`tail`). -/
def imageRow (ps : List PartEntry) (img : List Byte) (tail : Sparse (List Byte)) (map : Sparse RowMap) (r : Nat) : Option (List Byte) :=
  let st := fieldLe img 20 2
  let cur := b2n (bitOf (fieldLe img 22 1) 2)
  if !bitOf (fieldLe img 22 1) 1 then some (slice img ((if cur = 0 then fieldLe img 64 8 else fieldLe img 72 8) + r * st) st)
  else
    let m := (aget map r).getD ⟨0, r, false, 0, 0⟩
    match m.tier with
    | 0 => some (slice img (fieldLe img 64 8 + 2 * st * m.slot + cur * st) st)
    | 1 => aget tail r
    | _ =>
      let t := tailPlace st m.slot
      some (slice img (partBytes (lpddrParts ps) + 4096 * t.1 + t.2 + cur * st) st)

/-- Is a row copy one that R155 and R156 allow? -/
def goodRow (bits d : Nat) (b : List Byte) : Bool :=
  let fin (x : Num) : Bool := match x with
    | .nan => false
    | .inf _ => false
    | _ => true
  fin (fmtFP16.decode (fieldLe b 0 2)) && fin (fmtFP16.decode (fieldLe b 2 2)) &&
    !(fmtFP16.decode (fieldLe b 0 2)).lt (Num.ofInt 0 0) && decide (leNat (b.drop (4 + d * bits / 8)) = 0)

/-- Are the values strictly rising? -/
def rising (l : List Nat) : Bool := match l with
  | [] => true
  | [_] => true
  | a :: b :: r => decide (a < b) && rising (b :: r)

/-- Bytes of an entry of the accumulator section: its row and its accumulators. -/
def accEntryBytes (img : List Byte) : Nat := 4 + 4 * fieldLe img 12 2

/-- The accumulator section of a table image (R163): what follows the bytes of the parts, entries of a row (4 bytes) and its accumulators (4 x D bytes)
(DESIGN CHOICE, log entry 75: the spec names the section and gives no layout). -/
def accSection (ps : List PartEntry) (img : List Byte) : List (List Byte) :=
  chunks (accEntryBytes img) (img.drop (partBytes (lpddrParts ps) + partBytes (flashParts ps)))

/-- Is the accumulator section in order: whole entries, rows of the table, strictly rising, and none in a table that keeps no accumulators? -/
def goodAccs (ps : List PartEntry) (img : List Byte) : Bool :=
  let es := accSection ps img
  (es.all fun e => decide (e.length = accEntryBytes img) && decide (fieldLe e 0 4 < fieldLe img 8 4)) && rising (es.map fun e => fieldLe e 0 4) &&
    (es.isEmpty || bitOf (fieldLe img 22 1) 0)

/-- The accumulators that the section gives, by row. -/
def imageAccs (ps : List PartEntry) (img : List Byte) : Sparse (List Int) :=
  (accSection ps img).map fun e => (fieldLe e 0 4, (chunks 4 (e.drop 4)).map fun b => signedOf 32 (leNat b))

/-- Is a table image in order (R156, Table TABL-4)? Rows in host memory are judged once the load has read them (`goodTail`). -/
def goodTable (ps : List PartEntry) (img : List Byte) : Bool :=
  goodTabHeader img && goodAccs ps img &&
    (let m := imageMap img
     (m.all fun (e : Nat × RowMap) => decide (e.2.tier ≤ 2) && !e.2.moving && (e.2.tier ≠ 0 || e.2.slot % 4 = e.1 % 4) &&
        decide (bitsOf (fieldLe img (fieldLe img 88 8 + 16 * e.1) 16) 63 6 = 0) && !bitOf (fieldLe img (fieldLe img 88 8 + 16 * e.1) 1) 0) &&
     (List.range (fieldLe img 8 4)).all fun r => match imageRow ps img [] m r with
       | some b => goodRow (fieldLe img 6 1) (fieldLe img 12 2) b
       | none => true)

/-- The rows of a table image that lie in host memory: row and slot. -/
def hostRows (img : List Byte) : List (Nat × Nat) :=
  (imageMap img).filterMap fun (e : Nat × RowMap) => if e.2.tier = 1 then some (e.1, e.2.slot) else none

/-- Are the rows read from host memory ones that R156 allows? -/
def goodTail (img : List Byte) (tail : Sparse (List Byte)) : Bool :=
  tail.all fun (e : Nat × List Byte) => goodRow (fieldLe img 6 1) (fieldLe img 12 2) e.2

/-- The residuals of the tail rows to which the accumulator section gives accumulators: RES = A - fixed(value) (R163, R169). -/
def imageResid (ps : List PartEntry) (img : List Byte) (tail : Sparse (List Byte)) : Sparse (List Int) :=
  let map := imageMap img
  if !bitOf (fieldLe img 22 1) 1 then []
  else (imageAccs ps img).filterMap fun (e : Nat × List Int) =>
    if ((aget map e.1).map fun m => m.tier) = some 0 then none
    else
      let fixed := (rowValues (fieldLe img 6 1) (fieldLe img 12 2) ((imageRow ps img tail map e.1).getD [])).map (fixedOf (fieldLe img 7 1))
      let res := List.zipWith (fun a b => wrap32 (a - b)) e.2 fixed
      if res.any (· ≠ 0) then some (e.1, res) else none

/-- Do the arrays of a table fit its placement? -/
def tableFits (ps : List PartEntry) (img : List Byte) : Bool :=
  let h := fieldLe img
  let rows := h 8 4
  let st := h 20 2
  let tiered := bitOf (h 22 1) 1
  let upd := bitOf (h 22 1) 0
  let hot := hotSlots ps img
  let fit (o n : Nat) : Bool := (objAddr ps o n).isSome
  fit 0 256 &&
    (if tiered then (fit (h 88 8) (16 * rows) && (imageMap img).all fun (e : Nat × RowMap) => match e.2.tier with
        | 0 => decide (e.2.slot < hot)
        | 1 => decide (2 * st * (e.2.slot + 1) ≤ hostBytes ps)
        | _ => decide (e.2.slot < flashSlots ps st))
     else fit (h 64 8) (rows * st) && fit (h 72 8) (rows * st)) &&
    (!upd || (fit (h 80 8) (4 * h 12 2 * (if tiered then hot else rows)) && fit (h 112 8) (1024 * (8 + 4 * h 12 2)))) &&
    (!(tiered && upd) || fit (h 96 8) (h 104 4 * (4 + 4 * h 12 2)))

/-- The table of an image and of its rows in host memory, at an epoch. -/
def tableOf (p id : Nat) (ps : List PartEntry) (img : List Byte) (tail : Sparse (List Byte)) (digest : List Byte) (epoch : Nat) : Table where
  object := id
  part := p
  bits := fieldLe img 6 1
  frac := fieldLe img 7 1
  rows := fieldLe img 8 4
  d := fieldLe img 12 2
  slice := fieldLe img 14 1
  slices := fieldLe img 15 1
  dflt := fieldLe img 16 4
  stride := fieldLe img 20 2
  updatable := bitOf (fieldLe img 22 1) 0
  tiered := bitOf (fieldLe img 22 1) 1
  cur := b2n (bitOf (fieldLe img 22 1) 2)
  home := fieldLe img 28 2
  codeA := objAt ps (fieldLe img 64 8)
  codeB := objAt ps (fieldLe img 72 8)
  acc := objAt ps (fieldLe img 80 8)
  mapBase := if bitOf (fieldLe img 22 1) 1 then objAt ps (fieldLe img 88 8) else 0
  residBase := if fieldLe img 22 1 % 4 = 3 then objAt ps (fieldLe img 96 8) else 0
  deltaBase := if bitOf (fieldLe img 22 1) 0 then objAt ps (fieldLe img 112 8) else 0
  residCap := fieldLe img 104 4
  map := imageMap img
  resid := imageResid ps img tail
  residPoison := []
  delta := []
  updates := []
  digest := digest
  digests := [(epoch, digest)]
  commit := none
  pins := []
  flipped := []
  freedEpochs := []
  replacing := false
  missedTf := false
  hotCap := hotSlots ps img
  oldSlots := []

/-- The accumulators of a loaded table: those of the image's accumulator section, else fixed(value) of the loaded row (R163). A tail row's are kept as its
residual; the residual store and the delta buffer are laid out. -/
def State.initAcc (s : State) (ps : List PartEntry) (img : List Byte) (t : Table) : State :=
  if !t.updatable then s
  else
    let accs := imageAccs ps img
    let s := (List.range t.rows).foldl (fun s r =>
      if t.isTail r then s
      else
        let a := match aget accs r with
          | some a => a
          | none => (rowValues t.bits t.d ((imageRow ps img [] t.map r).getD [])).map (fixedOf t.frac)
        s.writeDev (t.accAddr r 0) (a.flatMap fun i => leBytes 4 (codeOfInt 32 i))) s
    (s.layDelta t).layResid t

/-! ## Vocabularies (Table TEXT-1) -/

/-- MAGIC of a vocabulary. -/
def magicVocab : Nat := 0x5A53544B

/-- Class ranges of a vocabulary image. -/
def vocabRanges (img : List Byte) : List (Nat × Nat) :=
  (List.range (fieldLe img 20 2)).map fun i => (fieldLe img (fieldLe img 56 8 + 8 * i) 4, fieldLe img (fieldLe img 56 8 + 8 * i + 4) 4)

/-- Its merges. -/
def vocabMerges (img : List Byte) : List (Nat × Nat × Nat) :=
  (List.range (fieldLe img 12 4)).map fun i =>
    let o := fieldLe img 64 8 + 12 * i
    (fieldLe img o 4, fieldLe img (o + 4) 4, fieldLe img (o + 8) 4)

/-- An entry of its string index. -/
def vocabIdx (img : List Byte) (t : Nat) : Nat := fieldLe img (fieldLe img 72 8 + 8 * t) 8

/-- The string of a token and its SPECIAL mark. -/
def vocabString (img : List Byte) (t : Nat) : List Byte × Bool :=
  let e := vocabIdx img t
  (slice img (fieldLe img 80 8 + bitsOf e 31 0) (bitsOf e 47 32), bitOf e 48)

/-- Is a vocabulary image in order (R175)? -/
def goodVocab (img : List Byte) : Bool :=
  let h := fieldLe img
  let v := h 8 4
  let ms := vocabMerges img
  let rs := vocabRanges img
  decide (h 0 4 = magicVocab) && decide (h 4 2 = 1) && decide (16 ≤ h 6 2) && decide (h 6 2 ≤ 1024) && decide (256 ≤ v) &&
    decide (v ≤ 524288) && decide (h 12 4 ≤ 1048576) && decide (h 16 4 + 255 < v) && decide (1 ≤ h 20 2) && decide (h 20 2 ≤ 4096) &&
    decide (h 22 2 = 0) && decide (leNat (slice img 88 168) = 0) &&
    ((List.range v).all fun t => decide (bitsOf (vocabIdx img t) 63 49 = 0) && decide (bitsOf (vocabIdx img t) 47 32 ≤ 256)) &&
    ((List.range 256).all fun b => decide (vocabString img (h 16 4 + b) = ([BitVec.ofNat 8 b], false))) &&
    (ms.all fun m => decide (m.1 < v) && decide (m.2.1 < v) && decide (m.2.2 < v) && !(vocabString img m.2.2).2 &&
      decide ((vocabString img m.2.2).1 = (vocabString img m.1).1 ++ (vocabString img m.2.1).1)) &&
    decide ((ms.map fun m => (m.1, m.2.1)).eraseDups.length = ms.length) &&
    rising (rs.map (·.1)) && decide (rs.head?.map (·.1) = some 0) && rs.all fun e => decide (e.2 < 16)

/-- Do its arrays fit? -/
def vocabFits (ps : List PartEntry) (img : List Byte) : Bool :=
  let h := fieldLe img
  (objAddr ps 0 256).isSome && (objAddr ps (h 56 8) (8 * h 20 2)).isSome && (objAddr ps (h 64 8) (12 * h 12 4)).isSome &&
    (objAddr ps (h 72 8) (8 * h 8 4)).isSome

/-- The vocabulary of an image. -/
def vocabOf (p id : Nat) (img digest : List Byte) : Vocab where
  object := id
  part := p
  pieceMax := fieldLe img 6 2
  v := fieldLe img 8 4
  byteBase := fieldLe img 16 4
  ranges := vocabRanges img
  split := fieldLe img 24 32
  merges := vocabMerges img
  strings := (List.range (fieldLe img 8 4)).map (vocabString img)
  digest := digest

/-! ## Index shards (Table SRCH-1). What an object carries beside the arrays of Table SRCH-1 follows the delete log of each section: 0-1
D_F, 2 the vector source (0 FLASH, 1 LPDDR), 4-7 free numbers, 8-15 base of the vector copy, from 16 the free list, 4 bytes a number. -/

/-- MAGIC of a section header. -/
def magicSection : Nat := 0x534C4F45

/-- Bytes of the delete log. -/
def delLogBytes : Nat := 65536 * 8

/-- Sketch bits of a SKETCH code. -/
def sketchBits (code : Nat) : Nat := if code = 0 then 256 else if code = 1 then 512 else 1024

/-- Offset of a section's header in an image. -/
def secOff (ps : List PartEntry) (sec : Nat) : Nat := (viewOffset ps (32 + sec)).getD 0

/-- A header field of a section. -/
def secFld (ps : List PartEntry) (img : List Byte) (sec o n : Nat) : Nat := fieldLe img (secOff ps sec + o) n

/-- A field of what follows a section's delete log. -/
def secTail (ps : List PartEntry) (img : List Byte) (sec o n : Nat) : Nat := fieldLe img (secFld ps img sec 56 8 + delLogBytes + o) n

/-- A metadata record (Table SRCH-2). -/
def metaOf (b : List Byte) : Meta :=
  let v := leNat b
  ⟨bitsOf v 127 96, bitsOf v 95 64, bitsOf v 63 32, bitsOf v 31 16, bitsOf v 15 0⟩

/-- Its 16 bytes. -/
def Meta.bytes (m : Meta) : List Byte := leBytes 2 m.gen ++ leBytes 2 m.tags ++ leBytes 4 m.keyA ++ leBytes 4 m.keyB ++ leBytes 4 m.vecSlot

/-- Bytes of a side record (R117). -/
def sideBytes (sketch : Nat) : Nat := 32 + sketch / 8

/-- A side record (Table SRCH-3); a record that an object brings consumed was consumed at the object's epoch. -/
def sideOf (sketch epoch : Nat) (b : List Byte) : SideRec :=
  ⟨fieldLe b 0 4 % 2 ^ 30, fieldLe b 4 4, bitOf (fieldLe b 8 1) 0, if bitOf (fieldLe b 8 1) 1 then some epoch else none,
    metaOf (slice b 16 16), slice b 32 (sketch / 8)⟩

/-- Its bytes. -/
def SideRec.bytes (r : SideRec) : List Byte :=
  leBytes 4 r.node ++ leBytes 4 r.pub ++ leBytes 2 (b2n r.valid + 2 * b2n r.consumed.isSome) ++ List.replicate 6 0 ++ r.info.bytes ++ r.sketch

/-- The side records of a section image. -/
def imageSide (ps : List PartEntry) (img : List Byte) (sec : Nat) : List SideRec :=
  let n := sideBytes (sketchBits (secFld ps img sec 7 1))
  (List.range (secFld ps img sec 64 4)).map fun i =>
    sideOf (sketchBits (secFld ps img sec 7 1)) (secFld ps img sec 72 4) (slice img (secFld ps img sec 48 8 + n * i) n)

/-- Are the reserved fields of a section's side records zero (R7, Table SRCH-3): NODE [31:30], FLAGS [15:2] and bytes 10 to 15? -/
def goodSide (ps : List PartEntry) (img : List Byte) (sec : Nat) : Bool :=
  let n := sideBytes (sketchBits (secFld ps img sec 7 1))
  (List.range (secFld ps img sec 64 4)).all fun i =>
    let f := fun o k => fieldLe img (secFld ps img sec 48 8 + n * i + o) k
    decide (f 0 4 < 2 ^ 30) && decide (f 8 2 < 4) && decide (f 10 6 = 0)

/-- The free list of a section image. -/
def imageFree (ps : List PartEntry) (img : List Byte) (sec : Nat) : List Nat :=
  (List.range (secTail ps img sec 4 4)).map fun i => secTail ps img sec (16 + 4 * i) 4

/-- The delete log of a section image: epoch of the deletion by node. -/
def imageLog (ps : List PartEntry) (img : List Byte) (sec : Nat) : Sparse Nat :=
  (List.range 65536).foldl (fun m i =>
    let o := secFld ps img sec 56 8 + 8 * i
    let v := fieldLe img o 8
    if img.length < o + 8 ∨ bitsOf v 31 30 ≠ 0 then m else aput m (bitsOf v 29 0) (bitsOf v 63 32)) []

/-- Is a section of an image in order, and does it agree with section 0 (R113, R123)? -/
def goodSection (ps : List PartEntry) (img : List Byte) (sec : Nat) : Bool :=
  let h := secFld ps img sec
  let nodes := h 12 4
  let live := (imageSide ps img sec).filter fun r => r.valid && r.consumed.isNone
  decide (h 0 4 = magicSection) && decide (h 4 2 = 1) && decide (h 6 1 = sec) && decide (h 7 1 < 3) && decide (h 8 2 ≠ 0xFFFF) &&
    decide (8 ≤ h 10 1) && decide (h 10 1 ≤ 64) && decide (h 10 1 % 8 = 0) && decide (1 ≤ h 11 1) && decide (h 11 1 ≤ 64) &&
    decide (nodes ≤ 0x3FFFFFFF) && ([16, 24, 32, 40, 48, 56].all fun o => decide (h o 8 % 32 = 0)) && decide (h 64 4 ≤ 16384) &&
    decide (h 68 4 = 16384) && decide (h 76 4 = 0) && decide (leNat (slice img (secOff ps sec + 112) 144) = 0) &&
    decide (leNat (slice img (secOff ps sec + 512) 3584) = 0) &&
    ((List.range 64).all fun i => if i < h 11 1 then decide (h (256 + 4 * i) 4 < 2 ^ 30) else decide (h (256 + 4 * i) 4 = 0xFFFFFFFF)) &&
    decide (secFld ps img 0 7 2 = h 7 2 ∧ secFld ps img 0 8 4 = h 8 4 ∧ secFld ps img 0 72 4 = h 72 4) &&
    decide (256 ≤ secTail ps img sec 0 2 ∧ secTail ps img sec 0 2 ≤ 4096 ∧ secTail ps img sec 0 2 % 32 = 0 ∧ secTail ps img sec 2 1 ≤ 1) &&
    goodSide ps img sec && rising (imageFree ps img sec) && ((imageFree ps img sec).all fun n => decide (n < nodes)) &&
    (live.all fun r => decide (nodes ≤ r.node) || r.node ∈ imageFree ps img sec) &&
    decide ((live.map (·.node)).eraseDups.length = live.length)

/-- Is a shard image in order? -/
def goodShard (ps : List PartEntry) (img : List Byte) : Bool := (List.range 4).all (goodSection ps img)

/-- Does a section's content fit, all of it in its die's view (R112)? -/
def sectionFits (ps : List PartEntry) (img : List Byte) (sec : Nat) : Bool :=
  let h := secFld ps img sec
  let nodes := h 12 4
  let sk := sketchBits (h 7 1)
  let arrays := [(secOff ps sec, 4096), (h 16 8, nodes * sk / 8), (h 24 8, nodes * 4 * h 10 1), (h 32 8, 16 * nodes), (h 40 8, ceilDiv nodes 8),
    (h 48 8, 16384 * sideBytes sk), (h 56 8, delLogBytes)] ++
    if secTail ps img sec 2 1 = 1 then [(secTail ps img sec 8 8, nodes * secTail ps img 0 0 2)] else []
  (viewOffset ps (32 + sec)).isSome && arrays.all fun a => objIn ps (32 + sec) a.1 a.2

/-- The section of an image. A number of its free list that a side record of the image holds has been given out (R123, R127). -/
def sectionOf (ps : List PartEntry) (img : List Byte) (sec : Nat) : Section :=
  let h := secFld ps img sec
  let nodes := h 12 4
  let tomb (n : Nat) : Bool := bitOf (fieldLe img (h 40 8 + n / 8) 1) (n % 8)
  let side := imageSide ps img sec
  let holder (n : Nat) : Option SideRec := side.find? fun r => r.node = n && r.valid && r.consumed.isNone
  { nodes := nodes
    sketchBase := objAt ps (h 16 8)
    adjBase := objAt ps (h 24 8)
    metaBase := objAt ps (h 32 8)
    tombBase := objAt ps (h 40 8)
    sideBase := objAt ps (h 48 8)
    logBase := objAt ps (h 56 8)
    vecBase := objAt ps (secTail ps img sec 8 8)
    entries := (List.range (h 11 1)).map fun i => h (256 + 4 * i) 4
    tomb := (List.range nodes ++ (side.map (·.node)).filter fun n => nodes ≤ n).foldl (fun m n => sset false m n (tomb n)) []
    side := side
    delLog := imageLog ps img sec
    gens := side.foldl (fun m r => sset 0 m r.node (r.info.gen + 1)) []
    free := (imageFree ps img sec).filter fun n => (holder n).isNone
    freeHist := (imageFree ps img sec).map fun n => (n, h 72 4, (holder n).map (·.pub))
    fresh := [] }

/-- The shard of an image. -/
def shardOf (p id : Nat) (ps : List PartEntry) (img digest : List Byte) : Shard where
  part := p
  object := id
  degree := secFld ps img 0 10 1
  sections := (List.range 4).map (sectionOf ps img)
  seq := 0
  changes := []
  lastPublish := 0
  digest := digest
  digests := [(secFld ps img 0 72 4, digest)]
  merge := none
  vecFlash := ((flashParts ps).head?.map fun e => 16 * e.base).getD 0
  df := secTail ps img 0 0 2
  lpddr := decide (secTail ps img 0 2 1 = 1)
  pins := []

/-! ## Pools: 0-3 state format, 4-7 FRAMES, 8-11 FLASH_BLOCKS; adapters: 0-31 weight-set digest, 32-33 rank, 34-35 ID, 36-39 version
epoch, 40 format (0 FP8, 1 MXFP4) -/

/-- Is a pool image in order? -/
def goodPool (img : List Byte) : Bool := decide (img.length = 12) && decide (bitsOf (fieldLe img 0 4) 31 24 ≤ 2) && decide (fieldLe img 4 4 ≤ 1048575)

/-- Do a pool's frames and spill blocks fit its parts? -/
def poolFits (ps : List PartEntry) (img : List Byte) : Bool :=
  let b := blockBytes (fieldLe img 0 4)
  decide (fieldLe img 4 4 ≤ ((lpddrParts ps).map fun e => 4096 * e.units / b).foldl (· + ·) 0) &&
    decide (fieldLe img 8 4 ≤ ((flashParts ps).map fun e => mapUnitsOf e.units / ceilDiv b 65536).foldl (· + ·) 0)

/-- The pool of an image. -/
def poolOf (p id : Nat) (ps : List PartEntry) (img : List Byte) : Pool :=
  ⟨id, p, fieldLe img 0 4, fieldLe img 4 4, fieldLe img 8 4, [], ps⟩

/-- Is an adapter image in order: the rank of R215's chapter and a format? -/
def goodAdapter (img : List Byte) : Bool :=
  let r := fieldLe img 32 2
  decide (48 ≤ img.length) && decide (8 ≤ r) && decide (r ≤ 256) && decide (r % 8 = 0) && decide (fieldLe img 34 2 < 1024) &&
    decide (fieldLe img 40 1 ≤ 1) && decide (leNat (slice img 41 7) = 0)

end Sys2Proof.Machine
end

