-- ==== Sys2Proof/Machine/Pool.lean ====
section
/-! DEFINITION. Attention-state pools and Medlar trees at work (09_text_and_packing.md R191 to R193, 10_generation.md R205 to R207): node slots as they are
read, eviction, frames and spill blocks with their bytes, and what is offered to a tree. -/

namespace Sys2Proof.Machine

/-! ## Frames and spill blocks (R205, R243) -/

/-- The frame of a number among the LPDDR-6 parts, each of which holds as many whole frames as fit (DESIGN CHOICE, log entry 78: the spec gives the layout
of a block and not that of the frames). -/
def frameIn (ps : List PartEntry) (size f : Nat) : Option Nat :=
  match ps with
  | [] => none
  | e :: r => if f < 4096 * e.units / size then some (e.base + size * f) else frameIn r size (f - 4096 * e.units / size)

/-- Map units of a spill block: a contiguous extent of one state block's size. -/
def spillUnits (size : Nat) : Nat := ceilDiv size 65536

/-- The first map unit of a spill block among the flash parts. -/
def spillIn (ps : List PartEntry) (size j : Nat) : Option Nat :=
  match ps with
  | [] => none
  | e :: r =>
    let n := mapUnitsOf e.units / spillUnits size
    if j < n then some (e.base + spillUnits size * j) else spillIn r size (j - n)

/-- Bytes of a block of a pool. -/
def Pool.size (x : Pool) : Nat := blockBytes x.format

/-- Device address of a frame. -/
def Pool.frameAddr (x : Pool) (f : Nat) : Nat := (frameIn (lpddrParts x.places) x.size f).getD 0

/-- First map unit of a spill block. -/
def Pool.spillUnit (x : Pool) (j : Nat) : Nat := (spillIn (flashParts x.places) x.size j).getD 0

/-- The LSNs of a spill block's sectors. -/
def Pool.spillLsns (x : Pool) (j : Nat) : List Nat := (List.range (ceilDiv x.size 4096)).map (16 * x.spillUnit j + ·)

/-- The lowest number from 0 that a list does not hold. -/
def lowestFree (used : List Nat) : Nat := ((List.range (used.length + 1)).find? fun n => n ∉ used).getD 0

/-- Frames that blocks have. -/
def Pool.framesUsed (x : Pool) : List Nat := x.blocks.filterMap fun (e : Nat × PBlock) => if e.2.flash && e.2.restoring.isNone then none else some e.2.frame

/-- Spill blocks that blocks have. -/
def Pool.placesUsed (x : Pool) : List Nat := x.blocks.filterMap fun (e : Nat × PBlock) => if e.2.flash then some e.2.place else none

/-- Byte of an element within its block (R205): layer, head, kind (0 keys, 1 values), position and dimension, in a state format. -/
def stateByte (fmt l h k q i : Nat) : Nat :=
  let dh := 8 * (bitsOf fmt 7 0 + 1)
  (((l * (bitsOf fmt 23 16 + 1) + h) * 2 + k) * 256 * dh + q * dh + i) * (if bitsOf fmt 31 24 = 2 then 2 else 1)

/-! ## Node slots as they are read (R193) -/

/-- Reads a node slot: a poisoned one becomes DEAD, and an uncorrectable word resets the partition of the tree. -/
def State.readSlot (s : State) (t i : Nat) : State × Bool :=
  match aget (s.tree t).bad i with
  | none => (s, true)
  | some k => (if 2 ≤ k then s.resetPartition (s.rd R.mdlTreePartition t) 1 else s.killNode t i (decide (k = 0)) !(s.pinners t i).isEmpty, false)

/-! ## Eviction (R192) -/

/-- A node that eviction takes: its block is freed, its slot is a TOMBSTONE and its parent loses a child. -/
def State.evictNode (s : State) (t i : Nat) : State :=
  let n := s.node t i
  let s := (s.dropBlock t n.block).setNode t i { n with state := 3 }
  if n.parent = 0xFFFFFFFF then s
  else
    let y := s.readSlot t n.parent
    let p := y.1.node t n.parent
    if y.2 ∧ p.state = 1 then y.1.setNode t n.parent { p with ref := p.ref - 1 } else y.1

/-- evict_one of R192: the sweep hand passes every slot twice at most, clearing USED of the leaves it meets, and takes the first leaf whose
USED is clear. Slots that are readable and no unpinned VALID node only move the hand. -/
def State.evictOne (s : State) (t : Nat) : State × Bool :=
  let size := 2 ^ s.rd R.mdlTreeLog2 t
  let x := s.tree t
  let leaves : List Nat := (x.slots.filter fun (e : Nat × MNode) => e.2.state = 1 && e.2.ref = 0).map fun (e : Nat × MNode) => e.1
  let bad : List Nat := x.bad.map fun (e : Nat × Nat) => e.1
  let met := sortBy (fun a b => decide (a < b)) (leaves ++ bad.filter fun i => i ∉ leaves)
  let round := met.filter (fun i => decide (x.hand ≤ i)) ++ met.filter (fun i => decide (i < x.hand))
  let y := (round ++ round).foldl (fun (y : State × Option Nat) i =>
    if y.2.isSome then y
    else
      let r := y.1.readSlot t i
      let n := r.1.node t i
      if !r.2 ∨ n.state ≠ 1 ∨ n.ref ≠ 0 then (r.1, none)
      else if n.used then (r.1.setNode t i { n with used := false }, none)
      else (r.1, some i)) (s, none)
  match y.2 with
  | none => (y.1, false)
  | some i =>
    let s := y.1.putTrees (amod y.1.trees t fun x => { x with hand := (i + 1) % size })
    (s.evictNode t i, true)

/-! ## Frames (R207) -/

/-- The node slot that holds a block is read before the block moves (R193): a DEAD node's block may be gone then. -/
def State.readHolder (s : State) (p b : Nat) : State :=
  match ((s.pool? p).bind fun x => aget x.blocks b).bind fun y => y.node with
  | some i => (s.readSlot p i).1
  | none => s

/-- TIER of the node that holds a block (Table TEXT-7). -/
def State.setTier (s : State) (p tier : Nat) (node : Option Nat) : State := match node with
  | some i => if (s.node p i).state = 1 then s.setNode p i { s.node p i with tier := tier } else s
  | none => s

/-- A block in a frame is spilled to flash, in SLC mode, every sector with a poisoned word poisoned: the flash bytes are charged to the request that owns
it (R207, R236, R243). -/
def State.spill (s : State) (p b : Nat) : State :=
  let s := s.readHolder p b
  match (s.pool? p).bind fun x => (aget x.blocks b).map fun y => (x, y) with
  | none => s
  | some (x, y) =>
    let r := (List.range (ceilDiv x.size 4096)).foldl (fun (r : State × List Byte × List Bool) i =>
      let d := r.1.readUnit (x.frameAddr y.frame + 4096 * i) (Nat.min 4096 (x.size - 4096 * i)) hubMaster
      (d.1, r.2.1 ++ d.2.1, r.2.2 ++ [decide (d.2.2 ≠ 0)])) (s, [], [])
    let s := r.1
    -- an uncorrectable word has reset the partition, and its blocks are gone
    if ((s.pool? p).bind fun x => aget x.blocks b).isNone then s
    else
      let j := lowestFree x.placesUsed
      let s := s.updPool p fun x => { x with blocks := amod x.blocks b fun z => { z with flash := true, place := j } }
      let s := s.setTier p 1 y.node
      let s := match y.owner with
        | some k => s.flashWrite k.1 x.part (x.spillUnit j) true r.2.1 r.2.2
        | none => s.flashPut x.part (x.spillUnit j) true r.2.1 r.2.2
      (s.wr R.mdlPstatFree p (s.rd R.mdlPstatFree p + 1)).wr R.mdlPstatSpilled p (s.rd R.mdlPstatSpilled p + 1)

/-- The block that source 2 of R207 spills: of the request paused longest ago, the highest block in a frame that is its own. -/
def State.pausedBlock (s : State) (p : Nat) (skip : Option ReqKey) : Option Nat :=
  let own (g : Gen) : List (Nat × Nat) := g.table.filter fun e => match (s.pool? p).bind fun x => aget x.blocks e.2 with
    | some y => y.owner = some (g.client, g.req) && !y.flash
    | none => false
  let gs := s.gens.filter fun g => g.pool = p && g.pausedAt.isSome && skip ≠ some (g.client, g.req) && !(own g).isEmpty
  (minBy (fun g => g.pausedAt.getD 0) gs).bind fun g => (sortBy (fun a b => decide (b.1 < a.1)) (own g)).head?.map (·.2)

/-- Frees frames by evict_one until one is free; `fuel` bounds the evictions. -/
def State.evictFrame (fuel : Nat) (s : State) (p : Nat) : State :=
  match fuel with
  | 0 => s
  | f + 1 => if 0 < s.rd R.mdlPstatFree p then s else match s.evictOne p with
    | (s, true) => s.evictFrame f p
    | (s, false) => s

/-- Is the block resident in a frame? -/
def State.resident (s : State) (p b : Nat) : Bool := ((s.pool? p).bind fun x => aget x.blocks b).any fun y => !y.flash

/-- A node with REF = 0 whose block is in a frame, the one in the lowest slot: slots that cannot be read are passed (R193, R207). -/
def State.idleNode (fuel : Nat) (s : State) (p : Nat) : State × Option Nat :=
  match fuel with
  | 0 => (s, none)
  | f + 1 =>
    match (s.tree p).slots.find? fun (e : Nat × MNode) => e.2.state = 1 && e.2.ref = 0 && e.2.tier = 0 && s.resident p e.2.block with
    | none => (s, none)
    | some e => let r := s.readSlot p e.1; if r.2 then (r.1, some e.2.block) else r.1.idleNode f p

/-- A frame is taken from the first of the four sources of R207 that has one; `skip` names a request whose blocks are not to be spilled. Of the nodes
with REF = 0 the one in the lowest slot is spilled (DESIGN CHOICE, log entry 27). -/
def State.takeFrame (s : State) (p : Nat) (skip : Option ReqKey) : State × Option Nat :=
  match s.pool? p with
  | none => (s, none)
  | some x =>
    let room := decide (s.rd R.mdlPstatSpilled p < x.flashBlocks)
    let s :=
      if 0 < s.rd R.mdlPstatFree p then s
      else match room, s.pausedBlock p skip with
        | true, some b => s.spill p b
        | true, none => (match s.idleNode ((s.tree p).slots.length + 1) p with
          | (s, some b) => s.spill p b
          | (s, none) => s.evictFrame ((s.tree p).slots.length + 1) p)
        | _, _ => s.evictFrame ((s.tree p).slots.length + 1) p
    if 0 < s.rd R.mdlPstatFree p then
      (s.wr R.mdlPstatFree p (s.rd R.mdlPstatFree p - 1), (s.pool? p).map fun x => lowestFree x.framesUsed)
    else (s, none)

/-- A new block in a frame for a request: the lowest number no block of the pool has. -/
def State.newBlock (s : State) (p : Nat) (k : ReqKey) : State × Option Nat :=
  match s.takeFrame p (some k) with
  | (s, none) => (s, none)
  | (s, some f) =>
    let b := lowestFree (((s.pool? p).map fun x => x.blocks.map fun (e : Nat × PBlock) => e.1).getD [])
    (s.updPool p fun x => { x with blocks := aput x.blocks b ⟨some k, none, false, none, f, 0⟩ }, some b)

/-- The restore of a block on flash begins, where a frame can be had (R207). -/
def State.startRestore (s : State) (p b : Nat) (k : ReqKey) : State :=
  match (s.pool? p).bind fun x => aget x.blocks b with
  | none => s
  | some y =>
    if !y.flash || y.restoring.isSome then s
    else match s.takeFrame p (some k) with
      | (s, none) => s
      | (s, some f) => s.updPool p fun x => { x with blocks := amod x.blocks b fun z => { z with restoring := some k, frame := f } }

/-- The bytes of a block in a frame are copied into another's frame, poison and all (R206). -/
def State.copyBlock (s : State) (p src dst : Nat) : State :=
  match s.pool? p with
  | none => s
  | some x => match aget x.blocks src, aget x.blocks dst with
    | some a, some b => s.copyWords (x.frameAddr a.frame) (x.frameAddr b.frame) x.size
    | _, _ => s

/-- The block whose frame holds a device address. -/
def Pool.blockAt (x : Pool) (a : Nat) : Option Nat :=
  (x.blocks.find? fun (e : Nat × PBlock) => (!e.2.flash || e.2.restoring.isSome) &&
    decide (x.frameAddr e.2.frame ≤ a) && decide (a < x.frameAddr e.2.frame + x.size)).map fun (e : Nat × PBlock) => e.1

/-! ## Inserts (R191) -/

/-- A probe for an insert: past slots that it cannot read, which make it a miss (R193). -/
def State.probeSlot (s : State) (t key : Nat) : State × ProbeOut :=
  let y := (List.range 33).foldl (fun (y : State × Option ProbeOut × Bool) _ =>
    if y.2.1.isSome then y
    else
      let o := y.1.probe t key
      match o.dead with
      | none => (y.1, some (if y.2.2 then { o with hit := none } else o), y.2.2)
      | some i => ((y.1.readSlot t i).1, none, true)) (s, none, false)
  (y.1, y.2.1.getD ⟨none, none, true, none⟩)

/-- The node of a block is written in a slot, and its parent gains a child. -/
def State.insertNode (s : State) (t i key parent depth block : Nat) : State :=
  let flash := ((s.pool? t).bind fun x => aget x.blocks block).any fun b => b.flash
  let s := s.setNode t i ⟨key, block, depth, parent, 1, false, b2n flash, 1⟩
  let s := s.updPool t fun x => { x with blocks := amod x.blocks block fun b => { b with owner := none, node := some i } }
  let p := s.node t parent
  if parent = 0xFFFFFFFF then s else s.setNode t parent { p with ref := p.ref + 1 }

/-- A block is offered to a tree (R191): the slot of its node where it was inserted, with the request's pin, and whether the insert failed. A tree that holds
the key keeps its own node; where no node can be had the insert fails and is counted. -/
def State.offerBlock (s : State) (t key parent depth block : Nat) : State × Option Nat × Bool :=
  let y := if parent = 0xFFFFFFFF then (s, true) else s.readSlot t parent
  let o := y.1.probeSlot t key
  let held (s : State) : Bool := ((s.pool? t).bind fun x => aget x.blocks block).isSome
  if !y.2 then (y.1, none, false)
  else if o.2.hit.isSome ∨ !held o.1 then (o.1, none, false)
  else
    let s := o.1
    let limit := decide (2 ^ (s.rd R.mdlTreeLog2 t - 1) ≤ s.rd R.mdlTreeNodes t) || decide (16777216 ≤ s.allNodes)
    let e := if limit then s.evictOne t else (s, true)
    let z := e.1.probeSlot t key
    if !held z.1 then (z.1, none, false)
    else match e.2, z.2.slot with
      | true, some i => (z.1.insertNode t i key parent depth block, some i, false)
      | _, _ => (z.1.incSat R.mdlTstatInsertFail t 1, none, true)

end Sys2Proof.Machine
end

