-- ==== Sys2Proof/Machine/Objects.lean ====
section
/-! DEFINITION. Placing and loading objects and adapters (11_memory_tiers.md R245 to R247, 10_generation.md R205, R215 to R217,
08_embedding_tables.md R166, R167, R171, 06_sketch_search.md R111, R123, 05_cluster_programs.md R110). -/

namespace Sys2Proof.Machine

/-! ## Names and versions -/

/-- Changes an object. -/
def State.updObj (s : State) (o : Nat) (f : Obj → Obj) : State := s.putObjs (amod s.objs o f)

/-- Key of a version of a weight set: the object and its load count. -/
def weightKey (o epoch : Nat) : Nat := 2 ^ 32 * o + epoch

/-- The newest version of a weight set that has loaded. -/
def State.weight? (s : State) (o : Nat) : Option (Nat × WeightSet) :=
  match s.obj? o with
  | none => none
  | some x => (aget s.weights (weightKey o x.epoch)).map fun w => (weightKey o x.epoch, w)

/-- Key of a superseded version of a table, and of its object record (R167). -/
def supersededKey (slot epoch : Nat) : Nat := 2 ^ 41 + 2 ^ 32 * slot + epoch

/-- Key of the record of the space that a version of a weight set leaves. -/
def weightSpaceKey (k : Nat) : Nat := 2 ^ 70 + k

/-- The epoch a table is at: the last of those it serves. -/
def Table.epoch (t : Table) : Nat := (t.digests.getLast?.map (·.1)).getD 0

/-- The table version that serves an epoch to its lookups (R167): the slot's table, or one that a replacement has superseded. -/
def State.tableAt (s : State) (slot epoch : Nat) : Option Table :=
  let serves (t : Table) : Bool := t.digests.any fun e => e.1 = epoch
  match s.table? slot with
  | none => none
  | some t =>
    if serves t then some t
    else (s.tables.find? fun (e : Nat × Table) => decide (2 ^ 41 ≤ e.1) && decide ((e.1 - 2 ^ 41) / 2 ^ 32 = slot) && serves e.2).map (·.2)

/-! ## What pins an object (R13, R246) -/

/-- The vocabulary slots a request names. -/
def Req.vocabs (r : Req) : List Nat := match r.opcode with
  | 0x01 => [r.inl 0 1]
  | 0x02 => [r.inl 0 1]
  | 0x09 => r.p 12 1 :: if bitOf (r.p 13 1) 0 && bitOf (r.p 775 1) 7 then [r.p 815 1] else []
  | 0x0A => if bitOf (r.p 7 1) 7 then [r.p 47 1] else []
  | _ => []

/-- Does a request, or the work of one, hold the object as it is? -/
def State.pinned (s : State) (o : Nat) : Bool :=
  (s.tables.any fun (e : Nat × Table) => e.2.object = o && (!e.2.pins.isEmpty || e.2.commit.isSome)) ||
    (s.shards.any fun (e : Nat × Shard) => e.2.object = o && (!e.2.pins.isEmpty || e.2.merge.isSome || !e.2.changes.isEmpty)) ||
    (s.vocabs.any fun (e : Nat × Vocab) => e.2.object = o && ((s.streams.any fun (z : Nat × ZStream) => z.2.slot = e.1) ||
      s.host.reqs.any fun r => !r.ended && decide (e.1 ∈ r.vocabs))) ||
    (s.weights.any fun (e : Nat × WeightSet) => e.2.object = o && (s.host.reqs.any fun r => !r.ended && e.1 ∈ r.models)) ||
    ((s.obj? o).any fun x => x.kind = some 4 && (s.adapters.any fun a => a.part = x.part && a.id = fieldLe x.image 34 2 && a.version = fieldLe x.image 36 4 &&
      s.host.reqs.any fun r => !r.ended && r.adapter.any fun v => v.2.2 = a.serial)) ||
    (s.pools.any fun (e : Nat × Pool) => e.2.object = o && ((s.gens.any fun g => g.pool = e.1) || (s.probes.any fun m => m.tree = e.1) ||
      s.retrieves.any fun x => !x.matchNodes.isEmpty && x.tree = e.1)) ||
    (s.parts.any fun (e : Nat × Part) => e.2.program = some o && e.2.running.isSome)

/-- Rewrites device addresses held in memory at `as`, 8 bytes each; zero stands for an array that is absent. -/
def State.rebase (s : State) (as : List Nat) (f : Nat → Nat) : State :=
  as.foldl (fun s a =>
    let v := s.dev a 8
    if v = 0 then s else s.writeDev a (leBytes 8 (f v))) s

/-- The address fields of an object's headers in LPDDR-6. -/
def headerFields (kind : Nat) (vocab : Bool) (ps : List PartEntry) : List Nat :=
  match kind with
  | 1 => (if vocab then [56, 64, 72, 80] else [64, 72, 80, 88, 96, 112]).map fun o => objAt ps 0 + o
  | 2 => (List.range 4).flatMap fun sec => [16, 24, 32, 40, 48, 56].map fun o => objAt ps (secOff ps sec) + o
  | _ => []

/-- Mirrors a table's EPOCH, CUR and EPOCH_DIGEST in its header. -/
def State.mirrorTable (s : State) (slot : Nat) : State :=
  match s.table? slot with
  | none => s
  | some t => match s.obj? t.object with
    | none => s
    | some o =>
      let h := objAt o.places 0
      ((s.writeDev (h + 22) (leBytes 1 (b2n t.updatable + 2 * b2n t.tiered + 4 * t.cur))).writeDev (h + 24) (leBytes 4 t.epoch)).writeDev
        (h + 32) (padTo 32 t.digest)

/-- Mirrors EPOCH, EPOCH_DIGEST, SIDE_COUNT and NODES in the section headers, and the counts in SLO_SIDE. -/
def State.mirrorShard (s : State) (slot : Nat) : State :=
  match aget s.shards slot with
  | none => s
  | some x => match s.obj? x.object with
    | none => s
    | some o =>
      let sides := [R.sloSideSec0, R.sloSideSec1, R.sloSideSec2, R.sloSideSec3]
      (List.range 4).foldl (fun s sec =>
        match x.sections[sec]?, sides[sec]? with
        | some y, some f =>
          let h := objAt o.places (secOff o.places sec)
          ((((s.wr f slot y.side.length).writeDev (h + 12) (leBytes 4 y.nodes)).writeDev (h + 64) (leBytes 4 y.side.length)).writeDev (h + 72)
            (leBytes 4 (s.rd R.sloShardEpoch slot))).writeDev (h + 80) (padTo 32 x.digest)
        | _, _ => s) s

/-! ## OP_OBJECT_PLACE (R245, R246, R171) -/

/-- The part entries of a placement and the addresses of their host extent lists. Part 0xFFFF names a row of a TIERED table: bytes 4-7 are
the row, and the tier its destination (DESIGN CHOICE, log entry 18: R171 names rows and the operand gives them no field). -/
def placeEntries (r : Req) : List (PartEntry × Nat) :=
  (List.range (r.param.length / 16)).map fun i =>
    (⟨r.p (16 * i) 1, r.p (16 * i + 1) 1, r.p (16 * i + 2) 2, r.p (16 * i + 4) 4, 0, []⟩, r.p (16 * i + 8) 8)

/-- Does a placement name rows? -/
def placesRows (r : Req) : Bool := (placeEntries r).any fun e => e.1.part = 0xFFFF

/-- The parts of a placement once `es` have taken the places of those they name. -/
def placesWith (ps es : List PartEntry) : List PartEntry :=
  (ps.filter fun y => !(es.any fun e => e.part = y.part)) ++ es

/-- May the parts of a loaded object go where a placement says: where Table MEMT-9 lets an object of its kind have them, and a part that holds content in
the tier, and for a shard's section in the view of die s (R112), that the content needs (DEDUCED, log entry 18: the table's columns say what each tier holds)?
Only a TIERED table has parts off LPDDR-6. -/
def State.goodMove (s : State) (o p : Nat) (x : Obj) (es : List PartEntry) : Bool := match x.kind with
  | none => true
  | some k =>
    s.goodTiers p k (placesWith x.places es) &&
      (es.all fun e => match x.places.find? fun y => y.part = e.part with
        | none => true
        | some y => y.tier = e.tier && (k ≠ 2 || y.tier ≠ 0 || y.view = e.view)) &&
      (k ≠ 1 || (es.all fun e => e.tier = 0) || s.tables.any fun (t : Nat × Table) => t.1 < 256 && t.2.object = o && t.2.tiered)

/-- Check 2 of a placement: ranges, Table MEMT-9 where the object's kind is known, rows of a loaded TIERED table. -/
def State.goodPlace (s : State) (r : Req) : Bool :=
  let es := placeEntries r
  let o := s.obj? (r.inl 0 4)
  decide (r.param.length ≠ 0) && decide (r.param.length % 16 = 0) && decide (r.inl 4 1 < 64) &&
    (if placesRows r then
      (es.all fun e => e.1.part = 0xFFFF && decide (e.1.tier ≤ 2) && e.1.view = 0xFF && e.2 = 0 &&
        (s.tables.any fun (t : Nat × Table) => t.1 < 256 && t.2.object = r.inl 0 4 && t.2.tiered && decide (e.1.units < t.2.rows)))
     else
      (es.all fun e => decide (e.1.tier ≤ 2) && (if e.1.tier = 0 then decide (e.1.view < 36) else e.1.view = 0xFF) && decide (1 ≤ e.1.units) &&
        (e.2 = 0 || e.1.tier = 2)) &&
      decide ((es.map fun e => e.1.part).eraseDups.length = es.length) &&
      (match o with
       | some x => s.goodMove (r.inl 0 4) (r.inl 4 1) x (es.map (·.1))
       | none => true))

/-- Check 6 of a placement: the object is pinned, loads, or belongs to another partition (R246). Rows are not pinned. -/
def State.placeState (s : State) (r : Req) : Bool :=
  match s.obj? (r.inl 0 4) with
  | none => false
  | some x => x.part ≠ r.inl 4 1 || x.loading || (!placesRows r && s.pinned (r.inl 0 4))

/-- The part of an object's placement that an entry replaces. -/
def oldPart (o : Option Obj) (e : PartEntry) : Option PartEntry := o.bind fun x => x.places.find? fun y => y.part = e.part

/-- Are the flash parts of an object spill extents: is it a loaded pool (R236, R243)? -/
def State.spills (s : State) (o : Nat) : Bool := (s.obj? o).any fun x => x.kind = some 3

/-- Check 9 of a placement: space, and for a loaded part at least what it holds. -/
def State.placeRoom (s : State) (r : Req) : Bool :=
  let o := s.obj? (r.inl 0 4)
  let es := (placeEntries r).map (·.1)
  placesRows r ||
    ((s.takeParts (r.inl 4 1) (s.spills (r.inl 0 4)) es).isSome &&
      es.all fun e => match oldPart o e with
        | some y => (o.bind fun x => x.kind).isNone || decide (y.units ≤ e.units)
        | none => true)

/-- How the reading of a host extent list ended. -/
inductive ExtRes where
  | ok (l : List (Nat × Nat))
  | read (addr : Nat)      -- an entry that has not been read, or cannot be
  | ends (status : Nat)
  deriving DecidableEq, Repr

/-- Reads a host extent list, 16 bytes an entry, until it covers `need` bytes: at most 4,096 extents, each 4 KiB-aligned (R244). -/
def State.extents (fuel : Nat) (s : State) (k : ReqKey) (a need : Nat) (acc : List (Nat × Nat)) : ExtRes :=
  if need = 0 then .ok acc
  else match fuel with
  | 0 => .ends stNoResource
  | f + 1 => match s.readAddr (.request k.1 k.2) k.1 a 16 with
    | .bounds => .read a
    | .absent => .read a
    | .data _ true => .read a
    | .data b false =>
      let x := fieldLe b 0 8
      let n := fieldLe b 8 8
      if x % 4096 ≠ 0 ∨ bitOf x 63 ∨ n = 0 then .ends stBadDescriptor else s.extents f k (a + 16) (need - n) (acc ++ [(x, n)])

/-- The entries of a placement with their extents; an error or a read ends the search. -/
def State.placeExtents (s : State) (k : ReqKey) (es : List (PartEntry × Nat)) : ExtRes × List PartEntry :=
  es.foldl (fun r e => match r.1 with
    | .ok _ =>
      if e.1.tier ≠ 2 then (r.1, r.2 ++ [e.1])
      else match s.extents 4096 k e.2 (4096 * e.1.units) [] with
        | .ok l => (.ok [], r.2 ++ [{ e.1 with extents := l }])
        | x => (x, r.2)
    | _ => r) (.ok [], [])

/-- An address that moves with a part. -/
def movedAddr (old new : PartEntry) (a : Nat) : Nat :=
  if old.tier = 0 ∧ new.tier = 0 ∧ old.base ≤ a ∧ a < old.base + 4096 * old.units then new.base + (a - old.base) else a

/-- The records of a loaded object follow one of its parts to its new place. -/
def State.followPart (s : State) (o : Nat) (old new : PartEntry) : State :=
  let f := movedAddr old new
  s
      |>.putTables (s.tables.map fun (e : Nat × Table) =>
      if e.2.object = o then (e.1, { e.2 with
        codeA := f e.2.codeA, codeB := f e.2.codeB, acc := f e.2.acc
        mapBase := f e.2.mapBase, residBase := f e.2.residBase, deltaBase := f e.2.deltaBase }) else e)
      |>.putShards (s.shards.map fun (e : Nat × Shard) =>
      if e.2.object = o then (e.1, { e.2 with
        vecFlash := if old.tier = 1 ∧ new.tier = 1 ∧ e.2.vecFlash = 16 * old.base then 16 * new.base else e.2.vecFlash
        sections := e.2.sections.map fun x => { x with
          sketchBase := f x.sketchBase, adjBase := f x.adjBase, metaBase := f x.metaBase, tombBase := f x.tombBase
          sideBase := f x.sideBase, logBase := f x.logBase, vecBase := f x.vecBase } }) else e)
      |>.putPools (s.pools.map fun (e : Nat × Pool) => if e.2.object = o then (e.1, { e.2 with places := e.2.places.map fun z => if z = old then new else z }) else e)
      |>.putWeights (s.weights.map fun (e : Nat × WeightSet) =>
      if e.2.object = o then (e.1, { e.2 with cacheBase := f e.2.cacheBase, schedule := e.2.schedule.map fun x =>
        (x.1, x.2.1, x.2.2.1, f x.2.2.2.1, x.2.2.2.2.1, x.2.2.2.2.2) }) else e)

/-- Puts one part of an object in its new place: the content of a loaded part moves with it, its old space is free. -/
def State.putPart (s : State) (k : ReqKey) (o : Nat) (new : PartEntry) : State :=
  match s.obj? o with
  | none => s
  | some x =>
    let places (old : Option PartEntry) : List PartEntry := match old with
      | some y => x.places.map fun z => if z = y then new else z
      | none => x.places ++ [new]
    match oldPart (some x) new with
    | none => s.updObj o fun x => { x with places := places none }
    | some y =>
      let s := if x.kind.isSome then (s.copyPart k x.part x.placer y new).followPart o y new else s
      let vocab := s.vocabs.any fun (e : Nat × Vocab) => e.2.object = o
      let s := (s.freePart y).updObj o fun x => { x with places := places (some y) }
      s.rebase (headerFields (x.kind.getD 9) vocab (places (some y))) (movedAddr y new)

/-- Slots of a TIERED table that are taken in a tier of the row map. -/
def Table.slotsUsed (t : Table) (tier : Nat) : List Nat :=
  (t.map.flatMap fun (e : Nat × RowMap) => (if e.2.tier = tier then [e.2.slot] else []) ++ (if e.2.moving ∧ e.2.newTier = tier then [e.2.newSlot] else [])) ++
    (t.oldSlots.filter fun e => e.2.1 = tier).map fun e => e.2.2.1

/-- Slots a table has in a tier of the row map. -/
def State.slotCap (s : State) (t : Table) (tier : Nat) : Nat :=
  let ps := ((s.obj? t.object).map fun x => x.places).getD []
  if tier = 0 then t.hotCap else if tier = 1 then hostBytes ps / (2 * t.stride) else flashSlots ps t.stride

/-- The lowest free slot for a row in a tier; a hot slot is congruent to the row modulo 4 (R169). -/
def State.freeSlot (s : State) (t : Table) (row tier : Nat) : Option Nat :=
  let used := t.slotsUsed tier
  (List.range (s.slotCap t tier)).find? fun x => (tier ≠ 0 || x % 4 = row % 4) && x ∉ used

/-- Mirrors a row's entry of the row map (Table TABL-4). -/
def State.mirrorRow (s : State) (slot r : Nat) : State :=
  match s.table? slot with
  | none => s
  | some t =>
    let m := t.rowMap r
    if t.mapBase = 0 then s
    else s.writeDev (t.mapBase + 16 * r)
      (leBytes 8 (2 * b2n m.moving + 4 * (m.tier % 4) + 16 * (m.newTier % 4)) ++ leBytes 4 m.slot ++ leBytes 4 m.newSlot)

/-- Rows of a table that are MOVING. -/
def Table.moving (t : Table) : Nat := (t.map.filter fun (e : Nat × RowMap) => e.2.moving).length

/-- A row begins to migrate (Table TABL-5); the status where it may not. -/
def State.startMove (s : State) (slot row tier : Nat) : State × Option Nat :=
  match s.table? slot with
  | none => (s, some stState)
  | some t =>
    let m := t.rowMap row
    if m.moving then (s, some stState)
    else if 1024 ≤ t.moving ∨ (t.updatable ∧ m.tier = 0 ∧ tier ≠ 0 ∧ t.residCap ≤ t.residRows.length) then (s, some stNoResource)
    else match s.freeSlot t row tier with
      | none => (s, some stNoResource)
      | some x =>
        let s := s.updTable slot fun t => { t with map := aput t.map row { m with moving := true, newTier := tier, newSlot := x } }
        ((s.inc R.tblTstatMoving slot 1).mirrorRow slot row, none)

/-- Rows begin to migrate, in command order; one that may not is rejected and the others proceed (R171). Behind a commit admitted
before them they wait (R172). -/
def State.placeRows (s : State) (k : ReqKey) (r : Req) : State :=
  match s.tables.find? fun (e : Nat × Table) => e.1 < 256 && e.2.object = r.inl 0 4 with
  | none => s.endReq k stState 0 0
  | some e =>
    let waits := s.host.reqs.any fun x => !x.ended && x.opcode = 0x12 && x.inl 0 1 = e.1 && decide (x.order < r.order)
    if e.2.commit.isSome ∨ waits then s
    else
      let x := (placeEntries r).foldl (fun (x : State × Nat × Option Nat) p =>
        let tier := if p.1.tier = 0 then 0 else if p.1.tier = 1 then 2 else 1
        let y := x.1.startMove e.1 p.1.units tier
        match y.2 with
        | none => (y.1, x.2.1 + 1, x.2.2)
        | some st => (y.1, x.2.1, x.2.2.orElse fun _ => some st)) (s, 0, none)
      x.1.endReq k (x.2.2.getD stOk) x.2.1 0

/-- The content of the loaded parts in host memory that a placement moves is read first; false while it has not come. -/
def State.movesRead (s : State) (k : ReqKey) (o : Option Obj) (es : List PartEntry) : State × Bool :=
  match o with
  | none => (s, true)
  | some x =>
    if x.kind.isNone then (s, true)
    else (es.filterMap fun e => if e.tier = 2 then oldPart (some x) e else none).foldl (fun (y : State × Bool) e =>
      let z := y.1.hostRead x.placer [e] (.request k.1 k.2) 0 (4096 * e.units)
      (z.1, y.2 && z.2.isSome)) (s, true)

/-- OP_OBJECT_PLACE. -/
def State.objectPlace (s : State) (k : ReqKey) : State := s.onReq k 0x28 fun r =>
  if !s.goodPlace r then s.endReq k stBadDescriptor 0 0
  else if s.placeState r then s.endReq k stState 0 0
  else if placesRows r then s.placeRows k r
  else match s.placeExtents k (placeEntries r) with
    | (.read a, _) => (s.peek k [(a, 16)]).1
    | (.ends st, _) => s.endReq k st 0 0
    | (.ok _, es) =>
      match s.gather k (((placeEntries r).zip es).filterMap fun e => if e.2.tier = 2 then some (e.1.2, 16 * e.2.extents.length) else none) with
      | (s, none) => s
      | (s, some _) =>
      if !s.placeRoom r then s.endReq k stNoResource 0 0
      else
      let m := s.movesRead k (s.obj? (r.inl 0 4)) es
      if !m.2 then m.1
      else
      let s := m.1
      match s.takeParts (r.inl 4 1) (s.spills (r.inl 0 4)) es with
        | none => s.endReq k stNoResource 0 0
        | some (s, es) =>
          let o := r.inl 0 4
          let s := if (s.obj? o).isSome then s
            else s.putObjs (aput s.objs o ⟨r.inl 4 1, [], k.1, none, 0, false, k, [], 0, [], []⟩)
          let s := s.setInputs k (es.filterMap fun e => if e.tier = 2 then some (e.extents.flatMap fun x => leBytes 8 x.1 ++ leBytes 8 x.2)
            else none)
          ((es.foldl (fun s e => s.putPart k o e) s).updObj o fun x => { x with placer := k.1 }).endReq k stOk es.length 0

/-- OP_OBJECT_PLACE. -/
def execOpObjectPlace (client req : Nat) (s : State) : Out := .next (s.objectPlace (client, req))

/-! ## OP_OBJECT_LOAD -/

/-- Is the image a vocabulary's? -/
def isVocab (img : List Byte) : Bool := fieldLe img 0 4 = magicVocab

/-- Check 2 of a load: kind and slot in range, and the image in order for its kind (R110, R123, R156, R175, R245, R247). -/
def State.goodLoad (s : State) (r : Req) : Bool :=
  let kind := r.inl 4 1
  let slot := r.inl 5 1
  let img := r.param
  (match kind with
   | 0 => decide (slot = 0)
   | 1 => true
   | 2 => decide (slot < 2)
   | 3 => decide (slot < 8)
   | 4 => decide (slot = 0)
   | 5 => decide (slot < 2)
   | _ => false) &&
    (match s.obj? (r.inl 0 4) with
     | none => true
     | some x =>
       s.goodTiers x.part kind x.places && (kind ≠ 1 || (x.places.all fun e => e.tier = 0) || (!isVocab img && bitOf (fieldLe img 22 1) 1)) &&
         (match kind with
          | 0 => goodWeights x.places img
          | 1 => if isVocab img then goodVocab img else goodTable x.places img
          | 2 => !((List.range 4).all fun i => (viewOffset x.places (32 + i)).isSome) || goodShard x.places img
          | 3 => goodPool img
          | 4 => goodAdapter img
          | _ => goodProgram img (s.partSize x.part)))

/-- Does another object load into the slot, or as the same shard number (R111)? -/
def State.otherLoads (s : State) (o kind slot : Nat) (img : List Byte) : Bool :=
  s.objs.any fun (e : Nat × Obj) => e.1 % 2 ^ 40 ≠ o && e.2.loading && e.2.kind = some kind &&
    (((kind = 1 || kind = 2 || kind = 3) && e.2.slot = slot) || (kind = 2 && fieldLe e.2.image 8 2 = fieldLe img 8 2))

/-- Does the slot of a load hold something else, or its object in use? -/
def State.slotBusy (s : State) (o kind slot : Nat) (img : List Byte) : Bool :=
  s.otherLoads o kind slot img || match kind with
  | 1 =>
    (match s.table? slot with
     | some t => t.object ≠ o || isVocab img || t.commit.isSome || t.replacing ||
        s.host.reqs.any fun x => !x.ended && x.opcode = 0x12 && x.inl 0 1 = slot
     | none => false) ||
    (match aget s.vocabs slot with
     | some v => v.object ≠ o || !isVocab img || s.pinned o
     | none => false)
  | 2 =>
    (match aget s.shards slot with
     | some x => x.object ≠ o || s.pinned o
     | none => false) ||
    (s.shards.any fun (e : Nat × Shard) => e.1 ≠ slot && s.rd R.sloShardShard e.1 = fieldLe img 8 2)
  | 3 =>
    s.rd R.mdlTreeLog2 slot = 0 || (s.obj? o).any (fun x => x.part ≠ s.rd R.mdlTreePartition slot) ||
      (match aget s.pools slot with
       | some x => x.object ≠ o || s.pinned o
       | none => false)
  | _ => false

/-- The weight set of a digest that a partition holds (R215). -/
def State.holdsWeights (s : State) (p : Nat) (digest : List Byte) : Bool :=
  s.weights.any fun (e : Nat × WeightSet) => e.2.part = p && e.2.current && e.2.digest = digest

/-- Versions of adapters that a partition holds, those that load and those that drain among them. -/
def State.adapterCount (s : State) (p : Nat) : Nat := (s.adapters.filter fun a => a.part = p).length

/-- A number that no load of an adapter which is still held has. -/
def State.nextSerial (s : State) : Nat := 1 + (s.adapters.map fun a => a.serial).foldl Nat.max 0

/-- Check 6 of a load: the object is not placed, loads, has another kind or slot, or is in use; the adapter was built for another weight
set; the partition's program runs. -/
def State.loadState (s : State) (r : Req) : Bool :=
  let kind := r.inl 4 1
  match s.obj? (r.inl 0 4) with
  | none => true
  | some x =>
    x.loading || (x.kind.any fun k => k ≠ kind || (kind ≠ 5 && x.slot ≠ r.inl 5 1)) || s.slotBusy (r.inl 0 4) kind (r.inl 5 1) r.param ||
      (kind = 4 && !s.holdsWeights x.part (slice r.param 0 32)) ||
      (kind = 5 && ((s.part x.part).running.isSome || !(s.part x.part).queue.isEmpty || s.gens.any fun g => g.part = x.part))

/-- Does the load keep a served version beside the new one: a table's replacement, a new weight set (R167, R217)? -/
def loadsBeside (x : Obj) (kind : Nat) (img : List Byte) : Bool := x.kind.isSome && ((kind = 1 && !isVocab img) || kind = 0)

/-- Map units of the flash parts of a placement that are not in SLC mode yet: those that become spill extents count twice more (R232, R243). -/
def State.tlcUnits (s : State) (ps : List PartEntry) : Nat :=
  ((flashParts ps).map fun e => if s.flash.extents.any fun x => x.1 = e.base && x.2.2.2 then 0 else mapUnitsOf e.units).foldl (· + ·) 0

/-- Check 9 of a load: the content fits the space placed, or new space of the same size for a version that loads beside the old. -/
def State.loadRoom (s : State) (r : Req) : Bool :=
  let img := r.param
  match s.obj? (r.inl 0 4) with
  | none => false
  | some x =>
    ((r.inl 4 1 = 1 && !isVocab img) || imageFits x.places img.length) &&
      (match r.inl 4 1 with
       | 0 => weightsFit x.places img
       | 1 => if isVocab img then vocabFits x.places img else tableFits x.places img
       | 2 => (List.range 4).all (sectionFits x.places img)
       | 3 => poolFits x.places img && s.flashRoom x.part (2 * s.tlcUnits x.places)
       | 4 => decide (s.adapterCount x.part < 64)
       | _ => true) &&
      (!loadsBeside x (r.inl 4 1) img || (s.takeParts x.part false x.places).isSome)

/-- The object record a load fills: the object's own, or the one that loads beside it. -/
def loadKey (x : Obj) (o kind : Nat) (img : List Byte) : Nat := if loadsBeside x kind img then 2 ^ 40 + o else o

/-- The tree of a pool that is loaded again is cleared, and its blocks with it (R192). -/
def State.clearTree (s : State) (t : Nat) : State :=
  ((((s.putTrees (amod s.trees t fun _ => MTree.empty)).wr R.mdlTreeNodes t 0).wr R.mdlPstatFrames t 0).wr R.mdlPstatFree t 0).wr R.mdlPstatSpilled t 0

/-- A load begins: the image is written into its space, address fields become device addresses, accumulators take their values and the
slot shows that it loads. -/
def State.beginLoad (s : State) (k : ReqKey) (r : Req) (x : Obj) (ps : List PartEntry) (tail : Sparse (List Byte)) : State :=
  let o := r.inl 0 4
  let kind := r.inl 4 1
  let img := r.param
  let s := s.writeImage k.1 x.part ps img
  let s := s.rebase (headerFields kind (isVocab img) ps) (objAt ps)
  let s := if kind = 1 ∧ !isVocab img then s.initAcc ps img (tableOf x.part o ps img tail [] 0) else s
  let y : Obj := ⟨x.part, ps, x.placer, some kind, r.inl 5 1, true, k, digest256 img, x.epoch, img, tail⟩
  let s := s.putObjs (aput (aput s.objs o { x with loading := true, loader := k }) (loadKey x o kind img) y)
  match kind with
  | 1 =>
    if (s.table? (r.inl 5 1)).isSome then s.updTable (r.inl 5 1) fun t => { t with replacing := true } else s.wr R.tblTstatState (r.inl 5 1) 1
  | 2 => ((s.putShards (adel s.shards (r.inl 5 1))).wr R.sloShardState (r.inl 5 1) 1).wr R.sloShardShard (r.inl 5 1) (fieldLe img 8 2)
  | 3 =>
    let bases := (flashParts ps).map fun e => e.base
    (((s.clearTree (r.inl 5 1)).putPools (adel s.pools (r.inl 5 1))).wr R.mdlPstatState (r.inl 5 1) 1).updFlash fun f => { f with extents := f.extents.map fun e =>
      if e.1 ∈ bases then (e.1, e.2.1, e.2.2.1, true) else e }
  | 4 => s.putAdapters (s.adapters ++ [⟨x.part, fieldLe img 34 2, fieldLe img 36 4, digest256 img, true, false, k, s.nextSerial⟩])
  | _ => s

/-- Does a load name an embedding table? -/
def loadsTable (r : Req) : Bool := r.inl 4 1 = 1 && !isVocab r.param

/-- The rows of a table that lie in host memory are read before it loads (R156): those that have not come are asked for, and a poisoned one ends the
load. -/
def State.tableTail (s : State) (k : ReqKey) (r : Req) (x : Obj) : State × Option (Sparse (List Byte)) :=
  let st := fieldLe r.param 20 2
  let cur := b2n (bitOf (fieldLe r.param 22 1) 2)
  if !loadsTable r then (s, some [])
  else
    let y := (hostRows r.param).foldl (fun (y : State × List (Nat × Option (List Byte × Bool))) e =>
      let z := y.1.hostRead x.placer x.places (.request k.1 k.2) (2 * st * e.2 + cur * st) st
      (z.1, y.2 ++ [(e.1, z.2.map fun l => (pieceBytes l, pieceBad l))])) (s, [])
    if y.2.any fun e => e.2.any fun d => d.2 then (y.1.endPoison k (hubSite 5 14) hubMaster 0 0, none)
    else if y.2.any fun e => e.2.isNone then (y.1, none)
    else (y.1, some (y.2.foldl (fun m e => aput m e.1 ((e.2.map fun d => d.1).getD [])) []))

/-- Does a table's replacement wait: updates admitted before it apply to the version it replaces (R167; DEDUCED, log entry 90)? -/
def State.loadWaits (s : State) (r : Req) : Bool :=
  loadsTable r && s.host.reqs.any fun x => !x.ended && x.opcode = 0x11 && x.inl 0 1 = r.inl 5 1 && decide (x.order < r.order)

/-- OP_OBJECT_LOAD. -/
def State.objectLoad (s : State) (k : ReqKey) : State := s.onReq k 0x29 fun r =>
  match s.obj? (r.inl 0 4) with
  | none => s.endReq k stState 0 0
  | some x =>
    if x.loading ∧ x.loader = k ∨ s.loadWaits r then s
    else if !s.goodLoad r then s.endReq k stBadDescriptor 0 0
    else if s.loadState r then s.endReq k stState 0 0
    else if !s.loadRoom r then s.endReq k stNoResource 0 0
    else match s.tableTail k r x with
      | (s, none) => s
      | (s, some tail) =>
        if !goodTail r.param tail then s.endReq k stBadDescriptor 0 0
        else if fieldLe r.param 104 4 < (imageResid x.places r.param tail).length ∧ loadsTable r then s.endReq k stNoResource 0 0
        else if loadsBeside x (r.inl 4 1) r.param then
          match s.takeParts x.part false x.places with
          | none => s.endReq k stNoResource 0 0
          | some (s, ps) => s.beginLoad k r x ps tail
        else s.beginLoad k r x x.places tail

/-- OP_OBJECT_LOAD. -/
def execOpObjectLoad (client req : Nat) (s : State) : Out := .next (s.objectLoad (client, req))

/-! ## The end of a load -/

/-- The registers of a table slot that serves. -/
def State.showTable (s : State) (slot : Nat) (t : Table) : State :=
  let s := (s.wr R.tblTstatEpoch slot t.epoch).wr R.tblTstatState slot 2
  let s := (s.wr R.tblTstatSplit slot (b2n (decide (1 < t.slices)))).wr R.tblTstatTiered slot (b2n t.tiered)
  (s.wr R.tblTstatUpdatable slot (b2n t.updatable)).wr R.tblTstatMoving slot t.moving

/-- A table's first load: it serves at the object's EPOCH. -/
def State.firstTable (s : State) (o : Nat) (y : Obj) : State × Nat :=
  let t := tableOf y.part o y.places y.image y.tail y.digest (fieldLe y.image 24 4)
  let s := s.putTables (aput s.tables y.slot t)
  (((s.showTable y.slot t).wr R.tblTstatClipped y.slot 0).mirrorTable y.slot, t.epoch)

/-- A replacement flips (R166, R167): EPOCH + 1, its digest chained; the old version stays while lookups are pinned to it, and that of a split table for
KEEP_MS (R168). -/
def State.replaceTable (s : State) (o : Nat) (x y : Obj) (old : Table) : State × Nat :=
  let e := (old.epoch + 1) % 2 ^ 32
  let t := tableOf y.part o y.places y.image y.tail (digest256 (old.digest ++ y.digest)) e
  let k := supersededKey y.slot old.epoch
  let kept := { old with replacing := false, flipped := aput old.flipped old.epoch s.now }
  let s := if old.pins.isEmpty ∧ old.slices ≤ 1 then s.freeParts x.places
    else (s.putTables (aput s.tables k kept)).putObjs (aput s.objs k { x with loading := false })
  let s := s.putTables (aput s.tables y.slot t)
  let s := s.updObj o fun x => { x with places := y.places, digest := y.digest, image := y.image }
  ((s.showTable y.slot t).mirrorTable y.slot, e)

/-- What a load leaves, by kind: the state and the epoch its completion carries. -/
def State.finishLoad (s : State) (o : Nat) (x y : Obj) : State × Nat :=
  let slot := y.slot
  let img := y.image
  match y.kind with
  | some 0 =>
    let e := x.epoch + 1
    let old := weightKey o x.epoch
    let s := (s.putWeights (aput (amod s.weights old fun w => { w with current := false }) (weightKey o e) (weightsOf y.part o x.places y.places img y.digest))).putObjs (if (aget s.weights old).isSome then aput s.objs (weightSpaceKey old) { x with loading := false } else s.objs)
    (s.updObj o fun x => { x with places := y.places, digest := y.digest, image := img, epoch := e }, e)
  | some 1 =>
    if isVocab img then
      (((s.putVocabs (aput s.vocabs slot (vocabOf y.part o img y.digest))).wr R.tblTstatState slot 2), 0)
    else match s.table? slot with
      | none => s.firstTable o y
      | some old => s.replaceTable o x y old
  | some 2 =>
    let t := shardOf y.part o y.places img y.digest
    let e := secFld y.places img 0 72 4
    let s := s.putShards (aput s.shards slot t)
    let s := (s.wr R.sloShardState slot 2).wr R.sloShardSketch slot (secFld y.places img 0 7 1)
    (((s.wr R.sloShardDeg8 slot (t.degree / 8)).wr R.sloShardEpoch slot e).mirrorShard slot, e)
  | some 3 =>
    let s := s.putPools (aput s.pools slot (poolOf y.part o y.places img))
    let s := (s.wr R.mdlPstatFrames slot (fieldLe img 4 4)).wr R.mdlPstatFree slot (fieldLe img 4 4)
    ((s.wr R.mdlPstatSpilled slot 0).wr R.mdlPstatState slot 2, 0)
  | some 4 =>
    let v := fieldLe img 36 4
    let mine (a : Adapter) : Bool := a.part = y.part && a.id = fieldLe img 34 2
    let s := s.putAdapters (s.adapters.map fun a =>
        if mine a ∧ a.loading ∧ a.loader = y.loader then { a with loading := false } else if mine a ∧ !a.loading then { a with retired := true } else a)
    (s, v)
  | _ =>
    let s := s.loadProgram y.part img
    (s.setPart y.part { s.part y.part with program := some o, clusters := prgClusters img, generation := decide (slot = 1), steps := 0 }, 0)

/-- A load whose request has ended is abandoned: nothing is loaded. -/
def State.dropLoad (s : State) (o : Nat) (x y : Obj) : State :=
  let slot := y.slot
  let beside := (s.obj? (2 ^ 40 + o)).isSome
  let s := if beside then ((s.freeParts y.places).putObjs (adel s.objs (2 ^ 40 + o))) else s
  let s := s.updObj o fun z => if beside then { z with loading := false } else { x with loading := false, kind := none }
  match y.kind with
  | some 1 => if (s.table? slot).isSome then s.updTable slot fun t => { t with replacing := false } else s.wr R.tblTstatState slot 0
  | some 2 => (s.wr R.sloShardState slot 0).wr R.sloShardShard slot 0
  | some 3 => s.wr R.mdlPstatState slot 0
  | some 4 => s.putAdapters (s.adapters.filter fun a => !(a.loading && a.loader = y.loader))
  | _ => s

/-- OBJECT_LOAD_COMPLETE: the content of a load is in place, and it takes effect at this device time. -/
def State.loadComplete (s : State) (o : Nat) : State :=
  match s.obj? o with
  | none => s
  | some x =>
    if !x.loading then s
    else
      let y := (s.obj? (2 ^ 40 + o)).getD x
      if !s.live x.loader then s.dropLoad o x y
      else
        let r := s.finishLoad o x y
        let s := r.1.putObjs (adel r.1.objs (2 ^ 40 + o))
        (s.updObj o fun z => { z with loading := false }).endReq x.loader stOk r.2 0

/-- OBJECT_LOAD_COMPLETE. -/
def execObjectLoadComplete (object : Nat) (s : State) : Out := .next (s.loadComplete object)

/-! ## Adapters (R215, R216) -/

/-- The partition that an adapter command acts on: the client's. -/
def State.adapterPart (s : State) (r : Req) : Nat := s.home r.client

/-- OP_ADAPTER_LOAD: a version of an adapter begins to load. -/
def State.adapterLoad (s : State) (k : ReqKey) : State := s.onReq k 0x20 fun r =>
  let p := s.adapterPart r
  if (s.adapters.any fun a => a.loading && a.loader = k) then s
  else if !goodAdapter r.param ∨ 1024 ≤ r.inl 0 2 then s.endReq k stBadDescriptor 0 0
  else if !s.holdsWeights p (slice r.param 0 32) then s.endReq k stState 0 0
  else if 64 ≤ s.adapterCount p then s.endReq k stNoResource 0 0
  else s.putAdapters (s.adapters ++ [⟨p, r.inl 0 2, r.inl 4 4, digest256 r.param, true, false, k, s.nextSerial⟩])

/-- OP_ADAPTER_LOAD. -/
def execOpAdapterLoad (client req : Nat) (s : State) : Out := .next (s.adapterLoad (client, req))

/-- ADAPTER_LOAD_COMPLETE: the new version becomes current at this device time, and every other version of its ID is retired. A load
whose request has ended is abandoned. -/
def State.adapterDone (s : State) (p id ver : Nat) : State :=
  match s.adapters.find? fun a => a.part = p && a.id = id && a.version = ver && a.loading with
  | none => s
  | some x =>
    if !s.live x.loader then s.putAdapters (s.adapters.filter fun a => a ≠ x)
    else
      let s := s.putAdapters (s.adapters.map fun a =>
        if a = x then { a with loading := false } else if a.part = p ∧ a.id = id ∧ !a.loading then { a with retired := true } else a)
      s.onReq x.loader 0x20 fun _ => s.endReq x.loader stOk ver 0

/-- ADAPTER_LOAD_COMPLETE. -/
def execAdapterLoadComplete (part adapter version : Nat) (s : State) : Out := .next (s.adapterDone part adapter version)

/-- The current version of an adapter (R216). -/
def State.currentAdapter (s : State) (p id : Nat) : Option Adapter :=
  s.adapters.find? fun a => a.part = p && a.id = id && !a.loading && !a.retired

/-- OP_ADAPTER_RETIRE: the current version is retired and the ID has none. -/
def State.adapterRetire (s : State) (k : ReqKey) : State := s.onReq k 0x21 fun r =>
  match s.currentAdapter (s.adapterPart r) (r.inl 0 2) with
  | none => s.endReq k stVersionRetired 0 0
  | some x => (s.putAdapters (s.adapters.map fun a => if a = x then { a with retired := true } else a)).endReq k stOk x.version 0

/-- OP_ADAPTER_RETIRE. -/
def execOpAdapterRetire (client req : Nat) (s : State) : Out := .next (s.adapterRetire (client, req))

/-! ## What drains (R216, R217) -/

/-- A version that is freed stays one that was retired: requests that name it are told so (R216). -/
def State.noteRetired (s : State) (a : Adapter) : State :=
  let x := s.part a.part
  if (a.id, a.version) ∈ x.retired then s else s.setPart a.part { x with retired := x.retired ++ [(a.id, a.version)] }

/-- Retired adapter versions and superseded weight sets that no request pins any more are freed. -/
def State.reap (s : State) : State :=
  let freed := s.adapters.filter fun a => a.retired && !(s.host.reqs.any fun r => !r.ended && r.adapter.any fun v => v.2.2 = a.serial)
  let s := freed.foldl (fun s a => s.noteRetired a) (s.putAdapters (s.adapters.filter fun a => a ∉ freed))
  let gone := s.weights.filter fun (e : Nat × WeightSet) => !e.2.current && !(s.host.reqs.any fun r => !r.ended && e.1 ∈ r.models)
  gone.foldl (fun s e =>
    let s := match s.obj? (weightSpaceKey e.1) with
      | some x => s.freeParts x.places
      | none => s
    ((s.putWeights (adel s.weights e.1)).putObjs (adel s.objs (weightSpaceKey e.1)))) s

/-- The partitions are reset of the trees in which the release of a pin has met an uncorrectable word (R193). -/
def State.settleTrees (s : State) : State :=
  (s.trees.filter fun (e : Nat × MTree) => e.2.bad.any fun b => b.2 = 3).foldl (fun s e => s.resetPartition (s.rd R.mdlTreePartition e.1) 1) s

/-- COMPLETION_POST. -/
def execCompletionPost (client : Nat) (s : State) : Out := .next (s.post client).settleTrees.reap

end Sys2Proof.Machine
end

