-- ==== Sys2Proof/Machine/Rank.lean ====
section
/-! DEFINITION. The total order of ranked selections, dense selections, rank lists and their merge (07_rerank_topk.md R133 to R141,
R150, R151). -/

namespace Sys2Proof.Machine

/-- An entry of a dense selection: identifier, key bits and key value. -/
structure Key where
  id : Nat
  code : Nat
  val : Num
  deriving DecidableEq, Repr

/-- Does entry a rank above entry b (R133)? -/
def rankAbove (desc : Bool) (aVal bVal : Num) (aId bId : Nat) : Bool :=
  (if desc then bVal.lt aVal else aVal.lt bVal) || (aVal.eqRank bVal && decide (aId < bId))

/-- A key of Table RANK-1, codes 0 to 2: 4 written bytes and value. -/
def keyOf (typ code : Nat) : Nat × Num :=
  if typ = 0 then (code % 2 ^ 32, fp32Val code)
  else if typ = 1 then (code % 2 ^ 16 * 2 ^ 16, fmtBF16.decode (code % 2 ^ 16))
  else (code % 2 ^ 32, Num.ofInt (signedOf 32 code) 0)

/-- Bytes of a key in memory. -/
def keyBytes (typ : Nat) : Nat := if typ = 1 then 2 else 4

/-- Key of an empty slot (Table RANK-1). -/
def emptyKey (typ : Nat) (desc : Bool) : Nat :=
  if typ = 2 then (if desc then 0x80000000 else 0x7FFFFFFF) else if desc then 0xFF800000 else 0x7F800000

/-- A selection of k (R135): the chosen keys in rank order, and how many keys were NaN. -/
def selectKeys (k : Nat) (desc : Bool) (keys : List Key) : List Key × Nat :=
  let ok := keys.filter fun x => x.val ≠ .nan
  ((sortBy (fun a b => rankAbove desc a.val b.val a.id b.id) ok).take k, keys.length - ok.length)

/-- A dense selection output of Table RANK-3. -/
def denseBytes (typ k row : Nat) (desc : Bool) (sel : List Key) (invalid : Nat) : List Byte :=
  leBytes 4 sel.length ++ leBytes 4 invalid ++ leBytes 4 row ++ leBytes 2 k ++ leBytes 1 typ ++ leBytes 1 (b2n (!desc)) ++
    List.replicate 16 0 ++
    (sel.flatMap fun x => leBytes 4 x.code ++ leBytes 4 x.id) ++
    (List.replicate (k - sel.length) (leBytes 4 (emptyKey typ desc) ++ leBytes 4 0xFFFFFFFF)).flatten

/-! ## Rank lists -/

/-- A rank entry (Table RANK-4). -/
structure Entry where
  handle : Nat
  score : Nat
  stage : Nat
  side : Bool
  valid : Bool
  value : Nat
  deriving DecidableEq, Repr

/-- Its 16 bytes. -/
def Entry.bytes (e : Entry) : List Byte :=
  leBytes 16 (e.handle % 2 ^ 64 + e.score % 2 ^ 16 * 2 ^ 64 + e.stage % 4 * 2 ^ 92 + b2n e.side * 2 ^ 94 + b2n e.valid * 2 ^ 95 +
    e.value % 2 ^ 32 * 2 ^ 96)

/-- The entry of 16 bytes. -/
def Entry.ofBytes (bs : List Byte) : Entry :=
  let n := leNat bs
  ⟨n % 2 ^ 64, bitsOf n 79 64, bitsOf n 93 92, bitOf n 94, bitOf n 95, bitsOf n 127 96⟩

/-- The key of an entry: SCORE for key type 3, VALUE for key type 4. -/
def Entry.key (typ : Nat) (e : Entry) : Num := if typ = 3 then Num.ofInt e.score 0 else fp32Val e.value

/-- Is the entry valid (R134)? -/
def Entry.ok (typ : Nat) (e : Entry) : Bool := e.valid && decide (e.key typ ≠ .nan)

/-- An empty slot (R135, Table RANK-4). -/
def Entry.empty (typ : Nat) : Entry := ⟨2 ^ 64 - 1, 0, 0, false, false, if typ = 3 then 0 else 0xFF800000⟩

/-- A list in rank order, descending, cut to k and padded (R135). -/
def rankList (typ k : Nat) (es : List Entry) : List Entry :=
  let ok := es.filter (Entry.ok typ)
  let out := (sortBy (fun a b => rankAbove true (a.key typ) (b.key typ) a.handle b.handle) ok).take k
  out ++ List.replicate (k - out.length) (Entry.empty typ)

/-- What a merge holds of each identifier while it runs: the kept entry and its source. -/
abbrev Kept := List (Entry × Nat)

/-- One entry enters a merge (R140): kept entries, duplicates so far. -/
def mergeOne (typ source : Nat) (st : Kept × Nat) (e : Entry) : Kept × Nat :=
  match st.1.find? fun x => x.1.handle = e.handle with
  | none => (st.1 ++ [(e, source)], st.2)
  | some old =>
    let better := (old.1.key typ).lt (e.key typ) || ((e.key typ).eqRank (old.1.key typ) && decide (source < old.2))
    (if better then st.1.map (fun x => if x.1.handle = e.handle then (e, source) else x) else st.1, st.2 + 1)

/-- The merge of R140: entries, duplicates removed, NaN keys met. -/
def mergeLists (typ k : Nat) (lists : List (Nat × List Entry)) : List Entry × Nat × Nat :=
  let all := lists.flatMap fun l => l.2.map fun e => (l.1, e)
  let st := (all.filter fun x => x.2.ok typ).foldl (fun st x => mergeOne typ x.1 st x.2) ([], 0)
  let nan := (all.filter fun x => x.2.valid && !x.2.ok typ).length
  (rankList typ k (st.1.map (·.1)), st.2, nan)

/-- Entries of a list whose VALID bit is set and whose key is a NaN (R134). -/
def nanKeys (typ : Nat) (es : List Entry) : Nat := (es.filter fun e => e.valid && !e.ok typ).length

/-- Valid entries of a list. -/
def validOf (es : List Entry) : Nat := (es.filter (·.valid)).length

/-- A merged list: the header of Table RANK-5 and its entries (R151). -/
def listBytes (typ sources dups invalid stale req : Nat) (es : List Entry) : List Byte :=
  let v := validOf es
  leBytes 2 v ++ leBytes 2 es.length ++ leBytes 2 sources ++ leBytes 1 typ ++ leBytes 1 (b2n (decide (v < es.length))) ++
    leBytes 4 dups ++ leBytes 4 invalid ++ leBytes 4 stale ++ leBytes 4 req ++ List.replicate 8 0 ++ es.flatMap Entry.bytes

/-- K of a merged list. -/
def listK (bs : List Byte) : Nat := fieldLe bs 2 2

/-- Bytes of a merged list of K slots. -/
def listSize (k : Nat) : Nat := 32 + 16 * k

/-- Bytes of the result record of a generation block (R213). -/
def genRec (b : List Byte) : Nat := 32 + 8 * (fieldLe b 16 1 + 1)

/-- Bytes that an OP_RETRIEVE writes at REC with `n` shard entries: the ranking record, and with GEN the generation result record after it (R312). -/
def Req.retrieveRec (r : Req) (n : Nat) : Nat :=
  let a := 32 + 8 * n + listSize (r.p 28 2)
  if bitOf (r.p 13 1) 0 then roundUp a 64 + genRec (slice r.param 768 128) else a

/-- STALE of a merged list. -/
def listStale (bs : List Byte) : Nat := fieldLe bs 16 4

/-- INVALID of a merged list. -/
def listInvalid (bs : List Byte) : Nat := fieldLe bs 12 4

/-- The entries of `n` consecutive 16-byte slots. -/
def entriesOf (bs : List Byte) (n : Nat) : List Entry := (List.range n).map fun i => Entry.ofBytes (slice bs (16 * i) 16)

/-- The entries of a merged list. -/
def listEntries (bs : List Byte) : List Entry := entriesOf (bs.drop 32) (listK bs)

/-- The merge of several merged lists, as a merged list: STALE is the sum over them (DEDUCED, log entry 30). -/
def mergedList (typ k req : Nat) (lists : List (Nat × List Byte)) : List Byte :=
  let m := mergeLists typ k (lists.map fun l => (l.1, listEntries l.2))
  listBytes typ lists.length m.2.1 m.2.2 ((lists.map fun l => listStale l.2).foldl (· + ·) 0) req m.1

end Sys2Proof.Machine
end

