-- ==== Sys2Proof/Machine/Search.lean ====
section
/-! DEFINITION. Sketch search (06_sketch_search.md R111 to R131): epochs and what is alive at one, the walk and the sweep, the placing of
walks, shard results, and the changes of an index: inserts, deletes, publishes and merges. -/

namespace Sys2Proof.Machine

/-! ## Search parameters (Table SRCH-4) -/

/-- Bits [h:l] of a search block. -/
def spBits (b : List Byte) (h l : Nat) : Nat := bitsOf (leNat (b.take 64)) h l
/-- k. -/
def spK (b : List Byte) : Nat := spBits b 73 64 + 1
/-- The beam. -/
def spBeam (b : List Byte) : Nat := spBits b 55 48 + 1
/-- WIDEN. -/
def spWiden (b : List Byte) : Nat := spBits b 98 96 + 1
/-- The slots named. -/
def spSlots (b : List Byte) : List Nat := (List.range 2).filter fun i => bitOf (spBits b 107 106) i
/-- SKETCH. -/
def spSketch (b : List Byte) : Nat := spBits b 109 108
/-- Most expansions of a walk. -/
def spExpand (b : List Byte) : Nat := spBits b 139 128 + 1

/-- Does a search block keep to R7, R119 and the ranges of Table SRCH-4? RO fields are zero in a descriptor (Table HOST-7). -/
def goodSearch (b : List Byte) (slots : Bool) : Bool :=
  decide (spBits b 511 288 = 0) && decide (spBits b 159 140 = 0) && decide (spBits b 127 110 = 0) && decide (spBits b 103 99 = 0) &&
    decide (spBits b 95 74 = 0) && decide (spBits b 63 56 = 0) && decide (spBits b 47 32 = 0) && decide (16 ≤ spExpand b) &&
    decide (8 ≤ spBeam b) && decide (spK b ≤ 4 * spBeam b) && (!slots || !(spSlots b).isEmpty) && decide (spSketch b < 3)

/-- Does a passage pass the filter (R118)? -/
def passes (b : List Byte) (m : Meta) : Bool :=
  decide (m.tags &&& spBits b 175 160 = spBits b 191 176) && (spBits b 104 104 = 0 || m.keyA = spBits b 223 192) &&
    (spBits b 105 105 = 0 || (decide (spBits b 255 224 ≤ m.keyB) && decide (m.keyB ≤ spBits b 287 256)))

/-! ## Epochs and handles -/

/-- Is epoch a later than epoch b, modulo 2^32? -/
def later (a b : Nat) : Bool :=
  let d := (a + 2 ^ 32 - b % 2 ^ 32) % 2 ^ 32
  decide (1 ≤ d) && decide (d < 2 ^ 31)

/-- A passage handle: shard, section and node, GEN (R112, R40). -/
def handleOf (shard sec node gen : Nat) : Nat := shard % 2 ^ 16 * 2 ^ 48 + (sec * 2 ^ 30 + node % 2 ^ 30) * 2 ^ 16 + gen % 2 ^ 16
/-- Its shard number. -/
def hShard (h : Nat) : Nat := bitsOf h 63 48
/-- Its section. -/
def hSec (h : Nat) : Nat := bitsOf h 47 46
/-- Its node number. -/
def hNode (h : Nat) : Nat := bitsOf h 45 16
/-- Its GEN. -/
def hGen (h : Nat) : Nat := bitsOf h 15 0

/-- A shard slot's shard. -/
def State.shard? (s : State) (slot : Nat) : Option Shard := aget s.shards slot

/-- Changes a shard. -/
def State.updShard (s : State) (slot : Nat) (f : Shard → Shard) : State := s.putShards (amod s.shards slot f)

/-- Changes a section. -/
def Shard.updSec (x : Shard) (sec : Nat) (f : Section → Section) : Shard :=
  { x with sections := (List.range x.sections.length).filterMap fun i => (x.sections[i]?).map fun y => if i = sec then f y else y }

/-- Sketch bits of a shard slot. -/
def State.shardBits (s : State) (slot : Nat) : Nat := sketchBits (s.rd R.sloShardSketch slot)

/-- The slot that holds a shard number and serves it. -/
def State.slotOf (s : State) (shard : Nat) : Option Nat :=
  (List.range 2).find? fun i => (s.shard? i).isSome && s.rd R.sloShardShard i = shard

/-! ## What is alive at an epoch (R122, R123) -/

/-- The first three conditions of R122. -/
def SideRec.takesPart (r : SideRec) (e : Nat) : Bool :=
  r.valid && (match r.consumed with
    | none => true
    | some c => later r.pub c) && !later r.pub e

/-- Was a node on the free list at an epoch? -/
def Section.freeAt (x : Section) (n e : Nat) : Bool :=
  x.freeHist.any fun f => f.1 = n && !later f.2.1 e && (match f.2.2 with
    | none => true
    | some g => later g e)

/-- The side record of a node that takes part at an epoch. -/
def Section.sideAt (x : Section) (n e : Nat) : Option SideRec := x.side.find? fun r => r.node = n && r.takesPart e

/-- Does a node number name a passage at an epoch? -/
def Section.names (x : Section) (n e : Nat) : Bool := (decide (n < x.nodes) && !x.freeAt n e) || (x.sideAt n e).isSome

/-- Is a node alive at an epoch? -/
def Section.alive (x : Section) (n e : Nat) : Bool :=
  x.names n e && (!sget false x.tomb n || (match aget x.delLog n with
    | some d => later d e
    | none => false))

/-! ## The walk (R120) -/

/-- ceil(log2(n)). -/
def clog2 (n : Nat) : Nat := if n ≤ 1 then 0 else Nat.log2 (n - 1) + 1

/-- The Hamming distance of two sketches. -/
def hamming (a b : List Byte) : Nat := ((List.zipWith (fun x y => (List.range 8).filter fun i => bitOf (x ^^^ y).toNat i) a b).map List.length).foldl (· + ·) 0

/-- What reads of a walk leave: what stopped it, 0 nothing, 1 a poisoned word, 2 an uncorrectable word, 3 a granule of another partition; that word;
the bytes read; the channels that served them; and the words that were not clean. -/
structure WalkMem where
  stop : Nat
  word : Nat
  bytes : Nat
  chans : List Nat
  dirty : List Nat
  deriving DecidableEq, Repr

/-- No reads. -/
def WalkMem.none : WalkMem := ⟨0, 0, 0, [], []⟩

/-- Reads after others: the first that stops the walk stands. -/
def WalkMem.and (a b : WalkMem) : WalkMem :=
  if a.stop ≠ 0 then a else ⟨b.stop, b.word, a.bytes + b.bytes, (a.chans ++ b.chans).eraseDups, a.dirty ++ b.dirty⟩

/-- A running walk: the visited filter, the candidates in order with their expanded marks, the expansions, and what its reads met. -/
structure WalkRun where
  filter : Sparse Bool
  cand : List (Nat × Nat × Bool)
  exps : Nat
  mem : WalkMem
  deriving DecidableEq, Repr

/-- visited_test_and_set: has the filter seen the node, and the filter after. -/
def visit (f node : Nat) (flt : Sparse Bool) : Bool × Sparse Bool :=
  let a := node * 0x9E3779B1 % 2 ^ 32
  let b := node * 0x85EBCA77 % 2 ^ 32
  let bits := [a >>> (32 - f), b >>> (32 - f), (a ^^^ b) % 2 ^ f]
  (bits.all fun i => sget false flt i, bits.foldl (fun m i => sset false m i true) flt)

/-- Candidate order: (d, node). -/
def candBefore (a b : Nat × Nat × Bool) : Bool := decide (a.1 < b.1) || (a.1 = b.1 && decide (a.2.1 < b.2.1))

/-- insert_bounded: the best `beam` of the list and the item. -/
def insertBounded (beam : Nat) (cand : List (Nat × Nat × Bool)) (x : Nat × Nat × Bool) : List (Nat × Nat × Bool) :=
  (insertBy candBefore x cand).take beam

/-- Reads device memory for a walk of partition `p`. -/
def State.walkRead (s : State) (p a n : Nat) : List Byte × WalkMem :=
  let cs := ((s.devLines a n).map (· / 2 ^ 27)).eraseDups
  if !s.ownsRange p a n then (List.replicate n 0, ⟨3, 0, 0, [], []⟩)
  else match s.uncorrAt a n with
    | some w => (List.replicate n 0, ⟨2, w, n, cs, []⟩)
    | none =>
      let r := s.readDev a n
      (r.1, ⟨b2n r.2, 0, n, cs, (s.devWords a n).filter fun w => !s.cleanAt w⟩)

/-- A node is offered to the walk. -/
def State.offer (s : State) (x : Shard) (y : Section) (q : List Byte) (bits f beam : Nat) (w : WalkRun) (node : Nat) : WalkRun :=
  if w.mem.stop ≠ 0 then w
  else
    let v := visit f node w.filter
    if v.1 then { w with filter := v.2 }
    else
      let r := s.walkRead x.part (y.sketchBase + node * bits / 8) (bits / 8)
      { w with filter := v.2, mem := w.mem.and r.2, cand := insertBounded beam w.cand (hamming q r.1, node, false) }

/-- Marks the first candidate of a node expanded. -/
def markExpanded (cand : List (Nat × Nat × Bool)) (node : Nat) : List (Nat × Nat × Bool) :=
  modFirst (fun c => c.2.1 = node && !c.2.2) (fun c => (c.1, c.2.1, true)) cand

/-- The expansions of a walk; `fuel` is max_expand. -/
def State.expandWalk (fuel : Nat) (s : State) (x : Shard) (y : Section) (q : List Byte) (bits f beam : Nat) (w : WalkRun) : WalkRun :=
  match fuel with
  | 0 => w
  | n + 1 =>
    if w.mem.stop ≠ 0 then w
    else match w.cand.find? fun c => !c.2.2 with
      | none => w
      | some c =>
        let r := s.walkRead x.part (y.adjBase + c.2.1 * 4 * x.degree) (4 * x.degree)
        let nbs := ((words4 r.1).takeWhile fun v => v ≠ 0xFFFFFFFF).map (· % 2 ^ 30)
        let w := { w with cand := markExpanded w.cand c.2.1, exps := w.exps + 1, mem := w.mem.and r.2 }
        s.expandWalk n x y q bits f beam (nbs.foldl (s.offer x y q bits f beam) w)

/-- The walk of R120. -/
def State.runWalk (s : State) (x : Shard) (y : Section) (q : List Byte) (bits beam maxExpand : Nat) : WalkRun :=
  let f := 16 + clog2 (ceilDiv beam 256)
  s.expandWalk maxExpand x y q bits f beam (y.entries.foldl (s.offer x y q bits f beam) ⟨[], [], 0, WalkMem.none⟩)

/-- The metadata of a graph node, as the walker reads it. -/
def State.nodeMeta (s : State) (x : Shard) (y : Section) (n : Nat) : Meta × WalkMem :=
  let r := s.walkRead x.part (y.metaBase + 16 * n) 16
  (metaOf r.1, r.2)

/-! ## Placing walks (R119, R130) -/

/-- Pins a shard's epoch to a request (R13); the epoch in force where it was pinned before. -/
def State.pinShard (s : State) (k : ReqKey) (slot : Nat) : State × Nat :=
  match s.shard? slot with
  | none => (s, 0)
  | some x => match x.pins.find? fun p => p.1 = k with
    | some p => (s, p.2)
    | none =>
      let e := s.rd R.sloShardEpoch slot
      (s.updShard slot fun x => { x with pins := x.pins ++ [(k, e)] }, e)

/-- Does a request hold a pin of the shard? -/
def Shard.pinnedBy (x : Shard) (k : ReqKey) : Bool := x.pins.any fun p => p.1 = k

/-- May a search of the slots start: each is pinned to the request, or its shard serves and commits no merge (R128)? -/
def State.searchReady (s : State) (k : ReqKey) (slots : List Nat) : Bool :=
  slots.all fun i => (s.shard? i).any fun x => x.pinnedBy k || s.rd R.sloShardState i = 2

/-- Four walks of a shard join the queues of the dies, in order of admission. -/
def State.queueWalks (s : State) (k : ReqKey) (slot attempt beam : Nat) : State :=
  (s.putWalks (s.walks ++ (List.range 4).map fun i => ⟨k.1, k.2, slot, i, attempt, beam, s.walkOrder + i, none, 0, 0, [], 0, false, [], 0, 0, false⟩)).putWalkOrder (s.walkOrder + 4)

/-- The request's search. -/
def State.search? (s : State) (k : ReqKey) : Option Search := s.searches.find? fun x => (x.client, x.req) = k

/-- Changes the request's search. -/
def State.updSearch (s : State) (k : ReqKey) (f : Search → Search) : State :=
  s.putSearches (modFirst (fun x => decide ((x.client, x.req) = k)) f s.searches)

/-- The search parameter block of a query: the hub sets EPOCH0 and EPOCH1 (R118). -/
def searchBlock (params : List Byte) (epochs : List (Nat × Nat)) : List Byte :=
  let e (i : Nat) : List Byte := leBytes 4 (((epochs.find? fun x => x.1 = i).map (·.2)).getD 0)
  slice params 0 36 ++ e 0 ++ e 1 ++ slice params 44 20

/-- A search of one or two slots begins: epochs are pinned, the parameter block and the sketch stand in hub SRAM, and its walks wait. -/
def State.beginSearch (s : State) (k : ReqKey) (slots : List Nat) (params sketch : List Byte) (origin : Option Nat) : State :=
  let r := slots.foldl (fun (r : State × List (Nat × Nat)) i =>
    let p := r.1.pinShard k i
    (p.1, r.2 ++ [(i, p.2)])) (s, [])
  let s := r.1
  let s := s.putSearches (s.searches ++ [⟨k.1, k.2, slots, slots.map fun i => (i, 0, 0), searchBlock params r.2, sketch, r.2, [], origin⟩])
  slots.foldl (fun s i => s.queueWalks k i 0 (spBeam params)) s

/-- The state rule of R119: does each named slot hold a shard that has loaded, with the search's sketch width? -/
def State.searchState (s : State) (b : List Byte) : Bool :=
  (spSlots b).all fun i => (s.shard? i).isSome && decide (s.rd R.sloShardState i ≠ 1) && s.rd R.sloShardSketch i = spSketch b

/-- OP_SEARCH: at its boundary before it starts a request may end (R451); else its walks are queued. -/
def State.opSearch (s : State) (k : ReqKey) : State := s.onReq k 0x04 fun r =>
  if r.ran then s
  else match s.boundary r with
    | some st => s.endReq k st 0 0
    | none =>
      if !s.searchState r.param then s.endReq k stState 0 0
      else if !s.searchReady k (spSlots r.param) then s
      else (s.updReq k fun r => { r with ran := true }).beginSearch k (spSlots r.param) (r.param.take 64) (r.param.drop 64) none

/-- OP_SEARCH. -/
def execOpSearch (client req : Nat) (s : State) : Out := .next (s.opSearch (client, req))

/-- The walkers of a die that are not retired. -/
def State.liveWalkers (s : State) (die : Nat) : List Nat := ((List.range 32).map (32 * die + ·)).filter fun w => !s.isSet R.sloWstatRetired w

/-- Changes a walk. -/
def State.updWalk (s : State) (order : Nat) (f : Walk → Walk) : State :=
  s.putWalks (modFirst (fun w => w.order = order) f s.walks)

/-- The bursts a walk keeps outstanding on its walker: the sketches of its section's entry nodes, which it asks for together (DESIGN CHOICE,
log entry 76: the spec gives OUTSTANDING and not the times at which a walker issues its bursts). -/
def State.entryBursts (s : State) (w : Walk) : Nat :=
  Nat.min 2048 ((((s.shard? w.slot).bind fun x => (x.sections[w.sec]?).map fun y => y.entries.length).getD 0) * (s.shardBits w.slot / 256))

/-- WALK_START: the first walk that waits on a die goes to the lowest walker with room; with every walker of the die retired its search ends
with ST_NO_RESOURCE. -/
def State.walkStart (s : State) (die : Nat) : State :=
  match s.walks.find? fun w => w.sec = die && w.walker.isNone && !w.ended with
  | none => s
  | some w =>
    let need := ceilDiv w.beam 256
    if (s.liveWalkers die).isEmpty then s.failWork (w.client, w.req) stNoResource
    else match (s.liveWalkers die).find? fun n => decide (s.rd R.sloWstatSlotsBusy n + need ≤ 64) with
      | none => s
      | some n =>
        let count := ((s.shard? w.slot).bind fun x => (x.sections[die]?).map fun y => y.side.length).getD 0
        let s := if w.restarted then s.incSat R.sloWstatRestarts n 1 else s
        let first := s.entryBursts w
        let s := (s.inc R.sloWstatSlotsBusy n need).wr R.sloWstatOutstanding n (Nat.min 2048 (s.rd R.sloWstatOutstanding n + first))
        (s.updWalk w.order fun w =>
          { w with walker := some n, sideEnd := count, sideSeen := 0, startedAt := s.now, bursts := first, restarted := false }).start
          (w.client, w.req)

/-- WALK_START. -/
def execWalkStart (die : Nat) (s : State) : Out := .next (s.walkStart die)

/-! ## The sweep (R122) -/

/-- The best k records of a sweep for a walk: those below its SIDE_COUNT that take part, are alive and pass the filter. -/
def Section.sweep (y : Section) (p : Search) (e count : Nat) : List Cand :=
  let cs := ((y.side.take count).filter fun r => r.takesPart e && y.alive r.node e && passes p.params r.info).map fun r =>
    (⟨hamming p.sketch r.sketch, 0, r.node, true, r.info⟩ : Cand)
  (sortBy (fun (a b : Cand) => decide (a.dist < b.dist) || (a.dist = b.dist && decide (a.node < b.node))) cs).take (spK p.params)

/-- The pinned epoch of a slot in a search. -/
def Search.epoch (p : Search) (slot : Nat) : Nat := ((p.epochs.find? fun e => e.1 = slot).map (·.2)).getD 0

/-! ## The end of a walk -/

/-- A walk leaves its walker and is gone. -/
def State.dropWalk (s : State) (w : Walk) : State :=
  let s := s.freeWalker w
  s.putWalks (s.walks.filter fun x => x.order ≠ w.order)

/-- The place of a node in the delete log in device memory: linear probing, from a slot, to the node's entry or an empty one. -/
def State.logProbe (fuel : Nat) (s : State) (y : Section) (n i : Nat) : Nat :=
  match fuel with
  | 0 => i
  | f + 1 =>
    let v := s.dev (y.logBase + 8 * i) 8
    if bitsOf v 31 30 = 3 ∨ bitsOf v 29 0 = n then i else s.logProbe f y n ((i + 1) % 65536)

/-- Where the probing of a node begins (R116). -/
def logHash (n : Nat) : Nat := n * 0x9E3779B1 % 2 ^ 32 / 2 ^ 16

/-- The entries that probing for a node reads, in order. -/
def State.logPath (s : State) (y : Section) (n : Nat) : List Nat :=
  let i := logHash n
  (List.range ((s.logProbe 65536 y n i + 65536 - i) % 65536 + 1)).map fun j => y.logBase + 8 * ((i + j) % 65536)

/-- The device address of that place. -/
def State.logAddr (s : State) (y : Section) (n : Nat) : Nat := y.logBase + 8 * s.logProbe 65536 y n (logHash n)

/-- The alive and filter check of a candidate reads its metadata, its tombstone bit and, where that is set, the delete log up to its entry. -/
def State.checkReads (s : State) (x : Shard) (y : Section) (n : Nat) : WalkMem :=
  let m := (s.nodeMeta x y n).2.and (s.walkRead x.part (y.tombBase + n / 8) 1).2
  if sget false y.tomb n then (s.logPath y n).foldl (fun m a => m.and (s.walkRead x.part a 8).2) m else m

/-- The survivors of a walk's list, and what the check's reads met. -/
def State.survivors (s : State) (x : Shard) (y : Section) (sec : Nat) (p : Search) (e : Nat) (w : WalkRun) : List Cand × WalkMem :=
  w.cand.foldl (fun r c =>
    let m := r.2.and (s.checkReads x y c.2.1)
    let info := (s.nodeMeta x y c.2.1).1
    (if m.stop = 0 ∧ y.alive c.2.1 e ∧ passes p.params info then r.1 ++ [⟨c.1, sec, c.2.1, false, info⟩] else r.1, m)) ([], w.mem)

/-- A walk that met bad memory ends its query: a poisoned word with ST_POISON, an uncorrectable word resets the partition that owns the
index, a granule of another partition is a context fault (Tables SRCH-6, TNCY-6). -/
def State.badWalk (s : State) (w : Walk) (n : Nat) (m : WalkMem) : State :=
  let st := site (n / 32) (n / 4 % 8) 0 8 (n % 4)
  let k : ReqKey := (w.client, w.req)
  if m.stop = 1 then (s.raise 0x044 st (0x400 + n) 0 1 0).failWork k stPoison
  else if m.stop = 2 then (s.readCtl m.word (0x400 + n) []).1
  else (s.raise 0x002 st (0x400 + n) 0 1 0).failWork k stContextFault

/-- The channels that served a walk are in use, and their controllers count and correct what it read (R257, R266). -/
def State.usedBy (s : State) (m : WalkMem) (master : Nat) : State :=
  m.dirty.foldl (fun s w => (s.readCtl w master []).1) (s.updMem fun x => x.use s.now m.chans)

/-- The side list a walker streams for a walk is read; bad memory ends the walk. -/
def State.sweepRead (s : State) (n : Nat) (w : Walk) : State :=
  if !(s.walks.any fun x => x.order = w.order && x.req = w.req) then s
  else match (s.shard? w.slot).bind fun x => (x.sections[w.sec]?).map fun y => (x, y) with
    | none => s
    | some (x, y) =>
      let m := (s.walkRead x.part y.sideBase (w.sideEnd * sideBytes (s.shardBits w.slot))).2
      let s := s.usedBy m (0x400 + n)
      if m.stop = 0 then s else (s.dropWalk w).badWalk w n m

/-- SIDE_SWEEP_PASS: a walker streams its section's side list once and compares every record with the walks it holds. -/
def State.sweepPass (s : State) (n : Nat) : State :=
  let mine := s.walks.filter fun w => w.walker = some n && !w.ended
  let s := s.putWalks (s.walks.map fun w =>
      if w.walker = some n ∧ !w.ended then
        match s.search? (w.client, w.req), (s.shard? w.slot).bind fun x => x.sections[w.sec]? with
        | some p, some y => { w with sideSeen := w.sideEnd, side := (y.sweep p (p.epoch w.slot) w.sideEnd).map fun c => { c with sec := w.sec } }
        | _, _ => { w with sideSeen := w.sideEnd }
      else w)
  mine.foldl (fun s w => s.sweepRead n w) s

/-- SIDE_SWEEP_PASS. -/
def execSideSweepPass (walker : Nat) (s : State) : Out := .next (s.sweepPass walker)

/-- WALK_END: a walk whose sweep is complete has its candidates; its walker is charged and free. -/
def State.walkEnd (s : State) (order : Nat) : State :=
  match s.walks.find? fun w => w.order = order with
  | none => s
  | some w =>
    match w.walker with
    | none => s
    | some n =>
      let spent := s.charge w.client fun a => { a with walkerNs := a.walkerNs + (s.now - w.startedAt) }
      match s.search? (w.client, w.req), s.shard? w.slot with
      | some p, some x =>
        (match x.sections[w.sec]? with
         | none => spent.dropWalk w
         | some y =>
           if w.sideSeen < w.sideEnd then s
           else
             let run := s.runWalk x y p.sketch (s.shardBits w.slot) w.beam (spExpand p.params)
             let live := s.survivors x y w.sec p (p.epoch w.slot) run
             let s := (s.inc R.sloWstatWalks n 1).inc R.sloWexpCount n run.exps
             let s := s.charge w.client fun a => { a with walkerNs := a.walkerNs + (s.now - w.startedAt), lpddrRd := a.lpddrRd + live.2.bytes }
             let s := s.usedBy live.2 (0x400 + n)
             if live.2.stop ≠ 0 then (s.dropWalk w).badWalk w n live.2
             else (s.freeWalker w).updWalk order fun w =>
               { w with walker := none, ended := true, cand := live.1, expansions := run.exps })
      | _, _ => spent.dropWalk w

/-- WALK_END. -/
def execWalkEnd (walk : Nat) (s : State) : Out := .next (s.walkEnd walk)

/-! ## Shard results (R123 to R125) -/

/-- The walks of a request's shard. -/
def State.walksOf (s : State) (k : ReqKey) (slot : Nat) : List Walk := s.walks.filter fun w => (w.client, w.req) = k ∧ w.slot = slot

/-- The rank entry of a survivor: score S − d and handle. -/
def Cand.entry (c : Cand) (bits shard : Nat) : Entry := ⟨handleOf shard c.sec c.node c.info.gen, bits - c.dist, 0, c.side, true, 0⟩

/-- A shard result (R125): its header and exactly k entries. -/
def shardResult (shard epoch exps k : Nat) (retried : Bool) (es : List Entry) : List Byte :=
  let l := rankList 3 k es
  leBytes 2 shard ++ leBytes 2 (validOf l) ++ leBytes 4 epoch ++ leBytes 4 (exps % 2 ^ 32) ++ leBytes 4 (b2n retried) ++ List.replicate 16 0 ++
    l.flatMap Entry.bytes

/-- Valid entries of a shard result. -/
def resultValid (b : List Byte) : Nat := fieldLe b 2 2
/-- Expansions of a shard result. -/
def resultExps (b : List Byte) : Nat := fieldLe b 8 4
/-- A shard result as a rank list: its entries under the header of Table RANK-5. -/
def resultList (req : Nat) (b : List Byte) : List Byte :=
  let es := entriesOf (b.drop 32) ((b.length - 32) / 16)
  listBytes 3 1 0 0 0 req es

/-- What assembling a shard's result leads to: more walks to end, the status of a retry that may not start, a retry, or the result. -/
inductive Assembled where
  | wait
  | stopped (status : Nat)
  | retry (exps : Nat)
  | result (bytes : List Byte)
  deriving DecidableEq, Repr

/-- Combines the four walks of a shard once all have ended (R123, R124). -/
def State.assemble (s : State) (k : ReqKey) (p : Search) (slot : Nat) : Assembled :=
  let ws := s.walksOf k slot
  match p.attempts.find? fun a => a.1 = slot with
  | none => .wait
  | some a =>
    if ws.length ≠ 4 ∨ !(ws.all fun w => w.ended) then .wait
    else
      let surv := ws.flatMap fun w => w.cand ++ w.side
      let exps := a.2.2 + (ws.map (·.expansions)).foldl (· + ·) 0
      let res := Assembled.result (shardResult (s.rd R.sloShardShard slot) (p.epoch slot) exps (spK p.params) (decide (a.2.1 = 1))
        (surv.map fun c => c.entry (s.shardBits slot) (s.rd R.sloShardShard slot)))
      if spK p.params ≤ surv.length ∨ spWiden p.params = 1 ∨ a.2.1 = 1 then res
      else match (s.req? k).bind s.boundary with
        | some st => if (s.req? k).any fun r => r.opcode = 0x04 then .stopped st else res
        | none => .retry exps

/-- The walks of a shard have given their result and are gone. -/
def State.clearWalks (s : State) (k : ReqKey) (slot : Nat) : State :=
  s.putWalks (s.walks.filter fun w => !(decide ((w.client, w.req) = k) && w.slot = slot))

/-- OP_SEARCH ends with its one shard result, or the merge of two. -/
def State.searchOut (s : State) (k : ReqKey) (p : Search) : State :=
  let kk := spK p.params
  let exps := (p.results.map fun r => resultExps r.2).foldl (· + ·) 0
  let refs := p.results.map fun r => shardEntry (fieldLe r.2 0 2) (fieldLe r.2 4 4)
    (((s.shard? r.1).bind fun x => (x.digests.find? fun d => d.1 = fieldLe r.2 4 4).map (·.2)).getD [])
  let s := s.updReq k fun r => { r with shardRefs := refs }
  match p.results with
  | [r] =>
    let v := resultValid r.2
    (s.putOut k 0 r.2).endReq k (if v < kk then stFewResults else stOk) v exps
  | rs =>
    let m := mergedList 3 kk k.2 (rs.map fun r => (r.1, resultList k.2 r.2))
    let v := validOf (listEntries m)
    ((s.putOut k 0 m).updReq k fun r => { r with outMask := [(20, 4)] }).endReq k (if v < kk then stFewResults else stOk) v exps

/-! ## Changes of the index (R126, R127) -/

/-- The GEN of a node number at an epoch: its side record's, or its metadata's. -/
def State.genAt (s : State) (y : Section) (n e : Nat) : Nat :=
  match y.sideAt n e with
  | some r => r.info.gen
  | none => (metaOf (s.readDev (y.metaBase + 16 * n) 16).1).gen

/-- The last GEN given out with a node number; none where it was never given out. -/
def State.lastGen (s : State) (y : Section) (n : Nat) : Option Nat :=
  match sget 0 y.gens n with
  | 0 => if n < y.nodes then some (metaOf (s.readDev (y.metaBase + 16 * n) 16).1).gen else none
  | g + 1 => some g

/-- May a reclaimed number be given out: no query pinned before its reclaim remains (R127)? -/
def Shard.mayReuse (x : Shard) (y : Section) (n : Nat) : Bool :=
  match y.freeHist.find? fun f => f.1 = n && f.2.2.isNone with
  | none => true
  | some f => x.pins.all fun p => !later f.2.1 p.2

/-- The node number an insert takes, and whether it comes from the free list. -/
def Shard.nextNode (x : Shard) (sec : Nat) (y : Section) : Option (Nat × Bool) :=
  match (sortBy (fun a b => decide (a < b)) y.free).find? fun n => x.mayReuse y n with
  | some n => some (n, true)
  | none =>
    let held := (y.side.filter fun r => r.consumed.isNone).map (·.node) ++ (x.changes.filter fun c => !c.del && c.sec = sec).map (·.node)
    ((List.range (held.length + 1)).map (y.nodes + ·)).find? (fun n => n ∉ held) |>.bind fun n => if n < 0x3FFFFFFF then some (n, false) else none

/-- Inserts and deletes that wait in a section. -/
def Shard.waiting (x : Shard) (sec : Nat) (del : Bool) : Nat := (x.changes.filter fun c => c.sec = sec && c.del = del).length

/-- One passage of an insert joins the shard's changes, or the status that rejects the command. -/
def State.addInsert (s : State) (k : ReqKey) (x : Shard) (m : Meta) (sketch : List Byte) : Except Nat (Shard × Nat) :=
  let sec := x.seq % 4
  match x.sections[sec]? with
  | none => .error stState
  | some y =>
    if 16384 ≤ y.side.length + x.waiting sec false then .error stNoResource
    else match x.nextNode sec y with
      | none => .error stNoResource
      | some (n, fromFree) =>
        let gen := match s.lastGen y n with
          | some g => (g + 1) % 65536
          | none => 0
        let x := x.updSec sec fun y => { y with free := y.free.filter (· ≠ n), gens := sset 0 y.gens n (gen + 1) }
        .ok ({ x with seq := x.seq + 1, changes := x.changes ++ [⟨k.1, k.2, false, sec, n, gen, fromFree, { m with gen := gen }, sketch⟩] },
          sec * 2 ^ 32 + n)

/-- One passage of a delete: it joins the changes, or takes an insert that waits away with it, or the command is rejected. -/
def State.addDelete (s : State) (k : ReqKey) (slot : Nat) (x : Shard) (h : Nat) : Except Nat Shard :=
  let sec := hSec h
  let n := hNode h
  match x.sections[sec]? with
  | none => .error stState
  | some y =>
    if hShard h ≠ s.rd R.sloShardShard slot then .error stState
    else match x.changes.find? fun c => !c.del && c.sec = sec && c.node = n with
      | some c =>
        if c.gen ≠ hGen h then .error stState
        else
          let x := x.updSec sec fun y => { y with free := if c.returns y then y.free ++ [n] else y.free }
          .ok { x with changes := dropFirst (fun d => d = c) x.changes }
      | none =>
        let e := s.rd R.sloShardEpoch slot
        if y.names n e ∧ (y.sideAt n e).isNone ∧ (s.nodeMeta x y n).2.stop ≠ 0 then .error stPoison
        else if !y.names n e ∨ sget false y.tomb n ∨ s.genAt y n e ≠ hGen h ∨ (x.changes.any fun c => c.del && c.sec = sec && c.node = n) then
          .error stState
        else if 49152 < y.delLog.length + x.waiting sec true then .error stNoResource
        else .ok { x with changes := x.changes ++ [⟨k.1, k.2, true, sec, n, hGen h, false, ⟨0, 0, 0, 0, 0⟩, []⟩] }

/-- The passages of an insert command: metadata and sketch. -/
def insertRecords (bits : Nat) (p : List Byte) : List (Meta × List Byte) :=
  (chunks (16 + bits / 8) p).map fun b => (metaOf (b.take 16), b.drop 16)

/-- The handles of a delete command. -/
def deleteHandles (p : List Byte) : List Nat := (chunks 8 p).map leNat

/-- What an index command does to a shard, all of it or nothing (R127): the shard after and the handles of an insert. -/
def State.judgeIndex (s : State) (k : ReqKey) (r : Req) (slot : Nat) (x : Shard) : Except Nat (Shard × List Nat) :=
  if r.opcode = 0x18 then
    (insertRecords (s.shardBits slot) r.param).foldl (fun a m => match a with
      | .error st => .error st
      | .ok (x, hs) => match s.addInsert k x m.1 m.2 with
        | .error st => .error st
        | .ok (x, n) =>
          let gen := match x.changes.getLast? with
            | some c => c.gen
            | none => 0
          .ok (x, hs ++ [handleOf (s.rd R.sloShardShard slot) (n / 2 ^ 32) (n % 2 ^ 32) gen])) (.ok (x, []))
  else
    (deleteHandles r.param).foldl (fun a h => match a with
      | .error st => .error st
      | .ok (x, hs) => match s.addDelete k slot x h with
        | .error st => .error st
        | .ok x => .ok (x, hs)) (.ok (x, []))

/-- The status with which an index command is rejected, where it is. -/
def State.indexStatus (s : State) (r : Req) : Option Nat :=
  match s.shard? (r.inl 0 1) with
  | none => some stState
  | some x => match s.judgeIndex (r.client, r.id) r (r.inl 0 1) x with
    | .error st => some st
    | .ok _ => none

/-- Passages that an index command names. -/
def State.passages (s : State) (r : Req) : Nat :=
  if r.opcode = 0x18 then r.param.length / (16 + s.shardBits (r.inl 0 1) / 8) else r.param.length / 8

/-- Index commands of a slot all of whose passages are published or removed complete with the epoch in force. -/
def State.indexSettle (s : State) (slot : Nat) : State :=
  match s.shard? slot with
  | none => s
  | some x =>
    let done := s.host.reqs.filter fun r => !r.ended && r.ran && (r.opcode = 0x18 || r.opcode = 0x19) && r.inl 0 1 = slot &&
      !(x.changes.any fun c => c.client = r.client && c.req = r.id)
    done.foldl (fun s r => s.endReq (r.client, r.id) stOk (s.rd R.sloShardEpoch slot) (s.passages r)) s

/-- The metadata words that the hub reads for the handles of a delete. -/
def Shard.changeReads (x : Shard) (r : Req) : List (Nat × Nat) :=
  if r.opcode = 0x18 then []
  else (deleteHandles r.param).filterMap fun h => (x.sections[hSec h]?).bind fun y => if hNode h < y.nodes then some (y.metaBase + 16 * hNode h, 16) else none

/-- The metadata words that an insert reads for the last GEN of the numbers that it gives out again. -/
def Shard.gensRead (x : Shard) (k : ReqKey) : List (Nat × Nat) :=
  (x.changes.filter fun c => (c.client, c.req) = k && !c.del && c.fromFree).filterMap fun c => (x.sections[c.sec]?).bind fun y =>
    if sget 0 y.gens c.node ≤ 1 then some (y.metaBase + 16 * c.node, 16) else none

/-- The hub reads them. -/
def State.readGens (s : State) (k : ReqKey) (x : Shard) : State := (s.readUnits hubMaster (x.gensRead k)).1

/-- An insert or delete command takes its place in the shard's order of changes. A delete whose node's metadata is poisoned ends with ST_POISON (R263). -/
def State.indexChange (s : State) (k : ReqKey) (op : Nat) : State := s.onReq k op fun r =>
  let slot := r.inl 0 1
  if r.ran then s
  else match s.shard? slot with
    | none => s.endReq k stState 0 0
    | some x =>
      let v := s.judgeIndex k r slot x
      let s := (s.readUnits hubMaster (x.changeReads r)).1
      match v with
      | .error st => if st = stPoison then s.endPoison k (hubSite 5 14) hubMaster 0 0 else s.endReq k st 0 0
      | .ok (x, hs) =>
        let s := s.readGens k x
        let s := ((s.putShards (aput s.shards slot x))).updReq k fun r => { r with ran := true }
        let s := if hs.isEmpty then s else s.putOut k 0 (hs.flatMap (leBytes 8))
        s.indexSettle slot

/-- OP_INDEX_INSERT. -/
def execOpIndexInsert (client req : Nat) (s : State) : Out := .next (s.indexChange (client, req) 0x18)

/-- OP_INDEX_DELETE. -/
def execOpIndexDelete (client req : Nat) (s : State) : Out := .next (s.indexChange (client, req) 0x19)

/-! ## Publishing (R116, R126, R129) -/

/-- The entries of a probe chain of the delete log, from a slot to the next empty one. -/
def State.logChain (fuel : Nat) (s : State) (y : Section) (i : Nat) : List Nat :=
  match fuel with
  | 0 => []
  | f + 1 =>
    let v := s.dev (y.logBase + 8 * i) 8
    if bitsOf v 31 30 = 3 then [] else v :: s.logChain f y ((i + 1) % 65536)

/-- Removes a node's entry from the delete log in device memory: the entries after it in its chain are taken out and put back by their own probing, so that
each is still found (DESIGN CHOICE, log entry 72: R116 does not say how an entry is removed). -/
def State.logRemove (s : State) (y : Section) (n : Nat) : State :=
  let i := s.logProbe 65536 y n (logHash n)
  let chain := s.logChain 65536 y i
  if chain.head?.map (fun v => bitsOf v 29 0) ≠ some n then s
  else
    let s := (List.range chain.length).foldl (fun s j => s.writeDev (y.logBase + 8 * ((i + j) % 65536)) (List.replicate 8 0xFF)) s
    chain.tail.foldl (fun s v => s.writeDev (s.logAddr y (bitsOf v 29 0)) (leBytes 8 v)) s

/-- Mirrors the tombstone byte of a node. -/
def State.mirrorTomb (s : State) (y : Section) (n : Nat) : State :=
  s.writeDev (y.tombBase + n / 8) [BitVec.ofNat 8 (((List.range 8).map fun i => b2n (sget false y.tomb (8 * (n / 8) + i)) * 2 ^ i).foldl (· + ·) 0)]

/-- Mirrors the side records of a section from index `i`. -/
def State.mirrorSide (s : State) (slot : Nat) (y : Section) (i : Nat) : State :=
  s.writeDev (y.sideBase + i * sideBytes (s.shardBits slot)) ((y.side.drop i).flatMap SideRec.bytes)

/-- One change takes effect at epoch `e`. -/
def State.publishOne (s : State) (slot e : Nat) (c : IndexChange) : State :=
  let s := s.updShard slot fun x => x.updSec c.sec fun y =>
    if c.del then { y with tomb := sset false y.tomb c.node true, delLog := aput y.delLog c.node e }
    else { y with
      side := y.side ++ [⟨c.node, e, true, none, c.info, c.sketch⟩]
      fresh := sset false y.fresh c.node true
      tomb := if c.returns y then sset false y.tomb c.node false else y.tomb
      delLog := if c.returns y then adel y.delLog c.node else y.delLog
      freeHist := if c.returns y then modFirst (fun f => f.1 = c.node && f.2.2.isNone) (fun f => (f.1, f.2.1, some e)) y.freeHist else y.freeHist }
  match (s.shard? slot).bind fun x => x.sections[c.sec]? with
  | none => s
  | some y =>
    if c.del then (s.mirrorTomb y c.node).writeDev (s.logAddr y c.node) (leBytes 4 c.node ++ leBytes 4 e)
    else
      let s := s.mirrorSide slot y (y.side.length - 1)
      if c.returns y then (s.logRemove y c.node).mirrorTomb y c.node else s

/-- The change record of a publish (R129): inserted handles, each with sketch and metadata, then deleted handles. -/
def changeRecord (shard : Nat) (cs : List IndexChange) : List Byte :=
  let h (c : IndexChange) : Nat := handleOf shard c.sec c.node c.gen
  let ord (l : List IndexChange) : List IndexChange := sortBy (fun a b => decide (h a < h b)) l
  ((ord (cs.filter fun c => !c.del)).flatMap fun c => leBytes 8 (h c) ++ c.sketch ++ c.info.bytes) ++
    (ord (cs.filter fun c => c.del)).flatMap fun c => leBytes 8 (h c)

/-- A shard's epoch advances and its digest is extended by a record. -/
def State.advanceShard (s : State) (slot e : Nat) (record : List Byte) : State :=
  let s := s.updShard slot fun x =>
    let d := digest256 (x.digest ++ record)
    { x with digest := d, digests := x.digests ++ [(e, d)] }
  (s.wr R.sloShardEpoch slot e).mirrorShard slot

/-- INDEX_PUBLISH: the changes that wait take effect in one step, at most once every PUBLISH_MS; those of every command admitted are among
them. -/
def State.publish (s : State) (slot : Nat) : State :=
  match s.shard? slot with
  | none => s
  | some x =>
    let comes := s.host.reqs.any fun r => !r.ended && !r.ran && (r.opcode = 0x18 || r.opcode = 0x19) && r.inl 0 1 = slot
    if x.changes.isEmpty ∨ comes ∨ s.rd R.sloShardState slot ≠ 2 ∨ (x.lastPublish ≠ 0 ∧ s.now < x.lastPublish + 1000000 * s.rd R.sloCtlPublishMs 0) then s
    else
      let e := (s.rd R.sloShardEpoch slot + 1) % 2 ^ 32
      let s := x.changes.foldl (fun s c => s.publishOne slot e c) s
      let s := s.updShard slot fun x => { x with changes := [], lastPublish := s.now }
      (s.advanceShard slot e (changeRecord (s.rd R.sloShardShard slot) x.changes)).indexSettle slot

/-- INDEX_PUBLISH. -/
def execIndexPublish (slot : Nat) (s : State) : Out := .next (s.publish slot)

/-! ## Merging (R128) -/

/-- Side records of a section that a merge at e0 absorbs. -/
def Section.absorbed (y : Section) (e0 : Nat) : List SideRec := y.side.filter fun r => r.consumed.isNone && r.takesPart e0

/-- NODES after a merge. -/
def Section.nodesAfter (y : Section) (e0 : Nat) : Nat := ((y.absorbed e0).map fun r => r.node + 1).foldl Nat.max y.nodes

/-- Do the arrays of a section have room for more nodes: none runs into another array or past its part? -/
def State.sectionRoom (s : State) (x : Shard) (bits : Nat) (y : Section) (nodes : Nat) : Bool :=
  let arrays := [(y.sketchBase, nodes * bits / 8), (y.adjBase, nodes * 4 * x.degree), (y.metaBase, 16 * nodes), (y.tombBase, ceilDiv nodes 8)]
  let bases := [y.sketchBase, y.adjBase, y.metaBase, y.tombBase, y.sideBase, y.logBase]
  let ps := ((s.obj? x.object).map fun o => o.places).getD []
  arrays.all fun a => (bases.all fun b => decide (b ≤ a.1) || decide (a.1 + a.2 ≤ b)) &&
    ps.any fun e => e.tier = 0 && decide (e.base ≤ a.1) && decide (a.1 + a.2 ≤ e.base + 4096 * e.units)

/-- Nodes of a section that a merge with RECLAIM removes: deleted at e0 and in the graph, or absorbed, after it. -/
def Section.reclaimed (y : Section) (e0 : Nat) : List Nat :=
  let gone (n : Nat) : Bool := sget false y.tomb n && (match aget y.delLog n with
    | some d => !later d e0
    | none => true)
  ((y.tomb.map fun (e : Nat × Bool) => e.1).filter fun n => gone n && ((decide (n < y.nodes) && !y.freeAt n e0) || (y.absorbed e0).any fun r => r.node = n))

/-- The neighbours the merge gives a node, without those it removes, padded to the degree. -/
def mergeAdjacency (digest : List Byte) (reclaim : Bool) (sec nodes degree : Nat) (free : List Nat) (n : Nat) : List Byte :=
  let l := ((List.range degree).map fun i => Config.mergeNeighbour digest reclaim sec n i % (nodes + 1)).filter fun v => decide (v < nodes) && v ∉ free
  ((l.map (leBytes 4)) ++ List.replicate (degree - l.length) (leBytes 4 0xFFFFFFFF)).flatten

/-- The content a merge builds for a section from the snapshot at the current epoch e0 (R128): numbers that hold no passage then, removed ones among them,
get no neighbours and are nobody's neighbour. -/
def Shard.stage (x : Shard) (e0 : Nat) (reclaim : Bool) (sec : Nat) (y : Section) : Staged :=
  let absorbed := y.absorbed e0
  let nodes := y.nodesAfter e0
  let out := if reclaim then y.reclaimed e0 else []
  let gaps := ((List.range (nodes - y.nodes)).map (y.nodes + ·)).filter fun n => !(absorbed.any fun r => r.node = n)
  let dead := out ++ gaps ++ (List.range nodes).filter fun n => y.freeAt n e0 && !(absorbed.any fun r => r.node = n)
  let l := (((Config.mergeEntries x.digest reclaim sec).map (· % (nodes + 1)) ++ y.entries).filter fun n => decide (n < nodes) && n ∉ dead).eraseDups.take
    y.entries.length
  { nodes := nodes
    entries := if l.isEmpty then y.entries else l ++ List.replicate (y.entries.length - l.length) (l.headD 0)
    out := out
    gaps := gaps
    absorbed := absorbed
    lists := ((List.range nodes).filter fun n => n ∉ dead).map fun n => (n, mergeAdjacency x.digest reclaim sec nodes x.degree dead n) }

/-- OP_INDEX_MERGE: the build begins from a snapshot at the current epoch. -/
def State.indexMerge (s : State) (k : ReqKey) : State := s.onReq k 0x1A fun r =>
  let slot := r.inl 0 1
  if r.ran then s
  else match s.shard? slot with
    | none => s.endReq k stState 0 0
    | some x =>
      let e0 := s.rd R.sloShardEpoch slot
      if x.merge.isSome ∨ s.rd R.sloShardState slot ≠ 2 then s.endReq k stState 0 0
      else if !(x.sections.all fun y => s.sectionRoom x (s.shardBits slot) y (y.nodesAfter e0)) then s.endReq k stNoResource 0 0
      else (s.updShard slot fun x => { x with merge := some ⟨k.1, k.2, e0, bitOf (r.inl 1 1) 0, false,
        (List.range x.sections.length).filterMap fun i => (x.sections[i]?).map (x.stage e0 (bitOf (r.inl 1 1) 0) i)⟩ }).updReq k fun r => { r with ran := true }

/-- OP_INDEX_MERGE. -/
def execOpIndexMerge (client req : Nat) (s : State) : Out := .next (s.indexMerge (client, req))

/-- MERGE_BUILD_DONE: the staged content is complete. -/
def State.buildDone (s : State) (slot : Nat) : State := s.updShard slot fun x => { x with merge := x.merge.map fun m => { m with built := true } }

/-- MERGE_BUILD_DONE. -/
def execMergeBuildDone (slot : Nat) (s : State) : Out := .next (s.buildDone slot)

/-- The entry list of a section header. -/
def entryList (entries : List Nat) : List Byte := ((entries.map (leBytes 4)) ++ List.replicate (64 - entries.length) (leBytes 4 0xFFFFFFFF)).flatten

/-- The bytes of staged content that its digest covers, in the order of the section's arrays (DESIGN CHOICE, log entry 73: R129 gives no order). -/
def Staged.bytes (g : Staged) : List Byte :=
  leBytes 4 g.nodes ++ entryList g.entries ++ (g.absorbed.flatMap fun r => leBytes 4 r.node ++ r.sketch) ++ (g.lists.flatMap fun l => leBytes 4 l.1 ++ l.2) ++
    (g.absorbed.flatMap fun r => leBytes 4 r.node ++ r.info.bytes) ++ g.out.flatMap (leBytes 4)

/-- The free list of a section after a merge: numbers given out since the snapshot stay out of it. -/
def Shard.freeAfter (x : Shard) (sec : Nat) (y : Section) (g : Staged) : List Nat :=
  let held := (y.side.filter fun r => r.consumed.isNone).map (·.node) ++ (x.changes.filter fun c => !c.del && c.sec = sec).map (·.node)
  ((y.free.filter fun n => !(g.absorbed.any fun r => r.node = n)) ++ g.out ++ g.gaps.filter fun n => n ∉ held).eraseDups

/-- Copies the staged content of a section into the live arrays and its records at commit epoch `e`. -/
def State.commitSection (s : State) (slot sec e : Nat) (x : Shard) (y : Section) (g : Staged) : State :=
  let bits := s.shardBits slot
  let s := g.absorbed.foldl (fun s r => (s.writeDev (y.sketchBase + r.node * bits / 8) r.sketch).writeDev (y.metaBase + 16 * r.node) r.info.bytes) s
  let s := g.lists.foldl (fun s l => s.writeDev (y.adjBase + l.1 * 4 * x.degree) l.2) s
  let y := { y with
    nodes := g.nodes
    entries := g.entries
    free := x.freeAfter sec y g
    freeHist := (y.freeHist.map fun f => if f.2.2.isNone ∧ g.absorbed.any (fun r => r.node = f.1) then (f.1, f.2.1, some e) else f) ++
      ((g.out ++ g.gaps).filter fun n => !(y.freeHist.any fun f => f.1 = n && f.2.2.isNone) || n ∈ g.out).map fun n => (n, e, none)
    side := y.side.map fun r => if r ∈ g.absorbed then { r with consumed := some e } else r }
  let s := s.updShard slot fun x => x.updSec sec fun _ => y
  let s := s.mirrorSide slot y 0
  match (s.obj? x.object).map fun o => objAt o.places (secOff o.places sec) with
  | none => s
  | some h => s.writeDev (h + 256) (entryList g.entries)

/-- The commit of a merge: content, epoch, digest and completion. -/
def State.commitMerge (s : State) (slot : Nat) (x : Shard) (m : Merge) : State :=
  let e := (s.rd R.sloShardEpoch slot + 1) % 2 ^ 32
  let gs := (List.range x.sections.length).filterMap fun i => (x.sections[i]?).bind fun y => (m.staged[i]?).map fun g => (i, y, g)
  let n := (gs.map fun g => g.2.2.absorbed.length).foldl (· + ·) 0
  let s := gs.foldl (fun s g => s.commitSection slot g.1 e x g.2.1 g.2.2) s
  let s := (s.updShard slot fun x => { x with merge := none }).wr R.sloShardState slot 2
  (s.advanceShard slot e (leBytes 1 (b2n m.reclaim) ++ digest256 (gs.flatMap fun g => g.2.2.bytes))).endReq (m.client, m.req) stOk e n

/-- MERGE_COMMIT: walks of the shard are no longer admitted, for no further query pins it; once the queries pinned to it have drained the
staged content takes the place of the live content at the next epoch. A merge whose request has ended is dropped. -/
def State.mergeCommit (s : State) (slot : Nat) : State :=
  match s.shard? slot with
  | none => s
  | some x => match x.merge with
    | none => s
    | some m =>
      if !m.built then s
      else if !s.live (m.client, m.req) then (s.updShard slot fun x => { x with merge := none }).wr R.sloShardState slot 2
      else if !x.pins.isEmpty then s.wr R.sloShardState slot 3
      else s.commitMerge slot x m

/-- MERGE_COMMIT. -/
def execMergeCommit (slot : Nat) (s : State) : Out := .next (s.mergeCommit slot)

/-- INDEX_PIN_DRAIN: what only queries pinned earlier could need goes: delete-log entries, consumed side records (the records after them
move to the front), digests and reuse marks of past epochs (R116, R127, R128). -/
def State.pinDrain (s : State) (slot : Nat) : State :=
  match s.shard? slot with
  | none => s
  | some x =>
    let before (e : Nat) : Bool := x.pins.any fun p => later e p.2
    let now := s.rd R.sloShardEpoch slot
    let sec (y : Section) : Section := { y with
      delLog := y.delLog.filter fun (e : Nat × Nat) => before e.2
      side := y.side.filter fun r => match r.consumed with
        | some c => before c
        | none => true
      freeHist := y.freeHist.filter fun f => match f.2.2 with
        | some g => before g
        | none => true }
    let s := s.updShard slot fun x => { x with
      sections := x.sections.map sec
      digests := x.digests.filter fun d => d.1 = now || x.pins.any fun p => p.2 = d.1 }
    let gone := x.sections.map fun y => y.delLog.filter fun (e : Nat × Nat) => !before e.2
    let s := (List.range x.sections.length).foldl (fun s i =>
      match x.sections[i]?, gone[i]?, (s.shard? slot).bind fun z => z.sections[i]? with
      | some y, some g, some z =>
        let s := g.foldl (fun s e => s.logRemove y e.1) s
        if z.side.length = y.side.length then s else s.mirrorSide slot z 0
      | _, _, _ => s) s
    s.mirrorShard slot

/-- INDEX_PIN_DRAIN. -/
def execIndexPinDrain (slot : Nat) (s : State) : Out := .next (s.pinDrain slot)

end Sys2Proof.Machine
end

