-- ==== Sys2Proof/Machine/Fabric.lean ====
section
/-! DEFINITION. The commands of the Willith fabric and device time (13_optical_fabric.md): frames and replay, transit, training,
hand-overs and tracking, remote reads and writes, the census, frequency agreement and time exchange. -/

namespace Sys2Proof.Machine

/-! ## Messages that reach this module (R274, R275) -/

/-- The stream of a message at its destination. -/
def streamKey (m : FabMsg) : Nat := 2 ^ 24 * m.src + 2 ^ 12 * m.master + m.stream

/-- A message leaves the receive buffer of port `input − 1`: its words are owed to the peer as credits (R273). -/
def State.freed (s : State) (input : Nat) (m : FabMsg) : State :=
  match input with
  | 0 => s
  | p + 1 =>
    let x := s.port p
    s.setPort p { x with owed := x.owed.set m.vc (x.owed.getD m.vc 0 + msgWords m) }

/-- A command that acts on a message takes it out of the inbox, where it is there; the words it frees go back as credits (R273). -/
def State.takeIf (s : State) (f : FabMsg → Bool) : State :=
  match s.fab.inbox.find? fun e => f e.2 with
  | none => s
  | some e =>
    let s := (s.updFab fun x => { x with inbox := dropFirst (fun y => y = e) x.inbox }).freed e.1 e.2
    if e.1 = 0 then s else s.pumpPort (e.1 - 1)

/-- Takes one message. -/
def State.takeFab (s : State) (m : FabMsg) : State := s.takeIf fun y => y = m

/-- Words of a TIME answer: t2 in [63:0] and t3 in [127:64] of payload word 1 (DESIGN CHOICE, log entry 21). -/
def timeAnswer (t2 t3 : Nat) : List (BitVec 128) := [BitVec.ofNat 128 (t2 % 2 ^ 64 + 2 ^ 64 * (t3 % 2 ^ 64))]

/-- A message of this module for the other end of a port. -/
def State.sendOn (s : State) (p dst kind : Nat) (payload : List (BitVec 128)) : State :=
  let m := s.hubMsg dst kind 0 payload
  let k := 4096 * hubMaster + dst
  let s := s.updFab fun f => { f with seqOut := sset 0 f.seqOut k ((sget 0 f.seqOut k + 1) % 2 ^ 16) }
  let x := s.port p
  (s.setPort p { x with queue := x.queue ++ [(0, m)] }).pumpPort p

/-- A message is due in its stream. A TIME request is answered on the port it came by, with its arrival as t2; t3 is set as the answer goes out. A TIME
answer is kept with its arrival as t4 for the TIME command (R289). Any other message waits for its command. -/
def State.due (s : State) (input : Nat) (m : FabMsg) : State :=
  if m.kind = 10 then
    let s := s.freed input m
    if m.payload.isEmpty then s.sendOn (input - 1) m.src 10 (timeAnswer s.now 0)
    else s.updFab fun f => { f with answered := some (input - 1, s.now, m.payload.getD 0 0) }
  else s.updFab fun f => { f with inbox := f.inbox ++ [(input, m)] }

/-- Delivers the held messages of a stream that have become due; `fuel` bounds them. -/
def State.drain (s : State) (fuel key : Nat) : State :=
  match fuel with
  | 0 => s
  | n + 1 =>
    match s.fab.early.find? fun e => streamKey e.2 = key && e.2.seq = sget 0 s.fab.expect key with
    | none => s
    | some e =>
      ((s.updFab fun f => { f with
        early := dropFirst (fun y => y = e) f.early
        expect := sset 0 f.expect key ((e.2.seq + 1) % 2 ^ 16) }).due e.1 e.2).drain n key

/-- Closes the gap of a stream of which nothing is held any more. -/
def State.closeGap (s : State) (key : Nat) : State :=
  if s.fab.early.any fun e => streamKey e.2 = key then s
  else s.updFab fun f => { f with gaps := f.gaps.filter fun g => 2 ^ 24 * g.src + 2 ^ 12 * g.master + g.stream ≠ key }

/-- A message for this module: in stream order, held while early, dropped when it repeats one already delivered (R275). -/
def State.arrive (s : State) (input : Nat) (m : FabMsg) : State :=
  let key := streamKey m
  let ahead := (m.seq + 2 ^ 16 - sget 0 s.fab.expect key) % 2 ^ 16
  if ahead = 0 then
    let s := (s.updFab fun f => { f with expect := sset 0 f.expect key ((m.seq + 1) % 2 ^ 16) }).due input m
    (s.drain s.fab.early.length key).closeGap key
  else if 2 ^ 15 ≤ ahead then s.freed input m
  else
    let held : Bool := s.fab.gaps.any fun g => g.src = m.src && g.master = m.master && g.stream = m.stream
    s.updFab fun f => { f with
      early := f.early ++ [(input, m)]
      gaps := if held then f.gaps else f.gaps ++ [⟨m.src, m.master, m.stream, s.now⟩] }

/-- One message of an accepted frame of port `p` (R274, Table FABR-5). -/
def State.accept (s : State) (p : Nat) (m : FabMsg) : State :=
  if m.kind = 0 then s.freed (p + 1) m
  else if 10 < m.kind then (s.raise 0x087 (portSite p) (portMaster p) 0 4 0).freed (p + 1) m
  else if m.dst ≠ s.rd R.optCfgModuleId 0 then s.updFab fun f => { f with inbox := f.inbox ++ [(p + 1, m)] }
  else s.arrive (p + 1) m

/-! ## Replay (R279, R280) -/

/-- Unacknowledged frames cut anew for a width that holds `room` message words, where one of them is wider: a replay during a hand-over is sent as narrow
frames (R291), whose numbers go on from the first (DESIGN CHOICE, log entry 80). -/
def Port.recut (x : Port) (room : Nat) : Port :=
  if x.replay.all fun f => f.words.length ≤ room then x
  else
    let cs := chunks room (x.replay.flatMap (·.words))
    let n := (x.replay.head?.map (·.number)).getD 0
    let ms := (x.replay.flatMap (·.msgs)).eraseDups
    { x with replay := (List.range cs.length).map fun i => ⟨(n + i) % 2 ^ 16, cs.getD i [], ms⟩
             txNext := (n + cs.length) % 2 ^ 16 }

/-- Every frame from ACK + 1 is sent again; at most one FRAME_REPLAY per millisecond. -/
def State.replayFrames (s : State) (p : Nat) : State :=
  let x := s.port p
  if x.replay.isEmpty then s
  else
    let ms := s.now / 10 ^ 6
    let lanes := s.txLanes p
    let x := x.recut (frameWords (decide (lanes.length < 8)) - 1)
    let y := x.replay.foldl (fun (y : Port) f => y.emit lanes (s.laneErrs p) false f.number f.words) x
    let s := (s.incSat R.optPcntReplays p x.replay.length).setPort p { y with ackAt := s.now, replayMs := some ms }
    if x.replayMs = some ms then s else s.raise 0x080 (portSite p) (portMaster p) 0 5 0

/-- REPLAY_TIMEOUT: ACK has not advanced for 20 µs while frames are outstanding. -/
def State.replayLate (s : State) (p : Nat) : State :=
  if s.portCarries p ∧ !(s.port p).replay.isEmpty ∧ 20000 ≤ s.now - (s.port p).ackAt then s.replayFrames p else s

/-- REPLAY_TIMEOUT. -/
def execReplayTimeout (port : Nat) (s : State) : Out := .next (s.replayLate port)

/-- NAK is set in the link control words from now on. -/
def State.setNak (s : State) (p : Nat) : State :=
  let x := s.port p
  if x.nak then s else (s.incSat R.optPcntNaks p 1).setPort p { x with nak := true }

/-- A frame fails to decode; `number` is its number modulo 32, where a marker gives it. Failures of the expected frame are counted: its first and three
consecutive replays make a permanent fault, of the lane on which every failing codeword of the replays lay, or of the port (R280). -/
def State.badFrame (s : State) (p : Nat) (lane number : Option Nat) : State :=
  let x := s.port p
  if x.nak ∧ number.any (fun n => decide (n ≠ x.rxNext % 2 ^ 5)) then s
  else
    let x := { x with
      nak := true
      failures := x.failures + 1
      failLane := if x.failures = 0 then none else if x.failures = 1 then lane else x.failLane
      mixed := if x.failures = 0 then false else x.mixed || lane.isNone || (decide (2 ≤ x.failures) && decide (x.failLane ≠ lane)) }
    let s := (s.incSat R.optPcntNaks p 1).setPort p x
    if x.failures < 4 then s.pumpPort p
    else
      let s := s.setPort p { x with failures := 0, failLane := none, mixed := false }
      match x.failLane with
      | some l => if x.mixed then s.retirePort p else (s.retireLane p l).pumpPort p
      | none => s.retirePort p

/-! ## Hand-over at the sender (R283, R284) -/

/-- HO_LOCK reaches the sender of a lane: full frames resume 8 frames later. -/
def State.hoLocked (s : State) (p l : Nat) : State :=
  let x := s.port p
  if s.portState p ≠ opHandover ∨ !(x.handover.any fun e => e.1 = l) then s
  else
    let s := s.setPort p { x with handover := none, hoBack := some (l, s.now), hoFails := sset 0 x.hoFails l 0 }
    let s := ((s.setPortState p (if s.badLanes p = 0 then opUp else opNarrow)).incSat R.optPstatHandovers p 1).mirrorLanes p
    let k := laneKey p l
    let s := (((s.wr R.optLstatState k 2).wr R.optLstatBias k 0).wr R.optLstatRingTx k 0)
    s.raise 0x081 (portSite p) (portMaster p) l 5 1

/-- HO_LOCK. -/
def execHoLock (port lane : Nat) (s : State) : Out := .next (s.hoLocked port lane)

/-- Does a lane need its sender's hand-over: its tracking has run out of range, or the peer asked (R282, R283)? -/
def State.needsHandover (s : State) (p l : Nat) : Bool :=
  let far (f : Fld) : Bool := decide (32 ≤ (signedOf 8 (s.rd f (laneKey p l))).natAbs)
  far R.optLstatBias || far R.optLstatRingTx || decide (l ∈ (s.port p).hoAsk)

/-- HANDOVER_START: the sender names the lane in HO_LANE and sends narrow frames without it from 8 frames later; on a port that is NARROW already the whole
port retrains. -/
def State.handoverStart (s : State) (p l : Nat) : State :=
  let x := s.port p
  if 8 ≤ l ∨ bitOf (s.badLanes p) l ∨ !s.needsHandover p l then s
  else if s.portState p = opNarrow then
    ((((s.setPortState p opRetrain).setPort p { x with lockFails := [], hoAsk := [] }).mirrorLanes p).wr R.optPstatLanesRx p 0).lanesState p 1
      |>.raise 0x083 (portSite p) (portMaster p) l 5 0
  else if s.portState p = opUp then
    let s := (s.setPort p { x with handover := some (l, s.now), hoBack := none, hoAsk := x.hoAsk.filter fun y => y ≠ l }).setPortState p opHandover
    (s.wr R.optLstatState (laneKey p l) 3).pumpPort p
  else s

/-- HANDOVER_START. -/
def execHandoverStart (port lane : Nat) (s : State) : Out := .next (s.handoverStart port lane)

/-- HANDOVER_TIMEOUT: 20 ms have passed without lock. The first failure starts the lane's second attempt; the second in a row retires
it (R283, R284). -/
def State.handoverLate (s : State) (p l : Nat) : State :=
  let x := s.port p
  if s.portState p ≠ opHandover ∨ !(x.handover.any fun e => e.1 = l && decide (2 * 10 ^ 7 ≤ s.now - e.2)) then s
  else
    let n := sget 0 x.hoFails l + 1
    if n < 2 then
      (s.setPort p { x with handover := some (l, s.now), hoFails := sset 0 x.hoFails l n }).raise 0x081 (portSite p) (portMaster p) l 5 0
    else
      ((s.setPort p { x with hoFails := sset 0 x.hoFails l 0 }).raise 0x081 (portSite p) (portMaster p) l 5 2).retireLane p l

/-- HANDOVER_TIMEOUT. -/
def execHandoverTimeout (port lane : Nat) (s : State) : Out := .next (s.handoverLate port lane)

/-- LANE_LOCK_HELD: the receiver has held lock on the lane that the peer hands over for 100 µs and sets HO_LOCK. -/
def State.lockHeld (s : State) (p l : Nat) : State :=
  let x := s.port p
  if s.portCarries p ∧ x.peerLane = some l then
    ((s.setPort p { x with hoLockSet := some l, hoReqSet := x.hoReqSet.filter fun y => y ≠ l }).wr R.optLstatRingRx (laneKey p l) 0).pumpPort p
  else s

/-- LANE_LOCK_HELD. -/
def execLaneLockHeld (port lane : Nat) (s : State) : Out := .next (s.lockHeld port lane)

/-- A tracking move: at most one step, within ±32 of the trained point; and did it ask for more? -/
def trackMove (old move : Int) : Int × Bool :=
  let want := old + max (-1) (min 1 move)
  (max (-32) (min 32 want), decide (32 < want.natAbs))

/-- LANE_TRACKING_STEP: every 1 ms the laser bias and the transmit ring of a live lane move by at most one step each while its peer reports errors in
FB_ERR, and the receive ring while the lane's own counts show some; which way lowers them the engine finds (R282; DESIGN CHOICE, log entry 80). A receive
ring that would leave its range makes the receiver ask the peer for a hand-over. -/
def State.trackOptic (s : State) (p l : Nat) (bias tx rx : Int) (err : Nat) : State :=
  let k := laneKey p l
  if 8 ≤ l ∨ !s.portCarries p ∨ s.rd R.optLstatState k ≠ 2 then s
  else
    let far := sget 0 (s.port p).fbErr l
    let mv (f : Fld) (m : Int) : Int × Bool := trackMove (signedOf 8 (s.rd f k)) m
    let b := mv R.optLstatBias (if far = 0 then 0 else bias)
    let t := mv R.optLstatRingTx (if far = 0 then 0 else tx)
    let r := mv R.optLstatRingRx (if err = 0 then 0 else rx)
    let s := (((s.wr R.optLstatBias k (codeOfInt 8 b.1)).wr R.optLstatRingTx k (codeOfInt 8 t.1)).wr R.optLstatRingRx k
      (codeOfInt 8 r.1)).wr R.optLstatSymErr k (Nat.min err (2 ^ 24 - 1))
    let x := s.port p
    if r.2 ∧ l ∉ x.hoReqSet then (s.setPort p { x with hoReqSet := x.hoReqSet ++ [l] }).pumpPort p else s

/-- LANE_TRACKING_STEP. -/
def execLaneTrackingStep (port lane : Nat) (bias ringTx ringRx : Int) (symErr : Nat) (s : State) : Out :=
  .next (s.trackOptic port lane bias ringTx ringRx symErr)

/-! ## Frames (R269 to R273, R279, R285) -/

/-- DARK: the port goes DOWN with no fault, keeping its unacknowledged frames; its queue moves to the next route (R285). -/
def State.goDark (s : State) (p : Nat) : State :=
  let x := s.port p
  let s := ((s.setPort p { x with dark := true, queue := [], handover := none, hoBack := none }).setPortState p opDown).mirrorLanes p
  ((s.wr R.optPstatLanesRx p 0).lanesState p 0).moveQueue p x.queue

/-- The link control word of a good frame (Table FABR-3). -/
def State.linkControl (s : State) (p : Nat) (f : LinkWord) : State :=
  let x := s.port p
  let used := 255 - s.badLanes p
  let away := if f.lanesTx < used then lanesIn (used - f.lanesTx) else []
  let acked : Bool := x.replay.any fun e => e.number = f.ack
  let x := { x with
    credits := (List.range 4).map fun v => x.credits.getD v 0 + f.credit.getD v 0
    replay := if acked then (x.replay.dropWhile fun e => e.number ≠ f.ack).drop 1 else x.replay
    ackAt := if acked then s.now else x.ackAt
    peerLane := away.head?
    hoLockSet := if away.isEmpty then none else x.hoLockSet
    fbErr := sset 0 x.fbErr f.fbLane f.fbErr
    hoAsk := if f.hoReq ∧ f.hoLane ∉ x.hoAsk then x.hoAsk ++ [f.hoLane] else x.hoAsk }
  let s := (s.setPort p x).wr R.optPstatLanesRx p f.lanesTx
  let s := if f.hoLock then s.hoLocked p f.hoLane else s
  let s := if f.nak then s.replayFrames p else s
  if f.dark then s.goDark p else s

/-- FABRIC_FRAME_RECEIVE: the frame that is next in order is accepted; any other numbered frame, and one that does not decode, is
discarded (R279). What an accepted frame frees and acknowledges goes back in the next frames. -/
def State.frame (s : State) (p : Nat) (f : Frame) : State :=
  if !s.portCarries p then s
  else match readFrame f with
    | .bad lane number => s.badFrame p lane number
    | .good ctl ws =>
      let s := s.linkControl p ctl
      let x := s.port p
      if ctl.empty ∨ !s.portCarries p then s.pumpPort p
      else if ctl.number ≠ x.rxNext then (s.setNak p).pumpPort p
      else
        let words := x.rxPart ++ ws
        let got := takeMsgs words.length words
        let s := s.setPort p { x with
          rxNext := (x.rxNext + 1) % 2 ^ 16, nak := false, failures := 0, failLane := none, mixed := false, rxPart := got.2 }
        (got.1.foldl (fun s m => s.accept p m) (s.inc R.optPcntFrames p 1)).pumpPort p

/-- FABRIC_FRAME_RECEIVE. -/
def execFabricFrameReceive (port : Nat) (frame : Frame) (s : State) : Out := .next (s.frame port frame)

/-- TRANSIT_MESSAGE: the switch forwards a message whose DST is another module, or drops it at HOPS = 0 (R274, R277). -/
def State.transit (s : State) (m : FabMsg) : State :=
  match s.fab.inbox.find? fun e => e.2 = m with
  | none => s
  | some e =>
    if m.dst = s.rd R.optCfgModuleId 0 then s
    else
      let s := s.takeFab m
      if m.hops = 0 ∨ s.unreachable m.dst then
        s.lost (e.1 - 1) m
      else s.forward e.1 { m with hops := m.hops - 1 }

/-- TRANSIT_MESSAGE. -/
def execTransitMessage (msg : FabMsg) (s : State) : Out := .next (s.transit msg)

/-- SEQ_GAP_TIMEOUT: the requests with a message in the stream end on both modules; the stream goes on behind the gap (R275). -/
def State.gapTimeout (s : State) (src master stream : Nat) : State :=
  let key := 2 ^ 24 * src + 2 ^ 12 * master + stream
  if !(s.fab.gaps.any fun g => g.src = src && g.master = master && g.stream = stream &&
      decide (g.since + 1000 * s.rd R.optCfgGapUs 0 ≤ s.now)) then s
  else
    let held := s.fab.early.filter fun e => streamKey e.2 = key
    let reqs := ((held.map fun e => e.2.request).filter fun r => r ≠ 0).eraseDups
    let s := reqs.foldl (fun s r =>
      let s := (s.remoteWork src r).foldl (fun s k => s.endReq k stNoResource 0 0) s
      (s.askedOf r src).foldl (fun s k => (s.failShared k src stNoResource).sendError src r stNoResource) s) s
    let site := match s.route src with
      | some p => p
      | none => 0
    let s := s.raise 0x088 (portSite site) (portMaster site) 0 4 0
    match minBy (fun e => (e.2.seq + 2 ^ 16 - sget 0 s.fab.expect key) % 2 ^ 16) held with
    | none => s.closeGap key
    | some e =>
      let s := s.updFab fun f => { f with
        expect := sset 0 f.expect key e.2.seq
        gaps := f.gaps.map fun g => if g.src = src ∧ g.master = master ∧ g.stream = stream then { g with since := s.now } else g }
      (s.drain s.fab.early.length key).closeGap key

/-- SEQ_GAP_TIMEOUT. -/
def execSeqGapTimeout (src master stream : Nat) (s : State) : Out := .next (s.gapTimeout src master stream)

/-! ## Training (R276, R281) -/

/-- Words of the receive buffer of each VC (R273). -/
def rxWords : List Nat := [14336, 14336, 3072, 1024]

/-- Words free in a port's receive buffers: those that no message holds that has come by the port and not been acted on. -/
def State.rxFree (s : State) (p : Nat) : List Nat := (List.range 4).map fun v =>
  rxWords.getD v 0 - ((((s.fab.inbox ++ s.fab.early).filter fun e => e.1 = p + 1 && e.2.vc = v).map fun e => msgWords e.2).foldl (· + ·) 0)

/-- Messages that were not acknowledged whole before a port went DOWN are queued again; numbers start over. -/
def Port.restart (x : Port) : Port :=
  { x with
    queue := (x.unacked.map fun m => (0, m)) ++ x.queue
    replay := [], rxNext := 0, txNext := 0, txRest := [], txMsg := none, rxPart := [] }

/-- The port carries messages from now on: UP, or NARROW without one lane. Its first link control words give the peer a credit for every free word (R273). -/
def State.portUp (s : State) (p : Nat) (credits : List Nat) : State :=
  let fresh := decide (s.portState p = opTrain)
  let x := s.port p
  let x := if fresh then x.restart else x
  let x := { x with credits := (List.range 4).map fun v => credits.getD v 0
                    owed := s.rxFree p
                    nak := false, failures := 0, failLane := none, mixed := false, linkNews := [], fbErr := []
                    lockFails := [], handover := none, hoBack := none, peerLane := none, hoLockSet := none, hoReqSet := [], hoAsk := []
                    dark := false, sentDark := false, ackAt := s.now }
  let s := s.setPort p x
  let s := (s.setPortState p (if s.badLanes p = 0 then opUp else opNarrow)).mirrorLanes p
  let s := s.wr R.optPstatLanesRx p (255 - s.badLanes p)
  let s := (List.range 8).foldl (fun s l =>
    let k := laneKey p l
    if bitOf (s.badLanes p) l then s
    else ((((s.wr R.optLstatState k 2).wr R.optLstatBias k 0).wr R.optLstatRingTx k 0).wr R.optLstatRingRx k 0)) s
  s.pumpPort p

/-- Training leaves the port DOWN: its lanes are off (R281). -/
def State.trainDown (s : State) (p : Nat) : State :=
  ((((s.setPort p { s.port p with lockFails := [], downAt := s.now }).setPortState p opDown).mirrorLanes p).wr R.optPstatLanesRx p 0).lanesState p 0

/-- PORT_TRAINING: one attempt of Table FABR-6. `lockedLanes` is the mask of lanes that locked; a lane that fails two attempts is
retired before UP, and two such lanes leave the port DOWN. With its lanes locked the port sends its own hello word and checks its peer's (R276). -/
def State.training (s : State) (p locked : Nat) (hello : BitVec 128) (credits : List Nat) : State :=
  if !s.power.opticsOn ∨ s.portCount ≤ p ∨ !(s.portState p = opTrain ∨ s.portState p = opRetrain) then s
  else
    let x := s.port p
    let fails := (lanesIn (255 - s.rd R.optPstatRetiredLanes p)).filter fun l => !bitOf locked l
    let x := { x with lockFails := fails.foldl (fun m l => sset 0 m l (sget 0 m l + 1)) x.lockFails }
    let bad := fails.filter fun l => decide (2 ≤ sget 0 x.lockFails l)
    let s := s.setPort p x
    if fails ≠ [] ∧ bad ≠ fails then s
    else if 2 ≤ bad.length then s.trainDown p
    else
      let s := (s.wr R.optPstatPeerId p (helloId hello)).wr R.optPstatPeerPort p (helloPort hello)
      let s := s.setPort p { s.port p with
        hello := helloWord (s.rd R.optCfgModuleId 0) p (s.rd R.optSysSystem 0) (bad.foldl (fun m l => m + 2 ^ l) (s.rd R.optPstatRetiredLanes p)) }
      let site := portSite p
      if helloSystem hello ≠ s.rd R.optSysSystem 0 then
        (s.setPortState p opIsolated).raise 0x086 site (portMaster p) 0 4 0
      else if helloId hello = s.rd R.optCfgModuleId 0 then
        (s.setPortState p opIsolated).raise 0x085 site (portMaster p) 0 4 0
      else
        let s := s.setPort p { s.port p with peerRetired := helloRetired hello }
        let s := bad.foldl (fun s l => s.retireLane p l) s
        if s.portState p = opRetired then s
        else if 2 ≤ (lanesIn (s.badLanes p)).length then s.trainDown p
        else s.portUp p credits

/-- PORT_TRAINING. -/
def execPortTraining (port lockedLanes : Nat) (hello : BitVec 128) (credits : List Nat) (s : State) : Out :=
  .next (s.training port lockedLanes hello credits)

/-- PORT_TRAIN_RETRY: a DOWN port trains again every 10 s. -/
def State.trainRetry (s : State) (p : Nat) : State :=
  if s.power.opticsOn ∧ p < s.portCount ∧ s.portState p = opDown ∧ !(s.port p).dark ∧ 10 ^ 10 ≤ s.now - (s.port p).downAt then
    (s.setPortState p opTrain).lanesState p 1
  else s

/-- PORT_TRAIN_RETRY. -/
def execPortTrainRetry (port : Nat) (s : State) : Out := .next (s.trainRetry port)

/-- PORT_LOSS_OF_LOCK: lock is lost on all lanes for 10 ms without DARK: the port is retired (R285). -/
def State.lossOfLock (s : State) (p : Nat) : State :=
  if s.portCarries p ∧ !(s.port p).dark then s.retirePort p else s

/-- PORT_LOSS_OF_LOCK. -/
def execPortLossOfLock (port : Nat) (s : State) : Out := .next (s.lossOfLock port)

/-- LIGHT_RETURN: a port that went DOWN on DARK trains again (R285). -/
def State.lightReturn (s : State) (p : Nat) : State :=
  if s.power.opticsOn ∧ s.portState p = opDown ∧ (s.port p).dark then
    ((s.setPort p { s.port p with dark := false }).setPortState p opTrain).lanesState p 1
  else s

/-- LIGHT_RETURN. -/
def execLightReturn (port : Nat) (s : State) : Out := .next (s.lightReturn port)

/-! ## Remote reads and writes (R272) -/

/-- The first address of the receive areas of hub SRAM, which no view of Table MEMT-3 takes (DESIGN CHOICE, log entry 80: the spec gives them no address);
byte o of hub SRAM is at that address plus o. -/
def hubSramBase : Nat := 2 ^ 47

/-- Do bytes a to a + n - 1 lie in hub SRAM, and is it opened to module `m`: an entry for the granule that no view has? -/
def State.openedSram (s : State) (m a n : Nat) : Bool :=
  decide (hubSramBase ≤ a) && decide (a + n ≤ hubSramBase + 2 ^ 26) &&
    s.fab.opened.any fun e => e.1 = m && decide (e.2.1 ≤ granuleOf a) && decide (granuleOf a < e.2.1 + e.2.2)

/-- Is every granule of bytes a to a + n - 1 opened to module `m` and backed? -/
def State.openedTo (s : State) (m a n : Nat) : Bool :=
  (List.range (n / 2 ^ 26 + 2)).all fun i =>
    let x := Nat.min (a + i * 2 ^ 26) (a + (n - 1))
    let g := granuleOf x
    s.backed x && s.fab.opened.any fun e => e.1 = m && decide (e.2.1 ≤ g) && decide (g < e.2.1 + e.2.2)

/-- An address that is not opened: a bounds fault, answered with ERROR ST_CONTEXT_FAULT. -/
def State.remoteBounds (s : State) (m : FabMsg) (a access : Nat) : State :=
  (s.raise 0x002 (hubSite 4 0) m.master a access 0).sendError m.src m.request stContextFault

/-- A word that comes for address `a` is stored, in hub SRAM or in device memory. -/
def State.remotePut (s : State) (a : Nat) (w : List Byte) : State :=
  if hubSramBase ≤ a then s.updPkg fun k => { k with hubSram := putWord k.hubSram ((a - hubSramBase) / 16) w }
  else s.updMem fun m => m.written s.now [s.devWord a / 4] (putWord m.cells (s.devWord a) w)

/-- The word at address `a` for another module: its data, and whether it is sent as POISON. A word of hub SRAM that is uncorrectable is reported and
overwritten with poison; no partition owns a receive area (R262, R264). -/
def State.remoteGet (s : State) (a : Nat) : State × List Byte × Bool :=
  if hubSramBase ≤ a then
    let i := (a - hubSramBase) / 16
    match decodeWord false (wordAt s.pkg.hubSram i) with
    | .word b none => (s, b, false)
    | .word b (some _) => (s.codeCorrected (hubSite 5 15) hubMaster a, b, false)
    | .poisoned => (s, (wordAt s.pkg.hubSram i).drop 2, true)
    | .uncorrectable =>
      (((s.raise 0x041 (hubSite 5 15) hubMaster a 1 0).remotePut a poisonWord).raise 0x043 (hubSite 5 15) hubMaster a 2 0, List.replicate 16 0, true)
  else
    let y := s.copyRead (s.devWord a)
    (y.1, y.2.drop 2, decodeWord false y.2 == .poisoned)

/-- WRITE: payload word 1 holds the address, data words follow; a POISON word is stored as it came (R263). -/
def State.remoteWrite (s : State) (m : FabMsg) : State :=
  let s := s.takeFab m
  let a := fabWord m 0 % 2 ^ 48
  let n := m.payload.length - 1
  if n = 0 then s
  else if !s.openedSram m.src a (16 * n) && !s.openedTo m.src a (16 * n) then s.remoteBounds m a 2
  else (List.range n).foldl (fun s i =>
    let b := leBytes 16 (fabWord m (i + 1))
    s.remotePut (a + 16 * i) (if i + 1 ∈ m.poison then poisonOf b else encodeWord b)) s

/-- WRITE. -/
def execWrite (msg : FabMsg) (s : State) : Out := .next (s.remoteWrite msg)

/-- READ_REQ: the words are returned in READ_RSP messages of at most 1,023 words; poisoned words as POISON. -/
def State.remoteRead (s : State) (m : FabMsg) : State :=
  let s := s.takeFab m
  let a := fabWord m 0 % 2 ^ 48
  let n := bitsOf (fabWord m 0) 63 48 + 1
  if !s.openedSram m.src a (16 * n) && !s.openedTo m.src a (16 * n) then s.remoteBounds m a 1
  else
    let r := (List.range n).foldl (fun (x : State × List (List Byte × Bool)) i =>
      let y := x.1.remoteGet (a + 16 * i)
      (y.1, x.2 ++ [y.2])) (s, [])
    let s := r.1
    (chunks 1023 r.2).foldl (fun s c =>
      if s.unreachable m.src then s
      else
        let x := s.hubMsg m.src 3 m.request (c.map fun w => BitVec.ofNat 128 (leNat w.1))
        let x := { x with poison := (List.range c.length).filter fun i => (c.getD i ([], false)).2 }
        let k := 4096 * hubMaster + m.src
        (s.updFab fun f => { f with seqOut := sset 0 f.seqOut k ((sget 0 f.seqOut k + 1) % 2 ^ 16) }).forward 0 x) s

/-- READ_REQ. -/
def execReadReq (msg : FabMsg) (s : State) : Out := .next (s.remoteRead msg)

/-- READ_RSP: placed by stream and sequence number (R275). -/
def execReadRsp (msg : FabMsg) (s : State) : Out :=
  .next ((s.takeFab msg).updFab fun f => { f with readData := f.readData ++ [msg] })

/-- USAGE_REPORT: the client's REMOTE fields grow (R330), at any time. -/
def State.usage (s : State) (m : FabMsg) : State :=
  let s := s.takeFab m
  if fabWord m 0 % 2 ^ 16 ≠ 0x5553 then s
  else s.charge (bitsOf (fabWord m 0) 27 16) fun a => { a with
    remoteNs := a.remoteNs + fabWord m 1 % 2 ^ 64
    remoteUj := a.remoteUj + fabWord m 1 / 2 ^ 64
    remoteBytes := a.remoteBytes + fabWord m 2 % 2 ^ 64 }

/-- USAGE_REPORT. -/
def execUsageReport (msg : FabMsg) (s : State) : Out := .next (s.usage msg)

/-! ## Census (R278) -/

/-- Payload word 1 of a census: 0x4343 in [15:0] and the serial number in [127:64]; of its answer: 0x4341 likewise (DESIGN
CHOICE, log entry 23). -/
def censusWord (code serial : Nat) : BitVec 128 := BitVec.ofNat 128 (code + 2 ^ 64 * (serial % 2 ^ 64))

/-- The module is ISOLATED on every port: a duplicate ID. -/
def State.isolate (s : State) : State :=
  let p := (s.route (s.rd R.timCfgMaster 0)).getD 0
  let s := (List.range s.portCount).foldl (fun s p => if s.portState p = opRetired then s else s.setPortState p opIsolated) s
  ((s.updFab fun f => { f with isolated := true, censusWait := false }).wr R.optStatDupId 0 1).raise 0x085 (portSite p) (portMaster p) 0 4 0

/-- What the master holds of an ID after a census from it, and its answer: the serial it holds, or 0 in conflict. -/
def CensusEntry.take (e : Option CensusEntry) (serial now : Nat) : CensusEntry × Nat :=
  match e with
  | none => (⟨serial, now, none⟩, serial)
  | some e =>
    let e := if e.serial = serial then { e with at_ := now } else { e with conflictUntil := some (now + 3 * 10 ^ 10) }
    (e, if e.conflictUntil.any fun t => decide (now < t) then 0 else e.serial)

/-- An answer to this module's census: 0 or another serial number isolates it. -/
def State.censusAnswered (s : State) (serial : Nat) : State :=
  let s := s.updFab fun f => { f with censusWait := false }
  if serial = 0 ∨ serial ≠ s.rd R.hstIdSerialSerial 0 then s.isolate else s

/-- CENSUS: the time master receives a census and answers. -/
def State.census (s : State) (src serial : Nat) : State :=
  let s := s.takeIf fun m => m.kind = 4 && m.src = src && m.payload = [censusWord 0x4343 serial]
  if !s.isMaster ∨ serial = 0 then s
  else
    let r := CensusEntry.take (aget s.fab.census src) serial s.now
    let s := s.updFab fun f => { f with census := aput f.census src r.1 }
    if src = s.rd R.optCfgModuleId 0 then s.censusAnswered r.2
    else s.sendHub src 4 0 [censusWord 0x4341 r.2]

/-- CENSUS. -/
def execCensus (src serial : Nat) (s : State) : Out := .next (s.census src serial)

/-- CENSUS_ANSWER. -/
def execCensusAnswer (serial : Nat) (s : State) : Out :=
  .next ((s.takeIf fun m => m.kind = 4 && m.payload = [censusWord 0x4341 serial]).censusAnswered serial)

/-- CENSUS_SEND: every 10 s of run time; without a usable port or a route to the master the module reports TIME_HOLDOVER. The master takes its own
census at once. -/
def State.censusSend (s : State) : State :=
  if s.fab.isolated ∨ !s.power.opticsOn ∨ (s.fab.censusAt.any fun t => decide (s.now - t < 10 ^ 10)) then s
  else
    let me := s.rd R.optCfgModuleId 0
    let serial := s.rd R.hstIdSerialSerial 0
    let s := s.updFab fun f => { f with censusAt := some s.now }
    if s.isMaster then s.census me serial
    else if s.unreachable (s.rd R.timCfgMaster 0) then s.raise 0x08A (portSite 0) (portMaster 0) 0 5 0
    else (s.sendHub (s.rd R.timCfgMaster 0) 4 0 [censusWord 0x4343 serial]).updFab fun f => { f with censusWait := true }

/-- CENSUS_SEND. -/
def execCensusSend (s : State) : Out := .next s.censusSend

/-- CENSUS_ANSWER_TIMEOUT: no answer within 1 s while the master is reachable. -/
def State.censusLate (s : State) : State :=
  if s.fab.censusWait ∧ !s.unreachable (s.rd R.timCfgMaster 0) ∧ (s.fab.censusAt.any fun t => decide (10 ^ 9 ≤ s.now - t)) then s.isolate
  else s

/-- CENSUS_ANSWER_TIMEOUT. -/
def execCensusAnswerTimeout (s : State) : Out := .next s.censusLate

/-- CENSUS_FORGET: 30 s after its last census the master forgets an ID; 30 s after a conflict the mark ends. -/
def State.censusForget (s : State) (m : Nat) : State :=
  match aget s.fab.census m with
  | none => s
  | some e =>
    if 3 * 10 ^ 10 ≤ s.now - e.at_ then s.updFab fun f => { f with census := adel f.census m }
    else if e.conflictUntil.any fun t => decide (t ≤ s.now) then
      s.updFab fun f => { f with census := aput f.census m { e with conflictUntil := none } }
    else s

/-- CENSUS_FORGET. -/
def execCensusForget (moduleId : Nat) (s : State) : Out := .next (s.censusForget moduleId)

/-! ## Frequency agreement (R288, R373) -/

/-- The agreement period in ns. -/
def State.freqNs (s : State) : Nat := 10 ^ 6 * s.rd R.optSysFreqMs 0

/-- The job's lead. -/
def State.isLead (s : State) : Bool := s.rd R.optCfgJobLead 0 = s.rd R.optCfgModuleId 0

/-- Power of a partition's most demanding phase of the last 64 periods at a step, in mW (R373). -/
def State.worstPower (s : State) (p n : Nat) : Nat :=
  let mine := s.power.phases.filter fun x => x.part = p && decide (s.now ≤ x.used + 64 * s.freqNs)
  (if mine.isEmpty then Config.firstPower p n else (mine.map fun x => s.phasePower x n).foldl Nat.max 0) * s.partSize p

/-- The grant of R373: the highest step at which the plan fits; STEP_MIN where none does. -/
def State.grant (s : State) : Nat :=
  let lo := s.rd R.pwrPolicyStepMin 0
  let ok (n : Nat) : Bool :=
    decide (n ≤ s.rd R.pwrPolicyStepMax 0) && (decide (n < 14) || s.power.cool) && s.rd R.pwrStatTherm 0 = 0 &&
      decide ((s.enabledParts.map fun p => s.worstPower p n).foldl (· + ·) 0 ≤ s.budget)
  (((List.range 15).filter fun n => ok n).foldl Nat.max lo)

/-- Payload word 1 of FREQ. -/
def freqWord (step period : Nat) : BitVec 128 := BitVec.ofNat 128 (step % 16 + 2 ^ 32 * (period % 2 ^ 32))

/-- FREQ_PERIOD: at each multiple of FREQ_MS a member sends its granted step to the lead. -/
def State.freqPeriod (s : State) : State :=
  if s.rd R.optCfgJob 0 = 0 ∨ s.freqNs = 0 ∨ s.now / s.freqNs = s.fab.period then s
  else
    let n := s.now / s.freqNs
    let g := s.grant
    let me := s.rd R.optCfgModuleId 0
    let s := (s.updFab fun f => { f with period := n, ownGrant := g, grants := [(me, g)], decided := false }).wr R.pwrStatGrant 0 g
    if s.isLead then s else s.sendHub (s.rd R.optCfgJobLead 0) 9 0 [freqWord g n]

/-- FREQ_PERIOD. -/
def execFreqPeriod (s : State) : Out := .next s.freqPeriod

/-- FREQ_MISS, sent for the module named in the address field. -/
def State.freqMiss (s : State) (m : Nat) : State := s.raise 0x089 (portSite 0) (portMaster 0) m 0 0

/-- The period that a FREQ message's 32-bit period number names: the last one with that number up to the present (R288). -/
def State.fullPeriod (s : State) (n : Nat) : Nat :=
  let now := s.now / s.freqNs
  now - (now + 2 ^ 32 - n % 2 ^ 32) % 2 ^ 32

/-- FREQ: a grant at the lead, or the lead's result at a member; a result that comes after its effect time is a miss and applies at
the next synchronisation point (R288, R291). The lead takes the modules that a grant has come from for the members of the job (DESIGN CHOICE, log entry 80:
no register names them). -/
def State.freq (s : State) (m : FabMsg) : State :=
  let s := s.takeFab m
  let step := fabWord m 0 % 16
  let n := bitsOf (fabWord m 0) 63 32
  if s.rd R.optCfgJob 0 = 0 then s
  else if s.isLead then
    let s := s.updFab fun f => { f with members := if m.src ∈ f.members then f.members else f.members ++ [m.src] }
    if n ≠ s.fab.period % 2 ^ 32 ∨ s.fab.decided then s
    else s.updFab fun f => { f with grants := (f.grants.filter fun e => e.1 ≠ m.src) ++ [(m.src, step)] }
  else if m.src ≠ s.rd R.optCfgJobLead 0 then s
  else
    let eff := s.fullPeriod n * s.freqNs + s.freqNs / 2
    let s := if eff < s.now then s.freqMiss s.fab.ownGrant else s
    s.updFab fun f => { f with result := some (step, eff) }

/-- FREQ. -/
def execFreq (msg : FabMsg) (s : State) : Out := .next (s.freq msg)

/-- FREQ_LEAD_DECIDE: after half a period the lead takes the lowest grant, 0 for each missing one, and sends the result. -/
def State.freqDecide (s : State) : State :=
  let half := s.fab.period * s.freqNs + s.freqNs / 2
  if s.rd R.optCfgJob 0 = 0 ∨ !s.isLead ∨ s.fab.decided ∨ s.now < half then s
  else
    let me := s.rd R.optCfgModuleId 0
    let others := s.fab.members.filter fun m => m ≠ me
    let missing := others.filter fun m => !(s.fab.grants.any fun e => e.1 = m)
    let low := (s.fab.grants.map (·.2)).foldl Nat.min 15
    let step := if missing.isEmpty then low else 0
    let s := missing.foldl State.freqMiss s
    let s := s.updFab fun f => { f with decided := true, result := some (step, half) }
    others.foldl (fun s m => s.sendHub m 9 0 [freqWord step s.fab.period]) s

/-- FREQ_LEAD_DECIDE. -/
def execFreqLeadDecide (s : State) : Out := .next s.freqDecide

/-- FREQ_EFFECT: the agreed step is in force; each cluster takes it at its next synchronisation point (R23, R373). -/
def State.freqEffect (s : State) : State :=
  match s.fab.result with
  | none => s
  | some r =>
    if s.now < r.2 then s
    else
      let s := (s.updFab fun f => { f with result := none, agreed := true }).wr R.pwrStatJobStep 0 r.1
      s.applyPlan (s.planSteps s.power.cool)

/-- FREQ_EFFECT. -/
def execFreqEffect (s : State) : Out := .next s.freqEffect

/-! ## Device time (R289, R290) -/

/-- TIME_EXCHANGE: the module sends a TIME request on its parent port, whose t1 is the time its frame goes out; without a route to the master it goes into HOLDOVER. -/
def State.timeExchange (s : State) : State :=
  if s.isMaster then s
  else match s.route (s.rd R.timCfgMaster 0) with
    | none => if s.rd R.timStatState 0 = 3 then s else (s.wr R.timStatState 0 3).raise 0x08A (portSite 0) (portMaster 0) 0 5 0
    | some p =>
      let s := (s.updFab fun f => { f with askOut := true, asked := none, answered := none }).wr R.timStatParent 0 p
      s.sendOn p (s.rd R.optPstatPeerId p) 10 []

/-- TIME_EXCHANGE. -/
def execTimeExchange (s : State) : Out := .next s.timeExchange

/-- Follows an offset: before the module is ready the first one sets TIM_NOW in one step; afterwards only the rate changes, by
offset per 10 ms, within ±100 ppm (R290). -/
def State.follow (s : State) (offset : Int) (st : Nat) : State :=
  let s := (s.wr R.timStatOffset 0 (codeOfInt 32 offset)).wr R.timStatState 0 st
  if s.boot.running ∧ !s.fab.timeSet then (s.setTime offset).updFab fun f => { f with timeSet := true }
  else s.updFab fun f => { f with rate := max (-1000) (min 1000 (f.rate + offset)) }

/-- TIME: the exchange with these four timestamps is complete on the parent port: t1 as the module's request went out, t2 and t3 as the answer carries
them, t4 as it came in; other timestamps are those of no exchange of this module. The
offset of the exchange with the least delay among the last 8 is used (R289). -/
def State.timeAnswered (s : State) (p t1 t2 t3 t4 : Nat) : State :=
  match s.fab.asked, s.fab.answered with
  | some sent, some (q, came, w) =>
    if s.isMaster ∨ p ≠ s.rd R.timStatParent 0 ∨ q ≠ p ∨ (t1, t2, t3, t4) ≠ (sent, w.toNat % 2 ^ 64, w.toNat / 2 ^ 64, came) then s
    else
      let i (n : Nat) : Int := n
      let delay := ((i t4 - i t1) - (i t3 - i t2)) / 2
      let offset := ((i t2 - i t1) + (i t3 - i t4)) / 2
      let ex := ((delay.toNat, offset) :: s.fab.exchanges).take 8
      let best := (minBy (fun e => e.1) ex).getD (delay.toNat, offset)
      let s := s.updFab fun f => { f with asked := none, answered := none, exchanges := ex }
      (s.wr R.timStatDelay 0 (Nat.min best.1 (2 ^ 16 - 1))).follow best.2 2
  | _, _ => s

/-- TIME. -/
def execTime (port t1 t2 t3 t4 : Nat) (s : State) : Out := .next (s.timeAnswered port t1 t2 t3 t4)

/-- PTM_UPDATE: the time master follows its host. -/
def execPtmUpdate (hostNow : Nat) (s : State) : Out :=
  .next (if s.isMaster then s.follow ((hostNow : Int) - (s.now : Int)) 1 else s)

/-- One nanosecond of the module's own clock: TIM_NOW advances by one and by the part of a nanosecond its rate has accumulated;
it never goes backward (R289, R290). -/
def State.tick (s : State) : State :=
  let f := s.fab.frac + s.fab.rate
  let s := s.updFab fun x => { x with frac := f % 10000000 }
  s.putNow ((s.now + (1 + f / 10000000).toNat) % 2 ^ 64)

end Sys2Proof.Machine
end

