-- ==== Sys2Proof/Machine/Work.lean ====
section
/-! DEFINITION. Hub-to-hub work as it arrives (13_optical_fabric.md Table FABR-5): the parts of a work message are put together. -/

namespace Sys2Proof.Machine

/-- Takes a work message; the bytes it carries, once its last part has come. -/
def State.takeWork (s : State) (m : FabMsg) : State × Option (List Byte) :=
  let s := s.takeFab m
  let mine (y : FabMsg) : Bool := y.src = m.src && y.request = m.request && fabWord y 0 = fabWord m 0
  let got := s.fab.work.filter mine ++ [m]
  if got.length < bitsOf (fabWord m 0) 95 64 then (s.updFab fun f => { f with work := f.work ++ [m] }, none)
  else (s.updFab fun f => { f with work := f.work.filter fun y => !mine y }, some (workBytes (got.flatMap fun y => y.payload.drop 1)))

end Sys2Proof.Machine
end

