-- ==== Sys2Proof/Machine/Tables.lean ====
section
/-! DEFINITION. Embedding tables (08_embedding_tables.md R157 to R174, 11_memory_tiers.md R242, 15_tenancy.md R325, R326): lookups and their
sub-bags, updates, commits and flips, split tables, and the migration of rows between tiers. -/

namespace Sys2Proof.Machine

/-! ## Versions and copies -/

/-- The copy that holds an epoch the table serves. -/
def Table.copyOf (t : Table) (e : Nat) : Nat := if e = t.epoch then t.cur else 1 - t.cur

/-- Keys of the versions of a slot's table: the one in the slot, and those a replacement has superseded. -/
def State.versions (s : State) (slot : Nat) : List (Nat × Table) :=
  s.tables.filter fun (e : Nat × Table) => e.1 = slot || (decide (2 ^ 41 ≤ e.1) && decide ((e.1 - 2 ^ 41) / 2 ^ 32 = slot))

/-- The version a request has pinned: its key, the table and the epoch. -/
def State.pinnedTable (s : State) (slot : Nat) (k : ReqKey) : Option (Nat × Table × Nat) :=
  (s.versions slot).findSome? fun e => (e.2.pins.find? fun p => p.1 = k).map fun p => (e.1, e.2, p.2)

/-- A lookup is pinned to its table's current epoch (R167). -/
def State.pinTable (s : State) (slot : Nat) (k : ReqKey) : State := s.updTable slot fun t => { t with pins := t.pins ++ [(k, t.epoch)] }

/-- Does the commit or flip still hold an earlier epoch: one that lookups have pinned, or one a split table keeps (R165, R168)? -/
def Table.spareBusy (t : Table) : Bool :=
  (t.pins.any fun p => p.2 ≠ t.epoch) || (decide (1 < t.slices) && decide (1 < t.digests.length))

/-- Is this module the table's HOME, or the table in one piece? -/
def State.atHome (s : State) (t : Table) : Bool := decide (t.slices ≤ 1) || t.home = s.rd R.optCfgModuleId 0

/-! ## Reading a row copy (R156, R242) -/

/-- A row copy as read: its bytes, which of them come from poisoned words, and what stopped the read: 0 nothing, 2 an uncorrectable word, whose
partition has been reset, 3 a granule of another partition or one that is withdrawn, 4 host data that has not come. -/
structure RowRead where
  bytes : List Byte
  bad : List Bool
  stop : Nat
  deriving DecidableEq, Repr

/-- Where a row copy lies in LPDDR-6, for a slot of a TIERED table or a row (R156, R169). -/
def Table.copyAddr (t : Table) (copy r slot : Nat) : Nat :=
  if t.tiered then t.codeA + 2 * t.stride * slot + copy * t.stride else (if copy = 0 then t.codeA else t.codeB) + r * t.stride

/-- Reads a row copy where its tier and slot say it lies, for a client; host data comes for `need`. `master` is the unit that reads. -/
def State.rowRead (s : State) (c : Nat) (need : HostNeed) (t : Table) (o : Obj) (copy r tier slot master : Nat) : State × RowRead :=
  match tier with
  | 0 =>
    let a := t.copyAddr copy r slot
    if !s.ownsRange t.part a t.stride then (s, ⟨[], [], 3⟩)
    else
      let y := s.readUnit a t.stride master
      if y.2.2 = 2 then (y.1, ⟨[], [], 2⟩)
      else (y.1.charge c fun x => { x with lpddrRd := x.lpddrRd + t.stride }, ⟨y.2.1, s.badBytes a t.stride, 0⟩)
  | 1 => match s.hostRead o.placer o.places need (2 * t.stride * slot + copy * t.stride) t.stride with
    | (s, none) => (s, ⟨[], [], 4⟩)
    | (s, some d) => (s, ⟨pieceBytes d, d.flatMap fun e => List.replicate e.1.length e.2, 0⟩)
  | _ =>
    let p := tailPlace t.stride slot
    let b := 4096 * p.1 + p.2 + copy * t.stride
    let ps := flashParts o.places
    let d := (List.range (ceilDiv (b % 4096 + t.stride) 4096)).foldl (fun (x : State × List Byte × List Bool) i =>
      let y := x.1.flashFetch c (flashLsn ps (b / 4096 + i)) 1
      (y.1, x.2.1 ++ y.2.1, x.2.2 ++ List.replicate 4096 y.2.2)) (s, [], [])
    (d.1, ⟨slice d.2.1 (b % 4096) t.stride, (d.2.2.drop (b % 4096)).take t.stride, 0⟩)

/-- A gather unit reads a row's entry of the row map (R169, Table TABL-4): its word, whether it is poisoned, and what stops the read, as RowRead has it. -/
def State.mapRead (s : State) (c : Nat) (t : Table) (r master : Nat) : State × RowRead :=
  let a := t.mapBase + 16 * r
  if !s.ownsRange t.part a 16 then (s, ⟨[], [], 3⟩)
  else
    let y := s.readUnit a 16 master
    (y.1.charge c fun x => { x with lpddrRd := x.lpddrRd + 32 }, ⟨y.2.1, s.badBytes a 16, if y.2.2 = 2 then 2 else 0⟩)

/-- The tier and slot where a lookup reads a row, by the row's map word: a slot the row has left since the lookup was pinned, else the row's own (Table
TABL-5). -/
def Table.placeFor (t : Table) (k : ReqKey) (r : Nat) (word : List Byte) : Nat × Nat :=
  match t.oldSlots.find? fun e => e.1 = r && decide (k ∈ e.2.2.2) with
  | some e => (e.2.1, e.2.2.1)
  | none => if t.tiered then (fieldLe word 0 1 / 4 % 4, fieldLe word 8 4) else (0, r)

/-! ## Lookups (R157 to R161) -/

/-- A gather unit is 8 × die + region. Its entry of CFG_ENGP: the partition it is assigned to. -/
def State.unitPart (s : State) (u : Nat) : Option Nat :=
  let e := s.rd ⟨R.cfgEngpEnt.off, .array, 8 * (u % 8) + 7, 8 * (u % 8)⟩ (2 + u / 8)
  if bitOf e 7 then some (e % 64) else none

/-- Site of a gather unit. -/
def unitSiteOf (u : Nat) : Nat := site (u / 8) (u % 8) 0 9 0

/-- The gather units of a die that serve a partition and are not retired. -/
def State.unitsFor (s : State) (die p : Nat) : List Nat :=
  ((List.range 8).map (8 * die + ·)).filter fun u => s.unitPart u = some p && !s.unitRetired (unitSiteOf u) 0

/-- Bursts of a row: those of its stride, and one of the row map in a TIERED table (08_embedding_tables.md, Gather throughput). -/
def Table.rowBursts (t : Table) : Nat := t.stride / 32 + b2n t.tiered

/-- A gather unit begins a sub-bag, and with it the work of its lookup (R451). A lookup whose deadline has passed before any has begun ends instead (Table
TABL-6). -/
def State.startBag (s : State) (b : BagWork) (u : Nat) : State :=
  let k : ReqKey := (b.client, b.req)
  match (s.req? k).bind fun r => if r.started then none else s.boundary r with
  | some st => s.endReq k st 0 0
  | none => ((s.putBags (modFirst (fun x => x = b) (fun x => { x with unit := some u, startedAt := s.now }) s.bags)).wr
      R.tblGstatOutstanding u (Nat.min 2048 b.bursts)).updReq k fun r => { r with started := true }

/-- Sub-bags that wait go to the lowest free units of their die and partition, in order; where no unit serves one, its request ends with
ST_NO_RESOURCE (R161, R326). -/
def State.dispatchBags (s : State) : State :=
  let waits := s.bags.filter fun b => b.unit.isNone && !b.done
  waits.foldl (fun s b =>
    if b ∉ s.bags then s
    else
      let us := s.unitsFor b.die b.part
      if us.isEmpty then s.endReq (b.client, b.req) stNoResource 0 0
      else match us.find? fun u => !(s.bags.any fun x => x.unit = some u) with
        | none => s
        | some u => s.startBag b u) s

/-- INLINE of a lookup: is it weighted; OUT_FMT as a float format; SAT. -/
def lkWeighted (r : Req) : Bool := bitOf (r.inl 1 1) 0
/-- OUT_FMT. -/
def lkFmt (r : Req) : FloatFmt := if bitOf (r.inl 1 1) 1 then fmtBF16 else fmtFP32
/-- SAT. -/
def lkSat (r : Req) : Bool := bitOf (r.inl 1 1) 2
/-- BAGS. -/
def lkBags (r : Req) : Nat := r.p 0 4 + 1

/-- Are the offsets of a lookup in order (R157)? -/
def goodOffsets (os : List Nat) : Bool :=
  ((List.range (os.length - 1)).all fun b => decide (os.getD b 0 < os.getD (b + 1) 0) && decide (os.getD (b + 1) 0 - os.getD b 0 ≤ 65536)) &&
    decide (os.getLastD 0 - os.headD 0 ≤ 16777216)

/-- The row an index stands for: itself, or DEFAULT where it is invalid; none for the zero row (R158). -/
def Table.rowOf (t : Table) (i : Nat) : Option Nat :=
  if i ≠ 0xFFFFFFFF ∧ i < t.rows then some i else if t.dflt = 0xFFFFFFFF then none else some t.dflt

/-- Is an index invalid? -/
def Table.invalidIdx (t : Table) (i : Nat) : Bool := i = 0xFFFFFFFF || decide (t.rows ≤ i)

/-- The sub-bags of a bag, one for each die; weights of the zero row go with die 0, for it reads no memory (DESIGN CHOICE, log entry 26). -/
def subBags (k : ReqKey) (slot p e b : Nat) (t : Table) (items : List (Nat × Nat)) : List BagWork :=
  (List.range 4).map fun die : Nat =>
    let mine := items.filterMap fun x => (t.rowOf x.1).bind fun r => if r % 4 = die then some (r, x.2) else none
    (⟨k.1, k.2, slot, p, e, b, die, mine, if die = 0 then (items.filter fun x => (t.rowOf x.1).isNone).map (·.2) else [], none, 0, false, [],
      [], mine.length * t.rowBursts, false⟩ : BagWork)

/-- A lookup begins: each bag is split into four sub-bags. -/
def State.beginLookup (s : State) (k : ReqKey) (slot e : Nat) (t : Table) (bags : Nat) (os idxs wts : List Nat) : State :=
  let bag (b : Nat) : List (Nat × Nat) :=
    (List.range (os.getD (b + 1) 0 - os.getD b 0)).map fun i =>
      let j := os.getD b 0 - os.headD 0 + i
      (idxs.getD j 0, wts.getD j 0x3F80)
  let inv := (List.range bags).map fun b => ((bag b).filter fun x => t.invalidIdx x.1).length
  let l : Lookup := ⟨k.1, k.2, slot, e, bags, inv, [], [], []⟩
  ((s.putLookups (s.lookups ++ [l])).putBags (s.bags ++ (List.range bags).flatMap fun b => subBags k slot t.part e b t (bag b))).dispatchBags

/-- 2-byte little-endian values. -/
def words2 (bs : List Byte) : List Nat := (List.range (bs.length / 2)).map fun i => fieldLe bs (2 * i) 2

/-- The other slices of a split table are asked for at their holders, with the epoch that the pin names (R168). -/
def State.askHolders (s : State) (k : ReqKey) (r : Req) (t : Table) (e : Nat) (bufs : List (List Byte)) : State :=
  t.others.foldl (fun s m =>
    if s.unreachable m then s.endReq k stNoResource 0 0
    else if !s.live k then s
    else s.sendWork m k.2 k.1 3 0 (leBytes 4 e ++ r.desc ++ padTo 32 r.param ++ bufs.flatten)) s

/-- OP_TABLE_LOOKUP: the whole offsets array is read first; then indices and weights, and the bags start. -/
def State.tableLookup (s : State) (k : ReqKey) : State := s.onReq k 0x10 fun r =>
  if r.ran then s
  else match s.boundary r with
  | some st => s.endReq k st 0 0
  | none => match s.pinnedTable (r.inl 0 1) k with
    | none => s.endReq k stState 0 0
    | some (_, t, e) =>
      let n := 4 * (lkBags r + 1)
      if t.missedTf then s.endReq k stState 0 0
      else match s.readAddr (.request k.1 k.2) k.1 (r.p 8 8) n with
        | .data b false =>
          let os := words4 b
          if !goodOffsets os then s.endReq k stBadDescriptor 0 0
          else
            let total := os.getLastD 0 - os.headD 0
            let bufs := [(r.p 8 8, n), (r.p 16 8 + 4 * os.headD 0, 4 * total)] ++
              if lkWeighted r then [(r.p 24 8 + 2 * os.headD 0, 2 * total)] else []
            (match s.gather k bufs with
             | (s, none) => s
             | (s, some bufs) =>
               let s := (s.setInputs k bufs).updReq k fun r => { r with ran := true, started := decide (1 < t.slices), objRefs := [objEntry t.object e
                 (((t.digests.find? fun d => d.1 = e).map (·.2)).getD [])], modules := t.slices }
               let s := s.beginLookup k (r.inl 0 1) e t (lkBags r) os (words4 (bufs.getD 1 [])) (words2 (bufs.getD 2 []))
               s.askHolders k r t e bufs)
        | _ => (s.gather k [(r.p 8 8, n)]).1

/-- OP_TABLE_LOOKUP. -/
def execOpTableLookup (client req : Nat) (s : State) : Out := .next (s.tableLookup (client, req))

/-! ## Sub-bags and bags -/

/-- One index enters a sub-bag's sums: weight × value of every element (R159). -/
def addRowTo (sums : List Num) (w : Num) (vs : List Num) : List Num := List.zipWith (fun a v => a.add (w.mul v)) sums vs

/-- Elements that poisoned words of a row copy feed: all where a word with SCALE or OFFSET is poisoned, else those whose code lies there. -/
def rowPoison (bits d : Nat) (bad : List Bool) : List Bool :=
  (List.range d).map fun j => (bad.take 4).any id || bad.getD (4 + j * bits / 8) false

/-- A sub-bag as far as it has been summed. -/
structure BagRun where
  sums : List Num
  poison : List Bool
  stop : Nat
  deriving DecidableEq, Repr

/-- A gather unit reads the row of one index, through the row map in a TIERED table. A row whose map word is poisoned has no known place: every element
that it feeds is poisoned (R159, R263). -/
def State.bagRow (s : State) (b : BagWork) (t : Table) (o : Obj) (copy u r : Nat) : State × RowRead :=
  let k : ReqKey := (b.client, b.req)
  let m := if t.tiered then s.mapRead b.client t r (0x480 + u) else (s, ⟨[], [], 0⟩)
  if m.2.stop ≠ 0 then m
  else if m.2.bad.any id then (m.1, ⟨List.replicate t.stride 0, List.replicate t.stride true, 0⟩)
  else
    let p := t.placeFor k r m.2.bytes
    m.1.rowRead b.client (.request k.1 k.2) t o copy r p.1 p.2 (0x480 + u)

/-- A gather unit runs a sub-bag. -/
def State.runBag (s : State) (b : BagWork) (t : Table) (o : Obj) (copy u : Nat) : State × BagRun :=
  let zero := b.zeroWeights.foldl (fun (m : List Num) w => addRowTo m (fmtBF16.decode w) (List.replicate t.d Num.zero)) (List.replicate t.d Num.zero)
  b.items.foldl (fun (x : State × BagRun) i =>
    if x.2.stop = 2 ∨ x.2.stop = 3 then x
    else
      let y := x.1.bagRow b t o copy u i.1
      if y.2.stop ≠ 0 then (y.1, { x.2 with stop := y.2.stop })
      else (y.1, { x.2 with
        sums := addRowTo x.2.sums (fmtBF16.decode i.2) (rowValues t.bits t.d y.2.bytes)
        poison := List.zipWith (· || ·) x.2.poison (rowPoison t.bits t.d y.2.bad) })) (s, ⟨zero, List.replicate t.d false, 0⟩)

/-- GATHER_SUBBAG: the sub-bag of a gather unit is summed and the unit takes the next one that waits. A tail row in host memory that has
not come keeps it waiting. A row outside the partition's granules is a bounds fault, which its bag carries (R160, R227). -/
def State.gatherSubbag (s : State) (u : Nat) : State :=
  match s.bags.find? fun b => b.unit = some u && !b.done with
  | none => s
  | some b =>
    let k : ReqKey := (b.client, b.req)
    let spent (s : State) : State := s.charge b.client fun a => { a with gatherNs := a.gatherNs + (s.now - b.startedAt) }
    let drop : State := (((spent s).freeUnit b).putBags (dropFirst (fun x => x = b) s.bags)).dispatchBags
    if !(s.lookups.any fun l => (l.client, l.req) = k) then drop
    else match s.pinnedTable b.table k with
      | none => drop
      | some (v, t, e) => match s.obj? (if v = b.table then t.object else v) with
        | none => drop
        | some o =>
          let y := s.runBag b t o (t.copyOf e) u
          if y.2.stop = 4 then y.1.putBags s.bags
          else if y.2.stop = 2 then y.1
          else
            let out := decide (y.2.stop = 3)
            let s := if out then y.1.raise 0x002 (unitSiteOf u) (0x480 + u) 0 1 0 else y.1
            let s := spent ((s.freeUnit b).inc R.tblGstatBags u 1)
            let after (x : BagWork) : BagWork := { x with unit := none, done := true, sums := y.2.sums, poison := y.2.poison, fault := out }
            (s.putBags (modFirst (fun x => x = b) after s.bags)).dispatchBags

/-- GATHER_SUBBAG. -/
def execGatherSubbag (unit : Nat) (s : State) : Out := .next (s.gatherSubbag unit)

/-- One slice of a bag, read out: values, elements read out as NaN, which of its 16-byte words are poisoned, and whether a bounds fault met it. -/
structure SliceOut where
  values : List Byte
  nans : Nat
  bad : List Bool
  fault : Bool
  deriving DecidableEq, Repr

/-- Is an element of the slice poisoned? -/
def SliceOut.poison (x : SliceOut) : Bool := x.bad.any id

/-- The four partial sums of a bag, added in ascending die order and read out once per element (R160, R161). The accumulator is two's
complement, so a sum of zero reads out as +0. -/
def readBag (f : FloatFmt) (sat : Bool) (parts : List BagWork) (d : Nat) : SliceOut :=
  let ps := sortBy (fun (a b : BagWork) => decide (a.die < b.die)) parts
  let sums := ps.foldl (fun (m : List Num) b => List.zipWith Num.add m b.sums) (List.replicate d Num.zero)
  let bad := ps.foldl (fun (m : List Bool) b => List.zipWith (· || ·) m b.poison) (List.replicate d false)
  let out := (sums.zip bad).map fun e =>
    if e.2 then (0, false)
    else
      let v := if e.1.isZero then Num.zero else e.1
      (f.encode sat v, decide (v = .nan))
  ⟨out.flatMap fun e => leBytes (f.bits / 8) e.1, (out.filter (·.2)).length, (chunks (128 / f.bits) bad).map fun w => w.any id, ps.any fun b => b.fault⟩

/-- A slice as a holder sends it: bag, elements read out as NaN, bounds fault, slice, the values, and a byte for each of their words, 1 where it is
poisoned (DESIGN CHOICE, log entry 24). -/
def SliceOut.record (x : SliceOut) (bag slice : Nat) : List Byte :=
  leBytes 4 bag ++ leBytes 4 x.nans ++ leBytes 4 (b2n x.fault) ++ leBytes 4 slice ++ x.values ++ x.bad.flatMap fun b => leBytes 1 (b2n b)

/-- The slice of such a record: 16 bytes of values for each byte of its end. -/
def sliceOfRecord (b : List Byte) : SliceOut :=
  let n := (b.length - 16) / 17
  ⟨(b.drop 16).take (16 * n), fieldLe b 4 4, (b.drop (16 + 16 * n)).map fun x => decide (x ≠ 0), fieldLe b 8 4 = 1⟩

/-- Bytes of a bag's output (Table TABL-3). -/
def bagBytes (f : FloatFmt) (t : Table) : Nat := 16 + roundUp (t.d * t.slices * (f.bits / 8)) 16

/-- Writes an output whose words may be poisoned one by one. -/
def State.putOutBad (s : State) (k : ReqKey) (o : Nat) (bs : List Byte) (bad : List Bool) : State :=
  if !bad.any id then s.putOut k o bs
  else
    let ws := chunks 16 bs
    (List.range ws.length).foldl (fun s i => s.putOutP k (o + 16 * i) (ws.getD i []) (bad.getD i false)) s

/-- The output of a bag: the words that hold a poisoned element are written poisoned (R160, Table ARIT-7). -/
def State.writeBag (s : State) (k : ReqKey) (t : Table) (f : FloatFmt) (l : Lookup) (bag : Nat) (xs : List SliceOut) : State :=
  let bad := xs.any fun x => x.poison
  let vals := xs.flatMap fun x => x.values
  let o := bag * bagBytes f t
  let s := s.putOut k o (leBytes 4 (l.invalid.getD bag 0) ++ leBytes 4 l.epoch ++ leBytes 4 ((xs.map fun x => x.nans).foldl (· + ·) 0) ++ leBytes 4 (b2n bad))
  s.putOutBad k (o + 16) (padTo (bagBytes f t - 16) vals) (xs.flatMap fun x => x.bad)

/-- A lookup whose bags are all merged ends, with the first error status among its bags (R160); a holder's sends its slices to the module that asked (R168). -/
def State.endLookup (s : State) (k : ReqKey) (l : Lookup) : State :=
  match s.originOf k with
  | some x => (s.sendWork x.src x.req x.client 3 6 (leBytes 4 l.bags ++ (l.out.flatMap fun e => leBytes 4 e.2.length ++ e.2))).endReq k
    stOk l.bags 0
  | none =>
    let inv := l.invalid.foldl (· + ·) 0
    match (sortBy (fun (a b : Nat × Nat) => decide (a.1 < b.1)) l.errors).head? with
    | none => s.endReq k stOk l.bags inv
    | some e =>
      let unit := match s.pinnedTable l.table k with
        | some (_, t, _) => unitSiteOf ((s.unitsFor 0 t.part).headD 0)
        | none => hubSite 5 14
      let s := if e.2 = stPoison then s.raise 0x044 unit hubMaster 0 1 0 else s
      s.endReq k e.2 l.bags inv

/-- BAG_MERGE. -/
def State.bagMerge (s : State) (k : ReqKey) (bag : Nat) : State :=
  match s.req? k, s.lookups.find? fun l => (l.client, l.req) = k with
  | some r, some l =>
    (match s.pinnedTable l.table k with
     | none => s
     | some (_, t, _) =>
       let parts := s.bags.filter fun b => decide ((b.client, b.req) = k) && b.bag = bag
       let f := lkFmt r
       let rem := r.remote.isSome
       let theirs := (l.remoteSlices.filter fun x => x.1 = bag)
       if parts.length ≠ 4 ∨ !(parts.all fun b => b.done) ∨ (!rem ∧ theirs.length + 1 < t.slices) then s
       else
         let own := readBag f (lkSat r) parts t.d
         let slices := (List.range (Nat.max 1 t.slices)).map fun i =>
           if i = t.slice ∨ t.slices ≤ 1 then own else ((theirs.find? fun x => x.2.1 = i).map fun x => sliceOfRecord x.2.2).getD own
         let s := s.putBags (s.bags.filter fun b => !(decide ((b.client, b.req) = k) && b.bag = bag))
         let fault := slices.any fun x => x.fault
         let s := if rem ∨ fault then s else s.writeBag k t f l bag slices
         let l' := { l with
           out := l.out ++ [(bag, if rem then own.record bag t.slice else [])]
           errors := l.errors ++ if fault then [(bag, stContextFault)] else if slices.any SliceOut.poison then [(bag, stPoison)] else [] }
         let s := s.putLookups (modFirst (fun x => x = l) (fun _ => l') s.lookups)
         if l'.out.length < l.bags then s else s.endLookup k l')
  | _, _ => s

/-- BAG_MERGE. -/
def execBagMerge (client req bag : Nat) (s : State) : Out := .next (s.bagMerge (client, req) bag)

/-! ## Updates (R162, R165, R169) -/

/-- Is an update in order as far as its own bytes say: whole entries, reserved bytes zero, no NaN (R7, R162)? -/
def goodUpdateForm (r : Req) : Bool :=
  decide (r.param.length % 12 = 0) && decide (r.inl 1 1 ≤ 1) &&
    ((List.range (r.param.length / 12)).all fun i => decide (r.p (12 * i + 6) 2 = 0)) &&
    (r.inl 1 1 = 0 || (updEntries r.param).all fun e => decide (fp32Val e.2.2 ≠ .nan))

/-- Check 2 of an update: its form, and rows and columns of the table. -/
def goodUpdate (t : Table) (r : Req) : Bool :=
  goodUpdateForm r && (updEntries r.param).all fun e => decide (e.1 < t.rows) && decide (e.2.1 < t.d * Nat.max 1 t.slices)

/-- May an update apply: entries free in the delta buffer and the residual store for all its rows (R165, R169)? -/
def Table.updateRoom (t : Table) (rows : List Nat) : Bool :=
  let need := rows.filter fun r => t.buffers r && (aget t.delta r).isNone
  let fits (held : List Nat) : Bool :=
    let new := rows.filter fun r => t.willTail r && r ∉ held
    new.isEmpty || decide (held.length + new.length ≤ t.residCap)
  let staged := match t.commit with
    | some c => if c.staged then fits ({ t with resid := c.residuals }.residRows) else true
    | none => true
  decide (t.delta.length + need.length ≤ 1024) && fits t.residRows && staged

/-- Where an update of rows reaches device memory: the delta buffer, the residual store, or the rows' accumulators. -/
def Table.updateRanges (t : Table) (rows : List Nat) : List (Nat × Nat) :=
  (rows.map fun r =>
    if t.buffers r then (t.deltaBase, 1024 * t.deltaSize)
    else if t.isTail r then (t.residBase, t.residCap * t.residSize)
    else (t.accAddr r 0, 4 * t.d)).eraseDups

/-- Why an update of rows is not applied: no room, or memory outside the partition's granules, a withdrawn one among it (R230). -/
def State.updateStop (s : State) (t : Table) (rows : List Nat) : Option Nat :=
  if !t.updateRoom rows then some stNoResource
  else if (t.updateRanges rows).all fun e => s.ownsRange t.part e.1 e.2 then none
  else some stContextFault

/-- The hub reads the accumulators that an update adds into. -/
def State.updateReads (s : State) (t : Table) (rows : List Nat) : State × Nat :=
  s.readUnits hubMaster ((rows.filter fun r => !t.buffers r && !t.isTail r).map fun r => (t.accAddr r 0, 4 * t.d))

/-- Is a replacement loading into the slot: from its admission on, for OP_OBJECT_LOAD counts as started then (R167, R451)? -/
def State.replaces (s : State) (slot : Nat) : Bool :=
  ((s.table? slot).any fun t => t.replacing) ||
    s.host.reqs.any fun x => !x.ended && x.opcode = 0x29 && x.inl 4 1 = 1 && x.inl 5 1 = slot

/-- Check 6 of an update or commit, at its admission alone: the table serves at HOME, is UPDATABLE and is not being replaced (R167). -/
def State.updateState (s : State) (slot : Nat) : Bool :=
  match s.table? slot with
  | none => true
  | some t => !t.updatable || s.replaces slot || !s.atHome t || t.missedTf

/-- Must an update wait for requests admitted before it: a commit that has not begun; at HOME of a split table an update that is not forwarded yet (R168)? -/
def State.updateWaits (s : State) (slot : Nat) (t : Table) (r : Req) : Bool :=
  s.host.reqs.any fun x => !x.ended && x.inl 0 1 = slot && decide (x.order < r.order) &&
    ((x.opcode = 0x12 && !(t.commit.any fun c => (c.client, c.req) = (x.client, x.id))) || (x.opcode = 0x11 && decide (1 < t.slices) && !x.ran))

/-- OP_TABLE_UPDATE: a commit admitted before it begins first. At HOME of a split table it is forwarded to every holder in admission order, and ends when all
have answered (R168). -/
def State.tableUpdate (s : State) (k : ReqKey) : State := s.onReq k 0x11 fun r =>
  let slot := r.inl 0 1
  match s.table? slot with
  | none => s.endReq k stState 0 0
  | some t =>
    let es := updEntries r.param
    if r.ran ∨ s.updateWaits slot t r then s
    else if !goodUpdate t r then s.endReq k stBadDescriptor 0 0
    else if !t.updatable ∨ !s.atHome t then s.endReq k stState 0 0
    else
      let ds := rowDeltas t t.slice (r.inl 1 1 = 1) es
      let rows := ds.map fun (e : Nat × List Int) => e.1
      match s.updateStop t rows with
      | some st => (if st = stContextFault then s.raise 0x002 (hubSite 5 14) hubMaster 0 2 0 else s).endReq k st 0 0
      | none =>
        if 1 < t.slices ∧ t.others.any s.unreachable then s.endReq k stNoResource 0 0
        else
          let y := s.updateReads t rows
          if y.2 = 2 then y.1.endReq k stPartitionReset 0 0
          else if t.slices ≤ 1 then (y.1.applyDeltas slot ds).endReq k stOk es.length 0
          else
            let s := ((y.1.applyDeltas slot ds).updReq k fun r => { r with ran := true }).updTable slot fun t => { t with
              updates := t.updates ++ [⟨k.1, k.2, t.others, [], none⟩] }
            t.others.foldl (fun s m => s.sendWork m k.2 k.1 3 1 (updateBytes slot r)) s

/-- OP_TABLE_UPDATE. -/
def execOpTableUpdate (client req : Nat) (s : State) : Out := .next (s.tableUpdate (client, req))

/-! ## Commits (R164 to R166, R168, R172) -/

/-- A commit begins: the snapshot is A with every update admitted so far, those of moving rows among them; later updates go to the delta
buffer. -/
def State.beginCommit (s : State) (k : ReqKey) (slot : Nat) (acks : List Nat) (remote : Bool) : State :=
  ((s.foldDelta slot).updTable slot fun t => { t with commit := some ⟨k.1, k.2, false, 0, [], [], acks, none, remote⟩ }).wr R.tblTstatState slot 3

/-- OP_TABLE_COMMIT: the updates admitted before it take effect first, and the migrations admitted before it start first (R165, R172). -/
def State.tableCommit (s : State) (k : ReqKey) : State := s.onReq k 0x12 fun r =>
  let slot := r.inl 0 1
  match s.table? slot with
  | none => s.endReq k stState 0 0
  | some t =>
    let waits := s.host.reqs.any fun x => !x.ended && decide (x.order < r.order) &&
      ((x.opcode = 0x11 && x.inl 0 1 = slot) || (x.opcode = 0x28 && placesRows x && x.inl 0 4 = t.object))
    if t.commit.any (fun c => (c.client, c.req) = k) ∨ waits then s
    else if !t.updatable ∨ !s.atHome t ∨ t.commit.isSome then s.endReq k stState 0 0
    else if t.slices ≤ 1 then s.beginCommit k slot [] false
    else if t.others.any s.unreachable then s.endReq k stNoResource 0 0
    else (t.others.foldl (fun s m => s.sendWork m k.2 k.1 3 2 (leBytes 1 slot)) s).beginCommit k slot t.others false

/-- OP_TABLE_COMMIT. -/
def execOpTableCommit (client req : Nat) (s : State) : Out := .next (s.tableCommit (client, req))

/-- n / d rounded to the nearest integer, ties to even, for d > 0. -/
def divRne (n : Int) (d : Nat) : Int :=
  let m := n.natAbs
  let q := m / d
  let r := m % d
  let q := if 2 * r < d then q else if d < 2 * r then q + 1 else q + q % 2
  if n < 0 then -(q : Int) else q

/-- fp16_rne_sat of R164. -/
def fp16Rne (x : Num) : Nat := fmtFP16.encodeSat x

/-- fp16_up_sat(x / q) of R164: the least FP16 code whose value times q is at least x, at most 65,504; `bits` code bits are left to
choose. -/
def fp16Up (bits : Nat) (x : Num) (q code : Nat) : Nat :=
  match bits with
  | 0 => code
  | n + 1 =>
    -- the greatest code whose value times q stays below x, bit by bit, then one more
    let c := code + 2 ^ n
    fp16Up n x q (if ((fmtFP16.decode (c - 1)).mul (Num.ofInt q 0)).lt x then c else code)

/-- The quotient of two finite values with the divisor positive, rounded to the nearest integer, ties to even. -/
def numDivRne (x y : Num) : Int :=
  match x, y with
  | .fin a m e, .fin _ k f =>
    let l := min e f
    let n : Int := shl m (e - l)
    divRne (if a then -n else n) (shl k (f - l))
  | _, _ => 0

/-- requantize_row of R164: SCALE, OFFSET, codes and how many were clipped. -/
def requantize (frac qmax : Nat) (a : List Int) : Nat × Nat × List Nat × Nat :=
  let v (i : Int) : Num := Num.ofInt i (-(frac : Int))
  let lo := a.foldl min (a.headD 0)
  let hi := a.foldl max (a.headD 0)
  let offset := fp16Rne (v lo)
  let off := fmtFP16.decode offset
  let span := (v hi).add off.neg
  if !(Num.ofInt 0 0).lt span then (0, offset, List.replicate a.length 0, 0)
  else
    let scale := Nat.min (fp16Up 15 span qmax 0) 0x7BFF
    let s := fmtFP16.decode scale
    let cs := a.map fun i => numDivRne ((v i).add off.neg) s
    (scale, offset, cs.map fun c => (max 0 (min c (qmax : Int))).toNat, (cs.filter fun c => decide (c < 0) || decide ((qmax : Int) < c)).length)

/-- The bytes of a row copy (R155). -/
def rowBytes (t : Table) (scale offset : Nat) (codes : List Nat) : List Byte :=
  let body := if t.bits = 8 then codes.flatMap (leBytes 1)
    else (chunks 2 codes).flatMap fun c => leBytes 1 (c.headD 0 % 16 + 16 * (c.getD 1 0 % 16))
  padTo t.stride (leBytes 2 scale ++ leBytes 2 offset ++ body)

/-- Writes a row copy where its tier and slot say it lies; words with `bad` bytes are written poisoned, on flash their sector. Beside the state the kind of
the fault that stops it, else zero: a granule is another partition's or withdrawn (R227, R230), or a host write is not sent (R301). -/
def State.rowWrite (s : State) (c : Nat) (t : Table) (o : Obj) (copy r tier slot : Nat) (bs : List Byte) (bad : List Bool) : State × Nat :=
  match tier with
  | 0 =>
    let a := t.copyAddr copy r slot
    if s.ownsRange t.part a bs.length then (s.writeDevBad a bs bad, 0) else (s, 0x002)
  | 1 =>
    let y := s.hostPut c o.placer (hostExtents o.places) (2 * t.stride * slot + copy * t.stride) bs bad
    (y.1, if y.2 then 0 else 0x0C2)
  | _ =>
    let p := tailPlace t.stride slot
    let b := 4096 * p.1 + p.2 + copy * t.stride
    let ps := flashParts o.places
    ((List.range (ceilDiv (b % 4096 + bs.length) 4096)).foldl (fun s i =>
      let lsn := flashLsn ps (b / 4096 + i)
      let unit := (List.range 16).map fun j => (s.flashSector (16 * (lsn / 16) + j)).getD (s.newSector t.part (16 * (lsn / 16) + j) [] false)
      let first := if i = 0 then b % 4096 else 0
      let from_ := if i = 0 then 0 else 4096 * i - b % 4096
      let n := Nat.min (4096 - first) (bs.length - from_)
      let old := unit.getD (lsn % 16) (zeroSector lsn t.part)
      let unit := unit.set (lsn % 16) { old with
        poison := old.poison || ((bad.drop from_).take n).any id
        data := let d := padTo 4096 ((s.flashSector lsn).map (·.data) |>.getD [])
                d.take first ++ (bs.drop from_).take n ++ d.drop (first + n) }
      s.flashIssue (lsn / 16) false unit) s, 0)

/-- A row's accumulators as read: their values, which of them are poisoned, and what stopped the read, as RowRead has it. -/
structure AccRead where
  vals : List Int
  bad : List Bool
  stop : Nat
  deriving DecidableEq, Repr

/-- 32-bit values at a device address. -/
def State.readInts (s : State) (t : Table) (a : Nat) : State × AccRead :=
  if !s.ownsRange t.part a (4 * t.d) then (s, ⟨[], [], 3⟩)
  else
    let y := s.readUnit a (4 * t.d) hubMaster
    if y.2.2 = 2 then (y.1, ⟨[], [], 2⟩)
    else (y.1, ⟨(words4 y.2.1).map (signedOf 32), (chunks 4 (s.badBytes a (4 * t.d))).map fun w => w.any id, 0⟩)

/-- The accumulators of a row that is not a tail row. -/
def State.rowAcc (s : State) (t : Table) (r : Nat) : State × AccRead := s.readInts t (t.accAddr r 0)

/-- The residuals of a tail row: zero where the store has no entry (R169). -/
def State.rowRes (s : State) (t : Table) (r : Nat) : State × AccRead :=
  match t.residAt.find? fun (e : Nat × Nat) => e.2 = r with
  | none => (s, ⟨(aget t.resid r).getD (List.replicate t.d 0), List.replicate t.d (decide (r ∈ t.residPoison)), 0⟩)
  | some e =>
    let y := s.readInts t (t.residBase + t.residSize * e.1 + 4)
    (y.1, { y.2 with vals := (aget t.resid r).getD (List.replicate t.d 0) })

/-- The values of a row copy in accumulator units. -/
def fixedRow (t : Table) (bs : List Byte) : List Int := (rowValues t.bits t.d bs).map (fixedOf t.frac)

/-- The A of a tail row from its row copy and its residuals: fixed(value) + RES. -/
def tailAcc (t : Table) (x : RowRead) (res : AccRead) : AccRead :=
  ⟨List.zipWith (fun a b => wrap32 (a + b)) (fixedRow t x.bytes) res.vals, List.zipWith (· || ·) (rowPoison t.bits t.d x.bad) res.bad,
    Nat.max x.stop res.stop⟩

/-- The row's logical A (R162, R169). -/
def State.logicalA (s : State) (c : Nat) (need : HostNeed) (t : Table) (o : Obj) (r : Nat) : State × AccRead :=
  if t.isTail r then
    let m := t.rowMap r
    let x := s.rowRead c need t o t.cur r m.tier m.slot hubMaster
    if x.2.stop ≠ 0 then (x.1, ⟨[], [], x.2.stop⟩)
    else
      let y := x.1.rowRes t r
      (y.1, tailAcc t x.2 y.2)
  else s.rowAcc t r

/-- What a commit has made of the rows so far; `stop`: 1 a poisoned accumulator, 2 to 4 as RowRead has them, 5 a host write that is not sent. -/
structure Requant where
  s : State
  clipped : Nat
  resid : Sparse (List Int)
  rows : List Byte
  stop : Nat

/-- Requantizes one row into the copy CUR does not name (R164, R165). -/
def Requant.row (x : Requant) (k : ReqKey) (t : Table) (o : Obj) (r : Nat) : Requant :=
  if x.stop ≠ 0 then x
  else
    let y := x.s.logicalA k.1 (.request k.1 k.2) t o r
    if y.2.stop ≠ 0 then { x with s := y.1, stop := y.2.stop }
    else if y.2.bad.any id then { x with s := y.1, stop := 1 }
    else
      let q := requantize t.frac (2 ^ t.bits - 1) y.2.vals
      let bs := rowBytes t q.1 q.2.1 q.2.2.1
      let m := t.rowMap r
      let res := List.zipWith (fun a b => wrap32 (a - b)) y.2.vals (fixedRow t bs)
      let z := y.1.rowWrite k.1 t o (1 - t.cur) r (if t.tiered then m.tier else 0) m.slot bs []
      if z.2 ≠ 0 then { x with s := z.1, stop := if z.2 = 0x0C2 then 5 else 3 }
      else { x with
        s := z.1
        clipped := x.clipped + q.2.2.2
        resid := if t.isTail r ∧ res.any (· ≠ 0) then aput x.resid r res else x.resid
        rows := x.rows ++ bs }

/-- Are the host rows a commit must read all here? Those that are not are asked for. -/
def State.hostRowsReady (s : State) (k : ReqKey) (t : Table) (o : Obj) : State × Bool :=
  (t.map.filter fun (e : Nat × RowMap) => t.tiered && e.2.tier = 1).foldl (fun (x : State × Bool) e =>
    let y := x.1.hostRead o.placer o.places (.request k.1 k.2) (2 * t.stride * e.2.slot + t.cur * t.stride) t.stride
    (y.1, x.2 && y.2.isSome)) (s, true)

/-- T_F is set and sent to every holder; one that no route reaches ends the commit instead (R168). -/
def State.setFlipTime (s : State) (slot : Nat) : State :=
  match s.table? slot with
  | none => s
  | some t => match t.commit with
    | none => s
    | some c =>
      if c.remote ∨ t.slices ≤ 1 ∨ !c.staged ∨ !c.acks.isEmpty ∨ c.tf.isSome then s
      else if t.others.any s.unreachable then s.failCommit slot stNoResource
      else
        let tf := s.now + 1000 * s.rd R.tblCtlFlipUs 0
        let s := t.others.foldl (fun s m => s.sendWork m c.req c.client 3 4 (leBytes 1 slot ++ leBytes 8 tf)) s
        s.updTable slot fun t => { t with commit := some { c with tf := some tf } }

/-- TABLE_COMMIT_REQUANTIZE: once no row moves and the spare copy serves no lookup, every row is requantized into it. A poisoned
accumulator stops the commit, and so do a row outside the partition's granules and residuals that the store has no room for (DESIGN CHOICE, log entry 76). A holder then acknowledges; HOME sets the flip time when all have. -/
def State.requantizeTable (s : State) (slot : Nat) : State :=
  match s.table? slot with
  | none => s
  | some t => match t.commit, s.obj? t.object with
    | some c, some o =>
      let k : ReqKey := (c.client, c.req)
      if c.staged ∨ t.moving ≠ 0 ∨ t.spareBusy then s
      else
        let h := s.hostRowsReady k t o
        if !h.2 then h.1
        else
          let x := (List.range t.rows).foldl (fun (x : Requant) r => x.row k t o r) ⟨h.1, 0, [], [], 0⟩
          let unit := (s.unitsFor 0 t.part).headD 0
          let held := { t with resid := x.resid }.residRows
          if x.stop = 1 then (x.s.raise 0x044 (unitSiteOf unit) (0x480 + unit) 0 1 0).failCommit slot stPoison
          else if x.stop = 3 then (x.s.raise 0x002 (unitSiteOf unit) (0x480 + unit) 0 1 0).failCommit slot stContextFault
          else if x.stop = 5 then (x.s.raise 0x0C2 (hubSite 5 14) (s.fnOf o.placer) 0 2 0).failCommit slot stContextFault
          else if x.stop ≠ 0 then x.s
          else if t.residCap < held.length ∧ t.tiered then x.s.failCommit slot stNoResource
          else
            let s := x.s.updTable slot fun t => { t with commit := some { c with
              staged := true, clipped := x.clipped, residuals := x.resid, rowsDigest := digest256 x.rows } }
            if c.remote then
              (match s.originOf k with
               | some y => s.sendWork y.src y.req y.client 3 3 (leBytes 1 slot)
               | none => s)
            else s.setFlipTime slot
    | _, _ => s

/-- TABLE_COMMIT_REQUANTIZE. -/
def execTableCommitRequantize (table : Nat) (s : State) : Out := .next (s.requantizeTable table)

/-- The flip (R165, R166): EPOCH and CUR, the digest chain, residuals, the delta buffer, and the completion. An old epoch that no lookup
has pinned ends at once; a split table keeps it for KEEP_MS. -/
def State.flipTable (s : State) (slot : Nat) : State :=
  match s.table? slot with
  | none => s
  | some t => match t.commit with
    | none => s
    | some c =>
      let e := (t.epoch + 1) % 2 ^ 32
      let d := digest256 (t.digest ++ c.rowsDigest)
      let keep := t.digests.filter fun x => decide (1 < t.slices) || t.pins.any fun p => p.2 = x.1
      let s := s.updTable slot fun t => { t with
        cur := 1 - t.cur, digest := d, digests := keep ++ [(e, d)], commit := none
        flipped := aput t.flipped t.epoch s.now }
      let s := if t.tiered then s.putResid slot c.residuals [] else s
      let s := ((s.foldDelta slot).wr R.tblTstatEpoch slot e).wr R.tblTstatState slot 2
      let s := (s.wr R.tblTstatClipped slot (Nat.min c.clipped 65535)).mirrorTable slot
      s.endReq (c.client, c.req) stOk e c.clipped

/-- TABLE_FLIP. -/
def execTableFlip (table : Nat) (s : State) : Out :=
  .next (match (s.table? table).bind fun t => t.commit.map fun c => (t, c) with
    | some (t, c) => if c.staged ∧ t.slices ≤ 1 then s.flipTable table else s
    | none => s)

/-! ## Split tables (R168) -/

/-- SPLIT_COMMIT_ACK: HOME takes a holder's acknowledgement; after the last it sets T_F. -/
def State.splitAck (s : State) (slot holder : Nat) : State :=
  let isAck (m : FabMsg) : Bool := m.src = holder && m.kind = 4 && workKind m = 3 && workAsk m = 3 &&
    fieldLe (workBytes (m.payload.drop 1)) 0 1 = slot
  match s.table? slot, s.fab.inbox.any fun e => isAck e.2 with
  | some t, true =>
    let s := s.takeIf isAck
    (match t.commit with
     | none => s
     | some c => (s.updTable slot fun t => { t with commit := some { c with acks := c.acks.filter (· ≠ holder) } }).setFlipTime slot)
  | _, _ => s

/-- SPLIT_COMMIT_ACK. -/
def execSplitCommitAck (table holder : Nat) (s : State) : Out := .next (s.splitAck table holder)

/-- TABLE_FLIP_AT_TF. -/
def execTableFlipAtTf (table : Nat) (s : State) : Out :=
  .next (match ((s.table? table).bind fun t => t.commit).bind fun c => if c.staged then c.tf else none with
    | some tf => if tf ≤ s.now then s.flipTable table else s
    | none => s)

/-- Does a lookup's epoch show that this holder has missed T_F: HOME has flipped to it, and no T_F came for the copy staged here (R168)? -/
def Table.missed (t : Table) (e : Nat) : Bool :=
  decide (e = (t.epoch + 1) % 2 ^ 32) && t.commit.any fun c => c.remote && c.staged && c.tf.isNone

/-- A holder is asked for its slice of a lookup at an epoch. -/
def State.sliceLookup (s : State) (m : FabMsg) (b : List Byte) : State :=
  let e := fieldLe b 0 4
  let desc := slice b 4 64
  let param := slice b 68 32
  let slot := fieldLe desc 48 1
  match s.tableAt slot e with
  | none =>
    if (s.table? slot).any fun t => t.missed e then
      (s.updTable slot fun t => { t with missedTf := true }).sendError m.src m.request stState
    else s.sendError m.src m.request stVersionRetired
  | some t =>
    if t.missedTf then s.sendError m.src m.request stState
    else
      let y := s.beginRemote m.src (workClient m) m.request desc param t.part
      let s := y.1
      let s := s.putTables (s.tables.map fun (x : Nat × Table) => if x.2 = t then (x.1, { t with pins := t.pins ++ [(y.2, e)] }) else x)
      let bags := fieldLe param 0 4 + 1
      let os := words4 (slice b 100 (4 * (bags + 1)))
      let total := os.getLastD 0 - os.headD 0
      let idxs := words4 (slice b (100 + 4 * (bags + 1)) (4 * total))
      let wts := if bitOf (fieldLe desc 49 1) 0 then words2 (slice b (100 + 4 * (bags + 1) + 4 * total) (2 * total)) else []
      s.beginLookup y.2 slot e t bags os idxs wts

/-- The slice records of a lookup's answer. -/
def sliceRecords (fuel : Nat) (b : List Byte) : List (List Byte) :=
  match fuel with
  | 0 => []
  | f + 1 => if b.length < 4 then [] else
    let n := fieldLe b 0 4
    slice b 4 n :: sliceRecords f (b.drop (4 + n))

/-- A holder's slices of a lookup arrive. -/
def State.takeSlices (s : State) (k : ReqKey) (b : List Byte) : State :=
  let rs := sliceRecords (fieldLe b 0 4) (b.drop 4)
  let put (l : Lookup) : Lookup := { l with remoteSlices := l.remoteSlices ++ rs.map fun x => (fieldLe x 0 4, fieldLe x 12 4, x) }
  s.putLookups (modFirst (fun l => decide ((l.client, l.req) = k)) put s.lookups)

/-- A holder takes a forwarded update, or takes it out of its slice again, and answers whether it has (R168). -/
def State.takeUpdate (s : State) (m : FabMsg) (b : List Byte) (undo : Bool) : State :=
  let slot := fieldLe b 0 1
  match s.table? slot with
  | none => s.sendError m.src m.request stState
  | some t =>
    let ds := rowDeltas t t.slice (fieldLe b 1 1 = 1) (updEntries (b.drop 2))
    let rows := ds.map fun (e : Nat × List Int) => e.1
    if undo then s.undoDeltas slot ds
    else match s.updateStop t rows with
      | some st => s.sendError m.src m.request st
      | none =>
        let y := s.updateReads t rows
        if y.2 = 2 then y.1.sendError m.src m.request stPartitionReset
        else (y.1.applyDeltas slot ds).sendWork m.src m.request (workClient m) 3 8 (leBytes 1 slot)

/-- A holder begins a forwarded commit: its request names the table as HOME's does. -/
def State.takeCommit (s : State) (m : FabMsg) (slot : Nat) : State :=
  match s.table? slot with
  | none => s.sendError m.src m.request stState
  | some t =>
    if t.commit.isSome ∨ !t.updatable ∨ s.replaces slot then s.sendError m.src m.request stState
    else
      let y := s.beginRemote m.src (workClient m) m.request (0x12#8 :: List.replicate 47 0 ++ leBytes 16 slot) [] t.part
      y.1.beginCommit y.2 slot [] true

/-- What HOME forwards goes on one ordered stream per holder: updates (1, 7) and commits (2, 4, 5). -/
def onTableStream (src : Nat) (m : FabMsg) : Bool := m.src = src && m.kind = 4 && workKind m = 3 && workAsk m ∈ [1, 2, 4, 5, 7]

/-- Does a message of that stream wait: behind an earlier one of it, or, a commit, for migrations admitted here before it (R168, R172; DESIGN CHOICE, log
entry 90)? -/
def State.streamHolds (s : State) (m : FabMsg) : Bool :=
  onTableStream m.src m &&
    (((s.fab.inbox.find? fun e => onTableStream m.src e.2).any fun e => e.2 ≠ m) ||
      (workAsk m = 2 && s.host.reqs.any fun x => !x.ended && x.opcode = 0x28 && placesRows x &&
        ((s.table? (fieldLe (workBytes (m.payload.drop 1)) 0 1)).any fun t => x.inl 0 4 = t.object)))

/-- SPLIT_TABLE_FORWARD: what one holder of a split table asks of another: its slice of a lookup (0), an update (1), a commit (2), a flip at
T_F (4), to give a commit up (5), to take an update out again (7); or its slices of a lookup (6), or that it has taken an update (8). Acknowledgements
of commits (3) are SPLIT_COMMIT_ACK's. -/
def State.splitForward (s : State) (m : FabMsg) : State :=
  if m.kind ≠ 4 ∨ workKind m ≠ 3 ∨ workAsk m = 3 ∨ s.streamHolds m then s
  else match s.takeWork m with
  | (s, none) => s
  | (s, some b) =>
    let slot := fieldLe b 0 1
    match workAsk m with
    | 0 => s.sliceLookup m b
    | 1 => s.takeUpdate m b false
    | 2 => s.takeCommit m slot
    | 4 =>
      let tf := fieldLe b 1 8
      (match (s.table? slot).bind fun t => t.commit with
       | none => s
       | some c =>
         if tf < s.now then ((s.updTable slot fun t => { t with missedTf := true }).discardCommit slot).endReq (c.client, c.req) stOk 0 0
         else s.updTable slot fun t => { t with commit := some { c with tf := some tf } })
    | 5 => (match (s.table? slot).bind fun t => t.commit with
      | none => s
      | some c => if c.remote then (s.discardCommit slot).endReq (c.client, c.req) stOk 0 0 else s)
    | 7 => s.takeUpdate m b true
    | 8 => s.updateAnswer (workClient m, m.request) m.src none
    | _ => (s.chargeFab (workClient m, m.request) false (3 + (b.length + 15) / 16)).takeSlices (workClient m, m.request) b

/-- SPLIT_TABLE_FORWARD. -/
def execSplitTableForward (msg : FabMsg) (s : State) : Out := .next (s.splitForward msg)

/-! ## What drains (R165, R167, R168, R171) -/

/-- Has KEEP_MS passed since the flip that ended an epoch? -/
def State.keepOver (s : State) (t : Table) (e : Nat) : Bool :=
  decide (t.slices ≤ 1) || (match aget t.flipped e with
    | some f => decide (f + 1000000 * s.rd R.tblCtlKeepMs 0 ≤ s.now)
    | none => true)

/-- An epoch that no lookup has pinned is no longer served. -/
def State.freeEpoch (s : State) (slot e : Nat) : State :=
  s.updTable slot fun t =>
    if e = t.epoch ∨ (t.pins.any fun p => p.2 = e) ∨ !s.keepOver t e ∨ !(t.digests.any fun d => d.1 = e) then t
    else { t with
      digests := t.digests.filter fun d => d.1 ≠ e
      flipped := adel t.flipped e
      freedEpochs := t.freedEpochs ++ [e] }

/-- The versions of a slot's table that a replacement has superseded serve an epoch as long as a lookup has it pinned, or KEEP_MS has not passed for a
split table; the memory of one that serves none is freed (R167, R168). -/
def State.dropVersions (s : State) (slot : Nat) : State :=
  let old := (s.versions slot).filter fun x => x.1 ≠ slot
  let serves (t : Table) (d : Nat × List Byte) : Bool := (t.pins.any fun p => p.2 = d.1) || !s.keepOver t d.1
  let gone := old.filter fun x => !x.2.digests.any (serves x.2)
  let s := s.putTables (s.tables.map fun (x : Nat × Table) => if x ∈ old then (x.1, { x.2 with digests := x.2.digests.filter (serves x.2) }) else x)
  gone.foldl (fun s x =>
    let s := match s.obj? x.1 with
      | some o => s.freeParts o.places
      | none => s
    ((s.putTables (adel s.tables x.1)).putObjs (adel s.objs x.1))) s

/-- TABLE_PIN_DRAIN: an epoch whose last lookup has drained is no longer served, a superseded version's memory is freed, and so are slots
that rows have left and no lookup still reads. -/
def State.tableDrain (s : State) (slot e : Nat) : State :=
  ((s.freeEpoch slot e).dropVersions slot).updTable slot fun t =>
    let left := t.oldSlots.map fun x => (x.1, x.2.1, x.2.2.1, x.2.2.2.filter fun k => t.pins.any fun p => p.1 = k)
    { t with oldSlots := left.filter fun x => !x.2.2.2.isEmpty }

/-- TABLE_PIN_DRAIN. -/
def execTablePinDrain (table epoch : Nat) (s : State) : Out := .next (s.tableDrain table epoch)

/-- KEEP_MS_EXPIRE: a split table's old epoch is freed once KEEP_MS has passed and no lookup here needs it. -/
def execKeepMsExpire (table epoch : Nat) (s : State) : Out := .next ((s.freeEpoch table epoch).dropVersions table)

/-! ## Migration (Table TABL-5) -/

/-- The need of the hub's own host read for a row that moves: no request has its key. -/
def migNeed (slot r : Nat) : HostNeed := .request (2 ^ 20 + slot) r

/-- The row copies that move: that of the current epoch, and the other where another epoch is still served (R168). -/
def State.readCopies (s : State) (slot r : Nat) (t : Table) (o : Obj) : State × List (Nat × RowRead) :=
  let m := t.rowMap r
  (t.cur :: if t.spareBusy then [1 - t.cur] else []).foldl (fun (x : State × List (Nat × RowRead)) copy =>
    if x.2.any fun e => decide (e.2.stop = 2 ∨ e.2.stop = 3) then x
    else
      let y := x.1.rowRead o.placer (migNeed slot r) t o copy r m.tier m.slot hubMaster
      (y.1, x.2 ++ [(copy, y.2)])) (s, [])

/-- Writes the copies at the row's new place, poison and all; and the kind of the fault that stops them, else zero. -/
def State.writeCopies (s : State) (r : Nat) (t : Table) (o : Obj) (xs : List (Nat × RowRead)) : State × Nat :=
  let m := t.rowMap r
  xs.foldl (fun (x : State × Nat) e =>
    if x.2 ≠ 0 then x else x.1.rowWrite o.placer t o e.1 r m.newTier m.newSlot (padTo t.stride e.2.bytes) e.2.bad) (s, 0)

/-- The deltas of a row that moves enter A (Table TABL-5); behind a commit they stay in the delta buffer. -/
def State.foldRow (s : State) (slot r : Nat) : State :=
  match s.table? slot with
  | none => s
  | some t => match aget t.delta r with
    | none => s
    | some ds => if t.commit.isSome then s else (s.addRow slot t r ds).putDelta slot (adel t.delta r)

/-- A move ends: the row map's entry takes its new value in one write. -/
def State.endMove (s : State) (slot r : Nat) (m : RowMap) : State :=
  ((s.updTable slot fun t => { t with map := aput t.map r m }).wr R.tblTstatMoving slot (s.rd R.tblTstatMoving slot - 1)).mirrorRow slot r

/-- A move that meets a granule which is not the partition's, or a host write that is not sent: the fault is reported and the row stays where it is (DESIGN
CHOICE, log entry 76). -/
def State.failMove (s : State) (slot r kind : Nat) : State :=
  match s.table? slot with
  | none => s
  | some t =>
    let m := t.rowMap r
    ((s.raise kind (hubSite 5 14) hubMaster 0 1 0).foldRow slot r).endMove slot r ⟨m.tier, m.slot, false, 0, 0⟩

/-- A row takes over its new place: lookups that read the old slot keep it, A or RES takes the value the move keeps (Table TABL-5), poison and all. -/
def State.takeOver (s : State) (slot r : Nat) (x : RowRead) (a : AccRead) : State :=
  match s.table? slot with
  | none => s
  | some t =>
    let m := t.rowMap r
    let readers := (t.pins.map (·.1)).eraseDups
    let s := (s.updTable slot fun t => { t with
      oldSlots := if readers.isEmpty then t.oldSlots else t.oldSlots ++ [(r, m.tier, m.slot, readers)] }).endMove slot r
        ⟨m.newTier, m.newSlot, false, 0, 0⟩
    if !t.updatable then s
    else if m.newTier = 0 then
      let s := s.putResid slot (adel t.resid r) t.residPoison
      let t := (s.table? slot).getD t
      s.writeDevBad (t.accAddr r 0) (intBytes a.vals) (a.bad.flatMap fun b => List.replicate 4 b)
    else if m.tier ≠ 0 then s
    else
      let bad := a.bad.any id || x.bad.any id
      let res := List.zipWith (fun v f => wrap32 (v - f)) a.vals (fixedRow t x.bytes)
      if bad ∨ res.any (· ≠ 0) then s.putResid slot (aput t.resid r res) (if bad then r :: t.residPoison else t.residPoison)
      else s.putResid slot (adel t.resid r) t.residPoison

/-- MIGRATION_COPY_DONE: the copy has landed; the row's deltas enter A at its new home, which takes over in one write. -/
def State.migrated (s : State) (slot r : Nat) : State :=
  match s.table? slot with
  | none => s
  | some t => match s.obj? t.object with
    | none => s
    | some o =>
      if !(t.rowMap r).moving then s
      else
        let y := s.readCopies slot r t o
        if y.2.any fun e => e.2.stop = 3 then y.1.failMove slot r 0x002
        else if y.2.any fun e => e.2.stop ≠ 0 then y.1
        else
          let s := y.1.updHost fun h => { h with rx := h.rx.filter fun g => g.need ≠ migNeed slot r }
          let w := s.writeCopies r t o y.2
          if w.2 ≠ 0 then w.1.failMove slot r w.2
          else
            let s := w.1.foldRow slot r
            let t := (s.table? slot).getD t
            let x := ((y.2.head?).map fun e => e.2).getD ⟨[], [], 0⟩
            let a := if !t.updatable then (s, ⟨[], [], 0⟩) else if t.isTail r then (let z := s.rowRes t r; (z.1, tailAcc t x z.2)) else s.rowAcc t r
            if a.2.stop = 3 then a.1.failMove slot r 0x002 else if a.2.stop ≠ 0 then a.1 else a.1.takeOver slot r x a.2

/-- MIGRATION_COPY_DONE. -/
def execMigrationCopyDone (table row : Nat) (s : State) : Out := .next (s.migrated table row)

end Sys2Proof.Machine
end

