-- ==== Sys2Proof/Machine/Text.lean ====
section
/-! DEFINITION. Tokens and the engines of the hub (09_text_and_packing.md R175 to R181, 15_tenancy.md R326): how a task finds its engine,
OP_TOKENIZE and OP_DETOKENIZE. -/

namespace Sys2Proof.Machine

/-! ## Engines (R326) -/

/-- Does an engine run a task? -/
def State.engineBusy (s : State) (k : EngKind) (i : Nat) : Bool := match k with
  | .medlar => s.probes.any fun m => m.engine = some i
  | _ => s.tasks.any fun t => t.kind = k && t.engine = some i

/-- BUSY of an engine. -/
def State.setBusy (s : State) (k : EngKind) (i v : Nat) : State := match k with
  | .zest => s.wr R.zstEstatBusy i v
  | .punnet => s.wr R.punEstatBusy i v
  | .medlar => s

/-- A task joins its queue. -/
def State.addTask (s : State) (t : Task) : State := s.putTasks (s.tasks ++ [t])

/-- Must a Zest task wait for an earlier command of its stream (R180)? -/
def State.streamWaits (s : State) (t : Task) : Bool := match t.stream with
  | none => false
  | some z => s.streamTaken z t.order

/-- The tasks of a kind and partition that wait for an engine and may run, in order of admission. -/
def State.waitingTasks (s : State) (k : EngKind) (p : Nat) : List Task :=
  sortBy (fun a b => decide (a.order < b.order)) (s.tasks.filter fun t => t.kind = k && t.part = p && t.engine.isNone && !s.streamWaits t)

/-! ## UTF-8 (R176) -/

/-- Bytes of the sequence a lead byte opens; 0 where it opens none. -/
def utf8Len (b : Nat) : Nat :=
  if b < 0x80 then 1 else if 0xC2 ≤ b ∧ b ≤ 0xDF then 2 else if 0xE0 ≤ b ∧ b ≤ 0xEF then 3 else if 0xF0 ≤ b ∧ b ≤ 0xF4 then 4 else 0

/-- Is a byte a valid continuation of an incomplete sequence? -/
def utf8Cont (p : List Byte) (b : Nat) : Bool :=
  match p with
  | [x] =>
    let l := if x = 0xE0#8 then 0xA0 else if x = 0xF0#8 then 0x90 else 0x80
    let h := if x = 0xED#8 then 0x9F else if x = 0xF4#8 then 0x8F else 0xBF
    decide (l ≤ b) && decide (b ≤ h)
  | _ => decide (0x80 ≤ b) && decide (b ≤ 0xBF)

/-- The code point of a well-formed sequence. -/
def codePoint (bs : List Byte) : Nat := match bs with
  | [a] => a.toNat
  | [a, b] => a.toNat % 32 * 64 + b.toNat % 64
  | [a, b, c] => a.toNat % 16 * 4096 + b.toNat % 64 * 64 + c.toNat % 64
  | [a, b, c, d] => a.toNat % 8 * 262144 + b.toNat % 64 * 4096 + c.toNat % 64 * 64 + d.toNat % 64
  | _ => 0

/-! ## Tokenization (R177 to R179) -/

/-- Class of a code point: that of the last range at or below it. -/
def Vocab.classOf (v : Vocab) (c : Nat) : Nat := ((v.ranges.filter fun e => decide (e.1 ≤ c)).getLast?.map (·.2)).getD 0

/-- The best merge of adjacent symbols: rank, position, result; the leftmost of equal ranks. -/
def bestMerge (merges : List (Nat × Nat × Nat)) (syms : List Nat) : Option (Nat × Nat × Nat) :=
  (List.range (syms.length - 1)).foldl (fun best i =>
    match merges.findIdx? fun m => m.1 = syms.getD i 0 && m.2.1 = syms.getD (i + 1) 0 with
    | none => best
    | some r => match best with
      | some (b, _, _) => if r < b then some (r, i, (merges.getD r (0, 0, 0)).2.2) else best
      | none => some (r, i, (merges.getD r (0, 0, 0)).2.2)) none

/-- Ranked merges until none applies; `fuel` bounds their number. -/
def mergeSyms (fuel : Nat) (merges : List (Nat × Nat × Nat)) (syms : List Nat) : List Nat :=
  match fuel with
  | 0 => syms
  | f + 1 => match bestMerge merges syms with
    | none => syms
    | some (_, i, res) => mergeSyms f merges (syms.take i ++ res :: syms.drop (i + 2))

/-- bpe_piece of R178. -/
def Vocab.bpe (v : Vocab) (piece : List Byte) : List Nat := mergeSyms piece.length v.merges (piece.map fun b => v.byteBase + b.toNat)

/-- A stream as it opens. -/
def ZStream.fresh (slot : Nat) (detok : Bool) : ZStream := ⟨slot, detok, [], [], none, 0⟩

/-- A tokenizer between two bytes: the stream and the tokens emitted. -/
structure ZRun where
  st : ZStream
  out : List Nat
  deriving DecidableEq, Repr

/-- The piece held is encoded. -/
def ZRun.flush (v : Vocab) (z : ZRun) : ZRun := ⟨{ z.st with piece := [], pieceClass := none }, z.out ++ v.bpe z.st.piece⟩

/-- Offending bytes become byte tokens, each a piece of its own. -/
def ZRun.offend (v : Vocab) (z : ZRun) (bs : List Byte) : ZRun :=
  let z := z.flush v
  ⟨{ z.st with invalid := z.st.invalid + bs.length }, z.out ++ bs.map fun b => v.byteBase + b.toNat⟩

/-- A complete character joins the piece, or starts the next one (R177). -/
def ZRun.char (v : Vocab) (z : ZRun) (bs : List Byte) : ZRun :=
  let c := v.classOf (codePoint bs)
  let cut : Bool := match z.st.pieceClass with
    | none => false
    | some a => bitOf v.split (16 * a + c) || decide (v.pieceMax < z.st.piece.length + bs.length)
  let z := if cut then z.flush v else z
  { z with st := { z.st with piece := z.st.piece ++ bs, pieceClass := some c, pending := [] } }

/-- A byte that may start a character. -/
def ZRun.start (v : Vocab) (z : ZRun) (b : Byte) : ZRun :=
  match utf8Len b.toNat with
  | 0 => z.offend v [b]
  | 1 => z.char v [b]
  | _ => { z with st := { z.st with pending := [b] } }

/-- One byte of text. -/
def ZRun.byte (v : Vocab) (z : ZRun) (b : Byte) : ZRun :=
  match z.st.pending with
  | [] => z.start v b
  | x :: r =>
    let p := x :: r
    if utf8Cont p b.toNat then
      (if p.length + 1 = utf8Len x.toNat then z.char v (p ++ [b]) else { z with st := { z.st with pending := p ++ [b] } })
    else ({ z with st := { z.st with pending := [] } }.offend v p).start v b

/-- A buffer of text, the stream's last one or not. -/
def tokenize (v : Vocab) (st : ZStream) (bs : List Byte) (last : Bool) : ZRun :=
  let z := bs.foldl (ZRun.byte v) ⟨st, []⟩
  if !last then z
  else
    let p := z.st.pending
    let z := { z with st := { z.st with pending := [] } }
    if p.isEmpty then z.flush v else z.offend v p

/-! ## Detokenization (R181) -/

/-- One byte of a detokenizer's output: what it holds back, and the bytes released. -/
def detokByte (m : List Byte × List Byte) (b : Byte) : List Byte × List Byte :=
  let start (out : List Byte) : List Byte × List Byte := if 1 < utf8Len b.toNat then ([b], out) else ([], out ++ [b])
  match m.1 with
  | [] => start m.2
  | x :: r =>
    let p := x :: r
    if utf8Cont p b.toNat then (if p.length + 1 = utf8Len x.toNat then ([], m.2 ++ p ++ [b]) else (p ++ [b], m.2))
    else start (m.2 ++ p)

/-- The string a token contributes. -/
def Vocab.string (v : Vocab) (skip : Bool) (t : Nat) : List Byte :=
  let e := v.strings.getD t ([], false)
  if skip && e.2 then [] else e.1

/-- Tokens through a detokenizer: the stream after and the bytes released. At the stream's end held bytes are released and counted. -/
def detokenize (v : Vocab) (st : ZStream) (tokens : List Nat) (skip last : Bool) : ZStream × List Byte :=
  let m := (tokens.flatMap (v.string skip)).foldl detokByte (st.pending, [])
  if last then ({ st with pending := [], invalid := st.invalid + m.1.length }, m.2 ++ m.1) else ({ st with pending := m.1 }, m.2)

/-! ## The commands -/

/-- A Zest command joins the queue of its partition. -/
def State.zestCommand (s : State) (k : ReqKey) (op : Nat) : State := s.onReq k op fun r =>
  if r.ran then s
  else match aget s.vocabs (r.inl 0 1) with
    | none => s.endReq k stState 0 0
    | some v =>
      let s := s.updReq k fun r => { r with ran := true, objRefs := [objEntry v.object 0 v.digest] }
      s.addTask ⟨.zest, r.part, k.1, k.2, r.order, some (64 * k.1 + r.inl 1 1), [r.param], none, 0⟩

/-- OP_TOKENIZE. -/
def execOpTokenize (client req : Nat) (s : State) : Out := .next (s.zestCommand (client, req) 0x01)

/-- OP_DETOKENIZE. -/
def execOpDetokenize (client req : Nat) (s : State) : Out := .next (s.zestCommand (client, req) 0x02)

/-- The slot a client's stream is bound to: that of the last command admitted where it leaves the stream open, else of the stream as it
stands; and whether that is a detokenizer's (R180). -/
def State.streamBinding (s : State) (c stream : Nat) : Option (Nat × Bool) :=
  let mine := (s.host.reqs.filter fun r => !r.ended && r.client = c).filterMap fun r => r.streamUse.bind fun u => if u.1 = stream then some u.2 else none
  match mine.getLast? with
  | some u => if u.2.2 then some (u.1, u.2.1) else none
  | none => (aget s.streams (64 * c + stream)).map fun z => (z.slot, z.detok)

/-- A Zest engine has run a command: the output is written, the stream keeps its state or is freed, and the request completes. A stream that is bound
otherwise, because the command that was to free it never ran, rejects it (R180). -/
def State.zestDone (s : State) (e : Nat) (t : Task) (r : Req) (v : Vocab) (z : Nat) : State :=
  let k : ReqKey := (t.client, t.req)
  let cont := bitOf (r.inl 2 1) 0
  let detok := decide (r.opcode = 2)
  let st := (aget s.streams z).getD (ZStream.fresh (r.inl 0 1) detok)
  if (st.slot, st.detok) ≠ (r.inl 0 1, detok) then s.endReq k stState 0 0
  else
  let x := tokenize v st r.param (!cont)
  let y := detokenize v st (words4 r.param) (bitOf (r.inl 2 1) 1) (!cont)
  let after := if detok then y.1 else x.st
  let out := if detok then y.2 else x.out.flatMap (leBytes 4)
  let s := s.zestCount e (if detok then out.length else r.param.length) (after.invalid - st.invalid)
  let s := s.putStreams (if cont then aput s.streams z after else adel s.streams z)
  let s := s.putOut k 0 out
  if detok then s.endReq k stOk out.length after.invalid
  else s.endReq k stOk x.out.length ((if cont then after.pending.length + after.piece.length else 0) + 65536 * Nat.min after.invalid 65535)

end Sys2Proof.Machine
end

