-- ==== Sys2Proof/Machine/Pack.lean ====
section
/-! DEFINITION. Packing and matching (09_text_and_packing.md R182 to R193): selection, pack order, the pack's arrays and records, the Medlar
match, and how engines take tasks and finish them (15_tenancy.md R326). -/

namespace Sys2Proof.Machine

/-! ## Selection and order (R184, R185) -/

/-- A candidate: its index in the rank list, its entry and its passage text record (Table TEXT-2). -/
structure PackCand where
  rank : Nat
  entry : Entry
  doc : Nat
  start : Nat
  len : Nat
  tokens : List Nat
  deriving DecidableEq, Repr

/-- The candidate of an entry and its record; an invalid entry has none. -/
def candOf (rank : Nat) (e : Entry) (rec' : List Byte) : PackCand :=
  ⟨rank, e, fieldLe rec' 8 8, fieldLe rec' 16 4, fieldLe rec' 20 4, words4 ((rec'.drop 32).take (4 * fieldLe rec' 20 4))⟩

/-- Block hashes of a passage: 64 bits of SHAKE256 over each slice of 64 text tokens. -/
def blockHashes (tokens : List Nat) : List Nat := (chunks 64 tokens).map fun c => leNat (shake256 8 (c.flatMap (leBytes 4)))

/-- A selection in progress: kept passages with the tokens placed and whether they were cut, room left, and the counts. -/
structure PackSel where
  kept : List (PackCand × List Nat × Bool)
  room : Nat
  dupHandle : Nat
  dupSpan : Nat
  dupHash : Nat
  empty : Nat
  notFitted : Nat
  stopped : Bool
  deriving DecidableEq, Repr

/-- One candidate in rank order (R184). -/
def selectOne (sep minPart : Nat) (trunc : Bool) (x : PackSel) (c : PackCand) : PackSel :=
  if !c.entry.ok 4 || c.len = 0 then { x with empty := x.empty + 1 }
  else if x.stopped then { x with notFitted := x.notFitted + 1 }
  else if x.kept.any fun k => k.1.entry.handle = c.entry.handle then { x with dupHandle := x.dupHandle + 1 }
  else if x.kept.any fun k => k.1.doc = c.doc && decide (k.1.start < c.start + c.len) && decide (c.start < k.1.start + k.1.len) then
    { x with dupSpan := x.dupSpan + 1 }
  else
    let seen := x.kept.flatMap fun k => blockHashes k.1.tokens
    if (blockHashes c.tokens).all (· ∈ seen) then { x with dupHash := x.dupHash + 1 }
    else if sep + c.len ≤ x.room then { x with kept := x.kept ++ [(c, c.tokens, false)], room := x.room - (sep + c.len) }
    else if trunc && decide (sep + minPart ≤ x.room) then
      { x with kept := x.kept ++ [(c, c.tokens.take (x.room - sep), true)], room := 0, stopped := true }
    else { x with notFitted := x.notFitted + 1, stopped := true }

/-- Candidates in the rank order of R133 on VALUE; entries that are not valid come last. -/
def inRankOrder (cs : List PackCand) : List PackCand :=
  let ok := cs.filter fun c => c.entry.ok 4
  sortBy (fun a b => rankAbove true (a.entry.key 4) (b.entry.key 4) a.entry.handle b.entry.handle) ok ++ cs.filter fun c => !c.entry.ok 4

/-- Pack order: 0 SCORE, 1 DOC, 2 ANCHOR (R185). -/
def packOrder (policy : Nat) (l : List (PackCand × List Nat × Bool)) : List (PackCand × List Nat × Bool) :=
  match policy with
  | 1 => sortBy (fun a b => decide (a.1.doc < b.1.doc) || (a.1.doc = b.1.doc && decide (a.1.start < b.1.start))) l
  | 2 =>
    let at' (p : Nat) := (List.range l.length).filterMap fun i => if i % 2 = p then l[i]? else none
    at' 1 ++ (at' 0).reverse
  | _ => l

/-! ## The pack (R183, R186) -/

/-- A pack: its text tokens with their segments, source map, and the pack record without MATCH_BLOCKS and REQUEST. -/
structure PackOut where
  tokens : List Nat
  segs : List Nat
  sources : List Byte
  head : List Byte
  flags : Nat
  deriving DecidableEq, Repr

/-- Fields of a pack block (Table HOST-11). -/
def pkBudget (b : List Byte) : Nat := fieldLe b 0 4
/-- TRUNC. -/
def pkTrunc (b : List Byte) : Bool := bitOf (fieldLe b 5 1) 0
/-- TREE_EN. -/
def pkTreeEn (b : List Byte) : Bool := bitOf (fieldLe b 5 1) 1
/-- TREE. -/
def pkTree (b : List Byte) : Nat := fieldLe b 6 1
/-- SEP. -/
def pkSep (b : List Byte) : List Nat := (words4 (slice b 64 256)).take (fieldLe b 7 1)
/-- CLOSE. -/
def pkClose (b : List Byte) : List Nat := (words4 (slice b 320 256)).take (fieldLe b 10 1)

/-- The pack block of a request: OP_PACK's parameter block, or its place in a retrieve block. -/
def Req.packBlock (r : Req) : List Byte := if r.opcode = 0x09 then slice r.param 192 576 else padTo 576 r.param

/-- The pack that a pack block and its inputs give: prefix, question, rank entries and their records. -/
def packOf (b : List Byte) (pre question : List Nat) (es : List Entry) (recs : List (List Byte)) : PackOut :=
  let cs := (List.range es.length).map fun i => candOf i (es.getD i (Entry.empty 4)) (recs.getD i [])
  let room := pkBudget b - (pre.length + question.length + (pkClose b).length)
  let x := (inRankOrder cs).foldl (selectOne (pkSep b).length (fieldLe b 8 2) (pkTrunc b)) ⟨[], room, 0, 0, 0, 0, 0, false⟩
  let kept := packOrder (fieldLe b 4 1) x.kept
  let body : List (List Nat) := kept.map fun k => pkSep b ++ k.2.1
  let pos (j : Nat) : Nat := pre.length + ((body.take j).map List.length).foldl (· + ·) 0 + (pkSep b).length
  let tokens := pre ++ body.flatten ++ question ++ pkClose b
  let segs := pre.map (fun _ => 0) ++ ((List.range kept.length).flatMap fun j =>
      (pkSep b).map (fun _ => 3) ++ ((kept[j]?.map fun k => k.2.1).getD []).map fun _ => 16 + j) ++
    question.map (fun _ => 1) ++ (pkClose b).map fun _ => 2
  let source (j : Nat) (k : PackCand × List Nat × Bool) : List Byte :=
    leBytes 8 k.1.entry.handle ++ leBytes 8 k.1.doc ++ leBytes 4 (pos j) ++ leBytes 4 k.2.1.length ++ leBytes 4 k.1.start ++
      leBytes 2 k.1.rank ++ leBytes 1 (b2n k.2.2) ++ [0]
  let cut := kept.any fun k => k.2.2
  { tokens := tokens
    segs := segs
    sources := (List.range kept.length).flatMap fun j => (kept[j]?.map (source j)).getD []
    head := leBytes 4 tokens.length ++ leBytes 4 pre.length ++ leBytes 2 es.length ++ leBytes 2 kept.length ++ leBytes 2 x.dupHandle ++
      leBytes 2 x.dupSpan ++ leBytes 2 x.dupHash ++ leBytes 2 x.empty ++ leBytes 2 x.notFitted ++ leBytes 1 (fieldLe b 4 1)
    flags := b2n cut + 2 * b2n (pkTreeEn b) }

/-- The pack record (Table TEXT-5). -/
def PackOut.record (x : PackOut) (matched req : Nat) : List Byte :=
  x.head ++ leBytes 1 x.flags ++ leBytes 4 matched ++ leBytes 4 req ++ List.replicate 32 0

/-- The inputs of a pack as a Punnet task holds them: prefix, question, the rank list with its header, and a record for each entry. -/
def packInputs (pre question list : List Byte) (recs : List (List Byte)) : List (List Byte) := pre :: question :: list :: recs

/-- The pack of a Punnet task. -/
def Task.pack (t : Task) (r : Req) : PackOut :=
  packOf r.packBlock (words4 (t.input.getD 0 [])) (words4 (t.input.getD 1 [])) (listEntries (t.input.getD 2 [])) (t.input.drop 3)

/-- The passage records that a pack reads: those of the valid entries. -/
def recordAddrs (list addrs : List Byte) : List (Option Nat) :=
  (List.range (listK list)).map fun i => if (Entry.ofBytes (slice list (32 + 16 * i) 16)).ok 4 then some (fieldLe addrs (8 * i) 8) else none

/-- OP_PACK: the fixed parts are held against BUDGET from their lengths alone (R184); then the inputs are read and a Punnet task is
queued. -/
def State.pack (s : State) (k : ReqKey) : State := s.onReq k 0x08 fun r =>
  let b := r.packBlock
  let unit := match s.engines .punnet r.part with
    | e :: _ => (engineSite .punnet e, engineMaster .punnet e)
    | [] => (hubSite 5 14, hubMaster)
  if r.ran then s
  else match s.boundary r with
  | some st => s.endReq k st 0 0
  | none =>
    if pkBudget b < fieldLe b 12 4 + fieldLe b 24 4 + (pkClose b).length then s.endReq k stNoResource 0 0
    else match s.peek k [(fieldLe b 40 8, 32)] unit with
    | (s, none) => s
    | (s, some h) =>
      let n := listK (h.getD 0 [])
      if n < 1 ∨ 4096 < n then s.endReq k stBadDescriptor 0 0
      else
        let bufs := [(fieldLe b 16 8, 4 * fieldLe b 12 4), (fieldLe b 32 8, 4 * fieldLe b 24 4), (fieldLe b 40 8, listSize n), (fieldLe b 48 8, 8 * n)]
        match s.peek k bufs unit with
        | (s, none) => s
        | (s, some ins) =>
          let addrs := recordAddrs (ins.getD 2 []) (ins.getD 3 [])
          match s.peek k (addrs.map fun a => match a with | some x => (x, 32) | none => (0, 0)) unit with
          | (s, none) => s
          | (s, some heads) =>
            if heads.any fun x => decide (65536 < fieldLe x 20 4) then s.endReq k stBadDescriptor 0 0
            else
              let recs := (addrs.zip heads).map fun e => match e.1 with
                | some x => (x, 32 + 4 * fieldLe e.2 20 4)
                | none => (0, 0)
              match s.gather k (bufs ++ recs) unit with
              | (s, none) => s
              | (s, some all) =>
                let s := (s.setInputs k (all.take 4)).updReq k fun r => { r with ran := true, recMask := [(24, 4), (28, 4)] }
                s.addTask ⟨.punnet, r.part, k.1, k.2, r.order, none,
                  packInputs (all.getD 0 []) (all.getD 1 []) (all.getD 2 []) (all.drop 4), none, 0⟩

/-- OP_PACK. -/
def execOpPack (client req : Nat) (s : State) : Out := .next (s.pack (client, req))

/-! ## The Medlar match (R187, R189) -/

/-- The weight set a partition serves: its current one in the lowest object ID. -/
def State.partWeights (s : State) (p : Nat) : Option (Nat × WeightSet) := s.weights.find? fun (e : Nat × WeightSet) => e.2.part = p && e.2.current

/-- Digest of an adapter version, or zeros (R187). -/
def State.adapterDigest (s : State) (p : Nat) (a : Option (Nat × Nat × Nat)) : List Byte := match a with
  | none => List.replicate 32 0
  | some v => ((s.adapters.find? fun x => x.part = p && x.serial = v.2.2).map (·.digest)).getD (List.replicate 32 0)

/-- The root key of a tree for a weight set and an adapter (R187). -/
def State.rootKey (s : State) (t : Nat) (weights adapter : List Byte) : Nat :=
  let fmt := ((s.pool? t).map (·.format)).getD 0
  leNat (shake256 16 (padTo 32 weights ++ padTo 32 adapter ++ leBytes 2 (s.partSize (s.rd R.mdlTreePartition t)) ++ leBytes 4 fmt))

/-- The key of a block from the key before it. -/
def blockKey (key : Nat) (tokens : List Nat) : Nat := leNat (shake256 16 (leBytes 16 key ++ tokens.flatMap (leBytes 4)))

/-- Text tokens of block `b`. -/
def blockTokens (tokens : List Nat) (b : Nat) : List Nat := (tokens.drop (256 * b)).take 256

/-- The key of block `b - 1` of a token sequence; the root key for 0. -/
def chainKey (root : Nat) (tokens : List Nat) (b : Nat) : Nat := (List.range b).foldl (fun key i => blockKey key (blockTokens tokens i)) root

/-- The root key under which a request's pack or prompt is matched: the model and adapter of its generation, else the weight set of the
tree's partition without an adapter. -/
def State.requestRoot (s : State) (r : Req) (t : Nat) : Nat :=
  let p := s.rd R.mdlTreePartition t
  let model := if r.opcode = 0x0A then some (r.p 0 4) else if r.opcode = 0x09 ∧ bitOf (r.p 13 1) 0 then some (r.p 768 4) else none
  let w : Option WeightSet := match model with
    | some o => (r.models.find? fun n => n / 2 ^ 32 = o).bind fun n => aget s.weights n
    | none => (s.partWeights p).map fun (e : Nat × WeightSet) => e.2
  s.rootKey t ((w.map fun x => x.digest).getD []) (s.adapterDigest p r.adapter)

/-- A match begins to wait for a Medlar engine. -/
def State.startMatch (s : State) (r : Req) (t : Nat) (tokens : List Nat) (forGen : Bool) : State :=
  if s.probes.any fun m => m.client = r.client && m.req = r.id then s
  else s.putProbes (s.probes ++ [⟨r.client, r.id, t, none, 0, r.order, s.requestRoot r t, tokens, 0, [], decide (tokens.length < 256), forGen⟩])

/-- Changes the match an engine runs. -/
def State.updProbe (s : State) (e : Nat) (f : MMatch → MMatch) : State := s.putProbes (modFirst (fun m => m.engine = some e) f s.probes)

/-- MEDLAR_PROBE_RETURN: the probe of the next block hits, which pins the node, or misses, which ends the match. `bad` names slots of the tree whose words
memory holds bad: 0 poisoned with a readable STATE_BLOCK, 1 without, 2 uncorrectable. A slot that the probe reads so becomes DEAD or resets the tree's
partition; the others keep their words until they are read (R193). -/
def State.probeReturn (s : State) (e : Nat) (bad : List (Nat × Nat)) : State :=
  match s.probes.find? fun m => m.engine = some e with
  | none => s
  | some m =>
    if m.ended then s
    else
      let key := blockKey m.key (blockTokens m.tokens m.block)
      let s := s.putTrees (aput s.trees m.tree (bad.foldl (fun x b => { x with bad := aput x.bad b.1 b.2 }) (s.tree m.tree)))
      let o := s.probe m.tree key
      match o.hit, o.dead with
      | some i, _ =>
        let n := s.node m.tree i
        let s := s.setNode m.tree i { n with ref := n.ref + 1, used := true }
        let s := s.inc R.mdlTstatHitBlocks m.tree 1
        let last := decide (m.tokens.length < 256 * (m.block + 2))
        s.updProbe e fun m => { m with key := key, block := m.block + 1, matched := m.matched ++ [i], ended := last }
      | none, some i =>
        (s.readSlot m.tree i).1.updProbe e fun m => { m with ended := true }
      | none, none => s.updProbe e fun m => { m with ended := true }

/-- MEDLAR_PROBE_RETURN. -/
def execMedlarProbeReturn (engine : Nat) (bad : List (Nat × Nat)) (s : State) : Out := .next (s.probeReturn engine bad)

/-! ## Dispatch (R326) -/

/-- A match takes an engine. -/
def State.giveMatch (s : State) (m : MMatch) (i : Nat) : State :=
  let f (x : MMatch) : MMatch := { x with engine := some i, startedAt := s.now }
  s.putProbes (modFirst (fun x => x = m) f s.probes)

/-- A waiting match takes the lowest free Medlar engine; where retirement has left none its request ends with ST_NO_RESOURCE, a retrieval at its next stage
boundary (R326). -/
def State.dispatchMatch (s : State) (p : Nat) : State :=
  let waits := s.probes.filter fun m => m.engine.isNone && !m.ended && s.rd R.mdlTreePartition m.tree = p
  match minBy MMatch.order waits with
  | none => s
  | some m =>
    let es := s.engines .medlar p
    if es.isEmpty then (s.putProbes (dropFirst (fun x => x = m) s.probes)).failWork (m.client, m.req) stNoResource
    else match es.find? fun i => !s.engineBusy .medlar i with
      | none => s
      | some i => s.giveMatch m i

/-- A task starts on an engine: a request whose work had not started has its boundary here (R451). Punnet's emission lets the match begin (R189). -/
def State.startTask (s : State) (t : Task) (e : Nat) : State :=
  let k : ReqKey := (t.client, t.req)
  match s.req? k with
  | none => s.putTasks (dropFirst (fun x => x = t) s.tasks)
  | some r =>
    match if r.started then none else s.boundary r with
    | some st => s.endReq k st 0 0
    | none =>
      let s := s.putTasks (modFirst (fun x => x = t) (fun x => { x with engine := some e, startedAt := s.now }) s.tasks)
      let s := (s.start k).setBusy t.kind e 1
      if t.kind = .punnet && pkTreeEn r.packBlock then s.startMatch r (pkTree r.packBlock) (t.pack r).tokens false else s

/-- ENGINE_TASK_DISPATCH: the first task of a kind and partition that may run takes the lowest free engine assigned to the partition; where none is
assigned its request ends with ST_NO_RESOURCE, a retrieval at its next stage boundary (R326). -/
def State.dispatch (s : State) (kind : EngKind) (p : Nat) : State :=
  if kind = .medlar then s.dispatchMatch p
  else match (s.waitingTasks kind p).head? with
    | none => s
    | some t =>
      let es := s.engines kind p
      if es.isEmpty then (s.putTasks (dropFirst (fun x => x = t) s.tasks)).failWork (t.client, t.req) stNoResource
      else match es.find? fun i => !s.engineBusy kind i with
        | none => s
        | some e => s.startTask t e

/-- ENGINE_TASK_DISPATCH. -/
def execEngineTaskDispatch (kind : EngKind) (part : Nat) (s : State) : Out := .next (s.dispatch kind part)

/-! ## Completion of tasks -/

/-- Changes the retrieval of a request. -/
def State.updRetrieve (s : State) (k : ReqKey) (f : Retrieve → Retrieve) : State :=
  s.putRetrieves (modFirst (fun x => (x.client, x.req) = k) f s.retrieves)

/-- Changes the generation of a request. -/
def State.updGen (s : State) (k : ReqKey) (f : Gen → Gen) : State := s.putGens (modFirst (fun g => (g.client, g.req) = k) f s.gens)

/-- A task leaves its engine. -/
def State.leaveEngine (s : State) (t : Task) (e : Nat) : State := ((s.putTasks (dropFirst (fun x => x = t) s.tasks))).setBusy t.kind e 0

/-- A Zest engine finishes. -/
def State.zestFinish (s : State) (e : Nat) (t : Task) : State :=
  let k : ReqKey := (t.client, t.req)
  let ns := s.now - t.startedAt
  let s := (s.leaveEngine t e).charge k.1 fun a => { a with zestNs := a.zestNs + ns }
  match s.req? k with
  | none => s
  | some r =>
    if r.ended then s
    else
      match aget s.vocabs (r.vocabs.headD 0), t.stream with
      | none, _ => s.endReq k stState 0 0
      | some v, some z => s.zestDone e t r v z
      | some v, none =>
        let x := tokenize v (ZStream.fresh 0 false) (t.input.getD 0 []) true
        (s.zestCount e (t.input.getD 0 []).length x.st.invalid).updRetrieve k fun y => { y with tokens := x.out, ready := true }

/-- A Punnet engine finishes, once the match has ended: the arrays, the source map, and last the pack record (R186). -/
def State.punnetFinish (s : State) (e : Nat) (t : Task) : State :=
  let k : ReqKey := (t.client, t.req)
  let ns := s.now - t.startedAt
  let left := (s.leaveEngine t e).charge k.1 fun a => { a with punnetNs := a.punnetNs + ns }
  match s.req? k with
  | none => left
  | some r =>
    if r.ended then left
    else
      let b := r.packBlock
      let m := s.probes.find? fun m => (m.client, m.req) = k
      if pkTreeEn b && !(m.any fun m => m.ended && m.engine.isNone) then s
      else
        let x := t.pack r
        let matched := (m.map fun m => m.matched).getD []
        let s := (left.inc R.punEstatTokens e x.tokens.length).inc R.punEstatPacks e 1
        let rec' := x.record matched.length k.2
        if r.opcode = 0x09 then
          let s := s.putProbes (s.probes.filter fun m => (m.client, m.req) ≠ k)
          s.updRetrieve k fun y => { y with packTokens := x.tokens, sourceMap := x.sources, packRecord := rec', matchBlocks := matched.length,
                                            matchNodes := matched, tree := pkTree b, ready := true }
        else
          let n := pkBudget b
          let s := s.putOut k 0 (x.tokens.flatMap (leBytes 4))
          let s := s.putOut k (4 * n) ((List.range x.tokens.length).flatMap (leBytes 4))
          let s := s.putOut k (8 * n) (x.segs.flatMap (leBytes 2))
          let s := s.putOut k (roundUp (10 * n) 64) x.sources
          (s.putRec k 0 rec').endReq k stOk x.tokens.length matched.length

/-- A Medlar engine finishes a match that has ended; the generation it was for takes the matched blocks. -/
def State.medlarFinish (s : State) (e : Nat) : State :=
  match s.probes.find? fun m => m.engine = some e with
  | none => s
  | some m =>
    if !m.ended then s
    else
      let k : ReqKey := (m.client, m.req)
      let s := s.charge k.1 fun a => { a with medlarNs := a.medlarNs + (s.now - m.startedAt) }
      let s := s.updProbe e fun m => { m with engine := none }
      if !m.forGen then s
      else
        let s := s.updGen k fun g => { g with nodes := m.matched, matched := m.matched.length, blocks := m.matched.map fun i => (s.node m.tree i).block,
                                              pos := 256 * m.matched.length }
        s.putProbes (s.probes.filter fun m => (m.client, m.req) ≠ k)

/-- ENGINE_TASK_DONE: an engine finishes its task, posts its results and is free. -/
def State.taskDone (s : State) (kind : EngKind) (e : Nat) : State :=
  match kind with
  | .medlar => s.medlarFinish e
  | .zest => match s.tasks.find? fun t => t.kind = .zest && t.engine = some e with
    | none => s
    | some t => s.zestFinish e t
  | .punnet => match s.tasks.find? fun t => t.kind = .punnet && t.engine = some e with
    | none => s
    | some t => s.punnetFinish e t

/-- ENGINE_TASK_DONE. -/
def execEngineTaskDone (kind : EngKind) (engine : Nat) (s : State) : Out := .next (s.taskDone kind engine)

end Sys2Proof.Machine
end

