-- ==== Sys2Proof/Machine/TopK.lean ====
section
/-! DEFINITION. OP_TOPK and the exact re-rank (07_rerank_topk.md R138 to R147, R450). -/

namespace Sys2Proof.Machine

/-! ## OP_TOPK -/

/-- Rows of an OP_TOPK. -/
def tkRows (r : Req) : Nat := r.p 4 4 + 1

/-- A dense row: where it lies. -/
def tkRow (r : Req) (i : Nat) : Nat × Nat := (r.p 24 8 + i * r.p 32 8, r.p 8 4 * keyBytes (r.p 1 1))

/-- The keys of a dense row, from BASE (R450). -/
def denseKeys (typ base : Nat) (bs : List Byte) : List Key :=
  (List.range (bs.length / keyBytes typ)).map fun i =>
    let k := keyOf typ (fieldLe bs (i * keyBytes typ) (keyBytes typ))
    ⟨base + i, k.1, k.2⟩

/-- The output of one dense row and its NaN keys. -/
def denseRow (r : Req) (i : Nat) (bs : List Byte) : List Byte × Nat :=
  let desc := decide (r.p 2 1 = 0)
  let x := selectKeys (r.p 16 2) desc (denseKeys (r.p 1 1) (r.p 12 4) bs)
  (denseBytes (r.p 1 1) (r.p 16 2) i desc x.1 x.2, x.2)

/-- Reads `n` rank lists that lie one after another from `a`; none while data has not come or after the request has ended. A list whose K is out of
range ends the request with ST_BAD_DESCRIPTOR. -/
def State.readLists (n : Nat) (s : State) (k : ReqKey) (a : Nat) (acc : List (List Byte)) : State × Option (List (List Byte)) :=
  match n with
  | 0 => (s, some acc)
  | n + 1 => match s.peek k [(a, 32)] with
    | (s, some [h]) =>
      if listK h < 1 ∨ 4096 < listK h then (s.endReq k stBadDescriptor 0 0, none)
      else (match s.peek k [(a, listSize (listK h))] with
        | (s, some [b]) => State.readLists n s k (a + b.length) (acc ++ [b])
        | (s, _) => (s, none))
    | (s, _) => (s, none)

/-- The output of one row of lists and its NaN keys: source numbers are list positions (R140). -/
def listRow (r : Req) (lists : List (List Byte)) : List Byte × Nat :=
  let x := mergedList (r.p 1 1) (r.p 16 2) r.id ((List.range lists.length).map fun i => (i, lists.getD i []))
  (x, listInvalid x)

/-- OP_TOPK ends with the rows' outputs one after another. -/
def State.topkOut (s : State) (k : ReqKey) (input : List Byte) (rows : List (List Byte × Nat)) (mask : List (Nat × Nat)) : State :=
  let s := (s.setInputs k [input]).updReq k fun r => { r with ran := true, started := true, outMask := mask }
  (s.putOut k 0 (rows.flatMap (·.1))).endReq k stOk rows.length ((rows.map (·.2)).foldl (· + ·) 0)

/-- OP_TOPK: every row selected independently. -/
def State.topk (s : State) (k : ReqKey) : State := s.onReq k 0x07 fun r =>
  if r.ran then s
  else match s.boundary r with
    | some st => s.endReq k st 0 0
    | none =>
      let n := tkRows r
      if r.p 0 1 = 0 then
        (match s.gather k ((List.range n).map (tkRow r)) with
         | (s, none) => s
         | (s, some bs) => s.topkOut k bs.flatten ((List.range n).map fun i => denseRow r i (bs.getD i [])) [])
      else
        let m := r.p 8 4
        match s.readLists (n * m) k (r.p 24 8) [] with
        | (s, none) => s
        | (s, some ls) =>
          let total := (ls.map List.length).foldl (· + ·) 0
          let s := if isDev (r.p 24 8) then s.charge k.1 fun a => { a with lpddrRd := a.lpddrRd + total } else s
          s.topkOut k ls.flatten ((chunks m ls).map (listRow r)) ((List.range n).map fun i => (i * listSize (r.p 16 2) + 20, 4))

/-- OP_TOPK. -/
def execOpTopk (client req : Nat) (s : State) : Out := .next (s.topk (client, req))

/-! ## The exact re-rank (R144 to R147) -/

/-- Dot product of two INT8 vectors. -/
def dotInt8 (a b : List Byte) : Int := (List.zipWith (fun x y => x.toInt * y.toInt) a b).foldl (· + ·) 0

/-- The metadata of the passage a node names at an epoch, read by the hub for a request: its side record's, or the metadata array's with the status that
ends the request where that word cannot be used. -/
def State.metaAt (s : State) (x : Shard) (y : Section) (n e : Nat) : State × Meta × Nat :=
  match y.sideAt n e with
  | some r => (s, r.info, 0)
  | none =>
    let a := y.metaBase + 16 * n
    if !s.ownsRange x.part a 16 then (s, metaOf [], stContextFault)
    else
      let r := s.readUnit a 16 hubMaster
      (r.1, metaOf r.2.1, if r.2.2 = 0 then 0 else stPoison)

/-- The full vector of a node at an epoch, and the status that ends its reading: from the LPDDR-6 copy, or the first sector of its passage unit (R241). A
passage inserted after the load, of which the copy has no vector, is read from its passage unit (DESIGN CHOICE, log entry 74). A withdrawn granule is a
bounds fault (R230). -/
def State.fullVector (s : State) (c : Nat) (x : Shard) (y : Section) (n : Nat) (m : Meta) : State × List Byte × Nat :=
  if x.lpddr && !sget false y.fresh n then
    let a := y.vecBase + n * x.df
    if !s.ownsRange x.part a x.df then (s.raise 0x002 (hubSite 5 14) hubMaster a 1 0, [], stContextFault)
    else
      let v := s.readUnit a x.df hubMaster
      (v.1.charge c fun a => { a with lpddrRd := a.lpddrRd + x.df }, v.2.1, if v.2.2 = 0 then 0 else stPoison)
  else
    let v := s.flashFetch c (x.vecFlash + m.vecSlot) 1
    (v.1, v.2.1.take x.df, if v.2.2 then stPoison else 0)

/-- An exact re-rank so far: entries scored, candidates dropped as stale, and the status that ends it. -/
structure Rerank where
  entries : List Entry
  stale : Nat
  stop : Nat
  deriving DecidableEq, Repr

/-- One candidate: not this module's, stale, or scored. -/
def State.rerankOne (k : ReqKey) (q : List Byte) (m : State × Rerank) (c : Entry) : State × Rerank :=
  let s := m.1
  if m.2.stop ≠ 0 then m
  else match s.slotOf (hShard c.handle) with
  | none => m
  | some slot => match s.shard? slot with
    | none => m
    | some x => match x.sections[hSec c.handle]? with
      | none => (s, { m.2 with stale := m.2.stale + 1 })
      | some y =>
        let e := ((x.pins.find? fun p => p.1 = k).map (·.2)).getD (s.rd R.sloShardEpoch slot)
        let n := hNode c.handle
        if !y.alive n e then (s, { m.2 with stale := m.2.stale + 1 })
        else
        let i := s.metaAt x y n e
        if i.2.2 ≠ 0 then (i.1, { m.2 with stop := i.2.2 })
        else if i.2.1.gen ≠ hGen c.handle then (i.1, { m.2 with stale := m.2.stale + 1 })
        else
          let v := i.1.fullVector k.1 x y n i.2.1
          if v.2.2 ≠ 0 then (v.1, { m.2 with stop := v.2.2 })
          else (v.1, { m.2 with entries := m.2.entries ++ [{ c with value := fp32Code (Num.ofInt (dotInt8 q v.2.1) 0), stage := 1 }] })

/-- The exact re-rank of a list's valid candidates by a query vector, as a rank list of `n` slots; INVALID counts the input's NaN keys (R134). -/
def State.rerankExact (s : State) (k : ReqKey) (q : List Byte) (typ n req : Nat) (es : List Entry) : State × List Byte × Rerank :=
  let m := (es.filter (Entry.ok typ)).foldl (State.rerankOne k q) (s, ⟨[], 0, 0⟩)
  (m.1, listBytes 4 1 0 (nanKeys typ es) m.2.stale req (rankList 4 n m.2.entries), m.2)

/-- The rank list that follows the query vector of an OP_RERANK_EXACT. -/
def reList (r : Req) : List Byte := r.param.drop (r.inl 2 2)

/-- Slots of the shards that the valid candidates of a list name. -/
def State.listSlots (s : State) (list : List Byte) : List Nat :=
  (((listEntries list).filter (Entry.ok (fieldLe list 6 1))).filterMap fun e => s.slotOf (hShard e.handle)).eraseDups

/-- Digest entries of the shards a request pinned. -/
def State.shardRefs (s : State) (k : ReqKey) (slots : List Nat) : List (List Byte) :=
  slots.filterMap fun i => (s.shard? i).bind fun x => (x.pins.find? fun p => p.1 = k).map fun p =>
    shardEntry (s.rd R.sloShardShard i) p.2 (((x.digests.find? fun d => d.1 = p.2).map (·.2)).getD [])

/-- OP_RERANK_EXACT: the best K candidates by exact score; ST_FEW_RESULTS where fewer are valid (DEDUCED from Table HOST-9, log entry 31). -/
def State.opRerankExact (s : State) (k : ReqKey) : State := s.onReq k 0x05 fun r =>
  if r.ran then s
  else match s.boundary r with
    | some st => s.endReq k st 0 0
    | none =>
      let list := reList r
      let slots := s.listSlots list
      if slots.any fun i => (s.shard? i).any fun x => x.df ≠ r.inl 2 2 then s.endReq k stState 0 0
      else
        let s := slots.foldl (fun s i => (s.pinShard k i).1) s
        let s := s.updReq k fun r => { r with ran := true, started := true, shardRefs := s.shardRefs k slots, outMask := [(20, 4)] }
        let x := s.rerankExact k (r.param.take (r.inl 2 2)) (fieldLe list 6 1) (r.inl 0 2) k.2 (listEntries list)
        if !(x.1.live k) then x.1
        else if x.2.2.stop = stPoison then x.1.endPoison k (hubSite 5 14) hubMaster 0 0
        else if x.2.2.stop ≠ 0 then x.1.endReq k x.2.2.stop 0 0
        else
          let v := validOf (listEntries x.2.1)
          (x.1.putOut k 0 x.2.1).endReq k (if v < r.inl 0 2 then stFewResults else stOk) v x.2.2.stale

/-- OP_RERANK_EXACT. -/
def execOpRerankExact (client req : Nat) (s : State) : Out := .next (s.opRerankExact (client, req))

end Sys2Proof.Machine
end

