-- ==== Sys2Proof/Machine/Passes.lean ====
section
/-! DEFINITION. Model passes (15_tenancy.md R327, 07_rerank_topk.md R148, R149): OP_EMBED, OP_RERANK_MODEL, how a pass forms, and what its end
delivers. -/

namespace Sys2Proof.Machine

/-- A weight set a request pinned, by its object. -/
def State.pinnedModel (s : State) (r : Req) (o : Nat) : Option (Nat × WeightSet) :=
  (r.models.find? fun n => n / 2 ^ 32 = o).bind fun n => (aget s.weights n).map fun w => (n, w)

/-- A shape entry of the digest record (Table SECU-5): role 0 encoder, 1 cross-encoder, 2 generation. -/
def State.shapeEntry (s : State) (p role : Nat) (weights : List Byte) (adapter : Option (Nat × Nat × Nat)) : List Byte :=
  let prog := (((s.part p).program.bind fun o => aget s.objs o).map fun x => prgDigest x.image).getD []
  leBytes 2 (s.partSize p) ++ leBytes 1 role ++ [0] ++ leBytes 4 ((adapter.map (·.2.1)).getD 0) ++ padTo 32 prog ++ padTo 32 weights ++
    s.adapterDigest p adapter

/-- Most rows of a pass (R327). -/
def State.passRows (s : State) (p : Nat) : Nat := 256 * (s.rd R.cfgPartPassRows p + 1)

/-- A request's rows join the queue of a partition; more rows than a pass holds end it with ST_NO_RESOURCE. -/
def State.queueRows (s : State) (p : Nat) (x : PassRow) : State :=
  if s.passRows p < x.rows then s.failWork (x.client, x.req) stNoResource
  else s.setPart p { s.part p with queue := (s.part p).queue ++ [x] }

/-- OP_EMBED: the text tokens become rows of a pass. -/
def State.opEmbed (s : State) (k : ReqKey) : State := s.onReq k 0x03 fun r =>
  if r.ran then s
  else match s.boundary r with
    | some st => s.endReq k st 0 0
    | none => match s.pinnedModel r (r.inl 0 4) with
      | none => s.endReq k stState 0 0
      | some (n, w) =>
        let ts := words4 r.param
        let s := s.updReq k fun r => { r with ran := true, shapes := [s.shapeEntry w.part 0 w.digest none] }
        s.queueRows w.part ⟨k.1, k.2, ts.length, r.order, 0, n, [(0, ts)]⟩

/-- OP_EMBED. -/
def execOpEmbed (client req : Nat) (s : State) : Out := .next (s.opEmbed (client, req))

/-! ## The cross-encoder (R148) -/

/-- The pair of a question and a passage, led by the length of the question side. -/
def pairOf (question passage : List Nat) (pq pp : Nat) : List Nat :=
  let q := question.drop (question.length - pq)
  q.length :: q ++ passage.take pp

/-- The pairs of the valid entries of a list: entry index and pair. -/
def pairsOf (typ : Nat) (es : List Entry) (question : List Nat) (passage : Nat → List Nat) (pq pp : Nat) : List (Nat × List Nat) :=
  (List.range es.length).filterMap fun i => (es[i]?).bind fun e => if e.ok typ then some (i, pairOf question (passage i) pq pp) else none

/-- Rows that pairs take. -/
def pairRows (ps : List (Nat × List Nat)) : Nat := (ps.map fun p => p.2.length - 1).foldl (· + ·) 0

/-- The cross-encoder's rank list over its pairs, and its NaN scores (R149). INVALID counts the NaN keys of the input entries too (R134). -/
def crossList (w : WeightSet) (clusters typ n req : Nat) (es : List Entry) (pairs : List (Nat × List Nat)) : List Byte × Nat :=
  let scored := pairs.filterMap fun p => (es[p.1]?).map fun e =>
    { e with value := (Config.crossScore w.digest clusters p.2).toNat, stage := 2 }
  let nan := (scored.filter fun e => !e.ok 4).length
  (listBytes 4 1 0 (nan + nanKeys typ es) 0 req (rankList 4 n scored), nan)

/-- OP_RERANK_MODEL: one pair for each valid candidate, as rows of a pass. -/
def State.opRerankModel (s : State) (k : ReqKey) : State := s.onReq k 0x06 fun r =>
  if r.ran then s
  else match s.boundary r with
    | some st => s.endReq k st 0 0
    | none => match s.pinnedModel r (r.inl 0 4) with
      | none => s.endReq k stState 0 0
      | some (n, w) =>
        let list := r.param.drop 32
        let typ := fieldLe list 6 1
        let bufs := [(r.p 0 8, 4 * r.p 8 4), (r.p 16 8, 8 * listK list)]
        match s.peek k bufs with
        | (s, none) => s
        | (s, some ins) =>
          let addrs : List (Option Nat) := (List.range (listK list)).map fun i =>
            if ((listEntries list)[i]?).any (Entry.ok typ) then some (fieldLe (ins.getD 1 []) (8 * i) 8) else none
          match s.peek k (addrs.map fun a => match a with | some x => (x, 32) | none => (0, 0)) with
          | (s, none) => s
          | (s, some heads) =>
            if heads.any fun x => decide (65536 < fieldLe x 20 4) then s.endReq k stBadDescriptor 0 0
            else
              let recs := (addrs.zip heads).map fun e => match e.1 with
                | some x => (x + 32, 4 * Nat.min (fieldLe e.2 20 4) (r.inl 6 2))
                | none => (0, 0)
              match s.gather k (bufs ++ recs) with
              | (s, none) => s
              | (s, some all) =>
                let pairs := pairsOf typ (listEntries list) (words4 (all.getD 0 [])) (fun i => words4 (all.getD (2 + i) [])) (r.inl 4 2) (r.inl 6 2)
                let s := (s.setInputs k (all.take 2)).updReq k fun r => { r with ran := true, outMask := [(20, 4)], shapes := [s.shapeEntry w.part 1 w.digest none] }
                s.queueRows w.part ⟨k.1, k.2, pairRows pairs, r.order, 1, n, pairs⟩

/-- OP_RERANK_MODEL. -/
def execOpRerankModel (client req : Nat) (s : State) : Out := .next (s.opRerankModel (client, req))

/-! ## Forming a pass (R327) -/

/-- Takes queued requests whole, in order of admission, while their rows fit; the first always joins. -/
def takeRows (limit : Nat) (l : List PassRow) : List PassRow :=
  let x := l.foldl (fun (x : List PassRow × Nat × Bool) r =>
    if x.2.2 then x
    else if x.1.isEmpty || decide (x.2.1 + r.rows ≤ limit) then (x.1 ++ [r], x.2.1 + r.rows, false)
    else (x.1, x.2.1, true)) ([], 0, false)
  x.1

/-- The row ranges of a pass, one for each request. -/
def passRanges (l : List PassRow) : List StepRow :=
  (l.foldl (fun (x : List StepRow × Nat) r => (x.1 ++ [⟨r.client, r.req, 0, 0, x.2, r.rows, r.rows⟩], x.2 + r.rows)) ([], 0)).1

/-- Requests of OP_EMBED and OP_RERANK_MODEL that wait have a boundary at the start of a pass (R451). -/
def State.passBoundary (s : State) (p : Nat) : State :=
  (s.part p).queue.foldl (fun s x =>
    match s.req? (x.client, x.req) with
    | some r => if r.opcode = 0x09 then s else (match s.boundary r with
      | some st => s.endReq (x.client, x.req) st 0 0
      | none => s)
    | none => s) s

/-- PASS_FORM: at a step boundary of a partition whose program is no generation program. -/
def State.passForm (s : State) (p : Nat) : State :=
  let x := s.part p
  if !s.running p ∨ x.generation ∨ x.running.isSome ∨ x.next.isSome then s
  else
    let s := s.passBoundary p
    let x := s.part p
    let l := sortBy (fun a b => decide (a.order < b.order)) x.queue
    let took := takeRows (s.passRows p) l
    if took.isEmpty then s
    else
      let s := took.foldl (fun s r => s.start (r.client, r.req)) s
      s.setPart p { x with queue := l.drop took.length, pass := took, next := some (passRanges took) }

/-- PASS_FORM. -/
def execPassForm (part : Nat) (s : State) : Out := .next (s.passForm part)

/-! ## The end of a pass -/

/-- What a pass delivers for a stage of OP_RETRIEVE. -/
def State.passStage (s : State) (k : ReqKey) (r : Req) (p : Nat) (w : WeightSet) (x : PassRow) : State :=
  if x.stage = 3 then
    let ts := (x.work.headD (0, [])).2
    s.updRetrieve k fun y => { y with
      vec := (List.range w.dims).map (Config.embedVec w.digest (s.partSize p) ts)
      sketch := (List.range (w.sketch / 8)).map (Config.embedSketch w.digest (s.partSize p) ts)
      span := r.span, e2m1 := r.e2m1, ready := true }
  else
    s.updRetrieve k fun y =>
      let l := crossList w (s.partSize p) 4 (r.p 28 2) k.2 (listEntries y.list2) x.work
      { y with list3 := l.1, nanScores := l.2, span := r.span, e2m1 := r.e2m1, ready := true }

/-- One request of a pass that has ended: its output, unless a CANCEL or a reset of its function discards it (R451). -/
def State.passOut (s : State) (p : Nat) (x : PassRow) : State :=
  let k : ReqKey := (x.client, x.req)
  match s.req? k, aget s.weights x.model with
  | some r, some w =>
    if r.ended then s
    else if x.stage = 3 ∨ x.stage = 10 then s.passStage k r p w x
    else match if r.cancelAt.isSome then s.boundary r else none with
      | some st => s.endReq k st 0 0
      | none =>
        if x.stage = 0 then
          let ts := (x.work.headD (0, [])).2
          let out := (List.range w.dims).map (Config.embedVec w.digest (s.partSize p) ts) ++
            (List.range (w.sketch / 8)).map (Config.embedSketch w.digest (s.partSize p) ts)
          (s.putOut k 0 out).endReq k (if 0 < r.span then stInfoSpan else stOk) w.dims w.sketch
        else
          let n := r.inl 8 2
          let l := crossList w (s.partSize p) (fieldLe (r.param.drop 32) 6 1) n k.2 (listEntries (r.param.drop 32)) x.work
          let v := validOf (listEntries l.1)
          (s.putOut k 0 l.1).endReq k (if v < n then stFewResults else if 0 < r.span then stInfoSpan else stOk) v l.2
  | _, _ => s

/-- A pass ends: each of its requests gets its output, in order. -/
def State.passDone (s : State) (p : Nat) : State :=
  let l := (s.part p).pass
  l.foldl (fun s x => s.passOut p x) (s.setPart p { s.part p with pass := [] })

end Sys2Proof.Machine
end

