-- ==== Sys2Proof/Machine/Functions.lean ====
section
/-! DEFINITION. The functions of the vector unit (04_exact_arithmetic.md R87, Table ARIT-8). The spec bounds their errors and gives no tables, so a
result is the opaque one of Config where that keeps the bound, and the correctly rounded value elsewhere (log entries 6 and 29). The true values are
computed in fixed point: the integer `i` stands for i / 2^384. -/

namespace Sys2Proof.Machine

/-- Fraction bits of the fixed-point values. -/
def fxBits : Nat := 384

/-- One. -/
def fxOne : Int := 2 ^ fxBits

/-- Product. -/
def fxMul (a b : Int) : Int := a * b / fxOne

/-- Quotient. -/
def fxDiv (a b : Int) : Int := a * fxOne / b

/-- A finite value in fixed point, cut below 2^-384. -/
def Num.toFx (x : Num) : Int := x.toIntAt (-384)

/-- A fixed-point value. -/
def fxNum (i : Int) : Num := Num.ofInt i (-384)

/-- The sum of a series whose term number `n` comes from the one before: `step` gives it; `n` terms are taken. -/
def fxSeries (step : Nat → Int → Int) (n : Nat) (first : Int) : Int :=
  ((List.range n).foldl (fun (x : Int × Int) i => let t := step (i + 1) x.2; (x.1 + t, t)) (first, first)).1

/-- e^r for |r| at most 1. -/
def fxExp (r : Int) : Int := fxSeries (fun n t => fxMul t r / n) 90 fxOne

/-- 2 atanh z for |z| at most 1/3: the logarithm of (1 + z) / (1 − z). -/
def fxAtanh2 (z : Int) : Int :=
  let q := fxMul z z
  ((List.range 125).foldl (fun (x : Int × Int) i => (x.1 + 2 * x.2 / (2 * i + 1 : Nat), fxMul x.2 q)) (0, z)).1

/-- ln 2. -/
def fxLn2 : Int := fxAtanh2 (fxOne / 3)

/-- atan (1 / n) for n at least 5. -/
def fxAtanInv (n : Nat) : Int :=
  ((List.range 90).foldl (fun (x : Int × Int) i =>
    (x.1 + (if i % 2 = 0 then x.2 / (2 * i + 1 : Nat) else -(x.2 / (2 * i + 1 : Nat))), x.2 / (n * n : Nat))) (0, fxOne / n)).1

/-- π, by Machin's formula. -/
def fxPi : Int := 16 * fxAtanInv 5 - 4 * fxAtanInv 239

/-- e^x as a value, for an argument in fixed point. -/
def expNum (x : Int) : Num :=
  let n := x / fxLn2
  if n < -400 then .fin false 1 (-400)
  else if 400 < n then .fin false 1 400
  else (fxNum (fxExp (x - n * fxLn2))).scale n

/-- ln of a positive value. -/
def lnFx (x : Num) : Int := match x with
  | .fin _ m e =>
    let k : Nat := Nat.log2 m
    let f : Int := (m : Int) * fxOne / 2 ^ k
    fxAtanh2 (fxDiv (f - fxOne) (f + fxOne)) + (k + e) * fxLn2
  | _ => 0

/-- The quotient of two values, to 128 significant bits. -/
def quotNum (x y : Num) : Num := match x, y with
  | .fin a m e, .fin b k f => let n := 128 + Nat.log2 k; .fin (a != b) (m * 2 ^ n / k) (e - f - n)
  | _, _ => .nan

/-- sin (or cos) of an argument in fixed point, reduced to at most a half turn. -/
def sinFx (x : Int) (cos : Bool) : Int :=
  let r := x - (x + fxPi) / (2 * fxPi) * (2 * fxPi)
  let q := fxMul r r
  fxSeries (fun n t => -(fxMul t q / (if cos then (2 * n - 1) * (2 * n) else (2 * n) * (2 * n + 1) : Nat))) 70 (if cos then fxOne else r)

/-- erf of an argument of magnitude below 8, with √π from the integer square root. -/
def erfFx (x : Int) : Int :=
  let q := fxMul x x
  let s := ((List.range 400).foldl (fun (y : Int × Int) n => (y.1 + y.2 / (2 * n + 1 : Nat), -(fxMul y.2 q / (n + 1 : Nat)))) (0, x)).1
  let root : Int := isqrtFuel 400 ((fxPi * fxOne).toNat) 0
  fxDiv (2 * s) root

/-- The true value of a function at a finite argument other than its special ones, to far beyond FP32. -/
def fnTrue (f : VecFn) (x : Num) : Num :=
  let small (b : Int) : Bool := x.below b
  match f with
  | .exp2 => if small 9 then expNum (fxMul x.toFx fxLn2) else expNum (if Num.lt x Num.zero then -(1000 * fxOne) else 1000 * fxOne)
  | .exp => if small 9 then expNum x.toFx else expNum (if Num.lt x Num.zero then -(1000 * fxOne) else 1000 * fxOne)
  | .log => fxNum (lnFx x)
  | .log2 => fxNum (fxDiv (lnFx x) fxLn2)
  | .reciprocal => quotNum (.fin false 1 0) x
  | .rsqrt => match x with
    | .fin _ m e =>
      let k : Int := if e % 2 = 0 then 160 else 161
      quotNum (.fin false 1 0) (.fin false (isqrtFuel 300 (shl m k) 0) ((e - k) / 2))
    | _ => .nan
  | .tanh =>
    if small (-30) then x
    else if small 7 then
      let t := expNum (2 * x.toFx)
      (quotNum (t.add (.fin true 1 0)) (t.add (.fin false 1 0)))
    else .fin (Num.lt x Num.zero) 1 0
  | .sigmoid => if small 9 then (let t := expNum x.toFx; quotNum t (t.add (.fin false 1 0))) else if Num.lt x Num.zero then expNum (-(1000 * fxOne)) else .fin false 1 0
  | .erf =>
    if small (-40) then quotNum ((x.scale 1).mul (.fin false 1 0)) (fxNum (isqrtFuel 400 ((fxPi * fxOne).toNat) 0))
    else if small 3 then fxNum (erfFx x.toFx) else .fin (Num.lt x Num.zero) 1 0
  | .sin => if small (-40) then x else fxNum (sinFx x.toFx false)
  | .cos => fxNum (sinFx x.toFx true)

/-- The maximum error of a function at an argument, in ulp (Table ARIT-8). -/
def fnUlps (f : VecFn) (x : Num) : Nat := match f with
  | .exp2 | .log2 | .reciprocal | .rsqrt => 1
  | .exp | .log | .tanh | .sigmoid => 2
  | .erf => 3
  | .sin | .cos => if (Num.fin false 65536 0).lt (match x with
      | .fin _ m e => .fin false m e
      | y => y) then 4 else 2

/-- Is an FP32 result within `n` ulp of the true value? -/
def withinUlps (n : Nat) (y true' : Num) : Bool :=
  match y.add true'.neg with
  | .fin _ m e => !(Num.fin false n (max (true'.log2Floor) (-126) - 23)).lt (.fin false m e)
  | _ => false

/-- Special inputs of the functions, after the recommended operations of IEEE 754-2019 (R87; PRESUMED, log entry 29); `none` where the function's table
decides. -/
def fnSpecial (f : VecFn) (x : Num) : Option Num :=
  let one : Num := .fin false 1 0
  match x with
  | .nan => some .nan
  | .inf neg => match f with
    | .exp2 | .exp => some (if neg then Num.zero else .inf false)
    | .log2 | .log => some (if neg then .nan else .inf false)
    | .reciprocal => some (.fin neg 0 0)
    | .rsqrt => some (if neg then .nan else Num.zero)
    | .tanh | .erf => some (.fin neg 1 0)
    | .sin | .cos => some .nan
    | .sigmoid => some (if neg then Num.zero else one)
  | .fin neg m _ =>
    if m = 0 then match f with
      | .exp2 | .exp | .cos => some one
      | .log2 | .log => some (.inf true)
      | .reciprocal | .rsqrt => some (.inf neg)
      | .tanh | .sin | .erf => some (.fin neg 0 0)
      | .sigmoid => none
    else if neg then match f with
      | .log2 | .log | .rsqrt => some .nan
      | _ => none
    else none

/-- A function of Table ARIT-8: the opaque result of its tables, which keeps the error bound. -/
def vecFnVal (f : VecFn) (x : Num) : Num :=
  match fnSpecial f x with
  | some y => y
  | none =>
    let y := fp32Val (Config.vecFunction f (BitVec.ofNat 32 (fp32Code x))).toNat
    let t := fnTrue f x
    if withinUlps (fnUlps f x) y t then y else roundFp32 t

end Sys2Proof.Machine
end

