-- ==== Sys2Proof/Machine/Vector.lean ====
section
/-! DEFINITION. The vector unit (04_exact_arithmetic.md R84 to R89, 05_cluster_programs.md R100, 07_rerank_topk.md R137). -/

namespace Sys2Proof.Machine

/-! ## The vector descriptor (R100) -/

/-- Operation. -/
def vdOp (d : List Byte) : Nat := dbits d 7 0
/-- n. -/
def vdN (d : List Byte) : Nat := dbits d 31 8 + 1
/-- SRC0, SRC1, SRC2. -/
def vdSrc (d : List Byte) (i : Nat) : Nat := dbits d (86 + 32 * i) (64 + 32 * i)
/-- DST. -/
def vdDst (d : List Byte) : Nat := dbits d 182 160
/-- Source format. -/
def vdSf (d : List Byte) : Nat := dbits d 187 184
/-- Destination format. -/
def vdDf (d : List Byte) : Nat := dbits d 191 188
/-- Function code. -/
def vdFn (d : List Byte) : Nat := dbits d 199 192

/-- Bits of an element of a format code: Table CLUS-3, and 0xF for FP32. -/
def vecBits (f : Nat) : Nat := if f = 15 then 32 else fmtBits f

/-- The value of an element. -/
def vecVal (f code : Nat) : Num := if f = 15 then fp32Val code else decodeElem f code

/-- Bytes of `n` elements. -/
def vecBytes (f n : Nat) : Nat := ceilDiv (vecBits f * n) 8

/-- Rounds to an integer format of `w` bits; out of range and for NaN the spec states no result: the free value. -/
def intCode (w : Nat) (x : Num) (free : Nat) : Nat :=
  match x with
  | .fin _ _ _ =>
    let v := x.toIntRne
    if v < -(2 ^ (w - 1)) ∨ 2 ^ (w - 1) ≤ v then free % 2 ^ w else codeOfInt w v
  | _ => free % 2 ^ w

/-- Writes a value in a destination format by conversion (R84, Table ARIT-6). FP6 has no code for an infinity or a NaN, and an integer
format none beyond its range: there the free value, a function of the format and the value alone (R91). A finite value beyond the largest of FP6
gives the largest, and E4M3 takes the SAT = 0 column (DESIGN CHOICE, log entry 69: Table ARIT-6 has no FP6 column and the unit no SAT bit). -/
def vecCode (f : Nat) (x : Num) : Nat :=
  let free := Config.convFree f (BitVec.ofNat 32 (fp32Code x))
  match f with
  | 0 | 3 => fmtE4M3.encode false x
  | 1 | 4 => fmtE5M2.encode false x
  | 2 => intCode 8 x free
  | 5 => intCode 8 (x.scale 6) free
  | 6 => match x with
    | .fin _ _ _ => fmtE2M3.encode false x
    | _ => free % 64
  | 7 => match x with
    | .fin _ _ _ => fmtE3M2.encode false x
    | _ => free % 64
  | 8 | 9 => fmtE2M1.encode false x
  | 10 => intCode 4 x free
  | 11 => fmtBF16.encode false x
  | _ => fp32Code x

/-- Conversion to a 32-bit integer. -/
def vecInt32 (x : Num) : Nat := intCode 32 x (Config.convFree 16 (BitVec.ofNat 32 (fp32Code x)))

/-- Results per cycle of a function. -/
def fnRate (f : VecFn) : Nat := match f with
  | .tanh | .sigmoid | .erf | .sin | .cos => 32
  | _ => 64

/-- Element `i` of a source in scratch: its code, and whether a word it lies in is poisoned. -/
def Cluster.vecElem (c : Cluster) (a bits i : Nat) : Nat × Bool :=
  let o := bits * i
  let r := c.readS (a + o / 8) ((o % 8 + bits + 7) / 8)
  (leNat r.1 / 2 ^ (o % 8) % 2 ^ bits, r.2)

/-- The elements of a source as values. -/
def Cluster.vecSrc (c : Cluster) (a f n : Nat) : List (Num × Bool) :=
  (List.range n).map fun i => let e := c.vecElem a (vecBits f) i; (vecVal f e.1, e.2)

/-- The elementwise operations of R84 and R85 on three operands, as FP32 results. -/
def vecEach (op : VecOp) (fn : Nat) (x y z : Num) : Num :=
  let cmp (b : Bool) : Num := fp32Val (Config.cmpResult b).toNat
  match op with
  | .add => roundFp32 (x.add y)
  | .sub => roundFp32 (x.add y.neg)
  | .mul => roundFp32 (x.mul y)
  | .fma => roundFp32 ((x.mul y).add z)
  | .sqrt => sqrtFp32 x
  | .cmpLt => cmp (x.lt y)
  | .cmpLe => cmp (x.lt y || x.eqRank y)
  | .cmpEq => cmp (x.eqRank y)
  | .cmpNe => cmp (!x.eqRank y)
  | .min => x.minR y
  | .max => x.maxR y
  | .function => vecFnVal (Config.vecFn fn) x
  | _ => x

/-- The reduction tree of R86: lane l takes the values with index l, l + 256, …; then eight levels join results 2i and 2i + 1. A sum
starts each lane from +0; for max and min a lane starts from no value, and one without a value takes no part (DESIGN CHOICE, log entry 84: R86 says from what
a sum's lanes start, and +0 would be the maximum of negative values). -/
def reduceVals (op : Num → Num → Num) (start : Option Num) (xs : List Num) : Num :=
  let join (a b : Option Num) : Option Num := match a, b with
    | some x, some y => some (op x y)
    | some x, none => some x
    | none, b => b
  let lane (l : Nat) : Option Num :=
    ((List.range (ceilDiv (xs.length - l) 256)).foldl (fun acc i => join acc (xs[l + 256 * i]?)) start)
  let level (l : List (Option Num)) : List (Option Num) :=
    (List.range (l.length / 2)).map fun i => join (l.getD (2 * i) none) (l.getD (2 * i + 1) none)
  let r := (List.range 8).foldl (fun l _ => level l) ((List.range 256).map lane)
  ((r.getD 0 none)).getD Num.zero

/-- How an operation reads its sources: how many, and as 32-bit integers. -/
def vecArity (op : VecOp) : Nat := match op with
  | .add | .sub | .mul | .cmpLt | .cmpLe | .cmpEq | .cmpNe | .min | .max => 2
  | .fma => 3
  | _ => 1

/-- Elements of a pass: a function's results per cycle, else the 256 lanes. -/
def vecRate (op : VecOp) (fn : Nat) : Nat := match op with
  | .function => fnRate (Config.vecFn fn)
  | _ => 256

/-- Busy time in schedule cycles (R100). -/
def vecBusyOf (op : VecOp) (fn n : Nat) : Nat := match op with
  | .function => ceilDiv n (fnRate (Config.vecFn fn)) + 12
  | .sum | .reduceMax | .reduceMin => ceilDiv n 256 + 22
  | _ => ceilDiv n 256 + 6

/-- The accesses of each cycle of the vector unit (R96): pass i takes its `per` elements of each source, given as address, bits and passes, in cycle i, and
writes its results in the last cycles of the busy time (DESIGN CHOICE, log entry 59). -/
def vecSpans (busy per n : Nat) (reads : List (Nat × Nat)) (writes : List (Nat × Nat × Nat)) : List (List Touch) :=
  let at' (a bits i m : Nat) (wr : Bool) : List Touch :=
    let lo := per * i
    if lo < m then [(a + lo * bits / 8, ceilDiv (Nat.min per (m - lo) * bits) 8, wr)] else []
  (List.range busy).map fun i => (reads.flatMap fun r => at' r.1 r.2 i n false) ++
    writes.flatMap fun w => let k := busy - ceilDiv w.2.2 per; if k ≤ i then at' w.1 w.2.1 (i - k) w.2.2 true else []

/-- The vector unit is taken: issue stalls while it is busy, then it is busy for `n` schedule cycles (R93), in which it makes its accesses. -/
def Cluster.vecRun (c : Cluster) (n : Nat) (spans : List (List Touch)) : Cluster :=
  let c := (c.stall (·.vecBusy)).startUse ⟨5, 0, spans, [], false⟩
  { c with vecBusy := c.schedCycles + n }.issue 1

/-- Reads a vector descriptor and acts on it; a hazard or a poisoned descriptor resets the partition (R97, R263). -/
def State.withVec (s : State) (cl a : Nat) (f : State → Cluster → List Byte → State) : State :=
  s.onCluster cl fun c => s.reading cl [(a, 32)] fun s =>
    let r := c.readS a 32
    if r.2 then s.controlPoison cl else f s c r.1

/-- TOPK: selects k of n keys into the list of Table RANK-3 (R137). -/
def State.vecTopk (s : State) (cl : Nat) (c : Cluster) (d : List Byte) : State :=
  let n := vdN d
  let k := dbits d 211 200 + 1
  let desc := decide (dbits d 212 212 = 0)
  let typ := dbits d 215 213
  let base := dbits d 63 32
  let w := keyBytes typ
  s.reading cl [(vdSrc d 0, w * n)] fun s => s.writing cl 2 [(vdDst d, 32 + 8 * k)] fun s =>
    let es := (List.range n).map fun i => c.vecElem (vdSrc d 0) (8 * w) i
    let keys := (List.range n).map fun i => let v := keyOf typ (es.getD i (0, false)).1; (⟨base + i, v.1, v.2⟩ : Key)
    let sel := selectKeys k desc keys
    let out := denseBytes typ k 0 desc sel.1 sel.2
    let c := c.writeSP (vdDst d) out (es.any (·.2))
    let busy := ceilDiv n 256 + ceilDiv k 16 + 20
    s.setCluster cl (c.vecRun busy (vecSpans busy 256 n [(vdSrc d 0, 8 * w)] [(vdDst d, 8, out.length)]))

/-- VOP: an elementwise, function or reduction operation (R84 to R87, R100); operation 0x40 is TOPK. -/
def State.vop (s : State) (cl a : Nat) : State :=
  s.withVec cl a fun s c d =>
    if vdOp d = 0x40 then s.vecTopk cl c d
    else
      let op := Config.vecOp (vdOp d)
      let n := vdN d
      let sf := if op = .ofInt32 ∨ op = .toInt32 then 15 else vdSf d
      let df := if op = .toInt32 ∨ op = .ofInt32 then 15 else vdDf d
      let m := match op with
        | .sum | .reduceMax | .reduceMin => 1
        | _ => n
      let srcs := (List.range (vecArity op)).map (vdSrc d)
      s.reading cl (srcs.map fun x => (x, vecBytes sf n)) fun s => s.writing cl 2 [(vdDst d, vecBytes df m)] fun s =>
        let xs := (srcs.map fun x => c.vecSrc x sf n)
        let at' (j i : Nat) : Num × Bool := (xs.getD j []).getD i (Num.zero, false)
        let all := (xs.getD 0 []).map (·.1)
        let anyBad := (xs.getD 0 []).any (·.2)
        let res : List (Nat × Bool) := match op with
          | .sum => [(vecCode df (reduceVals addFp32 (some Num.zero) all), anyBad)]
          | .reduceMax => [(vecCode df (reduceVals Num.maxR none all), anyBad)]
          | .reduceMin => [(vecCode df (reduceVals Num.minR none all), anyBad)]
          | .toInt32 => (List.range n).map fun i => (vecInt32 (at' 0 i).1, (at' 0 i).2)
          | .ofInt32 => (List.range n).map fun i =>
            let e := c.vecElem (vdSrc d 0) 32 i
            (fp32Code (Num.ofInt (signedOf 32 e.1) 0), e.2)
          | op => (List.range n).map fun i =>
            (vecCode df (vecEach op (vdFn d) (at' 0 i).1 (at' 1 i).1 (at' 2 i).1), (at' 0 i).2 || (at' 1 i).2 || (at' 2 i).2)
        let c := c.writeElems (vdDst d) (vecBits df) res
        let busy := vecBusyOf op (vdFn d) n
        s.setCluster cl (c.vecRun busy (vecSpans busy (vecRate op (vdFn d)) n (srcs.map fun x => (x, vecBits sf)) [(vdDst d, vecBits df, m)]))

/-- VOP. -/
def execVop (cl descAddr : Nat) (s : State) : Out := .next (s.vop cl descAddr)

/-- TOPK. -/
def execTopk (cl descAddr : Nat) (s : State) : Out := .next (s.withVec cl descAddr fun s c d => s.vecTopk cl c d)

/-! ## Quantize (R88, R89) -/

/-- emax of an element (R88). -/
def mxEmax (e : MxElem) : Int := match e with
  | .e4m3 => 8
  | .e5m2 => 15
  | .e2m3 => 2
  | .e3m2 => 4
  | .e2m1 => 2
  | .mxint8 => 0

/-- Bits of an element. -/
def mxBits (e : MxElem) : Nat := match e with
  | .e2m3 | .e3m2 => 6
  | .e2m1 => 4
  | _ => 8

/-- round_rne_saturate of R88. -/
def mxCode (e : MxElem) (x : Num) : Nat := match e with
  | .e4m3 => fmtE4M3.encodeSat x
  | .e5m2 => fmtE5M2.encodeSat x
  | .e2m3 => fmtE2M3.encodeSat x
  | .e3m2 => fmtE3M2.encodeSat x
  | .e2m1 => fmtE2M1.encodeSat x
  | .mxint8 => match x with
    | .nan => 0
    | .inf neg => if neg then codeOfInt 8 (-128) else 127
    | .fin _ _ _ => codeOfInt 8 (max (-128) (min 127 (x.scale 6).toIntRne))

/-- quantize_block of R88: the E8M0 scale byte, its exponent where the block has one, and the codes. -/
def quantBlock (e : MxElem) (xs : List Num) : Nat × Option Int × List Nat :=
  if xs.any fun x => x = .nan then (255, none, xs.map fun _ => 0)
  else
    let abs (x : Num) : Num := match x with
      | .fin _ m k => .fin false m k
      | .inf _ => .inf false
      | .nan => .nan
    let amax := (xs.map abs).foldl Num.maxR Num.zero
    let sc : Int := match amax with
      | .fin _ m _ => if m = 0 then -127 else max (-127) (min 127 (amax.log2Floor - mxEmax e))
      | _ => 127
    ((sc + 127).toNat, if amax.isZero then none else some sc, xs.map fun x => mxCode e (x.scale (-sc)))

/-- QUANTIZE: one row of n FP32 values at SRC0; a last block of fewer than 32 is quantized as it is, and no codes are written for the places it lacks
(DESIGN CHOICE, log entry 70); the codes are written at DST, the scale bytes at SRC1 and the row's 16-bit scale summary
at SRC2 (DESIGN CHOICE, log entry 28: the spec does not give the operation's fields). -/
def State.quantize (s : State) (cl a : Nat) (e : MxElem) : State :=
  s.withVec cl a fun s c d =>
    let n := vdN d
    let blocks := ceilDiv n 32
    s.reading cl [(vdSrc d 0, 4 * n)] fun s =>
      s.writing cl 2 [(vdDst d, ceilDiv (mxBits e * n) 8), (vdSrc d 1, blocks), (vdSrc d 2, 2)] fun s =>
      let xs := c.vecSrc (vdSrc d 0) 15 n
      let qs := (chunks 32 xs).map fun b => (quantBlock e (b.map (·.1)), b.any (·.2))
      let codes := (chunks 32 xs).flatMap fun b =>
        let q := quantBlock e (b.map (·.1))
        let bad := b.any (·.2)
        q.2.2.map fun v => (v, bad)
      let sum : Int := match (qs.filterMap fun q => q.1.2.1) with
        | [] => 0
        | x :: r => r.foldl max x
      let bad := xs.any (·.2)
      let c := c.writeElems (vdDst d) (mxBits e) codes
      let c := c.writeElems (vdSrc d 1) 8 (qs.map fun q => (q.1.1, q.2))
      let c := c.writeElems (vdSrc d 2) 16 [(codeOfInt 16 sum, bad)]
      let busy := 2 * ceilDiv n 256 + 14
      s.setCluster cl (c.vecRun busy (vecSpans busy 256 n [(vdSrc d 0, 32)]
        [(vdDst d, mxBits e, n), (vdSrc d 1, 8, blocks), (vdSrc d 2, 16, 1)]))

/-- QUANTIZE. -/
def execQuantize (cl descAddr : Nat) (elem : MxElem) (s : State) : Out := .next (s.quantize cl descAddr elem)

end Sys2Proof.Machine
end

