-- ==== Sys2Proof/Machine/Pip.lean ====
section
/-! DEFINITION. The Pip unit's arithmetic (10_generation.md R209 to R212, R214): Philox-4x32-10, sampling, log-probabilities and stop
sequences. -/

namespace Sys2Proof.Machine

/-- FP32 product. -/
def mulFp32 (x y : Num) : Num := roundFp32 (x.mul y)

/-- The FP32 quotient of two values, rounded to nearest even. -/
def divFp32 (x y : Num) : Num :=
  match x, y with
  | .nan, _ => .nan
  | _, .nan => .nan
  | .inf a, .inf _ => if a then .nan else .nan
  | .inf a, .fin b _ _ => .inf (a != b)
  | .fin a _ _, .inf b => .fin (a != b) 0 0
  | .fin a m e, .fin b n f =>
    if n = 0 then (if m = 0 then .nan else .inf (a != b))
    else if m = 0 then .fin (a != b) 0 0
    else
      let k := 64 + Nat.log2 n
      let q := m * 2 ^ k / n
      let sticky := b2n (decide (m * 2 ^ k % n ≠ 0))
      roundFp32 (.fin (a != b) (2 * q + sticky) (e - f - k - 1))

/-- FP32 difference. -/
def subFp32 (x y : Num) : Num := addFp32 x y.neg

/-! ## Philox-4x32-10 (the standard constants, R209) -/

/-- One round on four counter words with two key words. -/
def philoxRound (c k : List Nat) : List Nat :=
  let p0 := 0xD2511F53 * c.getD 0 0
  let p1 := 0xCD9E8D57 * c.getD 2 0
  [(p1 / 2 ^ 32) ^^^ c.getD 1 0 ^^^ k.getD 0 0, p1 % 2 ^ 32, (p0 / 2 ^ 32) ^^^ c.getD 3 0 ^^^ k.getD 1 0, p0 % 2 ^ 32]

/-- Ten rounds, the key bumped between them. -/
def philox (seed : Nat) (counter : List Nat) : List Nat :=
  ((List.range 10).foldl (fun (x : List Nat × List Nat) _ =>
    (philoxRound x.1 x.2, [(x.2.getD 0 0 + 0x9E3779B9) % 2 ^ 32, (x.2.getD 1 0 + 0xBB67AE85) % 2 ^ 32]))
    (counter, [seed % 2 ^ 32, seed / 2 ^ 32 % 2 ^ 32])).1

/-! ## Sampling (R209) -/

/-- Sampling parameters of a generation block (Table HOST-10). -/
structure PipParams where
  temp : Num
  topK : Nat
  minP : Num
  topP : Num
  rep : Num
  pres : Num
  window : Nat
  alts : Nat
  bias : List (Nat × Nat)
  mask : Option (List Byte)
  seed : Nat

/-- A token and its value. -/
abbrev TokVal := Nat × Num

/-- Does the mask allow a token? -/
def PipParams.allows (p : PipParams) (t : Nat) : Bool := match p.mask with
  | none => true
  | some m => bitOf (m.getD (t / 8) 0).toNat (t % 8)

/-- A logit after bias and penalties. -/
def PipParams.adjust (p : PipParams) (recent : List Nat) (t : Nat) (z : Num) : Num :=
  let z := (p.bias.filter fun e => e.1 = t).foldl (fun z e => addFp32 z (fp32Val e.2)) z
  if t ∈ recent then subFp32 (if Num.zero.lt z then divFp32 z p.rep else mulFp32 z p.rep) p.pres else z

/-- The live tokens with y, in ascending token ID; empty where no token is live. -/
def PipParams.live (p : PipParams) (z : List Num) (hist : List Nat) : List TokVal :=
  let recent := (hist.drop (hist.length - p.window)).eraseDups
  let all : List TokVal := (List.range z.length).map fun t => (t, p.adjust recent t (z.getD t Num.zero))
  let ok := all.filter fun e => p.allows e.1 && decide (e.2 ≠ .nan) && decide (e.2 ≠ .inf true)
  let ok := if ok.any fun e => e.2 = .inf false then (ok.filter fun e => e.2 = .inf false).map fun e => (e.1, Num.zero) else ok
  let t := if p.temp.isZero then fp32Val 0x3F800000 else p.temp
  ok.map fun e => (e.1, divFp32 e.2 t)

/-- Tokens by y, best first (R133). -/
def byY (l : List TokVal) : List TokVal := sortBy (fun a b => rankAbove true a.2 b.2 a.1 b.1) l

/-- The largest y. -/
def maxY (l : List TokVal) : Num := match l with
  | [] => Num.zero
  | e :: r => r.foldl (fun m x => m.maxR x.2) e.2

/-- Prefix sums in list order, added one by one. -/
def prefixSums (w : List Num) : List Num :=
  (w.foldl (fun (x : List Num × Option Num) v =>
    let c := match x.2 with
      | none => v
      | some a => addFp32 a v
    (x.1 ++ [c], some c)) ([], none)).1

/-- The token drawn for index `idx` of a lane from its live tokens. -/
def PipParams.draw (p : PipParams) (live : List TokVal) (idx lane : Nat) : Nat :=
  if p.temp.isZero then ((byY live).headD (0, Num.zero)).1
  else
    let cand := if 0 < p.topK then (byY live).take p.topK else live
    let ymax := maxY cand
    let w := cand.map fun e => (e.1, vecFnVal .exp (subFp32 e.2 ymax))
    let w := if 0 < p.topK then w.filter fun e => !e.2.lt p.minP else w
    let c := prefixSums (w.map (·.2))
    let bound := mulFp32 p.topP (c.getLastD Num.zero)
    let jEnd := ((List.range c.length).find? fun j => !(c.getD j Num.zero).lt bound).getD (c.length - 1)
    let u : Num := .fin false ((philox p.seed [idx, lane, 0, 0]).getD 0 0 / 256) (-24)
    let target := mulFp32 u (c.getD jEnd Num.zero)
    let j := ((List.range (jEnd + 1)).find? fun j => target.lt (c.getD j Num.zero)).getD jEnd
    (w.getD j (0, Num.zero)).1

/-- Log-probability of a value of y among the live tokens (R211). -/
def logProb (live : List TokVal) (y : Num) : Num :=
  let ymax := maxY live
  let s := reduceVals addFp32 (some Num.zero) (live.map fun e => vecFnVal .exp (subFp32 e.2 ymax))
  subFp32 (subFp32 y ymax) (vecFnVal .log s)

/-- What a draw reports: token, its log-probability, and the alternatives (R211). -/
structure PipOut where
  token : Nat
  logp : Nat
  alts : List (Nat × Nat)
  deriving DecidableEq, Repr

/-- pip_sample with its report; none where no token is live (R210). -/
def PipParams.sample (p : PipParams) (z : List Num) (hist : List Nat) (idx lane : Nat) : Option PipOut :=
  let live := p.live z hist
  if live.isEmpty then none
  else
    let t := p.draw live idx lane
    let lp (x : Num) : Nat := fp32Code (logProb live x)
    some ⟨t, lp (((live.find? fun e => e.1 = t).map (·.2)).getD Num.zero), ((byY live).take p.alts).map fun e => (e.1, lp e.2)⟩

/-- A token record (Table GENS-3), not the lane's last. -/
def PipOut.record (x : PipOut) (pos lane : Nat) : List Byte :=
  leBytes 4 x.token ++ leBytes 4 x.logp ++ leBytes 4 pos ++ leBytes 1 lane ++ leBytes 1 x.alts.length ++ [0, 0] ++
    x.alts.flatMap fun a => leBytes 4 a.1 ++ leBytes 4 a.2

/-- A token record marked as the lane's last. -/
def markLast (b : List Byte) : List Byte := b.take 14 ++ [1] ++ b.drop 15

/-! ## Stop sequences (R212) -/

/-- Does a list end with another? -/
def endsWith (l e : List Nat) : Bool := decide (e.length ≤ l.length) && l.drop (l.length - e.length) == e

/-- The lowest stop sequence that matches at the end. -/
def stopHit (stops : List (List Nat)) (tokens : List Nat) : Option Nat := (List.range stops.length).find? fun i => endsWith tokens (stops.getD i [])

/-- How many tokens at the end form a proper prefix of some stop sequence, at most. -/
def heldBack (stops : List (List Nat)) (tokens : List Nat) : Nat :=
  ((List.range 64).filter fun n => decide (n ≤ tokens.length) && stops.any fun x => decide (n < x.length) && endsWith tokens (x.take n)).foldl Nat.max 0

/-! ## Assignment of lanes to units (R214) -/

/-- Cycles of a Pip unit for a lane. -/
def pipCycles (vocab window topK alts : Nat) : Nat := 2 * ceilDiv vocab 64 + ceilDiv window 64 + ceilDiv (Nat.max topK alts) 16 + 60

/-- Each lane in row order goes to the lowest-numbered free unit: the units of lanes of the given cycles, all units free at first. -/
def pipAssign (units cycles : List Nat) : List Nat :=
  (cycles.foldl (fun (x : List Nat × List (Nat × Nat)) c =>
    match minBy (fun e => e.2) x.2 with
    | none => x
    | some u => (x.1 ++ [u.1], x.2.map fun e => if e.1 = u.1 then (e.1, e.2 + c) else e)) ([], units.map fun u => (u, 0))).1

end Sys2Proof.Machine
end

