-- ==== Sys2Proof/Machine/Gen.lean ====
section
/-! DEFINITION. Generation (10_generation.md R196 to R213): requests and their admission, the step scheduler, pausing, delivery of tokens, the
end of a request, sampling, and OP_STEP_CONTROL. -/

namespace Sys2Proof.Machine

/-- A field of the generation block (Table HOST-10). -/
def Gen.g (x : Gen) (o n : Nat) : Nat := fieldLe x.block o n
/-- CTL bits. -/
def Gen.ctl (x : Gen) (i : Nat) : Bool := bitOf (x.g 7 1) i
/-- TREE_MATCH. -/
def Gen.treeMatch (x : Gen) : Bool := x.ctl 3
/-- MDL_INSERT. -/
def Gen.insert (x : Gen) : Bool := x.ctl 4
/-- INCLUDE_STOP. -/
def Gen.includeStop (x : Gen) : Bool := x.ctl 6
/-- MAX_NEW. -/
def Gen.maxNew (x : Gen) : Nat := x.g 12 4
/-- The key of the request. -/
def Gen.key (x : Gen) : ReqKey := (x.client, x.req)
/-- Is it paused? -/
def Gen.paused (x : Gen) : Bool := x.pausedAt.isSome
/-- The generations of a partition, in order of admission. -/
def State.gensOf (s : State) (p : Nat) : List Gen :=
  sortBy (fun a b => decide (a.order < b.order)) (s.gens.filter fun g => g.part = p && g.phase ≠ .ended)

/-- The generation of a request. -/
def State.gen? (s : State) (k : ReqKey) : Option Gen := s.gens.find? fun g => g.key = k

/-! ## Reservation (R197) -/

/-- Blocks a generation needs with `m` blocks matched. -/
def blocksNeeded (plen maxNew lanes m : Nat) : Nat := (ceilDiv plen 256 - m) + lanes * (ceilDiv (plen + maxNew) 256 - plen / 256)

/-- Blocks of a pool: frames and spill blocks. -/
def Pool.capacity (x : Pool) : Nat := x.frames + x.flashBlocks

/-- Blocks a pool has promised: reserved by admitted requests, and blocks of nodes with REF above 0. -/
def State.promised (s : State) (p : Nat) : Nat :=
  ((s.gens.filter fun g => g.pool = p).map (·.reserved)).foldl (· + ·) 0 +
    ((s.tree p).slots.filter fun (e : Nat × MNode) => e.2.state = 1 && decide (0 < e.2.ref)).length

/-! ## Delivery (R212) -/

/-- Delivered tokens of a generation with DETOK are fed to its stream by a Zest engine; the bytes released go to the host. The stream is freed with the
lane's end. -/
def State.feedDetok (s : State) (g : Gen) (tokens : List Nat) (last : Bool) : State :=
  if !g.ctl 7 || s.streamTaken (64 * g.client + g.g 46 1) g.order then s
  else match aget s.vocabs (g.g 47 1), (aget s.vocabs (g.g 47 1)).bind fun v => s.zestFor v.part with
    | some v, some e =>
      let z := 64 * g.client + g.g 46 1
      let st := (aget s.streams z).getD (ZStream.fresh (g.g 47 1) true)
      let y := detokenize v st tokens false last
      let s := s.putStreams (if last then adel s.streams z else aput s.streams z y.1)
      let s := (s.zestCount e y.2.length (y.1.invalid - st.invalid)).zestTime g.client y.2.length
      if y.2.isEmpty then s else s.updHost fun h => { h with texts := h.texts ++ [(g.client, g.g 46 1, y.2)] }
    | _, _ => s

/-- One record is delivered: written to the output buffer and counted; an interim entry follows every PROGRESS tokens. -/
def State.deliverOne (s : State) (k : ReqKey) (lane : Nat) (rec' : List Byte) : State :=
  match s.gen? k with
  | none => s
  | some g =>
    let s := s.putOut k (g.outBase + g.outPos) rec'
    if !s.live k then s
    else
    let s := s.updReq k fun r => { r with delivered := r.delivered + 1 }
    let s := s.updGen k fun g => { g with
      outPos := g.outPos + rec'.length
      sinceProgress := g.sinceProgress + 1
      lanes := g.lanes.modify lane fun l => { l with delivered := l.delivered + 1 } }
    if g.g 68 4 ≠ 0 ∧ g.g 68 4 ≤ g.sinceProgress + 1 then
      (s.updGen k fun g => { g with sinceProgress := 0 }).interim k stOk (((s.req? k).map (·.delivered)).getD 0) g.matched
    else s

/-- Records of a lane are delivered in order; the last one is marked where the lane ends. -/
def State.deliver (s : State) (k : ReqKey) (lane : Nat) (recs : List (List Byte)) (last : Bool) : State :=
  match s.gen? k with
  | none => s
  | some g =>
    let recs := if last then recs.dropLast ++ (recs.getLast?.map markLast).toList else recs
    let s := recs.foldl (fun s b => s.deliverOne k lane b) s
    s.feedDetok g (recs.map fun b => fieldLe b 0 4) last

/-- A lane ends: its held tokens are delivered. -/
def State.endLane (s : State) (k : ReqKey) (lane why : Nat) : State :=
  match (s.gen? k).bind fun g => g.lanes[lane]? with
  | none => s
  | some l =>
    if l.ended.isSome then s
    else (s.deliver k lane l.held true).updGen k fun g => { g with lanes := g.lanes.modify lane fun l => { l with held := [], ended := some why } }

/-! ## Offering blocks to the tree (R191) -/

/-- The root key of a generation's tree. -/
def State.genRoot (s : State) (g : Gen) : Nat :=
  s.rootKey g.pool (((aget s.weights g.model).map (·.digest)).getD []) (s.adapterDigest g.part g.adapter)

/-- A block is offered as the child of the request's node of the block before it; where it is taken the node is the request's own. -/
def State.offerGen (s : State) (k : ReqKey) (key b parent block : Nat) : State × Option Nat × Bool :=
  match s.gen? k with
  | none => (s, none, false)
  | some g =>
    let o := s.offerBlock g.pool key parent b block
    (match o.2.1 with
     | none => o.1
     | some _ => o.1.updGen k fun g => { g with reserved := g.reserved - 1 }, o.2)

/-- The full blocks of a prompt up to position `pos` that follow the request's nodes are offered, in order, until one is not taken: no later block of
the request is offered then (R191). -/
def State.offerPrompt (s : State) (k : ReqKey) (pos : Nat) : State :=
  match s.gen? k with
  | none => s
  | some g =>
    if !g.insert then s
    else
      let n := g.nodes.length
      (List.range (pos / 256)).foldl (fun s b =>
        match s.gen? k with
        | none => s
        | some g =>
          if b < n ∨ g.nodes.length ≠ b ∨ g.noOffer then s
          else match s.offerGen k (chainKey (s.genRoot g) g.prompt (b + 1)) b (g.nodes.getLast?.getD 0xFFFFFFFF) (g.blocks.getD b 0) with
            | (s, some i, _) => s.updGen k fun g => { g with nodes := g.nodes ++ [i] }
            | (s, none, _) => s.updGen k fun g => { g with noOffer := true }) s

/-- The full blocks of a lane that follow the prompt's nodes are offered in the same way; their pins go at once. After an insert that failed no later block
of the request is offered, in another lane either (R191). -/
def State.offerLane (s : State) (k : ReqKey) (lane : Nat) : State :=
  match s.gen? k with
  | none => s
  | some g => match g.lanes[lane]? with
    | none => s
    | some l =>
      let first := g.plen / 256
      let written := g.plen + l.tokens.length - 1
      let seq := g.prompt ++ l.tokens
      if !g.insert ∨ g.noOffer ∨ g.nodes.length ≠ first ∨ l.tokens.isEmpty then s
      else
        let x := (List.range (written / 256 - first)).foldl (fun (x : State × List Nat × Bool) i =>
          if x.2.2 then x
          else match x.1.offerGen k (chainKey (x.1.genRoot g) seq (first + i + 1)) (first + i) (x.2.1.getLast?.getD (g.nodes.getLast?.getD 0xFFFFFFFF))
              (l.blocks.getD i 0) with
            | (s, some n, _) => (s, x.2.1 ++ [n], false)
            | (s, none, failed) => (if failed then s.updGen k fun g => { g with noOffer := true } else s, x.2.1, true)) (s, [], false)
        x.2.1.foldl (fun s n => s.unpin g.pool n) x.1

/-! ## The end of a generation (R204, R213) -/

/-- The record is written and the request ends. -/
def State.finishGen (s : State) (k : ReqKey) (status : Nat) : State :=
  match s.gen? k, s.req? k with
  | some g, some r =>
    let s := s.putRec k g.recBase (g.record k.2)
    let x := s.genDetail g r.opcode
    x.1.endReq k status r.delivered x.2
  | _, _ => s

/-- A lane ends with its held tokens discarded: its stream ends with what it has been fed (R212). -/
def State.dropLane (s : State) (k : ReqKey) (lane : Nat) : State :=
  match (s.gen? k).bind fun g => g.lanes[lane]? with
  | none => s
  | some l =>
    if l.ended.isSome then s
    else (s.deliver k lane [] true).updGen k fun g => { g with lanes := g.lanes.modify lane fun l => { l with held := [], ended := some 5 } }

/-- A generation ends with an error; tokens it holds are discarded on ST_POISON, else delivered first. -/
def State.failGen (s : State) (k : ReqKey) (status : Nat) : State :=
  match s.gen? k with
  | none => s
  | some g =>
    let s := (List.range g.lanes.length).foldl (fun s i =>
      if status = stPoison then s.dropLane k i else s.endLane k i 5) s
    s.finishGen k status

/-- A generation ends by its deadline or a cancel: held tokens are delivered, its full blocks are offered to the tree, and the rest is freed. -/
def State.stopGen (s : State) (k : ReqKey) (status : Nat) : State :=
  match s.gen? k with
  | none => s
  | some g =>
    let s := (List.range g.lanes.length).foldl (fun s i => s.endLane k i (if status = stDeadline then 2 else 3)) s
    let s := s.offerPrompt k g.pos
    let s := (List.range g.lanes.length).foldl (fun s i => s.offerLane k i) s
    s.finishGen k status

/-- The status of a generation all of whose lanes have ended (R213, R313). -/
def Gen.status (g : Gen) : Nat :=
  if g.lanes.any fun l => l.ended = some 4 then stEmptyMask
  else if g.few then stFewResults
  else if 0 < g.spanBefore + g.span then stInfoSpan
  else stOk

/-- A generation all of whose lanes have ended completes. -/
def State.settleGen (s : State) (k : ReqKey) : State :=
  match s.gen? k with
  | none => s
  | some g => if g.lanes.all fun l => l.ended.isSome then s.finishGen k g.status else s

/-! ## The step scheduler (R200 to R202) -/

/-- MACs of a lane's row that attends to `keys` keys. -/
def laneMacs (w : WeightSet) (keys : Nat) : Nat := w.linMacs + w.attMacs * keys + w.headMacs

/-- MACs of a chunk of `n` rows from position `pos`; the prompt's last row samples. -/
def chunkMacs (w : WeightSet) (pos n plen : Nat) : Nat :=
  n * w.linMacs + w.attMacs * (n * pos + n * (n + 1) / 2) + (if pos + n = plen then w.headMacs else 0)

/-- The weight set of a generation. -/
def State.genWeights (s : State) (g : Gen) : WeightSet :=
  (aget s.weights g.model).getD ⟨0, 0, [], 0, 0, 0, 0, 0, 0, 0, 0, 0, 0, [], 0, 0, [], [], false⟩

/-- The decode rows of a generation: one for each lane that has not ended. -/
def State.laneRows (s : State) (g : Gen) : List StepRow :=
  (List.range g.lanes.length).filterMap fun i => (g.lanes[i]?).bind fun l =>
    if l.ended.isSome then none else some ⟨g.client, g.req, 1, i, 0, 1, laneMacs (s.genWeights g) (g.plen + l.tokens.length)⟩

/-- Rows in a list of row ranges. -/
def rowCount (rs : List StepRow) : Nat := (rs.map (·.count)).foldl (· + ·) 0

/-- Context of a request in a step: the positions its rows read. -/
def Gen.context (g : Gen) (rs : List StepRow) : Nat :=
  if g.phase = .decode then g.plen + (g.lanes.map fun l => l.tokens.length).foldl Nat.max 0
  else g.pos + rowCount (rs.filter fun r => (r.client, r.req) = g.key)

/-- The step-time model of R200 for rows of a partition, in ns. -/
def State.stepEst (s : State) (p : Nat) (rs : List StepRow) : Nat :=
  let gs := (s.gensOf p).filter fun g => rs.any fun r => (r.client, r.req) = g.key
  let fit := (s.part p).steps / 64
  let f := 625 * (10 + s.rd R.pwrDstatStep (s.partFirst p))
  let macs := (rs.map (·.macs)).foldl (· + ·) 0
  let weights := ((gs.map (·.model)).eraseDups.map fun m => ((aget s.weights m).map (·.weightBytes)).getD 0).foldl (· + ·) 0
  let state := (gs.map fun g => (s.genWeights g).stateBytes * g.context rs).foldl (· + ·) 0
  let pip := (gs.map fun g => pipCycles (s.genWeights g).vocab (g.g 34 2) (g.g 32 2) (g.g 18 1)).foldl Nat.max 0
  Nat.max (macs * 10 ^ 7 / (s.partSize p * 32768 * f * Config.fitEta p fit)) ((weights + state) * 1000 / Config.fitRate p fit) + pip + 20000

/-- TPOT goal of a class in ns. -/
def State.tpot (s : State) (c : Nat) : Option Nat := match s.rd R.cfgPrioTpotGoal c with
  | 0 => none
  | n => some (n * 100000)

/-- The least TPOT goal of some generations. -/
def State.leastTpot (s : State) (gs : List Gen) : Option Nat :=
  gs.foldl (fun (m : Option Nat) g => match m, s.tpot g.cls with
    | some a, some b => some (Nat.min a b)
    | none, b => b
    | a, none => a) none

/-- Is an estimate above a goal? -/
def above (goal : Option Nat) (est : Nat) : Bool := match goal with
  | none => false
  | some g => decide (g < est)

/-- Running decode requests that are not paused. -/
def State.decoding (s : State) (p : Nat) : List Gen := (s.gensOf p).filter fun g => g.phase = .decode && !g.paused

/-- protect_goals of R201: pauses decode requests of the lowest class, the latest admitted first, while a goal is at risk; `fuel` bounds the
pauses. -/
def State.protect (fuel : Nat) (s : State) (p : Nat) : State :=
  match fuel with
  | 0 => s
  | f + 1 =>
    let gs := s.decoding p
    let goal := s.leastTpot gs
    if !above goal (s.stepEst p (gs.flatMap s.laneRows)) then s
    else
      let risk := (gs.filter fun g => s.tpot g.cls = goal).map (·.cls)
      if gs.all fun g => g.cls ∈ risk then s
      else
        let low := (gs.map (·.cls)).foldl Nat.max 0
        match (gs.filter fun g => g.cls = low).getLast? with
        | none => s
        | some g =>
          let s := s.updGen g.key fun g => { g with schedPaused := some s.now }
          (s.charge g.client fun a => { a with pauses := a.pauses + 1 }).protect f p

/-- The largest n, in steps of 256, whose estimate keeps the goal, at least 256. -/
def State.shrink (fuel : Nat) (s : State) (p : Nat) (rows : List StepRow) (goal : Option Nat) (mk : Nat → StepRow) (n : Nat) : Nat :=
  match fuel with
  | 0 => n
  | f + 1 => if 256 < n ∧ above goal (s.stepEst p (rows ++ [mk n])) then s.shrink f p rows goal mk (n - 256) else n

/-- One request of the prefill order takes its chunk; the flags: no chunk yet, stopped (R200). -/
def State.chunkOne (s : State) (p : Nat) (goal : Option Nat) (x : List StepRow × Bool × Bool) (g : Gen) : List StepRow × Bool × Bool :=
  if x.2.2 then x
  else
    let left := g.plen - g.pos
    let chunk := if g.g 17 1 = 0 then s.rd R.mdlPoolChunk g.pool else g.g 17 1
    let n := Nat.min left (Nat.min (256 * chunk) (s.rd R.mdlPoolRowsMax g.pool - rowCount x.1))
    let n := if n < left then 256 * (n / 256) else n
    let mk (n : Nat) : StepRow := ⟨g.client, g.req, 2, 0, 0, n, chunkMacs (s.genWeights g) g.pos n g.plen⟩
    let n := s.shrink (n / 256 + 1) p x.1 goal mk n
    if n = 0 then (x.1, x.2.1, true)
    else if !x.2.1 && above goal (s.stepEst p (x.1 ++ [mk n])) then (x.1, x.2.1, true)
    else (x.1 ++ [mk n], false, false)

/-- The prefill order: class, then admission plus the class's TTFT goal, then order of admission. -/
def State.prefillOrder (s : State) (p : Nat) : List Gen :=
  let due (g : Gen) : Nat := g.admittedAt + 1000000 * s.rd R.cfgPrioTtftGoal g.cls
  sortBy (fun a b => decide (a.cls < b.cls) || (a.cls = b.cls && (decide (due a < due b) || (due a = due b && decide (a.order < b.order)))))
    ((s.gensOf p).filter fun g => g.phase = .prefill && !g.paused)

/-- Numbers the rows of a step in order. -/
def numberRows (rs : List StepRow) : List StepRow :=
  (rs.foldl (fun (x : List StepRow × Nat) r => (x.1 ++ [{ r with first := x.2 }], x.2 + r.count)) ([], 0)).1

/-- The rows of the next step (R200). -/
def State.composeRows (s : State) (p : Nat) : List StepRow :=
  let gs := s.decoding p
  let rows := gs.flatMap s.laneRows
  numberRows ((s.prefillOrder p).foldl (s.chunkOne p (s.leastTpot gs)) (rows, true, false)).1

/-- Are all blocks of a generation in frames? -/
def State.allResident (s : State) (g : Gen) : Bool := g.table.all fun e => s.resident g.pool e.2

/-- The restores of a generation's blocks on flash begin. -/
def State.restoreGen (s : State) (g : Gen) : State := g.table.foldl (fun s e => s.startRestore g.pool e.2 g.key) s

/-- resume_paused of R202: ascending class, earliest paused first, while the estimate with the request added stays within 0.9 of the least TPOT goal;
one whose blocks are on flash has their restore start when it reaches the head of that order. -/
def State.resumePaused (s : State) (p : Nat) (rows : List StepRow) : State :=
  let at' (g : Gen) : Nat := g.schedPaused.getD 0
  let l := sortBy (fun a b => decide (a.cls < b.cls) || (a.cls = b.cls && (decide (at' a < at' b) || (at' a = at' b && decide (a.order < b.order)))))
    ((s.gensOf p).filter fun g => g.schedPaused.isSome && g.hostPaused.isNone)
  (l.foldl (fun (x : State × List StepRow × Bool) g =>
    if x.2.2 then x
    else
      let s := x.1
      let rows := x.2.1 ++ s.laneRows g
      let goal := (s.leastTpot (g :: s.decoding p)).map fun n => 9 * n / 10
      if !s.allResident g then (s.restoreGen g, x.2.1, true)
      else if above goal (s.stepEst p rows) then (s, x.2.1, true)
      else ((s.chargePause g).updGen g.key fun g => { g with schedPaused := none }, rows, false)) (s, rows, false)).1

/-- The blocks that a row of the next step writes are there (R206): new ones are taken from the pool. -/
def State.rowBlocks (s : State) (r : StepRow) : State :=
  let k : ReqKey := (r.client, r.req)
  match s.gen? k with
  | none => s
  | some g =>
    if r.kind = 2 then
      (List.range (ceilDiv (g.pos + r.count) 256 - g.blocks.length)).foldl (fun s _ => match s.newBlock g.pool k with
        | (s, some b) => s.updGen k fun g => { g with blocks := g.blocks ++ [b] }
        | (s, none) => s) s
    else match g.lanes[r.lane]? with
      | none => s
      | some l =>
        let q := g.plen + l.tokens.length - 1
        if q / 256 < g.plen / 256 then s
        else (List.range (q / 256 + 1 - g.plen / 256 - l.blocks.length)).foldl (fun s _ => match s.newBlock g.pool k with
          | (s, some b) => s.updGen k fun g => { g with lanes := g.lanes.modify r.lane fun l => { l with blocks := l.blocks ++ [b] } }
          | (s, none) => s) s

/-- The generations with rows in a step. -/
def State.stepGens (s : State) (rs : List StepRow) : List Gen := ((rs.map fun r => ((r.client, r.req) : ReqKey)).eraseDups).filterMap s.gen?

/-- The PAUSEs and RESUMEs of the host take effect at the boundary, in order (R203). -/
def State.hostControl (s : State) (g : Gen) : State :=
  let k := g.key
  (g.controls.foldl (fun s pause =>
    if pause then
      (s.updGen k fun g => { g with hostPaused := some s.now }).interim k stPaused (((s.req? k).map (·.delivered)).getD 0) g.matched
    else s.updGen k fun g => { g with hostPaused := none }) s).updGen k fun g => { g with controls := [] }

/-- Has retirement left a generation with DETOK without a Zest engine (R326)? -/
def State.lacksZest (s : State) (g : Gen) : Bool := g.ctl 7 && (aget s.vocabs (g.g 47 1)).any fun v => (s.zestFor v.part).isNone

/-- Requests that a step boundary ends (R204, R326, R397): those with ST_POISON pending, then those expired or cancelled, and those that lack an engine. -/
def State.genBoundary (s : State) (p : Nat) : State :=
  let s := (s.part p).poisonPending.foldl (fun s k => if (s.gen? k).isSome then s.failGen k stPoison else s.endReq k stPoison (((s.req? k).map (·.delivered)).getD 0) 0) s
  let s := s.setPart p { s.part p with poisonPending := [] }
  (s.gensOf p).foldl (fun s g => match (s.req? g.key).bind s.boundary with
    | some st => s.stopGen g.key st
    | none => if s.lacksZest g then s.failGen g.key stNoResource else s) s

/-- May the scheduler compose: the partition runs, no step is running or composed, and every lane of the last step has been sampled? -/
def State.mayCompose (s : State) (p : Nat) : Bool :=
  let x := s.part p
  s.running p && x.running.isNone && x.next.isNone && x.sampling.all fun l => l.done || (s.gen? (l.client, l.req)).isNone

/-- The requests of a partition that the scheduler has paused. -/
def State.schedHeld (s : State) (p : Nat) : Nat := ((s.gensOf p).filter fun g => g.schedPaused.isSome).length

/-- The rows of the next step, and what resume_paused makes of the state (R200): a boundary that composes no row and resumes a request is followed by the
next at once, for no step runs in between; `fuel` bounds them. -/
def State.compose (fuel : Nat) (s : State) (p : Nat) : State × List StepRow :=
  let s := s.protect (s.gens.length + 1) p
  let rows := s.composeRows p
  let t := s.resumePaused p rows
  match fuel with
  | 0 => (t, rows)
  | f + 1 => if rows.isEmpty ∧ t.schedHeld p < s.schedHeld p then t.compose f p else (t, rows)

/-- compose_step of R200 at a step boundary. -/
def State.composeStep (s : State) (p : Nat) : State :=
  if !s.mayCompose p ∨ (s.gensOf p).isEmpty then s
  else
    let y := ((s.gensOf p).foldl State.hostControl s).compose (s.gens.length + 1) p
    let s := y.2.foldl State.rowBlocks y.1
    let s := (s.stepGens y.2).foldl State.restoreGen s
    s.setPart p { s.part p with next := if y.2.isEmpty then none else some y.2, sampling := [] }

/-- A boundary of a partition that runs no step, and what the scheduler makes of it. -/
def State.kickGen (s : State) (p : Nat) : State := if s.mayCompose p then (s.genBoundary p).composeStep p else s

/-! ## Admission (R196, R197) -/

/-- A lane as it starts. -/
def Lane.fresh : Lane := ⟨[], [], 0, none, 0, [], false⟩

/-- A generation begins to wait: OP_GENERATE, or the hand-over of OP_RETRIEVE. -/
def State.beginGen (s : State) (r : Req) (b : List Byte) (prompt : List Nat) (mask : Option (List Byte)) (bias : List (Nat × Nat))
    (stops : List (List Nat)) (outBase recBase : Nat) (few : Bool) (spanBefore : Nat) (matched : List Nat) : State :=
  let k : ReqKey := (r.client, r.id)
  match s.pinnedModel r (fieldLe b 0 4) with
  | none => s.endReq k stState 0 0
  | some (n, w) =>
    let pool := fieldLe b 6 1
    let seed := seedOf b r
    let greedy := (fp32Val (fieldLe b 20 4)).isZero
    let s := s.updReq k fun r => { r with
      shapes := r.shapes ++ [s.shapeEntry w.part 2 w.digest r.adapter]
      seed := if greedy then 0 else seed
      recMask := r.recMask ++ [(recBase, 4), (recBase + 16, 4)] }
    let g : Gen :=
      { client := k.1, req := k.2, part := w.part, block := b, prompt := prompt, model := n, adapter := r.adapter, pool := pool,
        cls := fieldLe b 7 1 % 8, order := r.order, admittedAt := r.admittedAt, seed := seed, phase := .waiting,
        pos := 256 * matched.length, blocks := matched.map fun i => (s.node pool i).block, nodes := matched, matched := matched.length,
        reserved := 0, lanes := List.replicate (fieldLe b 16 1 + 1) Lane.fresh, mask := mask, bias := bias, stops := stops,
        hostPaused := none, controls := r.controls, noOffer := false, schedPaused := none, span := 0, e2m1 := 0,
        sinceProgress := 0, outBase := outBase, outPos := 0, recBase := recBase, few := few, spanBefore := spanBefore }
    s.putGens (s.gens ++ [g])

/-- The buffers a generation block names beside the prompt: MASK, BIAS_LIST, STOP_LIST. -/
def genBufs (b : List Byte) (vocab : Nat) : List (Nat × Nat) :=
  [(fieldLe b 72 8, if fieldLe b 72 8 = 0 then 0 else ceilDiv vocab 8), (fieldLe b 80 8, 8 * fieldLe b 44 2), (fieldLe b 88 8, 260 * fieldLe b 19 1)]

/-- The bias pairs of a buffer. -/
def biasOf (bs : List Byte) : List (Nat × Nat) := (chunks 8 bs).map fun c => (fieldLe c 0 4, fieldLe c 4 4)

/-- The stop sequences of a buffer. -/
def stopsOf (bs : List Byte) : List (List Nat) := (chunks 260 bs).map fun c => (words4 (c.drop 4)).take (fieldLe c 0 4)

/-- Are the lists in order: bias in strictly ascending token ID, stop lengths 1 to 64 (R196)? -/
def goodLists (bias stops : List Byte) : Bool :=
  rising ((biasOf bias).map (·.1)) && (chunks 260 stops).all fun c => decide (1 ≤ fieldLe c 0 4) && decide (fieldLe c 0 4 ≤ 64)

/-- OP_GENERATE: the prompt and the lists are read, and the request waits; with TREE_MATCH its prompt is matched first. -/
def State.opGenerate (s : State) (k : ReqKey) : State := s.onReq k 0x0A fun r =>
  if r.ran then s
  else match s.boundary r with
    | some st => s.endReq k st 0 0
    | none => match s.pinnedModel r (r.p 0 4) with
      | none => s.endReq k stState 0 0
      | some (_, w) => match s.gather k ((r.p 56 8, 4 * r.p 64 4) :: genBufs r.param w.vocab) with
        | (s, none) => s
        | (s, some bufs) =>
          let prompt := words4 (bufs.getD 0 [])
          if !goodLists (bufs.getD 2 []) (bufs.getD 3 []) then s.endReq k stBadDescriptor 0 0
          else
            let s := (s.setInputs k bufs).updReq k fun r => { r with ran := true }
            let s := s.beginGen r r.param prompt (if r.p 72 8 = 0 then none else some (bufs.getD 1 [])) (biasOf (bufs.getD 2 []))
              (stopsOf (bufs.getD 3 [])) 0 0 false 0 []
            match s.req? k with
            | some r => if bitOf (r.p 7 1) 3 ∧ !r.ended then s.startMatch r (r.p 6 1) prompt true else s
            | none => s

/-- OP_GENERATE. -/
def execOpGenerate (client req : Nat) (s : State) : Out := .next (s.opGenerate (client, req))

/-- GEN_ADMISSION: the first waiting request of a class is admitted once its blocks can be reserved (R197), and the commands before it on its stream have
ended (R180). -/
def State.genAdmission (s : State) (p cls : Nat) : State :=
  match (s.gensOf p).find? fun g => g.phase = .waiting && g.cls = cls with
  | none => s
  | some g =>
    let k := g.key
    match (s.req? k).bind s.boundary, s.pool? g.pool with
    | some st, _ => s.stopGen k st
    | none, none => s.failGen k stState
    | none, some x =>
      if s.probes.any fun m => (m.client, m.req) = k && m.forGen && (!m.ended || m.engine.isSome) then s
      else if g.ctl 7 && s.streamTaken (64 * g.client + g.g 46 1) g.order then s
      else if g.ctl 7 && (aget s.streams (64 * g.client + g.g 46 1)).any fun z => (z.slot, z.detok) ≠ (g.g 47 1, true) then s.failGen k stState
      else
        let s := s.putProbes (s.probes.filter fun m => !(decide ((m.client, m.req) = k) && m.forGen))
        let n := blocksNeeded g.plen g.maxNew g.lanes.length g.matched
        if x.capacity < n then s.failGen k stNoResource
        else if x.capacity < n + s.promised g.pool then s
        else (s.updGen k fun g => { g with reserved := n, phase := if g.pos = g.plen then .decode else .prefill }).kickGen p

/-- GEN_ADMISSION. -/
def execGenAdmission (part cls : Nat) (s : State) : Out := .next (s.genAdmission part cls)

/-! ## Sampling -/

/-- The cycles of a generation's lane. -/
def State.laneCycles (s : State) (g : Gen) : Nat := pipCycles (s.genWeights g).vocab (g.g 34 2) (g.g 32 2) (g.g 18 1)

/-- The sampling lanes of rows that have completed, in row order: each decode row, and every lane of a request whose prompt is complete. -/
def State.samplingLanes (s : State) (rs : List StepRow) : List (ReqKey × Nat) :=
  rs.flatMap fun r =>
    let k : ReqKey := (r.client, r.req)
    match s.gen? k with
    | none => []
    | some g =>
      if r.kind = 1 then [(k, r.lane)]
      else if g.pos = g.plen then (List.range g.lanes.length).map fun i => (k, i)
      else []

/-- Is the output row of a lane poisoned (R53): a decode row's own, or the last row of the chunk that completed the prompt? -/
def State.lanePoison (s : State) (p : Nat) (rs : List StepRow) (k : ReqKey) (lane : Nat) : Bool :=
  rs.any fun r => (r.client, r.req) = k && (r.kind = 2 || r.lane = lane) &&
    (s.partClusters p).any fun cl => decide (r.first + r.count - 1 ∈ (s.cluster cl).poisonRows)

/-- The lanes of a completed step go to Pip units (R214); requests with none assigned end with ST_NO_RESOURCE (R326). -/
def State.assignPip (s : State) (p : Nat) (rs : List StepRow) : State :=
  let lanes := s.samplingLanes rs
  let us := s.pipUnits p
  if us.isEmpty then (lanes.map (·.1)).eraseDups.foldl (fun s k => s.failGen k stNoResource) s
  else
    let cycles := lanes.map fun l => ((s.gen? l.1).map s.laneCycles).getD 0
    let units := pipAssign us cycles
    let l : List PipLane := (List.range lanes.length).filterMap fun i => (lanes[i]?).map fun e => ⟨e.1.1, e.1.2, e.2, units.getD i 0, false, s.lanePoison p rs e.1 e.2⟩
    let s := units.eraseDups.foldl (fun s u => s.wr R.pipUstatBusy u 1) s
    s.setPart p { s.part p with sampling := l }

/-- The parameters Pip holds for a generation. -/
def Gen.pip (g : Gen) : PipParams where
  temp := fp32Val (g.g 20 4)
  topK := g.g 32 2
  minP := fp32Val (g.g 24 4)
  topP := fp32Val (g.g 28 4)
  rep := fp32Val (g.g 36 4)
  pres := fp32Val (g.g 40 4)
  window := g.g 34 2
  alts := g.g 18 1
  bias := g.bias
  mask := g.mask
  seed := g.seed

/-- The FP32 logits of a lane's next token (R198, R199). -/
def State.logits (s : State) (g : Gen) (tokens : List Nat) : List Num :=
  let w := s.genWeights g
  let fmt := ((s.pool? g.pool).map (·.format)).getD 0
  (List.range w.vocab).map fun t =>
    fp32Val (Config.logit w.digest (s.adapterDigest g.part g.adapter) (s.partSize g.part) fmt (g.prompt ++ tokens) t).toNat

/-- A sampled token joins its lane: stop sequences, MAX_NEW, held tokens and delivery (R212). -/
def State.takeToken (s : State) (g : Gen) (lane : Nat) (l : Lane) (x : PipOut) : State :=
  let k := g.key
  let tokens := l.tokens ++ [x.token]
  let recs := l.held ++ [x.record (g.plen + l.tokens.length) lane]
  let s := s.updGen k fun g => { g with lanes := g.lanes.modify lane fun l => { l with tokens := tokens } }
  let set (s : State) (f : Lane → Lane) : State := s.updGen k fun g => { g with lanes := g.lanes.modify lane f }
  match stopHit g.stops tokens with
  | some i =>
    let keep := if g.includeStop then recs.length else recs.length - (g.stops.getD i []).length
    set (s.deliver k lane (recs.take keep) true) fun l => { l with held := [], ended := some 1, stop := i }
  | none =>
    if g.maxNew ≤ tokens.length then set (s.deliver k lane recs true) fun l => { l with held := [], ended := some 0 }
    else
      let n := recs.length - heldBack g.stops tokens
      set (s.deliver k lane (recs.take n) false) fun l => { l with held := recs.drop n }

/-- BUSY of a unit after one of its lanes: clear once none of them remains. -/
def State.pipIdle (s : State) (p u : Nat) : State :=
  if (s.part p).sampling.any fun l => l.unit = u && !l.done then s else s.wr R.pipUstatBusy u 0

/-- PIP_SAMPLE: lane number `i` of a partition's completed step, in row order, is sampled; the lanes of one request follow one another. A poisoned
logit row ends its request with ST_POISON, and one whose unit is retired with no other left ends it with ST_NO_RESOURCE (R326). With the last lane the step boundary is complete: requests that have expired or been cancelled end there, and the next step
is composed (R200, R204). -/
def State.pipSample (s : State) (p i : Nat) (poisoned : Bool) : State :=
  let x := s.part p
  match x.sampling[i]? with
  | none => s
  | some e =>
    let k : ReqKey := (e.client, e.req)
    if e.done || (x.sampling.take i).any fun l => (l.client, l.req) = k && !l.done then s
    else
      let s := (s.setPart p { x with sampling := x.sampling.modify i fun l => { l with done := true } }).pipIdle p e.unit
      match s.gen? k, ((s.gen? k).bind fun g => g.lanes[e.lane]?) with
      | some g, some l =>
        let s := s.charge k.1 fun a => { a with pipNs := a.pipNs + s.laneCycles g }
        let s :=
          if s.unitRetired (hubSite 6 e.unit) 0 then s.failGen k stNoResource
          else if poisoned || e.poison then (s.raise 0x044 (hubSite 6 e.unit) (0x720 + e.unit) 0 1 0).failGen k stPoison
          else match g.pip.sample (s.logits g l.tokens) (g.prompt ++ l.tokens) l.tokens.length e.lane with
            | none => ((s.endLane k e.lane 4).incSat R.pipUstatEmptyMask e.unit 1).settleGen k
            | some y => ((s.takeToken g e.lane l y).inc R.pipUstatSamples e.unit 1).settleGen k
        s.kickGen p
      | _, _ => s.kickGen p

/-- PIP_SAMPLE. -/
def execPipSample (part lane : Nat) (poisoned : Bool) (s : State) : Out := .next (s.pipSample part lane poisoned)

/-- Restores that the composed step waits for, and that found no frame, are tried again (R207). -/
def State.retryRestores (s : State) (p : Nat) : State := (s.stepGens ((s.part p).next.getD [])).foldl State.restoreGen s

/-- POOL_RESTORE_DONE: a block is in its frame again, with the same bits (R207). -/
def State.restoreDone (s : State) (p b : Nat) : State :=
  match (s.pool? p).bind fun x => (aget x.blocks b).map fun y => (x, y) with
  | none => s
  | some (x, y) =>
    match y.restoring with
    | none => s
    | some k =>
      let s := s.readHolder p b
      if (((s.pool? p).bind fun x => aget x.blocks b).bind fun z => z.restoring).isNone then s.kickGen x.part
      else
      let s := s.flashToDev k.1 (x.frameAddr y.frame) (x.spillLsns y.place)
      let s := s.updPool p fun x => { x with blocks := amod x.blocks b fun z => { z with flash := false, restoring := none } }
      let s := (s.wr R.mdlPstatSpilled p (s.rd R.mdlPstatSpilled p - 1)).setTier p 0 y.node
      (s.retryRestores x.part).kickGen x.part

/-- POOL_RESTORE_DONE. -/
def execPoolRestoreDone (pool block : Nat) (s : State) : Out := .next (s.restoreDone pool block)

/-! ## OP_STEP_CONTROL (R203, R451) -/

/-- A step control whose ACTION is `act` acts on its target and completes. -/
def State.stepControl (s : State) (k : ReqKey) (act : Nat) (f : State → ReqKey → State × Bool) : State := s.onReq k 0x0B fun r =>
  if r.ran ∨ r.inl 4 1 ≠ act then s
  else
    let t : ReqKey := (k.1, r.inl 0 4)
    let s := s.updReq k fun r => { r with ran := true, started := true }
    if !s.live t then s.endReq k stState 0 0
    else
      let x := f s t
      let s := x.1.endReq k (if x.2 then stOk else stState) 0 0
      match s.gen? t with
      | some g => s.kickGen g.part
      | none => s

/-- Has the host paused a request: an OP_GENERATE, or an OP_RETRIEVE after its hand-over? None for any other request (R203). A generation that has not begun
yet has its controls in the request. -/
def State.hostHeld (s : State) (t : ReqKey) : Option Bool :=
  match s.gen? t, s.req? t with
  | some g, _ => some (g.controls.getLastD g.hostPaused.isSome)
  | none, some r => if r.opcode = 0x0A then some (r.controls.getLastD false) else none
  | none, none => none

/-- A control waits for the next step boundary. -/
def State.holdControl (s : State) (t : ReqKey) (pause : Bool) : State :=
  if (s.gen? t).isSome then s.updGen t fun g => { g with controls := g.controls ++ [pause] }
  else s.updReq t fun r => { r with controls := r.controls ++ [pause] }

/-- STEP_CONTROL_PAUSE: at the next step boundary an interim ST_PAUSED is posted and the request stays paused. -/
def State.pauseGen (s : State) (t : ReqKey) : State × Bool := if s.hostHeld t = some false then (s.holdControl t true, true) else (s, false)

/-- STEP_CONTROL_PAUSE. -/
def execStepControlPause (client req : Nat) (s : State) : Out := .next (s.stepControl (client, req) 0 State.pauseGen)

/-- STEP_CONTROL_RESUME: at the next step boundary the request returns to the scheduler. -/
def State.resumeGen (s : State) (t : ReqKey) : State × Bool := if s.hostHeld t = some true then (s.holdControl t false, true) else (s, false)

/-- STEP_CONTROL_RESUME. -/
def execStepControlResume (client req : Nat) (s : State) : Out := .next (s.stepControl (client, req) 1 State.resumeGen)

/-- STEP_CONTROL_CANCEL. -/
def execStepControlCancel (client req : Nat) (s : State) : Out := .next (s.stepControl (client, req) 2 fun s t => (s.cancelReq t, true))

end Sys2Proof.Machine
end

