-- ==== Sys2Proof/Machine/Steps.lean ====
section
/-! DEFINITION. Steps of a partition (03_matrix_fabric.md R61, 15_tenancy.md R327, R328, 17_power.md R369, 18_health.md R393, R394,
11_memory_tiers.md R247 to R250, 10_generation.md R218): the end of a step, the begin message of the next, prefetch schedules and expert
routing. -/

namespace Sys2Proof.Machine

/-! ## Charges of a step (R328) -/

/-- The weight sets that rows use. -/
def State.rowModels (s : State) (p : Nat) (rows : List StepRow) : List Nat :=
  let pass := (s.part p).pass
  ((rows.filterMap fun r =>
    if r.kind = 0 then (pass.find? fun x => (x.client, x.req) = (r.client, r.req)).map (·.model)
    else (s.gen? (r.client, r.req)).map (·.model))).eraseDups

/-- The cycles that a step record counts: schedule cycles and the waits of every kind (R106, Table CLUS-9). -/
def recordCycles (r : List Byte) : Nat := fieldLe r 4 4 + fieldLe r 8 4 + fieldLe r 12 4 + fieldLe r 16 4 + fieldLe r 20 4

/-- A cluster's time in a step, in ns: the cycles of its record at its clock of 625 + 62.5 × step MHz (R106, R328). -/
def State.clusterTime (s : State) (cl : Nat) : Nat := recordCycles (s.cluster cl).record * 2000 / (1250 + 125 * s.rd R.pwrDstatStep cl)

/-- Cluster time of a step, and with its last matrix step the weight bytes and the state bytes its rows read and write. -/
def State.chargeStep (s : State) (p : Nat) (rows : List StepRow) (last : Bool) : State :=
  let s := s.chargeRows rows (((s.partClusters p).map s.clusterTime).foldl (· + ·) 0) fun n a => { a with clusterNs := a.clusterNs + n }
  if !last then s
  else
    let bytes := ((s.rowModels p rows).map fun m => ((aget s.weights m).map (·.weightBytes)).getD 0).foldl (· + ·) 0
    let s := s.chargeRows rows bytes fun n a => { a with lpddrRd := a.lpddrRd + n }
    (s.stepGens rows).foldl (fun s g =>
      let wrote := total ((rows.filter fun r => (r.client, r.req) = (g.client, g.req)).map (·.count))
      s.charge g.client fun a => { a with lpddrRd := a.lpddrRd + (s.genWeights g).stateBytes * g.context rows
                                          lpddrWr := a.lpddrWr + (s.genWeights g).stateBytes * wrote }) s

/-! ## The phase table (R369) -/

/-- Moves an entry of the phase table 1/8 of the way towards a measurement at a step; a new key enters, and of a full table the entry used
least recently is replaced. -/
def State.learnPhase (s : State) (p key step mw : Nat) : State :=
  match s.power.phases.find? fun x => x.part = p && x.tag = key with
  | some x =>
    let old := s.phasePower x step
    let y : Phase := { x with powers := aput x.powers step ((7 * old + mw) / 8), used := s.now }
    s.updPower fun w => { w with phases := w.phases.map fun z => if z.part = p && z.tag = key then y else z }
  | none => s.updPower fun w =>
    let l := if w.phases.length < 4096 then w.phases
      else match minBy (fun x => x.used) w.phases with
        | some x => dropFirst (fun y => decide (y = x)) w.phases
        | none => w.phases
    { w with phases := l ++ [⟨p, key, [(step, mw)], s.now⟩] }

/-- The STEP_TAG of the step that a partition has run. -/
def State.ranTag (s : State) (p : Nat) : Nat := sdTag (s.cluster (s.partFirst p)).stepDesc

/-- The governor learns from a step: its key, and its power per cluster where it took 100 µs or more. -/
def State.learnStep (s : State) (p lengthNs energy signature : Nat) : State :=
  let tag := s.ranTag p
  let key := if tag = 0 then 2 ^ 32 + signature % 2 ^ 8 else tag
  let s := if tag = 0 then s.setPart p { s.part p with lastKey := key } else s
  if lengthNs < 100000 then s
  else s.learnPhase p key (s.rd R.pwrDstatStep (s.partFirst p)) (energy * 10 ^ 6 / lengthNs / s.partSize p)

/-! ## STEP_COMPLETE -/

/-- The pool and the blocks of the block table that a row reads (R206): the prompt's, and its lane's. -/
def State.rowTable (s : State) (r : StepRow) : Option (Nat × List Nat) :=
  (s.gen? (r.client, r.req)).map fun g =>
    (g.pool, g.blocks ++ (if r.kind = 1 then ((g.lanes[r.lane]?).map fun l => l.blocks).getD [] else []))

/-- The state blocks that a cluster read a poisoned word of: (pool, block). -/
def State.poisonBlocks (s : State) (p cl : Nat) : List (Nat × Nat) :=
  (s.pools.flatMap fun (e : Nat × Pool) =>
    if e.2.part = p then (s.cluster cl).poisonReads.filterMap fun a => (e.2.blockAt a).map fun b => (e.1, b) else []).eraseDups

/-- The node of a state block that was read with poison becomes DEAD (R208). -/
def State.killBlock (s : State) (e : Nat × Nat) : State :=
  match ((s.pool? e.1).bind fun x => aget x.blocks e.2).bind fun b => b.node with
  | some i => if (s.node e.1 i).state = 1 then s.killNode e.1 i true !(s.pinners e.1 i).isEmpty else s
  | none => s

/-- Requests that consumed poison in a matrix step end with ST_POISON at this boundary (R208, R264): those with a row whose block table lists a state block
that a poisoned word was read from, as the cluster that read it reports, and those of a pass whose output rows are poisoned, as the hub reports that takes
them. The outputs of the last matrix step over the rows are those that the hub and Pip consume (R53, Table CODE-5); an earlier step's outputs are inputs of
a later one, which passes their poison on (R263), and a row that no lane samples is consumed by nothing. -/
def State.poisonedRows (s : State) (p : Nat) (rows : List StepRow) (last : Bool) : State :=
  (s.partClusters p).foldl (fun s cl =>
    let bs := s.poisonBlocks p cl
    let read := rows.filter fun r => (s.rowTable r).any fun t => bs.any fun e => e.1 = t.1 && decide (e.2 ∈ t.2)
    let written := ((if last then (s.cluster cl).poisonRows else []).filterMap (rowOwner rows)).filter fun r => r.kind = 0
    let keys (l : List StepRow) : List ReqKey := (l.map fun r => ((r.client, r.req) : ReqKey)).eraseDups
    let ks := (keys (read ++ written))
    let s := s.setCluster cl { s.cluster cl with poisonReads := [] }
    let s := (keys read).foldl (fun s _ => s.raise 0x044 (s.clusterSite cl 0 0) (clusterMaster cl) 0 1 0) s
    let s := (keys written).foldl (fun s _ => s.raise 0x044 (hubSite 5 14) hubMaster 0 1 0) s
    let x := s.part p
    bs.foldl State.killBlock (s.setPart p { x with poisonPending := x.poisonPending ++ ks.filter fun k => k ∉ x.poisonPending })) s

/-- A prefill chunk or decode row has written its state: the position advances, complete blocks are offered, and a prompt that is complete
starts to decode (R191, R200). -/
def State.advance (s : State) (r : StepRow) : State :=
  if r.kind ≠ 2 then s
  else
    let k : ReqKey := (r.client, r.req)
    match s.gen? k with
    | none => s
    | some g =>
      let pos := g.pos + r.count
      (s.updGen k fun g => { g with pos := pos, phase := if g.plen ≤ pos then .decode else g.phase }).offerPrompt k pos

/-- Is every cluster of a partition out of the step: its begin message taken and STEP_END done? -/
def State.allEnded (s : State) (p : Nat) : Bool := (s.partClusters p).all fun cl => !(s.cluster cl).inStep && !(s.cluster cl).beginMsg

/-- The requests with ST_POISON pending end at a boundary (R397). -/
def State.endPoisoned (s : State) (p : Nat) : State :=
  let ks := (s.part p).poisonPending
  ks.foldl (fun s k =>
    if (s.gen? k).isSome then s.failGen k stPoison
    else if s.retrieves.any fun x => (x.client, x.req) = k then s.failWork k stPoison
    else s.endReq k stPoison (((s.req? k).map (·.delivered)).getD 0) 0) (s.setPart p { s.part p with poisonPending := [] })

/-- STEP_COMPLETE: every cluster has ended the step and every comparison and vote of it has ended. `energy` is the step's calibrated energy in µJ,
`signature` the 8 bits of its activity (R369); `last` says that the run of the program over its rows is over: then lanes go to Pip and the
scheduler composes, or the pass delivers. -/
def State.stepComplete (s : State) (p lengthNs energy signature : Nat) (last : Bool) : State :=
  let x := s.part p
  match x.running with
  | none => s
  | some rows =>
    if !s.running p || !s.allEnded p || !(x.checks.all (·.done)) then s
    else
      let s := (s.partClusters p).foldl State.rowEvents s
      let s := ((s.learnStep p lengthNs energy signature).chargeStep p rows last).poisonedRows p rows last
      let s := (s.setPart p { s.part p with running := none, checks := [], groups := [] }).endUse p
      let s := s.endPoisoned p
      if !last then
        let live := rows.filter fun r => s.live (r.client, r.req)
        s.setPart p { s.part p with next := if live.isEmpty then none else some live }
      else if x.generation then
        let s := (rows.foldl State.advance s).genBoundary p
        let s := s.assignPip p rows
        if s.mayCompose p then s.composeStep p else s
      else s.passDone p

/-- STEP_COMPLETE. -/
def execStepComplete (part lengthNs energy signature : Nat) (last : Bool) (s : State) : Out :=
  .next (s.stepComplete part lengthNs energy signature last)

/-! ## Prefetch schedules (R247 to R250) -/

/-- Number of a schedule entry: its weight set's key and its place in the schedule. -/
def prefetchEntry (w i : Nat) : Nat := 65536 * w + i

/-- The weight set and schedule entry of a number: NEED_TAG, ISSUE_TAG, BYTES, DST, SRC_TIER, SRC. -/
def State.schedOf (s : State) (e : Nat) : Option (WeightSet × Nat × Nat × Nat × Nat × Nat × Nat) :=
  match aget s.weights (e / 65536) with
  | none => none
  | some w => (w.schedule[e % 65536]?).map fun x => (w, x)

/-- The entries of a partition's weight sets that a step of tag `tag` issues, in list order. -/
def State.issuedBy (s : State) (p tag : Nat) : List Nat :=
  (s.weights.filter fun (w : Nat × WeightSet) => w.2.part = p).flatMap fun (w : Nat × WeightSet) =>
    (List.range w.2.schedule.length).filterMap fun i => (w.2.schedule[i]?).bind fun x => if x.2.1 = tag then some (prefetchEntry w.1 i) else none

/-- NEED_TAG of an entry. -/
def State.needTag (s : State) (e : Nat) : Nat := ((s.schedOf e).map fun x => x.2.1).getD 0

/-- The object that holds a weight set's placements. -/
def State.weightObj (s : State) (key : Nat) (w : WeightSet) : Option Obj :=
  match if w.current then none else s.obj? (weightSpaceKey key) with
  | some o => some o
  | none => s.obj? w.object

/-- Entries that wait are issued while fewer than 256 are outstanding; a host entry asks for its data. -/
def State.issueEntries (fuel : Nat) (s : State) (p : Nat) : State :=
  match fuel with
  | 0 => s
  | f + 1 =>
    let x := s.part p
    match x.waitingIssue with
    | [] => s
    | e :: rest =>
      if 256 ≤ x.prefetch.length then s
      else
        let s := s.setPart p { x with waitingIssue := rest, prefetch := x.prefetch ++ [(e, s.needTag e)] }
        let s := match s.schedOf e with
          | some (w, _, _, n, _, 1, src) => (match s.weightObj (e / 65536) w with
            | some o => (s.hostRead o.placer o.places (.prefetch p e) src (4096 * (n + 1))).1
            | none => s)
          | _ => s
        s.issueEntries f p

/-- The rows that data for a partition's steps is charged to: those of the running step, else of the next. -/
def State.dataRows (s : State) (p : Nat) : List StepRow :=
  let x := s.part p
  match x.running with
  | some r => r
  | none => x.next.getD []

/-- Sectors that serve a whole step are copied to device memory: the bytes are split among its requests. -/
def State.stepFetch (s : State) (p dst : Nat) (lsns : List Nat) : State :=
  (s.flashToDev (2 ^ 32) dst lsns).chargeRows (s.dataRows p) (4096 * lsns.length) fun k a => { a with flashRd := a.flashRd + k, lpddrWr := a.lpddrWr + k }

/-- A schedule entry that cannot be copied is given up: the step of its NEED_TAG is withheld and its requests end with ST_CONTEXT_FAULT (Table MEMT-11). -/
def State.failEntry (s : State) (p e : Nat) : State :=
  let x := s.part p
  let tag := s.needTag e
  if !(x.prefetch.any fun y => y.1 = e) then s
  else (s.setPart p { x with
      prefetch := x.prefetch.filter fun y => y.1 ≠ e
      failedTags := if tag ∈ x.failedTags then x.failedTags else x.failedTags ++ [tag] }).issueEntries 256 p

/-- A bounds fault of the hub's or a flash core's copy into device memory is reported (R103, R227). -/
def State.copyBounds (s : State) (dst : Nat) : State := s.raise 0x002 (hubSite 5 14) hubMaster dst 2 0

/-- Is an entry the first of its schedule that is outstanding: entries of one schedule are served in issue order (R248)? -/
def Part.servesNow (x : Part) (e : Nat) : Bool := (x.prefetch.find? fun y => y.1 / 65536 = e / 65536).any fun y => y.1 = e

/-- Writes the pieces that a copy reads one after another, poisoned where they came so. -/
def State.writePieces (s : State) (dst : Nat) (l : List (List Byte × Bool)) : State :=
  (l.foldl (fun (x : State × Nat) d => (x.1.writeDevP x.2 d.1 d.2, x.2 + d.1.length)) (s, dst)).1

/-- The sectors of some LSNs cannot be read or rebuilt from now on. -/
def State.failSectors (s : State) (lsns : List Nat) : State :=
  s.updFlash fun f => { f with cond := (lsns.filter fun l => (s.flashSector l).isSome).foldl (fun m l =>
    sset goodTrial m (16 * s.flashEntry (l / 16) + l % 16) ⟨false, none, false⟩) f.cond }

/-- PREFETCH_ENTRY_DONE: an outstanding entry whose turn it is has been copied to its destination; the sectors numbered in `failed`, beside those that the
medium is known not to deliver, could not be read (R239) and give poisoned words (R249). A host entry completes with its last read; a host read that failed
holds up the step of its NEED_TAG (Table MEMT-11). A destination that the partition does not own is a bounds fault: nothing is copied (R227, R230). -/
def State.prefetchDone (s : State) (p e : Nat) (failed : List Nat) : State :=
  let x := s.part p
  if !x.servesNow e then s
  else
    let done (s : State) : State :=
      (s.setPart p { s.part p with prefetch := (s.part p).prefetch.filter fun y => y.1 ≠ e }).issueEntries 256 p
    match s.schedOf e with
    | none => done s
    | some (w, _, _, n, dst, tier, src) =>
      match s.weightObj (e / 65536) w with
      | none => done s
      | some o =>
        let bytes := 4096 * (n + 1)
        if !s.ownsRange p dst bytes then (s.copyBounds dst).failEntry p e
        else if tier = 0 then
          let lsns := (List.range (n + 1)).map fun i => flashLsn (flashParts o.places) (src + i)
          done ((s.failSectors (failed.filterMap fun i => lsns[i]?)).stepFetch p dst lsns)
        else match s.hostRead o.placer o.places (.prefetch p e) src bytes with
          | (s, none) => s
          | (s, some d) =>
            let s := s.chargeRows (s.dataRows p) bytes fun k a => { a with hostRd := a.hostRd + k, lpddrWr := a.lpddrWr + k }
            let s := s.updHost fun h => { h with rx := h.rx.filter fun g => g.need ≠ .prefetch p e }
            done (s.writePieces dst d)

/-- PREFETCH_ENTRY_DONE. -/
def execPrefetchEntryDone (part entry : Nat) (failed : List Nat) (s : State) : Out := .next (s.prefetchDone part entry failed)

/-! ## Expert routing (R218) -/

/-- The experts a row selects: the best router scores under R133, equal scores to the lower expert number. -/
def rowExperts (perRow : Nat) (scores : List (BitVec 32)) : List Nat :=
  let es := (List.range scores.length).map fun i => (⟨i, 0, 0, false, true, ((scores[i]?).map (·.toNat)).getD 0⟩ : Entry)
  ((rankList 4 perRow es).filter (·.valid)).map (·.handle)

/-- The rows that each selected expert of a layer serves. -/
def expertGroups (perRow : Nat) (scores : List (List (BitVec 32))) : List (Nat × List Nat) :=
  let rows := scores.map (rowExperts perRow)
  let es := sortBy (fun a b => decide (a < b)) rows.flatten.eraseDups
  es.map fun e => (e, (List.range rows.length).filter fun i => e ∈ rows.getD i [])

/-- The cache slot for an expert that enters: a free one, else that of the expert used least recently among those the step does not need, ties to the
lower expert number. -/
def WeightSet.cacheSlotFor (w : WeightSet) (layer : Nat) (sel : List Nat) : Option Nat :=
  match (List.range w.cacheCap).find? fun i => !(w.cache.any fun c => c.2.2.2 = i) with
  | some i => some i
  | none =>
    let old := w.cache.filter fun c => !(c.1 = layer && decide (c.2.1 ∈ sel))
    let l := sortBy (fun (a b : Nat × Nat × Nat × Nat) => decide (a.2.2.1 < b.2.2.1) || (a.2.2.1 = b.2.2.1 && decide (a.2.1 < b.2.1))) old
    l.head?.map fun c => c.2.2.2

/-- The requests of the running step end with ST_CONTEXT_FAULT. -/
def State.failRows (s : State) (p : Nat) : State :=
  (((s.part p).running.getD []).map fun r => (r.client, r.req)).foldl (fun s k =>
    if (s.gen? k).isSome then s.failGen k stContextFault else s.endReq k stContextFault 0 0) s

/-- A selected expert: one in the cache is used; a COLD one that is not is read from flash into a slot. A slot that the partition does not own any more is
a bounds fault (R230). -/
def State.useExpert (s : State) (p key layer : Nat) (sel : List Nat) (e : Nat) : State :=
  match aget s.weights key with
  | none => s
  | some w =>
    let step := (s.part p).age
    if w.cache.any fun c => c.1 = layer && c.2.1 = e then
      s.putWeights (amod s.weights key fun w => { w with
          cache := w.cache.map fun c => if c.1 = layer && c.2.1 = e then (c.1, c.2.1, step, c.2.2.2) else c })
    else match w.cold.find? fun c => c.1 = layer && c.2.1 = e, w.cacheSlotFor layer sel, s.weightObj key w with
      | some c, some i, some o =>
        let dst := w.cacheBase + i * w.cacheSlot
        if !s.ownsRange p dst (4096 * c.2.2.2) then (s.copyBounds dst).failRows p
        else
        let s := s.stepFetch p dst ((List.range c.2.2.2).map fun j => flashLsn (flashParts o.places) (c.2.2.1 + j))
        s.putWeights (amod s.weights key fun w => { w with
            cache := (w.cache.filter fun c => c.2.2.2 ≠ i) ++ [(layer, e, step, i)] })
      | _, _, _ => s

/-- EXPERT_ROUTING: at a layer's routing synchronisation point the hub reads the rows' router scores (FP32), writes the layer's expert-group
descriptors, has the COLD experts fetched that the cache lacks, and sends every cluster a completion token on `counter`. -/
def State.routeExperts (s : State) (p key layer : Nat) (scores : List (List (BitVec 32))) (perRow counter : Nat) : State :=
  if (s.part p).running.isNone then s
  else
    let gs := expertGroups perRow scores
    let s := (gs.map (·.1)).foldl (fun s e => s.useExpert p key layer (gs.map (·.1)) e) s
    let x := s.part p
    let s := s.setPart p { x with groups := (x.groups.filter fun g => g.1 ≠ layer) ++ gs.map fun g => (layer, g.1, g.2) }
    (s.partClusters p).foldl (fun s cl =>
      let c := s.cluster cl
      s.setCluster cl { c with counters := sset 0 c.counters counter (sget 0 c.counters counter + 1) }) s

/-- EXPERT_ROUTING. -/
def execExpertRouting (part model layer : Nat) (scores : List (List (BitVec 32))) (perRow counter : Nat) (s : State) : Out :=
  .next (s.routeExperts part model layer scores perRow counter)

/-! ## Checks of a step (R393, R394) -/

/-- A partition's checking fraction: ceil(f × Q). -/
def checkedOf (code q : Nat) : Nat := match code with
  | 1 => ceilDiv q 256
  | 2 => ceilDiv q 64
  | 3 => ceilDiv q 16
  | 4 => ceilDiv q 4
  | 5 => q
  | _ => 0

/-- The pair records of a cluster in a matrix step, outside check slots. -/
def State.stepPairs (s : State) (p i step : Nat) : List (List Byte) :=
  match s.programStep p i step with
  | none => []
  | some e => (e.2.filter fun a => (checkSlot a).isNone).map fun a => ((s.cluster (s.partFirst p + i)).readS a 32).1

/-- Output tiles of a step. -/
def outTiles (d : List Byte) : Nat := if sdLane d then 1 else ceilDiv (sdM d) (sdMt d)

/-- Pairs of a step. -/
def pairCount (d : List Byte) : Nat := outTiles d * sdTiles d * sdGk d

/-- The pair indices that a step selects: q of Q from r. -/
def selectedPairs (q pairs step : Nat) : List Nat :=
  let r := step * 0x9E3779B1 % 2 ^ 32 % pairs
  (List.range q).map fun i => (r + i * pairs / q) % pairs

/-- The check slots of a partition: (logical cluster, slot). -/
def State.checkSlots (s : State) (p : Nat) : List (Nat × Nat) :=
  (s.partClusters p).flatMap fun cl =>
    (List.range (Nat.min 31 (fieldLe ((s.cluster cl).readS checkBase 8).1 0 1))).map fun i => (cl, i)

/-- Writes a check slot: pair record and two stream descriptors. -/
def State.writeSlot (s : State) (cl slot : Nat) (rec' : List Byte) (digest : List Byte) (k pair : Nat) : State :=
  let c := s.cluster cl
  s.setCluster cl (c.writeS (checkBase + 0x40 + 128 * slot)
    (padTo 32 rec' ++ leBytes 32 (Config.checkStream digest k pair 0) ++ leBytes 32 (Config.checkStream digest k pair 1)))

/-- Fills the check slots of the next matrix step and selects its checks. -/
def State.fillChecks (s : State) (p step : Nat) : State :=
  match s.stepDescOf p step with
  | none => s.setPart p { s.part p with checks := [] }
  | some d =>
    let digest := (((s.part p).program.bind s.obj?).map fun o => prgDigest o.image).getD []
    let slots := s.checkSlots p
    let want := checkedOf (s.rd R.chkPartFraction p) (pairCount d)
    let q := Nat.min want slots.length
    let owners : List (Nat × Nat × List Byte) := (List.range (s.partSize p)).flatMap fun i =>
      (s.stepPairs p i step).map fun r => (pairIndex d r, s.partFirst p + i, r)
    let pick := (if q = 0 then [] else selectedPairs q (pairCount d) step).foldl (fun (x : List Check × List (Nat × Nat × List Byte) × List (Nat × Nat) × Nat) j =>
      match owners.find? fun o => o.1 = j with
      | none => x
      | some o => match x.2.2.1.find? fun y => y.1 ≠ o.2.1 with
        | none => (x.1, x.2.1, x.2.2.1, x.2.2.2 + 1)
        | some y => (x.1 ++ [⟨j, o.2.1, y.1, y.2, none, (stepRow d o.2.2 0, prRows o.2.2), false⟩], x.2.1 ++ [(y.1, y.2, o.2.2)],
            x.2.2.1.filter (· ≠ y), x.2.2.2)) ([], [], slots, 0)
    let s := s.incSat R.chkPstatSkipped p (want - q + pick.2.2.2)
    let s := pick.2.1.foldl (fun s e => s.writeSlot e.1 e.2.1 e.2.2 digest (step - 1) (pairIndex d e.2.2)) s
    let s := pick.2.2.1.foldl (fun s e => s.writeSlot e.1 e.2 [] digest (step - 1) (2 ^ 32)) s
    s.setPart p { s.part p with checks := pick.1 }

/-! ## BEGIN_MESSAGE_RELEASE -/

/-- May the begin message of a partition's next step, of tag `tag`, go out: nothing withholds it, HOLD among others (R202, R207, R248, R358, R375, R391, R396, R398)? -/
def State.mayBegin (s : State) (p tag : Nat) : Bool :=
  let x := s.part p
  let rows := x.next.getD []
  s.running p && x.running.isNone && x.next.isSome && x.withheld.isEmpty && x.checks.all (·.done) &&
    (x.sampling.all fun l => l.done || (s.gen? (l.client, l.req)).isNone) && (s.stepGens rows).all s.allResident &&
    !s.isSet R.pwrStatHold 0 && !(x.prefetch.any fun e => e.2 = tag) && !(x.waitingIssue.any fun e => s.needTag e = tag) && !((s.partClusters p).any s.napping)

/-- A step is not begun for requests whose data a host read failed to bring (Table MEMT-11). -/
def State.failTagged (s : State) (p tag : Nat) : State :=
  let rows := (s.part p).next.getD []
  let ks := (rows.map fun r => ((r.client, r.req) : ReqKey)).eraseDups
  let s := s.setPart p { s.part p with next := none, pass := [], failedTags := (s.part p).failedTags.filter (· ≠ tag) }
  let s := ks.foldl (fun s k => if (s.gen? k).isSome then s.failGen k stContextFault else s.failWork k stContextFault) s
  s.kickGen p

/-- A lane that decodes for the first time takes its copy of the prompt's partly filled block (R197, R206). -/
def State.copyPrompt (s : State) (r : StepRow) : State :=
  let k : ReqKey := (r.client, r.req)
  match s.gen? k with
  | none => s
  | some g => match g.lanes[r.lane]? with
    | none => s
    | some l =>
      if r.kind ≠ 1 ∨ l.copied then s
      else
        let s := if g.plen % 256 = 0 then s else match g.blocks[g.plen / 256]?, l.blocks[0]? with
          | some a, some b => s.copyBlock g.pool a b
          | _, _ => s
        s.updGen k fun g => { g with lanes := g.lanes.modify r.lane fun l => { l with copied := true } }

/-- BEGIN_MESSAGE_RELEASE: the hub sends every cluster of a partition the begin message of its next step, fills its check slots and issues the schedule
entries of its tag. -/
def State.beginRelease (s : State) (p tag : Nat) : State :=
  if !s.mayBegin p tag then s
  else if tag ∈ (s.part p).failedTags then s.failTagged p tag
  else
    let x := s.part p
    let s := s.setPart p { x with running := x.next, next := none, steps := x.steps + 1, age := x.age + 1, stepTag := tag, startedAt := s.now }
    let s := (x.next.getD []).foldl State.copyPrompt s
    let s := s.fillChecks p (x.steps + 1)
    let s := (s.partClusters p).foldl (fun s cl => s.setCluster cl { s.cluster cl with beginMsg := true, beginSeq := x.steps + 1 }) s
    let es := s.issuedBy p tag
    let s := s.setPart p { s.part p with waitingIssue := (s.part p).waitingIssue ++ es }
    s.issueEntries (es.length + x.waitingIssue.length) p

/-- BEGIN_MESSAGE_RELEASE. -/
def execBeginMessageRelease (part stepTag : Nat) (s : State) : Out := .next (s.beginRelease part stepTag)

end Sys2Proof.Machine
end

