-- ==== Sys2Proof/Machine/Collective.lean ====
section
/-! DEFINITION. Collectives (07_rerank_topk.md R142 to R144, R147, 13_optical_fabric.md R286, R287, 01_request_path.md R13 to R15): what the root and
the participants of a retrieval exchange, and the results of shards (06_sketch_search.md R123 to R125). -/

namespace Sys2Proof.Machine

/-- A retrieval in progress. -/
def State.retrieve? (s : State) (k : ReqKey) : Option Retrieve := s.retrieves.find? fun x => (x.client, x.req) = k

/-! ## Fragments (R286) -/

/-- Payload word 1 of a fragment: index, count, root, key type and the list's K − 1. -/
def fragWord (i n root key k1 : Nat) : BitVec 128 :=
  BitVec.ofNat 128 (i % 2 ^ 16 + n % 2 ^ 16 * 2 ^ 16 + root % 2 ^ 12 * 2 ^ 32 + key % 16 * 2 ^ 44 + k1 % 2 ^ 12 * 2 ^ 48)

/-- A list as fragments of at most 1,022 payload words. -/
def fragsOf (root key : Nat) (list : List Byte) : List (List (BitVec 128)) :=
  let cs := chunks 1021 ((chunks 16 list).map fun c => BitVec.ofNat 128 (leNat c))
  (List.range cs.length).map fun i => fragWord i cs.length root key (listK list - 1) :: cs.getD i []

/-- Sends a list for a request: CONTRIB (5) or RESULT (6). -/
def State.sendList (s : State) (k : ReqKey) (dst kind req root key : Nat) (list : List Byte) : State :=
  let fs := fragsOf root key list
  let s := if s.unreachable dst then s else s.chargeFab k true ((fs.map fun f => 1 + f.length).foldl (· + ·) 0)
  fs.foldl (fun s f => s.sendHub dst kind req f) s

/-- The bytes of a list whose fragments have all come. -/
def joinFrags (n : Nat) (fs : List (Nat × List (BitVec 128))) : Option (List Byte) :=
  if 0 < n ∧ (List.range n).all fun i => fs.any fun f => f.1 = i then
    some ((List.range n).flatMap fun i => ((fs.find? fun f => f.1 = i).map (·.2)).getD [] |>.flatMap fun w => leBytes 16 w.toNat)
  else none

/-! ## What work messages of a retrieval carry (DESIGN CHOICE, log entry 23: the spec gives the client's place only) -/

/-- A query: search block, deadline, K1, K2, the shards asked of the module, sketch, vector, and all shards that the request names. -/
def queryBytes (search : List Byte) (deadline k1 k2 : Nat) (shards : List Nat) (sketch vec : List Byte) (named : List Nat) : List Byte :=
  padTo 64 search ++ leBytes 8 deadline ++ leBytes 2 k1 ++ leBytes 2 k2 ++ leBytes 2 shards.length ++ leBytes 2 sketch.length ++
    leBytes 4 vec.length ++ shards.flatMap (leBytes 2) ++ sketch ++ vec ++ leBytes 2 named.length ++ named.flatMap (leBytes 2)

/-- Its shards. -/
def qShards (b : List Byte) : List Nat := (List.range (fieldLe b 76 2)).map fun i => fieldLe b (84 + 2 * i) 2
/-- Its sketch. -/
def qSketch (b : List Byte) : List Byte := slice b (84 + 2 * fieldLe b 76 2) (fieldLe b 78 2)
/-- Its vector. -/
def qVec (b : List Byte) : List Byte := slice b (84 + 2 * fieldLe b 76 2 + fieldLe b 78 2) (fieldLe b 80 4)
/-- The shards that its request names. -/
def qNamed (b : List Byte) : List Nat :=
  let o := 84 + 2 * fieldLe b 76 2 + fieldLe b 78 2 + fieldLe b 80 4
  (List.range (fieldLe b o 2)).map fun i => fieldLe b (o + 2 + 2 * i) 2

/-- An answer with passages: the shard entries of what the module pinned, then handle, length and record of each passage. -/
def answerBytes (shards : List (List Byte)) (ps : List (Nat × List Byte)) : List Byte :=
  leBytes 2 shards.length ++ shards.flatten ++ leBytes 4 ps.length ++ ps.flatMap fun p => leBytes 8 p.1 ++ leBytes 4 p.2.length ++ p.2

/-- The shard entries of an answer. -/
def answerShards (b : List Byte) : List (List Byte) := (List.range (fieldLe b 0 2)).map fun i => slice b (2 + 40 * i) 40

/-- The passages of `n` entries. -/
def passageList (n : Nat) (b : List Byte) : List (Nat × List Byte) := match n with
  | 0 => []
  | n + 1 => (fieldLe b 0 8, slice b 12 (fieldLe b 8 4)) :: passageList n (b.drop (12 + fieldLe b 8 4))

/-- The passages of an answer. -/
def answerPassages (b : List Byte) : List (Nat × List Byte) :=
  let o := 2 + 40 * fieldLe b 0 2
  passageList (fieldLe b o 4) (b.drop (o + 4))

/-! ## The root -/

/-- The shard entries of the answers, in ascending shard number: all that the modules pinned where the record has room for them, else those of the shards
as the request names them (R13; DESIGN CHOICE, log entry 58: REC_LEN is held against the shards named). -/
def State.listedShards (s : State) (k : ReqKey) (y : Retrieve) (lists : List (Nat × List Byte)) : List (List Byte) :=
  let all := lists.flatMap fun l => (answerShards l.2).map fun b => (l.1, b)
  let fit := (s.req? k).any fun r => decide (r.retrieveRec all.length ≤ 64 * r.d 2 2)
  sortBy (fun (a b : List Byte) => decide (fieldLe a 0 2 < fieldLe b 0 2))
    ((if fit then all else all.filter fun e => (fieldLe e.2 0 2, e.1) ∈ y.shards).map (·.2))

/-- A collective has every contribution: the first merge goes to all participants and opens the second; the second ends stage 8; the answers with
passages end stage 9. Stages 5 and 7 end with the last contribution, and the deadline and a cancel are checked there before the merge begins (R17).
Shard entries stand in ascending shard number, and of two replicas of one shard the lower module's first, whichever answered first (R12). A participant
that no RESULT can reach is unreachable (R277, R287). -/
def State.collCheck (s : State) (k : ReqKey) : State :=
  match s.coll? k, s.retrieve? k with
  | some x, some y =>
    let late := if x.keyType = 0 then none else (s.req? k).bind s.boundary
    if x.done || !(x.participants.all fun m => x.lists.any fun l => l.1 = m) then s
    else if x.keyType = 3 ∧ y.stage = 5 ∧ late.isSome ∨ x.keyType = 4 ∧ y.stage = 7 ∧ late.isSome then s.endReq k (late.getD stOk) 0 0
    else if x.keyType = 3 ∧ y.stage = 5 then
      let m := mergedList 3 x.k k.2 x.lists
      let few := (x.lists.any fun l => bitOf (fieldLe l.2 7 1) 0) || decide (validOf (listEntries m) < x.k)
      let others := sortBy (fun a b => decide (a < b)) (x.participants.filter (· ≠ s.ownId))
      match others.find? s.unreachable with
      | some p => s.gone k p
      | none =>
        let s := others.foldl (fun s p => s.sendList k p 6 k.2 s.ownId 3 m) s
        let k2 := ((s.req? k).map fun r => r.p 26 2).getD 0
        let s := s.updColl k fun x => { x with k := k2, keyType := 4, lists := [], frags := [], all := false, order := others.map fun p => (p, s.now) }
        s.updRetrieve k fun y => { y with list1 := m, few := y.few || few, stage := 6, ready := true }
    else if x.keyType = 4 ∧ y.stage = 7 then
      let m := mergedList 4 x.k k.2 x.lists
      let s := s.updColl k fun x => { x with done := true }
      s.updRetrieve k fun y => { y with list2 := m, stale := listStale m, few := y.few || decide (validOf (listEntries m) < x.k), stage := 8, ready := true }
    else if x.keyType = 0 ∧ y.stage = 9 then
      let lists := sortBy (fun (a b : Nat × List Byte) => decide (a.1 < b.1)) x.lists
      let refs := s.listedShards k y lists
      let s := s.updFab fun f => { f with colls := f.colls.filter fun c => (c.client, c.req) ≠ k }
      let s := s.updReq k fun r => { r with shardRefs := refs, modules := ((s.ownId :: x.participants).eraseDups).length }
      let recs := lists.flatMap fun l => answerPassages l.2
      s.updRetrieve k fun y => { y with records := recs, ready := true
                                        epochs := refs.map fun b => (fieldLe b 0 2, fieldLe b 4 4)
                                        digests := refs.map fun b => (fieldLe b 0 2, b.drop 8) }
    else s
  | _, _ => s

/-- A participant's complete contribution reaches the root. -/
def State.contributed (s : State) (k : ReqKey) (m : Nat) (list : List Byte) : State :=
  (s.updColl k fun x => if x.lists.any fun l => l.1 = m then x else { x with lists := x.lists ++ [(m, list)] }).collCheck k

/-- CONTRIB: a fragment of a participant's contribution; a list of another key type is an error report with ST_STATE (R143), a poisoned word one with
ST_POISON. It names its request by REQUEST and no client: the first open collective with that ID in which the sender takes part has it (DESIGN CHOICE, log
entry 79). -/
def State.contrib (s : State) (m : FabMsg) : State :=
  let s := s.takeFab m
  match s.fab.colls.find? fun x => x.req = m.request && x.keyType ≠ 0 && !x.done && decide (m.src ∈ x.participants) with
  | none => s
  | some x =>
    let k : ReqKey := (x.client, x.req)
    let w := fabWord m 0
    let s := s.chargeFab k false (msgWords m)
    if m.kind ≠ 5 ∨ x.lists.any fun l => l.1 = m.src then s
    else if bitsOf w 47 44 ≠ x.keyType then s.failWork k stState
    else if !m.poison.isEmpty then (s.raise 0x044 (hubSite 5 14) hubMaster 0 4 0).failWork k stPoison
    else
      let fs := x.frags ++ [(m.src, bitsOf w 15 0, bitsOf w 31 16, bitsOf w 59 48, m.payload.drop 1)]
      let s := s.updColl k fun x => { x with frags := fs }
      match joinFrags (bitsOf w 31 16) ((fs.filter fun f => f.1 = m.src).map fun f => (f.2.1, f.2.2.2.2)) with
      | none => s
      | some list => s.contributed k m.src list

/-- CONTRIB. -/
def execContrib (msg : FabMsg) (s : State) : Out := .next (s.contrib msg)

/-- ERROR: a module reports an error for a request. From a participant or holder it ends the request with the status reported (R15, R143); from the module
that admitted the request it ends the work done here for it. -/
def State.fabError (s : State) (m : FabMsg) : State :=
  let s := s.takeFab m
  let st := fabWord m 0 % 2 ^ 16
  let s := (s.askedOf m.request m.src).foldl (fun s k => s.failShared k m.src st) s
  (s.remoteWork m.src m.request).foldl (fun s k => s.endReq k stOk 0 0) s

/-- ERROR. -/
def execError (msg : FabMsg) (s : State) : Out := .next (s.fabError msg)

/-- UNREACH: a message for a request could not reach the module it names; it is reported at the port of the route to its sender (R277, R285, R287, Table
FABR-8; DESIGN CHOICE for the port, log entry 80). -/
def State.unreach (s : State) (m : FabMsg) : State :=
  let s := s.takeFab m
  let p := (s.route m.src).getD 0
  let s := s.raise 0x087 (portSite p) (portMaster p) 0 4 0
  let who := fabWord m 0 % 2 ^ 12
  let s := (s.askedOf m.request who).foldl (fun s k => s.gone k who) s
  (s.remoteWork who m.request).foldl (fun s k => s.endReq k stOk 0 0) s

/-- UNREACH. -/
def execUnreach (msg : FabMsg) (s : State) : Out := .next (s.unreach msg)

/-- COLLECTIVE_TIMEOUT: COLL_MS after the root sent a request's work to a participant its contribution is still incomplete (R287). Of several open
collectives with the request ID the first is meant (DESIGN CHOICE, log entry 79). -/
def State.collTimeout (s : State) (req m : Nat) : State :=
  match s.fab.colls.find? fun x => x.req = req && !x.done && x.order.any fun o => o.1 = m with
  | none => s
  | some x =>
    let t := ((x.order.find? fun o => o.1 = m).map (·.2)).getD 0
    if (x.lists.any fun l => l.1 = m) || decide (s.now < t + 1000000 * s.rd R.optCfgCollMs 0) then s else s.gone (x.client, x.req) m

/-- COLLECTIVE_TIMEOUT. -/
def execCollectiveTimeout (req participant : Nat) (s : State) : Out := .next (s.collTimeout req participant)

/-! ## Searching (R123 to R125) -/

/-- A module's contribution to the first merge: the list of its shard's k, or of two shards' together. -/
def firstList (req kk : Nat) (rs : List (Nat × List Byte)) : List Byte :=
  match rs with
  | [r] => resultList req r.2
  | _ => mergedList 3 (rs.length * kk) req (rs.map fun r => (r.1, resultList req r.2))

/-- A module's list goes to the root of a request's collective: itself, or the module that sent the work. Where no route leads there the work ends here, as
the root will find its sender unreachable (R277). -/
def State.contribute (s : State) (k : ReqKey) (key : Nat) (list : List Byte) : State :=
  match s.originOf k with
  | none => s.contributed k s.ownId list
  | some x => if s.unreachable x.src then s.endReq k stNoResource 0 0 else s.sendList k x.src 5 x.req x.src key list

/-- SHARD_RESULT_ASSEMBLE: the four walks of a shard have ended. Too few survivors are walked for once more with beam × WIDEN; a result completes the
shard, and with the last shard the search delivers: to the host, or to the collective of a retrieval. -/
def State.shardAssemble (s : State) (k : ReqKey) (slot : Nat) : State :=
  match s.search? k with
  | none => s
  | some p =>
    match s.assemble k p slot with
    | .wait => s
    | .stopped st => s.endReq k st 0 0
    | .retry exps =>
      ((s.clearWalks k slot).updSearch k fun p => { p with attempts := p.attempts.map fun a => if a.1 = slot then (slot, 1, exps) else a }).queueWalks k slot 1
        (spBeam p.params * spWiden p.params)
    | .result bytes =>
      let p := { p with results := sortBy (fun (a b : Nat × List Byte) => decide (a.1 < b.1)) (p.results ++ [(slot, bytes)]) }
      let s := (s.clearWalks k slot).updSearch k fun _ => p
      if p.results.length < p.slots.length then s
      else if (s.req? k).any fun r => r.opcode = 0x04 then s.searchOut k p
      else
        let s := s.putSearches (s.searches.filter fun x => (x.client, x.req) ≠ k)
        s.contribute k 3 (firstList k.2 (spK p.params) p.results)

/-- SHARD_RESULT_ASSEMBLE. -/
def execShardResultAssemble (client req slot : Nat) (s : State) : Out := .next (s.shardAssemble (client, req) slot)

/-- What starting a search of shards on this module meets: a status, a merge commit to wait for, or the slots. -/
inductive Serve where
  | fails (status : Nat)
  | waits
  | slots (l : List Nat)
  deriving DecidableEq, Repr

/-- Do the shards that a request names and this module holds, asked of it or not, all stand outside a merge commit (R128)? -/
def State.namedReady (s : State) (k : ReqKey) (named : List Nat) : Bool :=
  (named.filterMap s.slotOf).all fun i => decide (s.rd R.sloShardState i ≠ 3) || (s.shard? i).any fun x => x.pinnedBy k

/-- The slots that serve shard numbers, for a search block; `named` are all the shards of the request. -/
def State.serve (s : State) (k : ReqKey) (search : List Byte) (shards named : List Nat) : Serve :=
  let l := shards.filterMap s.slotOf
  if l.length < shards.length ∨ l.any fun i => s.rd R.sloShardSketch i ≠ spSketch search then .fails stState
  else if s.searchReady k l && s.namedReady k named then .slots l else .waits

/-- May a request read the shard of a slot: a client's request only where the shard's partition is in its USE (R324)? -/
def State.mayRead (s : State) (k : ReqKey) (i : Nat) : Bool :=
  (s.shard? i).any fun x => (s.req? k).any fun r => r.remote.isSome || s.inUse k.1 x.part

/-- The slots of this module whose shards a list of numbers names are pinned to a request, where it may read them (R13, R324). -/
def State.pinNamed (s : State) (k : ReqKey) (named : List Nat) : State :=
  (List.range 2).foldl (fun s i =>
    if s.rd R.sloShardState i = 2 && named.contains (s.rd R.sloShardShard i) && s.mayRead k i then (s.pinShard k i).1 else s) s

/-! ## The home modules -/

/-- The candidates of a list whose shards a request has pinned on this module: those that it re-ranks (R144). -/
def State.ownEntries (s : State) (k : ReqKey) (list : List Byte) : List Entry :=
  (listEntries list).filter fun e => (s.slotOf (hShard e.handle)).any fun i => (s.shard? i).any fun x => x.pinnedBy k

/-- The exact re-rank of a home module over a merged list: its contribution to the second merge, or the status that ends it (R144, R147). The shards of
its own slots were pinned when the query came (R13). -/
def State.secondList (s : State) (k : ReqKey) (vec list : List Byte) (k2 req : Nat) : State × List Byte × Nat :=
  if s.shards.any fun (e : Nat × Shard) => e.2.pinnedBy k && e.2.df ≠ vec.length then (s, [], stState)
  else
    let x := s.rerankExact k vec 3 k2 req (s.ownEntries k list)
    (if x.2.2.stop = stPoison then x.1.raise 0x044 (hubSite 5 14) hubMaster 0 1 0 else x.1, if x.2.2.stop = 0 then x.2.1 else [], x.2.2.stop)

/-- RESULT: the merged list of the first collective; with its last fragment a home module re-ranks its own candidates and contributes to the second. -/
def State.fabResult (s : State) (m : FabMsg) : State :=
  let s := s.takeFab m
  let w := fabWord m 0
  match (s.remoteWork m.src m.request).head?.bind s.req? with
  | none => s
  | some r =>
    let k : ReqKey := (r.client, r.id)
    if !m.poison.isEmpty then (s.raise 0x044 (hubSite 5 14) hubMaster 0 4 0).endReq k stPoison 0 0
    else
      let all := s.fab.results ++ [(m.request, m.src, bitsOf w 15 0, bitsOf w 31 16, m.payload.drop 1)]
      let s := s.updFab fun f => { f with results := all }
      match joinFrags (bitsOf w 31 16) ((all.filter fun f => f.1 = m.request && f.2.1 = m.src).map fun f => (f.2.2.1, f.2.2.2.2)) with
      | none => s
      | some list =>
        let s := s.updFab fun f => { f with results := f.results.filter fun f => !(f.1 = m.request && f.2.1 = m.src) }
        let x := s.secondList k (qVec r.param) list (fieldLe r.param 74 2) m.request
        if x.2.2 ≠ 0 then x.1.endReq k x.2.2 0 0 else x.1.contribute k 4 x.2.1

/-- RESULT. -/
def execResult (msg : FabMsg) (s : State) : Out := .next (s.fabResult msg)

/-- Sectors of a vector slot that hold a passage's D_F bytes and the header of its text record. -/
def Shard.headSectors (x : Shard) : Nat := ceilDiv (x.df + 32) 4096

/-- The rest of a passage text record of `len` tokens (R241): the first `n0` sectors of the passage's vector slot are `bs`. -/
def State.passageText (s : State) (c : Nat) (x : Shard) (slot n0 len e : Nat) (bs : List Byte) : State × List Byte × Nat :=
  let b := s.flashFetch c (x.vecFlash + slot + n0) (ceilDiv (x.df + 32 + 4 * len) 4096 - n0)
  let rec' := slice (bs ++ b.2.1) x.df (32 + 4 * len)
  (b.1, if b.2.2 then ([], stPoison) else (rec'.take 24 ++ leBytes 4 e ++ rec'.drop 28, 0))

/-- The text record of a vector slot whose first `n0` sectors hold its header, and the status that ends its reading. -/
def State.passageAt (s : State) (c : Nat) (x : Shard) (slot n0 e : Nat) : State × List Byte × Nat :=
  let a := s.flashFetch c (x.vecFlash + slot) n0
  let len := fieldLe a.2.1 (x.df + 20) 4
  if a.2.2 then (a.1, [], stPoison)
  else if 65536 < len then (a.1, [], stBadDescriptor)
  else a.1.passageText c x slot n0 len e a.2.1

/-- The passage text record of a passage (R241, Table TEXT-2), its EPOCH the pinned one at which it is read, and the status that ends its reading. -/
def State.passage (s : State) (c : Nat) (x : Shard) (y : Section) (n e : Nat) : State × List Byte × Nat :=
  let i := s.metaAt x y n e
  if i.2.2 ≠ 0 then (i.1, [], i.2.2) else i.1.passageAt c x i.2.1.vecSlot x.headSectors e

/-- The records of some passages that this module holds for a request. -/
def State.passageRecs (s : State) (k : ReqKey) (hs : List Nat) : State × List (Nat × List Byte) × Nat :=
  hs.foldl (fun (z : State × List (Nat × List Byte) × Nat) h =>
    if z.2.2 ≠ 0 then z
    else match (z.1.slotOf (hShard h)).bind fun i => (z.1.shard? i).bind fun x => (x.sections[hSec h]?).map fun y => (i, x, y) with
      | none => (z.1, z.2.1, stState)
      | some (i, x, y) =>
        let e := ((x.pins.find? fun p => p.1 = k).map (·.2)).getD (z.1.rd R.sloShardEpoch i)
        let r := z.1.passage k.1 x y (hNode h) e
        (r.1, z.2.1 ++ [(h, r.2.1)], r.2.2)) (s, [], 0)

/-- The slots of this module that a request has pinned. -/
def State.pinnedSlots (s : State) (k : ReqKey) : List Nat := (List.range 2).filter fun i => (s.shard? i).any fun x => x.pinnedBy k

/-- This module's answer with passages. -/
def State.fetchAnswer (s : State) (k : ReqKey) (hs : List Nat) : State × List Byte × Nat :=
  let p := s.passageRecs k hs
  if p.2.2 = stPoison then (p.1.raise 0x044 (hubSite 5 14) hubMaster 0 1 0, [], stPoison)
  else (p.1, answerBytes (s.shardRefs k (s.pinnedSlots k)) p.2.1, p.2.2)

/-- A query reaches a module: it pins the epochs of the shards of its slots that the request names and searches those asked of it (R13, R118). -/
def State.takeQuery (s : State) (m : FabMsg) (b : List Byte) : State :=
  match s.serve (0, 0) (b.take 64) (qShards b) (qNamed b) with
  | .fails st => s.sendError m.src m.request st
  | .waits => s
  | .slots l =>
    let part := ((l.head?.bind s.shard?).map (·.part)).getD 0
    let y := s.beginRemote m.src (workClient m) m.request (List.replicate 8 0 ++ slice b 64 8 ++ List.replicate 48 0) b part
    (y.1.pinNamed y.2 (qNamed b)).beginSearch y.2 l (b.take 64) (qSketch b) (some m.src)

/-- Passages are asked of a module: with its answer its part of the request ends. -/
def State.takeFetch (s : State) (m : FabMsg) (b : List Byte) : State :=
  match s.remoteOf m.src (workClient m) m.request with
  | none => s
  | some k =>
    let a := s.fetchAnswer k ((List.range (fieldLe b 0 4)).map fun i => fieldLe b (4 + 8 * i) 8)
    if a.2.2 ≠ 0 then a.1.endReq k a.2.2 0 0
    else (a.1.sendWork m.src m.request (workClient m) 2 1 a.2.1).endReq k stOk 0 0

/-- QUERY_FANOUT: a hub-to-hub work message of a retrieval: a query (kind 1), or passages asked for (kind 2, 0) and delivered (kind 2, 1). A query for a
shard that commits a merge waits in its place. -/
def State.queryFanout (s : State) (m : FabMsg) : State :=
  if m.kind ≠ 4 ∨ (workKind m ≠ 1 ∧ workKind m ≠ 2) then s
  else if !m.poison.isEmpty then
    let s := (s.takeFab m).raise 0x044 (hubSite 5 14) hubMaster 0 4 0
    (s.askedOf m.request m.src).foldl (fun s k => s.failShared k m.src stPoison) (s.sendError m.src m.request stPoison)
  else match s.takeWork m with
  | (t, none) => t
  | (t, some b) =>
    if workKind m = 1 then
      (match t.serve (0, 0) (b.take 64) (qShards b) (qNamed b) with
       | .waits => s
       | _ => t.takeQuery m b)
    else if workAsk m = 0 then t.takeFetch m b
    else
      let k : ReqKey := (workClient m, m.request)
      (t.chargeFab k false (3 + (b.length + 15) / 16)).contributed k m.src b

/-- QUERY_FANOUT. -/
def execQueryFanout (msg : FabMsg) (s : State) : Out := .next (s.queryFanout msg)

end Sys2Proof.Machine
end

