-- ==== Sys2Proof/Machine/Retrieve.lean ====
section
/-! DEFINITION. Retrieval (01_request_path.md R11 to R18, 07_rerank_topk.md R148 to R152, 14_host_interface.md R312, R313): OP_RETRIEVE and the stages of
Table PATH-2. -/

namespace Sys2Proof.Machine

/-- GEN of a retrieve block (Table HOST-12). -/
def Req.rGen (r : Req) : Bool := bitOf (r.p 13 1) 0
/-- Its search block. -/
def Req.rSearch (r : Req) : List Byte := slice r.param 128 64
/-- Its generation block. -/
def Req.rBlock (r : Req) : List Byte := slice r.param 768 128

/-- The partition whose Punnet engines pack for a pack block: that of its tree, else the client's HOME (R325). -/
def State.packPart (s : State) (c : Nat) (b : List Byte) : Nat := if pkTreeEn b then s.rd R.mdlTreePartition (pkTree b) else s.home c

/-- The shard list of a retrieve block: shard number and module. -/
def shardList (bs : List Byte) : List (Nat × Nat) := (words4 bs).map fun v => (v % 2 ^ 16, bitsOf v 27 16)

/-- OP_RETRIEVE: the buffers its blocks name are read, but for the prefix, which stage 11 reads once the pack is known to have room (R184); and stage 2
begins: the question goes to a Zest engine. SHARD_LIST is read here, after admission: one of its shards that stands on this module in a partition outside
the client's USE ends the request with ST_NOT_BOUND (R324; DESIGN CHOICE for the time, log entry 58). -/
def State.opRetrieve (s : State) (k : ReqKey) : State := s.onReq k 0x09 fun r =>
  if r.ran then s
  else match s.boundary r with
    | some st => s.endReq k st 0 0
    | none => match aget s.vocabs (r.p 12 1) with
      | none => s.endReq k stState 0 0
      | some v =>
        let vocab := ((if r.rGen then s.pinnedModel r (fieldLe r.rBlock 0 4) else none).map fun e => e.2.vocab).getD 0
        let bufs := [(r.p 0 8, r.p 8 4), (r.p 40 8, 4 * r.p 14 2), (0, 0)] ++ (if r.rGen then genBufs r.rBlock vocab else [])
        match s.gather k bufs with
        | (s, none) => s
        | (s, some ins) =>
          if (words4 (ins.getD 1 [])).any (fun w => decide (2 ^ 28 ≤ w)) ∨ (r.rGen && !goodLists (ins.getD 4 []) (ins.getD 5 [])) then
            s.endReq k stBadDescriptor 0 0
          else if (shardList (ins.getD 1 [])).any fun e => e.2 = s.ownId && (s.slotOf e.1).any fun i => !s.mayRead k i then
            s.endReq k stNotBound 0 0
          else
            let s := (s.setInputs k ins).updReq k fun r => { r with ran := true, started := true, objRefs := [objEntry v.object 0 v.digest] }
            let s := s.putRetrieves (s.retrieves ++ [Retrieve.fresh k.1 k.2 (shardList (ins.getD 1 []))])
            s.addTask ⟨.zest, v.part, k.1, k.2, r.order, none, [ins.getD 0 []], none, 0⟩

/-- OP_RETRIEVE. -/
def execOpRetrieve (client req : Nat) (s : State) : Out := .next (s.opRetrieve (client, req))

/-! ## The stages -/

/-- A stage begins. -/
def State.setStage (s : State) (k : ReqKey) (n : Nat) : State := s.updRetrieve k fun x => { x with stage := n, ready := false }

/-- A stage has delivered at once. -/
def State.stageReady (s : State) (k : ReqKey) : State := s.updRetrieve k fun x => { x with ready := true }

/-- A request joins a pass of its model's partition for a stage. -/
def State.joinPass (s : State) (k : ReqKey) (r : Req) (model stage role rows : Nat) (work : List (Nat × List Nat)) : State :=
  match s.pinnedModel r model with
  | none => s.failWork k stState
  | some (n, w) =>
    let s := s.updReq k fun r => { r with shapes := r.shapes ++ [s.shapeEntry w.part role w.digest none] }
    (s.setStage k stage).queueRows w.part ⟨k.1, k.2, rows, r.order, stage, n, work⟩

/-- The shards that a retrieval asks of a module. -/
def Retrieve.shardsOf (x : Retrieve) (m : Nat) : List Nat := ((x.shards.filter fun e => e.2 = m).map (·.1)).eraseDups

/-- Stage 4: the query goes to every module that the request names, with the shards it holds; this module's own shards are pinned (R13). A module that
cannot be reached ends the request (R15). -/
def State.fanOut (s : State) (k : ReqKey) (r : Req) (x : Retrieve) : State :=
  let mods := sortBy (fun a b => decide (a < b)) (x.shards.map (·.2)).eraseDups
  let others := mods.filter (· ≠ s.ownId)
  let here : Serve := if s.ownId ∈ mods then s.serve k r.rSearch (x.shardsOf s.ownId) (x.shards.map (·.1)) else .slots []
  match here with
  | .fails st => s.failWork k st
  | .waits => s
  | .slots _ =>
    if others.any s.unreachable then s.failWork k stNoResource
    else
      let c : Coll := ⟨k.1, k.2, r.p 24 2, 3, mods, others.map fun m => (m, s.now), [], [], [], [], true, false⟩
      let s := s.updFab fun f => { f with colls := f.colls ++ [c] }
      let s := others.foldl (fun s m => s.sendWork m k.2 k.1 1 0 (queryBytes r.rSearch (r.d 8 8) (r.p 24 2) (r.p 26 2) (x.shardsOf m) x.sketch x.vec
          (x.shards.map (·.1)).eraseDups)) s
      let s := if s.ownId ∈ mods then s.pinNamed k (x.shards.map (·.1)) else s
      (s.setStage k 4).stageReady k

/-- Stage 5: this module's own search begins, where the request names shards of it; a contribution that has come already may complete the stage. -/
def State.searchStage (s : State) (k : ReqKey) (r : Req) (x : Retrieve) : State :=
  let l := (x.shardsOf s.ownId).filterMap s.slotOf
  let s := s.setStage k 5
  (if l.isEmpty then s else s.beginSearch k l r.rSearch x.sketch none).collCheck k

/-- Stage 7: this module re-ranks its own candidates, where it is a participant. -/
def State.exactStage (s : State) (k : ReqKey) (x : Retrieve) : State :=
  let s := s.setStage k 7
  match s.coll? k with
  | none => s.failWork k stState
  | some c =>
    if s.ownId ∉ c.participants then s.collCheck k
    else
      let y := s.secondList k x.vec x.list1 c.k k.2
      if y.2.2 ≠ 0 then y.1.failWork k y.2.2 else y.1.contributed k s.ownId y.2.1

/-- Stage 9: every participant is asked for the passages of its shards among the second merge's entries; with its answer its part ends. Of two modules
that hold a shard the one with the lower ID is asked (DESIGN CHOICE, log entry 58). A participant that cannot be asked is unreachable (R277, R287). -/
def State.fetchStage (s : State) (k : ReqKey) (x : Retrieve) : State :=
  match s.coll? k with
  | none => s.failWork k stState
  | some c =>
    let hs := ((listEntries x.list2).filter (Entry.ok 4)).map (·.handle)
    let holder (h : Nat) : Option Nat := (sortBy (fun a b => decide (a < b)) ((x.shards.filter fun e => e.1 = hShard h).map (·.2))).head?
    let of (m : Nat) : List Nat := hs.filter fun h => holder h = some m
    let others := c.participants.filter (· ≠ s.ownId)
    match others.find? s.unreachable with
    | some m => s.gone k m
    | none =>
    let s := (s.setStage k 9).updColl k fun c => { c with keyType := 0, lists := [], frags := [], done := false, order := others.map fun m => (m, s.now) }
    let s := others.foldl (fun s m => s.sendWork m k.2 k.1 2 0 (leBytes 4 (of m).length ++ (of m).flatMap (leBytes 8))) s
    if s.ownId ∈ c.participants then
      let a := s.fetchAnswer k (of s.ownId)
      if a.2.2 ≠ 0 then a.1.failWork k a.2.2 else a.1.contributed k s.ownId a.2.1
    else s

/-- The text of a handle's passage record. -/
def Retrieve.text (x : Retrieve) (h : Nat) : List Nat :=
  match x.records.find? fun e => e.1 = h with
  | some e => words4 ((e.2.drop 32).take (4 * fieldLe e.2 20 4))
  | none => []

/-- Stage 10: the cross-encoder scores a pair for each valid candidate; with none it has nothing to score (R14). -/
def State.crossStage (s : State) (k : ReqKey) (r : Req) (x : Retrieve) : State :=
  let es := listEntries x.list2
  let ps := pairsOf 4 es x.tokens (fun i => x.text ((es.getD i (Entry.empty 4)).handle)) (r.p 30 2) (r.p 32 2)
  if ps.isEmpty then
    (s.setStage k 10).updRetrieve k fun x => { x with list3 := listBytes 4 1 0 0 0 k.2 (rankList 4 (r.p 28 2) []), ready := true }
  else s.joinPass k r (r.p 20 4) 10 1 (pairRows ps) ps

/-- Stage 11: a Punnet task packs, once the fixed parts are held against BUDGET from their lengths alone, and the prefix has been read (R184). -/
def State.packStage (s : State) (k : ReqKey) (r : Req) (x : Retrieve) : State :=
  let b := r.packBlock
  if pkBudget b < fieldLe b 12 4 + x.tokens.length + (pkClose b).length then s.failWork k stNoResource
  else match s.gather k [(fieldLe b 16 8, 4 * fieldLe b 12 4)] with
    | (s, none) => s
    | (s, some pre) =>
      let recs := (listEntries x.list3).map fun e => if e.ok 4 then ((x.records.find? fun y => y.1 = e.handle).map (·.2)).getD [] else []
      ((s.setInputs k (r.inBufs.set 2 (pre.headD []))).setStage k 11).addTask ⟨.punnet, s.packPart k.1 b, k.1, k.2, r.order, none,
        packInputs (pre.headD []) (x.tokens.flatMap (leBytes 4)) x.list3 recs, none, 0⟩

/-- The generation that follows begins: it takes the matched nodes where the pack's tree is its own pool's, else they are released and its prompt is
matched anew. A request that ends here releases them with the retrieval it still holds (R189). -/
def State.followOn (s : State) (k : ReqKey) (r : Req) (x : Retrieve) (few : Bool) (recBase : Nat) : State :=
  let g := r.rBlock
  let own := pkTreeEn r.packBlock && x.tree = fieldLe g 6 1
  match s.pinnedModel r (fieldLe g 0 4) with
  | none => s.endReq k stState 0 0
  | some (_, w) =>
    if w.contextMax < x.packTokens.length + fieldLe g 12 4 then s.endReq k stState 0 0
    else
      let s := if own then s else x.matchNodes.foldl (fun s n => s.unpin x.tree n) s
      let s := s.putRetrieves (s.retrieves.filter fun y => (y.client, y.req) ≠ k)
      let s := s.beginGen r g x.packTokens (if fieldLe g 72 8 = 0 then none else some (r.inBufs.getD 3 [])) (biasOf (r.inBufs.getD 4 []))
        (stopsOf (r.inBufs.getD 5 [])) (roundUp (64 + 32 * r.p 28 2) 64) recBase few r.span (if own then x.matchNodes else [])
      if bitOf (fieldLe g 7 1) 3 ∧ !own ∧ (s.gen? k).isSome then s.startMatch r (fieldLe g 6 1) x.packTokens true else s

/-- Stage 12, the hand-over (R312): the ranking record, the source map and last the pack record are written (R186); then the final entry, or an interim entry and the
generation. -/
def State.handOver (s : State) (k : ReqKey) (r : Req) (x : Retrieve) : State :=
  let few := x.few || decide (validOf (listEntries x.list3) < r.p 28 2)
  let st := if few then stFewResults else if 0 < r.span then stInfoSpan else stOk
  let rec' := x.record r.span
  let s := s.putRec k 0 rec'
  let s := (s.putOut k 64 x.sourceMap).putOut k 0 x.packRecord
  let s := s.updReq k fun r => { r with recMask := r.recMask ++ [(0, 4), (32 + 8 * x.epochs.length + 20, 4)], outMask := r.outMask ++ [(24, 4), (28, 4)] }
  if !s.live k then s
  else if r.rGen then (s.interim k st x.packTokens.length x.matchBlocks).followOn k r x few (roundUp rec'.length 64)
  else s.endReq k st x.packTokens.length x.matchBlocks

/-- The stage after one that has delivered. -/
def State.nextStage (s : State) (k : ReqKey) (r : Req) (x : Retrieve) : State :=
  match x.stage with
  | 2 => s.joinPass k r (r.p 16 4) 3 0 x.tokens.length [(0, x.tokens)]
  | 3 => s.fanOut k r x
  | 4 => s.searchStage k r x
  | 6 => s.exactStage k x
  | 8 => s.fetchStage k x
  | 9 => s.crossStage k r x
  | 10 => s.packStage k r x
  | 11 => s.handOver k r x
  | _ => s

/-- RETRIEVE_STAGE_ADVANCE: a stage has delivered its complete output. At the boundary an error ends the request with its status, else its deadline or a
cancel; else the next stage starts (R11, R15, R17). -/
def State.stageAdvance (s : State) (k : ReqKey) : State :=
  match s.retrieve? k, s.req? k with
  | some x, some r =>
    if !x.ready || r.ended then s
    else match x.error with
      | some st => s.endReq k st 0 0
      | none => match s.boundary r with
        | some st => s.endReq k st 0 0
        | none => s.nextStage k r x
  | _, _ => s

/-- RETRIEVE_STAGE_ADVANCE. -/
def execRetrieveStageAdvance (client req : Nat) (s : State) : Out := .next (s.stageAdvance (client, req))

end Sys2Proof.Machine
end

