-- ==== Sys2Proof/Machine/HostRead.lean ====
section
/-! DEFINITION. Completions of host reads (11_memory_tiers.md R244, 14_host_interface.md R301, 15_tenancy.md Table TNCY-6). -/

namespace Sys2Proof.Machine

/-! ## Fetched descriptors -/

/-- Address and length of the parameter block that a descriptor names. -/
def descParam (d : List Byte) : Nat × Nat := (fieldLe d 16 8, fieldLe d 24 4)

/-- The parameter block of a fetched descriptor, read for admission (R305). -/
def State.paramRead (s : State) (c : Nat) (d : List Byte) : ReadRes :=
  s.readAddr (.descriptor c) c (descParam d).1 (descParam d).2

/-- For OP_PACK, the 32-byte header of the rank list at INPUT, once its parameter block is there (R305). -/
def State.headRead (s : State) (c : Nat) (d : List Byte) : ReadRes :=
  match s.paramRead c d with
  | .data p false =>
    if fieldLe d 0 1 = 0x08 ∧ 48 ≤ p.length then s.readAddr (.descriptor c) c (fieldLe p 40 8) 32 else .data [] false
  | _ => .data [] false

/-- The hub reads what admission of a descriptor needs from device memory. -/
def State.descReads (s : State) (c : Nat) (d : List Byte) : State :=
  let reach (e : Nat × Nat) (r : ReadRes) : List (Nat × Nat) := match r with
    | .data _ _ => if isDev e.1 then [(e.1 % 2 ^ 48, e.2)] else []
    | _ => []
  (s.readUnits hubMaster (reach (descParam d) (s.paramRead c d) ++
    (if (s.headRead c d).bytes.isEmpty then [] else reach (fieldLe (s.paramRead c d).bytes 40 8, 32) (s.headRead c d)))).1

/-- The range that admission of a descriptor still waits for. -/
def State.awaits (s : State) (c : Nat) (d : List Byte) : Option (Nat × Nat) :=
  if s.paramRead c d == .absent then some (descParam d)
  else if s.headRead c d == .absent then some (fieldLe (s.paramRead c d).bytes 40 8, 32)
  else none

/-- The hub asks for what admission of a client's fetched descriptors waits for. -/
def State.askFetched (s : State) (c : Nat) : State :=
  (s.host.fetched.filter fun f => f.client = c && !f.failed && !f.paramFailed && !f.poisoned).foldl (fun s f =>
    match f.bytes with
    | none => s
    | some d => match s.awaits c d with
      | none => s
      | some (a, n) => s.issueRead c a n (.descriptor c)) s

/-- Where a fetched descriptor lies in its ring. -/
def State.slotAddr (s : State) (f : Fetched) : Nat := match s.ring f.client with
  | some r => r.sqBase + 64 * f.slot
  | none => 0

/-- Is a read that of a fetched descriptor which has not come? -/
def State.readsSlot (s : State) (c a n : Nat) (f : Fetched) : Bool :=
  f.client = c && f.bytes.isNone && !f.failed && n = 64 && s.slotAddr f = a

/-- Data of a read for a client's descriptors: the descriptor itself, or what one of them names. -/
def State.descData (s : State) (fn c a n : Nat) (bs : List Byte) (poisoned : Bool) : State :=
  let s := if s.host.fetched.any (s.readsSlot c a n) then
      s.updHost fun h => { h with fetched := modFirst (s.readsSlot c a n) (fun f => { f with bytes := some bs, poisoned := poisoned }) h.fetched }
    else s.updHost fun h => { h with rx := h.rx ++ [⟨fn, a, .descriptor c, poisoned, bs⟩] }
  s.askFetched c

/-- A read for a client's descriptors failed: each descriptor that waits for it fails check 1 of Table HOST-5. -/
def State.descFail (s : State) (c a n : Nat) : State :=
  if s.host.fetched.any (s.readsSlot c a n) then
    s.updHost fun h => { h with fetched := modFirst (s.readsSlot c a n) (fun f => { f with failed := true }) h.fetched }
  else
    let hit (f : Fetched) : Bool := f.client = c && (f.bytes.any fun d => (s.awaits c d).any fun x => decide ((a, n) ∈ hostSplit x.1 x.2))
    s.updHost fun h => { h with fetched := h.fetched.map fun f => if hit f then { f with paramFailed := true } else f }

/-! ## Completions -/

/-- Charges the bytes of a host read to the client it was made for (Table TNCY-5); those of a prefetch are charged when its entry
completes. -/
def State.chargeRead (s : State) (need : HostNeed) (n : Nat) : State :=
  let add (c : Nat) : State := s.charge c fun a => { a with hostRd := a.hostRd + n }
  match need with
  | .descriptor c => add c
  | .request c q => if (s.req? (c, q)).isSome then add c else s
  | .admin => s
  | .prefetch _ _ => s

/-- Data has come, poisoned where its EP bit was set (Table CODE-5). -/
def State.readData (s : State) (fn a n : Nat) (need : HostNeed) (bs : List Byte) (poisoned : Bool) : State :=
  let bs := padTo n (bs.take n)
  let s := s.updHost fun h => { h with noXlat := h.noXlat.filter fun e => e ≠ (fn, a / 4096) }
  let s := s.chargeRead need n
  let s := if poisoned then s.raise 0x043 (hubSite 5 14) fn 0 1 0 else s
  match need with
  | .descriptor c => s.descData fn c a n bs poisoned
  | .admin => s
  | _ => s.updHost fun h => { h with rx := h.rx ++ [⟨fn, a, need, poisoned, bs⟩] }

/-- A read failed: what needed it ends with ST_CONTEXT_FAULT (Table TNCY-6). -/
def State.readFail (s : State) (fn a n : Nat) (need : HostNeed) : State :=
  let s := s.raise 0x0C2 (hubSite 5 14) fn 0 1 0
  match need with
  | .descriptor c => s.descFail c a n
  | .request c q => s.failWork (c, q) stContextFault
  | .prefetch p e =>
    let s := s.updHost fun h => { h with rx := h.rx.filter (fun g => g.need ≠ need), reads := h.reads.filter (fun g => g.need ≠ need) }
    s.failEntry p e
  | .admin => s

/-- The admin descriptor at the head of the admin ring could not be read, or came poisoned: it completes with that status, with REQUEST and
client 0 (DESIGN CHOICE, log entry 32: the spec gives no entry for it). -/
def State.admFail (s : State) (st : Nat) : State :=
  if !s.admDue then s
  else
    let t := s.admTake
    t.1.admPost 0 0 st 0 t.2

/-- HOST_READ_COMPLETION: the answer to an outstanding host read. The read of an admin descriptor is part of the admin commands, so that only
its failure is an event of its own. A translation answer that no read waits for is that of a write to come: it is not sent (R301; DEDUCED, log entry 34). -/
def State.readDone (s : State) (fn a n : Nat) (need : HostNeed) (answer : HostAnswer) : State :=
  match need, answer with
  | .admin, .data _ => s
  | .admin, .poisoned _ => if s.admDue then (s.raise 0x043 (hubSite 5 14) fn 0 1 0).admFail stPoison else s
  | .admin, _ => if s.admDue then (s.raise 0x0C2 (hubSite 5 14) fn 0 1 0).admFail stContextFault else s
  | _, _ =>
    let is (r : HostRead) : Bool := r.fn = fn && r.addr = a && r.len = n && r.need = need
    if !s.host.reads.any is then (match answer with
      | .noTranslation => if fn ∈ s.host.ats ∧ (fn, a / 4096) ∉ s.host.noXlat then s.updHost fun h => { h with noXlat := h.noXlat ++ [(fn, a / 4096)] } else s
      | _ => s)
    else
      let s := s.updHost fun h => { h with reads := dropFirst is h.reads }
      match answer with
      | .data bs => s.readData fn a n need bs false
      | .poisoned bs => s.readData fn a n need bs true
      | .error => s.readFail fn a n need
      | .noTranslation =>
        let s := s.updHost fun h => { h with noXlat := if (fn, a / 4096) ∈ h.noXlat then h.noXlat else h.noXlat ++ [(fn, a / 4096)] }
        s.readFail fn a n need

/-- HOST_READ_COMPLETION. -/
def execHostReadCompletion (fn addr len : Nat) (need : HostNeed) (answer : HostAnswer) (s : State) : Out :=
  .next (s.readDone fn addr len need answer)

end Sys2Proof.Machine
end

