-- ==== Sys2Proof/Machine/Admit.lean ====
section
/-! DEFINITION. Admission (14_host_interface.md R304 to R306, Tables HOST-4 to HOST-7): the checks of Table HOST-5 on a fetched descriptor, in
their order, and what an admitted request pins. -/

namespace Sys2Proof.Machine

/-! ## The checks -/

/-- What Table HOST-5 asks of a descriptor whose words could be read. -/
structure Judge where
  good : Bool           -- check 2 holds
  denied : Bool         -- check 3 fails
  out : Nat             -- check 4: the most that can be written at OUT
  recs : Nat            -- and at REC
  named : List Nat      -- check 5: the partitions of what it names
  part : Nat            -- the partition of its work (R325)
  part2 : Option Nat
  state : Bool          -- check 6 fails
  retired : Bool        -- check 7 fails
  room : Bool           -- check 9 holds
  deriving DecidableEq, Repr

/-- An opcode's work in a partition, nothing against it. -/
def Judge.within (p : Nat) : Judge := ⟨true, false, 0, 0, [p], p, none, false, false, true⟩

/-- Something it names does not exist: the present state forbids the command; of the rest its HOME is named
(DEDUCED, log entry 42). -/
def Judge.missing (home : Nat) (good : Bool) : Judge := { Judge.within home with good := good, state := true }

/-- The INLINE bits that an opcode uses (Table HOST-7); all others are reserved. None for a reserved opcode. -/
def inlineMask (op : Nat) : Option Nat :=
  match op with
  | 0x01 => some 0x01FFFF
  | 0x02 => some 0x03FFFF
  | 0x03 => some 0xFFFFFFFF
  | 0x04 => some 0
  | 0x05 => some 0xFFFFFFFF
  | 0x06 => some (2 ^ 80 - 1)
  | 0x07 => some 0
  | 0x08 => some 0
  | 0x09 => some 0
  | 0x0A => some 0
  | 0x0B => some 0xFFFFFFFFFF
  | 0x10 => some 0x07FF
  | 0x11 => some 0x01FF
  | 0x12 => some 0xFF
  | 0x18 => some 0xFF
  | 0x19 => some 0xFF
  | 0x1A => some 0x01FF
  | 0x20 => some 0xFFFFFFFF0000FFFF
  | 0x21 => some 0xFFFF
  | 0x28 => some 0xFFFFFFFFFF
  | 0x29 => some 0xFFFFFFFFFFFF
  | 0x30 => some 0xFFFF
  | 0x31 => some 0xFFFFFFFF
  | 0x38 => some 0xFFFF00FF
  | _ => none

/-- The opcodes that take no parameter block. -/
def takesNoParam (op : Nat) : Bool := op ∈ [0x0B, 0x12, 0x1A, 0x21, 0x30, 0x31, 0x38]

/-- Check 2 for every opcode: it is not reserved, and reserved bits of FLAGS and INLINE are zero (R7). -/
def goodDescriptor (d : List Byte) : Bool :=
  let op := fieldLe d 0 1
  match inlineMask op with
  | none => false
  | some m =>
    decide (fieldLe d 1 1 < 8) && decide (leNat (slice d 48 16) ||| m = m) &&
      (!takesNoParam op || (fieldLe d 16 8 = 0 && fieldLe d 24 4 = 0))

/-- The opcodes that the ADMIN bit guards (Table HOST-7). -/
def needsAdmin (op : Nat) : Bool := op ∈ [0x1A, 0x28, 0x29, 0x38]

/-- The opcodes that count as started once they are admitted (R451). -/
def startsAdmitted (op : Nat) : Bool := op ∈ [0x11, 0x12, 0x18, 0x19, 0x1A, 0x20, 0x21, 0x28, 0x29, 0x38]

/-! ## Text and search -/

/-- OP_TOKENIZE and OP_DETOKENIZE (R179 to R181). -/
def State.judgeZest (s : State) (r : Req) : Judge :=
  let detok := decide (r.opcode = 2)
  let stream := r.inl 1 1
  let fits := decide (stream < s.rd R.zstCtlStreams 0) && (!detok || decide (r.param.length % 4 = 0))
  match aget s.vocabs (r.inl 0 1) with
  | none => Judge.missing (s.home r.client) fits
  | some v =>
    let bound := s.streamBinding r.client stream
    let tokens := words4 r.param
    let held (n : Nat) : Nat := if bound.isSome then n else 0
    let text := (tokens.map fun t => (v.string (bitOf (r.inl 2 1) 1) t).length).foldl (· + ·) 0
    { Judge.within v.part with
      good := fits && (!detok || tokens.all fun t => decide (t < v.v))
      out := if detok then held 3 + text else 4 * (r.param.length + held (3 + v.pieceMax))
      state := bound.any fun b => b ≠ (r.inl 0 1, detok)
      room := !(s.engines .zest v.part).isEmpty }

/-- OP_EMBED (R327). -/
def State.judgeEmbed (s : State) (r : Req) : Judge :=
  let good := decide (r.param.length % 4 = 0)
  match s.weight? (r.inl 0 4) with
  | none => { Judge.missing (s.home r.client) good with named := ((s.obj? (r.inl 0 4)).map (·.part)).toList }
  | some (_, w) =>
    { Judge.within w.part with good := good, out := w.dims + w.sketch / 8, room := decide (r.param.length / 4 ≤ s.passRows w.part) }

/-- OP_SEARCH (R119, R125). -/
def State.judgeSearch (s : State) (r : Req) : Judge :=
  let b := r.param.take 64
  let slots := spSlots b
  let parts := slots.filterMap fun i => (s.shard? i).map (·.part)
  { Judge.within (parts.headD (s.home r.client)) with
    good := decide (r.param.length = 64 + sketchBits (spSketch b) / 8) && goodSearch b true
    out := listSize (spK b)
    named := if parts.isEmpty then [s.home r.client] else parts
    part2 := parts[1]?
    state := !s.searchState b }

/-- Is a rank list in a parameter block in order: Tables RANK-4 and RANK-5, key type 3 or 4? -/
def goodList (b : List Byte) : Bool :=
  decide (32 ≤ b.length) && decide (1 ≤ listK b) && decide (listK b ≤ 4096) && decide (b.length = listSize (listK b)) &&
    decide (fieldLe b 0 2 ≤ listK b) && decide (1 ≤ fieldLe b 4 2) && decide (fieldLe b 4 2 ≤ 4096) && (fieldLe b 6 1 = 3 || fieldLe b 6 1 = 4) &&
    decide (fieldLe b 7 1 ≤ 1) && decide (fieldLe b 24 8 = 0) &&
    (List.range (listK b)).all fun i =>
      let e := leNat (slice b (32 + 16 * i) 16)
      decide (bitsOf e 91 80 = 0) && decide (bitsOf e 93 92 ≠ 3)

/-- OP_RERANK_EXACT (R144). -/
def State.judgeRerankExact (s : State) (r : Req) : Judge :=
  let df := r.inl 2 2
  let good := decide (1 ≤ r.inl 0 2) && decide (r.inl 0 2 ≤ 4096) && decide (256 ≤ df) && decide (df ≤ 4096) && decide (df % 32 = 0) && goodList (reList r)
  let shards := if good then (s.listSlots (reList r)).filterMap s.shard? else []
  let parts := shards.map (·.part)
  { Judge.within (parts.headD (s.home r.client)) with
    good := good
    out := listSize (r.inl 0 2)
    named := if parts.isEmpty then [s.home r.client] else parts
    part2 := parts[1]?
    state := shards.any fun x => x.df ≠ df }

/-- Lengths of pairs (R148). -/
def goodPairs (pq pp : Nat) : Bool :=
  decide (16 ≤ pq) && decide (pq ≤ 1024) && decide (16 ≤ pp) && decide (pp ≤ 2048) && decide (pq + pp ≤ 2048)

/-- OP_RERANK_MODEL. -/
def State.judgeRerankModel (s : State) (r : Req) : Judge :=
  let good := goodPairs (r.inl 4 2) (r.inl 6 2) && decide (1 ≤ r.inl 8 2) && decide (r.inl 8 2 ≤ 4096) && decide (r.p 12 4 = 0) &&
    decide (r.p 24 8 = 0) && goodList (r.param.drop 32)
  match s.weight? (r.inl 0 4) with
  | none => { Judge.missing (s.home r.client) good with named := ((s.obj? (r.inl 0 4)).map (·.part)).toList }
  | some (_, w) => { Judge.within w.part with good := good, out := listSize (r.inl 8 2) }

/-- OP_TOPK (Table RANK-2, R450). -/
def State.judgeTopk (s : State) (r : Req) : Judge :=
  let dense := decide (r.p 0 1 = 0)
  let n := r.p 8 4
  let k := r.p 16 2
  let rows := r.p 4 4 + 1
  { Judge.within (s.home r.client) with
    good := decide (r.param.length = 40) && decide (r.p 0 1 ≤ 1) && decide (r.p 3 1 = 0) && decide (r.p 18 6 = 0) && decide (rows ≤ 65536) &&
      decide (1 ≤ k) && decide (k ≤ 4096) &&
      (if dense then
        decide (r.p 1 1 ≤ 2) && decide (r.p 2 1 ≤ 1) && decide (1 ≤ n) && decide (n + r.p 12 4 ≤ 0xFFFFFFFF) && decide (n * keyBytes (r.p 1 1) ≤ r.p 32 8)
       else
        (r.p 1 1 = 3 || r.p 1 1 = 4) && r.p 2 1 = 0 && decide (1 ≤ n) && decide (n ≤ 4096) && r.p 32 8 = 0)
    out := rows * (if dense then 32 + 8 * k else listSize k) }

/-! ## Packing, generation and retrieval -/

/-- A pack block in order (Tables HOST-11, TEXT-3); in OP_RETRIEVE the fields of its own inputs are zero (Table HOST-12). -/
def goodPack (b : List Byte) (inRetrieve : Bool) : Bool :=
  let f := fieldLe b
  decide (1 ≤ f 0 4) && decide (f 0 4 ≤ 2097152) && decide (f 4 1 ≤ 2) && decide (f 5 1 ≤ 3) && decide (f 6 1 ≤ 7) && decide (f 7 1 ≤ 64) &&
    decide (16 ≤ f 8 2) && decide (f 8 2 ≤ 4096) && decide (f 10 1 ≤ 64) && f 11 1 = 0 && f 28 4 = 0 && f 56 8 = 0 &&
    decide (f 12 4 ≤ 2097152) && decide (f 24 4 ≤ 2097152) && (!inRetrieve || (f 24 4 = 0 && f 32 8 = 0 && f 40 8 = 0 && f 48 8 = 0))

/-- The tree of a pack block is defined, where it names one. -/
def State.packTree (s : State) (b : List Byte) : Bool := !pkTreeEn b || s.rd R.mdlTreeLog2 (pkTree b) ≠ 0

/-- The engines a pack needs (R326). -/
def State.packEngines (s : State) (c : Nat) (b : List Byte) : Bool :=
  !(s.engines .punnet (s.packPart c b)).isEmpty && (!pkTreeEn b || !(s.engines .medlar (s.packPart c b)).isEmpty)

/-- OP_PACK; `head` is the header of the rank list at INPUT, read by check 1. -/
def State.judgePack (s : State) (r : Req) (head : List Byte) : Judge :=
  let b := r.packBlock
  { Judge.within (s.packPart r.client b) with
    good := decide (r.param.length = 576) && goodPack b false && decide (1 ≤ listK head) && decide (listK head ≤ 4096)
    out := roundUp (10 * pkBudget b) 64 + 32 * listK head
    recs := 64
    state := !s.packTree b
    room := s.packEngines r.client b }

/-- FP32 code of a parameter from `lo` to `hi`, codes of positive numbers; -0 stands for 0. -/
def codeIn (c lo hi : Nat) : Bool := (decide (lo ≤ c) && decide (c ≤ hi)) || (lo = 0 && c = 0x80000000)

/-- A generation block in order (Tables GENS-1, HOST-10); in OP_RETRIEVE the prompt is the pack. -/
def goodGen (b : List Byte) (streams : Nat) (inRetrieve : Bool) : Bool :=
  let f := fieldLe b
  let topK := f 32 2
  (decide (f 4 2 ≤ 1023) || f 4 2 = 0xFFFF) && decide (f 6 1 ≤ 7) && decide (1 ≤ f 12 4) && decide (f 12 4 ≤ 262144) && decide (f 16 1 ≤ 15) &&
    decide (f 17 1 ≤ 64) && decide (f 18 1 ≤ 20) && decide (f 19 1 ≤ 16) && (codeIn (f 20 4) 0 0 || codeIn (f 20 4) 0x3C23D70A 0x42C80000) &&
    (if topK = 0 then codeIn (f 24 4) 0 0 && f 28 4 = 0x3F800000 else codeIn (f 24 4) 0 0x3F800000 && codeIn (f 28 4) 1 0x3F800000) &&
    decide (topK ≤ 4096) && decide (f 34 2 ≤ 4096) && codeIn (f 36 4) 0x3F800000 0x41200000 && codeIn (f 40 4) 0 0x41200000 && decide (f 44 2 ≤ 1024) &&
    (!bitOf (f 7 1) 7 || (decide (f 46 1 < streams) && f 16 1 = 0)) &&
    (if inRetrieve then f 56 8 = 0 && f 64 4 = 0 else decide (1 ≤ f 64 4) && decide (f 64 4 ≤ 2097152)) &&
    decide (leNat (slice b 96 32) = 0)

/-- The adapter version that a generation block pins in a partition: none for a version that is not held. -/
def State.genAdapter (s : State) (p : Nat) (b : List Byte) : Option Adapter :=
  let id := fieldLe b 4 2
  let ver := fieldLe b 8 4
  if ver = 0 then s.currentAdapter p id
  else
    let held (a : Adapter) : Bool := a.part = p && a.id = id && a.version = ver && !a.loading
    (s.adapters.find? fun a => held a && !a.retired).orElse fun _ => s.adapters.find? held

/-- Does a block name a version that was retired, and is freed by now (R216; DEDUCED, log entry 89)? -/
def State.namesFreed (s : State) (p : Nat) (b : List Byte) : Bool :=
  fieldLe b 8 4 ≠ 0 && (s.genAdapter p b).isNone && decide ((fieldLe b 4 2, fieldLe b 8 4) ∈ (s.part p).retired)

/-- Check 7: VERSION 0 or a version not held, of an ID with no current version, or a version that is or was retired (R216). -/
def State.genRetired (s : State) (p : Nat) (b : List Byte) : Bool :=
  decide (fieldLe b 4 2 ≠ 0xFFFF) && (match s.genAdapter p b with
    | none => (s.currentAdapter p (fieldLe b 4 2)).isNone || s.namesFreed p b
    | some a => a.retired)

/-- Check 6 of a generation block: model, pool or adapter not loaded on the partition, no room for MAX_NEW in the context, or a stream that is
bound otherwise (R180, R196). -/
def State.genState (s : State) (c : Nat) (b : List Byte) (plen : Nat) : Bool :=
  match s.weight? (fieldLe b 0 4) with
  | none => true
  | some (_, w) =>
    let id := fieldLe b 4 2
    decide (w.contextMax < plen + fieldLe b 12 4) || !((s.pool? (fieldLe b 6 1)).any fun x => x.part = w.part) || s.rd R.mdlPstatState (fieldLe b 6 1) ≠ 2 ||
      (decide (id ≠ 0xFFFF) && (s.genAdapter w.part b).isNone && (s.currentAdapter w.part id).isSome && !s.namesFreed w.part b) ||
      (bitOf (fieldLe b 7 1) 7 && ((aget s.vocabs (fieldLe b 47 1)).isNone ||
        (s.streamBinding c (fieldLe b 46 1)).any fun x => x ≠ (fieldLe b 47 1, true)))

/-- The partitions a generation block names: of its model, its pool and its vocabulary. -/
def State.genNamed (s : State) (b : List Byte) : List Nat :=
  ((s.obj? (fieldLe b 0 4)).map (·.part)).toList ++ ((s.pool? (fieldLe b 6 1)).map (·.part)).toList ++
    (if bitOf (fieldLe b 7 1) 7 then ((aget s.vocabs (fieldLe b 47 1)).map (·.part)).toList else [])

/-- The engines a generation needs (R326): Pip units, Medlar for a match of its prompt, Zest for its answer. -/
def State.genEngines (s : State) (b : List Byte) (match' : Bool) : Bool :=
  match s.weight? (fieldLe b 0 4) with
  | none => true
  | some (_, w) =>
    !(s.pipUnits w.part).isEmpty && (!match' || !(s.engines .medlar w.part).isEmpty) &&
      (!bitOf (fieldLe b 7 1) 7 || (aget s.vocabs (fieldLe b 47 1)).all fun v => !(s.engines .zest v.part).isEmpty)

/-- Bytes of the token records of a generation, and of its result record (R213). -/
def genOut (b : List Byte) : Nat := (fieldLe b 16 1 + 1) * fieldLe b 12 4 * (16 + 8 * fieldLe b 18 1)
/-- OP_GENERATE (R196, R197). -/
def State.judgeGenerate (s : State) (r : Req) : Judge :=
  let b := r.param
  let good := decide (b.length = 128) && goodGen b (s.rd R.zstCtlStreams 0) false
  let p := ((s.weight? (fieldLe b 0 4)).map (·.2.part)).getD (s.home r.client)
  -- the blocks that may be matched are not known yet: GEN_ADMISSION decides with those that are
  let need := blocksNeeded (fieldLe b 64 4) (fieldLe b 12 4) (fieldLe b 16 1 + 1) (if bitOf (fieldLe b 7 1) 3 then fieldLe b 64 4 / 256 else 0)
  { Judge.within p with
    good := good
    out := genOut b
    recs := genRec b
    named := if (s.genNamed b).isEmpty then [p] else s.genNamed b
    state := s.genState r.client b (fieldLe b 64 4)
    retired := s.genRetired p b
    room := s.genEngines b (bitOf (fieldLe b 7 1) 3) && (s.pool? (fieldLe b 6 1)).all fun x => decide (need ≤ x.capacity) }

/-- Is a retrieve block in order (Table HOST-12)? -/
def goodRetrieve (r : Req) (streams : Nat) : Bool :=
  let k (o : Nat) : Bool := decide (1 ≤ r.p o 2) && decide (r.p o 2 ≤ 4096)
  decide (r.param.length = if r.rGen then 896 else 768) && decide (1 ≤ r.p 8 4) && decide (r.p 8 4 ≤ 8388608) && decide (r.p 13 1 ≤ 1) &&
    k 14 && k 24 && k 26 && k 28 && goodPairs (r.p 30 2) (r.p 32 2) && r.p 34 6 = 0 && decide (leNat (slice r.param 48 80) = 0) &&
    goodSearch r.rSearch false && goodPack r.packBlock true && (!r.rGen || goodGen r.rBlock streams true)

/-- OP_RETRIEVE (R312). -/
def State.judgeRetrieve (s : State) (r : Req) : Judge :=
  let home := s.home r.client
  let b := r.rBlock
  let kOut := r.p 28 2
  let vocab := aget s.vocabs (r.p 12 1)
  let enc := s.weight? (r.p 16 4)
  let cross := s.weight? (r.p 20 4)
  let gp := ((s.weight? (fieldLe b 0 4)).map (·.2.part)).getD home
  let named := (vocab.map (·.part)).toList ++ ((s.obj? (r.p 16 4)).map (·.part)).toList ++ ((s.obj? (r.p 20 4)).map (·.part)).toList ++
    [s.packPart r.client r.packBlock] ++ (if r.rGen then s.genNamed b else [])
  { Judge.within ((vocab.map (·.part)).getD home) with
    good := goodRetrieve r (s.rd R.zstCtlStreams 0)
    out := if r.rGen then roundUp (64 + 32 * kOut) 64 + genOut b else 64 + 32 * kOut
    recs := r.retrieveRec (r.p 14 2)
    named := named
    state := vocab.isNone || cross.isNone || !(enc.any fun e => e.2.sketch = sketchBits (spSketch r.rSearch)) || !s.packTree r.packBlock ||
      (r.rGen && s.genState r.client b 0)
    retired := r.rGen && s.genRetired gp b
    room := (vocab.all fun v => !(s.engines .zest v.part).isEmpty) && s.packEngines r.client r.packBlock &&
      (!r.rGen || s.genEngines b (bitOf (fieldLe b 7 1) 3)) }

/-- OP_STEP_CONTROL (R203): the target is in flight and has not ended, and PAUSE or RESUME fits its pause. -/
def State.judgeControl (s : State) (r : Req) : Judge :=
  let t : ReqKey := (r.client, r.inl 0 4)
  let paused := s.hostHeld t
  { Judge.within (s.home r.client) with
    good := decide (r.inl 4 1 ≤ 2)
    state := !s.live t || (match r.inl 4 1 with
      | 0 => paused ≠ some false
      | 1 => paused ≠ some true
      | _ => false) }

/-! ## Tables, index and objects -/

/-- OP_TABLE_LOOKUP (R157, Table TABL-2). -/
def State.judgeLookup (s : State) (r : Req) : Judge :=
  let good := decide (r.param.length = 32) && decide (lkBags r ≤ 65536) && r.p 4 4 = 0 && (lkWeighted r || r.p 24 8 = 0)
  match s.table? (r.inl 0 1) with
  | none => Judge.missing (s.home r.client) good
  | some t =>
    { Judge.within t.part with
      good := good
      out := lkBags r * bagBytes (lkFmt r) t
      state := t.missedTf
      room := (List.range 4).all fun die => !(s.unitsFor die t.part).isEmpty }

/-- OP_TABLE_UPDATE (R162, R165). -/
def State.judgeUpdate (s : State) (r : Req) : Judge :=
  match s.table? (r.inl 0 1) with
  | none => Judge.missing (s.home r.client) (goodUpdateForm r)
  | some t =>
    let good := goodUpdate t r
    { Judge.within t.part with
      good := good
      state := s.updateState (r.inl 0 1)
      room := t.updateRoom ((rowDeltas t t.slice (r.inl 1 1 = 1) (updEntries r.param)).map fun (e : Nat × List Int) => e.1) }

/-- OP_TABLE_COMMIT (R165, R168). -/
def State.judgeCommit (s : State) (r : Req) : Judge :=
  match s.table? (r.inl 0 1) with
  | none => Judge.missing (s.home r.client) true
  | some t =>
    let waits := s.host.reqs.any fun x => !x.ended && x.opcode = 0x12 && x.inl 0 1 = r.inl 0 1
    { Judge.within t.part with state := s.updateState (r.inl 0 1) || t.commit.isSome || waits }

/-- OP_INDEX_INSERT and OP_INDEX_DELETE (R127). -/
def State.judgeChange (s : State) (r : Req) : Judge :=
  let slot := r.inl 0 1
  let n := if r.opcode = 0x18 then 16 + s.shardBits slot / 8 else 8
  let recs := chunks n r.param
  let good := decide (slot < 2) && decide (r.param.length % n = 0) && (r.opcode = 0x19 || recs.all fun b => fieldLe b 0 2 = 0)
  match s.shard? slot with
  | none => Judge.missing (s.home r.client) good
  | some x =>
    let st := if good then s.indexStatus r else none
    { Judge.within x.part with
      good := good
      out := if r.opcode = 0x18 then 8 * recs.length else 0
      state := st = some stState
      room := st ≠ some stNoResource }

/-- OP_INDEX_MERGE (R128). -/
def State.judgeMerge (s : State) (r : Req) : Judge :=
  let slot := r.inl 0 1
  match s.shard? slot with
  | none => Judge.missing (s.home r.client) (decide (slot < 2))
  | some x =>
    let waits := s.host.reqs.any fun y => !y.ended && y.opcode = 0x1A && y.inl 0 1 = slot
    { Judge.within x.part with
      state := x.merge.isSome || s.rd R.sloShardState slot ≠ 2 || waits
      room := x.sections.all fun y => s.sectionRoom x (s.shardBits slot) y (y.nodesAfter (s.rd R.sloShardEpoch slot)) }

/-- OP_ADAPTER_LOAD (R215). -/
def State.judgeAdapterLoad (s : State) (r : Req) : Judge :=
  let p := s.adapterPart r
  { Judge.within p with
    good := goodAdapter r.param && decide (r.inl 0 2 < 1024)
    state := !s.holdsWeights p (slice r.param 0 32)
    room := decide (s.adapterCount p < 64) }

/-- OP_ADAPTER_RETIRE (R216). -/
def State.judgeAdapterRetire (s : State) (r : Req) : Judge :=
  { Judge.within (s.adapterPart r) with
    good := decide (r.inl 0 2 < 1024)
    retired := (s.currentAdapter (s.adapterPart r) (r.inl 0 2)).isNone }

/-- OP_OBJECT_PLACE (R246, R323). -/
def State.judgePlace (s : State) (r : Req) : Judge :=
  let p := r.inl 4 1
  { Judge.within p with
    good := s.goodPlace r
    named := p :: ((s.obj? (r.inl 0 4)).map (·.part)).toList
    state := s.placeState r
    room := s.placeRoom r }

/-- OP_OBJECT_LOAD (R246). -/
def State.judgeLoad (s : State) (r : Req) : Judge :=
  { Judge.within (((s.obj? (r.inl 0 4)).map (·.part)).getD (s.home r.client)) with
    good := s.goodLoad r
    state := s.loadState r
    room := s.loadRoom r }

/-- May a client run the opcodes marked ADMIN (R324)? -/
def State.isAdmin (s : State) (c : Nat) : Bool := s.isSet R.cfgClientAdmin c

/-- OP_ACCOUNT_READ: another client's record needs ADMIN. -/
def State.judgeAccount (s : State) (r : Req) : Judge :=
  { Judge.within (s.home r.client) with
    good := decide (r.inl 0 2 < 4096)
    denied := r.inl 0 2 ≠ r.client && !s.isAdmin r.client
    out := 256 }

/-- The most that OP_DIGEST_READ of a target can write: a proof of at most ten hashes and the record (Tables SECU-4, SECU-5, SECU-7). -/
def State.proofMost (s : State) (c t : Nat) : Nat :=
  match s.findProof c t with
  | some p => (s.proofBytes p.1 p.2.1 p.2.2).length
  | none => match (s.sec.openBatch ++ s.sec.closed.flatMap (·.leaves)).find? fun x => x.client = c && x.req = t with
    | some x => 1712 + x.record.length
    | none => match s.req? (c, t) with
      | some q => if q.flag 2 then 1712 + 128 + 3 * 104 + 40 * (if q.opcode = 0x09 then q.p 14 2 else 2) + 40 * 2 else 0
      | none => 0

/-- OP_DIGEST_READ (R415). -/
def State.judgeDigest (s : State) (r : Req) : Judge :=
  let t := r.inl 0 4
  { Judge.within (s.home r.client) with
    out := s.proofMost r.client t
    state := !(s.leafWaits r.client t || s.digestComes r.client t || (s.findProof r.client t).isSome) }

/-- OP_POWER: the PF with ADMIN only; modes and caps of Table POWS-6. -/
def State.judgePower (s : State) (r : Req) : Judge :=
  let cap := r.inl 2 2
  { Judge.within (s.home r.client) with
    good := match r.inl 0 1 with
      | 0 => decide (1200 ≤ cap) && decide (cap ≤ 3000)
      | 1 => cap = 0
      | 2 => cap = 0
      | _ => false
    denied := decide (s.fnOf r.client ≠ 0) }

/-! ## The verdict -/

/-- What Table HOST-5 asks, by opcode. -/
def State.judge (s : State) (r : Req) (head : List Byte) : Judge :=
  match r.opcode with
  | 0x01 => s.judgeZest r
  | 0x02 => s.judgeZest r
  | 0x03 => s.judgeEmbed r
  | 0x04 => s.judgeSearch r
  | 0x05 => s.judgeRerankExact r
  | 0x06 => s.judgeRerankModel r
  | 0x07 => s.judgeTopk r
  | 0x08 => s.judgePack r head
  | 0x09 => s.judgeRetrieve r
  | 0x0A => s.judgeGenerate r
  | 0x0B => s.judgeControl r
  | 0x10 => s.judgeLookup r
  | 0x11 => s.judgeUpdate r
  | 0x12 => s.judgeCommit r
  | 0x18 => s.judgeChange r
  | 0x19 => s.judgeChange r
  | 0x1A => s.judgeMerge r
  | 0x20 => s.judgeAdapterLoad r
  | 0x21 => s.judgeAdapterRetire r
  | 0x28 => s.judgePlace r
  | 0x29 => s.judgeLoad r
  | 0x30 => s.judgeAccount r
  | 0x31 => s.judgeDigest r
  | 0x38 => s.judgePower r
  | _ => { Judge.within (s.home r.client) with good := false }

/-- Checks 2 to 9 of Table HOST-5 in order: the status of the first that fails. Check 6 begins with the states of Table HOST-6. -/
def State.verdict (s : State) (r : Req) (j : Judge) : Option Nat :=
  if !goodDescriptor r.desc || !j.good then some stBadDescriptor
  else if j.denied || (needsAdmin r.opcode && !s.isAdmin r.client) then some stDenied
  else if r.d 28 4 < j.out ∨ 64 * r.d 2 2 < j.recs then some stOutputShort
  else if j.named.any fun p => !s.inUse r.client p then some stNotBound
  else if (s.req? (r.client, r.id)).isSome ∨ ((j.part :: j.named).any fun p => !s.running p) ∨ j.state then some stState
  else if j.retired then some stVersionRetired
  else if s.expired r then some stDeadline
  else if !j.room then some stNoResource
  else none

/-! ## Admission -/

/-- The request a fetched descriptor asks for. -/
def State.askedReq (s : State) (f : Fetched) (d : List Byte) : Req :=
  freshReq f.client (fieldLe d 4 4) f.slot d (s.paramRead f.client d).bytes (s.home f.client) none s.now 0

/-- Check 1 of Table HOST-5: the status where the descriptor, its parameter block or the header at INPUT cannot be read or is poisoned. -/
def State.check1 (s : State) (f : Fetched) (d : List Byte) : Option Nat :=
  if f.failed ∨ f.paramFailed then some stContextFault
  else if f.poisoned then some stPoison
  else
    let bad (r : ReadRes) : Option Nat := match r with
      | .bounds => some stContextFault
      | .data _ true => some stPoison
      | _ => none
    (bad (s.paramRead f.client d)).orElse fun _ => bad (s.headRead f.client d)

/-- Does a fetched descriptor still wait: for its words (R305), with FENCE for every earlier final entry of its client (R306), or for an earlier
index command of its shard to take its place (R127)? -/
def State.notReady (s : State) (f : Fetched) : Bool :=
  if f.failed then false
  else match f.bytes with
    | none => true
    | some d =>
      let fence := bitOf (fieldLe d 1 1) 1 && (s.host.reqs.any (fun r => r.client = f.client) ||
        s.host.cq.any fun e => e.client = f.client && !e.event && !e.interim)
      let op := fieldLe d 0 1
      let order := (op = 0x18 || op = 0x19) && s.host.reqs.any fun r =>
        !r.ended && !r.ran && (r.opcode = 0x18 || r.opcode = 0x19) && r.inl 0 1 = fieldLe d 48 1
      (!f.paramFailed && !f.poisoned && (s.awaits f.client d).isSome) || fence || order

/-- The clients whose oldest fetched descriptor may be judged: the admission arbiter's sources (R26, R304). -/
def State.ready (s : State) : List Nat :=
  (s.host.fetched.map (·.client)).eraseDups.filter fun c =>
    decide (s.inflight c < 4096) && !((s.host.fetched.find? fun f => f.client = c).any s.notReady)

/-- Takes a client's oldest fetched descriptor; host data read for its descriptors goes with it unless another one of the client names it. -/
def State.takeFetched (s : State) (c : Nat) : State :=
  let fetched := dropFirst (fun f => f.client = c) s.host.fetched
  let used (g : RxSeg) : Bool := fetched.any fun f => f.client = c && f.bytes.any fun d =>
    descParam d = (g.addr, g.bytes.length) || fieldLe d 0 1 = 0x08
  s.updHost fun h => { h with
    fetched := fetched
    rx := h.rx.filter fun g => g.need ≠ .descriptor c || used g }

/-- A descriptor is rejected: a final entry and no side effect (R305); ST_STATE is counted in HST_STATE_REJECTS. -/
def State.reject (s : State) (f : Fetched) (d : List Byte) (st : Nat) : State :=
  let c := f.client
  let s := if st = stState then s.inc R.hstStateRejectsCount c 1 else s
  let s := s.charge c fun a => { a with failed := a.failed + 1 }
  s.produce { client := c, request := fieldLe d 4 4, status := st, count := 0, opcode := fieldLe d 0 1, interim := false, event := false,
              record := false, digest := false, slot := f.slot, outBytes := 0, detail := 0, irq := bitOf (fieldLe d 1 1) 0 }

/-- The fault message that goes with a failure of check 1; a host read that failed has sent its own. -/
def State.check1Fault (s : State) (f : Fetched) (st : Nat) : State :=
  if st = stPoison then s.raise 0x044 (hubSite 5 14) hubMaster 0 1 0
  else if f.failed ∨ f.paramFailed then s
  else s.raise 0x002 (hubSite 5 14) (s.fnOf f.client) 0 1 0

/-- What a request pins on this module at admission: model versions, an adapter version, and the epochs of what it reads (R13, R167, R197,
R216). -/
def State.pinAll (s : State) (k : ReqKey) (r : Req) (p : Nat) : State :=
  let key (o : Nat) : List Nat := ((s.weight? o).map (·.1)).toList
  let gen : List Byte := if r.opcode = 0x0A then r.param else if r.opcode = 0x09 ∧ r.rGen then r.rBlock else []
  let models := (match r.opcode with
    | 0x03 => key (r.inl 0 4)
    | 0x06 => key (r.inl 0 4)
    | 0x09 => key (r.p 16 4) ++ key (r.p 20 4)
    | _ => []) ++ (if gen.isEmpty then [] else key (fieldLe gen 0 4))
  let gp := ((s.weight? (fieldLe gen 0 4)).map (·.2.part)).getD p
  let adapter := if gen.isEmpty ∨ fieldLe gen 4 2 = 0xFFFF then none else (s.genAdapter gp gen).map fun a => (a.id, a.version, a.serial)
  let s := s.updReq k fun r => { r with models := models.eraseDups, adapter := adapter }
  let pinReady (s : State) (slot : Nat) : State := if s.rd R.sloShardState slot = 2 then (s.pinShard k slot).1 else s
  match r.opcode with
  | 0x04 => (spSlots r.param).foldl pinReady s
  | 0x05 => (s.listSlots (reList r)).foldl pinReady s
  | 0x10 => s.pinTable (r.inl 0 1) k
  | _ => s

/-- A request is admitted. -/
def State.admitReq (s : State) (r : Req) (j : Judge) : State :=
  let k : ReqKey := (r.client, r.id)
  let s := s.addReq { r with part := j.part, part2 := j.part2, started := startsAdmitted r.opcode }
  let s := s.charge r.client fun a => { a with admitted := a.admitted + 1 }
  s.pinAll k r j.part

/-- A client's oldest fetched descriptor is judged: admitted, or rejected with a final entry. -/
def State.judgeFront (s : State) (c : Nat) : State :=
  match s.host.fetched.find? fun f => f.client = c with
  | none => s
  | some f =>
    let d := padTo 64 (f.bytes.getD [])
    let v := s.check1 f d
    let s := if f.failed || f.paramFailed || f.poisoned then s else s.descReads c d
    match v with
    | some st => ((s.check1Fault f st).takeFetched c).reject f d st
    | none =>
      let r := s.askedReq f d
      let j := s.judge r (s.headRead c d).bytes
      match s.verdict r j with
      | some st => (s.takeFetched c).reject f d st
      | none => (s.takeFetched c).admitReq r j

/-- DESCRIPTOR_ADMIT: the admission arbiter grants a client (R28, R304); an event for any other client than the one it grants changes
nothing. -/
def State.admitNext (s : State) (c : Nat) : State :=
  if s.rd R.hstStatState 0 ≠ hsReady ∨ !s.moduleRun then s
  else
    let g := grantStep s.host.arb (s.ready.map fun c => (c, 1))
    if g.1 ≠ some c then s
    else (s.updHost fun h => { h with arb := g.2 }).judgeFront c

/-- DESCRIPTOR_ADMIT. -/
def execDescriptorAdmit (client : Nat) (s : State) : Out := .next (s.admitNext client)

end Sys2Proof.Machine
end

