-- ==== Sys2Proof/Machine/Board.lean ====
section
/-! DEFINITION. Commands of the tray and the board manager (21_module_hardware.md). -/

namespace Sys2Proof.Machine

/-- Changes the pins and settings of the board. -/
def State.updBoard (s : State) (f : BoardState → BoardState) : State := s.putBoard (f s.board)

/-- LOCATE_COMMAND: the LOCATE LED follows the board manager's command (R446). -/
def execLocateCommand (on : Bool) (s : State) : Out := .next (s.updBoard fun b => { b with locate := on })

/-- I3C_DYNAMIC_ADDRESS: the I3C target takes the address it is assigned while it has power (R441). -/
def State.i3cAssign (s : State) (a : Nat) : State :=
  if s.board.off then s else s.updBoard fun b => { b with i3cAddr := some a }

/-- I3C_DYNAMIC_ADDRESS. -/
def execI3cDynamicAddress (addr : Nat) (s : State) : Out := .next (s.i3cAssign addr)

/-- WAKE_N_RELEASE: WAKE_N is released when the PCIe link reaches L0, or 1 s after it was asserted, whichever comes first (R442). -/
def State.wakeRelease (s : State) (w : WakeRelease) : State :=
  match s.board.wakeN with
  | none => s
  | some t => match w with
    | .linkL0 => (s.updHost fun h => { h with linkL0 := true }).updBoard fun b => { b with wakeN := none }
    | .oneSecond => if 10 ^ 9 ≤ s.now - t then s.updBoard fun b => { b with wakeN := none } else s

/-- WAKE_N_RELEASE. -/
def execWakeNRelease (why : WakeRelease) (s : State) : Out := .next (s.wakeRelease why)

/-! ## Status LEDs (R446, Table MECH-8) -/

/-- What an LED shows. -/
inductive LedPattern where
  | dark | steady | oneHz | twoHz | flash
  deriving DecidableEq, Repr

/-- STATUS, green. -/
def State.ledStatus (s : State) : LedPattern :=
  let st := s.rd R.hstStatState 0
  let m := s.rd R.pwrStatModule 0
  if s.board.off ∨ st = 2 then .dark
  else if m = 2 then .flash
  else if st = 1 ∧ m = 0 ∧ s.upd.draining.isNone then .steady
  else .twoHz

/-- FAULT, amber. -/
def State.ledFault (s : State) : LedPattern :=
  if s.board.off then .dark
  else if s.isSet R.fltStatFatal 0 ∨ s.rd R.hstStatState 0 = 2 then .steady
  else if (List.range 64).any fun p => s.partEn p && s.rd R.cfgPstatState p = psUnavailable then .oneHz
  else .dark

/-- LOCATE, blue. -/
def State.ledLocate (s : State) : LedPattern := if s.board.off ∨ !s.board.locate then .dark else .oneHz

end Sys2Proof.Machine
end

