-- ==== Sys2Proof/Machine/Dispatch.lean ====
section
/-! DEFINITION. The dispatch of a command to its meaning: one arm per constructor of `Instr`, in the order of spec/opcode_table.json. -/

namespace Sys2Proof.Machine

def exec (i : Instr) (s : State) : Host.Outcome State Fault Refusal :=
  match i with
  | .opTokenize client req => Sys2Proof.Machine.execOpTokenize client req s
  | .opDetokenize client req => Sys2Proof.Machine.execOpDetokenize client req s
  | .opEmbed client req => Sys2Proof.Machine.execOpEmbed client req s
  | .opSearch client req => Sys2Proof.Machine.execOpSearch client req s
  | .opRerankExact client req => Sys2Proof.Machine.execOpRerankExact client req s
  | .opRerankModel client req => Sys2Proof.Machine.execOpRerankModel client req s
  | .opTopk client req => Sys2Proof.Machine.execOpTopk client req s
  | .opPack client req => Sys2Proof.Machine.execOpPack client req s
  | .opRetrieve client req => Sys2Proof.Machine.execOpRetrieve client req s
  | .opGenerate client req => Sys2Proof.Machine.execOpGenerate client req s
  | .stepControlPause client req => Sys2Proof.Machine.execStepControlPause client req s
  | .stepControlResume client req => Sys2Proof.Machine.execStepControlResume client req s
  | .stepControlCancel client req => Sys2Proof.Machine.execStepControlCancel client req s
  | .opTableLookup client req => Sys2Proof.Machine.execOpTableLookup client req s
  | .opTableUpdate client req => Sys2Proof.Machine.execOpTableUpdate client req s
  | .opTableCommit client req => Sys2Proof.Machine.execOpTableCommit client req s
  | .opIndexInsert client req => Sys2Proof.Machine.execOpIndexInsert client req s
  | .opIndexDelete client req => Sys2Proof.Machine.execOpIndexDelete client req s
  | .opIndexMerge client req => Sys2Proof.Machine.execOpIndexMerge client req s
  | .opAdapterLoad client req => Sys2Proof.Machine.execOpAdapterLoad client req s
  | .opAdapterRetire client req => Sys2Proof.Machine.execOpAdapterRetire client req s
  | .opObjectPlace client req => Sys2Proof.Machine.execOpObjectPlace client req s
  | .opObjectLoad client req => Sys2Proof.Machine.execOpObjectLoad client req s
  | .opAccountRead client req => Sys2Proof.Machine.execOpAccountRead client req s
  | .opDigestRead client req => Sys2Proof.Machine.execOpDigestRead client req s
  | .setCap client req => Sys2Proof.Machine.execSetCap client req s
  | .clearCap client req => Sys2Proof.Machine.execClearCap client req s
  | .enterWatch client req => Sys2Proof.Machine.execEnterWatch client req s
  | .admRingCreate desc => Sys2Proof.Machine.execAdmRingCreate desc s
  | .admRingDelete desc => Sys2Proof.Machine.execAdmRingDelete desc s
  | .sqTail fn client value => Sys2Proof.Machine.execSqTail fn client value s
  | .cqHead fn client value => Sys2Proof.Machine.execCqHead fn client value s
  | .descriptorFetch client => Sys2Proof.Machine.execDescriptorFetch client s
  | .descriptorAdmit client => Sys2Proof.Machine.execDescriptorAdmit client s
  | .completionPost client => Sys2Proof.Machine.execCompletionPost client s
  | .irqModerationTimeout client => Sys2Proof.Machine.execIrqModerationTimeout client s
  | .functionLevelReset fn how => Sys2Proof.Machine.execFunctionLevelReset fn how s
  | .functionD0Return fn => Sys2Proof.Machine.execFunctionD0Return fn s
  | .bar4Read offset n => Sys2Proof.Machine.execBar4Read offset n s
  | .bar4Write offset bytes ep => Sys2Proof.Machine.execBar4Write offset bytes ep s
  | .bar0InvalidAccess bar offset size isWrite => Sys2Proof.Machine.execBar0InvalidAccess bar offset size isWrite s
  | .registerWrite w => Sys2Proof.Machine.execRegisterWrite w s
  | .hstAdmCfgWrite accessor value => Sys2Proof.Machine.execHstAdmCfgWrite accessor value s
  | .hstAdmDbWrite accessor value => Sys2Proof.Machine.execHstAdmDbWrite accessor value s
  | .mbxSendTagWrite accessor tag => Sys2Proof.Machine.execMbxSendTagWrite accessor tag s
  | .mbxSenderRoom chan ptr tag => Sys2Proof.Machine.execMbxSenderRoom chan ptr tag s
  | .mbxPop accessor => Sys2Proof.Machine.execMbxPop accessor s
  | .mbxFlush accessor => Sys2Proof.Machine.execMbxFlush accessor s
  | .cfgResetModule accessor => Sys2Proof.Machine.execCfgResetModule accessor s
  | .heartbeatRefresh accessor => Sys2Proof.Machine.execHeartbeatRefresh accessor s
  | .watchdogKick accessor bits => Sys2Proof.Machine.execWatchdogKick accessor bits s
  | .firstErrorClear accessor => Sys2Proof.Machine.execFirstErrorClear accessor s
  | .pwrModeNap accessor domain => Sys2Proof.Machine.execPwrModeNap accessor domain s
  | .pwrModeRun accessor domain => Sys2Proof.Machine.execPwrModeRun accessor domain s
  | .pwrModeWatch accessor => Sys2Proof.Machine.execPwrModeWatch accessor s
  | .updActivateAtWrite accessor value => Sys2Proof.Machine.execUpdActivateAtWrite accessor value s
  | .accRec0Read accessor => Sys2Proof.Machine.execAccRec0Read accessor s
  | .accClientselWrite accessor client => Sys2Proof.Machine.execAccClientselWrite accessor client s
  | .bmcWakeCommand => Sys2Proof.Machine.execBmcWakeCommand s
  | .bmcWatchCommand => Sys2Proof.Machine.execBmcWatchCommand s
  | .bmcResetCommand => Sys2Proof.Machine.execBmcResetCommand s
  | .bmcCap watts => Sys2Proof.Machine.execBmcCap watts s
  | .locateCommand on => Sys2Proof.Machine.execLocateCommand on s
  | .i3cDynamicAddress addr => Sys2Proof.Machine.execI3cDynamicAddress addr s
  | .setstep cl addr => Sys2Proof.Machine.execSetstep cl addr s
  | .setpair cl addr => Sys2Proof.Machine.execSetpair cl addr s
  | .wload cl wAddr arrays wb => Sys2Proof.Machine.execWload cl wAddr arrays wb s
  | .mma cl aAddr pair wb last first => Sys2Proof.Machine.execMma cl aAddr pair wb last first s
  | .lmv cl aAddr pair blocks winAddr last first => Sys2Proof.Machine.execLmv cl aAddr pair blocks winAddr last first s
  | .pacc cl srcAddr pair => Sys2Proof.Machine.execPacc cl srcAddr pair s
  | .vop cl descAddr => Sys2Proof.Machine.execVop cl descAddr s
  | .topk cl descAddr => Sys2Proof.Machine.execTopk cl descAddr s
  | .quantize cl descAddr elem => Sys2Proof.Machine.execQuantize cl descAddr elem s
  | .stream cl descAddr engine => Sys2Proof.Machine.execStream cl descAddr engine s
  | .waitt cl counter n => Sys2Proof.Machine.execWaitt cl counter n s
  | .send cl srcAddr len port => Sys2Proof.Machine.execSend cl srcAddr len port s
  | .recv cl dstAddr port => Sys2Proof.Machine.execRecv cl dstAddr port s
  | .loop cl count body => Sys2Proof.Machine.execLoop cl count body s
  | .nop cl cycles => Sys2Proof.Machine.execNop cl cycles s
  | .page cl descAddr engine => Sys2Proof.Machine.execPage cl descAddr engine s
  | .jpage cl => Sys2Proof.Machine.execJpage cl s
  | .stepEnd cl => Sys2Proof.Machine.execStepEnd cl s
  | .stepBegin cl => Sys2Proof.Machine.execStepBegin cl s
  | .wait cl => Sys2Proof.Machine.execWait cl s
  | .syncPointRelease cl waited => Sys2Proof.Machine.execSyncPointRelease cl waited s
  | .transferComplete cl engine => Sys2Proof.Machine.execTransferComplete cl engine s
  | .recomputeDone cl cycles elems => Sys2Proof.Machine.execRecomputeDone cl cycles elems s
  | .portTokenArrival cl port => Sys2Proof.Machine.execPortTokenArrival cl port s
  | .creditReturn cl port n => Sys2Proof.Machine.execCreditReturn cl port n s
  | .rowEventMessage cl => Sys2Proof.Machine.execRowEventMessage cl s
  | .arbiterGrant arb pend => Sys2Proof.Machine.execArbiterGrant arb pend s
  | .routerFlit region inPort flit => Sys2Proof.Machine.execRouterFlit region inPort flit s
  | .dieLinkFrame link frame => Sys2Proof.Machine.execDieLinkFrame link frame s
  | .stepComplete part lengthNs energy signature last => Sys2Proof.Machine.execStepComplete part lengthNs energy signature last s
  | .passForm part => Sys2Proof.Machine.execPassForm part s
  | .beginMessageRelease part stepTag => Sys2Proof.Machine.execBeginMessageRelease part stepTag s
  | .prefetchEntryDone part entry failed => Sys2Proof.Machine.execPrefetchEntryDone part entry failed s
  | .expertRouting part model layer scores perRow counter => Sys2Proof.Machine.execExpertRouting part model layer scores perRow counter s
  | .genAdmission part cls => Sys2Proof.Machine.execGenAdmission part cls s
  | .pipSample part lane poisoned => Sys2Proof.Machine.execPipSample part lane poisoned s
  | .poolRestoreDone pool block => Sys2Proof.Machine.execPoolRestoreDone pool block s
  | .medlarProbeReturn engine bad => Sys2Proof.Machine.execMedlarProbeReturn engine bad s
  | .engineTaskDispatch kind part => Sys2Proof.Machine.execEngineTaskDispatch kind part s
  | .retrieveStageAdvance client req => Sys2Proof.Machine.execRetrieveStageAdvance client req s
  | .walkStart die => Sys2Proof.Machine.execWalkStart die s
  | .walkEnd walk => Sys2Proof.Machine.execWalkEnd walk s
  | .sideSweepPass walker => Sys2Proof.Machine.execSideSweepPass walker s
  | .shardResultAssemble client req slot => Sys2Proof.Machine.execShardResultAssemble client req slot s
  | .indexPublish slot => Sys2Proof.Machine.execIndexPublish slot s
  | .mergeBuildDone slot => Sys2Proof.Machine.execMergeBuildDone slot s
  | .mergeCommit slot => Sys2Proof.Machine.execMergeCommit slot s
  | .indexPinDrain slot => Sys2Proof.Machine.execIndexPinDrain slot s
  | .gatherSubbag unit => Sys2Proof.Machine.execGatherSubbag unit s
  | .bagMerge client req bag => Sys2Proof.Machine.execBagMerge client req bag s
  | .tableCommitRequantize table => Sys2Proof.Machine.execTableCommitRequantize table s
  | .tableFlip table => Sys2Proof.Machine.execTableFlip table s
  | .splitCommitAck table holder => Sys2Proof.Machine.execSplitCommitAck table holder s
  | .tableFlipAtTf table => Sys2Proof.Machine.execTableFlipAtTf table s
  | .tablePinDrain table epoch => Sys2Proof.Machine.execTablePinDrain table epoch s
  | .keepMsExpire table epoch => Sys2Proof.Machine.execKeepMsExpire table epoch s
  | .migrationCopyDone table row => Sys2Proof.Machine.execMigrationCopyDone table row s
  | .objectLoadComplete object => Sys2Proof.Machine.execObjectLoadComplete object s
  | .adapterLoadComplete part adapter version => Sys2Proof.Machine.execAdapterLoadComplete part adapter version s
  | .memoryAccess word requester op => Sys2Proof.Machine.execMemoryAccess word requester op s
  | .correctionWriteback word => Sys2Proof.Machine.execCorrectionWriteback word s
  | .patrolRead word noise => Sys2Proof.Machine.execPatrolRead word noise s
  | .refresh chan bank temp busy => Sys2Proof.Machine.execRefresh chan bank temp busy s
  | .refreshManagement chan => Sys2Proof.Machine.execRefreshManagement chan s
  | .readTrackingUpdate chan moves => Sys2Proof.Machine.execReadTrackingUpdate chan moves s
  | .subchannelRetrain chan sc ok1 ok2 => Sys2Proof.Machine.execSubchannelRetrain chan sc ok1 ok2 s
  | .detectWindowExpire chan sc => Sys2Proof.Machine.execDetectWindowExpire chan sc s
  | .channelPowerDown chan => Sys2Proof.Machine.execChannelPowerDown chan s
  | .flashSectorRead lsn part trial => Sys2Proof.Machine.execFlashSectorRead lsn part trial s
  | .flashWriteAck core => Sys2Proof.Machine.execFlashWriteAck core s
  | .stripeParityWrite stripe flush => Sys2Proof.Machine.execStripeParityWrite stripe flush s
  | .wearRelocate die => Sys2Proof.Machine.execWearRelocate die s
  | .readDisturbScan block worstPct => Sys2Proof.Machine.execReadDisturbScan block worstPct s
  | .flashDieRebuild die => Sys2Proof.Machine.execFlashDieRebuild die s
  | .flashPeriodicTraining => Sys2Proof.Machine.execFlashPeriodicTraining s
  | .mapEntryRebuild unit => Sys2Proof.Machine.execMapEntryRebuild unit s
  | .fabricFrameReceive port frame => Sys2Proof.Machine.execFabricFrameReceive port frame s
  | .replayTimeout port => Sys2Proof.Machine.execReplayTimeout port s
  | .transitMessage msg => Sys2Proof.Machine.execTransitMessage msg s
  | .write msg => Sys2Proof.Machine.execWrite msg s
  | .readReq msg => Sys2Proof.Machine.execReadReq msg s
  | .readRsp msg => Sys2Proof.Machine.execReadRsp msg s
  | .contrib msg => Sys2Proof.Machine.execContrib msg s
  | .result msg => Sys2Proof.Machine.execResult msg s
  | .error msg => Sys2Proof.Machine.execError msg s
  | .unreach msg => Sys2Proof.Machine.execUnreach msg s
  | .freq msg => Sys2Proof.Machine.execFreq msg s
  | .time port t1 t2 t3 t4 => Sys2Proof.Machine.execTime port t1 t2 t3 t4 s
  | .queryFanout msg => Sys2Proof.Machine.execQueryFanout msg s
  | .splitTableForward msg => Sys2Proof.Machine.execSplitTableForward msg s
  | .census src serial => Sys2Proof.Machine.execCensus src serial s
  | .censusAnswer serial => Sys2Proof.Machine.execCensusAnswer serial s
  | .usageReport msg => Sys2Proof.Machine.execUsageReport msg s
  | .censusSend => Sys2Proof.Machine.execCensusSend s
  | .censusAnswerTimeout => Sys2Proof.Machine.execCensusAnswerTimeout s
  | .censusForget moduleId => Sys2Proof.Machine.execCensusForget moduleId s
  | .seqGapTimeout src master strm => Sys2Proof.Machine.execSeqGapTimeout src master strm s
  | .collectiveTimeout req participant => Sys2Proof.Machine.execCollectiveTimeout req participant s
  | .freqPeriod => Sys2Proof.Machine.execFreqPeriod s
  | .freqLeadDecide => Sys2Proof.Machine.execFreqLeadDecide s
  | .freqEffect => Sys2Proof.Machine.execFreqEffect s
  | .timeExchange => Sys2Proof.Machine.execTimeExchange s
  | .ptmUpdate hostNow => Sys2Proof.Machine.execPtmUpdate hostNow s
  | .handoverStart port lane => Sys2Proof.Machine.execHandoverStart port lane s
  | .hoLock port lane => Sys2Proof.Machine.execHoLock port lane s
  | .handoverTimeout port lane => Sys2Proof.Machine.execHandoverTimeout port lane s
  | .laneTrackingStep port lane bias ringTx ringRx symErr => Sys2Proof.Machine.execLaneTrackingStep port lane bias ringTx ringRx symErr s
  | .portTraining port lockedLanes hello credits => Sys2Proof.Machine.execPortTraining port lockedLanes hello credits s
  | .portTrainRetry port => Sys2Proof.Machine.execPortTrainRetry port s
  | .portLossOfLock port => Sys2Proof.Machine.execPortLossOfLock port s
  | .islandIdle domain => Sys2Proof.Machine.execIslandIdle domain s
  | .islandWake domain => Sys2Proof.Machine.execIslandWake domain s
  | .regionNapEntry region => Sys2Proof.Machine.execRegionNapEntry region s
  | .napReturnComplete domain => Sys2Proof.Machine.execNapReturnComplete domain s
  | .watchEntry => Sys2Proof.Machine.execWatchEntry s
  | .watchSample readings => Sys2Proof.Machine.execWatchSample readings s
  | .watchHeartbeat => Sys2Proof.Machine.execWatchHeartbeat s
  | .watchWake causes linkInL0 => Sys2Proof.Machine.execWatchWake causes linkInL0 s
  | .watchReturnComplete failedClusters => Sys2Proof.Machine.execWatchReturnComplete failedClusters s
  | .regionEstimate region own shared temp => Sys2Proof.Machine.execRegionEstimate region own shared temp s
  | .governorTick measured temps hubTemp => Sys2Proof.Machine.execGovernorTick measured temps hubTemp s
  | .freqStepChange cl => Sys2Proof.Machine.execFreqStepChange cl s
  | .overPowerSignal => Sys2Proof.Machine.execOverPowerSignal s
  | .holdEnd => Sys2Proof.Machine.execHoldEnd s
  | .thermThrottle hottest => Sys2Proof.Machine.execThermThrottle hottest s
  | .thermHold hottest => Sys2Proof.Machine.execThermHold hottest s
  | .thermTrip hottest => Sys2Proof.Machine.execThermTrip hottest s
  | .faultMessage m => Sys2Proof.Machine.execFaultMessage m s
  | .clusterRetirementReset cl => Sys2Proof.Machine.execClusterRetirementReset cl s
  | .faultIrqCoalesce => Sys2Proof.Machine.execFaultIrqCoalesce s
  | .pulseToggle => Sys2Proof.Machine.execPulseToggle s
  | .heartbeatLate => Sys2Proof.Machine.execHeartbeatLate s
  | .wdogCore core => Sys2Proof.Machine.execWdogCore core s
  | .watchdogSecondStage core => Sys2Proof.Machine.execWatchdogSecondStage core s
  | .checkCompare part => Sys2Proof.Machine.execCheckCompare part s
  | .checkVoteDone part pair voter => Sys2Proof.Machine.execCheckVoteDone part pair voter s
  | .windfallSlice cluster trials => Sys2Proof.Machine.execWindfallSlice cluster trials s
  | .marginPlan cluster vMins osc => Sys2Proof.Machine.execMarginPlan cluster vMins osc s
  | .ringOscReading cluster drift => Sys2Proof.Machine.execRingOscReading cluster drift s
  | .partitionReset part cause => Sys2Proof.Machine.execPartitionReset part cause s
  | .partitionResetDone part => Sys2Proof.Machine.execPartitionResetDone part s
  | .pwrGoodRise => Sys2Proof.Machine.execPwrGoodRise s
  | .perstNAssert => Sys2Proof.Machine.execPerstNAssert s
  | .perstNRelease => Sys2Proof.Machine.execPerstNRelease s
  | .moduleReset cause => Sys2Proof.Machine.execModuleReset cause s
  | .startupStageDone r => Sys2Proof.Machine.execStartupStageDone r s
  | .startupFailure reason => Sys2Proof.Machine.execStartupFailure reason s
  | .startupTimeout => Sys2Proof.Machine.execStartupTimeout s
  | .startupTimeWaitExpire => Sys2Proof.Machine.execStartupTimeWaitExpire s
  | .inputPowerLoss => Sys2Proof.Machine.execInputPowerLoss s
  | .railFault => Sys2Proof.Machine.execRailFault s
  | .getVersion => Sys2Proof.Machine.execGetVersion s
  | .getCapabilities => Sys2Proof.Machine.execGetCapabilities s
  | .negotiateAlgorithms asym hash => Sys2Proof.Machine.execNegotiateAlgorithms asym hash s
  | .getDigests slot => Sys2Proof.Machine.execGetDigests slot s
  | .getCertificate slot offset length certKey => Sys2Proof.Machine.execGetCertificate slot offset length certKey s
  | .challenge slot nonce => Sys2Proof.Machine.execChallenge slot nonce s
  | .getMeasurements index nonce => Sys2Proof.Machine.execGetMeasurements index nonce s
  | .keyExchange session dhe => Sys2Proof.Machine.execKeyExchange session dhe s
  | .finish session => Sys2Proof.Machine.execFinish session s
  | .endSession session => Sys2Proof.Machine.execEndSession session s
  | .queryDeviceIdentifiers => Sys2Proof.Machine.execQueryDeviceIdentifiers s
  | .getFirmwareParameters => Sys2Proof.Machine.execGetFirmwareParameters s
  | .requestUpdate component digest => Sys2Proof.Machine.execRequestUpdate component digest s
  | .passComponentTable component svn => Sys2Proof.Machine.execPassComponentTable component svn s
  | .updateComponent component svn => Sys2Proof.Machine.execUpdateComponent component svn s
  | .firmwareDataPiece p => Sys2Proof.Machine.execFirmwareDataPiece p s
  | .activateFirmware => Sys2Proof.Machine.execActivateFirmware s
  | .getStatus => Sys2Proof.Machine.execGetStatus s
  | .cancelUpdateComponent => Sys2Proof.Machine.execCancelUpdateComponent s
  | .cancelUpdate => Sys2Proof.Machine.execCancelUpdate s
  | .batchCloseTimeout => Sys2Proof.Machine.execBatchCloseTimeout s
  | .batchSigned => Sys2Proof.Machine.execBatchSigned s
  | .activationCheck => Sys2Proof.Machine.execActivationCheck s
  | .activationStart => Sys2Proof.Machine.execActivationStart s
  | .activationDrainEnd norOk => Sys2Proof.Machine.execActivationDrainEnd norOk s
  | .lightReturn port => Sys2Proof.Machine.execLightReturn port s
  | .laneLockHeld port lane => Sys2Proof.Machine.execLaneLockHeld port lane s
  | .engineTaskDone kind engine => Sys2Proof.Machine.execEngineTaskDone kind engine s
  | .windfallSliceEnd cluster => Sys2Proof.Machine.execWindfallSliceEnd cluster s
  | .configurationRequest fn req => Sys2Proof.Machine.execConfigurationRequest fn req s
  | .hostReadCompletion fn addr len need answer => Sys2Proof.Machine.execHostReadCompletion fn addr len need answer s
  | .wakeNRelease why => Sys2Proof.Machine.execWakeNRelease why s

end Sys2Proof.Machine
end

