-- ==== Sys2Proof/Machine/Step.lean ====
section
/-! DEFINITION. The step: the command at the front of the queue takes effect; with no command waiting, one nanosecond passes. -/

namespace Sys2Proof.Machine

/-- The machine with the command at the front of its queue taken out of it. -/
def State.behind (s : State) (rest : List Instr) : State := { s with pending := rest }

/-- One step: the front command on the state with the queue's rest; on an empty queue TIM_NOW advances (DESIGN CHOICE, log
entry 1). -/
def step (s : State) : Out :=
  match s.pending with
  | [] => .next s.tick
  | c :: rest => exec c (s.behind rest)

/-- The state with the command a table word spells at the front of its queue: no word spells one. -/
def State.withFetchWord (s : State) (nbits w : Nat) : State :=
  match decodeTableWord nbits w with
  | none => s
  | some c => s.behind (c :: s.pending)

end Sys2Proof.Machine
end

