-- ==== Sys2Proof/Safety.lean ====
section
/-! DEFINITION. What counts as a safe run: a step answers a next state, and the state keeps the canonical forms its data is written in. -/

namespace Sys2Proof.Machine

/-- The canonical form of LPDDR-6: addresses strictly rising and no cell equal to what an unlisted one reads as. -/
def Memory.wf (cells : List Host.Cell) : Bool := swf 0 cells

/-- The canonical form of the register file: keys strictly rising and no register listed at zero. -/
def Registers.wf (regs : Sparse Reg64) : Bool := swf 0 regs

/-- A state in canonical form whose queue is `q`. -/
abbrev Canonical (q : List Instr) (s : State) : Prop :=
  s.pending = q ∧ Registers.wf s.regs = true ∧ Memory.wf s.mem.cells = true


/-- The components of the state; LPDDR-6 has two: its cells, and the rest of it. -/
inductive Comp where
  | pending | freeCtr | now | regs | host | mbx | accts | snaps | faults | cells
  | flash | clusters | pkg | parts | objs | weights | adapters | shards | searches | walks
  | walkOrder | tables | lookups | bags | vocabs | streams | tasks | trees | probes | pools
  | gens | retrieves | fab | power | health | nor | boot | sec | upd | board
  | memory
  deriving DecidableEq, Repr

/-- The bit of a component in a mask. -/
def Comp.bit (c : Comp) : Nat :=
  match c with
  | .pending => 0 | .freeCtr => 1 | .now => 2 | .regs => 3 | .host => 4 | .mbx => 5
  | .accts => 6 | .snaps => 7 | .faults => 8 | .cells => 9 | .flash => 10 | .clusters => 11
  | .pkg => 12 | .parts => 13 | .objs => 14 | .weights => 15 | .adapters => 16 | .shards => 17
  | .searches => 18 | .walks => 19 | .walkOrder => 20 | .tables => 21 | .lookups => 22 | .bags => 23
  | .vocabs => 24 | .streams => 25 | .tasks => 26 | .trees => 27 | .probes => 28 | .pools => 29
  | .gens => 30 | .retrieves => 31 | .fab => 32 | .power => 33 | .health => 34 | .nor => 35
  | .boot => 36 | .sec => 37 | .upd => 38 | .board => 39 | .memory => 40

/-- The two states agree on the component. -/
def Comp.same (c : Comp) (s t : State) : Prop :=
  match c with
  | .pending => t.pending = s.pending
  | .freeCtr => t.freeCtr = s.freeCtr
  | .now => t.now = s.now
  | .regs => t.regs = s.regs
  | .host => t.host = s.host
  | .mbx => t.mbx = s.mbx
  | .accts => t.accts = s.accts
  | .snaps => t.snaps = s.snaps
  | .faults => t.faults = s.faults
  | .cells => t.mem.cells = s.mem.cells
  | .flash => t.flash = s.flash
  | .clusters => t.clusters = s.clusters
  | .pkg => t.pkg = s.pkg
  | .parts => t.parts = s.parts
  | .objs => t.objs = s.objs
  | .weights => t.weights = s.weights
  | .adapters => t.adapters = s.adapters
  | .shards => t.shards = s.shards
  | .searches => t.searches = s.searches
  | .walks => t.walks = s.walks
  | .walkOrder => t.walkOrder = s.walkOrder
  | .tables => t.tables = s.tables
  | .lookups => t.lookups = s.lookups
  | .bags => t.bags = s.bags
  | .vocabs => t.vocabs = s.vocabs
  | .streams => t.streams = s.streams
  | .tasks => t.tasks = s.tasks
  | .trees => t.trees = s.trees
  | .probes => t.probes = s.probes
  | .pools => t.pools = s.pools
  | .gens => t.gens = s.gens
  | .retrieves => t.retrieves = s.retrieves
  | .fab => t.fab = s.fab
  | .power => t.power = s.power
  | .health => t.health = s.health
  | .nor => t.nor = s.nor
  | .boot => t.boot = s.boot
  | .sec => t.sec = s.sec
  | .upd => t.upd = s.upd
  | .board => t.board = s.board
  | .memory => t.mem = { s.mem with cells := t.mem.cells }

/-- The command completes from `s` in a state of which `P` holds. -/
def Answers (c : Instr) (s : State) (P : State → Prop) : Prop := ∃ t, exec c s = .next t ∧ P t

/-- Has the block at `site` room for one more fault message (R380)? -/
abbrev State.hasRoom (s : State) (site : Nat) : Prop := (s.faults.sent.filter (fun m => m.site = site)).length < 16

/-- Every register but those of the keys `ks` is left. -/
def SameRegs (ks : List Nat) (s t : State) : Prop := ∀ k, k ∉ ks → t.reg k = s.reg k

/-- The registers of the lanes that ports send on, which sending keeps up to date (OPT_PSTAT). -/
def laneKeys : List Nat := (List.range 16).map fun p => regKey .window R.optPstatLanesTx.off p

/-- Request `k` is in flight: `r`, of opcode `op`, admitted here, without a final entry, its client's rings registered and its function
not reset. -/
abbrev State.Holds (s : State) (k : ReqKey) (op : Nat) (r : Req) : Prop :=
  s.req? k = some r ∧ r.opcode = op ∧ r.ended = false ∧ r.orphan = false ∧ r.remote = none ∧ (s.ring k.1).isSome = true

/-- From `s` to `t` request `k` ends: one completion entry more waits, its final one, with this STATUS, COUNT and DETAIL. -/
def Ends (s t : State) (k : ReqKey) (status count detail : Nat) : Prop :=
  ∃ e, t.host.cq = s.host.cq ++ [e] ∧ e.client = k.1 ∧ e.request = k.2 ∧ e.status = status ∧ e.count = count ∧ e.detail = detail ∧
    e.interim = false ∧ e.event = false

/-- Cluster `cl` can issue: it exists, belongs to an enabled partition, is not held at a synchronisation point, is not stopped, and has no transfer
outstanding. -/
abbrev State.Issues (s : State) (cl : Nat) : Prop :=
  cl < 240 ∧ (s.partOf cl).isSome = true ∧ (s.cluster cl).held = none ∧ (s.cluster cl).stopped = false ∧ (s.cluster cl).xfers = []

/-- No word of the cluster's scratch is uncorrectable: one that a unit reads resets the partition instead (R262). -/
abbrev Cluster.Sound (c : Cluster) : Prop := ∀ e ∈ c.scratch, decodeWord false (wordAt c.scratch (e.1 / 18)) ≠ .uncorrectable

/-- From `s` to `t` no other cluster changes, no register, and nothing of memory, of the host interface and of the partitions. -/
def OnlyCluster (cl : Nat) (s t : State) : Prop :=
  (∀ j, j ≠ cl → t.cluster j = s.cluster j) ∧ t.regs = s.regs ∧ t.mem = s.mem ∧ t.host = s.host ∧ t.parts = s.parts

/-- From `s` to `t` the host interface, LPDDR-6, flash, the clusters and the partitions keep their values. -/
def Keeps (s t : State) : Prop :=
  t.host = s.host ∧ t.mem = s.mem ∧ t.flash = s.flash ∧ t.clusters = s.clusters ∧ t.parts = s.parts

/-- Port `p` has queued message `m`, or words of it have gone out in a numbered frame that it keeps, with the ACT of its output (R27). -/
def State.Carries (s : State) (p : Nat) (m : FabMsg) : Prop :=
  (∃ i, (i, m) ∈ (s.port p).queue) ∨ ∃ f, f ∈ (s.port p).replay ∧ ∃ a, { m with act := a } ∈ f.msgs

/-- From `s` to `t` this fault message has been sent, where its block had room for one more (R380). -/
def Raises (s t : State) (m : FaultMsg) : Prop := s.hasRoom m.site → m ∈ t.faults.sent

/-- What the end of a request may change (R307, R451): its host interface, charges, registers and every kind of work it has. -/
def endComps : List Comp :=
  [.regs, .host, .accts, .cells, .parts, .shards, .searches, .walks, .tables, .lookups, .bags, .streams, .tasks, .trees, .probes, .pools,
   .gens, .retrieves, .fab, .memory]

/-- What the reset of a partition may change (R333). -/
def partResetComps : List Comp := endComps ++ [.freeCtr, .faults, .flash, .clusters, .pkg, .power, .health]

/-- What a module reset changes (R350): all but the queue, the free values and the NOR. -/
def resetComps : List Comp :=
  [.now, .regs, .host, .mbx, .accts, .snaps, .faults, .cells, .flash, .clusters, .pkg, .parts, .objs, .weights, .adapters,
   .shards, .searches, .walks, .walkOrder, .tables, .lookups, .bags, .vocabs, .streams, .tasks, .trees, .probes, .pools, .gens,
   .retrieves, .fab, .power, .health, .boot, .sec, .upd, .board, .memory]

/-- The components that a command may change: no other changes whenever it answers a next state. -/
def mayChange (c : Instr) : List Comp :=
  match c with
  | .opTokenize _ _ => endComps ++ [.faults]
  | .opDetokenize _ _ => endComps ++ [.faults]
  | .opEmbed _ _ => endComps ++ [.faults]
  | .opSearch _ _ => endComps ++ [.faults, .walkOrder]
  | .opRerankExact _ _ => partResetComps
  | .opRerankModel _ _ => partResetComps
  | .opTopk _ _ => partResetComps
  | .opPack _ _ => partResetComps
  | .opRetrieve _ _ => partResetComps
  | .opGenerate _ _ => partResetComps
  | .stepControlPause _ _ => partResetComps
  | .stepControlResume _ _ => partResetComps
  | .stepControlCancel _ _ => partResetComps
  | .opTableLookup _ _ => partResetComps
  | .opTableUpdate _ _ => partResetComps
  | .opTableCommit _ _ => endComps ++ [.faults]
  | .opIndexInsert _ _ => partResetComps
  | .opIndexDelete _ _ => partResetComps
  | .opIndexMerge _ _ => endComps ++ [.faults]
  | .opAdapterLoad _ _ => endComps ++ [.faults, .adapters]
  | .opAdapterRetire _ _ => endComps ++ [.faults, .adapters]
  | .opObjectPlace _ _ => partResetComps ++ [.objs, .weights]
  | .opObjectLoad _ _ => endComps ++ [.faults, .flash, .objs, .adapters]
  | .opAccountRead _ _ => partResetComps
  | .opDigestRead _ _ => partResetComps ++ [.sec]
  | .setCap _ _ => endComps ++ [.faults]
  | .clearCap _ _ => endComps ++ [.faults]
  | .enterWatch _ _ => endComps ++ [.faults, .power]
  | .admRingCreate _ => [.regs, .host, .faults]
  | .admRingDelete _ => endComps ++ [.faults]
  | .sqTail _ _ _ => [.regs, .host, .faults, .power, .board]
  | .cqHead _ _ _ => [.regs, .host, .faults, .power, .board]
  | .descriptorFetch _ => [.regs, .host]
  | .descriptorAdmit _ => partResetComps
  | .completionPost _ => partResetComps ++ [.objs, .weights, .adapters, .sec]
  | .irqModerationTimeout _ => [.host]
  | .functionLevelReset _ _ => endComps ++ [.faults, .power, .board]
  | .functionD0Return _ => [.host]
  | .bar4Read _ _ => partResetComps
  | .bar4Write _ _ _ => partResetComps
  | .bar0InvalidAccess _ _ _ _ => [.regs, .host, .faults]
  | .registerWrite _ => resetComps
  | .hstAdmCfgWrite _ _ => [.regs, .host, .faults]
  | .hstAdmDbWrite _ _ => [.regs, .faults]
  | .mbxSendTagWrite _ _ => [.regs, .host, .mbx, .faults, .power]
  | .mbxSenderRoom _ _ _ => [.regs, .host, .mbx, .faults, .power]
  | .mbxPop _ => [.regs, .host, .mbx, .faults, .power]
  | .mbxFlush _ => [.mbx]
  | .cfgResetModule _ => resetComps
  | .heartbeatRefresh _ => [.faults]
  | .watchdogKick _ _ => [.faults, .parts]
  | .firstErrorClear _ => [.regs, .faults]
  | .pwrModeNap _ _ => [.regs, .faults]
  | .pwrModeRun _ _ => [.regs, .faults, .power]
  | .pwrModeWatch _ => [.regs, .faults]
  | .updActivateAtWrite _ _ => [.regs, .faults]
  | .accRec0Read _ => [.host, .snaps]
  | .accClientselWrite _ _ => [.regs, .snaps, .faults]
  | .bmcWakeCommand => [.regs, .faults, .power, .board]
  | .bmcWatchCommand => [.regs, .faults, .power]
  | .bmcResetCommand => resetComps
  | .bmcCap _ => [.regs]
  | .locateCommand _ => [.board]
  | .i3cDynamicAddress _ => [.board]
  | .setstep _ _ => partResetComps
  | .setpair _ _ => [.clusters]
  | .wload _ _ _ _ => partResetComps
  | .mma _ _ _ _ _ _ => partResetComps
  | .lmv _ _ _ _ _ _ _ => partResetComps
  | .pacc _ _ _ => partResetComps
  | .vop _ _ => partResetComps
  | .topk _ _ => partResetComps
  | .quantize _ _ _ => partResetComps
  | .stream _ _ _ => partResetComps
  | .waitt _ _ _ => [.regs, .clusters]
  | .send _ _ _ _ => partResetComps
  | .recv _ _ _ => partResetComps
  | .loop _ _ _ => [.clusters]
  | .nop _ _ => [.clusters]
  | .page _ _ _ => partResetComps
  | .jpage _ => partResetComps
  | .stepEnd _ => [.regs, .clusters, .parts, .power]
  | .stepBegin _ => [.regs, .clusters]
  | .wait _ => [.regs, .faults, .clusters]
  | .syncPointRelease _ _ => partResetComps
  | .transferComplete _ _ => partResetComps
  | .recomputeDone _ _ _ => [.clusters]
  | .portTokenArrival _ _ => [.clusters, .pkg]
  | .creditReturn _ _ _ => [.clusters, .pkg]
  | .rowEventMessage _ => [.host, .clusters, .gens]
  | .arbiterGrant _ _ => partResetComps
  | .routerFlit _ _ _ => partResetComps
  | .dieLinkFrame _ _ => partResetComps
  | .stepComplete _ _ _ _ _ => partResetComps
  | .passForm _ => endComps ++ [.faults]
  | .beginMessageRelease _ _ => partResetComps
  | .prefetchEntryDone _ _ _ => [.regs, .host, .accts, .faults, .cells, .flash, .parts, .fab, .memory]
  | .expertRouting _ _ _ _ _ _ => partResetComps ++ [.weights]
  | .genAdmission _ _ => partResetComps
  | .pipSample _ _ _ => partResetComps
  | .poolRestoreDone _ _ => partResetComps
  | .medlarProbeReturn _ _ => partResetComps
  | .engineTaskDispatch _ _ => endComps ++ [.faults]
  | .retrieveStageAdvance _ _ => partResetComps ++ [.walkOrder]
  | .walkStart _ => endComps ++ [.faults]
  | .walkEnd _ => partResetComps
  | .sideSweepPass _ => partResetComps
  | .shardResultAssemble _ _ _ => partResetComps ++ [.walkOrder]
  | .indexPublish _ => endComps ++ [.faults]
  | .mergeBuildDone _ => [.shards]
  | .mergeCommit _ => endComps ++ [.faults]
  | .indexPinDrain _ => [.regs, .cells, .shards, .memory]
  | .gatherSubbag _ => partResetComps
  | .bagMerge _ _ _ => partResetComps
  | .tableCommitRequantize _ => partResetComps
  | .tableFlip _ => endComps ++ [.faults]
  | .splitCommitAck _ _ => endComps ++ [.faults]
  | .tableFlipAtTf _ => endComps ++ [.faults]
  | .tablePinDrain _ _ => [.regs, .flash, .objs, .tables, .memory]
  | .keepMsExpire _ _ => [.regs, .flash, .objs, .tables, .memory]
  | .migrationCopyDone _ _ => partResetComps
  | .objectLoadComplete _ => endComps ++ [.faults, .flash, .clusters, .objs, .weights, .adapters, .vocabs]
  | .adapterLoadComplete _ _ _ => endComps ++ [.faults, .adapters]
  | .memoryAccess _ _ _ => partResetComps
  | .correctionWriteback _ => [.cells, .memory]
  | .patrolRead _ _ => partResetComps
  | .refresh _ _ _ _ => [.regs, .memory]
  | .refreshManagement _ => [.memory]
  | .readTrackingUpdate _ _ => [.regs, .memory]
  | .subchannelRetrain _ _ _ _ => [.regs, .faults, .memory]
  | .detectWindowExpire _ _ => [.regs]
  | .channelPowerDown _ => [.memory]
  | .flashSectorRead _ _ _ => [.regs, .faults, .flash, .pkg]
  | .flashWriteAck _ => [.regs, .flash]
  | .stripeParityWrite _ _ => [.flash]
  | .wearRelocate _ => [.regs, .faults, .flash, .pkg]
  | .readDisturbScan _ _ => [.regs, .flash, .pkg]
  | .flashDieRebuild _ => [.regs, .faults, .flash]
  | .flashPeriodicTraining => [.flash]
  | .mapEntryRebuild _ => [.flash]
  | .fabricFrameReceive _ _ => endComps ++ [.faults, .nor]
  | .replayTimeout _ => [.regs, .faults, .fab]
  | .transitMessage _ => endComps ++ [.faults]
  | .write _ => [.regs, .faults, .cells, .pkg, .fab, .memory]
  | .readReq _ => partResetComps
  | .readRsp _ => [.regs, .fab]
  | .contrib _ => endComps ++ [.faults]
  | .result _ => partResetComps
  | .error _ => endComps ++ [.faults]
  | .unreach _ => endComps ++ [.faults]
  | .freq _ => [.regs, .faults, .fab]
  | .time _ _ _ _ _ => [.now, .regs, .fab, .boot]
  | .queryFanout _ => partResetComps ++ [.walkOrder]
  | .splitTableForward _ => partResetComps
  | .census _ _ => [.regs, .faults, .fab]
  | .censusAnswer _ => [.regs, .faults, .fab]
  | .usageReport _ => [.regs, .accts, .fab]
  | .censusSend => [.regs, .faults, .fab]
  | .censusAnswerTimeout => [.regs, .faults, .fab]
  | .censusForget _ => [.fab]
  | .seqGapTimeout _ _ _ => endComps ++ [.faults]
  | .collectiveTimeout _ _ => endComps ++ [.faults]
  | .freqPeriod => [.regs, .fab]
  | .freqLeadDecide => [.regs, .faults, .fab]
  | .freqEffect => [.regs, .faults, .clusters, .fab, .power]
  | .timeExchange => [.regs, .faults, .fab]
  | .ptmUpdate _ => [.now, .regs, .fab, .boot]
  | .handoverStart _ _ => [.regs, .faults, .fab]
  | .hoLock _ _ => [.regs, .faults, .fab]
  | .handoverTimeout _ _ => endComps ++ [.faults, .nor]
  | .laneTrackingStep _ _ _ _ _ _ => [.regs, .fab]
  | .portTraining _ _ _ _ => endComps ++ [.faults, .nor]
  | .portTrainRetry _ => [.regs]
  | .portLossOfLock _ => endComps ++ [.faults]
  | .islandIdle _ => [.regs]
  | .islandWake _ => [.regs]
  | .regionNapEntry _ => [.regs]
  | .napReturnComplete _ => [.regs, .power]
  | .watchEntry => [.regs, .host, .faults, .clusters, .pkg, .fab, .power, .memory]
  | .watchSample _ => [.regs, .faults, .power, .board]
  | .watchHeartbeat => [.faults]
  | .watchWake _ _ => [.regs, .host, .faults, .power, .board]
  | .watchReturnComplete _ => [.regs, .host, .faults, .clusters, .power, .nor, .memory]
  | .regionEstimate _ _ _ _ => [.regs, .faults, .clusters, .power]
  | .governorTick _ _ _ => [.regs, .accts, .faults, .clusters, .fab, .power, .board]
  | .freqStepChange _ => [.regs, .clusters]
  | .overPowerSignal => [.regs, .faults, .clusters, .power]
  | .holdEnd => [.regs]
  | .thermThrottle _ => [.regs, .faults]
  | .thermHold _ => [.regs, .faults, .clusters, .power, .board]
  | .thermTrip _ => [.regs, .faults, .clusters, .power, .board]
  | .faultMessage _ => resetComps ++ [.freeCtr, .nor]
  | .clusterRetirementReset _ => partResetComps
  | .faultIrqCoalesce => [.host, .faults]
  | .pulseToggle => [.regs, .faults]
  | .heartbeatLate => [.regs, .faults]
  | .wdogCore _ => [.regs, .faults, .parts]
  | .watchdogSecondStage _ => partResetComps ++ [.objs, .nor]
  | .checkCompare _ => [.regs, .faults, .parts, .health]
  | .checkVoteDone _ _ _ => [.faults, .parts, .health]
  | .windfallSlice _ _ => [.regs, .faults, .parts, .health]
  | .marginPlan _ _ _ => [.regs, .faults, .health, .nor]
  | .ringOscReading _ _ => [.regs, .health]
  | .partitionReset _ _ => partResetComps
  | .partitionResetDone _ => [.regs, .faults, .cells, .clusters, .parts, .power, .nor, .memory]
  | .pwrGoodRise => resetComps
  | .perstNAssert => resetComps
  | .perstNRelease => [.boot, .board]
  | .moduleReset _ => resetComps
  | .startupStageDone _ => [.now, .regs, .host, .faults, .cells, .flash, .clusters, .pkg, .parts, .trees, .fab, .power, .nor, .boot, .memory]
  | .startupFailure _ => [.regs, .clusters, .power, .nor, .boot]
  | .startupTimeout => [.regs, .clusters, .power, .nor, .boot]
  | .startupTimeWaitExpire => [.regs, .host, .faults, .clusters, .parts, .boot]
  | .inputPowerLoss => resetComps
  | .railFault => [.faults, .clusters, .power]
  | .getVersion => [.sec]
  | .getCapabilities => [.sec]
  | .negotiateAlgorithms _ _ => [.sec]
  | .getDigests _ => [.sec]
  | .getCertificate _ _ _ _ => [.sec]
  | .challenge _ _ => [.freeCtr, .sec]
  | .getMeasurements _ _ => [.freeCtr, .sec]
  | .keyExchange _ _ => [.sec]
  | .finish _ => [.sec]
  | .endSession _ => [.sec]
  | .queryDeviceIdentifiers => [.sec]
  | .getFirmwareParameters => [.sec]
  | .requestUpdate _ _ => [.regs, .nor, .sec, .upd]
  | .passComponentTable _ _ => [.sec, .upd]
  | .updateComponent _ _ => [.regs, .sec, .upd]
  | .firmwareDataPiece _ => [.regs, .nor, .sec, .upd]
  | .activateFirmware => [.sec]
  | .getStatus => [.sec]
  | .cancelUpdateComponent => [.regs, .sec, .upd]
  | .cancelUpdate => [.regs, .sec, .upd]
  | .batchCloseTimeout => [.regs, .sec]
  | .batchSigned => partResetComps ++ [.sec]
  | .activationCheck => [.host, .upd]
  | .activationStart => endComps ++ [.faults, .sec, .upd]
  | .activationDrainEnd _ => resetComps ++ [.nor]
  | .lightReturn _ => [.regs, .fab]
  | .laneLockHeld _ _ => [.regs, .fab]
  | .engineTaskDone _ _ => partResetComps
  | .windfallSliceEnd _ => [.regs, .parts, .health]
  | .configurationRequest _ _ => endComps ++ [.faults]
  | .hostReadCompletion _ _ _ _ _ => endComps ++ [.faults]
  | .wakeNRelease _ => [.host, .board]

end Sys2Proof.Machine
end

