-- ==== Sys2Proof/Certificates/Slice0/Obligations.lean ====
section
/-! DEFINITION. The statements for the provers: what commands do, where they complete, and what every step keeps. Each docstring begins with its tier and
names the rules it rests on. -/

section

open Sys2Proof Sys2Proof.Machine

/-- Tier 1. A step takes the command at the front of the queue: it answers what that command answers on the state with the queue's rest. -/
def Obligations.StepRunsFrontCommand : Prop :=
  ∀ (c : Instr) (s : State) (rest : List Instr), step { s with pending := c :: rest } = exec c { s with pending := rest }

/-- Tier 1. With an empty queue a step is one nanosecond of the module's clock (the model's choice, log entry 1; R289, R290): TIM_NOW advances by 1
and by the whole part of what its rate has accumulated, and nothing else changes but that fraction. -/
def Obligations.IdleStepAdvancesTheClock : Prop :=
  ∀ (s : State), s.pending = [] → ∃ t, step s = .next t ∧
    t.now = (s.now + (1 + (s.fab.frac + s.fab.rate) / 10000000).toNat) % 2 ^ 64 ∧ t.fab.frac = (s.fab.frac + s.fab.rate) % 10000000 ∧
    t.pending = [] ∧ t.regs = s.regs ∧ t.fab.inbox = s.fab.inbox ∧ Keeps s t

/-- Tier 1. After reset nothing waits, no register holds a value but zero, and the memory lists nothing; the state is in canonical form. -/
def Obligations.ResetIsCanonical : Prop :=
  Canonical [] State.reset ∧ State.reset.mem.cells = [] ∧ (∀ k, (State.reset.reg k).toNat = 0) ∧ State.reset.host.reqs = [] ∧
    State.reset.host.cq = []

/-- Tier 3. Every step keeps the canonical form: from any state in canonical form a step answers a next state that is in canonical form, its queue
the rest of the queue before. -/
def Obligations.StepKeepsCanonical : Prop :=
  ∀ (s t : State), Canonical s.pending s → step s = .next t → Canonical s.pending.tail t

/-- Tier 2. No command stops the model: every command answers a next state from every state, and leaves the queue as it is. -/
def Obligations.EveryCommandAnswersAndKeepsTheQueue : Prop :=
  ∀ (c : Instr) (s : State), ∃ t, exec c s = .next t ∧ t.pending = s.pending

/-- Tier 2. The frame of every command: a component that `mayChange` does not list for the command is the same in the next state. -/
def Obligations.CommandsChangeOnlyTheirComponents : Prop :=
  ∀ (c : Instr) (s t : State) (x : Comp), exec c s = .next t → x ∉ mayChange c → x.same s t

/-- Tier 2. Fields are as R6 says: a range of bits includes both its ends, and the bytes of a field stand little-endian, byte 0 with bits 7 to 0 at
the lowest address. -/
def Obligations.FieldsAreLittleEndian : Prop :=
  (∀ (v h l : Nat), l ≤ h → bitsOf v h l = v / 2 ^ l % 2 ^ (h - l + 1)) ∧
  (∀ (n v i : Nat), i < n → ((leBytes n v).getD i 0).toNat = v / 2 ^ (8 * i) % 256) ∧
  (∀ (bs : List Byte) (o n : Nat), 1 ≤ n → o + n ≤ bs.length →
    fieldLe bs o n = (bs.getD o 0).toNat + 256 * fieldLe bs (o + 1) (n - 1)) ∧
  (∀ (pre post : List Byte) (n v : Nat), v < 2 ^ (8 * n) → fieldLe (pre ++ leBytes n v ++ post) pre.length n = v)

/-- Tier 2. The encoder (R253): the codeword of 16 data bytes holds them at positions 2 to 17, is divided by x + 1 and x + α (both syndromes are
zero), is the only word with those data bytes that is, and the all-zero word is a codeword. -/
def Obligations.EncoderFormsTheCodeword : Prop :=
  (∀ (data : List Byte), data.length = 16 → (encodeWord data).length = 18 ∧ (encodeWord data).drop 2 = data ∧
    synd0 (encodeWord data) = 0 ∧ synd1 (encodeWord data) = 0) ∧
  (∀ (data : List Byte) (a b : Byte), data.length = 16 → synd0 (a :: b :: data) = 0 → synd1 (a :: b :: data) = 0 →
    a :: b :: data = encodeWord data) ∧
  encodeWord (List.replicate 16 0) = List.replicate 18 0

/-- Tier 3. The decoder (R254, R255): an untouched codeword is used; any error confined to one symbol is corrected in CORRECT mode and is
uncorrectable in DETECT mode; in DETECT mode no error in two symbols passes as data; check symbols each XOR 0x01 are read as poison. -/
def Obligations.DecoderCorrectsAnySymbol : Prop :=
  (∀ (data : List Byte) (detect : Bool), data.length = 16 → decodeWord detect (encodeWord data) = .word data none) ∧
  (∀ (data : List Byte) (p : Nat) (e : Byte), data.length = 16 → p < 18 → e ≠ 0 →
    decodeWord false (xorAt (encodeWord data) p e) = .word data (some p) ∧
      decodeWord true (xorAt (encodeWord data) p e) = .uncorrectable) ∧
  (∀ (data d : List Byte) (p q : Nat) (e f : Byte) (c : Option Nat), data.length = 16 → p < q → q < 18 → e ≠ 0 → f ≠ 0 →
    decodeWord true (xorAt (xorAt (encodeWord data) p e) q f) ≠ .word d c) ∧
  (∀ (data : List Byte) (detect : Bool), data.length = 16 →
    decodeWord detect (xorAt (xorAt (encodeWord data) 0 1) 1 1) = .poisoned) ∧
  (∀ (detect : Bool), decodeWord detect poisonWord = .poisoned ∧ poisonWord.drop 2 = List.replicate 16 0)

/-- Tier 2. The order of ranked selections (R133, R134): among valid keys an entry ranks above another when its key is better, or its key is equal and
its identifier lower; of two entries with different identifiers one ranks above the other, never both; the order is transitive. -/
def Obligations.RankingIsATotalOrder : Prop :=
  (∀ (desc : Bool) (a b : Machine.Num) (i j : Nat), a ≠ .nan → b ≠ .nan → i ≠ j →
    rankAbove desc a b i j = !rankAbove desc b a j i) ∧
  (∀ (desc : Bool) (a b c : Machine.Num) (i j k : Nat), a ≠ .nan → b ≠ .nan → c ≠ .nan → rankAbove desc a b i j = true →
    rankAbove desc b c j k = true → rankAbove desc a c i k = true) ∧
  (∀ (desc : Bool) (a b : Machine.Num) (i j : Nat), a.lt b = true → rankAbove desc a b i j = !desc ∧ rankAbove desc b a j i = desc) ∧
  (∀ (desc : Bool) (e : Int) (i j : Nat), i < j → rankAbove desc (.fin true 0 e) (.fin false 0 e) i j = true ∧
    rankAbove desc (.fin false 0 e) (.fin true 0 e) i j = true)

/-- Tier 2. A dense selection of k (R135): the selected keys are valid and stand in rank order, as many as there are up to k; no valid key left out
ranks above a selected one; NaN keys are counted as invalid. -/
def Obligations.SelectionReturnsTheBest : Prop :=
  ∀ (k : Nat) (desc : Bool) (keys : List Key), ∃ rest,
    List.Perm ((selectKeys k desc keys).1 ++ rest) (keys.filter fun x => decide (x.val ≠ .nan)) ∧
    (selectKeys k desc keys).1.length = Nat.min k (keys.filter fun x => decide (x.val ≠ .nan)).length ∧
    (selectKeys k desc keys).1.Pairwise (fun x y => rankAbove desc y.val x.val y.id x.id = false) ∧
    (∀ x ∈ (selectKeys k desc keys).1, ∀ y ∈ rest, rankAbove desc y.val x.val y.id x.id = false) ∧
    (selectKeys k desc keys).2 = (keys.filter fun x => decide (x.val = .nan)).length

/-- Tier 2. A rank list has exactly k slots: valid entries first, and after the last of them only empty ones (R135, R150). -/
def Obligations.RankListFillsItsSlots : Prop :=
  ∀ (typ k : Nat) (es : List Entry), (rankList typ k es).length = k ∧
    (∀ i, i < Nat.min k (es.filter (Entry.ok typ)).length → ((rankList typ k es)[i]?).any (Entry.ok typ) = true) ∧
    (∀ i, (es.filter (Entry.ok typ)).length ≤ i → i < k → (rankList typ k es)[i]? = some (Entry.empty typ)) ∧
    (Entry.empty typ).valid = false ∧ (Entry.empty typ).handle = 0xFFFFFFFFFFFFFFFF

/-- Tier 2. The accounting window (R432): a read of ACC_REC0 takes the snapshot of the accessor's selected client, which ACC_REC1 to ACC_REC31 then
return; after a write of ACC_CLIENTSEL they read as zero; no other accessor's snapshot changes. -/
def Obligations.AccountWindowHoldsItsSnapshot : Prop :=
  (∀ (s : State) (a i : Nat), a < 72 → 1 ≤ i → i < 32 →
    Answers (.accRec0Read a) s fun t =>
      t.readReg a (R.accRecQword.off + 8 * i) = fieldLe (s.accRecord (s.sel a R.accClientselClient % 4096)) (8 * i) 8 ∧
      ∀ b, b ≠ a → aget t.snaps b = aget s.snaps b) ∧
  (∀ (s : State) (a c i : Nat), a < 72 → 1 ≤ i → i < 32 →
    Answers (.accClientselWrite a c) s fun t => t.readReg a (R.accRecQword.off + 8 * i) = 0 ∧
      ∀ b, b ≠ a → aget t.snaps b = aget s.snaps b)

/-- Tier 2. A whole-word write to a backed word stores the word's codeword and leaves every other word; a write-back that waited for
the word's line is dropped (R226, R257). -/
def Obligations.WordWriteStoresItsCodeword : Prop :=
  ∀ (s : State) (w req a : Nat) (bytes : List Byte), Memory.wf s.mem.cells = true → s.devAddrOf w = some a → s.backed a = true →
    s.mayPass (arbMem (wordChan w)) req = true → bytes.length = 16 →
    Answers (.memoryAccess w req (.write bytes)) s fun t =>
      wordAt t.mem.cells w = encodeWord bytes ∧ (∀ x, x ≠ w → wordAt t.mem.cells x = wordAt s.mem.cells x) ∧
      (∀ e ∈ t.mem.writeBack, e.1 / 4 ≠ w / 4) ∧ t.regs = s.regs

/-- Tier 2. Commands of the memory controllers: a corrected line is written back (R257); patrol takes a channel out of power-down and
leaves a clean word; a refresh is issued or postponed (R228); tracking moves a lane by one step at most and a retrain that succeeds
centres its lanes (R229); DETECT ends after the window (R261); an idle channel enters power-down (Table MEMT-1). -/
def Obligations.MemoryControllerCommandsComplete : Prop :=
  (∀ (s : State) (w : Nat) (b : List Byte), Memory.wf s.mem.cells = true → b.length = 18 →
    s.mem.writeBack.find? (fun e => e.1 = w) = some (w, b) →
    Answers (.correctionWriteback w) s fun t => wordAt t.mem.cells w = b ∧ (∀ e ∈ t.mem.writeBack, e.1 ≠ w) ∧
      (∀ x, x ≠ w → wordAt t.mem.cells x = wordAt s.mem.cells x) ∧ t.regs = s.regs) ∧
  (∀ (s : State) (w : Nat) (b : List Byte), s.mem.selfRefresh = false →
    (∀ d, decodeWord d (wordAt s.mem.cells w) = .word b none) → (∀ e ∈ s.mem.writeBack, e.1 ≠ w) →
    sget 0 s.pkg.granted (arbMem (wordChan w)) = 0 →
    Answers (.patrolRead w []) s fun t => t.mem.cells = s.mem.cells ∧ wordChan w ∉ t.mem.powerDown ∧ t.regs = s.regs) ∧
  (∀ (s : State) (c b temp : Nat), Registers.wf s.regs = true → swf 0 s.mem.postponed = true → s.mem.selfRefresh = false →
    (∀ e ∈ s.mem.writeBack, wordBank e.1 ≠ 16 * c + b) →
    Answers (.refresh c b temp false) s fun t => sget 0 t.mem.postponed (16 * c + b) = sget 0 s.mem.postponed (16 * c + b) - 1 ∧
      (temp < 2 ^ 8 → t.rd R.memChrefTemp c = temp) ∧ t.mem.cells = s.mem.cells) ∧
  (∀ (s : State) (c : Nat), swf 0 s.mem.managed = true →
    Answers (.refreshManagement c) s fun t => sget 0 t.mem.managed c = sget 0 s.mem.managed c + 1 ∧ t.regs = s.regs) ∧
  (∀ (s : State) (c l : Nat) (m : Int), swf 0 s.mem.delay = true → -1 ≤ m → m ≤ 1 →
    (sget 0 s.mem.delay (24 * c + l) + m).natAbs ≤ 16 →
    Answers (.readTrackingUpdate c [(l, m)]) s fun t => sget 0 t.mem.delay (24 * c + l) = sget 0 s.mem.delay (24 * c + l) + m ∧
      t.mem.retrain = s.mem.retrain) ∧
  (∀ (s : State) (c sc l : Nat), swf 0 s.mem.delay = true → 2 * c + sc ∈ s.mem.retrain → l < 12 →
    Answers (.subchannelRetrain c sc true true) s fun t => 2 * c + sc ∉ t.mem.retrain ∧
      sget 0 t.mem.delay (24 * c + 12 * sc + l) = 0 ∧ t.faults = s.faults) ∧
  (∀ (s : State) (c sc : Nat), Registers.wf s.regs = true →
    sget 0 s.mem.detectFrom (2 * c + sc) + s.rd R.fltClsW 0 * 10 ^ 9 ≤ s.now →
    Answers (.detectWindowExpire c sc) s fun t => t.rd (detectFld sc) c = 0 ∧ t.mem = s.mem) ∧
  (∀ (s : State) (c : Nat), sget 0 s.mem.lastUse c + 100000 ≤ s.now → s.mem.selfRefresh = false → c ∉ s.mem.powerDown →
    Answers (.channelPowerDown c) s fun t => t.mem.powerDown = s.mem.powerDown ++ [c] ∧ t.regs = s.regs)

/-- Tier 2. The ring commands act as R302 to R304 and R314 say. ADM_RING_CREATE registers a client's rings with the descriptor's
bases and sizes, head and tail at zero; ADM_RING_DELETE of a client with no request in flight, and without FORCE with no entry held (DEDUCED, log
entry 91), deregisters them; SQ_TAIL and CQ_HEAD
from the bound function move the ring's tail and head, and a value outside the ring is counted in BAD_DOORBELL and moves nothing;
DESCRIPTOR_FETCH asks for the next 64 bytes of the ring and advances SQ_HEAD. -/
def Obligations.RingCommandsComplete : Prop :=
  (∀ (s : State) (d : List Byte) (c : Nat), Registers.wf s.regs = true → s.admDue = true → fieldLe d 0 1 = 0x80 →
    goodCreate d = true → c = fieldLe d 2 2 → s.clientFn c = some (fieldLe d 42 1) → s.ring c = none → fieldLe d 42 1 ≤ s.host.vfs →
    Answers (.admRingCreate d) s fun t =>
      (∃ x, t.ring c = some x ∧ x.sqBase = fieldLe d 8 8 ∧ x.cqBase = fieldLe d 16 8 ∧ x.sqSize = fieldLe d 24 4 ∧
        x.cqSize = fieldLe d 28 4 ∧ x.vector = fieldLe d 36 2 ∧ x.phase = true) ∧
      (∀ j, j ≠ c → t.ring j = s.ring j) ∧ t.rd R.hstRingReg c = 1 ∧ t.rd R.hstRingSqHead c = 0 ∧ t.rd R.hstRingCqTail c = 0 ∧
      t.host.reqs = s.host.reqs ∧ t.mem = s.mem) ∧
  (∀ (s : State) (d : List Byte) (c : Nat), Registers.wf s.regs = true → s.admDue = true → fieldLe d 0 1 = 0x81 → fieldLe d 1 1 ≤ 1 →
    c = fieldLe d 2 2 → c < 4096 → leNat (slice d 8 56) = 0 → (s.ring c).isSome = true → (∀ r ∈ s.host.reqs, r.client ≠ c) →
    (fieldLe d 1 1 = 1 ∨ ∀ e ∈ s.host.cq, e.client ≠ c) →
    Answers (.admRingDelete d) s fun t => t.ring c = none ∧ t.rd R.hstRingReg c = 0 ∧ t.host.reqs = s.host.reqs ∧ t.mem = s.mem) ∧
  (∀ (s : State) (fn c v : Nat) (x : Ring), s.rd R.hstStatState 0 = hsReady → s.moduleRun = true → s.ring c = some x →
    s.clientFn c = some fn → x.deleting = false → v < x.sqSize →
    Answers (.sqTail fn c v) s fun t => t.ring c = some { x with sqTail := v } ∧ (∀ j, j ≠ c → t.ring j = s.ring j) ∧
      t.regs = s.regs ∧ t.mem = s.mem) ∧
  (∀ (s : State) (fn c v : Nat) (x : Ring), Registers.wf s.regs = true → s.rd R.hstStatState 0 = hsReady → s.ring c = some x →
    x.sqSize ≤ v → s.rd R.hstErrcntBadDoorbell 0 + 1 < 2 ^ 32 →
    Answers (.sqTail fn c v) s fun t => t.host = s.host ∧
      t.rd R.hstErrcntBadDoorbell 0 = s.rd R.hstErrcntBadDoorbell 0 + 1 ∧ t.mem = s.mem) ∧
  (∀ (s : State) (fn c v : Nat) (x : Ring), Registers.wf s.regs = true → s.rd R.hstStatState 0 = hsReady → s.moduleRun = true → s.ring c = some x →
    s.clientFn c = some fn → x.deleting = false → v < x.cqSize →
    Answers (.cqHead fn c v) s fun t => t.ring c = some { x with cqHead := v } ∧ (∀ j, j ≠ c → t.ring j = s.ring j) ∧ t.mem = s.mem) ∧
  (∀ (s : State) (c : Nat) (x : Ring), Registers.wf s.regs = true → s.rd R.hstStatState 0 = hsReady → s.moduleRun = true →
    s.faults.fetchStopped = false → s.upd.draining = none → s.ring c = some x → x.deleting = false → s.rd R.hstRingCqFull c ≠ 1 →
    s.inflight c + (s.host.fetched.filter fun f => f.client = c).length < 4096 → s.rd R.hstRingSqHead c ≠ x.sqTail →
    Answers (.descriptorFetch c) s fun t =>
      t.host.reads = s.host.reads ++ [⟨s.fnOf c, x.pasid, x.sqBase + 64 * s.rd R.hstRingSqHead c, 64, .descriptor c⟩] ∧
      t.host.fetched = s.host.fetched ++ [⟨c, s.rd R.hstRingSqHead c, none, false, false, false⟩] ∧
      (x.sqSize ≤ 65536 → 0 < x.sqSize → t.rd R.hstRingSqHead c = (s.rd R.hstRingSqHead c + 1) % x.sqSize) ∧ t.mem = s.mem)

/-- Tier 2. Completions, signals and functions act as R300, R307 to R309 and R299 say. COMPLETION_POST writes the client's oldest entry
as 32 bytes at its next slot, or sets CQ_FULL and keeps the entry where the ring is full; the moderation time signals the vector, and a masked one is
pending instead (R294); a
reset of a function with no client leaves every ring and ends D3hot, and one of the PF wakes a module in Watch (R364); a return to D0 ends D3hot; an access to the configuration space
before the module is ready is answered with Request Retry Status, and afterwards completes. -/
def Obligations.CompletionCommandsComplete : Prop :=
  (∀ (s : State) (c : Nat) (x : Ring) (e : CqEntry), Registers.wf s.regs = true → s.ring c = some x →
    s.host.cq.find? (fun y => y.client = c) = some e → (s.rd R.hstRingCqTail c + 1) % x.cqSize ≠ x.cqHead → s.host.ats = [] →
    e.interim = true → e.event = false → (∀ w ∈ s.weights, w.2.current = true) → (∀ m ∈ s.trees, m.2.bad = []) →
    Answers (.completionPost c) s fun t =>
      t.host.dma = s.host.dma ++ [⟨s.fnOf c, x.pasid, x.cqBase + 32 * s.rd R.hstRingCqTail c, false, s.entryBytes e x.phase⟩] ∧
      t.host.cq.length + 1 = s.host.cq.length ∧ t.host.reqs = s.host.reqs ∧ t.mem = s.mem) ∧
  (∀ (s : State) (c : Nat) (x : Ring) (e : CqEntry), Registers.wf s.regs = true → s.ring c = some x →
    s.host.cq.find? (fun y => y.client = c) = some e → (s.rd R.hstRingCqTail c + 1) % x.cqSize = x.cqHead →
    (∀ w ∈ s.weights, w.2.current = true) → (∀ m ∈ s.trees, m.2.bad = []) →
    Answers (.completionPost c) s fun t => t.rd R.hstRingCqFull c = 1 ∧ t.host = s.host ∧ t.mem = s.mem) ∧
  (∀ (s : State) (c : Nat) (x : Ring), s.ring c = some x → x.unsignalled ≠ 0 → x.firstUnsignalled + 1000 * x.irqUs ≤ s.now →
    s.fnOf c ∉ s.host.d3 →
    Answers (.irqModerationTimeout c) s fun t =>
      t.host.irqs = s.host.irqs ++ (if s.msixMasked (s.fnOf c) x.vector then [] else [⟨s.fnOf c, x.vector⟩]) ∧
      (s.msixMasked (s.fnOf c) x.vector = true → swf false s.host.pba = true → sget false t.host.pba (2 ^ 14 * s.fnOf c + x.vector) = true) ∧
      t.ring c = some { x with unsignalled := 0 } ∧ t.host.dma = s.host.dma ∧ t.regs = s.regs ∧ t.mem = s.mem) ∧
  (∀ (s : State) (fn : Nat) (how : FnReset), (∀ c, s.clientFn c ≠ some fn) → (∀ r ∈ s.host.reads, r.fn ≠ fn) →
    (s.rd R.pwrStatModule 0 ≠ msWatch ∨ fn ≠ 0 ∨ how ≠ .flr) →
    Answers (.functionLevelReset fn how) s fun t => fn ∉ t.host.d3 ∧ t.host.rings = s.host.rings ∧ t.host.reqs = s.host.reqs ∧
      t.host.cq = s.host.cq ∧ t.regs = s.regs ∧ t.mem = s.mem) ∧
  (∀ (s : State), Registers.wf s.regs = true → (∀ c, s.clientFn c ≠ some 0) → (∀ r ∈ s.host.reads, r.fn ≠ 0) → s.rd R.pwrStatModule 0 = msWatch →
    Answers (.functionLevelReset 0 .flr) s fun t => t.rd R.pwrStatModule 0 = msWaking ∧ t.rd R.pwrWatchCause 0 = 8 ∧
      t.host.rings = s.host.rings ∧ t.host.reqs = s.host.reqs ∧ t.mem = s.mem) ∧
  (∀ (s : State) (fn c : Nat) (x : Ring), fn ∈ s.host.d3 → s.host.rings = [(c, x)] → s.clientFn c = some fn → x.unsignalled ≠ 0 →
    Answers (.functionD0Return fn) s fun t => fn ∉ t.host.d3 ∧
      t.host.irqs = s.host.irqs ++ (if s.msixMasked fn x.vector then [] else [⟨fn, x.vector⟩]) ∧ t.host.cq = s.host.cq ∧
      t.regs = s.regs ∧ t.mem = s.mem) ∧
  (∀ (s : State) (fn : Nat) (q : CfgReq), s.board.perstHigh = true → s.board.off = false → s.rd R.hstStatState 0 ≠ hsReady →
    s.rd R.hstStatState 0 ≠ hsFailed →
    Answers (.configurationRequest fn q) s fun t => t.host.answers = s.host.answers ++ [.retry] ∧ t.host.vfs = s.host.vfs ∧
      t.host.d3 = s.host.d3 ∧ t.regs = s.regs) ∧
  (∀ (s : State) (n : Nat), s.board.perstHigh = true → s.board.off = false → s.rd R.hstStatState 0 = hsReady → s.host.vfs = 0 → n ≤ 63 →
    Answers (.configurationRequest 0 (.enableVfs n)) s fun t => t.host.answers = s.host.answers ++ [.configDone] ∧ t.host.vfs = n ∧
      t.host.rings = s.host.rings ∧ t.regs = s.regs)

/-- Tier 2. The window BAR4 acts as R298 says: a read of backed bytes of a partition in HST_WINPART answers the data, or poisoned data, and
changes no cell where its words are good; a read elsewhere is answered with Completer Abort and counted; a write of a whole word stores its codeword, and poisons
the word where its payload carried the EP bit; an offset beyond the BAR's size reaches nothing (log entry 92). OP_ACCOUNT_READ writes the 256-byte record and ends with ST_OK (R331). -/
def Obligations.WindowCommandsComplete : Prop :=
  (∀ (s : State) (o n : Nat), s.outsideBar4 o n = true →
    Answers (.bar4Read o n) s fun t => t.host.answers = s.host.answers ++ [.unsupported] ∧ t.regs = s.regs ∧ t.faults = s.faults ∧ t.mem = s.mem) ∧
  (∀ (s : State) (o : Nat) (bs : List Byte) (ep : Bool), s.outsideBar4 o bs.length = true →
    Answers (.bar4Write o bs ep) s fun t => t = s) ∧
  (∀ (s : State) (o n : Nat), s.outsideBar4 o n = false → s.windowOk (s.windowAddr o) n = true →
    Answers (.bar4Read o n) s fun t => t.host.answers = s.host.answers ++ [
        if (s.readUnit (s.windowAddr o) n hubMaster).2.2 = 0 then .data (s.readUnit (s.windowAddr o) n hubMaster).2.1
        else .poisonedData (s.readUnit (s.windowAddr o) n hubMaster).2.1] ∧
      ((s.readUnit (s.windowAddr o) n hubMaster).2.2 = 0 → t.mem.cells = s.mem.cells)) ∧
  (∀ (s : State) (o n : Nat), Registers.wf s.regs = true → s.outsideBar4 o n = false → s.backed (s.windowAddr o) = false → s.rd R.hstErrcntBadAccess 0 + 1 < 2 ^ 32 →
    Answers (.bar4Read o n) s fun t => t.host.answers = s.host.answers ++ [.completerAbort] ∧
      t.rd R.hstErrcntBadAccess 0 = s.rd R.hstErrcntBadAccess 0 + 1 ∧ t.mem = s.mem) ∧
  (∀ (s : State) (o : Nat) (bs : List Byte) (ep : Bool), Memory.wf s.mem.cells = true → bs.length = 16 → s.windowAddr o % 16 = 0 →
    s.outsideBar4 o 16 = false → s.windowOk (s.windowAddr o) 16 = true →
    Answers (.bar4Write o bs ep) s fun t =>
      wordAt t.mem.cells (s.devWord (s.windowAddr o)) = (if ep then poisonWord else encodeWord bs) ∧
      (∀ w, w ≠ s.devWord (s.windowAddr o) → wordAt t.mem.cells w = wordAt s.mem.cells w) ∧ t.host = s.host ∧ t.regs = s.regs) ∧
  (∀ (s : State) (c q : Nat) (r : Req), s.Holds (c, q) 0x30 r → isDev (r.d 32 8) = false → s.host.ats = [] →
    Answers (.opAccountRead c q) s fun t => Ends s t (c, q) stOk 256 0 ∧
      (∃ w ∈ t.host.dma, w.addr = r.d 32 8 ∧ w.bytes = s.accRecord (r.inl 0 2 % 4096)) ∧ t.flash = s.flash ∧ t.sec = s.sec)

/-- Tier 2. Mailboxes act as R315 to R318 say: a bound sender's notice joins the queue of its channel, and the first one of an empty queue
signals the host receiver; a notice that waits joins once there is room; the receiver's POP takes the oldest and signals while more remain;
its FLUSH empties the queue. No other channel changes. -/
def Obligations.MailboxCommandsComplete : Prop :=
  (∀ (s : State) (a k tag : Nat), Registers.wf s.regs = true → a ≠ boardManager → s.sel a R.mbxSelChannel % 1024 = k →
    s.rd R.mbxBindEn k = 1 → s.rd R.mbxBindSender k = accMaster a → s.mbxQueue k ≠ [] → (s.mbxQueue k).length < 8 →
    (∀ w ∈ s.mbx.waiting, w.1 ≠ k) → s.rd R.mbxCstatSent k + 1 < 2 ^ 32 → tag < 2 ^ 32 →
    Answers (.mbxSendTagWrite a tag) s fun t =>
      t.mbxQueue k = s.mbxQueue k ++ [((s.reg (regKey .sender R.mbxSendPtrPtr.off (1024 * a + k))).toNat, tag)] ∧
      (∀ j, j ≠ k → t.mbxQueue j = s.mbxQueue j) ∧ t.rd R.mbxCstatSent k = s.rd R.mbxCstatSent k + 1 ∧ t.host = s.host) ∧
  (∀ (s : State) (a k tag r : Nat), a ≠ boardManager → s.sel a R.mbxSelChannel % 1024 = k → s.rd R.mbxBindEn k = 1 →
    s.rd R.mbxBindSender k = accMaster a → s.mbxQueue k = [] → s.mbx.waiting = [] → Registers.wf s.regs = true → s.moduleRun = true →
    s.rd R.mbxBindReceiver k = r → r < 64 → s.msixMasked r (s.rd R.mbxBindVector k) = false →
    Answers (.mbxSendTagWrite a tag) s fun t => (t.mbxQueue k).length = 1 ∧
      t.host.irqs = s.host.irqs ++ [⟨r, s.rd R.mbxBindVector k⟩] ∧ t.mem = s.mem) ∧
  (∀ (s : State) (k ptr tag : Nat), s.mbx.waiting = [(k, ptr, tag)] → s.mbxQueue k ≠ [] → (s.mbxQueue k).length < 8 →
    Answers (.mbxSenderRoom k ptr tag) s fun t => t.mbxQueue k = s.mbxQueue k ++ [(ptr, tag)] ∧ t.mbx.waiting = [] ∧
      (∀ j, j ≠ k → t.mbxQueue j = s.mbxQueue j) ∧ t.host = s.host) ∧
  (∀ (s : State) (a k : Nat) (n : Nat × Nat), a ≠ boardManager → s.sel a R.mbxSelChannel % 1024 = k → s.rd R.mbxBindEn k = 1 →
    s.rd R.mbxBindReceiver k = accMaster a → s.mbxQueue k = [n] →
    Answers (.mbxPop a) s fun t => t.mbxQueue k = [] ∧ t.mbx.waiting = s.mbx.waiting ∧ t.regs = s.regs ∧ t.host = s.host) ∧
  (∀ (s : State) (a k : Nat) (n m : Nat × Nat) (q : List (Nat × Nat)), a ≠ boardManager → s.sel a R.mbxSelChannel % 1024 = k →
    s.rd R.mbxBindEn k = 1 → s.rd R.mbxBindReceiver k = accMaster a → accMaster a < 64 → s.moduleRun = true → s.mbxQueue k = n :: m :: q →
    s.msixMasked (accMaster a) (s.rd R.mbxBindVector k) = false →
    Answers (.mbxPop a) s fun t => t.mbxQueue k = m :: q ∧ (∀ j, j ≠ k → t.mbxQueue j = s.mbxQueue j) ∧ t.regs = s.regs ∧
      t.host.irqs = s.host.irqs ++ [⟨accMaster a, s.rd R.mbxBindVector k⟩]) ∧
  (∀ (s : State) (a k : Nat), a ≠ boardManager → s.sel a R.mbxSelChannel % 1024 = k → s.rd R.mbxBindEn k = 1 →
    s.rd R.mbxBindReceiver k = accMaster a →
    Answers (.mbxFlush a) s fun t => t.mbxQueue k = [] ∧ t.regs = s.regs ∧ t.host = s.host ∧ t.mem = s.mem)

/-- Tier 2. The admin registers and the accounting window act as R314, R331 and R432 say. -/
def Obligations.AdminAndAccountRegisters : Prop :=
  (∀ (s : State) (v : Nat), Registers.wf s.regs = true → s.rd R.hstAdmCfgEn 0 ≠ 1 → v % 2 = 1 → bitsOf v 31 28 ≤ 8 → bitsOf v 27 24 ≤ 8 →
    Answers (.hstAdmCfgWrite 0 v) s fun t => t.rd R.hstAdmCfgEn 0 = 1 ∧ t.rd R.hstAdmCfgSqLog2 0 = bitsOf v 31 28 ∧
      t.rd R.hstAdmCfgCqLog2 0 = bitsOf v 27 24 ∧ t.rd R.hstAdmCfgVector 0 = bitsOf v 43 32 ∧ t.rd R.hstAdmDbSqHead 0 = 0 ∧
      t.host.admCqTail = 0 ∧ t.host.rings = s.host.rings ∧ t.mem = s.mem) ∧
  (∀ (s : State) (v : Nat), Registers.wf s.regs = true → s.rd R.hstAdmCfgEn 0 ≠ 1 → v % 2 = 1 → 8 < bitsOf v 31 28 →
    Answers (.hstAdmCfgWrite 0 v) s fun t => t.rd R.hstAdmCfgEn 0 = s.rd R.hstAdmCfgEn 0 ∧ t.host = s.host ∧ t.mem = s.mem) ∧
  (∀ (s : State) (v : Nat), Registers.wf s.regs = true → s.rd R.hstStatState 0 ≠ hsFailed →
    Answers (.hstAdmDbWrite 0 v) s fun t => t.rd R.hstAdmDbSqTail 0 = v % 2 ^ 16 ∧ t.rd R.hstAdmDbCqHead 0 = bitsOf v 31 16 ∧
      t.rd R.hstAdmDbSqHead 0 = s.rd R.hstAdmDbSqHead 0 ∧ t.host = s.host ∧ t.mem = s.mem) ∧
  (∀ (s : State) (a c : Nat), Registers.wf s.regs = true → a ≠ boardManager → c < 4096 →
    Answers (.accClientselWrite a c) s fun t => t.sel a R.accClientselClient % 4096 = c ∧ aget t.snaps a = none ∧ t.accts = s.accts ∧
      t.host = s.host ∧ t.mem = s.mem) ∧
  (∀ (s : State) (a : Nat),
    Answers (.accRec0Read a) s fun t => aget t.snaps a = some (s.accRecord (s.sel a R.accClientselClient % 4096)) ∧
      t.host.answers = s.host.answers ++ [.value (fieldLe (s.accRecord (s.sel a R.accClientselClient % 4096)) 0 8)] ∧
      t.accts = s.accts ∧ t.regs = s.regs ∧ t.mem = s.mem)

/-- Tier 2. Writes to BAR0 act by the access codes of R8 and by the rows of their registers (R297, R350, R357, R361, R365, R387, R388, R390,
R422): a read-write field takes the value, a read-only register keeps its own, an access that is not valid is counted and reported, and a
write with an effect of its own has it. -/
def Obligations.RegisterWritesComplete : Prop :=
  (∀ (s : State) (v : Nat), Registers.wf s.regs = true → v < 2 ^ 64 →
    Answers (.registerWrite ⟨0, 0x1018, 8, v⟩) s fun t => t.rd R.hstWinpartMask 0 = v ∧
      (∀ k, k ≠ 0x1018 → t.reg k = s.reg k) ∧ t.host = s.host ∧ t.mem = s.mem) ∧
  (∀ (s : State) (a v : Nat), Registers.wf s.regs = true → a < 64 →
    Answers (.registerWrite ⟨a, 0, 8, v⟩) s fun t => (∀ k, t.reg k = s.reg k) ∧ t.host = s.host ∧ t.mem = s.mem) ∧
  (∀ (s : State) (b : BarAccess) (off : Nat), Registers.wf s.regs = true → s.rd R.hstErrcntBadAccess 0 + 1 < 2 ^ 32 →
    Answers (.bar0InvalidAccess b off 2 false) s fun t => t.rd R.hstErrcntBadAccess 0 = s.rd R.hstErrcntBadAccess 0 + 1 ∧
      t.host.answers = s.host.answers ++ [.value 0] ∧ t.mem = s.mem) ∧
  (∀ (s : State), Registers.wf s.regs = true → s.boot.running = false → s.rd R.pwrStatModule 0 ≠ msWatch →
    s.board.perstHigh = true → s.board.pwrGood = true →
    Answers (.cfgResetModule 0) s fun t => t.rd R.cfgResetCause 0 = 5 ∧ t.boot.running = true ∧ t.host.rings = [] ∧ t.host.reqs = [] ∧
      t.host.cq = [] ∧ t.mem.cells = [] ∧ t.nor = s.nor) ∧
  (∀ (s : State) (a : Nat), 64 ≤ a → a < 72 →
    Answers (.heartbeatRefresh a) s fun t => t.faults.hbAt = some s.now ∧ t.regs = s.regs ∧ t.host = s.host ∧ t.mem = s.mem) ∧
  (∀ (s : State) (k bits : Nat), k < 8 → bitOf bits k = true → k ∉ s.faults.coreRestarting → swf 0 s.faults.coreKick = true →
    Answers (.watchdogKick (64 + k) bits) s fun t => sget 0 t.faults.coreKick k = s.now ∧ t.regs = s.regs ∧ t.parts = s.parts ∧
      t.host = s.host ∧ t.mem = s.mem) ∧
  (∀ (s : State), Registers.wf s.regs = true →
    Answers (.firstErrorClear 0) s fun t => t.rd R.fltFirstValid 0 = 0 ∧ t.rd R.fltFirstAddrAddr 0 = 0 ∧ t.rd R.fltFirstTimeTime 0 = 0 ∧
      t.faults = s.faults ∧ t.host = s.host ∧ t.mem = s.mem) ∧
  (∀ (s : State) (a d : Nat), Registers.wf s.regs = true → 64 ≤ a → a < 72 → d < 240 → s.partOf d = none →
    Answers (.pwrModeNap a d) s fun t => t.rd R.pwrModeMode d = 1 ∧ t.power = s.power ∧ t.host = s.host ∧ t.mem = s.mem) ∧
  (∀ (s : State) (a d : Nat), Registers.wf s.regs = true → 64 ≤ a → a < 72 → s.napping d = false →
    Answers (.pwrModeRun a d) s fun t => t.rd R.pwrModeMode d = 0 ∧ t.power = s.power ∧ t.host = s.host ∧ t.mem = s.mem) ∧
  (∀ (s : State) (a : Nat), Registers.wf s.regs = true → 64 ≤ a → a < 72 → s.power.watchAsked.isSome = true →
    Answers (.pwrModeWatch a) s fun t => t.rd R.pwrModeMode moduleDomain = 2 ∧ t.power = s.power ∧ t.host = s.host ∧ t.mem = s.mem) ∧
  (∀ (s : State) (v : Nat), Registers.wf s.regs = true → s.upd.checked = false → s.nearActivation = false →
    s.now + 10 ^ 10 ≤ v → v < 2 ^ 64 →
    Answers (.updActivateAtWrite 0 v) s fun t => t.rd R.updActivateAtTime 0 = v ∧ t.upd = s.upd ∧ t.host = s.host ∧ t.mem = s.mem) ∧
  (∀ (s : State) (v : Nat), Registers.wf s.regs = true → v ≠ 0 → v < s.now + 10 ^ 10 →
    Answers (.updActivateAtWrite 0 v) s fun t => t.rd R.updStatSchedErr 0 = 1 ∧
      t.rd R.updActivateAtTime 0 = s.rd R.updActivateAtTime 0 ∧ t.upd = s.upd ∧ t.host = s.host ∧ t.mem = s.mem)

/-- Tier 2. A client's oldest fetched descriptor is judged once the admission arbiter grants the client (R304, R305): one whose read failed
ends with ST_CONTEXT_FAULT and becomes no request; one that passes every check becomes a request in flight, counted as admitted. -/
def Obligations.DescriptorAdmitCompletes : Prop :=
  (∀ (s : State) (c : Nat) (f : Fetched), s.rd R.hstStatState 0 = hsReady → s.moduleRun = true → s.ready = [c] →
    s.host.fetched = [f] → f.client = c → f.failed = true → (s.ring c).isSome = true → c < 4096 →
    Answers (.descriptorAdmit c) s fun t => t.host.fetched = [] ∧ t.host.reqs = s.host.reqs ∧
      (∃ e, t.host.cq = s.host.cq ++ [e] ∧ e.client = c ∧ e.slot = f.slot ∧ e.status = stContextFault ∧ e.interim = false) ∧
      t.mem = s.mem) ∧
  (∀ (s : State) (c : Nat) (f : Fetched) (d : List Byte), s.rd R.hstStatState 0 = hsReady → s.moduleRun = true → s.ready = [c] →
    s.host.fetched = [f] → f.client = c → f.failed = false → f.paramFailed = false → f.poisoned = false → f.bytes = some d →
    d.length = 64 → fieldLe d 0 1 = 0x30 → fieldLe d 24 4 = 0 → goodDescriptor d = true → fieldLe d 48 2 = c → c < 4096 →
    256 ≤ fieldLe d 28 4 → s.req? (c, fieldLe d 4 4) = none → s.running (s.home c) = true → fieldLe d 8 8 = 0 →
    Answers (.descriptorAdmit c) s fun t => t.host.fetched = [] ∧ t.host.cq = s.host.cq ∧
      (∃ r, t.req? (c, fieldLe d 4 4) = some r ∧ r.opcode = 0x30 ∧ r.desc = d ∧ r.slot = f.slot ∧ r.ended = false) ∧
      (∃ a, aget t.accts c = some a ∧ a.admitted = ((aget s.accts c).getD Acct.zero).admitted + 1) ∧ t.mem = s.mem)

/-- Tier 2. A completion of a host read that is outstanding (R301, Table TNCY-6): data is kept for the request that needs it and the read is
no longer outstanding; an error ends the descriptor that waits for it; a completion that no read asked for changes nothing, but that the page of a write to
come has no translation is kept (DEDUCED, log entry 34). -/
def Obligations.HostReadCompletes : Prop :=
  (∀ (s : State) (fn a n c q : Nat) (pa : Option Nat) (bs : List Byte), s.host.reads = [⟨fn, pa, a, n, .request c q⟩] → bs.length = n →
    Answers (.hostReadCompletion fn a n (.request c q) (.data bs)) s fun t => t.host.reads = [] ∧
      t.host.rx = s.host.rx ++ [⟨fn, a, .request c q, false, bs⟩] ∧ t.host.reqs = s.host.reqs ∧ t.regs = s.regs ∧ t.mem = s.mem) ∧
  (∀ (s : State) (fn a c : Nat) (pa : Option Nat) (f : Fetched), s.host.reads = [⟨fn, pa, a, 64, .descriptor c⟩] → s.host.fetched = [f] → f.client = c →
    f.bytes = none → f.failed = false → s.slotAddr f = a →
    Answers (.hostReadCompletion fn a 64 (.descriptor c) .error) s fun t => t.host.reads = [] ∧
      t.host.fetched = [{ f with failed := true }] ∧ t.host.reqs = s.host.reqs ∧ t.regs = s.regs ∧ t.mem = s.mem) ∧
  (∀ (s : State) (fn a n c : Nat) (x : HostAnswer), s.host.reads = [] → x ≠ .noTranslation →
    Answers (.hostReadCompletion fn a n (.descriptor c) x) s fun t => t.host = s.host ∧ t.regs = s.regs ∧ t.faults = s.faults ∧ t.mem = s.mem) ∧
  (∀ (s : State) (fn a n c : Nat), s.host.reads = [] → fn ∈ s.host.ats → (fn, a / 4096) ∉ s.host.noXlat →
    Answers (.hostReadCompletion fn a n (.descriptor c) .noTranslation) s fun t => t.host.noXlat = s.host.noXlat ++ [(fn, a / 4096)] ∧
      t.host.reqs = s.host.reqs ∧ t.regs = s.regs ∧ t.faults = s.faults ∧ t.mem = s.mem)

/-- Tier 2. Instructions of a cluster that set up a step or steer its program (R93, R94, R98 to R101): each writes what it names and the
sequencer goes on; nothing outside the cluster changes, but for the tag of the partition's next step, which STEP_END of its last cluster looks up
(R370). An uncorrectable word where SETSTEP reads resets the partition and becomes poison (R262). -/
def Obligations.SetUpAndControlFlow : Prop :=
  (∀ (s : State) (cl a : Nat), s.Issues cl → (s.cluster cl).Sound → ((s.cluster cl).readS a 32).2 = false →
    Answers (.setstep cl a) s fun t => (t.cluster cl).stepDesc = ((s.cluster cl).readS a 32).1 ∧ (t.cluster cl).stepAddr = a ∧
      (t.cluster cl).schedCycles = (s.cluster cl).schedCycles + 2 ∧ (t.cluster cl).scratch = (s.cluster cl).scratch ∧
      OnlyCluster cl s t) ∧
  (∀ (s : State) (cl a p w : Nat), Registers.wf s.regs = true → Memory.wf (s.cluster cl).scratch = true → s.Issues cl →
    s.partOf cl = some p → a = 16 * w → decodeWord false (wordAt (s.cluster cl).scratch w) = .uncorrectable →
    Answers (.setstep cl a) s fun t => t.rd R.cfgPstatState p = psReset ∧ wordAt (t.cluster cl).scratch w = poisonWord) ∧
  (∀ (s : State) (cl a : Nat), s.Issues cl →
    Answers (.setpair cl a) s fun t => (t.cluster cl).pairBase = a ∧ (t.cluster cl).stepDesc = (s.cluster cl).stepDesc ∧
      (t.cluster cl).scratch = (s.cluster cl).scratch ∧ OnlyCluster cl s t) ∧
  (∀ (s : State) (cl n : Nat), s.Issues cl →
    Answers (.nop cl n) s fun t => (t.cluster cl).schedCycles = (s.cluster cl).schedCycles + n ∧
      ((s.cluster cl).loops = [] → (t.cluster cl).pc = (s.cluster cl).pc + 1) ∧
      (t.cluster cl).scratch = (s.cluster cl).scratch ∧ OnlyCluster cl s t) ∧
  (∀ (s : State) (cl n a k : Nat), s.Issues cl → (s.cluster cl).loops = [(a, (s.cluster cl).pc + 1, k)] →
    Answers (.nop cl n) s fun t =>
      (k = 0 → (t.cluster cl).pc = (s.cluster cl).pc + 1 ∧ (t.cluster cl).loops = []) ∧
      (k ≠ 0 → (t.cluster cl).pc = a ∧ (t.cluster cl).loops = [(a, (s.cluster cl).pc + 1, k - 1)]) ∧ OnlyCluster cl s t) ∧
  (∀ (s : State) (cl count body : Nat), s.Issues cl → body ≠ 0 →
    Answers (.loop cl count body) s fun t => (t.cluster cl).pc = (s.cluster cl).pc + 1 ∧
      (t.cluster cl).loops = ((s.cluster cl).pc + 1, (s.cluster cl).pc + 1 + body, count - 1) :: (s.cluster cl).loops ∧
      (t.cluster cl).scratch = (s.cluster cl).scratch ∧ OnlyCluster cl s t) ∧
  (∀ (s : State) (cl : Nat), s.Issues cl →
    Answers (.jpage cl) s fun t => (t.cluster cl).page = 1 - (s.cluster cl).page ∧ (t.cluster cl).pc = 0 ∧ (t.cluster cl).loops = [] ∧
      (t.cluster cl).imem = (s.cluster cl).imem ∧ OnlyCluster cl s t) ∧
  (∀ (s : State) (cl : Nat), s.Issues cl → (s.cluster cl).beginMsg = true →
    Answers (.stepBegin cl) s fun t => (t.cluster cl).inStep = true ∧ (t.cluster cl).beginMsg = false ∧
      (t.cluster cl).stepSeq = (s.cluster cl).stepSeq + 1 ∧ (t.cluster cl).schedCycles = 0 ∧ (t.cluster cl).sigs = [] ∧
      (t.cluster cl).scratch = (s.cluster cl).scratch ∧ OnlyCluster cl s t) ∧
  (∀ (s : State) (cl : Nat), s.Issues cl → (s.cluster cl).beginMsg = false → (s.cluster cl).stepPending = none →
    Answers (.stepBegin cl) s fun t => (t.cluster cl).held = some (.stepBegin cl) ∧ (t.cluster cl).pc = (s.cluster cl).pc ∧
      (t.cluster cl).inStep = (s.cluster cl).inStep ∧ OnlyCluster cl s t) ∧
  (∀ (s : State) (cl : Nat), s.Issues cl → (s.cluster cl).spans = [] →
    Answers (.stepEnd cl) s fun t => (t.cluster cl).inStep = false ∧ (t.cluster cl).record = (t.cluster cl).stepRecord cl ∧
      (t.cluster cl).rowEvents = [] ∧ (t.cluster cl).scratch = (s.cluster cl).scratch ∧ (∀ j, j ≠ cl → t.cluster j = s.cluster j) ∧
      t.regs = s.regs ∧ t.mem = s.mem ∧ t.host = s.host ∧ (∀ p, t.part p = { s.part p with nextTag := (t.part p).nextTag }) ∧
      (∀ p d, s.partOf cl = some p → (∀ j ∈ s.partClusters p, j ≠ cl → (s.cluster j).inStep = false) →
        t.stepDescOf p ((s.part p).steps + 1) = some d → (t.part p).nextTag = sdTag d)) ∧
  (∀ (s : State) (cl : Nat), s.Issues cl → s.rd R.pwrModeMode cl = 0 → s.napping cl = false → (s.cluster cl).loops = [] →
    Answers (.wait cl) s fun t => (t.cluster cl).pc = (s.cluster cl).pc + 1 ∧ (t.cluster cl).acc = (s.cluster cl).acc ∧
      OnlyCluster cl s t) ∧
  (∀ (s : State) (cl n v : Nat), s.Issues cl → swf 0 (s.cluster cl).counters = true →
    sget 0 (s.cluster cl).counters v = n →
    Answers (.waitt cl v n) s fun t => sget 0 (t.cluster cl).counters v = 0 ∧ (t.cluster cl).held = none ∧
      (t.cluster cl).scratch = (s.cluster cl).scratch ∧ OnlyCluster cl s t) ∧
  (∀ (s : State) (cl n v : Nat), s.Issues cl → (s.cluster cl).stepPending = none → sget 0 (s.cluster cl).counters v < n →
    Answers (.waitt cl v n) s fun t => (t.cluster cl).held = some (.waitt cl v n) ∧ (t.cluster cl).counters = (s.cluster cl).counters ∧
      (t.cluster cl).pc = (s.cluster cl).pc ∧ OnlyCluster cl s t) ∧
  (∀ (s : State) (cl w n v : Nat), cl < 240 → (s.partOf cl).isSome = true → (s.cluster cl).held = some (.waitt cl v n) → (s.cluster cl).stopped = false →
    swf 0 (s.cluster cl).counters = true → sget 0 (s.cluster cl).counters v = n →
    Answers (.syncPointRelease cl w) s fun t => (t.cluster cl).held = none ∧ sget 0 (t.cluster cl).counters v = 0 ∧
      (t.cluster cl).waitToken = (s.cluster cl).waitToken + w ∧ OnlyCluster cl s t)

/-- Tier 2. The matrix instructions (R46 to R59, R74, R76, R100). WLOAD fills the named array's register; MMA and LMV accumulate every
element of the tile exactly as its products give, from nothing where FIRST is set, in the other half or set, and in the running one else;
a tile read out for another owner is written as a partial word; PACC joins a partial word into the running half; a recomputed element takes
its place once its whole K range has been walked. An MMA in a step of the lane, and an LMV in any other step or in one of BF16 mode, only issues (log
entry 62). -/
def Obligations.MatrixInstructions : Prop :=
  (∀ (s : State) (cl a arr : Nat) (wb : Bool), s.Issues cl → (s.cluster cl).Sound → arr < 4 →
    Answers (.wload cl a (2 ^ arr) wb) s fun t =>
      (∃ w, aget (t.cluster cl).weights (2 * arr + b2n wb) = some w ∧
        w.rows = ((s.cluster cl).readS (wArrayAddr (s.cluster cl).stepDesc a arr) (128 * wRowBytes (sdW (s.cluster cl).stepDesc))).1) ∧
      (∀ k, k ≠ 2 * arr + b2n wb → aget (t.cluster cl).weights k = aget (s.cluster cl).weights k) ∧
      (t.cluster cl).acc = (s.cluster cl).acc ∧ (t.cluster cl).scratch = (s.cluster cl).scratch ∧ OnlyCluster cl s t) ∧
  (∀ (s : State) (cl a i : Nat) (wb first : Bool) (p d : List Byte) (o : TileOps) (r j : Nat), s.Issues cl →
    (s.cluster cl).Sound → d = (s.cluster cl).stepDesc → sdLane d = false → (s.cluster cl).readS ((s.cluster cl).pairBase + 32 * i) 32 = (p, false) →
    o = (s.cluster cl).mmaOps p a (prRows p) wb (prCols p) → prCols p ≤ 256 → r < prRows p → j < prCols p →
    swf AccEntry.zero (s.cluster cl).acc = true →
    Answers (.mma cl a i wb false first) s fun t =>
      (t.cluster cl).half = (if first then 1 - (s.cluster cl).half else (s.cluster cl).half) ∧
      sget AccEntry.zero (t.cluster cl).acc (65536 * (t.cluster cl).half + 256 * r + j) =
        accumulate d (tileAnchor d p o r j) (tileProducts d p o (kTile d) r j) o.poison
          (if first then AccEntry.zero else sget AccEntry.zero (s.cluster cl).acc (65536 * (s.cluster cl).half + 256 * r + j)) ∧
      (t.cluster cl).scratch = (s.cluster cl).scratch ∧ (t.cluster cl).lane = (s.cluster cl).lane ∧ OnlyCluster cl s t) ∧
  (∀ (s : State) (cl a i : Nat) (wb last first : Bool) (p : List Byte), s.Issues cl → (s.cluster cl).Sound →
    sdLane (s.cluster cl).stepDesc = true →
    (s.cluster cl).readS ((s.cluster cl).pairBase + 32 * i) 32 = (p, false) →
    Answers (.mma cl a i wb last first) s fun t => (t.cluster cl).schedCycles = (s.cluster cl).schedCycles + 1 ∧
      (t.cluster cl).acc = (s.cluster cl).acc ∧ (t.cluster cl).scratch = (s.cluster cl).scratch ∧ OnlyCluster cl s t) ∧
  (∀ (s : State) (cl a i : Nat) (wb first : Bool) (p : List Byte), s.Issues cl → (s.cluster cl).Sound →
    sdLane (s.cluster cl).stepDesc = false →
    (s.cluster cl).readS ((s.cluster cl).pairBase + 32 * i) 32 = (p, false) → prCols p = 1 → prRows p = 1 → prOwner p = false →
    prOut p % 16 = 0 → Memory.wf (s.cluster cl).scratch = true →
    Answers (.mma cl a i wb true first) s fun t =>
      wordAt (t.cluster cl).scratch (prOut p / 16) =
        encodeWord (sget AccEntry.zero (t.cluster cl).acc (65536 * (t.cluster cl).half)).partialWord ∧
      (∀ w, w ≠ prOut p / 16 → wordAt (t.cluster cl).scratch w = wordAt (s.cluster cl).scratch w) ∧ OnlyCluster cl s t) ∧
  (∀ (s : State) (cl a i b win : Nat) (first : Bool) (p d : List Byte) (o : TileOps) (r j : Nat), s.Issues cl →
    (s.cluster cl).Sound → d = (s.cluster cl).stepDesc → sdLane d = true → sdMode d ≠ 2 → (s.cluster cl).readS ((s.cluster cl).pairBase + 32 * i) 32 = (p, false) →
    o = (s.cluster cl).lmvOps p a (prRows p) b win (prCols p) → prRows p ≤ 8 → prCols p ≤ 64 → r < prRows p → j < prCols p →
    swf AccEntry.zero (s.cluster cl).lane = true →
    Answers (.lmv cl a i b win false first) s fun t =>
      (t.cluster cl).laneSet = (if first then 1 - (s.cluster cl).laneSet else (s.cluster cl).laneSet) ∧
      sget AccEntry.zero (t.cluster cl).lane (512 * (t.cluster cl).laneSet + 64 * r + j) =
        accumulate d (tileAnchor d p o r j) (tileProducts d p o (8 * b) r j) o.poison
          (if first then AccEntry.zero else sget AccEntry.zero (s.cluster cl).lane (512 * (s.cluster cl).laneSet + 64 * r + j)) ∧
      (t.cluster cl).scratch = (s.cluster cl).scratch ∧ (t.cluster cl).acc = (s.cluster cl).acc ∧ OnlyCluster cl s t) ∧
  (∀ (s : State) (cl a i b win : Nat) (last first : Bool) (p : List Byte), s.Issues cl → (s.cluster cl).Sound →
    (sdLane (s.cluster cl).stepDesc = false ∨ sdMode (s.cluster cl).stepDesc = 2) →
    (s.cluster cl).readS ((s.cluster cl).pairBase + 32 * i) 32 = (p, false) →
    Answers (.lmv cl a i b win last first) s fun t => (t.cluster cl).schedCycles = (s.cluster cl).schedCycles + 1 ∧
      (t.cluster cl).lane = (s.cluster cl).lane ∧ (t.cluster cl).scratch = (s.cluster cl).scratch ∧ OnlyCluster cl s t) ∧
  (∀ (s : State) (cl a i : Nat) (lane : Bool) (p : List Byte) (r j : Nat), s.Issues cl → (s.cluster cl).Sound → lane = sdLane (s.cluster cl).stepDesc →
    (s.cluster cl).readS ((s.cluster cl).pairBase + 32 * i) 32 = (p, false) → prCols p ≤ 256 → r < prRows p → j < prCols p →
    (lane = true → prRows p ≤ 8 ∧ prCols p ≤ 64) → swf AccEntry.zero ((s.cluster cl).accOf lane) = true →
    Answers (.pacc cl a i) s fun t =>
      sget AccEntry.zero ((t.cluster cl).accOf lane) (accKey lane ((s.cluster cl).accSide lane) r j) =
        (sget AccEntry.zero ((s.cluster cl).accOf lane) (accKey lane ((s.cluster cl).accSide lane) r j)).join
          (AccEntry.ofPartial ((s.cluster cl).readS (a + 16 * (r * prCols p + j)) 16).1
            ((s.cluster cl).readS (a + 16 * (r * prCols p + j)) 16).2) ∧
      (t.cluster cl).scratch = (s.cluster cl).scratch ∧ OnlyCluster cl s t) ∧
  (∀ (s : State) (cl n : Nat) (e : SpanElem) (x : Recomputed), (s.cluster cl).spans = [e] → e.row = x.row → e.col = x.col →
    e.ks ≤ (s.spanProducts cl e).length →
    Answers (.recomputeDone cl n [x]) s fun t => (t.cluster cl).spans = [] ∧
      (t.cluster cl).spanCount = (s.cluster cl).spanCount + (if e.check then 0 else 1) ∧
      (t.cluster cl).recompCycles = (s.cluster cl).recompCycles + recompBusy 1 e.ks n ∧ (t.cluster cl).acc = (s.cluster cl).acc ∧
      OnlyCluster cl s t) ∧
  (∀ (s : State) (cl n : Nat) (e : SpanElem) (x : Recomputed), (s.cluster cl).spans = [e] → (s.spanProducts cl e).length < e.ks →
    Answers (.recomputeDone cl n [x]) s fun t => t.cluster cl = s.cluster cl ∧ OnlyCluster cl s t)

/-- Tier 2. The vector unit (R84, R88, R100, R137): an operation on four FP32 elements changes one word of scratch, and a sum of two sources
writes the rounded sums; TOPK writes its list; QUANTIZE writes the codes of its block; nothing else of the cluster's stores changes. -/
def Obligations.VectorInstructions : Prop :=
  (∀ (s : State) (cl a : Nat) (d : List Byte), s.Issues cl → (s.cluster cl).Sound → (s.cluster cl).readS a 32 = (d, false) → vdOp d ≠ 0x40 → vdN d = 4 →
    vdSf d = 15 → vdDf d = 15 → vdDst d % 16 = 0 → Memory.wf (s.cluster cl).scratch = true →
    Answers (.vop cl a) s fun t => t.freeCtr = s.freeCtr ∧
      (∀ w, w ≠ vdDst d / 16 → wordAt (t.cluster cl).scratch w = wordAt (s.cluster cl).scratch w) ∧
      (Config.vecOp (vdOp d) = .add →
        (∀ i, i < 4 → ((s.cluster cl).vecElem (vdSrc d 0) 32 i).2 = false ∧ ((s.cluster cl).vecElem (vdSrc d 1) 32 i).2 = false) →
        wordAt (t.cluster cl).scratch (vdDst d / 16) = encodeWord (packCodes 32 ((List.range 4).map fun i =>
          fp32Code (roundFp32 ((fp32Val ((s.cluster cl).vecElem (vdSrc d 0) 32 i).1).add
            (fp32Val ((s.cluster cl).vecElem (vdSrc d 1) 32 i).1)))))) ∧
      (t.cluster cl).acc = (s.cluster cl).acc ∧ (t.cluster cl).lane = (s.cluster cl).lane ∧ OnlyCluster cl s t) ∧
  (∀ (s : State) (cl a : Nat) (d : List Byte), s.Issues cl → (s.cluster cl).Sound → (s.cluster cl).readS a 32 = (d, false) → dbits d 215 213 = 0 →
    Answers (.topk cl a) s fun t =>
      (∃ vs bad, (t.cluster cl).scratch = ((s.cluster cl).writeSP (vdDst d) vs bad).scratch ∧
        (vs = let keys := (List.range (vdN d)).map fun i =>
            let v := keyOf 0 ((s.cluster cl).vecElem (vdSrc d 0) (8 * keyBytes 0) i).1
            (⟨dbits d 63 32 + i, v.1, v.2⟩ : Key)
          let sel := selectKeys (dbits d 211 200 + 1) (dbits d 212 212 = 0) keys
          denseBytes 0 (dbits d 211 200 + 1) 0 (dbits d 212 212 = 0) sel.1 sel.2)) ∧
      (t.cluster cl).acc = (s.cluster cl).acc ∧ OnlyCluster cl s t) ∧
  (∀ (s : State) (cl a : Nat) (d : List Byte), s.Issues cl → (s.cluster cl).Sound → (s.cluster cl).readS a 32 = (d, false) → vdN d = 16 →
    vdDst d % 16 = 0 → vdSrc d 1 / 16 ≠ vdDst d / 16 → vdSrc d 2 % 16 < 15 → vdSrc d 2 / 16 ≠ vdDst d / 16 →
    (∀ i, i < 16 → ((s.cluster cl).vecElem (vdSrc d 0) 32 i).2 = false) → Memory.wf (s.cluster cl).scratch = true →
    Answers (.quantize cl a .e4m3) s fun t =>
      wordAt (t.cluster cl).scratch (vdDst d / 16) = encodeWord (packCodes 8
        (quantBlock .e4m3 ((List.range 16).map fun i => fp32Val ((s.cluster cl).vecElem (vdSrc d 0) 32 i).1)).2.2) ∧
      (∀ w, w ≠ vdDst d / 16 → w ≠ vdSrc d 1 / 16 → w ≠ vdSrc d 2 / 16 →
        wordAt (t.cluster cl).scratch w = wordAt (s.cluster cl).scratch w) ∧ OnlyCluster cl s t)

/-- Tier 2. Streams and port tokens (R24, R97, R99, R103 to R107): STREAM and PAGE queue a transfer within the partition's bounds; a
transfer that completes moves its word and adds one to its counter; SEND takes a credit and sends the header and payload; an arriving token
enters the queue of the port bound to its sender; RECV writes it and owes its credit, which returns to the sender. -/
def Obligations.StreamsAndPorts : Prop :=
  (∀ (s : State) (cl a e p : Nat) (d : List Byte), s.Issues cl → (s.cluster cl).Sound → s.partOf cl = some p →
    (s.cluster cl).readS a 32 = (d, false) → (s.cluster cl).meetsUse d = false → s.streamOk p d e false = true →
    Answers (.stream cl a e) s fun t => (t.cluster cl).xfers = [⟨e, stCounter d, d, false, false, s.rd R.cfgPstatRgen p, false⟩] ∧
      (t.cluster cl).counters = (s.cluster cl).counters ∧ (t.cluster cl).scratch = (s.cluster cl).scratch ∧ OnlyCluster cl s t) ∧
  (∀ (s : State) (cl a e p : Nat) (d : List Byte), s.Issues cl → (s.cluster cl).Sound → s.partOf cl = some p →
    (s.cluster cl).readS a 32 = (d, false) → s.streamOk p d e true = true →
    Answers (.page cl a e) s fun t => (t.cluster cl).xfers = [⟨e, stCounter d, d, true, false, s.rd R.cfgPstatRgen p, false⟩] ∧
      (t.cluster cl).imem = (s.cluster cl).imem ∧ (t.cluster cl).scratch = (s.cluster cl).scratch ∧ OnlyCluster cl s t) ∧
  (∀ (s : State) (cl p : Nat) (x : Xfer) (b : List Byte), s.partOf cl = some p → (s.cluster cl).xfers = [x] → x.complete = false →
    x.page = false → x.rgen = s.rd R.cfgPstatRgen p → stRows x.desc = 1 → stRowWords x.desc = 1 → stOut x.desc = false →
    (∀ detect, decodeWord detect (s.remoteWord cl p x.desc (stRemoteRow x.desc 0)) = .word b none) → b.length = 16 →
    s.rd R.pwrStatHold 0 ≠ 1 → Memory.wf (s.cluster cl).scratch = true → swf 0 (s.cluster cl).counters = true →
    Answers (.transferComplete cl x.engine) s fun t =>
      wordAt (t.cluster cl).scratch (stLocal x.desc / 16) = encodeWord b ∧
      (∀ w, w ≠ stLocal x.desc / 16 → wordAt (t.cluster cl).scratch w = wordAt (s.cluster cl).scratch w) ∧
      sget 0 (t.cluster cl).counters x.counter = sget 0 (s.cluster cl).counters x.counter + 1 ∧
      (t.cluster cl).xfers = [{ x with complete := true }] ∧ (∀ j, j ≠ cl → t.cluster j = s.cluster j) ∧ t.mem.cells = s.mem.cells ∧
      t.regs = s.regs ∧ t.host = s.host) ∧
  (∀ (s : State) (cl a len port : Nat) (h : List Byte) (b : PortBind), s.Issues cl → aget (s.cluster cl).outBind port = some b →
    sget 0 (s.cluster cl).creditsUsed port < 8 → swf 0 (s.cluster cl).creditsUsed = true → (s.cluster cl).Sound →
    (s.cluster cl).readS a 16 = (h, false) →
    Answers (.send cl a len port) s fun t =>
      (∃ k, t.pkg.tokens = s.pkg.tokens ++ [k] ∧ k.dest = b.dest ∧ k.dport = b.dport ∧ k.src = cl ∧ k.sport = port ∧
        k.words.length = len + 1 ∧ k.words.drop 1 = (List.range len).map fun i =>
          (passWord (wordAt (s.cluster cl).scratch (a / 16 + 1 + i))).getD (wordAt (s.cluster cl).scratch (a / 16 + 1 + i))) ∧
      sget 0 (t.cluster cl).creditsUsed port = sget 0 (s.cluster cl).creditsUsed port + 1 ∧
      (t.cluster cl).scratch = (s.cluster cl).scratch ∧ OnlyCluster cl s t) ∧
  (∀ (s : State) (cl port : Nat) (k : Token), s.pkg.tokens = [k] → k.dest = cl → k.dport = port →
    aget (s.cluster cl).inBind port = some (k.src, k.sport) → k.rgen = s.rd R.cfgPstatRgen k.part % 16 →
    Answers (.portTokenArrival cl port) s fun t => t.pkg.tokens = [] ∧
      aget (t.cluster cl).inq port = some ((aget (s.cluster cl).inq port).getD [] ++ [k.words]) ∧ OnlyCluster cl s t) ∧
  (∀ (s : State) (cl dst port src sport : Nat) (h w : List Byte), s.Issues cl → aget (s.cluster cl).inq port = some [[h, w]] →
    aget (s.cluster cl).inBind port = some (src, sport) → w.length = 18 → Memory.wf (s.cluster cl).scratch = true →
    swf 0 s.pkg.creditsOwed = true → (s.cluster cl).Sound →
    Answers (.recv cl dst port) s fun t => aget (t.cluster cl).inq port = none ∧
      wordAt (t.cluster cl).scratch (dst / 16 + 1) = w ∧
      (∀ x, x ≠ dst / 16 → x ≠ dst / 16 + 1 → wordAt (t.cluster cl).scratch x = wordAt (s.cluster cl).scratch x) ∧
      sget 0 t.pkg.creditsOwed (8 * src + sport) = sget 0 s.pkg.creditsOwed (8 * src + sport) + 1 ∧ OnlyCluster cl s t) ∧
  (∀ (s : State) (cl port n : Nat), n ≤ sget 0 s.pkg.creditsOwed (8 * cl + port) → swf 0 (s.cluster cl).creditsUsed = true →
    swf 0 s.pkg.creditsOwed = true →
    Answers (.creditReturn cl port n) s fun t =>
      sget 0 (t.cluster cl).creditsUsed port = sget 0 (s.cluster cl).creditsUsed port - n ∧
      sget 0 t.pkg.creditsOwed (8 * cl + port) = sget 0 s.pkg.creditsOwed (8 * cl + port) - n ∧ OnlyCluster cl s t) ∧
  (∀ (s : State) (cl p : Nat) (row span nan : Nat) (x : StepRow) (q : Req), s.partOf cl = some p →
    (s.cluster cl).eventsSent = [(row, span, nan)] → (s.part p).running = some [x] → x.first ≤ row → row < x.first + x.count →
    x.kind = 0 → s.req? (x.client, x.req) = some q →
    Answers (.rowEventMessage cl) s fun t => (t.cluster cl).eventsSent = [] ∧
      t.req? (x.client, x.req) = some { q with span := q.span + span, e2m1 := q.e2m1 + nan } ∧ t.regs = s.regs ∧ t.mem = s.mem)

/-- Tier 2. The package (R24 to R28, R33 to R35, R258 to R260): a lone input of an arbiter is granted; a flit that is a whole token for a cluster of the
router's region is delivered at that cluster's port, behind what has been delivered there; one whose header cannot be read resets the partitions of the
region; an input whose 8 places are taken takes no flit; a good frame of a die link advances its number and ends its replays, a bad one is replayed, and
the third failed replay retires the link. -/
def Obligations.PackageCommands : Prop :=
  (∀ (s : State) (arb i act : Nat), swf 0 s.pkg.granted = true → aget s.pkg.queued arb = none →
    (s.pkg.input (16 * (arb / 16) + i)).fifo = [] →
    Answers (.arbiterGrant arb [(i, act)]) s fun t => sget 0 t.pkg.granted arb = i + 1 ∧ t.pkg.tokens = s.pkg.tokens ∧
      t.pkg.routed = s.pkg.routed ∧ t.regs = s.regs ∧ t.mem = s.mem) ∧
  (∀ (s : State) (g port h dest arb : Nat) (ws : List (BitVec 144)) (c : Bool), (s.pkg.input (16 * g + port)).fifo = [] →
    readHeader (ws.getD 0 0) = some (h, c) → bitsOf h 19 16 = 0 → bitsOf h 75 70 ≤ 3 → dest = bitsOf h 31 20 → 0x200 ≤ dest → dest < 0x2F0 →
    s.physAll (dest - 0x200) / 8 = g → arb = 16 * g + s.physOf (dest - 0x200) % 8 → g < 32 → s.waitsFor arb = [] →
    sget 0 s.pkg.granted arb = 0 → aget s.pkg.queued arb = none →
    Answers (.routerFlit g port (true, ws)) s fun t =>
      (∃ x, aget t.pkg.routed arb = some ((aget s.pkg.routed arb).getD [] ++ [x]) ∧ x.addr = dest ∧ x.src = bitsOf h 127 116 ∧
        x.seq = bitsOf h 103 88 ∧ x.stream = bitsOf h 115 104 ∧ x.payload = (ws.drop 1).take (bitsOf h 75 70)) ∧
      t.pkg.tokens = s.pkg.tokens ∧ t.regs = s.regs ∧ t.mem = s.mem) ∧
  (∀ (s : State) (g port p : Nat) (ws : List (BitVec 144)), Registers.wf s.regs = true → (s.pkg.input (16 * g + port)).fifo = [] →
    readHeader (ws.getD 0 0) = none → p ∈ s.partsInRegion g →
    Answers (.routerFlit g port (true, ws)) s fun t => t.rd R.cfgPstatState p = psReset ∧
      Raises s t ⟨0x005, site (g / 8) (g % 8) 0 6 port, hubMaster, 0, 0, 0, s.now % 2 ^ 32⟩) ∧
  (∀ (s : State) (g port : Nat) (f : Flit), 8 ≤ (s.pkg.input (16 * g + port)).fifo.length →
    Answers (.routerFlit g port f) s fun t => t = s) ∧
  (∀ (s : State) (l : Nat) (f : DieFrame), s.pkg.linkDead l = false → (s.pkg.link l).early = [] → aget s.pkg.queued (arbLink l) = none →
    s.mayPass (arbLink l) 0 = true → goodFrame f = true → f.flits = [] → frameNumber f = (s.pkg.link l).next →
    Answers (.dieLinkFrame l f) s fun t => (t.pkg.link l).next = ((s.pkg.link l).next + 1) % 2 ^ 16 ∧
      (t.pkg.link l).replays = 0 ∧ t.faults = s.faults ∧ t.regs = s.regs ∧ t.mem = s.mem) ∧
  (∀ (s : State) (l : Nat) (f : DieFrame), s.pkg.linkDead l = false → s.mayPass (arbLink l) 0 = true → goodFrame f = false →
    f.flits.length ≤ 8 → (s.pkg.link l).replays < 3 →
    Answers (.dieLinkFrame l f) s fun t => (t.pkg.link l).next = (s.pkg.link l).next ∧
      (t.pkg.link l).replays = (s.pkg.link l).replays + 1 ∧ (t.pkg.link l).retired = false ∧ t.regs = s.regs ∧ t.mem = s.mem) ∧
  (∀ (s : State) (l : Nat) (f : DieFrame), s.pkg.linkDead l = false → s.mayPass (arbLink l) 0 = true → goodFrame f = false →
    f.flits.length ≤ 8 → (s.pkg.link l).replays = 3 →
    Answers (.dieLinkFrame l f) s fun t => (t.pkg.link l).retired = true ∧ t.pkg.linkDead l = true)

/-- Tier 2. Idle, Nap and Watch (R355 to R366): an idle island stops its clock and a crossing event starts it; a region whose conditions hold
enters Nap and a waking one returns; Watch is asked for, entered, sampled, kept alive and left as the tables say. -/
def Obligations.PowerStatesComplete : Prop :=
  (∀ (s : State) (d : Nat), Registers.wf s.regs = true → s.rd R.pwrDstatState d = 0 → s.quiet d = true →
    Answers (.islandIdle d) s fun t => t.rd R.pwrDstatState d = dsIdle ∧ t.power = s.power ∧ Keeps s t) ∧
  (∀ (s : State) (d : Nat), Registers.wf s.regs = true → s.rd R.pwrDstatState d = dsIdle →
    Answers (.islandWake d) s fun t => t.rd R.pwrDstatState d = 0 ∧ t.power = s.power ∧ Keeps s t) ∧
  (∀ (s : State) (g : Nat), Registers.wf s.regs = true → s.rd R.pwrModeMode (256 + g) = 1 → s.rd R.pwrDstatState (256 + g) = 0 →
    s.regionBlocker g = none →
    Answers (.regionNapEntry g) s fun t => t.rd R.pwrDstatState (256 + g) = dsNap ∧ t.power = s.power ∧ Keeps s t) ∧
  (∀ (s : State) (d : Nat), Registers.wf s.regs = true → d ∈ s.power.waking → 240 ≤ d →
    Answers (.napReturnComplete d) s fun t => t.rd R.pwrDstatState d = 0 ∧ d ∉ t.power.waking ∧ Keeps s t) ∧
  (∀ (s : State) (k : Nat), Registers.wf s.regs = true → s.power.watchAsked = some k → s.rd R.pwrStatModule 0 = msEntering →
    s.watchBlocker (4096, 0) = none →
    Answers (.watchEntry) s fun t => t.rd R.pwrStatModule 0 = msWatch ∧ t.mem.selfRefresh = true ∧ t.mem.cells = s.mem.cells ∧
      t.power.diesOn = false ∧ t.power.watchAsked = none ∧ t.host.linkL0 = false ∧ t.flash = s.flash ∧ t.parts = s.parts) ∧
  (∀ (s : State) (k : Nat) (b : Nat × Nat × Nat), Registers.wf s.regs = true → s.power.watchAsked = some k →
    s.rd R.pwrStatModule 0 = msEntering → s.watchBlocker (4096, 0) = some b →
    Answers (.watchEntry) s fun t => t.rd R.pwrStatModule 0 = msWaking ∧ t.power.watchAsked = none ∧ Keeps s t) ∧
  (∀ (s : State) (rs : List Reading) (n : Nat), Registers.wf s.regs = true → s.rd R.pwrStatModule 0 = msWatch →
    s.rd R.pwrWatchPeriod 0 ≠ 0 → s.now % (s.rd R.pwrWatchPeriod 0 * 10 ^ 6) = 0 → n < 16 → s.breached rs n = true →
    Answers (.watchSample rs) s fun t => t.rd R.pwrStatModule 0 = msWaking ∧ t.rd R.pwrWatchCause 0 = 1 ∧ Keeps s t) ∧
  (∀ (s : State), s.rd R.pwrStatModule 0 = msWatch →
    Answers (.watchHeartbeat) s fun t => t.faults.hbAt = some s.now ∧ t.regs = s.regs ∧ t.power = s.power ∧ Keeps s t) ∧
  (∀ (s : State) (l0 : Bool), Registers.wf s.regs = true → s.rd R.pwrStatModule 0 = msWatch →
    Answers (.watchWake [.doorbell] l0) s fun t => t.rd R.pwrStatModule 0 = msWaking ∧ t.rd R.pwrWatchCause 0 = 2 ∧
      t.power.coreStop = false ∧ t.host.linkL0 = l0 ∧ t.mem = s.mem ∧ t.clusters = s.clusters ∧ t.parts = s.parts) ∧
  (∀ (s : State), Registers.wf s.regs = true → s.rd R.pwrStatModule 0 = msWaking →
    Answers (.watchReturnComplete []) s fun t => t.rd R.pwrStatModule 0 = 0 ∧ t.rd R.pwrModeMode moduleDomain = 0 ∧
      t.mem.selfRefresh = false ∧ t.mem.cells = s.mem.cells ∧ t.power.diesOn = true ∧ t.power.opticsOn = true ∧ t.flash = s.flash) ∧
  (∀ (s : State), Registers.wf s.regs = true → s.rd R.pwrStatModule 0 = msWatch →
    Answers .bmcWakeCommand s fun t => t.rd R.pwrStatModule 0 = msWaking ∧ t.rd R.pwrWatchCause 0 = 4 ∧ Keeps s t) ∧
  (∀ (s : State), Registers.wf s.regs = true → s.moduleRun = true → s.watchBlocker (4096, 0) = none →
    Answers .bmcWatchCommand s fun t => t.rd R.pwrStatModule 0 = msEntering ∧ t.power.watchAsked = some 4096 ∧ Keeps s t) ∧
  (∀ (s : State) (c q : Nat) (r : Req), s.Holds (c, q) 0x38 r → r.inl 0 1 = 2 → s.watchBlocker (c, q) = none →
    Answers (.enterWatch c q) s fun t => Ends s t (c, q) stOk 0 0 ∧ t.power.watchAsked = some c ∧ t.clusters = s.clusters)

/-- Tier 2. Caps, the governor and the thermal levels (R367 to R376): each cap is set or cleared; a region's estimate is added to the window, and its
power shown, and no cluster's step changes while it is within its share; a tick sets the effective cap and K, clears the window and charges what no client has used to the overhead; a pending clock step is taken; HOLD begins, and ends a millisecond under the cap;
each thermal level is entered once. -/
def Obligations.GovernorCommandsComplete : Prop :=
  (∀ (s : State) (c q : Nat) (r : Req), Registers.wf s.regs = true → s.Holds (c, q) 0x38 r → r.inl 0 1 = 0 → r.inl 2 2 ≤ 3000 →
    Answers (.setCap c q) s fun t => Ends s t (c, q) stOk 0 0 ∧ t.rd R.pwrCapHost 0 = r.inl 2 2 ∧ t.clusters = s.clusters) ∧
  (∀ (s : State) (c q : Nat) (r : Req), Registers.wf s.regs = true → s.Holds (c, q) 0x38 r → r.inl 0 1 = 1 →
    Answers (.clearCap c q) s fun t => Ends s t (c, q) stOk 0 0 ∧ t.rd R.pwrCapHost 0 = 0 ∧ t.clusters = s.clusters) ∧
  (∀ (s : State) (w : Nat), Registers.wf s.regs = true → 1200 ≤ w → w ≤ 3000 →
    Answers (.bmcCap w) s fun t => t.rd R.pwrCapBmc 0 = w ∧ t.power = s.power ∧ Keeps s t) ∧
  (∀ (s : State) (w : Nat), 3000 < w → Answers (.bmcCap w) s fun t => t.regs = s.regs ∧ t.power = s.power ∧ Keeps s t) ∧
  (∀ (s : State) (g mw : Nat) (own : List (Nat × Nat)) (shared : List (Nat × Nat × Nat)) (temp : Int) (terms : List (Nat × Option Nat × Nat)),
    Registers.wf s.regs = true → terms = s.energyTerms g own shared temp →
    mw = total (terms.map fun x => x.2.2) * s.rd R.pwrEstK 0 / 2 ^ 14 / 10 →
    Answers (.regionEstimate g own shared temp) s fun t =>
      t.power.estimate = s.power.estimate + total (terms.map fun x => x.2.2) ∧
      (mw < 2 ^ 32 → t.rd R.pwrDestMw (estimateDomain g) = mw) ∧
      ((∀ x ∈ terms, x.2.1.bind s.workOf = none) → t.power.uses = s.power.uses) ∧
      ((∀ w, aget s.power.shares g = some w → mw ≤ w) → t.clusters = s.clusters ∧ t.faults = s.faults) ∧
      (∀ cl, t.cluster cl = s.cluster cl ∨ ∃ n, t.cluster cl = { s.cluster cl with stepPending := some n } ∧ s.rd R.pwrPolicyStepMin 0 ≤ n) ∧
      t.host = s.host ∧ t.mem = s.mem ∧ t.flash = s.flash ∧ t.parts = s.parts) ∧
  (∀ (s : State) (m : Nat) (hub : Int), Registers.wf s.regs = true → s.power.estimate = 0 → s.enabledParts = [] →
    s.rd R.pwrCapImg 0 ≤ 3000 → s.rd R.pwrCapHost 0 = 0 → s.rd R.pwrCapBmc 0 = 0 → m < 2 ^ 16 →
    Answers (.governorTick m [] hub) s fun t => t.rd R.pwrCapEffective 0 = s.rd R.pwrCapImg 0 ∧ t.rd R.pwrEstMeas 0 = m ∧
      t.rd R.pwrEstK 0 = s.rd R.pwrEstK 0 ∧ t.power.estimate = 0 ∧ t.power.plan = [] ∧
      (s.rd R.accOverheadUj 0 + 1000 * m < 2 ^ 64 → t.rd R.accOverheadUj 0 = s.rd R.accOverheadUj 0 + 1000 * m) ∧
      t.host = s.host ∧ t.mem = s.mem) ∧
  (∀ (s : State) (cl n : Nat) (i : Instr), Registers.wf s.regs = true → cl < 240 → n ≤ 14 → (s.cluster cl).stepPending = some n →
    (s.cluster cl).held = some i →
    Answers (.freqStepChange cl) s fun t => t.rd R.pwrDstatStep cl = n ∧ (t.cluster cl).stepPending = none ∧
      (t.cluster cl).held = some i ∧ (∀ j, j ≠ cl → t.cluster j = s.cluster j) ∧ t.mem = s.mem ∧ t.host = s.host) ∧
  (∀ (s : State), Registers.wf s.regs = true → s.rd R.pwrStatHold 0 ≠ 1 → s.enabledParts = [] →
    Answers .overPowerSignal s fun t => t.rd R.pwrStatHold 0 = 1 ∧ t.power.underSince = none ∧ t.host = s.host ∧ t.mem = s.mem) ∧
  (∀ (s : State) (u : Nat), Registers.wf s.regs = true → s.power.underSince = some u → s.rd R.pwrStatHold 0 = 1 → u + 10 ^ 6 ≤ s.now →
    s.rd R.pwrStatTherm 0 < 2 →
    Answers .holdEnd s fun t => t.rd R.pwrStatHold 0 = 0 ∧ t.power = s.power ∧ Keeps s t) ∧
  (∀ (s : State) (h : Int), Registers.wf s.regs = true → (s.rd R.pwrPolicyTThrottle 0 : Int) ≤ h → s.rd R.pwrStatTherm 0 = 0 →
    Answers (.thermThrottle h) s fun t => t.rd R.pwrStatTherm 0 = 1 ∧ t.power = s.power ∧ Keeps s t) ∧
  (∀ (s : State) (h : Int), Registers.wf s.regs = true → (s.rd R.pwrPolicyTHold 0 : Int) ≤ h → s.rd R.pwrStatTherm 0 < 2 →
    s.rd R.pwrStatHold 0 = 1 →
    Answers (.thermHold h) s fun t => t.rd R.pwrStatTherm 0 = 2 ∧ t.board.thermAlert = true ∧ t.rd R.pwrStatHold 0 = 1 ∧
      t.power = s.power ∧ Keeps s t) ∧
  (∀ (s : State) (h : Int) (cl : Nat), Registers.wf s.regs = true → (s.rd R.pwrPolicyTTrip 0 : Int) ≤ h → s.rd R.pwrStatTherm 0 < 3 →
    Answers (.thermTrip h) s fun t => t.rd R.pwrStatTherm 0 = 3 ∧ t.board.thermAlert = true ∧ t.power.diesOn = false ∧
      ((aget s.clusters cl).isSome → (t.cluster cl).stopped = true) ∧ t.mem = s.mem ∧ t.host = s.host)

/-- Tier 2. The fault collector, PULSE and the watchdogs (R380 to R391): a message is counted, and the first error is captured; the held
signal goes out; a retirement that waits resets its partition; PULSE toggles while healthy and stops otherwise; a late heartbeat is reported
once; a core that does not kick is restarted, and one that stays silent is retired, core 0 excepted; a rail fault powers the dies off. -/
def Obligations.FaultCommandsComplete : Prop :=
  (∀ (s : State) (site x : Nat), Registers.wf s.regs = true → s.faults.sent = [⟨0x1A3, site, 0x7FF, 0, 0, 0, x⟩] → site ∉ s.faults.overflowed →
    s.rd R.fltStatMessages 0 + 1 < 2 ^ 31 → s.rd R.fltCtlLogInfo 0 = 0 →
    Answers (.faultMessage ⟨0x1A3, site, 0x7FF, 0, 0, 0, x⟩) s fun t => t.faults.sent = [] ∧
      t.rd R.fltStatMessages 0 = s.rd R.fltStatMessages 0 + 1 ∧ t.rd R.fltFirstValid 0 = s.rd R.fltFirstValid 0 ∧ Keeps s t) ∧
  (∀ (s : State) (m : FaultMsg), Registers.wf s.regs = true → m = ⟨0x19B, hubSite 0 8, hubMaster, 0, 0, 0, m.time⟩ → s.faults.sent = [m] →
    m.site ∉ s.faults.overflowed → s.rd R.fltStatMessages 0 + 1 < 2 ^ 31 → s.rd R.fltCtlIrqEn 0 = 0 → s.rd R.fltFirstValid 0 = 0 →
    s.now < 2 ^ 64 →
    Answers (.faultMessage m) s fun t => t.rd R.fltStatMessages 0 = s.rd R.fltStatMessages 0 + 1 ∧ t.rd R.fltFirstValid 0 = 1 ∧
      t.rd R.fltFirstKind 0 = m.kind ∧ t.rd R.fltFirstSite 0 = m.site ∧ t.rd R.fltFirstMaster 0 = m.master ∧
      t.rd R.fltFirstTimeTime 0 = s.now ∧ t.rd R.fltFirstMore 0 = s.rd R.fltFirstMore 0 ∧
      (s.nor.eventLog.length < 245760 → t.nor.eventLog.length = s.nor.eventLog.length + 1) ∧ Keeps s t) ∧
  (∀ (s : State) (m : FaultMsg), Registers.wf s.regs = true → m = ⟨0x19B, hubSite 0 8, hubMaster, 0, 0, 0, m.time⟩ → s.faults.sent = [m] →
    m.site ∉ s.faults.overflowed → s.rd R.fltCtlIrqEn 0 = 0 → s.rd R.fltFirstValid 0 = 1 → s.rd R.fltFirstMore 0 < 127 →
    Answers (.faultMessage m) s fun t => t.rd R.fltFirstMore 0 = s.rd R.fltFirstMore 0 + 1 ∧
      t.rd R.fltFirstKind 0 = s.rd R.fltFirstKind 0 ∧ t.rd R.fltFirstSite 0 = s.rd R.fltFirstSite 0 ∧
      t.rd R.fltFirstTimeTime 0 = s.rd R.fltFirstTimeTime 0 ∧ Keeps s t) ∧
  (∀ (s : State) (u : Nat), s.rd R.fltCtlIrqEn 0 = 1 → s.faults.irqHeld = true → s.faults.lastIrq = some u → u + 100000 ≤ s.now →
    s.msixMasked 0 (s.rd R.fltCtlVector 0) = false →
    Answers .faultIrqCoalesce s fun t => t.host.irqs = s.host.irqs ++ [⟨0, s.rd R.fltCtlVector 0⟩] ∧ t.faults.irqHeld = false ∧
      t.faults.lastIrq = some s.now ∧ t.regs = s.regs ∧ t.mem = s.mem) ∧
  (∀ (s : State) (cl p u : Nat), Registers.wf s.regs = true → s.partOf cl = some p → s.faults.retirePending = [(cl, u)] →
    (s.part p).running = none → s.rd R.cfgPstatState p = psRun → s.partEn p = true → s.host.reqs = [] → s.tasks = [] → s.walks = [] →
    s.tables = [] → s.shards = [] → s.vocabs = [] → s.bags = [] →
    Answers (.clusterRetirementReset cl) s fun t => t.rd R.cfgPstatState p = psReset ∧ t.rd R.cfgPstatLastCause p = 7 ∧
      (t.part p).queue = [] ∧ (t.part p).resetAt = some s.now ∧ t.mem.cells = s.mem.cells) ∧
  (∀ (s : State), Registers.wf s.regs = true → s.now % 500000 = 0 → s.healthy = true →
    Answers .pulseToggle s fun t => t.faults.pulse = !s.faults.pulse ∧ t.rd R.fltPulseRunning 0 = 1 ∧ Keeps s t) ∧
  (∀ (s : State), Registers.wf s.regs = true → s.now % 500000 = 0 → s.healthy = false →
    Answers .pulseToggle s fun t => t.faults.pulse = s.faults.pulse ∧ t.rd R.fltPulseRunning 0 = 0 ∧ Keeps s t) ∧
  (∀ (s : State) (u : Nat), Registers.wf s.regs = true → s.faults.hbAt = some u → u + 10 ^ 7 < s.now → s.faults.hbLateSent = false →
    Answers .heartbeatLate s fun t => t.faults.hbLateSent = true ∧ t.rd R.fltPulseRunning 0 = 0 ∧
      (s.hasRoom (hubSite 0 8) → (⟨0x19B, hubSite 0 8, hubMaster, 0, 0, 0, s.now % 2 ^ 32⟩ : FaultMsg) ∈ t.faults.sent) ∧ Keeps s t) ∧
  (∀ (s : State) (k : Nat), s.watchdogOn k = true → k ∉ s.faults.coreRestarting →
    sget 0 s.faults.coreKick k + s.rd R.fltWdogTimeout 0 * 10 ^ 6 ≤ s.now → s.coreParts k = [] →
    Answers (.wdogCore k) s fun t => k ∈ t.faults.coreRestarting ∧ t.host = s.host ∧ t.mem = s.mem ∧ t.clusters = s.clusters) ∧
  (∀ (s : State), s.watchdogOn 0 = true → 0 ∈ s.faults.coreRestarting →
    sget 0 s.faults.coreRestartAt 0 + s.rd R.fltWdogTimeout 0 * 10 ^ 6 ≤ s.now →
    Answers (.watchdogSecondStage 0) s fun t =>
      (s.hasRoom (hubSite 0 8) → (⟨0x19A, hubSite 0 8, hubMaster, 0, 0, 0, s.now % 2 ^ 32⟩ : FaultMsg) ∈ t.faults.sent) ∧ t.regs = s.regs ∧ Keeps s t) ∧
  (∀ (s : State) (cl : Nat), (aget s.clusters cl).isSome = true →
    Answers .railFault s fun t => t.power.diesOn = false ∧ (t.cluster cl).stopped = true ∧
      (s.hasRoom (hubSite 0 10) → (⟨0x1A2, hubSite 0 10, hubMaster, 0, 0, 0, s.now % 2 ^ 32⟩ : FaultMsg) ∈ t.faults.sent) ∧
      t.regs = s.regs ∧ t.host = s.host ∧ t.mem = s.mem)

/-- Tier 2. Checking, the Windfall test and the planner (R392 to R405): equal signatures end a check; a vote that agrees with the owner ends it
with a message about the checker; a slice claims the cluster the controller picks and gives it back at its end; a plan that is due sets the
guardband; a ring-oscillator reading is kept, and a fall of more than 2% asks for an early plan. -/
def Obligations.HealthCommandsComplete : Prop :=
  (∀ (s : State) (p : Nat) (k : Check) (rs : List StepRow), Registers.wf s.regs = true → (s.part p).running = some rs →
    s.partClusters p = [] → (s.part p).checks = [k] → k.done = false → s.health.votes = [] →
    sget 0 (s.cluster k.owner).sigs k.pair = sget 0 (s.cluster k.checker).checkSigs k.slot →
    Answers (.checkCompare p) s fun t => (t.part p).checks = [{ k with done := true }] ∧
      (t.part p).poisonPending = (s.part p).poisonPending ∧ t.health.votes = [] ∧ t.host = s.host ∧ t.mem = s.mem) ∧
  (∀ (s : State) (p q : Nat) (k : Check), s.health.votes = [⟨p, k.pair, q⟩] → (s.part p).checks = [k] →
    s.rd R.wftCstatClaimed q ≠ 1 →
    Answers (.checkVoteDone p k.pair (sget 0 (s.cluster k.owner).sigs k.pair)) s fun t => t.health.votes = [] ∧
      (t.part p).checks = [{ k with done := true }] ∧ (t.part p).poisonPending = (s.part p).poisonPending ∧
      (s.hasRoom (s.checkSite k.checker) → (⟨0x180, s.checkSite k.checker, 0x7F0, 0, 6, 0, s.now % 2 ^ 32⟩ : FaultMsg) ∈ t.faults.sent) ∧
      t.regs = s.regs ∧ t.host = s.host ∧ t.mem = s.mem) ∧
  (∀ (s : State) (q : Nat), Registers.wf s.regs = true → q < 256 → s.health.claimAt = [] → s.windfallPick = some q →
    (s.logicalOf q).bind s.partOf = none →
    Answers (.windfallSlice q []) s fun t => t.rd R.wftCstatClaimed q = 1 ∧ sget 0 t.health.claimAt q = s.now + 1 ∧ Keeps s t) ∧
  (∀ (s : State) (q u : Nat), Registers.wf s.regs = true → q < 256 → s.health.claimAt = [(q, u + 1)] →
    (s.logicalOf q).bind s.partOf = none →
    Answers (.windfallSliceEnd q) s fun t => t.rd R.wftCstatClaimed q = 0 ∧ t.health.claimAt = [] ∧ Keeps s t) ∧
  (∀ (s : State) (q v g : Nat) (osc : Int), Registers.wf s.regs = true → q < 256 → q ∈ s.health.early → sget 0 s.health.claimAt q ≠ 0 →
    bitOf (s.rd R.cfgGoodMask (q / 64)) (q % 64) = true → s.unitRetired (physSite q) 0 = false →
    g = newGuard v (s.rd R.ageCfgMargin 0) (Config.vBase q (s.rd R.ageCstatStepCeil q)) (s.rd R.ageCstatGuardband q) →
    5 * g ≤ 2 * s.rd R.ageCfgGbMax 0 → g < 256 →
    Answers (.marginPlan q [v] osc) s fun t => t.rd R.ageCstatGuardband q = g ∧ t.rd R.ageCstatRoDrift q = 0 ∧
      t.rd R.ageCstatStepCeil q = s.rd R.ageCstatStepCeil q ∧ q ∉ t.health.early ∧ t.host = s.host ∧ t.mem = s.mem ∧
      t.clusters = s.clusters ∧ t.parts = s.parts) ∧
  (∀ (s : State) (q : Nat) (d : Int), Registers.wf s.regs = true → -128 ≤ d → d < 128 → q ∉ s.health.early →
    Answers (.ringOscReading q d) s fun t => t.rd R.ageCstatRoDrift q = (d % 256).toNat ∧
      t.health.early = (if d < -20 then s.health.early ++ [q] else s.health.early) ∧ Keeps s t)

/-- Tier 2. The tray, resets and power (R333, R346, R350, R425, R441 to R444, R446): LOCATE, the I3C address and WAKE_N follow their commands; a
partition reset ends the partition's work and stops its clusters, and its end leaves RUN or UNAVAILABLE; a module reset clears memory,
clusters and partitions, keeps the NOR, and starts start-up where power and PERST_N are there; loss of the input turns the module off. -/
def Obligations.BoardAndResetCommandsComplete : Prop :=
  (∀ (s : State) (on : Bool), Answers (.locateCommand on) s fun t => t = { s with board := { s.board with locate := on } }) ∧
  (∀ (s : State) (a : Nat), s.board.off = false →
    Answers (.i3cDynamicAddress a) s fun t => t = { s with board := { s.board with i3cAddr := some a } }) ∧
  (∀ (s : State) (u : Nat), s.board.wakeN = some u →
    Answers (.wakeNRelease .linkL0) s fun t => t.board.wakeN = none ∧ t.host.linkL0 = true ∧ t.regs = s.regs ∧ t.mem = s.mem) ∧
  (∀ (s : State) (u : Nat), s.board.wakeN = some u → 10 ^ 9 ≤ s.now - u →
    Answers (.wakeNRelease .oneSecond) s fun t => t.board.wakeN = none ∧ t.host = s.host ∧ t.regs = s.regs ∧ t.mem = s.mem) ∧
  (∀ (s : State) (p cause : Nat), Registers.wf s.regs = true → p < 64 → cause < 16 → s.partEn p = true → s.rd R.cfgPstatState p ≠ psReset →
    Answers (.partitionReset p cause) s fun t => t.rd R.cfgPstatState p = psReset ∧ t.rd R.cfgPstatLastCause p = cause ∧
      (t.part p).queue = [] ∧ (t.part p).running = none ∧ (t.part p).resetAt = some s.now ∧
      (∀ cl ∈ s.partClusters p, (t.cluster cl).stopped = true ∧ (t.cluster cl).counters = [] ∧ (t.cluster cl).xfers = []) ∧
      (∀ q, q ≠ p → (s.part q).queue = [] → t.part q = s.part q) ∧
      (∀ r, s.reqsOf p = [r] → s.Holds (r.client, r.id) r.opcode r → (∀ g ∈ s.gens, (g.client, g.req) ≠ (r.client, r.id)) → Ends s t (r.client, r.id) stPartitionReset r.delivered 0)) ∧
  (∀ (s : State) (p u : Nat), Registers.wf s.regs = true → p < 64 → s.rd R.cfgPstatState p = psReset → (s.part p).resetAt = some u →
    s.faults.retirePending = [] →
    Answers (.partitionResetDone p) s fun t => (t.rd R.cfgPstatState p = psRun ∨ t.rd R.cfgPstatState p = psUnavailable) ∧
      (s.faults.retiredUnits = [] → t.rd R.cfgPstatState p = psRun) ∧
      (t.part p).resetAt = none ∧ (t.part p).queue = (s.part p).queue ∧ (∀ q, q ≠ p → t.part q = s.part q) ∧ t.host = s.host) ∧
  (∀ (s : State) (cause : Nat), cause < 8 → s.boot.running = false → s.board.perstHigh = true → s.board.pwrGood = true →
    Answers (.moduleReset cause) s fun t => t.rd R.cfgResetCause 0 = cause ∧ t.rd R.hstStatState 0 = 0 ∧ t.boot.running = true ∧
      t.boot.refAt = some 0 ∧ t.now = 0 ∧ t.nor = s.nor ∧ t.mem = State.reset.mem ∧ t.clusters = [] ∧ t.parts = [] ∧
      t.host.reqs = [] ∧ t.host.rings = [] ∧ t.flash.map = s.flash.map) ∧
  (∀ (s : State), s.boot.running = false → s.board.perstHigh = true → s.board.pwrGood = true →
    Answers .bmcResetCommand s fun t => t.rd R.cfgResetCause 0 = 4 ∧ t.boot.running = true ∧ t.nor = s.nor ∧ t.parts = [] ∧
      t.host.reqs = []) ∧
  (∀ (s : State), s.board.pwrGood = true →
    Answers .perstNAssert s fun t => t.board.perstHigh = false ∧ t.rd R.cfgResetCause 0 = 1 ∧ t.boot.running = false ∧ t.nor = s.nor ∧
      t.parts = [] ∧ t.host.reqs = []) ∧
  (∀ (s : State), s.board.pwrGood = true → s.boot.running = false → s.rd R.hstStatState 0 = 0 → s.rd R.cfgBootStage 0 = 0 →
    Answers .perstNRelease s fun t => t.board.perstHigh = true ∧ t.boot.running = true ∧ t.boot.refAt = some s.now ∧ t.regs = s.regs ∧
      Keeps s t) ∧
  (∀ (s : State), s.board.pwrGood = false →
    Answers .pwrGoodRise s fun t => t.board.pwrGood = true ∧ t.board.off = false ∧ t.rd R.cfgResetCause 0 = 0 ∧
      t.boot.running = s.board.perstHigh ∧ t.nor = s.nor ∧ t.parts = []) ∧
  (∀ (s : State), Answers .inputPowerLoss s fun t => t.board.off = true ∧ t.board.pwrGood = false ∧ t.host.linkL0 = false ∧
    t.nor = s.nor ∧ t.mem = State.reset.mem ∧ t.flash.map = s.flash.map ∧ t.clusters = [] ∧ t.parts = [] ∧ t.host.reqs = [])

/-- Tier 2. Start-up (R346 to R349): while it runs, rows 1, 8, 12 and 14 of Table BOOT-7 end as stated, row 4 takes the boot header, row 6 the
link, row 16 a test without failures, and row 18 makes the module READY; a failed stage and 9.5 s without READY end in FAILED with their
reasons, and a master that gives no time within 2 s leaves the module READY without it. -/
def Obligations.StartUpCommandsComplete : Prop :=
  (∀ (s : State) (n : Nat), Registers.wf s.regs = true → s.boot.running = true → n ∈ [1, 8] → s.rd R.cfgBootStage 0 + 1 = n →
    Answers (.startupStageDone .done) s fun t => t.rd R.cfgBootStage 0 = n ∧ t.boot = s.boot ∧ Keeps s t) ∧
  (∀ (s : State) (q f c : Nat), Registers.wf s.regs = true → s.boot.running = true → s.rd R.cfgBootStage 0 = 3 →
    Answers (.startupStageDone (.bootHeader true q f c)) s fun t => t.rd R.cfgBootStage 0 = 4 ∧
      t.nor = { s.nor with bootSeq := q, fwActive := f, cfgActive := c } ∧ t.boot = s.boot ∧ Keeps s t) ∧
  (∀ (s : State) (q f c : Nat), Registers.wf s.regs = true → s.boot.running = true → s.rd R.cfgBootStage 0 = 3 →
    Answers (.startupStageDone (.bootHeader false q f c)) s fun t => t.rd R.hstStatState 0 = hsFailed ∧
      t.rd R.hstStatFailReason 0 = 0x0B ∧ t.rd R.cfgBootLocked 0 = 1 ∧ t.rd R.cfgBootStage 0 = 3 ∧ t.boot.running = false ∧
      t.power.diesOn = false ∧ t.mem = s.mem ∧ t.host = s.host) ∧
  (∀ (s : State) (g w : Nat), Registers.wf s.regs = true → s.boot.running = true → s.rd R.cfgBootStage 0 = 5 → g < 8 → w < 16 →
    Answers (.startupStageDone (.link g w)) s fun t => t.rd R.cfgBootStage 0 = 6 ∧ t.host.linkL0 = true ∧ t.rd R.hstStatGen 0 = g ∧
      t.rd R.hstStatWidth 0 = w ∧ t.mem = s.mem ∧ t.clusters = s.clusters) ∧
  (∀ (s : State), Registers.wf s.regs = true → s.boot.running = true → s.rd R.cfgBootStage 0 = 11 →
    Answers (.startupStageDone .done) s fun t => t.rd R.cfgBootStage 0 = 12 ∧ t.boot.portsUpAt = some s.now ∧ Keeps s t) ∧
  (∀ (s : State), Registers.wf s.regs = true → s.boot.running = true → s.rd R.cfgBootStage 0 = 13 →
    Answers (.startupStageDone .done) s fun t => t.rd R.cfgBootStage 0 = 14 ∧ t.mem.cells = [] ∧ t.host = s.host ∧ t.flash = s.flash) ∧
  (∀ (s : State), Registers.wf s.regs = true → s.boot.running = true → s.rd R.cfgBootStage 0 = 15 →
    Answers (.startupStageDone (.selfTest [] true)) s fun t => t.rd R.cfgBootStage 0 = 16 ∧ t.faults = s.faults ∧ Keeps s t) ∧
  (∀ (s : State), Registers.wf s.regs = true → s.boot.running = true → s.rd R.cfgBootStage 0 = 17 →
    Answers (.startupStageDone .done) s fun t => t.rd R.cfgBootStage 0 = 18 ∧ t.rd R.hstStatState 0 = hsReady ∧ t.boot.running = false ∧
      t.host.answers = s.host.answers ++ [.readyMessage] ∧
      (∀ p ∈ s.enabledParts, ∀ cl ∈ s.partClusters p, (t.cluster cl).stopped = false) ∧ t.mem = s.mem) ∧
  (∀ (s : State) (reason : Nat), Registers.wf s.regs = true → s.boot.running = true → reason < 256 →
    Answers (.startupFailure reason) s fun t => t.rd R.hstStatState 0 = hsFailed ∧ t.rd R.hstStatFailReason 0 = reason ∧
      t.rd R.cfgBootLocked 0 = 1 ∧ t.boot.running = false ∧ t.power.diesOn = false ∧ t.mem = s.mem ∧ t.host = s.host) ∧
  (∀ (s : State) (u : Nat), Registers.wf s.regs = true → s.boot.running = true → s.boot.refAt = some u → 95 * 10 ^ 8 ≤ s.now - u →
    Answers .startupTimeout s fun t => t.rd R.hstStatState 0 = hsFailed ∧ t.rd R.hstStatFailReason 0 = 0x0C ∧ t.boot.running = false ∧
      t.mem = s.mem ∧ t.host = s.host) ∧
  (∀ (s : State) (u : Nat), Registers.wf s.regs = true → s.boot.running = true → s.rd R.cfgBootStage 0 = 16 →
    s.rd R.timCfgMaster 0 ≠ s.rd R.optCfgModuleId 0 → s.boot.portsUpAt = some u → 2 * 10 ^ 9 ≤ s.now - u → s.hasRoom (portSite 0) →
    Answers .startupTimeWaitExpire s fun t => t.rd R.hstStatState 0 = hsReady ∧ t.rd R.timStatState 0 = 0 ∧ t.rd R.cfgBootStage 0 = 18 ∧
      (⟨0x08A, portSite 0, portMaster 0, 0, 5, 0, s.now % 2 ^ 32⟩ : FaultMsg) ∈ t.faults.sent ∧ t.mem = s.mem)

/-- Tier 2. Frames and messages (R271 to R275, R279, R280, R330): unacknowledged frames are sent again as they were; a good frame adds its credits, the next one
in order delivers its messages, and a bad one asks for a replay; a gap that lasts is reported; a message in transit is forwarded with one hop
less, or dropped at none; remote reads and writes of opened words answer and store them; read answers and usage reports are taken. -/
def Obligations.FabricMessagesComplete : Prop :=
  (∀ (s : State) (p : Nat), s.portCarries p = true → (s.port p).replay ≠ [] → (s.port p).ackAt + 20000 ≤ s.now →
    (∀ f ∈ (s.port p).replay, f.words.length < frameWords (decide ((s.txLanes p).length < 8))) →
    Answers (.replayTimeout p) s fun t => (t.port p).sent.length = (s.port p).sent.length + (s.port p).replay.length ∧
      (∀ i f, (s.port p).replay[i]? = some f → ∃ ctl : LinkWord, ctl.number = f.number ∧ ctl.empty = false ∧
        (t.port p).sent[(s.port p).sent.length + i]? = some (frameOf (s.txLanes p) f.number (encodeWord (leBytes 16 ctl.bits) :: f.words))) ∧
      (t.port p).replay = (s.port p).replay ∧ (t.port p).ackAt = s.now ∧ Keeps s t) ∧
  (∀ (s : State) (p : Nat) (f : Frame) (l : LinkWord) (ws : List (List Byte × Bool)), Registers.wf s.regs = true → p < 16 →
    s.portCarries p = true → readFrame f = .good l ws → l.empty = true → l.hoLock = false → l.nak = false → l.dark = false → l.lanesTx < 256 →
    (s.port p).queue = [] → swf 0 (s.port p).fbErr = true →
    Answers (.fabricFrameReceive p f) s fun t => t.rd R.optPstatLanesRx p = l.lanesTx ∧
      (t.port p).credits = (List.range 4).map (fun v => (s.port p).credits.getD v 0 + l.credit.getD v 0) ∧
      sget 0 (t.port p).fbErr l.fbLane = l.fbErr ∧ (t.port p).rxNext = (s.port p).rxNext ∧ t.fab.inbox = s.fab.inbox ∧ Keeps s t) ∧
  (∀ (s : State) (p : Nat) (f : Frame) (l : LinkWord) (ws : List (List Byte × Bool)) (m : FabMsg), Registers.wf s.regs = true → p < 16 →
    s.portCarries p = true → readFrame f = .good l ws → l.empty = false → l.hoLock = false → l.nak = false → l.dark = false →
    (s.port p).rxPart = [] → takeMsgs ws.length ws = ([m], []) → l.number = (s.port p).rxNext →
    (s.port p).queue = [] → m.kind = 3 → m.dst = s.rd R.optCfgModuleId 0 → m.seq = sget 0 s.fab.expect (streamKey m) →
    s.fab.early = [] →
    Answers (.fabricFrameReceive p f) s fun t => t.fab.inbox = s.fab.inbox ++ [(p + 1, m)] ∧
      (t.port p).rxNext = ((s.port p).rxNext + 1) % 2 ^ 16 ∧ (t.port p).nak = false ∧ Keeps s t) ∧
  (∀ (s : State) (p : Nat) (f : Frame) (lane n : Option Nat), s.portCarries p = true → readFrame f = .bad lane n → (s.port p).nak = false →
    (s.port p).failures = 0 →
    Answers (.fabricFrameReceive p f) s fun t => (t.port p).nak = true ∧ (t.port p).failures = 1 ∧
      (t.port p).rxNext = (s.port p).rxNext ∧ t.fab.inbox = s.fab.inbox ∧ Keeps s t) ∧
  (∀ (s : State) (src master stream u p : Nat), s.fab.gaps = [⟨src, master, stream, u⟩] → u + 1000 * s.rd R.optCfgGapUs 0 ≤ s.now →
    s.fab.early = [] → s.route src = some p →
    Answers (.seqGapTimeout src master stream) s fun t => t.fab.gaps = [] ∧
      Raises s t ⟨0x088, portSite p, portMaster p, 0, 4, 0, s.now % 2 ^ 32⟩ ∧ t.regs = s.regs ∧ Keeps s t) ∧
  (∀ (s : State) (m : FabMsg) (i p : Nat), Registers.wf s.regs = true → s.fab.inbox = [(i + 1, m)] → i < 16 → m.dst ≠ s.rd R.optCfgModuleId 0 →
    0 < m.hops → m.kind ≠ 10 → s.route m.dst = some p →
    Answers (.transitMessage m) s fun t => t.fab.inbox = [] ∧ t.Carries p { m with hops := m.hops - 1 } ∧ SameRegs laneKeys s t ∧ Keeps s t) ∧
  (∀ (s : State) (m : FabMsg) (i : Nat), Registers.wf s.regs = true → s.fab.inbox = [(i + 1, m)] → i < 16 → m.dst ≠ s.rd R.optCfgModuleId 0 →
    m.hops = 0 → m.src ≠ s.rd R.optCfgModuleId 0 →
    Answers (.transitMessage m) s fun t => t.fab.inbox = [] ∧ Raises s t ⟨0x087, portSite i, portMaster i, 0, 4, 0, s.now % 2 ^ 32⟩ ∧ SameRegs laneKeys s t ∧
      Keeps s t) ∧
  (∀ (s : State) (m : FabMsg) (p : Nat) (b : List Byte), s.fab.inbox = [] → bitsOf (fabWord m 0) 63 48 = 0 → fabWord m 0 % 16 = 0 →
    s.openedTo m.src (fabWord m 0 % 2 ^ 48) 16 = true → s.route m.src = some p → b.length = 16 → Registers.wf s.regs = true →
    (∀ detect, decodeWord detect (wordAt s.mem.cells (s.devWord (fabWord m 0 % 2 ^ 48))) = .word b none) →
    Answers (.readReq m) s fun t =>
      (∃ x : FabMsg, t.Carries p x ∧ x.kind = 3 ∧ x.dst = m.src ∧ x.request = m.request ∧
        x.payload = [BitVec.ofNat 128 (leNat b)] ∧ x.poison = []) ∧ SameRegs laneKeys s t ∧ t.mem.cells = s.mem.cells ∧
      Keeps s { t with mem := s.mem }) ∧
  (∀ (s : State) (m : FabMsg), s.openedTo m.src (fabWord m 0 % 2 ^ 48) (16 * (bitsOf (fabWord m 0) 63 48 + 1)) = false →
    s.openedSram m.src (fabWord m 0 % 2 ^ 48) (16 * (bitsOf (fabWord m 0) 63 48 + 1)) = false →
    Answers (.readReq m) s fun t => Raises s t ⟨0x002, hubSite 4 0, m.master, fabWord m 0 % 2 ^ 48, 1, 0, s.now % 2 ^ 32⟩ ∧
      (Registers.wf s.regs = true → s.fab.inbox = [] → SameRegs laneKeys s t) ∧ Keeps s t) ∧
  (∀ (s : State) (m : FabMsg), Answers (.readRsp m) s fun t => t.fab.readData = s.fab.readData ++ [m] ∧
    (s.fab.inbox = [] → t.regs = s.regs) ∧ Keeps s t) ∧
  (∀ (s : State) (m : FabMsg) (d : BitVec 128), Memory.wf s.mem.cells = true → m.payload.drop 1 = [d] → m.poison = [] →
    s.openedTo m.src (fabWord m 0 % 2 ^ 48) 16 = true → fabWord m 0 % 16 = 0 →
    Answers (.write m) s fun t => t.readDev (fabWord m 0 % 2 ^ 48) 16 = (leBytes 16 d.toNat, false) ∧
      (∀ w, w ≠ s.devWord (fabWord m 0 % 2 ^ 48) → wordAt t.mem.cells w = wordAt s.mem.cells w) ∧
      (s.fab.inbox = [] → t.regs = s.regs) ∧ t.host = s.host ∧ t.flash = s.flash) ∧
  (∀ (s : State) (m : FabMsg) (d : BitVec 128) (a : Nat), Memory.wf s.pkg.hubSram = true → m.payload.drop 1 = [d] → m.poison = [] →
    a = fabWord m 0 % 2 ^ 48 → s.openedSram m.src a 16 = true →
    Answers (.write m) s fun t => wordAt t.pkg.hubSram ((a - hubSramBase) / 16) = encodeWord (leBytes 16 d.toNat) ∧
      (∀ w, w ≠ (a - hubSramBase) / 16 → wordAt t.pkg.hubSram w = wordAt s.pkg.hubSram w) ∧ t.mem = s.mem ∧ t.host = s.host) ∧
  (∀ (s : State) (m : FabMsg), fabWord m 0 % 2 ^ 16 = 0x5553 →
    Answers (.usageReport m) s fun t =>
      (∀ a, a = (aget s.accts (bitsOf (fabWord m 0) 27 16)).getD Acct.zero →
        aget t.accts (bitsOf (fabWord m 0) 27 16) = some { a with
          remoteNs := a.remoteNs + fabWord m 1 % 2 ^ 64, remoteUj := a.remoteUj + fabWord m 1 / 2 ^ 64,
          remoteBytes := a.remoteBytes + fabWord m 2 % 2 ^ 64 }) ∧ (s.fab.inbox = [] → t.regs = s.regs) ∧ Keeps s t)

/-- Tier 2. Ports (R276, R281 to R285): training with every lane locked brings a port UP, or isolates it where the hello word names another
system; a DOWN port trains again after 10 s, and at once when light returns after DARK; loss of lock retires it; a lane's hand-over starts,
ends with lock or is tried again; lock held sets HO_LOCK; tracking moves each setting of a lane with errors by at most one step. -/
def Obligations.FabricPortsComplete : Prop :=
  (∀ (s : State) (p : Nat) (h : BitVec 128) (cs : List Nat), Registers.wf s.regs = true → p < 16 → p < s.portCount →
    s.power.opticsOn = true → s.portState p = opTrain → s.rd R.optPstatRetiredLanes p = 0 → helloRetired h = 0 →
    helloSystem h = s.rd R.optSysSystem 0 → helloId h ≠ s.rd R.optCfgModuleId 0 → (s.port p).queue = [] → (s.port p).unacked = [] →
    Answers (.portTraining p 255 h cs) s fun t => t.portState p = opUp ∧ (t.port p).rxNext = 0 ∧ (t.port p).txNext = 0 ∧
      (t.port p).credits = (List.range 4).map (fun v => cs.getD v 0) ∧ t.rd R.optPstatPeerId p = helloId h ∧
      (t.port p).hello = helloWord (s.rd R.optCfgModuleId 0) p (s.rd R.optSysSystem 0) 0 ∧ Keeps s t) ∧
  (∀ (s : State) (p : Nat) (h : BitVec 128) (cs : List Nat), Registers.wf s.regs = true → p < 16 → p < s.portCount →
    s.power.opticsOn = true → s.portState p = opTrain → s.rd R.optPstatRetiredLanes p = 0 → helloSystem h ≠ s.rd R.optSysSystem 0 →
    Answers (.portTraining p 255 h cs) s fun t => t.portState p = opIsolated ∧
      Raises s t ⟨0x086, portSite p, portMaster p, 0, 4, 0, s.now % 2 ^ 32⟩ ∧ Keeps s t) ∧
  (∀ (s : State) (p : Nat), Registers.wf s.regs = true → p < 16 → p < s.portCount → s.power.opticsOn = true → s.portState p = opDown →
    (s.port p).dark = false → (s.port p).downAt + 10 ^ 10 ≤ s.now →
    Answers (.portTrainRetry p) s fun t => t.portState p = opTrain ∧ t.fab = s.fab ∧ Keeps s t) ∧
  (∀ (s : State) (p : Nat), Registers.wf s.regs = true → p < 16 → s.portCarries p = true → (s.port p).dark = false →
    (s.port p).queue = [] → (s.port p).unacked = [] →
    Answers (.portLossOfLock p) s fun t => t.portState p = opRetired ∧ Raises s t ⟨0x084, portSite p, portMaster p, 0, 5, 2, s.now % 2 ^ 32⟩ ∧ Keeps s t) ∧
  (∀ (s : State) (p : Nat), Registers.wf s.regs = true → p < 16 → s.power.opticsOn = true → s.portState p = opDown → (s.port p).dark = true →
    Answers (.lightReturn p) s fun t => t.portState p = opTrain ∧ (t.port p).dark = false ∧ Keeps s t) ∧
  (∀ (s : State) (p l : Nat), Registers.wf s.regs = true → p < 16 → l < 8 → s.badLanes p = 0 → l ∈ (s.port p).hoAsk →
    s.portState p = opUp →
    Answers (.handoverStart p l) s fun t => t.portState p = opHandover ∧ (t.port p).handover = some (l, s.now) ∧
      t.rd R.optLstatState (laneKey p l) = 3 ∧ Keeps s t) ∧
  (∀ (s : State) (p l u : Nat), Registers.wf s.regs = true → p < 16 → l < 8 → s.portState p = opHandover →
    (s.port p).handover = some (l, u) → s.badLanes p = 0 →
    Answers (.hoLock p l) s fun t => t.portState p = opUp ∧ (t.port p).handover = none ∧ t.rd R.optLstatState (laneKey p l) = 2 ∧
      t.rd R.optLstatBias (laneKey p l) = 0 ∧ Raises s t ⟨0x081, portSite p, portMaster p, l, 5, 1, s.now % 2 ^ 32⟩ ∧ Keeps s t) ∧
  (∀ (s : State) (p l u : Nat), s.portState p = opHandover → (s.port p).handover = some (l, u) → u + 2 * 10 ^ 7 ≤ s.now →
    sget 0 (s.port p).hoFails l = 0 →
    Answers (.handoverTimeout p l) s fun t => (t.port p).handover = some (l, s.now) ∧
      Raises s t ⟨0x081, portSite p, portMaster p, l, 5, 0, s.now % 2 ^ 32⟩ ∧ t.regs = s.regs ∧ Keeps s t) ∧
  (∀ (s : State) (p l : Nat), Registers.wf s.regs = true → s.portCarries p = true → (s.port p).peerLane = some l →
    Answers (.laneLockHeld p l) s fun t => (t.port p).hoLockSet = some l ∧ l ∉ (t.port p).hoReqSet ∧
      t.rd R.optLstatRingRx (laneKey p l) = 0 ∧ Keeps s t) ∧
  (∀ (s : State) (p l err : Nat) (bias tx rx : Int), Registers.wf s.regs = true → p < 16 → l < 8 → s.portCarries p = true →
    s.rd R.optLstatState (laneKey p l) = 2 →
    Answers (.laneTrackingStep p l bias tx rx err) s fun t =>
      t.rd R.optLstatBias (laneKey p l) = codeOfInt 8 (trackMove (signedOf 8 (s.rd R.optLstatBias (laneKey p l)))
        (if sget 0 (s.port p).fbErr l = 0 then 0 else bias)).1 ∧
      t.rd R.optLstatRingTx (laneKey p l) = codeOfInt 8 (trackMove (signedOf 8 (s.rd R.optLstatRingTx (laneKey p l)))
        (if sget 0 (s.port p).fbErr l = 0 then 0 else tx)).1 ∧
      t.rd R.optLstatRingRx (laneKey p l) = codeOfInt 8 (trackMove (signedOf 8 (s.rd R.optLstatRingRx (laneKey p l)))
        (if err = 0 then 0 else rx)).1 ∧
      t.rd R.optLstatSymErr (laneKey p l) = Nat.min err (2 ^ 24 - 1) ∧ Keeps s t)

/-- Tier 2. Census, frequency agreement and device time (R278, R288 to R290): the master notes a module's census; an answer that agrees ends the
wait and one that does not isolates the module, as silence does; an entry is forgotten after 30 s; a period opens with the module's own grant,
the lead collects grants and decides, a member takes the lead's result, and the step takes effect in time; a TIME exchange is sent and its
answer, or PTM, sets the rate. -/
def Obligations.FabricAgreementComplete : Prop :=
  (∀ (s : State) (src serial : Nat), s.isMaster = true → serial ≠ 0 → s.fab.inbox = [] → aget s.fab.census src = none →
    src ≠ s.rd R.optCfgModuleId 0 →
    Answers (.census src serial) s fun t => aget t.fab.census src = some ⟨serial, s.now, none⟩ ∧
      (Registers.wf s.regs = true → SameRegs laneKeys s t) ∧ Keeps s t) ∧
  (∀ (s : State) (serial : Nat), serial ≠ 0 → serial = s.rd R.hstIdSerialSerial 0 →
    Answers (.censusAnswer serial) s fun t => t.fab.censusWait = false ∧ t.fab.isolated = s.fab.isolated ∧
      (s.fab.inbox = [] → t.regs = s.regs) ∧ Keeps s t) ∧
  (∀ (s : State), Registers.wf s.regs = true → Answers (.censusAnswer 0) s fun t => t.fab.isolated = true ∧ t.rd R.optStatDupId 0 = 1 ∧
    t.fab.censusWait = false ∧ Keeps s t) ∧
  (∀ (s : State), s.fab.isolated = false → s.fab.censusAt = none → s.power.opticsOn = true → s.isMaster = false →
    s.unreachable (s.rd R.timCfgMaster 0) = false →
    Answers .censusSend s fun t => t.fab.censusAt = some s.now ∧ t.fab.censusWait = true ∧
      (Registers.wf s.regs = true → SameRegs laneKeys s t) ∧ Keeps s t) ∧
  (∀ (s : State), s.fab.isolated = false → s.fab.censusAt = none → s.power.opticsOn = true → s.isMaster = false →
    s.unreachable (s.rd R.timCfgMaster 0) = true →
    Answers .censusSend s fun t => t.fab.censusAt = some s.now ∧ t.fab.censusWait = s.fab.censusWait ∧
      Raises s t ⟨0x08A, portSite 0, portMaster 0, 0, 5, 0, s.now % 2 ^ 32⟩ ∧ t.regs = s.regs ∧ Keeps s t) ∧
  (∀ (s : State) (u : Nat), Registers.wf s.regs = true → s.fab.censusWait = true → s.unreachable (s.rd R.timCfgMaster 0) = false →
    s.fab.censusAt = some u → u + 10 ^ 9 ≤ s.now →
    Answers .censusAnswerTimeout s fun t => t.fab.isolated = true ∧ t.rd R.optStatDupId 0 = 1 ∧ Keeps s t) ∧
  (∀ (s : State) (m : Nat) (e : CensusEntry), aget s.fab.census m = some e → e.at_ + 3 * 10 ^ 10 ≤ s.now →
    Answers (.censusForget m) s fun t => aget t.fab.census m = none ∧ t.regs = s.regs ∧ Keeps s t) ∧
  (∀ (s : State), s.rd R.optCfgJob 0 ≠ 0 → s.freqNs ≠ 0 → s.now / s.freqNs ≠ s.fab.period →
    Answers .freqPeriod s fun t => t.fab.period = s.now / s.freqNs ∧ t.fab.ownGrant = s.grant ∧
      t.fab.grants = [(s.rd R.optCfgModuleId 0, s.grant)] ∧ t.fab.decided = false ∧ Keeps s t) ∧
  (∀ (s : State) (m : FabMsg), s.fab.inbox = [] → s.rd R.optCfgJob 0 ≠ 0 → s.isLead = true → s.fab.decided = false →
    bitsOf (fabWord m 0) 63 32 = s.fab.period % 2 ^ 32 →
    Answers (.freq m) s fun t => (m.src, fabWord m 0 % 16) ∈ t.fab.grants ∧ m.src ∈ t.fab.members ∧ t.regs = s.regs ∧ Keeps s t) ∧
  (∀ (s : State) (m : FabMsg), s.fab.inbox = [] → s.rd R.optCfgJob 0 ≠ 0 → s.isLead = false → m.src = s.rd R.optCfgJobLead 0 →
    Answers (.freq m) s fun t =>
      t.fab.result = some (fabWord m 0 % 16, s.fullPeriod (bitsOf (fabWord m 0) 63 32) * s.freqNs + s.freqNs / 2) ∧ t.regs = s.regs ∧ Keeps s t) ∧
  (∀ (s : State) (g : Nat), s.rd R.optCfgJob 0 ≠ 0 → s.isLead = true → s.fab.decided = false →
    s.fab.period * s.freqNs + s.freqNs / 2 ≤ s.now → s.fab.members = [] → s.fab.grants = [(s.rd R.optCfgModuleId 0, g)] → g ≤ 15 →
    Answers .freqLeadDecide s fun t => t.fab.result = some (g, s.fab.period * s.freqNs + s.freqNs / 2) ∧ t.fab.decided = true ∧
      t.regs = s.regs ∧ Keeps s t) ∧
  (∀ (s : State) (n u : Nat), Registers.wf s.regs = true → s.fab.result = some (n, u) → u ≤ s.now → n < 16 → s.enabledParts = [] →
    Answers .freqEffect s fun t => t.rd R.pwrStatJobStep 0 = n ∧ t.fab.result = none ∧ t.fab.agreed = true ∧ t.host = s.host ∧ t.mem = s.mem) ∧
  (∀ (s : State) (p : Nat), Registers.wf s.regs = true → s.isMaster = false → s.route (s.rd R.timCfgMaster 0) = some p →
    Answers .timeExchange s fun t => (t.fab.asked = some s.now ∨ (t.fab.askOut = true ∧ t.fab.asked = none)) ∧ t.fab.answered = none ∧
      t.rd R.timStatParent 0 = p ∧ Keeps s t) ∧
  (∀ (s : State), Registers.wf s.regs = true → s.isMaster = false → s.route (s.rd R.timCfgMaster 0) = none → s.rd R.timStatState 0 ≠ 3 →
    Answers .timeExchange s fun t => t.rd R.timStatState 0 = 3 ∧ Raises s t ⟨0x08A, portSite 0, portMaster 0, 0, 5, 0, s.now % 2 ^ 32⟩ ∧ Keeps s t) ∧
  (∀ (s : State) (t1 d : Nat), Registers.wf s.regs = true → s.isMaster = false → s.fab.asked = some t1 →
    s.fab.answered = some (s.rd R.timStatParent 0, t1 + 2 * d, BitVec.ofNat 128 (t1 + d + 2 ^ 64 * (t1 + d))) → t1 + d < 2 ^ 64 →
    s.fab.exchanges = [] → s.boot.running = false → d < 2 ^ 16 →
    Answers (.time (s.rd R.timStatParent 0) t1 (t1 + d) (t1 + d) (t1 + 2 * d)) s fun t => t.fab.asked = none ∧ t.fab.exchanges = [(d, 0)] ∧
      t.rd R.timStatDelay 0 = d ∧ t.rd R.timStatOffset 0 = 0 ∧ t.rd R.timStatState 0 = 2 ∧ t.now = s.now ∧
      t.fab.rate = max (-1000) (min 1000 s.fab.rate) ∧ Keeps s t) ∧
  (∀ (s : State) (p t1 t2 t3 t4 : Nat), s.fab.asked = none ∨ s.fab.answered = none → Answers (.time p t1 t2 t3 t4) s fun t => t = s) ∧
  (∀ (s : State) (h : Nat), Registers.wf s.regs = true → s.isMaster = true → s.boot.running = false →
    Answers (.ptmUpdate h) s fun t => t.fab.rate = max (-1000) (min 1000 (s.fab.rate + ((h : Int) - (s.now : Int)))) ∧
      t.rd R.timStatState 0 = 1 ∧ t.now = s.now ∧ Keeps s t)

/-- Tier 2. Attestation (R410 to R414): outside start-up the responder negotiates version, capabilities and algorithms in this order, and then
answers digests, certificates, challenges and measurements, and opens and closes sessions; each command leaves everything else. -/
def Obligations.AttestationCommandsComplete : Prop :=
  (∀ (s : State), s.rd R.hstStatState 0 ≠ 0 → Answers .getVersion s fun t =>
    t = { s with sec := { s.sec with negotiated := 1, answers := s.sec.answers ++ [.version 0x12] } }) ∧
  (∀ (s : State), s.rd R.hstStatState 0 ≠ 0 → 1 ≤ s.sec.negotiated → Answers .getCapabilities s fun t =>
    t = { s with sec := { s.sec with negotiated := 2, answers := s.sec.answers ++ [.capabilities true true true true] } }) ∧
  (∀ (s : State), s.rd R.hstStatState 0 ≠ 0 → 2 ≤ s.sec.negotiated → Answers (.negotiateAlgorithms 0 0) s fun t =>
    t = { s with sec := { s.sec with negotiated := 3, answers := s.sec.answers ++ [.algorithms 0 0] } }) ∧
  (∀ (s : State), s.rd R.hstStatState 0 ≠ 0 → 3 ≤ s.sec.negotiated → Answers (.getDigests 0) s fun t =>
    t = { s with sec := { s.sec with answers := s.sec.answers ++ [.digests 0 (shake256 48 Config.certChain)] } }) ∧
  (∀ (s : State) (o n : Nat), s.rd R.hstStatState 0 ≠ 0 → 3 ≤ s.sec.negotiated → Answers (.getCertificate 0 o n s.boot.pub) s fun t =>
    t = { s with sec := { s.sec with answers := s.sec.answers ++ [.certificate o ((Config.certChain.drop o).take n)] } }) ∧
  (∀ (s : State) (o n : Nat) (key : List Byte), s.rd R.hstStatState 0 ≠ 0 → 3 ≤ s.sec.negotiated → key ≠ s.boot.pub →
    Answers (.getCertificate 0 o n key) s fun t => t = { s with sec := { s.sec with answers := s.sec.answers ++ [.certificate o []] } }) ∧
  (∀ (s : State) (nonce : List Byte), s.rd R.hstStatState 0 ≠ 0 → 3 ≤ s.sec.negotiated → Answers (.challenge 0 nonce) s fun t =>
    t = { s with
      freeCtr := s.freeCtr + 1,
      sec := { s.sec with answers := s.sec.answers ++ [.challengeAuth 0 nonce (shake256 48 s.measurements)
        (Config.falconSign s.boot.pub (nonce ++ shake256 48 s.measurements) s.freeCtr)] } }) ∧
  (∀ (s : State) (i : Nat) (nonce : List Byte), s.rd R.hstStatState 0 ≠ 0 → 3 ≤ s.sec.negotiated → 1 ≤ i → i ≤ 8 →
    Answers (.getMeasurements i nonce) s fun t => t = { s with
      freeCtr := s.freeCtr + 1,
      sec := { s.sec with answers := s.sec.answers ++ [.measurements i nonce (s.measurement i)
        (Config.falconSign s.boot.pub (nonce ++ s.measurement i) s.freeCtr)] } }) ∧
  (∀ (s : State) (n : Nat) (dhe : List Byte), s.rd R.hstStatState 0 ≠ 0 → 3 ≤ s.sec.negotiated → (∀ b, (n, b) ∉ s.sec.sessions) →
    Answers (.keyExchange n dhe) s fun t => t = { s with sec := { s.sec with
      sessions := s.sec.sessions ++ [(n, false)], answers := s.sec.answers ++ [.keyExchangeRsp n (Config.dheShare n dhe)] } }) ∧
  (∀ (s : State) (n : Nat), s.rd R.hstStatState 0 ≠ 0 → 3 ≤ s.sec.negotiated → (n, false) ∈ s.sec.sessions →
    Answers (.finish n) s fun t => (n, true) ∈ t.sec.sessions ∧ t.sec.answers = s.sec.answers ++ [.finishRsp n] ∧ t.regs = s.regs ∧
      Keeps s t) ∧
  (∀ (s : State) (n : Nat), s.rd R.hstStatState 0 ≠ 0 → 3 ≤ s.sec.negotiated → (n, true) ∈ s.sec.sessions →
    Answers (.endSession n) s fun t => (∀ b, (n, b) ∉ t.sec.sessions) ∧ t.sec.answers = s.sec.answers ++ [.endSessionAck n] ∧
      t.regs = s.regs ∧ Keeps s t)

/-- Tier 2. Result digests (R415 to R417): 100 ms after its first leaf the open batch closes; the oldest closed batch is signed and its
records are held; OP_DIGEST_READ returns the proof of a signed result, waits for one that is not signed yet, and ends with ST_STATE where
there is none. -/
def Obligations.DigestCommandsComplete : Prop :=
  (∀ (s : State), Registers.wf s.regs = true → s.sec.openBatch ≠ [] → s.sec.openedAt + 10 ^ 8 ≤ s.now →
    s.rd R.secBatchSeq 0 + 1 < 2 ^ 32 →
    Answers .batchCloseTimeout s fun t => t.sec.openBatch = [] ∧
      t.sec.closed = s.sec.closed ++ [⟨s.rd R.secBatchSeq 0, s.now, s.sec.openBatch, none⟩] ∧
      t.rd R.secBatchSeq 0 = s.rd R.secBatchSeq 0 + 1 ∧ t.rd R.secBatchLeaves 0 = 0 ∧ Keeps s t) ∧
  (∀ (s : State) (b : Batch) (rest : List Batch), s.sec.closed = b :: rest → b.leaves ≠ [] → s.sec.reads = [] →
    s.sec.storeBytes + (b.leaves.map fun y => y.record.length).sum ≤ 2 ^ 24 →
    Answers .batchSigned s fun t => t.sec.closed = rest ∧ t.freeCtr = s.freeCtr + 1 ∧
      { b with signature := some (Config.falconSign s.boot.pub (s.batchHeader b) s.freeCtr) } ∈ t.sec.signed ∧
      t.sec.store = s.sec.store ++ (List.range b.leaves.length).map (fun i => (b.seq, i)) ∧ Keeps s t) ∧
  (∀ (s : State) (c q i : Nat) (r : Req) (b : Batch) (x : Leaf), s.Holds (c, q) 0x31 r → s.leafWaits c (r.inl 0 4) = false →
    s.digestComes c (r.inl 0 4) = false → s.findProof c (r.inl 0 4) = some (b, i, x) →
    (s.proofBytes b i x).length ≤ r.d 28 4 → isDev (r.d 32 8) = false → s.host.ats = [] →
    Answers (.opDigestRead c q) s fun t => Ends s t (c, q) stOk (s.proofBytes b i x).length 0 ∧
      (∃ w ∈ t.host.dma, w.addr = r.d 32 8 ∧ w.bytes = s.proofBytes b i x) ∧ t.clusters = s.clusters) ∧
  (∀ (s : State) (c q : Nat) (r : Req), s.Holds (c, q) 0x31 r → s.leafWaits c (r.inl 0 4) = true →
    Answers (.opDigestRead c q) s fun t => (c, q, r.inl 0 4) ∈ t.sec.reads ∧ t.host.cq = s.host.cq ∧ t.regs = s.regs ∧ t.mem = s.mem) ∧
  (∀ (s : State) (c q : Nat) (r : Req), s.Holds (c, q) 0x31 r → s.leafWaits c (r.inl 0 4) = false → s.digestComes c (r.inl 0 4) = false →
    s.findProof c (r.inl 0 4) = none →
    Answers (.opDigestRead c q) s fun t => Ends s t (c, q) stState 0 0 ∧ t.clusters = s.clusters)

/-- Tier 2. Firmware update and activation (R418 to R425): once firmware has started the module identifies itself, names its versions, opens an
update afresh or where its progress entry left off, asks for pieces, takes a good one and asks again for a bad one, reports its state and
cancels; with an eligible slot the activation is announced, drains, rewrites the boot header and resets the module with cause 3. -/
def Obligations.UpdateCommandsComplete : Prop :=
  (∀ (s : State), s.rd R.hstStatState 0 ≠ 0 → Answers .queryDeviceIdentifiers s fun t =>
    t = { s with sec := { s.sec with answers := s.sec.answers ++ [.identifiers s.boot.serial] } }) ∧
  (∀ (s : State), s.rd R.hstStatState 0 ≠ 0 → Answers .getFirmwareParameters s fun t =>
    t = { s with sec := { s.sec with answers := s.sec.answers ++
      [.parameters (s.rd R.cfgBootFwSvn 0) (s.rd R.cfgBootCfgSvn 0) (s.eligible 1) (s.eligible 2)] } }) ∧
  (∀ (s : State) (c : Nat) (d : List Byte), Registers.wf s.regs = true → s.rd R.hstStatState 0 ≠ 0 → c ∈ [1, 2] →
    (s.upd.checked && s.eligible c) = false →
    s.progressOf c = none →
    Answers (.requestUpdate c d) s fun t => t.upd.session = true ∧ aget t.upd.comps c = some ⟨d, 0, false, [], 0⟩ ∧
      t.rd (compNext c) 0 = 0 ∧ t.rd (compState c) 0 = usIdle ∧ t.sec.answers = s.sec.answers ++ [.pldmAccept 0 0] ∧ Keeps s t) ∧
  (∀ (s : State) (c n : Nat) (d : List Byte), Registers.wf s.regs = true → s.rd R.hstStatState 0 ≠ 0 → c ∈ [1, 2] →
    (s.upd.checked && s.eligible c) = false →
    s.progressOf c = some (d, n) → 0 < n → n < 2 ^ 16 →
    Answers (.requestUpdate c d) s fun t => t.upd.session = true ∧ aget t.upd.comps c = some ⟨d, 0, false, s.slotData c, 0⟩ ∧
      t.rd (compNext c) 0 = n ∧ t.sec.answers = s.sec.answers ++ [.pldmAccept 0 n] ∧ t.nor = s.nor ∧ Keeps s t) ∧
  (∀ (s : State) (c svn : Nat) (x : CompUpd), s.rd R.hstStatState 0 ≠ 0 → s.upd.session = true → aget s.upd.comps c = some x →
    Answers (.passComponentTable c svn) s fun t => aget t.upd.comps c = some { x with svn := svn } ∧
      t.sec.answers = s.sec.answers ++ [.pldmAccept 1 0] ∧ t.regs = s.regs ∧ Keeps s t) ∧
  (∀ (s : State) (c svn : Nat) (x : CompUpd), Registers.wf s.regs = true → s.rd R.hstStatState 0 ≠ 0 → s.upd.session = true → c ∈ [1, 2] →
    aget s.upd.comps c = some x → s.rd (compNext c) 0 ≠ imagePieces x.data →
    Answers (.updateComponent c svn) s fun t => aget t.upd.comps c = some { x with svn := svn, active := true, failures := 0 } ∧
      t.rd (compState c) 0 = usReceiving ∧
      t.sec.answers = s.sec.answers ++ [.pldmAccept 2 0, .requestData c (s.rd (compNext c) 0)] ∧ Keeps s t) ∧
  (∀ (s : State) (p : Piece) (x : CompUpd), Registers.wf s.regs = true → s.rd R.hstStatState 0 ≠ 0 → p.component ∈ [1, 2] →
    aget s.upd.comps p.component = some x → x.active = true → p.index = s.rd (compNext p.component) 0 → p.index + 1 < 2 ^ 16 →
    pieceOk x.digest p.index (x.data ++ padTo 4096 p.bytes) p.bytes = true →
    p.index + 1 ≠ imagePieces (x.data ++ padTo 4096 p.bytes) →
    Answers (.firmwareDataPiece p) s fun t =>
      aget t.upd.comps p.component = some { x with data := x.data ++ padTo 4096 p.bytes, failures := 0 } ∧
      t.rd (compNext p.component) 0 = p.index + 1 ∧ (p.component, x.digest, p.index + 1) ∈ t.nor.progress ∧
      t.sec.answers = s.sec.answers ++ [.requestData p.component (p.index + 1)] ∧ Keeps s t) ∧
  (∀ (s : State) (p : Piece) (x : CompUpd), s.rd R.hstStatState 0 ≠ 0 → aget s.upd.comps p.component = some x → x.active = true →
    p.index = s.rd (compNext p.component) 0 → x.failures < 3 →
    pieceOk x.digest p.index (x.data ++ padTo 4096 p.bytes) p.bytes = false →
    Answers (.firmwareDataPiece p) s fun t => aget t.upd.comps p.component = some { x with failures := x.failures + 1 } ∧
      t.sec.answers = s.sec.answers ++ [.requestData p.component p.index] ∧ t.nor = s.nor ∧ t.regs = s.regs ∧ Keeps s t) ∧
  (∀ (s : State), s.rd R.hstStatState 0 ≠ 0 → Answers .activateFirmware s fun t =>
    t = { s with sec := { s.sec with answers := s.sec.answers ++ [.activateTime ((s.rd R.updActivateAtTime 0 - s.now) / 10 ^ 9)] } }) ∧
  (∀ (s : State), s.rd R.hstStatState 0 ≠ 0 → Answers .getStatus s fun t =>
    t = { s with sec := { s.sec with answers := s.sec.answers ++ [.status (s.rd R.updStatFwState 0) (s.rd R.updStatCfgState 0)] } }) ∧
  (∀ (s : State) (c : Nat), Registers.wf s.regs = true → s.rd R.hstStatState 0 ≠ 0 → s.upd.session = true → c ∈ [1, 2] →
    s.rd (compState c) 0 = usReceiving →
    Answers .cancelUpdateComponent s fun t => t.rd (compState c) 0 = usIdle ∧ t.upd.session = true ∧
      t.sec.answers = s.sec.answers ++ [.pldmAccept 4 0] ∧ Keeps s t) ∧
  (∀ (s : State), s.rd R.hstStatState 0 ≠ 0 → s.upd.session = true →
    Answers .cancelUpdate s fun t => t.upd.session = false ∧ t.sec.answers = s.sec.answers ++ [.pldmAccept 5 0] ∧ Keeps s t) ∧
  (∀ (s : State) (c : Nat) (x : Ring), s.rd R.hstStatState 0 = hsReady → s.upd.checked = false →
    s.now < s.rd R.updActivateAtTime 0 → s.rd R.updActivateAtTime 0 ≤ s.now + 5 * 10 ^ 9 → s.eligible 1 = true → s.host.rings = [(c, x)] →
    Answers .activationCheck s fun t => t.upd.checked = true ∧
      (∃ e, t.host.cq = s.host.cq ++ [e] ∧ e.client = c ∧ e.event = true ∧ e.status = stActivationPending) ∧ t.regs = s.regs ∧
      t.mem = s.mem) ∧
  (∀ (s : State), s.rd R.hstStatState 0 = hsReady → s.upd.checked = true → s.rd R.updActivateAtTime 0 ≠ 0 →
    s.rd R.updActivateAtTime 0 ≤ s.now → s.upd.draining = none →
    Answers .activationStart s fun t => t.upd.draining = some (s.rd R.updActivateAtTime 0) ∧ t.sec.openBatch = [] ∧
      t.clusters = s.clusters) ∧
  (∀ (s : State) (u : Nat), Registers.wf s.regs = true → s.upd.draining = some u → s.host.reqs = [] → s.boot.running = false →
    Answers (.activationDrainEnd true) s fun t => t.rd R.cfgResetCause 0 = 3 ∧ t.nor.bootSeq = s.nor.bootSeq + 1 ∧
      (s.eligible 1 = true → t.nor.fwActive = s.targetSlot 1) ∧ (s.eligible 2 = true → t.nor.cfgActive = s.targetSlot 2) ∧
      t.upd.draining = none ∧ t.parts = [] ∧ t.host.rings = []) ∧
  (∀ (s : State) (u : Nat), Registers.wf s.regs = true → s.upd.draining = some u → s.host.reqs = [] → s.boot.running = false →
    Answers (.activationDrainEnd false) s fun t => t.rd R.cfgResetCause 0 = 3 ∧ t.nor.bootSeq = s.nor.bootSeq ∧
      t.nor.fwActive = s.nor.fwActive ∧ (s.eligible 1 = true → t.eligible 1 = true))

/-- Tier 2. The flash tier (R231, R234 to R239, R262): a sector read returns data, zeros, a bounds fault or poison as its steps go; an
acknowledged write enters the map and the journal, but not before an older one of its unit; a stripe's parity closes it; a queued block's unit is written elsewhere; a scan queues a
block beyond the margin; a retired die is rebuilt unit by unit; training and the rebuilding of a map entry do only that. -/
def Obligations.FlashCommandsComplete : Prop :=
  (∀ (s : State) (lsn p : Nat) (tr : SectorTrial) (x : Sector), s.flashSector lsn = some x → x.part = p → tr.ldpcOk = true → x.poison = false →
    x.tagOk lsn = true → s.dieRetired (entChan (s.flashEntry (lsn / 16))) (entDie (s.flashEntry (lsn / 16))) = false →
    s.mayPass (arbFlash (flashCore (entChan (s.flashEntry (lsn / 16))))) p = true →
    Answers (.flashSectorRead lsn p tr) s fun t => t.flash.out = s.flash.out ++ [⟨lsn, p, x.data, false⟩] ∧ t.flash.map = s.flash.map ∧
      t.flash.medium = s.flash.medium ∧ t.faults = s.faults ∧ t.host = s.host ∧ t.mem = s.mem) ∧
  (∀ (s : State) (lsn p : Nat) (tr : SectorTrial), s.flashSector lsn = none →
    s.mayPass (arbFlash (flashCore (entChan (s.flashEntry (lsn / 16))))) p = true →
    Answers (.flashSectorRead lsn p tr) s fun t =>
      t = { s.passed (arbFlash (flashCore (entChan (s.flashEntry (lsn / 16))))) with
        flash := { s.flash with out := s.flash.out ++ [⟨lsn, p, List.replicate 4096 0, false⟩] } }) ∧
  (∀ (s : State) (lsn p : Nat) (tr : SectorTrial) (x : Sector), s.flashSector lsn = some x → x.part ≠ p →
    s.mayPass (arbFlash (flashCore (entChan (s.flashEntry (lsn / 16))))) p = true →
    Answers (.flashSectorRead lsn p tr) s fun t => t.flash = s.flash ∧ t.regs = s.regs ∧ Keeps s t ∧
      Raises s t ⟨0x002, flashSite (entChan (s.flashEntry (lsn / 16))), flashMaster (entChan (s.flashEntry (lsn / 16))), 0, 1, 0, s.now % 2 ^ 32⟩) ∧
  (∀ (s : State) (lsn p : Nat) (x : Sector), s.flashSector lsn = some x → x.part = p →
    s.inReserve (s.flashEntry (lsn / 16)) = false → s.mayPass (arbFlash (flashCore (entChan (s.flashEntry (lsn / 16))))) p = true →
    Answers (.flashSectorRead lsn p ⟨false, none, false⟩) s fun t =>
      t.flash.out = s.flash.out ++ [⟨lsn, p, List.replicate 4096 0, true⟩] ∧ t.flash.map = s.flash.map ∧
      Raises s t ⟨0x14A, flashSite (entChan (s.flashEntry (lsn / 16))), flashMaster (entChan (s.flashEntry (lsn / 16))),
        entDie (s.flashEntry (lsn / 16)), 1, 0, s.now % 2 ^ 32⟩ ∧ t.host = s.host ∧ t.mem = s.mem) ∧
  (∀ (s : State) (k : Nat) (w : FlashWrite), swf 0 s.flash.map = true → s.flash.writes = [w] → w.core = k → s.flash.eraseAfter = [] →
    Answers (.flashWriteAck k) s fun t => sget 0 t.flash.map w.unit = w.entry ∧ t.flash.journal = journalPut s.flash.journal (w.unit, w.entry) ∧
      t.flash.writes = [] ∧ t.flash.medium = s.flash.medium ∧ t.regs = s.regs ∧ t.host = s.host ∧ t.mem = s.mem) ∧
  (∀ (s : State) (k : Nat) (v w : FlashWrite), s.flash.writes = [v, w] → v.unit = w.unit → v.core ≠ k →
    Answers (.flashWriteAck k) s fun t => t = s) ∧
  (∀ (s : State) (st : Nat) (x : Stripe), aget s.flash.stripes st = some x → x.closed = false →
    Answers (.stripeParityWrite st true) s fun t =>
      aget t.flash.stripes st = some { x with closed := true, copy := [], parity := parityUnit x.copy } ∧
      t.flash.openStripe ≠ some st ∧ t.flash.openSlc ≠ some st ∧ t.regs = s.regs ∧ t.host = s.host ∧ t.mem = s.mem) ∧
  (∀ (s : State) (d b u e e' : Nat), s.flash.relocate = [b] → b % 32 = d / 16 → b / 32 % 16 = d % 16 → s.flash.map = [(u, e)] →
    entValid e = true → entBlock e = b → s.flash.writes = [] →
    (((s.passed (arbMaint (flashCore (d / 16)))).passUnit u e).1.place (entSlc e)).2 = some e' → s.maintTurn (d / 16) 0 = true →
    Answers (.wearRelocate d) s fun t => t.flash.relocate = [] ∧ (∃ w ∈ t.flash.writes, w.unit = u ∧ w.entry = e') ∧
      t.flash.map = [(u, e)] ∧ t.host = s.host ∧ t.mem = s.mem) ∧
  (∀ (s : State) (b worst : Nat), 1000 * s.rd R.flsCfgRdScan 0 ≤ sget 0 s.flash.reads b → s.rd R.flsCfgRdMargin 0 < worst →
    s.maintTurn (b % 32) 1 = true →
    Answers (.readDisturbScan b worst) s fun t => b ∈ t.flash.relocate ∧ t.flash.map = s.flash.map ∧ t.host = s.host ∧ t.mem = s.mem) ∧
  (∀ (s : State) (b worst : Nat), swf 0 s.flash.reads = true → 1000 * s.rd R.flsCfgRdScan 0 ≤ sget 0 s.flash.reads b →
    worst ≤ s.rd R.flsCfgRdMargin 0 → s.maintTurn (b % 32) 1 = true →
    Answers (.readDisturbScan b worst) s fun t => t.flash.relocate = s.flash.relocate ∧
      sget 0 t.flash.reads b = 500 * s.rd R.flsCfgRdScan 0 ∧ t.flash.map = s.flash.map ∧ t.host = s.host ∧ t.mem = s.mem) ∧
  (∀ (s : State) (d u e e' : Nat), d ∈ s.flash.rebuilding → s.flash.map = [(u, e)] → entValid e = true → entChan e = d / 16 →
    entDie e = d % 16 → s.flash.writes = [] → ((s.passUnit u e).1.place (entSlc e)).2 = some e' →
    Answers (.flashDieRebuild d) s fun t => (∃ w ∈ t.flash.writes, w.unit = u ∧ w.entry = e') ∧ d ∈ t.flash.rebuilding ∧
      t.host = s.host ∧ t.mem = s.mem) ∧
  (∀ (s : State) (d : Nat), d ∈ s.flash.rebuilding → s.flash.map = [] → s.flash.writes = [] →
    Answers (.flashDieRebuild d) s fun t => d ∉ t.flash.rebuilding ∧ t.regs = s.regs ∧ t.host = s.host ∧ t.mem = s.mem) ∧
  (∀ (s : State), s.flash.lastTrain + 10 ^ 10 ≤ s.now → s.moduleRun = true →
    Answers .flashPeriodicTraining s fun t => t = { s with flash := { s.flash with lastTrain := s.now } }) ∧
  (∀ (s : State) (u : Nat), swf 0 s.flash.map = true → s.flash.journal = [] →
    Answers (.mapEntryRebuild u) s fun t => sget 0 t.flash.map u = sget 0 s.flash.checkpoint u ∧ t.flash.medium = s.flash.medium ∧
      t.regs = s.regs ∧ t.host = s.host ∧ t.mem = s.mem)

/-- Tier 2. Objects and adapters (R215 to R217, R245, R246): a placement takes space and names the object's part; a load fills it, and its end
makes a weight set current and completes the request; an adapter loads, becomes current, and is retired. -/
def Obligations.ObjectCommandsComplete : Prop :=
  (∀ (s : State) (c q : Nat) (r : Req) (l : List (Nat × Nat)) (es : List PartEntry) (e : PartEntry), s.Holds (c, q) 0x28 r →
    s.goodPlace r = true → s.placeState r = false → placesRows r = false → s.placeExtents (c, q) (placeEntries r) = (.ok l, es) →
    (∀ y ∈ es, y.tier ≠ 2) → s.placeRoom r = true → (s.takeParts (r.inl 4 1) (s.spills (r.inl 0 4)) es).map (·.2) = some [e] →
    s.obj? (r.inl 0 4) = none →
    Answers (.opObjectPlace c q) s fun t => Ends s t (c, q) stOk 1 0 ∧
      t.obj? (r.inl 0 4) = some ⟨r.inl 4 1, [e], c, none, 0, false, (c, q), [], 0, [], []⟩ ∧ t.clusters = s.clusters) ∧
  (∀ (s : State) (c q : Nat) (r : Req), s.Holds (c, q) 0x28 r → s.goodPlace r = false →
    Answers (.opObjectPlace c q) s fun t => Ends s t (c, q) stBadDescriptor 0 0 ∧ t.objs = s.objs ∧ t.flash = s.flash) ∧
  (∀ (s : State) (c q : Nat) (r : Req) (x : Obj), s.Holds (c, q) 0x29 r → s.obj? (r.inl 0 4) = some x → x.loading = false →
    s.goodLoad r = true → s.loadState r = false → s.loadRoom r = true → loadsTable r = false → loadsBeside x (r.inl 4 1) r.param = false →
    Answers (.opObjectLoad c q) s fun t => t.host.cq = s.host.cq ∧ t.clusters = s.clusters ∧
      t.obj? (r.inl 0 4) = some ⟨x.part, x.places, x.placer, some (r.inl 4 1), r.inl 5 1, true, (c, q), digest256 r.param, x.epoch,
        r.param, []⟩) ∧
  (∀ (s : State) (o c q : Nat) (x : Obj) (r : Req), s.obj? o = some x → x.loading = true → x.loader = (c, q) → x.kind = some 0 →
    s.obj? (2 ^ 40 + o) = none → s.Holds (c, q) 0x29 r → aget s.weights (weightKey o x.epoch) = none →
    Answers (.objectLoadComplete o) s fun t => Ends s t (c, q) stOk (x.epoch + 1) 0 ∧
      aget t.weights (weightKey o (x.epoch + 1)) = some (weightsOf x.part o x.places x.places x.image x.digest) ∧
      t.obj? o = some { x with epoch := x.epoch + 1, loading := false } ∧ t.clusters = s.clusters) ∧
  (∀ (s : State) (c q : Nat) (r : Req), s.Holds (c, q) 0x20 r → (∀ a ∈ s.adapters, a.loading = false) → goodAdapter r.param = true →
    r.inl 0 2 < 1024 → s.holdsWeights (s.home r.client) (slice r.param 0 32) = true →
    s.adapterCount (s.home r.client) < 64 →
    Answers (.opAdapterLoad c q) s fun t =>
      t = { s with adapters := s.adapters ++ [⟨s.home r.client, r.inl 0 2, r.inl 4 4, digest256 r.param, true, false, (c, q), s.nextSerial⟩] }) ∧
  (∀ (s : State) (c q : Nat) (r : Req) (a : Adapter), s.adapters = [a] → a.loading = true → a.loader = (c, q) → s.Holds (c, q) 0x20 r →
    Answers (.adapterLoadComplete a.part a.id a.version) s fun t => Ends s t (c, q) stOk a.version 0 ∧
      t.adapters = [{ a with loading := false }] ∧ t.objs = s.objs) ∧
  (∀ (s : State) (c q : Nat) (r : Req) (a : Adapter), s.Holds (c, q) 0x21 r → s.adapters = [a] → a.part = s.home r.client →
    a.id = r.inl 0 2 → a.loading = false → a.retired = false →
    Answers (.opAdapterRetire c q) s fun t => Ends s t (c, q) stOk a.version 0 ∧ t.adapters = [{ a with retired := true }] ∧
      t.objs = s.objs)

/-- Tier 2. Searches (R119 to R125, R130): an accepted search pins its shard and queues four walks; a waiting walk takes the lowest walker with
room; a sweep passes its records; a walk ends with its survivors and frees its walker; the shard's result ends the search. -/
def Obligations.SearchCommandsComplete : Prop :=
  (∀ (s : State) (c q i : Nat) (r : Req), s.Holds (c, q) 0x04 r → r.ran = false → s.boundary r = none → s.searchState r.param = true →
    s.searchReady (c, q) (spSlots r.param) = true → spSlots r.param = [i] →
    Answers (.opSearch c q) s fun t => t.walks.length = s.walks.length + 4 ∧
      (∀ j, j < 4 → ∃ w ∈ t.walks, w.client = c ∧ w.req = q ∧ w.slot = i ∧ w.sec = j ∧ w.beam = spBeam r.param ∧ w.walker = none) ∧
      (t.search? (c, q)).isSome = true ∧ (∃ x, t.shard? i = some x ∧ x.pinnedBy (c, q) = true) ∧ t.host.cq = s.host.cq ∧
      t.regs = s.regs ∧ t.mem = s.mem) ∧
  (∀ (s : State) (c q st : Nat) (r : Req), s.Holds (c, q) 0x04 r → r.ran = false → s.boundary r = some st →
    Answers (.opSearch c q) s fun t => Ends s t (c, q) st 0 0 ∧ t.clusters = s.clusters) ∧
  (∀ (s : State) (die n : Nat) (w : Walk), Registers.wf s.regs = true → s.walks = [w] → w.sec = die → w.walker = none → w.ended = false →
    (s.liveWalkers die).find? (fun n => decide (s.rd R.sloWstatSlotsBusy n + ceilDiv w.beam 256 ≤ 64)) = some n →
    Answers (.walkStart die) s fun t => (∃ v, t.walks = [v] ∧ v.order = w.order ∧ v.walker = some n ∧ v.startedAt = s.now) ∧
      t.rd R.sloWstatSlotsBusy n = s.rd R.sloWstatSlotsBusy n + ceilDiv w.beam 256 ∧ t.host.cq = s.host.cq ∧ t.mem = s.mem) ∧
  (∀ (s : State) (n : Nat) (w : Walk) (x : Shard) (y : Section), s.walks = [w] → w.walker = some n → w.ended = false →
    s.shard? w.slot = some x → x.sections[w.sec]? = some y →
    (s.walkRead x.part y.sideBase (w.sideEnd * sideBytes (s.shardBits w.slot))).2.stop = 0 →
    (s.walkRead x.part y.sideBase (w.sideEnd * sideBytes (s.shardBits w.slot))).2.dirty = [] →
    Answers (.sideSweepPass n) s fun t => (∃ v, t.walks = [v] ∧ v.order = w.order ∧ v.sideSeen = w.sideEnd ∧ v.walker = some n) ∧
      t.shards = s.shards ∧ t.regs = s.regs ∧ t.host = s.host ∧ t.mem.cells = s.mem.cells ∧ t.clusters = s.clusters) ∧
  (∀ (s : State) (n : Nat) (w : Walk) (p : Search) (x : Shard) (y : Section) (live : List Cand × WalkMem), s.walks = [w] → w.walker = some n →
    s.search? (w.client, w.req) = some p → s.shard? w.slot = some x → x.sections[w.sec]? = some y → w.sideEnd ≤ w.sideSeen →
    s.survivors x y w.sec p (p.epoch w.slot) (s.runWalk x y p.sketch (s.shardBits w.slot) w.beam (spExpand p.params)) = live → live.2.stop = 0 →
    live.2.dirty = [] →
    Answers (.walkEnd w.order) s fun t => t.walks = [{ w with
        walker := none, ended := true, cand := live.1,
        expansions := (s.runWalk x y p.sketch (s.shardBits w.slot) w.beam (spExpand p.params)).exps }] ∧
      t.shards = s.shards ∧ t.host = s.host ∧ t.mem.cells = s.mem.cells) ∧
  (∀ (s : State) (c q slot : Nat) (r : Req) (p : Search) (bs : List Byte), s.Holds (c, q) 0x04 r → s.search? (c, q) = some p →
    s.assemble (c, q) p slot = .result bs → p.results = [] → p.slots = [slot] → isDev (r.d 32 8) = false → s.host.ats = [] →
    Answers (.shardResultAssemble c q slot) s fun t =>
      Ends s t (c, q) (if resultValid bs < spK p.params then stFewResults else stOk) (resultValid bs) (resultExps bs) ∧
      (∃ w ∈ t.host.dma, w.addr = r.d 32 8 ∧ w.bytes = bs) ∧ t.clusters = s.clusters)

/-- Tier 2. Changes of an index (R126, R127, R129): accepted inserts and deletes wait in order, a rejected command ends with its status; a publish
advances the epoch, takes every waiting change and chains the digest. -/
def Obligations.IndexCommandsComplete : Prop :=
  (∀ (s : State) (c q : Nat) (r : Req) (x x' : Shard) (hs : List Nat), s.Holds (c, q) 0x18 r → s.host.reqs = [r] → r.ran = false →
    s.shard? (r.inl 0 1) = some x → s.judgeIndex (c, q) r (r.inl 0 1) x = .ok (x', hs) → hs ≠ [] →
    (∃ d ∈ x'.changes, d.client = c ∧ d.req = q) → isDev (r.d 32 8) = false → s.host.ats = [] →
    (s.readUnits hubMaster (x'.gensRead (c, q))).2 = 0 →
    Answers (.opIndexInsert c q) s fun t => t.shard? (r.inl 0 1) = some x' ∧ t.host.cq = s.host.cq ∧
      (∃ w ∈ t.host.dma, w.addr = r.d 32 8 ∧ w.bytes = hs.flatMap (leBytes 8)) ∧ t.mem.cells = s.mem.cells ∧
      (x'.gensRead (c, q) = [] → t.mem = s.mem ∧ t.regs = s.regs)) ∧
  (∀ (s : State) (c q st : Nat) (r : Req) (x : Shard), s.Holds (c, q) 0x18 r → r.ran = false → s.shard? (r.inl 0 1) = some x →
    s.judgeIndex (c, q) r (r.inl 0 1) x = .error st →
    Answers (.opIndexInsert c q) s fun t => Ends s t (c, q) st 0 0 ∧ t.objs = s.objs) ∧
  (∀ (s : State) (c q : Nat) (r : Req) (x x' : Shard), s.Holds (c, q) 0x19 r → s.host.reqs = [r] → r.ran = false →
    s.shard? (r.inl 0 1) = some x → s.judgeIndex (c, q) r (r.inl 0 1) x = .ok (x', []) → (∃ d ∈ x'.changes, d.client = c ∧ d.req = q) →
    (s.readUnits hubMaster (x.changeReads r)).2 = 0 → x'.gensRead (c, q) = [] →
    Answers (.opIndexDelete c q) s fun t => t.shard? (r.inl 0 1) = some x' ∧ t.host.cq = s.host.cq ∧ t.mem.cells = s.mem.cells) ∧
  (∀ (s : State) (slot : Nat) (x : Shard), Registers.wf s.regs = true → slot < 2 → s.shard? slot = some x → x.changes ≠ [] →
    s.host.reqs = [] → s.rd R.sloShardState slot = 2 → x.lastPublish = 0 →
    Answers (.indexPublish slot) s fun t => t.rd R.sloShardEpoch slot = (s.rd R.sloShardEpoch slot + 1) % 2 ^ 32 ∧
      (∃ y, t.shard? slot = some y ∧ y.changes = [] ∧ y.lastPublish = s.now ∧
        y.digest = digest256 (x.digest ++ changeRecord (s.rd R.sloShardShard slot) x.changes)) ∧ t.host = s.host ∧ t.clusters = s.clusters) ∧
  (∀ (s : State) (slot : Nat) (x : Shard) (y : Section) (d : IndexChange), slot < 2 → s.shard? slot = some x → x.changes = [d] →
    d.del = false → x.sections[d.sec]? = some y → s.host.reqs = [] → s.rd R.sloShardState slot = 2 → x.lastPublish = 0 →
    Answers (.indexPublish slot) s fun t => ∃ u v, t.shard? slot = some u ∧ u.sections[d.sec]? = some v ∧
      v.side = y.side ++ [⟨d.node, (s.rd R.sloShardEpoch slot + 1) % 2 ^ 32, true, none, d.info, d.sketch⟩])

/-- Tier 2. Merges (R116, R128): a merge takes a snapshot, is built, and commits once no query pins the shard; what no pinned query needs is
dropped. -/
def Obligations.MergeCommandsComplete : Prop :=
  (∀ (s : State) (c q : Nat) (r : Req) (x : Shard), s.Holds (c, q) 0x1A r → r.ran = false → s.shard? (r.inl 0 1) = some x → x.merge = none →
    s.rd R.sloShardState (r.inl 0 1) = 2 →
    (∀ y ∈ x.sections, s.sectionRoom x (s.shardBits (r.inl 0 1)) y (y.nodesAfter (s.rd R.sloShardEpoch (r.inl 0 1))) = true) →
    Answers (.opIndexMerge c q) s fun t =>
      (∃ m, t.shard? (r.inl 0 1) = some { x with merge := some m } ∧ m.client = c ∧ m.req = q ∧ m.e0 = s.rd R.sloShardEpoch (r.inl 0 1) ∧
        m.reclaim = bitOf (r.inl 1 1) 0 ∧ m.built = false ∧ (∀ (i : Nat) (y : Section), x.sections[i]? = some y →
          m.staged[i]? = some (x.stage (s.rd R.sloShardEpoch (r.inl 0 1)) (bitOf (r.inl 1 1) 0) i y))) ∧
      t.host.cq = s.host.cq ∧ t.mem = s.mem ∧ t.regs = s.regs) ∧
  (∀ (s : State) (slot : Nat) (x : Shard) (m : Merge), s.shard? slot = some x → x.merge = some m →
    Answers (.mergeBuildDone slot) s fun t => t.shard? slot = some { x with merge := some { m with built := true } } ∧ t.regs = s.regs ∧
      Keeps s t) ∧
  (∀ (s : State) (slot : Nat) (r : Req) (x : Shard) (m : Merge), Registers.wf s.regs = true → slot < 2 → s.shard? slot = some x →
    x.merge = some m → m.built = true → x.pins = [] → m.staged.length = x.sections.length → s.Holds (m.client, m.req) 0x1A r →
    Answers (.mergeCommit slot) s fun t =>
      Ends s t (m.client, m.req) stOk ((s.rd R.sloShardEpoch slot + 1) % 2 ^ 32)
        ((m.staged.map fun g => g.absorbed.length).foldl (· + ·) 0) ∧
      t.rd R.sloShardEpoch slot = (s.rd R.sloShardEpoch slot + 1) % 2 ^ 32 ∧ t.rd R.sloShardState slot = 2 ∧
      (∃ y, t.shard? slot = some y ∧ y.merge = none) ∧ t.clusters = s.clusters) ∧
  (∀ (s : State) (slot : Nat) (x : Shard) (m : Merge), Registers.wf s.regs = true → s.shard? slot = some x → x.merge = some m →
    m.built = true → x.pins ≠ [] → s.live (m.client, m.req) = true →
    Answers (.mergeCommit slot) s fun t => t.rd R.sloShardState slot = 3 ∧ t.shards = s.shards ∧ Keeps s t) ∧
  (∀ (s : State) (slot : Nat) (x : Shard), s.shard? slot = some x → x.pins = [] → x.merge = none →
    Answers (.indexPinDrain slot) s fun t => (∃ y, t.shard? slot = some y ∧ (∀ z ∈ y.sections, z.delLog = []) ∧
        y.digests = x.digests.filter fun d => d.1 = s.rd R.sloShardEpoch slot) ∧ t.host = s.host ∧ t.clusters = s.clusters)

/-- Tier 2. Embedding tables (R157 to R172): an accepted lookup splits its bags into four sub-bags each; a gather unit sums one; a merged bag is
written and the lookup ends; an update behind a commit enters the delta buffer; a commit begins with its snapshot, is requantized, and flips
the epoch, the copy and the digest, on its own or at the flip time of a split table; what no lookup needs is freed; a row's migration ends. -/
def Obligations.TableCommandsComplete : Prop :=
  (∀ (s : State) (c q v e : Nat) (r : Req) (t : Table) (b : List Byte) (bl : List (List Byte)), s.Holds (c, q) 0x10 r → r.ran = false →
    s.boundary r = none → s.pinnedTable (r.inl 0 1) (c, q) = some (v, t, e) → t.missedTf = false → t.slices ≤ 1 →
    s.readAddr (.request c q) c (r.p 8 8) (4 * (lkBags r + 1)) = .data b false → goodOffsets (words4 b) = true → lkWeighted r = false →
    (s.gather (c, q) [(r.p 8 8, 4 * (lkBags r + 1)),
      (r.p 16 8 + 4 * (words4 b).headD 0, 4 * ((words4 b).getLastD 0 - (words4 b).headD 0))]).2 = some bl →
    s.bags = [] → (∀ d, d < 4 → s.unitsFor d t.part ≠ []) → t.others = [] →
    Answers (.opTableLookup c q) s fun z => z.bags.length = 4 * lkBags r ∧
      (∃ l ∈ z.lookups, l.client = c ∧ l.req = q ∧ l.bags = lkBags r ∧ l.epoch = e) ∧ z.host.cq = s.host.cq ∧
      z.mem.cells = s.mem.cells) ∧
  (∀ (s : State) (u v e : Nat) (b : BagWork) (l : Lookup) (t : Table) (o : Obj), s.bags = [b] → b.unit = some u → b.done = false →
    s.lookups = [l] → l.client = b.client → l.req = b.req → s.pinnedTable b.table (b.client, b.req) = some (v, t, e) →
    s.obj? (if v = b.table then t.object else v) = some o → (s.runBag b t o (t.copyOf e) u).2.stop = 0 →
    Answers (.gatherSubbag u) s fun z => z.bags = [{ b with
        unit := none, done := true, sums := (s.runBag b t o (t.copyOf e) u).2.sums, poison := (s.runBag b t o (t.copyOf e) u).2.poison,
        fault := false }] ∧
      z.host.cq = s.host.cq) ∧
  (∀ (s : State) (c q v e : Nat) (r : Req) (l : Lookup) (t : Table), s.Holds (c, q) 0x10 r → s.lookups = [l] → l.client = c → l.req = q →
    s.pinnedTable l.table (c, q) = some (v, t, e) → s.bags.length = 4 → (∀ b ∈ s.bags, b.client = c ∧ b.req = q ∧ b.bag = 0 ∧ b.done = true) →
    t.slices ≤ 1 → l.bags = 1 → l.out = [] → l.errors = [] → (readBag (lkFmt r) (lkSat r) s.bags t.d).poison = false →
    (readBag (lkFmt r) (lkSat r) s.bags t.d).fault = false →
    s.originOf (c, q) = none → isDev (r.d 32 8) = false → isDev (r.d 32 8 + 16) = false → s.host.ats = [] →
    Answers (.bagMerge c q 0) s fun z => Ends s z (c, q) stOk 1 (l.invalid.foldl (· + ·) 0) ∧
      (∃ w ∈ z.host.dma, w.addr = r.d 32 8 ∧ w.bytes = leBytes 4 (l.invalid.getD 0 0) ++ leBytes 4 l.epoch ++
        leBytes 4 (readBag (lkFmt r) (lkSat r) s.bags t.d).nans ++ leBytes 4 0) ∧ z.clusters = s.clusters) ∧
  (∀ (s : State) (c q row : Nat) (r : Req) (t : Table) (x : TabCommit) (ds : List Int), s.Holds (c, q) 0x11 r → r.ran = false → s.host.reqs = [r] →
    s.tables = [(r.inl 0 1, t)] → t.commit = some x → (x.client, x.req) ≠ (c, q) → goodUpdate t r = true → s.updateState (r.inl 0 1) = false →
    rowDeltas t t.slice (decide (r.inl 1 1 = 1)) (updEntries r.param) = [(row, ds)] → s.updateStop t [row] = none → t.slices ≤ 1 →
    Answers (.opTableUpdate c q) s fun z => Ends s z (c, q) stOk (updEntries r.param).length 0 ∧
      (∃ y, z.table? (r.inl 0 1) = some y ∧ y.epoch = t.epoch ∧
        aget y.delta row = some (List.zipWith (fun a b => wrap32 (a + b)) ((aget t.delta row).getD (List.replicate t.d 0)) ds)) ∧
      z.clusters = s.clusters) ∧
  (∀ (s : State) (c q : Nat) (r : Req) (t : Table), Registers.wf s.regs = true → s.Holds (c, q) 0x12 r → s.host.reqs = [r] →
    s.table? (r.inl 0 1) = some t → t.commit = none → s.updateState (r.inl 0 1) = false → t.slices ≤ 1 →
    Answers (.opTableCommit c q) s fun z => z.rd R.tblTstatState (r.inl 0 1) = 3 ∧ z.host.cq = s.host.cq ∧
      (∃ y, z.table? (r.inl 0 1) = some y ∧ y.delta = [] ∧ y.epoch = t.epoch ∧ y.cur = t.cur ∧
        y.commit = some ⟨c, q, false, 0, [], [], [], none, false⟩)) ∧
  (∀ (s : State) (slot : Nat) (t : Table) (c : TabCommit) (o : Obj) (x : Requant), s.table? slot = some t → t.commit = some c →
    s.obj? t.object = some o → c.staged = false → c.remote = false → t.moving = 0 → t.spareBusy = false → t.slices ≤ 1 →
    (s.hostRowsReady (c.client, c.req) t o).2 = true → (List.range t.rows).foldl (fun x r => x.row (c.client, c.req) t o r)
      ⟨(s.hostRowsReady (c.client, c.req) t o).1, 0, [], [], 0⟩ = x → x.stop = 0 →
    (t.tiered = true → ({ t with resid := x.resid }.residRows).length ≤ t.residCap) →
    Answers (.tableCommitRequantize slot) s fun z => z.host.cq = s.host.cq ∧ ∃ y, z.table? slot = some y ∧ y.cur = t.cur ∧
      y.commit = some { c with staged := true, clipped := x.clipped, residuals := x.resid, rowsDigest := digest256 x.rows }) ∧
  (∀ (s : State) (slot : Nat) (t : Table) (c : TabCommit) (r : Req), Registers.wf s.regs = true → slot < 256 → s.table? slot = some t →
    t.commit = some c → c.staged = true → t.slices ≤ 1 → s.Holds (c.client, c.req) 0x12 r →
    Answers (.tableFlip slot) s fun z => Ends s z (c.client, c.req) stOk ((t.epoch + 1) % 2 ^ 32) c.clipped ∧
      z.rd R.tblTstatEpoch slot = (t.epoch + 1) % 2 ^ 32 ∧
      (∃ y, z.table? slot = some y ∧ y.cur = 1 - t.cur ∧ y.commit = none ∧ y.digest = digest256 (t.digest ++ c.rowsDigest) ∧
        y.epoch = (t.epoch + 1) % 2 ^ 32) ∧ z.clusters = s.clusters) ∧
  (∀ (s : State) (slot u : Nat) (t : Table) (c : TabCommit) (r : Req), s.table? slot = some t → t.commit = some c → c.staged = true →
    c.tf = some u → u ≤ s.now → s.Holds (c.client, c.req) 0x12 r →
    Answers (.tableFlipAtTf slot) s fun z => Ends s z (c.client, c.req) stOk ((t.epoch + 1) % 2 ^ 32) c.clipped ∧
      (∃ y, z.table? slot = some y ∧ y.cur = 1 - t.cur ∧ y.commit = none ∧ y.epoch = (t.epoch + 1) % 2 ^ 32) ∧ z.clusters = s.clusters) ∧
  (∀ (s : State) (slot h i : Nat) (t : Table) (c : TabCommit) (m : FabMsg), s.table? slot = some t → t.commit = some c →
    c.remote = false → 1 < t.slices → c.staged = true → c.acks = [h] → c.tf = none → t.others.any s.unreachable = false →
    s.fab.inbox = [(i, m)] → m.src = h → m.kind = 4 →
    workKind m = 3 → workAsk m = 3 → fieldLe (workBytes (m.payload.drop 1)) 0 1 = slot →
    Answers (.splitCommitAck slot h) s fun z =>
      z.table? slot = some { t with commit := some { c with acks := [], tf := some (s.now + 1000 * s.rd R.tblCtlFlipUs 0) } } ∧
      z.fab.inbox = [] ∧ SameRegs laneKeys s z ∧ z.mem = s.mem) ∧
  (∀ (s : State) (m : FabMsg) (t : Table) (c : TabCommit), s.fab.inbox = [] → m.kind = 4 → workKind m = 3 → workAsk m = 4 →
    bitsOf (fabWord m 0) 95 64 ≤ 1 → s.fab.work = [] → s.table? (fieldLe (workBytes (m.payload.drop 1)) 0 1) = some t → t.commit = some c →
    s.now ≤ fieldLe (workBytes (m.payload.drop 1)) 1 8 →
    Answers (.splitTableForward m) s fun z => z.table? (fieldLe (workBytes (m.payload.drop 1)) 0 1) =
        some { t with commit := some { c with tf := some (fieldLe (workBytes (m.payload.drop 1)) 1 8) } } ∧ z.regs = s.regs ∧ z.mem = s.mem) ∧
  (∀ (s : State) (slot e : Nat) (t : Table), s.tables = [(slot, t)] → e ≠ t.epoch → (∀ p ∈ t.pins, p.2 ≠ e) → t.slices ≤ 1 →
    (∃ d ∈ t.digests, d.1 = e) →
    Answers (.tablePinDrain slot e) s fun z => (∃ y, z.table? slot = some y ∧ (∀ d ∈ y.digests, d.1 ≠ e) ∧
      y.freedEpochs = t.freedEpochs ++ [e]) ∧ z.regs = s.regs ∧ Keeps s z) ∧
  (∀ (s : State) (slot e f : Nat) (t : Table), s.tables = [(slot, t)] → e ≠ t.epoch → (∀ p ∈ t.pins, p.2 ≠ e) →
    aget t.flipped e = some f → f + 1000000 * s.rd R.tblCtlKeepMs 0 ≤ s.now → (∃ d ∈ t.digests, d.1 = e) →
    Answers (.keepMsExpire slot e) s fun z => (∃ y, z.table? slot = some y ∧ (∀ d ∈ y.digests, d.1 ≠ e) ∧
      y.freedEpochs = t.freedEpochs ++ [e]) ∧ z.regs = s.regs ∧ Keeps s z) ∧
  (∀ (s : State) (slot row : Nat) (t : Table) (o : Obj) (x : RowRead), Registers.wf s.regs = true → slot < 256 → s.table? slot = some t →
    s.obj? t.object = some o → (t.rowMap row).moving = true → t.updatable = false → t.delta = [] →
    t.pins = [] → t.slices ≤ 1 → s.host.ats = [] →
    (s.rowRead o.placer (migNeed slot row) t o t.cur row (t.rowMap row).tier (t.rowMap row).slot hubMaster).2 = x → x.stop = 0 →
    ((t.rowMap row).newTier = 0 →
      s.ownsRange t.part (t.copyAddr t.cur row (t.rowMap row).newSlot) (padTo t.stride x.bytes).length = true) →
    Answers (.migrationCopyDone slot row) s fun z => z.rd R.tblTstatMoving slot = s.rd R.tblTstatMoving slot - 1 ∧
      (∃ y, z.table? slot = some y ∧ y.rowMap row = ⟨(t.rowMap row).newTier, (t.rowMap row).newSlot, false, 0, 0⟩) ∧
      z.host.cq = s.host.cq ∧ z.clusters = s.clusters)

/-- Tier 2. Text (R175, R179 to R181, R326): an accepted Zest command queues its task and names its stream; the engine that finishes it writes the
tokens, or the bytes, ends the request and keeps or frees the stream. -/
def Obligations.TextCommandsComplete : Prop :=
  (∀ (s : State) (c q : Nat) (r : Req) (v : Vocab), s.Holds (c, q) 0x01 r → r.ran = false → aget s.vocabs (r.inl 0 1) = some v →
    Answers (.opTokenize c q) s fun t =>
      t.tasks = s.tasks ++ [⟨.zest, r.part, c, q, r.order, some (64 * c + r.inl 1 1), [r.param], none, 0⟩] ∧ t.host.cq = s.host.cq ∧
      t.regs = s.regs ∧ t.mem = s.mem) ∧
  (∀ (s : State) (c q : Nat) (r : Req) (v : Vocab), s.Holds (c, q) 0x02 r → r.ran = false → aget s.vocabs (r.inl 0 1) = some v →
    Answers (.opDetokenize c q) s fun t =>
      t.tasks = s.tasks ++ [⟨.zest, r.part, c, q, r.order, some (64 * c + r.inl 1 1), [r.param], none, 0⟩] ∧ t.host.cq = s.host.cq ∧
      t.regs = s.regs ∧ t.mem = s.mem) ∧
  (∀ (s : State) (c q e z : Nat) (r : Req) (k : Task) (v : Vocab), s.tasks = [k] → k.kind = .zest → k.engine = some e → k.stream = some z →
    (k.client, k.req) = (c, q) → s.Holds (c, q) 0x01 r → aget s.vocabs (r.inl 0 1) = some v → isDev (r.d 32 8) = false → s.host.ats = [] →
    (tokenize v ((aget s.streams z).getD (ZStream.fresh (r.inl 0 1) false)) r.param (!bitOf (r.inl 2 1) 0)).out ≠ [] →
    Answers (.engineTaskDone .zest e) s fun t => t.tasks = [] ∧
      (∃ d, Ends s t (c, q) stOk
        (tokenize v ((aget s.streams z).getD (ZStream.fresh (r.inl 0 1) false)) r.param (!bitOf (r.inl 2 1) 0)).out.length d) ∧
      (∃ w ∈ t.host.dma, w.addr = r.d 32 8 ∧ w.bytes =
        (tokenize v ((aget s.streams z).getD (ZStream.fresh (r.inl 0 1) false)) r.param (!bitOf (r.inl 2 1) 0)).out.flatMap (leBytes 4)) ∧
      t.clusters = s.clusters) ∧
  (∀ (s : State) (c q e z : Nat) (r : Req) (k : Task) (v : Vocab), s.tasks = [k] → k.kind = .zest → k.engine = some e → k.stream = some z →
    (k.client, k.req) = (c, q) → s.Holds (c, q) 0x02 r → aget s.vocabs (r.inl 0 1) = some v → isDev (r.d 32 8) = false → s.host.ats = [] →
    (∀ g ∈ s.gens, (g.client, g.req) ≠ (c, q)) →
    Answers (.engineTaskDone .zest e) s fun t => t.tasks = [] ∧ t.clusters = s.clusters ∧
      ∃ y, detokenize v ((aget s.streams z).getD (ZStream.fresh (r.inl 0 1) true)) (words4 r.param) (bitOf (r.inl 2 1) 1)
          (!bitOf (r.inl 2 1) 0) = y ∧ Ends s t (c, q) stOk y.2.length y.1.invalid ∧
        (bitOf (r.inl 2 1) 0 = true → aget t.streams z = some y.1))

/-- Tier 2. Packing (R182 to R186): an accepted OP_PACK reads its inputs and queues its Punnet task, or ends with ST_NO_RESOURCE where the fixed
parts alone pass BUDGET; the engine that finishes it writes the arrays, the source map and the record and ends the request. -/
def Obligations.PackCommandsComplete : Prop :=
  (∀ (s : State) (c q : Nat) (r : Req) (h ins heads all : List (List Byte)) (e : Nat) (es : List Nat), s.Holds (c, q) 0x08 r →
    r.ran = false → s.boundary r = none → s.engines .punnet r.part = e :: es →
    fieldLe r.packBlock 12 4 + fieldLe r.packBlock 24 4 + (pkClose r.packBlock).length ≤ pkBudget r.packBlock →
    (s.peek (c, q) [(fieldLe r.packBlock 40 8, 32)] (engineSite .punnet e, engineMaster .punnet e)).2 = some h →
    1 ≤ listK (h.getD 0 []) → listK (h.getD 0 []) ≤ 4096 →
    (s.peek (c, q) [(fieldLe r.packBlock 16 8, 4 * fieldLe r.packBlock 12 4), (fieldLe r.packBlock 32 8, 4 * fieldLe r.packBlock 24 4),
      (fieldLe r.packBlock 40 8, listSize (listK (h.getD 0 []))), (fieldLe r.packBlock 48 8, 8 * listK (h.getD 0 []))]
      (engineSite .punnet e, engineMaster .punnet e)).2 = some ins →
    (s.peek (c, q) ((recordAddrs (ins.getD 2 []) (ins.getD 3 [])).map fun a => match a with | some x => (x, 32) | none => (0, 0))
      (engineSite .punnet e, engineMaster .punnet e)).2 = some heads →
    (∀ x ∈ heads, fieldLe x 20 4 ≤ 65536) →
    (s.gather (c, q) ([(fieldLe r.packBlock 16 8, 4 * fieldLe r.packBlock 12 4), (fieldLe r.packBlock 32 8, 4 * fieldLe r.packBlock 24 4),
      (fieldLe r.packBlock 40 8, listSize (listK (h.getD 0 []))), (fieldLe r.packBlock 48 8, 8 * listK (h.getD 0 []))] ++
      ((recordAddrs (ins.getD 2 []) (ins.getD 3 [])).zip heads).map fun y => match y.1 with
        | some x => (x, 32 + 4 * fieldLe y.2 20 4)
        | none => (0, 0)) (engineSite .punnet e, engineMaster .punnet e)).2 = some all →
    Answers (.opPack c q) s fun t =>
      t.tasks = s.tasks ++ [⟨.punnet, r.part, c, q, r.order, none,
        packInputs (all.getD 0 []) (all.getD 1 []) (all.getD 2 []) (all.drop 4), none, 0⟩] ∧ t.host.cq = s.host.cq) ∧
  (∀ (s : State) (c q : Nat) (r : Req), s.Holds (c, q) 0x08 r → r.ran = false → s.boundary r = none →
    pkBudget r.packBlock < fieldLe r.packBlock 12 4 + fieldLe r.packBlock 24 4 + (pkClose r.packBlock).length →
    Answers (.opPack c q) s fun t => Ends s t (c, q) stNoResource 0 0 ∧ t.clusters = s.clusters) ∧
  (∀ (s : State) (c q e : Nat) (r : Req) (k : Task), s.tasks = [k] → k.kind = .punnet → k.engine = some e → (k.client, k.req) = (c, q) →
    s.Holds (c, q) 0x08 r → pkTreeEn r.packBlock = false → r.d 32 8 < 2 ^ 62 → r.d 40 8 < 2 ^ 62 → s.host.ats = [] → (k.pack r).tokens ≠ [] →
    (∀ m ∈ s.probes, (m.client, m.req) ≠ (c, q)) →
    Answers (.engineTaskDone .punnet e) s fun t => t.tasks = [] ∧ Ends s t (c, q) stOk (k.pack r).tokens.length 0 ∧
      (∃ w ∈ t.host.dma, w.addr = r.d 32 8 ∧ w.bytes = (k.pack r).tokens.flatMap (leBytes 4)) ∧
      (∃ w ∈ t.host.dma, w.addr = r.d 40 8 ∧ w.bytes = (k.pack r).record 0 q) ∧ t.clusters = s.clusters)

/-- Tier 2. The engines of the hub (R189, R326): the first task that may run takes a free engine; a probe that hits pins the node, one that misses
ends the match. -/
def Obligations.EngineCommandsComplete : Prop :=
  (∀ (s : State) (kind : EngKind) (p e : Nat) (k : Task) (r : Req), kind ≠ .medlar → s.waitingTasks kind p = [k] →
    (s.engines kind p).find? (fun i => !s.engineBusy kind i) = some e → s.req? (k.client, k.req) = some r →
    (r.started = true ∨ s.boundary r = none) →
    Answers (.engineTaskDispatch kind p) s fun t => { k with engine := some e, startedAt := s.now } ∈ t.tasks ∧
      t.tasks.length = s.tasks.length ∧ t.host.cq = s.host.cq ∧ t.mem = s.mem) ∧
  (∀ (s : State) (e i : Nat) (m : MMatch), swf MNode.empty (s.tree m.tree).slots = true → s.probes = [m] → m.engine = some e → m.ended = false →
    (s.probe m.tree (blockKey m.key (blockTokens m.tokens m.block))).hit = some i →
    Answers (.medlarProbeReturn e []) s fun t =>
      t.node m.tree i = { s.node m.tree i with ref := (s.node m.tree i).ref + 1, used := true } ∧
      t.probes = [{ m with key := blockKey m.key (blockTokens m.tokens m.block), block := m.block + 1, matched := m.matched ++ [i],
                           ended := decide (m.tokens.length < 256 * (m.block + 2)) }] ∧
      t.host = s.host ∧ t.mem = s.mem ∧ t.gens = s.gens) ∧
  (∀ (s : State) (e : Nat) (m : MMatch), s.probes = [m] → m.engine = some e → m.ended = false →
    (s.probe m.tree (blockKey m.key (blockTokens m.tokens m.block))).hit = none →
    (s.probe m.tree (blockKey m.key (blockTokens m.tokens m.block))).dead = none →
    Answers (.medlarProbeReturn e []) s fun t => t.probes = [{ m with ended := true }] ∧ (∀ j i, t.node j i = s.node j i) ∧ t.regs = s.regs ∧
      Keeps s t)

/-- Tier 2. Ranking and model passes (R138 to R149, R327, R450): OP_TOPK writes each row's selection; OP_RERANK_EXACT writes the list of its
candidates' exact scores; OP_EMBED and OP_RERANK_MODEL queue their rows; a pass takes the queued request. -/
def Obligations.RankingCommandsComplete : Prop :=
  (∀ (s : State) (c q : Nat) (r : Req) (bs : List (List Byte)), s.Holds (c, q) 0x07 r → r.ran = false → s.boundary r = none →
    r.p 0 1 = 0 → (s.gather (c, q) ((List.range (tkRows r)).map (tkRow r))).2 = some bs → isDev (r.d 32 8) = false → s.host.ats = [] →
    Answers (.opTopk c q) s fun t =>
      Ends s t (c, q) stOk (tkRows r)
        ((((List.range (tkRows r)).map fun i => denseRow r i (bs.getD i [])).map (·.2)).foldl (· + ·) 0) ∧
      (∃ w ∈ t.host.dma, w.addr = r.d 32 8 ∧
        w.bytes = ((List.range (tkRows r)).map fun i => denseRow r i (bs.getD i [])).flatMap (·.1)) ∧ t.clusters = s.clusters) ∧
  (∀ (s : State) (c q : Nat) (r : Req) (ls : List (List Byte)), s.Holds (c, q) 0x07 r → r.ran = false → s.boundary r = none →
    r.p 0 1 ≠ 0 → (State.readLists (tkRows r * r.p 8 4) s (c, q) (r.p 24 8) []).2 = some ls → isDev (r.d 32 8) = false → s.host.ats = [] →
    1 ≤ r.p 8 4 →
    Answers (.opTopk c q) s fun t =>
      Ends s t (c, q) stOk (tkRows r) ((((chunks (r.p 8 4) ls).map (listRow r)).map (·.2)).foldl (· + ·) 0) ∧
      (∃ w ∈ t.host.dma, w.addr = r.d 32 8 ∧ w.bytes = ((chunks (r.p 8 4) ls).map (listRow r)).flatMap (·.1)) ∧ t.clusters = s.clusters) ∧
  (∀ (s : State) (c q : Nat) (r : Req), s.Holds (c, q) 0x05 r → r.ran = false → s.boundary r = none → s.listSlots (reList r) = [] →
    isDev (r.d 32 8) = false → s.host.ats = [] →
    Answers (.opRerankExact c q) s fun t =>
      ∃ bs, bs = listBytes 4 1 0 (nanKeys (fieldLe (reList r) 6 1) (listEntries (reList r))) 0 q (rankList 4 (r.inl 0 2) []) ∧
        Ends s t (c, q) (if validOf (listEntries bs) < r.inl 0 2 then stFewResults else stOk) (validOf (listEntries bs)) 0 ∧
        (∃ w ∈ t.host.dma, w.addr = r.d 32 8 ∧ w.bytes = bs) ∧ t.clusters = s.clusters) ∧
  (∀ (s : State) (c q i : Nat) (r : Req) (x : Shard) (m : Rerank) (bs : List Byte), s.Holds (c, q) 0x05 r → s.host.reqs = [r] →
    r.ran = false → s.boundary r = none → s.listSlots (reList r) = [i] → s.shard? i = some x → x.df = r.inl 2 2 →
    (∃ p ∈ x.pins, p.1 = (c, q)) →
    ((s.updReq (c, q) fun r => { r with ran := true, started := true, shardRefs := s.shardRefs (c, q) [i], outMask := [(20, 4)] }).rerankExact
      (c, q) (r.param.take (r.inl 2 2)) (fieldLe (reList r) 6 1) (r.inl 0 2) q (listEntries (reList r))).2 = (bs, m) → m.stop = 0 →
    isDev (r.d 32 8) = false → s.host.ats = [] →
    Answers (.opRerankExact c q) s fun t =>
      Ends s t (c, q) (if validOf (listEntries bs) < r.inl 0 2 then stFewResults else stOk) (validOf (listEntries bs)) m.stale ∧
      (∃ w ∈ t.host.dma, w.addr = r.d 32 8 ∧ w.bytes = bs) ∧ t.clusters = s.clusters) ∧
  (∀ (s : State) (c q n : Nat) (r : Req) (w : WeightSet), s.Holds (c, q) 0x03 r → r.ran = false → s.boundary r = none →
    s.pinnedModel r (r.inl 0 4) = some (n, w) → (words4 r.param).length ≤ s.passRows w.part →
    Answers (.opEmbed c q) s fun t =>
      t.part w.part = { s.part w.part with
        queue := (s.part w.part).queue ++ [⟨c, q, (words4 r.param).length, r.order, 0, n, [(0, words4 r.param)]⟩] } ∧
      (∀ p, p ≠ w.part → t.part p = s.part p) ∧ t.host.cq = s.host.cq ∧ t.regs = s.regs ∧ t.mem = s.mem) ∧
  (∀ (s : State) (c q n : Nat) (r : Req) (w : WeightSet) (ins heads all : List (List Byte)) (addrs : List (Option Nat)),
    s.Holds (c, q) 0x06 r → r.ran = false → s.boundary r = none → s.pinnedModel r (r.inl 0 4) = some (n, w) →
    (s.peek (c, q) [(r.p 0 8, 4 * r.p 8 4), (r.p 16 8, 8 * listK (r.param.drop 32))]).2 = some ins →
    addrs = ((List.range (listK (r.param.drop 32))).map fun i =>
      if ((listEntries (r.param.drop 32))[i]?).any (Entry.ok (fieldLe (r.param.drop 32) 6 1)) then some (fieldLe (ins.getD 1 []) (8 * i) 8)
      else none) →
    (s.peek (c, q) (addrs.map fun a => match a with | some x => (x, 32) | none => (0, 0))).2 = some heads →
    (∀ x ∈ heads, fieldLe x 20 4 ≤ 65536) →
    (s.gather (c, q) ([(r.p 0 8, 4 * r.p 8 4), (r.p 16 8, 8 * listK (r.param.drop 32))] ++ (addrs.zip heads).map fun e => match e.1 with
      | some x => (x + 32, 4 * Nat.min (fieldLe e.2 20 4) (r.inl 6 2))
      | none => (0, 0))).2 = some all →
    pairRows (pairsOf (fieldLe (r.param.drop 32) 6 1) (listEntries (r.param.drop 32)) (words4 (all.getD 0 []))
      (fun i => words4 (all.getD (2 + i) [])) (r.inl 4 2) (r.inl 6 2)) ≤ s.passRows w.part →
    Answers (.opRerankModel c q) s fun t =>
      t.part w.part = { s.part w.part with
        queue := (s.part w.part).queue ++ [⟨c, q,
          pairRows (pairsOf (fieldLe (r.param.drop 32) 6 1) (listEntries (r.param.drop 32)) (words4 (all.getD 0 []))
            (fun i => words4 (all.getD (2 + i) [])) (r.inl 4 2) (r.inl 6 2)), r.order, 1, n,
          pairsOf (fieldLe (r.param.drop 32) 6 1) (listEntries (r.param.drop 32)) (words4 (all.getD 0 []))
            (fun i => words4 (all.getD (2 + i) [])) (r.inl 4 2) (r.inl 6 2)⟩] } ∧
      (∀ p, p ≠ w.part → t.part p = s.part p) ∧ t.host.cq = s.host.cq ∧ t.mem.cells = s.mem.cells) ∧
  (∀ (s : State) (p : Nat) (x : PassRow) (r : Req), s.running p = true → (s.part p).generation = false → (s.part p).running = none →
    (s.part p).next = none → (s.part p).queue = [x] → s.Holds (x.client, x.req) r.opcode r → s.boundary r = none →
    Answers (.passForm p) s fun t => t.part p = { s.part p with queue := [], pass := [x], next := some (passRanges [x]) } ∧
      t.host.cq = s.host.cq ∧ t.regs = s.regs ∧ t.mem = s.mem)

/-- Tier 2. Generation (R196 to R214): OP_GENERATE reads its inputs and waits; a waiting request is admitted where its blocks can be reserved, waits
where they can not now, and the sampled token joins its lane and is delivered; a poisoned logit row ends the request; a restored block is in
its frame; OP_STEP_CONTROL pauses, resumes or cancels its target. -/
def Obligations.GenerationCommandsComplete : Prop :=
  (∀ (s : State) (c q n : Nat) (r : Req) (w : WeightSet) (bufs : List (List Byte)), s.Holds (c, q) 0x0A r → r.ran = false →
    s.boundary r = none → s.pinnedModel r (r.p 0 4) = some (n, w) →
    (s.gather (c, q) ((r.p 56 8, 4 * r.p 64 4) :: genBufs r.param w.vocab)).2 = some bufs →
    goodLists (bufs.getD 2 []) (bufs.getD 3 []) = true →
    Answers (.opGenerate c q) s fun t =>
      (∃ g, t.gens = s.gens ++ [g] ∧ g.client = c ∧ g.req = q ∧ g.part = w.part ∧ g.model = n ∧ g.prompt = words4 (bufs.getD 0 []) ∧
        g.phase = .waiting ∧ g.pool = r.p 6 1 ∧ g.seed = seedOf r.param r ∧ g.reserved = 0 ∧
        g.lanes = List.replicate (r.p 16 1 + 1) Lane.fresh) ∧
      (bitOf (r.p 7 1) 3 = true → ∃ m ∈ t.probes, m.client = c ∧ m.req = q) ∧ t.host.cq = s.host.cq ∧ t.mem.cells = s.mem.cells) ∧
  (∀ (s : State) (p cls : Nat) (g : Gen) (r : Req) (x : Pool), s.gens = [g] → g.part = p → g.phase = .waiting → g.cls = cls →
    s.req? g.key = some r → s.boundary r = none → s.pool? g.pool = some x → s.probes = [] → s.mayCompose p = false →
    (g.ctl 7 && s.streamTaken (64 * g.client + g.g 46 1) g.order) = false →
    (g.ctl 7 = true → ∀ z, aget s.streams (64 * g.client + g.g 46 1) = some z → (z.slot, z.detok) = (g.g 47 1, true)) →
    blocksNeeded g.plen g.maxNew g.lanes.length g.matched + s.promised g.pool ≤ x.capacity →
    Answers (.genAdmission p cls) s fun t =>
      t.gens = [{ g with reserved := blocksNeeded g.plen g.maxNew g.lanes.length g.matched,
                         phase := if g.pos = g.plen then .decode else .prefill }] ∧
      t.regs = s.regs ∧ Keeps s t) ∧
  (∀ (s : State) (p cls : Nat) (g : Gen) (r : Req) (x : Pool), s.gens = [g] → g.part = p → g.phase = .waiting → g.cls = cls →
    s.req? g.key = some r → s.boundary r = none → s.pool? g.pool = some x → s.probes = [] →
    (g.ctl 7 = true → ∀ z, aget s.streams (64 * g.client + g.g 46 1) = some z → (z.slot, z.detok) = (g.g 47 1, true)) →
    blocksNeeded g.plen g.maxNew g.lanes.length g.matched ≤ x.capacity →
    x.capacity < blocksNeeded g.plen g.maxNew g.lanes.length g.matched + s.promised g.pool →
    Answers (.genAdmission p cls) s fun t => t.gens = s.gens ∧ t.regs = s.regs ∧ Keeps s t) ∧
  (∀ (s : State) (p : Nat) (e f : PipLane) (g : Gen) (l : Lane) (r : Req), Registers.wf s.regs = true → (s.part p).sampling = [e, f] →
    e.done = false → e.poison = false → s.unitRetired (hubSite 6 e.unit) 0 = false → f.done = false →
    (f.client, f.req) = (e.client, e.req) → s.gens = [g] → g.key = (e.client, e.req) →
    g.lanes[e.lane]? = some l → l.ended = none → l.held = [] → g.stops = [] → l.tokens.length + 1 < g.maxNew → s.Holds g.key 0x0A r →
    r.d 32 8 + (g.outBase + g.outPos) < 2 ^ 63 → s.host.ats = [] →
    Answers (.pipSample p 0 false) s fun t => (t.part p).sampling = [{ e with done := true }, f] ∧ t.clusters = s.clusters ∧
      ∀ y, g.pip.sample (s.logits g l.tokens) (g.prompt ++ l.tokens) l.tokens.length e.lane = some y →
        (∃ h m, t.gen? g.key = some h ∧ h.lanes[e.lane]? = some m ∧ m.tokens = l.tokens ++ [y.token] ∧ m.ended = none) ∧
        ∃ w ∈ t.host.dma, w.addr = r.d 32 8 + (g.outBase + g.outPos) ∧ w.bytes = y.record (g.plen + l.tokens.length) e.lane) ∧
  (∀ (s : State) (p : Nat) (e : PipLane) (g : Gen) (l : Lane) (r : Req), (s.part p).sampling = [e] → e.done = false →
    s.unitRetired (hubSite 6 e.unit) 0 = false → s.gens = [g] →
    g.key = (e.client, e.req) → g.lanes[e.lane]? = some l → s.Holds g.key 0x0A r → r.d 40 8 + g.recBase < 2 ^ 63 → s.host.ats = [] →
    (s.part p).poisonPending = [] →
    Answers (.pipSample p 0 true) s fun t => Ends s t g.key stPoison r.delivered g.matched ∧
      Raises s t ⟨0x044, hubSite 6 e.unit, 0x720 + e.unit, 0, 1, 0, s.now % 2 ^ 32⟩) ∧
  (∀ (s : State) (p b : Nat) (x : Pool) (y : PBlock) (k : ReqKey), Registers.wf s.regs = true → p < 8 → s.pool? p = some x →
    aget x.blocks b = some y → y.restoring = some k → s.mayCompose x.part = false → (s.part x.part).next = none → y.node = none →
    Answers (.poolRestoreDone p b) s fun t =>
      (∃ z, t.pool? p = some z ∧ aget z.blocks b = some { y with flash := false, restoring := none }) ∧
      t.rd R.mdlPstatSpilled p = s.rd R.mdlPstatSpilled p - 1 ∧
      t.mem.cells = (s.flashToDev k.1 (x.frameAddr y.frame) (x.spillLsns y.place)).mem.cells ∧ t.gens = s.gens ∧ t.host = s.host ∧
      t.clusters = s.clusters) ∧
  (∀ (s : State) (c q : Nat) (r : Req) (g : Gen), s.Holds (c, q) 0x0B r → r.ran = false → r.inl 4 1 = 0 → r.inl 0 4 ≠ q →
    s.live (c, r.inl 0 4) = true → s.gens = [g] → g.key = (c, r.inl 0 4) → s.hostHeld g.key = some false →
    (s.part g.part).running.isSome = true →
    Answers (.stepControlPause c q) s fun t => Ends s t (c, q) stOk 0 0 ∧ t.gens = [{ g with controls := g.controls ++ [true] }] ∧
      t.clusters = s.clusters) ∧
  (∀ (s : State) (c q : Nat) (r : Req) (g : Gen), s.Holds (c, q) 0x0B r → r.ran = false → r.inl 4 1 = 1 → r.inl 0 4 ≠ q →
    s.live (c, r.inl 0 4) = true → s.gens = [g] → g.key = (c, r.inl 0 4) → s.hostHeld g.key = some true →
    (s.part g.part).running.isSome = true →
    Answers (.stepControlResume c q) s fun t => Ends s t (c, q) stOk 0 0 ∧ t.gens = [{ g with controls := g.controls ++ [false] }] ∧
      t.clusters = s.clusters) ∧
  (∀ (s : State) (c q : Nat) (r x : Req), s.Holds (c, q) 0x0B r → r.ran = false → r.inl 4 1 = 2 → r.inl 0 4 ≠ q →
    s.Holds (c, r.inl 0 4) 0x0A x → (∀ g ∈ s.gens, (s.part g.part).running.isSome = true) →
    Answers (.stepControlCancel c q) s fun t => Ends s t (c, q) stOk 0 0 ∧
      t.req? (c, r.inl 0 4) = some { x with cancelAt := some (x.cancelAt.getD s.now) } ∧ t.clusters = s.clusters) ∧
  (∀ (s : State) (c q : Nat) (r : Req), s.Holds (c, q) 0x0B r → r.ran = false → r.inl 4 1 = 0 → s.live (c, r.inl 0 4) = false →
    Answers (.stepControlPause c q) s fun t => Ends s t (c, q) stState 0 0 ∧ t.clusters = s.clusters)

/-- Tier 2. Steps and passes (R61, R218, R247 to R250, R327, R328): a step whose run goes on leaves its live rows for the next; the end of a pass
writes each request's output and ends it; the end of a decode step hands its lane to a Pip unit; a prompt whose last chunk has run decodes;
the begin message starts the composed step; a prefetch entry is copied; routing writes the groups and counts a token at every cluster. -/
def Obligations.StepCommandsComplete : Prop :=
  (∀ (s : State) (p n e g : Nat) (rows : List StepRow), s.running p = true → (s.part p).running = some rows → s.allEnded p = true →
    (∀ x ∈ (s.part p).checks, x.done = true) → (s.part p).poisonPending = [] →
    (∀ cl, (s.cluster cl).eventsSent = [] ∧ (s.cluster cl).poisonRows = [] ∧ (s.cluster cl).poisonReads = []) →
    Answers (.stepComplete p n e g false) s fun t => (t.part p).running = none ∧ (t.part p).checks = [] ∧ (t.part p).groups = [] ∧
      (t.part p).next = (if (rows.filter fun r => s.live (r.client, r.req)).isEmpty then none
        else some (rows.filter fun r => s.live (r.client, r.req))) ∧ t.host.cq = s.host.cq ∧ t.regs = s.regs ∧ t.mem = s.mem) ∧
  (∀ (s : State) (p n e g : Nat) (rows : List StepRow) (x : PassRow) (w : WeightSet) (r : Req), s.running p = true →
    (s.part p).running = some rows → s.allEnded p = true → (∀ y ∈ (s.part p).checks, y.done = true) → (s.part p).poisonPending = [] →
    (∀ cl, (s.cluster cl).eventsSent = [] ∧ (s.cluster cl).poisonRows = [] ∧ (s.cluster cl).poisonReads = []) → (s.part p).generation = false → (s.part p).pass = [x] →
    x.stage = 0 → s.Holds (x.client, x.req) 0x03 r → r.cancelAt = none → aget s.weights x.model = some w → w.dims ≠ 0 →
    isDev (r.d 32 8) = false → s.host.ats = [] →
    Answers (.stepComplete p n e g true) s fun t => Ends s t (x.client, x.req) (if 0 < r.span then stInfoSpan else stOk) w.dims w.sketch ∧
      (t.part p).pass = [] ∧
      (t.part p).running = none ∧ ∃ d ∈ t.host.dma, d.addr = r.d 32 8 ∧ d.bytes =
        (List.range w.dims).map (Config.embedVec w.digest (s.partSize p) (x.work.headD (0, [])).2) ++
          (List.range (w.sketch / 8)).map (Config.embedSketch w.digest (s.partSize p) (x.work.headD (0, [])).2)) ∧
  (∀ (s : State) (p n e v u : Nat) (x : StepRow) (g : Gen) (r : Req), s.running p = true → (s.part p).running = some [x] →
    s.allEnded p = true → (∀ y ∈ (s.part p).checks, y.done = true) → (s.part p).poisonPending = [] →
    (∀ cl, (s.cluster cl).eventsSent = [] ∧ (s.cluster cl).poisonRows = [] ∧ (s.cluster cl).poisonReads = []) → (s.part p).generation = true → x.kind = 1 → s.gens = [g] →
    g.part = p → g.key = (x.client, x.req) → s.req? g.key = some r → s.boundary r = none → s.lacksZest g = false → s.pipUnits p = [u] →
    Answers (.stepComplete p n e v true) s fun t => (t.part p).running = none ∧ (t.part p).sampling = [⟨x.client, x.req, x.lane, u, false, false⟩] ∧
      t.gens = s.gens ∧ t.host = s.host ∧ t.mem = s.mem) ∧
  (∀ (s : State) (p n e v u : Nat) (x : StepRow) (g : Gen) (r : Req), s.running p = true → (s.part p).running = some [x] →
    s.allEnded p = true → (∀ y ∈ (s.part p).checks, y.done = true) → (s.part p).poisonPending = [] →
    (∀ cl, (s.cluster cl).eventsSent = [] ∧ (s.cluster cl).poisonRows = [] ∧ (s.cluster cl).poisonReads = []) → (s.part p).generation = true → x.kind = 2 → s.gens = [g] →
    g.part = p → g.phase = .prefill → g.key = (x.client, x.req) → g.pos + x.count = g.plen → g.insert = false → g.lanes.length = 1 →
    s.req? g.key = some r → s.boundary r = none → s.lacksZest g = false → s.pipUnits p = [u] →
    Answers (.stepComplete p n e v true) s fun t => (t.part p).running = none ∧ (t.part p).sampling = [⟨x.client, x.req, 0, u, false, false⟩] ∧
      t.gens = [{ g with pos := g.plen, phase := .decode }] ∧ t.host = s.host ∧ t.mem = s.mem) ∧
  (∀ (s : State) (p tag : Nat), Registers.wf s.regs = true → s.mayBegin p tag = true → tag ∉ (s.part p).failedTags →
    s.issuedBy p tag = [] → (s.part p).waitingIssue = [] →
    Answers (.beginMessageRelease p tag) s fun t => (t.part p).running = (s.part p).next ∧ (t.part p).next = none ∧
      (t.part p).steps = (s.part p).steps + 1 ∧ (t.part p).stepTag = tag ∧ (t.part p).startedAt = s.now ∧
      (t.part p).age = (s.part p).age + 1 ∧ (∀ cl ∈ s.partClusters p, (t.cluster cl).beginMsg = true) ∧ t.host = s.host ∧
      ((∀ x ∈ (s.part p).next.getD [], x.kind ≠ 1) → t.mem = s.mem)) ∧
  (∀ (s d : State) (p e n dst src tag y z : Nat) (w : WeightSet) (o : Obj) (failed lsns : List Nat), (s.part p).prefetch = [(e, tag)] →
    (s.part p).waitingIssue = [] → s.schedOf e = some (w, y, z, n, dst, 0, src) → s.weightObj (e / 65536) w = some o →
    s.ownsRange p dst (4096 * (n + 1)) = true →
    (List.range (n + 1)).map (fun i => flashLsn (flashParts o.places) (src + i)) = lsns →
    (s.failSectors (failed.filterMap fun i => lsns[i]?)).stepFetch p dst lsns = d →
    Answers (.prefetchEntryDone p e failed) s fun t => t.mem = d.mem ∧ (t.part p).prefetch = [] ∧
      t.host = s.host ∧ t.clusters = s.clusters) ∧
  (∀ (s : State) (p e n dst src tag tier y z : Nat) (w : WeightSet) (o : Obj) (d : List (List Byte × Bool))
    (failed : List Nat),
    (s.part p).prefetch = [(e, tag)] → (s.part p).waitingIssue = [] → s.schedOf e = some (w, y, z, n, dst, tier, src) → tier ≠ 0 →
    s.weightObj (e / 65536) w = some o → s.ownsRange p dst (4096 * (n + 1)) = true →
    (s.hostRead o.placer o.places (.prefetch p e) src (4096 * (n + 1))).2 = some d →
    Answers (.prefetchEntryDone p e failed) s fun t => t.mem = (s.writePieces dst d).mem ∧ (t.part p).prefetch = [] ∧
      t.host.cq = s.host.cq ∧ t.clusters = s.clusters) ∧
  (∀ (s : State) (p e n dst src tag tier y z : Nat) (w : WeightSet) (o : Obj) (failed : List Nat), (s.part p).prefetch = [(e, tag)] →
    (s.part p).waitingIssue = [] → s.schedOf e = some (w, y, z, n, dst, tier, src) → s.weightObj (e / 65536) w = some o →
    s.ownsRange p dst (4096 * (n + 1)) = false →
    Answers (.prefetchEntryDone p e failed) s fun t => Raises s t ⟨0x002, hubSite 5 14, hubMaster, dst, 2, 0, s.now % 2 ^ 32⟩ ∧
      y ∈ (t.part p).failedTags ∧ (t.part p).prefetch = [] ∧ t.mem = s.mem ∧ t.host = s.host) ∧
  (∀ (s : State) (p m l k n : Nat) (scores : List (List (BitVec 32))) (w : WeightSet), (s.part p).running.isSome = true →
    aget s.weights m = some w → (∀ g ∈ expertGroups n scores, ∃ c ∈ w.cache, c.1 = l ∧ c.2.1 = g.1) →
    (∀ cl, swf 0 (s.cluster cl).counters = true) →
    Answers (.expertRouting p m l scores n k) s fun t =>
      (t.part p).groups = ((s.part p).groups.filter fun g => g.1 ≠ l) ++ (expertGroups n scores).map (fun g => (l, g.1, g.2)) ∧
      t.host = s.host ∧ t.gens = s.gens ∧ t.mem = s.mem ∧ t.regs = s.regs ∧
      ∀ cl ∈ s.partClusters p, sget 0 (t.cluster cl).counters k = sget 0 (s.cluster cl).counters k + 1) ∧
  (∀ (s : State) (p m l k n e i lsn size : Nat) (rows : List Nat) (scores : List (List (BitVec 32))) (w : WeightSet) (o : Obj),
    (s.part p).running.isSome = true → aget s.weights m = some w → expertGroups n scores = [(e, rows)] →
    (w.cache.any fun c => c.1 = l && c.2.1 = e) = false → (w.cold.find? fun c => c.1 = l && c.2.1 = e) = some (l, e, lsn, size) →
    w.cacheSlotFor l [e] = some i → s.weightObj m w = some o → s.ownsRange p (w.cacheBase + i * w.cacheSlot) (4096 * size) = true →
    Answers (.expertRouting p m l scores n k) s fun t =>
      t.mem = (s.stepFetch p (w.cacheBase + i * w.cacheSlot)
        ((List.range size).map fun j => flashLsn (flashParts o.places) (lsn + j))).mem ∧
      (∃ v, aget t.weights m = some v ∧ (l, e, (s.part p).age, i) ∈ v.cache) ∧ t.host = s.host ∧ t.gens = s.gens)

/-- Tier 2. Retrieval (R11 to R18, R148 to R152, R312, R313): OP_RETRIEVE begins at stage 2 with its question; a stage that has delivered is
followed by the next one, and stage 12 writes the records and ends the request; an error of a stage, and a deadline at a boundary, end it. -/
def Obligations.RetrievalCommandsComplete : Prop :=
  (∀ (s : State) (c q : Nat) (r : Req) (v : Vocab) (ins : List (List Byte)), s.Holds (c, q) 0x09 r → r.ran = false → s.boundary r = none →
    aget s.vocabs (r.p 12 1) = some v →
    (s.gather (c, q) ([(r.p 0 8, r.p 8 4), (r.p 40 8, 4 * r.p 14 2), (0, 0)] ++
      (if r.rGen then genBufs r.rBlock (((s.pinnedModel r (fieldLe r.rBlock 0 4)).map fun e => e.2.vocab).getD 0) else []))).2 = some ins →
    (∀ w ∈ words4 (ins.getD 1 []), w < 2 ^ 28) → (r.rGen = true → goodLists (ins.getD 4 []) (ins.getD 5 []) = true) →
    (∀ e ∈ shardList (ins.getD 1 []), e.2 = s.ownId → ∀ i, s.slotOf e.1 = some i → s.mayRead (c, q) i = true) →
    Answers (.opRetrieve c q) s fun t => t.retrieves = s.retrieves ++ [Retrieve.fresh c q (shardList (ins.getD 1 []))] ∧
      t.tasks = s.tasks ++ [⟨.zest, v.part, c, q, r.order, none, [ins.getD 0 []], none, 0⟩] ∧ t.host.cq = s.host.cq ∧
      t.mem.cells = s.mem.cells) ∧
  (∀ (s : State) (c q n : Nat) (r : Req) (x : Retrieve) (w : WeightSet), s.Holds (c, q) 0x09 r → s.retrieves = [x] →
    (x.client, x.req) = (c, q) → x.stage = 2 → x.ready = true → x.error = none → s.boundary r = none →
    s.pinnedModel r (r.p 16 4) = some (n, w) → x.tokens.length ≤ s.passRows w.part →
    Answers (.retrieveStageAdvance c q) s fun t => t.retrieves = [{ x with stage := 3, ready := false }] ∧
      t.part w.part = { s.part w.part with
        queue := (s.part w.part).queue ++ [⟨c, q, x.tokens.length, r.order, 3, n, [(0, x.tokens)]⟩] } ∧ t.host.cq = s.host.cq ∧
      t.regs = s.regs ∧ t.mem = s.mem) ∧
  (∀ (s : State) (c q i h : Nat) (r : Req) (x : Retrieve), s.Holds (c, q) 0x09 r → s.retrieves = [x] →
    (x.client, x.req) = (c, q) → x.stage = 3 → x.ready = true → x.error = none → s.boundary r = none → x.shards = [(h, s.ownId)] →
    s.serve (c, q) r.rSearch [h] [h] = .slots [i] → s.mayRead (c, q) i = true → s.rd R.sloShardState i = 2 → s.searches = [] → s.fab.colls = [] →
    Answers (.retrieveStageAdvance c q) s fun t => t.retrieves = [{ x with stage := 4, ready := true }] ∧ t.searches = [] ∧
      (∃ y, t.shard? i = some y ∧ y.pinnedBy (c, q) = true) ∧
      t.fab.colls = [⟨c, q, r.p 24 2, 3, [s.ownId], [], [], [], [], [], true, false⟩] ∧ t.host = s.host ∧ t.regs = s.regs ∧ t.mem = s.mem) ∧
  (∀ (s : State) (c q i : Nat) (r : Req) (x : Retrieve) (y : Coll), s.Holds (c, q) 0x09 r → s.retrieves = [x] →
    (x.client, x.req) = (c, q) → x.stage = 4 → x.ready = true → x.error = none → s.boundary r = none →
    (x.shardsOf s.ownId).filterMap s.slotOf = [i] → (s.shard? i).isSome = true → s.searches = [] → s.fab.colls = [y] →
    (y.client, y.req) = (c, q) → y.participants ≠ [] → y.lists = [] →
    Answers (.retrieveStageAdvance c q) s fun t => t.retrieves = [{ x with stage := 5, ready := false }] ∧
      (∃ z, t.searches = [z] ∧ z.slots = [i] ∧ z.sketch = x.sketch ∧ z.origin = none) ∧ t.walks.length = s.walks.length + 4 ∧
      t.fab = s.fab ∧ t.host = s.host ∧ t.regs = s.regs ∧ t.mem = s.mem) ∧
  (∀ (s : State) (c q : Nat) (r : Req) (x : Retrieve), s.Holds (c, q) 0x09 r → s.retrieves = [x] → (x.client, x.req) = (c, q) →
    x.stage = 9 → x.ready = true → x.error = none → s.boundary r = none → (∀ e ∈ listEntries x.list2, e.ok 4 = false) →
    Answers (.retrieveStageAdvance c q) s fun t => t.retrieves =
        [{ x with stage := 10, list3 := listBytes 4 1 0 0 0 q (rankList 4 (r.p 28 2) []), ready := true }] ∧ t.regs = s.regs ∧ Keeps s t) ∧
  (∀ (s : State) (c q : Nat) (r : Req) (x : Retrieve) (pre : List (List Byte)), s.Holds (c, q) 0x09 r → s.retrieves = [x] →
    (x.client, x.req) = (c, q) → x.stage = 10 → x.ready = true → x.error = none → s.boundary r = none →
    fieldLe r.packBlock 12 4 + x.tokens.length + (pkClose r.packBlock).length ≤ pkBudget r.packBlock →
    (s.gather (c, q) [(fieldLe r.packBlock 16 8, 4 * fieldLe r.packBlock 12 4)]).2 = some pre →
    Answers (.retrieveStageAdvance c q) s fun t => t.retrieves = [{ x with stage := 11, ready := false }] ∧
      (∃ k ∈ t.tasks, k.kind = .punnet ∧ k.client = c ∧ k.req = q ∧ k.engine = none ∧ k.input.getD 2 [] = x.list3) ∧
      t.host.cq = s.host.cq ∧ t.mem.cells = s.mem.cells) ∧
  (∀ (s : State) (c q : Nat) (r : Req) (x : Retrieve), s.Holds (c, q) 0x09 r → s.retrieves = [x] → (x.client, x.req) = (c, q) →
    x.stage = 11 → x.ready = true → x.error = none → s.boundary r = none → r.rGen = false → r.d 32 8 < 2 ^ 62 → r.d 40 8 < 2 ^ 62 →
    s.host.ats = [] → x.packRecord ≠ [] →
    Answers (.retrieveStageAdvance c q) s fun t =>
      Ends s t (c, q) (if x.few || decide (validOf (listEntries x.list3) < r.p 28 2) then stFewResults
        else if 0 < r.span then stInfoSpan else stOk) x.packTokens.length x.matchBlocks ∧
      (∃ w ∈ t.host.dma, w.addr = r.d 40 8 ∧ w.bytes = x.record r.span) ∧
      (∃ w ∈ t.host.dma, w.addr = r.d 32 8 ∧ w.bytes = x.packRecord) ∧ t.clusters = s.clusters) ∧
  (∀ (s : State) (c q st : Nat) (r : Req) (x : Retrieve), s.Holds (c, q) 0x09 r → s.retrieves = [x] → (x.client, x.req) = (c, q) →
    x.ready = true → (x.error = some st ∨ x.error = none ∧ s.boundary r = some st) →
    Answers (.retrieveStageAdvance c q) s fun t => Ends s t (c, q) st 0 0 ∧ t.clusters = s.clusters ∧
      (16 ≤ st → s.gen? (c, q) = none → (∀ e ∈ r.recImg, e.1 ≠ 0) → r.d 40 8 < 2 ^ 62 → s.host.ats = [] → ∃ w ∈ t.host.dma, w.addr = r.d 40 8 ∧ w.bytes = x.record r.span))

/-- Tier 2. Collectives (R13 to R15, R123, R142 to R144, R286, R287): a contribution waits for the others, and the last one ends the stage; a
merged list is re-ranked and answered; a report, an unreachable participant and a timeout end the request at its boundary; a query begins
its search here; passages end stage 9. -/
def Obligations.CollectiveCommandsComplete : Prop :=
  (∀ (s : State) (m : FabMsg) (x : Coll) (p : Nat), s.fab.inbox = [] → s.fab.colls = [x] → x.req = m.request → x.done = false →
    m.src ∈ x.participants → m.kind = 5 → m.poison = [] → bitsOf (fabWord m 0) 47 44 = x.keyType → x.keyType ≠ 0 →
    bitsOf (fabWord m 0) 15 0 = 0 → bitsOf (fabWord m 0) 31 16 = 1 → x.frags = [] → (∀ l ∈ x.lists, l.1 ≠ m.src) → p ∈ x.participants →
    p ≠ m.src → (∀ l ∈ x.lists, l.1 ≠ p) →
    Answers (.contrib m) s fun t => (∃ y, t.fab.colls = [y] ∧ y.done = false ∧
        y.lists = x.lists ++ [(m.src, (m.payload.drop 1).flatMap fun w => leBytes 16 w.toNat)]) ∧ t.retrieves = s.retrieves ∧
      t.regs = s.regs ∧ Keeps s t) ∧
  (∀ (s : State) (m : FabMsg) (x : Coll) (y : Retrieve), s.fab.inbox = [] → s.fab.colls = [x] → x.req = m.request → x.done = false →
    x.participants = [m.src] → m.kind = 5 → m.poison = [] → bitsOf (fabWord m 0) 47 44 = 4 → x.keyType = 4 →
    bitsOf (fabWord m 0) 15 0 = 0 → bitsOf (fabWord m 0) 31 16 = 1 → x.frags = [] → x.lists = [] → s.retrieves = [y] →
    (y.client, y.req) = (x.client, x.req) → y.stage = 7 → (s.req? (x.client, x.req)).bind s.boundary = none →
    Answers (.contrib m) s fun t => ∃ l, l = mergedList 4 x.k x.req [(m.src, (m.payload.drop 1).flatMap fun w => leBytes 16 w.toNat)] ∧
      t.retrieves = [{ y with list2 := l, stale := listStale l, few := y.few || decide (validOf (listEntries l) < x.k), stage := 8,
                              ready := true }] ∧ (∀ z ∈ t.fab.colls, z.done = true) ∧ t.regs = s.regs ∧ Keeps s t) ∧
  (∀ (s : State) (m : FabMsg) (k : ReqKey) (r : Req), s.fab.inbox = [] → s.remoteWork m.src m.request = [k] → s.req? k = some r →
    m.poison = [] → s.fab.results = [] → bitsOf (fabWord m 0) 15 0 = 0 → bitsOf (fabWord m 0) 31 16 = 2 →
    Answers (.result m) s fun t =>
      t.fab.results = [(m.request, m.src, 0, 2, m.payload.drop 1)] ∧ t.host = s.host ∧ t.regs = s.regs ∧ t.mem = s.mem) ∧
  (∀ (s : State) (m : FabMsg) (k : ReqKey) (r : Req) (o : Remote) (p : Nat), s.fab.inbox = [] → s.remoteWork m.src m.request = [k] →
    s.req? k = some r → s.originOf k = some o → s.route o.src = some p → m.poison = [] → s.fab.results = [] →
    bitsOf (fabWord m 0) 15 0 = 0 → bitsOf (fabWord m 0) 31 16 = 1 → s.shards = [] → fieldLe r.param 74 2 ≤ 1000 →
    Answers (.result m) s fun t => t.fab.results = [] ∧
      (∃ x : FabMsg, t.Carries p x ∧ x.kind = 5 ∧ x.dst = o.src ∧ x.request = o.req) ∧ SameRegs laneKeys s t ∧ Keeps s t) ∧
  (∀ (s : State) (m : FabMsg) (k : ReqKey) (y : Retrieve), s.fab.inbox = [] → s.askedOf m.request m.src = [k] →
    s.remoteWork m.src m.request = [] → (∀ e ∈ s.tables, e.2.commit = none ∧ e.2.updates = []) → s.retrieves = [y] →
    (y.client, y.req) = k → y.error = none →
    Answers (.error m) s fun t => t.retrieves = [{ y with error := some (fabWord m 0 % 2 ^ 16), ready := true }] ∧
      (∀ z ∈ t.fab.colls, (z.client, z.req) ≠ k) ∧ SameRegs laneKeys s t ∧ Keeps s t) ∧
  (∀ (s : State) (m : FabMsg) (k : ReqKey) (y : Retrieve), s.fab.inbox = [] → s.askedOf m.request (fabWord m 0 % 2 ^ 12) = [k] →
    s.remoteWork (fabWord m 0 % 2 ^ 12) m.request = [] → (∀ e ∈ s.tables, e.2.commit = none ∧ e.2.updates = []) → s.retrieves = [y] →
    (y.client, y.req) = k → y.error = none →
    Answers (.unreach m) s fun t => t.retrieves = [{ y with error := some stNoResource, ready := true }] ∧
      (∀ z ∈ t.fab.colls, (z.client, z.req) ≠ k) ∧ t.clusters = s.clusters ∧
      Raises s t ⟨0x087, portSite ((s.route m.src).getD 0), portMaster ((s.route m.src).getD 0), 0, 4, 0, s.now % 2 ^ 32⟩) ∧
  (∀ (s : State) (q p u : Nat) (x : Coll) (y : Retrieve), s.fab.colls = [x] → x.req = q → x.done = false → x.order = [(p, u)] →
    (∀ l ∈ x.lists, l.1 ≠ p) → u + 1000000 * s.rd R.optCfgCollMs 0 ≤ s.now → (∀ e ∈ s.tables, e.2.commit = none ∧ e.2.updates = []) →
    s.retrieves = [y] → (y.client, y.req) = (x.client, x.req) → y.error = none →
    Answers (.collectiveTimeout q p) s fun t => t.retrieves = [{ y with error := some stNoResource, ready := true }] ∧
      t.fab.colls = [] ∧ SameRegs laneKeys s t ∧ Keeps s t) ∧
  (∀ (s : State) (m : FabMsg) (l : List Nat), s.fab.inbox = [] → s.fab.work = [] → m.kind = 4 → workKind m = 1 → m.poison = [] →
    bitsOf (fabWord m 0) 95 64 ≤ 1 →
    s.serve (0, 0) ((workBytes (m.payload.drop 1)).take 64) (qShards (workBytes (m.payload.drop 1)))
      (qNamed (workBytes (m.payload.drop 1))) = .slots l →
    Answers (.queryFanout m) s fun t => (∃ r ∈ t.host.reqs, r.remote = some m.src ∧ r.id = m.request) ∧
      (∃ x ∈ t.searches, x.origin = some m.src ∧ x.req = m.request ∧ x.slots = l ∧ x.sketch = qSketch (workBytes (m.payload.drop 1))) ∧
      t.walks.length = s.walks.length + 4 * l.length ∧ t.host.cq = s.host.cq ∧ t.mem = s.mem) ∧
  (∀ (s : State) (m : FabMsg) (x : Coll) (y : Retrieve) (r : Req), s.fab.inbox = [] → s.fab.work = [] → m.kind = 4 → workKind m = 2 →
    workAsk m = 1 → m.poison = [] → bitsOf (fabWord m 0) 95 64 ≤ 1 → s.fab.colls = [x] → (x.client, x.req) = (workClient m, m.request) →
    x.keyType = 0 → x.done = false → x.participants = [m.src] → x.lists = [] → s.retrieves = [y] → (y.client, y.req) = (x.client, x.req) →
    y.stage = 9 → s.req? (x.client, x.req) = some r →
    Answers (.queryFanout m) s fun t => t.fab.colls = [] ∧
      (∃ z, t.retrieves = [z] ∧ z.stage = 9 ∧ z.ready = true ∧ z.records = answerPassages (workBytes (m.payload.drop 1))) ∧
      t.host.cq = s.host.cq ∧ t.regs = s.regs ∧ t.mem = s.mem)

end
end

