-- ==== Sys2Proof/Laws/Eff.lean ====
section
/-! SUPPORT. What an operation can change, said once: `Eff k s t` bounds the components of the state that differ between `s` and
`t`, and says that the canonical forms are kept. -/

namespace Sys2Proof.Machine



/-- From `s` to `t` only components in mask `k` change, and the canonical forms are kept. -/
structure Eff (k : Nat) (s t : State) : Prop where
  same : ∀ c : Comp, k.testBit c.bit = false → c.same s t
  regs : Registers.wf s.regs = true → Registers.wf t.regs = true
  cells : Memory.wf s.mem.cells = true → Memory.wf t.mem.cells = true

/-- Is mask `a` part of mask `b`? -/
def subMask (a b : Nat) : Bool := (a &&& b) == a

theorem subMask_trans {a b c : Nat} (h : subMask a b = true) (h' : subMask b c = true) : subMask a c = true := by
  have e : a &&& b = a := by simpa [subMask] using h
  have e' : b &&& c = b := by simpa [subMask] using h'
  rw [subMask, beq_iff_eq, ← e, Nat.and_assoc, e']

theorem subMask_testBit {a b i : Nat} (h : subMask a b = true) (hb : b.testBit i = false) : a.testBit i = false := by
  have h' : a &&& b = a := by simpa [subMask] using h
  rw [← h', Nat.testBit_and, hb, Bool.and_false]

theorem Comp.same_refl (c : Comp) (s : State) : c.same s s := by cases c <;> rfl

theorem Comp.same_trans {c : Comp} {s t u : State} (h : c.same s t) (h' : c.same t u) : c.same s u := by
  cases c
  case memory => simp only [Comp.same] at *; rw [h', h]
  all_goals exact Eq.trans h' h

theorem Eff.refl (k : Nat) (s : State) : Eff k s s := ⟨fun c _ => c.same_refl s, id, id⟩

/-- An operation that stays in its mask, after steps that stay in a larger one. -/
theorem Eff.step {a k : Nat} {s x y : State} (h : Eff a x y) (hs : subMask a k = true) (h0 : Eff k s x) : Eff k s y :=
  ⟨fun c hc => Comp.same_trans (h0.same c hc) (h.same c (subMask_testBit hs hc)), fun w => h.regs (h0.regs w),
    fun w => h.cells (h0.cells w)⟩

theorem Eff.mono {a k : Nat} {s t : State} (h : Eff a s t) (hs : subMask a k = true) : Eff k s t := h.step hs (Eff.refl k s)

/-- A state in between. -/
theorem Eff.cut {k : Nat} {s t : State} (x : State) (h : Eff k s x) (h' : Eff k s x → Eff k s t) : Eff k s t := h' h

/-- A fold of operations that stay in the mask. -/
theorem Eff.foldl {α : Type} {k : Nat} {f : State → α → State} (hf : ∀ s a, Eff k s (f s a)) {l : List α} {s x : State}
    (h : Eff k s x) : Eff k s (l.foldl f x) := by
  induction l generalizing x with
  | nil => exact h
  | cons a l ih => exact ih ((hf x a).step (by simp [subMask]) h)

/-- A fold that carries a value beside the state. -/
theorem Eff.foldl_fst {α β : Type} {k : Nat} {f : State × β → α → State × β} (hf : ∀ s b a, Eff k s (f (s, b) a).1) {l : List α}
    {s : State} {x : State × β} (h : Eff k s x.1) : Eff k s (l.foldl f x).1 := by
  induction l generalizing x with
  | nil => exact h
  | cons a l ih => exact ih ((hf x.1 x.2 a).step (by simp [subMask]) h)

/-- A command whose next states stay in the mask. -/
def OutEff (k : Nat) (s : State) (o : Out) : Prop := ∀ t, o = .next t → Eff k s t

theorem OutEff.next {k : Nat} {s t : State} (h : Eff k s t) : OutEff k s (.next t) := fun _ e => by cases e; exact h

theorem OutEff.mono {a k : Nat} {s : State} {o : Out} (h : OutEff a s o) (hs : subMask a k = true) : OutEff k s o :=
  fun t e => (h t e).mono hs


theorem State.putFreeCtr_eff (s : State) (v) : Eff 2 s (s.putFreeCtr v) :=
  ⟨fun c h => by cases c <;> first | rfl | exact absurd h (by decide), id, id⟩

theorem State.putNow_eff (s : State) (v) : Eff 4 s (s.putNow v) :=
  ⟨fun c h => by cases c <;> first | rfl | exact absurd h (by decide), id, id⟩

theorem State.putHost_eff (s : State) (v) : Eff 16 s (s.putHost v) :=
  ⟨fun c h => by cases c <;> first | rfl | exact absurd h (by decide), id, id⟩

theorem State.putMbx_eff (s : State) (v) : Eff 32 s (s.putMbx v) :=
  ⟨fun c h => by cases c <;> first | rfl | exact absurd h (by decide), id, id⟩

theorem State.putAccts_eff (s : State) (v) : Eff 64 s (s.putAccts v) :=
  ⟨fun c h => by cases c <;> first | rfl | exact absurd h (by decide), id, id⟩

theorem State.putSnaps_eff (s : State) (v) : Eff 128 s (s.putSnaps v) :=
  ⟨fun c h => by cases c <;> first | rfl | exact absurd h (by decide), id, id⟩

theorem State.putFaults_eff (s : State) (v) : Eff 256 s (s.putFaults v) :=
  ⟨fun c h => by cases c <;> first | rfl | exact absurd h (by decide), id, id⟩

theorem State.putFlash_eff (s : State) (v) : Eff 1024 s (s.putFlash v) :=
  ⟨fun c h => by cases c <;> first | rfl | exact absurd h (by decide), id, id⟩

theorem State.putClusters_eff (s : State) (v) : Eff 2048 s (s.putClusters v) :=
  ⟨fun c h => by cases c <;> first | rfl | exact absurd h (by decide), id, id⟩

theorem State.putPkg_eff (s : State) (v) : Eff 4096 s (s.putPkg v) :=
  ⟨fun c h => by cases c <;> first | rfl | exact absurd h (by decide), id, id⟩

theorem State.putParts_eff (s : State) (v) : Eff 8192 s (s.putParts v) :=
  ⟨fun c h => by cases c <;> first | rfl | exact absurd h (by decide), id, id⟩

theorem State.putObjs_eff (s : State) (v) : Eff 16384 s (s.putObjs v) :=
  ⟨fun c h => by cases c <;> first | rfl | exact absurd h (by decide), id, id⟩

theorem State.putWeights_eff (s : State) (v) : Eff 32768 s (s.putWeights v) :=
  ⟨fun c h => by cases c <;> first | rfl | exact absurd h (by decide), id, id⟩

theorem State.putAdapters_eff (s : State) (v) : Eff 65536 s (s.putAdapters v) :=
  ⟨fun c h => by cases c <;> first | rfl | exact absurd h (by decide), id, id⟩

theorem State.putShards_eff (s : State) (v) : Eff 131072 s (s.putShards v) :=
  ⟨fun c h => by cases c <;> first | rfl | exact absurd h (by decide), id, id⟩

theorem State.putSearches_eff (s : State) (v) : Eff 262144 s (s.putSearches v) :=
  ⟨fun c h => by cases c <;> first | rfl | exact absurd h (by decide), id, id⟩

theorem State.putWalks_eff (s : State) (v) : Eff 524288 s (s.putWalks v) :=
  ⟨fun c h => by cases c <;> first | rfl | exact absurd h (by decide), id, id⟩

theorem State.putWalkOrder_eff (s : State) (v) : Eff 1048576 s (s.putWalkOrder v) :=
  ⟨fun c h => by cases c <;> first | rfl | exact absurd h (by decide), id, id⟩

theorem State.putTables_eff (s : State) (v) : Eff 2097152 s (s.putTables v) :=
  ⟨fun c h => by cases c <;> first | rfl | exact absurd h (by decide), id, id⟩

theorem State.putLookups_eff (s : State) (v) : Eff 4194304 s (s.putLookups v) :=
  ⟨fun c h => by cases c <;> first | rfl | exact absurd h (by decide), id, id⟩

theorem State.putBags_eff (s : State) (v) : Eff 8388608 s (s.putBags v) :=
  ⟨fun c h => by cases c <;> first | rfl | exact absurd h (by decide), id, id⟩

theorem State.putVocabs_eff (s : State) (v) : Eff 16777216 s (s.putVocabs v) :=
  ⟨fun c h => by cases c <;> first | rfl | exact absurd h (by decide), id, id⟩

theorem State.putStreams_eff (s : State) (v) : Eff 33554432 s (s.putStreams v) :=
  ⟨fun c h => by cases c <;> first | rfl | exact absurd h (by decide), id, id⟩

theorem State.putTasks_eff (s : State) (v) : Eff 67108864 s (s.putTasks v) :=
  ⟨fun c h => by cases c <;> first | rfl | exact absurd h (by decide), id, id⟩

theorem State.putTrees_eff (s : State) (v) : Eff 134217728 s (s.putTrees v) :=
  ⟨fun c h => by cases c <;> first | rfl | exact absurd h (by decide), id, id⟩

theorem State.putProbes_eff (s : State) (v) : Eff 268435456 s (s.putProbes v) :=
  ⟨fun c h => by cases c <;> first | rfl | exact absurd h (by decide), id, id⟩

theorem State.putPools_eff (s : State) (v) : Eff 536870912 s (s.putPools v) :=
  ⟨fun c h => by cases c <;> first | rfl | exact absurd h (by decide), id, id⟩

theorem State.putGens_eff (s : State) (v) : Eff 1073741824 s (s.putGens v) :=
  ⟨fun c h => by cases c <;> first | rfl | exact absurd h (by decide), id, id⟩

theorem State.putRetrieves_eff (s : State) (v) : Eff 2147483648 s (s.putRetrieves v) :=
  ⟨fun c h => by cases c <;> first | rfl | exact absurd h (by decide), id, id⟩

theorem State.putFab_eff (s : State) (v) : Eff 4294967296 s (s.putFab v) :=
  ⟨fun c h => by cases c <;> first | rfl | exact absurd h (by decide), id, id⟩

theorem State.putPower_eff (s : State) (v) : Eff 8589934592 s (s.putPower v) :=
  ⟨fun c h => by cases c <;> first | rfl | exact absurd h (by decide), id, id⟩

theorem State.putHealth_eff (s : State) (v) : Eff 17179869184 s (s.putHealth v) :=
  ⟨fun c h => by cases c <;> first | rfl | exact absurd h (by decide), id, id⟩

theorem State.putNor_eff (s : State) (v) : Eff 34359738368 s (s.putNor v) :=
  ⟨fun c h => by cases c <;> first | rfl | exact absurd h (by decide), id, id⟩

theorem State.putBoot_eff (s : State) (v) : Eff 68719476736 s (s.putBoot v) :=
  ⟨fun c h => by cases c <;> first | rfl | exact absurd h (by decide), id, id⟩

theorem State.putSec_eff (s : State) (v) : Eff 137438953472 s (s.putSec v) :=
  ⟨fun c h => by cases c <;> first | rfl | exact absurd h (by decide), id, id⟩

theorem State.putUpd_eff (s : State) (v) : Eff 274877906944 s (s.putUpd v) :=
  ⟨fun c h => by cases c <;> first | rfl | exact absurd h (by decide), id, id⟩

theorem State.putBoard_eff (s : State) (v) : Eff 549755813888 s (s.putBoard v) :=
  ⟨fun c h => by cases c <;> first | rfl | exact absurd h (by decide), id, id⟩

/-- LPDDR-6 put in place with the cells it had. -/
theorem State.putMem_eff (s : State) (v : MemState) (h : v.cells = s.mem.cells) : Eff 1099511627776 s (s.putMem v) :=
  ⟨fun c hc => by
      cases c
      case cells => exact h
      case memory => exact absurd hc (by decide)
      all_goals rfl,
    id, fun w => by simpa [State.putMem, h] using w⟩

/-- Both branches of a choice. -/
theorem Eff.ite {k : Nat} {s a b : State} {c : Prop} [Decidable c] (ha : Eff k s a) (hb : Eff k s b) :
    Eff k s (if c then a else b) := by split <;> assumption

/-- Both branches of a choice of a state and a value. -/
theorem Eff.ite_fst {α : Type} {k : Nat} {s : State} {a b : State × α} {c : Prop} [Decidable c] (ha : Eff k s a.1) (hb : Eff k s b.1) :
    Eff k s (if c then a else b).1 := by split <;> assumption

/-- The state of a pair written out. -/
theorem Eff.pair_fst {α : Type} {k : Nat} {s x : State} {a : α} (h : Eff k s x) : Eff k s (x, a).1 := h

/-- A state found in a pair. -/
theorem Eff.of_fst {α : Type} {k : Nat} {s x : State} {p : State × α} {a : α} (e : p = (x, a)) (h : Eff k s p.1) : Eff k s x := by
  subst e; exact h

/-- A state found in a pair's second place. -/
theorem Eff.of_snd {α : Type} {k : Nat} {s x : State} {p : α × State} {a : α} (e : p = (a, x)) (h : Eff k s p.2) : Eff k s x := by
  subst e; exact h

/-- A change of LPDDR-6 that leaves its cells. -/
theorem State.updMem_eff (s : State) (f : MemState → MemState) (h : ∀ m, (f m).cells = m.cells) : Eff 1099511627776 s (s.updMem f) :=
  ⟨fun c hc => by
      cases c
      case cells => exact h s.mem
      case memory => exact absurd hc (by decide)
      all_goals rfl,
    id, fun w => by simpa [State.updMem, State.putMem, h] using w⟩

/-- A change of LPDDR-6 that keeps the canonical form of its cells. -/
theorem State.updMem_cells_eff (s : State) (f : MemState → MemState) (h : ∀ m, Memory.wf m.cells = true → Memory.wf (f m).cells = true) :
    Eff 1099511628288 s (s.updMem f) :=
  ⟨fun c hc => by
      cases c
      case cells => exact absurd hc (by decide)
      case memory => exact absurd hc (by decide)
      all_goals rfl,
    id, h s.mem⟩

end Sys2Proof.Machine
end

