-- ==== Sys2Proof/Laws/Sparse.lean ====
section
/-! SUPPORT. The laws of sparse maps: read after write, and that every write keeps the canonical form. -/

namespace Sys2Proof.Machine

variable {α : Type} [DecidableEq α] {d : α}

/-- The canonical form, as a property of the pairs: keys rise, no value is the default. -/
theorem swf_iff {m : Sparse α} : swf d m = true ↔ m.Pairwise (fun a b => a.1 < b.1) ∧ ∀ e ∈ m, e.2 ≠ d := by
  induction m with
  | nil => simp [swf]
  | cons e r ih =>
    obtain ⟨k, v⟩ := e
    cases r with
    | nil => simp [swf]
    | cons e' r =>
      obtain ⟨k', v'⟩ := e'
      simp only [swf, Bool.and_eq_true, decide_eq_true_eq, ih, List.pairwise_cons, List.forall_mem_cons]
      constructor
      · rintro ⟨⟨hv, hk⟩, ⟨hp, hr⟩, hv', hd⟩
        exact ⟨⟨⟨hk, fun x hx => Nat.lt_trans hk (hp x hx)⟩, hp, hr⟩, hv, hv', hd⟩
      · rintro ⟨⟨⟨hk, -⟩, hp, hr⟩, hv, hv', hd⟩
        exact ⟨⟨hv, hk⟩, ⟨hp, hr⟩, hv', hd⟩

/-- An entry of a map after a write is the written pair or an entry of the map before. -/
theorem mem_sset {m : Sparse α} {i : Nat} {v : α} {e : Nat × α} (h : e ∈ sset d m i v) : (e = (i, v) ∧ v ≠ d) ∨ e ∈ m := by
  induction m with
  | nil =>
    simp only [sset] at h
    split at h
    · cases h
    · exact .inl ⟨by simpa using h, ‹_›⟩
  | cons e' r ih =>
    obtain ⟨k, w⟩ := e'
    simp only [sset] at h
    repeat' split at h
    all_goals simp only [List.mem_cons] at h ⊢
    all_goals grind

/-- A write keeps the canonical form. -/
theorem sset_wf {m : Sparse α} (i : Nat) (v : α) (h : swf d m = true) : swf d (sset d m i v) = true := by
  rw [swf_iff] at h ⊢
  refine ⟨?_, fun e he => ?_⟩
  · induction m with
    | nil => simp only [sset]; split <;> simp
    | cons e r ih =>
      obtain ⟨k, w⟩ := e
      obtain ⟨⟨hk, hp⟩, hd⟩ := And.imp_left List.pairwise_cons.1 h
      have hr := ih ⟨hp, fun e he => hd e (List.mem_cons_of_mem _ he)⟩
      simp only [sset]
      split
      · have hi : ∀ a ∈ r, i < a.1 := fun a ha => Nat.lt_trans ‹i < k› (hk a ha)
        have hc : ((k, w) :: r).Pairwise (fun a b => a.1 < b.1) := List.pairwise_cons.2 ⟨hk, hp⟩
        split
        · exact hc
        · refine List.pairwise_cons.2 ⟨fun a ha => ?_, hc⟩
          rcases List.mem_cons.1 ha with rfl | ha
          · exact ‹i < k›
          · exact hi a ha
      · split
        · split
          · exact hp
          · exact List.pairwise_cons.2 ⟨fun a ha => ‹i = k› ▸ hk a ha, hp⟩
        · refine List.pairwise_cons.2 ⟨fun a ha => ?_, hr⟩
          rcases mem_sset ha with ⟨rfl, -⟩ | ha
          · simp only; omega
          · exact hk a ha
  · rcases mem_sset he with ⟨rfl, hv⟩ | he
    · exact hv
    · exact h.2 e he

/-- Taking entries out keeps the canonical form. -/
theorem filter_wf {m : Sparse α} (p : Nat × α → Bool) (h : swf d m = true) : swf d (m.filter p) = true := by
  rw [swf_iff] at h ⊢
  exact ⟨h.1.filter _, fun e he => h.2 e (List.mem_filter.1 he).1⟩

/-- Clearing keys keeps the canonical form. -/
theorem sclear_wf {m : Sparse α} (p : Nat → Bool) (h : swf d m = true) : swf d (sclear p m) = true := filter_wf _ h

/-- Writing a run of keys keeps the canonical form. -/
theorem ssetList_wf {m : Sparse α} (i : Nat) (vs : List α) (h : swf d m = true) : swf d (ssetList d m i vs) = true := by
  induction vs generalizing m i with
  | nil => exact h
  | cons v r ih => exact ih (i + 1) (sset_wf i v h)

omit [DecidableEq α] in
/-- A key below every listed one reads as the default. -/
theorem sget_of_lt {m : Sparse α} {i : Nat} (h : ∀ e ∈ m, i < e.1) : sget d m i = d := by
  cases m with
  | nil => rfl
  | cons e r =>
    have hi := h e (List.mem_cons_self ..)
    simp only [sget, if_pos hi, if_neg (Nat.ne_of_lt hi)]

/-- A read gives the value last written. -/
theorem sget_sset_same {m : Sparse α} (i : Nat) (v : α) (h : swf d m = true) : sget d (sset d m i v) i = v := by
  rw [swf_iff] at h
  induction m with
  | nil => simp only [sset]; split <;> simp_all [sget]
  | cons e r ih =>
    obtain ⟨k, w⟩ := e
    obtain ⟨⟨hk, hp⟩, hd⟩ := And.imp_left List.pairwise_cons.1 h
    have hr := ih ⟨hp, fun e he => hd e (List.mem_cons_of_mem _ he)⟩
    simp only [sset]
    split
    · split
      · subst v; simp only [sget, if_neg (Nat.ne_of_lt ‹i < k›), if_pos ‹i < k›]
      · simp [sget]
    · split
      · subst i
        split
        · subst v; exact sget_of_lt hk
        · simp [sget]
      · simp only [sget, if_neg ‹¬i = k›, if_neg ‹¬i < k›, hr]

/-- A write leaves every other key. -/
theorem sget_sset_ne {m : Sparse α} {i j : Nat} (v : α) (hne : j ≠ i) (h : swf d m = true) : sget d (sset d m i v) j = sget d m j := by
  rw [swf_iff] at h
  induction m with
  | nil => simp only [sset]; split <;> simp [sget, hne]
  | cons e r ih =>
    obtain ⟨k, w⟩ := e
    obtain ⟨⟨hk, hp⟩, hd⟩ := And.imp_left List.pairwise_cons.1 h
    have hr := ih ⟨hp, fun e he => hd e (List.mem_cons_of_mem _ he)⟩
    simp only [sset]
    split
    · split
      · rfl
      · simp only [sget, if_neg hne]
        split
        · rw [if_neg (by omega), if_pos (by omega)]
        · rfl
    · split
      · subst i
        split
        · simp only [sget, if_neg hne]
          split
          · exact sget_of_lt fun e he => Nat.lt_trans ‹j < k› (hk e he)
          · rfl
        · simp only [sget, if_neg hne]
      · simp only [sget, hr]

/-- Two maps in canonical form that read alike are the same list. -/
theorem swf_ext {m m' : Sparse α} (h : swf d m = true) (h' : swf d m' = true) (he : ∀ i, sget d m i = sget d m' i) : m = m' := by
  rw [swf_iff] at h h'
  induction m generalizing m' with
  | nil =>
    cases m' with
    | nil => rfl
    | cons e r =>
      have h1 := he e.1
      simp only [sget, if_pos] at h1
      exact absurd h1.symm (h'.2 e (List.mem_cons_self ..))
  | cons e r ih =>
    obtain ⟨k, v⟩ := e
    obtain ⟨hk, hp⟩ := List.pairwise_cons.1 h.1
    have hv := h.2 _ (List.mem_cons_self ..)
    have he1 := he k
    simp only [sget, if_pos] at he1
    cases m' with
    | nil => exact absurd he1 hv
    | cons e' r' =>
      obtain ⟨k', v'⟩ := e'
      obtain ⟨hk', hp'⟩ := List.pairwise_cons.1 h'.1
      have hv' := h'.2 _ (List.mem_cons_self ..)
      have he2 := he k'
      simp only [sget, if_pos] at he1 he2
      have hkk : k = k' := by grind
      subst hkk
      simp only [if_pos] at he1
      subst he1
      refine congrArg _ (ih ⟨hp, fun e he => h.2 e (List.mem_cons_of_mem _ he)⟩ ⟨hp', fun e he => h'.2 e (List.mem_cons_of_mem _ he)⟩
        fun i => ?_)
      have h3 := he i
      simp only [sget] at h3
      by_cases hik : i = k
      · subst hik; rw [sget_of_lt hk, sget_of_lt hk']
      · simp only [if_neg hik] at h3
        by_cases hlt : i < k
        · rw [sget_of_lt fun e he => Nat.lt_trans hlt (hk e he), sget_of_lt fun e he => Nat.lt_trans hlt (hk' e he)]
        · simpa only [if_neg hlt] using h3

/-! ## LPDDR-6 -/

theorem putWord_wf {c : List Host.Cell} (w : Nat) (b : List Byte) (h : Memory.wf c = true) : Memory.wf (putWord c w b) = true :=
  ssetList_wf _ _ h

theorem mergeWord_wf (d : Nat → Bool) {c : List Host.Cell} (w o : Nat) (b : List Byte) (h : Memory.wf c = true) : Memory.wf (mergeWord d c w o b) = true := by
  unfold mergeWord
  split
  · exact putWord_wf _ _ h
  · split
    · exact putWord_wf _ _ h
    · exact h

theorem writeBytesFuel_wf (d : Nat → Bool) (n : Nat) {c : List Host.Cell} (word : Nat → Nat) (a : Nat) (b : List Byte) (h : Memory.wf c = true) :
    Memory.wf (writeBytesFuel d n c word a b) = true := by
  induction n generalizing c a b with
  | zero => exact h
  | succ n ih =>
    simp only [writeBytesFuel]
    split
    · exact h
    · exact ih _ _ (mergeWord_wf _ _ _ _ h)

theorem writeBytes_wf (d : Nat → Bool) {c : List Host.Cell} (word : Nat → Nat) (a : Nat) (b : List Byte) (h : Memory.wf c = true) :
    Memory.wf (writeBytes d c word a b) = true := writeBytesFuel_wf _ _ _ _ _ h

/-- A fold of writes keeps the canonical form. -/
theorem foldl_wf {β : Type} {f : List Host.Cell → β → List Host.Cell} (hf : ∀ c b, Memory.wf c = true → Memory.wf (f c b) = true)
    (l : List β) {c : List Host.Cell} (h : Memory.wf c = true) : Memory.wf (l.foldl f c) = true := by
  induction l generalizing c with
  | nil => exact h
  | cons b l ih => exact ih (hf c b h)

theorem writePoison_wf {c : List Host.Cell} (word : Nat → Nat) (a n : Nat) (h : Memory.wf c = true) :
    Memory.wf (writePoison c word a n) = true := foldl_wf (fun _ _ h => putWord_wf _ _ h) _ h

end Sys2Proof.Machine
end

