-- ==== Sys2Proof/Laws/Base.lean ====
section
/-! SUPPORT. What each operation of Machine/Base.lean can change, in the terms of Laws/Eff.lean: one lemma an operation. -/

namespace Sys2Proof.Machine

theorem State.setReg_eff : ∀ s k v, Eff 8 s (State.setReg s k v) := fun _ k v =>
  ⟨fun c h => by cases c <;> first | rfl | exact absurd h (by decide), fun h => sset_wf k v h, id⟩

theorem State.wr_eff : ∀ s f i v, Eff 8 s (State.wr s f i v) := by
  intro s f i v
  unfold State.wr
  extract_lets +onlyGivenNames x0
  clear_value x0
  exact (State.setReg_eff ..).mono rfl

theorem State.inc_eff : ∀ s f i n, Eff 8 s (State.inc s f i n) := by
  intro s f i n
  unfold State.inc
  exact (State.wr_eff ..).mono rfl

theorem State.incSat_eff : ∀ s f i n, Eff 8 s (State.incSat s f i n) := by
  intro s f i n
  unfold State.incSat
  exact (State.wr_eff ..).mono rfl

theorem State.raise_eff : ∀ s kind_ site master addr access outcome, Eff 256 s (State.raise s kind_ site master addr access outcome) := by
  intro s kind_ site master addr access outcome
  unfold State.raise
  extract_lets +onlyGivenNames x0
  clear_value x0
  refine Eff.ite ?_ ?_
  · exact (State.putFaults_eff ..).mono rfl
  · exact (State.putFaults_eff ..).mono rfl

theorem State.codeCorrected_eff : ∀ s site master addr, Eff 256 s (State.codeCorrected s site master addr) := by
  intro s site master addr
  unfold State.codeCorrected
  extract_lets +onlyGivenNames x0
  clear_value x0
  refine Eff.ite ?_ ?_
  · refine (State.raise_eff ..).step rfl ?_
    exact (State.putFaults_eff ..).mono rfl
  · exact Eff.refl ..

theorem State.badAccess_eff : ∀ s master access, Eff 264 s (State.badAccess s master access) := by
  intro s master access
  unfold State.badAccess
  refine (State.raise_eff ..).step rfl ?_
  exact (State.inc_eff ..).mono rfl

theorem State.setPart_eff : ∀ s p x, Eff 8192 s (State.setPart s p x) := by
  intro s p x
  unfold State.setPart
  exact (State.putParts_eff ..).mono rfl

theorem State.setCluster_eff : ∀ s cl x, Eff 2048 s (State.setCluster s cl x) := by
  intro s cl x
  unfold State.setCluster
  exact (State.putClusters_eff ..).mono rfl

theorem State.updHost_eff : ∀ s f, Eff 16 s (State.updHost s f) := by
  intro s f
  unfold State.updHost
  exact (State.putHost_eff ..).mono rfl

theorem State.charge_eff : ∀ s c f, Eff 4294967360 s (State.charge s c f) := by
  intro s c f
  unfold State.charge
  refine Eff.ite ?_ ?_
  · exact (State.putAccts_eff ..).mono rfl
  · extract_lets +onlyGivenNames x0
    clear_value x0
    extract_lets +onlyGivenNames x1
    clear_value x1
    extract_lets +onlyGivenNames x2
    clear_value x2
    exact (State.putFab_eff ..).mono rfl

theorem State.endUse_eff : ∀ s p, Eff 8589934592 s (State.endUse s p) := by
  intro s p
  unfold State.endUse
  exact (State.putPower_eff ..).mono rfl

theorem State.setFreqStep_eff : ∀ s cl n, Eff 8 s (State.setFreqStep s cl n) := by
  intro s cl n
  unfold State.setFreqStep
  extract_lets +onlyGivenNames x0
  clear_value x0
  refine (State.wr_eff ..).step rfl ?_
  exact (State.wr_eff ..).mono rfl

theorem State.touchChan_eff : ∀ s c, Eff 1099511627776 s (State.touchChan s c) := by
  intro s c
  unfold State.touchChan
  refine Eff.step (State.updMem_eff _ _ fun _ => rfl) rfl ?_
  exact Eff.refl ..

theorem State.useDev_eff : ∀ s a n, Eff 1099511627776 s (State.useDev s a n) := by
  intro s a n
  unfold State.useDev
  refine Eff.step (State.updMem_eff _ _ fun _ => rfl) rfl ?_
  exact Eff.refl ..

theorem State.writeDev_eff : ∀ s a bs, Eff 1099511628288 s (State.writeDev s a bs) := by
  intro s a bs
  unfold State.writeDev
  refine Eff.step (State.updMem_cells_eff _ _ fun _ h => writeBytes_wf _ _ _ _ h) rfl ?_
  exact Eff.refl ..

theorem State.writeDevP_eff : ∀ s a bs poison, Eff 1099511628288 s (State.writeDevP s a bs poison) := by
  intro s a bs poison
  unfold State.writeDevP
  refine Eff.ite ?_ ?_
  · refine Eff.step (State.updMem_cells_eff _ _ fun _ h => writePoison_wf _ _ _ h) rfl ?_
    exact Eff.refl ..
  · exact (State.writeDev_eff ..).mono rfl

theorem State.irq_eff : ∀ s fn v, Eff 16 s (State.irq s fn v) := by
  intro s fn v
  unfold State.irq
  exact (State.updHost_eff ..).mono rfl

theorem State.issueRead_eff : ∀ s c a n need, Eff 16 s (State.issueRead s c a n need) := by
  intro s c a n need
  unfold State.issueRead
  extract_lets +onlyGivenNames x0
  clear_value x0
  extract_lets +onlyGivenNames x1
  clear_value x1
  exact (State.updHost_eff ..).mono rfl

theorem State.updPkg_eff : ∀ s f, Eff 4096 s (State.updPkg s f) := by
  intro s f
  unfold State.updPkg
  exact (State.putPkg_eff ..).mono rfl

theorem State.passed_eff : ∀ s arb, Eff 4096 s (State.passed s arb) := by
  intro s arb
  unfold State.passed
  exact (State.updPkg_eff ..).mono rfl

end Sys2Proof.Machine
end

