-- ==== Sys2Proof/Laws/FabricSend.lean ====
section
/-! SUPPORT. What each operation of Machine/FabricSend.lean can change, in the terms of Laws/Eff.lean: one lemma an operation. -/

namespace Sys2Proof.Machine

theorem State.updFab_eff : ∀ s f, Eff 4294967296 s (State.updFab s f) := by
  intro s f
  unfold State.updFab
  exact (State.putFab_eff ..).mono rfl

theorem State.setPort_eff : ∀ s p x, Eff 4294967296 s (State.setPort s p x) := by
  intro s p x
  unfold State.setPort
  exact (State.updFab_eff ..).mono rfl

theorem State.mirrorPort_eff : ∀ s p, Eff 8 s (State.mirrorPort s p) := by
  intro s p
  unfold State.mirrorPort
  extract_lets +onlyGivenNames x0
  clear_value x0
  extract_lets +onlyGivenNames x1
  clear_value x1
  extract_lets +onlyGivenNames x2
  subst x2
  extract_lets +onlyGivenNames x3
  clear_value x3
  dsimp -zeta only
  extract_lets +onlyGivenNames x4
  clear_value x4
  extract_lets +onlyGivenNames x5
  clear_value x5
  extract_lets +onlyGivenNames x6
  clear_value x6
  refine Eff.ite ?_ ?_
  · refine Eff.ite ?_ ?_
    · refine Eff.ite ?_ ?_
      · exact Eff.refl ..
      · refine (State.wr_eff ..).step rfl ?_
        exact Eff.refl ..
    · refine (State.wr_eff ..).step rfl ?_
      refine Eff.ite ?_ ?_
      · exact Eff.refl ..
      · refine (State.wr_eff ..).step rfl ?_
        exact Eff.refl ..
  · refine (State.wr_eff ..).step rfl ?_
    refine Eff.ite ?_ ?_
    · refine Eff.ite ?_ ?_
      · exact Eff.refl ..
      · refine (State.wr_eff ..).step rfl ?_
        exact Eff.refl ..
    · refine (State.wr_eff ..).step rfl ?_
      refine Eff.ite ?_ ?_
      · exact Eff.refl ..
      · refine (State.wr_eff ..).step rfl ?_
        exact Eff.refl ..

theorem State.setPortState_eff : ∀ s p st, Eff 8 s (State.setPortState s p st) := by
  intro s p st
  unfold State.setPortState
  refine (State.mirrorPort_eff ..).step rfl ?_
  exact (State.wr_eff ..).mono rfl

theorem State.mirrorLanes_eff : ∀ s p, Eff 8 s (State.mirrorLanes s p) := by
  intro s p
  unfold State.mirrorLanes
  exact (State.wr_eff ..).mono rfl

theorem State.lanesState_eff : ∀ s p st, Eff 8 s (State.lanesState s p st) := by
  intro s p st
  unfold State.lanesState
  refine Eff.foldl ?_ ?_
  · intro a0
    intro a1
    exact (State.wr_eff ..).mono rfl
  · exact Eff.refl ..

theorem State.trainPorts_eff : ∀ s, Eff 8 s (State.trainPorts s) := by
  intro s
  unfold State.trainPorts
  refine Eff.foldl ?_ ?_
  · intro a0
    intro a1
    refine Eff.ite ?_ ?_
    · exact Eff.refl ..
    · refine (State.lanesState_eff ..).step rfl ?_
      exact (State.wr_eff ..).mono rfl
  · exact Eff.refl ..

theorem State.pumpPort_eff : ∀ s p, Eff 4294967304 s (State.pumpPort s p) := by
  intro s p
  unfold State.pumpPort
  refine Eff.ite ?_ ?_
  · extract_lets +onlyGivenNames x0
    clear_value x0
    extract_lets +onlyGivenNames x1
    clear_value x1
    extract_lets +onlyGivenNames x2
    clear_value x2
    extract_lets +onlyGivenNames x3
    clear_value x3
    extract_lets +onlyGivenNames x4
    clear_value x4
    extract_lets +onlyGivenNames x5
    refine Eff.cut x5 ?_ ?_
    · subst x5
      refine Eff.ite ?_ ?_
      · exact (State.updFab_eff ..).mono rfl
      · exact Eff.refl ..
    intro hx
    clear_value x5
    refine (State.mirrorLanes_eff ..).step rfl ?_
    refine (State.setPort_eff ..).step rfl ?_
    assumption
  · exact Eff.refl ..

theorem State.forward_eff : ∀ s input m, Eff 4294967304 s (State.forward s input m) := by
  intro s input m
  unfold State.forward
  split
  · exact Eff.refl ..
  · extract_lets +onlyGivenNames x0
    clear_value x0
    refine (State.pumpPort_eff ..).step rfl ?_
    exact (State.setPort_eff ..).mono rfl

theorem State.sendHub_eff : ∀ s dst kind_ req payload, Eff 4294967304 s (State.sendHub s dst kind_ req payload) := by
  intro s dst kind_ req payload
  unfold State.sendHub
  refine Eff.ite ?_ ?_
  · exact Eff.refl ..
  · extract_lets +onlyGivenNames x0
    clear_value x0
    extract_lets +onlyGivenNames x1
    clear_value x1
    refine (State.forward_eff ..).step rfl ?_
    exact (State.updFab_eff ..).mono rfl

theorem State.sendError_eff : ∀ s dst req status, Eff 4294967304 s (State.sendError s dst req status) := by
  intro s dst req status
  unfold State.sendError
  exact (State.sendHub_eff ..).mono rfl

theorem State.sendUnreach_eff : ∀ s dst req m, Eff 4294967304 s (State.sendUnreach s dst req m) := by
  intro s dst req m
  unfold State.sendUnreach
  exact (State.sendHub_eff ..).mono rfl

end Sys2Proof.Machine
end

