-- ==== Sys2Proof/Laws/PoolOps.lean ====
section
/-! SUPPORT. What each operation of Machine/PoolOps.lean can change, in the terms of Laws/Eff.lean: one lemma an operation. -/

namespace Sys2Proof.Machine

theorem State.setNode_eff : ∀ s t i n, Eff 134217736 s (State.setNode s t i n) := by
  intro s t i n
  unfold State.setNode
  extract_lets +onlyGivenNames x0
  clear_value x0
  extract_lets +onlyGivenNames x1
  clear_value x1
  refine (State.wr_eff ..).step rfl ?_
  exact (State.putTrees_eff ..).mono rfl

theorem State.updPool_eff : ∀ s p f, Eff 536870912 s (State.updPool s p f) := by
  intro s p f
  unfold State.updPool
  exact (State.putPools_eff ..).mono rfl

theorem State.dropBlock_eff : ∀ s p b, Eff 536870920 s (State.dropBlock s p b) := by
  intro s p b
  unfold State.dropBlock
  split
  · exact Eff.refl ..
  · extract_lets +onlyGivenNames x0
    refine Eff.cut x0 ?_ ?_
    · subst x0
      exact (State.updPool_eff ..).mono rfl
    intro hx
    clear_value x0
    extract_lets +onlyGivenNames x1
    refine Eff.cut x1 ?_ ?_
    · subst x1
      refine Eff.ite ?_ ?_
      · refine (State.wr_eff ..).step rfl ?_
        assumption
      · assumption
    intro hx
    clear_value x1
    refine Eff.ite ?_ ?_
    · assumption
    · refine (State.wr_eff ..).step rfl ?_
      assumption

theorem State.killNode_eff : ∀ s t i readable held, Eff 671088648 s (State.killNode s t i readable held) := by
  intro s t i readable held
  unfold State.killNode
  extract_lets +onlyGivenNames x0
  clear_value x0
  extract_lets +onlyGivenNames x1
  refine Eff.cut x1 ?_ ?_
  · subst x1
    refine Eff.ite ?_ ?_
    · exact (State.dropBlock_eff ..).mono rfl
    · exact Eff.refl ..
  intro hx
  clear_value x1
  extract_lets +onlyGivenNames x2
  refine Eff.cut x2 ?_ ?_
  · subst x2
    refine (State.setNode_eff ..).step rfl ?_
    assumption
  intro hx
  clear_value x2
  refine (State.incSat_eff ..).step rfl ?_
  refine (State.putTrees_eff ..).step rfl ?_
  assumption

theorem State.unpin_eff : ∀ s t i, Eff 671088648 s (State.unpin s t i) := by
  intro s t i
  unfold State.unpin
  extract_lets +onlyGivenNames x0
  clear_value x0
  extract_lets +onlyGivenNames x1
  clear_value x1
  extract_lets +onlyGivenNames x2
  refine Eff.cut x2 ?_ ?_
  · subst x2
    refine Eff.ite ?_ ?_
    · exact (State.dropBlock_eff ..).mono rfl
    · exact Eff.refl ..
  intro hx
  clear_value x2
  split
  · refine (State.killNode_eff ..).step rfl ?_
    assumption
  · refine (State.killNode_eff ..).step rfl ?_
    assumption
  · refine (State.putTrees_eff ..).step rfl ?_
    assumption
  · refine Eff.ite ?_ ?_
    · assumption
    · refine (State.setNode_eff ..).step rfl ?_
      assumption

theorem State.freePins_eff : ∀ s k, Eff 671088648 s (State.freePins s k) := by
  intro s k
  unfold State.freePins
  extract_lets +onlyGivenNames x0
  clear_value x0
  extract_lets +onlyGivenNames x1
  clear_value x1
  refine Eff.foldl ?_ ?_
  · intro a2
    intro a3
    exact (State.dropBlock_eff ..).mono rfl
  · refine Eff.foldl ?_ ?_
    · intro a4
      intro a5
      exact (State.unpin_eff ..).mono rfl
    · exact Eff.refl ..

end Sys2Proof.Machine
end

