-- ==== Sys2Proof/Laws/TabOps.lean ====
section
/-! SUPPORT. What each operation of Machine/TabOps.lean can change, in the terms of Laws/Eff.lean: one lemma an operation. -/

namespace Sys2Proof.Machine

theorem State.updTable_eff : ∀ s t f, Eff 2097152 s (State.updTable s t f) := by
  intro s t f
  unfold State.updTable
  exact (State.putTables_eff ..).mono rfl

theorem State.layResidAt_eff : ∀ s t row x, Eff 1099511628288 s (State.layResidAt s t row x) := by
  intro s t row x
  unfold State.layResidAt
  split
  · exact (State.writeDev_eff ..).mono rfl
  · exact (State.writeDevP_eff ..).mono rfl

theorem State.layResid_eff : ∀ s t, Eff 1099511628288 s (State.layResid s t) := by
  intro s t
  unfold State.layResid
  refine Eff.ite ?_ ?_
  · exact Eff.refl ..
  · extract_lets +onlyGivenNames x0
    clear_value x0
    refine Eff.foldl ?_ ?_
    · intro a1
      intro a2
      exact (State.layResidAt_eff ..).mono rfl
    · exact Eff.refl ..

theorem State.layDeltaAt_eff : ∀ s t i, Eff 1099511628288 s (State.layDeltaAt s t i) := by
  intro s t i
  unfold State.layDeltaAt
  split
  · exact (State.writeDev_eff ..).mono rfl
  · exact (State.writeDev_eff ..).mono rfl

theorem State.layDelta_eff : ∀ s t, Eff 1099511628288 s (State.layDelta s t) := by
  intro s t
  unfold State.layDelta
  refine Eff.ite ?_ ?_
  · exact Eff.refl ..
  · refine Eff.foldl ?_ ?_
    · intro a0
      intro a1
      exact (State.layDeltaAt_eff ..).mono rfl
    · exact Eff.refl ..

theorem State.putResid_eff : ∀ s slot resid bad, Eff 1099513725440 s (State.putResid s slot resid bad) := by
  intro s slot resid bad
  unfold State.putResid
  split
  · exact Eff.refl ..
  · extract_lets +onlyGivenNames x0
    clear_value x0
    extract_lets +onlyGivenNames x1
    refine Eff.cut x1 ?_ ?_
    · subst x1
      exact (State.updTable_eff ..).mono rfl
    intro hx
    clear_value x1
    refine Eff.ite ?_ ?_
    · assumption
    · extract_lets +onlyGivenNames x2
      clear_value x2
      extract_lets +onlyGivenNames x3
      clear_value x3
      extract_lets +onlyGivenNames x4
      clear_value x4
      refine Eff.foldl ?_ ?_
      · intro a5
        intro a6
        refine Eff.ite ?_ ?_
        · exact Eff.refl ..
        · exact (State.layResidAt_eff ..).mono rfl
      · assumption

theorem State.putDelta_eff : ∀ s slot delta, Eff 1099513725440 s (State.putDelta s slot delta) := by
  intro s slot delta
  unfold State.putDelta
  split
  · exact Eff.refl ..
  · extract_lets +onlyGivenNames x0
    clear_value x0
    extract_lets +onlyGivenNames x1
    refine Eff.cut x1 ?_ ?_
    · subst x1
      exact (State.updTable_eff ..).mono rfl
    intro hx
    clear_value x1
    refine Eff.ite ?_ ?_
    · assumption
    · refine Eff.foldl ?_ ?_
      · intro a2
        intro a3
        refine Eff.ite ?_ ?_
        · exact Eff.refl ..
        · exact (State.layDeltaAt_eff ..).mono rfl
      · assumption

theorem State.addRow_eff : ∀ s slot t r ds, Eff 1099513725440 s (State.addRow s slot t r ds) := by
  intro s slot t r ds
  unfold State.addRow
  refine Eff.ite ?_ ?_
  · extract_lets +onlyGivenNames x0
    clear_value x0
    extract_lets +onlyGivenNames x1
    clear_value x1
    extract_lets +onlyGivenNames x2
    clear_value x2
    exact (State.putResid_eff ..).mono rfl
  · refine Eff.foldl ?_ ?_
    · intro a3
      intro a4
      extract_lets +onlyGivenNames x5
      clear_value x5
      refine Eff.ite ?_ ?_
      · exact Eff.refl ..
      · extract_lets +onlyGivenNames x6
        clear_value x6
        exact (State.writeDev_eff ..).mono rfl
    · exact Eff.refl ..

theorem State.foldDelta_eff : ∀ s slot, Eff 1099513725440 s (State.foldDelta s slot) := by
  intro s slot
  unfold State.foldDelta
  split
  · exact Eff.refl ..
  · refine (State.putDelta_eff ..).step rfl ?_
    refine Eff.foldl ?_ ?_
    · intro a0
      intro a1
      exact (State.addRow_eff ..).mono rfl
    · exact Eff.refl ..

theorem State.discardCommit_eff : ∀ s slot, Eff 1099513725448 s (State.discardCommit s slot) := by
  intro s slot
  unfold State.discardCommit
  split
  · exact Eff.refl ..
  · refine Eff.ite ?_ ?_
    · exact Eff.refl ..
    · refine (State.wr_eff ..).step rfl ?_
      refine (State.updTable_eff ..).step rfl ?_
      exact (State.foldDelta_eff ..).mono rfl

theorem State.applyDeltas_eff : ∀ s slot ds, Eff 1099513725440 s (State.applyDeltas s slot ds) := by
  intro s slot ds
  unfold State.applyDeltas
  refine Eff.foldl ?_ ?_
  · intro a0
    intro a1
    split
    · exact Eff.refl ..
    · refine Eff.ite ?_ ?_
      · extract_lets +onlyGivenNames x2
        clear_value x2
        exact (State.putDelta_eff ..).mono rfl
      · exact (State.addRow_eff ..).mono rfl
  · exact Eff.refl ..

theorem State.dropZeroRows_eff : ∀ s slot rows, Eff 1099513725440 s (State.dropZeroRows s slot rows) := by
  intro s slot rows
  unfold State.dropZeroRows
  split
  · exact Eff.refl ..
  · extract_lets +onlyGivenNames x0
    clear_value x0
    refine (State.putResid_eff ..).step rfl ?_
    exact (State.putDelta_eff ..).mono rfl

theorem State.undoDeltas_eff : ∀ s slot ds, Eff 1099513725440 s (State.undoDeltas s slot ds) := by
  intro s slot ds
  unfold State.undoDeltas
  refine (State.dropZeroRows_eff ..).step rfl ?_
  exact (State.applyDeltas_eff ..).mono rfl

end Sys2Proof.Machine
end

