-- ==== Sys2Proof/Laws/Ops.lean ====
section
/-! SUPPORT. What each operation of Machine/Ops.lean can change, in the terms of Laws/Eff.lean: one lemma an operation. -/

namespace Sys2Proof.Machine

theorem State.updReq_eff : ∀ s k f, Eff 16 s (State.updReq s k f) := by
  intro s k f
  unfold State.updReq
  exact (State.updHost_eff ..).mono rfl

theorem State.produce_eff : ∀ s e, Eff 16 s (State.produce s e) := by
  intro s e
  unfold State.produce
  refine Eff.ite ?_ ?_
  · refine (State.updHost_eff ..).step rfl ?_
    exact Eff.refl ..
  · exact Eff.refl ..

theorem State.zestCount_eff : ∀ s e bytes invalid, Eff 8 s (State.zestCount s e bytes invalid) := by
  intro s e bytes invalid
  unfold State.zestCount
  refine (State.incSat_eff ..).step rfl ?_
  exact (State.inc_eff ..).mono rfl

theorem State.zestTime_eff : ∀ s c bytes, Eff 4294967360 s (State.zestTime s c bytes) := by
  intro s c bytes
  unfold State.zestTime
  exact (State.charge_eff ..).mono rfl

theorem State.closeStream_eff : ∀ s c stream, Eff 4328521816 s (State.closeStream s c stream) := by
  intro s c stream
  unfold State.closeStream
  split
  · exact Eff.refl ..
  · extract_lets +onlyGivenNames x0
    refine Eff.cut x0 ?_ ?_
    · subst x0
      exact (State.putStreams_eff ..).mono rfl
    intro hx
    clear_value x0
    extract_lets +onlyGivenNames x1
    refine Eff.cut x1 ?_ ?_
    · subst x1
      split
      · refine (State.zestTime_eff ..).step rfl ?_
        refine (State.zestCount_eff ..).step rfl ?_
        assumption
      · assumption
    intro hx
    clear_value x1
    refine Eff.ite ?_ ?_
    · assumption
    · refine (State.updHost_eff ..).step rfl ?_
      assumption

theorem State.closeStreams_eff : ∀ s k, Eff 4328521816 s (State.closeStreams s k) := by
  intro s k
  unfold State.closeStreams
  refine Eff.foldl ?_ ?_
  · intro a0
    intro a1
    exact (State.closeStream_eff ..).mono rfl
  · exact Eff.refl ..

theorem State.forgetWork_eff : ∀ s k, Eff 1108083614296 s (State.forgetWork s k) := by
  intro s k
  unfold State.forgetWork
  extract_lets +onlyGivenNames x0
  refine Eff.cut x0 ?_ ?_
  · subst x0
    refine (State.freePins_eff ..).step rfl ?_
    exact (State.closeStreams_eff ..).mono rfl
  intro hx
  clear_value x0
  extract_lets +onlyGivenNames x1
  refine Eff.cut x1 ?_ ?_
  · subst x1
    refine Eff.foldl ?_ ?_
    · intro a2
      intro a3
      exact (State.discardCommit_eff ..).mono rfl
    · assumption
  intro hx
  clear_value x1
  refine (State.putHost_eff ..).step rfl ?_
  refine (State.putShards_eff ..).step rfl ?_
  refine (State.putTables_eff ..).step rfl ?_
  refine (State.putParts_eff ..).step rfl ?_
  refine (State.putProbes_eff ..).step rfl ?_
  refine (State.putRetrieves_eff ..).step rfl ?_
  refine (State.putGens_eff ..).step rfl ?_
  refine (State.putTasks_eff ..).step rfl ?_
  refine (State.putBags_eff ..).step rfl ?_
  refine (State.putLookups_eff ..).step rfl ?_
  refine (State.putWalks_eff ..).step rfl ?_
  refine (State.putSearches_eff ..).step rfl ?_
  assumption

theorem State.admPost_eff : ∀ s client request status opcode slot, Eff 272 s (State.admPost s client request status opcode slot) := by
  intro s client request status opcode slot
  unfold State.admPost
  extract_lets +onlyGivenNames x0
  clear_value x0
  extract_lets +onlyGivenNames x1
  clear_value x1
  extract_lets +onlyGivenNames x2
  clear_value x2
  refine Eff.ite ?_ ?_
  · exact (State.raise_eff ..).mono rfl
  · refine (State.irq_eff ..).step rfl ?_
    exact (State.updHost_eff ..).mono rfl

theorem State.deregister_eff : ∀ s c, Eff 24 s (State.deregister s c) := by
  intro s c
  unfold State.deregister
  extract_lets +onlyGivenNames x0
  refine Eff.cut x0 ?_ ?_
  · subst x0
    exact (State.updHost_eff ..).mono rfl
  intro hx
  clear_value x0
  refine (State.wr_eff ..).step rfl ?_
  refine (State.wr_eff ..).step rfl ?_
  assumption

theorem State.admSettle_eff : ∀ s c, Eff 280 s (State.admSettle s c) := by
  intro s c
  unfold State.admSettle
  split
  · exact Eff.refl ..
  · refine Eff.ite ?_ ?_
    · exact Eff.refl ..
    · refine (State.admPost_eff ..).step rfl ?_
      refine (State.deregister_eff ..).step rfl ?_
      exact (State.updHost_eff ..).mono rfl

theorem State.dropReq_eff : ∀ s k, Eff 280 s (State.dropReq s k) := by
  intro s k
  unfold State.dropReq
  extract_lets +onlyGivenNames x0
  refine Eff.cut x0 ?_ ?_
  · subst x0
    exact (State.updHost_eff ..).mono rfl
  intro hx
  clear_value x0
  refine (State.admSettle_eff ..).step rfl ?_
  refine Eff.ite ?_ ?_
  · refine (State.wr_eff ..).step rfl ?_
    assumption
  · assumption

theorem State.endRemote_eff : ∀ s k status, Eff 4294967304 s (State.endRemote s k status) := by
  intro s k status
  unfold State.endRemote
  split
  · exact Eff.refl ..
  · extract_lets +onlyGivenNames x0
    refine Eff.cut x0 ?_ ?_
    · subst x0
      exact (State.updFab_eff ..).mono rfl
    intro hx
    clear_value x0
    extract_lets +onlyGivenNames x1
    refine Eff.cut x1 ?_ ?_
    · subst x1
      refine Eff.ite ?_ ?_
      · refine (State.sendError_eff ..).step rfl ?_
        assumption
      · assumption
    intro hx
    clear_value x1
    refine (State.sendHub_eff ..).step rfl ?_
    refine (State.inc_eff ..).step rfl ?_
    assumption

theorem State.endColls_eff : ∀ s k status, Eff 4294967304 s (State.endColls s k status) := by
  intro s k status
  unfold State.endColls
  split
  · exact Eff.refl ..
  · extract_lets +onlyGivenNames x0
    refine Eff.cut x0 ?_ ?_
    · subst x0
      exact (State.updFab_eff ..).mono rfl
    intro hx
    clear_value x0
    refine Eff.foldl ?_ ?_
    · intro a1
      intro a2
      exact (State.sendError_eff ..).mono rfl
    · assumption

theorem State.writeAddr_eff {s : State} {c a : Nat} {bs : List Byte} {poison : Bool} {t : State}
    (h : s.writeAddr c a bs poison = some t) : Eff 1103806595664 s t := by
  unfold State.writeAddr at h
  repeat' split at h
  all_goals simp only [Option.some.injEq, reduceCtorEq] at h
  · subst h; exact Eff.refl ..
  · subst h; exact (State.writeDevP_eff ..).step rfl ((State.charge_eff ..).mono rfl)
  · subst h; exact (State.updHost_eff ..).step rfl ((State.charge_eff ..).mono rfl)

theorem State.lastRecord_eff : ∀ s k r status, Eff 1103806595920 s (State.lastRecord s k r status) := by
  intro s k r status
  unfold State.lastRecord
  split
  · exact Eff.refl ..
  · refine Eff.ite ?_ ?_
    · exact Eff.refl ..
    · split
      · refine (State.updReq_eff ..).step rfl ?_
        refine (State.writeAddr_eff (by assumption)).step rfl ?_
        exact Eff.refl ..
      · exact (State.raise_eff ..).mono rfl

theorem State.genDetail_eff : ∀ s g op, Eff 2 s (State.genDetail s g op).1 := by
  intro s g op
  unfold State.genDetail
  refine Eff.ite_fst ?_ ?_
  · refine Eff.pair_fst ?_
    exact (State.putFreeCtr_eff ..).mono rfl
  · refine Eff.pair_fst ?_
    exact Eff.refl ..

theorem State.chargePause_eff : ∀ s g, Eff 4294967360 s (State.chargePause s g) := by
  intro s g
  unfold State.chargePause
  split
  · refine (State.charge_eff ..).step rfl ?_
    exact Eff.refl ..
  · exact Eff.refl ..

theorem State.endReq_eff : ∀ s k status count detail, Eff 1108083614552 s (State.endReq s k status count detail) := by
  intro s k status count detail
  unfold State.endReq
  split
  · exact Eff.refl ..
  · refine Eff.ite ?_ ?_
    · exact Eff.refl ..
    · extract_lets +onlyGivenNames x0
      refine Eff.cut x0 ?_ ?_
      · subst x0
        refine Eff.ite ?_ ?_
        · exact (State.lastRecord_eff ..).mono rfl
        · exact Eff.refl ..
      intro hx
      clear_value x0
      extract_lets +onlyGivenNames x1
      refine Eff.cut x1 ?_ ?_
      · subst x1
        split
        · refine (State.chargePause_eff ..).step rfl ?_
          assumption
        · assumption
      intro hx
      clear_value x1
      extract_lets +onlyGivenNames x2
      clear_value x2
      extract_lets +onlyGivenNames x3
      refine Eff.cut x3 ?_ ?_
      · subst x3
        refine (State.forgetWork_eff ..).step rfl ?_
        refine (State.endColls_eff ..).step rfl ?_
        assumption
      intro hx
      clear_value x3
      extract_lets +onlyGivenNames x4
      refine Eff.cut x4 ?_ ?_
      · subst x4
        refine Eff.ite ?_ ?_
        · refine (State.endRemote_eff ..).step rfl ?_
          assumption
        · refine (State.charge_eff ..).step rfl ?_
          assumption
      intro hx
      clear_value x4
      extract_lets +onlyGivenNames x5
      refine Eff.cut x5 ?_ ?_
      · subst x5
        refine Eff.ite ?_ ?_
        · refine (State.incSat_eff ..).step rfl ?_
          assumption
        · assumption
      intro hx
      clear_value x5
      refine Eff.ite ?_ ?_
      · refine (State.dropReq_eff ..).step rfl ?_
        assumption
      · extract_lets +onlyGivenNames x6
        refine Eff.cut x6 ?_ ?_
        · subst x6
          refine (State.updReq_eff ..).step rfl ?_
          assumption
        intro hx
        clear_value x6
        refine (State.produce_eff ..).step rfl ?_
        assumption

theorem State.interim_eff : ∀ s k status count detail, Eff 16 s (State.interim s k status count detail) := by
  intro s k status count detail
  unfold State.interim
  split
  · exact Eff.refl ..
  · refine Eff.ite ?_ ?_
    · exact Eff.refl ..
    · refine (State.produce_eff ..).step rfl ?_
      exact Eff.refl ..

theorem State.endPoison_eff : ∀ s k site master addr count, Eff 1108083614552 s (State.endPoison s k site master addr count) := by
  intro s k site master addr count
  unfold State.endPoison
  refine (State.endReq_eff ..).step rfl ?_
  exact (State.raise_eff ..).mono rfl

theorem State.cancelReq_eff : ∀ s k, Eff 1108083614552 s (State.cancelReq s k) := by
  intro s k
  unfold State.cancelReq
  split
  · exact Eff.refl ..
  · refine Eff.ite ?_ ?_
    · exact Eff.refl ..
    · refine Eff.ite ?_ ?_
      · refine (State.updReq_eff ..).step rfl ?_
        exact Eff.refl ..
      · refine Eff.ite ?_ ?_
        · refine Eff.ite ?_ ?_
          · refine (State.updReq_eff ..).step rfl ?_
            exact Eff.refl ..
          · exact Eff.refl ..
        · refine (State.endReq_eff ..).step rfl ?_
          exact Eff.refl ..

end Sys2Proof.Machine
end

