-- ==== Sys2Proof/Laws/Reset.lean ====
section
/-! SUPPORT. What each operation of Machine/Reset.lean can change, in the terms of Laws/Eff.lean: one lemma an operation. -/

namespace Sys2Proof.Machine

theorem State.freeWalker_eff : ∀ s w, Eff 8 s (State.freeWalker s w) := by
  intro s w
  unfold State.freeWalker
  split
  · exact Eff.refl ..
  · extract_lets +onlyGivenNames x0
    clear_value x0
    refine (State.wr_eff ..).step rfl ?_
    exact (State.wr_eff ..).mono rfl

theorem State.freeEngine_eff : ∀ s t, Eff 8 s (State.freeEngine s t) := by
  intro s t
  unfold State.freeEngine
  split
  · refine (State.wr_eff ..).step rfl ?_
    exact Eff.refl ..
  · refine (State.wr_eff ..).step rfl ?_
    exact Eff.refl ..
  · exact Eff.refl ..

theorem State.freeUnit_eff : ∀ s b, Eff 8 s (State.freeUnit s b) := by
  intro s b
  unfold State.freeUnit
  split
  · exact Eff.refl ..
  · exact (State.wr_eff ..).mono rfl

theorem State.clearPartition_eff : ∀ s p, Eff 1100562957832 s (State.clearPartition s p) := by
  intro s p
  unfold State.clearPartition
  extract_lets +onlyGivenNames x0
  clear_value x0
  extract_lets +onlyGivenNames x1
  refine Eff.cut x1 ?_ ?_
  · subst x1
    refine Eff.foldl ?_ ?_
    · intro a2
      intro a3
      exact (State.freeEngine_eff ..).mono rfl
    · exact Eff.refl ..
  intro hx
  clear_value x1
  extract_lets +onlyGivenNames x4
  refine Eff.cut x4 ?_ ?_
  · subst x4
    refine (State.putTasks_eff ..).step rfl ?_
    assumption
  intro hx
  clear_value x4
  extract_lets +onlyGivenNames x5
  clear_value x5
  extract_lets +onlyGivenNames x6
  clear_value x6
  extract_lets +onlyGivenNames x7
  refine Eff.cut x7 ?_ ?_
  · subst x7
    refine Eff.foldl ?_ ?_
    · intro a8
      intro a9
      exact (State.freeWalker_eff ..).mono rfl
    · refine (State.putWalks_eff ..).step rfl ?_
      assumption
  intro hx
  clear_value x7
  extract_lets +onlyGivenNames x10
  clear_value x10
  extract_lets +onlyGivenNames x11
  clear_value x11
  extract_lets +onlyGivenNames x12
  refine Eff.cut x12 ?_ ?_
  · subst x12
    refine (State.putBags_eff ..).step rfl ?_
    refine Eff.foldl ?_ ?_
    · intro a13
      intro a14
      exact (State.freeUnit_eff ..).mono rfl
    · assumption
  intro hx
  clear_value x12
  extract_lets +onlyGivenNames x15
  refine Eff.cut x15 ?_ ?_
  · subst x15
    refine Eff.foldl ?_ ?_
    · intro a16
      intro a17
      exact (State.discardCommit_eff ..).mono rfl
    · assumption
  intro hx
  clear_value x15
  extract_lets +onlyGivenNames x18
  refine Eff.cut x18 ?_ ?_
  · subst x18
    refine Eff.foldl ?_ ?_
    · intro a19
      intro a20
      refine (State.wr_eff ..).step rfl ?_
      exact (State.putShards_eff ..).mono rfl
    · assumption
  intro hx
  clear_value x18
  extract_lets +onlyGivenNames x21
  clear_value x21
  extract_lets +onlyGivenNames x22
  refine Eff.cut x22 ?_ ?_
  · subst x22
    refine (State.putStreams_eff ..).step rfl ?_
    assumption
  intro hx
  clear_value x22
  extract_lets +onlyGivenNames x23
  refine Eff.cut x23 ?_ ?_
  · subst x23
    refine Eff.foldl ?_ ?_
    · intro a24
      intro a25
      refine Eff.ite ?_ ?_
      · refine (State.wr_eff ..).step rfl ?_
        iterate 4 refine (State.wr_eff ..).step rfl ?_
        refine (State.putProbes_eff ..).step rfl ?_
        refine (State.putPools_eff ..).step rfl ?_
        exact (State.putTrees_eff ..).mono rfl
      · exact Eff.refl ..
    · assumption
  intro hx
  clear_value x23
  refine (State.putFlash_eff ..).step rfl ?_
  assumption

theorem State.resetStreams_eff : ∀ s p, Eff 4096 s (State.resetStreams s p) := by
  intro s p
  unfold State.resetStreams
  extract_lets +onlyGivenNames x0
  clear_value x0
  exact (State.updPkg_eff ..).mono rfl

theorem State.resetPartition_eff : ∀ s p cause, Eff 1133853425498 s (State.resetPartition s p cause) := by
  intro s p cause
  unfold State.resetPartition
  refine Eff.ite ?_ ?_
  · exact Eff.refl ..
  · refine Eff.ite ?_ ?_
    · refine Eff.ite ?_ ?_
      · exact (State.wr_eff ..).mono rfl
      · exact Eff.refl ..
    · extract_lets +onlyGivenNames x0
      refine Eff.cut x0 ?_ ?_
      · subst x0
        exact (State.wr_eff ..).mono rfl
      intro hx
      clear_value x0
      extract_lets +onlyGivenNames x1
      refine Eff.cut x1 ?_ ?_
      · subst x1
        refine (State.inc_eff ..).step rfl ?_
        assumption
      intro hx
      clear_value x1
      extract_lets +onlyGivenNames x2
      refine Eff.cut x2 ?_ ?_
      · subst x2
        refine (State.wr_eff ..).step rfl ?_
        assumption
      intro hx
      clear_value x2
      extract_lets +onlyGivenNames x3
      refine Eff.cut x3 ?_ ?_
      · subst x3
        refine (State.incSat_eff ..).step rfl ?_
        assumption
      intro hx
      clear_value x3
      extract_lets +onlyGivenNames x4
      refine Eff.cut x4 ?_ ?_
      · subst x4
        refine (State.raise_eff ..).step rfl ?_
        assumption
      intro hx
      clear_value x4
      extract_lets +onlyGivenNames x5
      refine Eff.cut x5 ?_ ?_
      · subst x5
        refine Eff.foldl ?_ ?_
        · intro a6
          intro a7
          extract_lets +onlyGivenNames x8
          refine Eff.cut x8.1 ?_ ?_
          · subst x8
            split
            · exact (State.genDetail_eff ..).mono rfl
            · refine Eff.pair_fst ?_
              exact Eff.refl ..
          intro hx
          clear_value x8
          refine (State.endReq_eff ..).step rfl ?_
          assumption
        · assumption
      intro hx
      clear_value x5
      extract_lets +onlyGivenNames x9
      refine Eff.cut x9 ?_ ?_
      · subst x9
        refine Eff.foldl ?_ ?_
        · intro a10
          intro a11
          exact (State.setCluster_eff ..).mono rfl
        · assumption
      intro hx
      clear_value x9
      extract_lets +onlyGivenNames x12
      refine Eff.cut x12 ?_ ?_
      · subst x12
        refine (State.resetStreams_eff ..).step rfl ?_
        assumption
      intro hx
      clear_value x12
      extract_lets +onlyGivenNames x13
      refine Eff.cut x13 ?_ ?_
      · subst x13
        refine (State.clearPartition_eff ..).step rfl ?_
        assumption
      intro hx
      clear_value x13
      extract_lets +onlyGivenNames x14
      clear_value x14
      extract_lets +onlyGivenNames x15
      refine Eff.cut x15 ?_ ?_
      · subst x15
        refine (State.putHealth_eff ..).step rfl ?_
        assumption
      intro hx
      clear_value x15
      extract_lets +onlyGivenNames x16
      refine Eff.cut x16 ?_ ?_
      · subst x16
        refine (State.updHost_eff ..).step rfl ?_
        assumption
      intro hx
      clear_value x16
      extract_lets +onlyGivenNames x17
      clear_value x17
      extract_lets +onlyGivenNames x18
      refine Eff.cut x18 ?_ ?_
      · subst x18
        refine Eff.foldl ?_ ?_
        · intro a19
          intro a20
          exact (State.wr_eff ..).mono rfl
        · assumption
      intro hx
      clear_value x18
      extract_lets +onlyGivenNames x21
      refine Eff.cut x21 ?_ ?_
      · subst x21
        refine (State.endUse_eff ..).step rfl ?_
        assumption
      intro hx
      clear_value x21
      refine (State.setPart_eff ..).step rfl ?_
      assumption

theorem State.resetParts_eff : ∀ s ps cause, Eff 1133853425498 s (State.resetParts s ps cause) := by
  intro s ps cause
  unfold State.resetParts
  refine Eff.foldl ?_ ?_
  · intro a0
    intro a1
    exact (State.resetPartition_eff ..).mono rfl
  · exact Eff.refl ..

end Sys2Proof.Machine
end

