-- ==== Sys2Proof/Laws/Memory.lean ====
section
/-! SUPPORT. What each operation of Machine/Memory.lean can change, in the terms of Laws/Eff.lean: one lemma an operation. -/

namespace Sys2Proof.Machine

theorem State.corrected_eff : ∀ s w pos data master, Eff 1099511628040 s (State.corrected s w pos data master) := by
  intro s w pos data master
  unfold State.corrected
  extract_lets +onlyGivenNames x0
  clear_value x0
  extract_lets +onlyGivenNames x1
  clear_value x1
  extract_lets +onlyGivenNames x2
  refine Eff.cut x2 ?_ ?_
  · subst x2
    exact (State.inc_eff ..).mono rfl
  intro hx
  clear_value x2
  extract_lets +onlyGivenNames x3
  refine Eff.cut x3 ?_ ?_
  · subst x3
    refine (State.wr_eff ..).step rfl ?_
    assumption
  intro hx
  clear_value x3
  extract_lets +onlyGivenNames x4
  refine Eff.cut x4 ?_ ?_
  · subst x4
    refine (State.wr_eff ..).step rfl ?_
    assumption
  intro hx
  clear_value x4
  extract_lets +onlyGivenNames x5
  clear_value x5
  extract_lets +onlyGivenNames x6
  refine Eff.cut x6 ?_ ?_
  · subst x6
    refine Eff.step (State.updMem_eff _ _ fun _ => rfl) rfl ?_
    assumption
  intro hx
  clear_value x6
  refine (State.codeCorrected_eff ..).step rfl ?_
  assumption

theorem State.startDetect_eff : ∀ s w, Eff 1099511627784 s (State.startDetect s w) := by
  intro s w
  unfold State.startDetect
  extract_lets +onlyGivenNames x0
  clear_value x0
  refine Eff.step (State.updMem_eff _ _ fun _ => rfl) rfl ?_
  exact (State.wr_eff ..).mono rfl

theorem State.rereads_eff : ∀ s w noises master, Eff 1099511628040 s (State.rereads s w noises master).1 := by
  intro s w noises master
  induction noises generalizing s w master with
  | nil =>
    rw [State.rereads]
    refine Eff.pair_fst ?_
    exact Eff.refl ..
  | cons b r ih =>
    rw [State.rereads]
    split
    · refine Eff.pair_fst ?_
      refine (State.raise_eff ..).step rfl ?_
      exact (State.incSat_eff ..).mono rfl
    · refine Eff.pair_fst ?_
      refine (State.raise_eff ..).step rfl ?_
      refine (State.inc_eff ..).step rfl ?_
      exact (State.incSat_eff ..).mono rfl
    · refine (ih ..).step rfl ?_
      refine (State.startDetect_eff ..).step rfl ?_
      exact (State.incSat_eff ..).mono rfl

theorem State.poisonWordAt_eff : ∀ s w, Eff 1099511628544 s (State.poisonWordAt s w) := by
  intro s w
  unfold State.poisonWordAt
  refine (State.raise_eff ..).step rfl ?_
  exact (State.updMem_cells_eff _ _ fun _ h => by dsimp only [MemState.written]; exact putWord_wf _ _ h).mono rfl

theorem State.uncorrectable_eff : ∀ s w master, Eff 1133853425498 s (State.uncorrectable s w master) := by
  intro s w master
  unfold State.uncorrectable
  extract_lets +onlyGivenNames x0
  clear_value x0
  extract_lets +onlyGivenNames x1
  refine Eff.cut x1 ?_ ?_
  · subst x1
    exact (State.inc_eff ..).mono rfl
  intro hx
  clear_value x1
  extract_lets +onlyGivenNames x2
  refine Eff.cut x2 ?_ ?_
  · subst x2
    refine (State.raise_eff ..).step rfl ?_
    assumption
  intro hx
  clear_value x2
  split
  · assumption
  · split
    · refine (State.resetPartition_eff ..).step rfl ?_
      refine Eff.step (State.updMem_eff _ _ fun _ => rfl) rfl ?_
      assumption
    · refine (State.poisonWordAt_eff ..).step rfl ?_
      assumption

theorem State.readCtl_eff : ∀ s w master noise, Eff 1133853425498 s (State.readCtl s w master noise).1 := by
  intro s w master noise
  unfold State.readCtl
  extract_lets +onlyGivenNames x0
  clear_value x0
  extract_lets +onlyGivenNames x1
  refine Eff.cut x1 ?_ ?_
  · subst x1
    exact (State.touchChan_eff ..).mono rfl
  intro hx
  clear_value x1
  extract_lets +onlyGivenNames x2
  clear_value x2
  split
  · assumption
  · refine Eff.pair_fst ?_
    refine (State.corrected_eff ..).step rfl ?_
    assumption
  · refine Eff.pair_fst ?_
    refine (State.inc_eff ..).step rfl ?_
    assumption
  · split
    · refine Eff.pair_fst ?_
      refine (State.uncorrectable_eff ..).step rfl ?_
      refine Eff.of_fst ‹_ = (_, _)› ?_
      refine (State.rereads_eff ..).step rfl ?_
      refine (State.startDetect_eff ..).step rfl ?_
      assumption
    · refine (State.rereads_eff ..).step rfl ?_
      refine (State.startDetect_eff ..).step rfl ?_
      assumption

theorem State.readUnit_eff : ∀ s a n master, Eff 1133853425498 s (State.readUnit s a n master).1 := by
  intro s a n master
  unfold State.readUnit
  extract_lets +onlyGivenNames x0
  refine Eff.cut x0.1 ?_ ?_
  · subst x0
    refine Eff.foldl_fst ?_ ?_
    · intro a1
      intro a2
      intro a3
      extract_lets +onlyGivenNames x4
      refine Eff.cut x4.1 ?_ ?_
      · subst x4
        exact (State.readCtl_eff ..).mono rfl
      intro hx
      clear_value x4
      assumption
    · refine Eff.pair_fst ?_
      exact Eff.refl ..
  intro hx
  clear_value x0
  assumption

theorem State.copyRead_eff : ∀ s w, Eff 1133853425498 s (State.copyRead s w).1 := by
  intro s w
  unfold State.copyRead
  extract_lets +onlyGivenNames x0
  refine Eff.cut x0.1 ?_ ?_
  · subst x0
    exact (State.readCtl_eff ..).mono rfl
  intro hx
  clear_value x0
  assumption

theorem State.writeDevBad_eff : ∀ s a bs bad, Eff 1099511628288 s (State.writeDevBad s a bs bad) := by
  intro s a bs bad
  unfold State.writeDevBad
  refine Eff.foldl ?_ ?_
  · intro a0
    intro a1
    exact (State.writeDevP_eff ..).mono rfl
  · exact (State.writeDev_eff ..).mono rfl

theorem State.readUnits_eff : ∀ s master l, Eff 1133853425498 s (State.readUnits s master l).1 := by
  intro s master l
  unfold State.readUnits
  refine Eff.foldl_fst ?_ ?_
  · intro a0
    intro a1
    intro a2
    extract_lets +onlyGivenNames x3
    refine Eff.cut x3.1 ?_ ?_
    · subst x3
      exact (State.readUnit_eff ..).mono rfl
    intro hx
    clear_value x3
    assumption
  · refine Eff.pair_fst ?_
    exact Eff.refl ..

theorem State.mergeRead_eff : ∀ s a n, Eff 1133853425498 s (State.mergeRead s a n) := by
  intro s a n
  unfold State.mergeRead
  extract_lets +onlyGivenNames x0
  refine Eff.cut x0.1 ?_ ?_
  · subst x0
    refine Eff.foldl_fst ?_ ?_
    · intro a1
      intro a2
      intro a3
      extract_lets +onlyGivenNames x4
      refine Eff.cut x4.1 ?_ ?_
      · subst x4
        exact (State.readCtl_eff ..).mono rfl
      intro hx
      clear_value x4
      assumption
    · refine Eff.pair_fst ?_
      exact Eff.refl ..
  intro hx
  clear_value x0
  refine Eff.ite ?_ ?_
  · refine (State.raise_eff ..).step rfl ?_
    assumption
  · assumption

theorem State.mergeAddr_eff : ∀ s c a n, Eff 1133853425498 s (State.mergeAddr s c a n) := by
  intro s c a n
  unfold State.mergeAddr
  refine Eff.ite ?_ ?_
  · exact (State.mergeRead_eff ..).mono rfl
  · exact Eff.refl ..

theorem State.endWrite_eff : ∀ s k, Eff 1108083614554 s (State.endWrite s k) := by
  intro s k
  unfold State.endWrite
  extract_lets +onlyGivenNames x0
  refine Eff.cut x0 ?_ ?_
  · subst x0
    exact (State.raise_eff ..).mono rfl
  intro hx
  clear_value x0
  extract_lets +onlyGivenNames x1
  refine Eff.cut x1.1 ?_ ?_
  · subst x1
    split
    · refine (State.genDetail_eff ..).step rfl ?_
      assumption
    · assumption
  intro hx
  clear_value x1
  refine (State.endReq_eff ..).step rfl ?_
  assumption

theorem State.putOutP_eff : ∀ s k o bs poison, Eff 1133853425498 s (State.putOutP s k o bs poison) := by
  intro s k o bs poison
  unfold State.putOutP
  split
  · exact Eff.refl ..
  · refine Eff.ite ?_ ?_
    · exact Eff.refl ..
    · extract_lets +onlyGivenNames x0
      refine Eff.cut x0 ?_ ?_
      · subst x0
        refine Eff.ite ?_ ?_
        · exact Eff.refl ..
        · exact (State.mergeAddr_eff ..).mono rfl
      intro hx
      clear_value x0
      refine Eff.ite ?_ ?_
      · assumption
      · split
        · refine (State.updReq_eff ..).step rfl ?_
          refine (State.writeAddr_eff (by assumption)).step rfl ?_
          assumption
        · refine (State.endWrite_eff ..).step rfl ?_
          assumption

theorem State.putOut_eff : ∀ s k o bs, Eff 1133853425498 s (State.putOut s k o bs) := by
  intro s k o bs
  unfold State.putOut
  exact (State.putOutP_eff ..).mono rfl

theorem State.putRec_eff : ∀ s k o bs, Eff 1133853425498 s (State.putRec s k o bs) := by
  intro s k o bs
  unfold State.putRec
  split
  · exact Eff.refl ..
  · refine Eff.ite ?_ ?_
    · exact Eff.refl ..
    · extract_lets +onlyGivenNames x0
      refine Eff.cut x0 ?_ ?_
      · subst x0
        exact (State.mergeAddr_eff ..).mono rfl
      intro hx
      clear_value x0
      refine Eff.ite ?_ ?_
      · assumption
      · split
        · refine (State.updReq_eff ..).step rfl ?_
          refine (State.writeAddr_eff (by assumption)).step rfl ?_
          assumption
        · refine (State.endWrite_eff ..).step rfl ?_
          assumption

theorem State.writeBackWord_eff : ∀ s w, Eff 1099511628288 s (State.writeBackWord s w) := by
  intro s w
  unfold State.writeBackWord
  split
  · exact Eff.refl ..
  · refine Eff.step (State.updMem_cells_eff _ _ fun _ h => putWord_wf _ _ h) rfl ?_
    exact Eff.refl ..

theorem execCorrectionWriteback_eff : ∀ word s, OutEff 1099511628288 s (execCorrectionWriteback word s) := by
  intro word s
  unfold execCorrectionWriteback
  refine OutEff.next ?_
  exact (State.writeBackWord_eff ..).mono rfl

theorem State.patrol_eff : ∀ s w noise, Eff 1133853425498 s (State.patrol s w noise) := by
  intro s w noise
  unfold State.patrol
  refine Eff.ite ?_ ?_
  · exact Eff.refl ..
  · refine (State.writeBackWord_eff ..).step rfl ?_
    exact (State.readCtl_eff ..).mono rfl

theorem execPatrolRead_eff : ∀ word noise s, OutEff 1133853425498 s (execPatrolRead word noise s) := by
  intro word noise s
  unfold execPatrolRead
  refine OutEff.next ?_
  exact (State.patrol_eff ..).mono rfl

theorem State.refreshBank_eff : ∀ s c b temp busy, Eff 1099511627784 s (State.refreshBank s c b temp busy) := by
  intro s c b temp busy
  unfold State.refreshBank
  refine Eff.ite ?_ ?_
  · exact Eff.refl ..
  · extract_lets +onlyGivenNames x0
    refine Eff.cut x0 ?_ ?_
    · subst x0
      exact (State.wr_eff ..).mono rfl
    intro hx
    clear_value x0
    extract_lets +onlyGivenNames x1
    clear_value x1
    extract_lets +onlyGivenNames x2
    clear_value x2
    refine Eff.ite ?_ ?_
    · extract_lets +onlyGivenNames x3
      refine Eff.cut x3 ?_ ?_
      · subst x3
        refine Eff.step (State.updMem_eff _ _ fun _ => rfl) rfl ?_
        assumption
      intro hx
      clear_value x3
      refine (State.wr_eff ..).step rfl ?_
      assumption
    · refine Eff.step (State.updMem_eff _ _ fun _ => rfl) rfl ?_
      assumption

theorem execRefresh_eff : ∀ chan bank temp busy s, OutEff 1099511627784 s (execRefresh chan bank temp busy s) := by
  intro chan bank temp busy s
  unfold execRefresh
  refine OutEff.next ?_
  exact (State.refreshBank_eff ..).mono rfl

theorem State.refreshMgmt_eff : ∀ s c, Eff 1099511627776 s (State.refreshMgmt s c) := by
  intro s c
  unfold State.refreshMgmt
  exact Eff.step (State.updMem_eff _ _ fun _ => rfl) rfl (Eff.refl ..)

theorem execRefreshManagement_eff : ∀ chan s, OutEff 1099511627776 s (execRefreshManagement chan s) := by
  intro chan s
  unfold execRefreshManagement
  refine OutEff.next ?_
  exact (State.refreshMgmt_eff ..).mono rfl

theorem State.trackLane_eff : ∀ s c mv, Eff 1099511627784 s (State.trackLane s c mv) := by
  intro s c mv
  unfold State.trackLane
  extract_lets +onlyGivenNames x0
  clear_value x0
  extract_lets +onlyGivenNames x1
  clear_value x1
  refine Eff.ite ?_ ?_
  · refine Eff.step (State.updMem_eff _ _ fun _ => rfl) rfl ?_
    exact Eff.refl ..
  · extract_lets +onlyGivenNames x2
    clear_value x2
    refine Eff.ite ?_ ?_
    · exact Eff.refl ..
    · extract_lets +onlyGivenNames x3
      refine Eff.cut x3 ?_ ?_
      · subst x3
        exact Eff.step (State.updMem_eff _ _ fun _ => rfl) rfl (Eff.refl ..)
      intro hx
      clear_value x3
      refine (State.incSat_eff ..).step rfl ?_
      refine (State.incSat_eff ..).step rfl ?_
      assumption

theorem State.tracking_eff : ∀ s c moves, Eff 1099511627784 s (State.tracking s c moves) := by
  intro s c moves
  unfold State.tracking
  extract_lets +onlyGivenNames x0
  refine Eff.cut x0 ?_ ?_
  · subst x0
    refine Eff.step (State.updMem_eff _ _ fun _ => rfl) rfl ?_
    exact Eff.refl ..
  intro hx
  clear_value x0
  extract_lets +onlyGivenNames x1
  refine Eff.cut x1 ?_ ?_
  · subst x1
    refine Eff.foldl ?_ ?_
    · intro a2
      intro a3
      exact (State.trackLane_eff ..).mono rfl
    · assumption
  intro hx
  clear_value x1
  refine (State.wr_eff ..).step rfl ?_
  assumption

theorem execReadTrackingUpdate_eff : ∀ chan moves s, OutEff 1099511627784 s (execReadTrackingUpdate chan moves s) := by
  intro chan moves s
  unfold execReadTrackingUpdate
  refine OutEff.next ?_
  exact (State.tracking_eff ..).mono rfl

theorem State.retrainSub_eff : ∀ s c sc ok1 ok2, Eff 1099511628040 s (State.retrainSub s c sc ok1 ok2) := by
  intro s c sc ok1 ok2
  unfold State.retrainSub
  refine Eff.ite ?_ ?_
  · extract_lets +onlyGivenNames x0
    refine Eff.cut x0 ?_ ?_
    · subst x0
      exact Eff.step (State.updMem_eff _ _ fun _ => rfl) rfl (Eff.refl ..)
    intro hx
    clear_value x0
    refine Eff.ite ?_ ?_
    · extract_lets +onlyGivenNames x1
      refine Eff.cut x1 ?_ ?_
      · subst x1
        refine Eff.step (State.updMem_eff _ _ fun _ => rfl) rfl ?_
        assumption
      intro hx
      clear_value x1
      refine (State.wr_eff ..).step rfl ?_
      assumption
    · refine (State.raise_eff ..).step rfl ?_
      assumption
  · exact Eff.refl ..

theorem execSubchannelRetrain_eff : ∀ chan sc ok1 ok2 s, OutEff 1099511628040 s (execSubchannelRetrain chan sc ok1 ok2 s) := by
  intro chan sc ok1 ok2 s
  unfold execSubchannelRetrain
  refine OutEff.next ?_
  exact (State.retrainSub_eff ..).mono rfl

theorem State.detectExpire_eff : ∀ s c sc, Eff 8 s (State.detectExpire s c sc) := by
  intro s c sc
  unfold State.detectExpire
  refine Eff.ite ?_ ?_
  · refine (State.wr_eff ..).step rfl ?_
    exact Eff.refl ..
  · exact Eff.refl ..

theorem execDetectWindowExpire_eff : ∀ chan sc s, OutEff 8 s (execDetectWindowExpire chan sc s) := by
  intro chan sc s
  unfold execDetectWindowExpire
  refine OutEff.next ?_
  exact (State.detectExpire_eff ..).mono rfl

theorem State.powerDownChan_eff : ∀ s c, Eff 1099511627776 s (State.powerDownChan s c) := by
  intro s c
  unfold State.powerDownChan
  refine Eff.ite ?_ ?_
  · refine Eff.step (State.updMem_eff _ _ fun _ => rfl) rfl ?_
    exact Eff.refl ..
  · exact Eff.refl ..

theorem execChannelPowerDown_eff : ∀ chan s, OutEff 1099511627776 s (execChannelPowerDown chan s) := by
  intro chan s
  unfold execChannelPowerDown
  refine OutEff.next ?_
  exact (State.powerDownChan_eff ..).mono rfl

end Sys2Proof.Machine
end

