-- ==== Sys2Proof/Laws/Operands.lean ====
section
/-! SUPPORT. What each operation of Machine/Operands.lean can change, in the terms of Laws/Eff.lean: one lemma an operation. -/

namespace Sys2Proof.Machine

theorem State.clusterFault_eff : ∀ s cl kind_ cls cause, Eff 1133853425498 s (State.clusterFault s cl kind_ cls cause) := by
  intro s cl kind_ cls cause
  unfold State.clusterFault
  extract_lets +onlyGivenNames x0
  refine Eff.cut x0 ?_ ?_
  · subst x0
    exact (State.raise_eff ..).mono rfl
  intro hx
  clear_value x0
  split
  · refine (State.resetPartition_eff ..).step rfl ?_
    assumption
  · assumption

theorem State.scratchHazard_eff : ∀ s cl, Eff 1133853425498 s (State.scratchHazard s cl) := by
  intro s cl
  unfold State.scratchHazard
  exact (State.clusterFault_eff ..).mono rfl

theorem State.controlPoison_eff : ∀ s cl, Eff 1133853425498 s (State.controlPoison s cl) := by
  intro s cl
  unfold State.controlPoison
  exact (State.clusterFault_eff ..).mono rfl

theorem State.scratchFault_eff : ∀ s cl w master, Eff 1133853425498 s (State.scratchFault s cl w master) := by
  intro s cl w master
  unfold State.scratchFault
  extract_lets +onlyGivenNames x0
  clear_value x0
  extract_lets +onlyGivenNames x1
  refine Eff.cut x1 ?_ ?_
  · subst x1
    exact (State.raise_eff ..).mono rfl
  intro hx
  clear_value x1
  extract_lets +onlyGivenNames x2
  refine Eff.cut x2 ?_ ?_
  · subst x2
    split
    · refine (State.resetPartition_eff ..).step rfl ?_
      assumption
    · assumption
  intro hx
  clear_value x2
  refine (State.raise_eff ..).step rfl ?_
  refine (State.setCluster_eff ..).step rfl ?_
  assumption

theorem State.scratchRead_eff : ∀ s cl ws, Eff 1133853425498 s (State.scratchRead s cl ws).1 := by
  intro s cl ws
  induction ws generalizing s cl with
  | nil =>
    rw [State.scratchRead]
    refine Eff.pair_fst ?_
    exact Eff.refl ..
  | cons b r ih =>
    rw [State.scratchRead]
    split
    · refine Eff.pair_fst ?_
      exact (State.scratchFault_eff ..).mono rfl
    · refine (ih ..).step rfl ?_
      exact (State.codeCorrected_eff ..).mono rfl
    · exact (ih ..).mono rfl

theorem State.reading_eff {k : Nat} {s0 s : State} {cl : Nat} {l : List (Nat × Nat)} {f : State → State} (hk : subMask 1133853425498 k = true)
    (h : Eff k s0 s) (hf : ∀ t, Eff k s0 t → Eff k s0 (f t)) : Eff k s0 (s.reading cl l f) := by
  unfold State.reading
  refine Eff.ite ((State.scratchHazard_eff ..).step hk h) ?_
  split
  · exact hf _ (Eff.of_fst ‹_ = (_, _)› ((State.scratchRead_eff ..).step hk h))
  · exact Eff.of_fst ‹_ = (_, _)› ((State.scratchRead_eff ..).step hk h)

theorem State.writing_eff {k : Nat} {s0 s : State} {cl cls : Nat} {l : List (Nat × Nat)} {f : State → State}
    (hk : subMask 1133853425498 k = true) (h : Eff k s0 s) (hf : ∀ t, Eff k s0 t → Eff k s0 (f t)) : Eff k s0 (s.writing cl cls l f) := by
  unfold State.writing
  extract_lets ws
  clear_value ws
  refine Eff.ite ((State.scratchHazard_eff ..).step hk h) ?_
  split
  · refine hf _ (Eff.foldl (fun _ _ => ((State.raise_eff ..).mono rfl).step hk (Eff.refl ..)) ?_)
    exact Eff.of_fst ‹_ = (_, _)› ((State.scratchRead_eff ..).step hk h)
  · exact Eff.of_fst ‹_ = (_, _)› ((State.scratchRead_eff ..).step hk h)

end Sys2Proof.Machine
end

