-- ==== Sys2Proof/Laws/Matrix.lean ====
section
/-! SUPPORT. What each operation of Machine/Matrix.lean can change, in the terms of Laws/Eff.lean: one lemma an operation. -/

namespace Sys2Proof.Machine

theorem State.onCluster_eff {k : Nat} {s0 s : State} {cl : Nat} {f : Cluster → State} (h : Eff k s0 s)
    (hf : ∀ c, Eff k s0 (f c)) : Eff k s0 (s.onCluster cl f) := by
  unfold State.onCluster
  extract_lets x
  exact Eff.ite (hf x) h

theorem State.setStep_eff : ∀ s cl addr, Eff 1133853425498 s (State.setStep s cl addr) := by
  intro s cl addr
  unfold State.setStep
  refine State.onCluster_eff ?_ ?_
  · exact Eff.refl ..
  · intro a0
    refine State.reading_eff rfl ?_ ?_
    · exact Eff.refl ..
    · intro a1
      intro a2
      extract_lets +onlyGivenNames x3
      clear_value x3
      refine Eff.ite ?_ ?_
      · refine (State.controlPoison_eff ..).step rfl ?_
        assumption
      · refine (State.setCluster_eff ..).step rfl ?_
        assumption

theorem execSetstep_eff : ∀ cl addr s, OutEff 1133853425498 s (execSetstep cl addr s) := by
  intro cl addr s
  unfold execSetstep
  refine OutEff.next ?_
  exact (State.setStep_eff ..).mono rfl

theorem State.setPair_eff : ∀ s cl addr, Eff 2048 s (State.setPair s cl addr) := by
  intro s cl addr
  unfold State.setPair
  refine State.onCluster_eff ?_ ?_
  · exact Eff.refl ..
  · intro a0
    exact (State.setCluster_eff ..).mono rfl

theorem execSetpair_eff : ∀ cl addr s, OutEff 2048 s (execSetpair cl addr s) := by
  intro cl addr s
  unfold execSetpair
  refine OutEff.next ?_
  exact (State.setPair_eff ..).mono rfl

theorem State.wload_eff : ∀ s cl addr arrays wb, Eff 1133853425498 s (State.wload s cl addr arrays wb) := by
  intro s cl addr arrays wb
  unfold State.wload
  refine State.onCluster_eff ?_ ?_
  · exact Eff.refl ..
  · intro a0
    extract_lets +onlyGivenNames x1
    clear_value x1
    extract_lets +onlyGivenNames x2
    clear_value x2
    extract_lets +onlyGivenNames x3
    clear_value x3
    refine State.reading_eff rfl ?_ ?_
    · exact Eff.refl ..
    · intro a4
      intro a5
      extract_lets +onlyGivenNames x6
      clear_value x6
      extract_lets +onlyGivenNames x7
      clear_value x7
      extract_lets +onlyGivenNames x8
      clear_value x8
      extract_lets +onlyGivenNames x9
      clear_value x9
      extract_lets +onlyGivenNames x10
      clear_value x10
      refine (State.setCluster_eff ..).step rfl ?_
      assumption

theorem execWload_eff : ∀ cl wAddr arrays wb s, OutEff 1133853425498 s (execWload cl wAddr arrays wb s) := by
  intro cl wAddr arrays wb s
  unfold execWload
  refine OutEff.next ?_
  exact (State.wload_eff ..).mono rfl

theorem State.withPair_eff {m : Nat} {s : State} {cl pair : Nat} {f : State → Cluster → Nat → List Byte → State}
    (hm : subMask 1133853425498 m = true) (h : ∀ t c pa r, Eff m s t → Eff m s (f t c pa r)) : Eff m s (State.withPair s cl pair f) := by
  unfold State.withPair
  refine State.onCluster_eff (Eff.refl ..) fun c => ?_
  extract_lets pa
  refine State.reading_eff (subMask_trans rfl hm) (Eff.refl ..) fun t ht => ?_
  extract_lets r
  exact Eff.ite ((State.controlPoison_eff ..).step hm ht) (h _ _ _ _ ht)

theorem State.mma_eff : ∀ s cl addr pair wb last first, Eff 1133853425498 s (State.mma s cl addr pair wb last first) := by
  intro s cl addr pair wb last first
  unfold State.mma
  refine State.withPair_eff rfl ?_
  intro a0
  intro a1
  intro a2
  intro a3
  intro a4
  extract_lets +onlyGivenNames x5
  clear_value x5
  extract_lets +onlyGivenNames x6
  clear_value x6
  extract_lets +onlyGivenNames x7
  clear_value x7
  refine Eff.ite ?_ ?_
  · refine (State.setCluster_eff ..).step rfl ?_
    assumption
  · refine State.reading_eff rfl ?_ ?_
    · assumption
    · intro a8
      intro a9
      refine State.writing_eff rfl ?_ ?_
      · assumption
      · intro a10
        intro a11
        extract_lets +onlyGivenNames x12
        clear_value x12
        extract_lets +onlyGivenNames x13
        clear_value x13
        extract_lets +onlyGivenNames x14
        clear_value x14
        extract_lets +onlyGivenNames x15
        clear_value x15
        refine (State.setCluster_eff ..).step rfl ?_
        assumption

theorem execMma_eff : ∀ cl aAddr pair wb last first s, OutEff 1133853425498 s (execMma cl aAddr pair wb last first s) := by
  intro cl aAddr pair wb last first s
  unfold execMma
  refine OutEff.next ?_
  exact (State.mma_eff ..).mono rfl

theorem State.lmv_eff : ∀ s cl addr pair blocks win last first, Eff 1133853425498 s (State.lmv s cl addr pair blocks win last first) := by
  intro s cl addr pair blocks win last first
  unfold State.lmv
  refine State.withPair_eff rfl ?_
  intro a0
  intro a1
  intro a2
  intro a3
  intro a4
  extract_lets +onlyGivenNames x5
  clear_value x5
  extract_lets +onlyGivenNames x6
  clear_value x6
  extract_lets +onlyGivenNames x7
  clear_value x7
  refine Eff.ite ?_ ?_
  · refine (State.setCluster_eff ..).step rfl ?_
    assumption
  · refine State.reading_eff rfl ?_ ?_
    · assumption
    · intro a8
      intro a9
      refine State.writing_eff rfl ?_ ?_
      · assumption
      · intro a10
        intro a11
        extract_lets +onlyGivenNames x12
        clear_value x12
        extract_lets +onlyGivenNames x13
        clear_value x13
        refine (State.setCluster_eff ..).step rfl ?_
        assumption

theorem execLmv_eff : ∀ cl aAddr pair blocks winAddr last first s, OutEff 1133853425498 s (execLmv cl aAddr pair blocks winAddr last first s) := by
  intro cl aAddr pair blocks winAddr last first s
  unfold execLmv
  refine OutEff.next ?_
  exact (State.lmv_eff ..).mono rfl

theorem State.pacc_eff : ∀ s cl src pair, Eff 1133853425498 s (State.pacc s cl src pair) := by
  intro s cl src pair
  unfold State.pacc
  refine State.withPair_eff rfl ?_
  intro a0
  intro a1
  intro a2
  intro a3
  intro a4
  extract_lets +onlyGivenNames x5
  clear_value x5
  extract_lets +onlyGivenNames x6
  clear_value x6
  extract_lets +onlyGivenNames x7
  clear_value x7
  extract_lets +onlyGivenNames x8
  clear_value x8
  refine State.reading_eff rfl ?_ ?_
  · assumption
  · intro a9
    intro a10
    extract_lets +onlyGivenNames x11
    clear_value x11
    extract_lets +onlyGivenNames x12
    clear_value x12
    extract_lets +onlyGivenNames x13
    clear_value x13
    extract_lets +onlyGivenNames x14
    clear_value x14
    extract_lets +onlyGivenNames x15
    clear_value x15
    refine (State.setCluster_eff ..).step rfl ?_
    assumption

theorem execPacc_eff : ∀ cl srcAddr pair s, OutEff 1133853425498 s (execPacc cl srcAddr pair s) := by
  intro cl srcAddr pair s
  unfold execPacc
  refine OutEff.next ?_
  exact (State.pacc_eff ..).mono rfl

theorem State.recompute_eff : ∀ s cl fetch elems, Eff 2048 s (State.recompute s cl fetch elems) := by
  intro s cl fetch elems
  unfold State.recompute
  extract_lets +onlyGivenNames x0
  clear_value x0
  exact (State.setCluster_eff ..).mono rfl

theorem execRecomputeDone_eff : ∀ cl fetch elems s, OutEff 2048 s (execRecomputeDone cl fetch elems s) := by
  intro cl fetch elems s
  unfold execRecomputeDone
  refine OutEff.next ?_
  exact (State.recompute_eff ..).mono rfl

end Sys2Proof.Machine
end

