-- ==== Sys2Proof/Laws/Sequencer.lean ====
section
/-! SUPPORT. What each operation of Machine/Sequencer.lean can change, in the terms of Laws/Eff.lean: one lemma an operation. -/

namespace Sys2Proof.Machine

theorem State.hold_eff : ∀ s cl c i k, Eff 2056 s (State.hold s cl c i k) := by
  intro s cl c i k
  unfold State.hold
  split
  · refine (State.setCluster_eff ..).step rfl ?_
    exact Eff.refl ..
  · refine (State.setFreqStep_eff ..).step rfl ?_
    exact (State.setCluster_eff ..).mono rfl

theorem State.streamBounds_eff : ∀ s cl p, Eff 1133853425498 s (State.streamBounds s cl p) := by
  intro s cl p
  unfold State.streamBounds
  extract_lets +onlyGivenNames x0
  refine Eff.cut x0 ?_ ?_
  · subst x0
    exact (State.raise_eff ..).mono rfl
  intro hx
  clear_value x0
  extract_lets +onlyGivenNames x1
  clear_value x1
  refine (State.resetPartition_eff ..).step rfl ?_
  refine Eff.foldl ?_ ?_
  · intro a2
    intro a3
    exact (State.endReq_eff ..).mono rfl
  · assumption

theorem State.queueXfer_eff : ∀ s cl desc engine page i, Eff 1133853425498 s (State.queueXfer s cl desc engine page i) := by
  intro s cl desc engine page i
  unfold State.queueXfer
  refine State.onCluster_eff ?_ ?_
  · exact Eff.refl ..
  · intro a0
    split
    · exact Eff.refl ..
    · extract_lets +onlyGivenNames x1
      clear_value x1
      extract_lets +onlyGivenNames x2
      clear_value x2
      refine Eff.ite ?_ ?_
      · exact (State.hold_eff ..).mono rfl
      · refine State.reading_eff rfl ?_ ?_
        · exact Eff.refl ..
        · intro a3
          intro a4
          refine Eff.ite ?_ ?_
          · refine (State.scratchHazard_eff ..).step rfl ?_
            assumption
          · refine Eff.ite ?_ ?_
            · refine (State.controlPoison_eff ..).step rfl ?_
              assumption
            · refine Eff.ite ?_ ?_
              · refine (State.streamBounds_eff ..).step rfl ?_
                assumption
              · refine (State.setCluster_eff ..).step rfl ?_
                assumption

theorem execStream_eff : ∀ cl descAddr engine s, OutEff 1133853425498 s (execStream cl descAddr engine s) := by
  intro cl descAddr engine s
  unfold execStream
  refine OutEff.next ?_
  exact (State.queueXfer_eff ..).mono rfl

theorem execPage_eff : ∀ cl descAddr engine s, OutEff 1133853425498 s (execPage cl descAddr engine s) := by
  intro cl descAddr engine s
  unfold execPage
  refine OutEff.next ?_
  exact (State.queueXfer_eff ..).mono rfl

theorem State.putRemote_eff : ∀ s cl p d a w, Eff 1099511634432 s (State.putRemote s cl p d a w) := by
  intro s cl p d a w
  unfold State.putRemote
  split
  · refine Eff.step (State.updMem_cells_eff _ _ fun _ h => putWord_wf _ _ h) rfl ?_
    exact Eff.refl ..
  · exact (State.updPkg_eff ..).mono rfl
  · extract_lets +onlyGivenNames x0
    clear_value x0
    extract_lets +onlyGivenNames x1
    clear_value x1
    exact (State.setCluster_eff ..).mono rfl
  · exact (State.updPkg_eff ..).mono rfl

theorem State.remoteFault_eff : ∀ s cl p d a, Eff 1133853425498 s (State.remoteFault s cl p d a) := by
  intro s cl p d a
  unfold State.remoteFault
  extract_lets +onlyGivenNames x0
  clear_value x0
  refine (State.raise_eff ..).step rfl ?_
  refine (State.putRemote_eff ..).step rfl ?_
  refine (State.resetPartition_eff ..).step rfl ?_
  exact (State.raise_eff ..).mono rfl

theorem State.xferRead_eff : ∀ s cl p d a, Eff 1133853425498 s (State.xferRead s cl p d a).1 := by
  intro s cl p d a
  unfold State.xferRead
  extract_lets +onlyGivenNames x0
  clear_value x0
  refine Eff.ite_fst ?_ ?_
  · extract_lets +onlyGivenNames x1
    refine Eff.cut x1.1 ?_ ?_
    · subst x1
      exact (State.readCtl_eff ..).mono rfl
    intro hx
    clear_value x1
    assumption
  · split
    · refine Eff.pair_fst ?_
      exact (State.remoteFault_eff ..).mono rfl
    · refine Eff.pair_fst ?_
      exact (State.codeCorrected_eff ..).mono rfl
    · refine Eff.pair_fst ?_
      exact Eff.refl ..

theorem State.moveWords_eff : ∀ s cl p d ws, Eff 1133853425498 s (State.moveWords s cl p d ws).1 := by
  intro s cl p d ws
  induction ws generalizing s cl p d with
  | nil =>
    rw [State.moveWords]
    refine Eff.pair_fst ?_
    exact Eff.refl ..
  | cons b r ih =>
    rw [State.moveWords]
    refine Eff.ite_fst ?_ ?_
    · split
      · refine (ih ..).step rfl ?_
        refine (State.putRemote_eff ..).step rfl ?_
        refine Eff.of_fst ‹_ = (_, _)› ?_
        exact (State.scratchRead_eff ..).mono rfl
      · refine Eff.pair_fst ?_
        refine Eff.of_fst ‹_ = (_, _)› ?_
        exact (State.scratchRead_eff ..).mono rfl
    · split
      · extract_lets +onlyGivenNames x0
        clear_value x0
        refine (ih ..).step rfl ?_
        refine (State.setCluster_eff ..).step rfl ?_
        refine Eff.of_fst ‹_ = (_, _)› ?_
        exact (State.xferRead_eff ..).mono rfl
      · refine Eff.pair_fst ?_
        refine Eff.of_fst ‹_ = (_, _)› ?_
        exact (State.xferRead_eff ..).mono rfl

theorem State.pageWords_eff : ∀ s cl p d ws, Eff 1133853425498 s (State.pageWords s cl p d ws).1 := by
  intro s cl p d ws
  induction ws generalizing s cl p d with
  | nil =>
    rw [State.pageWords]
    refine Eff.pair_fst ?_
    exact Eff.refl ..
  | cons b r ih =>
    rw [State.pageWords]
    split
    · refine Eff.pair_fst ?_
      refine Eff.of_fst ‹_ = (_, _)› ?_
      exact (State.xferRead_eff ..).mono rfl
    · extract_lets +onlyGivenNames x0
      refine Eff.cut x0.1 ?_ ?_
      · subst x0
        refine (ih ..).step rfl ?_
        refine Eff.of_fst ‹_ = (_, _)› ?_
        exact (State.xferRead_eff ..).mono rfl
      intro hx
      clear_value x0
      assumption

theorem State.fillPage_eff : ∀ s cl p d, Eff 1133853425498 s (State.fillPage s cl p d).1 := by
  intro s cl p d
  unfold State.fillPage
  split
  · refine Eff.pair_fst ?_
    refine Eff.of_fst ‹_ = (_, _)› ?_
    exact (State.pageWords_eff ..).mono rfl
  · refine Eff.ite_fst ?_ ?_
    · refine Eff.pair_fst ?_
      refine (State.controlPoison_eff ..).step rfl ?_
      refine Eff.of_fst ‹_ = (_, _)› ?_
      exact (State.pageWords_eff ..).mono rfl
    · extract_lets +onlyGivenNames x0
      clear_value x0
      extract_lets +onlyGivenNames x1
      clear_value x1
      extract_lets +onlyGivenNames x2
      clear_value x2
      refine Eff.pair_fst ?_
      refine (State.setCluster_eff ..).step rfl ?_
      refine Eff.of_fst ‹_ = (_, _)› ?_
      exact (State.pageWords_eff ..).mono rfl

theorem State.transferDone_eff : ∀ s cl engine, Eff 1133853425498 s (State.transferDone s cl engine) := by
  intro s cl engine
  unfold State.transferDone
  extract_lets +onlyGivenNames x0
  clear_value x0
  split
  · refine Eff.ite ?_ ?_
    · exact Eff.refl ..
    · extract_lets +onlyGivenNames x1
      refine Eff.cut x1.1 ?_ ?_
      · subst x1
        refine Eff.ite_fst ?_ ?_
        · exact (State.fillPage_eff ..).mono rfl
        · exact (State.moveWords_eff ..).mono rfl
      intro hx
      clear_value x1
      refine Eff.ite ?_ ?_
      · assumption
      · extract_lets +onlyGivenNames x2
        clear_value x2
        refine (State.setCluster_eff ..).step rfl ?_
        assumption
  · exact Eff.refl ..

theorem execTransferComplete_eff : ∀ cl engine s, OutEff 1133853425498 s (execTransferComplete cl engine s) := by
  intro cl engine s
  unfold execTransferComplete
  refine OutEff.next ?_
  exact (State.transferDone_eff ..).mono rfl

theorem State.waitt_eff : ∀ s cl counter n, Eff 2056 s (State.waitt s cl counter n) := by
  intro s cl counter n
  unfold State.waitt
  refine State.onCluster_eff ?_ ?_
  · exact Eff.refl ..
  · intro a0
    extract_lets +onlyGivenNames x1
    clear_value x1
    refine Eff.ite ?_ ?_
    · refine (State.setCluster_eff ..).step rfl ?_
      exact Eff.refl ..
    · refine (State.hold_eff ..).step rfl ?_
      exact Eff.refl ..

theorem execWaitt_eff : ∀ cl counter n s, OutEff 2056 s (execWaitt cl counter n s) := by
  intro cl counter n s
  unfold execWaitt
  refine OutEff.next ?_
  exact (State.waitt_eff ..).mono rfl

theorem State.routerHeader_eff : ∀ s region port master, Eff 1133853425498 s (State.routerHeader s region port master) := by
  intro s region port master
  unfold State.routerHeader
  refine (State.resetParts_eff ..).step rfl ?_
  exact (State.raise_eff ..).mono rfl

theorem State.send_eff : ∀ s cl src len port, Eff 1133853425498 s (State.send s cl src len port) := by
  intro s cl src len port
  unfold State.send
  refine State.onCluster_eff ?_ ?_
  · exact Eff.refl ..
  · intro a0
    split
    · exact (State.hold_eff ..).mono rfl
    · refine Eff.ite ?_ ?_
      · exact (State.hold_eff ..).mono rfl
      · refine State.reading_eff rfl ?_ ?_
        · exact Eff.refl ..
        · intro a1
          intro a2
          extract_lets +onlyGivenNames x3
          clear_value x3
          refine Eff.ite ?_ ?_
          · refine (State.routerHeader_eff ..).step rfl ?_
            assumption
          · extract_lets +onlyGivenNames x4
            clear_value x4
            extract_lets +onlyGivenNames x5
            clear_value x5
            extract_lets +onlyGivenNames x6
            clear_value x6
            extract_lets +onlyGivenNames x7
            clear_value x7
            refine (State.updPkg_eff ..).step rfl ?_
            refine (State.setCluster_eff ..).step rfl ?_
            assumption

theorem execSend_eff : ∀ cl srcAddr len port s, OutEff 1133853425498 s (execSend cl srcAddr len port s) := by
  intro cl srcAddr len port s
  unfold execSend
  refine OutEff.next ?_
  exact (State.send_eff ..).mono rfl

theorem State.tokenArrives_eff : ∀ s cl port, Eff 6144 s (State.tokenArrives s cl port) := by
  intro s cl port
  unfold State.tokenArrives
  split
  · exact Eff.refl ..
  · extract_lets +onlyGivenNames x0
    refine Eff.cut x0 ?_ ?_
    · subst x0
      exact (State.updPkg_eff ..).mono rfl
    intro hx
    clear_value x0
    extract_lets +onlyGivenNames x1
    clear_value x1
    refine Eff.ite ?_ ?_
    · refine (State.setCluster_eff ..).step rfl ?_
      assumption
    · assumption

theorem execPortTokenArrival_eff : ∀ cl port s, OutEff 6144 s (execPortTokenArrival cl port s) := by
  intro cl port s
  unfold execPortTokenArrival
  refine OutEff.next ?_
  exact (State.tokenArrives_eff ..).mono rfl

theorem State.recv_eff : ∀ s cl dst port, Eff 1133853425498 s (State.recv s cl dst port) := by
  intro s cl dst port
  unfold State.recv
  refine State.onCluster_eff ?_ ?_
  · exact Eff.refl ..
  · intro a0
    split
    · exact (State.hold_eff ..).mono rfl
    · extract_lets +onlyGivenNames x1
      clear_value x1
      refine State.writing_eff rfl ?_ ?_
      · exact Eff.refl ..
      · intro a2
        intro a3
        extract_lets +onlyGivenNames x4
        clear_value x4
        extract_lets +onlyGivenNames x5
        clear_value x5
        extract_lets +onlyGivenNames x6
        clear_value x6
        extract_lets +onlyGivenNames x7
        refine Eff.cut x7 ?_ ?_
        · subst x7
          refine (State.setCluster_eff ..).step rfl ?_
          assumption
        intro hx
        clear_value x7
        split
        · refine (State.updPkg_eff ..).step rfl ?_
          assumption
        · assumption

theorem execRecv_eff : ∀ cl dstAddr port s, OutEff 1133853425498 s (execRecv cl dstAddr port s) := by
  intro cl dstAddr port s
  unfold execRecv
  refine OutEff.next ?_
  exact (State.recv_eff ..).mono rfl

theorem State.creditBack_eff : ∀ s cl port n, Eff 6144 s (State.creditBack s cl port n) := by
  intro s cl port n
  unfold State.creditBack
  extract_lets +onlyGivenNames x0
  clear_value x0
  extract_lets +onlyGivenNames x1
  clear_value x1
  extract_lets +onlyGivenNames x2
  clear_value x2
  refine (State.updPkg_eff ..).step rfl ?_
  exact (State.setCluster_eff ..).mono rfl

theorem execCreditReturn_eff : ∀ cl port n s, OutEff 6144 s (execCreditReturn cl port n s) := by
  intro cl port n s
  unfold execCreditReturn
  refine OutEff.next ?_
  exact (State.creditBack_eff ..).mono rfl

theorem State.loop_eff : ∀ s cl count body, Eff 2048 s (State.loop s cl count body) := by
  intro s cl count body
  unfold State.loop
  refine State.onCluster_eff ?_ ?_
  · exact Eff.refl ..
  · intro a0
    refine Eff.ite ?_ ?_
    · exact (State.setCluster_eff ..).mono rfl
    · exact (State.setCluster_eff ..).mono rfl

theorem execLoop_eff : ∀ cl count body s, OutEff 2048 s (execLoop cl count body s) := by
  intro cl count body s
  unfold execLoop
  refine OutEff.next ?_
  exact (State.loop_eff ..).mono rfl

theorem State.nop_eff : ∀ s cl cycles, Eff 2048 s (State.nop s cl cycles) := by
  intro s cl cycles
  unfold State.nop
  refine State.onCluster_eff ?_ ?_
  · exact Eff.refl ..
  · intro a0
    exact (State.setCluster_eff ..).mono rfl

theorem execNop_eff : ∀ cl cycles s, OutEff 2048 s (execNop cl cycles s) := by
  intro cl cycles s
  unfold execNop
  refine OutEff.next ?_
  exact (State.nop_eff ..).mono rfl

theorem State.jpage_eff : ∀ s cl, Eff 1133853425498 s (State.jpage s cl) := by
  intro s cl
  unfold State.jpage
  refine State.onCluster_eff ?_ ?_
  · exact Eff.refl ..
  · intro a0
    refine Eff.ite ?_ ?_
    · refine (State.scratchHazard_eff ..).step rfl ?_
      exact Eff.refl ..
    · refine (State.setCluster_eff ..).step rfl ?_
      exact Eff.refl ..

theorem execJpage_eff : ∀ cl s, OutEff 1133853425498 s (execJpage cl s) := by
  intro cl s
  unfold execJpage
  refine OutEff.next ?_
  exact (State.jpage_eff ..).mono rfl

theorem State.stepBegin_eff : ∀ s cl, Eff 2056 s (State.stepBegin s cl) := by
  intro s cl
  unfold State.stepBegin
  refine State.onCluster_eff ?_ ?_
  · exact Eff.refl ..
  · intro a0
    refine Eff.ite ?_ ?_
    · exact (State.setCluster_eff ..).mono rfl
    · exact (State.hold_eff ..).mono rfl

theorem execStepBegin_eff : ∀ cl s, OutEff 2056 s (execStepBegin cl s) := by
  intro cl s
  unfold execStepBegin
  refine OutEff.next ?_
  exact (State.stepBegin_eff ..).mono rfl

theorem State.stepEnd_eff : ∀ s cl, Eff 2056 s (State.stepEnd s cl) := by
  intro s cl
  unfold State.stepEnd
  refine State.onCluster_eff ?_ ?_
  · exact Eff.refl ..
  · intro a0
    refine Eff.ite ?_ ?_
    · extract_lets +onlyGivenNames x1
      clear_value x1
      exact (State.setCluster_eff ..).mono rfl
    · exact (State.hold_eff ..).mono rfl

theorem State.countEvent_eff : ∀ s p row span nan, Eff 1073741840 s (State.countEvent s p row span nan) := by
  intro s p row span nan
  unfold State.countEvent
  split
  · exact Eff.refl ..
  · extract_lets +onlyGivenNames x0
    clear_value x0
    extract_lets +onlyGivenNames x1
    refine Eff.cut x1 ?_ ?_
    · subst x1
      exact (State.updReq_eff ..).mono rfl
    intro hx
    clear_value x1
    extract_lets +onlyGivenNames x2
    clear_value x2
    refine Eff.ite ?_ ?_
    · assumption
    · refine (State.putGens_eff ..).step rfl ?_
      assumption

theorem State.rowEvents_eff : ∀ s cl, Eff 1073743888 s (State.rowEvents s cl) := by
  intro s cl
  unfold State.rowEvents
  split
  · exact Eff.refl ..
  · extract_lets +onlyGivenNames x0
    clear_value x0
    refine Eff.foldl ?_ ?_
    · intro a1
      intro a2
      exact (State.countEvent_eff ..).mono rfl
    · refine (State.setCluster_eff ..).step rfl ?_
      exact Eff.refl ..

theorem execRowEventMessage_eff : ∀ cl s, OutEff 1073743888 s (execRowEventMessage cl s) := by
  intro cl s
  unfold execRowEventMessage
  refine OutEff.next ?_
  exact (State.rowEvents_eff ..).mono rfl

end Sys2Proof.Machine
end

