-- ==== Sys2Proof/Laws/Power.lean ====
section
/-! SUPPORT. What each operation of Machine/Power.lean can change, in the terms of Laws/Eff.lean: one lemma an operation. -/

namespace Sys2Proof.Machine

theorem State.updPower_eff : ∀ s f, Eff 8589934592 s (State.updPower s f) := by
  intro s f
  unfold State.updPower
  exact (State.putPower_eff ..).mono rfl

theorem State.refuse_eff : ∀ s master domain reason unit, Eff 264 s (State.refuse s master domain reason unit) := by
  intro s master domain reason unit
  unfold State.refuse
  refine (State.raise_eff ..).step rfl ?_
  iterate 4 refine (State.wr_eff ..).step rfl ?_
  exact (State.inc_eff ..).mono rfl

theorem State.enterNap_eff : ∀ s cl, Eff 2056 s (State.enterNap s cl) := by
  intro s cl
  unfold State.enterNap
  extract_lets +onlyGivenNames x0
  clear_value x0
  extract_lets +onlyGivenNames x1
  refine Eff.cut x1 ?_ ?_
  · subst x1
    exact (State.setCluster_eff ..).mono rfl
  intro hx
  clear_value x1
  refine (State.inc_eff ..).step rfl ?_
  refine (State.wr_eff ..).step rfl ?_
  assumption

theorem State.wait_eff : ∀ s cl, Eff 2312 s (State.wait s cl) := by
  intro s cl
  unfold State.wait
  refine State.onCluster_eff ?_ ?_
  · exact Eff.refl ..
  · intro a0
    refine Eff.ite ?_ ?_
    · refine (State.setCluster_eff ..).step rfl ?_
      exact Eff.refl ..
    · split
      · refine (State.refuse_eff ..).step rfl ?_
        refine (State.wr_eff ..).step rfl ?_
        exact (State.setCluster_eff ..).mono rfl
      · refine (State.enterNap_eff ..).step rfl ?_
        exact Eff.refl ..

theorem execWait_eff : ∀ cl s, OutEff 2312 s (execWait cl s) := by
  intro cl s
  unfold execWait
  refine OutEff.next ?_
  exact (State.wait_eff ..).mono rfl

theorem State.retry_eff : ∀ s i, Eff 1133853425498 s (State.retry s i) := by
  intro s i
  unfold State.retry
  split
  · refine (State.waitt_eff ..).step rfl ?_
    exact Eff.refl ..
  · refine (State.stepBegin_eff ..).step rfl ?_
    exact Eff.refl ..
  · refine (State.recv_eff ..).step rfl ?_
    exact Eff.refl ..
  · refine (State.send_eff ..).step rfl ?_
    exact Eff.refl ..
  · refine (State.queueXfer_eff ..).step rfl ?_
    exact Eff.refl ..
  · refine (State.queueXfer_eff ..).step rfl ?_
    exact Eff.refl ..
  · refine (State.stepEnd_eff ..).step rfl ?_
    exact Eff.refl ..
  · refine (State.wait_eff ..).step rfl ?_
    exact Eff.refl ..
  · exact Eff.refl ..

theorem State.release_eff : ∀ s cl waited, Eff 1133853425498 s (State.release s cl waited) := by
  intro s cl waited
  unfold State.release
  extract_lets +onlyGivenNames x0
  clear_value x0
  split
  · exact Eff.refl ..
  · refine Eff.ite ?_ ?_
    · refine (State.retry_eff ..).step rfl ?_
      exact (State.setCluster_eff ..).mono rfl
    · exact Eff.refl ..

theorem execSyncPointRelease_eff : ∀ cl waited s, OutEff 1133853425498 s (execSyncPointRelease cl waited s) := by
  intro cl waited s
  unfold execSyncPointRelease
  refine OutEff.next ?_
  exact (State.release_eff ..).mono rfl

theorem State.modeNap_eff : ∀ s a d, Eff 264 s (State.modeNap s a d) := by
  intro s a d
  unfold State.modeNap
  refine Eff.ite ?_ ?_
  · refine (State.badAccess_eff ..).step rfl ?_
    exact Eff.refl ..
  · refine Eff.ite ?_ ?_
    · split
      · refine Eff.ite ?_ ?_
        · exact Eff.refl ..
        · refine (State.wr_eff ..).step rfl ?_
          exact Eff.refl ..
      · refine (State.wr_eff ..).step rfl ?_
        exact Eff.refl ..
    · refine Eff.ite ?_ ?_
      · split
        · refine (State.refuse_eff ..).step rfl ?_
          exact (State.wr_eff ..).mono rfl
        · refine (State.wr_eff ..).step rfl ?_
          exact Eff.refl ..
      · exact Eff.refl ..

theorem execPwrModeNap_eff : ∀ accessor domain s, OutEff 264 s (execPwrModeNap accessor domain s) := by
  intro accessor domain s
  unfold execPwrModeNap
  refine OutEff.next ?_
  exact (State.modeNap_eff ..).mono rfl

theorem State.wakeDomain_eff : ∀ s d, Eff 8589934600 s (State.wakeDomain s d) := by
  intro s d
  unfold State.wakeDomain
  extract_lets +onlyGivenNames x0
  refine Eff.cut x0 ?_ ?_
  · subst x0
    exact (State.wr_eff ..).mono rfl
  intro hx
  clear_value x0
  refine Eff.ite ?_ ?_
  · refine (State.updPower_eff ..).step rfl ?_
    assumption
  · assumption

theorem State.modeRun_eff : ∀ s a d, Eff 8589934856 s (State.modeRun s a d) := by
  intro s a d
  unfold State.modeRun
  refine Eff.ite ?_ ?_
  · refine (State.badAccess_eff ..).step rfl ?_
    exact Eff.refl ..
  · refine (State.wakeDomain_eff ..).step rfl ?_
    exact Eff.refl ..

theorem execPwrModeRun_eff : ∀ accessor domain s, OutEff 8589934856 s (execPwrModeRun accessor domain s) := by
  intro accessor domain s
  unfold execPwrModeRun
  refine OutEff.next ?_
  exact (State.modeRun_eff ..).mono rfl

theorem State.regionNap_eff : ∀ s g, Eff 8 s (State.regionNap s g) := by
  intro s g
  unfold State.regionNap
  extract_lets +onlyGivenNames x0
  clear_value x0
  refine Eff.ite ?_ ?_
  · refine (State.inc_eff ..).step rfl ?_
    exact (State.wr_eff ..).mono rfl
  · exact Eff.refl ..

theorem execRegionNapEntry_eff : ∀ region s, OutEff 8 s (execRegionNapEntry region s) := by
  intro region s
  unfold execRegionNapEntry
  refine OutEff.next ?_
  exact (State.regionNap_eff ..).mono rfl

theorem State.napReturn_eff : ∀ s d, Eff 8589934600 s (State.napReturn s d) := by
  intro s d
  unfold State.napReturn
  refine Eff.ite ?_ ?_
  · exact Eff.refl ..
  · refine Eff.ite ?_ ?_
    · exact Eff.refl ..
    · extract_lets +onlyGivenNames x0
      refine Eff.cut x0 ?_ ?_
      · subst x0
        refine (State.wr_eff ..).step rfl ?_
        exact (State.updPower_eff ..).mono rfl
      intro hx
      clear_value x0
      refine Eff.ite ?_ ?_
      · refine (State.setFreqStep_eff ..).step rfl ?_
        assumption
      · assumption

theorem execNapReturnComplete_eff : ∀ domain s, OutEff 8589934600 s (execNapReturnComplete domain s) := by
  intro domain s
  unfold execNapReturnComplete
  refine OutEff.next ?_
  exact (State.napReturn_eff ..).mono rfl

theorem State.islandIdle_eff : ∀ s d, Eff 8 s (State.islandIdle s d) := by
  intro s d
  unfold State.islandIdle
  refine Eff.ite ?_ ?_
  · refine (State.wr_eff ..).step rfl ?_
    exact Eff.refl ..
  · exact Eff.refl ..

theorem execIslandIdle_eff : ∀ domain s, OutEff 8 s (execIslandIdle domain s) := by
  intro domain s
  unfold execIslandIdle
  refine OutEff.next ?_
  exact (State.islandIdle_eff ..).mono rfl

theorem State.islandWake_eff : ∀ s d, Eff 8 s (State.islandWake s d) := by
  intro s d
  unfold State.islandWake
  refine Eff.ite ?_ ?_
  · refine (State.wr_eff ..).step rfl ?_
    exact Eff.refl ..
  · exact Eff.refl ..

theorem execIslandWake_eff : ∀ domain s, OutEff 8 s (execIslandWake domain s) := by
  intro domain s
  unfold execIslandWake
  refine OutEff.next ?_
  exact (State.islandWake_eff ..).mono rfl

theorem State.watchAbort_eff : ∀ s master reason unit, Eff 8589934856 s (State.watchAbort s master reason unit) := by
  intro s master reason unit
  unfold State.watchAbort
  refine (State.refuse_eff ..).step rfl ?_
  refine (State.wr_eff ..).step rfl ?_
  exact (State.updPower_eff ..).mono rfl

theorem State.sendDark_eff : ∀ s p, Eff 4294967304 s (State.sendDark s p) := by
  intro s p
  unfold State.sendDark
  extract_lets +onlyGivenNames x0
  clear_value x0
  extract_lets +onlyGivenNames x1
  refine Eff.cut x1 ?_ ?_
  · subst x1
    refine (State.pumpPort_eff ..).step rfl ?_
    exact (State.setPort_eff ..).mono rfl
  intro hx
  clear_value x1
  refine Eff.ite ?_ ?_
  · assumption
  · refine (State.lanesState_eff ..).step rfl ?_
    refine (State.wr_eff ..).step rfl ?_
    refine (State.wr_eff ..).step rfl ?_
    refine (State.wr_eff ..).step rfl ?_
    assumption

theorem State.sleep_eff : ∀ s, Eff 1112396535832 s (State.sleep s) := by
  intro s
  unfold State.sleep
  extract_lets s0 s1 s2 s3 s4 s5 s6
  refine Eff.cut s0 (Eff.foldl (fun _ _ => (State.sendDark_eff ..).mono rfl) (Eff.refl ..)) fun h0 => ?_
  clear_value s0
  refine Eff.cut s5 ?_ fun h5 => ?_
  · refine (State.putPower_eff ..).step rfl ((State.putHost_eff ..).step rfl ?_)
    refine Eff.step (State.putMem_eff _ _ rfl) rfl ?_
    exact (State.putPkg_eff ..).step rfl ((State.putClusters_eff ..).step rfl h0)
  clear_value s5
  refine (State.wr_eff ..).step rfl ((State.wr_eff ..).step rfl ?_)
  exact (State.wr_eff ..).step rfl ((State.wr_eff ..).step rfl ((State.wr_eff ..).step rfl h5))

theorem State.watchEntry_eff : ∀ s, Eff 1112396536088 s (State.watchEntry s) := by
  intro s
  unfold State.watchEntry
  refine Eff.ite ?_ ?_
  · exact Eff.refl ..
  · split
    · refine (State.watchAbort_eff ..).step rfl ?_
      exact Eff.refl ..
    · refine (State.sleep_eff ..).step rfl ?_
      exact Eff.refl ..

theorem execWatchEntry_eff : ∀ s, OutEff 1112396536088 s (execWatchEntry s) := by
  intro s
  unfold execWatchEntry
  refine OutEff.next ?_
  exact (State.watchEntry_eff ..).mono rfl

theorem State.wakeWatch_eff : ∀ s causes, Eff 558345748744 s (State.wakeWatch s causes) := by
  intro s causes
  unfold State.wakeWatch
  refine Eff.ite ?_ ?_
  · exact Eff.refl ..
  · extract_lets +onlyGivenNames x0
    clear_value x0
    extract_lets +onlyGivenNames x1
    refine Eff.cut x1 ?_ ?_
    · subst x1
      refine (State.inc_eff ..).step rfl ?_
      refine (State.wr_eff ..).step rfl ?_
      exact (State.wr_eff ..).mono rfl
    intro hx
    clear_value x1
    extract_lets +onlyGivenNames x2
    clear_value x2
    extract_lets +onlyGivenNames x3
    clear_value x3
    extract_lets +onlyGivenNames x4
    refine Eff.cut x4 ?_ ?_
    · subst x4
      refine (State.putFaults_eff ..).step rfl ?_
      refine (State.putPower_eff ..).step rfl ?_
      assumption
    intro hx
    clear_value x4
    refine Eff.ite ?_ ?_
    · refine (State.putBoard_eff ..).step rfl ?_
      assumption
    · assumption

theorem State.watchWake_eff : ∀ s causes l0, Eff 558345748760 s (State.watchWake s causes l0) := by
  intro s causes l0
  unfold State.watchWake
  refine (State.wakeWatch_eff ..).step rfl ?_
  exact (State.updHost_eff ..).mono rfl

theorem execWatchWake_eff : ∀ causes linkInL0 s, OutEff 558345748760 s (execWatchWake causes linkInL0 s) := by
  intro causes linkInL0 s
  unfold execWatchWake
  refine OutEff.next ?_
  refine Eff.ite ?_ ?_
  · refine (State.watchWake_eff ..).step rfl ?_
    exact Eff.refl ..
  · exact Eff.refl ..

theorem State.watchSample_eff : ∀ s rs, Eff 558345748744 s (State.watchSample s rs) := by
  intro s rs
  unfold State.watchSample
  extract_lets +onlyGivenNames x0
  clear_value x0
  refine Eff.ite ?_ ?_
  · refine (State.wakeWatch_eff ..).step rfl ?_
    exact Eff.refl ..
  · exact Eff.refl ..

theorem execWatchSample_eff : ∀ readings s, OutEff 558345748744 s (execWatchSample readings s) := by
  intro readings s
  unfold execWatchSample
  refine OutEff.next ?_
  exact (State.watchSample_eff ..).mono rfl

theorem State.watchHeartbeat_eff : ∀ s, Eff 256 s (State.watchHeartbeat s) := by
  intro s
  unfold State.watchHeartbeat
  refine Eff.ite ?_ ?_
  · refine (State.putFaults_eff ..).step rfl ?_
    exact Eff.refl ..
  · exact Eff.refl ..

theorem execWatchHeartbeat_eff : ∀ s, OutEff 256 s (execWatchHeartbeat s) := by
  intro s
  unfold execWatchHeartbeat
  refine OutEff.next ?_
  exact (State.watchHeartbeat_eff ..).mono rfl

theorem State.modeWatch_eff : ∀ s a, Eff 264 s (State.modeWatch s a) := by
  intro s a
  unfold State.modeWatch
  refine Eff.ite ?_ ?_
  · refine (State.badAccess_eff ..).step rfl ?_
    exact Eff.refl ..
  · refine Eff.ite ?_ ?_
    · refine (State.wr_eff ..).step rfl ?_
      exact Eff.refl ..
    · exact Eff.refl ..

theorem execPwrModeWatch_eff : ∀ accessor s, OutEff 264 s (execPwrModeWatch accessor s) := by
  intro accessor s
  unfold execPwrModeWatch
  refine OutEff.next ?_
  exact (State.modeWatch_eff ..).mono rfl

theorem execBmcWakeCommand_eff : ∀ s, OutEff 558345748744 s (execBmcWakeCommand s) := by
  intro s
  unfold execBmcWakeCommand
  refine OutEff.next ?_
  exact (State.wakeWatch_eff ..).mono rfl

theorem State.bmcWatch_eff : ∀ s, Eff 8589934856 s (State.bmcWatch s) := by
  intro s
  unfold State.bmcWatch
  refine Eff.ite ?_ ?_
  · exact Eff.refl ..
  · split
    · refine (State.refuse_eff ..).step rfl ?_
      exact Eff.refl ..
    · refine (State.wr_eff ..).step rfl ?_
      exact (State.updPower_eff ..).mono rfl

theorem execBmcWatchCommand_eff : ∀ s, OutEff 8589934856 s (execBmcWatchCommand s) := by
  intro s
  unfold execBmcWatchCommand
  refine OutEff.next ?_
  exact (State.bmcWatch_eff ..).mono rfl

theorem State.setCap_eff : ∀ s k, Eff 1108083614552 s (State.setCap s k) := by
  intro s k
  unfold State.setCap
  split
  · exact Eff.refl ..
  · refine Eff.ite ?_ ?_
    · exact Eff.refl ..
    · refine (State.endReq_eff ..).step rfl ?_
      exact (State.wr_eff ..).mono rfl

theorem execSetCap_eff : ∀ client req s, OutEff 1108083614552 s (execSetCap client req s) := by
  intro client req s
  unfold execSetCap
  refine OutEff.next ?_
  exact (State.setCap_eff ..).mono rfl

theorem State.clearCap_eff : ∀ s k, Eff 1108083614552 s (State.clearCap s k) := by
  intro s k
  unfold State.clearCap
  split
  · exact Eff.refl ..
  · refine Eff.ite ?_ ?_
    · exact Eff.refl ..
    · refine (State.endReq_eff ..).step rfl ?_
      exact (State.wr_eff ..).mono rfl

theorem execClearCap_eff : ∀ client req s, OutEff 1108083614552 s (execClearCap client req s) := by
  intro client req s
  unfold execClearCap
  refine OutEff.next ?_
  exact (State.clearCap_eff ..).mono rfl

theorem State.enterWatch_eff : ∀ s k, Eff 1116673549144 s (State.enterWatch s k) := by
  intro s k
  unfold State.enterWatch
  refine Eff.ite ?_ ?_
  · exact Eff.refl ..
  · split
    · refine (State.endReq_eff ..).step rfl ?_
      exact (State.refuse_eff ..).mono rfl
    · refine (State.endReq_eff ..).step rfl ?_
      exact (State.updPower_eff ..).mono rfl

theorem execEnterWatch_eff : ∀ client req s, OutEff 1116673549144 s (execEnterWatch client req s) := by
  intro client req s
  unfold execEnterWatch
  refine OutEff.next ?_
  exact (State.enterWatch_eff ..).mono rfl

theorem State.bmcCap_eff : ∀ s w, Eff 8 s (State.bmcCap s w) := by
  intro s w
  unfold State.bmcCap
  refine Eff.ite ?_ ?_
  · refine (State.wr_eff ..).step rfl ?_
    exact Eff.refl ..
  · exact Eff.refl ..

theorem execBmcCap_eff : ∀ watts s, OutEff 8 s (execBmcCap watts s) := by
  intro watts s
  unfold execBmcCap
  refine OutEff.next ?_
  exact (State.bmcCap_eff ..).mono rfl

theorem State.lockBreak_eff : ∀ s old new, Eff 264 s (State.lockBreak s old new) := by
  intro s old new
  unfold State.lockBreak
  extract_lets +onlyGivenNames x0
  clear_value x0
  refine Eff.ite ?_ ?_
  · refine (State.raise_eff ..).step rfl ?_
    exact (State.inc_eff ..).mono rfl
  · exact Eff.refl ..

theorem State.holdShare_eff : ∀ s g mw draw, Eff 2312 s (State.holdShare s g mw draw) := by
  intro s g mw draw
  unfold State.holdShare
  extract_lets +onlyGivenNames x0
  clear_value x0
  extract_lets +onlyGivenNames x1
  clear_value x1
  extract_lets +onlyGivenNames x2
  clear_value x2
  extract_lets +onlyGivenNames x3
  clear_value x3
  split
  · exact Eff.refl ..
  · refine Eff.ite ?_ ?_
    · exact Eff.refl ..
    · split
      · exact Eff.refl ..
      · refine Eff.foldl ?_ ?_
        · intro a4
          intro a5
          extract_lets +onlyGivenNames x6
          clear_value x6
          refine Eff.ite ?_ ?_
          · exact Eff.refl ..
          · refine (State.setCluster_eff ..).step rfl ?_
            exact (State.lockBreak_eff ..).mono rfl
        · exact Eff.refl ..

theorem State.estimateRegion_eff : ∀ s g own shared temp, Eff 8589936904 s (State.estimateRegion s g own shared temp) := by
  intro s g own shared temp
  unfold State.estimateRegion
  extract_lets +onlyGivenNames x0
  clear_value x0
  extract_lets +onlyGivenNames x1
  clear_value x1
  extract_lets +onlyGivenNames x2
  clear_value x2
  extract_lets +onlyGivenNames x3
  clear_value x3
  extract_lets +onlyGivenNames x4
  clear_value x4
  extract_lets +onlyGivenNames x5
  clear_value x5
  extract_lets +onlyGivenNames x6
  clear_value x6
  extract_lets +onlyGivenNames x7
  refine Eff.cut x7 ?_ ?_
  · subst x7
    refine (State.wr_eff ..).step rfl ?_
    exact (State.updPower_eff ..).mono rfl
  intro hx
  clear_value x7
  extract_lets +onlyGivenNames x8
  refine Eff.cut x8 ?_ ?_
  · subst x8
    refine (State.holdShare_eff ..).step rfl ?_
    refine Eff.foldl ?_ ?_
    · intro a9
      intro a10
      exact (State.wr_eff ..).mono rfl
    · assumption
  intro hx
  clear_value x8
  extract_lets +onlyGivenNames x11
  refine Eff.cut x11 ?_ ?_
  · subst x11
    refine Eff.ite ?_ ?_
    · refine (State.wr_eff ..).step rfl ?_
      assumption
    · assumption
  intro hx
  clear_value x11
  refine (State.wr_eff ..).step rfl ?_
  assumption

theorem execRegionEstimate_eff : ∀ region own shared temp s, OutEff 8589936904 s (execRegionEstimate region own shared temp s) := by
  intro region own shared temp s
  unfold execRegionEstimate
  refine OutEff.next ?_
  exact (State.estimateRegion_eff ..).mono rfl

theorem State.applyPlan_eff : ∀ s plan, Eff 8589936904 s (State.applyPlan s plan) := by
  intro s plan
  unfold State.applyPlan
  extract_lets +onlyGivenNames x0
  clear_value x0
  extract_lets +onlyGivenNames x1
  clear_value x1
  extract_lets +onlyGivenNames x2
  clear_value x2
  extract_lets +onlyGivenNames x3
  clear_value x3
  extract_lets +onlyGivenNames x4
  refine Eff.cut x4 ?_ ?_
  · subst x4
    exact (State.updPower_eff ..).mono rfl
  intro hx
  clear_value x4
  refine Eff.foldl ?_ ?_
  · intro a5
    intro a6
    extract_lets +onlyGivenNames x7
    refine Eff.cut x7 ?_ ?_
    · subst x7
      exact (State.lockBreak_eff ..).mono rfl
    intro hx
    clear_value x7
    refine Eff.foldl ?_ ?_
    · intro a8
      intro a9
      extract_lets +onlyGivenNames x10
      clear_value x10
      extract_lets +onlyGivenNames x11
      clear_value x11
      refine Eff.ite ?_ ?_
      · refine Eff.ite ?_ ?_
        · exact (State.setCluster_eff ..).mono rfl
        · exact Eff.refl ..
      · exact (State.setCluster_eff ..).mono rfl
    · assumption
  · assumption

theorem State.chargeRows_eff : ∀ s rows amount f, Eff 4294967360 s (State.chargeRows s rows amount f) := by
  intro s rows amount f
  unfold State.chargeRows
  refine Eff.foldl ?_ ?_
  · intro a0
    intro a1
    exact (State.charge_eff ..).mono rfl
  · exact Eff.refl ..

theorem State.postUse_eff : ∀ s u, Eff 4294967368 s (State.postUse s u) := by
  intro s u
  unfold State.postUse
  extract_lets +onlyGivenNames x0
  clear_value x0
  refine (State.inc_eff ..).step rfl ?_
  exact (State.chargeRows_eff ..).mono rfl

theorem State.chargeEnergy_eff : ∀ s measured, Eff 12884901960 s (State.chargeEnergy s measured) := by
  intro s measured
  unfold State.chargeEnergy
  extract_lets +onlyGivenNames x0
  clear_value x0
  extract_lets +onlyGivenNames x1
  clear_value x1
  extract_lets +onlyGivenNames x2
  clear_value x2
  extract_lets +onlyGivenNames x3
  refine Eff.cut x3 ?_ ?_
  · subst x3
    exact (State.inc_eff ..).mono rfl
  intro hx
  clear_value x3
  extract_lets +onlyGivenNames x4
  refine Eff.cut x4 ?_ ?_
  · subst x4
    refine Eff.foldl ?_ ?_
    · intro a5
      intro a6
      exact (State.postUse_eff ..).mono rfl
    · assumption
  intro hx
  clear_value x4
  refine (State.updPower_eff ..).step rfl ?_
  assumption

theorem State.thermalTick_eff : ∀ s temps hub, Eff 558345748488 s (State.thermalTick s temps hub) := by
  intro s temps hub
  unfold State.thermalTick
  extract_lets +onlyGivenNames x0
  clear_value x0
  extract_lets +onlyGivenNames x1
  clear_value x1
  extract_lets +onlyGivenNames x2
  clear_value x2
  extract_lets +onlyGivenNames x3
  clear_value x3
  extract_lets +onlyGivenNames x4
  clear_value x4
  extract_lets +onlyGivenNames x5
  refine Eff.cut x5 ?_ ?_
  · subst x5
    refine Eff.ite ?_ ?_
    · refine (State.wr_eff ..).step rfl ?_
      exact (State.putBoard_eff ..).mono rfl
    · exact Eff.refl ..
  intro hx
  clear_value x5
  extract_lets +onlyGivenNames x6
  clear_value x6
  refine Eff.ite ?_ ?_
  · assumption
  · refine Eff.ite ?_ ?_
    · refine (State.wr_eff ..).step rfl ?_
      refine (State.updPower_eff ..).step rfl ?_
      assumption
    · split
      · refine (State.updPower_eff ..).step rfl ?_
        assumption
      · assumption

theorem State.governorTick_eff : ∀ s measured temps hub, Eff 562640718152 s (State.governorTick s measured temps hub) := by
  intro s measured temps hub
  unfold State.governorTick
  extract_lets +onlyGivenNames x0
  refine Eff.cut x0 ?_ ?_
  · subst x0
    exact (State.wr_eff ..).mono rfl
  intro hx
  clear_value x0
  extract_lets +onlyGivenNames x1
  clear_value x1
  extract_lets +onlyGivenNames x2
  clear_value x2
  extract_lets +onlyGivenNames x3
  clear_value x3
  extract_lets +onlyGivenNames x4
  refine Eff.cut x4 ?_ ?_
  · subst x4
    refine (State.wr_eff ..).step rfl ?_
    refine (State.wr_eff ..).step rfl ?_
    refine (State.wr_eff ..).step rfl ?_
    assumption
  intro hx
  clear_value x4
  extract_lets +onlyGivenNames x5
  refine Eff.cut x5 ?_ ?_
  · subst x5
    refine Eff.ite ?_ ?_
    · refine (State.raise_eff ..).step rfl ?_
      assumption
    · assumption
  intro hx
  clear_value x5
  extract_lets +onlyGivenNames x6
  clear_value x6
  extract_lets +onlyGivenNames x7
  clear_value x7
  extract_lets +onlyGivenNames x8
  refine Eff.cut x8 ?_ ?_
  · subst x8
    refine (State.updPower_eff ..).step rfl ?_
    assumption
  intro hx
  clear_value x8
  extract_lets +onlyGivenNames x9
  refine Eff.cut x9 ?_ ?_
  · subst x9
    refine (State.thermalTick_eff ..).step rfl ?_
    refine (State.chargeEnergy_eff ..).step rfl ?_
    assumption
  intro hx
  clear_value x9
  extract_lets +onlyGivenNames x10
  clear_value x10
  refine (State.applyPlan_eff ..).step rfl ?_
  refine (State.updPower_eff ..).step rfl ?_
  assumption

theorem execGovernorTick_eff : ∀ measured temps hubTemp s, OutEff 562640718152 s (execGovernorTick measured temps hubTemp s) := by
  intro measured temps hubTemp s
  unfold execGovernorTick
  refine OutEff.next ?_
  exact (State.governorTick_eff ..).mono rfl

theorem State.stepChange_eff : ∀ s cl, Eff 2056 s (State.stepChange s cl) := by
  intro s cl
  unfold State.stepChange
  extract_lets +onlyGivenNames x0
  clear_value x0
  split
  · refine (State.setFreqStep_eff ..).step rfl ?_
    exact (State.setCluster_eff ..).mono rfl
  · exact Eff.refl ..

theorem execFreqStepChange_eff : ∀ cl s, OutEff 2056 s (execFreqStepChange cl s) := by
  intro cl s
  unfold execFreqStepChange
  refine OutEff.next ?_
  exact (State.stepChange_eff ..).mono rfl

theorem State.enterHold_eff : ∀ s, Eff 8589936904 s (State.enterHold s) := by
  intro s
  unfold State.enterHold
  refine Eff.ite ?_ ?_
  · exact Eff.refl ..
  · extract_lets +onlyGivenNames x0
    refine Eff.cut x0 ?_ ?_
    · subst x0
      exact (State.putClusters_eff ..).mono rfl
    intro hx
    clear_value x0
    extract_lets +onlyGivenNames x1
    refine Eff.cut x1 ?_ ?_
    · subst x1
      refine (State.raise_eff ..).step rfl ?_
      refine (State.wr_eff ..).step rfl ?_
      refine (State.updPower_eff ..).step rfl ?_
      assumption
    intro hx
    clear_value x1
    refine (State.applyPlan_eff ..).step rfl ?_
    assumption

theorem execOverPowerSignal_eff : ∀ s, OutEff 8589936904 s (execOverPowerSignal s) := by
  intro s
  unfold execOverPowerSignal
  refine OutEff.next ?_
  exact (State.enterHold_eff ..).mono rfl

theorem State.holdEnd_eff : ∀ s, Eff 8 s (State.holdEnd s) := by
  intro s
  unfold State.holdEnd
  split
  · refine Eff.ite ?_ ?_
    · refine (State.wr_eff ..).step rfl ?_
      exact Eff.refl ..
    · exact Eff.refl ..
  · exact Eff.refl ..

theorem execHoldEnd_eff : ∀ s, OutEff 8 s (execHoldEnd s) := by
  intro s
  unfold execHoldEnd
  refine OutEff.next ?_
  exact (State.holdEnd_eff ..).mono rfl

theorem State.thermThrottle_eff : ∀ s hot, Eff 264 s (State.thermThrottle s hot) := by
  intro s hot
  unfold State.thermThrottle
  refine Eff.ite ?_ ?_
  · refine (State.raise_eff ..).step rfl ?_
    exact (State.wr_eff ..).mono rfl
  · exact Eff.refl ..

theorem execThermThrottle_eff : ∀ hottest s, OutEff 264 s (execThermThrottle hottest s) := by
  intro hottest s
  unfold execThermThrottle
  refine OutEff.next ?_
  exact (State.thermThrottle_eff ..).mono rfl

theorem State.thermHold_eff : ∀ s hot, Eff 558345750792 s (State.thermHold s hot) := by
  intro s hot
  unfold State.thermHold
  refine Eff.ite ?_ ?_
  · refine (State.enterHold_eff ..).step rfl ?_
    refine (State.raise_eff ..).step rfl ?_
    refine (State.wr_eff ..).step rfl ?_
    exact (State.putBoard_eff ..).mono rfl
  · exact Eff.refl ..

theorem execThermHold_eff : ∀ hottest s, OutEff 558345750792 s (execThermHold hottest s) := by
  intro hottest s
  unfold execThermHold
  refine OutEff.next ?_
  exact (State.thermHold_eff ..).mono rfl

theorem State.diesOff_eff : ∀ s, Eff 8589936640 s (State.diesOff s) := by
  intro s
  unfold State.diesOff
  refine (State.putClusters_eff ..).step rfl ?_
  exact (State.putPower_eff ..).mono rfl

theorem State.thermTrip_eff : ∀ s hot, Eff 558345750792 s (State.thermTrip s hot) := by
  intro s hot
  unfold State.thermTrip
  refine Eff.ite ?_ ?_
  · refine (State.diesOff_eff ..).step rfl ?_
    refine (State.raise_eff ..).step rfl ?_
    refine (State.wr_eff ..).step rfl ?_
    exact (State.putBoard_eff ..).mono rfl
  · exact Eff.refl ..

theorem execThermTrip_eff : ∀ hottest s, OutEff 558345750792 s (execThermTrip hottest s) := by
  intro hottest s
  unfold execThermTrip
  refine OutEff.next ?_
  exact (State.thermTrip_eff ..).mono rfl

end Sys2Proof.Machine
end

