-- ==== Sys2Proof/Laws/Programs.lean ====
section
/-! SUPPORT. What each operation of Machine/Programs.lean can change, in the terms of Laws/Eff.lean: one lemma an operation. -/

namespace Sys2Proof.Machine

theorem State.loadProgram_eff : ∀ s p img, Eff 2048 s (State.loadProgram s p img) := by
  intro s p img
  unfold State.loadProgram
  refine Eff.foldl ?_ ?_
  · intro a0
    intro a1
    extract_lets +onlyGivenNames x2
    clear_value x2
    exact (State.setCluster_eff ..).mono rfl
  · exact Eff.refl ..

theorem State.reloadProgram_eff : ∀ s p, Eff 2048 s (State.reloadProgram s p) := by
  intro s p
  unfold State.reloadProgram
  split
  · refine Eff.foldl ?_ ?_
    · intro a0
      intro a1
      exact (State.setCluster_eff ..).mono rfl
    · exact Eff.refl ..
  · split
    · refine (State.loadProgram_eff ..).step rfl ?_
      exact Eff.refl ..
    · exact Eff.refl ..

theorem State.stepEndAll_eff : ∀ s cl, Eff 8589944840 s (State.stepEndAll s cl) := by
  intro s cl
  unfold State.stepEndAll
  extract_lets +onlyGivenNames x0
  refine Eff.cut x0 ?_ ?_
  · subst x0
    exact (State.stepEnd_eff ..).mono rfl
  intro hx
  clear_value x0
  split
  · assumption
  · refine Eff.ite ?_ ?_
    · assumption
    · extract_lets +onlyGivenNames x1
      clear_value x1
      extract_lets +onlyGivenNames x2
      refine Eff.cut x2 ?_ ?_
      · subst x2
        refine (State.setPart_eff ..).step rfl ?_
        assumption
      intro hx
      clear_value x2
      extract_lets +onlyGivenNames x3
      clear_value x3
      refine (State.updPower_eff ..).step rfl ?_
      assumption

theorem execStepEnd_eff : ∀ cl s, OutEff 8589944840 s (execStepEnd cl s) := by
  intro cl s
  unfold execStepEnd
  refine OutEff.next ?_
  exact (State.stepEndAll_eff ..).mono rfl

end Sys2Proof.Machine
end

