-- ==== Sys2Proof/Laws/Restart.lean ====
section
/-! SUPPORT. What each operation of Machine/Restart.lean can change, in the terms of Laws/Eff.lean: one lemma an operation. -/

namespace Sys2Proof.Machine

theorem State.logRetire_eff : ∀ s site payload, Eff 34359738368 s (State.logRetire s site payload) := by
  intro s site payload
  unfold State.logRetire
  exact (State.putNor_eff ..).mono rfl

theorem State.logEvent_eff : ∀ s typ site payload, Eff 34359738368 s (State.logEvent s typ site payload) := by
  intro s typ site payload
  unfold State.logEvent
  extract_lets +onlyGivenNames x0
  clear_value x0
  extract_lets +onlyGivenNames x1
  clear_value x1
  exact (State.putNor_eff ..).mono rfl

theorem State.logAgeing_eff : ∀ s e, Eff 34359738368 s (State.logAgeing s e) := by
  intro s e
  unfold State.logAgeing
  extract_lets +onlyGivenNames x0
  clear_value x0
  extract_lets +onlyGivenNames x1
  clear_value x1
  extract_lets +onlyGivenNames x2
  clear_value x2
  exact (State.putNor_eff ..).mono rfl

theorem State.remap_eff : ∀ s cl, Eff 34359740424 s (State.remap s cl) := by
  intro s cl
  unfold State.remap
  extract_lets +onlyGivenNames x0
  clear_value x0
  extract_lets +onlyGivenNames x1
  clear_value x1
  extract_lets +onlyGivenNames x2
  clear_value x2
  extract_lets +onlyGivenNames x3
  refine Eff.cut x3 ?_ ?_
  · subst x3
    exact (State.incSat_eff ..).mono rfl
  intro hx
  clear_value x3
  split
  · refine (State.logRetire_eff ..).step rfl ?_
    assumption
  · extract_lets +onlyGivenNames x4
    refine Eff.cut x4 ?_ ?_
    · subst x4
      refine (State.wr_eff ..).step rfl ?_
      refine (State.wr_eff ..).step rfl ?_
      assumption
    intro hx
    clear_value x4
    extract_lets +onlyGivenNames x5
    clear_value x5
    refine (State.logRetire_eff ..).step rfl ?_
    refine (State.setCluster_eff ..).step rfl ?_
    assumption

theorem State.markRetired_eff : ∀ s st sub, Eff 256 s (State.markRetired s st sub) := by
  intro s st sub
  unfold State.markRetired
  exact (State.putFaults_eff ..).mono rfl

theorem State.leaveReset_eff : ∀ s p, Eff 8200 s (State.leaveReset s p) := by
  intro s p
  unfold State.leaveReset
  extract_lets +onlyGivenNames x0
  refine Eff.cut x0 ?_ ?_
  · subst x0
    refine Eff.foldl ?_ ?_
    · intro a1
      intro a2
      refine Eff.ite ?_ ?_
      · refine (State.wr_eff ..).step rfl ?_
        exact (State.wr_eff ..).mono rfl
      · exact Eff.refl ..
    · exact Eff.refl ..
  intro hx
  clear_value x0
  extract_lets +onlyGivenNames x3
  refine Eff.cut x3 ?_ ?_
  · subst x3
    refine Eff.ite ?_ ?_
    · refine (State.wr_eff ..).step rfl ?_
      assumption
    · refine (State.wr_eff ..).step rfl ?_
      assumption
  intro hx
  clear_value x3
  refine (State.setPart_eff ..).step rfl ?_
  assumption

theorem State.poisonWords_eff : ∀ s p, Eff 1099511628544 s (State.poisonWords s p) := by
  intro s p
  unfold State.poisonWords
  extract_lets +onlyGivenNames x0
  clear_value x0
  extract_lets +onlyGivenNames x1
  clear_value x1
  refine Eff.foldl ?_ ?_
  · intro a2
    intro a3
    exact (State.poisonWordAt_eff ..).mono rfl
  · refine Eff.step (State.updMem_eff _ _ fun _ => rfl) rfl ?_
    exact Eff.refl ..

theorem State.remapPending_eff : ∀ s p, Eff 34359740680 s (State.remapPending s p) := by
  intro s p
  unfold State.remapPending
  extract_lets +onlyGivenNames x0
  clear_value x0
  extract_lets +onlyGivenNames x1
  clear_value x1
  extract_lets +onlyGivenNames x2
  refine Eff.cut x2 ?_ ?_
  · subst x2
    exact (State.putFaults_eff ..).mono rfl
  intro hx
  clear_value x2
  refine Eff.foldl ?_ ?_
  · intro a3
    intro a4
    exact (State.remap_eff ..).mono rfl
  · assumption

theorem State.wakeAll_eff : ∀ s p, Eff 8589934600 s (State.wakeAll s p) := by
  intro s p
  unfold State.wakeAll
  refine Eff.foldl ?_ ?_
  · intro a0
    intro a1
    extract_lets +onlyGivenNames x2
    refine Eff.cut x2 ?_ ?_
    · subst x2
      exact (State.wr_eff ..).mono rfl
    intro hx
    clear_value x2
    refine Eff.ite ?_ ?_
    · refine (State.wr_eff ..).step rfl ?_
      refine (State.updPower_eff ..).step rfl ?_
      assumption
    · assumption
  · exact Eff.refl ..

theorem State.resetDone_eff : ∀ s p, Eff 1142461311752 s (State.resetDone s p) := by
  intro s p
  unfold State.resetDone
  refine Eff.ite ?_ ?_
  · refine (State.leaveReset_eff ..).step rfl ?_
    refine (State.reloadProgram_eff ..).step rfl ?_
    refine (State.remapPending_eff ..).step rfl ?_
    refine (State.poisonWords_eff ..).step rfl ?_
    exact (State.wakeAll_eff ..).mono rfl
  · exact Eff.refl ..

theorem execPartitionResetDone_eff : ∀ part s, OutEff 1142461311752 s (execPartitionResetDone part s) := by
  intro part s
  unfold execPartitionResetDone
  refine OutEff.next ?_
  exact (State.resetDone_eff ..).mono rfl

theorem execPartitionReset_eff : ∀ part cause s, OutEff 1133853425498 s (execPartitionReset part cause s) := by
  intro part cause s
  unfold execPartitionReset
  refine OutEff.next ?_
  exact (State.resetPartition_eff ..).mono rfl

theorem State.retirementReset_eff : ∀ s cl, Eff 1133853425498 s (State.retirementReset s cl) := by
  intro s cl
  unfold State.retirementReset
  split
  · refine Eff.ite ?_ ?_
    · refine (State.resetPartition_eff ..).step rfl ?_
      exact Eff.refl ..
    · exact Eff.refl ..
  · exact Eff.refl ..

theorem execClusterRetirementReset_eff : ∀ cl s, OutEff 1133853425498 s (execClusterRetirementReset cl s) := by
  intro cl s
  unfold execClusterRetirementReset
  refine OutEff.next ?_
  exact (State.retirementReset_eff ..).mono rfl

theorem State.retireNow_eff : ∀ s q, Eff 34359740680 s (State.retireNow s q) := by
  intro s q
  unfold State.retireNow
  extract_lets +onlyGivenNames x0
  clear_value x0
  refine Eff.ite ?_ ?_
  · exact Eff.refl ..
  · extract_lets +onlyGivenNames x1
    refine Eff.cut x1 ?_ ?_
    · subst x1
      refine (State.incSat_eff ..).step rfl ?_
      exact (State.markRetired_eff ..).mono rfl
    intro hx
    clear_value x1
    extract_lets +onlyGivenNames x2
    refine Eff.cut x2 ?_ ?_
    · subst x2
      refine (State.raise_eff ..).step rfl ?_
      refine (State.logRetire_eff ..).step rfl ?_
      assumption
    intro hx
    clear_value x2
    split
    · refine (State.remap_eff ..).step rfl ?_
      assumption
    · refine (State.incSat_eff ..).step rfl ?_
      refine (State.wr_eff ..).step rfl ?_
      assumption

theorem State.watchReturn_eff : ∀ s failed, Eff 1142461303064 s (State.watchReturn s failed) := by
  intro s failed
  unfold State.watchReturn
  refine Eff.ite ?_ ?_
  · exact Eff.refl ..
  · extract_lets +onlyGivenNames x0
    refine Eff.cut x0 ?_ ?_
    · subst x0
      refine Eff.foldl ?_ ?_
      · intro a1
        intro a2
        refine (State.retireNow_eff ..).step rfl ?_
        exact (State.raise_eff ..).mono rfl
      · exact Eff.refl ..
    intro hx
    clear_value x0
    extract_lets +onlyGivenNames x3
    extract_lets +onlyGivenNames x4
    clear_value x4
    extract_lets +onlyGivenNames x5
    clear_value x5
    extract_lets +onlyGivenNames x6
    refine Eff.cut x6 ?_ ?_
    · subst x6
      refine (State.putPower_eff ..).step rfl ?_
      refine (State.putHost_eff ..).step rfl ?_
      refine Eff.step (State.putMem_eff _ _ rfl) rfl ?_
      assumption
    intro hx
    clear_value x6
    extract_lets +onlyGivenNames x7
    refine Eff.cut x7 ?_ ?_
    · subst x7
      refine (State.trainPorts_eff ..).step rfl ?_
      assumption
    intro hx
    clear_value x7
    extract_lets +onlyGivenNames x8
    refine Eff.cut x8 ?_ ?_
    · subst x8
      iterate 3 refine (State.wr_eff ..).step rfl ?_
      assumption
    intro hx
    clear_value x8
    refine Eff.foldl ?_ ?_
    · intro a9
      intro a10
      refine Eff.ite ?_ ?_
      · refine (State.wr_eff ..).step rfl ?_
        exact Eff.refl ..
      · refine (State.reloadProgram_eff ..).step rfl ?_
        exact Eff.refl ..
    · assumption

theorem execWatchReturnComplete_eff : ∀ failedClusters s, OutEff 1142461303064 s (execWatchReturnComplete failedClusters s) := by
  intro failedClusters s
  unfold execWatchReturnComplete
  refine OutEff.next ?_
  exact (State.watchReturn_eff ..).mono rfl

theorem State.idleTransfers_eff : ∀ s, Eff 8 s (State.idleTransfers s) := by
  intro s
  unfold State.idleTransfers
  refine Eff.foldl ?_ ?_
  · intro a0
    intro a1
    refine Eff.ite ?_ ?_
    · exact (State.wr_eff ..).mono rfl
    · exact Eff.refl ..
  · exact Eff.refl ..

theorem State.cleared_eff : ∀ s, Eff 2164663517180 s s.cleared := fun s =>
  ⟨fun c h => by cases c <;> first | rfl | exact absurd h (by decide), fun h => filter_wf _ h, fun _ => rfl⟩

theorem State.moduleReset_eff : ∀ s cause, Eff 2164663517180 s (State.moduleReset s cause) := by
  intro s cause
  unfold State.moduleReset
  refine Eff.ite ?_ ?_
  · exact (State.wr_eff ..).mono rfl
  · extract_lets +onlyGivenNames x0
    refine Eff.cut x0 ?_ ?_
    · subst x0
      refine (State.wr_eff ..).step rfl ?_
      refine (State.cleared_eff ..).step rfl ?_
      exact (State.idleTransfers_eff ..).mono rfl
    intro hx
    clear_value x0
    refine Eff.ite ?_ ?_
    · refine (State.putBoot_eff ..).step rfl ?_
      assumption
    · assumption

theorem execModuleReset_eff : ∀ cause s, OutEff 2164663517180 s (execModuleReset cause s) := by
  intro cause s
  unfold execModuleReset
  refine OutEff.next ?_
  exact (State.moduleReset_eff ..).mono rfl

theorem State.cfgReset_eff : ∀ s a, Eff 2164663517180 s (State.cfgReset s a) := by
  intro s a
  unfold State.cfgReset
  refine Eff.ite ?_ ?_
  · exact Eff.refl ..
  · refine Eff.ite ?_ ?_
    · refine (State.moduleReset_eff ..).step rfl ?_
      exact (State.wakeWatch_eff ..).mono rfl
    · refine (State.moduleReset_eff ..).step rfl ?_
      exact Eff.refl ..

theorem execCfgResetModule_eff : ∀ accessor s, OutEff 2164663517180 s (execCfgResetModule accessor s) := by
  intro accessor s
  unfold execCfgResetModule
  refine OutEff.next ?_
  exact (State.cfgReset_eff ..).mono rfl

theorem execBmcResetCommand_eff : ∀ s, OutEff 2164663517180 s (execBmcResetCommand s) := by
  intro s
  unfold execBmcResetCommand
  refine OutEff.next ?_
  exact (State.moduleReset_eff ..).mono rfl

theorem State.perstAssert_eff : ∀ s, Eff 2164663517180 s (State.perstAssert s) := by
  intro s
  unfold State.perstAssert
  extract_lets +onlyGivenNames x0
  clear_value x0
  extract_lets +onlyGivenNames x1
  refine Eff.cut x1 ?_ ?_
  · subst x1
    exact (State.putBoard_eff ..).mono rfl
  intro hx
  clear_value x1
  refine Eff.ite ?_ ?_
  · refine (State.moduleReset_eff ..).step rfl ?_
    assumption
  · assumption

theorem execPerstNAssert_eff : ∀ s, OutEff 2164663517180 s (execPerstNAssert s) := by
  intro s
  unfold execPerstNAssert
  refine OutEff.next ?_
  exact (State.perstAssert_eff ..).mono rfl

theorem State.startIfReady_eff : ∀ s, Eff 68719476736 s (State.startIfReady s) := by
  intro s
  unfold State.startIfReady
  refine Eff.ite ?_ ?_
  · refine (State.putBoot_eff ..).step rfl ?_
    exact Eff.refl ..
  · exact Eff.refl ..

theorem execPerstNRelease_eff : ∀ s, OutEff 618475290624 s (execPerstNRelease s) := by
  intro s
  unfold execPerstNRelease
  refine OutEff.next ?_
  refine (State.startIfReady_eff ..).step rfl ?_
  exact (State.putBoard_eff ..).mono rfl

theorem State.powerGood_eff : ∀ s, Eff 2164663517180 s (State.powerGood s) := by
  intro s
  unfold State.powerGood
  refine Eff.ite ?_ ?_
  · exact Eff.refl ..
  · extract_lets +onlyGivenNames x0
    refine Eff.cut x0 ?_ ?_
    · subst x0
      refine (State.cleared_eff ..).step rfl ?_
      exact (State.idleTransfers_eff ..).mono rfl
    intro hx
    clear_value x0
    refine (State.startIfReady_eff ..).step rfl ?_
    refine (State.wr_eff ..).step rfl ?_
    refine (State.putBoard_eff ..).step rfl ?_
    assumption

theorem execPwrGoodRise_eff : ∀ s, OutEff 2164663517180 s (execPwrGoodRise s) := by
  intro s
  unfold execPwrGoodRise
  refine OutEff.next ?_
  exact (State.powerGood_eff ..).mono rfl

theorem State.powerLoss_eff : ∀ s, Eff 2164663517180 s (State.powerLoss s) := by
  intro s
  unfold State.powerLoss
  extract_lets +onlyGivenNames x0
  refine Eff.cut x0 ?_ ?_
  · subst x0
    refine (State.cleared_eff ..).step rfl ?_
    exact (State.idleTransfers_eff ..).mono rfl
  intro hx
  clear_value x0
  refine (State.putHost_eff ..).step rfl ?_
  refine (State.putBoard_eff ..).step rfl ?_
  assumption

theorem execInputPowerLoss_eff : ∀ s, OutEff 2164663517180 s (execInputPowerLoss s) := by
  intro s
  unfold execInputPowerLoss
  refine OutEff.next ?_
  exact (State.powerLoss_eff ..).mono rfl

end Sys2Proof.Machine
end

