-- ==== Sys2Proof/Laws/WorkOps.lean ====
section
/-! SUPPORT. What each operation of Machine/WorkOps.lean can change, in the terms of Laws/Eff.lean: one lemma an operation. -/

namespace Sys2Proof.Machine

theorem State.addReq_eff : ∀ s r, Eff 24 s (State.addReq s r) := by
  intro s r
  unfold State.addReq
  extract_lets +onlyGivenNames x0
  refine Eff.cut x0 ?_ ?_
  · subst x0
    exact (State.updHost_eff ..).mono rfl
  intro hx
  clear_value x0
  refine Eff.ite ?_ ?_
  · refine (State.wr_eff ..).step rfl ?_
    assumption
  · assumption

theorem State.chargeFab_eff : ∀ s k tx words, Eff 4294967360 s (State.chargeFab s k tx words) := by
  intro s k tx words
  unfold State.chargeFab
  refine Eff.ite ?_ ?_
  · refine (State.charge_eff ..).step rfl ?_
    exact Eff.refl ..
  · exact Eff.refl ..

theorem State.sendWork_eff : ∀ s dst req client kind_ ask bs, Eff 4294967368 s (State.sendWork s dst req client kind_ ask bs) := by
  intro s dst req client kind_ ask bs
  unfold State.sendWork
  extract_lets +onlyGivenNames x0
  clear_value x0
  extract_lets +onlyGivenNames x1
  refine Eff.cut x1 ?_ ?_
  · subst x1
    refine Eff.ite ?_ ?_
    · exact Eff.refl ..
    · refine (State.chargeFab_eff ..).step rfl ?_
      exact Eff.refl ..
  intro hx
  clear_value x1
  refine Eff.foldl ?_ ?_
  · intro a2
    intro a3
    exact (State.sendHub_eff ..).mono rfl
  · assumption

theorem State.beginRemote_eff : ∀ s src client req desc param part, Eff 4294967320 s (State.beginRemote s src client req desc param part).1 := by
  intro s src client req desc param part
  unfold State.beginRemote
  extract_lets +onlyGivenNames x0
  clear_value x0
  extract_lets +onlyGivenNames x1
  refine Eff.cut x1 ?_ ?_
  · subst x1
    exact (State.updFab_eff ..).mono rfl
  intro hx
  clear_value x1
  refine Eff.pair_fst ?_
  refine (State.addReq_eff ..).step rfl ?_
  assumption

theorem State.updColl_eff : ∀ s k f, Eff 4294967296 s (State.updColl s k f) := by
  intro s k f
  unfold State.updColl
  exact (State.updFab_eff ..).mono rfl

theorem State.failWork_eff : ∀ s k st, Eff 1108083614552 s (State.failWork s k st) := by
  intro s k st
  unfold State.failWork
  refine Eff.ite ?_ ?_
  · extract_lets +onlyGivenNames x0
    refine Eff.cut x0 ?_ ?_
    · subst x0
      exact (State.endColls_eff ..).mono rfl
    intro hx
    clear_value x0
    refine (State.putWalks_eff ..).step rfl ?_
    refine (State.putSearches_eff ..).step rfl ?_
    refine (State.putRetrieves_eff ..).step rfl ?_
    assumption
  · exact (State.endReq_eff ..).mono rfl

theorem State.failCommit_eff : ∀ s slot st, Eff 1108083614552 s (State.failCommit s slot st) := by
  intro s slot st
  unfold State.failCommit
  split
  · exact Eff.refl ..
  · split
    · exact Eff.refl ..
    · extract_lets +onlyGivenNames x0
      refine Eff.cut x0 ?_ ?_
      · subst x0
        refine Eff.ite ?_ ?_
        · exact Eff.refl ..
        · refine Eff.foldl ?_ ?_
          · intro a1
            intro a2
            exact (State.sendWork_eff ..).mono rfl
          · exact Eff.refl ..
      intro hx
      clear_value x0
      refine (State.endReq_eff ..).step rfl ?_
      refine (State.discardCommit_eff ..).step rfl ?_
      assumption

theorem State.settleUpdate_eff : ∀ s slot k, Eff 1108083614552 s (State.settleUpdate s slot k) := by
  intro s slot k
  unfold State.settleUpdate
  split
  · refine Eff.ite ?_ ?_
    · exact Eff.refl ..
    · split
      · exact (State.endReq_eff ..).mono rfl
      · extract_lets +onlyGivenNames x0
        refine Eff.cut x0 ?_ ?_
        · subst x0
          refine Eff.foldl ?_ ?_
          · intro a1
            intro a2
            exact (State.sendWork_eff ..).mono rfl
          · exact Eff.refl ..
        intro hx
        clear_value x0
        refine (State.endReq_eff ..).step rfl ?_
        refine (State.undoDeltas_eff ..).step rfl ?_
        assumption
  · exact Eff.refl ..

theorem State.updateAnswer_eff : ∀ s k m st, Eff 1108083614552 s (State.updateAnswer s k m st) := by
  intro s k m st
  unfold State.updateAnswer
  split
  · exact Eff.refl ..
  · extract_lets +onlyGivenNames x0
    clear_value x0
    refine (State.settleUpdate_eff ..).step rfl ?_
    exact (State.updTable_eff ..).mono rfl

theorem State.failShared_eff : ∀ s k m st, Eff 1108083614552 s (State.failShared s k m st) := by
  intro s k m st
  unfold State.failShared
  split
  · refine Eff.ite ?_ ?_
    · exact Eff.refl ..
    · exact (State.failCommit_eff ..).mono rfl
  · refine Eff.ite ?_ ?_
    · exact (State.updateAnswer_eff ..).mono rfl
    · exact (State.failWork_eff ..).mono rfl

theorem State.gone_eff : ∀ s k m, Eff 1108083614552 s (State.gone s k m) := by
  intro s k m
  unfold State.gone
  refine (State.failShared_eff ..).step rfl ?_
  exact (State.updColl_eff ..).mono rfl

end Sys2Proof.Machine
end

