-- ==== Sys2Proof/Laws/FabricOps.lean ====
section
/-! SUPPORT. What each operation of Machine/FabricOps.lean can change, in the terms of Laws/Eff.lean: one lemma an operation. -/

namespace Sys2Proof.Machine

theorem State.lostOwn_eff : ∀ s m, Eff 1108083614552 s (State.lostOwn s m) := by
  intro s m
  unfold State.lostOwn
  refine Eff.ite ?_ ?_
  · refine Eff.foldl ?_ ?_
    · intro a0
      intro a1
      exact (State.endReq_eff ..).mono rfl
    · exact Eff.refl ..
  · refine Eff.ite ?_ ?_
    · refine Eff.ite ?_ ?_
      · exact Eff.refl ..
      · split
        · exact (State.endReq_eff ..).mono rfl
        · refine Eff.ite ?_ ?_
          · exact (State.gone_eff ..).mono rfl
          · exact Eff.refl ..
    · refine Eff.foldl ?_ ?_
      · intro a2
        intro a3
        exact (State.gone_eff ..).mono rfl
      · exact Eff.refl ..

theorem State.lost_eff : ∀ s p m, Eff 1108083614552 s (State.lost s p m) := by
  intro s p m
  unfold State.lost
  extract_lets +onlyGivenNames x0
  refine Eff.cut x0 ?_ ?_
  · subst x0
    exact (State.raise_eff ..).mono rfl
  intro hx
  clear_value x0
  refine Eff.ite ?_ ?_
  · refine (State.lostOwn_eff ..).step rfl ?_
    assumption
  · refine (State.sendUnreach_eff ..).step rfl ?_
    assumption

theorem State.moveQueue_eff : ∀ s p q, Eff 1108083614552 s (State.moveQueue s p q) := by
  intro s p q
  unfold State.moveQueue
  refine Eff.foldl ?_ ?_
  · intro a0
    intro a1
    refine Eff.ite ?_ ?_
    · exact (State.lost_eff ..).mono rfl
    · exact (State.forward_eff ..).mono rfl
  · exact Eff.refl ..

theorem State.dropPort_eff : ∀ s p st, Eff 1108083614552 s (State.dropPort s p st) := by
  intro s p st
  unfold State.dropPort
  extract_lets +onlyGivenNames x0
  clear_value x0
  extract_lets +onlyGivenNames x1
  clear_value x1
  extract_lets +onlyGivenNames x2
  refine Eff.cut x2 ?_ ?_
  · subst x2
    refine (State.setPort_eff ..).step rfl ?_
    exact (State.setPortState_eff ..).mono rfl
  intro hx
  clear_value x2
  extract_lets +onlyGivenNames x3
  refine Eff.cut x3 ?_ ?_
  · subst x3
    refine (State.lanesState_eff ..).step rfl ?_
    refine (State.wr_eff ..).step rfl ?_
    refine (State.mirrorLanes_eff ..).step rfl ?_
    assumption
  intro hx
  clear_value x3
  refine (State.moveQueue_eff ..).step rfl ?_
  refine Eff.foldl ?_ ?_
  · intro a4
    intro a5
    exact (State.lost_eff ..).mono rfl
  · assumption

theorem State.retirePort_eff : ∀ s p, Eff 1108083614552 s (State.retirePort s p) := by
  intro s p
  unfold State.retirePort
  refine Eff.ite ?_ ?_
  · exact Eff.refl ..
  · refine (State.raise_eff ..).step rfl ?_
    exact (State.dropPort_eff ..).mono rfl

theorem State.logLane_eff : ∀ s p l, Eff 34359738632 s (State.logLane s p l) := by
  intro s p l
  unfold State.logLane
  refine Eff.ite ?_ ?_
  · exact Eff.refl ..
  · refine (State.raise_eff ..).step rfl ?_
    refine (State.logRetire_eff ..).step rfl ?_
    refine (State.incSat_eff ..).step rfl ?_
    exact (State.markRetired_eff ..).mono rfl

theorem State.retireLane_eff : ∀ s p l, Eff 1142443352920 s (State.retireLane s p l) := by
  intro s p l
  unfold State.retireLane
  extract_lets +onlyGivenNames x0
  clear_value x0
  refine Eff.ite ?_ ?_
  · exact Eff.refl ..
  · extract_lets +onlyGivenNames x1
    refine Eff.cut x1 ?_ ?_
    · subst x1
      refine (State.raise_eff ..).step rfl ?_
      refine (State.wr_eff ..).step rfl ?_
      refine (State.wr_eff ..).step rfl ?_
      exact (State.logLane_eff ..).mono rfl
    intro hx
    clear_value x1
    refine Eff.ite ?_ ?_
    · refine (State.retirePort_eff ..).step rfl ?_
      assumption
    · extract_lets +onlyGivenNames x2
      clear_value x2
      extract_lets +onlyGivenNames x3
      clear_value x3
      extract_lets +onlyGivenNames x4
      refine Eff.cut x4 ?_ ?_
      · subst x4
        refine (State.setPort_eff ..).step rfl ?_
        assumption
      intro hx
      clear_value x4
      refine (State.mirrorLanes_eff ..).step rfl ?_
      refine Eff.ite ?_ ?_
      · refine (State.setPortState_eff ..).step rfl ?_
        assumption
      · assumption

end Sys2Proof.Machine
end

