-- ==== Sys2Proof/Laws/Router.lean ====
section
/-! SUPPORT. What each operation of Machine/Router.lean can change, in the terms of Laws/Eff.lean: one lemma an operation. -/

namespace Sys2Proof.Machine

theorem State.setInput_eff : ∀ s i x, Eff 4096 s (State.setInput s i x) := by
  intro s i x
  unfold State.setInput
  exact (State.updPkg_eff ..).mono rfl

theorem State.atOutput_eff : ∀ s arb m, Eff 4096 s (State.atOutput s arb m) := by
  intro s arb m
  unfold State.atOutput
  exact (State.updPkg_eff ..).mono rfl

theorem State.hop_eff : ∀ fuel s arb input m, Eff 4096 s (State.hop fuel s arb input m) := by
  intro fuel
  induction fuel with
  | zero =>
    intro s arb input m
    rw [State.hop]
    refine Eff.ite ((State.updPkg_eff ..).mono rfl) ?_
    extract_lets m1 next s1
    refine Eff.cut s1 ((State.passed_eff ..).mono rfl) fun h1 => ?_
    clear_value s1
    split
    · contradiction
    · exact Eff.ite ((State.atOutput_eff ..).step rfl h1) ((State.updPkg_eff ..).step rfl h1)
  | succ f ih =>
    intro s arb input m
    rw [State.hop]
    refine Eff.ite ((State.updPkg_eff ..).mono rfl) ?_
    extract_lets m1 next s1
    refine Eff.cut s1 ((State.passed_eff ..).mono rfl) fun h1 => ?_
    clear_value s1
    split
    · injection ‹f + 1 = _› with e
      subst e
      exact (ih ..).step (by simp [subMask]) h1
    · exact Eff.ite ((State.atOutput_eff ..).step rfl h1) ((State.updPkg_eff ..).step rfl h1)

theorem State.headerCorrected_eff : ∀ s region port master, Eff 256 s (State.headerCorrected s region port master) := by
  intro s region port master
  unfold State.headerCorrected
  extract_lets +onlyGivenNames x0
  clear_value x0
  extract_lets +onlyGivenNames x1
  clear_value x1
  refine Eff.ite ?_ ?_
  · refine (State.raise_eff ..).step rfl ?_
    exact (State.putFaults_eff ..).mono rfl
  · exact Eff.refl ..

theorem State.takeInput_eff : ∀ fuel s region port, Eff 1133853425498 s (State.takeInput fuel s region port) := by
  intro fuel s region port
  induction fuel generalizing s region port with
  | zero =>
    rw [State.takeInput]
    exact Eff.refl ..
  | succ f ih =>
    rw [State.takeInput]
    split
    · exact Eff.refl ..
    · refine Eff.ite ?_ ?_
      · refine Eff.ite ?_ ?_
        · refine (ih ..).step rfl ?_
          exact (State.setInput_eff ..).mono rfl
        · extract_lets +onlyGivenNames x0
          clear_value x0
          extract_lets +onlyGivenNames x1
          clear_value x1
          extract_lets +onlyGivenNames x2
          clear_value x2
          refine Eff.ite ?_ ?_
          · refine (ih ..).step rfl ?_
            exact (State.setInput_eff ..).mono rfl
          · refine (ih ..).step rfl ?_
            refine (State.hop_eff ..).step rfl ?_
            exact (State.setInput_eff ..).mono rfl
      · split
        · refine (ih ..).step rfl ?_
          refine (State.routerHeader_eff ..).step rfl ?_
          exact (State.setInput_eff ..).mono rfl
        · extract_lets +onlyGivenNames x3
          clear_value x3
          extract_lets +onlyGivenNames x4
          clear_value x4
          refine Eff.ite ?_ ?_
          · refine (ih ..).step rfl ?_
            exact (State.setInput_eff ..).mono rfl
          · refine Eff.ite ?_ ?_
            · exact Eff.refl ..
            · extract_lets +onlyGivenNames x5
              refine Eff.cut x5 ?_ ?_
              · subst x5
                refine Eff.ite ?_ ?_
                · exact (State.headerCorrected_eff ..).mono rfl
                · exact Eff.refl ..
              intro hx
              clear_value x5
              extract_lets +onlyGivenNames x6
              clear_value x6
              refine Eff.ite ?_ ?_
              · refine (ih ..).step rfl ?_
                refine (State.hop_eff ..).step rfl ?_
                refine (State.setInput_eff ..).step rfl ?_
                assumption
              · extract_lets +onlyGivenNames x7
                clear_value x7
                refine (ih ..).step rfl ?_
                refine (State.updPkg_eff ..).step rfl ?_
                assumption

theorem State.useGrant_eff : ∀ s arb, Eff 1133853425498 s (State.useGrant s arb) := by
  intro s arb
  unfold State.useGrant
  extract_lets +onlyGivenNames x0
  clear_value x0
  split
  · refine Eff.ite ?_ ?_
    · exact (State.takeInput_eff ..).mono rfl
    · exact Eff.refl ..
  · extract_lets +onlyGivenNames x1
    clear_value x1
    extract_lets +onlyGivenNames x2
    refine Eff.cut x2 ?_ ?_
    · subst x2
      exact (State.updPkg_eff ..).mono rfl
    intro hx
    clear_value x2
    refine Eff.ite ?_ ?_
    · extract_lets +onlyGivenNames x3
      clear_value x3
      refine (State.updPkg_eff ..).step rfl ?_
      refine (State.hop_eff ..).step rfl ?_
      assumption
    · exact Eff.refl ..

theorem State.arbiter_eff : ∀ s arb pend, Eff 1133853425498 s (State.arbiter s arb pend) := by
  intro s arb pend
  unfold State.arbiter
  extract_lets +onlyGivenNames x0
  clear_value x0
  split
  · exact Eff.refl ..
  · extract_lets +onlyGivenNames x1
    clear_value x1
    refine (State.useGrant_eff ..).step rfl ?_
    exact (State.updPkg_eff ..).mono rfl

theorem execArbiterGrant_eff : ∀ arb pend s, OutEff 1133853425498 s (execArbiterGrant arb pend s) := by
  intro arb pend s
  unfold execArbiterGrant
  refine OutEff.next ?_
  exact (State.arbiter_eff ..).mono rfl

theorem State.routerFlit_eff : ∀ s region inPort flit, Eff 1133853425498 s (State.routerFlit s region inPort flit) := by
  intro s region inPort flit
  unfold State.routerFlit
  extract_lets +onlyGivenNames x0
  clear_value x0
  extract_lets +onlyGivenNames x1
  clear_value x1
  refine Eff.ite ?_ ?_
  · exact Eff.refl ..
  · refine Eff.ite ?_ ?_
    · exact Eff.refl ..
    · refine (State.takeInput_eff ..).step rfl ?_
      exact (State.setInput_eff ..).mono rfl

theorem execRouterFlit_eff : ∀ region inPort flit s, OutEff 1133853425498 s (execRouterFlit region inPort flit s) := by
  intro region inPort flit s
  unfold execRouterFlit
  refine OutEff.next ?_
  exact (State.routerFlit_eff ..).mono rfl

theorem State.retireLinkOf_eff : ∀ s l more, Eff 1133853425498 s (State.retireLinkOf s l more) := by
  intro s l more
  unfold State.retireLinkOf
  extract_lets +onlyGivenNames x0
  clear_value x0
  extract_lets +onlyGivenNames x1
  clear_value x1
  extract_lets +onlyGivenNames x2
  clear_value x2
  extract_lets +onlyGivenNames x3
  refine Eff.cut x3 ?_ ?_
  · subst x3
    exact (State.updPkg_eff ..).mono rfl
  intro hx
  clear_value x3
  extract_lets +onlyGivenNames x4
  refine Eff.cut x4 ?_ ?_
  · subst x4
    refine (State.resetParts_eff ..).step rfl ?_
    assumption
  intro hx
  clear_value x4
  refine Eff.foldl ?_ ?_
  · intro a5
    intro a6
    extract_lets +onlyGivenNames x7
    clear_value x7
    exact (State.hop_eff ..).mono rfl
  · assumption

theorem State.pumpLink_eff : ∀ fuel s l, Eff 1133853425498 s (State.pumpLink fuel s l) := by
  intro fuel s l
  induction fuel generalizing s l with
  | zero =>
    rw [State.pumpLink]
    exact Eff.refl ..
  | succ f ih =>
    rw [State.pumpLink]
    refine Eff.ite ?_ ?_
    · exact Eff.refl ..
    · refine Eff.ite ?_ ?_
      · exact (State.useGrant_eff ..).mono rfl
      · refine (ih ..).step rfl ?_
        exact (State.arbiter_eff ..).mono rfl

theorem State.landed_eff : ∀ s l m, Eff 4096 s (State.landed s l m) := by
  intro s l m
  unfold State.landed
  refine Eff.ite ?_ ?_
  · exact Eff.refl ..
  · exact (State.hop_eff ..).mono rfl

theorem State.crossHeader_eff : ∀ s l, Eff 1133853425498 s (State.crossHeader s l) := by
  intro s l
  unfold State.crossHeader
  extract_lets +onlyGivenNames x0
  clear_value x0
  extract_lets +onlyGivenNames x1
  refine Eff.cut x1 ?_ ?_
  · subst x1
    exact (State.raise_eff ..).mono rfl
  intro hx
  clear_value x1
  refine Eff.ite ?_ ?_
  · assumption
  · refine (State.resetParts_eff ..).step rfl ?_
    assumption

theorem State.dieFrame_eff : ∀ s l f, Eff 1133853425498 s (State.dieFrame s l f) := by
  intro s l f
  unfold State.dieFrame
  extract_lets +onlyGivenNames x0
  clear_value x0
  extract_lets +onlyGivenNames x1
  subst x1
  refine Eff.ite ?_ ?_
  · exact Eff.refl ..
  · refine Eff.ite ?_ ?_
    · refine Eff.ite ?_ ?_
      · refine (State.retireLinkOf_eff ..).step rfl ?_
        exact (State.raise_eff ..).mono rfl
      · refine (State.raise_eff ..).step rfl ?_
        beta_reduce
        exact (State.updPkg_eff ..).mono rfl
    · refine Eff.ite ?_ ?_
      · exact Eff.refl ..
      · extract_lets +onlyGivenNames x2
        clear_value x2
        extract_lets +onlyGivenNames x3
        clear_value x3
        extract_lets +onlyGivenNames x4
        clear_value x4
        extract_lets +onlyGivenNames x5
        clear_value x5
        extract_lets +onlyGivenNames x6
        refine Eff.cut x6 ?_ ?_
        · subst x6
          refine (State.updPkg_eff ..).step rfl ?_
          beta_reduce
          exact (State.updPkg_eff ..).mono rfl
        intro hx
        clear_value x6
        extract_lets +onlyGivenNames x7
        refine Eff.cut x7 ?_ ?_
        · subst x7
          refine Eff.ite ?_ ?_
          · refine (State.passed_eff ..).step rfl ?_
            assumption
          · assumption
        intro hx
        clear_value x7
        extract_lets +onlyGivenNames x8
        refine Eff.cut x8 ?_ ?_
        · subst x8
          refine Eff.foldl ?_ ?_
          · intro a9
            intro a10
            exact (State.crossHeader_eff ..).mono rfl
          · assumption
        intro hx
        clear_value x8
        extract_lets +onlyGivenNames x11
        refine Eff.cut x11 ?_ ?_
        · subst x11
          refine Eff.foldl ?_ ?_
          · intro a12
            intro a13
            exact (State.landed_eff ..).mono rfl
          · assumption
        intro hx
        clear_value x11
        refine (State.pumpLink_eff ..).step rfl ?_
        assumption

theorem execDieLinkFrame_eff : ∀ link frame s, OutEff 1133853425498 s (execDieLinkFrame link frame s) := by
  intro link frame s
  unfold execDieLinkFrame
  refine OutEff.next ?_
  exact (State.dieFrame_eff ..).mono rfl

theorem State.answerWord_eff : ∀ s w requester syms, Eff 1099511631872 s (State.answerWord s w requester syms) := by
  intro s w requester syms
  unfold State.answerWord
  extract_lets +onlyGivenNames x0
  clear_value x0
  extract_lets +onlyGivenNames x1
  clear_value x1
  extract_lets +onlyGivenNames x2
  refine Eff.cut x2 ?_ ?_
  · subst x2
    refine Eff.ite ?_ ?_
    · refine Eff.step (State.updMem_eff _ _ fun _ => rfl) rfl ?_
      exact Eff.refl ..
    · exact Eff.refl ..
  intro hx
  clear_value x2
  extract_lets +onlyGivenNames x3
  clear_value x3
  extract_lets +onlyGivenNames x4
  clear_value x4
  split
  · assumption
  · extract_lets +onlyGivenNames x5
    clear_value x5
    extract_lets +onlyGivenNames x6
    clear_value x6
    extract_lets +onlyGivenNames x7
    clear_value x7
    extract_lets +onlyGivenNames x8
    refine Eff.cut x8 ?_ ?_
    · subst x8
      refine (State.updPkg_eff ..).step rfl ?_
      assumption
    intro hx
    clear_value x8
    extract_lets +onlyGivenNames x9
    refine Eff.cut x9 ?_ ?_
    · subst x9
      refine Eff.step (State.updMem_eff _ _ fun _ => rfl) rfl ?_
      assumption
    intro hx
    clear_value x9
    extract_lets +onlyGivenNames x10
    clear_value x10
    refine (State.hop_eff ..).step rfl ?_
    assumption

theorem State.ackWrite_eff : ∀ s w requester, Eff 4096 s (State.ackWrite s w requester) := by
  intro s w requester
  unfold State.ackWrite
  extract_lets +onlyGivenNames x0
  clear_value x0
  extract_lets +onlyGivenNames x1
  clear_value x1
  split
  · exact Eff.refl ..
  · extract_lets +onlyGivenNames x2
    clear_value x2
    extract_lets +onlyGivenNames x3
    refine Eff.cut x3 ?_ ?_
    · subst x3
      exact (State.updPkg_eff ..).mono rfl
    intro hx
    clear_value x3
    extract_lets +onlyGivenNames x4
    clear_value x4
    refine (State.hop_eff ..).step rfl ?_
    assumption

theorem State.memAccess_eff : ∀ s w requester op, Eff 1133853425498 s (State.memAccess s w requester op) := by
  intro s w requester op
  unfold State.memAccess
  extract_lets x x1
  refine Eff.ite ((State.raise_eff ..).mono rfl) ?_
  refine Eff.ite (Eff.refl ..) ?_
  refine Eff.cut x1 ((State.passed_eff ..).mono rfl) fun h1 => ?_
  clear_value x1
  split
  · extract_lets r
    refine Eff.cut r.1 ((State.readCtl_eff ..).step rfl h1) fun hr => ?_
    clear_value r
    split
    · exact (State.answerWord_eff ..).step rfl hr
    · exact (State.answerWord_eff ..).step rfl hr
    · exact hr
  · rename_i bytes
    extract_lets x2
    refine Eff.cut x2 (Eff.ite ((State.readCtl_eff ..).step rfl h1) h1) fun h2 => ?_
    clear_value x2
    refine (State.ackWrite_eff ..).step rfl ?_
    exact Eff.step (State.updMem_cells_eff _ _ fun _ h => by dsimp only [MemState.written]; exact mergeWord_wf _ _ _ _ h) rfl h2
  · refine (State.ackWrite_eff ..).step rfl ?_
    exact Eff.step (State.updMem_cells_eff _ _ fun _ h => by dsimp only [MemState.written]; exact putWord_wf _ _ h) rfl h1

theorem execMemoryAccess_eff : ∀ word requester op s, OutEff 1133853425498 s (execMemoryAccess word requester op s) := by
  intro word requester op s
  unfold execMemoryAccess
  refine OutEff.next ?_
  exact (State.memAccess_eff ..).mono rfl

end Sys2Proof.Machine
end

