-- ==== Sys2Proof/Laws/Faults.lean ====
section
/-! SUPPORT. What each operation of Machine/Faults.lean can change, in the terms of Laws/Eff.lean: one lemma an operation. -/

namespace Sys2Proof.Machine

theorem State.updFaults_eff : ∀ s f, Eff 256 s (State.updFaults s f) := by
  intro s f
  unfold State.updFaults
  exact (State.putFaults_eff ..).mono rfl

theorem State.newEntry_eff : ∀ s e st sub kind_ c, Eff 264 s (State.newEntry s e st sub kind_ c) := by
  intro s e st sub kind_ c
  unfold State.newEntry
  extract_lets +onlyGivenNames x0
  clear_value x0
  extract_lets +onlyGivenNames x1
  refine Eff.cut x1 ?_ ?_
  · subst x1
    refine (State.setReg_eff ..).step rfl ?_
    exact (State.setReg_eff ..).mono rfl
  intro hx
  clear_value x1
  extract_lets +onlyGivenNames x2
  refine Eff.cut x2 ?_ ?_
  · subst x2
    iterate 5 refine (State.wr_eff ..).step rfl ?_
    assumption
  intro hx
  clear_value x2
  refine (State.updFaults_eff ..).step rfl ?_
  assumption

theorem State.entryOverflow_eff : ∀ s, Eff 264 s (State.entryOverflow s) := by
  intro s
  unfold State.entryOverflow
  extract_lets +onlyGivenNames x0
  refine Eff.cut x0 ?_ ?_
  · subst x0
    exact (State.incSat_eff ..).mono rfl
  intro hx
  clear_value x0
  refine Eff.ite ?_ ?_
  · assumption
  · refine (State.raise_eff ..).step rfl ?_
    refine (State.updFaults_eff ..).step rfl ?_
    assumption

theorem State.findEntry_eff : ∀ s st sub kind_ c, Eff 264 s (State.findEntry s st sub kind_ c).1 := by
  intro s st sub kind_ c
  unfold State.findEntry
  extract_lets +onlyGivenNames x0
  clear_value x0
  split
  · refine Eff.pair_fst ?_
    exact Eff.refl ..
  · split
    · refine Eff.pair_fst ?_
      exact (State.newEntry_eff ..).mono rfl
    · split
      · refine Eff.pair_fst ?_
        refine (State.newEntry_eff ..).step rfl ?_
        exact (State.entryOverflow_eff ..).mono rfl
      · refine Eff.pair_fst ?_
        exact (State.entryOverflow_eff ..).mono rfl

theorem State.fltSignal_eff : ∀ s, Eff 272 s (State.fltSignal s) := by
  intro s
  unfold State.fltSignal
  refine Eff.ite ?_ ?_
  · exact Eff.refl ..
  · refine Eff.ite ?_ ?_
    · exact (State.updFaults_eff ..).mono rfl
    · refine (State.updFaults_eff ..).step rfl ?_
      exact (State.irq_eff ..).mono rfl

theorem State.mirrorGranules_eff : ∀ s p, Eff 8 s (State.mirrorGranules s p) := by
  intro s p
  unfold State.mirrorGranules
  exact (State.wr_eff ..).mono rfl

theorem State.shrinkPool_eff : ∀ s vs n, Eff 536870920 s (State.shrinkPool s vs n) := by
  intro s vs n
  unfold State.shrinkPool
  split
  · exact Eff.refl ..
  · extract_lets +onlyGivenNames x0
    clear_value x0
    extract_lets +onlyGivenNames x1
    clear_value x1
    refine (State.wr_eff ..).step rfl ?_
    refine (State.wr_eff ..).step rfl ?_
    exact (State.putPools_eff ..).mono rfl

theorem State.retireChannel_eff : ∀ s c, Eff 1133853441882 s (State.retireChannel s c) := by
  intro s c
  unfold State.retireChannel
  extract_lets +onlyGivenNames x0
  clear_value x0
  extract_lets +onlyGivenNames x1
  refine Eff.cut x1 ?_ ?_
  · subst x1
    exact (State.wr_eff ..).mono rfl
  intro hx
  clear_value x1
  extract_lets +onlyGivenNames x2
  clear_value x2
  extract_lets +onlyGivenNames x3
  refine Eff.cut x3 ?_ ?_
  · subst x3
    refine (State.resetParts_eff ..).step rfl ?_
    assumption
  intro hx
  clear_value x3
  extract_lets +onlyGivenNames x4
  refine Eff.cut x4 ?_ ?_
  · subst x4
    refine Eff.step (State.updMem_eff _ _ fun _ => rfl) rfl ?_
    assumption
  intro hx
  clear_value x4
  extract_lets +onlyGivenNames x5
  clear_value x5
  extract_lets +onlyGivenNames x6
  refine Eff.cut x6 ?_ ?_
  · subst x6
    refine (State.putObjs_eff ..).step rfl ?_
    assumption
  intro hx
  clear_value x6
  extract_lets +onlyGivenNames x7
  refine Eff.cut x7 ?_ ?_
  · subst x7
    refine Eff.foldl ?_ ?_
    · intro a8
      intro a9
      exact (State.shrinkPool_eff ..).mono rfl
    · assumption
  intro hx
  clear_value x7
  refine Eff.foldl ?_ ?_
  · intro a10
    intro a11
    exact (State.mirrorGranules_eff ..).mono rfl
  · assumption

theorem State.retireFlashDie_eff : ∀ s c i, Eff 1032 s (State.retireFlashDie s c i) := by
  intro s c i
  unfold State.retireFlashDie
  extract_lets +onlyGivenNames x0
  clear_value x0
  refine Eff.ite ?_ ?_
  · exact Eff.refl ..
  · extract_lets +onlyGivenNames x1
    refine Eff.cut x1 ?_ ?_
    · subst x1
      refine (State.incSat_eff ..).step rfl ?_
      exact (State.wr_eff ..).mono rfl
    intro hx
    clear_value x1
    refine (State.putFlash_eff ..).step rfl ?_
    assumption

theorem State.retireWalker_eff : ∀ s n, Eff 524552 s (State.retireWalker s n) := by
  intro s n
  unfold State.retireWalker
  extract_lets +onlyGivenNames x0
  clear_value x0
  extract_lets +onlyGivenNames x1
  refine Eff.cut x1 ?_ ?_
  · subst x1
    refine (State.wr_eff ..).step rfl ?_
    refine (State.wr_eff ..).step rfl ?_
    exact (State.wr_eff ..).mono rfl
  intro hx
  clear_value x1
  extract_lets +onlyGivenNames x2
  refine Eff.cut x2 ?_ ?_
  · subst x2
    refine Eff.foldl ?_ ?_
    · intro a3
      intro a4
      exact (State.raise_eff ..).mono rfl
    · assumption
  intro hx
  clear_value x2
  refine (State.putWalks_eff ..).step rfl ?_
  assumption

theorem State.retirePip_eff : ∀ s u, Eff 8200 s (State.retirePip s u) := by
  intro s u
  unfold State.retirePip
  extract_lets +onlyGivenNames x0
  clear_value x0
  extract_lets +onlyGivenNames x1
  refine Eff.cut x1 ?_ ?_
  · subst x1
    exact (State.wr_eff ..).mono rfl
  intro hx
  clear_value x1
  split
  · assumption
  · extract_lets +onlyGivenNames x2
    clear_value x2
    extract_lets +onlyGivenNames x3
    refine Eff.cut x3 ?_ ?_
    · subst x3
      refine Eff.ite ?_ ?_
      · refine (State.wr_eff ..).step rfl ?_
        assumption
      · assumption
    intro hx
    clear_value x3
    refine (State.setPart_eff ..).step rfl ?_
    assumption

theorem State.retireEngine_eff : ∀ s st, Eff 343941128 s (State.retireEngine s st) := by
  intro s st
  unfold State.retireEngine
  extract_lets i requeue u s1
  refine Eff.ite ?_ (Eff.ite ?_ (Eff.ite ?_ (Eff.ite ?_ ?_)))
  · exact (State.wr_eff ..).step rfl ((State.putBags_eff ..).mono rfl)
  · exact (State.retirePip_eff ..).mono rfl
  · exact (State.wr_eff ..).step rfl ((State.putTasks_eff ..).mono rfl)
  · exact (State.wr_eff ..).step rfl ((State.putTasks_eff ..).mono rfl)
  · exact (State.putProbes_eff ..).step rfl ((State.putTasks_eff ..).mono rfl)

theorem State.retireLink_eff : ∀ s st, Eff 1133853425498 s (State.retireLink s st) := by
  intro s st
  unfold State.retireLink
  split
  · exact Eff.refl ..
  · refine Eff.ite ?_ ?_
    · exact Eff.refl ..
    · exact (State.retireLinkOf_eff ..).mono rfl

theorem State.retireCluster_eff : ∀ s q st, Eff 34359740680 s (State.retireCluster s q st) := by
  intro s q st
  unfold State.retireCluster
  split
  · refine (State.incSat_eff ..).step rfl ?_
    exact (State.wr_eff ..).mono rfl
  · refine Eff.ite ?_ ?_
    · refine (State.updFaults_eff ..).step rfl ?_
      exact Eff.refl ..
    · refine (State.remap_eff ..).step rfl ?_
      exact Eff.refl ..

theorem State.withhold_eff : ∀ s ps why on, Eff 8192 s (State.withhold s ps why on) := by
  intro s ps why on
  unfold State.withhold
  refine Eff.foldl ?_ ?_
  · intro a0
    intro a1
    extract_lets +onlyGivenNames x2
    clear_value x2
    extract_lets +onlyGivenNames x3
    clear_value x3
    exact (State.setPart_eff ..).mono rfl
  · exact Eff.refl ..

theorem State.retireCore_eff : ∀ s k, Eff 8456 s (State.retireCore s k) := by
  intro s k
  unfold State.retireCore
  extract_lets +onlyGivenNames x0
  clear_value x0
  extract_lets +onlyGivenNames x1
  clear_value x1
  refine (State.withhold_eff ..).step rfl ?_
  refine (State.updFaults_eff ..).step rfl ?_
  exact (State.wr_eff ..).mono rfl

theorem State.retireUnit_eff : ∀ s c st sub, Eff 1168213180250 s (State.retireUnit s c st sub) := by
  intro s c st sub
  unfold State.retireUnit
  extract_lets +onlyGivenNames x0
  clear_value x0
  split
  · exact (State.retireChannel_eff ..).mono rfl
  · exact (State.retireLane_eff ..).mono rfl
  · exact (State.retireFlashDie_eff ..).mono rfl
  · exact (State.retireWalker_eff ..).mono rfl
  · exact (State.retireEngine_eff ..).mono rfl
  · exact (State.retireCluster_eff ..).mono rfl
  · exact (State.retireLink_eff ..).mono rfl
  · exact (State.retireCore_eff ..).mono rfl

theorem State.retire_eff : ∀ s c st sub, Eff 1168213180250 s (State.retire s c st sub) := by
  intro s c st sub
  unfold State.retire
  refine Eff.ite ?_ ?_
  · exact Eff.refl ..
  · refine Eff.ite ?_ ?_
    · exact (State.raise_eff ..).mono rfl
    · extract_lets +onlyGivenNames x0
      refine Eff.cut x0 ?_ ?_
      · subst x0
        refine (State.logRetire_eff ..).step rfl ?_
        refine (State.incSat_eff ..).step rfl ?_
        exact (State.markRetired_eff ..).mono rfl
      intro hx
      clear_value x0
      extract_lets +onlyGivenNames x1
      refine Eff.cut x1 ?_ ?_
      · subst x1
        refine Eff.foldl ?_ ?_
        · intro a2
          intro a3
          refine Eff.ite ?_ ?_
          · exact (State.wr_eff ..).mono rfl
          · exact Eff.refl ..
        · assumption
      intro hx
      clear_value x1
      extract_lets +onlyGivenNames x4
      refine Eff.cut x4 ?_ ?_
      · subst x4
        refine (State.fltSignal_eff ..).step rfl ?_
        refine (State.logEvent_eff ..).step rfl ?_
        assumption
      intro hx
      clear_value x4
      refine (State.raise_eff ..).step rfl ?_
      refine (State.retireUnit_eff ..).step rfl ?_
      assumption

theorem State.classify_eff : ∀ s m, Eff 1168213180250 s (State.classify s m) := by
  intro s m
  unfold State.classify
  refine Eff.ite ?_ ?_
  · exact Eff.refl ..
  · extract_lets +onlyGivenNames x0
    clear_value x0
    extract_lets +onlyGivenNames x1
    clear_value x1
    extract_lets +onlyGivenNames x2
    clear_value x2
    extract_lets +onlyGivenNames x3
    refine Eff.cut x3.1 ?_ ?_
    · subst x3
      exact (State.findEntry_eff ..).mono rfl
    intro hx
    clear_value x3
    extract_lets +onlyGivenNames x4
    refine Eff.cut x4 ?_ ?_
    · assumption
    intro hx
    clear_value x4
    extract_lets +onlyGivenNames x5
    clear_value x5
    extract_lets +onlyGivenNames x6
    refine Eff.cut x6 ?_ ?_
    · subst x6
      split
      · assumption
      · extract_lets +onlyGivenNames x7
        extract_lets +onlyGivenNames x8
        refine Eff.cut x8 ?_ ?_
        · subst x8
          refine Eff.ite ?_ ?_
          · refine (State.wr_eff ..).step rfl ?_
            refine (State.wr_eff ..).step rfl ?_
            refine (State.updFaults_eff ..).step rfl ?_
            assumption
          · assumption
        intro hx
        clear_value x8
        extract_lets +onlyGivenNames x9
        refine Eff.cut x9 ?_ ?_
        · subst x9
          refine (State.incSat_eff ..).step rfl ?_
          refine (State.incSat_eff ..).step rfl ?_
          assumption
        intro hx
        clear_value x9
        refine Eff.ite ?_ ?_
        · refine (State.wr_eff ..).step rfl ?_
          assumption
        · assumption
    intro hx
    clear_value x6
    extract_lets +onlyGivenNames x10
    clear_value x10
    refine Eff.ite ?_ ?_
    · assumption
    · refine Eff.ite ?_ ?_
      · refine Eff.ite ?_ ?_
        · refine (State.raise_eff ..).step rfl ?_
          assumption
        · refine (State.retire_eff ..).step rfl ?_
          assumption
      · assumption

theorem State.capture_eff : ∀ s m, Eff 8 s (State.capture s m) := by
  intro s m
  unfold State.capture
  refine Eff.ite ?_ ?_
  · refine (State.incSat_eff ..).step rfl ?_
    exact Eff.refl ..
  · extract_lets +onlyGivenNames x0
    refine Eff.cut x0 ?_ ?_
    · subst x0
      iterate 3 refine (State.wr_eff ..).step rfl ?_
      exact (State.wr_eff ..).mono rfl
    intro hx
    clear_value x0
    iterate 4 refine (State.wr_eff ..).step rfl ?_
    assumption

theorem State.restartCore_eff : ∀ s k, Eff 8448 s (State.restartCore s k) := by
  intro s k
  unfold State.restartCore
  extract_lets +onlyGivenNames x0
  refine Eff.cut x0 ?_ ?_
  · subst x0
    exact (State.updFaults_eff ..).mono rfl
  intro hx
  clear_value x0
  refine (State.withhold_eff ..).step rfl ?_
  assumption

theorem State.fatal_eff : ∀ s m, Eff 2164663517180 s (State.fatal s m) := by
  intro s m
  unfold State.fatal
  extract_lets +onlyGivenNames x0
  refine Eff.cut x0 ?_ ?_
  · subst x0
    refine Eff.ite ?_ ?_
    · exact Eff.refl ..
    · refine (State.wr_eff ..).step rfl ?_
      refine (State.wr_eff ..).step rfl ?_
      exact (State.wr_eff ..).mono rfl
  intro hx
  clear_value x0
  extract_lets +onlyGivenNames x1
  refine Eff.cut x1 ?_ ?_
  · subst x1
    refine (State.wr_eff ..).step rfl ?_
    refine (State.updFaults_eff ..).step rfl ?_
    assumption
  intro hx
  clear_value x1
  refine Eff.ite ?_ ?_
  · refine (State.moduleReset_eff ..).step rfl ?_
    assumption
  · refine (State.diesOff_eff ..).step rfl ?_
    assumption

theorem State.takeMsg_eff : ∀ s m, Eff 256 s (State.takeMsg s m) := by
  intro s m
  unfold State.takeMsg
  exact (State.updFaults_eff ..).mono rfl

theorem State.collect_eff : ∀ s m, Eff 2199023255550 s (State.collect s m) := by
  intro s m
  unfold State.collect
  extract_lets +onlyGivenNames x0
  refine Eff.cut x0 ?_ ?_
  · subst x0
    refine (State.inc_eff ..).step rfl ?_
    exact (State.takeMsg_eff ..).mono rfl
  intro hx
  clear_value x0
  extract_lets +onlyGivenNames x1
  clear_value x1
  extract_lets +onlyGivenNames x2
  refine Eff.cut x2 ?_ ?_
  · subst x2
    refine Eff.ite ?_ ?_
    · refine (State.logEvent_eff ..).step rfl ?_
      assumption
    · assumption
  intro hx
  clear_value x2
  extract_lets +onlyGivenNames x3
  refine Eff.cut x3 ?_ ?_
  · subst x3
    refine Eff.ite ?_ ?_
    · refine (State.fltSignal_eff ..).step rfl ?_
      refine (State.capture_eff ..).step rfl ?_
      assumption
    · assumption
  intro hx
  clear_value x3
  extract_lets +onlyGivenNames x4
  refine Eff.cut x4 ?_ ?_
  · subst x4
    refine Eff.ite ?_ ?_
    · refine (State.restartCore_eff ..).step rfl ?_
      assumption
    · assumption
  intro hx
  clear_value x4
  extract_lets +onlyGivenNames x5
  refine Eff.cut x5 ?_ ?_
  · subst x5
    refine (State.classify_eff ..).step rfl ?_
    assumption
  intro hx
  clear_value x5
  refine Eff.ite ?_ ?_
  · refine (State.fatal_eff ..).step rfl ?_
    assumption
  · assumption

theorem execFaultMessage_eff : ∀ m s, OutEff 2199023255550 s (execFaultMessage m s) := by
  intro m s
  unfold execFaultMessage
  refine OutEff.next ?_
  exact (State.collect_eff ..).mono rfl

theorem State.irqCoalesce_eff : ∀ s, Eff 272 s (State.irqCoalesce s) := by
  intro s
  unfold State.irqCoalesce
  refine Eff.ite ?_ ?_
  · refine (State.fltSignal_eff ..).step rfl ?_
    exact (State.updFaults_eff ..).mono rfl
  · exact Eff.refl ..

theorem execFaultIrqCoalesce_eff : ∀ s, OutEff 272 s (execFaultIrqCoalesce s) := by
  intro s
  unfold execFaultIrqCoalesce
  refine OutEff.next ?_
  exact (State.irqCoalesce_eff ..).mono rfl

theorem State.firstClear_eff : ∀ s a, Eff 264 s (State.firstClear s a) := by
  intro s a
  unfold State.firstClear
  refine Eff.ite ?_ ?_
  · refine (State.wr_eff ..).step rfl ?_
    refine (State.wr_eff ..).step rfl ?_
    exact (State.setReg_eff ..).mono rfl
  · refine (State.badAccess_eff ..).step rfl ?_
    exact Eff.refl ..

theorem execFirstErrorClear_eff : ∀ accessor s, OutEff 264 s (execFirstErrorClear accessor s) := by
  intro accessor s
  unfold execFirstErrorClear
  refine OutEff.next ?_
  exact (State.firstClear_eff ..).mono rfl

theorem State.pulseToggle_eff : ∀ s, Eff 264 s (State.pulseToggle s) := by
  intro s
  unfold State.pulseToggle
  refine Eff.ite ?_ ?_
  · exact Eff.refl ..
  · refine Eff.ite ?_ ?_
    · refine (State.wr_eff ..).step rfl ?_
      exact (State.updFaults_eff ..).mono rfl
    · refine (State.wr_eff ..).step rfl ?_
      exact Eff.refl ..

theorem execPulseToggle_eff : ∀ s, OutEff 264 s (execPulseToggle s) := by
  intro s
  unfold execPulseToggle
  refine OutEff.next ?_
  exact (State.pulseToggle_eff ..).mono rfl

theorem State.heartbeat_eff : ∀ s a, Eff 256 s (State.heartbeat s a) := by
  intro s a
  unfold State.heartbeat
  refine Eff.ite ?_ ?_
  · refine (State.updFaults_eff ..).step rfl ?_
    exact Eff.refl ..
  · exact Eff.refl ..

theorem execHeartbeatRefresh_eff : ∀ accessor s, OutEff 256 s (execHeartbeatRefresh accessor s) := by
  intro accessor s
  unfold execHeartbeatRefresh
  refine OutEff.next ?_
  exact (State.heartbeat_eff ..).mono rfl

theorem State.heartbeatLate_eff : ∀ s, Eff 264 s (State.heartbeatLate s) := by
  intro s
  unfold State.heartbeatLate
  refine Eff.ite ?_ ?_
  · refine (State.raise_eff ..).step rfl ?_
    refine (State.wr_eff ..).step rfl ?_
    exact (State.updFaults_eff ..).mono rfl
  · exact Eff.refl ..

theorem execHeartbeatLate_eff : ∀ s, OutEff 264 s (execHeartbeatLate s) := by
  intro s
  unfold execHeartbeatLate
  refine OutEff.next ?_
  exact (State.heartbeatLate_eff ..).mono rfl

theorem State.kick_eff : ∀ s a bits, Eff 8448 s (State.kick s a bits) := by
  intro s a bits
  unfold State.kick
  refine Eff.ite ?_ ?_
  · extract_lets +onlyGivenNames x0
    clear_value x0
    extract_lets +onlyGivenNames x1
    refine Eff.cut x1 ?_ ?_
    · subst x1
      exact (State.updFaults_eff ..).mono rfl
    intro hx
    clear_value x1
    refine Eff.ite ?_ ?_
    · refine (State.withhold_eff ..).step rfl ?_
      assumption
    · assumption
  · exact Eff.refl ..

theorem execWatchdogKick_eff : ∀ accessor bits s, OutEff 8448 s (execWatchdogKick accessor bits s) := by
  intro accessor bits s
  unfold execWatchdogKick
  refine OutEff.next ?_
  exact (State.kick_eff ..).mono rfl

theorem State.wdogCore_eff : ∀ s k, Eff 8456 s (State.wdogCore s k) := by
  intro s k
  unfold State.wdogCore
  refine Eff.ite ?_ ?_
  · refine (State.restartCore_eff ..).step rfl ?_
    refine (State.raise_eff ..).step rfl ?_
    exact (State.incSat_eff ..).mono rfl
  · exact Eff.refl ..

theorem execWdogCore_eff : ∀ core s, OutEff 8456 s (execWdogCore core s) := by
  intro core s
  unfold execWdogCore
  refine OutEff.next ?_
  exact (State.wdogCore_eff ..).mono rfl

theorem State.wdogSecond_eff : ∀ s k, Eff 1168213180250 s (State.wdogSecond s k) := by
  intro s k
  unfold State.wdogSecond
  refine Eff.ite ?_ ?_
  · refine Eff.ite ?_ ?_
    · exact (State.raise_eff ..).mono rfl
    · exact (State.retire_eff ..).mono rfl
  · exact Eff.refl ..

theorem execWatchdogSecondStage_eff : ∀ core s, OutEff 1168213180250 s (execWatchdogSecondStage core s) := by
  intro core s
  unfold execWatchdogSecondStage
  refine OutEff.next ?_
  exact (State.wdogSecond_eff ..).mono rfl

theorem execRailFault_eff : ∀ s, OutEff 8589936896 s (execRailFault s) := by
  intro s
  unfold execRailFault
  refine OutEff.next ?_
  refine (State.diesOff_eff ..).step rfl ?_
  exact (State.raise_eff ..).mono rfl

end Sys2Proof.Machine
end

