-- ==== Sys2Proof/Laws/Boot.lean ====
section
/-! SUPPORT. What each operation of Machine/Boot.lean can change, in the terms of Laws/Eff.lean: one lemma an operation. -/

namespace Sys2Proof.Machine

theorem State.updBoot_eff : ∀ s f, Eff 68719476736 s (State.updBoot s f) := by
  intro s f
  unfold State.updBoot
  exact (State.putBoot_eff ..).mono rfl

theorem State.updNor_eff : ∀ s f, Eff 34359738368 s (State.updNor s f) := by
  intro s f
  unfold State.updNor
  exact (State.putNor_eff ..).mono rfl

theorem State.setCounter_eff : ∀ s i v, Eff 34359738376 s (State.setCounter s i v) := by
  intro s i v
  unfold State.setCounter
  extract_lets +onlyGivenNames x0
  refine Eff.cut x0 ?_ ?_
  · subst x0
    exact (State.updNor_eff ..).mono rfl
  intro hx
  clear_value x0
  split
  · refine (State.wr_eff ..).step rfl ?_
    assumption
  · refine (State.wr_eff ..).step rfl ?_
    assumption
  · refine (State.wr_eff ..).step rfl ?_
    assumption
  · refine (State.wr_eff ..).step rfl ?_
    assumption

theorem State.bootFail_eff : ∀ s reason, Eff 111669151752 s (State.bootFail s reason) := by
  intro s reason
  unfold State.bootFail
  extract_lets +onlyGivenNames x0
  refine Eff.cut x0 ?_ ?_
  · subst x0
    refine (State.wr_eff ..).step rfl ?_
    refine (State.wr_eff ..).step rfl ?_
    exact (State.wr_eff ..).mono rfl
  intro hx
  clear_value x0
  refine (State.diesOff_eff ..).step rfl ?_
  refine (State.logEvent_eff ..).step rfl ?_
  refine (State.updBoot_eff ..).step rfl ?_
  assumption

theorem State.stageEnd_eff : ∀ s n, Eff 8 s (State.stageEnd s n) := by
  intro s n
  unfold State.stageEnd
  exact (State.wr_eff ..).mono rfl

theorem State.loadReg_eff : ∀ s e, Eff 8 s (State.loadReg s e) := by
  intro s e
  unfold State.loadReg
  split
  · exact Eff.refl ..
  · extract_lets +onlyGivenNames x0
    clear_value x0
    exact (State.setReg_eff ..).mono rfl

theorem State.showRetired_eff : ∀ s e, Eff 4104 s (State.showRetired s e) := by
  intro s e
  unfold State.showRetired
  extract_lets +onlyGivenNames x0
  clear_value x0
  extract_lets +onlyGivenNames x1
  clear_value x1
  refine Eff.ite ?_ ?_
  · split
    · refine (State.wr_eff ..).step rfl ?_
      exact Eff.refl ..
    · refine (State.incSat_eff ..).step rfl ?_
      exact (State.wr_eff ..).mono rfl
    · refine (State.incSat_eff ..).step rfl ?_
      exact (State.wr_eff ..).mono rfl
    · extract_lets +onlyGivenNames x2
      refine Eff.cut x2 ?_ ?_
      · subst x2
        refine (State.wr_eff ..).step rfl ?_
        exact (State.wr_eff ..).mono rfl
      intro hx
      clear_value x2
      refine Eff.ite ?_ ?_
      · refine (State.setPortState_eff ..).step rfl ?_
        assumption
      · assumption
    · exact Eff.refl ..
  · split
    · refine (State.incSat_eff ..).step rfl ?_
      exact Eff.refl ..
    · refine (State.wr_eff ..).step rfl ?_
      exact Eff.refl ..
    · refine (State.wr_eff ..).step rfl ?_
      exact Eff.refl ..
    · refine Eff.foldl ?_ ?_
      · intro a3
        intro a4
        exact (State.updPkg_eff ..).mono rfl
      · exact Eff.refl ..
    · exact Eff.refl ..

theorem State.bootPuf_eff : ∀ s x pub, Eff 111669151752 s (State.bootPuf s x pub) := by
  intro s x pub
  unfold State.bootPuf
  split
  · refine (State.bootFail_eff ..).step rfl ?_
    exact Eff.refl ..
  · refine (State.stageEnd_eff ..).step rfl ?_
    exact (State.updBoot_eff ..).mono rfl

theorem State.bootKeyCheck_eff : ∀ s, Eff 111669151752 s (State.bootKeyCheck s) := by
  intro s
  unfold State.bootKeyCheck
  refine Eff.ite ?_ ?_
  · refine (State.stageEnd_eff ..).step rfl ?_
    refine Eff.foldl ?_ ?_
    · intro a0
      intro a1
      exact (State.setCounter_eff ..).mono rfl
    · refine (State.setCounter_eff ..).step rfl ?_
      exact Eff.refl ..
  · refine (State.bootFail_eff ..).step rfl ?_
    exact Eff.refl ..

theorem State.bootHeader_eff : ∀ s ok seq fw cfg, Eff 111669151752 s (State.bootHeader s ok seq fw cfg) := by
  intro s ok seq fw cfg
  unfold State.bootHeader
  refine Eff.ite ?_ ?_
  · refine (State.stageEnd_eff ..).step rfl ?_
    exact (State.updNor_eff ..).mono rfl
  · refine (State.bootFail_eff ..).step rfl ?_
    exact Eff.refl ..

theorem State.bootRecords_eff : ∀ s id test owner tr key gen, Eff 111669151752 s (State.bootRecords s id test owner tr key gen) := by
  intro s id test owner tr key gen
  unfold State.bootRecords
  extract_lets +onlyGivenNames x0
  clear_value x0
  refine Eff.ite ?_ ?_
  · refine (State.bootFail_eff ..).step rfl ?_
    exact Eff.refl ..
  · refine Eff.ite ?_ ?_
    · refine (State.bootFail_eff ..).step rfl ?_
      exact Eff.refl ..
    · refine Eff.ite ?_ ?_
      · refine (State.bootFail_eff ..).step rfl ?_
        exact Eff.refl ..
      · extract_lets +onlyGivenNames x1
        clear_value x1
        extract_lets +onlyGivenNames x2
        refine Eff.cut x2 ?_ ?_
        · subst x2
          exact (State.setCounter_eff ..).mono rfl
        intro hx
        clear_value x2
        refine (State.stageEnd_eff ..).step rfl ?_
        refine (State.updBoot_eff ..).step rfl ?_
        assumption

theorem State.bootFirmware_eff : ∀ s a b, Eff 111669151752 s (State.bootFirmware s a b) := by
  intro s a b
  unfold State.bootFirmware
  extract_lets +onlyGivenNames x0
  clear_value x0
  split
  · refine (State.bootFail_eff ..).step rfl ?_
    exact Eff.refl ..
  · extract_lets +onlyGivenNames x1
    clear_value x1
    extract_lets +onlyGivenNames x2
    clear_value x2
    extract_lets +onlyGivenNames x3
    refine Eff.cut x3 ?_ ?_
    · subst x3
      refine (State.wr_eff ..).step rfl ?_
      refine (State.wr_eff ..).step rfl ?_
      exact (State.wr_eff ..).mono rfl
    intro hx
    clear_value x3
    extract_lets +onlyGivenNames x4
    refine Eff.cut x4 ?_ ?_
    · subst x4
      refine Eff.ite ?_ ?_
      · refine (State.logEvent_eff ..).step rfl ?_
        assumption
      · assumption
    intro hx
    clear_value x4
    refine (State.stageEnd_eff ..).step rfl ?_
    refine (State.updBoot_eff ..).step rfl ?_
    assumption

theorem State.bootConfig_eff : ∀ s a b ia ib debugUnlock, Eff 111669152008 s (State.bootConfig s a b ia ib debugUnlock) := by
  intro s a b ia ib debugUnlock
  unfold State.bootConfig
  extract_lets +onlyGivenNames x0
  clear_value x0
  extract_lets +onlyGivenNames x1
  clear_value x1
  split
  · refine (State.bootFail_eff ..).step rfl ?_
    exact Eff.refl ..
  · extract_lets +onlyGivenNames x2
    clear_value x2
    extract_lets +onlyGivenNames x3
    clear_value x3
    extract_lets +onlyGivenNames x4
    refine Eff.cut x4 ?_ ?_
    · subst x4
      refine (State.wr_eff ..).step rfl ?_
      refine (State.wr_eff ..).step rfl ?_
      exact (State.wr_eff ..).mono rfl
    intro hx
    clear_value x4
    extract_lets +onlyGivenNames x5
    refine Eff.cut x5 ?_ ?_
    · subst x5
      refine (State.wr_eff ..).step rfl ?_
      assumption
    intro hx
    clear_value x5
    extract_lets +onlyGivenNames x6
    refine Eff.cut x6 ?_ ?_
    · subst x6
      refine Eff.ite ?_ ?_
      · refine (State.logEvent_eff ..).step rfl ?_
        assumption
      · assumption
    intro hx
    clear_value x6
    extract_lets +onlyGivenNames x7
    refine Eff.cut x7 ?_ ?_
    · subst x7
      refine Eff.ite ?_ ?_
      · refine (State.logEvent_eff ..).step rfl ?_
        assumption
      · assumption
    intro hx
    clear_value x7
    extract_lets +onlyGivenNames x8
    clear_value x8
    extract_lets +onlyGivenNames x9
    refine Eff.cut x9 ?_ ?_
    · subst x9
      refine (State.updBoot_eff ..).step rfl ?_
      refine (State.updFaults_eff ..).step rfl ?_
      assumption
    intro hx
    clear_value x9
    refine Eff.ite ?_ ?_
    · refine (State.stageEnd_eff ..).step rfl ?_
      assumption
    · refine (State.bootFail_eff ..).step rfl ?_
      assumption

theorem State.loadAge_eff : ∀ s q, Eff 8 s (State.loadAge s q) := by
  intro s q
  unfold State.loadAge
  split
  · refine (State.wr_eff ..).step rfl ?_
    exact (State.wr_eff ..).mono rfl
  · refine (State.wr_eff ..).step rfl ?_
    exact (State.wr_eff ..).mono rfl

theorem State.bootLoad_eff : ∀ s, Eff 4429199368 s (State.bootLoad s) := by
  intro s
  unfold State.bootLoad
  extract_lets +onlyGivenNames x0
  clear_value x0
  extract_lets +onlyGivenNames x1
  refine Eff.cut x1 ?_ ?_
  · subst x1
    refine Eff.foldl ?_ ?_
    · intro a2
      intro a3
      exact (State.loadReg_eff ..).mono rfl
    · exact Eff.refl ..
  intro hx
  clear_value x1
  extract_lets +onlyGivenNames x4
  refine Eff.cut x4 ?_ ?_
  · subst x4
    iterate 4 refine (State.wr_eff ..).step rfl ?_
    assumption
  intro hx
  clear_value x4
  extract_lets +onlyGivenNames x5
  refine Eff.cut x5 ?_ ?_
  · subst x5
    refine Eff.foldl ?_ ?_
    · intro a6
      intro a7
      exact (State.wr_eff ..).mono rfl
    · assumption
  intro hx
  clear_value x5
  extract_lets +onlyGivenNames x8
  refine Eff.cut x8 ?_ ?_
  · subst x8
    refine Eff.foldl ?_ ?_
    · intro a9
      intro a10
      exact (State.wr_eff ..).mono rfl
    · assumption
  intro hx
  clear_value x8
  extract_lets +onlyGivenNames x11
  refine Eff.cut x11 ?_ ?_
  · subst x11
    refine Eff.foldl ?_ ?_
    · intro a12
      intro a13
      exact (State.showRetired_eff ..).mono rfl
    · assumption
  intro hx
  clear_value x11
  extract_lets +onlyGivenNames x14
  refine Eff.cut x14 ?_ ?_
  · subst x14
    refine Eff.foldl ?_ ?_
    · intro a15
      intro a16
      exact (State.wr_eff ..).mono rfl
    · assumption
  intro hx
  clear_value x14
  extract_lets +onlyGivenNames x17
  refine Eff.cut x17 ?_ ?_
  · subst x17
    refine Eff.foldl ?_ ?_
    · intro a18
      intro a19
      exact (State.loadAge_eff ..).mono rfl
    · assumption
  intro hx
  clear_value x17
  extract_lets +onlyGivenNames x20
  refine Eff.cut x20 ?_ ?_
  · subst x20
    refine Eff.foldl ?_ ?_
    · intro a21
      intro a22
      exact (State.wr_eff ..).mono rfl
    · assumption
  intro hx
  clear_value x20
  extract_lets +onlyGivenNames x23
  refine Eff.cut x23 ?_ ?_
  · subst x23
    refine (State.wr_eff ..).step rfl ?_
    assumption
  intro hx
  clear_value x23
  extract_lets +onlyGivenNames x24
  clear_value x24
  extract_lets +onlyGivenNames x25
  refine Eff.cut x25 ?_ ?_
  · subst x25
    refine Eff.foldl ?_ ?_
    · intro a26
      intro a27
      refine Eff.foldl ?_ ?_
      · intro a28
        intro a29
        exact (State.setCluster_eff ..).mono rfl
      · refine (State.setPart_eff ..).step rfl ?_
        exact (State.wr_eff ..).mono rfl
    · assumption
  intro hx
  clear_value x25
  extract_lets +onlyGivenNames x30
  refine Eff.cut x30 ?_ ?_
  · subst x30
    refine Eff.foldl ?_ ?_
    · intro a31
      intro a32
      refine Eff.ite ?_ ?_
      · exact Eff.refl ..
      · refine (State.wr_eff ..).step rfl ?_
        exact (State.putTrees_eff ..).mono rfl
    · assumption
  intro hx
  clear_value x30
  refine (State.stageEnd_eff ..).step rfl ?_
  refine (State.wr_eff ..).step rfl ?_
  refine (State.updFab_eff ..).step rfl ?_
  assumption

theorem State.trainBins_eff : ∀ s bin failed, Eff 34359738368 s (State.trainBins s bin failed).1 := by
  intro s bin failed
  induction failed generalizing s bin with
  | nil =>
    rw [State.trainBins]
    refine Eff.pair_fst ?_
    exact Eff.refl ..
  | cons b r ih =>
    rw [State.trainBins]
    refine Eff.ite_fst ?_ ?_
    · refine Eff.pair_fst ?_
      exact Eff.refl ..
    · refine Eff.ite_fst ?_ ?_
      · refine Eff.pair_fst ?_
        exact Eff.refl ..
      · refine (ih ..).step rfl ?_
        exact (State.logEvent_eff ..).mono rfl

theorem State.bootMemory_eff : ∀ s failed, Eff 111669152008 s (State.bootMemory s failed) := by
  intro s failed
  unfold State.bootMemory
  split
  · refine (State.bootFail_eff ..).step rfl ?_
    refine Eff.of_fst ‹_ = (_, _)› ?_
    exact (State.trainBins_eff ..).mono rfl
  · extract_lets +onlyGivenNames x0
    refine Eff.cut x0 ?_ ?_
    · subst x0
      refine Eff.foldl ?_ ?_
      · intro a1
        intro a2
        refine (State.logRetire_eff ..).step rfl ?_
        refine (State.incSat_eff ..).step rfl ?_
        refine (State.markRetired_eff ..).step rfl ?_
        refine (State.wr_eff ..).step rfl ?_
        exact (State.raise_eff ..).mono rfl
      · refine Eff.of_fst ‹_ = (_, _)› ?_
        exact (State.trainBins_eff ..).mono rfl
    intro hx
    clear_value x0
    extract_lets +onlyGivenNames x3
    clear_value x3
    extract_lets +onlyGivenNames x4
    refine Eff.cut x4 ?_ ?_
    · subst x4
      refine Eff.foldl ?_ ?_
      · intro a5
        intro a6
        exact (State.wr_eff ..).mono rfl
      · assumption
    intro hx
    clear_value x4
    extract_lets +onlyGivenNames x7
    refine Eff.cut x7 ?_ ?_
    · subst x7
      refine Eff.foldl ?_ ?_
      · intro a8
        intro a9
        exact (State.wr_eff ..).mono rfl
      · assumption
    intro hx
    clear_value x7
    refine (State.stageEnd_eff ..).step rfl ?_
    refine (State.wr_eff ..).step rfl ?_
    refine (State.wr_eff ..).step rfl ?_
    assumption

theorem State.bootZero_eff : ∀ s, Eff 1099511628296 s (State.bootZero s) := by
  intro s
  unfold State.bootZero
  refine (State.stageEnd_eff ..).step rfl ?_
  exact Eff.step (State.updMem_cells_eff _ _ fun _ h => rfl) rfl (Eff.refl ..)

theorem State.bootFlash_eff : ∀ s ok trained, Eff 111669152776 s (State.bootFlash s ok trained) := by
  intro s ok trained
  unfold State.bootFlash
  refine Eff.ite ?_ ?_
  · exact (State.bootFail_eff ..).mono rfl
  · extract_lets +onlyGivenNames x0
    refine Eff.cut x0 ?_ ?_
    · subst x0
      refine Eff.foldl ?_ ?_
      · intro a1
        intro a2
        exact (State.wr_eff ..).mono rfl
      · exact Eff.refl ..
    intro hx
    clear_value x0
    extract_lets +onlyGivenNames x3
    clear_value x3
    extract_lets +onlyGivenNames x4
    clear_value x4
    refine (State.stageEnd_eff ..).step rfl ?_
    refine (State.putFlash_eff ..).step rfl ?_
    assumption

theorem State.bootTest_eff : ∀ s failed bufferOk, Eff 111669152008 s (State.bootTest s failed bufferOk) := by
  intro s failed bufferOk
  unfold State.bootTest
  refine Eff.ite ?_ ?_
  · refine (State.bootFail_eff ..).step rfl ?_
    exact Eff.refl ..
  · refine (State.stageEnd_eff ..).step rfl ?_
    refine Eff.foldl ?_ ?_
    · intro a0
      intro a1
      refine (State.retireNow_eff ..).step rfl ?_
      exact (State.raise_eff ..).mono rfl
    · exact Eff.refl ..

theorem State.setTime_eff : ∀ s offset, Eff 68719476740 s (State.setTime s offset) := by
  intro s offset
  unfold State.setTime
  extract_lets +onlyGivenNames x0
  clear_value x0
  extract_lets +onlyGivenNames x1
  clear_value x1
  refine (State.updBoot_eff ..).step rfl ?_
  exact (State.putNow_eff ..).mono rfl

theorem State.bootTime_eff : ∀ s offset, Eff 73014444044 s (State.bootTime s offset) := by
  intro s offset
  unfold State.bootTime
  split
  · exact Eff.refl ..
  · refine (State.stageEnd_eff ..).step rfl ?_
    refine (State.wr_eff ..).step rfl ?_
    refine (State.updFab_eff ..).step rfl ?_
    refine Eff.ite ?_ ?_
    · exact Eff.refl ..
    · refine (State.setTime_eff ..).step rfl ?_
      exact Eff.refl ..

theorem State.bootReady_eff : ∀ s, Eff 68719487000 s (State.bootReady s) := by
  intro s
  unfold State.bootReady
  extract_lets +onlyGivenNames x0
  refine Eff.cut x0 ?_ ?_
  · subst x0
    refine Eff.foldl ?_ ?_
    · intro a1
      intro a2
      exact (State.leaveReset_eff ..).mono rfl
    · exact Eff.refl ..
  intro hx
  clear_value x0
  extract_lets +onlyGivenNames x3
  refine Eff.cut x3 ?_ ?_
  · subst x3
    refine Eff.foldl ?_ ?_
    · intro a4
      intro a5
      refine Eff.foldl ?_ ?_
      · intro a6
        intro a7
        exact (State.setCluster_eff ..).mono rfl
      · exact Eff.refl ..
    · assumption
  intro hx
  clear_value x3
  extract_lets +onlyGivenNames x8
  refine Eff.cut x8 ?_ ?_
  · subst x8
    refine (State.updHost_eff ..).step rfl ?_
    refine (State.wr_eff ..).step rfl ?_
    assumption
  intro hx
  clear_value x8
  refine (State.stageEnd_eff ..).step rfl ?_
  refine (State.updBoot_eff ..).step rfl ?_
  assumption

theorem State.stageDone_eff : ∀ s r, Eff 1215609978652 s (State.stageDone s r) := by
  intro s r
  unfold State.stageDone
  refine Eff.ite ?_ ?_
  · exact Eff.refl ..
  · split
    · refine (State.stageEnd_eff ..).step rfl ?_
      exact Eff.refl ..
    · refine (State.bootPuf_eff ..).step rfl ?_
      exact Eff.refl ..
    · refine (State.bootKeyCheck_eff ..).step rfl ?_
      exact Eff.refl ..
    · refine (State.bootHeader_eff ..).step rfl ?_
      exact Eff.refl ..
    · refine (State.bootRecords_eff ..).step rfl ?_
      exact Eff.refl ..
    · refine (State.stageEnd_eff ..).step rfl ?_
      refine (State.wr_eff ..).step rfl ?_
      refine (State.wr_eff ..).step rfl ?_
      exact (State.updHost_eff ..).mono rfl
    · refine (State.bootFirmware_eff ..).step rfl ?_
      exact Eff.refl ..
    · refine (State.stageEnd_eff ..).step rfl ?_
      exact Eff.refl ..
    · refine (State.bootConfig_eff ..).step rfl ?_
      exact Eff.refl ..
    · refine (State.bootLoad_eff ..).step rfl ?_
      exact Eff.refl ..
    · refine (State.stageEnd_eff ..).step rfl ?_
      refine (State.trainPorts_eff ..).step rfl ?_
      exact (State.updPower_eff ..).mono rfl
    · refine (State.stageEnd_eff ..).step rfl ?_
      exact (State.updBoot_eff ..).mono rfl
    · refine (State.bootMemory_eff ..).step rfl ?_
      exact Eff.refl ..
    · refine (State.bootZero_eff ..).step rfl ?_
      exact Eff.refl ..
    · refine (State.bootFlash_eff ..).step rfl ?_
      exact Eff.refl ..
    · refine (State.bootTest_eff ..).step rfl ?_
      exact Eff.refl ..
    · refine (State.bootTime_eff ..).step rfl ?_
      exact Eff.refl ..
    · refine (State.bootReady_eff ..).step rfl ?_
      exact Eff.refl ..
    · exact Eff.refl ..

theorem execStartupStageDone_eff : ∀ r s, OutEff 1215609978652 s (execStartupStageDone r s) := by
  intro r s
  unfold execStartupStageDone
  refine OutEff.next ?_
  exact (State.stageDone_eff ..).mono rfl

theorem execStartupFailure_eff : ∀ reason s, OutEff 111669151752 s (execStartupFailure reason s) := by
  intro reason s
  unfold execStartupFailure
  refine OutEff.next ?_
  refine Eff.ite ?_ ?_
  · refine (State.bootFail_eff ..).step rfl ?_
    exact Eff.refl ..
  · exact Eff.refl ..

theorem State.bootTimeout_eff : ∀ s, Eff 111669151752 s (State.bootTimeout s) := by
  intro s
  unfold State.bootTimeout
  refine Eff.ite ?_ ?_
  · refine (State.bootFail_eff ..).step rfl ?_
    exact Eff.refl ..
  · exact Eff.refl ..

theorem execStartupTimeout_eff : ∀ s, OutEff 111669151752 s (execStartupTimeout s) := by
  intro s
  unfold execStartupTimeout
  refine OutEff.next ?_
  exact (State.bootTimeout_eff ..).mono rfl

theorem State.timeWaitExpire_eff : ∀ s, Eff 68719487256 s (State.timeWaitExpire s) := by
  intro s
  unfold State.timeWaitExpire
  refine Eff.ite ?_ ?_
  · refine (State.bootReady_eff ..).step rfl ?_
    refine (State.stageEnd_eff ..).step rfl ?_
    refine (State.raise_eff ..).step rfl ?_
    exact (State.wr_eff ..).mono rfl
  · exact Eff.refl ..

theorem execStartupTimeWaitExpire_eff : ∀ s, OutEff 68719487256 s (execStartupTimeWaitExpire s) := by
  intro s
  unfold execStartupTimeWaitExpire
  refine OutEff.next ?_
  exact (State.timeWaitExpire_eff ..).mono rfl

end Sys2Proof.Machine
end

