-- ==== Sys2Proof/Laws/Security.lean ====
section
/-! SUPPORT. What each operation of Machine/Security.lean can change, in the terms of Laws/Eff.lean: one lemma an operation. -/

namespace Sys2Proof.Machine

theorem State.updSec_eff : ∀ s f, Eff 137438953472 s (State.updSec s f) := by
  intro s f
  unfold State.updSec
  exact (State.putSec_eff ..).mono rfl

theorem State.answer_eff : ∀ s a, Eff 137438953472 s (State.answer s a) := by
  intro s a
  unfold State.answer
  exact (State.updSec_eff ..).mono rfl

theorem State.managed_eff {k : Nat} {s0 s : State} {f : State → State} (hk : subMask 137438953472 k = true) (h : Eff k s0 s)
    (hf : ∀ s, Eff k s0 s → Eff k s0 (f s)) : Eff k s0 (s.managed f) := by
  unfold State.managed
  exact Eff.ite (((State.answer_eff ..).mono rfl).step hk h) (hf _ h)

theorem State.spdm_eff {k : Nat} {s0 s : State} {f : State → State} (hk : subMask 137438953472 k = true) (h : Eff k s0 s)
    (hf : ∀ s, Eff k s0 s → Eff k s0 (f s)) : Eff k s0 (s.spdm f) := by
  unfold State.spdm
  exact State.managed_eff hk h fun s h => Eff.ite (((State.answer_eff ..).mono rfl).step hk h) (hf _ h)

theorem State.getVersion_eff : ∀ s, Eff 137438953472 s (State.getVersion s) := by
  intro s
  unfold State.getVersion
  refine State.managed_eff rfl ?_ ?_
  · exact Eff.refl ..
  · intro a0
    intro hx
    refine (State.answer_eff ..).step rfl ?_
    refine (State.updSec_eff ..).step rfl ?_
    assumption

theorem execGetVersion_eff : ∀ s, OutEff 137438953472 s (execGetVersion s) := by
  intro s
  unfold execGetVersion
  refine OutEff.next ?_
  exact (State.getVersion_eff ..).mono rfl

theorem State.getCapabilities_eff : ∀ s, Eff 137438953472 s (State.getCapabilities s) := by
  intro s
  unfold State.getCapabilities
  refine State.managed_eff rfl ?_ ?_
  · exact Eff.refl ..
  · intro a0
    intro hx
    refine Eff.ite ?_ ?_
    · refine (State.answer_eff ..).step rfl ?_
      assumption
    · refine (State.answer_eff ..).step rfl ?_
      refine (State.updSec_eff ..).step rfl ?_
      assumption

theorem execGetCapabilities_eff : ∀ s, OutEff 137438953472 s (execGetCapabilities s) := by
  intro s
  unfold execGetCapabilities
  refine OutEff.next ?_
  exact (State.getCapabilities_eff ..).mono rfl

theorem State.negotiate_eff : ∀ s asym hash, Eff 137438953472 s (State.negotiate s asym hash) := by
  intro s asym hash
  unfold State.negotiate
  refine State.managed_eff rfl ?_ ?_
  · exact Eff.refl ..
  · intro a0
    intro hx
    refine Eff.ite ?_ ?_
    · refine (State.answer_eff ..).step rfl ?_
      assumption
    · refine Eff.ite ?_ ?_
      · refine (State.answer_eff ..).step rfl ?_
        assumption
      · refine (State.answer_eff ..).step rfl ?_
        refine (State.updSec_eff ..).step rfl ?_
        assumption

theorem execNegotiateAlgorithms_eff : ∀ asym hash s, OutEff 137438953472 s (execNegotiateAlgorithms asym hash s) := by
  intro asym hash s
  unfold execNegotiateAlgorithms
  refine OutEff.next ?_
  exact (State.negotiate_eff ..).mono rfl

theorem State.getDigests_eff : ∀ s slot, Eff 137438953472 s (State.getDigests s slot) := by
  intro s slot
  unfold State.getDigests
  refine State.spdm_eff rfl ?_ ?_
  · exact Eff.refl ..
  · intro a0
    intro hx
    refine Eff.ite ?_ ?_
    · refine (State.answer_eff ..).step rfl ?_
      assumption
    · refine (State.answer_eff ..).step rfl ?_
      assumption

theorem execGetDigests_eff : ∀ slot s, OutEff 137438953472 s (execGetDigests slot s) := by
  intro slot s
  unfold execGetDigests
  refine OutEff.next ?_
  exact (State.getDigests_eff ..).mono rfl

theorem State.getCertificate_eff : ∀ s slot offset length key, Eff 137438953472 s (State.getCertificate s slot offset length key) := by
  intro s slot offset length key
  unfold State.getCertificate
  refine State.spdm_eff rfl ?_ ?_
  · exact Eff.refl ..
  · intro a0
    intro hx
    refine Eff.ite ?_ ?_
    · refine (State.answer_eff ..).step rfl ?_
      assumption
    · refine Eff.ite ?_ ?_
      · refine (State.answer_eff ..).step rfl ?_
        assumption
      · refine (State.answer_eff ..).step rfl ?_
        assumption

theorem execGetCertificate_eff : ∀ slot offset length certKey s, OutEff 137438953472 s (execGetCertificate slot offset length certKey s) := by
  intro slot offset length certKey s
  unfold execGetCertificate
  refine OutEff.next ?_
  exact (State.getCertificate_eff ..).mono rfl

theorem State.sign_eff : ∀ s msg, Eff 2 s (State.sign s msg).2 := by
  intro s msg
  unfold State.sign
  dsimp -zeta only
  exact (State.putFreeCtr_eff ..).mono rfl

theorem State.challenge_eff : ∀ s slot nonce, Eff 137438953474 s (State.challenge s slot nonce) := by
  intro s slot nonce
  unfold State.challenge
  refine State.spdm_eff rfl ?_ ?_
  · exact Eff.refl ..
  · intro a0
    intro hx
    refine Eff.ite ?_ ?_
    · refine (State.answer_eff ..).step rfl ?_
      assumption
    · extract_lets +onlyGivenNames x1
      clear_value x1
      extract_lets +onlyGivenNames x2
      refine Eff.cut x2.2 ?_ ?_
      · subst x2
        refine (State.sign_eff ..).step rfl ?_
        assumption
      intro hx
      clear_value x2
      refine (State.answer_eff ..).step rfl ?_
      assumption

theorem execChallenge_eff : ∀ slot nonce s, OutEff 137438953474 s (execChallenge slot nonce s) := by
  intro slot nonce s
  unfold execChallenge
  refine OutEff.next ?_
  exact (State.challenge_eff ..).mono rfl

theorem State.getMeasurements_eff : ∀ s i nonce, Eff 137438953474 s (State.getMeasurements s i nonce) := by
  intro s i nonce
  unfold State.getMeasurements
  refine State.spdm_eff rfl ?_ ?_
  · exact Eff.refl ..
  · intro a0
    intro hx
    refine Eff.ite ?_ ?_
    · refine (State.answer_eff ..).step rfl ?_
      assumption
    · extract_lets +onlyGivenNames x1
      clear_value x1
      extract_lets +onlyGivenNames x2
      refine Eff.cut x2.2 ?_ ?_
      · subst x2
        refine (State.sign_eff ..).step rfl ?_
        assumption
      intro hx
      clear_value x2
      refine (State.answer_eff ..).step rfl ?_
      assumption

theorem execGetMeasurements_eff : ∀ index nonce s, OutEff 137438953474 s (execGetMeasurements index nonce s) := by
  intro index nonce s
  unfold execGetMeasurements
  refine OutEff.next ?_
  exact (State.getMeasurements_eff ..).mono rfl

theorem State.keyExchange_eff : ∀ s n dhe, Eff 137438953472 s (State.keyExchange s n dhe) := by
  intro s n dhe
  unfold State.keyExchange
  refine State.spdm_eff rfl ?_ ?_
  · exact Eff.refl ..
  · intro a0
    intro hx
    refine Eff.ite ?_ ?_
    · refine (State.answer_eff ..).step rfl ?_
      assumption
    · refine (State.answer_eff ..).step rfl ?_
      refine (State.updSec_eff ..).step rfl ?_
      assumption

theorem execKeyExchange_eff : ∀ session dhe s, OutEff 137438953472 s (execKeyExchange session dhe s) := by
  intro session dhe s
  unfold execKeyExchange
  refine OutEff.next ?_
  exact (State.keyExchange_eff ..).mono rfl

theorem State.finish_eff : ∀ s n, Eff 137438953472 s (State.finish s n) := by
  intro s n
  unfold State.finish
  refine State.spdm_eff rfl ?_ ?_
  · exact Eff.refl ..
  · intro a0
    intro hx
    refine Eff.ite ?_ ?_
    · refine (State.answer_eff ..).step rfl ?_
      refine (State.updSec_eff ..).step rfl ?_
      assumption
    · refine (State.answer_eff ..).step rfl ?_
      assumption

theorem execFinish_eff : ∀ session s, OutEff 137438953472 s (execFinish session s) := by
  intro session s
  unfold execFinish
  refine OutEff.next ?_
  exact (State.finish_eff ..).mono rfl

theorem State.endSession_eff : ∀ s n, Eff 137438953472 s (State.endSession s n) := by
  intro s n
  unfold State.endSession
  refine State.spdm_eff rfl ?_ ?_
  · exact Eff.refl ..
  · intro a0
    intro hx
    refine Eff.ite ?_ ?_
    · refine (State.answer_eff ..).step rfl ?_
      refine (State.updSec_eff ..).step rfl ?_
      assumption
    · refine (State.answer_eff ..).step rfl ?_
      assumption

theorem execEndSession_eff : ∀ session s, OutEff 137438953472 s (execEndSession session s) := by
  intro session s
  unfold execEndSession
  refine OutEff.next ?_
  exact (State.endSession_eff ..).mono rfl

theorem State.mirrorBatch_eff : ∀ s, Eff 8 s (State.mirrorBatch s) := by
  intro s
  unfold State.mirrorBatch
  refine (State.wr_eff ..).step rfl ?_
  exact (State.wr_eff ..).mono rfl

theorem State.closeBatch_eff : ∀ s, Eff 137438953480 s (State.closeBatch s) := by
  intro s
  unfold State.closeBatch
  refine Eff.ite ?_ ?_
  · exact Eff.refl ..
  · extract_lets +onlyGivenNames x0
    clear_value x0
    refine (State.mirrorBatch_eff ..).step rfl ?_
    refine (State.inc_eff ..).step rfl ?_
    exact (State.updSec_eff ..).mono rfl

theorem State.addLeaf_eff : ∀ s x, Eff 137438953480 s (State.addLeaf s x) := by
  intro s x
  unfold State.addLeaf
  extract_lets +onlyGivenNames x0
  refine Eff.cut x0 ?_ ?_
  · subst x0
    refine (State.mirrorBatch_eff ..).step rfl ?_
    exact (State.updSec_eff ..).mono rfl
  intro hx
  clear_value x0
  refine Eff.ite ?_ ?_
  · refine (State.closeBatch_eff ..).step rfl ?_
    assumption
  · assumption

theorem State.batchTimeout_eff : ∀ s, Eff 137438953480 s (State.batchTimeout s) := by
  intro s
  unfold State.batchTimeout
  refine Eff.ite ?_ ?_
  · refine (State.closeBatch_eff ..).step rfl ?_
    exact Eff.refl ..
  · exact Eff.refl ..

theorem execBatchCloseTimeout_eff : ∀ s, OutEff 137438953480 s (execBatchCloseTimeout s) := by
  intro s
  unfold execBatchCloseTimeout
  refine OutEff.next ?_
  exact (State.batchTimeout_eff ..).mono rfl

theorem State.trimStore_eff : ∀ s fuel, Eff 137438953472 s (State.trimStore s fuel) := by
  intro s fuel
  induction fuel generalizing s with
  | zero =>
    rw [State.trimStore]
    exact Eff.refl ..
  | succ n ih =>
    rw [State.trimStore]
    refine Eff.ite ?_ ?_
    · exact Eff.refl ..
    · split
      · exact Eff.refl ..
      · refine (ih ..).step rfl ?_
        exact (State.updSec_eff ..).mono rfl

theorem State.digestDone_eff : ∀ s k b i x, Eff 1133853425498 s (State.digestDone s k b i x) := by
  intro s k b i x
  unfold State.digestDone
  extract_lets +onlyGivenNames x0
  clear_value x0
  split
  · exact Eff.refl ..
  · refine Eff.ite ?_ ?_
    · refine (State.endReq_eff ..).step rfl ?_
      exact Eff.refl ..
    · refine (State.endReq_eff ..).step rfl ?_
      exact (State.putOut_eff ..).mono rfl

theorem State.digestRead_eff : ∀ s k, Eff 1271292378970 s (State.digestRead s k) := by
  intro s k
  unfold State.digestRead
  split
  · exact Eff.refl ..
  · refine Eff.ite ?_ ?_
    · exact Eff.refl ..
    · extract_lets +onlyGivenNames x0
      clear_value x0
      refine Eff.ite ?_ ?_
      · refine (State.updSec_eff ..).step rfl ?_
        exact (State.updReq_eff ..).mono rfl
      · split
        · refine (State.digestDone_eff ..).step rfl ?_
          exact Eff.refl ..
        · refine (State.endReq_eff ..).step rfl ?_
          exact Eff.refl ..

theorem execOpDigestRead_eff : ∀ client req s, OutEff 1271292378970 s (execOpDigestRead client req s) := by
  intro client req s
  unfold execOpDigestRead
  refine OutEff.next ?_
  exact (State.digestRead_eff ..).mono rfl

theorem State.batchSigned_eff : ∀ s, Eff 1271292378970 s (State.batchSigned s) := by
  intro s
  unfold State.batchSigned
  split
  · exact Eff.refl ..
  · extract_lets +onlyGivenNames x0
    refine Eff.cut x0.2 ?_ ?_
    · subst x0
      exact (State.sign_eff ..).mono rfl
    intro hx
    clear_value x0
    extract_lets +onlyGivenNames x1
    clear_value x1
    extract_lets +onlyGivenNames x2
    refine Eff.cut x2 ?_ ?_
    · subst x2
      refine (State.updSec_eff ..).step rfl ?_
      assumption
    intro hx
    clear_value x2
    extract_lets +onlyGivenNames x3
    refine Eff.cut x3 ?_ ?_
    · subst x3
      refine (State.mirrorBatch_eff ..).step rfl ?_
      refine (State.trimStore_eff ..).step rfl ?_
      refine (State.inc_eff ..).step rfl ?_
      assumption
    intro hx
    clear_value x3
    extract_lets +onlyGivenNames x4
    refine Eff.cut x4 ?_ ?_
    · subst x4
      refine (State.updSec_eff ..).step rfl ?_
      assumption
    intro hx
    clear_value x4
    extract_lets +onlyGivenNames x5
    clear_value x5
    extract_lets +onlyGivenNames x6
    refine Eff.cut x6 ?_ ?_
    · subst x6
      refine (State.wr_eff ..).step rfl ?_
      assumption
    intro hx
    clear_value x6
    extract_lets +onlyGivenNames x7
    clear_value x7
    extract_lets +onlyGivenNames x8
    refine Eff.cut x8 ?_ ?_
    · subst x8
      refine (State.updSec_eff ..).step rfl ?_
      assumption
    intro hx
    clear_value x8
    refine Eff.foldl ?_ ?_
    · intro a9
      intro a10
      split
      · refine (State.digestDone_eff ..).step rfl ?_
        exact Eff.refl ..
      · refine (State.endReq_eff ..).step rfl ?_
        exact Eff.refl ..
    · assumption

theorem execBatchSigned_eff : ∀ s, OutEff 1271292378970 s (execBatchSigned s) := by
  intro s
  unfold execBatchSigned
  refine OutEff.next ?_
  exact (State.batchSigned_eff ..).mono rfl

theorem State.updUpd_eff : ∀ s f, Eff 274877906944 s (State.updUpd s f) := by
  intro s f
  unfold State.updUpd
  exact (State.putUpd_eff ..).mono rfl

theorem State.pldm_eff {k : Nat} {s0 s : State} {f : State → State} (hk : subMask 137438953472 k = true) (h : Eff k s0 s)
    (hf : ∀ s, Eff k s0 s → Eff k s0 (f s)) : Eff k s0 (s.pldm f) := by
  unfold State.pldm
  exact Eff.ite (((State.answer_eff ..).mono rfl).step hk h) (hf _ h)

theorem State.queryIds_eff : ∀ s, Eff 137438953472 s (State.queryIds s) := by
  intro s
  unfold State.queryIds
  refine State.pldm_eff rfl ?_ ?_
  · exact Eff.refl ..
  · intro a0
    intro hx
    refine (State.answer_eff ..).step rfl ?_
    assumption

theorem execQueryDeviceIdentifiers_eff : ∀ s, OutEff 137438953472 s (execQueryDeviceIdentifiers s) := by
  intro s
  unfold execQueryDeviceIdentifiers
  refine OutEff.next ?_
  exact (State.queryIds_eff ..).mono rfl

theorem State.fwParams_eff : ∀ s, Eff 137438953472 s (State.fwParams s) := by
  intro s
  unfold State.fwParams
  refine State.pldm_eff rfl ?_ ?_
  · exact Eff.refl ..
  · intro a0
    intro hx
    refine (State.answer_eff ..).step rfl ?_
    assumption

theorem execGetFirmwareParameters_eff : ∀ s, OutEff 137438953472 s (execGetFirmwareParameters s) := by
  intro s
  unfold execGetFirmwareParameters
  refine OutEff.next ?_
  exact (State.fwParams_eff ..).mono rfl

theorem State.requestUpdate_eff : ∀ s c digest, Eff 446676598792 s (State.requestUpdate s c digest) := by
  intro s c digest
  unfold State.requestUpdate
  refine State.pldm_eff rfl ?_ ?_
  · exact Eff.refl ..
  · intro a0
    intro hx
    refine Eff.ite ?_ ?_
    · refine (State.answer_eff ..).step rfl ?_
      assumption
    · refine Eff.ite ?_ ?_
      · refine (State.answer_eff ..).step rfl ?_
        assumption
      · extract_lets +onlyGivenNames x1
        extract_lets +onlyGivenNames x2
        clear_value x2
        extract_lets +onlyGivenNames x3
        refine Eff.cut x3 ?_ ?_
        · subst x3
          refine (State.updUpd_eff ..).step rfl ?_
          assumption
        intro hx
        clear_value x3
        extract_lets +onlyGivenNames x4
        refine Eff.cut x4 ?_ ?_
        · subst x4
          refine (State.wr_eff ..).step rfl ?_
          refine (State.wr_eff ..).step rfl ?_
          assumption
        intro hx
        clear_value x4
        extract_lets +onlyGivenNames x5
        refine Eff.cut x5 ?_ ?_
        · subst x5
          refine Eff.ite ?_ ?_
          · refine (State.updNor_eff ..).step rfl ?_
            assumption
          · assumption
        intro hx
        clear_value x5
        refine (State.answer_eff ..).step rfl ?_
        assumption

theorem execRequestUpdate_eff : ∀ component digest s, OutEff 446676598792 s (execRequestUpdate component digest s) := by
  intro component digest s
  unfold execRequestUpdate
  refine OutEff.next ?_
  exact (State.requestUpdate_eff ..).mono rfl

theorem State.passTable_eff : ∀ s c svn, Eff 412316860416 s (State.passTable s c svn) := by
  intro s c svn
  unfold State.passTable
  refine State.pldm_eff rfl ?_ ?_
  · exact Eff.refl ..
  · intro a0
    intro hx
    refine Eff.ite ?_ ?_
    · refine (State.answer_eff ..).step rfl ?_
      assumption
    · split
      · refine (State.answer_eff ..).step rfl ?_
        assumption
      · refine (State.answer_eff ..).step rfl ?_
        refine (State.updUpd_eff ..).step rfl ?_
        assumption

theorem execPassComponentTable_eff : ∀ component svn s, OutEff 412316860416 s (execPassComponentTable component svn s) := by
  intro component svn s
  unfold execPassComponentTable
  refine OutEff.next ?_
  exact (State.passTable_eff ..).mono rfl

theorem State.verifyComponent_eff : ∀ s c data, Eff 412316860424 s (State.verifyComponent s c data) := by
  intro s c data
  unfold State.verifyComponent
  extract_lets +onlyGivenNames x0
  clear_value x0
  extract_lets +onlyGivenNames x1
  clear_value x1
  extract_lets +onlyGivenNames x2
  clear_value x2
  extract_lets +onlyGivenNames x3
  refine Eff.cut x3 ?_ ?_
  · subst x3
    exact (State.updUpd_eff ..).mono rfl
  intro hx
  clear_value x3
  extract_lets +onlyGivenNames x4
  refine Eff.cut x4 ?_ ?_
  · subst x4
    refine (State.wr_eff ..).step rfl ?_
    refine (State.answer_eff ..).step rfl ?_
    refine (State.answer_eff ..).step rfl ?_
    assumption
  intro hx
  clear_value x4
  refine Eff.ite ?_ ?_
  · refine (State.answer_eff ..).step rfl ?_
    assumption
  · assumption

theorem State.updateComponent_eff : ∀ s c svn, Eff 412316860424 s (State.updateComponent s c svn) := by
  intro s c svn
  unfold State.updateComponent
  refine State.pldm_eff rfl ?_ ?_
  · exact Eff.refl ..
  · intro a0
    intro a1
    refine Eff.ite ?_ ?_
    · refine (State.answer_eff ..).step rfl ?_
      assumption
    · split
      · refine (State.answer_eff ..).step rfl ?_
        assumption
      · extract_lets +onlyGivenNames x2
        refine Eff.cut x2 ?_ ?_
        · subst x2
          refine (State.wr_eff ..).step rfl ?_
          refine (State.updUpd_eff ..).step rfl ?_
          assumption
        intro hx
        clear_value x2
        extract_lets +onlyGivenNames x3
        refine Eff.cut x3 ?_ ?_
        · subst x3
          refine (State.answer_eff ..).step rfl ?_
          assumption
        intro hx
        clear_value x3
        extract_lets +onlyGivenNames x4
        clear_value x4
        refine Eff.ite ?_ ?_
        · refine (State.verifyComponent_eff ..).step rfl ?_
          assumption
        · refine (State.answer_eff ..).step rfl ?_
          assumption

theorem execUpdateComponent_eff : ∀ component svn s, OutEff 412316860424 s (execUpdateComponent component svn s) := by
  intro component svn s
  unfold execUpdateComponent
  refine OutEff.next ?_
  exact (State.updateComponent_eff ..).mono rfl

theorem State.dataPiece_eff : ∀ s p, Eff 446676598792 s (State.dataPiece s p) := by
  intro s p
  unfold State.dataPiece
  refine State.pldm_eff rfl ?_ ?_
  · exact Eff.refl ..
  · intro a0
    intro a1
    split
    · refine (State.answer_eff ..).step rfl ?_
      assumption
    · extract_lets +onlyGivenNames x2
      clear_value x2
      refine Eff.ite ?_ ?_
      · refine (State.answer_eff ..).step rfl ?_
        assumption
      · extract_lets +onlyGivenNames x3
        clear_value x3
        refine Eff.ite ?_ ?_
        · extract_lets +onlyGivenNames x4
          refine Eff.cut x4 ?_ ?_
          · subst x4
            refine (State.updUpd_eff ..).step rfl ?_
            assumption
          intro hx
          clear_value x4
          extract_lets +onlyGivenNames x5
          refine Eff.cut x5 ?_ ?_
          · subst x5
            refine (State.updNor_eff ..).step rfl ?_
            assumption
          intro hx
          clear_value x5
          extract_lets +onlyGivenNames x6
          refine Eff.cut x6 ?_ ?_
          · subst x6
            refine (State.wr_eff ..).step rfl ?_
            assumption
          intro hx
          clear_value x6
          refine Eff.ite ?_ ?_
          · refine (State.verifyComponent_eff ..).step rfl ?_
            assumption
          · refine (State.answer_eff ..).step rfl ?_
            assumption
        · refine Eff.ite ?_ ?_
          · extract_lets +onlyGivenNames x7
            refine Eff.cut x7 ?_ ?_
            · subst x7
              refine (State.updUpd_eff ..).step rfl ?_
              assumption
            intro hx
            clear_value x7
            refine (State.answer_eff ..).step rfl ?_
            refine (State.wr_eff ..).step rfl ?_
            assumption
          · refine (State.answer_eff ..).step rfl ?_
            refine (State.updUpd_eff ..).step rfl ?_
            assumption

theorem execFirmwareDataPiece_eff : ∀ p s, OutEff 446676598792 s (execFirmwareDataPiece p s) := by
  intro p s
  unfold execFirmwareDataPiece
  refine OutEff.next ?_
  exact (State.dataPiece_eff ..).mono rfl

theorem State.activateFw_eff : ∀ s, Eff 137438953472 s (State.activateFw s) := by
  intro s
  unfold State.activateFw
  refine State.pldm_eff rfl ?_ ?_
  · exact Eff.refl ..
  · intro a0
    intro hx
    refine (State.answer_eff ..).step rfl ?_
    assumption

theorem execActivateFirmware_eff : ∀ s, OutEff 137438953472 s (execActivateFirmware s) := by
  intro s
  unfold execActivateFirmware
  refine OutEff.next ?_
  exact (State.activateFw_eff ..).mono rfl

theorem State.pldmStatus_eff : ∀ s, Eff 137438953472 s (State.pldmStatus s) := by
  intro s
  unfold State.pldmStatus
  refine State.pldm_eff rfl ?_ ?_
  · exact Eff.refl ..
  · intro a0
    intro hx
    refine (State.answer_eff ..).step rfl ?_
    assumption

theorem execGetStatus_eff : ∀ s, OutEff 137438953472 s (execGetStatus s) := by
  intro s
  unfold execGetStatus
  refine OutEff.next ?_
  exact (State.pldmStatus_eff ..).mono rfl

theorem State.stopTransfers_eff : ∀ s, Eff 274877906952 s (State.stopTransfers s) := by
  intro s
  unfold State.stopTransfers
  refine (State.updUpd_eff ..).step rfl ?_
  exact (State.idleTransfers_eff ..).mono rfl

theorem State.cancelComponent_eff : ∀ s, Eff 412316860424 s (State.cancelComponent s) := by
  intro s
  unfold State.cancelComponent
  refine State.pldm_eff rfl ?_ ?_
  · exact Eff.refl ..
  · intro a0
    intro hx
    refine Eff.ite ?_ ?_
    · refine (State.answer_eff ..).step rfl ?_
      refine (State.stopTransfers_eff ..).step rfl ?_
      assumption
    · refine (State.answer_eff ..).step rfl ?_
      assumption

theorem execCancelUpdateComponent_eff : ∀ s, OutEff 412316860424 s (execCancelUpdateComponent s) := by
  intro s
  unfold execCancelUpdateComponent
  refine OutEff.next ?_
  exact (State.cancelComponent_eff ..).mono rfl

theorem State.cancelUpdate_eff : ∀ s, Eff 412316860424 s (State.cancelUpdate s) := by
  intro s
  unfold State.cancelUpdate
  refine State.pldm_eff rfl ?_ ?_
  · exact Eff.refl ..
  · intro a0
    intro hx
    refine Eff.ite ?_ ?_
    · refine (State.answer_eff ..).step rfl ?_
      refine (State.updUpd_eff ..).step rfl ?_
      refine (State.stopTransfers_eff ..).step rfl ?_
      assumption
    · refine (State.answer_eff ..).step rfl ?_
      assumption

theorem execCancelUpdate_eff : ∀ s, OutEff 412316860424 s (execCancelUpdate s) := by
  intro s
  unfold execCancelUpdate
  refine OutEff.next ?_
  exact (State.cancelUpdate_eff ..).mono rfl

theorem State.activateAt_eff : ∀ s a v, Eff 264 s (State.activateAt s a v) := by
  intro s a v
  unfold State.activateAt
  refine Eff.ite ?_ ?_
  · exact (State.badAccess_eff ..).mono rfl
  · refine Eff.ite ?_ ?_
    · exact (State.wr_eff ..).mono rfl
    · exact (State.wr_eff ..).mono rfl

theorem execUpdActivateAtWrite_eff : ∀ accessor value s, OutEff 264 s (execUpdActivateAtWrite accessor value s) := by
  intro accessor value s
  unfold execUpdActivateAtWrite
  refine OutEff.next ?_
  exact (State.activateAt_eff ..).mono rfl

theorem State.eventAll_eff : ∀ s status count, Eff 16 s (State.eventAll s status count) := by
  intro s status count
  unfold State.eventAll
  extract_lets +onlyGivenNames x0
  clear_value x0
  refine Eff.foldl ?_ ?_
  · intro a1
    intro a2
    exact (State.produce_eff ..).mono rfl
  · exact Eff.refl ..

theorem State.activationCheck_eff : ∀ s, Eff 274877906960 s (State.activationCheck s) := by
  intro s
  unfold State.activationCheck
  extract_lets +onlyGivenNames x0
  clear_value x0
  refine Eff.ite ?_ ?_
  · refine (State.eventAll_eff ..).step rfl ?_
    exact (State.updUpd_eff ..).mono rfl
  · exact Eff.refl ..

theorem execActivationCheck_eff : ∀ s, OutEff 274877906960 s (execActivationCheck s) := by
  intro s
  unfold execActivationCheck
  refine OutEff.next ?_
  exact (State.activationCheck_eff ..).mono rfl

theorem State.nextActivation_eff : ∀ s, Eff 8 s (State.nextActivation s) := by
  intro s
  unfold State.nextActivation
  extract_lets +onlyGivenNames x0
  clear_value x0
  exact (State.wr_eff ..).mono rfl

theorem State.activationStart_eff : ∀ s, Eff 1520400474968 s (State.activationStart s) := by
  intro s
  unfold State.activationStart
  extract_lets +onlyGivenNames x0
  clear_value x0
  refine Eff.ite ?_ ?_
  · exact Eff.refl ..
  · refine Eff.ite ?_ ?_
    · refine (State.nextActivation_eff ..).step rfl ?_
      exact Eff.refl ..
    · extract_lets +onlyGivenNames x1
      refine Eff.cut x1 ?_ ?_
      · subst x1
        exact (State.updUpd_eff ..).mono rfl
      intro hx
      clear_value x1
      refine (State.closeBatch_eff ..).step rfl ?_
      refine Eff.foldl ?_ ?_
      · intro a2
        intro a3
        exact (State.cancelReq_eff ..).mono rfl
      · assumption

theorem execActivationStart_eff : ∀ s, OutEff 1520400474968 s (execActivationStart s) := by
  intro s
  unfold execActivationStart
  refine OutEff.next ?_
  exact (State.activationStart_eff ..).mono rfl

theorem State.takeSlot_eff : ∀ s c, Eff 34359738376 s (State.takeSlot s c) := by
  intro s c
  unfold State.takeSlot
  refine Eff.ite ?_ ?_
  · exact Eff.refl ..
  · extract_lets +onlyGivenNames x0
    clear_value x0
    extract_lets +onlyGivenNames x1
    clear_value x1
    extract_lets +onlyGivenNames x2
    refine Eff.cut x2 ?_ ?_
    · subst x2
      exact (State.updNor_eff ..).mono rfl
    intro hx
    clear_value x2
    refine (State.wr_eff ..).step rfl ?_
    refine (State.setCounter_eff ..).step rfl ?_
    assumption

theorem State.drainEnd_eff : ∀ s norOk, Eff 2199023255548 s (State.drainEnd s norOk) := by
  intro s norOk
  unfold State.drainEnd
  split
  · exact Eff.refl ..
  · refine Eff.ite ?_ ?_
    · exact Eff.refl ..
    · extract_lets +onlyGivenNames x0
      refine Eff.cut x0 ?_ ?_
      · subst x0
        exact (State.nextActivation_eff ..).mono rfl
      intro hx
      clear_value x0
      extract_lets +onlyGivenNames x1
      refine Eff.cut x1 ?_ ?_
      · subst x1
        refine (State.updNor_eff ..).step rfl ?_
        assumption
      intro hx
      clear_value x1
      extract_lets +onlyGivenNames x2
      refine Eff.cut x2 ?_ ?_
      · subst x2
        refine Eff.ite ?_ ?_
        · refine (State.logEvent_eff ..).step rfl ?_
          refine (State.inc_eff ..).step rfl ?_
          refine (State.takeSlot_eff ..).step rfl ?_
          refine (State.takeSlot_eff ..).step rfl ?_
          assumption
        · refine (State.logEvent_eff ..).step rfl ?_
          assumption
      intro hx
      clear_value x2
      refine (State.moduleReset_eff ..).step rfl ?_
      assumption

theorem execActivationDrainEnd_eff : ∀ norOk s, OutEff 2199023255548 s (execActivationDrainEnd norOk s) := by
  intro norOk s
  unfold execActivationDrainEnd
  refine OutEff.next ?_
  exact (State.drainEnd_eff ..).mono rfl

end Sys2Proof.Machine
end

