-- ==== Sys2Proof/Laws/Rings.lean ====
section
/-! SUPPORT. What each operation of Machine/Rings.lean can change, in the terms of Laws/Eff.lean: one lemma an operation. -/

namespace Sys2Proof.Machine

theorem State.admTake_eff : ∀ s, Eff 8 s (State.admTake s).1 := by
  intro s
  unfold State.admTake
  extract_lets +onlyGivenNames x0
  clear_value x0
  refine Eff.pair_fst ?_
  exact (State.wr_eff ..).mono rfl

theorem State.register_eff : ∀ s c x, Eff 24 s (State.register s c x) := by
  intro s c x
  unfold State.register
  extract_lets +onlyGivenNames x0
  refine Eff.cut x0 ?_ ?_
  · subst x0
    exact (State.updHost_eff ..).mono rfl
  intro hx
  clear_value x0
  iterate 4 refine (State.wr_eff ..).step rfl ?_
  assumption

theorem State.admCreate_eff : ∀ s d, Eff 280 s (State.admCreate s d) := by
  intro s d
  unfold State.admCreate
  refine Eff.ite ?_ ?_
  · exact Eff.refl ..
  · extract_lets +onlyGivenNames x0
    clear_value x0
    extract_lets +onlyGivenNames x1
    refine Eff.cut x1.1 ?_ ?_
    · subst x1
      exact (State.admTake_eff ..).mono rfl
    intro hx
    clear_value x1
    extract_lets +onlyGivenNames x2
    refine Eff.cut x2 ?_ ?_
    · subst x2
      refine Eff.ite ?_ ?_
      · refine (State.register_eff ..).step rfl ?_
        assumption
      · assumption
    intro hx
    clear_value x2
    refine (State.admPost_eff ..).step rfl ?_
    assumption

theorem execAdmRingCreate_eff : ∀ desc s, OutEff 280 s (execAdmRingCreate desc s) := by
  intro desc s
  unfold execAdmRingCreate
  refine OutEff.next ?_
  exact (State.admCreate_eff ..).mono rfl

theorem State.orphanReq_eff : ∀ s k, Eff 1108083614552 s (State.orphanReq s k) := by
  intro s k
  unfold State.orphanReq
  split
  · exact Eff.refl ..
  · refine Eff.ite ?_ ?_
    · refine (State.dropReq_eff ..).step rfl ?_
      exact Eff.refl ..
    · refine (State.cancelReq_eff ..).step rfl ?_
      exact (State.updReq_eff ..).mono rfl

theorem State.orphanClient_eff : ∀ s c, Eff 1108083614552 s (State.orphanClient s c) := by
  intro s c
  unfold State.orphanClient
  refine Eff.foldl ?_ ?_
  · intro a0
    intro a1
    exact (State.orphanReq_eff ..).mono rfl
  · exact Eff.refl ..

theorem State.admDelete_eff : ∀ s d, Eff 1108083614552 s (State.admDelete s d) := by
  intro s d
  unfold State.admDelete
  refine Eff.ite ?_ ?_
  · exact Eff.refl ..
  · extract_lets +onlyGivenNames x0
    clear_value x0
    extract_lets +onlyGivenNames x1
    clear_value x1
    extract_lets +onlyGivenNames x2
    refine Eff.cut x2.1 ?_ ?_
    · subst x2
      exact (State.admTake_eff ..).mono rfl
    intro hx
    clear_value x2
    split
    · refine (State.admPost_eff ..).step rfl ?_
      assumption
    · extract_lets +onlyGivenNames x3
      refine Eff.cut x3 ?_ ?_
      · subst x3
        refine (State.updHost_eff ..).step rfl ?_
        assumption
      intro hx
      clear_value x3
      refine (State.admSettle_eff ..).step rfl ?_
      refine (State.orphanClient_eff ..).step rfl ?_
      assumption

theorem execAdmRingDelete_eff : ∀ desc s, OutEff 1108083614552 s (execAdmRingDelete desc s) := by
  intro desc s
  unfold execAdmRingDelete
  refine OutEff.next ?_
  exact (State.admDelete_eff ..).mono rfl

theorem State.doorbellDenied_eff : ∀ s fn, Eff 264 s (State.doorbellDenied s fn) := by
  intro s fn
  unfold State.doorbellDenied
  refine (State.raise_eff ..).step rfl ?_
  exact (State.inc_eff ..).mono rfl

theorem State.doorbellWake_eff : ∀ s fn, Eff 558345748744 s (State.doorbellWake s fn) := by
  intro s fn
  unfold State.doorbellWake
  refine Eff.ite ?_ ?_
  · refine (State.watchAbort_eff ..).step rfl ?_
    exact Eff.refl ..
  · refine (State.wakeWatch_eff ..).step rfl ?_
    exact Eff.refl ..

theorem State.sqTail_eff : ∀ s fn c v, Eff 558345748760 s (State.sqTail s fn c v) := by
  intro s fn c v
  unfold State.sqTail
  refine Eff.ite ?_ ?_
  · exact Eff.refl ..
  · refine Eff.ite ?_ ?_
    · refine (State.doorbellDenied_eff ..).step rfl ?_
      exact Eff.refl ..
    · refine (State.doorbellWake_eff ..).step rfl ?_
      exact (State.updHost_eff ..).mono rfl

theorem execSqTail_eff : ∀ fn client value s, OutEff 558345748760 s (execSqTail fn client value s) := by
  intro fn client value s
  unfold execSqTail
  refine OutEff.next ?_
  exact (State.sqTail_eff ..).mono rfl

theorem State.cqHead_eff : ∀ s fn c v, Eff 558345748760 s (State.cqHead s fn c v) := by
  intro s fn c v
  unfold State.cqHead
  refine Eff.ite ?_ ?_
  · exact Eff.refl ..
  · refine Eff.ite ?_ ?_
    · refine (State.doorbellDenied_eff ..).step rfl ?_
      exact Eff.refl ..
    · extract_lets +onlyGivenNames x0
      refine Eff.cut x0 ?_ ?_
      · subst x0
        exact (State.updHost_eff ..).mono rfl
      intro hx
      clear_value x0
      extract_lets +onlyGivenNames x1
      clear_value x1
      refine (State.doorbellWake_eff ..).step rfl ?_
      refine Eff.ite ?_ ?_
      · assumption
      · refine (State.wr_eff ..).step rfl ?_
        assumption

theorem execCqHead_eff : ∀ fn client value s, OutEff 558345748760 s (execCqHead fn client value s) := by
  intro fn client value s
  unfold execCqHead
  refine OutEff.next ?_
  exact (State.cqHead_eff ..).mono rfl

theorem State.fetch_eff : ∀ s c, Eff 24 s (State.fetch s c) := by
  intro s c
  unfold State.fetch
  split
  · exact Eff.refl ..
  · extract_lets +onlyGivenNames x0
    clear_value x0
    refine Eff.ite ?_ ?_
    · exact Eff.refl ..
    · extract_lets +onlyGivenNames x1
      refine Eff.cut x1 ?_ ?_
      · subst x1
        exact (State.updHost_eff ..).mono rfl
      intro hx
      clear_value x1
      refine (State.wr_eff ..).step rfl ?_
      assumption

theorem execDescriptorFetch_eff : ∀ client s, OutEff 24 s (execDescriptorFetch client s) := by
  intro client s
  unfold execDescriptorFetch
  refine OutEff.next ?_
  exact (State.fetch_eff ..).mono rfl

theorem State.leafFor_eff : ∀ s k, Eff 137438953480 s (State.leafFor s k) := by
  intro s k
  unfold State.leafFor
  split
  · exact Eff.refl ..
  · extract_lets +onlyGivenNames x0
    clear_value x0
    exact (State.addLeaf_eff ..).mono rfl

theorem State.signal_eff : ∀ s c, Eff 16 s (State.signal s c) := by
  intro s c
  unfold State.signal
  split
  · exact Eff.refl ..
  · refine (State.updHost_eff ..).step rfl ?_
    exact (State.irq_eff ..).mono rfl

theorem State.writeEntry_eff : ∀ s e r, Eff 4294967384 s (State.writeEntry s e r) := by
  intro s e r
  unfold State.writeEntry
  extract_lets +onlyGivenNames x0
  clear_value x0
  extract_lets +onlyGivenNames x1
  clear_value x1
  extract_lets +onlyGivenNames x2
  refine Eff.cut x2 ?_ ?_
  · subst x2
    refine Eff.ite ?_ ?_
    · exact Eff.refl ..
    · exact (State.charge_eff ..).mono rfl
  intro hx
  clear_value x2
  extract_lets +onlyGivenNames x3
  refine Eff.cut x3 ?_ ?_
  · subst x3
    refine (State.updHost_eff ..).step rfl ?_
    assumption
  intro hx
  clear_value x3
  extract_lets +onlyGivenNames x4
  refine Eff.cut x4 ?_ ?_
  · subst x4
    refine (State.wr_eff ..).step rfl ?_
    assumption
  intro hx
  clear_value x4
  extract_lets +onlyGivenNames x5
  refine Eff.cut x5 ?_ ?_
  · subst x5
    refine Eff.ite ?_ ?_
    · refine (State.wr_eff ..).step rfl ?_
      assumption
    · assumption
  intro hx
  clear_value x5
  refine Eff.ite ?_ ?_
  · refine (State.signal_eff ..).step rfl ?_
    assumption
  · assumption

theorem State.afterFinal_eff : ∀ s e, Eff 1245522568024 s (State.afterFinal s e) := by
  intro s e
  unfold State.afterFinal
  extract_lets +onlyGivenNames x0
  clear_value x0
  extract_lets +onlyGivenNames x1
  refine Eff.cut x1 ?_ ?_
  · subst x1
    refine Eff.ite ?_ ?_
    · refine (State.leafFor_eff ..).step rfl ?_
      exact Eff.refl ..
    · exact Eff.refl ..
  intro hx
  clear_value x1
  extract_lets +onlyGivenNames x2
  refine Eff.cut x2 ?_ ?_
  · subst x2
    refine (State.dropReq_eff ..).step rfl ?_
    assumption
  intro hx
  clear_value x2
  extract_lets +onlyGivenNames x3
  clear_value x3
  extract_lets +onlyGivenNames x4
  refine Eff.cut x4 ?_ ?_
  · subst x4
    refine Eff.foldl ?_ ?_
    · intro a5
      intro a6
      refine (State.endReq_eff ..).step rfl ?_
      exact (State.updSec_eff ..).mono rfl
    · assumption
  intro hx
  clear_value x4
  refine Eff.ite ?_ ?_
  · refine (State.wr_eff ..).step rfl ?_
    assumption
  · assumption

theorem State.post_eff : ∀ s c, Eff 1245522568024 s (State.post s c) := by
  intro s c
  unfold State.post
  split
  · extract_lets +onlyGivenNames x0
    clear_value x0
    refine Eff.ite ?_ ?_
    · refine (State.wr_eff ..).step rfl ?_
      exact Eff.refl ..
    · refine Eff.ite ?_ ?_
      · refine (State.orphanClient_eff ..).step rfl ?_
        refine (State.deregister_eff ..).step rfl ?_
        exact (State.raise_eff ..).mono rfl
      · extract_lets +onlyGivenNames x1
        refine Eff.cut x1 ?_ ?_
        · subst x1
          exact (State.writeEntry_eff ..).mono rfl
        intro hx
        clear_value x1
        refine Eff.ite ?_ ?_
        · assumption
        · refine Eff.ite ?_ ?_
          · refine (State.afterFinal_eff ..).step rfl ?_
            assumption
          · assumption
  · exact Eff.refl ..

theorem State.irqTimeout_eff : ∀ s c, Eff 16 s (State.irqTimeout s c) := by
  intro s c
  unfold State.irqTimeout
  split
  · exact Eff.refl ..
  · refine Eff.ite ?_ ?_
    · refine (State.signal_eff ..).step rfl ?_
      exact Eff.refl ..
    · exact Eff.refl ..

theorem execIrqModerationTimeout_eff : ∀ client s, OutEff 16 s (execIrqModerationTimeout client s) := by
  intro client s
  unfold execIrqModerationTimeout
  refine OutEff.next ?_
  exact (State.irqTimeout_eff ..).mono rfl

theorem State.stopReads_eff : ∀ s fn, Eff 1108083614552 s (State.stopReads s fn) := by
  intro s fn
  unfold State.stopReads
  extract_lets +onlyGivenNames x0
  clear_value x0
  extract_lets +onlyGivenNames x1
  refine Eff.cut x1 ?_ ?_
  · subst x1
    exact (State.updHost_eff ..).mono rfl
  intro hx
  clear_value x1
  refine Eff.foldl ?_ ?_
  · intro a2
    intro a3
    exact (State.endReq_eff ..).mono rfl
  · assumption

theorem State.fnReset_eff : ∀ s fn how, Eff 1108083614552 s (State.fnReset s fn how) := by
  intro s fn how
  unfold State.fnReset
  extract_lets +onlyGivenNames x0
  refine Eff.cut x0 ?_ ?_
  · subst x0
    refine Eff.foldl ?_ ?_
    · intro a1
      intro a2
      refine (State.orphanClient_eff ..).step rfl ?_
      exact (State.deregister_eff ..).mono rfl
    · exact Eff.refl ..
  intro hx
  clear_value x0
  extract_lets +onlyGivenNames x3
  refine Eff.cut x3 ?_ ?_
  · subst x3
    refine (State.stopReads_eff ..).step rfl ?_
    assumption
  intro hx
  clear_value x3
  refine (State.updHost_eff ..).step rfl ?_
  assumption

theorem State.functionReset_eff : ∀ s fn how, Eff 1666429363032 s (State.functionReset s fn how) := by
  intro s fn how
  unfold State.functionReset
  extract_lets +onlyGivenNames x0
  refine Eff.cut x0 ?_ ?_
  · subst x0
    exact (State.fnReset_eff ..).mono rfl
  intro hx
  clear_value x0
  refine Eff.ite ?_ ?_
  · refine (State.wakeWatch_eff ..).step rfl ?_
    assumption
  · assumption

theorem execFunctionLevelReset_eff : ∀ fn how s, OutEff 1666429363032 s (execFunctionLevelReset fn how s) := by
  intro fn how s
  unfold execFunctionLevelReset
  refine OutEff.next ?_
  exact (State.functionReset_eff ..).mono rfl

theorem State.d0Return_eff : ∀ s fn, Eff 16 s (State.d0Return s fn) := by
  intro s fn
  unfold State.d0Return
  refine Eff.ite ?_ ?_
  · exact Eff.refl ..
  · extract_lets +onlyGivenNames x0
    refine Eff.cut x0 ?_ ?_
    · subst x0
      exact (State.updHost_eff ..).mono rfl
    intro hx
    clear_value x0
    refine Eff.foldl ?_ ?_
    · intro a1
      intro a2
      exact (State.signal_eff ..).mono rfl
    · assumption

theorem execFunctionD0Return_eff : ∀ fn s, OutEff 16 s (execFunctionD0Return fn s) := by
  intro fn s
  unfold execFunctionD0Return
  refine OutEff.next ?_
  exact (State.d0Return_eff ..).mono rfl

theorem State.cfgAnswer_eff : ∀ s a, Eff 16 s (State.cfgAnswer s a) := by
  intro s a
  unfold State.cfgAnswer
  exact (State.updHost_eff ..).mono rfl

theorem State.cfgEffect_eff : ∀ s fn q, Eff 1108083614552 s (State.cfgEffect s fn q) := by
  intro s fn q
  unfold State.cfgEffect
  split
  · exact Eff.refl ..
  · exact (State.updHost_eff ..).mono rfl
  · refine Eff.ite ?_ ?_
    · exact (State.updHost_eff ..).mono rfl
    · exact Eff.refl ..
  · refine Eff.ite ?_ ?_
    · refine (State.updHost_eff ..).step rfl ?_
      refine Eff.foldl ?_ ?_
      · intro a0
        intro a1
        exact (State.fnReset_eff ..).mono rfl
      · exact Eff.refl ..
    · exact Eff.refl ..
  · refine Eff.ite ?_ ?_
    · exact (State.updHost_eff ..).mono rfl
    · exact Eff.refl ..
  · exact (State.updHost_eff ..).mono rfl

theorem State.configRequest_eff : ∀ s fn q, Eff 1108083614552 s (State.configRequest s fn q) := by
  intro s fn q
  unfold State.configRequest
  extract_lets +onlyGivenNames x0
  clear_value x0
  refine Eff.ite ?_ ?_
  · exact Eff.refl ..
  · refine Eff.ite ?_ ?_
    · refine Eff.ite ?_ ?_
      · exact Eff.refl ..
      · refine (State.cfgAnswer_eff ..).step rfl ?_
        exact (State.cfgEffect_eff ..).mono rfl
    · refine Eff.ite ?_ ?_
      · refine (State.cfgAnswer_eff ..).step rfl ?_
        exact (State.cfgEffect_eff ..).mono rfl
      · refine (State.cfgAnswer_eff ..).step rfl ?_
        exact Eff.refl ..

theorem execConfigurationRequest_eff : ∀ fn req s, OutEff 1108083614552 s (execConfigurationRequest fn req s) := by
  intro fn req s
  unfold execConfigurationRequest
  refine OutEff.next ?_
  exact (State.configRequest_eff ..).mono rfl

theorem State.bar4Read_eff : ∀ s o n, Eff 1133853425498 s (State.bar4Read s o n) := by
  intro s o n
  unfold State.bar4Read
  extract_lets +onlyGivenNames x0
  clear_value x0
  refine Eff.ite ?_ ?_
  · exact (State.cfgAnswer_eff ..).mono rfl
  · refine Eff.ite ?_ ?_
    · refine (State.cfgAnswer_eff ..).step rfl ?_
      exact (State.badAccess_eff ..).mono rfl
    · extract_lets +onlyGivenNames x1
      refine Eff.cut x1.1 ?_ ?_
      · subst x1
        exact (State.readUnit_eff ..).mono rfl
      intro hx
      clear_value x1
      refine (State.cfgAnswer_eff ..).step rfl ?_
      assumption

theorem execBar4Read_eff : ∀ offset n s, OutEff 1133853425498 s (execBar4Read offset n s) := by
  intro offset n s
  unfold execBar4Read
  refine OutEff.next ?_
  exact (State.bar4Read_eff ..).mono rfl

theorem State.bar4Write_eff : ∀ s o bs ep, Eff 1133853425498 s (State.bar4Write s o bs ep) := by
  intro s o bs ep
  unfold State.bar4Write
  extract_lets +onlyGivenNames x0
  clear_value x0
  refine Eff.ite ?_ ?_
  · exact Eff.refl ..
  · refine Eff.ite ?_ ?_
    · exact (State.badAccess_eff ..).mono rfl
    · extract_lets +onlyGivenNames x1
      refine Eff.cut x1 ?_ ?_
      · subst x1
        refine Eff.ite ?_ ?_
        · exact Eff.refl ..
        · refine Eff.foldl ?_ ?_
          · intro a2
            intro a3
            exact (State.readCtl_eff ..).mono rfl
          · exact Eff.refl ..
      intro hx
      clear_value x1
      extract_lets +onlyGivenNames x4
      refine Eff.cut x4 ?_ ?_
      · subst x4
        refine Eff.ite ?_ ?_
        · refine (State.badAccess_eff ..).step rfl ?_
          assumption
        · assumption
      intro hx
      clear_value x4
      extract_lets +onlyGivenNames x5
      refine Eff.cut x5 ?_ ?_
      · subst x5
        refine Eff.ite ?_ ?_
        · refine (State.raise_eff ..).step rfl ?_
          assumption
        · assumption
      intro hx
      clear_value x5
      refine (State.writeDevP_eff ..).step rfl ?_
      assumption

theorem execBar4Write_eff : ∀ offset bytes ep s, OutEff 1133853425498 s (execBar4Write offset bytes ep s) := by
  intro offset bytes ep s
  unfold execBar4Write
  refine OutEff.next ?_
  exact (State.bar4Write_eff ..).mono rfl

theorem State.accountRead_eff : ∀ s k, Eff 1133853425498 s (State.accountRead s k) := by
  intro s k
  unfold State.accountRead
  split
  · exact Eff.refl ..
  · refine Eff.ite ?_ ?_
    · exact Eff.refl ..
    · refine (State.endReq_eff ..).step rfl ?_
      exact (State.putOut_eff ..).mono rfl

theorem execOpAccountRead_eff : ∀ client req s, OutEff 1133853425498 s (execOpAccountRead client req s) := by
  intro client req s
  unfold execOpAccountRead
  refine OutEff.next ?_
  exact (State.accountRead_eff ..).mono rfl

end Sys2Proof.Machine
end

