-- ==== Sys2Proof/Laws/Buffers.lean ====
section
/-! SUPPORT. What each operation of Machine/Buffers.lean can change, in the terms of Laws/Eff.lean: one lemma an operation. -/

namespace Sys2Proof.Machine

theorem State.onReq_eff {k : Nat} {s0 s : State} {q : ReqKey} {op : Nat} {f : Req → State} (h : Eff k s0 s)
    (hf : ∀ r, Eff k s0 (f r)) : Eff k s0 (s.onReq q op f) := by
  unfold State.onReq
  split
  · exact h
  · exact Eff.ite h (hf _)

theorem State.peek_eff : ∀ s k l unit, Eff 1133853425498 s (State.peek s k l unit).1 := by
  intro s k l unit
  unfold State.peek
  split
  · refine Eff.pair_fst ?_
    exact Eff.refl ..
  · extract_lets +onlyGivenNames x0
    clear_value x0
    refine Eff.ite_fst ?_ ?_
    · refine Eff.pair_fst ?_
      refine (State.endReq_eff ..).step rfl ?_
      exact (State.raise_eff ..).mono rfl
    · refine Eff.ite_fst ?_ ?_
      · refine Eff.ite_fst ?_ ?_
        · refine Eff.pair_fst ?_
          exact (State.endReq_eff ..).mono rfl
        · refine Eff.pair_fst ?_
          refine Eff.foldl ?_ ?_
          · intro a1
            intro a2
            refine Eff.ite ?_ ?_
            · exact (State.issueRead_eff ..).mono rfl
            · exact Eff.refl ..
          · exact Eff.refl ..
      · extract_lets +onlyGivenNames x3
        refine Eff.cut x3.1 ?_ ?_
        · subst x3
          exact (State.readUnits_eff ..).mono rfl
        intro hx
        clear_value x3
        refine Eff.ite_fst ?_ ?_
        · refine Eff.pair_fst ?_
          refine Eff.ite ?_ ?_
          · refine (State.endPoison_eff ..).step rfl ?_
            assumption
          · assumption
        · assumption

theorem State.gather_eff : ∀ s k l unit, Eff 1133853425498 s (State.gather s k l unit).1 := by
  intro s k l unit
  unfold State.gather
  split
  · refine Eff.pair_fst ?_
    refine Eff.of_fst ‹_ = (_, _)› ?_
    exact (State.peek_eff ..).mono rfl
  · extract_lets +onlyGivenNames x0
    clear_value x0
    refine Eff.pair_fst ?_
    refine (State.charge_eff ..).step rfl ?_
    refine Eff.of_fst ‹_ = (_, _)› ?_
    exact (State.peek_eff ..).mono rfl

theorem State.setInputs_eff : ∀ s k bufs, Eff 16 s (State.setInputs s k bufs) := by
  intro s k bufs
  unfold State.setInputs
  exact (State.updReq_eff ..).mono rfl

theorem State.start_eff : ∀ s k, Eff 16 s (State.start s k) := by
  intro s k
  unfold State.start
  exact (State.updReq_eff ..).mono rfl

end Sys2Proof.Machine
end

