-- ==== Sys2Proof/Laws/Flash.lean ====
section
/-! SUPPORT. What each operation of Machine/Flash.lean can change, in the terms of Laws/Eff.lean: one lemma an operation. -/

namespace Sys2Proof.Machine

theorem State.updFlash_eff : ∀ s f, Eff 1024 s (State.updFlash s f) := by
  intro s f
  unfold State.updFlash
  exact (State.putFlash_eff ..).mono rfl

theorem State.countRead_eff : ∀ s e, Eff 1032 s (State.countRead s e) := by
  intro s e
  unfold State.countRead
  refine (State.updFlash_eff ..).step rfl ?_
  exact (State.inc_eff ..).mono rfl

theorem State.queueReloc_eff : ∀ s b, Eff 1024 s (State.queueReloc s b) := by
  intro s b
  unfold State.queueReloc
  exact (State.updFlash_eff ..).mono rfl

theorem State.readSteps_eff : ∀ s e j tag t, Eff 1288 s (State.readSteps s e j tag t).1 := by
  intro s e j tag t
  unfold State.readSteps
  extract_lets +onlyGivenNames x0
  clear_value x0
  extract_lets +onlyGivenNames x1
  clear_value x1
  extract_lets +onlyGivenNames x2
  subst x2
  extract_lets +onlyGivenNames x3
  refine Eff.cut x3 ?_ ?_
  · subst x3
    exact (State.countRead_eff ..).mono rfl
  intro hx
  clear_value x3
  refine Eff.ite_fst ?_ ?_
  · assumption
  · extract_lets +onlyGivenNames x4
    refine Eff.cut x4 ?_ ?_
    · subst x4
      refine Eff.ite ?_ ?_
      · assumption
      · refine (State.incSat_eff ..).step rfl ?_
        assumption
    intro hx
    clear_value x4
    refine Eff.ite_fst ?_ ?_
    · refine Eff.pair_fst ?_
      beta_reduce
      refine (State.raise_eff ..).step rfl ?_
      assumption
    · extract_lets +onlyGivenNames x5
      clear_value x5
      extract_lets +onlyGivenNames x6
      clear_value x6
      extract_lets +onlyGivenNames x7
      refine Eff.cut x7 ?_ ?_
      · subst x7
        refine Eff.ite ?_ ?_
        · assumption
        · refine Eff.foldl ?_ ?_
          · intro a8
            intro a9
            exact (State.countRead_eff ..).mono rfl
          · assumption
      intro hx
      clear_value x7
      refine Eff.ite_fst ?_ ?_
      · extract_lets +onlyGivenNames x10
        refine Eff.cut x10 ?_ ?_
        · subst x10
          beta_reduce
          refine (State.raise_eff ..).step rfl ?_
          refine (State.inc_eff ..).step rfl ?_
          assumption
        intro hx
        clear_value x10
        refine Eff.pair_fst ?_
        refine Eff.ite ?_ ?_
        · assumption
        · refine (State.queueReloc_eff ..).step rfl ?_
          assumption
      · refine Eff.pair_fst ?_
        beta_reduce
        refine (State.raise_eff ..).step rfl ?_
        assumption

theorem State.sectorPoison_eff : ∀ s e, Eff 256 s (State.sectorPoison s e) := by
  intro s e
  unfold State.sectorPoison
  exact (State.raise_eff ..).mono rfl

theorem State.readSector_eff : ∀ s lsn part t, Eff 5384 s (State.readSector s lsn part t) := by
  intro s lsn part t
  unfold State.readSector
  extract_lets +onlyGivenNames x0
  clear_value x0
  refine Eff.ite ?_ ?_
  · exact Eff.refl ..
  · extract_lets +onlyGivenNames x1
    refine Eff.cut x1 ?_ ?_
    · subst x1
      exact (State.passed_eff ..).mono rfl
    intro hx
    clear_value x1
    split
    · refine (State.updFlash_eff ..).step rfl ?_
      assumption
    · extract_lets +onlyGivenNames x2
      clear_value x2
      refine Eff.ite ?_ ?_
      · refine (State.raise_eff ..).step rfl ?_
        assumption
      · extract_lets +onlyGivenNames x3
        refine Eff.cut x3.1 ?_ ?_
        · subst x3
          refine (State.readSteps_eff ..).step rfl ?_
          assumption
        intro hx
        clear_value x3
        extract_lets +onlyGivenNames x4
        clear_value x4
        extract_lets +onlyGivenNames x5
        refine Eff.cut x5 ?_ ?_
        · subst x5
          refine Eff.ite ?_ ?_
          · refine (State.sectorPoison_eff ..).step rfl ?_
            assumption
          · assumption
        intro hx
        clear_value x5
        refine (State.updFlash_eff ..).step rfl ?_
        assumption

theorem execFlashSectorRead_eff : ∀ lsn part trial s, OutEff 5384 s (execFlashSectorRead lsn part trial s) := by
  intro lsn part trial s
  unfold execFlashSectorRead
  refine OutEff.next ?_
  exact (State.readSector_eff ..).mono rfl

theorem State.flashFetch_eff : ∀ s c lsn n, Eff 4294968648 s (State.flashFetch s c lsn n).1 := by
  intro s c lsn n
  unfold State.flashFetch
  extract_lets +onlyGivenNames x0
  refine Eff.cut x0 ?_ ?_
  · subst x0
    exact (State.charge_eff ..).mono rfl
  intro hx
  clear_value x0
  refine Eff.foldl_fst ?_ ?_
  · intro a1
    intro a2
    intro a3
    split
    · refine Eff.pair_fst ?_
      refine Eff.pair_fst ?_
      exact Eff.refl ..
    · extract_lets +onlyGivenNames x4
      clear_value x4
      extract_lets +onlyGivenNames x5
      refine Eff.cut x5.1 ?_ ?_
      · subst x5
        exact (State.readSteps_eff ..).mono rfl
      intro hx
      clear_value x5
      extract_lets +onlyGivenNames x6
      clear_value x6
      refine Eff.pair_fst ?_
      refine Eff.ite ?_ ?_
      · refine (State.sectorPoison_eff ..).step rfl ?_
        assumption
      · assumption
  · assumption

theorem State.flashToDev_eff : ∀ s c dst lsns, Eff 1103806596936 s (State.flashToDev s c dst lsns) := by
  intro s c dst lsns
  unfold State.flashToDev
  refine Eff.foldl ?_ ?_
  · intro a0
    intro a1
    extract_lets +onlyGivenNames x2
    refine Eff.cut x2.1 ?_ ?_
    · subst x2
      exact (State.flashFetch_eff ..).mono rfl
    intro hx
    clear_value x2
    refine (State.writeDevP_eff ..).step rfl ?_
    assumption
  · exact Eff.refl ..

theorem State.mirrorWear_eff : ∀ s ch, Eff 8 s (State.mirrorWear s ch) := by
  intro s ch
  unfold State.mirrorWear
  extract_lets +onlyGivenNames x0
  clear_value x0
  extract_lets +onlyGivenNames x1
  refine Eff.cut x1 ?_ ?_
  · subst x1
    exact (State.wr_eff ..).mono rfl
  intro hx
  clear_value x1
  refine (State.wr_eff ..).step rfl ?_
  assumption

theorem State.eraseBlock_eff : ∀ s b, Eff 1032 s (State.eraseBlock s b) := by
  intro s b
  unfold State.eraseBlock
  extract_lets +onlyGivenNames x0
  refine Eff.cut x0 ?_ ?_
  · subst x0
    exact (State.updFlash_eff ..).mono rfl
  intro hx
  clear_value x0
  refine Eff.foldl ?_ ?_
  · intro a1
    intro a2
    exact (State.mirrorWear_eff ..).mono rfl
  · assumption

theorem State.nextStripe_eff : ∀ s slc old, Eff 1032 s (State.nextStripe s slc old).1 := by
  intro s slc old
  unfold State.nextStripe
  extract_lets +onlyGivenNames x0
  refine Eff.cut x0.1 ?_ ?_
  · subst x0
    split
    · refine Eff.pair_fst ?_
      exact Eff.refl ..
    · extract_lets +onlyGivenNames x1
      refine Eff.cut x1 ?_ ?_
      · subst x1
        refine Eff.ite ?_ ?_
        · refine (State.eraseBlock_eff ..).step rfl ?_
          exact Eff.refl ..
        · exact Eff.refl ..
      intro hx
      clear_value x1
      refine Eff.pair_fst ?_
      assumption
  intro hx
  clear_value x0
  split
  · assumption
  · refine Eff.ite_fst ?_ ?_
    · refine Eff.pair_fst ?_
      exact Eff.refl ..
    · assumption

theorem State.place_eff : ∀ s slc, Eff 1032 s (State.place s slc).1 := by
  intro s slc
  unfold State.place
  extract_lets +onlyGivenNames x0
  clear_value x0
  extract_lets +onlyGivenNames x1
  clear_value x1
  extract_lets +onlyGivenNames x2
  refine Eff.cut x2.1 ?_ ?_
  · subst x2
    refine Eff.ite_fst ?_ ?_
    · refine Eff.pair_fst ?_
      exact Eff.refl ..
    · exact (State.nextStripe_eff ..).mono rfl
  intro hx
  clear_value x2
  split
  · assumption
  · extract_lets +onlyGivenNames x3
    clear_value x3
    split
    · assumption
    · extract_lets +onlyGivenNames x4
      clear_value x4
      refine Eff.pair_fst ?_
      refine (State.updFlash_eff ..).step rfl ?_
      assumption

theorem State.flashIssue_eff : ∀ s u slc sectors, Eff 1032 s (State.flashIssue s u slc sectors) := by
  intro s u slc sectors
  unfold State.flashIssue
  split
  · refine Eff.of_fst ‹_ = (_, _)› ?_
    exact (State.place_eff ..).mono rfl
  · extract_lets +onlyGivenNames x0
    clear_value x0
    extract_lets +onlyGivenNames x1
    clear_value x1
    refine (State.updFlash_eff ..).step rfl ?_
    refine Eff.of_fst ‹_ = (_, _)› ?_
    exact (State.place_eff ..).mono rfl

theorem State.flashPut_eff : ∀ s part u slc bs bad, Eff 1032 s (State.flashPut s part u slc bs bad) := by
  intro s part u slc bs bad
  unfold State.flashPut
  extract_lets +onlyGivenNames x0
  clear_value x0
  refine Eff.foldl ?_ ?_
  · intro a1
    intro a2
    extract_lets +onlyGivenNames x3
    clear_value x3
    exact (State.flashIssue_eff ..).mono rfl
  · exact Eff.refl ..

theorem State.flashWrite_eff : ∀ s c part u slc bs bad, Eff 4294968392 s (State.flashWrite s c part u slc bs bad) := by
  intro s c part u slc bs bad
  unfold State.flashWrite
  refine (State.flashPut_eff ..).step rfl ?_
  exact (State.charge_eff ..).mono rfl

theorem State.eraseDue_eff : ∀ s, Eff 1032 s (State.eraseDue s) := by
  intro s
  unfold State.eraseDue
  refine Eff.foldl ?_ ?_
  · intro a0
    intro a1
    exact (State.eraseBlock_eff ..).mono rfl
  · exact Eff.refl ..

theorem State.writeAck_eff : ∀ s core, Eff 1032 s (State.writeAck s core) := by
  intro s core
  unfold State.writeAck
  split
  · exact Eff.refl ..
  · refine (State.eraseDue_eff ..).step rfl ?_
    exact (State.updFlash_eff ..).mono rfl

theorem execFlashWriteAck_eff : ∀ core s, OutEff 1032 s (execFlashWriteAck core s) := by
  intro core s
  unfold execFlashWriteAck
  refine OutEff.next ?_
  exact (State.writeAck_eff ..).mono rfl

theorem State.parityWrite_eff : ∀ s st flush, Eff 1024 s (State.parityWrite s st flush) := by
  intro s st flush
  unfold State.parityWrite
  split
  · exact Eff.refl ..
  · refine Eff.ite ?_ ?_
    · exact Eff.refl ..
    · exact (State.updFlash_eff ..).mono rfl

theorem execStripeParityWrite_eff : ∀ stripe flush s, OutEff 1024 s (execStripeParityWrite stripe flush s) := by
  intro stripe flush s
  unfold execStripeParityWrite
  refine OutEff.next ?_
  exact (State.parityWrite_eff ..).mono rfl

theorem State.passUnit_eff : ∀ s u e, Eff 1288 s (State.passUnit s u e).1 := by
  intro s u e
  unfold State.passUnit
  extract_lets +onlyGivenNames x0
  clear_value x0
  refine Eff.foldl_fst ?_ ?_
  · intro a1
    intro a2
    intro a3
    split
    · refine Eff.pair_fst ?_
      exact Eff.refl ..
    · extract_lets +onlyGivenNames x4
      refine Eff.cut x4.1 ?_ ?_
      · subst x4
        exact (State.readSteps_eff ..).mono rfl
      intro hx
      clear_value x4
      assumption
  · refine Eff.pair_fst ?_
    exact Eff.refl ..

theorem State.moveUnit_eff : ∀ s u e, Eff 1288 s (State.moveUnit s u e) := by
  intro s u e
  unfold State.moveUnit
  extract_lets +onlyGivenNames x0
  refine Eff.cut x0.1 ?_ ?_
  · subst x0
    exact (State.passUnit_eff ..).mono rfl
  intro hx
  clear_value x0
  refine (State.flashIssue_eff ..).step rfl ?_
  assumption

theorem State.moveUnits_eff : ∀ s p, Eff 1288 s (State.moveUnits s p) := by
  intro s p
  unfold State.moveUnits
  refine Eff.foldl ?_ ?_
  · intro a0
    intro a1
    exact (State.moveUnit_eff ..).mono rfl
  · exact Eff.refl ..

theorem State.relocateBlock_eff : ∀ s b, Eff 1288 s (State.relocateBlock s b) := by
  intro s b
  unfold State.relocateBlock
  extract_lets +onlyGivenNames x0
  refine Eff.cut x0 ?_ ?_
  · subst x0
    refine (State.incSat_eff ..).step rfl ?_
    exact (State.moveUnits_eff ..).mono rfl
  intro hx
  clear_value x0
  refine (State.eraseDue_eff ..).step rfl ?_
  refine (State.updFlash_eff ..).step rfl ?_
  assumption

theorem State.wearRelocate_eff : ∀ s d, Eff 5384 s (State.wearRelocate s d) := by
  intro s d
  unfold State.wearRelocate
  extract_lets +onlyGivenNames x0
  clear_value x0
  extract_lets +onlyGivenNames x1
  clear_value x1
  split
  · exact Eff.refl ..
  · refine Eff.ite ?_ ?_
    · refine (State.relocateBlock_eff ..).step rfl ?_
      exact (State.passed_eff ..).mono rfl
    · exact Eff.refl ..

theorem execWearRelocate_eff : ∀ die s, OutEff 5384 s (execWearRelocate die s) := by
  intro die s
  unfold execWearRelocate
  refine OutEff.next ?_
  exact (State.wearRelocate_eff ..).mono rfl

theorem State.disturbScan_eff : ∀ s b worst, Eff 5128 s (State.disturbScan s b worst) := by
  intro s b worst
  unfold State.disturbScan
  extract_lets +onlyGivenNames x0
  clear_value x0
  refine Eff.ite ?_ ?_
  · exact Eff.refl ..
  · extract_lets +onlyGivenNames x1
    refine Eff.cut x1 ?_ ?_
    · subst x1
      refine (State.incSat_eff ..).step rfl ?_
      exact (State.passed_eff ..).mono rfl
    intro hx
    clear_value x1
    extract_lets +onlyGivenNames x2
    refine Eff.cut x2 ?_ ?_
    · subst x2
      refine (State.inc_eff ..).step rfl ?_
      assumption
    intro hx
    clear_value x2
    refine Eff.ite ?_ ?_
    · refine (State.queueReloc_eff ..).step rfl ?_
      refine (State.updFlash_eff ..).step rfl ?_
      assumption
    · refine (State.updFlash_eff ..).step rfl ?_
      assumption

theorem execReadDisturbScan_eff : ∀ block worstPct s, OutEff 5128 s (execReadDisturbScan block worstPct s) := by
  intro block worstPct s
  unfold execReadDisturbScan
  refine OutEff.next ?_
  exact (State.disturbScan_eff ..).mono rfl

theorem State.dieRebuild_eff : ∀ s d, Eff 1288 s (State.dieRebuild s d) := by
  intro s d
  unfold State.dieRebuild
  refine Eff.ite ?_ ?_
  · exact Eff.refl ..
  · split
    · refine Eff.ite ?_ ?_
      · exact Eff.refl ..
      · exact (State.updFlash_eff ..).mono rfl
    · exact (State.moveUnit_eff ..).mono rfl

theorem execFlashDieRebuild_eff : ∀ die s, OutEff 1288 s (execFlashDieRebuild die s) := by
  intro die s
  unfold execFlashDieRebuild
  refine OutEff.next ?_
  exact (State.dieRebuild_eff ..).mono rfl

theorem execFlashPeriodicTraining_eff : ∀ s, OutEff 1024 s (execFlashPeriodicTraining s) := by
  intro s
  unfold execFlashPeriodicTraining
  refine OutEff.next ?_
  refine Eff.ite ?_ ?_
  · refine (State.updFlash_eff ..).step rfl ?_
    exact Eff.refl ..
  · exact Eff.refl ..

theorem State.mapRebuild_eff : ∀ s u, Eff 1024 s (State.mapRebuild s u) := by
  intro s u
  unfold State.mapRebuild
  extract_lets +onlyGivenNames x0
  clear_value x0
  exact (State.updFlash_eff ..).mono rfl

theorem execMapEntryRebuild_eff : ∀ unit s, OutEff 1024 s (execMapEntryRebuild unit s) := by
  intro unit s
  unfold execMapEntryRebuild
  refine OutEff.next ?_
  exact (State.mapRebuild_eff ..).mono rfl

theorem State.trim_eff : ∀ s u n, Eff 1024 s (State.trim s u n) := by
  intro s u n
  unfold State.trim
  exact (State.updFlash_eff ..).mono rfl

end Sys2Proof.Machine
end

