-- ==== Sys2Proof/Laws/Images.lean ====
section
/-! SUPPORT. What each operation of Machine/Images.lean can change, in the terms of Laws/Eff.lean: one lemma an operation. -/

namespace Sys2Proof.Machine

theorem State.initAcc_eff : ∀ s ps img t, Eff 1099511628288 s (State.initAcc s ps img t) := by
  intro s ps img t
  unfold State.initAcc
  refine Eff.ite ?_ ?_
  · exact Eff.refl ..
  · extract_lets +onlyGivenNames x0
    clear_value x0
    extract_lets +onlyGivenNames x1
    refine Eff.cut x1 ?_ ?_
    · subst x1
      refine Eff.foldl ?_ ?_
      · intro a2
        intro a3
        refine Eff.ite ?_ ?_
        · exact Eff.refl ..
        · extract_lets +onlyGivenNames x4
          clear_value x4
          exact (State.writeDev_eff ..).mono rfl
      · exact Eff.refl ..
    intro hx
    clear_value x1
    refine (State.layResid_eff ..).step rfl ?_
    refine (State.layDelta_eff ..).step rfl ?_
    assumption

end Sys2Proof.Machine
end

