-- ==== Sys2Proof/Laws/Space.lean ====
section
/-! SUPPORT. What each operation of Machine/Space.lean can change, in the terms of Laws/Eff.lean: one lemma an operation. -/

namespace Sys2Proof.Machine

theorem State.setOwner_eff : ∀ s v g n who, Eff 1099511627784 s (State.setOwner s v g n who) := by
  intro s v g n who
  unfold State.setOwner
  extract_lets +onlyGivenNames x0
  clear_value x0
  extract_lets +onlyGivenNames x1
  refine Eff.cut x1 ?_ ?_
  · subst x1
    exact Eff.step (State.updMem_eff _ _ fun _ => rfl) rfl (Eff.refl ..)
  intro hx
  clear_value x1
  extract_lets +onlyGivenNames x2
  refine Eff.cut x2 ?_ ?_
  · subst x2
    refine Eff.ite ?_ ?_
    · assumption
    · refine (State.mirrorGranules_eff ..).step rfl ?_
      assumption
  intro hx
  clear_value x2
  refine Eff.ite ?_ ?_
  · assumption
  · refine (State.mirrorGranules_eff ..).step rfl ?_
    assumption

theorem State.trimForeign_eff : ∀ s p u n, Eff 1024 s (State.trimForeign s p u n) := by
  intro s p u n
  unfold State.trimForeign
  refine Eff.foldl ?_ ?_
  · intro a0
    intro a1
    exact (State.trim_eff ..).mono rfl
  · exact Eff.refl ..

theorem State.takePart_eff {s : State} {p : Nat} {slc : Bool} {e : PartEntry} {x : State} {y : PartEntry} (h : s.takePart p slc e = some (x, y)) :
    Eff 1099511628808 s x := by
  unfold State.takePart at h
  split at h
  · simp only at h
    split at h
    · cases h
    · obtain ⟨g, -, hg⟩ := Option.map_eq_some_iff.1 h
      cases hg
      exact (State.setOwner_eff ..).mono rfl
  · extract_lets n at h
    clear_value n
    generalize (if slc = true then 3 * n else n) = m at h
    split at h
    · cases h
    · obtain ⟨u, -, hu⟩ := Option.map_eq_some_iff.1 h
      cases hu
      exact (State.updFlash_eff ..).step rfl ((State.trimForeign_eff ..).mono rfl)
  · cases h; exact Eff.refl ..

theorem State.takeParts_eff {s : State} {p : Nat} {slc : Bool} {es : List PartEntry} {t : State} {l : List PartEntry}
    (h : s.takeParts p slc es = some (t, l)) : Eff 1099511628808 s t := by
  unfold State.takeParts at h
  suffices hs : ∀ (m : Nat) (_ : ∀ s e x y, s.takePart p slc e = some (x, y) → Eff m s x) (es : List PartEntry)
      (o : Option (State × List PartEntry)), (∀ x, o = some x → Eff m s x.1) →
      ∀ x, es.foldl (fun (r : Option (State × List PartEntry)) e => match r with
        | none => none
        | some (s, l) => (s.takePart p slc e).map fun x => (x.1, l ++ [x.2])) o = some x → Eff m s x.1 by
    refine hs _ ?_ es _ ?_ _ h
    · exact fun _ _ _ _ hx => (State.takePart_eff hx).mono rfl
    · exact fun x e => by cases e; exact Eff.refl ..
  intro m hm es
  induction es with
  | nil => exact fun o ho x e => ho x e
  | cons e r ih =>
    intro o ho
    refine ih _ fun x hx => ?_
    cases o with
    | none => cases hx
    | some y =>
      obtain ⟨z, hz, rfl⟩ := Option.map_eq_some_iff.1 hx
      exact (hm _ _ z.1 z.2 hz).step (by simp [subMask]) (ho _ rfl)

theorem State.freePart_eff : ∀ s e, Eff 1099511628808 s (State.freePart s e) := by
  intro s e
  unfold State.freePart
  split
  · refine (State.setOwner_eff ..).step rfl ?_
    exact Eff.refl ..
  · refine (State.updFlash_eff ..).step rfl ?_
    exact (State.trim_eff ..).mono rfl
  · exact Eff.refl ..

theorem State.freeParts_eff : ∀ s es, Eff 1099511628808 s (State.freeParts s es) := by
  intro s es
  unfold State.freeParts
  refine Eff.foldl ?_ ?_
  · intro a0
    intro a1
    exact (State.freePart_eff ..).mono rfl
  · exact Eff.refl ..

theorem State.writeImage_eff : ∀ s c p ps img, Eff 1103806596680 s (State.writeImage s c p ps img) := by
  intro s c p ps img
  unfold State.writeImage
  refine Eff.foldl_fst ?_ ?_
  · intro a0
    intro a1
    intro a2
    extract_lets +onlyGivenNames x3
    clear_value x3
    extract_lets +onlyGivenNames x4
    clear_value x4
    extract_lets +onlyGivenNames x5
    refine Eff.cut x5 ?_ ?_
    · subst x5
      refine Eff.ite ?_ ?_
      · refine Eff.pair_fst ?_
        exact Eff.refl ..
      · refine Eff.ite ?_ ?_
        · refine (State.writeDev_eff ..).step rfl ?_
          exact (State.charge_eff ..).mono rfl
        · exact (State.flashWrite_eff ..).mono rfl
    intro hx
    clear_value x5
    assumption
  · refine Eff.pair_fst ?_
    exact Eff.refl ..

theorem State.copyWords_eff : ∀ s src dst n, Eff 1133853425498 s (State.copyWords s src dst n) := by
  intro s src dst n
  unfold State.copyWords
  extract_lets r
  refine Eff.cut r.1 (Eff.foldl_fst (fun _ _ _ => (State.copyRead_eff ..).mono rfl) (Eff.refl ..)) fun hr => ?_
  clear_value r
  exact Eff.step (State.updMem_cells_eff _ _ fun _ h => foldl_wf (fun _ _ hc => putWord_wf _ _ hc) _ h) rfl hr

theorem State.copyUnits_eff : ∀ s p src dst n, Eff 1288 s (State.copyUnits s p src dst n) := by
  intro s p src dst n
  unfold State.copyUnits
  refine Eff.foldl ?_ ?_
  · intro a0
    intro a1
    extract_lets +onlyGivenNames x2
    clear_value x2
    refine Eff.ite ?_ ?_
    · exact Eff.refl ..
    · extract_lets +onlyGivenNames x3
      refine Eff.cut x3.1 ?_ ?_
      · subst x3
        exact (State.passUnit_eff ..).mono rfl
      intro hx
      clear_value x3
      refine (State.flashIssue_eff ..).step rfl ?_
      assumption
  · exact Eff.refl ..

theorem State.hostRead_eff : ∀ s placer places need off n, Eff 16 s (State.hostRead s placer places need off n).1 := by
  intro s placer places need off n
  unfold State.hostRead
  extract_lets +onlyGivenNames x0
  clear_value x0
  extract_lets +onlyGivenNames x1
  clear_value x1
  extract_lets +onlyGivenNames x2
  clear_value x2
  refine Eff.ite_fst ?_ ?_
  · refine Eff.pair_fst ?_
    exact Eff.refl ..
  · refine Eff.pair_fst ?_
    refine Eff.foldl ?_ ?_
    · intro a3
      intro a4
      refine Eff.ite ?_ ?_
      · exact (State.issueRead_eff ..).mono rfl
      · exact Eff.refl ..
    · exact Eff.refl ..

theorem State.hostPut_eff : ∀ s c placer ext off bs bad, Eff 4294967376 s (State.hostPut s c placer ext off bs bad).1 := by
  intro s c placer ext off bs bad
  unfold State.hostPut
  extract_lets +onlyGivenNames x0
  clear_value x0
  refine Eff.ite_fst ?_ ?_
  · refine Eff.pair_fst ?_
    exact Eff.refl ..
  · extract_lets +onlyGivenNames x1
    refine Eff.cut x1 ?_ ?_
    · subst x1
      exact (State.charge_eff ..).mono rfl
    intro hx
    clear_value x1
    refine Eff.pair_fst ?_
    refine Eff.foldl_fst ?_ ?_
    · intro a2
      intro a3
      intro a4
      refine Eff.pair_fst ?_
      exact (State.updHost_eff ..).mono rfl
    · assumption

theorem State.copyPart_eff : ∀ s k p placer old new, Eff 1133853425498 s (State.copyPart s k p placer old new) := by
  intro s k p placer old new
  unfold State.copyPart
  split
  · exact (State.copyWords_eff ..).mono rfl
  · exact (State.copyUnits_eff ..).mono rfl
  · split
    · refine Eff.of_fst ‹_ = (_, _)› ?_
      exact (State.hostRead_eff ..).mono rfl
    · refine (State.hostPut_eff ..).step rfl ?_
      refine Eff.of_fst ‹_ = (_, _)› ?_
      exact (State.hostRead_eff ..).mono rfl

end Sys2Proof.Machine
end

