-- ==== Sys2Proof/Laws/Objects.lean ====
section
/-! SUPPORT. What each operation of Machine/Objects.lean can change, in the terms of Laws/Eff.lean: one lemma an operation. -/

namespace Sys2Proof.Machine

theorem State.updObj_eff : ∀ s o f, Eff 16384 s (State.updObj s o f) := by
  intro s o f
  unfold State.updObj
  exact (State.putObjs_eff ..).mono rfl

theorem State.rebase_eff : ∀ s as f, Eff 1099511628288 s (State.rebase s as f) := by
  intro s as f
  unfold State.rebase
  refine Eff.foldl ?_ ?_
  · intro a0
    intro a1
    extract_lets +onlyGivenNames x2
    clear_value x2
    refine Eff.ite ?_ ?_
    · exact Eff.refl ..
    · refine (State.writeDev_eff ..).step rfl ?_
      exact Eff.refl ..
  · exact Eff.refl ..

theorem State.mirrorTable_eff : ∀ s slot, Eff 1099511628288 s (State.mirrorTable s slot) := by
  intro s slot
  unfold State.mirrorTable
  split
  · exact Eff.refl ..
  · split
    · exact Eff.refl ..
    · extract_lets +onlyGivenNames x0
      clear_value x0
      refine (State.writeDev_eff ..).step rfl ?_
      refine (State.writeDev_eff ..).step rfl ?_
      exact (State.writeDev_eff ..).mono rfl

theorem State.mirrorShard_eff : ∀ s slot, Eff 1099511628296 s (State.mirrorShard s slot) := by
  intro s slot
  unfold State.mirrorShard
  split
  · exact Eff.refl ..
  · split
    · exact Eff.refl ..
    · extract_lets +onlyGivenNames x0
      clear_value x0
      refine Eff.foldl ?_ ?_
      · intro a1
        intro a2
        split
        · extract_lets +onlyGivenNames x3
          clear_value x3
          iterate 4 refine (State.writeDev_eff ..).step rfl ?_
          exact (State.wr_eff ..).mono rfl
        · exact Eff.refl ..
      · exact Eff.refl ..

theorem State.followPart_eff : ∀ s o old new, Eff 539131904 s (State.followPart s o old new) := by
  intro s o old new
  unfold State.followPart
  extract_lets +onlyGivenNames x0
  clear_value x0
  refine (State.putWeights_eff ..).step rfl ?_
  refine (State.putPools_eff ..).step rfl ?_
  refine (State.putShards_eff ..).step rfl ?_
  exact (State.putTables_eff ..).mono rfl

theorem State.putPart_eff : ∀ s k o new, Eff 1133853474650 s (State.putPart s k o new) := by
  intro s k o new
  unfold State.putPart
  split
  · exact Eff.refl ..
  · extract_lets +onlyGivenNames x0
    clear_value x0
    split
    · exact (State.updObj_eff ..).mono rfl
    · extract_lets +onlyGivenNames x1
      refine Eff.cut x1 ?_ ?_
      · subst x1
        refine Eff.ite ?_ ?_
        · refine (State.followPart_eff ..).step rfl ?_
          exact (State.copyPart_eff ..).mono rfl
        · exact Eff.refl ..
      intro hx
      clear_value x1
      extract_lets +onlyGivenNames x2
      clear_value x2
      extract_lets +onlyGivenNames x3
      refine Eff.cut x3 ?_ ?_
      · subst x3
        refine (State.updObj_eff ..).step rfl ?_
        refine (State.freePart_eff ..).step rfl ?_
        assumption
      intro hx
      clear_value x3
      refine (State.rebase_eff ..).step rfl ?_
      assumption

theorem State.mirrorRow_eff : ∀ s slot r, Eff 1099511628288 s (State.mirrorRow s slot r) := by
  intro s slot r
  unfold State.mirrorRow
  split
  · exact Eff.refl ..
  · extract_lets +onlyGivenNames x0
    clear_value x0
    refine Eff.ite ?_ ?_
    · exact Eff.refl ..
    · exact (State.writeDev_eff ..).mono rfl

theorem State.startMove_eff : ∀ s slot row tier, Eff 1099513725448 s (State.startMove s slot row tier).1 := by
  intro s slot row tier
  unfold State.startMove
  split
  · refine Eff.pair_fst ?_
    exact Eff.refl ..
  · extract_lets +onlyGivenNames x0
    clear_value x0
    refine Eff.ite_fst ?_ ?_
    · refine Eff.pair_fst ?_
      exact Eff.refl ..
    · refine Eff.ite_fst ?_ ?_
      · refine Eff.pair_fst ?_
        exact Eff.refl ..
      · split
        · refine Eff.pair_fst ?_
          exact Eff.refl ..
        · extract_lets +onlyGivenNames x1
          refine Eff.cut x1 ?_ ?_
          · subst x1
            exact (State.updTable_eff ..).mono rfl
          intro hx
          clear_value x1
          refine Eff.pair_fst ?_
          refine (State.mirrorRow_eff ..).step rfl ?_
          refine (State.inc_eff ..).step rfl ?_
          assumption

theorem State.placeRows_eff : ∀ s k r, Eff 1108083614552 s (State.placeRows s k r) := by
  intro s k r
  unfold State.placeRows
  split
  · exact (State.endReq_eff ..).mono rfl
  · extract_lets +onlyGivenNames x0
    clear_value x0
    refine Eff.ite ?_ ?_
    · exact Eff.refl ..
    · extract_lets +onlyGivenNames x1
      refine Eff.cut x1.1 ?_ ?_
      · subst x1
        refine Eff.foldl_fst ?_ ?_
        · intro a2
          intro a3
          intro a4
          extract_lets +onlyGivenNames x5
          clear_value x5
          extract_lets +onlyGivenNames x6
          refine Eff.cut x6.1 ?_ ?_
          · subst x6
            exact (State.startMove_eff ..).mono rfl
          intro hx
          clear_value x6
          split
          · assumption
          · assumption
        · refine Eff.pair_fst ?_
          exact Eff.refl ..
      intro hx
      clear_value x1
      refine (State.endReq_eff ..).step rfl ?_
      assumption

theorem State.movesRead_eff : ∀ s k o es, Eff 16 s (State.movesRead s k o es).1 := by
  intro s k o es
  unfold State.movesRead
  split
  · refine Eff.pair_fst ?_
    exact Eff.refl ..
  · refine Eff.ite_fst ?_ ?_
    · refine Eff.pair_fst ?_
      exact Eff.refl ..
    · refine Eff.foldl_fst ?_ ?_
      · intro a0
        intro a1
        intro a2
        extract_lets +onlyGivenNames x3
        refine Eff.cut x3.1 ?_ ?_
        · subst x3
          exact (State.hostRead_eff ..).mono rfl
        intro hx
        clear_value x3
        assumption
      · refine Eff.pair_fst ?_
        exact Eff.refl ..

theorem State.objectPlace_eff : ∀ s k, Eff 1133853474650 s (State.objectPlace s k) := by
  intro s k
  unfold State.objectPlace
  refine State.onReq_eff ?_ ?_
  · exact Eff.refl ..
  · intro a0
    refine Eff.ite ?_ ?_
    · exact (State.endReq_eff ..).mono rfl
    · refine Eff.ite ?_ ?_
      · exact (State.endReq_eff ..).mono rfl
      · refine Eff.ite ?_ ?_
        · exact (State.placeRows_eff ..).mono rfl
        · split
          · exact (State.peek_eff ..).mono rfl
          · exact (State.endReq_eff ..).mono rfl
          · split
            · refine Eff.of_fst ‹_ = (_, _)› ?_
              exact (State.gather_eff ..).mono rfl
            · refine Eff.ite ?_ ?_
              · refine (State.endReq_eff ..).step rfl ?_
                refine Eff.of_fst ‹_ = (_, _)› ?_
                exact (State.gather_eff ..).mono rfl
              · extract_lets +onlyGivenNames x1
                refine Eff.cut x1.1 ?_ ?_
                · subst x1
                  refine (State.movesRead_eff ..).step rfl ?_
                  refine Eff.of_fst ‹_ = (_, _)› ?_
                  exact (State.gather_eff ..).mono rfl
                intro hx
                clear_value x1
                refine Eff.ite ?_ ?_
                · assumption
                · extract_lets +onlyGivenNames x2
                  refine Eff.cut x2 ?_ ?_
                  · subst x2
                    assumption
                  intro hx
                  clear_value x2
                  split
                  · refine (State.endReq_eff ..).step rfl ?_
                    assumption
                  · extract_lets +onlyGivenNames x3
                    clear_value x3
                    extract_lets +onlyGivenNames x4
                    refine Eff.cut x4 ?_ ?_
                    · subst x4
                      refine Eff.ite ?_ ?_
                      · refine (State.takeParts_eff (by assumption)).step rfl ?_
                        assumption
                      · refine (State.putObjs_eff ..).step rfl ?_
                        refine (State.takeParts_eff (by assumption)).step rfl ?_
                        assumption
                    intro hx
                    clear_value x4
                    extract_lets +onlyGivenNames x5
                    refine Eff.cut x5 ?_ ?_
                    · subst x5
                      refine (State.setInputs_eff ..).step rfl ?_
                      assumption
                    intro hx
                    clear_value x5
                    refine (State.endReq_eff ..).step rfl ?_
                    refine (State.updObj_eff ..).step rfl ?_
                    refine Eff.foldl ?_ ?_
                    · intro a6
                      intro a7
                      exact (State.putPart_eff ..).mono rfl
                    · assumption

theorem execOpObjectPlace_eff : ∀ client req s, OutEff 1133853474650 s (execOpObjectPlace client req s) := by
  intro client req s
  unfold execOpObjectPlace
  refine OutEff.next ?_
  exact (State.objectPlace_eff ..).mono rfl

theorem State.clearTree_eff : ∀ s t, Eff 134217736 s (State.clearTree s t) := by
  intro s t
  unfold State.clearTree
  iterate 4 refine (State.wr_eff ..).step rfl ?_
  exact (State.putTrees_eff ..).mono rfl

theorem State.beginLoad_eff : ∀ s k r x ps tail, Eff 1104479995464 s (State.beginLoad s k r x ps tail) := by
  intro s k r x ps tail
  unfold State.beginLoad
  extract_lets +onlyGivenNames x0
  clear_value x0
  extract_lets +onlyGivenNames x1
  clear_value x1
  extract_lets +onlyGivenNames x2
  clear_value x2
  extract_lets +onlyGivenNames x3
  refine Eff.cut x3 ?_ ?_
  · subst x3
    exact (State.writeImage_eff ..).mono rfl
  intro hx
  clear_value x3
  extract_lets +onlyGivenNames x4
  refine Eff.cut x4 ?_ ?_
  · subst x4
    refine (State.rebase_eff ..).step rfl ?_
    assumption
  intro hx
  clear_value x4
  extract_lets +onlyGivenNames x5
  refine Eff.cut x5 ?_ ?_
  · subst x5
    refine Eff.ite ?_ ?_
    · refine (State.initAcc_eff ..).step rfl ?_
      assumption
    · assumption
  intro hx
  clear_value x5
  extract_lets +onlyGivenNames x6
  clear_value x6
  extract_lets +onlyGivenNames x7
  refine Eff.cut x7 ?_ ?_
  · subst x7
    refine (State.putObjs_eff ..).step rfl ?_
    assumption
  intro hx
  clear_value x7
  split
  · refine Eff.ite ?_ ?_
    · refine (State.updTable_eff ..).step rfl ?_
      assumption
    · refine (State.wr_eff ..).step rfl ?_
      assumption
  · refine (State.wr_eff ..).step rfl ?_
    refine (State.wr_eff ..).step rfl ?_
    refine (State.putShards_eff ..).step rfl ?_
    assumption
  · extract_lets +onlyGivenNames x8
    clear_value x8
    refine (State.updFlash_eff ..).step rfl ?_
    refine (State.wr_eff ..).step rfl ?_
    refine (State.putPools_eff ..).step rfl ?_
    refine (State.clearTree_eff ..).step rfl ?_
    assumption
  · refine (State.putAdapters_eff ..).step rfl ?_
    assumption
  · assumption

theorem State.tableTail_eff : ∀ s k r x, Eff 1108083614552 s (State.tableTail s k r x).1 := by
  intro s k r x
  unfold State.tableTail
  extract_lets +onlyGivenNames x0
  clear_value x0
  extract_lets +onlyGivenNames x1
  clear_value x1
  refine Eff.ite_fst ?_ ?_
  · refine Eff.pair_fst ?_
    exact Eff.refl ..
  · extract_lets +onlyGivenNames x2
    refine Eff.cut x2.1 ?_ ?_
    · subst x2
      refine Eff.foldl_fst ?_ ?_
      · intro a3
        intro a4
        intro a5
        extract_lets +onlyGivenNames x6
        refine Eff.cut x6.1 ?_ ?_
        · subst x6
          exact (State.hostRead_eff ..).mono rfl
        intro hx
        clear_value x6
        assumption
      · refine Eff.pair_fst ?_
        exact Eff.refl ..
    intro hx
    clear_value x2
    refine Eff.ite_fst ?_ ?_
    · refine Eff.pair_fst ?_
      refine (State.endPoison_eff ..).step rfl ?_
      assumption
    · refine Eff.ite_fst ?_ ?_
      · assumption
      · assumption

theorem State.objectLoad_eff : ∀ s k, Eff 1108083697496 s (State.objectLoad s k) := by
  intro s k
  unfold State.objectLoad
  refine State.onReq_eff ?_ ?_
  · exact Eff.refl ..
  · intro a0
    split
    · exact (State.endReq_eff ..).mono rfl
    · refine Eff.ite ?_ ?_
      · exact Eff.refl ..
      · refine Eff.ite ?_ ?_
        · exact (State.endReq_eff ..).mono rfl
        · refine Eff.ite ?_ ?_
          · exact (State.endReq_eff ..).mono rfl
          · refine Eff.ite ?_ ?_
            · exact (State.endReq_eff ..).mono rfl
            · split
              · refine Eff.of_fst ‹_ = (_, _)› ?_
                exact (State.tableTail_eff ..).mono rfl
              · refine Eff.ite ?_ ?_
                · refine (State.endReq_eff ..).step rfl ?_
                  refine Eff.of_fst ‹_ = (_, _)› ?_
                  exact (State.tableTail_eff ..).mono rfl
                · refine Eff.ite ?_ ?_
                  · refine (State.endReq_eff ..).step rfl ?_
                    refine Eff.of_fst ‹_ = (_, _)› ?_
                    exact (State.tableTail_eff ..).mono rfl
                  · refine Eff.ite ?_ ?_
                    · split
                      · refine (State.endReq_eff ..).step rfl ?_
                        refine Eff.of_fst ‹_ = (_, _)› ?_
                        exact (State.tableTail_eff ..).mono rfl
                      · refine (State.beginLoad_eff ..).step rfl ?_
                        refine (State.takeParts_eff (by assumption)).step rfl ?_
                        refine Eff.of_fst ‹_ = (_, _)› ?_
                        exact (State.tableTail_eff ..).mono rfl
                    · refine (State.beginLoad_eff ..).step rfl ?_
                      refine Eff.of_fst ‹_ = (_, _)› ?_
                      exact (State.tableTail_eff ..).mono rfl

theorem execOpObjectLoad_eff : ∀ client req s, OutEff 1108083697496 s (execOpObjectLoad client req s) := by
  intro client req s
  unfold execOpObjectLoad
  refine OutEff.next ?_
  exact (State.objectLoad_eff ..).mono rfl

theorem State.showTable_eff : ∀ s slot t, Eff 8 s (State.showTable s slot t) := by
  intro s slot t
  unfold State.showTable
  extract_lets +onlyGivenNames x0
  refine Eff.cut x0 ?_ ?_
  · subst x0
    refine (State.wr_eff ..).step rfl ?_
    exact (State.wr_eff ..).mono rfl
  intro hx
  clear_value x0
  extract_lets +onlyGivenNames x1
  refine Eff.cut x1 ?_ ?_
  · subst x1
    refine (State.wr_eff ..).step rfl ?_
    refine (State.wr_eff ..).step rfl ?_
    assumption
  intro hx
  clear_value x1
  refine (State.wr_eff ..).step rfl ?_
  refine (State.wr_eff ..).step rfl ?_
  assumption

theorem State.firstTable_eff : ∀ s o y, Eff 1099513725448 s (State.firstTable s o y).1 := by
  intro s o y
  unfold State.firstTable
  extract_lets +onlyGivenNames x0
  clear_value x0
  extract_lets +onlyGivenNames x1
  refine Eff.cut x1 ?_ ?_
  · subst x1
    exact (State.putTables_eff ..).mono rfl
  intro hx
  clear_value x1
  refine Eff.pair_fst ?_
  refine (State.mirrorTable_eff ..).step rfl ?_
  refine (State.wr_eff ..).step rfl ?_
  refine (State.showTable_eff ..).step rfl ?_
  assumption

theorem State.replaceTable_eff : ∀ s o x y old, Eff 1099513742856 s (State.replaceTable s o x y old).1 := by
  intro s o x y old
  unfold State.replaceTable
  extract_lets +onlyGivenNames x0
  clear_value x0
  extract_lets +onlyGivenNames x1
  clear_value x1
  extract_lets +onlyGivenNames x2
  clear_value x2
  extract_lets +onlyGivenNames x3
  clear_value x3
  extract_lets +onlyGivenNames x4
  refine Eff.cut x4 ?_ ?_
  · subst x4
    refine Eff.ite ?_ ?_
    · exact (State.freeParts_eff ..).mono rfl
    · refine (State.putObjs_eff ..).step rfl ?_
      exact (State.putTables_eff ..).mono rfl
  intro hx
  clear_value x4
  extract_lets +onlyGivenNames x5
  refine Eff.cut x5 ?_ ?_
  · subst x5
    refine (State.putTables_eff ..).step rfl ?_
    assumption
  intro hx
  clear_value x5
  extract_lets +onlyGivenNames x6
  refine Eff.cut x6 ?_ ?_
  · subst x6
    refine (State.updObj_eff ..).step rfl ?_
    assumption
  intro hx
  clear_value x6
  refine Eff.pair_fst ?_
  refine (State.mirrorTable_eff ..).step rfl ?_
  refine (State.showTable_eff ..).step rfl ?_
  assumption

theorem State.finishLoad_eff : ∀ s o x y, Eff 1100067630600 s (State.finishLoad s o x y).1 := by
  intro s o x y
  unfold State.finishLoad
  extract_lets +onlyGivenNames x0
  clear_value x0
  extract_lets +onlyGivenNames x1
  clear_value x1
  split
  · extract_lets +onlyGivenNames x2
    clear_value x2
    extract_lets +onlyGivenNames x3
    clear_value x3
    extract_lets +onlyGivenNames x4
    refine Eff.cut x4 ?_ ?_
    · subst x4
      refine (State.putObjs_eff ..).step rfl ?_
      exact (State.putWeights_eff ..).mono rfl
    intro hx
    clear_value x4
    refine Eff.pair_fst ?_
    refine (State.updObj_eff ..).step rfl ?_
    assumption
  · refine Eff.ite_fst ?_ ?_
    · refine Eff.pair_fst ?_
      refine (State.wr_eff ..).step rfl ?_
      exact (State.putVocabs_eff ..).mono rfl
    · split
      · exact (State.firstTable_eff ..).mono rfl
      · exact (State.replaceTable_eff ..).mono rfl
  · extract_lets +onlyGivenNames x5
    clear_value x5
    extract_lets +onlyGivenNames x6
    clear_value x6
    extract_lets +onlyGivenNames x7
    refine Eff.cut x7 ?_ ?_
    · subst x7
      exact (State.putShards_eff ..).mono rfl
    intro hx
    clear_value x7
    extract_lets +onlyGivenNames x8
    refine Eff.cut x8 ?_ ?_
    · subst x8
      refine (State.wr_eff ..).step rfl ?_
      refine (State.wr_eff ..).step rfl ?_
      assumption
    intro hx
    clear_value x8
    refine Eff.pair_fst ?_
    refine (State.mirrorShard_eff ..).step rfl ?_
    refine (State.wr_eff ..).step rfl ?_
    refine (State.wr_eff ..).step rfl ?_
    assumption
  · extract_lets +onlyGivenNames x9
    refine Eff.cut x9 ?_ ?_
    · subst x9
      exact (State.putPools_eff ..).mono rfl
    intro hx
    clear_value x9
    extract_lets +onlyGivenNames x10
    refine Eff.cut x10 ?_ ?_
    · subst x10
      refine (State.wr_eff ..).step rfl ?_
      refine (State.wr_eff ..).step rfl ?_
      assumption
    intro hx
    clear_value x10
    refine Eff.pair_fst ?_
    refine (State.wr_eff ..).step rfl ?_
    refine (State.wr_eff ..).step rfl ?_
    assumption
  · extract_lets +onlyGivenNames x11
    clear_value x11
    extract_lets +onlyGivenNames x12
    clear_value x12
    extract_lets +onlyGivenNames x13
    refine Eff.cut x13 ?_ ?_
    · subst x13
      exact (State.putAdapters_eff ..).mono rfl
    intro hx
    clear_value x13
    assumption
  · extract_lets +onlyGivenNames x14
    refine Eff.cut x14 ?_ ?_
    · subst x14
      exact (State.loadProgram_eff ..).mono rfl
    intro hx
    clear_value x14
    refine Eff.pair_fst ?_
    refine (State.setPart_eff ..).step rfl ?_
    assumption

theorem State.dropLoad_eff : ∀ s o x y, Eff 1099513807880 s (State.dropLoad s o x y) := by
  intro s o x y
  unfold State.dropLoad
  extract_lets +onlyGivenNames x0
  clear_value x0
  extract_lets +onlyGivenNames x1
  clear_value x1
  extract_lets +onlyGivenNames x2
  refine Eff.cut x2 ?_ ?_
  · subst x2
    refine Eff.ite ?_ ?_
    · refine (State.putObjs_eff ..).step rfl ?_
      exact (State.freeParts_eff ..).mono rfl
    · exact Eff.refl ..
  intro hx
  clear_value x2
  extract_lets +onlyGivenNames x3
  refine Eff.cut x3 ?_ ?_
  · subst x3
    refine (State.updObj_eff ..).step rfl ?_
    assumption
  intro hx
  clear_value x3
  split
  · refine Eff.ite ?_ ?_
    · refine (State.updTable_eff ..).step rfl ?_
      assumption
    · refine (State.wr_eff ..).step rfl ?_
      assumption
  · refine (State.wr_eff ..).step rfl ?_
    refine (State.wr_eff ..).step rfl ?_
    assumption
  · refine (State.wr_eff ..).step rfl ?_
    assumption
  · refine (State.putAdapters_eff ..).step rfl ?_
    assumption
  · assumption

theorem State.loadComplete_eff : ∀ s o, Eff 1108100509528 s (State.loadComplete s o) := by
  intro s o
  unfold State.loadComplete
  split
  · exact Eff.refl ..
  · refine Eff.ite ?_ ?_
    · exact Eff.refl ..
    · extract_lets +onlyGivenNames x0
      clear_value x0
      refine Eff.ite ?_ ?_
      · refine (State.dropLoad_eff ..).step rfl ?_
        exact Eff.refl ..
      · extract_lets +onlyGivenNames x1
        refine Eff.cut x1.1 ?_ ?_
        · subst x1
          exact (State.finishLoad_eff ..).mono rfl
        intro hx
        clear_value x1
        extract_lets +onlyGivenNames x2
        refine Eff.cut x2 ?_ ?_
        · subst x2
          refine (State.putObjs_eff ..).step rfl ?_
          assumption
        intro hx
        clear_value x2
        refine (State.endReq_eff ..).step rfl ?_
        refine (State.updObj_eff ..).step rfl ?_
        assumption

theorem execObjectLoadComplete_eff : ∀ object s, OutEff 1108100509528 s (execObjectLoadComplete object s) := by
  intro object s
  unfold execObjectLoadComplete
  refine OutEff.next ?_
  exact (State.loadComplete_eff ..).mono rfl

theorem State.adapterLoad_eff : ∀ s k, Eff 1108083680088 s (State.adapterLoad s k) := by
  intro s k
  unfold State.adapterLoad
  refine State.onReq_eff ?_ ?_
  · exact Eff.refl ..
  · intro a0
    extract_lets +onlyGivenNames x1
    clear_value x1
    refine Eff.ite ?_ ?_
    · exact Eff.refl ..
    · refine Eff.ite ?_ ?_
      · exact (State.endReq_eff ..).mono rfl
      · refine Eff.ite ?_ ?_
        · exact (State.endReq_eff ..).mono rfl
        · refine Eff.ite ?_ ?_
          · exact (State.endReq_eff ..).mono rfl
          · exact (State.putAdapters_eff ..).mono rfl

theorem execOpAdapterLoad_eff : ∀ client req s, OutEff 1108083680088 s (execOpAdapterLoad client req s) := by
  intro client req s
  unfold execOpAdapterLoad
  refine OutEff.next ?_
  exact (State.adapterLoad_eff ..).mono rfl

theorem State.adapterDone_eff : ∀ s p id ver, Eff 1108083680088 s (State.adapterDone s p id ver) := by
  intro s p id ver
  unfold State.adapterDone
  split
  · exact Eff.refl ..
  · refine Eff.ite ?_ ?_
    · refine (State.putAdapters_eff ..).step rfl ?_
      exact Eff.refl ..
    · extract_lets +onlyGivenNames x0
      refine Eff.cut x0 ?_ ?_
      · subst x0
        exact (State.putAdapters_eff ..).mono rfl
      intro hx
      clear_value x0
      refine State.onReq_eff ?_ ?_
      · assumption
      · intro a1
        refine (State.endReq_eff ..).step rfl ?_
        assumption

theorem execAdapterLoadComplete_eff : ∀ part adapter version s, OutEff 1108083680088 s (execAdapterLoadComplete part adapter version s) := by
  intro part adapter version s
  unfold execAdapterLoadComplete
  refine OutEff.next ?_
  exact (State.adapterDone_eff ..).mono rfl

theorem State.adapterRetire_eff : ∀ s k, Eff 1108083680088 s (State.adapterRetire s k) := by
  intro s k
  unfold State.adapterRetire
  refine State.onReq_eff ?_ ?_
  · exact Eff.refl ..
  · intro a0
    split
    · refine (State.endReq_eff ..).step rfl ?_
      exact Eff.refl ..
    · refine (State.endReq_eff ..).step rfl ?_
      exact (State.putAdapters_eff ..).mono rfl

theorem execOpAdapterRetire_eff : ∀ client req s, OutEff 1108083680088 s (execOpAdapterRetire client req s) := by
  intro client req s
  unfold execOpAdapterRetire
  refine OutEff.next ?_
  exact (State.adapterRetire_eff ..).mono rfl

theorem State.noteRetired_eff : ∀ s a, Eff 8192 s (State.noteRetired s a) := by
  intro s a
  unfold State.noteRetired
  extract_lets +onlyGivenNames x0
  clear_value x0
  refine Eff.ite ?_ ?_
  · exact Eff.refl ..
  · exact (State.setPart_eff ..).mono rfl

theorem State.reap_eff : ∀ s, Eff 1099511751688 s (State.reap s) := by
  intro s
  unfold State.reap
  extract_lets +onlyGivenNames x0
  clear_value x0
  extract_lets +onlyGivenNames x1
  refine Eff.cut x1 ?_ ?_
  · subst x1
    refine Eff.foldl ?_ ?_
    · intro a2
      intro a3
      exact (State.noteRetired_eff ..).mono rfl
    · exact (State.putAdapters_eff ..).mono rfl
  intro hx
  clear_value x1
  extract_lets +onlyGivenNames x4
  clear_value x4
  refine Eff.foldl ?_ ?_
  · intro a5
    intro a6
    extract_lets +onlyGivenNames x7
    refine Eff.cut x7 ?_ ?_
    · subst x7
      split
      · exact (State.freeParts_eff ..).mono rfl
      · exact Eff.refl ..
    intro hx
    clear_value x7
    refine (State.putObjs_eff ..).step rfl ?_
    refine (State.putWeights_eff ..).step rfl ?_
    assumption
  · assumption

theorem State.settleTrees_eff : ∀ s, Eff 1133853425498 s (State.settleTrees s) := by
  intro s
  unfold State.settleTrees
  refine Eff.foldl ?_ ?_
  · intro a0
    intro a1
    exact (State.resetPartition_eff ..).mono rfl
  · exact Eff.refl ..

theorem execCompletionPost_eff : ∀ client s, OutEff 1271292493658 s (execCompletionPost client s) := by
  intro client s
  unfold execCompletionPost
  refine OutEff.next ?_
  refine (State.reap_eff ..).step rfl ?_
  refine (State.settleTrees_eff ..).step rfl ?_
  exact (State.post_eff ..).mono rfl

end Sys2Proof.Machine
end

