-- ==== Sys2Proof/Laws/Search.lean ====
section
/-! SUPPORT. What each operation of Machine/Search.lean can change, in the terms of Laws/Eff.lean: one lemma an operation. -/

namespace Sys2Proof.Machine

theorem State.updShard_eff : ∀ s slot f, Eff 131072 s (State.updShard s slot f) := by
  intro s slot f
  unfold State.updShard
  exact (State.putShards_eff ..).mono rfl

theorem State.pinShard_eff : ∀ s k slot, Eff 131072 s (State.pinShard s k slot).1 := by
  intro s k slot
  unfold State.pinShard
  split
  · refine Eff.pair_fst ?_
    exact Eff.refl ..
  · split
    · refine Eff.pair_fst ?_
      exact Eff.refl ..
    · extract_lets +onlyGivenNames x0
      clear_value x0
      refine Eff.pair_fst ?_
      exact (State.updShard_eff ..).mono rfl

theorem State.queueWalks_eff : ∀ s k slot attempt beam, Eff 1572864 s (State.queueWalks s k slot attempt beam) := by
  intro s k slot attempt beam
  unfold State.queueWalks
  refine (State.putWalkOrder_eff ..).step rfl ?_
  exact (State.putWalks_eff ..).mono rfl

theorem State.updSearch_eff : ∀ s k f, Eff 262144 s (State.updSearch s k f) := by
  intro s k f
  unfold State.updSearch
  exact (State.putSearches_eff ..).mono rfl

theorem State.beginSearch_eff : ∀ s k slots params sketch origin, Eff 1966080 s (State.beginSearch s k slots params sketch origin) := by
  intro s k slots params sketch origin
  unfold State.beginSearch
  extract_lets +onlyGivenNames x0
  refine Eff.cut x0.1 ?_ ?_
  · subst x0
    refine Eff.foldl_fst ?_ ?_
    · intro a1
      intro a2
      intro a3
      extract_lets +onlyGivenNames x4
      refine Eff.cut x4.1 ?_ ?_
      · subst x4
        exact (State.pinShard_eff ..).mono rfl
      intro hx
      clear_value x4
      assumption
    · refine Eff.pair_fst ?_
      exact Eff.refl ..
  intro hx
  clear_value x0
  extract_lets +onlyGivenNames x5
  refine Eff.cut x5 ?_ ?_
  · subst x5
    assumption
  intro hx
  clear_value x5
  extract_lets +onlyGivenNames x6
  refine Eff.cut x6 ?_ ?_
  · subst x6
    refine (State.putSearches_eff ..).step rfl ?_
    assumption
  intro hx
  clear_value x6
  refine Eff.foldl ?_ ?_
  · intro a7
    intro a8
    exact (State.queueWalks_eff ..).mono rfl
  · assumption

theorem State.opSearch_eff : ∀ s k, Eff 1108084663128 s (State.opSearch s k) := by
  intro s k
  unfold State.opSearch
  refine State.onReq_eff ?_ ?_
  · exact Eff.refl ..
  · intro a0
    refine Eff.ite ?_ ?_
    · exact Eff.refl ..
    · split
      · refine (State.endReq_eff ..).step rfl ?_
        exact Eff.refl ..
      · refine Eff.ite ?_ ?_
        · refine (State.endReq_eff ..).step rfl ?_
          exact Eff.refl ..
        · refine Eff.ite ?_ ?_
          · exact Eff.refl ..
          · refine (State.beginSearch_eff ..).step rfl ?_
            exact (State.updReq_eff ..).mono rfl

theorem execOpSearch_eff : ∀ client req s, OutEff 1108084663128 s (execOpSearch client req s) := by
  intro client req s
  unfold execOpSearch
  refine OutEff.next ?_
  exact (State.opSearch_eff ..).mono rfl

theorem State.updWalk_eff : ∀ s order f, Eff 524288 s (State.updWalk s order f) := by
  intro s order f
  unfold State.updWalk
  exact (State.putWalks_eff ..).mono rfl

theorem State.walkStart_eff : ∀ s die, Eff 1108083614552 s (State.walkStart s die) := by
  intro s die
  unfold State.walkStart
  split
  · exact Eff.refl ..
  · extract_lets +onlyGivenNames x0
    clear_value x0
    refine Eff.ite ?_ ?_
    · exact (State.failWork_eff ..).mono rfl
    · split
      · exact Eff.refl ..
      · extract_lets +onlyGivenNames x1
        clear_value x1
        extract_lets +onlyGivenNames x2
        refine Eff.cut x2 ?_ ?_
        · subst x2
          refine Eff.ite ?_ ?_
          · exact (State.incSat_eff ..).mono rfl
          · exact Eff.refl ..
        intro hx
        clear_value x2
        extract_lets +onlyGivenNames x3
        clear_value x3
        extract_lets +onlyGivenNames x4
        refine Eff.cut x4 ?_ ?_
        · subst x4
          refine (State.wr_eff ..).step rfl ?_
          refine (State.inc_eff ..).step rfl ?_
          assumption
        intro hx
        clear_value x4
        refine (State.start_eff ..).step rfl ?_
        refine (State.updWalk_eff ..).step rfl ?_
        assumption

theorem execWalkStart_eff : ∀ die s, OutEff 1108083614552 s (execWalkStart die s) := by
  intro die s
  unfold execWalkStart
  refine OutEff.next ?_
  exact (State.walkStart_eff ..).mono rfl

theorem State.dropWalk_eff : ∀ s w, Eff 524296 s (State.dropWalk s w) := by
  intro s w
  unfold State.dropWalk
  extract_lets +onlyGivenNames x0
  refine Eff.cut x0 ?_ ?_
  · subst x0
    exact (State.freeWalker_eff ..).mono rfl
  intro hx
  clear_value x0
  refine (State.putWalks_eff ..).step rfl ?_
  assumption

theorem State.badWalk_eff : ∀ s w n m, Eff 1133853425498 s (State.badWalk s w n m) := by
  intro s w n m
  unfold State.badWalk
  extract_lets +onlyGivenNames x0
  clear_value x0
  extract_lets +onlyGivenNames x1
  clear_value x1
  refine Eff.ite ?_ ?_
  · refine (State.failWork_eff ..).step rfl ?_
    exact (State.raise_eff ..).mono rfl
  · refine Eff.ite ?_ ?_
    · exact (State.readCtl_eff ..).mono rfl
    · refine (State.failWork_eff ..).step rfl ?_
      exact (State.raise_eff ..).mono rfl

theorem State.usedBy_eff : ∀ s m master, Eff 1133853425498 s (State.usedBy s m master) := by
  intro s m master
  unfold State.usedBy
  refine Eff.foldl ?_ ?_
  · intro a0
    intro a1
    exact (State.readCtl_eff ..).mono rfl
  · refine Eff.step (State.updMem_eff _ _ fun _ => rfl) rfl ?_
    exact Eff.refl ..

theorem State.sweepRead_eff : ∀ s n w, Eff 1133853425498 s (State.sweepRead s n w) := by
  intro s n w
  unfold State.sweepRead
  refine Eff.ite ?_ ?_
  · exact Eff.refl ..
  · split
    · exact Eff.refl ..
    · extract_lets +onlyGivenNames x0
      clear_value x0
      extract_lets +onlyGivenNames x1
      refine Eff.cut x1 ?_ ?_
      · subst x1
        exact (State.usedBy_eff ..).mono rfl
      intro hx
      clear_value x1
      refine Eff.ite ?_ ?_
      · assumption
      · refine (State.badWalk_eff ..).step rfl ?_
        refine (State.dropWalk_eff ..).step rfl ?_
        assumption

theorem State.sweepPass_eff : ∀ s n, Eff 1133853425498 s (State.sweepPass s n) := by
  intro s n
  unfold State.sweepPass
  extract_lets +onlyGivenNames x0
  clear_value x0
  extract_lets +onlyGivenNames x1
  refine Eff.cut x1 ?_ ?_
  · subst x1
    exact (State.putWalks_eff ..).mono rfl
  intro hx
  clear_value x1
  refine Eff.foldl ?_ ?_
  · intro a2
    intro a3
    exact (State.sweepRead_eff ..).mono rfl
  · assumption

theorem execSideSweepPass_eff : ∀ walker s, OutEff 1133853425498 s (execSideSweepPass walker s) := by
  intro walker s
  unfold execSideSweepPass
  refine OutEff.next ?_
  exact (State.sweepPass_eff ..).mono rfl

theorem State.walkEnd_eff : ∀ s order, Eff 1133853425498 s (State.walkEnd s order) := by
  intro s order
  unfold State.walkEnd
  split
  · exact Eff.refl ..
  · split
    · exact Eff.refl ..
    · extract_lets +onlyGivenNames x0
      refine Eff.cut x0 ?_ ?_
      · subst x0
        exact (State.charge_eff ..).mono rfl
      intro hx
      clear_value x0
      split
      · split
        · refine (State.dropWalk_eff ..).step rfl ?_
          assumption
        · refine Eff.ite ?_ ?_
          · exact Eff.refl ..
          · extract_lets +onlyGivenNames x1
            clear_value x1
            extract_lets +onlyGivenNames x2
            clear_value x2
            extract_lets +onlyGivenNames x3
            refine Eff.cut x3 ?_ ?_
            · subst x3
              refine (State.inc_eff ..).step rfl ?_
              exact (State.inc_eff ..).mono rfl
            intro hx
            clear_value x3
            extract_lets +onlyGivenNames x4
            refine Eff.cut x4 ?_ ?_
            · subst x4
              refine (State.charge_eff ..).step rfl ?_
              assumption
            intro hx
            clear_value x4
            extract_lets +onlyGivenNames x5
            refine Eff.cut x5 ?_ ?_
            · subst x5
              refine (State.usedBy_eff ..).step rfl ?_
              assumption
            intro hx
            clear_value x5
            refine Eff.ite ?_ ?_
            · refine (State.badWalk_eff ..).step rfl ?_
              refine (State.dropWalk_eff ..).step rfl ?_
              assumption
            · refine (State.updWalk_eff ..).step rfl ?_
              refine (State.freeWalker_eff ..).step rfl ?_
              assumption
      · refine (State.dropWalk_eff ..).step rfl ?_
        assumption

theorem execWalkEnd_eff : ∀ walk s, OutEff 1133853425498 s (execWalkEnd walk s) := by
  intro walk s
  unfold execWalkEnd
  refine OutEff.next ?_
  exact (State.walkEnd_eff ..).mono rfl

theorem State.clearWalks_eff : ∀ s k slot, Eff 524288 s (State.clearWalks s k slot) := by
  intro s k slot
  unfold State.clearWalks
  exact (State.putWalks_eff ..).mono rfl

theorem State.searchOut_eff : ∀ s k p, Eff 1133853425498 s (State.searchOut s k p) := by
  intro s k p
  unfold State.searchOut
  extract_lets +onlyGivenNames x0
  clear_value x0
  extract_lets +onlyGivenNames x1
  clear_value x1
  extract_lets +onlyGivenNames x2
  clear_value x2
  extract_lets +onlyGivenNames x3
  refine Eff.cut x3 ?_ ?_
  · subst x3
    exact (State.updReq_eff ..).mono rfl
  intro hx
  clear_value x3
  split
  · extract_lets +onlyGivenNames x4
    clear_value x4
    refine (State.endReq_eff ..).step rfl ?_
    refine (State.putOut_eff ..).step rfl ?_
    assumption
  · extract_lets +onlyGivenNames x5
    clear_value x5
    extract_lets +onlyGivenNames x6
    clear_value x6
    refine (State.endReq_eff ..).step rfl ?_
    refine (State.updReq_eff ..).step rfl ?_
    refine (State.putOut_eff ..).step rfl ?_
    assumption

theorem State.indexSettle_eff : ∀ s slot, Eff 1108083614552 s (State.indexSettle s slot) := by
  intro s slot
  unfold State.indexSettle
  split
  · exact Eff.refl ..
  · extract_lets +onlyGivenNames x0
    clear_value x0
    refine Eff.foldl ?_ ?_
    · intro a1
      intro a2
      exact (State.endReq_eff ..).mono rfl
    · exact Eff.refl ..

theorem State.readGens_eff : ∀ s k x, Eff 1133853425498 s (State.readGens s k x) := by
  intro s k x
  unfold State.readGens
  exact (State.readUnits_eff ..).mono rfl

theorem State.indexChange_eff : ∀ s k op, Eff 1133853425498 s (State.indexChange s k op) := by
  intro s k op
  unfold State.indexChange
  refine State.onReq_eff ?_ ?_
  · exact Eff.refl ..
  · intro a0
    extract_lets +onlyGivenNames x1
    clear_value x1
    refine Eff.ite ?_ ?_
    · exact Eff.refl ..
    · split
      · exact (State.endReq_eff ..).mono rfl
      · extract_lets +onlyGivenNames x2
        clear_value x2
        extract_lets +onlyGivenNames x3
        refine Eff.cut x3 ?_ ?_
        · subst x3
          exact (State.readUnits_eff ..).mono rfl
        intro hx
        clear_value x3
        split
        · refine Eff.ite ?_ ?_
          · refine (State.endPoison_eff ..).step rfl ?_
            assumption
          · refine (State.endReq_eff ..).step rfl ?_
            assumption
        · extract_lets +onlyGivenNames x4
          refine Eff.cut x4 ?_ ?_
          · subst x4
            refine (State.readGens_eff ..).step rfl ?_
            assumption
          intro hx
          clear_value x4
          extract_lets +onlyGivenNames x5
          refine Eff.cut x5 ?_ ?_
          · subst x5
            refine (State.updReq_eff ..).step rfl ?_
            refine (State.putShards_eff ..).step rfl ?_
            assumption
          intro hx
          clear_value x5
          extract_lets +onlyGivenNames x6
          refine Eff.cut x6 ?_ ?_
          · subst x6
            refine Eff.ite ?_ ?_
            · assumption
            · refine (State.putOut_eff ..).step rfl ?_
              assumption
          intro hx
          clear_value x6
          refine (State.indexSettle_eff ..).step rfl ?_
          assumption

theorem execOpIndexInsert_eff : ∀ client req s, OutEff 1133853425498 s (execOpIndexInsert client req s) := by
  intro client req s
  unfold execOpIndexInsert
  refine OutEff.next ?_
  exact (State.indexChange_eff ..).mono rfl

theorem execOpIndexDelete_eff : ∀ client req s, OutEff 1133853425498 s (execOpIndexDelete client req s) := by
  intro client req s
  unfold execOpIndexDelete
  refine OutEff.next ?_
  exact (State.indexChange_eff ..).mono rfl

theorem State.logRemove_eff : ∀ s y n, Eff 1099511628288 s (State.logRemove s y n) := by
  intro s y n
  unfold State.logRemove
  extract_lets +onlyGivenNames x0
  clear_value x0
  extract_lets +onlyGivenNames x1
  clear_value x1
  refine Eff.ite ?_ ?_
  · exact Eff.refl ..
  · extract_lets +onlyGivenNames x2
    refine Eff.cut x2 ?_ ?_
    · subst x2
      refine Eff.foldl ?_ ?_
      · intro a3
        intro a4
        exact (State.writeDev_eff ..).mono rfl
      · exact Eff.refl ..
    intro hx
    clear_value x2
    refine Eff.foldl ?_ ?_
    · intro a5
      intro a6
      exact (State.writeDev_eff ..).mono rfl
    · assumption

theorem State.mirrorTomb_eff : ∀ s y n, Eff 1099511628288 s (State.mirrorTomb s y n) := by
  intro s y n
  unfold State.mirrorTomb
  exact (State.writeDev_eff ..).mono rfl

theorem State.mirrorSide_eff : ∀ s slot y i, Eff 1099511628288 s (State.mirrorSide s slot y i) := by
  intro s slot y i
  unfold State.mirrorSide
  exact (State.writeDev_eff ..).mono rfl

theorem State.publishOne_eff : ∀ s slot e c, Eff 1099511759360 s (State.publishOne s slot e c) := by
  intro s slot e c
  unfold State.publishOne
  extract_lets +onlyGivenNames x0
  refine Eff.cut x0 ?_ ?_
  · subst x0
    exact (State.updShard_eff ..).mono rfl
  intro hx
  clear_value x0
  split
  · assumption
  · refine Eff.ite ?_ ?_
    · refine (State.writeDev_eff ..).step rfl ?_
      refine (State.mirrorTomb_eff ..).step rfl ?_
      assumption
    · extract_lets +onlyGivenNames x1
      refine Eff.cut x1 ?_ ?_
      · subst x1
        refine (State.mirrorSide_eff ..).step rfl ?_
        assumption
      intro hx
      clear_value x1
      refine Eff.ite ?_ ?_
      · refine (State.mirrorTomb_eff ..).step rfl ?_
        refine (State.logRemove_eff ..).step rfl ?_
        assumption
      · assumption

theorem State.advanceShard_eff : ∀ s slot e record, Eff 1099511759368 s (State.advanceShard s slot e record) := by
  intro s slot e record
  unfold State.advanceShard
  extract_lets +onlyGivenNames x0
  refine Eff.cut x0 ?_ ?_
  · subst x0
    exact (State.updShard_eff ..).mono rfl
  intro hx
  clear_value x0
  refine (State.mirrorShard_eff ..).step rfl ?_
  refine (State.wr_eff ..).step rfl ?_
  assumption

theorem State.publish_eff : ∀ s slot, Eff 1108083614552 s (State.publish s slot) := by
  intro s slot
  unfold State.publish
  split
  · exact Eff.refl ..
  · extract_lets +onlyGivenNames x0
    clear_value x0
    refine Eff.ite ?_ ?_
    · exact Eff.refl ..
    · extract_lets +onlyGivenNames x1
      clear_value x1
      extract_lets +onlyGivenNames x2
      refine Eff.cut x2 ?_ ?_
      · subst x2
        refine Eff.foldl ?_ ?_
        · intro a3
          intro a4
          exact (State.publishOne_eff ..).mono rfl
        · exact Eff.refl ..
      intro hx
      clear_value x2
      extract_lets +onlyGivenNames x5
      refine Eff.cut x5 ?_ ?_
      · subst x5
        refine (State.updShard_eff ..).step rfl ?_
        assumption
      intro hx
      clear_value x5
      refine (State.indexSettle_eff ..).step rfl ?_
      refine (State.advanceShard_eff ..).step rfl ?_
      assumption

theorem execIndexPublish_eff : ∀ slot s, OutEff 1108083614552 s (execIndexPublish slot s) := by
  intro slot s
  unfold execIndexPublish
  refine OutEff.next ?_
  exact (State.publish_eff ..).mono rfl

theorem State.indexMerge_eff : ∀ s k, Eff 1108083614552 s (State.indexMerge s k) := by
  intro s k
  unfold State.indexMerge
  refine State.onReq_eff ?_ ?_
  · exact Eff.refl ..
  · intro a0
    extract_lets +onlyGivenNames x1
    clear_value x1
    refine Eff.ite ?_ ?_
    · exact Eff.refl ..
    · split
      · exact (State.endReq_eff ..).mono rfl
      · extract_lets +onlyGivenNames x2
        clear_value x2
        refine Eff.ite ?_ ?_
        · exact (State.endReq_eff ..).mono rfl
        · refine Eff.ite ?_ ?_
          · exact (State.endReq_eff ..).mono rfl
          · refine (State.updReq_eff ..).step rfl ?_
            exact (State.updShard_eff ..).mono rfl

theorem execOpIndexMerge_eff : ∀ client req s, OutEff 1108083614552 s (execOpIndexMerge client req s) := by
  intro client req s
  unfold execOpIndexMerge
  refine OutEff.next ?_
  exact (State.indexMerge_eff ..).mono rfl

theorem State.buildDone_eff : ∀ s slot, Eff 131072 s (State.buildDone s slot) := by
  intro s slot
  unfold State.buildDone
  exact (State.updShard_eff ..).mono rfl

theorem execMergeBuildDone_eff : ∀ slot s, OutEff 131072 s (execMergeBuildDone slot s) := by
  intro slot s
  unfold execMergeBuildDone
  refine OutEff.next ?_
  exact (State.buildDone_eff ..).mono rfl

theorem State.commitSection_eff : ∀ s slot sec e x y g, Eff 1099511759360 s (State.commitSection s slot sec e x y g) := by
  intro s slot sec e x y g
  unfold State.commitSection
  extract_lets +onlyGivenNames x0
  clear_value x0
  extract_lets +onlyGivenNames x1
  refine Eff.cut x1 ?_ ?_
  · subst x1
    refine Eff.foldl ?_ ?_
    · intro a2
      intro a3
      refine (State.writeDev_eff ..).step rfl ?_
      exact (State.writeDev_eff ..).mono rfl
    · exact Eff.refl ..
  intro hx
  clear_value x1
  extract_lets +onlyGivenNames x4
  refine Eff.cut x4 ?_ ?_
  · subst x4
    refine Eff.foldl ?_ ?_
    · intro a5
      intro a6
      exact (State.writeDev_eff ..).mono rfl
    · assumption
  intro hx
  clear_value x4
  extract_lets +onlyGivenNames x7
  clear_value x7
  extract_lets +onlyGivenNames x8
  refine Eff.cut x8 ?_ ?_
  · subst x8
    refine (State.updShard_eff ..).step rfl ?_
    assumption
  intro hx
  clear_value x8
  extract_lets +onlyGivenNames x9
  refine Eff.cut x9 ?_ ?_
  · subst x9
    refine (State.mirrorSide_eff ..).step rfl ?_
    assumption
  intro hx
  clear_value x9
  split
  · assumption
  · refine (State.writeDev_eff ..).step rfl ?_
    assumption

theorem State.commitMerge_eff : ∀ s slot x m, Eff 1108083614552 s (State.commitMerge s slot x m) := by
  intro s slot x m
  unfold State.commitMerge
  extract_lets +onlyGivenNames x0
  clear_value x0
  extract_lets +onlyGivenNames x1
  clear_value x1
  extract_lets +onlyGivenNames x2
  clear_value x2
  extract_lets +onlyGivenNames x3
  refine Eff.cut x3 ?_ ?_
  · subst x3
    refine Eff.foldl ?_ ?_
    · intro a4
      intro a5
      exact (State.commitSection_eff ..).mono rfl
    · exact Eff.refl ..
  intro hx
  clear_value x3
  extract_lets +onlyGivenNames x6
  refine Eff.cut x6 ?_ ?_
  · subst x6
    refine (State.wr_eff ..).step rfl ?_
    refine (State.updShard_eff ..).step rfl ?_
    assumption
  intro hx
  clear_value x6
  refine (State.endReq_eff ..).step rfl ?_
  refine (State.advanceShard_eff ..).step rfl ?_
  assumption

theorem State.mergeCommit_eff : ∀ s slot, Eff 1108083614552 s (State.mergeCommit s slot) := by
  intro s slot
  unfold State.mergeCommit
  split
  · exact Eff.refl ..
  · split
    · exact Eff.refl ..
    · refine Eff.ite ?_ ?_
      · exact Eff.refl ..
      · refine Eff.ite ?_ ?_
        · refine (State.wr_eff ..).step rfl ?_
          exact (State.updShard_eff ..).mono rfl
        · refine Eff.ite ?_ ?_
          · refine (State.wr_eff ..).step rfl ?_
            exact Eff.refl ..
          · refine (State.commitMerge_eff ..).step rfl ?_
            exact Eff.refl ..

theorem execMergeCommit_eff : ∀ slot s, OutEff 1108083614552 s (execMergeCommit slot s) := by
  intro slot s
  unfold execMergeCommit
  refine OutEff.next ?_
  exact (State.mergeCommit_eff ..).mono rfl

theorem State.pinDrain_eff : ∀ s slot, Eff 1099511759368 s (State.pinDrain s slot) := by
  intro s slot
  unfold State.pinDrain
  split
  · exact Eff.refl ..
  · extract_lets +onlyGivenNames x0
    clear_value x0
    extract_lets +onlyGivenNames x1
    clear_value x1
    extract_lets +onlyGivenNames x2
    clear_value x2
    extract_lets +onlyGivenNames x3
    refine Eff.cut x3 ?_ ?_
    · subst x3
      exact (State.updShard_eff ..).mono rfl
    intro hx
    clear_value x3
    extract_lets +onlyGivenNames x4
    clear_value x4
    extract_lets +onlyGivenNames x5
    refine Eff.cut x5 ?_ ?_
    · subst x5
      refine Eff.foldl ?_ ?_
      · intro a6
        intro a7
        split
        · extract_lets +onlyGivenNames x8
          refine Eff.cut x8 ?_ ?_
          · subst x8
            refine Eff.foldl ?_ ?_
            · intro a9
              intro a10
              exact (State.logRemove_eff ..).mono rfl
            · exact Eff.refl ..
          intro hx
          clear_value x8
          refine Eff.ite ?_ ?_
          · assumption
          · refine (State.mirrorSide_eff ..).step rfl ?_
            assumption
        · exact Eff.refl ..
      · assumption
    intro hx
    clear_value x5
    refine (State.mirrorShard_eff ..).step rfl ?_
    assumption

theorem execIndexPinDrain_eff : ∀ slot s, OutEff 1099511759368 s (execIndexPinDrain slot s) := by
  intro slot s
  unfold execIndexPinDrain
  refine OutEff.next ?_
  exact (State.pinDrain_eff ..).mono rfl

end Sys2Proof.Machine
end

