-- ==== Sys2Proof/Laws/Pool.lean ====
section
/-! SUPPORT. What each operation of Machine/Pool.lean can change, in the terms of Laws/Eff.lean: one lemma an operation. -/

namespace Sys2Proof.Machine

theorem State.readSlot_eff : ∀ s t i, Eff 1133853425498 s (State.readSlot s t i).1 := by
  intro s t i
  unfold State.readSlot
  split
  · refine Eff.pair_fst ?_
    exact Eff.refl ..
  · refine Eff.pair_fst ?_
    refine Eff.ite ?_ ?_
    · exact (State.resetPartition_eff ..).mono rfl
    · exact (State.killNode_eff ..).mono rfl

theorem State.evictNode_eff : ∀ s t i, Eff 1133853425498 s (State.evictNode s t i) := by
  intro s t i
  unfold State.evictNode
  extract_lets +onlyGivenNames x0
  clear_value x0
  extract_lets +onlyGivenNames x1
  refine Eff.cut x1 ?_ ?_
  · subst x1
    refine (State.setNode_eff ..).step rfl ?_
    exact (State.dropBlock_eff ..).mono rfl
  intro hx
  clear_value x1
  refine Eff.ite ?_ ?_
  · assumption
  · extract_lets +onlyGivenNames x2
    refine Eff.cut x2.1 ?_ ?_
    · subst x2
      refine (State.readSlot_eff ..).step rfl ?_
      assumption
    intro hx
    clear_value x2
    extract_lets +onlyGivenNames x3
    clear_value x3
    refine Eff.ite ?_ ?_
    · refine (State.setNode_eff ..).step rfl ?_
      assumption
    · assumption

theorem State.evictOne_eff : ∀ s t, Eff 1133853425498 s (State.evictOne s t).1 := by
  intro s t
  unfold State.evictOne
  extract_lets +onlyGivenNames x0
  clear_value x0
  extract_lets +onlyGivenNames x1
  clear_value x1
  extract_lets +onlyGivenNames x2
  clear_value x2
  extract_lets +onlyGivenNames x3
  clear_value x3
  extract_lets +onlyGivenNames x4
  clear_value x4
  extract_lets +onlyGivenNames x5
  clear_value x5
  extract_lets +onlyGivenNames x6
  refine Eff.cut x6.1 ?_ ?_
  · subst x6
    refine Eff.foldl_fst ?_ ?_
    · intro a7
      intro a8
      intro a9
      refine Eff.ite_fst ?_ ?_
      · refine Eff.pair_fst ?_
        exact Eff.refl ..
      · extract_lets +onlyGivenNames x10
        refine Eff.cut x10.1 ?_ ?_
        · subst x10
          exact (State.readSlot_eff ..).mono rfl
        intro hx
        clear_value x10
        extract_lets +onlyGivenNames x11
        clear_value x11
        refine Eff.ite_fst ?_ ?_
        · assumption
        · refine Eff.ite_fst ?_ ?_
          · refine Eff.pair_fst ?_
            refine (State.setNode_eff ..).step rfl ?_
            assumption
          · assumption
    · refine Eff.pair_fst ?_
      exact Eff.refl ..
  intro hx
  clear_value x6
  split
  · assumption
  · extract_lets +onlyGivenNames x12
    refine Eff.cut x12 ?_ ?_
    · subst x12
      refine (State.putTrees_eff ..).step rfl ?_
      assumption
    intro hx
    clear_value x12
    refine Eff.pair_fst ?_
    refine (State.evictNode_eff ..).step rfl ?_
    assumption

theorem State.readHolder_eff : ∀ s p b, Eff 1133853425498 s (State.readHolder s p b) := by
  intro s p b
  unfold State.readHolder
  split
  · exact (State.readSlot_eff ..).mono rfl
  · exact Eff.refl ..

theorem State.setTier_eff : ∀ s p tier node, Eff 134217736 s (State.setTier s p tier node) := by
  intro s p tier node
  unfold State.setTier
  split
  · refine Eff.ite ?_ ?_
    · exact (State.setNode_eff ..).mono rfl
    · exact Eff.refl ..
  · exact Eff.refl ..

theorem State.spill_eff : ∀ s p b, Eff 1133853425498 s (State.spill s p b) := by
  intro s p b
  unfold State.spill
  extract_lets +onlyGivenNames x0
  refine Eff.cut x0 ?_ ?_
  · subst x0
    exact (State.readHolder_eff ..).mono rfl
  intro hx
  clear_value x0
  split
  · assumption
  · extract_lets +onlyGivenNames x1
    refine Eff.cut x1.1 ?_ ?_
    · subst x1
      refine Eff.foldl_fst ?_ ?_
      · intro a2
        intro a3
        intro a4
        extract_lets +onlyGivenNames x5
        refine Eff.cut x5.1 ?_ ?_
        · subst x5
          exact (State.readUnit_eff ..).mono rfl
        intro hx
        clear_value x5
        assumption
      · assumption
    intro hx
    clear_value x1
    extract_lets +onlyGivenNames x6
    refine Eff.cut x6 ?_ ?_
    · subst x6
      assumption
    intro hx
    clear_value x6
    refine Eff.ite ?_ ?_
    · assumption
    · extract_lets +onlyGivenNames x7
      clear_value x7
      extract_lets +onlyGivenNames x8
      refine Eff.cut x8 ?_ ?_
      · subst x8
        refine (State.updPool_eff ..).step rfl ?_
        assumption
      intro hx
      clear_value x8
      extract_lets +onlyGivenNames x9
      refine Eff.cut x9 ?_ ?_
      · subst x9
        refine (State.setTier_eff ..).step rfl ?_
        assumption
      intro hx
      clear_value x9
      extract_lets +onlyGivenNames x10
      refine Eff.cut x10 ?_ ?_
      · subst x10
        split
        · refine (State.flashWrite_eff ..).step rfl ?_
          assumption
        · refine (State.flashPut_eff ..).step rfl ?_
          assumption
      intro hx
      clear_value x10
      refine (State.wr_eff ..).step rfl ?_
      refine (State.wr_eff ..).step rfl ?_
      assumption

theorem State.evictFrame_eff : ∀ fuel s p, Eff 1133853425498 s (State.evictFrame fuel s p) := by
  intro fuel s p
  induction fuel generalizing s p with
  | zero =>
    rw [State.evictFrame]
    exact Eff.refl ..
  | succ n ih =>
    rw [State.evictFrame]
    refine Eff.ite ?_ ?_
    · exact Eff.refl ..
    · split
      · refine (ih ..).step rfl ?_
        refine Eff.of_fst ‹_ = (_, _)› ?_
        exact (State.evictOne_eff ..).mono rfl
      · refine Eff.of_fst ‹_ = (_, _)› ?_
        exact (State.evictOne_eff ..).mono rfl

theorem State.idleNode_eff : ∀ fuel s p, Eff 1133853425498 s (State.idleNode fuel s p).1 := by
  intro fuel s p
  induction fuel generalizing s p with
  | zero =>
    rw [State.idleNode]
    refine Eff.pair_fst ?_
    exact Eff.refl ..
  | succ f ih =>
    rw [State.idleNode]
    split
    · refine Eff.pair_fst ?_
      exact Eff.refl ..
    · extract_lets +onlyGivenNames x0
      refine Eff.cut x0.1 ?_ ?_
      · subst x0
        exact (State.readSlot_eff ..).mono rfl
      intro hx
      clear_value x0
      refine Eff.ite_fst ?_ ?_
      · assumption
      · refine (ih ..).step rfl ?_
        assumption

theorem State.takeFrame_eff : ∀ s p skip, Eff 1133853425498 s (State.takeFrame s p skip).1 := by
  intro s p skip
  unfold State.takeFrame
  split
  · refine Eff.pair_fst ?_
    exact Eff.refl ..
  · extract_lets +onlyGivenNames x0
    clear_value x0
    extract_lets +onlyGivenNames x1
    refine Eff.cut x1 ?_ ?_
    · subst x1
      refine Eff.ite ?_ ?_
      · exact Eff.refl ..
      · split
        · exact (State.spill_eff ..).mono rfl
        · split
          · refine (State.spill_eff ..).step rfl ?_
            refine Eff.of_fst ‹_ = (_, _)› ?_
            exact (State.idleNode_eff ..).mono rfl
          · refine (State.evictFrame_eff ..).step rfl ?_
            refine Eff.of_fst ‹_ = (_, _)› ?_
            exact (State.idleNode_eff ..).mono rfl
        · exact (State.evictFrame_eff ..).mono rfl
    intro hx
    clear_value x1
    refine Eff.ite_fst ?_ ?_
    · refine Eff.pair_fst ?_
      refine (State.wr_eff ..).step rfl ?_
      assumption
    · assumption

theorem State.newBlock_eff : ∀ s p k, Eff 1133853425498 s (State.newBlock s p k).1 := by
  intro s p k
  unfold State.newBlock
  split
  · refine Eff.pair_fst ?_
    refine Eff.of_fst ‹_ = (_, _)› ?_
    exact (State.takeFrame_eff ..).mono rfl
  · extract_lets +onlyGivenNames x0
    clear_value x0
    refine Eff.pair_fst ?_
    refine (State.updPool_eff ..).step rfl ?_
    refine Eff.of_fst ‹_ = (_, _)› ?_
    exact (State.takeFrame_eff ..).mono rfl

theorem State.startRestore_eff : ∀ s p b k, Eff 1133853425498 s (State.startRestore s p b k) := by
  intro s p b k
  unfold State.startRestore
  split
  · exact Eff.refl ..
  · refine Eff.ite ?_ ?_
    · exact Eff.refl ..
    · split
      · refine Eff.of_fst ‹_ = (_, _)› ?_
        exact (State.takeFrame_eff ..).mono rfl
      · refine (State.updPool_eff ..).step rfl ?_
        refine Eff.of_fst ‹_ = (_, _)› ?_
        exact (State.takeFrame_eff ..).mono rfl

theorem State.copyBlock_eff : ∀ s p src dst, Eff 1133853425498 s (State.copyBlock s p src dst) := by
  intro s p src dst
  unfold State.copyBlock
  split
  · exact Eff.refl ..
  · split
    · exact (State.copyWords_eff ..).mono rfl
    · exact Eff.refl ..

theorem State.probeSlot_eff : ∀ s t key, Eff 1133853425498 s (State.probeSlot s t key).1 := by
  intro s t key
  unfold State.probeSlot
  extract_lets y
  refine Eff.pair_fst (Eff.foldl_fst (fun s b a => ?_) (Eff.pair_fst (Eff.refl ..)))
  refine Eff.ite_fst (Eff.refl ..) ?_
  extract_lets o
  split
  · exact Eff.pair_fst (Eff.refl ..)
  · exact Eff.pair_fst ((State.readSlot_eff ..).mono rfl)

theorem State.insertNode_eff : ∀ s t i key parent depth block, Eff 671088648 s (State.insertNode s t i key parent depth block) := by
  intro s t i key parent depth block
  unfold State.insertNode
  extract_lets +onlyGivenNames x0
  clear_value x0
  extract_lets +onlyGivenNames x1
  refine Eff.cut x1 ?_ ?_
  · subst x1
    exact (State.setNode_eff ..).mono rfl
  intro hx
  clear_value x1
  extract_lets +onlyGivenNames x2
  refine Eff.cut x2 ?_ ?_
  · subst x2
    refine (State.updPool_eff ..).step rfl ?_
    assumption
  intro hx
  clear_value x2
  extract_lets +onlyGivenNames x3
  clear_value x3
  refine Eff.ite ?_ ?_
  · assumption
  · refine (State.setNode_eff ..).step rfl ?_
    assumption

theorem State.offerBlock_eff : ∀ s t key parent depth block, Eff 1133853425498 s (State.offerBlock s t key parent depth block).1 := by
  intro s t key parent depth block
  unfold State.offerBlock
  extract_lets +onlyGivenNames x0
  refine Eff.cut x0.1 ?_ ?_
  · subst x0
    refine Eff.ite_fst ?_ ?_
    · refine Eff.pair_fst ?_
      exact Eff.refl ..
    · exact (State.readSlot_eff ..).mono rfl
  intro hx
  clear_value x0
  extract_lets +onlyGivenNames x1
  refine Eff.cut x1.1 ?_ ?_
  · subst x1
    refine (State.probeSlot_eff ..).step rfl ?_
    assumption
  intro hx
  clear_value x1
  extract_lets +onlyGivenNames x2
  clear_value x2
  refine Eff.ite_fst ?_ ?_
  · assumption
  · refine Eff.ite_fst ?_ ?_
    · assumption
    · extract_lets +onlyGivenNames x3
      refine Eff.cut x3 ?_ ?_
      · subst x3
        assumption
      intro hx
      clear_value x3
      extract_lets +onlyGivenNames x4
      clear_value x4
      extract_lets +onlyGivenNames x5
      refine Eff.cut x5.1 ?_ ?_
      · subst x5
        refine Eff.ite_fst ?_ ?_
        · refine (State.evictOne_eff ..).step rfl ?_
          assumption
        · assumption
      intro hx
      clear_value x5
      extract_lets +onlyGivenNames x6
      refine Eff.cut x6.1 ?_ ?_
      · subst x6
        refine (State.probeSlot_eff ..).step rfl ?_
        assumption
      intro hx
      clear_value x6
      refine Eff.ite_fst ?_ ?_
      · assumption
      · split
        · refine Eff.pair_fst ?_
          refine (State.insertNode_eff ..).step rfl ?_
          assumption
        · refine Eff.pair_fst ?_
          refine (State.incSat_eff ..).step rfl ?_
          assumption

end Sys2Proof.Machine
end

