-- ==== Sys2Proof/Laws/Text.lean ====
section
/-! SUPPORT. What each operation of Machine/Text.lean can change, in the terms of Laws/Eff.lean: one lemma an operation. -/

namespace Sys2Proof.Machine

theorem State.setBusy_eff : ∀ s k i v, Eff 8 s (State.setBusy s k i v) := by
  intro s k i v
  unfold State.setBusy
  split
  · refine (State.wr_eff ..).step rfl ?_
    exact Eff.refl ..
  · refine (State.wr_eff ..).step rfl ?_
    exact Eff.refl ..
  · exact Eff.refl ..

theorem State.addTask_eff : ∀ s t, Eff 67108864 s (State.addTask s t) := by
  intro s t
  unfold State.addTask
  exact (State.putTasks_eff ..).mono rfl

theorem State.zestCommand_eff : ∀ s k op, Eff 1108083614552 s (State.zestCommand s k op) := by
  intro s k op
  unfold State.zestCommand
  refine State.onReq_eff ?_ ?_
  · exact Eff.refl ..
  · intro a0
    refine Eff.ite ?_ ?_
    · exact Eff.refl ..
    · split
      · refine (State.endReq_eff ..).step rfl ?_
        exact Eff.refl ..
      · extract_lets +onlyGivenNames x1
        refine Eff.cut x1 ?_ ?_
        · subst x1
          exact (State.updReq_eff ..).mono rfl
        intro hx
        clear_value x1
        refine (State.addTask_eff ..).step rfl ?_
        assumption

theorem execOpTokenize_eff : ∀ client req s, OutEff 1108083614552 s (execOpTokenize client req s) := by
  intro client req s
  unfold execOpTokenize
  refine OutEff.next ?_
  exact (State.zestCommand_eff ..).mono rfl

theorem execOpDetokenize_eff : ∀ client req s, OutEff 1108083614552 s (execOpDetokenize client req s) := by
  intro client req s
  unfold execOpDetokenize
  refine OutEff.next ?_
  exact (State.zestCommand_eff ..).mono rfl

theorem State.zestDone_eff : ∀ s e t r v z, Eff 1133853425498 s (State.zestDone s e t r v z) := by
  intro s e t r v z
  unfold State.zestDone
  extract_lets +onlyGivenNames x0
  clear_value x0
  extract_lets +onlyGivenNames x1
  clear_value x1
  extract_lets +onlyGivenNames x2
  clear_value x2
  extract_lets +onlyGivenNames x3
  clear_value x3
  refine Eff.ite ?_ ?_
  · exact (State.endReq_eff ..).mono rfl
  · extract_lets +onlyGivenNames x4
    clear_value x4
    extract_lets +onlyGivenNames x5
    clear_value x5
    extract_lets +onlyGivenNames x6
    clear_value x6
    extract_lets +onlyGivenNames x7
    clear_value x7
    extract_lets +onlyGivenNames x8
    refine Eff.cut x8 ?_ ?_
    · subst x8
      exact (State.zestCount_eff ..).mono rfl
    intro hx
    clear_value x8
    extract_lets +onlyGivenNames x9
    refine Eff.cut x9 ?_ ?_
    · subst x9
      refine (State.putStreams_eff ..).step rfl ?_
      assumption
    intro hx
    clear_value x9
    extract_lets +onlyGivenNames x10
    refine Eff.cut x10 ?_ ?_
    · subst x10
      refine (State.putOut_eff ..).step rfl ?_
      assumption
    intro hx
    clear_value x10
    refine Eff.ite ?_ ?_
    · refine (State.endReq_eff ..).step rfl ?_
      assumption
    · refine (State.endReq_eff ..).step rfl ?_
      assumption

end Sys2Proof.Machine
end

