-- ==== Sys2Proof/Laws/Pack.lean ====
section
/-! SUPPORT. What each operation of Machine/Pack.lean can change, in the terms of Laws/Eff.lean: one lemma an operation. -/

namespace Sys2Proof.Machine

theorem State.pack_eff : ∀ s k, Eff 1133853425498 s (State.pack s k) := by
  intro s k
  unfold State.pack
  refine State.onReq_eff ?_ ?_
  · exact Eff.refl ..
  · intro a0
    extract_lets +onlyGivenNames x1
    clear_value x1
    extract_lets +onlyGivenNames x2
    clear_value x2
    refine Eff.ite ?_ ?_
    · exact Eff.refl ..
    · split
      · refine (State.endReq_eff ..).step rfl ?_
        exact Eff.refl ..
      · refine Eff.ite ?_ ?_
        · refine (State.endReq_eff ..).step rfl ?_
          exact Eff.refl ..
        · split
          · refine Eff.of_fst ‹_ = (_, _)› ?_
            exact (State.peek_eff ..).mono rfl
          · extract_lets +onlyGivenNames x3
            clear_value x3
            refine Eff.ite ?_ ?_
            · refine (State.endReq_eff ..).step rfl ?_
              refine Eff.of_fst ‹_ = (_, _)› ?_
              exact (State.peek_eff ..).mono rfl
            · extract_lets +onlyGivenNames x4
              clear_value x4
              split
              · refine Eff.of_fst ‹_ = (_, _)› ?_
                refine (State.peek_eff ..).step rfl ?_
                refine Eff.of_fst ‹_ = (_, _)› ?_
                exact (State.peek_eff ..).mono rfl
              · extract_lets +onlyGivenNames x5
                clear_value x5
                split
                · refine Eff.of_fst ‹_ = (_, _)› ?_
                  refine (State.peek_eff ..).step rfl ?_
                  refine Eff.of_fst ‹_ = (_, _)› ?_
                  refine (State.peek_eff ..).step rfl ?_
                  refine Eff.of_fst ‹_ = (_, _)› ?_
                  exact (State.peek_eff ..).mono rfl
                · refine Eff.ite ?_ ?_
                  · refine (State.endReq_eff ..).step rfl ?_
                    refine Eff.of_fst ‹_ = (_, _)› ?_
                    refine (State.peek_eff ..).step rfl ?_
                    refine Eff.of_fst ‹_ = (_, _)› ?_
                    refine (State.peek_eff ..).step rfl ?_
                    refine Eff.of_fst ‹_ = (_, _)› ?_
                    exact (State.peek_eff ..).mono rfl
                  · extract_lets +onlyGivenNames x6
                    clear_value x6
                    split
                    · refine Eff.of_fst ‹_ = (_, _)› ?_
                      refine (State.gather_eff ..).step rfl ?_
                      refine Eff.of_fst ‹_ = (_, _)› ?_
                      refine (State.peek_eff ..).step rfl ?_
                      refine Eff.of_fst ‹_ = (_, _)› ?_
                      refine (State.peek_eff ..).step rfl ?_
                      refine Eff.of_fst ‹_ = (_, _)› ?_
                      exact (State.peek_eff ..).mono rfl
                    · extract_lets +onlyGivenNames x7
                      refine Eff.cut x7 ?_ ?_
                      · subst x7
                        refine (State.updReq_eff ..).step rfl ?_
                        refine (State.setInputs_eff ..).step rfl ?_
                        refine Eff.of_fst ‹_ = (_, _)› ?_
                        refine (State.gather_eff ..).step rfl ?_
                        refine Eff.of_fst ‹_ = (_, _)› ?_
                        refine (State.peek_eff ..).step rfl ?_
                        refine Eff.of_fst ‹_ = (_, _)› ?_
                        refine (State.peek_eff ..).step rfl ?_
                        refine Eff.of_fst ‹_ = (_, _)› ?_
                        exact (State.peek_eff ..).mono rfl
                      intro hx
                      clear_value x7
                      refine (State.addTask_eff ..).step rfl ?_
                      assumption

theorem execOpPack_eff : ∀ client req s, OutEff 1133853425498 s (execOpPack client req s) := by
  intro client req s
  unfold execOpPack
  refine OutEff.next ?_
  exact (State.pack_eff ..).mono rfl

theorem State.startMatch_eff : ∀ s r t tokens forGen, Eff 268435456 s (State.startMatch s r t tokens forGen) := by
  intro s r t tokens forGen
  unfold State.startMatch
  refine Eff.ite ?_ ?_
  · exact Eff.refl ..
  · refine (State.putProbes_eff ..).step rfl ?_
    exact Eff.refl ..

theorem State.updProbe_eff : ∀ s e f, Eff 268435456 s (State.updProbe s e f) := by
  intro s e f
  unfold State.updProbe
  exact (State.putProbes_eff ..).mono rfl

theorem State.probeReturn_eff : ∀ s e bad, Eff 1133853425498 s (State.probeReturn s e bad) := by
  intro s e bad
  unfold State.probeReturn
  split
  · exact Eff.refl ..
  · refine Eff.ite ?_ ?_
    · exact Eff.refl ..
    · extract_lets +onlyGivenNames x0
      clear_value x0
      extract_lets +onlyGivenNames x1
      refine Eff.cut x1 ?_ ?_
      · subst x1
        exact (State.putTrees_eff ..).mono rfl
      intro hx
      clear_value x1
      extract_lets +onlyGivenNames x2
      clear_value x2
      split
      · extract_lets +onlyGivenNames x3
        clear_value x3
        extract_lets +onlyGivenNames x4
        refine Eff.cut x4 ?_ ?_
        · subst x4
          refine (State.setNode_eff ..).step rfl ?_
          assumption
        intro hx
        clear_value x4
        extract_lets +onlyGivenNames x5
        refine Eff.cut x5 ?_ ?_
        · subst x5
          refine (State.inc_eff ..).step rfl ?_
          assumption
        intro hx
        clear_value x5
        extract_lets +onlyGivenNames x6
        clear_value x6
        refine (State.updProbe_eff ..).step rfl ?_
        assumption
      · refine (State.updProbe_eff ..).step rfl ?_
        refine (State.readSlot_eff ..).step rfl ?_
        assumption
      · refine (State.updProbe_eff ..).step rfl ?_
        assumption

theorem execMedlarProbeReturn_eff : ∀ engine bad s, OutEff 1133853425498 s (execMedlarProbeReturn engine bad s) := by
  intro engine bad s
  unfold execMedlarProbeReturn
  refine OutEff.next ?_
  exact (State.probeReturn_eff ..).mono rfl

theorem State.giveMatch_eff : ∀ s m i, Eff 268435456 s (State.giveMatch s m i) := by
  intro s m i
  unfold State.giveMatch
  extract_lets +onlyGivenNames x0
  clear_value x0
  exact (State.putProbes_eff ..).mono rfl

theorem State.dispatchMatch_eff : ∀ s p, Eff 1108083614552 s (State.dispatchMatch s p) := by
  intro s p
  unfold State.dispatchMatch
  extract_lets +onlyGivenNames x0
  clear_value x0
  split
  · exact Eff.refl ..
  · extract_lets +onlyGivenNames x1
    clear_value x1
    refine Eff.ite ?_ ?_
    · refine (State.failWork_eff ..).step rfl ?_
      exact (State.putProbes_eff ..).mono rfl
    · split
      · exact Eff.refl ..
      · exact (State.giveMatch_eff ..).mono rfl

theorem State.startTask_eff : ∀ s t e, Eff 1108083614552 s (State.startTask s t e) := by
  intro s t e
  unfold State.startTask
  extract_lets +onlyGivenNames x0
  clear_value x0
  split
  · refine (State.putTasks_eff ..).step rfl ?_
    exact Eff.refl ..
  · split
    · refine (State.endReq_eff ..).step rfl ?_
      exact Eff.refl ..
    · extract_lets +onlyGivenNames x1
      refine Eff.cut x1 ?_ ?_
      · subst x1
        exact (State.putTasks_eff ..).mono rfl
      intro hx
      clear_value x1
      extract_lets +onlyGivenNames x2
      refine Eff.cut x2 ?_ ?_
      · subst x2
        refine (State.setBusy_eff ..).step rfl ?_
        refine (State.start_eff ..).step rfl ?_
        assumption
      intro hx
      clear_value x2
      refine Eff.ite ?_ ?_
      · refine (State.startMatch_eff ..).step rfl ?_
        assumption
      · assumption

theorem State.dispatch_eff : ∀ s kind_ p, Eff 1108083614552 s (State.dispatch s kind_ p) := by
  intro s kind_ p
  unfold State.dispatch
  refine Eff.ite ?_ ?_
  · exact (State.dispatchMatch_eff ..).mono rfl
  · split
    · exact Eff.refl ..
    · extract_lets +onlyGivenNames x0
      clear_value x0
      refine Eff.ite ?_ ?_
      · refine (State.failWork_eff ..).step rfl ?_
        exact (State.putTasks_eff ..).mono rfl
      · split
        · exact Eff.refl ..
        · exact (State.startTask_eff ..).mono rfl

theorem execEngineTaskDispatch_eff : ∀ kind_ part s, OutEff 1108083614552 s (execEngineTaskDispatch kind_ part s) := by
  intro kind_ part s
  unfold execEngineTaskDispatch
  refine OutEff.next ?_
  exact (State.dispatch_eff ..).mono rfl

theorem State.updRetrieve_eff : ∀ s k f, Eff 2147483648 s (State.updRetrieve s k f) := by
  intro s k f
  unfold State.updRetrieve
  exact (State.putRetrieves_eff ..).mono rfl

theorem State.updGen_eff : ∀ s k f, Eff 1073741824 s (State.updGen s k f) := by
  intro s k f
  unfold State.updGen
  exact (State.putGens_eff ..).mono rfl

theorem State.leaveEngine_eff : ∀ s t e, Eff 67108872 s (State.leaveEngine s t e) := by
  intro s t e
  unfold State.leaveEngine
  refine (State.setBusy_eff ..).step rfl ?_
  exact (State.putTasks_eff ..).mono rfl

theorem State.zestFinish_eff : ∀ s e t, Eff 1133853425498 s (State.zestFinish s e t) := by
  intro s e t
  unfold State.zestFinish
  extract_lets +onlyGivenNames x0
  clear_value x0
  extract_lets +onlyGivenNames x1
  clear_value x1
  extract_lets +onlyGivenNames x2
  refine Eff.cut x2 ?_ ?_
  · subst x2
    refine (State.charge_eff ..).step rfl ?_
    exact (State.leaveEngine_eff ..).mono rfl
  intro hx
  clear_value x2
  split
  · assumption
  · refine Eff.ite ?_ ?_
    · assumption
    · split
      · refine (State.endReq_eff ..).step rfl ?_
        assumption
      · refine (State.zestDone_eff ..).step rfl ?_
        assumption
      · extract_lets +onlyGivenNames x3
        clear_value x3
        refine (State.updRetrieve_eff ..).step rfl ?_
        refine (State.zestCount_eff ..).step rfl ?_
        assumption

theorem State.punnetFinish_eff : ∀ s e t, Eff 1133853425498 s (State.punnetFinish s e t) := by
  intro s e t
  unfold State.punnetFinish
  extract_lets +onlyGivenNames x0
  clear_value x0
  extract_lets +onlyGivenNames x1
  clear_value x1
  extract_lets +onlyGivenNames x2
  refine Eff.cut x2 ?_ ?_
  · subst x2
    refine (State.charge_eff ..).step rfl ?_
    exact (State.leaveEngine_eff ..).mono rfl
  intro hx
  clear_value x2
  split
  · assumption
  · refine Eff.ite ?_ ?_
    · assumption
    · extract_lets +onlyGivenNames x3
      clear_value x3
      extract_lets +onlyGivenNames x4
      clear_value x4
      refine Eff.ite ?_ ?_
      · exact Eff.refl ..
      · extract_lets +onlyGivenNames x5
        clear_value x5
        extract_lets +onlyGivenNames x6
        clear_value x6
        extract_lets +onlyGivenNames x7
        refine Eff.cut x7 ?_ ?_
        · subst x7
          refine (State.inc_eff ..).step rfl ?_
          refine (State.inc_eff ..).step rfl ?_
          assumption
        intro hx
        clear_value x7
        extract_lets +onlyGivenNames x8
        clear_value x8
        refine Eff.ite ?_ ?_
        · extract_lets +onlyGivenNames x9
          refine Eff.cut x9 ?_ ?_
          · subst x9
            refine (State.putProbes_eff ..).step rfl ?_
            assumption
          intro hx
          clear_value x9
          refine (State.updRetrieve_eff ..).step rfl ?_
          assumption
        · extract_lets +onlyGivenNames x10
          clear_value x10
          extract_lets +onlyGivenNames x11
          refine Eff.cut x11 ?_ ?_
          · subst x11
            refine (State.putOut_eff ..).step rfl ?_
            assumption
          intro hx
          clear_value x11
          extract_lets +onlyGivenNames x12
          refine Eff.cut x12 ?_ ?_
          · subst x12
            refine (State.putOut_eff ..).step rfl ?_
            assumption
          intro hx
          clear_value x12
          extract_lets +onlyGivenNames x13
          refine Eff.cut x13 ?_ ?_
          · subst x13
            refine (State.putOut_eff ..).step rfl ?_
            assumption
          intro hx
          clear_value x13
          extract_lets +onlyGivenNames x14
          refine Eff.cut x14 ?_ ?_
          · subst x14
            refine (State.putOut_eff ..).step rfl ?_
            assumption
          intro hx
          clear_value x14
          refine (State.endReq_eff ..).step rfl ?_
          refine (State.putRec_eff ..).step rfl ?_
          assumption

theorem State.medlarFinish_eff : ∀ s e, Eff 5637144640 s (State.medlarFinish s e) := by
  intro s e
  unfold State.medlarFinish
  split
  · exact Eff.refl ..
  · refine Eff.ite ?_ ?_
    · exact Eff.refl ..
    · extract_lets +onlyGivenNames x0
      clear_value x0
      extract_lets +onlyGivenNames x1
      refine Eff.cut x1 ?_ ?_
      · subst x1
        exact (State.charge_eff ..).mono rfl
      intro hx
      clear_value x1
      extract_lets +onlyGivenNames x2
      refine Eff.cut x2 ?_ ?_
      · subst x2
        refine (State.updProbe_eff ..).step rfl ?_
        assumption
      intro hx
      clear_value x2
      refine Eff.ite ?_ ?_
      · assumption
      · extract_lets +onlyGivenNames x3
        refine Eff.cut x3 ?_ ?_
        · subst x3
          refine (State.updGen_eff ..).step rfl ?_
          assumption
        intro hx
        clear_value x3
        refine (State.putProbes_eff ..).step rfl ?_
        assumption

theorem State.taskDone_eff : ∀ s kind_ e, Eff 1133853425498 s (State.taskDone s kind_ e) := by
  intro s kind_ e
  unfold State.taskDone
  split
  · refine (State.medlarFinish_eff ..).step rfl ?_
    exact Eff.refl ..
  · split
    · exact Eff.refl ..
    · refine (State.zestFinish_eff ..).step rfl ?_
      exact Eff.refl ..
  · split
    · exact Eff.refl ..
    · refine (State.punnetFinish_eff ..).step rfl ?_
      exact Eff.refl ..

theorem execEngineTaskDone_eff : ∀ kind_ engine s, OutEff 1133853425498 s (execEngineTaskDone kind_ engine s) := by
  intro kind_ engine s
  unfold execEngineTaskDone
  refine OutEff.next ?_
  exact (State.taskDone_eff ..).mono rfl

end Sys2Proof.Machine
end

