-- ==== Sys2Proof/Laws/Gen.lean ====
section
/-! SUPPORT. What each operation of Machine/Gen.lean can change, in the terms of Laws/Eff.lean: one lemma an operation. -/

namespace Sys2Proof.Machine

theorem State.feedDetok_eff : ∀ s g tokens last, Eff 4328521816 s (State.feedDetok s g tokens last) := by
  intro s g tokens last
  unfold State.feedDetok
  refine Eff.ite ?_ ?_
  · exact Eff.refl ..
  · split
    · extract_lets +onlyGivenNames x0
      clear_value x0
      extract_lets +onlyGivenNames x1
      clear_value x1
      extract_lets +onlyGivenNames x2
      clear_value x2
      extract_lets +onlyGivenNames x3
      refine Eff.cut x3 ?_ ?_
      · subst x3
        exact (State.putStreams_eff ..).mono rfl
      intro hx
      clear_value x3
      extract_lets +onlyGivenNames x4
      refine Eff.cut x4 ?_ ?_
      · subst x4
        refine (State.zestTime_eff ..).step rfl ?_
        refine (State.zestCount_eff ..).step rfl ?_
        assumption
      intro hx
      clear_value x4
      refine Eff.ite ?_ ?_
      · assumption
      · refine (State.updHost_eff ..).step rfl ?_
        assumption
    · exact Eff.refl ..

theorem State.deliverOne_eff : ∀ s k lane rec', Eff 1133853425498 s (State.deliverOne s k lane rec') := by
  intro s k lane rec'
  unfold State.deliverOne
  split
  · exact Eff.refl ..
  · extract_lets +onlyGivenNames x0
    refine Eff.cut x0 ?_ ?_
    · subst x0
      exact (State.putOut_eff ..).mono rfl
    intro hx
    clear_value x0
    refine Eff.ite ?_ ?_
    · assumption
    · extract_lets +onlyGivenNames x1
      refine Eff.cut x1 ?_ ?_
      · subst x1
        refine (State.updReq_eff ..).step rfl ?_
        assumption
      intro hx
      clear_value x1
      extract_lets +onlyGivenNames x2
      refine Eff.cut x2 ?_ ?_
      · subst x2
        refine (State.updGen_eff ..).step rfl ?_
        assumption
      intro hx
      clear_value x2
      refine Eff.ite ?_ ?_
      · refine (State.interim_eff ..).step rfl ?_
        refine (State.updGen_eff ..).step rfl ?_
        assumption
      · assumption

theorem State.deliver_eff : ∀ s k lane recs last, Eff 1133853425498 s (State.deliver s k lane recs last) := by
  intro s k lane recs last
  unfold State.deliver
  split
  · exact Eff.refl ..
  · extract_lets +onlyGivenNames x0
    clear_value x0
    extract_lets +onlyGivenNames x1
    refine Eff.cut x1 ?_ ?_
    · subst x1
      refine Eff.foldl ?_ ?_
      · intro a2
        intro a3
        exact (State.deliverOne_eff ..).mono rfl
      · exact Eff.refl ..
    intro hx
    clear_value x1
    refine (State.feedDetok_eff ..).step rfl ?_
    assumption

theorem State.endLane_eff : ∀ s k lane why, Eff 1133853425498 s (State.endLane s k lane why) := by
  intro s k lane why
  unfold State.endLane
  split
  · exact Eff.refl ..
  · refine Eff.ite ?_ ?_
    · exact Eff.refl ..
    · refine (State.updGen_eff ..).step rfl ?_
      exact (State.deliver_eff ..).mono rfl

theorem State.offerGen_eff : ∀ s k key b parent block, Eff 1133853425498 s (State.offerGen s k key b parent block).1 := by
  intro s k key b parent block
  unfold State.offerGen
  split
  · refine Eff.pair_fst ?_
    exact Eff.refl ..
  · extract_lets +onlyGivenNames x0
    refine Eff.cut x0.1 ?_ ?_
    · subst x0
      exact (State.offerBlock_eff ..).mono rfl
    intro hx
    clear_value x0
    refine Eff.pair_fst ?_
    split
    · assumption
    · refine (State.updGen_eff ..).step rfl ?_
      assumption

theorem State.offerPrompt_eff : ∀ s k pos, Eff 1133853425498 s (State.offerPrompt s k pos) := by
  intro s k pos
  unfold State.offerPrompt
  split
  · exact Eff.refl ..
  · refine Eff.ite ?_ ?_
    · exact Eff.refl ..
    · extract_lets +onlyGivenNames x0
      clear_value x0
      refine Eff.foldl ?_ ?_
      · intro a1
        intro a2
        split
        · exact Eff.refl ..
        · refine Eff.ite ?_ ?_
          · exact Eff.refl ..
          · split
            · refine (State.updGen_eff ..).step rfl ?_
              refine Eff.of_fst ‹_ = (_, _)› ?_
              exact (State.offerGen_eff ..).mono rfl
            · refine (State.updGen_eff ..).step rfl ?_
              refine Eff.of_fst ‹_ = (_, _)› ?_
              exact (State.offerGen_eff ..).mono rfl
      · exact Eff.refl ..

theorem State.offerLane_eff : ∀ s k lane, Eff 1133853425498 s (State.offerLane s k lane) := by
  intro s k lane
  unfold State.offerLane
  split
  · exact Eff.refl ..
  · split
    · exact Eff.refl ..
    · extract_lets +onlyGivenNames x0
      clear_value x0
      extract_lets +onlyGivenNames x1
      clear_value x1
      extract_lets +onlyGivenNames x2
      clear_value x2
      refine Eff.ite ?_ ?_
      · exact Eff.refl ..
      · extract_lets +onlyGivenNames x3
        refine Eff.cut x3.1 ?_ ?_
        · subst x3
          refine Eff.foldl_fst ?_ ?_
          · intro a4
            intro a5
            intro a6
            refine Eff.ite_fst ?_ ?_
            · refine Eff.pair_fst ?_
              exact Eff.refl ..
            · split
              · refine Eff.pair_fst ?_
                refine Eff.of_fst ‹_ = (_, _)› ?_
                exact (State.offerGen_eff ..).mono rfl
              · refine Eff.pair_fst ?_
                refine Eff.ite ?_ ?_
                · refine (State.updGen_eff ..).step rfl ?_
                  refine Eff.of_fst ‹_ = (_, _)› ?_
                  exact (State.offerGen_eff ..).mono rfl
                · refine Eff.of_fst ‹_ = (_, _)› ?_
                  exact (State.offerGen_eff ..).mono rfl
          · refine Eff.pair_fst ?_
            exact Eff.refl ..
        intro hx
        clear_value x3
        refine Eff.foldl ?_ ?_
        · intro a7
          intro a8
          exact (State.unpin_eff ..).mono rfl
        · assumption

theorem State.finishGen_eff : ∀ s k status, Eff 1133853425498 s (State.finishGen s k status) := by
  intro s k status
  unfold State.finishGen
  split
  · extract_lets +onlyGivenNames x0
    refine Eff.cut x0 ?_ ?_
    · subst x0
      exact (State.putRec_eff ..).mono rfl
    intro hx
    clear_value x0
    extract_lets +onlyGivenNames x1
    refine Eff.cut x1.1 ?_ ?_
    · subst x1
      refine (State.genDetail_eff ..).step rfl ?_
      assumption
    intro hx
    clear_value x1
    refine (State.endReq_eff ..).step rfl ?_
    assumption
  · exact Eff.refl ..

theorem State.dropLane_eff : ∀ s k lane, Eff 1133853425498 s (State.dropLane s k lane) := by
  intro s k lane
  unfold State.dropLane
  split
  · exact Eff.refl ..
  · refine Eff.ite ?_ ?_
    · exact Eff.refl ..
    · refine (State.updGen_eff ..).step rfl ?_
      exact (State.deliver_eff ..).mono rfl

theorem State.failGen_eff : ∀ s k status, Eff 1133853425498 s (State.failGen s k status) := by
  intro s k status
  unfold State.failGen
  split
  · exact Eff.refl ..
  · extract_lets +onlyGivenNames x0
    refine Eff.cut x0 ?_ ?_
    · subst x0
      refine Eff.foldl ?_ ?_
      · intro a1
        intro a2
        refine Eff.ite ?_ ?_
        · exact (State.dropLane_eff ..).mono rfl
        · exact (State.endLane_eff ..).mono rfl
      · exact Eff.refl ..
    intro hx
    clear_value x0
    refine (State.finishGen_eff ..).step rfl ?_
    assumption

theorem State.stopGen_eff : ∀ s k status, Eff 1133853425498 s (State.stopGen s k status) := by
  intro s k status
  unfold State.stopGen
  split
  · exact Eff.refl ..
  · extract_lets +onlyGivenNames x0
    refine Eff.cut x0 ?_ ?_
    · subst x0
      refine Eff.foldl ?_ ?_
      · intro a1
        intro a2
        exact (State.endLane_eff ..).mono rfl
      · exact Eff.refl ..
    intro hx
    clear_value x0
    extract_lets +onlyGivenNames x3
    refine Eff.cut x3 ?_ ?_
    · subst x3
      refine (State.offerPrompt_eff ..).step rfl ?_
      assumption
    intro hx
    clear_value x3
    extract_lets +onlyGivenNames x4
    refine Eff.cut x4 ?_ ?_
    · subst x4
      refine Eff.foldl ?_ ?_
      · intro a5
        intro a6
        exact (State.offerLane_eff ..).mono rfl
      · assumption
    intro hx
    clear_value x4
    refine (State.finishGen_eff ..).step rfl ?_
    assumption

theorem State.settleGen_eff : ∀ s k, Eff 1133853425498 s (State.settleGen s k) := by
  intro s k
  unfold State.settleGen
  split
  · exact Eff.refl ..
  · refine Eff.ite ?_ ?_
    · refine (State.finishGen_eff ..).step rfl ?_
      exact Eff.refl ..
    · exact Eff.refl ..

theorem State.protect_eff : ∀ fuel s p, Eff 5368709184 s (State.protect fuel s p) := by
  intro fuel s p
  induction fuel generalizing s p with
  | zero =>
    rw [State.protect]
    exact Eff.refl ..
  | succ n ih =>
    rw [State.protect]
    refine Eff.ite ?_ ?_
    · exact Eff.refl ..
    · extract_lets +onlyGivenNames x0
      clear_value x0
      refine Eff.ite ?_ ?_
      · exact Eff.refl ..
      · extract_lets +onlyGivenNames x1
        clear_value x1
        split
        · exact Eff.refl ..
        · extract_lets +onlyGivenNames x2
          refine Eff.cut x2 ?_ ?_
          · subst x2
            exact (State.updGen_eff ..).mono rfl
          intro hx
          clear_value x2
          refine (ih ..).step rfl ?_
          refine (State.charge_eff ..).step rfl ?_
          assumption

theorem State.restoreGen_eff : ∀ s g, Eff 1133853425498 s (State.restoreGen s g) := by
  intro s g
  unfold State.restoreGen
  refine Eff.foldl ?_ ?_
  · intro a0
    intro a1
    exact (State.startRestore_eff ..).mono rfl
  · exact Eff.refl ..

theorem State.resumePaused_eff : ∀ s p rows, Eff 1133853425498 s (State.resumePaused s p rows) := by
  intro s p rows
  unfold State.resumePaused
  extract_lets +onlyGivenNames x0
  clear_value x0
  extract_lets +onlyGivenNames x1
  clear_value x1
  refine Eff.foldl_fst ?_ ?_
  · intro a2
    intro a3
    intro a4
    refine Eff.ite_fst ?_ ?_
    · refine Eff.pair_fst ?_
      exact Eff.refl ..
    · extract_lets +onlyGivenNames x5
      refine Eff.cut x5 ?_ ?_
      · subst x5
        refine Eff.pair_fst ?_
        exact Eff.refl ..
      intro hx
      clear_value x5
      extract_lets +onlyGivenNames x6
      clear_value x6
      extract_lets +onlyGivenNames x7
      clear_value x7
      refine Eff.ite_fst ?_ ?_
      · refine Eff.pair_fst ?_
        refine (State.restoreGen_eff ..).step rfl ?_
        assumption
      · refine Eff.ite_fst ?_ ?_
        · assumption
        · refine Eff.pair_fst ?_
          refine (State.updGen_eff ..).step rfl ?_
          refine (State.chargePause_eff ..).step rfl ?_
          assumption
  · refine Eff.pair_fst ?_
    exact Eff.refl ..

theorem State.rowBlocks_eff : ∀ s r, Eff 1133853425498 s (State.rowBlocks s r) := by
  intro s r
  unfold State.rowBlocks
  extract_lets +onlyGivenNames x0
  clear_value x0
  split
  · exact Eff.refl ..
  · refine Eff.ite ?_ ?_
    · refine Eff.foldl ?_ ?_
      · intro a1
        intro a2
        split
        · refine (State.updGen_eff ..).step rfl ?_
          refine Eff.of_fst ‹_ = (_, _)› ?_
          exact (State.newBlock_eff ..).mono rfl
        · refine Eff.of_fst ‹_ = (_, _)› ?_
          exact (State.newBlock_eff ..).mono rfl
      · exact Eff.refl ..
    · split
      · exact Eff.refl ..
      · extract_lets +onlyGivenNames x3
        clear_value x3
        refine Eff.ite ?_ ?_
        · exact Eff.refl ..
        · refine Eff.foldl ?_ ?_
          · intro a4
            intro a5
            split
            · refine (State.updGen_eff ..).step rfl ?_
              refine Eff.of_fst ‹_ = (_, _)› ?_
              exact (State.newBlock_eff ..).mono rfl
            · refine Eff.of_fst ‹_ = (_, _)› ?_
              exact (State.newBlock_eff ..).mono rfl
          · exact Eff.refl ..

theorem State.hostControl_eff : ∀ s g, Eff 1073741840 s (State.hostControl s g) := by
  intro s g
  unfold State.hostControl
  extract_lets +onlyGivenNames x0
  clear_value x0
  refine (State.updGen_eff ..).step rfl ?_
  refine Eff.foldl ?_ ?_
  · intro a1
    intro a2
    refine Eff.ite ?_ ?_
    · refine (State.interim_eff ..).step rfl ?_
      exact (State.updGen_eff ..).mono rfl
    · exact (State.updGen_eff ..).mono rfl
  · exact Eff.refl ..

theorem State.genBoundary_eff : ∀ s p, Eff 1133853425498 s (State.genBoundary s p) := by
  intro s p
  unfold State.genBoundary
  extract_lets +onlyGivenNames x0
  refine Eff.cut x0 ?_ ?_
  · subst x0
    refine Eff.foldl ?_ ?_
    · intro a1
      intro a2
      refine Eff.ite ?_ ?_
      · exact (State.failGen_eff ..).mono rfl
      · exact (State.endReq_eff ..).mono rfl
    · exact Eff.refl ..
  intro hx
  clear_value x0
  extract_lets +onlyGivenNames x3
  clear_value x3
  extract_lets +onlyGivenNames x4
  refine Eff.cut x4 ?_ ?_
  · subst x4
    refine (State.setPart_eff ..).step rfl ?_
    assumption
  intro hx
  clear_value x4
  refine Eff.foldl ?_ ?_
  · intro a5
    intro a6
    split
    · exact (State.stopGen_eff ..).mono rfl
    · refine Eff.ite ?_ ?_
      · exact (State.failGen_eff ..).mono rfl
      · exact Eff.refl ..
  · assumption

theorem State.compose_eff : ∀ fuel s p, Eff 1133853425498 s (State.compose fuel s p).1 := by
  intro fuel s p
  induction fuel generalizing s p with
  | zero =>
    rw [State.compose]
    refine Eff.pair_fst ?_
    refine (State.resumePaused_eff ..).step rfl ?_
    exact (State.protect_eff ..).mono rfl
  | succ f ih =>
    rw [State.compose]
    refine Eff.ite_fst ?_ ?_
    · refine (ih ..).step rfl ?_
      refine (State.resumePaused_eff ..).step rfl ?_
      exact (State.protect_eff ..).mono rfl
    · refine Eff.pair_fst ?_
      refine (State.resumePaused_eff ..).step rfl ?_
      exact (State.protect_eff ..).mono rfl

theorem State.composeStep_eff : ∀ s p, Eff 1133853425498 s (State.composeStep s p) := by
  intro s p
  unfold State.composeStep
  refine Eff.ite ?_ ?_
  · exact Eff.refl ..
  · extract_lets +onlyGivenNames x0
    refine Eff.cut x0.1 ?_ ?_
    · subst x0
      refine (State.compose_eff ..).step rfl ?_
      refine Eff.foldl ?_ ?_
      · intro a1
        intro a2
        exact (State.hostControl_eff ..).mono rfl
      · exact Eff.refl ..
    intro hx
    clear_value x0
    extract_lets +onlyGivenNames x3
    refine Eff.cut x3 ?_ ?_
    · subst x3
      refine Eff.foldl ?_ ?_
      · intro a4
        intro a5
        exact (State.rowBlocks_eff ..).mono rfl
      · assumption
    intro hx
    clear_value x3
    extract_lets +onlyGivenNames x6
    refine Eff.cut x6 ?_ ?_
    · subst x6
      refine Eff.foldl ?_ ?_
      · intro a7
        intro a8
        exact (State.restoreGen_eff ..).mono rfl
      · assumption
    intro hx
    clear_value x6
    refine (State.setPart_eff ..).step rfl ?_
    assumption

theorem State.kickGen_eff : ∀ s p, Eff 1133853425498 s (State.kickGen s p) := by
  intro s p
  unfold State.kickGen
  refine Eff.ite ?_ ?_
  · refine (State.composeStep_eff ..).step rfl ?_
    exact (State.genBoundary_eff ..).mono rfl
  · exact Eff.refl ..

theorem State.beginGen_eff : ∀ s r b prompt mask bias stops outBase recBase few spanBefore matched, Eff 1108083614552 s (State.beginGen s r b prompt mask bias stops outBase recBase few spanBefore matched) := by
  intro s r b prompt mask bias stops outBase recBase few spanBefore matched
  unfold State.beginGen
  extract_lets +onlyGivenNames x0
  clear_value x0
  split
  · exact (State.endReq_eff ..).mono rfl
  · extract_lets +onlyGivenNames x1
    clear_value x1
    extract_lets +onlyGivenNames x2
    clear_value x2
    extract_lets +onlyGivenNames x3
    clear_value x3
    extract_lets +onlyGivenNames x4
    refine Eff.cut x4 ?_ ?_
    · subst x4
      exact (State.updReq_eff ..).mono rfl
    intro hx
    clear_value x4
    extract_lets +onlyGivenNames x5
    clear_value x5
    refine (State.putGens_eff ..).step rfl ?_
    assumption

theorem State.opGenerate_eff : ∀ s k, Eff 1133853425498 s (State.opGenerate s k) := by
  intro s k
  unfold State.opGenerate
  refine State.onReq_eff ?_ ?_
  · exact Eff.refl ..
  · intro a0
    refine Eff.ite ?_ ?_
    · exact Eff.refl ..
    · split
      · refine (State.endReq_eff ..).step rfl ?_
        exact Eff.refl ..
      · split
        · refine (State.endReq_eff ..).step rfl ?_
          exact Eff.refl ..
        · split
          · refine Eff.of_fst ‹_ = (_, _)› ?_
            exact (State.gather_eff ..).mono rfl
          · extract_lets +onlyGivenNames x1
            clear_value x1
            refine Eff.ite ?_ ?_
            · refine (State.endReq_eff ..).step rfl ?_
              refine Eff.of_fst ‹_ = (_, _)› ?_
              exact (State.gather_eff ..).mono rfl
            · extract_lets +onlyGivenNames x2
              refine Eff.cut x2 ?_ ?_
              · subst x2
                refine (State.updReq_eff ..).step rfl ?_
                refine (State.setInputs_eff ..).step rfl ?_
                refine Eff.of_fst ‹_ = (_, _)› ?_
                exact (State.gather_eff ..).mono rfl
              intro hx
              clear_value x2
              extract_lets +onlyGivenNames x3
              refine Eff.cut x3 ?_ ?_
              · subst x3
                refine (State.beginGen_eff ..).step rfl ?_
                assumption
              intro hx
              clear_value x3
              split
              · refine Eff.ite ?_ ?_
                · refine (State.startMatch_eff ..).step rfl ?_
                  assumption
                · assumption
              · assumption

theorem execOpGenerate_eff : ∀ client req s, OutEff 1133853425498 s (execOpGenerate client req s) := by
  intro client req s
  unfold execOpGenerate
  refine OutEff.next ?_
  exact (State.opGenerate_eff ..).mono rfl

theorem State.genAdmission_eff : ∀ s p cls, Eff 1133853425498 s (State.genAdmission s p cls) := by
  intro s p cls
  unfold State.genAdmission
  split
  · exact Eff.refl ..
  · extract_lets +onlyGivenNames x0
    clear_value x0
    split
    · exact (State.stopGen_eff ..).mono rfl
    · exact (State.failGen_eff ..).mono rfl
    · refine Eff.ite ?_ ?_
      · exact Eff.refl ..
      · refine Eff.ite ?_ ?_
        · exact Eff.refl ..
        · refine Eff.ite ?_ ?_
          · exact (State.failGen_eff ..).mono rfl
          · extract_lets +onlyGivenNames x1
            refine Eff.cut x1 ?_ ?_
            · subst x1
              exact (State.putProbes_eff ..).mono rfl
            intro hx
            clear_value x1
            extract_lets +onlyGivenNames x2
            clear_value x2
            refine Eff.ite ?_ ?_
            · refine (State.failGen_eff ..).step rfl ?_
              assumption
            · refine Eff.ite ?_ ?_
              · assumption
              · refine (State.kickGen_eff ..).step rfl ?_
                refine (State.updGen_eff ..).step rfl ?_
                assumption

theorem execGenAdmission_eff : ∀ part cls s, OutEff 1133853425498 s (execGenAdmission part cls s) := by
  intro part cls s
  unfold execGenAdmission
  refine OutEff.next ?_
  exact (State.genAdmission_eff ..).mono rfl

theorem State.assignPip_eff : ∀ s p rs, Eff 1133853425498 s (State.assignPip s p rs) := by
  intro s p rs
  unfold State.assignPip
  extract_lets +onlyGivenNames x0
  clear_value x0
  extract_lets +onlyGivenNames x1
  clear_value x1
  refine Eff.ite ?_ ?_
  · refine Eff.foldl ?_ ?_
    · intro a2
      intro a3
      exact (State.failGen_eff ..).mono rfl
    · exact Eff.refl ..
  · extract_lets +onlyGivenNames x4
    clear_value x4
    extract_lets +onlyGivenNames x5
    clear_value x5
    extract_lets +onlyGivenNames x6
    clear_value x6
    extract_lets +onlyGivenNames x7
    refine Eff.cut x7 ?_ ?_
    · subst x7
      refine Eff.foldl ?_ ?_
      · intro a8
        intro a9
        exact (State.wr_eff ..).mono rfl
      · exact Eff.refl ..
    intro hx
    clear_value x7
    refine (State.setPart_eff ..).step rfl ?_
    assumption

theorem State.takeToken_eff : ∀ s g lane l x, Eff 1133853425498 s (State.takeToken s g lane l x) := by
  intro s g lane l x
  unfold State.takeToken
  extract_lets +onlyGivenNames x0
  clear_value x0
  extract_lets +onlyGivenNames x1
  clear_value x1
  extract_lets +onlyGivenNames x2
  clear_value x2
  extract_lets +onlyGivenNames x3
  refine Eff.cut x3 ?_ ?_
  · subst x3
    exact (State.updGen_eff ..).mono rfl
  intro hx
  clear_value x3
  extract_lets +onlyGivenNames x4
  subst x4
  split
  · extract_lets +onlyGivenNames x5
    clear_value x5
    dsimp -zeta only
    refine (State.updGen_eff ..).step rfl ?_
    refine (State.deliver_eff ..).step rfl ?_
    assumption
  · refine Eff.ite ?_ ?_
    · dsimp -zeta only
      refine (State.updGen_eff ..).step rfl ?_
      refine (State.deliver_eff ..).step rfl ?_
      assumption
    · extract_lets +onlyGivenNames x6
      clear_value x6
      dsimp -zeta only
      refine (State.updGen_eff ..).step rfl ?_
      refine (State.deliver_eff ..).step rfl ?_
      assumption

theorem State.pipIdle_eff : ∀ s p u, Eff 8 s (State.pipIdle s p u) := by
  intro s p u
  unfold State.pipIdle
  refine Eff.ite ?_ ?_
  · exact Eff.refl ..
  · refine (State.wr_eff ..).step rfl ?_
    exact Eff.refl ..

theorem State.pipSample_eff : ∀ s p i poisoned, Eff 1133853425498 s (State.pipSample s p i poisoned) := by
  intro s p i poisoned
  unfold State.pipSample
  extract_lets +onlyGivenNames x0
  clear_value x0
  split
  · exact Eff.refl ..
  · extract_lets +onlyGivenNames x1
    clear_value x1
    refine Eff.ite ?_ ?_
    · exact Eff.refl ..
    · extract_lets +onlyGivenNames x2
      refine Eff.cut x2 ?_ ?_
      · subst x2
        refine (State.pipIdle_eff ..).step rfl ?_
        exact (State.setPart_eff ..).mono rfl
      intro hx
      clear_value x2
      split
      · extract_lets +onlyGivenNames x3
        refine Eff.cut x3 ?_ ?_
        · subst x3
          refine (State.charge_eff ..).step rfl ?_
          assumption
        intro hx
        clear_value x3
        extract_lets +onlyGivenNames x4
        refine Eff.cut x4 ?_ ?_
        · subst x4
          refine Eff.ite ?_ ?_
          · refine (State.failGen_eff ..).step rfl ?_
            assumption
          · refine Eff.ite ?_ ?_
            · refine (State.failGen_eff ..).step rfl ?_
              refine (State.raise_eff ..).step rfl ?_
              assumption
            · split
              · refine (State.settleGen_eff ..).step rfl ?_
                refine (State.incSat_eff ..).step rfl ?_
                refine (State.endLane_eff ..).step rfl ?_
                assumption
              · refine (State.settleGen_eff ..).step rfl ?_
                refine (State.inc_eff ..).step rfl ?_
                refine (State.takeToken_eff ..).step rfl ?_
                assumption
        intro hx
        clear_value x4
        refine (State.kickGen_eff ..).step rfl ?_
        assumption
      · refine (State.kickGen_eff ..).step rfl ?_
        assumption

theorem execPipSample_eff : ∀ part lane poisoned s, OutEff 1133853425498 s (execPipSample part lane poisoned s) := by
  intro part lane poisoned s
  unfold execPipSample
  refine OutEff.next ?_
  exact (State.pipSample_eff ..).mono rfl

theorem State.retryRestores_eff : ∀ s p, Eff 1133853425498 s (State.retryRestores s p) := by
  intro s p
  unfold State.retryRestores
  refine Eff.foldl ?_ ?_
  · intro a0
    intro a1
    exact (State.restoreGen_eff ..).mono rfl
  · exact Eff.refl ..

theorem State.restoreDone_eff : ∀ s p b, Eff 1133853425498 s (State.restoreDone s p b) := by
  intro s p b
  unfold State.restoreDone
  split
  · exact Eff.refl ..
  · split
    · exact Eff.refl ..
    · extract_lets +onlyGivenNames x0
      refine Eff.cut x0 ?_ ?_
      · subst x0
        exact (State.readHolder_eff ..).mono rfl
      intro hx
      clear_value x0
      refine Eff.ite ?_ ?_
      · refine (State.kickGen_eff ..).step rfl ?_
        assumption
      · extract_lets +onlyGivenNames x1
        refine Eff.cut x1 ?_ ?_
        · subst x1
          refine (State.flashToDev_eff ..).step rfl ?_
          assumption
        intro hx
        clear_value x1
        extract_lets +onlyGivenNames x2
        refine Eff.cut x2 ?_ ?_
        · subst x2
          refine (State.updPool_eff ..).step rfl ?_
          assumption
        intro hx
        clear_value x2
        extract_lets +onlyGivenNames x3
        refine Eff.cut x3 ?_ ?_
        · subst x3
          refine (State.setTier_eff ..).step rfl ?_
          refine (State.wr_eff ..).step rfl ?_
          assumption
        intro hx
        clear_value x3
        refine (State.kickGen_eff ..).step rfl ?_
        refine (State.retryRestores_eff ..).step rfl ?_
        assumption

theorem execPoolRestoreDone_eff : ∀ pool block s, OutEff 1133853425498 s (execPoolRestoreDone pool block s) := by
  intro pool block s
  unfold execPoolRestoreDone
  refine OutEff.next ?_
  exact (State.restoreDone_eff ..).mono rfl

theorem State.stepControl_eff {k : Nat} {s0 s : State} {q : ReqKey} {act : Nat} {f : State → ReqKey → State × Bool}
    (hk : subMask 1133853425498 k = true) (h : Eff k s0 s) (hf : ∀ s t, Eff k s (f s t).1) : Eff k s0 (s.stepControl q act f) := by
  unfold State.stepControl
  refine State.onReq_eff h fun r => Eff.ite h ?_
  extract_lets t x0 x1 x2
  have h0 : Eff k s0 x0 := ((State.updReq_eff ..).mono rfl).step hk h
  refine Eff.ite (((State.endReq_eff ..).mono rfl).step hk h0) ?_
  have h2 : Eff k s0 x2 := ((State.endReq_eff ..).mono rfl).step hk ((hf x0 t).step (by simp [subMask]) h0)
  split
  · exact ((State.kickGen_eff ..).mono rfl).step hk h2
  · exact h2

theorem State.holdControl_eff : ∀ s t pause, Eff 1073741840 s (State.holdControl s t pause) := by
  intro s t pause
  unfold State.holdControl
  refine Eff.ite ?_ ?_
  · exact (State.updGen_eff ..).mono rfl
  · exact (State.updReq_eff ..).mono rfl

theorem State.pauseGen_eff : ∀ s t, Eff 1073741840 s (State.pauseGen s t).1 := by
  intro s t
  unfold State.pauseGen
  refine Eff.ite_fst ?_ ?_
  · refine Eff.pair_fst ?_
    exact (State.holdControl_eff ..).mono rfl
  · refine Eff.pair_fst ?_
    exact Eff.refl ..

theorem execStepControlPause_eff : ∀ client req s, OutEff 1133853425498 s (execStepControlPause client req s) := by
  intro client req s
  unfold execStepControlPause
  refine OutEff.next ?_
  refine State.stepControl_eff rfl ?_ ?_
  · exact Eff.refl ..
  · intro a0
    intro a1
    exact (State.pauseGen_eff ..).mono rfl

theorem State.resumeGen_eff : ∀ s t, Eff 1073741840 s (State.resumeGen s t).1 := by
  intro s t
  unfold State.resumeGen
  refine Eff.ite_fst ?_ ?_
  · refine Eff.pair_fst ?_
    exact (State.holdControl_eff ..).mono rfl
  · refine Eff.pair_fst ?_
    exact Eff.refl ..

theorem execStepControlResume_eff : ∀ client req s, OutEff 1133853425498 s (execStepControlResume client req s) := by
  intro client req s
  unfold execStepControlResume
  refine OutEff.next ?_
  refine State.stepControl_eff rfl ?_ ?_
  · exact Eff.refl ..
  · intro a0
    intro a1
    exact (State.resumeGen_eff ..).mono rfl

theorem execStepControlCancel_eff : ∀ client req s, OutEff 1133853425498 s (execStepControlCancel client req s) := by
  intro client req s
  unfold execStepControlCancel
  refine OutEff.next ?_
  refine State.stepControl_eff rfl ?_ ?_
  · exact Eff.refl ..
  · intro a0
    intro a1
    refine Eff.pair_fst ?_
    exact (State.cancelReq_eff ..).mono rfl

end Sys2Proof.Machine
end

