-- ==== Sys2Proof/Laws/Passes.lean ====
section
/-! SUPPORT. What each operation of Machine/Passes.lean can change, in the terms of Laws/Eff.lean: one lemma an operation. -/

namespace Sys2Proof.Machine

theorem State.queueRows_eff : ∀ s p x, Eff 1108083614552 s (State.queueRows s p x) := by
  intro s p x
  unfold State.queueRows
  refine Eff.ite ?_ ?_
  · refine (State.failWork_eff ..).step rfl ?_
    exact Eff.refl ..
  · refine (State.setPart_eff ..).step rfl ?_
    exact Eff.refl ..

theorem State.opEmbed_eff : ∀ s k, Eff 1108083614552 s (State.opEmbed s k) := by
  intro s k
  unfold State.opEmbed
  refine State.onReq_eff ?_ ?_
  · exact Eff.refl ..
  · intro a0
    refine Eff.ite ?_ ?_
    · exact Eff.refl ..
    · split
      · refine (State.endReq_eff ..).step rfl ?_
        exact Eff.refl ..
      · split
        · refine (State.endReq_eff ..).step rfl ?_
          exact Eff.refl ..
        · extract_lets +onlyGivenNames x1
          clear_value x1
          extract_lets +onlyGivenNames x2
          refine Eff.cut x2 ?_ ?_
          · subst x2
            exact (State.updReq_eff ..).mono rfl
          intro hx
          clear_value x2
          refine (State.queueRows_eff ..).step rfl ?_
          assumption

theorem execOpEmbed_eff : ∀ client req s, OutEff 1108083614552 s (execOpEmbed client req s) := by
  intro client req s
  unfold execOpEmbed
  refine OutEff.next ?_
  exact (State.opEmbed_eff ..).mono rfl

theorem State.opRerankModel_eff : ∀ s k, Eff 1133853425498 s (State.opRerankModel s k) := by
  intro s k
  unfold State.opRerankModel
  refine State.onReq_eff ?_ ?_
  · exact Eff.refl ..
  · intro a0
    refine Eff.ite ?_ ?_
    · exact Eff.refl ..
    · split
      · refine (State.endReq_eff ..).step rfl ?_
        exact Eff.refl ..
      · split
        · refine (State.endReq_eff ..).step rfl ?_
          exact Eff.refl ..
        · extract_lets +onlyGivenNames x1
          clear_value x1
          extract_lets +onlyGivenNames x2
          clear_value x2
          extract_lets +onlyGivenNames x3
          clear_value x3
          split
          · refine Eff.of_fst ‹_ = (_, _)› ?_
            exact (State.peek_eff ..).mono rfl
          · extract_lets +onlyGivenNames x4
            clear_value x4
            split
            · refine Eff.of_fst ‹_ = (_, _)› ?_
              refine (State.peek_eff ..).step rfl ?_
              refine Eff.of_fst ‹_ = (_, _)› ?_
              exact (State.peek_eff ..).mono rfl
            · refine Eff.ite ?_ ?_
              · refine (State.endReq_eff ..).step rfl ?_
                refine Eff.of_fst ‹_ = (_, _)› ?_
                refine (State.peek_eff ..).step rfl ?_
                refine Eff.of_fst ‹_ = (_, _)› ?_
                exact (State.peek_eff ..).mono rfl
              · extract_lets +onlyGivenNames x5
                clear_value x5
                split
                · refine Eff.of_fst ‹_ = (_, _)› ?_
                  refine (State.gather_eff ..).step rfl ?_
                  refine Eff.of_fst ‹_ = (_, _)› ?_
                  refine (State.peek_eff ..).step rfl ?_
                  refine Eff.of_fst ‹_ = (_, _)› ?_
                  exact (State.peek_eff ..).mono rfl
                · extract_lets +onlyGivenNames x6
                  clear_value x6
                  extract_lets +onlyGivenNames x7
                  refine Eff.cut x7 ?_ ?_
                  · subst x7
                    refine (State.updReq_eff ..).step rfl ?_
                    refine (State.setInputs_eff ..).step rfl ?_
                    refine Eff.of_fst ‹_ = (_, _)› ?_
                    refine (State.gather_eff ..).step rfl ?_
                    refine Eff.of_fst ‹_ = (_, _)› ?_
                    refine (State.peek_eff ..).step rfl ?_
                    refine Eff.of_fst ‹_ = (_, _)› ?_
                    exact (State.peek_eff ..).mono rfl
                  intro hx
                  clear_value x7
                  refine (State.queueRows_eff ..).step rfl ?_
                  assumption

theorem execOpRerankModel_eff : ∀ client req s, OutEff 1133853425498 s (execOpRerankModel client req s) := by
  intro client req s
  unfold execOpRerankModel
  refine OutEff.next ?_
  exact (State.opRerankModel_eff ..).mono rfl

theorem State.passBoundary_eff : ∀ s p, Eff 1108083614552 s (State.passBoundary s p) := by
  intro s p
  unfold State.passBoundary
  refine Eff.foldl ?_ ?_
  · intro a0
    intro a1
    split
    · refine Eff.ite ?_ ?_
      · exact Eff.refl ..
      · split
        · refine (State.endReq_eff ..).step rfl ?_
          exact Eff.refl ..
        · exact Eff.refl ..
    · exact Eff.refl ..
  · exact Eff.refl ..

theorem State.passForm_eff : ∀ s p, Eff 1108083614552 s (State.passForm s p) := by
  intro s p
  unfold State.passForm
  extract_lets +onlyGivenNames x0
  clear_value x0
  refine Eff.ite ?_ ?_
  · exact Eff.refl ..
  · extract_lets +onlyGivenNames x1
    refine Eff.cut x1 ?_ ?_
    · subst x1
      exact (State.passBoundary_eff ..).mono rfl
    intro hx
    clear_value x1
    extract_lets +onlyGivenNames x2
    clear_value x2
    extract_lets +onlyGivenNames x3
    clear_value x3
    extract_lets +onlyGivenNames x4
    clear_value x4
    refine Eff.ite ?_ ?_
    · assumption
    · extract_lets +onlyGivenNames x5
      refine Eff.cut x5 ?_ ?_
      · subst x5
        refine Eff.foldl ?_ ?_
        · intro a6
          intro a7
          exact (State.start_eff ..).mono rfl
        · assumption
      intro hx
      clear_value x5
      refine (State.setPart_eff ..).step rfl ?_
      assumption

theorem execPassForm_eff : ∀ part s, OutEff 1108083614552 s (execPassForm part s) := by
  intro part s
  unfold execPassForm
  refine OutEff.next ?_
  exact (State.passForm_eff ..).mono rfl

theorem State.passStage_eff : ∀ s k r p w x, Eff 2147483648 s (State.passStage s k r p w x) := by
  intro s k r p w x
  unfold State.passStage
  refine Eff.ite ?_ ?_
  · extract_lets +onlyGivenNames x0
    clear_value x0
    exact (State.updRetrieve_eff ..).mono rfl
  · exact (State.updRetrieve_eff ..).mono rfl

theorem State.passOut_eff : ∀ s p x, Eff 1133853425498 s (State.passOut s p x) := by
  intro s p x
  unfold State.passOut
  extract_lets +onlyGivenNames x0
  clear_value x0
  split
  · refine Eff.ite ?_ ?_
    · exact Eff.refl ..
    · refine Eff.ite ?_ ?_
      · exact (State.passStage_eff ..).mono rfl
      · split
        · exact (State.endReq_eff ..).mono rfl
        · refine Eff.ite ?_ ?_
          · extract_lets +onlyGivenNames x1
            clear_value x1
            extract_lets +onlyGivenNames x2
            clear_value x2
            refine (State.endReq_eff ..).step rfl ?_
            exact (State.putOut_eff ..).mono rfl
          · extract_lets +onlyGivenNames x3
            clear_value x3
            extract_lets +onlyGivenNames x4
            clear_value x4
            extract_lets +onlyGivenNames x5
            clear_value x5
            refine (State.endReq_eff ..).step rfl ?_
            exact (State.putOut_eff ..).mono rfl
  · exact Eff.refl ..

theorem State.passDone_eff : ∀ s p, Eff 1133853425498 s (State.passDone s p) := by
  intro s p
  unfold State.passDone
  extract_lets +onlyGivenNames x0
  clear_value x0
  refine Eff.foldl ?_ ?_
  · intro a1
    intro a2
    exact (State.passOut_eff ..).mono rfl
  · refine (State.setPart_eff ..).step rfl ?_
    exact Eff.refl ..

end Sys2Proof.Machine
end

