-- ==== Sys2Proof/Laws/Steps.lean ====
section
/-! SUPPORT. What each operation of Machine/Steps.lean can change, in the terms of Laws/Eff.lean: one lemma an operation. -/

namespace Sys2Proof.Machine

theorem State.chargeStep_eff : ∀ s p rows last, Eff 4294967360 s (State.chargeStep s p rows last) := by
  intro s p rows last
  unfold State.chargeStep
  extract_lets +onlyGivenNames x0
  refine Eff.cut x0 ?_ ?_
  · subst x0
    exact (State.chargeRows_eff ..).mono rfl
  intro hx
  clear_value x0
  refine Eff.ite ?_ ?_
  · assumption
  · extract_lets +onlyGivenNames x1
    clear_value x1
    extract_lets +onlyGivenNames x2
    refine Eff.cut x2 ?_ ?_
    · subst x2
      refine (State.chargeRows_eff ..).step rfl ?_
      assumption
    intro hx
    clear_value x2
    refine Eff.foldl ?_ ?_
    · intro a3
      intro a4
      extract_lets +onlyGivenNames x5
      clear_value x5
      exact (State.charge_eff ..).mono rfl
    · assumption

theorem State.learnPhase_eff : ∀ s p key step mw, Eff 8589934592 s (State.learnPhase s p key step mw) := by
  intro s p key step mw
  unfold State.learnPhase
  split
  · extract_lets +onlyGivenNames x0
    clear_value x0
    extract_lets +onlyGivenNames x1
    clear_value x1
    exact (State.updPower_eff ..).mono rfl
  · refine (State.updPower_eff ..).step rfl ?_
    exact Eff.refl ..

theorem State.learnStep_eff : ∀ s p lengthNs energy signature, Eff 8589942784 s (State.learnStep s p lengthNs energy signature) := by
  intro s p lengthNs energy signature
  unfold State.learnStep
  extract_lets +onlyGivenNames x0
  clear_value x0
  extract_lets +onlyGivenNames x1
  clear_value x1
  extract_lets +onlyGivenNames x2
  clear_value x2
  extract_lets +onlyGivenNames x3
  refine Eff.cut x3 ?_ ?_
  · subst x3
    refine Eff.ite ?_ ?_
    · exact (State.setPart_eff ..).mono rfl
    · exact Eff.refl ..
  intro hx
  clear_value x3
  refine Eff.ite ?_ ?_
  · assumption
  · refine (State.learnPhase_eff ..).step rfl ?_
    assumption

theorem State.killBlock_eff : ∀ s e, Eff 671088648 s (State.killBlock s e) := by
  intro s e
  unfold State.killBlock
  split
  · refine Eff.ite ?_ ?_
    · exact (State.killNode_eff ..).mono rfl
    · exact Eff.refl ..
  · exact Eff.refl ..

theorem State.poisonedRows_eff : ∀ s p rows last, Eff 671099144 s (State.poisonedRows s p rows last) := by
  intro s p rows last
  unfold State.poisonedRows
  refine Eff.foldl ?_ ?_
  · intro a0
    intro a1
    extract_lets +onlyGivenNames x2
    clear_value x2
    extract_lets +onlyGivenNames x3
    clear_value x3
    extract_lets +onlyGivenNames x4
    clear_value x4
    extract_lets +onlyGivenNames x5
    clear_value x5
    extract_lets +onlyGivenNames x6
    clear_value x6
    extract_lets +onlyGivenNames x7
    clear_value x7
    extract_lets +onlyGivenNames x8
    refine Eff.cut x8 ?_ ?_
    · subst x8
      exact (State.setCluster_eff ..).mono rfl
    intro hx
    clear_value x8
    extract_lets +onlyGivenNames x9
    refine Eff.cut x9 ?_ ?_
    · subst x9
      refine Eff.foldl ?_ ?_
      · intro a10
        intro a11
        exact (State.raise_eff ..).mono rfl
      · assumption
    intro hx
    clear_value x9
    extract_lets +onlyGivenNames x12
    refine Eff.cut x12 ?_ ?_
    · subst x12
      refine Eff.foldl ?_ ?_
      · intro a13
        intro a14
        exact (State.raise_eff ..).mono rfl
      · assumption
    intro hx
    clear_value x12
    extract_lets +onlyGivenNames x15
    clear_value x15
    refine Eff.foldl ?_ ?_
    · intro a16
      intro a17
      exact (State.killBlock_eff ..).mono rfl
    · refine (State.setPart_eff ..).step rfl ?_
      assumption
  · exact Eff.refl ..

theorem State.advance_eff : ∀ s r, Eff 1133853425498 s (State.advance s r) := by
  intro s r
  unfold State.advance
  refine Eff.ite ?_ ?_
  · exact Eff.refl ..
  · extract_lets +onlyGivenNames x0
    clear_value x0
    split
    · exact Eff.refl ..
    · extract_lets +onlyGivenNames x1
      clear_value x1
      refine (State.offerPrompt_eff ..).step rfl ?_
      exact (State.updGen_eff ..).mono rfl

theorem State.endPoisoned_eff : ∀ s p, Eff 1133853425498 s (State.endPoisoned s p) := by
  intro s p
  unfold State.endPoisoned
  extract_lets +onlyGivenNames x0
  clear_value x0
  refine Eff.foldl ?_ ?_
  · intro a1
    intro a2
    refine Eff.ite ?_ ?_
    · refine (State.failGen_eff ..).step rfl ?_
      exact Eff.refl ..
    · refine Eff.ite ?_ ?_
      · refine (State.failWork_eff ..).step rfl ?_
        exact Eff.refl ..
      · refine (State.endReq_eff ..).step rfl ?_
        exact Eff.refl ..
  · refine (State.setPart_eff ..).step rfl ?_
    exact Eff.refl ..

theorem State.stepComplete_eff : ∀ s p lengthNs energy signature last, Eff 1133853425498 s (State.stepComplete s p lengthNs energy signature last) := by
  intro s p lengthNs energy signature last
  unfold State.stepComplete
  extract_lets +onlyGivenNames x0
  clear_value x0
  split
  · exact Eff.refl ..
  · refine Eff.ite ?_ ?_
    · exact Eff.refl ..
    · extract_lets +onlyGivenNames x1
      refine Eff.cut x1 ?_ ?_
      · subst x1
        refine Eff.foldl ?_ ?_
        · intro a2
          intro a3
          exact (State.rowEvents_eff ..).mono rfl
        · exact Eff.refl ..
      intro hx
      clear_value x1
      extract_lets +onlyGivenNames x4
      refine Eff.cut x4 ?_ ?_
      · subst x4
        refine (State.poisonedRows_eff ..).step rfl ?_
        refine (State.chargeStep_eff ..).step rfl ?_
        refine (State.learnStep_eff ..).step rfl ?_
        assumption
      intro hx
      clear_value x4
      extract_lets +onlyGivenNames x5
      clear_value x5
      extract_lets +onlyGivenNames x6
      refine Eff.cut x6 ?_ ?_
      · subst x6
        refine (State.endUse_eff ..).step rfl ?_
        refine (State.setPart_eff ..).step rfl ?_
        assumption
      intro hx
      clear_value x6
      extract_lets +onlyGivenNames x7
      refine Eff.cut x7 ?_ ?_
      · subst x7
        refine (State.endPoisoned_eff ..).step rfl ?_
        assumption
      intro hx
      clear_value x7
      refine Eff.ite ?_ ?_
      · extract_lets +onlyGivenNames x8
        clear_value x8
        refine (State.setPart_eff ..).step rfl ?_
        assumption
      · refine Eff.ite ?_ ?_
        · extract_lets +onlyGivenNames x9
          refine Eff.cut x9 ?_ ?_
          · subst x9
            refine (State.genBoundary_eff ..).step rfl ?_
            refine Eff.foldl ?_ ?_
            · intro a10
              intro a11
              exact (State.advance_eff ..).mono rfl
            · assumption
          intro hx
          clear_value x9
          extract_lets +onlyGivenNames x12
          refine Eff.cut x12 ?_ ?_
          · subst x12
            refine (State.assignPip_eff ..).step rfl ?_
            assumption
          intro hx
          clear_value x12
          refine Eff.ite ?_ ?_
          · refine (State.composeStep_eff ..).step rfl ?_
            assumption
          · assumption
        · refine (State.passDone_eff ..).step rfl ?_
          assumption

theorem execStepComplete_eff : ∀ part lengthNs energy signature last s, OutEff 1133853425498 s (execStepComplete part lengthNs energy signature last s) := by
  intro part lengthNs energy signature last s
  unfold execStepComplete
  refine OutEff.next ?_
  exact (State.stepComplete_eff ..).mono rfl

theorem State.issueEntries_eff : ∀ fuel s p, Eff 8208 s (State.issueEntries fuel s p) := by
  intro fuel s p
  induction fuel generalizing s p with
  | zero =>
    rw [State.issueEntries]
    exact Eff.refl ..
  | succ f ih =>
    rw [State.issueEntries]
    split
    · exact Eff.refl ..
    · refine Eff.ite ?_ ?_
      · exact Eff.refl ..
      · extract_lets +onlyGivenNames x0
        refine Eff.cut x0 ?_ ?_
        · subst x0
          exact (State.setPart_eff ..).mono rfl
        intro hx
        clear_value x0
        extract_lets +onlyGivenNames x1
        refine Eff.cut x1 ?_ ?_
        · subst x1
          split
          · split
            · refine (State.hostRead_eff ..).step rfl ?_
              assumption
            · assumption
          · assumption
        intro hx
        clear_value x1
        refine (ih ..).step rfl ?_
        assumption

theorem State.stepFetch_eff : ∀ s p dst lsns, Eff 1103806596936 s (State.stepFetch s p dst lsns) := by
  intro s p dst lsns
  unfold State.stepFetch
  refine (State.chargeRows_eff ..).step rfl ?_
  exact (State.flashToDev_eff ..).mono rfl

theorem State.failEntry_eff : ∀ s p e, Eff 8208 s (State.failEntry s p e) := by
  intro s p e
  unfold State.failEntry
  extract_lets +onlyGivenNames x0
  clear_value x0
  extract_lets +onlyGivenNames x1
  clear_value x1
  refine Eff.ite ?_ ?_
  · exact Eff.refl ..
  · refine (State.issueEntries_eff ..).step rfl ?_
    exact (State.setPart_eff ..).mono rfl

theorem State.copyBounds_eff : ∀ s dst, Eff 256 s (State.copyBounds s dst) := by
  intro s dst
  unfold State.copyBounds
  exact (State.raise_eff ..).mono rfl

theorem State.writePieces_eff : ∀ s dst l, Eff 1099511628288 s (State.writePieces s dst l) := by
  intro s dst l
  unfold State.writePieces
  refine Eff.foldl_fst ?_ ?_
  · intro a0
    intro a1
    intro a2
    refine Eff.pair_fst ?_
    exact (State.writeDevP_eff ..).mono rfl
  · refine Eff.pair_fst ?_
    exact Eff.refl ..

theorem State.failSectors_eff : ∀ s lsns, Eff 1024 s (State.failSectors s lsns) := by
  intro s lsns
  unfold State.failSectors
  exact (State.updFlash_eff ..).mono rfl

theorem State.prefetchDone_eff : ∀ s p e failed, Eff 1103806605144 s (State.prefetchDone s p e failed) := by
  intro s p e failed
  unfold State.prefetchDone
  extract_lets +onlyGivenNames x0
  clear_value x0
  refine Eff.ite ?_ ?_
  · exact Eff.refl ..
  · extract_lets +onlyGivenNames x1
    subst x1
    split
    · beta_reduce
      refine (State.issueEntries_eff ..).step rfl ?_
      exact (State.setPart_eff ..).mono rfl
    · split
      · beta_reduce
        refine (State.issueEntries_eff ..).step rfl ?_
        exact (State.setPart_eff ..).mono rfl
      · extract_lets +onlyGivenNames x2
        clear_value x2
        refine Eff.ite ?_ ?_
        · refine (State.failEntry_eff ..).step rfl ?_
          exact (State.copyBounds_eff ..).mono rfl
        · refine Eff.ite ?_ ?_
          · extract_lets +onlyGivenNames x3
            clear_value x3
            beta_reduce
            refine (State.issueEntries_eff ..).step rfl ?_
            refine (State.setPart_eff ..).step rfl ?_
            refine (State.stepFetch_eff ..).step rfl ?_
            exact (State.failSectors_eff ..).mono rfl
          · split
            · refine Eff.of_fst ‹_ = (_, _)› ?_
              exact (State.hostRead_eff ..).mono rfl
            · extract_lets +onlyGivenNames x4
              refine Eff.cut x4 ?_ ?_
              · subst x4
                refine (State.chargeRows_eff ..).step rfl ?_
                refine Eff.of_fst ‹_ = (_, _)› ?_
                exact (State.hostRead_eff ..).mono rfl
              intro hx
              clear_value x4
              extract_lets +onlyGivenNames x5
              refine Eff.cut x5 ?_ ?_
              · subst x5
                refine (State.updHost_eff ..).step rfl ?_
                assumption
              intro hx
              clear_value x5
              beta_reduce
              refine (State.issueEntries_eff ..).step rfl ?_
              refine (State.setPart_eff ..).step rfl ?_
              refine (State.writePieces_eff ..).step rfl ?_
              assumption

theorem execPrefetchEntryDone_eff : ∀ part entry failed s, OutEff 1103806605144 s (execPrefetchEntryDone part entry failed s) := by
  intro part entry failed s
  unfold execPrefetchEntryDone
  refine OutEff.next ?_
  exact (State.prefetchDone_eff ..).mono rfl

theorem State.failRows_eff : ∀ s p, Eff 1133853425498 s (State.failRows s p) := by
  intro s p
  unfold State.failRows
  refine Eff.foldl ?_ ?_
  · intro a0
    intro a1
    refine Eff.ite ?_ ?_
    · exact (State.failGen_eff ..).mono rfl
    · exact (State.endReq_eff ..).mono rfl
  · exact Eff.refl ..

theorem State.useExpert_eff : ∀ s p key layer sel e, Eff 1133853458266 s (State.useExpert s p key layer sel e) := by
  intro s p key layer sel e
  unfold State.useExpert
  split
  · exact Eff.refl ..
  · extract_lets +onlyGivenNames x0
    clear_value x0
    refine Eff.ite ?_ ?_
    · exact (State.putWeights_eff ..).mono rfl
    · split
      · extract_lets +onlyGivenNames x1
        clear_value x1
        refine Eff.ite ?_ ?_
        · refine (State.failRows_eff ..).step rfl ?_
          exact (State.copyBounds_eff ..).mono rfl
        · extract_lets +onlyGivenNames x2
          refine Eff.cut x2 ?_ ?_
          · subst x2
            exact (State.stepFetch_eff ..).mono rfl
          intro hx
          clear_value x2
          refine (State.putWeights_eff ..).step rfl ?_
          assumption
      · exact Eff.refl ..

theorem State.routeExperts_eff : ∀ s p key layer scores perRow counter, Eff 1133853458266 s (State.routeExperts s p key layer scores perRow counter) := by
  intro s p key layer scores perRow counter
  unfold State.routeExperts
  refine Eff.ite ?_ ?_
  · exact Eff.refl ..
  · extract_lets +onlyGivenNames x0
    clear_value x0
    extract_lets +onlyGivenNames x1
    refine Eff.cut x1 ?_ ?_
    · subst x1
      refine Eff.foldl ?_ ?_
      · intro a2
        intro a3
        exact (State.useExpert_eff ..).mono rfl
      · exact Eff.refl ..
    intro hx
    clear_value x1
    extract_lets +onlyGivenNames x4
    clear_value x4
    extract_lets +onlyGivenNames x5
    refine Eff.cut x5 ?_ ?_
    · subst x5
      refine (State.setPart_eff ..).step rfl ?_
      assumption
    intro hx
    clear_value x5
    refine Eff.foldl ?_ ?_
    · intro a6
      intro a7
      extract_lets +onlyGivenNames x8
      clear_value x8
      exact (State.setCluster_eff ..).mono rfl
    · assumption

theorem execExpertRouting_eff : ∀ part model layer scores perRow counter s, OutEff 1133853458266 s (execExpertRouting part model layer scores perRow counter s) := by
  intro part model layer scores perRow counter s
  unfold execExpertRouting
  refine OutEff.next ?_
  exact (State.routeExperts_eff ..).mono rfl

theorem State.writeSlot_eff : ∀ s cl slot rec' digest k pair, Eff 2048 s (State.writeSlot s cl slot rec' digest k pair) := by
  intro s cl slot rec' digest k pair
  unfold State.writeSlot
  extract_lets +onlyGivenNames x0
  clear_value x0
  exact (State.setCluster_eff ..).mono rfl

theorem State.fillChecks_eff : ∀ s p step, Eff 10248 s (State.fillChecks s p step) := by
  intro s p step
  unfold State.fillChecks
  split
  · refine (State.setPart_eff ..).step rfl ?_
    exact Eff.refl ..
  · extract_lets +onlyGivenNames x0
    clear_value x0
    extract_lets +onlyGivenNames x1
    clear_value x1
    extract_lets +onlyGivenNames x2
    clear_value x2
    extract_lets +onlyGivenNames x3
    clear_value x3
    extract_lets +onlyGivenNames x4
    clear_value x4
    extract_lets +onlyGivenNames x5
    clear_value x5
    extract_lets +onlyGivenNames x6
    refine Eff.cut x6 ?_ ?_
    · subst x6
      exact (State.incSat_eff ..).mono rfl
    intro hx
    clear_value x6
    extract_lets +onlyGivenNames x7
    refine Eff.cut x7 ?_ ?_
    · subst x7
      refine Eff.foldl ?_ ?_
      · intro a8
        intro a9
        exact (State.writeSlot_eff ..).mono rfl
      · assumption
    intro hx
    clear_value x7
    extract_lets +onlyGivenNames x10
    refine Eff.cut x10 ?_ ?_
    · subst x10
      refine Eff.foldl ?_ ?_
      · intro a11
        intro a12
        exact (State.writeSlot_eff ..).mono rfl
      · assumption
    intro hx
    clear_value x10
    refine (State.setPart_eff ..).step rfl ?_
    assumption

theorem State.failTagged_eff : ∀ s p tag, Eff 1133853425498 s (State.failTagged s p tag) := by
  intro s p tag
  unfold State.failTagged
  extract_lets +onlyGivenNames x0
  clear_value x0
  extract_lets +onlyGivenNames x1
  clear_value x1
  extract_lets +onlyGivenNames x2
  clear_value x2
  extract_lets +onlyGivenNames x3
  refine Eff.cut x3 ?_ ?_
  · subst x3
    exact (State.setPart_eff ..).mono rfl
  intro hx
  clear_value x3
  extract_lets +onlyGivenNames x4
  refine Eff.cut x4 ?_ ?_
  · subst x4
    refine Eff.foldl ?_ ?_
    · intro a5
      intro a6
      refine Eff.ite ?_ ?_
      · refine (State.failGen_eff ..).step rfl ?_
        exact Eff.refl ..
      · refine (State.failWork_eff ..).step rfl ?_
        exact Eff.refl ..
    · assumption
  intro hx
  clear_value x4
  refine (State.kickGen_eff ..).step rfl ?_
  assumption

theorem State.copyPrompt_eff : ∀ s r, Eff 1133853425498 s (State.copyPrompt s r) := by
  intro s r
  unfold State.copyPrompt
  extract_lets +onlyGivenNames x0
  clear_value x0
  split
  · exact Eff.refl ..
  · split
    · exact Eff.refl ..
    · refine Eff.ite ?_ ?_
      · exact Eff.refl ..
      · extract_lets +onlyGivenNames x1
        refine Eff.cut x1 ?_ ?_
        · subst x1
          refine Eff.ite ?_ ?_
          · exact Eff.refl ..
          · split
            · exact (State.copyBlock_eff ..).mono rfl
            · exact Eff.refl ..
        intro hx
        clear_value x1
        refine (State.updGen_eff ..).step rfl ?_
        assumption

theorem State.beginRelease_eff : ∀ s p tag, Eff 1133853425498 s (State.beginRelease s p tag) := by
  intro s p tag
  unfold State.beginRelease
  refine Eff.ite ?_ ?_
  · exact Eff.refl ..
  · refine Eff.ite ?_ ?_
    · exact (State.failTagged_eff ..).mono rfl
    · extract_lets +onlyGivenNames x0
      clear_value x0
      extract_lets +onlyGivenNames x1
      refine Eff.cut x1 ?_ ?_
      · subst x1
        exact (State.setPart_eff ..).mono rfl
      intro hx
      clear_value x1
      extract_lets +onlyGivenNames x2
      refine Eff.cut x2 ?_ ?_
      · subst x2
        refine Eff.foldl ?_ ?_
        · intro a3
          intro a4
          exact (State.copyPrompt_eff ..).mono rfl
        · assumption
      intro hx
      clear_value x2
      extract_lets +onlyGivenNames x5
      refine Eff.cut x5 ?_ ?_
      · subst x5
        refine (State.fillChecks_eff ..).step rfl ?_
        assumption
      intro hx
      clear_value x5
      extract_lets +onlyGivenNames x6
      refine Eff.cut x6 ?_ ?_
      · subst x6
        refine Eff.foldl ?_ ?_
        · intro a7
          intro a8
          exact (State.setCluster_eff ..).mono rfl
        · assumption
      intro hx
      clear_value x6
      extract_lets +onlyGivenNames x9
      clear_value x9
      extract_lets +onlyGivenNames x10
      clear_value x10
      extract_lets +onlyGivenNames x11
      refine Eff.cut x11 ?_ ?_
      · subst x11
        refine (State.setPart_eff ..).step rfl ?_
        assumption
      intro hx
      clear_value x11
      refine (State.issueEntries_eff ..).step rfl ?_
      assumption

theorem execBeginMessageRelease_eff : ∀ part stepTag s, OutEff 1133853425498 s (execBeginMessageRelease part stepTag s) := by
  intro part stepTag s
  unfold execBeginMessageRelease
  refine OutEff.next ?_
  exact (State.beginRelease_eff ..).mono rfl

end Sys2Proof.Machine
end

