-- ==== Sys2Proof/Laws/HostRead.lean ====
section
/-! SUPPORT. What each operation of Machine/HostRead.lean can change, in the terms of Laws/Eff.lean: one lemma an operation. -/

namespace Sys2Proof.Machine

theorem State.descReads_eff : ∀ s c d, Eff 1133853425498 s (State.descReads s c d) := by
  intro s c d
  unfold State.descReads
  extract_lets +onlyGivenNames x0
  clear_value x0
  exact (State.readUnits_eff ..).mono rfl

theorem State.askFetched_eff : ∀ s c, Eff 16 s (State.askFetched s c) := by
  intro s c
  unfold State.askFetched
  refine Eff.foldl ?_ ?_
  · intro a0
    intro a1
    split
    · exact Eff.refl ..
    · split
      · exact Eff.refl ..
      · refine (State.issueRead_eff ..).step rfl ?_
        exact Eff.refl ..
  · exact Eff.refl ..

theorem State.descData_eff : ∀ s fn c a n bs poisoned, Eff 16 s (State.descData s fn c a n bs poisoned) := by
  intro s fn c a n bs poisoned
  unfold State.descData
  extract_lets +onlyGivenNames x0
  refine Eff.cut x0 ?_ ?_
  · subst x0
    refine Eff.ite ?_ ?_
    · refine (State.updHost_eff ..).step rfl ?_
      exact Eff.refl ..
    · refine (State.updHost_eff ..).step rfl ?_
      exact Eff.refl ..
  intro hx
  clear_value x0
  refine (State.askFetched_eff ..).step rfl ?_
  assumption

theorem State.descFail_eff : ∀ s c a n, Eff 16 s (State.descFail s c a n) := by
  intro s c a n
  unfold State.descFail
  refine Eff.ite ?_ ?_
  · exact (State.updHost_eff ..).mono rfl
  · extract_lets +onlyGivenNames x0
    clear_value x0
    exact (State.updHost_eff ..).mono rfl

theorem State.chargeRead_eff : ∀ s need n, Eff 4294967360 s (State.chargeRead s need n) := by
  intro s need n
  unfold State.chargeRead
  extract_lets +onlyGivenNames x0
  subst x0
  split
  · dsimp -zeta only
    exact (State.charge_eff ..).mono rfl
  · refine Eff.ite ?_ ?_
    · dsimp -zeta only
      exact (State.charge_eff ..).mono rfl
    · exact Eff.refl ..
  · exact Eff.refl ..
  · exact Eff.refl ..

theorem State.readData_eff : ∀ s fn a n need bs poisoned, Eff 4294967632 s (State.readData s fn a n need bs poisoned) := by
  intro s fn a n need bs poisoned
  unfold State.readData
  extract_lets +onlyGivenNames x0
  clear_value x0
  extract_lets +onlyGivenNames x1
  refine Eff.cut x1 ?_ ?_
  · subst x1
    exact (State.updHost_eff ..).mono rfl
  intro hx
  clear_value x1
  extract_lets +onlyGivenNames x2
  refine Eff.cut x2 ?_ ?_
  · subst x2
    refine (State.chargeRead_eff ..).step rfl ?_
    assumption
  intro hx
  clear_value x2
  extract_lets +onlyGivenNames x3
  refine Eff.cut x3 ?_ ?_
  · subst x3
    refine Eff.ite ?_ ?_
    · refine (State.raise_eff ..).step rfl ?_
      assumption
    · assumption
  intro hx
  clear_value x3
  split
  · refine (State.descData_eff ..).step rfl ?_
    assumption
  · assumption
  · refine (State.updHost_eff ..).step rfl ?_
    assumption

theorem State.readFail_eff : ∀ s fn a n need, Eff 1108083614552 s (State.readFail s fn a n need) := by
  intro s fn a n need
  unfold State.readFail
  extract_lets +onlyGivenNames x0
  refine Eff.cut x0 ?_ ?_
  · subst x0
    exact (State.raise_eff ..).mono rfl
  intro hx
  clear_value x0
  split
  · refine (State.descFail_eff ..).step rfl ?_
    assumption
  · refine (State.failWork_eff ..).step rfl ?_
    assumption
  · extract_lets +onlyGivenNames x1
    refine Eff.cut x1 ?_ ?_
    · subst x1
      refine (State.updHost_eff ..).step rfl ?_
      assumption
    intro hx
    clear_value x1
    refine (State.failEntry_eff ..).step rfl ?_
    assumption
  · assumption

theorem State.admFail_eff : ∀ s st, Eff 280 s (State.admFail s st) := by
  intro s st
  unfold State.admFail
  refine Eff.ite ?_ ?_
  · exact Eff.refl ..
  · extract_lets +onlyGivenNames x0
    refine Eff.cut x0.1 ?_ ?_
    · subst x0
      exact (State.admTake_eff ..).mono rfl
    intro hx
    clear_value x0
    refine (State.admPost_eff ..).step rfl ?_
    assumption

theorem State.readDone_eff : ∀ s fn a n need answer, Eff 1108083614552 s (State.readDone s fn a n need answer) := by
  intro s fn a n need answer
  unfold State.readDone
  split
  · exact Eff.refl ..
  · refine Eff.ite ?_ ?_
    · refine (State.admFail_eff ..).step rfl ?_
      exact (State.raise_eff ..).mono rfl
    · exact Eff.refl ..
  · refine Eff.ite ?_ ?_
    · refine (State.admFail_eff ..).step rfl ?_
      exact (State.raise_eff ..).mono rfl
    · exact Eff.refl ..
  · extract_lets +onlyGivenNames x0
    clear_value x0
    refine Eff.ite ?_ ?_
    · split
      · refine Eff.ite ?_ ?_
        · exact (State.updHost_eff ..).mono rfl
        · exact Eff.refl ..
      · exact Eff.refl ..
    · extract_lets +onlyGivenNames x1
      refine Eff.cut x1 ?_ ?_
      · subst x1
        exact (State.updHost_eff ..).mono rfl
      intro hx
      clear_value x1
      split
      · refine (State.readData_eff ..).step rfl ?_
        assumption
      · refine (State.readData_eff ..).step rfl ?_
        assumption
      · refine (State.readFail_eff ..).step rfl ?_
        assumption
      · extract_lets +onlyGivenNames x2
        refine Eff.cut x2 ?_ ?_
        · subst x2
          refine (State.updHost_eff ..).step rfl ?_
          assumption
        intro hx
        clear_value x2
        refine (State.readFail_eff ..).step rfl ?_
        assumption

theorem execHostReadCompletion_eff : ∀ fn addr len need answer s, OutEff 1108083614552 s (execHostReadCompletion fn addr len need answer s) := by
  intro fn addr len need answer s
  unfold execHostReadCompletion
  refine OutEff.next ?_
  exact (State.readDone_eff ..).mono rfl

end Sys2Proof.Machine
end

