-- ==== Sys2Proof/Laws/Fabric.lean ====
section
/-! SUPPORT. What each operation of Machine/Fabric.lean can change, in the terms of Laws/Eff.lean: one lemma an operation. -/

namespace Sys2Proof.Machine

theorem State.freed_eff : ∀ s input m, Eff 4294967296 s (State.freed s input m) := by
  intro s input m
  unfold State.freed
  split
  · exact Eff.refl ..
  · extract_lets +onlyGivenNames x0
    clear_value x0
    exact (State.setPort_eff ..).mono rfl

theorem State.takeIf_eff : ∀ s f, Eff 4294967304 s (State.takeIf s f) := by
  intro s f
  unfold State.takeIf
  split
  · exact Eff.refl ..
  · extract_lets +onlyGivenNames x0
    refine Eff.cut x0 ?_ ?_
    · subst x0
      refine (State.freed_eff ..).step rfl ?_
      exact (State.updFab_eff ..).mono rfl
    intro hx
    clear_value x0
    refine Eff.ite ?_ ?_
    · assumption
    · refine (State.pumpPort_eff ..).step rfl ?_
      assumption

theorem State.takeFab_eff : ∀ s m, Eff 4294967304 s (State.takeFab s m) := by
  intro s m
  unfold State.takeFab
  exact (State.takeIf_eff ..).mono rfl

theorem State.sendOn_eff : ∀ s p dst kind_ payload, Eff 4294967304 s (State.sendOn s p dst kind_ payload) := by
  intro s p dst kind_ payload
  unfold State.sendOn
  extract_lets +onlyGivenNames x0
  clear_value x0
  extract_lets +onlyGivenNames x1
  clear_value x1
  extract_lets +onlyGivenNames x2
  refine Eff.cut x2 ?_ ?_
  · subst x2
    exact (State.updFab_eff ..).mono rfl
  intro hx
  clear_value x2
  extract_lets +onlyGivenNames x3
  clear_value x3
  refine (State.pumpPort_eff ..).step rfl ?_
  refine (State.setPort_eff ..).step rfl ?_
  assumption

theorem State.due_eff : ∀ s input m, Eff 4294967304 s (State.due s input m) := by
  intro s input m
  unfold State.due
  refine Eff.ite ?_ ?_
  · extract_lets +onlyGivenNames x0
    refine Eff.cut x0 ?_ ?_
    · subst x0
      exact (State.freed_eff ..).mono rfl
    intro hx
    clear_value x0
    refine Eff.ite ?_ ?_
    · refine (State.sendOn_eff ..).step rfl ?_
      assumption
    · refine (State.updFab_eff ..).step rfl ?_
      assumption
  · exact (State.updFab_eff ..).mono rfl

theorem State.drain_eff : ∀ s fuel key, Eff 4294967304 s (State.drain s fuel key) := by
  intro s fuel key
  induction fuel generalizing s key with
  | zero =>
    rw [State.drain]
    exact Eff.refl ..
  | succ n ih =>
    rw [State.drain]
    split
    · exact Eff.refl ..
    · refine (ih ..).step rfl ?_
      refine (State.due_eff ..).step rfl ?_
      exact (State.updFab_eff ..).mono rfl

theorem State.closeGap_eff : ∀ s key, Eff 4294967296 s (State.closeGap s key) := by
  intro s key
  unfold State.closeGap
  refine Eff.ite ?_ ?_
  · exact Eff.refl ..
  · refine (State.updFab_eff ..).step rfl ?_
    exact Eff.refl ..

theorem State.arrive_eff : ∀ s input m, Eff 4294967304 s (State.arrive s input m) := by
  intro s input m
  unfold State.arrive
  extract_lets +onlyGivenNames x0
  extract_lets +onlyGivenNames x1
  refine Eff.ite ?_ ?_
  · extract_lets +onlyGivenNames x2
    refine Eff.cut x2 ?_ ?_
    · subst x2
      refine (State.due_eff ..).step rfl ?_
      exact (State.updFab_eff ..).mono rfl
    intro hx
    clear_value x2
    refine (State.closeGap_eff ..).step rfl ?_
    refine (State.drain_eff ..).step rfl ?_
    assumption
  · refine Eff.ite ?_ ?_
    · refine (State.freed_eff ..).step rfl ?_
      exact Eff.refl ..
    · extract_lets +onlyGivenNames x3
      clear_value x3
      exact (State.updFab_eff ..).mono rfl

theorem State.accept_eff : ∀ s p m, Eff 4294967560 s (State.accept s p m) := by
  intro s p m
  unfold State.accept
  refine Eff.ite ?_ ?_
  · refine (State.freed_eff ..).step rfl ?_
    exact Eff.refl ..
  · refine Eff.ite ?_ ?_
    · refine (State.freed_eff ..).step rfl ?_
      exact (State.raise_eff ..).mono rfl
    · refine Eff.ite ?_ ?_
      · refine (State.updFab_eff ..).step rfl ?_
        exact Eff.refl ..
      · refine (State.arrive_eff ..).step rfl ?_
        exact Eff.refl ..

theorem State.replayFrames_eff : ∀ s p, Eff 4294967560 s (State.replayFrames s p) := by
  intro s p
  unfold State.replayFrames
  extract_lets +onlyGivenNames x0
  clear_value x0
  refine Eff.ite ?_ ?_
  · exact Eff.refl ..
  · extract_lets +onlyGivenNames x1
    clear_value x1
    extract_lets +onlyGivenNames x2
    clear_value x2
    extract_lets +onlyGivenNames x3
    clear_value x3
    extract_lets +onlyGivenNames x4
    clear_value x4
    extract_lets +onlyGivenNames x5
    refine Eff.cut x5 ?_ ?_
    · subst x5
      refine (State.setPort_eff ..).step rfl ?_
      exact (State.incSat_eff ..).mono rfl
    intro hx
    clear_value x5
    refine Eff.ite ?_ ?_
    · assumption
    · refine (State.raise_eff ..).step rfl ?_
      assumption

theorem State.replayLate_eff : ∀ s p, Eff 4294967560 s (State.replayLate s p) := by
  intro s p
  unfold State.replayLate
  refine Eff.ite ?_ ?_
  · refine (State.replayFrames_eff ..).step rfl ?_
    exact Eff.refl ..
  · exact Eff.refl ..

theorem execReplayTimeout_eff : ∀ port s, OutEff 4294967560 s (execReplayTimeout port s) := by
  intro port s
  unfold execReplayTimeout
  refine OutEff.next ?_
  exact (State.replayLate_eff ..).mono rfl

theorem State.setNak_eff : ∀ s p, Eff 4294967304 s (State.setNak s p) := by
  intro s p
  unfold State.setNak
  extract_lets +onlyGivenNames x0
  clear_value x0
  refine Eff.ite ?_ ?_
  · exact Eff.refl ..
  · refine (State.setPort_eff ..).step rfl ?_
    exact (State.incSat_eff ..).mono rfl

theorem State.badFrame_eff : ∀ s p lane number, Eff 1142443352920 s (State.badFrame s p lane number) := by
  intro s p lane number
  unfold State.badFrame
  extract_lets +onlyGivenNames x0
  clear_value x0
  refine Eff.ite ?_ ?_
  · exact Eff.refl ..
  · extract_lets +onlyGivenNames x1
    clear_value x1
    extract_lets +onlyGivenNames x2
    refine Eff.cut x2 ?_ ?_
    · subst x2
      refine (State.setPort_eff ..).step rfl ?_
      exact (State.incSat_eff ..).mono rfl
    intro hx
    clear_value x2
    refine Eff.ite ?_ ?_
    · refine (State.pumpPort_eff ..).step rfl ?_
      assumption
    · extract_lets +onlyGivenNames x3
      refine Eff.cut x3 ?_ ?_
      · subst x3
        refine (State.setPort_eff ..).step rfl ?_
        assumption
      intro hx
      clear_value x3
      split
      · refine Eff.ite ?_ ?_
        · refine (State.retirePort_eff ..).step rfl ?_
          assumption
        · refine (State.pumpPort_eff ..).step rfl ?_
          refine (State.retireLane_eff ..).step rfl ?_
          assumption
      · refine (State.retirePort_eff ..).step rfl ?_
        assumption

theorem State.hoLocked_eff : ∀ s p l, Eff 4294967560 s (State.hoLocked s p l) := by
  intro s p l
  unfold State.hoLocked
  extract_lets +onlyGivenNames x0
  clear_value x0
  refine Eff.ite ?_ ?_
  · exact Eff.refl ..
  · extract_lets +onlyGivenNames x1
    refine Eff.cut x1 ?_ ?_
    · subst x1
      exact (State.setPort_eff ..).mono rfl
    intro hx
    clear_value x1
    extract_lets +onlyGivenNames x2
    refine Eff.cut x2 ?_ ?_
    · subst x2
      refine (State.mirrorLanes_eff ..).step rfl ?_
      refine (State.incSat_eff ..).step rfl ?_
      refine (State.setPortState_eff ..).step rfl ?_
      assumption
    intro hx
    clear_value x2
    extract_lets +onlyGivenNames x3
    clear_value x3
    extract_lets +onlyGivenNames x4
    refine Eff.cut x4 ?_ ?_
    · subst x4
      refine (State.wr_eff ..).step rfl ?_
      refine (State.wr_eff ..).step rfl ?_
      refine (State.wr_eff ..).step rfl ?_
      assumption
    intro hx
    clear_value x4
    refine (State.raise_eff ..).step rfl ?_
    assumption

theorem execHoLock_eff : ∀ port lane s, OutEff 4294967560 s (execHoLock port lane s) := by
  intro port lane s
  unfold execHoLock
  refine OutEff.next ?_
  exact (State.hoLocked_eff ..).mono rfl

theorem State.handoverStart_eff : ∀ s p l, Eff 4294967560 s (State.handoverStart s p l) := by
  intro s p l
  unfold State.handoverStart
  extract_lets +onlyGivenNames x0
  clear_value x0
  refine Eff.ite ?_ ?_
  · exact Eff.refl ..
  · refine Eff.ite ?_ ?_
    · refine (State.raise_eff ..).step rfl ?_
      refine (State.lanesState_eff ..).step rfl ?_
      refine (State.wr_eff ..).step rfl ?_
      refine (State.mirrorLanes_eff ..).step rfl ?_
      refine (State.setPort_eff ..).step rfl ?_
      exact (State.setPortState_eff ..).mono rfl
    · refine Eff.ite ?_ ?_
      · extract_lets +onlyGivenNames x1
        refine Eff.cut x1 ?_ ?_
        · subst x1
          refine (State.setPortState_eff ..).step rfl ?_
          exact (State.setPort_eff ..).mono rfl
        intro hx
        clear_value x1
        refine (State.pumpPort_eff ..).step rfl ?_
        refine (State.wr_eff ..).step rfl ?_
        assumption
      · exact Eff.refl ..

theorem execHandoverStart_eff : ∀ port lane s, OutEff 4294967560 s (execHandoverStart port lane s) := by
  intro port lane s
  unfold execHandoverStart
  refine OutEff.next ?_
  exact (State.handoverStart_eff ..).mono rfl

theorem State.handoverLate_eff : ∀ s p l, Eff 1142443352920 s (State.handoverLate s p l) := by
  intro s p l
  unfold State.handoverLate
  extract_lets +onlyGivenNames x0
  clear_value x0
  refine Eff.ite ?_ ?_
  · exact Eff.refl ..
  · extract_lets +onlyGivenNames x1
    clear_value x1
    refine Eff.ite ?_ ?_
    · refine (State.raise_eff ..).step rfl ?_
      exact (State.setPort_eff ..).mono rfl
    · refine (State.retireLane_eff ..).step rfl ?_
      refine (State.raise_eff ..).step rfl ?_
      exact (State.setPort_eff ..).mono rfl

theorem execHandoverTimeout_eff : ∀ port lane s, OutEff 1142443352920 s (execHandoverTimeout port lane s) := by
  intro port lane s
  unfold execHandoverTimeout
  refine OutEff.next ?_
  exact (State.handoverLate_eff ..).mono rfl

theorem State.lockHeld_eff : ∀ s p l, Eff 4294967304 s (State.lockHeld s p l) := by
  intro s p l
  unfold State.lockHeld
  extract_lets +onlyGivenNames x0
  clear_value x0
  refine Eff.ite ?_ ?_
  · refine (State.pumpPort_eff ..).step rfl ?_
    refine (State.wr_eff ..).step rfl ?_
    exact (State.setPort_eff ..).mono rfl
  · exact Eff.refl ..

theorem execLaneLockHeld_eff : ∀ port lane s, OutEff 4294967304 s (execLaneLockHeld port lane s) := by
  intro port lane s
  unfold execLaneLockHeld
  refine OutEff.next ?_
  exact (State.lockHeld_eff ..).mono rfl

theorem State.trackOptic_eff : ∀ s p l bias tx rx err, Eff 4294967304 s (State.trackOptic s p l bias tx rx err) := by
  intro s p l bias tx rx err
  unfold State.trackOptic
  extract_lets +onlyGivenNames x0
  clear_value x0
  refine Eff.ite ?_ ?_
  · exact Eff.refl ..
  · extract_lets +onlyGivenNames x1
    clear_value x1
    extract_lets +onlyGivenNames x2
    clear_value x2
    extract_lets +onlyGivenNames x3
    clear_value x3
    extract_lets +onlyGivenNames x4
    clear_value x4
    extract_lets +onlyGivenNames x5
    clear_value x5
    extract_lets +onlyGivenNames x6
    refine Eff.cut x6 ?_ ?_
    · subst x6
      refine (State.wr_eff ..).step rfl ?_
      refine (State.wr_eff ..).step rfl ?_
      refine (State.wr_eff ..).step rfl ?_
      exact (State.wr_eff ..).mono rfl
    intro hx
    clear_value x6
    extract_lets +onlyGivenNames x7
    clear_value x7
    refine Eff.ite ?_ ?_
    · refine (State.pumpPort_eff ..).step rfl ?_
      refine (State.setPort_eff ..).step rfl ?_
      assumption
    · assumption

theorem execLaneTrackingStep_eff : ∀ port lane bias ringTx ringRx symErr s, OutEff 4294967304 s (execLaneTrackingStep port lane bias ringTx ringRx symErr s) := by
  intro port lane bias ringTx ringRx symErr s
  unfold execLaneTrackingStep
  refine OutEff.next ?_
  exact (State.trackOptic_eff ..).mono rfl

theorem State.goDark_eff : ∀ s p, Eff 1108083614552 s (State.goDark s p) := by
  intro s p
  unfold State.goDark
  extract_lets +onlyGivenNames x0
  clear_value x0
  extract_lets +onlyGivenNames x1
  refine Eff.cut x1 ?_ ?_
  · subst x1
    refine (State.mirrorLanes_eff ..).step rfl ?_
    refine (State.setPortState_eff ..).step rfl ?_
    exact (State.setPort_eff ..).mono rfl
  intro hx
  clear_value x1
  refine (State.moveQueue_eff ..).step rfl ?_
  refine (State.lanesState_eff ..).step rfl ?_
  refine (State.wr_eff ..).step rfl ?_
  assumption

theorem State.linkControl_eff : ∀ s p f, Eff 1108083614552 s (State.linkControl s p f) := by
  intro s p f
  unfold State.linkControl
  extract_lets +onlyGivenNames x0
  clear_value x0
  extract_lets +onlyGivenNames x1
  clear_value x1
  extract_lets +onlyGivenNames x2
  clear_value x2
  extract_lets +onlyGivenNames x3
  clear_value x3
  extract_lets +onlyGivenNames x4
  clear_value x4
  extract_lets +onlyGivenNames x5
  refine Eff.cut x5 ?_ ?_
  · subst x5
    refine (State.wr_eff ..).step rfl ?_
    exact (State.setPort_eff ..).mono rfl
  intro hx
  clear_value x5
  extract_lets +onlyGivenNames x6
  refine Eff.cut x6 ?_ ?_
  · subst x6
    refine Eff.ite ?_ ?_
    · refine (State.hoLocked_eff ..).step rfl ?_
      assumption
    · assumption
  intro hx
  clear_value x6
  extract_lets +onlyGivenNames x7
  refine Eff.cut x7 ?_ ?_
  · subst x7
    refine Eff.ite ?_ ?_
    · refine (State.replayFrames_eff ..).step rfl ?_
      assumption
    · assumption
  intro hx
  clear_value x7
  refine Eff.ite ?_ ?_
  · refine (State.goDark_eff ..).step rfl ?_
    assumption
  · assumption

theorem State.frame_eff : ∀ s p f, Eff 1142443352920 s (State.frame s p f) := by
  intro s p f
  unfold State.frame
  refine Eff.ite ?_ ?_
  · exact Eff.refl ..
  · split
    · exact (State.badFrame_eff ..).mono rfl
    · extract_lets +onlyGivenNames x0
      refine Eff.cut x0 ?_ ?_
      · subst x0
        exact (State.linkControl_eff ..).mono rfl
      intro hx
      clear_value x0
      extract_lets +onlyGivenNames x1
      clear_value x1
      refine Eff.ite ?_ ?_
      · refine (State.pumpPort_eff ..).step rfl ?_
        assumption
      · refine Eff.ite ?_ ?_
        · refine (State.pumpPort_eff ..).step rfl ?_
          refine (State.setNak_eff ..).step rfl ?_
          assumption
        · extract_lets +onlyGivenNames x2
          clear_value x2
          extract_lets +onlyGivenNames x3
          clear_value x3
          extract_lets +onlyGivenNames x4
          refine Eff.cut x4 ?_ ?_
          · subst x4
            refine (State.setPort_eff ..).step rfl ?_
            assumption
          intro hx
          clear_value x4
          refine (State.pumpPort_eff ..).step rfl ?_
          refine Eff.foldl ?_ ?_
          · intro a5
            intro a6
            exact (State.accept_eff ..).mono rfl
          · refine (State.inc_eff ..).step rfl ?_
            assumption

theorem execFabricFrameReceive_eff : ∀ port frame s, OutEff 1142443352920 s (execFabricFrameReceive port frame s) := by
  intro port frame s
  unfold execFabricFrameReceive
  refine OutEff.next ?_
  exact (State.frame_eff ..).mono rfl

theorem State.transit_eff : ∀ s m, Eff 1108083614552 s (State.transit s m) := by
  intro s m
  unfold State.transit
  split
  · exact Eff.refl ..
  · refine Eff.ite ?_ ?_
    · exact Eff.refl ..
    · extract_lets +onlyGivenNames x0
      refine Eff.cut x0 ?_ ?_
      · subst x0
        exact (State.takeFab_eff ..).mono rfl
      intro hx
      clear_value x0
      refine Eff.ite ?_ ?_
      · refine (State.lost_eff ..).step rfl ?_
        assumption
      · refine (State.forward_eff ..).step rfl ?_
        assumption

theorem execTransitMessage_eff : ∀ msg s, OutEff 1108083614552 s (execTransitMessage msg s) := by
  intro msg s
  unfold execTransitMessage
  refine OutEff.next ?_
  exact (State.transit_eff ..).mono rfl

theorem State.gapTimeout_eff : ∀ s src master stream, Eff 1108083614552 s (State.gapTimeout s src master stream) := by
  intro s src master stream
  unfold State.gapTimeout
  extract_lets +onlyGivenNames x0
  clear_value x0
  refine Eff.ite ?_ ?_
  · exact Eff.refl ..
  · extract_lets +onlyGivenNames x1
    clear_value x1
    extract_lets +onlyGivenNames x2
    clear_value x2
    extract_lets +onlyGivenNames x3
    refine Eff.cut x3 ?_ ?_
    · subst x3
      refine Eff.foldl ?_ ?_
      · intro a4
        intro a5
        extract_lets +onlyGivenNames x6
        refine Eff.cut x6 ?_ ?_
        · subst x6
          refine Eff.foldl ?_ ?_
          · intro a7
            intro a8
            exact (State.endReq_eff ..).mono rfl
          · exact Eff.refl ..
        intro hx
        clear_value x6
        refine Eff.foldl ?_ ?_
        · intro a9
          intro a10
          refine (State.sendError_eff ..).step rfl ?_
          exact (State.failShared_eff ..).mono rfl
        · assumption
      · exact Eff.refl ..
    intro hx
    clear_value x3
    extract_lets +onlyGivenNames x11
    clear_value x11
    extract_lets +onlyGivenNames x12
    refine Eff.cut x12 ?_ ?_
    · subst x12
      refine (State.raise_eff ..).step rfl ?_
      assumption
    intro hx
    clear_value x12
    split
    · refine (State.closeGap_eff ..).step rfl ?_
      assumption
    · extract_lets +onlyGivenNames x13
      refine Eff.cut x13 ?_ ?_
      · subst x13
        refine (State.updFab_eff ..).step rfl ?_
        assumption
      intro hx
      clear_value x13
      refine (State.closeGap_eff ..).step rfl ?_
      refine (State.drain_eff ..).step rfl ?_
      assumption

theorem execSeqGapTimeout_eff : ∀ src master stream s, OutEff 1108083614552 s (execSeqGapTimeout src master stream s) := by
  intro src master stream s
  unfold execSeqGapTimeout
  refine OutEff.next ?_
  exact (State.gapTimeout_eff ..).mono rfl

theorem State.portUp_eff : ∀ s p credits, Eff 4294967304 s (State.portUp s p credits) := by
  intro s p credits
  unfold State.portUp
  extract_lets +onlyGivenNames x0
  clear_value x0
  extract_lets +onlyGivenNames x1
  clear_value x1
  extract_lets +onlyGivenNames x2
  clear_value x2
  extract_lets +onlyGivenNames x3
  clear_value x3
  extract_lets +onlyGivenNames x4
  refine Eff.cut x4 ?_ ?_
  · subst x4
    exact (State.setPort_eff ..).mono rfl
  intro hx
  clear_value x4
  extract_lets +onlyGivenNames x5
  refine Eff.cut x5 ?_ ?_
  · subst x5
    refine (State.mirrorLanes_eff ..).step rfl ?_
    refine (State.setPortState_eff ..).step rfl ?_
    assumption
  intro hx
  clear_value x5
  extract_lets +onlyGivenNames x6
  refine Eff.cut x6 ?_ ?_
  · subst x6
    refine (State.wr_eff ..).step rfl ?_
    assumption
  intro hx
  clear_value x6
  extract_lets +onlyGivenNames x7
  refine Eff.cut x7 ?_ ?_
  · subst x7
    refine Eff.foldl ?_ ?_
    · intro a8
      intro a9
      extract_lets +onlyGivenNames x10
      clear_value x10
      refine Eff.ite ?_ ?_
      · exact Eff.refl ..
      · refine (State.wr_eff ..).step rfl ?_
        refine (State.wr_eff ..).step rfl ?_
        refine (State.wr_eff ..).step rfl ?_
        exact (State.wr_eff ..).mono rfl
    · assumption
  intro hx
  clear_value x7
  refine (State.pumpPort_eff ..).step rfl ?_
  assumption

theorem State.trainDown_eff : ∀ s p, Eff 4294967304 s (State.trainDown s p) := by
  intro s p
  unfold State.trainDown
  refine (State.lanesState_eff ..).step rfl ?_
  refine (State.wr_eff ..).step rfl ?_
  refine (State.mirrorLanes_eff ..).step rfl ?_
  refine (State.setPortState_eff ..).step rfl ?_
  exact (State.setPort_eff ..).mono rfl

theorem State.training_eff : ∀ s p locked hello credits, Eff 1142443352920 s (State.training s p locked hello credits) := by
  intro s p locked hello credits
  unfold State.training
  refine Eff.ite (Eff.refl ..) ?_
  extract_lets x fails y bad x0 x1 src x2 site src2 x3 x4
  clear_value y bad
  refine Eff.cut x0 ((State.setPort_eff ..).mono rfl) fun h0 => ?_
  clear_value x0
  refine Eff.ite h0 (Eff.ite ((State.trainDown_eff ..).step rfl h0) ?_)
  refine Eff.cut x1 ((State.wr_eff ..).step rfl ((State.wr_eff ..).step rfl h0)) fun h1 => ?_
  clear_value x1
  refine Eff.cut x2 ((State.setPort_eff ..).step rfl h1) fun h2 => ?_
  clear_value x2
  refine Eff.ite ((State.raise_eff ..).step rfl ((State.setPortState_eff ..).step rfl h2))
    (Eff.ite ((State.raise_eff ..).step rfl ((State.setPortState_eff ..).step rfl h2)) ?_)
  refine Eff.cut x3 ((State.setPort_eff ..).step rfl h2) fun h3 => ?_
  clear_value x3
  refine Eff.cut x4 (Eff.foldl (fun _ _ => (State.retireLane_eff ..).mono rfl) h3) fun h4 => ?_
  clear_value x4
  exact Eff.ite h4 (Eff.ite ((State.trainDown_eff ..).step rfl h4) ((State.portUp_eff ..).step rfl h4))

theorem execPortTraining_eff : ∀ port lockedLanes hello credits s, OutEff 1142443352920 s (execPortTraining port lockedLanes hello credits s) := by
  intro port lockedLanes hello credits s
  unfold execPortTraining
  refine OutEff.next ?_
  exact (State.training_eff ..).mono rfl

theorem State.trainRetry_eff : ∀ s p, Eff 8 s (State.trainRetry s p) := by
  intro s p
  unfold State.trainRetry
  refine Eff.ite ?_ ?_
  · refine (State.lanesState_eff ..).step rfl ?_
    exact (State.setPortState_eff ..).mono rfl
  · exact Eff.refl ..

theorem execPortTrainRetry_eff : ∀ port s, OutEff 8 s (execPortTrainRetry port s) := by
  intro port s
  unfold execPortTrainRetry
  refine OutEff.next ?_
  exact (State.trainRetry_eff ..).mono rfl

theorem State.lossOfLock_eff : ∀ s p, Eff 1108083614552 s (State.lossOfLock s p) := by
  intro s p
  unfold State.lossOfLock
  refine Eff.ite ?_ ?_
  · refine (State.retirePort_eff ..).step rfl ?_
    exact Eff.refl ..
  · exact Eff.refl ..

theorem execPortLossOfLock_eff : ∀ port s, OutEff 1108083614552 s (execPortLossOfLock port s) := by
  intro port s
  unfold execPortLossOfLock
  refine OutEff.next ?_
  exact (State.lossOfLock_eff ..).mono rfl

theorem State.lightReturn_eff : ∀ s p, Eff 4294967304 s (State.lightReturn s p) := by
  intro s p
  unfold State.lightReturn
  refine Eff.ite ?_ ?_
  · refine (State.lanesState_eff ..).step rfl ?_
    refine (State.setPortState_eff ..).step rfl ?_
    exact (State.setPort_eff ..).mono rfl
  · exact Eff.refl ..

theorem execLightReturn_eff : ∀ port s, OutEff 4294967304 s (execLightReturn port s) := by
  intro port s
  unfold execLightReturn
  refine OutEff.next ?_
  exact (State.lightReturn_eff ..).mono rfl

theorem State.remoteBounds_eff : ∀ s m a access, Eff 4294967560 s (State.remoteBounds s m a access) := by
  intro s m a access
  unfold State.remoteBounds
  refine (State.sendError_eff ..).step rfl ?_
  exact (State.raise_eff ..).mono rfl

theorem State.remotePut_eff : ∀ s a w, Eff 1099511632384 s (State.remotePut s a w) := by
  intro s a w
  unfold State.remotePut
  refine Eff.ite ?_ ?_
  · exact (State.updPkg_eff ..).mono rfl
  · refine Eff.step (State.updMem_cells_eff _ _ fun _ h => putWord_wf _ _ h) rfl ?_
    exact Eff.refl ..

theorem State.remoteGet_eff : ∀ s a, Eff 1133853425498 s (State.remoteGet s a).1 := by
  intro s a
  unfold State.remoteGet
  refine Eff.ite_fst ?_ ?_
  · extract_lets +onlyGivenNames x0
    clear_value x0
    split
    · refine Eff.pair_fst ?_
      exact Eff.refl ..
    · refine Eff.pair_fst ?_
      exact (State.codeCorrected_eff ..).mono rfl
    · refine Eff.pair_fst ?_
      exact Eff.refl ..
    · refine Eff.pair_fst ?_
      refine (State.raise_eff ..).step rfl ?_
      refine (State.remotePut_eff ..).step rfl ?_
      exact (State.raise_eff ..).mono rfl
  · extract_lets +onlyGivenNames x1
    refine Eff.cut x1.1 ?_ ?_
    · subst x1
      exact (State.copyRead_eff ..).mono rfl
    intro hx
    clear_value x1
    assumption

theorem State.remoteWrite_eff : ∀ s m, Eff 1103806599944 s (State.remoteWrite s m) := by
  intro s m
  unfold State.remoteWrite
  extract_lets +onlyGivenNames x0
  refine Eff.cut x0 ?_ ?_
  · subst x0
    exact (State.takeFab_eff ..).mono rfl
  intro hx
  clear_value x0
  extract_lets +onlyGivenNames x1
  clear_value x1
  extract_lets +onlyGivenNames x2
  clear_value x2
  refine Eff.ite ?_ ?_
  · assumption
  · refine Eff.ite ?_ ?_
    · refine (State.remoteBounds_eff ..).step rfl ?_
      assumption
    · refine Eff.foldl ?_ ?_
      · intro a3
        intro a4
        extract_lets +onlyGivenNames x5
        clear_value x5
        exact (State.remotePut_eff ..).mono rfl
      · assumption

theorem execWrite_eff : ∀ msg s, OutEff 1103806599944 s (execWrite msg s) := by
  intro msg s
  unfold execWrite
  refine OutEff.next ?_
  exact (State.remoteWrite_eff ..).mono rfl

theorem State.remoteRead_eff : ∀ s m, Eff 1133853425498 s (State.remoteRead s m) := by
  intro s m
  unfold State.remoteRead
  extract_lets +onlyGivenNames x0
  refine Eff.cut x0 ?_ ?_
  · subst x0
    exact (State.takeFab_eff ..).mono rfl
  intro hx
  clear_value x0
  extract_lets +onlyGivenNames x1
  clear_value x1
  extract_lets +onlyGivenNames x2
  clear_value x2
  refine Eff.ite ?_ ?_
  · refine (State.remoteBounds_eff ..).step rfl ?_
    assumption
  · extract_lets +onlyGivenNames x3
    refine Eff.cut x3.1 ?_ ?_
    · subst x3
      refine Eff.foldl_fst ?_ ?_
      · intro a4
        intro a5
        intro a6
        extract_lets +onlyGivenNames x7
        refine Eff.cut x7.1 ?_ ?_
        · subst x7
          exact (State.remoteGet_eff ..).mono rfl
        intro hx
        clear_value x7
        assumption
      · assumption
    intro hx
    clear_value x3
    extract_lets +onlyGivenNames x8
    refine Eff.cut x8 ?_ ?_
    · subst x8
      assumption
    intro hx
    clear_value x8
    refine Eff.foldl ?_ ?_
    · intro a9
      intro a10
      refine Eff.ite ?_ ?_
      · exact Eff.refl ..
      · extract_lets +onlyGivenNames x11
        clear_value x11
        extract_lets +onlyGivenNames x12
        clear_value x12
        extract_lets +onlyGivenNames x13
        clear_value x13
        refine (State.forward_eff ..).step rfl ?_
        exact (State.updFab_eff ..).mono rfl
    · assumption

theorem execReadReq_eff : ∀ msg s, OutEff 1133853425498 s (execReadReq msg s) := by
  intro msg s
  unfold execReadReq
  refine OutEff.next ?_
  exact (State.remoteRead_eff ..).mono rfl

theorem execReadRsp_eff : ∀ msg s, OutEff 4294967304 s (execReadRsp msg s) := by
  intro msg s
  unfold execReadRsp
  refine OutEff.next ?_
  refine (State.updFab_eff ..).step rfl ?_
  exact (State.takeFab_eff ..).mono rfl

theorem State.usage_eff : ∀ s m, Eff 4294967368 s (State.usage s m) := by
  intro s m
  unfold State.usage
  extract_lets +onlyGivenNames x0
  refine Eff.cut x0 ?_ ?_
  · subst x0
    exact (State.takeFab_eff ..).mono rfl
  intro hx
  clear_value x0
  refine Eff.ite ?_ ?_
  · assumption
  · refine (State.charge_eff ..).step rfl ?_
    assumption

theorem execUsageReport_eff : ∀ msg s, OutEff 4294967368 s (execUsageReport msg s) := by
  intro msg s
  unfold execUsageReport
  refine OutEff.next ?_
  exact (State.usage_eff ..).mono rfl

theorem State.isolate_eff : ∀ s, Eff 4294967560 s (State.isolate s) := by
  intro s
  unfold State.isolate
  extract_lets +onlyGivenNames x0
  clear_value x0
  extract_lets +onlyGivenNames x1
  refine Eff.cut x1 ?_ ?_
  · subst x1
    refine Eff.foldl ?_ ?_
    · intro a2
      intro a3
      refine Eff.ite ?_ ?_
      · exact Eff.refl ..
      · refine (State.setPortState_eff ..).step rfl ?_
        exact Eff.refl ..
    · exact Eff.refl ..
  intro hx
  clear_value x1
  refine (State.raise_eff ..).step rfl ?_
  refine (State.wr_eff ..).step rfl ?_
  refine (State.updFab_eff ..).step rfl ?_
  assumption

theorem State.censusAnswered_eff : ∀ s serial, Eff 4294967560 s (State.censusAnswered s serial) := by
  intro s serial
  unfold State.censusAnswered
  extract_lets +onlyGivenNames x0
  refine Eff.cut x0 ?_ ?_
  · subst x0
    exact (State.updFab_eff ..).mono rfl
  intro hx
  clear_value x0
  refine Eff.ite ?_ ?_
  · refine (State.isolate_eff ..).step rfl ?_
    assumption
  · assumption

theorem State.census_eff : ∀ s src serial, Eff 4294967560 s (State.census s src serial) := by
  intro s src serial
  unfold State.census
  extract_lets +onlyGivenNames x0
  refine Eff.cut x0 ?_ ?_
  · subst x0
    exact (State.takeIf_eff ..).mono rfl
  intro hx
  clear_value x0
  refine Eff.ite ?_ ?_
  · assumption
  · extract_lets +onlyGivenNames x1
    clear_value x1
    extract_lets +onlyGivenNames x2
    refine Eff.cut x2 ?_ ?_
    · subst x2
      refine (State.updFab_eff ..).step rfl ?_
      assumption
    intro hx
    clear_value x2
    refine Eff.ite ?_ ?_
    · refine (State.censusAnswered_eff ..).step rfl ?_
      assumption
    · refine (State.sendHub_eff ..).step rfl ?_
      assumption

theorem execCensus_eff : ∀ src serial s, OutEff 4294967560 s (execCensus src serial s) := by
  intro src serial s
  unfold execCensus
  refine OutEff.next ?_
  exact (State.census_eff ..).mono rfl

theorem execCensusAnswer_eff : ∀ serial s, OutEff 4294967560 s (execCensusAnswer serial s) := by
  intro serial s
  unfold execCensusAnswer
  refine OutEff.next ?_
  refine (State.censusAnswered_eff ..).step rfl ?_
  exact (State.takeIf_eff ..).mono rfl

theorem State.censusSend_eff : ∀ s, Eff 4294967560 s (State.censusSend s) := by
  intro s
  unfold State.censusSend
  refine Eff.ite ?_ ?_
  · exact Eff.refl ..
  · extract_lets +onlyGivenNames x0
    clear_value x0
    extract_lets +onlyGivenNames x1
    clear_value x1
    extract_lets +onlyGivenNames x2
    refine Eff.cut x2 ?_ ?_
    · subst x2
      exact (State.updFab_eff ..).mono rfl
    intro hx
    clear_value x2
    refine Eff.ite ?_ ?_
    · refine (State.census_eff ..).step rfl ?_
      assumption
    · refine Eff.ite ?_ ?_
      · refine (State.raise_eff ..).step rfl ?_
        assumption
      · refine (State.updFab_eff ..).step rfl ?_
        refine (State.sendHub_eff ..).step rfl ?_
        assumption

theorem execCensusSend_eff : ∀ s, OutEff 4294967560 s (execCensusSend s) := by
  intro s
  unfold execCensusSend
  refine OutEff.next ?_
  exact (State.censusSend_eff ..).mono rfl

theorem State.censusLate_eff : ∀ s, Eff 4294967560 s (State.censusLate s) := by
  intro s
  unfold State.censusLate
  refine Eff.ite ?_ ?_
  · refine (State.isolate_eff ..).step rfl ?_
    exact Eff.refl ..
  · exact Eff.refl ..

theorem execCensusAnswerTimeout_eff : ∀ s, OutEff 4294967560 s (execCensusAnswerTimeout s) := by
  intro s
  unfold execCensusAnswerTimeout
  refine OutEff.next ?_
  exact (State.censusLate_eff ..).mono rfl

theorem State.censusForget_eff : ∀ s m, Eff 4294967296 s (State.censusForget s m) := by
  intro s m
  unfold State.censusForget
  split
  · exact Eff.refl ..
  · refine Eff.ite ?_ ?_
    · refine (State.updFab_eff ..).step rfl ?_
      exact Eff.refl ..
    · refine Eff.ite ?_ ?_
      · refine (State.updFab_eff ..).step rfl ?_
        exact Eff.refl ..
      · exact Eff.refl ..

theorem execCensusForget_eff : ∀ moduleId s, OutEff 4294967296 s (execCensusForget moduleId s) := by
  intro moduleId s
  unfold execCensusForget
  refine OutEff.next ?_
  exact (State.censusForget_eff ..).mono rfl

theorem State.freqPeriod_eff : ∀ s, Eff 4294967304 s (State.freqPeriod s) := by
  intro s
  unfold State.freqPeriod
  refine Eff.ite ?_ ?_
  · exact Eff.refl ..
  · extract_lets +onlyGivenNames x0
    clear_value x0
    extract_lets +onlyGivenNames x1
    clear_value x1
    extract_lets +onlyGivenNames x2
    clear_value x2
    extract_lets +onlyGivenNames x3
    refine Eff.cut x3 ?_ ?_
    · subst x3
      refine (State.wr_eff ..).step rfl ?_
      exact (State.updFab_eff ..).mono rfl
    intro hx
    clear_value x3
    refine Eff.ite ?_ ?_
    · assumption
    · refine (State.sendHub_eff ..).step rfl ?_
      assumption

theorem execFreqPeriod_eff : ∀ s, OutEff 4294967304 s (execFreqPeriod s) := by
  intro s
  unfold execFreqPeriod
  refine OutEff.next ?_
  exact (State.freqPeriod_eff ..).mono rfl

theorem State.freqMiss_eff : ∀ s m, Eff 256 s (State.freqMiss s m) := by
  intro s m
  unfold State.freqMiss
  exact (State.raise_eff ..).mono rfl

theorem State.freq_eff : ∀ s m, Eff 4294967560 s (State.freq s m) := by
  intro s m
  unfold State.freq
  extract_lets +onlyGivenNames x0
  refine Eff.cut x0 ?_ ?_
  · subst x0
    exact (State.takeFab_eff ..).mono rfl
  intro hx
  clear_value x0
  extract_lets +onlyGivenNames x1
  clear_value x1
  extract_lets +onlyGivenNames x2
  clear_value x2
  refine Eff.ite ?_ ?_
  · assumption
  · refine Eff.ite ?_ ?_
    · extract_lets +onlyGivenNames x3
      refine Eff.cut x3 ?_ ?_
      · subst x3
        refine (State.updFab_eff ..).step rfl ?_
        assumption
      intro hx
      clear_value x3
      refine Eff.ite ?_ ?_
      · assumption
      · refine (State.updFab_eff ..).step rfl ?_
        assumption
    · refine Eff.ite ?_ ?_
      · assumption
      · extract_lets +onlyGivenNames x4
        clear_value x4
        extract_lets +onlyGivenNames x5
        refine Eff.cut x5 ?_ ?_
        · subst x5
          refine Eff.ite ?_ ?_
          · refine (State.freqMiss_eff ..).step rfl ?_
            assumption
          · assumption
        intro hx
        clear_value x5
        refine (State.updFab_eff ..).step rfl ?_
        assumption

theorem execFreq_eff : ∀ msg s, OutEff 4294967560 s (execFreq msg s) := by
  intro msg s
  unfold execFreq
  refine OutEff.next ?_
  exact (State.freq_eff ..).mono rfl

theorem State.freqDecide_eff : ∀ s, Eff 4294967560 s (State.freqDecide s) := by
  intro s
  unfold State.freqDecide
  extract_lets +onlyGivenNames x0
  clear_value x0
  refine Eff.ite ?_ ?_
  · exact Eff.refl ..
  · extract_lets +onlyGivenNames x1
    clear_value x1
    extract_lets +onlyGivenNames x2
    clear_value x2
    extract_lets +onlyGivenNames x3
    clear_value x3
    extract_lets +onlyGivenNames x4
    clear_value x4
    extract_lets +onlyGivenNames x5
    clear_value x5
    extract_lets +onlyGivenNames x6
    refine Eff.cut x6 ?_ ?_
    · subst x6
      refine Eff.foldl ?_ ?_
      · intro a7
        intro a8
        exact (State.freqMiss_eff ..).mono rfl
      · exact Eff.refl ..
    intro hx
    clear_value x6
    extract_lets +onlyGivenNames x9
    refine Eff.cut x9 ?_ ?_
    · subst x9
      refine (State.updFab_eff ..).step rfl ?_
      assumption
    intro hx
    clear_value x9
    refine Eff.foldl ?_ ?_
    · intro a10
      intro a11
      exact (State.sendHub_eff ..).mono rfl
    · assumption

theorem execFreqLeadDecide_eff : ∀ s, OutEff 4294967560 s (execFreqLeadDecide s) := by
  intro s
  unfold execFreqLeadDecide
  refine OutEff.next ?_
  exact (State.freqDecide_eff ..).mono rfl

theorem State.freqEffect_eff : ∀ s, Eff 12884904200 s (State.freqEffect s) := by
  intro s
  unfold State.freqEffect
  split
  · exact Eff.refl ..
  · refine Eff.ite ?_ ?_
    · exact Eff.refl ..
    · extract_lets +onlyGivenNames x0
      refine Eff.cut x0 ?_ ?_
      · subst x0
        refine (State.wr_eff ..).step rfl ?_
        exact (State.updFab_eff ..).mono rfl
      intro hx
      clear_value x0
      refine (State.applyPlan_eff ..).step rfl ?_
      assumption

theorem execFreqEffect_eff : ∀ s, OutEff 12884904200 s (execFreqEffect s) := by
  intro s
  unfold execFreqEffect
  refine OutEff.next ?_
  exact (State.freqEffect_eff ..).mono rfl

theorem State.timeExchange_eff : ∀ s, Eff 4294967560 s (State.timeExchange s) := by
  intro s
  unfold State.timeExchange
  refine Eff.ite ?_ ?_
  · exact Eff.refl ..
  · split
    · refine Eff.ite ?_ ?_
      · exact Eff.refl ..
      · refine (State.raise_eff ..).step rfl ?_
        exact (State.wr_eff ..).mono rfl
    · extract_lets +onlyGivenNames x0
      refine Eff.cut x0 ?_ ?_
      · subst x0
        refine (State.wr_eff ..).step rfl ?_
        exact (State.updFab_eff ..).mono rfl
      intro hx
      clear_value x0
      refine (State.sendOn_eff ..).step rfl ?_
      assumption

theorem execTimeExchange_eff : ∀ s, OutEff 4294967560 s (execTimeExchange s) := by
  intro s
  unfold execTimeExchange
  refine OutEff.next ?_
  exact (State.timeExchange_eff ..).mono rfl

theorem State.follow_eff : ∀ s offset st, Eff 73014444044 s (State.follow s offset st) := by
  intro s offset st
  unfold State.follow
  extract_lets +onlyGivenNames x0
  refine Eff.cut x0 ?_ ?_
  · subst x0
    refine (State.wr_eff ..).step rfl ?_
    exact (State.wr_eff ..).mono rfl
  intro hx
  clear_value x0
  refine Eff.ite ?_ ?_
  · refine (State.updFab_eff ..).step rfl ?_
    refine (State.setTime_eff ..).step rfl ?_
    assumption
  · refine (State.updFab_eff ..).step rfl ?_
    assumption

theorem State.timeAnswered_eff : ∀ s p t1 t2 t3 t4, Eff 73014444044 s (State.timeAnswered s p t1 t2 t3 t4) := by
  intro s p t1 t2 t3 t4
  unfold State.timeAnswered
  split
  · refine Eff.ite ?_ ?_
    · exact Eff.refl ..
    · extract_lets +onlyGivenNames x0
      clear_value x0
      extract_lets +onlyGivenNames x1
      clear_value x1
      extract_lets +onlyGivenNames x2
      clear_value x2
      extract_lets +onlyGivenNames x3
      clear_value x3
      extract_lets +onlyGivenNames x4
      clear_value x4
      extract_lets +onlyGivenNames x5
      refine Eff.cut x5 ?_ ?_
      · subst x5
        exact (State.updFab_eff ..).mono rfl
      intro hx
      clear_value x5
      refine (State.follow_eff ..).step rfl ?_
      refine (State.wr_eff ..).step rfl ?_
      assumption
  · exact Eff.refl ..

theorem execTime_eff : ∀ port t1 t2 t3 t4 s, OutEff 73014444044 s (execTime port t1 t2 t3 t4 s) := by
  intro port t1 t2 t3 t4 s
  unfold execTime
  refine OutEff.next ?_
  exact (State.timeAnswered_eff ..).mono rfl

theorem execPtmUpdate_eff : ∀ hostNow s, OutEff 73014444044 s (execPtmUpdate hostNow s) := by
  intro hostNow s
  unfold execPtmUpdate
  refine OutEff.next ?_
  refine Eff.ite ?_ ?_
  · refine (State.follow_eff ..).step rfl ?_
    exact Eff.refl ..
  · exact Eff.refl ..

theorem State.tick_eff : ∀ s, Eff 4294967300 s (State.tick s) := by
  intro s
  unfold State.tick
  extract_lets +onlyGivenNames x0
  clear_value x0
  extract_lets +onlyGivenNames x1
  refine Eff.cut x1 ?_ ?_
  · subst x1
    exact (State.updFab_eff ..).mono rfl
  intro hx
  clear_value x1
  refine (State.putNow_eff ..).step rfl ?_
  assumption

end Sys2Proof.Machine
end

