-- ==== Sys2Proof/Laws/Work.lean ====
section
/-! SUPPORT. What each operation of Machine/Work.lean can change, in the terms of Laws/Eff.lean: one lemma an operation. -/

namespace Sys2Proof.Machine

theorem State.takeWork_eff : ∀ s m, Eff 4294967304 s (State.takeWork s m).1 := by
  intro s m
  unfold State.takeWork
  extract_lets +onlyGivenNames x0
  refine Eff.cut x0 ?_ ?_
  · subst x0
    exact (State.takeFab_eff ..).mono rfl
  intro hx
  clear_value x0
  extract_lets +onlyGivenNames x1
  clear_value x1
  extract_lets +onlyGivenNames x2
  clear_value x2
  refine Eff.ite_fst ?_ ?_
  · refine Eff.pair_fst ?_
    refine (State.updFab_eff ..).step rfl ?_
    assumption
  · refine Eff.pair_fst ?_
    refine (State.updFab_eff ..).step rfl ?_
    assumption

end Sys2Proof.Machine
end

