-- ==== Sys2Proof/Laws/Tables.lean ====
section
/-! SUPPORT. What each operation of Machine/Tables.lean can change, in the terms of Laws/Eff.lean: one lemma an operation. -/

namespace Sys2Proof.Machine

theorem State.pinTable_eff : ∀ s slot k, Eff 2097152 s (State.pinTable s slot k) := by
  intro s slot k
  unfold State.pinTable
  exact (State.updTable_eff ..).mono rfl

theorem State.rowRead_eff : ∀ s c need t o copy r tier slot master, Eff 1133853425498 s (State.rowRead s c need t o copy r tier slot master).1 := by
  intro s c need t o copy r tier slot master
  unfold State.rowRead
  split
  · extract_lets +onlyGivenNames x0
    clear_value x0
    refine Eff.ite_fst ?_ ?_
    · refine Eff.pair_fst ?_
      exact Eff.refl ..
    · extract_lets +onlyGivenNames x1
      refine Eff.cut x1.1 ?_ ?_
      · subst x1
        exact (State.readUnit_eff ..).mono rfl
      intro hx
      clear_value x1
      refine Eff.ite_fst ?_ ?_
      · assumption
      · refine Eff.pair_fst ?_
        refine (State.charge_eff ..).step rfl ?_
        assumption
  · split
    · refine Eff.pair_fst ?_
      refine Eff.of_fst ‹_ = (_, _)› ?_
      exact (State.hostRead_eff ..).mono rfl
    · refine Eff.pair_fst ?_
      refine Eff.of_fst ‹_ = (_, _)› ?_
      exact (State.hostRead_eff ..).mono rfl
  · extract_lets +onlyGivenNames x2
    clear_value x2
    extract_lets +onlyGivenNames x3
    clear_value x3
    extract_lets +onlyGivenNames x4
    clear_value x4
    extract_lets +onlyGivenNames x5
    refine Eff.cut x5.1 ?_ ?_
    · subst x5
      refine Eff.foldl_fst ?_ ?_
      · intro a6
        intro a7
        intro a8
        extract_lets +onlyGivenNames x9
        refine Eff.cut x9.1 ?_ ?_
        · subst x9
          exact (State.flashFetch_eff ..).mono rfl
        intro hx
        clear_value x9
        assumption
      · refine Eff.pair_fst ?_
        exact Eff.refl ..
    intro hx
    clear_value x5
    assumption

theorem State.mapRead_eff : ∀ s c t r master, Eff 1133853425498 s (State.mapRead s c t r master).1 := by
  intro s c t r master
  unfold State.mapRead
  extract_lets +onlyGivenNames x0
  clear_value x0
  refine Eff.ite_fst ?_ ?_
  · refine Eff.pair_fst ?_
    exact Eff.refl ..
  · extract_lets +onlyGivenNames x1
    refine Eff.cut x1.1 ?_ ?_
    · subst x1
      exact (State.readUnit_eff ..).mono rfl
    intro hx
    clear_value x1
    refine Eff.pair_fst ?_
    refine (State.charge_eff ..).step rfl ?_
    assumption

theorem State.startBag_eff : ∀ s b u, Eff 1108083614552 s (State.startBag s b u) := by
  intro s b u
  unfold State.startBag
  extract_lets +onlyGivenNames x0
  clear_value x0
  split
  · exact (State.endReq_eff ..).mono rfl
  · refine (State.updReq_eff ..).step rfl ?_
    refine (State.wr_eff ..).step rfl ?_
    exact (State.putBags_eff ..).mono rfl

theorem State.dispatchBags_eff : ∀ s, Eff 1108083614552 s (State.dispatchBags s) := by
  intro s
  unfold State.dispatchBags
  extract_lets +onlyGivenNames x0
  clear_value x0
  refine Eff.foldl ?_ ?_
  · intro a1
    intro a2
    refine Eff.ite ?_ ?_
    · exact Eff.refl ..
    · extract_lets +onlyGivenNames x3
      clear_value x3
      refine Eff.ite ?_ ?_
      · exact (State.endReq_eff ..).mono rfl
      · split
        · exact Eff.refl ..
        · exact (State.startBag_eff ..).mono rfl
  · exact Eff.refl ..

theorem State.beginLookup_eff : ∀ s k slot e t bags os idxs wts, Eff 1108083614552 s (State.beginLookup s k slot e t bags os idxs wts) := by
  intro s k slot e t bags os idxs wts
  unfold State.beginLookup
  extract_lets +onlyGivenNames x0
  clear_value x0
  extract_lets +onlyGivenNames x1
  clear_value x1
  extract_lets +onlyGivenNames x2
  clear_value x2
  refine (State.dispatchBags_eff ..).step rfl ?_
  refine (State.putBags_eff ..).step rfl ?_
  exact (State.putLookups_eff ..).mono rfl

theorem State.askHolders_eff : ∀ s k r t e bufs, Eff 1108083614552 s (State.askHolders s k r t e bufs) := by
  intro s k r t e bufs
  unfold State.askHolders
  refine Eff.foldl ?_ ?_
  · intro a0
    intro a1
    refine Eff.ite ?_ ?_
    · refine (State.endReq_eff ..).step rfl ?_
      exact Eff.refl ..
    · refine Eff.ite ?_ ?_
      · exact Eff.refl ..
      · refine (State.sendWork_eff ..).step rfl ?_
        exact Eff.refl ..
  · exact Eff.refl ..

theorem State.tableLookup_eff : ∀ s k, Eff 1133853425498 s (State.tableLookup s k) := by
  intro s k
  unfold State.tableLookup
  refine State.onReq_eff ?_ ?_
  · exact Eff.refl ..
  · intro a0
    refine Eff.ite ?_ ?_
    · exact Eff.refl ..
    · split
      · exact (State.endReq_eff ..).mono rfl
      · split
        · exact (State.endReq_eff ..).mono rfl
        · extract_lets +onlyGivenNames x1
          clear_value x1
          refine Eff.ite ?_ ?_
          · exact (State.endReq_eff ..).mono rfl
          · split
            · extract_lets +onlyGivenNames x2
              clear_value x2
              refine Eff.ite ?_ ?_
              · exact (State.endReq_eff ..).mono rfl
              · extract_lets +onlyGivenNames x3
                clear_value x3
                extract_lets +onlyGivenNames x4
                clear_value x4
                split
                · refine Eff.of_fst ‹_ = (_, _)› ?_
                  exact (State.gather_eff ..).mono rfl
                · extract_lets +onlyGivenNames x5
                  refine Eff.cut x5 ?_ ?_
                  · subst x5
                    refine (State.updReq_eff ..).step rfl ?_
                    refine (State.setInputs_eff ..).step rfl ?_
                    refine Eff.of_fst ‹_ = (_, _)› ?_
                    exact (State.gather_eff ..).mono rfl
                  intro hx
                  clear_value x5
                  extract_lets +onlyGivenNames x6
                  refine Eff.cut x6 ?_ ?_
                  · subst x6
                    refine (State.beginLookup_eff ..).step rfl ?_
                    assumption
                  intro hx
                  clear_value x6
                  refine (State.askHolders_eff ..).step rfl ?_
                  assumption
            · exact (State.gather_eff ..).mono rfl

theorem execOpTableLookup_eff : ∀ client req s, OutEff 1133853425498 s (execOpTableLookup client req s) := by
  intro client req s
  unfold execOpTableLookup
  refine OutEff.next ?_
  exact (State.tableLookup_eff ..).mono rfl

theorem State.bagRow_eff : ∀ s b t o copy u r, Eff 1133853425498 s (State.bagRow s b t o copy u r).1 := by
  intro s b t o copy u r
  unfold State.bagRow
  extract_lets +onlyGivenNames x0
  clear_value x0
  extract_lets +onlyGivenNames x1
  refine Eff.cut x1.1 ?_ ?_
  · subst x1
    refine Eff.ite_fst ?_ ?_
    · exact (State.mapRead_eff ..).mono rfl
    · refine Eff.pair_fst ?_
      exact Eff.refl ..
  intro hx
  clear_value x1
  refine Eff.ite_fst ?_ ?_
  · assumption
  · refine Eff.ite_fst ?_ ?_
    · assumption
    · extract_lets +onlyGivenNames x2
      clear_value x2
      refine (State.rowRead_eff ..).step rfl ?_
      assumption

theorem State.runBag_eff : ∀ s b t o copy u, Eff 1133853425498 s (State.runBag s b t o copy u).1 := by
  intro s b t o copy u
  unfold State.runBag
  extract_lets +onlyGivenNames x0
  clear_value x0
  refine Eff.foldl_fst ?_ ?_
  · intro a1
    intro a2
    intro a3
    refine Eff.ite_fst ?_ ?_
    · refine Eff.pair_fst ?_
      exact Eff.refl ..
    · extract_lets +onlyGivenNames x4
      refine Eff.cut x4.1 ?_ ?_
      · subst x4
        exact (State.bagRow_eff ..).mono rfl
      intro hx
      clear_value x4
      refine Eff.ite_fst ?_ ?_
      · assumption
      · assumption
  · refine Eff.pair_fst ?_
    exact Eff.refl ..

theorem State.gatherSubbag_eff : ∀ s u, Eff 1133853425498 s (State.gatherSubbag s u) := by
  intro s u
  unfold State.gatherSubbag
  split
  · exact Eff.refl ..
  · extract_lets +onlyGivenNames x0
    clear_value x0
    extract_lets +onlyGivenNames x1
    subst x1
    extract_lets +onlyGivenNames x2
    refine Eff.cut x2 ?_ ?_
    · subst x2
      refine (State.dispatchBags_eff ..).step rfl ?_
      refine (State.putBags_eff ..).step rfl ?_
      refine (State.freeUnit_eff ..).step rfl ?_
      beta_reduce
      exact (State.charge_eff ..).mono rfl
    intro hx
    clear_value x2
    refine Eff.ite ?_ ?_
    · assumption
    · split
      · assumption
      · split
        · assumption
        · extract_lets +onlyGivenNames x3
          refine Eff.cut x3.1 ?_ ?_
          · subst x3
            exact (State.runBag_eff ..).mono rfl
          intro hx
          clear_value x3
          refine Eff.ite ?_ ?_
          · refine (State.putBags_eff ..).step rfl ?_
            assumption
          · refine Eff.ite ?_ ?_
            · assumption
            · extract_lets +onlyGivenNames x4
              clear_value x4
              extract_lets +onlyGivenNames x5
              refine Eff.cut x5 ?_ ?_
              · subst x5
                refine Eff.ite ?_ ?_
                · refine (State.raise_eff ..).step rfl ?_
                  assumption
                · assumption
              intro hx
              clear_value x5
              extract_lets +onlyGivenNames x6
              refine Eff.cut x6 ?_ ?_
              · subst x6
                beta_reduce
                refine (State.charge_eff ..).step rfl ?_
                refine (State.inc_eff ..).step rfl ?_
                refine (State.freeUnit_eff ..).step rfl ?_
                assumption
              intro hx
              clear_value x6
              extract_lets +onlyGivenNames x7
              clear_value x7
              refine (State.dispatchBags_eff ..).step rfl ?_
              refine (State.putBags_eff ..).step rfl ?_
              assumption

theorem execGatherSubbag_eff : ∀ unit s, OutEff 1133853425498 s (execGatherSubbag unit s) := by
  intro unit s
  unfold execGatherSubbag
  refine OutEff.next ?_
  exact (State.gatherSubbag_eff ..).mono rfl

theorem State.putOutBad_eff : ∀ s k o bs bad, Eff 1133853425498 s (State.putOutBad s k o bs bad) := by
  intro s k o bs bad
  unfold State.putOutBad
  refine Eff.ite ?_ ?_
  · exact (State.putOut_eff ..).mono rfl
  · extract_lets +onlyGivenNames x0
    clear_value x0
    refine Eff.foldl ?_ ?_
    · intro a1
      intro a2
      exact (State.putOutP_eff ..).mono rfl
    · exact Eff.refl ..

theorem State.writeBag_eff : ∀ s k t f l bag xs, Eff 1133853425498 s (State.writeBag s k t f l bag xs) := by
  intro s k t f l bag xs
  unfold State.writeBag
  extract_lets +onlyGivenNames x0
  clear_value x0
  extract_lets +onlyGivenNames x1
  clear_value x1
  extract_lets +onlyGivenNames x2
  clear_value x2
  extract_lets +onlyGivenNames x3
  refine Eff.cut x3 ?_ ?_
  · subst x3
    exact (State.putOut_eff ..).mono rfl
  intro hx
  clear_value x3
  refine (State.putOutBad_eff ..).step rfl ?_
  assumption

theorem State.endLookup_eff : ∀ s k l, Eff 1108083614552 s (State.endLookup s k l) := by
  intro s k l
  unfold State.endLookup
  split
  · refine (State.endReq_eff ..).step rfl ?_
    exact (State.sendWork_eff ..).mono rfl
  · extract_lets +onlyGivenNames x0
    clear_value x0
    split
    · exact (State.endReq_eff ..).mono rfl
    · extract_lets +onlyGivenNames x1
      clear_value x1
      extract_lets +onlyGivenNames x2
      refine Eff.cut x2 ?_ ?_
      · subst x2
        refine Eff.ite ?_ ?_
        · exact (State.raise_eff ..).mono rfl
        · exact Eff.refl ..
      intro hx
      clear_value x2
      refine (State.endReq_eff ..).step rfl ?_
      assumption

theorem State.bagMerge_eff : ∀ s k bag, Eff 1133853425498 s (State.bagMerge s k bag) := by
  intro s k bag
  unfold State.bagMerge
  split
  · split
    · exact Eff.refl ..
    · extract_lets +onlyGivenNames x0
      clear_value x0
      extract_lets +onlyGivenNames x1
      clear_value x1
      extract_lets +onlyGivenNames x2
      clear_value x2
      extract_lets +onlyGivenNames x3
      clear_value x3
      refine Eff.ite ?_ ?_
      · exact Eff.refl ..
      · extract_lets +onlyGivenNames x4
        clear_value x4
        extract_lets +onlyGivenNames x5
        clear_value x5
        extract_lets +onlyGivenNames x6
        refine Eff.cut x6 ?_ ?_
        · subst x6
          exact (State.putBags_eff ..).mono rfl
        intro hx
        clear_value x6
        extract_lets +onlyGivenNames x7
        clear_value x7
        extract_lets +onlyGivenNames x8
        refine Eff.cut x8 ?_ ?_
        · subst x8
          refine Eff.ite ?_ ?_
          · assumption
          · refine (State.writeBag_eff ..).step rfl ?_
            assumption
        intro hx
        clear_value x8
        extract_lets +onlyGivenNames x9
        clear_value x9
        extract_lets +onlyGivenNames x10
        refine Eff.cut x10 ?_ ?_
        · subst x10
          refine (State.putLookups_eff ..).step rfl ?_
          assumption
        intro hx
        clear_value x10
        refine Eff.ite ?_ ?_
        · assumption
        · refine (State.endLookup_eff ..).step rfl ?_
          assumption
  · exact Eff.refl ..

theorem execBagMerge_eff : ∀ client req bag s, OutEff 1133853425498 s (execBagMerge client req bag s) := by
  intro client req bag s
  unfold execBagMerge
  refine OutEff.next ?_
  exact (State.bagMerge_eff ..).mono rfl

theorem State.updateReads_eff : ∀ s t rows, Eff 1133853425498 s (State.updateReads s t rows).1 := by
  intro s t rows
  unfold State.updateReads
  exact (State.readUnits_eff ..).mono rfl

theorem State.tableUpdate_eff : ∀ s k, Eff 1133853425498 s (State.tableUpdate s k) := by
  intro s k
  unfold State.tableUpdate
  refine State.onReq_eff ?_ ?_
  · exact Eff.refl ..
  · intro a0
    extract_lets +onlyGivenNames x1
    clear_value x1
    split
    · exact (State.endReq_eff ..).mono rfl
    · extract_lets +onlyGivenNames x2
      clear_value x2
      refine Eff.ite ?_ ?_
      · exact Eff.refl ..
      · refine Eff.ite ?_ ?_
        · exact (State.endReq_eff ..).mono rfl
        · refine Eff.ite ?_ ?_
          · exact (State.endReq_eff ..).mono rfl
          · extract_lets +onlyGivenNames x3
            clear_value x3
            extract_lets +onlyGivenNames x4
            clear_value x4
            split
            · refine (State.endReq_eff ..).step rfl ?_
              refine Eff.ite ?_ ?_
              · exact (State.raise_eff ..).mono rfl
              · exact Eff.refl ..
            · refine Eff.ite ?_ ?_
              · exact (State.endReq_eff ..).mono rfl
              · extract_lets +onlyGivenNames x5
                refine Eff.cut x5.1 ?_ ?_
                · subst x5
                  exact (State.updateReads_eff ..).mono rfl
                intro hx
                clear_value x5
                refine Eff.ite ?_ ?_
                · refine (State.endReq_eff ..).step rfl ?_
                  assumption
                · refine Eff.ite ?_ ?_
                  · refine (State.endReq_eff ..).step rfl ?_
                    refine (State.applyDeltas_eff ..).step rfl ?_
                    assumption
                  · extract_lets +onlyGivenNames x6
                    refine Eff.cut x6 ?_ ?_
                    · subst x6
                      refine (State.updTable_eff ..).step rfl ?_
                      refine (State.updReq_eff ..).step rfl ?_
                      refine (State.applyDeltas_eff ..).step rfl ?_
                      assumption
                    intro hx
                    clear_value x6
                    refine Eff.foldl ?_ ?_
                    · intro a7
                      intro a8
                      exact (State.sendWork_eff ..).mono rfl
                    · assumption

theorem execOpTableUpdate_eff : ∀ client req s, OutEff 1133853425498 s (execOpTableUpdate client req s) := by
  intro client req s
  unfold execOpTableUpdate
  refine OutEff.next ?_
  exact (State.tableUpdate_eff ..).mono rfl

theorem State.beginCommit_eff : ∀ s k slot acks remote, Eff 1099513725448 s (State.beginCommit s k slot acks remote) := by
  intro s k slot acks remote
  unfold State.beginCommit
  refine (State.wr_eff ..).step rfl ?_
  refine (State.updTable_eff ..).step rfl ?_
  exact (State.foldDelta_eff ..).mono rfl

theorem State.tableCommit_eff : ∀ s k, Eff 1108083614552 s (State.tableCommit s k) := by
  intro s k
  unfold State.tableCommit
  refine State.onReq_eff ?_ ?_
  · exact Eff.refl ..
  · intro a0
    extract_lets +onlyGivenNames x1
    clear_value x1
    split
    · exact (State.endReq_eff ..).mono rfl
    · extract_lets +onlyGivenNames x2
      clear_value x2
      refine Eff.ite ?_ ?_
      · exact Eff.refl ..
      · refine Eff.ite ?_ ?_
        · exact (State.endReq_eff ..).mono rfl
        · refine Eff.ite ?_ ?_
          · exact (State.beginCommit_eff ..).mono rfl
          · refine Eff.ite ?_ ?_
            · exact (State.endReq_eff ..).mono rfl
            · refine (State.beginCommit_eff ..).step rfl ?_
              refine Eff.foldl ?_ ?_
              · intro a3
                intro a4
                exact (State.sendWork_eff ..).mono rfl
              · exact Eff.refl ..

theorem execOpTableCommit_eff : ∀ client req s, OutEff 1108083614552 s (execOpTableCommit client req s) := by
  intro client req s
  unfold execOpTableCommit
  refine OutEff.next ?_
  exact (State.tableCommit_eff ..).mono rfl

theorem State.rowWrite_eff : ∀ s c t o copy r tier slot bs bad, Eff 1103806596696 s (State.rowWrite s c t o copy r tier slot bs bad).1 := by
  intro s c t o copy r tier slot bs bad
  unfold State.rowWrite
  split
  · extract_lets +onlyGivenNames x0
    clear_value x0
    refine Eff.ite_fst ?_ ?_
    · refine Eff.pair_fst ?_
      exact (State.writeDevBad_eff ..).mono rfl
    · refine Eff.pair_fst ?_
      exact Eff.refl ..
  · extract_lets +onlyGivenNames x1
    refine Eff.cut x1.1 ?_ ?_
    · subst x1
      exact (State.hostPut_eff ..).mono rfl
    intro hx
    clear_value x1
    assumption
  · extract_lets +onlyGivenNames x2
    clear_value x2
    extract_lets +onlyGivenNames x3
    clear_value x3
    extract_lets +onlyGivenNames x4
    clear_value x4
    refine Eff.pair_fst ?_
    refine Eff.foldl ?_ ?_
    · intro a5
      intro a6
      extract_lets +onlyGivenNames x7
      clear_value x7
      extract_lets +onlyGivenNames x8
      clear_value x8
      extract_lets +onlyGivenNames x9
      clear_value x9
      extract_lets +onlyGivenNames x10
      clear_value x10
      extract_lets +onlyGivenNames x11
      clear_value x11
      extract_lets +onlyGivenNames x12
      clear_value x12
      extract_lets +onlyGivenNames x13
      clear_value x13
      extract_lets +onlyGivenNames x14
      clear_value x14
      exact (State.flashIssue_eff ..).mono rfl
    · exact Eff.refl ..

theorem State.readInts_eff : ∀ s t a, Eff 1133853425498 s (State.readInts s t a).1 := by
  intro s t a
  unfold State.readInts
  refine Eff.ite_fst ?_ ?_
  · refine Eff.pair_fst ?_
    exact Eff.refl ..
  · extract_lets +onlyGivenNames x0
    refine Eff.cut x0.1 ?_ ?_
    · subst x0
      exact (State.readUnit_eff ..).mono rfl
    intro hx
    clear_value x0
    refine Eff.ite_fst ?_ ?_
    · assumption
    · assumption

theorem State.rowAcc_eff : ∀ s t r, Eff 1133853425498 s (State.rowAcc s t r).1 := by
  intro s t r
  unfold State.rowAcc
  exact (State.readInts_eff ..).mono rfl

theorem State.rowRes_eff : ∀ s t r, Eff 1133853425498 s (State.rowRes s t r).1 := by
  intro s t r
  unfold State.rowRes
  split
  · refine Eff.pair_fst ?_
    exact Eff.refl ..
  · extract_lets +onlyGivenNames x0
    refine Eff.cut x0.1 ?_ ?_
    · subst x0
      exact (State.readInts_eff ..).mono rfl
    intro hx
    clear_value x0
    assumption

theorem State.logicalA_eff : ∀ s c need t o r, Eff 1133853425498 s (State.logicalA s c need t o r).1 := by
  intro s c need t o r
  unfold State.logicalA
  refine Eff.ite_fst ?_ ?_
  · extract_lets +onlyGivenNames x0
    clear_value x0
    extract_lets +onlyGivenNames x1
    refine Eff.cut x1.1 ?_ ?_
    · subst x1
      exact (State.rowRead_eff ..).mono rfl
    intro hx
    clear_value x1
    refine Eff.ite_fst ?_ ?_
    · assumption
    · extract_lets +onlyGivenNames x2
      refine Eff.cut x2.1 ?_ ?_
      · subst x2
        refine (State.rowRes_eff ..).step rfl ?_
        assumption
      intro hx
      clear_value x2
      assumption
  · exact (State.rowAcc_eff ..).mono rfl

theorem Requant.row_eff (x : Requant) (k : ReqKey) (t : Table) (o : Obj) (r : Nat) : Eff 1133853425498 x.s (x.row k t o r).s := by
  unfold Requant.row
  split
  · exact Eff.refl ..
  · extract_lets y q bs m res z
    refine Eff.cut y.1 ((State.logicalA_eff ..).mono rfl) fun hy => ?_
    refine Eff.cut z.1 ((State.rowWrite_eff ..).step rfl hy) fun hz => ?_
    clear_value y q bs m res z
    split
    · exact hy
    · split
      · exact hy
      · split <;> exact hz

theorem Requant.fold_eff {m : Nat} (hm : subMask 1133853425498 m = true) (k : ReqKey) (t : Table) (o : Obj) (l : List Nat) {s : State}
    {x : Requant} (h : Eff m s x.s) : Eff m s (l.foldl (fun (x : Requant) r => x.row k t o r) x).s := by
  induction l generalizing x with
  | nil => exact h
  | cons a l ih => exact ih ((Requant.row_eff x k t o a).step hm h)

theorem State.hostRowsReady_eff : ∀ s k t o, Eff 16 s (State.hostRowsReady s k t o).1 := by
  intro s k t o
  unfold State.hostRowsReady
  refine Eff.foldl_fst ?_ ?_
  · intro a0
    intro a1
    intro a2
    extract_lets +onlyGivenNames x3
    refine Eff.cut x3.1 ?_ ?_
    · subst x3
      exact (State.hostRead_eff ..).mono rfl
    intro hx
    clear_value x3
    assumption
  · refine Eff.pair_fst ?_
    exact Eff.refl ..

theorem State.setFlipTime_eff : ∀ s slot, Eff 1108083614552 s (State.setFlipTime s slot) := by
  intro s slot
  unfold State.setFlipTime
  split
  · exact Eff.refl ..
  · split
    · exact Eff.refl ..
    · refine Eff.ite ?_ ?_
      · exact Eff.refl ..
      · refine Eff.ite ?_ ?_
        · exact (State.failCommit_eff ..).mono rfl
        · extract_lets +onlyGivenNames x0
          clear_value x0
          extract_lets +onlyGivenNames x1
          refine Eff.cut x1 ?_ ?_
          · subst x1
            refine Eff.foldl ?_ ?_
            · intro a2
              intro a3
              exact (State.sendWork_eff ..).mono rfl
            · exact Eff.refl ..
          intro hx
          clear_value x1
          refine (State.updTable_eff ..).step rfl ?_
          assumption

theorem State.requantizeTable_eff : ∀ s slot, Eff 1133853425498 s (State.requantizeTable s slot) := by
  intro s slot
  unfold State.requantizeTable
  split
  · exact Eff.refl ..
  · split
    · extract_lets k h x unit held x0
      refine Eff.ite (Eff.refl ..) ?_
      refine Eff.cut h.1 ((State.hostRowsReady_eff ..).mono rfl) fun hh => ?_
      refine Eff.cut x.s (Requant.fold_eff rfl _ _ _ _ hh) fun hx => ?_
      clear_value h x unit held
      refine Eff.ite hh ?_
      refine Eff.ite ((State.failCommit_eff ..).step rfl ((State.raise_eff ..).step rfl hx)) ?_
      refine Eff.ite ((State.failCommit_eff ..).step rfl ((State.raise_eff ..).step rfl hx)) ?_
      refine Eff.ite ((State.failCommit_eff ..).step rfl ((State.raise_eff ..).step rfl hx)) ?_
      refine Eff.ite hx (Eff.ite ((State.failCommit_eff ..).step rfl hx) ?_)
      refine Eff.cut x0 ((State.updTable_eff ..).step rfl hx) fun h0 => ?_
      clear_value x0
      refine Eff.ite ?_ ((State.setFlipTime_eff ..).step rfl h0)
      split
      · exact (State.sendWork_eff ..).step rfl h0
      · exact h0
    · exact Eff.refl ..

theorem execTableCommitRequantize_eff : ∀ table s, OutEff 1133853425498 s (execTableCommitRequantize table s) := by
  intro table s
  unfold execTableCommitRequantize
  refine OutEff.next ?_
  exact (State.requantizeTable_eff ..).mono rfl

theorem State.flipTable_eff : ∀ s slot, Eff 1108083614552 s (State.flipTable s slot) := by
  intro s slot
  unfold State.flipTable
  split
  · exact Eff.refl ..
  · split
    · exact Eff.refl ..
    · extract_lets +onlyGivenNames x0
      clear_value x0
      extract_lets +onlyGivenNames x1
      clear_value x1
      extract_lets +onlyGivenNames x2
      clear_value x2
      extract_lets +onlyGivenNames x3
      refine Eff.cut x3 ?_ ?_
      · subst x3
        exact (State.updTable_eff ..).mono rfl
      intro hx
      clear_value x3
      extract_lets +onlyGivenNames x4
      refine Eff.cut x4 ?_ ?_
      · subst x4
        refine Eff.ite ?_ ?_
        · refine (State.putResid_eff ..).step rfl ?_
          assumption
        · assumption
      intro hx
      clear_value x4
      extract_lets +onlyGivenNames x5
      refine Eff.cut x5 ?_ ?_
      · subst x5
        refine (State.wr_eff ..).step rfl ?_
        refine (State.wr_eff ..).step rfl ?_
        refine (State.foldDelta_eff ..).step rfl ?_
        assumption
      intro hx
      clear_value x5
      extract_lets +onlyGivenNames x6
      refine Eff.cut x6 ?_ ?_
      · subst x6
        refine (State.mirrorTable_eff ..).step rfl ?_
        refine (State.wr_eff ..).step rfl ?_
        assumption
      intro hx
      clear_value x6
      refine (State.endReq_eff ..).step rfl ?_
      assumption

theorem execTableFlip_eff : ∀ table s, OutEff 1108083614552 s (execTableFlip table s) := by
  intro table s
  unfold execTableFlip
  refine OutEff.next ?_
  split
  · refine Eff.ite ?_ ?_
    · refine (State.flipTable_eff ..).step rfl ?_
      exact Eff.refl ..
    · exact Eff.refl ..
  · exact Eff.refl ..

theorem State.splitAck_eff : ∀ s slot holder, Eff 1108083614552 s (State.splitAck s slot holder) := by
  intro s slot holder
  unfold State.splitAck
  extract_lets +onlyGivenNames x0
  clear_value x0
  split
  · extract_lets +onlyGivenNames x1
    refine Eff.cut x1 ?_ ?_
    · subst x1
      exact (State.takeIf_eff ..).mono rfl
    intro hx
    clear_value x1
    split
    · assumption
    · refine (State.setFlipTime_eff ..).step rfl ?_
      refine (State.updTable_eff ..).step rfl ?_
      assumption
  · exact Eff.refl ..

theorem execSplitCommitAck_eff : ∀ table holder s, OutEff 1108083614552 s (execSplitCommitAck table holder s) := by
  intro table holder s
  unfold execSplitCommitAck
  refine OutEff.next ?_
  exact (State.splitAck_eff ..).mono rfl

theorem execTableFlipAtTf_eff : ∀ table s, OutEff 1108083614552 s (execTableFlipAtTf table s) := by
  intro table s
  unfold execTableFlipAtTf
  refine OutEff.next ?_
  split
  · refine Eff.ite ?_ ?_
    · refine (State.flipTable_eff ..).step rfl ?_
      exact Eff.refl ..
    · exact Eff.refl ..
  · exact Eff.refl ..

theorem State.sliceLookup_eff : ∀ s m b, Eff 1108083614552 s (State.sliceLookup s m b) := by
  intro s m b
  unfold State.sliceLookup
  extract_lets +onlyGivenNames x0
  clear_value x0
  extract_lets +onlyGivenNames x1
  clear_value x1
  extract_lets +onlyGivenNames x2
  clear_value x2
  extract_lets +onlyGivenNames x3
  clear_value x3
  split
  · refine Eff.ite ?_ ?_
    · refine (State.sendError_eff ..).step rfl ?_
      exact (State.updTable_eff ..).mono rfl
    · exact (State.sendError_eff ..).mono rfl
  · refine Eff.ite ?_ ?_
    · exact (State.sendError_eff ..).mono rfl
    · extract_lets +onlyGivenNames x4
      refine Eff.cut x4.1 ?_ ?_
      · subst x4
        exact (State.beginRemote_eff ..).mono rfl
      intro hx
      clear_value x4
      extract_lets +onlyGivenNames x5
      refine Eff.cut x5 ?_ ?_
      · subst x5
        assumption
      intro hx
      clear_value x5
      extract_lets +onlyGivenNames x6
      refine Eff.cut x6 ?_ ?_
      · subst x6
        refine (State.putTables_eff ..).step rfl ?_
        assumption
      intro hx
      clear_value x6
      extract_lets +onlyGivenNames x7
      clear_value x7
      extract_lets +onlyGivenNames x8
      clear_value x8
      extract_lets +onlyGivenNames x9
      clear_value x9
      extract_lets +onlyGivenNames x10
      clear_value x10
      extract_lets +onlyGivenNames x11
      clear_value x11
      refine (State.beginLookup_eff ..).step rfl ?_
      assumption

theorem State.takeSlices_eff : ∀ s k b, Eff 4194304 s (State.takeSlices s k b) := by
  intro s k b
  unfold State.takeSlices
  extract_lets +onlyGivenNames x0
  clear_value x0
  extract_lets +onlyGivenNames x1
  clear_value x1
  exact (State.putLookups_eff ..).mono rfl

theorem State.takeUpdate_eff : ∀ s m b undo, Eff 1133853425498 s (State.takeUpdate s m b undo) := by
  intro s m b undo
  unfold State.takeUpdate
  extract_lets +onlyGivenNames x0
  clear_value x0
  split
  · exact (State.sendError_eff ..).mono rfl
  · extract_lets +onlyGivenNames x1
    clear_value x1
    extract_lets +onlyGivenNames x2
    clear_value x2
    refine Eff.ite ?_ ?_
    · exact (State.undoDeltas_eff ..).mono rfl
    · split
      · exact (State.sendError_eff ..).mono rfl
      · extract_lets +onlyGivenNames x3
        refine Eff.cut x3.1 ?_ ?_
        · subst x3
          exact (State.updateReads_eff ..).mono rfl
        intro hx
        clear_value x3
        refine Eff.ite ?_ ?_
        · refine (State.sendError_eff ..).step rfl ?_
          assumption
        · refine (State.sendWork_eff ..).step rfl ?_
          refine (State.applyDeltas_eff ..).step rfl ?_
          assumption

theorem State.takeCommit_eff : ∀ s m slot, Eff 1103808692760 s (State.takeCommit s m slot) := by
  intro s m slot
  unfold State.takeCommit
  split
  · exact (State.sendError_eff ..).mono rfl
  · refine Eff.ite ?_ ?_
    · exact (State.sendError_eff ..).mono rfl
    · extract_lets +onlyGivenNames x0
      refine Eff.cut x0.1 ?_ ?_
      · subst x0
        exact (State.beginRemote_eff ..).mono rfl
      intro hx
      clear_value x0
      refine (State.beginCommit_eff ..).step rfl ?_
      assumption

theorem State.splitForward_eff : ∀ s m, Eff 1133853425498 s (State.splitForward s m) := by
  intro s m
  unfold State.splitForward
  refine Eff.ite ?_ ?_
  · exact Eff.refl ..
  · split
    · refine Eff.of_fst ‹_ = (_, _)› ?_
      exact (State.takeWork_eff ..).mono rfl
    · extract_lets +onlyGivenNames x0
      clear_value x0
      split
      · refine (State.sliceLookup_eff ..).step rfl ?_
        refine Eff.of_fst ‹_ = (_, _)› ?_
        exact (State.takeWork_eff ..).mono rfl
      · refine (State.takeUpdate_eff ..).step rfl ?_
        refine Eff.of_fst ‹_ = (_, _)› ?_
        exact (State.takeWork_eff ..).mono rfl
      · refine (State.takeCommit_eff ..).step rfl ?_
        refine Eff.of_fst ‹_ = (_, _)› ?_
        exact (State.takeWork_eff ..).mono rfl
      · extract_lets +onlyGivenNames x1
        clear_value x1
        split
        · refine Eff.of_fst ‹_ = (_, _)› ?_
          exact (State.takeWork_eff ..).mono rfl
        · refine Eff.ite ?_ ?_
          · refine (State.endReq_eff ..).step rfl ?_
            refine (State.discardCommit_eff ..).step rfl ?_
            refine (State.updTable_eff ..).step rfl ?_
            refine Eff.of_fst ‹_ = (_, _)› ?_
            exact (State.takeWork_eff ..).mono rfl
          · refine (State.updTable_eff ..).step rfl ?_
            refine Eff.of_fst ‹_ = (_, _)› ?_
            exact (State.takeWork_eff ..).mono rfl
      · split
        · refine Eff.of_fst ‹_ = (_, _)› ?_
          exact (State.takeWork_eff ..).mono rfl
        · refine Eff.ite ?_ ?_
          · refine (State.endReq_eff ..).step rfl ?_
            refine (State.discardCommit_eff ..).step rfl ?_
            refine Eff.of_fst ‹_ = (_, _)› ?_
            exact (State.takeWork_eff ..).mono rfl
          · refine Eff.of_fst ‹_ = (_, _)› ?_
            exact (State.takeWork_eff ..).mono rfl
      · refine (State.takeUpdate_eff ..).step rfl ?_
        refine Eff.of_fst ‹_ = (_, _)› ?_
        exact (State.takeWork_eff ..).mono rfl
      · refine (State.updateAnswer_eff ..).step rfl ?_
        refine Eff.of_fst ‹_ = (_, _)› ?_
        exact (State.takeWork_eff ..).mono rfl
      · refine (State.takeSlices_eff ..).step rfl ?_
        refine (State.chargeFab_eff ..).step rfl ?_
        refine Eff.of_fst ‹_ = (_, _)› ?_
        exact (State.takeWork_eff ..).mono rfl

theorem execSplitTableForward_eff : ∀ msg s, OutEff 1133853425498 s (execSplitTableForward msg s) := by
  intro msg s
  unfold execSplitTableForward
  refine OutEff.next ?_
  exact (State.splitForward_eff ..).mono rfl

theorem State.freeEpoch_eff : ∀ s slot e, Eff 2097152 s (State.freeEpoch s slot e) := by
  intro s slot e
  unfold State.freeEpoch
  exact (State.updTable_eff ..).mono rfl

theorem State.dropVersions_eff : ∀ s slot, Eff 1099513742344 s (State.dropVersions s slot) := by
  intro s slot
  unfold State.dropVersions
  extract_lets +onlyGivenNames x0
  clear_value x0
  extract_lets +onlyGivenNames x1
  clear_value x1
  extract_lets +onlyGivenNames x2
  clear_value x2
  extract_lets +onlyGivenNames x3
  refine Eff.cut x3 ?_ ?_
  · subst x3
    exact (State.putTables_eff ..).mono rfl
  intro hx
  clear_value x3
  refine Eff.foldl ?_ ?_
  · intro a4
    intro a5
    extract_lets +onlyGivenNames x6
    refine Eff.cut x6 ?_ ?_
    · subst x6
      split
      · exact (State.freeParts_eff ..).mono rfl
      · exact Eff.refl ..
    intro hx
    clear_value x6
    refine (State.putObjs_eff ..).step rfl ?_
    refine (State.putTables_eff ..).step rfl ?_
    assumption
  · assumption

theorem State.tableDrain_eff : ∀ s slot e, Eff 1099513742344 s (State.tableDrain s slot e) := by
  intro s slot e
  unfold State.tableDrain
  refine (State.updTable_eff ..).step rfl ?_
  refine (State.dropVersions_eff ..).step rfl ?_
  exact (State.freeEpoch_eff ..).mono rfl

theorem execTablePinDrain_eff : ∀ table epoch s, OutEff 1099513742344 s (execTablePinDrain table epoch s) := by
  intro table epoch s
  unfold execTablePinDrain
  refine OutEff.next ?_
  exact (State.tableDrain_eff ..).mono rfl

theorem execKeepMsExpire_eff : ∀ table epoch s, OutEff 1099513742344 s (execKeepMsExpire table epoch s) := by
  intro table epoch s
  unfold execKeepMsExpire
  refine OutEff.next ?_
  refine (State.dropVersions_eff ..).step rfl ?_
  exact (State.freeEpoch_eff ..).mono rfl

theorem State.readCopies_eff : ∀ s slot r t o, Eff 1133853425498 s (State.readCopies s slot r t o).1 := by
  intro s slot r t o
  unfold State.readCopies
  extract_lets +onlyGivenNames x0
  clear_value x0
  refine Eff.foldl_fst ?_ ?_
  · intro a1
    intro a2
    intro a3
    refine Eff.ite_fst ?_ ?_
    · refine Eff.pair_fst ?_
      exact Eff.refl ..
    · extract_lets +onlyGivenNames x4
      refine Eff.cut x4.1 ?_ ?_
      · subst x4
        exact (State.rowRead_eff ..).mono rfl
      intro hx
      clear_value x4
      assumption
  · refine Eff.pair_fst ?_
    exact Eff.refl ..

theorem State.writeCopies_eff : ∀ s r t o xs, Eff 1103806596696 s (State.writeCopies s r t o xs).1 := by
  intro s r t o xs
  unfold State.writeCopies
  extract_lets +onlyGivenNames x0
  clear_value x0
  refine Eff.foldl_fst ?_ ?_
  · intro a1
    intro a2
    intro a3
    refine Eff.ite_fst ?_ ?_
    · refine Eff.pair_fst ?_
      exact Eff.refl ..
    · exact (State.rowWrite_eff ..).mono rfl
  · refine Eff.pair_fst ?_
    exact Eff.refl ..

theorem State.foldRow_eff : ∀ s slot r, Eff 1099513725440 s (State.foldRow s slot r) := by
  intro s slot r
  unfold State.foldRow
  split
  · exact Eff.refl ..
  · split
    · exact Eff.refl ..
    · refine Eff.ite ?_ ?_
      · exact Eff.refl ..
      · refine (State.putDelta_eff ..).step rfl ?_
        exact (State.addRow_eff ..).mono rfl

theorem State.endMove_eff : ∀ s slot r m, Eff 1099513725448 s (State.endMove s slot r m) := by
  intro s slot r m
  unfold State.endMove
  refine (State.mirrorRow_eff ..).step rfl ?_
  refine (State.wr_eff ..).step rfl ?_
  exact (State.updTable_eff ..).mono rfl

theorem State.failMove_eff : ∀ s slot r kind_, Eff 1099513725704 s (State.failMove s slot r kind_) := by
  intro s slot r kind_
  unfold State.failMove
  split
  · exact Eff.refl ..
  · extract_lets +onlyGivenNames x0
    clear_value x0
    refine (State.endMove_eff ..).step rfl ?_
    refine (State.foldRow_eff ..).step rfl ?_
    exact (State.raise_eff ..).mono rfl

theorem State.takeOver_eff : ∀ s slot r x a, Eff 1099513725448 s (State.takeOver s slot r x a) := by
  intro s slot r x a
  unfold State.takeOver
  split
  · exact Eff.refl ..
  · extract_lets +onlyGivenNames x0
    clear_value x0
    extract_lets +onlyGivenNames x1
    clear_value x1
    extract_lets +onlyGivenNames x2
    refine Eff.cut x2 ?_ ?_
    · subst x2
      refine (State.endMove_eff ..).step rfl ?_
      exact (State.updTable_eff ..).mono rfl
    intro hx
    clear_value x2
    refine Eff.ite ?_ ?_
    · assumption
    · refine Eff.ite ?_ ?_
      · extract_lets +onlyGivenNames x3
        refine Eff.cut x3 ?_ ?_
        · subst x3
          refine (State.putResid_eff ..).step rfl ?_
          assumption
        intro hx
        clear_value x3
        extract_lets +onlyGivenNames x4
        clear_value x4
        refine (State.writeDevBad_eff ..).step rfl ?_
        assumption
      · refine Eff.ite ?_ ?_
        · assumption
        · extract_lets +onlyGivenNames x5
          clear_value x5
          extract_lets +onlyGivenNames x6
          clear_value x6
          refine Eff.ite ?_ ?_
          · refine (State.putResid_eff ..).step rfl ?_
            assumption
          · refine (State.putResid_eff ..).step rfl ?_
            assumption

theorem State.migrated_eff : ∀ s slot r, Eff 1133853425498 s (State.migrated s slot r) := by
  intro s slot r
  unfold State.migrated
  split
  · exact Eff.refl ..
  · split
    · exact Eff.refl ..
    · refine Eff.ite ?_ ?_
      · exact Eff.refl ..
      · extract_lets +onlyGivenNames x0
        refine Eff.cut x0.1 ?_ ?_
        · subst x0
          exact (State.readCopies_eff ..).mono rfl
        intro hx
        clear_value x0
        refine Eff.ite ?_ ?_
        · refine (State.failMove_eff ..).step rfl ?_
          assumption
        · refine Eff.ite ?_ ?_
          · assumption
          · extract_lets +onlyGivenNames x1
            refine Eff.cut x1 ?_ ?_
            · subst x1
              refine (State.updHost_eff ..).step rfl ?_
              assumption
            intro hx
            clear_value x1
            extract_lets +onlyGivenNames x2
            refine Eff.cut x2.1 ?_ ?_
            · subst x2
              refine (State.writeCopies_eff ..).step rfl ?_
              assumption
            intro hx
            clear_value x2
            refine Eff.ite ?_ ?_
            · refine (State.failMove_eff ..).step rfl ?_
              assumption
            · extract_lets +onlyGivenNames x3
              refine Eff.cut x3 ?_ ?_
              · subst x3
                refine (State.foldRow_eff ..).step rfl ?_
                assumption
              intro hx
              clear_value x3
              extract_lets +onlyGivenNames x4
              clear_value x4
              extract_lets +onlyGivenNames x5
              clear_value x5
              extract_lets +onlyGivenNames x6
              refine Eff.cut x6.1 ?_ ?_
              · subst x6
                refine (State.rowRes_eff ..).step rfl ?_
                assumption
              intro hx
              clear_value x6
              extract_lets +onlyGivenNames x7
              refine Eff.cut x7.1 ?_ ?_
              · subst x7
                refine Eff.ite_fst ?_ ?_
                · assumption
                · refine Eff.ite_fst ?_ ?_
                  · assumption
                  · refine (State.rowAcc_eff ..).step rfl ?_
                    assumption
              intro hx
              clear_value x7
              refine Eff.ite ?_ ?_
              · refine (State.failMove_eff ..).step rfl ?_
                assumption
              · refine Eff.ite ?_ ?_
                · assumption
                · refine (State.takeOver_eff ..).step rfl ?_
                  assumption

theorem execMigrationCopyDone_eff : ∀ table row s, OutEff 1133853425498 s (execMigrationCopyDone table row s) := by
  intro table row s
  unfold execMigrationCopyDone
  refine OutEff.next ?_
  exact (State.migrated_eff ..).mono rfl

end Sys2Proof.Machine
end

