-- ==== Sys2Proof/Laws/Admit.lean ====
section
/-! SUPPORT. What each operation of Machine/Admit.lean can change, in the terms of Laws/Eff.lean: one lemma an operation. -/

namespace Sys2Proof.Machine

theorem State.takeFetched_eff : ∀ s c, Eff 16 s (State.takeFetched s c) := by
  intro s c
  unfold State.takeFetched
  extract_lets +onlyGivenNames x0
  clear_value x0
  extract_lets +onlyGivenNames x1
  clear_value x1
  exact (State.updHost_eff ..).mono rfl

theorem State.reject_eff : ∀ s f d st, Eff 4294967384 s (State.reject s f d st) := by
  intro s f d st
  unfold State.reject
  extract_lets +onlyGivenNames x0
  clear_value x0
  extract_lets +onlyGivenNames x1
  refine Eff.cut x1 ?_ ?_
  · subst x1
    refine Eff.ite ?_ ?_
    · exact (State.inc_eff ..).mono rfl
    · exact Eff.refl ..
  intro hx
  clear_value x1
  extract_lets +onlyGivenNames x2
  refine Eff.cut x2 ?_ ?_
  · subst x2
    refine (State.charge_eff ..).step rfl ?_
    assumption
  intro hx
  clear_value x2
  refine (State.produce_eff ..).step rfl ?_
  assumption

theorem State.check1Fault_eff : ∀ s f st, Eff 256 s (State.check1Fault s f st) := by
  intro s f st
  unfold State.check1Fault
  refine Eff.ite ?_ ?_
  · refine (State.raise_eff ..).step rfl ?_
    exact Eff.refl ..
  · refine Eff.ite ?_ ?_
    · exact Eff.refl ..
    · refine (State.raise_eff ..).step rfl ?_
      exact Eff.refl ..

theorem State.pinAll_eff : ∀ s k r p, Eff 2228240 s (State.pinAll s k r p) := by
  intro s k r p
  unfold State.pinAll
  extract_lets key gen models gp adapter s1 pinReady
  refine Eff.cut s1 ((State.updReq_eff ..).mono rfl) fun h1 => ?_
  clear_value s1
  split
  · exact Eff.foldl (fun s a => Eff.ite ((State.pinShard_eff ..).mono rfl) (Eff.refl ..)) h1
  · exact Eff.foldl (fun s a => Eff.ite ((State.pinShard_eff ..).mono rfl) (Eff.refl ..)) h1
  · exact (State.pinTable_eff ..).step rfl h1
  · exact h1

theorem State.admitReq_eff : ∀ s r j, Eff 4297195608 s (State.admitReq s r j) := by
  intro s r j
  unfold State.admitReq
  extract_lets +onlyGivenNames x0
  clear_value x0
  extract_lets +onlyGivenNames x1
  refine Eff.cut x1 ?_ ?_
  · subst x1
    exact (State.addReq_eff ..).mono rfl
  intro hx
  clear_value x1
  extract_lets +onlyGivenNames x2
  refine Eff.cut x2 ?_ ?_
  · subst x2
    refine (State.charge_eff ..).step rfl ?_
    assumption
  intro hx
  clear_value x2
  refine (State.pinAll_eff ..).step rfl ?_
  assumption

theorem State.judgeFront_eff : ∀ s c, Eff 1133853425498 s (State.judgeFront s c) := by
  intro s c
  unfold State.judgeFront
  split
  · exact Eff.refl ..
  · extract_lets +onlyGivenNames x0
    clear_value x0
    extract_lets +onlyGivenNames x1
    clear_value x1
    extract_lets +onlyGivenNames x2
    refine Eff.cut x2 ?_ ?_
    · subst x2
      refine Eff.ite ?_ ?_
      · exact Eff.refl ..
      · exact (State.descReads_eff ..).mono rfl
    intro hx
    clear_value x2
    split
    · refine (State.reject_eff ..).step rfl ?_
      refine (State.takeFetched_eff ..).step rfl ?_
      refine (State.check1Fault_eff ..).step rfl ?_
      assumption
    · extract_lets +onlyGivenNames x3
      clear_value x3
      extract_lets +onlyGivenNames x4
      clear_value x4
      split
      · refine (State.reject_eff ..).step rfl ?_
        refine (State.takeFetched_eff ..).step rfl ?_
        assumption
      · refine (State.admitReq_eff ..).step rfl ?_
        refine (State.takeFetched_eff ..).step rfl ?_
        assumption

theorem State.admitNext_eff : ∀ s c, Eff 1133853425498 s (State.admitNext s c) := by
  intro s c
  unfold State.admitNext
  refine Eff.ite ?_ ?_
  · exact Eff.refl ..
  · extract_lets +onlyGivenNames x0
    clear_value x0
    refine Eff.ite ?_ ?_
    · exact Eff.refl ..
    · refine (State.judgeFront_eff ..).step rfl ?_
      exact (State.updHost_eff ..).mono rfl

theorem execDescriptorAdmit_eff : ∀ client s, OutEff 1133853425498 s (execDescriptorAdmit client s) := by
  intro client s
  unfold execDescriptorAdmit
  refine OutEff.next ?_
  exact (State.admitNext_eff ..).mono rfl

end Sys2Proof.Machine
end

