-- ==== Sys2Proof/Laws/State.lean ====
section
/-! SUPPORT. The small laws of the state: what each update of one component leaves of every other one, each true by rfl.
The proofs read `id rfl` so that simp rewrites with them as equations: with `rfl` it would leave the kernel to compare whole states. -/

namespace Sys2Proof.Machine

section
variable (s : State)

@[simp] theorem State.putFreeCtr_pending (v) : (s.putFreeCtr v).pending = s.pending := id rfl
@[simp] theorem State.putFreeCtr_freeCtr (v) : (s.putFreeCtr v).freeCtr = v := id rfl
@[simp] theorem State.putFreeCtr_now (v) : (s.putFreeCtr v).now = s.now := id rfl
@[simp] theorem State.putFreeCtr_regs (v) : (s.putFreeCtr v).regs = s.regs := id rfl
@[simp] theorem State.putFreeCtr_host (v) : (s.putFreeCtr v).host = s.host := id rfl
@[simp] theorem State.putFreeCtr_mbx (v) : (s.putFreeCtr v).mbx = s.mbx := id rfl
@[simp] theorem State.putFreeCtr_accts (v) : (s.putFreeCtr v).accts = s.accts := id rfl
@[simp] theorem State.putFreeCtr_snaps (v) : (s.putFreeCtr v).snaps = s.snaps := id rfl
@[simp] theorem State.putFreeCtr_faults (v) : (s.putFreeCtr v).faults = s.faults := id rfl
@[simp] theorem State.putFreeCtr_mem (v) : (s.putFreeCtr v).mem = s.mem := id rfl
@[simp] theorem State.putFreeCtr_flash (v) : (s.putFreeCtr v).flash = s.flash := id rfl
@[simp] theorem State.putFreeCtr_clusters (v) : (s.putFreeCtr v).clusters = s.clusters := id rfl
@[simp] theorem State.putFreeCtr_pkg (v) : (s.putFreeCtr v).pkg = s.pkg := id rfl
@[simp] theorem State.putFreeCtr_parts (v) : (s.putFreeCtr v).parts = s.parts := id rfl
@[simp] theorem State.putFreeCtr_objs (v) : (s.putFreeCtr v).objs = s.objs := id rfl
@[simp] theorem State.putFreeCtr_weights (v) : (s.putFreeCtr v).weights = s.weights := id rfl
@[simp] theorem State.putFreeCtr_adapters (v) : (s.putFreeCtr v).adapters = s.adapters := id rfl
@[simp] theorem State.putFreeCtr_shards (v) : (s.putFreeCtr v).shards = s.shards := id rfl
@[simp] theorem State.putFreeCtr_searches (v) : (s.putFreeCtr v).searches = s.searches := id rfl
@[simp] theorem State.putFreeCtr_walks (v) : (s.putFreeCtr v).walks = s.walks := id rfl
@[simp] theorem State.putFreeCtr_walkOrder (v) : (s.putFreeCtr v).walkOrder = s.walkOrder := id rfl
@[simp] theorem State.putFreeCtr_tables (v) : (s.putFreeCtr v).tables = s.tables := id rfl
@[simp] theorem State.putFreeCtr_lookups (v) : (s.putFreeCtr v).lookups = s.lookups := id rfl
@[simp] theorem State.putFreeCtr_bags (v) : (s.putFreeCtr v).bags = s.bags := id rfl
@[simp] theorem State.putFreeCtr_vocabs (v) : (s.putFreeCtr v).vocabs = s.vocabs := id rfl
@[simp] theorem State.putFreeCtr_streams (v) : (s.putFreeCtr v).streams = s.streams := id rfl
@[simp] theorem State.putFreeCtr_tasks (v) : (s.putFreeCtr v).tasks = s.tasks := id rfl
@[simp] theorem State.putFreeCtr_trees (v) : (s.putFreeCtr v).trees = s.trees := id rfl
@[simp] theorem State.putFreeCtr_probes (v) : (s.putFreeCtr v).probes = s.probes := id rfl
@[simp] theorem State.putFreeCtr_pools (v) : (s.putFreeCtr v).pools = s.pools := id rfl
@[simp] theorem State.putFreeCtr_gens (v) : (s.putFreeCtr v).gens = s.gens := id rfl
@[simp] theorem State.putFreeCtr_retrieves (v) : (s.putFreeCtr v).retrieves = s.retrieves := id rfl
@[simp] theorem State.putFreeCtr_fab (v) : (s.putFreeCtr v).fab = s.fab := id rfl
@[simp] theorem State.putFreeCtr_power (v) : (s.putFreeCtr v).power = s.power := id rfl
@[simp] theorem State.putFreeCtr_health (v) : (s.putFreeCtr v).health = s.health := id rfl
@[simp] theorem State.putFreeCtr_nor (v) : (s.putFreeCtr v).nor = s.nor := id rfl
@[simp] theorem State.putFreeCtr_boot (v) : (s.putFreeCtr v).boot = s.boot := id rfl
@[simp] theorem State.putFreeCtr_sec (v) : (s.putFreeCtr v).sec = s.sec := id rfl
@[simp] theorem State.putFreeCtr_upd (v) : (s.putFreeCtr v).upd = s.upd := id rfl
@[simp] theorem State.putFreeCtr_board (v) : (s.putFreeCtr v).board = s.board := id rfl
@[simp] theorem State.putNow_pending (v) : (s.putNow v).pending = s.pending := id rfl
@[simp] theorem State.putNow_freeCtr (v) : (s.putNow v).freeCtr = s.freeCtr := id rfl
@[simp] theorem State.putNow_now (v) : (s.putNow v).now = v := id rfl
@[simp] theorem State.putNow_regs (v) : (s.putNow v).regs = s.regs := id rfl
@[simp] theorem State.putNow_host (v) : (s.putNow v).host = s.host := id rfl
@[simp] theorem State.putNow_mbx (v) : (s.putNow v).mbx = s.mbx := id rfl
@[simp] theorem State.putNow_accts (v) : (s.putNow v).accts = s.accts := id rfl
@[simp] theorem State.putNow_snaps (v) : (s.putNow v).snaps = s.snaps := id rfl
@[simp] theorem State.putNow_faults (v) : (s.putNow v).faults = s.faults := id rfl
@[simp] theorem State.putNow_mem (v) : (s.putNow v).mem = s.mem := id rfl
@[simp] theorem State.putNow_flash (v) : (s.putNow v).flash = s.flash := id rfl
@[simp] theorem State.putNow_clusters (v) : (s.putNow v).clusters = s.clusters := id rfl
@[simp] theorem State.putNow_pkg (v) : (s.putNow v).pkg = s.pkg := id rfl
@[simp] theorem State.putNow_parts (v) : (s.putNow v).parts = s.parts := id rfl
@[simp] theorem State.putNow_objs (v) : (s.putNow v).objs = s.objs := id rfl
@[simp] theorem State.putNow_weights (v) : (s.putNow v).weights = s.weights := id rfl
@[simp] theorem State.putNow_adapters (v) : (s.putNow v).adapters = s.adapters := id rfl
@[simp] theorem State.putNow_shards (v) : (s.putNow v).shards = s.shards := id rfl
@[simp] theorem State.putNow_searches (v) : (s.putNow v).searches = s.searches := id rfl
@[simp] theorem State.putNow_walks (v) : (s.putNow v).walks = s.walks := id rfl
@[simp] theorem State.putNow_walkOrder (v) : (s.putNow v).walkOrder = s.walkOrder := id rfl
@[simp] theorem State.putNow_tables (v) : (s.putNow v).tables = s.tables := id rfl
@[simp] theorem State.putNow_lookups (v) : (s.putNow v).lookups = s.lookups := id rfl
@[simp] theorem State.putNow_bags (v) : (s.putNow v).bags = s.bags := id rfl
@[simp] theorem State.putNow_vocabs (v) : (s.putNow v).vocabs = s.vocabs := id rfl
@[simp] theorem State.putNow_streams (v) : (s.putNow v).streams = s.streams := id rfl
@[simp] theorem State.putNow_tasks (v) : (s.putNow v).tasks = s.tasks := id rfl
@[simp] theorem State.putNow_trees (v) : (s.putNow v).trees = s.trees := id rfl
@[simp] theorem State.putNow_probes (v) : (s.putNow v).probes = s.probes := id rfl
@[simp] theorem State.putNow_pools (v) : (s.putNow v).pools = s.pools := id rfl
@[simp] theorem State.putNow_gens (v) : (s.putNow v).gens = s.gens := id rfl
@[simp] theorem State.putNow_retrieves (v) : (s.putNow v).retrieves = s.retrieves := id rfl
@[simp] theorem State.putNow_fab (v) : (s.putNow v).fab = s.fab := id rfl
@[simp] theorem State.putNow_power (v) : (s.putNow v).power = s.power := id rfl
@[simp] theorem State.putNow_health (v) : (s.putNow v).health = s.health := id rfl
@[simp] theorem State.putNow_nor (v) : (s.putNow v).nor = s.nor := id rfl
@[simp] theorem State.putNow_boot (v) : (s.putNow v).boot = s.boot := id rfl
@[simp] theorem State.putNow_sec (v) : (s.putNow v).sec = s.sec := id rfl
@[simp] theorem State.putNow_upd (v) : (s.putNow v).upd = s.upd := id rfl
@[simp] theorem State.putNow_board (v) : (s.putNow v).board = s.board := id rfl
@[simp] theorem State.putRegs_pending (v) : (s.putRegs v).pending = s.pending := id rfl
@[simp] theorem State.putRegs_freeCtr (v) : (s.putRegs v).freeCtr = s.freeCtr := id rfl
@[simp] theorem State.putRegs_now (v) : (s.putRegs v).now = s.now := id rfl
@[simp] theorem State.putRegs_regs (v) : (s.putRegs v).regs = v := id rfl
@[simp] theorem State.putRegs_host (v) : (s.putRegs v).host = s.host := id rfl
@[simp] theorem State.putRegs_mbx (v) : (s.putRegs v).mbx = s.mbx := id rfl
@[simp] theorem State.putRegs_accts (v) : (s.putRegs v).accts = s.accts := id rfl
@[simp] theorem State.putRegs_snaps (v) : (s.putRegs v).snaps = s.snaps := id rfl
@[simp] theorem State.putRegs_faults (v) : (s.putRegs v).faults = s.faults := id rfl
@[simp] theorem State.putRegs_mem (v) : (s.putRegs v).mem = s.mem := id rfl
@[simp] theorem State.putRegs_flash (v) : (s.putRegs v).flash = s.flash := id rfl
@[simp] theorem State.putRegs_clusters (v) : (s.putRegs v).clusters = s.clusters := id rfl
@[simp] theorem State.putRegs_pkg (v) : (s.putRegs v).pkg = s.pkg := id rfl
@[simp] theorem State.putRegs_parts (v) : (s.putRegs v).parts = s.parts := id rfl
@[simp] theorem State.putRegs_objs (v) : (s.putRegs v).objs = s.objs := id rfl
@[simp] theorem State.putRegs_weights (v) : (s.putRegs v).weights = s.weights := id rfl
@[simp] theorem State.putRegs_adapters (v) : (s.putRegs v).adapters = s.adapters := id rfl
@[simp] theorem State.putRegs_shards (v) : (s.putRegs v).shards = s.shards := id rfl
@[simp] theorem State.putRegs_searches (v) : (s.putRegs v).searches = s.searches := id rfl
@[simp] theorem State.putRegs_walks (v) : (s.putRegs v).walks = s.walks := id rfl
@[simp] theorem State.putRegs_walkOrder (v) : (s.putRegs v).walkOrder = s.walkOrder := id rfl
@[simp] theorem State.putRegs_tables (v) : (s.putRegs v).tables = s.tables := id rfl
@[simp] theorem State.putRegs_lookups (v) : (s.putRegs v).lookups = s.lookups := id rfl
@[simp] theorem State.putRegs_bags (v) : (s.putRegs v).bags = s.bags := id rfl
@[simp] theorem State.putRegs_vocabs (v) : (s.putRegs v).vocabs = s.vocabs := id rfl
@[simp] theorem State.putRegs_streams (v) : (s.putRegs v).streams = s.streams := id rfl
@[simp] theorem State.putRegs_tasks (v) : (s.putRegs v).tasks = s.tasks := id rfl
@[simp] theorem State.putRegs_trees (v) : (s.putRegs v).trees = s.trees := id rfl
@[simp] theorem State.putRegs_probes (v) : (s.putRegs v).probes = s.probes := id rfl
@[simp] theorem State.putRegs_pools (v) : (s.putRegs v).pools = s.pools := id rfl
@[simp] theorem State.putRegs_gens (v) : (s.putRegs v).gens = s.gens := id rfl
@[simp] theorem State.putRegs_retrieves (v) : (s.putRegs v).retrieves = s.retrieves := id rfl
@[simp] theorem State.putRegs_fab (v) : (s.putRegs v).fab = s.fab := id rfl
@[simp] theorem State.putRegs_power (v) : (s.putRegs v).power = s.power := id rfl
@[simp] theorem State.putRegs_health (v) : (s.putRegs v).health = s.health := id rfl
@[simp] theorem State.putRegs_nor (v) : (s.putRegs v).nor = s.nor := id rfl
@[simp] theorem State.putRegs_boot (v) : (s.putRegs v).boot = s.boot := id rfl
@[simp] theorem State.putRegs_sec (v) : (s.putRegs v).sec = s.sec := id rfl
@[simp] theorem State.putRegs_upd (v) : (s.putRegs v).upd = s.upd := id rfl
@[simp] theorem State.putRegs_board (v) : (s.putRegs v).board = s.board := id rfl
@[simp] theorem State.putHost_pending (v) : (s.putHost v).pending = s.pending := id rfl
@[simp] theorem State.putHost_freeCtr (v) : (s.putHost v).freeCtr = s.freeCtr := id rfl
@[simp] theorem State.putHost_now (v) : (s.putHost v).now = s.now := id rfl
@[simp] theorem State.putHost_regs (v) : (s.putHost v).regs = s.regs := id rfl
@[simp] theorem State.putHost_host (v) : (s.putHost v).host = v := id rfl
@[simp] theorem State.putHost_mbx (v) : (s.putHost v).mbx = s.mbx := id rfl
@[simp] theorem State.putHost_accts (v) : (s.putHost v).accts = s.accts := id rfl
@[simp] theorem State.putHost_snaps (v) : (s.putHost v).snaps = s.snaps := id rfl
@[simp] theorem State.putHost_faults (v) : (s.putHost v).faults = s.faults := id rfl
@[simp] theorem State.putHost_mem (v) : (s.putHost v).mem = s.mem := id rfl
@[simp] theorem State.putHost_flash (v) : (s.putHost v).flash = s.flash := id rfl
@[simp] theorem State.putHost_clusters (v) : (s.putHost v).clusters = s.clusters := id rfl
@[simp] theorem State.putHost_pkg (v) : (s.putHost v).pkg = s.pkg := id rfl
@[simp] theorem State.putHost_parts (v) : (s.putHost v).parts = s.parts := id rfl
@[simp] theorem State.putHost_objs (v) : (s.putHost v).objs = s.objs := id rfl
@[simp] theorem State.putHost_weights (v) : (s.putHost v).weights = s.weights := id rfl
@[simp] theorem State.putHost_adapters (v) : (s.putHost v).adapters = s.adapters := id rfl
@[simp] theorem State.putHost_shards (v) : (s.putHost v).shards = s.shards := id rfl
@[simp] theorem State.putHost_searches (v) : (s.putHost v).searches = s.searches := id rfl
@[simp] theorem State.putHost_walks (v) : (s.putHost v).walks = s.walks := id rfl
@[simp] theorem State.putHost_walkOrder (v) : (s.putHost v).walkOrder = s.walkOrder := id rfl
@[simp] theorem State.putHost_tables (v) : (s.putHost v).tables = s.tables := id rfl
@[simp] theorem State.putHost_lookups (v) : (s.putHost v).lookups = s.lookups := id rfl
@[simp] theorem State.putHost_bags (v) : (s.putHost v).bags = s.bags := id rfl
@[simp] theorem State.putHost_vocabs (v) : (s.putHost v).vocabs = s.vocabs := id rfl
@[simp] theorem State.putHost_streams (v) : (s.putHost v).streams = s.streams := id rfl
@[simp] theorem State.putHost_tasks (v) : (s.putHost v).tasks = s.tasks := id rfl
@[simp] theorem State.putHost_trees (v) : (s.putHost v).trees = s.trees := id rfl
@[simp] theorem State.putHost_probes (v) : (s.putHost v).probes = s.probes := id rfl
@[simp] theorem State.putHost_pools (v) : (s.putHost v).pools = s.pools := id rfl
@[simp] theorem State.putHost_gens (v) : (s.putHost v).gens = s.gens := id rfl
@[simp] theorem State.putHost_retrieves (v) : (s.putHost v).retrieves = s.retrieves := id rfl
@[simp] theorem State.putHost_fab (v) : (s.putHost v).fab = s.fab := id rfl
@[simp] theorem State.putHost_power (v) : (s.putHost v).power = s.power := id rfl
@[simp] theorem State.putHost_health (v) : (s.putHost v).health = s.health := id rfl
@[simp] theorem State.putHost_nor (v) : (s.putHost v).nor = s.nor := id rfl
@[simp] theorem State.putHost_boot (v) : (s.putHost v).boot = s.boot := id rfl
@[simp] theorem State.putHost_sec (v) : (s.putHost v).sec = s.sec := id rfl
@[simp] theorem State.putHost_upd (v) : (s.putHost v).upd = s.upd := id rfl
@[simp] theorem State.putHost_board (v) : (s.putHost v).board = s.board := id rfl
@[simp] theorem State.putMbx_pending (v) : (s.putMbx v).pending = s.pending := id rfl
@[simp] theorem State.putMbx_freeCtr (v) : (s.putMbx v).freeCtr = s.freeCtr := id rfl
@[simp] theorem State.putMbx_now (v) : (s.putMbx v).now = s.now := id rfl
@[simp] theorem State.putMbx_regs (v) : (s.putMbx v).regs = s.regs := id rfl
@[simp] theorem State.putMbx_host (v) : (s.putMbx v).host = s.host := id rfl
@[simp] theorem State.putMbx_mbx (v) : (s.putMbx v).mbx = v := id rfl
@[simp] theorem State.putMbx_accts (v) : (s.putMbx v).accts = s.accts := id rfl
@[simp] theorem State.putMbx_snaps (v) : (s.putMbx v).snaps = s.snaps := id rfl
@[simp] theorem State.putMbx_faults (v) : (s.putMbx v).faults = s.faults := id rfl
@[simp] theorem State.putMbx_mem (v) : (s.putMbx v).mem = s.mem := id rfl
@[simp] theorem State.putMbx_flash (v) : (s.putMbx v).flash = s.flash := id rfl
@[simp] theorem State.putMbx_clusters (v) : (s.putMbx v).clusters = s.clusters := id rfl
@[simp] theorem State.putMbx_pkg (v) : (s.putMbx v).pkg = s.pkg := id rfl
@[simp] theorem State.putMbx_parts (v) : (s.putMbx v).parts = s.parts := id rfl
@[simp] theorem State.putMbx_objs (v) : (s.putMbx v).objs = s.objs := id rfl
@[simp] theorem State.putMbx_weights (v) : (s.putMbx v).weights = s.weights := id rfl
@[simp] theorem State.putMbx_adapters (v) : (s.putMbx v).adapters = s.adapters := id rfl
@[simp] theorem State.putMbx_shards (v) : (s.putMbx v).shards = s.shards := id rfl
@[simp] theorem State.putMbx_searches (v) : (s.putMbx v).searches = s.searches := id rfl
@[simp] theorem State.putMbx_walks (v) : (s.putMbx v).walks = s.walks := id rfl
@[simp] theorem State.putMbx_walkOrder (v) : (s.putMbx v).walkOrder = s.walkOrder := id rfl
@[simp] theorem State.putMbx_tables (v) : (s.putMbx v).tables = s.tables := id rfl
@[simp] theorem State.putMbx_lookups (v) : (s.putMbx v).lookups = s.lookups := id rfl
@[simp] theorem State.putMbx_bags (v) : (s.putMbx v).bags = s.bags := id rfl
@[simp] theorem State.putMbx_vocabs (v) : (s.putMbx v).vocabs = s.vocabs := id rfl
@[simp] theorem State.putMbx_streams (v) : (s.putMbx v).streams = s.streams := id rfl
@[simp] theorem State.putMbx_tasks (v) : (s.putMbx v).tasks = s.tasks := id rfl
@[simp] theorem State.putMbx_trees (v) : (s.putMbx v).trees = s.trees := id rfl
@[simp] theorem State.putMbx_probes (v) : (s.putMbx v).probes = s.probes := id rfl
@[simp] theorem State.putMbx_pools (v) : (s.putMbx v).pools = s.pools := id rfl
@[simp] theorem State.putMbx_gens (v) : (s.putMbx v).gens = s.gens := id rfl
@[simp] theorem State.putMbx_retrieves (v) : (s.putMbx v).retrieves = s.retrieves := id rfl
@[simp] theorem State.putMbx_fab (v) : (s.putMbx v).fab = s.fab := id rfl
@[simp] theorem State.putMbx_power (v) : (s.putMbx v).power = s.power := id rfl
@[simp] theorem State.putMbx_health (v) : (s.putMbx v).health = s.health := id rfl
@[simp] theorem State.putMbx_nor (v) : (s.putMbx v).nor = s.nor := id rfl
@[simp] theorem State.putMbx_boot (v) : (s.putMbx v).boot = s.boot := id rfl
@[simp] theorem State.putMbx_sec (v) : (s.putMbx v).sec = s.sec := id rfl
@[simp] theorem State.putMbx_upd (v) : (s.putMbx v).upd = s.upd := id rfl
@[simp] theorem State.putMbx_board (v) : (s.putMbx v).board = s.board := id rfl
@[simp] theorem State.putAccts_pending (v) : (s.putAccts v).pending = s.pending := id rfl
@[simp] theorem State.putAccts_freeCtr (v) : (s.putAccts v).freeCtr = s.freeCtr := id rfl
@[simp] theorem State.putAccts_now (v) : (s.putAccts v).now = s.now := id rfl
@[simp] theorem State.putAccts_regs (v) : (s.putAccts v).regs = s.regs := id rfl
@[simp] theorem State.putAccts_host (v) : (s.putAccts v).host = s.host := id rfl
@[simp] theorem State.putAccts_mbx (v) : (s.putAccts v).mbx = s.mbx := id rfl
@[simp] theorem State.putAccts_accts (v) : (s.putAccts v).accts = v := id rfl
@[simp] theorem State.putAccts_snaps (v) : (s.putAccts v).snaps = s.snaps := id rfl
@[simp] theorem State.putAccts_faults (v) : (s.putAccts v).faults = s.faults := id rfl
@[simp] theorem State.putAccts_mem (v) : (s.putAccts v).mem = s.mem := id rfl
@[simp] theorem State.putAccts_flash (v) : (s.putAccts v).flash = s.flash := id rfl
@[simp] theorem State.putAccts_clusters (v) : (s.putAccts v).clusters = s.clusters := id rfl
@[simp] theorem State.putAccts_pkg (v) : (s.putAccts v).pkg = s.pkg := id rfl
@[simp] theorem State.putAccts_parts (v) : (s.putAccts v).parts = s.parts := id rfl
@[simp] theorem State.putAccts_objs (v) : (s.putAccts v).objs = s.objs := id rfl
@[simp] theorem State.putAccts_weights (v) : (s.putAccts v).weights = s.weights := id rfl
@[simp] theorem State.putAccts_adapters (v) : (s.putAccts v).adapters = s.adapters := id rfl
@[simp] theorem State.putAccts_shards (v) : (s.putAccts v).shards = s.shards := id rfl
@[simp] theorem State.putAccts_searches (v) : (s.putAccts v).searches = s.searches := id rfl
@[simp] theorem State.putAccts_walks (v) : (s.putAccts v).walks = s.walks := id rfl
@[simp] theorem State.putAccts_walkOrder (v) : (s.putAccts v).walkOrder = s.walkOrder := id rfl
@[simp] theorem State.putAccts_tables (v) : (s.putAccts v).tables = s.tables := id rfl
@[simp] theorem State.putAccts_lookups (v) : (s.putAccts v).lookups = s.lookups := id rfl
@[simp] theorem State.putAccts_bags (v) : (s.putAccts v).bags = s.bags := id rfl
@[simp] theorem State.putAccts_vocabs (v) : (s.putAccts v).vocabs = s.vocabs := id rfl
@[simp] theorem State.putAccts_streams (v) : (s.putAccts v).streams = s.streams := id rfl
@[simp] theorem State.putAccts_tasks (v) : (s.putAccts v).tasks = s.tasks := id rfl
@[simp] theorem State.putAccts_trees (v) : (s.putAccts v).trees = s.trees := id rfl
@[simp] theorem State.putAccts_probes (v) : (s.putAccts v).probes = s.probes := id rfl
@[simp] theorem State.putAccts_pools (v) : (s.putAccts v).pools = s.pools := id rfl
@[simp] theorem State.putAccts_gens (v) : (s.putAccts v).gens = s.gens := id rfl
@[simp] theorem State.putAccts_retrieves (v) : (s.putAccts v).retrieves = s.retrieves := id rfl
@[simp] theorem State.putAccts_fab (v) : (s.putAccts v).fab = s.fab := id rfl
@[simp] theorem State.putAccts_power (v) : (s.putAccts v).power = s.power := id rfl
@[simp] theorem State.putAccts_health (v) : (s.putAccts v).health = s.health := id rfl
@[simp] theorem State.putAccts_nor (v) : (s.putAccts v).nor = s.nor := id rfl
@[simp] theorem State.putAccts_boot (v) : (s.putAccts v).boot = s.boot := id rfl
@[simp] theorem State.putAccts_sec (v) : (s.putAccts v).sec = s.sec := id rfl
@[simp] theorem State.putAccts_upd (v) : (s.putAccts v).upd = s.upd := id rfl
@[simp] theorem State.putAccts_board (v) : (s.putAccts v).board = s.board := id rfl
@[simp] theorem State.putSnaps_pending (v) : (s.putSnaps v).pending = s.pending := id rfl
@[simp] theorem State.putSnaps_freeCtr (v) : (s.putSnaps v).freeCtr = s.freeCtr := id rfl
@[simp] theorem State.putSnaps_now (v) : (s.putSnaps v).now = s.now := id rfl
@[simp] theorem State.putSnaps_regs (v) : (s.putSnaps v).regs = s.regs := id rfl
@[simp] theorem State.putSnaps_host (v) : (s.putSnaps v).host = s.host := id rfl
@[simp] theorem State.putSnaps_mbx (v) : (s.putSnaps v).mbx = s.mbx := id rfl
@[simp] theorem State.putSnaps_accts (v) : (s.putSnaps v).accts = s.accts := id rfl
@[simp] theorem State.putSnaps_snaps (v) : (s.putSnaps v).snaps = v := id rfl
@[simp] theorem State.putSnaps_faults (v) : (s.putSnaps v).faults = s.faults := id rfl
@[simp] theorem State.putSnaps_mem (v) : (s.putSnaps v).mem = s.mem := id rfl
@[simp] theorem State.putSnaps_flash (v) : (s.putSnaps v).flash = s.flash := id rfl
@[simp] theorem State.putSnaps_clusters (v) : (s.putSnaps v).clusters = s.clusters := id rfl
@[simp] theorem State.putSnaps_pkg (v) : (s.putSnaps v).pkg = s.pkg := id rfl
@[simp] theorem State.putSnaps_parts (v) : (s.putSnaps v).parts = s.parts := id rfl
@[simp] theorem State.putSnaps_objs (v) : (s.putSnaps v).objs = s.objs := id rfl
@[simp] theorem State.putSnaps_weights (v) : (s.putSnaps v).weights = s.weights := id rfl
@[simp] theorem State.putSnaps_adapters (v) : (s.putSnaps v).adapters = s.adapters := id rfl
@[simp] theorem State.putSnaps_shards (v) : (s.putSnaps v).shards = s.shards := id rfl
@[simp] theorem State.putSnaps_searches (v) : (s.putSnaps v).searches = s.searches := id rfl
@[simp] theorem State.putSnaps_walks (v) : (s.putSnaps v).walks = s.walks := id rfl
@[simp] theorem State.putSnaps_walkOrder (v) : (s.putSnaps v).walkOrder = s.walkOrder := id rfl
@[simp] theorem State.putSnaps_tables (v) : (s.putSnaps v).tables = s.tables := id rfl
@[simp] theorem State.putSnaps_lookups (v) : (s.putSnaps v).lookups = s.lookups := id rfl
@[simp] theorem State.putSnaps_bags (v) : (s.putSnaps v).bags = s.bags := id rfl
@[simp] theorem State.putSnaps_vocabs (v) : (s.putSnaps v).vocabs = s.vocabs := id rfl
@[simp] theorem State.putSnaps_streams (v) : (s.putSnaps v).streams = s.streams := id rfl
@[simp] theorem State.putSnaps_tasks (v) : (s.putSnaps v).tasks = s.tasks := id rfl
@[simp] theorem State.putSnaps_trees (v) : (s.putSnaps v).trees = s.trees := id rfl
@[simp] theorem State.putSnaps_probes (v) : (s.putSnaps v).probes = s.probes := id rfl
@[simp] theorem State.putSnaps_pools (v) : (s.putSnaps v).pools = s.pools := id rfl
@[simp] theorem State.putSnaps_gens (v) : (s.putSnaps v).gens = s.gens := id rfl
@[simp] theorem State.putSnaps_retrieves (v) : (s.putSnaps v).retrieves = s.retrieves := id rfl
@[simp] theorem State.putSnaps_fab (v) : (s.putSnaps v).fab = s.fab := id rfl
@[simp] theorem State.putSnaps_power (v) : (s.putSnaps v).power = s.power := id rfl
@[simp] theorem State.putSnaps_health (v) : (s.putSnaps v).health = s.health := id rfl
@[simp] theorem State.putSnaps_nor (v) : (s.putSnaps v).nor = s.nor := id rfl
@[simp] theorem State.putSnaps_boot (v) : (s.putSnaps v).boot = s.boot := id rfl
@[simp] theorem State.putSnaps_sec (v) : (s.putSnaps v).sec = s.sec := id rfl
@[simp] theorem State.putSnaps_upd (v) : (s.putSnaps v).upd = s.upd := id rfl
@[simp] theorem State.putSnaps_board (v) : (s.putSnaps v).board = s.board := id rfl
@[simp] theorem State.putFaults_pending (v) : (s.putFaults v).pending = s.pending := id rfl
@[simp] theorem State.putFaults_freeCtr (v) : (s.putFaults v).freeCtr = s.freeCtr := id rfl
@[simp] theorem State.putFaults_now (v) : (s.putFaults v).now = s.now := id rfl
@[simp] theorem State.putFaults_regs (v) : (s.putFaults v).regs = s.regs := id rfl
@[simp] theorem State.putFaults_host (v) : (s.putFaults v).host = s.host := id rfl
@[simp] theorem State.putFaults_mbx (v) : (s.putFaults v).mbx = s.mbx := id rfl
@[simp] theorem State.putFaults_accts (v) : (s.putFaults v).accts = s.accts := id rfl
@[simp] theorem State.putFaults_snaps (v) : (s.putFaults v).snaps = s.snaps := id rfl
@[simp] theorem State.putFaults_faults (v) : (s.putFaults v).faults = v := id rfl
@[simp] theorem State.putFaults_mem (v) : (s.putFaults v).mem = s.mem := id rfl
@[simp] theorem State.putFaults_flash (v) : (s.putFaults v).flash = s.flash := id rfl
@[simp] theorem State.putFaults_clusters (v) : (s.putFaults v).clusters = s.clusters := id rfl
@[simp] theorem State.putFaults_pkg (v) : (s.putFaults v).pkg = s.pkg := id rfl
@[simp] theorem State.putFaults_parts (v) : (s.putFaults v).parts = s.parts := id rfl
@[simp] theorem State.putFaults_objs (v) : (s.putFaults v).objs = s.objs := id rfl
@[simp] theorem State.putFaults_weights (v) : (s.putFaults v).weights = s.weights := id rfl
@[simp] theorem State.putFaults_adapters (v) : (s.putFaults v).adapters = s.adapters := id rfl
@[simp] theorem State.putFaults_shards (v) : (s.putFaults v).shards = s.shards := id rfl
@[simp] theorem State.putFaults_searches (v) : (s.putFaults v).searches = s.searches := id rfl
@[simp] theorem State.putFaults_walks (v) : (s.putFaults v).walks = s.walks := id rfl
@[simp] theorem State.putFaults_walkOrder (v) : (s.putFaults v).walkOrder = s.walkOrder := id rfl
@[simp] theorem State.putFaults_tables (v) : (s.putFaults v).tables = s.tables := id rfl
@[simp] theorem State.putFaults_lookups (v) : (s.putFaults v).lookups = s.lookups := id rfl
@[simp] theorem State.putFaults_bags (v) : (s.putFaults v).bags = s.bags := id rfl
@[simp] theorem State.putFaults_vocabs (v) : (s.putFaults v).vocabs = s.vocabs := id rfl
@[simp] theorem State.putFaults_streams (v) : (s.putFaults v).streams = s.streams := id rfl
@[simp] theorem State.putFaults_tasks (v) : (s.putFaults v).tasks = s.tasks := id rfl
@[simp] theorem State.putFaults_trees (v) : (s.putFaults v).trees = s.trees := id rfl
@[simp] theorem State.putFaults_probes (v) : (s.putFaults v).probes = s.probes := id rfl
@[simp] theorem State.putFaults_pools (v) : (s.putFaults v).pools = s.pools := id rfl
@[simp] theorem State.putFaults_gens (v) : (s.putFaults v).gens = s.gens := id rfl
@[simp] theorem State.putFaults_retrieves (v) : (s.putFaults v).retrieves = s.retrieves := id rfl
@[simp] theorem State.putFaults_fab (v) : (s.putFaults v).fab = s.fab := id rfl
@[simp] theorem State.putFaults_power (v) : (s.putFaults v).power = s.power := id rfl
@[simp] theorem State.putFaults_health (v) : (s.putFaults v).health = s.health := id rfl
@[simp] theorem State.putFaults_nor (v) : (s.putFaults v).nor = s.nor := id rfl
@[simp] theorem State.putFaults_boot (v) : (s.putFaults v).boot = s.boot := id rfl
@[simp] theorem State.putFaults_sec (v) : (s.putFaults v).sec = s.sec := id rfl
@[simp] theorem State.putFaults_upd (v) : (s.putFaults v).upd = s.upd := id rfl
@[simp] theorem State.putFaults_board (v) : (s.putFaults v).board = s.board := id rfl
@[simp] theorem State.putMem_pending (v) : (s.putMem v).pending = s.pending := id rfl
@[simp] theorem State.putMem_freeCtr (v) : (s.putMem v).freeCtr = s.freeCtr := id rfl
@[simp] theorem State.putMem_now (v) : (s.putMem v).now = s.now := id rfl
@[simp] theorem State.putMem_regs (v) : (s.putMem v).regs = s.regs := id rfl
@[simp] theorem State.putMem_host (v) : (s.putMem v).host = s.host := id rfl
@[simp] theorem State.putMem_mbx (v) : (s.putMem v).mbx = s.mbx := id rfl
@[simp] theorem State.putMem_accts (v) : (s.putMem v).accts = s.accts := id rfl
@[simp] theorem State.putMem_snaps (v) : (s.putMem v).snaps = s.snaps := id rfl
@[simp] theorem State.putMem_faults (v) : (s.putMem v).faults = s.faults := id rfl
@[simp] theorem State.putMem_mem (v) : (s.putMem v).mem = v := id rfl
@[simp] theorem State.putMem_flash (v) : (s.putMem v).flash = s.flash := id rfl
@[simp] theorem State.putMem_clusters (v) : (s.putMem v).clusters = s.clusters := id rfl
@[simp] theorem State.putMem_pkg (v) : (s.putMem v).pkg = s.pkg := id rfl
@[simp] theorem State.putMem_parts (v) : (s.putMem v).parts = s.parts := id rfl
@[simp] theorem State.putMem_objs (v) : (s.putMem v).objs = s.objs := id rfl
@[simp] theorem State.putMem_weights (v) : (s.putMem v).weights = s.weights := id rfl
@[simp] theorem State.putMem_adapters (v) : (s.putMem v).adapters = s.adapters := id rfl
@[simp] theorem State.putMem_shards (v) : (s.putMem v).shards = s.shards := id rfl
@[simp] theorem State.putMem_searches (v) : (s.putMem v).searches = s.searches := id rfl
@[simp] theorem State.putMem_walks (v) : (s.putMem v).walks = s.walks := id rfl
@[simp] theorem State.putMem_walkOrder (v) : (s.putMem v).walkOrder = s.walkOrder := id rfl
@[simp] theorem State.putMem_tables (v) : (s.putMem v).tables = s.tables := id rfl
@[simp] theorem State.putMem_lookups (v) : (s.putMem v).lookups = s.lookups := id rfl
@[simp] theorem State.putMem_bags (v) : (s.putMem v).bags = s.bags := id rfl
@[simp] theorem State.putMem_vocabs (v) : (s.putMem v).vocabs = s.vocabs := id rfl
@[simp] theorem State.putMem_streams (v) : (s.putMem v).streams = s.streams := id rfl
@[simp] theorem State.putMem_tasks (v) : (s.putMem v).tasks = s.tasks := id rfl
@[simp] theorem State.putMem_trees (v) : (s.putMem v).trees = s.trees := id rfl
@[simp] theorem State.putMem_probes (v) : (s.putMem v).probes = s.probes := id rfl
@[simp] theorem State.putMem_pools (v) : (s.putMem v).pools = s.pools := id rfl
@[simp] theorem State.putMem_gens (v) : (s.putMem v).gens = s.gens := id rfl
@[simp] theorem State.putMem_retrieves (v) : (s.putMem v).retrieves = s.retrieves := id rfl
@[simp] theorem State.putMem_fab (v) : (s.putMem v).fab = s.fab := id rfl
@[simp] theorem State.putMem_power (v) : (s.putMem v).power = s.power := id rfl
@[simp] theorem State.putMem_health (v) : (s.putMem v).health = s.health := id rfl
@[simp] theorem State.putMem_nor (v) : (s.putMem v).nor = s.nor := id rfl
@[simp] theorem State.putMem_boot (v) : (s.putMem v).boot = s.boot := id rfl
@[simp] theorem State.putMem_sec (v) : (s.putMem v).sec = s.sec := id rfl
@[simp] theorem State.putMem_upd (v) : (s.putMem v).upd = s.upd := id rfl
@[simp] theorem State.putMem_board (v) : (s.putMem v).board = s.board := id rfl
@[simp] theorem State.putFlash_pending (v) : (s.putFlash v).pending = s.pending := id rfl
@[simp] theorem State.putFlash_freeCtr (v) : (s.putFlash v).freeCtr = s.freeCtr := id rfl
@[simp] theorem State.putFlash_now (v) : (s.putFlash v).now = s.now := id rfl
@[simp] theorem State.putFlash_regs (v) : (s.putFlash v).regs = s.regs := id rfl
@[simp] theorem State.putFlash_host (v) : (s.putFlash v).host = s.host := id rfl
@[simp] theorem State.putFlash_mbx (v) : (s.putFlash v).mbx = s.mbx := id rfl
@[simp] theorem State.putFlash_accts (v) : (s.putFlash v).accts = s.accts := id rfl
@[simp] theorem State.putFlash_snaps (v) : (s.putFlash v).snaps = s.snaps := id rfl
@[simp] theorem State.putFlash_faults (v) : (s.putFlash v).faults = s.faults := id rfl
@[simp] theorem State.putFlash_mem (v) : (s.putFlash v).mem = s.mem := id rfl
@[simp] theorem State.putFlash_flash (v) : (s.putFlash v).flash = v := id rfl
@[simp] theorem State.putFlash_clusters (v) : (s.putFlash v).clusters = s.clusters := id rfl
@[simp] theorem State.putFlash_pkg (v) : (s.putFlash v).pkg = s.pkg := id rfl
@[simp] theorem State.putFlash_parts (v) : (s.putFlash v).parts = s.parts := id rfl
@[simp] theorem State.putFlash_objs (v) : (s.putFlash v).objs = s.objs := id rfl
@[simp] theorem State.putFlash_weights (v) : (s.putFlash v).weights = s.weights := id rfl
@[simp] theorem State.putFlash_adapters (v) : (s.putFlash v).adapters = s.adapters := id rfl
@[simp] theorem State.putFlash_shards (v) : (s.putFlash v).shards = s.shards := id rfl
@[simp] theorem State.putFlash_searches (v) : (s.putFlash v).searches = s.searches := id rfl
@[simp] theorem State.putFlash_walks (v) : (s.putFlash v).walks = s.walks := id rfl
@[simp] theorem State.putFlash_walkOrder (v) : (s.putFlash v).walkOrder = s.walkOrder := id rfl
@[simp] theorem State.putFlash_tables (v) : (s.putFlash v).tables = s.tables := id rfl
@[simp] theorem State.putFlash_lookups (v) : (s.putFlash v).lookups = s.lookups := id rfl
@[simp] theorem State.putFlash_bags (v) : (s.putFlash v).bags = s.bags := id rfl
@[simp] theorem State.putFlash_vocabs (v) : (s.putFlash v).vocabs = s.vocabs := id rfl
@[simp] theorem State.putFlash_streams (v) : (s.putFlash v).streams = s.streams := id rfl
@[simp] theorem State.putFlash_tasks (v) : (s.putFlash v).tasks = s.tasks := id rfl
@[simp] theorem State.putFlash_trees (v) : (s.putFlash v).trees = s.trees := id rfl
@[simp] theorem State.putFlash_probes (v) : (s.putFlash v).probes = s.probes := id rfl
@[simp] theorem State.putFlash_pools (v) : (s.putFlash v).pools = s.pools := id rfl
@[simp] theorem State.putFlash_gens (v) : (s.putFlash v).gens = s.gens := id rfl
@[simp] theorem State.putFlash_retrieves (v) : (s.putFlash v).retrieves = s.retrieves := id rfl
@[simp] theorem State.putFlash_fab (v) : (s.putFlash v).fab = s.fab := id rfl
@[simp] theorem State.putFlash_power (v) : (s.putFlash v).power = s.power := id rfl
@[simp] theorem State.putFlash_health (v) : (s.putFlash v).health = s.health := id rfl
@[simp] theorem State.putFlash_nor (v) : (s.putFlash v).nor = s.nor := id rfl
@[simp] theorem State.putFlash_boot (v) : (s.putFlash v).boot = s.boot := id rfl
@[simp] theorem State.putFlash_sec (v) : (s.putFlash v).sec = s.sec := id rfl
@[simp] theorem State.putFlash_upd (v) : (s.putFlash v).upd = s.upd := id rfl
@[simp] theorem State.putFlash_board (v) : (s.putFlash v).board = s.board := id rfl
@[simp] theorem State.putClusters_pending (v) : (s.putClusters v).pending = s.pending := id rfl
@[simp] theorem State.putClusters_freeCtr (v) : (s.putClusters v).freeCtr = s.freeCtr := id rfl
@[simp] theorem State.putClusters_now (v) : (s.putClusters v).now = s.now := id rfl
@[simp] theorem State.putClusters_regs (v) : (s.putClusters v).regs = s.regs := id rfl
@[simp] theorem State.putClusters_host (v) : (s.putClusters v).host = s.host := id rfl
@[simp] theorem State.putClusters_mbx (v) : (s.putClusters v).mbx = s.mbx := id rfl
@[simp] theorem State.putClusters_accts (v) : (s.putClusters v).accts = s.accts := id rfl
@[simp] theorem State.putClusters_snaps (v) : (s.putClusters v).snaps = s.snaps := id rfl
@[simp] theorem State.putClusters_faults (v) : (s.putClusters v).faults = s.faults := id rfl
@[simp] theorem State.putClusters_mem (v) : (s.putClusters v).mem = s.mem := id rfl
@[simp] theorem State.putClusters_flash (v) : (s.putClusters v).flash = s.flash := id rfl
@[simp] theorem State.putClusters_clusters (v) : (s.putClusters v).clusters = v := id rfl
@[simp] theorem State.putClusters_pkg (v) : (s.putClusters v).pkg = s.pkg := id rfl
@[simp] theorem State.putClusters_parts (v) : (s.putClusters v).parts = s.parts := id rfl
@[simp] theorem State.putClusters_objs (v) : (s.putClusters v).objs = s.objs := id rfl
@[simp] theorem State.putClusters_weights (v) : (s.putClusters v).weights = s.weights := id rfl
@[simp] theorem State.putClusters_adapters (v) : (s.putClusters v).adapters = s.adapters := id rfl
@[simp] theorem State.putClusters_shards (v) : (s.putClusters v).shards = s.shards := id rfl
@[simp] theorem State.putClusters_searches (v) : (s.putClusters v).searches = s.searches := id rfl
@[simp] theorem State.putClusters_walks (v) : (s.putClusters v).walks = s.walks := id rfl
@[simp] theorem State.putClusters_walkOrder (v) : (s.putClusters v).walkOrder = s.walkOrder := id rfl
@[simp] theorem State.putClusters_tables (v) : (s.putClusters v).tables = s.tables := id rfl
@[simp] theorem State.putClusters_lookups (v) : (s.putClusters v).lookups = s.lookups := id rfl
@[simp] theorem State.putClusters_bags (v) : (s.putClusters v).bags = s.bags := id rfl
@[simp] theorem State.putClusters_vocabs (v) : (s.putClusters v).vocabs = s.vocabs := id rfl
@[simp] theorem State.putClusters_streams (v) : (s.putClusters v).streams = s.streams := id rfl
@[simp] theorem State.putClusters_tasks (v) : (s.putClusters v).tasks = s.tasks := id rfl
@[simp] theorem State.putClusters_trees (v) : (s.putClusters v).trees = s.trees := id rfl
@[simp] theorem State.putClusters_probes (v) : (s.putClusters v).probes = s.probes := id rfl
@[simp] theorem State.putClusters_pools (v) : (s.putClusters v).pools = s.pools := id rfl
@[simp] theorem State.putClusters_gens (v) : (s.putClusters v).gens = s.gens := id rfl
@[simp] theorem State.putClusters_retrieves (v) : (s.putClusters v).retrieves = s.retrieves := id rfl
@[simp] theorem State.putClusters_fab (v) : (s.putClusters v).fab = s.fab := id rfl
@[simp] theorem State.putClusters_power (v) : (s.putClusters v).power = s.power := id rfl
@[simp] theorem State.putClusters_health (v) : (s.putClusters v).health = s.health := id rfl
@[simp] theorem State.putClusters_nor (v) : (s.putClusters v).nor = s.nor := id rfl
@[simp] theorem State.putClusters_boot (v) : (s.putClusters v).boot = s.boot := id rfl
@[simp] theorem State.putClusters_sec (v) : (s.putClusters v).sec = s.sec := id rfl
@[simp] theorem State.putClusters_upd (v) : (s.putClusters v).upd = s.upd := id rfl
@[simp] theorem State.putClusters_board (v) : (s.putClusters v).board = s.board := id rfl
@[simp] theorem State.putPkg_pending (v) : (s.putPkg v).pending = s.pending := id rfl
@[simp] theorem State.putPkg_freeCtr (v) : (s.putPkg v).freeCtr = s.freeCtr := id rfl
@[simp] theorem State.putPkg_now (v) : (s.putPkg v).now = s.now := id rfl
@[simp] theorem State.putPkg_regs (v) : (s.putPkg v).regs = s.regs := id rfl
@[simp] theorem State.putPkg_host (v) : (s.putPkg v).host = s.host := id rfl
@[simp] theorem State.putPkg_mbx (v) : (s.putPkg v).mbx = s.mbx := id rfl
@[simp] theorem State.putPkg_accts (v) : (s.putPkg v).accts = s.accts := id rfl
@[simp] theorem State.putPkg_snaps (v) : (s.putPkg v).snaps = s.snaps := id rfl
@[simp] theorem State.putPkg_faults (v) : (s.putPkg v).faults = s.faults := id rfl
@[simp] theorem State.putPkg_mem (v) : (s.putPkg v).mem = s.mem := id rfl
@[simp] theorem State.putPkg_flash (v) : (s.putPkg v).flash = s.flash := id rfl
@[simp] theorem State.putPkg_clusters (v) : (s.putPkg v).clusters = s.clusters := id rfl
@[simp] theorem State.putPkg_pkg (v) : (s.putPkg v).pkg = v := id rfl
@[simp] theorem State.putPkg_parts (v) : (s.putPkg v).parts = s.parts := id rfl
@[simp] theorem State.putPkg_objs (v) : (s.putPkg v).objs = s.objs := id rfl
@[simp] theorem State.putPkg_weights (v) : (s.putPkg v).weights = s.weights := id rfl
@[simp] theorem State.putPkg_adapters (v) : (s.putPkg v).adapters = s.adapters := id rfl
@[simp] theorem State.putPkg_shards (v) : (s.putPkg v).shards = s.shards := id rfl
@[simp] theorem State.putPkg_searches (v) : (s.putPkg v).searches = s.searches := id rfl
@[simp] theorem State.putPkg_walks (v) : (s.putPkg v).walks = s.walks := id rfl
@[simp] theorem State.putPkg_walkOrder (v) : (s.putPkg v).walkOrder = s.walkOrder := id rfl
@[simp] theorem State.putPkg_tables (v) : (s.putPkg v).tables = s.tables := id rfl
@[simp] theorem State.putPkg_lookups (v) : (s.putPkg v).lookups = s.lookups := id rfl
@[simp] theorem State.putPkg_bags (v) : (s.putPkg v).bags = s.bags := id rfl
@[simp] theorem State.putPkg_vocabs (v) : (s.putPkg v).vocabs = s.vocabs := id rfl
@[simp] theorem State.putPkg_streams (v) : (s.putPkg v).streams = s.streams := id rfl
@[simp] theorem State.putPkg_tasks (v) : (s.putPkg v).tasks = s.tasks := id rfl
@[simp] theorem State.putPkg_trees (v) : (s.putPkg v).trees = s.trees := id rfl
@[simp] theorem State.putPkg_probes (v) : (s.putPkg v).probes = s.probes := id rfl
@[simp] theorem State.putPkg_pools (v) : (s.putPkg v).pools = s.pools := id rfl
@[simp] theorem State.putPkg_gens (v) : (s.putPkg v).gens = s.gens := id rfl
@[simp] theorem State.putPkg_retrieves (v) : (s.putPkg v).retrieves = s.retrieves := id rfl
@[simp] theorem State.putPkg_fab (v) : (s.putPkg v).fab = s.fab := id rfl
@[simp] theorem State.putPkg_power (v) : (s.putPkg v).power = s.power := id rfl
@[simp] theorem State.putPkg_health (v) : (s.putPkg v).health = s.health := id rfl
@[simp] theorem State.putPkg_nor (v) : (s.putPkg v).nor = s.nor := id rfl
@[simp] theorem State.putPkg_boot (v) : (s.putPkg v).boot = s.boot := id rfl
@[simp] theorem State.putPkg_sec (v) : (s.putPkg v).sec = s.sec := id rfl
@[simp] theorem State.putPkg_upd (v) : (s.putPkg v).upd = s.upd := id rfl
@[simp] theorem State.putPkg_board (v) : (s.putPkg v).board = s.board := id rfl
@[simp] theorem State.putParts_pending (v) : (s.putParts v).pending = s.pending := id rfl
@[simp] theorem State.putParts_freeCtr (v) : (s.putParts v).freeCtr = s.freeCtr := id rfl
@[simp] theorem State.putParts_now (v) : (s.putParts v).now = s.now := id rfl
@[simp] theorem State.putParts_regs (v) : (s.putParts v).regs = s.regs := id rfl
@[simp] theorem State.putParts_host (v) : (s.putParts v).host = s.host := id rfl
@[simp] theorem State.putParts_mbx (v) : (s.putParts v).mbx = s.mbx := id rfl
@[simp] theorem State.putParts_accts (v) : (s.putParts v).accts = s.accts := id rfl
@[simp] theorem State.putParts_snaps (v) : (s.putParts v).snaps = s.snaps := id rfl
@[simp] theorem State.putParts_faults (v) : (s.putParts v).faults = s.faults := id rfl
@[simp] theorem State.putParts_mem (v) : (s.putParts v).mem = s.mem := id rfl
@[simp] theorem State.putParts_flash (v) : (s.putParts v).flash = s.flash := id rfl
@[simp] theorem State.putParts_clusters (v) : (s.putParts v).clusters = s.clusters := id rfl
@[simp] theorem State.putParts_pkg (v) : (s.putParts v).pkg = s.pkg := id rfl
@[simp] theorem State.putParts_parts (v) : (s.putParts v).parts = v := id rfl
@[simp] theorem State.putParts_objs (v) : (s.putParts v).objs = s.objs := id rfl
@[simp] theorem State.putParts_weights (v) : (s.putParts v).weights = s.weights := id rfl
@[simp] theorem State.putParts_adapters (v) : (s.putParts v).adapters = s.adapters := id rfl
@[simp] theorem State.putParts_shards (v) : (s.putParts v).shards = s.shards := id rfl
@[simp] theorem State.putParts_searches (v) : (s.putParts v).searches = s.searches := id rfl
@[simp] theorem State.putParts_walks (v) : (s.putParts v).walks = s.walks := id rfl
@[simp] theorem State.putParts_walkOrder (v) : (s.putParts v).walkOrder = s.walkOrder := id rfl
@[simp] theorem State.putParts_tables (v) : (s.putParts v).tables = s.tables := id rfl
@[simp] theorem State.putParts_lookups (v) : (s.putParts v).lookups = s.lookups := id rfl
@[simp] theorem State.putParts_bags (v) : (s.putParts v).bags = s.bags := id rfl
@[simp] theorem State.putParts_vocabs (v) : (s.putParts v).vocabs = s.vocabs := id rfl
@[simp] theorem State.putParts_streams (v) : (s.putParts v).streams = s.streams := id rfl
@[simp] theorem State.putParts_tasks (v) : (s.putParts v).tasks = s.tasks := id rfl
@[simp] theorem State.putParts_trees (v) : (s.putParts v).trees = s.trees := id rfl
@[simp] theorem State.putParts_probes (v) : (s.putParts v).probes = s.probes := id rfl
@[simp] theorem State.putParts_pools (v) : (s.putParts v).pools = s.pools := id rfl
@[simp] theorem State.putParts_gens (v) : (s.putParts v).gens = s.gens := id rfl
@[simp] theorem State.putParts_retrieves (v) : (s.putParts v).retrieves = s.retrieves := id rfl
@[simp] theorem State.putParts_fab (v) : (s.putParts v).fab = s.fab := id rfl
@[simp] theorem State.putParts_power (v) : (s.putParts v).power = s.power := id rfl
@[simp] theorem State.putParts_health (v) : (s.putParts v).health = s.health := id rfl
@[simp] theorem State.putParts_nor (v) : (s.putParts v).nor = s.nor := id rfl
@[simp] theorem State.putParts_boot (v) : (s.putParts v).boot = s.boot := id rfl
@[simp] theorem State.putParts_sec (v) : (s.putParts v).sec = s.sec := id rfl
@[simp] theorem State.putParts_upd (v) : (s.putParts v).upd = s.upd := id rfl
@[simp] theorem State.putParts_board (v) : (s.putParts v).board = s.board := id rfl
@[simp] theorem State.putObjs_pending (v) : (s.putObjs v).pending = s.pending := id rfl
@[simp] theorem State.putObjs_freeCtr (v) : (s.putObjs v).freeCtr = s.freeCtr := id rfl
@[simp] theorem State.putObjs_now (v) : (s.putObjs v).now = s.now := id rfl
@[simp] theorem State.putObjs_regs (v) : (s.putObjs v).regs = s.regs := id rfl
@[simp] theorem State.putObjs_host (v) : (s.putObjs v).host = s.host := id rfl
@[simp] theorem State.putObjs_mbx (v) : (s.putObjs v).mbx = s.mbx := id rfl
@[simp] theorem State.putObjs_accts (v) : (s.putObjs v).accts = s.accts := id rfl
@[simp] theorem State.putObjs_snaps (v) : (s.putObjs v).snaps = s.snaps := id rfl
@[simp] theorem State.putObjs_faults (v) : (s.putObjs v).faults = s.faults := id rfl
@[simp] theorem State.putObjs_mem (v) : (s.putObjs v).mem = s.mem := id rfl
@[simp] theorem State.putObjs_flash (v) : (s.putObjs v).flash = s.flash := id rfl
@[simp] theorem State.putObjs_clusters (v) : (s.putObjs v).clusters = s.clusters := id rfl
@[simp] theorem State.putObjs_pkg (v) : (s.putObjs v).pkg = s.pkg := id rfl
@[simp] theorem State.putObjs_parts (v) : (s.putObjs v).parts = s.parts := id rfl
@[simp] theorem State.putObjs_objs (v) : (s.putObjs v).objs = v := id rfl
@[simp] theorem State.putObjs_weights (v) : (s.putObjs v).weights = s.weights := id rfl
@[simp] theorem State.putObjs_adapters (v) : (s.putObjs v).adapters = s.adapters := id rfl
@[simp] theorem State.putObjs_shards (v) : (s.putObjs v).shards = s.shards := id rfl
@[simp] theorem State.putObjs_searches (v) : (s.putObjs v).searches = s.searches := id rfl
@[simp] theorem State.putObjs_walks (v) : (s.putObjs v).walks = s.walks := id rfl
@[simp] theorem State.putObjs_walkOrder (v) : (s.putObjs v).walkOrder = s.walkOrder := id rfl
@[simp] theorem State.putObjs_tables (v) : (s.putObjs v).tables = s.tables := id rfl
@[simp] theorem State.putObjs_lookups (v) : (s.putObjs v).lookups = s.lookups := id rfl
@[simp] theorem State.putObjs_bags (v) : (s.putObjs v).bags = s.bags := id rfl
@[simp] theorem State.putObjs_vocabs (v) : (s.putObjs v).vocabs = s.vocabs := id rfl
@[simp] theorem State.putObjs_streams (v) : (s.putObjs v).streams = s.streams := id rfl
@[simp] theorem State.putObjs_tasks (v) : (s.putObjs v).tasks = s.tasks := id rfl
@[simp] theorem State.putObjs_trees (v) : (s.putObjs v).trees = s.trees := id rfl
@[simp] theorem State.putObjs_probes (v) : (s.putObjs v).probes = s.probes := id rfl
@[simp] theorem State.putObjs_pools (v) : (s.putObjs v).pools = s.pools := id rfl
@[simp] theorem State.putObjs_gens (v) : (s.putObjs v).gens = s.gens := id rfl
@[simp] theorem State.putObjs_retrieves (v) : (s.putObjs v).retrieves = s.retrieves := id rfl
@[simp] theorem State.putObjs_fab (v) : (s.putObjs v).fab = s.fab := id rfl
@[simp] theorem State.putObjs_power (v) : (s.putObjs v).power = s.power := id rfl
@[simp] theorem State.putObjs_health (v) : (s.putObjs v).health = s.health := id rfl
@[simp] theorem State.putObjs_nor (v) : (s.putObjs v).nor = s.nor := id rfl
@[simp] theorem State.putObjs_boot (v) : (s.putObjs v).boot = s.boot := id rfl
@[simp] theorem State.putObjs_sec (v) : (s.putObjs v).sec = s.sec := id rfl
@[simp] theorem State.putObjs_upd (v) : (s.putObjs v).upd = s.upd := id rfl
@[simp] theorem State.putObjs_board (v) : (s.putObjs v).board = s.board := id rfl
@[simp] theorem State.putWeights_pending (v) : (s.putWeights v).pending = s.pending := id rfl
@[simp] theorem State.putWeights_freeCtr (v) : (s.putWeights v).freeCtr = s.freeCtr := id rfl
@[simp] theorem State.putWeights_now (v) : (s.putWeights v).now = s.now := id rfl
@[simp] theorem State.putWeights_regs (v) : (s.putWeights v).regs = s.regs := id rfl
@[simp] theorem State.putWeights_host (v) : (s.putWeights v).host = s.host := id rfl
@[simp] theorem State.putWeights_mbx (v) : (s.putWeights v).mbx = s.mbx := id rfl
@[simp] theorem State.putWeights_accts (v) : (s.putWeights v).accts = s.accts := id rfl
@[simp] theorem State.putWeights_snaps (v) : (s.putWeights v).snaps = s.snaps := id rfl
@[simp] theorem State.putWeights_faults (v) : (s.putWeights v).faults = s.faults := id rfl
@[simp] theorem State.putWeights_mem (v) : (s.putWeights v).mem = s.mem := id rfl
@[simp] theorem State.putWeights_flash (v) : (s.putWeights v).flash = s.flash := id rfl
@[simp] theorem State.putWeights_clusters (v) : (s.putWeights v).clusters = s.clusters := id rfl
@[simp] theorem State.putWeights_pkg (v) : (s.putWeights v).pkg = s.pkg := id rfl
@[simp] theorem State.putWeights_parts (v) : (s.putWeights v).parts = s.parts := id rfl
@[simp] theorem State.putWeights_objs (v) : (s.putWeights v).objs = s.objs := id rfl
@[simp] theorem State.putWeights_weights (v) : (s.putWeights v).weights = v := id rfl
@[simp] theorem State.putWeights_adapters (v) : (s.putWeights v).adapters = s.adapters := id rfl
@[simp] theorem State.putWeights_shards (v) : (s.putWeights v).shards = s.shards := id rfl
@[simp] theorem State.putWeights_searches (v) : (s.putWeights v).searches = s.searches := id rfl
@[simp] theorem State.putWeights_walks (v) : (s.putWeights v).walks = s.walks := id rfl
@[simp] theorem State.putWeights_walkOrder (v) : (s.putWeights v).walkOrder = s.walkOrder := id rfl
@[simp] theorem State.putWeights_tables (v) : (s.putWeights v).tables = s.tables := id rfl
@[simp] theorem State.putWeights_lookups (v) : (s.putWeights v).lookups = s.lookups := id rfl
@[simp] theorem State.putWeights_bags (v) : (s.putWeights v).bags = s.bags := id rfl
@[simp] theorem State.putWeights_vocabs (v) : (s.putWeights v).vocabs = s.vocabs := id rfl
@[simp] theorem State.putWeights_streams (v) : (s.putWeights v).streams = s.streams := id rfl
@[simp] theorem State.putWeights_tasks (v) : (s.putWeights v).tasks = s.tasks := id rfl
@[simp] theorem State.putWeights_trees (v) : (s.putWeights v).trees = s.trees := id rfl
@[simp] theorem State.putWeights_probes (v) : (s.putWeights v).probes = s.probes := id rfl
@[simp] theorem State.putWeights_pools (v) : (s.putWeights v).pools = s.pools := id rfl
@[simp] theorem State.putWeights_gens (v) : (s.putWeights v).gens = s.gens := id rfl
@[simp] theorem State.putWeights_retrieves (v) : (s.putWeights v).retrieves = s.retrieves := id rfl
@[simp] theorem State.putWeights_fab (v) : (s.putWeights v).fab = s.fab := id rfl
@[simp] theorem State.putWeights_power (v) : (s.putWeights v).power = s.power := id rfl
@[simp] theorem State.putWeights_health (v) : (s.putWeights v).health = s.health := id rfl
@[simp] theorem State.putWeights_nor (v) : (s.putWeights v).nor = s.nor := id rfl
@[simp] theorem State.putWeights_boot (v) : (s.putWeights v).boot = s.boot := id rfl
@[simp] theorem State.putWeights_sec (v) : (s.putWeights v).sec = s.sec := id rfl
@[simp] theorem State.putWeights_upd (v) : (s.putWeights v).upd = s.upd := id rfl
@[simp] theorem State.putWeights_board (v) : (s.putWeights v).board = s.board := id rfl
@[simp] theorem State.putAdapters_pending (v) : (s.putAdapters v).pending = s.pending := id rfl
@[simp] theorem State.putAdapters_freeCtr (v) : (s.putAdapters v).freeCtr = s.freeCtr := id rfl
@[simp] theorem State.putAdapters_now (v) : (s.putAdapters v).now = s.now := id rfl
@[simp] theorem State.putAdapters_regs (v) : (s.putAdapters v).regs = s.regs := id rfl
@[simp] theorem State.putAdapters_host (v) : (s.putAdapters v).host = s.host := id rfl
@[simp] theorem State.putAdapters_mbx (v) : (s.putAdapters v).mbx = s.mbx := id rfl
@[simp] theorem State.putAdapters_accts (v) : (s.putAdapters v).accts = s.accts := id rfl
@[simp] theorem State.putAdapters_snaps (v) : (s.putAdapters v).snaps = s.snaps := id rfl
@[simp] theorem State.putAdapters_faults (v) : (s.putAdapters v).faults = s.faults := id rfl
@[simp] theorem State.putAdapters_mem (v) : (s.putAdapters v).mem = s.mem := id rfl
@[simp] theorem State.putAdapters_flash (v) : (s.putAdapters v).flash = s.flash := id rfl
@[simp] theorem State.putAdapters_clusters (v) : (s.putAdapters v).clusters = s.clusters := id rfl
@[simp] theorem State.putAdapters_pkg (v) : (s.putAdapters v).pkg = s.pkg := id rfl
@[simp] theorem State.putAdapters_parts (v) : (s.putAdapters v).parts = s.parts := id rfl
@[simp] theorem State.putAdapters_objs (v) : (s.putAdapters v).objs = s.objs := id rfl
@[simp] theorem State.putAdapters_weights (v) : (s.putAdapters v).weights = s.weights := id rfl
@[simp] theorem State.putAdapters_adapters (v) : (s.putAdapters v).adapters = v := id rfl
@[simp] theorem State.putAdapters_shards (v) : (s.putAdapters v).shards = s.shards := id rfl
@[simp] theorem State.putAdapters_searches (v) : (s.putAdapters v).searches = s.searches := id rfl
@[simp] theorem State.putAdapters_walks (v) : (s.putAdapters v).walks = s.walks := id rfl
@[simp] theorem State.putAdapters_walkOrder (v) : (s.putAdapters v).walkOrder = s.walkOrder := id rfl
@[simp] theorem State.putAdapters_tables (v) : (s.putAdapters v).tables = s.tables := id rfl
@[simp] theorem State.putAdapters_lookups (v) : (s.putAdapters v).lookups = s.lookups := id rfl
@[simp] theorem State.putAdapters_bags (v) : (s.putAdapters v).bags = s.bags := id rfl
@[simp] theorem State.putAdapters_vocabs (v) : (s.putAdapters v).vocabs = s.vocabs := id rfl
@[simp] theorem State.putAdapters_streams (v) : (s.putAdapters v).streams = s.streams := id rfl
@[simp] theorem State.putAdapters_tasks (v) : (s.putAdapters v).tasks = s.tasks := id rfl
@[simp] theorem State.putAdapters_trees (v) : (s.putAdapters v).trees = s.trees := id rfl
@[simp] theorem State.putAdapters_probes (v) : (s.putAdapters v).probes = s.probes := id rfl
@[simp] theorem State.putAdapters_pools (v) : (s.putAdapters v).pools = s.pools := id rfl
@[simp] theorem State.putAdapters_gens (v) : (s.putAdapters v).gens = s.gens := id rfl
@[simp] theorem State.putAdapters_retrieves (v) : (s.putAdapters v).retrieves = s.retrieves := id rfl
@[simp] theorem State.putAdapters_fab (v) : (s.putAdapters v).fab = s.fab := id rfl
@[simp] theorem State.putAdapters_power (v) : (s.putAdapters v).power = s.power := id rfl
@[simp] theorem State.putAdapters_health (v) : (s.putAdapters v).health = s.health := id rfl
@[simp] theorem State.putAdapters_nor (v) : (s.putAdapters v).nor = s.nor := id rfl
@[simp] theorem State.putAdapters_boot (v) : (s.putAdapters v).boot = s.boot := id rfl
@[simp] theorem State.putAdapters_sec (v) : (s.putAdapters v).sec = s.sec := id rfl
@[simp] theorem State.putAdapters_upd (v) : (s.putAdapters v).upd = s.upd := id rfl
@[simp] theorem State.putAdapters_board (v) : (s.putAdapters v).board = s.board := id rfl
@[simp] theorem State.putShards_pending (v) : (s.putShards v).pending = s.pending := id rfl
@[simp] theorem State.putShards_freeCtr (v) : (s.putShards v).freeCtr = s.freeCtr := id rfl
@[simp] theorem State.putShards_now (v) : (s.putShards v).now = s.now := id rfl
@[simp] theorem State.putShards_regs (v) : (s.putShards v).regs = s.regs := id rfl
@[simp] theorem State.putShards_host (v) : (s.putShards v).host = s.host := id rfl
@[simp] theorem State.putShards_mbx (v) : (s.putShards v).mbx = s.mbx := id rfl
@[simp] theorem State.putShards_accts (v) : (s.putShards v).accts = s.accts := id rfl
@[simp] theorem State.putShards_snaps (v) : (s.putShards v).snaps = s.snaps := id rfl
@[simp] theorem State.putShards_faults (v) : (s.putShards v).faults = s.faults := id rfl
@[simp] theorem State.putShards_mem (v) : (s.putShards v).mem = s.mem := id rfl
@[simp] theorem State.putShards_flash (v) : (s.putShards v).flash = s.flash := id rfl
@[simp] theorem State.putShards_clusters (v) : (s.putShards v).clusters = s.clusters := id rfl
@[simp] theorem State.putShards_pkg (v) : (s.putShards v).pkg = s.pkg := id rfl
@[simp] theorem State.putShards_parts (v) : (s.putShards v).parts = s.parts := id rfl
@[simp] theorem State.putShards_objs (v) : (s.putShards v).objs = s.objs := id rfl
@[simp] theorem State.putShards_weights (v) : (s.putShards v).weights = s.weights := id rfl
@[simp] theorem State.putShards_adapters (v) : (s.putShards v).adapters = s.adapters := id rfl
@[simp] theorem State.putShards_shards (v) : (s.putShards v).shards = v := id rfl
@[simp] theorem State.putShards_searches (v) : (s.putShards v).searches = s.searches := id rfl
@[simp] theorem State.putShards_walks (v) : (s.putShards v).walks = s.walks := id rfl
@[simp] theorem State.putShards_walkOrder (v) : (s.putShards v).walkOrder = s.walkOrder := id rfl
@[simp] theorem State.putShards_tables (v) : (s.putShards v).tables = s.tables := id rfl
@[simp] theorem State.putShards_lookups (v) : (s.putShards v).lookups = s.lookups := id rfl
@[simp] theorem State.putShards_bags (v) : (s.putShards v).bags = s.bags := id rfl
@[simp] theorem State.putShards_vocabs (v) : (s.putShards v).vocabs = s.vocabs := id rfl
@[simp] theorem State.putShards_streams (v) : (s.putShards v).streams = s.streams := id rfl
@[simp] theorem State.putShards_tasks (v) : (s.putShards v).tasks = s.tasks := id rfl
@[simp] theorem State.putShards_trees (v) : (s.putShards v).trees = s.trees := id rfl
@[simp] theorem State.putShards_probes (v) : (s.putShards v).probes = s.probes := id rfl
@[simp] theorem State.putShards_pools (v) : (s.putShards v).pools = s.pools := id rfl
@[simp] theorem State.putShards_gens (v) : (s.putShards v).gens = s.gens := id rfl
@[simp] theorem State.putShards_retrieves (v) : (s.putShards v).retrieves = s.retrieves := id rfl
@[simp] theorem State.putShards_fab (v) : (s.putShards v).fab = s.fab := id rfl
@[simp] theorem State.putShards_power (v) : (s.putShards v).power = s.power := id rfl
@[simp] theorem State.putShards_health (v) : (s.putShards v).health = s.health := id rfl
@[simp] theorem State.putShards_nor (v) : (s.putShards v).nor = s.nor := id rfl
@[simp] theorem State.putShards_boot (v) : (s.putShards v).boot = s.boot := id rfl
@[simp] theorem State.putShards_sec (v) : (s.putShards v).sec = s.sec := id rfl
@[simp] theorem State.putShards_upd (v) : (s.putShards v).upd = s.upd := id rfl
@[simp] theorem State.putShards_board (v) : (s.putShards v).board = s.board := id rfl
@[simp] theorem State.putSearches_pending (v) : (s.putSearches v).pending = s.pending := id rfl
@[simp] theorem State.putSearches_freeCtr (v) : (s.putSearches v).freeCtr = s.freeCtr := id rfl
@[simp] theorem State.putSearches_now (v) : (s.putSearches v).now = s.now := id rfl
@[simp] theorem State.putSearches_regs (v) : (s.putSearches v).regs = s.regs := id rfl
@[simp] theorem State.putSearches_host (v) : (s.putSearches v).host = s.host := id rfl
@[simp] theorem State.putSearches_mbx (v) : (s.putSearches v).mbx = s.mbx := id rfl
@[simp] theorem State.putSearches_accts (v) : (s.putSearches v).accts = s.accts := id rfl
@[simp] theorem State.putSearches_snaps (v) : (s.putSearches v).snaps = s.snaps := id rfl
@[simp] theorem State.putSearches_faults (v) : (s.putSearches v).faults = s.faults := id rfl
@[simp] theorem State.putSearches_mem (v) : (s.putSearches v).mem = s.mem := id rfl
@[simp] theorem State.putSearches_flash (v) : (s.putSearches v).flash = s.flash := id rfl
@[simp] theorem State.putSearches_clusters (v) : (s.putSearches v).clusters = s.clusters := id rfl
@[simp] theorem State.putSearches_pkg (v) : (s.putSearches v).pkg = s.pkg := id rfl
@[simp] theorem State.putSearches_parts (v) : (s.putSearches v).parts = s.parts := id rfl
@[simp] theorem State.putSearches_objs (v) : (s.putSearches v).objs = s.objs := id rfl
@[simp] theorem State.putSearches_weights (v) : (s.putSearches v).weights = s.weights := id rfl
@[simp] theorem State.putSearches_adapters (v) : (s.putSearches v).adapters = s.adapters := id rfl
@[simp] theorem State.putSearches_shards (v) : (s.putSearches v).shards = s.shards := id rfl
@[simp] theorem State.putSearches_searches (v) : (s.putSearches v).searches = v := id rfl
@[simp] theorem State.putSearches_walks (v) : (s.putSearches v).walks = s.walks := id rfl
@[simp] theorem State.putSearches_walkOrder (v) : (s.putSearches v).walkOrder = s.walkOrder := id rfl
@[simp] theorem State.putSearches_tables (v) : (s.putSearches v).tables = s.tables := id rfl
@[simp] theorem State.putSearches_lookups (v) : (s.putSearches v).lookups = s.lookups := id rfl
@[simp] theorem State.putSearches_bags (v) : (s.putSearches v).bags = s.bags := id rfl
@[simp] theorem State.putSearches_vocabs (v) : (s.putSearches v).vocabs = s.vocabs := id rfl
@[simp] theorem State.putSearches_streams (v) : (s.putSearches v).streams = s.streams := id rfl
@[simp] theorem State.putSearches_tasks (v) : (s.putSearches v).tasks = s.tasks := id rfl
@[simp] theorem State.putSearches_trees (v) : (s.putSearches v).trees = s.trees := id rfl
@[simp] theorem State.putSearches_probes (v) : (s.putSearches v).probes = s.probes := id rfl
@[simp] theorem State.putSearches_pools (v) : (s.putSearches v).pools = s.pools := id rfl
@[simp] theorem State.putSearches_gens (v) : (s.putSearches v).gens = s.gens := id rfl
@[simp] theorem State.putSearches_retrieves (v) : (s.putSearches v).retrieves = s.retrieves := id rfl
@[simp] theorem State.putSearches_fab (v) : (s.putSearches v).fab = s.fab := id rfl
@[simp] theorem State.putSearches_power (v) : (s.putSearches v).power = s.power := id rfl
@[simp] theorem State.putSearches_health (v) : (s.putSearches v).health = s.health := id rfl
@[simp] theorem State.putSearches_nor (v) : (s.putSearches v).nor = s.nor := id rfl
@[simp] theorem State.putSearches_boot (v) : (s.putSearches v).boot = s.boot := id rfl
@[simp] theorem State.putSearches_sec (v) : (s.putSearches v).sec = s.sec := id rfl
@[simp] theorem State.putSearches_upd (v) : (s.putSearches v).upd = s.upd := id rfl
@[simp] theorem State.putSearches_board (v) : (s.putSearches v).board = s.board := id rfl
@[simp] theorem State.putWalks_pending (v) : (s.putWalks v).pending = s.pending := id rfl
@[simp] theorem State.putWalks_freeCtr (v) : (s.putWalks v).freeCtr = s.freeCtr := id rfl
@[simp] theorem State.putWalks_now (v) : (s.putWalks v).now = s.now := id rfl
@[simp] theorem State.putWalks_regs (v) : (s.putWalks v).regs = s.regs := id rfl
@[simp] theorem State.putWalks_host (v) : (s.putWalks v).host = s.host := id rfl
@[simp] theorem State.putWalks_mbx (v) : (s.putWalks v).mbx = s.mbx := id rfl
@[simp] theorem State.putWalks_accts (v) : (s.putWalks v).accts = s.accts := id rfl
@[simp] theorem State.putWalks_snaps (v) : (s.putWalks v).snaps = s.snaps := id rfl
@[simp] theorem State.putWalks_faults (v) : (s.putWalks v).faults = s.faults := id rfl
@[simp] theorem State.putWalks_mem (v) : (s.putWalks v).mem = s.mem := id rfl
@[simp] theorem State.putWalks_flash (v) : (s.putWalks v).flash = s.flash := id rfl
@[simp] theorem State.putWalks_clusters (v) : (s.putWalks v).clusters = s.clusters := id rfl
@[simp] theorem State.putWalks_pkg (v) : (s.putWalks v).pkg = s.pkg := id rfl
@[simp] theorem State.putWalks_parts (v) : (s.putWalks v).parts = s.parts := id rfl
@[simp] theorem State.putWalks_objs (v) : (s.putWalks v).objs = s.objs := id rfl
@[simp] theorem State.putWalks_weights (v) : (s.putWalks v).weights = s.weights := id rfl
@[simp] theorem State.putWalks_adapters (v) : (s.putWalks v).adapters = s.adapters := id rfl
@[simp] theorem State.putWalks_shards (v) : (s.putWalks v).shards = s.shards := id rfl
@[simp] theorem State.putWalks_searches (v) : (s.putWalks v).searches = s.searches := id rfl
@[simp] theorem State.putWalks_walks (v) : (s.putWalks v).walks = v := id rfl
@[simp] theorem State.putWalks_walkOrder (v) : (s.putWalks v).walkOrder = s.walkOrder := id rfl
@[simp] theorem State.putWalks_tables (v) : (s.putWalks v).tables = s.tables := id rfl
@[simp] theorem State.putWalks_lookups (v) : (s.putWalks v).lookups = s.lookups := id rfl
@[simp] theorem State.putWalks_bags (v) : (s.putWalks v).bags = s.bags := id rfl
@[simp] theorem State.putWalks_vocabs (v) : (s.putWalks v).vocabs = s.vocabs := id rfl
@[simp] theorem State.putWalks_streams (v) : (s.putWalks v).streams = s.streams := id rfl
@[simp] theorem State.putWalks_tasks (v) : (s.putWalks v).tasks = s.tasks := id rfl
@[simp] theorem State.putWalks_trees (v) : (s.putWalks v).trees = s.trees := id rfl
@[simp] theorem State.putWalks_probes (v) : (s.putWalks v).probes = s.probes := id rfl
@[simp] theorem State.putWalks_pools (v) : (s.putWalks v).pools = s.pools := id rfl
@[simp] theorem State.putWalks_gens (v) : (s.putWalks v).gens = s.gens := id rfl
@[simp] theorem State.putWalks_retrieves (v) : (s.putWalks v).retrieves = s.retrieves := id rfl
@[simp] theorem State.putWalks_fab (v) : (s.putWalks v).fab = s.fab := id rfl
@[simp] theorem State.putWalks_power (v) : (s.putWalks v).power = s.power := id rfl
@[simp] theorem State.putWalks_health (v) : (s.putWalks v).health = s.health := id rfl
@[simp] theorem State.putWalks_nor (v) : (s.putWalks v).nor = s.nor := id rfl
@[simp] theorem State.putWalks_boot (v) : (s.putWalks v).boot = s.boot := id rfl
@[simp] theorem State.putWalks_sec (v) : (s.putWalks v).sec = s.sec := id rfl
@[simp] theorem State.putWalks_upd (v) : (s.putWalks v).upd = s.upd := id rfl
@[simp] theorem State.putWalks_board (v) : (s.putWalks v).board = s.board := id rfl
@[simp] theorem State.putWalkOrder_pending (v) : (s.putWalkOrder v).pending = s.pending := id rfl
@[simp] theorem State.putWalkOrder_freeCtr (v) : (s.putWalkOrder v).freeCtr = s.freeCtr := id rfl
@[simp] theorem State.putWalkOrder_now (v) : (s.putWalkOrder v).now = s.now := id rfl
@[simp] theorem State.putWalkOrder_regs (v) : (s.putWalkOrder v).regs = s.regs := id rfl
@[simp] theorem State.putWalkOrder_host (v) : (s.putWalkOrder v).host = s.host := id rfl
@[simp] theorem State.putWalkOrder_mbx (v) : (s.putWalkOrder v).mbx = s.mbx := id rfl
@[simp] theorem State.putWalkOrder_accts (v) : (s.putWalkOrder v).accts = s.accts := id rfl
@[simp] theorem State.putWalkOrder_snaps (v) : (s.putWalkOrder v).snaps = s.snaps := id rfl
@[simp] theorem State.putWalkOrder_faults (v) : (s.putWalkOrder v).faults = s.faults := id rfl
@[simp] theorem State.putWalkOrder_mem (v) : (s.putWalkOrder v).mem = s.mem := id rfl
@[simp] theorem State.putWalkOrder_flash (v) : (s.putWalkOrder v).flash = s.flash := id rfl
@[simp] theorem State.putWalkOrder_clusters (v) : (s.putWalkOrder v).clusters = s.clusters := id rfl
@[simp] theorem State.putWalkOrder_pkg (v) : (s.putWalkOrder v).pkg = s.pkg := id rfl
@[simp] theorem State.putWalkOrder_parts (v) : (s.putWalkOrder v).parts = s.parts := id rfl
@[simp] theorem State.putWalkOrder_objs (v) : (s.putWalkOrder v).objs = s.objs := id rfl
@[simp] theorem State.putWalkOrder_weights (v) : (s.putWalkOrder v).weights = s.weights := id rfl
@[simp] theorem State.putWalkOrder_adapters (v) : (s.putWalkOrder v).adapters = s.adapters := id rfl
@[simp] theorem State.putWalkOrder_shards (v) : (s.putWalkOrder v).shards = s.shards := id rfl
@[simp] theorem State.putWalkOrder_searches (v) : (s.putWalkOrder v).searches = s.searches := id rfl
@[simp] theorem State.putWalkOrder_walks (v) : (s.putWalkOrder v).walks = s.walks := id rfl
@[simp] theorem State.putWalkOrder_walkOrder (v) : (s.putWalkOrder v).walkOrder = v := id rfl
@[simp] theorem State.putWalkOrder_tables (v) : (s.putWalkOrder v).tables = s.tables := id rfl
@[simp] theorem State.putWalkOrder_lookups (v) : (s.putWalkOrder v).lookups = s.lookups := id rfl
@[simp] theorem State.putWalkOrder_bags (v) : (s.putWalkOrder v).bags = s.bags := id rfl
@[simp] theorem State.putWalkOrder_vocabs (v) : (s.putWalkOrder v).vocabs = s.vocabs := id rfl
@[simp] theorem State.putWalkOrder_streams (v) : (s.putWalkOrder v).streams = s.streams := id rfl
@[simp] theorem State.putWalkOrder_tasks (v) : (s.putWalkOrder v).tasks = s.tasks := id rfl
@[simp] theorem State.putWalkOrder_trees (v) : (s.putWalkOrder v).trees = s.trees := id rfl
@[simp] theorem State.putWalkOrder_probes (v) : (s.putWalkOrder v).probes = s.probes := id rfl
@[simp] theorem State.putWalkOrder_pools (v) : (s.putWalkOrder v).pools = s.pools := id rfl
@[simp] theorem State.putWalkOrder_gens (v) : (s.putWalkOrder v).gens = s.gens := id rfl
@[simp] theorem State.putWalkOrder_retrieves (v) : (s.putWalkOrder v).retrieves = s.retrieves := id rfl
@[simp] theorem State.putWalkOrder_fab (v) : (s.putWalkOrder v).fab = s.fab := id rfl
@[simp] theorem State.putWalkOrder_power (v) : (s.putWalkOrder v).power = s.power := id rfl
@[simp] theorem State.putWalkOrder_health (v) : (s.putWalkOrder v).health = s.health := id rfl
@[simp] theorem State.putWalkOrder_nor (v) : (s.putWalkOrder v).nor = s.nor := id rfl
@[simp] theorem State.putWalkOrder_boot (v) : (s.putWalkOrder v).boot = s.boot := id rfl
@[simp] theorem State.putWalkOrder_sec (v) : (s.putWalkOrder v).sec = s.sec := id rfl
@[simp] theorem State.putWalkOrder_upd (v) : (s.putWalkOrder v).upd = s.upd := id rfl
@[simp] theorem State.putWalkOrder_board (v) : (s.putWalkOrder v).board = s.board := id rfl
@[simp] theorem State.putTables_pending (v) : (s.putTables v).pending = s.pending := id rfl
@[simp] theorem State.putTables_freeCtr (v) : (s.putTables v).freeCtr = s.freeCtr := id rfl
@[simp] theorem State.putTables_now (v) : (s.putTables v).now = s.now := id rfl
@[simp] theorem State.putTables_regs (v) : (s.putTables v).regs = s.regs := id rfl
@[simp] theorem State.putTables_host (v) : (s.putTables v).host = s.host := id rfl
@[simp] theorem State.putTables_mbx (v) : (s.putTables v).mbx = s.mbx := id rfl
@[simp] theorem State.putTables_accts (v) : (s.putTables v).accts = s.accts := id rfl
@[simp] theorem State.putTables_snaps (v) : (s.putTables v).snaps = s.snaps := id rfl
@[simp] theorem State.putTables_faults (v) : (s.putTables v).faults = s.faults := id rfl
@[simp] theorem State.putTables_mem (v) : (s.putTables v).mem = s.mem := id rfl
@[simp] theorem State.putTables_flash (v) : (s.putTables v).flash = s.flash := id rfl
@[simp] theorem State.putTables_clusters (v) : (s.putTables v).clusters = s.clusters := id rfl
@[simp] theorem State.putTables_pkg (v) : (s.putTables v).pkg = s.pkg := id rfl
@[simp] theorem State.putTables_parts (v) : (s.putTables v).parts = s.parts := id rfl
@[simp] theorem State.putTables_objs (v) : (s.putTables v).objs = s.objs := id rfl
@[simp] theorem State.putTables_weights (v) : (s.putTables v).weights = s.weights := id rfl
@[simp] theorem State.putTables_adapters (v) : (s.putTables v).adapters = s.adapters := id rfl
@[simp] theorem State.putTables_shards (v) : (s.putTables v).shards = s.shards := id rfl
@[simp] theorem State.putTables_searches (v) : (s.putTables v).searches = s.searches := id rfl
@[simp] theorem State.putTables_walks (v) : (s.putTables v).walks = s.walks := id rfl
@[simp] theorem State.putTables_walkOrder (v) : (s.putTables v).walkOrder = s.walkOrder := id rfl
@[simp] theorem State.putTables_tables (v) : (s.putTables v).tables = v := id rfl
@[simp] theorem State.putTables_lookups (v) : (s.putTables v).lookups = s.lookups := id rfl
@[simp] theorem State.putTables_bags (v) : (s.putTables v).bags = s.bags := id rfl
@[simp] theorem State.putTables_vocabs (v) : (s.putTables v).vocabs = s.vocabs := id rfl
@[simp] theorem State.putTables_streams (v) : (s.putTables v).streams = s.streams := id rfl
@[simp] theorem State.putTables_tasks (v) : (s.putTables v).tasks = s.tasks := id rfl
@[simp] theorem State.putTables_trees (v) : (s.putTables v).trees = s.trees := id rfl
@[simp] theorem State.putTables_probes (v) : (s.putTables v).probes = s.probes := id rfl
@[simp] theorem State.putTables_pools (v) : (s.putTables v).pools = s.pools := id rfl
@[simp] theorem State.putTables_gens (v) : (s.putTables v).gens = s.gens := id rfl
@[simp] theorem State.putTables_retrieves (v) : (s.putTables v).retrieves = s.retrieves := id rfl
@[simp] theorem State.putTables_fab (v) : (s.putTables v).fab = s.fab := id rfl
@[simp] theorem State.putTables_power (v) : (s.putTables v).power = s.power := id rfl
@[simp] theorem State.putTables_health (v) : (s.putTables v).health = s.health := id rfl
@[simp] theorem State.putTables_nor (v) : (s.putTables v).nor = s.nor := id rfl
@[simp] theorem State.putTables_boot (v) : (s.putTables v).boot = s.boot := id rfl
@[simp] theorem State.putTables_sec (v) : (s.putTables v).sec = s.sec := id rfl
@[simp] theorem State.putTables_upd (v) : (s.putTables v).upd = s.upd := id rfl
@[simp] theorem State.putTables_board (v) : (s.putTables v).board = s.board := id rfl
@[simp] theorem State.putLookups_pending (v) : (s.putLookups v).pending = s.pending := id rfl
@[simp] theorem State.putLookups_freeCtr (v) : (s.putLookups v).freeCtr = s.freeCtr := id rfl
@[simp] theorem State.putLookups_now (v) : (s.putLookups v).now = s.now := id rfl
@[simp] theorem State.putLookups_regs (v) : (s.putLookups v).regs = s.regs := id rfl
@[simp] theorem State.putLookups_host (v) : (s.putLookups v).host = s.host := id rfl
@[simp] theorem State.putLookups_mbx (v) : (s.putLookups v).mbx = s.mbx := id rfl
@[simp] theorem State.putLookups_accts (v) : (s.putLookups v).accts = s.accts := id rfl
@[simp] theorem State.putLookups_snaps (v) : (s.putLookups v).snaps = s.snaps := id rfl
@[simp] theorem State.putLookups_faults (v) : (s.putLookups v).faults = s.faults := id rfl
@[simp] theorem State.putLookups_mem (v) : (s.putLookups v).mem = s.mem := id rfl
@[simp] theorem State.putLookups_flash (v) : (s.putLookups v).flash = s.flash := id rfl
@[simp] theorem State.putLookups_clusters (v) : (s.putLookups v).clusters = s.clusters := id rfl
@[simp] theorem State.putLookups_pkg (v) : (s.putLookups v).pkg = s.pkg := id rfl
@[simp] theorem State.putLookups_parts (v) : (s.putLookups v).parts = s.parts := id rfl
@[simp] theorem State.putLookups_objs (v) : (s.putLookups v).objs = s.objs := id rfl
@[simp] theorem State.putLookups_weights (v) : (s.putLookups v).weights = s.weights := id rfl
@[simp] theorem State.putLookups_adapters (v) : (s.putLookups v).adapters = s.adapters := id rfl
@[simp] theorem State.putLookups_shards (v) : (s.putLookups v).shards = s.shards := id rfl
@[simp] theorem State.putLookups_searches (v) : (s.putLookups v).searches = s.searches := id rfl
@[simp] theorem State.putLookups_walks (v) : (s.putLookups v).walks = s.walks := id rfl
@[simp] theorem State.putLookups_walkOrder (v) : (s.putLookups v).walkOrder = s.walkOrder := id rfl
@[simp] theorem State.putLookups_tables (v) : (s.putLookups v).tables = s.tables := id rfl
@[simp] theorem State.putLookups_lookups (v) : (s.putLookups v).lookups = v := id rfl
@[simp] theorem State.putLookups_bags (v) : (s.putLookups v).bags = s.bags := id rfl
@[simp] theorem State.putLookups_vocabs (v) : (s.putLookups v).vocabs = s.vocabs := id rfl
@[simp] theorem State.putLookups_streams (v) : (s.putLookups v).streams = s.streams := id rfl
@[simp] theorem State.putLookups_tasks (v) : (s.putLookups v).tasks = s.tasks := id rfl
@[simp] theorem State.putLookups_trees (v) : (s.putLookups v).trees = s.trees := id rfl
@[simp] theorem State.putLookups_probes (v) : (s.putLookups v).probes = s.probes := id rfl
@[simp] theorem State.putLookups_pools (v) : (s.putLookups v).pools = s.pools := id rfl
@[simp] theorem State.putLookups_gens (v) : (s.putLookups v).gens = s.gens := id rfl
@[simp] theorem State.putLookups_retrieves (v) : (s.putLookups v).retrieves = s.retrieves := id rfl
@[simp] theorem State.putLookups_fab (v) : (s.putLookups v).fab = s.fab := id rfl
@[simp] theorem State.putLookups_power (v) : (s.putLookups v).power = s.power := id rfl
@[simp] theorem State.putLookups_health (v) : (s.putLookups v).health = s.health := id rfl
@[simp] theorem State.putLookups_nor (v) : (s.putLookups v).nor = s.nor := id rfl
@[simp] theorem State.putLookups_boot (v) : (s.putLookups v).boot = s.boot := id rfl
@[simp] theorem State.putLookups_sec (v) : (s.putLookups v).sec = s.sec := id rfl
@[simp] theorem State.putLookups_upd (v) : (s.putLookups v).upd = s.upd := id rfl
@[simp] theorem State.putLookups_board (v) : (s.putLookups v).board = s.board := id rfl
@[simp] theorem State.putBags_pending (v) : (s.putBags v).pending = s.pending := id rfl
@[simp] theorem State.putBags_freeCtr (v) : (s.putBags v).freeCtr = s.freeCtr := id rfl
@[simp] theorem State.putBags_now (v) : (s.putBags v).now = s.now := id rfl
@[simp] theorem State.putBags_regs (v) : (s.putBags v).regs = s.regs := id rfl
@[simp] theorem State.putBags_host (v) : (s.putBags v).host = s.host := id rfl
@[simp] theorem State.putBags_mbx (v) : (s.putBags v).mbx = s.mbx := id rfl
@[simp] theorem State.putBags_accts (v) : (s.putBags v).accts = s.accts := id rfl
@[simp] theorem State.putBags_snaps (v) : (s.putBags v).snaps = s.snaps := id rfl
@[simp] theorem State.putBags_faults (v) : (s.putBags v).faults = s.faults := id rfl
@[simp] theorem State.putBags_mem (v) : (s.putBags v).mem = s.mem := id rfl
@[simp] theorem State.putBags_flash (v) : (s.putBags v).flash = s.flash := id rfl
@[simp] theorem State.putBags_clusters (v) : (s.putBags v).clusters = s.clusters := id rfl
@[simp] theorem State.putBags_pkg (v) : (s.putBags v).pkg = s.pkg := id rfl
@[simp] theorem State.putBags_parts (v) : (s.putBags v).parts = s.parts := id rfl
@[simp] theorem State.putBags_objs (v) : (s.putBags v).objs = s.objs := id rfl
@[simp] theorem State.putBags_weights (v) : (s.putBags v).weights = s.weights := id rfl
@[simp] theorem State.putBags_adapters (v) : (s.putBags v).adapters = s.adapters := id rfl
@[simp] theorem State.putBags_shards (v) : (s.putBags v).shards = s.shards := id rfl
@[simp] theorem State.putBags_searches (v) : (s.putBags v).searches = s.searches := id rfl
@[simp] theorem State.putBags_walks (v) : (s.putBags v).walks = s.walks := id rfl
@[simp] theorem State.putBags_walkOrder (v) : (s.putBags v).walkOrder = s.walkOrder := id rfl
@[simp] theorem State.putBags_tables (v) : (s.putBags v).tables = s.tables := id rfl
@[simp] theorem State.putBags_lookups (v) : (s.putBags v).lookups = s.lookups := id rfl
@[simp] theorem State.putBags_bags (v) : (s.putBags v).bags = v := id rfl
@[simp] theorem State.putBags_vocabs (v) : (s.putBags v).vocabs = s.vocabs := id rfl
@[simp] theorem State.putBags_streams (v) : (s.putBags v).streams = s.streams := id rfl
@[simp] theorem State.putBags_tasks (v) : (s.putBags v).tasks = s.tasks := id rfl
@[simp] theorem State.putBags_trees (v) : (s.putBags v).trees = s.trees := id rfl
@[simp] theorem State.putBags_probes (v) : (s.putBags v).probes = s.probes := id rfl
@[simp] theorem State.putBags_pools (v) : (s.putBags v).pools = s.pools := id rfl
@[simp] theorem State.putBags_gens (v) : (s.putBags v).gens = s.gens := id rfl
@[simp] theorem State.putBags_retrieves (v) : (s.putBags v).retrieves = s.retrieves := id rfl
@[simp] theorem State.putBags_fab (v) : (s.putBags v).fab = s.fab := id rfl
@[simp] theorem State.putBags_power (v) : (s.putBags v).power = s.power := id rfl
@[simp] theorem State.putBags_health (v) : (s.putBags v).health = s.health := id rfl
@[simp] theorem State.putBags_nor (v) : (s.putBags v).nor = s.nor := id rfl
@[simp] theorem State.putBags_boot (v) : (s.putBags v).boot = s.boot := id rfl
@[simp] theorem State.putBags_sec (v) : (s.putBags v).sec = s.sec := id rfl
@[simp] theorem State.putBags_upd (v) : (s.putBags v).upd = s.upd := id rfl
@[simp] theorem State.putBags_board (v) : (s.putBags v).board = s.board := id rfl
@[simp] theorem State.putVocabs_pending (v) : (s.putVocabs v).pending = s.pending := id rfl
@[simp] theorem State.putVocabs_freeCtr (v) : (s.putVocabs v).freeCtr = s.freeCtr := id rfl
@[simp] theorem State.putVocabs_now (v) : (s.putVocabs v).now = s.now := id rfl
@[simp] theorem State.putVocabs_regs (v) : (s.putVocabs v).regs = s.regs := id rfl
@[simp] theorem State.putVocabs_host (v) : (s.putVocabs v).host = s.host := id rfl
@[simp] theorem State.putVocabs_mbx (v) : (s.putVocabs v).mbx = s.mbx := id rfl
@[simp] theorem State.putVocabs_accts (v) : (s.putVocabs v).accts = s.accts := id rfl
@[simp] theorem State.putVocabs_snaps (v) : (s.putVocabs v).snaps = s.snaps := id rfl
@[simp] theorem State.putVocabs_faults (v) : (s.putVocabs v).faults = s.faults := id rfl
@[simp] theorem State.putVocabs_mem (v) : (s.putVocabs v).mem = s.mem := id rfl
@[simp] theorem State.putVocabs_flash (v) : (s.putVocabs v).flash = s.flash := id rfl
@[simp] theorem State.putVocabs_clusters (v) : (s.putVocabs v).clusters = s.clusters := id rfl
@[simp] theorem State.putVocabs_pkg (v) : (s.putVocabs v).pkg = s.pkg := id rfl
@[simp] theorem State.putVocabs_parts (v) : (s.putVocabs v).parts = s.parts := id rfl
@[simp] theorem State.putVocabs_objs (v) : (s.putVocabs v).objs = s.objs := id rfl
@[simp] theorem State.putVocabs_weights (v) : (s.putVocabs v).weights = s.weights := id rfl
@[simp] theorem State.putVocabs_adapters (v) : (s.putVocabs v).adapters = s.adapters := id rfl
@[simp] theorem State.putVocabs_shards (v) : (s.putVocabs v).shards = s.shards := id rfl
@[simp] theorem State.putVocabs_searches (v) : (s.putVocabs v).searches = s.searches := id rfl
@[simp] theorem State.putVocabs_walks (v) : (s.putVocabs v).walks = s.walks := id rfl
@[simp] theorem State.putVocabs_walkOrder (v) : (s.putVocabs v).walkOrder = s.walkOrder := id rfl
@[simp] theorem State.putVocabs_tables (v) : (s.putVocabs v).tables = s.tables := id rfl
@[simp] theorem State.putVocabs_lookups (v) : (s.putVocabs v).lookups = s.lookups := id rfl
@[simp] theorem State.putVocabs_bags (v) : (s.putVocabs v).bags = s.bags := id rfl
@[simp] theorem State.putVocabs_vocabs (v) : (s.putVocabs v).vocabs = v := id rfl
@[simp] theorem State.putVocabs_streams (v) : (s.putVocabs v).streams = s.streams := id rfl
@[simp] theorem State.putVocabs_tasks (v) : (s.putVocabs v).tasks = s.tasks := id rfl
@[simp] theorem State.putVocabs_trees (v) : (s.putVocabs v).trees = s.trees := id rfl
@[simp] theorem State.putVocabs_probes (v) : (s.putVocabs v).probes = s.probes := id rfl
@[simp] theorem State.putVocabs_pools (v) : (s.putVocabs v).pools = s.pools := id rfl
@[simp] theorem State.putVocabs_gens (v) : (s.putVocabs v).gens = s.gens := id rfl
@[simp] theorem State.putVocabs_retrieves (v) : (s.putVocabs v).retrieves = s.retrieves := id rfl
@[simp] theorem State.putVocabs_fab (v) : (s.putVocabs v).fab = s.fab := id rfl
@[simp] theorem State.putVocabs_power (v) : (s.putVocabs v).power = s.power := id rfl
@[simp] theorem State.putVocabs_health (v) : (s.putVocabs v).health = s.health := id rfl
@[simp] theorem State.putVocabs_nor (v) : (s.putVocabs v).nor = s.nor := id rfl
@[simp] theorem State.putVocabs_boot (v) : (s.putVocabs v).boot = s.boot := id rfl
@[simp] theorem State.putVocabs_sec (v) : (s.putVocabs v).sec = s.sec := id rfl
@[simp] theorem State.putVocabs_upd (v) : (s.putVocabs v).upd = s.upd := id rfl
@[simp] theorem State.putVocabs_board (v) : (s.putVocabs v).board = s.board := id rfl
@[simp] theorem State.putStreams_pending (v) : (s.putStreams v).pending = s.pending := id rfl
@[simp] theorem State.putStreams_freeCtr (v) : (s.putStreams v).freeCtr = s.freeCtr := id rfl
@[simp] theorem State.putStreams_now (v) : (s.putStreams v).now = s.now := id rfl
@[simp] theorem State.putStreams_regs (v) : (s.putStreams v).regs = s.regs := id rfl
@[simp] theorem State.putStreams_host (v) : (s.putStreams v).host = s.host := id rfl
@[simp] theorem State.putStreams_mbx (v) : (s.putStreams v).mbx = s.mbx := id rfl
@[simp] theorem State.putStreams_accts (v) : (s.putStreams v).accts = s.accts := id rfl
@[simp] theorem State.putStreams_snaps (v) : (s.putStreams v).snaps = s.snaps := id rfl
@[simp] theorem State.putStreams_faults (v) : (s.putStreams v).faults = s.faults := id rfl
@[simp] theorem State.putStreams_mem (v) : (s.putStreams v).mem = s.mem := id rfl
@[simp] theorem State.putStreams_flash (v) : (s.putStreams v).flash = s.flash := id rfl
@[simp] theorem State.putStreams_clusters (v) : (s.putStreams v).clusters = s.clusters := id rfl
@[simp] theorem State.putStreams_pkg (v) : (s.putStreams v).pkg = s.pkg := id rfl
@[simp] theorem State.putStreams_parts (v) : (s.putStreams v).parts = s.parts := id rfl
@[simp] theorem State.putStreams_objs (v) : (s.putStreams v).objs = s.objs := id rfl
@[simp] theorem State.putStreams_weights (v) : (s.putStreams v).weights = s.weights := id rfl
@[simp] theorem State.putStreams_adapters (v) : (s.putStreams v).adapters = s.adapters := id rfl
@[simp] theorem State.putStreams_shards (v) : (s.putStreams v).shards = s.shards := id rfl
@[simp] theorem State.putStreams_searches (v) : (s.putStreams v).searches = s.searches := id rfl
@[simp] theorem State.putStreams_walks (v) : (s.putStreams v).walks = s.walks := id rfl
@[simp] theorem State.putStreams_walkOrder (v) : (s.putStreams v).walkOrder = s.walkOrder := id rfl
@[simp] theorem State.putStreams_tables (v) : (s.putStreams v).tables = s.tables := id rfl
@[simp] theorem State.putStreams_lookups (v) : (s.putStreams v).lookups = s.lookups := id rfl
@[simp] theorem State.putStreams_bags (v) : (s.putStreams v).bags = s.bags := id rfl
@[simp] theorem State.putStreams_vocabs (v) : (s.putStreams v).vocabs = s.vocabs := id rfl
@[simp] theorem State.putStreams_streams (v) : (s.putStreams v).streams = v := id rfl
@[simp] theorem State.putStreams_tasks (v) : (s.putStreams v).tasks = s.tasks := id rfl
@[simp] theorem State.putStreams_trees (v) : (s.putStreams v).trees = s.trees := id rfl
@[simp] theorem State.putStreams_probes (v) : (s.putStreams v).probes = s.probes := id rfl
@[simp] theorem State.putStreams_pools (v) : (s.putStreams v).pools = s.pools := id rfl
@[simp] theorem State.putStreams_gens (v) : (s.putStreams v).gens = s.gens := id rfl
@[simp] theorem State.putStreams_retrieves (v) : (s.putStreams v).retrieves = s.retrieves := id rfl
@[simp] theorem State.putStreams_fab (v) : (s.putStreams v).fab = s.fab := id rfl
@[simp] theorem State.putStreams_power (v) : (s.putStreams v).power = s.power := id rfl
@[simp] theorem State.putStreams_health (v) : (s.putStreams v).health = s.health := id rfl
@[simp] theorem State.putStreams_nor (v) : (s.putStreams v).nor = s.nor := id rfl
@[simp] theorem State.putStreams_boot (v) : (s.putStreams v).boot = s.boot := id rfl
@[simp] theorem State.putStreams_sec (v) : (s.putStreams v).sec = s.sec := id rfl
@[simp] theorem State.putStreams_upd (v) : (s.putStreams v).upd = s.upd := id rfl
@[simp] theorem State.putStreams_board (v) : (s.putStreams v).board = s.board := id rfl
@[simp] theorem State.putTasks_pending (v) : (s.putTasks v).pending = s.pending := id rfl
@[simp] theorem State.putTasks_freeCtr (v) : (s.putTasks v).freeCtr = s.freeCtr := id rfl
@[simp] theorem State.putTasks_now (v) : (s.putTasks v).now = s.now := id rfl
@[simp] theorem State.putTasks_regs (v) : (s.putTasks v).regs = s.regs := id rfl
@[simp] theorem State.putTasks_host (v) : (s.putTasks v).host = s.host := id rfl
@[simp] theorem State.putTasks_mbx (v) : (s.putTasks v).mbx = s.mbx := id rfl
@[simp] theorem State.putTasks_accts (v) : (s.putTasks v).accts = s.accts := id rfl
@[simp] theorem State.putTasks_snaps (v) : (s.putTasks v).snaps = s.snaps := id rfl
@[simp] theorem State.putTasks_faults (v) : (s.putTasks v).faults = s.faults := id rfl
@[simp] theorem State.putTasks_mem (v) : (s.putTasks v).mem = s.mem := id rfl
@[simp] theorem State.putTasks_flash (v) : (s.putTasks v).flash = s.flash := id rfl
@[simp] theorem State.putTasks_clusters (v) : (s.putTasks v).clusters = s.clusters := id rfl
@[simp] theorem State.putTasks_pkg (v) : (s.putTasks v).pkg = s.pkg := id rfl
@[simp] theorem State.putTasks_parts (v) : (s.putTasks v).parts = s.parts := id rfl
@[simp] theorem State.putTasks_objs (v) : (s.putTasks v).objs = s.objs := id rfl
@[simp] theorem State.putTasks_weights (v) : (s.putTasks v).weights = s.weights := id rfl
@[simp] theorem State.putTasks_adapters (v) : (s.putTasks v).adapters = s.adapters := id rfl
@[simp] theorem State.putTasks_shards (v) : (s.putTasks v).shards = s.shards := id rfl
@[simp] theorem State.putTasks_searches (v) : (s.putTasks v).searches = s.searches := id rfl
@[simp] theorem State.putTasks_walks (v) : (s.putTasks v).walks = s.walks := id rfl
@[simp] theorem State.putTasks_walkOrder (v) : (s.putTasks v).walkOrder = s.walkOrder := id rfl
@[simp] theorem State.putTasks_tables (v) : (s.putTasks v).tables = s.tables := id rfl
@[simp] theorem State.putTasks_lookups (v) : (s.putTasks v).lookups = s.lookups := id rfl
@[simp] theorem State.putTasks_bags (v) : (s.putTasks v).bags = s.bags := id rfl
@[simp] theorem State.putTasks_vocabs (v) : (s.putTasks v).vocabs = s.vocabs := id rfl
@[simp] theorem State.putTasks_streams (v) : (s.putTasks v).streams = s.streams := id rfl
@[simp] theorem State.putTasks_tasks (v) : (s.putTasks v).tasks = v := id rfl
@[simp] theorem State.putTasks_trees (v) : (s.putTasks v).trees = s.trees := id rfl
@[simp] theorem State.putTasks_probes (v) : (s.putTasks v).probes = s.probes := id rfl
@[simp] theorem State.putTasks_pools (v) : (s.putTasks v).pools = s.pools := id rfl
@[simp] theorem State.putTasks_gens (v) : (s.putTasks v).gens = s.gens := id rfl
@[simp] theorem State.putTasks_retrieves (v) : (s.putTasks v).retrieves = s.retrieves := id rfl
@[simp] theorem State.putTasks_fab (v) : (s.putTasks v).fab = s.fab := id rfl
@[simp] theorem State.putTasks_power (v) : (s.putTasks v).power = s.power := id rfl
@[simp] theorem State.putTasks_health (v) : (s.putTasks v).health = s.health := id rfl
@[simp] theorem State.putTasks_nor (v) : (s.putTasks v).nor = s.nor := id rfl
@[simp] theorem State.putTasks_boot (v) : (s.putTasks v).boot = s.boot := id rfl
@[simp] theorem State.putTasks_sec (v) : (s.putTasks v).sec = s.sec := id rfl
@[simp] theorem State.putTasks_upd (v) : (s.putTasks v).upd = s.upd := id rfl
@[simp] theorem State.putTasks_board (v) : (s.putTasks v).board = s.board := id rfl
@[simp] theorem State.putTrees_pending (v) : (s.putTrees v).pending = s.pending := id rfl
@[simp] theorem State.putTrees_freeCtr (v) : (s.putTrees v).freeCtr = s.freeCtr := id rfl
@[simp] theorem State.putTrees_now (v) : (s.putTrees v).now = s.now := id rfl
@[simp] theorem State.putTrees_regs (v) : (s.putTrees v).regs = s.regs := id rfl
@[simp] theorem State.putTrees_host (v) : (s.putTrees v).host = s.host := id rfl
@[simp] theorem State.putTrees_mbx (v) : (s.putTrees v).mbx = s.mbx := id rfl
@[simp] theorem State.putTrees_accts (v) : (s.putTrees v).accts = s.accts := id rfl
@[simp] theorem State.putTrees_snaps (v) : (s.putTrees v).snaps = s.snaps := id rfl
@[simp] theorem State.putTrees_faults (v) : (s.putTrees v).faults = s.faults := id rfl
@[simp] theorem State.putTrees_mem (v) : (s.putTrees v).mem = s.mem := id rfl
@[simp] theorem State.putTrees_flash (v) : (s.putTrees v).flash = s.flash := id rfl
@[simp] theorem State.putTrees_clusters (v) : (s.putTrees v).clusters = s.clusters := id rfl
@[simp] theorem State.putTrees_pkg (v) : (s.putTrees v).pkg = s.pkg := id rfl
@[simp] theorem State.putTrees_parts (v) : (s.putTrees v).parts = s.parts := id rfl
@[simp] theorem State.putTrees_objs (v) : (s.putTrees v).objs = s.objs := id rfl
@[simp] theorem State.putTrees_weights (v) : (s.putTrees v).weights = s.weights := id rfl
@[simp] theorem State.putTrees_adapters (v) : (s.putTrees v).adapters = s.adapters := id rfl
@[simp] theorem State.putTrees_shards (v) : (s.putTrees v).shards = s.shards := id rfl
@[simp] theorem State.putTrees_searches (v) : (s.putTrees v).searches = s.searches := id rfl
@[simp] theorem State.putTrees_walks (v) : (s.putTrees v).walks = s.walks := id rfl
@[simp] theorem State.putTrees_walkOrder (v) : (s.putTrees v).walkOrder = s.walkOrder := id rfl
@[simp] theorem State.putTrees_tables (v) : (s.putTrees v).tables = s.tables := id rfl
@[simp] theorem State.putTrees_lookups (v) : (s.putTrees v).lookups = s.lookups := id rfl
@[simp] theorem State.putTrees_bags (v) : (s.putTrees v).bags = s.bags := id rfl
@[simp] theorem State.putTrees_vocabs (v) : (s.putTrees v).vocabs = s.vocabs := id rfl
@[simp] theorem State.putTrees_streams (v) : (s.putTrees v).streams = s.streams := id rfl
@[simp] theorem State.putTrees_tasks (v) : (s.putTrees v).tasks = s.tasks := id rfl
@[simp] theorem State.putTrees_trees (v) : (s.putTrees v).trees = v := id rfl
@[simp] theorem State.putTrees_probes (v) : (s.putTrees v).probes = s.probes := id rfl
@[simp] theorem State.putTrees_pools (v) : (s.putTrees v).pools = s.pools := id rfl
@[simp] theorem State.putTrees_gens (v) : (s.putTrees v).gens = s.gens := id rfl
@[simp] theorem State.putTrees_retrieves (v) : (s.putTrees v).retrieves = s.retrieves := id rfl
@[simp] theorem State.putTrees_fab (v) : (s.putTrees v).fab = s.fab := id rfl
@[simp] theorem State.putTrees_power (v) : (s.putTrees v).power = s.power := id rfl
@[simp] theorem State.putTrees_health (v) : (s.putTrees v).health = s.health := id rfl
@[simp] theorem State.putTrees_nor (v) : (s.putTrees v).nor = s.nor := id rfl
@[simp] theorem State.putTrees_boot (v) : (s.putTrees v).boot = s.boot := id rfl
@[simp] theorem State.putTrees_sec (v) : (s.putTrees v).sec = s.sec := id rfl
@[simp] theorem State.putTrees_upd (v) : (s.putTrees v).upd = s.upd := id rfl
@[simp] theorem State.putTrees_board (v) : (s.putTrees v).board = s.board := id rfl
@[simp] theorem State.putProbes_pending (v) : (s.putProbes v).pending = s.pending := id rfl
@[simp] theorem State.putProbes_freeCtr (v) : (s.putProbes v).freeCtr = s.freeCtr := id rfl
@[simp] theorem State.putProbes_now (v) : (s.putProbes v).now = s.now := id rfl
@[simp] theorem State.putProbes_regs (v) : (s.putProbes v).regs = s.regs := id rfl
@[simp] theorem State.putProbes_host (v) : (s.putProbes v).host = s.host := id rfl
@[simp] theorem State.putProbes_mbx (v) : (s.putProbes v).mbx = s.mbx := id rfl
@[simp] theorem State.putProbes_accts (v) : (s.putProbes v).accts = s.accts := id rfl
@[simp] theorem State.putProbes_snaps (v) : (s.putProbes v).snaps = s.snaps := id rfl
@[simp] theorem State.putProbes_faults (v) : (s.putProbes v).faults = s.faults := id rfl
@[simp] theorem State.putProbes_mem (v) : (s.putProbes v).mem = s.mem := id rfl
@[simp] theorem State.putProbes_flash (v) : (s.putProbes v).flash = s.flash := id rfl
@[simp] theorem State.putProbes_clusters (v) : (s.putProbes v).clusters = s.clusters := id rfl
@[simp] theorem State.putProbes_pkg (v) : (s.putProbes v).pkg = s.pkg := id rfl
@[simp] theorem State.putProbes_parts (v) : (s.putProbes v).parts = s.parts := id rfl
@[simp] theorem State.putProbes_objs (v) : (s.putProbes v).objs = s.objs := id rfl
@[simp] theorem State.putProbes_weights (v) : (s.putProbes v).weights = s.weights := id rfl
@[simp] theorem State.putProbes_adapters (v) : (s.putProbes v).adapters = s.adapters := id rfl
@[simp] theorem State.putProbes_shards (v) : (s.putProbes v).shards = s.shards := id rfl
@[simp] theorem State.putProbes_searches (v) : (s.putProbes v).searches = s.searches := id rfl
@[simp] theorem State.putProbes_walks (v) : (s.putProbes v).walks = s.walks := id rfl
@[simp] theorem State.putProbes_walkOrder (v) : (s.putProbes v).walkOrder = s.walkOrder := id rfl
@[simp] theorem State.putProbes_tables (v) : (s.putProbes v).tables = s.tables := id rfl
@[simp] theorem State.putProbes_lookups (v) : (s.putProbes v).lookups = s.lookups := id rfl
@[simp] theorem State.putProbes_bags (v) : (s.putProbes v).bags = s.bags := id rfl
@[simp] theorem State.putProbes_vocabs (v) : (s.putProbes v).vocabs = s.vocabs := id rfl
@[simp] theorem State.putProbes_streams (v) : (s.putProbes v).streams = s.streams := id rfl
@[simp] theorem State.putProbes_tasks (v) : (s.putProbes v).tasks = s.tasks := id rfl
@[simp] theorem State.putProbes_trees (v) : (s.putProbes v).trees = s.trees := id rfl
@[simp] theorem State.putProbes_probes (v) : (s.putProbes v).probes = v := id rfl
@[simp] theorem State.putProbes_pools (v) : (s.putProbes v).pools = s.pools := id rfl
@[simp] theorem State.putProbes_gens (v) : (s.putProbes v).gens = s.gens := id rfl
@[simp] theorem State.putProbes_retrieves (v) : (s.putProbes v).retrieves = s.retrieves := id rfl
@[simp] theorem State.putProbes_fab (v) : (s.putProbes v).fab = s.fab := id rfl
@[simp] theorem State.putProbes_power (v) : (s.putProbes v).power = s.power := id rfl
@[simp] theorem State.putProbes_health (v) : (s.putProbes v).health = s.health := id rfl
@[simp] theorem State.putProbes_nor (v) : (s.putProbes v).nor = s.nor := id rfl
@[simp] theorem State.putProbes_boot (v) : (s.putProbes v).boot = s.boot := id rfl
@[simp] theorem State.putProbes_sec (v) : (s.putProbes v).sec = s.sec := id rfl
@[simp] theorem State.putProbes_upd (v) : (s.putProbes v).upd = s.upd := id rfl
@[simp] theorem State.putProbes_board (v) : (s.putProbes v).board = s.board := id rfl
@[simp] theorem State.putPools_pending (v) : (s.putPools v).pending = s.pending := id rfl
@[simp] theorem State.putPools_freeCtr (v) : (s.putPools v).freeCtr = s.freeCtr := id rfl
@[simp] theorem State.putPools_now (v) : (s.putPools v).now = s.now := id rfl
@[simp] theorem State.putPools_regs (v) : (s.putPools v).regs = s.regs := id rfl
@[simp] theorem State.putPools_host (v) : (s.putPools v).host = s.host := id rfl
@[simp] theorem State.putPools_mbx (v) : (s.putPools v).mbx = s.mbx := id rfl
@[simp] theorem State.putPools_accts (v) : (s.putPools v).accts = s.accts := id rfl
@[simp] theorem State.putPools_snaps (v) : (s.putPools v).snaps = s.snaps := id rfl
@[simp] theorem State.putPools_faults (v) : (s.putPools v).faults = s.faults := id rfl
@[simp] theorem State.putPools_mem (v) : (s.putPools v).mem = s.mem := id rfl
@[simp] theorem State.putPools_flash (v) : (s.putPools v).flash = s.flash := id rfl
@[simp] theorem State.putPools_clusters (v) : (s.putPools v).clusters = s.clusters := id rfl
@[simp] theorem State.putPools_pkg (v) : (s.putPools v).pkg = s.pkg := id rfl
@[simp] theorem State.putPools_parts (v) : (s.putPools v).parts = s.parts := id rfl
@[simp] theorem State.putPools_objs (v) : (s.putPools v).objs = s.objs := id rfl
@[simp] theorem State.putPools_weights (v) : (s.putPools v).weights = s.weights := id rfl
@[simp] theorem State.putPools_adapters (v) : (s.putPools v).adapters = s.adapters := id rfl
@[simp] theorem State.putPools_shards (v) : (s.putPools v).shards = s.shards := id rfl
@[simp] theorem State.putPools_searches (v) : (s.putPools v).searches = s.searches := id rfl
@[simp] theorem State.putPools_walks (v) : (s.putPools v).walks = s.walks := id rfl
@[simp] theorem State.putPools_walkOrder (v) : (s.putPools v).walkOrder = s.walkOrder := id rfl
@[simp] theorem State.putPools_tables (v) : (s.putPools v).tables = s.tables := id rfl
@[simp] theorem State.putPools_lookups (v) : (s.putPools v).lookups = s.lookups := id rfl
@[simp] theorem State.putPools_bags (v) : (s.putPools v).bags = s.bags := id rfl
@[simp] theorem State.putPools_vocabs (v) : (s.putPools v).vocabs = s.vocabs := id rfl
@[simp] theorem State.putPools_streams (v) : (s.putPools v).streams = s.streams := id rfl
@[simp] theorem State.putPools_tasks (v) : (s.putPools v).tasks = s.tasks := id rfl
@[simp] theorem State.putPools_trees (v) : (s.putPools v).trees = s.trees := id rfl
@[simp] theorem State.putPools_probes (v) : (s.putPools v).probes = s.probes := id rfl
@[simp] theorem State.putPools_pools (v) : (s.putPools v).pools = v := id rfl
@[simp] theorem State.putPools_gens (v) : (s.putPools v).gens = s.gens := id rfl
@[simp] theorem State.putPools_retrieves (v) : (s.putPools v).retrieves = s.retrieves := id rfl
@[simp] theorem State.putPools_fab (v) : (s.putPools v).fab = s.fab := id rfl
@[simp] theorem State.putPools_power (v) : (s.putPools v).power = s.power := id rfl
@[simp] theorem State.putPools_health (v) : (s.putPools v).health = s.health := id rfl
@[simp] theorem State.putPools_nor (v) : (s.putPools v).nor = s.nor := id rfl
@[simp] theorem State.putPools_boot (v) : (s.putPools v).boot = s.boot := id rfl
@[simp] theorem State.putPools_sec (v) : (s.putPools v).sec = s.sec := id rfl
@[simp] theorem State.putPools_upd (v) : (s.putPools v).upd = s.upd := id rfl
@[simp] theorem State.putPools_board (v) : (s.putPools v).board = s.board := id rfl
@[simp] theorem State.putGens_pending (v) : (s.putGens v).pending = s.pending := id rfl
@[simp] theorem State.putGens_freeCtr (v) : (s.putGens v).freeCtr = s.freeCtr := id rfl
@[simp] theorem State.putGens_now (v) : (s.putGens v).now = s.now := id rfl
@[simp] theorem State.putGens_regs (v) : (s.putGens v).regs = s.regs := id rfl
@[simp] theorem State.putGens_host (v) : (s.putGens v).host = s.host := id rfl
@[simp] theorem State.putGens_mbx (v) : (s.putGens v).mbx = s.mbx := id rfl
@[simp] theorem State.putGens_accts (v) : (s.putGens v).accts = s.accts := id rfl
@[simp] theorem State.putGens_snaps (v) : (s.putGens v).snaps = s.snaps := id rfl
@[simp] theorem State.putGens_faults (v) : (s.putGens v).faults = s.faults := id rfl
@[simp] theorem State.putGens_mem (v) : (s.putGens v).mem = s.mem := id rfl
@[simp] theorem State.putGens_flash (v) : (s.putGens v).flash = s.flash := id rfl
@[simp] theorem State.putGens_clusters (v) : (s.putGens v).clusters = s.clusters := id rfl
@[simp] theorem State.putGens_pkg (v) : (s.putGens v).pkg = s.pkg := id rfl
@[simp] theorem State.putGens_parts (v) : (s.putGens v).parts = s.parts := id rfl
@[simp] theorem State.putGens_objs (v) : (s.putGens v).objs = s.objs := id rfl
@[simp] theorem State.putGens_weights (v) : (s.putGens v).weights = s.weights := id rfl
@[simp] theorem State.putGens_adapters (v) : (s.putGens v).adapters = s.adapters := id rfl
@[simp] theorem State.putGens_shards (v) : (s.putGens v).shards = s.shards := id rfl
@[simp] theorem State.putGens_searches (v) : (s.putGens v).searches = s.searches := id rfl
@[simp] theorem State.putGens_walks (v) : (s.putGens v).walks = s.walks := id rfl
@[simp] theorem State.putGens_walkOrder (v) : (s.putGens v).walkOrder = s.walkOrder := id rfl
@[simp] theorem State.putGens_tables (v) : (s.putGens v).tables = s.tables := id rfl
@[simp] theorem State.putGens_lookups (v) : (s.putGens v).lookups = s.lookups := id rfl
@[simp] theorem State.putGens_bags (v) : (s.putGens v).bags = s.bags := id rfl
@[simp] theorem State.putGens_vocabs (v) : (s.putGens v).vocabs = s.vocabs := id rfl
@[simp] theorem State.putGens_streams (v) : (s.putGens v).streams = s.streams := id rfl
@[simp] theorem State.putGens_tasks (v) : (s.putGens v).tasks = s.tasks := id rfl
@[simp] theorem State.putGens_trees (v) : (s.putGens v).trees = s.trees := id rfl
@[simp] theorem State.putGens_probes (v) : (s.putGens v).probes = s.probes := id rfl
@[simp] theorem State.putGens_pools (v) : (s.putGens v).pools = s.pools := id rfl
@[simp] theorem State.putGens_gens (v) : (s.putGens v).gens = v := id rfl
@[simp] theorem State.putGens_retrieves (v) : (s.putGens v).retrieves = s.retrieves := id rfl
@[simp] theorem State.putGens_fab (v) : (s.putGens v).fab = s.fab := id rfl
@[simp] theorem State.putGens_power (v) : (s.putGens v).power = s.power := id rfl
@[simp] theorem State.putGens_health (v) : (s.putGens v).health = s.health := id rfl
@[simp] theorem State.putGens_nor (v) : (s.putGens v).nor = s.nor := id rfl
@[simp] theorem State.putGens_boot (v) : (s.putGens v).boot = s.boot := id rfl
@[simp] theorem State.putGens_sec (v) : (s.putGens v).sec = s.sec := id rfl
@[simp] theorem State.putGens_upd (v) : (s.putGens v).upd = s.upd := id rfl
@[simp] theorem State.putGens_board (v) : (s.putGens v).board = s.board := id rfl
@[simp] theorem State.putRetrieves_pending (v) : (s.putRetrieves v).pending = s.pending := id rfl
@[simp] theorem State.putRetrieves_freeCtr (v) : (s.putRetrieves v).freeCtr = s.freeCtr := id rfl
@[simp] theorem State.putRetrieves_now (v) : (s.putRetrieves v).now = s.now := id rfl
@[simp] theorem State.putRetrieves_regs (v) : (s.putRetrieves v).regs = s.regs := id rfl
@[simp] theorem State.putRetrieves_host (v) : (s.putRetrieves v).host = s.host := id rfl
@[simp] theorem State.putRetrieves_mbx (v) : (s.putRetrieves v).mbx = s.mbx := id rfl
@[simp] theorem State.putRetrieves_accts (v) : (s.putRetrieves v).accts = s.accts := id rfl
@[simp] theorem State.putRetrieves_snaps (v) : (s.putRetrieves v).snaps = s.snaps := id rfl
@[simp] theorem State.putRetrieves_faults (v) : (s.putRetrieves v).faults = s.faults := id rfl
@[simp] theorem State.putRetrieves_mem (v) : (s.putRetrieves v).mem = s.mem := id rfl
@[simp] theorem State.putRetrieves_flash (v) : (s.putRetrieves v).flash = s.flash := id rfl
@[simp] theorem State.putRetrieves_clusters (v) : (s.putRetrieves v).clusters = s.clusters := id rfl
@[simp] theorem State.putRetrieves_pkg (v) : (s.putRetrieves v).pkg = s.pkg := id rfl
@[simp] theorem State.putRetrieves_parts (v) : (s.putRetrieves v).parts = s.parts := id rfl
@[simp] theorem State.putRetrieves_objs (v) : (s.putRetrieves v).objs = s.objs := id rfl
@[simp] theorem State.putRetrieves_weights (v) : (s.putRetrieves v).weights = s.weights := id rfl
@[simp] theorem State.putRetrieves_adapters (v) : (s.putRetrieves v).adapters = s.adapters := id rfl
@[simp] theorem State.putRetrieves_shards (v) : (s.putRetrieves v).shards = s.shards := id rfl
@[simp] theorem State.putRetrieves_searches (v) : (s.putRetrieves v).searches = s.searches := id rfl
@[simp] theorem State.putRetrieves_walks (v) : (s.putRetrieves v).walks = s.walks := id rfl
@[simp] theorem State.putRetrieves_walkOrder (v) : (s.putRetrieves v).walkOrder = s.walkOrder := id rfl
@[simp] theorem State.putRetrieves_tables (v) : (s.putRetrieves v).tables = s.tables := id rfl
@[simp] theorem State.putRetrieves_lookups (v) : (s.putRetrieves v).lookups = s.lookups := id rfl
@[simp] theorem State.putRetrieves_bags (v) : (s.putRetrieves v).bags = s.bags := id rfl
@[simp] theorem State.putRetrieves_vocabs (v) : (s.putRetrieves v).vocabs = s.vocabs := id rfl
@[simp] theorem State.putRetrieves_streams (v) : (s.putRetrieves v).streams = s.streams := id rfl
@[simp] theorem State.putRetrieves_tasks (v) : (s.putRetrieves v).tasks = s.tasks := id rfl
@[simp] theorem State.putRetrieves_trees (v) : (s.putRetrieves v).trees = s.trees := id rfl
@[simp] theorem State.putRetrieves_probes (v) : (s.putRetrieves v).probes = s.probes := id rfl
@[simp] theorem State.putRetrieves_pools (v) : (s.putRetrieves v).pools = s.pools := id rfl
@[simp] theorem State.putRetrieves_gens (v) : (s.putRetrieves v).gens = s.gens := id rfl
@[simp] theorem State.putRetrieves_retrieves (v) : (s.putRetrieves v).retrieves = v := id rfl
@[simp] theorem State.putRetrieves_fab (v) : (s.putRetrieves v).fab = s.fab := id rfl
@[simp] theorem State.putRetrieves_power (v) : (s.putRetrieves v).power = s.power := id rfl
@[simp] theorem State.putRetrieves_health (v) : (s.putRetrieves v).health = s.health := id rfl
@[simp] theorem State.putRetrieves_nor (v) : (s.putRetrieves v).nor = s.nor := id rfl
@[simp] theorem State.putRetrieves_boot (v) : (s.putRetrieves v).boot = s.boot := id rfl
@[simp] theorem State.putRetrieves_sec (v) : (s.putRetrieves v).sec = s.sec := id rfl
@[simp] theorem State.putRetrieves_upd (v) : (s.putRetrieves v).upd = s.upd := id rfl
@[simp] theorem State.putRetrieves_board (v) : (s.putRetrieves v).board = s.board := id rfl
@[simp] theorem State.putFab_pending (v) : (s.putFab v).pending = s.pending := id rfl
@[simp] theorem State.putFab_freeCtr (v) : (s.putFab v).freeCtr = s.freeCtr := id rfl
@[simp] theorem State.putFab_now (v) : (s.putFab v).now = s.now := id rfl
@[simp] theorem State.putFab_regs (v) : (s.putFab v).regs = s.regs := id rfl
@[simp] theorem State.putFab_host (v) : (s.putFab v).host = s.host := id rfl
@[simp] theorem State.putFab_mbx (v) : (s.putFab v).mbx = s.mbx := id rfl
@[simp] theorem State.putFab_accts (v) : (s.putFab v).accts = s.accts := id rfl
@[simp] theorem State.putFab_snaps (v) : (s.putFab v).snaps = s.snaps := id rfl
@[simp] theorem State.putFab_faults (v) : (s.putFab v).faults = s.faults := id rfl
@[simp] theorem State.putFab_mem (v) : (s.putFab v).mem = s.mem := id rfl
@[simp] theorem State.putFab_flash (v) : (s.putFab v).flash = s.flash := id rfl
@[simp] theorem State.putFab_clusters (v) : (s.putFab v).clusters = s.clusters := id rfl
@[simp] theorem State.putFab_pkg (v) : (s.putFab v).pkg = s.pkg := id rfl
@[simp] theorem State.putFab_parts (v) : (s.putFab v).parts = s.parts := id rfl
@[simp] theorem State.putFab_objs (v) : (s.putFab v).objs = s.objs := id rfl
@[simp] theorem State.putFab_weights (v) : (s.putFab v).weights = s.weights := id rfl
@[simp] theorem State.putFab_adapters (v) : (s.putFab v).adapters = s.adapters := id rfl
@[simp] theorem State.putFab_shards (v) : (s.putFab v).shards = s.shards := id rfl
@[simp] theorem State.putFab_searches (v) : (s.putFab v).searches = s.searches := id rfl
@[simp] theorem State.putFab_walks (v) : (s.putFab v).walks = s.walks := id rfl
@[simp] theorem State.putFab_walkOrder (v) : (s.putFab v).walkOrder = s.walkOrder := id rfl
@[simp] theorem State.putFab_tables (v) : (s.putFab v).tables = s.tables := id rfl
@[simp] theorem State.putFab_lookups (v) : (s.putFab v).lookups = s.lookups := id rfl
@[simp] theorem State.putFab_bags (v) : (s.putFab v).bags = s.bags := id rfl
@[simp] theorem State.putFab_vocabs (v) : (s.putFab v).vocabs = s.vocabs := id rfl
@[simp] theorem State.putFab_streams (v) : (s.putFab v).streams = s.streams := id rfl
@[simp] theorem State.putFab_tasks (v) : (s.putFab v).tasks = s.tasks := id rfl
@[simp] theorem State.putFab_trees (v) : (s.putFab v).trees = s.trees := id rfl
@[simp] theorem State.putFab_probes (v) : (s.putFab v).probes = s.probes := id rfl
@[simp] theorem State.putFab_pools (v) : (s.putFab v).pools = s.pools := id rfl
@[simp] theorem State.putFab_gens (v) : (s.putFab v).gens = s.gens := id rfl
@[simp] theorem State.putFab_retrieves (v) : (s.putFab v).retrieves = s.retrieves := id rfl
@[simp] theorem State.putFab_fab (v) : (s.putFab v).fab = v := id rfl
@[simp] theorem State.putFab_power (v) : (s.putFab v).power = s.power := id rfl
@[simp] theorem State.putFab_health (v) : (s.putFab v).health = s.health := id rfl
@[simp] theorem State.putFab_nor (v) : (s.putFab v).nor = s.nor := id rfl
@[simp] theorem State.putFab_boot (v) : (s.putFab v).boot = s.boot := id rfl
@[simp] theorem State.putFab_sec (v) : (s.putFab v).sec = s.sec := id rfl
@[simp] theorem State.putFab_upd (v) : (s.putFab v).upd = s.upd := id rfl
@[simp] theorem State.putFab_board (v) : (s.putFab v).board = s.board := id rfl
@[simp] theorem State.putPower_pending (v) : (s.putPower v).pending = s.pending := id rfl
@[simp] theorem State.putPower_freeCtr (v) : (s.putPower v).freeCtr = s.freeCtr := id rfl
@[simp] theorem State.putPower_now (v) : (s.putPower v).now = s.now := id rfl
@[simp] theorem State.putPower_regs (v) : (s.putPower v).regs = s.regs := id rfl
@[simp] theorem State.putPower_host (v) : (s.putPower v).host = s.host := id rfl
@[simp] theorem State.putPower_mbx (v) : (s.putPower v).mbx = s.mbx := id rfl
@[simp] theorem State.putPower_accts (v) : (s.putPower v).accts = s.accts := id rfl
@[simp] theorem State.putPower_snaps (v) : (s.putPower v).snaps = s.snaps := id rfl
@[simp] theorem State.putPower_faults (v) : (s.putPower v).faults = s.faults := id rfl
@[simp] theorem State.putPower_mem (v) : (s.putPower v).mem = s.mem := id rfl
@[simp] theorem State.putPower_flash (v) : (s.putPower v).flash = s.flash := id rfl
@[simp] theorem State.putPower_clusters (v) : (s.putPower v).clusters = s.clusters := id rfl
@[simp] theorem State.putPower_pkg (v) : (s.putPower v).pkg = s.pkg := id rfl
@[simp] theorem State.putPower_parts (v) : (s.putPower v).parts = s.parts := id rfl
@[simp] theorem State.putPower_objs (v) : (s.putPower v).objs = s.objs := id rfl
@[simp] theorem State.putPower_weights (v) : (s.putPower v).weights = s.weights := id rfl
@[simp] theorem State.putPower_adapters (v) : (s.putPower v).adapters = s.adapters := id rfl
@[simp] theorem State.putPower_shards (v) : (s.putPower v).shards = s.shards := id rfl
@[simp] theorem State.putPower_searches (v) : (s.putPower v).searches = s.searches := id rfl
@[simp] theorem State.putPower_walks (v) : (s.putPower v).walks = s.walks := id rfl
@[simp] theorem State.putPower_walkOrder (v) : (s.putPower v).walkOrder = s.walkOrder := id rfl
@[simp] theorem State.putPower_tables (v) : (s.putPower v).tables = s.tables := id rfl
@[simp] theorem State.putPower_lookups (v) : (s.putPower v).lookups = s.lookups := id rfl
@[simp] theorem State.putPower_bags (v) : (s.putPower v).bags = s.bags := id rfl
@[simp] theorem State.putPower_vocabs (v) : (s.putPower v).vocabs = s.vocabs := id rfl
@[simp] theorem State.putPower_streams (v) : (s.putPower v).streams = s.streams := id rfl
@[simp] theorem State.putPower_tasks (v) : (s.putPower v).tasks = s.tasks := id rfl
@[simp] theorem State.putPower_trees (v) : (s.putPower v).trees = s.trees := id rfl
@[simp] theorem State.putPower_probes (v) : (s.putPower v).probes = s.probes := id rfl
@[simp] theorem State.putPower_pools (v) : (s.putPower v).pools = s.pools := id rfl
@[simp] theorem State.putPower_gens (v) : (s.putPower v).gens = s.gens := id rfl
@[simp] theorem State.putPower_retrieves (v) : (s.putPower v).retrieves = s.retrieves := id rfl
@[simp] theorem State.putPower_fab (v) : (s.putPower v).fab = s.fab := id rfl
@[simp] theorem State.putPower_power (v) : (s.putPower v).power = v := id rfl
@[simp] theorem State.putPower_health (v) : (s.putPower v).health = s.health := id rfl
@[simp] theorem State.putPower_nor (v) : (s.putPower v).nor = s.nor := id rfl
@[simp] theorem State.putPower_boot (v) : (s.putPower v).boot = s.boot := id rfl
@[simp] theorem State.putPower_sec (v) : (s.putPower v).sec = s.sec := id rfl
@[simp] theorem State.putPower_upd (v) : (s.putPower v).upd = s.upd := id rfl
@[simp] theorem State.putPower_board (v) : (s.putPower v).board = s.board := id rfl
@[simp] theorem State.putHealth_pending (v) : (s.putHealth v).pending = s.pending := id rfl
@[simp] theorem State.putHealth_freeCtr (v) : (s.putHealth v).freeCtr = s.freeCtr := id rfl
@[simp] theorem State.putHealth_now (v) : (s.putHealth v).now = s.now := id rfl
@[simp] theorem State.putHealth_regs (v) : (s.putHealth v).regs = s.regs := id rfl
@[simp] theorem State.putHealth_host (v) : (s.putHealth v).host = s.host := id rfl
@[simp] theorem State.putHealth_mbx (v) : (s.putHealth v).mbx = s.mbx := id rfl
@[simp] theorem State.putHealth_accts (v) : (s.putHealth v).accts = s.accts := id rfl
@[simp] theorem State.putHealth_snaps (v) : (s.putHealth v).snaps = s.snaps := id rfl
@[simp] theorem State.putHealth_faults (v) : (s.putHealth v).faults = s.faults := id rfl
@[simp] theorem State.putHealth_mem (v) : (s.putHealth v).mem = s.mem := id rfl
@[simp] theorem State.putHealth_flash (v) : (s.putHealth v).flash = s.flash := id rfl
@[simp] theorem State.putHealth_clusters (v) : (s.putHealth v).clusters = s.clusters := id rfl
@[simp] theorem State.putHealth_pkg (v) : (s.putHealth v).pkg = s.pkg := id rfl
@[simp] theorem State.putHealth_parts (v) : (s.putHealth v).parts = s.parts := id rfl
@[simp] theorem State.putHealth_objs (v) : (s.putHealth v).objs = s.objs := id rfl
@[simp] theorem State.putHealth_weights (v) : (s.putHealth v).weights = s.weights := id rfl
@[simp] theorem State.putHealth_adapters (v) : (s.putHealth v).adapters = s.adapters := id rfl
@[simp] theorem State.putHealth_shards (v) : (s.putHealth v).shards = s.shards := id rfl
@[simp] theorem State.putHealth_searches (v) : (s.putHealth v).searches = s.searches := id rfl
@[simp] theorem State.putHealth_walks (v) : (s.putHealth v).walks = s.walks := id rfl
@[simp] theorem State.putHealth_walkOrder (v) : (s.putHealth v).walkOrder = s.walkOrder := id rfl
@[simp] theorem State.putHealth_tables (v) : (s.putHealth v).tables = s.tables := id rfl
@[simp] theorem State.putHealth_lookups (v) : (s.putHealth v).lookups = s.lookups := id rfl
@[simp] theorem State.putHealth_bags (v) : (s.putHealth v).bags = s.bags := id rfl
@[simp] theorem State.putHealth_vocabs (v) : (s.putHealth v).vocabs = s.vocabs := id rfl
@[simp] theorem State.putHealth_streams (v) : (s.putHealth v).streams = s.streams := id rfl
@[simp] theorem State.putHealth_tasks (v) : (s.putHealth v).tasks = s.tasks := id rfl
@[simp] theorem State.putHealth_trees (v) : (s.putHealth v).trees = s.trees := id rfl
@[simp] theorem State.putHealth_probes (v) : (s.putHealth v).probes = s.probes := id rfl
@[simp] theorem State.putHealth_pools (v) : (s.putHealth v).pools = s.pools := id rfl
@[simp] theorem State.putHealth_gens (v) : (s.putHealth v).gens = s.gens := id rfl
@[simp] theorem State.putHealth_retrieves (v) : (s.putHealth v).retrieves = s.retrieves := id rfl
@[simp] theorem State.putHealth_fab (v) : (s.putHealth v).fab = s.fab := id rfl
@[simp] theorem State.putHealth_power (v) : (s.putHealth v).power = s.power := id rfl
@[simp] theorem State.putHealth_health (v) : (s.putHealth v).health = v := id rfl
@[simp] theorem State.putHealth_nor (v) : (s.putHealth v).nor = s.nor := id rfl
@[simp] theorem State.putHealth_boot (v) : (s.putHealth v).boot = s.boot := id rfl
@[simp] theorem State.putHealth_sec (v) : (s.putHealth v).sec = s.sec := id rfl
@[simp] theorem State.putHealth_upd (v) : (s.putHealth v).upd = s.upd := id rfl
@[simp] theorem State.putHealth_board (v) : (s.putHealth v).board = s.board := id rfl
@[simp] theorem State.putNor_pending (v) : (s.putNor v).pending = s.pending := id rfl
@[simp] theorem State.putNor_freeCtr (v) : (s.putNor v).freeCtr = s.freeCtr := id rfl
@[simp] theorem State.putNor_now (v) : (s.putNor v).now = s.now := id rfl
@[simp] theorem State.putNor_regs (v) : (s.putNor v).regs = s.regs := id rfl
@[simp] theorem State.putNor_host (v) : (s.putNor v).host = s.host := id rfl
@[simp] theorem State.putNor_mbx (v) : (s.putNor v).mbx = s.mbx := id rfl
@[simp] theorem State.putNor_accts (v) : (s.putNor v).accts = s.accts := id rfl
@[simp] theorem State.putNor_snaps (v) : (s.putNor v).snaps = s.snaps := id rfl
@[simp] theorem State.putNor_faults (v) : (s.putNor v).faults = s.faults := id rfl
@[simp] theorem State.putNor_mem (v) : (s.putNor v).mem = s.mem := id rfl
@[simp] theorem State.putNor_flash (v) : (s.putNor v).flash = s.flash := id rfl
@[simp] theorem State.putNor_clusters (v) : (s.putNor v).clusters = s.clusters := id rfl
@[simp] theorem State.putNor_pkg (v) : (s.putNor v).pkg = s.pkg := id rfl
@[simp] theorem State.putNor_parts (v) : (s.putNor v).parts = s.parts := id rfl
@[simp] theorem State.putNor_objs (v) : (s.putNor v).objs = s.objs := id rfl
@[simp] theorem State.putNor_weights (v) : (s.putNor v).weights = s.weights := id rfl
@[simp] theorem State.putNor_adapters (v) : (s.putNor v).adapters = s.adapters := id rfl
@[simp] theorem State.putNor_shards (v) : (s.putNor v).shards = s.shards := id rfl
@[simp] theorem State.putNor_searches (v) : (s.putNor v).searches = s.searches := id rfl
@[simp] theorem State.putNor_walks (v) : (s.putNor v).walks = s.walks := id rfl
@[simp] theorem State.putNor_walkOrder (v) : (s.putNor v).walkOrder = s.walkOrder := id rfl
@[simp] theorem State.putNor_tables (v) : (s.putNor v).tables = s.tables := id rfl
@[simp] theorem State.putNor_lookups (v) : (s.putNor v).lookups = s.lookups := id rfl
@[simp] theorem State.putNor_bags (v) : (s.putNor v).bags = s.bags := id rfl
@[simp] theorem State.putNor_vocabs (v) : (s.putNor v).vocabs = s.vocabs := id rfl
@[simp] theorem State.putNor_streams (v) : (s.putNor v).streams = s.streams := id rfl
@[simp] theorem State.putNor_tasks (v) : (s.putNor v).tasks = s.tasks := id rfl
@[simp] theorem State.putNor_trees (v) : (s.putNor v).trees = s.trees := id rfl
@[simp] theorem State.putNor_probes (v) : (s.putNor v).probes = s.probes := id rfl
@[simp] theorem State.putNor_pools (v) : (s.putNor v).pools = s.pools := id rfl
@[simp] theorem State.putNor_gens (v) : (s.putNor v).gens = s.gens := id rfl
@[simp] theorem State.putNor_retrieves (v) : (s.putNor v).retrieves = s.retrieves := id rfl
@[simp] theorem State.putNor_fab (v) : (s.putNor v).fab = s.fab := id rfl
@[simp] theorem State.putNor_power (v) : (s.putNor v).power = s.power := id rfl
@[simp] theorem State.putNor_health (v) : (s.putNor v).health = s.health := id rfl
@[simp] theorem State.putNor_nor (v) : (s.putNor v).nor = v := id rfl
@[simp] theorem State.putNor_boot (v) : (s.putNor v).boot = s.boot := id rfl
@[simp] theorem State.putNor_sec (v) : (s.putNor v).sec = s.sec := id rfl
@[simp] theorem State.putNor_upd (v) : (s.putNor v).upd = s.upd := id rfl
@[simp] theorem State.putNor_board (v) : (s.putNor v).board = s.board := id rfl
@[simp] theorem State.putBoot_pending (v) : (s.putBoot v).pending = s.pending := id rfl
@[simp] theorem State.putBoot_freeCtr (v) : (s.putBoot v).freeCtr = s.freeCtr := id rfl
@[simp] theorem State.putBoot_now (v) : (s.putBoot v).now = s.now := id rfl
@[simp] theorem State.putBoot_regs (v) : (s.putBoot v).regs = s.regs := id rfl
@[simp] theorem State.putBoot_host (v) : (s.putBoot v).host = s.host := id rfl
@[simp] theorem State.putBoot_mbx (v) : (s.putBoot v).mbx = s.mbx := id rfl
@[simp] theorem State.putBoot_accts (v) : (s.putBoot v).accts = s.accts := id rfl
@[simp] theorem State.putBoot_snaps (v) : (s.putBoot v).snaps = s.snaps := id rfl
@[simp] theorem State.putBoot_faults (v) : (s.putBoot v).faults = s.faults := id rfl
@[simp] theorem State.putBoot_mem (v) : (s.putBoot v).mem = s.mem := id rfl
@[simp] theorem State.putBoot_flash (v) : (s.putBoot v).flash = s.flash := id rfl
@[simp] theorem State.putBoot_clusters (v) : (s.putBoot v).clusters = s.clusters := id rfl
@[simp] theorem State.putBoot_pkg (v) : (s.putBoot v).pkg = s.pkg := id rfl
@[simp] theorem State.putBoot_parts (v) : (s.putBoot v).parts = s.parts := id rfl
@[simp] theorem State.putBoot_objs (v) : (s.putBoot v).objs = s.objs := id rfl
@[simp] theorem State.putBoot_weights (v) : (s.putBoot v).weights = s.weights := id rfl
@[simp] theorem State.putBoot_adapters (v) : (s.putBoot v).adapters = s.adapters := id rfl
@[simp] theorem State.putBoot_shards (v) : (s.putBoot v).shards = s.shards := id rfl
@[simp] theorem State.putBoot_searches (v) : (s.putBoot v).searches = s.searches := id rfl
@[simp] theorem State.putBoot_walks (v) : (s.putBoot v).walks = s.walks := id rfl
@[simp] theorem State.putBoot_walkOrder (v) : (s.putBoot v).walkOrder = s.walkOrder := id rfl
@[simp] theorem State.putBoot_tables (v) : (s.putBoot v).tables = s.tables := id rfl
@[simp] theorem State.putBoot_lookups (v) : (s.putBoot v).lookups = s.lookups := id rfl
@[simp] theorem State.putBoot_bags (v) : (s.putBoot v).bags = s.bags := id rfl
@[simp] theorem State.putBoot_vocabs (v) : (s.putBoot v).vocabs = s.vocabs := id rfl
@[simp] theorem State.putBoot_streams (v) : (s.putBoot v).streams = s.streams := id rfl
@[simp] theorem State.putBoot_tasks (v) : (s.putBoot v).tasks = s.tasks := id rfl
@[simp] theorem State.putBoot_trees (v) : (s.putBoot v).trees = s.trees := id rfl
@[simp] theorem State.putBoot_probes (v) : (s.putBoot v).probes = s.probes := id rfl
@[simp] theorem State.putBoot_pools (v) : (s.putBoot v).pools = s.pools := id rfl
@[simp] theorem State.putBoot_gens (v) : (s.putBoot v).gens = s.gens := id rfl
@[simp] theorem State.putBoot_retrieves (v) : (s.putBoot v).retrieves = s.retrieves := id rfl
@[simp] theorem State.putBoot_fab (v) : (s.putBoot v).fab = s.fab := id rfl
@[simp] theorem State.putBoot_power (v) : (s.putBoot v).power = s.power := id rfl
@[simp] theorem State.putBoot_health (v) : (s.putBoot v).health = s.health := id rfl
@[simp] theorem State.putBoot_nor (v) : (s.putBoot v).nor = s.nor := id rfl
@[simp] theorem State.putBoot_boot (v) : (s.putBoot v).boot = v := id rfl
@[simp] theorem State.putBoot_sec (v) : (s.putBoot v).sec = s.sec := id rfl
@[simp] theorem State.putBoot_upd (v) : (s.putBoot v).upd = s.upd := id rfl
@[simp] theorem State.putBoot_board (v) : (s.putBoot v).board = s.board := id rfl
@[simp] theorem State.putSec_pending (v) : (s.putSec v).pending = s.pending := id rfl
@[simp] theorem State.putSec_freeCtr (v) : (s.putSec v).freeCtr = s.freeCtr := id rfl
@[simp] theorem State.putSec_now (v) : (s.putSec v).now = s.now := id rfl
@[simp] theorem State.putSec_regs (v) : (s.putSec v).regs = s.regs := id rfl
@[simp] theorem State.putSec_host (v) : (s.putSec v).host = s.host := id rfl
@[simp] theorem State.putSec_mbx (v) : (s.putSec v).mbx = s.mbx := id rfl
@[simp] theorem State.putSec_accts (v) : (s.putSec v).accts = s.accts := id rfl
@[simp] theorem State.putSec_snaps (v) : (s.putSec v).snaps = s.snaps := id rfl
@[simp] theorem State.putSec_faults (v) : (s.putSec v).faults = s.faults := id rfl
@[simp] theorem State.putSec_mem (v) : (s.putSec v).mem = s.mem := id rfl
@[simp] theorem State.putSec_flash (v) : (s.putSec v).flash = s.flash := id rfl
@[simp] theorem State.putSec_clusters (v) : (s.putSec v).clusters = s.clusters := id rfl
@[simp] theorem State.putSec_pkg (v) : (s.putSec v).pkg = s.pkg := id rfl
@[simp] theorem State.putSec_parts (v) : (s.putSec v).parts = s.parts := id rfl
@[simp] theorem State.putSec_objs (v) : (s.putSec v).objs = s.objs := id rfl
@[simp] theorem State.putSec_weights (v) : (s.putSec v).weights = s.weights := id rfl
@[simp] theorem State.putSec_adapters (v) : (s.putSec v).adapters = s.adapters := id rfl
@[simp] theorem State.putSec_shards (v) : (s.putSec v).shards = s.shards := id rfl
@[simp] theorem State.putSec_searches (v) : (s.putSec v).searches = s.searches := id rfl
@[simp] theorem State.putSec_walks (v) : (s.putSec v).walks = s.walks := id rfl
@[simp] theorem State.putSec_walkOrder (v) : (s.putSec v).walkOrder = s.walkOrder := id rfl
@[simp] theorem State.putSec_tables (v) : (s.putSec v).tables = s.tables := id rfl
@[simp] theorem State.putSec_lookups (v) : (s.putSec v).lookups = s.lookups := id rfl
@[simp] theorem State.putSec_bags (v) : (s.putSec v).bags = s.bags := id rfl
@[simp] theorem State.putSec_vocabs (v) : (s.putSec v).vocabs = s.vocabs := id rfl
@[simp] theorem State.putSec_streams (v) : (s.putSec v).streams = s.streams := id rfl
@[simp] theorem State.putSec_tasks (v) : (s.putSec v).tasks = s.tasks := id rfl
@[simp] theorem State.putSec_trees (v) : (s.putSec v).trees = s.trees := id rfl
@[simp] theorem State.putSec_probes (v) : (s.putSec v).probes = s.probes := id rfl
@[simp] theorem State.putSec_pools (v) : (s.putSec v).pools = s.pools := id rfl
@[simp] theorem State.putSec_gens (v) : (s.putSec v).gens = s.gens := id rfl
@[simp] theorem State.putSec_retrieves (v) : (s.putSec v).retrieves = s.retrieves := id rfl
@[simp] theorem State.putSec_fab (v) : (s.putSec v).fab = s.fab := id rfl
@[simp] theorem State.putSec_power (v) : (s.putSec v).power = s.power := id rfl
@[simp] theorem State.putSec_health (v) : (s.putSec v).health = s.health := id rfl
@[simp] theorem State.putSec_nor (v) : (s.putSec v).nor = s.nor := id rfl
@[simp] theorem State.putSec_boot (v) : (s.putSec v).boot = s.boot := id rfl
@[simp] theorem State.putSec_sec (v) : (s.putSec v).sec = v := id rfl
@[simp] theorem State.putSec_upd (v) : (s.putSec v).upd = s.upd := id rfl
@[simp] theorem State.putSec_board (v) : (s.putSec v).board = s.board := id rfl
@[simp] theorem State.putUpd_pending (v) : (s.putUpd v).pending = s.pending := id rfl
@[simp] theorem State.putUpd_freeCtr (v) : (s.putUpd v).freeCtr = s.freeCtr := id rfl
@[simp] theorem State.putUpd_now (v) : (s.putUpd v).now = s.now := id rfl
@[simp] theorem State.putUpd_regs (v) : (s.putUpd v).regs = s.regs := id rfl
@[simp] theorem State.putUpd_host (v) : (s.putUpd v).host = s.host := id rfl
@[simp] theorem State.putUpd_mbx (v) : (s.putUpd v).mbx = s.mbx := id rfl
@[simp] theorem State.putUpd_accts (v) : (s.putUpd v).accts = s.accts := id rfl
@[simp] theorem State.putUpd_snaps (v) : (s.putUpd v).snaps = s.snaps := id rfl
@[simp] theorem State.putUpd_faults (v) : (s.putUpd v).faults = s.faults := id rfl
@[simp] theorem State.putUpd_mem (v) : (s.putUpd v).mem = s.mem := id rfl
@[simp] theorem State.putUpd_flash (v) : (s.putUpd v).flash = s.flash := id rfl
@[simp] theorem State.putUpd_clusters (v) : (s.putUpd v).clusters = s.clusters := id rfl
@[simp] theorem State.putUpd_pkg (v) : (s.putUpd v).pkg = s.pkg := id rfl
@[simp] theorem State.putUpd_parts (v) : (s.putUpd v).parts = s.parts := id rfl
@[simp] theorem State.putUpd_objs (v) : (s.putUpd v).objs = s.objs := id rfl
@[simp] theorem State.putUpd_weights (v) : (s.putUpd v).weights = s.weights := id rfl
@[simp] theorem State.putUpd_adapters (v) : (s.putUpd v).adapters = s.adapters := id rfl
@[simp] theorem State.putUpd_shards (v) : (s.putUpd v).shards = s.shards := id rfl
@[simp] theorem State.putUpd_searches (v) : (s.putUpd v).searches = s.searches := id rfl
@[simp] theorem State.putUpd_walks (v) : (s.putUpd v).walks = s.walks := id rfl
@[simp] theorem State.putUpd_walkOrder (v) : (s.putUpd v).walkOrder = s.walkOrder := id rfl
@[simp] theorem State.putUpd_tables (v) : (s.putUpd v).tables = s.tables := id rfl
@[simp] theorem State.putUpd_lookups (v) : (s.putUpd v).lookups = s.lookups := id rfl
@[simp] theorem State.putUpd_bags (v) : (s.putUpd v).bags = s.bags := id rfl
@[simp] theorem State.putUpd_vocabs (v) : (s.putUpd v).vocabs = s.vocabs := id rfl
@[simp] theorem State.putUpd_streams (v) : (s.putUpd v).streams = s.streams := id rfl
@[simp] theorem State.putUpd_tasks (v) : (s.putUpd v).tasks = s.tasks := id rfl
@[simp] theorem State.putUpd_trees (v) : (s.putUpd v).trees = s.trees := id rfl
@[simp] theorem State.putUpd_probes (v) : (s.putUpd v).probes = s.probes := id rfl
@[simp] theorem State.putUpd_pools (v) : (s.putUpd v).pools = s.pools := id rfl
@[simp] theorem State.putUpd_gens (v) : (s.putUpd v).gens = s.gens := id rfl
@[simp] theorem State.putUpd_retrieves (v) : (s.putUpd v).retrieves = s.retrieves := id rfl
@[simp] theorem State.putUpd_fab (v) : (s.putUpd v).fab = s.fab := id rfl
@[simp] theorem State.putUpd_power (v) : (s.putUpd v).power = s.power := id rfl
@[simp] theorem State.putUpd_health (v) : (s.putUpd v).health = s.health := id rfl
@[simp] theorem State.putUpd_nor (v) : (s.putUpd v).nor = s.nor := id rfl
@[simp] theorem State.putUpd_boot (v) : (s.putUpd v).boot = s.boot := id rfl
@[simp] theorem State.putUpd_sec (v) : (s.putUpd v).sec = s.sec := id rfl
@[simp] theorem State.putUpd_upd (v) : (s.putUpd v).upd = v := id rfl
@[simp] theorem State.putUpd_board (v) : (s.putUpd v).board = s.board := id rfl
@[simp] theorem State.putBoard_pending (v) : (s.putBoard v).pending = s.pending := id rfl
@[simp] theorem State.putBoard_freeCtr (v) : (s.putBoard v).freeCtr = s.freeCtr := id rfl
@[simp] theorem State.putBoard_now (v) : (s.putBoard v).now = s.now := id rfl
@[simp] theorem State.putBoard_regs (v) : (s.putBoard v).regs = s.regs := id rfl
@[simp] theorem State.putBoard_host (v) : (s.putBoard v).host = s.host := id rfl
@[simp] theorem State.putBoard_mbx (v) : (s.putBoard v).mbx = s.mbx := id rfl
@[simp] theorem State.putBoard_accts (v) : (s.putBoard v).accts = s.accts := id rfl
@[simp] theorem State.putBoard_snaps (v) : (s.putBoard v).snaps = s.snaps := id rfl
@[simp] theorem State.putBoard_faults (v) : (s.putBoard v).faults = s.faults := id rfl
@[simp] theorem State.putBoard_mem (v) : (s.putBoard v).mem = s.mem := id rfl
@[simp] theorem State.putBoard_flash (v) : (s.putBoard v).flash = s.flash := id rfl
@[simp] theorem State.putBoard_clusters (v) : (s.putBoard v).clusters = s.clusters := id rfl
@[simp] theorem State.putBoard_pkg (v) : (s.putBoard v).pkg = s.pkg := id rfl
@[simp] theorem State.putBoard_parts (v) : (s.putBoard v).parts = s.parts := id rfl
@[simp] theorem State.putBoard_objs (v) : (s.putBoard v).objs = s.objs := id rfl
@[simp] theorem State.putBoard_weights (v) : (s.putBoard v).weights = s.weights := id rfl
@[simp] theorem State.putBoard_adapters (v) : (s.putBoard v).adapters = s.adapters := id rfl
@[simp] theorem State.putBoard_shards (v) : (s.putBoard v).shards = s.shards := id rfl
@[simp] theorem State.putBoard_searches (v) : (s.putBoard v).searches = s.searches := id rfl
@[simp] theorem State.putBoard_walks (v) : (s.putBoard v).walks = s.walks := id rfl
@[simp] theorem State.putBoard_walkOrder (v) : (s.putBoard v).walkOrder = s.walkOrder := id rfl
@[simp] theorem State.putBoard_tables (v) : (s.putBoard v).tables = s.tables := id rfl
@[simp] theorem State.putBoard_lookups (v) : (s.putBoard v).lookups = s.lookups := id rfl
@[simp] theorem State.putBoard_bags (v) : (s.putBoard v).bags = s.bags := id rfl
@[simp] theorem State.putBoard_vocabs (v) : (s.putBoard v).vocabs = s.vocabs := id rfl
@[simp] theorem State.putBoard_streams (v) : (s.putBoard v).streams = s.streams := id rfl
@[simp] theorem State.putBoard_tasks (v) : (s.putBoard v).tasks = s.tasks := id rfl
@[simp] theorem State.putBoard_trees (v) : (s.putBoard v).trees = s.trees := id rfl
@[simp] theorem State.putBoard_probes (v) : (s.putBoard v).probes = s.probes := id rfl
@[simp] theorem State.putBoard_pools (v) : (s.putBoard v).pools = s.pools := id rfl
@[simp] theorem State.putBoard_gens (v) : (s.putBoard v).gens = s.gens := id rfl
@[simp] theorem State.putBoard_retrieves (v) : (s.putBoard v).retrieves = s.retrieves := id rfl
@[simp] theorem State.putBoard_fab (v) : (s.putBoard v).fab = s.fab := id rfl
@[simp] theorem State.putBoard_power (v) : (s.putBoard v).power = s.power := id rfl
@[simp] theorem State.putBoard_health (v) : (s.putBoard v).health = s.health := id rfl
@[simp] theorem State.putBoard_nor (v) : (s.putBoard v).nor = s.nor := id rfl
@[simp] theorem State.putBoard_boot (v) : (s.putBoard v).boot = s.boot := id rfl
@[simp] theorem State.putBoard_sec (v) : (s.putBoard v).sec = s.sec := id rfl
@[simp] theorem State.putBoard_upd (v) : (s.putBoard v).upd = s.upd := id rfl
@[simp] theorem State.putBoard_board (v) : (s.putBoard v).board = v := id rfl
@[simp] theorem State.putFreeCtr_reg (v) (k) : (s.putFreeCtr v).reg k = s.reg k := id rfl
@[simp] theorem State.putFreeCtr_rd (v) (f i) : (s.putFreeCtr v).rd f i = s.rd f i := id rfl
@[simp] theorem State.putFreeCtr_isSet (v) (f i) : (s.putFreeCtr v).isSet f i = s.isSet f i := id rfl
@[simp] theorem State.putNow_reg (v) (k) : (s.putNow v).reg k = s.reg k := id rfl
@[simp] theorem State.putNow_rd (v) (f i) : (s.putNow v).rd f i = s.rd f i := id rfl
@[simp] theorem State.putNow_isSet (v) (f i) : (s.putNow v).isSet f i = s.isSet f i := id rfl
@[simp] theorem State.putHost_reg (v) (k) : (s.putHost v).reg k = s.reg k := id rfl
@[simp] theorem State.putHost_rd (v) (f i) : (s.putHost v).rd f i = s.rd f i := id rfl
@[simp] theorem State.putHost_isSet (v) (f i) : (s.putHost v).isSet f i = s.isSet f i := id rfl
@[simp] theorem State.putMbx_reg (v) (k) : (s.putMbx v).reg k = s.reg k := id rfl
@[simp] theorem State.putMbx_rd (v) (f i) : (s.putMbx v).rd f i = s.rd f i := id rfl
@[simp] theorem State.putMbx_isSet (v) (f i) : (s.putMbx v).isSet f i = s.isSet f i := id rfl
@[simp] theorem State.putAccts_reg (v) (k) : (s.putAccts v).reg k = s.reg k := id rfl
@[simp] theorem State.putAccts_rd (v) (f i) : (s.putAccts v).rd f i = s.rd f i := id rfl
@[simp] theorem State.putAccts_isSet (v) (f i) : (s.putAccts v).isSet f i = s.isSet f i := id rfl
@[simp] theorem State.putSnaps_reg (v) (k) : (s.putSnaps v).reg k = s.reg k := id rfl
@[simp] theorem State.putSnaps_rd (v) (f i) : (s.putSnaps v).rd f i = s.rd f i := id rfl
@[simp] theorem State.putSnaps_isSet (v) (f i) : (s.putSnaps v).isSet f i = s.isSet f i := id rfl
@[simp] theorem State.putFaults_reg (v) (k) : (s.putFaults v).reg k = s.reg k := id rfl
@[simp] theorem State.putFaults_rd (v) (f i) : (s.putFaults v).rd f i = s.rd f i := id rfl
@[simp] theorem State.putFaults_isSet (v) (f i) : (s.putFaults v).isSet f i = s.isSet f i := id rfl
@[simp] theorem State.putMem_reg (v) (k) : (s.putMem v).reg k = s.reg k := id rfl
@[simp] theorem State.putMem_rd (v) (f i) : (s.putMem v).rd f i = s.rd f i := id rfl
@[simp] theorem State.putMem_isSet (v) (f i) : (s.putMem v).isSet f i = s.isSet f i := id rfl
@[simp] theorem State.putFlash_reg (v) (k) : (s.putFlash v).reg k = s.reg k := id rfl
@[simp] theorem State.putFlash_rd (v) (f i) : (s.putFlash v).rd f i = s.rd f i := id rfl
@[simp] theorem State.putFlash_isSet (v) (f i) : (s.putFlash v).isSet f i = s.isSet f i := id rfl
@[simp] theorem State.putClusters_reg (v) (k) : (s.putClusters v).reg k = s.reg k := id rfl
@[simp] theorem State.putClusters_rd (v) (f i) : (s.putClusters v).rd f i = s.rd f i := id rfl
@[simp] theorem State.putClusters_isSet (v) (f i) : (s.putClusters v).isSet f i = s.isSet f i := id rfl
@[simp] theorem State.putPkg_reg (v) (k) : (s.putPkg v).reg k = s.reg k := id rfl
@[simp] theorem State.putPkg_rd (v) (f i) : (s.putPkg v).rd f i = s.rd f i := id rfl
@[simp] theorem State.putPkg_isSet (v) (f i) : (s.putPkg v).isSet f i = s.isSet f i := id rfl
@[simp] theorem State.putParts_reg (v) (k) : (s.putParts v).reg k = s.reg k := id rfl
@[simp] theorem State.putParts_rd (v) (f i) : (s.putParts v).rd f i = s.rd f i := id rfl
@[simp] theorem State.putParts_isSet (v) (f i) : (s.putParts v).isSet f i = s.isSet f i := id rfl
@[simp] theorem State.putObjs_reg (v) (k) : (s.putObjs v).reg k = s.reg k := id rfl
@[simp] theorem State.putObjs_rd (v) (f i) : (s.putObjs v).rd f i = s.rd f i := id rfl
@[simp] theorem State.putObjs_isSet (v) (f i) : (s.putObjs v).isSet f i = s.isSet f i := id rfl
@[simp] theorem State.putWeights_reg (v) (k) : (s.putWeights v).reg k = s.reg k := id rfl
@[simp] theorem State.putWeights_rd (v) (f i) : (s.putWeights v).rd f i = s.rd f i := id rfl
@[simp] theorem State.putWeights_isSet (v) (f i) : (s.putWeights v).isSet f i = s.isSet f i := id rfl
@[simp] theorem State.putAdapters_reg (v) (k) : (s.putAdapters v).reg k = s.reg k := id rfl
@[simp] theorem State.putAdapters_rd (v) (f i) : (s.putAdapters v).rd f i = s.rd f i := id rfl
@[simp] theorem State.putAdapters_isSet (v) (f i) : (s.putAdapters v).isSet f i = s.isSet f i := id rfl
@[simp] theorem State.putShards_reg (v) (k) : (s.putShards v).reg k = s.reg k := id rfl
@[simp] theorem State.putShards_rd (v) (f i) : (s.putShards v).rd f i = s.rd f i := id rfl
@[simp] theorem State.putShards_isSet (v) (f i) : (s.putShards v).isSet f i = s.isSet f i := id rfl
@[simp] theorem State.putSearches_reg (v) (k) : (s.putSearches v).reg k = s.reg k := id rfl
@[simp] theorem State.putSearches_rd (v) (f i) : (s.putSearches v).rd f i = s.rd f i := id rfl
@[simp] theorem State.putSearches_isSet (v) (f i) : (s.putSearches v).isSet f i = s.isSet f i := id rfl
@[simp] theorem State.putWalks_reg (v) (k) : (s.putWalks v).reg k = s.reg k := id rfl
@[simp] theorem State.putWalks_rd (v) (f i) : (s.putWalks v).rd f i = s.rd f i := id rfl
@[simp] theorem State.putWalks_isSet (v) (f i) : (s.putWalks v).isSet f i = s.isSet f i := id rfl
@[simp] theorem State.putWalkOrder_reg (v) (k) : (s.putWalkOrder v).reg k = s.reg k := id rfl
@[simp] theorem State.putWalkOrder_rd (v) (f i) : (s.putWalkOrder v).rd f i = s.rd f i := id rfl
@[simp] theorem State.putWalkOrder_isSet (v) (f i) : (s.putWalkOrder v).isSet f i = s.isSet f i := id rfl
@[simp] theorem State.putTables_reg (v) (k) : (s.putTables v).reg k = s.reg k := id rfl
@[simp] theorem State.putTables_rd (v) (f i) : (s.putTables v).rd f i = s.rd f i := id rfl
@[simp] theorem State.putTables_isSet (v) (f i) : (s.putTables v).isSet f i = s.isSet f i := id rfl
@[simp] theorem State.putLookups_reg (v) (k) : (s.putLookups v).reg k = s.reg k := id rfl
@[simp] theorem State.putLookups_rd (v) (f i) : (s.putLookups v).rd f i = s.rd f i := id rfl
@[simp] theorem State.putLookups_isSet (v) (f i) : (s.putLookups v).isSet f i = s.isSet f i := id rfl
@[simp] theorem State.putBags_reg (v) (k) : (s.putBags v).reg k = s.reg k := id rfl
@[simp] theorem State.putBags_rd (v) (f i) : (s.putBags v).rd f i = s.rd f i := id rfl
@[simp] theorem State.putBags_isSet (v) (f i) : (s.putBags v).isSet f i = s.isSet f i := id rfl
@[simp] theorem State.putVocabs_reg (v) (k) : (s.putVocabs v).reg k = s.reg k := id rfl
@[simp] theorem State.putVocabs_rd (v) (f i) : (s.putVocabs v).rd f i = s.rd f i := id rfl
@[simp] theorem State.putVocabs_isSet (v) (f i) : (s.putVocabs v).isSet f i = s.isSet f i := id rfl
@[simp] theorem State.putStreams_reg (v) (k) : (s.putStreams v).reg k = s.reg k := id rfl
@[simp] theorem State.putStreams_rd (v) (f i) : (s.putStreams v).rd f i = s.rd f i := id rfl
@[simp] theorem State.putStreams_isSet (v) (f i) : (s.putStreams v).isSet f i = s.isSet f i := id rfl
@[simp] theorem State.putTasks_reg (v) (k) : (s.putTasks v).reg k = s.reg k := id rfl
@[simp] theorem State.putTasks_rd (v) (f i) : (s.putTasks v).rd f i = s.rd f i := id rfl
@[simp] theorem State.putTasks_isSet (v) (f i) : (s.putTasks v).isSet f i = s.isSet f i := id rfl
@[simp] theorem State.putTrees_reg (v) (k) : (s.putTrees v).reg k = s.reg k := id rfl
@[simp] theorem State.putTrees_rd (v) (f i) : (s.putTrees v).rd f i = s.rd f i := id rfl
@[simp] theorem State.putTrees_isSet (v) (f i) : (s.putTrees v).isSet f i = s.isSet f i := id rfl
@[simp] theorem State.putProbes_reg (v) (k) : (s.putProbes v).reg k = s.reg k := id rfl
@[simp] theorem State.putProbes_rd (v) (f i) : (s.putProbes v).rd f i = s.rd f i := id rfl
@[simp] theorem State.putProbes_isSet (v) (f i) : (s.putProbes v).isSet f i = s.isSet f i := id rfl
@[simp] theorem State.putPools_reg (v) (k) : (s.putPools v).reg k = s.reg k := id rfl
@[simp] theorem State.putPools_rd (v) (f i) : (s.putPools v).rd f i = s.rd f i := id rfl
@[simp] theorem State.putPools_isSet (v) (f i) : (s.putPools v).isSet f i = s.isSet f i := id rfl
@[simp] theorem State.putGens_reg (v) (k) : (s.putGens v).reg k = s.reg k := id rfl
@[simp] theorem State.putGens_rd (v) (f i) : (s.putGens v).rd f i = s.rd f i := id rfl
@[simp] theorem State.putGens_isSet (v) (f i) : (s.putGens v).isSet f i = s.isSet f i := id rfl
@[simp] theorem State.putRetrieves_reg (v) (k) : (s.putRetrieves v).reg k = s.reg k := id rfl
@[simp] theorem State.putRetrieves_rd (v) (f i) : (s.putRetrieves v).rd f i = s.rd f i := id rfl
@[simp] theorem State.putRetrieves_isSet (v) (f i) : (s.putRetrieves v).isSet f i = s.isSet f i := id rfl
@[simp] theorem State.putFab_reg (v) (k) : (s.putFab v).reg k = s.reg k := id rfl
@[simp] theorem State.putFab_rd (v) (f i) : (s.putFab v).rd f i = s.rd f i := id rfl
@[simp] theorem State.putFab_isSet (v) (f i) : (s.putFab v).isSet f i = s.isSet f i := id rfl
@[simp] theorem State.putPower_reg (v) (k) : (s.putPower v).reg k = s.reg k := id rfl
@[simp] theorem State.putPower_rd (v) (f i) : (s.putPower v).rd f i = s.rd f i := id rfl
@[simp] theorem State.putPower_isSet (v) (f i) : (s.putPower v).isSet f i = s.isSet f i := id rfl
@[simp] theorem State.putHealth_reg (v) (k) : (s.putHealth v).reg k = s.reg k := id rfl
@[simp] theorem State.putHealth_rd (v) (f i) : (s.putHealth v).rd f i = s.rd f i := id rfl
@[simp] theorem State.putHealth_isSet (v) (f i) : (s.putHealth v).isSet f i = s.isSet f i := id rfl
@[simp] theorem State.putNor_reg (v) (k) : (s.putNor v).reg k = s.reg k := id rfl
@[simp] theorem State.putNor_rd (v) (f i) : (s.putNor v).rd f i = s.rd f i := id rfl
@[simp] theorem State.putNor_isSet (v) (f i) : (s.putNor v).isSet f i = s.isSet f i := id rfl
@[simp] theorem State.putBoot_reg (v) (k) : (s.putBoot v).reg k = s.reg k := id rfl
@[simp] theorem State.putBoot_rd (v) (f i) : (s.putBoot v).rd f i = s.rd f i := id rfl
@[simp] theorem State.putBoot_isSet (v) (f i) : (s.putBoot v).isSet f i = s.isSet f i := id rfl
@[simp] theorem State.putSec_reg (v) (k) : (s.putSec v).reg k = s.reg k := id rfl
@[simp] theorem State.putSec_rd (v) (f i) : (s.putSec v).rd f i = s.rd f i := id rfl
@[simp] theorem State.putSec_isSet (v) (f i) : (s.putSec v).isSet f i = s.isSet f i := id rfl
@[simp] theorem State.putUpd_reg (v) (k) : (s.putUpd v).reg k = s.reg k := id rfl
@[simp] theorem State.putUpd_rd (v) (f i) : (s.putUpd v).rd f i = s.rd f i := id rfl
@[simp] theorem State.putUpd_isSet (v) (f i) : (s.putUpd v).isSet f i = s.isSet f i := id rfl
@[simp] theorem State.putBoard_reg (v) (k) : (s.putBoard v).reg k = s.reg k := id rfl
@[simp] theorem State.putBoard_rd (v) (f i) : (s.putBoard v).rd f i = s.rd f i := id rfl
@[simp] theorem State.putBoard_isSet (v) (f i) : (s.putBoard v).isSet f i = s.isSet f i := id rfl

@[simp] theorem State.updHost_eq (f) : s.updHost f = s.putHost (f s.host) := id rfl
@[simp] theorem State.updMem_eq (f) : s.updMem f = s.putMem (f s.mem) := id rfl
@[simp] theorem State.updBoard_eq (f) : s.updBoard f = s.putBoard (f s.board) := id rfl
@[simp] theorem State.updBoot_eq (f) : s.updBoot f = s.putBoot (f s.boot) := id rfl
@[simp] theorem State.updNor_eq (f) : s.updNor f = s.putNor (f s.nor) := id rfl
@[simp] theorem State.updFab_eq (f) : s.updFab f = s.putFab (f s.fab) := id rfl
@[simp] theorem State.updFaults_eq (f) : s.updFaults f = s.putFaults (f s.faults) := id rfl
@[simp] theorem State.updFlash_eq (f) : s.updFlash f = s.putFlash (f s.flash) := id rfl
@[simp] theorem State.updHealth_eq (f) : s.updHealth f = s.putHealth (f s.health) := id rfl
@[simp] theorem State.updPower_eq (f) : s.updPower f = s.putPower (f s.power) := id rfl
@[simp] theorem State.updSec_eq (f) : s.updSec f = s.putSec (f s.sec) := id rfl
@[simp] theorem State.updUpd_eq (f) : s.updUpd f = s.putUpd (f s.upd) := id rfl
@[simp] theorem State.updPkg_eq (f) : s.updPkg f = s.putPkg (f s.pkg) := id rfl
@[simp] theorem State.setPart_eq (p x) : s.setPart p x = s.putParts (aput s.parts p x) := id rfl
@[simp] theorem State.setCluster_eq (c x) : s.setCluster c x = s.putClusters (aput s.clusters c x) := id rfl

@[simp] theorem State.setReg_pending (k v) : (s.setReg k v).pending = s.pending := id rfl
@[simp] theorem State.setReg_freeCtr (k v) : (s.setReg k v).freeCtr = s.freeCtr := id rfl
@[simp] theorem State.setReg_now (k v) : (s.setReg k v).now = s.now := id rfl
@[simp] theorem State.setReg_host (k v) : (s.setReg k v).host = s.host := id rfl
@[simp] theorem State.setReg_mbx (k v) : (s.setReg k v).mbx = s.mbx := id rfl
@[simp] theorem State.setReg_accts (k v) : (s.setReg k v).accts = s.accts := id rfl
@[simp] theorem State.setReg_snaps (k v) : (s.setReg k v).snaps = s.snaps := id rfl
@[simp] theorem State.setReg_faults (k v) : (s.setReg k v).faults = s.faults := id rfl
@[simp] theorem State.setReg_mem (k v) : (s.setReg k v).mem = s.mem := id rfl
@[simp] theorem State.setReg_flash (k v) : (s.setReg k v).flash = s.flash := id rfl
@[simp] theorem State.setReg_clusters (k v) : (s.setReg k v).clusters = s.clusters := id rfl
@[simp] theorem State.setReg_pkg (k v) : (s.setReg k v).pkg = s.pkg := id rfl
@[simp] theorem State.setReg_parts (k v) : (s.setReg k v).parts = s.parts := id rfl
@[simp] theorem State.setReg_objs (k v) : (s.setReg k v).objs = s.objs := id rfl
@[simp] theorem State.setReg_weights (k v) : (s.setReg k v).weights = s.weights := id rfl
@[simp] theorem State.setReg_adapters (k v) : (s.setReg k v).adapters = s.adapters := id rfl
@[simp] theorem State.setReg_shards (k v) : (s.setReg k v).shards = s.shards := id rfl
@[simp] theorem State.setReg_searches (k v) : (s.setReg k v).searches = s.searches := id rfl
@[simp] theorem State.setReg_walks (k v) : (s.setReg k v).walks = s.walks := id rfl
@[simp] theorem State.setReg_walkOrder (k v) : (s.setReg k v).walkOrder = s.walkOrder := id rfl
@[simp] theorem State.setReg_tables (k v) : (s.setReg k v).tables = s.tables := id rfl
@[simp] theorem State.setReg_lookups (k v) : (s.setReg k v).lookups = s.lookups := id rfl
@[simp] theorem State.setReg_bags (k v) : (s.setReg k v).bags = s.bags := id rfl
@[simp] theorem State.setReg_vocabs (k v) : (s.setReg k v).vocabs = s.vocabs := id rfl
@[simp] theorem State.setReg_streams (k v) : (s.setReg k v).streams = s.streams := id rfl
@[simp] theorem State.setReg_tasks (k v) : (s.setReg k v).tasks = s.tasks := id rfl
@[simp] theorem State.setReg_trees (k v) : (s.setReg k v).trees = s.trees := id rfl
@[simp] theorem State.setReg_probes (k v) : (s.setReg k v).probes = s.probes := id rfl
@[simp] theorem State.setReg_pools (k v) : (s.setReg k v).pools = s.pools := id rfl
@[simp] theorem State.setReg_gens (k v) : (s.setReg k v).gens = s.gens := id rfl
@[simp] theorem State.setReg_retrieves (k v) : (s.setReg k v).retrieves = s.retrieves := id rfl
@[simp] theorem State.setReg_fab (k v) : (s.setReg k v).fab = s.fab := id rfl
@[simp] theorem State.setReg_power (k v) : (s.setReg k v).power = s.power := id rfl
@[simp] theorem State.setReg_health (k v) : (s.setReg k v).health = s.health := id rfl
@[simp] theorem State.setReg_nor (k v) : (s.setReg k v).nor = s.nor := id rfl
@[simp] theorem State.setReg_boot (k v) : (s.setReg k v).boot = s.boot := id rfl
@[simp] theorem State.setReg_sec (k v) : (s.setReg k v).sec = s.sec := id rfl
@[simp] theorem State.setReg_upd (k v) : (s.setReg k v).upd = s.upd := id rfl
@[simp] theorem State.setReg_board (k v) : (s.setReg k v).board = s.board := id rfl
@[simp] theorem State.wr_pending (f i v) : (s.wr f i v).pending = s.pending := id rfl
@[simp] theorem State.wr_freeCtr (f i v) : (s.wr f i v).freeCtr = s.freeCtr := id rfl
@[simp] theorem State.wr_now (f i v) : (s.wr f i v).now = s.now := id rfl
@[simp] theorem State.wr_host (f i v) : (s.wr f i v).host = s.host := id rfl
@[simp] theorem State.wr_mbx (f i v) : (s.wr f i v).mbx = s.mbx := id rfl
@[simp] theorem State.wr_accts (f i v) : (s.wr f i v).accts = s.accts := id rfl
@[simp] theorem State.wr_snaps (f i v) : (s.wr f i v).snaps = s.snaps := id rfl
@[simp] theorem State.wr_faults (f i v) : (s.wr f i v).faults = s.faults := id rfl
@[simp] theorem State.wr_mem (f i v) : (s.wr f i v).mem = s.mem := id rfl
@[simp] theorem State.wr_flash (f i v) : (s.wr f i v).flash = s.flash := id rfl
@[simp] theorem State.wr_clusters (f i v) : (s.wr f i v).clusters = s.clusters := id rfl
@[simp] theorem State.wr_pkg (f i v) : (s.wr f i v).pkg = s.pkg := id rfl
@[simp] theorem State.wr_parts (f i v) : (s.wr f i v).parts = s.parts := id rfl
@[simp] theorem State.wr_objs (f i v) : (s.wr f i v).objs = s.objs := id rfl
@[simp] theorem State.wr_weights (f i v) : (s.wr f i v).weights = s.weights := id rfl
@[simp] theorem State.wr_adapters (f i v) : (s.wr f i v).adapters = s.adapters := id rfl
@[simp] theorem State.wr_shards (f i v) : (s.wr f i v).shards = s.shards := id rfl
@[simp] theorem State.wr_searches (f i v) : (s.wr f i v).searches = s.searches := id rfl
@[simp] theorem State.wr_walks (f i v) : (s.wr f i v).walks = s.walks := id rfl
@[simp] theorem State.wr_walkOrder (f i v) : (s.wr f i v).walkOrder = s.walkOrder := id rfl
@[simp] theorem State.wr_tables (f i v) : (s.wr f i v).tables = s.tables := id rfl
@[simp] theorem State.wr_lookups (f i v) : (s.wr f i v).lookups = s.lookups := id rfl
@[simp] theorem State.wr_bags (f i v) : (s.wr f i v).bags = s.bags := id rfl
@[simp] theorem State.wr_vocabs (f i v) : (s.wr f i v).vocabs = s.vocabs := id rfl
@[simp] theorem State.wr_streams (f i v) : (s.wr f i v).streams = s.streams := id rfl
@[simp] theorem State.wr_tasks (f i v) : (s.wr f i v).tasks = s.tasks := id rfl
@[simp] theorem State.wr_trees (f i v) : (s.wr f i v).trees = s.trees := id rfl
@[simp] theorem State.wr_probes (f i v) : (s.wr f i v).probes = s.probes := id rfl
@[simp] theorem State.wr_pools (f i v) : (s.wr f i v).pools = s.pools := id rfl
@[simp] theorem State.wr_gens (f i v) : (s.wr f i v).gens = s.gens := id rfl
@[simp] theorem State.wr_retrieves (f i v) : (s.wr f i v).retrieves = s.retrieves := id rfl
@[simp] theorem State.wr_fab (f i v) : (s.wr f i v).fab = s.fab := id rfl
@[simp] theorem State.wr_power (f i v) : (s.wr f i v).power = s.power := id rfl
@[simp] theorem State.wr_health (f i v) : (s.wr f i v).health = s.health := id rfl
@[simp] theorem State.wr_nor (f i v) : (s.wr f i v).nor = s.nor := id rfl
@[simp] theorem State.wr_boot (f i v) : (s.wr f i v).boot = s.boot := id rfl
@[simp] theorem State.wr_sec (f i v) : (s.wr f i v).sec = s.sec := id rfl
@[simp] theorem State.wr_upd (f i v) : (s.wr f i v).upd = s.upd := id rfl
@[simp] theorem State.wr_board (f i v) : (s.wr f i v).board = s.board := id rfl
@[simp] theorem State.inc_pending (f i n) : (s.inc f i n).pending = s.pending := id rfl
@[simp] theorem State.inc_freeCtr (f i n) : (s.inc f i n).freeCtr = s.freeCtr := id rfl
@[simp] theorem State.inc_now (f i n) : (s.inc f i n).now = s.now := id rfl
@[simp] theorem State.inc_host (f i n) : (s.inc f i n).host = s.host := id rfl
@[simp] theorem State.inc_mbx (f i n) : (s.inc f i n).mbx = s.mbx := id rfl
@[simp] theorem State.inc_accts (f i n) : (s.inc f i n).accts = s.accts := id rfl
@[simp] theorem State.inc_snaps (f i n) : (s.inc f i n).snaps = s.snaps := id rfl
@[simp] theorem State.inc_faults (f i n) : (s.inc f i n).faults = s.faults := id rfl
@[simp] theorem State.inc_mem (f i n) : (s.inc f i n).mem = s.mem := id rfl
@[simp] theorem State.inc_flash (f i n) : (s.inc f i n).flash = s.flash := id rfl
@[simp] theorem State.inc_clusters (f i n) : (s.inc f i n).clusters = s.clusters := id rfl
@[simp] theorem State.inc_pkg (f i n) : (s.inc f i n).pkg = s.pkg := id rfl
@[simp] theorem State.inc_parts (f i n) : (s.inc f i n).parts = s.parts := id rfl
@[simp] theorem State.inc_objs (f i n) : (s.inc f i n).objs = s.objs := id rfl
@[simp] theorem State.inc_weights (f i n) : (s.inc f i n).weights = s.weights := id rfl
@[simp] theorem State.inc_adapters (f i n) : (s.inc f i n).adapters = s.adapters := id rfl
@[simp] theorem State.inc_shards (f i n) : (s.inc f i n).shards = s.shards := id rfl
@[simp] theorem State.inc_searches (f i n) : (s.inc f i n).searches = s.searches := id rfl
@[simp] theorem State.inc_walks (f i n) : (s.inc f i n).walks = s.walks := id rfl
@[simp] theorem State.inc_walkOrder (f i n) : (s.inc f i n).walkOrder = s.walkOrder := id rfl
@[simp] theorem State.inc_tables (f i n) : (s.inc f i n).tables = s.tables := id rfl
@[simp] theorem State.inc_lookups (f i n) : (s.inc f i n).lookups = s.lookups := id rfl
@[simp] theorem State.inc_bags (f i n) : (s.inc f i n).bags = s.bags := id rfl
@[simp] theorem State.inc_vocabs (f i n) : (s.inc f i n).vocabs = s.vocabs := id rfl
@[simp] theorem State.inc_streams (f i n) : (s.inc f i n).streams = s.streams := id rfl
@[simp] theorem State.inc_tasks (f i n) : (s.inc f i n).tasks = s.tasks := id rfl
@[simp] theorem State.inc_trees (f i n) : (s.inc f i n).trees = s.trees := id rfl
@[simp] theorem State.inc_probes (f i n) : (s.inc f i n).probes = s.probes := id rfl
@[simp] theorem State.inc_pools (f i n) : (s.inc f i n).pools = s.pools := id rfl
@[simp] theorem State.inc_gens (f i n) : (s.inc f i n).gens = s.gens := id rfl
@[simp] theorem State.inc_retrieves (f i n) : (s.inc f i n).retrieves = s.retrieves := id rfl
@[simp] theorem State.inc_fab (f i n) : (s.inc f i n).fab = s.fab := id rfl
@[simp] theorem State.inc_power (f i n) : (s.inc f i n).power = s.power := id rfl
@[simp] theorem State.inc_health (f i n) : (s.inc f i n).health = s.health := id rfl
@[simp] theorem State.inc_nor (f i n) : (s.inc f i n).nor = s.nor := id rfl
@[simp] theorem State.inc_boot (f i n) : (s.inc f i n).boot = s.boot := id rfl
@[simp] theorem State.inc_sec (f i n) : (s.inc f i n).sec = s.sec := id rfl
@[simp] theorem State.inc_upd (f i n) : (s.inc f i n).upd = s.upd := id rfl
@[simp] theorem State.inc_board (f i n) : (s.inc f i n).board = s.board := id rfl
@[simp] theorem State.incSat_pending (f i n) : (s.incSat f i n).pending = s.pending := id rfl
@[simp] theorem State.incSat_freeCtr (f i n) : (s.incSat f i n).freeCtr = s.freeCtr := id rfl
@[simp] theorem State.incSat_now (f i n) : (s.incSat f i n).now = s.now := id rfl
@[simp] theorem State.incSat_host (f i n) : (s.incSat f i n).host = s.host := id rfl
@[simp] theorem State.incSat_mbx (f i n) : (s.incSat f i n).mbx = s.mbx := id rfl
@[simp] theorem State.incSat_accts (f i n) : (s.incSat f i n).accts = s.accts := id rfl
@[simp] theorem State.incSat_snaps (f i n) : (s.incSat f i n).snaps = s.snaps := id rfl
@[simp] theorem State.incSat_faults (f i n) : (s.incSat f i n).faults = s.faults := id rfl
@[simp] theorem State.incSat_mem (f i n) : (s.incSat f i n).mem = s.mem := id rfl
@[simp] theorem State.incSat_flash (f i n) : (s.incSat f i n).flash = s.flash := id rfl
@[simp] theorem State.incSat_clusters (f i n) : (s.incSat f i n).clusters = s.clusters := id rfl
@[simp] theorem State.incSat_pkg (f i n) : (s.incSat f i n).pkg = s.pkg := id rfl
@[simp] theorem State.incSat_parts (f i n) : (s.incSat f i n).parts = s.parts := id rfl
@[simp] theorem State.incSat_objs (f i n) : (s.incSat f i n).objs = s.objs := id rfl
@[simp] theorem State.incSat_weights (f i n) : (s.incSat f i n).weights = s.weights := id rfl
@[simp] theorem State.incSat_adapters (f i n) : (s.incSat f i n).adapters = s.adapters := id rfl
@[simp] theorem State.incSat_shards (f i n) : (s.incSat f i n).shards = s.shards := id rfl
@[simp] theorem State.incSat_searches (f i n) : (s.incSat f i n).searches = s.searches := id rfl
@[simp] theorem State.incSat_walks (f i n) : (s.incSat f i n).walks = s.walks := id rfl
@[simp] theorem State.incSat_walkOrder (f i n) : (s.incSat f i n).walkOrder = s.walkOrder := id rfl
@[simp] theorem State.incSat_tables (f i n) : (s.incSat f i n).tables = s.tables := id rfl
@[simp] theorem State.incSat_lookups (f i n) : (s.incSat f i n).lookups = s.lookups := id rfl
@[simp] theorem State.incSat_bags (f i n) : (s.incSat f i n).bags = s.bags := id rfl
@[simp] theorem State.incSat_vocabs (f i n) : (s.incSat f i n).vocabs = s.vocabs := id rfl
@[simp] theorem State.incSat_streams (f i n) : (s.incSat f i n).streams = s.streams := id rfl
@[simp] theorem State.incSat_tasks (f i n) : (s.incSat f i n).tasks = s.tasks := id rfl
@[simp] theorem State.incSat_trees (f i n) : (s.incSat f i n).trees = s.trees := id rfl
@[simp] theorem State.incSat_probes (f i n) : (s.incSat f i n).probes = s.probes := id rfl
@[simp] theorem State.incSat_pools (f i n) : (s.incSat f i n).pools = s.pools := id rfl
@[simp] theorem State.incSat_gens (f i n) : (s.incSat f i n).gens = s.gens := id rfl
@[simp] theorem State.incSat_retrieves (f i n) : (s.incSat f i n).retrieves = s.retrieves := id rfl
@[simp] theorem State.incSat_fab (f i n) : (s.incSat f i n).fab = s.fab := id rfl
@[simp] theorem State.incSat_power (f i n) : (s.incSat f i n).power = s.power := id rfl
@[simp] theorem State.incSat_health (f i n) : (s.incSat f i n).health = s.health := id rfl
@[simp] theorem State.incSat_nor (f i n) : (s.incSat f i n).nor = s.nor := id rfl
@[simp] theorem State.incSat_boot (f i n) : (s.incSat f i n).boot = s.boot := id rfl
@[simp] theorem State.incSat_sec (f i n) : (s.incSat f i n).sec = s.sec := id rfl
@[simp] theorem State.incSat_upd (f i n) : (s.incSat f i n).upd = s.upd := id rfl
@[simp] theorem State.incSat_board (f i n) : (s.incSat f i n).board = s.board := id rfl
@[simp] theorem State.raise_pending (k u m a x o) : (s.raise k u m a x o).pending = s.pending := by unfold State.raise; dsimp only; split <;> rfl
@[simp] theorem State.raise_freeCtr (k u m a x o) : (s.raise k u m a x o).freeCtr = s.freeCtr := by unfold State.raise; dsimp only; split <;> rfl
@[simp] theorem State.raise_now (k u m a x o) : (s.raise k u m a x o).now = s.now := by unfold State.raise; dsimp only; split <;> rfl
@[simp] theorem State.raise_regs (k u m a x o) : (s.raise k u m a x o).regs = s.regs := by unfold State.raise; dsimp only; split <;> rfl
@[simp] theorem State.raise_host (k u m a x o) : (s.raise k u m a x o).host = s.host := by unfold State.raise; dsimp only; split <;> rfl
@[simp] theorem State.raise_mbx (k u m a x o) : (s.raise k u m a x o).mbx = s.mbx := by unfold State.raise; dsimp only; split <;> rfl
@[simp] theorem State.raise_accts (k u m a x o) : (s.raise k u m a x o).accts = s.accts := by unfold State.raise; dsimp only; split <;> rfl
@[simp] theorem State.raise_snaps (k u m a x o) : (s.raise k u m a x o).snaps = s.snaps := by unfold State.raise; dsimp only; split <;> rfl
@[simp] theorem State.raise_mem (k u m a x o) : (s.raise k u m a x o).mem = s.mem := by unfold State.raise; dsimp only; split <;> rfl
@[simp] theorem State.raise_flash (k u m a x o) : (s.raise k u m a x o).flash = s.flash := by unfold State.raise; dsimp only; split <;> rfl
@[simp] theorem State.raise_clusters (k u m a x o) : (s.raise k u m a x o).clusters = s.clusters := by unfold State.raise; dsimp only; split <;> rfl
@[simp] theorem State.raise_pkg (k u m a x o) : (s.raise k u m a x o).pkg = s.pkg := by unfold State.raise; dsimp only; split <;> rfl
@[simp] theorem State.raise_parts (k u m a x o) : (s.raise k u m a x o).parts = s.parts := by unfold State.raise; dsimp only; split <;> rfl
@[simp] theorem State.raise_objs (k u m a x o) : (s.raise k u m a x o).objs = s.objs := by unfold State.raise; dsimp only; split <;> rfl
@[simp] theorem State.raise_weights (k u m a x o) : (s.raise k u m a x o).weights = s.weights := by unfold State.raise; dsimp only; split <;> rfl
@[simp] theorem State.raise_adapters (k u m a x o) : (s.raise k u m a x o).adapters = s.adapters := by unfold State.raise; dsimp only; split <;> rfl
@[simp] theorem State.raise_shards (k u m a x o) : (s.raise k u m a x o).shards = s.shards := by unfold State.raise; dsimp only; split <;> rfl
@[simp] theorem State.raise_searches (k u m a x o) : (s.raise k u m a x o).searches = s.searches := by unfold State.raise; dsimp only; split <;> rfl
@[simp] theorem State.raise_walks (k u m a x o) : (s.raise k u m a x o).walks = s.walks := by unfold State.raise; dsimp only; split <;> rfl
@[simp] theorem State.raise_walkOrder (k u m a x o) : (s.raise k u m a x o).walkOrder = s.walkOrder := by unfold State.raise; dsimp only; split <;> rfl
@[simp] theorem State.raise_tables (k u m a x o) : (s.raise k u m a x o).tables = s.tables := by unfold State.raise; dsimp only; split <;> rfl
@[simp] theorem State.raise_lookups (k u m a x o) : (s.raise k u m a x o).lookups = s.lookups := by unfold State.raise; dsimp only; split <;> rfl
@[simp] theorem State.raise_bags (k u m a x o) : (s.raise k u m a x o).bags = s.bags := by unfold State.raise; dsimp only; split <;> rfl
@[simp] theorem State.raise_vocabs (k u m a x o) : (s.raise k u m a x o).vocabs = s.vocabs := by unfold State.raise; dsimp only; split <;> rfl
@[simp] theorem State.raise_streams (k u m a x o) : (s.raise k u m a x o).streams = s.streams := by unfold State.raise; dsimp only; split <;> rfl
@[simp] theorem State.raise_tasks (k u m a x o) : (s.raise k u m a x o).tasks = s.tasks := by unfold State.raise; dsimp only; split <;> rfl
@[simp] theorem State.raise_trees (k u m a x o) : (s.raise k u m a x o).trees = s.trees := by unfold State.raise; dsimp only; split <;> rfl
@[simp] theorem State.raise_probes (k u m a x o) : (s.raise k u m a x o).probes = s.probes := by unfold State.raise; dsimp only; split <;> rfl
@[simp] theorem State.raise_pools (k u m a x o) : (s.raise k u m a x o).pools = s.pools := by unfold State.raise; dsimp only; split <;> rfl
@[simp] theorem State.raise_gens (k u m a x o) : (s.raise k u m a x o).gens = s.gens := by unfold State.raise; dsimp only; split <;> rfl
@[simp] theorem State.raise_retrieves (k u m a x o) : (s.raise k u m a x o).retrieves = s.retrieves := by unfold State.raise; dsimp only; split <;> rfl
@[simp] theorem State.raise_fab (k u m a x o) : (s.raise k u m a x o).fab = s.fab := by unfold State.raise; dsimp only; split <;> rfl
@[simp] theorem State.raise_power (k u m a x o) : (s.raise k u m a x o).power = s.power := by unfold State.raise; dsimp only; split <;> rfl
@[simp] theorem State.raise_health (k u m a x o) : (s.raise k u m a x o).health = s.health := by unfold State.raise; dsimp only; split <;> rfl
@[simp] theorem State.raise_nor (k u m a x o) : (s.raise k u m a x o).nor = s.nor := by unfold State.raise; dsimp only; split <;> rfl
@[simp] theorem State.raise_boot (k u m a x o) : (s.raise k u m a x o).boot = s.boot := by unfold State.raise; dsimp only; split <;> rfl
@[simp] theorem State.raise_sec (k u m a x o) : (s.raise k u m a x o).sec = s.sec := by unfold State.raise; dsimp only; split <;> rfl
@[simp] theorem State.raise_upd (k u m a x o) : (s.raise k u m a x o).upd = s.upd := by unfold State.raise; dsimp only; split <;> rfl
@[simp] theorem State.raise_board (k u m a x o) : (s.raise k u m a x o).board = s.board := by unfold State.raise; dsimp only; split <;> rfl
@[simp] theorem State.behind_pending (q) : (s.behind q).pending = q := id rfl
@[simp] theorem State.behind_freeCtr (q) : (s.behind q).freeCtr = s.freeCtr := id rfl
@[simp] theorem State.behind_now (q) : (s.behind q).now = s.now := id rfl
@[simp] theorem State.behind_regs (q) : (s.behind q).regs = s.regs := id rfl
@[simp] theorem State.behind_host (q) : (s.behind q).host = s.host := id rfl
@[simp] theorem State.behind_mbx (q) : (s.behind q).mbx = s.mbx := id rfl
@[simp] theorem State.behind_accts (q) : (s.behind q).accts = s.accts := id rfl
@[simp] theorem State.behind_snaps (q) : (s.behind q).snaps = s.snaps := id rfl
@[simp] theorem State.behind_faults (q) : (s.behind q).faults = s.faults := id rfl
@[simp] theorem State.behind_mem (q) : (s.behind q).mem = s.mem := id rfl
@[simp] theorem State.behind_flash (q) : (s.behind q).flash = s.flash := id rfl
@[simp] theorem State.behind_clusters (q) : (s.behind q).clusters = s.clusters := id rfl
@[simp] theorem State.behind_pkg (q) : (s.behind q).pkg = s.pkg := id rfl
@[simp] theorem State.behind_parts (q) : (s.behind q).parts = s.parts := id rfl
@[simp] theorem State.behind_objs (q) : (s.behind q).objs = s.objs := id rfl
@[simp] theorem State.behind_weights (q) : (s.behind q).weights = s.weights := id rfl
@[simp] theorem State.behind_adapters (q) : (s.behind q).adapters = s.adapters := id rfl
@[simp] theorem State.behind_shards (q) : (s.behind q).shards = s.shards := id rfl
@[simp] theorem State.behind_searches (q) : (s.behind q).searches = s.searches := id rfl
@[simp] theorem State.behind_walks (q) : (s.behind q).walks = s.walks := id rfl
@[simp] theorem State.behind_walkOrder (q) : (s.behind q).walkOrder = s.walkOrder := id rfl
@[simp] theorem State.behind_tables (q) : (s.behind q).tables = s.tables := id rfl
@[simp] theorem State.behind_lookups (q) : (s.behind q).lookups = s.lookups := id rfl
@[simp] theorem State.behind_bags (q) : (s.behind q).bags = s.bags := id rfl
@[simp] theorem State.behind_vocabs (q) : (s.behind q).vocabs = s.vocabs := id rfl
@[simp] theorem State.behind_streams (q) : (s.behind q).streams = s.streams := id rfl
@[simp] theorem State.behind_tasks (q) : (s.behind q).tasks = s.tasks := id rfl
@[simp] theorem State.behind_trees (q) : (s.behind q).trees = s.trees := id rfl
@[simp] theorem State.behind_probes (q) : (s.behind q).probes = s.probes := id rfl
@[simp] theorem State.behind_pools (q) : (s.behind q).pools = s.pools := id rfl
@[simp] theorem State.behind_gens (q) : (s.behind q).gens = s.gens := id rfl
@[simp] theorem State.behind_retrieves (q) : (s.behind q).retrieves = s.retrieves := id rfl
@[simp] theorem State.behind_fab (q) : (s.behind q).fab = s.fab := id rfl
@[simp] theorem State.behind_power (q) : (s.behind q).power = s.power := id rfl
@[simp] theorem State.behind_health (q) : (s.behind q).health = s.health := id rfl
@[simp] theorem State.behind_nor (q) : (s.behind q).nor = s.nor := id rfl
@[simp] theorem State.behind_boot (q) : (s.behind q).boot = s.boot := id rfl
@[simp] theorem State.behind_sec (q) : (s.behind q).sec = s.sec := id rfl
@[simp] theorem State.behind_upd (q) : (s.behind q).upd = s.upd := id rfl
@[simp] theorem State.behind_board (q) : (s.behind q).board = s.board := id rfl
end

end Sys2Proof.Machine
end

