-- ==== Sys2Proof/Laws/Assoc.lean ====
section
/-! SUPPORT. Records under keys, and the first element of a list that satisfies a condition: what reads back after a change. -/

namespace Sys2Proof.Machine

section
variable {α : Type}

@[simp] theorem aget_aput_same (m : Sparse α) (k : Nat) (v : α) : aget (aput m k v) k = some v := by
  induction m with
  | nil => simp [aput, aget]
  | cons e r ih =>
    simp only [aput]
    split
    · simp [aget]
    · split
      · simp [aget]
      · simp [aget, *]

theorem aget_aput_ne (m : Sparse α) {k j : Nat} (v : α) (h : j ≠ k) : aget (aput m k v) j = aget m j := by
  induction m with
  | nil => simp [aput, aget, h]
  | cons e r ih =>
    simp only [aput]
    split
    · simp only [aget, if_neg h]
      split
      · rw [if_neg (by omega), if_pos (by omega)]
      · rfl
    · split
      · subst_vars; simp only [aget, if_neg h]
      · simp only [aget, ih]

@[simp] theorem aget_amod_same (m : Sparse α) (k : Nat) (f : α → α) : aget (amod m k f) k = (aget m k).map f := by
  induction m with
  | nil => rfl
  | cons e r ih =>
    simp only [amod, List.map_cons] at ih ⊢
    by_cases h : e.1 = k
    · simp [aget, h]
    · simp only [if_neg h, aget, if_neg (Ne.symm h)]
      split
      · rfl
      · exact ih

theorem aget_amod_ne (m : Sparse α) {k j : Nat} (f : α → α) (h : j ≠ k) : aget (amod m k f) j = aget m j := by
  induction m with
  | nil => rfl
  | cons e r ih =>
    simp only [amod, List.map_cons] at ih ⊢
    by_cases h' : e.1 = k
    · subst h'
      simp only [if_true, aget, if_neg h, ih]
    · simp only [if_neg h', aget, ih]

@[simp] theorem aget_adel_same (m : Sparse α) (k : Nat) : aget (adel m k) k = none := by
  induction m with
  | nil => rfl
  | cons e r ih =>
    unfold adel at ih ⊢
    by_cases h : e.1 = k
    · simpa [List.filter_cons, h] using ih
    · rw [List.filter_cons, if_pos (by simpa using h)]
      simp only [aget, if_neg (Ne.symm h)]
      split
      · rfl
      · exact ih

/-- The element a change of the first one that satisfies `p` leaves first, where the change keeps `p`. -/
theorem find?_modFirst {p : α → Bool} (f : α → α) (l : List α) {x : α} (h : l.find? p = some x) (hf : p (f x) = true) :
    (modFirst p f l).find? p = some (f x) := by
  induction l with
  | nil => simp at h
  | cons a r ih =>
    by_cases ha : p a = true
    · have e : a = x := by simpa [List.find?_cons, ha] using h
      subst e
      simp [modFirst, ha, hf]
    · simp only [modFirst, ha, Bool.false_eq_true, if_false]
      rw [List.find?_cons_of_neg ha] at h ⊢
      exact ih h

theorem mem_modFirst {p : α → Bool} (f : α → α) (l : List α) {x : α} (h : l.find? p = some x) : f x ∈ modFirst p f l := by
  induction l with
  | nil => simp at h
  | cons a r ih =>
    by_cases ha : p a = true
    · have e : a = x := by simpa [List.find?_cons, ha] using h
      subst e
      simp [modFirst, ha]
    · rw [List.find?_cons_of_neg ha] at h
      simp [modFirst, ha, ih h]

/-- A list where nothing satisfies `p` is left as it is. -/
theorem modFirst_none {p : α → Bool} (f : α → α) (l : List α) (h : l.find? p = none) : modFirst p f l = l := by
  induction l with
  | nil => rfl
  | cons a r ih =>
    rw [List.find?_eq_none] at h
    have ha := h a (by simp)
    simp only [modFirst, ha, Bool.false_eq_true, if_false]
    rw [ih (by rw [List.find?_eq_none]; exact fun x hx => h x (by simp [hx]))]

/-- Elements that do not satisfy `p` stay. -/
theorem mem_modFirst_of_neg {p : α → Bool} (f : α → α) (l : List α) {x : α} (h : x ∈ l) (hp : p x = false) : x ∈ modFirst p f l := by
  induction l with
  | nil => exact absurd h (by simp)
  | cons a r ih =>
    by_cases ha : p a = true
    · simp only [modFirst, ha, if_true]
      rcases List.mem_cons.1 h with e | e
      · subst e; rw [hp] at ha; exact absurd ha (by simp)
      · simp [e]
    · simp only [modFirst, ha, Bool.false_eq_true, if_false]
      rcases List.mem_cons.1 h with e | e
      · simp [e]
      · simp [ih e]

theorem mem_dropFirst_of_neg {p : α → Bool} (l : List α) {x : α} (h : x ∈ l) (hp : p x = false) : x ∈ dropFirst p l := by
  induction l with
  | nil => exact absurd h (by simp)
  | cons a r ih =>
    by_cases ha : p a = true
    · simp only [dropFirst, ha, if_true]
      rcases List.mem_cons.1 h with e | e
      · subst e; rw [hp] at ha; exact absurd ha (by simp)
      · exact e
    · simp only [dropFirst, ha, Bool.false_eq_true, if_false]
      rcases List.mem_cons.1 h with e | e
      · simp [e]
      · simp [ih e]

/-- The first element that satisfies `p` is gone. -/
theorem length_dropFirst {p : α → Bool} (l : List α) {x : α} (h : l.find? p = some x) : (dropFirst p l).length + 1 = l.length := by
  induction l with
  | nil => simp at h
  | cons a r ih =>
    by_cases ha : p a = true
    · simp [dropFirst, ha]
    · rw [List.find?_cons_of_neg ha] at h
      simp [dropFirst, ha, ih h]
end

/-! ## Clusters and partitions -/

@[simp] theorem State.cluster_put_same (s : State) (cl : Nat) (x : Cluster) : (s.putClusters (aput s.clusters cl x)).cluster cl = x := by
  simp [State.cluster]

theorem State.cluster_put_ne (s : State) {cl j : Nat} (x : Cluster) (h : j ≠ cl) :
    (s.putClusters (aput s.clusters cl x)).cluster j = s.cluster j := by
  simp [State.cluster, aget_aput_ne _ _ h]

@[simp] theorem State.part_put_same (s : State) (p : Nat) (x : Part) : (s.putParts (aput s.parts p x)).part p = x := by simp [State.part]

theorem State.part_put_ne (s : State) {p j : Nat} (x : Part) (h : j ≠ p) : (s.putParts (aput s.parts p x)).part j = s.part j := by
  simp [State.part, aget_aput_ne _ _ h]

end Sys2Proof.Machine
end

