-- ==== Sys2Proof/Laws/Board.lean ====
section
/-! SUPPORT. What each operation of Machine/Board.lean can change, in the terms of Laws/Eff.lean: one lemma an operation. -/

namespace Sys2Proof.Machine

theorem State.updBoard_eff : ∀ s f, Eff 549755813888 s (State.updBoard s f) := by
  intro s f
  unfold State.updBoard
  exact (State.putBoard_eff ..).mono rfl

theorem execLocateCommand_eff : ∀ on s, OutEff 549755813888 s (execLocateCommand on s) := by
  intro on s
  unfold execLocateCommand
  refine OutEff.next ?_
  exact (State.updBoard_eff ..).mono rfl

theorem State.i3cAssign_eff : ∀ s a, Eff 549755813888 s (State.i3cAssign s a) := by
  intro s a
  unfold State.i3cAssign
  refine Eff.ite ?_ ?_
  · exact Eff.refl ..
  · refine (State.updBoard_eff ..).step rfl ?_
    exact Eff.refl ..

theorem execI3cDynamicAddress_eff : ∀ addr s, OutEff 549755813888 s (execI3cDynamicAddress addr s) := by
  intro addr s
  unfold execI3cDynamicAddress
  refine OutEff.next ?_
  exact (State.i3cAssign_eff ..).mono rfl

theorem State.wakeRelease_eff : ∀ s w, Eff 549755813904 s (State.wakeRelease s w) := by
  intro s w
  unfold State.wakeRelease
  split
  · exact Eff.refl ..
  · split
    · refine (State.updBoard_eff ..).step rfl ?_
      exact (State.updHost_eff ..).mono rfl
    · refine Eff.ite ?_ ?_
      · refine (State.updBoard_eff ..).step rfl ?_
        exact Eff.refl ..
      · exact Eff.refl ..

theorem execWakeNRelease_eff : ∀ why s, OutEff 549755813904 s (execWakeNRelease why s) := by
  intro why s
  unfold execWakeNRelease
  refine OutEff.next ?_
  exact (State.wakeRelease_eff ..).mono rfl

end Sys2Proof.Machine
end

