-- ==== Sys2Proof/Laws/TopK.lean ====
section
/-! SUPPORT. What each operation of Machine/TopK.lean can change, in the terms of Laws/Eff.lean: one lemma an operation. -/

namespace Sys2Proof.Machine

theorem State.readLists_eff : ∀ n s k a acc, Eff 1133853425498 s (State.readLists n s k a acc).1 := by
  intro n s k a acc
  induction n generalizing s k a acc with
  | zero =>
    rw [State.readLists]
    refine Eff.pair_fst ?_
    exact Eff.refl ..
  | succ n ih =>
    rw [State.readLists]
    split
    · refine Eff.ite_fst ?_ ?_
      · refine Eff.pair_fst ?_
        refine (State.endReq_eff ..).step rfl ?_
        refine Eff.of_fst ‹_ = (_, _)› ?_
        exact (State.peek_eff ..).mono rfl
      · split
        · refine (ih ..).step rfl ?_
          refine Eff.of_fst ‹_ = (_, _)› ?_
          refine (State.peek_eff ..).step rfl ?_
          refine Eff.of_fst ‹_ = (_, _)› ?_
          exact (State.peek_eff ..).mono rfl
        · refine Eff.pair_fst ?_
          refine Eff.of_fst ‹_ = (_, _)› ?_
          refine (State.peek_eff ..).step rfl ?_
          refine Eff.of_fst ‹_ = (_, _)› ?_
          exact (State.peek_eff ..).mono rfl
    · refine Eff.pair_fst ?_
      refine Eff.of_fst ‹_ = (_, _)› ?_
      exact (State.peek_eff ..).mono rfl

theorem State.topkOut_eff : ∀ s k input rows mask, Eff 1133853425498 s (State.topkOut s k input rows mask) := by
  intro s k input rows mask
  unfold State.topkOut
  extract_lets +onlyGivenNames x0
  refine Eff.cut x0 ?_ ?_
  · subst x0
    refine (State.updReq_eff ..).step rfl ?_
    exact (State.setInputs_eff ..).mono rfl
  intro hx
  clear_value x0
  refine (State.endReq_eff ..).step rfl ?_
  refine (State.putOut_eff ..).step rfl ?_
  assumption

theorem State.topk_eff : ∀ s k, Eff 1133853425498 s (State.topk s k) := by
  intro s k
  unfold State.topk
  refine State.onReq_eff ?_ ?_
  · exact Eff.refl ..
  · intro a0
    refine Eff.ite ?_ ?_
    · exact Eff.refl ..
    · split
      · refine (State.endReq_eff ..).step rfl ?_
        exact Eff.refl ..
      · extract_lets +onlyGivenNames x1
        clear_value x1
        refine Eff.ite ?_ ?_
        · split
          · refine Eff.of_fst ‹_ = (_, _)› ?_
            exact (State.gather_eff ..).mono rfl
          · refine (State.topkOut_eff ..).step rfl ?_
            refine Eff.of_fst ‹_ = (_, _)› ?_
            exact (State.gather_eff ..).mono rfl
        · extract_lets +onlyGivenNames x2
          clear_value x2
          split
          · refine Eff.of_fst ‹_ = (_, _)› ?_
            exact (State.readLists_eff ..).mono rfl
          · extract_lets +onlyGivenNames x3
            clear_value x3
            extract_lets +onlyGivenNames x4
            refine Eff.cut x4 ?_ ?_
            · subst x4
              refine Eff.ite ?_ ?_
              · refine (State.charge_eff ..).step rfl ?_
                refine Eff.of_fst ‹_ = (_, _)› ?_
                exact (State.readLists_eff ..).mono rfl
              · refine Eff.of_fst ‹_ = (_, _)› ?_
                exact (State.readLists_eff ..).mono rfl
            intro hx
            clear_value x4
            refine (State.topkOut_eff ..).step rfl ?_
            assumption

theorem execOpTopk_eff : ∀ client req s, OutEff 1133853425498 s (execOpTopk client req s) := by
  intro client req s
  unfold execOpTopk
  refine OutEff.next ?_
  exact (State.topk_eff ..).mono rfl

theorem State.metaAt_eff : ∀ s x y n e, Eff 1133853425498 s (State.metaAt s x y n e).1 := by
  intro s x y n e
  unfold State.metaAt
  split
  · refine Eff.pair_fst ?_
    exact Eff.refl ..
  · extract_lets +onlyGivenNames x0
    clear_value x0
    refine Eff.ite_fst ?_ ?_
    · refine Eff.pair_fst ?_
      exact Eff.refl ..
    · extract_lets +onlyGivenNames x1
      refine Eff.cut x1.1 ?_ ?_
      · subst x1
        exact (State.readUnit_eff ..).mono rfl
      intro hx
      clear_value x1
      assumption

theorem State.fullVector_eff : ∀ s c x y n m, Eff 1133853425498 s (State.fullVector s c x y n m).1 := by
  intro s c x y n m
  unfold State.fullVector
  refine Eff.ite_fst ?_ ?_
  · extract_lets +onlyGivenNames x0
    clear_value x0
    refine Eff.ite_fst ?_ ?_
    · refine Eff.pair_fst ?_
      exact (State.raise_eff ..).mono rfl
    · extract_lets +onlyGivenNames x1
      refine Eff.cut x1.1 ?_ ?_
      · subst x1
        exact (State.readUnit_eff ..).mono rfl
      intro hx
      clear_value x1
      refine Eff.pair_fst ?_
      refine (State.charge_eff ..).step rfl ?_
      assumption
  · extract_lets +onlyGivenNames x2
    refine Eff.cut x2.1 ?_ ?_
    · subst x2
      exact (State.flashFetch_eff ..).mono rfl
    intro hx
    clear_value x2
    assumption

theorem State.rerankOne_eff (k : ReqKey) (q : List Byte) (m : State × Rerank) (c : Entry) :
    Eff 1133853425498 m.1 (State.rerankOne k q m c).1 := by
  unfold State.rerankOne
  extract_lets s
  refine Eff.ite_fst (Eff.refl ..) ?_
  split
  · exact Eff.refl ..
  · split
    · exact Eff.refl ..
    · split
      · exact Eff.pair_fst (Eff.refl ..)
      · extract_lets e i v
        refine Eff.ite_fst (Eff.refl ..) ?_
        refine Eff.cut i.1 ((State.metaAt_eff ..).mono rfl) fun hi => ?_
        refine Eff.cut v.1 ((State.fullVector_eff ..).step rfl hi) fun hv => ?_
        clear_value v i
        exact Eff.ite_fst hi (Eff.ite_fst hi (Eff.ite_fst hv hv))

theorem State.rerankExact_eff : ∀ s k q typ n req es, Eff 1133853425498 s (State.rerankExact s k q typ n req es).1 := by
  intro s k q typ n req es
  unfold State.rerankExact
  extract_lets m
  exact Eff.pair_fst (Eff.foldl_fst (fun s b a => (State.rerankOne_eff k q (s, b) a).mono rfl) (Eff.refl ..))

theorem State.opRerankExact_eff : ∀ s k, Eff 1133853425498 s (State.opRerankExact s k) := by
  intro s k
  unfold State.opRerankExact
  refine State.onReq_eff ?_ ?_
  · exact Eff.refl ..
  · intro a0
    refine Eff.ite ?_ ?_
    · exact Eff.refl ..
    · split
      · exact (State.endReq_eff ..).mono rfl
      · extract_lets +onlyGivenNames x1
        clear_value x1
        extract_lets +onlyGivenNames x2
        clear_value x2
        refine Eff.ite ?_ ?_
        · exact (State.endReq_eff ..).mono rfl
        · extract_lets +onlyGivenNames x3
          refine Eff.cut x3 ?_ ?_
          · subst x3
            refine Eff.foldl ?_ ?_
            · intro a4
              intro a5
              exact (State.pinShard_eff ..).mono rfl
            · exact Eff.refl ..
          intro hx
          clear_value x3
          extract_lets +onlyGivenNames x6
          refine Eff.cut x6 ?_ ?_
          · subst x6
            refine (State.updReq_eff ..).step rfl ?_
            assumption
          intro hx
          clear_value x6
          extract_lets +onlyGivenNames x7
          refine Eff.cut x7.1 ?_ ?_
          · subst x7
            refine (State.rerankExact_eff ..).step rfl ?_
            assumption
          intro hx
          clear_value x7
          refine Eff.ite ?_ ?_
          · assumption
          · refine Eff.ite ?_ ?_
            · refine (State.endPoison_eff ..).step rfl ?_
              assumption
            · refine Eff.ite ?_ ?_
              · refine (State.endReq_eff ..).step rfl ?_
                assumption
              · extract_lets +onlyGivenNames x8
                clear_value x8
                refine (State.endReq_eff ..).step rfl ?_
                refine (State.putOut_eff ..).step rfl ?_
                assumption

theorem execOpRerankExact_eff : ∀ client req s, OutEff 1133853425498 s (execOpRerankExact client req s) := by
  intro client req s
  unfold execOpRerankExact
  refine OutEff.next ?_
  exact (State.opRerankExact_eff ..).mono rfl

end Sys2Proof.Machine
end

