-- ==== Sys2Proof/Laws/Collective.lean ====
section
/-! SUPPORT. What each operation of Machine/Collective.lean can change, in the terms of Laws/Eff.lean: one lemma an operation. -/

namespace Sys2Proof.Machine

theorem State.sendList_eff : ∀ s k dst kind_ req root key list, Eff 4294967368 s (State.sendList s k dst kind_ req root key list) := by
  intro s k dst kind_ req root key list
  unfold State.sendList
  extract_lets +onlyGivenNames x0
  clear_value x0
  extract_lets +onlyGivenNames x1
  refine Eff.cut x1 ?_ ?_
  · subst x1
    refine Eff.ite ?_ ?_
    · exact Eff.refl ..
    · refine (State.chargeFab_eff ..).step rfl ?_
      exact Eff.refl ..
  intro hx
  clear_value x1
  refine Eff.foldl ?_ ?_
  · intro a2
    intro a3
    exact (State.sendHub_eff ..).mono rfl
  · assumption

theorem State.collCheck_eff : ∀ s k, Eff 1108083614552 s (State.collCheck s k) := by
  intro s k
  unfold State.collCheck
  split
  · extract_lets +onlyGivenNames x0
    clear_value x0
    refine Eff.ite ?_ ?_
    · exact Eff.refl ..
    · refine Eff.ite ?_ ?_
      · exact (State.endReq_eff ..).mono rfl
      · refine Eff.ite ?_ ?_
        · extract_lets +onlyGivenNames x1
          clear_value x1
          extract_lets +onlyGivenNames x2
          clear_value x2
          extract_lets +onlyGivenNames x3
          clear_value x3
          split
          · exact (State.gone_eff ..).mono rfl
          · extract_lets +onlyGivenNames x4
            refine Eff.cut x4 ?_ ?_
            · subst x4
              refine Eff.foldl ?_ ?_
              · intro a5
                intro a6
                exact (State.sendList_eff ..).mono rfl
              · exact Eff.refl ..
            intro hx
            clear_value x4
            extract_lets +onlyGivenNames x7
            clear_value x7
            extract_lets +onlyGivenNames x8
            refine Eff.cut x8 ?_ ?_
            · subst x8
              refine (State.updColl_eff ..).step rfl ?_
              assumption
            intro hx
            clear_value x8
            refine (State.updRetrieve_eff ..).step rfl ?_
            assumption
        · refine Eff.ite ?_ ?_
          · extract_lets +onlyGivenNames x9
            clear_value x9
            extract_lets +onlyGivenNames x10
            refine Eff.cut x10 ?_ ?_
            · subst x10
              exact (State.updColl_eff ..).mono rfl
            intro hx
            clear_value x10
            refine (State.updRetrieve_eff ..).step rfl ?_
            assumption
          · refine Eff.ite ?_ ?_
            · extract_lets +onlyGivenNames x11
              clear_value x11
              extract_lets +onlyGivenNames x12
              clear_value x12
              extract_lets +onlyGivenNames x13
              refine Eff.cut x13 ?_ ?_
              · subst x13
                exact (State.updFab_eff ..).mono rfl
              intro hx
              clear_value x13
              extract_lets +onlyGivenNames x14
              refine Eff.cut x14 ?_ ?_
              · subst x14
                refine (State.updReq_eff ..).step rfl ?_
                assumption
              intro hx
              clear_value x14
              extract_lets +onlyGivenNames x15
              clear_value x15
              refine (State.updRetrieve_eff ..).step rfl ?_
              assumption
            · exact Eff.refl ..
  · exact Eff.refl ..

theorem State.contributed_eff : ∀ s k m list, Eff 1108083614552 s (State.contributed s k m list) := by
  intro s k m list
  unfold State.contributed
  refine (State.collCheck_eff ..).step rfl ?_
  exact (State.updColl_eff ..).mono rfl

theorem State.contrib_eff : ∀ s m, Eff 1108083614552 s (State.contrib s m) := by
  intro s m
  unfold State.contrib
  extract_lets +onlyGivenNames x0
  refine Eff.cut x0 ?_ ?_
  · subst x0
    exact (State.takeFab_eff ..).mono rfl
  intro hx
  clear_value x0
  split
  · assumption
  · extract_lets +onlyGivenNames x1
    clear_value x1
    extract_lets +onlyGivenNames x2
    clear_value x2
    extract_lets +onlyGivenNames x3
    refine Eff.cut x3 ?_ ?_
    · subst x3
      refine (State.chargeFab_eff ..).step rfl ?_
      assumption
    intro hx
    clear_value x3
    refine Eff.ite ?_ ?_
    · assumption
    · refine Eff.ite ?_ ?_
      · refine (State.failWork_eff ..).step rfl ?_
        assumption
      · refine Eff.ite ?_ ?_
        · refine (State.failWork_eff ..).step rfl ?_
          refine (State.raise_eff ..).step rfl ?_
          assumption
        · extract_lets +onlyGivenNames x4
          clear_value x4
          extract_lets +onlyGivenNames x5
          refine Eff.cut x5 ?_ ?_
          · subst x5
            refine (State.updColl_eff ..).step rfl ?_
            assumption
          intro hx
          clear_value x5
          split
          · assumption
          · refine (State.contributed_eff ..).step rfl ?_
            assumption

theorem execContrib_eff : ∀ msg s, OutEff 1108083614552 s (execContrib msg s) := by
  intro msg s
  unfold execContrib
  refine OutEff.next ?_
  exact (State.contrib_eff ..).mono rfl

theorem State.fabError_eff : ∀ s m, Eff 1108083614552 s (State.fabError s m) := by
  intro s m
  unfold State.fabError
  extract_lets +onlyGivenNames x0
  refine Eff.cut x0 ?_ ?_
  · subst x0
    exact (State.takeFab_eff ..).mono rfl
  intro hx
  clear_value x0
  extract_lets +onlyGivenNames x1
  clear_value x1
  extract_lets +onlyGivenNames x2
  refine Eff.cut x2 ?_ ?_
  · subst x2
    refine Eff.foldl ?_ ?_
    · intro a3
      intro a4
      exact (State.failShared_eff ..).mono rfl
    · assumption
  intro hx
  clear_value x2
  refine Eff.foldl ?_ ?_
  · intro a5
    intro a6
    exact (State.endReq_eff ..).mono rfl
  · assumption

theorem execError_eff : ∀ msg s, OutEff 1108083614552 s (execError msg s) := by
  intro msg s
  unfold execError
  refine OutEff.next ?_
  exact (State.fabError_eff ..).mono rfl

theorem State.unreach_eff : ∀ s m, Eff 1108083614552 s (State.unreach s m) := by
  intro s m
  unfold State.unreach
  extract_lets +onlyGivenNames x0
  refine Eff.cut x0 ?_ ?_
  · subst x0
    exact (State.takeFab_eff ..).mono rfl
  intro hx
  clear_value x0
  extract_lets +onlyGivenNames x1
  clear_value x1
  extract_lets +onlyGivenNames x2
  refine Eff.cut x2 ?_ ?_
  · subst x2
    refine (State.raise_eff ..).step rfl ?_
    assumption
  intro hx
  clear_value x2
  extract_lets +onlyGivenNames x3
  clear_value x3
  extract_lets +onlyGivenNames x4
  refine Eff.cut x4 ?_ ?_
  · subst x4
    refine Eff.foldl ?_ ?_
    · intro a5
      intro a6
      exact (State.gone_eff ..).mono rfl
    · assumption
  intro hx
  clear_value x4
  refine Eff.foldl ?_ ?_
  · intro a7
    intro a8
    exact (State.endReq_eff ..).mono rfl
  · assumption

theorem execUnreach_eff : ∀ msg s, OutEff 1108083614552 s (execUnreach msg s) := by
  intro msg s
  unfold execUnreach
  refine OutEff.next ?_
  exact (State.unreach_eff ..).mono rfl

theorem State.collTimeout_eff : ∀ s req m, Eff 1108083614552 s (State.collTimeout s req m) := by
  intro s req m
  unfold State.collTimeout
  split
  · exact Eff.refl ..
  · extract_lets +onlyGivenNames x0
    clear_value x0
    refine Eff.ite ?_ ?_
    · exact Eff.refl ..
    · refine (State.gone_eff ..).step rfl ?_
      exact Eff.refl ..

theorem execCollectiveTimeout_eff : ∀ req participant s, OutEff 1108083614552 s (execCollectiveTimeout req participant s) := by
  intro req participant s
  unfold execCollectiveTimeout
  refine OutEff.next ?_
  exact (State.collTimeout_eff ..).mono rfl

theorem State.contribute_eff : ∀ s k key list, Eff 1108083614552 s (State.contribute s k key list) := by
  intro s k key list
  unfold State.contribute
  split
  · exact (State.contributed_eff ..).mono rfl
  · refine Eff.ite ?_ ?_
    · exact (State.endReq_eff ..).mono rfl
    · exact (State.sendList_eff ..).mono rfl

theorem State.shardAssemble_eff : ∀ s k slot, Eff 1133854474074 s (State.shardAssemble s k slot) := by
  intro s k slot
  unfold State.shardAssemble
  split
  · exact Eff.refl ..
  · split
    · exact Eff.refl ..
    · refine (State.endReq_eff ..).step rfl ?_
      exact Eff.refl ..
    · refine (State.queueWalks_eff ..).step rfl ?_
      refine (State.updSearch_eff ..).step rfl ?_
      exact (State.clearWalks_eff ..).mono rfl
    · extract_lets +onlyGivenNames x0
      clear_value x0
      extract_lets +onlyGivenNames x1
      refine Eff.cut x1 ?_ ?_
      · subst x1
        refine (State.updSearch_eff ..).step rfl ?_
        exact (State.clearWalks_eff ..).mono rfl
      intro hx
      clear_value x1
      refine Eff.ite ?_ ?_
      · assumption
      · refine Eff.ite ?_ ?_
        · refine (State.searchOut_eff ..).step rfl ?_
          assumption
        · extract_lets +onlyGivenNames x2
          refine Eff.cut x2 ?_ ?_
          · subst x2
            refine (State.putSearches_eff ..).step rfl ?_
            assumption
          intro hx
          clear_value x2
          refine (State.contribute_eff ..).step rfl ?_
          assumption

theorem execShardResultAssemble_eff : ∀ client req slot s, OutEff 1133854474074 s (execShardResultAssemble client req slot s) := by
  intro client req slot s
  unfold execShardResultAssemble
  refine OutEff.next ?_
  exact (State.shardAssemble_eff ..).mono rfl

theorem State.pinNamed_eff : ∀ s k named, Eff 131072 s (State.pinNamed s k named) := by
  intro s k named
  unfold State.pinNamed
  refine Eff.foldl ?_ ?_
  · intro a0
    intro a1
    refine Eff.ite ?_ ?_
    · exact (State.pinShard_eff ..).mono rfl
    · exact Eff.refl ..
  · exact Eff.refl ..

theorem State.secondList_eff : ∀ s k vec list k2 req, Eff 1133853425498 s (State.secondList s k vec list k2 req).1 := by
  intro s k vec list k2 req
  unfold State.secondList
  refine Eff.ite_fst ?_ ?_
  · refine Eff.pair_fst ?_
    exact Eff.refl ..
  · extract_lets +onlyGivenNames x0
    refine Eff.cut x0.1 ?_ ?_
    · subst x0
      exact (State.rerankExact_eff ..).mono rfl
    intro hx
    clear_value x0
    refine Eff.pair_fst ?_
    refine Eff.ite ?_ ?_
    · refine (State.raise_eff ..).step rfl ?_
      assumption
    · assumption

theorem State.fabResult_eff : ∀ s m, Eff 1133853425498 s (State.fabResult s m) := by
  intro s m
  unfold State.fabResult
  extract_lets +onlyGivenNames x0
  refine Eff.cut x0 ?_ ?_
  · subst x0
    exact (State.takeFab_eff ..).mono rfl
  intro hx
  clear_value x0
  extract_lets +onlyGivenNames x1
  clear_value x1
  split
  · assumption
  · extract_lets +onlyGivenNames x2
    clear_value x2
    refine Eff.ite ?_ ?_
    · refine (State.endReq_eff ..).step rfl ?_
      refine (State.raise_eff ..).step rfl ?_
      assumption
    · extract_lets +onlyGivenNames x3
      clear_value x3
      extract_lets +onlyGivenNames x4
      refine Eff.cut x4 ?_ ?_
      · subst x4
        refine (State.updFab_eff ..).step rfl ?_
        assumption
      intro hx
      clear_value x4
      split
      · assumption
      · extract_lets +onlyGivenNames x5
        refine Eff.cut x5 ?_ ?_
        · subst x5
          refine (State.updFab_eff ..).step rfl ?_
          assumption
        intro hx
        clear_value x5
        extract_lets +onlyGivenNames x6
        refine Eff.cut x6.1 ?_ ?_
        · subst x6
          refine (State.secondList_eff ..).step rfl ?_
          assumption
        intro hx
        clear_value x6
        refine Eff.ite ?_ ?_
        · refine (State.endReq_eff ..).step rfl ?_
          assumption
        · refine (State.contribute_eff ..).step rfl ?_
          assumption

theorem execResult_eff : ∀ msg s, OutEff 1133853425498 s (execResult msg s) := by
  intro msg s
  unfold execResult
  refine OutEff.next ?_
  exact (State.fabResult_eff ..).mono rfl

theorem State.passageText_eff : ∀ s c x slot n0 len e bs, Eff 4294968648 s (State.passageText s c x slot n0 len e bs).1 := by
  intro s c x slot n0 len e bs
  unfold State.passageText
  extract_lets +onlyGivenNames x0
  refine Eff.cut x0.1 ?_ ?_
  · subst x0
    exact (State.flashFetch_eff ..).mono rfl
  intro hx
  clear_value x0
  assumption

theorem State.passageAt_eff : ∀ s c x slot n0 e, Eff 4294968648 s (State.passageAt s c x slot n0 e).1 := by
  intro s c x slot n0 e
  unfold State.passageAt
  extract_lets a len
  refine Eff.cut a.1 ((State.flashFetch_eff ..).mono rfl) fun ha => ?_
  clear_value a len
  split
  · exact ha
  · split
    · exact ha
    · exact (State.passageText_eff ..).step rfl ha

theorem State.passage_eff : ∀ s c x y n e, Eff 1133853425498 s (State.passage s c x y n e).1 := by
  intro s c x y n e
  unfold State.passage
  extract_lets i
  refine Eff.cut i.1 ((State.metaAt_eff ..).mono rfl) fun hi => ?_
  clear_value i
  split
  · exact hi
  · exact (State.passageAt_eff ..).step rfl hi

theorem State.passageRecs_eff : ∀ s k hs, Eff 1133853425498 s (State.passageRecs s k hs).1 := by
  intro s k hs
  unfold State.passageRecs
  refine Eff.foldl_fst (fun s b h => ?_) (Eff.pair_fst (Eff.refl ..))
  refine Eff.ite_fst (Eff.pair_fst (Eff.refl ..)) ?_
  split
  · exact Eff.pair_fst (Eff.refl ..)
  · exact Eff.pair_fst (State.passage_eff ..)

theorem State.fetchAnswer_eff : ∀ s k hs, Eff 1133853425498 s (State.fetchAnswer s k hs).1 := by
  intro s k hs
  unfold State.fetchAnswer
  extract_lets +onlyGivenNames x0
  refine Eff.cut x0.1 ?_ ?_
  · subst x0
    exact (State.passageRecs_eff ..).mono rfl
  intro hx
  clear_value x0
  refine Eff.ite_fst ?_ ?_
  · refine Eff.pair_fst ?_
    refine (State.raise_eff ..).step rfl ?_
    assumption
  · refine Eff.pair_fst ?_
    assumption

theorem State.takeQuery_eff : ∀ s m b, Eff 4296933400 s (State.takeQuery s m b) := by
  intro s m b
  unfold State.takeQuery
  split
  · exact (State.sendError_eff ..).mono rfl
  · exact Eff.refl ..
  · extract_lets +onlyGivenNames x0
    clear_value x0
    extract_lets +onlyGivenNames x1
    refine Eff.cut x1.1 ?_ ?_
    · subst x1
      exact (State.beginRemote_eff ..).mono rfl
    intro hx
    clear_value x1
    refine (State.beginSearch_eff ..).step rfl ?_
    refine (State.pinNamed_eff ..).step rfl ?_
    assumption

theorem State.takeFetch_eff : ∀ s m b, Eff 1133853425498 s (State.takeFetch s m b) := by
  intro s m b
  unfold State.takeFetch
  split
  · exact Eff.refl ..
  · extract_lets +onlyGivenNames x0
    refine Eff.cut x0.1 ?_ ?_
    · subst x0
      exact (State.fetchAnswer_eff ..).mono rfl
    intro hx
    clear_value x0
    refine Eff.ite ?_ ?_
    · refine (State.endReq_eff ..).step rfl ?_
      assumption
    · refine (State.endReq_eff ..).step rfl ?_
      refine (State.sendWork_eff ..).step rfl ?_
      assumption

theorem State.queryFanout_eff : ∀ s m, Eff 1133854474074 s (State.queryFanout s m) := by
  intro s m
  unfold State.queryFanout
  refine Eff.ite ?_ ?_
  · exact Eff.refl ..
  · refine Eff.ite ?_ ?_
    · extract_lets +onlyGivenNames x0
      refine Eff.cut x0 ?_ ?_
      · subst x0
        refine (State.raise_eff ..).step rfl ?_
        exact (State.takeFab_eff ..).mono rfl
      intro hx
      clear_value x0
      refine Eff.foldl ?_ ?_
      · intro a1
        intro a2
        exact (State.failShared_eff ..).mono rfl
      · refine (State.sendError_eff ..).step rfl ?_
        assumption
    · split
      · refine Eff.of_fst ‹_ = (_, _)› ?_
        exact (State.takeWork_eff ..).mono rfl
      · refine Eff.ite ?_ ?_
        · split
          · exact Eff.refl ..
          · refine (State.takeQuery_eff ..).step rfl ?_
            refine Eff.of_fst ‹_ = (_, _)› ?_
            exact (State.takeWork_eff ..).mono rfl
        · refine Eff.ite ?_ ?_
          · refine (State.takeFetch_eff ..).step rfl ?_
            refine Eff.of_fst ‹_ = (_, _)› ?_
            exact (State.takeWork_eff ..).mono rfl
          · extract_lets +onlyGivenNames x3
            clear_value x3
            refine (State.contributed_eff ..).step rfl ?_
            refine (State.chargeFab_eff ..).step rfl ?_
            refine Eff.of_fst ‹_ = (_, _)› ?_
            exact (State.takeWork_eff ..).mono rfl

theorem execQueryFanout_eff : ∀ msg s, OutEff 1133854474074 s (execQueryFanout msg s) := by
  intro msg s
  unfold execQueryFanout
  refine OutEff.next ?_
  exact (State.queryFanout_eff ..).mono rfl

end Sys2Proof.Machine
end

