-- ==== Sys2Proof/Laws/Health.lean ====
section
/-! SUPPORT. What each operation of Machine/Health.lean can change, in the terms of Laws/Eff.lean: one lemma an operation. -/

namespace Sys2Proof.Machine

theorem State.updHealth_eff : ∀ s f, Eff 17179869184 s (State.updHealth s f) := by
  intro s f
  unfold State.updHealth
  exact (State.putHealth_eff ..).mono rfl

theorem State.checkDone_eff : ∀ s p pair poison, Eff 8192 s (State.checkDone s p pair poison) := by
  intro s p pair poison
  unfold State.checkDone
  extract_lets +onlyGivenNames x0
  clear_value x0
  extract_lets +onlyGivenNames x1
  clear_value x1
  exact (State.setPart_eff ..).mono rfl

theorem State.compareOne_eff : ∀ s p k, Eff 17179877640 s (State.compareOne s p k) := by
  intro s p k
  unfold State.compareOne
  extract_lets +onlyGivenNames x0
  refine Eff.cut x0 ?_ ?_
  · subst x0
    exact (State.inc_eff ..).mono rfl
  intro hx
  clear_value x0
  refine Eff.ite ?_ ?_
  · refine (State.checkDone_eff ..).step rfl ?_
    assumption
  · extract_lets +onlyGivenNames x1
    refine Eff.cut x1 ?_ ?_
    · subst x1
      refine (State.incSat_eff ..).step rfl ?_
      assumption
    intro hx
    clear_value x1
    split
    · refine (State.updHealth_eff ..).step rfl ?_
      refine (State.incSat_eff ..).step rfl ?_
      assumption
    · extract_lets +onlyGivenNames x2
      refine Eff.cut x2 ?_ ?_
      · subst x2
        refine (State.incSat_eff ..).step rfl ?_
        assumption
      intro hx
      clear_value x2
      extract_lets +onlyGivenNames x3
      refine Eff.cut x3 ?_ ?_
      · subst x3
        refine (State.raise_eff ..).step rfl ?_
        refine (State.raise_eff ..).step rfl ?_
        assumption
      intro hx
      clear_value x3
      refine (State.checkDone_eff ..).step rfl ?_
      assumption

theorem State.checkCompare_eff : ∀ s p, Eff 17179877640 s (State.checkCompare s p) := by
  intro s p
  unfold State.checkCompare
  refine Eff.ite ?_ ?_
  · exact Eff.refl ..
  · extract_lets +onlyGivenNames x0
    clear_value x0
    refine Eff.foldl ?_ ?_
    · intro a1
      intro a2
      exact (State.compareOne_eff ..).mono rfl
    · exact Eff.refl ..

theorem execCheckCompare_eff : ∀ part s, OutEff 17179877640 s (execCheckCompare part s) := by
  intro part s
  unfold execCheckCompare
  refine OutEff.next ?_
  exact (State.checkCompare_eff ..).mono rfl

theorem State.voteDone_eff : ∀ s p pair sig, Eff 17179877632 s (State.voteDone s p pair sig) := by
  intro s p pair sig
  unfold State.voteDone
  split
  · refine Eff.ite ?_ ?_
    · exact Eff.refl ..
    · extract_lets +onlyGivenNames x0
      refine Eff.cut x0 ?_ ?_
      · subst x0
        exact (State.updHealth_eff ..).mono rfl
      intro hx
      clear_value x0
      extract_lets +onlyGivenNames x1
      clear_value x1
      extract_lets +onlyGivenNames x2
      clear_value x2
      refine Eff.ite ?_ ?_
      · refine (State.checkDone_eff ..).step rfl ?_
        refine (State.raise_eff ..).step rfl ?_
        assumption
      · refine Eff.ite ?_ ?_
        · refine (State.checkDone_eff ..).step rfl ?_
          refine (State.raise_eff ..).step rfl ?_
          assumption
        · extract_lets +onlyGivenNames x3
          refine Eff.cut x3 ?_ ?_
          · subst x3
            refine (State.raise_eff ..).step rfl ?_
            refine (State.raise_eff ..).step rfl ?_
            assumption
          intro hx
          clear_value x3
          refine (State.checkDone_eff ..).step rfl ?_
          refine (State.raise_eff ..).step rfl ?_
          assumption
  · exact Eff.refl ..

theorem execCheckVoteDone_eff : ∀ part pair voter s, OutEff 17179877632 s (execCheckVoteDone part pair voter s) := by
  intro part pair voter s
  unfold execCheckVoteDone
  refine OutEff.next ?_
  exact (State.voteDone_eff ..).mono rfl

theorem State.segments_eff : ∀ s q left trials, Eff 17179869448 s (State.segments s q left trials).1 := by
  intro s q left trials
  induction trials generalizing s q left with
  | nil =>
    rw [State.segments]
    refine Eff.pair_fst ?_
    exact Eff.refl ..
  | cons b r ih =>
    rw [State.segments]
    refine Eff.ite_fst ?_ ?_
    · refine Eff.pair_fst ?_
      exact Eff.refl ..
    · extract_lets +onlyGivenNames x0
      refine Eff.cut x0 ?_ ?_
      · subst x0
        refine Eff.ite ?_ ?_
        · exact Eff.refl ..
        · refine (State.raise_eff ..).step rfl ?_
          exact (State.incSat_eff ..).mono rfl
      intro hx
      clear_value x0
      extract_lets +onlyGivenNames x1
      refine Eff.cut x1 ?_ ?_
      · subst x1
        refine Eff.ite ?_ ?_
        · refine (State.updHealth_eff ..).step rfl ?_
          refine (State.inc_eff ..).step rfl ?_
          refine (State.wr_eff ..).step rfl ?_
          assumption
        · refine (State.wr_eff ..).step rfl ?_
          assumption
      intro hx
      clear_value x1
      refine (ih ..).step rfl ?_
      assumption

theorem State.windfallSlice_eff : ∀ s q trials, Eff 17179877640 s (State.windfallSlice s q trials) := by
  intro s q trials
  unfold State.windfallSlice
  refine Eff.ite ?_ ?_
  · exact Eff.refl ..
  · extract_lets +onlyGivenNames x0
    clear_value x0
    extract_lets +onlyGivenNames x1
    refine Eff.cut x1 ?_ ?_
    · subst x1
      refine Eff.ite ?_ ?_
      · exact Eff.refl ..
      · refine (State.incSat_eff ..).step rfl ?_
        exact Eff.refl ..
    intro hx
    clear_value x1
    extract_lets +onlyGivenNames x2
    refine Eff.cut x2 ?_ ?_
    · subst x2
      refine (State.wr_eff ..).step rfl ?_
      refine (State.updHealth_eff ..).step rfl ?_
      assumption
    intro hx
    clear_value x2
    extract_lets +onlyGivenNames x3
    refine Eff.cut x3 ?_ ?_
    · subst x3
      split
      · refine (State.withhold_eff ..).step rfl ?_
        assumption
      · assumption
    intro hx
    clear_value x3
    refine (State.segments_eff ..).step rfl ?_
    assumption

theorem execWindfallSlice_eff : ∀ cluster trials s, OutEff 17179877640 s (execWindfallSlice cluster trials s) := by
  intro cluster trials s
  unfold execWindfallSlice
  refine OutEff.next ?_
  exact (State.windfallSlice_eff ..).mono rfl

theorem State.sliceEnd_eff : ∀ s q, Eff 17179877384 s (State.sliceEnd s q) := by
  intro s q
  unfold State.sliceEnd
  split
  · exact Eff.refl ..
  · extract_lets +onlyGivenNames x0
    refine Eff.cut x0 ?_ ?_
    · subst x0
      exact (State.updHealth_eff ..).mono rfl
    intro hx
    clear_value x0
    extract_lets +onlyGivenNames x1
    refine Eff.cut x1 ?_ ?_
    · subst x1
      refine (State.wr_eff ..).step rfl ?_
      assumption
    intro hx
    clear_value x1
    split
    · refine (State.withhold_eff ..).step rfl ?_
      assumption
    · assumption

theorem execWindfallSliceEnd_eff : ∀ cluster s, OutEff 17179877384 s (execWindfallSliceEnd cluster s) := by
  intro cluster s
  unfold execWindfallSliceEnd
  refine OutEff.next ?_
  exact (State.sliceEnd_eff ..).mono rfl

theorem State.planCeil_eff : ∀ s q ceil old vMins, Eff 264 s (State.planCeil s q ceil old vMins).1 := by
  intro s q ceil old vMins
  induction vMins generalizing s q ceil old with
  | nil =>
    rw [State.planCeil]
    refine Eff.pair_fst ?_
    exact Eff.refl ..
  | cons b r ih =>
    rw [State.planCeil]
    refine Eff.ite_fst ?_ ?_
    · refine Eff.pair_fst ?_
      exact Eff.refl ..
    · refine Eff.ite_fst ?_ ?_
      · refine Eff.pair_fst ?_
        exact (State.raise_eff ..).mono rfl
      · refine (ih ..).step rfl ?_
        refine (State.wr_eff ..).step rfl ?_
        exact (State.raise_eff ..).mono rfl

theorem State.marginPlan_eff : ∀ s q vMins osc, Eff 51539607816 s (State.marginPlan s q vMins osc) := by
  intro s q vMins osc
  unfold State.marginPlan
  extract_lets +onlyGivenNames x0
  clear_value x0
  refine Eff.ite ?_ ?_
  · exact Eff.refl ..
  · extract_lets +onlyGivenNames x1
    refine Eff.cut x1.1 ?_ ?_
    · subst x1
      exact (State.planCeil_eff ..).mono rfl
    intro hx
    clear_value x1
    extract_lets +onlyGivenNames x2
    refine Eff.cut x2 ?_ ?_
    · subst x2
      assumption
    intro hx
    clear_value x2
    split
    · assumption
    · extract_lets +onlyGivenNames x3
      clear_value x3
      extract_lets +onlyGivenNames x4
      clear_value x4
      extract_lets +onlyGivenNames x5
      clear_value x5
      extract_lets +onlyGivenNames x6
      refine Eff.cut x6 ?_ ?_
      · subst x6
        refine (State.updHealth_eff ..).step rfl ?_
        assumption
      intro hx
      clear_value x6
      extract_lets +onlyGivenNames x7
      clear_value x7
      extract_lets +onlyGivenNames x8
      refine Eff.cut x8 ?_ ?_
      · subst x8
        refine (State.wr_eff ..).step rfl ?_
        refine (State.inc_eff ..).step rfl ?_
        refine (State.wr_eff ..).step rfl ?_
        assumption
      intro hx
      clear_value x8
      extract_lets +onlyGivenNames x9
      refine Eff.cut x9 ?_ ?_
      · subst x9
        refine (State.wr_eff ..).step rfl ?_
        assumption
      intro hx
      clear_value x9
      extract_lets +onlyGivenNames x10
      refine Eff.cut x10 ?_ ?_
      · subst x10
        refine (State.logAgeing_eff ..).step rfl ?_
        assumption
      intro hx
      clear_value x10
      refine Eff.ite ?_ ?_
      · refine (State.raise_eff ..).step rfl ?_
        assumption
      · assumption

theorem execMarginPlan_eff : ∀ cluster vMins osc s, OutEff 51539607816 s (execMarginPlan cluster vMins osc s) := by
  intro cluster vMins osc s
  unfold execMarginPlan
  refine OutEff.next ?_
  exact (State.marginPlan_eff ..).mono rfl

theorem State.ringOsc_eff : ∀ s q drift, Eff 17179869192 s (State.ringOsc s q drift) := by
  intro s q drift
  unfold State.ringOsc
  extract_lets +onlyGivenNames x0
  refine Eff.cut x0 ?_ ?_
  · subst x0
    exact (State.wr_eff ..).mono rfl
  intro hx
  clear_value x0
  refine Eff.ite ?_ ?_
  · refine (State.updHealth_eff ..).step rfl ?_
    assumption
  · assumption

theorem execRingOscReading_eff : ∀ cluster drift s, OutEff 17179869192 s (execRingOscReading cluster drift s) := by
  intro cluster drift s
  unfold execRingOscReading
  refine OutEff.next ?_
  exact (State.ringOsc_eff ..).mono rfl

end Sys2Proof.Machine
end

