-- ==== Sys2Proof/Laws/HostRegs.lean ====
section
/-! SUPPORT. What each operation of Machine/HostRegs.lean can change, in the terms of Laws/Eff.lean: one lemma an operation. -/

namespace Sys2Proof.Machine

theorem State.invalidAccess_eff : ∀ s bar off size write, Eff 280 s (State.invalidAccess s bar off size write) := by
  intro s bar off size write
  unfold State.invalidAccess
  extract_lets +onlyGivenNames x0
  clear_value x0
  refine Eff.ite ?_ ?_
  · exact Eff.refl ..
  · extract_lets +onlyGivenNames x1
    refine Eff.cut x1 ?_ ?_
    · subst x1
      exact (State.badAccess_eff ..).mono rfl
    intro hx
    clear_value x1
    refine Eff.ite ?_ ?_
    · assumption
    · refine (State.updHost_eff ..).step rfl ?_
      assumption

theorem execBar0InvalidAccess_eff : ∀ bar offset size isWrite s, OutEff 280 s (execBar0InvalidAccess bar offset size isWrite s) := by
  intro bar offset size isWrite s
  unfold execBar0InvalidAccess
  refine OutEff.next ?_
  exact (State.invalidAccess_eff ..).mono rfl

theorem State.setMbx_eff : ∀ s k q, Eff 32 s (State.setMbx s k q) := by
  intro s k q
  unfold State.setMbx
  exact (State.putMbx_eff ..).mono rfl

theorem State.mbxSignal_eff : ∀ s k, Eff 8589934872 s (State.mbxSignal s k) := by
  intro s k
  unfold State.mbxSignal
  extract_lets +onlyGivenNames x0
  clear_value x0
  refine Eff.ite ?_ ?_
  · exact Eff.refl ..
  · extract_lets +onlyGivenNames x1
    refine Eff.cut x1 ?_ ?_
    · subst x1
      exact (State.irq_eff ..).mono rfl
    intro hx
    clear_value x1
    refine Eff.ite ?_ ?_
    · refine (State.watchAbort_eff ..).step rfl ?_
      assumption
    · assumption

theorem State.mbxAppend_eff : ∀ s k ptr tag, Eff 8589934904 s (State.mbxAppend s k ptr tag) := by
  intro s k ptr tag
  unfold State.mbxAppend
  extract_lets +onlyGivenNames x0
  clear_value x0
  extract_lets +onlyGivenNames x1
  refine Eff.cut x1 ?_ ?_
  · subst x1
    refine (State.inc_eff ..).step rfl ?_
    exact (State.setMbx_eff ..).mono rfl
  intro hx
  clear_value x1
  refine Eff.ite ?_ ?_
  · refine (State.mbxSignal_eff ..).step rfl ?_
    assumption
  · assumption

theorem State.mbxSend_eff : ∀ s a tag, Eff 8589934904 s (State.mbxSend s a tag) := by
  intro s a tag
  unfold State.mbxSend
  extract_lets +onlyGivenNames x0
  clear_value x0
  extract_lets +onlyGivenNames x1
  clear_value x1
  refine Eff.ite ?_ ?_
  · refine (State.badAccess_eff ..).step rfl ?_
    exact Eff.refl ..
  · refine Eff.ite ?_ ?_
    · refine (State.raise_eff ..).step rfl ?_
      exact Eff.refl ..
    · refine Eff.ite ?_ ?_
      · refine (State.mbxAppend_eff ..).step rfl ?_
        exact Eff.refl ..
      · refine Eff.ite ?_ ?_
        · refine (State.raise_eff ..).step rfl ?_
          exact (State.incSat_eff ..).mono rfl
        · refine (State.putMbx_eff ..).step rfl ?_
          exact Eff.refl ..

theorem execMbxSendTagWrite_eff : ∀ accessor tag s, OutEff 8589934904 s (execMbxSendTagWrite accessor tag s) := by
  intro accessor tag s
  unfold execMbxSendTagWrite
  refine OutEff.next ?_
  exact (State.mbxSend_eff ..).mono rfl

theorem State.mbxRoom_eff : ∀ s k ptr tag, Eff 8589934904 s (State.mbxRoom s k ptr tag) := by
  intro s k ptr tag
  unfold State.mbxRoom
  refine Eff.ite ?_ ?_
  · refine (State.mbxAppend_eff ..).step rfl ?_
    exact (State.putMbx_eff ..).mono rfl
  · exact Eff.refl ..

theorem execMbxSenderRoom_eff : ∀ chan ptr tag s, OutEff 8589934904 s (execMbxSenderRoom chan ptr tag s) := by
  intro chan ptr tag s
  unfold execMbxSenderRoom
  refine OutEff.next ?_
  exact (State.mbxRoom_eff ..).mono rfl

theorem State.mbxPop_eff : ∀ s a, Eff 8589934904 s (State.mbxPop s a) := by
  intro s a
  unfold State.mbxPop
  extract_lets +onlyGivenNames x0
  clear_value x0
  refine Eff.ite ?_ ?_
  · exact Eff.refl ..
  · split
    · exact Eff.refl ..
    · extract_lets +onlyGivenNames x1
      refine Eff.cut x1 ?_ ?_
      · subst x1
        exact (State.setMbx_eff ..).mono rfl
      intro hx
      clear_value x1
      refine Eff.ite ?_ ?_
      · assumption
      · refine (State.mbxSignal_eff ..).step rfl ?_
        assumption

theorem execMbxPop_eff : ∀ accessor s, OutEff 8589934904 s (execMbxPop accessor s) := by
  intro accessor s
  unfold execMbxPop
  refine OutEff.next ?_
  exact (State.mbxPop_eff ..).mono rfl

theorem execMbxFlush_eff : ∀ accessor s, OutEff 32 s (execMbxFlush accessor s) := by
  intro accessor s
  unfold execMbxFlush
  refine OutEff.next ?_
  refine Eff.ite ?_ ?_
  · refine (State.setMbx_eff ..).step rfl ?_
    exact Eff.refl ..
  · exact Eff.refl ..

theorem State.accRead_eff : ∀ s a, Eff 144 s (State.accRead s a) := by
  intro s a
  unfold State.accRead
  extract_lets +onlyGivenNames x0
  clear_value x0
  refine (State.updHost_eff ..).step rfl ?_
  exact (State.putSnaps_eff ..).mono rfl

theorem execAccRec0Read_eff : ∀ accessor s, OutEff 144 s (execAccRec0Read accessor s) := by
  intro accessor s
  unfold execAccRec0Read
  refine OutEff.next ?_
  exact (State.accRead_eff ..).mono rfl

theorem State.accSelect_eff : ∀ s a c, Eff 392 s (State.accSelect s a c) := by
  intro s a c
  unfold State.accSelect
  refine Eff.ite ?_ ?_
  · refine (State.badAccess_eff ..).step rfl ?_
    exact Eff.refl ..
  · refine (State.putSnaps_eff ..).step rfl ?_
    exact (State.wr_eff ..).mono rfl

theorem execAccClientselWrite_eff : ∀ accessor client s, OutEff 392 s (execAccClientselWrite accessor client s) := by
  intro accessor client s
  unfold execAccClientselWrite
  refine OutEff.next ?_
  exact (State.accSelect_eff ..).mono rfl

theorem State.admCfg_eff : ∀ s a v, Eff 280 s (State.admCfg s a v) := by
  intro s a v
  unfold State.admCfg
  refine Eff.ite ?_ ?_
  · refine Eff.ite ?_ ?_
    · refine (State.badAccess_eff ..).step rfl ?_
      exact Eff.refl ..
    · exact Eff.refl ..
  · extract_lets +onlyGivenNames x0
    clear_value x0
    extract_lets +onlyGivenNames x1
    clear_value x1
    refine Eff.ite ?_ ?_
    · refine (State.wr_eff ..).step rfl ?_
      exact Eff.refl ..
    · refine Eff.ite ?_ ?_
      · refine (State.badAccess_eff ..).step rfl ?_
        exact Eff.refl ..
      · extract_lets +onlyGivenNames x2
        refine Eff.cut x2 ?_ ?_
        · subst x2
          iterate 3 refine (State.wr_eff ..).step rfl ?_
          exact (State.wr_eff ..).mono rfl
        intro hx
        clear_value x2
        refine Eff.ite ?_ ?_
        · refine (State.updHost_eff ..).step rfl ?_
          refine (State.setReg_eff ..).step rfl ?_
          assumption
        · assumption

theorem execHstAdmCfgWrite_eff : ∀ accessor value s, OutEff 280 s (execHstAdmCfgWrite accessor value s) := by
  intro accessor value s
  unfold execHstAdmCfgWrite
  refine OutEff.next ?_
  exact (State.admCfg_eff ..).mono rfl

theorem State.admDb_eff : ∀ s a v, Eff 264 s (State.admDb s a v) := by
  intro s a v
  unfold State.admDb
  refine Eff.ite ?_ ?_
  · refine Eff.ite ?_ ?_
    · refine (State.badAccess_eff ..).step rfl ?_
      exact Eff.refl ..
    · exact Eff.refl ..
  · refine Eff.ite ?_ ?_
    · exact Eff.refl ..
    · refine (State.wr_eff ..).step rfl ?_
      exact (State.wr_eff ..).mono rfl

theorem execHstAdmDbWrite_eff : ∀ accessor value s, OutEff 264 s (execHstAdmDbWrite accessor value s) := by
  intro accessor value s
  unfold execHstAdmDbWrite
  refine OutEff.next ?_
  exact (State.admDb_eff ..).mono rfl

theorem State.writeReg_eff : ∀ s a off v mask, Eff 264 s (State.writeReg s a off v mask) := by
  intro s a off v mask
  unfold State.writeReg
  split
  · exact Eff.refl ..
  · split
    · exact Eff.refl ..
    · extract_lets +onlyGivenNames x0
      clear_value x0
      extract_lets +onlyGivenNames x1
      refine Eff.cut x1 ?_ ?_
      · subst x1
        refine Eff.ite ?_ ?_
        · exact (State.raise_eff ..).mono rfl
        · exact Eff.refl ..
      intro hx
      clear_value x1
      refine (State.setReg_eff ..).step rfl ?_
      assumption

theorem State.msixWrite_eff : ∀ s fn w v, Eff 16 s (State.msixWrite s fn w v) := by
  intro s fn w v
  unfold State.msixWrite
  extract_lets +onlyGivenNames x0
  clear_value x0
  extract_lets +onlyGivenNames x1
  refine Eff.cut x1 ?_ ?_
  · subst x1
    exact (State.updHost_eff ..).mono rfl
  intro hx
  clear_value x1
  refine Eff.ite ?_ ?_
  · refine (State.irq_eff ..).step rfl ?_
    refine (State.updHost_eff ..).step rfl ?_
    assumption
  · assumption

theorem State.registerWrite_eff : ∀ s w, Eff 2164663517180 s (State.registerWrite s w) := by
  intro s w
  unfold State.registerWrite
  extract_lets +onlyGivenNames x0
  clear_value x0
  refine Eff.ite ?_ ?_
  · exact (State.badAccess_eff ..).mono rfl
  · extract_lets +onlyGivenNames x1
    clear_value x1
    extract_lets +onlyGivenNames x2
    clear_value x2
    extract_lets +onlyGivenNames x3
    clear_value x3
    extract_lets +onlyGivenNames x4
    clear_value x4
    refine Eff.ite ?_ ?_
    · refine Eff.ite ?_ ?_
      · extract_lets +onlyGivenNames x5
        clear_value x5
        extract_lets +onlyGivenNames x6
        refine Eff.cut x6 ?_ ?_
        · subst x6
          refine Eff.ite ?_ ?_
          · exact Eff.refl ..
          · exact (State.msixWrite_eff ..).mono rfl
        intro hx
        clear_value x6
        refine Eff.ite ?_ ?_
        · assumption
        · refine (State.msixWrite_eff ..).step rfl ?_
          assumption
      · exact Eff.refl ..
    · refine Eff.ite ?_ ?_
      · exact (State.badAccess_eff ..).mono rfl
      · refine Eff.ite ?_ ?_
        · exact (State.activateAt_eff ..).mono rfl
        · refine Eff.ite ?_ ?_
          · refine Eff.ite ?_ ?_
            · exact (State.firstClear_eff ..).mono rfl
            · exact Eff.refl ..
          · refine Eff.ite ?_ ?_
            · exact (State.admCfg_eff ..).mono rfl
            · refine Eff.ite ?_ ?_
              · exact (State.admDb_eff ..).mono rfl
              · refine Eff.ite ?_ ?_
                · exact Eff.refl ..
                · refine Eff.ite ?_ ?_
                  · refine Eff.ite ?_ ?_
                    · exact Eff.refl ..
                    · exact (State.mbxSend_eff ..).mono rfl
                  · refine Eff.ite ?_ ?_
                    · extract_lets +onlyGivenNames x7
                      refine Eff.cut x7 ?_ ?_
                      · subst x7
                        refine Eff.ite ?_ ?_
                        · exact (State.setMbx_eff ..).mono rfl
                        · exact Eff.refl ..
                      intro hx
                      clear_value x7
                      refine Eff.ite ?_ ?_
                      · refine (State.mbxPop_eff ..).step rfl ?_
                        assumption
                      · assumption
                    · refine Eff.ite ?_ ?_
                      · refine Eff.ite ?_ ?_
                        · exact (State.cfgReset_eff ..).mono rfl
                        · exact Eff.refl ..
                      · refine Eff.ite ?_ ?_
                        · refine Eff.ite ?_ ?_
                          · exact (State.heartbeat_eff ..).mono rfl
                          · exact Eff.refl ..
                        · refine Eff.ite ?_ ?_
                          · refine (State.kick_eff ..).step rfl ?_
                            exact (State.writeReg_eff ..).mono rfl
                          · refine Eff.ite ?_ ?_
                            · split
                              · exact Eff.refl ..
                              · refine Eff.ite ?_ ?_
                                · exact Eff.refl ..
                                · refine Eff.ite ?_ ?_
                                  · exact (State.modeRun_eff ..).mono rfl
                                  · refine Eff.ite ?_ ?_
                                    · exact (State.modeNap_eff ..).mono rfl
                                    · refine Eff.ite ?_ ?_
                                      · exact (State.modeWatch_eff ..).mono rfl
                                      · refine Eff.ite ?_ ?_
                                        · exact Eff.refl ..
                                        · exact (State.badAccess_eff ..).mono rfl
                            · refine Eff.ite ?_ ?_
                              · refine Eff.ite ?_ ?_
                                · exact Eff.refl ..
                                · exact (State.accSelect_eff ..).mono rfl
                              · exact (State.writeReg_eff ..).mono rfl

theorem execRegisterWrite_eff : ∀ w s, OutEff 2164663517180 s (execRegisterWrite w s) := by
  intro w s
  unfold execRegisterWrite
  refine OutEff.next ?_
  exact (State.registerWrite_eff ..).mono rfl

end Sys2Proof.Machine
end

