-- ==== Sys2Proof/Laws/Registers.lean ====
section
/-! SUPPORT. Register fields: a field reads what was last written to it, and a write leaves every other field. -/

namespace Sys2Proof.Machine

/-- Do the bits of a field lie in a 64-bit register? -/
def Fld.fits (f : Fld) : Bool := decide (f.lo ≤ f.hi) && decide (f.hi < 64)

/-- The number of bits of a field. -/
def Fld.width (f : Fld) : Nat := f.hi + 1 - f.lo

theorem putBits_toNat (r : Reg64) {hi lo : Nat} (v : Nat) (h : lo ≤ hi) (h' : hi < 64) :
    (putBits r hi lo v).toNat = r.toNat % 2 ^ lo + (v % 2 ^ (hi + 1 - lo)) * 2 ^ lo + (r.toNat / 2 ^ (hi + 1)) * 2 ^ (hi + 1) := by
  have e : hi + 1 = lo + (hi + 1 - lo) := by omega
  have ha : r.toNat % 2 ^ lo < 2 ^ lo := Nat.mod_lt _ (by positivity)
  have hb : v % 2 ^ (hi + 1 - lo) < 2 ^ (hi + 1 - lo) := Nat.mod_lt _ (by positivity)
  have hlow : r.toNat % 2 ^ lo + (v % 2 ^ (hi + 1 - lo)) * 2 ^ lo < 2 ^ (hi + 1) := by
    calc r.toNat % 2 ^ lo + (v % 2 ^ (hi + 1 - lo)) * 2 ^ lo < 2 ^ lo + (v % 2 ^ (hi + 1 - lo)) * 2 ^ lo := by omega
      _ = (v % 2 ^ (hi + 1 - lo) + 1) * 2 ^ lo := by ring
      _ ≤ 2 ^ (hi + 1 - lo) * 2 ^ lo := Nat.mul_le_mul_right _ hb
      _ = 2 ^ (hi + 1) := by rw [← Nat.pow_add, Nat.add_comm, ← e]
  have hc : r.toNat / 2 ^ (hi + 1) < 2 ^ (64 - (hi + 1)) := by
    rw [Nat.div_lt_iff_lt_mul (by positivity), ← Nat.pow_add]
    have : 64 - (hi + 1) + (hi + 1) = 64 := by omega
    rw [this]; exact r.isLt
  have hs : (r.toNat / 2 ^ (hi + 1)) * 2 ^ (hi + 1) + 2 ^ (hi + 1) ≤ 2 ^ 64 := by
    calc (r.toNat / 2 ^ (hi + 1)) * 2 ^ (hi + 1) + 2 ^ (hi + 1) = (r.toNat / 2 ^ (hi + 1) + 1) * 2 ^ (hi + 1) := by ring
      _ ≤ 2 ^ (64 - (hi + 1)) * 2 ^ (hi + 1) := Nat.mul_le_mul_right _ hc
      _ = 2 ^ 64 := by rw [← Nat.pow_add]; congr 1; omega
  simp only [putBits, BitVec.toNat_ofNat]
  exact Nat.mod_eq_of_lt (by omega)

theorem bitsOf_eq (v h l : Nat) : bitsOf v h l = v / 2 ^ l % 2 ^ (h + 1 - l) := by rw [bitsOf, Nat.shiftRight_eq_div_pow]

/-- A field put in place reads back modulo its width. -/
theorem bitsOf_putBits (r : Reg64) {hi lo : Nat} (v : Nat) (h : lo ≤ hi) (h' : hi < 64) :
    bitsOf (putBits r hi lo v).toNat hi lo = v % 2 ^ (hi + 1 - lo) := by
  rw [putBits_toNat r v h h', bitsOf_eq]
  have e : (r.toNat / 2 ^ (hi + 1)) * 2 ^ (hi + 1) = (r.toNat / 2 ^ (hi + 1) * 2 ^ (hi + 1 - lo)) * 2 ^ lo := by
    rw [Nat.mul_assoc, ← Nat.pow_add]; congr 2; omega
  rw [e, Nat.add_assoc, ← Nat.add_mul, Nat.add_mul_div_right _ _ (by positivity),
    Nat.div_eq_of_lt (Nat.mod_lt _ (by positivity)), Nat.zero_add, Nat.add_mul_mod_self_right, Nat.mod_mod]

/-- A field below the one put in place is left. -/
theorem bitsOf_putBits_below (r : Reg64) {hi lo h l : Nat} (v : Nat) (hf : lo ≤ hi) (h' : hi < 64) (hb : h < lo) (hl : l ≤ h) :
    bitsOf (putBits r hi lo v).toNat h l = bitsOf r.toNat h l := by
  rw [putBits_toNat r v hf h', bitsOf_eq, bitsOf_eq]
  have key : ∀ n, n / 2 ^ l % 2 ^ (h + 1 - l) = n % 2 ^ lo / 2 ^ l % 2 ^ (h + 1 - l) := by
    intro n
    have e : (2 : Nat) ^ lo = 2 ^ l * 2 ^ (lo - l) := by rw [← Nat.pow_add]; congr 1; omega
    rw [e, Nat.mod_mul_right_div_self, Nat.mod_mod_of_dvd _ (Nat.pow_dvd_pow 2 (by omega))]
  rw [key, key r.toNat]
  congr 2
  have e : (r.toNat / 2 ^ (hi + 1)) * 2 ^ (hi + 1) = (r.toNat / 2 ^ (hi + 1) * 2 ^ (hi + 1 - lo)) * 2 ^ lo := by
    rw [Nat.mul_assoc, ← Nat.pow_add]; congr 2; omega
  rw [e, Nat.add_assoc, ← Nat.add_mul, Nat.add_mul_mod_self_right, Nat.mod_mod]

/-- A field above the one put in place is left. -/
theorem bitsOf_putBits_above (r : Reg64) {hi lo h l : Nat} (v : Nat) (hf : lo ≤ hi) (h' : hi < 64) (ha : hi < l) :
    bitsOf (putBits r hi lo v).toNat h l = bitsOf r.toNat h l := by
  rw [putBits_toNat r v hf h', bitsOf_eq, bitsOf_eq]
  congr 1
  have e : (2 : Nat) ^ l = 2 ^ (hi + 1) * 2 ^ (l - (hi + 1)) := by rw [← Nat.pow_add]; congr 1; omega
  rw [e, ← Nat.div_div_eq_div_mul, ← Nat.div_div_eq_div_mul]
  congr 1
  have ep : hi + 1 = lo + (hi + 1 - lo) := by omega
  have hb : v % 2 ^ (hi + 1 - lo) < 2 ^ (hi + 1 - lo) := Nat.mod_lt _ (by positivity)
  have hlow : r.toNat % 2 ^ lo + (v % 2 ^ (hi + 1 - lo)) * 2 ^ lo < 2 ^ (hi + 1) := by
    have ha : r.toNat % 2 ^ lo < 2 ^ lo := Nat.mod_lt _ (by positivity)
    calc r.toNat % 2 ^ lo + (v % 2 ^ (hi + 1 - lo)) * 2 ^ lo < 2 ^ lo + (v % 2 ^ (hi + 1 - lo)) * 2 ^ lo := by omega
      _ = (v % 2 ^ (hi + 1 - lo) + 1) * 2 ^ lo := by ring
      _ ≤ 2 ^ (hi + 1 - lo) * 2 ^ lo := Nat.mul_le_mul_right _ hb
      _ = 2 ^ (hi + 1) := by rw [← Nat.pow_add, Nat.add_comm, ← ep]
  rw [Nat.add_mul_div_right _ _ (by positivity), Nat.div_eq_of_lt hlow, Nat.zero_add]

/-- The bits of two fields do not overlap. -/
def Fld.apart (f g : Fld) : Bool := decide (g.hi < f.lo) && decide (g.lo ≤ g.hi) || decide (f.hi < g.lo)

section
variable {s : State} (hw : Registers.wf s.regs = true)

include hw

theorem State.reg_setReg_same (k : Nat) (v : Reg64) : (s.setReg k v).reg k = v := sget_sset_same _ _ hw

theorem State.reg_setReg_ne {k j : Nat} (v : Reg64) (h : j ≠ k) : (s.setReg k v).reg j = s.reg j := sget_sset_ne _ h hw

/-- A field reads what was last written, modulo its width. -/
theorem State.rd_wr_same (f : Fld) (i v : Nat) (hf : f.fits = true) : (s.wr f i v).rd f i = v % 2 ^ f.width := by
  simp only [Fld.fits, Bool.and_eq_true, decide_eq_true_eq] at hf
  simp only [State.rd, State.wr, State.reg_setReg_same hw, bitsOf_putBits _ _ hf.1 hf.2, Fld.width]

/-- A write leaves every other register. -/
theorem State.reg_wr_ne (f : Fld) (i v : Nat) {k : Nat} (h : k ≠ regKey f.kind f.off i) : (s.wr f i v).reg k = s.reg k :=
  State.reg_setReg_ne hw _ h

/-- A write leaves the fields of every other register. -/
theorem State.rd_wr_ne (f g : Fld) (i j v : Nat) (h : regKey g.kind g.off j ≠ regKey f.kind f.off i) :
    (s.wr f i v).rd g j = s.rd g j := by simp only [State.rd, State.reg_wr_ne hw f i v h]

/-- A write leaves the other fields of its own register. -/
theorem State.rd_wr_apart (f g : Fld) (i j v : Nat) (hf : f.fits = true) (h : regKey g.kind g.off j = regKey f.kind f.off i)
    (ha : f.apart g = true) : (s.wr f i v).rd g j = s.rd g j := by
  simp only [Fld.fits, Fld.apart, Bool.and_eq_true, Bool.or_eq_true, decide_eq_true_eq] at hf ha
  simp only [State.rd, State.wr, h, State.reg_setReg_same hw]
  rcases ha with ha | ha
  · exact bitsOf_putBits_below _ _ hf.1 hf.2 ha.1 ha.2
  · exact bitsOf_putBits_above _ _ hf.1 hf.2 ha

theorem State.wr_regs_wf (f : Fld) (i v : Nat) : Registers.wf (s.wr f i v).regs = true := sset_wf _ _ hw

theorem State.inc_regs_wf (f : Fld) (i n : Nat) : Registers.wf (s.inc f i n).regs = true := sset_wf _ _ hw
end

@[simp] theorem State.raise_reg (s : State) (k u m a x o j : Nat) : (s.raise k u m a x o).reg j = s.reg j := by
  simp [State.reg]

@[simp] theorem State.raise_rd (s : State) (k u m a x o : Nat) (f : Fld) (i : Nat) : (s.raise k u m a x o).rd f i = s.rd f i := by
  simp [State.rd]

end Sys2Proof.Machine
end

