-- ==== Sys2Proof/Laws/Requests.lean ====
section
/-! SUPPORT. The end of a request: what it leaves waiting for the host, said once for every command that ends one. -/

namespace Sys2Proof.Machine

/-- Closing a request's streams leaves the entries that wait, the rings and the requests. -/
theorem State.closeStreams_host (s : State) (k : ReqKey) :
    (s.closeStreams k).host.cq = s.host.cq ∧ (s.closeStreams k).host.rings = s.host.rings ∧ (s.closeStreams k).host.reqs = s.host.reqs := by
  have one : ∀ (s : State) (c n : Nat), (s.closeStream c n).host.cq = s.host.cq ∧ (s.closeStream c n).host.rings = s.host.rings ∧
      (s.closeStream c n).host.reqs = s.host.reqs := by
    intro s c n
    have count : ∀ (x : State) (e a b : Nat), (x.zestCount e a b).host = x.host := fun x e a b => (State.zestCount_eff x e a b).same .host rfl
    have time : ∀ (x : State) (c n : Nat), (x.zestTime c n).host = x.host := fun x c n => (State.zestTime_eff x c n).same .host rfl
    unfold State.closeStream
    split
    · exact ⟨rfl, rfl, rfl⟩
    · extract_lets x y
      have hy : y.host = s.host := by
        simp only [y]
        split
        · exact (time ..).trans (count ..)
        · rfl
      clear_value y
      split <;> simp [hy]
  unfold State.closeStreams
  generalize s.gens.filter _ = l
  induction l generalizing s with
  | nil => exact ⟨rfl, rfl, rfl⟩
  | cons g l ih =>
    have h1 := one s g.client (fieldLe g.block 46 1)
    have h2 := ih (s.closeStream g.client (fieldLe g.block 46 1))
    exact ⟨h2.1.trans h1.1, h2.2.1.trans h1.2.1, h2.2.2.trans h1.2.2⟩

/-- A write to a client's memory leaves the entries that wait and the rings. -/
theorem State.writeAddr_host {s t : State} {c a : Nat} {bs : List Byte} {poison : Bool} (h : s.writeAddr c a bs poison = some t) :
    t.host.cq = s.host.cq ∧ t.host.rings = s.host.rings := by
  have hc : ∀ (x : State) (f : Acct → Acct), (x.charge c f).host = x.host := fun x f => (State.charge_eff x c f).same .host rfl
  have hw : ∀ (x : State) (a : Nat), (x.writeDevP a bs poison).host = x.host := fun x a => (State.writeDevP_eff x a bs poison).same .host rfl
  unfold State.writeAddr at h
  repeat' split at h
  all_goals simp only [Option.some.injEq, reduceCtorEq] at h
  all_goals subst h
  all_goals simp [hc, hw]

/-- A last record leaves the entries that wait and the rings. -/
theorem State.lastRecord_host (s : State) (k : ReqKey) (r : Req) (st : Nat) :
    (s.lastRecord k r st).host.cq = s.host.cq ∧ (s.lastRecord k r st).host.rings = s.host.rings := by
  unfold State.lastRecord
  split
  · exact ⟨rfl, rfl⟩
  · split
    · exact ⟨rfl, rfl⟩
    · split
      · rename_i hw
        have h := State.writeAddr_host hw
        exact ⟨h.1, h.2⟩
      · have h : (s.raise 0x0C2 (hubSite 5 14) (s.fnOf k.1) 0 2 0).host = s.host := (State.raise_eff ..).same .host rfl
        exact ⟨congrArg _ h, congrArg _ h⟩

/-- Dropping a request's work leaves the entries that wait, the rings and the requests. -/
theorem State.forgetWork_host (s : State) (k : ReqKey) :
    (s.forgetWork k).host.cq = s.host.cq ∧ (s.forgetWork k).host.rings = s.host.rings ∧ (s.forgetWork k).host.reqs = s.host.reqs := by
  have key : ∀ (l : List (Nat × Table)) (x : State), (l.foldl (fun s e => s.discardCommit e.1) x).host = x.host := by
    intro l x
    have : Eff 1099513725448 x (l.foldl (fun s e => s.discardCommit e.1) x) :=
      Eff.foldl (fun s (e : Nat × Table) => State.discardCommit_eff s e.1) (Eff.refl _ x)
    exact this.same .host rfl
  have hp : ∀ x : State, (x.freePins k).host = x.host := fun x => (State.freePins_eff x k).same .host rfl
  unfold State.forgetWork
  simp [key, hp, s.closeStreams_host k]

theorem State.endColls_host (s : State) (k : ReqKey) (st : Nat) : (s.endColls k st).host = s.host :=
  (State.endColls_eff s k st).same .host rfl

theorem State.charge_host (s : State) (c : Nat) (f : Acct → Acct) : (s.charge c f).host = s.host := (State.charge_eff s c f).same .host rfl

/-- A request that ends leaves its final entry waiting. -/
theorem State.endReq_ends {s : State} {k : ReqKey} {op : Nat} {r : Req} (h : s.Holds k op r) (st n d : Nat) :
    Ends s (s.endReq k st n d) k st n d := by
  obtain ⟨hq, -, he, ho, hr, hg⟩ := h
  unfold State.endReq
  simp -zeta only [hq, he, hr, ho, Bool.false_eq_true, if_false, Option.isSome_none, Bool.false_or]
  extract_lets y z bytes a3 a2 a1 a0
  have hy : y.host.cq = s.host.cq ∧ y.host.rings = s.host.rings := by
    simp only [y]
    split
    · exact s.lastRecord_host k r st
    · exact ⟨rfl, rfl⟩
  have hz : z.host.cq = s.host.cq ∧ z.host.rings = s.host.rings := by
    simp only [z]
    split
    · rw [(State.chargePause_eff ..).same .host rfl]; exact hy
    · exact hy
  have h1 : a1.host.cq = s.host.cq ∧ a1.host.rings = s.host.rings := by
    have f := (z.endColls k st).forgetWork_host k
    rw [z.endColls_host k st] at f
    have h2 : a2.host = a3.host := State.charge_host ..
    simp only [a1]
    split
    · rw [(State.incSat_eff ..).same .host rfl, h2]; exact ⟨f.1.trans hz.1, f.2.1.trans hz.2⟩
    · rw [h2]; exact ⟨f.1.trans hz.1, f.2.1.trans hz.2⟩
  clear_value bytes a1
  have h0 : a0.host.cq = s.host.cq ∧ a0.host.rings = s.host.rings := h1
  have ring : ∀ x : State, x.host.rings = s.host.rings → (x.ring k.1).isSome = true := fun x hx => by rw [State.ring, hx]; exact hg
  rw [if_neg (by have := ring a1 h1.2; cases hr : a1.ring k.1 <;> simp_all)]
  have step : ∀ e : CqEntry, e.client = k.1 → (a0.produce e).host.cq = s.host.cq ++ [e] := fun e he => by
    rw [State.produce, if_pos (by rw [he]; exact ring a0 h0.2)]
    simp [h0.1]
  exact ⟨_, step _ rfl, rfl, rfl, rfl, rfl, rfl, rfl, rfl⟩

end Sys2Proof.Machine
end

