-- ==== Sys2Proof/Laws/Retrieve.lean ====
section
/-! SUPPORT. What each operation of Machine/Retrieve.lean can change, in the terms of Laws/Eff.lean: one lemma an operation. -/

namespace Sys2Proof.Machine

theorem State.opRetrieve_eff : ∀ s k, Eff 1133853425498 s (State.opRetrieve s k) := by
  intro s k
  unfold State.opRetrieve
  refine State.onReq_eff ?_ ?_
  · exact Eff.refl ..
  · intro a0
    refine Eff.ite ?_ ?_
    · exact Eff.refl ..
    · split
      · exact (State.endReq_eff ..).mono rfl
      · split
        · exact (State.endReq_eff ..).mono rfl
        · extract_lets +onlyGivenNames x1
          clear_value x1
          extract_lets +onlyGivenNames x2
          clear_value x2
          split
          · refine Eff.of_fst ‹_ = (_, _)› ?_
            exact (State.gather_eff ..).mono rfl
          · refine Eff.ite ?_ ?_
            · refine (State.endReq_eff ..).step rfl ?_
              refine Eff.of_fst ‹_ = (_, _)› ?_
              exact (State.gather_eff ..).mono rfl
            · refine Eff.ite ?_ ?_
              · refine (State.endReq_eff ..).step rfl ?_
                refine Eff.of_fst ‹_ = (_, _)› ?_
                exact (State.gather_eff ..).mono rfl
              · extract_lets +onlyGivenNames x3
                refine Eff.cut x3 ?_ ?_
                · subst x3
                  refine (State.updReq_eff ..).step rfl ?_
                  refine (State.setInputs_eff ..).step rfl ?_
                  refine Eff.of_fst ‹_ = (_, _)› ?_
                  exact (State.gather_eff ..).mono rfl
                intro hx
                clear_value x3
                extract_lets +onlyGivenNames x4
                refine Eff.cut x4 ?_ ?_
                · subst x4
                  refine (State.putRetrieves_eff ..).step rfl ?_
                  assumption
                intro hx
                clear_value x4
                refine (State.addTask_eff ..).step rfl ?_
                assumption

theorem execOpRetrieve_eff : ∀ client req s, OutEff 1133853425498 s (execOpRetrieve client req s) := by
  intro client req s
  unfold execOpRetrieve
  refine OutEff.next ?_
  exact (State.opRetrieve_eff ..).mono rfl

theorem State.setStage_eff : ∀ s k n, Eff 2147483648 s (State.setStage s k n) := by
  intro s k n
  unfold State.setStage
  exact (State.updRetrieve_eff ..).mono rfl

theorem State.stageReady_eff : ∀ s k, Eff 2147483648 s (State.stageReady s k) := by
  intro s k
  unfold State.stageReady
  exact (State.updRetrieve_eff ..).mono rfl

theorem State.joinPass_eff : ∀ s k r model stage role rows work, Eff 1108083614552 s (State.joinPass s k r model stage role rows work) := by
  intro s k r model stage role rows work
  unfold State.joinPass
  split
  · refine (State.failWork_eff ..).step rfl ?_
    exact Eff.refl ..
  · extract_lets +onlyGivenNames x0
    refine Eff.cut x0 ?_ ?_
    · subst x0
      exact (State.updReq_eff ..).mono rfl
    intro hx
    clear_value x0
    refine (State.queueRows_eff ..).step rfl ?_
    refine (State.setStage_eff ..).step rfl ?_
    assumption

theorem State.fanOut_eff : ∀ s k r x, Eff 1108083614552 s (State.fanOut s k r x) := by
  intro s k r x
  unfold State.fanOut
  extract_lets +onlyGivenNames x0
  clear_value x0
  extract_lets +onlyGivenNames x1
  clear_value x1
  extract_lets +onlyGivenNames x2
  clear_value x2
  split
  · exact (State.failWork_eff ..).mono rfl
  · exact Eff.refl ..
  · refine Eff.ite ?_ ?_
    · exact (State.failWork_eff ..).mono rfl
    · extract_lets +onlyGivenNames x3
      clear_value x3
      extract_lets +onlyGivenNames x4
      refine Eff.cut x4 ?_ ?_
      · subst x4
        exact (State.updFab_eff ..).mono rfl
      intro hx
      clear_value x4
      extract_lets +onlyGivenNames x5
      refine Eff.cut x5 ?_ ?_
      · subst x5
        refine Eff.foldl ?_ ?_
        · intro a6
          intro a7
          exact (State.sendWork_eff ..).mono rfl
        · assumption
      intro hx
      clear_value x5
      extract_lets +onlyGivenNames x8
      refine Eff.cut x8 ?_ ?_
      · subst x8
        refine Eff.ite ?_ ?_
        · refine (State.pinNamed_eff ..).step rfl ?_
          assumption
        · assumption
      intro hx
      clear_value x8
      refine (State.stageReady_eff ..).step rfl ?_
      refine (State.setStage_eff ..).step rfl ?_
      assumption

theorem State.searchStage_eff : ∀ s k r x, Eff 1108084663128 s (State.searchStage s k r x) := by
  intro s k r x
  unfold State.searchStage
  extract_lets +onlyGivenNames x0
  clear_value x0
  extract_lets +onlyGivenNames x1
  refine Eff.cut x1 ?_ ?_
  · subst x1
    exact (State.setStage_eff ..).mono rfl
  intro hx
  clear_value x1
  refine (State.collCheck_eff ..).step rfl ?_
  refine Eff.ite ?_ ?_
  · assumption
  · refine (State.beginSearch_eff ..).step rfl ?_
    assumption

theorem State.exactStage_eff : ∀ s k x, Eff 1133853425498 s (State.exactStage s k x) := by
  intro s k x
  unfold State.exactStage
  extract_lets +onlyGivenNames x0
  refine Eff.cut x0 ?_ ?_
  · subst x0
    exact (State.setStage_eff ..).mono rfl
  intro hx
  clear_value x0
  split
  · refine (State.failWork_eff ..).step rfl ?_
    assumption
  · refine Eff.ite ?_ ?_
    · refine (State.collCheck_eff ..).step rfl ?_
      assumption
    · extract_lets +onlyGivenNames x1
      refine Eff.cut x1.1 ?_ ?_
      · subst x1
        refine (State.secondList_eff ..).step rfl ?_
        assumption
      intro hx
      clear_value x1
      refine Eff.ite ?_ ?_
      · refine (State.failWork_eff ..).step rfl ?_
        assumption
      · refine (State.contributed_eff ..).step rfl ?_
        assumption

theorem State.fetchStage_eff : ∀ s k x, Eff 1133853425498 s (State.fetchStage s k x) := by
  intro s k x
  unfold State.fetchStage
  split
  · exact (State.failWork_eff ..).mono rfl
  · extract_lets +onlyGivenNames x0
    clear_value x0
    extract_lets +onlyGivenNames x1
    clear_value x1
    extract_lets +onlyGivenNames x2
    clear_value x2
    extract_lets +onlyGivenNames x3
    clear_value x3
    split
    · exact (State.gone_eff ..).mono rfl
    · extract_lets +onlyGivenNames x4
      refine Eff.cut x4 ?_ ?_
      · subst x4
        refine (State.updColl_eff ..).step rfl ?_
        exact (State.setStage_eff ..).mono rfl
      intro hx
      clear_value x4
      extract_lets +onlyGivenNames x5
      refine Eff.cut x5 ?_ ?_
      · subst x5
        refine Eff.foldl ?_ ?_
        · intro a6
          intro a7
          exact (State.sendWork_eff ..).mono rfl
        · assumption
      intro hx
      clear_value x5
      refine Eff.ite ?_ ?_
      · extract_lets +onlyGivenNames x8
        refine Eff.cut x8.1 ?_ ?_
        · subst x8
          refine (State.fetchAnswer_eff ..).step rfl ?_
          assumption
        intro hx
        clear_value x8
        refine Eff.ite ?_ ?_
        · refine (State.failWork_eff ..).step rfl ?_
          assumption
        · refine (State.contributed_eff ..).step rfl ?_
          assumption
      · assumption

theorem State.crossStage_eff : ∀ s k r x, Eff 1108083614552 s (State.crossStage s k r x) := by
  intro s k r x
  unfold State.crossStage
  extract_lets +onlyGivenNames x0
  clear_value x0
  extract_lets +onlyGivenNames x1
  clear_value x1
  refine Eff.ite ?_ ?_
  · refine (State.updRetrieve_eff ..).step rfl ?_
    exact (State.setStage_eff ..).mono rfl
  · refine (State.joinPass_eff ..).step rfl ?_
    exact Eff.refl ..

theorem State.packStage_eff : ∀ s k r x, Eff 1133853425498 s (State.packStage s k r x) := by
  intro s k r x
  unfold State.packStage
  extract_lets +onlyGivenNames x0
  clear_value x0
  refine Eff.ite ?_ ?_
  · exact (State.failWork_eff ..).mono rfl
  · split
    · refine Eff.of_fst ‹_ = (_, _)› ?_
      exact (State.gather_eff ..).mono rfl
    · extract_lets +onlyGivenNames x1
      clear_value x1
      refine (State.addTask_eff ..).step rfl ?_
      refine (State.setStage_eff ..).step rfl ?_
      refine (State.setInputs_eff ..).step rfl ?_
      refine Eff.of_fst ‹_ = (_, _)› ?_
      exact (State.gather_eff ..).mono rfl

theorem State.followOn_eff : ∀ s k r x few recBase, Eff 1108083614552 s (State.followOn s k r x few recBase) := by
  intro s k r x few recBase
  unfold State.followOn
  extract_lets +onlyGivenNames x0
  clear_value x0
  extract_lets +onlyGivenNames x1
  clear_value x1
  split
  · exact (State.endReq_eff ..).mono rfl
  · refine Eff.ite ?_ ?_
    · exact (State.endReq_eff ..).mono rfl
    · extract_lets +onlyGivenNames x2
      refine Eff.cut x2 ?_ ?_
      · subst x2
        refine Eff.ite ?_ ?_
        · exact Eff.refl ..
        · refine Eff.foldl ?_ ?_
          · intro a3
            intro a4
            exact (State.unpin_eff ..).mono rfl
          · exact Eff.refl ..
      intro hx
      clear_value x2
      extract_lets +onlyGivenNames x5
      refine Eff.cut x5 ?_ ?_
      · subst x5
        refine (State.putRetrieves_eff ..).step rfl ?_
        assumption
      intro hx
      clear_value x5
      extract_lets +onlyGivenNames x6
      refine Eff.cut x6 ?_ ?_
      · subst x6
        refine (State.beginGen_eff ..).step rfl ?_
        assumption
      intro hx
      clear_value x6
      refine Eff.ite ?_ ?_
      · refine (State.startMatch_eff ..).step rfl ?_
        assumption
      · assumption

theorem State.handOver_eff : ∀ s k r x, Eff 1133853425498 s (State.handOver s k r x) := by
  intro s k r x
  unfold State.handOver
  extract_lets +onlyGivenNames x0
  clear_value x0
  extract_lets +onlyGivenNames x1
  clear_value x1
  extract_lets +onlyGivenNames x2
  clear_value x2
  extract_lets +onlyGivenNames x3
  refine Eff.cut x3 ?_ ?_
  · subst x3
    exact (State.putRec_eff ..).mono rfl
  intro hx
  clear_value x3
  extract_lets +onlyGivenNames x4
  refine Eff.cut x4 ?_ ?_
  · subst x4
    refine (State.putOut_eff ..).step rfl ?_
    refine (State.putOut_eff ..).step rfl ?_
    assumption
  intro hx
  clear_value x4
  extract_lets +onlyGivenNames x5
  refine Eff.cut x5 ?_ ?_
  · subst x5
    refine (State.updReq_eff ..).step rfl ?_
    assumption
  intro hx
  clear_value x5
  refine Eff.ite ?_ ?_
  · assumption
  · refine Eff.ite ?_ ?_
    · refine (State.followOn_eff ..).step rfl ?_
      refine (State.interim_eff ..).step rfl ?_
      assumption
    · refine (State.endReq_eff ..).step rfl ?_
      assumption

theorem State.nextStage_eff : ∀ s k r x, Eff 1133854474074 s (State.nextStage s k r x) := by
  intro s k r x
  unfold State.nextStage
  split
  · exact (State.joinPass_eff ..).mono rfl
  · exact (State.fanOut_eff ..).mono rfl
  · exact (State.searchStage_eff ..).mono rfl
  · exact (State.exactStage_eff ..).mono rfl
  · exact (State.fetchStage_eff ..).mono rfl
  · exact (State.crossStage_eff ..).mono rfl
  · exact (State.packStage_eff ..).mono rfl
  · exact (State.handOver_eff ..).mono rfl
  · exact Eff.refl ..

theorem State.stageAdvance_eff : ∀ s k, Eff 1133854474074 s (State.stageAdvance s k) := by
  intro s k
  unfold State.stageAdvance
  split
  · refine Eff.ite ?_ ?_
    · exact Eff.refl ..
    · split
      · refine (State.endReq_eff ..).step rfl ?_
        exact Eff.refl ..
      · split
        · refine (State.endReq_eff ..).step rfl ?_
          exact Eff.refl ..
        · refine (State.nextStage_eff ..).step rfl ?_
          exact Eff.refl ..
  · exact Eff.refl ..

theorem execRetrieveStageAdvance_eff : ∀ client req s, OutEff 1133854474074 s (execRetrieveStageAdvance client req s) := by
  intro client req s
  unfold execRetrieveStageAdvance
  refine OutEff.next ?_
  exact (State.stageAdvance_eff ..).mono rfl

end Sys2Proof.Machine
end

