-- ==== Sys2Proof/Laws/Vector.lean ====
section
/-! SUPPORT. What each operation of Machine/Vector.lean can change, in the terms of Laws/Eff.lean: one lemma an operation. -/

namespace Sys2Proof.Machine

theorem State.withVec_eff {k : Nat} {s0 s : State} {cl a : Nat} {f : State → Cluster → List Byte → State} (hk : subMask 1133853425498 k = true)
    (h : Eff k s0 s) (hf : ∀ t c d, Eff k s0 t → Eff k s0 (f t c d)) : Eff k s0 (s.withVec cl a f) := by
  unfold State.withVec
  refine State.onCluster_eff h fun c => ?_
  refine State.reading_eff (subMask_trans rfl hk) h fun t ht => ?_
  extract_lets r
  exact Eff.ite ((State.controlPoison_eff ..).step hk ht) (hf _ _ _ ht)

theorem State.vecTopk_eff : ∀ s cl c d, Eff 1133853425498 s (State.vecTopk s cl c d) := by
  intro s cl c d
  unfold State.vecTopk
  extract_lets +onlyGivenNames x0
  clear_value x0
  extract_lets +onlyGivenNames x1
  clear_value x1
  extract_lets +onlyGivenNames x2
  clear_value x2
  extract_lets +onlyGivenNames x3
  clear_value x3
  extract_lets +onlyGivenNames x4
  clear_value x4
  extract_lets +onlyGivenNames x5
  clear_value x5
  refine State.reading_eff rfl ?_ ?_
  · exact Eff.refl ..
  · intro a6
    intro a7
    refine State.writing_eff rfl ?_ ?_
    · assumption
    · intro a8
      intro a9
      extract_lets +onlyGivenNames x10
      clear_value x10
      extract_lets +onlyGivenNames x11
      clear_value x11
      extract_lets +onlyGivenNames x12
      clear_value x12
      extract_lets +onlyGivenNames x13
      clear_value x13
      extract_lets +onlyGivenNames x14
      clear_value x14
      extract_lets +onlyGivenNames x15
      clear_value x15
      refine (State.setCluster_eff ..).step rfl ?_
      assumption

theorem State.vop_eff : ∀ s cl a, Eff 1133853425498 s (State.vop s cl a) := by
  intro s cl a
  unfold State.vop
  refine State.withVec_eff rfl ?_ ?_
  · exact Eff.refl ..
  · intro a0
    intro a1
    intro a2
    intro a3
    refine Eff.ite ?_ ?_
    · refine (State.vecTopk_eff ..).step rfl ?_
      assumption
    · extract_lets +onlyGivenNames x4
      clear_value x4
      extract_lets +onlyGivenNames x5
      clear_value x5
      extract_lets +onlyGivenNames x6
      clear_value x6
      extract_lets +onlyGivenNames x7
      clear_value x7
      extract_lets +onlyGivenNames x8
      clear_value x8
      extract_lets +onlyGivenNames x9
      clear_value x9
      refine State.reading_eff rfl ?_ ?_
      · assumption
      · intro a10
        intro a11
        refine State.writing_eff rfl ?_ ?_
        · assumption
        · intro a12
          intro a13
          extract_lets +onlyGivenNames x14
          clear_value x14
          extract_lets +onlyGivenNames x15
          clear_value x15
          extract_lets +onlyGivenNames x16
          clear_value x16
          extract_lets +onlyGivenNames x17
          clear_value x17
          extract_lets +onlyGivenNames x18
          clear_value x18
          extract_lets +onlyGivenNames x19
          clear_value x19
          extract_lets +onlyGivenNames x20
          clear_value x20
          refine (State.setCluster_eff ..).step rfl ?_
          assumption

theorem execVop_eff : ∀ cl descAddr s, OutEff 1133853425498 s (execVop cl descAddr s) := by
  intro cl descAddr s
  unfold execVop
  refine OutEff.next ?_
  exact (State.vop_eff ..).mono rfl

theorem execTopk_eff : ∀ cl descAddr s, OutEff 1133853425498 s (execTopk cl descAddr s) := by
  intro cl descAddr s
  unfold execTopk
  refine OutEff.next ?_
  refine State.withVec_eff rfl ?_ ?_
  · exact Eff.refl ..
  · intro a0
    intro a1
    intro a2
    intro a3
    refine (State.vecTopk_eff ..).step rfl ?_
    assumption

theorem State.quantize_eff : ∀ s cl a e, Eff 1133853425498 s (State.quantize s cl a e) := by
  intro s cl a e
  unfold State.quantize
  refine State.withVec_eff rfl ?_ ?_
  · exact Eff.refl ..
  · intro a0
    intro a1
    intro a2
    intro a3
    extract_lets +onlyGivenNames x4
    clear_value x4
    extract_lets +onlyGivenNames x5
    clear_value x5
    refine State.reading_eff rfl ?_ ?_
    · assumption
    · intro a6
      intro a7
      refine State.writing_eff rfl ?_ ?_
      · assumption
      · intro a8
        intro a9
        extract_lets +onlyGivenNames x10
        clear_value x10
        extract_lets +onlyGivenNames x11
        clear_value x11
        extract_lets +onlyGivenNames x12
        clear_value x12
        extract_lets +onlyGivenNames x13
        clear_value x13
        extract_lets +onlyGivenNames x14
        clear_value x14
        extract_lets +onlyGivenNames x15
        clear_value x15
        extract_lets +onlyGivenNames x16
        clear_value x16
        extract_lets +onlyGivenNames x17
        clear_value x17
        extract_lets +onlyGivenNames x18
        clear_value x18
        refine (State.setCluster_eff ..).step rfl ?_
        assumption

theorem execQuantize_eff : ∀ cl descAddr elem s, OutEff 1133853425498 s (execQuantize cl descAddr elem s) := by
  intro cl descAddr elem s
  unfold execQuantize
  refine OutEff.next ?_
  exact (State.quantize_eff ..).mono rfl

end Sys2Proof.Machine
end

