-- ==== Sys2Proof/Laws/Words.lean ====
section
/-! SUPPORT. Words of LPDDR-6: a word reads as the symbols last stored, and a store leaves every other word. -/

namespace Sys2Proof.Machine

theorem sget_ssetList_lt {α : Type} [DecidableEq α] {d : α} {m : Sparse α} {i j : Nat} (vs : List α) (h : swf d m = true) (hj : j < i) :
    sget d (ssetList d m i vs) j = sget d m j := by
  induction vs generalizing m i with
  | nil => rfl
  | cons v r ih => rw [ssetList, ih (sset_wf i v h) (by omega), sget_sset_ne v (by omega) h]

theorem sget_ssetList_ge {α : Type} [DecidableEq α] {d : α} {m : Sparse α} {i j : Nat} (vs : List α) (h : swf d m = true)
    (hj : i + vs.length ≤ j) : sget d (ssetList d m i vs) j = sget d m j := by
  induction vs generalizing m i with
  | nil => rfl
  | cons v r ih =>
    simp only [List.length_cons] at hj
    rw [ssetList, ih (sset_wf i v h) (by omega), sget_sset_ne v (by omega) h]

theorem sget_ssetList_at {α : Type} [DecidableEq α] {d : α} {m : Sparse α} {i : Nat} (vs : List α) (h : swf d m = true) (j : Nat)
    (hj : j < vs.length) : sget d (ssetList d m i vs) (i + j) = vs[j] := by
  induction vs generalizing m i j with
  | nil => exact absurd hj (by simp)
  | cons v r ih =>
    cases j with
    | zero => rw [ssetList, Nat.add_zero, sget_ssetList_lt r (sset_wf i v h) (by omega)]; exact sget_sset_same i v h
    | succ j =>
      have e : i + (j + 1) = i + 1 + j := by omega
      rw [ssetList, e, ih (sset_wf i v h) j (by simpa using hj)]; rfl

/-- A word reads as the symbols last stored in it. -/
theorem wordAt_putWord_same {c : List Host.Cell} (w : Nat) (b : List Byte) (h : Memory.wf c = true) (hb : b.length = 18) :
    wordAt (putWord c w b) w = b := by
  apply List.ext_getElem
  · simp [wordAt, sgetList, hb]
  · intro n h1 h2
    simp only [wordAt, sgetList, List.getElem_map, List.getElem_range]
    exact sget_ssetList_at b h n h2

/-- A store leaves every other word. -/
theorem wordAt_putWord_ne {c : List Host.Cell} {w x : Nat} (b : List Byte) (h : Memory.wf c = true) (hb : b.length = 18) (hx : x ≠ w) :
    wordAt (putWord c w b) x = wordAt c x := by
  apply List.ext_getElem
  · simp [wordAt, sgetList]
  · intro n h1 h2
    have hn : n < 18 := by simpa [wordAt, sgetList] using h1
    simp only [wordAt, sgetList, List.getElem_map, List.getElem_range]
    rcases Nat.lt_or_gt_of_ne hx with hlt | hgt
    · exact sget_ssetList_lt b h (by omega)
    · exact sget_ssetList_ge b h (by omega)

end Sys2Proof.Machine
end

