-- ==== Sys2Proof/WellFormed.lean ====
section
/-! DEFINITION. The ranges of the commands' operands, as the spec gives them. A meaning is total: it reads no operand as anything but the
number it is, and what names a thing that does not exist changes nothing; these checks say which commands can come from the hardware. -/

namespace Sys2Proof

namespace WellFormed

/-- A client (R324). -/
def isClient (c : Nat) : Bool := decide (c < 4096)

/-- A 32-bit identifier, tag, epoch or row. -/
def isId (n : Nat) : Bool := decide (n < 2 ^ 32)

/-- A 64-bit register value or address. -/
def isReg (v : Nat) : Bool := decide (v < 2 ^ 64)

/-- A PCIe function: the PF or VF 1 to 63. -/
def isFn (f : Nat) : Bool := decide (f < 64)

/-- An accessor of BAR0: a function, a management core or the board manager. -/
def isAccessor (a : Nat) : Bool := decide (a ≤ 72)

/-- A partition. -/
def isPart (p : Nat) : Bool := decide (p < 64)

/-- A logical cluster. -/
def isCluster (c : Nat) : Bool := decide (c < 240)

/-- A physical cluster of the module. -/
def isPhys (c : Nat) : Bool := decide (c < 256)

/-- A memory channel. -/
def isChan (c : Nat) : Bool := decide (c < 256)

/-- A sub-channel. -/
def isSub (n : Nat) : Bool := decide (n < 2)

/-- A bank of a channel as a command names it. -/
def isBank (b : Nat) : Bool := decide (b < 2 ^ 8)

/-- A word of LPDDR-6: 4 × (2^27 × channel + line) + word of the line. -/
def isWord (w : Nat) : Bool := decide (w < 4 * 2 ^ 27 * 256)

/-- A master ID (Table LEVL-8). -/
def isMaster (m : Nat) : Bool := decide (m < 2 ^ 11)

/-- A doorbell index (R303). -/
def isIdx (n : Nat) : Bool := decide (n < 65536)

/-- A mailbox channel. -/
def isMbx (k : Nat) : Bool := decide (k < 1024)

/-- Kick bits of the eight management cores. -/
def isKick (b : Nat) : Bool := decide (b < 2 ^ 8)

/-- A power domain number. -/
def isDomain (d : Nat) : Bool := decide (d < 512)

/-- A cap in W. -/
def isWatts (w : Nat) : Bool := decide (w < 65536)

/-- A 7-bit bus address. -/
def isI3c (a : Nat) : Bool := decide (a < 128)

/-- A scratch address (Table CLUS-2). -/
def isScratch (a : Nat) : Bool := decide (a < 2 ^ 23)

/-- An ARRAYS mask. -/
def isArrays (m : Nat) : Bool := decide (m < 16)

/-- A PAIR index. -/
def isPairIdx (p : Nat) : Bool := decide (p < 256)

/-- BLOCKS of LMV. -/
def isBlocks (b : Nat) : Bool := decide (1 ≤ b) && decide (b ≤ 4096)

/-- WIN_ADDR of LMV. -/
def isWindow (a : Nat) : Bool := decide (a < 2 ^ 23) && decide (a % 8192 = 0)

/-- A stream engine. -/
def isStreamEng (e : Nat) : Bool := decide (e < 4)

/-- A completion counter. -/
def isCounter (c : Nat) : Bool := decide (c < 64)

/-- The count of WAITT. -/
def isCount64 (n : Nat) : Bool := decide (1 ≤ n) && decide (n ≤ 64)

/-- LEN of SEND. -/
def isTokenLen (n : Nat) : Bool := decide (n ≤ 32)

/-- A port of a cluster. -/
def isClPort (p : Nat) : Bool := decide (p < 8)

/-- Credits returned at once. -/
def isCredit (n : Nat) : Bool := decide (1 ≤ n) && decide (n ≤ 8)

/-- A repeat or cycle count. -/
def isLoop (n : Nat) : Bool := decide (1 ≤ n) && decide (n ≤ 65536)

/-- The body length of LOOP. -/
def isBody (n : Nat) : Bool := decide (n < 4096)

/-- A region. -/
def isRegion (r : Nat) : Bool := decide (r < 32)

/-- A router port or an optical port. -/
def isPort16 (p : Nat) : Bool := decide (p < 16)

/-- A direction of a die link. -/
def isLink (l : Nat) : Bool := decide (l < 16)

/-- A priority class. -/
def isClass (c : Nat) : Bool := decide (c < 8)

/-- A pool or tree. -/
def isPool (p : Nat) : Bool := decide (p < 8)

/-- A Medlar engine. -/
def isMedlar (e : Nat) : Bool := decide (e < 2)

/-- An engine of any kind. -/
def isEngine (e : Nat) : Bool := decide (e < 8)

/-- A compute die. -/
def isDie (d : Nat) : Bool := decide (d < 4)

/-- A Sloe walker. -/
def isWalker (w : Nat) : Bool := decide (w < 128)

/-- An index shard slot. -/
def isShardSlot (n : Nat) : Bool := decide (n < 2)

/-- A gather unit. -/
def isGather (u : Nat) : Bool := decide (u < 32)

/-- A bag of a lookup. -/
def isBag (b : Nat) : Bool := decide (b < 65536)

/-- A table slot. -/
def isTable (t : Nat) : Bool := decide (t < 256)

/-- A module ID. -/
def isModule (m : Nat) : Bool := decide (m < 4096)

/-- An adapter ID. -/
def isAdapter (a : Nat) : Bool := decide (a < 1024)

/-- A flash core. -/
def isCore16 (c : Nat) : Bool := decide (c < 16)

/-- A flash die as a command names it. -/
def isFlashDie (d : Nat) : Bool := decide (d < 2 ^ 12)

/-- A lane of an optical port. -/
def isLane (l : Nat) : Bool := decide (l < 8)

/-- A mask of lanes. -/
def isLaneMask (m : Nat) : Bool := decide (m < 256)

/-- A management core. -/
def isMgmt (c : Nat) : Bool := decide (c < 8)

/-- A cause of a partition reset (Table TNCY-2). -/
def isCause (c : Nat) : Bool := decide (1 ≤ c) && decide (c ≤ 8)

/-- A cause of a module reset. -/
def isModCause (c : Nat) : Bool := decide (c < 16)

/-- A reason of a start-up failure. -/
def isReason (r : Nat) : Bool := decide (r < 256)

/-- A certificate slot. -/
def isCertSlot (n : Nat) : Bool := decide (n < 8)

/-- One byte. -/
def isU8 (n : Nat) : Bool := decide (n < 256)

/-- Two bytes. -/
def isU16 (n : Nat) : Bool := decide (n < 65536)

/-- A component of an update: firmware or configuration. -/
def isComponent (c : Nat) : Bool := c = 1 || c = 2

/-- Bytes of a BAR4 access. -/
def isLen (n : Nat) : Bool := decide (1 ≤ n) && decide (n ≤ 4096)

/-- Bytes of a host read. -/
def isReadLen (n : Nat) : Bool := decide (n < 2 ^ 32)

/-- Bytes of a BAR4 write. -/
def isPayload (b : List Byte) : Bool := decide (1 ≤ b.length) && decide (b.length ≤ 4096)

/-- A 64-byte descriptor. -/
def isDesc (d : List Byte) : Bool := decide (d.length = 64)

/-- A 32-byte nonce. -/
def isNonce (b : List Byte) : Bool := decide (b.length = 32)

/-- A register write that has the sizes of R297. -/
def isRegWrite (w : RegWrite) : Bool :=
  isAccessor w.accessor && (w.size = 4 || w.size = 8) && decide (w.offset % w.size = 0) &&
    decide (w.offset < 2 ^ 24) && decide (w.value < 2 ^ (8 * w.size))

/-- A fabric message (Table FABR-4). -/
def isMsg (m : FabMsg) : Bool :=
  isModule m.dst && isModule m.src && isMaster m.master && isModule m.stream && decide (m.vc < 4) && decide (m.kind < 16) && isId m.request &&
    isU16 m.seq && decide (m.payload.length ≤ 1023)

/-- A fault message (Table HLTH-1). -/
def isFaultMsg (m : FaultMsg) : Bool := isU16 m.kind && isU16 m.site && isMaster m.master && decide (m.time < 2 ^ 32)

/-- A piece of an update image (R419). -/
def isPiece (p : Piece) : Bool := isComponent p.component && decide (p.bytes.length ≤ 4096)

end WellFormed

open WellFormed

/-- Are the operands of a command in range? -/
def Instr.wf (i : Instr) : Bool :=
  match i with
  | .opTokenize client req => isClient client && isId req
  | .opDetokenize client req => isClient client && isId req
  | .opEmbed client req => isClient client && isId req
  | .opSearch client req => isClient client && isId req
  | .opRerankExact client req => isClient client && isId req
  | .opRerankModel client req => isClient client && isId req
  | .opTopk client req => isClient client && isId req
  | .opPack client req => isClient client && isId req
  | .opRetrieve client req => isClient client && isId req
  | .opGenerate client req => isClient client && isId req
  | .stepControlPause client req => isClient client && isId req
  | .stepControlResume client req => isClient client && isId req
  | .stepControlCancel client req => isClient client && isId req
  | .opTableLookup client req => isClient client && isId req
  | .opTableUpdate client req => isClient client && isId req
  | .opTableCommit client req => isClient client && isId req
  | .opIndexInsert client req => isClient client && isId req
  | .opIndexDelete client req => isClient client && isId req
  | .opIndexMerge client req => isClient client && isId req
  | .opAdapterLoad client req => isClient client && isId req
  | .opAdapterRetire client req => isClient client && isId req
  | .opObjectPlace client req => isClient client && isId req
  | .opObjectLoad client req => isClient client && isId req
  | .opAccountRead client req => isClient client && isId req
  | .opDigestRead client req => isClient client && isId req
  | .setCap client req => isClient client && isId req
  | .clearCap client req => isClient client && isId req
  | .enterWatch client req => isClient client && isId req
  | .admRingCreate desc => isDesc desc
  | .admRingDelete desc => isDesc desc
  | .sqTail fn client value => isFn fn && isClient client && isIdx value
  | .cqHead fn client value => isFn fn && isClient client && isIdx value
  | .descriptorFetch client => isClient client
  | .descriptorAdmit client => isClient client
  | .completionPost client => isClient client
  | .irqModerationTimeout client => isClient client
  | .functionLevelReset fn _ => isFn fn
  | .functionD0Return fn => isFn fn
  | .bar4Read _ n => isLen n
  | .bar4Write _ bytes _ => isPayload bytes
  | .bar0InvalidAccess (.bar0 a) _ _ _ => isAccessor a
  | .bar0InvalidAccess (.bar2 fn) _ _ _ => isFn fn
  | .registerWrite w => isRegWrite w
  | .hstAdmCfgWrite accessor value => isAccessor accessor && isReg value
  | .hstAdmDbWrite accessor value => isAccessor accessor && isReg value
  | .mbxSendTagWrite accessor tag => isAccessor accessor && isId tag
  | .mbxSenderRoom chan ptr tag => isMbx chan && isReg ptr && isId tag
  | .mbxPop accessor => isAccessor accessor
  | .mbxFlush accessor => isAccessor accessor
  | .cfgResetModule accessor => isAccessor accessor
  | .heartbeatRefresh accessor => isAccessor accessor
  | .watchdogKick accessor bits => isAccessor accessor && isKick bits
  | .firstErrorClear accessor => isAccessor accessor
  | .pwrModeNap accessor domain => isAccessor accessor && isDomain domain
  | .pwrModeRun accessor domain => isAccessor accessor && isDomain domain
  | .pwrModeWatch accessor => isAccessor accessor
  | .updActivateAtWrite accessor value => isAccessor accessor && isReg value
  | .accRec0Read accessor => isAccessor accessor
  | .accClientselWrite accessor client => isAccessor accessor && isClient client
  | .bmcWakeCommand => true
  | .bmcWatchCommand => true
  | .bmcResetCommand => true
  | .bmcCap watts => isWatts watts
  | .locateCommand _ => true
  | .i3cDynamicAddress addr => isI3c addr
  | .setstep cl addr => isCluster cl && isScratch addr
  | .setpair cl addr => isCluster cl && isScratch addr
  | .wload cl wAddr arrays _ => isCluster cl && isScratch wAddr && isArrays arrays
  | .mma cl aAddr pair _ _ _ => isCluster cl && isScratch aAddr && isPairIdx pair
  | .lmv cl aAddr pair blocks winAddr _ _ => isCluster cl && isScratch aAddr && isPairIdx pair && isBlocks blocks && isWindow winAddr
  | .pacc cl srcAddr pair => isCluster cl && isScratch srcAddr && isPairIdx pair
  | .vop cl descAddr => isCluster cl && isScratch descAddr
  | .topk cl descAddr => isCluster cl && isScratch descAddr
  | .quantize cl descAddr _ => isCluster cl && isScratch descAddr
  | .stream cl descAddr engine => isCluster cl && isScratch descAddr && isStreamEng engine
  | .waitt cl counter n => isCluster cl && isCounter counter && isCount64 n
  | .send cl srcAddr len port => isCluster cl && isScratch srcAddr && isTokenLen len && isClPort port
  | .recv cl dstAddr port => isCluster cl && isScratch dstAddr && isClPort port
  | .loop cl count body => isCluster cl && isLoop count && isBody body
  | .nop cl cycles => isCluster cl && isLoop cycles
  | .page cl descAddr engine => isCluster cl && isScratch descAddr && isStreamEng engine
  | .jpage cl => isCluster cl
  | .stepEnd cl => isCluster cl
  | .stepBegin cl => isCluster cl
  | .wait cl => isCluster cl
  | .syncPointRelease cl _ => isCluster cl
  | .transferComplete cl engine => isCluster cl && isStreamEng engine
  | .recomputeDone cl _ _ => isCluster cl
  | .portTokenArrival cl port => isCluster cl && isClPort port
  | .creditReturn cl port n => isCluster cl && isClPort port && isCredit n
  | .rowEventMessage cl => isCluster cl
  | .arbiterGrant _ _ => true
  | .routerFlit region inPort _ => isRegion region && isPort16 inPort
  | .dieLinkFrame link _ => isLink link
  | .stepComplete part _ _ _ _ => isPart part
  | .passForm part => isPart part
  | .beginMessageRelease part stepTag => isPart part && isId stepTag
  | .prefetchEntryDone part _ _ => isPart part
  | .expertRouting part model _ _ _ counter => isPart part && isId model && isCounter counter
  | .genAdmission part cls => isPart part && isClass cls
  | .pipSample part _ _ => isPart part
  | .poolRestoreDone pool _ => isPool pool
  | .medlarProbeReturn engine _ => isMedlar engine
  | .engineTaskDispatch _ part => isPart part
  | .retrieveStageAdvance client req => isClient client && isId req
  | .walkStart die => isDie die
  | .walkEnd _ => true
  | .sideSweepPass walker => isWalker walker
  | .shardResultAssemble _ req slot => isId req && isShardSlot slot
  | .indexPublish slot => isShardSlot slot
  | .mergeBuildDone slot => isShardSlot slot
  | .mergeCommit slot => isShardSlot slot
  | .indexPinDrain slot => isShardSlot slot
  | .gatherSubbag unit => isGather unit
  | .bagMerge _ req bag => isId req && isBag bag
  | .tableCommitRequantize table => isTable table
  | .tableFlip table => isTable table
  | .splitCommitAck table holder => isTable table && isModule holder
  | .tableFlipAtTf table => isTable table
  | .tablePinDrain table epoch => isTable table && isId epoch
  | .keepMsExpire table epoch => isTable table && isId epoch
  | .migrationCopyDone table row => isTable table && isId row
  | .objectLoadComplete object => isId object
  | .adapterLoadComplete part adapter version => isPart part && isAdapter adapter && isId version
  | .memoryAccess word requester _ => isWord word && isMaster requester
  | .correctionWriteback word => isWord word
  | .patrolRead word _ => isWord word
  | .refresh chan bank _ _ => isChan chan && isBank bank
  | .refreshManagement chan => isChan chan
  | .readTrackingUpdate chan _ => isChan chan
  | .subchannelRetrain chan sc _ _ => isChan chan && isSub sc
  | .detectWindowExpire chan sc => isChan chan && isSub sc
  | .channelPowerDown chan => isChan chan
  | .flashSectorRead _ part _ => isPart part
  | .flashWriteAck core => isCore16 core
  | .stripeParityWrite _ _ => true
  | .wearRelocate die => isFlashDie die
  | .readDisturbScan _ _ => true
  | .flashDieRebuild die => isFlashDie die
  | .flashPeriodicTraining => true
  | .mapEntryRebuild _ => true
  | .fabricFrameReceive port _ => isPort16 port
  | .replayTimeout port => isPort16 port
  | .transitMessage msg => isMsg msg
  | .write msg => isMsg msg
  | .readReq msg => isMsg msg
  | .readRsp msg => isMsg msg
  | .contrib msg => isMsg msg
  | .result msg => isMsg msg
  | .error msg => isMsg msg
  | .unreach msg => isMsg msg
  | .freq msg => isMsg msg
  | .time port _ _ _ _ => isPort16 port
  | .queryFanout msg => isMsg msg
  | .splitTableForward msg => isMsg msg
  | .census src serial => isModule src && isReg serial
  | .censusAnswer serial => isReg serial
  | .usageReport msg => isMsg msg
  | .censusSend => true
  | .censusAnswerTimeout => true
  | .censusForget moduleId => isModule moduleId
  | .seqGapTimeout src master strm => isModule src && isMaster master && isModule strm
  | .collectiveTimeout req participant => isId req && isModule participant
  | .freqPeriod => true
  | .freqLeadDecide => true
  | .freqEffect => true
  | .timeExchange => true
  | .ptmUpdate _ => true
  | .handoverStart port lane => isPort16 port && isLane lane
  | .hoLock port lane => isPort16 port && isLane lane
  | .handoverTimeout port lane => isPort16 port && isLane lane
  | .laneTrackingStep port lane _ _ _ _ => isPort16 port && isLane lane
  | .portTraining port lockedLanes _ _ => isPort16 port && isLaneMask lockedLanes
  | .portTrainRetry port => isPort16 port
  | .portLossOfLock port => isPort16 port
  | .islandIdle domain => isDomain domain
  | .islandWake domain => isDomain domain
  | .regionNapEntry region => isRegion region
  | .napReturnComplete domain => isDomain domain
  | .watchEntry => true
  | .watchSample _ => true
  | .watchHeartbeat => true
  | .watchWake _ _ => true
  | .watchReturnComplete _ => true
  | .regionEstimate region _ _ _ => decide (region ≤ 32)
  | .governorTick _ _ _ => true
  | .freqStepChange cl => isCluster cl
  | .overPowerSignal => true
  | .holdEnd => true
  | .thermThrottle _ => true
  | .thermHold _ => true
  | .thermTrip _ => true
  | .faultMessage m => isFaultMsg m
  | .clusterRetirementReset cl => isCluster cl
  | .faultIrqCoalesce => true
  | .pulseToggle => true
  | .heartbeatLate => true
  | .wdogCore core => isMgmt core
  | .watchdogSecondStage core => isMgmt core
  | .checkCompare part => isPart part
  | .checkVoteDone part _ _ => isPart part
  | .windfallSlice cluster _ => isPhys cluster
  | .marginPlan cluster _ _ => isPhys cluster
  | .ringOscReading cluster _ => isPhys cluster
  | .partitionReset part cause => isPart part && isCause cause
  | .partitionResetDone part => isPart part
  | .pwrGoodRise => true
  | .perstNAssert => true
  | .perstNRelease => true
  | .moduleReset cause => isModCause cause
  | .startupStageDone _ => true
  | .startupFailure reason => isReason reason
  | .startupTimeout => true
  | .startupTimeWaitExpire => true
  | .inputPowerLoss => true
  | .railFault => true
  | .getVersion => true
  | .getCapabilities => true
  | .negotiateAlgorithms _ _ => true
  | .getDigests slot => isCertSlot slot
  | .getCertificate slot offset length _ => isCertSlot slot && isU16 offset && isU16 length
  | .challenge slot nonce => isCertSlot slot && isNonce nonce
  | .getMeasurements index nonce => isU8 index && isNonce nonce
  | .keyExchange session _ => isU16 session
  | .finish session => isU16 session
  | .endSession session => isU16 session
  | .queryDeviceIdentifiers => true
  | .getFirmwareParameters => true
  | .requestUpdate component _ => isComponent component
  | .passComponentTable component svn => isComponent component && isId svn
  | .updateComponent component svn => isComponent component && isId svn
  | .firmwareDataPiece p => isPiece p
  | .activateFirmware => true
  | .getStatus => true
  | .cancelUpdateComponent => true
  | .cancelUpdate => true
  | .batchCloseTimeout => true
  | .batchSigned => true
  | .activationCheck => true
  | .activationStart => true
  | .activationDrainEnd _ => true
  | .lightReturn port => isPort16 port
  | .laneLockHeld port lane => isPort16 port && isLane lane
  | .engineTaskDone _ engine => isEngine engine
  | .windfallSliceEnd cluster => isPhys cluster
  | .configurationRequest fn _ => isFn fn
  | .hostReadCompletion fn addr len _ _ => isFn fn && isReg addr && isReadLen len
  | .wakeNRelease _ => true

end Sys2Proof
end

