-- ==== Sys2Proof/Tests/Slice0.lean ====
section
/-! SUPPORT. The model's own tests. Ill-formed commands that WellFormed refuses; the spec's worked examples; and, for every statement with
hypotheses, a theorem `test_<statement>_meets` that shows values which meet the hypotheses of each of its clauses together. -/

-- One theorem at a time: each `decide +kernel` waits for every declaration before it, and tests that wait side by side take a thread each.
set_option Elab.async false

namespace Sys2Proof.Tests

open Sys2Proof Sys2Proof.Machine

/-- Writes fields of registers: field, index, value. -/
def regs (s : State) (l : List (Fld × Nat × Nat)) : State := l.foldl (fun s e => s.wr e.1 e.2.1 e.2.2) s

/-- Bytes with fields (offset, bytes, value) laid over zeros. -/
def bytes (n : Nat) (l : List (Nat × Nat × Nat)) : List Byte :=
  l.foldl (fun b e => b.take e.1 ++ leBytes e.2.1 e.2.2 ++ b.drop (e.1 + e.2.1)) (List.replicate n 0)

/-- A client's rings. -/
def ring : Ring :=
  { sqBase := 0x1000, cqBase := 0x8000, sqSize := 16, cqSize := 16, pasid := none, vector := 3, irqCount := 0, irqUs := 0, sqTail := 0,
    cqHead := 0, phase := true, unsignalled := 0, firstUnsignalled := 0, deleting := false }

/-- A request of client 1 with ID 5: opcode, descriptor fields, parameter block. -/
def req (op : Nat) (d : List (Nat × Nat × Nat)) (param : List Byte) : Req :=
  freshReq 1 5 0 (bytes 64 ((0, 1, op) :: (32, 8, 0x10000) :: (40, 8, 0x20000) :: d)) param 0 none 0 0

/-- The state after reset with client 1's rings registered and one request in flight. -/
def holds (r : Req) : State := { State.reset with host := { State.reset.host with rings := [(1, ring)], reqs := [r] } }

/-- MSI-X vector 0 of a function is not masked. -/
def unmasked (fn : Nat) (s : State) : State := s.updHost fun h => { h with msix := [(2 ^ 14 * fn + 3, 0)] }

/-- One live channel, and its first granule of view 0 owned by partition 0. -/
def mem (s : State) : State := regs { s with mem := { s.mem with owner := [(0, 1)] } } [(R.memLiveMask, 0, 1)]

/-- The opcode table gives no command any bits. -/
theorem test_no_word_is_a_command : decodeTableWord 32 7 = none := rfl

/-! ## Ill-formed commands, one for each check of WellFormed -/

/-- Clients, identifiers, registers, functions, accessors, partitions, clusters, channels and words past their ranges. -/
theorem test_wf_refuses_identifiers :
    (Instr.opTopk 4096 0).wf = false ∧ (Instr.opTopk 0 (2 ^ 32)).wf = false ∧ (Instr.hstAdmCfgWrite 0 (2 ^ 64)).wf = false ∧
    (Instr.functionD0Return 64).wf = false ∧ (Instr.mbxPop 73).wf = false ∧ (Instr.passForm 64).wf = false ∧ (Instr.stepEnd 240).wf = false ∧
    (Instr.windfallSliceEnd 256).wf = false ∧ (Instr.refreshManagement 256).wf = false ∧ (Instr.detectWindowExpire 0 2).wf = false ∧
    (Instr.refresh 0 256 0 true).wf = false ∧ (Instr.correctionWriteback (2 ^ 37)).wf = false := by decide

/-- Masters, doorbells, mailboxes, kick bits, domains, caps and bus addresses past their ranges. -/
theorem test_wf_refuses_host_operands :
    (Instr.seqGapTimeout 0 2048 0).wf = false ∧ (Instr.sqTail 0 0 65536).wf = false ∧ (Instr.mbxSenderRoom 1024 0 0).wf = false ∧
    (Instr.watchdogKick 0 256).wf = false ∧ (Instr.pwrModeNap 0 512).wf = false ∧ (Instr.bmcCap 65536).wf = false ∧
    (Instr.i3cDynamicAddress 128).wf = false ∧ (Instr.admRingCreate []).wf = false ∧ (Instr.bar4Read 0 0).wf = false ∧
    (Instr.bar4Write 0 [] true).wf = false ∧ (Instr.hostReadCompletion 0 0 (2 ^ 32) .admin .error).wf = false ∧
    (Instr.registerWrite ⟨0, 4, 8, 0⟩).wf = false ∧ (Instr.registerWrite ⟨0, 8, 4, 2 ^ 32⟩).wf = false := by decide

/-- Operands of cluster instructions past the widths of their fields. -/
theorem test_wf_refuses_cluster_operands :
    (Instr.setstep 0 (2 ^ 23)).wf = false ∧ (Instr.wload 0 0 16 true).wf = false ∧ (Instr.pacc 0 0 256).wf = false ∧
    (Instr.lmv 0 0 0 4097 0 true true).wf = false ∧ (Instr.lmv 0 0 0 1 64 true true).wf = false ∧ (Instr.transferComplete 0 4).wf = false ∧
    (Instr.waitt 0 64 1).wf = false ∧ (Instr.waitt 0 0 65).wf = false ∧ (Instr.send 0 0 33 0).wf = false ∧ (Instr.recv 0 0 8).wf = false ∧
    (Instr.creditReturn 0 0 0).wf = false ∧ (Instr.nop 0 0).wf = false ∧ (Instr.loop 0 1 4096).wf = false := by decide

/-- Regions, ports, links, classes, engines, dies, walkers, shards, gather units, bags and tables past their ranges. -/
theorem test_wf_refuses_units :
    (Instr.regionNapEntry 32).wf = false ∧ (Instr.replayTimeout 16).wf = false ∧ (Instr.dieLinkFrame 16 ⟨0, []⟩).wf = false ∧
    (Instr.genAdmission 0 8).wf = false ∧ (Instr.poolRestoreDone 8 0).wf = false ∧ (Instr.medlarProbeReturn 2 []).wf = false ∧
    (Instr.engineTaskDone .zest 8).wf = false ∧ (Instr.walkStart 4).wf = false ∧ (Instr.sideSweepPass 128).wf = false ∧
    (Instr.indexPublish 2).wf = false ∧ (Instr.gatherSubbag 32).wf = false ∧ (Instr.bagMerge 0 0 65536).wf = false ∧
    (Instr.tableFlip 256).wf = false := by decide

/-- Modules, adapters, flash units, lanes, cores, causes, reasons, and the operands of SPDM and PLDM requests past their ranges. -/
theorem test_wf_refuses_module_operands :
    (Instr.censusForget 4096).wf = false ∧ (Instr.adapterLoadComplete 0 1024 0).wf = false ∧ (Instr.flashWriteAck 16).wf = false ∧
    (Instr.flashDieRebuild 4096).wf = false ∧ (Instr.hoLock 0 8).wf = false ∧ (Instr.portTraining 0 256 0 []).wf = false ∧
    (Instr.wdogCore 8).wf = false ∧ (Instr.partitionReset 0 9).wf = false ∧ (Instr.moduleReset 16).wf = false ∧
    (Instr.startupFailure 256).wf = false ∧ (Instr.getDigests 8).wf = false ∧ (Instr.getMeasurements 256 (List.replicate 32 0)).wf = false ∧
    (Instr.finish 65536).wf = false ∧ (Instr.requestUpdate 3 []).wf = false ∧ (Instr.challenge 0 []).wf = false := by decide

/-- A fabric message, a fault message and a piece with a field past its width. -/
theorem test_wf_refuses_messages :
    (Instr.unreach ⟨4096, 0, 0, 0, 0, 0, 0, 0, 0, 0, [], []⟩).wf = false ∧ (Instr.faultMessage ⟨65536, 0, 0, 0, 0, 0, 0⟩).wf = false ∧
    (Instr.faultMessage ⟨0, 0, 0, 0, 0, 0, 2 ^ 32⟩).wf = false ∧
    (Instr.firmwareDataPiece ⟨3, 0, []⟩).wf = false ∧ (Instr.firmwareDataPiece ⟨1, 0, List.replicate 4097 0⟩).wf = false := by
  decide +kernel

/-! ## The spec's worked examples -/

/-- Example CODE-1: the encoding, the corrected read and the poisoned form. -/
theorem test_codeword_of_example_code_1 :
    encodeWord (1 :: List.replicate 15 0) = 2 :: 3 :: 1 :: List.replicate 15 0 ∧
    decodeWord false (2 :: 3 :: 0x81 :: List.replicate 15 0) = .word (1 :: List.replicate 15 0) (some 2) ∧
    decodeWord true (2 :: 3 :: 0x81 :: List.replicate 15 0) = .uncorrectable ∧
    decodeWord false (3 :: 2 :: 1 :: List.replicate 15 0) = .poisoned := by decide +kernel

/-- Example LEVL-1: the eight grants, ports 2, 9 and 15 asking throughout. -/
theorem test_grants_of_example_levl_1 :
    ((List.range 8).foldl (fun (x : List Nat × Sparse Int) _ =>
      ((x.1 ++ (grantStep x.2 [(2, 1), (9, 1), (15, 6)]).1.toList), (grantStep x.2 [(2, 1), (9, 1), (15, 6)]).2)) ([], [])).1 =
      [15, 15, 2, 15, 15, 9, 15, 15] := by decide +kernel

/-- Example LEVL-2: the site codes of a vector unit, a Sloe walker and a flash core. -/
theorem test_sites_of_example_levl_2 :
    site 2 1 4 2 0 = 0x8C20 ∧ site 1 5 0 8 2 = 0x6882 ∧ site 3 7 1 15 11 = 0xF9FB := by decide +kernel

/-- Grade X of Example MEMT-1. -/
def gradeX : State := regs State.reset [(R.memCfgSplit, 0, 8), (R.memLiveMask, 2, 2 ^ 64 - 1)]

/-- Example MEMT-1: the sketch of node 1,000,000, and the channel of the next one. -/
theorem test_place_of_example_memt_1 :
    chanSite 189 = 0xB875 ∧ (gradeX.locate 34 64004096).1 = 189 ∧ (gradeX.locate 34 64004160).1 = 190 := by decide +kernel

/-- An FP32 list entry of a test. -/
def entryOf (h v : Nat) : Entry := ⟨h, 0, 0, false, true, v⟩

/-- The lists of Example RANK-1. -/
def rankLists : List (Nat × List Entry) :=
  [(0, [entryOf 7 0x40600000, entryOf 2 0x3F800000, entryOf 9 0x80000000]), (1, [entryOf 2 0x40000000, entryOf 5 0]),
   (2, [entryOf 4 0x3F800000, Entry.empty 4])]

/-- Example RANK-1: k = 4 and k = 6, one duplicate, no NaN. -/
theorem test_merge_of_example_rank_1 :
    (mergeLists 4 4 rankLists).1.map (·.handle) = [7, 2, 4, 5] ∧ (mergeLists 4 4 rankLists).2 = (1, 0) ∧
    (mergeLists 4 6 rankLists).1 = [entryOf 7 0x40600000, entryOf 2 0x40000000, entryOf 4 0x3F800000, entryOf 5 0,
      entryOf 9 0x80000000, Entry.empty 4] := by decide +kernel

/-- Example TABL-2: SCALE 1,414 units of 2^-17, OFFSET −0.75, the four codes, none clipped. -/
theorem test_row_of_example_tabl_2 :
    (requantize 16 255 [-49152, 32768, 81920, 131072]).2.2 = ([0, 116, 185, 255], 0) ∧
    (fmtFP16.decode (requantize 16 255 [-49152, 32768, 81920, 131072]).1).eqRank (Num.ofInt 1414 (-17)) = true ∧
    (requantize 16 255 [-49152, 32768, 81920, 131072]).2.1 = 0xBA00 := by decide +kernel

/-- The vocabulary of Example TEXT-1: SPACE is class 0, LETTER class 1, and SPLIT cuts between LETTER and SPACE only. -/
def exampleVocab : Vocab :=
  { object := 0, part := 0, pieceMax := 64, v := 256, byteBase := 0, ranges := [(0, 0), (0x61, 1)], split := 2 ^ 16, merges := [], strings := [],
    digest := [] }

/-- Example TEXT-1: what each of the three buffers emits, what is held after it, and two invalid bytes at the end. -/
theorem test_buffers_of_example_text_1 :
    (tokenize exampleVocab (ZStream.fresh 0 false) [0x61, 0x62, 0x20, 0x63, 0xC3] false).out = [0x61, 0x62] ∧
    (tokenize exampleVocab (tokenize exampleVocab (ZStream.fresh 0 false) [0x61, 0x62, 0x20, 0x63, 0xC3] false).st [0xA9, 0x64, 0x20, 0x65] false).out =
      [0x20, 0x63, 0xC3, 0xA9, 0x64] ∧
    (tokenize exampleVocab (tokenize exampleVocab (tokenize exampleVocab (ZStream.fresh 0 false) [0x61, 0x62, 0x20, 0x63, 0xC3] false).st
      [0xA9, 0x64, 0x20, 0x65] false).st [0xE2, 0x82] true) =
      ⟨⟨0, false, [], [], none, 2⟩, [0x20, 0x65, 0xE2, 0x82]⟩ := by decide +kernel

/-- Example HLTH-1: the pairs that step 1 selects. -/
theorem test_pairs_of_example_hlth_1 :
    selectedPairs 12 768 1 = [433, 497, 561, 625, 689, 753, 49, 113, 177, 241, 305, 369] := by decide +kernel

/-! ## What the statements about every state and about plain functions suppose -/

/-- A state in canonical form with a command waiting, and the next state. -/
theorem test_stepKeepsCanonical_meets :
    ∃ (s t : State), Canonical s.pending s ∧ step s = .next t :=
  ⟨{ State.reset with pending := [.pulseToggle] }, State.reset.pulseToggle, by decide +kernel, rfl⟩

/-- An empty queue. -/
theorem test_idleStepAdvancesTheClock_meets : ∃ (s : State), s.pending = [] := ⟨State.reset, rfl⟩

/-- A command, its next state and a component it does not touch. -/
theorem test_commandsChangeOnlyTheirComponents_meets :
    ∃ (c : Instr) (s t : State) (x : Comp), exec c s = .next t ∧ x ∉ mayChange c :=
  ⟨.pulseToggle, State.reset, State.reset.pulseToggle, .host, rfl, by decide +kernel⟩

/-- Values that meet what `Obligations.FieldsAreLittleEndian` supposes, at the ends of each range. -/
theorem test_fieldsAreLittleEndian_meets :
    (∃ (v h l : Nat), v = v ∧ l ≤ h) ∧ (∃ (n v i : Nat), v = v ∧ i < n) ∧ (∃ (bs : List Byte) (o n : Nat), 1 ≤ n ∧ o + n ≤ bs.length) ∧
    (∃ (pre post : List Byte) (n v : Nat), pre = pre ∧ post = post ∧ v < 2 ^ (8 * n)) :=
  ⟨⟨5, 3, 3, rfl, by decide⟩, ⟨1, 7, 0, rfl, by decide⟩, ⟨[1, 2], 1, 1, by decide, by decide⟩, ⟨[], [], 1, 255, rfl, rfl, by decide⟩⟩

/-- Values that meet what `Obligations.EncoderFormsTheCodeword` supposes: data of 16 bytes, and a word both of whose syndromes are zero. -/
theorem test_encoderFormsTheCodeword_meets :
    ∃ (data : List Byte) (a b : Byte), data.length = 16 ∧ synd0 (a :: b :: data) = 0 ∧ synd1 (a :: b :: data) = 0 :=
  ⟨1 :: List.replicate 15 0, 2, 3, by decide +kernel, by decide +kernel, by decide +kernel⟩

/-- Values that meet what `Obligations.DecoderCorrectsAnySymbol` supposes: the last position, and two positions. -/
theorem test_decoderCorrectsAnySymbol_meets :
    (∃ (data : List Byte) (p : Nat) (e : Byte), data.length = 16 ∧ p < 18 ∧ e ≠ 0) ∧
    (∃ (data : List Byte) (p q : Nat) (e f : Byte), data.length = 16 ∧ p < q ∧ q < 18 ∧ e ≠ 0 ∧ f ≠ 0) :=
  ⟨⟨List.replicate 16 0, 17, 0x80, by decide, by decide, by decide⟩,
   ⟨List.replicate 16 0, 16, 17, 1, 2, by decide, by decide, by decide, by decide, by decide⟩⟩

/-- Values that meet what `Obligations.RankingIsATotalOrder` supposes, zeros of both signs among them. -/
theorem test_rankingIsATotalOrder_meets :
    (∃ (a b : Machine.Num) (i j : Nat), a ≠ .nan ∧ b ≠ .nan ∧ i ≠ j) ∧
    (∃ (desc : Bool) (a b c : Machine.Num) (i j k : Nat), a ≠ .nan ∧ b ≠ .nan ∧ c ≠ .nan ∧ rankAbove desc a b i j = true ∧
      rankAbove desc b c j k = true) ∧
    (∃ (a b : Machine.Num), a.lt b = true) ∧ (∃ (i j : Nat), i < j) :=
  ⟨⟨.fin true 0 0, .fin false 0 0, 1, 2, by decide, by decide, by decide⟩,
   ⟨true, .fin false 2 0, .fin true 0 0, .fin false 0 0, 9, 1, 2, by decide, by decide, by decide, by decide +kernel, by decide +kernel⟩,
   ⟨.fin true 1 0, .fin false 0 0, by decide +kernel⟩, ⟨0, 1, by decide⟩⟩

/-- Slots that `Obligations.RankListFillsItsSlots` speaks of: one valid entry, and one empty slot after it. -/
theorem test_rankListFillsItsSlots_meets :
    ∃ (es : List Entry) (i j : Nat), i < Nat.min 2 (es.filter (Entry.ok 4)).length ∧ (es.filter (Entry.ok 4)).length ≤ j ∧ j < 2 :=
  ⟨[entryOf 7 0x40600000, Entry.empty 4], 0, 1, by decide +kernel, by decide +kernel, by decide⟩

/-- Accessors and registers at the ends of their ranges. -/
theorem test_accountWindowHoldsItsSnapshot_meets : ∃ (a i : Nat), a < 72 ∧ 1 ≤ i ∧ i < 32 := ⟨71, 31, by decide, by decide, by decide⟩

end Sys2Proof.Tests

namespace Sys2Proof.Tests.Mem
open Sys2Proof Sys2Proof.Machine

/-! Memory -/
def zeros : List Byte := List.replicate 18 0
def withM (f : MemState → MemState) : State := { State.reset with mem := f State.reset.mem }

/-- Values that meet what `Obligations.WordWriteStoresItsCodeword` supposes, clause by clause. -/
theorem test_wordWriteStoresItsCodeword_meets :
    (∃ (s : State) (w : Nat) (req : Nat) (a : Nat) (bytes : List Byte), Memory.wf s.mem.cells = true ∧ s.devAddrOf w = some a ∧ s.backed a = true
      ∧ bytes.length = 16) := by
  refine ⟨mem State.reset, 0, 7, 0, List.replicate 16 3, ?_⟩ <;> decide +kernel

/-- Values that meet what `Obligations.MemoryControllerCommandsComplete` supposes, clause by clause. -/
theorem test_memoryControllerCommandsComplete_meets :
    (∃ (s : State) (w : Nat) (b : List Byte), Memory.wf s.mem.cells = true ∧ b.length = 18 ∧ s.mem.writeBack.find? (fun e => e.1 = w) = some (w, b)) ∧
    (∃ (s : State) (w : Nat) (b : List Byte), s.mem.selfRefresh = false ∧ (∀ d, decodeWord d (wordAt s.mem.cells w) = .word b none) ∧ (∀ e ∈
      s.mem.writeBack, e.1 ≠ w) ∧ sget 0 s.pkg.granted (arbMem (wordChan w)) = 0) ∧
    (∃ (s : State) (c b temp : Nat), Registers.wf s.regs = true ∧ swf 0 s.mem.postponed = true ∧ s.mem.selfRefresh = false ∧ (∀ e ∈ s.mem.writeBack,
      wordBank e.1 ≠ 16 * c + b)) ∧
    (∃ (s : State) (c : Nat), swf 0 s.mem.managed = true) ∧
    (∃ (s : State) (c l : Nat) (m : Int), swf 0 s.mem.delay = true ∧ -1 ≤ m ∧ m ≤ 1 ∧ (sget 0 s.mem.delay (24 * c + l) + m).natAbs ≤ 16) ∧
    (∃ (s : State) (c sc l : Nat), swf 0 s.mem.delay = true ∧ 2 * c + sc ∈ s.mem.retrain ∧ l < 12) ∧
    (∃ (s : State) (c sc : Nat), Registers.wf s.regs = true ∧ sget 0 s.mem.detectFrom (2 * c + sc) + s.rd R.fltClsW 0 * 10 ^ 9 ≤ s.now) ∧
    (∃ (s : State) (c : Nat), sget 0 s.mem.lastUse c + 100000 ≤ s.now ∧ s.mem.selfRefresh = false ∧ c ∉ s.mem.powerDown) := by
  refine ⟨⟨withM (fun m => { m with writeBack := [(5, List.replicate 18 7)] }), 5, List.replicate 18 7, ?_⟩,
    ⟨State.reset, 5, List.replicate 16 0, ?_⟩,
    ⟨State.reset, 3, 2, 40, ?_⟩,
    ⟨State.reset, 3, ?_⟩,
    ⟨State.reset, 3, 23, -1, ?_⟩,
    ⟨withM (fun m => { m with retrain := [7] }), 3, 1, 11, ?_⟩,
    ⟨State.reset, 3, 1, ?_⟩,
    ⟨{ State.reset with now := 100000 }, 3, ?_⟩⟩
  all_goals decide +kernel

end Sys2Proof.Tests.Mem

namespace Sys2Proof.Tests.Rings
open Sys2Proof Sys2Proof.Machine

/-! Rings -/
def adminOn : List (Fld × Nat × Nat) := [(R.hstAdmCfgEn, 0, 1), (R.hstAdmDbSqTail, 0, 1), (R.cfgClientEn, 4095, 1), (R.cfgClientFunction, 4095, 0)]
def createD : List Byte := bytes 64 [(0, 1, 0x80), (2, 2, 4095), (8, 8, 0x1000), (16, 8, 0x8000), (24, 4, 16), (28, 4, 65536), (36, 2, 2047), (38, 1, 1)]
def deleteD : List Byte := bytes 64 [(0, 1, 0x81), (2, 2, 1)]
def ringed (l : List (Fld × Nat × Nat)) : State :=
  regs { State.reset with host := { State.reset.host with rings := [(1, ring)] } } ([(R.hstStatState, 0, hsReady), (R.cfgClientEn, 1, 1)] ++ l)

/-- Values that meet what `Obligations.RingCommandsComplete` supposes, clause by clause. -/
theorem test_ringCommandsComplete_meets :
    (∃ (s : State) (d : List Byte) (c : Nat), Registers.wf s.regs = true ∧ s.admDue = true ∧ fieldLe d 0 1 = 0x80 ∧ goodCreate d = true ∧ c =
      fieldLe d 2 2 ∧ s.clientFn c = some (fieldLe d 42 1) ∧ s.ring c = none ∧ fieldLe d 42 1 ≤ s.host.vfs) ∧
    (∃ (s : State) (d : List Byte) (c : Nat), Registers.wf s.regs = true ∧ s.admDue = true ∧ fieldLe d 0 1 = 0x81 ∧ fieldLe d 1 1 ≤ 1 ∧ c = fieldLe
      d 2 2 ∧ c < 4096 ∧ leNat (slice d 8 56) = 0 ∧ (s.ring c).isSome = true ∧ (∀ r ∈ s.host.reqs, r.client ≠ c) ∧ (fieldLe d 1 1 = 1 ∨ ∀ e ∈
      s.host.cq, e.client ≠ c)) ∧
    (∃ (s : State) (fn c v : Nat) (x : Ring), s.rd R.hstStatState 0 = hsReady ∧ s.moduleRun = true ∧ s.ring c = some x ∧ s.clientFn c = some fn ∧
      x.deleting = false ∧ v < x.sqSize) ∧
    (∃ (s : State) (fn c v : Nat) (x : Ring), Registers.wf s.regs = true ∧ s.rd R.hstStatState 0 = hsReady ∧ s.ring c = some x ∧ x.sqSize ≤ v ∧ s.rd
      R.hstErrcntBadDoorbell 0 + 1 < 2 ^ 32) ∧
    (∃ (s : State) (fn c v : Nat) (x : Ring), Registers.wf s.regs = true ∧ s.rd R.hstStatState 0 = hsReady ∧ s.moduleRun = true ∧ s.ring c = some x
      ∧ s.clientFn c = some fn ∧ x.deleting = false ∧ v < x.cqSize) ∧
    (∃ (s : State) (c : Nat) (x : Ring), Registers.wf s.regs = true ∧ s.rd R.hstStatState 0 = hsReady ∧ s.moduleRun = true ∧ s.faults.fetchStopped =
      false ∧ s.upd.draining = none ∧ s.ring c = some x ∧ x.deleting = false ∧ s.rd R.hstRingCqFull c ≠ 1 ∧ s.inflight c + (s.host.fetched.filter
      fun f => f.client = c).length < 4096 ∧ s.rd R.hstRingSqHead c ≠ x.sqTail) := by
  refine ⟨⟨regs State.reset adminOn, createD, 4095, ?_⟩,
    ⟨ringed adminOn, deleteD, 1, ?_⟩,
    ⟨ringed [], 0, 1, 15, ring, ?_⟩,
    ⟨ringed [], 0, 1, 16, ring, ?_⟩,
    ⟨ringed [], 0, 1, 15, ring, ?_⟩,
    ⟨ringed [(R.hstRingSqHead, 1, 15)], 1, ring, ?_⟩⟩ <;> decide +kernel

end Sys2Proof.Tests.Rings

namespace Sys2Proof.Tests.Comp
open Sys2Proof Sys2Proof.Machine

/-! Completions -/
def entry : CqEntry :=
  { client := 1, request := 5, status := stOk, count := 0, opcode := 10, interim := true, event := false, record := false, digest := false, slot := 0,
    outBytes := 0, detail := 0, irq := false }
def posting (l : List (Fld × Nat × Nat)) : State :=
  regs { State.reset with host := { State.reset.host with rings := [(1, ring)], cq := [entry] } } l
def lateRing : Ring := { ring with unsignalled := 1 }
def asleep : State :=
  regs { State.reset with host := { State.reset.host with rings := [(1, lateRing)], d3 := [0] } } [(R.cfgClientEn, 1, 1)]
def powered (l : List (Fld × Nat × Nat)) : State :=
  regs { State.reset with board := { State.reset.board with perstHigh := true, off := false } } l
def window : State := regs (mem State.reset) [(R.hstWinpartMask, 0, 1)]
def accReq : Req := req 0x30 [(28, 4, 256)] []

/-- The module in Watch, with no client. -/
def watching : State := regs State.reset [(R.pwrStatModule, 0, msWatch)]

theorem watching_has_no_client (c : Nat) : watching.clientFn c ≠ some 0 := by
  unfold State.clientFn
  split
  case isFalse => simp
  case isTrue hc =>
    exfalso
    have k : R.cfgClientEn.off + 8 * c ≠ R.pwrStatModule.off := by
      have := hc.1
      show 0x208000 + 8 * c ≠ 0x700008
      omega
    have e : watching.reg (regKey R.cfgClientEn.kind R.cfgClientEn.off c) = 0 := by
      have r : watching.regs = [(R.pwrStatModule.off, 2 ^ 62)] := by decide +kernel
      unfold State.reg
      rw [r]
      show (if R.cfgClientEn.off + 8 * c = R.pwrStatModule.off then _ else
        if R.cfgClientEn.off + 8 * c < R.pwrStatModule.off then _ else _) = _
      rw [if_neg k]
      split <;> rfl
    have h : watching.rd R.cfgClientEn c = 0 := by unfold State.rd; rw [e]; decide +kernel
    have := hc.2
    simp [State.isSet, h] at this

/-- Values that meet what `Obligations.CompletionCommandsComplete` supposes, clause by clause. -/
theorem test_completionCommandsComplete_meets :
    (∃ (s : State) (c : Nat) (x : Ring) (e : CqEntry), Registers.wf s.regs = true ∧ s.ring c = some x ∧ s.host.cq.find? (fun y => y.client = c) =
      some e ∧ (s.rd R.hstRingCqTail c + 1) % x.cqSize ≠ x.cqHead ∧ s.host.ats = [] ∧ e.interim = true ∧ e.event = false ∧ (∀ w ∈ s.weights,
      w.2.current = true) ∧ (∀ m ∈ s.trees, m.2.bad = [])) ∧
    (∃ (s : State) (c : Nat) (x : Ring) (e : CqEntry), Registers.wf s.regs = true ∧ s.ring c = some x ∧ s.host.cq.find? (fun y => y.client = c) =
      some e ∧ (s.rd R.hstRingCqTail c + 1) % x.cqSize = x.cqHead ∧ (∀ w ∈ s.weights, w.2.current = true) ∧ (∀ m ∈ s.trees, m.2.bad = [])) ∧
    (∃ (s : State) (c : Nat) (x : Ring), s.ring c = some x ∧ x.unsignalled ≠ 0 ∧ x.firstUnsignalled + 1000 * x.irqUs ≤ s.now ∧ s.fnOf c ∉ s.host.d3) ∧
    (∃ (s : State) (fn : Nat) (how : FnReset), (∀ c, s.clientFn c ≠ some fn) ∧ (∀ r ∈ s.host.reads, r.fn ≠ fn) ∧ (s.rd R.pwrStatModule 0 ≠ msWatch ∨
      fn ≠ 0 ∨ how ≠ .flr)) ∧
    (∃ (s : State), Registers.wf s.regs = true ∧ (∀ c, s.clientFn c ≠ some 0) ∧ (∀ r ∈ s.host.reads, r.fn ≠ 0) ∧ s.rd R.pwrStatModule 0 = msWatch) ∧
    (∃ (s : State) (fn c : Nat) (x : Ring), fn ∈ s.host.d3 ∧ s.host.rings = [(c, x)] ∧ s.clientFn c = some fn ∧ x.unsignalled ≠ 0) ∧
    (∃ (s : State) (fn : Nat) (q : CfgReq), s.board.perstHigh = true ∧ s.board.off = false ∧ s.rd R.hstStatState 0 ≠ hsReady ∧ s.rd R.hstStatState 0
      ≠ hsFailed) ∧
    (∃ (s : State) (n : Nat), s.board.perstHigh = true ∧ s.board.off = false ∧ s.rd R.hstStatState 0 = hsReady ∧ s.host.vfs = 0 ∧ n ≤ 63) := by
  refine ⟨⟨posting [], 1, ring, entry, ?_⟩,
    ⟨posting [(R.hstRingCqTail, 1, 15)], 1, ring, entry, ?_⟩,
    ⟨{ posting [] with host := { (posting []).host with rings := [(1, lateRing)] } }, 1, lateRing, ?_⟩,
    ⟨State.reset, 3, .flr, ?_⟩,
    ⟨watching, by decide +kernel, watching_has_no_client, by decide +kernel⟩,
    ⟨asleep, 0, 1, lateRing, ?_⟩,
    ⟨powered [], 0, .read, ?_⟩,
    ⟨powered [(R.hstStatState, 0, hsReady)], 63, ?_⟩⟩
  all_goals try decide +kernel
  · refine ⟨fun c => ?_, by decide +kernel⟩
    have h : State.reset.rd R.cfgClientEn c ≠ 1 := by
      have e : State.reset.reg (regKey R.cfgClientEn.kind R.cfgClientEn.off c) = 0 := by rfl
      unfold State.rd; rw [e]; decide +kernel
    unfold State.clientFn State.isSet
    rw [if_neg (by simp [h])]
    simp

/-- Values that meet what `Obligations.WindowCommandsComplete` supposes, clause by clause. -/
theorem test_windowCommandsComplete_meets :
    (∃ (s : State) (o n : Nat), s.outsideBar4 o n = true) ∧
    (∃ (s : State) (o : Nat) (bs : List Byte) (ep : Bool), s.outsideBar4 o bs.length = true) ∧
    (∃ (s : State) (o n : Nat), s.outsideBar4 o n = false ∧ s.windowOk (s.windowAddr o) n = true) ∧
    (∃ (s : State) (o n : Nat), Registers.wf s.regs = true ∧ s.outsideBar4 o n = false ∧ s.backed (s.windowAddr o) = false ∧ s.rd
      R.hstErrcntBadAccess 0 + 1 < 2 ^ 32) ∧
    (∃ (s : State) (o : Nat) (bs : List Byte) (ep : Bool), Memory.wf s.mem.cells = true ∧ bs.length = 16 ∧ s.windowAddr o % 16 = 0 ∧ s.outsideBar4 o
      16 = false ∧ s.windowOk (s.windowAddr o) 16 = true) ∧
    (∃ (s : State) (c q : Nat) (r : Req), s.Holds (c, q) 0x30 r ∧ isDev (r.d 32 8) = false ∧ s.host.ats = []) := by
  refine ⟨⟨State.reset, 2 ^ 36 - 3, 4, ?_⟩,
    ⟨State.reset, 2 ^ 36 - 4, List.replicate 8 9, true, ?_⟩,
    ⟨window, 0, 64, ?_⟩,
    ⟨State.reset, 2 ^ 36 - 64, 64, ?_⟩,
    ⟨window, 16, List.replicate 16 9, true, ?_⟩,
    ⟨holds accReq, 1, 5, accReq, ?_⟩⟩ <;> decide +kernel

end Sys2Proof.Tests.Comp

namespace Sys2Proof.Tests.Bar0
open Sys2Proof Sys2Proof.Machine

/-! Registers -/
def bound (q : List (Nat × Nat)) (w : List (Nat × Nat × Nat)) (l : List (Fld × Nat × Nat)) : State :=
  regs { State.reset with mbx := { State.reset.mbx with queues := if q = [] then [] else [(0, q)], waiting := w } } ((R.mbxBindEn, 0, 1) :: l)
def poweredOn : State := { State.reset with board := { State.reset.board with perstHigh := true, pwrGood := true, off := false }, boot := { State.reset.boot with running := false } }
def asking : State := { State.reset with power := { State.reset.power with watchAsked := some 5 } }

/-- Values that meet what `Obligations.MailboxCommandsComplete` supposes, clause by clause. -/
theorem test_mailboxCommandsComplete_meets :
    (∃ (s : State) (a k tag : Nat), Registers.wf s.regs = true ∧ a ≠ boardManager ∧ s.sel a R.mbxSelChannel % 1024 = k ∧ s.rd R.mbxBindEn k = 1 ∧
      s.rd R.mbxBindSender k = accMaster a ∧ s.mbxQueue k ≠ [] ∧ (s.mbxQueue k).length < 8 ∧ (∀ w ∈ s.mbx.waiting, w.1 ≠ k) ∧ s.rd R.mbxCstatSent k
      + 1 < 2 ^ 32 ∧ tag < 2 ^ 32) ∧
    (∃ (s : State) (a k tag r : Nat), a ≠ boardManager ∧ s.sel a R.mbxSelChannel % 1024 = k ∧ s.rd R.mbxBindEn k = 1 ∧ s.rd R.mbxBindSender k =
      accMaster a ∧ s.mbxQueue k = [] ∧ s.mbx.waiting = [] ∧ Registers.wf s.regs = true ∧ s.moduleRun = true ∧ s.rd R.mbxBindReceiver k = r ∧ r < 64
      ∧ s.msixMasked r (s.rd R.mbxBindVector k) = false) ∧
    (∃ (s : State) (k ptr tag : Nat), s.mbx.waiting = [(k, ptr, tag)] ∧ s.mbxQueue k ≠ [] ∧ (s.mbxQueue k).length < 8) ∧
    (∃ (s : State) (a k : Nat) (n : Nat × Nat), a ≠ boardManager ∧ s.sel a R.mbxSelChannel % 1024 = k ∧ s.rd R.mbxBindEn k = 1 ∧ s.rd
      R.mbxBindReceiver k = accMaster a ∧ s.mbxQueue k = [n]) ∧
    (∃ (s : State) (a k : Nat) (n m : Nat × Nat) (q : List (Nat × Nat)), a ≠ boardManager ∧ s.sel a R.mbxSelChannel % 1024 = k ∧ s.rd R.mbxBindEn k
      = 1 ∧ s.rd R.mbxBindReceiver k = accMaster a ∧ accMaster a < 64 ∧ s.moduleRun = true ∧ s.mbxQueue k = n :: m :: q ∧ s.msixMasked (accMaster a)
      (s.rd R.mbxBindVector k) = false) ∧
    (∃ (s : State) (a k : Nat), a ≠ boardManager ∧ s.sel a R.mbxSelChannel % 1024 = k ∧ s.rd R.mbxBindEn k = 1 ∧ s.rd R.mbxBindReceiver k =
      accMaster a) := by
  refine ⟨⟨bound (List.replicate 7 (1, 2)) [] [], 0, 0, 0xFFFFFFFF, ?_⟩,
    ⟨unmasked 63 (bound [] [] [(R.mbxBindReceiver, 0, 63)]), 0, 0, 5, 63, ?_⟩,
    ⟨bound (List.replicate 7 (1, 2)) [(0, 3, 4)] [], 0, 3, 4, ?_⟩,
    ⟨bound [(1, 2)] [] [], 0, 0, (1, 2), ?_⟩,
    ⟨unmasked 0 (bound [(1, 2), (3, 4)] [] []), 0, 0, (1, 2), (3, 4), [], ?_⟩,
    ⟨bound [(1, 2), (3, 4)] [] [], 0, 0, ?_⟩⟩ <;> decide +kernel

/-- Values that meet what `Obligations.AdminAndAccountRegisters` supposes, clause by clause. -/
theorem test_adminAndAccountRegisters_meets :
    (∃ (s : State) (v : Nat), Registers.wf s.regs = true ∧ s.rd R.hstAdmCfgEn 0 ≠ 1 ∧ v % 2 = 1 ∧ bitsOf v 31 28 ≤ 8 ∧ bitsOf v 27 24 ≤ 8) ∧
    (∃ (s : State) (v : Nat), Registers.wf s.regs = true ∧ s.rd R.hstAdmCfgEn 0 ≠ 1 ∧ v % 2 = 1 ∧ 8 < bitsOf v 31 28) ∧
    (∃ (s : State) (v : Nat), Registers.wf s.regs = true ∧ s.rd R.hstStatState 0 ≠ hsFailed) ∧
    (∃ (s : State) (a c : Nat), Registers.wf s.regs = true ∧ a ≠ boardManager ∧ c < 4096) := by
  refine ⟨⟨State.reset, 0x7F88000001, ?_⟩,
    ⟨State.reset, 0x7F98000001, ?_⟩,
    ⟨State.reset, 0x7F98000001, ?_⟩,
    ⟨State.reset, 71, 4095, ?_⟩⟩ <;> decide +kernel

/-- Values that meet what `Obligations.RegisterWritesComplete` supposes, clause by clause. -/
theorem test_registerWritesComplete_meets :
    (∃ (s : State) (v : Nat), Registers.wf s.regs = true ∧ v < 2 ^ 64) ∧
    (∃ (s : State) (a v : Nat), Registers.wf s.regs = true ∧ a < 64) ∧
    (∃ (s : State) (b : BarAccess) (off : Nat), Registers.wf s.regs = true ∧ s.rd R.hstErrcntBadAccess 0 + 1 < 2 ^ 32) ∧
    (∃ (s : State), Registers.wf s.regs = true ∧ s.boot.running = false ∧ s.rd R.pwrStatModule 0 ≠ msWatch ∧ s.board.perstHigh = true ∧
      s.board.pwrGood = true) ∧
    (∃ (s : State) (a : Nat), 64 ≤ a ∧ a < 72) ∧
    (∃ (s : State) (k bits : Nat), k < 8 ∧ bitOf bits k = true ∧ k ∉ s.faults.coreRestarting ∧ swf 0 s.faults.coreKick = true) ∧
    (∃ (s : State), Registers.wf s.regs = true) ∧
    (∃ (s : State) (a d : Nat), Registers.wf s.regs = true ∧ 64 ≤ a ∧ a < 72 ∧ d < 240 ∧ s.partOf d = none) ∧
    (∃ (s : State) (a d : Nat), Registers.wf s.regs = true ∧ 64 ≤ a ∧ a < 72 ∧ s.napping d = false) ∧
    (∃ (s : State) (a : Nat), Registers.wf s.regs = true ∧ 64 ≤ a ∧ a < 72 ∧ s.power.watchAsked.isSome = true) ∧
    (∃ (s : State) (v : Nat), Registers.wf s.regs = true ∧ s.upd.checked = false ∧ s.nearActivation = false ∧ s.now + 10 ^ 10 ≤ v ∧ v < 2 ^ 64) ∧
    (∃ (s : State) (v : Nat), Registers.wf s.regs = true ∧ v ≠ 0 ∧ v < s.now + 10 ^ 10) := by
  refine ⟨⟨State.reset, 2 ^ 64 - 1, ?_⟩,
    ⟨State.reset, 63, 7, ?_⟩,
    ⟨State.reset, .bar2 63, 0x1018, ?_⟩,
    ⟨poweredOn, ?_⟩,
    ⟨State.reset, 71, ?_⟩,
    ⟨State.reset, 7, 128, ?_⟩,
    ⟨State.reset, ?_⟩,
    ⟨State.reset, 71, 239, ?_⟩,
    ⟨State.reset, 71, 239, ?_⟩,
    ⟨asking, 64, ?_⟩,
    ⟨State.reset, 10 ^ 10, ?_⟩,
    ⟨{ State.reset with now := 5 }, 10 ^ 10, ?_⟩⟩ <;> decide +kernel

end Sys2Proof.Tests.Bar0

namespace Sys2Proof.Tests.Hread
open Sys2Proof Sys2Proof.Machine

/-! Descriptors and host reads -/
def desc0 : List Byte := bytes 64 [(0, 1, 0x30), (4, 4, 5), (28, 4, 256), (32, 8, 0x10000), (48, 2, 1)]
def fetched0 (b : Option (List Byte)) (failed : Bool) : Fetched := ⟨1, 3, b, false, failed, false⟩
def judging (f : Fetched) : State :=
  regs { State.reset with host := { State.reset.host with rings := [(1, ring)], fetched := [f] } }
    [(R.hstStatState, 0, hsReady), (R.cfgClientEn, 1, 1), (R.cfgPstatState, 0, psRun)]
def reading (r : HostRead) (f : List Fetched) : State :=
  { State.reset with host := { State.reset.host with rings := [(1, ring)], reads := [r], fetched := f } }

/-- Values that meet what `Obligations.DescriptorAdmitCompletes` supposes, clause by clause. -/
theorem test_descriptorAdmitCompletes_meets :
    (∃ (s : State) (c : Nat) (f : Fetched), s.rd R.hstStatState 0 = hsReady ∧ s.moduleRun = true ∧ s.ready = [c] ∧ s.host.fetched = [f] ∧ f.client =
      c ∧ f.failed = true ∧ (s.ring c).isSome = true ∧ c < 4096) ∧
    (∃ (s : State) (c : Nat) (f : Fetched) (d : List Byte), s.rd R.hstStatState 0 = hsReady ∧ s.moduleRun = true ∧ s.ready = [c] ∧ s.host.fetched =
      [f] ∧ f.client = c ∧ f.failed = false ∧ f.paramFailed = false ∧ f.poisoned = false ∧ f.bytes = some d ∧ d.length = 64 ∧ fieldLe d 0 1 = 0x30 ∧
      fieldLe d 24 4 = 0 ∧ goodDescriptor d = true ∧ fieldLe d 48 2 = c ∧ c < 4096 ∧ 256 ≤ fieldLe d 28 4 ∧ s.req? (c, fieldLe d 4 4) = none ∧
      s.running (s.home c) = true ∧ fieldLe d 8 8 = 0) := by
  refine ⟨⟨judging (fetched0 none true), 1, fetched0 none true, ?_⟩,
    ⟨judging (fetched0 (some desc0) false), 1, fetched0 (some desc0) false, desc0, ?_⟩⟩ <;> decide +kernel

/-- Values that meet what `Obligations.HostReadCompletes` supposes, clause by clause. -/
theorem test_hostReadCompletes_meets :
    (∃ (s : State) (fn a n c q : Nat) (pa : Option Nat) (bs : List Byte), s.host.reads = [⟨fn, pa, a, n, .request c q⟩] ∧ bs.length = n) ∧
    (∃ (s : State) (fn a c : Nat) (pa : Option Nat) (f : Fetched), s.host.reads = [⟨fn, pa, a, 64, .descriptor c⟩] ∧ s.host.fetched = [f] ∧ f.client
      = c ∧ f.bytes = none ∧ f.failed = false ∧ s.slotAddr f = a) ∧
    (∃ (s : State) (fn a n c : Nat) (x : HostAnswer), s.host.reads = [] ∧ x ≠ .noTranslation) ∧
    (∃ (s : State) (fn a n c : Nat), s.host.reads = [] ∧ fn ∈ s.host.ats ∧ (fn, a / 4096) ∉ s.host.noXlat) := by
  refine ⟨⟨reading ⟨0, some 7, 0x5000, 64, .request 1 5⟩ [], 0, 0x5000, 64, 1, 5, some 7, List.replicate 64 0, ?_⟩,
    ⟨reading ⟨0, none, 0x10C0, 64, .descriptor 1⟩ [fetched0 none false], 0, 0x10C0, 1, none, fetched0 none false, ?_⟩,
    ⟨State.reset, 0, 0x5000, 64, 1, .error, ?_⟩,
    ⟨{ State.reset with host := { State.reset.host with ats := [0] } }, 0, 0x5000, 64, 1, ?_⟩⟩ <;> decide +kernel

end Sys2Proof.Tests.Hread

namespace Sys2Proof.Tests.Clus
open Sys2Proof Sys2Proof.Machine

/-! Clusters -/
def withC (cl : Nat) (c : Cluster) : State := regs (State.reset.setCluster cl c) [(R.cfgPartEn, 0, 1), (R.cfgPartQuads, 0, 59)]
def blank : State := withC 3 Cluster.init
def looping (k : Nat) : State := withC 3 { Cluster.init with loops := [(4, 1, k)] }
def begins : State := withC 3 { Cluster.init with beginMsg := true }
def waitsFor (n : Nat) : State := withC 3 { Cluster.init with counters := [(63, n)] }
def heldC : State := withC 3 { Cluster.init with counters := [(63, 2)], held := some (.waitt 3 63 2) }
/-- A pair record: rows, columns, output address. -/
def pair0 (rows cols out : Nat) : List Byte := leBytes 32 (rows - 1 + (cols - 1) * 2 ^ 16 + out * 2 ^ 64)
def paired (p : List Byte) : State := withC 3 ((Cluster.init.writeS 0x20 p).writeS 0x1000 (leBytes 32 5))
def span0 (k : Nat) : SpanElem :=
  { row := 1, col := 2, stepRow := 3, addr := 0x40, outFmt := 0, sat := false, aFmt := 0, wFmt := 0, tileScale := 0, pairId := 0, check := false, ot := 0,
    ct := 0, kg := 0, product := 0, ks := k }
def redone : Recomputed := { row := 1, col := 2 }
/-- A cluster in a LANE step with this pair record. -/
def laned (p : List Byte) : State := withC 3 { (paired p).cluster 3 with stepDesc := leBytes 32 8 }
def spanning (k : Nat) : State := withC 3 { Cluster.init with spans := [span0 k] }
/-- A scratch word with two symbol errors. -/
def spoilt : State := withC 239 { Cluster.init with scratch := [(18 * 16, 1), (18 * 16 + 1, 2), (18 * 16 + 5, 7), (18 * 16 + 9, 9)] }

/-- Values that meet what `Obligations.SetUpAndControlFlow` supposes, clause by clause. -/
theorem test_setUpAndControlFlow_meets :
    (∃ (s : State) (cl a : Nat), s.Issues cl ∧ (s.cluster cl).Sound ∧ ((s.cluster cl).readS a 32).2 = false) ∧
    (∃ (s : State) (cl a p w : Nat), Registers.wf s.regs = true ∧ Memory.wf (s.cluster cl).scratch = true ∧ s.Issues cl ∧ s.partOf cl = some p ∧ a =
      16 * w ∧ decodeWord false (wordAt (s.cluster cl).scratch w) = .uncorrectable) ∧
    (∃ (s : State) (cl a : Nat), s.Issues cl) ∧
    (∃ (s : State) (cl n : Nat), s.Issues cl) ∧
    (∃ (s : State) (cl n a k : Nat), s.Issues cl ∧ (s.cluster cl).loops = [(a, (s.cluster cl).pc + 1, k)]) ∧
    (∃ (s : State) (cl count body : Nat), s.Issues cl ∧ body ≠ 0) ∧
    (∃ (s : State) (cl : Nat), s.Issues cl) ∧
    (∃ (s : State) (cl : Nat), s.Issues cl ∧ (s.cluster cl).beginMsg = true) ∧
    (∃ (s : State) (cl : Nat), s.Issues cl ∧ (s.cluster cl).beginMsg = false ∧ (s.cluster cl).stepPending = none) ∧
    (∃ (s : State) (cl : Nat), s.Issues cl ∧ (s.cluster cl).spans = []) ∧
    (∃ (s : State) (cl : Nat), s.Issues cl ∧ s.rd R.pwrModeMode cl = 0 ∧ s.napping cl = false ∧ (s.cluster cl).loops = []) ∧
    (∃ (s : State) (cl n v : Nat), s.Issues cl ∧ swf 0 (s.cluster cl).counters = true ∧ sget 0 (s.cluster cl).counters v = n) ∧
    (∃ (s : State) (cl n v : Nat), s.Issues cl ∧ (s.cluster cl).stepPending = none ∧ sget 0 (s.cluster cl).counters v < n) ∧
    (∃ (s : State) (cl w n v : Nat), cl < 240 ∧ (s.partOf cl).isSome = true ∧ (s.cluster cl).held = some (.waitt cl v n) ∧ (s.cluster cl).stopped =
      false ∧ swf 0 (s.cluster cl).counters = true ∧ sget 0 (s.cluster cl).counters v = n) := by
  refine ⟨⟨paired (pair0 1 1 0), 3, 0x20, ?_⟩,
    ⟨spoilt, 239, 0x100, 0, 16, ?_⟩,
    ⟨blank, 239, 0x100, ?_⟩,
    ⟨blank, 239, 7, ?_⟩,
    ⟨looping 0, 3, 1, 4, 0, ?_⟩,
    ⟨blank, 0, 1, 4095, ?_⟩,
    ⟨blank, 3, ?_⟩,
    ⟨begins, 3, ?_⟩,
    ⟨blank, 3, ?_⟩,
    ⟨begins, 3, ?_⟩,
    ⟨blank, 3, ?_⟩,
    ⟨waitsFor 2, 3, 2, 63, ?_⟩,
    ⟨waitsFor 1, 3, 2, 63, ?_⟩,
    ⟨heldC, 3, 9, 2, 63, ?_⟩⟩ <;> decide +kernel

/-- Values that meet what `Obligations.MatrixInstructions` supposes, clause by clause. -/
theorem test_matrixInstructions_meets :
    (∃ (s : State) (cl a arr : Nat) (wb : Bool), s.Issues cl ∧ (s.cluster cl).Sound ∧ arr < 4) ∧
    (∃ (s : State) (cl a i : Nat) (wb first : Bool) (p d : List Byte) (o : TileOps) (r j : Nat), s.Issues cl ∧ (s.cluster cl).Sound ∧ d = (s.cluster
      cl).stepDesc ∧ sdLane d = false ∧ (s.cluster cl).readS ((s.cluster cl).pairBase + 32 * i) 32 = (p, false) ∧ o = (s.cluster cl).mmaOps p a
      (prRows p) wb (prCols p) ∧ prCols p ≤ 256 ∧ r < prRows p ∧ j < prCols p ∧ swf AccEntry.zero (s.cluster cl).acc = true) ∧
    (∃ (s : State) (cl a i : Nat) (wb last first : Bool) (p : List Byte), s.Issues cl ∧ (s.cluster cl).Sound ∧ sdLane (s.cluster cl).stepDesc = true
      ∧ (s.cluster cl).readS ((s.cluster cl).pairBase + 32 * i) 32 = (p, false)) ∧
    (∃ (s : State) (cl a i : Nat) (wb first : Bool) (p : List Byte), s.Issues cl ∧ (s.cluster cl).Sound ∧ sdLane (s.cluster cl).stepDesc = false ∧
      (s.cluster cl).readS ((s.cluster cl).pairBase + 32 * i) 32 = (p, false) ∧ prCols p = 1 ∧ prRows p = 1 ∧ prOwner p = false ∧ prOut p % 16 = 0 ∧
      Memory.wf (s.cluster cl).scratch = true) ∧
    (∃ (s : State) (cl a i b win : Nat) (first : Bool) (p d : List Byte) (o : TileOps) (r j : Nat), s.Issues cl ∧ (s.cluster cl).Sound ∧ d =
      (s.cluster cl).stepDesc ∧ sdLane d = true ∧ sdMode d ≠ 2 ∧ (s.cluster cl).readS ((s.cluster cl).pairBase + 32 * i) 32 = (p, false) ∧ o =
      (s.cluster cl).lmvOps p a (prRows p) b win (prCols p) ∧ prRows p ≤ 8 ∧ prCols p ≤ 64 ∧ r < prRows p ∧ j < prCols p ∧ swf AccEntry.zero
      (s.cluster cl).lane = true) ∧
    (∃ (s : State) (cl a i b win : Nat) (last first : Bool) (p : List Byte), s.Issues cl ∧ (s.cluster cl).Sound ∧ (sdLane (s.cluster cl).stepDesc =
      false ∨ sdMode (s.cluster cl).stepDesc = 2) ∧ (s.cluster cl).readS ((s.cluster cl).pairBase + 32 * i) 32 = (p, false)) ∧
    (∃ (s : State) (cl a i : Nat) (lane : Bool) (p : List Byte) (r j : Nat), s.Issues cl ∧ (s.cluster cl).Sound ∧ lane = sdLane (s.cluster
      cl).stepDesc ∧ (s.cluster cl).readS ((s.cluster cl).pairBase + 32 * i) 32 = (p, false) ∧ prCols p ≤ 256 ∧ r < prRows p ∧ j < prCols p ∧ (lane
      = true → prRows p ≤ 8 ∧ prCols p ≤ 64) ∧ swf AccEntry.zero ((s.cluster cl).accOf lane) = true) ∧
    (∃ (s : State) (cl n : Nat) (e : SpanElem) (x : Recomputed), (s.cluster cl).spans = [e] ∧ e.row = x.row ∧ e.col = x.col ∧ e.ks ≤ (s.spanProducts
      cl e).length) ∧
    (∃ (s : State) (cl n : Nat) (e : SpanElem) (x : Recomputed), (s.cluster cl).spans = [e] ∧ (s.spanProducts cl e).length < e.ks) := by
  refine ⟨⟨blank, 3, 0x1000, 3, true, ?_⟩,
    ⟨paired (pair0 2 256 0), 3, 0x1000, 1, false, true, pair0 2 256 0, _, _, 1, 255, ?_, ?_, rfl, ?_, ?_, rfl, ?_⟩,
    ⟨laned (pair0 1 1 0), 3, 0x1000, 1, false, true, true, pair0 1 1 0, ?_⟩,
    ⟨paired (pair0 1 1 0x2000), 3, 0x1000, 1, false, true, pair0 1 1 0x2000, ?_⟩,
    ⟨laned (pair0 8 64 0), 3, 0x1000, 1, 2, 0x2000, true, pair0 8 64 0, _, _, 7, 63, ?_, ?_, rfl, ?_, ?_, ?_, rfl, ?_⟩,
    ⟨paired (pair0 1 1 0), 3, 0x1000, 1, 2, 0x2000, true, true, pair0 1 1 0, ?_⟩,
    ⟨laned (pair0 8 64 0), 3, 0x1000, 1, true, pair0 8 64 0, 7, 63, ?_⟩,
    ⟨spanning 0, 3, 40, span0 0, redone, ?_⟩,
    ⟨spanning 1, 3, 40, span0 1, redone, ?_⟩⟩ <;> decide +kernel

end Sys2Proof.Tests.Clus

namespace Sys2Proof.Tests.Port
open Sys2Proof Sys2Proof.Machine

/-! Vectors, streams and the package -/
def withC (c : Cluster) : State := regs (State.reset.setCluster 3 c) [(R.cfgPartEn, 0, 1)]
def at0 (d : List Byte) : State := withC (Cluster.init.writeS 0x20 d)
/-- A vector descriptor: operation, n, formats, sources and destination. -/
def vd (op n f s0 s1 s2 dst : Nat) : List Byte :=
  leBytes 32 (op + (n - 1) * 2 ^ 8 + s0 * 2 ^ 64 + s1 * 2 ^ 96 + s2 * 2 ^ 128 + dst * 2 ^ 160 + f * 2 ^ 184 + f * 2 ^ 188)
def add4 : List Byte := vd 1 4 15 0x100 0x200 0 0x300
def top4 : List Byte := vd 2 4 15 0x100 0x200 0 0x300
def quant16 : List Byte := vd 3 16 15 0x100 0x200 0x21E 0x300
/-- A stream descriptor of one word in region buffer space: remote address, local address, counter. -/
def sd (remote loc counter : Nat) : List Byte := leBytes 32 (remote + 1 * 2 ^ 48 + loc * 2 ^ 64 + counter * 2 ^ 184)
def sd0 : List Byte := sd (2 ^ 24 - 16) (2 ^ 23 - 16) 63
def xfer0 : Xfer := ⟨3, 63, sd0, false, false, 0, false⟩
def moving : State := withC { Cluster.init with xfers := [xfer0] }
def boundOut : State := withC { Cluster.init with outBind := [(7, ⟨2, 5, 9⟩)], creditsUsed := [(7, 7)] }
def token0 : Token := ⟨3, 5, 2, 7, [zeros, zeros], 0, 0⟩
where zeros : List Byte := List.replicate 18 0
def arriving : State :=
  let s := withC { Cluster.init with inBind := [(5, (2, 7))] }; { s with pkg := { s.pkg with tokens := [token0] } }
def received : State := withC { Cluster.init with inBind := [(5, (2, 7))], inq := [(5, [[token0.zeros, token0.zeros]])] }
def owing : State := let s := withC { Cluster.init with creditsUsed := [(7, 3)] }; { s with pkg := { s.pkg with creditsOwed := [(31, 2)] } }
def row0 : StepRow := ⟨1, 5, 0, 0, 10, 4, 1⟩
def evReq : Req := req 3 [] []
def events : State :=
  regs { (holds evReq).setCluster 3 { Cluster.init with eventsSent := [(13, 2, 1)] } with parts := [(0, { Part.init with running := some [row0] })] }
    [(R.cfgPartEn, 0, 1)]
/-- The header word of a token from cluster 0x2EF to cluster 0x200, without payload. -/
def header0 : Nat := 0x200 * 2 ^ 20 + 2 * 2 ^ 88 + 2 ^ 104 + 0x2EF * 2 ^ 116
def flit0 : List (BitVec 144) := [BitVec.ofNat 144 (bitsOfSyms (encodeWord (leBytes 16 header0)))]
/-- Two symbols of the header word are wrong. -/
def badFlit : List (BitVec 144) := [0x30201]
def fullInput : State := { State.reset with pkg := { State.reset.pkg with ins := [(511, ⟨List.replicate 8 (true, flit0), [], false⟩)] } }
def oneRegion : State := regs State.reset [(R.cfgPartEn, 0, 1)]
def replayed (n : Nat) : State :=
  { State.reset with pkg := { State.reset.pkg with links := [(15, { DieLink.init with replays := n })] } }

/-- Values that meet what `Obligations.VectorInstructions` supposes, clause by clause. -/
theorem test_vectorInstructions_meets :
    (∃ (s : State) (cl a : Nat) (d : List Byte), s.Issues cl ∧ (s.cluster cl).Sound ∧ (s.cluster cl).readS a 32 = (d, false) ∧ vdOp d ≠ 0x40 ∧ vdN d
      = 4 ∧ vdSf d = 15 ∧ vdDf d = 15 ∧ vdDst d % 16 = 0 ∧ Memory.wf (s.cluster cl).scratch = true) ∧
    (∃ (s : State) (cl a : Nat) (d : List Byte), s.Issues cl ∧ (s.cluster cl).Sound ∧ (s.cluster cl).readS a 32 = (d, false) ∧ dbits d 215 213 = 0) ∧
    (∃ (s : State) (cl a : Nat) (d : List Byte), s.Issues cl ∧ (s.cluster cl).Sound ∧ (s.cluster cl).readS a 32 = (d, false) ∧ vdN d = 16 ∧ vdDst d
      % 16 = 0 ∧ vdSrc d 1 / 16 ≠ vdDst d / 16 ∧ vdSrc d 2 % 16 < 15 ∧ vdSrc d 2 / 16 ≠ vdDst d / 16 ∧ (∀ i, i < 16 → ((s.cluster cl).vecElem (vdSrc
      d 0) 32 i).2 = false) ∧ Memory.wf (s.cluster cl).scratch = true) := by
  refine ⟨⟨at0 add4, 3, 0x20, add4, ?_⟩,
    ⟨at0 top4, 3, 0x20, top4, ?_⟩,
    ⟨at0 quant16, 3, 0x20, quant16, ?_⟩⟩ <;> decide +kernel

/-- Values that meet what `Obligations.StreamsAndPorts` supposes, clause by clause. -/
theorem test_streamsAndPorts_meets :
    (∃ (s : State) (cl a e p : Nat) (d : List Byte), s.Issues cl ∧ (s.cluster cl).Sound ∧ s.partOf cl = some p ∧ (s.cluster cl).readS a 32 = (d,
      false) ∧ (s.cluster cl).meetsUse d = false ∧ s.streamOk p d e false = true) ∧
    (∃ (s : State) (cl a e p : Nat) (d : List Byte), s.Issues cl ∧ (s.cluster cl).Sound ∧ s.partOf cl = some p ∧ (s.cluster cl).readS a 32 = (d,
      false) ∧ s.streamOk p d e true = true) ∧
    (∃ (s : State) (cl p : Nat) (x : Xfer) (b : List Byte), s.partOf cl = some p ∧ (s.cluster cl).xfers = [x] ∧ x.complete = false ∧ x.page = false
      ∧ x.rgen = s.rd R.cfgPstatRgen p ∧ stRows x.desc = 1 ∧ stRowWords x.desc = 1 ∧ stOut x.desc = false ∧ (∀ detect, decodeWord detect
      (s.remoteWord cl p x.desc (stRemoteRow x.desc 0)) = .word b none) ∧ b.length = 16 ∧ s.rd R.pwrStatHold 0 ≠ 1 ∧ Memory.wf (s.cluster
      cl).scratch = true ∧ swf 0 (s.cluster cl).counters = true) ∧
    (∃ (s : State) (cl a len port : Nat) (h : List Byte) (b : PortBind), s.Issues cl ∧ aget (s.cluster cl).outBind port = some b ∧ sget 0 (s.cluster
      cl).creditsUsed port < 8 ∧ swf 0 (s.cluster cl).creditsUsed = true ∧ (s.cluster cl).Sound ∧ (s.cluster cl).readS a 16 = (h, false)) ∧
    (∃ (s : State) (cl port : Nat) (k : Token), s.pkg.tokens = [k] ∧ k.dest = cl ∧ k.dport = port ∧ aget (s.cluster cl).inBind port = some (k.src,
      k.sport) ∧ k.rgen = s.rd R.cfgPstatRgen k.part % 16) ∧
    (∃ (s : State) (cl dst port src sport : Nat) (h w : List Byte), s.Issues cl ∧ aget (s.cluster cl).inq port = some [[h, w]] ∧ aget (s.cluster
      cl).inBind port = some (src, sport) ∧ w.length = 18 ∧ Memory.wf (s.cluster cl).scratch = true ∧ swf 0 s.pkg.creditsOwed = true ∧ (s.cluster
      cl).Sound) ∧
    (∃ (s : State) (cl port n : Nat), n ≤ sget 0 s.pkg.creditsOwed (8 * cl + port) ∧ swf 0 (s.cluster cl).creditsUsed = true ∧ swf 0
      s.pkg.creditsOwed = true) ∧
    (∃ (s : State) (cl p : Nat) (row span nan : Nat) (x : StepRow) (q : Req), s.partOf cl = some p ∧ (s.cluster cl).eventsSent = [(row, span, nan)]
      ∧ (s.part p).running = some [x] ∧ x.first ≤ row ∧ row < x.first + x.count ∧ x.kind = 0 ∧ s.req? (x.client, x.req) = some q) := by
  refine ⟨⟨at0 sd0, 3, 0x20, 3, 0, sd0, ?_⟩,
    ⟨at0 sd0, 3, 0x20, 3, 0, sd0, ?_⟩,
    ⟨moving, 3, 0, xfer0, List.replicate 16 0, ?_⟩,
    ⟨boundOut, 3, 0x40, 4, 7, List.replicate 16 0, ⟨2, 5, 9⟩, ?_⟩,
    ⟨arriving, 3, 5, token0, ?_⟩,
    ⟨received, 3, 0x40, 5, 2, 7, token0.zeros, token0.zeros, ?_⟩,
    ⟨owing, 3, 7, 2, ?_⟩,
    ⟨events, 3, 0, 13, 2, 1, row0, evReq, ?_⟩⟩ <;> decide +kernel

/-- Values that meet what `Obligations.PackageCommands` supposes, clause by clause. -/
theorem test_packageCommands_meets :
    (∃ (s : State) (arb i act : Nat), swf 0 s.pkg.granted = true ∧ aget s.pkg.queued arb = none ∧ (s.pkg.input (16 * (arb / 16) + i)).fifo = []) ∧
    (∃ (s : State) (g port h dest arb : Nat) (ws : List (BitVec 144)) (c : Bool), (s.pkg.input (16 * g + port)).fifo = [] ∧ readHeader (ws.getD 0 0)
      = some (h, c) ∧ bitsOf h 19 16 = 0 ∧ bitsOf h 75 70 ≤ 3 ∧ dest = bitsOf h 31 20 ∧ 0x200 ≤ dest ∧ dest < 0x2F0 ∧ s.physAll (dest - 0x200) / 8 =
      g ∧ arb = 16 * g + s.physOf (dest - 0x200) % 8 ∧ g < 32 ∧ s.waitsFor arb = [] ∧ sget 0 s.pkg.granted arb = 0 ∧ aget s.pkg.queued arb = none) ∧
    (∃ (s : State) (g port p : Nat) (ws : List (BitVec 144)), Registers.wf s.regs = true ∧ (s.pkg.input (16 * g + port)).fifo = [] ∧ readHeader
      (ws.getD 0 0) = none ∧ p ∈ s.partsInRegion g) ∧
    (∃ (s : State) (g port : Nat) (f : Flit), 8 ≤ (s.pkg.input (16 * g + port)).fifo.length) ∧
    (∃ (s : State) (l : Nat) (f : DieFrame), s.pkg.linkDead l = false ∧ (s.pkg.link l).early = [] ∧ aget s.pkg.queued (arbLink l) = none ∧ s.mayPass
      (arbLink l) 0 = true ∧ goodFrame f = true ∧ f.flits = [] ∧ frameNumber f = (s.pkg.link l).next) ∧
    (∃ (s : State) (l : Nat) (f : DieFrame), s.pkg.linkDead l = false ∧ s.mayPass (arbLink l) 0 = true ∧ goodFrame f = false ∧ f.flits.length ≤ 8 ∧
      (s.pkg.link l).replays < 3) ∧
    (∃ (s : State) (l : Nat) (f : DieFrame), s.pkg.linkDead l = false ∧ s.mayPass (arbLink l) 0 = true ∧ goodFrame f = false ∧ f.flits.length ≤ 8 ∧
      (s.pkg.link l).replays = 3) := by
  refine ⟨⟨State.reset, 511, 15, 3, ?_⟩,
    ⟨State.reset, 0, 3, header0, 0x200, 0, flit0, false, ?_⟩,
    ⟨oneRegion, 0, 3, 0, badFlit, ?_⟩,
    ⟨fullInput, 31, 15, (true, badFlit), ?_⟩,
    ⟨replayed 3, 15, ⟨0, []⟩, ?_⟩,
    ⟨replayed 2, 15, ⟨0x30201, []⟩, ?_⟩,
    ⟨replayed 3, 15, ⟨0x30201, []⟩, ?_⟩⟩ <;> decide +kernel

end Sys2Proof.Tests.Port

namespace Sys2Proof.Tests.Power
open Sys2Proof Sys2Proof.Machine

/-! Power -/
def withP (f : PowerState → PowerState) (l : List (Fld × Nat × Nat)) : State := regs { State.reset with power := f State.reset.power } l
def heldC : State := State.reset.setCluster 239 { Cluster.init with held := some (.nop 239 1) }
def entering (l : List (Fld × Nat × Nat)) : State := withP (fun p => { p with watchAsked := some 4096 }) ((R.pwrStatModule, 0, msEntering) :: l)
def watching (l : List (Fld × Nat × Nat)) : State := regs State.reset ((R.pwrStatModule, 0, msWatch) :: l)
def powReq (op arg : Nat) : Req := req 0x38 [(48, 1, op), (50, 2, arg)] []
def stepping : State := State.reset.setCluster 239 { Cluster.init with stepPending := some 14, held := some (.nop 239 1) }
def freed : State := withP (fun p => { p with underSince := some 5 }) [(R.pwrStatHold, 0, 1)]

/-- Values that meet what `Obligations.PowerStatesComplete` supposes, clause by clause. -/
theorem test_powerStatesComplete_meets :
    (∃ (s : State) (d : Nat), Registers.wf s.regs = true ∧ s.rd R.pwrDstatState d = 0 ∧ s.quiet d = true) ∧
    (∃ (s : State) (d : Nat), Registers.wf s.regs = true ∧ s.rd R.pwrDstatState d = dsIdle) ∧
    (∃ (s : State) (g : Nat), Registers.wf s.regs = true ∧ s.rd R.pwrModeMode (256 + g) = 1 ∧ s.rd R.pwrDstatState (256 + g) = 0 ∧ s.regionBlocker g
      = none) ∧
    (∃ (s : State) (d : Nat), Registers.wf s.regs = true ∧ d ∈ s.power.waking ∧ 240 ≤ d) ∧
    (∃ (s : State) (k : Nat), Registers.wf s.regs = true ∧ s.power.watchAsked = some k ∧ s.rd R.pwrStatModule 0 = msEntering ∧ s.watchBlocker (4096,
      0) = none) ∧
    (∃ (s : State) (k : Nat) (b : Nat × Nat × Nat), Registers.wf s.regs = true ∧ s.power.watchAsked = some k ∧ s.rd R.pwrStatModule 0 = msEntering ∧
      s.watchBlocker (4096, 0) = some b) ∧
    (∃ (s : State) (rs : List Reading) (n : Nat), Registers.wf s.regs = true ∧ s.rd R.pwrStatModule 0 = msWatch ∧ s.rd R.pwrWatchPeriod 0 ≠ 0 ∧
      s.now % (s.rd R.pwrWatchPeriod 0 * 10 ^ 6) = 0 ∧ n < 16 ∧ s.breached rs n = true) ∧
    (∃ (s : State), s.rd R.pwrStatModule 0 = msWatch) ∧
    (∃ (s : State) (l0 : Bool), Registers.wf s.regs = true ∧ s.rd R.pwrStatModule 0 = msWatch) ∧
    (∃ (s : State), Registers.wf s.regs = true ∧ s.rd R.pwrStatModule 0 = msWaking) ∧
    (∃ (s : State), Registers.wf s.regs = true ∧ s.rd R.pwrStatModule 0 = msWatch) ∧
    (∃ (s : State), Registers.wf s.regs = true ∧ s.moduleRun = true ∧ s.watchBlocker (4096, 0) = none) ∧
    (∃ (s : State) (c q : Nat) (r : Req), s.Holds (c, q) 0x38 r ∧ r.inl 0 1 = 2 ∧ s.watchBlocker (c, q) = none) := by
  refine ⟨⟨heldC, 239, ?_⟩,
    ⟨regs State.reset [(R.pwrDstatState, 292, dsIdle)], 292, ?_⟩,
    ⟨regs State.reset [(R.pwrModeMode, 287, 1)], 31, ?_⟩,
    ⟨withP (fun p => { p with waking := [240] }) [], 240, ?_⟩,
    ⟨entering [], 4096, ?_⟩,
    ⟨entering [(R.cfgPartEn, 63, 1), (R.cfgPstatState, 63, psReset)], 4096, (0x7FF, 0x23, hubSite 0 10), ?_⟩,
    ⟨watching [(R.pwrWatchPeriod, 0, 1), (R.pwrWwinEn, 15, 1), (R.pwrWwinHigh, 15, 90)], [(0, 91)], 15, ?_⟩,
    ⟨watching [], ?_⟩,
    ⟨watching [], true, ?_⟩,
    ⟨regs State.reset [(R.pwrStatModule, 0, msWaking)], ?_⟩,
    ⟨watching [], ?_⟩,
    ⟨State.reset, ?_⟩,
    ⟨holds (powReq 2 0), 1, 5, powReq 2 0, ?_⟩⟩ <;> decide +kernel

/-- Values that meet what `Obligations.GovernorCommandsComplete` supposes, clause by clause. -/
theorem test_governorCommandsComplete_meets :
    (∃ (s : State) (c q : Nat) (r : Req), Registers.wf s.regs = true ∧ s.Holds (c, q) 0x38 r ∧ r.inl 0 1 = 0 ∧ r.inl 2 2 ≤ 3000) ∧
    (∃ (s : State) (c q : Nat) (r : Req), Registers.wf s.regs = true ∧ s.Holds (c, q) 0x38 r ∧ r.inl 0 1 = 1) ∧
    (∃ (s : State) (w : Nat), Registers.wf s.regs = true ∧ 1200 ≤ w ∧ w ≤ 3000) ∧
    (∃ (s : State) (w : Nat), 3000 < w) ∧
    (∃ (s : State) (g mw : Nat) (own : List (Nat × Nat)) (shared : List (Nat × Nat × Nat)) (temp : Int) (terms : List (Nat × Option Nat × Nat)),
      Registers.wf s.regs = true ∧ terms = s.energyTerms g own shared temp ∧ mw = total (terms.map fun x => x.2.2) * s.rd R.pwrEstK 0 / 2 ^ 14 / 10) ∧
    (∃ (s : State) (m : Nat) (hub : Int), Registers.wf s.regs = true ∧ s.power.estimate = 0 ∧ s.enabledParts = [] ∧ s.rd R.pwrCapImg 0 ≤ 3000 ∧ s.rd
      R.pwrCapHost 0 = 0 ∧ s.rd R.pwrCapBmc 0 = 0 ∧ m < 2 ^ 16) ∧
    (∃ (s : State) (cl n : Nat) (i : Instr), Registers.wf s.regs = true ∧ cl < 240 ∧ n ≤ 14 ∧ (s.cluster cl).stepPending = some n ∧ (s.cluster
      cl).held = some i) ∧
    (∃ (s : State), Registers.wf s.regs = true ∧ s.rd R.pwrStatHold 0 ≠ 1 ∧ s.enabledParts = []) ∧
    (∃ (s : State) (u : Nat), Registers.wf s.regs = true ∧ s.power.underSince = some u ∧ s.rd R.pwrStatHold 0 = 1 ∧ u + 10 ^ 6 ≤ s.now ∧ s.rd
      R.pwrStatTherm 0 < 2) ∧
    (∃ (s : State) (h : Int), Registers.wf s.regs = true ∧ (s.rd R.pwrPolicyTThrottle 0 : Int) ≤ h ∧ s.rd R.pwrStatTherm 0 = 0) ∧
    (∃ (s : State) (h : Int), Registers.wf s.regs = true ∧ (s.rd R.pwrPolicyTHold 0 : Int) ≤ h ∧ s.rd R.pwrStatTherm 0 < 2 ∧ s.rd R.pwrStatHold 0 =
      1) ∧
    (∃ (s : State) (h : Int) (cl : Nat), Registers.wf s.regs = true ∧ (s.rd R.pwrPolicyTTrip 0 : Int) ≤ h ∧ s.rd R.pwrStatTherm 0 < 3) := by
  refine ⟨⟨holds (powReq 0 3000), 1, 5, powReq 0 3000, ?_⟩,
    ⟨holds (powReq 1 0), 1, 5, powReq 1 0, ?_⟩,
    ⟨State.reset, 3000, ?_⟩,
    ⟨State.reset, 3001, ?_⟩,
    ⟨State.reset, 31, _, [(0, 7)], [(25, 0x200, 7)], 40, _, ?_, rfl, rfl⟩,
    ⟨State.reset, 65535, 40, ?_⟩,
    ⟨stepping, 239, 14, .nop 239 1, ?_⟩,
    ⟨State.reset, ?_⟩,
    ⟨{ freed with now := 1000005 }, 5, ?_⟩,
    ⟨State.reset, 0, ?_⟩,
    ⟨regs State.reset [(R.pwrStatTherm, 0, 1), (R.pwrStatHold, 0, 1)], 0, ?_⟩,
    ⟨heldC, 0, 239, ?_⟩⟩ <;> decide +kernel

end Sys2Proof.Tests.Power

namespace Sys2Proof.Tests.Health
open Sys2Proof Sys2Proof.Machine

/-! Health -/
def withF (f : FaultState → FaultState) (l : List (Fld × Nat × Nat)) : State := regs { State.reset with faults := f State.reset.faults } l
def info : FaultMsg := ⟨0x1A3, 0xFFFF, 0x7FF, 0, 0, 0, 0⟩
def late : FaultMsg := ⟨0x19B, hubSite 0 8, hubMaster, 0, 0, 0, 1⟩
def reporting (m : FaultMsg) (l : List (Fld × Nat × Nat)) : State := withF (fun f => { f with sent := [m] }) l
def retiring : State := withF (fun f => { f with retirePending := [(3, 0)] }) [(R.cfgPartEn, 0, 1), (R.cfgPstatState, 0, psRun)]
def guarded (l : List Nat) : State := { withF (fun f => { f with coreRestarting := l }) [(R.fltWdogTimeout, 0, 1)] with now := 10 ^ 6 }
def oneCluster : State := State.reset.setCluster 239 Cluster.init
def check0 : Check := { pair := 4, owner := 1, checker := 2, slot := 0, voter := none, rows := (0, 1), done := false }
def checking : State := { State.reset with parts := [(0, { Part.init with running := some [], checks := [check0] })] }
def voting : State := { checking with health := { State.reset.health with votes := [⟨0, 4, 255⟩] } }
def claimable0 : State := { regs State.reset [(R.cfgGoodMask, 3, 2 ^ 63)] with now := 1 }
def claimed0 : State := regs { State.reset with health := { State.reset.health with claimAt := [(255, 7)] } } [(R.wftCstatClaimed, 255, 1)]
def early0 : State := regs { State.reset with health := { State.reset.health with early := [255], claimAt := [(255, 1)] } } [(R.cfgGoodMask, 3, 2 ^ 63)]

/-- Values that meet what `Obligations.FaultCommandsComplete` supposes, clause by clause. -/
theorem test_faultCommandsComplete_meets :
    (∃ (s : State) (site x : Nat), Registers.wf s.regs = true ∧ s.faults.sent = [⟨0x1A3, site, 0x7FF, 0, 0, 0, x⟩] ∧ site ∉ s.faults.overflowed ∧
      s.rd R.fltStatMessages 0 + 1 < 2 ^ 31 ∧ s.rd R.fltCtlLogInfo 0 = 0) ∧
    (∃ (s : State) (m : FaultMsg), Registers.wf s.regs = true ∧ m = ⟨0x19B, hubSite 0 8, hubMaster, 0, 0, 0, m.time⟩ ∧ s.faults.sent = [m] ∧ m.site
      ∉ s.faults.overflowed ∧ s.rd R.fltStatMessages 0 + 1 < 2 ^ 31 ∧ s.rd R.fltCtlIrqEn 0 = 0 ∧ s.rd R.fltFirstValid 0 = 0 ∧ s.now < 2 ^ 64) ∧
    (∃ (s : State) (m : FaultMsg), Registers.wf s.regs = true ∧ m = ⟨0x19B, hubSite 0 8, hubMaster, 0, 0, 0, m.time⟩ ∧ s.faults.sent = [m] ∧ m.site
      ∉ s.faults.overflowed ∧ s.rd R.fltCtlIrqEn 0 = 0 ∧ s.rd R.fltFirstValid 0 = 1 ∧ s.rd R.fltFirstMore 0 < 127) ∧
    (∃ (s : State) (u : Nat), s.rd R.fltCtlIrqEn 0 = 1 ∧ s.faults.irqHeld = true ∧ s.faults.lastIrq = some u ∧ u + 100000 ≤ s.now ∧ s.msixMasked 0
      (s.rd R.fltCtlVector 0) = false) ∧
    (∃ (s : State) (cl p u : Nat), Registers.wf s.regs = true ∧ s.partOf cl = some p ∧ s.faults.retirePending = [(cl, u)] ∧ (s.part p).running =
      none ∧ s.rd R.cfgPstatState p = psRun ∧ s.partEn p = true ∧ s.host.reqs = [] ∧ s.tasks = [] ∧ s.walks = [] ∧ s.tables = [] ∧ s.shards = [] ∧
      s.vocabs = [] ∧ s.bags = []) ∧
    (∃ (s : State), Registers.wf s.regs = true ∧ s.now % 500000 = 0 ∧ s.healthy = true) ∧
    (∃ (s : State), Registers.wf s.regs = true ∧ s.now % 500000 = 0 ∧ s.healthy = false) ∧
    (∃ (s : State) (u : Nat), Registers.wf s.regs = true ∧ s.faults.hbAt = some u ∧ u + 10 ^ 7 < s.now ∧ s.faults.hbLateSent = false) ∧
    (∃ (s : State) (k : Nat), s.watchdogOn k = true ∧ k ∉ s.faults.coreRestarting ∧ sget 0 s.faults.coreKick k + s.rd R.fltWdogTimeout 0 * 10 ^ 6 ≤
      s.now ∧ s.coreParts k = []) ∧
    (∃ (s : State), s.watchdogOn 0 = true ∧ 0 ∈ s.faults.coreRestarting ∧ sget 0 s.faults.coreRestartAt 0 + s.rd R.fltWdogTimeout 0 * 10 ^ 6 ≤
      s.now) ∧
    (∃ (s : State) (cl : Nat), (aget s.clusters cl).isSome = true) := by
  refine ⟨⟨reporting info [], 0xFFFF, 0, ?_⟩,
    ⟨reporting late [], late, ?_⟩,
    ⟨reporting late [(R.fltFirstValid, 0, 1), (R.fltFirstMore, 0, 126)], late, ?_⟩,
    ⟨unmasked 0 { withF (fun f => { f with irqHeld := true, lastIrq := some 0 }) [(R.fltCtlIrqEn, 0, 1)] with now := 100000 }, 0, ?_⟩,
    ⟨retiring, 3, 0, 0, ?_⟩,
    ⟨{ withF (fun f => { f with hbAt := some 0 }) [] with now := 10 ^ 7 }, ?_⟩,
    ⟨{ withF (fun f => { f with hbAt := some 0 }) [] with now := 10500000 }, ?_⟩,
    ⟨{ withF (fun f => { f with hbAt := some 0 }) [] with now := 10000001 }, 0, ?_⟩,
    ⟨guarded [], 7, ?_⟩,
    ⟨guarded [0], ?_⟩,
    ⟨oneCluster, 239, ?_⟩⟩ <;> decide +kernel

/-- Values that meet what `Obligations.HealthCommandsComplete` supposes, clause by clause. -/
theorem test_healthCommandsComplete_meets :
    (∃ (s : State) (p : Nat) (k : Check) (rs : List StepRow), Registers.wf s.regs = true ∧ (s.part p).running = some rs ∧ s.partClusters p = [] ∧
      (s.part p).checks = [k] ∧ k.done = false ∧ s.health.votes = [] ∧ sget 0 (s.cluster k.owner).sigs k.pair = sget 0 (s.cluster
      k.checker).checkSigs k.slot) ∧
    (∃ (s : State) (p q : Nat) (k : Check), s.health.votes = [⟨p, k.pair, q⟩] ∧ (s.part p).checks = [k] ∧ s.rd R.wftCstatClaimed q ≠ 1) ∧
    (∃ (s : State) (q : Nat), Registers.wf s.regs = true ∧ q < 256 ∧ s.health.claimAt = [] ∧ s.windfallPick = some q ∧ (s.logicalOf q).bind s.partOf
      = none) ∧
    (∃ (s : State) (q u : Nat), Registers.wf s.regs = true ∧ q < 256 ∧ s.health.claimAt = [(q, u + 1)] ∧ (s.logicalOf q).bind s.partOf = none) ∧
    (∃ (s : State) (q v g : Nat) (osc : Int), Registers.wf s.regs = true ∧ q < 256 ∧ q ∈ s.health.early ∧ sget 0 s.health.claimAt q ≠ 0 ∧ bitOf
      (s.rd R.cfgGoodMask (q / 64)) (q % 64) = true ∧ s.unitRetired (physSite q) 0 = false ∧ g = newGuard v (s.rd R.ageCfgMargin 0) (Config.vBase q
      (s.rd R.ageCstatStepCeil q)) (s.rd R.ageCstatGuardband q) ∧ 5 * g ≤ 2 * s.rd R.ageCfgGbMax 0 ∧ g < 256) ∧
    (∃ (s : State) (q : Nat) (d : Int), Registers.wf s.regs = true ∧ -128 ≤ d ∧ d < 128 ∧ q ∉ s.health.early) := by
  refine ⟨⟨checking, 0, check0, [], ?_⟩,
    ⟨voting, 0, 255, check0, ?_⟩,
    ⟨claimable0, 255, ?_⟩,
    ⟨claimed0, 255, 6, ?_⟩,
    ⟨early0, 255, 0, 0, 3, ?_⟩,
    ⟨State.reset, 255, -128, ?_⟩⟩
  all_goals try decide +kernel
  · refine ⟨by decide +kernel, by decide, by decide +kernel, by decide +kernel, by decide +kernel, by decide +kernel, ?_, by decide, by decide⟩
    rw [show early0.rd R.ageCfgMargin 0 = 0 by decide +kernel, show early0.rd R.ageCstatGuardband 255 = 0 by decide +kernel]
    unfold newGuard; simp only [Nat.max_def]; split <;> omega

end Sys2Proof.Tests.Health

namespace Sys2Proof.Tests.Start
open Sys2Proof Sys2Proof.Machine

/-! Boards and start-up -/
def withB (f : BoardState → BoardState) : State := { State.reset with board := f State.reset.board }
def waking : State := { withB (fun b => { b with wakeN := some 0 }) with now := 10 ^ 9 }
def partition : State := regs (State.reset.setCluster 239 { Cluster.init with counters := [(1, 1)] })
  [(R.cfgPartEn, 63, 1), (R.cfgPartFirst, 63, 59), (R.cfgPstatState, 63, psRun)]
def resetting : State := regs { State.reset with parts := [(63, { Part.init with resetAt := some 0 })] } [(R.cfgPstatState, 63, psReset), (R.cfgPartEn, 63, 1)]
def powered : State := withB fun b => { b with perstHigh := true, pwrGood := true, off := false }
def booting (n : Nat) (l : List (Fld × Nat × Nat)) : State :=
  regs { powered with boot := { powered.boot with running := true, refAt := some 0, portsUpAt := some 0 } } ((R.cfgBootStage, 0, n) :: l)

/-- Values that meet what `Obligations.BoardAndResetCommandsComplete` supposes, clause by clause. -/
theorem test_boardAndResetCommandsComplete_meets :
    (∃ (s : State) (a : Nat), s.board.off = false) ∧
    (∃ (s : State) (u : Nat), s.board.wakeN = some u) ∧
    (∃ (s : State) (u : Nat), s.board.wakeN = some u ∧ 10 ^ 9 ≤ s.now - u) ∧
    (∃ (s : State) (p cause : Nat), Registers.wf s.regs = true ∧ p < 64 ∧ cause < 16 ∧ s.partEn p = true ∧ s.rd R.cfgPstatState p ≠ psReset) ∧
    (∃ (s : State) (p u : Nat), Registers.wf s.regs = true ∧ p < 64 ∧ s.rd R.cfgPstatState p = psReset ∧ (s.part p).resetAt = some u ∧
      s.faults.retirePending = []) ∧
    (∃ (s : State) (cause : Nat), cause < 8 ∧ s.boot.running = false ∧ s.board.perstHigh = true ∧ s.board.pwrGood = true) ∧
    (∃ (s : State), s.boot.running = false ∧ s.board.perstHigh = true ∧ s.board.pwrGood = true) ∧
    (∃ (s : State), s.board.pwrGood = true) ∧
    (∃ (s : State), s.board.pwrGood = true ∧ s.boot.running = false ∧ s.rd R.hstStatState 0 = 0 ∧ s.rd R.cfgBootStage 0 = 0) ∧
    (∃ (s : State), s.board.pwrGood = false) := by
  refine ⟨⟨powered, 9, ?_⟩,
    ⟨waking, 0, ?_⟩,
    ⟨waking, 0, ?_⟩,
    ⟨partition, 63, 15, ?_⟩,
    ⟨resetting, 63, 0, ?_⟩,
    ⟨powered, 7, ?_⟩,
    ⟨powered, ?_⟩,
    ⟨powered, ?_⟩,
    ⟨powered, ?_⟩,
    ⟨State.reset, ?_⟩⟩ <;> decide +kernel

/-- Values that meet what `Obligations.StartUpCommandsComplete` supposes, clause by clause. -/
theorem test_startUpCommandsComplete_meets :
    (∃ (s : State) (n : Nat), Registers.wf s.regs = true ∧ s.boot.running = true ∧ n ∈ [1, 8] ∧ s.rd R.cfgBootStage 0 + 1 = n) ∧
    (∃ (s : State) (q f c : Nat), Registers.wf s.regs = true ∧ s.boot.running = true ∧ s.rd R.cfgBootStage 0 = 3) ∧
    (∃ (s : State) (q f c : Nat), Registers.wf s.regs = true ∧ s.boot.running = true ∧ s.rd R.cfgBootStage 0 = 3) ∧
    (∃ (s : State) (g w : Nat), Registers.wf s.regs = true ∧ s.boot.running = true ∧ s.rd R.cfgBootStage 0 = 5 ∧ g < 8 ∧ w < 16) ∧
    (∃ (s : State), Registers.wf s.regs = true ∧ s.boot.running = true ∧ s.rd R.cfgBootStage 0 = 11) ∧
    (∃ (s : State), Registers.wf s.regs = true ∧ s.boot.running = true ∧ s.rd R.cfgBootStage 0 = 13) ∧
    (∃ (s : State), Registers.wf s.regs = true ∧ s.boot.running = true ∧ s.rd R.cfgBootStage 0 = 15) ∧
    (∃ (s : State), Registers.wf s.regs = true ∧ s.boot.running = true ∧ s.rd R.cfgBootStage 0 = 17) ∧
    (∃ (s : State) (reason : Nat), Registers.wf s.regs = true ∧ s.boot.running = true ∧ reason < 256) ∧
    (∃ (s : State) (u : Nat), Registers.wf s.regs = true ∧ s.boot.running = true ∧ s.boot.refAt = some u ∧ 95 * 10 ^ 8 ≤ s.now - u) ∧
    (∃ (s : State) (u : Nat), Registers.wf s.regs = true ∧ s.boot.running = true ∧ s.rd R.cfgBootStage 0 = 16 ∧ s.rd R.timCfgMaster 0 ≠ s.rd
      R.optCfgModuleId 0 ∧ s.boot.portsUpAt = some u ∧ 2 * 10 ^ 9 ≤ s.now - u ∧ s.hasRoom (portSite 0)) := by
  refine ⟨⟨booting 7 [], 8, ?_⟩,
    ⟨booting 3 [], 5, 1, 2, ?_⟩,
    ⟨booting 3 [], 5, 1, 2, ?_⟩,
    ⟨booting 5 [], 7, 15, ?_⟩,
    ⟨booting 11 [], ?_⟩,
    ⟨booting 13 [], ?_⟩,
    ⟨booting 15 [], ?_⟩,
    ⟨booting 17 [], ?_⟩,
    ⟨booting 17 [], 255, ?_⟩,
    ⟨{ booting 17 [] with now := 95 * 10 ^ 8 }, 0, ?_⟩,
    ⟨{ booting 16 [(R.timCfgMaster, 0, 1)] with now := 2 * 10 ^ 9 }, 0, ?_⟩⟩ <;> decide +kernel

end Sys2Proof.Tests.Start

namespace Sys2Proof.Tests.Fabric
open Sys2Proof Sys2Proof.Machine

/-! Fabric -/
def withFab (f : FabState → FabState) (l : List (Fld × Nat × Nat)) : State := regs { State.reset with fab := f State.reset.fab } l
/-- Port 15 in a state of OPT_PSTAT. -/
def portS (st : Nat) (x : Port) (l : List (Fld × Nat × Nat)) : State := withFab (fun f => { f with ports := [(15, x)] }) ((R.optPstatState, 15, st) :: l)
def zeros (n : Nat) : List (List Byte × Bool) := List.replicate n (List.replicate 16 0, false)
def link0 : LinkWord := ⟨255, 0, false, false, true, false, [1, 2, 3, 4], 0, false, 0, 0, 0⟩
def frame0 : Frame := frameOf (List.range 8) 0 [encodeWord (leBytes 16 link0.bits)]
def msg (kind dst hops : Nat) (p : List (BitVec 128)) : FabMsg :=
  { dst := dst, src := 9, master := 0x7E0, act := 1, vc := 1, hops := hops, seq := 0, stream := 0, kind := kind, request := 5, payload := p, poison := [] }
def rsp : FabMsg := msg 3 0 1 [7]
def link1 : LinkWord := { link0 with lanesTx := 127, empty := false, number := 0xFFFF }
def numbered : Frame := frameOf (List.range 7) 0xFFFF (encodeWord (leBytes 16 link1.bits) :: fabWords rsp)
def words1 : List (List Byte × Bool) := [(leBytes 16 (fabHeader rsp), false), (leBytes 16 7, false)] ++ zeros 495
def badF : Frame := ⟨[⟨5, false, 0⟩]⟩
def waits : Port := { Port.init with replay := [⟨3, fabWords rsp, [rsp]⟩], ackAt := 0 }
def gap0 : State := { withFab (fun f => { f with gaps := [⟨9, 0x7E0, 0, 0⟩] }) [(R.optRouteC0, 9, 0x12), (R.optPstatState, 2, opUp)] with now := 2 ^ 30 }
def transit (m : FabMsg) (l : List (Fld × Nat × Nat)) : State := withFab (fun f => { f with inbox := [(16, m)] }) l
def readM : FabMsg := msg 1 0 1 [BitVec.ofNat 128 0x3FFFFF0]
def routed9 : List (Fld × Nat × Nat) := [(R.optRouteC0, 9, 0x12), (R.optPstatState, 2, opUp)]
def opened : State := let s := mem (withFab (fun f => { f with opened := [(9, granuleOf 0, 1)] }) []); regs s routed9
def writeM : FabMsg := msg 2 0 1 [BitVec.ofNat 128 0x3FFFFF0, 99]
def openedS : State := withFab (fun f => { f with opened := [(9, granuleOf hubSramBase, 1)] }) []
def sramM : FabMsg := msg 2 0 1 [BitVec.ofNat 128 hubSramBase, 99]
def usage : FabMsg := msg 4 0 1 [BitVec.ofNat 128 (0x5553 + 2 ^ 16 * 4095), 5, 6]
def hello (sys : Nat) : BitVec 128 := helloWord 9 3 sys 0
def asks : Port := { Port.init with hoAsk := [7] }
def hands : Port := { Port.init with handover := some (7, 0) }
def peers : Port := { Port.init with peerLane := some 7 }
def darkP : Port := { Port.init with dark := true }
def freqM (n : Nat) : FabMsg := msg 4 0 1 [BitVec.ofNat 128 n]
def job : List (Fld × Nat × Nat) := [(R.optCfgJob, 0, 1), (R.optSysFreqMs, 0, 1)]
def timing : State :=
  withFab (fun f => { f with asked := some 100, answered := some (0, 131170, BitVec.ofNat 128 (65635 + 2 ^ 64 * 65635)) }) [(R.timCfgMaster, 0, 9)]
def lit (s : State) : State := { s with power := { s.power with opticsOn := true } }

/-- Values that meet what `Obligations.FabricMessagesComplete` supposes, clause by clause. -/
theorem test_fabricMessagesComplete_meets :
    (∃ (s : State) (p : Nat), s.portCarries p = true ∧ (s.port p).replay ≠ [] ∧ (s.port p).ackAt + 20000 ≤ s.now ∧ (∀ f ∈ (s.port p).replay,
      f.words.length < frameWords (decide ((s.txLanes p).length < 8)))) ∧
    (∃ (s : State) (p : Nat) (f : Frame) (l : LinkWord) (ws : List (List Byte × Bool)), Registers.wf s.regs = true ∧ p < 16 ∧ s.portCarries p = true
      ∧ readFrame f = .good l ws ∧ l.empty = true ∧ l.hoLock = false ∧ l.nak = false ∧ l.dark = false ∧ l.lanesTx < 256 ∧ (s.port p).queue = [] ∧
      swf 0 (s.port p).fbErr = true) ∧
    (∃ (s : State) (p : Nat) (f : Frame) (l : LinkWord) (ws : List (List Byte × Bool)) (m : FabMsg), Registers.wf s.regs = true ∧ p < 16 ∧
      s.portCarries p = true ∧ readFrame f = .good l ws ∧ l.empty = false ∧ l.hoLock = false ∧ l.nak = false ∧ l.dark = false ∧ (s.port p).rxPart =
      [] ∧ takeMsgs ws.length ws = ([m], []) ∧ l.number = (s.port p).rxNext ∧ (s.port p).queue = [] ∧ m.kind = 3 ∧ m.dst = s.rd R.optCfgModuleId 0 ∧
      m.seq = sget 0 s.fab.expect (streamKey m) ∧ s.fab.early = []) ∧
    (∃ (s : State) (p : Nat) (f : Frame) (lane n : Option Nat), s.portCarries p = true ∧ readFrame f = .bad lane n ∧ (s.port p).nak = false ∧
      (s.port p).failures = 0) ∧
    (∃ (s : State) (src master stream u p : Nat), s.fab.gaps = [⟨src, master, stream, u⟩] ∧ u + 1000 * s.rd R.optCfgGapUs 0 ≤ s.now ∧ s.fab.early =
      [] ∧ s.route src = some p) ∧
    (∃ (s : State) (m : FabMsg) (i p : Nat), Registers.wf s.regs = true ∧ s.fab.inbox = [(i + 1, m)] ∧ i < 16 ∧ m.dst ≠ s.rd R.optCfgModuleId 0 ∧ 0
      < m.hops ∧ m.kind ≠ 10 ∧ s.route m.dst = some p) ∧
    (∃ (s : State) (m : FabMsg) (i : Nat), Registers.wf s.regs = true ∧ s.fab.inbox = [(i + 1, m)] ∧ i < 16 ∧ m.dst ≠ s.rd R.optCfgModuleId 0 ∧
      m.hops = 0 ∧ m.src ≠ s.rd R.optCfgModuleId 0) ∧
    (∃ (s : State) (m : FabMsg) (p : Nat) (b : List Byte), s.fab.inbox = [] ∧ bitsOf (fabWord m 0) 63 48 = 0 ∧ fabWord m 0 % 16 = 0 ∧ s.openedTo
      m.src (fabWord m 0 % 2 ^ 48) 16 = true ∧ s.route m.src = some p ∧ b.length = 16 ∧ Registers.wf s.regs = true ∧ (∀ detect, decodeWord detect
      (wordAt s.mem.cells (s.devWord (fabWord m 0 % 2 ^ 48))) = .word b none)) ∧
    (∃ (s : State) (m : FabMsg), s.openedTo m.src (fabWord m 0 % 2 ^ 48) (16 * (bitsOf (fabWord m 0) 63 48 + 1)) = false ∧ s.openedSram m.src
      (fabWord m 0 % 2 ^ 48) (16 * (bitsOf (fabWord m 0) 63 48 + 1)) = false) ∧
    (∃ (s : State) (m : FabMsg) (d : BitVec 128), Memory.wf s.mem.cells = true ∧ m.payload.drop 1 = [d] ∧ m.poison = [] ∧ s.openedTo m.src (fabWord
      m 0 % 2 ^ 48) 16 = true ∧ fabWord m 0 % 16 = 0) ∧
    (∃ (s : State) (m : FabMsg) (d : BitVec 128) (a : Nat), Memory.wf s.pkg.hubSram = true ∧ m.payload.drop 1 = [d] ∧ m.poison = [] ∧ a = fabWord m
      0 % 2 ^ 48 ∧ s.openedSram m.src a 16 = true) ∧
    (∃ (s : State) (m : FabMsg), fabWord m 0 % 2 ^ 16 = 0x5553) := by
  refine ⟨⟨{ portS opUp waits [] with now := 20000 }, 15, ?_⟩,
    ⟨portS opUp Port.init [], 15, frame0, link0, zeros 569, ?_⟩,
    ⟨portS opNarrow { Port.init with rxNext := 0xFFFF } [], 15, numbered, link1, words1, rsp, ?_⟩,
    ⟨portS opUp Port.init [], 15, badF, some 5, none, ?_⟩,
    ⟨gap0, 9, 0x7E0, 0, 0, 2, ?_⟩,
    ⟨transit (msg 4 9 1 []) routed9, msg 4 9 1 [], 15, 2, ?_⟩,
    ⟨transit (msg 4 9 0 []) routed9, msg 4 9 0 [], 15, ?_⟩,
    ⟨opened, readM, 2, List.replicate 16 0, ?_⟩,
    ⟨State.reset, readM, ?_⟩,
    ⟨opened, writeM, 99, ?_⟩,
    ⟨openedS, sramM, 99, hubSramBase, ?_⟩,
    ⟨State.reset, usage, ?_⟩⟩ <;> decide +kernel

/-- Values that meet what `Obligations.FabricPortsComplete` supposes, clause by clause. -/
theorem test_fabricPortsComplete_meets :
    (∃ (s : State) (p : Nat) (h : BitVec 128) (cs : List Nat), Registers.wf s.regs = true ∧ p < 16 ∧ p < s.portCount ∧ s.power.opticsOn = true ∧
      s.portState p = opTrain ∧ s.rd R.optPstatRetiredLanes p = 0 ∧ helloRetired h = 0 ∧ helloSystem h = s.rd R.optSysSystem 0 ∧ helloId h ≠ s.rd
      R.optCfgModuleId 0 ∧ (s.port p).queue = [] ∧ (s.port p).unacked = []) ∧
    (∃ (s : State) (p : Nat) (h : BitVec 128) (cs : List Nat), Registers.wf s.regs = true ∧ p < 16 ∧ p < s.portCount ∧ s.power.opticsOn = true ∧
      s.portState p = opTrain ∧ s.rd R.optPstatRetiredLanes p = 0 ∧ helloSystem h ≠ s.rd R.optSysSystem 0) ∧
    (∃ (s : State) (p : Nat), Registers.wf s.regs = true ∧ p < 16 ∧ p < s.portCount ∧ s.power.opticsOn = true ∧ s.portState p = opDown ∧ (s.port
      p).dark = false ∧ (s.port p).downAt + 10 ^ 10 ≤ s.now) ∧
    (∃ (s : State) (p : Nat), Registers.wf s.regs = true ∧ p < 16 ∧ s.portCarries p = true ∧ (s.port p).dark = false ∧ (s.port p).queue = [] ∧
      (s.port p).unacked = []) ∧
    (∃ (s : State) (p : Nat), Registers.wf s.regs = true ∧ p < 16 ∧ s.power.opticsOn = true ∧ s.portState p = opDown ∧ (s.port p).dark = true) ∧
    (∃ (s : State) (p l : Nat), Registers.wf s.regs = true ∧ p < 16 ∧ l < 8 ∧ s.badLanes p = 0 ∧ l ∈ (s.port p).hoAsk ∧ s.portState p = opUp) ∧
    (∃ (s : State) (p l u : Nat), Registers.wf s.regs = true ∧ p < 16 ∧ l < 8 ∧ s.portState p = opHandover ∧ (s.port p).handover = some (l, u) ∧
      s.badLanes p = 0) ∧
    (∃ (s : State) (p l u : Nat), s.portState p = opHandover ∧ (s.port p).handover = some (l, u) ∧ u + 2 * 10 ^ 7 ≤ s.now ∧ sget 0 (s.port
      p).hoFails l = 0) ∧
    (∃ (s : State) (p l : Nat), Registers.wf s.regs = true ∧ s.portCarries p = true ∧ (s.port p).peerLane = some l) ∧
    (∃ (s : State) (p l err : Nat) (bias tx rx : Int), Registers.wf s.regs = true ∧ p < 16 ∧ l < 8 ∧ s.portCarries p = true ∧ s.rd R.optLstatState
      (laneKey p l) = 2) := by
  refine ⟨⟨lit (portS opTrain Port.init []), 15, hello 0, [1, 2, 3, 4], ?_⟩,
    ⟨lit (portS opTrain Port.init []), 15, hello 1, [], ?_⟩,
    ⟨{ lit (portS opDown Port.init []) with now := 10 ^ 10 }, 15, ?_⟩,
    ⟨portS opUp Port.init [], 15, ?_⟩,
    ⟨lit (portS opDown darkP []), 15, ?_⟩,
    ⟨portS opUp asks [], 15, 7, ?_⟩,
    ⟨portS opHandover hands [], 15, 7, 0, ?_⟩,
    ⟨{ portS opHandover hands [] with now := 2 * 10 ^ 7 }, 15, 7, 0, ?_⟩,
    ⟨portS opUp peers [], 15, 7, ?_⟩,
    ⟨portS opUp Port.init [(R.optLstatState, laneKey 15 7, 2)], 15, 7, 3, 1, -1, 0, ?_⟩⟩ <;> decide +kernel

/-- Values that meet what `Obligations.FabricAgreementComplete` supposes, clause by clause. -/
theorem test_fabricAgreementComplete_meets :
    (∃ (s : State) (src serial : Nat), s.isMaster = true ∧ serial ≠ 0 ∧ s.fab.inbox = [] ∧ aget s.fab.census src = none ∧ src ≠ s.rd
      R.optCfgModuleId 0) ∧
    (∃ (s : State) (serial : Nat), serial ≠ 0 ∧ serial = s.rd R.hstIdSerialSerial 0) ∧
    (∃ (s : State), Registers.wf s.regs = true) ∧
    (∃ (s : State), s.fab.isolated = false ∧ s.fab.censusAt = none ∧ s.power.opticsOn = true ∧ s.isMaster = false ∧ s.unreachable (s.rd
      R.timCfgMaster 0) = false) ∧
    (∃ (s : State), s.fab.isolated = false ∧ s.fab.censusAt = none ∧ s.power.opticsOn = true ∧ s.isMaster = false ∧ s.unreachable (s.rd
      R.timCfgMaster 0) = true) ∧
    (∃ (s : State) (u : Nat), Registers.wf s.regs = true ∧ s.fab.censusWait = true ∧ s.unreachable (s.rd R.timCfgMaster 0) = false ∧ s.fab.censusAt
      = some u ∧ u + 10 ^ 9 ≤ s.now) ∧
    (∃ (s : State) (m : Nat) (e : CensusEntry), aget s.fab.census m = some e ∧ e.at_ + 3 * 10 ^ 10 ≤ s.now) ∧
    (∃ (s : State), s.rd R.optCfgJob 0 ≠ 0 ∧ s.freqNs ≠ 0 ∧ s.now / s.freqNs ≠ s.fab.period) ∧
    (∃ (s : State) (m : FabMsg), s.fab.inbox = [] ∧ s.rd R.optCfgJob 0 ≠ 0 ∧ s.isLead = true ∧ s.fab.decided = false ∧ bitsOf (fabWord m 0) 63 32 =
      s.fab.period % 2 ^ 32) ∧
    (∃ (s : State) (m : FabMsg), s.fab.inbox = [] ∧ s.rd R.optCfgJob 0 ≠ 0 ∧ s.isLead = false ∧ m.src = s.rd R.optCfgJobLead 0) ∧
    (∃ (s : State) (g : Nat), s.rd R.optCfgJob 0 ≠ 0 ∧ s.isLead = true ∧ s.fab.decided = false ∧ s.fab.period * s.freqNs + s.freqNs / 2 ≤ s.now ∧
      s.fab.members = [] ∧ s.fab.grants = [(s.rd R.optCfgModuleId 0, g)] ∧ g ≤ 15) ∧
    (∃ (s : State) (n u : Nat), Registers.wf s.regs = true ∧ s.fab.result = some (n, u) ∧ u ≤ s.now ∧ n < 16 ∧ s.enabledParts = []) ∧
    (∃ (s : State) (p : Nat), Registers.wf s.regs = true ∧ s.isMaster = false ∧ s.route (s.rd R.timCfgMaster 0) = some p) ∧
    (∃ (s : State), Registers.wf s.regs = true ∧ s.isMaster = false ∧ s.route (s.rd R.timCfgMaster 0) = none ∧ s.rd R.timStatState 0 ≠ 3) ∧
    (∃ (s : State) (t1 d : Nat), Registers.wf s.regs = true ∧ s.isMaster = false ∧ s.fab.asked = some t1 ∧ s.fab.answered = some (s.rd
      R.timStatParent 0, t1 + 2 * d, BitVec.ofNat 128 (t1 + d + 2 ^ 64 * (t1 + d))) ∧ t1 + d < 2 ^ 64 ∧ s.fab.exchanges = [] ∧ s.boot.running =
      false ∧ d < 2 ^ 16) ∧
    (∃ (s : State) (p t1 t2 t3 t4 : Nat), s.fab.asked = none ∨ s.fab.answered = none) ∧
    (∃ (s : State) (h : Nat), Registers.wf s.regs = true ∧ s.isMaster = true ∧ s.boot.running = false) := by
  refine ⟨⟨State.reset, 4095, 1, ?_⟩,
    ⟨regs State.reset [(R.hstIdSerialSerial, 0, 7)], 7, ?_⟩,
    ⟨State.reset, ?_⟩,
    ⟨lit (regs State.reset (routed9 ++ [(R.timCfgMaster, 0, 9), (R.optStatUp, 0, 4)])), ?_⟩,
    ⟨lit (regs State.reset [(R.timCfgMaster, 0, 9)]), ?_⟩,
    ⟨{ withFab (fun f => { f with censusWait := true, censusAt := some 0 }) (routed9 ++ [(R.timCfgMaster, 0, 9)]) with now := 10 ^ 9 }, 0, ?_⟩,
    ⟨{ withFab (fun f => { f with census := [(9, ⟨7, 0, none⟩)] }) [] with now := 3 * 10 ^ 10 }, 9, ⟨7, 0, none⟩, ?_⟩,
    ⟨{ regs State.reset job with now := 10 ^ 6 }, ?_⟩,
    ⟨regs State.reset job, freqM 14, ?_⟩,
    ⟨regs State.reset (job ++ [(R.optCfgJobLead, 0, 9)]), freqM 14, ?_⟩,
    ⟨{ withFab (fun f => { f with grants := [(0, 15)] }) job with now := 10 ^ 6 }, 15, ?_⟩,
    ⟨{ withFab (fun f => { f with result := some (15, 0) }) [] with now := 0 }, 15, 0, ?_⟩,
    ⟨regs State.reset (routed9 ++ [(R.timCfgMaster, 0, 9)]), 2, ?_⟩,
    ⟨regs State.reset [(R.timCfgMaster, 0, 9)], ?_⟩,
    ⟨timing, 100, 65535, ?_⟩,
    ⟨State.reset, 15, 1, 2, 3, 4, ?_⟩,
    ⟨State.reset, 9, ?_⟩⟩ <;> decide +kernel

end Sys2Proof.Tests.Fabric

namespace Sys2Proof.Tests.Sec
open Sys2Proof Sys2Proof.Machine

/-! Attestation, digests and updates -/
def up : State := regs State.reset [(R.hstStatState, 0, 1)]
def spdm (n : Nat) (l : List (Nat × Bool)) : State := { up with sec := { up.sec with negotiated := n, sessions := l } }
def leaf0 : Leaf := ⟨1, 9, [1], [2, 3]⟩
def batch0 : Batch := ⟨0, 5, [leaf0], none⟩
def batching : State := { up with now := 2 * 10 ^ 8, sec := { up.sec with openBatch := [leaf0], openedAt := 7 } }
def closing : State := { up with sec := { up.sec with closed := [batch0] } }
def readReq : Req := req 0x31 [(28, 4, 4096), (48, 4, 9)] []
def proven : State := { holds readReq with sec := { up.sec with signed := [batch0], store := [(0, 0)], storeBytes := 2 } }
def waitingS : State := { holds readReq with sec := { up.sec with openBatch := [leaf0] } }
def comp0 : CompUpd := ⟨[], 0, false, [], 0⟩
def updating (x : CompUpd) : State := { up with upd := { up.upd with session := true, comps := [(1, x)] } }
def piece0 : Piece := ⟨1, 0, bytes 48 [(0, 4, 0x54494350), (4, 4, 2000)]⟩
def eligibleAt (t : Nat) (n : Nat) : State :=
  { regs up [(R.updStatFwState, 0, 3), (R.updActivateAtTime, 0, t)] with now := n, host := { up.host with rings := [(1, ring)] } }
def restart : State := { regs up [(R.updStatFwState, 0, 3)] with upd := { up.upd with draining := some 7 } }

/-- Values that meet what `Obligations.AttestationCommandsComplete` supposes, clause by clause. -/
theorem test_attestationCommandsComplete_meets :
    (∃ (s : State), s.rd R.hstStatState 0 ≠ 0) ∧
    (∃ (s : State), s.rd R.hstStatState 0 ≠ 0 ∧ 1 ≤ s.sec.negotiated) ∧
    (∃ (s : State), s.rd R.hstStatState 0 ≠ 0 ∧ 2 ≤ s.sec.negotiated) ∧
    (∃ (s : State), s.rd R.hstStatState 0 ≠ 0 ∧ 3 ≤ s.sec.negotiated) ∧
    (∃ (s : State) (o n : Nat), s.rd R.hstStatState 0 ≠ 0 ∧ 3 ≤ s.sec.negotiated) ∧
    (∃ (s : State) (o n : Nat) (key : List Byte), s.rd R.hstStatState 0 ≠ 0 ∧ 3 ≤ s.sec.negotiated ∧ key ≠ s.boot.pub) ∧
    (∃ (s : State) (nonce : List Byte), s.rd R.hstStatState 0 ≠ 0 ∧ 3 ≤ s.sec.negotiated) ∧
    (∃ (s : State) (i : Nat) (nonce : List Byte), s.rd R.hstStatState 0 ≠ 0 ∧ 3 ≤ s.sec.negotiated ∧ 1 ≤ i ∧ i ≤ 8) ∧
    (∃ (s : State) (n : Nat) (dhe : List Byte), s.rd R.hstStatState 0 ≠ 0 ∧ 3 ≤ s.sec.negotiated ∧ (∀ b, (n, b) ∉ s.sec.sessions)) ∧
    (∃ (s : State) (n : Nat), s.rd R.hstStatState 0 ≠ 0 ∧ 3 ≤ s.sec.negotiated ∧ (n, false) ∈ s.sec.sessions) ∧
    (∃ (s : State) (n : Nat), s.rd R.hstStatState 0 ≠ 0 ∧ 3 ≤ s.sec.negotiated ∧ (n, true) ∈ s.sec.sessions) := by
  refine ⟨⟨up, ?_⟩,
    ⟨spdm 1 [], ?_⟩,
    ⟨spdm 2 [], ?_⟩,
    ⟨spdm 3 [], ?_⟩,
    ⟨spdm 3 [], 0, 64, ?_⟩,
    ⟨spdm 3 [], 0, 64, 1 :: up.boot.pub, ?_⟩,
    ⟨spdm 3 [], [1, 2], ?_⟩,
    ⟨spdm 3 [], 8, [1, 2], ?_⟩,
    ⟨spdm 3 [], 6, [3], ?_⟩,
    ⟨spdm 3 [(6, false)], 6, ?_⟩,
    ⟨spdm 3 [(6, true)], 6, ?_⟩⟩ <;> decide +kernel

/-- Values that meet what `Obligations.DigestCommandsComplete` supposes, clause by clause. -/
theorem test_digestCommandsComplete_meets :
    (∃ (s : State), Registers.wf s.regs = true ∧ s.sec.openBatch ≠ [] ∧ s.sec.openedAt + 10 ^ 8 ≤ s.now ∧ s.rd R.secBatchSeq 0 + 1 < 2 ^ 32) ∧
    (∃ (s : State) (b : Batch) (rest : List Batch), s.sec.closed = b :: rest ∧ b.leaves ≠ [] ∧ s.sec.reads = [] ∧ s.sec.storeBytes + (b.leaves.map
      fun y => y.record.length).sum ≤ 2 ^ 24) ∧
    (∃ (s : State) (c q i : Nat) (r : Req) (b : Batch) (x : Leaf), s.Holds (c, q) 0x31 r ∧ s.leafWaits c (r.inl 0 4) = false ∧ s.digestComes c
      (r.inl 0 4) = false ∧ s.findProof c (r.inl 0 4) = some (b, i, x) ∧ (s.proofBytes b i x).length ≤ r.d 28 4 ∧ isDev (r.d 32 8) = false ∧
      s.host.ats = []) ∧
    (∃ (s : State) (c q : Nat) (r : Req), s.Holds (c, q) 0x31 r ∧ s.leafWaits c (r.inl 0 4) = true) ∧
    (∃ (s : State) (c q : Nat) (r : Req), s.Holds (c, q) 0x31 r ∧ s.leafWaits c (r.inl 0 4) = false ∧ s.digestComes c (r.inl 0 4) = false ∧
      s.findProof c (r.inl 0 4) = none) := by
  refine ⟨⟨batching, ?_⟩,
    ⟨closing, batch0, [], ?_⟩,
    ⟨proven, 1, 5, 0, readReq, batch0, leaf0, ?_⟩,
    ⟨waitingS, 1, 5, readReq, ?_⟩,
    ⟨holds readReq, 1, 5, readReq, ?_⟩⟩ <;> decide +kernel

/-- Values that meet what `Obligations.UpdateCommandsComplete` supposes, clause by clause. -/
theorem test_updateCommandsComplete_meets :
    (∃ (s : State), s.rd R.hstStatState 0 ≠ 0) ∧
    (∃ (s : State), s.rd R.hstStatState 0 ≠ 0) ∧
    (∃ (s : State) (c : Nat) (d : List Byte), Registers.wf s.regs = true ∧ s.rd R.hstStatState 0 ≠ 0 ∧ c ∈ [1, 2] ∧ (s.upd.checked && s.eligible c)
      = false ∧ s.progressOf c = none) ∧
    (∃ (s : State) (c n : Nat) (d : List Byte), Registers.wf s.regs = true ∧ s.rd R.hstStatState 0 ≠ 0 ∧ c ∈ [1, 2] ∧ (s.upd.checked && s.eligible
      c) = false ∧ s.progressOf c = some (d, n) ∧ 0 < n ∧ n < 2 ^ 16) ∧
    (∃ (s : State) (c svn : Nat) (x : CompUpd), s.rd R.hstStatState 0 ≠ 0 ∧ s.upd.session = true ∧ aget s.upd.comps c = some x) ∧
    (∃ (s : State) (c svn : Nat) (x : CompUpd), Registers.wf s.regs = true ∧ s.rd R.hstStatState 0 ≠ 0 ∧ s.upd.session = true ∧ c ∈ [1, 2] ∧ aget
      s.upd.comps c = some x ∧ s.rd (compNext c) 0 ≠ imagePieces x.data) ∧
    (∃ (s : State) (p : Piece) (x : CompUpd), Registers.wf s.regs = true ∧ s.rd R.hstStatState 0 ≠ 0 ∧ p.component ∈ [1, 2] ∧ aget s.upd.comps
      p.component = some x ∧ x.active = true ∧ p.index = s.rd (compNext p.component) 0 ∧ p.index + 1 < 2 ^ 16 ∧ pieceOk x.digest p.index (x.data ++
      padTo 4096 p.bytes) p.bytes = true ∧ p.index + 1 ≠ imagePieces (x.data ++ padTo 4096 p.bytes)) ∧
    (∃ (s : State) (p : Piece) (x : CompUpd), s.rd R.hstStatState 0 ≠ 0 ∧ aget s.upd.comps p.component = some x ∧ x.active = true ∧ p.index = s.rd
      (compNext p.component) 0 ∧ x.failures < 3 ∧ pieceOk x.digest p.index (x.data ++ padTo 4096 p.bytes) p.bytes = false) ∧
    (∃ (s : State), s.rd R.hstStatState 0 ≠ 0) ∧
    (∃ (s : State), s.rd R.hstStatState 0 ≠ 0) ∧
    (∃ (s : State) (c : Nat), Registers.wf s.regs = true ∧ s.rd R.hstStatState 0 ≠ 0 ∧ s.upd.session = true ∧ c ∈ [1, 2] ∧ s.rd (compState c) 0 =
      usReceiving) ∧
    (∃ (s : State), s.rd R.hstStatState 0 ≠ 0 ∧ s.upd.session = true) ∧
    (∃ (s : State) (c : Nat) (x : Ring), s.rd R.hstStatState 0 = hsReady ∧ s.upd.checked = false ∧ s.now < s.rd R.updActivateAtTime 0 ∧ s.rd
      R.updActivateAtTime 0 ≤ s.now + 5 * 10 ^ 9 ∧ s.eligible 1 = true ∧ s.host.rings = [(c, x)]) ∧
    (∃ (s : State), s.rd R.hstStatState 0 = hsReady ∧ s.upd.checked = true ∧ s.rd R.updActivateAtTime 0 ≠ 0 ∧ s.rd R.updActivateAtTime 0 ≤ s.now ∧
      s.upd.draining = none) ∧
    (∃ (s : State) (u : Nat), Registers.wf s.regs = true ∧ s.upd.draining = some u ∧ s.host.reqs = [] ∧ s.boot.running = false) ∧
    (∃ (s : State) (u : Nat), Registers.wf s.regs = true ∧ s.upd.draining = some u ∧ s.host.reqs = [] ∧ s.boot.running = false) := by
  refine ⟨⟨up, ?_⟩,
    ⟨up, ?_⟩,
    ⟨up, 1, [4], ?_⟩,
    ⟨{ up with nor := { up.nor with progress := [(2, [4], 6)] } }, 2, 6, [4], ?_⟩,
    ⟨updating comp0, 1, 5, comp0, ?_⟩,
    ⟨updating comp0, 1, 5, comp0, ?_⟩,
    ⟨updating { comp0 with active := true }, piece0, { comp0 with active := true }, ?_⟩,
    ⟨updating { comp0 with active := true, failures := 2 }, { piece0 with bytes := [] }, { comp0 with active := true, failures := 2 }, ?_⟩,
    ⟨up, ?_⟩,
    ⟨up, ?_⟩,
    ⟨regs (updating comp0) [(R.updStatFwState, 0, 1)], 1, ?_⟩,
    ⟨updating comp0, ?_⟩,
    ⟨eligibleAt (10 ^ 10) (5 * 10 ^ 9), 1, ring, ?_⟩,
    ⟨{ eligibleAt (10 ^ 10) (10 ^ 10) with upd := { up.upd with checked := true } }, ?_⟩,
    ⟨restart, 7, ?_⟩,
    ⟨restart, 7, ?_⟩⟩ <;> decide +kernel

end Sys2Proof.Tests.Sec

namespace Sys2Proof.Tests.Flash
open Sys2Proof Sys2Proof.Machine

/-! Flash and objects -/
def sector0 : Sector := Sector.sealed ⟨[7, 7, 7, 7], 16, false, false, false, 3, 1, 0, 0⟩
def ent0 : Nat := mkEntry 64 5
def withF (f : FlashState → FlashState) : State := { State.reset with flash := f State.reset.flash }
def stored : State := withF fun f => { f with map := [(1, ent0)], medium := [(ent0, [sector0])], openStripe := some 0 }
def write0 : FlashWrite := ⟨1, ent0, 15, [sector0]⟩
def stripe0 : Stripe := ⟨[mkEntry 0 1], false, [[sector0]], []⟩
def moving : State := { stored with flash := { stored.flash with relocate := [entBlock ent0] } }
def rebuilding : State := { stored with flash := { stored.flash with rebuilding := [80] } }
def placeReq : Req := req 0x28 [(48, 4, 7)] (bytes 16 [(1, 1, 0), (4, 4, 1)])
def badPlace : Req := req 0x28 [(48, 4, 7)] []
def entry1 : PartEntry := ⟨0, 0, 0, 1, 0, []⟩
def placing (r : Req) : State := regs (mem (holds r)) [(R.cfgPartGranules, 0, 2), (R.cfgPstatGranulesUsed, 0, 1)]
def adapterImg : List Byte := bytes 48 [(32, 2, 8), (34, 2, 1023), (36, 4, 2)]
def loadReq : Req := req 0x29 [(48, 4, 7), (52, 1, 4)] adapterImg
def weights0 : WeightSet :=
  { part := 0, object := 9, digest := List.replicate 32 0, contextMax := 64, vocab := 8, dims := 2, sketch := 8, linMacs := 1, attMacs := 1, headMacs := 1,
    weightBytes := 1, stateBytes := 1, cacheCap := 0, cache := [], cacheBase := 0, cacheSlot := 0, cold := [], schedule := [], current := true }
def obj0 : Obj := ⟨0, [entry1], 1, none, 0, false, (0, 0), [], 0, [], []⟩
def loadingS : State := regs { mem (holds loadReq) with objs := [(7, obj0)], weights := [(weightKey 9 1, weights0)] } [(R.cfgPartEn, 0, 1)]
def wReq : Req := req 0x29 [(48, 4, 7)] []
def objW : Obj := { obj0 with kind := some 0, loading := true, loader := (1, 5), image := List.replicate 128 0 }
def endingW : State := { mem (holds wReq) with objs := [(7, objW)] }
def adReq : Req := req 0x20 [(48, 2, 1023), (52, 4, 2)] adapterImg
def adLoad : State := { holds adReq with weights := [(weightKey 9 1, weights0)] }
def ad0 (b : Bool) : Adapter := ⟨0, 1023, 2, [], b, false, (1, 5), 0⟩
def retReq : Req := req 0x21 [(48, 2, 1023)] []

/-- Values that meet what `Obligations.FlashCommandsComplete` supposes, clause by clause. -/
theorem test_flashCommandsComplete_meets :
    (∃ (s : State) (lsn p : Nat) (tr : SectorTrial) (x : Sector), s.flashSector lsn = some x ∧ x.part = p ∧ tr.ldpcOk = true ∧ x.poison = false ∧
      x.tagOk lsn = true ∧ s.dieRetired (entChan (s.flashEntry (lsn / 16))) (entDie (s.flashEntry (lsn / 16))) = false ∧ s.mayPass (arbFlash
      (flashCore (entChan (s.flashEntry (lsn / 16))))) p = true) ∧
    (∃ (s : State) (lsn p : Nat) (tr : SectorTrial), s.flashSector lsn = none ∧ s.mayPass (arbFlash (flashCore (entChan (s.flashEntry (lsn / 16)))))
      p = true) ∧
    (∃ (s : State) (lsn p : Nat) (tr : SectorTrial) (x : Sector), s.flashSector lsn = some x ∧ x.part ≠ p ∧ s.mayPass (arbFlash (flashCore (entChan
      (s.flashEntry (lsn / 16))))) p = true) ∧
    (∃ (s : State) (lsn p : Nat) (x : Sector), s.flashSector lsn = some x ∧ x.part = p ∧ s.inReserve (s.flashEntry (lsn / 16)) = false ∧ s.mayPass
      (arbFlash (flashCore (entChan (s.flashEntry (lsn / 16))))) p = true) ∧
    (∃ (s : State) (k : Nat) (w : FlashWrite), swf 0 s.flash.map = true ∧ s.flash.writes = [w] ∧ w.core = k ∧ s.flash.eraseAfter = []) ∧
    (∃ (s : State) (k : Nat) (v w : FlashWrite), s.flash.writes = [v, w] ∧ v.unit = w.unit ∧ v.core ≠ k) ∧
    (∃ (s : State) (st : Nat) (x : Stripe), aget s.flash.stripes st = some x ∧ x.closed = false) ∧
    (∃ (s : State) (d b u e e' : Nat), s.flash.relocate = [b] ∧ b % 32 = d / 16 ∧ b / 32 % 16 = d % 16 ∧ s.flash.map = [(u, e)] ∧ entValid e = true
      ∧ entBlock e = b ∧ s.flash.writes = [] ∧ (((s.passed (arbMaint (flashCore (d / 16)))).passUnit u e).1.place (entSlc e)).2 = some e' ∧
      s.maintTurn (d / 16) 0 = true) ∧
    (∃ (s : State) (b worst : Nat), 1000 * s.rd R.flsCfgRdScan 0 ≤ sget 0 s.flash.reads b ∧ s.rd R.flsCfgRdMargin 0 < worst ∧ s.maintTurn (b % 32) 1
      = true) ∧
    (∃ (s : State) (b worst : Nat), swf 0 s.flash.reads = true ∧ 1000 * s.rd R.flsCfgRdScan 0 ≤ sget 0 s.flash.reads b ∧ worst ≤ s.rd
      R.flsCfgRdMargin 0 ∧ s.maintTurn (b % 32) 1 = true) ∧
    (∃ (s : State) (d u e e' : Nat), d ∈ s.flash.rebuilding ∧ s.flash.map = [(u, e)] ∧ entValid e = true ∧ entChan e = d / 16 ∧ entDie e = d % 16 ∧
      s.flash.writes = [] ∧ ((s.passUnit u e).1.place (entSlc e)).2 = some e') ∧
    (∃ (s : State) (d : Nat), d ∈ s.flash.rebuilding ∧ s.flash.map = [] ∧ s.flash.writes = []) ∧
    (∃ (s : State), s.flash.lastTrain + 10 ^ 10 ≤ s.now ∧ s.moduleRun = true) ∧
    (∃ (s : State) (u : Nat), swf 0 s.flash.map = true ∧ s.flash.journal = []) := by
  refine ⟨⟨stored, 16, 3, ⟨true, none, true⟩, sector0, ?_⟩,
    ⟨stored, 15, 3, ⟨true, none, true⟩, ?_⟩,
    ⟨stored, 16, 4, ⟨true, none, true⟩, sector0, ?_⟩,
    ⟨stored, 16, 3, sector0, ?_⟩,
    ⟨withF (fun f => { f with writes := [write0] }), 15, write0, ?_⟩,
    ⟨withF (fun f => { f with writes := [write0, { write0 with core := 14 }] }), 14, write0, { write0 with core := 14 }, ?_⟩,
    ⟨withF (fun f => { f with stripes := [(0, stripe0)], openStripe := some 0 }), 0, stripe0, ?_⟩,
    ⟨moving, 80, entBlock ent0, 1, ent0, mkEntry 0 1, ?_⟩,
    ⟨State.reset, 2053, 1, ?_⟩,
    ⟨State.reset, 2053, 0, ?_⟩,
    ⟨rebuilding, 80, 1, ent0, mkEntry 0 1, ?_⟩,
    ⟨withF (fun f => { f with rebuilding := [511] }), 511, ?_⟩,
    ⟨{ regs State.reset [] with now := 10 ^ 10 }, ?_⟩,
    ⟨State.reset, 1, ?_⟩⟩ <;> decide +kernel

/-- Values that meet what `Obligations.ObjectCommandsComplete` supposes, clause by clause. -/
theorem test_objectCommandsComplete_meets :
    (∃ (s : State) (c q : Nat) (r : Req) (l : List (Nat × Nat)) (es : List PartEntry) (e : PartEntry), s.Holds (c, q) 0x28 r ∧ s.goodPlace r = true
      ∧ s.placeState r = false ∧ placesRows r = false ∧ s.placeExtents (c, q) (placeEntries r) = (.ok l, es) ∧ (∀ y ∈ es, y.tier ≠ 2) ∧ s.placeRoom
      r = true ∧ (s.takeParts (r.inl 4 1) (s.spills (r.inl 0 4)) es).map (·.2) = some [e] ∧ s.obj? (r.inl 0 4) = none) ∧
    (∃ (s : State) (c q : Nat) (r : Req), s.Holds (c, q) 0x28 r ∧ s.goodPlace r = false) ∧
    (∃ (s : State) (c q : Nat) (r : Req) (x : Obj), s.Holds (c, q) 0x29 r ∧ s.obj? (r.inl 0 4) = some x ∧ x.loading = false ∧ s.goodLoad r = true ∧
      s.loadState r = false ∧ s.loadRoom r = true ∧ loadsTable r = false ∧ loadsBeside x (r.inl 4 1) r.param = false) ∧
    (∃ (s : State) (o c q : Nat) (x : Obj) (r : Req), s.obj? o = some x ∧ x.loading = true ∧ x.loader = (c, q) ∧ x.kind = some 0 ∧ s.obj? (2 ^ 40 +
      o) = none ∧ s.Holds (c, q) 0x29 r ∧ aget s.weights (weightKey o x.epoch) = none) ∧
    (∃ (s : State) (c q : Nat) (r : Req), s.Holds (c, q) 0x20 r ∧ (∀ a ∈ s.adapters, a.loading = false) ∧ goodAdapter r.param = true ∧ r.inl 0 2 <
      1024 ∧ s.holdsWeights (s.home r.client) (slice r.param 0 32) = true ∧ s.adapterCount (s.home r.client) < 64) ∧
    (∃ (s : State) (c q : Nat) (r : Req) (a : Adapter), s.adapters = [a] ∧ a.loading = true ∧ a.loader = (c, q) ∧ s.Holds (c, q) 0x20 r) ∧
    (∃ (s : State) (c q : Nat) (r : Req) (a : Adapter), s.Holds (c, q) 0x21 r ∧ s.adapters = [a] ∧ a.part = s.home r.client ∧ a.id = r.inl 0 2 ∧
      a.loading = false ∧ a.retired = false) := by
  refine ⟨⟨placing placeReq, 1, 5, placeReq, [], [entry1], { entry1 with base := 2 ^ 26 }, ?_⟩,
    ⟨holds badPlace, 1, 5, badPlace, ?_⟩,
    ⟨loadingS, 1, 5, loadReq, obj0, ?_⟩,
    ⟨endingW, 7, 1, 5, objW, wReq, ?_⟩,
    ⟨adLoad, 1, 5, adReq, ?_⟩,
    ⟨{ holds adReq with adapters := [ad0 true] }, 1, 5, adReq, ad0 true, ?_⟩,
    ⟨{ holds retReq with adapters := [ad0 false] }, 1, 5, retReq, ad0 false, ?_⟩⟩ <;> decide +kernel

end Sys2Proof.Tests.Flash

namespace Sys2Proof.Tests.Search
open Sys2Proof Sys2Proof.Machine

/-! Searches -/
def section0 : Section :=
  { nodes := 2, sketchBase := 0x10000, adjBase := 0x20000, metaBase := 0x30000, tombBase := 0x40000, sideBase := 0x50000, logBase := 0x60000,
    vecBase := 0x70000, entries := [0], tomb := [], side := [], delLog := [], gens := [], free := [], freeHist := [], fresh := [] }
def shard0 : Shard :=
  { part := 0, object := 7, degree := 4, sections := [section0, section0, section0, section0], seq := 0, changes := [], lastPublish := 0,
    digest := [], digests := [], merge := none, vecFlash := 0, df := 64, lpddr := true, pins := [] }
def shardRegs (s : State) : State := regs s [(R.sloShardState, 0, 2), (R.sloShardShard, 0, 9), (R.sloShardEpoch, 0, 4)]
def withShard (s : State) (x : Shard) : State := shardRegs { s with shards := [(0, x)] }
def searchBlock : List Byte := leBytes 64 (3 * 2 ^ 48 + 1 * 2 ^ 64 + 2 ^ 106 + 7 * 2 ^ 128)
def searchReq : Req := req 4 [] (searchBlock ++ List.replicate 64 0)
def searching : State := withShard (holds searchReq) shard0
def lateSearch : Req := { req 4 [(8, 8, 5)] searchBlock with cancelAt := some 9 }
def lateState : State := { withShard (holds lateSearch) shard0 with now := 7 }
def walk0 : Walk :=
  { client := 1, req := 5, slot := 0, sec := 0, attempt := 0, beam := 4, order := 2, walker := none, sideEnd := 0, sideSeen := 0, side := [],
    startedAt := 0, ended := false, cand := [], expansions := 0, bursts := 0, restarted := false }
def waiting : State := { searching with walks := [walk0] }
def walked : State := { mem searching with walks := [{ walk0 with walker := some 3 }], searches := [search0] }
where search0 : Search :=
  { client := 1, req := 5, slots := [0], attempts := [(0, 0, 0)], params := searchBlock, sketch := List.replicate 64 0, epochs := [(0, 4)],
    results := [], origin := none }
def endedWalk (i : Nat) : Walk := { walk0 with sec := i, order := i, walker := none, ended := true, cand := [⟨i, i, 0, false, ⟨0, 0, 0, 0, 0⟩⟩] }
def assembled : State := { walked with walks := (List.range 4).map endedWalk }
def shardOut (o : Assembled) : List Byte := match o with
  | .result b => b
  | _ => []
def insReq : Req := req 0x18 [] (List.replicate 80 0)
def inserting : State := withShard (holds insReq) shard0
def judged (s : State) (r : Req) (x : Shard) : Shard × List Nat := match s.judgeIndex (1, 5) r 0 x with
  | .ok y => y
  | .error _ => (x, [])
def noSecs : Shard := { shard0 with sections := [] }
def delReq : Req := req 0x19 [] (leBytes 8 (handleOf 9 0 1 0))
def deleting : State := mem (withShard (holds delReq) shard0)
def change0 : IndexChange :=
  { client := 1, req := 5, del := false, sec := 1, node := 2, gen := 0, fromFree := false, info := ⟨1, 0, 0, 0, 0⟩, sketch := List.replicate 64 1 }
def changed : Shard := { shard0 with changes := [change0] }
def publishing : State := withShard State.reset changed
def mergeReq : Req := req 0x1A [(48 + 1, 1, 1)] []
def placed : Obj :=
  { part := 0, places := [⟨0, 0, 0, 4096, 0, []⟩], placer := 1, kind := none, slot := 0, loading := false, loader := (0, 0), digest := [], epoch := 0,
    image := [], tail := [] }
def mergeState (m : Option Merge) (pins : List (ReqKey × Nat)) : State :=
  { withShard (holds mergeReq) { shard0 with merge := m, pins := pins } with objs := [(7, placed)] }
def staged0 (l : List SideRec) : Staged := ⟨2, [0], [], [], l, []⟩
def staging : List Staged := staged0 [⟨1, 4, true, none, ⟨1, 0, 0, 0, 0⟩, List.replicate 64 1⟩] :: List.replicate 3 (staged0 [])
def merge0 : Merge := ⟨1, 5, 4, true, false, staging⟩
def merge1 : Merge := ⟨1, 5, 4, true, true, staging⟩

/-- Values that meet what `Obligations.SearchCommandsComplete` supposes, clause by clause. -/
theorem test_searchCommandsComplete_meets :
    (∃ (s : State) (c q i : Nat) (r : Req), s.Holds (c, q) 0x04 r ∧ r.ran = false ∧ s.boundary r = none ∧ s.searchState r.param = true ∧
      s.searchReady (c, q) (spSlots r.param) = true ∧ spSlots r.param = [i]) ∧
    (∃ (s : State) (c q st : Nat) (r : Req), s.Holds (c, q) 0x04 r ∧ r.ran = false ∧ s.boundary r = some st) ∧
    (∃ (s : State) (die n : Nat) (w : Walk), Registers.wf s.regs = true ∧ s.walks = [w] ∧ w.sec = die ∧ w.walker = none ∧ w.ended = false ∧
      (s.liveWalkers die).find? (fun n => decide (s.rd R.sloWstatSlotsBusy n + ceilDiv w.beam 256 ≤ 64)) = some n) ∧
    (∃ (s : State) (n : Nat) (w : Walk) (x : Shard) (y : Section), s.walks = [w] ∧ w.walker = some n ∧ w.ended = false ∧ s.shard? w.slot = some x ∧
      x.sections[w.sec]? = some y ∧ (s.walkRead x.part y.sideBase (w.sideEnd * sideBytes (s.shardBits w.slot))).2.stop = 0 ∧ (s.walkRead x.part
      y.sideBase (w.sideEnd * sideBytes (s.shardBits w.slot))).2.dirty = []) ∧
    (∃ (s : State) (n : Nat) (w : Walk) (p : Search) (x : Shard) (y : Section) (live : List Cand × WalkMem), s.walks = [w] ∧ w.walker = some n ∧
      s.search? (w.client, w.req) = some p ∧ s.shard? w.slot = some x ∧ x.sections[w.sec]? = some y ∧ w.sideEnd ≤ w.sideSeen ∧ s.survivors x y w.sec
      p (p.epoch w.slot) (s.runWalk x y p.sketch (s.shardBits w.slot) w.beam (spExpand p.params)) = live ∧ live.2.stop = 0 ∧ live.2.dirty = []) ∧
    (∃ (s : State) (c q slot : Nat) (r : Req) (p : Search) (bs : List Byte), s.Holds (c, q) 0x04 r ∧ s.search? (c, q) = some p ∧ s.assemble (c, q) p
      slot = .result bs ∧ p.results = [] ∧ p.slots = [slot] ∧ isDev (r.d 32 8) = false ∧ s.host.ats = []) := by
  refine ⟨⟨searching, 1, 5, 0, searchReq, ?_⟩,
    ⟨lateState, 1, 5, stDeadline, lateSearch, ?_⟩,
    ⟨waiting, 0, 0, walk0, ?_⟩,
    ⟨walked, 3, { walk0 with walker := some 3 }, shard0, section0, ?_⟩,
    ⟨walked, 3, { walk0 with walker := some 3 }, walked.search0, shard0, section0, walked.survivors shard0 section0 0 walked.search0
      (walked.search0.epoch 0) (walked.runWalk shard0 section0 walked.search0.sketch (walked.shardBits 0) 4 (spExpand searchBlock)), ?_⟩,
    ⟨assembled, 1, 5, 0, searchReq, walked.search0, shardOut (assembled.assemble (1, 5) walked.search0 0), ?_⟩⟩ <;> decide +kernel

/-- Values that meet what `Obligations.IndexCommandsComplete` supposes, clause by clause. -/
theorem test_indexCommandsComplete_meets :
    (∃ (s : State) (c q : Nat) (r : Req) (x x' : Shard) (hs : List Nat), s.Holds (c, q) 0x18 r ∧ s.host.reqs = [r] ∧ r.ran = false ∧ s.shard? (r.inl
      0 1) = some x ∧ s.judgeIndex (c, q) r (r.inl 0 1) x = .ok (x', hs) ∧ hs ≠ [] ∧ (∃ d ∈ x'.changes, d.client = c ∧ d.req = q) ∧ isDev (r.d 32 8)
      = false ∧ s.host.ats = [] ∧ (s.readUnits hubMaster (x'.gensRead (c, q))).2 = 0) ∧
    (∃ (s : State) (c q st : Nat) (r : Req) (x : Shard), s.Holds (c, q) 0x18 r ∧ r.ran = false ∧ s.shard? (r.inl 0 1) = some x ∧ s.judgeIndex (c, q)
      r (r.inl 0 1) x = .error st) ∧
    (∃ (s : State) (c q : Nat) (r : Req) (x x' : Shard), s.Holds (c, q) 0x19 r ∧ s.host.reqs = [r] ∧ r.ran = false ∧ s.shard? (r.inl 0 1) = some x ∧
      s.judgeIndex (c, q) r (r.inl 0 1) x = .ok (x', []) ∧ (∃ d ∈ x'.changes, d.client = c ∧ d.req = q) ∧ (s.readUnits hubMaster (x.changeReads
      r)).2 = 0 ∧ x'.gensRead (c, q) = []) ∧
    (∃ (s : State) (slot : Nat) (x : Shard), Registers.wf s.regs = true ∧ slot < 2 ∧ s.shard? slot = some x ∧ x.changes ≠ [] ∧ s.host.reqs = [] ∧
      s.rd R.sloShardState slot = 2 ∧ x.lastPublish = 0) ∧
    (∃ (s : State) (slot : Nat) (x : Shard) (y : Section) (d : IndexChange), slot < 2 ∧ s.shard? slot = some x ∧ x.changes = [d] ∧ d.del = false ∧
      x.sections[d.sec]? = some y ∧ s.host.reqs = [] ∧ s.rd R.sloShardState slot = 2 ∧ x.lastPublish = 0) := by
  refine ⟨⟨inserting, 1, 5, insReq, shard0, (judged inserting insReq shard0).1, (judged inserting insReq shard0).2, ?_⟩,
    ⟨withShard (holds insReq) noSecs, 1, 5, stState, insReq, noSecs, ?_⟩,
    ⟨deleting, 1, 5, delReq, shard0, (judged deleting delReq shard0).1, ?_⟩,
    ⟨publishing, 0, changed, ?_⟩,
    ⟨publishing, 0, changed, section0, change0, ?_⟩⟩ <;> decide +kernel

/-- Values that meet what `Obligations.MergeCommandsComplete` supposes, clause by clause. -/
theorem test_mergeCommandsComplete_meets :
    (∃ (s : State) (c q : Nat) (r : Req) (x : Shard), s.Holds (c, q) 0x1A r ∧ r.ran = false ∧ s.shard? (r.inl 0 1) = some x ∧ x.merge = none ∧ s.rd
      R.sloShardState (r.inl 0 1) = 2 ∧ (∀ y ∈ x.sections, s.sectionRoom x (s.shardBits (r.inl 0 1)) y (y.nodesAfter (s.rd R.sloShardEpoch (r.inl 0
      1))) = true)) ∧
    (∃ (s : State) (slot : Nat) (x : Shard) (m : Merge), s.shard? slot = some x ∧ x.merge = some m) ∧
    (∃ (s : State) (slot : Nat) (r : Req) (x : Shard) (m : Merge), Registers.wf s.regs = true ∧ slot < 2 ∧ s.shard? slot = some x ∧ x.merge = some m
      ∧ m.built = true ∧ x.pins = [] ∧ m.staged.length = x.sections.length ∧ s.Holds (m.client, m.req) 0x1A r) ∧
    (∃ (s : State) (slot : Nat) (x : Shard) (m : Merge), Registers.wf s.regs = true ∧ s.shard? slot = some x ∧ x.merge = some m ∧ m.built = true ∧
      x.pins ≠ [] ∧ s.live (m.client, m.req) = true) ∧
    (∃ (s : State) (slot : Nat) (x : Shard), s.shard? slot = some x ∧ x.pins = [] ∧ x.merge = none) := by
  refine ⟨⟨mergeState none [], 1, 5, mergeReq, shard0, ?_⟩,
    ⟨mergeState (some merge0) [], 0, { shard0 with merge := some merge0 }, merge0, ?_⟩,
    ⟨mergeState (some merge1) [], 0, mergeReq, { shard0 with merge := some merge1 }, merge1, ?_⟩,
    ⟨mergeState (some merge1) [((1, 6), 4)], 0, { shard0 with merge := some merge1, pins := [((1, 6), 4)] }, merge1, ?_⟩,
    ⟨mergeState none [], 0, shard0, ?_⟩⟩ <;> decide +kernel

end Sys2Proof.Tests.Search

namespace Sys2Proof.Tests.Tables
open Sys2Proof Sys2Proof.Machine

/-! Tables -/
def table0 : Table :=
  { object := 7, part := 0, bits := 8, frac := 0, rows := 4, d := 2, slice := 0, slices := 1, dflt := 0xFFFFFFFF, stride := 16, updatable := true,
    tiered := false, cur := 0, home := 0, codeA := 0x1000, codeB := 0x2000, acc := 0x3000, mapBase := 0, residBase := 0, deltaBase := 0, residCap := 0,
    map := [], resid := [], residPoison := [], delta := [], updates := [], digest := [], digests := [(3, [])], commit := none, pins := [], flipped := [], freedEpochs := [], replacing := false, missedTf := false,
    hotCap := 0, oldSlots := [] }
def obj0 : Obj :=
  { part := 0, places := [⟨0, 0, 0, 4096, 0, []⟩], placer := 1, kind := some 1, slot := 0, loading := false, loader := (0, 0), digest := [], epoch := 0,
    image := [], tail := [] }
def tabs (s : State) (t : Table) : State := { s with tables := [(0, t)], objs := [(7, obj0)] }
/-- A lookup of one bag of one row; the offsets 0, 1 at device address 0x100. -/
def lkReq : Req := req 0x10 [] (bytes 64 [(8, 8, 2 ^ 63 + 0x100), (16, 8, 2 ^ 63 + 0x200)])
def pinned0 : Table := { table0 with pins := [((1, 5), 3)] }
def units (s : State) : State := regs s ((List.range 32).map fun u => (R.cfgEngpEnt, u / 8, 2 ^ 7))
def lkMem (s : State) : State := s.writeDev 0x100 (leBytes 4 0 ++ leBytes 4 1)
/-- Gather unit 8 × die of every die is assigned to partition 0. -/
def looking : State := lkMem (regs (mem (tabs (holds lkReq) pinned0)) [(R.cfgClientEn, 1, 1), (R.cfgEngpEnt, 2, 0x80), (R.cfgEngpEnt, 3, 0x80),
  (R.cfgEngpEnt, 4, 0x80), (R.cfgEngpEnt, 5, 0x80)])
def lkBufs : List (Nat × Nat) := [(2 ^ 63 + 0x100, 8), (2 ^ 63 + 0x200, 4)]
def lookup0 : Lookup := { client := 1, req := 5, table := 0, epoch := 3, bags := 1, invalid := [0], out := [], errors := [], remoteSlices := [] }
def bag0 : BagWork :=
  { client := 1, req := 5, table := 0, part := 0, epoch := 3, bag := 0, die := 0, items := [(1, 0x3F80)], zeroWeights := [], unit := some 2,
    startedAt := 0, done := false, sums := [], poison := [], bursts := 0, fault := false }
def gathering : State := { mem (tabs (holds lkReq) pinned0) with bags := [bag0], lookups := [lookup0] }
def doneBag (d : Nat) : BagWork := { bag0 with die := d, items := [], unit := none, done := true, sums := [Machine.Num.zero, Machine.Num.zero], poison := [false, false] }
def merging : State := { gathering with bags := (List.range 4).map doneBag }
def commit0 : TabCommit := { client := 1, req := 5, staged := false, clipped := 0, residuals := [], rowsDigest := [], acks := [], tf := none, remote := false }
def updReq : Req := req 0x11 [] (leBytes 4 1 ++ leBytes 4 1 ++ leBytes 4 7)
def commit6 : Table := { table0 with commit := some { commit0 with req := 6 } }
def updating : State := mem (tabs (holds updReq) commit6)
def comReq : Req := req 0x12 [] []
def committing (t : Table) : State := mem (tabs (holds comReq) t)
def begun : Table := { table0 with commit := some commit0 }
def staged (tf : Option Nat) : Table := { table0 with commit := some { commit0 with staged := true, tf := tf } }
def requant : Requant :=
  (List.range 4).foldl (fun x r => x.row (1, 5) begun obj0 r) ⟨((committing begun).hostRowsReady (1, 5) begun obj0).1, 0, [], [], 0⟩
def splitTab : Table := { table0 with slices := 2, home := 8, commit := some { commit0 with staged := true, acks := [9] } }
def ackMsg : FabMsg :=
  { dst := 0, src := 9, master := 0x7E0, act := 1, vc := 1, hops := 4, seq := 0, stream := 0, kind := 4, request := 5,
    payload := workHead 1 3 3 1 :: workWords [0], poison := [] }
def acked : State := regs { tabs (holds comReq) splitTab with fab := { State.reset.fab with inbox := [(1, ackMsg)] } } [(R.optRouteC0, 9, 0x12), (R.optPstatState, 2, opUp)]
def tfMsg : FabMsg := { ackMsg with payload := workHead 1 3 4 1 :: workWords (0 :: leBytes 8 100) }
def oldDigest : Table := { table0 with digests := [(2, []), (3, [])], flipped := [(2, 0)] }
def movingTab : Table := { table0 with updatable := false, tiered := true, hotCap := 8, map := [(1, ⟨0, 2, true, 1, 0⟩)] }
def moved : State := mem (tabs State.reset movingTab)
def rowIn : RowRead := (moved.rowRead obj0.placer (migNeed 0 1) movingTab obj0 movingTab.cur 1 (movingTab.rowMap 1).tier (movingTab.rowMap 1).slot hubMaster).2

/-- Values that meet what `Obligations.TableCommandsComplete` supposes, clause by clause. -/
theorem test_tableCommandsComplete_meets :
    (∃ (s : State) (c q v e : Nat) (r : Req) (t : Table) (b : List Byte) (bl : List (List Byte)), s.Holds (c, q) 0x10 r ∧ r.ran = false ∧ s.boundary
      r = none ∧ s.pinnedTable (r.inl 0 1) (c, q) = some (v, t, e) ∧ t.missedTf = false ∧ t.slices ≤ 1 ∧ s.readAddr (.request c q) c (r.p 8 8) (4 *
      (lkBags r + 1)) = .data b false ∧ goodOffsets (words4 b) = true ∧ lkWeighted r = false ∧ (s.gather (c, q) [(r.p 8 8, 4 * (lkBags r + 1)), (r.p
      16 8 + 4 * (words4 b).headD 0, 4 * ((words4 b).getLastD 0 - (words4 b).headD 0))]).2 = some bl ∧ s.bags = [] ∧ (∀ d, d < 4 → s.unitsFor d
      t.part ≠ []) ∧ t.others = []) ∧
    (∃ (s : State) (u v e : Nat) (b : BagWork) (l : Lookup) (t : Table) (o : Obj), s.bags = [b] ∧ b.unit = some u ∧ b.done = false ∧ s.lookups = [l]
      ∧ l.client = b.client ∧ l.req = b.req ∧ s.pinnedTable b.table (b.client, b.req) = some (v, t, e) ∧ s.obj? (if v = b.table then t.object else
      v) = some o ∧ (s.runBag b t o (t.copyOf e) u).2.stop = 0) ∧
    (∃ (s : State) (c q v e : Nat) (r : Req) (l : Lookup) (t : Table), s.Holds (c, q) 0x10 r ∧ s.lookups = [l] ∧ l.client = c ∧ l.req = q ∧
      s.pinnedTable l.table (c, q) = some (v, t, e) ∧ s.bags.length = 4 ∧ (∀ b ∈ s.bags, b.client = c ∧ b.req = q ∧ b.bag = 0 ∧ b.done = true) ∧
      t.slices ≤ 1 ∧ l.bags = 1 ∧ l.out = [] ∧ l.errors = [] ∧ (readBag (lkFmt r) (lkSat r) s.bags t.d).poison = false ∧ (readBag (lkFmt r) (lkSat
      r) s.bags t.d).fault = false ∧ s.originOf (c, q) = none ∧ isDev (r.d 32 8) = false ∧ isDev (r.d 32 8 + 16) = false ∧ s.host.ats = []) ∧
    (∃ (s : State) (c q row : Nat) (r : Req) (t : Table) (x : TabCommit) (ds : List Int), s.Holds (c, q) 0x11 r ∧ r.ran = false ∧ s.host.reqs = [r]
      ∧ s.tables = [(r.inl 0 1, t)] ∧ t.commit = some x ∧ (x.client, x.req) ≠ (c, q) ∧ goodUpdate t r = true ∧ s.updateState (r.inl 0 1) = false ∧
      rowDeltas t t.slice (decide (r.inl 1 1 = 1)) (updEntries r.param) = [(row, ds)] ∧ s.updateStop t [row] = none ∧ t.slices ≤ 1) ∧
    (∃ (s : State) (c q : Nat) (r : Req) (t : Table), Registers.wf s.regs = true ∧ s.Holds (c, q) 0x12 r ∧ s.host.reqs = [r] ∧ s.table? (r.inl 0 1)
      = some t ∧ t.commit = none ∧ s.updateState (r.inl 0 1) = false ∧ t.slices ≤ 1) ∧
    (∃ (s : State) (slot : Nat) (t : Table) (c : TabCommit) (o : Obj) (x : Requant), s.table? slot = some t ∧ t.commit = some c ∧ s.obj? t.object =
      some o ∧ c.staged = false ∧ c.remote = false ∧ t.moving = 0 ∧ t.spareBusy = false ∧ t.slices ≤ 1 ∧ (s.hostRowsReady (c.client, c.req) t o).2 =
      true ∧ (List.range t.rows).foldl (fun x r => x.row (c.client, c.req) t o r) ⟨(s.hostRowsReady (c.client, c.req) t o).1, 0, [], [], 0⟩ = x ∧
      x.stop = 0 ∧ (t.tiered = true → ({ t with resid := x.resid }.residRows).length ≤ t.residCap)) ∧
    (∃ (s : State) (slot : Nat) (t : Table) (c : TabCommit) (r : Req), Registers.wf s.regs = true ∧ slot < 256 ∧ s.table? slot = some t ∧ t.commit =
      some c ∧ c.staged = true ∧ t.slices ≤ 1 ∧ s.Holds (c.client, c.req) 0x12 r) ∧
    (∃ (s : State) (slot u : Nat) (t : Table) (c : TabCommit) (r : Req), s.table? slot = some t ∧ t.commit = some c ∧ c.staged = true ∧ c.tf = some
      u ∧ u ≤ s.now ∧ s.Holds (c.client, c.req) 0x12 r) ∧
    (∃ (s : State) (slot h i : Nat) (t : Table) (c : TabCommit) (m : FabMsg), s.table? slot = some t ∧ t.commit = some c ∧ c.remote = false ∧ 1 <
      t.slices ∧ c.staged = true ∧ c.acks = [h] ∧ c.tf = none ∧ t.others.any s.unreachable = false ∧ s.fab.inbox = [(i, m)] ∧ m.src = h ∧ m.kind = 4
      ∧ workKind m = 3 ∧ workAsk m = 3 ∧ fieldLe (workBytes (m.payload.drop 1)) 0 1 = slot) ∧
    (∃ (s : State) (m : FabMsg) (t : Table) (c : TabCommit), s.fab.inbox = [] ∧ m.kind = 4 ∧ workKind m = 3 ∧ workAsk m = 4 ∧ bitsOf (fabWord m 0)
      95 64 ≤ 1 ∧ s.fab.work = [] ∧ s.table? (fieldLe (workBytes (m.payload.drop 1)) 0 1) = some t ∧ t.commit = some c ∧ s.now ≤ fieldLe (workBytes
      (m.payload.drop 1)) 1 8) ∧
    (∃ (s : State) (slot e : Nat) (t : Table), s.tables = [(slot, t)] ∧ e ≠ t.epoch ∧ (∀ p ∈ t.pins, p.2 ≠ e) ∧ t.slices ≤ 1 ∧ (∃ d ∈ t.digests, d.1
      = e)) ∧
    (∃ (s : State) (slot e f : Nat) (t : Table), s.tables = [(slot, t)] ∧ e ≠ t.epoch ∧ (∀ p ∈ t.pins, p.2 ≠ e) ∧ aget t.flipped e = some f ∧ f +
      1000000 * s.rd R.tblCtlKeepMs 0 ≤ s.now ∧ (∃ d ∈ t.digests, d.1 = e)) ∧
    (∃ (s : State) (slot row : Nat) (t : Table) (o : Obj) (x : RowRead), Registers.wf s.regs = true ∧ slot < 256 ∧ s.table? slot = some t ∧ s.obj?
      t.object = some o ∧ (t.rowMap row).moving = true ∧ t.updatable = false ∧ t.delta = [] ∧ t.pins = [] ∧ t.slices ≤ 1 ∧ s.host.ats = [] ∧
      (s.rowRead o.placer (migNeed slot row) t o t.cur row (t.rowMap row).tier (t.rowMap row).slot hubMaster).2 = x ∧ x.stop = 0 ∧ ((t.rowMap
      row).newTier = 0 → s.ownsRange t.part (t.copyAddr t.cur row (t.rowMap row).newSlot) (padTo t.stride x.bytes).length = true)) := by
  refine ⟨⟨looking, 1, 5, 0, 3, lkReq, pinned0, leBytes 4 0 ++ leBytes 4 1, [leBytes 4 0 ++ leBytes 4 1, leBytes 4 0], ?_⟩,
    ⟨gathering, 2, 0, 3, bag0, lookup0, pinned0, obj0, ?_⟩,
    ⟨merging, 1, 5, 0, 3, lkReq, lookup0, pinned0, ?_⟩,
    ⟨updating, 1, 5, 1, updReq, commit6, { commit0 with req := 6 }, [0, 7], ?_⟩,
    ⟨committing table0, 1, 5, comReq, table0, ?_⟩,
    ⟨committing begun, 0, begun, commit0, obj0, requant, ?_, ?_, ?_, ?_, ?_, ?_, ?_, ?_, ?_, rfl, ?_⟩,
    ⟨committing (staged none), 0, staged none, { commit0 with staged := true }, comReq, ?_⟩,
    ⟨{ committing (staged (some 9)) with now := 9 }, 0, 9, staged (some 9), { commit0 with staged := true, tf := some 9 }, comReq, ?_⟩,
    ⟨acked, 0, 9, 1, splitTab, { commit0 with staged := true, acks := [9] }, ackMsg, ?_⟩,
    ⟨committing begun, tfMsg, begun, commit0, ?_⟩,
    ⟨tabs State.reset oldDigest, 0, 2, oldDigest, ?_⟩,
    ⟨{ tabs State.reset oldDigest with now := 0 }, 0, 2, 0, oldDigest, ?_⟩,
    ⟨moved, 0, 1, movingTab, obj0, rowIn, ?_⟩⟩ <;> decide +kernel

end Sys2Proof.Tests.Tables

namespace Sys2Proof.Tests.Textpack
open Sys2Proof Sys2Proof.Machine

/-! Text and packing -/
def vocab0 : Vocab :=
  { object := 7, part := 0, pieceMax := 16, v := 300, byteBase := 0, ranges := [(0, 0)], split := 0, merges := [(97, 98, 256)],
    strings := (List.range 256).map fun i => ([BitVec.ofNat 8 i], false), digest := [] }
def tokReq : Req := req 1 [(48 + 1, 1, 3)] [97#8, 98#8, 99#8]
def detReq : Req := req 2 [(48 + 1, 1, 3), (48 + 2, 1, 1)] (leBytes 4 97 ++ leBytes 4 98)
def voc (r : Req) : State := { holds r with vocabs := [(0, vocab0)] }
def task0 : Task :=
  { kind := .zest, part := 0, client := 1, req := 5, order := 0, stream := some 67, input := [], engine := none, startedAt := 0 }
def eng (s : State) : State := regs s [(R.cfgEngpEnt, 0, 0x80), (R.cfgEngpEnt, 1, 0x80)]
def dispatching : State := eng { voc tokReq with tasks := [task0] }
def running : Task := { task0 with engine := some 0 }
def tokenizing (r : Req) : State := eng { voc r with tasks := [running] }
/-- A pack of no prefix and one question token, with an empty rank list of one slot at device address 0x100 and its address at 0x200. -/
def packReq : Req := req 8 []
  (bytes 576 [(0, 4, 16), (24, 4, 1), (16, 8, 2 ^ 63 + 0x300), (32, 8, 2 ^ 63 + 0x300), (40, 8, 2 ^ 63 + 0x100), (48, 8, 2 ^ 63 + 0x200)])
def packing : State :=
  (regs (mem (holds packReq)) [(R.cfgClientEn, 1, 1), (R.cfgEngpEnt, 1, 0x80)]).writeDev 0x100 (listBytes 4 1 0 0 0 0 [Entry.empty 4])
def packPart (l : List (Nat × Nat)) : List (List Byte) := (packing.peek (1, 5) l (engineSite .punnet 0, engineMaster .punnet 0)).2.getD []
def packHead : List (Nat × Nat) := [(2 ^ 63 + 0x100, 32)]
def packBufs : List (Nat × Nat) := [(2 ^ 63 + 0x300, 0), (2 ^ 63 + 0x300, 4), (2 ^ 63 + 0x100, 48), (2 ^ 63 + 0x200, 8)]
def packAll : List (List Byte) :=
  (packing.gather (1, 5) (packBufs ++ [(0, 0)]) (engineSite .punnet 0, engineMaster .punnet 0)).2.getD []
def smallPack : Req := req 8 [] (bytes 576 [(0, 4, 1), (12, 4, 1), (24, 4, 1)])
def packTask : Task :=
  { task0 with kind := .punnet, stream := none, engine := some 0, input := packInputs [] (leBytes 4 9) (listBytes 4 1 0 0 0 0 [Entry.empty 4]) [[]] }
def packed : State := eng { holds packReq with tasks := [packTask] }
def match0 : MMatch :=
  { client := 1, req := 5, tree := 2, engine := some 1, startedAt := 0, order := 0, key := 0, tokens := [], block := 0, matched := [],
    ended := false, forGen := true }
/-- The key of an empty block after key 0, as SHAKE256 gives it. -/
def key0 : Nat := 53782691851318962086147472617527996629
def node0 : MNode := { key := key0, block := 4, depth := 0, parent := 0xFFFFFFFF, ref := 0, used := false, tier := 0, state := 1 }
def matching (l : Sparse MNode) : State := regs { State.reset with probes := [match0], trees := [(2, ⟨l, 0, []⟩)] } [(R.mdlTreeLog2, 2, 4), (R.mdlTreeNodes, 2, 1)]

/-- Values that meet what `Obligations.TextCommandsComplete` supposes, clause by clause. -/
theorem test_textCommandsComplete_meets :
    (∃ (s : State) (c q : Nat) (r : Req) (v : Vocab), s.Holds (c, q) 0x01 r ∧ r.ran = false ∧ aget s.vocabs (r.inl 0 1) = some v) ∧
    (∃ (s : State) (c q : Nat) (r : Req) (v : Vocab), s.Holds (c, q) 0x02 r ∧ r.ran = false ∧ aget s.vocabs (r.inl 0 1) = some v) ∧
    (∃ (s : State) (c q e z : Nat) (r : Req) (k : Task) (v : Vocab), s.tasks = [k] ∧ k.kind = .zest ∧ k.engine = some e ∧ k.stream = some z ∧
      (k.client, k.req) = (c, q) ∧ s.Holds (c, q) 0x01 r ∧ aget s.vocabs (r.inl 0 1) = some v ∧ isDev (r.d 32 8) = false ∧ s.host.ats = [] ∧
      (tokenize v ((aget s.streams z).getD (ZStream.fresh (r.inl 0 1) false)) r.param (!bitOf (r.inl 2 1) 0)).out ≠ []) ∧
    (∃ (s : State) (c q e z : Nat) (r : Req) (k : Task) (v : Vocab), s.tasks = [k] ∧ k.kind = .zest ∧ k.engine = some e ∧ k.stream = some z ∧
      (k.client, k.req) = (c, q) ∧ s.Holds (c, q) 0x02 r ∧ aget s.vocabs (r.inl 0 1) = some v ∧ isDev (r.d 32 8) = false ∧ s.host.ats = [] ∧ (∀ g ∈
      s.gens, (g.client, g.req) ≠ (c, q))) := by
  refine ⟨⟨voc tokReq, 1, 5, tokReq, vocab0, ?_⟩,
    ⟨voc detReq, 1, 5, detReq, vocab0, ?_⟩,
    ⟨tokenizing tokReq, 1, 5, 0, 67, tokReq, running, vocab0, ?_⟩,
    ⟨tokenizing detReq, 1, 5, 0, 67, detReq, running, vocab0, ?_⟩⟩ <;> decide +kernel

/-- Values that meet what `Obligations.PackCommandsComplete` supposes, clause by clause. -/
theorem test_packCommandsComplete_meets :
    (∃ (s : State) (c q : Nat) (r : Req) (h ins heads all : List (List Byte)) (e : Nat) (es : List Nat), s.Holds (c, q) 0x08 r ∧ r.ran = false ∧
      s.boundary r = none ∧ s.engines .punnet r.part = e :: es ∧ fieldLe r.packBlock 12 4 + fieldLe r.packBlock 24 4 + (pkClose r.packBlock).length
      ≤ pkBudget r.packBlock ∧ (s.peek (c, q) [(fieldLe r.packBlock 40 8, 32)] (engineSite .punnet e, engineMaster .punnet e)).2 = some h ∧ 1 ≤
      listK (h.getD 0 []) ∧ listK (h.getD 0 []) ≤ 4096 ∧ (s.peek (c, q) [(fieldLe r.packBlock 16 8, 4 * fieldLe r.packBlock 12 4), (fieldLe
      r.packBlock 32 8, 4 * fieldLe r.packBlock 24 4), (fieldLe r.packBlock 40 8, listSize (listK (h.getD 0 []))), (fieldLe r.packBlock 48 8, 8 *
      listK (h.getD 0 []))] (engineSite .punnet e, engineMaster .punnet e)).2 = some ins ∧ (s.peek (c, q) ((recordAddrs (ins.getD 2 []) (ins.getD 3
      [])).map fun a => match a with | some x => (x, 32) | none => (0, 0)) (engineSite .punnet e, engineMaster .punnet e)).2 = some heads ∧ (∀ x ∈
      heads, fieldLe x 20 4 ≤ 65536) ∧ (s.gather (c, q) ([(fieldLe r.packBlock 16 8, 4 * fieldLe r.packBlock 12 4), (fieldLe r.packBlock 32 8, 4 *
      fieldLe r.packBlock 24 4), (fieldLe r.packBlock 40 8, listSize (listK (h.getD 0 []))), (fieldLe r.packBlock 48 8, 8 * listK (h.getD 0 []))] ++
      ((recordAddrs (ins.getD 2 []) (ins.getD 3 [])).zip heads).map fun y =>
      match y.1 with | some x => (x, 32 + 4 * fieldLe y.2 20 4) | none => (0, 0)) (engineSite .punnet e, engineMaster .punnet e)).2 = some all) ∧
    (∃ (s : State) (c q : Nat) (r : Req), s.Holds (c, q) 0x08 r ∧ r.ran = false ∧ s.boundary r = none ∧ pkBudget r.packBlock < fieldLe r.packBlock
      12 4 + fieldLe r.packBlock 24 4 + (pkClose r.packBlock).length) ∧
    (∃ (s : State) (c q e : Nat) (r : Req) (k : Task), s.tasks = [k] ∧ k.kind = .punnet ∧ k.engine = some e ∧ (k.client, k.req) = (c, q) ∧ s.Holds
      (c, q) 0x08 r ∧ pkTreeEn r.packBlock = false ∧ r.d 32 8 < 2 ^ 62 ∧ r.d 40 8 < 2 ^ 62 ∧ s.host.ats = [] ∧ (k.pack r).tokens ≠ [] ∧ (∀ m ∈
      s.probes, (m.client, m.req) ≠ (c, q))) := by
  refine ⟨⟨packing, 1, 5, packReq, packPart packHead, packPart packBufs, packPart [(0, 0)], packAll, 0, [], ?_⟩,
    ⟨holds smallPack, 1, 5, smallPack, ?_⟩,
    ⟨packed, 1, 5, 0, packReq, packTask, ?_⟩⟩ <;> decide +kernel

/-- Values that meet what `Obligations.EngineCommandsComplete` supposes, clause by clause. -/
theorem test_engineCommandsComplete_meets :
    (∃ (s : State) (kind : EngKind) (p e : Nat) (k : Task) (r : Req), kind ≠ .medlar ∧ s.waitingTasks kind p = [k] ∧ (s.engines kind p).find? (fun i
      => !s.engineBusy kind i) = some e ∧ s.req? (k.client, k.req) = some r ∧ (r.started = true ∨ s.boundary r = none)) ∧
    (∃ (s : State) (e i : Nat) (m : MMatch), swf MNode.empty (s.tree m.tree).slots = true ∧ s.probes = [m] ∧ m.engine = some e ∧ m.ended = false ∧
      (s.probe m.tree (blockKey m.key (blockTokens m.tokens m.block))).hit = some i) ∧
    (∃ (s : State) (e : Nat) (m : MMatch), s.probes = [m] ∧ m.engine = some e ∧ m.ended = false ∧ (s.probe m.tree (blockKey m.key (blockTokens
      m.tokens m.block))).hit = none ∧ (s.probe m.tree (blockKey m.key (blockTokens m.tokens m.block))).dead = none) := by
  refine ⟨⟨dispatching, .zest, 0, 0, task0, tokReq, ?_⟩,
    ⟨matching [(key0 % 16, node0)], 1, key0 % 16, match0, ?_⟩,
    ⟨matching [], 1, match0, ?_⟩⟩ <;> decide +kernel

end Sys2Proof.Tests.Textpack

namespace Sys2Proof.Tests.Passes
open Sys2Proof Sys2Proof.Machine

/-! Ranking and passes -/
def denseReq : Req := req 7 [] (bytes 48 [(2, 1, 0), (8, 4, 2), (16, 2, 1), (24, 8, 2 ^ 63 + 0x100)])
def withMem (r : Req) : State := regs (mem (holds r)) [(R.cfgClientEn, 1, 1)]
def ranking : State := (withMem denseReq).writeDev 0x100 (leBytes 4 0x40000000 ++ leBytes 4 0x3F800000)
def listReq : Req := req 7 [] (bytes 48 [(0, 1, 1), (1, 1, 4), (8, 4, 1), (16, 2, 1), (24, 8, 2 ^ 63 + 0x100)])
def merging' : State := (withMem listReq).writeDev 0x100 (listBytes 4 1 0 0 0 0 [Entry.empty 4])
def exactReq (es : List Entry) : Req := req 5 [(48, 2, 1), (50, 2, 4)] (List.replicate 4 1#8 ++ listBytes 4 1 0 0 0 0 es)
def entry0 : Entry := ⟨handleOf 9 0 1 0, 0, 0, false, true, 0x3F800000⟩
def section1 : Section :=
  { nodes := 2, sketchBase := 0x10000, adjBase := 0x20000, metaBase := 0x30000, tombBase := 0x40000, sideBase := 0x50000, logBase := 0x60000,
    vecBase := 0x70000, entries := [0], tomb := [], side := [], delLog := [], gens := [], free := [], freeHist := [], fresh := [] }
def shard1 : Shard :=
  { part := 0, object := 7, degree := 4, sections := [section1, section1, section1, section1], seq := 0, changes := [], lastPublish := 0,
    digest := [], digests := [], merge := none, vecFlash := 0, df := 4, lpddr := true, pins := [((1, 5), 4)] }
def reranking : State :=
  regs { withMem (exactReq [entry0]) with shards := [(0, shard1)] } [(R.sloShardState, 0, 2), (R.sloShardShard, 0, 9), (R.sloShardEpoch, 0, 4)]
def rerun : List Byte × Rerank :=
  ((reranking.updReq (1, 5) fun r => { r with ran := true, started := true, shardRefs := reranking.shardRefs (1, 5) [0], outMask := [(20, 4)] }).rerankExact
    (1, 5) ((exactReq [entry0]).param.take 4) 4 1 5 (listEntries (reList (exactReq [entry0])))).2
def weights0 : WeightSet :=
  { part := 0, object := 7, digest := [], contextMax := 64, vocab := 8, dims := 2, sketch := 8, linMacs := 1, attMacs := 1, headMacs := 1, weightBytes := 1,
    stateBytes := 1, cacheCap := 0, cache := [], cacheBase := 0, cacheSlot := 0, cold := [], schedule := [], current := true }
def wkey : Nat := 7 * 2 ^ 32
def embReq : Req := { req 3 [(48, 4, 7)] (leBytes 4 1 ++ leBytes 4 2) with models := [wkey] }
def withWeights (s : State) : State := { s with weights := [(wkey, weights0)] }
def crossReq : Req :=
  { req 6 [(48, 4, 7), (52, 2, 8), (54, 2, 8)] (bytes 32 [(0, 8, 2 ^ 63 + 0x100), (8, 4, 1), (16, 8, 2 ^ 63 + 0x200)] ++ listBytes 4 1 0 0 0 0 [Entry.empty 4])
    with models := [wkey] }
def crossState : State := withWeights (withMem crossReq)
def crossBufs : List (Nat × Nat) := [(2 ^ 63 + 0x100, 4), (2 ^ 63 + 0x200, 8)]
def crossIns : List (List Byte) := (crossState.peek (1, 5) crossBufs).2.getD []
def crossAll : List (List Byte) := (crossState.gather (1, 5) (crossBufs ++ [(0, 0)])).2.getD []
def row0 : PassRow := ⟨1, 5, 2, 0, 0, wkey, [(0, [1, 2])]⟩
def forming : State := regs { holds embReq with parts := [(0, { Part.init with queue := [row0] })] } [(R.cfgPstatState, 0, psRun)]

/-- Values that meet what `Obligations.RankingCommandsComplete` supposes, clause by clause. -/
theorem test_rankingCommandsComplete_meets :
    (∃ (s : State) (c q : Nat) (r : Req) (bs : List (List Byte)), s.Holds (c, q) 0x07 r ∧ r.ran = false ∧ s.boundary r = none ∧ r.p 0 1 = 0 ∧
      (s.gather (c, q) ((List.range (tkRows r)).map (tkRow r))).2 = some bs ∧ isDev (r.d 32 8) = false ∧ s.host.ats = []) ∧
    (∃ (s : State) (c q : Nat) (r : Req) (ls : List (List Byte)), s.Holds (c, q) 0x07 r ∧ r.ran = false ∧ s.boundary r = none ∧ r.p 0 1 ≠ 0 ∧
      (State.readLists (tkRows r * r.p 8 4) s (c, q) (r.p 24 8) []).2 = some ls ∧ isDev (r.d 32 8) = false ∧ s.host.ats = [] ∧ 1 ≤ r.p 8 4) ∧
    (∃ (s : State) (c q : Nat) (r : Req), s.Holds (c, q) 0x05 r ∧ r.ran = false ∧ s.boundary r = none ∧ s.listSlots (reList r) = [] ∧ isDev (r.d 32
      8) = false ∧ s.host.ats = []) ∧
    (∃ (s : State) (c q i : Nat) (r : Req) (x : Shard) (m : Rerank) (bs : List Byte), s.Holds (c, q) 0x05 r ∧ s.host.reqs = [r] ∧ r.ran = false ∧
      s.boundary r = none ∧ s.listSlots (reList r) = [i] ∧ s.shard? i = some x ∧ x.df = r.inl 2 2 ∧ (∃ p ∈ x.pins, p.1 = (c, q)) ∧ ((s.updReq (c, q)
      fun r => { r with ran := true, started := true, shardRefs := s.shardRefs (c, q) [i], outMask := [(20, 4)] }).rerankExact (c, q) (r.param.take
      (r.inl 2 2)) (fieldLe (reList r) 6 1) (r.inl 0 2) q (listEntries (reList r))).2 = (bs, m) ∧ m.stop = 0 ∧ isDev (r.d 32 8) = false ∧ s.host.ats
      = []) ∧
    (∃ (s : State) (c q n : Nat) (r : Req) (w : WeightSet), s.Holds (c, q) 0x03 r ∧ r.ran = false ∧ s.boundary r = none ∧ s.pinnedModel r (r.inl 0
      4) = some (n, w) ∧ (words4 r.param).length ≤ s.passRows w.part) ∧
    (∃ (s : State) (c q n : Nat) (r : Req) (w : WeightSet) (ins heads all : List (List Byte)) (addrs : List (Option Nat)), s.Holds (c, q) 0x06 r ∧
      r.ran = false ∧ s.boundary r = none ∧ s.pinnedModel r (r.inl 0 4) = some (n, w) ∧ (s.peek (c, q) [(r.p 0 8, 4 * r.p 8 4), (r.p 16 8, 8 * listK
      (r.param.drop 32))]).2 = some ins ∧ addrs = ((List.range (listK (r.param.drop 32))).map fun i => if ((listEntries (r.param.drop 32))[i]?).any
      (Entry.ok (fieldLe (r.param.drop 32) 6 1)) then some (fieldLe (ins.getD 1 []) (8 * i) 8) else none) ∧ (s.peek (c, q) (addrs.map fun a =>
      match a with | some x => (x, 32) | none => (0, 0))).2 = some heads ∧ (∀ x ∈ heads, fieldLe x 20 4 ≤ 65536) ∧ (s.gather (c, q) ([(r.p 0 8, 4 *
      r.p 8 4), (r.p 16 8, 8 * listK (r.param.drop 32))] ++ (addrs.zip heads).map fun e =>
      match e.1 with | some x => (x + 32, 4 * Nat.min (fieldLe e.2 20 4) (r.inl 6 2)) | none => (0, 0))).2 = some all ∧ pairRows (pairsOf (fieldLe
      (r.param.drop 32) 6 1) (listEntries (r.param.drop 32)) (words4 (all.getD 0 [])) (fun i => words4 (all.getD (2 + i) [])) (r.inl 4 2) (r.inl 6
      2)) ≤ s.passRows w.part) ∧
    (∃ (s : State) (p : Nat) (x : PassRow) (r : Req), s.running p = true ∧ (s.part p).generation = false ∧ (s.part p).running = none ∧ (s.part
      p).next = none ∧ (s.part p).queue = [x] ∧ s.Holds (x.client, x.req) r.opcode r ∧ s.boundary r = none) := by
  refine ⟨⟨ranking, 1, 5, denseReq, [leBytes 4 0x40000000 ++ leBytes 4 0x3F800000], ?_⟩,
    ⟨merging', 1, 5, listReq, [listBytes 4 1 0 0 0 0 [Entry.empty 4]], ?_⟩,
    ⟨holds (exactReq []), 1, 5, exactReq [], ?_⟩,
    ⟨reranking, 1, 5, 0, exactReq [entry0], shard1, rerun.2, rerun.1, ?_⟩,
    ⟨withWeights (holds embReq), 1, 5, wkey, embReq, weights0, ?_⟩,
    ⟨crossState, 1, 5, wkey, crossReq, weights0, crossIns, [[]], crossAll, [none], ?_⟩,
    ⟨forming, 0, row0, embReq, ?_⟩⟩ <;> decide +kernel

end Sys2Proof.Tests.Passes

namespace Sys2Proof.Tests.Gen
open Sys2Proof Sys2Proof.Machine

/-! Generation and steps -/
def weights0 : WeightSet :=
  { part := 0, object := 7, digest := [], contextMax := 64, vocab := 8, dims := 2, sketch := 8, linMacs := 1, attMacs := 1, headMacs := 1, weightBytes := 1,
    stateBytes := 1, cacheCap := 2, cache := [(3, 1, 0, 0)], cacheBase := 0, cacheSlot := 0, cold := [], schedule := [(4, 1, 0, 0x4000, 0, 0)], current := true }
def wkey : Nat := 7 * 2 ^ 32
def genReq : Req := { req 10 [] (bytes 128 [(0, 4, 7), (6, 1, 1), (7, 1, 8), (12, 4, 9), (56, 8, 2 ^ 63 + 0x100), (64, 4, 2)]) with models := [wkey] }
def genStart : State := { regs (mem (holds genReq)) [(R.cfgClientEn, 1, 1)] with weights := [(wkey, weights0)] }
def genIns : List (List Byte) := (genStart.gather (1, 5) ((2 ^ 63 + 0x100, 8) :: genBufs genReq.param 8)).2.getD []
def pool0 : Pool := { object := 7, part := 0, format := 0, frames := 4, flashBlocks := 0, blocks := [], places := [] }
def gen0 : Gen :=
  { client := 1, req := 5, part := 0, block := genReq.param, prompt := [1, 2], model := wkey, adapter := none, pool := 1, cls := 0, order := 0,
    admittedAt := 0, seed := 0, phase := .waiting, pos := 0, blocks := [], nodes := [], noOffer := false, matched := 0, reserved := 0, lanes := [Lane.fresh, Lane.fresh],
    mask := none, bias := [], stops := [], hostPaused := none, controls := [], schedPaused := none, span := 0, e2m1 := 0,
    sinceProgress := 0, outBase := 0, outPos := 0, recBase := 0, few := false, spanBefore := 0 }
def withGen (s : State) (g : Gen) (x : Part) : State := { s with gens := [g], pools := [(1, pool0)], weights := [(wkey, weights0)], parts := [(0, x)] }
def oneRow (kind count : Nat) : StepRow := ⟨1, 5, kind, 0, 0, count, 1⟩
def busy : Part := { Part.init with running := some [oneRow 1 1] }
def full : Pool := { pool0 with frames := 3 }
def lane0 : PipLane := ⟨1, 5, 0, 2, false, false⟩
def lane1 : PipLane := ⟨1, 5, 1, 2, false, false⟩
def decoding0 : Gen := { gen0 with phase := .decode, reserved := 3 }
def restored : PBlock := ⟨some (1, 5), none, true, some (1, 5), 0, 0⟩
def restoring : Pool := { pool0 with blocks := [(3, restored)] }
def control (act : Nat) : Req := { req 11 [(48, 4, 5), (52, 1, act)] [] with id := 6 }
def controlled (act : Nat) (g : Gen) : State :=
  withGen { State.reset with host := { State.reset.host with rings := [(1, ring)], reqs := [genReq, control act] } } g busy
def ran (x : Part) (r : Req) : State := regs { holds r with parts := [(0, x)], weights := [(wkey, weights0)] } [(R.cfgPstatState, 0, psRun), (R.cfgPartEn, 0, 1)]
def embReq : Req := { req 3 [(48, 4, 7)] (leBytes 4 1 ++ leBytes 4 2) with models := [wkey] }
def passRow : PassRow := ⟨1, 5, 2, 0, 0, wkey, [(0, [1, 2])]⟩
def passing : Part := { Part.init with running := some [oneRow 0 2], pass := [passRow] }
def genRan (kind count : Nat) (g : Gen) : State :=
  regs { ran { busy with generation := true, running := some [oneRow kind count] } genReq with gens := [g] } [(R.pipUstatPartition, 3, 0)]
def onlyUnit3 (s : State) : State := regs s (((List.range 16).filter (· ≠ 3)).map fun u => (R.pipUstatPartition, u, 5))
def filling : Gen := { gen0 with phase := .prefill, lanes := [Lane.fresh] }
def paused0 : Gen := { decoding0 with hostPaused := some 0 }
def composed : State := { ran { Part.init with next := some [oneRow 1 1] } genReq with gens := [decoding0] }
def schedObj : Obj := ⟨0, [⟨1, 0, 0, 1, 0, []⟩, ⟨2, 0, 0, 1, 0, [(0x5000, 1)]⟩], 1, some 1, 0, false, (0, 0), [], 0, [], []⟩
def fetching (tier : Nat) : State :=
  { ran { Part.init with prefetch := [(65536 * wkey, 4)] } genReq with
    weights := [(wkey, { weights0 with schedule := [(4, 1, 0, 0x4000, tier, 0)] })]
    objs := [(7, schedObj)] }
def host0 : State := { fetching 1 with host := { (fetching 1).host with rx := [⟨0, 0x5000, .prefetch 0 (65536 * wkey), false, List.replicate 4096 0⟩] } }
def lsns0 : List Nat := (List.range 1).map fun i => flashLsn (flashParts schedObj.places) (0 + i)
def fetched : State := ((mem (fetching 0)).failSectors ([0].filterMap fun i => lsns0[i]?)).stepFetch 0 0x4000 lsns0
def hostData : List (List Byte × Bool) := (((mem host0).hostRead 1 schedObj.places (.prefetch 0 (65536 * wkey)) 0 4096).2).getD []
def scores0 : List (List (BitVec 32)) := [[0x3F800000#32, 0x40000000#32]]
/-- An expert cache of two slots that holds expert 0 of layer 3; expert 1 is at sector 2 of the cold part. -/
def colder : WeightSet := { weights0 with cache := [(3, 0, 0, 0)], cacheBase := 0x4000, cacheSlot := 4096, cold := [(3, 1, 2, 1)] }
def coldState : State := { mem (ran busy genReq) with weights := [(wkey, colder)], objs := [(7, schedObj)] }
def wsched (tier : Nat) : WeightSet := { weights0 with schedule := [(4, 1, 0, 0x4000, tier, 0)] }

/-- Values that meet what `Obligations.GenerationCommandsComplete` supposes, clause by clause. -/
theorem test_generationCommandsComplete_meets :
    (∃ (s : State) (c q n : Nat) (r : Req) (w : WeightSet) (bufs : List (List Byte)), s.Holds (c, q) 0x0A r ∧ r.ran = false ∧ s.boundary r = none ∧
      s.pinnedModel r (r.p 0 4) = some (n, w) ∧ (s.gather (c, q) ((r.p 56 8, 4 * r.p 64 4) :: genBufs r.param w.vocab)).2 = some bufs ∧ goodLists
      (bufs.getD 2 []) (bufs.getD 3 []) = true) ∧
    (∃ (s : State) (p cls : Nat) (g : Gen) (r : Req) (x : Pool), s.gens = [g] ∧ g.part = p ∧ g.phase = .waiting ∧ g.cls = cls ∧ s.req? g.key = some
      r ∧ s.boundary r = none ∧ s.pool? g.pool = some x ∧ s.probes = [] ∧ s.mayCompose p = false ∧ (g.ctl 7 && s.streamTaken (64 * g.client + g.g 46
      1) g.order) = false ∧ (g.ctl 7 = true → ∀ z, aget s.streams (64 * g.client + g.g 46 1) = some z → (z.slot, z.detok) = (g.g 47 1, true)) ∧
      blocksNeeded g.plen g.maxNew g.lanes.length g.matched + s.promised g.pool ≤ x.capacity) ∧
    (∃ (s : State) (p cls : Nat) (g : Gen) (r : Req) (x : Pool), s.gens = [g] ∧ g.part = p ∧ g.phase = .waiting ∧ g.cls = cls ∧ s.req? g.key = some
      r ∧ s.boundary r = none ∧ s.pool? g.pool = some x ∧ s.probes = [] ∧ (g.ctl 7 = true → ∀ z, aget s.streams (64 * g.client + g.g 46 1) = some z
      → (z.slot, z.detok) = (g.g 47 1, true)) ∧ blocksNeeded g.plen g.maxNew g.lanes.length g.matched ≤ x.capacity ∧ x.capacity < blocksNeeded
      g.plen g.maxNew g.lanes.length g.matched + s.promised g.pool) ∧
    (∃ (s : State) (p : Nat) (e f : PipLane) (g : Gen) (l : Lane) (r : Req), Registers.wf s.regs = true ∧ (s.part p).sampling = [e, f] ∧ e.done =
      false ∧ e.poison = false ∧ s.unitRetired (hubSite 6 e.unit) 0 = false ∧ f.done = false ∧ (f.client, f.req) = (e.client, e.req) ∧ s.gens = [g]
      ∧ g.key = (e.client, e.req) ∧ g.lanes[e.lane]? = some l ∧ l.ended = none ∧ l.held = [] ∧ g.stops = [] ∧ l.tokens.length + 1 < g.maxNew ∧
      s.Holds g.key 0x0A r ∧ r.d 32 8 + (g.outBase + g.outPos) < 2 ^ 63 ∧ s.host.ats = []) ∧
    (∃ (s : State) (p : Nat) (e : PipLane) (g : Gen) (l : Lane) (r : Req), (s.part p).sampling = [e] ∧ e.done = false ∧ s.unitRetired (hubSite 6
      e.unit) 0 = false ∧ s.gens = [g] ∧ g.key = (e.client, e.req) ∧ g.lanes[e.lane]? = some l ∧ s.Holds g.key 0x0A r ∧ r.d 40 8 + g.recBase < 2 ^
      63 ∧ s.host.ats = [] ∧ (s.part p).poisonPending = []) ∧
    (∃ (s : State) (p b : Nat) (x : Pool) (y : PBlock) (k : ReqKey), Registers.wf s.regs = true ∧ p < 8 ∧ s.pool? p = some x ∧ aget x.blocks b =
      some y ∧ y.restoring = some k ∧ s.mayCompose x.part = false ∧ (s.part x.part).next = none ∧ y.node = none) ∧
    (∃ (s : State) (c q : Nat) (r : Req) (g : Gen), s.Holds (c, q) 0x0B r ∧ r.ran = false ∧ r.inl 4 1 = 0 ∧ r.inl 0 4 ≠ q ∧ s.live (c, r.inl 0 4) =
      true ∧ s.gens = [g] ∧ g.key = (c, r.inl 0 4) ∧ s.hostHeld g.key = some false ∧ (s.part g.part).running.isSome = true) ∧
    (∃ (s : State) (c q : Nat) (r : Req) (g : Gen), s.Holds (c, q) 0x0B r ∧ r.ran = false ∧ r.inl 4 1 = 1 ∧ r.inl 0 4 ≠ q ∧ s.live (c, r.inl 0 4) =
      true ∧ s.gens = [g] ∧ g.key = (c, r.inl 0 4) ∧ s.hostHeld g.key = some true ∧ (s.part g.part).running.isSome = true) ∧
    (∃ (s : State) (c q : Nat) (r x : Req), s.Holds (c, q) 0x0B r ∧ r.ran = false ∧ r.inl 4 1 = 2 ∧ r.inl 0 4 ≠ q ∧ s.Holds (c, r.inl 0 4) 0x0A x ∧
      (∀ g ∈ s.gens, (s.part g.part).running.isSome = true)) ∧
    (∃ (s : State) (c q : Nat) (r : Req), s.Holds (c, q) 0x0B r ∧ r.ran = false ∧ r.inl 4 1 = 0 ∧ s.live (c, r.inl 0 4) = false) := by
  refine ⟨⟨genStart, 1, 5, wkey, genReq, weights0, genIns, ?_⟩,
    ⟨withGen (holds genReq) gen0 Part.init, 0, 0, gen0, genReq, pool0, ?_⟩,
    ⟨{ withGen (holds genReq) gen0 Part.init with pools := [(1, full)], trees := [(1, ⟨[(2, ⟨9, 0, 0, 0xFFFFFFFF, 1, true, 0, 1⟩)], 0, []⟩)] }, 0, 0,
      gen0, genReq, full, ?_⟩,
    ⟨withGen (holds genReq) decoding0 { Part.init with sampling := [lane0, lane1] }, 0, lane0, lane1, decoding0, Lane.fresh, genReq, ?_⟩,
    ⟨withGen (holds genReq) decoding0 { Part.init with sampling := [lane0] }, 0, lane0, decoding0, Lane.fresh, genReq, ?_⟩,
    ⟨{ regs (withGen (holds genReq) gen0 busy) [(R.mdlPstatSpilled, 1, 1)] with pools := [(1, restoring)] }, 1, 3, restoring, restored, (1, 5), ?_⟩,
    ⟨controlled 0 decoding0, 1, 6, control 0, decoding0, ?_⟩,
    ⟨controlled 1 paused0, 1, 6, control 1, paused0, ?_⟩,
    ⟨controlled 2 decoding0, 1, 6, control 2, genReq, ?_⟩,
    ⟨{ State.reset with host := { State.reset.host with rings := [(1, ring)], reqs := [control 0] } }, 1, 6, control 0, ?_⟩⟩ <;> decide +kernel

/-- Values that meet what `Obligations.StepCommandsComplete` supposes, clause by clause. -/
theorem test_stepCommandsComplete_meets :
    (∃ (s : State) (p n e g : Nat) (rows : List StepRow), s.running p = true ∧ (s.part p).running = some rows ∧ s.allEnded p = true ∧ (∀ x ∈ (s.part
      p).checks, x.done = true) ∧ (s.part p).poisonPending = [] ∧ (∀ cl, (s.cluster cl).eventsSent = [] ∧ (s.cluster cl).poisonRows = [] ∧
      (s.cluster cl).poisonReads = [])) ∧
    (∃ (s : State) (p n e g : Nat) (rows : List StepRow) (x : PassRow) (w : WeightSet) (r : Req), s.running p = true ∧ (s.part p).running = some
      rows ∧ s.allEnded p = true ∧ (∀ y ∈ (s.part p).checks, y.done = true) ∧ (s.part p).poisonPending = [] ∧ (∀ cl, (s.cluster cl).eventsSent = []
      ∧ (s.cluster cl).poisonRows = [] ∧ (s.cluster cl).poisonReads = []) ∧ (s.part p).generation = false ∧ (s.part p).pass = [x] ∧ x.stage = 0 ∧
      s.Holds (x.client, x.req) 0x03 r ∧ r.cancelAt = none ∧ aget s.weights x.model = some w ∧ w.dims ≠ 0 ∧ isDev (r.d 32 8) = false ∧ s.host.ats =
      []) ∧
    (∃ (s : State) (p n e v u : Nat) (x : StepRow) (g : Gen) (r : Req), s.running p = true ∧ (s.part p).running = some [x] ∧ s.allEnded p = true ∧
      (∀ y ∈ (s.part p).checks, y.done = true) ∧ (s.part p).poisonPending = [] ∧ (∀ cl, (s.cluster cl).eventsSent = [] ∧ (s.cluster cl).poisonRows =
      [] ∧ (s.cluster cl).poisonReads = []) ∧ (s.part p).generation = true ∧ x.kind = 1 ∧ s.gens = [g] ∧ g.part = p ∧ g.key = (x.client, x.req) ∧
      s.req? g.key = some r ∧ s.boundary r = none ∧ s.lacksZest g = false ∧ s.pipUnits p = [u]) ∧
    (∃ (s : State) (p n e v u : Nat) (x : StepRow) (g : Gen) (r : Req), s.running p = true ∧ (s.part p).running = some [x] ∧ s.allEnded p = true ∧
      (∀ y ∈ (s.part p).checks, y.done = true) ∧ (s.part p).poisonPending = [] ∧ (∀ cl, (s.cluster cl).eventsSent = [] ∧ (s.cluster cl).poisonRows =
      [] ∧ (s.cluster cl).poisonReads = []) ∧ (s.part p).generation = true ∧ x.kind = 2 ∧ s.gens = [g] ∧ g.part = p ∧ g.phase = .prefill ∧ g.key =
      (x.client, x.req) ∧ g.pos + x.count = g.plen ∧ g.insert = false ∧ g.lanes.length = 1 ∧ s.req? g.key = some r ∧ s.boundary r = none ∧
      s.lacksZest g = false ∧ s.pipUnits p = [u]) ∧
    (∃ (s : State) (p tag : Nat), Registers.wf s.regs = true ∧ s.mayBegin p tag = true ∧ tag ∉ (s.part p).failedTags ∧ s.issuedBy p tag = [] ∧
      (s.part p).waitingIssue = []) ∧
    (∃ (s d : State) (p e n dst src tag y z : Nat) (w : WeightSet) (o : Obj) (failed lsns : List Nat), (s.part p).prefetch = [(e, tag)] ∧ (s.part
      p).waitingIssue = [] ∧ s.schedOf e = some (w, y, z, n, dst, 0, src) ∧ s.weightObj (e / 65536) w = some o ∧ s.ownsRange p dst (4096 * (n + 1))
      = true ∧ (List.range (n + 1)).map (fun i => flashLsn (flashParts o.places) (src + i)) = lsns ∧ (s.failSectors (failed.filterMap fun i =>
      lsns[i]?)).stepFetch p dst lsns = d) ∧
    (∃ (s : State) (p e n dst src tag tier y z : Nat) (w : WeightSet) (o : Obj) (d : List (List Byte × Bool)) (failed : List Nat), (s.part
      p).prefetch = [(e, tag)] ∧ (s.part p).waitingIssue = [] ∧ s.schedOf e = some (w, y, z, n, dst, tier, src) ∧ tier ≠ 0 ∧ s.weightObj (e / 65536)
      w = some o ∧ s.ownsRange p dst (4096 * (n + 1)) = true ∧ (s.hostRead o.placer o.places (.prefetch p e) src (4096 * (n + 1))).2 = some d) ∧
    (∃ (s : State) (p e n dst src tag tier y z : Nat) (w : WeightSet) (o : Obj) (failed : List Nat), (s.part p).prefetch = [(e, tag)] ∧ (s.part
      p).waitingIssue = [] ∧ s.schedOf e = some (w, y, z, n, dst, tier, src) ∧ s.weightObj (e / 65536) w = some o ∧ s.ownsRange p dst (4096 * (n +
      1)) = false) ∧
    (∃ (s : State) (p m l k n : Nat) (scores : List (List (BitVec 32))) (w : WeightSet), (s.part p).running.isSome = true ∧ aget s.weights m = some
      w ∧ (∀ g ∈ expertGroups n scores, ∃ c ∈ w.cache, c.1 = l ∧ c.2.1 = g.1) ∧ (∀ cl, swf 0 (s.cluster cl).counters = true)) ∧
    (∃ (s : State) (p m l k n e i lsn size : Nat) (rows : List Nat) (scores : List (List (BitVec 32))) (w : WeightSet) (o : Obj), (s.part
      p).running.isSome = true ∧ aget s.weights m = some w ∧ expertGroups n scores = [(e, rows)] ∧ (w.cache.any fun c => c.1 = l && c.2.1 = e) =
      false ∧ (w.cold.find? fun c => c.1 = l && c.2.1 = e) = some (l, e, lsn, size) ∧ w.cacheSlotFor l [e] = some i ∧ s.weightObj m w = some o ∧
      s.ownsRange p (w.cacheBase + i * w.cacheSlot) (4096 * size) = true) := by
  refine ⟨⟨ran busy genReq, 0, 0, 0, 0, [oneRow 1 1], ?_, ?_, ?_, ?_, ?_, fun _ => ⟨rfl, rfl, rfl⟩⟩,
    ⟨ran passing embReq, 0, 0, 0, 0, [oneRow 0 2], passRow, weights0, embReq, ?_, ?_, ?_, ?_, ?_, fun _ => ⟨rfl, rfl, rfl⟩, ?_⟩,
    ⟨onlyUnit3 (genRan 1 1 decoding0), 0, 0, 0, 0, 3, oneRow 1 1, decoding0, genReq, ?_, ?_, ?_, ?_, ?_, fun _ => ⟨rfl, rfl, rfl⟩, ?_⟩,
    ⟨onlyUnit3 (genRan 2 2 filling), 0, 0, 0, 0, 3, oneRow 2 2, filling, genReq, ?_, ?_, ?_, ?_, ?_, fun _ => ⟨rfl, rfl, rfl⟩, ?_⟩,
    ⟨composed, 0, 9, ?_⟩,
    ⟨mem (fetching 0), fetched, 0, 65536 * wkey, 0, 0x4000, 0, 4, 4, 1, wsched 0, schedObj, [0], lsns0, ?_, ?_, rfl, ?_, ?_, rfl, rfl⟩,
    ⟨mem host0, 0, 65536 * wkey, 0, 0x4000, 0, 4, 1, 4, 1, wsched 1, schedObj, hostData, [], ?_, ?_, rfl, ?_⟩,
    ⟨fetching 0, 0, 65536 * wkey, 0, 0x4000, 0, 4, 0, 4, 1, wsched 0, schedObj, [], ?_, ?_, rfl, ?_⟩,
    ⟨ran busy genReq, 0, wkey, 3, 0, 1, scores0, weights0, ?_, ?_, ?_, fun _ => rfl⟩,
    ⟨coldState, 0, wkey, 3, 0, 1, 1, 1, 2, 1, [0], scores0, colder, schedObj, ?_⟩⟩ <;> decide +kernel

end Sys2Proof.Tests.Gen

namespace Sys2Proof.Tests.Retr
open Sys2Proof Sys2Proof.Machine

/-! Retrieval -/
def section0 : Section :=
  { nodes := 2, sketchBase := 0x10000, adjBase := 0x20000, metaBase := 0x30000, tombBase := 0x40000, sideBase := 0x50000, logBase := 0x60000,
    vecBase := 0x70000, entries := [0], tomb := [], side := [], delLog := [], gens := [], free := [], freeHist := [], fresh := [] }
def shard0 : Shard :=
  { part := 0, object := 7, degree := 4, sections := [section0, section0, section0, section0], seq := 0, changes := [], lastPublish := 0,
    digest := [], digests := [], merge := none, vecFlash := 0, df := 64, lpddr := true, pins := [] }
def withShard (s : State) : State :=
  regs { s with shards := [(0, shard0)] } [(R.sloShardState, 0, 2), (R.sloShardShard, 0, 9), (R.sloShardEpoch, 0, 4)]
def weights0 : WeightSet :=
  { part := 0, object := 7, digest := [], contextMax := 64, vocab := 8, dims := 2, sketch := 8, linMacs := 1, attMacs := 1, headMacs := 1, weightBytes := 1,
    stateBytes := 1, cacheCap := 0, cache := [], cacheBase := 0, cacheSlot := 0, cold := [], schedule := [], current := true }
def wkey : Nat := 7 * 2 ^ 32
def vocab0 : Vocab :=
  { object := 5, part := 0, pieceMax := 32, v := 300, byteBase := 0, ranges := [(0, 0)], split := 0, merges := [], strings := [], digest := [] }
def searchBlock : List Byte := leBytes 64 (3 * 2 ^ 48 + 1 * 2 ^ 64 + 2 ^ 106 + 7 * 2 ^ 128)
def block0 : List Byte :=
  bytes 896 [(0, 8, 2 ^ 63 + 0x100), (8, 4, 4), (12, 1, 1), (14, 2, 1), (16, 4, 7), (20, 4, 7), (24, 2, 4), (26, 2, 2), (28, 2, 1), (30, 2, 8), (32, 2, 8),
    (40, 8, 2 ^ 63 + 0x200), (128, 64, leNat searchBlock), (192, 4, 100)]
def ret : Req := { req 9 [] block0 with models := [wkey] }
def asked : State :=
  (regs { mem (holds ret) with vocabs := [(1, vocab0)] } [(R.cfgClientEn, 1, 1)]).writeDev 0x100 (leBytes 4 0x64636261)
def insOf : List (List Byte) := (asked.gather (1, 5) [(2 ^ 63 + 0x100, 4), (2 ^ 63 + 0x200, 4), (0, 0)]).2.getD []
def at_ (n : Nat) (ready : Bool) : Retrieve := { Retrieve.fresh 1 5 [(9, 0)] with stage := n, ready := ready, tokens := [1, 2] }
def stage (x : Retrieve) : State := { holds ret with retrieves := [x], weights := [(wkey, weights0)] }
def ranked : Retrieve := { at_ 9 true with list2 := listBytes 4 1 0 0 0 5 [Entry.empty 4] }
def packed0 : Retrieve := { at_ 11 true with packTokens := [1, 2, 3], packRecord := List.replicate 64 1, matchBlocks := 2,
                                             list3 := listBytes 4 1 0 0 0 5 [Entry.empty 4] }
/-! Collectives -/
def coll0 : Coll :=
  { client := 1, req := 5, k := 1, keyType := 4, participants := [9], order := [(9, 0)], frags := [], lists := [], gone := [], failed := [],
    all := false, done := false }
/-- A retrieval at the end of stage 4 that asked for shard 9 of this module. -/
def gathered4 : Retrieve := { at_ 4 true with shards := [(9, 0)] }
def coll4 : Coll := { coll0 with participants := [0], order := [(0, 0)] }
def gatherState : State := let s := withShard (stage gathered4); { s with fab := { s.fab with colls := [coll4] } }
def coll2 : Coll := { coll0 with participants := [0, 9] }
def fabmsg (kind : Nat) (p : List (BitVec 128)) : FabMsg :=
  { dst := 0, src := 9, master := 0x7E0, act := 1, vc := 1, hops := 4, seq := 0, stream := 0, kind := kind, request := 5, payload := p, poison := [] }
def contrib0 : FabMsg := fabmsg 5 (fragWord 0 1 0 4 0 :: (chunks 16 (listBytes 4 1 0 0 0 5 [Entry.empty 4])).map fun c => BitVec.ofNat 128 (leNat c))
def inColl (c : Coll) (x : Retrieve) : State := let s := stage x; { s with fab := { s.fab with colls := [c] } }
def remoteReq (sb : List Byte) : Req :=
  { freshReq 4096 5 0 (List.replicate 64 0) (queryBytes sb 0 1 1 [] (List.replicate 8 0) (List.replicate 4 0) []) 0 none 0 0 with remote := some 9 }
def remote0 : Remote := ⟨9, 1, 5, (4096, 5), 0, 0, 0⟩
def serving : State :=
  regs { State.reset with host := { State.reset.host with reqs := [remoteReq searchBlock] }, fab := { State.reset.fab with remotes := [remote0] } }
    [(R.optRouteC0, 9, 0x12), (R.optPstatState, 2, opUp)]
def result0 (n : Nat) : FabMsg := fabmsg 6 (fragWord 0 n 9 3 0 :: (chunks 16 (listBytes 3 1 0 0 0 5 [Entry.empty 3])).map fun c => BitVec.ofNat 128 (leNat c))
def query0 : FabMsg := fabmsg 4 (workHead 1 1 0 1 :: workWords (queryBytes searchBlock 0 1 1 [9] (List.replicate 64 0) [] [9]))
def answer0 : FabMsg := fabmsg 4 (workHead 1 2 1 1 :: workWords (answerBytes [List.replicate 40 0] [(handleOf 9 0 1 0, [1, 2])]))

/-- Values that meet what `Obligations.RetrievalCommandsComplete` supposes, clause by clause. -/
theorem test_retrievalCommandsComplete_meets :
    (∃ (s : State) (c q : Nat) (r : Req) (v : Vocab) (ins : List (List Byte)), s.Holds (c, q) 0x09 r ∧ r.ran = false ∧ s.boundary r = none ∧ aget
      s.vocabs (r.p 12 1) = some v ∧ (s.gather (c, q) ([(r.p 0 8, r.p 8 4), (r.p 40 8, 4 * r.p 14 2), (0, 0)] ++ (if r.rGen then genBufs r.rBlock
      (((s.pinnedModel r (fieldLe r.rBlock 0 4)).map fun e => e.2.vocab).getD 0) else []))).2 = some ins ∧ (∀ w ∈ words4 (ins.getD 1 []), w < 2 ^
      28) ∧ (r.rGen = true → goodLists (ins.getD 4 []) (ins.getD 5 []) = true) ∧ (∀ e ∈ shardList (ins.getD 1 []), e.2 = s.ownId → ∀ i, s.slotOf e.1
      = some i → s.mayRead (c, q) i = true)) ∧
    (∃ (s : State) (c q n : Nat) (r : Req) (x : Retrieve) (w : WeightSet), s.Holds (c, q) 0x09 r ∧ s.retrieves = [x] ∧ (x.client, x.req) = (c, q) ∧
      x.stage = 2 ∧ x.ready = true ∧ x.error = none ∧ s.boundary r = none ∧ s.pinnedModel r (r.p 16 4) = some (n, w) ∧ x.tokens.length ≤ s.passRows
      w.part) ∧
    (∃ (s : State) (c q i h : Nat) (r : Req) (x : Retrieve), s.Holds (c, q) 0x09 r ∧ s.retrieves = [x] ∧ (x.client, x.req) = (c, q) ∧ x.stage = 3 ∧
      x.ready = true ∧ x.error = none ∧ s.boundary r = none ∧ x.shards = [(h, s.ownId)] ∧ s.serve (c, q) r.rSearch [h] [h] = .slots [i] ∧ s.mayRead
      (c, q) i = true ∧ s.rd R.sloShardState i = 2 ∧ s.searches = [] ∧ s.fab.colls = []) ∧
    (∃ (s : State) (c q i : Nat) (r : Req) (x : Retrieve) (y : Coll), s.Holds (c, q) 0x09 r ∧ s.retrieves = [x] ∧ (x.client, x.req) = (c, q) ∧
      x.stage = 4 ∧ x.ready = true ∧ x.error = none ∧ s.boundary r = none ∧ (x.shardsOf s.ownId).filterMap s.slotOf = [i] ∧ (s.shard? i).isSome =
      true ∧ s.searches = [] ∧ s.fab.colls = [y] ∧ (y.client, y.req) = (c, q) ∧ y.participants ≠ [] ∧ y.lists = []) ∧
    (∃ (s : State) (c q : Nat) (r : Req) (x : Retrieve), s.Holds (c, q) 0x09 r ∧ s.retrieves = [x] ∧ (x.client, x.req) = (c, q) ∧ x.stage = 9 ∧
      x.ready = true ∧ x.error = none ∧ s.boundary r = none ∧ (∀ e ∈ listEntries x.list2, e.ok 4 = false)) ∧
    (∃ (s : State) (c q : Nat) (r : Req) (x : Retrieve) (pre : List (List Byte)), s.Holds (c, q) 0x09 r ∧ s.retrieves = [x] ∧ (x.client, x.req) =
      (c, q) ∧ x.stage = 10 ∧ x.ready = true ∧ x.error = none ∧ s.boundary r = none ∧ fieldLe r.packBlock 12 4 + x.tokens.length + (pkClose
      r.packBlock).length ≤ pkBudget r.packBlock ∧ (s.gather (c, q) [(fieldLe r.packBlock 16 8, 4 * fieldLe r.packBlock 12 4)]).2 = some pre) ∧
    (∃ (s : State) (c q : Nat) (r : Req) (x : Retrieve), s.Holds (c, q) 0x09 r ∧ s.retrieves = [x] ∧ (x.client, x.req) = (c, q) ∧ x.stage = 11 ∧
      x.ready = true ∧ x.error = none ∧ s.boundary r = none ∧ r.rGen = false ∧ r.d 32 8 < 2 ^ 62 ∧ r.d 40 8 < 2 ^ 62 ∧ s.host.ats = [] ∧
      x.packRecord ≠ []) ∧
    (∃ (s : State) (c q st : Nat) (r : Req) (x : Retrieve), s.Holds (c, q) 0x09 r ∧ s.retrieves = [x] ∧ (x.client, x.req) = (c, q) ∧ x.ready = true
      ∧ (x.error = some st ∨ x.error = none ∧ s.boundary r = some st)) := by
  refine ⟨⟨asked, 1, 5, ret, vocab0, insOf, ?_⟩,
    ⟨stage (at_ 2 true), 1, 5, wkey, ret, at_ 2 true, weights0, ?_⟩,
    ⟨withShard (stage (at_ 3 true)), 1, 5, 0, 9, ret, at_ 3 true, ?_⟩,
    ⟨gatherState, 1, 5, 0, ret, gathered4, coll4, ?_⟩,
    ⟨stage ranked, 1, 5, ret, ranked, ?_⟩,
    ⟨stage (at_ 10 true), 1, 5, ret, at_ 10 true, [[]], ?_⟩,
    ⟨stage packed0, 1, 5, ret, packed0, ?_⟩,
    ⟨stage { at_ 4 true with error := some stState }, 1, 5, stState, ret, { at_ 4 true with error := some stState }, ?_⟩⟩ <;> decide +kernel

/-- Values that meet what `Obligations.CollectiveCommandsComplete` supposes, clause by clause. -/
theorem test_collectiveCommandsComplete_meets :
    (∃ (s : State) (m : FabMsg) (x : Coll) (p : Nat), s.fab.inbox = [] ∧ s.fab.colls = [x] ∧ x.req = m.request ∧ x.done = false ∧ m.src ∈
      x.participants ∧ m.kind = 5 ∧ m.poison = [] ∧ bitsOf (fabWord m 0) 47 44 = x.keyType ∧ x.keyType ≠ 0 ∧ bitsOf (fabWord m 0) 15 0 = 0 ∧ bitsOf
      (fabWord m 0) 31 16 = 1 ∧ x.frags = [] ∧ (∀ l ∈ x.lists, l.1 ≠ m.src) ∧ p ∈ x.participants ∧ p ≠ m.src ∧ (∀ l ∈ x.lists, l.1 ≠ p)) ∧
    (∃ (s : State) (m : FabMsg) (x : Coll) (y : Retrieve), s.fab.inbox = [] ∧ s.fab.colls = [x] ∧ x.req = m.request ∧ x.done = false ∧
      x.participants = [m.src] ∧ m.kind = 5 ∧ m.poison = [] ∧ bitsOf (fabWord m 0) 47 44 = 4 ∧ x.keyType = 4 ∧ bitsOf (fabWord m 0) 15 0 = 0 ∧
      bitsOf (fabWord m 0) 31 16 = 1 ∧ x.frags = [] ∧ x.lists = [] ∧ s.retrieves = [y] ∧ (y.client, y.req) = (x.client, x.req) ∧ y.stage = 7 ∧
      (s.req? (x.client, x.req)).bind s.boundary = none) ∧
    (∃ (s : State) (m : FabMsg) (k : ReqKey) (r : Req), s.fab.inbox = [] ∧ s.remoteWork m.src m.request = [k] ∧ s.req? k = some r ∧ m.poison = [] ∧
      s.fab.results = [] ∧ bitsOf (fabWord m 0) 15 0 = 0 ∧ bitsOf (fabWord m 0) 31 16 = 2) ∧
    (∃ (s : State) (m : FabMsg) (k : ReqKey) (r : Req) (o : Remote) (p : Nat), s.fab.inbox = [] ∧ s.remoteWork m.src m.request = [k] ∧ s.req? k =
      some r ∧ s.originOf k = some o ∧ s.route o.src = some p ∧ m.poison = [] ∧ s.fab.results = [] ∧ bitsOf (fabWord m 0) 15 0 = 0 ∧ bitsOf (fabWord
      m 0) 31 16 = 1 ∧ s.shards = [] ∧ fieldLe r.param 74 2 ≤ 1000) ∧
    (∃ (s : State) (m : FabMsg) (k : ReqKey) (y : Retrieve), s.fab.inbox = [] ∧ s.askedOf m.request m.src = [k] ∧ s.remoteWork m.src m.request = []
      ∧ (∀ e ∈ s.tables, e.2.commit = none ∧ e.2.updates = []) ∧ s.retrieves = [y] ∧ (y.client, y.req) = k ∧ y.error = none) ∧
    (∃ (s : State) (m : FabMsg) (k : ReqKey) (y : Retrieve), s.fab.inbox = [] ∧ s.askedOf m.request (fabWord m 0 % 2 ^ 12) = [k] ∧ s.remoteWork
      (fabWord m 0 % 2 ^ 12) m.request = [] ∧ (∀ e ∈ s.tables, e.2.commit = none ∧ e.2.updates = []) ∧ s.retrieves = [y] ∧ (y.client, y.req) = k ∧
      y.error = none) ∧
    (∃ (s : State) (q p u : Nat) (x : Coll) (y : Retrieve), s.fab.colls = [x] ∧ x.req = q ∧ x.done = false ∧ x.order = [(p, u)] ∧ (∀ l ∈ x.lists,
      l.1 ≠ p) ∧ u + 1000000 * s.rd R.optCfgCollMs 0 ≤ s.now ∧ (∀ e ∈ s.tables, e.2.commit = none ∧ e.2.updates = []) ∧ s.retrieves = [y] ∧
      (y.client, y.req) = (x.client, x.req) ∧ y.error = none) ∧
    (∃ (s : State) (m : FabMsg) (l : List Nat), s.fab.inbox = [] ∧ s.fab.work = [] ∧ m.kind = 4 ∧ workKind m = 1 ∧ m.poison = [] ∧ bitsOf (fabWord m
      0) 95 64 ≤ 1 ∧ s.serve (0, 0) ((workBytes (m.payload.drop 1)).take 64) (qShards (workBytes (m.payload.drop 1))) (qNamed (workBytes
      (m.payload.drop 1))) = .slots l) ∧
    (∃ (s : State) (m : FabMsg) (x : Coll) (y : Retrieve) (r : Req), s.fab.inbox = [] ∧ s.fab.work = [] ∧ m.kind = 4 ∧ workKind m = 2 ∧ workAsk m =
      1 ∧ m.poison = [] ∧ bitsOf (fabWord m 0) 95 64 ≤ 1 ∧ s.fab.colls = [x] ∧ (x.client, x.req) = (workClient m, m.request) ∧ x.keyType = 0 ∧
      x.done = false ∧ x.participants = [m.src] ∧ x.lists = [] ∧ s.retrieves = [y] ∧ (y.client, y.req) = (x.client, x.req) ∧ y.stage = 9 ∧ s.req?
      (x.client, x.req) = some r) := by
  refine ⟨⟨inColl coll2 (at_ 7 false), contrib0, coll2, 0, ?_⟩,
    ⟨inColl coll0 (at_ 7 false), contrib0, coll0, at_ 7 false, ?_⟩,
    ⟨serving, result0 2, (4096, 5), remoteReq searchBlock, ?_⟩,
    ⟨serving, result0 1, (4096, 5), remoteReq searchBlock, remote0, 2, ?_⟩,
    ⟨inColl coll0 (at_ 7 false), fabmsg 7 [BitVec.ofNat 128 stPoison], (1, 5), at_ 7 false, ?_⟩,
    ⟨inColl coll0 (at_ 7 false), fabmsg 8 [9], (1, 5), at_ 7 false, ?_⟩,
    ⟨{ inColl coll0 (at_ 7 false) with now := 2 ^ 40 }, 5, 9, 0, coll0, at_ 7 false, ?_⟩,
    ⟨withShard State.reset, query0, [0], ?_⟩,
    ⟨inColl { coll0 with keyType := 0 } (at_ 9 false), answer0, { coll0 with keyType := 0 }, at_ 9 false, ret, ?_⟩⟩ <;> decide +kernel

end Sys2Proof.Tests.Retr
end

section
/-! The bytes of a field (00_scope.md R6): what `leBytes` writes, what `fieldLe` reads, and that the one undoes the other. -/

namespace Sys2Proof.Machine

/-- A byte more multiplies the range of a field by 256. -/
theorem two_pow_bits_succ (n : Nat) : 2 ^ (8 * (n + 1)) = 256 * 2 ^ (8 * n) := by rw [Nat.mul_succ, Nat.pow_add, Nat.mul_comm]

@[simp] theorem leBytes_length (n v : Nat) : (leBytes n v).length = n := by
  induction n generalizing v with
  | zero => rfl
  | succ n ih => simp [leBytes, ih]

/-- Byte `i` holds bits `8 i + 7` to `8 i`. -/
theorem leBytes_getD_toNat {n i : Nat} (v : Nat) (hi : i < n) : ((leBytes n v).getD i 0).toNat = v / 2 ^ (8 * i) % 256 := by
  induction n generalizing v i with
  | zero => omega
  | succ n ih =>
    cases i with
    | zero => simp [leBytes]
    | succ i =>
      rw [leBytes, List.getD_cons_succ, ih (v / 256) (by omega), Nat.div_div_eq_div_mul, two_pow_bits_succ]

theorem leNat_leBytes (n v : Nat) : leNat (leBytes n v) = v % 2 ^ (8 * n) := by
  induction n generalizing v with
  | zero => simp [leBytes, leNat, Nat.mod_one]
  | succ n ih =>
    rw [leBytes, leNat, ih, two_pow_bits_succ, Nat.mod_mul, BitVec.toNat_ofNat]

/-- A slice that lies within the string needs no zeros after it. -/
theorem slice_of_le {bs : List Byte} {o n : Nat} (h : o + n ≤ bs.length) : slice bs o n = (bs.drop o).take n := by
  have hlen : ((bs.drop o).take n).length = n := by rw [List.length_take, List.length_drop]; omega
  simp only [slice, hlen, Nat.sub_self, List.replicate_zero, List.append_nil]

theorem slice_append_length (pre bs post : List Byte) : slice (pre ++ bs ++ post) pre.length bs.length = bs := by
  rw [slice_of_le (by simp), List.append_assoc, List.drop_left, List.take_left]

/-- The byte at the lowest address is the least significant one. -/
theorem fieldLe_succ {bs : List Byte} {o n : Nat} (h : o + (n + 1) ≤ bs.length) :
    fieldLe bs o (n + 1) = (bs.getD o 0).toNat + 256 * fieldLe bs (o + 1) n := by
  have ho : o < bs.length := by omega
  rw [fieldLe, fieldLe, slice_of_le h, slice_of_le (by omega), List.drop_eq_getElem_cons ho, List.take_succ_cons, leNat,
    List.getD_eq_getElem _ _ ho]

/-- A field reads back as the number whose bytes were placed there, modulo its width. -/
theorem fieldLe_append_leBytes (pre post : List Byte) (n v : Nat) :
    fieldLe (pre ++ leBytes n v ++ post) pre.length n = v % 2 ^ (8 * n) := by
  have hs := slice_append_length pre (leBytes n v) post
  rw [leBytes_length] at hs
  rw [fieldLe, hs, leNat_leBytes]

end Sys2Proof.Machine

open Sys2Proof.Machine

/-- Settles O7: ranges by `bitsOf_eq`, each byte written by `leBytes_getD_toNat`, a field read from its lowest byte up by `fieldLe_succ`, and
a written field read back by `fieldLe_append_leBytes`. -/
theorem fieldsAreLittleEndian : Obligations.FieldsAreLittleEndian := by
  unfold Obligations.FieldsAreLittleEndian
  refine ⟨fun v h l hl => ?range, fun n v i hi => leBytes_getD_toNat v hi, fun bs o n hn h => ?lowest, fun pre post n v hv => ?readBack⟩
  case range => rw [bitsOf_eq, Nat.sub_add_comm hl]
  case lowest =>
    obtain ⟨m, rfl⟩ := Nat.exists_eq_add_of_le' hn
    exact fieldLe_succ h
  case readBack => rw [fieldLe_append_leBytes, Nat.mod_eq_of_lt hv]

end

section
/-! A client number past the 4,096 clients of R324 names registers that are not its own: the read of its shard list by OP_RETRIEVE takes a shard out of
its USE. -/

namespace Sys2Proof.Machine

theorem exec_opRetrieve (c q : Nat) (s : State) : exec (.opRetrieve c q) s = .next (s.opRetrieve (c, q)) := rfl

/-- The client whose CFG_CUSE, at 0x210000 + 8 × its number, is MEM_CHSTAT of channel 0. -/
def aliasClient : Nat := 122920

/-- Its rings. -/
def aliasRing : Ring where
  sqBase := 0
  cqBase := 0
  sqSize := 16
  cqSize := 16
  pasid := none
  vector := 0
  irqCount := 0
  irqUs := 0
  sqTail := 0
  cqHead := 0
  phase := true
  unsignalled := 0
  firstUnsignalled := 0
  deleting := false

/-- Its OP_RETRIEVE (opcode 9): no question, and at device address 0 a shard list of one word. -/
def aliasReq : Req :=
  freshReq aliasClient 5 0 [9] (List.replicate 14 0 ++ leBytes 2 1 ++ List.replicate 24 0 ++ leBytes 8 (2 ^ 63)) 0 none 0 0

/-- The vocabulary in slot 0. -/
def aliasVocab : Vocab :=
  { object := 5, part := 0, pieceMax := 32, v := 300, byteBase := 0, ranges := [], split := 0, merges := [], strings := [], digest := [] }

/-- The shard in slot 0, of number 0 and partition 32. -/
def aliasShard : Shard where
  part := 32
  object := 7
  degree := 4
  sections := []
  seq := 0
  changes := []
  lastPublish := 0
  digest := []
  digests := []
  merge := none
  vecFlash := 0
  df := 64
  lpddr := true
  pins := []

/-- One correction has been counted on channel 0 (bit 32 of MEM_CHSTAT), so that the client's USE reads as partition 32 alone. That partition owns the
granule of the shard list, whose word is zero but for an error in one symbol: the list names shard 0 of module 0, this one. -/
def aliasState : State :=
  let s := { State.reset with
    host := { HostIf.reset with rings := [(aliasClient, aliasRing)], reqs := [aliasReq] }
    mem := { MemState.reset with cells := [(2, 1)], owner := [(0, 33)] }
    vocabs := [(0, aliasVocab)]
    shards := [(0, aliasShard)] }
  (s.wr R.memLiveMask 0 1).wr R.memChstatCorr 0 1

/-- The buffers that the request names, as they are read. -/
def aliasBufs : List (List Byte) := [[], List.replicate 4 0, []]

/-- The shard list is looked at after the correction of its word has been counted: its shard is out of the client's USE by then, the request ends with
ST_NOT_BOUND, and no retrieval begins. -/
theorem aliasState_opRetrieve : (aliasState.opRetrieve (aliasClient, 5)).retrieves = [] := by decide +kernel

end Sys2Proof.Machine

open Sys2Proof.Machine

/-- Refutes O53: its first clause leaves the client's number free. `aliasClient` has MEM_CHSTAT of channel 0 for its CFG_CUSE, so the read of the shard list,
which corrects a symbol there, changes its USE before R324 is applied; the shard that the statement supposes readable is not, and the request ends. -/
theorem not_retrievalCommandsComplete : ¬ Obligations.RetrievalCommandsComplete := by
  unfold Obligations.RetrievalCommandsComplete
  rintro ⟨hbegin, -⟩
  obtain ⟨t, ht, hret, -⟩ := hbegin aliasState aliasClient 5 aliasReq aliasVocab aliasBufs (by decide +kernel) rfl rfl rfl
    (by decide +kernel) (by decide +kernel) (by decide +kernel) (by decide +kernel)
  rw [exec_opRetrieve, Host.Outcome.next.injEq] at ht
  rw [← ht, aliasState_opRetrieve] at hret
  exact absurd hret.symm (List.append_ne_nil_of_right_ne_nil _ (List.cons_ne_nil _ _))

end

section
/-! What sending leaves, and what the port of a route then carries (R277 to R285): the rules that the messages of collectives are read with. -/

namespace Sys2Proof.Machine

/-! ### Registers -/

/-- A register that is not zero, rewritten to a value that is not zero, leaves every other one, whatever the form of the register file. -/
theorem sget_sset_ne_of_ne {α : Type} [DecidableEq α] {d v : α} {m : Sparse α} {i j : Nat} (hi : sget d m i ≠ d) (hv : v ≠ d) (hne : j ≠ i) :
    sget d (sset d m i v) j = sget d m j := by
  induction m with
  | nil => exact absurd rfl hi
  | cons e r ih =>
    obtain ⟨k, w⟩ := e
    by_cases hk : i = k
    · subst hk
      simp [sset, sget, hv, hne]
    · by_cases hlt : i < k
      · simp [sget, hk, hlt] at hi
      · rw [sget, if_neg hk, if_neg hlt] at hi
        simp only [sset, if_neg hlt, if_neg hk, sget, ih hi]

theorem SameRegs.refl (ks : List Nat) (s : State) : SameRegs ks s s := fun _ _ => rfl

theorem SameRegs.trans {ks : List Nat} {s t u : State} (h : SameRegs ks s t) (h' : SameRegs ks t u) : SameRegs ks s u :=
  fun k hk => (h' k hk).trans (h k hk)

theorem SameRegs.of_regs {ks : List Nat} {s t : State} (h : t.regs = s.regs) : SameRegs ks s t := fun k _ => by rw [State.reg, h, State.reg]

theorem State.rd_congr {s t : State} (h : t.regs = s.regs) : t.rd = s.rd := by
  funext f i
  simp only [State.rd, State.reg, h]

theorem Keeps.trans {s t u : State} (h : Keeps s t) (h' : Keeps t u) : Keeps s u := by
  obtain ⟨a, b, c, d, e⟩ := h
  obtain ⟨a', b', c', d', e'⟩ := h'
  exact ⟨a'.trans a, b'.trans b, c'.trans c, d'.trans d, e'.trans e⟩

/-! ### What sending does -/

theorem State.portCarries_congr {s t : State} (h : t.regs = s.regs) : t.portCarries = s.portCarries := by
  funext p
  unfold State.portCarries State.portState
  rw [State.rd_congr h]

theorem State.route_congr {s t : State} (h : t.regs = s.regs) (hi : t.fab.isolated = s.fab.isolated) : t.route = s.route := by
  funext m
  unfold State.route State.choices
  rw [State.rd_congr h, State.portCarries_congr h, hi]

/-- A route leads to one of the 16 ports, which carries messages, from a module that is not isolated. -/
theorem State.route_some {s : State} {m p : Nat} (h : s.route m = some p) : p < 16 ∧ s.portCarries p = true ∧ s.fab.isolated = false := by
  unfold State.route at h
  split at h
  · cases h
  · rename_i hown
    obtain ⟨c, hc, rfl⟩ := Option.map_eq_some_iff.1 h
    have hf := List.find?_some hc
    simp only [Bool.and_eq_true] at hf
    exact ⟨Nat.mod_lt _ (by decide), hf.2, by simpa using fun hi => hown (.inr hi)⟩

/-- The STATE of a port that carries messages is not zero. -/
theorem State.portState_ne_zero {s : State} {p : Nat} (h : s.portCarries p = true) : s.rd R.optPstatState p ≠ 0 := by
  unfold State.portCarries State.portState at h
  intro h0
  rw [h0] at h
  exact absurd h (by decide)

/-- From `s` to `t` messages have gone to the outputs of ports: only the fabric and the registers of lanes have changed, and of the fabric not what it holds
of requests. -/
structure Sends (s t : State) : Prop where
  eff : Eff 4294967304 s t
  lanes : SameRegs laneKeys s t
  colls : t.fab.colls = s.fab.colls
  results : t.fab.results = s.fab.results
  remotes : t.fab.remotes = s.fab.remotes

theorem Sends.refl (s : State) : Sends s s := ⟨Eff.refl .., SameRegs.refl _ _, rfl, rfl, rfl⟩

theorem Sends.trans {s t u : State} (h : Sends s t) (h' : Sends t u) : Sends s u :=
  ⟨h'.eff.step (by decide) h.eff, h.lanes.trans h'.lanes, h'.colls.trans h.colls, h'.results.trans h.results, h'.remotes.trans h.remotes⟩

theorem Sends.foldl {α : Type} {f : State → α → State} (hf : ∀ s a, Sends s (f s a)) (l : List α) (s : State) : Sends s (l.foldl f s) := by
  induction l generalizing s with
  | nil => exact Sends.refl s
  | cons a l ih => exact (hf s a).trans (ih _)

/-- A change of the fabric that leaves what it holds of requests. -/
theorem State.updFab_sends {s : State} {f : FabState → FabState} (hc : (f s.fab).colls = s.fab.colls) (hr : (f s.fab).results = s.fab.results)
    (hm : (f s.fab).remotes = s.fab.remotes) : Sends s (s.updFab f) :=
  ⟨(State.updFab_eff ..).mono (by decide), SameRegs.of_regs rfl, hc, hr, hm⟩

theorem State.setPort_sends (s : State) (p : Nat) (x : Port) : Sends s (s.setPort p x) := State.updFab_sends rfl rfl rfl

/-- LPDDR-6 is its cells and the rest of it. -/
theorem Eff.mem {k : Nat} {s t : State} (h : Eff k s t) (hc : k.testBit 9 = false) (hm : k.testBit 40 = false) : t.mem = s.mem := by
  have hcells : t.mem.cells = s.mem.cells := h.same .cells hc
  have hrest : t.mem = { s.mem with cells := t.mem.cells } := h.same .memory hm
  rw [hrest, hcells]

/-- Of a mask without the host interface, LPDDR-6, flash, the clusters and the partitions. -/
theorem Eff.keeps {k : Nat} {s t : State} (h : Eff k s t)
    (hk : (Nat.testBit k 4 || Nat.testBit k 9 || Nat.testBit k 10 || Nat.testBit k 11 || Nat.testBit k 13 || Nat.testBit k 40) = false) : Keeps s t := by
  simp only [Bool.or_eq_false_iff, and_assoc] at hk
  obtain ⟨hhost, hcells, hflash, hclusters, hparts, hmem⟩ := hk
  exact ⟨h.same .host hhost, h.mem hcells hmem, h.same .flash hflash, h.same .clusters hclusters, h.same .parts hparts⟩

theorem Sends.keeps {s t : State} (h : Sends s t) : Keeps s t := h.eff.keeps (by decide)

/-- A port that carries messages keeps its lanes up to date in its own register, which is not zero, as its STATE is not. -/
theorem State.mirrorLanes_sends {s : State} {p : Nat} (hp : p < 16) (h : s.portCarries p = true) : Sends s (s.mirrorLanes p) := by
  refine ⟨(State.mirrorLanes_eff ..).mono (by decide), fun k hk => ?_, rfl, rfl, rfl⟩
  have hmem : regKey R.optPstatLanesTx.kind R.optPstatLanesTx.off p ∈ laneKeys :=
    List.mem_map.2 ⟨p, List.mem_range.2 hp, rfl⟩
  have hst : bitsOf (s.reg (regKey R.optPstatLanesTx.kind R.optPstatLanesTx.off p)).toNat 31 28 ≠ 0 := State.portState_ne_zero h
  have hnz : ∀ r : Reg64, bitsOf r.toNat 31 28 ≠ 0 → r ≠ 0 := by rintro r hr rfl; exact hr (by decide)
  refine sget_sset_ne_of_ne (hnz _ hst) (hnz _ ?_) fun e => hk (e ▸ hmem)
  rwa [bitsOf_putBits_below _ _ (by decide) (by decide) (by decide) (by decide)]

/-- A port that may send goes on as far as its frames do, and its lanes are brought up to date. -/
theorem State.pumpPort_eq {s : State} {p : Nat} (hc : s.portCarries p = true) (hi : s.fab.isolated = false) :
    ∃ a b n lanes errs, s.pumpPort p = ((s.updFab fun f => { f with askOut := a, asked := b }).setPort p
      (((s.port p).pump n s.now lanes errs).tell 8 lanes errs)).mirrorLanes p := by
  unfold State.pumpPort
  rw [if_pos ⟨hc, by simp [hi]⟩]
  extract_lets lanes x words y out z
  by_cases h : s.fab.askOut = true ∧ out = true
  · exact ⟨false, some s.now, words + 1, lanes, s.laneErrs p, by simp only [z, if_pos h]; rfl⟩
  · exact ⟨s.fab.askOut, s.fab.asked, words + 1, lanes, s.laneErrs p, by simp only [z, if_neg h]; rfl⟩

theorem State.pumpPort_sends {s : State} {p : Nat} (hp : p < 16) : Sends s (s.pumpPort p) := by
  by_cases h : s.portCarries p = true ∧ s.fab.isolated = false
  · obtain ⟨a, b, n, lanes, errs, he⟩ := State.pumpPort_eq h.1 h.2
    rw [he]
    generalize Port.tell 8 lanes errs _ = y
    have hz : Sends s ((s.updFab fun f => { f with askOut := a, asked := b }).setPort p y) :=
      (State.updFab_sends rfl rfl rfl).trans (State.setPort_sends ..)
    exact hz.trans (State.mirrorLanes_sends hp ((congrFun (State.portCarries_congr (s := s) rfl) p).trans h.1))
  · rw [State.pumpPort, if_neg (by simpa using h)]
    exact Sends.refl s

theorem State.forward_sends (s : State) (input : Nat) (m : FabMsg) : Sends s (s.forward input m) := by
  unfold State.forward
  split
  · exact Sends.refl s
  · rename_i p hr
    exact (State.setPort_sends ..).trans (State.pumpPort_sends (State.route_some hr).1)

theorem State.sendHub_sends (s : State) (dst kind req : Nat) (ws : List (BitVec 128)) : Sends s (s.sendHub dst kind req ws) := by
  unfold State.sendHub
  split
  · exact Sends.refl s
  · exact (State.updFab_sends rfl rfl rfl).trans (State.forward_sends ..)

/-! ### A message that a port carries -/

/-- The port has queued the message, or words of it have gone out in a frame that it keeps. -/
def Port.Carries (x : Port) (m : FabMsg) : Prop := (∃ i, (i, m) ∈ x.queue) ∨ ∃ f ∈ x.replay, ∃ a, { m with act := a } ∈ f.msgs

/-- What goes out in place of a message that is no TIME message differs in its ACT alone. -/
theorem fabLeaving_of_kind {m : FabMsg} (hk : m.kind ≠ 10) (a now : Nat) : fabLeaving m a now = { m with act := a } := by
  simp [fabLeaving, hk]

/-- A grant leaves a queued message in its queue, or it is the one granted. -/
theorem Port.grant_queue {x y : Port} {now i : Nat} {m m' : FabMsg} (hk : m.kind ≠ 10) (h : x.grant now = some (y, m')) (hm : (i, m) ∈ x.queue) :
    (i, m) ∈ y.queue ∨ ∃ a, m' = { m with act := a } := by
  unfold Port.grant at h
  extract_lets can pend g at h
  split at h
  · cases h
  · rename_i e he
    simp only [Option.some.injEq, Prod.mk.injEq] at h
    obtain ⟨rfl, rfl⟩ := h
    by_cases hm' : (i, m) = e
    · exact .inr ⟨_, by rw [← hm']; exact fabLeaving_of_kind hk ..⟩
    · exact .inl (mem_dropFirst_of_neg _ hm (by simpa using hm'))

theorem Port.grant_replay {x y : Port} {now : Nat} {m : FabMsg} (h : x.grant now = some (y, m)) : y.replay = x.replay := by
  unfold Port.grant at h
  extract_lets can pend g at h
  split at h
  · cases h
  · simp only [Option.some.injEq, Prod.mk.injEq] at h
    rw [← h.1]

theorem Port.fill_replay (fuel now room : Nat) (x : Port) (f : TxFrame) : (x.fill fuel now room f).1.replay = x.replay := by
  induction fuel generalizing room x f with
  | zero => rfl
  | succ n ih =>
    unfold Port.fill
    split
    · rfl
    · split
      · split
        · rfl
        · rename_i hg
          have hr := Port.grant_replay hg
          rw [ih]
          exact hr
      · exact ih ..

/-- While a frame with `room` words left is filled: the message waits in the queue, words of it are in the frame, or it is the one being sent, whose next
words the frame takes. -/
def Port.Going (x : Port) (f : TxFrame) (room i : Nat) (m : FabMsg) : Prop :=
  (i, m) ∈ x.queue ∨ (∃ a, { m with act := a } ∈ f.msgs) ∨ (0 < room ∧ x.txRest ≠ [] ∧ ∃ a, x.txMsg = some { m with act := a })

/-- Nothing is sent between frames, or at the end of one: the message waits, or words of it are in the frame. -/
theorem Port.Going.stop {x : Port} {f : TxFrame} {room i : Nat} {m : FabMsg} (h : x.Going f room i m) (hs : room = 0 ∨ x.txRest.isEmpty = true) :
    (i, m) ∈ x.queue ∨ ∃ a, { m with act := a } ∈ f.msgs := by
  rcases h with hq | hf | ⟨hroom, hrest, -⟩
  · exact .inl hq
  · exact .inr hf
  · rcases hs with hs | hs
    · omega
    · exact absurd (List.isEmpty_iff.1 hs) hrest

/-- A frame has room for words of every message that is granted while it is filled: each word takes at most two steps. -/
theorem Port.fill_carries {m : FabMsg} (hk : m.kind ≠ 10) {i : Nat} (fuel now room : Nat) (x : Port) (f : TxFrame)
    (hfuel : 2 * room + (if x.txRest.isEmpty then 2 else 1) ≤ fuel) (h : x.Going f room i m) :
    (i, m) ∈ (x.fill fuel now room f).1.queue ∨ ∃ a, { m with act := a } ∈ (x.fill fuel now room f).2.msgs := by
  induction fuel generalizing room x f with
  | zero => split at hfuel <;> omega
  | succ n ih =>
    unfold Port.fill
    by_cases hroom : room = 0
    · rw [if_pos hroom]
      exact h.stop (.inl hroom)
    · rw [if_neg hroom]
      by_cases hrest : x.txRest.isEmpty = true
      · rw [if_pos hrest] at hfuel ⊢
        split
        · exact h.stop (.inr hrest)
        · rename_i y m' hg
          refine ih _ _ _ (by simp [fabWords]; omega) ?_
          rcases h.stop (.inr hrest) with hq | hf
          · rcases Port.grant_queue hk hg hq with hq | ⟨a, rfl⟩
            · exact .inl hq
            · exact .inr (.inr ⟨by omega, by simp [fabWords], a, rfl⟩)
          · exact .inr (.inl hf)
      · rw [if_neg hrest] at hfuel ⊢
        have hlen : 0 < x.txRest.length := List.length_pos_iff.2 fun e => hrest (by rw [e]; rfl)
        have hmin : 0 < Nat.min room x.txRest.length := Nat.lt_min.2 ⟨by omega, hlen⟩
        refine ih _ _ _ (by split <;> omega) ?_
        rcases h with hq | ⟨a, hf⟩ | ⟨-, -, a, ht⟩
        · exact .inl hq
        · exact .inr (.inl ⟨a, List.mem_append_left _ hf⟩)
        · exact .inr (.inl ⟨a, List.mem_append_right _ (by simp [ht])⟩)

/-- Frames that go out keep what a port carries. -/
theorem Port.pump_carries {m : FabMsg} (hk : m.kind ≠ 10) (fuel now : Nat) (lanes errs : List Nat) (x : Port) (h : x.Carries m) :
    (x.pump fuel now lanes errs).Carries m := by
  induction fuel generalizing x with
  | zero => exact h
  | succ n ih =>
    unfold Port.pump
    split
    · exact h
    · extract_lets room y z
      split
      · exact h
      · apply ih
        rcases h with ⟨i, hq⟩ | ⟨f, hf, hm⟩
        · rcases Port.fill_carries hk (2 * room + 2) now room x ⟨x.txNext, [], []⟩ (by split <;> omega) (.inl hq) with hq | hm
          · exact .inl ⟨i, hq⟩
          · exact .inr ⟨y.2, by simp, hm⟩
        · have hr : y.1.replay = x.replay := Port.fill_replay ..
          refine .inr ⟨f, ?_, hm⟩
          simp [z, Port.emit, hr, hf]

/-- Empty frames carry no message. -/
theorem Port.tell_carries {m : FabMsg} (fuel : Nat) (lanes errs : List Nat) (x : Port) (h : x.Carries m) : (x.tell fuel lanes errs).Carries m := by
  induction fuel generalizing x with
  | zero => exact h
  | succ n ih =>
    unfold Port.tell
    split
    · exact h
    · exact ih _ h

theorem State.pumpPort_carries {s : State} {p : Nat} {m : FabMsg} (hk : m.kind ≠ 10) (h : (s.port p).Carries m) : ((s.pumpPort p).port p).Carries m := by
  by_cases hc : s.portCarries p = true ∧ s.fab.isolated = false
  · obtain ⟨a, b, n, lanes, errs, he⟩ := State.pumpPort_eq hc.1 hc.2
    rw [he]
    have hp : ∀ (t : State) (x : Port), ((t.setPort p x).mirrorLanes p).port p = x := fun t x => by
      show (aget (aput t.fab.ports p x) p).getD Port.init = x
      rw [aget_aput_same]; rfl
    rw [hp]
    exact Port.tell_carries _ _ _ _ (Port.pump_carries hk _ _ _ _ _ h)
  · rw [State.pumpPort, if_neg (by simpa using hc)]
    exact h

/-- A message for a module that a route leads to is carried by the port of that route. -/
theorem State.forward_carries {s : State} {p input : Nat} {m : FabMsg} (hk : m.kind ≠ 10) (hr : s.route m.dst = some p) :
    ((s.forward input m).port p).Carries m := by
  unfold State.forward
  rw [hr]
  refine State.pumpPort_carries hk (.inl ⟨input, ?_⟩)
  show _ ∈ ((aget (aput s.fab.ports p _) p).getD Port.init).queue
  rw [aget_aput_same]
  simp

theorem State.sendHub_carries {s : State} {p dst kind req : Nat} {ws : List (BitVec 128)} (hk : kind ≠ 10) (hr : s.route dst = some p) :
    ∃ x : FabMsg, (s.sendHub dst kind req ws).Carries p x ∧ x.kind = kind ∧ x.dst = dst ∧ x.request = req := by
  refine ⟨s.hubMsg dst kind req ws, ?_, rfl, rfl, rfl⟩
  unfold State.sendHub State.unreachable
  rw [hr]
  exact State.forward_carries hk ((congrFun (State.route_congr (s := s) rfl rfl) dst).trans hr)

end Sys2Proof.Machine
end

section
/-! A part of a retrieval's work that fails (R15, R143): what is left of the request, its collective and the fabric. -/

namespace Sys2Proof.Machine

theorem State.sendError_sends (s : State) (dst req st : Nat) : Sends s (s.sendError dst req st) := State.sendHub_sends ..

/-- With nothing in the inbox a command that takes a message out changes nothing. -/
theorem State.takeFab_of_empty {s : State} (h : s.fab.inbox = []) (m : FabMsg) : s.takeFab m = s := by
  simp [State.takeFab, State.takeIf, h]

/-- A charge for message words is the client's, or that of the record of another module's work. -/
theorem State.chargeFab_fab (s : State) (k : ReqKey) (tx : Bool) (n : Nat) : ∃ l, (s.chargeFab k tx n).fab = { s.fab with remotes := l } := by
  unfold State.chargeFab State.charge
  split
  · split
    · exact ⟨s.fab.remotes, rfl⟩
    · exact ⟨_, rfl⟩
  · exact ⟨s.fab.remotes, rfl⟩

/-! ### The one collective and the one retrieval of a request -/

section
variable {s : State} {k : ReqKey} {x : Coll} {y : Retrieve}

theorem State.coll?_single (hc : s.fab.colls = [x]) (hk : (x.client, x.req) = k) : s.coll? k = some x := by
  simp [State.coll?, hc, hk]

/-- The state with one collective and no other. -/
def State.withColl (s : State) (x : Coll) : State := s.updFab fun f => { f with colls := [x] }

theorem State.withColl_eff (s : State) (x : Coll) : Eff 4294967296 s (s.withColl x) := State.updFab_eff ..

theorem State.updColl_single (hc : s.fab.colls = [x]) (hk : (x.client, x.req) = k) (f : Coll → Coll) : s.updColl k f = s.withColl (f x) := by
  simp [State.updColl, State.withColl, hc, hk, modFirst]

theorem State.retrieve?_single (hr : s.retrieves = [y]) (hk : (y.client, y.req) = k) : s.retrieve? k = some y := by
  simp [State.retrieve?, hr, hk]

theorem State.updRetrieve_single (hr : s.retrieves = [y]) (hk : (y.client, y.req) = k) (f : Retrieve → Retrieve) :
    (s.updRetrieve k f).retrieves = [f y] := by
  simp [State.updRetrieve, hr, hk, modFirst]

end

/-! ### Work of a retrieval that fails -/

/-- An element that is changed and taken out is taken out, where the change keeps what it is taken out for. -/
theorem filter_modFirst_of_neg {α : Type} {p q : α → Bool} {f : α → α} (l : List α) (h : ∀ a, p a = true → q a = false ∧ q (f a) = false) :
    (modFirst p f l).filter q = l.filter q := by
  induction l with
  | nil => rfl
  | cons a l ih =>
    unfold modFirst
    split
    · simp [h a ‹_›]
    · simp [List.filter_cons, ih]

/-- The collective of a request, where it has one, is gone. -/
theorem State.endColls_colls (s : State) (k : ReqKey) (st : Nat) :
    (s.endColls k st).fab.colls = s.fab.colls.filter fun z => (z.client, z.req) ≠ k := by
  unfold State.endColls
  split
  · rename_i h
    exact (List.filter_eq_self.2 fun z hz => by simpa using List.find?_eq_none.1 h z hz).symm
  · exact (Sends.foldl (fun s m => s.sendError_sends m k.2 st) _ _).colls

/-- Ending a collective sends what it sends, and changes the collectives besides. -/
theorem State.endColls_lanes (s : State) (k : ReqKey) (st : Nat) :
    SameRegs laneKeys s (s.endColls k st) ∧ (s.endColls k st).fab.remotes = s.fab.remotes := by
  unfold State.endColls
  split
  · exact ⟨SameRegs.refl _ _, rfl⟩
  · rename_i x _
    have h := Sends.foldl (fun s m => s.sendError_sends m k.2 st) (x.participants.filter fun m => m ≠ s.rd R.optCfgModuleId 0 && m ∉ x.gone)
      (s.updFab fun f => { f with colls := f.colls.filter fun y => (y.client, y.req) ≠ k })
    exact ⟨h.lanes, h.remotes⟩

/-- From `s` to `t` the retrieval of request `k`, the only one, has failed with a status: it waits for its boundary with it, its collective is gone, and
otherwise messages have been sent and its search is dropped. -/
structure RetrievalFails (s t : State) (k : ReqKey) (y : Retrieve) (st : Nat) : Prop where
  retrieves : t.retrieves = [{ y with error := some st, ready := true }]
  colls : t.fab.colls = s.fab.colls.filter fun z => (z.client, z.req) ≠ k
  lanes : SameRegs laneKeys s t
  keeps : Keeps s t
  remotes : t.fab.remotes = s.fab.remotes
  faults : t.faults = s.faults

theorem RetrievalFails.no_coll {s t : State} {k : ReqKey} {y : Retrieve} {st : Nat} (h : RetrievalFails s t k y st) :
    ∀ z ∈ t.fab.colls, (z.client, z.req) ≠ k := by
  rw [h.colls]
  exact fun z hz => of_decide_eq_true (List.mem_filter.1 hz).2

section
variable {s : State} {k : ReqKey} {y : Retrieve} (htab : ∀ e ∈ s.tables, e.2.commit = none ∧ e.2.updates = []) (hret : s.retrieves = [y])
  (hkey : (y.client, y.req) = k) (herr : y.error = none)

include hret hkey herr

theorem State.failWork_retrieval (st : Nat) : RetrievalFails s (s.failWork k st) k y st := by
  have heff := s.endColls_eff k st
  have hcolls := s.endColls_colls k st
  obtain ⟨hlanes, hremotes⟩ := s.endColls_lanes k st
  unfold State.failWork
  rw [if_pos (by simp [hret, hkey])]
  generalize s.endColls k st = u at heff hcolls hlanes hremotes ⊢
  have hr : u.retrieves = [y] := (heff.same .retrieves rfl).trans hret
  have hf : u.faults = s.faults := heff.same .faults rfl
  exact ⟨by simp [hr, hkey, herr, modFirst], by simpa using hcolls, by simpa [SameRegs] using hlanes, by simpa [Keeps] using heff.keeps rfl,
    by simpa using hremotes, by simpa using hf⟩

include htab

/-- Without a table that commits or is updated, a part of a request's work that fails is its retrieval's. -/
theorem State.failShared_retrieval (m st : Nat) : RetrievalFails s (s.failShared k m st) k y st := by
  have hcommit : s.tables.find? (fun (e : Nat × Table) => e.2.commit.any fun c => (c.client, c.req) = k) = none :=
    List.find?_eq_none.2 fun e he => by simp [(htab e he).1]
  have hupd : (s.tables.any fun (e : Nat × Table) => e.2.updates.any fun u => (u.client, u.req) = k) = false :=
    List.any_eq_false.2 fun e he => by simp [(htab e he).2]
  unfold State.failShared
  rw [hcommit]
  simp only [hupd, Bool.false_eq_true, if_false]
  exact State.failWork_retrieval hret hkey herr st

/-- A participant of its collective that is gone fails it with ST_NO_RESOURCE. -/
theorem State.gone_retrieval (m : Nat) : RetrievalFails s (s.gone k m) k y stNoResource := by
  have h := State.failShared_retrieval (s := s.updColl k fun x => { x with gone := x.gone ++ [m] }) htab hret hkey herr m stNoResource
  exact ⟨h.retrieves, h.colls.trans (filter_modFirst_of_neg _ fun a ha => by simpa using ha), h.lanes, h.keeps, h.remotes, h.faults⟩

end

end Sys2Proof.Machine
end

section
/-! CONTRIB at the root (R142, R143, R286): lists that wait, and the second merge. -/

namespace Sys2Proof.Machine

/-- The bytes of payload words. -/
abbrev wordBytes (ws : List (BitVec 128)) : List Byte := ws.flatMap fun w => leBytes 16 w.toNat

/-- A list of one fragment is complete with it. -/
theorem joinFrags_one (ws : List (BitVec 128)) : joinFrags 1 [(0, ws)] = some (wordBytes ws) := by
  simp [joinFrags]

/-- Of two fragments the first alone is no list. -/
theorem joinFrags_two (ws : List (BitVec 128)) : joinFrags 2 [(0, ws)] = none := by
  unfold joinFrags
  rw [if_neg]
  intro h
  have := List.all_eq_true.1 h.2 1 (by decide)
  simp at this

/-! ### Contributions -/

section
variable {s : State} {k : ReqKey} {m : FabMsg} {x : Coll}

/-- A participant's first list joins those of its collective. -/
theorem State.contributed_new (hc : s.fab.colls = [x]) (hk : (x.client, x.req) = k) {p : Nat} (hl : ∀ l ∈ x.lists, l.1 ≠ p) (b : List Byte) :
    s.contributed k p b = (s.withColl { x with lists := x.lists ++ [(p, b)] }).collCheck k := by
  have hnew : (x.lists.any fun l => l.1 = p) = false := List.any_eq_false.2 fun l h => by simpa using hl l h
  rw [State.contributed, State.updColl_single hc hk, if_neg (by rw [hnew]; exact Bool.false_ne_true)]

/-- What a contribution of one fragment comes to at the root: its words are charged, and its list joins those of its collective. -/
theorem State.contrib_of_one (hin : s.fab.inbox = []) (hcolls : s.fab.colls = [x]) (hreq : x.req = m.request) (hdone : x.done = false)
    (hsrc : m.src ∈ x.participants) (hkind : m.kind = 5) (hpoison : m.poison = []) (hkey : bitsOf (fabWord m 0) 47 44 = x.keyType) (hkey0 : x.keyType ≠ 0)
    (hidx : bitsOf (fabWord m 0) 15 0 = 0) (hcount : bitsOf (fabWord m 0) 31 16 = 1) (hfrags : x.frags = []) (hlists : ∀ l ∈ x.lists, l.1 ≠ m.src) :
    ∃ fs, s.contrib m = ((s.chargeFab (x.client, x.req) false (msgWords m)).withColl
      { x with frags := fs, lists := x.lists ++ [(m.src, wordBytes (m.payload.drop 1))] }).collCheck (x.client, x.req) := by
  have hfind : (s.fab.colls.find? fun z => z.req = m.request && z.keyType ≠ 0 && !z.done && decide (m.src ∈ z.participants)) = some x := by
    rw [hcolls]
    simp [hreq, hkey0, hdone, hsrc]
  have hnew : (x.lists.any fun l => l.1 = m.src) = false := List.any_eq_false.2 fun l hl => by simpa using hlists l hl
  obtain ⟨rs, hfab⟩ := s.chargeFab_fab (x.client, x.req) false (msgWords m)
  have hu : (s.chargeFab (x.client, x.req) false (msgWords m)).fab.colls = [x] := by rw [hfab]; exact hcolls
  have hframe : ∃ fs, s.contrib m = ((s.chargeFab (x.client, x.req) false (msgWords m)).withColl { x with frags := fs }).contributed
      (x.client, x.req) m.src (wordBytes (m.payload.drop 1)) := by
    refine ⟨[(m.src, 0, 1, bitsOf (fabWord m 0) 59 48, m.payload.drop 1)], ?_⟩
    unfold State.contrib
    rw [State.takeFab_of_empty hin]
    simp only [hfind, hkind, hnew, hkey, hpoison, hidx, hcount, hfrags, State.updColl_single hu rfl]
    simp [joinFrags_one]
  obtain ⟨fs, hframe⟩ := hframe
  exact ⟨fs, hframe.trans (State.contributed_new (x := { x with frags := fs }) rfl rfl hlists _)⟩

end

/-! ### The merges at the root -/

theorem State.bind_boundary_congr {s t : State} (hh : t.host = s.host) (hn : t.now = s.now) (k : ReqKey) :
    (t.req? k).bind t.boundary = (s.req? k).bind s.boundary := by
  have hb : t.boundary = s.boundary := funext fun r => by simp only [State.boundary, State.expired, hn]
  rw [hb, State.req?, State.req?, hh]

section
variable {s : State} {k : ReqKey} {x : Coll} {y : Retrieve}

/-- A collective waits for a participant that has sent no list. -/
theorem State.collCheck_waits (hx : s.coll? k = some x) {p : Nat} (hp : p ∈ x.participants) (hl : ∀ l ∈ x.lists, l.1 ≠ p) : s.collCheck k = s := by
  have hall : (x.participants.all fun m => x.lists.any fun l => l.1 = m) = false :=
    List.all_eq_false.2 ⟨p, hp, by rw [List.any_eq_false.2 fun l h => by simpa using hl l h]; exact Bool.false_ne_true⟩
  unfold State.collCheck
  rw [hx]
  cases s.retrieve? k with
  | none => rfl
  | some y => simp [hall]

variable (hx : s.coll? k = some x) (hy : s.retrieve? k = some y) (hdone : x.done = false)
  (hall : (x.participants.all fun m => x.lists.any fun l => l.1 = m) = true)
include hx hy hdone hall

/-- With all second contributions stage 7 ends in the second merge, unless the request ends at that boundary. -/
theorem State.collCheck_second (hkey : x.keyType = 4) (hstage : y.stage = 7) (hb : (s.req? k).bind s.boundary = none) :
    s.collCheck k = (s.updColl k fun z => { z with done := true }).updRetrieve k fun z =>
      { z with list2 := mergedList 4 x.k k.2 x.lists, stale := listStale (mergedList 4 x.k k.2 x.lists),
               few := z.few || decide (validOf (listEntries (mergedList 4 x.k k.2 x.lists)) < x.k), stage := 8, ready := true } := by
  unfold State.collCheck
  rw [hx, hy]
  simp [hdone, hall, hkey, hstage, hb]

/-- With all answers stage 9 has its passages, and the collective is gone. -/
theorem State.collCheck_passages (hkey : x.keyType = 0) (hstage : y.stage = 9) :
    ∃ refs n epochs digests, s.collCheck k = ((s.updFab fun f => { f with colls := f.colls.filter fun c => (c.client, c.req) ≠ k }).updReq k fun r =>
        { r with shardRefs := refs, modules := n }).updRetrieve k fun z =>
      { z with records := (sortBy (fun (a b : Nat × List Byte) => decide (a.1 < b.1)) x.lists).flatMap fun l => answerPassages l.2, ready := true,
               epochs := epochs, digests := digests } := by
  unfold State.collCheck
  rw [hx, hy]
  exact ⟨_, _, _, _, by simp only [hdone, hall, hkey, hstage]; rfl⟩

end

/-! ### The clauses -/

section
variable {s : State} {m : FabMsg} {x : Coll}

/-- A contribution that others are still awaited with is kept. -/
theorem State.contrib_waits {p : Nat} (hin : s.fab.inbox = []) (hcolls : s.fab.colls = [x]) (hreq : x.req = m.request) (hdone : x.done = false)
    (hsrc : m.src ∈ x.participants) (hkind : m.kind = 5) (hpoison : m.poison = []) (hkey : bitsOf (fabWord m 0) 47 44 = x.keyType) (hkey0 : x.keyType ≠ 0)
    (hidx : bitsOf (fabWord m 0) 15 0 = 0) (hcount : bitsOf (fabWord m 0) 31 16 = 1) (hfrags : x.frags = []) (hlists : ∀ l ∈ x.lists, l.1 ≠ m.src)
    (hp : p ∈ x.participants) (hne : p ≠ m.src) (hwait : ∀ l ∈ x.lists, l.1 ≠ p) :
    (∃ y, (s.contrib m).fab.colls = [y] ∧ y.done = false ∧ y.lists = x.lists ++ [(m.src, wordBytes (m.payload.drop 1))]) ∧
      (s.contrib m).retrieves = s.retrieves ∧ (s.contrib m).regs = s.regs ∧ Keeps s (s.contrib m) := by
  obtain ⟨fs, he⟩ := State.contrib_of_one hin hcolls hreq hdone hsrc hkind hpoison hkey hkey0 hidx hcount hfrags hlists
  have heff := s.chargeFab_eff (x.client, x.req) false (msgWords m)
  have hwait' : ∀ l ∈ x.lists ++ [(m.src, wordBytes (m.payload.drop 1))], l.1 ≠ p :=
    fun l hl => (List.mem_append.1 hl).elim (hwait l) fun h => by rw [List.mem_singleton.1 h]; exact hne.symm
  rw [State.collCheck_waits (x := { x with frags := fs, lists := _ }) (State.coll?_single rfl rfl) hp hwait'] at he
  have heff' := (State.withColl_eff _ { x with frags := fs, lists := x.lists ++ [(m.src, wordBytes (m.payload.drop 1))] }).step rfl heff
  rw [he]
  exact ⟨⟨_, rfl, hdone, rfl⟩, heff'.same .retrieves rfl, heff'.same .regs rfl, heff'.keeps rfl⟩

/-- The last contribution of the second merge ends stage 7. -/
theorem State.contrib_ends {y : Retrieve} (hin : s.fab.inbox = []) (hcolls : s.fab.colls = [x]) (hreq : x.req = m.request) (hdone : x.done = false)
    (hpart : x.participants = [m.src]) (hkind : m.kind = 5) (hpoison : m.poison = []) (hkey : bitsOf (fabWord m 0) 47 44 = 4) (hkey4 : x.keyType = 4)
    (hidx : bitsOf (fabWord m 0) 15 0 = 0) (hcount : bitsOf (fabWord m 0) 31 16 = 1) (hfrags : x.frags = []) (hlists : x.lists = [])
    (hret : s.retrieves = [y]) (hyk : (y.client, y.req) = (x.client, x.req)) (hstage : y.stage = 7)
    (hb : (s.req? (x.client, x.req)).bind s.boundary = none) :
    ∃ l, l = mergedList 4 x.k x.req [(m.src, wordBytes (m.payload.drop 1))] ∧
      (s.contrib m).retrieves = [{ y with list2 := l, stale := listStale l, few := y.few || decide (validOf (listEntries l) < x.k), stage := 8,
                                          ready := true }] ∧
      (∀ z ∈ (s.contrib m).fab.colls, z.done = true) ∧ (s.contrib m).regs = s.regs ∧ Keeps s (s.contrib m) := by
  obtain ⟨fs, he⟩ := State.contrib_of_one hin hcolls hreq hdone (by simp [hpart]) hkind hpoison (hkey.trans hkey4.symm) (by simp [hkey4]) hidx hcount hfrags
    (by simp [hlists])
  have heff := s.chargeFab_eff (x.client, x.req) false (msgWords m)
  generalize s.chargeFab (x.client, x.req) false (msgWords m) = u at he heff
  generalize hc : ({ x with frags := fs, lists := x.lists ++ [(m.src, wordBytes (m.payload.drop 1))] } : Coll) = c at he
  have hl : c.lists = [(m.src, wordBytes (m.payload.drop 1))] := by rw [← hc, hlists]; rfl
  have hck : (c.client, c.req) = (x.client, x.req) := by rw [← hc]
  have heff1 := (u.withColl_eff c).step rfl heff
  have hret1 : (u.withColl c).retrieves = [y] := (heff.same .retrieves rfl).trans hret
  rw [State.collCheck_second (State.coll?_single rfl hck) (State.retrieve?_single hret1 hyk) (by rw [← hc]; exact hdone) (by simp [← hc, hpart])
    (by rw [← hc]; exact hkey4) hstage ((State.bind_boundary_congr (heff1.same .host rfl) (heff1.same .now rfl) _).trans hb),
    State.updColl_single rfl hck] at he
  have hret2 : ((u.withColl c).withColl { c with done := true }).retrieves = [y] := hret1
  have heff2 : Eff 6442451008 s (s.contrib m) := by
    rw [he]
    exact (State.updRetrieve_eff ..).step rfl (((u.withColl c).withColl_eff _).step rfl (heff1.mono rfl))
  refine ⟨mergedList 4 c.k (x.client, x.req).2 c.lists, by rw [hl, ← hc], ?_, ?_, heff2.same .regs rfl, heff2.keeps rfl⟩
  · rw [he, State.updRetrieve_single hret2 hyk, ← hc]
  · intro z hz
    rw [he] at hz
    rw [List.mem_singleton.1 hz]
end

end Sys2Proof.Machine
end

section
/-! RESULT at a home module (R144, R286): fragments that wait, and the contribution to the second merge. -/

namespace Sys2Proof.Machine

/-- A request is found under its own key. -/
theorem State.req?_key {s : State} {k : ReqKey} {r : Req} (h : s.req? k = some r) : ((r.client, r.id) : ReqKey) = k := by
  have hk := List.find?_some h
  simp only [Bool.and_eq_true, decide_eq_true_eq] at hk
  exact Prod.ext hk.1 hk.2

/-! ### Lists that fit one fragment -/

section
variable {α : Type}

theorem chunksFuel_nil (f n : Nat) : chunksFuel f n ([] : List α) = [] := by cases f <;> rfl

/-- A list that is not empty and no longer than a run is one run. -/
theorem chunks_of_le {n : Nat} {l : List α} (hne : l ≠ []) (h : l.length ≤ n) : chunks n l = [l] := by
  cases l with
  | nil => exact absurd rfl hne
  | cons a r =>
    show (a :: r).take n :: chunksFuel r.length n ((a :: r).drop n) = [a :: r]
    rw [List.take_of_length_le h, List.drop_eq_nil_of_le h, chunksFuel_nil]

theorem chunksFuel_length {n : Nat} (hn : 0 < n) (f : Nat) (l : List α) : (chunksFuel f n l).length * n < l.length + n := by
  induction f generalizing l with
  | zero => simp [chunksFuel]; omega
  | succ f ih =>
    cases l with
    | nil => simpa [chunksFuel] using hn
    | cons a r =>
      have h := ih ((a :: r).drop n)
      simp only [chunksFuel, List.length_cons, Nat.add_mul, one_mul, List.length_drop] at h ⊢
      by_cases hle : n ≤ r.length + 1
      · omega
      · rw [List.drop_eq_nil_of_le (by simp; omega), chunksFuel_nil]
        simp

/-- Full runs but for the last. -/
theorem chunks_length {n : Nat} (hn : 0 < n) (l : List α) : (chunks n l).length * n < l.length + n := chunksFuel_length hn ..

theorem chunks_ne_nil {n : Nat} {l : List α} (h : l ≠ []) : chunks n l ≠ [] := by
  cases l with
  | nil => exact absurd rfl h
  | cons a r => exact List.cons_ne_nil _ _

end

/-- A list of at most 1,021 words is one fragment. -/
theorem fragsOf_one (root key : Nat) {list : List Byte} (hne : list ≠ []) (h : list.length ≤ 16 * 1021) : ∃ f, fragsOf root key list = [f] := by
  have hlen := chunks_length (n := 16) (by decide) list
  have hc : chunks 1021 ((chunks 16 list).map fun c => BitVec.ofNat 128 (leNat c)) = [(chunks 16 list).map fun c => BitVec.ofNat 128 (leNat c)] :=
    chunks_of_le (by simpa using chunks_ne_nil hne) (by rw [List.length_map]; omega)
  unfold fragsOf
  rw [hc]
  exact ⟨_, rfl⟩

/-- The header of Table RANK-5 takes 32 bytes and an entry 16. -/
theorem listBytes_length (typ sources dups invalid stale req : Nat) (es : List Entry) :
    (listBytes typ sources dups invalid stale req es).length = 32 + 16 * es.length := by
  have he : ∀ e : Entry, e.bytes.length = 16 := fun e => leBytes_length ..
  simp [listBytes, he]
  omega

theorem rankList_nil_length (typ n : Nat) : (rankList typ n []).length = n := by simp [rankList, sortBy]

/-- A list of one fragment goes out as one message, its words charged. -/
theorem State.sendList_one {s : State} {dst p root key : Nat} {list : List Byte} {f : List (BitVec 128)} (hr : s.route dst = some p)
    (hf : fragsOf root key list = [f]) (k : ReqKey) (kind req : Nat) :
    ∃ n, s.sendList k dst kind req root key list = (s.chargeFab k true n).sendHub dst kind req f := by
  unfold State.sendList State.unreachable
  rw [hf, hr]
  exact ⟨_, rfl⟩

/-! ### RESULT -/

/-- A module without shards has no candidate to re-rank. -/
theorem State.secondList_of_no_shards {s : State} (h : s.shards = []) (k : ReqKey) (vec list : List Byte) (k2 req : Nat) :
    s.secondList k vec list k2 req = (s, listBytes 4 1 0 0 0 req (rankList 4 k2 []), 0) := by
  have hslot : ∀ n, s.slotOf n = none := fun n => by simp [State.slotOf, State.shard?, h, aget]
  have hown : s.ownEntries k list = [] := by simp [State.ownEntries, hslot]
  simp [State.secondList, h, hown, State.rerankExact, nanKeys, stPoison]

section
variable {s : State} {m : FabMsg} {k : ReqKey} {r : Req}

variable (hin : s.fab.inbox = []) (hwork : s.remoteWork m.src m.request = [k]) (hreq : s.req? k = some r) (hpoison : m.poison = [])
  (hres : s.fab.results = []) (hidx : bitsOf (fabWord m 0) 15 0 = 0)
include hin hwork hreq hpoison hres hidx

/-- The first of two fragments is kept. -/
theorem State.fabResult_waits (hcount : bitsOf (fabWord m 0) 31 16 = 2) :
    s.fabResult m = s.updFab fun f => { f with results := [(m.request, m.src, 0, 2, m.payload.drop 1)] } := by
  unfold State.fabResult
  rw [State.takeFab_of_empty hin]
  simp [hwork, hreq, hpoison, hres, hidx, hcount, joinFrags_two, -List.drop_one]

/-- A module without shards answers the merged list with one that has no candidate. -/
theorem State.fabResult_answers (hcount : bitsOf (fabWord m 0) 31 16 = 1) (hshards : s.shards = []) :
    s.fabResult m = (s.updFab fun f => { f with results := [] }).contribute k 4
      (listBytes 4 1 0 0 0 m.request (rankList 4 (fieldLe r.param 74 2) [])) := by
  have hk := State.req?_key hreq
  unfold State.fabResult
  rw [State.takeFab_of_empty hin]
  have hputs : ∀ (u : State) (f g : FabState), (u.putFab f).putFab g = u.putFab g := fun _ _ _ => rfl
  simp [hwork, hreq, hpoison, hres, hidx, hcount, hk, hputs, joinFrags_one, State.secondList_of_no_shards, hshards, -List.drop_one]

end

section
variable {s : State} {k : ReqKey} {o : Remote} {p : Nat}

/-- Work done here for another module sends its list, where it fits one fragment, to that module as a contribution. -/
theorem State.contribute_sends (horigin : s.originOf k = some o) (hr : s.route o.src = some p) (key : Nat) {list : List Byte} (hne : list ≠ [])
    (hlen : list.length ≤ 16 * 1021) :
    (∃ x : FabMsg, (s.contribute k key list).Carries p x ∧ x.kind = 5 ∧ x.dst = o.src ∧ x.request = o.req) ∧
      (s.contribute k key list).fab.results = s.fab.results ∧ SameRegs laneKeys s (s.contribute k key list) ∧ Keeps s (s.contribute k key list) := by
  obtain ⟨f, hf⟩ := fragsOf_one o.src key hne hlen
  obtain ⟨n, he⟩ := State.sendList_one hr hf k 5 o.req
  have hreach : s.unreachable o.src = false := by rw [State.unreachable, hr]; rfl
  have hc : s.contribute k key list = (s.chargeFab k true n).sendHub o.src 5 o.req f := by
    unfold State.contribute
    rw [horigin]
    simp only [hreach, he]
    rfl
  have heff := s.chargeFab_eff k true n
  obtain ⟨l, hfab⟩ := s.chargeFab_fab k true n
  rw [hc]
  generalize s.chargeFab k true n = u at heff hfab ⊢
  have hregs : u.regs = s.regs := heff.same .regs rfl
  have hroute : u.route o.src = some p := by rw [State.route_congr hregs (by rw [hfab])]; exact hr
  have hs := u.sendHub_sends o.src 5 o.req f
  exact ⟨State.sendHub_carries (by decide) hroute, hs.results.trans (by rw [hfab]), (SameRegs.of_regs hregs).trans hs.lanes,
    (heff.keeps rfl).trans hs.keeps⟩

end

/-- A module without shards answers the merged list to the module that sent the work. -/
theorem State.fabResult_contributes {s : State} {m : FabMsg} {k : ReqKey} {r : Req} {o : Remote} {p : Nat} (hin : s.fab.inbox = [])
    (hwork : s.remoteWork m.src m.request = [k]) (hreq : s.req? k = some r) (horigin : s.originOf k = some o) (hr : s.route o.src = some p)
    (hpoison : m.poison = []) (hres : s.fab.results = []) (hidx : bitsOf (fabWord m 0) 15 0 = 0) (hcount : bitsOf (fabWord m 0) 31 16 = 1)
    (hshards : s.shards = []) (hk2 : fieldLe r.param 74 2 ≤ 1000) :
    (s.fabResult m).fab.results = [] ∧ (∃ x : FabMsg, (s.fabResult m).Carries p x ∧ x.kind = 5 ∧ x.dst = o.src ∧ x.request = o.req) ∧
      SameRegs laneKeys s (s.fabResult m) ∧ Keeps s (s.fabResult m) := by
  rw [State.fabResult_answers hin hwork hreq hpoison hres hidx hcount hshards]
  generalize hu : s.updFab (fun f => { f with results := [] }) = u
  have heff : Eff 4294967296 s u := hu ▸ State.updFab_eff ..
  have hregs : u.regs = s.regs := heff.same .regs rfl
  have hlen := listBytes_length 4 1 0 0 0 m.request (rankList 4 (fieldLe r.param 74 2) [])
  rw [rankList_nil_length] at hlen
  generalize listBytes 4 1 0 0 0 m.request (rankList 4 (fieldLe r.param 74 2) []) = list at hlen ⊢
  have hne : list ≠ [] := List.length_pos_iff.1 (by omega)
  obtain ⟨hcarries, hresults, hlanes, hkeeps⟩ := State.contribute_sends (s := u) (by rw [← hu]; exact horigin)
    ((congrFun (State.route_congr hregs (by rw [← hu]; rfl)) o.src).trans hr) 4 hne (by omega)
  exact ⟨hresults.trans (by rw [← hu]; rfl), hcarries, (SameRegs.of_regs hregs).trans hlanes, (heff.keeps rfl).trans hkeeps⟩

end Sys2Proof.Machine
end

section
/-! ERROR, UNREACH and COLLECTIVE_TIMEOUT (R15, R143, R277, R287). -/

namespace Sys2Proof.Machine

/-! ### Reports of other modules, unreachable ones and timeouts -/

theorem State.remoteWork_congr {s t : State} (h : t.fab.remotes = s.fab.remotes) : t.remoteWork = s.remoteWork := by
  funext src req
  rw [State.remoteWork, State.remoteWork, h]

theorem State.askedOf_congr {s t : State} (hh : t.host = s.host) (hf : t.fab = s.fab) (ht : t.tables = s.tables) (hl : t.lookups = s.lookups) :
    t.askedOf = s.askedOf := by
  funext req m
  simp only [State.askedOf, State.asked, hh, hf, ht, hl]

section
variable {s : State} {m : FabMsg} {k : ReqKey} {y : Retrieve} (hin : s.fab.inbox = []) (htab : ∀ e ∈ s.tables, e.2.commit = none ∧ e.2.updates = [])
  (hret : s.retrieves = [y]) (hkey : (y.client, y.req) = k) (herr : y.error = none)
include hin htab hret hkey herr

/-- An error report of a module that takes part in a retrieval fails it with the status reported. -/
theorem State.fabError_fails (hasked : s.askedOf m.request m.src = [k]) (hwork : s.remoteWork m.src m.request = []) :
    RetrievalFails s (s.fabError m) k y (fabWord m 0 % 2 ^ 16) := by
  have h := State.failShared_retrieval htab hret hkey herr m.src (fabWord m 0 % 2 ^ 16)
  unfold State.fabError
  rw [State.takeFab_of_empty hin]
  simp only [hasked, List.foldl_cons, List.foldl_nil, State.remoteWork_congr h.remotes, hwork]
  exact h

/-- A report that a participant of a retrieval cannot be reached is raised, and fails the retrieval. -/
theorem State.unreach_fails (hasked : s.askedOf m.request (fabWord m 0 % 2 ^ 12) = [k]) (hwork : s.remoteWork (fabWord m 0 % 2 ^ 12) m.request = []) :
    RetrievalFails (s.raise 0x087 (portSite ((s.route m.src).getD 0)) (portMaster ((s.route m.src).getD 0)) 0 4 0) (s.unreach m) k y stNoResource := by
  unfold State.unreach
  rw [State.takeFab_of_empty hin]
  have heff := s.raise_eff 0x087 (portSite ((s.route m.src).getD 0)) (portMaster ((s.route m.src).getD 0)) 0 4 0
  simp only
  generalize s.raise _ _ _ _ _ _ = u at heff ⊢
  have hfab : u.fab = s.fab := heff.same .fab rfl
  have h := State.gone_retrieval (s := u) (by rw [heff.same .tables rfl]; exact htab) ((heff.same .retrieves rfl).trans hret) hkey herr (fabWord m 0 % 2 ^ 12)
  simp only [State.askedOf_congr (heff.same .host rfl) hfab (heff.same .tables rfl) (heff.same .lookups rfl), hasked,
    List.foldl_cons, List.foldl_nil, State.remoteWork_congr (h.remotes.trans (congrArg _ hfab)), hwork]
  exact h

end

/-- A participant whose contribution is late fails the retrieval. -/
theorem State.collTimeout_fails {s : State} {q p u : Nat} {x : Coll} {y : Retrieve} (hcolls : s.fab.colls = [x]) (hreq : x.req = q)
    (hdone : x.done = false) (horder : x.order = [(p, u)]) (hlists : ∀ l ∈ x.lists, l.1 ≠ p) (hlate : u + 1000000 * s.rd R.optCfgCollMs 0 ≤ s.now)
    (htab : ∀ e ∈ s.tables, e.2.commit = none ∧ e.2.updates = []) (hret : s.retrieves = [y]) (hkey : (y.client, y.req) = (x.client, x.req))
    (herr : y.error = none) : RetrievalFails s (s.collTimeout q p) (x.client, x.req) y stNoResource := by
  have hnew : (x.lists.any fun l => l.1 = p) = false := List.any_eq_false.2 fun l h => by simpa using hlists l h
  have he : s.collTimeout q p = s.gone (x.client, x.req) p := by
    unfold State.collTimeout
    simp [hcolls, hreq, hdone, horder, hnew, hlate]
  rw [he]
  exact State.gone_retrieval htab hret hkey herr p

/-- A fault message that finds room in its site's queue is among those sent. -/
theorem State.raise_raises (s : State) (kind site master addr access outcome : Nat) :
    Raises s (s.raise kind site master addr access outcome) ⟨kind, site, master, addr, access, outcome, s.now % 2 ^ 32⟩ := by
  intro h
  unfold State.raise
  rw [if_neg (by simpa [State.hasRoom] using h)]
  simp

end Sys2Proof.Machine
end

section
/-! QUERY_FANOUT (R13, R123): a query that begins its search, and passages that end stage 9. -/

namespace Sys2Proof.Machine

/-! ### Work messages of a retrieval -/

/-- Work that comes in one message is complete with it. -/
theorem State.takeWork_single {s : State} {m : FabMsg} (hin : s.fab.inbox = []) (hwork : s.fab.work = []) (hcount : bitsOf (fabWord m 0) 95 64 ≤ 1) :
    s.takeWork m = (s, some (workBytes (m.payload.drop 1))) := by
  have hs : ∀ q, (s.updFab fun f => { f with work := f.work.filter q }) = s := fun q => by
    show s.putFab { s.fab with work := s.fab.work.filter q } = s
    rw [hwork, List.filter_nil, ← hwork]
    rfl
  unfold State.takeWork
  rw [State.takeFab_of_empty hin]
  simp only [hs, hwork, List.filter_nil, List.nil_append, List.length_singleton, List.flatMap_singleton]
  rw [if_neg (by omega)]

/-! ### A query -/

theorem State.addReq_host (s : State) (r : Req) : (s.addReq r).host =
    { s.host with reqs := s.host.reqs ++ [{ r with order := s.host.admitted, admittedAt := s.now }], admitted := s.host.admitted + 1 } := by
  unfold State.addReq
  split <;> rfl

/-- Work for another module's request joins the requests in flight; other than those nothing of the host interface changes. -/
theorem State.beginRemote_host (s : State) (src client req : Nat) (desc param : List Byte) (part : Nat) :
    (∃ r ∈ (s.beginRemote src client req desc param part).1.host.reqs, r.remote = some src ∧ r.id = req) ∧
      (s.beginRemote src client req desc param part).1.host.cq = s.host.cq := by
  unfold State.beginRemote
  simp only [State.addReq_host]
  exact ⟨⟨_, List.mem_append_right _ (List.mem_singleton_self _), rfl, rfl⟩, rfl⟩

/-- Each slot brings four walks. -/
theorem State.queueWalks_fold (k : ReqKey) (beam : Nat) (slots : List Nat) (s : State) :
    (slots.foldl (fun s i => s.queueWalks k i 0 beam) s).searches = s.searches ∧
      (slots.foldl (fun s i => s.queueWalks k i 0 beam) s).walks.length = s.walks.length + 4 * slots.length := by
  induction slots generalizing s with
  | nil => exact ⟨rfl, rfl⟩
  | cons i slots ih =>
    obtain ⟨hsearches, hwalks⟩ := ih (s.queueWalks k i 0 beam)
    refine ⟨hsearches, hwalks.trans ?_⟩
    simp [State.queueWalks]
    omega

/-- A search that begins is the last one, and its walks wait. -/
theorem State.beginSearch_searches (s : State) (k : ReqKey) (slots : List Nat) (params sketch : List Byte) (origin : Option Nat) :
    (∃ x ∈ (s.beginSearch k slots params sketch origin).searches, x.origin = origin ∧ x.req = k.2 ∧ x.slots = slots ∧ x.sketch = sketch) ∧
      (s.beginSearch k slots params sketch origin).walks.length = s.walks.length + 4 * slots.length := by
  unfold State.beginSearch
  extract_lets r u v
  have heff : Eff 131072 s r.1 := Eff.foldl_fst (fun _ _ _ => State.pinShard_eff ..) (Eff.refl ..)
  have hu : u.walks = s.walks := heff.same .walks rfl
  obtain ⟨hsearches, hwalks⟩ := State.queueWalks_fold k (spBeam params) slots v
  refine ⟨?_, hwalks.trans (congrArg (List.length · + _) hu)⟩
  rw [hsearches]
  exact ⟨_, List.mem_append_right _ (List.mem_singleton_self _), rfl, rfl, rfl, rfl⟩

/-- A query whose shards may be searched begins its search here. -/
theorem State.queryFanout_searches {s : State} {m : FabMsg} {l : List Nat} (hin : s.fab.inbox = []) (hwork : s.fab.work = []) (hkind : m.kind = 4)
    (hquery : workKind m = 1) (hpoison : m.poison = []) (hcount : bitsOf (fabWord m 0) 95 64 ≤ 1)
    (hserve : s.serve (0, 0) ((workBytes (m.payload.drop 1)).take 64) (qShards (workBytes (m.payload.drop 1)))
      (qNamed (workBytes (m.payload.drop 1))) = .slots l) :
    (∃ r ∈ (s.queryFanout m).host.reqs, r.remote = some m.src ∧ r.id = m.request) ∧
      (∃ x ∈ (s.queryFanout m).searches, x.origin = some m.src ∧ x.req = m.request ∧ x.slots = l ∧
        x.sketch = qSketch (workBytes (m.payload.drop 1))) ∧
      (s.queryFanout m).walks.length = s.walks.length + 4 * l.length ∧ (s.queryFanout m).host.cq = s.host.cq ∧ (s.queryFanout m).mem = s.mem := by
  have htake : s.queryFanout m = s.takeQuery m (workBytes (m.payload.drop 1)) := by
    unfold State.queryFanout
    simp only [hkind, hquery, hpoison, State.takeWork_single hin hwork hcount, hserve]
    rfl
  generalize workBytes (m.payload.drop 1) = b at hserve htake ⊢
  rw [htake]
  unfold State.takeQuery
  rw [hserve]
  simp only
  generalize ((l.head?.bind s.shard?).map (·.part)).getD 0 = part
  generalize hd : List.replicate 8 0 ++ slice b 64 8 ++ List.replicate 48 0 = desc
  have heff := s.beginRemote_eff m.src (workClient m) m.request desc b part
  obtain ⟨hreqs, hcq⟩ := s.beginRemote_host m.src (workClient m) m.request desc b part
  have hreq : (s.beginRemote m.src (workClient m) m.request desc b part).2.2 = m.request := rfl
  generalize s.beginRemote m.src (workClient m) m.request desc b part = y at heff hreqs hcq hreq ⊢
  have hpin := y.1.pinNamed_eff y.2 (qNamed b)
  have hbegin := (y.1.pinNamed y.2 (qNamed b)).beginSearch_eff y.2 l (b.take 64) (qSketch b) (some m.src)
  obtain ⟨hsearch, hwalks⟩ := (y.1.pinNamed y.2 (qNamed b)).beginSearch_searches y.2 l (b.take 64) (qSketch b) (some m.src)
  have hhost := (hbegin.same .host rfl).trans (hpin.same .host rfl)
  rw [hhost]
  refine ⟨hreqs, hreq ▸ hsearch, ?_, hcq, ?_⟩
  · rw [hwalks, show _ = y.1.walks from hpin.same .walks rfl, show _ = s.walks from heff.same .walks rfl]
  · exact (hbegin.mem rfl rfl).trans ((hpin.mem rfl rfl).trans (heff.mem rfl rfl))

/-! ### Passages -/

/-- The one answer that a retrieval waits for ends stage 9 with its passages. -/
theorem State.queryFanout_passages {s : State} {m : FabMsg} {x : Coll} {y : Retrieve} (hin : s.fab.inbox = []) (hwork : s.fab.work = [])
    (hkind : m.kind = 4) (hfetch : workKind m = 2) (hask : workAsk m = 1) (hpoison : m.poison = []) (hcount : bitsOf (fabWord m 0) 95 64 ≤ 1)
    (hcolls : s.fab.colls = [x]) (hkey : (x.client, x.req) = (workClient m, m.request)) (hkey0 : x.keyType = 0) (hdone : x.done = false)
    (hpart : x.participants = [m.src]) (hlists : x.lists = []) (hret : s.retrieves = [y]) (hyk : (y.client, y.req) = (x.client, x.req))
    (hstage : y.stage = 9) :
    (s.queryFanout m).fab.colls = [] ∧
      (∃ z, (s.queryFanout m).retrieves = [z] ∧ z.stage = 9 ∧ z.ready = true ∧ z.records = answerPassages (workBytes (m.payload.drop 1))) ∧
      (s.queryFanout m).host.cq = s.host.cq ∧ (s.queryFanout m).regs = s.regs ∧ (s.queryFanout m).mem = s.mem := by
  have htake : ∃ n, s.queryFanout m =
      (s.chargeFab (workClient m, m.request) false n).contributed (workClient m, m.request) m.src (workBytes (m.payload.drop 1)) := by
    refine ⟨3 + ((workBytes (m.payload.drop 1)).length + 15) / 16, ?_⟩
    unfold State.queryFanout
    simp only [hkind, hfetch, hask, hpoison, State.takeWork_single hin hwork hcount]
    rfl
  obtain ⟨n, htake⟩ := htake
  generalize workBytes (m.payload.drop 1) = b at htake ⊢
  rw [← hkey] at htake
  have heff := s.chargeFab_eff (x.client, x.req) false n
  obtain ⟨rs, hfab⟩ := s.chargeFab_fab (x.client, x.req) false n
  rw [htake]
  generalize s.chargeFab (x.client, x.req) false n = u at heff hfab ⊢
  have hc : u.fab.colls = [x] := by rw [hfab]; exact hcolls
  rw [State.contributed_new hc rfl (by simp [hlists]) b]
  generalize hx : ({ x with lists := x.lists ++ [(m.src, b)] } : Coll) = c
  have hl : c.lists = [(m.src, b)] := by rw [← hx, hlists]; rfl
  have hret' : (u.withColl c).retrieves = [y] := (heff.same .retrieves rfl).trans hret
  have heff' := (u.withColl_eff c).step rfl heff
  obtain ⟨refs, k, epochs, digests, he⟩ := State.collCheck_passages (k := (x.client, x.req)) (State.coll?_single (x := c) rfl (by rw [← hx]))
    (State.retrieve?_single hret' hyk) (by rw [← hx]; exact hdone) (by simp [← hx, hpart]) (by rw [← hx]; exact hkey0) hstage
  rw [he]
  have hck : (c.client, c.req) = (x.client, x.req) := by rw [← hx]
  have hcw : (u.withColl c).fab.colls = [c] := rfl
  generalize u.withColl c = w at hret' heff' hcw ⊢
  refine ⟨?_, ⟨_, State.updRetrieve_single hret' hyk _, hstage, rfl, by simp [hl, sortBy, insertBy]⟩, ?_, ?_, ?_⟩
  · show w.fab.colls.filter (fun z => (z.client, z.req) ≠ (x.client, x.req)) = []
    rw [hcw, ← hck]
    simp
  · show w.host.cq = s.host.cq
    exact congrArg HostIf.cq (heff'.same .host rfl)
  · exact heff'.same .regs rfl
  · exact heff'.mem rfl rfl

end Sys2Proof.Machine
end

section
/-! Each command of a collective by the lemma on its operation. -/

namespace Sys2Proof.Machine

theorem exec_contrib (m : FabMsg) (s : State) : exec (.contrib m) s = .next (s.contrib m) := rfl
theorem exec_result (m : FabMsg) (s : State) : exec (.result m) s = .next (s.fabResult m) := rfl
theorem exec_error (m : FabMsg) (s : State) : exec (.error m) s = .next (s.fabError m) := rfl
theorem exec_unreach (m : FabMsg) (s : State) : exec (.unreach m) s = .next (s.unreach m) := rfl
theorem exec_collectiveTimeout (q p : Nat) (s : State) : exec (.collectiveTimeout q p) s = .next (s.collTimeout q p) := rfl
theorem exec_queryFanout (m : FabMsg) (s : State) : exec (.queryFanout m) s = .next (s.queryFanout m) := rfl

end Sys2Proof.Machine

open Sys2Proof.Machine

/-- Settles O54: what each message does is stated by the lemmas on contributions, on results, on work that fails, on queries and on passages. -/
theorem collectiveCommandsComplete : Obligations.CollectiveCommandsComplete := by
  refine ⟨?contribWaits, ?contribEnds, ?resultWaits, ?resultAnswers, ?error, ?unreach, ?timeout, ?query, ?passages⟩
  case contribWaits =>
    intro s m x p hin hcolls hreq hdone hsrc hkind hpoison hkey hkey0 hidx hcount hfrags hlists hp hne hwait
    exact ⟨_, exec_contrib .., State.contrib_waits hin hcolls hreq hdone hsrc hkind hpoison hkey hkey0 hidx hcount hfrags hlists hp hne hwait⟩
  case contribEnds =>
    intro s m x y hin hcolls hreq hdone hpart hkind hpoison hkey hkey4 hidx hcount hfrags hlists hret hyk hstage hb
    exact ⟨_, exec_contrib .., State.contrib_ends hin hcolls hreq hdone hpart hkind hpoison hkey hkey4 hidx hcount hfrags hlists hret hyk hstage hb⟩
  case resultWaits =>
    intro s m k r hin hwork hreq hpoison hres hidx hcount
    refine ⟨_, exec_result .., ?_⟩
    rw [State.fabResult_waits hin hwork hreq hpoison hres hidx hcount]
    exact ⟨rfl, rfl, rfl, rfl⟩
  case resultAnswers =>
    intro s m k r o p hin hwork hreq horigin hr hpoison hres hidx hcount hshards hk2
    exact ⟨_, exec_result .., State.fabResult_contributes hin hwork hreq horigin hr hpoison hres hidx hcount hshards hk2⟩
  case error =>
    intro s m k y hin hasked hwork htab hret hkey herr
    have h := State.fabError_fails hin htab hret hkey herr hasked hwork
    exact ⟨_, exec_error .., h.retrieves, h.no_coll, h.lanes, h.keeps⟩
  case unreach =>
    intro s m k y hin hasked hwork htab hret hkey herr
    have h := State.unreach_fails hin htab hret hkey herr hasked hwork
    have heff := s.raise_eff 0x087 (portSite ((s.route m.src).getD 0)) (portMaster ((s.route m.src).getD 0)) 0 4 0
    obtain ⟨-, -, -, hclusters, -⟩ := h.keeps
    refine ⟨_, exec_unreach .., h.retrieves, h.no_coll, hclusters.trans (heff.same .clusters rfl), fun hroom => ?_⟩
    rw [h.faults]
    exact State.raise_raises _ _ _ _ _ _ _ hroom
  case timeout =>
    intro s q p u x y hcolls hreq hdone horder hlists hlate htab hret hkey herr
    have h := State.collTimeout_fails hcolls hreq hdone horder hlists hlate htab hret hkey herr
    refine ⟨_, exec_collectiveTimeout .., h.retrieves, ?_, h.lanes, h.keeps⟩
    rw [h.colls, hcolls]
    simp
  case query =>
    intro s m l hin hwork hkind hquery hpoison hcount hserve
    exact ⟨_, exec_queryFanout .., State.queryFanout_searches hin hwork hkind hquery hpoison hcount hserve⟩
  case passages =>
    intro s m x y r hin hwork hkind hfetch hask hpoison hcount hcolls hkey hkey0 hdone hpart hlists hret hyk hstage _
    exact ⟨_, exec_queryFanout .., State.queryFanout_passages hin hwork hkind hfetch hask hpoison hcount hcolls hkey hkey0 hdone hpart hlists
      hret hyk hstage⟩

end

section
/-! Clean words (R253, R254): a word that decodes without a correction is the codeword of the data it gives. -/

namespace Sys2Proof.Machine

theorem xor_left_comm (a b c : Byte) : a ^^^ (b ^^^ c) = b ^^^ (a ^^^ c) := by rw [← BitVec.xor_assoc, BitVec.xor_comm a b, BitVec.xor_assoc]

/-- α × a is a shifted by one bit, reduced by the field polynomial where a has its highest bit. -/
theorem gfX_eq (a : Byte) : gfX a = (a <<< 1) ^^^ (if a.msb then 0x1D#8 else 0#8) := by
  unfold gfX
  rw [BitVec.msb_eq_decide]
  by_cases h : a.toNat < 128
  · rw [if_pos h, if_neg (by simp; omega)]
    simp
  · rw [if_neg h, if_pos (by simp; omega)]

/-- Multiplication by α is linear. -/
theorem gfX_xor (a b : Byte) : gfX (a ^^^ b) = gfX a ^^^ gfX b := by
  simp only [gfX_eq, BitVec.msb_xor, BitVec.shiftLeft_xor_distrib]
  cases a.msb <;> cases b.msb <;> simp [BitVec.xor_assoc, BitVec.xor_comm, xor_left_comm]

/-- 1 + α is not zero: an element that α leaves is 0. -/
theorem eq_zero_of_gfX_eq : ∀ a : Byte, gfX a = a → a = 0 := by decide

/-- 1 + α divides: an element is known by its product with it. -/
theorem eq_of_gfX_xor_self_eq {a b : Byte} (h : gfX a ^^^ a = gfX b ^^^ b) : a = b := by
  have ha : gfX a = gfX b ^^^ b ^^^ a := by rw [← h, BitVec.xor_assoc, BitVec.xor_self, BitVec.xor_zero]
  have hx : gfX (a ^^^ b) = a ^^^ b := by
    rw [gfX_xor, ha]
    simp [BitVec.xor_comm, xor_left_comm]
  exact BitVec.xor_eq_zero_iff.1 (eq_zero_of_gfX_eq _ hx)

/-- What is left of the division of D(x) × x² by g(x): (C1, C0). -/
def divided (data : List Byte) : Byte × Byte := data.foldr (fun d r => encStep r d) (0, 0)

theorem divided_cons (d : Byte) (data : List Byte) : divided (d :: data) = encStep (divided data) d := rfl

theorem checkSyms_eq (data : List Byte) : checkSyms data = ((divided data).2, (divided data).1) := by
  simp [checkSyms, divided]

theorem synd0_cons (a : Byte) (w : List Byte) : synd0 (a :: w) = a ^^^ synd0 w := by
  unfold synd0
  rw [List.foldl_eq_foldr, List.foldl_eq_foldr]
  rfl

/-- The codeword's value at 1 is zero. -/
theorem divided_synd0 (data : List Byte) : (divided data).1 ^^^ (divided data).2 = synd0 data := by
  induction data with
  | nil => rfl
  | cons d r ih =>
    rw [synd0_cons, ← ih]
    simp only [divided_cons, encStep]
    simp [BitVec.xor_assoc, BitVec.xor_comm, xor_left_comm]

/-- The codeword's value at α is zero. -/
theorem divided_synd1 (data : List Byte) : (divided data).2 ^^^ gfX (divided data).1 = gfX (gfX (synd1 data)) := by
  induction data with
  | nil => rfl
  | cons d r ih =>
    have hs : synd1 (d :: r) = gfX (synd1 r) ^^^ d := rfl
    rw [hs, gfX_xor, gfX_xor, ← ih]
    simp only [divided_cons, encStep, gfX_xor]
    simp [BitVec.xor_assoc, BitVec.xor_comm, xor_left_comm]

/-- Both syndromes of a word are zero only where its check symbols are those of its data. -/
theorem checkSyms_of_synd_zero {a b : Byte} {data : List Byte} (h0 : synd0 (a :: b :: data) = 0) (h1 : synd1 (a :: b :: data) = 0) :
    checkSyms data = (a, b) := by
  have e0 : a ^^^ b = (divided data).2 ^^^ (divided data).1 := by
    rw [BitVec.xor_comm (divided data).2, divided_synd0, ← BitVec.xor_eq_zero_iff, BitVec.xor_assoc, ← synd0_cons, ← synd0_cons]
    exact h0
  have e1 : a ^^^ gfX b = (divided data).2 ^^^ gfX (divided data).1 := by
    have hs : synd1 (a :: b :: data) = gfX (gfX (synd1 data) ^^^ b) ^^^ a := rfl
    rw [hs, gfX_xor, BitVec.xor_comm _ a, BitVec.xor_comm _ (gfX b), ← BitVec.xor_assoc] at h1
    rw [divided_synd1]
    exact BitVec.xor_eq_zero_iff.1 h1
  have hb : b = (divided data).1 := eq_of_gfX_xor_self_eq (by
    have ha : ∀ x y : Byte, gfX x ^^^ x = (y ^^^ gfX x) ^^^ (y ^^^ x) := fun x y => by
      simp [BitVec.xor_assoc, BitVec.xor_comm]
    rw [ha b a, e0, e1, ← ha])
  have ha : a = (divided data).2 := by
    rw [hb] at e0
    exact (BitVec.xor_left_inj _).1 e0
  rw [checkSyms_eq, ← ha, ← hb]

/-- A word that decodes without a correction is the codeword of its data. -/
theorem encodeWord_of_decodeWord {detect : Bool} {w b : List Byte} (h : decodeWord detect w = .word b none) (hb : b.length = 16) :
    encodeWord b = w := by
  have hclass : classify w = .clean ∧ b = w.drop 2 := by
    unfold decodeWord at h
    cases hc : classify w with
    | clean => simpa [hc, eq_comm] using h
    | single p e => cases detect <;> simp [hc] at h
    | poison => simp [hc] at h
    | uncorrectable => simp [hc] at h
  obtain ⟨hc, rfl⟩ := hclass
  have hz : synd0 w = 0 ∧ synd1 w = 0 := by
    unfold classify at hc
    by_contra hn
    simp only [if_neg hn] at hc
    split at hc
    · cases hc
    · split at hc
      · cases hc
      · split at hc <;> cases hc
  obtain _ | ⟨x, _ | ⟨y, data⟩⟩ := w
  · simp at hb
  · simp at hb
  · have hd : List.drop 2 (x :: y :: data) = data := rfl
    rw [hd, encodeWord, checkSyms_of_synd_zero hz.1 hz.2]

end Sys2Proof.Machine
end

section
/-! A cluster whose scratch is sound and that has no transfer outstanding: what its reads and writes of scratch do, and what its clock leaves
(R92 to R99, R254, R262). -/

namespace Sys2Proof.Machine

/-! ### Words of sound scratch -/

theorem sget_of_not_mem {α : Type} {d : α} {m : Sparse α} {i : Nat} (h : ∀ e ∈ m, e.1 ≠ i) : sget d m i = d := by
  induction m with
  | nil => rfl
  | cons e r ih =>
    have hne : i ≠ e.1 := Ne.symm (h e List.mem_cons_self)
    simp only [sget, if_neg hne, ih fun x hx => h x (List.mem_cons_of_mem _ hx), ite_self]

/-- A word without a listed cell holds zeros. -/
theorem wordAt_of_not_mem {c : List Host.Cell} {w : Nat} (h : ∀ e ∈ c, e.1 / 18 ≠ w) : wordAt c w = List.replicate 18 0 := by
  apply List.ext_getElem
  · simp [wordAt, sgetList]
  · intro n hn _
    have hlt : n < 18 := by simpa [wordAt, sgetList] using hn
    simp only [wordAt, sgetList, List.getElem_map, List.getElem_range, List.getElem_replicate]
    exact sget_of_not_mem fun e he heq => h e he (by omega)

/-- No word of sound scratch is uncorrectable, listed or not. -/
theorem Cluster.Sound.word {c : Cluster} (h : c.Sound) (w : Nat) : decodeWord false (wordAt c.scratch w) ≠ .uncorrectable := by
  by_cases hw : ∃ e ∈ c.scratch, e.1 / 18 = w
  · obtain ⟨e, he, rfl⟩ := hw
    exact h e he
  · rw [wordAt_of_not_mem (by simpa using hw)]
    decide

/-! ### Reads and writes of sound scratch -/

theorem State.raise_eq (s : State) (kind site master addr access outcome : Nat) :
    ∃ f, s.raise kind site master addr access outcome = s.putFaults f := by
  unfold State.raise
  dsimp only
  split <;> exact ⟨_, rfl⟩

theorem State.codeCorrected_eq (s : State) (site master addr : Nat) : ∃ f, s.codeCorrected site master addr = s.putFaults f := by
  unfold State.codeCorrected
  dsimp only
  split
  · exact State.raise_eq _ ..
  · exact ⟨s.faults, rfl⟩

/-- A run of changes of the fault messages alone. -/
theorem State.foldl_putFaults {α : Type} {g : State → α → State} (hg : ∀ s a, ∃ f, g s a = s.putFaults f) (l : List α) (s : State) :
    ∃ f, l.foldl g s = s.putFaults f := by
  induction l generalizing s with
  | nil => exact ⟨s.faults, rfl⟩
  | cons a l ih =>
    obtain ⟨f, hf⟩ := hg s a
    rw [List.foldl_cons, hf]
    exact ih _

/-- The decoder gets through sound words; corrections are reported. -/
theorem State.scratchRead_sound {s : State} {cl : Nat} (h : (s.cluster cl).Sound) (ws : List Nat) :
    ∃ f, s.scratchRead cl ws = (s.putFaults f, true) := by
  induction ws generalizing s with
  | nil => exact ⟨s.faults, rfl⟩
  | cons w r ih =>
    unfold State.scratchRead
    split
    · exact absurd ‹_› (h.word w)
    · obtain ⟨f, hf⟩ := s.codeCorrected_eq (s.scratchSite cl w) (clusterMaster cl) (16 * w)
      rw [hf]
      exact ih (s := s.putFaults f) h
    · exact ih h

section
variable {s : State} {cl : Nat} (hx : (s.cluster cl).xfers = []) (h : (s.cluster cl).Sound)
include hx h

/-- A unit of a sound cluster without transfers reads what it asks for. -/
theorem State.reading_sound (l : List (Nat × Nat)) : ∃ f, ∀ g, s.reading cl l g = g (s.putFaults f) := by
  obtain ⟨f, hf⟩ := State.scratchRead_sound h (l.flatMap fun e => scratchWords e.1 e.2)
  refine ⟨f, fun g => ?_⟩
  unfold State.reading
  rw [if_neg (by simp [Cluster.hazard, hx]), hf]

/-- It writes what it is to write; a merge into a poisoned word is reported. -/
theorem State.writing_sound (cls : Nat) (l : List (Nat × Nat)) : ∃ f, ∀ g, s.writing cl cls l g = g (s.putFaults f) := by
  obtain ⟨f, hf⟩ := State.scratchRead_sound h (l.flatMap fun e => edgeWords e.1 e.2)
  obtain ⟨f', hf'⟩ := State.foldl_putFaults (fun (s : State) w => s.raise_eq 0x044 (s.clusterSite cl cls 0) (clusterMaster cl) (16 * w) 2 0)
    ((l.flatMap fun e => edgeWords e.1 e.2).filter fun w => readWord correctMode ((s.putFaults f).cluster cl).scratch w == .poisoned)
    (s.putFaults f)
  refine ⟨f', fun g => ?_⟩
  unfold State.writing
  simp only [hf]
  rw [if_neg (by simp [Cluster.hazard, hx])]
  exact congrArg g hf'
end

/-- A cluster that can issue does. -/
theorem State.onCluster_of_issues {s : State} {cl : Nat} (h : s.Issues cl) (f : Cluster → State) : s.onCluster cl f = f (s.cluster cl) := by
  obtain ⟨hlt, hpart, hheld, hstop, -⟩ := h
  unfold State.onCluster
  dsimp only
  rw [if_pos ⟨hlt, by simp [Cluster.canIssue, hheld, hstop], hpart⟩]

/-! ### The clock -/

/-- What a cluster stores: its scratch, its instruction memory and its completion counters. -/
def Cluster.store (c : Cluster) : List Host.Cell × Sparse Reg64 × Sparse Nat := (c.scratch, c.imem, c.counters)

@[simp] theorem Cluster.store_slipReadOut (c : Cluster) : c.slipReadOut.store = c.store := by
  unfold Cluster.slipReadOut
  split <;> rfl

@[simp] theorem Cluster.store_slip (c : Cluster) (u : BankUse) : (c.slip u).store = c.store := by
  unfold Cluster.slip
  split
  · rfl
  · rfl
  · dsimp only
    split
    · exact Cluster.store_slipReadOut _
    · rfl
  · rfl
  · rfl

theorem Cluster.store_foldl {α : Type} {f : Cluster → α → Cluster} (hf : ∀ c a, (f c a).store = c.store) (l : List α) (c : Cluster) :
    (l.foldl f c).store = c.store := by
  induction l generalizing c with
  | nil => rfl
  | cons a l ih => rw [List.foldl_cons, ih, hf]

@[simp] theorem Cluster.store_tick (c : Cluster) : c.tick.store = c.store := by
  unfold Cluster.tick
  dsimp only
  split
  · rfl
  · rw [Cluster.store_foldl Cluster.store_slip]
    rfl

@[simp] theorem Cluster.store_advance (c : Cluster) (n : Nat) : (c.advance n).store = c.store := by
  induction n generalizing c with
  | zero => rfl
  | succ n ih =>
    unfold Cluster.advance
    split
    · rfl
    · rw [ih, Cluster.store_tick]

@[simp] theorem Cluster.store_bankStall (fuel order mask : Nat) (c : Cluster) : (c.bankStall fuel order mask).store = c.store := by
  induction fuel generalizing c with
  | zero => rfl
  | succ n ih =>
    unfold Cluster.bankStall
    dsimp only
    split
    · rfl
    · rw [ih, Cluster.store_tick]

@[simp] theorem Cluster.store_copyRun (c : Cluster) (spans : List (List Touch)) : (c.copyRun spans).store = c.store :=
  Cluster.store_foldl (fun c ts => by rw [Cluster.store_advance, Cluster.store_bankStall]) spans c

@[simp] theorem Cluster.store_nextInstr (c : Cluster) : c.nextInstr.store = c.store := rfl

@[simp] theorem Cluster.store_issue (c : Cluster) (n : Nat) : (c.issue n).store = c.store := by
  rw [Cluster.issue, Cluster.store_nextInstr, Cluster.store_advance]

theorem Cluster.store_eq {c d : Cluster} (h : c.store = d.store) : c.scratch = d.scratch ∧ c.imem = d.imem ∧ c.counters = d.counters := by
  simpa [Cluster.store] using h

/-! ### A change of one cluster -/

theorem State.setCluster_onlyCluster (s : State) (cl : Nat) (x : Cluster) : OnlyCluster cl s (s.setCluster cl x) :=
  ⟨fun _ hj => State.cluster_put_ne s x hj, rfl, rfl, rfl, rfl⟩

end Sys2Proof.Machine
end

section
/-! Streams (R97, R99, R103, R104): a transfer is queued, and one of a word completes. -/

namespace Sys2Proof.Machine

/-! ### Bindings: they stand in registers and in the owners of granules -/

section
variable {s t : State} (hr : t.regs = s.regs)
include hr

theorem State.isSet_congr : t.isSet = s.isSet := by
  funext f i
  rw [State.isSet, State.isSet, State.rd_congr hr]

theorem State.viewLive_congr : t.viewLive = s.viewLive := by
  have hc : t.chanLive = s.chanLive := by
    funext c
    rw [State.chanLive, State.chanLive, State.rd_congr hr]
  funext v
  rw [State.viewLive, State.viewLive, hc]

theorem State.backed_congr : t.backed = s.backed := by
  have hb : t.chanBytes = s.chanBytes := by
    rw [State.chanBytes, State.chanBytes, State.gradeM, State.gradeM, State.isSet_congr hr]
  have hp : t.poolSize = s.poolSize := by
    funext v
    rw [State.poolSize, State.poolSize, hb, State.viewLive_congr hr, State.rd_congr hr]
  have hw : t.viewWithdrawn = s.viewWithdrawn := by
    funext v
    rw [State.viewWithdrawn, State.viewWithdrawn, State.isSet_congr hr, State.viewLive_congr hr]
  funext a
  rw [State.backed, State.backed, hp, hw]

theorem State.streamOk_congr (hm : t.mem = s.mem) : t.streamOk = s.streamOk := by
  have ho : t.ownsRange = s.ownsRange := by
    have hg : t.ownerOf = s.ownerOf := by
      funext a
      rw [State.ownerOf, State.ownerOf, hm]
    funext p a n
    rw [State.ownsRange, State.ownsRange, hg, State.backed_congr hr]
  have hz : t.partSize = s.partSize := by
    funext p
    rw [State.partSize, State.partSize, State.rd_congr hr]
  funext p d e page
  rw [State.streamOk, State.streamOk, ho, hz]
end

/-! ### STREAM and PAGE -/

/-- A descriptor that is sound, free of hazards and within its bounds is queued. -/
theorem State.queueXfer_queues {s : State} {cl a e p : Nat} {page : Bool} {d : List Byte} (i : Instr) (hi : s.Issues cl)
    (hs : (s.cluster cl).Sound) (hp : s.partOf cl = some p) (hd : (s.cluster cl).readS a 32 = (d, false))
    (hm : (!page && (s.cluster cl).meetsUse d) = false) (hok : s.streamOk p d e page = true) :
    ∃ f, s.queueXfer cl a e page i = (s.putFaults f).setCluster cl { (s.cluster cl).issue 1 with
      xfers := [⟨e, stCounter d, d, page, false, s.rd R.cfgPstatRgen p, false⟩] } := by
  obtain ⟨-, -, -, -, hx⟩ := id hi
  obtain ⟨f, hf⟩ := State.reading_sound hx hs [(a, 32)]
  refine ⟨f, ?_⟩
  rw [← State.streamOk_congr (s := s) (t := s.putFaults f) rfl rfl] at hok
  unfold State.queueXfer
  rw [State.onCluster_of_issues hi]
  simp only [hp, hd, hx, hf, hm, hok, List.filter_nil, List.length_nil, List.nil_append, List.any_nil, Bool.false_eq_true, Bool.not_true,
    or_false, if_false]
  rfl

/-- What a queued transfer leaves. -/
theorem State.cluster_of_queued (s : State) (cl : Nat) (f : FaultState) (x : List Xfer) :
    let t := (s.putFaults f).setCluster cl { (s.cluster cl).issue 1 with xfers := x }
    (t.cluster cl).xfers = x ∧ (t.cluster cl).scratch = (s.cluster cl).scratch ∧ (t.cluster cl).imem = (s.cluster cl).imem ∧
      (t.cluster cl).counters = (s.cluster cl).counters ∧ OnlyCluster cl s t := by
  obtain ⟨hscratch, himem, hcounters⟩ := Cluster.store_eq ((s.cluster cl).store_issue 1)
  dsimp only
  refine ⟨?_, ?_, ?_, ?_, (s.putFaults f).setCluster_onlyCluster cl _⟩ <;> simp only [State.setCluster_eq, State.cluster_put_same]
  · exact hscratch
  · exact himem
  · exact hcounters

end Sys2Proof.Machine
end

section
/-! TRANSFER_COMPLETE (R103, R104): a transfer of one word into scratch. -/

namespace Sys2Proof.Machine

/-- A controller reads a clean word as it is; its channel has been used. -/
theorem State.readCtl_clean {s : State} {w : Nat} {b : List Byte} (master : Nat)
    (h : ∀ detect, decodeWord detect (wordAt s.mem.cells w) = .word b none) :
    s.readCtl w master [] = (s.touchChan (wordChan w), .word b none) := by
  have hd := h ((s.touchChan (wordChan w)).detects w)
  unfold State.readCtl
  dsimp only
  rw [show addNoise (wordAt (s.touchChan (wordChan w)).mem.cells w) (([] : List (List (Nat × Byte))).getD 0 []) = wordAt s.mem.cells w from rfl, hd]

/-- A transfer reads a clean word as its codeword; of the state the use of a memory channel changes at most. -/
theorem State.xferRead_clean {s : State} {cl p a : Nat} {d b : List Byte}
    (h : ∀ detect, decodeWord detect (s.remoteWord cl p d a) = .word b none) (hb : b.length = 16) :
    ∃ m : MemState, m.cells = s.mem.cells ∧ s.xferRead cl p d a = (s.putMem m, some (encodeWord b)) := by
  unfold State.xferRead
  by_cases hs : stSpace d = 0
  · have hw : s.remoteWord cl p d a = wordAt s.mem.cells (s.devWord a) := by simp [State.remoteWord, hs]
    rw [if_pos hs, State.readCtl_clean _ fun detect => by rw [← hw, h]]
    exact ⟨s.mem.use s.now [wordChan (s.devWord a)], rfl, rfl⟩
  · refine ⟨s.mem, rfl, ?_⟩
    rw [if_neg hs, h false, encodeWord_of_decodeWord (h false) hb]
    rfl

/-- The words of a transfer of one. -/
theorem xferWords_one {d : List Byte} (hr : stRows d = 1) (hw : stRowWords d = 1) : xferWords d = [(stLocal d, stRemoteRow d 0)] := by
  simp [xferWords, hr, hw]

/-- The clean word of a transfer is stored. -/
theorem State.moveWords_one {s : State} {cl p : Nat} {d b : List Byte} (hr : stRows d = 1) (hw : stRowWords d = 1) (ho : stOut d = false)
    (h : ∀ detect, decodeWord detect (s.remoteWord cl p d (stRemoteRow d 0)) = .word b none) (hb : b.length = 16) :
    ∃ (m : MemState) (l : List Nat), m.cells = s.mem.cells ∧ s.moveWords cl p d (xferWords d) = ((s.putMem m).setCluster cl { s.cluster cl with
      scratch := putWord (s.cluster cl).scratch (stLocal d / 16) (encodeWord b), poisonReads := l }, true) := by
  obtain ⟨m, hm, hread⟩ := State.xferRead_clean h hb
  rw [xferWords_one hr hw]
  simp only [State.moveWords, ho, Bool.false_eq_true, if_false, hread]
  exact ⟨m, _, hm, rfl⟩

@[simp] theorem encodeWord_length (b : List Byte) : (encodeWord b).length = b.length + 2 := rfl

/-- The one transfer of a cluster completes: its word is in scratch, and its counter has counted it. -/
theorem State.transferDone_one {s : State} {cl p : Nat} {x : Xfer} {b : List Byte} (hp : s.partOf cl = some p) (hx : (s.cluster cl).xfers = [x])
    (hc : x.complete = false) (hpage : x.page = false) (hg : x.rgen = s.rd R.cfgPstatRgen p) (hr : stRows x.desc = 1)
    (hw : stRowWords x.desc = 1) (ho : stOut x.desc = false)
    (h : ∀ detect, decodeWord detect (s.remoteWord cl p x.desc (stRemoteRow x.desc 0)) = .word b none) (hb : b.length = 16)
    (hh : s.rd R.pwrStatHold 0 ≠ 1) :
    ∃ (m : MemState) (l : List Nat) (c : Sparse Cluster), m.cells = s.mem.cells ∧ s.transferDone cl x.engine = (s.putMem m).putClusters c ∧
      (∀ j, j ≠ cl → aget c j = aget s.clusters j) ∧ aget c cl = some { s.cluster cl with
        scratch := putWord (s.cluster cl).scratch (stLocal x.desc / 16) (encodeWord b), poisonReads := l
        xfers := [{ x with complete := true }]
        counters := sset 0 (s.cluster cl).counters x.counter (sget 0 (s.cluster cl).counters x.counter + 1) } := by
  obtain ⟨m, l, hm, hmove⟩ := State.moveWords_one hr hw ho h hb
  refine ⟨m, l, ?_⟩
  unfold State.transferDone
  simp only [hx, hp, hc, hpage, hg, hmove, State.isSet, hh, List.find?_cons, decide_true, Bool.not_false, Bool.and_self, ne_eq,
    not_true_eq_false, decide_false, Bool.false_eq_true, false_and, or_self, if_false, Bool.not_true, State.setCluster_eq,
    State.cluster_put_same, modFirst, if_true]
  exact ⟨_, hm, rfl, fun j hj => (aget_aput_ne _ _ hj).trans (aget_aput_ne _ _ hj), aget_aput_same ..⟩

end Sys2Proof.Machine
end

section
/-! Port tokens (R24, R105, R106) and row events (R107). -/

namespace Sys2Proof.Machine

/-! ### SEND -/

/-- A SEND on a bound port with a credit left and a sound header goes: the token is in flight, and the port has used one credit more. -/
theorem State.send_sends {s : State} {cl a len port : Nat} {h : List Byte} {b : PortBind} (hi : s.Issues cl)
    (hb : aget (s.cluster cl).outBind port = some b) (hu : sget 0 (s.cluster cl).creditsUsed port < 8) (hs : (s.cluster cl).Sound)
    (hh : (s.cluster cl).readS a 16 = (h, false)) :
    ∃ (f : FaultState) (c : Cluster) (hd : List Byte) (p g : Nat), c.scratch = (s.cluster cl).scratch ∧
      c.creditsUsed = sset 0 (s.cluster cl).creditsUsed port (sget 0 (s.cluster cl).creditsUsed port + 1) ∧
      s.send cl a len port = ((s.putFaults f).setCluster cl c).putPkg { s.pkg with tokens := s.pkg.tokens ++
        [⟨b.dest, b.dport, cl, port, hd :: (List.range len).map fun i =>
          (passWord (wordAt (s.cluster cl).scratch (a / 16 + 1 + i))).getD (wordAt (s.cluster cl).scratch (a / 16 + 1 + i)), p, g⟩] } := by
  obtain ⟨-, -, -, -, hx⟩ := id hi
  obtain ⟨f, hf⟩ := State.reading_sound hx hs [(a, 16 * (len + 1))]
  have hstore := Cluster.store_eq ((s.cluster cl).store_copyRun ([(a, 16, false)] :: copySpans (a + 16) len false))
  obtain ⟨hscratch, -, -⟩ := hstore
  unfold State.send
  rw [State.onCluster_of_issues hi]
  simp only [hb, hf, hh, if_neg (Nat.not_le.2 hu), Bool.false_eq_true, if_false, State.updPkg_eq, State.setCluster_eq]
  refine ⟨f, _, _, _, _, ?_, ?_, rfl⟩
  · exact hscratch
  · rfl

/-! ### PORT_TOKEN_ARRIVAL -/

/-- The one token in flight enters the queue of the port that is bound to its sender. -/
theorem State.tokenArrives_one {s : State} {cl port : Nat} {k : Token} (ht : s.pkg.tokens = [k]) (hd : k.dest = cl) (hp : k.dport = port)
    (hb : aget (s.cluster cl).inBind port = some (k.src, k.sport)) (hg : k.rgen = s.rd R.cfgPstatRgen k.part % 16) :
    s.tokenArrives cl port = (s.putPkg { s.pkg with tokens := [] }).setCluster cl { s.cluster cl with
      inq := aput (s.cluster cl).inq port ((aget (s.cluster cl).inq port).getD [] ++ [k.words]) } := by
  have hbound : aget ((s.putPkg { s.pkg with tokens := [] }).cluster cl).inBind port = some (k.src, k.sport) ∧
      k.rgen = (s.putPkg { s.pkg with tokens := [] }).rd R.cfgPstatRgen k.part % 16 := ⟨hb, hg⟩
  unfold State.tokenArrives
  simp only [ht, hd, hp, List.find?_cons, decide_true, Bool.and_self, dropFirst, if_true, State.updPkg_eq]
  rw [if_pos hbound]
  rfl

/-! ### RECV -/

/-- Two words stored from word `w` on. -/
theorem Cluster.putWords_two (c : Cluster) (a : Nat) (x y : List Byte) :
    (c.putWords a [x, y]).scratch = putWord (putWord c.scratch (a / 16) x) (a / 16 + 1) y := rfl

/-- A RECV on a bound port whose queue holds one token of one payload word takes it, and owes its sender a credit. -/
theorem State.recv_one {s : State} {cl dst port src sport : Nat} {h w : List Byte} (hi : s.Issues cl)
    (hq : aget (s.cluster cl).inq port = some [[h, w]]) (hb : aget (s.cluster cl).inBind port = some (src, sport)) (hs : (s.cluster cl).Sound) :
    ∃ (f : FaultState) (c : Cluster) (hd : List Byte), hd.length = 18 ∧ c.inq = adel (s.cluster cl).inq port ∧
      c.scratch = putWord (putWord (s.cluster cl).scratch (dst / 16) hd) (dst / 16 + 1) w ∧
      s.recv cl dst port = ((s.putFaults f).setCluster cl c).putPkg { s.pkg with
        creditsOwed := sset 0 s.pkg.creditsOwed (8 * src + sport) (sget 0 s.pkg.creditsOwed (8 * src + sport) + 1) } := by
  obtain ⟨-, -, -, -, hx⟩ := id hi
  obtain ⟨f, hf⟩ := State.writing_sound hx hs 5 [(dst, 16 * 2)]
  have hstore := ((s.cluster cl).advance 1).store_copyRun (copySpans dst 2 true)
  obtain ⟨hscratch, -, -⟩ := Cluster.store_eq (hstore.trans ((s.cluster cl).store_advance 1))
  unfold State.recv
  rw [State.onCluster_of_issues hi]
  simp only [hq, hb, hf, Option.getD_some, List.length_cons, List.length_nil, List.isEmpty_nil, if_true, List.drop_succ_cons, List.drop_zero]
  refine ⟨f, _, encodeWord (leBytes 16 (leNat (decodeWord false h).bytes.1 / 2 ^ 20 * 2 ^ 20)), ?_, ?_, ?_, rfl⟩
  · rw [encodeWord_length, leBytes_length]
  · rfl
  · exact (Cluster.putWords_two ..).trans (by rw [← hscratch]; rfl)

/-! ### CREDIT_RETURN -/

theorem State.creditBack_owed {s : State} {cl port n : Nat} (h : n ≤ sget 0 s.pkg.creditsOwed (8 * cl + port)) :
    s.creditBack cl port n = (s.setCluster cl { s.cluster cl with
      creditsUsed := sset 0 (s.cluster cl).creditsUsed port (sget 0 (s.cluster cl).creditsUsed port - n) }).putPkg { s.pkg with
        creditsOwed := sset 0 s.pkg.creditsOwed (8 * cl + port) (sget 0 s.pkg.creditsOwed (8 * cl + port) - n) } := by
  unfold State.creditBack
  simp only [Nat.min_eq_left h]
  rfl

/-! ### ROW_EVENT_MESSAGE -/

/-- The one entry of a cluster's message is counted for the request whose rows hold it. -/
theorem State.rowEvents_one {s : State} {cl p row span nan : Nat} {x : StepRow} (hp : s.partOf cl = some p)
    (he : (s.cluster cl).eventsSent = [(row, span, nan)]) (hr : (s.part p).running = some [x]) (hlo : x.first ≤ row)
    (hhi : row < x.first + x.count) (hk : x.kind = 0) :
    s.rowEvents cl = (s.setCluster cl { s.cluster cl with eventsSent := [] }).updReq (x.client, x.req) fun q =>
      { q with span := q.span + span, e2m1 := q.e2m1 + nan } := by
  have hrun : ((s.setCluster cl { s.cluster cl with eventsSent := [] }).part p).running = some [x] := hr
  unfold State.rowEvents
  simp only [hp, he, List.foldl_cons, List.foldl_nil, State.countEvent, hrun, Option.getD_some, rowOwner, List.find?_cons, hlo, hhi, decide_true,
    Bool.and_self, hk, if_true]

/-- A request that is changed keeps its key. -/
theorem State.req?_updReq {s : State} {k : ReqKey} {q : Req} {f : Req → Req} (h : s.req? k = some q)
    (hf : (f q).client = q.client ∧ (f q).id = q.id) : (s.updReq k f).req? k = some (f q) := by
  have hq := List.find?_some h
  exact find?_modFirst f s.host.reqs h (by simpa only [hf.1, hf.2] using hq)

end Sys2Proof.Machine
end

section
/-! Streams, transfers and port tokens: each command by the lemma on its operation. -/

namespace Sys2Proof.Machine

theorem exec_stream (cl a e : Nat) (s : State) : exec (.stream cl a e) s = .next (s.queueXfer cl a e false (.stream cl a e)) := rfl
theorem exec_page (cl a e : Nat) (s : State) : exec (.page cl a e) s = .next (s.queueXfer cl a e true (.page cl a e)) := rfl
theorem exec_transferComplete (cl e : Nat) (s : State) : exec (.transferComplete cl e) s = .next (s.transferDone cl e) := rfl
theorem exec_send (cl a len port : Nat) (s : State) : exec (.send cl a len port) s = .next (s.send cl a len port) := rfl
theorem exec_portTokenArrival (cl port : Nat) (s : State) : exec (.portTokenArrival cl port) s = .next (s.tokenArrives cl port) := rfl
theorem exec_recv (cl dst port : Nat) (s : State) : exec (.recv cl dst port) s = .next (s.recv cl dst port) := rfl
theorem exec_creditReturn (cl port n : Nat) (s : State) : exec (.creditReturn cl port n) s = .next (s.creditBack cl port n) := rfl
theorem exec_rowEventMessage (cl : Nat) (s : State) : exec (.rowEventMessage cl) s = .next (s.rowEvents cl) := rfl

/-- A change of the package leaves a cluster that has been set. -/
theorem State.cluster_set_putPkg (s : State) (cl : Nat) (c : Cluster) (k : Package) : ((s.setCluster cl c).putPkg k).cluster cl = c :=
  s.cluster_put_same cl c

end Sys2Proof.Machine

open Sys2Proof.Machine

/-- Settles O27: what each command does is stated by the lemma on its operation; what it stores is read back by the lemmas on words and on sparse maps. -/
theorem streamsAndPorts : Obligations.StreamsAndPorts := by
  refine ⟨?stream, ?page, ?complete, ?send, ?arrives, ?recv, ?credit, ?events⟩
  case stream =>
    intro s cl a e p d hi hs hp hd hm hok
    obtain ⟨f, hf⟩ := State.queueXfer_queues (page := false) (.stream cl a e) hi hs hp hd hm hok
    obtain ⟨hxfers, hscratch, -, hcounters, honly⟩ := s.cluster_of_queued cl f [⟨e, stCounter d, d, false, false, s.rd R.cfgPstatRgen p, false⟩]
    exact ⟨_, (exec_stream ..).trans (congrArg _ hf), hxfers, hcounters, hscratch, honly⟩
  case page =>
    intro s cl a e p d hi hs hp hd hok
    obtain ⟨f, hf⟩ := State.queueXfer_queues (.page cl a e) hi hs hp hd rfl hok
    obtain ⟨hxfers, hscratch, himem, -, honly⟩ := s.cluster_of_queued cl f [⟨e, stCounter d, d, true, false, s.rd R.cfgPstatRgen p, false⟩]
    exact ⟨_, (exec_page ..).trans (congrArg _ hf), hxfers, himem, hscratch, honly⟩
  case complete =>
    intro s cl p x b hp hx hc hpage hg hr hw ho h hb hh hwf hcnt
    obtain ⟨m, l, c, hm, hdone, hne, hcl⟩ := State.transferDone_one hp hx hc hpage hg hr hw ho h hb hh
    have hlen : (encodeWord b).length = 18 := by rw [encodeWord_length, hb]
    refine ⟨_, (exec_transferComplete ..).trans (congrArg _ hdone), ?_⟩
    have hcl' : ((s.putMem m).putClusters c).cluster cl = _ := congrArg (·.getD Cluster.init) hcl
    dsimp only
    rw [hcl']
    exact ⟨wordAt_putWord_same _ _ hwf hlen, fun w hw => wordAt_putWord_ne _ hwf hlen hw, sget_sset_same _ _ hcnt, rfl,
      fun j hj => congrArg (·.getD Cluster.init) (hne j hj), hm, rfl, rfl⟩
  case send =>
    intro s cl a len port h b hi hb hu hwf hs hh
    obtain ⟨f, c, hd, p, g, hscratch, hused, hsend⟩ := State.send_sends hi hb hu hs hh
    refine ⟨_, (exec_send ..).trans (congrArg _ hsend), ⟨_, rfl, rfl, rfl, rfl, rfl, ?_, rfl⟩, ?_, ?_, (s.putFaults f).setCluster_onlyCluster cl c⟩
    · simp
    · rw [State.cluster_set_putPkg, hused, sget_sset_same _ _ hwf]
    · rw [State.cluster_set_putPkg, hscratch]
  case arrives =>
    intro s cl port k ht hd hp hb hg
    refine ⟨_, (exec_portTokenArrival ..).trans (congrArg _ (State.tokenArrives_one ht hd hp hb hg)), rfl, ?_,
      (s.putPkg { s.pkg with tokens := [] }).setCluster_onlyCluster cl _⟩
    rw [State.setCluster_eq, State.cluster_put_same, aget_aput_same]
  case recv =>
    intro s cl dst port src sport h w hi hq hb hw hwf hcr hs
    obtain ⟨f, c, hd, hlen, hinq, hscratch, hrecv⟩ := State.recv_one (dst := dst) hi hq hb hs
    refine ⟨_, (exec_recv ..).trans (congrArg _ hrecv), ?_, ?_, ?_, sget_sset_same _ _ hcr, (s.putFaults f).setCluster_onlyCluster cl c⟩
    all_goals rw [State.cluster_set_putPkg]
    · rw [hinq, aget_adel_same]
    · rw [hscratch, wordAt_putWord_same _ _ (putWord_wf _ _ hwf) hw]
    · intro x hx hx'
      rw [hscratch, wordAt_putWord_ne _ (putWord_wf _ _ hwf) hw hx', wordAt_putWord_ne _ hwf hlen hx]
  case credit =>
    intro s cl port n hn hu ho
    refine ⟨_, (exec_creditReturn ..).trans (congrArg _ (State.creditBack_owed hn)), ?_, sget_sset_same _ _ ho, s.setCluster_onlyCluster cl _⟩
    rw [State.cluster_set_putPkg, sget_sset_same _ _ hu]
  case events =>
    intro s cl p row span nan x q hp he hr hlo hhi hk hq
    refine ⟨_, (exec_rowEventMessage ..).trans (congrArg _ (State.rowEvents_one hp he hr hlo hhi hk)), ?_, ?_, rfl, rfl⟩
    · exact congrArg Cluster.eventsSent (s.cluster_put_same cl _)
    · exact State.req?_updReq (s := s.setCluster cl { s.cluster cl with eventsSent := [] }) hq ⟨rfl, rfl⟩

end

section
/-! Arbiters and router inputs (R24 to R28, R33, R258): a lone input is granted, and a flit that is a whole message passes its output. -/

namespace Sys2Proof.Machine

/-! ### Routes stand in registers -/

theorem State.routerTarget_congr {s t : State} (hr : t.regs = s.regs) : t.routerTarget = s.routerTarget := by
  have hc : t.chanBytes = s.chanBytes := by
    rw [State.chanBytes, State.chanBytes, State.gradeM, State.gradeM, State.isSet_congr hr]
  have hl : t.locate = s.locate := by
    funext v o
    rw [State.locate, State.locate, hc, State.viewLive_congr hr, State.rd_congr hr]
  have hp : t.physOf = s.physOf := by
    funext cl
    rw [State.physOf, State.physOf, State.reg, State.reg, hr]
  have hm : t.masterPlace = s.masterPlace := by
    funext m
    rw [State.masterPlace, State.masterPlace, State.physAll, State.physAll, hp]
  funext m
  rw [State.routerTarget, State.routerTarget, hl, hm]

/-- A token for a cluster of a region leaves the region's router at that cluster's port. -/
theorem State.routerPort_token {s : State} {g dest : Nat} {m : RouterMsg} (hk : m.kind = 0) (ha : m.addr = dest) (hlo : 0x200 ≤ dest)
    (hhi : dest < 0x2F0) (hg : s.physAll (dest - 0x200) / 8 = g) : s.routerPort g m = s.physOf (dest - 0x200) % 8 := by
  simp [State.routerPort, State.routerTarget, State.masterPlace, hk, ha, hlo, hhi, hg]

/-! ### Inputs that wait -/

theorem Package.input_of_ins {k k' : Package} {i j : Nat} {x : RouterIn} (h : k'.ins = aput k.ins i x) (hj : j ≠ i) : k'.input j = k.input j := by
  rw [Package.input, Package.input, h, aget_aput_ne _ _ hj]

theorem State.mem_waitsFor {s : State} {arb : Nat} {e : Nat × Nat} (h : arb < 512) : e ∈ s.waitsFor arb ↔ e.1 < 16 ∧
    ∃ m, s.pkg.headMsg (arb / 16 * 16 + e.1) = some m ∧ arb / 16 * 16 + s.routerPort (arb / 16) m = arb ∧ e.2 = actOf m.act := by
  rw [State.waitsFor, if_neg (by omega)]
  simp only [List.mem_filterMap, List.mem_range, Option.bind_eq_some_iff, Option.ite_none_right_eq_some, Option.some.injEq]
  constructor
  · rintro ⟨i, hi, m, hm, hp, rfl⟩
    exact ⟨hi, m, hm, hp, rfl⟩
  · rintro ⟨hi, m, hm, hp, he⟩
    exact ⟨e.1, hi, m, hm, hp, by rw [← he]⟩

/-- Where no other input waits for an output than the one that changes, none does after the change. -/
theorem State.waitsFor_changed {s t : State} {g port arb : Nat} (ha : arb < 512) (hg : arb / 16 = g) (hr : t.regs = s.regs)
    (hin : ∀ j, j ≠ 16 * g + port → t.pkg.input j = s.pkg.input j) (h : ∀ e ∈ s.waitsFor arb, e.1 = port) : ∀ e ∈ t.waitsFor arb, e.1 = port := by
  intro e he
  obtain ⟨hi, m, hm, hp, ht⟩ := (State.mem_waitsFor ha).1 he
  by_contra hne
  have hsame : t.pkg.headMsg (arb / 16 * 16 + e.1) = s.pkg.headMsg (arb / 16 * 16 + e.1) := by
    rw [Package.headMsg, Package.headMsg, hin _ (by omega)]
  have hport : t.routerPort (arb / 16) m = s.routerPort (arb / 16) m := by
    rw [State.routerPort, State.routerPort, State.routerTarget_congr hr]
  exact hne (h e ((State.mem_waitsFor ha).2 ⟨hi, m, hsame ▸ hm, hport ▸ hp, ht⟩))

/-! ### Arbiters -/

/-- An arbiter that has granted nothing, holds nothing back and leads nowhere else lets a message of the input pass for which alone it is waited. -/
theorem State.arbOpen_free {s : State} {arb input : Nat} {m : RouterMsg} (ha : arb < 520) (hn : s.nextArb arb m = none)
    (hg : sget 0 s.pkg.granted arb = 0) (hq : aget s.pkg.queued arb = none) (hw : ∀ e ∈ s.waitsFor arb, e.1 = input) :
    s.arbOpen arb input m = true := by
  simpa [State.arbOpen, State.mayPass, hn, hg, hq, ha] using hw

theorem State.nextArb_router {s : State} {arb : Nat} (m : RouterMsg) (ha : arb < 512) (hp : arb % 16 ≠ 15) : s.nextArb arb m = none := by
  rw [State.nextArb, if_pos ha, if_neg hp]

/-- A message that passes an output of a router which is no crossbar's is delivered there. -/
theorem State.hop_delivers {s : State} {arb input fuel : Nat} {m : RouterMsg} (ha : arb < 512) (hp : arb % 16 ≠ 15)
    (ho : s.arbOpen arb input m = true) :
    State.hop fuel s arb input m = (s.passed arb).atOutput arb { m with act := s.actOut arb input m } := by
  unfold State.hop
  simp only [ho, Bool.not_true, Bool.false_eq_true, if_false, State.nextArb_router _ ha hp, if_pos (show arb < 520 by omega)]

/-- A token that is delivered stands behind what has been delivered at its output. -/
theorem State.atOutput_token {s : State} {arb : Nat} {m : RouterMsg} (hk : m.kind = 0) :
    s.atOutput arb m = s.putPkg { s.pkg with routed := aput s.pkg.routed arb ((aget s.pkg.routed arb).getD [] ++ [m]) } := by
  simp [State.atOutput, hk]

/-! ### Router inputs -/

/-- Nothing is taken from an input that holds no flit. -/
theorem State.takeInput_empty {s : State} {g port : Nat} (fuel : Nat) (h : (s.pkg.input (16 * g + port)).fifo = []) :
    State.takeInput fuel s g port = s := by
  cases fuel with
  | zero => rfl
  | succ n => simp only [State.takeInput, h]

/-- A grant stands where no message of its input waits. -/
theorem State.useGrant_waits {s : State} {arb i : Nat} (hg : sget 0 s.pkg.granted arb = i + 1) (hq : aget s.pkg.queued arb = none)
    (hf : (s.pkg.input (16 * (arb / 16) + i)).fifo = []) : s.useGrant arb = s := by
  unfold State.useGrant
  simp only [hq, Option.getD_none, List.find?_nil, hg, Nat.add_sub_cancel, State.takeInput_empty 9 hf, ite_self]

/-- A lone input of an arbiter has the grant; where no flit of it waits, the grant stands. -/
theorem State.arbiter_lone {s : State} {arb i : Nat} (act : Nat) (hwf : swf 0 s.pkg.granted = true) (hq : aget s.pkg.queued arb = none)
    (hf : (s.pkg.input (16 * (arb / 16) + i)).fifo = []) :
    ∃ a v, s.arbiter arb [(i, act)] = s.putPkg { s.pkg with arbs := a, granted := sset 0 s.pkg.granted arb (i + 1), adv := v } :=
  ⟨_, _, State.useGrant_waits (s := s.putPkg { s.pkg with
      arbs := aput s.pkg.arbs arb (grantStep ((aget s.pkg.arbs arb).getD []) [(i, act)]).2
      granted := sset 0 s.pkg.granted arb (i + 1)
      adv := sset 0 s.pkg.adv arb (Nat.min 4095 (([(i, act)].map fun e => actOf e.2).foldl (· + ·) 0)) })
    (sget_sset_same _ _ hwf) hq hf⟩

theorem State.headerCorrected_eq (s : State) (region port master : Nat) : ∃ f, s.headerCorrected region port master = s.putFaults f := by
  unfold State.headerCorrected
  dsimp only
  split
  · exact State.raise_eq _ ..
  · exact ⟨s.faults, rfl⟩

/-- The one flit of an input that is a whole message, and may pass, goes to its output. -/
theorem State.takeInput_whole {s : State} {g port h : Nat} {ws : List (BitVec 144)} {c : Bool}
    (hf : (s.pkg.input (16 * g + port)).fifo = [(true, ws)]) (hh : readHeader (ws.getD 0 0) = some (h, c)) (hk : bitsOf h 19 16 = 0)
    (hl : bitsOf h 75 70 ≤ 3) :
    let m := routerMsgOf h ((ws.drop 1).take (routerLen h))
    let arb := 16 * g + s.routerPort g m
    s.arbOpen arb port m = true →
    ∃ f, State.takeInput 1 s g port = State.hop 4 ((s.putFaults f).setInput (16 * g + port)
      { s.pkg.input (16 * g + port) with fifo := [], dropping := false, taking := [] }) arb port m := by
  intro m arb ho
  have hkind : m.kind = 0 := hk
  have hstale : ¬ (s.stale m = true ∨ 5 < m.kind) := by simp [State.stale, hkind]
  have hlen : flitCount (routerLen h) ≤ 1 := by
    have : routerLen h = bitsOf h 75 70 := by simp [routerLen, hk]
    rw [this, flitCount, ceilDiv]
    omega
  have hcorr : ∃ f, (if c then s.headerCorrected g port m.src else s) = s.putFaults f := by
    cases c with
    | false => exact ⟨s.faults, rfl⟩
    | true => exact s.headerCorrected_eq ..
  obtain ⟨f, hf'⟩ := hcorr
  refine ⟨f, ?_⟩
  simp only [State.takeInput, hf, hh, Bool.not_true, Bool.false_eq_true, if_false]
  rw [if_neg hstale, if_neg (by simpa only [Bool.not_eq_true', Bool.not_eq_false] using ho), if_pos hlen, hf']

end Sys2Proof.Machine
end

section
/-! ROUTER_FLIT: a whole token is delivered at its cluster's port (R25, R33, R258), and a full crossing queue takes no flit (R24). -/

namespace Sys2Proof.Machine

/-- An input whose 8 places are taken takes no flit. -/
theorem State.routerFlit_full {s : State} {g port : Nat} (f : Flit) (h : 8 ≤ (s.pkg.input (16 * g + port)).fifo.length) :
    s.routerFlit g port f = s := by
  unfold State.routerFlit
  exact if_pos h

@[simp] theorem State.setInput_input (s : State) (i : Nat) (x : RouterIn) : (s.setInput i x).pkg.input i = x := by
  simp [State.setInput, Package.input]

theorem State.setInput_input_ne (s : State) {i j : Nat} (x : RouterIn) (h : j ≠ i) : (s.setInput i x).pkg.input j = s.pkg.input j :=
  Package.input_of_ins rfl h

/-- A head flit enters an empty input and is taken from it. -/
theorem State.routerFlit_head {s : State} {g port : Nat} (ws : List (BitVec 144)) (h : (s.pkg.input (16 * g + port)).fifo = []) :
    s.routerFlit g port (true, ws) =
      State.takeInput 1 (s.setInput (16 * g + port) { s.pkg.input (16 * g + port) with fifo := [(true, ws)] }) g port := by
  unfold State.routerFlit
  simp [h]

section
variable {s : State} {g port h dest arb : Nat} {ws : List (BitVec 144)} {c : Bool} (hh : readHeader (ws.getD 0 0) = some (h, c))
  (hk : bitsOf h 19 16 = 0) (hl : bitsOf h 75 70 ≤ 3) (hd : dest = bitsOf h 31 20) (hlo : 0x200 ≤ dest) (hhi : dest < 0x2F0)
  (hreg : s.physAll (dest - 0x200) / 8 = g) (harb : arb = 16 * g + s.physOf (dest - 0x200) % 8) (hg : g < 32)
  (hgr : sget 0 s.pkg.granted arb = 0) (hq : aget s.pkg.queued arb = none)
include hh hk hl hd hlo hhi hreg harb hg hgr hq

/-- The one flit of an input, a whole token for a cluster of the region whose output is free, is delivered at that cluster's port. -/
theorem State.takeInput_token (hf : (s.pkg.input (16 * g + port)).fifo = [(true, ws)]) (hw : ∀ e ∈ s.waitsFor arb, e.1 = port) :
    ∃ (f : FaultState) (i : Sparse RouterIn) (gr : Sparse Nat) (a : Nat), State.takeInput 1 s g port = (s.putFaults f).putPkg { s.pkg with
      ins := i, granted := gr
      routed := aput s.pkg.routed arb ((aget s.pkg.routed arb).getD [] ++
        [{ routerMsgOf h ((ws.drop 1).take (bitsOf h 75 70)) with act := a }]) } := by
  have harb' : arb < 512 := by omega
  have hlen : routerLen h = bitsOf h 75 70 := by simp [routerLen, hk]
  have hport : 16 * g + s.routerPort g (routerMsgOf h ((ws.drop 1).take (bitsOf h 75 70))) = arb := by
    rw [harb, State.routerPort_token hk (by simp [routerMsgOf, hk, hd]) hlo hhi hreg]
  have hopen : ∀ t : State, (∀ e ∈ t.waitsFor arb, e.1 = port) → t.pkg.granted = s.pkg.granted → t.pkg.queued = s.pkg.queued →
      t.arbOpen arb port (routerMsgOf h ((ws.drop 1).take (bitsOf h 75 70))) = true := fun t hw' hg' hq' =>
    State.arbOpen_free (by omega) (State.nextArb_router _ harb' (by omega)) (by rw [hg', hgr]) (by rw [hq', hq]) hw'
  obtain ⟨f, htake⟩ := State.takeInput_whole hf hh hk hl (by
    rw [hlen, hport]
    exact hopen s hw rfl rfl)
  rw [hlen, hport] at htake
  have hwaits := State.waitsFor_changed harb' (by omega : arb / 16 = g) (s := s) (t := (s.putFaults f).setInput (16 * g + port)
    { s.pkg.input (16 * g + port) with fifo := [], dropping := false, taking := [] }) rfl (fun j hj => State.setInput_input_ne _ _ hj) hw
  rw [htake, State.hop_delivers harb' (by omega) (hopen _ hwaits rfl rfl), State.atOutput_token hk]
  exact ⟨f, _, _, _, rfl⟩

/-- A flit that is such a token is delivered as it enters an empty input. -/
theorem State.routerFlit_token (hf : (s.pkg.input (16 * g + port)).fifo = []) (hw : s.waitsFor arb = []) :
    ∃ (f : FaultState) (i : Sparse RouterIn) (gr : Sparse Nat) (a : Nat), s.routerFlit g port (true, ws) = (s.putFaults f).putPkg { s.pkg with
      ins := i, granted := gr
      routed := aput s.pkg.routed arb ((aget s.pkg.routed arb).getD [] ++
        [{ routerMsgOf h ((ws.drop 1).take (bitsOf h 75 70)) with act := a }]) } := by
  rw [State.routerFlit_head ws hf]
  have hfifo := congrArg RouterIn.fifo (s.setInput_input (16 * g + port) { s.pkg.input (16 * g + port) with fifo := [(true, ws)] })
  have hwaits := State.waitsFor_changed (s := s) (t := s.setInput (16 * g + port) { s.pkg.input (16 * g + port) with fifo := [(true, ws)] })
    (by omega : arb < 512) (by omega : arb / 16 = g) rfl (fun j hj => State.setInput_input_ne _ _ hj) (by simp [hw])
  exact State.takeInput_token hh hk hl hd hlo hhi hreg harb hg hgr hq hfifo hwaits
end

end Sys2Proof.Machine
end

section
/-! What the end of work leaves of the configuration block (R333): its registers but for bits that HST_RING's number of a client may reach, and every fault
message that has been sent. -/

namespace Sys2Proof.Machine

/-- From `s` to `t` the registers of the configuration block are left, but that bits 62 and 63 may have been cleared: deregistering a client whose number
exceeds the rings clears REG and CQ_FULL there. Every fault message that was sent stays. -/
structure CfgKept (s t : State) : Prop where
  wf : Registers.wf s.regs = true → Registers.wf t.regs = true
  sent : ∀ m ∈ s.faults.sent, m ∈ t.faults.sent
  reg : Registers.wf s.regs = true → ∀ k, 0x200000 ≤ k → k < 0x300000 →
    (t.reg k).toNat ≤ (s.reg k).toNat ∧ (t.reg k).toNat % 2 ^ 62 = (s.reg k).toNat % 2 ^ 62

namespace CfgKept

/-- Registers and fault messages that are left are kept. -/
theorem of_same {s t : State} (hr : t.regs = s.regs) (hf : t.faults = s.faults) : CfgKept s t where
  wf h := hr ▸ h
  sent m hm := hf ▸ hm
  reg _ k _ _ := by simp only [State.reg, hr, le_refl, and_self]

theorem refl (s : State) : CfgKept s s := of_same rfl rfl

theorem trans {s t u : State} (h : CfgKept s t) (h' : CfgKept t u) : CfgKept s u where
  wf hw := h'.wf (h.wf hw)
  sent m hm := h'.sent m (h.sent m hm)
  reg hw k hk hk' := by
    obtain ⟨hle, hmod⟩ := h.reg hw k hk hk'
    obtain ⟨hle', hmod'⟩ := h'.reg (h.wf hw) k hk hk'
    exact ⟨hle'.trans hle, hmod'.trans hmod⟩

theorem of_eff {k : Nat} {s t : State} (h : Eff k s t) (hk : (k.testBit 3 || k.testBit 8) = false) : CfgKept s t := by
  obtain ⟨hr, hf⟩ := Bool.or_eq_false_iff.1 hk
  exact of_same (h.same .regs hr) (h.same .faults hf)

/-- An operation that changes registers outside the block, and no fault message. -/
theorem of_regs {k : Nat} {s t : State} (h : Eff k s t) (hk : k.testBit 8 = false)
    (hreg : Registers.wf s.regs = true → ∀ k, 0x200000 ≤ k → k < 0x300000 → t.reg k = s.reg k) : CfgKept s t where
  wf := h.regs
  sent m hm := (show t.faults = s.faults from h.same .faults hk) ▸ hm
  reg hw k hk hk' := by simp only [hreg hw k hk hk', le_refl, and_self]

theorem foldl {α : Type} {f : State → α → State} (hf : ∀ s a, CfgKept s (f s a)) (l : List α) (s : State) : CfgKept s (l.foldl f s) := by
  induction l generalizing s with
  | nil => exact refl s
  | cons a l ih => exact (hf s a).trans (ih _)

/-- A register above the block is written. -/
theorem wr {f : Fld} (hf : 0x300000 ≤ f.off) (s : State) (i v : Nat) : CfgKept s (s.wr f i v) := by
  refine of_regs (State.wr_eff ..) (by decide) fun hw k _ hk => State.reg_wr_ne hw f i v ?_
  unfold regKey
  split <;> omega

theorem inc {f : Fld} (hf : 0x300000 ≤ f.off) (s : State) (i n : Nat) : CfgKept s (s.inc f i n) := wr hf ..

theorem incSat {f : Fld} (hf : 0x300000 ≤ f.off) (s : State) (i n : Nat) : CfgKept s (s.incSat f i n) := wr hf ..

/-- Bits above the 62 lowest of a register are cleared. -/
theorem clear {f : Fld} (hf : f.fits = true) (hlo : 62 ≤ f.lo) (s : State) (i : Nat) : CfgKept s (s.wr f i 0) where
  wf hw := State.wr_regs_wf hw ..
  sent m hm := hm
  reg hw k _ _ := by
    by_cases hk : k = regKey f.kind f.off i
    · simp only [Fld.fits, Bool.and_eq_true, decide_eq_true_eq] at hf
      obtain ⟨hle, hlt⟩ := hf
      have hkey : ((s.wr f i 0).reg k).toNat = (s.reg k).toNat % 2 ^ f.lo + (s.reg k).toNat / 2 ^ (f.hi + 1) * 2 ^ (f.hi + 1) := by
        rw [hk, State.wr, State.reg_setReg_same hw, putBits_toNat _ _ hle hlt, Nat.zero_mod, Nat.zero_mul, Nat.add_zero]
      have hbig : ∀ {n}, 62 ≤ n → ∀ x : Nat, x / 2 ^ n * 2 ^ n % 2 ^ 62 = 0 := fun hn x =>
        Nat.mod_eq_zero_of_dvd (dvd_mul_of_dvd_right (Nat.pow_dvd_pow 2 hn) _)
      refine ⟨?_, ?_⟩
      · rw [hkey]
        have hlow : (s.reg k).toNat % 2 ^ f.lo ≤ (s.reg k).toNat % 2 ^ (f.hi + 1) := by
          rw [← Nat.mod_mod_of_dvd _ (Nat.pow_dvd_pow 2 (by omega : f.lo ≤ f.hi + 1))]
          exact Nat.mod_le _ _
        have := Nat.mod_add_div' (s.reg k).toNat (2 ^ (f.hi + 1))
        omega
      · rw [hkey, Nat.add_mod, hbig (by omega), Nat.add_zero, Nat.mod_mod, Nat.mod_mod_of_dvd _ (Nat.pow_dvd_pow 2 hlo)]
    · rw [State.reg_wr_ne hw _ _ _ hk]
      exact ⟨le_refl _, rfl⟩

theorem raise (s : State) (kind site master addr access outcome : Nat) : CfgKept s (s.raise kind site master addr access outcome) := by
  have hr := (State.raise_eff s kind site master addr access outcome).same .regs rfl
  refine ⟨fun h => hr ▸ h, fun m hm => ?_, fun _ k _ _ => by simp only [State.reg, show _ = _ from hr, le_refl, and_self]⟩
  unfold State.raise
  dsimp only
  split
  · exact hm
  · exact List.mem_append_left _ hm

/-- Messages to other modules change the registers of lanes alone. -/
theorem of_sends {s t : State} (h : Sends s t) : CfgKept s t := by
  refine of_regs h.eff (by decide) fun _ k _ hk => h.lanes k fun hl => ?_
  have hlanes : ∀ k ∈ laneKeys, 0x300000 ≤ k := by decide
  exact absurd (hlanes k hl) (by omega)

end CfgKept

end Sys2Proof.Machine
end

section
/-! What each part of the end of a request leaves of the configuration block (R307, R333). -/

namespace Sys2Proof.Machine

/-! ### Pins, streams and commits -/

theorem State.setNode_cfgKept (s : State) (t i : Nat) (n : MNode) : CfgKept s (s.setNode t i n) := by
  unfold State.setNode
  extract_lets valid count
  refine CfgKept.trans ?_ (CfgKept.wr (by decide) ..)
  exact CfgKept.of_same rfl rfl

theorem State.dropBlock_cfgKept (s : State) (p b : Nat) : CfgKept s (s.dropBlock p b) := by
  unfold State.dropBlock
  split
  · exact CfgKept.refl s
  · rename_i y _
    extract_lets u v
    have hu : CfgKept s u := CfgKept.of_same rfl rfl
    have hv : CfgKept u v := by
      unfold v
      split
      · exact CfgKept.wr (by decide) ..
      · exact CfgKept.refl u
    split
    · exact hu.trans hv
    · exact (hu.trans hv).trans (CfgKept.wr (by decide) ..)

theorem State.killNode_cfgKept (s : State) (t i : Nat) (readable held : Bool) : CfgKept s (s.killNode t i readable held) := by
  unfold State.killNode
  extract_lets n u v
  have hu : CfgKept s u := by
    unfold u
    split
    · exact s.dropBlock_cfgKept ..
    · exact CfgKept.refl s
  have hnode := hu.trans (u.setNode_cfgKept t i { n with state := 2 })
  refine (hnode.trans ?_).trans (CfgKept.incSat (by decide) ..)
  exact CfgKept.of_same rfl rfl

theorem State.unpin_cfgKept (s : State) (t i : Nat) : CfgKept s (s.unpin t i) := by
  unfold State.unpin
  extract_lets n others u
  have hu : CfgKept s u := by
    unfold u
    split
    · exact s.dropBlock_cfgKept ..
    · exact CfgKept.refl s
  refine hu.trans ?_
  split
  · exact u.killNode_cfgKept ..
  · exact u.killNode_cfgKept ..
  · exact CfgKept.of_same rfl rfl
  · split
    · exact CfgKept.refl u
    · exact u.setNode_cfgKept ..

theorem State.freePins_cfgKept (s : State) (k : ReqKey) : CfgKept s (s.freePins k) :=
  (CfgKept.foldl (fun s _ => s.unpin_cfgKept ..) _ s).trans (CfgKept.foldl (fun s _ => s.dropBlock_cfgKept ..) _ _)

theorem State.zestCount_cfgKept (s : State) (e bytes invalid : Nat) : CfgKept s (s.zestCount e bytes invalid) :=
  (CfgKept.inc (f := R.zstEstatBytes) (by decide) s e bytes).trans (CfgKept.incSat (f := R.zstEstatInvalidUtf8) (by decide) _ e invalid)

theorem State.closeStream_cfgKept (s : State) (c n : Nat) : CfgKept s (s.closeStream c n) := by
  unfold State.closeStream
  split
  · exact CfgKept.refl s
  · extract_lets u v
    have hu : CfgKept s u := CfgKept.of_same rfl rfl
    have hv : CfgKept u v := by
      unfold v
      split
      · exact (u.zestCount_cfgKept ..).trans (CfgKept.of_eff (State.zestTime_eff ..) (by decide))
      · exact CfgKept.refl u
    split
    · exact hu.trans hv
    · exact (hu.trans hv).trans (CfgKept.of_same rfl rfl)

theorem State.discardCommit_cfgKept (s : State) (slot : Nat) : CfgKept s (s.discardCommit slot) := by
  unfold State.discardCommit
  split
  · exact CfgKept.refl s
  · split
    · exact CfgKept.refl s
    · have hfold : CfgKept s (s.foldDelta slot) := CfgKept.of_eff (State.foldDelta_eff ..) (by decide)
      exact (hfold.trans (CfgKept.of_eff (State.updTable_eff ..) (by decide))).trans (CfgKept.wr (by decide) ..)

theorem State.forgetWork_cfgKept (s : State) (k : ReqKey) : CfgKept s (s.forgetWork k) := by
  have hstreams : CfgKept s (s.closeStreams k) := CfgKept.foldl (fun s _ => s.closeStream_cfgKept ..) _ s
  unfold State.forgetWork
  extract_lets u v
  have hv : CfgKept s v := (hstreams.trans (State.freePins_cfgKept _ k)).trans (CfgKept.foldl (fun s _ => s.discardCommit_cfgKept _) _ _)
  exact hv.trans (CfgKept.of_same (by simp) (by simp))

/-! ### What leaves the module -/

theorem State.lastRecord_cfgKept (s : State) (k : ReqKey) (r : Req) (status : Nat) : CfgKept s (s.lastRecord k r status) := by
  unfold State.lastRecord
  split
  · exact CfgKept.refl s
  · split
    · exact CfgKept.refl s
    · split
      · rename_i h
        exact (CfgKept.of_eff (State.writeAddr_eff h) (by decide)).trans (CfgKept.of_same rfl rfl)
      · exact CfgKept.raise ..

theorem State.sendError_cfgKept (s : State) (m q status : Nat) : CfgKept s (s.sendError m q status) := CfgKept.of_sends (s.sendHub_sends ..)

theorem State.endColls_cfgKept (s : State) (k : ReqKey) (status : Nat) : CfgKept s (s.endColls k status) := by
  unfold State.endColls
  split
  · exact CfgKept.refl s
  · extract_lets u
    have hu : CfgKept s u := CfgKept.of_same rfl rfl
    exact hu.trans (CfgKept.foldl (fun s m => s.sendError_cfgKept m k.2 status) _ u)

theorem State.endRemote_cfgKept (s : State) (k : ReqKey) (status : Nat) : CfgKept s (s.endRemote k status) := by
  unfold State.endRemote
  split
  · exact CfgKept.refl s
  · extract_lets u v
    have hu : CfgKept s u := CfgKept.of_same rfl rfl
    have hv : CfgKept u v := by
      unfold v
      split
      · exact u.sendError_cfgKept ..
      · exact CfgKept.refl u
    exact ((hu.trans hv).trans (CfgKept.inc (by decide) ..)).trans (CfgKept.of_sends (State.sendHub_sends ..))

/-! ### The request leaves flight -/

theorem State.deregister_cfgKept (s : State) (c : Nat) : CfgKept s (s.deregister c) := by
  unfold State.deregister
  extract_lets u
  have hu : CfgKept s u := CfgKept.of_same rfl rfl
  exact (hu.trans (CfgKept.clear (by decide) (by decide) ..)).trans (CfgKept.clear (by decide) (by decide) ..)

theorem State.admPost_cfgKept (s : State) (c q status op slot : Nat) : CfgKept s (s.admPost c q status op slot) := by
  unfold State.admPost
  extract_lets size t bs
  split
  · exact CfgKept.raise ..
  · exact CfgKept.of_same rfl rfl

theorem State.admSettle_cfgKept (s : State) (c : Nat) : CfgKept s (s.admSettle c) := by
  unfold State.admSettle
  split
  · exact CfgKept.refl s
  · split
    · exact CfgKept.refl s
    · refine (CfgKept.trans ?_ (State.deregister_cfgKept ..)).trans (State.admPost_cfgKept ..)
      exact CfgKept.of_same rfl rfl

/-- The ring of a client lies below the configuration block. -/
theorem State.wr_inflight_cfgKept (s : State) {c : Nat} (hc : c < 4096) (n : Nat) : CfgKept s (s.wr R.hstRingInflight c n) :=
  CfgKept.of_regs (State.wr_eff ..) (by decide) fun hw _ hk _ => State.reg_wr_ne hw _ _ _ (by
    have hkey : regKey R.hstRingInflight.kind R.hstRingInflight.off c = 0x8000 + 8 * c := rfl
    omega)

theorem State.dropReq_cfgKept (s : State) (k : ReqKey) : CfgKept s (s.dropReq k) := by
  unfold State.dropReq
  extract_lets u
  have hu : CfgKept s u := CfgKept.of_same rfl rfl
  refine CfgKept.trans (hu.trans ?_) (State.admSettle_cfgKept ..)
  split
  · exact u.wr_inflight_cfgKept ‹_› _
  · exact CfgKept.refl u

/-! ### The end of a request -/

/-- A request that ends with another status than ST_CONTEXT_FAULT, which is counted for its partition. -/
theorem State.endReq_cfgKept (s : State) (k : ReqKey) {status : Nat} (hs : status ≠ stContextFault) (count detail : Nat) :
    CfgKept s (s.endReq k status count detail) := by
  unfold State.endReq
  split
  · exact CfgKept.refl s
  split
  · exact CfgKept.refl s
  rename_i r _ _
  extract_lets a b bytes c d e f
  have ha : CfgKept s a := by
    unfold a
    split
    · exact s.lastRecord_cfgKept ..
    · exact CfgKept.refl s
  have hb : CfgKept a b := by
    unfold b
    split
    · exact CfgKept.of_eff (State.chargePause_eff ..) (by decide)
    · exact CfgKept.refl a
  have hc : CfgKept b c := (b.endColls_cfgKept ..).trans (State.forgetWork_cfgKept ..)
  have hd : CfgKept c d := by
    unfold d
    split
    · exact c.endRemote_cfgKept ..
    · exact CfgKept.of_eff (State.charge_eff ..) (by decide)
  have hkept : CfgKept s e := ((ha.trans hb).trans hc).trans hd
  split
  · exact hkept.trans (e.dropReq_cfgKept k)
  · exact (hkept.trans (CfgKept.of_same (t := f) rfl rfl)).trans (CfgKept.of_eff (State.produce_eff f _) (by decide))

end Sys2Proof.Machine
end

section
/-! The reset of a partition (R333): its state is RESET, a partition that is in reset stays so, and fault messages stay sent. -/

namespace Sys2Proof.Machine

/-! ### What it clears -/

theorem State.freeEngine_cfgKept (s : State) (t : Task) : CfgKept s (s.freeEngine t) := by
  unfold State.freeEngine
  split
  · exact CfgKept.wr (by decide) ..
  · exact CfgKept.wr (by decide) ..
  · exact CfgKept.refl s

theorem State.freeWalker_cfgKept (s : State) (w : Walk) : CfgKept s (s.freeWalker w) := by
  unfold State.freeWalker
  split
  · exact CfgKept.refl s
  · refine CfgKept.trans ?_ (CfgKept.wr (by decide) ..)
    exact CfgKept.wr (by decide) ..

theorem State.freeUnit_cfgKept (s : State) (b : BagWork) : CfgKept s (s.freeUnit b) := by
  unfold State.freeUnit
  split
  · exact CfgKept.refl s
  · exact CfgKept.wr (by decide) ..

theorem State.clearPartition_cfgKept (s : State) (p : Nat) : CfgKept s (s.clearPartition p) := by
  unfold State.clearPartition
  extract_lets gone s1 s2 onPart wgone s3 tabs onTab s4 s5 s6 vs s7 s8
  have h1 : CfgKept s s1 := CfgKept.foldl State.freeEngine_cfgKept ..
  have h2 : CfgKept s1 s2 := CfgKept.of_same rfl rfl
  have hw : CfgKept s2 (s2.putWalks (s2.walks.filter fun w => !onPart w.slot)) := CfgKept.of_same rfl rfl
  have h3 : CfgKept s2 s3 := hw.trans (CfgKept.foldl State.freeWalker_cfgKept ..)
  have hb : CfgKept s3 ((s3.bags.filter onTab).foldl State.freeUnit s3) := CfgKept.foldl State.freeUnit_cfgKept ..
  have h4 : CfgKept s3 s4 := hb.trans (CfgKept.of_same rfl rfl)
  have h5 : CfgKept s4 s5 := CfgKept.foldl (fun s _ => s.discardCommit_cfgKept _) ..
  have h6 : CfgKept s5 s6 := CfgKept.foldl (fun s e => by
    refine CfgKept.trans ?_ (CfgKept.wr (by decide) ..)
    exact CfgKept.of_same rfl rfl) ..
  have h7 : CfgKept s6 s7 := CfgKept.of_same rfl rfl
  have h8 : CfgKept s7 s8 := CfgKept.foldl (fun s t => by
    split
    · iterate 5 refine CfgKept.trans ?_ (CfgKept.wr (by decide) ..)
      exact CfgKept.of_same rfl rfl
    · exact CfgKept.refl s) ..
  exact (((((((h1.trans h2).trans h3).trans h4).trans h5).trans h6).trans h7).trans h8).trans (CfgKept.of_same rfl rfl)

/-! ### The reset -/

/-- A partition's reset is entered in its status register. -/
def State.markReset (s : State) (p cause : Nat) : State :=
  (((s.wr R.cfgPstatState p psReset).inc R.cfgPstatRgen p 1).wr R.cfgPstatLastCause p cause).incSat R.cfgPstatResets p 1

/-- All else that the reset does leaves the configuration block. -/
theorem State.resetPartition_cfgKept {s : State} {p : Nat} (cause : Nat) (he : s.partEn p = true) (hs : s.rd R.cfgPstatState p ≠ psReset) :
    CfgKept (s.markReset p cause) (s.resetPartition p cause) := by
  unfold State.resetPartition
  rw [if_neg (by simp [he]), if_neg hs]
  extract_lets a b c d e f g h i health j k x l m
  have hd : d = s.markReset p cause := rfl
  have h1 : CfgKept d e := CfgKept.raise ..
  have h2 : CfgKept e f := CfgKept.foldl (fun s r => by
    dsimp only
    refine CfgKept.trans ?_ (State.endReq_cfgKept _ _ (by decide) _ _)
    split
    · exact CfgKept.of_eff (State.genDetail_eff ..) (by decide)
    · exact CfgKept.refl s) ..
  have h3 : CfgKept f g := CfgKept.foldl (fun s cl => CfgKept.of_same (t := s.setCluster cl (s.cluster cl).reset) rfl rfl) ..
  have h4 : CfgKept g h := CfgKept.of_same rfl rfl
  have h5 : CfgKept h i := State.clearPartition_cfgKept ..
  have h6 : CfgKept i k := CfgKept.of_same rfl rfl
  have h7 : CfgKept k l := CfgKept.foldl (fun s _ => CfgKept.wr (by decide) ..) ..
  have h8 : CfgKept l m := CfgKept.of_eff (State.endUse_eff ..) (by decide)
  exact hd ▸ (((((((h1.trans h2).trans h3).trans h4).trans h5).trans h6).trans h7).trans h8).trans (CfgKept.of_same rfl rfl)

/-! ### A partition in reset -/

/-- Partition `p` is defined, and its registers are in canonical form. -/
structure State.Defined (s : State) (p : Nat) : Prop where
  wf : Registers.wf s.regs = true
  en : s.partEn p = true

/-- It is in reset. -/
structure State.InReset (s : State) (p : Nat) : Prop extends s.Defined p where
  state : s.rd R.cfgPstatState p = psReset

theorem State.Defined.lt {s : State} {p : Nat} (h : s.Defined p) : p < 64 := by
  have := h.en
  simp only [State.partEn, Bool.and_eq_true, decide_eq_true_eq] at this
  exact this.1

theorem CfgKept.defined {s t : State} (h : CfgKept s t) {p : Nat} (hp : s.Defined p) : t.Defined p where
  wf := h.wf hp.wf
  en := by
    have hlt := hp.lt
    have hkey : regKey R.cfgPartEn.kind R.cfgPartEn.off p = 0x200400 + 8 * p := rfl
    obtain ⟨-, hmod⟩ := h.reg hp.wf (regKey R.cfgPartEn.kind R.cfgPartEn.off p) (by omega) (by omega)
    have hen := hp.en
    simp only [State.partEn, State.isSet, State.rd, bitsOf_eq, Bool.and_eq_true, decide_eq_true_eq] at hen ⊢
    refine ⟨hlt, ?_⟩
    obtain ⟨-, hen⟩ := hen
    simp only [R.cfgPartEn] at hen hmod ⊢
    omega

theorem CfgKept.inReset {s t : State} (h : CfgKept s t) {p : Nat} (hp : s.InReset p) : t.InReset p where
  toDefined := h.defined hp.toDefined
  state := by
    have hlt := hp.lt
    have hkey : regKey R.cfgPstatState.kind R.cfgPstatState.off p = 0x200800 + 8 * p := rfl
    obtain ⟨hle, hmod⟩ := h.reg hp.wf (regKey R.cfgPstatState.kind R.cfgPstatState.off p) (by omega) (by omega)
    have hst := hp.state
    have hlt64 := (s.reg (regKey R.cfgPstatState.kind R.cfgPstatState.off p)).isLt
    simp only [State.rd, bitsOf_eq, psReset, R.cfgPstatState] at hst hle hmod hlt64 ⊢
    omega

/-- A write to a status register leaves what defines a partition. -/
theorem State.Defined.wr {s : State} {p : Nat} (h : s.Defined p) {f : Fld} (hk : f.kind = .array) (ho : f.off = 0x200800) {q : Nat} (v : Nat)
    (hq : q < 64) : (s.wr f q v).Defined p where
  wf := State.wr_regs_wf h.wf ..
  en := by
    have hlt := h.lt
    have hkey : regKey R.cfgPartEn.kind R.cfgPartEn.off p ≠ regKey f.kind f.off q := by
      simp only [hk, ho, R.cfgPartEn, regKey]
      omega
    rw [← h.en, State.partEn, State.partEn, State.isSet, State.isSet, State.rd_wr_ne h.wf _ _ _ _ _ hkey]

/-- A write to a field of a status register beside STATE leaves a partition in reset. -/
theorem State.InReset.wr {s : State} {p : Nat} (h : s.InReset p) {f : Fld} (hk : f.kind = .array) (ho : f.off = 0x200800) {q : Nat} (v : Nat)
    (hq : q < 64) (hf : f.fits = true) (ha : f.apart R.cfgPstatState = true) : (s.wr f q v).InReset p where
  toDefined := h.toDefined.wr hk ho v hq
  state := by
    rw [← h.state]
    by_cases hp : p = q
    · exact State.rd_wr_apart h.wf _ _ _ _ _ hf (by rw [hk, ho, hp]; rfl) ha
    · refine State.rd_wr_ne h.wf _ _ _ _ _ ?_
      simp only [hk, ho, R.cfgPstatState, regKey]
      omega

end Sys2Proof.Machine
end

section
/-! A header that cannot be read (R259): the partitions of the router's region are reset, and the fault is reported. -/

namespace Sys2Proof.Machine

theorem State.Defined.markReset {s : State} {p q : Nat} (h : s.Defined p) (cause : Nat) (hq : q < 64) : (s.markReset q cause).Defined p :=
  (((h.wr rfl rfl _ hq).wr rfl rfl _ hq).wr rfl rfl _ hq).wr rfl rfl _ hq

/-- The partition whose reset is entered is in reset. -/
theorem State.markReset_inReset {s : State} {p : Nat} (h : s.Defined p) (cause : Nat) : (s.markReset p cause).InReset p := by
  have hstate : (s.wr R.cfgPstatState p psReset).InReset p :=
    ⟨h.wr rfl rfl _ h.lt, State.rd_wr_same h.wf _ _ _ (by decide)⟩
  exact ((hstate.wr rfl rfl _ h.lt (by decide) (by decide)).wr rfl rfl _ h.lt (by decide) (by decide)).wr rfl rfl _ h.lt (by decide) (by decide)

/-- One that is in reset already stays so while another's is entered. -/
theorem State.InReset.markReset {s : State} {p q : Nat} (h : s.InReset p) (cause : Nat) (hq : q < 64) (hne : p ≠ q) :
    (s.markReset q cause).InReset p := by
  have hstate : (s.wr R.cfgPstatState q psReset).InReset p := by
    refine ⟨h.toDefined.wr rfl rfl _ hq, h.state ▸ State.rd_wr_ne h.wf _ _ _ _ _ ?_⟩
    simp only [R.cfgPstatState, regKey]
    omega
  exact ((hstate.wr rfl rfl _ hq (by decide) (by decide)).wr rfl rfl _ hq (by decide) (by decide)).wr rfl rfl _ hq (by decide) (by decide)

/-- What a reset does: nothing to an undefined partition; to one in reset it may enter a lower cause; else it is entered, and nothing else of the
configuration block changes. -/
theorem State.resetPartition_cases (s : State) (q cause : Nat) :
    s.resetPartition q cause = s ∨ (∃ v, q < 64 ∧ s.resetPartition q cause = s.wr R.cfgPstatLastCause q v) ∨
      (q < 64 ∧ s.partEn q = true ∧ s.rd R.cfgPstatState q ≠ psReset ∧ CfgKept (s.markReset q cause) (s.resetPartition q cause)) := by
  by_cases he : s.partEn q = true
  · have hq : q < 64 := by
      simp only [State.partEn, Bool.and_eq_true, decide_eq_true_eq] at he
      exact he.1
    by_cases hs : s.rd R.cfgPstatState q = psReset
    · unfold State.resetPartition
      rw [if_neg (by simp [he]), if_pos hs]
      split
      · exact .inr (.inl ⟨_, hq, rfl⟩)
      · exact .inl rfl
    · exact .inr (.inr ⟨hq, he, hs, State.resetPartition_cfgKept cause he hs⟩)
  · exact .inl (by rw [State.resetPartition, if_pos (by simpa using he)])

theorem State.Defined.resetPartition {s : State} {p : Nat} (h : s.Defined p) (q cause : Nat) : (s.resetPartition q cause).Defined p := by
  obtain he | ⟨v, hq, he⟩ | ⟨hq, -, -, hk⟩ := s.resetPartition_cases q cause
  · rwa [he]
  · exact he ▸ h.wr rfl rfl v hq
  · exact hk.defined (h.markReset cause hq)

theorem State.InReset.resetPartition {s : State} {p : Nat} (h : s.InReset p) (q cause : Nat) : (s.resetPartition q cause).InReset p := by
  obtain he | ⟨v, hq, he⟩ | ⟨hq, -, hs, hk⟩ := s.resetPartition_cases q cause
  · rwa [he]
  · exact he ▸ h.wr rfl rfl v hq (by decide) (by decide)
  · exact hk.inReset (h.markReset cause hq fun e => hs (e ▸ h.state))

/-- A defined partition that is reset is in reset. -/
theorem State.resetPartition_inReset {s : State} {p : Nat} (h : s.Defined p) (cause : Nat) : (s.resetPartition p cause).InReset p := by
  by_cases hs : s.rd R.cfgPstatState p = psReset
  · exact State.InReset.resetPartition ⟨h, hs⟩ p cause
  · exact (State.resetPartition_cfgKept cause h.en hs).inReset (State.markReset_inReset h cause)

theorem State.resetPartition_sent (s : State) (q cause : Nat) {m : FaultMsg} (hm : m ∈ s.faults.sent) :
    m ∈ (s.resetPartition q cause).faults.sent := by
  obtain he | ⟨v, -, he⟩ | ⟨-, -, -, hk⟩ := s.resetPartition_cases q cause
  · rwa [he]
  · rwa [he]
  · exact hk.sent m hm

theorem State.resetParts_sent (ps : List Nat) (cause : Nat) {s : State} {m : FaultMsg} (hm : m ∈ s.faults.sent) :
    m ∈ (s.resetParts ps cause).faults.sent := by
  induction ps generalizing s with
  | nil => exact hm
  | cons q ps ih => exact ih (s.resetPartition_sent q cause hm)

theorem State.InReset.resetParts {p : Nat} (ps : List Nat) (cause : Nat) {s : State} (h : s.InReset p) : (s.resetParts ps cause).InReset p := by
  induction ps generalizing s with
  | nil => exact h
  | cons q ps ih => exact ih (h.resetPartition q cause)

/-- Of several partitions that are reset, a defined one is in reset. -/
theorem State.resetParts_inReset {p : Nat} {ps : List Nat} (hp : p ∈ ps) (cause : Nat) {s : State} (h : s.Defined p) :
    (s.resetParts ps cause).InReset p := by
  induction ps generalizing s with
  | nil => cases hp
  | cons q ps ih =>
    rcases List.mem_cons.1 hp with rfl | hp
    · exact (State.resetPartition_inReset h cause).resetParts ps cause
    · exact ih hp (h.resetPartition q cause)

/-! ### The router -/

theorem State.mem_partsInRegion_en {s : State} {g p : Nat} (h : p ∈ s.partsInRegion g) : s.partEn p = true := by
  simp only [State.partsInRegion, List.mem_filter, Bool.and_eq_true] at h
  exact h.2.1

theorem State.partsInRegion_setInput (s : State) (i : Nat) (x : RouterIn) (g : Nat) : (s.setInput i x).partsInRegion g = s.partsInRegion g := rfl

/-- A head flit with a header that cannot be read is dropped, and the region's partitions are reset. -/
theorem State.takeInput_unreadable {s : State} {g port : Nat} {ws : List (BitVec 144)}
    (hf : (s.pkg.input (16 * g + port)).fifo = [(true, ws)]) (hh : readHeader (ws.getD 0 0) = none) :
    State.takeInput 1 s g port = (s.setInput (16 * g + port)
      { s.pkg.input (16 * g + port) with fifo := [], taking := [], dropping := true }).routerHeader g port hubMaster := by
  simp only [State.takeInput, hf, hh, Bool.not_true, Bool.false_eq_true, if_false]

theorem State.routerHeader_resets {s : State} {g p : Nat} (port master : Nat) (hw : Registers.wf s.regs = true) (hp : p ∈ s.partsInRegion g) :
    (s.routerHeader g port master).rd R.cfgPstatState p = psReset ∧
      Raises s (s.routerHeader g port master) ⟨0x005, site (g / 8) (g % 8) 0 6 port, master, 0, 0, 0, s.now % 2 ^ 32⟩ := by
  have hdef := (CfgKept.raise s 0x005 (site (g / 8) (g % 8) 0 6 port) master 0 0 0).defined ⟨hw, State.mem_partsInRegion_en hp⟩
  exact ⟨(State.resetParts_inReset hp 4 hdef).state, fun hroom => State.resetParts_sent _ 4 (State.raise_raises _ _ _ _ _ _ _ hroom)⟩

/-- A flit whose header cannot be read resets the partitions of the region and is reported. -/
theorem State.routerFlit_unreadable {s : State} {g port p : Nat} {ws : List (BitVec 144)} (hw : Registers.wf s.regs = true)
    (hf : (s.pkg.input (16 * g + port)).fifo = []) (hh : readHeader (ws.getD 0 0) = none) (hp : p ∈ s.partsInRegion g) :
    (s.routerFlit g port (true, ws)).rd R.cfgPstatState p = psReset ∧
      Raises s (s.routerFlit g port (true, ws)) ⟨0x005, site (g / 8) (g % 8) 0 6 port, hubMaster, 0, 0, 0, s.now % 2 ^ 32⟩ := by
  rw [State.routerFlit_head ws hf, State.takeInput_unreadable (State.setInput_input s .. ▸ rfl) hh]
  exact State.routerHeader_resets (s := (s.setInput _ _).setInput _ _) port hubMaster hw (by rwa [State.partsInRegion_setInput, State.partsInRegion_setInput])

end Sys2Proof.Machine
end

section
/-! DIE_LINK_FRAME (R34, R35, R260): good frames, frames that are replayed, and the retirement of a link. -/

namespace Sys2Proof.Machine

/-! ### Good frames and replays -/

theorem Package.retired_of_linkDead {k : Package} {l : Nat} (h : k.linkDead l = false) : (k.link l).retired = false := by
  simp only [Package.linkDead, Bool.or_eq_false_iff] at h
  exact h.1

@[simp] theorem Package.link_put (k : Package) (l : Nat) (x : DieLink) : ({ k with links := aput k.links l x } : Package).link l = x := by
  simp [Package.link]

section
variable {s : State} {l : Nat} {f : DieFrame} (hd : s.pkg.linkDead l = false) (hl : f.flits.length ≤ 8) (hm : s.mayPass (arbLink l) 0 = true)
include hd hl hm

/-- A frame that a live link takes. -/
theorem State.dieFrame_taken : ¬ (s.pkg.linkDead l = true ∨ 8 < f.flits.length ∨ (8 ≤ l ∧ l < 12 ∧ (!s.mayPass (arbLink l) 0) = true)) := by
  simp only [hd, hm, Bool.false_eq_true, Bool.not_true, and_false, or_false, false_or]
  omega

/-- A good frame without a flit, the one expected, advances the frame number and ends its replays. -/
theorem State.dieFrame_advances (he : (s.pkg.link l).early = []) (hq : aget s.pkg.queued (arbLink l) = none) (hg : goodFrame f = true)
    (hf : f.flits = []) (hn : frameNumber f = (s.pkg.link l).next) :
    ∃ k : Package, s.dieFrame l f = s.putPkg k ∧ (k.link l).next = ((s.pkg.link l).next + 1) % 2 ^ 16 ∧ (k.link l).replays = 0 := by
  have hidle : ∀ k : Package, aget k.queued (arbLink l) = none → (k.link l).next = ((s.pkg.link l).next + 1) % 2 ^ 16 → (k.link l).replays = 0 →
      ∃ k' : Package, State.pumpLink ((aget (s.putPkg k).pkg.queued (arbLink l)).getD []).length (s.putPkg k) l = s.putPkg k' ∧
        (k'.link l).next = ((s.pkg.link l).next + 1) % 2 ^ 16 ∧ (k'.link l).replays = 0 := fun k hk hnext hreplays =>
    ⟨k, by rw [show aget (s.putPkg k).pkg.queued (arbLink l) = none from hk]; rfl, hnext, hreplays⟩
  unfold State.dieFrame
  rw [if_neg (State.dieFrame_taken hd hl hm)]
  simp only [hg, Bool.not_true, Bool.false_eq_true, if_false, hn, ne_eq, not_true_eq_false, hf, takeFlits, List.filter_nil, he, List.length_nil,
    List.append_nil, Nat.add_zero, DieLink.drain, List.range_zero, List.foldl_nil]
  split
  all_goals exact hidle _ hq (congrArg DieLink.next (Package.link_put s.pkg l _)) (congrArg DieLink.replays (Package.link_put s.pkg l _))

/-- A bad frame is replayed. -/
theorem State.dieFrame_replays (hg : goodFrame f = false) (hr : (s.pkg.link l).replays < 3) :
    ∃ F, s.dieFrame l f = (s.putPkg { s.pkg with
      links := aput s.pkg.links l { s.pkg.link l with replays := (s.pkg.link l).replays + 1 } }).putFaults F := by
  unfold State.dieFrame
  simp only [if_neg (State.dieFrame_taken hd hl hm), hg, Bool.not_false, if_true, if_neg (show (s.pkg.link l).replays ≠ 3 by omega)]
  exact State.raise_eq ..

/-- A bad frame after three failed replays retires the link. -/
theorem State.dieFrame_retires (hg : goodFrame f = false) (hr : (s.pkg.link l).replays = 3) :
    s.dieFrame l f = (s.raise 0x00B (linkSite l) hubMaster 0 4 2).retireLinkOf l ((takeFlits f.flits (s.pkg.link l).part).1.map (·.part)) := by
  unfold State.dieFrame
  simp only [if_neg (State.dieFrame_taken hd hl hm), hg, Bool.not_false, if_true, if_pos hr]
end

end Sys2Proof.Machine
end

section
/-! The retirement of a die link (R34): a link that has been retired stays so, whatever is reset and sent on after it. -/

namespace Sys2Proof.Machine

/-! ### Links that stay retired -/

/-- The state of a direction in a table of links. -/
def linkAt (ls : Sparse DieLink) (l : Nat) : DieLink := (aget ls l).getD DieLink.init

theorem Package.link_eq (k : Package) (l : Nat) : k.link l = linkAt k.links l := rfl

/-- What is retired in the one table of links is retired in the other. -/
def RetiredKept (a b : Sparse DieLink) : Prop := ∀ l, (linkAt a l).retired = true → (linkAt b l).retired = true

namespace RetiredKept

theorem refl (a : Sparse DieLink) : RetiredKept a a := fun _ h => h

theorem trans {a b c : Sparse DieLink} (h : RetiredKept a b) (h' : RetiredKept b c) : RetiredKept a c := fun l hl => h' l (h l hl)

theorem foldl {α β : Type} {links : β → Sparse DieLink} {f : β → α → β} (hf : ∀ b a, RetiredKept (links b) (links (f b a))) (l : List α)
    (b : β) : RetiredKept (links b) (links (l.foldl f b)) := by
  induction l generalizing b with
  | nil => exact refl _
  | cons a l ih => exact (hf b a).trans (ih _)

/-- A direction is set to a state that is retired where its old one was. -/
theorem put {a : Sparse DieLink} {d : Nat} {x : DieLink} (h : (linkAt a d).retired = true → x.retired = true) : RetiredKept a (aput a d x) := by
  intro l hl
  by_cases hd : l = d
  · subst hd
    simpa [linkAt] using h hl
  · rwa [linkAt, aget_aput_ne _ _ hd]

end RetiredKept

theorem aget_map_val {α β : Type} (m : Sparse α) (f : Nat × α → β) (k : Nat) :
    aget (m.map fun e => (e.1, f e)) k = (aget m k).map fun v => f (k, v) := by
  induction m with
  | nil => rfl
  | cons e r ih =>
    simp only [List.map_cons, aget, ih]
    split
    · simp_all
    · split <;> rfl

/-! ### The reset of partitions and the way of messages -/

theorem State.resetStreams_retired (s : State) (p : Nat) : RetiredKept s.pkg.links (s.resetStreams p).pkg.links := by
  intro l hl
  unfold State.resetStreams
  simp only [State.updPkg_eq, State.putPkg_pkg, linkAt]
  rw [aget_map_val]
  cases h : aget s.pkg.links l with
  | none => simp [linkAt, h, DieLink.init] at hl
  | some x => simpa [linkAt, h] using hl

theorem State.resetPartition_retired (s : State) (p cause : Nat) : RetiredKept s.pkg.links (s.resetPartition p cause).pkg.links := by
  unfold State.resetPartition
  split
  · exact RetiredKept.refl _
  split
  · split
    · exact RetiredKept.refl _
    · exact RetiredKept.refl _
  extract_lets a b c d e f g h i health j k x l m
  have he : e.pkg = s.pkg := (State.raise_eff ..).same .pkg rfl
  have hf : Eff 1108083614554 e f := Eff.foldl (fun s r => by
    dsimp only
    refine (State.endReq_eff ..).step rfl ?_
    split
    · exact (State.genDetail_eff ..).mono rfl
    · exact Eff.refl ..) (Eff.refl ..)
  have hg : Eff 2048 f g := Eff.foldl (fun s cl => State.setCluster_eff ..) (Eff.refl ..)
  have hi : Eff 1100562957832 h i := State.clearPartition_eff ..
  have hl : Eff 8 k l := Eff.foldl (fun s _ => State.wr_eff ..) (Eff.refl ..)
  have hm : Eff 8589934592 l m := State.endUse_eff ..
  have hbefore : g.pkg = s.pkg := (hg.same .pkg rfl).trans ((hf.same .pkg rfl).trans he)
  have hafter : m.pkg = h.pkg := (hm.same .pkg rfl).trans ((hl.same .pkg rfl).trans (hi.same .pkg rfl))
  have hreset := g.resetStreams_retired p
  rw [hbefore] at hreset
  exact (congrArg (fun k : Package => RetiredKept s.pkg.links k.links) hafter).mpr hreset

theorem State.resetParts_retired (s : State) (ps : List Nat) (cause : Nat) : RetiredKept s.pkg.links (s.resetParts ps cause).pkg.links :=
  RetiredKept.foldl (links := fun s : State => s.pkg.links) (fun s p => s.resetPartition_retired p cause) ps s

/-- A message that is delivered, or enters a link, leaves the state of the links. -/
theorem State.leaves_links (s : State) (arb : Nat) (m : RouterMsg) :
    (if arb < 520 then s.atOutput arb m
      else s.updPkg fun g => { g with onward := aput g.onward (arb - 520) ((aget g.onward (arb - 520)).getD [] ++ [m]) }).pkg.links =
      s.pkg.links := by
  split
  · unfold State.atOutput
    simp only [State.updPkg_eq, State.putPkg_pkg]
    split <;> rfl
  · rfl

/-- A message on its way leaves the state of the links. -/
theorem State.hop_links (fuel : Nat) (s : State) (arb input : Nat) (m : RouterMsg) : (State.hop fuel s arb input m).pkg.links = s.pkg.links := by
  induction fuel generalizing s arb input m with
  | zero =>
    unfold State.hop
    split
    · rfl
    · extract_lets m' next u
      exact u.leaves_links arb m'
  | succ n ih =>
    unfold State.hop
    split
    · rfl
    · extract_lets m' next u
      split
      · rename_i hfuel _
        cases hfuel
        exact ih u ..
      · exact u.leaves_links arb m'

/-! ### The retirement -/

/-- The link that takes streams over keeps its own state. -/
theorem Package.takeOver_retired (k : Package) (l : Nat) : RetiredKept k.links (k.takeOver l).links := by
  unfold Package.takeOver
  extract_lets keys
  refine RetiredKept.foldl (links := id) (fun ls d => RetiredKept.put fun h => ?_) _ k.links
  have hkeys : ∀ (keys : List Nat) (x : DieLink), (keys.foldl (fun (x : DieLink) key =>
      if sget 0 x.expect key = 0 then { x with expect := sset 0 x.expect key (k.afterLink l key) } else x) x).retired = x.retired := by
    intro keys
    induction keys with
    | nil => exact fun _ => rfl
    | cons key keys ih =>
      intro x
      rw [List.foldl_cons, ih]
      split <;> rfl
  exact (hkeys ..).trans h

/-- A link that is retired is retired after what follows: the other links take its streams over, partitions are reset, and what waited for it goes the
other way. -/
theorem State.retireLinkOf_retired (s : State) (l : Nat) (more : List Nat) : ((s.retireLinkOf l more).pkg.link l).retired = true := by
  unfold State.retireLinkOf
  extract_lets ps dirs waiting t u
  have hset : (linkAt (dirs.foldl (fun ls d => aput ls d { (aget ls d).getD DieLink.init with retired := true }) s.pkg.links) l).retired = true := by
    rw [List.foldl_cons]
    exact RetiredKept.foldl (links := id) (fun ls d => RetiredKept.put fun _ => rfl) _ _ l (by simp [linkAt])
  have ht : RetiredKept (dirs.foldl (fun ls d => aput ls d { (aget ls d).getD DieLink.init with retired := true }) s.pkg.links) t.pkg.links := by
    refine RetiredKept.trans (RetiredKept.foldl (links := Package.links) Package.takeOver_retired dirs { s.pkg with links := _ }) ?_
    exact RetiredKept.foldl (links := Package.links) (fun g d => RetiredKept.put (x := { g.link d with early := [], part := [] }) id) dirs _
  have hhops : RetiredKept u.pkg.links (waiting.foldl (fun s (e : Nat × Nat × RouterMsg) =>
      State.hop 4 s (arbLink (s.pkg.nextLink (arbDie (arbLink e.1)) (s.msgDie e.2.2))) e.2.1 e.2.2) u).pkg.links :=
    RetiredKept.foldl (links := fun s : State => s.pkg.links) (fun s e => State.hop_links .. ▸ RetiredKept.refl _) waiting u
  rw [Package.link_eq]
  exact (ht.trans ((t.resetParts_retired ps 5).trans hhops)) l hset

end Sys2Proof.Machine
end

section
/-! Arbiters, routers and die links: each command by the lemma on its operation. -/

namespace Sys2Proof.Machine

theorem exec_arbiterGrant (arb : Nat) (pend : List (Nat × Nat)) (s : State) : exec (.arbiterGrant arb pend) s = .next (s.arbiter arb pend) := rfl
theorem exec_routerFlit (g port : Nat) (f : Flit) (s : State) : exec (.routerFlit g port f) s = .next (s.routerFlit g port f) := rfl
theorem exec_dieLinkFrame (l : Nat) (f : DieFrame) (s : State) : exec (.dieLinkFrame l f) s = .next (s.dieFrame l f) := rfl

end Sys2Proof.Machine

open Sys2Proof.Machine

/-- Settles O28: grants and whole tokens by the lemmas on arbiters and router inputs, an unreadable header by what the reset of partitions leaves of the
configuration block, and the frames of a die link by the lemmas on its replays and on links that stay retired. -/
theorem packageCommands : Obligations.PackageCommands := by
  refine ⟨?grant, ?token, ?unreadable, ?full, ?good, ?replayed, ?retired⟩
  case grant =>
    intro s arb i act hwf hq hf
    obtain ⟨a, v, he⟩ := State.arbiter_lone act hwf hq hf
    exact ⟨_, (exec_arbiterGrant ..).trans (congrArg _ he), sget_sset_same _ _ hwf, rfl, rfl, rfl, rfl⟩
  case token =>
    intro s g port h dest arb ws c hf hh hk hl hd hlo hhi hreg harb hg hw hgr hq
    obtain ⟨f, i, gr, a, he⟩ := State.routerFlit_token hh hk hl hd hlo hhi hreg harb hg hgr hq hf hw
    refine ⟨_, (exec_routerFlit ..).trans (congrArg _ he), ⟨_, aget_aput_same .., ?_, rfl, rfl, rfl, rfl⟩, rfl, rfl, rfl⟩
    simp [routerMsgOf, hk, hd]
  case unreadable =>
    intro s g port p ws hwf hf hh hp
    exact ⟨_, exec_routerFlit .., State.routerFlit_unreadable hwf hf hh hp⟩
  case full =>
    intro s g port f h
    exact ⟨_, exec_routerFlit .., State.routerFlit_full f h⟩
  case good =>
    intro s l f hd he hq hm hg hf hn
    obtain ⟨k, hk, hnext, hreplays⟩ := State.dieFrame_advances hd (by simp [hf]) hm he hq hg hf hn
    exact ⟨_, (exec_dieLinkFrame ..).trans (congrArg _ hk), hnext, hreplays, rfl, rfl, rfl⟩
  case replayed =>
    intro s l f hd hm hg hl hr
    obtain ⟨F, he⟩ := State.dieFrame_replays hd hl hm hg hr
    have hlink := Package.link_put s.pkg l { s.pkg.link l with replays := (s.pkg.link l).replays + 1 }
    exact ⟨_, (exec_dieLinkFrame ..).trans (congrArg _ he), (congrArg DieLink.next hlink).trans rfl, (congrArg DieLink.replays hlink).trans rfl,
      (congrArg DieLink.retired hlink).trans (Package.retired_of_linkDead hd), rfl, rfl⟩
  case retired =>
    intro s l f hd hm hg hl hr
    have hret := (s.raise 0x00B (linkSite l) hubMaster 0 4 2).retireLinkOf_retired l ((takeFlits f.flits (s.pkg.link l).part).1.map (·.part))
    rw [← State.dieFrame_retires hd hl hm hg hr] at hret
    exact ⟨_, exec_dieLinkFrame .., hret, by simp [Package.linkDead, hret]⟩

end

section
/-! The clock of a cluster (R92, R93, R96): what the passing of schedule cycles, stalls and the issue of an instruction leave. -/

namespace Sys2Proof.Machine

/-- A cluster without its clock: the schedule cycle, the times and accesses to come of its units, and the instruction due next. -/
def Cluster.unclocked (c : Cluster) : Cluster :=
  { c with pc := 0, loops := [], schedCycles := 0, vecBusy := 0, roEnd := [], roReady := 0, arrFree := 0, wFree := [], wUsed := [], wReady := [],
           paccFree := 0, bankUse := [] }

/-- The two clusters differ in their clock alone. -/
def SameWork (c d : Cluster) : Prop := c.unclocked = d.unclocked

/-- What does not depend on the clock is the same of clusters that differ in it alone. -/
theorem SameWork.of {α : Type} {c d : Cluster} (h : SameWork c d) (f : Cluster → α) (hf : ∀ c : Cluster, f c.unclocked = f c) : f c = f d := by
  rw [← hf c, h, hf d]

section
variable {c d : Cluster} (h : SameWork c d)
include h

theorem SameWork.scratch : c.scratch = d.scratch := h.of Cluster.scratch fun _ => rfl
theorem SameWork.stepDesc : c.stepDesc = d.stepDesc := h.of Cluster.stepDesc fun _ => rfl
theorem SameWork.weights : c.weights = d.weights := h.of Cluster.weights fun _ => rfl
theorem SameWork.acc : c.acc = d.acc := h.of Cluster.acc fun _ => rfl
theorem SameWork.accOf : c.accOf = d.accOf := h.of Cluster.accOf fun _ => rfl
theorem SameWork.accSide : c.accSide = d.accSide := h.of Cluster.accSide fun _ => rfl
theorem SameWork.loadW : c.loadW = d.loadW := h.of Cluster.loadW fun _ => rfl
end

theorem SameWork.trans {c d e : Cluster} (h : SameWork c d) (h' : SameWork d e) : SameWork c e := Eq.trans h h'

theorem Cluster.slipReadOut_sameWork (c : Cluster) : SameWork c.slipReadOut c := by
  unfold Cluster.slipReadOut
  split <;> rfl

theorem Cluster.slip_sameWork (c : Cluster) (u : BankUse) : SameWork (c.slip u) c := by
  unfold Cluster.slip
  split
  · rfl
  · rfl
  · dsimp only
    split
    · exact Cluster.slipReadOut_sameWork _
    · rfl
  · rfl
  · rfl

theorem SameWork.foldl {α : Type} {f : Cluster → α → Cluster} (hf : ∀ c a, SameWork (f c a) c) (l : List α) (c : Cluster) :
    SameWork (l.foldl f c) c := by
  induction l generalizing c with
  | nil => rfl
  | cons a l ih => exact (ih _).trans (hf c a)

theorem Cluster.tick_sameWork (c : Cluster) : SameWork c.tick c := by
  unfold Cluster.tick
  dsimp only
  split
  · rfl
  · exact SameWork.foldl Cluster.slip_sameWork _ _

theorem Cluster.advance_sameWork (c : Cluster) (n : Nat) : SameWork (c.advance n) c := by
  induction n generalizing c with
  | zero => rfl
  | succ n ih =>
    unfold Cluster.advance
    split
    · rfl
    · exact (ih _).trans c.tick_sameWork

theorem Cluster.waitFor_sameWork (fuel : Nat) (f : Cluster → Nat) (c : Cluster) : SameWork (c.waitFor fuel f) c := by
  induction fuel generalizing c with
  | zero => rfl
  | succ n ih =>
    unfold Cluster.waitFor
    split
    · rfl
    · split
      · rfl
      · exact (ih _).trans c.tick_sameWork

theorem Cluster.stall_sameWork (c : Cluster) (f : Cluster → Nat) : SameWork (c.stall f) c := Cluster.waitFor_sameWork ..

theorem Cluster.bankStall_sameWork (fuel order mask : Nat) (c : Cluster) : SameWork (c.bankStall fuel order mask) c := by
  induction fuel generalizing c with
  | zero => rfl
  | succ n ih =>
    unfold Cluster.bankStall
    dsimp only
    split
    · rfl
    · exact (ih _).trans c.tick_sameWork

theorem Cluster.startUse_sameWork (c : Cluster) (u : BankUse) : SameWork (c.startUse u) c := by
  unfold Cluster.startUse
  dsimp only
  split <;> exact Cluster.bankStall_sameWork ..

theorem Cluster.issue_sameWork (c : Cluster) (n : Nat) : SameWork (c.issue n) c := Cluster.advance_sameWork c n

/-- The entry into an accumulation takes time alone. -/
theorem Cluster.enterTile_sameWork (c : Cluster) (first last : Bool) (regs : List Nat) (spans : List (List Touch)) (cycles body fill : Nat)
    (out : List (List Touch)) : SameWork (c.enterTile first last regs spans cycles body fill out) c := by
  unfold Cluster.enterTile
  extract_lets c1 c2 c3 t c4 filled start c5
  have h1 : SameWork c1 c := Cluster.stall_sameWork ..
  have h2 : SameWork c2 c := by
    unfold c2
    split
    · exact (Cluster.stall_sameWork ..).trans h1
    · exact h1
  have h4 : SameWork c4 c := (Cluster.startUse_sameWork c2 _).trans h2
  refine (Cluster.issue_sameWork ..).trans ?_
  unfold c5
  split
  · exact h4
  · exact h4

/-! ### Schedule cycles that pass -/

@[simp] theorem Cluster.schedCycles_slip (c : Cluster) (u : BankUse) : (c.slip u).schedCycles = c.schedCycles := by
  unfold Cluster.slip Cluster.slipReadOut
  split
  · rfl
  · rfl
  · dsimp only
    split
    · split <;> rfl
    · rfl
  · rfl
  · rfl

theorem Cluster.schedCycles_tick (c : Cluster) : c.tick.schedCycles = c.schedCycles + 1 := by
  have hslips : ∀ (l : List BankUse) (c : Cluster), (l.foldl Cluster.slip c).schedCycles = c.schedCycles := by
    intro l
    induction l with
    | nil => exact fun _ => rfl
    | cons u l ih => exact fun c => (ih _).trans (c.schedCycles_slip u)
  unfold Cluster.tick
  dsimp only
  split
  · rfl
  · rw [hslips]

/-- An instruction that only issues takes its cycle. -/
theorem Cluster.schedCycles_issue_one (c : Cluster) : (c.issue 1).schedCycles = c.schedCycles + 1 := by
  show (c.advance 1).schedCycles = _
  unfold Cluster.advance
  split
  · rfl
  · exact c.schedCycles_tick

end Sys2Proof.Machine
end

section
/-! Sums over a tile (R52, R55, R74): each element's entry is changed once, as its own products give. -/

namespace Sys2Proof.Machine

variable {α κ : Type} [DecidableEq α] {d : α} (key : κ → Nat) (f : κ → α → α)

/-- Changes of other keys leave a key. -/
theorem sget_foldl_update_ne {l : List κ} {m : Sparse α} (hm : swf d m = true) {k : Nat} (hk : k ∉ l.map key) :
    sget d (l.foldl (fun m e => sset d m (key e) (f e (sget d m (key e)))) m) k = sget d m k := by
  induction l generalizing m with
  | nil => rfl
  | cons a l ih =>
    rw [List.map_cons, List.mem_cons, not_or] at hk
    rw [List.foldl_cons, ih (sset_wf _ _ hm) hk.2, sget_sset_ne _ hk.1 hm]

/-- Of different keys each is changed once. -/
theorem sget_foldl_update {l : List κ} {m : Sparse α} (hm : swf d m = true) (hl : (l.map key).Nodup) {e : κ} (he : e ∈ l) :
    sget d (l.foldl (fun m e => sset d m (key e) (f e (sget d m (key e)))) m) (key e) = f e (sget d m (key e)) := by
  induction l generalizing m with
  | nil => cases he
  | cons a l ih =>
    obtain ⟨ha, hl⟩ := List.nodup_cons.1 (List.map_cons ▸ hl)
    rw [List.foldl_cons]
    rcases List.mem_cons.1 he with rfl | he
    · rw [sget_foldl_update_ne key f (sset_wf _ _ hm) ha, sget_sset_same _ _ hm]
    · have hne : key e ≠ key a := fun h => ha (h ▸ List.mem_map_of_mem he)
      rw [ih (sset_wf _ _ hm) hl he, sget_sset_ne _ hne hm]

/-- The places (row, column) of a tile, row by row. -/
def tilePlaces (m n : Nat) : List (Nat × Nat) := List.range m ×ˢ List.range n

theorem foldl_tilePlaces {β : Type} (f : β → Nat × Nat → β) (m n : Nat) (x : β) :
    (tilePlaces m n).foldl f x = (List.range m).foldl (fun x r => (List.range n).foldl (fun x j => f x (r, j)) x) x := by
  simp only [tilePlaces, SProd.sprod, List.product, List.foldl_flatMap, List.foldl_map]

/-- Columns of a path's tile: 256 of the arrays, 64 of the lane. -/
def pathCols (lane : Bool) : Nat := if lane then 64 else 256

/-- Places of a tile that fits the columns of its path have keys of their own. -/
theorem accKey_tilePlaces_nodup {lane : Bool} (side m : Nat) {n : Nat} (hn : n ≤ pathCols lane) :
    ((tilePlaces m n).map fun e => accKey lane side e.1 e.2).Nodup := by
  refine List.Nodup.map_on ?_ (List.nodup_range.product List.nodup_range)
  rintro ⟨r, j⟩ he ⟨r', j'⟩ he' h
  have hj := List.mem_range.1 (List.mem_product.1 he).2
  have hj' := List.mem_range.1 (List.mem_product.1 he').2
  cases lane <;> simp only [accKey, pathCols, if_true, if_false, Bool.false_eq_true] at h hn <;> rw [Prod.mk.injEq] <;> omega

/-- A tile whose entries are each changed once. -/
theorem sget_foldl_tile {lane : Bool} {side m n r j : Nat} {acc : Sparse AccEntry} (f : Nat × Nat → AccEntry → AccEntry) (hn : n ≤ pathCols lane)
    (hacc : swf AccEntry.zero acc = true) (hr : r < m) (hj : j < n) :
    sget AccEntry.zero ((tilePlaces m n).foldl (fun acc e => sset AccEntry.zero acc (accKey lane side e.1 e.2)
      (f e (sget AccEntry.zero acc (accKey lane side e.1 e.2)))) acc) (accKey lane side r j) =
    f (r, j) (sget AccEntry.zero acc (accKey lane side r j)) :=
  sget_foldl_update (fun e : Nat × Nat => accKey lane side e.1 e.2) f hacc (accKey_tilePlaces_nodup side m hn) (e := (r, j))
    (List.mem_product.2 ⟨List.mem_range.2 hr, List.mem_range.2 hj⟩)

end Sys2Proof.Machine
end

section
/-! The accumulation of a tile and its read-out as partial words (R52, R55, R59, R100). -/

namespace Sys2Proof.Machine

theorem Cluster.accOf_putAcc (c : Cluster) (lane : Bool) (acc : Sparse AccEntry) (side : Nat) : (c.putAcc lane acc side).accOf lane = acc := by
  cases lane <;> rfl

/-- What a path's accumulators leave: the other path and scratch. -/
theorem Cluster.putAcc_leaves (c : Cluster) (lane : Bool) (acc : Sparse AccEntry) (side : Nat) :
    (c.putAcc lane acc side).accOf (!lane) = c.accOf (!lane) ∧ (c.putAcc lane acc side).scratch = c.scratch := by
  cases lane <;> exact ⟨rfl, rfl⟩

/-- The products that a cluster works on, opened, leave all but them. -/
theorem Cluster.openProduct_eq (c : Cluster) : ∃ l b, c.openProduct = { c with products := l, productOpen := b } := by
  unfold Cluster.openProduct
  split
  · exact ⟨c.products, c.productOpen, rfl⟩
  · exact ⟨_, _, rfl⟩

section
variable (c : Cluster)

@[simp] theorem Cluster.stepDesc_openProduct : c.openProduct.stepDesc = c.stepDesc := by
  obtain ⟨l, b, h⟩ := c.openProduct_eq
  rw [h]

@[simp] theorem Cluster.scratch_openProduct : c.openProduct.scratch = c.scratch := by
  obtain ⟨l, b, h⟩ := c.openProduct_eq
  rw [h]

@[simp] theorem Cluster.readS_openProduct : c.openProduct.readS = c.readS := by
  obtain ⟨l, b, h⟩ := c.openProduct_eq
  rw [h]
  rfl

@[simp] theorem Cluster.accOf_openProduct : c.openProduct.accOf = c.accOf := by
  obtain ⟨l, b, h⟩ := c.openProduct_eq
  rw [h]
  rfl

@[simp] theorem Cluster.accSide_openProduct : c.openProduct.accSide = c.accSide := by
  obtain ⟨l, b, h⟩ := c.openProduct_eq
  rw [h]
  rfl
end

/-- The side that an accumulation fills: FIRST starts the other one. -/
def Cluster.nextSide (c : Cluster) (lane first : Bool) : Nat := if first then 1 - c.accSide lane else c.accSide lane

/-- An element's entry after an accumulation: from nothing where FIRST is set, else from what it holds. -/
def elementSum (d p : List Byte) (o : TileOps) (ks : Nat) (first : Bool) (e : Nat × Nat) (x : AccEntry) : AccEntry :=
  accumulate d (tileAnchor d p o e.1 e.2) (tileProducts d p o ks e.1 e.2) o.poison (if first then AccEntry.zero else x)

/-- The entries of a path after an accumulation of a tile. -/
def Cluster.tileSums (c : Cluster) (lane : Bool) (p : List Byte) (o : TileOps) (ks m n : Nat) (first : Bool) : Sparse AccEntry :=
  (tilePlaces m n).foldl (fun acc e => sset AccEntry.zero acc (accKey lane (c.nextSide lane first) e.1 e.2)
    (elementSum c.stepDesc p o ks first e (sget AccEntry.zero acc (accKey lane (c.nextSide lane first) e.1 e.2)))) (c.accOf lane)

/-- Of a fold that carries two values from row to row and column to column, the first where it does not depend on the second. -/
theorem foldl_foldl_fst {ρ κ β γ : Type} (f : β → ρ → κ → β) (g : β × γ → ρ → κ → γ) (rows : List ρ) (cols : List κ) (x : β × γ) :
    (rows.foldl (fun x r => cols.foldl (fun x j => (f x.1 r j, g x r j)) x) x).1 =
      rows.foldl (fun b r => cols.foldl (fun b j => f b r j) b) x.1 := by
  have hrow : ∀ (x : β × γ) (r : ρ), cols.foldl (fun b j => f b r j) x.1 = (cols.foldl (fun x j => (f x.1 r j, g x r j)) x).1 := fun x r =>
    List.foldl_hom Prod.fst (g₁ := fun x j => (f x.1 r j, g x r j)) (g₂ := fun b j => f b r j) fun _ _ => rfl
  exact (List.foldl_hom Prod.fst hrow).symm

/-- An accumulation puts the sums of the tile in the accumulators of its path, and LAST reads them out from there. The other path and scratch it
leaves as they are. -/
theorem Cluster.walkTile_sums (c : Cluster) (lane : Bool) (pa : Nat) (p : List Byte) (o : TileOps) (ks m n : Nat) (first last : Bool) :
    ∃ (x : Cluster) (anc : Nat → Nat → Int) (check : Bool) (id : Nat),
      x.accOf lane = c.tileSums lane p o ks m n first ∧ x.accSide lane = c.nextSide lane first ∧ x.accOf (!lane) = c.accOf (!lane) ∧
      x.scratch = c.scratch ∧ c.walkTile lane pa p o ks m n first last =
        if last then x.readOut p ⟨m, n, 0⟩ (fun r j => sget AccEntry.zero (x.accOf lane) (accKey lane (x.accSide lane) r j)) anc check id
        else x := by
  obtain ⟨l, b, hl⟩ := c.openProduct_eq
  unfold Cluster.walkTile
  rw [hl]
  extract_lets d c1 chk side key run c2 x
  have hrun : run.1 = c.tileSums lane p o ks m n first := by
    rw [Cluster.tileSums, foldl_tilePlaces]
    exact foldl_foldl_fst (fun acc r j => sset AccEntry.zero acc (key r j) (elementSum d p o ks first (r, j) (sget AccEntry.zero acc (key r j)))) _ _ _ _
  refine ⟨x, tileAnchor d p o, chk.isSome, chk.getD (pairIndex d p), ?_⟩
  rw [← hrun]
  cases lane <;> exact ⟨rfl, rfl, rfl, rfl, rfl⟩

/-- Each element of the tile holds its sum. -/
theorem Cluster.sget_tileSums (c : Cluster) {lane : Bool} (p : List Byte) (o : TileOps) (ks : Nat) {m n r j : Nat} (first : Bool)
    (hn : n ≤ pathCols lane) (hacc : swf AccEntry.zero (c.accOf lane) = true) (hr : r < m) (hj : j < n) :
    sget AccEntry.zero (c.tileSums lane p o ks m n first) (accKey lane (c.nextSide lane first) r j) =
      elementSum c.stepDesc p o ks first (r, j) (sget AccEntry.zero (c.accOf lane) (accKey lane (c.nextSide lane first) r j)) :=
  sget_foldl_tile _ hn hacc hr hj

/-- An accumulation without read-out, some time later: each element of the tile holds its sum, in the side that fills. -/
theorem SameWork.walkTile_entry {c w : Cluster} (h : SameWork c w) {lane : Bool} (pa : Nat) (p : List Byte) (o : TileOps) (ks : Nat) {m n r j : Nat}
    (first : Bool) (hn : n ≤ pathCols lane) (hacc : swf AccEntry.zero (w.accOf lane) = true) (hr : r < m) (hj : j < n) :
    let t := c.walkTile lane pa p o ks m n first false
    t.accSide lane = (if first then 1 - w.accSide lane else w.accSide lane) ∧
      sget AccEntry.zero (t.accOf lane) (accKey lane (t.accSide lane) r j) =
        accumulate w.stepDesc (tileAnchor w.stepDesc p o r j) (tileProducts w.stepDesc p o ks r j) o.poison
          (if first then AccEntry.zero else sget AccEntry.zero (w.accOf lane) (accKey lane (w.accSide lane) r j)) ∧
      t.scratch = w.scratch ∧ t.accOf (!lane) = w.accOf (!lane) := by
  obtain ⟨x, anc, check, id, hsums, hside, hother, hscratch, hwalk⟩ := c.walkTile_sums lane pa p o ks m n first false
  dsimp only
  rw [hwalk, if_neg Bool.false_ne_true, hsums, hside, hother, hscratch, c.sget_tileSums p o ks first hn (h.accOf ▸ hacc) hr hj, h.accOf, h.scratch,
    h.stepDesc, Cluster.nextSide, h.accSide]
  refine ⟨rfl, ?_, rfl, rfl⟩
  cases first <;> rfl

/-- LAST reads the tile out of the accumulators that hold its sums. -/
theorem Cluster.walkTile_reads_out (c : Cluster) (lane : Bool) (pa : Nat) (p : List Byte) (o : TileOps) (ks m n : Nat) (first : Bool) :
    ∃ (x : Cluster) (anc : Nat → Nat → Int) (check : Bool) (id : Nat), x.scratch = c.scratch ∧ c.walkTile lane pa p o ks m n first true =
      x.readOut p ⟨m, n, 0⟩ (fun r j => sget AccEntry.zero (x.accOf lane) (accKey lane (x.accSide lane) r j)) anc check id := by
  obtain ⟨x, anc, check, id, -, -, -, hscratch, hwalk⟩ := c.walkTile_sums lane pa p o ks m n first true
  exact ⟨x, anc, check, id, hscratch, hwalk⟩

end Sys2Proof.Machine
end

section
/-! A tile read out as partial words (R59, R100). -/

namespace Sys2Proof.Machine

theorem writeBytesFuel_nil (detect : Nat → Bool) (fuel : Nat) (cells : List Host.Cell) (word : Nat → Nat) (a : Nat) :
    writeBytesFuel detect fuel cells word a [] = cells := by cases fuel <;> rfl

/-- A whole word that is written replaces what its place held. -/
theorem writeBytes_word (detect : Nat → Bool) (cells : List Host.Cell) (word : Nat → Nat) {a : Nat} {bs : List Byte} (ha : a % 16 = 0)
    (hb : bs.length = 16) : writeBytes detect cells word a bs = putWord cells (word a) (encodeWord bs) := by
  obtain _ | ⟨x, r⟩ := bs
  · cases hb
  · have hmin : Nat.min (16 - a % 16) (x :: r).length = (x :: r).length := by rw [ha, hb]; rfl
    rw [writeBytes, writeBytesFuel, hmin, List.take_length, List.drop_length, writeBytesFuel_nil, mergeWord, if_pos hb, ha, Nat.sub_zero]

theorem Cluster.scratch_writeS_word (c : Cluster) {a : Nat} {bs : List Byte} (ha : a % 16 = 0) (hb : bs.length = 16) :
    (c.writeS a bs).scratch = putWord c.scratch (a / 16) (encodeWord bs) := writeBytes_word correctMode c.scratch (fun x => x / 16) ha hb

theorem AccEntry.partialWord_length (x : AccEntry) : x.partialWord.length = 16 := leBytes_length ..

/-- A signature leaves scratch and the accumulators. -/
theorem Cluster.sign_leaves (c : Cluster) (check : Bool) (id : Nat) (t : BitVec 64) :
    (c.sign check id t).scratch = c.scratch ∧ (c.sign check id t).acc = c.acc ∧ (c.sign check id t).half = c.half := by
  cases check <;> exact ⟨rfl, rfl, rfl⟩

/-- The one element of a tile that another cluster owns goes to scratch as its partial word; the accumulators keep it. -/
theorem Cluster.readOut_partial_one (c : Cluster) {p : List Byte} (entry : Nat → Nat → AccEntry) (anc : Nat → Nat → Int) (check : Bool) (id : Nat)
    (ho : prOwner p = false) (ha : prOut p % 16 = 0) :
    let x := c.readOut p ⟨1, 1, 0⟩ entry anc check id
    x.scratch = putWord c.scratch (prOut p / 16) (encodeWord (entry 0 0).partialWord) ∧ x.acc = c.acc ∧ x.half = c.half := by
  have haddr : prOut p + 0 * prStride p + 16 * 0 = prOut p := by omega
  have hx : c.readOut p ⟨1, 1, 0⟩ entry anc check id =
      (c.writeS (prOut p) (entry 0 0).partialWord).sign check id (sigTerm 0 (0 + 0) (leNat (entry 0 0).partialWord)) := by
    simp only [Cluster.readOut, Cluster.writePartials, List.range_one, List.foldl_cons, List.foldl_nil, ho, Bool.false_eq_true, if_false, haddr]
  obtain ⟨hscratch, hacc, hhalf⟩ := Cluster.sign_leaves (c.writeS (prOut p) (entry 0 0).partialWord) check id
    (sigTerm 0 (0 + 0) (leNat (entry 0 0).partialWord))
  dsimp only
  rw [hx]
  exact ⟨hscratch.trans (c.scratch_writeS_word ha (AccEntry.partialWord_length _)), hacc, hhalf⟩

end Sys2Proof.Machine
end

section
/-! The matrix instructions on a cluster whose scratch is sound and that has no transfer outstanding (R46 to R59, R100). -/

namespace Sys2Proof.Machine

/-- The entry of word (r, j) of a block of partial words with `n` columns. -/
def Cluster.partialAt (c : Cluster) (src n : Nat) (e : Nat × Nat) : AccEntry :=
  AccEntry.ofPartial (c.readS (src + 16 * (e.1 * n + e.2)) 16).1 (c.readS (src + 16 * (e.1 * n + e.2)) 16).2

/-- The entries of a path after a block of partial words has joined them. -/
def Cluster.joined (c : Cluster) (lane : Bool) (src m n : Nat) : Sparse AccEntry :=
  (tilePlaces m n).foldl (fun acc e => sset AccEntry.zero acc (accKey lane (c.accSide lane) e.1 e.2)
    ((sget AccEntry.zero acc (accKey lane (c.accSide lane) e.1 e.2)).join (c.partialAt src n e))) (c.accOf lane)

/-- Each element has joined its own word. -/
theorem Cluster.sget_joined (c : Cluster) {lane : Bool} (src : Nat) {m n r j : Nat} (hn : n ≤ pathCols lane)
    (hacc : swf AccEntry.zero (c.accOf lane) = true) (hr : r < m) (hj : j < n) :
    sget AccEntry.zero (c.joined lane src m n) (accKey lane (c.accSide lane) r j) =
      (sget AccEntry.zero (c.accOf lane) (accKey lane (c.accSide lane) r j)).join (c.partialAt src n (r, j)) :=
  sget_foldl_tile (fun e x => x.join (c.partialAt src n e)) hn hacc hr hj

section
variable {s : State} {cl i : Nat} {p : List Byte} (hi : s.Issues cl) (hs : (s.cluster cl).Sound)
  (hp : (s.cluster cl).readS ((s.cluster cl).pairBase + 32 * i) 32 = (p, false))
include hi hs hp

/-- A sound pair record is the instruction's. -/
theorem State.withPair_sound : ∃ f, ∀ g, s.withPair cl i g = g (s.putFaults f) (s.cluster cl) ((s.cluster cl).pairBase + 32 * i) p := by
  obtain ⟨-, -, -, -, hx⟩ := id hi
  obtain ⟨f, hf⟩ := State.reading_sound hx hs [((s.cluster cl).pairBase + 32 * i, 32)]
  refine ⟨f, fun g => ?_⟩
  unfold State.withPair
  rw [State.onCluster_of_issues hi]
  simp only [hf, hp, Bool.false_eq_true, if_false]

/-- In a step of the lane an MMA only issues. -/
theorem State.mma_gated (a : Nat) (wb last first : Bool) (hl : sdLane (s.cluster cl).stepDesc = true) :
    ∃ f, s.mma cl a i wb last first = (s.putFaults f).setCluster cl ((s.cluster cl).issue 1) := by
  obtain ⟨f, hf⟩ := State.withPair_sound hi hs hp
  refine ⟨f, ?_⟩
  unfold State.mma
  simp only [hf, hl, if_true]

/-- In any other step it accumulates its tile, some time later. -/
theorem State.mma_walks (a : Nat) (wb last first : Bool) (hl : sdLane (s.cluster cl).stepDesc = false) :
    ∃ (f : FaultState) (c : Cluster), SameWork c (s.cluster cl) ∧ s.mma cl a i wb last first = (s.putFaults f).setCluster cl
      (c.walkTile false ((s.cluster cl).pairBase + 32 * i) p ((s.cluster cl).mmaOps p a (prRows p) wb (prCols p)) (kTile (s.cluster cl).stepDesc)
        (prRows p) (prCols p) first last) := by
  obtain ⟨-, -, -, -, hx⟩ := id hi
  obtain ⟨f, hf⟩ := State.withPair_sound hi hs hp
  obtain ⟨f1, hf1⟩ := State.reading_sound (s := s.putFaults f) hx hs
    ((a, (mmaAreas (s.cluster cl).stepDesc a (prRows p)).2.2 - a) :: sumRanges (s.cluster cl).stepDesc p (prRows p) (prCols p))
  obtain ⟨f2, hf2⟩ := State.writing_sound (s := (s.putFaults f).putFaults f1) hx hs 0
    (if last then readOutRanges (s.cluster cl).stepDesc p ⟨prRows p, prCols p, 0⟩ else [])
  unfold State.mma
  simp only [hf, hl, Bool.false_eq_true, if_false, hf1, hf2]
  exact ⟨f2, _, Cluster.enterTile_sameWork .., rfl⟩

/-- In a step that the lane does not run an LMV only issues. -/
theorem State.lmv_gated (a b win : Nat) (last first : Bool) (hl : sdLane (s.cluster cl).stepDesc = false ∨ sdMode (s.cluster cl).stepDesc = 2) :
    ∃ f, s.lmv cl a i b win last first = (s.putFaults f).setCluster cl ((s.cluster cl).issue 1) := by
  obtain ⟨f, hf⟩ := State.withPair_sound hi hs hp
  refine ⟨f, ?_⟩
  unfold State.lmv
  simp only [hf]
  rw [if_pos (hl.imp_left fun h => by rw [h]; rfl)]

/-- In a step of the lane it accumulates its blocks. -/
theorem State.lmv_walks (a b win : Nat) (last first : Bool) (hl : sdLane (s.cluster cl).stepDesc = true) (hm : sdMode (s.cluster cl).stepDesc ≠ 2)
    (hrows : prRows p ≤ 8) (hcols : prCols p ≤ 64) :
    ∃ (f : FaultState) (c : Cluster), SameWork c (s.cluster cl) ∧ s.lmv cl a i b win last first = (s.putFaults f).setCluster cl
      (c.walkTile true ((s.cluster cl).pairBase + 32 * i) p ((s.cluster cl).lmvOps p a (prRows p) b win (prCols p)) (8 * b) (prRows p) (prCols p)
        first last) := by
  obtain ⟨-, -, -, -, hx⟩ := id hi
  obtain ⟨f, hf⟩ := State.withPair_sound hi hs hp
  obtain ⟨f1, hf1⟩ := State.reading_sound (s := s.putFaults f) hx hs
    ((a, (lmvAreas (s.cluster cl).stepDesc a (prRows p) b).2.2 - a) :: (win, (winAreas (s.cluster cl).stepDesc win b).2.2 - win) ::
      sumRanges (s.cluster cl).stepDesc p (prRows p) (prCols p))
  obtain ⟨f2, hf2⟩ := State.writing_sound (s := (s.putFaults f).putFaults f1) hx hs 1
    (if last then readOutRanges (s.cluster cl).stepDesc p ⟨prRows p, prCols p, 0⟩ else [])
  have hr : Nat.min (prRows p) 8 = prRows p := Nat.min_eq_left hrows
  have hc : Nat.min (prCols p) 64 = prCols p := Nat.min_eq_left hcols
  have hgo : ¬ ((!sdLane (s.cluster cl).stepDesc) = true ∨ sdMode (s.cluster cl).stepDesc = 2) := by simp [hl, hm]
  unfold State.lmv
  simp only [hf, hr, hc, if_neg hgo, hf1, hf2]
  exact ⟨f2, _, Cluster.enterTile_sameWork .., rfl⟩

/-- PACC joins its block to the accumulators of the step's path; scratch it leaves. -/
theorem State.pacc_joins {lane : Bool} (src : Nat) (hl : lane = sdLane (s.cluster cl).stepDesc) (hm : lane = true → prRows p ≤ 8 ∧ prCols p ≤ 64) :
    ∃ (f : FaultState) (c : Cluster), c.accOf lane = (s.cluster cl).joined lane src (prRows p) (prCols p) ∧ c.scratch = (s.cluster cl).scratch ∧
      s.pacc cl src i = (s.putFaults f).setCluster cl c := by
  obtain ⟨-, -, -, -, hx⟩ := id hi
  obtain ⟨f, hf⟩ := State.withPair_sound hi hs hp
  obtain ⟨f1, hf1⟩ := State.reading_sound (s := s.putFaults f) hx hs [(src, 16 * prRows p * prCols p)]
  have hrows : (if lane then Nat.min (prRows p) 8 else prRows p) = prRows p := by
    split
    · exact Nat.min_eq_left (hm ‹_›).1
    · rfl
  have hcols : (if lane then Nat.min (prCols p) 64 else prCols p) = prCols p := by
    split
    · exact Nat.min_eq_left (hm ‹_›).2
    · rfl
  unfold State.pacc
  simp only [hf, Cluster.stepDesc_openProduct, Cluster.accOf_openProduct, Cluster.accSide_openProduct, Cluster.readS_openProduct, ← hl, hrows, hcols,
    hf1]
  refine ⟨f1, _, ?_, ?_, rfl⟩
  · rw [(Cluster.issue_sameWork ..).accOf, Cluster.joined, foldl_tilePlaces]
    exact Cluster.accOf_putAcc ..
  · rw [(Cluster.issue_sameWork ..).scratch]
    exact ((Cluster.putAcc_leaves ..).2).trans ((Cluster.stall_sameWork ..).scratch.trans (Cluster.scratch_openProduct _))
end

/-- The arrays that the mask of one array names. -/
theorem filter_bitOf_two_pow : ∀ a < 4, (List.range 4).filter (fun k => bitOf (2 ^ a) k) = [a] := by decide

/-- WLOAD of one array fills its register from scratch. -/
theorem State.wload_one {s : State} {cl arr : Nat} (hi : s.Issues cl) (hs : (s.cluster cl).Sound) (harr : arr < 4) (a : Nat) (wb : Bool) :
    ∃ (f : FaultState) (c : Cluster), c.weights = aput (s.cluster cl).weights (2 * arr + b2n wb)
        ((s.cluster cl).loadW (wArrayAddr (s.cluster cl).stepDesc a arr)) ∧ c.acc = (s.cluster cl).acc ∧ c.scratch = (s.cluster cl).scratch ∧
      s.wload cl a (2 ^ arr) wb = (s.putFaults f).setCluster cl c := by
  obtain ⟨-, -, -, -, hx⟩ := id hi
  obtain ⟨f, hf⟩ := State.reading_sound hx hs [(wArrayAddr (s.cluster cl).stepDesc a arr,
    (wAreas (s.cluster cl).stepDesc (wArrayAddr (s.cluster cl).stepDesc a arr)).2.2 - wArrayAddr (s.cluster cl).stepDesc a arr)]
  unfold State.wload
  rw [State.onCluster_of_issues hi]
  simp only [filter_bitOf_two_pow arr harr, List.map_cons, List.map_nil, List.foldl_cons, List.foldl_nil, List.isEmpty_cons, Bool.false_eq_true,
    if_false, hf]
  have hload : ∀ (g : Cluster → Nat) (u : BankUse), SameWork (((s.cluster cl).stall g).startUse u) (s.cluster cl) := fun g u =>
    (Cluster.startUse_sameWork ..).trans (Cluster.stall_sameWork ..)
  refine ⟨f, _, ?_, ?_, ?_, rfl⟩
  · rw [(Cluster.issue_sameWork ..).weights]
    simp only [(hload _ _).weights, (hload _ _).loadW]
  · rw [(Cluster.issue_sameWork ..).acc]
    exact (hload _ _).acc
  · rw [(Cluster.issue_sameWork ..).scratch]
    exact (hload _ _).scratch

end Sys2Proof.Machine
end

section
/-! RECOMPUTE_DONE (R76, R77, R106): the oldest waiting element. -/

namespace Sys2Proof.Machine

/-- A row event leaves the accumulators and the counts of the step record. -/
theorem Cluster.rowEvent_leaves (c : Cluster) (row span nan : Nat) : (c.rowEvent row span nan).acc = c.acc ∧
    (c.rowEvent row span nan).spanCount = c.spanCount ∧ (c.rowEvent row span nan).recompCycles = c.recompCycles := by
  unfold Cluster.rowEvent
  dsimp only
  split <;> exact ⟨rfl, rfl, rfl⟩

/-- A recomputed element is written and, unless it belongs to a check slot, counted. -/
theorem Cluster.finishSpan_counts (c : Cluster) (e : SpanElem) (v : Num) : (c.finishSpan e v).acc = c.acc ∧
    (c.finishSpan e v).spanCount = c.spanCount + (if e.check then 0 else 1) ∧ (c.finishSpan e v).recompCycles = c.recompCycles := by
  unfold Cluster.finishSpan
  extract_lets bits code a nb old o new c1 nan c2
  have h1 : c1.acc = c.acc ∧ c1.spanCount = c.spanCount ∧ c1.recompCycles = c.recompCycles := by
    unfold c1 Cluster.sign
    split <;> exact ⟨rfl, rfl, rfl⟩
  obtain ⟨hacc, hspan, hcycles⟩ := h1
  obtain ⟨hacc', hspan', hcycles'⟩ := c1.rowEvent_leaves e.stepRow 1 nan
  by_cases hc : e.check = true
  · simp only [if_pos hc]
    exact ⟨hacc, hspan, hcycles⟩
  · simp only [if_neg hc]
    exact ⟨hacc'.trans hacc, congrArg (· + 1) (hspan'.trans hspan), hcycles'.trans hcycles⟩

section
variable {s : State} {cl : Nat} {e : SpanElem} {x : Recomputed} (n : Nat) (hspans : (s.cluster cl).spans = [e])
include hspans

/-- The one waiting element, named and walked over its whole K range, is written in its place. -/
theorem State.recompute_finishes (hrow : e.row = x.row) (hcol : e.col = x.col) (hks : e.ks ≤ (s.spanProducts cl e).length) :
    ∃ v, s.recompute cl n [x] = s.setCluster cl { (s.cluster cl).finishSpan e v with
      spans := [], recompCycles := ((s.cluster cl).finishSpan e v).recompCycles + recompBusy 1 e.ks n } := by
  refine ⟨orderedDot ((s.spanProducts cl e).take e.ks), ?_⟩
  unfold State.recompute
  simp only [List.foldl_cons, List.foldl_nil, hspans, hrow, hcol, hks, and_self, if_true, Nat.zero_add, Nat.max_eq_max, Nat.zero_max]

/-- One whose K range has not been walked waits on. -/
theorem State.recompute_waits (hks : (s.spanProducts cl e).length < e.ks) : s.recompute cl n [x] = s.setCluster cl (s.cluster cl) := by
  unfold State.recompute
  simp only [List.foldl_cons, List.foldl_nil, hspans]
  rw [if_neg fun h => absurd h.2.2 (by omega)]
  rfl
end

end Sys2Proof.Machine
end

section
/-! The matrix instructions: each command by the lemma on its operation. -/

namespace Sys2Proof.Machine

theorem exec_wload (cl a arrays : Nat) (wb : Bool) (s : State) : exec (.wload cl a arrays wb) s = .next (s.wload cl a arrays wb) := rfl
theorem exec_mma (cl a i : Nat) (wb last first : Bool) (s : State) : exec (.mma cl a i wb last first) s = .next (s.mma cl a i wb last first) := rfl
theorem exec_lmv (cl a i b win : Nat) (last first : Bool) (s : State) :
    exec (.lmv cl a i b win last first) s = .next (s.lmv cl a i b win last first) := rfl
theorem exec_pacc (cl a i : Nat) (s : State) : exec (.pacc cl a i) s = .next (s.pacc cl a i) := rfl
theorem exec_recomputeDone (cl n : Nat) (xs : List Recomputed) (s : State) : exec (.recomputeDone cl n xs) s = .next (s.recompute cl n xs) := rfl

/-- A command that answers with a change of one cluster, whatever fault messages it sends. -/
theorem answers_of_setCluster {i : Instr} {s : State} {f : FaultState} {cl : Nat} {c : Cluster} {P : State → Prop}
    (he : exec i s = .next ((s.putFaults f).setCluster cl c)) (h : ∀ t, t.cluster cl = c → OnlyCluster cl s t → P t) : Answers i s P :=
  ⟨_, he, h _ (State.cluster_put_same ..) ((s.putFaults f).setCluster_onlyCluster cl c)⟩

end Sys2Proof.Machine

open Sys2Proof.Machine

/-- Settles O25: what each instruction does to its cluster is stated by the lemma on its operation, and each element of a tile is read back from sums whose
places have keys of their own. -/
theorem matrixInstructions : Obligations.MatrixInstructions := by
  refine ⟨?wload, ?mma, ?mmaGated, ?mmaPartial, ?lmv, ?lmvGated, ?pacc, ?recompute, ?recomputeWaits⟩
  case wload =>
    intro s cl a arr wb hi hs harr
    obtain ⟨f, c, hweights, hacc, hscratch, he⟩ := State.wload_one hi hs harr a wb
    refine answers_of_setCluster ((exec_wload ..).trans (congrArg _ he)) fun t hc honly => ?_
    rw [hc, hweights]
    exact ⟨⟨_, aget_aput_same .., rfl⟩, fun k hk => aget_aput_ne _ _ hk, hacc, hscratch, honly⟩
  case mma =>
    intro s cl a i wb first p d o r j hi hs hd hl hp ho hn hr hj hwf
    subst hd ho
    obtain ⟨f, c, hwork, he⟩ := State.mma_walks hi hs hp a wb false first hl
    obtain ⟨hside, hsum, hscratch, hlane⟩ := hwork.walkTile_entry (lane := false) ((s.cluster cl).pairBase + 32 * i) p
      ((s.cluster cl).mmaOps p a (prRows p) wb (prCols p)) (kTile (s.cluster cl).stepDesc) first hn hwf hr hj
    refine answers_of_setCluster ((exec_mma ..).trans (congrArg _ he)) fun t hc honly => ?_
    rw [hc]
    exact ⟨hside, hsum, hscratch, hlane, honly⟩
  case mmaGated =>
    intro s cl a i wb last first p hi hs hl hp
    obtain ⟨f, he⟩ := State.mma_gated hi hs hp a wb last first hl
    refine answers_of_setCluster ((exec_mma ..).trans (congrArg _ he)) fun t hc honly => ?_
    rw [hc]
    exact ⟨Cluster.schedCycles_issue_one _, (Cluster.issue_sameWork ..).acc, (Cluster.issue_sameWork ..).scratch, honly⟩
  case mmaPartial =>
    intro s cl a i wb first p hi hs hl hp hn hm ho ha hwf
    obtain ⟨f, c, hwork, he⟩ := State.mma_walks hi hs hp a wb true first hl
    rw [hm, hn] at he
    obtain ⟨x, anc, check, id, hxscratch, hwalk⟩ := c.walkTile_reads_out false ((s.cluster cl).pairBase + 32 * i) p
      ((s.cluster cl).mmaOps p a 1 wb 1) (kTile (s.cluster cl).stepDesc) 1 1 first
    obtain ⟨hscratch, hacc, hhalf⟩ := x.readOut_partial_one (fun r j => sget AccEntry.zero (x.accOf false) (accKey false (x.accSide false) r j))
      anc check id ho ha
    rw [hwalk] at he
    have hlen := (encodeWord_length _).trans (congrArg (· + 2)
      (sget AccEntry.zero (x.accOf false) (accKey false (x.accSide false) 0 0)).partialWord_length)
    refine answers_of_setCluster ((exec_mma ..).trans (congrArg _ he)) fun t hc honly => ?_
    rw [hc, hscratch, hacc, hhalf, hxscratch, hwork.scratch]
    exact ⟨wordAt_putWord_same _ _ hwf hlen, fun w hw => wordAt_putWord_ne _ hwf hlen hw, honly⟩
  case lmv =>
    intro s cl a i b win first p d o r j hi hs hd hl hmode hp ho hm hn hr hj hwf
    subst hd ho
    obtain ⟨f, c, hwork, he⟩ := State.lmv_walks hi hs hp a b win false first hl hmode hm hn
    obtain ⟨hside, hsum, hscratch, hacc⟩ := hwork.walkTile_entry (lane := true) ((s.cluster cl).pairBase + 32 * i) p
      ((s.cluster cl).lmvOps p a (prRows p) b win (prCols p)) (8 * b) first hn hwf hr hj
    refine answers_of_setCluster ((exec_lmv ..).trans (congrArg _ he)) fun t hc honly => ?_
    rw [hc]
    exact ⟨hside, hsum, hscratch, hacc, honly⟩
  case lmvGated =>
    intro s cl a i b win last first p hi hs hl hp
    obtain ⟨f, he⟩ := State.lmv_gated hi hs hp a b win last first hl
    refine answers_of_setCluster ((exec_lmv ..).trans (congrArg _ he)) fun t hc honly => ?_
    rw [hc]
    exact ⟨Cluster.schedCycles_issue_one _, congrFun (Cluster.issue_sameWork ..).accOf true, (Cluster.issue_sameWork ..).scratch, honly⟩
  case pacc =>
    intro s cl a i lane p r j hi hs hl hp hn hr hj hm hwf
    obtain ⟨f, c, hacc, hscratch, he⟩ := State.pacc_joins hi hs hp a hl hm
    have hcols : prCols p ≤ pathCols lane := by
      cases lane
      · exact hn
      · exact (hm rfl).2
    refine answers_of_setCluster ((exec_pacc ..).trans (congrArg _ he)) fun t hc honly => ?_
    rw [hc, hacc]
    exact ⟨(s.cluster cl).sget_joined a hcols hwf hr hj, hscratch, honly⟩
  case recompute =>
    intro s cl n e x hspans hrow hcol hks
    obtain ⟨v, he⟩ := State.recompute_finishes n hspans hrow hcol hks
    obtain ⟨hacc, hcount, hcycles⟩ := (s.cluster cl).finishSpan_counts e v
    refine answers_of_setCluster (f := s.faults) ((exec_recomputeDone ..).trans (congrArg _ he)) fun t hc honly => ?_
    rw [hc]
    exact ⟨rfl, hcount, congrArg (· + _) hcycles, hacc, honly⟩
  case recomputeWaits =>
    intro s cl n e x hspans hks
    exact answers_of_setCluster (f := s.faults) ((exec_recomputeDone ..).trans (congrArg _ (State.recompute_waits n hspans hks)))
      fun t hc honly => ⟨hc, honly⟩

end

section
/-! A step whose begin message finds memory that cannot be corrected (R206, R254, R262): the reset of the partition that owns it comes before the step. -/

namespace Sys2Proof.Machine

/-- A generation of partition 0 whose prompt of two tokens has been prefilled and whose one lane has a first token, but not its copy of the prompt's
partly filled block (block 0, to be copied to block 1). -/
def uncopiedGen : Gen where
  client := 1
  req := 5
  part := 0
  block := []
  prompt := [1, 2]
  model := 7
  adapter := none
  pool := 1
  cls := 0
  order := 0
  admittedAt := 0
  seed := 0
  phase := .decode
  pos := 2
  blocks := [0]
  nodes := []
  noOffer := false
  matched := 0
  reserved := 0
  lanes := [⟨[3], [], 0, none, 0, [1], false⟩]
  mask := none
  bias := []
  stops := []
  hostPaused := none
  controls := []
  schedPaused := none
  span := 0
  e2m1 := 0
  sinceProgress := 0
  outBase := 0
  outPos := 0
  recBase := 0
  few := false
  spanBefore := 0

/-- Its pool: two blocks of its own, in the first two frames of a part at LPDDR-6 address 0. -/
def uncopiedPool : Pool where
  object := 7
  part := 0
  format := 0
  frames := 2
  flashBlocks := 0
  blocks := [(0, ⟨some (1, 5), none, false, none, 0, 0⟩), (1, ⟨some (1, 5), none, false, none, 1, 0⟩)]
  places := [⟨0, 0, 0, 2, 0, []⟩]

/-- The row of the lane's first decode step. -/
def decodeRow : StepRow := ⟨1, 5, 1, 0, 0, 1, 1⟩

/-- Partition 0 runs, owns the granule of block 0 and has composed a step of that one row. Two symbols of word 0, the block's first, are in error. -/
def spoiltBlockState : State :=
  let s := { State.reset with
    mem := { MemState.reset with cells := [(0, 1), (2, 1)], owner := [(0, 1)] }
    gens := [uncopiedGen]
    pools := [(1, uncopiedPool)]
    parts := [(0, { Part.init with next := some [decodeRow] })] }
  ((s.wr R.memLiveMask 0 1).wr R.cfgPartEn 0 1).wr R.cfgPstatState 0 psRun

/-- The begin message of the step may go out. -/
theorem spoiltBlockState_mayBegin : spoiltBlockState.mayBegin 0 9 = true := by decide +kernel

/-- The copy of the block reads the word that cannot be corrected, and the partition that owns it is reset: no step runs. -/
theorem spoiltBlockState_beginRelease_idle : ((spoiltBlockState.beginRelease 0 9).part 0).running = none := by decide +kernel

theorem exec_beginMessageRelease (p tag : Nat) (s : State) : exec (.beginMessageRelease p tag) s = .next (s.beginRelease p tag) := rfl

end Sys2Proof.Machine

open Sys2Proof.Machine

/-- Refutes O52: its clause on the begin message leaves the step's rows and the memory free. In `spoiltBlockState` the row that decodes for the first
time has its lane copy the prompt's partly filled block, the copy meets a word with two symbols in error, and by R262 the partition that owns the word is
reset: the composed step does not run after the command. -/
theorem not_stepCommandsComplete : ¬ Obligations.StepCommandsComplete := by
  unfold Obligations.StepCommandsComplete
  rintro ⟨-, -, -, -, hbegin, -⟩
  obtain ⟨t, ht, hrunning, -⟩ := hbegin spoiltBlockState 0 9 (by decide +kernel) spoiltBlockState_mayBegin List.not_mem_nil (by decide +kernel) rfl
  rw [exec_beginMessageRelease, Host.Outcome.next.injEq] at ht
  rw [← ht, spoiltBlockState_beginRelease_idle] at hrunning
  exact Option.some_ne_none [decodeRow] hrunning.symm

end

section
/-! Bytes that are written within one word of scratch (R67, R82, R263): every other word is left, and a whole word holds what was written. -/

namespace Sys2Proof.Machine

/-! ### A change of one word at most -/

/-- Cells in canonical form that differ from `cells` in word `w` at most. -/
def OneWord (w : Nat) (cells cells' : List Host.Cell) : Prop := Memory.wf cells' = true ∧ ∀ x, x ≠ w → wordAt cells' x = wordAt cells x

section
variable {cells : List Host.Cell} (hwf : Memory.wf cells = true)
include hwf

theorem OneWord.refl (w : Nat) : OneWord w cells cells := ⟨hwf, fun _ _ => rfl⟩

theorem OneWord.putWord {w : Nat} {b : List Byte} (hb : b.length = 18) : OneWord w cells (putWord cells w b) :=
  ⟨putWord_wf _ _ hwf, fun _ hx => wordAt_putWord_ne _ hwf hb hx⟩
end

/-- A decoder delivers 16 data bytes. -/
theorem decodeWord_data_length {detect : Bool} {w b : List Byte} {p : Option Nat} (hw : w.length = 18) (h : decodeWord detect w = .word b p) :
    b.length = 16 := by
  unfold decodeWord at h
  split at h
  · cases h
    rw [List.length_drop, hw]
  · cases h
  · split at h
    · cases h
    · cases h
      rw [List.length_drop, xorAt, List.length_modify, hw]
  · cases h

theorem wordAt_length (cells : List Host.Cell) (w : Nat) : (wordAt cells w).length = 18 := by simp [wordAt, sgetList]

/-- A merge changes the word it merges into, or leaves it where it is poisoned. -/
theorem OneWord.mergeWord {cells : List Host.Cell} (hwf : Memory.wf cells = true) (detect : Nat → Bool) (w : Nat) {o : Nat} {bs : List Byte}
    (ho : o + bs.length ≤ 16) : OneWord w cells (mergeWord detect cells w o bs) := by
  unfold Machine.mergeWord
  split
  · exact OneWord.putWord hwf (by rw [encodeWord_length]; omega)
  · split
    · rename_i b p hread
      have hb : b.length = 16 := decodeWord_data_length (wordAt_length ..) hread
      refine OneWord.putWord hwf ?_
      simp only [encodeWord_length, List.length_append, List.length_take, List.length_drop, hb]
      omega
    · exact OneWord.refl hwf w

/-! ### Bytes and elements within a word -/

/-- Bytes that stay in one word are merged into it. -/
theorem writeBytes_in_word (detect : Nat → Bool) (cells : List Host.Cell) (word : Nat → Nat) {a : Nat} {bs : List Byte} (hne : bs ≠ [])
    (ha : a % 16 + bs.length ≤ 16) : writeBytes detect cells word a bs = mergeWord detect cells (word (a - a % 16)) (a % 16) bs := by
  obtain ⟨x, r, rfl⟩ := List.exists_cons_of_ne_nil hne
  have hmin : Nat.min (16 - a % 16) (x :: r).length = (x :: r).length := Nat.min_eq_right (by omega)
  rw [writeBytes, writeBytesFuel, hmin, List.take_length, List.drop_length, writeBytesFuel_nil]

/-- Poison over them is written over one word. -/
theorem writePoison_in_word (cells : List Host.Cell) (word : Nat → Nat) {a n : Nat} (hn : 0 < n) (ha : a % 16 + n ≤ 16) :
    writePoison cells word a n = putWord cells (word (16 * (a / 16))) poisonWord := by
  have hone : (a + n + 15) / 16 - a / 16 = 1 := by omega
  rw [writePoison, hone, List.range_one, List.foldl_cons, List.foldl_nil, Nat.add_zero]

theorem Cluster.writeSP_oneWord (c : Cluster) {a : Nat} {bs : List Byte} (bad : Bool) (hwf : Memory.wf c.scratch = true) (hne : bs ≠ [])
    (ha : a % 16 + bs.length ≤ 16) : OneWord (a / 16) c.scratch (c.writeSP a bs bad).scratch := by
  cases bad with
  | true =>
    show OneWord _ _ (writePoison c.scratch (fun x => x / 16) a bs.length)
    rw [writePoison_in_word _ _ (List.length_pos_iff.2 hne) ha, Nat.mul_div_cancel_left _ (by omega)]
    exact OneWord.putWord hwf rfl
  | false =>
    show OneWord _ _ (writeBytes correctMode c.scratch (fun x => x / 16) a bs)
    have hword : (a - a % 16) / 16 = a / 16 := by omega
    rw [writeBytes_in_word _ _ _ hne ha, hword]
    exact OneWord.mergeWord hwf _ _ ha

@[simp] theorem packCodes_length (bits : Nat) (codes : List Nat) : (packCodes bits codes).length = ceilDiv (bits * codes.length) 8 :=
  leBytes_length ..

/-- Elements that stay in one word are written as bytes of it, poisoned where any of them is. -/
theorem Cluster.writeElems_in_word (c : Cluster) {a bits : Nat} {es : List (Nat × Bool)} (hbits : 0 < bits) (hne : es ≠ [])
    (ha : a % 16 + ceilDiv (bits * es.length) 8 ≤ 16) :
    c.writeElems a bits es = c.writeSP a (packCodes bits (es.map (·.1))) (es.any (·.2)) := by
  have hlen : (packCodes bits (es.map (·.1))).length = ceilDiv (bits * es.length) 8 := by rw [packCodes_length, List.length_map]
  have hbs : 0 < bits * es.length := Nat.mul_pos hbits (List.length_pos_iff.2 hne)
  have hcover : bits * es.length ≤ 8 * ceilDiv (bits * es.length) 8 := by unfold ceilDiv; omega
  generalize ceilDiv (bits * es.length) 8 = n at ha hlen hcover
  have hone : (a + n + 15) / 16 - a / 16 = 1 := by omega
  have hlo : Nat.max a (16 * (a / 16 + 0)) = a := Nat.max_eq_left (by omega)
  have hhi : Nat.min (a + n) (16 * (a / 16 + 0) + 16) = a + n := Nat.min_eq_left (by omega)
  have hall : es.length ≤ (8 * n + bits - 1) / bits := (Nat.le_div_iff_mul_le hbits).2 (by rw [Nat.mul_comm]; omega)
  unfold Cluster.writeElems
  simp only [hlen, hone, List.range_one, List.foldl_cons, List.foldl_nil, hlo, hhi, Nat.sub_self, Nat.mul_zero, Nat.zero_div, List.drop_zero,
    Nat.add_sub_cancel_left, Nat.sub_zero, List.take_of_length_le hall]
  rw [List.take_of_length_le (by rw [hlen])]

theorem Cluster.writeElems_oneWord (c : Cluster) {a bits : Nat} {es : List (Nat × Bool)} (hwf : Memory.wf c.scratch = true) (hbits : 0 < bits)
    (hne : es ≠ []) (ha : a % 16 + ceilDiv (bits * es.length) 8 ≤ 16) : OneWord (a / 16) c.scratch (c.writeElems a bits es).scratch := by
  have hbs : 0 < bits * es.length := Nat.mul_pos hbits (List.length_pos_iff.2 hne)
  have hlen : (packCodes bits (es.map (·.1))).length = ceilDiv (bits * es.length) 8 := by rw [packCodes_length, List.length_map]
  rw [c.writeElems_in_word hbits hne ha]
  refine c.writeSP_oneWord _ hwf (List.length_pos_iff.1 ?_) (by rw [hlen]; exact ha)
  rw [hlen, ceilDiv]
  omega

/-- A write of one element of `n` bytes that stays in one word changes no other. -/
theorem Cluster.writeElem_oneWord (c : Cluster) (e : Nat × Bool) {a n : Nat} (hwf : Memory.wf c.scratch = true) (hn : 0 < n) (ha : a % 16 + n ≤ 16) :
    OneWord (a / 16) c.scratch (c.writeElems a (8 * n) [e]).scratch :=
  c.writeElems_oneWord hwf (by omega) (by simp) (by rw [List.length_singleton, ceilDiv]; omega)

/-- Sound elements that fill a word are its data. -/
theorem Cluster.wordAt_writeElems (c : Cluster) {a bits : Nat} {es : List (Nat × Bool)} (hwf : Memory.wf c.scratch = true) (hbits : 0 < bits)
    (ha : a % 16 = 0) (hfull : bits * es.length = 128) (hgood : ∀ e ∈ es, e.2 = false) :
    wordAt (c.writeElems a bits es).scratch (a / 16) = encodeWord (packCodes bits (es.map (·.1))) := by
  have hne : es ≠ [] := by rintro rfl; simp at hfull
  have hlen : (packCodes bits (es.map (·.1))).length = 16 := by rw [packCodes_length, List.length_map, hfull]; rfl
  have hany : es.any (·.2) = false := by simpa using hgood
  rw [c.writeElems_in_word hbits hne (by rw [ha, hfull]; decide), hany]
  show wordAt (c.writeS _ _).scratch _ = _
  rw [c.scratch_writeS_word ha hlen]
  exact wordAt_putWord_same _ _ hwf (by rw [encodeWord_length, hlen])

/-- A change of scratch leaves the accumulators of both paths. -/
theorem Cluster.accOf_writeSP (c : Cluster) (a : Nat) (bs : List Byte) (bad : Bool) : (c.writeSP a bs bad).accOf = c.accOf := by
  unfold Cluster.writeSP
  split <;> rfl

theorem Cluster.accOf_writeElems (c : Cluster) (a bits : Nat) (es : List (Nat × Bool)) : (c.writeElems a bits es).accOf = c.accOf := by
  unfold Cluster.writeElems
  dsimp only
  generalize List.range _ = l
  induction l generalizing c with
  | nil => rfl
  | cons w l ih => exact (ih _).trans (Cluster.accOf_writeSP ..)

end Sys2Proof.Machine
end

section
/-! The vector unit on a cluster whose scratch is sound and that has no transfer outstanding (R84, R88, R100, R137). -/

namespace Sys2Proof.Machine

theorem Cluster.vecRun_sameWork (c : Cluster) (n : Nat) (spans : List (List Touch)) : SameWork (c.vecRun n spans) c :=
  (Cluster.issue_sameWork ..).trans ((Cluster.startUse_sameWork ..).trans (Cluster.stall_sameWork ..))

theorem Cluster.vecSrc_length (c : Cluster) (a f n : Nat) : (c.vecSrc a f n).length = n := by simp [Cluster.vecSrc]

/-- Element `i` of a source of FP32 values. -/
theorem Cluster.vecSrc_fp32_getD (c : Cluster) (a : Nat) {n i : Nat} (hi : i < n) (x : Num × Bool) :
    (c.vecSrc a 15 n).getD i x = (fp32Val (c.vecElem a 32 i).1, (c.vecElem a 32 i).2) := by
  simp [Cluster.vecSrc, hi, vecVal, vecBits]

/-- The rounded sums of the first four FP32 elements of the two sources, each poisoned where an addend is (R84, R263). -/
def Cluster.fourSums (c : Cluster) (d : List Byte) : List (Nat × Bool) := (List.range 4).map fun i =>
  let x := c.vecElem (vdSrc d 0) 32 i
  let y := c.vecElem (vdSrc d 1) 32 i
  (fp32Code (roundFp32 ((fp32Val x.1).add (fp32Val y.1))), x.2 || y.2)

/-- The E4M3 codes of the first 16 FP32 values at SRC0, as one block (R88). -/
def Cluster.blockCodes (c : Cluster) (d : List Byte) : List Nat :=
  (quantBlock .e4m3 ((List.range 16).map fun i => fp32Val (c.vecElem (vdSrc d 0) 32 i).1)).2.2

/-- A block has as many codes as values. -/
theorem quantBlock_codes_length (e : MxElem) (xs : List Num) : (quantBlock e xs).2.2.length = xs.length := by
  unfold quantBlock
  split <;> exact List.length_map ..

theorem Cluster.blockCodes_length (c : Cluster) (d : List Byte) : (c.blockCodes d).length = 16 :=
  (quantBlock_codes_length ..).trans (by rw [List.length_map, List.length_range])

/-- The list that TOPK makes of FP32 keys: `dbits d 211 200 + 1` places, the least key first where bit 212 is set (R137, Table RANK-8). -/
def Cluster.topkList (c : Cluster) (d : List Byte) : List Byte :=
  let sel := selectKeys (dbits d 211 200 + 1) (dbits d 212 212 = 0) ((List.range (vdN d)).map fun i =>
    let v := keyOf 0 (c.vecElem (vdSrc d 0) (8 * keyBytes 0) i).1
    ⟨dbits d 63 32 + i, v.1, v.2⟩)
  denseBytes 0 (dbits d 211 200 + 1) 0 (dbits d 212 212 = 0) sel.1 sel.2

section
variable {s : State} {cl a : Nat} {d : List Byte} (hi : s.Issues cl) (hs : (s.cluster cl).Sound) (hd : (s.cluster cl).readS a 32 = (d, false))
include hi hs

/-- Ranges that a unit reads and then writes do not keep it from its work. -/
theorem State.accesses_sound (f : FaultState) (cls : Nat) (reads writes : List (Nat × Nat)) :
    ∃ f', ∀ g, ((s.putFaults f).reading cl reads fun s => s.writing cl cls writes g) = g (s.putFaults f') := by
  obtain ⟨-, -, -, -, hx⟩ := id hi
  obtain ⟨f1, hf1⟩ := State.reading_sound (s := s.putFaults f) hx hs reads
  obtain ⟨f2, hf2⟩ := State.writing_sound (s := (s.putFaults f).putFaults f1) hx hs cls writes
  exact ⟨f2, fun g => (hf1 _).trans (hf2 g)⟩

include hd

/-- A sound vector descriptor is the instruction's. -/
theorem State.withVec_sound : ∃ f, ∀ g, s.withVec cl a g = g (s.putFaults f) (s.cluster cl) d := by
  obtain ⟨-, -, -, -, hx⟩ := id hi
  obtain ⟨f, hf⟩ := State.reading_sound hx hs [(a, 32)]
  refine ⟨f, fun g => ?_⟩
  unfold State.withVec
  rw [State.onCluster_of_issues hi]
  simp only [hf, hd, Bool.false_eq_true, if_false]

/-- An operation on four FP32 elements writes one result of 32 bits or four; a sum of two sources writes the rounded sums. -/
theorem State.vop_four (hop : vdOp d ≠ 0x40) (hn : vdN d = 4) (hsf : vdSf d = 15) (hdf : vdDf d = 15) :
    ∃ (f : FaultState) (c : Cluster) (res : List (Nat × Bool)), SameWork c ((s.cluster cl).writeElems (vdDst d) 32 res) ∧
      (res.length = 1 ∨ res.length = 4) ∧
      (Config.vecOp (vdOp d) = .add → res = (s.cluster cl).fourSums d) ∧
      s.vop cl a = (s.putFaults f).setCluster cl c := by
  obtain ⟨f, hf⟩ := State.withVec_sound hi hs hd
  unfold State.vop
  rw [hf, if_neg hop]
  extract_lets op n sf df m srcs xs at' all anyBad res c busy
  have hsf' : sf = 15 := by unfold sf; rw [hsf, ite_self]
  have hdf' : df = 15 := by unfold df; rw [hdf, ite_self]
  obtain ⟨f', hf'⟩ := State.accesses_sound hi hs f 2 (srcs.map fun x => (x, vecBytes sf n)) [(vdDst d, vecBytes df m)]
  rw [hf']
  refine ⟨f', _, res, ?work, ?count, fun hadd => ?sums, rfl⟩
  case work =>
    unfold c
    rw [hdf']
    exact Cluster.vecRun_sameWork ..
  case count =>
    have hlen : ∀ g : Nat → Nat × Bool, ((List.range n).map g).length = 4 := fun g => by rw [List.length_map, List.length_range]; exact hn
    unfold res
    clear_value op
    split
    · exact .inl rfl
    · exact .inl rfl
    · exact .inl rfl
    · exact .inr (hlen _)
    · exact .inr (hlen _)
    · exact .inr (hlen _)
  case sums =>
    have hop' : op = .add := hadd
    have hxs : xs = [(s.cluster cl).vecSrc (vdSrc d 0) 15 4, (s.cluster cl).vecSrc (vdSrc d 1) 15 4] := by
      unfold xs srcs n
      rw [hop', hsf', hn]
      rfl
    unfold res at'
    rw [hop', hdf', hxs]
    unfold n
    rw [hn]
    refine List.map_congr_left fun i hi4 => ?_
    have hlt : i < 4 := List.mem_range.1 hi4
    simp only [List.getD_cons_zero, List.getD_cons_succ, List.getD_nil, Cluster.vecSrc_fp32_getD _ _ hlt, Bool.or_false]
    rfl

/-- TOPK writes the list of its selection, poisoned where a key is. -/
theorem State.topk_writes (htyp : dbits d 215 213 = 0) :
    ∃ (f : FaultState) (c : Cluster) (bad : Bool),
      SameWork c ((s.cluster cl).writeSP (vdDst d) ((s.cluster cl).topkList d) bad) ∧
      (s.withVec cl a fun s c d => s.vecTopk cl c d) = (s.putFaults f).setCluster cl c := by
  obtain ⟨f, hf⟩ := State.withVec_sound hi hs hd
  rw [hf]
  unfold State.vecTopk
  rw [htyp]
  extract_lets n k desc typ base w es keys sel out c busy
  obtain ⟨f', hf'⟩ := State.accesses_sound hi hs f 2 [(vdSrc d 0, w * n)] [(vdDst d, 32 + 8 * k)]
  rw [hf']
  refine ⟨f', _, es.any (·.2), ?_, rfl⟩
  have hkeys : keys = (List.range n).map fun i =>
      (⟨base + i, (keyOf 0 ((s.cluster cl).vecElem (vdSrc d 0) (8 * w) i).1).1,
        (keyOf 0 ((s.cluster cl).vecElem (vdSrc d 0) (8 * w) i).1).2⟩ : Key) := by
    refine List.map_congr_left fun i hin => ?_
    have hes : es.getD i (0, false) = (s.cluster cl).vecElem (vdSrc d 0) (8 * w) i := by simp [es, List.mem_range.1 hin]
    rw [hes]
  unfold c out sel
  rw [hkeys]
  exact Cluster.vecRun_sameWork ..

/-- QUANTIZE of a block of 16 sound values to E4M3 writes the codes at DST, then a scale byte at SRC1 and a scale summary of two bytes at SRC2. -/
theorem State.quantize_sixteen (hn : vdN d = 16) (hgood : ∀ i, i < 16 → ((s.cluster cl).vecElem (vdSrc d 0) 32 i).2 = false) :
    ∃ (f : FaultState) (c : Cluster) (scale summary : Nat × Bool),
      SameWork c ((((s.cluster cl).writeElems (vdDst d) 8
        (((s.cluster cl).blockCodes d).map fun v => (v, false))).writeElems (vdSrc d 1) 8 [scale]).writeElems (vdSrc d 2) 16 [summary]) ∧
      s.quantize cl a .e4m3 = (s.putFaults f).setCluster cl c := by
  have hvals : ((s.cluster cl).vecSrc (vdSrc d 0) 15 16).map (·.1) =
      (List.range 16).map fun i => fp32Val ((s.cluster cl).vecElem (vdSrc d 0) 32 i).1 := List.map_map ..
  have hsound : ((s.cluster cl).vecSrc (vdSrc d 0) 15 16).any (·.2) = false := by
    simpa [Cluster.vecSrc, vecBits] using hgood
  have hblock : chunks 32 ((s.cluster cl).vecSrc (vdSrc d 0) 15 16) = [(s.cluster cl).vecSrc (vdSrc d 0) 15 16] :=
    chunks_of_le (List.length_pos_iff.1 (by rw [Cluster.vecSrc_length]; omega)) (by rw [Cluster.vecSrc_length]; omega)
  obtain ⟨f, hf⟩ := State.withVec_sound hi hs hd
  unfold State.quantize
  rw [hf]
  extract_lets n blocks xs qs codes sum bad c1 c2 c3 busy
  obtain ⟨f', hf'⟩ := State.accesses_sound hi hs f 2 [(vdSrc d 0, 4 * n)]
    [(vdDst d, ceilDiv (mxBits .e4m3 * n) 8), (vdSrc d 1, blocks), (vdSrc d 2, 2)]
  rw [hf']
  have hxs : xs = (s.cluster cl).vecSrc (vdSrc d 0) 15 16 := congrArg ((s.cluster cl).vecSrc (vdSrc d 0) 15) hn
  have hcodes : codes = ((s.cluster cl).blockCodes d).map fun v => (v, false) := by
    simp only [codes, hxs, hblock, List.flatMap_singleton, hvals, hsound, Cluster.blockCodes]
  obtain ⟨q, hq⟩ : ∃ q, qs = [q] := List.length_eq_one_iff.1 (by rw [List.length_map, hxs, hblock, List.length_singleton])
  refine ⟨f', _, (q.1.1, q.2), (codeOfInt 16 sum, bad), ?_, rfl⟩
  unfold c3 c2 c1
  rw [hcodes, hq]
  exact Cluster.vecRun_sameWork ..

end

end Sys2Proof.Machine
end

section
/-! The vector instructions: each command by the lemma on its operation. -/

namespace Sys2Proof.Machine

theorem exec_vop (cl a : Nat) (s : State) : exec (.vop cl a) s = .next (s.vop cl a) := rfl
theorem exec_topk (cl a : Nat) (s : State) : exec (.topk cl a) s = .next (s.withVec cl a fun s c d => s.vecTopk cl c d) := rfl
theorem exec_quantize (cl a : Nat) (e : MxElem) (s : State) : exec (.quantize cl a e) s = .next (s.quantize cl a e) := rfl

end Sys2Proof.Machine

open Sys2Proof.Machine

/-- Settles O26: what each instruction writes is stated by the lemma on its operation, and each write stays within one word, so that a write to
another word leaves it. -/
theorem vectorInstructions : Obligations.VectorInstructions := by
  refine ⟨?vop, ?topk, ?quantize⟩
  case vop =>
    intro s cl a d hi hs hd hop hn hsf hdf hdst hwf
    obtain ⟨f, c, res, hwork, hcount, hsums, he⟩ := State.vop_four hi hs hd hop hn hsf hdf
    have hone : OneWord (vdDst d / 16) (s.cluster cl).scratch ((s.cluster cl).writeElems (vdDst d) 32 res).scratch := by
      refine Cluster.writeElems_oneWord _ hwf (by omega) (List.length_pos_iff.1 (by omega)) ?_
      rcases hcount with h | h <;> simp [h, hdst, ceilDiv]
    have hacc := hwork.accOf.trans (Cluster.accOf_writeElems ..)
    have hc : ((s.putFaults f).setCluster cl c).cluster cl = c := State.cluster_put_same ..
    refine ⟨_, (exec_vop ..).trans (congrArg _ he), rfl, ?_⟩
    rw [hc, hwork.scratch]
    refine ⟨hone.2, fun hadd hsound => ?_, congrFun hacc false, congrFun hacc true, (s.putFaults f).setCluster_onlyCluster cl c⟩
    rw [hsums hadd, Cluster.wordAt_writeElems _ hwf (by omega) hdst rfl, Cluster.fourSums, List.map_map]
    · rfl
    · intro e hmem
      obtain ⟨i, hi4, rfl⟩ := List.mem_map.1 hmem
      obtain ⟨hx, hy⟩ := hsound i (List.mem_range.1 hi4)
      simp only [hx, hy, Bool.or_self]
  case topk =>
    intro s cl a d hi hs hd htyp
    obtain ⟨f, c, bad, hwork, he⟩ := State.topk_writes hi hs hd htyp
    refine answers_of_setCluster ((exec_topk ..).trans (congrArg _ he)) fun t hc honly => ?_
    rw [hc, hwork.scratch]
    exact ⟨⟨_, bad, rfl, rfl⟩, congrFun (hwork.accOf.trans (Cluster.accOf_writeSP ..)) false, honly⟩
  case quantize =>
    intro s cl a d hi hs hd hn hdst hscale hin hsum hsound hwf
    obtain ⟨f, c, scale, summary, hwork, he⟩ := State.quantize_sixteen hi hs hd hn hsound
    have hlen : (((s.cluster cl).blockCodes d).map fun v => (v, false)).length = 16 := by rw [List.length_map, Cluster.blockCodes_length]
    have hcodes := (s.cluster cl).writeElems_oneWord (a := vdDst d) (bits := 8) hwf (by omega) (List.ne_nil_of_length_eq_add_one hlen)
      (by rw [hlen, hdst]; decide)
    have hscales := Cluster.writeElem_oneWord _ scale (a := vdSrc d 1) hcodes.1 (n := 1) (by omega) (by omega)
    have hsummary := Cluster.writeElem_oneWord _ summary (a := vdSrc d 2) hscales.1 (n := 2) (by omega) (by omega)
    refine answers_of_setCluster ((exec_quantize ..).trans (congrArg _ he)) fun t hc honly => ?_
    rw [hc, hwork.scratch]
    refine ⟨?_, fun w hw hw1 hw2 => ?_, honly⟩
    · rw [hsummary.2 _ hsum.symm, hscales.2 _ hscale.symm, Cluster.wordAt_writeElems _ (bits := 8) hwf (by omega) hdst (by rw [hlen]) (by simp),
        List.map_map]
      exact congrArg (fun l => encodeWord (packCodes 8 l)) (List.map_id _)
    · rw [hsummary.2 _ hw2, hscales.2 _ hw1, hcodes.2 _ hw]

end

section
/-! The instruction due next (R93, R99): what the passing of schedule cycles leaves of it, and what an issue makes of it. -/

namespace Sys2Proof.Machine

/-- The instruction due next and the loops that are open. -/
def Cluster.due (c : Cluster) : Nat × List (Nat × Nat × Nat) := (c.pc, c.loops)

@[simp] theorem Cluster.due_slip (c : Cluster) (u : BankUse) : (c.slip u).due = c.due := by
  unfold Cluster.slip Cluster.slipReadOut
  split
  · rfl
  · rfl
  · dsimp only
    split
    · split <;> rfl
    · rfl
  · rfl
  · rfl

theorem Cluster.due_foldl_slip (l : List BankUse) (c : Cluster) : (l.foldl Cluster.slip c).due = c.due := by
  induction l generalizing c with
  | nil => rfl
  | cons u l ih => rw [List.foldl_cons, ih, Cluster.due_slip]

@[simp] theorem Cluster.due_tick (c : Cluster) : c.tick.due = c.due := by
  unfold Cluster.tick
  dsimp only
  split
  · rfl
  · exact Cluster.due_foldl_slip ..

/-- Cycles that pass leave the instruction due next. -/
@[simp] theorem Cluster.due_advance (c : Cluster) (n : Nat) : (c.advance n).due = c.due := by
  induction n generalizing c with
  | zero => rfl
  | succ n ih =>
    unfold Cluster.advance
    split
    · rfl
    · rw [ih, Cluster.due_tick]

/-- As many schedule cycles are counted as pass. -/
@[simp] theorem Cluster.schedCycles_advance (c : Cluster) (n : Nat) : (c.advance n).schedCycles = c.schedCycles + n := by
  induction n generalizing c with
  | zero => rfl
  | succ n ih =>
    unfold Cluster.advance
    split
    · rfl
    · rw [ih, Cluster.schedCycles_tick, Nat.add_assoc, Nat.add_comm 1]

theorem Cluster.schedCycles_issue (c : Cluster) (n : Nat) : (c.issue n).schedCycles = c.schedCycles + n := c.schedCycles_advance n

/-- An issue moves on to the instruction after, or to the start of a body that repeats. -/
theorem Cluster.due_issue (c : Cluster) (n : Nat) : (c.issue n).due = loopNext (c.pc + 1) c.loops := by
  obtain ⟨hpc, hloops⟩ := Prod.mk.inj (c.due_advance n)
  show ((c.advance n).nextInstr).due = _
  unfold Cluster.nextInstr
  rw [hpc, hloops]
  rfl

/-- Outside every loop the next instruction is the one after. -/
theorem Cluster.pc_issue_of_no_loop {c : Cluster} (h : c.loops = []) (n : Nat) : (c.issue n).pc = c.pc + 1 := by
  have hdue := c.due_issue n
  rw [h] at hdue
  exact congrArg Prod.fst hdue

/-- The last instruction of a body whose repeats are done leaves the loop. -/
theorem loopNext_last (e a : Nat) : loopNext e [(a, e, 0)] = (e, []) := by simp [loopNext]

/-- While repeats are left, it goes back to the start of the body. -/
theorem loopNext_repeat (e a : Nat) {k : Nat} (h : k ≠ 0) : loopNext e [(a, e, k)] = (a, [(a, e, k - 1)]) := by simp [loopNext, h]

section
variable {c d : Cluster} (h : SameWork c d)
include h

theorem SameWork.imem : c.imem = d.imem := h.of Cluster.imem fun _ => rfl
theorem SameWork.held : c.held = d.held := h.of Cluster.held fun _ => rfl
theorem SameWork.waitToken : c.waitToken = d.waitToken := h.of Cluster.waitToken fun _ => rfl
end

end Sys2Proof.Machine
end

section
/-! An uncorrectable word of scratch (R254, R262): the partition of the cluster that reads it is reset, and the word is overwritten with poison. -/

namespace Sys2Proof.Machine

/-! ### A reset leaves scratch -/

/-- From `s` to `t` the scratch of every cluster is left. -/
def ScratchKept (s t : State) : Prop := ∀ j, (t.cluster j).scratch = (s.cluster j).scratch

theorem ScratchKept.of_clusters {s t : State} (h : t.clusters = s.clusters) : ScratchKept s t := fun j => by
  rw [State.cluster, State.cluster, h]

theorem ScratchKept.trans {s t u : State} (h : ScratchKept s t) (h' : ScratchKept t u) : ScratchKept s u := fun j => (h' j).trans (h j)

/-- An operation that does not change clusters. -/
theorem ScratchKept.of_eff {k : Nat} {s t : State} (h : Eff k s t) (hk : k.testBit 11 = false) : ScratchKept s t :=
  ScratchKept.of_clusters (h.same .clusters hk)

theorem ScratchKept.foldl {α : Type} {f : State → α → State} (hf : ∀ s a, ScratchKept s (f s a)) (l : List α) (s : State) :
    ScratchKept s (l.foldl f s) := by
  induction l generalizing s with
  | nil => exact fun _ => rfl
  | cons a l ih => exact (hf s a).trans (ih _)

/-- A cluster that is reset keeps its scratch (Table CLUS-10). -/
theorem State.resetCluster_scratchKept (s : State) (cl : Nat) : ScratchKept s (s.setCluster cl (s.cluster cl).reset) := fun j => by
  by_cases hj : j = cl
  · subst hj
    rw [State.setCluster_eq, State.cluster_put_same]
    rfl
  · exact congrArg Cluster.scratch (State.cluster_put_ne _ _ hj)

/-- The reset of a partition leaves the scratch of every cluster. -/
theorem State.resetPartition_scratchKept (s : State) (p cause : Nat) : ScratchKept s (s.resetPartition p cause) := by
  unfold State.resetPartition
  split
  · exact fun _ => rfl
  · split
    · split
      · exact fun _ => rfl
      · exact fun _ => rfl
    · extract_lets a b c d e f g h i health j k x l m
      have h0 : ScratchKept s d := ScratchKept.of_clusters rfl
      have h1 : ScratchKept d e := ScratchKept.of_eff (State.raise_eff ..) (by decide)
      have h2 : ScratchKept e f := ScratchKept.foldl (fun s r => by
        refine ScratchKept.trans ?_ (ScratchKept.of_eff (State.endReq_eff ..) (by decide))
        split
        · exact ScratchKept.of_eff (State.genDetail_eff ..) (by decide)
        · exact fun _ => rfl) _ _
      have h3 : ScratchKept f g := ScratchKept.foldl State.resetCluster_scratchKept _ _
      have h4 : ScratchKept g h := ScratchKept.of_clusters rfl
      have h5 : ScratchKept h i := ScratchKept.of_eff (State.clearPartition_eff ..) (by decide)
      have h6 : ScratchKept i k := ScratchKept.of_clusters rfl
      have h7 : ScratchKept k l := ScratchKept.foldl (fun _ _ => ScratchKept.of_eff (State.wr_eff ..) (by decide)) _ _
      have h8 : ScratchKept l m := ScratchKept.of_eff (State.endUse_eff ..) (by decide)
      exact (((((((h0.trans h1).trans h2).trans h3).trans h4).trans h5).trans h6).trans h7).trans (h8.trans (ScratchKept.of_clusters rfl))

/-! ### The fault -/

theorem State.partEn_of_partOf {s : State} {cl p : Nat} (h : s.partOf cl = some p) : s.partEn p = true := by
  have hp := List.find?_some h
  simp only [Bool.and_eq_true] at hp
  exact hp.1.1

section
variable {s : State} {cl p : Nat} (hp : s.partOf cl = some p) (w master : Nat)
include hp

/-- The steps of the fault: it is reported, the partition is reset, the word is overwritten, and that is reported too. -/
theorem State.scratchFault_eq : ∃ (f f' : FaultState) (c : Cluster), c.scratch = putWord (s.cluster cl).scratch w poisonWord ∧
    s.scratchFault cl w master = (((s.putFaults f).resetPartition p 1).setCluster cl c).putFaults f' := by
  obtain ⟨f, hf⟩ := s.raise_eq 0x041 (s.scratchSite cl w) master (16 * w) 1 0
  have hp' : (s.putFaults f).partOf cl = some p := hp
  have hkept : (((s.putFaults f).resetPartition p 1).cluster cl).scratch = (s.cluster cl).scratch := State.resetPartition_scratchKept _ p 1 cl
  unfold State.scratchFault
  simp only [hf, hp']
  obtain ⟨f', hf'⟩ := State.raise_eq (((s.putFaults f).resetPartition p 1).setCluster cl { ((s.putFaults f).resetPartition p 1).cluster cl with
    scratch := putWord (((s.putFaults f).resetPartition p 1).cluster cl).scratch w poisonWord }) 0x043 (s.scratchSite cl w) hubMaster (16 * w) 2 0
  refine ⟨f, f', _, ?_, hf'⟩
  dsimp only
  rw [hkept]

/-- The partition of the cluster is in reset. -/
theorem State.scratchFault_resets (hw : Registers.wf s.regs = true) : (s.scratchFault cl w master).rd R.cfgPstatState p = psReset := by
  obtain ⟨f, f', c, -, he⟩ := State.scratchFault_eq hp w master
  rw [he]
  exact (State.resetPartition_inReset (s := s.putFaults f) ⟨hw, State.partEn_of_partOf hp⟩ 1).state

/-- The word is poison. -/
theorem State.scratchFault_poisons (hc : Memory.wf (s.cluster cl).scratch = true) :
    wordAt ((s.scratchFault cl w master).cluster cl).scratch w = poisonWord := by
  obtain ⟨f, f', c, hscratch, he⟩ := State.scratchFault_eq hp w master
  have hput : (s.scratchFault cl w master).cluster cl = c := he ▸ State.cluster_put_same ((s.putFaults f).resetPartition p 1) cl c
  rw [hput, hscratch]
  exact wordAt_putWord_same w poisonWord hc rfl
end

/-- A read that begins at an uncorrectable word, of a cluster that has no transfer outstanding, ends there. -/
theorem State.reading_uncorrectable {s : State} {cl w n : Nat} (hx : (s.cluster cl).xfers = []) (hn : 0 < n)
    (h : decodeWord false (wordAt (s.cluster cl).scratch w) = .uncorrectable) (g : State → State) :
    s.reading cl [(16 * w, n)] g = s.scratchFault cl w (clusterMaster cl) := by
  obtain ⟨ws, hws⟩ : ∃ ws, scratchWords (16 * w) n = w :: ws := by
    rw [scratchWords, if_neg (by omega), List.range_succ_eq_map, List.map_cons, Nat.mul_div_cancel_left w (by decide), Nat.add_zero]
    exact ⟨_, rfl⟩
  unfold State.reading
  rw [if_neg (by simp [Cluster.hazard, hx]), List.flatMap_singleton, hws]
  simp only [State.scratchRead, h]

end Sys2Proof.Machine
end

section
/-! What each instruction that sets up a step or steers the program does to a cluster that can issue (R93, R94, R98 to R101). -/

namespace Sys2Proof.Machine

theorem State.cluster_setCluster (s : State) (cl : Nat) (c : Cluster) : (s.setCluster cl c).cluster cl = c := State.cluster_put_same ..

/-- A cluster whose sequencer waits at instruction `i` since `now` (R94). -/
def Cluster.holding (c : Cluster) (i : Instr) (now : Nat) : Cluster := { c with held := some i, heldAt := now }

/-- A cluster that has begun a step: its clock starts again from 0, and so do the counts of the step (R94, R106). -/
def Cluster.begun (c : Cluster) : Cluster := { (c.issue 1).rebase with
  beginMsg := false, inStep := true, stepSeq := c.stepSeq + 1, waitToken := 0, waitPort := 0, waitCredit := 0, waitFinal := 0, waitPower := 0
  recompCycles := 0, poisonOut := 0, poisonRows := [], e2m1Nan := 0, spanCount := 0, sigs := [], checkSigs := [], tileProds := [], products := []
  productOpen := false }

/-- A cluster whose WAITT has taken `n` completions of counter `v` (R97). -/
def Cluster.taken (c : Cluster) (v n : Nat) : Cluster := { c.issue 1 with
  counters := sset 0 c.counters v (sget 0 c.counters v - n)
  xfers := dropN (fun x => x.counter = v && x.complete) n c.xfers }

/-- A cluster whose read-outs are done, that has sent its row events and issued STEP_END (R106, R107). -/
def Cluster.finished (c : Cluster) : Cluster := ((c.stall fun c => c.roEnd.headD 0).issue 1).flushEvents

/-- A cluster that has ended its step: the step record is written. -/
def Cluster.stepped (c : Cluster) (cl : Nat) : Cluster := { c.finished with inStep := false, record := c.finished.stepRecord cl }

/-- An instruction whose condition is not met holds the sequencer. -/
theorem State.hold_of_no_step (s : State) (cl : Nat) {c : Cluster} (hc : c.stepPending = none) (i : Instr) (k : WaitKind) :
    s.hold cl c i k = s.setCluster cl (c.holding i s.now) := by
  unfold State.hold
  split
  · rfl
  · rename_i h
    exact absurd (h.symm.trans hc) (Option.some_ne_none _)

/-- WAITT takes the completions that it waits for, whatever transfers are outstanding. -/
theorem State.waitt_takes {s : State} {cl v n : Nat} (hlt : cl < 240) (hp : (s.partOf cl).isSome = true) (hh : (s.cluster cl).held = none)
    (hstop : (s.cluster cl).stopped = false) (h : n ≤ sget 0 (s.cluster cl).counters v) :
    s.waitt cl v n = s.setCluster cl ((s.cluster cl).taken v n) := by
  unfold State.waitt State.onCluster
  dsimp only
  rw [if_pos ⟨hlt, by simp [Cluster.canIssue, hh, hstop], hp⟩, if_pos h]
  rfl

section
variable {s : State} {cl : Nat} (hi : s.Issues cl)
include hi

/-- SETSTEP takes a sound descriptor. -/
theorem State.setStep_takes {a : Nat} (hs : (s.cluster cl).Sound) (hd : ((s.cluster cl).readS a 32).2 = false) :
    ∃ f, s.setStep cl a = (s.putFaults f).setCluster cl { (s.cluster cl).issue 2 with
      stepAddr := a, stepDesc := ((s.cluster cl).readS a 32).1, productOpen := false } := by
  obtain ⟨-, -, -, -, hx⟩ := id hi
  obtain ⟨f, hf⟩ := State.reading_sound hx hs [(a, 32)]
  refine ⟨f, ?_⟩
  unfold State.setStep
  rw [State.onCluster_of_issues hi, hf]
  simp only [hd, Bool.false_eq_true, if_false]

/-- SETSTEP of a descriptor whose first word is uncorrectable. -/
theorem State.setStep_uncorrectable {w : Nat} (h : decodeWord false (wordAt (s.cluster cl).scratch w) = .uncorrectable) :
    s.setStep cl (16 * w) = s.scratchFault cl w (clusterMaster cl) := by
  obtain ⟨-, -, -, -, hx⟩ := id hi
  exact (State.onCluster_of_issues hi _).trans (State.reading_uncorrectable hx (by decide) h _)

theorem State.setPair_issues (a : Nat) : s.setPair cl a = s.setCluster cl { (s.cluster cl).issue 1 with pairBase := a } :=
  State.onCluster_of_issues hi _

theorem State.nop_issues (n : Nat) : s.nop cl n = s.setCluster cl ((s.cluster cl).issue n) := State.onCluster_of_issues hi _

/-- LOOP opens a loop over a body that is not empty. -/
theorem State.loop_opens (count : Nat) {body : Nat} (hb : body ≠ 0) : s.loop cl count body = s.setCluster cl { (s.cluster cl).advance 1 with
    pc := (s.cluster cl).pc + 1
    loops := ((s.cluster cl).pc + 1, (s.cluster cl).pc + 1 + body, count - 1) :: (s.cluster cl).loops } :=
  (State.onCluster_of_issues hi _).trans (if_neg hb)

/-- JPAGE turns to the other page, no fill being outstanding. -/
theorem State.jpage_turns : s.jpage cl = s.setCluster cl { (s.cluster cl).issue 1 with page := 1 - (s.cluster cl).page, pc := 0, loops := [] } := by
  obtain ⟨-, -, -, -, hx⟩ := id hi
  exact (State.onCluster_of_issues hi _).trans (if_neg (by simp [hx]))

/-- STEP_BEGIN begins the step once the hub's message has arrived: the clock starts again from 0, and so do the step's counts. -/
theorem State.stepBegin_begins (hm : (s.cluster cl).beginMsg = true) :
    s.stepBegin cl = s.setCluster cl (s.cluster cl).begun :=
  (State.onCluster_of_issues hi _).trans (if_pos hm)

/-- STEP_BEGIN waits for that message. -/
theorem State.stepBegin_waits (hm : (s.cluster cl).beginMsg = false) (hp : (s.cluster cl).stepPending = none) :
    s.stepBegin cl = s.setCluster cl ((s.cluster cl).holding (.stepBegin cl) s.now) :=
  (State.onCluster_of_issues hi _).trans ((if_neg (by simp [hm])).trans (State.hold_of_no_step s cl hp _ _))

/-- WAITT waits for them. -/
theorem State.waitt_waits {v n : Nat} (h : sget 0 (s.cluster cl).counters v < n) (hp : (s.cluster cl).stepPending = none) :
    s.waitt cl v n = s.setCluster cl ((s.cluster cl).holding (.waitt cl v n) s.now) :=
  (State.onCluster_of_issues hi _).trans ((if_neg (by omega)).trans (State.hold_of_no_step s cl hp _ _))

/-- WAIT is met while the cluster is in Run. -/
theorem State.wait_met (hm : s.rd R.pwrModeMode cl = 0) (hn : s.napping cl = false) : s.wait cl = s.setCluster cl ((s.cluster cl).issue 1) :=
  (State.onCluster_of_issues hi _).trans (if_pos ⟨hm, by simp [hn]⟩)

/-- STEP_END ends the step: no element waits for the recompute engine, and no transfer is outstanding. -/
theorem State.stepEnd_ends (hsp : (s.cluster cl).spans = []) : s.stepEnd cl = s.setCluster cl ((s.cluster cl).stepped cl) := by
  obtain ⟨-, -, -, -, hx⟩ := id hi
  exact (State.onCluster_of_issues hi _).trans (if_pos (by simp [Cluster.finalReady, hsp, hx]))

end

/-- A cluster that is released after `w` cycles of waiting for a token (R94). -/
def Cluster.released (c : Cluster) (w : Nat) : Cluster := { c.waited .token w with held := none }

/-- A held WAITT whose completions have come takes them; the cycles that it was held count as cycles of waiting for a token. -/
theorem State.release_waitt {s : State} {cl v n : Nat} (hlt : cl < 240) (hp : (s.partOf cl).isSome = true)
    (hh : (s.cluster cl).held = some (.waitt cl v n)) (hstop : (s.cluster cl).stopped = false) (h : n ≤ sget 0 (s.cluster cl).counters v)
    (w : Nat) : s.release cl w = (s.setCluster cl ((s.cluster cl).released w)).setCluster cl (((s.cluster cl).released w).taken v n) := by
  have hrun : s.release cl w = (s.setCluster cl ((s.cluster cl).released w)).waitt cl v n := by
    unfold State.release
    simp only [hh]
    exact if_pos ⟨decide_eq_true h, by simp [hstop]⟩
  have htakes := State.waitt_takes (s := s.setCluster cl ((s.cluster cl).released w)) (v := v) (n := n) hlt hp
  rw [State.cluster_setCluster] at htakes
  exact hrun.trans (htakes rfl hstop h)

end Sys2Proof.Machine
end

section
/-! STEP_END (R106, R370): the cluster ends its step, and with a partition's last one the tag of the partition's next step is looked up. -/

namespace Sys2Proof.Machine

/-- The step descriptor of a matrix step stands in registers, clusters, objects and the partition's program. -/
theorem State.stepDescOf_congr {s t : State} (hr : t.regs = s.regs) (hc : t.clusters = s.clusters) (ho : t.objs = s.objs) {p : Nat}
    (hp : (t.part p).program = (s.part p).program) (step : Nat) : t.stepDescOf p step = s.stepDescOf p step := by
  have hstep : ∀ i, t.programStep p i step = s.programStep p i step := fun i => by
    unfold State.programStep State.obj?
    rw [hp, ho]
  unfold State.stepDescOf State.partSize State.partFirst State.cluster
  simp only [hstep, hc, State.rd_congr hr]

/-- The tag of the step that partition `p` runs next; 0 where its program has none. -/
def State.tagOfNext (s : State) (p : Nat) : Nat := ((s.stepDescOf p ((s.part p).steps + 1)).map sdTag).getD 0

/-- Where a cluster of the partition is in its step yet, nothing more happens; else the tag of the partition's next step is looked up. -/
theorem State.stepEndAll_cases {s u : State} {cl p : Nat} (hu : s.stepEnd cl = u) (hp : u.partOf cl = some p) :
    ((∃ j ∈ u.partClusters p, (u.cluster j).inStep = true) ∧ s.stepEndAll cl = u) ∨
    ∃ w, s.stepEndAll cl = (u.setPart p { u.part p with nextTag := u.tagOfNext p }).putPower w := by
  unfold State.stepEndAll
  simp only [hu, hp]
  split
  · rename_i h
    exact .inl ⟨List.any_eq_true.1 h, rfl⟩
  · exact .inr ⟨_, rfl⟩

section
variable {s u : State} {cl p : Nat} (hu : s.stepEnd cl = u) (hp : u.partOf cl = some p)
include hu hp

/-- The end of a partition's step changes nothing of its clusters, and of the partitions that tag alone. -/
theorem State.stepEndAll_leaves : (s.stepEndAll cl).cluster = u.cluster ∧ (s.stepEndAll cl).regs = u.regs ∧ (s.stepEndAll cl).mem = u.mem ∧
    (s.stepEndAll cl).host = u.host ∧ ∀ q, (s.stepEndAll cl).part q = { u.part q with nextTag := ((s.stepEndAll cl).part q).nextTag } := by
  obtain ⟨-, he⟩ | ⟨w, he⟩ := State.stepEndAll_cases hu hp
  · rw [he]
    exact ⟨rfl, rfl, rfl, rfl, fun _ => rfl⟩
  · rw [he]
    refine ⟨rfl, rfl, rfl, rfl, fun q => ?_⟩
    by_cases hq : q = p
    · subst hq
      have hpart := u.part_put_same q { u.part q with nextTag := u.tagOfNext q }
      exact hpart.trans (congrArg (fun x : Part => { u.part q with nextTag := x.nextTag }) hpart.symm)
    · have hpart := u.part_put_ne { u.part p with nextTag := u.tagOfNext p } hq
      exact hpart.trans (congrArg (fun x : Part => { u.part q with nextTag := x.nextTag }) hpart.symm)

/-- Once no cluster of the partition is in its step, the tag is that of the step descriptor that the next matrix step runs with. -/
theorem State.stepEndAll_tag {d : List Byte} (hout : ∀ j ∈ u.partClusters p, (u.cluster j).inStep = false)
    (hd : (s.stepEndAll cl).stepDescOf p ((u.part p).steps + 1) = some d) : ((s.stepEndAll cl).part p).nextTag = sdTag d := by
  obtain ⟨⟨j, hj, hin⟩, -⟩ | ⟨w, he⟩ := State.stepEndAll_cases hu hp
  · exact absurd hin (by simp [hout j hj])
  · have hpart : (s.stepEndAll cl).part p = { u.part p with nextTag := u.tagOfNext p } := he ▸ u.part_put_same p _
    rw [State.stepDescOf_congr (s := u) (he ▸ rfl) (he ▸ rfl) (he ▸ rfl) (by rw [hpart])] at hd
    rw [hpart, State.tagOfNext, hd]
    rfl
end

end Sys2Proof.Machine
end

section
/-! The instructions that set up a step or steer the program: each command by the lemma on its operation. -/

namespace Sys2Proof.Machine

theorem exec_setstep (cl a : Nat) (s : State) : exec (.setstep cl a) s = .next (s.setStep cl a) := rfl
theorem exec_setpair (cl a : Nat) (s : State) : exec (.setpair cl a) s = .next (s.setPair cl a) := rfl
theorem exec_nop (cl n : Nat) (s : State) : exec (.nop cl n) s = .next (s.nop cl n) := rfl
theorem exec_loop (cl count body : Nat) (s : State) : exec (.loop cl count body) s = .next (s.loop cl count body) := rfl
theorem exec_jpage (cl : Nat) (s : State) : exec (.jpage cl) s = .next (s.jpage cl) := rfl
theorem exec_stepBegin (cl : Nat) (s : State) : exec (.stepBegin cl) s = .next (s.stepBegin cl) := rfl
theorem exec_stepEnd (cl : Nat) (s : State) : exec (.stepEnd cl) s = .next (s.stepEndAll cl) := rfl
theorem exec_wait (cl : Nat) (s : State) : exec (.wait cl) s = .next (s.wait cl) := rfl
theorem exec_waitt (cl v n : Nat) (s : State) : exec (.waitt cl v n) s = .next (s.waitt cl v n) := rfl
theorem exec_syncPointRelease (cl w : Nat) (s : State) : exec (.syncPointRelease cl w) s = .next (s.release cl w) := rfl

theorem OnlyCluster.trans {cl : Nat} {s t u : State} (h : OnlyCluster cl s t) (h' : OnlyCluster cl t u) : OnlyCluster cl s u := by
  obtain ⟨hc, hr, hm, hh, hp⟩ := h
  obtain ⟨hc', hr', hm', hh', hp'⟩ := h'
  exact ⟨fun j hj => (hc' j hj).trans (hc j hj), hr'.trans hr, hm'.trans hm, hh'.trans hh, hp'.trans hp⟩

/-- WAITT for as many completions as there are leaves none of them. -/
theorem Cluster.counters_taken {c : Cluster} (h : swf 0 c.counters = true) (v : Nat) :
    sget 0 (c.taken v (sget 0 c.counters v)).counters v = 0 :=
  (sget_sset_same _ _ h).trans (Nat.sub_self _)

/-- A read-out that ends and the events that are sent leave the scratch. -/
theorem Cluster.scratch_stepped (c : Cluster) (cl : Nat) : (c.stepped cl).scratch = c.scratch :=
  ((Cluster.issue_sameWork ..).trans (Cluster.stall_sameWork ..)).scratch

end Sys2Proof.Machine

open Sys2Proof.Machine

/-- Settles O24: what each instruction does to its cluster is stated by the lemma on its operation, and the clock leaves all but the instruction due next.
SETSTEP of an uncorrectable word is the fault of that word, whose reset leaves scratch (R262). That JPAGE leaves all loops is log entry 67, and that the
steps run the entries of the step list in turn is log entry 94. -/
theorem setUpAndControlFlow : Obligations.SetUpAndControlFlow := by
  refine ⟨?setstep, ?uncorrectable, ?setpair, ?nop, ?nopInLoop, ?loop, ?jpage, ?stepBegin, ?stepBeginWaits, ?stepEnd, ?wait, ?waitt, ?waittWaits,
    ?release⟩
  case setstep =>
    intro s cl a hi hs hd
    obtain ⟨f, he⟩ := State.setStep_takes hi hs hd
    refine answers_of_setCluster ((exec_setstep ..).trans (congrArg _ he)) fun t hc honly => ?_
    rw [hc]
    exact ⟨rfl, rfl, Cluster.schedCycles_issue _ 2, (Cluster.issue_sameWork ..).scratch, honly⟩
  case uncorrectable =>
    intro s cl a p w hw hwf hi hp ha hu
    subst ha
    refine ⟨_, (exec_setstep ..).trans (congrArg _ (State.setStep_uncorrectable hi hu)), ?_, ?_⟩
    · exact State.scratchFault_resets hp w _ hw
    · exact State.scratchFault_poisons hp w _ hwf
  case setpair =>
    intro s cl a hi
    refine answers_of_setCluster (f := s.faults) ((exec_setpair ..).trans (congrArg _ (State.setPair_issues hi a))) fun t hc honly => ?_
    rw [hc]
    exact ⟨rfl, (Cluster.issue_sameWork ..).stepDesc, (Cluster.issue_sameWork ..).scratch, honly⟩
  case nop =>
    intro s cl n hi
    refine answers_of_setCluster (f := s.faults) ((exec_nop ..).trans (congrArg _ (State.nop_issues hi n))) fun t hc honly => ?_
    rw [hc]
    exact ⟨Cluster.schedCycles_issue _ n, fun hl => Cluster.pc_issue_of_no_loop hl n, (Cluster.issue_sameWork ..).scratch, honly⟩
  case nopInLoop =>
    intro s cl n a k hi hl
    refine answers_of_setCluster (f := s.faults) ((exec_nop ..).trans (congrArg _ (State.nop_issues hi n))) fun t hc honly => ?_
    have hdue := (s.cluster cl).due_issue n
    rw [hl] at hdue
    rw [hc]
    refine ⟨fun hk => ?_, fun hk => ?_, honly⟩
    · subst hk
      exact Prod.mk.inj (hdue.trans (loopNext_last ..))
    · exact Prod.mk.inj (hdue.trans (loopNext_repeat _ _ hk))
  case loop =>
    intro s cl count body hi hb
    refine answers_of_setCluster (f := s.faults) ((exec_loop ..).trans (congrArg _ (State.loop_opens hi count hb))) fun t hc honly => ?_
    rw [hc]
    exact ⟨rfl, rfl, (Cluster.advance_sameWork ..).scratch, honly⟩
  case jpage =>
    intro s cl hi
    refine answers_of_setCluster (f := s.faults) ((exec_jpage ..).trans (congrArg _ (State.jpage_turns hi))) fun t hc honly => ?_
    rw [hc]
    exact ⟨rfl, rfl, rfl, (Cluster.issue_sameWork ..).imem, honly⟩
  case stepBegin =>
    intro s cl hi hm
    refine answers_of_setCluster (f := s.faults) ((exec_stepBegin ..).trans (congrArg _ (State.stepBegin_begins hi hm))) fun t hc honly => ?_
    rw [hc]
    exact ⟨rfl, rfl, rfl, rfl, rfl, (Cluster.issue_sameWork ..).scratch, honly⟩
  case stepBeginWaits =>
    intro s cl hi hm hp
    refine answers_of_setCluster (f := s.faults) ((exec_stepBegin ..).trans (congrArg _ (State.stepBegin_waits hi hm hp))) fun t hc honly => ?_
    rw [hc]
    exact ⟨rfl, rfl, rfl, honly⟩
  case stepEnd =>
    intro s cl hi hsp
    obtain ⟨p, hp⟩ := Option.isSome_iff_exists.1 hi.2.1
    have hu := State.stepEnd_ends hi hsp
    obtain ⟨hall, hr, hm, hh, hpart⟩ := State.stepEndAll_leaves hu hp
    have hc : (s.stepEndAll cl).cluster cl = (s.cluster cl).stepped cl := (congrFun hall cl).trans (s.cluster_setCluster cl _)
    have hne : ∀ j, j ≠ cl → (s.stepEndAll cl).cluster j = s.cluster j := fun j hj => (congrFun hall j).trans (s.cluster_put_ne _ hj)
    refine ⟨_, exec_stepEnd .., ?_⟩
    dsimp only
    rw [hc]
    refine ⟨rfl, rfl, rfl, Cluster.scratch_stepped _ cl, hne, hr, hm, hh, hpart, fun q d hq hout hd => ?_⟩
    obtain rfl : p = q := Option.some.inj (hp.symm.trans hq)
    refine State.stepEndAll_tag hu hp (fun j hj => ?_) hd
    by_cases hjc : j = cl
    · rw [hjc, ← hall, hc]
      rfl
    · rw [← hall, hne j hjc]
      exact hout j hj hjc
  case wait =>
    intro s cl hi hm hn hl
    refine answers_of_setCluster (f := s.faults) ((exec_wait ..).trans (congrArg _ (State.wait_met hi hm hn))) fun t hc honly => ?_
    rw [hc]
    exact ⟨Cluster.pc_issue_of_no_loop hl 1, (Cluster.issue_sameWork ..).acc, honly⟩
  case waitt =>
    intro s cl n v hi hwf hn
    subst hn
    obtain ⟨hlt, hp, hh, hstop, -⟩ := id hi
    refine answers_of_setCluster (f := s.faults) ((exec_waitt ..).trans (congrArg _ (State.waitt_takes hlt hp hh hstop le_rfl)))
      fun t hc honly => ?_
    rw [hc]
    exact ⟨Cluster.counters_taken hwf v, (Cluster.issue_sameWork ..).held.trans hh, (Cluster.issue_sameWork ..).scratch, honly⟩
  case waittWaits =>
    intro s cl n v hi hp hn
    refine answers_of_setCluster (f := s.faults) ((exec_waitt ..).trans (congrArg _ (State.waitt_waits hi hn hp))) fun t hc honly => ?_
    rw [hc]
    exact ⟨rfl, rfl, rfl, honly⟩
  case release =>
    intro s cl w n v hlt hp hh hstop hwf hn
    subst hn
    refine ⟨_, (exec_syncPointRelease ..).trans (congrArg _ (State.release_waitt hlt hp hh hstop le_rfl w)), ?_⟩
    dsimp only
    rw [State.cluster_setCluster]
    exact ⟨(Cluster.issue_sameWork ..).held, Cluster.counters_taken hwf v, (Cluster.issue_sameWork ..).waitToken,
      (s.setCluster_onlyCluster cl _).trans (State.setCluster_onlyCluster _ cl _)⟩

end

section
/-! The end of a request that succeeds (R307, R451): what becomes of the host interface, of the shards and of the registers below those of the tables. -/

namespace Sys2Proof.Machine

/-! ### The parts of the end -/

/-- A stream that closes may bring out text, and leaves the rest of the host interface. -/
theorem State.closeStream_host (s : State) (c n : Nat) : ∃ x, (s.closeStream c n).host = { s.host with texts := x } := by
  unfold State.closeStream
  split
  · exact ⟨_, rfl⟩
  · extract_lets u v
    have hv : v.host = s.host := by
      unfold v
      split
      · exact ((State.zestTime_eff ..).same .host rfl).trans ((State.zestCount_eff ..).same .host rfl)
      · rfl
    clear_value v
    split
    · exact ⟨s.host.texts, hv⟩
    · exact ⟨v.host.texts ++ [(c, n, _)], by rw [State.updHost, State.putHost_host, hv]⟩

theorem State.closeStreams_texts (s : State) (k : ReqKey) : ∃ x, (s.closeStreams k).host = { s.host with texts := x } := by
  unfold State.closeStreams
  generalize s.gens.filter _ = l
  induction l generalizing s with
  | nil => exact ⟨_, rfl⟩
  | cons g l ih =>
    obtain ⟨x, hx⟩ := s.closeStream_host g.client (fieldLe g.block 46 1)
    obtain ⟨y, hy⟩ := ih (s.closeStream g.client (fieldLe g.block 46 1))
    exact ⟨y, by rw [List.foldl_cons, hy, hx]⟩

/-- A shard without the pins and the waiting changes of a request. -/
def Shard.forget (k : ReqKey) (x : Shard) : Shard := ({ x with pins := x.pins.filter fun q => q.1 ≠ k }).dropChanges k

theorem Shard.forget_merge (k : ReqKey) (x : Shard) : (x.forget k).merge = x.merge := by
  unfold Shard.forget Shard.dropChanges
  dsimp only
  split <;> rfl

/-- A request's work is dropped: what it wrote stays written, and its pins and changes leave the shards. -/
theorem State.forgetWork_dma_shards (s : State) (k : ReqKey) :
    (s.forgetWork k).host.dma = s.host.dma ∧ (s.forgetWork k).shards = s.shards.map fun e => (e.1, e.2.forget k) := by
  unfold State.forgetWork
  extract_lets u v
  have hu : Eff 671088648 (s.closeStreams k) u := State.freePins_eff ..
  have hv : Eff 1099513725448 u v := Eff.foldl (fun s (e : Nat × Table) => State.discardCommit_eff s e.1) (Eff.refl _ u)
  have hhost : v.host = (s.closeStreams k).host := (hv.same .host rfl).trans (hu.same .host rfl)
  have hshards : v.shards = s.shards :=
    (hv.same .shards rfl).trans ((hu.same .shards rfl).trans ((State.closeStreams_eff s k).same .shards rfl))
  obtain ⟨x, hx⟩ := s.closeStreams_texts k
  clear_value u v
  constructor
  · show v.host.dma = s.host.dma
    rw [hhost, hx]
  · simp only [State.putHost_shards, State.putShards_shards, hshards]
    rfl

/-! ### Registers -/

/-- From `s` to `t` every register below those of the embedding tables is left, but those of the lanes that ports send on. -/
structure LowRegs (s t : State) : Prop where
  wf : Registers.wf s.regs = true → Registers.wf t.regs = true
  reg : Registers.wf s.regs = true → ∀ k, k < 0xC10000 → k ∉ laneKeys → t.reg k = s.reg k

namespace LowRegs

theorem of_regs {s t : State} (h : t.regs = s.regs) : LowRegs s t := ⟨fun hw => h ▸ hw, fun _ k _ _ => by rw [State.reg, h, State.reg]⟩

theorem of_eff {k : Nat} {s t : State} (h : Eff k s t) (hk : k.testBit 3 = false) : LowRegs s t := of_regs (h.same .regs hk)

theorem refl (s : State) : LowRegs s s := of_regs rfl

theorem trans {s t u : State} (h : LowRegs s t) (h' : LowRegs t u) : LowRegs s u :=
  ⟨fun hw => h'.wf (h.wf hw), fun hw k hk hl => (h'.reg (h.wf hw) k hk hl).trans (h.reg hw k hk hl)⟩

theorem foldl {α : Type} {f : State → α → State} (hf : ∀ s a, LowRegs s (f s a)) (l : List α) (s : State) : LowRegs s (l.foldl f s) := by
  induction l generalizing s with
  | nil => exact refl s
  | cons a l ih => exact (hf s a).trans (ih _)

/-- A register of the tables or above them is written. -/
theorem wr {f : Fld} (hf : 0xC10000 ≤ f.off) (s : State) (i v : Nat) : LowRegs s (s.wr f i v) :=
  ⟨fun hw => State.wr_regs_wf hw .., fun hw k hk _ => State.reg_wr_ne hw _ _ _ (by unfold regKey; split <;> omega)⟩

theorem of_sends {s t : State} (h : Sends s t) : LowRegs s t := ⟨h.eff.regs, fun _ k _ hl => h.lanes k hl⟩

end LowRegs

theorem State.setNode_lowRegs (s : State) (t i : Nat) (n : MNode) : LowRegs s (s.setNode t i n) := by
  unfold State.setNode
  extract_lets valid count
  refine LowRegs.trans ?_ (LowRegs.wr (by decide) ..)
  exact LowRegs.of_regs rfl

theorem State.dropBlock_lowRegs (s : State) (p b : Nat) : LowRegs s (s.dropBlock p b) := by
  unfold State.dropBlock
  split
  · exact LowRegs.refl s
  · extract_lets u v
    have hv : LowRegs s v := by
      refine LowRegs.trans (t := u) (LowRegs.of_regs rfl) ?_
      unfold v
      split
      · exact LowRegs.wr (by decide) ..
      · exact LowRegs.refl u
    split
    · exact hv
    · exact hv.trans (LowRegs.wr (by decide) ..)

theorem State.killNode_lowRegs (s : State) (t i : Nat) (readable held : Bool) : LowRegs s (s.killNode t i readable held) := by
  unfold State.killNode
  extract_lets n u v
  have hu : LowRegs s u := by
    unfold u
    split
    · exact s.dropBlock_lowRegs ..
    · exact LowRegs.refl s
  have hv : LowRegs s v := hu.trans (u.setNode_lowRegs ..)
  refine (hv.trans ?_).trans (LowRegs.wr (f := R.mdlTstatDead) (by decide) ..)
  exact LowRegs.of_regs rfl

theorem State.unpin_lowRegs (s : State) (t i : Nat) : LowRegs s (s.unpin t i) := by
  unfold State.unpin
  extract_lets n others u
  have hu : LowRegs s u := by
    unfold u
    split
    · exact s.dropBlock_lowRegs ..
    · exact LowRegs.refl s
  refine hu.trans ?_
  split
  · exact u.killNode_lowRegs ..
  · exact u.killNode_lowRegs ..
  · exact LowRegs.of_regs rfl
  · split
    · exact LowRegs.refl u
    · exact u.setNode_lowRegs ..

theorem State.closeStream_lowRegs (s : State) (c n : Nat) : LowRegs s (s.closeStream c n) := by
  unfold State.closeStream
  split
  · exact LowRegs.refl s
  · extract_lets u v
    have hv : LowRegs s v := by
      refine LowRegs.trans (t := u) (LowRegs.of_regs rfl) ?_
      unfold v
      split
      · exact ((LowRegs.wr (f := R.zstEstatBytes) (by decide) ..).trans (LowRegs.wr (f := R.zstEstatInvalidUtf8) (by decide) ..)).trans
          (LowRegs.of_eff (State.zestTime_eff ..) rfl)
      · exact LowRegs.refl u
    split
    · exact hv
    · exact hv.trans (LowRegs.of_regs rfl)

theorem State.discardCommit_lowRegs (s : State) (slot : Nat) : LowRegs s (s.discardCommit slot) := by
  unfold State.discardCommit
  split
  · exact LowRegs.refl s
  · split
    · exact LowRegs.refl s
    · exact ((LowRegs.of_eff (State.foldDelta_eff ..) rfl).trans (LowRegs.of_eff (State.updTable_eff ..) rfl)).trans (LowRegs.wr (by decide) ..)

theorem State.forgetWork_lowRegs (s : State) (k : ReqKey) : LowRegs s (s.forgetWork k) := by
  have hstreams : LowRegs s (s.closeStreams k) := LowRegs.foldl (fun s _ => s.closeStream_lowRegs ..) _ s
  have hpins : LowRegs (s.closeStreams k) ((s.closeStreams k).freePins k) :=
    (LowRegs.foldl (fun s _ => s.unpin_lowRegs ..) _ _).trans (LowRegs.foldl (fun s _ => s.dropBlock_lowRegs ..) _ _)
  unfold State.forgetWork
  extract_lets u v
  have hv : LowRegs s v := (hstreams.trans hpins).trans (LowRegs.foldl (fun s _ => s.discardCommit_lowRegs _) _ _)
  exact hv.trans (LowRegs.of_regs (by simp))

theorem State.endColls_lowRegs (s : State) (k : ReqKey) (status : Nat) : LowRegs s (s.endColls k status) :=
  ⟨(s.endColls_eff k status).regs, fun _ j _ hl => (s.endColls_lanes k status).1 j hl⟩

/-! ### The end -/

section
variable {s : State} {k : ReqKey} {op : Nat} {r : Req} {st : Nat} (h : s.Holds k op r) (hst : st < 16)

include h hst

/-- A request that succeeds: its collective and its work are gone, its client is charged, and its entry waits. -/
theorem State.endReq_eq (n d : Nat) : ∃ u f g e, Eff 4294967360 s u ∧
    s.endReq k st n d = ((((u.endColls k st).forgetWork k).charge k.1 f).updReq k g).produce e := by
  obtain ⟨hq, -, he, ho, hr, hg⟩ := h
  have hctx : st ≠ stContextFault := by rintro rfl; exact absurd hst (by decide)
  unfold State.endReq
  simp -zeta only [hq, he, hr, ho, hst.not_ge, hctx, Bool.false_eq_true, if_false, Option.isSome_none, Bool.false_or]
  extract_lets s' u bytes v w x y
  have hu : Eff 4294967360 s u := by
    unfold u
    split
    · exact State.chargePause_eff ..
    · exact Eff.refl ..
  have hrings : w.host.rings = s.host.rings := by
    have hw : w.host = v.host := State.charge_host ..
    rw [hw, (State.forgetWork_host ..).2.1, State.endColls_host, show u.host = s.host from hu.same .host rfl]
  have hring : (w.ring k.1).isNone = false := by rw [State.ring, hrings]; simpa [State.ring] using hg
  rw [if_neg (by rw [hring]; exact Bool.false_ne_true)]
  exact ⟨u, _, _, _, hu, rfl⟩

/-- Requests that succeed leave what has been written to the host. -/
theorem State.endReq_dma (n d : Nat) : (s.endReq k st n d).host.dma = s.host.dma := by
  obtain ⟨u, f, g, e, hu, heq⟩ := State.endReq_eq h hst n d
  have hprod : ∀ x : State, (x.produce e).host.dma = x.host.dma := fun x => by
    unfold State.produce
    split <;> rfl
  have hupd : ∀ x : State, (x.updReq k g).host.dma = x.host.dma := fun _ => rfl
  rw [heq, hprod, hupd, State.charge_host, (State.forgetWork_dma_shards ..).1, State.endColls_host, show u.host = s.host from hu.same .host rfl]

/-- Its pins and changes leave the shards. -/
theorem State.endReq_shards (n d : Nat) : (s.endReq k st n d).shards = s.shards.map fun e => (e.1, e.2.forget k) := by
  obtain ⟨u, f, g, e, hu, heq⟩ := State.endReq_eq h hst n d
  have hafter : ∀ x : State, (((x.charge k.1 f).updReq k g).produce e).shards = x.shards := fun x =>
    ((State.produce_eff ..).same .shards rfl).trans (((State.updReq_eff ..).same .shards rfl).trans ((State.charge_eff ..).same .shards rfl))
  have hbefore : (u.endColls k st).shards = s.shards := ((State.endColls_eff ..).same .shards rfl).trans (hu.same .shards rfl)
  rw [heq, hafter, (State.forgetWork_dma_shards ..).2, hbefore]

theorem State.endReq_lowRegs (n d : Nat) : LowRegs s (s.endReq k st n d) := by
  obtain ⟨u, f, g, e, hu, heq⟩ := State.endReq_eq h hst n d
  rw [heq]
  have hforget : LowRegs s ((u.endColls k st).forgetWork k) :=
    ((LowRegs.of_eff hu rfl).trans (u.endColls_lowRegs k st)).trans (State.forgetWork_lowRegs _ k)
  generalize (u.endColls k st).forgetWork k = v at hforget
  exact ((hforget.trans (LowRegs.of_eff (v.charge_eff k.1 f) rfl)).trans (LowRegs.of_eff (State.updReq_eff _ k g) rfl)).trans
    (LowRegs.of_eff (State.produce_eff _ e) rfl)

end

/-! ### Requests that are in flight -/

/-- The entries that wait before a command are those of any state with the same. -/
theorem Ends.of_cq {s s' t : State} {k : ReqKey} {st n d : Nat} (h : Ends s' t k st n d) (hcq : s'.host.cq = s.host.cq) : Ends s t k st n d := by
  unfold Ends at h ⊢
  rwa [← hcq]

theorem State.Holds.of_host {s t : State} {k : ReqKey} {op : Nat} {r : Req} (h : s.Holds k op r) (hh : t.host = s.host) : t.Holds k op r := by
  simpa only [State.Holds, State.req?, State.ring, hh] using h

/-- A change of a request's progress leaves it in flight. -/
theorem State.Holds.updReq {s : State} {k : ReqKey} {op : Nat} {r : Req} (h : s.Holds k op r) {f : Req → Req}
    (hf : (f r).client = r.client ∧ (f r).id = r.id ∧ (f r).opcode = r.opcode ∧ (f r).ended = r.ended ∧ (f r).orphan = r.orphan ∧ (f r).remote = r.remote) :
    (s.updReq k f).Holds k op (f r) := by
  obtain ⟨hq, hop, he, ho, hr, hg⟩ := h
  obtain ⟨hc, hi, fop, fe, fo, fr⟩ := hf
  exact ⟨State.req?_updReq hq ⟨hc, hi⟩, fop.trans hop, fe.trans he, fo.trans ho, fr.trans hr, hg⟩

/-- A command acts on the request it names. -/
theorem State.onReq_holds {s : State} {k : ReqKey} {op : Nat} {r : Req} (h : s.Holds k op r) (f : Req → State) : s.onReq k op f = f r := by
  obtain ⟨hq, hop, he, -⟩ := h
  simp [State.onReq, hq, he, hop]

/-- Output of a request to host memory, of which no page fails, is a posted write of its function. -/
theorem State.putOut_writes {s : State} {k : ReqKey} {op : Nat} {r : Req} (h : s.Holds k op r) (hdev : isDev (r.d 32 8) = false) (hats : s.host.ats = [])
    {bs : List Byte} (hne : bs ≠ []) : ∃ f fn pasid,
      s.putOut k 0 bs = ((s.charge k.1 f).updHost fun h => { h with dma := h.dma ++ [⟨fn, pasid, r.d 32 8, false, bs⟩] }).updReq k fun r =>
        { r with outBytes := Nat.max r.outBytes bs.length, outImg := r.outImg ++ [(0, bs)] } := by
  obtain ⟨hq, -, he, ho, -, -⟩ := h
  have hlive : s.live k = true := by simp [State.live, hq, he]
  have hmerge : s.mergeAddr k.1 (r.d 32 8) bs.length = s := by simp [State.mergeAddr, hdev]
  have hwrite : ∃ f fn pasid, s.writeAddr k.1 (r.d 32 8) bs false =
      some ((s.charge k.1 f).updHost fun h => { h with dma := h.dma ++ [⟨fn, pasid, r.d 32 8, false, bs⟩] }) := by
    simp only [State.writeAddr, List.isEmpty_eq_false_iff.2 hne, hdev, State.writeFails, hats, List.not_mem_nil, decide_false, Bool.false_and,
      Bool.false_eq_true, if_false]
    exact ⟨_, _, _, rfl⟩
  obtain ⟨f, fn, pasid, hwrite⟩ := hwrite
  refine ⟨f, fn, pasid, ?_⟩
  unfold State.putOut State.putOutP
  simp [hq, he, ho, hmerge, hlive, hwrite]

theorem State.putOut_host_eff {s : State} {k : ReqKey} {op : Nat} {r : Req} (h : s.Holds k op r) (hdev : isDev (r.d 32 8) = false)
    (hats : s.host.ats = []) {bs : List Byte} (hne : bs ≠ []) : Eff 4294967376 s (s.putOut k 0 bs) := by
  obtain ⟨f, fn, pasid, hput⟩ := State.putOut_writes h hdev hats hne
  rw [hput]
  exact (State.updReq_eff ..).step rfl ((State.updHost_eff ..).step rfl ((State.charge_eff ..).mono rfl))

/-- It is among the host's writes afterwards, and the request is in flight as before. -/
theorem State.putOut_output {s : State} {k : ReqKey} {op : Nat} {r : Req} (h : s.Holds k op r) (hdev : isDev (r.d 32 8) = false) (hats : s.host.ats = [])
    {bs : List Byte} (hne : bs ≠ []) :
    (s.putOut k 0 bs).Holds k op { r with outBytes := Nat.max r.outBytes bs.length, outImg := r.outImg ++ [(0, bs)] } ∧
      (s.putOut k 0 bs).host.cq = s.host.cq ∧ ∃ w ∈ (s.putOut k 0 bs).host.dma, w.addr = r.d 32 8 ∧ w.bytes = bs := by
  obtain ⟨f, fn, pasid, hput⟩ := State.putOut_writes h hdev hats hne
  have hcharge := s.charge_host k.1 f
  have hwritten := h.of_host hcharge
  rw [hput]
  generalize s.charge k.1 f = u at hcharge hwritten
  have hu : (u.updHost fun h => { h with dma := h.dma ++ [⟨fn, pasid, r.d 32 8, false, bs⟩] }).Holds k op r := hwritten
  refine ⟨hu.updReq ⟨rfl, rfl, rfl, rfl, rfl, rfl⟩, ?_, ⟨fn, pasid, r.d 32 8, false, bs⟩, ?_, rfl, rfl⟩
  · show u.host.cq = s.host.cq
    rw [hcharge]
  · exact List.mem_append_right _ (List.mem_singleton_self _)

end Sys2Proof.Machine
end

section
/-! How a search begins (R118, R119): the shard is pinned and its four walks wait. -/

namespace Sys2Proof.Machine

theorem State.shard?_updShard_same (s : State) (slot : Nat) (f : Shard → Shard) : (s.updShard slot f).shard? slot = (s.shard? slot).map f :=
  aget_amod_same ..

/-- A shard that is there is pinned to the request afterwards. -/
theorem State.pinShard_pins {s : State} {k : ReqKey} {slot : Nat} {x : Shard} (h : s.shard? slot = some x) :
    ∃ y, (s.pinShard k slot).1.shard? slot = some y ∧ y.pinnedBy k = true := by
  unfold State.pinShard
  rw [h]
  dsimp only
  split
  · rename_i p hp
    have hkey := List.find?_some hp
    exact ⟨x, h, List.any_eq_true.2 ⟨p, List.mem_of_find?_eq_some hp, hkey⟩⟩
  · refine ⟨{ x with pins := x.pins ++ [(k, s.rd R.sloShardEpoch slot)] }, ?_, ?_⟩
    · rw [State.shard?_updShard_same, h, Option.map_some]
    · simp [Shard.pinnedBy]

/-- A search of one slot pins it, is recorded, and queues its walks. -/
theorem State.beginSearch_one (s : State) (k : ReqKey) (i : Nat) (params sketch : List Byte) (origin : Option Nat) : ∃ p : Search,
    (p.client, p.req) = k ∧ s.beginSearch k [i] params sketch origin =
      ((s.pinShard k i).1.putSearches ((s.pinShard k i).1.searches ++ [p])).queueWalks k i 0 (spBeam params) :=
  ⟨_, rfl, rfl⟩

/-- The walks that a shard's search queues, by section. -/
theorem State.mem_queueWalks (s : State) (k : ReqKey) (slot attempt beam : Nat) {j : Nat} (hj : j < 4) :
    ∃ w ∈ (s.queueWalks k slot attempt beam).walks,
      w.client = k.1 ∧ w.req = k.2 ∧ w.slot = slot ∧ w.sec = j ∧ w.beam = beam ∧ w.walker = none := by
  refine ⟨_, List.mem_append_right _ (List.mem_map_of_mem (List.mem_range.2 hj)), rfl, rfl, rfl, rfl, rfl, rfl⟩

theorem State.length_queueWalks (s : State) (k : ReqKey) (slot attempt beam : Nat) :
    (s.queueWalks k slot attempt beam).walks.length = s.walks.length + 4 := by
  simp [State.queueWalks]

/-- Only the first 64 bytes of a search block are read. -/
theorem spBeam_take (b : List Byte) : spBeam (b.take 64) = spBeam b := by simp [spBeam, spBits, List.take_take]

section
variable {s : State} {k : ReqKey} {i : Nat} {r : Req}

/-- A search of a shard that serves begins. -/
theorem State.opSearch_begins (h : s.Holds k 0x04 r) (hran : r.ran = false) (hb : s.boundary r = none) (hstate : s.searchState r.param = true)
    (hready : s.searchReady k (spSlots r.param) = true) :
    s.opSearch k = (s.updReq k fun r => { r with ran := true }).beginSearch k (spSlots r.param) (r.param.take 64) (r.param.drop 64) none := by
  unfold State.opSearch
  rw [State.onReq_holds h]
  simp [hran, hb, hstate, hready]

theorem State.opSearch_ends (h : s.Holds k 0x04 r) (hran : r.ran = false) {st : Nat} (hb : s.boundary r = some st) :
    s.opSearch k = s.endReq k st 0 0 := by
  unfold State.opSearch
  rw [State.onReq_holds h]
  simp [hran, hb]

/-- What a search of one slot has begun. -/
theorem State.opSearch_one (h : s.Holds k 0x04 r) (hran : r.ran = false) (hb : s.boundary r = none) (hstate : s.searchState r.param = true)
    (hready : s.searchReady k (spSlots r.param) = true) (hslots : spSlots r.param = [i]) :
    (s.opSearch k).walks.length = s.walks.length + 4 ∧
    (∀ j, j < 4 → ∃ w ∈ (s.opSearch k).walks, w.client = k.1 ∧ w.req = k.2 ∧ w.slot = i ∧ w.sec = j ∧ w.beam = spBeam r.param ∧ w.walker = none) ∧
    ((s.opSearch k).search? k).isSome = true ∧ (∃ x, (s.opSearch k).shard? i = some x ∧ x.pinnedBy k = true) ∧
    (s.opSearch k).host.cq = s.host.cq ∧ (s.opSearch k).regs = s.regs ∧ (s.opSearch k).mem = s.mem := by
  rw [State.opSearch_begins h hran hb hstate hready, hslots]
  have hshard : (s.shard? i).isSome = true := by
    have hall := List.all_eq_true.1 hstate i (by simp [hslots])
    simp only [Bool.and_eq_true] at hall
    exact hall.1.1
  obtain ⟨x, hx⟩ := Option.isSome_iff_exists.1 hshard
  generalize hu : (s.updReq k fun r => { r with ran := true }) = u
  have hux : u.shard? i = some x := hu ▸ hx
  have hcq : u.host.cq = s.host.cq := hu ▸ rfl
  have hue : Eff 16 s u := hu ▸ State.updReq_eff ..
  obtain ⟨p, hp, heq⟩ := u.beginSearch_one k i (r.param.take 64) (r.param.drop 64) none
  have hpin := u.pinShard_eff k i
  obtain ⟨y, hy, hyp⟩ := State.pinShard_pins (k := k) hux
  rw [heq, spBeam_take]
  generalize (u.pinShard k i).1 = v at hpin hy
  have heff : Eff 131088 s v := hpin.step rfl (hue.mono rfl)
  refine ⟨?_, fun j hj => State.mem_queueWalks _ k i 0 _ hj, ?_, ⟨y, hy, hyp⟩, ?_, heff.same .regs rfl, heff.mem rfl rfl⟩
  · rw [State.length_queueWalks, State.putSearches_walks, show v.walks = s.walks from heff.same .walks rfl]
  · refine List.find?_isSome.2 ⟨p, List.mem_append_right _ (List.mem_singleton_self p), ?_⟩
    simpa using hp
  · exact (congrArg HostIf.cq (hpin.same .host rfl)).trans hcq

end

end Sys2Proof.Machine
end

section
/-! How a walk runs (R122, R123, R130): it takes a walker, its side list is swept, and it ends with its survivors. -/

namespace Sys2Proof.Machine

section
variable {s : State} {w : Walk}

/-- A change of the only walk. -/
theorem State.updWalk_single (h : s.walks = [w]) (f : Walk → Walk) : s.updWalk w.order f = s.putWalks [f w] := by
  simp [State.updWalk, h, modFirst]

/-- The first walk that waits on a die takes the lowest walker with room. -/
theorem State.walkStart_takes {die n : Nat} (hwalks : s.walks = [w]) (hsec : w.sec = die) (hwalker : w.walker = none) (hended : w.ended = false)
    (hn : (s.liveWalkers die).find? (fun n => decide (s.rd R.sloWstatSlotsBusy n + ceilDiv w.beam 256 ≤ 64)) = some n) :
    ∃ u v count bursts, (u = s ∨ u = s.incSat R.sloWstatRestarts n 1) ∧
      s.walkStart die = ((((u.inc R.sloWstatSlotsBusy n (ceilDiv w.beam 256)).wr R.sloWstatOutstanding n v).putWalks
        [{ w with walker := some n, sideEnd := count, sideSeen := 0, startedAt := s.now, bursts := bursts, restarted := false }]).start
          (w.client, w.req)) := by
  subst hsec
  have hfind : (s.walks.find? fun x => x.sec = w.sec && x.walker.isNone && !x.ended) = some w := by simp [hwalks, hwalker, hended]
  have hlive : (s.liveWalkers w.sec).isEmpty = false := List.isEmpty_eq_false_iff.2 (List.ne_nil_of_mem (List.mem_of_find?_eq_some hn))
  unfold State.walkStart
  rw [hfind]
  dsimp -zeta only
  extract_lets need count
  rw [if_neg (by rw [hlive]; exact Bool.false_ne_true), hn]
  dsimp -zeta only
  extract_lets u first v
  have hu : u = s ∨ u = s.incSat R.sloWstatRestarts n 1 := by
    unfold u
    split
    · exact .inr rfl
    · exact .inl rfl
  have heff : Eff 8 s u := by
    rcases hu with hu | hu
    · exact hu ▸ Eff.refl ..
    · exact hu ▸ State.incSat_eff ..
  have hv : v.walks = [w] := ((State.wr_eff ..).same .walks rfl).trans (((State.inc_eff ..).same .walks rfl).trans
    ((heff.same .walks rfl).trans hwalks))
  have hnow : v.now = s.now := ((State.wr_eff ..).same .now rfl).trans (((State.inc_eff ..).same .now rfl).trans (heff.same .now rfl))
  rw [State.updWalk_single hv, hnow]
  exact ⟨u, _, count, first, hu, rfl⟩

/-- The context slots that a walk takes are counted at its walker. -/
theorem State.rd_slotsBusy (hw : Registers.wf s.regs = true) {u : State} {n need v : Nat} (hu : u = s ∨ u = s.incSat R.sloWstatRestarts n 1)
    (hroom : s.rd R.sloWstatSlotsBusy n + need ≤ 64) :
    ((u.inc R.sloWstatSlotsBusy n need).wr R.sloWstatOutstanding n v).rd R.sloWstatSlotsBusy n = s.rd R.sloWstatSlotsBusy n + need := by
  have huw : Registers.wf u.regs = true := by
    rcases hu with rfl | rfl
    · exact hw
    · exact State.wr_regs_wf hw ..
  have hbusy : u.rd R.sloWstatSlotsBusy n = s.rd R.sloWstatSlotsBusy n := by
    rcases hu with rfl | rfl
    · rfl
    · exact State.rd_wr_apart hw _ _ n n _ (by decide) rfl (by decide)
  have hwidth : R.sloWstatSlotsBusy.width = 7 := rfl
  calc ((u.inc R.sloWstatSlotsBusy n need).wr R.sloWstatOutstanding n v).rd R.sloWstatSlotsBusy n
      = (u.inc R.sloWstatSlotsBusy n need).rd R.sloWstatSlotsBusy n :=
        State.rd_wr_apart (State.inc_regs_wf huw ..) R.sloWstatOutstanding R.sloWstatSlotsBusy n n v (by decide) rfl (by decide)
    _ = (u.rd R.sloWstatSlotsBusy n + need) % 2 ^ R.sloWstatSlotsBusy.width := State.rd_wr_same huw _ _ _ (by decide)
    _ = s.rd R.sloWstatSlotsBusy n + need := by rw [hbusy, hwidth, Nat.mod_eq_of_lt (by omega)]

theorem State.walkStart_one (hw : Registers.wf s.regs = true) {die n : Nat} (hwalks : s.walks = [w]) (hsec : w.sec = die) (hwalker : w.walker = none)
    (hended : w.ended = false)
    (hn : (s.liveWalkers die).find? (fun n => decide (s.rd R.sloWstatSlotsBusy n + ceilDiv w.beam 256 ≤ 64)) = some n) :
    (∃ v, (s.walkStart die).walks = [v] ∧ v.order = w.order ∧ v.walker = some n ∧ v.startedAt = s.now) ∧
      (s.walkStart die).rd R.sloWstatSlotsBusy n = s.rd R.sloWstatSlotsBusy n + ceilDiv w.beam 256 ∧
      (s.walkStart die).host.cq = s.host.cq ∧ (s.walkStart die).mem = s.mem := by
  obtain ⟨u, v, count, bursts, hu, heq⟩ := State.walkStart_takes hwalks hsec hwalker hended hn
  have hroom := List.find?_some hn
  have hrd := State.rd_slotsBusy (v := v) hw hu (of_decide_eq_true hroom)
  have heff : Eff 8 s ((u.inc R.sloWstatSlotsBusy n (ceilDiv w.beam 256)).wr R.sloWstatOutstanding n v) := by
    refine (State.wr_eff ..).step rfl ((State.inc_eff ..).step rfl ?_)
    rcases hu with rfl | rfl
    · exact Eff.refl ..
    · exact State.incSat_eff ..
  rw [heq]
  generalize (u.inc R.sloWstatSlotsBusy n (ceilDiv w.beam 256)).wr R.sloWstatOutstanding n v = x at hrd heff
  have hcq : x.host.cq = s.host.cq := congrArg HostIf.cq (heff.same .host rfl)
  exact ⟨⟨_, rfl, rfl, rfl, rfl⟩, hrd, hcq, heff.mem rfl rfl⟩

/-- Clean words that a unit has read have put their channels to use, and no more. -/
theorem State.usedBy_clean (s : State) {m : WalkMem} (hm : m.dirty = []) (master : Nat) : s.usedBy m master = s.updMem fun x => x.use s.now m.chans := by
  simp [State.usedBy, hm]

theorem State.usedBy_clean_eff (s : State) {m : WalkMem} (hm : m.dirty = []) (master : Nat) : Eff 1099511627776 s (s.usedBy m master) := by
  rw [State.usedBy_clean s hm]
  exact State.updMem_eff _ _ fun _ => rfl

/-- A walk reads registers and memory. -/
theorem State.walkRead_congr {s t : State} (hr : t.regs = s.regs) (hm : t.mem = s.mem) : t.walkRead = s.walkRead := by
  have hbytes : t.chanBytes = s.chanBytes := by rw [State.chanBytes, State.chanBytes, State.gradeM, State.gradeM, State.isSet_congr hr]
  have hword : t.devWord = s.devWord := by
    funext a
    simp only [State.devWord, State.locate, State.viewLive_congr hr, State.rd_congr hr, hbytes]
  have howner : t.ownerOf = s.ownerOf := by
    funext a
    rw [State.ownerOf, State.ownerOf, hm]
  have hdetects : t.detects = s.detects := by
    funext w
    rw [State.detects, State.detects, State.isSet_congr hr]
  have hlines : t.devLines = s.devLines := by
    funext a n
    rw [State.devLines, State.devLines, hword]
  have howns : t.ownsRange = s.ownsRange := by
    funext p a n
    rw [State.ownsRange, State.ownsRange, howner, State.backed_congr hr]
  have hwords : t.devWords = s.devWords := by
    funext a n
    rw [State.devWords, State.devWords, hword]
  have huncorr : t.uncorrAt = s.uncorrAt := by
    funext a n
    rw [State.uncorrAt, State.uncorrAt, hwords, hdetects, hm]
  have hread : t.readDev = s.readDev := by
    funext a n
    rw [State.readDev, State.readDev, hword, hdetects, hm]
  have hclean : t.cleanAt = s.cleanAt := by
    funext w
    rw [State.cleanAt, State.cleanAt, hdetects, hm]
  funext p a n
  simp only [State.walkRead, hlines, howns, hwords, huncorr, hread, hclean]

/-- A pass over clean records brings the only walk of a walker to the end of its range. -/
theorem State.sweepPass_one {n : Nat} {x : Shard} {y : Section} (hwalks : s.walks = [w]) (hwalker : w.walker = some n) (hended : w.ended = false)
    (hx : s.shard? w.slot = some x) (hy : x.sections[w.sec]? = some y)
    (hstop : (s.walkRead x.part y.sideBase (w.sideEnd * sideBytes (s.shardBits w.slot))).2.stop = 0)
    (hdirty : (s.walkRead x.part y.sideBase (w.sideEnd * sideBytes (s.shardBits w.slot))).2.dirty = []) :
    ∃ v m, v.order = w.order ∧ v.sideSeen = w.sideEnd ∧ v.walker = some n ∧ m.dirty = [] ∧
      s.sweepPass n = (s.putWalks [v]).usedBy m (0x400 + n) := by
  have hstep : ∃ v, s.sweepPass n = (s.putWalks [v]).sweepRead n w ∧ v.order = w.order ∧ v.req = w.req ∧ v.sideSeen = w.sideEnd ∧
      v.walker = some n := by
    unfold State.sweepPass
    have hmine : (s.walks.filter fun w => w.walker = some n && !w.ended) = [w] := by simp [hwalks, hwalker, hended]
    simp only [hmine, List.foldl_cons, List.foldl_nil]
    rw [hwalks, List.map_cons, List.map_nil, if_pos ⟨hwalker, by rw [hended]; rfl⟩]
    split
    · exact ⟨_, rfl, rfl, rfl, rfl, hwalker⟩
    · exact ⟨_, rfl, rfl, rfl, rfl, hwalker⟩
  obtain ⟨v, heq, horder, hreq, hseen, hvn⟩ := hstep
  refine ⟨v, _, horder, hseen, hvn, hdirty, ?_⟩
  rw [heq]
  unfold State.sweepRead
  have hvx : (s.putWalks [v]).shard? w.slot = some x := hx
  have hbits : (s.putWalks [v]).shardBits w.slot = s.shardBits w.slot := by
    rw [State.shardBits, State.shardBits, State.rd_congr (State.putWalks_regs ..)]
  have hread : (s.putWalks [v]).walkRead = s.walkRead := State.walkRead_congr rfl rfl
  simp [hvx, hy, horder, hreq, hread, hstop, hbits]

/-- A walk whose sweep is complete and that met clean memory has its survivors, and its walker is charged and free. -/
theorem State.walkEnd_one {n : Nat} {p : Search} {x : Shard} {y : Section} {live : List Cand × WalkMem} (hwalks : s.walks = [w])
    (hwalker : w.walker = some n) (hp : s.search? (w.client, w.req) = some p) (hx : s.shard? w.slot = some x) (hy : x.sections[w.sec]? = some y)
    (hseen : w.sideEnd ≤ w.sideSeen)
    (hlive : s.survivors x y w.sec p (p.epoch w.slot) (s.runWalk x y p.sketch (s.shardBits w.slot) w.beam (spExpand p.params)) = live)
    (hstop : live.2.stop = 0) (hdirty : live.2.dirty = []) :
    ∃ u, Eff 1103806595144 s u ∧ s.walkEnd w.order = u.putWalks [{ w with
      walker := none, ended := true, cand := live.1,
      expansions := (s.runWalk x y p.sketch (s.shardBits w.slot) w.beam (spExpand p.params)).exps }] := by
  unfold State.walkEnd
  have hfind : (s.walks.find? fun x => x.order = w.order) = some w := by simp [hwalks]
  rw [hfind]
  simp -zeta only [hwalker, hp, hx, hy, hseen.not_gt, if_false]
  extract_lets run live' a b c
  obtain rfl : live' = live := hlive
  have ha : Eff 8 s a := (State.inc_eff ..).step rfl (State.inc_eff ..)
  have hb : Eff 4294967368 s b := (State.charge_eff ..).step rfl (ha.mono rfl)
  have hc : Eff 1103806595144 s c := (State.usedBy_clean_eff b hdirty (0x400 + n)).step rfl (hb.mono rfl)
  have hd : Eff 1103806595144 s (c.freeWalker w) := (State.freeWalker_eff ..).step rfl hc
  rw [if_neg (by simpa using hstop)]
  exact ⟨c.freeWalker w, hd, State.updWalk_single ((hd.same .walks rfl).trans hwalks) _⟩

end

end Sys2Proof.Machine
end

section
/-! The result of a search of one shard (R123 to R125). -/

namespace Sys2Proof.Machine

/-- The result that walks give is a shard result. -/
theorem State.assemble_ne_nil {s : State} {k : ReqKey} {p : Search} {slot : Nat} {bs : List Byte} (h : s.assemble k p slot = .result bs) : bs ≠ [] := by
  have hne : ∀ a b c d e f, shardResult a b c d e f ≠ [] := fun a b c d e f hnil => by
    have := congrArg List.length hnil
    simp [shardResult] at this
  unfold State.assemble at h
  extract_lets ws surv at h
  split at h
  · cases h
  extract_lets exps res at h
  have hres : res = .result bs → bs ≠ [] := fun heq => Assembled.result.inj heq ▸ hne _ _ _ _ _ _
  clear_value res
  split at h
  · cases h
  split at h
  · exact hres h
  split at h
  · split at h
    · cases h
    · exact hres h
  · cases h

section
variable {s : State} {k : ReqKey} {slot : Nat} {r : Req} {p : Search} {bs : List Byte}

/-- The only shard's result ends its search. -/
theorem State.shardAssemble_one (h : s.Holds k 0x04 r) (hp : s.search? k = some p) (hres : s.assemble k p slot = .result bs) (hnone : p.results = [])
    (hslots : p.slots = [slot]) : ∃ u, Eff 786432 s u ∧ s.shardAssemble k slot = u.searchOut k { p with results := [(slot, bs)] } := by
  have hsort : sortBy (fun (a b : Nat × List Byte) => decide (a.1 < b.1)) (p.results ++ [(slot, bs)]) = [(slot, bs)] := by
    simp [hnone, sortBy, insertBy]
  unfold State.shardAssemble
  simp -zeta only [hp, hres, hsort]
  extract_lets q u
  have hu : Eff 786432 s u := (State.updSearch_eff ..).step rfl ((State.clearWalks_eff ..).mono rfl)
  obtain ⟨hq, hop, -⟩ := h.of_host (t := u) (hu.same .host rfl)
  rw [if_neg (by simp [q, hslots]), if_pos (by simp [hq, hop])]
  exact ⟨u, hu, rfl⟩

/-- One result is written to the request's output, and its request ends with the result's counts. -/
theorem State.searchOut_one (h : s.Holds k 0x04 r) (hdev : isDev (r.d 32 8) = false) (hats : s.host.ats = []) (hne : bs ≠ []) :
    Ends s (s.searchOut k { p with results := [(slot, bs)] }) k (if resultValid bs < spK p.params then stFewResults else stOk) (resultValid bs)
        (resultExps bs) ∧
      (∃ w ∈ (s.searchOut k { p with results := [(slot, bs)] }).host.dma, w.addr = r.d 32 8 ∧ w.bytes = bs) ∧
      (s.searchOut k { p with results := [(slot, bs)] }).clusters = s.clusters := by
  have hsmall : (if resultValid bs < spK p.params then stFewResults else stOk) < 16 := by split <;> decide
  have hout : ∃ refs, s.searchOut k { p with results := [(slot, bs)] } = ((s.updReq k fun r => { r with shardRefs := refs }).putOut k 0 bs).endReq k
      (if resultValid bs < spK p.params then stFewResults else stOk) (resultValid bs) (resultExps bs) := by
    unfold State.searchOut
    simp only [List.map_cons, List.map_nil, List.foldl_cons, List.foldl_nil, Nat.zero_add]
    exact ⟨_, rfl⟩
  obtain ⟨refs, hout⟩ := hout
  have hrefs : (s.updReq k fun r => { r with shardRefs := refs }).Holds k 0x04 { r with shardRefs := refs } := h.updReq ⟨rfl, rfl, rfl, rfl, rfl, rfl⟩
  obtain ⟨hend, hcq, w, hw, haddr, hbytes⟩ := State.putOut_output hrefs hdev hats hne
  have hclusters := (State.putOut_host_eff hrefs hdev hats hne).same .clusters rfl
  rw [hout]
  exact ⟨(State.endReq_ends hend _ _ _).of_cq hcq, ⟨w, (State.endReq_dma hend hsmall _ _).symm ▸ hw, haddr, hbytes⟩,
    ((State.endReq_eff ..).same .clusters rfl).trans hclusters⟩

end

end Sys2Proof.Machine
end

section
/-! Searches: each command by the lemma on its operation. -/

namespace Sys2Proof.Machine

theorem exec_opSearch (c q : Nat) (s : State) : exec (.opSearch c q) s = .next (s.opSearch (c, q)) := rfl
theorem exec_walkStart (die : Nat) (s : State) : exec (.walkStart die) s = .next (s.walkStart die) := rfl
theorem exec_sideSweepPass (n : Nat) (s : State) : exec (.sideSweepPass n) s = .next (s.sweepPass n) := rfl
theorem exec_walkEnd (order : Nat) (s : State) : exec (.walkEnd order) s = .next (s.walkEnd order) := rfl
theorem exec_shardResultAssemble (c q slot : Nat) (s : State) : exec (.shardResultAssemble c q slot) s = .next (s.shardAssemble (c, q) slot) := rfl

end Sys2Proof.Machine

open Sys2Proof.Machine

/-- Settles O43: what each command of a search does is stated by the lemma on its operation, and what it leaves by the components it can change. -/
theorem searchCommandsComplete : Obligations.SearchCommandsComplete := by
  refine ⟨?begins, ?ends, ?start, ?sweep, ?walkEnd, ?result⟩
  case begins =>
    intro s c q i r h hran hb hstate hready hslots
    exact ⟨_, exec_opSearch .., State.opSearch_one h hran hb hstate hready hslots⟩
  case ends =>
    intro s c q st r h hran hb
    refine ⟨_, (exec_opSearch ..).trans (congrArg _ (State.opSearch_ends h hran hb)), State.endReq_ends h st 0 0, ?_⟩
    exact (State.endReq_eff ..).same .clusters rfl
  case start =>
    intro s die n w hw hwalks hsec hwalker hended hn
    exact ⟨_, exec_walkStart .., State.walkStart_one hw hwalks hsec hwalker hended hn⟩
  case sweep =>
    intro s n w x y hwalks hwalker hended hx hy hstop hdirty
    obtain ⟨v, m, horder, hseen, hvn, hm, heq⟩ := State.sweepPass_one hwalks hwalker hended hx hy hstop hdirty
    have heff := State.usedBy_clean_eff (s.putWalks [v]) hm (0x400 + n)
    exact ⟨_, (exec_sideSweepPass ..).trans (congrArg _ heq), ⟨v, heff.same .walks rfl, horder, hseen, hvn⟩, heff.same .shards rfl, heff.same .regs rfl,
      heff.same .host rfl, heff.same .cells rfl, heff.same .clusters rfl⟩
  case walkEnd =>
    intro s n w p x y live hwalks hwalker hp hx hy hseen hlive hstop hdirty
    obtain ⟨u, hu, heq⟩ := State.walkEnd_one hwalks hwalker hp hx hy hseen hlive hstop hdirty
    exact ⟨_, (exec_walkEnd ..).trans (congrArg _ heq), rfl, hu.same .shards rfl, hu.same .host rfl, hu.same .cells rfl⟩
  case result =>
    intro s c q slot r p bs h hp hres hnone hslots hdev hats
    obtain ⟨u, hu, heq⟩ := State.shardAssemble_one h hp hres hnone hslots
    have hhost : u.host = s.host := hu.same .host rfl
    obtain ⟨hends, hdma, hclusters⟩ := State.searchOut_one (p := p) (slot := slot) (h.of_host hhost) hdev (hhost ▸ hats) (State.assemble_ne_nil hres)
    exact ⟨_, (exec_shardResultAssemble ..).trans (congrArg _ heq), hends.of_cq (congrArg _ hhost), hdma,
      hclusters.trans (hu.same .clusters rfl)⟩

end

section
/-! Words that come clean or corrected (R256, R257): reads of which none is poisoned or uncorrectable change registers, fault messages and what waits
for LPDDR-6, and nothing else. -/

namespace Sys2Proof.Machine

/-- A word that its controller hands over as data may have been corrected, read again, counted and reported. -/
theorem State.readCtl_word_eff {s : State} {w master : Nat} {noise : List (List (Nat × Byte))} (h : (s.readCtl w master noise).2.rank = 0) :
    Eff 1099511628040 s (s.readCtl w master noise).1 := by
  have htouch := s.touchChan_eff (wordChan w)
  revert h
  unfold State.readCtl
  extract_lets c u n
  split
  · exact fun _ => htouch.mono rfl
  · exact fun _ => (State.corrected_eff ..).step rfl (htouch.mono rfl)
  · exact fun h => absurd h Nat.one_ne_zero
  · have hreread : Eff 1099511628040 s ((u.startDetect w).rereads w [n 1, n 2, n 3] master).1 :=
      (State.rereads_eff ..).step rfl ((State.startDetect_eff ..).step rfl (htouch.mono rfl))
    split
    · exact fun h => absurd h two_ne_zero
    · exact fun _ => hreread

/-- A run of reads that ends with rank 0 has met no other rank, and stays in the mask of such a read. -/
theorem foldl_rank_eff {α β : Type} {k : Nat} {state : β → State} {rank : β → Nat} {f : β → α → β}
    (hf : ∀ x a, rank (f x a) = 0 → rank x = 0 ∧ Eff k (state x) (state (f x a))) (l : List α) (x : β) (h : rank (l.foldl f x) = 0) :
    rank x = 0 ∧ Eff k (state x) (state (l.foldl f x)) := by
  induction l generalizing x with
  | nil => exact ⟨h, Eff.refl ..⟩
  | cons a l ih =>
    obtain ⟨hrank, heff⟩ := ih (f x a) h
    obtain ⟨hx, hstep⟩ := hf x a hrank
    exact ⟨hx, heff.step (by simp [subMask]) hstep⟩

theorem max_eq_zero {a b : Nat} (h : Nat.max a b = 0) : a = 0 ∧ b = 0 :=
  ⟨Nat.le_zero.1 (h ▸ Nat.le_max_left a b), Nat.le_zero.1 (h ▸ Nat.le_max_right a b)⟩

theorem State.readUnit_word_eff {s : State} {a n master : Nat} (h : (s.readUnit a n master).2.2 = 0) :
    Eff 1099511628040 s (s.readUnit a n master).1 :=
  (foldl_rank_eff (β := State × List Byte × Nat) (state := Prod.fst) (rank := fun x => x.2.2) (fun _ _ hr => by
    obtain ⟨hx, hy⟩ := max_eq_zero hr
    exact ⟨hx, State.readCtl_word_eff hy⟩) (s.devWords a n) (s, [], 0) h).2

theorem State.readUnits_word_eff {s : State} {master : Nat} {l : List (Nat × Nat)} (h : (s.readUnits master l).2 = 0) :
    Eff 1099511628040 s (s.readUnits master l).1 :=
  (foldl_rank_eff (β := State × Nat) (state := Prod.fst) (rank := Prod.snd) (fun _ _ hr => by
    obtain ⟨hx, hy⟩ := max_eq_zero hr
    exact ⟨hx, State.readUnit_word_eff hy⟩) l (s, 0) h).2

end Sys2Proof.Machine
end

section
/-! An insert or delete command (R126, R127): it takes its place in the shard's changes, or is rejected. -/

namespace Sys2Proof.Machine

/-- A change of the first element of some kind that keeps a value keeps the list of the values. -/
theorem map_modFirst {α β : Type} {p : α → Bool} {f : α → α} {g : α → β} (h : ∀ a, g (f a) = g a) (l : List α) :
    (modFirst p f l).map g = l.map g := by
  induction l with
  | nil => rfl
  | cons a l ih =>
    unfold modFirst
    split
    · simp [h]
    · simp [ih]

/-- The keys of the requests in flight. -/
def State.reqKeys (s : State) : List ReqKey := s.host.reqs.map fun r => (r.client, r.id)

theorem State.reqKeys_updReq (s : State) (k : ReqKey) {f : Req → Req} (h : ∀ r, ((f r).client, (f r).id) = (r.client, r.id)) :
    (s.updReq k f).reqKeys = s.reqKeys := map_modFirst h _

/-- While every request in flight has a change that waits, none completes. -/
theorem State.indexSettle_waits {s : State} {slot : Nat} {x : Shard} (hx : s.shard? slot = some x)
    (h : ∀ k ∈ s.reqKeys, ∃ d ∈ x.changes, d.client = k.1 ∧ d.req = k.2) : s.indexSettle slot = s := by
  have hnone : (s.host.reqs.filter fun r => !r.ended && r.ran && (r.opcode = 0x18 || r.opcode = 0x19) && r.inl 0 1 = slot &&
      !(x.changes.any fun c => c.client = r.client && c.req = r.id)) = [] := by
    refine List.filter_eq_nil_iff.2 fun r hr => ?_
    obtain ⟨d, hd, hc, hq⟩ := h (r.client, r.id) (List.mem_map_of_mem hr)
    have hany : (x.changes.any fun c => c.client = r.client && c.req = r.id) = true := List.any_eq_true.2 ⟨d, hd, by simp [hc, hq]⟩
    rw [hany]
    simp
  unfold State.indexSettle
  rw [hx]
  simp only [hnone, List.foldl_nil]

/-- The state once an index command has taken its place: the metadata words that it needs are read, the shard is the one judged, and the request has run. -/
def State.indexTaken (s : State) (k : ReqKey) (r : Req) (x x' : Shard) : State :=
  let u := (s.readUnits hubMaster (x.changeReads r)).1.readGens k x'
  (u.putShards (aput u.shards (r.inl 0 1) x')).updReq k fun r => { r with ran := true }

section
variable {s : State} {k : ReqKey} {op : Nat} {r : Req} {x x' : Shard} {hs : List Nat} (h : s.Holds k op r) (hran : r.ran = false)
  (hx : s.shard? (r.inl 0 1) = some x)

include h hran hx

theorem State.indexChange_takes (hj : s.judgeIndex k r (r.inl 0 1) x = .ok (x', hs)) :
    s.indexChange k op = (if hs.isEmpty then s.indexTaken k r x x' else (s.indexTaken k r x x').putOut k 0 (hs.flatMap (leBytes 8))).indexSettle
      (r.inl 0 1) := by
  unfold State.indexChange
  rw [State.onReq_holds h]
  simp only [hran, hx, hj, Bool.false_eq_true, if_false]
  rfl

/-- A rejected insert ends with its status. -/
theorem State.indexChange_rejected (hop : r.opcode = 0x18) {st : Nat} (hj : s.judgeIndex k r (r.inl 0 1) x = .error st) :
    Ends s (s.indexChange k op) k st 0 0 ∧ (s.indexChange k op).objs = s.objs := by
  have hreads : x.changeReads r = [] := if_pos hop
  have heq : s.indexChange k op = if st = stPoison then s.endPoison k (hubSite 5 14) hubMaster 0 0 else s.endReq k st 0 0 := by
    unfold State.indexChange
    rw [State.onReq_holds h]
    simp only [hran, hx, hj, hreads, Bool.false_eq_true, if_false]
    rfl
  rw [heq]
  split
  · rename_i hst
    have hhost : (s.raise 0x044 (hubSite 5 14) hubMaster 0 1 0).host = s.host := (State.raise_eff ..).same .host rfl
    exact ⟨hst ▸ (State.endReq_ends (h.of_host hhost) stPoison 0 0).of_cq (congrArg _ hhost), (State.endPoison_eff ..).same .objs rfl⟩
  · exact ⟨State.endReq_ends h st 0 0, (State.endReq_eff ..).same .objs rfl⟩

end

section
variable {s : State} {k : ReqKey} {op : Nat} {r : Req} {x x' : Shard} (hreads : (s.readUnits hubMaster (x.changeReads r)).2 = 0)
  (hgens : ((s.readUnits hubMaster (x.changeReads r)).1.readUnits hubMaster (x'.gensRead k)).2 = 0)

include hreads hgens

theorem State.indexTaken_eff : Eff 1099511759128 s (s.indexTaken k r x x') := by
  have hread := (State.readUnits_word_eff hgens).step rfl (State.readUnits_word_eff hreads)
  exact (State.updReq_eff ..).step rfl ((State.putShards_eff ..).step rfl (hread.mono rfl))

/-- What it leaves of the host interface. -/
theorem State.indexTaken_host : (s.indexTaken k r x x').host = (s.updReq k fun r => { r with ran := true }).host := by
  have hread := (State.readUnits_word_eff hgens).step rfl (State.readUnits_word_eff hreads)
  have hhost : ((s.readUnits hubMaster (x.changeReads r)).1.readGens k x').host = s.host := hread.same .host rfl
  unfold State.indexTaken State.updReq State.updHost
  dsimp only
  simp only [State.putShards_host, State.putHost_host, hhost]

end

theorem State.indexTaken_shard (s : State) (k : ReqKey) (r : Req) (x x' : Shard) : (s.indexTaken k r x x').shard? (r.inl 0 1) = some x' :=
  aget_aput_same ..

theorem State.reqKeys_putOut {s : State} {k : ReqKey} {op : Nat} {r : Req} (h : s.Holds k op r) (hdev : isDev (r.d 32 8) = false)
    (hats : s.host.ats = []) {bs : List Byte} (hne : bs ≠ []) : (s.putOut k 0 bs).reqKeys = s.reqKeys := by
  obtain ⟨f, fn, pasid, hput⟩ := State.putOut_writes h hdev hats hne
  have hcharge := s.charge_host k.1 f
  rw [hput]
  refine (State.reqKeys_updReq _ k ?_).trans (congrArg (fun h => h.reqs.map fun r => (r.client, r.id)) hcharge)
  exact fun _ => rfl

section
variable {s : State} {k : ReqKey} {op : Nat} {r : Req} {x x' : Shard} {hs : List Nat} (h : s.Holds k op r) (hreqs : s.host.reqs = [r])
  (hran : r.ran = false) (hx : s.shard? (r.inl 0 1) = some x) (hchange : ∃ d ∈ x'.changes, d.client = k.1 ∧ d.req = k.2)

include h hreqs hchange

/-- The only request waits with its change. -/
theorem State.reqKeys_indexTaken (hreads : (s.readUnits hubMaster (x.changeReads r)).2 = 0)
    (hgens : ((s.readUnits hubMaster (x.changeReads r)).1.readUnits hubMaster (x'.gensRead k)).2 = 0) :
    ∀ j ∈ (s.indexTaken k r x x').reqKeys, ∃ d ∈ x'.changes, d.client = j.1 ∧ d.req = j.2 := by
  have hkeys : (s.indexTaken k r x x').reqKeys = [k] := by
    have hhost := State.indexTaken_host (k := k) hreads hgens
    have hkey := State.req?_key h.1
    have hsame : s.reqKeys = [k] := by rw [State.reqKeys, hreqs, List.map_singleton, hkey]
    refine (congrArg (fun h => h.reqs.map fun r => (r.client, r.id)) hhost).trans ((State.reqKeys_updReq s k ?_).trans hsame)
    exact fun _ => rfl
  rw [hkeys]
  exact fun j hj => List.mem_singleton.1 hj ▸ hchange

include hran hx

/-- An accepted delete waits for the next publish. -/
theorem State.indexDelete_waits (hj : s.judgeIndex k r (r.inl 0 1) x = .ok (x', [])) (hreads : (s.readUnits hubMaster (x.changeReads r)).2 = 0)
    (hnone : x'.gensRead k = []) : s.indexChange k op = s.indexTaken k r x x' := by
  rw [State.indexChange_takes h hran hx hj]
  exact State.indexSettle_waits (State.indexTaken_shard ..) (State.reqKeys_indexTaken h hreqs hchange hreads (by rw [hnone]; rfl))

/-- An accepted insert writes its handles and waits for the next publish. -/
theorem State.indexInsert_waits (hop : r.opcode = 0x18) (hj : s.judgeIndex k r (r.inl 0 1) x = .ok (x', hs)) (hne : hs ≠ [])
    (hdev : isDev (r.d 32 8) = false) (hats : s.host.ats = []) (hgens : (s.readUnits hubMaster (x'.gensRead k)).2 = 0) :
    (s.indexChange k op).shard? (r.inl 0 1) = some x' ∧ (s.indexChange k op).host.cq = s.host.cq ∧
      (∃ w ∈ (s.indexChange k op).host.dma, w.addr = r.d 32 8 ∧ w.bytes = hs.flatMap (leBytes 8)) ∧ (s.indexChange k op).mem.cells = s.mem.cells ∧
      (x'.gensRead k = [] → (s.indexChange k op).mem = s.mem ∧ (s.indexChange k op).regs = s.regs) := by
  have hnone : x.changeReads r = [] := if_pos hop
  have hreads : (s.readUnits hubMaster (x.changeReads r)).2 = 0 := by rw [hnone]; rfl
  have hgens' : ((s.readUnits hubMaster (x.changeReads r)).1.readUnits hubMaster (x'.gensRead k)).2 = 0 := by rw [hnone]; exact hgens
  have hbytes : hs.flatMap (leBytes 8) ≠ [] := by
    obtain ⟨a, l, rfl⟩ := List.exists_cons_of_ne_nil hne
    intro hnil
    simpa using congrArg List.length hnil
  have hkeys := State.reqKeys_indexTaken h hreqs hchange hreads hgens'
  have hhost := State.indexTaken_host (k := k) hreads hgens'
  have heff := State.indexTaken_eff (k := k) hreads hgens'
  have hshard := s.indexTaken_shard k r x x'
  have hquiet : x'.gensRead k = [] → (s.indexTaken k r x x').mem = s.mem ∧ (s.indexTaken k r x x').regs = s.regs := by
    intro hg
    unfold State.indexTaken State.readGens
    rw [hnone, hg]
    exact ⟨rfl, rfl⟩
  rw [State.indexChange_takes h hran hx hj, if_neg (by rw [List.isEmpty_eq_false_iff.2 hne]; exact Bool.false_ne_true)]
  generalize s.indexTaken k r x x' = u at hkeys hhost heff hshard hquiet
  have hu : u.Holds k op { r with ran := true } := (h.updReq (f := fun r => { r with ran := true }) ⟨rfl, rfl, rfl, rfl, rfl, rfl⟩).of_host hhost
  have hcq : u.host.cq = s.host.cq := by
    rw [hhost]
    rfl
  have hats' : u.host.ats = [] := by
    rw [hhost]
    exact hats
  obtain ⟨-, hoc, hdma⟩ := State.putOut_output hu hdev hats' hbytes
  have hoe := State.putOut_host_eff hu hdev hats' hbytes
  have hok : (u.putOut k 0 (hs.flatMap (leBytes 8))).reqKeys = u.reqKeys := State.reqKeys_putOut hu hdev hats' hbytes
  generalize u.putOut k 0 (hs.flatMap (leBytes 8)) = v at hoc hdma hoe hok
  have hv : v.shard? (r.inl 0 1) = some x' := by rw [State.shard?, show v.shards = u.shards from hoe.same .shards rfl]; exact hshard
  rw [State.indexSettle_waits hv (hok ▸ hkeys)]
  refine ⟨hv, hoc.trans hcq, hdma, (congrArg MemState.cells (hoe.mem rfl rfl)).trans (heff.same .cells rfl), fun hg => ?_⟩
  obtain ⟨hmem, hregs⟩ := hquiet hg
  exact ⟨(hoe.mem rfl rfl).trans hmem, Eq.trans (hoe.same .regs rfl) hregs⟩

end

end Sys2Proof.Machine
end

section
/-! A publish (R116, R126, R129): the changes that wait take effect at the next epoch, and the digest is extended. -/

namespace Sys2Proof.Machine

/-- A list whose elements are taken by their places and changed is the list changed by place. -/
theorem filterMap_range_getElem? {α β : Type} (g : Nat → α → β) (l : List α) :
    ((List.range l.length).filterMap fun i => (l[i]?).map (g i)) = l.mapIdx g := by
  induction l using List.reverseRecOn with
  | nil => rfl
  | append_singleton l a ih =>
    have hinit : ((List.range l.length).filterMap fun i => ((l ++ [a])[i]?).map (g i)) = (List.range l.length).filterMap fun i => (l[i]?).map (g i) :=
      List.filterMap_congr fun i hi => by rw [List.getElem?_append_left (List.mem_range.1 hi)]
    simp [List.range_succ, hinit, ih, List.mapIdx_append]

/-- A section is changed at its place. -/
theorem Shard.getElem?_updSec (x : Shard) (sec : Nat) (f : Section → Section) (i : Nat) :
    (x.updSec sec f).sections[i]? = (x.sections[i]?).map fun y => if i = sec then f y else y := by
  have hsec : (x.updSec sec f).sections = x.sections.mapIdx fun i y => if i = sec then f y else y := filterMap_range_getElem? _ _
  rw [hsec, List.getElem?_mapIdx]

/-- What a change makes of its section at epoch `e`. -/
def Section.publish (y : Section) (e : Nat) (c : IndexChange) : Section :=
  if c.del then { y with tomb := sset false y.tomb c.node true, delLog := aput y.delLog c.node e }
  else { y with
    side := y.side ++ [⟨c.node, e, true, none, c.info, c.sketch⟩]
    fresh := sset false y.fresh c.node true
    tomb := if c.returns y then sset false y.tomb c.node false else y.tomb
    delLog := if c.returns y then adel y.delLog c.node else y.delLog
    freeHist := if c.returns y then modFirst (fun f => f.1 = c.node && f.2.2.isNone) (fun f => (f.1, f.2.1, some e)) y.freeHist else y.freeHist }

/-- What a change makes of its shard. -/
def Shard.publish (e : Nat) (x : Shard) (c : IndexChange) : Shard := x.updSec c.sec fun y => y.publish e c

/-- A change that is published changes its shard; the rest is written to LPDDR-6. -/
theorem State.publishOne_writes (s : State) (slot e : Nat) (c : IndexChange) :
    Eff 1099511628288 (s.updShard slot fun x => x.publish e c) (s.publishOne slot e c) := by
  unfold State.publishOne
  extract_lets u
  have hu : Eff 1099511628288 (s.updShard slot fun x => x.publish e c) u := Eff.refl ..
  clear_value u
  split
  · exact hu
  · split
    · exact (State.writeDev_eff ..).step rfl ((State.mirrorTomb_eff ..).step rfl hu)
    · extract_lets v
      have hv : Eff 1099511628288 (s.updShard slot fun x => x.publish e c) v := (State.mirrorSide_eff ..).step rfl hu
      split
      · exact (State.mirrorTomb_eff ..).step rfl ((State.logRemove_eff ..).step rfl hv)
      · exact hv

theorem State.publishOne_shard {s : State} {slot e : Nat} {c : IndexChange} {x : Shard} (hx : s.shard? slot = some x) :
    (s.publishOne slot e c).shard? slot = some (x.publish e c) := by
  rw [State.shard?, show (s.publishOne slot e c).shards = _ from (s.publishOne_writes slot e c).same .shards rfl, ← State.shard?,
    State.shard?_updShard_same, hx, Option.map_some]

/-- The changes of a publish take effect in their order. -/
theorem State.publishAll_shard {s : State} {slot e : Nat} {x : Shard} (cs : List IndexChange) (hx : s.shard? slot = some x) :
    (cs.foldl (fun s c => s.publishOne slot e c) s).shard? slot = some (cs.foldl (Shard.publish e) x) := by
  induction cs generalizing s x with
  | nil => exact hx
  | cons c cs ih => exact ih (State.publishOne_shard hx)

/-- Of a shard they change sections alone. -/
theorem Shard.publishAll_sections (e : Nat) (cs : List IndexChange) (x : Shard) : ∃ l, cs.foldl (Shard.publish e) x = { x with sections := l } := by
  induction cs generalizing x with
  | nil => exact ⟨_, rfl⟩
  | cons c cs ih =>
    obtain ⟨l, hl⟩ := ih (x.publish e c)
    exact ⟨l, hl⟩

/-- What a publish at time `now` makes of its shard: every change takes effect, and none waits. -/
def Shard.publishAll (e now : Nat) (x : Shard) : Shard := { x.changes.foldl (Shard.publish e) x with changes := [], lastPublish := now }

theorem Shard.publishAll_digest (e now : Nat) (x : Shard) : (x.publishAll e now).digest = x.digest := by
  obtain ⟨l, hl⟩ := Shard.publishAll_sections e x.changes x
  rw [Shard.publishAll, hl]

/-- A shard's digest is extended by a record at epoch `e`. -/
def Shard.advance (e : Nat) (record : List Byte) (x : Shard) : Shard :=
  { x with digest := digest256 (x.digest ++ record), digests := x.digests ++ [(e, digest256 (x.digest ++ record))] }

theorem State.advanceShard_shard {s : State} {slot : Nat} {x : Shard} (e : Nat) (record : List Byte) (hx : s.shard? slot = some x) :
    (s.advanceShard slot e record).shard? slot = some (x.advance e record) := by
  have hwrites : Eff 1099511628296 (s.updShard slot (Shard.advance e record)) (s.advanceShard slot e record) :=
    (State.mirrorShard_eff ..).step rfl ((State.wr_eff ..).mono rfl)
  rw [State.shard?, show (s.advanceShard slot e record).shards = _ from hwrites.same .shards rfl, ← State.shard?, State.shard?_updShard_same, hx,
    Option.map_some]

/-- The mirror of a shard writes SLO_SIDE of its slot, and no other register. -/
theorem State.mirrorShard_reg {s : State} (hw : Registers.wf s.regs = true) {slot k : Nat} (hk : k ≠ regKey .array R.sloSideSec0.off slot) :
    Registers.wf (s.mirrorShard slot).regs = true ∧ (s.mirrorShard slot).reg k = s.reg k := by
  have hside : ∀ {f : Fld} {sec : Nat}, [R.sloSideSec0, R.sloSideSec1, R.sloSideSec2, R.sloSideSec3][sec]? = some f →
      k ≠ regKey f.kind f.off slot := by
    intro f sec hf
    have hmem := List.mem_of_getElem? hf
    simp only [List.mem_cons, List.not_mem_nil, or_false] at hmem
    rcases hmem with rfl | rfl | rfl | rfl <;> exact hk
  unfold State.mirrorShard
  split
  · exact ⟨hw, rfl⟩
  split
  · exact ⟨hw, rfl⟩
  extract_lets sides
  refine List.foldlRecOn (motive := fun t : State => Registers.wf t.regs = true ∧ t.reg k = s.reg k) _ _ ⟨hw, rfl⟩ fun t ht sec _ => ?_
  obtain ⟨htw, htk⟩ := ht
  split
  · rename_i f _ hf
    exact ⟨State.wr_regs_wf htw .., (State.reg_wr_ne htw f _ _ (hside hf)).trans htk⟩
  · exact ⟨htw, htk⟩

/-- The fields of SLO_SHARD once its epoch advances. -/
theorem State.advanceShard_rd {s : State} (hw : Registers.wf s.regs = true) (slot e : Nat) (record : List Byte) :
    Registers.wf (s.advanceShard slot e record).regs = true ∧ (s.advanceShard slot e record).rd R.sloShardEpoch slot = e % 2 ^ 32 ∧
      (s.advanceShard slot e record).rd R.sloShardState slot = s.rd R.sloShardState slot := by
  unfold State.advanceShard
  extract_lets u
  have huw : Registers.wf u.regs = true := hw
  obtain ⟨hmw, hmk⟩ := State.mirrorShard_reg (s := u.wr R.sloShardEpoch slot e) (State.wr_regs_wf huw ..) (slot := slot)
    (k := regKey .array R.sloShardEpoch.off slot) (by
      have hepoch : regKey .array R.sloShardEpoch.off slot = 0xC00010 + 8 * slot := rfl
      have hsides : regKey .array R.sloSideSec0.off slot = 0xC00020 + 8 * slot := rfl
      omega)
  refine ⟨hmw, ?_, ?_⟩
  · exact (congrArg (fun r : Reg64 => bitsOf r.toNat 31 0) hmk).trans (State.rd_wr_same huw R.sloShardEpoch slot e (by decide))
  · exact (congrArg (fun r : Reg64 => bitsOf r.toNat 47 46) hmk).trans
      (State.rd_wr_apart huw R.sloShardEpoch R.sloShardState slot slot e (by decide) rfl (by decide))

section
variable {s : State} {slot : Nat} {x : Shard} (hx : s.shard? slot = some x) (hne : x.changes ≠ []) (hreqs : s.host.reqs = [])
  (hstate : s.rd R.sloShardState slot = 2) (hlast : x.lastPublish = 0)

include hx hne hreqs hstate hlast

/-- A publish of a shard that serves, with no request in flight. -/
theorem State.publish_publishes : ∃ u, Eff 1099511759360 s u ∧ 
      u.shard? slot = some (x.publishAll ((s.rd R.sloShardEpoch slot + 1) % 2 ^ 32) s.now) ∧
      s.publish slot = u.advanceShard slot ((s.rd R.sloShardEpoch slot + 1) % 2 ^ 32) (changeRecord (s.rd R.sloShardShard slot) x.changes) := by
  have hgo : ¬(x.changes.isEmpty ∨ (s.host.reqs.any fun r => !r.ended && !r.ran && (r.opcode = 0x18 || r.opcode = 0x19) && r.inl 0 1 = slot) ∨
      s.rd R.sloShardState slot ≠ 2 ∨ (x.lastPublish ≠ 0 ∧ s.now < x.lastPublish + 1000000 * s.rd R.sloCtlPublishMs 0)) := by
    simp [hne, hreqs, hstate, hlast]
  unfold State.publish
  rw [hx]
  dsimp -zeta only
  extract_lets comes e v u
  rw [if_neg hgo]
  have hv : Eff 1099511759360 s v := Eff.foldl (fun s c => State.publishOne_eff s slot e c) (Eff.refl ..)
  have hvx : v.shard? slot = some (x.changes.foldl (Shard.publish e) x) := State.publishAll_shard _ hx
  have hu : Eff 1099511759360 s u := (State.updShard_eff ..).step rfl hv
  have hrd : u.rd R.sloShardShard slot = s.rd R.sloShardShard slot := by rw [State.rd_congr (hu.same .regs rfl)]
  have hnow : v.now = s.now := hv.same .now rfl
  have hux : u.shard? slot = some (x.publishAll e s.now) := by
    rw [State.shard?_updShard_same, hvx, Option.map_some, hnow, Shard.publishAll]
  refine ⟨u, hu, hux, ?_⟩
  rw [hrd]
  have hadv := State.advanceShard_shard e (changeRecord (s.rd R.sloShardShard slot) x.changes) hux
  have heff := u.advanceShard_eff slot e (changeRecord (s.rd R.sloShardShard slot) x.changes)
  generalize u.advanceShard slot e (changeRecord (s.rd R.sloShardShard slot) x.changes) = t at hadv heff
  have hnone : t.reqKeys = [] := by
    rw [State.reqKeys, show t.host = u.host from heff.same .host rfl, show u.host = s.host from hu.same .host rfl, hreqs, List.map_nil]
  exact State.indexSettle_waits hadv fun k hk => absurd (hnone ▸ hk) List.not_mem_nil

end

end Sys2Proof.Machine
end

section
/-! Changes of an index: each command by the lemma on its operation. -/

namespace Sys2Proof.Machine

theorem exec_opIndexInsert (c q : Nat) (s : State) : exec (.opIndexInsert c q) s = .next (s.indexChange (c, q) 0x18) := rfl
theorem exec_opIndexDelete (c q : Nat) (s : State) : exec (.opIndexDelete c q) s = .next (s.indexChange (c, q) 0x19) := rfl
theorem exec_indexPublish (slot : Nat) (s : State) : exec (.indexPublish slot) s = .next (s.publish slot) := rfl

end Sys2Proof.Machine

open Sys2Proof.Machine

/-- Settles O44: a change that is accepted waits, as its request has a change of its own that waits (`State.indexSettle_waits`), and the publish takes the
changes in their order (`State.publishAll_shard`). -/
theorem indexCommandsComplete : Obligations.IndexCommandsComplete := by
  refine ⟨?insert, ?rejected, ?delete, ?publish, ?record⟩
  case insert =>
    intro s c q r x x' hs h hreqs hran hx hj hne hchange hdev hats hgens
    exact ⟨_, exec_opIndexInsert .., State.indexInsert_waits h hreqs hran hx hchange h.2.1 hj hne hdev hats hgens⟩
  case rejected =>
    intro s c q st r x h hran hx hj
    exact ⟨_, exec_opIndexInsert .., State.indexChange_rejected h hran hx h.2.1 hj⟩
  case delete =>
    intro s c q r x x' h hreqs hran hx hj hchange hreads hnone
    have hgens : ((s.readUnits hubMaster (x.changeReads r)).1.readUnits hubMaster (x'.gensRead (c, q))).2 = 0 := by rw [hnone]; rfl
    refine ⟨_, (exec_opIndexDelete ..).trans (congrArg _ (State.indexDelete_waits h hreqs hran hx hchange hj hreads hnone)), s.indexTaken_shard .., ?_, ?_⟩
    · rw [State.indexTaken_host hreads hgens]
      rfl
    · exact (State.indexTaken_eff hreads hgens).same .cells rfl
  case publish =>
    intro s slot x hw _ hx hne hreqs hstate hlast
    obtain ⟨u, hu, hux, heq⟩ := State.publish_publishes hx hne hreqs hstate hlast
    have huw : Registers.wf u.regs = true := hu.regs hw
    have hadv := u.advanceShard_eff slot ((s.rd R.sloShardEpoch slot + 1) % 2 ^ 32) (changeRecord (s.rd R.sloShardShard slot) x.changes)
    refine ⟨_, (exec_indexPublish ..).trans (congrArg _ heq), ?_, ⟨_, State.advanceShard_shard _ _ hux, rfl, rfl, ?_⟩, ?_, ?_⟩
    · rw [(State.advanceShard_rd huw ..).2.1, Nat.mod_mod]
    · rw [Shard.advance, Shard.publishAll_digest]
    · exact Eq.trans (hadv.same .host rfl) (hu.same .host rfl)
    · exact Eq.trans (hadv.same .clusters rfl) (hu.same .clusters rfl)
  case record =>
    intro s slot x y d _ hx hchanges hdel hy hreqs hstate hlast
    obtain ⟨u, hu, hux, heq⟩ := State.publish_publishes hx (by simp [hchanges]) hreqs hstate hlast
    have hsec : (x.publishAll ((s.rd R.sloShardEpoch slot + 1) % 2 ^ 32) s.now).sections[d.sec]? =
        some (y.publish ((s.rd R.sloShardEpoch slot + 1) % 2 ^ 32) d) := by
      rw [Shard.publishAll, hchanges, List.foldl_cons, List.foldl_nil, Shard.publish, Shard.getElem?_updSec, hy, Option.map_some, if_pos rfl]
    exact ⟨_, (exec_indexPublish ..).trans (congrArg _ heq), _, _, State.advanceShard_shard _ _ hux, hsec, by simp [Section.publish, hdel]⟩

end

section
/-! Merges (R116, R128): the snapshot of an index merge, the end of its build, its commit, and the drain of what only pinned queries needed. -/

namespace Sys2Proof.Machine

/-- A request that is held is live. -/
theorem State.Holds.live {s : State} {k : ReqKey} {op : Nat} {r : Req} (h : s.Holds k op r) : s.live k = true := by
  obtain ⟨hq, -, he, -⟩ := h
  simp [State.live, hq, he]

/-- What a merge builds from the snapshot at epoch `e0`, before its build is done. -/
def Shard.snapshot (x : Shard) (k : ReqKey) (e0 : Nat) (reclaim : Bool) : Merge :=
  ⟨k.1, k.2, e0, reclaim, false, x.sections.mapIdx (x.stage e0 reclaim)⟩

/-- A shard with its merge begun. -/
def Shard.beginMerge (k : ReqKey) (e0 : Nat) (reclaim : Bool) (x : Shard) : Shard := { x with merge := some (x.snapshot k e0 reclaim) }

/-- A merge of a shard that serves and has room takes its snapshot. -/
theorem State.indexMerge_begins {s : State} {k : ReqKey} {r : Req} {x : Shard} (h : s.Holds k 0x1A r) (hran : r.ran = false)
    (hx : s.shard? (r.inl 0 1) = some x) (hnone : x.merge = none) (hstate : s.rd R.sloShardState (r.inl 0 1) = 2)
    (hroom : ∀ y ∈ x.sections, s.sectionRoom x (s.shardBits (r.inl 0 1)) y (y.nodesAfter (s.rd R.sloShardEpoch (r.inl 0 1))) = true) :
    s.indexMerge k =
      (s.updShard (r.inl 0 1) (Shard.beginMerge k (s.rd R.sloShardEpoch (r.inl 0 1)) (bitOf (r.inl 1 1) 0))).updReq k fun r => { r with ran := true } := by
  have hall : (x.sections.all fun y => s.sectionRoom x (s.shardBits (r.inl 0 1)) y (y.nodesAfter (s.rd R.sloShardEpoch (r.inl 0 1)))) = true :=
    List.all_eq_true.2 hroom
  unfold State.indexMerge
  rw [State.onReq_holds h]
  simp only [hran, hx, hnone, hstate, hall, filterMap_range_getElem?, Option.isSome_none, Bool.false_eq_true, ne_eq, not_true_eq_false, or_self,
    Bool.not_true, if_false]
  rfl

/-- The list of what is committed to the sections holds the staged content of each, where it is as long as they are. -/
theorem filterMap_range_staged {α β : Type} {ys : List α} {gs : List β} (h : gs.length = ys.length) :
    ((List.range ys.length).filterMap fun i => (ys[i]?).bind fun y => (gs[i]?).map fun g => (i, y, g)).map (fun e => e.2.2) = gs := by
  have hplace : ((List.range gs.length).filterMap fun i => ((ys[i]?).bind fun y => (gs[i]?).map fun g => (i, y, g)).map fun e => e.2.2) =
      (List.range gs.length).filterMap fun i => (gs[i]?).map id := by
    refine List.filterMap_congr fun i hi => ?_
    have hi := List.mem_range.1 hi
    simp [List.getElem?_eq_getElem hi, List.getElem?_eq_getElem (h ▸ hi)]
  rw [List.map_filterMap, ← h, hplace, filterMap_range_getElem? fun _ => id]
  exact List.ext_getElem? fun i => by simp

/-- A section's commit leaves a shard at its slot. -/
theorem State.commitSection_shard {s : State} {slot sec e : Nat} {x z : Shard} {y : Section} {g : Staged} (hz : s.shard? slot = some z) :
    ∃ z', (s.commitSection slot sec e x y g).shard? slot = some z' := by
  unfold State.commitSection
  extract_lets bits u v y' w t
  have hu : Eff 1099511628288 s u := by
    refine Eff.foldl (fun s r => ?_) (Eff.refl ..)
    exact (State.writeDev_eff ..).step rfl (State.writeDev_eff ..)
  have hv : Eff 1099511628288 s v := by
    refine Eff.foldl (fun s l => ?_) hu
    exact State.writeDev_eff ..
  have hvz : v.shard? slot = some z := (congrArg (fun l => aget l slot) (hv.same .shards rfl)).trans hz
  have hwz : w.shard? slot = some (z.updSec sec fun _ => y') := by rw [State.shard?_updShard_same, hvz, Option.map_some]
  have ht : Eff 1099511628288 w t := State.mirrorSide_eff ..
  have hkeeps : ∀ {t' : State}, Eff 1099511628288 w t' → ∃ z', t'.shard? slot = some z' := fun ht' =>
    ⟨_, (congrArg (fun l => aget l slot) (ht'.same .shards rfl)).trans hwz⟩
  clear_value t
  split
  · exact hkeeps ht
  · exact hkeeps ((State.writeDev_eff ..).step rfl ht)

/-- The sections' commits in their order. -/
theorem State.commitSections_shard {s : State} {slot e : Nat} {x z : Shard} (gs : List (Nat × Section × Staged)) (hz : s.shard? slot = some z) :
    ∃ z', (gs.foldl (fun s g => s.commitSection slot g.1 e x g.2.1 g.2.2) s).shard? slot = some z' := by
  induction gs generalizing s z with
  | nil => exact ⟨z, hz⟩
  | cons g gs ih =>
    obtain ⟨z', hz'⟩ := State.commitSection_shard (sec := g.1) (e := e) (x := x) (y := g.2.1) (g := g.2.2) hz
    exact ih hz'

section
variable {s : State} {slot : Nat} {x : Shard} {m : Merge} (hx : s.shard? slot = some x) (hm : x.merge = some m)

include hx hm

theorem State.buildDone_shard : (s.buildDone slot).shard? slot = some { x with merge := some { m with built := true } } := by
  rw [State.buildDone, State.shard?_updShard_same, hx, Option.map_some, hm, Option.map_some]

/-- While queries pin the shard, a merge that is built waits and the shard admits no walks. -/
theorem State.mergeCommit_pinned (hb : m.built = true) (hp : x.pins ≠ []) (hl : s.live (m.client, m.req) = true) :
    s.mergeCommit slot = s.wr R.sloShardState slot 3 := by
  unfold State.mergeCommit
  simp [hx, hm, hb, hl, hp]

/-- Once no query pins the shard, a merge that is built commits: the sections change, the shard serves at the next epoch, and the request ends. -/
theorem State.mergeCommit_commits (hw : Registers.wf s.regs = true) (hb : m.built = true) (hp : x.pins = []) (hlen : m.staged.length = x.sections.length)
    (hl : s.live (m.client, m.req) = true) :
    ∃ u z, Eff 1099511759368 s u ∧ u.shard? slot = some z ∧ z.merge = none ∧ Registers.wf u.regs = true ∧
      u.rd R.sloShardEpoch slot = (s.rd R.sloShardEpoch slot + 1) % 2 ^ 32 ∧ u.rd R.sloShardState slot = 2 ∧
      s.mergeCommit slot = u.endReq (m.client, m.req) stOk ((s.rd R.sloShardEpoch slot + 1) % 2 ^ 32)
        ((m.staged.map fun g => g.absorbed.length).foldl (· + ·) 0) := by
  have hcommit : s.mergeCommit slot = s.commitMerge slot x m := by
    unfold State.mergeCommit
    simp [hx, hm, hb, hl, hp]
  rw [hcommit]
  unfold State.commitMerge
  extract_lets e gs n u v
  have hu : Eff 1099511759360 s u := by
    refine Eff.foldl (fun s g => ?_) (Eff.refl ..)
    exact State.commitSection_eff ..
  obtain ⟨z, hz⟩ : ∃ z, u.shard? slot = some z := State.commitSections_shard gs hx
  have hv : Eff 1099511759368 s v := (State.wr_eff ..).step rfl ((State.updShard_eff ..).step rfl (hu.mono rfl))
  have huw : Registers.wf (u.updShard slot fun x => { x with merge := none }).regs = true := hu.regs hw
  have hvz : v.shard? slot = some { z with merge := none } := by
    show (u.updShard slot fun x => { x with merge := none }).shard? slot = _
    rw [State.shard?_updShard_same, hz, Option.map_some]
  have hvs : v.rd R.sloShardState slot = 2 := State.rd_wr_same huw R.sloShardState slot 2 (by decide)
  have hn : n = (m.staged.map fun g => g.absorbed.length).foldl (· + ·) 0 := by
    have hgs : gs.map (fun e => e.2.2) = m.staged := filterMap_range_staged hlen
    rw [← hgs, List.map_map]
    rfl
  obtain ⟨htw, hte, hts⟩ := State.advanceShard_rd (hv.regs hw) slot e (leBytes 1 (b2n m.reclaim) ++ digest256 (gs.flatMap fun g => g.2.2.bytes))
  rw [hn]
  exact ⟨_, _, (State.advanceShard_eff ..).step rfl hv, State.advanceShard_shard _ _ hvz, rfl, htw, hte.trans (Nat.mod_mod ..), hts.trans hvs, rfl⟩

end

/-- The end of a request leaves the registers of its shard. -/
theorem State.endReq_rd_shard {s : State} {k : ReqKey} {op st slot : Nat} {r : Req} (h : s.Holds k op r) (hst : st < 16)
    (hw : Registers.wf s.regs = true) (hslot : slot < 2) (n d : Nat) :
    (s.endReq k st n d).rd R.sloShardEpoch slot = s.rd R.sloShardEpoch slot ∧ (s.endReq k st n d).rd R.sloShardState slot = s.rd R.sloShardState slot := by
  have hkey : 0xC00010 + 8 * slot < 0xC10000 ∧ 0xC00010 + 8 * slot ∉ laneKeys := by
    revert slot
    decide
  have hreg := (State.endReq_lowRegs h hst n d).reg hw _ hkey.1 hkey.2
  exact ⟨congrArg (fun r : Reg64 => bitsOf r.toNat 31 0) hreg, congrArg (fun r : Reg64 => bitsOf r.toNat 47 46) hreg⟩

/-- The end of a request leaves the merge of every shard. -/
theorem State.endReq_merge {s : State} {k : ReqKey} {op st slot : Nat} {r : Req} {x : Shard} (h : s.Holds k op r) (hst : st < 16)
    (hx : s.shard? slot = some x) (n d : Nat) : ∃ y, (s.endReq k st n d).shard? slot = some y ∧ y.merge = x.merge := by
  refine ⟨x.forget k, ?_, Shard.forget_merge k x⟩
  rw [State.shard?, State.endReq_shards h hst, aget_map_val, ← State.shard?, hx, Option.map_some]

/-- What is left of a shard that no query pins, at epoch `now`: no entry of a delete log, no record that a merge has absorbed, no digest and no mark of
reuse of an earlier epoch. -/
theorem State.pinDrain_unpinned {s : State} {slot : Nat} {x : Shard} (hx : s.shard? slot = some x) (hp : x.pins = []) :
    ∃ y, (s.pinDrain slot).shard? slot = some y ∧ (∀ z ∈ y.sections, z.delLog = []) ∧
      y.digests = x.digests.filter fun d => d.1 = s.rd R.sloShardEpoch slot := by
  unfold State.pinDrain
  rw [hx]
  dsimp -zeta only
  extract_lets before now sec u gone v
  have hbefore : ∀ e, before e = false := fun e => by simp [before, hp]
  have hv : Eff 1099511628288 u v := by
    refine Eff.foldl (fun s i => ?_) (Eff.refl ..)
    split
    · extract_lets w
      have hw : Eff 1099511628288 s w := by
        refine Eff.foldl (fun s e => ?_) (Eff.refl ..)
        exact State.logRemove_eff ..
      exact Eff.ite hw ((State.mirrorSide_eff ..).step rfl hw)
    · exact Eff.refl ..
  have heff : Eff 1099511628296 u (v.mirrorShard slot) := (State.mirrorShard_eff ..).step rfl (hv.mono rfl)
  refine ⟨_, (congrArg (fun l => aget l slot) (heff.same .shards rfl)).trans ((State.shard?_updShard_same ..).trans (by rw [hx]; rfl)), ?_, ?_⟩
  · intro z hz
    obtain ⟨y, -, rfl⟩ := List.mem_map.1 hz
    exact List.filter_eq_nil_iff.2 fun e _ => by simp [hbefore]
  · simp [hp, now]

end Sys2Proof.Machine
end

section
/-! Merges: each command by the lemma on its operation. -/

namespace Sys2Proof.Machine

theorem exec_opIndexMerge (c q : Nat) (s : State) : exec (.opIndexMerge c q) s = .next (s.indexMerge (c, q)) := rfl
theorem exec_mergeBuildDone (slot : Nat) (s : State) : exec (.mergeBuildDone slot) s = .next (s.buildDone slot) := rfl
theorem exec_mergeCommit (slot : Nat) (s : State) : exec (.mergeCommit slot) s = .next (s.mergeCommit slot) := rfl
theorem exec_indexPinDrain (slot : Nat) (s : State) : exec (.indexPinDrain slot) s = .next (s.pinDrain slot) := rfl

end Sys2Proof.Machine

open Sys2Proof.Machine

/-- Settles O45: the content of a merge is staged when its snapshot is taken (DESIGN CHOICE, log entry 73), so the commit copies what the merge holds; the end
of its request leaves the shard's registers, as their keys lie below those of the agent memory that it frees. -/
theorem mergeCommandsComplete : Obligations.MergeCommandsComplete := by
  refine ⟨?snapshot, ?built, ?commits, ?waits, ?drain⟩
  case snapshot =>
    intro s c q r x h hran hx hnone hstate hroom
    refine ⟨_, (exec_opIndexMerge ..).trans (congrArg _ (State.indexMerge_begins h hran hx hnone hstate hroom)),
      ⟨x.snapshot (c, q) (s.rd R.sloShardEpoch (r.inl 0 1)) (bitOf (r.inl 1 1) 0), ?_, rfl, rfl, rfl, rfl, rfl, fun i y hy => ?_⟩, rfl, rfl, rfl⟩
    · show (s.updShard _ (Shard.beginMerge _ _ _)).shard? _ = _
      rw [State.shard?_updShard_same, hx, Option.map_some, Shard.beginMerge]
    · rw [Shard.snapshot, List.getElem?_mapIdx, hy, Option.map_some]
  case built =>
    intro s slot x m hx hm
    exact ⟨_, exec_mergeBuildDone .., State.buildDone_shard hx hm, rfl, rfl, rfl, rfl, rfl, rfl⟩
  case commits =>
    intro s slot r x m hw hslot hx hm hb hp hlen h
    obtain ⟨u, z, hu, hz, hzm, huw, hepoch, hstate, heq⟩ := State.mergeCommit_commits hx hm hw hb hp hlen h.live
    have hhost : u.host = s.host := hu.same .host rfl
    have hst : stOk < 16 := by decide
    have h' := h.of_host hhost
    obtain ⟨he, hs⟩ := State.endReq_rd_shard h' hst huw hslot ((s.rd R.sloShardEpoch slot + 1) % 2 ^ 32)
      ((m.staged.map fun g => g.absorbed.length).foldl (· + ·) 0)
    obtain ⟨y, hy, hym⟩ := State.endReq_merge h' hst hz ((s.rd R.sloShardEpoch slot + 1) % 2 ^ 32)
      ((m.staged.map fun g => g.absorbed.length).foldl (· + ·) 0)
    exact ⟨_, (exec_mergeCommit ..).trans (congrArg _ heq), (State.endReq_ends h' ..).of_cq (congrArg _ hhost), he.trans hepoch, hs.trans hstate,
      ⟨y, hy, hym.trans hzm⟩, Eq.trans ((State.endReq_eff ..).same .clusters rfl) (hu.same .clusters rfl)⟩
  case waits =>
    intro s slot x m hw hx hm hb hp hl
    exact ⟨_, (exec_mergeCommit ..).trans (congrArg _ (State.mergeCommit_pinned hx hm hb hp hl)),
      State.rd_wr_same hw R.sloShardState slot 3 (by decide), rfl, rfl, rfl, rfl, rfl, rfl⟩
  case drain =>
    intro s slot x hx hp _
    have heff := s.pinDrain_eff slot
    exact ⟨_, exec_indexPinDrain .., State.pinDrain_unpinned hx hp, heff.same .host rfl, heff.same .clusters rfl⟩

end

section
/-! The order of ranked selections (R133, R134): valid keys are ordered as the extended reals they stand for, and equal ones by their identifiers. -/

namespace Sys2Proof.Machine

/-- The extended real that a number stands for; a NaN stands for none, and 0 is put for it. -/
noncomputable def Num.toEReal (x : Num) : EReal :=
  match x with
  | .nan => 0
  | .inf true => ⊥
  | .inf false => ⊤
  | .fin n m e => (((if n then -(m : ℝ) else m) * 2 ^ e : ℝ) : EReal)

/-- A magnitude brought to a lower power of two keeps its value. -/
theorem shl_mul_zpow {m : Nat} {e l : Int} (h : l ≤ e) : (shl m (e - l) : ℝ) * 2 ^ l = m * 2 ^ e := by
  have hpow : (2 : ℝ) ^ (e - l).toNat = 2 ^ (e - l) := by rw [← zpow_natCast, Int.toNat_of_nonneg (Int.sub_nonneg.2 h)]
  rw [shl, Nat.cast_mul, Nat.cast_pow, Nat.cast_ofNat, hpow, mul_assoc, ← zpow_add₀ two_ne_zero, Int.sub_add_cancel]

/-- Finite numbers are compared by their values. -/
theorem Num.lt_fin (n k : Bool) (m p : Nat) (e f : Int) :
    (Num.fin n m e).lt (.fin k p f) = true ↔ (if n then -(m : ℝ) else m) * 2 ^ e < (if k then -(p : ℝ) else p) * 2 ^ f := by
  have hvalue : ∀ (n : Bool) (m : Nat) {e l : Int}, l ≤ e →
      (((if n then -(shl m (e - l) : Int) else shl m (e - l)) : Int) : ℝ) * 2 ^ l = (if n then -(m : ℝ) else m) * 2 ^ e := by
    intro n m e l h
    cases n <;> simp [← shl_mul_zpow h]
  rw [← hvalue n m (min_le_left e f), ← hvalue k p (min_le_right e f), mul_lt_mul_iff_left₀ (zpow_pos two_pos _), Int.cast_lt]
  exact decide_eq_true_iff

/-- The comparison of R85 is that of the extended reals. -/
theorem Num.lt_iff {a b : Num} (ha : a ≠ .nan) (hb : b ≠ .nan) : a.lt b = true ↔ a.toEReal < b.toEReal := by
  match a, b with
  | .nan, _ => exact absurd rfl ha
  | _, .nan => exact absurd rfl hb
  | .inf n, .inf k => cases n <;> cases k <;> simp [Num.lt, Num.toEReal]
  | .inf n, .fin .. => cases n <;> simp [Num.lt, Num.toEReal, EReal.bot_lt_coe]
  | .fin .., .inf k => cases k <;> simp [Num.lt, Num.toEReal, EReal.coe_lt_top]
  | .fin .., .fin .. => rw [Num.lt_fin, Num.toEReal, Num.toEReal, EReal.coe_lt_coe_iff]

theorem Num.eqRank_iff {a b : Num} (ha : a ≠ .nan) (hb : b ≠ .nan) : a.eqRank b = true ↔ a.toEReal = b.toEReal := by
  have hlt : ∀ {x y : Num}, x ≠ .nan → y ≠ .nan → (x.lt y = false ↔ y.toEReal ≤ x.toEReal) := fun hx hy => by
    rw [← not_lt, ← Num.lt_iff hx hy, Bool.not_eq_true]
  simp [Num.eqRank, ha, hb, hlt ha hb, hlt hb ha, le_antisymm_iff (α := EReal), and_comm]

/-- Where an entry stands in a ranked selection: lower places are better. -/
noncomputable def rankPlace (desc : Bool) (a : Num) (i : Nat) : EReal ×ₗ ℕ := toLex (if desc then -a.toEReal else a.toEReal, i)

/-- One entry ranks above another where its place is lower. -/
theorem rankAbove_iff {a b : Num} (ha : a ≠ .nan) (hb : b ≠ .nan) (desc : Bool) (i j : Nat) :
    rankAbove desc a b i j = true ↔ rankPlace desc a i < rankPlace desc b j := by
  cases desc <;> simp [rankAbove, rankPlace, Prod.Lex.toLex_lt_toLex, Num.lt_iff, Num.eqRank_iff, ha, hb]

theorem rankAbove_eq_false_iff {a b : Num} (ha : a ≠ .nan) (hb : b ≠ .nan) (desc : Bool) (i j : Nat) :
    rankAbove desc a b i j = false ↔ rankPlace desc b j ≤ rankPlace desc a i := by
  rw [← not_lt, ← rankAbove_iff ha hb, Bool.not_eq_true]

/-- Entries of different identifiers have different places. -/
theorem rankPlace_ne (desc : Bool) (a b : Num) {i j : Nat} (h : i ≠ j) : rankPlace desc a i ≠ rankPlace desc b j :=
  fun heq => h (congrArg Prod.snd (toLex.injective heq))

end Sys2Proof.Machine

open Sys2Proof.Machine

/-- Settles O10: an entry ranks above another where its place is lower (`rankAbove_iff`), and places are linearly ordered. -/
theorem rankingIsATotalOrder : Obligations.RankingIsATotalOrder := by
  refine ⟨?total, ?transitive, ?byKey, ?zeros⟩
  case total =>
    intro desc a b i j ha hb hij
    rw [Bool.eq_iff_iff, Bool.not_eq_true', rankAbove_iff ha hb, rankAbove_eq_false_iff hb ha]
    exact ⟨le_of_lt, fun h => h.lt_of_ne (rankPlace_ne desc a b hij)⟩
  case transitive =>
    intro desc a b c i j k ha hb hc hab hbc
    rw [rankAbove_iff ha hb] at hab
    rw [rankAbove_iff hb hc] at hbc
    exact (rankAbove_iff ha hc ..).2 (hab.trans hbc)
  case byKey =>
    intro desc a b i j h
    have ha : a ≠ .nan := by rintro rfl; cases h
    have hb : b ≠ .nan := by rintro rfl; cases a <;> cases h
    have hlt := (Num.lt_iff ha hb).1 h
    have hba : b.lt a = false := by rw [← Bool.not_eq_true, Num.lt_iff hb ha]; exact hlt.asymm
    cases desc <;> simp [rankAbove, Num.eqRank, h, hba]
  case zeros =>
    intro desc e i j hij
    have hzero : ∀ n k, (Num.fin n 0 e).lt (.fin k 0 e) = false := fun n k => by
      rw [← Bool.not_eq_true, Num.lt_fin]
      cases n <;> cases k <;> simp
    cases desc <;> simp [rankAbove, Num.eqRank, hzero, hij]

end

section
/-! Selections and rank lists (R135, R150): the sort they are cut from, its order, and the slots after it. -/

namespace Sys2Proof.Machine

/-- `sortBy` is the library's insertion sort by "does not come after". -/
theorem sortBy_eq_insertionSort {α : Type} (before : α → α → Bool) (l : List α) :
    sortBy before l = l.insertionSort fun x y => before y x = false := by
  have hinsert : ∀ (x : α) (l : List α), insertBy before x l = l.orderedInsert (fun x y => before y x = false) x := by
    intro x l
    induction l with
    | nil => rfl
    | cons y l ih => cases h : before y x <;> simp [insertBy, h, ih]
  induction l with
  | nil => rfl
  | cons x l ih => rw [sortBy, ih, hinsert, List.insertionSort_cons]

theorem sortBy_perm {α : Type} (before : α → α → Bool) (l : List α) : (sortBy before l).Perm l := by
  rw [sortBy_eq_insertionSort]
  exact List.perm_insertionSort ..

/-- Where the order of a list's elements is that of their places, the sorted list stands in order. -/
theorem sortBy_pairwise {α β : Type} [LinearOrder β] {before : α → α → Bool} {l : List α} (place : α → β)
    (h : ∀ x ∈ l, ∀ y ∈ l, before y x = false ↔ place x ≤ place y) : (sortBy before l).Pairwise fun x y => before y x = false := by
  have hmap : (sortBy before l).map place = (l.map place).insertionSort (· ≤ ·) := by
    rw [sortBy_eq_insertionSort]
    exact List.map_insertionSort _ _ place l h
  have hplaces : (sortBy before l).Pairwise fun x y => place x ≤ place y := by
    rw [← List.pairwise_map, hmap]
    exact List.pairwise_insertionSort ..
  have hmem : ∀ {x}, x ∈ sortBy before l → x ∈ l := (sortBy_perm before l).mem_iff.1
  exact hplaces.imp_of_mem fun hx hy hle => (h _ (hmem hx) _ (hmem hy)).2 hle

/-- The valid keys of a selection. -/
def validKeys (keys : List Key) : List Key := keys.filter fun x => decide (x.val ≠ .nan)

/-- The valid keys of a selection, best first. -/
def rankedKeys (desc : Bool) (keys : List Key) : List Key := sortBy (fun a b => rankAbove desc a.val b.val a.id b.id) (validKeys keys)

theorem selectKeys_eq (k : Nat) (desc : Bool) (keys : List Key) :
    selectKeys k desc keys = ((rankedKeys desc keys).take k, keys.length - (validKeys keys).length) := rfl

theorem rankedKeys_perm (desc : Bool) (keys : List Key) : (rankedKeys desc keys).Perm (validKeys keys) := sortBy_perm ..

theorem rankedKeys_pairwise (desc : Bool) (keys : List Key) :
    (rankedKeys desc keys).Pairwise fun x y => rankAbove desc y.val x.val y.id x.id = false := by
  have hvalid : ∀ {x}, x ∈ validKeys keys → x.val ≠ .nan := fun hx => of_decide_eq_true (List.mem_filter.1 hx).2
  exact sortBy_pairwise (fun x => rankPlace desc x.val x.id) fun x hx y hy => rankAbove_eq_false_iff (hvalid hy) (hvalid hx) ..

/-- Keys are valid or NaN. -/
theorem length_sub_validKeys (keys : List Key) : keys.length - (validKeys keys).length = (keys.filter fun x => decide (x.val = .nan)).length := by
  have hsplit := List.length_eq_length_filter_add (l := keys) fun x => decide (x.val ≠ .nan)
  simp only [decide_not, Bool.not_not] at hsplit
  simp only [validKeys, decide_not]
  omega

/-- The valid entries of a list, best first. -/
def rankedEntries (typ : Nat) (es : List Entry) : List Entry :=
  sortBy (fun a b => rankAbove true (a.key typ) (b.key typ) a.handle b.handle) (es.filter (Entry.ok typ))

theorem rankedEntries_perm (typ : Nat) (es : List Entry) : (rankedEntries typ es).Perm (es.filter (Entry.ok typ)) := sortBy_perm ..

/-- A rank list is its valid entries, cut to `k`, and empty slots. -/
theorem rankList_eq (typ k : Nat) (es : List Entry) :
    rankList typ k es = (rankedEntries typ es).take k ++ List.replicate (k - ((rankedEntries typ es).take k).length) (Entry.empty typ) := rfl

theorem length_take_rankedEntries (typ k : Nat) (es : List Entry) :
    ((rankedEntries typ es).take k).length = min k (es.filter (Entry.ok typ)).length := by
  rw [List.length_take, (rankedEntries_perm typ es).length_eq]

end Sys2Proof.Machine

open Sys2Proof.Machine

/-- Settles O11: the selected keys and those left out are the two parts of the ranked keys. -/
theorem selectionReturnsTheBest : Obligations.SelectionReturnsTheBest := by
  intro k desc keys
  have hranked := rankedKeys_pairwise desc keys
  rw [← List.take_append_drop k (rankedKeys desc keys)] at hranked
  obtain ⟨hselected, -, hbest⟩ := List.pairwise_append.1 hranked
  rw [selectKeys_eq]
  refine ⟨(rankedKeys desc keys).drop k, ?perm, ?length, hselected, hbest, length_sub_validKeys keys⟩
  case perm =>
    rw [List.take_append_drop]
    exact rankedKeys_perm desc keys
  case length =>
    rw [List.length_take, (rankedKeys_perm desc keys).length_eq]
    rfl

/-- Settles O12: a rank list is its valid entries, cut to `k`, and empty slots (`rankList_eq`). -/
theorem rankListFillsItsSlots : Obligations.RankListFillsItsSlots := by
  intro typ k es
  have hlen := length_take_rankedEntries typ k es
  rw [rankList_eq]
  refine ⟨?slots, fun i hi => ?valid, fun i hle hk => ?empty, rfl, rfl⟩
  case slots =>
    rw [List.length_append, List.length_replicate, hlen]
    omega
  case valid =>
    have hi' : i < ((rankedEntries typ es).take k).length := hlen ▸ hi
    have hmem := (rankedEntries_perm typ es).mem_iff.1 (List.mem_of_mem_take (List.getElem_mem hi'))
    rw [List.getElem?_append_left hi', List.getElem?_eq_getElem hi', Option.any_some]
    exact (List.mem_filter.1 hmem).2
  case empty =>
    rw [List.getElem?_append_right (by omega), List.getElem?_replicate, if_pos (by omega)]

end

section
/-! A client number past the 4,096 clients of R324 names registers that are not its own: the read of its question by OP_RERANK_MODEL takes the buffer out of
its USE. -/

namespace Sys2Proof.Machine

theorem exec_opRerankModel (c q : Nat) (s : State) : exec (.opRerankModel c q) s = .next (s.opRerankModel (c, q)) := rfl

/-- Its OP_RERANK_MODEL (opcode 6): a question of one token at device address 0, and a list of no entry. It has pinned weight set 0. -/
def aliasRerankReq : Req :=
  { freshReq aliasClient 5 0 [6] (leBytes 8 (2 ^ 63) ++ leBytes 4 1 ++ List.replicate 20 0) 0 none 0 0 with models := [0] }

/-- The weight set that it has pinned. -/
def aliasWeights : WeightSet where
  part := 0
  object := 0
  digest := []
  contextMax := 64
  vocab := 8
  dims := 2
  sketch := 8
  linMacs := 1
  attMacs := 1
  headMacs := 1
  weightBytes := 1
  stateBytes := 1
  cacheCap := 0
  cache := []
  cacheBase := 0
  cacheSlot := 0
  cold := []
  schedule := []
  current := true

/-- `aliasState`, whose client asks for a re-rank: the word of the question is zero but for an error in one symbol, and lies in partition 32, which the one
correction counted so far leaves in the client's USE. -/
def aliasRerankState : State :=
  { aliasState with host := { aliasState.host with reqs := [aliasRerankReq] }, weights := [(0, aliasWeights)] }

/-- The question and the passage addresses, as they are read. -/
def aliasRerankBufs : List (List Byte) := [List.replicate 4 0, []]

/-- The buffers are gathered after the correction of the question's word has been counted: the question is out of the client's USE by then, the request ends
with ST_CONTEXT_FAULT, and no rows are queued. -/
theorem aliasRerankState_opRerankModel : ((aliasRerankState.opRerankModel (aliasClient, 5)).part 0).queue = [] := by decide +kernel

end Sys2Proof.Machine

open Sys2Proof.Machine

/-- Refutes O50: its clause on OP_RERANK_MODEL leaves the client's number free and judges every read from the state before the first. `aliasClient` has
MEM_CHSTAT of channel 0 for its CFG_CUSE, so the first read of the question, which corrects a symbol there, changes its USE, and the read that gathers the
buffers is a bounds fault. -/
theorem not_rankingCommandsComplete : ¬ Obligations.RankingCommandsComplete := by
  unfold Obligations.RankingCommandsComplete
  rintro ⟨-, -, -, -, -, hrerank, -⟩
  obtain ⟨t, ht, hpart, -⟩ := hrerank aliasRerankState aliasClient 5 0 aliasRerankReq aliasWeights aliasRerankBufs [] aliasRerankBufs []
    (by decide +kernel) rfl rfl rfl (by decide +kernel) rfl (by decide +kernel) (by simp) (by decide +kernel) (by decide +kernel)
  rw [exec_opRerankModel, Host.Outcome.next.injEq] at ht
  have hqueue := congrArg Part.queue hpart
  rw [← ht, show aliasWeights.part = 0 from rfl, aliasRerankState_opRerankModel] at hqueue
  exact absurd hqueue.symm (List.append_ne_nil_of_right_ne_nil _ (List.cons_ne_nil _ _))

end

section
/-! A port number past the 16 ports of R267: a message that came in by it has the lanes of that port mirrored in a register that is none of the ports'. -/

namespace Sys2Proof.Machine

theorem exec_splitCommitAck (slot h : Nat) (s : State) : exec (.splitCommitAck slot h) s = .next (s.splitAck slot h) := rfl

/-- A commit of request 5 of client 1 that this module has staged and that holder 9 has not acknowledged. -/
def farPortCommit : TabCommit :=
  { client := 1, req := 5, staged := true, clipped := 0, residuals := [], rowsDigest := [], acks := [9], tf := none, remote := false }

/-- Its table: slice 0 of two, the other one at module 9. -/
def farPortTable : Table where
  object := 7
  part := 0
  bits := 8
  frac := 0
  rows := 4
  d := 2
  slice := 0
  slices := 2
  dflt := 0xFFFFFFFF
  stride := 16
  updatable := true
  tiered := false
  cur := 0
  home := 8
  codeA := 0x1000
  codeB := 0x2000
  acc := 0x3000
  mapBase := 0
  residBase := 0
  deltaBase := 0
  residCap := 0
  map := []
  resid := []
  residPoison := []
  delta := []
  updates := []
  digest := []
  digests := [(3, [])]
  commit := some farPortCommit
  pins := []
  flipped := []
  freedEpochs := []
  replacing := false
  missedTf := false
  hotCap := 0
  oldSlots := []

/-- The acknowledgement (3) of table slot 0 from module 9. -/
def farPortAck : FabMsg where
  dst := 0
  src := 9
  master := hubMaster
  act := 1
  vc := kindVc 4
  hops := 4
  seq := 0
  stream := 0
  kind := 4
  request := 5
  payload := workHead 1 3 3 1 :: workWords [0]
  poison := []

/-- The acknowledgement came in by input 17, which is port 16. That port's STATE reads UP, its LANES_TX reads 0. Module 9 is routed to by port 2, which is UP
too. -/
def farPortState : State :=
  let s := { State.reset with
    tables := [(0, farPortTable)]
    fab := { State.reset.fab with inbox := [(17, farPortAck)] } }
  ((s.wr R.optRouteC0 9 0x12).wr R.optPstatState 2 opUp).wr R.optPstatState 16 opUp

/-- OPT_PSTAT of port 16. -/
def farPortKey : Nat := regKey .window R.optPstatLanesTx.off 16

theorem farPortKey_not_mem_laneKeys : farPortKey ∉ laneKeys := by decide

/-- The words that the acknowledgement frees go back as credits through the port it came in by, and with them that port's lanes are mirrored. -/
theorem farPortState_splitAck_lanes : (farPortState.splitAck 0 9).reg farPortKey ≠ farPortState.reg farPortKey := by decide +kernel

end Sys2Proof.Machine

open Sys2Proof.Machine

/-- Refutes O46: its clause on SPLIT_COMMIT_ACK leaves the input free that the acknowledgement came in by. In `farPortState` that is port 16, which no
grade has (R267) and whose STATE reads UP: taking the message out of its receive buffer brings the port's LANES_TX up to date, in a register outside
`laneKeys`, which the statement claims unchanged. -/
theorem not_tableCommandsComplete : ¬ Obligations.TableCommandsComplete := by
  unfold Obligations.TableCommandsComplete
  rintro ⟨-, -, -, -, -, -, -, -, hack, -⟩
  obtain ⟨z, hz, -, -, hregs, -⟩ := hack farPortState 0 9 17 farPortTable farPortCommit farPortAck rfl rfl rfl (by decide) rfl rfl rfl
    (by decide +kernel) rfl rfl rfl (by decide) (by decide) (by decide)
  rw [exec_splitCommitAck, Host.Outcome.next.injEq] at hz
  subst hz
  exact farPortState_splitAck_lanes (hregs farPortKey farPortKey_not_mem_laneKeys)

end

section
/-! The engines of the hub (R189, R326): a task that starts on an engine, and a probe of a match that hits or misses. -/

namespace Sys2Proof.Machine

theorem exec_engineTaskDispatch (kind : EngKind) (p : Nat) (s : State) : exec (.engineTaskDispatch kind p) s = .next (s.dispatch kind p) := rfl
theorem exec_medlarProbeReturn (e : Nat) (bad : List (Nat × Nat)) (s : State) :
    exec (.medlarProbeReturn e bad) s = .next (s.probeReturn e bad) := rfl

/-! ### A task starts -/

theorem length_modFirst {α : Type} (p : α → Bool) (f : α → α) (l : List α) : (modFirst p f l).length = l.length := by
  induction l with
  | nil => rfl
  | cons a r ih =>
    simp only [modFirst]
    split
    · rfl
    · rw [List.length_cons, ih, List.length_cons]

theorem State.mem_tasks_of_waiting {s : State} {kind : EngKind} {p : Nat} {k : Task} (h : k ∈ s.waitingTasks kind p) : k ∈ s.tasks :=
  (List.mem_filter.1 ((sortBy_perm _ _).mem_iff.1 h)).1

theorem find?_eq_self {α : Type} [DecidableEq α] {l : List α} {x : α} (h : x ∈ l) : l.find? (fun y => y = x) = some x := by
  obtain ⟨y, hy⟩ := Option.isSome_iff_exists.1 ((List.find?_isSome (p := fun y => decide (y = x))).2 ⟨x, h, by simp⟩)
  rw [hy]
  simpa using List.find?_some hy

section
variable {s : State} {k : Task} {r : Req} (hr : s.req? (k.client, k.req) = some r) (hb : r.started = true ∨ s.boundary r = none)

/-- Task `k` on engine `e`: BUSY is set, and the work of its request has started. -/
def State.occupied (s : State) (k : Task) (e : Nat) : State :=
  ((s.putTasks (modFirst (fun x => x = k) (fun x => { x with engine := some e, startedAt := s.now }) s.tasks)).start (k.client, k.req)).setBusy k.kind e 1

include hr hb in
/-- Past its boundary the task starts (R451), and at most a match begins to wait with it (R189). -/
theorem State.startTask_eff_occupied (e : Nat) : Eff 268435456 (s.occupied k e) (s.startTask k e) := by
  have hpast : (if r.started then none else s.boundary r) = none := by
    rcases hb with h | h <;> simp [h]
  simp only [State.startTask, hr, hpast]
  exact Eff.ite (State.startMatch_eff ..) (Eff.refl ..)

theorem State.occupied_tasks (s : State) (k : Task) (e : Nat) :
    (s.occupied k e).tasks = modFirst (fun x => x = k) (fun x => { x with engine := some e, startedAt := s.now }) s.tasks :=
  (State.setBusy_eff ..).same .tasks (by decide)

theorem State.occupied_cq (s : State) (k : Task) (e : Nat) : (s.occupied k e).host.cq = s.host.cq := by
  have h : (s.occupied k e).host = _ := (State.setBusy_eff ..).same .host (by decide)
  rw [h]
  rfl

theorem State.occupied_mem (s : State) (k : Task) (e : Nat) : (s.occupied k e).mem = s.mem :=
  (State.setBusy_eff ..).mem (by decide) (by decide)

include hr hb in
/-- What the start of a task leaves: it is on its engine, and neither a completion entry nor LPDDR-6 is touched. -/
theorem State.startTask_starts (e : Nat) (hk : k ∈ s.tasks) :
    { k with engine := some e, startedAt := s.now } ∈ (s.startTask k e).tasks ∧ (s.startTask k e).tasks.length = s.tasks.length ∧
      (s.startTask k e).host.cq = s.host.cq ∧ (s.startTask k e).mem = s.mem := by
  have heff := State.startTask_eff_occupied hr hb e
  have htasks : (s.startTask k e).tasks = _ := (heff.same .tasks (by decide)).trans (s.occupied_tasks k e)
  have hhost : (s.startTask k e).host = (s.occupied k e).host := heff.same .host (by decide)
  rw [htasks, hhost]
  exact ⟨mem_modFirst _ s.tasks (find?_eq_self hk), length_modFirst .., s.occupied_cq k e,
    (heff.mem (by decide) (by decide)).trans (s.occupied_mem k e)⟩

end

/-- The first task that may run takes the first free engine. -/
theorem State.dispatch_first {s : State} {kind : EngKind} {p e : Nat} {k : Task} (hkind : kind ≠ .medlar) (hw : s.waitingTasks kind p = [k])
    (he : (s.engines kind p).find? (fun i => !s.engineBusy kind i) = some e) : s.dispatch kind p = s.startTask k e := by
  have hne : (s.engines kind p).isEmpty = false :=
    List.isEmpty_eq_false_iff.2 (List.ne_nil_of_mem (List.mem_of_find?_eq_some he))
  simp [State.dispatch, hkind, hw, he, hne]

/-! ### A probe returns -/

theorem State.tree_putTrees_same (s : State) (i : Nat) (x : MTree) : (s.putTrees (aput s.trees i x)).tree i = x := by
  simp [State.tree]

/-- The tree that a probe has read is put back as it was. -/
theorem State.tree_putTrees_self (s : State) (i j : Nat) : (s.putTrees (aput s.trees i (s.tree i))).tree j = s.tree j := by
  by_cases h : j = i
  · rw [h, State.tree_putTrees_same]
  · simp [State.tree, aget_aput_ne _ _ h]

theorem State.probe_congr {s t : State} (hr : t.regs = s.regs) {j : Nat} (ht : t.tree j = s.tree j) : t.probe j = s.probe j := by
  funext key
  unfold State.probe State.node
  rw [ht, State.rd_congr hr]

theorem State.node_congr {s t : State} (h : t.trees = s.trees) {j i : Nat} : t.node j i = s.node j i := by
  simp only [State.node, State.tree, h]

theorem State.setNode_node_same (s : State) {j : Nat} (i : Nat) (n : MNode) (h : swf MNode.empty (s.tree j).slots = true) :
    (s.setNode j i n).node j i = n := by
  rw [State.node, State.tree, show (s.setNode j i n).trees = _ from (State.wr_eff ..).same .trees (by decide)]
  simp [sget_sset_same _ _ h]

section
variable {s : State} {e : Nat} {m : MMatch} (hm : s.probes = [m]) (he : m.engine = some e) (hended : m.ended = false)

/-- The key of the next block of a match. -/
def MMatch.nextKey (m : MMatch) : Nat := blockKey m.key (blockTokens m.tokens m.block)

include hm he in
theorem State.updProbe_single {t : State} (ht : t.probes = s.probes) (f : MMatch → MMatch) : t.updProbe e f = t.putProbes [f m] := by
  simp [State.updProbe, ht, hm, he, modFirst]

/-- A match whose next block is at node `i`. -/
def MMatch.advanced (m : MMatch) (i : Nat) : MMatch :=
  { m with key := m.nextKey, block := m.block + 1, matched := m.matched ++ [i], ended := decide (m.tokens.length < 256 * (m.block + 2)) }

/-- A node with one more pin (R189). -/
def MNode.pinned (n : MNode) : MNode := { n with ref := n.ref + 1, used := true }

/-- The state with the tree of match `m` read and put back. -/
def State.probed (s : State) (m : MMatch) : State := s.putTrees (aput s.trees m.tree (s.tree m.tree))

theorem State.probed_probe (s : State) (m : MMatch) : (s.probed m).probe m.tree = s.probe m.tree :=
  State.probe_congr (State.putTrees_regs ..) (State.tree_putTrees_self ..)

theorem State.probed_node (s : State) (m : MMatch) (j i : Nat) : (s.probed m).node j i = s.node j i := by
  rw [State.node, State.probed, State.tree_putTrees_self, ← State.node]

/-- The state with node `i` of the tree pinned, and the hit counted. -/
def State.pinnedAt (s : State) (m : MMatch) (i : Nat) : State :=
  ((s.probed m).setNode m.tree i (s.node m.tree i).pinned).inc R.mdlTstatHitBlocks m.tree 1

theorem State.pinnedAt_eff (s : State) (m : MMatch) (i : Nat) : Eff 134217736 s (s.pinnedAt m i) :=
  (State.inc_eff ..).step (by decide) ((State.setNode_eff ..).step (by decide) ((State.putTrees_eff ..).mono (by decide)))

theorem State.pinnedAt_node (s : State) (m : MMatch) (i : Nat) (h : swf MNode.empty (s.tree m.tree).slots = true) :
    (s.pinnedAt m i).node m.tree i = (s.node m.tree i).pinned := by
  have hslots : swf MNode.empty ((s.probed m).tree m.tree).slots = true := by rwa [State.probed, State.tree_putTrees_self]
  rw [State.pinnedAt, State.node_congr (State.inc_trees ..), State.setNode_node_same _ i _ hslots]

include hm he hended

/-- A probe that hits pins the node (R189). -/
theorem State.probeReturn_hit {i : Nat} (h : (s.probe m.tree m.nextKey).hit = some i) :
    s.probeReturn e [] = (s.pinnedAt m i).putProbes [m.advanced i] := by
  have hprobes : (s.pinnedAt m i).probes = s.probes := (s.pinnedAt_eff m i).same .probes (by decide)
  rw [← State.probed_probe] at h
  simp only [State.probeReturn, hm, he, List.find?_cons, decide_true, hended, Bool.false_eq_true, if_false, List.foldl_nil]
  rw [← State.probed, ← MMatch.nextKey, h]
  dsimp only
  rw [State.probed_node, ← MNode.pinned, ← State.pinnedAt, State.updProbe_single hm he hprobes, MMatch.advanced]

/-- A probe that misses, and met no slot it could not read, ends the match (R189). -/
theorem State.probeReturn_miss (hhit : (s.probe m.tree m.nextKey).hit = none) (hdead : (s.probe m.tree m.nextKey).dead = none) :
    s.probeReturn e [] = (s.probed m).putProbes [{ m with ended := true }] := by
  have hprobes : (s.probed m).probes = s.probes := State.putTrees_probes ..
  rw [← State.probed_probe] at hhit hdead
  simp only [State.probeReturn, hm, he, List.find?_cons, decide_true, hended, Bool.false_eq_true, if_false, List.foldl_nil]
  rw [← State.probed, ← MMatch.nextKey, hhit, hdead]
  dsimp only
  rw [State.updProbe_single hm he hprobes, he]

/-- What a probe that hits leaves: the node with one more pin, the match at its next block, and all else but trees and registers. -/
theorem State.probeReturn_pins {i : Nat} (hwf : swf MNode.empty (s.tree m.tree).slots = true) (h : (s.probe m.tree m.nextKey).hit = some i) :
    (s.probeReturn e []).node m.tree i = (s.node m.tree i).pinned ∧ (s.probeReturn e []).probes = [m.advanced i] ∧
      (s.probeReturn e []).host = s.host ∧ (s.probeReturn e []).mem = s.mem ∧ (s.probeReturn e []).gens = s.gens := by
  have heff := s.pinnedAt_eff m i
  rw [State.probeReturn_hit hm he hended h]
  simp only [State.putProbes_probes, State.putProbes_host, State.putProbes_mem, State.putProbes_gens, true_and,
    State.node_congr (State.putProbes_trees ..)]
  exact ⟨s.pinnedAt_node m i hwf, heff.same .host (by decide), heff.mem (by decide) (by decide), heff.same .gens (by decide)⟩

/-- What a probe that misses leaves: the match has ended. -/
theorem State.probeReturn_ends (hhit : (s.probe m.tree m.nextKey).hit = none) (hdead : (s.probe m.tree m.nextKey).dead = none) :
    (s.probeReturn e []).probes = [{ m with ended := true }] ∧ (∀ j i, (s.probeReturn e []).node j i = s.node j i) ∧
      (s.probeReturn e []).regs = s.regs ∧ Keeps s (s.probeReturn e []) := by
  rw [State.probeReturn_miss hm he hended hhit hdead]
  exact ⟨rfl, fun j i => (State.node_congr (State.putProbes_trees ..)).trans (s.probed_node m j i), rfl, rfl, rfl, rfl, rfl, rfl⟩

end

end Sys2Proof.Machine

open Sys2Proof.Machine

/-- Settles O49: a task past its boundary starts on its engine, and a probe pins the node it hits or ends the match. -/
theorem engineCommandsComplete : Obligations.EngineCommandsComplete := by
  unfold Obligations.EngineCommandsComplete
  refine ⟨?dispatch, ?hit, ?miss⟩
  case dispatch =>
    intro s kind p e k r hkind hw he hr hb
    refine ⟨_, exec_engineTaskDispatch .., ?_⟩
    rw [State.dispatch_first hkind hw he]
    exact State.startTask_starts hr hb e (State.mem_tasks_of_waiting (hw ▸ List.mem_singleton_self k))
  case hit =>
    intro s e i m hwf hm he hended hhit
    exact ⟨_, exec_medlarProbeReturn .., State.probeReturn_pins hm he hended hwf hhit⟩
  case miss =>
    intro s e m hm he hended hhit hdead
    exact ⟨_, exec_medlarProbeReturn .., State.probeReturn_ends hm he hended hhit hdead⟩

end

section
/-! A stream that stands bound to another vocabulary slot than the one its command names: the engine that finishes the command rejects it (R180). -/

namespace Sys2Proof.Machine

theorem exec_engineTaskDone (kind : EngKind) (e : Nat) (s : State) : exec (.engineTaskDone kind e) s = .next (s.taskDone kind e) := rfl

/-- OP_TOKENIZE of one byte of text, the last of stream 0, with the vocabulary of slot 0. -/
def boundReq : Req := freshReq 1 5 0 [1] [97] 0 none 0 0

/-- Its task, on Zest engine 0. -/
def boundTask : Task where
  kind := .zest
  part := 0
  client := 1
  req := 5
  order := 0
  stream := some 64
  input := [[97]]
  engine := some 0
  startedAt := 0

/-- Stream 0 of client 1 stands bound to vocabulary slot 1. -/
def boundState : State :=
  { State.reset with
    host := { HostIf.reset with rings := [(1, aliasRing)], reqs := [boundReq] }
    vocabs := [(0, aliasVocab)]
    streams := [(64, ZStream.fresh 1 false)]
    tasks := [boundTask] }

/-- The request ends with ST_STATE. -/
theorem boundState_taskDone : (boundState.taskDone .zest 0).host.cq.map (·.status) = [stState] := by decide +kernel

end Sys2Proof.Machine

open Sys2Proof.Machine

/-- Refutes O47: its clause on the engine that finishes OP_TOKENIZE leaves the binding of the stream free. In `boundState` the stream stands bound to
vocabulary slot 1 and the command names slot 0, so that the engine rejects it with ST_STATE (R180), where the statement claims ST_OK. -/
theorem not_textCommandsComplete : ¬ Obligations.TextCommandsComplete := by
  unfold Obligations.TextCommandsComplete
  rintro ⟨-, -, htok, -⟩
  obtain ⟨t, ht, -, ⟨d, entry, hcq, -, -, hstatus, -⟩, -⟩ := htok boundState 1 5 0 64 boundReq boundTask aliasVocab rfl rfl rfl rfl rfl
    (by decide +kernel) rfl (by decide +kernel) rfl (by decide +kernel)
  rw [exec_engineTaskDone, Host.Outcome.next.injEq] at ht
  have hposted := boundState_taskDone
  rw [ht, hcq, show boundState.host.cq = [] from rfl, List.nil_append, List.map_singleton, hstatus] at hposted
  exact absurd hposted (by decide)

end

section
/-! A client number past the 4,096 clients of R324 names registers that are not its own: the read of its rank list by OP_PACK takes the list out of its
USE. -/

namespace Sys2Proof.Machine

theorem exec_opPack (c q : Nat) (s : State) : exec (.opPack c q) s = .next (s.pack (c, q)) := rfl

/-- Its OP_PACK (opcode 8) with a budget of 16 and no fixed parts: its rank list, and the passage addresses too, are at device address 0. -/
def aliasPackReq : Req :=
  freshReq aliasClient 5 0 [8] (leBytes 4 16 ++ List.replicate 36 0 ++ leBytes 8 (2 ^ 63) ++ leBytes 8 (2 ^ 63)) 0 none 0 0

/-- The first word of a rank list of one entry. -/
def aliasListWord : List Byte := (listBytes 4 1 0 0 0 0 [Entry.empty 4]).take 16

/-- `aliasState`, whose client asks for a pack, with Punnet engine 0 assigned to partition 0: one symbol of the rank list's first word is wrong, and it lies
in partition 32, which the one correction counted so far leaves in the client's USE. -/
def aliasPackState : State :=
  let s := { aliasState with
    host := { aliasState.host with reqs := [aliasPackReq] }
    mem := { aliasState.mem with cells := putWord [] 0 (xorAt (encodeWord aliasListWord) 17 1) } }
  s.wr R.cfgEngpEnt 1 0x80

/-- What Punnet engine 0 reads of the rank list's header. -/
def aliasPackHead : List Byte := aliasListWord ++ List.replicate 16 0

/-- The inputs: no fixed parts, the rank list, whose one entry is not valid, and the passage addresses. -/
def aliasPackIns : List (List Byte) := [[], [], aliasPackHead ++ List.replicate 16 0, aliasListWord.take 8]

/-- The list is read again after the correction of its first word has been counted: it is out of the client's USE by then, the request ends with
ST_CONTEXT_FAULT, and no task is queued. -/
theorem aliasPackState_pack : (aliasPackState.pack (aliasClient, 5)).tasks = [] := by decide +kernel

end Sys2Proof.Machine

open Sys2Proof.Machine

/-- Refutes O48: its clause on an accepted OP_PACK leaves the client's number free and judges every read from the state before the first. `aliasClient` has
MEM_CHSTAT of channel 0 for its CFG_CUSE, so the first read of the rank list, which corrects a symbol there, changes its USE, and the read of the inputs is a
bounds fault. -/
theorem not_packCommandsComplete : ¬ Obligations.PackCommandsComplete := by
  unfold Obligations.PackCommandsComplete
  rintro ⟨haccept, -⟩
  obtain ⟨t, ht, htasks, -⟩ := haccept aliasPackState aliasClient 5 aliasPackReq [aliasPackHead] aliasPackIns [[]] (aliasPackIns ++ [[]]) 0 []
    (by decide +kernel) rfl rfl (by decide +kernel) (by decide +kernel) (by decide +kernel) (by decide +kernel) (by decide +kernel)
    (by decide +kernel) (by decide +kernel) (by decide +kernel) (by decide +kernel)
  rw [exec_opPack, Host.Outcome.next.injEq] at ht
  rw [← ht, aliasPackState_pack] at htasks
  exact absurd htasks.symm (List.append_ne_nil_of_right_ne_nil _ (List.cons_ne_nil _ _))

end

section
/-! The space that placements take (R227, R234, R245): it is judged by registers, LPDDR-6 and flash alone. -/

namespace Sys2Proof.Machine

/-- `u` with what space is judged by, and taken from, as it is in `s`. -/
def State.withSpace (u s : State) : State := { u with regs := s.regs, mem := s.mem, flash := s.flash }

theorem State.setOwner_withSpace (u s : State) (v g n who : Nat) : (u.withSpace s).setOwner v g n who = u.withSpace (s.setOwner v g n who) := by
  unfold State.setOwner
  extract_lets old t t' old' x x'
  have ht : t' = u.withSpace x' := by
    unfold t' x'
    split <;> rfl
  rw [ht]
  show (if old' = 0 then _ else _) = _
  split <;> rfl

theorem State.trimForeign_withSpace (u s : State) (p v n : Nat) : (u.withSpace s).trimForeign p v n = u.withSpace (s.trimForeign p v n) := by
  exact List.foldl_hom (g₁ := fun s (e : Nat × Nat) => s.trim e.1 1) u.withSpace fun _ _ => rfl

theorem State.takePart_withSpace (u s : State) (p : Nat) (slc : Bool) (e : PartEntry) :
    (u.withSpace s).takePart p slc e = (s.takePart p slc e).map fun x => (u.withSpace x.1, x.2) := by
  have hrd : ∀ f i, (u.withSpace s).rd f i = s.rd f i := fun _ _ => rfl
  have hrun : ∀ v n, (u.withSpace s).freeRun v n = s.freeRun v n := fun _ _ => rfl
  have hroom : ∀ p n, (u.withSpace s).flashRoom p n = s.flashRoom p n := fun _ _ => rfl
  have hunits : ∀ n, (u.withSpace s).freeUnits n = s.freeUnits n := fun _ => rfl
  unfold State.takePart
  split
  · simp only [hrd, hrun, State.setOwner_withSpace]
    split
    · rfl
    · rw [Option.map_map]
      rfl
  · simp only [hroom, hunits, State.trimForeign_withSpace]
    generalize (if slc = true then _ else _) = cost
    split
    · rfl
    · rw [Option.map_map]
      rfl
  · rfl

theorem State.takeParts_withSpace (u s : State) (p : Nat) (slc : Bool) (es : List PartEntry) :
    (u.withSpace s).takeParts p slc es = (s.takeParts p slc es).map fun x => (u.withSpace x.1, x.2) := by
  refine List.foldl_hom (init := some (s, [])) (Option.map fun x : State × List PartEntry => (u.withSpace x.1, x.2)) fun o e => ?_
  cases o with
  | none => rfl
  | some x => simp [State.takePart_withSpace, Function.comp_def]

/-- A charge to a client changes nothing of the space. -/
theorem State.charge_withSpace (s : State) (c : Nat) (f : Acct → Acct) : s.charge c f = (s.charge c f).withSpace s := by
  unfold State.charge
  split <;> rfl

end Sys2Proof.Machine
end

section
/-! What each command of objects and adapters does (R215, R216, R245, R246). -/

namespace Sys2Proof.Machine

/-! ### OP_OBJECT_PLACE of an object that is not placed yet -/

/-- Reading no buffers charges nothing and finds them. -/
theorem State.gather_nil {s : State} {k : ReqKey} {op : Nat} {r : Req} (h : s.Holds k op r) : s.gather k [] = (s.charge k.1 id, some []) := by
  have hpeek : s.peek k [] = (s, some []) := by
    obtain ⟨hq, -⟩ := h
    simp [State.peek, State.readUnits, hq]
  rw [State.gather, hpeek]
  rfl

theorem State.updObj_obj? (s : State) (o : Nat) (f : Obj → Obj) : (s.updObj o f).obj? o = (s.obj? o).map f := aget_amod_same ..

/-- The record of an object that client `k.1` has placed at `ps` in partition `p`. -/
def Obj.placed (p : Nat) (k : ReqKey) (ps : List PartEntry) : Obj := ⟨p, ps, k.1, none, 0, false, k, [], 0, [], []⟩

/-- A part that an object does not have yet joins its parts. -/
theorem State.putPart_new {s : State} {o : Nat} {x : Obj} {e : PartEntry} (hx : s.obj? o = some x) (hnew : oldPart (some x) e = none) (k : ReqKey) :
    s.putPart k o e = s.updObj o fun y => { y with places := x.places ++ [e] } := by
  unfold State.putPart
  simp only [hx, hnew]

/-- A placement in which no part is in host memory has no buffers to read. -/
theorem placeBuffers_nil (l : List (PartEntry × Nat)) {es : List PartEntry} (h : ∀ y ∈ es, y.tier ≠ 2) :
    ((l.zip es).filterMap fun e => if e.2.tier = 2 then some (e.1.2, 16 * e.2.extents.length) else none) = [] := by
  rw [List.filterMap_eq_nil_iff]
  intro e he
  exact if_neg (h e.2 (List.of_mem_zip he).2)

section
variable {s : State} {k : ReqKey} {r : Req} (h : s.Holds k 0x28 r)
include h

theorem State.objectPlace_bad (hbad : s.goodPlace r = false) : s.objectPlace k = s.endReq k stBadDescriptor 0 0 := by
  rw [State.objectPlace, State.onReq_holds h]
  simp [hbad]

/-- A good placement of a new object takes its space, records the object and ends. -/
theorem State.objectPlace_places {l : List (Nat × Nat)} {es : List PartEntry} {e : PartEntry} (hgood : s.goodPlace r = true)
    (hstate : s.placeState r = false) (hrows : placesRows r = false) (hext : s.placeExtents k (placeEntries r) = (.ok l, es))
    (htier : ∀ y ∈ es, y.tier ≠ 2) (hroom : s.placeRoom r = true)
    (htake : (s.takeParts (r.inl 4 1) (s.spills (r.inl 0 4)) es).map (·.2) = some [e]) (hnew : s.obj? (r.inl 0 4) = none) :
    ∃ (u : State) (r' : Req), u.Holds k 0x28 r' ∧ u.host.cq = s.host.cq ∧ u.clusters = s.clusters ∧
      u.obj? (r.inl 0 4) = some (Obj.placed (r.inl 4 1) k [e]) ∧ s.objectPlace k = u.endReq k stOk 1 0 := by
  obtain ⟨⟨t, _⟩, ht, rfl⟩ := Option.map_eq_some_iff.1 htake
  rw [State.objectPlace, State.onReq_holds h]
  simp only [hgood, hstate, hrows, hext, placeBuffers_nil _ htier, State.gather_nil h, Bool.not_true, Bool.false_eq_true, if_false]
  generalize hc : s.charge k.1 id = c
  have hspace : c = c.withSpace s := hc ▸ s.charge_withSpace k.1 id
  have hobjs : c.objs = s.objs := hc ▸ (State.charge_eff ..).same .objs rfl
  have hhost : c.host = s.host := hc ▸ s.charge_host k.1 id
  have hclusters : c.clusters = s.clusters := hc ▸ (State.charge_eff ..).same .clusters rfl
  have htakes : ∀ p slc es, c.takeParts p slc es = (s.takeParts p slc es).map fun x => (c.withSpace x.1, x.2) := fun p slc es =>
    (congrArg (fun x : State => x.takeParts p slc es) hspace).trans (State.takeParts_withSpace c s p slc es)
  have hobj : ∀ o, c.obj? o = s.obj? o := fun o => congrArg (fun l => aget l o) hobjs
  have hspills : ∀ o, c.spills o = s.spills o := fun o => congrArg (fun x => Option.any _ x) (hobj o)
  have hcroom : c.placeRoom r = true := by
    rw [← hroom]
    simp only [State.placeRoom, hobj, hspills, htakes, Option.isSome_map]
  simp only [hcroom, hobj, hnew, State.movesRead, htakes, hspills, ht, Option.map_some, Bool.not_true, Bool.false_eq_true, if_false]
  have hnone : ((c.withSpace t).obj? (r.inl 0 4)).isSome = false := by
    rw [show (c.withSpace t).obj? (r.inl 0 4) = none from (hobj _).trans hnew]
    rfl
  rw [hnone, if_neg Bool.false_ne_true]
  generalize List.filterMap _ [e] = bufs
  generalize hv : ((c.withSpace t).putObjs _).setInputs k bufs = v
  have hheld : (c.withSpace t).Holds k 0x28 r := h.of_host hhost
  have hvheld : v.Holds k 0x28 { r with inBufs := bufs } := hv ▸ hheld.updReq ⟨rfl, rfl, rfl, rfl, rfl, rfl⟩
  have hvobj : v.obj? (r.inl 0 4) = some (Obj.placed (r.inl 4 1) k []) := hv ▸ aget_aput_same ..
  have hvcq : v.host.cq = s.host.cq := by
    rw [← hv, ← hhost]
    rfl
  have hvclusters : v.clusters = s.clusters := hv ▸ hclusters
  rw [List.foldl_cons, List.foldl_nil, State.putPart_new hvobj rfl]
  refine ⟨_, { r with inBufs := bufs }, ?_, ?_, ?_, ?_, rfl⟩
  · exact hvheld
  · exact hvcq
  · exact hvclusters
  · rw [State.updObj_obj?, State.updObj_obj?, hvobj]
    rfl
end

/-! ### OP_OBJECT_LOAD and its end -/

section
variable {s : State} {k : ReqKey} {r : Req}

/-- A load that keeps no version beside the new one and has room begins in the object's own space. -/
theorem State.objectLoad_begins {x : Obj} (h : s.Holds k 0x29 r) (hx : s.obj? (r.inl 0 4) = some x) (hload : x.loading = false)
    (hgood : s.goodLoad r = true) (hstate : s.loadState r = false) (hroom : s.loadRoom r = true) (htable : loadsTable r = false)
    (hbeside : loadsBeside x (r.inl 4 1) r.param = false) : s.objectLoad k = s.beginLoad k r x x.places [] := by
  rw [State.objectLoad, State.onReq_holds h]
  simp [hx, hload, State.loadWaits, State.tableTail, goodTail, hgood, hstate, hroom, htable, hbeside]

/-- A record that is found stays where another key's is taken away. -/
theorem aget_adel_of_some {α : Type} {m : Sparse α} {k j : Nat} {v : α} (h : j ≠ k) (hv : aget m j = some v) : aget (adel m k) j = some v := by
  induction m with
  | nil => exact hv
  | cons e m ih =>
    unfold adel at ih ⊢
    unfold aget at hv
    rw [List.filter_cons]
    split at hv
    · next hj => rw [if_pos (by simpa [← hj] using h), aget, if_pos hj, hv]
    · next hj =>
      split at hv
      · exact absurd hv (by simp)
      · next hlt =>
        split
        · rw [aget, if_neg hj, if_neg hlt, ih hv]
        · exact ih hv

/-- A load that begins records what it loads. -/
theorem State.beginLoad_obj? (k : ReqKey) (x : Obj) (ps : List PartEntry) (tail : Sparse (List Byte)) (hbeside : loadsBeside x (r.inl 4 1) r.param = false) :
    (s.beginLoad k r x ps tail).obj? (r.inl 0 4) =
      some ⟨x.part, ps, x.placer, some (r.inl 4 1), r.inl 5 1, true, k, digest256 r.param, x.epoch, r.param, tail⟩ := by
  have hkey : loadKey x (r.inl 0 4) (r.inl 4 1) r.param = r.inl 0 4 := if_neg (by simp [hbeside])
  unfold State.beginLoad
  extract_lets +onlyGivenNames o kind img written based u y v
  have hv : v.obj? o = some y := by
    show aget (aput _ (loadKey x o kind img) y) o = some y
    rw [hkey, aget_aput_same]
  have hobjs : ∀ t : State, t.objs = v.objs → t.obj? o = some y := fun t ht => (congrArg (fun l => aget l o) ht).trans hv
  refine hobjs _ (Eff.same (k := 673383432) ?_ .objs rfl)
  clear hobjs hv
  clear_value v y u based kind
  split
  · exact Eff.ite ((State.updTable_eff ..).mono rfl) ((State.wr_eff ..).mono rfl)
  · exact (State.wr_eff ..).step rfl ((State.wr_eff ..).step rfl ((State.putShards_eff ..).mono rfl))
  · refine (State.updFlash_eff ..).step rfl ?_
    exact (State.wr_eff ..).step rfl ((State.putPools_eff ..).step rfl ((State.clearTree_eff ..).mono rfl))
  · exact (State.putAdapters_eff ..).mono rfl
  · exact Eff.refl ..

/-- The weight sets with that of object `o` in, as its load leaves them. -/
def State.weightsWith (s : State) (o : Nat) (x : Obj) : Sparse WeightSet :=
  aput (amod s.weights (weightKey o x.epoch) fun w => { w with current := false }) (weightKey o (x.epoch + 1))
    (weightsOf x.part o x.places x.places x.image x.digest)

theorem State.finishLoad_weights {o : Nat} {x : Obj} (hkind : x.kind = some 0) (hold : aget s.weights (weightKey o x.epoch) = none) :
    s.finishLoad o x x = ((s.putWeights (s.weightsWith o x)).updObj o fun z => { z with
      places := x.places, digest := x.digest, image := x.image, epoch := x.epoch + 1 }, x.epoch + 1) := by
  unfold State.finishLoad
  simp only [hkind, hold, Option.isSome_none, Bool.false_eq_true, if_false]
  rfl

/-- The load of a weight set that has no current version ends: the set is current and its request completes. -/
theorem State.loadComplete_weights {o : Nat} {x : Obj} (h : s.Holds k 0x29 r) (hx : s.obj? o = some x) (hload : x.loading = true) (hby : x.loader = k)
    (hkind : x.kind = some 0) (halone : s.obj? (2 ^ 40 + o) = none) (hold : aget s.weights (weightKey o x.epoch) = none) :
    ∃ u : State, u.host = s.host ∧ u.clusters = s.clusters ∧
      aget u.weights (weightKey o (x.epoch + 1)) = some (weightsOf x.part o x.places x.places x.image x.digest) ∧
      u.obj? o = some { x with epoch := x.epoch + 1, loading := false } ∧ s.loadComplete o = u.endReq k stOk (x.epoch + 1) 0 := by
  subst hby
  have hne : o ≠ 2 ^ 40 + o := by omega
  unfold State.loadComplete
  simp only [hx, hload, halone, h.live, State.finishLoad_weights hkind hold, Option.getD_none, Bool.not_true, Bool.false_eq_true, if_false]
  refine ⟨_, ?_, ?_, ?_, ?_, rfl⟩
  · simp only [State.updObj, State.putObjs_host, State.putWeights_host]
  · simp only [State.updObj, State.putObjs_clusters, State.putWeights_clusters]
  · exact aget_aput_same ..
  · have hloaded : ((s.putWeights (s.weightsWith o x)).updObj o fun z => { z with
        places := x.places, digest := x.digest, image := x.image, epoch := x.epoch + 1 }).obj? o = some { x with epoch := x.epoch + 1 } := by
      rw [State.updObj_obj?, show (s.putWeights (s.weightsWith o x)).obj? o = some x from hx]
      rfl
    rw [State.updObj_obj?]
    exact congrArg _ (aget_adel_of_some hne hloaded)
end

/-! ### Adapters (R215, R216) -/

section
variable {s : State} {k : ReqKey} {r : Req}

theorem State.adapterLoad_begins (h : s.Holds k 0x20 r) (hidle : ∀ a ∈ s.adapters, a.loading = false) (hgood : goodAdapter r.param = true)
    (hid : r.inl 0 2 < 1024) (hset : s.holdsWeights (s.home r.client) (slice r.param 0 32) = true) (hroom : s.adapterCount (s.home r.client) < 64) :
    s.adapterLoad k =
      { s with adapters := s.adapters ++ [⟨s.home r.client, r.inl 0 2, r.inl 4 4, digest256 r.param, true, false, k, s.nextSerial⟩] } := by
  rw [State.adapterLoad, State.onReq_holds h]
  have hnone : (s.adapters.any fun a => a.loading && a.loader = k) = false := by
    rw [List.any_eq_false]
    exact fun a ha => by simp [hidle a ha]
  have hbig : ¬ 1024 ≤ r.inl 0 2 := by omega
  have hfull : ¬ 64 ≤ s.adapterCount (s.home r.client) := by omega
  simp only [State.adapterPart, hnone, hgood, hbig, hset, hfull, Bool.not_true, Bool.false_eq_true, or_self, if_false]
  rfl

/-- The one version of an adapter that a partition holds has loaded: it is current and its request completes. -/
theorem State.adapterDone_current {a : Adapter} (h : s.Holds k 0x20 r) (ha : s.adapters = [a]) (hload : a.loading = true) (hby : a.loader = k) :
    s.adapterDone a.part a.id a.version = (s.putAdapters [{ a with loading := false }]).endReq k stOk a.version 0 := by
  subst hby
  have hfind : (s.adapters.find? fun b => b.part = a.part && b.id = a.id && b.version = a.version && b.loading) = some a := by
    simp [ha, hload]
  have hheld : (s.putAdapters [{ a with loading := false }]).Holds a.loader 0x20 r := h
  unfold State.adapterDone
  rw [hfind]
  simp only [h.live, ha, Bool.not_true, Bool.false_eq_true, if_false, List.map_cons, List.map_nil, if_true]
  exact State.onReq_holds hheld _

/-- The current version of an adapter is retired. -/
theorem State.adapterRetire_current {a : Adapter} (h : s.Holds k 0x21 r) (ha : s.adapters = [a]) (hpart : a.part = s.home r.client)
    (hid : a.id = r.inl 0 2) (hload : a.loading = false) (hret : a.retired = false) :
    s.adapterRetire k = (s.putAdapters [{ a with retired := true }]).endReq k stOk a.version 0 := by
  have hfind : s.currentAdapter (s.adapterPart r) (r.inl 0 2) = some a := by
    simp [State.currentAdapter, State.adapterPart, ha, hpart, hid, hload, hret]
  rw [State.adapterRetire, State.onReq_holds h]
  simp only [hfind, ha, List.map_cons, List.map_nil, if_true]
end

end Sys2Proof.Machine
end

section
/-! Objects and adapters: each command by the lemma on its operation. -/

namespace Sys2Proof.Machine

theorem exec_opObjectPlace (c q : Nat) (s : State) : exec (.opObjectPlace c q) s = .next (s.objectPlace (c, q)) := rfl
theorem exec_opObjectLoad (c q : Nat) (s : State) : exec (.opObjectLoad c q) s = .next (s.objectLoad (c, q)) := rfl
theorem exec_objectLoadComplete (o : Nat) (s : State) : exec (.objectLoadComplete o) s = .next (s.loadComplete o) := rfl
theorem exec_opAdapterLoad (c q : Nat) (s : State) : exec (.opAdapterLoad c q) s = .next (s.adapterLoad (c, q)) := rfl
theorem exec_adapterLoadComplete (p a v : Nat) (s : State) : exec (.adapterLoadComplete p a v) s = .next (s.adapterDone p a v) := rfl
theorem exec_opAdapterRetire (c q : Nat) (s : State) : exec (.opAdapterRetire c q) s = .next (s.adapterRetire (c, q)) := rfl

/-- The end of a request leaves every object. -/
theorem State.endReq_obj? (s : State) (k : ReqKey) (st n d o : Nat) : (s.endReq k st n d).obj? o = s.obj? o :=
  congrArg (fun l => aget l o) ((State.endReq_eff ..).same .objs rfl)

theorem State.endReq_clusters (s : State) (k : ReqKey) (st n d : Nat) : (s.endReq k st n d).clusters = s.clusters :=
  (State.endReq_eff ..).same .clusters rfl

end Sys2Proof.Machine

open Sys2Proof.Machine

/-- Settles O42: what each command makes of objects, weight sets and adapters is stated by the lemma on its operation, and the end of a request leaves all
three. A weight set is what `weightsOf` reads of its image (DESIGN CHOICE, log entry 15). -/
theorem objectCommandsComplete : Obligations.ObjectCommandsComplete := by
  refine ⟨?place, ?badPlace, ?load, ?loaded, ?adapterLoad, ?adapterLoaded, ?adapterRetire⟩
  case place =>
    intro s c q r l es e h hgood hstate hrows hext htier hroom htake hnew
    obtain ⟨u, r', hu, hcq, hclusters, hobj, heq⟩ := State.objectPlace_places h hgood hstate hrows hext htier hroom htake hnew
    exact ⟨_, (exec_opObjectPlace ..).trans (congrArg _ heq), (State.endReq_ends hu ..).of_cq hcq, (State.endReq_obj? ..).trans hobj,
      (State.endReq_clusters ..).trans hclusters⟩
  case badPlace =>
    intro s c q r h hbad
    exact ⟨_, (exec_opObjectPlace ..).trans (congrArg _ (State.objectPlace_bad h hbad)), State.endReq_ends h .., (State.endReq_eff ..).same .objs rfl,
      (State.endReq_eff ..).same .flash rfl⟩
  case load =>
    intro s c q r x h hx hload hgood hstate hroom htable hbeside
    have heff := State.beginLoad_eff s (c, q) r x x.places []
    exact ⟨_, (exec_opObjectLoad ..).trans (congrArg _ (State.objectLoad_begins h hx hload hgood hstate hroom htable hbeside)),
      congrArg _ (heff.same .host rfl), heff.same .clusters rfl, State.beginLoad_obj? (c, q) x x.places [] hbeside⟩
  case loaded =>
    intro s o c q x r hx hload hby hkind halone h hold
    obtain ⟨u, hhost, hclusters, hset, hobj, heq⟩ := State.loadComplete_weights h hx hload hby hkind halone hold
    exact ⟨_, (exec_objectLoadComplete ..).trans (congrArg _ heq), (State.endReq_ends (h.of_host hhost) ..).of_cq (congrArg _ hhost),
      (congrArg (fun l => aget l _) ((State.endReq_eff ..).same .weights rfl)).trans hset, (State.endReq_obj? ..).trans hobj,
      (State.endReq_clusters ..).trans hclusters⟩
  case adapterLoad =>
    intro s c q r h hidle hgood hid hset hroom
    exact ⟨_, (exec_opAdapterLoad ..).trans (congrArg _ (State.adapterLoad_begins h hidle hgood hid hset hroom)), rfl⟩
  case adapterLoaded =>
    intro s c q r a ha hload hby h
    have heff := State.endReq_eff (s.putAdapters [{ a with loading := false }]) (c, q) stOk a.version 0
    have hheld : (s.putAdapters [{ a with loading := false }]).Holds (c, q) 0x20 r := h
    exact ⟨_, (exec_adapterLoadComplete ..).trans (congrArg _ (State.adapterDone_current h ha hload hby)), State.endReq_ends hheld ..,
      heff.same .adapters rfl, heff.same .objs rfl⟩
  case adapterRetire =>
    intro s c q r a h ha hpart hid hload hret
    have heff := State.endReq_eff (s.putAdapters [{ a with retired := true }]) (c, q) stOk a.version 0
    have hheld : (s.putAdapters [{ a with retired := true }]).Holds (c, q) 0x21 r := h
    exact ⟨_, (exec_opAdapterRetire ..).trans (congrArg _ (State.adapterRetire_current h ha hpart hid hload hret)), State.endReq_ends hheld ..,
      heff.same .adapters rfl, heff.same .objs rfl⟩

end

section
/-! A lane that ends its generation, whose result record is to be merged into memory that cannot be corrected (R210, R213, R262, R263): the reset of the
partition that owns the memory takes the step's sampling lanes. -/

namespace Sys2Proof.Machine

theorem exec_pipSample (p i : Nat) (poisoned : Bool) (s : State) : exec (.pipSample p i poisoned) s = .next (s.pipSample p i poisoned) := rfl

/-- OP_GENERATE (opcode 10) of client 1: its output buffer is in host memory, its record buffer at device address 0. -/
def recordReq : Req := freshReq 1 5 0 ([10] ++ List.replicate 31 0 ++ leBytes 8 0x1000 ++ leBytes 8 (2 ^ 63)) [] 0 none 0 0

/-- Its generation, of at most 9 tokens, with three lanes of which two have ended; no bit of its MASK is set. -/
def recordGen : Gen :=
  let ended : Lane := { Lane.fresh with ended := some 4 }
  { uncopiedGen with block := List.replicate 12 0 ++ [9], lanes := [Lane.fresh, ended, ended], mask := some [0] }

/-- The lanes of the completed step, on Pip unit 2. -/
def recordLane (lane : Nat) : PipLane := ⟨1, 5, lane, 2, false, false⟩

/-- Partition 0 runs and owns the granule of the record buffer. The record takes 56 bytes, and two symbols of word 3, which they do not fill, are in
error. -/
def spoiltRecordState : State :=
  let s := { State.reset with
    host := { HostIf.reset with rings := [(1, aliasRing)], reqs := [recordReq] }
    mem := { MemState.reset with cells := [(54, 1), (56, 1)], owner := [(0, 1)] }
    gens := [recordGen]
    weights := [(7, aliasWeights)]
    parts := [(0, { Part.init with sampling := [recordLane 0, recordLane 1] })] }
  ((s.wr R.memLiveMask 0 1).wr R.cfgPartEn 0 1).wr R.cfgPstatState 0 psRun

/-- No token is live for lane 0, so that the generation ends; the merge of its record reads the word that cannot be corrected, and the partition that
owns it is reset: no lane is left to sample. -/
theorem spoiltRecordState_pipSample : ((spoiltRecordState.pipSample 0 0 false).part 0).sampling = [] := by decide +kernel

end Sys2Proof.Machine

open Sys2Proof.Machine

/-- Refutes O51: its clause on a sampled token bounds the address of the output buffer and leaves the record buffer free. In `spoiltRecordState` the lane's
mask is empty and the other lanes have ended, so the sampling writes the result record; its merge meets a word with two symbols in error, and by R262 the
partition that owns the word is reset, with the sampling lanes that the statement claims to remain. -/
theorem not_generationCommandsComplete : ¬ Obligations.GenerationCommandsComplete := by
  unfold Obligations.GenerationCommandsComplete
  rintro ⟨-, -, -, hsample, -⟩
  obtain ⟨t, ht, hsampling, -⟩ := hsample spoiltRecordState 0 (recordLane 0) (recordLane 1) recordGen Lane.fresh recordReq (by decide +kernel) rfl rfl rfl
    (by decide +kernel) rfl rfl rfl rfl rfl rfl rfl rfl (by decide +kernel) (by decide +kernel) (by decide +kernel) rfl
  rw [exec_pipSample, Host.Outcome.next.injEq] at ht
  rw [← ht, spoiltRecordState_pipSample] at hsampling
  exact absurd hsampling.symm (List.cons_ne_nil _ _)

end

section
/-! The word code (R253 to R255): the syndromes of a codeword and of a word with errors, and the class that the decoder finds for each. -/

namespace Sys2Proof.Machine

/-! ### Syndromes -/

theorem synd1_cons (a : Byte) (w : List Byte) : synd1 (a :: w) = gfX (synd1 w) ^^^ a := rfl

/-- A codeword's value at 1 is zero. -/
@[simp] theorem synd0_encodeWord (data : List Byte) : synd0 (encodeWord data) = 0 := by
  rw [encodeWord, checkSyms_eq, synd0_cons, synd0_cons, ← divided_synd0, ← BitVec.xor_assoc, BitVec.xor_comm (divided data).2, BitVec.xor_self]
  rfl

/-- A codeword's value at α is zero. -/
@[simp] theorem synd1_encodeWord (data : List Byte) : synd1 (encodeWord data) = 0 := by
  rw [encodeWord, checkSyms_eq, synd1_cons, synd1_cons, gfX_xor, ← divided_synd1, BitVec.xor_assoc, BitVec.xor_assoc, BitVec.xor_comm _ (divided data).2,
    ← BitVec.xor_assoc, BitVec.xor_self]
  rfl

/-- An error in one symbol adds its value to the word's value at 1. -/
theorem synd0_xorAt {w : List Byte} {p : Nat} (e : Byte) (h : p < w.length) : synd0 (xorAt w p e) = synd0 w ^^^ e := by
  induction w generalizing p with
  | nil => simp at h
  | cons a w ih =>
    cases p with
    | zero => simp only [xorAt, List.modify_zero_cons, synd0_cons, BitVec.xor_assoc, BitVec.xor_comm e]
    | succ p =>
      have h' := ih (Nat.lt_of_succ_lt_succ h)
      simp only [xorAt, List.modify_succ_cons, synd0_cons] at h' ⊢
      rw [h', BitVec.xor_assoc]

/-- An error in symbol `p` adds α^p times its value to the word's value at α. -/
theorem synd1_xorAt {w : List Byte} {p : Nat} (e : Byte) (h : p < w.length) : synd1 (xorAt w p e) = synd1 w ^^^ gfPow p e := by
  induction w generalizing p with
  | nil => simp at h
  | cons a w ih =>
    cases p with
    | zero => simp [xorAt, synd1_cons, gfPow, BitVec.xor_assoc]
    | succ p =>
      have h' := ih (Nat.lt_of_succ_lt_succ h)
      simp only [xorAt, List.modify_succ_cons, synd1_cons] at h' ⊢
      rw [h', gfX_xor, gfPow]
      simp [BitVec.xor_comm, xor_left_comm]

@[simp] theorem xorAt_length (w : List Byte) (p : Nat) (e : Byte) : (xorAt w p e).length = w.length := by simp [xorAt]

/-- An error added twice is no error. -/
theorem xorAt_xorAt (w : List Byte) (p : Nat) (e : Byte) : xorAt (xorAt w p e) p e = w := by
  have hid : ((· ^^^ e) ∘ fun x : Byte => x ^^^ e) = id := funext fun x => by simp
  rw [xorAt, xorAt, List.modify_modify_eq, hid, List.modify_id]

/-! ### Powers of α -/

theorem gfX_injective {a b : Byte} (h : gfX a = gfX b) : a = b := by
  have hz : ∀ x : Byte, gfX x = 0 → x = 0 := by decide
  exact BitVec.xor_eq_zero_iff.1 (hz _ (by rw [gfX_xor, h, BitVec.xor_self]; rfl))

theorem gfPow_add (m n : Nat) (a : Byte) : gfPow (m + n) a = gfPow m (gfPow n a) := by
  induction m with
  | zero => rw [Nat.zero_add]; rfl
  | succ m ih => rw [Nat.succ_add, gfPow, ih, gfPow]

theorem gfPow_injective {n : Nat} {a b : Byte} (h : gfPow n a = gfPow n b) : a = b := by
  induction n with
  | zero => exact h
  | succ n ih => exact ih (gfX_injective h)

/-- The order of α is more than 17: of the powers below the word's length only α^0 leaves an element that is not zero. -/
theorem eq_zero_of_gfPow_eq : ∀ d < 17, ∀ e : Byte, gfPow (d + 1) e = e → e = 0 := by decide +kernel

/-- Positions of a word are told apart by the powers of α. -/
theorem gfPow_position {p q : Nat} {e : Byte} (hp : p < 18) (hq : q < 18) (he : e ≠ 0) (h : gfPow p e = gfPow q e) : p = q := by
  have key : ∀ {p q : Nat}, p < q → q < 18 → gfPow p e ≠ gfPow q e := by
    intro p q hpq hq h
    obtain ⟨d, rfl⟩ : ∃ d, q = p + (d + 1) := ⟨q - p - 1, by omega⟩
    rw [gfPow_add] at h
    exact he (eq_zero_of_gfPow_eq d (by omega) e (gfPow_injective h).symm)
  rcases Nat.lt_trichotomy p q with hlt | heq | hgt
  · exact absurd h (key hlt hq)
  · exact heq
  · exact absurd h.symm (key hgt hp)

/-! ### Classes (Table CODE-2) -/

section
variable {w : List Byte}

theorem classify_clean (h0 : synd0 w = 0) (h1 : synd1 w = 0) : classify w = .clean := by simp [classify, h0, h1]

theorem classify_poison (h0 : synd0 w = 0) (h1 : synd1 w = 3#8) : classify w = .poison := by simp [classify, h0, h1]

theorem classify_single {p : Nat} {e : Byte} (hp : p < 18) (he : e ≠ 0) (h0 : synd0 w = e) (h1 : synd1 w = gfPow p e) :
    classify w = .single p e := by
  have hfind : (List.range 18).find? (fun x => gfPow x e == gfPow p e) = some p := by
    cases hf : (List.range 18).find? (fun x => gfPow x e == gfPow p e) with
    | none => simpa using List.find?_eq_none.1 hf p (List.mem_range.2 hp)
    | some x =>
      have hx := List.mem_range.1 (List.mem_of_find?_eq_some hf)
      have hxp : gfPow x e = gfPow p e := by simpa using List.find?_some hf
      rw [gfPow_position hx hp he hxp]
  simp only [classify, h0, h1, he, false_and, if_false, hfind]

/-- A word that a decoder in DETECT mode uses is a codeword. -/
theorem synd_of_decodeWord_detect {d : List Byte} {c : Option Nat} (h : decodeWord true w = .word d c) : synd0 w = 0 ∧ synd1 w = 0 := by
  by_contra hn
  have hc : classify w ≠ .clean := by
    simp only [classify, if_neg hn]
    repeat' split
    all_goals simp
  unfold decodeWord at h
  split at h
  · exact hc ‹_›
  all_goals simp at h

end

/-! ### The statements -/

theorem decodeWord_encodeWord (detect : Bool) (data : List Byte) : decodeWord detect (encodeWord data) = .word data none := by
  rw [decodeWord, classify_clean (by simp) (by simp)]
  rfl

/-- The class of a codeword with an error in one symbol. -/
theorem classify_encodeWord_xorAt {data : List Byte} {p : Nat} {e : Byte} (hd : data.length = 16) (hp : p < 18) (he : e ≠ 0) :
    classify (xorAt (encodeWord data) p e) = .single p e := by
  have hl : p < (encodeWord data).length := by rw [encodeWord_length, hd]; exact hp
  exact classify_single hp he (by rw [synd0_xorAt e hl, synd0_encodeWord]; simp) (by rw [synd1_xorAt e hl, synd1_encodeWord]; simp)

section
variable {data : List Byte} {p q : Nat}

/-- The syndromes of a codeword with errors in two symbols. -/
theorem synd_two_errors (hd : data.length = 16) (hp : p < 18) (hq : q < 18) (e f : Byte) :
    synd0 (xorAt (xorAt (encodeWord data) p e) q f) = e ^^^ f ∧
      synd1 (xorAt (xorAt (encodeWord data) p e) q f) = gfPow p e ^^^ gfPow q f := by
  have hl : (encodeWord data).length = 18 := by rw [encodeWord_length, hd]
  rw [synd0_xorAt f (by rw [xorAt_length, hl]; exact hq), synd1_xorAt f (by rw [xorAt_length, hl]; exact hq),
    synd0_xorAt e (by rw [hl]; exact hp), synd1_xorAt e (by rw [hl]; exact hp), synd0_encodeWord, synd1_encodeWord]
  simp

/-- Errors in two symbols never make another codeword: the code's distance is 3. -/
theorem decodeWord_two_errors (hd : data.length = 16) (hpq : p < q) (hq : q < 18) {e f : Byte} (he : e ≠ 0) (d : List Byte) (c : Option Nat) :
    decodeWord true (xorAt (xorAt (encodeWord data) p e) q f) ≠ .word d c := by
  intro h
  obtain ⟨h0, h1⟩ := synd_of_decodeWord_detect h
  obtain ⟨s0, s1⟩ := synd_two_errors hd (Nat.lt_trans hpq hq) hq e f
  have hef : e = f := BitVec.xor_eq_zero_iff.1 (s0.symm.trans h0)
  subst hef
  exact Nat.ne_of_lt hpq (gfPow_position (Nat.lt_trans hpq hq) hq he (BitVec.xor_eq_zero_iff.1 (s1.symm.trans h1)))

theorem decodeWord_poisonOf (hd : data.length = 16) (detect : Bool) :
    decodeWord detect (xorAt (xorAt (encodeWord data) 0 1) 1 1) = .poisoned := by
  obtain ⟨s0, s1⟩ := synd_two_errors (p := 0) (q := 1) hd (by omega) (by omega) 1 1
  rw [decodeWord, classify_poison s0 s1]

end

end Sys2Proof.Machine

open Sys2Proof Sys2Proof.Machine in
/-- Settles O8: the division leaves a word whose two syndromes are zero, and the syndromes name the check symbols. -/
theorem encoderFormsTheCodeword : Obligations.EncoderFormsTheCodeword := by
  unfold Obligations.EncoderFormsTheCodeword
  refine ⟨fun data hd => ⟨by rw [encodeWord_length, hd], rfl, synd0_encodeWord data, synd1_encodeWord data⟩, ?_, by decide⟩
  intro data a b _ h0 h1
  rw [encodeWord, checkSyms_of_synd_zero h0 h1]

open Sys2Proof Sys2Proof.Machine in
/-- Settles O9: an error in one symbol is known by its syndromes, since powers of α tell the 18 positions apart. -/
theorem decoderCorrectsAnySymbol : Obligations.DecoderCorrectsAnySymbol := by
  unfold Obligations.DecoderCorrectsAnySymbol
  refine ⟨fun data detect _ => decodeWord_encodeWord detect data, ?_, ?_, fun data detect hd => decodeWord_poisonOf hd detect, by decide⟩
  · intro data p e hd hp he
    simp only [decodeWord, classify_encodeWord_xorAt hd hp he, xorAt_xorAt, if_true, Bool.false_eq_true, if_false, and_true]
    rfl
  · intro data d p q e f c hd hpq hq he _
    exact decodeWord_two_errors hd hpq hq he d c

end

section
/-! The step on an empty queue, the state after reset, and what every command answers and leaves: the frame of each command of the dispatch is the
frame of its operation, and the masks of components are those of `mayChange`. -/

namespace Sys2Proof.Machine

/-! ### The mask of a list of components -/

/-- The mask of a list of components. -/
def maskOfComps (cs : List Comp) : Nat := cs.foldr (fun c m => 2 ^ c.bit ||| m) 0

/-- A component has a bit of its own. -/
theorem Comp.bit_injective : Function.Injective Comp.bit := fun c d h => by cases c <;> cases d <;> first | rfl | exact absurd h (by decide)

/-- The mask has a component's bit where the list has the component. -/
theorem maskOfComps_testBit {cs : List Comp} {x : Comp} : (maskOfComps cs).testBit x.bit = decide (x ∈ cs) := by
  induction cs with
  | nil => exact Nat.zero_testBit x.bit
  | cons c cs ih =>
    have hbit : (c.bit = x.bit) = (x = c) := propext ⟨fun h => Comp.bit_injective h.symm, fun h => congrArg Comp.bit h.symm⟩
    rw [maskOfComps, List.foldr_cons, ← maskOfComps, Nat.testBit_or, ih, Nat.testBit_two_pow]
    simp only [List.mem_cons, Bool.decide_or, hbit]

/-! ### What every command answers -/

/-- No command stops the model. -/
theorem exec_answers (c : Instr) (s : State) : ∃ t, exec c s = .next t := by
  cases c <;> exact ⟨_, rfl⟩

/-- A command changes the components that `mayChange` lists, and keeps the canonical forms: so does the operation that each row of the dispatch names. -/
theorem exec_eff (c : Instr) (s : State) : OutEff (maskOfComps (mayChange c)) s (exec c s) := by
  cases c <;> simp only [mayChange]
  case opTokenize client req => exact OutEff.mono (execOpTokenize_eff client req s) (by decide)
  case opDetokenize client req => exact OutEff.mono (execOpDetokenize_eff client req s) (by decide)
  case opEmbed client req => exact OutEff.mono (execOpEmbed_eff client req s) (by decide)
  case opSearch client req => exact OutEff.mono (execOpSearch_eff client req s) (by decide)
  case opRerankExact client req => exact OutEff.mono (execOpRerankExact_eff client req s) (by decide)
  case opRerankModel client req => exact OutEff.mono (execOpRerankModel_eff client req s) (by decide)
  case opTopk client req => exact OutEff.mono (execOpTopk_eff client req s) (by decide)
  case opPack client req => exact OutEff.mono (execOpPack_eff client req s) (by decide)
  case opRetrieve client req => exact OutEff.mono (execOpRetrieve_eff client req s) (by decide)
  case opGenerate client req => exact OutEff.mono (execOpGenerate_eff client req s) (by decide)
  case stepControlPause client req => exact OutEff.mono (execStepControlPause_eff client req s) (by decide)
  case stepControlResume client req => exact OutEff.mono (execStepControlResume_eff client req s) (by decide)
  case stepControlCancel client req => exact OutEff.mono (execStepControlCancel_eff client req s) (by decide)
  case opTableLookup client req => exact OutEff.mono (execOpTableLookup_eff client req s) (by decide)
  case opTableUpdate client req => exact OutEff.mono (execOpTableUpdate_eff client req s) (by decide)
  case opTableCommit client req => exact OutEff.mono (execOpTableCommit_eff client req s) (by decide)
  case opIndexInsert client req => exact OutEff.mono (execOpIndexInsert_eff client req s) (by decide)
  case opIndexDelete client req => exact OutEff.mono (execOpIndexDelete_eff client req s) (by decide)
  case opIndexMerge client req => exact OutEff.mono (execOpIndexMerge_eff client req s) (by decide)
  case opAdapterLoad client req => exact OutEff.mono (execOpAdapterLoad_eff client req s) (by decide)
  case opAdapterRetire client req => exact OutEff.mono (execOpAdapterRetire_eff client req s) (by decide)
  case opObjectPlace client req => exact OutEff.mono (execOpObjectPlace_eff client req s) (by decide)
  case opObjectLoad client req => exact OutEff.mono (execOpObjectLoad_eff client req s) (by decide)
  case opAccountRead client req => exact OutEff.mono (execOpAccountRead_eff client req s) (by decide)
  case opDigestRead client req => exact OutEff.mono (execOpDigestRead_eff client req s) (by decide)
  case setCap client req => exact OutEff.mono (execSetCap_eff client req s) (by decide)
  case clearCap client req => exact OutEff.mono (execClearCap_eff client req s) (by decide)
  case enterWatch client req => exact OutEff.mono (execEnterWatch_eff client req s) (by decide)
  case admRingCreate desc => exact OutEff.mono (execAdmRingCreate_eff desc s) (by decide)
  case admRingDelete desc => exact OutEff.mono (execAdmRingDelete_eff desc s) (by decide)
  case sqTail fn client value => exact OutEff.mono (execSqTail_eff fn client value s) (by decide)
  case cqHead fn client value => exact OutEff.mono (execCqHead_eff fn client value s) (by decide)
  case descriptorFetch client => exact OutEff.mono (execDescriptorFetch_eff client s) (by decide)
  case descriptorAdmit client => exact OutEff.mono (execDescriptorAdmit_eff client s) (by decide)
  case completionPost client => exact OutEff.mono (execCompletionPost_eff client s) (by decide)
  case irqModerationTimeout client => exact OutEff.mono (execIrqModerationTimeout_eff client s) (by decide)
  case functionLevelReset fn how => exact OutEff.mono (execFunctionLevelReset_eff fn how s) (by decide)
  case functionD0Return fn => exact OutEff.mono (execFunctionD0Return_eff fn s) (by decide)
  case bar4Read offset n => exact OutEff.mono (execBar4Read_eff offset n s) (by decide)
  case bar4Write offset bytes ep => exact OutEff.mono (execBar4Write_eff offset bytes ep s) (by decide)
  case bar0InvalidAccess bar offset size isWrite => exact OutEff.mono (execBar0InvalidAccess_eff bar offset size isWrite s) (by decide)
  case registerWrite w => exact OutEff.mono (execRegisterWrite_eff w s) (by decide)
  case hstAdmCfgWrite accessor value => exact OutEff.mono (execHstAdmCfgWrite_eff accessor value s) (by decide)
  case hstAdmDbWrite accessor value => exact OutEff.mono (execHstAdmDbWrite_eff accessor value s) (by decide)
  case mbxSendTagWrite accessor tag => exact OutEff.mono (execMbxSendTagWrite_eff accessor tag s) (by decide)
  case mbxSenderRoom chan ptr tag => exact OutEff.mono (execMbxSenderRoom_eff chan ptr tag s) (by decide)
  case mbxPop accessor => exact OutEff.mono (execMbxPop_eff accessor s) (by decide)
  case mbxFlush accessor => exact OutEff.mono (execMbxFlush_eff accessor s) (by decide)
  case cfgResetModule accessor => exact OutEff.mono (execCfgResetModule_eff accessor s) (by decide)
  case heartbeatRefresh accessor => exact OutEff.mono (execHeartbeatRefresh_eff accessor s) (by decide)
  case watchdogKick accessor bits => exact OutEff.mono (execWatchdogKick_eff accessor bits s) (by decide)
  case firstErrorClear accessor => exact OutEff.mono (execFirstErrorClear_eff accessor s) (by decide)
  case pwrModeNap accessor domain => exact OutEff.mono (execPwrModeNap_eff accessor domain s) (by decide)
  case pwrModeRun accessor domain => exact OutEff.mono (execPwrModeRun_eff accessor domain s) (by decide)
  case pwrModeWatch accessor => exact OutEff.mono (execPwrModeWatch_eff accessor s) (by decide)
  case updActivateAtWrite accessor value => exact OutEff.mono (execUpdActivateAtWrite_eff accessor value s) (by decide)
  case accRec0Read accessor => exact OutEff.mono (execAccRec0Read_eff accessor s) (by decide)
  case accClientselWrite accessor client => exact OutEff.mono (execAccClientselWrite_eff accessor client s) (by decide)
  case bmcWakeCommand => exact OutEff.mono (execBmcWakeCommand_eff s) (by decide)
  case bmcWatchCommand => exact OutEff.mono (execBmcWatchCommand_eff s) (by decide)
  case bmcResetCommand => exact OutEff.mono (execBmcResetCommand_eff s) (by decide)
  case bmcCap watts => exact OutEff.mono (execBmcCap_eff watts s) (by decide)
  case locateCommand on => exact OutEff.mono (execLocateCommand_eff on s) (by decide)
  case i3cDynamicAddress addr => exact OutEff.mono (execI3cDynamicAddress_eff addr s) (by decide)
  case setstep cl addr => exact OutEff.mono (execSetstep_eff cl addr s) (by decide)
  case setpair cl addr => exact OutEff.mono (execSetpair_eff cl addr s) (by decide)
  case wload cl wAddr arrays wb => exact OutEff.mono (execWload_eff cl wAddr arrays wb s) (by decide)
  case mma cl aAddr pair wb last first => exact OutEff.mono (execMma_eff cl aAddr pair wb last first s) (by decide)
  case lmv cl aAddr pair blocks winAddr last first => exact OutEff.mono (execLmv_eff cl aAddr pair blocks winAddr last first s) (by decide)
  case pacc cl srcAddr pair => exact OutEff.mono (execPacc_eff cl srcAddr pair s) (by decide)
  case vop cl descAddr => exact OutEff.mono (execVop_eff cl descAddr s) (by decide)
  case topk cl descAddr => exact OutEff.mono (execTopk_eff cl descAddr s) (by decide)
  case quantize cl descAddr elem => exact OutEff.mono (execQuantize_eff cl descAddr elem s) (by decide)
  case stream cl descAddr engine => exact OutEff.mono (execStream_eff cl descAddr engine s) (by decide)
  case waitt cl counter n => exact OutEff.mono (execWaitt_eff cl counter n s) (by decide)
  case send cl srcAddr len port => exact OutEff.mono (execSend_eff cl srcAddr len port s) (by decide)
  case recv cl dstAddr port => exact OutEff.mono (execRecv_eff cl dstAddr port s) (by decide)
  case loop cl count body => exact OutEff.mono (execLoop_eff cl count body s) (by decide)
  case nop cl cycles => exact OutEff.mono (execNop_eff cl cycles s) (by decide)
  case page cl descAddr engine => exact OutEff.mono (execPage_eff cl descAddr engine s) (by decide)
  case jpage cl => exact OutEff.mono (execJpage_eff cl s) (by decide)
  case stepEnd cl => exact OutEff.mono (execStepEnd_eff cl s) (by decide)
  case stepBegin cl => exact OutEff.mono (execStepBegin_eff cl s) (by decide)
  case wait cl => exact OutEff.mono (execWait_eff cl s) (by decide)
  case syncPointRelease cl waited => exact OutEff.mono (execSyncPointRelease_eff cl waited s) (by decide)
  case transferComplete cl engine => exact OutEff.mono (execTransferComplete_eff cl engine s) (by decide)
  case recomputeDone cl cycles elems => exact OutEff.mono (execRecomputeDone_eff cl cycles elems s) (by decide)
  case portTokenArrival cl port => exact OutEff.mono (execPortTokenArrival_eff cl port s) (by decide)
  case creditReturn cl port n => exact OutEff.mono (execCreditReturn_eff cl port n s) (by decide)
  case rowEventMessage cl => exact OutEff.mono (execRowEventMessage_eff cl s) (by decide)
  case arbiterGrant arb pend => exact OutEff.mono (execArbiterGrant_eff arb pend s) (by decide)
  case routerFlit region inPort flit => exact OutEff.mono (execRouterFlit_eff region inPort flit s) (by decide)
  case dieLinkFrame link frame => exact OutEff.mono (execDieLinkFrame_eff link frame s) (by decide)
  case stepComplete part lengthNs energy signature last => exact OutEff.mono (execStepComplete_eff part lengthNs energy signature last s) (by decide)
  case passForm part => exact OutEff.mono (execPassForm_eff part s) (by decide)
  case beginMessageRelease part stepTag => exact OutEff.mono (execBeginMessageRelease_eff part stepTag s) (by decide)
  case prefetchEntryDone part entry failed => exact OutEff.mono (execPrefetchEntryDone_eff part entry failed s) (by decide)
  case expertRouting part model layer scores perRow counter => exact OutEff.mono (execExpertRouting_eff part model layer scores perRow counter s) (by decide)
  case genAdmission part cls => exact OutEff.mono (execGenAdmission_eff part cls s) (by decide)
  case pipSample part lane poisoned => exact OutEff.mono (execPipSample_eff part lane poisoned s) (by decide)
  case poolRestoreDone pool block => exact OutEff.mono (execPoolRestoreDone_eff pool block s) (by decide)
  case medlarProbeReturn engine bad => exact OutEff.mono (execMedlarProbeReturn_eff engine bad s) (by decide)
  case engineTaskDispatch kind part => exact OutEff.mono (execEngineTaskDispatch_eff kind part s) (by decide)
  case retrieveStageAdvance client req => exact OutEff.mono (execRetrieveStageAdvance_eff client req s) (by decide)
  case walkStart die => exact OutEff.mono (execWalkStart_eff die s) (by decide)
  case walkEnd walk => exact OutEff.mono (execWalkEnd_eff walk s) (by decide)
  case sideSweepPass walker => exact OutEff.mono (execSideSweepPass_eff walker s) (by decide)
  case shardResultAssemble client req slot => exact OutEff.mono (execShardResultAssemble_eff client req slot s) (by decide)
  case indexPublish slot => exact OutEff.mono (execIndexPublish_eff slot s) (by decide)
  case mergeBuildDone slot => exact OutEff.mono (execMergeBuildDone_eff slot s) (by decide)
  case mergeCommit slot => exact OutEff.mono (execMergeCommit_eff slot s) (by decide)
  case indexPinDrain slot => exact OutEff.mono (execIndexPinDrain_eff slot s) (by decide)
  case gatherSubbag unit => exact OutEff.mono (execGatherSubbag_eff unit s) (by decide)
  case bagMerge client req bag => exact OutEff.mono (execBagMerge_eff client req bag s) (by decide)
  case tableCommitRequantize table => exact OutEff.mono (execTableCommitRequantize_eff table s) (by decide)
  case tableFlip table => exact OutEff.mono (execTableFlip_eff table s) (by decide)
  case splitCommitAck table holder => exact OutEff.mono (execSplitCommitAck_eff table holder s) (by decide)
  case tableFlipAtTf table => exact OutEff.mono (execTableFlipAtTf_eff table s) (by decide)
  case tablePinDrain table epoch => exact OutEff.mono (execTablePinDrain_eff table epoch s) (by decide)
  case keepMsExpire table epoch => exact OutEff.mono (execKeepMsExpire_eff table epoch s) (by decide)
  case migrationCopyDone table row => exact OutEff.mono (execMigrationCopyDone_eff table row s) (by decide)
  case objectLoadComplete object => exact OutEff.mono (execObjectLoadComplete_eff object s) (by decide)
  case adapterLoadComplete part adapter version => exact OutEff.mono (execAdapterLoadComplete_eff part adapter version s) (by decide)
  case memoryAccess word requester op => exact OutEff.mono (execMemoryAccess_eff word requester op s) (by decide)
  case correctionWriteback word => exact OutEff.mono (execCorrectionWriteback_eff word s) (by decide)
  case patrolRead word noise => exact OutEff.mono (execPatrolRead_eff word noise s) (by decide)
  case refresh chan bank temp busy => exact OutEff.mono (execRefresh_eff chan bank temp busy s) (by decide)
  case refreshManagement chan => exact OutEff.mono (execRefreshManagement_eff chan s) (by decide)
  case readTrackingUpdate chan moves => exact OutEff.mono (execReadTrackingUpdate_eff chan moves s) (by decide)
  case subchannelRetrain chan sc ok1 ok2 => exact OutEff.mono (execSubchannelRetrain_eff chan sc ok1 ok2 s) (by decide)
  case detectWindowExpire chan sc => exact OutEff.mono (execDetectWindowExpire_eff chan sc s) (by decide)
  case channelPowerDown chan => exact OutEff.mono (execChannelPowerDown_eff chan s) (by decide)
  case flashSectorRead lsn part trial => exact OutEff.mono (execFlashSectorRead_eff lsn part trial s) (by decide)
  case flashWriteAck core => exact OutEff.mono (execFlashWriteAck_eff core s) (by decide)
  case stripeParityWrite stripe flush => exact OutEff.mono (execStripeParityWrite_eff stripe flush s) (by decide)
  case wearRelocate die => exact OutEff.mono (execWearRelocate_eff die s) (by decide)
  case readDisturbScan block worstPct => exact OutEff.mono (execReadDisturbScan_eff block worstPct s) (by decide)
  case flashDieRebuild die => exact OutEff.mono (execFlashDieRebuild_eff die s) (by decide)
  case flashPeriodicTraining => exact OutEff.mono (execFlashPeriodicTraining_eff s) (by decide)
  case mapEntryRebuild unit => exact OutEff.mono (execMapEntryRebuild_eff unit s) (by decide)
  case fabricFrameReceive port frame => exact OutEff.mono (execFabricFrameReceive_eff port frame s) (by decide)
  case replayTimeout port => exact OutEff.mono (execReplayTimeout_eff port s) (by decide)
  case transitMessage msg => exact OutEff.mono (execTransitMessage_eff msg s) (by decide)
  case write msg => exact OutEff.mono (execWrite_eff msg s) (by decide)
  case readReq msg => exact OutEff.mono (execReadReq_eff msg s) (by decide)
  case readRsp msg => exact OutEff.mono (execReadRsp_eff msg s) (by decide)
  case contrib msg => exact OutEff.mono (execContrib_eff msg s) (by decide)
  case result msg => exact OutEff.mono (execResult_eff msg s) (by decide)
  case error msg => exact OutEff.mono (execError_eff msg s) (by decide)
  case unreach msg => exact OutEff.mono (execUnreach_eff msg s) (by decide)
  case freq msg => exact OutEff.mono (execFreq_eff msg s) (by decide)
  case time port t1 t2 t3 t4 => exact OutEff.mono (execTime_eff port t1 t2 t3 t4 s) (by decide)
  case queryFanout msg => exact OutEff.mono (execQueryFanout_eff msg s) (by decide)
  case splitTableForward msg => exact OutEff.mono (execSplitTableForward_eff msg s) (by decide)
  case census src serial => exact OutEff.mono (execCensus_eff src serial s) (by decide)
  case censusAnswer serial => exact OutEff.mono (execCensusAnswer_eff serial s) (by decide)
  case usageReport msg => exact OutEff.mono (execUsageReport_eff msg s) (by decide)
  case censusSend => exact OutEff.mono (execCensusSend_eff s) (by decide)
  case censusAnswerTimeout => exact OutEff.mono (execCensusAnswerTimeout_eff s) (by decide)
  case censusForget moduleId => exact OutEff.mono (execCensusForget_eff moduleId s) (by decide)
  case seqGapTimeout src master strm => exact OutEff.mono (execSeqGapTimeout_eff src master strm s) (by decide)
  case collectiveTimeout req participant => exact OutEff.mono (execCollectiveTimeout_eff req participant s) (by decide)
  case freqPeriod => exact OutEff.mono (execFreqPeriod_eff s) (by decide)
  case freqLeadDecide => exact OutEff.mono (execFreqLeadDecide_eff s) (by decide)
  case freqEffect => exact OutEff.mono (execFreqEffect_eff s) (by decide)
  case timeExchange => exact OutEff.mono (execTimeExchange_eff s) (by decide)
  case ptmUpdate hostNow => exact OutEff.mono (execPtmUpdate_eff hostNow s) (by decide)
  case handoverStart port lane => exact OutEff.mono (execHandoverStart_eff port lane s) (by decide)
  case hoLock port lane => exact OutEff.mono (execHoLock_eff port lane s) (by decide)
  case handoverTimeout port lane => exact OutEff.mono (execHandoverTimeout_eff port lane s) (by decide)
  case laneTrackingStep port lane bias ringTx ringRx symErr => exact OutEff.mono (execLaneTrackingStep_eff port lane bias ringTx ringRx symErr s) (by decide)
  case portTraining port lockedLanes hello credits => exact OutEff.mono (execPortTraining_eff port lockedLanes hello credits s) (by decide)
  case portTrainRetry port => exact OutEff.mono (execPortTrainRetry_eff port s) (by decide)
  case portLossOfLock port => exact OutEff.mono (execPortLossOfLock_eff port s) (by decide)
  case islandIdle domain => exact OutEff.mono (execIslandIdle_eff domain s) (by decide)
  case islandWake domain => exact OutEff.mono (execIslandWake_eff domain s) (by decide)
  case regionNapEntry region => exact OutEff.mono (execRegionNapEntry_eff region s) (by decide)
  case napReturnComplete domain => exact OutEff.mono (execNapReturnComplete_eff domain s) (by decide)
  case watchEntry => exact OutEff.mono (execWatchEntry_eff s) (by decide)
  case watchSample readings => exact OutEff.mono (execWatchSample_eff readings s) (by decide)
  case watchHeartbeat => exact OutEff.mono (execWatchHeartbeat_eff s) (by decide)
  case watchWake causes linkInL0 => exact OutEff.mono (execWatchWake_eff causes linkInL0 s) (by decide)
  case watchReturnComplete failedClusters => exact OutEff.mono (execWatchReturnComplete_eff failedClusters s) (by decide)
  case regionEstimate region own shared temp => exact OutEff.mono (execRegionEstimate_eff region own shared temp s) (by decide)
  case governorTick measured temps hubTemp => exact OutEff.mono (execGovernorTick_eff measured temps hubTemp s) (by decide)
  case freqStepChange cl => exact OutEff.mono (execFreqStepChange_eff cl s) (by decide)
  case overPowerSignal => exact OutEff.mono (execOverPowerSignal_eff s) (by decide)
  case holdEnd => exact OutEff.mono (execHoldEnd_eff s) (by decide)
  case thermThrottle hottest => exact OutEff.mono (execThermThrottle_eff hottest s) (by decide)
  case thermHold hottest => exact OutEff.mono (execThermHold_eff hottest s) (by decide)
  case thermTrip hottest => exact OutEff.mono (execThermTrip_eff hottest s) (by decide)
  case faultMessage m => exact OutEff.mono (execFaultMessage_eff m s) (by decide)
  case clusterRetirementReset cl => exact OutEff.mono (execClusterRetirementReset_eff cl s) (by decide)
  case faultIrqCoalesce => exact OutEff.mono (execFaultIrqCoalesce_eff s) (by decide)
  case pulseToggle => exact OutEff.mono (execPulseToggle_eff s) (by decide)
  case heartbeatLate => exact OutEff.mono (execHeartbeatLate_eff s) (by decide)
  case wdogCore core => exact OutEff.mono (execWdogCore_eff core s) (by decide)
  case watchdogSecondStage core => exact OutEff.mono (execWatchdogSecondStage_eff core s) (by decide)
  case checkCompare part => exact OutEff.mono (execCheckCompare_eff part s) (by decide)
  case checkVoteDone part pair voter => exact OutEff.mono (execCheckVoteDone_eff part pair voter s) (by decide)
  case windfallSlice cluster trials => exact OutEff.mono (execWindfallSlice_eff cluster trials s) (by decide)
  case marginPlan cluster vMins osc => exact OutEff.mono (execMarginPlan_eff cluster vMins osc s) (by decide)
  case ringOscReading cluster drift => exact OutEff.mono (execRingOscReading_eff cluster drift s) (by decide)
  case partitionReset part cause => exact OutEff.mono (execPartitionReset_eff part cause s) (by decide)
  case partitionResetDone part => exact OutEff.mono (execPartitionResetDone_eff part s) (by decide)
  case pwrGoodRise => exact OutEff.mono (execPwrGoodRise_eff s) (by decide)
  case perstNAssert => exact OutEff.mono (execPerstNAssert_eff s) (by decide)
  case perstNRelease => exact OutEff.mono (execPerstNRelease_eff s) (by decide)
  case moduleReset cause => exact OutEff.mono (execModuleReset_eff cause s) (by decide)
  case startupStageDone r => exact OutEff.mono (execStartupStageDone_eff r s) (by decide)
  case startupFailure reason => exact OutEff.mono (execStartupFailure_eff reason s) (by decide)
  case startupTimeout => exact OutEff.mono (execStartupTimeout_eff s) (by decide)
  case startupTimeWaitExpire => exact OutEff.mono (execStartupTimeWaitExpire_eff s) (by decide)
  case inputPowerLoss => exact OutEff.mono (execInputPowerLoss_eff s) (by decide)
  case railFault => exact OutEff.mono (execRailFault_eff s) (by decide)
  case getVersion => exact OutEff.mono (execGetVersion_eff s) (by decide)
  case getCapabilities => exact OutEff.mono (execGetCapabilities_eff s) (by decide)
  case negotiateAlgorithms asym hash => exact OutEff.mono (execNegotiateAlgorithms_eff asym hash s) (by decide)
  case getDigests slot => exact OutEff.mono (execGetDigests_eff slot s) (by decide)
  case getCertificate slot offset length certKey => exact OutEff.mono (execGetCertificate_eff slot offset length certKey s) (by decide)
  case challenge slot nonce => exact OutEff.mono (execChallenge_eff slot nonce s) (by decide)
  case getMeasurements index nonce => exact OutEff.mono (execGetMeasurements_eff index nonce s) (by decide)
  case keyExchange session dhe => exact OutEff.mono (execKeyExchange_eff session dhe s) (by decide)
  case finish session => exact OutEff.mono (execFinish_eff session s) (by decide)
  case endSession session => exact OutEff.mono (execEndSession_eff session s) (by decide)
  case queryDeviceIdentifiers => exact OutEff.mono (execQueryDeviceIdentifiers_eff s) (by decide)
  case getFirmwareParameters => exact OutEff.mono (execGetFirmwareParameters_eff s) (by decide)
  case requestUpdate component digest => exact OutEff.mono (execRequestUpdate_eff component digest s) (by decide)
  case passComponentTable component svn => exact OutEff.mono (execPassComponentTable_eff component svn s) (by decide)
  case updateComponent component svn => exact OutEff.mono (execUpdateComponent_eff component svn s) (by decide)
  case firmwareDataPiece p => exact OutEff.mono (execFirmwareDataPiece_eff p s) (by decide)
  case activateFirmware => exact OutEff.mono (execActivateFirmware_eff s) (by decide)
  case getStatus => exact OutEff.mono (execGetStatus_eff s) (by decide)
  case cancelUpdateComponent => exact OutEff.mono (execCancelUpdateComponent_eff s) (by decide)
  case cancelUpdate => exact OutEff.mono (execCancelUpdate_eff s) (by decide)
  case batchCloseTimeout => exact OutEff.mono (execBatchCloseTimeout_eff s) (by decide)
  case batchSigned => exact OutEff.mono (execBatchSigned_eff s) (by decide)
  case activationCheck => exact OutEff.mono (execActivationCheck_eff s) (by decide)
  case activationStart => exact OutEff.mono (execActivationStart_eff s) (by decide)
  case activationDrainEnd norOk => exact OutEff.mono (execActivationDrainEnd_eff norOk s) (by decide)
  case lightReturn port => exact OutEff.mono (execLightReturn_eff port s) (by decide)
  case laneLockHeld port lane => exact OutEff.mono (execLaneLockHeld_eff port lane s) (by decide)
  case engineTaskDone kind engine => exact OutEff.mono (execEngineTaskDone_eff kind engine s) (by decide)
  case windfallSliceEnd cluster => exact OutEff.mono (execWindfallSliceEnd_eff cluster s) (by decide)
  case configurationRequest fn req => exact OutEff.mono (execConfigurationRequest_eff fn req s) (by decide)
  case hostReadCompletion fn addr len need answer => exact OutEff.mono (execHostReadCompletion_eff fn addr len need answer s) (by decide)
  case wakeNRelease why => exact OutEff.mono (execWakeNRelease_eff why s) (by decide)

/-- No command may change the queue. -/
theorem pending_not_mem_mayChange (c : Instr) : Comp.pending ∉ mayChange c := by
  cases c <;> simp only [mayChange] <;> decide

/-- A component that `mayChange` does not list is the same in the next state. -/
theorem exec_same {c : Instr} {s t : State} {x : Comp} (h : exec c s = .next t) (hx : x ∉ mayChange c) : x.same s t :=
  (exec_eff c s t h).same x (maskOfComps_testBit.trans (decide_eq_false hx))

/-! ### The step -/

theorem step_nil {s : State} (h : s.pending = []) : step s = .next s.tick := by simp only [step, h]

theorem step_cons {s : State} {c : Instr} {rest : List Instr} (h : s.pending = c :: rest) : step s = exec c (s.behind rest) := by
  simp only [step, h]

end Sys2Proof.Machine

open Sys2Proof.Machine

/-- Settles O1: the step takes the queue apart as the statement writes it. -/
theorem stepRunsFrontCommand : Obligations.StepRunsFrontCommand := fun _ _ _ => rfl

/-- Settles O2: the step on an empty queue is `State.tick`, which writes the clock and the fraction only. -/
theorem idleStepAdvancesTheClock : Obligations.IdleStepAdvancesTheClock := fun s h =>
  ⟨s.tick, step_nil h, rfl, rfl, h, rfl, rfl, (State.tick_eff s).keeps (by decide)⟩

/-- Settles O3: the registers and LPDDR-6 list nothing after reset. -/
theorem resetIsCanonical : Obligations.ResetIsCanonical :=
  ⟨⟨rfl, rfl, rfl⟩, rfl, fun _ => rfl, rfl, rfl⟩

/-- Settles O4: by the queue. The tick and every command keep the canonical forms of the registers and of LPDDR-6's cells, and no command changes what
is left of the queue. -/
theorem stepKeepsCanonical : Obligations.StepKeepsCanonical := by
  unfold Obligations.StepKeepsCanonical
  rintro s t ⟨-, hregs, hcells⟩ hstep
  cases hq : s.pending with
  | nil =>
    obtain rfl : s.tick = t := by simpa only [step_nil hq, Host.Outcome.next.injEq] using hstep
    exact ⟨hq, (State.tick_eff s).regs hregs, (State.tick_eff s).cells hcells⟩
  | cons c rest =>
    rw [step_cons hq] at hstep
    have heff := exec_eff c (s.behind rest) t hstep
    exact ⟨exec_same hstep (pending_not_mem_mayChange c), heff.regs hregs, heff.cells hcells⟩

/-- Settles O5: each row of the dispatch answers a next state, and no row of `mayChange` lists the queue. -/
theorem everyCommandAnswersAndKeepsTheQueue : Obligations.EveryCommandAnswersAndKeepsTheQueue := fun c s =>
  have ⟨t, ht⟩ := exec_answers c s
  ⟨t, ht, exec_same ht (pending_not_mem_mayChange c)⟩

/-- Settles O6: the mask of each command's operation is within the mask of its row of `mayChange`. -/
theorem commandsChangeOnlyTheirComponents : Obligations.CommandsChangeOnlyTheirComponents := fun _ _ _ _ => exec_same

end

section
/-! Register fields under the writes of an operation: which field a write leaves is decided on the keys and bits of the two fields, so that `simp` reads a
field through a row of writes. -/

namespace Sys2Proof.Machine

/-- A command that answers the state of an operation, where that state is `t`. -/
theorem Answers.of {c : Instr} {s u t : State} {P : State → Prop} (h : exec c s = .next u) (he : u = t) (hp : P t) : Answers c s P :=
  ⟨t, h.trans (congrArg _ he), hp⟩

/-- A command that answers the state of an operation. -/
theorem Answers.of_exec {c : Instr} {s t : State} {P : State → Prop} (h : exec c s = .next t) (hp : P t) : Answers c s P := ⟨t, h, hp⟩

/-- Field `g` of entry `j` is not in the register of key `k`. -/
def Fld.notAt (g : Fld) (j k : Nat) : Bool := regKey g.kind g.off j != k

/-- Field `g` of entry `j` is in the register of field `f` of entry `i`, beside its bits. -/
def Fld.beside (f : Fld) (i : Nat) (g : Fld) (j : Nat) : Bool := f.fits && regKey g.kind g.off j == regKey f.kind f.off i && f.apart g

/-- Fields `f` and `g` are in one register, beside each other. -/
def Fld.sibling (f g : Fld) : Bool := f.fits && f.kind == g.kind && f.off == g.off && f.apart g

section
variable {s : State} (hw : Registers.wf s.regs = true)

include hw

theorem State.incSat_regs_wf (f : Fld) (i n : Nat) : Registers.wf (s.incSat f i n).regs = true := sset_wf _ _ hw

theorem State.rd_setReg_notAt {k : Nat} (v : Reg64) {g : Fld} {j : Nat} (h : g.notAt j k = true) : (s.setReg k v).rd g j = s.rd g j := by
  simp only [State.rd, State.reg_setReg_ne hw v (bne_iff_ne.1 h)]

/-- A register set to zero has no field but zero. -/
theorem State.rd_setReg_zero {k : Nat} {g : Fld} {j : Nat} (h : (regKey g.kind g.off j == k) = true) : (s.setReg k 0).rd g j = 0 := by
  simp [State.rd, beq_iff_eq.1 h, State.reg_setReg_same hw, bitsOf_eq]

theorem State.rd_wr_notAt {f : Fld} {i : Nat} (v : Nat) {g : Fld} {j : Nat} (h : g.notAt j (regKey f.kind f.off i) = true) :
    (s.wr f i v).rd g j = s.rd g j := State.rd_wr_ne hw _ _ _ _ _ (bne_iff_ne.1 h)

theorem State.rd_wr_beside {f : Fld} {i : Nat} (v : Nat) {g : Fld} {j : Nat} (h : f.beside i g j = true) : (s.wr f i v).rd g j = s.rd g j := by
  simp only [Fld.beside, Bool.and_eq_true, beq_iff_eq] at h
  obtain ⟨⟨hfits, hkey⟩, hapart⟩ := h
  exact State.rd_wr_apart hw f g i j v hfits hkey hapart

/-- A write leaves the other fields of its register, whichever entry it is for. -/
theorem State.rd_wr_sibling {f : Fld} (i v : Nat) {g : Fld} (h : f.sibling g = true) : (s.wr f i v).rd g i = s.rd g i := by
  simp only [Fld.sibling, Bool.and_eq_true, beq_iff_eq] at h
  obtain ⟨⟨⟨hfits, hkind⟩, hoff⟩, hapart⟩ := h
  exact State.rd_wr_apart hw f g i i v hfits (by rw [hkind, hoff]) hapart

end

theorem State.updHost_rd (s : State) (f : HostIf → HostIf) : (s.updHost f).rd = s.rd := id rfl

/-- The bits of a value fit a field of as many bits. -/
theorem bitsOf_mod (v h l : Nat) : bitsOf v h l % 2 ^ (h + 1 - l) = bitsOf v h l := by
  rw [bitsOf_eq, Nat.mod_mod]

end Sys2Proof.Machine

end

section
/-! The accounting window (R432) and the admin registers (R314). -/

namespace Sys2Proof.Machine

/-! ### The accounting window -/

theorem exec_accClientselWrite (a c : Nat) (s : State) : exec (.accClientselWrite a c) s = .next (s.accSelect a c) := rfl

theorem exec_accRec0Read (a : Nat) (s : State) : exec (.accRec0Read a) s = .next (s.accRead a) := rfl

/-- The snapshots of two accessors, the higher accessor's first. -/
def fallingSnapsState : State := State.reset.putSnaps [(5, []), (3, [])]

/-- A selection by an accessor other than the board manager: its select register takes the client and its snapshot goes. -/
theorem State.accSelect_eq {a : Nat} (ha : a ≠ boardManager) (s : State) (c : Nat) :
    s.accSelect a c = (s.wr ⟨R.accClientselClient.off, .select, 11, 0⟩ a (c % 4096)).putSnaps (adel s.snaps a) := by
  rw [State.accSelect, if_neg ha]

/-- The selected client reads as it was written. -/
theorem State.accSelect_sel {s : State} (hw : Registers.wf s.regs = true) {a c : Nat} (ha : a ≠ boardManager) (hc : c < 4096) :
    (s.accSelect a c).sel a R.accClientselClient % 4096 = c := by
  have hread : bitsOf ((s.wr ⟨R.accClientselClient.off, .select, 11, 0⟩ a (c % 4096)).sel a R.accClientselClient) 11 0 = c % 4096 % 2 ^ 12 :=
    State.rd_wr_same hw ⟨R.accClientselClient.off, .select, 11, 0⟩ a (c % 4096) rfl
  rw [s.accSelect_eq ha, State.sel, State.putSnaps_reg, ← State.sel]
  rw [bitsOf_eq, Nat.pow_zero, Nat.div_one] at hread
  simpa [Nat.mod_eq_of_lt hc] using hread

/-! ### The admin registers -/

theorem exec_hstAdmCfgWrite (a v : Nat) (s : State) : exec (.hstAdmCfgWrite a v) s = .next (s.admCfg a v) := rfl

theorem exec_hstAdmDbWrite (a v : Nat) (s : State) : exec (.hstAdmDbWrite a v) s = .next (s.admDb a v) := rfl

/-- The state after an enable of the admin rings by `v`. -/
def State.admEnabled (s : State) (v : Nat) : State :=
  (((((s.wr R.hstAdmCfgVector 0 (bitsOf v 43 32)).wr R.hstAdmCfgSqLog2 0 (bitsOf v 31 28)).wr R.hstAdmCfgCqLog2 0
    (bitsOf v 27 24)).wr R.hstAdmCfgEn 0 1).setReg (regKey .array R.hstAdmDbSqTail.off 0) 0).updHost
    fun h => { h with admCqTail := 0, admPhase := true }

section
variable {s : State} {v : Nat} (hen : s.rd R.hstAdmCfgEn 0 ≠ 1) (hodd : v % 2 = 1)

include hen hodd

theorem State.admCfg_enables (hsq : bitsOf v 31 28 ≤ 8) (hcq : bitsOf v 27 24 ≤ 8) : s.admCfg 0 v = s.admEnabled v := by
  have hset : s.isSet R.hstAdmCfgEn 0 = false := decide_eq_false hen
  simp [State.admCfg, State.admEnabled, hset, hodd, Nat.not_lt.2 hsq, Nat.not_lt.2 hcq]

/-- An enable with a submission ring out of range is reported and does nothing else. -/
theorem State.admCfg_refuses (hsq : 8 < bitsOf v 31 28) : s.admCfg 0 v = s.badAccess 0 2 := by
  have hset : s.isSet R.hstAdmCfgEn 0 = false := decide_eq_false hen
  simp [State.admCfg, hset, hodd, hsq]

end

/-- The rings are enabled with their sizes and vector, and start afresh. -/
theorem State.admEnabled_fields {s : State} (hw : Registers.wf s.regs = true) (v : Nat) :
    (s.admEnabled v).rd R.hstAdmCfgEn 0 = 1 ∧ (s.admEnabled v).rd R.hstAdmCfgSqLog2 0 = bitsOf v 31 28 ∧
      (s.admEnabled v).rd R.hstAdmCfgCqLog2 0 = bitsOf v 27 24 ∧ (s.admEnabled v).rd R.hstAdmCfgVector 0 = bitsOf v 43 32 ∧
      (s.admEnabled v).rd R.hstAdmDbSqHead 0 = 0 := by
  simp (disch := first | decide | with_reducible apply_rules [State.wr_regs_wf, hw]) only [State.admEnabled, State.updHost_rd,
    State.rd_setReg_zero, State.rd_setReg_notAt, State.rd_wr_same, State.rd_wr_beside]
  exact ⟨rfl, bitsOf_mod .., bitsOf_mod .., bitsOf_mod .., trivial⟩

/-- A report of a bad access leaves every field but its counter. -/
theorem State.badAccess_rd {s : State} (hw : Registers.wf s.regs = true) (m x : Nat) {g : Fld} {j : Nat}
    (h : g.notAt j (regKey .array R.hstErrcntBadAccess.off 0) = true) : (s.badAccess m x).rd g j = s.rd g j :=
  (State.raise_rd ..).trans (State.rd_setReg_notAt hw _ h)

/-- Before start-up fails the admin doorbells take their values. -/
theorem State.admDb_eq {s : State} (h : s.rd R.hstStatState 0 ≠ hsFailed) (v : Nat) :
    s.admDb 0 v = (s.wr R.hstAdmDbCqHead 0 (bitsOf v 31 16)).wr R.hstAdmDbSqTail 0 (v % 2 ^ 16) := by
  rw [State.admDb, if_neg (not_not.2 rfl), if_neg h]

theorem State.admDb_fields {s : State} (hw : Registers.wf s.regs = true) (h : s.rd R.hstStatState 0 ≠ hsFailed) (v : Nat) :
    (s.admDb 0 v).rd R.hstAdmDbSqTail 0 = v % 2 ^ 16 ∧ (s.admDb 0 v).rd R.hstAdmDbCqHead 0 = bitsOf v 31 16 ∧
      (s.admDb 0 v).rd R.hstAdmDbSqHead 0 = s.rd R.hstAdmDbSqHead 0 := by
  simp (disch := first | decide | with_reducible apply_rules [State.wr_regs_wf, hw]) only [State.admDb_eq h, State.rd_wr_same, State.rd_wr_beside]
  exact ⟨Nat.mod_mod .., bitsOf_mod .., trivial⟩

end Sys2Proof.Machine

open Sys2Proof.Machine

/-- Refutes O13: the statement does not ask that the snapshots stand in the order of their accessors. In `fallingSnapsState` accessor 3's snapshot stands
behind accessor 5's and is not found; a write of ACC_CLIENTSEL by accessor 5 takes its own away, and accessor 3's is found. -/
theorem not_accountWindowHoldsItsSnapshot : ¬ Obligations.AccountWindowHoldsItsSnapshot := by
  unfold Obligations.AccountWindowHoldsItsSnapshot
  rintro ⟨-, hselect⟩
  obtain ⟨t, ht, -, hothers⟩ := hselect fallingSnapsState 5 0 1 (by decide) (by decide) (by decide)
  rw [exec_accClientselWrite, Host.Outcome.next.injEq] at ht
  have hfound : aget (fallingSnapsState.accSelect 5 0).snaps 3 = aget fallingSnapsState.snaps 3 := ht ▸ hothers 3 (by decide)
  exact absurd hfound (by decide)

/-- Settles O20: an enable writes the fields of its word and starts the rings afresh, one out of range only reports; the doorbells and the selection write
their own registers; the read of ACC_REC0 keeps the record it answers from. -/
theorem adminAndAccountRegisters : Obligations.AdminAndAccountRegisters := by
  unfold Obligations.AdminAndAccountRegisters
  refine ⟨?enable, ?refused, ?doorbell, ?select, ?read⟩
  case enable =>
    intro s v hw hen hodd hsq hcq
    obtain ⟨hfen, hfsq, hfcq, hfvec, hfhead⟩ := State.admEnabled_fields hw v
    exact Answers.of (exec_hstAdmCfgWrite 0 v s) (State.admCfg_enables hen hodd hsq hcq) ⟨hfen, hfsq, hfcq, hfvec, hfhead, rfl, rfl, rfl⟩
  case refused =>
    intro s v hw hen hodd hsq
    have heff := State.badAccess_eff s 0 2
    exact Answers.of (exec_hstAdmCfgWrite 0 v s) (State.admCfg_refuses hen hodd hsq)
      ⟨State.badAccess_rd hw 0 2 (by decide), heff.same .host rfl, heff.mem rfl rfl⟩
  case doorbell =>
    intro s v hw hstate
    obtain ⟨htail, hcq, hhead⟩ := State.admDb_fields hw hstate v
    exact Answers.of (exec_hstAdmDbWrite 0 v s) rfl ⟨htail, hcq, hhead, by rw [State.admDb_eq hstate]; rfl, by rw [State.admDb_eq hstate]; rfl⟩
  case select =>
    intro s a c hw ha hc
    refine Answers.of_exec (exec_accClientselWrite a c s) ⟨State.accSelect_sel hw ha hc, ?_, ?_⟩
    · rw [s.accSelect_eq ha]
      exact aget_adel_same s.snaps a
    · rw [s.accSelect_eq ha]
      exact ⟨rfl, rfl, rfl⟩
  case read =>
    intro s a
    exact Answers.of_exec (exec_accRec0Read a s) ⟨aget_aput_same s.snaps a _, rfl, rfl, rfl, rfl⟩

end

section
/-! The rings of clients (R302 to R304, R314): their registration and its end, the doorbells, and the fetch of descriptors. -/

namespace Sys2Proof.Machine

/-! ### The admin ring -/

theorem exec_admRingCreate (d : List Byte) (s : State) : exec (.admRingCreate d) s = .next (s.admCreate d) := rfl

theorem exec_admRingDelete (d : List Byte) (s : State) : exec (.admRingDelete d) s = .next (s.admDelete d) := rfl

/-- A vector that is signalled or pending leaves the rings and the requests. -/
theorem State.irq_host (s : State) (fn v : Nat) :
    (s.irq fn v).host.rings = s.host.rings ∧ (s.irq fn v).host.reqs = s.host.reqs := by
  rw [State.irq]
  cases s.msixMasked fn v <;> exact ⟨rfl, rfl⟩

/-- An admin completion entry leaves the rings, the requests, the registers and LPDDR-6. -/
theorem State.admPost_leaves (s : State) (c q st op slot : Nat) :
    (s.admPost c q st op slot).host.rings = s.host.rings ∧ (s.admPost c q st op slot).host.reqs = s.host.reqs ∧
      (s.admPost c q st op slot).rd = s.rd ∧ (s.admPost c q st op slot).mem = s.mem := by
  have heff := State.admPost_eff s c q st op slot
  refine ⟨?_, ?_, State.rd_congr (heff.same .regs rfl), heff.mem rfl rfl⟩
  all_goals
    unfold State.admPost
    extract_lets size tail bytes
    split
    · rw [State.raise_host]
    · simp only [State.irq_host, State.updHost_eq, State.putHost_host]

theorem State.ring_congr {s t : State} (h : t.host.rings = s.host.rings) : t.ring = s.ring := by
  funext c
  rw [State.ring, State.ring, h]

theorem State.admTake_regs_wf {s : State} (hw : Registers.wf s.regs = true) : Registers.wf s.admTake.1.regs = true := State.wr_regs_wf hw ..

/-- A registered client's ring is the descriptor's; its register says so, with head and tail at zero. -/
theorem State.register_fields {s : State} (hw : Registers.wf s.regs = true) (c : Nat) (x : Ring) :
    (s.register c x).rd R.hstRingReg c = 1 ∧ (s.register c x).rd R.hstRingSqHead c = 0 ∧ (s.register c x).rd R.hstRingCqTail c = 0 := by
  simp only [State.register]
  generalize hu : (s.updHost fun h => { h with rings := aput h.rings c x }) = u
  have hwu : Registers.wf u.regs = true := hu ▸ hw
  simp (disch := first | decide | with_reducible apply_rules [State.wr_regs_wf, hwu]) only [State.rd_wr_same, State.rd_wr_sibling]
  exact ⟨rfl, rfl, rfl⟩

/-- A client whose rings go has none, and its register says so. -/
theorem State.deregister_reg {s : State} (hw : Registers.wf s.regs = true) (c : Nat) : (s.deregister c).rd R.hstRingReg c = 0 := by
  have hwu : ∀ f, Registers.wf (s.updHost f).regs = true := fun _ => hw
  rw [State.deregister, State.rd_wr_sibling (State.wr_regs_wf (hwu _) ..) c 0 (by decide), State.rd_wr_same (hwu _) _ _ _ rfl, Nat.zero_mod]

/-- With no completion of a delete pending, the one that becomes pending for a client without requests completes at once. -/
theorem State.admSettle_eq {s : State} {c q slot : Nat} (hp : s.host.admPending = [(c, q, slot)]) (hn : ∀ r ∈ s.host.reqs, r.client ≠ c) :
    s.admSettle c = ((s.updHost fun h => { h with admPending := h.admPending.filter fun x => x ≠ (c, q, slot) }).deregister c).admPost c q 0 0x81 slot := by
  have hfind : (s.host.admPending.find? fun e => e.1 = c) = some (c, q, slot) := by simp [hp]
  have hnone : s.inflight c = 0 := by simpa [State.inflight] using hn
  simp only [State.admSettle, hfind, hnone, ne_eq, not_true_eq_false, if_false]

/-- A client without requests has none to end as under R300. -/
theorem State.orphanClient_eq_self {s : State} {c : Nat} (hn : ∀ r ∈ s.host.reqs, r.client ≠ c) : s.orphanClient c = s := by
  have hnone : (s.host.reqs.filter fun r => r.client = c) = [] := by simpa using hn
  rw [State.orphanClient, hnone]
  rfl

/-- The create descriptor of a bound client without rings registers them. -/
theorem State.admCreate_eq {s : State} {d : List Byte} (hdue : s.admDue = true) (hop : fieldLe d 0 1 = 0x80) (hgood : goodCreate d = true)
    (hfn : s.clientFn (fieldLe d 2 2) = some (fieldLe d 42 1)) (hnone : s.ring (fieldLe d 2 2) = none) (hvfs : fieldLe d 42 1 ≤ s.host.vfs) :
    s.admCreate d =
      (s.admTake.1.register (fieldLe d 2 2) (ringOf d)).admPost (fieldLe d 2 2) (fieldLe d 4 4) stOk (fieldLe d 0 1) s.admTake.2 := by
  have hst : s.createStatus d = stOk := by simp [State.createStatus, hop, hgood, hfn, hnone, Nat.not_lt.2 hvfs]
  simp [State.admCreate, hdue, hop, hst]

/-- The state in which a delete of client `c`'s rings waits for the end of its requests. -/
def State.deleting (s : State) (c q slot : Nat) : State :=
  s.updHost fun h => { h with
    rings := amod h.rings c fun x => { x with deleting := true }
    admPending := h.admPending ++ [(c, q, slot)]
    fetched := h.fetched.filter fun f => f.client ≠ c
    cq := h.cq.filter fun e => e.client ≠ c }

/-- The delete descriptor of a client without requests, and without FORCE without entries held, deregisters its rings. -/
theorem State.admDelete_eq {s : State} {d : List Byte} {c : Nat} (hdue : s.admDue = true) (hop : fieldLe d 0 1 = 0x81) (hforce : fieldLe d 1 1 ≤ 1)
    (hc : c = fieldLe d 2 2) (hlt : c < 4096) (hres : leNat (slice d 8 56) = 0) (hring : (s.ring c).isSome = true)
    (hn : ∀ r ∈ s.host.reqs, r.client ≠ c) (hheld : fieldLe d 1 1 = 1 ∨ ∀ e ∈ s.host.cq, e.client ≠ c) :
    s.admDelete d = (s.admTake.1.deleting c (fieldLe d 4 4) s.admTake.2).admSettle c := by
  have hnone : s.inflight c = 0 := by simpa [State.inflight] using hn
  have hkept : ¬ ((s.inflight c ≠ 0 ∨ (s.host.cq.any fun e => e.client = c) = true) ∧ fieldLe d 1 1 = 0) := by
    rintro ⟨hbusy, hzero⟩
    rcases hheld with hone | hfree
    · omega
    · simp only [hnone, ne_eq, not_true_eq_false, false_or, List.any_eq_true, decide_eq_true_eq] at hbusy
      obtain ⟨e, he, hce⟩ := hbusy
      exact hfree e he hce
  have hst : s.deleteStatus d = none := by
    have hwrong : ¬ (1 < fieldLe d 1 1 ∨ 4096 ≤ c ∨ leNat (slice d 8 56) ≠ 0) := by omega
    have hthere : ¬ (s.ring c).isNone = true := by rw [Option.isNone_eq_false_iff.2 hring]; decide
    simp only [State.deleteStatus, ← hc, if_neg hwrong, if_neg hthere, if_neg hkept]
  have hn' : ∀ r ∈ (s.admTake.1.deleting c (fieldLe d 4 4) s.admTake.2).host.reqs, r.client ≠ c := hn
  have hgo : ¬ ((!s.admDue) = true ∨ fieldLe d 0 1 ≠ 0x81) := by simp [hdue, hop]
  simp only [State.admDelete, if_neg hgo, hst, ← hc]
  exact congrArg (fun t : State => t.admSettle c) (State.orphanClient_eq_self hn')

/-! ### Doorbells -/

/-- The state with client `c`'s ring, where it has one, changed. -/
def State.modRing (s : State) (c : Nat) (f : Ring → Ring) : State := s.updHost fun h => { h with rings := amod h.rings c f }

theorem State.modRing_ring_same {s : State} {c : Nat} {x : Ring} (h : s.ring c = some x) (f : Ring → Ring) : (s.modRing c f).ring c = some (f x) := by
  have hring : (s.modRing c f).ring c = (s.ring c).map f := aget_amod_same s.host.rings c f
  rw [hring, h, Option.map_some]

theorem State.modRing_ring_ne (s : State) {c j : Nat} (f : Ring → Ring) (h : j ≠ c) : (s.modRing c f).ring j = s.ring j :=
  aget_amod_ne s.host.rings f h

theorem exec_sqTail (fn c v : Nat) (s : State) : exec (.sqTail fn c v) s = .next (s.sqTail fn c v) := rfl

theorem exec_cqHead (fn c v : Nat) (s : State) : exec (.cqHead fn c v) s = .next (s.cqHead fn c v) := rfl

/-- A doorbell wakes no module that runs. -/
theorem State.doorbellWake_of_run {s : State} (h : s.rd R.pwrStatModule 0 = 0) (fn : Nat) : s.doorbellWake fn = s := by
  have hentering : s.rd R.pwrStatModule 0 ≠ msEntering := by rw [h]; decide
  have hwatch : s.rd R.pwrStatModule 0 ≠ msWatch := by rw [h]; decide
  rw [State.doorbellWake, if_neg hentering, State.wakeWatch, if_pos (Or.inl hwatch)]

section
variable {s : State} {fn c v : Nat} {x : Ring} (hready : s.rd R.hstStatState 0 = hsReady) (hring : s.ring c = some x)

include hready hring

theorem State.sqTail_eq (hrun : s.moduleRun = true) (hfn : s.clientFn c = some fn) (hdel : x.deleting = false) (hv : v < x.sqSize) :
    s.sqTail fn c v = s.modRing c fun r => { r with sqTail := v } := by
  have hok : s.doorbellOk fn c v Ring.sqSize = true := by simp [State.doorbellOk, hring, hfn, hdel, hv]
  simp only [State.sqTail, hready, hok, ne_eq, not_true_eq_false, if_false, Bool.not_true, Bool.false_eq_true]
  exact State.doorbellWake_of_run (s := s.modRing c _) (of_decide_eq_true hrun) fn

/-- A value outside the ring moves nothing. -/
theorem State.sqTail_denied (hv : x.sqSize ≤ v) : s.sqTail fn c v = s.doorbellDenied fn := by
  have hok : s.doorbellOk fn c v Ring.sqSize = false := by simp [State.doorbellOk, hring, Nat.not_lt.2 hv]
  simp [State.sqTail, hready, hok]

/-- The release of completion entries moves the head, and ends CQ_FULL where the ring has room. -/
theorem State.cqHead_eq (hw : Registers.wf s.regs = true) (hrun : s.moduleRun = true) (hfn : s.clientFn c = some fn) (hdel : x.deleting = false)
    (hv : v < x.cqSize) : ∃ rs, s.cqHead fn c v = (s.modRing c fun r => { r with cqHead := v }).putRegs rs := by
  have hok : s.doorbellOk fn c v Ring.cqSize = true := by simp [State.doorbellOk, hring, hfn, hdel, hv]
  have hc : c < 4096 := by
    by_contra hge
    simp [State.clientFn, hge] at hfn
  simp only [State.cqHead, hready, hok, ne_eq, not_true_eq_false, if_false, Bool.not_true, Bool.false_eq_true]
  rw [← State.modRing]
  generalize hu : (s.modRing c fun r => { r with cqHead := v }) = u
  have hregs : u.regs = s.regs := hu ▸ rfl
  have hurun : u.rd R.pwrStatModule 0 = 0 := by rw [State.rd_congr hregs]; exact of_decide_eq_true hrun
  split_ifs
  · exact ⟨u.regs, State.doorbellWake_of_run hurun fn⟩
  · refine ⟨_, State.doorbellWake_of_run (s := u.wr R.hstRingCqFull c 0) ?_ fn⟩
    have hkey : R.pwrStatModule.notAt 0 (regKey R.hstRingCqFull.kind R.hstRingCqFull.off c) = true := by
      rw [Fld.notAt, bne_iff_ne]
      change 0x700008 + 8 * 0 ≠ 0x8000 + 8 * c
      omega
    rw [State.rd_wr_notAt (hregs ▸ hw) 0 hkey, hurun]

end

/-! ### The fetch of descriptors -/

theorem exec_descriptorFetch (c : Nat) (s : State) : exec (.descriptorFetch c) s = .next (s.fetch c) := rfl

/-- The next descriptor of a ring with room for it is asked for. -/
theorem State.fetch_eq {s : State} {c : Nat} {x : Ring} (hready : s.rd R.hstStatState 0 = hsReady) (hrun : s.moduleRun = true)
    (hfetch : s.faults.fetchStopped = false) (hdrain : s.upd.draining = none) (hring : s.ring c = some x) (hdel : x.deleting = false)
    (hfull : s.rd R.hstRingCqFull c ≠ 1) (hroom : s.inflight c + (s.host.fetched.filter fun f => f.client = c).length < 4096)
    (htail : s.rd R.hstRingSqHead c ≠ x.sqTail) :
    s.fetch c = (s.updHost fun h => { h with
      fetched := h.fetched ++ [⟨c, s.rd R.hstRingSqHead c, none, false, false, false⟩]
      reads := h.reads ++ [⟨s.fnOf c, x.pasid, x.sqBase + 64 * s.rd R.hstRingSqHead c, 64, .descriptor c⟩] }).wr
        R.hstRingSqHead c ((s.rd R.hstRingSqHead c + 1) % x.sqSize) := by
  have hset : s.isSet R.hstRingCqFull c = false := decide_eq_false hfull
  simp [State.fetch, hring, hready, hrun, hfetch, hdrain, hdel, hset, Nat.not_le.2 hroom, htail]

end Sys2Proof.Machine

open Sys2Proof.Machine

/-- Settles O16: each command in its case is one operation on the state with the next admin descriptor taken, or on the client's ring. -/
theorem ringCommandsComplete : Obligations.RingCommandsComplete := by
  unfold Obligations.RingCommandsComplete
  refine ⟨?create, ?delete, ?tail, ?denied, ?head, ?fetch⟩
  case create =>
    rintro s d c hw hdue hop hgood rfl hfn hnone hvfs
    obtain ⟨hrings, hreqs, hrd, hmem⟩ := (s.admTake.1.register (fieldLe d 2 2) (ringOf d)).admPost_leaves (fieldLe d 2 2) (fieldLe d 4 4) stOk
      (fieldLe d 0 1) s.admTake.2
    obtain ⟨hreg, hhead, htail⟩ := State.register_fields (State.admTake_regs_wf hw) (fieldLe d 2 2) (ringOf d)
    refine Answers.of (exec_admRingCreate d s) (State.admCreate_eq hdue hop hgood hfn hnone hvfs) ⟨⟨ringOf d, ?_, rfl, rfl, rfl, rfl, rfl, rfl⟩,
      ?_, ?_, ?_, ?_, hreqs, hmem⟩
    · rw [State.ring_congr hrings]
      exact aget_aput_same ..
    · intro j hj
      rw [State.ring_congr hrings]
      exact aget_aput_ne _ _ hj
    · rw [hrd, hreg]
    · rw [hrd, hhead]
    · rw [hrd, htail]
  case delete =>
    intro s d c hw hdue hop hforce hc hlt hres hring hn hheld
    have hpending : s.host.admPending = [] := by
      simp only [State.admDue, Bool.and_eq_true, List.isEmpty_iff] at hdue
      exact hdue.1.2
    have hp : (s.admTake.1.deleting c (fieldLe d 4 4) s.admTake.2).host.admPending = [(c, fieldLe d 4 4, s.admTake.2)] :=
      congrArg (· ++ [(c, fieldLe d 4 4, s.admTake.2)]) hpending
    refine Answers.of (exec_admRingDelete d s) ((State.admDelete_eq hdue hop hforce hc hlt hres hring hn hheld).trans (State.admSettle_eq hp hn)) ?_
    generalize hu : ((s.admTake.1.deleting c (fieldLe d 4 4) s.admTake.2).updHost fun h => { h with
      admPending := h.admPending.filter fun x => x ≠ (c, fieldLe d 4 4, s.admTake.2) }) = u
    obtain ⟨hrings, hreqs, hrd, hmem⟩ := (u.deregister c).admPost_leaves c (fieldLe d 4 4) 0 0x81 s.admTake.2
    have hwu : Registers.wf u.regs = true := hu ▸ State.admTake_regs_wf hw
    refine ⟨?_, ?_, hreqs.trans (hu ▸ rfl), hmem.trans (hu ▸ rfl)⟩
    · rw [State.ring_congr hrings]
      exact aget_adel_same u.host.rings c
    · rw [hrd, State.deregister_reg hwu]
  case tail =>
    intro s fn c v x hready hrun hring hfn hdel hv
    refine Answers.of (exec_sqTail fn c v s) (State.sqTail_eq hready hring hrun hfn hdel hv) ?_
    exact ⟨State.modRing_ring_same hring _, fun j hj => s.modRing_ring_ne _ hj, rfl, rfl⟩
  case denied =>
    intro s fn c v x hw hready hring hv hcount
    refine Answers.of (exec_sqTail fn c v s) (State.sqTail_denied hready hring hv) ⟨State.raise_host .., ?_, ?_⟩
    · exact (State.raise_rd ..).trans ((State.rd_wr_same hw _ _ _ rfl).trans (Nat.mod_eq_of_lt hcount))
    · exact State.raise_mem ..
  case head =>
    intro s fn c v x hw hready hrun hring hfn hdel hv
    obtain ⟨rs, heq⟩ := State.cqHead_eq hready hring hw hrun hfn hdel hv
    refine Answers.of (exec_cqHead fn c v s) heq ?_
    exact ⟨State.modRing_ring_same hring _, fun j hj => s.modRing_ring_ne _ hj, rfl⟩
  case fetch =>
    intro s c x hw hready hrun hfetch hdrain hring hdel hfull hroom htail
    refine Answers.of (exec_descriptorFetch c s) (State.fetch_eq hready hrun hfetch hdrain hring hdel hfull hroom htail) ⟨rfl, rfl, ?_, rfl⟩
    intro hsize hpos
    refine (State.rd_wr_same hw _ _ _ rfl).trans (Nat.mod_eq_of_lt ?_)
    exact (Nat.mod_lt _ hpos).trans_le hsize

end

section
/-! The write of a whole word at a memory controller (R226, R257). -/

namespace Sys2Proof.Machine

theorem exec_memoryAccess (w req : Nat) (op : MemOp) (s : State) : exec (.memoryAccess w req op) s = .next (s.memAccess w req op) := rfl

/-- The memory after a write of the codeword of `bytes` to word `w`. -/
def State.wordWritten (s : State) (w : Nat) (bytes : List Byte) : State :=
  s.updMem fun m => m.written s.now [w / 4] (putWord m.cells w (encodeWord bytes))

/-- A write that passes its arbiter stores the word's codeword and is acknowledged. -/
theorem State.memAccess_write_eq {s : State} {w req a : Nat} {bytes : List Byte} (haddr : s.devAddrOf w = some a) (hbacked : s.backed a = true)
    (hpass : s.mayPass (arbMem (wordChan w)) req = true) (hlen : bytes.length = 16) :
    s.memAccess w req (.write bytes) = ((s.passed (arbMem (wordChan w))).wordWritten w bytes).ackWrite w req := by
  have htake : bytes.take 16 = bytes := List.take_of_length_le hlen.le
  simp only [State.memAccess, haddr, hbacked, hpass, Bool.not_true, Bool.false_eq_true, if_false, htake, mergeWord, hlen, Nat.lt_irrefl, if_true,
    State.wordWritten]

end Sys2Proof.Machine

open Sys2Proof.Machine

/-- Settles O14: passing the arbiter and acknowledging the write change the package only, so LPDDR-6 is left as the store of the word leaves it. -/
theorem wordWriteStoresItsCodeword : Obligations.WordWriteStoresItsCodeword := by
  unfold Obligations.WordWriteStoresItsCodeword
  intro s w req a bytes hwf haddr hbacked hpass hlen
  have hpassed := State.passed_eff s (arbMem (wordChan w))
  have hpassedMem := hpassed.mem rfl rfl
  have hack := State.ackWrite_eff ((s.passed (arbMem (wordChan w))).wordWritten w bytes) w req
  have hmem := hack.mem rfl rfl
  have hcells : ((s.passed (arbMem (wordChan w))).wordWritten w bytes).mem.cells = putWord s.mem.cells w (encodeWord bytes) :=
    congrArg (fun m : MemState => putWord m.cells w (encodeWord bytes)) hpassedMem
  have hcode : (encodeWord bytes).length = 18 := by rw [encodeWord_length, hlen]
  refine Answers.of (exec_memoryAccess w req (.write bytes) s) (State.memAccess_write_eq haddr hbacked hpass hlen) ⟨?_, fun x hx => ?_, fun e he => ?_,
    (hack.same .regs rfl).trans (hpassed.same .regs rfl)⟩
  · rw [hmem, hcells, wordAt_putWord_same w _ hwf hcode]
  · rw [hmem, hcells, wordAt_putWord_ne _ hwf hcode hx]
  · rw [hmem] at he
    have hkept := (List.mem_filter.1 he).2
    simpa using hkept

end

section
/-! Completion entries, signals and functions (R294, R299, R300, R307 to R309, R364). -/

namespace Sys2Proof.Machine

/-! ### Signals -/

/-- A signal leaves the DMA, the entries that wait, the requests and the functions in D3hot. -/
theorem State.signal_host (s : State) (c : Nat) : (s.signal c).host.dma = s.host.dma ∧ (s.signal c).host.cq = s.host.cq ∧
    (s.signal c).host.reqs = s.host.reqs ∧ (s.signal c).host.d3 = s.host.d3 := by
  rw [State.signal]
  cases s.ring c with
  | none => exact ⟨rfl, rfl, rfl, rfl⟩
  | some r =>
    dsimp only [State.irq]
    cases s.msixMasked (s.fnOf c) r.vector <;> exact ⟨rfl, rfl, rfl, rfl⟩

section
variable {s : State} {c : Nat} {x : Ring} (h : s.ring c = some x)

include h

/-- The vector of a ring's client is signalled, or pending where it is masked. -/
theorem State.signal_irqs : (s.signal c).host.irqs = s.host.irqs ++ (if s.msixMasked (s.fnOf c) x.vector then [] else [⟨s.fnOf c, x.vector⟩]) := by
  simp only [State.signal, h, State.irq]
  cases s.msixMasked (s.fnOf c) x.vector
  · rfl
  · exact (List.append_nil _).symm

theorem State.signal_pba (hmask : s.msixMasked (s.fnOf c) x.vector = true) (hpba : swf false s.host.pba = true) :
    sget false (s.signal c).host.pba (2 ^ 14 * s.fnOf c + x.vector) = true := by
  simp only [State.signal, h, State.irq, hmask, if_true]
  exact sget_sset_same _ _ hpba

/-- After a signal no entry of the ring is unsignalled. -/
theorem State.signal_ring : (s.signal c).ring c = some { x with unsignalled := 0 } := by
  have hirq : (s.irq (s.fnOf c) x.vector).ring c = some x := (congrFun (State.ring_congr (s.irq_host (s.fnOf c) x.vector).1) c).trans h
  have heq : s.signal c = (s.irq (s.fnOf c) x.vector).modRing c fun r => { r with unsignalled := 0 } := by simp only [State.signal, h, State.modRing]
  rw [heq, State.modRing_ring_same hirq]

end

/-! ### Completion entries -/

theorem exec_completionPost (c : Nat) (s : State) : exec (.completionPost c) s = .next (s.post c).settleTrees.reap := rfl

theorem exec_irqModerationTimeout (c : Nat) (s : State) : exec (.irqModerationTimeout c) s = .next (s.irqTimeout c) := rfl

/-- An entry's bytes depend on the registers and the clock only. -/
theorem State.entryBytes_congr {s t : State} (hregs : t.regs = s.regs) (hnow : t.now = s.now) : t.entryBytes = s.entryBytes := by
  funext e phase
  rw [State.entryBytes, State.entryBytes, State.rd_congr hregs, hnow]

theorem State.fnOf_congr {s t : State} (hregs : t.regs = s.regs) : t.fnOf = s.fnOf := by
  funext c
  rw [State.fnOf, State.fnOf, State.clientFn, State.clientFn, State.isSet_congr hregs, State.rd_congr hregs]

/-- An entry that is written goes to its ring's next slot and waits no more. -/
theorem State.writeEntry_host (s : State) (e : CqEntry) (r : Ring) :
    (s.writeEntry e r).host.dma = s.host.dma ++ [⟨s.fnOf e.client, r.pasid, r.cqBase + 32 * s.rd R.hstRingCqTail e.client, false, s.entryBytes e r.phase⟩] ∧
      (s.writeEntry e r).host.cq = dropFirst (fun x => x.client = e.client) s.host.cq ∧ (s.writeEntry e r).host.reqs = s.host.reqs := by
  unfold State.writeEntry
  extract_lets c tail charged written moved full
  have hcharge : Eff 4294967360 s charged := by
    simp only [charged]
    split
    · exact Eff.refl ..
    · exact State.charge_eff ..
  have hregs : charged.regs = s.regs := hcharge.same .regs rfl
  have hhost : charged.host = s.host := hcharge.same .host rfl
  have hwritten : written.host.dma =
        s.host.dma ++ [⟨s.fnOf e.client, r.pasid, r.cqBase + 32 * s.rd R.hstRingCqTail e.client, false, s.entryBytes e r.phase⟩] ∧
      written.host.cq = dropFirst (fun x => x.client = e.client) s.host.cq ∧ written.host.reqs = s.host.reqs := by
    rw [← hhost, ← State.fnOf_congr hregs, ← State.entryBytes_congr hregs (hcharge.same .now rfl)]
    exact ⟨rfl, rfl, rfl⟩
  have hfull : full.host = written.host := by
    simp only [full]
    split <;> rfl
  rw [← hfull] at hwritten
  split
  · obtain ⟨hdma, hcq, hreqs, -⟩ := full.signal_host c
    rw [hdma, hcq, hreqs]
    exact hwritten
  · exact hwritten

section
variable {s : State} {c : Nat} {x : Ring} {e : CqEntry} (hring : s.ring c = some x) (hfind : s.host.cq.find? (fun y => y.client = c) = some e)

include hring hfind

/-- An interim entry is written where its ring has a slot. -/
theorem State.post_interim (hslot : (s.rd R.hstRingCqTail c + 1) % x.cqSize ≠ x.cqHead) (hats : s.host.ats = []) (hint : e.interim = true) :
    s.post c = s.writeEntry e x := by
  have hpage : s.writeFails (s.fnOf c) (x.cqBase + 32 * s.rd R.hstRingCqTail c) 32 = false := by simp [State.writeFails, hats]
  simp only [State.post, hring, hfind, if_neg hslot, hpage, Bool.false_eq_true, if_false, hint, Bool.or_true, if_true]

/-- An entry of a full ring is kept. -/
theorem State.post_full (hslot : (s.rd R.hstRingCqTail c + 1) % x.cqSize = x.cqHead) : s.post c = s.wr R.hstRingCqFull c 1 := by
  simp only [State.post, hring, hfind, if_pos hslot]

end

/-- Without an uncorrectable word met at a tree no partition is reset. -/
theorem State.settleTrees_eq_self {s : State} (h : ∀ m ∈ s.trees, m.2.bad = []) : s.settleTrees = s := by
  have hnone : (s.trees.filter fun (e : Nat × MTree) => e.2.bad.any fun b => b.2 = 3) = [] := by
    rw [List.filter_eq_nil_iff]
    intro m hm
    simp [h m hm]
  rw [State.settleTrees, hnone]
  rfl

/-- With every weight set current only retired adapters are freed. -/
theorem State.reap_leaves {s : State} (h : ∀ w ∈ s.weights, w.2.current = true) : Eff 73728 s s.reap := by
  unfold State.reap
  extract_lets freed noted gone
  have hnoted : Eff 73728 s noted := Eff.foldl (fun t a => (State.noteRetired_eff t a).mono rfl) ((State.putAdapters_eff ..).mono rfl)
  have hgone : gone = [] := by
    simp only [gone]
    rw [List.filter_eq_nil_iff, hnoted.same .weights rfl]
    intro w hw
    simp [h w hw]
  rw [hgone]
  exact hnoted

/-- What is freed after a completion leaves the host interface, the registers and LPDDR-6. -/
theorem State.settled_leaves {s : State} (hw : ∀ w ∈ s.weights, w.2.current = true) (ht : ∀ m ∈ s.trees, m.2.bad = []) :
    Eff 73728 s s.settleTrees.reap := by
  rw [State.settleTrees_eq_self ht]
  exact State.reap_leaves hw

/-! ### Functions -/

theorem exec_functionLevelReset (fn : Nat) (how : FnReset) (s : State) : exec (.functionLevelReset fn how) s = .next (s.functionReset fn how) := rfl

theorem exec_functionD0Return (fn : Nat) (s : State) : exec (.functionD0Return fn) s = .next (s.d0Return fn) := rfl

theorem exec_configurationRequest (fn : Nat) (q : CfgReq) (s : State) : exec (.configurationRequest fn q) s = .next (s.configRequest fn q) := rfl

/-- A function without reads has none to stop. -/
theorem State.stopReads_eq_self {s : State} {fn : Nat} (hr : ∀ r ∈ s.host.reads, r.fn ≠ fn) : s.stopReads fn = s := by
  unfold State.stopReads
  extract_lets keys kept
  have hkeys : keys = [] := by
    simp only [keys]
    rw [List.filterMap_eq_nil_iff]
    intro r hrr
    cases r.need <;> simp [hr r hrr]
  have hkept : kept = s := by
    simp only [kept, State.updHost]
    rw [List.filter_eq_self.2 fun r hrr => by simp [hr r hrr]]
    rfl
  rw [hkeys, List.foldl_nil, hkept]

/-- The state after the reset of a function without clients and without reads. -/
def State.fnCleared (s : State) (fn : Nat) (how : FnReset) : State :=
  s.updHost fun h => { h with
    d3 := h.d3.filter (· ≠ fn)
    ats := h.ats.filter (· ≠ fn)
    noXlat := h.noXlat.filter fun e => e.1 ≠ fn
    msix := sclear (fun k => k / 2 ^ 14 = fn) h.msix
    pba := sclear (fun k => k / 2 ^ 14 = fn) h.pba
    linkL0 := if how = .linkDown then false else h.linkL0 }

theorem State.fnReset_eq {s : State} {fn : Nat} (how : FnReset) (hc : ∀ c, s.clientFn c ≠ some fn) (hr : ∀ r ∈ s.host.reads, r.fn ≠ fn) :
    s.fnReset fn how = s.fnCleared fn how := by
  have hclients : s.fnClients fn = [] := by simp [State.fnClients, hc]
  simp only [State.fnReset, hclients, List.foldl_nil, State.stopReads_eq_self hr, State.fnCleared]

theorem State.fnCleared_d3 (s : State) (fn : Nat) (how : FnReset) : fn ∉ (s.fnCleared fn how).host.d3 := by
  simp [State.fnCleared]

/-- A reset of a function wakes no module that is not in Watch. -/
theorem State.functionReset_eq {s : State} {fn : Nat} {how : FnReset} (hc : ∀ c, s.clientFn c ≠ some fn) (hr : ∀ r ∈ s.host.reads, r.fn ≠ fn)
    (hno : s.rd R.pwrStatModule 0 ≠ msWatch ∨ fn ≠ 0 ∨ how ≠ .flr) : s.functionReset fn how = s.fnCleared fn how := by
  rw [State.functionReset, State.fnReset_eq how hc hr]
  split_ifs with hpf
  · have hwatch : (s.fnCleared fn how).rd R.pwrStatModule 0 ≠ msWatch := hno.resolve_right fun h => h.elim (absurd hpf.1) (absurd hpf.2)
    rw [State.wakeWatch, if_pos (Or.inl hwatch)]
  · rfl

/-- The wake of a module in Watch for one cause writes the state, the cause and the count of wakes. -/
theorem State.wakeWatch_regs {s : State} (h : s.rd R.pwrStatModule 0 = msWatch) (c : WakeCause) :
    (s.wakeWatch [c]).regs = (((s.wr R.pwrStatModule 0 msWaking).wr R.pwrWatchCause 0 (2 ^ wakeBit c)).inc R.pwrWatchWakes 0 1).regs := by
  have hgo : ¬ (s.rd R.pwrStatModule 0 ≠ msWatch ∨ [c].isEmpty = true) := by simp [h]
  have hbits : (List.range 5).foldl (fun v i => v + (if [c].any fun c => wakeBit c = i then 2 ^ i else 0)) 0 = 2 ^ wakeBit c := by
    cases c <;> rfl
  rw [State.wakeWatch, if_neg hgo, hbits]
  extract_lets bits woken power faults running
  split_ifs <;> rfl

theorem State.wakeWatch_fields {s : State} (hw : Registers.wf s.regs = true) (h : s.rd R.pwrStatModule 0 = msWatch) (c : WakeCause) :
    (s.wakeWatch [c]).rd R.pwrStatModule 0 = msWaking ∧ (s.wakeWatch [c]).rd R.pwrWatchCause 0 = 2 ^ wakeBit c := by
  have hcause : 2 ^ wakeBit c % 2 ^ R.pwrWatchCause.width = 2 ^ wakeBit c := by cases c <;> rfl
  rw [State.rd_congr (State.wakeWatch_regs h c), State.inc]
  simp (disch := first | decide | with_reducible apply_rules [State.wr_regs_wf, hw]) only [State.rd_wr_same, State.rd_wr_notAt, State.rd_wr_sibling, hcause]
  exact ⟨rfl, trivial⟩

end Sys2Proof.Machine

open Sys2Proof.Machine

/-- Settles O17: an entry that is written, or kept where the ring is full, with what is freed after it; the signals; the reset of a function without
clients; and the answers to configuration requests. -/
theorem completionCommandsComplete : Obligations.CompletionCommandsComplete := by
  unfold Obligations.CompletionCommandsComplete
  refine ⟨?post, ?full, ?timeout, ?reset, ?wake, ?d0, ?retry, ?done⟩
  case post =>
    intro s c x e hw hring hfind hslot hats hint hev hweights htrees
    obtain rfl : e.client = c := by simpa using List.find?_some hfind
    have hpost := State.post_interim hring hfind hslot hats hint
    have hentry := State.writeEntry_eff s e x
    obtain ⟨hdma, hcq, hreqs⟩ := s.writeEntry_host e x
    have hset := State.settled_leaves (s := s.writeEntry e x) (hentry.same .weights rfl ▸ hweights) (hentry.same .trees rfl ▸ htrees)
    have hhost := hset.same .host rfl
    refine Answers.of (exec_completionPost e.client s) (congrArg (fun t : State => t.settleTrees.reap) hpost) ⟨?_, ?_, ?_, ?_⟩
    · rw [hhost, hdma]
    · rw [hhost, hcq]
      exact length_dropFirst _ hfind
    · rw [hhost, hreqs]
    · exact (hset.mem rfl rfl).trans (hentry.mem rfl rfl)
  case full =>
    intro s c x e hw hring hfind hslot hweights htrees
    have hset := State.settled_leaves (s := s.wr R.hstRingCqFull c 1) hweights htrees
    refine Answers.of (exec_completionPost c s) (congrArg (fun t : State => t.settleTrees.reap) (State.post_full hring hfind hslot))
      ⟨?_, hset.same .host rfl, hset.mem rfl rfl⟩
    rw [State.rd_congr (hset.same .regs rfl)]
    exact State.rd_wr_same hw _ _ _ rfl
  case timeout =>
    intro s c x hring hun hdue hd3
    have heq : s.irqTimeout c = s.signal c := by
      simp only [State.irqTimeout, hring]
      exact if_pos ⟨hun, hdue, hd3⟩
    have heff := State.signal_eff s c
    exact Answers.of (exec_irqModerationTimeout c s) heq ⟨State.signal_irqs hring, State.signal_pba hring, State.signal_ring hring,
      (s.signal_host c).1, heff.same .regs rfl, heff.mem rfl rfl⟩
  case reset =>
    intro s fn how hc hr hno
    exact Answers.of (exec_functionLevelReset fn how s) (State.functionReset_eq hc hr hno) ⟨s.fnCleared_d3 fn how, rfl, rfl, rfl, rfl, rfl⟩
  case wake =>
    intro s hw hc hr hwatch
    have heq : s.functionReset 0 .flr = (s.fnCleared 0 .flr).wakeWatch [.cfgReset] := by
      rw [State.functionReset, State.fnReset_eq .flr hc hr]
      exact if_pos ⟨rfl, rfl⟩
    have heff := State.wakeWatch_eff (s.fnCleared 0 .flr) [.cfgReset]
    have hhost := heff.same .host rfl
    obtain ⟨hstate, hcause⟩ := State.wakeWatch_fields (s := s.fnCleared 0 .flr) hw hwatch .cfgReset
    exact Answers.of (exec_functionLevelReset 0 .flr s) heq ⟨hstate, hcause, by rw [hhost]; rfl, by rw [hhost]; rfl, heff.mem rfl rfl⟩
  case d0 =>
    intro s fn c x hd3 hrings hfn hun
    generalize hu : (s.updHost fun h => { h with d3 := h.d3.filter (· ≠ fn) }) = u
    have hfnOf : s.fnOf c = fn := by rw [State.fnOf, hfn, Option.getD_some]
    have hring : u.ring c = some x := by
      have hrings' : u.host.rings = [(c, x)] := hu ▸ hrings
      simp [State.ring, hrings', aget]
    have heq : s.d0Return fn = u.signal c := by
      have hone : (u.host.rings.filter fun (e : Nat × Ring) => e.2.unsignalled ≠ 0 && u.fnOf e.1 = fn) = [(c, x)] := by
        have hrings' : u.host.rings = [(c, x)] := hu ▸ hrings
        have hfnOf' : u.fnOf c = fn := hu ▸ hfnOf
        simp [hrings', hun, hfnOf']
      rw [State.d0Return, if_neg (not_not.2 hd3), hu]
      exact congrArg (List.foldl _ u) hone
    have heff := State.signal_eff u c
    obtain ⟨-, hcq, -, hd3'⟩ := u.signal_host c
    refine Answers.of (exec_functionD0Return fn s) heq ⟨?_, ?_, hcq.trans (hu ▸ rfl), (heff.same .regs rfl).trans (hu ▸ rfl),
      (heff.mem rfl rfl).trans (hu ▸ rfl)⟩
    · rw [hd3', ← hu]
      simp
    · rw [State.signal_irqs hring, ← hu]
      exact hfnOf ▸ rfl
  case retry =>
    intro s fn q hperst hoff hready hfailed
    have heq : s.configRequest fn q = s.cfgAnswer .retry := by simp [State.configRequest, hperst, hoff, hready, hfailed]
    exact Answers.of (exec_configurationRequest fn q s) heq ⟨rfl, rfl, rfl, rfl⟩
  case done =>
    intro s n hperst hoff hready hvfs hn
    have heq : s.configRequest 0 (.enableVfs n) = (s.updHost fun h => { h with vfs := n }).cfgAnswer .configDone := by
      simp [State.configRequest, State.cfgEffect, hperst, hoff, hready, hvfs, Nat.min_eq_left hn]
    exact Answers.of (exec_configurationRequest 0 (.enableVfs n) s) heq ⟨rfl, rfl, rfl, rfl⟩

end

section
/-! Idle, Nap and Watch (R355 to R366). -/

namespace Sys2Proof.Machine

/-! ### Idle and Nap -/

theorem exec_islandIdle (d : Nat) (s : State) : exec (.islandIdle d) s = .next (s.islandIdle d) := rfl
theorem exec_islandWake (d : Nat) (s : State) : exec (.islandWake d) s = .next (s.islandWake d) := rfl
theorem exec_regionNapEntry (g : Nat) (s : State) : exec (.regionNapEntry g) s = .next (s.regionNap g) := rfl
theorem exec_napReturnComplete (d : Nat) (s : State) : exec (.napReturnComplete d) s = .next (s.napReturn d) := rfl

/-- A write to a register keeps everything but the registers. -/
theorem State.wr_keeps (s : State) (f : Fld) (i v : Nat) : Keeps s (s.wr f i v) := (State.wr_eff s f i v).keeps (by decide)

theorem State.islandIdle_eq {s : State} {d : Nat} (h : s.rd R.pwrDstatState d = 0) (hq : s.quiet d = true) :
    s.islandIdle d = s.wr R.pwrDstatState d dsIdle := if_pos ⟨h, hq⟩

theorem State.islandWake_eq {s : State} {d : Nat} (h : s.rd R.pwrDstatState d = dsIdle) : s.islandWake d = s.wr R.pwrDstatState d 0 := if_pos h

theorem State.regionNap_eq {s : State} {g : Nat} (hmode : s.rd R.pwrModeMode (256 + g) = 1) (hrun : s.rd R.pwrDstatState (256 + g) = 0)
    (hfree : s.regionBlocker g = none) : s.regionNap g = (s.wr R.pwrDstatState (256 + g) dsNap).inc R.pwrDstatNaps (256 + g) 1 := by
  have hnap : s.napping (256 + g) = false := by rw [State.napping, hrun]; rfl
  simp only [State.regionNap, regionDomain, hmode, hnap, hfree]
  rfl

/-- A waking domain that is no cluster's is back in Run. -/
theorem State.napReturn_eq {s : State} {d : Nat} (hwaking : d ∈ s.power.waking) (hd : 240 ≤ d) :
    s.napReturn d = (s.updPower fun p => { p with waking := p.waking.filter (· ≠ d) }).wr R.pwrDstatState d 0 := by
  have hnot : ¬ d < 240 := Nat.not_lt.2 hd
  simp only [State.napReturn, hwaking, not_true_eq_false, if_false, hnot, false_and]

/-! ### The entry of Watch -/

theorem exec_watchEntry (s : State) : exec .watchEntry s = .next s.watchEntry := rfl

section
variable {s : State} {k : Nat} (hasked : s.power.watchAsked = some k) (hentering : s.rd R.pwrStatModule 0 = msEntering)

include hasked hentering

theorem State.watchEntry_sleeps (hfree : s.watchBlocker (4096, 0) = none) : s.watchEntry = s.sleep := by
  simp [State.watchEntry, hasked, hentering, hfree]

theorem State.watchEntry_aborts {b : Nat × Nat × Nat} (hblock : s.watchBlocker (4096, 0) = some b) :
    s.watchEntry = s.watchAbort b.1 b.2.1 b.2.2 := by
  simp [State.watchEntry, hasked, hentering, hblock]

end

/-- The ports that send DARK change the fabric and the registers only. -/
theorem State.sendDarks_eff (s : State) : Eff 4294967304 s ((List.range 16).foldl State.sendDark s) :=
  Eff.foldl State.sendDark_eff (Eff.refl _ s)

/-- The module is in Watch after the entry: memory refreshes itself and keeps its cells, the dies are off. -/
theorem State.sleep_holds {s : State} (hw : Registers.wf s.regs = true) : s.sleep.rd R.pwrStatModule 0 = msWatch ∧ s.sleep.mem.selfRefresh = true ∧
    s.sleep.mem.cells = s.mem.cells ∧ s.sleep.power.diesOn = false ∧ s.sleep.power.watchAsked = none ∧ s.sleep.host.linkL0 = false := by
  have hcells : s.sleep.mem.cells = s.mem.cells := (State.sleep_eff s).same .cells rfl
  refine ⟨?_, ?_, hcells, ?_⟩
  all_goals
    unfold State.sleep
    extract_lets dark pkg mem host power slept shown
  · have hdark : Registers.wf dark.regs = true := s.sendDarks_eff.regs hw
    clear_value dark
    have hslept : Registers.wf slept.regs = true := hdark
    clear_value slept
    have hshown : Registers.wf shown.regs = true := State.wr_regs_wf (State.wr_regs_wf (State.wr_regs_wf hslept ..) ..) ..
    rw [State.rd_wr_notAt (State.wr_regs_wf hshown ..) dsWatch (by decide), State.rd_wr_same hshown _ _ _ rfl]
    rfl
  · simp only [shown, slept, State.wr_mem, State.putPower_mem, State.putHost_mem, State.putMem_mem]
  · simp only [shown, slept, State.wr_power, State.wr_host, State.putPower_power, State.putPower_host, State.putHost_host, and_self]

/-- A refusal is shown in registers of its own. -/
theorem State.refuse_module {s : State} (hw : Registers.wf s.regs = true) (m d r u : Nat) :
    (s.refuse m d r u).rd R.pwrStatModule 0 = s.rd R.pwrStatModule 0 := by
  rw [State.refuse, State.raise_rd, State.inc]
  simp (disch := first | decide | with_reducible apply_rules [State.wr_regs_wf, hw]) only [State.rd_wr_notAt]

/-- An entry that aborts has the module on its way back. -/
theorem State.watchAbort_holds {s : State} (hw : Registers.wf s.regs = true) (m r v : Nat) :
    (s.watchAbort m r v).rd R.pwrStatModule 0 = msWaking ∧ (s.watchAbort m r v).power.watchAsked = none ∧ Keeps s (s.watchAbort m r v) := by
  unfold State.watchAbort
  generalize hu : (s.updPower fun p => { p with watchAsked := none }) = u
  have hwu : Registers.wf u.regs = true := hu ▸ hw
  have hasked : u.power.watchAsked = none := hu ▸ rfl
  have hkeep : Keeps s u := hu ▸ ⟨rfl, rfl, rfl, rfl, rfl⟩
  have heff := State.refuse_eff (u.wr R.pwrStatModule 0 msWaking) m moduleDomain r v
  refine ⟨?_, (congrArg PowerState.watchAsked (heff.same .power rfl)).trans hasked, (hkeep.trans (u.wr_keeps ..)).trans (heff.keeps (by decide))⟩
  rw [State.refuse_module (State.wr_regs_wf hwu ..), State.rd_wr_same hwu _ _ _ rfl]
  rfl

/-! ### In Watch -/

theorem exec_watchSample (rs : List Reading) (s : State) : exec (.watchSample rs) s = .next (s.watchSample rs) := rfl
theorem exec_watchHeartbeat (s : State) : exec .watchHeartbeat s = .next s.watchHeartbeat := rfl
theorem exec_watchWake (cs : List WakeCause) (l0 : Bool) (s : State) :
    exec (.watchWake cs l0) s = .next (if s.rd R.pwrStatModule 0 = msWatch then s.watchWake cs l0 else s) := rfl
theorem exec_bmcWakeCommand (s : State) : exec .bmcWakeCommand s = .next (s.wakeWatch [.bmc]) := rfl

/-- A sample that breaches an enabled window wakes the module. -/
theorem State.watchSample_eq {s : State} {rs : List Reading} {n : Nat} (hwatch : s.rd R.pwrStatModule 0 = msWatch)
    (hperiod : s.rd R.pwrWatchPeriod 0 ≠ 0) (hnow : s.now % (s.rd R.pwrWatchPeriod 0 * 10 ^ 6) = 0) (hn : n < 16) (hbreach : s.breached rs n = true) :
    s.watchSample rs = s.wakeWatch [.breach] := by
  have hany : (List.range 16).any (s.breached rs) = true := List.any_eq_true.2 ⟨n, List.mem_range.2 hn, hbreach⟩
  rw [Nat.mul_comm] at hnow
  have hpos : 10 ^ 6 * s.rd R.pwrWatchPeriod 0 ≠ 0 := Nat.mul_ne_zero (by decide) hperiod
  exact if_pos ⟨hwatch, hpos, hnow, hany⟩

/-- A wake keeps the host interface, LPDDR-6, flash, the clusters and the partitions. -/
theorem State.wakeWatch_keeps (s : State) (cs : List WakeCause) : Keeps s (s.wakeWatch cs) := (State.wakeWatch_eff s cs).keeps (by decide)

/-- After a wake the cores run. -/
theorem State.wakeWatch_coreStop {s : State} (h : s.rd R.pwrStatModule 0 = msWatch) (c : WakeCause) : (s.wakeWatch [c]).power.coreStop = false := by
  have hgo : ¬ (s.rd R.pwrStatModule 0 ≠ msWatch ∨ [c].isEmpty = true) := by simp [h]
  rw [State.wakeWatch, if_neg hgo]
  extract_lets bits woken power faults running
  split_ifs <;> rfl

/-! ### The return from Watch -/

theorem exec_watchReturnComplete (l : List Nat) (s : State) : exec (.watchReturnComplete l) s = .next (s.watchReturn l) := rfl

/-- The module and its domain are in Run. -/
def State.InRun (t : State) : Prop :=
  Registers.wf t.regs = true ∧ t.rd R.pwrStatModule 0 = 0 ∧ t.rd R.pwrModeMode moduleDomain = 0

theorem State.InRun.of_regs {t u : State} (h : t.InRun) (hr : u.regs = t.regs) : u.InRun := by
  rwa [State.InRun, hr, State.rd_congr hr]

/-- The state of a partition is in another register. -/
theorem State.InRun.wr_part {t : State} (h : t.InRun) {p : Nat} (hp : p < 64) (v : Nat) : (t.wr R.cfgPstatState p v).InRun := by
  obtain ⟨hw, hmodule, hmode⟩ := h
  have hkey : regKey R.cfgPstatState.kind R.cfgPstatState.off p = 0x200800 + 8 * p := rfl
  have hmoduleKey : R.pwrStatModule.notAt 0 (regKey R.cfgPstatState.kind R.cfgPstatState.off p) = true := by
    rw [Fld.notAt, bne_iff_ne, hkey]
    change 0x700008 + 8 * 0 ≠ _
    omega
  have hmodeKey : R.pwrModeMode.notAt moduleDomain (regKey R.cfgPstatState.kind R.cfgPstatState.off p) = true := by
    rw [Fld.notAt, bne_iff_ne, hkey]
    change 293 * 2 ^ 26 + 0x700140 ≠ _
    omega
  exact ⟨State.wr_regs_wf hw .., (State.rd_wr_notAt hw v hmoduleKey).trans hmodule, (State.rd_wr_notAt hw v hmodeKey).trans hmode⟩

/-- The partitions that are found unavailable or load their programs again, one by one. -/
def State.partReturn (s : State) (p : Nat) : State :=
  if s.rd R.cfgPstatState p = psRun ∧ s.unmapped p then s.wr R.cfgPstatState p psUnavailable else s.reloadProgram p

theorem State.partReturn_eff (s : State) (p : Nat) : Eff 2056 s (s.partReturn p) := by
  rw [State.partReturn]
  exact Eff.ite ((State.wr_eff ..).mono rfl) ((State.reloadProgram_eff ..).mono rfl)

theorem State.InRun.partReturns {t : State} (h : t.InRun) {ps : List Nat} (hp : ∀ p ∈ ps, p < 64) : (ps.foldl State.partReturn t).InRun := by
  induction ps generalizing t with
  | nil => exact h
  | cons p ps ih =>
    refine ih ?_ fun q hq => hp q (List.mem_cons_of_mem _ hq)
    rw [State.partReturn]
    split_ifs
    · exact h.wr_part (hp p List.mem_cons_self) _
    · exact h.of_regs ((State.reloadProgram_eff ..).same .regs rfl)

/-- Back from Watch: the module is in Run, its dies and optics are on, and memory keeps its cells. -/
theorem State.watchReturn_holds {s : State} (hw : Registers.wf s.regs = true) (h : s.rd R.pwrStatModule 0 = msWaking) :
    (s.watchReturn []).rd R.pwrStatModule 0 = 0 ∧ (s.watchReturn []).rd R.pwrModeMode moduleDomain = 0 ∧ (s.watchReturn []).mem.selfRefresh = false ∧
      (s.watchReturn []).power.diesOn = true ∧ (s.watchReturn []).power.opticsOn = true := by
  rw [State.watchReturn, if_neg (not_not.2 h)]
  simp -zeta only [List.foldl_nil]
  extract_lets tested mem host power powered trained run
  change State.rd (run.enabledParts.foldl State.partReturn run) _ _ = 0 ∧ State.rd (run.enabledParts.foldl State.partReturn run) _ _ = 0 ∧
    (run.enabledParts.foldl State.partReturn run).mem.selfRefresh = false ∧ (run.enabledParts.foldl State.partReturn run).power.diesOn = true ∧
    (run.enabledParts.foldl State.partReturn run).power.opticsOn = true
  have heff : Eff 2056 run (run.enabledParts.foldl State.partReturn run) := Eff.foldl State.partReturn_eff (Eff.refl ..)
  have htrain := State.trainPorts_eff powered
  have hwt : Registers.wf trained.regs = true := htrain.regs hw
  have hrun : run.InRun := by
    refine ⟨State.wr_regs_wf (State.wr_regs_wf (State.wr_regs_wf hwt ..) ..) .., ?_, ?_⟩
    · simp (disch := first | decide | with_reducible apply_rules [State.wr_regs_wf, hwt]) only [run, State.rd_wr_notAt, State.rd_wr_same, Nat.zero_mod]
    · simp (disch := first | decide | with_reducible apply_rules [State.wr_regs_wf, hwt]) only [run, State.rd_wr_same, Nat.zero_mod]
  obtain ⟨-, hmodule, hmode⟩ := hrun.partReturns fun p (hp : p ∈ run.enabledParts) => List.mem_range.1 (List.mem_filter.1 hp).1
  have hmem : (run.enabledParts.foldl State.partReturn run).mem = powered.mem := (heff.mem rfl rfl).trans (htrain.mem rfl rfl)
  have hpower : (run.enabledParts.foldl State.partReturn run).power = powered.power := (heff.same .power rfl).trans (htrain.same .power rfl)
  rw [hmem, hpower]
  exact ⟨hmodule, hmode, rfl, rfl, rfl⟩

/-! ### Watch asked for -/

theorem exec_bmcWatchCommand (s : State) : exec .bmcWatchCommand s = .next s.bmcWatch := rfl
theorem exec_enterWatch (c q : Nat) (s : State) : exec (.enterWatch c q) s = .next (s.enterWatch (c, q)) := rfl

theorem State.bmcWatch_eq {s : State} (hrun : s.moduleRun = true) (hfree : s.watchBlocker (4096, 0) = none) :
    s.bmcWatch = (s.updPower fun p => { p with watchAsked := some 4096 }).wr R.pwrStatModule 0 msEntering := by
  simp [State.bmcWatch, hrun, hfree]

theorem State.enterWatch_eq {s : State} {c q : Nat} {r : Req} (h : s.Holds (c, q) 0x38 r) (hmode : r.inl 0 1 = 2)
    (hfree : s.watchBlocker (c, q) = none) :
    s.enterWatch (c, q) = (s.updPower fun p => { p with watchAsked := some c }).endReq (c, q) stOk 0 0 := by
  obtain ⟨hreq, hop, hended, -⟩ := h
  simp [State.enterWatch, hreq, hop, hended, hmode, hfree]

end Sys2Proof.Machine

open Sys2Proof.Machine

/-- Settles O29: each command in its case is one operation, whose registers and power state the lemmas above give. -/
theorem powerStatesComplete : Obligations.PowerStatesComplete := by
  unfold Obligations.PowerStatesComplete
  refine ⟨?idle, ?wake, ?nap, ?napReturn, ?sleep, ?abort, ?sample, ?heartbeat, ?watchWake, ?watchReturn, ?bmcWake, ?bmcWatch, ?enterWatch⟩
  case idle =>
    intro s d hw hrun hq
    exact Answers.of (exec_islandIdle d s) (State.islandIdle_eq hrun hq) ⟨State.rd_wr_same hw _ _ _ rfl, rfl, s.wr_keeps ..⟩
  case wake =>
    intro s d hw hidle
    exact Answers.of (exec_islandWake d s) (State.islandWake_eq hidle) ⟨State.rd_wr_same hw _ _ _ rfl, rfl, s.wr_keeps ..⟩
  case nap =>
    intro s g hw hmode hrun hfree
    refine Answers.of (exec_regionNapEntry g s) (State.regionNap_eq hmode hrun hfree) ⟨?_, rfl, (s.wr_keeps ..).trans (State.wr_keeps ..)⟩
    rw [State.inc, State.rd_wr_sibling (State.wr_regs_wf hw ..) _ _ (by decide)]
    exact State.rd_wr_same hw _ _ _ rfl
  case napReturn =>
    intro s d hw hwaking hd
    refine Answers.of (exec_napReturnComplete d s) (State.napReturn_eq hwaking hd) ⟨State.rd_wr_same (s := s.updPower _) hw _ _ _ rfl, ?_,
      State.wr_keeps (s.updPower _) ..⟩
    simp [State.updPower]
  case sleep =>
    intro s k hw hasked hentering hfree
    have heff := State.sleep_eff s
    obtain ⟨hmodule, hrefresh, hcells, hdies, hnone, hlink⟩ := State.sleep_holds hw
    exact Answers.of (exec_watchEntry s) (State.watchEntry_sleeps hasked hentering hfree) ⟨hmodule, hrefresh, hcells, hdies, hnone, hlink,
      heff.same .flash rfl, heff.same .parts rfl⟩
  case abort =>
    intro s k b hw hasked hentering hblock
    exact Answers.of (exec_watchEntry s) (State.watchEntry_aborts hasked hentering hblock) (State.watchAbort_holds hw ..)
  case sample =>
    intro s rs n hw hwatch hperiod hnow hn hbreach
    obtain ⟨hmodule, hcause⟩ := State.wakeWatch_fields hw hwatch .breach
    exact Answers.of (exec_watchSample rs s) (State.watchSample_eq hwatch hperiod hnow hn hbreach) ⟨hmodule, hcause, s.wakeWatch_keeps _⟩
  case heartbeat =>
    intro s hwatch
    exact Answers.of (exec_watchHeartbeat s) (if_pos hwatch) ⟨rfl, rfl, rfl, rfl, rfl, rfl, rfl, rfl⟩
  case watchWake =>
    intro s l0 hw hwatch
    generalize hu : (s.updHost fun h => { h with linkL0 := l0 }) = u
    have hwu : Registers.wf u.regs = true := hu ▸ hw
    have hwatchu : u.rd R.pwrStatModule 0 = msWatch := hu ▸ hwatch
    obtain ⟨hmodule, hcause⟩ := State.wakeWatch_fields hwu hwatchu .doorbell
    obtain ⟨hhost, hmem, -, hclusters, hparts⟩ := u.wakeWatch_keeps [.doorbell]
    have heq : (if s.rd R.pwrStatModule 0 = msWatch then s.watchWake [.doorbell] l0 else s) = u.wakeWatch [.doorbell] := by
      rw [if_pos hwatch, State.watchWake, hu]
    refine Answers.of (exec_watchWake [.doorbell] l0 s) heq ⟨hmodule, hcause, State.wakeWatch_coreStop hwatchu .doorbell, ?_, ?_, ?_, ?_⟩
    · rw [hhost, ← hu]
      rfl
    · rw [hmem, ← hu]
      rfl
    · rw [hclusters, ← hu]
      rfl
    · rw [hparts, ← hu]
      rfl
  case watchReturn =>
    intro s hw hwaking
    have heff := State.watchReturn_eff s []
    obtain ⟨hmodule, hmode, hrefresh, hdies, hoptics⟩ := State.watchReturn_holds hw hwaking
    exact Answers.of_exec (exec_watchReturnComplete [] s) ⟨hmodule, hmode, hrefresh, heff.same .cells rfl, hdies, hoptics, heff.same .flash rfl⟩
  case bmcWake =>
    intro s hw hwatch
    obtain ⟨hmodule, hcause⟩ := State.wakeWatch_fields hw hwatch .bmc
    exact Answers.of_exec (exec_bmcWakeCommand s) ⟨hmodule, hcause, s.wakeWatch_keeps _⟩
  case bmcWatch =>
    intro s hw hrun hfree
    exact Answers.of (exec_bmcWatchCommand s) (State.bmcWatch_eq hrun hfree) ⟨State.rd_wr_same (s := s.updPower _) hw _ _ _ rfl, rfl,
      State.wr_keeps (s.updPower _) ..⟩
  case enterWatch =>
    intro s c q r h hmode hfree
    have heff := State.endReq_eff (s.updPower fun p => { p with watchAsked := some c }) (c, q) stOk 0 0
    refine Answers.of (exec_enterWatch c q s) (State.enterWatch_eq h hmode hfree) ⟨?_, ?_, State.endReq_clusters ..⟩
    · exact State.endReq_ends (s := s.updPower fun p => { p with watchAsked := some c }) h ..
    · exact congrArg PowerState.watchAsked (heff.same .power rfl)

end

section
/-! Sampled checking, the Windfall test and the margin planner (R396 to R405). -/

namespace Sys2Proof.Machine

/-! ### The map of clusters and partitions -/

/-- From `s` to `t` the registers of the configuration block are left. -/
def SameConfig (s t : State) : Prop := ∀ k, 0x200000 ≤ k → k < 0x300000 → t.reg k = s.reg k

theorem SameConfig.of_regs {s t : State} (h : t.regs = s.regs) : SameConfig s t := fun k _ _ => by rw [State.reg, State.reg, h]

theorem SameConfig.trans {s t u : State} (h : SameConfig s t) (h' : SameConfig t u) : SameConfig s u := fun k hk hk' =>
  (h' k hk hk').trans (h k hk hk')

/-- A register above the block is written. -/
theorem SameConfig.wr {s : State} (hw : Registers.wf s.regs = true) {f : Fld} (hf : 0x300000 ≤ f.off) (i v : Nat) : SameConfig s (s.wr f i v) :=
  fun k _ hk => State.reg_wr_ne hw f i v (by
    unfold regKey
    split <;> omega)

section
variable {s t : State} (h : SameConfig s t)

include h

theorem SameConfig.rd {f : Fld} (hkind : f.kind = .array) (hlo : 0x200000 ≤ f.off) {i : Nat} (hhi : f.off + 8 * i < 0x300000) : t.rd f i = s.rd f i := by
  have hkey : regKey f.kind f.off i = f.off + 8 * i := by rw [hkind]; rfl
  rw [State.rd, State.rd, hkey, h _ (by omega) hhi]

/-- The map of the clusters stands in the block. -/
theorem SameConfig.logicalOf (q : Nat) : t.logicalOf q = s.logicalOf q := by
  unfold State.logicalOf
  refine List.find?_congr fun cl hcl => ?_
  have hlt := List.mem_range.1 hcl
  have hkey : regKey .array R.cfgClmapEnt0.off (cl / 8) = R.cfgClmapEnt0.off + 8 * (cl / 8) := rfl
  have hoff : R.cfgClmapEnt0.off = 0x200100 := rfl
  rw [State.physAll, State.physAll, State.physOf, State.physOf, hkey, h _ (by omega) (by omega)]

/-- So do the partitions. -/
theorem SameConfig.partOf (cl : Nat) : t.partOf cl = s.partOf cl := by
  unfold State.partOf
  refine List.find?_congr fun p hp => ?_
  have hlt := List.mem_range.1 hp
  have hen : R.cfgPartEn.off = 0x200400 := rfl
  have hfirst : R.cfgPartFirst.off = 0x200400 := rfl
  have hquads : R.cfgPartQuads.off = 0x200400 := rfl
  rw [State.partEn, State.partEn, State.isSet, State.isSet, State.partFirst, State.partFirst, State.partSize, State.partSize,
    h.rd (f := R.cfgPartEn) rfl (by omega) (by omega), h.rd (f := R.cfgPartFirst) rfl (by omega) (by omega),
    h.rd (f := R.cfgPartQuads) rfl (by omega) (by omega)]

theorem SameConfig.bind_partOf (q : Nat) : (t.logicalOf q).bind t.partOf = (s.logicalOf q).bind s.partOf := by
  rw [h.logicalOf, funext h.partOf]

end

/-! ### Checks and votes -/

theorem exec_checkCompare (p : Nat) (s : State) : exec (.checkCompare p) s = .next (s.checkCompare p) := rfl
theorem exec_checkVoteDone (p n : Nat) (v : BitVec 64) (s : State) : exec (.checkVoteDone p n v) s = .next (s.voteDone p n v) := rfl

/-- The end of a partition's only check marks it as done. -/
theorem State.checkDone_one {s : State} {p : Nat} {k : Check} (h : (s.part p).checks = [k]) :
    ((s.checkDone p k.pair []).part p).checks = [{ k with done := true }] ∧
      ((s.checkDone p k.pair []).part p).poisonPending = (s.part p).poisonPending := by
  simp [State.checkDone, h]

/-- With every cluster at its step's end and no vote under way the only check of a partition is compared. -/
theorem State.checkCompare_one {s : State} {p : Nat} {k : Check} {rs : List StepRow} (hrun : (s.part p).running = some rs)
    (hnone : s.partClusters p = []) (hk : (s.part p).checks = [k]) (hdone : k.done = false) (hvotes : s.health.votes = []) :
    s.checkCompare p = s.compareOne p k := by
  simp [State.checkCompare, hrun, hnone, hk, hdone, hvotes]

/-- Equal signatures end a check. -/
theorem State.compareOne_equal {s : State} (p : Nat) {k : Check}
    (h : sget 0 (s.cluster k.owner).sigs k.pair = sget 0 (s.cluster k.checker).checkSigs k.slot) :
    s.compareOne p k = (s.inc R.chkPstatChecked p 1).checkDone p k.pair [] := if_pos h

/-- The state after the vote of `v` is taken. -/
def State.voted (s : State) (v : Vote) : State :=
  s.updHealth fun h => { h with votes := h.votes.filter (· ≠ v), lastBusy := sset 0 h.lastBusy v.voter s.now }

/-- A vote that agrees with the owner reports the checker. -/
theorem State.voteDone_owner {s : State} {p q : Nat} {k : Check} (hvotes : s.health.votes = [⟨p, k.pair, q⟩]) (hk : (s.part p).checks = [k])
    (hfree : s.rd R.wftCstatClaimed q ≠ 1) :
    s.voteDone p k.pair (sget 0 (s.cluster k.owner).sigs k.pair) =
      ((s.voted ⟨p, k.pair, q⟩).raise 0x180 (s.checkSite k.checker) 0x7F0 0 6 0).checkDone p k.pair [] := by
  have hset : s.isSet R.wftCstatClaimed q = false := decide_eq_false hfree
  simp only [State.voteDone, hvotes, hk, List.find?_cons, decide_true, Bool.and_self, hset, Bool.false_eq_true, if_false]
  exact if_pos rfl

/-! ### The Windfall test -/

theorem exec_windfallSlice (q : Nat) (l : List (Nat × Nat)) (s : State) : exec (.windfallSlice q l) s = .next (s.windfallSlice q l) := rfl
theorem exec_windfallSliceEnd (q : Nat) (s : State) : exec (.windfallSliceEnd q) s = .next (s.sliceEnd q) := rfl

/-- The state in which the controller holds cluster `q`. -/
def State.claimed (s : State) (q : Nat) : State :=
  (s.updHealth fun h => { h with claimAt := sset 0 h.claimAt q (s.now + 1) }).wr R.wftCstatClaimed q 1

/-- The claim of a cluster is in its own register. -/
theorem State.claimed_fields {s : State} (hw : Registers.wf s.regs = true) (hfree : s.health.claimAt = []) (q : Nat) :
    (s.claimed q).rd R.wftCstatClaimed q = 1 ∧ sget 0 (s.claimed q).health.claimAt q = s.now + 1 ∧ Keeps s (s.claimed q) := by
  refine ⟨State.rd_wr_same (s := s.updHealth _) hw _ _ _ rfl, ?_, State.wr_keeps (s.updHealth _) ..⟩
  have hclaim : (s.claimed q).health.claimAt = sset 0 s.health.claimAt q (s.now + 1) := rfl
  rw [hclaim, hfree]
  exact sget_sset_same _ _ rfl

theorem State.claimed_config {s : State} (hw : Registers.wf s.regs = true) (q : Nat) : SameConfig s (s.claimed q) :=
  SameConfig.wr (s := s.updHealth fun h => { h with claimAt := sset 0 h.claimAt q (s.now + 1) }) hw (by decide) q 1

/-- A slice without trials on a cluster of no partition claims it; one of a cluster that is not idle is counted as forced. -/
theorem State.windfallSlice_nil {s : State} {q : Nat} (hw : Registers.wf s.regs = true) (hfree : s.health.claimAt = [])
    (hpick : s.windfallPick = some q) (hpart : (s.logicalOf q).bind s.partOf = none) :
    s.windfallSlice q [] = s.claimed q ∨ s.windfallSlice q [] = (s.incSat R.wftStatForced 0 1).claimed q := by
  have hgo : ¬ ((!s.health.claimAt.isEmpty) = true ∨ s.windfallPick ≠ some q) := by simp [hfree, hpick]
  rw [State.windfallSlice, if_neg hgo]
  extract_lets idle counted held kept
  have hcounted : counted = s ∨ counted = s.incSat R.wftStatForced 0 1 := by
    simp only [counted]
    split_ifs
    · exact Or.inl rfl
    · exact Or.inr rfl
  have hheld : SameConfig s held := by
    change SameConfig s (counted.claimed q)
    rcases hcounted with hc | hc
    · rw [hc]
      exact State.claimed_config hw q
    · rw [hc]
      exact SameConfig.trans (SameConfig.wr (f := R.wftStatForced) hw (by decide) _ _) (State.claimed_config (State.incSat_regs_wf hw ..) q)
  have hkept : kept = held := by
    simp only [kept, hheld.bind_partOf, hpart]
  rw [hkept, State.segments]
  rcases hcounted with hc | hc
  · exact Or.inl (congrArg (fun t : State => t.claimed q) hc)
  · exact Or.inr (congrArg (fun t : State => t.claimed q) hc)

/-- The end of the slice that holds a cluster of no partition gives it back. -/
theorem State.sliceEnd_holds {s : State} {q u : Nat} (hw : Registers.wf s.regs = true) (hheld : s.health.claimAt = [(q, u + 1)])
    (hpart : (s.logicalOf q).bind s.partOf = none) :
    (s.sliceEnd q).rd R.wftCstatClaimed q = 0 ∧ (s.sliceEnd q).health.claimAt = [] ∧ Keeps s (s.sliceEnd q) := by
  have hat : sget 0 s.health.claimAt q = u + 1 := by simp [hheld, sget]
  have hempty : sset 0 s.health.claimAt q 0 = [] := by simp [hheld, sset]
  rw [State.sliceEnd]
  simp -zeta only [hat]
  extract_lets ended freed
  have hended : Registers.wf ended.regs = true := hw
  have hconfig : SameConfig s freed := SameConfig.wr (s := ended) hended (by decide) q 0
  simp only [hconfig.bind_partOf, hpart]
  exact ⟨State.rd_wr_same hended _ _ _ rfl, hempty, State.wr_keeps ended ..⟩

/-! ### The margin planner -/

theorem exec_marginPlan (q : Nat) (vs : List Nat) (osc : Int) (s : State) : exec (.marginPlan q vs osc) s = .next (s.marginPlan q vs osc) := rfl
theorem exec_ringOscReading (q : Nat) (d : Int) (s : State) : exec (.ringOscReading q d) s = .next (s.ringOsc q d) := rfl

/-- A ceiling whose guardband keeps GB_MAX is the plan's. -/
theorem State.planCeil_first {s : State} {q ceil old v : Nat}
    (h : 5 * newGuard v (s.rd R.ageCfgMargin 0) (Config.vBase q ceil) old ≤ 2 * s.rd R.ageCfgGbMax 0) :
    s.planCeil q ceil old [v] = (s, some (v, newGuard v (s.rd R.ageCfgMargin 0) (Config.vBase q ceil) old, ceil)) := by
  rw [State.planCeil]
  exact if_pos h

/-- A plan that is due and keeps its ceiling sets the guardband and clears the drift. -/
theorem State.marginPlan_holds {s : State} {q v g : Nat} {osc : Int} (hw : Registers.wf s.regs = true) (hearly : q ∈ s.health.early)
    (hheld : sget 0 s.health.claimAt q ≠ 0) (hgood : bitOf (s.rd R.cfgGoodMask (q / 64)) (q % 64) = true)
    (hlive : s.unitRetired (physSite q) 0 = false)
    (hg : g = newGuard v (s.rd R.ageCfgMargin 0) (Config.vBase q (s.rd R.ageCstatStepCeil q)) (s.rd R.ageCstatGuardband q))
    (hmax : 5 * g ≤ 2 * s.rd R.ageCfgGbMax 0) (hlt : g < 256) :
    (s.marginPlan q [v] osc).rd R.ageCstatGuardband q = g ∧ (s.marginPlan q [v] osc).rd R.ageCstatRoDrift q = 0 ∧
      (s.marginPlan q [v] osc).rd R.ageCstatStepCeil q = s.rd R.ageCstatStepCeil q ∧ q ∉ (s.marginPlan q [v] osc).health.early := by
  have hplan := State.planCeil_first (s := s) (q := q) (hg ▸ hmax)
  rw [← hg] at hplan
  have hgo : ¬ ((!(decide (24 * hourNs ≤ s.now - sget 0 s.health.planAt q) || decide (q ∈ s.health.early))) = true ∨
      sget 0 s.health.claimAt q = 0 ∨ (!bitOf (s.rd R.cfgGoodMask (q / 64)) (q % 64)) = true ∨ s.unitRetired (physSite q) 0 = true) := by
    simp [hearly, hheld, hgood, hlive]
  rw [State.marginPlan]
  simp -zeta only [if_neg hgo, hplan]
  extract_lets found start old hours
  have hstart : start = s := rfl
  clear_value start
  subst hstart
  simp -zeta only [found]
  extract_lets plans noted life guarded written logged
  have hnoted : Registers.wf noted.regs = true := hw
  have hnot : q ∉ noted.health.early := by simp [noted]
  have hceil : noted.rd R.ageCstatStepCeil q = start.rd R.ageCstatStepCeil q := rfl
  have hregs : logged.regs = written.regs := (State.logAgeing_eff ..).same .regs rfl
  have hhealth : logged.health = noted.health := (State.logAgeing_eff ..).same .health rfl
  clear_value noted
  have hwritten : written.rd R.ageCstatGuardband q = g ∧ written.rd R.ageCstatRoDrift q = 0 ∧
      written.rd R.ageCstatStepCeil q = start.rd R.ageCstatStepCeil q := by
    have hguard : guarded.rd R.ageCstatGuardband q = g ∧ guarded.rd R.ageCstatRoDrift q = 0 ∧
        guarded.rd R.ageCstatStepCeil q = start.rd R.ageCstatStepCeil q := by
      simp (disch := first | decide | with_reducible apply_rules [State.wr_regs_wf, hnoted]) only [guarded, State.inc, State.rd_wr_same,
        State.rd_wr_sibling, Nat.zero_mod]
      exact ⟨Nat.mod_eq_of_lt hlt, trivial, hceil⟩
    have hguarded : Registers.wf guarded.regs = true := State.wr_regs_wf (State.inc_regs_wf (State.wr_regs_wf hnoted ..) ..) ..
    simp only [written, State.rd_wr_sibling hguarded q _ (show R.ageCstatLife.sibling R.ageCstatGuardband = true by decide),
      State.rd_wr_sibling hguarded q _ (show R.ageCstatLife.sibling R.ageCstatRoDrift = true by decide),
      State.rd_wr_sibling hguarded q _ (show R.ageCstatLife.sibling R.ageCstatStepCeil = true by decide)]
    exact hguard
  rw [← State.rd_congr hregs] at hwritten
  rw [← hhealth] at hnot
  split_ifs
  · simp only [State.raise_rd, State.raise_health]
    exact ⟨hwritten.1, hwritten.2.1, hwritten.2.2, hnot⟩
  · exact ⟨hwritten.1, hwritten.2.1, hwritten.2.2, hnot⟩

theorem State.ringOsc_eq (s : State) {q : Nat} (d : Int) (h : q ∉ s.health.early) :
    s.ringOsc q d = if d < -20 then (s.wr R.ageCstatRoDrift q (d % 256).toNat).updHealth fun h => { h with early := h.early ++ [q] }
      else s.wr R.ageCstatRoDrift q (d % 256).toNat := by
  have hnot : q ∉ (s.wr R.ageCstatRoDrift q (d % 256).toNat).health.early := h
  simp only [State.ringOsc, hnot, not_false_eq_true, and_true]

end Sys2Proof.Machine

open Sys2Proof.Machine

/-- Settles O32: the check that compares, the vote that agrees with the owner, the slice's claim and its end, the plan and the reading are one operation
each. -/
theorem healthCommandsComplete : Obligations.HealthCommandsComplete := by
  unfold Obligations.HealthCommandsComplete
  refine ⟨?compare, ?vote, ?slice, ?sliceEnd, ?plan, ?ring⟩
  case compare =>
    intro s p k rs _ hrun hnone hk hdone hvotes heq
    have heff := State.checkDone_eff (s.inc R.chkPstatChecked p 1) p k.pair []
    obtain ⟨hchecks, hpoison⟩ := State.checkDone_one (s := s.inc R.chkPstatChecked p 1) hk
    exact Answers.of (exec_checkCompare p s) ((State.checkCompare_one hrun hnone hk hdone hvotes).trans (State.compareOne_equal p heq))
      ⟨hchecks, hpoison, (congrArg HealthState.votes (heff.same .health rfl)).trans hvotes, heff.same .host rfl, heff.mem rfl rfl⟩
  case vote =>
    intro s p q k hvotes hk hfree
    generalize hu : s.voted ⟨p, k.pair, q⟩ = u
    generalize hr : u.raise 0x180 (s.checkSite k.checker) 0x7F0 0 6 0 = r
    have huparts : u.parts = s.parts := hu ▸ rfl
    have hraise := State.raise_eff u 0x180 (s.checkSite k.checker) 0x7F0 0 6 0
    rw [hr] at hraise
    have hrparts : r.part = s.part := by
      funext j
      rw [State.part, State.part, show r.parts = u.parts from hraise.same .parts rfl, huparts]
    have hdone := State.checkDone_eff r p k.pair []
    obtain ⟨hchecks, hpoison⟩ := State.checkDone_one (s := r) (p := p) (k := k) (by rw [hrparts, hk])
    have hnone : u.health.votes = [] := by simp [← hu, State.voted, State.updHealth, hvotes]
    have heq := State.voteDone_owner hvotes hk hfree
    rw [hu, hr] at heq
    refine Answers.of (exec_checkVoteDone p k.pair _ s) heq ⟨?_, hchecks, hpoison.trans (by rw [hrparts]), fun hroom => ?_, ?_, ?_, ?_⟩
    · rw [show (r.checkDone p k.pair []).health = r.health from hdone.same .health rfl, show r.health = u.health from hraise.same .health rfl, hnone]
    · have hsent := u.raise_raises 0x180 (s.checkSite k.checker) 0x7F0 0 6 0 (by rw [← hu]; exact hroom)
      rw [show (r.checkDone p k.pair []).faults = r.faults from hdone.same .faults rfl, ← hr]
      rw [← hu] at hsent ⊢
      exact hsent
    · exact (hdone.same .regs rfl).trans ((hraise.same .regs rfl).trans (hu ▸ rfl))
    · exact (hdone.same .host rfl).trans ((hraise.same .host rfl).trans (hu ▸ rfl))
    · exact (hdone.mem rfl rfl).trans ((hraise.mem rfl rfl).trans (hu ▸ rfl))
  case slice =>
    intro s q hw _ hfree hpick hpart
    rcases State.windfallSlice_nil hw hfree hpick hpart with heq | heq
    · exact Answers.of (exec_windfallSlice q [] s) heq (State.claimed_fields hw hfree q)
    · obtain ⟨hset, hat, hkeeps⟩ := State.claimed_fields (s := s.incSat R.wftStatForced 0 1) (State.incSat_regs_wf hw ..) hfree q
      exact Answers.of (exec_windfallSlice q [] s) heq ⟨hset, hat, (s.wr_keeps ..).trans hkeeps⟩
  case sliceEnd =>
    intro s q u hw _ hheld hpart
    exact Answers.of_exec (exec_windfallSliceEnd q s) (State.sliceEnd_holds hw hheld hpart)
  case plan =>
    intro s q v g osc hw _ hearly hheld hgood hlive hg hmax hlt
    have heff := State.marginPlan_eff s q [v] osc
    obtain ⟨hguard, hdrift, hceil, hnot⟩ := State.marginPlan_holds (osc := osc) hw hearly hheld hgood hlive hg hmax hlt
    exact Answers.of_exec (exec_marginPlan q [v] osc s) ⟨hguard, hdrift, hceil, hnot, heff.same .host rfl, heff.mem rfl rfl, heff.same .clusters rfl,
      heff.same .parts rfl⟩
  case ring =>
    intro s q d hw hlo hhi hnot
    have hfits : (d % 256).toNat % 2 ^ R.ageCstatRoDrift.width = (d % 256).toNat := Nat.mod_eq_of_lt (by
      change (d % 256).toNat < 256
      omega)
    have hread := (State.rd_wr_same hw R.ageCstatRoDrift q (d % 256).toNat rfl).trans hfits
    refine Answers.of (exec_ringOscReading q d s) (s.ringOsc_eq d hnot) ?_
    by_cases hfall : d < -20
    · rw [if_pos hfall, if_pos hfall]
      exact ⟨hread, rfl, s.wr_keeps R.ageCstatRoDrift q (d % 256).toNat⟩
    · rw [if_neg hfall, if_neg hfall]
      exact ⟨hread, rfl, s.wr_keeps ..⟩

end

section
/-! The tray and the resets of the module (R350, R425, R441 to R444, R446). -/

namespace Sys2Proof.Machine

/-! ### The board -/

theorem exec_locateCommand (on : Bool) (s : State) : exec (.locateCommand on) s = .next { s with board := { s.board with locate := on } } := rfl
theorem exec_i3cDynamicAddress (a : Nat) (s : State) : exec (.i3cDynamicAddress a) s = .next (s.i3cAssign a) := rfl
theorem exec_wakeNRelease (w : WakeRelease) (s : State) : exec (.wakeNRelease w) s = .next (s.wakeRelease w) := rfl

theorem State.i3cAssign_eq {s : State} (h : s.board.off = false) (a : Nat) :
    s.i3cAssign a = { s with board := { s.board with i3cAddr := some a } } := by
  rw [State.i3cAssign, h]
  rfl

theorem State.wakeRelease_linkL0 {s : State} {u : Nat} (h : s.board.wakeN = some u) :
    s.wakeRelease .linkL0 = (s.updHost fun h => { h with linkL0 := true }).updBoard fun b => { b with wakeN := none } := by
  rw [State.wakeRelease, h]

theorem State.wakeRelease_oneSecond {s : State} {u : Nat} (h : s.board.wakeN = some u) (hu : 10 ^ 9 ≤ s.now - u) :
    s.wakeRelease .oneSecond = s.updBoard fun b => { b with wakeN := none } := by
  rw [State.wakeRelease, h]
  exact if_pos hu

/-! ### Registers after a reset -/

theorem sget_of_forall_ne {α : Type} (d : α) {m : Sparse α} {k : Nat} (h : ∀ e ∈ m, e.1 ≠ k) : sget d m k = d := by
  induction m with
  | nil => rfl
  | cons e r ih =>
    have hne : k ≠ e.1 := fun he => h e List.mem_cons_self he.symm
    simp only [sget, if_neg hne, ih fun x hx => h x (List.mem_cons_of_mem _ hx), ite_self]

/-- Below every key that is listed, a value other than the default is put in front. -/
theorem sset_front {α : Type} [DecidableEq α] (d : α) {m : Sparse α} {k : Nat} (v : α) (h : ∀ e ∈ m, k < e.1) :
    sset d m k v = if v = d then m else (k, v) :: m := by
  cases m with
  | nil => rfl
  | cons e r => simp only [sset, if_pos (h e List.mem_cons_self)]

/-- Only registers of the update block are listed, in whatever order. -/
def State.UpdateOnly (s : State) : Prop := ∀ e ∈ s.regs, 0x900000 ≤ e.1

section
variable {s : State} (h : s.UpdateOnly)

include h

/-- The registers after a write to one below the block. -/
theorem State.UpdateOnly.wr_regs {f : Fld} {i : Nat} (v : Nat) (hk : regKey f.kind f.off i < 0x900000) :
    (s.wr f i v).regs = if putBits 0 f.hi f.lo v = 0 then s.regs else (regKey f.kind f.off i, putBits 0 f.hi f.lo v) :: s.regs := by
  have hlow : ∀ e ∈ s.regs, regKey f.kind f.off i < e.1 := fun e he => hk.trans_le (h e he)
  have hreg : s.reg (regKey f.kind f.off i) = 0 := sget_of_forall_ne 0 fun e he => Nat.ne_of_gt (hlow e he)
  rw [State.wr, hreg]
  exact sset_front 0 _ hlow

theorem State.UpdateOnly.wr_same {f : Fld} {i : Nat} (v : Nat) (hf : f.fits = true) (hk : regKey f.kind f.off i < 0x900000) :
    (s.wr f i v).rd f i = v % 2 ^ f.width := by
  simp only [Fld.fits, Bool.and_eq_true, decide_eq_true_eq] at hf
  obtain ⟨hle, hlt⟩ := hf
  have hreg : (s.wr f i v).reg (regKey f.kind f.off i) = putBits 0 f.hi f.lo v := by
    rw [State.reg, h.wr_regs v hk]
    split
    · rename_i hzero
      rw [hzero]
      exact sget_of_forall_ne 0 fun e he => Nat.ne_of_gt (hk.trans_le (h e he))
    · simp [sget]
  rw [State.rd, hreg, bitsOf_putBits _ _ hle hlt, Fld.width]

theorem State.UpdateOnly.wr_zero {f g : Fld} {i j : Nat} (v : Nat) (hk : regKey f.kind f.off i < 0x900000) (hg : regKey g.kind g.off j < 0x900000)
    (hne : regKey f.kind f.off i ≠ regKey g.kind g.off j) : (s.wr f i v).rd g j = 0 := by
  have hreg : (s.wr f i v).reg (regKey g.kind g.off j) = 0 := by
    rw [State.reg, h.wr_regs v hk]
    refine sget_of_forall_ne 0 fun e he => ?_
    split at he
    · exact Nat.ne_of_gt (hg.trans_le (h e he))
    · rcases List.mem_cons.1 he with rfl | he
      · exact hne
      · exact Nat.ne_of_gt (hg.trans_le (h e he))
  simp [State.rd, hreg, bitsOf_eq]

end

/-- A reset leaves the activation time and the update state of the registers. -/
theorem State.cleared_updateOnly (s : State) : s.cleared.UpdateOnly := by
  intro e he
  have hkept : e.1 ∈ keptRegs := of_decide_eq_true (List.mem_filter.1 he).2
  have hall : ∀ k ∈ keptRegs, 0x900000 ≤ k := by decide
  exact hall _ hkept

/-! ### The module reset -/

theorem exec_moduleReset (c : Nat) (s : State) : exec (.moduleReset c) s = .next (s.moduleReset c) := rfl
theorem exec_bmcResetCommand (s : State) : exec .bmcResetCommand s = .next (s.moduleReset 4) := rfl
theorem exec_perstNAssert (s : State) : exec .perstNAssert s = .next s.perstAssert := rfl
theorem exec_perstNRelease (s : State) : exec .perstNRelease s = .next (s.putBoard { s.board with perstHigh := true }).startIfReady := rfl
theorem exec_pwrGoodRise (s : State) : exec .pwrGoodRise s = .next s.powerGood := rfl
theorem exec_inputPowerLoss (s : State) : exec .inputPowerLoss s = .next s.powerLoss := rfl

/-- The state of a reset module before its start-up. -/
def State.restarted (s : State) (cause : Nat) : State := s.idleTransfers.cleared.wr R.cfgResetCause 0 cause

theorem State.restarted_fields (s : State) {cause : Nat} (h : cause < 16) :
    (s.restarted cause).rd R.cfgResetCause 0 = cause ∧ (s.restarted cause).rd R.hstStatState 0 = 0 :=
  ⟨(s.idleTransfers.cleared_updateOnly.wr_same cause rfl (by decide)).trans (Nat.mod_eq_of_lt h),
    s.idleTransfers.cleared_updateOnly.wr_zero cause (by decide) (by decide) (by decide)⟩

/-- The reset clears all but the NOR, flash data and the pins. -/
theorem State.restarted_cleared (s : State) (cause : Nat) :
    (s.restarted cause).now = 0 ∧ (s.restarted cause).nor = s.nor ∧ (s.restarted cause).mem = State.reset.mem ∧ (s.restarted cause).clusters = [] ∧
      (s.restarted cause).parts = [] ∧ (s.restarted cause).host.reqs = [] ∧ (s.restarted cause).host.rings = [] ∧
      (s.restarted cause).flash.map = s.flash.map ∧ (s.restarted cause).boot.running = false := by
  have heff := State.idleTransfers_eff s
  have hflash : s.idleTransfers.flash.map = s.flash.map := by rw [show s.idleTransfers.flash = s.flash from heff.same .flash rfl]
  exact ⟨rfl, heff.same .nor rfl, rfl, rfl, rfl, rfl, rfl, hflash, rfl⟩

theorem State.restarted_board (s : State) (cause : Nat) :
    (s.restarted cause).board.perstHigh = s.board.perstHigh ∧ (s.restarted cause).board.pwrGood = s.board.pwrGood := by
  have hboard : s.idleTransfers.board = s.board := (State.idleTransfers_eff s).same .board rfl
  have hperst := congrArg BoardState.perstHigh hboard
  have hpwr := congrArg BoardState.pwrGood hboard
  exact ⟨hperst, hpwr⟩

/-- A module outside start-up, or whose PERST_N is asserted, is reset. -/
theorem State.moduleReset_eq {s : State} {cause : Nat} (h : s.boot.running = false ∨ cause = 1) :
    s.moduleReset cause = if s.board.perstHigh = true ∧ s.board.pwrGood = true then
      (s.restarted cause).putBoot { (s.restarted cause).boot with running := true, refAt := some (s.restarted cause).now } else s.restarted cause := by
  have hgo : ¬ (s.boot.running = true ∧ s.boot.refAt = some s.now ∧ s.rd R.cfgBootStage 0 = 0 ∧ cause ≠ 1) := by
    rintro ⟨hrun, -, -, hcause⟩
    rcases h with h | h
    · exact Bool.false_ne_true (h.symm.trans hrun)
    · exact hcause h
  obtain ⟨hperst, hpwr⟩ := s.restarted_board cause
  rw [State.moduleReset, if_neg hgo, ← hperst, ← hpwr]
  rfl

/-- PERST_N high and the power good start a module that has not started. -/
theorem State.startIfReady_eq {s : State} (hpwr : s.board.pwrGood = true) (hperst : s.board.perstHigh = true) (hrun : s.boot.running = false)
    (hstate : s.rd R.hstStatState 0 = 0) (hstage : s.rd R.cfgBootStage 0 = 0) :
    s.startIfReady = s.putBoot { s.boot with running := true, refAt := some s.now } := by
  simp [State.startIfReady, hpwr, hperst, hrun, hstate, hstage]

theorem State.perstAssert_eq {s : State} (hpwr : s.board.pwrGood = true) :
    s.perstAssert = (s.putBoard { s.board with perstHigh := false }).restarted 1 := by
  have hgood : (s.putBoard { s.board with perstHigh := false }).board.pwrGood = true := hpwr
  simp only [State.perstAssert, hgood, if_true, State.moduleReset_eq (Or.inr rfl)]
  exact if_neg fun h => Bool.false_ne_true h.1

/-- The state of a module whose hub rails have come up, before its start-up. -/
def State.powered (s : State) : State :=
  (s.idleTransfers.cleared.putBoard { s.idleTransfers.cleared.board with pwrGood := true, off := false }).wr R.cfgResetCause 0 0

theorem State.powerGood_eq {s : State} (h : s.board.pwrGood = false) : s.powerGood = s.powered.startIfReady := by
  rw [State.powerGood, h]
  rfl

theorem State.powered_fields (s : State) : s.powered.rd R.cfgResetCause 0 = 0 ∧ s.powered.rd R.hstStatState 0 = 0 ∧
    s.powered.rd R.cfgBootStage 0 = 0 := by
  have hclear : (s.idleTransfers.cleared.putBoard { s.idleTransfers.cleared.board with pwrGood := true, off := false }).UpdateOnly :=
    s.idleTransfers.cleared_updateOnly
  exact ⟨hclear.wr_same 0 rfl (by decide), hclear.wr_zero 0 (by decide) (by decide) (by decide), hclear.wr_zero 0 (by decide) (by decide) (by decide)⟩

/-- What comes up starts as soon as PERST_N is high. -/
theorem State.powered_start (s : State) : s.powered.startIfReady.rd R.cfgResetCause 0 = 0 ∧
    s.powered.startIfReady.boot.running = s.board.perstHigh ∧ s.powered.startIfReady.board = s.powered.board ∧
    s.powered.startIfReady.nor = s.powered.nor ∧ s.powered.startIfReady.parts = [] := by
  obtain ⟨hcause, hstate, hstage⟩ := s.powered_fields
  have hkept : s.idleTransfers.board = s.board := (State.idleTransfers_eff s).same .board rfl
  have hperst' := congrArg BoardState.perstHigh hkept
  have hboard : s.powered.board.perstHigh = s.board.perstHigh := hperst'
  cases hperst : s.board.perstHigh
  case true =>
    rw [State.startIfReady_eq (s := s.powered) rfl (hboard.trans hperst) rfl hstate hstage]
    exact ⟨hcause, rfl, rfl, rfl, rfl⟩
  case false =>
    have hno : ¬ (s.powered.board.pwrGood = true ∧ s.powered.board.perstHigh = true ∧ (!s.powered.boot.running) = true ∧
        s.powered.rd R.hstStatState 0 = 0 ∧ s.powered.rd R.cfgBootStage 0 = 0) := by
      rw [hboard, hperst]
      simp
    rw [State.startIfReady, if_neg hno]
    exact ⟨hcause, rfl, rfl, rfl, rfl⟩

end Sys2Proof.Machine

end

section
/-! The reset of a partition and its end (R333): the work that ends, the clusters that stop, and what it leaves of the other partitions. -/

namespace Sys2Proof.Machine

/-! ### The configuration block -/

/-- Bits of a value depend on its bits below any place above them. -/
theorem bitsOf_mod_two_pow (v : Nat) {hi lo n : Nat} (hle : lo ≤ hi) (hlt : hi < n) : bitsOf (v % 2 ^ n) hi lo = bitsOf v hi lo := by
  have hsplit : (2 : Nat) ^ n = 2 ^ lo * 2 ^ (n - lo) := by
    rw [← Nat.pow_add]
    congr 1
    omega
  rw [bitsOf_eq, bitsOf_eq, hsplit, Nat.mod_mul_right_div_self, Nat.mod_mod_of_dvd _ (Nat.pow_dvd_pow 2 (by omega))]

/-- A field of the block below bit 62 is left. -/
theorem CfgKept.rd {s t : State} (h : CfgKept s t) (hw : Registers.wf s.regs = true) {f : Fld} {i : Nat} (hf : f.lo ≤ f.hi) (hhi : f.hi < 62)
    (hlo : 0x200000 ≤ regKey f.kind f.off i) (hkey : regKey f.kind f.off i < 0x300000) : t.rd f i = s.rd f i := by
  obtain ⟨-, hmod⟩ := h.reg hw _ hlo hkey
  rw [State.rd, State.rd, ← bitsOf_mod_two_pow _ hf hhi, hmod, bitsOf_mod_two_pow _ hf hhi]

/-- The clusters of a partition stand in the block, outside the status registers. -/
theorem State.partClusters_congr {s t : State} {p : Nat} (hen : t.partEn p = s.partEn p) (hfirst : t.rd R.cfgPartFirst p = s.rd R.cfgPartFirst p)
    (hquads : t.rd R.cfgPartQuads p = s.rd R.cfgPartQuads p) : t.partClusters p = s.partClusters p := by
  simp only [State.partClusters, State.partFirst, State.partSize, hen, hfirst, hquads]

theorem CfgKept.partClusters {s t : State} (h : CfgKept s t) {p : Nat} (hd : s.Defined p) : t.partClusters p = s.partClusters p := by
  have hkey : regKey .array 0x200400 p = 0x200400 + 8 * p := rfl
  have hp := hd.lt
  have hw := hd.wf
  exact State.partClusters_congr ((h.defined hd).en.trans hd.en.symm) (h.rd hw (f := R.cfgPartFirst) (by decide) (by decide) (by simp only [R.cfgPartFirst]; omega) (by simp only [R.cfgPartFirst]; omega))
    (h.rd hw (f := R.cfgPartQuads) (by decide) (by decide) (by simp only [R.cfgPartQuads]; omega) (by simp only [R.cfgPartQuads]; omega))

section
variable {s : State} (hw : Registers.wf s.regs = true) {p : Nat} (cause : Nat)

include hw

theorem State.markReset_wf : Registers.wf (s.markReset p cause).regs = true :=
  State.incSat_regs_wf (State.wr_regs_wf (State.inc_regs_wf (State.wr_regs_wf hw ..) ..) ..) ..

/-- The cause of a reset is entered. -/
theorem State.markReset_cause (hcause : cause < 256) : (s.markReset p cause).rd R.cfgPstatLastCause p = cause := by
  simp (disch := first | decide | with_reducible apply_rules [State.wr_regs_wf, hw]) only [State.markReset, State.inc, State.incSat, State.rd_wr_same,
    State.rd_wr_sibling]
  exact Nat.mod_eq_of_lt hcause

/-- Entering a reset writes the partition's status register only. -/
theorem State.markReset_rd {g : Fld} {j : Nat} (h : g.notAt j (regKey R.cfgPstatState.kind R.cfgPstatState.off p) = true) :
    (s.markReset p cause).rd g j = s.rd g j := by
  have hrgen : g.notAt j (regKey R.cfgPstatRgen.kind R.cfgPstatRgen.off p) = true := h
  have hlast : g.notAt j (regKey R.cfgPstatLastCause.kind R.cfgPstatLastCause.off p) = true := h
  have hresets : g.notAt j (regKey R.cfgPstatResets.kind R.cfgPstatResets.off p) = true := h
  rw [State.markReset, State.incSat, State.rd_wr_notAt (State.wr_regs_wf (State.inc_regs_wf (State.wr_regs_wf hw ..) ..) ..) _ hresets,
    State.rd_wr_notAt (State.inc_regs_wf (State.wr_regs_wf hw ..) ..) _ hlast, State.inc, State.rd_wr_notAt (State.wr_regs_wf hw ..) _ hrgen,
    State.rd_wr_notAt hw _ h]

omit hw in
theorem State.markReset_partClusters (hd : s.Defined p) : (s.markReset p cause).partClusters p = s.partClusters p := by
  have hkey : ∀ off, regKey .array off p = off + 8 * p := fun _ => rfl
  refine State.partClusters_congr ((hd.markReset cause hd.lt).en.trans hd.en.symm) (State.markReset_rd hd.wf cause ?_)
    (State.markReset_rd hd.wf cause ?_)
  all_goals
    rw [Fld.notAt, bne_iff_ne]
    simp only [R.cfgPartFirst, R.cfgPartQuads, R.cfgPstatState, hkey]
    omega

end

/-! ### What the end of requests leaves of partitions -/

/-- From `s` to `t` the partitions without queued work are left. -/
def IdlePartsKept (s t : State) : Prop := ∀ q, (s.part q).queue = [] → t.part q = s.part q

theorem IdlePartsKept.of_parts {s t : State} (h : t.parts = s.parts) : IdlePartsKept s t := fun q _ => by rw [State.part, State.part, h]

theorem IdlePartsKept.of_eff {k : Nat} {s t : State} (h : Eff k s t) (hk : k.testBit 13 = false) : IdlePartsKept s t :=
  IdlePartsKept.of_parts (h.same .parts hk)

theorem IdlePartsKept.trans {s t u : State} (h : IdlePartsKept s t) (h' : IdlePartsKept t u) : IdlePartsKept s u := fun q hq =>
  (h' q (h q hq ▸ hq)).trans (h q hq)

theorem IdlePartsKept.foldl {α : Type} {f : State → α → State} (hf : ∀ s a, IdlePartsKept s (f s a)) (l : List α) (s : State) :
    IdlePartsKept s (l.foldl f s) := by
  induction l generalizing s with
  | nil => exact fun _ _ => rfl
  | cons a l ih => exact (hf s a).trans (ih _)

/-- Dropping a request's work takes it out of the queues. -/
theorem State.forgetWork_idleParts (s : State) (k : ReqKey) : IdlePartsKept s (s.forgetWork k) := by
  intro q hq
  unfold State.forgetWork
  extract_lets freed dropped
  have hdropped : dropped.parts = s.parts := by
    have hfreed : freed.parts = s.parts := ((State.freePins_eff ..).same .parts rfl).trans ((State.closeStreams_eff s k).same .parts rfl)
    have hfold : Eff 1099513725448 freed dropped := Eff.foldl (fun s (e : Nat × Table) => State.discardCommit_eff s e.1) (Eff.refl ..)
    exact (hfold.same .parts rfl).trans hfreed
  have hpart : dropped.part q = s.part q := by rw [State.part, State.part, hdropped]
  have hqueue : (dropped.part q).queue = [] := by rw [hpart, hq]
  rw [← hpart]
  clear_value dropped
  simp only [State.part] at hqueue ⊢
  simp only [State.putHost_parts, State.putShards_parts, State.putTables_parts, State.putParts_parts]
  rw [aget_map_val]
  cases hget : aget dropped.parts q with
  | none => rfl
  | some x =>
    rw [hget, Option.getD_some] at hqueue
    rw [Option.map_some, Option.getD_some, Option.getD_some, hqueue]
    cases x
    simp only at hqueue
    rw [hqueue]
    rfl

theorem State.endReq_idleParts (s : State) (k : ReqKey) (status count detail : Nat) : IdlePartsKept s (s.endReq k status count detail) := by
  unfold State.endReq
  split
  · exact fun _ _ => rfl
  split
  · exact fun _ _ => rfl
  rename_i r _ _
  extract_lets a b bytes c d e f
  have ha : IdlePartsKept s a := by
    unfold a
    split
    · exact IdlePartsKept.of_eff (State.lastRecord_eff ..) (by decide)
    · exact fun _ _ => rfl
  have hb : IdlePartsKept a b := by
    unfold b
    split
    · exact IdlePartsKept.of_eff (State.chargePause_eff ..) (by decide)
    · exact fun _ _ => rfl
  have hc : IdlePartsKept b c := (IdlePartsKept.of_eff (State.endColls_eff ..) (by decide)).trans (State.forgetWork_idleParts (b.endColls k status) k)
  have hd : IdlePartsKept c d := by
    unfold d
    split
    · exact IdlePartsKept.of_eff (State.endRemote_eff ..) (by decide)
    · exact IdlePartsKept.of_eff (State.charge_eff ..) (by decide)
  have he : IdlePartsKept d e := by
    unfold e
    split
    · exact IdlePartsKept.of_parts rfl
    · exact fun _ _ => rfl
  have hkept : IdlePartsKept s e := (((ha.trans hb).trans hc).trans hd).trans he
  split
  · exact hkept.trans (IdlePartsKept.of_eff (State.dropReq_eff ..) (by decide))
  · exact hkept.trans ((IdlePartsKept.of_eff (State.updReq_eff ..) (by decide)).trans (IdlePartsKept.of_eff (State.produce_eff ..) (by decide)))

/-! ### The clusters stop -/

/-- The cluster is stopped, with no counter and no transfer left. -/
def Cluster.Halted (c : Cluster) : Prop := c.stopped = true ∧ c.counters = [] ∧ c.xfers = []

theorem Cluster.reset_halted (c : Cluster) : c.reset.Halted := ⟨rfl, rfl, rfl⟩

theorem State.resetCluster_halted {s : State} {j : Nat} (cl : Nat) (h : (s.cluster j).Halted ∨ j = cl) :
    ((s.setCluster cl (s.cluster cl).reset).cluster j).Halted := by
  by_cases hj : j = cl
  · subst hj
    rw [State.setCluster_eq, State.cluster_put_same]
    exact Cluster.reset_halted _
  · rw [State.setCluster_eq, State.cluster_put_ne _ _ hj]
    exact h.resolve_right hj

theorem State.resetClusters_halted {s : State} {l : List Nat} {j : Nat} (h : (s.cluster j).Halted ∨ j ∈ l) :
    ((l.foldl (fun s cl => s.setCluster cl (s.cluster cl).reset) s).cluster j).Halted := by
  induction l generalizing s with
  | nil => exact h.resolve_right List.not_mem_nil
  | cons cl l ih =>
    rw [List.mem_cons, ← or_assoc] at h
    exact ih (h.imp_left fun h => State.resetCluster_halted cl h)

/-! ### The reset of a partition -/

/-- The requests of a partition are read from the work of the state and the partitions of the trees. -/
theorem State.reqsOf_congr {k : Nat} {s t : State} (h : Eff k s t) (hk : k &&& 3556909072 = 0) {p : Nat}
    (htree : ∀ i, t.rd R.mdlTreePartition i = s.rd R.mdlTreePartition i) : t.reqsOf p = s.reqsOf p := by
  have same : ∀ c : Comp, Nat.testBit 3556909072 c.bit = true → c.same s t := fun c hc => h.same c (by
    have hand := Nat.testBit_and k 3556909072 c.bit
    rwa [hk, Nat.zero_testBit, hc, Bool.and_true, eq_comm] at hand)
  have hhost : t.host = s.host := same .host rfl
  have hparts : t.part p = s.part p := by rw [State.part, State.part, show t.parts = s.parts from same .parts rfl]
  have hshards : t.shards = s.shards := same .shards rfl
  have htasks : t.tasks = s.tasks := same .tasks rfl
  have hprobes : t.probes = s.probes := same .probes rfl
  have hgens : t.gens = s.gens := same .gens rfl
  have hretrieves : t.retrieves = s.retrieves := same .retrieves rfl
  simp only [State.reqsOf, State.worksIn, hhost, hparts, hshards, htasks, hprobes, hgens, hretrieves, htree]

/-- A request ends with its partition's reset. -/
def State.endForReset (s : State) (r : Req) : State :=
  let d := match s.gens.find? fun g => (g.client, g.req) = (r.client, r.id) with
    | some g => s.genDetail g r.opcode
    | none => (s, 0)
  d.1.endReq (r.client, r.id) stPartitionReset r.delivered d.2

theorem State.endForReset_eff (s : State) (r : Req) : Eff 1108083614554 s (s.endForReset r) := by
  unfold State.endForReset
  refine (State.endReq_eff ..).step rfl ?_
  split
  · exact (State.genDetail_eff ..).mono rfl
  · exact Eff.refl ..

theorem State.endForReset_idleParts (s : State) (r : Req) : IdlePartsKept s (s.endForReset r) := by
  unfold State.endForReset
  refine IdlePartsKept.trans ?_ (State.endReq_idleParts _ _ _ _ _)
  split
  · exact IdlePartsKept.of_eff (State.genDetail_eff ..) (by decide)
  · exact IdlePartsKept.of_eff (Eff.refl 0 s) (by decide)

theorem State.endForReset_cfgKept (s : State) (r : Req) : CfgKept s (s.endForReset r) := by
  unfold State.endForReset
  refine CfgKept.trans ?_ (State.endReq_cfgKept _ _ (by decide) _ _)
  split
  · exact CfgKept.of_eff (State.genDetail_eff ..) (by decide)
  · exact CfgKept.refl s

/-- One that generates nothing ends with no detail. -/
theorem State.endForReset_ends {s : State} {r : Req} {op : Nat} (h : s.Holds (r.client, r.id) op r)
    (hg : ∀ g ∈ s.gens, (g.client, g.req) ≠ (r.client, r.id)) : Ends s (s.endForReset r) (r.client, r.id) stPartitionReset r.delivered 0 := by
  have hfind : (s.gens.find? fun g => (g.client, g.req) = (r.client, r.id)) = none := List.find?_eq_none.2 fun g hm => by simpa using hg g hm
  rw [State.endForReset, hfind]
  exact State.endReq_ends h ..

/-- A reset enters the cause, ends the partition's requests, stops its clusters, and clears what the partition holds. -/
theorem State.resetPartition_stages {s : State} {p : Nat} (cause : Nat) (he : s.partEn p = true) (hs : s.rd R.cfgPstatState p ≠ psReset) :
    ∃ e f g m : State, ∃ x : Part, Eff 256 (s.markReset p cause) e ∧ CfgKept (s.markReset p cause) e ∧ f = (e.reqsOf p).foldl State.endForReset e ∧
      g = (f.partClusters p).foldl (fun s cl => s.setCluster cl (s.cluster cl).reset) f ∧ Eff 1126332765720 g m ∧ m.host.cq = g.host.cq ∧
      s.resetPartition p cause = m.setPart p x ∧ x.queue = [] ∧ x.running = none ∧ x.resetAt = some m.now := by
  unfold State.resetPartition
  rw [if_neg (by simp [he]), if_neg hs]
  extract_lets a b c d e f g h i health j k x l m
  have hj : Eff 1126332765720 g j :=
    (State.putHealth_eff ..).step rfl ((State.clearPartition_eff ..).step rfl ((State.resetStreams_eff ..).mono rfl))
  have hjcq : j.host.cq = g.host.cq := by
    have hhost : j.host = g.host := ((State.clearPartition_eff h p).same .host rfl).trans ((State.resetStreams_eff g p).same .host rfl)
    rw [hhost]
  have hk : Eff 1126332765720 g k := (State.updHost_eff ..).step rfl hj
  have hkcq : k.host.cq = g.host.cq := hjcq
  have hlm : Eff 8589934600 k m := (State.endUse_eff ..).step rfl (Eff.foldl (fun s _ => (State.wr_eff ..).mono rfl) (Eff.refl ..))
  have hmcq : m.host.cq = g.host.cq := by rw [show m.host = k.host from hlm.same .host rfl, hkcq]
  exact ⟨e, f, g, m, _, State.raise_eff .., CfgKept.raise .., rfl, rfl, hlm.step rfl hk, hmcq, rfl, rfl, rfl, rfl⟩

theorem State.markReset_eff (s : State) (p cause : Nat) : Eff 8 s (s.markReset p cause) :=
  (State.incSat_eff ..).step rfl ((State.wr_eff ..).step rfl ((State.inc_eff ..).step rfl ((State.wr_eff ..).mono rfl)))

/-- The partition of a tree is read below no status register. -/
theorem State.markReset_reqsOf {s : State} {p : Nat} (cause : Nat) (hd : s.Defined p) : (s.markReset p cause).reqsOf p = s.reqsOf p := by
  refine State.reqsOf_congr (State.markReset_eff ..) rfl fun i => State.markReset_rd hd.wf cause ?_
  have hp := hd.lt
  have hkey : ∀ off j, regKey .array off j = off + 8 * j := fun _ _ => rfl
  rw [Fld.notAt, bne_iff_ne]
  simp only [R.mdlTreePartition, R.cfgPstatState, hkey]
  omega

section
variable {s : State} {p cause : Nat} (hd : s.Defined p) (hs : s.rd R.cfgPstatState p ≠ psReset)

include hd hs

/-- The cause stands, and the partition holds no work. -/
theorem State.resetPartition_entered (hcause : cause < 256) : (s.resetPartition p cause).rd R.cfgPstatState p = psReset ∧
    (s.resetPartition p cause).rd R.cfgPstatLastCause p = cause := by
  have hkey : regKey R.cfgPstatLastCause.kind R.cfgPstatLastCause.off p = 0x200800 + 8 * p := rfl
  have hp := hd.lt
  refine ⟨(State.resetPartition_inReset hd cause).state, ?_⟩
  rw [(State.resetPartition_cfgKept cause hd.en hs).rd (State.markReset_wf hd.wf cause) (by decide) (by decide) (by omega) (by omega)]
  exact State.markReset_cause hd.wf cause hcause

/-- Its work ends and its clusters stop; partitions without queued work are left. -/
theorem State.resetPartition_stops : ((s.resetPartition p cause).part p).queue = [] ∧ ((s.resetPartition p cause).part p).running = none ∧
    ((s.resetPartition p cause).part p).resetAt = some s.now ∧ (∀ cl ∈ s.partClusters p, ((s.resetPartition p cause).cluster cl).Halted) ∧
    (∀ q, q ≠ p → (s.part q).queue = [] → (s.resetPartition p cause).part q = s.part q) := by
  obtain ⟨e, f, g, m, x, he, hek, hf, hg, hm, -, hres, hqueue, hrun, hat⟩ := State.resetPartition_stages cause hd.en hs
  have hmark : Eff 8 s (s.markReset p cause) := State.markReset_eff ..
  have hef : Eff 1108083614554 e f := hf ▸ Eff.foldl State.endForReset_eff (Eff.refl ..)
  have hfk : CfgKept (s.markReset p cause) f := hek.trans (hf ▸ CfgKept.foldl State.endForReset_cfgKept ..)
  have hfg : Eff 2048 f g := hg ▸ Eff.foldl (fun s cl => State.setCluster_eff ..) (Eff.refl ..)
  have hnow : m.now = s.now := by
    rw [show m.now = g.now from hm.same .now rfl, show g.now = f.now from hfg.same .now rfl, show f.now = e.now from hef.same .now rfl,
      show e.now = (s.markReset p cause).now from he.same .now rfl]
    exact hmark.same .now rfl
  rw [hres, State.setPart_eq, State.part_put_same]
  refine ⟨hqueue, hrun, hat.trans (congrArg some hnow), fun cl hcl => ?_, fun q hq hidle => ?_⟩
  · have hmem : cl ∈ f.partClusters p := by
      rwa [hfk.partClusters (hd.markReset cause hd.lt), State.markReset_partClusters cause hd]
    have hclusters : m.clusters = g.clusters := hm.same .clusters rfl
    have hcluster : ((m.putParts (aput m.parts p x)).cluster cl) = g.cluster cl := by rw [State.cluster, State.cluster, ← hclusters]; rfl
    rw [hcluster, hg]
    exact State.resetClusters_halted (Or.inr hmem)
  · have hkept : IdlePartsKept s m :=
      ((((IdlePartsKept.of_eff hmark (by decide)).trans (IdlePartsKept.of_eff he (by decide))).trans
        (hf ▸ IdlePartsKept.foldl State.endForReset_idleParts _ _)).trans (IdlePartsKept.of_eff hfg (by decide))).trans
        (IdlePartsKept.of_eff hm (by decide))
    rw [State.part_put_ne _ _ hq]
    exact hkept q hidle

/-- The one request of the partition ends with its status. -/
theorem State.resetPartition_ends {r : Req} {op : Nat} (hr : s.reqsOf p = [r]) (hh : s.Holds (r.client, r.id) op r)
    (hg : ∀ g ∈ s.gens, (g.client, g.req) ≠ (r.client, r.id)) :
    Ends s (s.resetPartition p cause) (r.client, r.id) stPartitionReset r.delivered 0 := by
  obtain ⟨e, f, g, m, x, he, -, hf, hgf, -, hcq, hres, -, -, -⟩ := State.resetPartition_stages cause hd.en hs
  have hmark : Eff 8 s (s.markReset p cause) := State.markReset_eff ..
  have heff : Eff 264 s e := he.step rfl (hmark.mono rfl)
  have hhost : e.host = s.host := heff.same .host rfl
  have hgens : e.gens = s.gens := heff.same .gens rfl
  have hreqs : e.reqsOf p = [r] := by
    rw [State.reqsOf_congr he rfl fun i => by rw [State.rd_congr (he.same .regs rfl)], State.markReset_reqsOf cause hd, hr]
  rw [hreqs] at hf
  have hends : Ends e f (r.client, r.id) stPartitionReset r.delivered 0 :=
    hf ▸ State.endForReset_ends (hh.of_host hhost) (hgens ▸ hg)
  have hfg : Eff 2048 f g := hgf ▸ Eff.foldl (fun s cl => State.setCluster_eff ..) (Eff.refl ..)
  have hlast : (s.resetPartition p cause).host.cq = f.host.cq := by
    rw [hres, State.setPart_eq, State.putParts_host, hcq, show g.host = f.host from hfg.same .host rfl]
  obtain ⟨entry, hentry, hrest⟩ := hends
  exact ⟨entry, by rw [hlast, hentry, hhost], hrest⟩

end


/-! ### The end of a reset -/

section
variable (s : State) (p : Nat)

theorem State.raise_retiredUnits (kind site master addr access outcome : Nat) :
    (s.raise kind site master addr access outcome).faults.retiredUnits = s.faults.retiredUnits := by
  unfold State.raise
  dsimp only
  split <;> rfl

theorem State.poisonWords_retiredUnits : (s.poisonWords p).faults.retiredUnits = s.faults.retiredUnits := by
  have hfold : ∀ (ws : List Nat) (t : State), (ws.foldl State.poisonWordAt t).faults.retiredUnits = t.faults.retiredUnits := by
    intro ws
    induction ws with
    | nil => exact fun _ => rfl
    | cons w ws ih => exact fun t => (ih _).trans (State.raise_retiredUnits ..)
  exact hfold ..

theorem State.remapPending_retiredUnits : (s.remapPending p).faults.retiredUnits = s.faults.retiredUnits := by
  unfold State.remapPending
  extract_lets mine f t
  have hremap : Eff 34359740424 t (mine.foldl (fun s e => s.remap e.1) t) := Eff.foldl (fun s e => State.remap_eff ..) (Eff.refl ..)
  rw [show (mine.foldl (fun s e => s.remap e.1) t).faults = t.faults from hremap.same .faults rfl]
  rfl

/-- Until it leaves reset, the partition's entry and the books of the retired units stay. -/
def State.restored : State := (((s.wakeAll p).poisonWords p).remapPending p).reloadProgram p

theorem State.restored_eff : Eff 1142461303560 s (s.restored p) :=
  (State.reloadProgram_eff ..).step rfl ((State.remapPending_eff ..).step rfl ((State.poisonWords_eff ..).step rfl ((State.wakeAll_eff ..).mono rfl)))

theorem State.restored_retiredUnits : (s.restored p).faults.retiredUnits = s.faults.retiredUnits := by
  rw [State.restored, show (State.reloadProgram _ p).faults = _ from (State.reloadProgram_eff _ p).same .faults rfl,
    State.remapPending_retiredUnits, State.poisonWords_retiredUnits, show (s.wakeAll p).faults = _ from (State.wakeAll_eff s p).same .faults rfl]

variable {s p}

/-- Where no unit is retired every cluster has its physical one. -/
theorem State.unmapped_of_none (h : s.faults.retiredUnits = []) : s.unmapped p = false := by
  simp [State.unmapped, State.unitRetired, h]

/-- A partition leaves reset for RUN, or UNAVAILABLE where units are retired. -/
theorem State.leaveReset_state (hw : Registers.wf s.regs = true) :
    ((s.leaveReset p).rd R.cfgPstatState p = psRun ∨ (s.leaveReset p).rd R.cfgPstatState p = psUnavailable) ∧
      (s.faults.retiredUnits = [] → (s.leaveReset p).rd R.cfgPstatState p = psRun) := by
  unfold State.leaveReset
  extract_lets t u
  have heff : Eff 8 s t := by
    refine Eff.foldl (fun s i => ?_) (Eff.refl ..)
    split
    · exact (State.wr_eff ..).step rfl ((State.wr_eff ..).mono rfl)
    · exact Eff.refl ..
  have hwt := heff.regs hw
  have hfaults : t.faults = s.faults := heff.same .faults rfl
  rw [State.rd_congr (t := u.setPart p _) rfl]
  unfold u
  split
  · rename_i hun
    refine ⟨Or.inr (State.rd_wr_same hwt _ _ _ (by decide)), fun hnone => ?_⟩
    rw [State.unmapped_of_none (hfaults ▸ hnone)] at hun
    exact absurd hun Bool.false_ne_true
  · have hrun : (t.wr R.cfgPstatState p psRun).rd R.cfgPstatState p = psRun := State.rd_wr_same hwt _ _ _ (by decide)
    exact ⟨Or.inl hrun, fun _ => hrun⟩

end

/-- It holds the same queue, and other partitions are left. -/
theorem State.leaveReset_part (s : State) (p : Nat) : ((s.leaveReset p).part p).resetAt = none ∧ ((s.leaveReset p).part p).queue = (s.part p).queue ∧
    ∀ q, q ≠ p → (s.leaveReset p).part q = s.part q := by
  unfold State.leaveReset
  extract_lets t u x
  have ht : Eff 8 s t := by
    refine Eff.foldl (fun s i => ?_) (Eff.refl ..)
    split
    · exact (State.wr_eff ..).step rfl ((State.wr_eff ..).mono rfl)
    · exact Eff.refl ..
  have hu : Eff 8 s u := by
    unfold u
    split <;> exact (State.wr_eff ..).step rfl ht
  have hparts : u.part = s.part := by
    funext q
    rw [State.part, State.part, show u.parts = s.parts from hu.same .parts rfl]
  have hx : x = s.part p := congrFun hparts p
  rw [State.setPart_eq, State.part_put_same, ← hx]
  exact ⟨rfl, rfl, fun q hq => by rw [State.part_put_ne _ _ hq, hparts]⟩

theorem State.resetDone_eq {s : State} {p u : Nat} (hs : s.rd R.cfgPstatState p = psReset) (hu : (s.part p).resetAt = some u) :
    s.resetDone p = (s.restored p).leaveReset p := if_pos ⟨hs, by rw [hu]; rfl⟩

theorem exec_partitionReset (p cause : Nat) (s : State) : exec (.partitionReset p cause) s = .next (s.resetPartition p cause) := rfl
theorem exec_partitionResetDone (p : Nat) (s : State) : exec (.partitionResetDone p) s = .next (s.resetDone p) := rfl

end Sys2Proof.Machine

open Sys2Proof.Machine

/-- Settles O33: the board's pins are written as the commands say; a reset of a partition enters its cause, ends its requests and stops its clusters, and its
end leaves it serving; a reset of the module, whatever its cause, clears all but the NOR and flash data. -/
theorem boardAndResetCommandsComplete : Obligations.BoardAndResetCommandsComplete := by
  unfold Obligations.BoardAndResetCommandsComplete
  refine ⟨fun s on => Answers.of_exec (exec_locateCommand on s) rfl, fun s a h => Answers.of (exec_i3cDynamicAddress a s) (State.i3cAssign_eq h a) rfl,
    fun s u h => Answers.of (exec_wakeNRelease .linkL0 s) (State.wakeRelease_linkL0 h) ⟨rfl, rfl, rfl, rfl⟩,
    fun s u h hu => Answers.of (exec_wakeNRelease .oneSecond s) (State.wakeRelease_oneSecond h hu) ⟨rfl, rfl, rfl, rfl⟩,
    fun s p cause hw hp hcause hen hs => Answers.of_exec (exec_partitionReset p cause s) ?reset,
    fun s p u hw hp hs hu _ => Answers.of (exec_partitionResetDone p s) (State.resetDone_eq hs hu) ?done,
    fun s cause hcause hrun hperst hpwr => Answers.of (exec_moduleReset cause s)
      ((State.moduleReset_eq (Or.inl hrun)).trans (if_pos ⟨hperst, hpwr⟩)) ?module,
    fun s hrun hperst hpwr => Answers.of (exec_bmcResetCommand s) ((State.moduleReset_eq (Or.inl hrun)).trans (if_pos ⟨hperst, hpwr⟩)) ?bmc,
    fun s hpwr => Answers.of (exec_perstNAssert s) (State.perstAssert_eq hpwr) ?perst,
    fun s hpwr hrun hstate hstage => Answers.of (exec_perstNRelease s) (State.startIfReady_eq hpwr rfl hrun hstate hstage)
      ⟨rfl, rfl, rfl, rfl, rfl, rfl, rfl, rfl, rfl⟩,
    fun s hpwr => Answers.of (exec_pwrGoodRise s) (State.powerGood_eq hpwr) ?power,
    fun s => Answers.of_exec (exec_inputPowerLoss s) ?loss⟩
  case reset =>
    have hd : s.Defined p := ⟨hw, hen⟩
    obtain ⟨hstate, hlast⟩ := State.resetPartition_entered hd hs (hcause.trans (by decide))
    obtain ⟨hqueue, hrunning, hat, hclusters, hothers⟩ := State.resetPartition_stops (cause := cause) hd hs
    exact ⟨hstate, hlast, hqueue, hrunning, hat, hclusters, hothers, fun r hr hh hg => State.resetPartition_ends hd hs hr hh hg⟩
  case done =>
    have heff := s.restored_eff p
    obtain ⟨hstate, hrun⟩ := State.leaveReset_state (s := s.restored p) (p := p) (heff.regs hw)
    obtain ⟨hat, hqueue, hothers⟩ := (s.restored p).leaveReset_part p
    have hparts : (s.restored p).part = s.part := by
      funext q
      rw [State.part, State.part, show (s.restored p).parts = s.parts from heff.same .parts rfl]
    have hhost : ((s.restored p).leaveReset p).host = s.host := ((State.leaveReset_eff ..).same .host rfl).trans (heff.same .host rfl)
    exact ⟨hstate, fun hnone => hrun ((s.restored_retiredUnits p).trans hnone), hat, by rw [hqueue, hparts],
      fun q hq => by rw [hothers q hq, hparts], hhost⟩
  case module =>
    obtain ⟨hreset, hstate⟩ := s.restarted_fields (hcause.trans (by decide))
    obtain ⟨hnow, hnor, hmem, hclusters, hparts, hreqs, hrings, hmap, -⟩ := s.restarted_cleared cause
    exact ⟨hreset, hstate, rfl, congrArg some hnow, hnow, hnor, hmem, hclusters, hparts, hreqs, hrings, hmap⟩
  case bmc =>
    obtain ⟨hreset, -⟩ := s.restarted_fields (cause := 4) (by decide)
    obtain ⟨-, hnor, -, -, hparts, hreqs, -, -, -⟩ := s.restarted_cleared 4
    exact ⟨hreset, rfl, hnor, hparts, hreqs⟩
  case perst =>
    obtain ⟨hreset, -⟩ := (s.putBoard { s.board with perstHigh := false }).restarted_fields (cause := 1) (by decide)
    obtain ⟨-, hnor, -, -, hparts, hreqs, -, -, hrun⟩ := (s.putBoard { s.board with perstHigh := false }).restarted_cleared 1
    exact ⟨((s.putBoard { s.board with perstHigh := false }).restarted_board 1).1, hreset, hrun, hnor, hparts, hreqs⟩
  case power =>
    obtain ⟨hreset, hrun, hboard, hnor, hparts⟩ := s.powered_start
    have hgood := congrArg BoardState.pwrGood hboard
    have hoff := congrArg BoardState.off hboard
    have hkept : s.idleTransfers.nor = s.nor := (State.idleTransfers_eff s).same .nor rfl
    exact ⟨hgood, hoff, hreset, hrun, hnor.trans hkept, hparts⟩
  case loss =>
    have heff := State.idleTransfers_eff s
    have hnor : s.idleTransfers.nor = s.nor := heff.same .nor rfl
    have hmap : s.idleTransfers.flash.map = s.flash.map := by rw [show s.idleTransfers.flash = s.flash from heff.same .flash rfl]
    exact ⟨rfl, rfl, rfl, hnor, rfl, hmap, rfl, rfl, rfl⟩

end

section
/-! Start-up (R346 to R349): how a row of Table BOOT-7 ends, how start-up fails, and how the module becomes READY. -/

namespace Sys2Proof.Machine

theorem exec_startupStageDone (r : StageResult) (s : State) : exec (.startupStageDone r) s = .next (s.stageDone r) := rfl
theorem exec_startupFailure (reason : Nat) (s : State) :
    exec (.startupFailure reason) s = .next (if s.boot.running then s.bootFail reason else s) := rfl
theorem exec_startupTimeout (s : State) : exec .startupTimeout s = .next s.bootTimeout := rfl
theorem exec_startupTimeWaitExpire (s : State) : exec .startupTimeWaitExpire s = .next s.timeWaitExpire := rfl

/-! ### A failure -/

section
variable {s : State} (hw : Registers.wf s.regs = true)

include hw

theorem State.stageEnd_stage {n : Nat} (hn : n < 32) : (s.stageEnd n).rd R.cfgBootStage 0 = n :=
  (State.rd_wr_same hw _ _ _ (by decide)).trans (Nat.mod_eq_of_lt hn)

/-- A start-up that fails says why, locks the configuration and powers the compute dies off. -/
theorem State.bootFail_fields {reason : Nat} (hr : reason < 256) : (s.bootFail reason).rd R.hstStatState 0 = hsFailed ∧
    (s.bootFail reason).rd R.hstStatFailReason 0 = reason ∧ (s.bootFail reason).rd R.cfgBootLocked 0 = 1 ∧
    (s.bootFail reason).rd R.cfgBootStage 0 = s.rd R.cfgBootStage 0 ∧ (s.bootFail reason).boot.running = false ∧
    (s.bootFail reason).power.diesOn = false ∧ (s.bootFail reason).mem = s.mem ∧ (s.bootFail reason).host = s.host := by
  have heff := State.bootFail_eff s reason
  have hregs : (s.bootFail reason).rd = (((s.wr R.hstStatState 0 hsFailed).wr R.hstStatFailReason 0 reason).wr R.cfgBootLocked 0 1).rd :=
    State.rd_congr (((State.diesOff_eff _).same .regs rfl).trans ((State.logEvent_eff ..).same .regs rfl))
  have hboot : (s.bootFail reason).boot.running = false := by
    unfold State.bootFail
    extract_lets t
    have hrow := congrArg BootState.running (((State.diesOff_eff _).same .boot rfl).trans
      ((State.logEvent_eff (t.updBoot fun b => { b with running := false }) logStart (hubSite 0 0) (leBytes 1 reason)).same .boot rfl))
    exact hrow
  rw [hregs]
  refine ⟨?_, ?_, ?_, ?_, hboot, rfl, heff.mem rfl rfl, heff.same .host rfl⟩
  all_goals
    simp (disch := first | decide | with_reducible apply_rules [State.wr_regs_wf, hw]) only [State.rd_wr_same, State.rd_wr_sibling, State.rd_wr_notAt]
  · rfl
  · exact Nat.mod_eq_of_lt hr
  · rfl

end

/-! ### READY -/

/-- The registers below the partitions' status, and those between the configuration and the trees. -/
def offStatus (k : Nat) : Prop := k < 0x200800 ∨ 0x300000 ≤ k ∧ k < 0xc40000

/-- From `s` to `t` they are left. -/
structure StatusOnly (s t : State) : Prop where
  wf : Registers.wf s.regs = true → Registers.wf t.regs = true
  reg : Registers.wf s.regs = true → ∀ k, offStatus k → t.reg k = s.reg k

namespace StatusOnly

theorem refl (s : State) : StatusOnly s s := ⟨id, fun _ _ _ => rfl⟩

theorem of_regs {s t : State} (h : t.regs = s.regs) : StatusOnly s t := ⟨fun hw => h ▸ hw, fun _ k _ => by rw [State.reg, State.reg, h]⟩

theorem trans {s t u : State} (h : StatusOnly s t) (h' : StatusOnly t u) : StatusOnly s u :=
  ⟨fun hw => h'.wf (h.wf hw), fun hw k hk => (h'.reg (h.wf hw) k hk).trans (h.reg hw k hk)⟩

theorem foldl {α : Type} {f : State → α → State} {l : List α} (hf : ∀ s, ∀ a ∈ l, StatusOnly s (f s a)) (s : State) :
    StatusOnly s (l.foldl f s) := by
  induction l generalizing s with
  | nil => exact refl s
  | cons a l ih => exact (hf s a List.mem_cons_self).trans (ih (fun s b hb => hf s b (List.mem_cons_of_mem _ hb)) _)

theorem wr {f : Fld} {i : Nat} (h : ¬ offStatus (regKey f.kind f.off i)) (s : State) (v : Nat) : StatusOnly s (s.wr f i v) :=
  ⟨fun hw => State.wr_regs_wf hw .., fun hw _ hk => State.reg_wr_ne hw _ _ _ fun he => h (he ▸ hk)⟩

theorem rd {s t : State} (h : StatusOnly s t) (hw : Registers.wf s.regs = true) {g : Fld} {j : Nat} (hg : offStatus (regKey g.kind g.off j)) :
    t.rd g j = s.rd g j := by
  rw [State.rd, State.rd, h.reg hw _ hg]

theorem partEn {s t : State} (h : StatusOnly s t) (hw : Registers.wf s.regs = true) (p : Nat) : t.partEn p = s.partEn p := by
  have hkey : regKey R.cfgPartEn.kind R.cfgPartEn.off p = 0x200400 + 8 * p := rfl
  by_cases hp : p < 64
  · rw [State.partEn, State.partEn, State.isSet, State.isSet, h.rd hw (Or.inl (by omega))]
  · simp [State.partEn, hp]

theorem enabledParts {s t : State} (h : StatusOnly s t) (hw : Registers.wf s.regs = true) : t.enabledParts = s.enabledParts := by
  rw [State.enabledParts, State.enabledParts, show t.partEn = s.partEn from funext (h.partEn hw)]

theorem partClusters {s t : State} (h : StatusOnly s t) (hw : Registers.wf s.regs = true) {p : Nat} (hp : p < 64) :
    t.partClusters p = s.partClusters p := by
  have hkey : regKey .array 0x200400 p = 0x200400 + 8 * p := rfl
  have hoff : offStatus (regKey .array 0x200400 p) := Or.inl (by omega)
  exact State.partClusters_congr (h.partEn hw p) (h.rd hw hoff) (h.rd hw hoff)

end StatusOnly

theorem State.enabledParts_lt {s : State} {p : Nat} (h : p ∈ s.enabledParts) : p < 64 := List.mem_range.1 (List.mem_filter.1 h).1

/-- Leaving reset writes the status of the partition and of its trees. -/
theorem State.leaveReset_statusOnly (s : State) {p : Nat} (hp : p < 64) : StatusOnly s (s.leaveReset p) := by
  have htree : ∀ off t, 0xc40000 ≤ off → ¬ offStatus (regKey .array off t) := fun off t hoff h => by
    have hkey : regKey .array off t = off + 8 * t := rfl
    unfold offStatus at h
    omega
  have hstat : ¬ offStatus (regKey R.cfgPstatState.kind R.cfgPstatState.off p) := fun h => by
    have hkey : regKey R.cfgPstatState.kind R.cfgPstatState.off p = 0x200800 + 8 * p := rfl
    unfold offStatus at h
    omega
  unfold State.leaveReset
  extract_lets t u x
  have ht : StatusOnly s t := StatusOnly.foldl (fun s i _ => by
    split
    · exact (StatusOnly.wr (htree _ _ (by decide)) ..).trans (StatusOnly.wr (htree _ _ (by decide)) ..)
    · exact StatusOnly.refl s) s
  have hu : StatusOnly t u := by
    unfold u
    split <;> exact StatusOnly.wr hstat ..
  exact (ht.trans hu).trans (StatusOnly.of_regs rfl)

/-- A cluster starts. -/
def State.startCluster (s : State) (cl : Nat) : State := s.setCluster cl { s.cluster cl with stopped := false }

/-- A partition's clusters start. -/
def State.startClusters (s : State) (p : Nat) : State := (s.partClusters p).foldl State.startCluster s

theorem State.startClusters_eff (s : State) (p : Nat) : Eff 2048 s (s.startClusters p) := Eff.foldl (fun _ _ => State.setCluster_eff ..) (Eff.refl ..)

theorem State.startCluster_runs {s : State} {j cl : Nat} (h : (s.cluster j).stopped = false ∨ j = cl) :
    ((s.startCluster cl).cluster j).stopped = false := by
  rw [State.startCluster, State.setCluster_eq]
  by_cases hj : j = cl
  · rw [hj, State.cluster_put_same]
  · rw [State.cluster_put_ne _ _ hj]
    exact h.resolve_right hj

theorem State.start_runs {l : List Nat} {s : State} {j : Nat} (h : (s.cluster j).stopped = false ∨ j ∈ l) :
    ((l.foldl State.startCluster s).cluster j).stopped = false := by
  induction l generalizing s with
  | nil => exact h.resolve_right List.not_mem_nil
  | cons cl l ih =>
    rw [List.mem_cons, ← or_assoc] at h
    exact ih (h.imp_left State.startCluster_runs)

theorem State.startAll_runs {ps : List Nat} {s : State} {j : Nat} (h : (s.cluster j).stopped = false ∨ ∃ p ∈ ps, j ∈ s.partClusters p) :
    ((ps.foldl State.startClusters s).cluster j).stopped = false := by
  induction ps generalizing s with
  | nil => exact h.resolve_right fun ⟨_, hp, _⟩ => List.not_mem_nil hp
  | cons p ps ih =>
    have hregs : (s.startClusters p).regs = s.regs := (s.startClusters_eff p).same .regs rfl
    have hsame : ∀ q, (s.startClusters p).partClusters q = s.partClusters q := fun q =>
      State.partClusters_congr (by rw [State.partEn, State.partEn, State.isSet, State.isSet, State.rd_congr hregs])
        (by rw [State.rd_congr hregs]) (by rw [State.rd_congr hregs])
    refine ih ?_
    rcases h with h | ⟨q, hq, hj⟩
    · exact Or.inl (State.start_runs (Or.inl h))
    · rcases List.mem_cons.1 hq with rfl | hq
      · exact Or.inl (State.start_runs (Or.inr hj))
      · exact Or.inr ⟨q, hq, by rwa [hsame]⟩

/-- The partitions leave reset and their clusters start. -/
def State.opened (s : State) : State :=
  let t := s.enabledParts.foldl State.leaveReset s
  t.enabledParts.foldl State.startClusters t

theorem State.bootReady_eq (s : State) : s.bootReady =
    (((s.opened.wr R.hstStatState 0 hsReady).updHost fun h => { h with answers := h.answers ++ [.readyMessage] }).updBoot fun b =>
      { b with running := false }).stageEnd 18 := rfl

section
variable (s : State)

theorem State.opened_eff : Eff 10248 s s.opened :=
  Eff.foldl (fun _ _ => (State.startClusters_eff ..).mono rfl) (Eff.foldl (fun s p => (State.leaveReset_eff s p).mono rfl) (Eff.refl ..))

theorem State.leaveAll_statusOnly : StatusOnly s (s.enabledParts.foldl State.leaveReset s) :=
  StatusOnly.foldl (fun s _ hp => s.leaveReset_statusOnly (State.enabledParts_lt hp)) s

theorem State.opened_statusOnly : StatusOnly s s.opened :=
  s.leaveAll_statusOnly.trans (StatusOnly.of_regs ((Eff.foldl State.startClusters_eff (Eff.refl ..)).same .regs rfl))

variable {s} (hw : Registers.wf s.regs = true)

include hw

theorem State.opened_runs {p cl : Nat} (hp : p ∈ s.enabledParts) (hcl : cl ∈ s.partClusters p) : (s.opened.cluster cl).stopped = false :=
  State.startAll_runs (Or.inr ⟨p, (s.leaveAll_statusOnly.enabledParts hw).symm ▸ hp, by
    rwa [s.leaveAll_statusOnly.partClusters hw (State.enabledParts_lt hp)]⟩)

/-- The module is READY. -/
theorem State.bootReady_fields : s.bootReady.rd R.cfgBootStage 0 = 18 ∧ s.bootReady.rd R.hstStatState 0 = hsReady ∧
    s.bootReady.boot.running = false ∧ s.bootReady.host.answers = s.host.answers ++ [.readyMessage] ∧
    (∀ p ∈ s.enabledParts, ∀ cl ∈ s.partClusters p, (s.bootReady.cluster cl).stopped = false) ∧ s.bootReady.mem = s.mem ∧
    s.bootReady.faults = s.faults ∧ s.bootReady.rd R.timStatState 0 = s.rd R.timStatState 0 := by
  have heff := s.bootReady_eff
  have hwo := s.opened_eff.regs hw
  have hhost : s.opened.host.answers = s.host.answers := by rw [show s.opened.host = s.host from s.opened_eff.same .host rfl]
  have htim : s.opened.rd R.timStatState 0 = s.rd R.timStatState 0 := s.opened_statusOnly.rd hw (Or.inr (by decide))
  have hregs : s.bootReady.rd = ((s.opened.wr R.hstStatState 0 hsReady).wr R.cfgBootStage 0 18).rd := by rw [State.bootReady_eq]; generalize s.opened = o; rfl
  have hanswers : s.bootReady.host.answers = s.opened.host.answers ++ [.readyMessage] := by rw [State.bootReady_eq]; generalize s.opened = o; rfl
  have hclusters : s.bootReady.cluster = s.opened.cluster := by rw [State.bootReady_eq]; generalize s.opened = o; rfl
  rw [hregs, hanswers, hhost, hclusters]
  refine ⟨?_, ?_, by rw [State.bootReady_eq]; generalize s.opened = o; rfl, rfl, fun p hp cl hcl => State.opened_runs hw hp hcl, heff.mem rfl rfl, heff.same .faults rfl, ?_⟩
  all_goals
    generalize s.opened = o at hwo htim
    simp (disch := first | decide | with_reducible apply_rules [State.wr_regs_wf, hwo]) only [State.rd_wr_same, State.rd_wr_notAt]
  · rfl
  · rfl
  · exact htim

end

/-! ### The rows of Table BOOT-7 -/

section
variable {s : State} (hrun : s.boot.running = true)

include hrun

theorem State.stageDone_done {n : Nat} (hn : n ∈ [1, 8]) (hstage : s.rd R.cfgBootStage 0 + 1 = n) : s.stageDone .done = s.stageEnd n := by
  unfold State.stageDone
  rw [hrun, hstage]
  rcases List.mem_pair.1 hn with rfl | rfl <;> rfl

theorem State.stageDone_bootHeader (hstage : s.rd R.cfgBootStage 0 = 3) (ok : Bool) (q f c : Nat) :
    s.stageDone (.bootHeader ok q f c) = s.bootHeader ok q f c := by
  unfold State.stageDone
  rw [hrun, hstage]
  rfl

theorem State.stageDone_link (hstage : s.rd R.cfgBootStage 0 = 5) (g w : Nat) : s.stageDone (.link g w) =
    (((s.updHost fun h => { h with linkL0 := true }).wr R.hstStatGen 0 g).wr R.hstStatWidth 0 w).stageEnd 6 := by
  unfold State.stageDone
  rw [hrun, hstage]
  rfl

theorem State.stageDone_ports (hstage : s.rd R.cfgBootStage 0 = 11) :
    s.stageDone .done = (s.updBoot fun b => { b with portsUpAt := some s.now }).stageEnd 12 := by
  unfold State.stageDone
  rw [hrun, hstage]
  rfl

theorem State.stageDone_zero (hstage : s.rd R.cfgBootStage 0 = 13) : s.stageDone .done = s.bootZero := by
  unfold State.stageDone
  rw [hrun, hstage]
  rfl

theorem State.stageDone_noFailure (hstage : s.rd R.cfgBootStage 0 = 15) : s.stageDone (.selfTest [] true) = s.stageEnd 16 := by
  unfold State.stageDone
  rw [hrun, hstage]
  rfl

theorem State.stageDone_ready (hstage : s.rd R.cfgBootStage 0 = 17) : s.stageDone .done = s.bootReady := by
  unfold State.stageDone
  rw [hrun, hstage]
  rfl

end

/-- A link that has come up is read with its generation and width. -/
theorem State.linkUp_fields {s : State} (hw : Registers.wf s.regs = true) {g w : Nat} (hg : g < 8) (hwidth : w < 16) :
    let t := ((s.wr R.hstStatGen 0 g).wr R.hstStatWidth 0 w).stageEnd 6
    t.rd R.cfgBootStage 0 = 6 ∧ t.rd R.hstStatGen 0 = g ∧ t.rd R.hstStatWidth 0 = w := by
  refine ⟨State.stageEnd_stage (State.wr_regs_wf (State.wr_regs_wf hw ..) ..) (by decide), ?_, ?_⟩
  all_goals
    simp (disch := first | decide | with_reducible apply_rules [State.wr_regs_wf, hw]) only [State.stageEnd, State.rd_wr_same, State.rd_wr_sibling,
      State.rd_wr_notAt]
  · exact Nat.mod_eq_of_lt (hg.trans (by decide))
  · exact Nat.mod_eq_of_lt hwidth

end Sys2Proof.Machine

open Sys2Proof.Machine

/-- Settles O34: each row's end is the operation of that row, and the failures and the wait for the time end start-up. -/
theorem startUpCommandsComplete : Obligations.StartUpCommandsComplete := by
  unfold Obligations.StartUpCommandsComplete
  refine ⟨fun s n hw hrun hn hstage => Answers.of (exec_startupStageDone _ s) (State.stageDone_done hrun hn hstage)
      ⟨State.stageEnd_stage hw ?_, rfl, rfl, rfl, rfl, rfl, rfl⟩,
    fun s q f c hw hrun hstage => Answers.of (exec_startupStageDone _ s) (State.stageDone_bootHeader hrun hstage true q f c)
      ⟨State.stageEnd_stage (s := s.updNor _) hw (by decide), rfl, rfl, rfl, rfl, rfl, rfl, rfl⟩,
    fun s q f c hw hrun hstage => Answers.of (exec_startupStageDone _ s) (State.stageDone_bootHeader hrun hstage false q f c) ?header,
    fun s g w hw hrun hstage hg hwidth => Answers.of (exec_startupStageDone _ s) (State.stageDone_link hrun hstage g w) ?link,
    fun s hw hrun hstage => Answers.of (exec_startupStageDone _ s) (State.stageDone_ports hrun hstage)
      ⟨State.stageEnd_stage (s := s.updBoot _) hw (by decide), rfl, rfl, rfl, rfl, rfl, rfl⟩,
    fun s hw hrun hstage => Answers.of (exec_startupStageDone _ s) (State.stageDone_zero hrun hstage)
      ⟨State.stageEnd_stage (s := s.updMem _) hw (by decide), rfl, rfl, rfl⟩,
    fun s hw hrun hstage => Answers.of (exec_startupStageDone _ s) (State.stageDone_noFailure hrun hstage)
      ⟨State.stageEnd_stage hw (by decide), rfl, rfl, rfl, rfl, rfl, rfl⟩,
    fun s hw hrun hstage => Answers.of (exec_startupStageDone _ s) (State.stageDone_ready hrun hstage) ?ready,
    fun s reason hw hrun hreason => Answers.of (exec_startupFailure reason s) (if_pos hrun) ?failure,
    fun s u hw hrun hu hlate => Answers.of (exec_startupTimeout s) (if_pos ⟨hrun, by simpa [hu] using hlate⟩) ?timeout,
    fun s u hw hrun hstage hmaster hu hlate hroom => Answers.of (exec_startupTimeWaitExpire s)
      (if_pos ⟨hrun, hstage, by simpa [State.isMaster] using hmaster, by simpa [hu] using hlate⟩) ?wait⟩
  · rcases List.mem_pair.1 hn with rfl | rfl <;> decide
  case header =>
    obtain ⟨hstate, hreason, hlocked, hkept, hstop, hdies, hmem, hhost⟩ := State.bootFail_fields hw (reason := 0x0B) (by decide)
    exact ⟨hstate, hreason, hlocked, hkept.trans hstage, hstop, hdies, hmem, hhost⟩
  case link =>
    obtain ⟨hst, hgen, hwid⟩ := State.linkUp_fields (s := s.updHost fun h => { h with linkL0 := true }) hw hg hwidth
    exact ⟨hst, rfl, hgen, hwid, rfl, rfl⟩
  case ready =>
    obtain ⟨hst, hstate, hstop, hanswers, hruns, hmem, -, -⟩ := State.bootReady_fields hw
    exact ⟨hst, hstate, hstop, hanswers, hruns, hmem⟩
  case failure =>
    obtain ⟨hstate, hr, hlocked, -, hstop, hdies, hmem, hhost⟩ := State.bootFail_fields hw hreason
    exact ⟨hstate, hr, hlocked, hstop, hdies, hmem, hhost⟩
  case timeout =>
    obtain ⟨hstate, hreason, -, -, hstop, -, hmem, hhost⟩ := State.bootFail_fields hw (reason := 0x0C) (by decide)
    exact ⟨hstate, hreason, hstop, hmem, hhost⟩
  case wait =>
    have heff : Eff 264 s ((s.wr R.timStatState 0 0).raise 0x08A (portSite 0) (portMaster 0) 0 5 0) :=
      (State.raise_eff ..).step rfl ((State.wr_eff ..).mono rfl)
    have hregs := (State.raise_eff (s.wr R.timStatState 0 0) 0x08A (portSite 0) (portMaster 0) 0 5 0).same .regs rfl
    have hsent := State.raise_raises (s.wr R.timStatState 0 0) 0x08A (portSite 0) (portMaster 0) 0 5 0 hroom
    generalize (s.wr R.timStatState 0 0).raise 0x08A (portSite 0) (portMaster 0) 0 5 0 = u at heff hregs hsent
    have hwu := heff.regs hw
    obtain ⟨hst, hstate, -, -, -, hmem, hfaults, htim⟩ := State.bootReady_fields (s := u.stageEnd 17) (State.wr_regs_wf hwu ..)
    have htime : (u.stageEnd 17).rd R.timStatState 0 = 0 := by
      rw [State.stageEnd, State.rd_wr_notAt hwu _ (by decide), State.rd_congr hregs, State.rd_wr_same hw _ _ _ (by decide), Nat.zero_mod]
    exact ⟨hstate, htim.trans htime, hst, by rw [hfaults]; exact hsent, hmem.trans (heff.mem rfl rfl)⟩

end

section
/-! Ports of the fabric (R267 to R285): which fields of the registers the operations on a port leave, and what sending leaves of a port. -/

namespace Sys2Proof.Machine

/-! ### Fields that writes leave -/

/-- Writes of entry `i` of field `f` leave entry `j` of field `g`. -/
structure Fld.LeftBy (g : Fld) (j : Nat) (f : Fld) (i : Nat) : Prop where
  rd : ∀ (s : State) (v : Nat), Registers.wf s.regs = true → (s.wr f i v).rd g j = s.rd g j

theorem Fld.LeftBy.sibling {f g : Fld} (h : f.sibling g = true) (i : Nat) : g.LeftBy i f i := ⟨fun _ v hw => State.rd_wr_sibling hw i v h⟩

theorem Fld.LeftBy.notAt {f g : Fld} {i j : Nat} (h : g.notAt j (regKey f.kind f.off i) = true) : g.LeftBy j f i :=
  ⟨fun _ v hw => State.rd_wr_notAt hw v h⟩

/-- The channels of a select register are apart by their offsets, whatever the channel. -/
theorem regKey_window_ne {off off' : Nat} (h : off % 2 ^ 26 ≠ off' % 2 ^ 26) (i : Nat) : i * 2 ^ 26 + off ≠ off' := by omega

theorem Fld.LeftBy.windows {f g : Fld} (hg : g.kind = .window) (hf : f.kind = .window) (h : (g.off % 2 ^ 26 != f.off % 2 ^ 26) = true) (i j : Nat) :
    g.LeftBy j f i := Fld.LeftBy.notAt (by
  rw [Fld.notAt, hg, hf, bne_iff_ne]
  refine regKey_window_ne ?_ j
  rw [regKey, Nat.mul_add_mod']
  exact bne_iff_ne.1 h)

/-- A register that stands once is in no channel of a window. -/
theorem Fld.LeftBy.ofArray {f g : Fld} (hg : g.kind = .window) (hf : f.kind = .array) (h : (g.off % 2 ^ 26 != f.off % 2 ^ 26) = true) (j : Nat) :
    g.LeftBy j f 0 := Fld.LeftBy.notAt (by
  rw [Fld.notAt, hg, hf, bne_iff_ne]
  exact regKey_window_ne (bne_iff_ne.1 h) j)

theorem Fld.LeftBy.array {f g : Fld} (hg : g.kind = .array) (hf : f.kind = .window) (h : (f.off % 2 ^ 26 != g.off % 2 ^ 26) = true) (i : Nat) :
    g.LeftBy 0 f i := Fld.LeftBy.notAt (by
  rw [Fld.notAt, hg, hf, bne_iff_ne]
  exact (regKey_window_ne (bne_iff_ne.1 h) i).symm)

/-- From `s` to `t` entry `j` of field `g` is left. -/
structure Fld.Kept (g : Fld) (j : Nat) (s t : State) : Prop where
  wf : Registers.wf s.regs = true → Registers.wf t.regs = true
  rd : Registers.wf s.regs = true → t.rd g j = s.rd g j

namespace Fld.Kept

variable {g : Fld} {j : Nat} {s t u : State}

theorem refl : g.Kept j s s := ⟨id, fun _ => rfl⟩

theorem of_regs (h : t.regs = s.regs) : g.Kept j s t := ⟨fun hw => h ▸ hw, fun _ => by rw [State.rd_congr h]⟩

theorem of_eff {k : Nat} (h : Eff k s t) (hk : k.testBit 3 = false) : g.Kept j s t := of_regs (h.same .regs hk)

theorem trans (h : g.Kept j s t) (h' : g.Kept j t u) : g.Kept j s u :=
  ⟨fun hw => h'.wf (h.wf hw), fun hw => (h'.rd (h.wf hw)).trans (h.rd hw)⟩

theorem wr {f : Fld} {i : Nat} (h : g.LeftBy j f i) (s : State) (v : Nat) : g.Kept j s (s.wr f i v) :=
  ⟨fun hw => State.wr_regs_wf hw .., h.rd s v⟩

theorem foldl {α : Type} {f : State → α → State} (hf : ∀ s a, g.Kept j s (f s a)) (l : List α) (s : State) : g.Kept j s (l.foldl f s) := by
  induction l generalizing s with
  | nil => exact refl
  | cons a l ih => exact (hf s a).trans (ih _)

variable (s)

/-- The masks of the ports' states stand in OPT_STAT. -/
theorem mirrorPort (h : ∀ f ∈ [R.optStatUp, R.optStatNarrow, R.optStatRetired], g.LeftBy j f 0) (p : Nat) : g.Kept j s (s.mirrorPort p) := by
  have put : ∀ f ∈ [R.optStatUp, R.optStatNarrow, R.optStatRetired], ∀ (s : State) (b : Bool),
      g.Kept j s (if bitOf (s.rd f 0) p = b then s else s.wr f 0 (if b then s.rd f 0 + 2 ^ p else s.rd f 0 - 2 ^ p)) := fun f hf s b => by
    split
    · exact refl
    · exact wr (h f hf) ..
  unfold State.mirrorPort
  extract_lets st up each narrow
  exact ((put R.optStatUp (by simp) ..).trans (put R.optStatNarrow (by simp) ..)).trans (put R.optStatRetired (by simp) ..)

theorem setPortState (h : ∀ f ∈ [R.optStatUp, R.optStatNarrow, R.optStatRetired], g.LeftBy j f 0) {p : Nat} (hp : g.LeftBy j R.optPstatState p) (st : Nat) :
    g.Kept j s (s.setPortState p st) := (wr hp ..).trans (mirrorPort _ h p)

theorem mirrorLanes {p : Nat} (h : g.LeftBy j R.optPstatLanesTx p) : g.Kept j s (s.mirrorLanes p) := wr h ..

theorem lanesState {p : Nat} (h : ∀ l, g.LeftBy j R.optLstatState (laneKey p l)) (st : Nat) : g.Kept j s (s.lanesState p st) :=
  foldl (fun s l => wr (h l) s st) _ _

theorem pumpPort {p : Nat} (h : g.LeftBy j R.optPstatLanesTx p) : g.Kept j s (s.pumpPort p) := by
  by_cases hc : s.portCarries p = true ∧ s.fab.isolated = false
  · obtain ⟨a, b, n, lanes, errs, he⟩ := State.pumpPort_eq hc.1 hc.2
    rw [he]
    generalize Port.tell 8 lanes errs _ = y
    have hregs : g.Kept j s ((s.updFab fun f => { f with askOut := a, asked := b }).setPort p y) := of_regs (id rfl)
    exact hregs.trans (mirrorLanes _ h)
  · rw [State.pumpPort, if_neg (by simpa using hc)]
    exact refl

end Fld.Kept

/-! ### The port beside its registers -/

theorem State.setPort_port (s : State) (p : Nat) (x : Port) : (s.setPort p x).port p = x := by
  change (aget (aput s.fab.ports p x) p).getD Port.init = x
  rw [aget_aput_same]
  rfl

theorem State.port_congr {s t : State} (h : t.fab = s.fab) (p : Nat) : t.port p = s.port p := by rw [State.port, State.port, h]

theorem State.port_of_eff {k : Nat} {s t : State} (h : Eff k s t) (hk : k.testBit 32 = false) (p : Nat) : t.port p = s.port p :=
  State.port_congr (h.same .fab hk) p

/-- What the frames that go out change of a port. -/
def Port.Sent (x y : Port) : Prop :=
  y = { x with queue := y.queue, arb := y.arb, credits := y.credits, txRest := y.txRest, txMsg := y.txMsg, sent := y.sent, owed := y.owed
               fbLane := y.fbLane, linkNews := y.linkNews, replay := y.replay, ackAt := y.ackAt, txNext := y.txNext }

theorem Port.Sent.refl (x : Port) : x.Sent x := rfl

theorem Port.Sent.trans {x y z : Port} (h : x.Sent y) (h' : y.Sent z) : x.Sent z := by
  unfold Port.Sent at *
  rw [h] at h'
  exact h'

theorem Port.grant_sent {x y : Port} {now : Nat} {m : FabMsg} (h : x.grant now = some (y, m)) : x.Sent y := by
  unfold Port.grant at h
  extract_lets can pend g at h
  split at h
  · cases h
  · simp only [Option.some.injEq, Prod.mk.injEq] at h
    rw [← h.1]
    rfl

theorem Port.fill_sent (fuel now room : Nat) (x : Port) (f : TxFrame) : x.Sent (x.fill fuel now room f).1 := by
  induction fuel generalizing room x f with
  | zero => exact Port.Sent.refl x
  | succ n ih =>
    unfold Port.fill
    split
    · exact Port.Sent.refl x
    · split
      · split
        · exact Port.Sent.refl x
        · rename_i y m hg
          exact (Port.grant_sent hg).trans ((show y.Sent { y with txRest := fabWords m, txMsg := some m } from rfl).trans (ih ..))
      · exact (show x.Sent { x with txRest := x.txRest.drop (Nat.min room x.txRest.length) } from rfl).trans (ih ..)

theorem Port.emit_sent (x : Port) (lanes errs : List Nat) (empty : Bool) (number : Nat) (words : List (List Byte)) :
    x.Sent (x.emit lanes errs empty number words) := rfl

theorem Port.pump_sent (fuel now : Nat) (lanes errs : List Nat) (x : Port) : x.Sent (x.pump fuel now lanes errs) := by
  induction fuel generalizing x with
  | zero => exact Port.Sent.refl x
  | succ n ih =>
    unfold Port.pump
    split
    · exact Port.Sent.refl x
    · extract_lets room y z
      split
      · exact Port.Sent.refl x
      · have hz : x.Sent z := (Port.fill_sent ..).trans (Port.emit_sent ..)
        refine hz.trans (Port.Sent.trans (y := { z with
          replay := z.replay ++ [y.2], ackAt := if x.replay.isEmpty then now else z.ackAt, txNext := (x.txNext + 1) % 2 ^ 16 }) ?_ (ih _))
        rfl

/-- What empty frames change. -/
def Port.Told (x y : Port) : Prop := y = { x with sent := y.sent, owed := y.owed, fbLane := y.fbLane, linkNews := y.linkNews }

theorem Port.Told.sent {x y : Port} (h : x.Told y) : x.Sent y := by
  unfold Port.Told Port.Sent at *
  rw [h]

theorem Port.tell_told (fuel : Nat) (lanes errs : List Nat) (x : Port) : x.Told (x.tell fuel lanes errs) := by
  induction fuel generalizing x with
  | zero => rfl
  | succ n ih =>
    unfold Port.tell
    split
    · rfl
    · have h := ih (x.emit lanes errs true x.txNext [])
      unfold Port.Told at *
      rw [h]
      rfl

/-- A port with nothing queued and no message under way sends empty frames alone. -/
theorem Port.pump_idle {x : Port} (hq : x.queue = []) (hr : x.txRest = []) (fuel now : Nat) (lanes errs : List Nat) : x.pump fuel now lanes errs = x := by
  cases fuel with
  | zero => rfl
  | succ n =>
    have hgrant : x.grant now = none := by
      unfold Port.grant
      extract_lets can pend g
      have hcan : can = [] := by
        unfold can
        rw [hq, Port.ready]
      rw [hcan]
      cases g.1 <;> rfl
    have hfill : ∀ fuel room f, x.fill fuel now room f = (x, f) := fun fuel room f => by
      cases fuel with
      | zero => rfl
      | succ n => simp [Port.fill, hr, hgrant]
    unfold Port.pump
    simp [hfill]

theorem State.pumpPort_sent (s : State) (p : Nat) : (s.port p).Sent ((s.pumpPort p).port p) := by
  by_cases hc : s.portCarries p = true ∧ s.fab.isolated = false
  · obtain ⟨a, b, n, lanes, errs, he⟩ := State.pumpPort_eq hc.1 hc.2
    rw [he, State.port_of_eff (State.mirrorLanes_eff ..) (by decide), State.setPort_port]
    exact (Port.pump_sent ..).trans (Port.tell_told ..).sent
  · rw [State.pumpPort, if_neg (by simpa using hc)]
    exact Port.Sent.refl _

theorem State.pumpPort_told {s : State} {p : Nat} (hq : (s.port p).queue = []) (hr : (s.port p).txRest = []) :
    (s.port p).Told ((s.pumpPort p).port p) := by
  by_cases hc : s.portCarries p = true ∧ s.fab.isolated = false
  · obtain ⟨a, b, n, lanes, errs, he⟩ := State.pumpPort_eq hc.1 hc.2
    rw [he, State.port_of_eff (State.mirrorLanes_eff ..) (by decide), State.setPort_port, Port.pump_idle hq hr]
    exact Port.tell_told ..
  · rw [State.pumpPort, if_neg (by simpa using hc)]
    exact rfl

end Sys2Proof.Machine

end

section
/-! Training, loss and hand-over of ports, and the tracking of their lanes (R276, R281 to R285). -/

namespace Sys2Proof.Machine

theorem exec_portTraining (p l : Nat) (h : BitVec 128) (cs : List Nat) (s : State) : exec (.portTraining p l h cs) s = .next (s.training p l h cs) := rfl
theorem exec_portTrainRetry (p : Nat) (s : State) : exec (.portTrainRetry p) s = .next (s.trainRetry p) := rfl
theorem exec_portLossOfLock (p : Nat) (s : State) : exec (.portLossOfLock p) s = .next (s.lossOfLock p) := rfl
theorem exec_lightReturn (p : Nat) (s : State) : exec (.lightReturn p) s = .next (s.lightReturn p) := rfl
theorem exec_handoverStart (p l : Nat) (s : State) : exec (.handoverStart p l) s = .next (s.handoverStart p l) := rfl
theorem exec_hoLock (p l : Nat) (s : State) : exec (.hoLock p l) s = .next (s.hoLocked p l) := rfl
theorem exec_handoverTimeout (p l : Nat) (s : State) : exec (.handoverTimeout p l) s = .next (s.handoverLate p l) := rfl
theorem exec_laneLockHeld (p l : Nat) (s : State) : exec (.laneLockHeld p l) s = .next (s.lockHeld p l) := rfl
theorem exec_laneTrackingStep (p l : Nat) (b t r : Int) (e : Nat) (s : State) :
    exec (.laneTrackingStep p l b t r e) s = .next (s.trackOptic p l b t r e) := rfl

/-! ### Fields of a port's registers -/

/-- OPT_STAT has no field of a channel. -/
theorem Fld.LeftBy.optStat {g : Fld} (hg : g.kind = .window) (h : (g.off % 2 ^ 26 != 0x500008 % 2 ^ 26) = true) (j : Nat) :
    ∀ f ∈ [R.optStatUp, R.optStatNarrow, R.optStatRetired], g.LeftBy j f 0 := by
  intro f hf
  simp only [List.mem_cons, List.not_mem_nil, or_false] at hf
  rcases hf with rfl | rfl | rfl <;> exact Fld.LeftBy.ofArray hg rfl h j

section
variable (s : State) (p : Nat)

/-- The operations on a port's lanes leave its state. -/
theorem State.mirrorLanes_state : R.optPstatState.Kept p s (s.mirrorLanes p) := Fld.Kept.mirrorLanes s (.sibling (by decide) p)
theorem State.pumpPort_state : R.optPstatState.Kept p s (s.pumpPort p) := Fld.Kept.pumpPort s (.sibling (by decide) p)
theorem State.lanesState_state (st : Nat) : R.optPstatState.Kept p s (s.lanesState p st) :=
  Fld.Kept.lanesState s (fun _ => .windows rfl rfl (by decide) ..) st

/-- A lane's field is left by a write to its port's registers. -/
theorem Fld.LeftBy.lane {g f : Fld} (hg : g.kind = .window) (ho : g.off = 0x500240) (hf : f.kind = .window) (hfo : f.off = 0x500140) (i j : Nat) :
    g.LeftBy j f i := .windows hg hf (by rw [ho, hfo]; decide) ..

variable {s}

theorem State.setPortState_state (hw : Registers.wf s.regs = true) {st : Nat} (hst : st < 16) : (s.setPortState p st).portState p = st :=
  ((Fld.Kept.mirrorPort (s.wr R.optPstatState p st) (Fld.LeftBy.optStat (g := R.optPstatState) rfl (by decide) p) p).rd (State.wr_regs_wf hw ..)).trans
    ((State.rd_wr_same hw _ _ _ (by decide)).trans (Nat.mod_eq_of_lt hst))

end

/-- A message is raised after operations that raise none. -/
theorem Raises.after {s u t : State} {m : FaultMsg} (hu : u.faults = s.faults) (h : Raises u t m) : Raises s t m := fun hroom =>
  h (by simpa only [State.hasRoom, hu] using hroom)

/-- A message raised after operations that raise none has the time of their start. -/
theorem State.raise_after {k : Nat} {s u : State} (h : Eff k s u) (hk : (k.testBit 2 || k.testBit 8) = false) (kind site master addr access outcome : Nat) :
    Raises s (u.raise kind site master addr access outcome) ⟨kind, site, master, addr, access, outcome, s.now % 2 ^ 32⟩ := by
  obtain ⟨hnow, hfaults⟩ := Bool.or_eq_false_iff.1 hk
  have hn : u.now = s.now := h.same .now hnow
  exact Raises.after (h.same .faults hfaults) (hn ▸ State.raise_raises u kind site master addr access outcome)

theorem Fld.Kept.raise {g : Fld} {j : Nat} (s : State) (kind site master addr access outcome : Nat) :
    g.Kept j s (s.raise kind site master addr access outcome) := Fld.Kept.of_eff (State.raise_eff ..) (by decide)

/-! ### Light -/

section
variable {s : State} {p : Nat} (hw : Registers.wf s.regs = true)

theorem State.trainRetry_eq (hpc : p < s.portCount) (hon : s.power.opticsOn = true) (hst : s.portState p = opDown) (hdark : (s.port p).dark = false)
    (hat : (s.port p).downAt + 10 ^ 10 ≤ s.now) : s.trainRetry p = (s.setPortState p opTrain).lanesState p 1 :=
  if_pos ⟨hon, hpc, hst, by rw [hdark]; rfl, by omega⟩

theorem State.lightReturn_eq (hon : s.power.opticsOn = true) (hst : s.portState p = opDown) (hdark : (s.port p).dark = true) :
    s.lightReturn p = ((s.setPort p { s.port p with dark := false }).setPortState p opTrain).lanesState p 1 := if_pos ⟨hon, hst, hdark⟩

include hw

theorem State.train_state (st : Nat) : ((s.setPortState p opTrain).lanesState p st).portState p = opTrain :=
  ((State.lanesState_state _ p st).rd ((State.setPortState_eff s p opTrain).regs hw)).trans (State.setPortState_state p hw (by decide))

/-- A port with nothing queued or under way is retired. -/
theorem State.retirePort_idle (hst : s.portState p ≠ opRetired) (hq : (s.port p).queue = []) (hu : (s.port p).unacked = []) :
    (s.retirePort p).portState p = opRetired ∧ Raises s (s.retirePort p) ⟨0x084, portSite p, portMaster p, 0, 5, 2, s.now % 2 ^ 32⟩ ∧
      Keeps s (s.retirePort p) := by
  have hdrop : ∃ x, s.dropPort p opRetired =
      ((((s.setPortState p opRetired).setPort p x).mirrorLanes p).wr R.optPstatLanesRx p 0).lanesState p 0 := by
    simp only [State.dropPort, hq, hu, List.foldl_nil, State.moveQueue]
    exact ⟨_, rfl⟩
  obtain ⟨x, hx⟩ := hdrop
  have heff : Eff 4294967304 s (s.dropPort p opRetired) := by
    rw [hx]
    exact (State.lanesState_eff ..).step rfl ((State.wr_eff ..).step rfl ((State.mirrorLanes_eff ..).step rfl ((State.setPort_eff ..).step rfl
      ((State.setPortState_eff ..).mono rfl))))
  have hkept : R.optPstatState.Kept p (s.setPortState p opRetired) (s.dropPort p opRetired) := by
    rw [hx]
    have hport : R.optPstatState.Kept p (s.setPortState p opRetired) ((s.setPortState p opRetired).setPort p x) := Fld.Kept.of_regs (id rfl)
    exact ((hport.trans (State.mirrorLanes_state ..)).trans (Fld.Kept.wr (.sibling (by decide) p) ..)).trans (State.lanesState_state ..)
  have hstate := (hkept.rd ((State.setPortState_eff ..).regs hw)).trans (State.setPortState_state p hw (by decide))
  have hraise : s.retirePort p = (s.dropPort p opRetired).raise 0x084 (portSite p) (portMaster p) 0 5 2 := if_neg hst
  rw [hraise]
  generalize s.dropPort p opRetired = u at heff hstate
  exact ⟨((Fld.Kept.raise u 0x084 (portSite p) (portMaster p) 0 5 2).rd (heff.regs hw)).trans hstate, State.raise_after heff (by decide) _ _ _ _ _ _,
    (heff.keeps (by decide)).trans ((State.raise_eff ..).keeps (by decide))⟩

end

/-! ### Hand-over -/

section
variable {s : State} {p l : Nat}

theorem State.handoverStart_eq (hl : l < 8) (hbad : s.badLanes p = 0) (hask : l ∈ (s.port p).hoAsk) (hst : s.portState p = opUp) :
    s.handoverStart p l = (((((s.setPort p { s.port p with handover := some (l, s.now), hoBack := none, hoAsk := (s.port p).hoAsk.filter fun y => y ≠ l }
      ).setPortState p opHandover).wr R.optLstatState (laneKey p l) 3).pumpPort p)) := by
  have hneeds : s.needsHandover p l = true := by simp [State.needsHandover, hask]
  have hgo : ¬ (8 ≤ l ∨ bitOf (s.badLanes p) l = true ∨ (!s.needsHandover p l) = true) := by
    rw [hbad, hneeds]
    simp [bitOf, hl]
  unfold State.handoverStart
  rw [if_neg hgo, hst]
  rfl

/-- A port that hands a lane over, as `x`: the lane trains again and narrow frames go out. -/
theorem State.handing_fields (hw : Registers.wf s.regs = true) (x : Port) :
    let t := (((s.setPort p x).setPortState p opHandover).wr R.optLstatState (laneKey p l) 3).pumpPort p
    t.portState p = opHandover ∧ x.Sent (t.port p) ∧ t.rd R.optLstatState (laneKey p l) = 3 ∧ Keeps s t := by
  intro t
  have hwp : Registers.wf (s.setPort p x).regs = true := hw
  have hws := (State.setPortState_eff (s.setPort p x) p opHandover).regs hwp
  have hstate := (((Fld.Kept.wr (f := R.optLstatState) (i := laneKey p l) (.windows rfl rfl (by decide) ..) _ 3).trans
    (State.pumpPort_state _ p)).rd hws).trans (State.setPortState_state p hwp (st := opHandover) (by decide))
  have heff : Eff 8 (s.setPort p x) (((s.setPort p x).setPortState p opHandover).wr R.optLstatState (laneKey p l) 3) :=
    (State.wr_eff ..).step rfl (State.setPortState_eff ..)
  have hsent := State.pumpPort_sent (((s.setPort p x).setPortState p opHandover).wr R.optLstatState (laneKey p l) 3) p
  rw [State.port_of_eff heff (by decide), State.setPort_port] at hsent
  refine ⟨hstate, hsent, ?_, ?_⟩
  · exact ((Fld.Kept.pumpPort _ (.lane rfl rfl rfl rfl ..)).rd (State.wr_regs_wf hws ..)).trans (State.rd_wr_same hws _ _ _ (by decide))
  · exact ((State.setPort_sends ..).keeps.trans (heff.keeps (by decide))).trans ((State.pumpPort_eff ..).keeps (by decide))

theorem State.handoverLate_eq {u : Nat} (hst : s.portState p = opHandover) (hho : (s.port p).handover = some (l, u)) (hu : u + 2 * 10 ^ 7 ≤ s.now)
    (hfails : sget 0 (s.port p).hoFails l = 0) : s.handoverLate p l =
      (s.setPort p { s.port p with handover := some (l, s.now), hoFails := sset 0 (s.port p).hoFails l 1 }).raise 0x081 (portSite p) (portMaster p) l 5 0 := by
  have hgo : ¬ (s.portState p ≠ opHandover ∨ (!((s.port p).handover.any fun e => e.1 = l && decide (2 * 10 ^ 7 ≤ s.now - e.2))) = true) := by
    rw [hho, hst]
    simp
    omega
  unfold State.handoverLate
  rw [if_neg hgo, hfails]
  rfl

theorem State.setPort_badLanes {x : Port} (h : x.peerRetired = (s.port p).peerRetired) : (s.setPort p x).badLanes p = s.badLanes p := by
  rw [State.badLanes, State.badLanes, State.setPort_port, h]
  rfl

/-- The port's state and lanes once its hand-over has locked, `x` being the port. -/
def State.relocked (s : State) (p l : Nat) (x : Port) : State :=
  ((((((s.setPort p x).setPortState p opUp).incSat R.optPstatHandovers p 1).mirrorLanes p).wr R.optLstatState (laneKey p l) 2).wr
    R.optLstatBias (laneKey p l) 0).wr R.optLstatRingTx (laneKey p l) 0

theorem State.hoLocked_eq {u : Nat} (hst : s.portState p = opHandover) (hho : (s.port p).handover = some (l, u)) (hbad : s.badLanes p = 0) :
    ∃ x : Port, x.handover = none ∧ s.hoLocked p l = (s.relocked p l x).raise 0x081 (portSite p) (portMaster p) l 5 1 := by
  have hgo : ¬ (s.portState p ≠ opHandover ∨ (!((s.port p).handover.any fun e => e.1 = l)) = true) := by
    rw [hho, hst]
    simp
  unfold State.hoLocked
  extract_lets x y a b k
  have hup : (if y.badLanes p = 0 then opUp else opNarrow) = opUp := by
    have hy : y.badLanes p = s.badLanes p := State.setPort_badLanes rfl
    exact if_pos (hy.trans hbad)
  rw [if_neg hgo]
  unfold k a
  rw [hup]
  exact ⟨_, rfl, rfl⟩

section
variable {x : Port} (hw : Registers.wf s.regs = true)

theorem State.relocked_port : (s.relocked p l x).port p = x := by
  have heff : Eff 8 (s.setPort p x) (s.relocked p l x) :=
    (State.wr_eff ..).step rfl ((State.wr_eff ..).step rfl ((State.wr_eff ..).step rfl ((State.mirrorLanes_eff ..).step rfl
      ((State.incSat_eff ..).step rfl (State.setPortState_eff ..)))))
  rw [State.port_of_eff heff (by decide), State.setPort_port]

theorem State.relocked_eff : Eff 4294967304 s (s.relocked p l x) :=
  (State.wr_eff ..).step rfl ((State.wr_eff ..).step rfl ((State.wr_eff ..).step rfl ((State.mirrorLanes_eff ..).step rfl ((State.incSat_eff ..).step rfl
    ((State.setPortState_eff ..).step rfl ((State.setPort_eff ..).mono rfl))))))

include hw

theorem State.relocked_fields : (s.relocked p l x).portState p = opUp ∧ (s.relocked p l x).rd R.optLstatState (laneKey p l) = 2 ∧
    (s.relocked p l x).rd R.optLstatBias (laneKey p l) = 0 := by
  have hwp : Registers.wf (s.setPort p x).regs = true := hw
  have hkept : R.optPstatState.Kept p ((s.setPort p x).setPortState p opUp)
      ((((s.setPort p x).setPortState p opUp).incSat R.optPstatHandovers p 1).mirrorLanes p) :=
    (Fld.Kept.wr (.sibling (by decide) p) _ _).trans (State.mirrorLanes_state ..)
  have hwu := (State.setPortState_eff (s.setPort p x) p opUp).regs hwp
  have hup := (hkept.rd hwu).trans (State.setPortState_state p hwp (by decide))
  have hwv := hkept.wf hwu
  unfold State.relocked
  generalize (((s.setPort p x).setPortState p opUp).incSat R.optPstatHandovers p 1).mirrorLanes p = v at hup hwv
  refine ⟨?_, ?_, ?_⟩
  · have hlane : ∀ f : Fld, f.kind = .window → f.off = 0x500240 → R.optPstatState.LeftBy p f (laneKey p l) := fun f hf ho =>
      .windows rfl hf (by rw [ho]; decide) ..
    exact ((((Fld.Kept.wr (hlane R.optLstatState rfl rfl) _ _).trans (Fld.Kept.wr (hlane R.optLstatBias rfl rfl) _ _)).trans
      (Fld.Kept.wr (hlane R.optLstatRingTx rfl rfl) _ _)).rd hwv).trans hup
  all_goals
    simp (disch := first | decide | with_reducible apply_rules [State.wr_regs_wf, hwv]) only [State.rd_wr_same, State.rd_wr_sibling]
    rfl

end

theorem State.lockHeld_eq (hc : s.portCarries p = true) (hl : (s.port p).peerLane = some l) : s.lockHeld p l =
    (((s.setPort p { s.port p with hoLockSet := some l, hoReqSet := (s.port p).hoReqSet.filter fun y => y ≠ l }).wr R.optLstatRingRx (laneKey p l) 0).pumpPort
      p) := if_pos ⟨hc, hl⟩

theorem State.held_fields (hw : Registers.wf s.regs = true) (x : Port) :
    let t := ((s.setPort p x).wr R.optLstatRingRx (laneKey p l) 0).pumpPort p
    x.Sent (t.port p) ∧ t.rd R.optLstatRingRx (laneKey p l) = 0 ∧ Keeps s t := by
  intro t
  have hwp : Registers.wf (s.setPort p x).regs = true := hw
  have hsent := State.pumpPort_sent ((s.setPort p x).wr R.optLstatRingRx (laneKey p l) 0) p
  rw [State.port_of_eff (State.wr_eff ..) (by decide), State.setPort_port] at hsent
  refine ⟨hsent, ?_, ((State.setPort_sends ..).keeps.trans ((State.wr_eff ..).keeps (by decide))).trans ((State.pumpPort_eff ..).keeps (by decide))⟩
  exact ((Fld.Kept.pumpPort _ (.lane rfl rfl rfl rfl ..)).rd (State.wr_regs_wf hwp ..)).trans
    ((State.rd_wr_same hwp _ _ _ (by decide)).trans (Nat.zero_mod _))

end

/-! ### Tracking -/

section
variable {s : State} {p l : Nat}

/-- The settings of a lane after a tracking step. -/
def State.tracked (s : State) (p l : Nat) (bias tx rx : Int) (err : Nat) : State :=
  (((s.wr R.optLstatBias (laneKey p l) (codeOfInt 8 bias)).wr R.optLstatRingTx (laneKey p l) (codeOfInt 8 tx)).wr R.optLstatRingRx (laneKey p l)
    (codeOfInt 8 rx)).wr R.optLstatSymErr (laneKey p l) (Nat.min err (2 ^ 24 - 1))

theorem codeOfInt_lt (n : Nat) (x : Int) : codeOfInt n x < 2 ^ n := by
  have hpos : (0 : Int) < 2 ^ n := by positivity
  have hlt := Int.emod_lt_of_pos x hpos
  have hnonneg := Int.emod_nonneg x hpos.ne'
  zify
  rw [codeOfInt, Int.toNat_of_nonneg hnonneg]
  exact hlt

theorem State.tracked_fields (hw : Registers.wf s.regs = true) (bias tx rx : Int) (err : Nat) :
    (s.tracked p l bias tx rx err).rd R.optLstatBias (laneKey p l) = codeOfInt 8 bias ∧
    (s.tracked p l bias tx rx err).rd R.optLstatRingTx (laneKey p l) = codeOfInt 8 tx ∧
    (s.tracked p l bias tx rx err).rd R.optLstatRingRx (laneKey p l) = codeOfInt 8 rx ∧
    (s.tracked p l bias tx rx err).rd R.optLstatSymErr (laneKey p l) = Nat.min err (2 ^ 24 - 1) := by
  unfold State.tracked
  refine ⟨?_, ?_, ?_, ?_⟩
  all_goals simp (disch := first | decide | with_reducible apply_rules [State.wr_regs_wf, hw]) only [State.rd_wr_same, State.rd_wr_sibling]
  · exact Nat.mod_eq_of_lt (codeOfInt_lt ..)
  · exact Nat.mod_eq_of_lt (codeOfInt_lt ..)
  · exact Nat.mod_eq_of_lt (codeOfInt_lt ..)
  · exact Nat.mod_eq_of_lt ((Nat.min_le_right ..).trans_lt (by decide))

/-- A lane that moves further than its range asks its peer, which leaves its settings. -/
theorem State.trackOptic_eq (hl : l < 8) (hc : s.portCarries p = true) (hst : s.rd R.optLstatState (laneKey p l) = 2) (bias tx rx : Int) (err : Nat) :
    let b := trackMove (signedOf 8 (s.rd R.optLstatBias (laneKey p l))) (if sget 0 (s.port p).fbErr l = 0 then 0 else bias)
    let t := trackMove (signedOf 8 (s.rd R.optLstatRingTx (laneKey p l))) (if sget 0 (s.port p).fbErr l = 0 then 0 else tx)
    let r := trackMove (signedOf 8 (s.rd R.optLstatRingRx (laneKey p l))) (if err = 0 then 0 else rx)
    s.trackOptic p l bias tx rx err = s.tracked p l b.1 t.1 r.1 err ∨
      ∃ x : Port, s.trackOptic p l bias tx rx err = ((s.tracked p l b.1 t.1 r.1 err).setPort p x).pumpPort p := by
  intro b t r
  have hgo : ¬ (8 ≤ l ∨ (!s.portCarries p) = true ∨ s.rd R.optLstatState (laneKey p l) ≠ 2) := by
    rw [hc, hst]
    simp [hl]
  unfold State.trackOptic
  rw [if_neg hgo]
  extract_lets far mv b' t' r' u x
  have hu : u = s.tracked p l b.1 t.1 r.1 err := rfl
  rw [← hu]
  clear_value u
  split
  · exact Or.inr ⟨_, rfl⟩
  · exact Or.inl rfl

theorem State.trackOptic_fields (hw : Registers.wf s.regs = true) (hl : l < 8) (hc : s.portCarries p = true)
    (hst : s.rd R.optLstatState (laneKey p l) = 2) (bias tx rx : Int) (err : Nat) :
    let b := trackMove (signedOf 8 (s.rd R.optLstatBias (laneKey p l))) (if sget 0 (s.port p).fbErr l = 0 then 0 else bias)
    let t := trackMove (signedOf 8 (s.rd R.optLstatRingTx (laneKey p l))) (if sget 0 (s.port p).fbErr l = 0 then 0 else tx)
    let r := trackMove (signedOf 8 (s.rd R.optLstatRingRx (laneKey p l))) (if err = 0 then 0 else rx)
    let u := s.trackOptic p l bias tx rx err
    u.rd R.optLstatBias (laneKey p l) = codeOfInt 8 b.1 ∧ u.rd R.optLstatRingTx (laneKey p l) = codeOfInt 8 t.1 ∧
      u.rd R.optLstatRingRx (laneKey p l) = codeOfInt 8 r.1 ∧ u.rd R.optLstatSymErr (laneKey p l) = Nat.min err (2 ^ 24 - 1) ∧ Keeps s u := by
  intro b t r u
  obtain ⟨hbias, htx, hrx, herr⟩ := State.tracked_fields (p := p) (l := l) hw b.1 t.1 r.1 err
  have hwt : Registers.wf (s.tracked p l b.1 t.1 r.1 err).regs = true :=
    State.wr_regs_wf (State.wr_regs_wf (State.wr_regs_wf (State.wr_regs_wf hw ..) ..) ..) ..
  have hkeeps : Keeps s u := (State.trackOptic_eff ..).keeps (by decide)
  have hkept : ∀ g : Fld, g.kind = .window → g.off = 0x500240 → g.Kept (laneKey p l) (s.tracked p l b.1 t.1 r.1 err) u := fun g hg ho => by
    rcases State.trackOptic_eq hl hc hst bias tx rx err with he | ⟨x, he⟩
    · exact he ▸ Fld.Kept.refl
    · have hport : g.Kept (laneKey p l) (s.tracked p l b.1 t.1 r.1 err) ((s.tracked p l b.1 t.1 r.1 err).setPort p x) := Fld.Kept.of_regs (id rfl)
      have hpump := hport.trans (Fld.Kept.pumpPort _ (.lane hg ho rfl rfl p _))
      exact (show u = _ from he) ▸ hpump
  exact ⟨((hkept R.optLstatBias rfl rfl).rd hwt).trans hbias, ((hkept R.optLstatRingTx rfl rfl).rd hwt).trans htx,
    ((hkept R.optLstatRingRx rfl rfl).rd hwt).trans hrx, ((hkept R.optLstatSymErr rfl rfl).rd hwt).trans herr, hkeeps⟩

end

/-! ### Training -/

/-- The port in training with every lane locked: its peer's hello word is read. -/
def State.peerRead (s : State) (p : Nat) (h : BitVec 128) : State :=
  ((s.setPort p (s.port p)).wr R.optPstatPeerId p (helloId h)).wr R.optPstatPeerPort p (helloPort h)

/-- Its own hello word goes out. -/
def State.greeted (s : State) (p : Nat) (h : BitVec 128) : State :=
  (s.peerRead p h).setPort p { s.port p with hello := helloWord (s.rd R.optCfgModuleId 0) p (s.rd R.optSysSystem 0) 0 }

/-- What the hello words do not enter is left. -/
theorem State.peerRead_kept {g : Fld} {j : Nat} (s : State) (p : Nat) (h : BitVec 128) (hid : g.LeftBy j R.optPstatPeerId p)
    (hport : g.LeftBy j R.optPstatPeerPort p) : g.Kept j s (s.peerRead p h) := by
  have h0 : g.Kept j s (s.setPort p (s.port p)) := Fld.Kept.of_regs (id rfl)
  exact (h0.trans (Fld.Kept.wr hid _ (helloId h))).trans (Fld.Kept.wr hport _ (helloPort h))

theorem State.setPort_rd (s : State) (p : Nat) (x : Port) : (s.setPort p x).rd = s.rd := id rfl

theorem State.greeted_rd (s : State) (p : Nat) (h : BitVec 128) : (s.greeted p h).rd = (s.peerRead p h).rd := State.setPort_rd ..

theorem State.peerRead_port (s : State) (p : Nat) (h : BitVec 128) : (s.peerRead p h).port p = s.port p := State.setPort_port ..

theorem State.greeted_eff (s : State) (p : Nat) (h : BitVec 128) : Eff 4294967304 s (s.greeted p h) :=
  (State.setPort_eff ..).step rfl ((State.wr_eff ..).step rfl ((State.wr_eff ..).step rfl ((State.setPort_eff ..).mono rfl)))

section
variable {s : State} {p : Nat} (hw : Registers.wf s.regs = true) (hp : p < s.portCount) (hon : s.power.opticsOn = true) (hst : s.portState p = opTrain)
  (hlanes : s.rd R.optPstatRetiredLanes p = 0) (h : BitVec 128) (cs : List Nat)

include hw hp hon hst hlanes

/-- A module of another system isolates the port; one of this system and another ID brings it up. -/
theorem State.training_eq :
    (helloSystem h ≠ s.rd R.optSysSystem 0 →
      s.training p 255 h cs = ((s.greeted p h).setPortState p opIsolated).raise 0x086 (portSite p) (portMaster p) 0 4 0) ∧
    (helloSystem h = s.rd R.optSysSystem 0 → helloId h ≠ s.rd R.optCfgModuleId 0 → helloRetired h = 0 →
      ∃ x, x = { (s.greeted p h).port p with peerRetired := 0 } ∧ s.training p 255 h cs = ((s.greeted p h).setPort p x).portUp p cs) := by
  have hgo : ¬ ((!s.power.opticsOn) = true ∨ s.portCount ≤ p ∨ (!(s.portState p = opTrain || s.portState p = opRetrain)) = true) := by
    rw [hon, hst]
    simp [hp]
  have hfails : ((lanesIn (255 - s.rd R.optPstatRetiredLanes p)).filter fun l => !bitOf 255 l) = [] := by
    rw [hlanes]
    decide
  have hsys := (State.peerRead_kept s p h (g := R.optSysSystem) (.array rfl rfl (by decide) p) (.array rfl rfl (by decide) p)).rd hw
  have hid := (State.peerRead_kept s p h (g := R.optCfgModuleId) (.array rfl rfl (by decide) p) (.array rfl rfl (by decide) p)).rd hw
  have hstate : (s.peerRead p h).portState p = opTrain :=
    ((State.peerRead_kept s p h (.sibling (by decide) p) (.sibling (by decide) p)).rd hw).trans hst
  have hretired : (s.peerRead p h).rd R.optPstatRetiredLanes p = 0 :=
    ((State.peerRead_kept s p h (.sibling (by decide) p) (.sibling (by decide) p)).rd hw).trans hlanes
  unfold State.training
  rw [if_neg (by simpa using hgo)]
  extract_lets x fails a b c d e f g k u v
  have hfails' : fails = [] := hfails
  have hb : b = [] := by rw [show b = fails.filter _ from rfl, hfails']; rfl
  have hd : d = s.peerRead p h := by
    have ha : a = s.port p := by
      unfold a
      rw [hfails']
      rfl
    unfold d c
    rw [ha]
    rfl
  have hf : f = s.greeted p h := by
    unfold f e
    rw [hb, hd, State.peerRead_port, hsys, hid, hretired]
    rfl
  rw [if_neg (by simp [hfails']), if_neg (by simp [hb]), hf, State.greeted_rd, hsys, hid]
  refine ⟨fun hne => if_pos hne, fun heq hne hret => ⟨_, rfl, ?_⟩⟩
  have hv : v = (s.greeted p h).setPort p { (s.greeted p h).port p with peerRetired := 0 } := by
    unfold v u k
    rw [hb, hf, hret]
    rfl
  have hbad : v.badLanes p = 0 := by
    rw [hv, State.badLanes, State.setPort_port, State.setPort_rd, State.greeted_rd, hretired]
    exact Nat.or_zero 0
  have hup : v.portState p ≠ opRetired := by
    rw [hv, State.portState, State.setPort_rd, State.greeted_rd]
    exact fun he => absurd (hstate.symm.trans he) (by decide)
  rw [if_neg (not_not.2 heq), if_neg hne, if_neg hup, if_neg (by rw [hbad]; decide), hv]

end

/-- A lane that carries messages is live, at the settings of its training. -/
def State.liveLane (s : State) (p l : Nat) : State :=
  (((s.wr R.optLstatState (laneKey p l) 2).wr R.optLstatBias (laneKey p l) 0).wr R.optLstatRingTx (laneKey p l) 0).wr R.optLstatRingRx (laneKey p l) 0

/-- The port, as `y`, and its lanes once it is UP, before it sends. -/
def State.lit (s : State) (p : Nat) (y : Port) : State :=
  (List.range 8).foldl (fun s l => if bitOf (s.badLanes p) l then s else s.liveLane p l)
    ((((s.setPort p y).setPortState p opUp).mirrorLanes p).wr R.optPstatLanesRx p (255 - (((s.setPort p y).setPortState p opUp).mirrorLanes p).badLanes p))

/-- A port restarted with nothing to send, with the credits of its peer. -/
structure Port.Fresh (x y : Port) (cs : List Nat) : Prop where
  queue : y.queue = []
  txRest : y.txRest = []
  rxNext : y.rxNext = 0
  txNext : y.txNext = 0
  credits : y.credits = (List.range 4).map fun v => cs.getD v 0
  hello : y.hello = x.hello
  peerRetired : y.peerRetired = x.peerRetired

theorem State.portUp_eq {s : State} {p : Nat} (hst : s.portState p = opTrain) (hbad : s.badLanes p = 0) (hq : (s.port p).queue = [])
    (hu : (s.port p).unacked = []) (cs : List Nat) : ∃ y, (s.port p).Fresh y cs ∧ s.portUp p cs = (s.lit p y).pumpPort p := by
  unfold State.portUp
  extract_lets fresh x x' y a b c d
  have hfresh : fresh = true := decide_eq_true hst
  have hx : x' = x.restart := if_pos hfresh
  have hy : x.Fresh y cs := by
    unfold y
    rw [hx]
    refine ⟨?_, rfl, rfl, rfl, rfl, rfl, rfl⟩
    change (x.unacked.map fun m => (0, m)) ++ x.queue = []
    rw [hq, hu]
    rfl
  have hup : (if a.badLanes p = 0 then opUp else opNarrow) = opUp :=
    if_pos ((State.setPort_badLanes hy.peerRetired).trans hbad)
  refine ⟨y, hy, ?_⟩
  unfold d c b
  rw [hup]
  rfl

section
variable (s : State) (p : Nat) (y : Port)

theorem State.lit_kept {g : Fld} {j : Nat} (hrx : g.LeftBy j R.optPstatLanesRx p)
    (hlane : ∀ f : Fld, f.kind = .window → f.off = 0x500240 → ∀ k, g.LeftBy j f k) (htx : g.LeftBy j R.optPstatLanesTx p) :
    g.Kept j ((s.setPort p y).setPortState p opUp) (s.lit p y) := by
  refine ((Fld.Kept.mirrorLanes _ htx).trans (Fld.Kept.wr hrx ..)).trans (Fld.Kept.foldl (fun s l => ?_) ..)
  split
  · exact Fld.Kept.refl
  · exact (((Fld.Kept.wr (hlane R.optLstatState rfl rfl _) _ _).trans (Fld.Kept.wr (hlane R.optLstatBias rfl rfl _) _ _)).trans
      (Fld.Kept.wr (hlane R.optLstatRingTx rfl rfl _) _ _)).trans (Fld.Kept.wr (hlane R.optLstatRingRx rfl rfl _) _ _)

theorem State.lit_eff : Eff 8 (s.setPort p y) (s.lit p y) := by
  refine Eff.foldl (fun s l => ?_) ((State.wr_eff ..).step rfl ((State.mirrorLanes_eff ..).step rfl (State.setPortState_eff ..)))
  split
  · exact Eff.refl ..
  · exact (State.wr_eff ..).step rfl ((State.wr_eff ..).step rfl ((State.wr_eff ..).step rfl (State.wr_eff ..)))

end

/-- A port that comes up restarts its numbers, with its peer's credits. -/
theorem State.portUp_fields {s : State} {p : Nat} (hw : Registers.wf s.regs = true) (hst : s.portState p = opTrain) (hbad : s.badLanes p = 0)
    (hq : (s.port p).queue = []) (hu : (s.port p).unacked = []) (cs : List Nat) :
    (s.portUp p cs).portState p = opUp ∧ ((s.portUp p cs).port p).rxNext = 0 ∧ ((s.portUp p cs).port p).txNext = 0 ∧
      ((s.portUp p cs).port p).credits = (List.range 4).map (fun v => cs.getD v 0) ∧ ((s.portUp p cs).port p).hello = (s.port p).hello ∧
      (s.portUp p cs).rd R.optPstatPeerId p = s.rd R.optPstatPeerId p := by
  obtain ⟨y, hy, he⟩ := State.portUp_eq hst hbad hq hu cs
  rw [he]
  have hwp : Registers.wf (s.setPort p y).regs = true := hw
  have hws := (State.setPortState_eff (s.setPort p y) p opUp).regs hwp
  have hlane : ∀ g : Fld, g.kind = .window → g.off = 0x500140 → ∀ f : Fld, f.kind = .window → f.off = 0x500240 → ∀ k, g.LeftBy p f k :=
    fun g hg hgo f hf ho k => .windows hg hf (by rw [ho, hgo]; decide) ..
  have hstate := (((State.lit_kept s p y (.sibling (by decide) p) (hlane R.optPstatState rfl rfl) (.sibling (by decide) p)).trans
    (State.pumpPort_state ..)).rd hws).trans (State.setPortState_state p hwp (by decide))
  have hpeer : R.optPstatPeerId.Kept p (s.setPort p y) ((s.lit p y).pumpPort p) :=
    ((Fld.Kept.setPortState _ (Fld.LeftBy.optStat rfl (by decide) p) (.sibling (by decide) p) opUp).trans
      (State.lit_kept s p y (.sibling (by decide) p) (hlane R.optPstatPeerId rfl rfl) (.sibling (by decide) p))).trans
      (Fld.Kept.pumpPort _ (.sibling (by decide) p))
  have hport : (s.lit p y).port p = y := (State.port_of_eff (State.lit_eff s p y) (by decide) p).trans (State.setPort_port ..)
  have htold := State.pumpPort_told (s := s.lit p y) (p := p) (by rw [hport, hy.queue]) (by rw [hport, hy.txRest])
  rw [hport] at htold
  have hpeerId := (hpeer.rd hwp).trans (by rw [State.setPort_rd])
  refine ⟨hstate, ?_, ?_, ?_, ?_, hpeerId⟩
  all_goals rw [htold]
  exacts [hy.rxNext, hy.txNext, hy.credits, hy.hello]

theorem State.greeted_port (s : State) (p : Nat) (h : BitVec 128) : (s.greeted p h).port p =
    { s.port p with hello := helloWord (s.rd R.optCfgModuleId 0) p (s.rd R.optSysSystem 0) 0 } := State.setPort_port ..

/-- The peer's ID is read from its hello word. -/
theorem State.greeted_peer {s : State} (hw : Registers.wf s.regs = true) (p : Nat) (h : BitVec 128) :
    (s.greeted p h).rd R.optPstatPeerId p = helloId h := by
  have hwp : Registers.wf (s.setPort p (s.port p)).regs = true := hw
  rw [State.greeted_rd, State.peerRead, State.rd_wr_sibling (State.wr_regs_wf hwp ..) _ _ (by decide), State.rd_wr_same hwp _ _ _ (by decide)]
  exact bitsOf_mod h.toNat 127 116

end Sys2Proof.Machine

open Sys2Proof.Machine

/-- Settles O36: what each operation of a port writes of its registers, of its own state and of the fault messages. -/
theorem fabricPortsComplete : Obligations.FabricPortsComplete := by
  unfold Obligations.FabricPortsComplete
  refine ⟨fun s p h cs hw hp hpc hon hst hlanes hret hsys hid hq hu => ?up, fun s p h cs hw hp hpc hon hst hlanes hsys => ?isolated,
    fun s p hw hp hpc hon hst hdark hat => Answers.of (exec_portTrainRetry p s) (State.trainRetry_eq hpc hon hst hdark hat) ?retry,
    fun s p hw hp hc hdark hq hu => Answers.of (exec_portLossOfLock p s) (if_pos ⟨hc, by rw [hdark]; rfl⟩) (State.retirePort_idle hw ?_ hq hu),
    fun s p hw hp hon hst hdark => Answers.of (exec_lightReturn p s) (State.lightReturn_eq hon hst hdark) ?light,
    fun s p l hw hp hl hbad hask hst => Answers.of (exec_handoverStart p l s) (State.handoverStart_eq hl hbad hask hst) ?start,
    fun s p l u hw hp hl hst hho hbad => ?locked,
    fun s p l u hst hho hu hfails => Answers.of (exec_handoverTimeout p l s) (State.handoverLate_eq hst hho hu hfails) ?late,
    fun s p l hw hc hl => Answers.of (exec_laneLockHeld p l s) (State.lockHeld_eq hc hl) ?held,
    fun s p l err bias tx rx hw hp hl hc hst => ?track⟩
  case up =>
    obtain ⟨x, hx, he⟩ := (State.training_eq hw hpc hon hst hlanes h cs).2 hsys hid hret
    have hport : ((s.greeted p h).setPort p x).port p = x := State.setPort_port ..
    have hxq : x.queue = [] := by rw [hx, State.greeted_port]; exact hq
    have hxu : x.unacked = [] := by rw [hx, State.greeted_port]; exact hu
    have hxh : x.hello = helloWord (s.rd R.optCfgModuleId 0) p (s.rd R.optSysSystem 0) 0 := by rw [hx, State.greeted_port]
    have hxr : x.peerRetired = 0 := by rw [hx]
    have hwg : Registers.wf ((s.greeted p h).setPort p x).regs = true := (s.greeted_eff p h).regs hw
    have hstate : ((s.greeted p h).setPort p x).portState p = opTrain := by
      rw [State.portState, State.setPort_rd, State.greeted_rd]
      exact ((State.peerRead_kept s p h (.sibling (by decide) p) (.sibling (by decide) p)).rd hw).trans hst
    have hbad : ((s.greeted p h).setPort p x).badLanes p = 0 := by
      rw [State.badLanes, hport, hxr, State.setPort_rd, State.greeted_rd, Nat.or_zero]
      exact ((State.peerRead_kept s p h (.sibling (by decide) p) (.sibling (by decide) p)).rd hw).trans hlanes
    obtain ⟨hup, hrx, htx, hcredits, hhello, hpeer⟩ := State.portUp_fields hwg hstate hbad (hport.symm ▸ hxq) (hport.symm ▸ hxu) cs
    have heff : Eff 4294967304 s (((s.greeted p h).setPort p x).portUp p cs) :=
      (State.portUp_eff ..).step rfl ((State.setPort_eff ..).step rfl (s.greeted_eff p h))
    refine Answers.of (exec_portTraining p 255 h cs s) he ⟨hup, hrx, htx, hcredits, ?_, ?_, heff.keeps (by decide)⟩
    · rw [hpeer, State.setPort_rd, State.greeted_peer hw]
    · rw [hhello, hport, hxh]
  case isolated =>
    have hwg := (s.greeted_eff p h).regs hw
    have heff : Eff 4294967304 s ((s.greeted p h).setPortState p opIsolated) := (State.setPortState_eff ..).step rfl (s.greeted_eff p h)
    refine Answers.of (exec_portTraining p 255 h cs s) ((State.training_eq hw hpc hon hst hlanes h cs).1 hsys) ⟨?_, State.raise_after heff (by decide) _ _ _ _ _ _,
      (heff.keeps (by decide)).trans ((State.raise_eff ..).keeps (by decide))⟩
    exact ((Fld.Kept.raise _ 0x086 (portSite p) (portMaster p) 0 4 0).rd (heff.regs hw)).trans (State.setPortState_state p hwg (by decide))
  case retry =>
    have heff : Eff 8 s ((s.setPortState p opTrain).lanesState p 1) := (State.lanesState_eff ..).step rfl (State.setPortState_eff ..)
    exact ⟨State.train_state hw 1, heff.same .fab rfl, heff.keeps (by decide)⟩
  case light =>
    have heff : Eff 8 (s.setPort p { s.port p with dark := false }) (((s.setPort p { s.port p with dark := false }).setPortState p opTrain).lanesState p 1) :=
      (State.lanesState_eff ..).step rfl (State.setPortState_eff ..)
    have hport := (State.port_of_eff heff (by decide) p).trans (State.setPort_port ..)
    have hdark := congrArg Port.dark hport
    exact ⟨State.train_state (s := s.setPort p _) hw 1, hdark, (State.setPort_sends ..).keeps.trans (heff.keeps (by decide))⟩
  case start =>
    obtain ⟨hstate, hsent, hlane, hkeeps⟩ := State.handing_fields (l := l) hw
      { s.port p with handover := some (l, s.now), hoBack := none, hoAsk := (s.port p).hoAsk.filter fun y => y ≠ l }
    exact ⟨hstate, congrArg Port.handover hsent, hlane, hkeeps⟩
  case locked =>
    obtain ⟨x, hx, he⟩ := State.hoLocked_eq hst hho hbad
    obtain ⟨hstate, hlane, hbias⟩ := State.relocked_fields (x := x) (p := p) (l := l) hw
    have heff := State.relocked_eff (s := s) (p := p) (l := l) (x := x)
    have hwr := heff.regs hw
    have hraised := State.raise_after heff (by decide) 0x081 (portSite p) (portMaster p) l 5 1
    have hport : (s.relocked p l x).port p = x := State.relocked_port
    generalize s.relocked p l x = u at he hstate hlane hbias heff hwr hraised hport
    refine Answers.of (exec_hoLock p l s) he ⟨?_, ?_, ?_, ?_, hraised, (heff.keeps (by decide)).trans ((State.raise_eff ..).keeps (by decide))⟩
    · exact ((Fld.Kept.raise u ..).rd hwr).trans hstate
    · rw [State.port_of_eff (State.raise_eff ..) (by decide), hport, hx]
    · exact ((Fld.Kept.raise u ..).rd hwr).trans hlane
    · exact ((Fld.Kept.raise u ..).rd hwr).trans hbias
  case late =>
    have hport := (State.port_of_eff (State.raise_eff (s.setPort p { s.port p with
      handover := some (l, s.now), hoFails := sset 0 (s.port p).hoFails l 1 }) 0x081 (portSite p) (portMaster p) l 5 0) (by decide) p).trans (State.setPort_port ..)
    exact ⟨congrArg Port.handover hport, State.raise_after (State.setPort_eff ..) (by decide) _ _ _ _ _ _, (State.raise_eff ..).same .regs rfl,
      (State.setPort_sends ..).keeps.trans ((State.raise_eff ..).keeps (by decide))⟩
  case held =>
    obtain ⟨hsent, hring, hkeeps⟩ := State.held_fields (p := p) (l := l) hw
      { s.port p with hoLockSet := some l, hoReqSet := (s.port p).hoReqSet.filter fun y => y ≠ l }
    refine ⟨congrArg Port.hoLockSet hsent, ?_, hring, hkeeps⟩
    have hreq := congrArg Port.hoReqSet hsent
    exact hreq ▸ fun hm => by simp at hm
  case track =>
    obtain ⟨hbias, htx, hrx, herr, hkeeps⟩ := State.trackOptic_fields hw hl hc hst bias tx rx err
    exact Answers.of_exec (exec_laneTrackingStep p l bias tx rx err s) ⟨hbias, htx, hrx, herr, hkeeps⟩
  · intro hretired
    rw [State.portCarries, hretired] at hc
    exact absurd hc (by decide)

end

section
/-! The census, the agreement of frequencies and device time (R278, R288 to R290). -/

namespace Sys2Proof.Machine

theorem exec_census (src serial : Nat) (s : State) : exec (.census src serial) s = .next (s.census src serial) := rfl
theorem exec_censusAnswer (serial : Nat) (s : State) : exec (.censusAnswer serial) s =
    .next ((s.takeIf fun m => m.kind = 4 && m.payload = [censusWord 0x4341 serial]).censusAnswered serial) := rfl
theorem exec_censusSend (s : State) : exec .censusSend s = .next s.censusSend := rfl
theorem exec_censusAnswerTimeout (s : State) : exec .censusAnswerTimeout s = .next s.censusLate := rfl
theorem exec_censusForget (m : Nat) (s : State) : exec (.censusForget m) s = .next (s.censusForget m) := rfl
theorem exec_freqPeriod (s : State) : exec .freqPeriod s = .next s.freqPeriod := rfl
theorem exec_freq (m : FabMsg) (s : State) : exec (.freq m) s = .next (s.freq m) := rfl
theorem exec_freqLeadDecide (s : State) : exec .freqLeadDecide s = .next s.freqDecide := rfl
theorem exec_freqEffect (s : State) : exec .freqEffect s = .next s.freqEffect := rfl
theorem exec_timeExchange (s : State) : exec .timeExchange s = .next s.timeExchange := rfl
theorem exec_time (p t1 t2 t3 t4 : Nat) (s : State) : exec (.time p t1 t2 t3 t4) s = .next (s.timeAnswered p t1 t2 t3 t4) := rfl
theorem exec_ptmUpdate (h : Nat) (s : State) :
    exec (.ptmUpdate h) s = .next (if s.isMaster then s.follow ((h : Int) - (s.now : Int)) 1 else s) := rfl

/-! ### What sending and taking messages leave of the fabric -/

/-- The fabric but for its ports, the messages that wait, the sequence numbers and the request of a TIME exchange. -/
def FabMoved (f g : FabState) : Prop :=
  g = { f with inbox := g.inbox, seqOut := g.seqOut, ports := g.ports, askOut := g.askOut, asked := g.asked }

theorem FabMoved.refl (f : FabState) : FabMoved f f := rfl

theorem FabMoved.trans {f g h : FabState} (hfg : FabMoved f g) (hgh : FabMoved g h) : FabMoved f h := by
  unfold FabMoved at *
  rw [hfg] at hgh
  exact hgh

theorem FabMoved.of_eff {k : Nat} {s t : State} (h : Eff k s t) (hk : k.testBit 32 = false) : FabMoved s.fab t.fab := by
  rw [show t.fab = s.fab from h.same .fab hk]
  exact FabMoved.refl _

theorem State.setPort_moved (s : State) (p : Nat) (x : Port) : FabMoved s.fab (s.setPort p x).fab := rfl

theorem State.pumpPort_moved (s : State) (p : Nat) : FabMoved s.fab (s.pumpPort p).fab := by
  by_cases hc : s.portCarries p = true ∧ s.fab.isolated = false
  · obtain ⟨a, b, n, lanes, errs, he⟩ := State.pumpPort_eq hc.1 hc.2
    rw [he]
    generalize Port.tell 8 lanes errs _ = y
    have hport : FabMoved s.fab ((s.updFab fun f => { f with askOut := a, asked := b }).setPort p y).fab := rfl
    exact hport.trans (FabMoved.of_eff (State.mirrorLanes_eff ..) (by decide))
  · rw [State.pumpPort, if_neg (by simpa using hc)]
    exact FabMoved.refl _

theorem State.forward_moved (s : State) (input : Nat) (m : FabMsg) : FabMoved s.fab (s.forward input m).fab := by
  unfold State.forward
  split
  · exact FabMoved.refl _
  · exact (State.setPort_moved ..).trans (State.pumpPort_moved ..)

theorem State.sendHub_moved (s : State) (dst kind req : Nat) (ws : List (BitVec 128)) : FabMoved s.fab (s.sendHub dst kind req ws).fab := by
  unfold State.sendHub
  split
  · exact FabMoved.refl _
  · extract_lets m k
    have hseq : FabMoved s.fab (s.updFab fun f => { f with seqOut := sset 0 f.seqOut k ((sget 0 f.seqOut k + 1) % 2 ^ 16) }).fab := rfl
    exact hseq.trans (State.forward_moved ..)

theorem State.takeIf_moved (s : State) (f : FabMsg → Bool) : FabMoved s.fab (s.takeIf f).fab := by
  unfold State.takeIf
  split
  · exact FabMoved.refl _
  · rename_i e _
    extract_lets t
    have ht : FabMoved s.fab t.fab := by
      unfold t State.freed
      split
      · exact FabMoved.refl _
      · exact FabMoved.refl _
    split
    · exact ht
    · exact ht.trans (State.pumpPort_moved ..)

theorem State.takeIf_of_empty {s : State} (h : s.fab.inbox = []) (f : FabMsg → Bool) : s.takeIf f = s := by simp [State.takeIf, h]

/-- Of all registers, in whatever order they are listed, sending writes the port's alone. -/
theorem State.pumpPort_reg {s : State} {p k : Nat} (hk : k ≠ regKey R.optPstatLanesTx.kind R.optPstatLanesTx.off p) :
    (s.pumpPort p).reg k = s.reg k := by
  by_cases hc : s.portCarries p = true ∧ s.fab.isolated = false
  · obtain ⟨a, b, n, lanes, errs, he⟩ := State.pumpPort_eq hc.1 hc.2
    rw [he]
    generalize Port.tell 8 lanes errs _ = y
    have hcarries : ((s.updFab fun f => { f with askOut := a, asked := b }).setPort p y).portCarries p = true := hc.1
    have hst : bitsOf (s.reg (regKey R.optPstatLanesTx.kind R.optPstatLanesTx.off p)).toNat 31 28 ≠ 0 := State.portState_ne_zero hc.1
    have hnz : ∀ r : Reg64, bitsOf r.toNat 31 28 ≠ 0 → r ≠ 0 := by
      rintro r hr rfl
      exact hr (by decide)
    refine sget_sset_ne_of_ne (hnz _ hst) (hnz _ ?_) hk
    rwa [bitsOf_putBits_below _ _ (by decide) (by decide) (by decide) (by decide)]
  · rw [State.pumpPort, if_neg (by simpa using hc)]

theorem State.takeIf_reg {s : State} (f : FabMsg → Bool) {k : Nat} (hk : ∀ p, k ≠ regKey R.optPstatLanesTx.kind R.optPstatLanesTx.off p) :
    (s.takeIf f).reg k = s.reg k := by
  unfold State.takeIf
  split
  · rfl
  · rename_i e _
    extract_lets t
    have ht : t.reg k = s.reg k := by
      unfold t State.freed
      split <;> rfl
    split
    · exact ht
    · exact (State.pumpPort_reg (hk _)).trans ht

/-! ### The census -/

/-- The serial number is in no register of a port. -/
theorem State.takeIf_serial (s : State) (f : FabMsg → Bool) : (s.takeIf f).rd R.hstIdSerialSerial 0 = s.rd R.hstIdSerialSerial 0 := by
  rw [State.rd, State.rd, State.takeIf_reg f fun p => (regKey_window_ne (by decide) p).symm]

/-- A module that is isolated shows its duplicate ID. -/
theorem State.isolate_fields {s : State} (hw : Registers.wf s.regs = true) :
    s.isolate.fab.isolated = true ∧ s.isolate.rd R.optStatDupId 0 = 1 ∧ s.isolate.fab.censusWait = false ∧ Keeps s s.isolate := by
  refine ⟨?_, ?_, ?_, (State.isolate_eff s).keeps (by decide)⟩
  all_goals
    unfold State.isolate
    extract_lets q t
  · have hfab := congrArg FabState.isolated ((State.raise_eff ((t.updFab fun f => { f with isolated := true, censusWait := false }).wr R.optStatDupId 0 1) 0x085
      (portSite q) (portMaster q) 0 4 0).same .fab rfl)
    exact hfab
  · have ht : Eff 8 s t := Eff.foldl (fun s p => by
      split
      · exact Eff.refl ..
      · exact State.setPortState_eff ..) (Eff.refl ..)
    have hwt : Registers.wf (t.updFab fun f => { f with isolated := true, censusWait := false }).regs = true := ht.regs hw
    exact ((Fld.Kept.raise _ 0x085 (portSite q) (portMaster q) 0 4 0).rd (State.wr_regs_wf hwt ..)).trans (State.rd_wr_same hwt _ _ _ (by decide))
  · have hfab := congrArg FabState.censusWait ((State.raise_eff ((t.updFab fun f => { f with isolated := true, censusWait := false }).wr R.optStatDupId 0 1)
      0x085 (portSite q) (portMaster q) 0 4 0).same .fab rfl)
    exact hfab

section
variable {s : State}

/-- The master enters a module it does not know and answers with its serial number. -/
theorem State.census_new {src serial : Nat} (hm : s.isMaster = true) (hs : serial ≠ 0) (hin : s.fab.inbox = []) (hnew : aget s.fab.census src = none)
    (hsrc : src ≠ s.rd R.optCfgModuleId 0) : s.census src serial =
      (s.updFab fun f => { f with census := aput f.census src ⟨serial, s.now, none⟩ }).sendHub src 4 0 [censusWord 0x4341 serial] := by
  unfold State.census
  rw [State.takeIf_of_empty hin, if_neg (by simp [hm, hs]), hnew]
  exact if_neg hsrc

theorem State.censusSend_eq (hi : s.fab.isolated = false) (hat : s.fab.censusAt = none) (hon : s.power.opticsOn = true) (hm : s.isMaster = false) :
    s.censusSend = if (s.updFab fun f => { f with censusAt := some s.now }).unreachable (s.rd R.timCfgMaster 0) then
        (s.updFab fun f => { f with censusAt := some s.now }).raise 0x08A (portSite 0) (portMaster 0) 0 5 0
      else ((s.updFab fun f => { f with censusAt := some s.now }).sendHub (s.rd R.timCfgMaster 0) 4 0 [censusWord 0x4343 (s.rd R.hstIdSerialSerial 0)]).updFab
        fun f => { f with censusWait := true } := by
  have hmaster : (s.updFab fun f => { f with censusAt := some s.now }).isMaster = false := hm
  unfold State.censusSend
  rw [if_neg (by simp [hi, hat, hon])]
  dsimp only
  rw [hmaster]
  rfl

theorem State.unreachable_congr {t : State} (h : t.regs = s.regs) (hi : t.fab.isolated = s.fab.isolated) : t.unreachable = s.unreachable := by
  funext m
  rw [State.unreachable, State.unreachable, State.route_congr h hi]

theorem State.censusForget_eq {m : Nat} {e : CensusEntry} (h : aget s.fab.census m = some e) (hat : e.at_ + 3 * 10 ^ 10 ≤ s.now) :
    s.censusForget m = s.updFab fun f => { f with census := adel f.census m } := by
  unfold State.censusForget
  rw [h]
  exact if_pos (by omega)

/-! ### Frequencies -/

/-- A period opens with the module's own grant. -/
def State.opensPeriod (s : State) : State :=
  (s.updFab fun f => { f with period := s.now / s.freqNs, ownGrant := s.grant, grants := [(s.rd R.optCfgModuleId 0, s.grant)], decided := false }).wr
    R.pwrStatGrant 0 s.grant

theorem State.freqPeriod_cases (hj : s.rd R.optCfgJob 0 ≠ 0) (hf : s.freqNs ≠ 0) (hp : s.now / s.freqNs ≠ s.fab.period) :
    s.freqPeriod = s.opensPeriod ∨ ∃ dst ws, s.freqPeriod = s.opensPeriod.sendHub dst 9 0 ws := by
  unfold State.freqPeriod
  rw [if_neg (by simp [hj, hf, hp])]
  extract_lets n g me t
  have ht : t = s.opensPeriod := rfl
  clear_value t
  rw [ht]
  split
  · exact Or.inl rfl
  · exact Or.inr ⟨_, _, rfl⟩

/-- The lead notes the sender for a member, and its grant of the present period. -/
theorem State.freq_lead {m : FabMsg} (hin : s.fab.inbox = []) (hj : s.rd R.optCfgJob 0 ≠ 0) (hl : s.isLead = true) (hd : s.fab.decided = false)
    (hn : bitsOf (fabWord m 0) 63 32 = s.fab.period % 2 ^ 32) : s.freq m =
      (s.updFab fun f => { f with members := if m.src ∈ f.members then f.members else f.members ++ [m.src] }).updFab fun f =>
        { f with grants := (f.grants.filter fun e => e.1 ≠ m.src) ++ [(m.src, fabWord m 0 % 16)] } := by
  unfold State.freq
  rw [State.takeFab_of_empty hin]
  dsimp only
  rw [if_neg hj, if_pos hl]
  exact if_neg (by simpa [State.updFab, hd] using hn)

/-- A member takes the lead's result, late or in time. -/
theorem State.freq_member {m : FabMsg} (hin : s.fab.inbox = []) (hj : s.rd R.optCfgJob 0 ≠ 0) (hl : s.isLead = false)
    (hsrc : m.src = s.rd R.optCfgJobLead 0) : ∃ u, Eff 256 s u ∧ s.freq m = u.updFab fun f =>
      { f with result := some (fabWord m 0 % 16, s.fullPeriod (bitsOf (fabWord m 0) 63 32) * s.freqNs + s.freqNs / 2) } := by
  unfold State.freq
  rw [State.takeFab_of_empty hin]
  dsimp only
  rw [if_neg hj, if_neg (by simp [hl]), if_neg (not_not.2 hsrc)]
  refine ⟨_, ?_, rfl⟩
  split
  · exact State.raise_eff ..
  · exact Eff.refl ..

/-- A lead without members takes its own grant. -/
theorem State.freqDecide_alone {g : Nat} (hj : s.rd R.optCfgJob 0 ≠ 0) (hl : s.isLead = true) (hd : s.fab.decided = false)
    (hhalf : s.fab.period * s.freqNs + s.freqNs / 2 ≤ s.now) (hm : s.fab.members = []) (hgrants : s.fab.grants = [(s.rd R.optCfgModuleId 0, g)])
    (hg : g ≤ 15) : s.freqDecide =
      s.updFab fun f => { f with decided := true, result := some (g, s.fab.period * s.freqNs + s.freqNs / 2) } := by
  have hmin : Nat.min 15 g = g := Nat.min_eq_right hg
  unfold State.freqDecide
  dsimp only
  rw [if_neg (by simp [hj, hl, hd]; omega), hm, hgrants]
  simp [hmin]

/-- Without an enabled partition there is nothing to plan. -/
theorem State.planSteps_of_none (h : s.enabledParts = []) (cool : Bool) : s.planSteps cool = [] := by
  unfold State.planSteps
  rw [h]
  simp [State.planLoop]

/-- The agreed step is in force. -/
theorem State.freqEffect_fields {n u : Nat} (hw : Registers.wf s.regs = true) (hr : s.fab.result = some (n, u)) (hu : u ≤ s.now) (hn : n < 16)
    (hp : s.enabledParts = []) : s.freqEffect.rd R.pwrStatJobStep 0 = n ∧ s.freqEffect.fab.result = none ∧ s.freqEffect.fab.agreed = true := by
  have hwf : Registers.wf (s.updFab fun f => { f with result := none, agreed := true }).regs = true := hw
  have hparts : ((s.updFab fun f => { f with result := none, agreed := true }).wr R.pwrStatJobStep 0 n).enabledParts = [] := by
    have hen : ∀ q, ((s.updFab fun f => { f with result := none, agreed := true }).wr R.pwrStatJobStep 0 n).partEn q = s.partEn q := fun q => by
      by_cases hq : q < 64
      · have hkey : ∀ off, regKey .array off q = off + 8 * q := fun _ => rfl
        rw [State.partEn, State.partEn, State.isSet, State.isSet, State.rd_wr_notAt hwf]
        · rfl
        · rw [Fld.notAt, bne_iff_ne]
          change 0x200400 + 8 * q ≠ 0x700008 + 8 * 0
          omega
      · simp [State.partEn, hq]
    rw [State.enabledParts, funext hen]
    exact hp
  have hplan : s.freqEffect = ((s.updFab fun f => { f with result := none, agreed := true }).wr R.pwrStatJobStep 0 n).applyPlan [] := by
    unfold State.freqEffect
    rw [hr]
    dsimp only
    rw [if_neg (by omega), State.planSteps_of_none hparts]
  have hstep := (State.rd_wr_same hwf R.pwrStatJobStep 0 n (by decide)).trans (Nat.mod_eq_of_lt hn)
  rw [hplan]
  generalize hv : (s.updFab fun f => { f with result := none, agreed := true }).wr R.pwrStatJobStep 0 n = v at hstep
  have hfab : v.fab.result = none ∧ v.fab.agreed = true := hv ▸ ⟨rfl, rfl⟩
  exact ⟨hstep, hfab⟩

/-! ### Device time -/

theorem State.timeExchange_lost (hm : s.isMaster = false) (hr : s.route (s.rd R.timCfgMaster 0) = none) (hst : s.rd R.timStatState 0 ≠ 3) :
    s.timeExchange = (s.wr R.timStatState 0 3).raise 0x08A (portSite 0) (portMaster 0) 0 5 0 := by
  unfold State.timeExchange
  rw [if_neg (by simp [hm]), hr]
  exact if_neg hst

/-- The request is asked for, and waits for its frame or has gone out now. -/
theorem State.pumpPort_asks {p : Nat} (ho : s.fab.askOut = true) (ha : s.fab.asked = none) :
    (s.pumpPort p).fab.asked = some s.now ∨ ((s.pumpPort p).fab.askOut = true ∧ (s.pumpPort p).fab.asked = none) := by
  unfold State.pumpPort
  split
  · extract_lets lanes x words y out t
    have ht : t.fab.asked = some s.now ∨ (t.fab.askOut = true ∧ t.fab.asked = none) := by
      unfold t
      split
      · exact Or.inl rfl
      · exact Or.inr ⟨ho, ha⟩
    have hfab : ((t.setPort p y).mirrorLanes p).fab = (t.setPort p y).fab := (State.mirrorLanes_eff ..).same .fab rfl
    rw [hfab]
    exact ht
  · exact Or.inr ⟨ho, ha⟩

theorem State.timeExchange_asks (hw : Registers.wf s.regs = true) {p : Nat} (hm : s.isMaster = false) (hr : s.route (s.rd R.timCfgMaster 0) = some p) :
    (s.timeExchange.fab.asked = some s.now ∨ (s.timeExchange.fab.askOut = true ∧ s.timeExchange.fab.asked = none)) ∧
      s.timeExchange.fab.answered = none ∧ s.timeExchange.rd R.timStatParent 0 = p := by
  obtain ⟨hp, -, -⟩ := State.route_some hr
  unfold State.timeExchange
  rw [if_neg (by simp [hm]), hr]
  dsimp only
  generalize hu : (s.updFab fun f => { f with askOut := true, asked := none, answered := none }).wr R.timStatParent 0 p = u
  have hnow : u.now = s.now := hu ▸ rfl
  have hfab : u.fab.askOut = true ∧ u.fab.asked = none ∧ u.fab.answered = none := hu ▸ ⟨rfl, rfl, rfl⟩
  have hwf : Registers.wf (s.updFab fun f => { f with askOut := true, asked := none, answered := none }).regs = true := hw
  have hparent : u.rd R.timStatParent 0 = p := hu ▸ (State.rd_wr_same hwf _ _ _ (by decide)).trans (Nat.mod_eq_of_lt hp)
  have hwu : Registers.wf u.regs = true := hu ▸ State.wr_regs_wf hwf ..
  obtain ⟨hout, hasked, hans⟩ := hfab
  unfold State.sendOn
  extract_lets m k v x
  have hv : ∃ x', v.setPort p { x with queue := x.queue ++ [(0, m)] } = (u.updFab fun f => { f with seqOut := x' }).setPort p
      { x with queue := x.queue ++ [(0, m)] } := ⟨_, rfl⟩
  generalize ht : v.setPort p { x with queue := x.queue ++ [(0, m)] } = t at hv
  obtain ⟨x', hv⟩ := hv
  have htout : t.fab.askOut = true := hv ▸ hout
  have htasked : t.fab.asked = none := hv ▸ hasked
  have htans : t.fab.answered = none := hv ▸ hans
  have htnow : t.now = s.now := hv ▸ hnow
  have htregs : t.regs = u.regs := hv ▸ rfl
  refine ⟨htnow ▸ State.pumpPort_asks htout htasked, ?_, ?_⟩
  · have hmoved := congrArg FabState.answered (State.pumpPort_moved t p)
    exact hmoved.trans htans
  · have hkept : R.timStatParent.Kept 0 t (t.pumpPort p) := Fld.Kept.pumpPort t (.array rfl rfl (by decide) p)
    rw [hkept.rd (htregs ▸ hwu), State.rd_congr htregs, hparent]

theorem State.updFab_rd (s : State) (f : FabState → FabState) : (s.updFab f).rd = s.rd := id rfl
theorem State.updFab_clock (s : State) (f : FabState → FabState) : (s.updFab f).now = s.now := id rfl
theorem State.updFab_keeps (s : State) (f : FabState → FabState) : Keeps s (s.updFab f) := (State.updFab_eff s f).keeps (by decide)

/-- Outside start-up an offset changes the rate alone. -/
theorem State.follow_eq (hb : s.boot.running = false) (o : Int) (st : Nat) : s.follow o st =
    ((s.wr R.timStatOffset 0 (codeOfInt 32 o)).wr R.timStatState 0 st).updFab fun f => { f with rate := max (-1000) (min 1000 (f.rate + o)) } := by
  have hrun : ((s.wr R.timStatOffset 0 (codeOfInt 32 o)).wr R.timStatState 0 st).boot.running = false := hb
  unfold State.follow
  dsimp only
  rw [hrun]
  rfl

/-- The first exchange, of delay `d` and offset zero, is the best. -/
theorem State.timeAnswered_eq {t1 d : Nat} (hm : s.isMaster = false) (ha : s.fab.asked = some t1)
    (hans : s.fab.answered = some (s.rd R.timStatParent 0, t1 + 2 * d, BitVec.ofNat 128 (t1 + d + 2 ^ 64 * (t1 + d)))) (hlt : t1 + d < 2 ^ 64)
    (hex : s.fab.exchanges = []) (hd : d < 2 ^ 16) : s.timeAnswered (s.rd R.timStatParent 0) t1 (t1 + d) (t1 + d) (t1 + 2 * d) =
      ((s.updFab fun f => { f with asked := none, answered := none, exchanges := [(d, 0)] }).wr R.timStatDelay 0 d).follow 0 2 := by
  have hw : (BitVec.ofNat 128 (t1 + d + 2 ^ 64 * (t1 + d))).toNat = t1 + d + 2 ^ 64 * (t1 + d) := by
    rw [BitVec.toNat_ofNat]
    exact Nat.mod_eq_of_lt (by omega)
  have hlow : (t1 + d + 2 ^ 64 * (t1 + d)) % 2 ^ 64 = t1 + d := by omega
  have hhigh : (t1 + d + 2 ^ 64 * (t1 + d)) / 2 ^ 64 = t1 + d := by omega
  have hdelay : (((t1 + 2 * d : Nat) : Int) - (t1 : Int) - (((t1 + d : Nat) : Int) - ((t1 + d : Nat) : Int))) / 2 = d := by omega
  have hoffset : (((t1 + d : Nat) : Int) - (t1 : Int) + (((t1 + d : Nat) : Int) - ((t1 + 2 * d : Nat) : Int))) / 2 = 0 := by omega
  have hmin : Nat.min d (2 ^ 16 - 1) = d := Nat.min_eq_left (by omega)
  unfold State.timeAnswered
  rw [ha, hans]
  dsimp only
  rw [if_neg (by simp only [hm, hw, hlow, hhigh]; simp), hdelay, hoffset, hex]
  simp only [Int.toNat_natCast, List.take, minBy, Option.getD, hmin]

theorem State.timeAnswered_none {p t1 t2 t3 t4 : Nat} (h : s.fab.asked = none ∨ s.fab.answered = none) : s.timeAnswered p t1 t2 t3 t4 = s := by
  unfold State.timeAnswered
  rcases h with h | h
  · rw [h]
  · rw [h]
    cases s.fab.asked <;> rfl

theorem State.follow_fields (hw : Registers.wf s.regs = true) (hb : s.boot.running = false) (o : Int) {st : Nat} (hst : st < 4) :
    (s.follow o st).rd R.timStatState 0 = st ∧ (s.follow o st).rd R.timStatOffset 0 = codeOfInt 32 o ∧
      (s.follow o st).rd R.timStatDelay 0 = s.rd R.timStatDelay 0 ∧ (s.follow o st).now = s.now ∧
      (s.follow o st).fab = { s.fab with rate := max (-1000) (min 1000 (s.fab.rate + o)) } ∧ Keeps s (s.follow o st) := by
  rw [State.follow_eq hb]
  generalize hu : (s.wr R.timStatOffset 0 (codeOfInt 32 o)).wr R.timStatState 0 st = u
  have hfab : u.fab = s.fab := hu ▸ rfl
  have hnow : u.now = s.now := hu ▸ rfl
  have hkeeps : Keeps s u := hu ▸ (State.wr_keeps ..).trans (State.wr_keeps ..)
  have hwo : Registers.wf (s.wr R.timStatOffset 0 (codeOfInt 32 o)).regs = true := State.wr_regs_wf hw ..
  have hwidth : R.timStatOffset.width = 32 := rfl
  have hcode : codeOfInt 32 o < 2 ^ R.timStatOffset.width := by
    rw [hwidth]
    exact codeOfInt_lt 32 o
  have hstate : u.rd R.timStatState 0 = st := by
    rw [← hu, State.rd_wr_same hwo _ _ _ (by decide)]
    exact Nat.mod_eq_of_lt hst
  have hoff : u.rd R.timStatOffset 0 = codeOfInt 32 o := by
    rw [← hu, State.rd_wr_sibling hwo 0 st (by decide), State.rd_wr_same hw _ _ _ (by decide), Nat.mod_eq_of_lt hcode]
  have hdelay : u.rd R.timStatDelay 0 = s.rd R.timStatDelay 0 := by
    rw [← hu, State.rd_wr_sibling hwo 0 st (by decide), State.rd_wr_sibling hw 0 _ (by decide)]
  have hrate : (u.updFab fun f => { f with rate := max (-1000) (min 1000 (f.rate + o)) }).fab =
      { s.fab with rate := max (-1000) (min 1000 (s.fab.rate + o)) } := by
    rw [← hfab]
    rfl
  rw [State.updFab_rd]
  exact ⟨hstate, hoff, hdelay, (State.updFab_clock ..).trans hnow, hrate, hkeeps.trans (State.updFab_keeps ..)⟩

end

end Sys2Proof.Machine

open Sys2Proof.Machine

/-- Settles O37: each command of the census, of the agreement and of device time writes the fabric's state, after what it sends has left the rest of it. -/
theorem fabricAgreementComplete : Obligations.FabricAgreementComplete := by
  unfold Obligations.FabricAgreementComplete
  refine ⟨fun s src serial hm hs hin hnew hsrc => Answers.of (exec_census src serial s) (State.census_new hm hs hin hnew hsrc) ?census,
    fun s serial hs heq => ?answer, fun s hw => ?conflict, fun s hi hat hon hm hr => ?send, fun s hi hat hon hm hr => ?lost,
    fun s u hw hwait hr hat hu => ?late,
    fun s m e he hat => Answers.of (exec_censusForget m s) (State.censusForget_eq he hat) ⟨aget_adel_same .., rfl, rfl, rfl, rfl, rfl, rfl⟩,
    fun s hj hf hp => ?period,
    fun s m hin hj hl hd hn => Answers.of (exec_freq m s) (State.freq_lead hin hj hl hd hn) ?lead,
    fun s m hin hj hl hsrc => ?member,
    fun s g hj hl hd hhalf hm hgrants hg => Answers.of (exec_freqLeadDecide s) (State.freqDecide_alone hj hl hd hhalf hm hgrants hg)
      ⟨rfl, rfl, rfl, rfl, rfl, rfl, rfl, rfl⟩,
    fun s n u hw hr hu hn hp => ?effect, fun s p hw hm hr => ?asks,
    fun s hw hm hr hst => Answers.of (exec_timeExchange s) (State.timeExchange_lost hm hr hst) ?holdover,
    fun s t1 d hw hm ha hans hlt hex hb hd => Answers.of (exec_time _ _ _ _ _ s) (State.timeAnswered_eq hm ha hans hlt hex hd) ?time,
    fun s p t1 t2 t3 t4 h => Answers.of (exec_time p t1 t2 t3 t4 s) (State.timeAnswered_none h) rfl,
    fun s h hw hm hb => Answers.of (exec_ptmUpdate h s) (if_pos hm) ?ptm⟩
  case census =>
    have hsends : Sends s ((s.updFab fun f => { f with census := aput f.census src ⟨serial, s.now, none⟩ }).sendHub src 4 0 [censusWord 0x4341 serial]) :=
      (State.updFab_sends rfl rfl rfl).trans (State.sendHub_sends ..)
    have hcensus := congrArg FabState.census (State.sendHub_moved (s.updFab fun f => { f with census := aput f.census src ⟨serial, s.now, none⟩ }) src 4 0
      [censusWord 0x4341 serial])
    exact ⟨hcensus ▸ aget_aput_same .., fun _ => hsends.lanes, hsends.keeps⟩
  case answer =>
    have hserial : serial = (s.takeIf fun m => m.kind = 4 && m.payload = [censusWord 0x4341 serial]).rd R.hstIdSerialSerial 0 := by
      rw [State.takeIf_serial, ← heq]
    have hmoved := State.takeIf_moved s fun m => m.kind = 4 && m.payload = [censusWord 0x4341 serial]
    have heff := State.takeIf_eff s fun m => m.kind = 4 && m.payload = [censusWord 0x4341 serial]
    have hempty : s.fab.inbox = [] → (s.takeIf fun m => m.kind = 4 && m.payload = [censusWord 0x4341 serial]).regs = s.regs := fun hin => by
      rw [State.takeIf_of_empty hin]
    have hexec := exec_censusAnswer serial s
    generalize (s.takeIf fun m => m.kind = 4 && m.payload = [censusWord 0x4341 serial]) = u at hserial hmoved heff hempty hexec
    have hisolated := congrArg FabState.isolated hmoved
    have hanswered : u.censusAnswered serial = u.updFab fun f => { f with censusWait := false } := by
      have hsame : serial = (u.updFab fun f => { f with censusWait := false }).rd R.hstIdSerialSerial 0 := hserial
      exact if_neg fun h => h.elim hs fun hne => hne hsame
    exact Answers.of hexec hanswered ⟨rfl, hisolated, hempty, (heff.keeps (by decide)).trans (State.updFab_keeps ..)⟩
  case conflict =>
    have heff := State.takeIf_eff s fun m => m.kind = 4 && m.payload = [censusWord 0x4341 0]
    have hexec := exec_censusAnswer 0 s
    generalize (s.takeIf fun m => m.kind = 4 && m.payload = [censusWord 0x4341 0]) = u at heff hexec
    have hwu : Registers.wf (u.updFab fun f => { f with censusWait := false }).regs = true := heff.regs hw
    obtain ⟨hisolated, hdup, hwait, hkeeps⟩ := State.isolate_fields hwu
    have hisolate : u.censusAnswered 0 = (u.updFab fun f => { f with censusWait := false }).isolate := by
      unfold State.censusAnswered
      exact if_pos (Or.inl rfl)
    exact Answers.of hexec hisolate ⟨hisolated, hdup, hwait, ((heff.keeps (by decide)).trans (State.updFab_keeps ..)).trans hkeeps⟩
  case send =>
    have hreach : (s.updFab fun f => { f with censusAt := some s.now }).unreachable (s.rd R.timCfgMaster 0) = false :=
      (congrFun (State.unreachable_congr (t := s.updFab fun f => { f with censusAt := some s.now }) (s := s) rfl rfl) _).trans hr
    refine Answers.of (exec_censusSend s) ((State.censusSend_eq hi hat hon hm).trans (if_neg (by rw [hreach]; exact Bool.false_ne_true))) ?_
    have hsends : Sends s ((s.updFab fun f => { f with censusAt := some s.now }).sendHub (s.rd R.timCfgMaster 0) 4 0
        [censusWord 0x4343 (s.rd R.hstIdSerialSerial 0)]) := (State.updFab_sends rfl rfl rfl).trans (State.sendHub_sends ..)
    have hat' := congrArg FabState.censusAt (State.sendHub_moved (s.updFab fun f => { f with censusAt := some s.now }) (s.rd R.timCfgMaster 0) 4 0
      [censusWord 0x4343 (s.rd R.hstIdSerialSerial 0)])
    exact ⟨hat', rfl, fun _ => hsends.lanes, hsends.keeps.trans (State.updFab_keeps ..)⟩
  case lost =>
    have hreach : (s.updFab fun f => { f with censusAt := some s.now }).unreachable (s.rd R.timCfgMaster 0) = true :=
      (congrFun (State.unreachable_congr (t := s.updFab fun f => { f with censusAt := some s.now }) (s := s) rfl rfl) _).trans hr
    refine Answers.of (exec_censusSend s) ((State.censusSend_eq hi hat hon hm).trans (if_pos hreach)) ?_
    have hfab : ((s.updFab fun f => { f with censusAt := some s.now }).raise 0x08A (portSite 0) (portMaster 0) 0 5 0).fab =
        (s.updFab fun f => { f with censusAt := some s.now }).fab := (State.raise_eff ..).same .fab rfl
    rw [hfab]
    exact ⟨rfl, rfl, State.raise_after (State.updFab_eff ..) (by decide) _ _ _ _ _ _, (State.raise_eff ..).same .regs rfl,
      (State.updFab_keeps ..).trans ((State.raise_eff ..).keeps (by decide))⟩
  case late =>
    obtain ⟨hisolated, hdup, -, hkeeps⟩ := State.isolate_fields hw
    exact Answers.of (exec_censusAnswerTimeout s) (if_pos ⟨hwait, by simp [hr], by simp only [hat, Option.any_some, decide_eq_true_eq]; omega⟩)
      ⟨hisolated, hdup, hkeeps⟩
  case period =>
    have hopen : s.opensPeriod.fab.period = s.now / s.freqNs ∧ s.opensPeriod.fab.ownGrant = s.grant ∧
        s.opensPeriod.fab.grants = [(s.rd R.optCfgModuleId 0, s.grant)] ∧ s.opensPeriod.fab.decided = false := ⟨rfl, rfl, rfl, rfl⟩
    have hkeeps : Keeps s s.opensPeriod := (State.updFab_keeps ..).trans (State.wr_keeps ..)
    obtain ⟨hperiod, hown, hgrants, hdecided⟩ := hopen
    rcases State.freqPeriod_cases hj hf hp with he | ⟨dst, ws, he⟩
    · exact Answers.of (exec_freqPeriod s) he ⟨hperiod, hown, hgrants, hdecided, hkeeps⟩
    · have hmoved := State.sendHub_moved s.opensPeriod dst 9 0 ws
      have hperiod' := congrArg FabState.period hmoved
      have hown' := congrArg FabState.ownGrant hmoved
      have hgrants' := congrArg FabState.grants hmoved
      have hdecided' := congrArg FabState.decided hmoved
      exact Answers.of (exec_freqPeriod s) he ⟨hperiod'.trans hperiod, hown'.trans hown, hgrants'.trans hgrants, hdecided'.trans hdecided,
        hkeeps.trans (State.sendHub_sends ..).keeps⟩
  case lead =>
    refine ⟨List.mem_append_right _ List.mem_cons_self, ?_, rfl, (State.updFab_keeps ..).trans (State.updFab_keeps ..)⟩
    change m.src ∈ if m.src ∈ s.fab.members then s.fab.members else s.fab.members ++ [m.src]
    split
    · assumption
    · exact List.mem_append_right _ List.mem_cons_self
  case member =>
    obtain ⟨u, hu, he⟩ := State.freq_member hin hj hl hsrc
    exact Answers.of (exec_freq m s) he ⟨rfl, hu.same .regs rfl, (hu.keeps (by decide)).trans (State.updFab_keeps ..)⟩
  case effect =>
    obtain ⟨hstep, hres, hagreed⟩ := State.freqEffect_fields hw hr hu hn hp
    have heff := State.freqEffect_eff s
    exact Answers.of_exec (exec_freqEffect s) ⟨hstep, hres, hagreed, heff.same .host rfl, heff.mem rfl rfl⟩
  case asks =>
    obtain ⟨hasked, hans, hparent⟩ := State.timeExchange_asks hw hm hr
    exact Answers.of_exec (exec_timeExchange s) ⟨hasked, hans, hparent, (State.timeExchange_eff s).keeps (by decide)⟩
  case holdover =>
    exact ⟨((Fld.Kept.raise _ 0x08A (portSite 0) (portMaster 0) 0 5 0).rd (State.wr_regs_wf hw ..)).trans (State.rd_wr_same hw _ _ _ (by decide)),
      State.raise_after (State.wr_eff ..) (by decide) _ _ _ _ _ _, (State.wr_keeps ..).trans ((State.raise_eff ..).keeps (by decide))⟩
  case time =>
    generalize hu : (s.updFab fun f => { f with asked := none, answered := none, exchanges := [(d, 0)] }) = u
    have hwu : Registers.wf u.regs = true := hu ▸ hw
    have hfab : u.fab.asked = none ∧ u.fab.exchanges = [(d, 0)] ∧ u.fab.rate = s.fab.rate := hu ▸ ⟨rfl, rfl, rfl⟩
    have hnow : u.now = s.now := hu ▸ rfl
    have hbu : (u.wr R.timStatDelay 0 d).boot.running = false := hu ▸ hb
    have hkeeps : Keeps s u := hu ▸ State.updFab_keeps ..
    obtain ⟨hasked, hexs, hrate⟩ := hfab
    obtain ⟨hstate, hoff, hdelay, hclock, hfollow, hkept⟩ := State.follow_fields (State.wr_regs_wf hwu R.timStatDelay 0 d) hbu 0 (st := 2) (by decide)
    have hd' : (u.wr R.timStatDelay 0 d).rd R.timStatDelay 0 = d := (State.rd_wr_same hwu _ _ _ (by decide)).trans (Nat.mod_eq_of_lt hd)
    refine ⟨?_, ?_, hdelay.trans hd', hoff, hstate, hclock.trans hnow, ?_, (hkeeps.trans (State.wr_keeps ..)).trans hkept⟩
    all_goals rw [hfollow, State.wr_fab]
    · exact hasked
    · exact hexs
    · rw [hrate, Int.add_zero]
  case ptm =>
    obtain ⟨hstate, -, -, hclock, hfollow, hkept⟩ := State.follow_fields hw hb ((h : Int) - (s.now : Int)) (st := 1) (by decide)
    exact ⟨by rw [hfollow], hstate, hclock, hkept⟩

end

section
/-! Frames and messages of the fabric (R271 to R275, R279, R280, R330): what is sent again, what a frame delivers, and what a message of each kind does. -/

namespace Sys2Proof.Machine

theorem exec_replayTimeout (p : Nat) (s : State) : exec (.replayTimeout p) s = .next (s.replayLate p) := rfl
theorem exec_fabricFrameReceive (p : Nat) (f : Frame) (s : State) : exec (.fabricFrameReceive p f) s = .next (s.frame p f) := rfl
theorem exec_seqGapTimeout (src master stream : Nat) (s : State) :
    exec (.seqGapTimeout src master stream) s = .next (s.gapTimeout src master stream) := rfl
theorem exec_transitMessage (m : FabMsg) (s : State) : exec (.transitMessage m) s = .next (s.transit m) := rfl
theorem exec_readReq (m : FabMsg) (s : State) : exec (.readReq m) s = .next (s.remoteRead m) := rfl
theorem exec_readRsp (m : FabMsg) (s : State) :
    exec (.readRsp m) s = .next ((s.takeFab m).updFab fun f => { f with readData := f.readData ++ [m] }) := rfl
theorem exec_write (m : FabMsg) (s : State) : exec (.write m) s = .next (s.remoteWrite m) := rfl
theorem exec_usageReport (m : FabMsg) (s : State) : exec (.usageReport m) s = .next (s.usage m) := rfl

/-! ### What sending leaves -/

/-- Fields below LANES_TX are left by it, in whatever register they are. -/
theorem Fld.LeftBy.low {g : Fld} (hg : (decide (g.lo ≤ g.hi) && decide (g.hi < 40)) = true) (j p : Nat) : g.LeftBy j R.optPstatLanesTx p where
  rd s v hw := by
    rw [Bool.and_eq_true, decide_eq_true_eq, decide_eq_true_eq] at hg
    obtain ⟨hle, hlt⟩ := hg
    by_cases hkey : regKey g.kind g.off j = regKey R.optPstatLanesTx.kind R.optPstatLanesTx.off p
    · exact State.rd_wr_apart hw _ _ _ _ _ (by decide) hkey (by simp [Fld.apart, R.optPstatLanesTx, hle, hlt])
    · exact State.rd_wr_ne hw _ _ _ _ _ hkey

theorem State.pumpPort_inbox (s : State) (p : Nat) : (s.pumpPort p).fab.inbox = s.fab.inbox := by
  by_cases hc : s.portCarries p = true ∧ s.fab.isolated = false
  · obtain ⟨a, b, n, lanes, errs, he⟩ := State.pumpPort_eq hc.1 hc.2
    rw [he]
    rfl
  · rw [State.pumpPort, if_neg (by simpa using hc)]

theorem State.forward_inbox (s : State) (input : Nat) (m : FabMsg) : (s.forward input m).fab.inbox = s.fab.inbox := by
  unfold State.forward
  split
  · rfl
  · exact State.pumpPort_inbox ..

theorem State.sendHub_inbox (s : State) (dst kind req : Nat) (ws : List (BitVec 128)) : (s.sendHub dst kind req ws).fab.inbox = s.fab.inbox := by
  unfold State.sendHub
  split
  · rfl
  · exact State.forward_inbox ..

/-- The routes stand in fields below LANES_TX, and in the module's own ID. -/
theorem State.pumpPort_route {s : State} (hw : Registers.wf s.regs = true) (p : Nat) : (s.pumpPort p).route = s.route := by
  have hlow : ∀ (g : Fld) (j : Nat), (decide (g.lo ≤ g.hi) && decide (g.hi < 40)) = true → (s.pumpPort p).rd g j = s.rd g j := fun g j hg => (Fld.Kept.pumpPort s (.low hg j p)).rd hw
  have hid : (s.pumpPort p).rd R.optCfgModuleId 0 = s.rd R.optCfgModuleId 0 := (Fld.Kept.pumpPort s (.array rfl rfl (by decide) p)).rd hw
  have hcarries : (s.pumpPort p).portCarries = s.portCarries := by
    funext q
    rw [State.portCarries, State.portCarries, State.portState, State.portState, hlow _ _ (by decide)]
  have hisolated := congrArg FabState.isolated (State.pumpPort_moved s p)
  funext m
  rw [State.route, State.route, State.choices, State.choices, hid, hlow R.optRouteC0 m (by decide), hlow R.optRouteC1 m (by decide),
    hlow R.optRouteC2 m (by decide), hlow R.optRouteC3 m (by decide), hcarries, hisolated]

/-- A port with nothing queued spends no credit. -/
structure Port.Unspent (x y : Port) : Prop where
  kept : x.queue = [] → y.queue = [] ∧ y.credits = x.credits

theorem Port.Unspent.refl (x : Port) : x.Unspent x := ⟨fun h => ⟨h, rfl⟩⟩

theorem Port.Unspent.trans {x y z : Port} (h : x.Unspent y) (h' : y.Unspent z) : x.Unspent z := ⟨fun hq => by
  obtain ⟨hy, hc⟩ := h.kept hq
  obtain ⟨hz, hc'⟩ := h'.kept hy
  exact ⟨hz, hc'.trans hc⟩⟩

theorem Port.Unspent.of_eq {x y : Port} (hq : y.queue = x.queue) (hc : y.credits = x.credits) : x.Unspent y := ⟨fun h => ⟨hq.trans h, hc⟩⟩

theorem Port.grant_of_empty {x : Port} (hq : x.queue = []) (now : Nat) : x.grant now = none := by
  unfold Port.grant
  extract_lets can pend g
  have hcan : can = [] := by
    unfold can
    rw [hq, Port.ready]
  rw [hcan]
  cases g.1 <;> rfl

theorem Port.fill_unspent (fuel now room : Nat) (x : Port) (f : TxFrame) : x.Unspent (x.fill fuel now room f).1 := by
  induction fuel generalizing room x f with
  | zero => exact Port.Unspent.refl x
  | succ n ih =>
    unfold Port.fill
    split
    · exact Port.Unspent.refl x
    · split
      · split
        · exact Port.Unspent.refl x
        · rename_i y m hg
          exact ⟨fun hq => absurd hg (by simp [Port.grant_of_empty hq])⟩
      · extract_lets k
        exact Port.Unspent.trans (y := { x with txRest := x.txRest.drop k }) (Port.Unspent.of_eq rfl rfl) (ih ..)

theorem Port.pump_unspent (fuel now : Nat) (lanes errs : List Nat) (x : Port) : x.Unspent (x.pump fuel now lanes errs) := by
  induction fuel generalizing x with
  | zero => exact Port.Unspent.refl x
  | succ n ih =>
    unfold Port.pump
    split
    · exact Port.Unspent.refl x
    · extract_lets room y z
      split
      · exact Port.Unspent.refl x
      · exact ((Port.fill_unspent (2 * room + 2) now room x ⟨x.txNext, [], []⟩).trans (Port.Unspent.of_eq (y := { z with
          replay := z.replay ++ [y.2], ackAt := if x.replay.isEmpty then now else z.ackAt, txNext := (x.txNext + 1) % 2 ^ 16 }) rfl rfl)).trans (ih _)

theorem State.pumpPort_unspent (s : State) (p : Nat) : (s.port p).Unspent ((s.pumpPort p).port p) := by
  by_cases hc : s.portCarries p = true ∧ s.fab.isolated = false
  · obtain ⟨a, b, n, lanes, errs, he⟩ := State.pumpPort_eq hc.1 hc.2
    rw [he, State.port_of_eff (State.mirrorLanes_eff ..) (by decide), State.setPort_port]
    have htold := Port.tell_told 8 lanes errs ((s.port p).pump n s.now lanes errs)
    have hqueue := congrArg Port.queue htold
    have hcredits := congrArg Port.credits htold
    exact (Port.pump_unspent ..).trans (Port.Unspent.of_eq hqueue hcredits)
  · rw [State.pumpPort, if_neg (by simpa using hc)]
    exact Port.Unspent.refl _

/-! ### Replay -/

/-- The frames of a replay buffer that go out again. -/
def Port.resend (x : Port) (lanes errs : List Nat) (fs : List TxFrame) : Port :=
  fs.foldl (fun (y : Port) f => y.emit lanes errs false f.number f.words) x

/-- Each goes out under its number, with its words. -/
theorem Port.resend_sent (lanes errs : List Nat) (fs : List TxFrame) (x : Port) :
    (x.resend lanes errs fs).sent.length = x.sent.length + fs.length ∧ (x.resend lanes errs fs).replay = x.replay ∧
      (∀ n, n < x.sent.length → (x.resend lanes errs fs).sent[n]? = x.sent[n]?) ∧
      ∀ i f, fs[i]? = some f → ∃ ctl : LinkWord, ctl.number = f.number ∧ ctl.empty = false ∧
        (x.resend lanes errs fs).sent[x.sent.length + i]? = some (frameOf lanes f.number (encodeWord (leBytes 16 ctl.bits) :: f.words)) := by
  induction fs generalizing x with
  | nil => exact ⟨rfl, rfl, fun _ _ => rfl, fun i f h => absurd h (by simp)⟩
  | cons g fs ih =>
    obtain ⟨hlen, hreplay, hold, hnew⟩ := ih (x.emit lanes errs false g.number g.words)
    have hsent : (x.emit lanes errs false g.number g.words).sent.length = x.sent.length + 1 := by simp [Port.emit]
    have hstep : x.resend lanes errs (g :: fs) = (x.emit lanes errs false g.number g.words).resend lanes errs fs := rfl
    rw [hstep]
    refine ⟨by rw [hlen, hsent, List.length_cons]; omega, hreplay, fun n hn => ?_, fun i f h => ?_⟩
    · rw [hold n (by omega)]
      exact List.getElem?_append_left hn
    · cases i with
      | zero =>
        rw [List.getElem?_cons_zero, Option.some.injEq] at h
        refine ⟨x.linkWord lanes errs false g.number, h ▸ rfl, rfl, ?_⟩
        rw [Nat.add_zero, hold _ (by omega), ← h]
        simp [Port.emit]
      | succ i =>
        rw [List.getElem?_cons_succ] at h
        obtain ⟨ctl, hn, he, hf⟩ := hnew i f h
        refine ⟨ctl, hn, he, ?_⟩
        rw [← hf, hsent]
        congr 1
        omega

/-- Frames that fit the width go out as they are. -/
theorem State.replayFrames_eq {s : State} {p : Nat} (hne : (s.port p).replay ≠ [])
    (hfit : ∀ f ∈ (s.port p).replay, f.words.length < frameWords (decide ((s.txLanes p).length < 8))) :
    ∃ u : State, Eff 256 ((s.incSat R.optPcntReplays p (s.port p).replay.length).setPort p { (s.port p).resend (s.txLanes p) (s.laneErrs p) (s.port p).replay with
      ackAt := s.now, replayMs := some (s.now / 10 ^ 6) }) u ∧ s.replayFrames p = u := by
  have hrecut : (s.port p).recut (frameWords (decide ((s.txLanes p).length < 8)) - 1) = s.port p := by
    refine if_pos (List.all_eq_true.2 fun f hf => ?_)
    have := hfit f hf
    simp only [decide_eq_true_eq]
    omega
  unfold State.replayFrames
  dsimp only
  rw [if_neg (by simpa using hne), hrecut]
  refine ⟨_, ?_, rfl⟩
  split
  · exact Eff.refl ..
  · exact State.raise_eff ..

/-! ### What a frame brings -/

section
variable {s : State} {p : Nat}

/-- The port after a link control word without HO_LOCK, NAK and DARK. -/
def State.linked (s : State) (p : Nat) (f : LinkWord) (x : Port) : State := (s.setPort p x).wr R.optPstatLanesRx p f.lanesTx

/-- What such a word changes of its port. -/
structure Port.Linked (x y : Port) (f : LinkWord) : Prop where
  credits : y.credits = (List.range 4).map fun v => x.credits.getD v 0 + f.credit.getD v 0
  fbErr : y.fbErr = sset 0 x.fbErr f.fbLane f.fbErr
  rxNext : y.rxNext = x.rxNext
  rxPart : y.rxPart = x.rxPart
  queue : y.queue = x.queue

theorem State.linkControl_eq {f : LinkWord} (hlock : f.hoLock = false) (hnak : f.nak = false) (hdark : f.dark = false) :
    ∃ x, (s.port p).Linked x f ∧ s.linkControl p f = s.linked p f x := by
  unfold State.linkControl
  extract_lets x used away acked y u v w
  have hv : v = u := if_neg (by simp [hlock])
  have hw : w = v := if_neg (by simp [hnak])
  rw [if_neg (by simp [hdark]), hw, hv]
  exact ⟨y, ⟨rfl, rfl, rfl, rfl, rfl⟩, rfl⟩

theorem State.linked_port (f : LinkWord) (x : Port) : (s.linked p f x).port p = x :=
  (State.port_of_eff (State.wr_eff ..) (by decide) p).trans (State.setPort_port ..)

theorem State.linked_eff (s : State) (p : Nat) (f : LinkWord) (x : Port) : Eff 4294967304 s (s.linked p f x) :=
  (State.wr_eff ..).step rfl ((State.setPort_eff ..).mono rfl)

/-- An empty frame brings its link control word. -/
theorem State.frame_empty {f : Frame} {l : LinkWord} {ws : List (List Byte × Bool)} (hc : s.portCarries p = true) (hr : readFrame f = .good l ws)
    (he : l.empty = true) (hlock : l.hoLock = false) (hnak : l.nak = false) (hdark : l.dark = false) :
    ∃ x, (s.port p).Linked x l ∧ s.frame p f = (s.linked p l x).pumpPort p := by
  obtain ⟨x, hx, hlink⟩ := State.linkControl_eq (s := s) (p := p) hlock hnak hdark
  refine ⟨x, hx, ?_⟩
  unfold State.frame
  rw [if_neg (by simp [hc]), hr]
  dsimp only
  rw [hlink]
  exact if_pos (Or.inl he)

/-- The next message of its stream is delivered at once. -/
theorem State.accept_next {m : FabMsg} (hk : m.kind = 3) (hdst : m.dst = s.rd R.optCfgModuleId 0) (hseq : m.seq = sget 0 s.fab.expect (streamKey m))
    (hearly : s.fab.early = []) : ∃ e g, s.accept p m = s.updFab fun f => { f with expect := e, inbox := f.inbox ++ [(p + 1, m)], gaps := g } := by
  have harrive : s.accept p m = s.arrive (p + 1) m := by
    unfold State.accept
    rw [if_neg (by omega), if_neg (by omega), if_neg (not_not.2 hdst)]
  have hahead : (m.seq + 2 ^ 16 - sget 0 s.fab.expect (streamKey m)) % 2 ^ 16 = 0 := by
    rw [← hseq, Nat.add_sub_cancel_left, Nat.mod_self]
  rw [harrive]
  unfold State.arrive
  extract_lets key ahead t held
  rw [if_pos hahead]
  have ht : t = s.updFab fun f => { f with expect := sset 0 f.expect key ((m.seq + 1) % 2 ^ 16), inbox := f.inbox ++ [(p + 1, m)] } := by
    unfold t State.due
    rw [if_neg (by omega)]
    rfl
  have hdrain : t.drain t.fab.early.length key = t := by
    have hlen : t.fab.early.length = 0 := by
      rw [ht]
      exact List.length_eq_zero_iff.2 hearly
    rw [hlen]
    rfl
  have hnone : ¬ (t.fab.early.any fun e => streamKey e.2 = key) = true := by
    rw [ht]
    change ¬ (s.fab.early.any fun e => streamKey e.2 = key) = true
    rw [hearly]
    simp
  rw [hdrain]
  unfold State.closeGap
  rw [if_neg hnone, ht]
  exact ⟨_, _, rfl⟩

/-- The frame that is next in order, with one message, delivers it. -/
theorem State.frame_next {f : Frame} {l : LinkWord} {ws : List (List Byte × Bool)} {m : FabMsg} (hw : Registers.wf s.regs = true)
    (hc : s.portCarries p = true) (hr : readFrame f = .good l ws) (he : l.empty = false) (hlock : l.hoLock = false) (hnak : l.nak = false)
    (hdark : l.dark = false) (hpart : (s.port p).rxPart = []) (hmsgs : takeMsgs ws.length ws = ([m], [])) (hn : l.number = (s.port p).rxNext) :
    ∃ x y : Port, y.rxNext = ((s.port p).rxNext + 1) % 2 ^ 16 ∧ y.nak = false ∧
      s.frame p f = ((((s.linked p l x).setPort p y).inc R.optPcntFrames p 1).accept p m).pumpPort p := by
  obtain ⟨x, hx, hlink⟩ := State.linkControl_eq (s := s) (p := p) hlock hnak hdark
  have hcarries : (s.linked p l x).portCarries p = true := by
    have hstate : (s.linked p l x).rd R.optPstatState p = s.rd R.optPstatState p := State.rd_wr_sibling (s := s.setPort p x) hw p _ (by decide)
    rw [State.portCarries, State.portState, hstate]
    exact hc
  refine ⟨x, { x with
    rxNext := (x.rxNext + 1) % 2 ^ 16, nak := false, failures := 0, failLane := none, mixed := false, rxPart := [] }, by rw [← hx.rxNext], rfl, ?_⟩
  unfold State.frame
  rw [if_neg (by simp [hc]), hr]
  dsimp only
  rw [hlink, State.linked_port, if_neg (by simp [he, hcarries]), if_neg (by simp [hx.rxNext, hn]), hx.rxPart, hpart, List.nil_append, hmsgs]
  rfl

/-- The first failure of a frame asks for its replay. -/
theorem State.frame_bad {f : Frame} {lane n : Option Nat} (hc : s.portCarries p = true) (hr : readFrame f = .bad lane n) (hnak : (s.port p).nak = false)
    (hfail : (s.port p).failures = 0) : ∃ x : Port, x.nak = true ∧ x.failures = 1 ∧ x.rxNext = (s.port p).rxNext ∧
      s.frame p f = ((s.incSat R.optPcntNaks p 1).setPort p x).pumpPort p := by
  unfold State.frame
  rw [if_neg (by simp [hc]), hr]
  dsimp only
  unfold State.badFrame
  extract_lets x y t u
  rw [if_neg (by simp [x, hnak])]
  have hy : y.failures = 1 := by
    change x.failures + 1 = 1
    rw [hfail]
  rw [if_pos (by omega)]
  exact ⟨y, rfl, hy, rfl, rfl⟩

/-! ### Messages -/

/-- A gap behind which nothing is held is reported and closed. -/
theorem State.gapTimeout_eq {src master stream u q : Nat} (hg : s.fab.gaps = [⟨src, master, stream, u⟩]) (hu : u + 1000 * s.rd R.optCfgGapUs 0 ≤ s.now)
    (hearly : s.fab.early = []) (hr : s.route src = some q) :
    s.gapTimeout src master stream = (s.raise 0x088 (portSite q) (portMaster q) 0 4 0).updFab fun f => { f with gaps := [] } := by
  have hfab : (s.raise 0x088 (portSite q) (portMaster q) 0 4 0).fab = s.fab := (State.raise_eff ..).same .fab rfl
  unfold State.gapTimeout
  rw [if_neg (by simp [hg, hu])]
  simp only [hearly, hr, List.filter_nil, List.map_nil, List.eraseDups_nil, List.foldl_nil, minBy]
  generalize s.raise 0x088 (portSite q) (portMaster q) 0 4 0 = t at hfab
  unfold State.closeGap
  rw [if_neg (by rw [hfab, hearly]; simp), State.updFab, State.updFab, hfab, hg]
  simp

/-- The one message of the inbox is taken: its words are owed to its port, which sends. -/
theorem State.takeFab_one {m : FabMsg} {i : Nat} (hin : s.fab.inbox = [(i + 1, m)]) :
    s.takeFab m = ((s.updFab fun f => { f with inbox := [] }).freed (i + 1) m).pumpPort i := by
  have hfind : (s.fab.inbox.find? fun e => e.2 = m) = some (i + 1, m) := by simp [hin]
  have hdrop : dropFirst (fun y => decide (y = (i + 1, m))) s.fab.inbox = [] := by simp [hin, dropFirst]
  unfold State.takeFab State.takeIf
  rw [hfind]
  dsimp only
  rw [State.updFab, hdrop, if_neg (Nat.succ_ne_zero i)]
  rfl

theorem State.freed_sends (s : State) (input : Nat) (m : FabMsg) : Sends s (s.freed input m) := by
  unfold State.freed
  split
  · exact Sends.refl s
  · exact State.setPort_sends ..

theorem State.takeFab_one_sends {m : FabMsg} {i : Nat} (hi : i < 16) (hin : s.fab.inbox = [(i + 1, m)]) :
    Sends s (s.takeFab m) ∧ (s.takeFab m).fab.inbox = [] := by
  rw [State.takeFab_one hin]
  have hfreed : Sends s ((s.updFab fun f => { f with inbox := [] }).freed (i + 1) m) := (State.updFab_sends rfl rfl rfl).trans (State.freed_sends ..)
  exact ⟨hfreed.trans (State.pumpPort_sends hi), State.pumpPort_inbox ..⟩

theorem State.takeFab_one_route {m : FabMsg} {i : Nat} (hw : Registers.wf s.regs = true) (hin : s.fab.inbox = [(i + 1, m)]) :
    (s.takeFab m).route = s.route ∧ (s.takeFab m).rd R.optCfgModuleId 0 = s.rd R.optCfgModuleId 0 := by
  rw [State.takeFab_one hin]
  have hw' : Registers.wf ((s.updFab fun f => { f with inbox := [] }).freed (i + 1) m).regs = true := hw
  exact ⟨(State.pumpPort_route hw' i).trans (State.route_congr rfl rfl), (Fld.Kept.pumpPort _ (.array rfl rfl (by decide) i)).rd hw'⟩

/-- A message in transit goes on with one hop less, or is lost. -/
theorem State.transit_eq {m : FabMsg} {i : Nat} (hin : s.fab.inbox = [(i + 1, m)]) (hdst : m.dst ≠ s.rd R.optCfgModuleId 0) :
    s.transit m = if m.hops = 0 ∨ (s.takeFab m).unreachable m.dst then (s.takeFab m).lost i m
      else (s.takeFab m).forward (i + 1) { m with hops := m.hops - 1 } := by
  have hfind : (s.fab.inbox.find? fun e => e.2 = m) = some (i + 1, m) := by simp [hin]
  unfold State.transit
  rw [hfind]
  exact if_neg hdst

end

/-! ### Device memory is beside the ports -/

/-- From `s` to `t` every register is left but those at the offset of OPT_PSTAT. -/
def PortRegs (s t : State) : Prop := ∀ k, k % 2 ^ 26 ≠ 0x500140 → t.reg k = s.reg k

namespace PortRegs

variable {s t : State} (h : PortRegs s t)

theorem takeIf (s : State) (f : FabMsg → Bool) : PortRegs s (s.takeIf f) := fun k hk => State.takeIf_reg f fun p he => hk (by
  rw [he, show regKey R.optPstatLanesTx.kind R.optPstatLanesTx.off p = p * 2 ^ 26 + 0x500140 from rfl]
  omega)

include h

theorem rd {f : Fld} {i : Nat} (hk : regKey f.kind f.off i % 2 ^ 26 ≠ 0x500140) : t.rd f i = s.rd f i := by rw [State.rd, State.rd, h _ hk]

theorem viewLive {v : Nat} (hv : v < 36) : t.viewLive v = s.viewLive v := by
  refine List.filter_congr fun c hc => ?_
  have hlt : c < 256 := by
    unfold viewChans at hc
    split at hc
    all_goals
      obtain ⟨i, hi, rfl⟩ := List.mem_map.1 hc
      have := List.mem_range.1 hi
      omega
  have hkey : regKey R.memLiveMask.kind R.memLiveMask.off (c / 64) = 0x300010 + 8 * (c / 64) := rfl
  rw [State.chanLive, State.chanLive, h.rd (by omega)]

theorem chanBytes : t.chanBytes = s.chanBytes := by
  rw [State.chanBytes, State.chanBytes, State.gradeM, State.gradeM, State.isSet, State.isSet, h.rd (by decide)]

omit h in
theorem viewOf_lt {a v o : Nat} (hv : viewOf a = some (v, o)) : v < 36 ∧ a < hubSramBase := by
  unfold viewOf at hv
  unfold hubSramBase
  split at hv
  · simp only [Option.some.injEq, Prod.mk.injEq] at hv
    omega
  · split at hv
    · simp only [Option.some.injEq, Prod.mk.injEq] at hv
      omega
    · cases hv

theorem backed (a : Nat) : t.backed a = s.backed a := by
  unfold State.backed
  cases hv : viewOf a with
  | none => rfl
  | some e =>
    obtain ⟨v, o⟩ := e
    have hlive := h.viewLive (viewOf_lt hv).1
    have hwithdrawn : t.viewWithdrawn v = s.viewWithdrawn v := by
      have hret : ∀ c, t.isSet R.memChstatRetired c = s.isSet R.memChstatRetired c := fun c => by
        rw [State.isSet, State.isSet, h.rd]
        rw [show regKey R.memChstatRetired.kind R.memChstatRetired.off c = c * 2 ^ 26 + 0x300140 from rfl]
        omega
      rw [State.viewWithdrawn, State.viewWithdrawn, hlive, show t.isSet R.memChstatRetired = s.isSet R.memChstatRetired from funext hret]
    have hpool : t.poolSize v = s.poolSize v := by
      rw [State.poolSize, State.poolSize, hlive, h.chanBytes, h.rd (f := R.memCfgSplit) (by decide)]
    simp only [hwithdrawn, hpool]

theorem devWord (a : Nat) : t.devWord a = s.devWord a := by
  unfold State.devWord
  cases hv : viewOf a with
  | none => rfl
  | some e =>
    obtain ⟨v, o⟩ := e
    have hlocate : t.locate v o = s.locate v o := by
      rw [State.locate, State.locate, h.viewLive (viewOf_lt hv).1, h.chanBytes, h.rd (f := R.memCfgSplit) (by decide)]
    simp only [hlocate]

theorem openedTo (hopen : t.fab.opened = s.fab.opened) : t.openedTo = s.openedTo := by
  funext m a n
  rw [State.openedTo, State.openedTo, hopen]
  simp only [h.backed]

end PortRegs

theorem State.openedSram_congr {s t : State} (hopen : t.fab.opened = s.fab.opened) : t.openedSram = s.openedSram := by
  funext m a n
  rw [State.openedSram, State.openedSram, hopen]

/-- A word that is opened is backed, and none of hub SRAM. -/
theorem State.openedTo_backed {s : State} {m a n : Nat} (hn : 0 < n) (h : s.openedTo m a n = true) : s.backed a = true ∧ a < hubSramBase := by
  have hfirst := List.all_eq_true.1 h 0 (List.mem_range.2 (by omega))
  have hmin : Nat.min (a + 0 * 2 ^ 26) (a + (n - 1)) = a := by
    rw [Nat.zero_mul, Nat.add_zero]
    exact Nat.min_eq_left (by omega)
  dsimp only at hfirst
  rw [hmin, Bool.and_eq_true] at hfirst
  obtain ⟨hbacked, -⟩ := hfirst
  refine ⟨hbacked, ?_⟩
  unfold State.backed at hbacked
  cases hv : viewOf a with
  | none => rw [hv] at hbacked; cases hbacked
  | some e => exact (PortRegs.viewOf_lt (v := e.1) (o := e.2) hv).2

/-! ### Reads and writes of other modules -/

section
variable {s : State} {m : FabMsg}

/-- A clean word is read as its data; its channel has been used. -/
theorem State.remoteGet_clean {a : Nat} {b : List Byte} (ha : a < hubSramBase)
    (h : ∀ detect, decodeWord detect (wordAt s.mem.cells (s.devWord a)) = .word b none) :
    s.remoteGet a = (s.touchChan (wordChan (s.devWord a)), b, false) := by
  have hdecode : (decodeWord false (encodeWord b) == .poisoned) = false := by
    rw [decodeWord_encodeWord]
    rfl
  unfold State.remoteGet
  rw [if_neg (Nat.not_le.2 ha), State.copyRead, State.readCtl_clean _ h]
  dsimp only
  rw [hdecode]
  rfl

/-- The answer with one word. -/
def State.readAnswer (s : State) (m : FabMsg) (b : List Byte) : FabMsg :=
  { s.hubMsg m.src 3 m.request [BitVec.ofNat 128 (leNat b)] with poison := [] }

theorem State.remoteRead_one {b : List Byte} {p : Nat} (hin : s.fab.inbox = []) (hn : bitsOf (fabWord m 0) 63 48 = 0)
    (hopen : s.openedTo m.src (fabWord m 0 % 2 ^ 48) 16 = true) (hr : s.route m.src = some p)
    (h : ∀ detect, decodeWord detect (wordAt s.mem.cells (s.devWord (fabWord m 0 % 2 ^ 48))) = .word b none) :
    ∃ q, s.remoteRead m = ((s.touchChan (wordChan (s.devWord (fabWord m 0 % 2 ^ 48)))).updFab fun f => { f with seqOut := q }).forward 0
      (s.readAnswer m b) := by
  obtain ⟨-, hlt⟩ := State.openedTo_backed (by decide) hopen
  unfold State.remoteRead
  rw [State.takeFab_of_empty hin, hn]
  dsimp only
  rw [if_neg (by rw [show 16 * (0 + 1) = 16 from rfl, hopen]; simp)]
  simp only [Nat.zero_add, List.range_one, List.foldl_cons, List.foldl_nil, Nat.mul_zero, Nat.add_zero, List.nil_append, State.remoteGet_clean hlt h]
  have hreach : (s.touchChan (wordChan (s.devWord (fabWord m 0 % 2 ^ 48)))).unreachable m.src = false := by
    have hroute := congrFun (State.route_congr (s := s) (t := s.touchChan (wordChan (s.devWord (fabWord m 0 % 2 ^ 48)))) rfl rfl) m.src
    rw [State.unreachable, hroute, hr]
    rfl
  have hchunks : chunks 1023 [(b, false)] = [[(b, false)]] := rfl
  rw [hchunks, List.foldl_cons, List.foldl_nil, hreach]
  exact ⟨_, rfl⟩

/-- Taking a message leaves what is opened. -/
theorem State.takeFab_opened (s : State) (m : FabMsg) : (s.takeFab m).openedTo = s.openedTo ∧ (s.takeFab m).openedSram = s.openedSram := by
  have hopened := congrArg FabState.opened (State.takeIf_moved s fun y => y = m)
  exact ⟨(PortRegs.takeIf s fun y => y = m).openedTo hopened, State.openedSram_congr hopened⟩

theorem State.remoteRead_bounds
    (hto : s.openedTo m.src (fabWord m 0 % 2 ^ 48) (16 * (bitsOf (fabWord m 0) 63 48 + 1)) = false)
    (hsram : s.openedSram m.src (fabWord m 0 % 2 ^ 48) (16 * (bitsOf (fabWord m 0) 63 48 + 1)) = false) :
    s.remoteRead m = ((s.takeFab m).raise 0x002 (hubSite 4 0) m.master (fabWord m 0 % 2 ^ 48) 1 0).sendError m.src m.request stContextFault := by
  obtain ⟨hto', hsram'⟩ := s.takeFab_opened m
  unfold State.remoteRead
  dsimp only
  rw [hto', hsram', if_pos (by rw [hto, hsram]; rfl)]
  rfl

/-- A write of one word stores its codeword. -/
theorem State.remoteWrite_one {d : BitVec 128} (hd : m.payload.drop 1 = [d]) (hpoison : m.poison = [])
    (hopen : (s.openedSram m.src (fabWord m 0 % 2 ^ 48) 16 || s.openedTo m.src (fabWord m 0 % 2 ^ 48) 16) = true) :
    s.remoteWrite m = (s.takeFab m).remotePut (fabWord m 0 % 2 ^ 48) (encodeWord (leBytes 16 d.toNat)) := by
  obtain ⟨x, hx⟩ : ∃ x, m.payload = [x, d] := by
    cases hp : m.payload with
    | nil => rw [hp] at hd; cases hd
    | cons x r => exact ⟨x, by rw [hp] at hd; simpa using hd⟩
  have hlen : m.payload.length - 1 = 1 := by rw [hx]; rfl
  have hword : fabWord m 1 = d.toNat := by rw [fabWord, hx]; rfl
  obtain ⟨hto, hsram⟩ := s.takeFab_opened m
  have hgo : ¬ ((!s.openedSram m.src (fabWord m 0 % 2 ^ 48) 16 && !s.openedTo m.src (fabWord m 0 % 2 ^ 48) 16) = true) := by
    rw [← Bool.not_or, hopen]
    exact Bool.false_ne_true
  unfold State.remoteWrite
  dsimp only
  rw [hlen, hto, hsram, if_neg Nat.one_ne_zero, Nat.mul_one, if_neg hgo, hpoison]
  simp [hword]

/-- A word put below the hub SRAM goes to the memory's cells. -/
theorem State.remotePut_dev (s : State) {a : Nat} (w : List Byte) (h : a < hubSramBase) :
    (s.remotePut a w).mem.cells = putWord s.mem.cells (s.devWord a) w ∧ (s.remotePut a w).devWord a = s.devWord a ∧
      (s.remotePut a w).regs = s.regs ∧ (s.remotePut a w).host = s.host ∧ (s.remotePut a w).flash = s.flash := by
  unfold State.remotePut
  rw [if_neg (Nat.not_le.2 h)]
  exact ⟨rfl, rfl, rfl, rfl, rfl⟩

/-- A word put in the hub SRAM goes there alone. -/
theorem State.remotePut_sram (s : State) {a : Nat} (w : List Byte) (h : hubSramBase ≤ a) :
    (s.remotePut a w).pkg.hubSram = putWord s.pkg.hubSram ((a - hubSramBase) / 16) w ∧ (s.remotePut a w).mem = s.mem ∧
      (s.remotePut a w).host = s.host := by
  unfold State.remotePut
  rw [if_pos h]
  exact ⟨rfl, rfl, rfl⟩

/-- One aligned word is read as it was written. -/
theorem State.readDev_one {a : Nat} {b : List Byte} (halign : a % 16 = 0) (hb : b.length = 16)
    (hword : wordAt s.mem.cells (s.devWord a) = encodeWord b) : s.readDev a 16 = (b, false) := by
  have hread : readWord s.detects s.mem.cells (s.devWord a) = .word b none := by
    rw [readWord, hword, decodeWord_encodeWord]
  have hwords : (a + 16 - 1) / 16 - a / 16 + 1 = 1 := by omega
  have haddr : 16 * (a / 16 + 0) = a := by omega
  unfold State.readDev readBytes
  rw [if_neg (by decide)]
  dsimp only
  rw [hwords, List.range_one, List.map_cons, List.map_nil, haddr, hread, halign]
  simp [Decoded.bytes, ← hb]

theorem State.usage_eq (hcode : fabWord m 0 % 2 ^ 16 = 0x5553) : s.usage m = (s.takeFab m).charge (bitsOf (fabWord m 0) 27 16) fun a => { a with
    remoteNs := a.remoteNs + fabWord m 1 % 2 ^ 64, remoteUj := a.remoteUj + fabWord m 1 / 2 ^ 64, remoteBytes := a.remoteBytes + fabWord m 2 % 2 ^ 64 } :=
  if_neg (not_not.2 hcode)

end

end Sys2Proof.Machine

open Sys2Proof.Machine

/-- Settles O35: each command is the operation it names, and what sending leaves of the fabric and of the registers is said once. -/
theorem fabricMessagesComplete : Obligations.FabricMessagesComplete := by
  unfold Obligations.FabricMessagesComplete
  refine ⟨fun s p hc hne hat hfit => ?replay, fun s p f l ws hw hp hc hr he hlock hnak hdark hlanes hq hfb => ?empty,
    fun s p f l ws m hw hp hc hr he hlock hnak hdark hpart hmsgs hn hq hk hdst hseq hearly => ?next,
    fun s p f lane n hc hr hnak hfail => ?bad,
    fun s src master stream u p hg hu hearly hr => Answers.of (exec_seqGapTimeout src master stream s) (State.gapTimeout_eq hg hu hearly hr) ?gap,
    fun s m i p hw hin hi hdst hhops hk hr => ?transit, fun s m i hw hin hi hdst hhops hsrc => ?lost,
    fun s m p b hin hn halign hopen hr hb hw hclean => ?read,
    fun s m hto hsram => Answers.of (exec_readReq m s) (State.remoteRead_bounds hto hsram) ?bounds,
    fun s m => Answers.of_exec (exec_readRsp m s) ?rsp,
    fun s m d hwf hd hpoison hopen halign => Answers.of (exec_write m s) (State.remoteWrite_one hd hpoison (by rw [hopen, Bool.or_true])) ?write,
    fun s m d a hwf hd hpoison ha hopen => Answers.of (exec_write m s) (State.remoteWrite_one hd hpoison (by rw [← ha, hopen, Bool.true_or])) ?sram,
    fun s m hcode => Answers.of (exec_usageReport m s) (State.usage_eq hcode) ?usage⟩
  case replay =>
    obtain ⟨u, hu, he⟩ := State.replayFrames_eq hne hfit
    obtain ⟨hlen, hreplay, -, hframes⟩ := Port.resend_sent (s.txLanes p) (s.laneErrs p) (s.port p).replay (s.port p)
    have hlate : s.replayLate p = u := (if_pos ⟨hc, by simpa using hne, by omega⟩).trans he
    have hport := (State.port_of_eff hu (by decide) p).trans (State.setPort_port ..)
    have hkeeps : Keeps s (s.incSat R.optPcntReplays p (s.port p).replay.length) := (State.incSat_eff ..).keeps (by decide)
    refine Answers.of (exec_replayTimeout p s) hlate ⟨?_, ?_, ?_, ?_, (hkeeps.trans (State.setPort_sends ..).keeps).trans (hu.keeps (by decide))⟩
    all_goals rw [hport]
    · exact hlen
    · exact hframes
    · exact hreplay
  case empty =>
    obtain ⟨x, hx, hframe⟩ := State.frame_empty hc hr he hlock hnak hdark
    have hport : (s.linked p l x).port p = x := State.linked_port l x
    have hsent := State.pumpPort_sent (s.linked p l x) p
    have hunspent := State.pumpPort_unspent (s.linked p l x) p
    rw [hport] at hsent hunspent
    obtain ⟨-, hcredits⟩ := hunspent.kept (hx.queue.trans hq)
    have hwl := (s.linked_eff p l x).regs hw
    refine Answers.of (exec_fabricFrameReceive p f s) hframe ⟨?_, hcredits.trans hx.credits, ?_, ?_, State.pumpPort_inbox .., ?_⟩
    · rw [(Fld.Kept.pumpPort _ (.sibling (by decide) p)).rd hwl]
      exact (State.rd_wr_same (s := s.setPort p x) hw _ _ _ (by decide)).trans (Nat.mod_eq_of_lt hlanes)
    · have hfbErr := congrArg Port.fbErr hsent
      rw [hfbErr.trans hx.fbErr]
      exact sget_sset_same _ _ hfb
    · have hrx := congrArg Port.rxNext hsent
      exact hrx.trans hx.rxNext
    · exact ((s.linked_eff p l x).keeps (by decide)).trans ((State.pumpPort_eff ..).keeps (by decide))
  case next =>
    obtain ⟨x, y, hyrx, hynak, hframe⟩ := State.frame_next hw hc hr he hlock hnak hdark hpart hmsgs hn
    have heff : Eff 4294967304 s (((s.linked p l x).setPort p y).inc R.optPcntFrames p 1) :=
      (State.inc_eff ..).step rfl ((State.setPort_eff ..).step rfl (s.linked_eff p l x))
    have hport : (((s.linked p l x).setPort p y).inc R.optPcntFrames p 1).port p = y :=
      (State.port_of_eff (State.inc_eff ..) (by decide) p).trans (State.setPort_port ..)
    have hid : R.optCfgModuleId.Kept 0 s (((s.linked p l x).setPort p y).inc R.optPcntFrames p 1) := by
      have h1 : R.optCfgModuleId.Kept 0 s (s.setPort p x) := Fld.Kept.of_regs (id rfl)
      have h2 := h1.trans (Fld.Kept.wr (f := R.optPstatLanesRx) (i := p) (.array rfl rfl (by decide) p) (s.setPort p x) l.lanesTx)
      have h3 : R.optCfgModuleId.Kept 0 (s.linked p l x) ((s.linked p l x).setPort p y) := Fld.Kept.of_regs (id rfl)
      exact (h2.trans h3).trans (Fld.Kept.wr (.array rfl rfl (by decide) p) _ _)
    have hfab : (((s.linked p l x).setPort p y).inc R.optPcntFrames p 1).fab.inbox = s.fab.inbox ∧
        (((s.linked p l x).setPort p y).inc R.optPcntFrames p 1).fab.early = s.fab.early ∧
        (((s.linked p l x).setPort p y).inc R.optPcntFrames p 1).fab.expect = s.fab.expect := ⟨rfl, rfl, rfl⟩
    generalize ((s.linked p l x).setPort p y).inc R.optPcntFrames p 1 = w at hframe heff hport hid hfab
    obtain ⟨hinbox, hearly', hexpect⟩ := hfab
    obtain ⟨e, g, haccept⟩ := State.accept_next (s := w) (p := p) hk (hdst.trans (hid.rd hw).symm) (by rw [hexpect]; exact hseq) (hearly'.trans hearly)
    rw [haccept] at hframe
    have hsent := State.pumpPort_sent (w.updFab fun f => { f with expect := e, inbox := f.inbox ++ [(p + 1, m)], gaps := g }) p
    have hport' : (w.updFab fun f => { f with expect := e, inbox := f.inbox ++ [(p + 1, m)], gaps := g }).port p = y := hport
    rw [hport'] at hsent
    have hrx := congrArg Port.rxNext hsent
    have hnak' := congrArg Port.nak hsent
    refine Answers.of (exec_fabricFrameReceive p f s) hframe ⟨?_, hrx.trans hyrx, hnak'.trans hynak, ?_⟩
    · rw [State.pumpPort_inbox, ← hinbox]
      rfl
    · exact ((heff.keeps (by decide)).trans (State.updFab_keeps ..)).trans ((State.pumpPort_eff ..).keeps (by decide))
  case bad =>
    obtain ⟨x, hxnak, hxfail, hxrx, hframe⟩ := State.frame_bad hc hr hnak hfail
    have hsent := State.pumpPort_sent ((s.incSat R.optPcntNaks p 1).setPort p x) p
    rw [State.setPort_port] at hsent
    have hnak' := congrArg Port.nak hsent
    have hfail' := congrArg Port.failures hsent
    have hrx := congrArg Port.rxNext hsent
    have hkeeps : Keeps s (s.incSat R.optPcntNaks p 1) := (State.incSat_eff ..).keeps (by decide)
    exact Answers.of (exec_fabricFrameReceive p f s) hframe ⟨hnak'.trans hxnak, hfail'.trans hxfail, hrx.trans hxrx, State.pumpPort_inbox ..,
      (hkeeps.trans (State.setPort_sends ..).keeps).trans ((State.pumpPort_eff ..).keeps (by decide))⟩
  case gap =>
    exact ⟨rfl, State.raise_after (Eff.refl 0 s) (by decide) _ _ _ _ _ _, (State.raise_eff ..).same .regs rfl,
      ((State.raise_eff ..).keeps (by decide)).trans (State.updFab_keeps ..)⟩
  case transit =>
    obtain ⟨hsends, hempty⟩ := State.takeFab_one_sends hi hin
    obtain ⟨hroute, -⟩ := State.takeFab_one_route hw hin
    have hr' : (s.takeFab m).route m.dst = some p := by rw [hroute, hr]
    have hgo : ¬ (m.hops = 0 ∨ (s.takeFab m).unreachable m.dst = true) := by
      rw [State.unreachable, hr']
      simp
      omega
    have hfwd := State.forward_sends (s.takeFab m) (i + 1) { m with hops := m.hops - 1 }
    exact Answers.of (exec_transitMessage m s) ((State.transit_eq hin hdst).trans (if_neg hgo)) ⟨(State.forward_inbox ..).trans hempty,
      State.forward_carries (m := { m with hops := m.hops - 1 }) hk hr', (hsends.trans hfwd).lanes, (hsends.trans hfwd).keeps⟩
  case lost =>
    obtain ⟨hsends, hempty⟩ := State.takeFab_one_sends hi hin
    obtain ⟨-, hid⟩ := State.takeFab_one_route hw hin
    have hlost : (s.takeFab m).lost i m =
        ((s.takeFab m).raise 0x087 (portSite i) (portMaster i) 0 4 0).sendUnreach m.src m.request m.dst := by
      have hraised := (State.raise_eff (s.takeFab m) 0x087 (portSite i) (portMaster i) 0 4 0).same .regs rfl
      refine if_neg ?_
      rw [State.rd_congr hraised, hid]
      exact hsrc
    have hraise := State.raise_after hsends.eff (by decide) 0x087 (portSite i) (portMaster i) 0 4 0
    have hfab : ((s.takeFab m).raise 0x087 (portSite i) (portMaster i) 0 4 0).fab = (s.takeFab m).fab := (State.raise_eff ..).same .fab rfl
    have hregs : ((s.takeFab m).raise 0x087 (portSite i) (portMaster i) 0 4 0).regs = (s.takeFab m).regs := (State.raise_eff ..).same .regs rfl
    have hkeeps : Keeps (s.takeFab m) ((s.takeFab m).raise 0x087 (portSite i) (portMaster i) 0 4 0) := (State.raise_eff ..).keeps (by decide)
    refine Answers.of (exec_transitMessage m s) ((State.transit_eq hin hdst).trans ((if_pos (Or.inl hhops)).trans hlost)) ?_
    generalize (s.takeFab m).raise 0x087 (portSite i) (portMaster i) 0 4 0 = u at hraise hfab hregs hkeeps
    have hsend : Sends u (u.sendUnreach m.src m.request m.dst) := State.sendHub_sends ..
    have hfaults : (u.sendUnreach m.src m.request m.dst).faults = u.faults := hsend.eff.same .faults rfl
    refine ⟨?_, fun hroom => ?_, (hsends.lanes.trans (SameRegs.of_regs hregs)).trans hsend.lanes, (hsends.keeps.trans hkeeps).trans hsend.keeps⟩
    · exact (State.sendHub_inbox ..).trans ((congrArg FabState.inbox hfab).trans hempty)
    · rw [hfaults]
      exact hraise hroom
  case read =>
    obtain ⟨q, hread⟩ := State.remoteRead_one hin hn hopen hr hclean
    generalize hv : (s.touchChan (wordChan (s.devWord (fabWord m 0 % 2 ^ 48)))).updFab (fun f => { f with seqOut := q }) = v at hread
    have hroute : v.route m.src = some p := hv ▸ (congrFun (State.route_congr (s := s) rfl rfl) m.src).trans hr
    have hfwd := State.forward_sends v 0 (s.readAnswer m b)
    have hv1 : v.regs = s.regs ∧ v.mem.cells = s.mem.cells ∧ v.host = s.host ∧ v.flash = s.flash ∧ v.clusters = s.clusters ∧ v.parts = s.parts :=
      hv ▸ ⟨rfl, rfl, rfl, rfl, rfl, rfl⟩
    obtain ⟨hregs, hcells, hhost, hflash, hclusters, hparts⟩ := hv1
    obtain ⟨khost, kmem, kflash, kclusters, kparts⟩ := hfwd.keeps
    exact Answers.of (exec_readReq m s) hread ⟨⟨s.readAnswer m b, State.forward_carries (m := s.readAnswer m b) (show 3 ≠ 10 by decide) hroute, rfl, rfl, rfl, rfl, rfl⟩,
      (SameRegs.of_regs hregs).trans hfwd.lanes, by rw [kmem, hcells], khost.trans hhost, rfl, kflash.trans hflash, kclusters.trans hclusters,
      kparts.trans hparts⟩
  case bounds =>
    have htake := State.takeFab_eff s m
    have hempty : s.fab.inbox = [] → (s.takeFab m).regs = s.regs := fun hin => by rw [State.takeFab_of_empty hin]
    generalize s.takeFab m = u at htake hempty
    have hraise := State.raise_after htake (by decide) 0x002 (hubSite 4 0) m.master (fabWord m 0 % 2 ^ 48) 1 0
    have hregs := (State.raise_eff u 0x002 (hubSite 4 0) m.master (fabWord m 0 % 2 ^ 48) 1 0).same .regs rfl
    have hkeeps : Keeps u (u.raise 0x002 (hubSite 4 0) m.master (fabWord m 0 % 2 ^ 48) 1 0) := (State.raise_eff ..).keeps (by decide)
    generalize u.raise 0x002 (hubSite 4 0) m.master (fabWord m 0 % 2 ^ 48) 1 0 = v at hraise hregs hkeeps
    have hsend := State.sendError_sends v m.src m.request stContextFault
    have hfaults : (v.sendError m.src m.request stContextFault).faults = v.faults := hsend.eff.same .faults rfl
    exact ⟨fun hroom => by rw [hfaults]; exact hraise hroom,
      fun _ hin => (SameRegs.of_regs (Eq.trans hregs (hempty hin))).trans hsend.lanes, ((htake.keeps (by decide)).trans hkeeps).trans hsend.keeps⟩
  case rsp =>
    have hread := congrArg FabState.readData (State.takeIf_moved s fun y => y = m)
    refine ⟨congrArg (· ++ [m]) hread, fun hin => ?_, ((State.takeFab_eff s m).keeps (by decide)).trans (State.updFab_keeps ..)⟩
    rw [State.takeFab_of_empty hin]
    rfl
  case write =>
    obtain ⟨-, hlt⟩ := State.openedTo_backed (by decide) hopen
    have htake := State.takeFab_eff s m
    have hword : (s.takeFab m).devWord (fabWord m 0 % 2 ^ 48) = _ := (PortRegs.takeIf s fun y => y = m).devWord (fabWord m 0 % 2 ^ 48)
    obtain ⟨hcells, hdev, hregs, hhost, hflash⟩ := (s.takeFab m).remotePut_dev (encodeWord (leBytes 16 d.toNat)) hlt
    have hcode : (encodeWord (leBytes 16 d.toNat)).length = 18 := by rw [encodeWord_length, leBytes_length]
    rw [hword] at hcells hdev
    rw [htake.mem rfl rfl] at hcells
    refine ⟨State.readDev_one (by omega) (leBytes_length ..) ?_, fun w hw => ?_, fun hin => hregs.trans (by rw [State.takeFab_of_empty hin]),
      hhost.trans (htake.same .host rfl), hflash.trans (htake.same .flash rfl)⟩
    · rw [hcells, hdev, wordAt_putWord_same _ _ hwf hcode]
    · rw [hcells, wordAt_putWord_ne _ hwf hcode hw]
  case sram =>
    have htake := State.takeFab_eff s m
    have hbase : hubSramBase ≤ fabWord m 0 % 2 ^ 48 := by
      rw [State.openedSram, Bool.and_eq_true, Bool.and_eq_true, decide_eq_true_eq] at hopen
      exact ha ▸ hopen.1.1
    obtain ⟨hsram, hmem, hhost⟩ := (s.takeFab m).remotePut_sram (encodeWord (leBytes 16 d.toNat)) hbase
    have hcode : (encodeWord (leBytes 16 d.toNat)).length = 18 := by rw [encodeWord_length, leBytes_length]
    rw [htake.same .pkg rfl] at hsram
    rw [hsram, ha]
    exact ⟨wordAt_putWord_same _ _ hwf hcode, fun w hw => wordAt_putWord_ne _ hwf hcode hw, hmem.trans (htake.mem rfl rfl),
      hhost.trans (htake.same .host rfl)⟩
  case usage =>
    have htake := State.takeFab_eff s m
    have hempty : s.fab.inbox = [] → (s.takeFab m).regs = s.regs := fun hin => by rw [State.takeFab_of_empty hin]
    have haccts : (s.takeFab m).accts = s.accts := htake.same .accts rfl
    have hclient : bitsOf (fabWord m 0) 27 16 < 4096 := by
      rw [bitsOf_eq]
      exact Nat.mod_lt _ (by decide)
    generalize s.takeFab m = u at htake hempty haccts
    unfold State.charge
    rw [if_pos hclient, haccts]
    refine ⟨fun a ha => ?_, hempty, htake.keeps (by decide)⟩
    rw [ha]
    exact aget_aput_same ..

end

section
/-! Attestation (R410 to R414). -/

namespace Sys2Proof.Machine

theorem exec_getVersion (s : State) : exec .getVersion s = .next s.getVersion := rfl
theorem exec_getCapabilities (s : State) : exec .getCapabilities s = .next s.getCapabilities := rfl
theorem exec_negotiateAlgorithms (a h : Nat) (s : State) : exec (.negotiateAlgorithms a h) s = .next (s.negotiate a h) := rfl
theorem exec_getDigests (i : Nat) (s : State) : exec (.getDigests i) s = .next (s.getDigests i) := rfl
theorem exec_getCertificate (i o n : Nat) (key : List Byte) (s : State) :
    exec (.getCertificate i o n key) s = .next (s.getCertificate i o n key) := rfl
theorem exec_challenge (i : Nat) (nonce : List Byte) (s : State) : exec (.challenge i nonce) s = .next (s.challenge i nonce) := rfl
theorem exec_getMeasurements (i : Nat) (nonce : List Byte) (s : State) :
    exec (.getMeasurements i nonce) s = .next (s.getMeasurements i nonce) := rfl
theorem exec_keyExchange (n : Nat) (dhe : List Byte) (s : State) : exec (.keyExchange n dhe) s = .next (s.keyExchange n dhe) := rfl
theorem exec_finish (n : Nat) (s : State) : exec (.finish n) s = .next (s.finish n) := rfl
theorem exec_endSession (n : Nat) (s : State) : exec (.endSession n) s = .next (s.endSession n) := rfl

section
variable {s : State} (hready : s.rd R.hstStatState 0 ≠ 0)

include hready

/-- Once start-up has ended a management request is taken. -/
theorem State.managed_of (f : State → State) : s.managed f = f s := if_neg hready

/-- An SPDM request is taken once the algorithms are negotiated. -/
theorem State.spdm_of (hneg : 3 ≤ s.sec.negotiated) (f : State → State) : s.spdm f = f s :=
  (State.managed_of hready _).trans (if_neg (Nat.not_lt.2 hneg))

end

/-- What the responder keeps, `x`, in place. -/
theorem State.putSec_keeps (s : State) (x : SecState) : (s.putSec x).regs = s.regs ∧ Keeps s (s.putSec x) := ⟨rfl, rfl, rfl, rfl, rfl, rfl⟩

theorem mem_sessions_finished {l : List (Nat × Bool)} {n : Nat} (h : (n, false) ∈ l) :
    (n, true) ∈ l.map fun e => if e.1 = n then (n, true) else e :=
  List.mem_map.2 ⟨_, h, if_pos rfl⟩

theorem not_mem_sessions_ended (l : List (Nat × Bool)) (n : Nat) (b : Bool) : (n, b) ∉ l.filter fun e => e.1 ≠ n := fun h =>
  of_decide_eq_true (List.mem_filter.1 h).2 rfl

end Sys2Proof.Machine

open Sys2Proof.Machine

/-- Settles O38: outside start-up, and with the algorithms negotiated where they are needed, each request is its answer. -/
theorem attestationCommandsComplete : Obligations.AttestationCommandsComplete := by
  unfold Obligations.AttestationCommandsComplete
  refine ⟨fun s hready => Answers.of (exec_getVersion s) (State.managed_of hready _) rfl,
    fun s hready hneg => Answers.of (exec_getCapabilities s) ((State.managed_of hready _).trans (if_neg (by omega))) rfl,
    fun s hready hneg => Answers.of (exec_negotiateAlgorithms 0 0 s)
      ((State.managed_of hready _).trans ((if_neg (by omega)).trans (if_neg (by simp)))) rfl,
    fun s hready hneg => Answers.of (exec_getDigests 0 s) ((State.spdm_of hready hneg _).trans (if_pos rfl)) rfl,
    fun s o n hready hneg => Answers.of (exec_getCertificate 0 o n s.boot.pub s)
      ((State.spdm_of hready hneg _).trans ((if_neg (by simp)).trans (if_neg (by simp)))) rfl,
    fun s o n key hready hneg hkey => Answers.of (exec_getCertificate 0 o n key s)
      ((State.spdm_of hready hneg _).trans ((if_neg (by simp)).trans (if_pos hkey))) rfl,
    fun s nonce hready hneg => Answers.of (exec_challenge 0 nonce s) ((State.spdm_of hready hneg _).trans (if_neg (by simp))) rfl,
    fun s i nonce hready hneg hlo hhi => Answers.of (exec_getMeasurements i nonce s)
      ((State.spdm_of hready hneg _).trans (if_neg (by omega))) ?measure,
    fun s n dhe hready hneg hnew => Answers.of (exec_keyExchange n dhe s) ((State.spdm_of hready hneg _).trans (if_neg ?fresh)) rfl,
    fun s n hready hneg hopen => Answers.of (exec_finish n s) ((State.spdm_of hready hneg _).trans (if_pos hopen))
      ⟨mem_sessions_finished hopen, rfl, State.putSec_keeps s _⟩,
    fun s n hready hneg hopen => Answers.of (exec_endSession n s) ((State.spdm_of hready hneg _).trans (if_pos hopen))
      ⟨not_mem_sessions_ended _ n, rfl, State.putSec_keeps s _⟩⟩
  case measure =>
    dsimp only
    rw [if_neg (by omega), if_neg (by omega)]
    rfl
  case fresh =>
    intro h
    obtain ⟨⟨m, b⟩, hmem, hm⟩ := List.any_eq_true.1 h
    exact hnew b (of_decide_eq_true hm ▸ hmem)

end

section
/-! Result digests: batches, their signing and OP_DIGEST_READ (R415 to R417). -/

namespace Sys2Proof.Machine

theorem exec_batchCloseTimeout (s : State) : exec .batchCloseTimeout s = .next s.batchTimeout := rfl
theorem exec_batchSigned (s : State) : exec .batchSigned s = .next s.batchSigned := rfl
theorem exec_opDigestRead (c q : Nat) (s : State) : exec (.opDigestRead c q) s = .next (s.digestRead (c, q)) := rfl

/-! ### Batches -/

theorem State.updSec_keeps (s : State) (f : SecState → SecState) : Keeps s (s.updSec f) := ⟨rfl, rfl, rfl, rfl, rfl⟩

theorem State.closeBatch_eq {s : State} (h : s.sec.openBatch ≠ []) : s.closeBatch =
    ((s.updSec fun x => { x with openBatch := [], closed := x.closed ++ [⟨s.rd R.secBatchSeq 0, s.now, s.sec.openBatch, none⟩] }).inc
      R.secBatchSeq 0 1).mirrorBatch :=
  if_neg (by rwa [List.isEmpty_iff])

/-- The mirror of the open batch leaves the number of the next, and shows an empty one without leaves. -/
theorem State.mirrorBatch_fields {s : State} (hw : Registers.wf s.regs = true) (h : s.sec.openBatch = []) :
    s.mirrorBatch.rd R.secBatchSeq 0 = s.rd R.secBatchSeq 0 ∧ s.mirrorBatch.rd R.secBatchLeaves 0 = 0 := by
  unfold State.mirrorBatch
  rw [h]
  simp (disch := first | decide | with_reducible apply_rules [State.wr_regs_wf, hw]) only [State.rd_wr_same, State.rd_wr_sibling]
  exact ⟨trivial, rfl⟩

/-- A store within its 16 MiB loses no record. -/
theorem State.trimStore_within {s : State} (h : s.sec.storeBytes ≤ 2 ^ 24) (n : Nat) : s.trimStore n = s := by
  cases n with
  | zero => rfl
  | succ n => exact if_pos h

/-- Batch `b` once it is signed. -/
def State.signedBatch (s : State) (b : Batch) : Batch := { b with signature := some (Config.falconSign s.boot.pub (s.batchHeader b) s.freeCtr) }

/-- The closed batches, the signed ones and the store once the oldest, `b`, is signed and `rest` are left. -/
def State.secSigned (s : State) (b : Batch) (rest : List Batch) : SecState :=
  { s.sec with
    closed := rest
    signed := s.sec.signed ++ [s.signedBatch b]
    store := s.sec.store ++ (List.range b.leaves.length).map fun i => (b.seq, i)
    storeBytes := s.sec.storeBytes + (b.leaves.map fun y => y.record.length).sum }

/-- Of the signed batches those of which the store still holds a record. -/
def SecState.stored (x : SecState) : SecState := { x with signed := x.signed.filter fun y => x.store.any fun e => e.1 = y.seq }

/-- A batch with a leaf is held once it is signed. -/
theorem State.mem_stored_secSigned {s : State} {b : Batch} (rest : List Batch) (h : b.leaves ≠ []) :
    s.signedBatch b ∈ (s.secSigned b rest).stored.signed := by
  have hrecord : (b.seq, 0) ∈ (s.secSigned b rest).store :=
    List.mem_append_right _ (List.mem_map_of_mem (List.mem_range.2 (List.length_pos_iff.2 h)))
  exact List.mem_filter.2 ⟨List.mem_append_right _ (List.mem_singleton_self _), List.any_eq_true.2 ⟨_, hrecord, decide_eq_true rfl⟩⟩

/-- While no request waits for a proof, the signing of a batch fills the store, drops the batches that it holds no more, and mirrors both. -/
theorem State.batchSigned_fields {s : State} {b : Batch} {rest : List Batch} (hclosed : s.sec.closed = b :: rest) (hreads : s.sec.reads = [])
    (hbytes : s.sec.storeBytes + (b.leaves.map fun y => y.record.length).sum ≤ 2 ^ 24) :
    s.batchSigned.sec = (s.secSigned b rest).stored ∧ s.batchSigned.freeCtr = s.freeCtr + 1 ∧ Eff 137438953482 s s.batchSigned := by
  unfold State.batchSigned
  simp -zeta only [hclosed]
  extract_lets r b' u v w whole x ready y
  have hu : u.sec = s.secSigned b rest ∧ u.freeCtr = s.freeCtr + 1 := ⟨rfl, rfl⟩
  have heu : Eff 137438953474 s u := (State.updSec_eff ..).step rfl ((State.sign_eff ..).mono rfl)
  have hv : Eff 8 u v := by
    have hinc : (u.inc R.secDstoreRecords 0 b'.leaves.length).sec = u.sec := (State.inc_eff ..).same .sec rfl
    unfold v
    rw [State.trimStore_within (by rw [hinc, hu.1]; exact hbytes)]
    exact (State.mirrorBatch_eff ..).step rfl (State.inc_eff ..)
  have hw : w.sec = u.sec.stored := congrArg SecState.stored (hv.same .sec rfl)
  have hx : Eff 8 w x := State.wr_eff ..
  have hxreads : x.sec.reads = [] := by
    rw [show x.sec = w.sec from hx.same .sec rfl, hw, hu.1]
    exact hreads
  have hready : ready = [] := by
    unfold ready
    rw [hxreads, List.filter_nil]
  have hy : y.sec = x.sec := by
    show { x.sec with reads := x.sec.reads.filter fun e => decide (e ∉ ready) } = x.sec
    rw [hxreads, List.filter_nil, ← hxreads]
  have heff : Eff 137438953480 u y :=
    (State.updSec_eff ..).step rfl (hx.step rfl ((State.updSec_eff ..).step rfl (hv.mono rfl)))
  rw [hready, List.foldl_nil]
  refine ⟨hy.trans ((hx.same .sec rfl).trans (hw.trans (congrArg _ hu.1))), (heff.same .freeCtr rfl).trans hu.2, ?_⟩
  exact heff.step rfl (heu.mono rfl)

/-! ### OP_DIGEST_READ -/

section
variable {s : State} {c q : Nat} {r : Req} (h : s.Holds (c, q) 0x31 r)

include h

/-- A leaf that is not signed yet is waited for. -/
theorem State.digestRead_waits (hwait : s.leafWaits c (r.inl 0 4) = true) : s.digestRead (c, q) =
    (s.updReq (c, q) fun r => { r with started := true }).updSec fun x =>
      { x with reads := if (c, q, r.inl 0 4) ∈ x.reads then x.reads else x.reads ++ [(c, q, r.inl 0 4)] } := by
  obtain ⟨hq, hop, he, -⟩ := h
  unfold State.digestRead
  simp [hq, hop, he, hwait]

section
variable (hwait : s.leafWaits c (r.inl 0 4) = false) (hcomes : s.digestComes c (r.inl 0 4) = false)

include hwait hcomes

/-- Where no leaf comes the newest proof is the answer: one that fits is written to the output. -/
theorem State.digestRead_proof {b : Batch} {i : Nat} {x : Leaf} (hproof : s.findProof c (r.inl 0 4) = some (b, i, x))
    (hfits : (s.proofBytes b i x).length ≤ r.d 28 4) :
    s.digestRead (c, q) = (s.putOut (c, q) 0 (s.proofBytes b i x)).endReq (c, q) stOk (s.proofBytes b i x).length 0 := by
  obtain ⟨hq, hop, he, -⟩ := h
  simp [State.digestRead, hq, hop, he, hwait, hcomes, hproof, State.digestDone, Nat.not_lt.2 hfits]

theorem State.digestRead_none (hproof : s.findProof c (r.inl 0 4) = none) : s.digestRead (c, q) = s.endReq (c, q) stState 0 0 := by
  obtain ⟨hq, hop, he, -⟩ := h
  simp [State.digestRead, hq, hop, he, hwait, hcomes, hproof]

end

end

theorem State.proofBytes_ne_nil (s : State) (b : Batch) (i : Nat) (x : Leaf) : s.proofBytes b i x ≠ [] := by
  have hreq : leBytes 4 x.req ≠ [] := List.length_pos_iff.1 (by rw [leBytes_length]; decide)
  simp [State.proofBytes, hreq]

/-- A request is added to a list once. -/
theorem mem_added {α : Type} (a : α) (l : List α) [Decidable (a ∈ l)] : a ∈ if a ∈ l then l else l ++ [a] := by
  split
  · assumption
  · exact List.mem_append_right _ (List.mem_singleton_self a)

/-- A request that writes its output and ends has its entry, and its write among those to the host. -/
theorem State.putOut_endReq {s : State} {k : ReqKey} {op : Nat} {r : Req} (h : s.Holds k op r) (hdev : isDev (r.d 32 8) = false)
    (hats : s.host.ats = []) {bs : List Byte} (hne : bs ≠ []) {st : Nat} (hst : st < 16) (n d : Nat) :
    Ends s ((s.putOut k 0 bs).endReq k st n d) k st n d ∧
      (∃ w ∈ ((s.putOut k 0 bs).endReq k st n d).host.dma, w.addr = r.d 32 8 ∧ w.bytes = bs) ∧
      ((s.putOut k 0 bs).endReq k st n d).clusters = s.clusters := by
  obtain ⟨hend, hcq, w, hw, haddr, hbytes⟩ := State.putOut_output h hdev hats hne
  have hclusters := (State.putOut_host_eff h hdev hats hne).same .clusters rfl
  exact ⟨(State.endReq_ends hend _ _ _).of_cq hcq, ⟨w, (State.endReq_dma hend hst _ _).symm ▸ hw, haddr, hbytes⟩,
    ((State.endReq_eff ..).same .clusters rfl).trans hclusters⟩

end Sys2Proof.Machine

open Sys2Proof.Machine

/-- Settles O39: batches close and are signed in order, and a read takes the newest proof. -/
theorem digestCommandsComplete : Obligations.DigestCommandsComplete := by
  unfold Obligations.DigestCommandsComplete
  refine ⟨fun s hw hopen hat hseq => ?close, fun s b rest hclosed hleaves hreads hbytes => ?sign,
    fun s c q i r b x h hwait hcomes hproof hfits hdev hats => Answers.of (exec_opDigestRead c q s)
      (State.digestRead_proof h hwait hcomes hproof hfits) (State.putOut_endReq h hdev hats (State.proofBytes_ne_nil s b i x) (by decide) _ _),
    fun s c q r h hwait => Answers.of (exec_opDigestRead c q s) (State.digestRead_waits h hwait) ⟨mem_added (c, q, r.inl 0 4) s.sec.reads, rfl, rfl, rfl⟩,
    fun s c q r h hwait hcomes hproof => Answers.of (exec_opDigestRead c q s) (State.digestRead_none h hwait hcomes hproof)
      ⟨State.endReq_ends h _ _ _, (State.endReq_eff ..).same .clusters rfl⟩⟩
  case close =>
    have hdue : s.batchTimeout = s.closeBatch := if_pos ⟨by simpa using hopen, by omega⟩
    refine Answers.of (exec_batchCloseTimeout s) (hdue.trans (State.closeBatch_eq hopen)) ?_
    have hseq0 : (s.updSec fun x => { x with openBatch := [], closed := x.closed ++ [⟨s.rd R.secBatchSeq 0, s.now, s.sec.openBatch, none⟩] }).rd
        R.secBatchSeq 0 = s.rd R.secBatchSeq 0 := id rfl
    have hwf : Registers.wf (s.updSec fun x =>
      { x with openBatch := [], closed := x.closed ++ [⟨s.rd R.secBatchSeq 0, s.now, s.sec.openBatch, none⟩] }).regs = true := hw
    have hsec : (s.updSec fun x => { x with openBatch := [], closed := x.closed ++ [⟨s.rd R.secBatchSeq 0, s.now, s.sec.openBatch, none⟩] }).sec =
      { s.sec with openBatch := [], closed := s.sec.closed ++ [⟨s.rd R.secBatchSeq 0, s.now, s.sec.openBatch, none⟩] } := rfl
    have hkeeps : Keeps s (s.updSec fun x =>
      { x with openBatch := [], closed := x.closed ++ [⟨s.rd R.secBatchSeq 0, s.now, s.sec.openBatch, none⟩] }) := State.updSec_keeps ..
    generalize (s.updSec fun x =>
      { x with openBatch := [], closed := x.closed ++ [⟨s.rd R.secBatchSeq 0, s.now, s.sec.openBatch, none⟩] }) = u at hseq0 hwf hsec hkeeps
    have heff : Eff 8 u (u.inc R.secBatchSeq 0 1).mirrorBatch := (State.mirrorBatch_eff ..).step rfl (State.inc_eff ..)
    have hinc : (u.inc R.secBatchSeq 0 1).rd R.secBatchSeq 0 = s.rd R.secBatchSeq 0 + 1 :=
      (State.rd_wr_same hwf _ _ _ (by decide)).trans (by rw [hseq0]; exact Nat.mod_eq_of_lt hseq)
    have hempty : (u.inc R.secBatchSeq 0 1).sec.openBatch = [] := by
      rw [show (u.inc R.secBatchSeq 0 1).sec = u.sec from (State.inc_eff ..).same .sec rfl, hsec]
    obtain ⟨hmirror, hleaves⟩ := State.mirrorBatch_fields (s := u.inc R.secBatchSeq 0 1) (State.wr_regs_wf hwf ..) hempty
    rw [show (u.inc R.secBatchSeq 0 1).mirrorBatch.sec = u.sec from heff.same .sec rfl, hsec]
    exact ⟨rfl, rfl, hmirror.trans hinc, hleaves, hkeeps.trans (heff.keeps (by decide))⟩
  case sign =>
    obtain ⟨hsec, hctr, heff⟩ := State.batchSigned_fields hclosed hreads hbytes
    refine Answers.of_exec (exec_batchSigned s) ⟨?_, hctr, ?_, ?_, heff.keeps (by decide)⟩
    all_goals rw [hsec]
    · rfl
    · exact State.mem_stored_secSigned rest hleaves
    · rfl

end

section
/-! Firmware update (R418 to R421). -/

namespace Sys2Proof.Machine

theorem exec_queryDeviceIdentifiers (s : State) : exec .queryDeviceIdentifiers s = .next s.queryIds := rfl
theorem exec_getFirmwareParameters (s : State) : exec .getFirmwareParameters s = .next s.fwParams := rfl
theorem exec_requestUpdate (c : Nat) (d : List Byte) (s : State) : exec (.requestUpdate c d) s = .next (s.requestUpdate c d) := rfl
theorem exec_passComponentTable (c v : Nat) (s : State) : exec (.passComponentTable c v) s = .next (s.passTable c v) := rfl
theorem exec_updateComponent (c v : Nat) (s : State) : exec (.updateComponent c v) s = .next (s.updateComponent c v) := rfl
theorem exec_firmwareDataPiece (p : Piece) (s : State) : exec (.firmwareDataPiece p) s = .next (s.dataPiece p) := rfl
theorem exec_activateFirmware (s : State) : exec .activateFirmware s = .next s.activateFw := rfl
theorem exec_getStatus (s : State) : exec .getStatus s = .next s.pldmStatus := rfl
theorem exec_cancelUpdateComponent (s : State) : exec .cancelUpdateComponent s = .next s.cancelComponent := rfl
theorem exec_cancelUpdate (s : State) : exec .cancelUpdate s = .next s.cancelUpdate := rfl

/-! ### The fields of UPD_STAT -/

theorem compState_fits (c : Nat) : (compState c).fits = true := by
  unfold compState
  split <;> rfl

theorem compNext_fits (c : Nat) : (compNext c).fits = true := by
  unfold compNext
  split <;> rfl

theorem compState_width (c : Nat) : (compState c).width = 4 := by
  unfold compState
  split <;> rfl

theorem compNext_width (c : Nat) : (compNext c).width = 16 := by
  unfold compNext
  split <;> rfl

theorem compState_sibling_compNext (c : Nat) : (compState c).sibling (compNext c) = true := by
  unfold compState compNext
  split <;> rfl

section
variable {s : State} (hw : Registers.wf s.regs = true) (c : Nat)

include hw

theorem State.rd_wr_compState (v : Nat) (hv : v < 16) : (s.wr (compState c) 0 v).rd (compState c) 0 = v :=
  (State.rd_wr_same hw _ _ _ (compState_fits c)).trans (by rw [compState_width]; exact Nat.mod_eq_of_lt hv)

theorem State.rd_wr_compNext (v : Nat) (hv : v < 2 ^ 16) : (s.wr (compNext c) 0 v).rd (compNext c) 0 = v :=
  (State.rd_wr_same hw _ _ _ (compNext_fits c)).trans (by rw [compNext_width]; exact Nat.mod_eq_of_lt hv)

theorem State.rd_compNext_wr_compState (v : Nat) : (s.wr (compState c) 0 v).rd (compNext c) 0 = s.rd (compNext c) 0 :=
  State.rd_wr_sibling hw 0 v (compState_sibling_compNext c)

end

/-! ### The requests -/

section
variable {s : State} (hready : s.rd R.hstStatState 0 ≠ 0)

include hready

/-- Once start-up has ended a PLDM request is taken. -/
theorem State.pldm_of (f : State → State) : s.pldm f = f s := if_neg fun h => hready h.1

section
variable {c : Nat} (hc : c ∈ [1, 2]) (hidle : (s.upd.checked && s.eligible c) = false) {d : List Byte}

/-- The state with an update open whose component `c` stands at piece `n` with `data` kept. -/
def State.updateOpened (s : State) (c : Nat) (d data : List Byte) (n : Nat) : State :=
  ((s.updUpd fun u => { u with session := true, comps := aput u.comps c ⟨d, 0, false, data, 0⟩ }).wr (compNext c) 0 n).wr (compState c) 0 usIdle

include hc hidle

theorem State.requestUpdate_fresh (hnone : s.progressOf c = none) : s.requestUpdate c d =
    ((s.updateOpened c d [] 0).updNor fun n => { n with slots := n.slots.filter fun x => x.component ≠ c }).answer (.pldmAccept 0 0) := by
  have hknown : ¬ (c ≠ 1 ∧ c ≠ 2) := by simp at hc; omega
  rw [State.requestUpdate, State.pldm_of hready, if_neg hknown, if_neg (by rw [hidle]; exact Bool.false_ne_true), hnone]
  rfl

theorem State.requestUpdate_resumed {n : Nat} (hprogress : s.progressOf c = some (d, n)) (hn : 0 < n) :
    s.requestUpdate c d = (s.updateOpened c d (s.slotData c) n).answer (.pldmAccept 0 n) := by
  have hknown : ¬ (c ≠ 1 ∧ c ≠ 2) := by simp at hc; omega
  rw [State.requestUpdate, State.pldm_of hready, if_neg hknown, if_neg (by rw [hidle]; exact Bool.false_ne_true), hprogress]
  simp only [if_true, hn.ne', if_false]
  rfl

end

section
variable {c : Nat} {x : CompUpd} (hx : aget s.upd.comps c = some x)

/-- The state with a component changed. -/
def State.modComp (s : State) (c : Nat) (f : CompUpd → CompUpd) : State := s.updUpd fun u => { u with comps := amod u.comps c f }

include hx

theorem State.passTable_eq (hsession : s.upd.session = true) (svn : Nat) :
    s.passTable c svn = (s.modComp c fun x => { x with svn := svn }).answer (.pldmAccept 1 0) := by
  rw [State.passTable, State.pldm_of hready, hsession, hx]
  rfl

/-- The state with a component's transfer running. -/
def State.receiving (s : State) (c svn : Nat) : State :=
  (s.updUpd fun u => { u with writing := decide (c = 1) || u.writing, comps := amod u.comps c fun x =>
    { x with svn := svn, active := true, failures := 0 } }).wr (compState c) 0 usReceiving

theorem State.updateComponent_asks (hw : Registers.wf s.regs = true) (hsession : s.upd.session = true) (svn : Nat)
    (hmore : s.rd (compNext c) 0 ≠ imagePieces x.data) :
    s.updateComponent c svn = ((s.receiving c svn).answer (.pldmAccept 2 0)).answer (.requestData c (s.rd (compNext c) 0)) := by
  have hnext : ((s.receiving c svn).answer (.pldmAccept 2 0)).rd (compNext c) 0 = s.rd (compNext c) 0 :=
    State.rd_compNext_wr_compState (s := s.updUpd fun u => { u with writing := decide (c = 1) || u.writing, comps := amod u.comps c fun x =>
      { x with svn := svn, active := true, failures := 0 } }) hw c usReceiving
  rw [State.updateComponent, State.pldm_of hready, hsession, hx]
  dsimp only
  rw [show (!true) = false from rfl, if_neg Bool.false_ne_true]
  change (if ((s.receiving c svn).answer (.pldmAccept 2 0)).rd (compNext c) 0 = imagePieces x.data then _ else
    ((s.receiving c svn).answer (.pldmAccept 2 0)).answer (.requestData c (((s.receiving c svn).answer (.pldmAccept 2 0)).rd (compNext c) 0))) = _
  rw [hnext, if_neg hmore]

end

section
variable {p : Piece} {x : CompUpd} (hx : aget s.upd.comps p.component = some x) (hactive : x.active = true)
  (hindex : p.index = s.rd (compNext p.component) 0)

/-- The state once a piece has been taken: in the component, in the progress area and in the slot. -/
def State.taken (s : State) (p : Piece) (x : CompUpd) : State :=
  ((s.modComp p.component fun y => { y with data := x.data ++ padTo 4096 p.bytes, failures := 0 }).updNor fun n => { n with
      progress := (if 2048 ≤ n.progress.length then n.progress.drop 2047 else n.progress) ++ [(p.component, x.digest, p.index + 1)]
      slots := n.slots.filter (fun y => y.component ≠ p.component) ++
        [⟨p.component, s.targetSlot p.component, x.data ++ padTo 4096 p.bytes⟩] }).wr (compNext p.component) 0 (p.index + 1)

include hx hactive hindex

theorem State.dataPiece_good (hok : pieceOk x.digest p.index (x.data ++ padTo 4096 p.bytes) p.bytes = true)
    (hmore : p.index + 1 ≠ imagePieces (x.data ++ padTo 4096 p.bytes)) :
    s.dataPiece p = (s.taken p x).answer (.requestData p.component (p.index + 1)) := by
  rw [State.dataPiece, State.pldm_of hready, hx]
  dsimp only
  rw [if_neg (by simp [hactive, hindex]), if_pos hok, ← hindex, if_neg hmore]
  rfl

theorem State.dataPiece_bad (hfail : x.failures < 3) (hbad : pieceOk x.digest p.index (x.data ++ padTo 4096 p.bytes) p.bytes = false) :
    s.dataPiece p = (s.modComp p.component fun y => { y with failures := y.failures + 1 }).answer (.requestData p.component p.index) := by
  rw [State.dataPiece, State.pldm_of hready, hx]
  dsimp only
  rw [if_neg (by simp [hactive, hindex]), if_neg (by rw [hbad]; exact Bool.false_ne_true), if_neg hfail.ne, ← hindex]
  rfl

end

end

/-- An answer is added to those sent, and changes nothing else. -/
theorem State.answer_fields (s : State) (a : MgmtAnswer) : (s.answer a).sec.answers = s.sec.answers ++ [a] ∧ (s.answer a).upd = s.upd ∧
    (s.answer a).nor = s.nor ∧ (s.answer a).regs = s.regs ∧ Keeps s (s.answer a) := ⟨rfl, rfl, rfl, rfl, rfl, rfl, rfl, rfl, rfl⟩

/-- An update that is opened stands at its next piece, and idle. -/
theorem State.updateOpened_fields {s : State} (hw : Registers.wf s.regs = true) (c : Nat) (d data : List Byte) {n : Nat} (hn : n < 2 ^ 16) :
    (s.updateOpened c d data n).upd.session = true ∧ aget (s.updateOpened c d data n).upd.comps c = some ⟨d, 0, false, data, 0⟩ ∧
      (s.updateOpened c d data n).rd (compNext c) 0 = n ∧ (s.updateOpened c d data n).rd (compState c) 0 = usIdle ∧
      (s.updateOpened c d data n).sec = s.sec ∧ (s.updateOpened c d data n).nor = s.nor ∧ Keeps s (s.updateOpened c d data n) := by
  have hopen : Registers.wf (s.updUpd fun u => { u with session := true, comps := aput u.comps c ⟨d, 0, false, data, 0⟩ }).regs = true := hw
  have hnext := (State.rd_compNext_wr_compState (State.wr_regs_wf hopen (compNext c) 0 n) c usIdle).trans (State.rd_wr_compNext hopen c n hn)
  exact ⟨rfl, aget_aput_same .., hnext, State.rd_wr_compState (State.wr_regs_wf hopen ..) c usIdle (by decide), rfl, rfl, rfl, rfl, rfl, rfl, rfl⟩

/-- A transfer that starts is receiving. -/
theorem State.receiving_fields {s : State} (hw : Registers.wf s.regs = true) {c : Nat} {x : CompUpd} (hx : aget s.upd.comps c = some x) (svn : Nat) :
    aget (s.receiving c svn).upd.comps c = some { x with svn := svn, active := true, failures := 0 } ∧
      (s.receiving c svn).rd (compState c) 0 = usReceiving ∧ (s.receiving c svn).sec = s.sec ∧ Keeps s (s.receiving c svn) := by
  have hcomp : aget (amod s.upd.comps c fun x => { x with svn := svn, active := true, failures := 0 }) c = _ := aget_amod_same ..
  rw [hx] at hcomp
  have hopen : Registers.wf (s.updUpd fun u => { u with writing := decide (c = 1) || u.writing, comps := amod u.comps c fun x =>
    { x with svn := svn, active := true, failures := 0 } }).regs = true := hw
  exact ⟨hcomp, State.rd_wr_compState hopen c usReceiving (by decide), rfl, rfl, rfl, rfl, rfl, rfl⟩

theorem State.modComp_comp {s : State} {c : Nat} {x : CompUpd} (hx : aget s.upd.comps c = some x) (f : CompUpd → CompUpd) :
    aget (s.modComp c f).upd.comps c = some (f x) := by
  change aget (amod s.upd.comps c f) c = _
  rw [aget_amod_same, hx]
  rfl

/-- A piece that is taken stands in the component, and in the progress area. -/
theorem State.taken_fields {s : State} (hw : Registers.wf s.regs = true) {p : Piece} {x : CompUpd} (hx : aget s.upd.comps p.component = some x)
    (hp : p.index + 1 < 2 ^ 16) :
    aget (s.taken p x).upd.comps p.component = some { x with data := x.data ++ padTo 4096 p.bytes, failures := 0 } ∧
      (s.taken p x).rd (compNext p.component) 0 = p.index + 1 ∧ (p.component, x.digest, p.index + 1) ∈ (s.taken p x).nor.progress ∧
      (s.taken p x).sec = s.sec ∧ Keeps s (s.taken p x) :=
  ⟨State.modComp_comp hx _, State.rd_wr_compNext hw p.component (p.index + 1) hp, List.mem_append_right _ (List.mem_singleton_self _), rfl, rfl, rfl,
    rfl, rfl, rfl⟩

/-! ### The end of transfers -/

/-- A transfer that runs breaks off. -/
def State.idleTransfer (s : State) (f : Fld) : State := if s.rd f 0 = usReceiving then s.wr f 0 usIdle else s

theorem State.idleTransfers_eq (s : State) : s.idleTransfers = (s.idleTransfer R.updStatFwState).idleTransfer R.updStatCfgState := id rfl

section
variable {s : State} (hw : Registers.wf s.regs = true)

include hw

theorem State.idleTransfer_wf (f : Fld) : Registers.wf (s.idleTransfer f).regs = true := by
  unfold State.idleTransfer
  split
  · exact State.wr_regs_wf hw ..
  · exact hw

theorem State.idleTransfer_sibling {f g : Fld} (h : f.sibling g = true) : (s.idleTransfer f).rd g 0 = s.rd g 0 := by
  unfold State.idleTransfer
  split
  · exact State.rd_wr_sibling hw 0 _ h
  · rfl

theorem State.idleTransfer_same {f : Fld} (hf : f.fits = true) : (s.idleTransfer f).rd f 0 = if s.rd f 0 = usReceiving then usIdle else s.rd f 0 := by
  unfold State.idleTransfer
  split
  · exact (State.rd_wr_same hw _ _ _ hf).trans (Nat.zero_mod _)
  · rfl

/-- Of a component's state the break-off changes nothing but that it is no more receiving. -/
theorem State.idleTransfers_compState (c : Nat) :
    s.idleTransfers.rd (compState c) 0 = if s.rd (compState c) 0 = usReceiving then usIdle else s.rd (compState c) 0 := by
  have hw' := State.idleTransfer_wf hw R.updStatFwState
  rw [State.idleTransfers_eq]
  unfold compState
  split
  · rw [State.idleTransfer_sibling hw' (by decide), State.idleTransfer_same hw (by decide)]
  · rw [State.idleTransfer_same hw' (by decide), State.idleTransfer_sibling hw (by decide)]

end

/-- The end of the transfers leaves the update open. -/
theorem State.stopTransfers_session (s : State) : s.stopTransfers.upd.session = s.upd.session := by
  have hupd : s.idleTransfers.upd = s.upd := (State.idleTransfers_eff s).same .upd rfl
  have hsession := congrArg UpdState.session hupd
  exact hsession

end Sys2Proof.Machine

end

section
/-! Scheduled activation (R422 to R425). -/

namespace Sys2Proof.Machine

theorem exec_activationCheck (s : State) : exec .activationCheck s = .next s.activationCheck := rfl
theorem exec_activationStart (s : State) : exec .activationStart s = .next s.activationStart := rfl
theorem exec_activationDrainEnd (ok : Bool) (s : State) : exec (.activationDrainEnd ok) s = .next (s.drainEnd ok) := rfl

/-! ### The warning and the start -/

/-- The only client is warned. -/
theorem State.eventAll_one {s : State} {c : Nat} {x : Ring} (h : s.host.rings = [(c, x)]) (st n : Nat) :
    ∃ e, (s.eventAll st n).host.cq = s.host.cq ++ [e] ∧ e.client = c ∧ e.event = true ∧ e.status = st := by
  have hring : (s.ring c).isSome = true := by
    rw [State.ring, h, aget, if_pos rfl]
    rfl
  unfold State.eventAll
  rw [h]
  simp only [List.map_cons, List.map_nil, List.foldl_cons, List.foldl_nil, State.produce, hring, if_true]
  exact ⟨_, rfl, rfl, rfl, rfl⟩

theorem State.activationCheck_eq {s : State} (hready : s.rd R.hstStatState 0 = hsReady) (hnew : s.upd.checked = false)
    (hlo : s.now < s.rd R.updActivateAtTime 0) (hhi : s.rd R.updActivateAtTime 0 ≤ s.now + 5 * 10 ^ 9) (hfw : s.eligible 1 = true) :
    s.activationCheck = (s.updUpd fun u => { u with checked := true }).eventAll stActivationPending (s.rd R.updActivateAtTime 0 / 1000 % 2 ^ 32) := by
  refine if_pos ⟨by omega, hready, by rw [hnew]; rfl, by omega, hlo, Or.inl hfw⟩

theorem State.closeBatch_openBatch (s : State) : s.closeBatch.sec.openBatch = [] := by
  by_cases h : s.sec.openBatch = []
  · rw [State.closeBatch, if_pos (List.isEmpty_iff.2 h), h]
  · rw [State.closeBatch_eq h, show (State.mirrorBatch _).sec = _ from (State.mirrorBatch_eff ..).same .sec rfl,
      show (State.inc _ R.secBatchSeq 0 1).sec = _ from (State.inc_eff ..).same .sec rfl]
    rfl

/-- Every request in flight is marked to end, and the open batch closes. -/
theorem State.activationStart_eq {s : State} (hready : s.rd R.hstStatState 0 = hsReady) (hchecked : s.upd.checked = true)
    (hset : s.rd R.updActivateAtTime 0 ≠ 0) (hdue : s.rd R.updActivateAtTime 0 ≤ s.now) (hnew : s.upd.draining = none) :
    ∃ u, Eff 1108083614552 (s.updUpd fun u => { u with draining := some (s.rd R.updActivateAtTime 0) }) u ∧ s.activationStart = u.closeBatch := by
  refine ⟨_, Eff.foldl (l := s.host.reqs) (fun s r => State.cancelReq_eff s (r.client, r.id)) (Eff.refl ..), ?_⟩
  have hgo : ¬ (s.rd R.updActivateAtTime 0 = 0 ∨ s.now < s.rd R.updActivateAtTime 0 ∨ s.rd R.hstStatState 0 ≠ hsReady ∨
      s.upd.draining.isSome = true) := by
    rw [hnew]
    simp [hset, hready, hdue]
  rw [State.activationStart]
  dsimp only
  rw [if_neg hgo, hchecked]
  rfl

/-! ### The end of the drain -/

/-- The next activation time is written. -/
theorem State.nextActivation_kept {g : Fld} {j : Nat} (h : g.notAt j R.updActivateAtTime.off = true) (s : State) : g.Kept j s s.nextActivation :=
  .wr (f := R.updActivateAtTime) (i := 0) (.notAt h) ..

theorem State.setCounter_kept {g : Fld} {j : Nat} (h : ∀ f ∈ [R.secCtrFwMin, R.secCtrCfgMin, R.secCtrOwnerGen, R.hstIdInfoStartCount], g.LeftBy j f 0)
    (s : State) (i v : Nat) : g.Kept j s (s.setCounter i v) := by
  unfold State.setCounter
  extract_lets u
  have hu : g.Kept j s u := .of_regs (id rfl)
  split
  · exact hu.trans (.wr (h _ (by simp)) ..)
  · exact hu.trans (.wr (h _ (by simp)) ..)
  · exact hu.trans (.wr (h _ (by simp)) ..)
  · exact hu.trans (.wr (h _ (by simp)) ..)

/-- What the NOR holds once the slot of a kind is named in the boot header. -/
def State.named (s : State) (c : Nat) : NorState :=
  if s.eligible c then if c = 1 then { s.nor with fwActive := s.targetSlot c } else { s.nor with cfgActive := s.targetSlot c } else s.nor

/-- A slot takes over where it is eligible; the counters may rise. -/
theorem State.takeSlot_nor (s : State) (c : Nat) : ∃ n, (s.takeSlot c).nor = { s.named c with counters := n } := by
  have hcounter : ∀ (s : State) (i v : Nat), ∃ n, (s.setCounter i v).nor = { s.nor with counters := n } := fun s i v => by
    unfold State.setCounter
    split <;> exact ⟨_, rfl⟩
  unfold State.takeSlot State.named
  cases s.eligible c
  · exact ⟨_, rfl⟩
  · simp only [Bool.not_true, Bool.false_eq_true, if_false, if_true]
    split
    all_goals exact hcounter ..

/-- A slot that takes over leaves what the other's turn reads. -/
theorem State.takeSlot_kept {g : Fld} {j c : Nat}
    (h : ∀ f ∈ [R.secCtrFwMin, R.secCtrCfgMin, R.secCtrOwnerGen, R.hstIdInfoStartCount], g.LeftBy j f 0) (hc : g.LeftBy j (compState c) 0) (s : State) :
    g.Kept j s (s.takeSlot c) := by
  unfold State.takeSlot
  split
  · exact .refl
  · extract_lets old t u
    have hu : g.Kept j s u := .of_regs (id rfl)
    exact (hu.trans (State.setCounter_kept h ..)).trans (.wr hc ..)

/-- The state of a module whose drain has ended, before the boot header names its slots. -/
def State.drained (s : State) : State := s.nextActivation.updNor fun n => { n with bootSeq := n.bootSeq + 1 }

/-- Between the reads of a slot's kind the registers that they read are left. -/
theorem State.slot_congr {s t : State} {c : Nat} (hstate : t.rd (compState c) 0 = s.rd (compState c) 0)
    (hfw : t.rd R.cfgBootFwSlot 0 = s.rd R.cfgBootFwSlot 0) (hcfg : t.rd R.cfgBootCfgSlot 0 = s.rd R.cfgBootCfgSlot 0) :
    t.eligible c = s.eligible c ∧ t.targetSlot c = s.targetSlot c := by
  unfold State.eligible State.targetSlot
  rw [hstate, hfw, hcfg]
  exact ⟨rfl, rfl⟩

theorem State.drained_slot {s : State} (hw : Registers.wf s.regs = true) (c : Nat) :
    s.drained.eligible c = s.eligible c ∧ s.drained.targetSlot c = s.targetSlot c := by
  have hkept : ∀ {g : Fld}, g.notAt 0 R.updActivateAtTime.off = true → s.drained.rd g 0 = s.rd g 0 := fun h => (s.nextActivation_kept h).rd hw
  refine State.slot_congr (hkept ?_) (hkept (by decide)) (hkept (by decide))
  unfold compState
  split <;> decide

theorem State.takeSlot_slot {s : State} (hw : Registers.wf s.regs = true) : (s.takeSlot 1).eligible 2 = s.eligible 2 ∧
    (s.takeSlot 1).targetSlot 2 = s.targetSlot 2 := by
  have hcounters : ∀ {g : Fld}, ([R.secCtrFwMin, R.secCtrCfgMin, R.secCtrOwnerGen, R.hstIdInfoStartCount].all fun f =>
      g.notAt 0 (regKey f.kind f.off 0)) = true → ∀ f ∈ [R.secCtrFwMin, R.secCtrCfgMin, R.secCtrOwnerGen, R.hstIdInfoStartCount], g.LeftBy 0 f 0 :=
    fun h f hf => .notAt (List.all_eq_true.1 h f hf)
  exact State.slot_congr ((State.takeSlot_kept (hcounters (by decide)) (.sibling (by decide) 0) s).rd hw)
    ((State.takeSlot_kept (hcounters (by decide)) (.notAt (by decide)) s).rd hw)
    ((State.takeSlot_kept (hcounters (by decide)) (.notAt (by decide)) s).rd hw)

/-- The boot header that both kinds have been named in. -/
theorem State.takeSlots_header {s : State} (hw : Registers.wf s.regs = true) :
    ((s.takeSlot 1).takeSlot 2).nor.bootSeq = s.nor.bootSeq ∧
      (s.eligible 1 = true → ((s.takeSlot 1).takeSlot 2).nor.fwActive = s.targetSlot 1) ∧
      (s.eligible 2 = true → ((s.takeSlot 1).takeSlot 2).nor.cfgActive = s.targetSlot 2) := by
  obtain ⟨n, hfirst⟩ := s.takeSlot_nor 1
  obtain ⟨m, hsecond⟩ := (s.takeSlot 1).takeSlot_nor 2
  obtain ⟨heligible, htarget⟩ := State.takeSlot_slot hw
  rw [hsecond, State.named, heligible, htarget, hfirst, State.named]
  cases s.eligible 1 <;> cases s.eligible 2 <;> simp

/-! ### The reset -/

/-- What the filter keeps of a map is read as before. -/
theorem sget_filter {α : Type} [DecidableEq α] {d : α} {m : Sparse α} {k : Nat} {p : Nat × α → Bool} (h : swf d m = true)
    (hp : ∀ e ∈ m, e.1 = k → p e = true) : sget d (m.filter p) k = sget d m k := by
  rw [swf_iff] at h
  obtain ⟨hsorted, -⟩ := h
  induction m with
  | nil => rfl
  | cons e m ih =>
    obtain ⟨hlt, hsorted⟩ := List.pairwise_cons.1 hsorted
    have ih := ih (fun x hx => hp x (List.mem_cons_of_mem _ hx)) hsorted
    by_cases hpe : p e = true
    · rw [List.filter_cons_of_pos hpe, sget, sget, ih]
    · have hne : k ≠ e.1 := fun heq => hpe (hp e List.mem_cons_self heq.symm)
      rw [List.filter_cons_of_neg hpe, ih, sget, if_neg hne]
      split
      · rename_i hk
        exact sget_of_lt fun x hx => hk.trans (hlt x hx)
      · rfl

/-- The registers of the update state survive a reset. -/
theorem State.cleared_rd {s : State} (hw : Registers.wf s.regs = true) {f : Fld} {i : Nat} (hf : regKey f.kind f.off i ∈ keptRegs) :
    s.cleared.rd f i = s.rd f i := by
  have hreg : s.cleared.reg (regKey f.kind f.off i) = s.reg (regKey f.kind f.off i) :=
    sget_filter hw fun e _ he => decide_eq_true (he ▸ hf)
  rw [State.rd, State.rd, hreg]

section
variable {s : State} (hrun : s.boot.running = false)

include hrun

/-- A module reset outside start-up. -/
theorem State.moduleReset_fields {cause : Nat} (hcause : cause < 16) : (s.moduleReset cause).rd R.cfgResetCause 0 = cause ∧
    (s.moduleReset cause).nor = s.nor ∧ (s.moduleReset cause).upd.draining = none ∧ (s.moduleReset cause).parts = [] ∧
    (s.moduleReset cause).host.rings = [] := by
  obtain ⟨hreset, -⟩ := s.restarted_fields hcause
  obtain ⟨-, hnor, -, -, hparts, -, hrings, -, -⟩ := s.restarted_cleared cause
  rw [State.moduleReset_eq (Or.inl hrun)]
  split
  · exact ⟨hreset, hnor, rfl, hparts, hrings⟩
  · exact ⟨hreset, hnor, rfl, hparts, hrings⟩

/-- A slot that is eligible stays so. -/
theorem State.moduleReset_eligible (hw : Registers.wf s.regs = true) (cause : Nat) {c : Nat} (h : s.eligible c = true) :
    (s.moduleReset cause).eligible c = true := by
  have hstate : s.rd (compState c) 0 = usEligible := of_decide_eq_true h
  have hidle := State.idleTransfers_compState hw c
  rw [hstate, if_neg (by decide)] at hidle
  have hkept : s.idleTransfers.cleared.rd (compState c) 0 = usEligible := by
    rw [State.cleared_rd ((State.idleTransfers_eff s).regs hw) (by unfold compState; split <;> decide), hidle]
  have hwf : Registers.wf s.idleTransfers.cleared.regs = true := filter_wf _ ((State.idleTransfers_eff s).regs hw)
  have hrestarted : (s.restarted cause).rd (compState c) 0 = usEligible :=
    (State.rd_wr_notAt hwf cause (by unfold compState; split <;> decide)).trans hkept
  refine decide_eq_true ?_
  rw [State.moduleReset_eq (Or.inl hrun)]
  split
  · exact hrestarted
  · exact hrestarted

end

/-- A drain with no request left ends at once; the boot header is written or not. -/
theorem State.drainEnd_eq {s : State} {u : Nat} (hdrain : s.upd.draining = some u) (hreqs : s.host.reqs = []) (ok : Bool) :
    s.drainEnd ok = (if ok then (((s.drained.takeSlot 1).takeSlot 2).inc R.updStatActivations 0 1).logEvent logStart (hubSite 0 14) (leBytes 1 0x84)
      else s.nextActivation.logEvent logStart (hubSite 0 14) (leBytes 1 0x85)).moduleReset 3 := by
  unfold State.drainEnd
  rw [hdrain, hreqs]
  cases ok <;> rfl

end Sys2Proof.Machine

open Sys2Proof.Machine

/-- Settles O40: each request is its change of the update, and an activation ends in the reset of the module. -/
theorem updateCommandsComplete : Obligations.UpdateCommandsComplete := by
  unfold Obligations.UpdateCommandsComplete
  refine ⟨fun s hready => Answers.of (exec_queryDeviceIdentifiers s) (State.pldm_of hready _) rfl,
    fun s hready => Answers.of (exec_getFirmwareParameters s) (State.pldm_of hready _) rfl,
    fun s c d hw hready hc hidle hnone => ?fresh, fun s c n d hw hready hc hidle hprogress hn hlt => ?resumed,
    fun s c svn x hready hsession hx => Answers.of (exec_passComponentTable c svn s) (State.passTable_eq hready hx hsession svn)
      ⟨State.modComp_comp hx _, rfl, rfl, State.updSec_keeps ..⟩,
    fun s c svn x hw hready hsession hc hx hmore => Answers.of (exec_updateComponent c svn s)
      (State.updateComponent_asks hready hx hw hsession svn hmore) ?component,
    fun s p x hw hready hc hx hactive hindex hlt hok hmore => Answers.of (exec_firmwareDataPiece p s)
      (State.dataPiece_good hready hx hactive hindex hok hmore) ?good,
    fun s p x hready hx hactive hindex hfail hbad => Answers.of (exec_firmwareDataPiece p s)
      (State.dataPiece_bad hready hx hactive hindex hfail hbad) ⟨State.modComp_comp hx _, rfl, rfl, rfl, State.updSec_keeps ..⟩,
    fun s hready => Answers.of (exec_activateFirmware s) (State.pldm_of hready _) rfl,
    fun s hready => Answers.of (exec_getStatus s) (State.pldm_of hready _) rfl,
    fun s c hw hready hsession hc hstate => Answers.of (exec_cancelUpdateComponent s) ((State.pldm_of hready _).trans (if_pos hsession)) ?cancelComponent,
    fun s hready hsession => Answers.of (exec_cancelUpdate s) ((State.pldm_of hready _).trans (if_pos hsession)) ?cancel,
    fun s c x hready hnew hlo hhi hfw hrings => Answers.of (exec_activationCheck s) (State.activationCheck_eq hready hnew hlo hhi hfw) ?check,
    fun s hready hchecked hset hdue hnew => ?start,
    fun s u hw hdrain hreqs hrun => Answers.of (exec_activationDrainEnd true s) (State.drainEnd_eq hdrain hreqs true) ?activated,
    fun s u hw hdrain hreqs hrun => Answers.of (exec_activationDrainEnd false s) (State.drainEnd_eq hdrain hreqs false) ?failed⟩
  case fresh =>
    obtain ⟨hsession, hcomp, hnext, hstate, hsec, -, hkeeps⟩ := State.updateOpened_fields hw c d [] (n := 0) (by decide)
    refine Answers.of (exec_requestUpdate c d s) (State.requestUpdate_fresh hready hc hidle hnone) ?_
    generalize s.updateOpened c d [] 0 = u at hsession hcomp hnext hstate hsec hkeeps
    rw [← hsec]
    exact ⟨hsession, hcomp, hnext, hstate, rfl, hkeeps⟩
  case resumed =>
    obtain ⟨hsession, hcomp, hnext, -, hsec, hnor, hkeeps⟩ := State.updateOpened_fields hw c d (s.slotData c) hlt
    refine Answers.of (exec_requestUpdate c d s) (State.requestUpdate_resumed hready hc hidle hprogress hn) ?_
    generalize s.updateOpened c d (s.slotData c) n = u at hsession hcomp hnext hsec hnor hkeeps
    rw [← hsec, ← hnor]
    exact ⟨hsession, hcomp, hnext, rfl, rfl, hkeeps⟩
  case component =>
    obtain ⟨hcomp, hstate, hsec, hkeeps⟩ := State.receiving_fields hw hx svn
    generalize s.receiving c svn = u at hcomp hstate hsec hkeeps
    rw [← hsec]
    exact ⟨hcomp, hstate, by simp [State.answer_fields], hkeeps⟩
  case good =>
    obtain ⟨hcomp, hnext, hprogress, hsec, hkeeps⟩ := State.taken_fields hw hx hlt
    generalize s.taken p x = u at hcomp hnext hprogress hsec hkeeps
    rw [← hsec]
    exact ⟨hcomp, hnext, hprogress, rfl, hkeeps⟩
  case cancelComponent =>
    have heff := State.stopTransfers_eff s
    have hsession := s.stopTransfers_session.trans hsession
    have hidle : s.stopTransfers.rd (compState c) 0 = usIdle := (State.idleTransfers_compState hw c).trans (if_pos hstate)
    generalize s.stopTransfers = u at heff hsession hidle
    rw [← show u.sec = s.sec from heff.same .sec rfl]
    exact ⟨hidle, hsession, rfl, (heff.keeps (by decide)).trans (State.updSec_keeps ..)⟩
  case cancel =>
    have heff := State.stopTransfers_eff s
    generalize s.stopTransfers = u at heff
    rw [← show u.sec = s.sec from heff.same .sec rfl]
    exact ⟨rfl, rfl, heff.keeps (by decide)⟩
  case check =>
    have heff := State.eventAll_eff (s.updUpd fun u => { u with checked := true }) stActivationPending (s.rd R.updActivateAtTime 0 / 1000 % 2 ^ 32)
    obtain ⟨e, hcq, hclient, hevent, hstatus⟩ := State.eventAll_one (s := s.updUpd fun u => { u with checked := true }) hrings stActivationPending
      (s.rd R.updActivateAtTime 0 / 1000 % 2 ^ 32)
    have hupd := heff.same .upd rfl
    have hchecked := congrArg UpdState.checked hupd
    exact ⟨hchecked, ⟨e, hcq, hclient, hevent, hstatus⟩, heff.same .regs rfl, heff.mem rfl rfl⟩
  case start =>
    obtain ⟨u, hu, he⟩ := State.activationStart_eq hready hchecked hset hdue hnew
    have hupd : u.closeBatch.upd = _ := ((State.closeBatch_eff u).same .upd rfl).trans (hu.same .upd rfl)
    have hdraining := congrArg UpdState.draining hupd
    exact Answers.of (exec_activationStart s) he ⟨hdraining, u.closeBatch_openBatch,
      ((State.closeBatch_eff u).same .clusters rfl).trans (hu.same .clusters rfl)⟩
  case activated =>
    have hdw : Registers.wf s.drained.regs = true := State.wr_regs_wf hw ..
    obtain ⟨hseq, hfw, hcfg⟩ := State.takeSlots_header hdw
    obtain ⟨hfwOk, hfwSlot⟩ := State.drained_slot hw 1
    obtain ⟨hcfgOk, hcfgSlot⟩ := State.drained_slot hw 2
    rw [hfwOk, hfwSlot] at hfw
    rw [hcfgOk, hcfgSlot] at hcfg
    have hboot : ((s.drained.takeSlot 1).takeSlot 2).boot = s.boot :=
      ((State.takeSlot_eff ..).same .boot rfl).trans ((State.takeSlot_eff ..).same .boot rfl)
    rw [if_pos rfl]
    generalize (s.drained.takeSlot 1).takeSlot 2 = v at hseq hfw hcfg hboot
    have hrunning := congrArg BootState.running hboot
    obtain ⟨hcause, hnor, hdraining, hparts, hrings⟩ := State.moduleReset_fields
      (s := (v.inc R.updStatActivations 0 1).logEvent logStart (hubSite 0 14) (leBytes 1 0x84)) (hrunning.trans hrun) (cause := 3) (by decide)
    rw [hnor]
    exact ⟨hcause, hseq, hfw, hcfg, hdraining, hparts, hrings⟩
  case failed =>
    rw [if_neg Bool.false_ne_true]
    obtain ⟨hcause, hnor, -⟩ := State.moduleReset_fields (s := s.nextActivation.logEvent logStart (hubSite 0 14) (leBytes 1 0x85)) hrun (cause := 3) (by decide)
    have hnw : Registers.wf (s.nextActivation.logEvent logStart (hubSite 0 14) (leBytes 1 0x85)).regs = true := State.wr_regs_wf hw ..
    rw [hnor]
    refine ⟨hcause, rfl, rfl, fun h => State.moduleReset_eligible
      (s := s.nextActivation.logEvent logStart (hubSite 0 14) (leBytes 1 0x85)) hrun hnw 3 ?_⟩
    obtain ⟨hslot, -⟩ := State.drained_slot hw 1
    exact hslot.trans h

end

section
/-! Completions of host reads (R301, Table TNCY-6). -/

namespace Sys2Proof.Machine

theorem exec_hostReadCompletion (fn a n : Nat) (need : HostNeed) (x : HostAnswer) (s : State) :
    exec (.hostReadCompletion fn a n need x) s = .next (s.readDone fn a n need x) := rfl

theorem padTo_take_of_length {n : Nat} {bs : List Byte} (h : bs.length = n) : padTo n (bs.take n) = bs := by
  simp [padTo, h.symm]

/-- The state with no host read outstanding. -/
def State.noReads (s : State) : State := s.updHost fun h => { h with reads := [] }

section
variable {s : State} {fn a n : Nat}

/-- The answer to the only read outstanding. -/
theorem State.readDone_data {c q : Nat} {pa : Option Nat} (hreads : s.host.reads = [⟨fn, pa, a, n, .request c q⟩]) (bs : List Byte) :
    s.readDone fn a n (.request c q) (.data bs) = s.noReads.readData fn a n (.request c q) bs false := by
  simp [State.readDone, hreads, dropFirst, State.noReads]

theorem State.readDone_error {c : Nat} {pa : Option Nat} (hreads : s.host.reads = [⟨fn, pa, a, n, .descriptor c⟩]) :
    s.readDone fn a n (.descriptor c) .error = s.noReads.readFail fn a n (.descriptor c) := by
  simp [State.readDone, hreads, dropFirst, State.noReads]

/-- A completion that no read asked for is not taken, but that a page has no translation. -/
theorem State.readDone_unasked (hreads : s.host.reads = []) (c : Nat) (x : HostAnswer) :
    s.readDone fn a n (.descriptor c) x = match x with
      | .noTranslation => if fn ∈ s.host.ats ∧ (fn, a / 4096) ∉ s.host.noXlat then s.updHost fun h => { h with noXlat := h.noXlat ++ [(fn, a / 4096)] } else s
      | _ => s := by
  cases x <;> simp [State.readDone, hreads]

/-- Data for a request is kept; the read is charged. -/
theorem State.readData_request {c q : Nat} {bs : List Byte} (hbs : bs.length = n) : ∃ u,
    Eff 4294967360 (s.updHost fun h => { h with noXlat := h.noXlat.filter fun e => e ≠ (fn, a / 4096) }) u ∧
      s.readData fn a n (.request c q) bs false = u.updHost fun h => { h with rx := h.rx ++ [⟨fn, a, .request c q, false, bs⟩] } := by
  refine ⟨_, State.chargeRead_eff _ (.request c q) n, ?_⟩
  unfold State.readData
  rw [padTo_take_of_length hbs]
  rfl

/-- The descriptor that waits for a read which failed is marked. -/
theorem State.descFail_fetched {c : Nat} {f : Fetched} (hfetched : s.host.fetched = [f]) (hwaits : s.readsSlot c a n f = true) :
    s.descFail c a n = s.updHost fun h => { h with fetched := [{ f with failed := true }] } := by
  have hany : s.host.fetched.any (s.readsSlot c a n) = true := by simp [hfetched, hwaits]
  have hmod : modFirst (s.readsSlot c a n) (fun f => { f with failed := true }) s.host.fetched = [{ f with failed := true }] := by
    simp [hfetched, modFirst, hwaits]
  rw [State.descFail, if_pos hany, State.updHost, hmod]
  rfl

end

end Sys2Proof.Machine

open Sys2Proof.Machine

/-- Settles O23: an answer goes to the read that asked for it, and no further. -/
theorem hostReadCompletes : Obligations.HostReadCompletes := by
  unfold Obligations.HostReadCompletes
  refine ⟨fun s fn a n c q pa bs hreads hbs => ?data, fun s fn a c pa f hreads hfetched hclient hbytes hfailed hslot => ?error,
    fun s fn a n c x hreads hx => Answers.of (exec_hostReadCompletion fn a n (.descriptor c) x s) (State.readDone_unasked hreads c x) ?unasked,
    fun s fn a n c hreads hats hnew => Answers.of (exec_hostReadCompletion fn a n (.descriptor c) .noTranslation s)
      ((State.readDone_unasked hreads c .noTranslation).trans (if_pos ⟨hats, hnew⟩)) ⟨rfl, rfl, rfl, rfl, rfl⟩⟩
  case data =>
    obtain ⟨u, hu, he⟩ := State.readData_request (s := s.noReads) (fn := fn) (a := a) (c := c) (q := q) hbs
    refine Answers.of (exec_hostReadCompletion fn a n (.request c q) (.data bs) s) ((State.readDone_data hreads bs).trans he) ?_
    have hhost := hu.same .host rfl
    have hrx := congrArg HostIf.rx hhost
    have hreads' := congrArg HostIf.reads hhost
    have hreqs := congrArg HostIf.reqs hhost
    exact ⟨hreads', congrArg (· ++ [_]) hrx, hreqs, hu.same .regs rfl, hu.mem rfl rfl⟩
  case error =>
    have hraise := State.raise_eff s.noReads 0x0C2 (hubSite 5 14) fn 0 1 0
    have hhost : (s.noReads.raise 0x0C2 (hubSite 5 14) fn 0 1 0).host = s.noReads.host := hraise.same .host rfl
    have hregs : (s.noReads.raise 0x0C2 (hubSite 5 14) fn 0 1 0).regs = s.regs := hraise.same .regs rfl
    have hmem : (s.noReads.raise 0x0C2 (hubSite 5 14) fn 0 1 0).mem = s.mem := hraise.mem rfl rfl
    have hfail : s.noReads.readFail fn a 64 (.descriptor c) = (s.noReads.raise 0x0C2 (hubSite 5 14) fn 0 1 0).descFail c a 64 := rfl
    generalize s.noReads.raise 0x0C2 (hubSite 5 14) fn 0 1 0 = u at hhost hregs hmem hfail
    have hrings : u.slotAddr f = s.slotAddr f := by
      rw [State.slotAddr, State.slotAddr, State.ring, State.ring, hhost]
      rfl
    have hwaits : u.readsSlot c a 64 f = true := by simp [State.readsSlot, hclient, hbytes, hfailed, hrings, hslot]
    have hfetched' : u.host.fetched = [f] := by
      rw [hhost]
      exact hfetched
    refine Answers.of (exec_hostReadCompletion fn a 64 (.descriptor c) .error s)
      ((State.readDone_error hreads).trans (hfail.trans (State.descFail_fetched hfetched' hwaits))) ?_
    have hreads' := congrArg HostIf.reads hhost
    have hreqs := congrArg HostIf.reqs hhost
    exact ⟨hreads', rfl, hreqs, hregs, hmem⟩
  case unasked =>
    cases x with
    | noTranslation => exact absurd rfl hx
    | data bs => exact ⟨rfl, rfl, rfl, rfl⟩
    | error => exact ⟨rfl, rfl, rfl, rfl⟩
    | poisoned bs => exact ⟨rfl, rfl, rfl, rfl⟩

end

section
/-! Admission of a fetched descriptor (R304, R305): one whose read failed, and one of OP_ACCOUNT_READ that passes every check. -/

namespace Sys2Proof.Machine

theorem exec_descriptorAdmit (c : Nat) (s : State) : exec (.descriptorAdmit c) s = .next (s.admitNext c) := rfl

/-! ### The grant -/

/-- The state once the admission arbiter has granted its only client. -/
def State.granted (s : State) (c : Nat) : State := s.updHost fun h => { h with arb := (grantStep s.host.arb [(c, 1)]).2 }

theorem State.admitNext_eq {s : State} {c : Nat} (hstate : s.rd R.hstStatState 0 = hsReady) (hrun : s.moduleRun = true) (hready : s.ready = [c]) :
    s.admitNext c = (s.granted c).judgeFront c := by
  unfold State.admitNext
  rw [if_neg (by simp [hstate, hrun]), hready]
  exact if_neg (not_not.2 rfl)

theorem State.front_one {s : State} {c : Nat} {f : Fetched} (hf : s.host.fetched = [f]) (hc : f.client = c) :
    (s.host.fetched.find? fun f => f.client = c) = some f := by simp [hf, hc]

/-- The only fetched descriptor is taken. -/
theorem State.takeFetched_one {s : State} {c : Nat} {f : Fetched} (hf : s.host.fetched = [f]) (hc : f.client = c) :
    (s.takeFetched c).host.fetched = [] := by
  have hdrop : dropFirst (fun f => decide (f.client = c)) s.host.fetched = [] := by simp [hf, dropFirst, hc]
  exact hdrop

/-! ### A failed read -/

theorem State.judgeFront_failed {s : State} {c : Nat} {f : Fetched} (hf : s.host.fetched = [f]) (hc : f.client = c) (hfail : f.failed = true) :
    s.judgeFront c = (s.takeFetched c).reject f (padTo 64 (f.bytes.getD [])) stContextFault := by
  unfold State.judgeFront
  simp only [State.front_one hf hc, State.check1, hfail, State.check1Fault, true_or, if_true, Bool.true_or]
  rfl

/-- A rejection that is not by the module's state is an entry of its client. -/
theorem State.reject_entry {s : State} {f : Fetched} {st : Nat} (d : List Byte) (hst : st ≠ stState) (hring : (s.ring f.client).isSome = true) :
    ∃ e, (s.reject f d st).host = { s.host with cq := s.host.cq ++ [e] } ∧ e.client = f.client ∧ e.slot = f.slot ∧ e.status = st ∧
      e.interim = false := by
  unfold State.reject
  dsimp only
  rw [if_neg hst]
  have hhost := s.charge_host f.client fun a => { a with failed := a.failed + 1 }
  generalize s.charge f.client (fun a => { a with failed := a.failed + 1 }) = u at hhost
  rw [State.produce, if_pos (by rw [State.ring, hhost]; exact hring), State.updHost, State.putHost_host, hhost]
  exact ⟨_, rfl, rfl, rfl, rfl, rfl⟩

/-! ### A descriptor of OP_ACCOUNT_READ -/

section
variable {d : List Byte} (hop : fieldLe d 0 1 = 0x30) (hlen : fieldLe d 24 4 = 0)

include hlen

/-- It names no parameter block. -/
theorem State.paramRead_none (s : State) (c : Nat) : s.paramRead c d = .data [] false := if_pos hlen

include hop

theorem State.headRead_none (s : State) (c : Nat) : s.headRead c d = .data [] false := by
  unfold State.headRead
  rw [State.paramRead_none hlen]
  simp [hop]

/-- Nothing is read for its admission. -/
theorem State.descReads_none (hgood : goodDescriptor d = true) (s : State) (c : Nat) : s.descReads c d = s := by
  have haddr : isDev (descParam d).1 = false := by
    simp only [goodDescriptor, hop, inlineMask, takesNoParam, Bool.and_eq_true, decide_eq_true_eq] at hgood
    obtain ⟨-, hparam⟩ := hgood
    have hzero : fieldLe d 16 8 = 0 := by simpa [hlen] using hparam
    have hnone : isDev 0 = false := by decide
    rw [descParam, hzero]
    exact hnone
  unfold State.descReads
  rw [State.paramRead_none hlen, State.headRead_none hop hlen]
  simp [haddr, ReadRes.bytes, State.readUnits]

theorem State.check1_passes {f : Fetched} (hfail : f.failed = false) (hparam : f.paramFailed = false) (hpoison : f.poisoned = false) (s : State) :
    s.check1 f d = none := by
  unfold State.check1
  rw [State.paramRead_none hlen, State.headRead_none hop hlen]
  simp [hfail, hparam, hpoison]

end

section
variable {s : State} {r : Req} (hop : r.opcode = 0x30)

include hop

/-- A client's request for its own record passes the other checks. -/
theorem State.verdict_account (hgood : goodDescriptor r.desc = true) (hself : r.inl 0 2 = r.client) (hclient : r.client < 4096) (hroom : 256 ≤ r.d 28 4)
    (hnew : s.req? (r.client, r.id) = none) (hhome : s.running (s.home r.client) = true) (hdeadline : r.d 8 8 = 0) :
    s.verdict r (s.judgeAccount r) = none := by
  have hadmin : needsAdmin 0x30 = false := by decide
  unfold State.verdict State.judgeAccount
  simp [Judge.within, hgood, hself, hclient, hop, hadmin, Nat.not_lt.2 hroom, State.inUse, hnew, hhome, State.expired, hdeadline]

/-- It pins nothing. -/
theorem State.pinAll_account (k : ReqKey) (p : Nat) : ∃ ms, s.pinAll k r p = s.updReq k fun r => { r with models := ms, adapter := none } := by
  unfold State.pinAll
  simp only [hop]
  exact ⟨_, rfl⟩

omit hop in
theorem State.addReq_req? (hnew : s.req? (r.client, r.id) = none) :
    (s.addReq r).req? (r.client, r.id) = some { r with order := s.host.admitted, admittedAt := s.now } := by
  unfold State.req? at hnew ⊢
  rw [State.addReq_host, List.find?_append, hnew]
  simp

omit hop in
theorem State.charge_client (hclient : r.client < 4096) (f : Acct → Acct) :
    aget (s.charge r.client f).accts r.client = some (f ((aget s.accts r.client).getD Acct.zero)) := by
  rw [State.charge, if_pos hclient]
  exact aget_aput_same ..

/-- The request joins those in flight and is counted. -/
theorem State.admitReq_account (j : Judge) (hclient : r.client < 4096) (hnew : s.req? (r.client, r.id) = none) :
    (∃ x, (s.admitReq r j).req? (r.client, r.id) = some x ∧ x.opcode = 0x30 ∧ x.desc = r.desc ∧ x.slot = r.slot ∧ x.ended = r.ended) ∧
      (∃ a, aget (s.admitReq r j).accts r.client = some a ∧ a.admitted = ((aget s.accts r.client).getD Acct.zero).admitted + 1) ∧
      (s.admitReq r j).host.fetched = s.host.fetched ∧ (s.admitReq r j).host.cq = s.host.cq ∧ (s.admitReq r j).mem = s.mem := by
  unfold State.admitReq
  extract_lets k u v
  have hu : Eff 24 s u := State.addReq_eff ..
  have hhost : u.host = _ := State.addReq_host ..
  have hreq := State.addReq_req? (s := s) (r := { r with part := j.part, part2 := j.part2, started := startsAdmitted r.opcode }) hnew
  have haccts : aget v.accts r.client = _ := State.charge_client (s := u) hclient fun a => { a with admitted := a.admitted + 1 }
  rw [show u.accts = s.accts from hu.same .accts rfl] at haccts
  have hvhost : v.host = u.host := State.charge_host ..
  have hsame : v.req? k = u.req? k := by rw [State.req?, State.req?, hvhost]
  have hvreq := hsame.trans hreq
  have hvmem : v.mem = s.mem := ((State.charge_eff ..).mem rfl rfl).trans (hu.mem rfl rfl)
  obtain ⟨ms, hpin⟩ := State.pinAll_account (s := v) hop k j.part
  rw [hpin]
  clear_value u v
  refine ⟨⟨_, State.req?_updReq hvreq ⟨rfl, rfl⟩, hop, rfl, rfl, rfl⟩, ⟨_, haccts, rfl⟩, ?_, ?_, hvmem⟩
  · have hfetched := congrArg HostIf.fetched (hvhost.trans hhost)
    exact hfetched
  · have hcq := congrArg HostIf.cq (hvhost.trans hhost)
    exact hcq

end

section
variable {s : State} {c : Nat} {f : Fetched} {d : List Byte} (hf : s.host.fetched = [f]) (hc : f.client = c) (hfail : f.failed = false)
  (hparam : f.paramFailed = false) (hpoison : f.poisoned = false) (hbytes : f.bytes = some d) (hd : d.length = 64) (hop : fieldLe d 0 1 = 0x30)
  (hlen : fieldLe d 24 4 = 0) (hgood : goodDescriptor d = true)

include hf hc hfail hparam hpoison hbytes hd hop hlen hgood

/-- A descriptor that passes every check is admitted. -/
theorem State.judgeFront_account (hself : fieldLe d 48 2 = c) (hclient : c < 4096) (hroom : 256 ≤ fieldLe d 28 4)
    (hnew : s.req? (c, fieldLe d 4 4) = none) (hhome : s.running (s.home c) = true) (hdeadline : fieldLe d 8 8 = 0) :
    s.judgeFront c = (s.takeFetched c).admitReq (s.askedReq f d) (s.judgeAccount (s.askedReq f d)) := by
  subst hc
  have hpad : padTo 64 (f.bytes.getD []) = d := by simp [hbytes, padTo, hd]
  have hjudge : ∀ head, s.judge (s.askedReq f d) head = s.judgeAccount (s.askedReq f d) := fun head => by
    have hcode : (s.askedReq f d).opcode = 0x30 := hop
    simp only [State.judge, hcode]
  have hverdict := State.verdict_account (s := s) (r := s.askedReq f d) hop hgood hself hclient hroom hnew hhome hdeadline
  unfold State.judgeFront
  rw [State.front_one hf rfl]
  dsimp only
  rw [hpad, State.check1_passes hop hlen hfail hparam hpoison, hfail, hparam, hpoison]
  dsimp only
  rw [if_neg (by simp), State.descReads_none hop hlen hgood, hjudge, hverdict]

end

end Sys2Proof.Machine

open Sys2Proof.Machine

/-- Settles O22: the arbiter grants the only client that is ready, and its descriptor is judged. -/
theorem descriptorAdmitCompletes : Obligations.DescriptorAdmitCompletes := by
  unfold Obligations.DescriptorAdmitCompletes
  refine ⟨fun s c f hstate hrun hready hf hc hfail hring hclient => Answers.of (exec_descriptorAdmit c s)
      ((State.admitNext_eq hstate hrun hready).trans (State.judgeFront_failed (s := s.granted c) hf hc hfail)) ?failed,
    fun s c f d hstate hrun hready hf hc hfail hparam hpoison hbytes hd hop hlen hgood hself hclient hroom hnew hhome hdeadline =>
      Answers.of (exec_descriptorAdmit c s) ((State.admitNext_eq hstate hrun hready).trans (State.judgeFront_account (s := s.granted c) hf hc hfail hparam
        hpoison hbytes hd hop hlen hgood hself hclient hroom hnew hhome hdeadline)) ?admitted⟩
  case failed =>
    have htaken := State.takeFetched_one (s := s.granted c) hf hc
    have hmem : ∀ u : State, (u.reject f (padTo 64 (f.bytes.getD [])) stContextFault).mem = u.mem := fun u => (State.reject_eff ..).mem rfl rfl
    have hring' : (((s.granted c).takeFetched c).ring f.client).isSome = true := hc ▸ hring
    obtain ⟨e, hhost, heclient, heslot, hestatus, hefinal⟩ :=
      State.reject_entry (padTo 64 (f.bytes.getD [])) (st := stContextFault) (by decide) hring'
    rw [hhost, hmem]
    exact ⟨htaken, rfl, ⟨e, rfl, heclient.trans hc, heslot, hestatus, hefinal⟩, rfl⟩
  case admitted =>
    subst hc
    have htaken := State.takeFetched_one (s := s.granted f.client) hf rfl
    obtain ⟨⟨x, hx, hcode, hdesc, hslot, hended⟩, ⟨a, ha, hcount⟩, hfetched, hcq, hmem⟩ :=
      State.admitReq_account (s := (s.granted f.client).takeFetched f.client) (r := (s.granted f.client).askedReq f d) hop
        ((s.granted f.client).judgeAccount ((s.granted f.client).askedReq f d)) hclient hnew
    exact ⟨hfetched.trans htaken, hcq, ⟨x, hx, hcode, hdesc, hslot, hended⟩, ⟨a, ha, hcount⟩, hmem⟩

end

section
/-! The window BAR4 and the account record (R298, R331). -/

namespace Sys2Proof.Machine

theorem exec_bar4Read (o n : Nat) (s : State) : exec (.bar4Read o n) s = .next (s.bar4Read o n) := rfl
theorem exec_bar4Write (o : Nat) (bs : List Byte) (ep : Bool) (s : State) : exec (.bar4Write o bs ep) s = .next (s.bar4Write o bs ep) := rfl
theorem exec_opAccountRead (c q : Nat) (s : State) : exec (.opAccountRead c q) s = .next (s.accountRead (c, q)) := rfl

/-! ### What the host has been answered -/

/-- From `s` to `t` no access of the host is answered. -/
structure SameAnswers (s t : State) : Prop where
  answers : t.host.answers = s.host.answers

namespace SameAnswers

variable {s t u : State}

theorem refl (s : State) : SameAnswers s s := ⟨rfl⟩

theorem of_eff {k : Nat} (h : Eff k s t) (hk : k.testBit 4 = false) : SameAnswers s t := ⟨congrArg HostIf.answers (h.same .host hk)⟩

theorem trans (h : SameAnswers s t) (h' : SameAnswers t u) : SameAnswers s u := ⟨h'.answers.trans h.answers⟩

theorem foldl {α : Type} {f : State → α → State} (hf : ∀ s a, SameAnswers s (f s a)) (l : List α) (s : State) : SameAnswers s (l.foldl f s) := by
  induction l generalizing s with
  | nil => exact refl s
  | cons a l ih => exact (hf s a).trans (ih _)

end SameAnswers

/-! ### The end of a request -/

theorem State.irq_answers (s : State) (fn v : Nat) : SameAnswers s (s.irq fn v) := by
  unfold State.irq State.updHost
  constructor
  rw [State.putHost_host]
  split <;> rfl

theorem State.admPost_answers (s : State) (client request status opcode slot : Nat) :
    SameAnswers s (s.admPost client request status opcode slot) := by
  unfold State.admPost
  extract_lets size t bs
  split
  · exact .of_eff (State.raise_eff ..) (by decide)
  · refine SameAnswers.trans ?_ (State.irq_answers ..)
    exact ⟨rfl⟩

theorem State.admSettle_answers (s : State) (c : Nat) : SameAnswers s (s.admSettle c) := by
  unfold State.admSettle
  split
  · exact .refl s
  · split
    · exact .refl s
    · refine SameAnswers.trans ?_ (State.admPost_answers ..)
      exact ⟨rfl⟩

theorem State.dropReq_answers (s : State) (k : ReqKey) : SameAnswers s (s.dropReq k) := by
  unfold State.dropReq
  refine SameAnswers.trans ?_ (State.admSettle_answers ..)
  split <;> exact ⟨rfl⟩

theorem State.forgetWork_answers (s : State) (k : ReqKey) : SameAnswers s (s.forgetWork k) := by
  unfold State.forgetWork
  extract_lets u v
  have hu : Eff 671088648 (s.closeStreams k) u := State.freePins_eff ..
  have hv : Eff 1099513725448 u v := Eff.foldl (fun s (e : Nat × Table) => State.discardCommit_eff s e.1) (Eff.refl _ u)
  obtain ⟨x, hx⟩ := s.closeStreams_texts k
  have hhost : v.host = { s.host with texts := x } := (hv.same .host rfl).trans ((hu.same .host rfl).trans hx)
  clear_value v
  have hanswers := congrArg HostIf.answers hhost
  exact ⟨hanswers⟩

theorem State.writeAddr_answers {s t : State} {c a : Nat} {bs : List Byte} {poison : Bool} (h : s.writeAddr c a bs poison = some t) :
    SameAnswers s t := by
  have hcharge : ∀ (x : State) (f : Acct → Acct), (x.charge c f).host = x.host := fun x f => x.charge_host c f
  have hwrite : ∀ (x : State) (a : Nat), (x.writeDevP a bs poison).host = x.host := fun x a => (State.writeDevP_eff x a bs poison).same .host rfl
  unfold State.writeAddr at h
  repeat' split at h
  all_goals simp only [Option.some.injEq, reduceCtorEq] at h
  all_goals
    subst h
    exact ⟨by simp [hcharge, hwrite]⟩

theorem State.lastRecord_answers (s : State) (k : ReqKey) (r : Req) (st : Nat) : SameAnswers s (s.lastRecord k r st) := by
  unfold State.lastRecord
  split
  · exact .refl s
  · split
    · exact .refl s
    · split
      · rename_i hwrite
        exact (State.writeAddr_answers hwrite).trans ⟨rfl⟩
      · exact .of_eff (State.raise_eff ..) (by decide)

/-- A request that ends, however it does, answers no access of the host. -/
theorem State.endReq_answers (s : State) (k : ReqKey) (st n d : Nat) : SameAnswers s (s.endReq k st n d) := by
  unfold State.endReq
  split
  · exact .refl s
  · split
    · exact .refl s
    · extract_lets u v bytes w x y
      have hu : SameAnswers s u := by
        unfold u
        split
        · exact State.lastRecord_answers ..
        · exact .refl s
      have hv : SameAnswers u v := by
        unfold v
        split
        · exact .of_eff (State.chargePause_eff ..) (by decide)
        · exact .refl u
      have hw : SameAnswers v w := SameAnswers.trans (.of_eff (State.endColls_eff ..) (by decide)) (State.forgetWork_answers ..)
      have hx : SameAnswers w x := by
        unfold x
        split
        · exact .of_eff (State.endRemote_eff ..) (by decide)
        · exact .of_eff (State.charge_eff ..) (by decide)
      have hy : SameAnswers x y := by
        unfold y
        split
        · exact .of_eff (State.incSat_eff ..) (by decide)
        · exact .refl x
      refine ((((hu.trans hv).trans hw).trans hx).trans hy).trans ?_
      split
      · exact State.dropReq_answers ..
      · unfold State.produce
        split <;> exact ⟨rfl⟩

/-! ### The reset of a partition, and the reads that lead to it -/

theorem State.resetPartition_answers (s : State) (p cause : Nat) : SameAnswers s (s.resetPartition p cause) := by
  unfold State.resetPartition
  split
  · exact .refl s
  · split
    · split
      · exact ⟨rfl⟩
      · exact .refl s
    · extract_lets a b c d e f g h i health j k x l m
      have h0 : SameAnswers s d := ⟨rfl⟩
      have h1 : SameAnswers d e := .of_eff (State.raise_eff ..) (by decide)
      have h2 : SameAnswers e f := SameAnswers.foldl (fun s r => by
        refine SameAnswers.trans ?_ (State.endReq_answers ..)
        split
        · exact .of_eff (State.genDetail_eff ..) (by decide)
        · exact .refl s) _ _
      have h3 : SameAnswers f g := SameAnswers.foldl (fun _ _ => .of_eff (State.setCluster_eff ..) (by decide)) _ _
      have h4 : SameAnswers g h := .of_eff (State.resetStreams_eff ..) (by decide)
      have h5 : SameAnswers h i := .of_eff (State.clearPartition_eff ..) (by decide)
      have h6 : SameAnswers i k := ⟨rfl⟩
      have h7 : SameAnswers k l := SameAnswers.foldl (fun _ _ => .of_eff (State.wr_eff ..) (by decide)) _ _
      have h8 : SameAnswers l m := .of_eff (State.endUse_eff ..) (by decide)
      exact (((((((h0.trans h1).trans h2).trans h3).trans h4).trans h5).trans h6).trans h7).trans (h8.trans ⟨rfl⟩)

theorem State.uncorrectable_answers (s : State) (w master : Nat) : SameAnswers s (s.uncorrectable w master) := by
  unfold State.uncorrectable
  extract_lets c u v
  have heff : Eff 264 s v := (State.raise_eff ..).step rfl ((State.inc_eff ..).mono rfl)
  have hv : SameAnswers s v := .of_eff heff (by decide)
  clear_value v
  split
  · exact hv
  · split
    · refine hv.trans (SameAnswers.trans ?_ (State.resetPartition_answers ..))
      exact ⟨rfl⟩
    · exact hv.trans (.of_eff (State.poisonWordAt_eff ..) (by decide))

theorem State.readCtl_answers (s : State) (w master : Nat) (noise : List (List (Nat × Byte))) : SameAnswers s (s.readCtl w master noise).1 := by
  have htouch : SameAnswers s (s.touchChan (wordChan w)) := ⟨rfl⟩
  unfold State.readCtl
  extract_lets c u n
  split
  · exact htouch
  · exact htouch.trans (.of_eff (State.corrected_eff ..) (by decide))
  · exact htouch.trans (.of_eff (State.inc_eff ..) (by decide))
  · have hreread : SameAnswers s ((u.startDetect w).rereads w [n 1, n 2, n 3] master).1 :=
      (htouch.trans (.of_eff (State.startDetect_eff ..) (by decide))).trans (.of_eff (State.rereads_eff ..) (by decide))
    generalize (u.startDetect w).rereads w [n 1, n 2, n 3] master = r at hreread
    split
    · exact hreread.trans (State.uncorrectable_answers ..)
    · exact hreread

theorem State.readUnit_answers (s : State) (a n master : Nat) : SameAnswers s (s.readUnit a n master).1 := by
  have hfold : ∀ (l : List Nat) (x : State × List Byte × Nat), SameAnswers x.1 (l.foldl (fun (x : State × List Byte × Nat) w =>
      let y := x.1.readCtl w master []
      (y.1, x.2.1 ++ y.2.bytes.1, Nat.max x.2.2 y.2.rank)) x).1 := fun l => by
    induction l with
    | nil => exact fun x => .refl x.1
    | cons w l ih =>
      intro x
      rw [List.foldl_cons]
      exact SameAnswers.trans (x.1.readCtl_answers w master []) (ih (_, _))
  exact hfold (s.devWords a n) (s, [], 0)

/-! ### Accesses -/

/-- An answer of BAR4, after what its read has changed. -/
theorem State.cfgAnswer_answers {s u : State} (h : SameAnswers s u) (a : BarAnswer) : (u.cfgAnswer a).host.answers = s.host.answers ++ [a] :=
  congrArg (· ++ [a]) h.answers

section
variable {s : State} {o : Nat}

theorem State.bar4Read_outside {n : Nat} (h : s.outsideBar4 o n = true) : s.bar4Read o n = s.cfgAnswer .unsupported := by
  rw [State.bar4Read, h, if_pos rfl]

theorem State.bar4Read_refused {n : Nat} (h : s.outsideBar4 o n = false) (hwin : s.windowOk (s.windowAddr o) n = false) :
    s.bar4Read o n = (s.badAccess 0 1).cfgAnswer .completerAbort := by
  simp [State.bar4Read, h, hwin]

theorem State.bar4Read_unit {n : Nat} (h : s.outsideBar4 o n = false) (hwin : s.windowOk (s.windowAddr o) n = true) :
    s.bar4Read o n = (s.readUnit (s.windowAddr o) n hubMaster).1.cfgAnswer
      (if (s.readUnit (s.windowAddr o) n hubMaster).2.2 = 0 then .data (s.readUnit (s.windowAddr o) n hubMaster).2.1
        else .poisonedData (s.readUnit (s.windowAddr o) n hubMaster).2.1) := by
  simp [State.bar4Read, h, hwin]

/-- No partition's granule is at an address that is not backed. -/
theorem State.windowOk_unbacked {a : Nat} (h : s.backed a = false) (n : Nat) : s.windowOk a n = false := by
  simp [State.windowOk, h]

theorem State.badAccess_counted (hw : Registers.wf s.regs = true) (hlt : s.rd R.hstErrcntBadAccess 0 + 1 < 2 ^ 32) (m x : Nat) :
    (s.badAccess m x).rd R.hstErrcntBadAccess 0 = s.rd R.hstErrcntBadAccess 0 + 1 := by
  have hregs : (s.badAccess m x).regs = (s.inc R.hstErrcntBadAccess 0 1).regs := (State.raise_eff ..).same .regs rfl
  rw [State.rd_congr hregs]
  exact (State.rd_wr_same hw _ _ _ (by decide)).trans (Nat.mod_eq_of_lt hlt)

/-- The one word that a whole word's bytes lie in is poisoned. -/
theorem writePoison_word (cells : List Host.Cell) (word : Nat → Nat) {a : Nat} (ha : a % 16 = 0) :
    writePoison cells word a 16 = putWord cells (word a) poisonWord := by
  have hwords : (a + 16 + 15) / 16 - a / 16 = 1 := by omega
  have haddr : 16 * (a / 16 + 0) = a := by omega
  rw [writePoison, hwords, List.range_one, List.foldl_cons, List.foldl_nil, haddr]

/-- What a write of a whole word stores. -/
def bar4Word (bs : List Byte) (ep : Bool) : List Byte := if ep then poisonWord else encodeWord bs

theorem bar4Word_length {bs : List Byte} (h : bs.length = 16) (ep : Bool) : (bar4Word bs ep).length = 18 := by
  cases ep
  · exact (encodeWord_length ..).trans (by rw [h])
  · rfl

theorem State.writeDevP_word {bs : List Byte} (hbs : bs.length = 16) {a : Nat} (ha : a % 16 = 0) (ep : Bool) :
    (s.writeDevP a bs ep).mem.cells = putWord s.mem.cells (s.devWord a) (bar4Word bs ep) := by
  cases ep
  · exact writeBytes_word _ _ _ ha hbs
  · have hword := writePoison_word s.mem.cells s.devWord ha
    rw [← hbs] at hword
    exact hword

/-- A write of a whole word reads none, and reports the poison that it creates. -/
theorem State.bar4Write_word {bs : List Byte} (hbs : bs.length = 16) (ha : s.windowAddr o % 16 = 0) (h : s.outsideBar4 o 16 = false)
    (hwin : s.windowOk (s.windowAddr o) 16 = true) (ep : Bool) : s.bar4Write o bs ep =
      (if ep then s.raise 0x043 (hubSite 5 14) 0 (s.windowAddr o) 2 0 else s).writeDevP (s.windowAddr o) bs ep := by
  have hend : (s.windowAddr o + 16) % 16 = 0 := by omega
  have hedges : s.edgeDev (s.windowAddr o) 16 = [] := by simp [State.edgeDev, ha]
  have hmerge : s.mergesPoison (s.windowAddr o) 16 = false := by simp [State.mergesPoison, ha]
  simp [State.bar4Write, hbs, h, hwin, hedges, hmerge]

end

theorem State.accRecord_ne_nil (s : State) (c : Nat) : s.accRecord c ≠ [] := by
  have hclient : leBytes 2 c ≠ [] := List.length_pos_iff.1 (by rw [leBytes_length]; decide)
  simp [State.accRecord, hclient]

theorem State.accountRead_eq {s : State} {c q : Nat} {r : Req} (h : s.Holds (c, q) 0x30 r) :
    s.accountRead (c, q) = (s.putOut (c, q) 0 (s.accRecord (r.inl 0 2 % 4096))).endReq (c, q) stOk 256 0 := by
  obtain ⟨hq, hop, he, -⟩ := h
  simp [State.accountRead, hq, hop, he]

end Sys2Proof.Machine

open Sys2Proof.Machine

/-- Settles O18: a read's answer is what its words give, whatever they reset, and a whole word is written as it comes. -/
theorem windowCommandsComplete : Obligations.WindowCommandsComplete := by
  unfold Obligations.WindowCommandsComplete
  refine ⟨fun s o n h => Answers.of (exec_bar4Read o n s) (State.bar4Read_outside h) ⟨rfl, rfl, rfl, rfl⟩,
    fun s o bs ep h => Answers.of (exec_bar4Write o bs ep s) (if_pos h) rfl,
    fun s o n h hwin => Answers.of (exec_bar4Read o n s) (State.bar4Read_unit h hwin) ⟨State.cfgAnswer_answers (State.readUnit_answers ..) _,
      fun hrank => (State.readUnit_word_eff hrank).same .cells rfl⟩,
    fun s o n hw h hbacked hlt => Answers.of (exec_bar4Read o n s) (State.bar4Read_refused h (State.windowOk_unbacked hbacked n)) ?refused,
    fun s o bs ep hwf hbs ha h hwin => Answers.of (exec_bar4Write o bs ep s) (State.bar4Write_word hbs ha h hwin ep) ?write,
    fun s c q r h hdev hats => Answers.of (exec_opAccountRead c q s) (State.accountRead_eq h) ?account⟩
  case refused =>
    have heff := State.badAccess_eff s 0 1
    exact ⟨State.cfgAnswer_answers (.of_eff heff (by decide)) _, State.badAccess_counted hw hlt 0 1, heff.mem rfl rfl⟩
  case write =>
    have heff : Eff 256 s (if ep then s.raise 0x043 (hubSite 5 14) 0 (s.windowAddr o) 2 0 else s) := by
      split
      · exact State.raise_eff ..
      · exact Eff.refl ..
    generalize (if ep then s.raise 0x043 (hubSite 5 14) 0 (s.windowAddr o) 2 0 else s) = u at heff
    have hwrite := State.writeDevP_eff u (s.windowAddr o) bs ep
    have hregs : u.regs = s.regs := heff.same .regs rfl
    have hdev : u.devWord (s.windowAddr o) = s.devWord (s.windowAddr o) :=
      PortRegs.devWord (fun k _ => by rw [State.reg, State.reg, hregs]) (s.windowAddr o)
    have hcells := State.writeDevP_word (s := u) hbs ha ep
    rw [hdev, show u.mem.cells = s.mem.cells from heff.same .cells rfl] at hcells
    rw [hcells]
    exact ⟨wordAt_putWord_same _ _ hwf (bar4Word_length hbs ep), fun w hw => wordAt_putWord_ne _ hwf (bar4Word_length hbs ep) hw,
      (hwrite.same .host rfl).trans (heff.same .host rfl), (hwrite.same .regs rfl).trans hregs⟩
  case account =>
    obtain ⟨hends, hdma, -⟩ := State.putOut_endReq h hdev hats (s.accRecord_ne_nil _) (show stOk < 16 by decide) 256 0
    have hend := State.endReq_eff (s.putOut (c, q) 0 (s.accRecord (r.inl 0 2 % 4096))) (c, q) stOk 256 0
    have hput := State.putOut_host_eff h hdev hats (s.accRecord_ne_nil (r.inl 0 2 % 4096))
    exact ⟨hends, hdma, (hend.same .flash rfl).trans (hput.same .flash rfl), (hend.same .sec rfl).trans (hput.same .sec rfl)⟩

end

section
/-! The flash tier's read-disturb scan (R238) on registers that are not in canonical form. -/

namespace Sys2Proof.Machine

theorem exec_readDisturbScan (b worst : Nat) (s : State) : exec (.readDisturbScan b worst) s = .next (s.disturbScan b worst) := rfl

/-- Registers out of order: the counter of channel 0's reads, 288 short of its wrap, stands before FLS_CFG with a margin of 1, which no read finds. -/
def scanRegs : Sparse Reg64 := [(R.flsChstatReads.off, BitVec.ofNat 64 ((2 ^ 32 - 288) * 2 ^ 32)), (R.flsCfgRdMargin.off, BitVec.ofNat 64 (2 ^ 24))]

/-- A module after reset but for these registers. -/
def scanState : State := { State.reset with regs := scanRegs }

/-- Its margin reads as 0, and it has maintenance to do. -/
theorem scanState_due : 1000 * scanState.rd R.flsCfgRdScan 0 ≤ sget 0 scanState.flash.reads 0 ∧ scanState.rd R.flsCfgRdMargin 0 = 0 ∧
    scanState.maintTurn 0 1 = true := by decide

/-- The scan of block 0 counts the reads, which takes the counter's entry out; then the margin is found. -/
theorem scanState_queuesNothing : (scanState.disturbScan 0 1).flash.relocate = [] := by decide

end Sys2Proof.Machine

open Sys2Proof.Machine

/-- Refutes O41: its clause on a worst sector beyond the margin takes any registers. In `scanState`, whose registers are out of order, the margin reads as
0 before the scan and as 1 once the scan has counted its reads, so that a worst sector of 1 queues no block. -/
theorem not_flashCommandsComplete : ¬ Obligations.FlashCommandsComplete := by
  unfold Obligations.FlashCommandsComplete
  rintro ⟨-, -, -, -, -, -, -, -, hscan, -⟩
  obtain ⟨hreads, hmargin, hturn⟩ := scanState_due
  obtain ⟨t, hexec, hqueued, -⟩ := hscan scanState 0 1 hreads (by rw [hmargin]; decide) hturn
  rw [exec_readDisturbScan, Host.Outcome.next.injEq] at hexec
  rw [← hexec, scanState_queuesNothing] at hqueued
  exact List.not_mem_nil hqueued

end
